-- ==== Sys2Proof/Word.lean ====
section
/-! DEFINITION. The words of the model: 32-bit registers and bytes (R3, R4, R594). -/

namespace Sys2Proof

/-- A register, or a 4-byte word of a packet (R594). -/
abbrev Word := BitVec 32

/-- A byte of a structure, a frame or a memory. -/
abbrev Byte := BitVec 8

end Sys2Proof
end

