-- ==== Sys2Proof/Syntax.lean ====
section
/-! DEFINITION. The commands of the block: one constructor of Instr for each row of spec/opcode_table.json, with the
operands the row needs. The table gives no row any bits or fields, so the operands are the model's (log 1): what names
the instance, and every value that comes from outside the device or that the spec leaves open. -/

namespace Sys2Proof.Machine

/-- A command packet (Table 20-3) on the ring of one function; LENGTH is the number of payload words, OPCODE is the
row's. -/
structure Pkt where
  func : Fin 6
  version : Byte
  flags : Byte
  seq : BitVec 16
  target : Word
  cookie : Word
  payload : List Word
  deriving DecidableEq, Repr

/-- A PSync at a place where the tracker looks (R77 to R84): pos is its first bit after the latest tick edge in 1/256 TICK
cycle (R37), raw the raw count there, diff the PSync bits that differ, sfc the counter of the SFC structure and hecOk
its check, ocOk the check of the OC or PON-ID structure, psbd that structure. -/
structure PSync where
  pos : Nat
  raw : Nat
  diff : Nat
  sfc : Nat
  hecOk : Bool
  ocOk : Bool
  psbd : Nat
  deriving DecidableEq, Repr

/-- One PON_RX cycle of the equaliser (R68): err is err[0..63], x the samples x[main - 30] to x[main + 63], dec the
decisions dec[-1] to dec[62]. -/
structure EqCycle where
  err : List Int
  x : List Int
  dec : List Int
  deriving DecidableEq, Repr

/-- A downstream PLOAM message as it comes out of its partition (R112 to R114, R117): channel, the ONU-ID it is addressed
to (none: broadcast), sequence number, whether a byte of it stands in a bad codeword (partBad: a byte of its partition,
R125), whether its MIC fails under the key that the standard prescribes for it, its 48 bytes, superframe counter of its
frame. -/
structure Ploam where
  ch : Fin 4
  onu : Option Nat
  seq : Byte
  bad : Bool
  partBad : Bool
  micFail : Bool
  raw : List Byte
  sfc : Nat
  deriving DecidableEq, Repr

/-- A burst profile (R115): index 0-3, upstream rate in kbit/s, PSBu bits, upstream FEC. -/
structure Profile where
  index : Fin 4
  rateKbps : Nat
  psbu : Nat
  fec : Bool
  deriving DecidableEq, Repr

/-- An allocation structure of a BWmap (R141 to R144). kind: 0 a data grant, 1 a serial number grant, 2 a ranging grant;
start and size are in bytes at the burst's line rate, converted at the granularity of the mode; cont marks a grant that
the continuation rule places in the burst before it. -/
structure Grant where
  kind : Fin 3
  alloc : Nat
  start : Nat
  size : Nat
  profile : Nat
  dbru : Bool
  ploamu : Bool
  cont : Bool
  deriving DecidableEq, Repr

/-- A downstream XGEM frame (R126 to R129): hecOk its header check after correction, idle an idle frame, port its port-ID,
key its key index and bcast whether that names a broadcast key, last its last-fragment flag, bad whether a byte of it
stands in a bad codeword, data its payload as received, at_ its place among the frame's XGEM frames. -/
structure Xgem where
  hecOk : Bool
  idle : Bool
  port : Nat
  key : Nat
  bcast : Bool
  last : Bool
  bad : Bool
  at_ : Nat
  data : List Byte
  deriving DecidableEq, Repr


/-- What the records of the board table copy that a start uses say (R582, Table 21-5); the spec gives the records' contents, not
their layouts. ddr: DDR4 configuration (highest rate, coded as MEM_DDR_CFG.RATE; x8; 16 Gbit; two ranks), none where Table 18-3
lacks it; chans: channels with a PON channel record; macs: Ethernet MACs with a record; writes: register values to load; ponSets:
LANE_TXFIR of the PON serialisers, by channel, mode (true: XGS-PON) and rate set; pools:
pool counts; rails, louts: regulators; subsys: PCIe subsystem IDs; pref: preferred reference input. -/
structure Board where
  ddr : Option (Nat × Bool × Bool × Bool) := some (3, false, true, false)
  chans : Nat := 0
  macs : Nat := 0
  writes : List (Nat × Word) := []
  ponSets : List (Fin 4 × Bool × Fin 3 × Word) := []
  pools : Option (List Nat) := none
  rails : Nat := 0
  louts : Nat := 0
  subsys : Nat × Nat := (0, 0)
  pref : Nat := 0
  deriving DecidableEq, Repr

/-- What a start step meets outside the model's state (Table 21-6): milliseconds since S1 began; S2: the CRC of the journal in
always-on SRAM is good; failures: the cause (Table 21-7); S5: the records of the copy read; S9: engines whose self-test failed;
S10: mask of channels whose optic answered. -/
structure StartInfo where
  ms : Nat
  aonOk : Bool
  cause : Fin 4
  board : Board
  engines : List Nat
  optics : Nat
  deriving DecidableEq, Repr
end Sys2Proof.Machine

namespace Sys2Proof

open Machine

/-- The commands. -/
inductive Instr where
  /-- EVENT_GRANT: The event arbiter grants the next pending event, at least 4 CTL cycles after the previous grant, and stamps its sequence number and tick. (R23) -/
  | eventGrant (cycle : Nat)
  /-- EVENT_RING_WRITE: The device moves a granted event record from the function's store to its event ring once EVT_EN is 1 and the ring has room. (R568) -/
  | eventRingWrite (f : Fin 6)
  /-- TICK_EDGE: Every 3,240 TICK cycles the tick counter and the TIF, TIC and CYCLE indices advance together. (R32) -/
  | tickEdge
  /-- PON_FRAME_BOUNDARY: TIF wraps to 0, marking a PON-frame boundary. (R33) -/
  | ponFrameBoundary
  /-- VECTOR_CYCLE_BOUNDARY: TIC wraps to 0, marking a vector-cycle boundary at which plans, grades, clocks and boundary-timed changes take effect; pkt is the PKT cycle in which it reaches the PKT domain. (R33, R20) -/
  | vectorCycleBoundary (pkt : Nat)
  /-- SUPERFRAME_BOUNDARY: CYCLE wraps to 0 at a vector-cycle boundary, marking a superframe boundary. (R33) -/
  | superframeBoundary
  /-- HOLDOVER_LONG: After 10 s in HOLDOVER the generator sets TICK_STATUS.HOLDOVER_LONG and raises the holdover-long event. (R47) -/
  | holdoverLong
  /-- TICK_MASTER: Host software commands a new timing master channel, which is tested at once and again at the next vector-cycle boundary. (R52) -/
  | tickMaster (p : Pkt)
  /-- TICK_REALIGN: A realign command puts the generator into ACQUIRE on its master and clears DISPLACE, when no vector group runs. (R54) -/
  | tickRealign (p : Pkt)
  /-- TICK_OFFSET_WRITE: A write of TICK_OFFSET.OFFSET stores a new phase offset for the next vector-cycle boundary. (R53) -/
  | tickOffsetWrite (v : Word)
  /-- TICK_CFG: Time-group command that writes the tick generator configuration registers. (R58) -/
  | tickCfg (p : Pkt)
  /-- TIME_CFG: Time-group command that writes timebase configuration registers from a register offset. (R479) -/
  | timeCfg (p : Pkt)
  /-- TICK_COUNT_LO_READ: A read of TICK_COUNT_LO latches TICK_COUNT_HI and TICK_INDEX at the same tick. (R59) -/
  | tickCountLoRead (f : Fin 6)
  /-- PON_RX_ENABLE: Setting PON_RX_CFG.ENABLE takes the channel from OFF to HUNT and starts equaliser acquisition. (R70) -/
  | ponRxEnable (c : Fin 4)
  /-- PON_RX_DISABLE: Clearing PON_RX_CFG.ENABLE puts the sync state machine into OFF, a loss of downstream sync, and moves activation to O1.1. (R64) -/
  | ponRxDisable (c : Fin 4) (mid : Bool)
  /-- LOS_ASSERT: The peak amplitude stays below LOS_THR for 1 µs, so LOS asserts, CDR_LOCK clears and the channel enters HUNT. (R66) -/
  | losAssert (c : Fin 4) (peak : Byte) (mid : Bool) (cycles : List EqCycle)
  /-- LOS_CLEAR: The amplitude stays at or above LOS_THR + 2 for 10 µs, so LOS clears. (R66) -/
  | losClear (c : Fin 4) (peak : Byte)
  /-- CDR_LOCK: Timing recovery locks after LOS clears, setting CDR_LOCK and starting the hunt for PSync. (R67) -/
  | cdrLock (c : Fin 4)
  /-- EQ_RESET: A 1 written to PON_EQ_CTL.RESET loads the initial tap set and begins acquisition, or holds it while FREEZE is 1. (R70) -/
  | eqReset (c : Fin 4)
  /-- EQ_ACQUISITION_END: ACQ_TIME µs after acquisition began, the equaliser step changes to the tracking step. (R70) -/
  | eqAcquisitionEnd (c : Fin 4) (cycles : List EqCycle)
  /-- EQ_DIVERGENCE_RESET: MSE ÷ 64 exceeds DIV_THR at two consecutive 125 µs periods in HUNT or PRESYNC, so the guard resets the equaliser. (R72) -/
  | eqDivergenceReset (c : Fin 4) (mse1 : BitVec 16) (mse2 : BitVec 16)
  /-- EQ_SNAP: A 1 written to PON_EQ_CTL.SNAP latches all 32 taps and MSE from one PON_RX cycle. (R74) -/
  | eqSnap (c : Fin 4) (cycles : List EqCycle) (mse : BitVec 16)
  /-- EQ_TAP_WRITE: A write to PON_EQ_TAP changes the live and latched tap only while FREEZE is 1. (R73) -/
  | eqTapWrite (c : Fin 4) (k : Fin 32) (v : BitVec 12)
  /-- PSYNC_MATCH: In HUNT or PRESYNC a PSync match creates a candidate with its position and SFC structure, or counts CAND_FULL. (R78) -/
  | psyncMatch (c : Fin 4) (at_ : Nat) (p : PSync)
  /-- CANDIDATE_CHECK: At a candidate's expected position one PHY frame later, the tracker kills, confirms or replaces it. (R79) -/
  | candidateCheck (c : Fin 4) (at_ : Nat) (p : PSync) (us : Nat)
  /-- PSYNC_CHECK: In SYNC or RESYNC the PSync at the expected position is judged correct or missing, driving SYNC, RESYNC or HUNT and reporting the frame start. (R82) -/
  | psyncCheck (c : Fin 4) (p : PSync) (mid : Bool)
  /-- FEC_CODEWORD: The FEC decoder decodes one codeword in Sync, counts it and passes it to the TC deframer, marked bad when uncorrectable. (R86) -/
  | fecCodeword (c : Fin 4) (found : Option Nat) (changed : Nat)
  /-- FEC_ES_INTERVAL: At each 48,000-tick interval end FEC_ES counts the interval if it held an uncorrectable codeword. (R88) -/
  | fecEsInterval (c : Fin 4)
  /-- PON_STAT_SNAP: A 1 written to PON_STAT_CTL.SNAP copies the channel's receive, TC and upstream counts into the demand banks. (R90) -/
  | ponStatSnap (c : Fin 4)
  /-- PON_STAT_INTERVAL_COPY: At each tick count multiple of PERIOD × 48,000 the channel copies its live counts into the interval banks. (R90) -/
  | ponStatIntervalCopy (c : Fin 4)
  /-- WATCHFUL_RX_WAKE: In watchful sleep the receiver powers up 500 µs before the end of each low-power interval and hunts for sync. (R136) -/
  | watchfulRxWake (c : Fin 4)
  /-- COUNTER_LO_READ: A read of the _LO half of a 64-bit counter latches its _HI half in the reading function's latch until the next _LO read. (R595) -/
  | counterLoRead (f : Fin 6) (off : Nat)
  /-- PON_SFC_LO_READ: A read of PON_SFC_LO latches the upper superframe counter bits in PON_SFC_HI. (R97) -/
  | ponSfcLoRead (f : Fin 6) (c : Fin 4)
  /-- BURST_PROFILE: A received Burst_Profile PLOAM message stores the profile and updates PROFILES. (R115) -/
  | burstProfile (m : Ploam) (p : Profile)
  /-- ASSIGN_ONU_ID: A received Assign_ONU-ID whose serial number matches assigns the ONU-ID and moves O2-3 to O4. (R115) -/
  | assignOnuId (m : Ploam) (sn : BitVec 64) (id : BitVec 10)
  /-- RANGING_TIME: A received Ranging_Time sets the equalisation delay for later BWmaps and moves O4 to O5. (R108) -/
  | rangingTime (m : Ploam) (relative : Bool) (v : Int)
  /-- DEACTIVATE_ONU_ID: A received Deactivate_ONU-ID stops bursts, discards identity and keys, enters O1.1 and may set ACT_HOLD. (R119) -/
  | deactivateOnuId (m : Ploam)
  /-- DISABLE_SERIAL_NUMBER: A received Disable_Serial_Number with the disable option asserts TX_DIS and enters O7. (R110) -/
  | disableSerialNumber (m : Ploam) (sn : BitVec 64)
  /-- ENABLE_SERIAL_NUMBER: A received Disable_Serial_Number with the enable option takes the channel out of O7 to O1.1 or O1.2. (R111) -/
  | enableSerialNumber (m : Ploam) (sn : BitVec 64)
  /-- REQUEST_REGISTRATION: A received Request_Registration makes firmware send Registration with the host-set registration ID. (R102) -/
  | requestRegistration (m : Ploam)
  /-- ASSIGN_ALLOC_ID: A received Assign_Alloc-ID assigns an allocation context entry or refuses it beyond 64 Alloc-IDs; deallocation is always accepted. (R122) -/
  | assignAllocId (m : Ploam) (alloc : BitVec 14) (dealloc : Bool)
  /-- KEY_CONTROL: A received Key_Control makes firmware draw a new data key, load it and return it in Key_Report. (R131) -/
  | keyControl (m : Ploam) (idx : Fin 2) (key : BitVec 128)
  /-- SLEEP_ALLOW: A received Sleep_Allow lets the channel request a LULL mode that host policy permits with Sleep_Request. (R134) -/
  | sleepAllow (m : Ploam) (on : Bool)
  /-- PLOAM_UNSUPPORTED: A PLOAM message of a type not executed is counted in PLOAM_UNSUP and answered Unknown message type where required. (R115) -/
  | ploamUnsupported (m : Ploam) (answer : Bool)
  /-- TO1_EXPIRY: TO1 seconds after entry into O2-3 without reaching O5, the channel returns to O1.1. (R105) -/
  | to1Expiry (c : Fin 4)
  /-- TO2_EXPIRY: TO2 milliseconds after entry into O6, the channel goes to O1.1 and discards its ONU-ID. (R105) -/
  | to2Expiry (c : Fin 4)
  /-- SN_RESPONSE_SEND: After its random delay the channel answers a serial number grant at the ONU response time. (R106) -/
  | snResponseSend (c : Fin 4) (delay : Nat)
  /-- RANGING_RESPONSE_SEND: The channel answers a ranging grant at the ONU response time plus its random delay. (R107) -/
  | rangingResponseSend (c : Fin 4)
  /-- ACT_HOLD_CLEAR: Clearing PON_TC_CFG.ACT_HOLD lets a deactivated channel leave O1.2 and re-activate. (R120) -/
  | actHoldClear (c : Fin 4)
  /-- XGEM_FRAME: The TC deframer delineates, filters, decrypts and reassembles one downstream XGEM frame. (R129) -/
  | xgemFrame (c : Fin 4) (x : Xgem) (lost : List (Nat × Bool))
  /-- FORCED_WAKEUP: A forced wake-up indication from the head end wakes a channel from LULL. (R137) -/
  | forcedWakeup (c : Fin 4)
  /-- TX_POWER_UP: The transmitter of a waking channel becomes powered within 100 µs and answers later grants. (R146) -/
  | txPowerUp (c : Fin 4)
  /-- PON_CFG: PON-group command that writes receive, sync, equaliser, FEC, statistics and TC registers of a channel. (R97) -/
  | ponCfg (p : Pkt)
  /-- PON_REG_ID: PON-group command that sets the 36-byte registration ID of a channel. (R102) -/
  | ponRegId (p : Pkt)
  /-- PON_MSK: PON-group command that sets the master session key, effective at the next PON-frame boundary. (R130) -/
  | ponMsk (p : Pkt)
  /-- PON_PORT_ADD: PON-group command that adds an XGEM port-ID at a PON-frame boundary. (R123) -/
  | ponPortAdd (p : Pkt)
  /-- PON_PORT_REMOVE: PON-group command that removes an XGEM port-ID at a PON-frame boundary. (R124) -/
  | ponPortRemove (p : Pkt)
  /-- PON_LULL_POLICY: PON-group command that sets a channel's LULL policy. (R134) -/
  | ponLullPolicy (p : Pkt)
  /-- PON_QUEUES: PON-group command that assigns the PLOAM record queue and OMCC host queues of a channel. (R117) -/
  | ponQueues (p : Pkt)
  /-- BWMAP: The BWmap parser takes the grants of the channel from one BWmap, refusing excess, overlapping or unprofiled grants. (R141) -/
  | bwmap (c : Fin 4) (grants : List Grant) (bad : Bool) (hlBad : Bool)
  /-- BURST_BUILD: At G − 12 µs the burst builder samples occupancy, selects, encrypts and encodes the burst contents. (R149) -/
  | burstBuild (c : Fin 4) (cyc : Nat) (key : Fin 3) (bad : List Nat) (ready : Bool)
  /-- BURST_TRANSMIT: The burst transmitter drives BEN and sends PSBu, header and payload so the header leaves within one bit of G. (R147) -/
  | burstTransmit (c : Fin 4) (ends : Bool)
  /-- BOND_TAGGED_FRAME: A tagged downstream SDU on a bonded port-ID is checked and re-sequenced against NEXT. (R164) -/
  | bondTaggedFrame
  /-- RESEQ_HOLD_TIMEOUT: A held frame waits HOLD_US, so the re-sequencer declares the missing places lost and skips forward. (R165) -/
  | reseqHoldTimeout (g : Fin 4) (waited : Nat)
  /-- BOND_STATUS_RECEIVE: A downstream bond-status frame marks members out of use, goes to host software and raises the status event. (R169) -/
  | bondStatusReceive
  /-- ALLOC_CTX_LOAD: Command that loads allocation context host halves and commits assigned entries. (R572) -/
  | allocCtxLoad (p : Pkt)
  /-- ALLOC_CTX_READ: Command that returns whole allocation context entries. (R573) -/
  | allocCtxRead (p : Pkt)
  /-- BOND_CTX_LOAD: Command that loads bond group context entries, starting or ending a group. (R171) -/
  | bondCtxLoad (p : Pkt)
  /-- BOND_CTX_READ: Command that returns whole bond group context entries. (R573) -/
  | bondCtxRead (p : Pkt)
  /-- BOND_ME_CLASS: Bonding command that sets the managed entity class. (R170) -/
  | bondMeClass (p : Pkt)
  /-- BOND_QUEUE: Bonding command that names the host queue for received status frames. (R169) -/
  | bondQueue (p : Pkt)
  /-- BOND_STAT_SNAP: A 1 written to BOND_STAT_CTL.SNAP copies all groups' live counts to the demand banks. (R173) -/
  | bondStatSnap
  /-- BOND_STAT_INTERVAL_COPY: At each PERIOD interval the bonding layer copies its live counts to the interval banks. (R173) -/
  | bondStatIntervalCopy
  /-- VE_CMD_START: VE_CTL.CMD 1 starts a STOPPED engine with READY slab at instruction 0 at the next tick edge. (R202) -/
  | veCmdStart (e : Fin 96)
  /-- VE_CMD_STOP: VE_CTL.CMD 2 stops a RUNNING engine in the next VE cycle. (R202) -/
  | veCmdStop (e : Fin 96)
  /-- VE_CMD_RESET: VE_CTL.CMD 3 resets a HALTED, RETIRED or STOPPED engine to STOPPED. (R202) -/
  | veCmdReset (e : Fin 96)
  /-- ENG_CTL_START: ENG_CTL start acts as VE_CTL start. (R208) -/
  | engCtlStart (p : Pkt)
  /-- ENG_CTL_STOP: ENG_CTL stop acts as VE_CTL stop. (R208) -/
  | engCtlStop (p : Pkt)
  /-- ENG_CTL_RESET: ENG_CTL reset acts as VE_CTL reset, re-running self-test of a prescribed-retired engine. (R208) -/
  | engCtlReset (p : Pkt) (pass : Bool)
  /-- ENG_CTL_RETIRE: ENG_CTL retire acts as a retirement trigger with AUTO taken as 1 and completes at takeover. (R208) -/
  | engCtlRetire (p : Pkt)
  /-- ENG_CTL_REJOIN: ENG_CTL rejoin returns a STOPPED engine to RUNNING at a vector-cycle boundary. (R208) -/
  | engCtlRejoin (p : Pkt)
  /-- SLAB_CTL_OFF: A SLAB_CTL.MODE write of OFF removes slab power and loses its contents and overlay. (R194) -/
  | slabCtlOff (e : Fin 96)
  /-- SLAB_CTL_RETAIN: A SLAB_CTL.MODE write of RETAIN drains the overlay, writes the canary and lowers the array. (R194) -/
  | slabCtlRetain (e : Fin 96)
  /-- SLAB_CTL_ON: A SLAB_CTL.MODE write of ON zero-fills from OFF or wakes and scrubs from RETAIN. (R194) -/
  | slabCtlOn (e : Fin 96)
  /-- SLAB_MODE: Engine-and-kernel command that requests a slab mode. (R194) -/
  | slabMode (p : Pkt)
  /-- SLAB_ZERO_FILL_DONE: The slab zero-fill ends and READY is set. (R194) -/
  | slabZeroFillDone (e : Fin 96)
  /-- SLAB_WAKE_SCRUB_DONE: The wake canary check and scrub end, making the slab READY or lost. (R197) -/
  | slabWakeScrubDone (e : Fin 96)
  /-- SLAB_RELOAD_DONE: A checkpoint reload ends good, or is abandoned bad and the tone group enters estimation. (R199) -/
  | slabReloadDone (e : Fin 96)
  /-- SLAB_INDIRECT_READ: SLAB_ADDR.GO with WR 0 reads one word and its check into SLAB_DATA without decoding. (R212) -/
  | slabIndirectRead (e : Fin 96) (word : BitVec 17)
  /-- SLAB_INDIRECT_WRITE: SLAB_ADDR.GO with WR 1 writes one word from SLAB_DATA with a new check. (R212) -/
  | slabIndirectWrite (e : Fin 96) (word : BitVec 17)
  /-- SLAB_WRITE: Engine-and-kernel command that writes coefficient words into a non-running engine's READY slab. (R627) -/
  | slabWrite (p : Pkt)
  /-- SLAB_READ: Engine-and-kernel command that reads and corrects slab words through the fence overlay. (R627) -/
  | slabRead (p : Pkt)
  /-- SLAB_COPY_DONE: The copy path finishes copying a retiring engine's slab to the chosen spare. (R205) -/
  | slabCopyDone
  /-- DMA_TILE_WRITE: The tick DMA writes one incoming tile into a scratchpad buffer in a VE cycle the engine leaves the write port idle. (R187) -/
  | dmaTileWrite (g : Fin 4) (k : Fin 96) (q : Fin 16)
  /-- DMA_TILE_READ: The tick DMA reads one outgoing tile from OUT[p], or IN[p] for bypass, in an idle read-port cycle. (R188) -/
  | dmaTileRead (g : Fin 4) (k : Fin 96) (q : Fin 16)
  /-- VE_DOORBELL_RING: A 1 written to VE_DOORBELL.RING sets interrupt cause 3 in the engine. (R210) -/
  | veDoorbellRing (e : Fin 96)
  /-- APERTURE_ACCESS: A host access to an engine's instruction memory or scratchpad aperture succeeds or is refused by engine state. (R211) -/
  | apertureAccess (f : Fin 6) (e : Fin 96) (off : BitVec 16) (wr : Option Word)
  /-- KERNEL_LOAD: Engine-and-kernel command that loads kernel instructions under a handle. (R626) -/
  | kernelLoad (p : Pkt)
  /-- KERNEL_FREE: Engine-and-kernel command that frees a kernel handle no engine holds. (R626) -/
  | kernelFree (p : Pkt)
  /-- ENG_LOAD: Engine-and-kernel command that loads a kernel handle into an engine. (R626) -/
  | engLoad (p : Pkt)
  /-- ENG_SPARE: Engine-and-kernel command that designates or removes a spare engine for a group. (R204) -/
  | engSpare (p : Pkt)
  /-- ENG_RETIRE_CFG: Engine-and-kernel command that writes VE_RETIRE_CFG. (R214) -/
  | engRetireCfg (p : Pkt)
  /-- NOP: Scalar no-operation instruction. (R219) -/
  | nop (e : Fin 96)
  /-- ADD: Scalar instruction rd = ra + rb. (R219) -/
  | opAdd (e : Fin 96)
  /-- SUB: Scalar instruction rd = ra − rb. (R219) -/
  | opSub (e : Fin 96)
  /-- AND: Scalar instruction rd = ra AND rb. (R219) -/
  | opAnd (e : Fin 96)
  /-- OR: Scalar instruction rd = ra OR rb. (R219) -/
  | opOr (e : Fin 96)
  /-- XOR: Scalar instruction rd = ra XOR rb. (R219) -/
  | opXor (e : Fin 96)
  /-- SHL: Scalar left shift by rb. (R219) -/
  | shl (e : Fin 96)
  /-- SHR: Scalar logical right shift by rb. (R219) -/
  | shr (e : Fin 96)
  /-- SRA: Scalar arithmetic right shift by rb. (R219) -/
  | sra (e : Fin 96)
  /-- MIN: Scalar signed minimum. (R219) -/
  | opMin (e : Fin 96)
  /-- MAX: Scalar signed maximum. (R219) -/
  | opMax (e : Fin 96)
  /-- MUL: Scalar low 32 bits of ra × rb. (R219) -/
  | mul (e : Fin 96)
  /-- CLZ: Scalar count of leading zeros. (R219) -/
  | clz (e : Fin 96)
  /-- CMPEQ: Scalar compare equal. (R219) -/
  | cmpeq (e : Fin 96)
  /-- CMPLT: Scalar signed compare less than. (R219) -/
  | cmplt (e : Fin 96)
  /-- CMPLTU: Scalar unsigned compare less than. (R219) -/
  | cmpltu (e : Fin 96)
  /-- ADDI: Scalar add of a sign-extended immediate. (R219) -/
  | addi (e : Fin 96)
  /-- ANDI: Scalar AND with a zero-extended immediate. (R219) -/
  | andi (e : Fin 96)
  /-- ORI: Scalar OR with a zero-extended immediate. (R219) -/
  | ori (e : Fin 96)
  /-- XORI: Scalar XOR with a zero-extended immediate. (R219) -/
  | xori (e : Fin 96)
  /-- SHLI: Scalar left shift by an immediate. (R219) -/
  | shli (e : Fin 96)
  /-- SHRI: Scalar logical right shift by an immediate. (R219) -/
  | shri (e : Fin 96)
  /-- SRAI: Scalar arithmetic right shift by an immediate. (R219) -/
  | srai (e : Fin 96)
  /-- LI: Scalar load of a sign-extended immediate. (R219) -/
  | opLi (e : Fin 96)
  /-- LUI: Scalar load of an immediate × 4,096. (R219) -/
  | lui (e : Fin 96)
  /-- DSTEP: One non-restoring division step on remainder, divisor and quotient. (R222) -/
  | dstep (e : Fin 96)
  /-- LDP: Scalar pair load from the scratchpad, written two cycles later. (R220) -/
  | ldp (e : Fin 96)
  /-- STP: Scalar pair store to the scratchpad, gathered or read-modify-write. (R236) -/
  | stp (e : Fin 96)
  /-- AGW: Write of an address generator register from a scalar register. (R225) -/
  | agw (e : Fin 96)
  /-- AGR: Read of an address generator register into a scalar register. (R219) -/
  | agr (e : Fin 96)
  /-- MFS: Read of a special register into a scalar register. (R223) -/
  | mfs (e : Fin 96)
  /-- MTS: Write of a special register from a scalar register. (R223) -/
  | mts (e : Fin 96)
  /-- BEQ: Branch when equal, with two delay slots. (R221) -/
  | beq (e : Fin 96)
  /-- BNE: Branch when not equal, with two delay slots. (R221) -/
  | bne (e : Fin 96)
  /-- BLT: Branch when less, signed, with two delay slots. (R221) -/
  | blt (e : Fin 96)
  /-- BGE: Branch when greater or equal, signed, with two delay slots. (R221) -/
  | bge (e : Fin 96)
  /-- BR: Unconditional branch with two delay slots. (R221) -/
  | br (e : Fin 96)
  /-- BRI: Branch to an address in a register with two delay slots. (R221) -/
  | bri (e : Fin 96)
  /-- CALL: Branch that saves the return index in s15. (R219) -/
  | call (e : Fin 96)
  /-- REP: Repeat the next instruction n times. (R238) -/
  | opRep (e : Fin 96)
  /-- LOOP: Open a zero-overhead loop of n iterations. (R239) -/
  | opLoop (e : Fin 96)
  /-- WAITT: Withhold issue until the next tick edge or symbol boundary. (R242) -/
  | waitt (e : Fin 96)
  /-- SDONE: Symbol-done instruction marking the end of the tick's symbol. (R243) -/
  | sdone (e : Fin 96)
  /-- SDONE_COMPLETE: SDONE completes once every earlier store and flush write has been written. (R243) -/
  | sdoneComplete (e : Fin 96)
  /-- RETI: Return from interrupt to EPC, restoring IE[4], HM and the loop stack. (R247) -/
  | reti (e : Fin 96)
  /-- VNOP: Vector no-operation. (R232) -/
  | vnop (e : Fin 96)
  /-- VMAC: Multiply-accumulate of the C-bus word and an XH sample into bank B. (R228) -/
  | vmac (e : Fin 96)
  /-- VMACS: Snap a bank, then start it with a new product. (R232) -/
  | vmacs (e : Fin 96)
  /-- VCORR: Accumulate sign-error correlation of E with a conjugated sample. (R232) -/
  | vcorr (e : Fin 96)
  /-- VLDE: Load two E lanes from XH and advance ELANE. (R232) -/
  | vlde (e : Fin 96)
  /-- VCUPD: Coefficient update from a bank, written to the slab two cycles after issue. (R234) -/
  | vcupd (e : Fin 96)
  /-- VSNAP: Snap one or both banks into the ORF, optionally clearing them. (R230) -/
  | vsnap (e : Fin 96)
  /-- VCLR: Clear one or both accumulator banks. (R231) -/
  | vclr (e : Fin 96)
  /-- ACC: Generator operation that accesses at BASE + PTR without update. (R225) -/
  | acc (e : Fin 96) (g : Fin 3)
  /-- ACC_ADV: Generator operation acc+ that accesses and then advances PTR. (R225) -/
  | accAdv (e : Fin 96) (g : Fin 3)
  /-- ACC_T: Generator operation acc.t that accesses, tone-steps and zeroes PTR. (R225) -/
  | accT (e : Fin 96) (g : Fin 3)
  /-- ACC_0: Generator operation acc.0 that accesses and zeroes PTR. (R225) -/
  | acc0 (e : Fin 96) (g : Fin 3)
  /-- ADV: Generator operation that advances PTR without access. (R225) -/
  | adv (e : Fin 96) (g : Fin 3)
  /-- TSTEP: Generator operation that tone-steps and zeroes PTR without access. (R225) -/
  | tstep (e : Fin 96) (g : Fin 3)
  /-- RST: Generator operation that resets BASE, PTR and TONE, ELANE or YLANE. (R225) -/
  | rst (e : Fin 96) (g : Fin 3)
  /-- INTERRUPT_ENTRY: At an allowed instruction boundary the engine takes the highest pending enabled interrupt cause. (R246) -/
  | interruptEntry (e : Fin 96) (idle : Nat)
  /-- VG_DEFINE: Vector-group command that defines a group's profile, lines, ports and tone partition. (R254) -/
  | vgDefine (p : Pkt)
  /-- VG_LADDER: Vector-group command that loads or replaces one rung of a group's ladder. (R256) -/
  | vgLadder (p : Pkt)
  /-- VG_START: Vector-group command that starts a group at a later vector-cycle boundary. (R258) -/
  | vgStart (p : Pkt)
  /-- VG_STOP: Vector-group command that stops a group at a later vector-cycle boundary. (R259) -/
  | vgStop (p : Pkt)
  /-- VG_PARAM: Vector-group command that writes a parameter block into engines' scratchpads. (R263) -/
  | vgParam (p : Pkt)
  /-- VG_PARAM_DONE: The tick DMA finishes writing the parameter block in every named engine and VG_PARAM completes. (R263) -/
  | vgParamDone
  /-- VG_FENCE_WORDS: Vector-group command that stages fence words for a tone group. (R264) -/
  | vgFenceWords (p : Pkt)
  /-- VG_FENCE_ABORT: Vector-group command that discards an uncommitted staged fence. (R264) -/
  | vgFenceAbort (p : Pkt)
  /-- VG_FENCE_COMMIT: Vector-group command that commits staged fences to land at a later boundary. (R265) -/
  | vgFenceCommit (p : Pkt)
  /-- FENCE_DRAIN_WORD: One overlay word drains into the slab in a VE cycle with no C access or VCUPD write. (R266) -/
  | fenceDrainWord (e : Fin 96)
  /-- VG_TG_RELEASE: Vector-group command that releases an estimating tone group. (R268) -/
  | vgTgRelease (p : Pkt)
  /-- VG_UNDEFINE: Vector-group command that undefines a group and ends its spare designations. (R207) -/
  | vgUndefine (p : Pkt)
  /-- VG_THAW: Vector-group command that resumes update cycles suspended by a PF2 reset. (R575) -/
  | vgThaw (p : Pkt)
  /-- VS_CUTOFF: Vector-group command that sets the port cut-off. (R275) -/
  | vsCutoff (p : Pkt)
  /-- SVL_PORT: Vector-group command that writes an SVL_PORT_CFG value. (R314) -/
  | svlPort (p : Pkt)
  /-- PORT_CUTOFF: At a symbol's cut-off a port that has not delivered all tiles becomes late and hands zero tiles. (R275) -/
  | portCutoff (p : Fin 16)
  /-- TILE_PAIR_RECEIVE: A lane completes a tile pair of nine data blocks, which the port checks and holds or hands to the tick DMA. (R284) -/
  | tilePairReceive (p : Fin 16) (l : Fin 4) (blocks : List (BitVec 66))
  /-- STREAM_START: A received STREAM_START opens or is refused as the stream of a symbol in the receive window. (R296) -/
  | streamStart (p : Fin 16) (l : Fin 4) (block : BitVec 66)
  /-- FB_START: A received FB_START checks or ends a lane's sample stream. (R298) -/
  | fbStart (p : Fin 16) (l : Fin 4) (block : BitVec 66)
  /-- LINE_STATUS: A received LINE_STATUS records a line's net data rate and state. (R305) -/
  | lineStatus (p : Fin 16) (l : Fin 4) (block : BitVec 66)
  /-- LANE_MARKER: A received LANE_MARKER is used for alignment in ALIGN or checked against the lane map in UP. (R310) -/
  | laneMarker (p : Fin 16) (l : Fin 4) (block : BitVec 66) (pos : Nat)
  /-- IDLE: A received IDLE control block is accepted and does nothing. (R287) -/
  | idle (p : Fin 16) (l : Fin 4) (block : BitVec 66)
  /-- DESKEW_TIMEOUT: ALIGN conditions fail within 50 µs, so the port counts DESKEW_FAIL and restarts its lanes. (R310) -/
  | deskewTimeout (p : Fin 16)
  /-- BYPASS_FLAGS_SEND: After the port's last tile pair is sent, the BYPASS_FLAGS blocks follow in control slots. (R302) -/
  | bypassFlagsSend (p : Fin 16)
  /-- LANE_MARKER_SEND: Every 64th control slot of the port carries a LANE_MARKER. (R288) -/
  | laneMarkerSend (p : Fin 16)
  /-- LANE_SIGNAL_DETECT: A lane in NO_SIGNAL detects signal and enters CDR. (R308) -/
  | laneSignalDetect (l : Fin 16)
  /-- LANE_SIGNAL_LOST: A lane loses signal and returns to NO_SIGNAL. (R309) -/
  | laneSignalLost (l : Fin 16)
  /-- LANE_CDR_LOCK: Lane clock recovery locks and the lane enters HUNT. (R308) -/
  | laneCdrLock (l : Fin 16)
  /-- LANE_CDR_TIMEOUT: Clock recovery has not locked within 100 µs and restarts. (R308) -/
  | laneCdrTimeout (l : Fin 16)
  /-- LANE_BLOCK_LOCK: 64 consecutive valid headers take the lane from HUNT to LOCK. (R308) -/
  | laneBlockLock (l : Fin 16) (blocks : List (BitVec 66))
  /-- LANE_HEADER_SLIP: An invalid header in HUNT moves the lane to the next symbol position. (R308) -/
  | laneHeaderSlip (l : Fin 16) (blocks : List (BitVec 66))
  /-- LANE_POLARITY_DECIDED: One polarity count reaches 16 control blocks and the lane enters READY, inverting if needed. (R309) -/
  | lanePolarityDecided (l : Fin 16) (blocks : List (BitVec 66))
  /-- LANE_LOCK_TIMEOUT: Polarity is undecided after 4,096 headers and the lane returns to HUNT. (R308) -/
  | laneLockTimeout (l : Fin 16) (blocks : List (BitVec 66))
  /-- LANE_HEADER_WINDOW_FAIL: 16 invalid headers in one window of 64 return the lane to HUNT. (R309) -/
  | laneHeaderWindowFail (l : Fin 16) (blocks : List (BitVec 66))
  /-- SVL_PORT_ENABLE: Setting SVL_PORT_CFG.ENABLE under a valid configuration takes the port to ACQUIRE, or sets CFG_ERR. (R310) -/
  | svlPortEnable (p : Fin 16) (v : Word)
  /-- SVL_PORT_DISABLE: Clearing SVL_PORT_CFG.ENABLE takes the port to DISABLED. (R310) -/
  | svlPortDisable (p : Fin 16) (v : Word)
  /-- SVL_STAT_SNAP: A 1 written to SVL_STAT_CTL.SNAP copies the port's live counts to the demand bank. (R315) -/
  | svlStatSnap (p : Fin 16)
  /-- LANE_EQ: Lanes command that writes a lane's equalisation for a rate set. (R321) -/
  | laneEq (p : Pkt)
  /-- LANE_TEST: Lanes command that sets loop, pattern and injection settings of a lane. (R335) -/
  | laneTest (p : Pkt)
  /-- LANE_SLEEP: Lanes command that sets host software's sleep requests and SD_WAKE. (R335) -/
  | laneSleep (p : Pkt)
  /-- LANE_EYE: Lanes command that starts an eye scan and completes at its end. (R329) -/
  | laneEye (p : Pkt)
  /-- LANE_EYE_READ: Lanes command that returns eye-scan point counts. (R331) -/
  | laneEyeRead (p : Pkt)
  /-- LANE_TXFIR_WRITE: A LANE_TXFIR write is applied, or refused when PRE + MAIN + POST exceeds 63. (R320) -/
  | laneTxfirWrite (l : Fin 44) (r : Fin 3) (v : Word)
  /-- LANE_LOOP_WRITE: A LANE_CFG.LOOP write selects or ends a test loop within 10 µs. (R322) -/
  | laneLoopWrite (l : Fin 44) (loop : Fin 4)
  /-- PATTERN_GEN_ENABLE: A write of LANE_PAT_CFG.GEN_EN starts or stops the pattern generator. (R325) -/
  | patternGenEnable (l : Fin 44) (on : Bool)
  /-- CHECKER_ENABLE: Raising LANE_PAT_CFG.CHK_EN clears the pattern counters and starts the hunt. (R326) -/
  | checkerEnable (l : Fin 44)
  /-- PATTERN_LOCK: The checker matches 64 bits and locks. (R326) -/
  | patternLock (l : Fin 44) (words : List (BitVec 64))
  /-- PATTERN_LOCK_LOSS: 32 or more mismatches in one word make the checker lose lock and hunt again. (R326) -/
  | patternLockLoss (l : Fin 44) (words : List (BitVec 64))
  /-- INJECTION_GO: A 1 written to LANE_INJ.GO starts an error injection run. (R327) -/
  | injectionGo (l : Fin 44)
  /-- INJECTION: Every 2^PERIOD words one injection inverts bits, ending the run after COUNT. (R327) -/
  | laneInjection (l : Fin 44) (words : List (BitVec 64))
  /-- EYE_SCAN_GO: A 1 written to LANE_EYE_CFG.GO starts an eye scan. (R329) -/
  | eyeScanGo (l : Fin 40)
  /-- EYE_SCAN_POINT: One scan point's dwell ends and its count is stored; the scan ends after point 8,191. (R329) -/
  | eyeScanPoint (l : Fin 40) (count : Nat)
  /-- EYE_SCAN_ABORT: A 1 written to LANE_EYE_CFG.ABORT ends a scan early. (R330) -/
  | eyeScanAbort (l : Fin 40)
  /-- EYE_DATA_READ: A read of LANE_EYE_DATA returns a count and advances POINT. (R331) -/
  | eyeDataRead (f : Fin 6) (l : Fin 40)
  /-- LANE_PAT_SNAP: A 1 written to LANE_PAT_CFG.SNAP latches the five lane counters. (R338) -/
  | lanePatSnap (l : Fin 44) (words : List (BitVec 64))
  /-- LANE_PWR_WRITE: A LANE_PWR write sets host sleep requests, accepted or refused under Table 10-5. (R335) -/
  | lanePwrWrite (l : Fin 44) (v : Word)
  /-- LANE_WAKE_BY_SIGNAL: The signal detector of a sleeping receive half sees signal and wakes it. (R333) -/
  | laneWakeBySignal (l : Fin 40)
  /-- LANE_HALF_READY: A waking lane half reports TX_ON or RX_ON within its wake time. (R334) -/
  | laneHalfReady (l : Fin 44) (tx : Bool)
  /-- ETH_FRAME_RECEIVE: A MAC receives an Ethernet frame, drops bad ones, strips tags and applies the group-address filter. (R342) -/
  | ethFrameReceive (m : Fin 24) (bytes : List Byte) (fcsOk codeErr : Bool) (raw : Nat)
  /-- ETH_FRAME_TRANSMIT: A MAC starts an Ethernet frame, applying tag strip and insert, FCS, one-step and transmit capture. (R344) -/
  | ethFrameTransmit (m : Fin 24) (raw : Nat) (met : Option Nat)
  /-- PAUSE_FRAME: A received PAUSE frame is consumed and sets or releases the port's pause timer. (R349) -/
  | pauseFrame (m : Fin 24) (quanta : BitVec 16)
  /-- PFC_FRAME: A received PFC frame is consumed and sets or releases per-priority pause timers. (R349) -/
  | pfcFrame (m : Fin 24) (prio : List (Fin 8 × BitVec 16))
  /-- PAUSE_TIMER_EXPIRY: A pause timer reaches 0 and the paused frames may start again. (R349) -/
  | pauseTimerExpiry (m : Fin 24) (timer : Fin 9)
  /-- PAUSE_WATCHDOG_TRIP: A hold reaches WD_MS, so the MAC releases pauses and starts a hold-off. (R350) -/
  | pauseWatchdogTrip (m : Fin 24) (prio : Fin 8)
  /-- PAUSE_HOLDOFF_END: The hold-off ends and the MAC obeys pause frames again. (R350) -/
  | pauseHoldoffEnd (m : Fin 24)
  /-- GLIDE_PROBE: A received glide PROBE is answered with PROBE_ACK. (R353) -/
  | glideProbe (m : Fin 24) (trn : BitVec 16)
  /-- GLIDE_PROBE_ACK: A received PROBE_ACK takes PROBING to HIGH. (R354) -/
  | glideProbeAck (m : Fin 24) (trn : BitVec 16)
  /-- GLIDE_REQ: A received glide REQ is answered ACK with entry into RETRAIN, or NAK. (R356) -/
  | glideReq (m : Fin 24) (trn : BitVec 16) (target : Byte)
  /-- GLIDE_ACK: A received ACK to the MAC's REQ takes it to RETRAIN. (R354) -/
  | glideAck (m : Fin 24) (trn : BitVec 16)
  /-- GLIDE_NAK: A received NAK counts GLIDE_FAIL and returns to HIGH or LOW. (R354) -/
  | glideNak (m : Fin 24) (trn : BitVec 16)
  /-- GLIDE_PROBE_TIMER: Every 1 s in PROBING the MAC sends a PROBE. (R354) -/
  | glideProbeTimer (m : Fin 24)
  /-- GLIDE_REQ_TIMER: Every 100 µs the MAC resends REQ, failing after five unanswered. (R354) -/
  | glideReqTimer (m : Fin 24)
  /-- GLIDE_WINDOW_END: At the end of a WIN window in HIGH, low load sends the machine to REQ_DOWN. (R355) -/
  | glideWindowEnd (m : Fin 24)
  /-- GLIDE_RATE_CHANGE: After 10 µs of idle in RETRAIN the MAC changes the lane's rate set. (R357) -/
  | glideRateChange (m : Fin 24)
  /-- GLIDE_LINK_UP: The link comes up after a rate change, the retrain completes and held queues resume. (R357) -/
  | glideLinkUp (m : Fin 24) (us : Nat)
  /-- GLIDE_RETRAIN_TIMEOUT: The link is not up within 2 ms, so the MAC returns to the previous rate set or the link goes down. (R357) -/
  | glideRetrainTimeout (m : Fin 24)
  /-- ETH_LINK_UP: A MAC's link comes up. (R361) -/
  | ethLinkUp (m : Fin 24)
  /-- ETH_LINK_DOWN: A MAC's link goes down and its glide machine enters OFF. (R354) -/
  | ethLinkDown (m : Fin 24) (cause : Fin 3)
  /-- ETH_LINK_DOWN_SLEEP: An Ethernet link down for 1 s makes the HAZE or OVERCAST state request lane sleep. (R532) -/
  | ethLinkDownSleep (m : Fin 24)
  /-- ETH_CFG: Ethernet-ports command that writes ETH_CFG. (R341) -/
  | ethCfg (p : Pkt)
  /-- ETH_TAGS: Ethernet-ports command that writes tag registers. (R344) -/
  | ethTags (p : Pkt)
  /-- ETH_MCHASH: Ethernet-ports command that loads all 128 multicast hash words in ascending order. (R347) -/
  | ethMchash (p : Pkt)
  /-- ETH_PAUSE: Ethernet-ports command that writes ETH_PAUSE. (R348) -/
  | ethPause (p : Pkt)
  /-- ETH_GLIDE: Ethernet-ports command that writes ETH_GLIDE. (R354) -/
  | ethGlide (p : Pkt)
  /-- ETH_STAT_SNAP: A 1 written to ETH_STAT_CTL.SNAP copies the MAC's live counts to the demand bank. (R360) -/
  | ethStatSnap (m : Fin 24)
  /-- PACKET_CLASSIFY: A packet from a MAC or PON channel is parsed, keyed and classified under its version on one or two passes. (R369) -/
  | packetClassify
  /-- FRAG_ENTRY_EXPIRY: A fragment table entry expires FRAG_LIFE ms after it was recorded. (R378) -/
  | fragEntryExpiry (set : Fin 512) (way : Fin 4)
  /-- CLS_RULE_WRITE: Classifier command that stages a rule into a free slot. (R373) -/
  | clsRuleWrite (p : Pkt)
  /-- CLS_RULE_DELETE: Classifier command that stages deletion of a rule. (R373) -/
  | clsRuleDelete (p : Pkt)
  /-- CLS_FLOW_INSERT: Classifier command that stages a flow table entry. (R368) -/
  | clsFlowInsert (p : Pkt)
  /-- CLS_FLOW_DELETE: Classifier command that stages deletion of a flow entry. (R373) -/
  | clsFlowDelete (p : Pkt)
  /-- CLS_COMMIT: Classifier command that makes the staged version current, or returns DRAINING. (R375) -/
  | clsCommit (p : Pkt)
  /-- CLS_ABORT: Classifier command that discards every staged change. (R373) -/
  | clsAbort (p : Pkt)
  /-- CLS_FLOW_MASK: Classifier command that sets a rule set's flow mask. (R368) -/
  | clsFlowMask (p : Pkt)
  /-- CLS_SRC: Classifier command that writes a source's configuration and actions. (R362) -/
  | clsSrc (p : Pkt)
  /-- CLS_CFG: Classifier command that writes CLS_CFG. (R380) -/
  | clsCfg (p : Pkt)
  /-- VERSION_SWEEP_START: The predecessor version's in-flight count reaches 0 and its sweep begins. (R376) -/
  | versionSweepStart
  /-- VERSION_RETIRED: The sweep ends and the predecessor version retires with the version-retired event. (R376) -/
  | versionRetired
  /-- CLS_STAT_SNAP: A 1 written to CLS_STAT_CTL.SNAP copies classifier counts to the demand bank. (R381) -/
  | clsStatSnap
  /-- LEARN_GRANT: The learn arbiter grants a learn request, creating or updating the entry against its current state. (R390) -/
  | learnGrant
  /-- REFRESH_GRANT: The learn arbiter grants a refresh request, setting TS to NOW. (R389) -/
  | refreshGrant
  /-- MOVE_GRANT: The learn arbiter grants a station move, updating DEST or locking the entry. (R392) -/
  | moveGrant
  /-- AGING_DELETE_GRANT: The learn arbiter grants an aging deletion if the entry is still aged. (R395) -/
  | agingDeleteGrant
  /-- AGING_SCAN_STEP: Every 256 PKT cycles the scan examines one bucket or stash place, aging, flushing or unlocking entries. (R395) -/
  | agingScanStep
  /-- SEARCH: Forwarding command that returns an entry by FID and MAC. (R397) -/
  | fwdSearch (p : Pkt)
  /-- NEXT: Forwarding command that opens or continues a walk and returns entries. (R399) -/
  | fwdNext (p : Pkt)
  /-- INSERT: Forwarding command that creates or replaces an entry. (R398) -/
  | fwdInsert (p : Pkt)
  /-- DELETE: Forwarding command that deletes an entry. (R397) -/
  | fwdDelete (p : Pkt)
  /-- FLUSH_PORT: Forwarding command that runs a flush scan deleting entries of a DEST. (R396) -/
  | flushPort (p : Pkt)
  /-- FLUSH_COMPLETE: The flush scan ends and the flush-complete event is raised. (R396) -/
  | flushComplete
  /-- FLOOD_SET: Forwarding command that loads a flood set or port set. (R398) -/
  | floodSet (p : Pkt)
  /-- FWD_CFG: Forwarding command that writes table or source configuration registers. (R402) -/
  | fwdCfg (p : Pkt)
  /-- WALK_TIMEOUT: A walk with no NEXT for 1 s is closed. (R399) -/
  | walkTimeout (w : Fin 4)
  /-- FWD_STAT_SNAP: A 1 written to FWD_STAT_CTL.SNAP copies forwarding counts to the demand bank. (R402) -/
  | fwdStatSnap
  /-- BUFFER_ALLOCATION: An agent's buffer request is granted from a pool cache, falls over, waits for a fetch, or is refused. (R406) -/
  | bufferAllocation (agent : Fin 10) (len : Nat)
  /-- BUFFER_HANDOVER: A handover request changes a buffer's owner tag, or is rejected as double or foreign. (R411) -/
  | bufferHandover (id : BitVec 20) (agent : Fin 10) (inst : Byte) (dst : Fin 10)
  /-- BUFFER_FREE: A free request clears a buffer's state and returns its ID, or is rejected as double or foreign. (R412) -/
  | bufferFree (id : BitVec 20) (agent : Fin 10) (inst : Byte)
  /-- CACHE_FETCH: A block of up to 128 free IDs is fetched from the ring into a pool cache. (R408) -/
  | cacheFetch (n : Fin 4) (lost : List Nat)
  /-- CACHE_WRITE_OUT: A block of 128 IDs is written from a full pool cache to the ring. (R408) -/
  | cacheWriteOut (n : Fin 4)
  /-- BUF_CARVE: Buffers command that changes pool counts before the first commit. (R405) -/
  | bufCarve (p : Pkt)
  /-- BUF_POOL: Buffers command that sets a pool's FALLOVER. (R406) -/
  | bufPool (p : Pkt)
  /-- HOST_DQ: Buffers command that configures a device-to-host queue. (R416) -/
  | hostDq (p : Pkt)
  /-- HOST_HQ: Buffers command that configures a host-to-device queue. (R416) -/
  | hostHq (p : Pkt)
  /-- DQ_TAIL_WRITE: A HOST_DQ_TAIL write posts receive buffers or is refused with the bad-index event. (R417) -/
  | dqTailWrite (f : Fin 6) (q : Fin 64) (v : BitVec 16)
  /-- DQ_FRAME_CLAIM: A frame at a device-to-host queue head claims posted entries and, when enough and FIFO room exist, begins its writes. (R418) -/
  | dqFrameClaim (q : Fin 64) (addrs : List (BitVec 64)) (bad : Option Nat)
  /-- DQ_FRAME_COMMIT: The last data write is issued; HEAD advances, a completion is queued and one MSI-X message is sent. (R420) -/
  | dqFrameCommit (q : Fin 64)
  /-- DQ_HOLD_TIMEOUT: A head frame waits HOLD_US without being written and is dropped. (R422) -/
  | dqHoldTimeout (q : Fin 64)
  /-- DQ_POP_READ: A read of HOST_DQ_POP_LO removes the oldest completion of the queue or returns idle. (R425) -/
  | dqPopRead (f : Fin 6) (q : Fin 64)
  /-- FUNC_POP_READ: A read of HOST_POP_LO removes a completion from the function's queues in priority order. (R425) -/
  | funcPopRead (f : Fin 6)
  /-- HQ_TAIL_WRITE: A HOST_HQ_TAIL write posts host-to-device descriptors. (R416) -/
  | hqTailWrite (f : Fin 6) (q : Fin 64) (v : BitVec 16)
  /-- HQ_DESCRIPTOR: The device reads a host-to-device descriptor, skipping a bad one, and starts reading its frame. (R426) -/
  | hqDescriptor (q : Fin 64) (desc : List Byte) (bytes : List Byte)
  /-- HQ_FRAME_COMMIT: The frame's last byte is in the packet buffer; it goes to the queue manager and HEAD is written back. (R427) -/
  | hqFrameCommit (q : Fin 64) (raw : Nat)
  /-- HOST_DMA_ERROR: A host memory read or write ends in error; the frame is rewound and the queue disabled. (R428) -/
  | hostDmaError (h2d : Bool) (q : Fin 64) (code : Byte)
  /-- BUF_STAT_SNAP: A 1 written to BUF_STAT_CTL.SNAP copies pool counts to the demand banks. (R430) -/
  | bufStatSnap
  /-- HOST_STAT_SNAP: A 1 written to HOST_STAT_CTL.SNAP latches every host queue counter. (R431) -/
  | hostStatSnap
  /-- ENQUEUE: A frame arriving at the queue manager is placed in a node's queue or dropped by admission or share. (R444) -/
  | enqueue (cyc : Nat)
  /-- DEQUEUE: A transmitter takes the next eligible frame, charging its length to the three shapers. (R441) -/
  | dequeue (node1 : Fin 29) (cyc : Nat)
  /-- RECOVERY_ACCOUNTING_END: 48,000 ticks after a PF3 reset, recovery accounting ends. (R439) -/
  | recoveryAccountingEnd
  /-- SCH_L1: Scheduling command that writes a level-1 node record. (R452) -/
  | schL1 (p : Pkt)
  /-- SCH_L2: Scheduling command that writes a level-2 node record. (R452) -/
  | schL2 (p : Pkt)
  /-- SCH_QUEUE: Scheduling command that writes a queue record. (R452) -/
  | schQueue (p : Pkt)
  /-- SCH_QUEUE_READ: Scheduling command that returns a queue's depth, frames and drops. (R625) -/
  | schQueueRead (p : Pkt)
  /-- SCH_SAMPLE: Scheduling command that configures depth and delay sampling. (R564) -/
  | schSample (p : Pkt)
  /-- LINE_CTX_LOAD: Command that loads line channel context entries, binding nodes to lines. (R447) -/
  | lineCtxLoad (p : Pkt)
  /-- LINE_CTX_READ: Command that returns whole line channel context entries. (R573) -/
  | lineCtxRead (p : Pkt)
  /-- SCH_STAT_SNAP: A 1 written to SCH_STAT_CTL.SNAP copies queue manager counts to the demand bank. (R453) -/
  | schStatSnap
  /-- TIME_SET_INCREMENT: TIME_CMD OP 1 sets INC at the anchor, keeping time continuous. (R458) -/
  | timeSetIncrement (raw : Nat)
  /-- TIME_ADJUST: TIME_CMD OP 2 steps OFFSET by the staged value at the anchor. (R458) -/
  | timeAdjust (raw : Nat)
  /-- TIME_SET_TIME: TIME_CMD OP 3 sets the time at the anchor to the staged value. (R458) -/
  | timeSetTime (raw : Nat)
  /-- TIME_INCREMENT_ADJUST: TIME_CMD OP 4 sets INC and then adjusts OFFSET at the anchor. (R458) -/
  | timeIncrementAdjust (raw : Nat)
  /-- TIME_RD_RAW_LO_READ: A read of TIME_RD_RAW_LO latches the raw count and time in the TIME_RD registers. (R460) -/
  | timeRdRawLoRead (f : Fin 6) (raw : Nat)
  /-- CAPTURE_POP: A read of TIME_CAP[0] removes the oldest capture record and latches its words. (R462) -/
  | capturePop (f : Fin 6)
  /-- LAUNCH_ENTRY_SEND: A launch entry's instant arrives and the MAC sends it, or it is late and sent or dropped. (R470) -/
  | launchEntrySend (m : Fin 24) (raw : Nat) (met : Option Nat)
  /-- PPS_OUT_PULSE: The time's seconds field advances and 1PPS_OUT drives its pulse. (R474) -/
  | ppsOutPulse (raw : Nat)
  /-- PPS_IN_EDGE: An active 1PPS_IN edge makes a KIND 2 capture. (R475) -/
  | ppsInEdge (falling : Bool) (raw : Nat)
  /-- PPS_IN_LOST: No 1PPS_IN edge for 1,100 ms raises the input-lost event. (R475) -/
  | ppsInLost (raw : Nat)
  /-- TOD_MESSAGE_SEND: DELAY_MS after a pulse the time-of-day port sends its 16-byte message. (R476) -/
  | todMessageSend (raw : Nat)
  /-- TOD_RX_BYTE: A byte received on the time-of-day port enters the receive FIFO or is lost. (R477) -/
  | todRxByte (b : Byte)
  /-- TOD_RX_POP: A read of TIME_TOD_RX removes the oldest received byte. (R477) -/
  | todRxPop (f : Fin 6)
  /-- TIME_STAT_SNAP: A 1 written to TIME_STAT_CTL.SNAP copies timebase counts to the demand bank. (R480) -/
  | timeStatSnap
  /-- KEY_COMMIT: CIPH_KEY_CMD COMMIT loads the staged key into a host slot, or is refused. (R485) -/
  | keyCommit
  /-- KEY_ERASE: CIPH_KEY_CMD ERASE empties a host slot, or is refused. (R485) -/
  | keyErase
  /-- CIPH_UNWRAP: Cipher command that unwraps an FV4410 blob into a host slot. (R489) -/
  | ciphUnwrap (p : Pkt)
  /-- CIPH_SLOT_READ: Cipher command that returns a slot's state, length, usage and counter. (R562) -/
  | ciphSlotRead (p : Pkt)
  /-- CIPH_RQ: Cipher command that writes CIPH_RQ_CFG and the ring addresses. (R501) -/
  | ciphRq (p : Pkt)
  /-- CIPH_RQ_TAIL_WRITE: A CIPH_RQ_TAIL write posts requests or is refused and counted in BAD_REQ. (R490) -/
  | ciphRqTailWrite (v : BitVec 16)
  /-- CTR_ENCRYPT: Request OP 1 encrypts in CTR mode with a device-formed nonce. (R492) -/
  | ctrEncrypt (desc : List Byte) (data : List Byte) (fail : Option Nat)
  /-- CTR_DECRYPT: Request OP 2 decrypts in CTR mode from the supplied counter block. (R491) -/
  | ctrDecrypt (desc : List Byte) (data : List Byte) (fail : Option Nat)
  /-- GCM_ENCRYPT: Request OP 3 encrypts and tags in GCM with a device-formed IV. (R492) -/
  | gcmEncrypt (desc : List Byte) (data : List Byte) (aad : List Byte) (fail : Option Nat)
  /-- GCM_DECRYPT: Request OP 4 decrypts and verifies in GCM. (R494) -/
  | gcmDecrypt (desc : List Byte) (data : List Byte) (aad : List Byte) (tag : List Byte) (fail : Option Nat)
  /-- CMAC_GENERATE: Request OP 5 computes a CMAC tag. (R491) -/
  | cmacGenerate (desc : List Byte) (data : List Byte) (fail : Option Nat)
  /-- CMAC_VERIFY: Request OP 6 verifies a CMAC tag. (R494) -/
  | cmacVerify (desc : List Byte) (data : List Byte) (tag : List Byte) (fail : Option Nat)
  /-- ENTROPY_HEALTH_FAIL: An entropy health test fails; requests fail and random delays and new keys stop until PORST_N. (R498) -/
  | entropyHealthFail (test : Byte)
  /-- CIPH_STAT_SNAP: A 1 written to CIPH_STAT_CTL.SNAP copies cipher counts to the demand bank. (R501) -/
  | ciphStatSnap
  /-- SCRUB_READ: The scrubber reads one codeword of a memory and writes back a correction or logs an uncorrectable word. (R519) -/
  | scrubRead (m : Fin 8) (flip : BitVec 288) (otherGood : Bool) (kind : Byte)
  /-- SCRUB_PASS_LATE: A scrub pass does not end within PERIOD; PASS_LATE is counted and a new pass begins. (R517) -/
  | scrubPassLate (m : Fin 8)
  /-- MEM_READ: Memory command that reads DDR4 bytes. (R516) -/
  | memRead (p : Pkt)
  /-- MEM_WRITE: Memory command that writes DDR4 bytes, with read-modify-write for partial codewords. (R515) -/
  | memWrite (p : Pkt)
  /-- MEM_CFG: Memory command that writes scrub or injection settings of a memory. (R526) -/
  | memCfg (p : Pkt)
  /-- MEM_INJECTION_ARM: A 1 written to MEM_INJ.GO arms an injection into the next codeword written to the memory. (R525) -/
  | memInjectionArm (v : Word)
  /-- PARITY_REWRITE: Firmware rewrites a parity-failed entry or record from its control SRAM copy. (R524) -/
  | parityRewrite (word : BitVec 18)
  /-- MEM_STAT_SNAP: A 1 written to MEM_STAT_CTL.SNAP copies memory counts to the demand banks. (R527) -/
  | memStatSnap
  /-- PWR_SET_CLEAR: PWR_SET_STATE to CLEAR leaves HAZE, OVERCAST or unwinds an entry. (R533) -/
  | pwrSetClear (p : Pkt)
  /-- PWR_SET_HAZE: PWR_SET_STATE to HAZE changes the state at a later boundary. (R533) -/
  | pwrSetHaze (p : Pkt)
  /-- PWR_SET_OVERCAST: PWR_SET_STATE to OVERCAST begins the OVERCAST entry steps. (R534) -/
  | pwrSetOvercast (p : Pkt)
  /-- PWR_SET_DARK: PWR_SET_STATE to DARK begins the DARK entry steps. (R534) -/
  | pwrSetDark (p : Pkt)
  /-- PWR_CFG: Power command that writes consecutive PWR_ registers. (R546) -/
  | pwrCfg (p : Pkt)
  /-- OVERCAST_POOL_DRAIN_END: High buffers are freed or 10 ms pass; remaining frames are dropped and OVERCAST entry proceeds. (R535) -/
  | overcastPoolDrainEnd
  /-- PCIE_L2_ENTERED: The PCIe link enters L2 and DARK entry proceeds past step 1. (R534) -/
  | pcieL2Entered
  /-- DARK_L2_TIMEOUT: The link has not entered L2 within 1 s and DARK entry aborts with cause link. (R534) -/
  | darkL2Timeout
  /-- REGULATOR_ACK: A regulator acknowledgement or power-good arrives and the entry or exit sequence proceeds. (R534) -/
  | regulatorAck (pg : Bool)
  /-- REGULATOR_ACK_TIMEOUT: An acknowledgement fails to arrive within 500 µs; the request is repeated or the entry fails. (R537) -/
  | regulatorAckTimeout
  /-- OVERCAST_EXIT_PORT_WAIT_END: Enabled ports reach UP or 10 ms pass, and OVERCAST exit goes on to restart groups. (R538) -/
  | overcastExitPortWaitEnd
  /-- GPIO_WAKE: An active-low level on an enabled GPIO wakes the device from DARK. (R539) -/
  | gpioWake (k : Fin 24)
  /-- FEED_ALERT_RISE: FEED_ALERT_N rises, waking DARK when enabled and removing a feed-alert squall cause. (R539) -/
  | feedAlertRise
  /-- WAKE_TIMER_EXPIRY: The wake timer reaches PWR_WAKE_TIMER seconds and wakes DARK. (R539) -/
  | wakeTimerExpiry
  /-- WAKE_STEP_READY: A wake step's ready signal arrives and the next wake step begins. (R539) -/
  | wakeStepReady
  /-- WAKE_STEP_TIMEOUT: A wake step times out; it is retried or the wake fails and FAULT_N asserts. (R539) -/
  | wakeStepTimeout
  /-- GRADE_EVALUATION: At the tick edge with TIC 24 the controller computes the grade from feed, power and temperature. (R543) -/
  | gradeEvaluation (feed : Option (BitVec 16)) (pouts : List (Option (BitVec 16)))
  /-- SENSOR_READING: Every 10 µs each die temperature sensor is read, checking TEMP_TRIP and TEMP_CRIT. (R541) -/
  | sensorReading (k : Fin 8) (t : BitVec 16)
  /-- FEED_ALERT_LOW: FEED_ALERT_N low for 160 ns starts a squall. (R544) -/
  | feedAlertLow
  /-- PWR_STAT_SNAP: A 1 written to PWR_STAT_CTL.SNAP copies power counts to the demand bank. (R546) -/
  | pwrStatSnap
  /-- CMD_TAIL_WRITE: A HOST_CMD_TAIL write posts command units or is refused. (R553) -/
  | cmdTailWrite (f : Fin 6) (v : Word)
  /-- RPL_RD_WRITE: A HOST_RPL_RD write consumes reply units or is refused. (R553) -/
  | rplRdWrite (f : Fin 6) (v : Word)
  /-- EVT_RD_WRITE: A HOST_EVT_RD write consumes event records or is refused. (R553) -/
  | evtRdWrite (f : Fin 6) (v : Word)
  /-- RING_CFG_WRITE: A HOST_RING_CFG write sets ring sizes and enables, ignoring size changes of enabled rings. (R552) -/
  | ringCfgWrite (f : Fin 6) (v : Word)
  /-- PAD: A PAD packet's units are skipped without check or reply. (R555) -/
  | pad (p : Pkt)
  /-- REPLY_WRITE: A held reply is written to the reply ring once room and RPL_EN allow, with write-back and notice. (R558) -/
  | replyWrite (f : Fin 6)
  /-- COMMAND_TIMEOUT: A DONE-type command not ended 1 s after it began completes with TIMEOUT. (R560) -/
  | commandTimeout (f : Fin 6) (id : Nat)
  /-- MGMT_INFO: Management command that returns identity, firmware version, BASE_SN, DDR4 size and retired engines. (R562) -/
  | mgmtInfo (p : Pkt)
  /-- CFG_COMMIT: Management command that makes the first configuration commit, ending bring-up. (R563) -/
  | cfgCommit (p : Pkt)
  /-- JOURNAL_READ: Management command that returns start journal entries. (R587) -/
  | journalRead (p : Pkt)
  /-- BOARD_READ: Management command that returns bytes of a board table copy. (R562) -/
  | boardRead (p : Pkt)
  /-- CNT_CLEAR: Command that clears live counts and SAT bits of consecutive counters. (R576) -/
  | cntClear (p : Pkt) (grp : Byte)
  /-- FUNCTION_LEVEL_RESET: A function-level reset stops the function's command processing, clears its rings and applies its further effects. (R574) -/
  | functionLevelReset (f : Fin 6) (reqs : List (List Byte))
  /-- PCIE_HOT_RESET: A PCIe hot, link-down or PERST_N reset acts as a function-level reset of all six functions. (R551) -/
  | pcieHotReset (reqs : List (List Byte))
  /-- POWER_ON_RESET: PORST_N low for at least 1 µs resets every block outside the always-on domain and begins a start. (R579) -/
  | powerOnReset (ns : Nat)
  /-- START_STEP_READY: A start step's ready condition arrives and the next step begins, ending with start completed at S12. (R583) -/
  | startStepReady (info : StartInfo)
  /-- START_STEP_TIMEOUT: A start step times out; it is retried, an alternate taken, or recovery mode entered. (R583) -/
  | startStepTimeout (info : StartInfo)
  /-- BOOT_RESTART: A write of 0x5245_5354 to BOOT_RESTART starts the device as PORST_N does. (R589) -/
  | bootRestart (f : Fin 6) (v : Word)
  /-- QSPI_READ: BOOT_QSPI_CMD READ fills BOOT_QSPI_DATA from flash. (R589) -/
  | qspiRead (f : Fin 6)
  /-- QSPI_PROGRAM: BOOT_QSPI_CMD PROGRAM writes an aligned 256-byte page, or is refused. (R589) -/
  | qspiProgram (f : Fin 6)
  /-- QSPI_ERASE: BOOT_QSPI_CMD ERASE erases an aligned 64 KiB sector, or is refused. (R589) -/
  | qspiErase (f : Fin 6)
  /-- QSPI_OP_DONE: A flash operation completes and BUSY clears. (R589) -/
  | qspiOpDone (err : Bool)
  /-- JOURNAL_MIRROR_WRITE: Within 100 ms of a new entry firmware writes the journal to the older mirror sector. (R585) -/
  | journalMirrorWrite (ok : Bool)
  /-- JOURNAL_CLEAR: A 1 written to PWR_JRN_CLEAR.CLEAR clears every prescription except O7 from the next start. (R587) -/
  | journalClear (f : Fin 6)
  /-- REGISTER_WRITE: A write to a register without behaviour of its own takes effect or is refused and recorded in HOST_ACC_ERR. (R601) -/
  | registerWrite (f : Fin 6) (off : BitVec 26) (v : Word) (be : BitVec 4)
  /-- AWARE_INTERVAL_START: At the start of the aware interval of watchful sleep, a channel that has not regained sync stays awake and follows R104 and R105. (R136) -/
  | awareIntervalStart (c : Fin 4)
  /-- LOW_POWER_INTERVAL_START: At the end of each aware interval a channel in doze or watchful sleep powers its transmitter, and in watchful sleep its receiver, down again and enters OFF. (R95) -/
  | lowPowerIntervalStart (c : Fin 4)
  /-- CHECKPOINT_WRITE_DONE: The checkpoints written to DDR4 on entry into OVERCAST are complete, and entry step 1 may go on to its abort point. (R198) -/
  | checkpointWriteDone
  /-- MEMORY_ZERO_FILL_DONE: The zero-fill of a memory powered up from OFF, such as the packet buffer banks or scratchpads, ends and users may access it. (R518) -/
  | memoryZeroFillDone (e : Option (Fin 96))
  /-- INSTRUCTION_MEMORY_RELOADED: Firmware finishes reloading an engine's instruction memory after VDD_VE returns, and the engine leaves OFF for STOPPED, SPARE or RETIRED. (R201) -/
  | instructionMemoryReloaded (e : Fin 96)
  /-- VE_PLL_LOCK: The VE PLL locks during OVERCAST exit step 2, and the exit proceeds to the packet buffer and slabs. (R538) -/
  | vePllLock
  /-- PCIE_LINK_UP: The PCIe link trains, ending GPIO 0's WAKE_N role after a wake, or leaving L2 after a DARK unwind. (R540) -/
  | pcieLinkUp
  /-- EVENT_NOTICE_INTERVAL_END: The 4 µs that must pass between event-ring MSI-X messages run out, and one message goes out for the records written in that interval. (R554) -/
  | eventNoticeIntervalEnd (f : Fin 6)
  /-- OPTIC_MONITORING_READ: Once per second firmware drives RSSI_TRIG for 1 µs and, 100 µs later, reads the optic's monitoring values over I2C. (R615) -/
  | opticMonitoringRead (c : Fin 4)
  deriving DecidableEq, Repr

end Sys2Proof
end

