-- ==== Sys2Proof/Decode.lean ====
section
/-! DEFINITION. Words of the opcode table. The table of this block gives no row any bits (every row's words and fields are
empty): no word spells a command. -/

namespace Sys2Proof

/-- The command that a word of nbits bits spells by the table's bits: none, since the table gives no row bits. -/
def decodeTableWord (_nbits _w : Nat) : Option Instr := none

end Sys2Proof
end

