-- ==== Sys2Proof/Machine/Bits.lean ====
section
/-! DEFINITION. Bit fields, byte order and packing of structures (R3, R4, R567, R625). -/

namespace Sys2Proof.Machine

/-- Bits [hi:lo] of a number (R3). -/
def bitsOf (n hi lo : Nat) : Nat := (n >>> lo) % 2 ^ (hi + 1 - lo)

/-- A number with its bits [hi:lo] replaced by the low bits of v. -/
def putBits (n hi lo v : Nat) : Nat :=
  (n / 2 ^ (hi + 1)) * 2 ^ (hi + 1) + (v % 2 ^ (hi + 1 - lo)) * 2 ^ lo + n % 2 ^ lo

/-- Bit k of a number. -/
def bit (n k : Nat) : Bool := n.testBit k

/-- A number from a truth value. -/
def b2n (b : Bool) : Nat := if b then 1 else 0

/-- The number with bit k set. -/
def setBit (n k : Nat) : Nat := n ||| 2 ^ k

/-- The number with bit k clear. -/
def clrBit (n k : Nat) : Nat := if n.testBit k then n - 2 ^ k else n

/-- Division rounding up. -/
def ceilDiv (a b : Nat) : Nat := (a + b - 1) / b

/-- A number as n bytes, least significant first (R4: structures in memory). -/
def leBytes : Nat → Nat → List Byte
  | 0, _ => []
  | n + 1, v => BitVec.ofNat 8 v :: leBytes n (v / 256)

/-- A number as n bytes, most significant first (R4: formats on a wire or fibre). -/
def beBytes (n v : Nat) : List Byte := (leBytes n v).reverse

/-- The number that bytes spell, least significant first. -/
def ofLe : List Byte → Nat
  | [] => 0
  | b :: bs => b.toNat + 256 * ofLe bs

/-- The number that bytes spell, most significant first. -/
def ofBe (bs : List Byte) : Nat := ofLe bs.reverse

/-- n bytes of a list from an offset, short where the list ends. -/
def sliceB (bs : List Byte) (off n : Nat) : List Byte := (bs.drop off).take n

/-- The little-endian number of n bytes at an offset. -/
def leAt (bs : List Byte) (off n : Nat) : Nat := ofLe (sliceB bs off n)

/-- The big-endian number of n bytes at an offset. -/
def beAt (bs : List Byte) (off n : Nat) : Nat := ofBe (sliceB bs off n)

/-- A list brought to length n: cut, or filled with zero bytes. -/
def fitB (n : Nat) (bs : List Byte) : List Byte :=
  bs.take n ++ List.replicate (n - bs.length) 0

/-- The list with the bytes at an offset replaced. -/
def spliceB (bs : List Byte) (off : Nat) (new : List Byte) : List Byte :=
  bs.take off ++ new ++ bs.drop (off + new.length)

/-- Fields laid out in order, each at the next offset that is a multiple of its width (R567, R625); n is the offset
reached so far. -/
def packFrom : Nat → List (Nat × Nat) → List Byte
  | _, [] => []
  | n, (w, v) :: fs =>
    let pad := (w - n % w) % w
    List.replicate pad 0 ++ leBytes w v ++ packFrom (n + pad + w) fs

/-- The payload of an event (R567): (width, value) fields packed from byte 16 of the record, 16 bytes, unused bytes 0. -/
def evPayload (fs : List (Nat × Nat)) : List Byte := fitB 16 (packFrom 0 fs)

/-- A signed number in w bytes' worth of two's complement. -/
def twos (w : Nat) (i : Int) : Nat := (i % (2 ^ (8 * w) : Int)).toNat

/-- The signed number that the low w bits of n stand for. -/
def signedOf (w n : Nat) : Int :=
  let m := n % 2 ^ w
  if m < 2 ^ (w - 1) then (m : Int) else (m : Int) - (2 ^ w : Int)

/-- A signed number brought into the range of w bits by saturation. -/
def satInt (w : Nat) (i : Int) : Int :=
  let top : Int := (2 ^ (w - 1) : Int) - 1
  let bot : Int := -(2 ^ (w - 1) : Int)
  if top < i then top else if i < bot then bot else i

/-- 32-bit words as bytes, little-endian (R4). -/
def wordsToBytes : List Word → List Byte
  | [] => []
  | w :: ws => leBytes 4 w.toNat ++ wordsToBytes ws

/-- Bytes as 32-bit words, the last filled with zero bytes; fuel bounds the list. -/
def bytesToWordsF : Nat → List Byte → List Word
  | 0, _ => []
  | _, [] => []
  | n + 1, bs => BitVec.ofNat 32 (ofLe (bs.take 4)) :: bytesToWordsF n (bs.drop 4)

/-- Bytes as 32-bit words (R625: bytes not used, up to the end of the last word, are 0). -/
def bytesToWords (bs : List Byte) : List Word := bytesToWordsF (ceilDiv bs.length 4) bs

end Sys2Proof.Machine
end

