-- ==== Sys2Proof/Machine/Crypto.lean ====
section
/-! DEFINITION. The ciphers that the cipher engine uses (chapter 17): AES (FIPS 197), CTR and GCM (NIST SP 800-38A, 38D),
CMAC (SP 800-38B), key unwrapping (RFC 3394), CRC-32 (IEEE 802.3). PRESUMED: the spec names these public standards and
does not restate them (log 30). Choices: log 30. -/

namespace Sys2Proof.Machine

/-- The S-box of AES, sixteen entries a number, entry 0 in the low byte of the first. -/
def sboxRows : List Nat :=
  [0x76abd7fe2b670130c56f6bf27b777c63, 0xc072a49cafa2d4adf04759fa7dc982ca,
   0x1531d871f1e5a534ccf73f362693fdb7, 0x75b227ebe28012079a059618c323c704,
   0x842fe329b3d63b52a05a6e1b1a2c8309, 0xcf584c4a39becb6a5bb1fc20ed00d153,
   0xa89f3c507f02f94585334d43fbaaefd0, 0xd2f3ff1021dab6bcf5389d928f40a351,
   0x73195d643d7ea7c41744975fec130ccd, 0xdb0b5ede14b8ee4688902a22dc4f8160,
   0x79e4959162acd3c25c2406490a3a32e0, 0x08ae7a65eaf4566ca94ed58d6d37c8e7,
   0x8a8bbd4b1f74dde8c6b4a61c2e2578ba, 0x9e1dc186b95735610ef6034866b53e70,
   0xdf2855cee9871e9b948ed9691198f8e1, 0x16bb54b00f2d99416842e6bf0d89a18c]

/-- The inverse S-box of AES, sixteen entries a number, entry 0 in the low byte of the first. -/
def invSboxRows : List Nat :=
  [0xfbd7f3819ea340bf38a53630d56a0952, 0xcbe9dec444438e3487ff2f9b8239e37c,
   0x4ec3fa420b954cee3d23c2a632947b54, 0x25d18b6d49a25b76b224d92866a12e08,
   0x92b6655dcc5ca4d41698688664f6f872, 0x849d8da75746155edab9edfd5048706c,
   0x0645b3b80558e4f70ad3bc8c00abd890, 0x6b8a130103bdafc1020f3fca8f1e2cd0,
   0x73e6b4f0cecff297eadc674f4111913a, 0x6edf751ce837f9e28535ade72274ac96,
   0x1bbe18aa0e62b76f89c5291d711af147, 0xf45acd78fec0db9a2079d2c64b3e56fc,
   0x5fec8027591012b131c7078833a8dd1f, 0xef9cc9939f7ae52d0d4ab519a97f5160,
   0x619953833cbbebc8b0f52aae4d3be0a0, 0x7d0c2155631469e126d677ba7e042b17]

/-- Look a byte up in a table of rows. -/
def byteOf (rows : List Nat) (b : Nat) : Nat := ((rows[b / 16]?).getD 0) >>> (8 * (b % 16)) % 256

/-- Multiply by x in GF(2^8). -/
def xtime (b : Nat) : Nat := if 128 ≤ b then (b * 2 % 256) ^^^ 0x1B else b * 2

/-- Product in GF(2^8) with a constant of four bits. -/
def gmul (b c : Nat) : Nat :=
  let b2 := xtime b
  let b4 := xtime b2
  let b8 := xtime b4
  (if c.testBit 0 then b else 0) ^^^ (if c.testBit 1 then b2 else 0) ^^^ (if c.testBit 2 then b4 else 0) ^^^
    (if c.testBit 3 then b8 else 0)

/-- Byte-wise exclusive or. -/
def xorB (a b : List Nat) : List Nat := List.zipWith (· ^^^ ·) a b

/-- Round constant i, from 1. -/
def rcon : Nat → Nat
  | 0 => 0
  | 1 => 1
  | n + 1 => xtime (rcon n)

/-- One more word of the key schedule; ws holds the words so far, latest first. -/
def nextKeyWord (nk i : Nat) (ws : List (List Nat)) : List Nat :=
  let last := (ws[0]?).getD [0, 0, 0, 0]
  let old := (ws[nk - 1]?).getD [0, 0, 0, 0]
  let t :=
    if i % nk = 0 then
      xorB ((last.drop 1 ++ last.take 1).map (byteOf sboxRows)) [rcon (i / nk), 0, 0, 0]
    else if 6 < nk ∧ i % nk = 4 then last.map (byteOf sboxRows)
    else last
  xorB old t

/-- The key schedule: n more words from word i. -/
def keyWords (nk : Nat) : Nat → Nat → List (List Nat) → List (List Nat)
  | 0, _, ws => ws
  | n + 1, i, ws => keyWords nk n (i + 1) (nextKeyWord nk i ws :: ws)

/-- Cut a list into pieces of n, at most fuel of them. -/
def piecesF (n : Nat) : Nat → List Nat → List (List Nat)
  | 0, _ => []
  | _, [] => []
  | fuel + 1, l => l.take n :: piecesF n fuel (l.drop n)

/-- Cut a list into pieces of n. -/
def pieces (n : Nat) (l : List Nat) : List (List Nat) := piecesF n (ceilDiv l.length n) l

/-- The round keys of a key of 16, 24 or 32 bytes, in order, 16 bytes each. -/
def roundKeys (key : List Nat) : List (List Nat) :=
  let nk := key.length / 4
  pieces 16 ((keyWords nk (4 * (nk + 7) - nk) nk (pieces 4 key).reverse).reverse.flatten)

/-- Byte i of a block. -/
def at16 (b : List Nat) (i : Nat) : Nat := (b[i]?).getD 0

/-- ShiftRows. -/
def shiftRows (b : List Nat) : List Nat :=
  (List.range 16).map (fun i => at16 b (i % 4 + 4 * ((i / 4 + i % 4) % 4)))

/-- Inverse ShiftRows. -/
def unshiftRows (b : List Nat) : List Nat :=
  (List.range 16).map (fun i => at16 b (i % 4 + 4 * ((i / 4 + 4 - i % 4) % 4)))

/-- A column product with the circulant row c0 c1 c2 c3. -/
def mixWith (c0 c1 c2 c3 : Nat) (b : List Nat) : List Nat :=
  (List.range 16).map (fun i =>
    let c := 4 * (i / 4)
    let r := i % 4
    gmul (at16 b (c + r)) c0 ^^^ gmul (at16 b (c + (r + 1) % 4)) c1 ^^^ gmul (at16 b (c + (r + 2) % 4)) c2 ^^^
      gmul (at16 b (c + (r + 3) % 4)) c3)

/-- The rounds of encryption after the first key. -/
def encRounds : List (List Nat) → List Nat → List Nat
  | [], b => b
  | [k], b => xorB (shiftRows (b.map (byteOf sboxRows))) k
  | k :: ks, b => encRounds ks (xorB (mixWith 2 3 1 1 (shiftRows (b.map (byteOf sboxRows)))) k)

/-- AES encryption of one block. -/
def aesEnc (key block : List Nat) : List Nat :=
  match roundKeys key with
  | [] => block
  | k :: ks => encRounds ks (xorB block k)

/-- The rounds of decryption after the last key. -/
def decRounds : List (List Nat) → List Nat → List Nat
  | [], b => b
  | [k], b => xorB ((unshiftRows b).map (byteOf invSboxRows)) k
  | k :: ks, b => decRounds ks (mixWith 14 11 13 9 (xorB ((unshiftRows b).map (byteOf invSboxRows)) k))

/-- AES decryption of one block. -/
def aesDec (key block : List Nat) : List Nat :=
  match (roundKeys key).reverse with
  | [] => block
  | k :: ks => decRounds ks (xorB block k)

/-- A number as n bytes, most significant first. -/
def beNat (n v : Nat) : List Nat := (beBytes n v).map (·.toNat)

/-- The number of bytes, most significant first. -/
def natBe : List Nat → Nat := fun l => l.foldl (fun a b => a * 256 + b) 0

/-- The next counter block: its last 4 bytes count blocks. -/
def inc32 (b : List Nat) : List Nat := b.take 12 ++ beNat 4 ((natBe (b.drop 12) + 1) % 2 ^ 32)

/-- CTR mode over the pieces of the data. -/
def ctrBlocks (key : List Nat) : List Nat → List (List Nat) → List Nat
  | _, [] => []
  | c, d :: ds => xorB d (aesEnc key c) ++ ctrBlocks key (inc32 c) ds

/-- CTR mode from an initial counter block. -/
def aesCtr (key iv data : List Nat) : List Nat := ctrBlocks key iv (pieces 16 data)

/-- Product in GF(2^128) of GCM: n bits of x from its most significant one. -/
def ghMul (x : Nat) : Nat → Nat → Nat → Nat
  | 0, _, z => z
  | n + 1, v, z =>
    ghMul x n (if v.testBit 0 then (v / 2) ^^^ (0xE1 <<< 120) else v / 2) (if x.testBit n then z ^^^ v else z)

/-- GHASH over 16-byte pieces. -/
def ghash (h : Nat) (ps : List (List Nat)) : Nat :=
  ps.foldl (fun y p => ghMul (y ^^^ natBe (p ++ List.replicate (16 - p.length) 0)) 128 h 0) 0

/-- The GCM tag (96-bit IV). -/
def gcmTag (key iv aad cipher : List Nat) : List Nat :=
  let h := natBe (aesEnc key (List.replicate 16 0))
  let lens := beNat 8 (8 * aad.length) ++ beNat 8 (8 * cipher.length)
  xorB (beNat 16 (ghash h (pieces 16 aad ++ pieces 16 cipher ++ [lens]))) (aesEnc key (iv ++ [0, 0, 0, 1]))

/-- GCM's CTR part: it begins at block 2. -/
def gcmCtr (key iv data : List Nat) : List Nat := aesCtr key (iv ++ [0, 0, 0, 2]) data

/-- Doubling in the field of CMAC. -/
def cmacDouble (v : Nat) : Nat := (v * 2 % 2 ^ 128) ^^^ (if v.testBit 127 then 0x87 else 0)

/-- The CBC chain of CMAC over whole blocks. -/
def cbcMac (key : List Nat) : List Nat → List (List Nat) → List Nat
  | c, [] => c
  | c, b :: bs => cbcMac key (aesEnc key (xorB c b)) bs

/-- CMAC. -/
def aesCmac (key data : List Nat) : List Nat :=
  let k1 := cmacDouble (natBe (aesEnc key (List.replicate 16 0)))
  let k2 := cmacDouble k1
  let n := if data.length = 0 then 1 else ceilDiv data.length 16
  let head := data.take (16 * (n - 1))
  let last := data.drop (16 * (n - 1))
  let m := if last.length = 16 then xorB last (beNat 16 k1)
    else xorB (last ++ 0x80 :: List.replicate (15 - last.length) 0) (beNat 16 k2)
  cbcMac key (List.replicate 16 0) (pieces 16 head ++ [m])

/-- One step of RFC 3394 unwrapping, from step t down; r holds the n blocks. -/
def unwrapSteps (key : List Nat) (n : Nat) : Nat → List Nat → List (List Nat) → List Nat × List (List Nat)
  | 0, a, r => (a, r)
  | t + 1, a, r =>
    let i := t % n
    let b := aesDec key (beNat 8 (natBe a ^^^ (t + 1)) ++ (r[i]?).getD [])
    unwrapSteps key n t (b.take 8) (r.set i (b.drop 8))

/-- RFC 3394 unwrapping: the integrity value and the key. -/
def unwrapKey (key cipher : List Nat) : List Nat × List Nat :=
  let bs := pieces 8 cipher
  let n := bs.length - 1
  let r := unwrapSteps key n (6 * n) ((bs[0]?).getD []) (bs.drop 1)
  (r.1, r.2.flatten)

/-- Eight bit steps of CRC-32. -/
def crc32Bits : Nat → Nat → Nat
  | 0, c => c
  | n + 1, c => crc32Bits n (if c.testBit 0 then (c / 2) ^^^ 0xEDB88320 else c / 2)

/-- CRC-32 of IEEE 802.3. -/
def crc32 (bs : List Nat) : Nat := (bs.foldl (fun c b => crc32Bits 8 (c ^^^ b)) 0xFFFFFFFF) ^^^ 0xFFFFFFFF

end Sys2Proof.Machine
end

