-- ==== Sys2Proof/Machine/Fields.lean ====
section
/-! DEFINITION. BAR0 offsets of the registers (R.<name>) and their writable fields (F.<register>_<field>), with the
names the register tables of the spec give them. Offsets are BAR0 offsets (R592, Table 22-1); the ring registers, which
every function maps at the same offsets (R550), are keyed by function f at 0x10000000 + f * 0x10000000 + offset. -/

namespace Sys2Proof.Machine

/-- A register field: the register's offset, its high bit and its low bit (R3). -/
structure Fld where
  off : Nat
  hi : Nat
  lo : Nat
  deriving DecidableEq, Repr

abbrev R.TICK_CFG : Nat := 0x03800000
abbrev R.TICK_OFFSET : Nat := 0x03800004
abbrev R.TICK_STATUS : Nat := 0x03800008
abbrev R.TICK_COUNT_LO : Nat := 0x03800010
abbrev R.TICK_COUNT_HI : Nat := 0x03800014
abbrev R.TICK_INDEX : Nat := 0x03800018
abbrev R.TICK_PHASE_ERR : Nat := 0x0380001c
abbrev R.TICK_OUT_CFG : Nat := 0x03800020
abbrev R.PON_RX_CFG (n : Nat) : Nat := 0x00400000 + n * 0x10000
abbrev R.PON_FE_CFG (n : Nat) : Nat := 0x00400004 + n * 0x10000
abbrev R.PON_RX_STATUS (n : Nat) : Nat := 0x00400008 + n * 0x10000
abbrev R.PON_EQ_CTL (n : Nat) : Nat := 0x00400010 + n * 0x10000
abbrev R.PON_EQ_STATUS (n : Nat) : Nat := 0x00400014 + n * 0x10000
abbrev R.PON_EQ_TAP (n i : Nat) : Nat := 0x00400040 + n * 0x10000 + i * 0x4
abbrev R.PON_SYNC_CFG (n : Nat) : Nat := 0x004000c0 + n * 0x10000
abbrev R.PON_SYNC_STATUS (n : Nat) : Nat := 0x004000c4 + n * 0x10000
abbrev R.PON_SFC_LO (n : Nat) : Nat := 0x004000c8 + n * 0x10000
abbrev R.PON_SFC_HI (n : Nat) : Nat := 0x004000cc + n * 0x10000
abbrev R.PON_FEC_CFG (n : Nat) : Nat := 0x004000d0 + n * 0x10000
abbrev R.PON_STAT_CTL (n : Nat) : Nat := 0x004000e0 + n * 0x10000
abbrev R.PON_STAT_SAT (n : Nat) : Nat := 0x004000e4 + n * 0x10000
abbrev R.PON_TC_CFG (n : Nat) : Nat := 0x00400200 + n * 0x10000
abbrev R.PON_TC_STATUS (n : Nat) : Nat := 0x00400204 + n * 0x10000
abbrev R.PON_SN_VID (n : Nat) : Nat := 0x00400208 + n * 0x10000
abbrev R.PON_SN_VSSN (n : Nat) : Nat := 0x0040020c + n * 0x10000
abbrev R.PON_EQD (n : Nat) : Nat := 0x00400210 + n * 0x10000
abbrev R.PON_TC_SAT (n : Nat) : Nat := 0x004002c0 + n * 0x10000
abbrev R.PON_US_CFG (n : Nat) : Nat := 0x00400300 + n * 0x10000
abbrev R.PON_US_BEN (n : Nat) : Nat := 0x00400304 + n * 0x10000
abbrev R.PON_US_STATUS (n : Nat) : Nat := 0x00400308 + n * 0x10000
abbrev R.PON_US_SAT (n : Nat) : Nat := 0x004003c0 + n * 0x10000
abbrev R.BOND_STATUS (g : Nat) : Nat := 0x00600000 + g * 0x100
abbrev R.BOND_SAT (g : Nat) : Nat := 0x006000c0 + g * 0x100
abbrev R.VE_CTL (e : Nat) : Nat := 0x01000000 + e * 0x10000
abbrev R.VE_STATUS (e : Nat) : Nat := 0x01000004 + e * 0x10000
abbrev R.VE_FAULT (e : Nat) : Nat := 0x01000008 + e * 0x10000
abbrev R.VE_PC (e : Nat) : Nat := 0x0100000c + e * 0x10000
abbrev R.VE_DOORBELL (e : Nat) : Nat := 0x01000010 + e * 0x10000
abbrev R.VE_SPAD_PAGE (e : Nat) : Nat := 0x01000014 + e * 0x10000
abbrev R.VE_IDLE (e : Nat) : Nat := 0x01000018 + e * 0x10000
abbrev R.VE_BUF (e i : Nat) : Nat := 0x01000020 + e * 0x10000 + i * 0x4
abbrev R.VE_SAT (e : Nat) : Nat := 0x01000060 + e * 0x10000
abbrev R.SLAB_CTL (e : Nat) : Nat := 0x01000100 + e * 0x10000
abbrev R.SLAB_STATUS (e : Nat) : Nat := 0x01000104 + e * 0x10000
abbrev R.SLAB_ADDR (e : Nat) : Nat := 0x01000108 + e * 0x10000
abbrev R.SLAB_DATA (e i : Nat) : Nat := 0x01000110 + e * 0x10000 + i * 0x4
abbrev R.SLAB_DATA_CHECK (e : Nat) : Nat := 0x01000130 + e * 0x10000
abbrev R.SLAB_SAT (e : Nat) : Nat := 0x01000150 + e * 0x10000
abbrev R.VE_RETIRE_CFG : Nat := 0x00800000
abbrev R.VE_SPARE (i : Nat) : Nat := 0x00800010 + i * 0x4
abbrev R.VE_RETIRED (i : Nat) : Nat := 0x00800020 + i * 0x4
abbrev R.VE_COPY_STATUS : Nat := 0x00800030
abbrev R.VS_STATUS : Nat := 0x00800100
abbrev R.VS_CUTOFF : Nat := 0x00800104
abbrev R.VS_GROUP (g : Nat) : Nat := 0x00800110 + g * 0x4
abbrev R.VS_PORT_LATE (i : Nat) : Nat := 0x00800140 + i * 0x4
abbrev R.VS_SAT : Nat := 0x00800180
abbrev R.VS_TG (e : Nat) : Nat := 0x00800200 + e * 0x4
abbrev R.SVL_PORT_CFG (p : Nat) : Nat := 0x00801000 + p * 0x100
abbrev R.SVL_PORT_STATUS (p : Nat) : Nat := 0x00801004 + p * 0x100
abbrev R.SVL_SKEW (p : Nat) : Nat := 0x00801008 + p * 0x100
abbrev R.SVL_LINE_SEL (p : Nat) : Nat := 0x0080100c + p * 0x100
abbrev R.SVL_LINE_DATA (p : Nat) : Nat := 0x00801010 + p * 0x100
abbrev R.SVL_STAT_CTL (p : Nat) : Nat := 0x00801014 + p * 0x100
abbrev R.SVL_SAT (p : Nat) : Nat := 0x00801018 + p * 0x100
abbrev R.LANE_CFG (l : Nat) : Nat := 0x02000000 + l * 0x1000
abbrev R.LANE_PWR (l : Nat) : Nat := 0x02000004 + l * 0x1000
abbrev R.LANE_STATUS (l : Nat) : Nat := 0x02000008 + l * 0x1000
abbrev R.LANE_TXFIR (l r : Nat) : Nat := 0x02000010 + l * 0x1000 + r * 0x4
abbrev R.LANE_RXEQ (l r : Nat) : Nat := 0x02000020 + l * 0x1000 + r * 0x4
abbrev R.LANE_PAT_CFG (l : Nat) : Nat := 0x02000040 + l * 0x1000
abbrev R.LANE_PAT_USER_LO (l : Nat) : Nat := 0x02000044 + l * 0x1000
abbrev R.LANE_PAT_USER_HI (l : Nat) : Nat := 0x02000048 + l * 0x1000
abbrev R.LANE_INJ (l : Nat) : Nat := 0x02000050 + l * 0x1000
abbrev R.LANE_EYE_CFG (l : Nat) : Nat := 0x02000060 + l * 0x1000
abbrev R.LANE_EYE_STATUS (l : Nat) : Nat := 0x02000064 + l * 0x1000
abbrev R.LANE_EYE_ADDR (l : Nat) : Nat := 0x02000068 + l * 0x1000
abbrev R.LANE_EYE_DATA (l : Nat) : Nat := 0x0200006c + l * 0x1000
abbrev R.LANE_SAT (l : Nat) : Nat := 0x020000a0 + l * 0x1000
abbrev R.ETH_CFG (m : Nat) : Nat := 0x02800000 + m * 0x1000
abbrev R.ETH_STATUS (m : Nat) : Nat := 0x02800004 + m * 0x1000
abbrev R.ETH_TAG_RX (m : Nat) : Nat := 0x02800008 + m * 0x1000
abbrev R.ETH_TAG_TX (m : Nat) : Nat := 0x0280000c + m * 0x1000
abbrev R.ETH_TAG_TX_VID (m : Nat) : Nat := 0x02800010 + m * 0x1000
abbrev R.ETH_PCP_MAP (m i : Nat) : Nat := 0x02800014 + m * 0x1000 + i * 0x4
abbrev R.ETH_PAUSE (m : Nat) : Nat := 0x02800020 + m * 0x1000
abbrev R.ETH_GLIDE (m : Nat) : Nat := 0x02800024 + m * 0x1000
abbrev R.ETH_GLIDE_STATUS (m : Nat) : Nat := 0x02800028 + m * 0x1000
abbrev R.ETH_STAT_CTL (m : Nat) : Nat := 0x02800030 + m * 0x1000
abbrev R.ETH_SAT (m : Nat) : Nat := 0x02800034 + m * 0x1000
abbrev R.ETH_SA_LO (m : Nat) : Nat := 0x02800040 + m * 0x1000
abbrev R.ETH_SA_HI (m : Nat) : Nat := 0x02800044 + m * 0x1000
abbrev R.ETH_MCHASH (m i : Nat) : Nat := 0x02800200 + m * 0x1000 + i * 0x4
abbrev R.CLS_CFG : Nat := 0x03000000
abbrev R.CLS_VER_STATUS : Nat := 0x03000004
abbrev R.CLS_STAT_CTL : Nat := 0x03000010
abbrev R.CLS_SAT : Nat := 0x03000014
abbrev R.CLS_INFLIGHT (v : Nat) : Nat := 0x03000020 + v * 0x4
abbrev R.CLS_SRC_CFG (s : Nat) : Nat := 0x03000200 + s * 0x20
abbrev R.CLS_SRC_DEF_LO (s : Nat) : Nat := 0x03000208 + s * 0x20
abbrev R.CLS_SRC_DEF_HI (s : Nat) : Nat := 0x0300020c + s * 0x20
abbrev R.CLS_SRC_FRAG_LO (s : Nat) : Nat := 0x03000210 + s * 0x20
abbrev R.CLS_SRC_FRAG_HI (s : Nat) : Nat := 0x03000214 + s * 0x20
abbrev R.FWD_CFG : Nat := 0x03000600
abbrev R.FWD_AGE_CFG : Nat := 0x03000604
abbrev R.FWD_MOVE_CFG : Nat := 0x03000608
abbrev R.FWD_NOW : Nat := 0x0300060c
abbrev R.FWD_STATUS : Nat := 0x03000610
abbrev R.FWD_STAT_CTL : Nat := 0x03000614
abbrev R.FWD_SAT : Nat := 0x03000618
abbrev R.FWD_PORT_CFG (s : Nat) : Nat := 0x03000700 + s * 0x4
abbrev R.FWD_PORT_USE (s : Nat) : Nat := 0x03000780 + s * 0x4
abbrev R.BUF_POOL_CFG (i : Nat) : Nat := 0x03000800 + i * 0x4
abbrev R.BUF_POOL_STATUS (i : Nat) : Nat := 0x03000810 + i * 0x4
abbrev R.BUF_SAT : Nat := 0x03000824
abbrev R.HOST_DQ_CFG (q : Nat) : Nat := 0x03e00000 + q * 0x40
abbrev R.HOST_DQ_HOLD (q : Nat) : Nat := 0x03e00004 + q * 0x40
abbrev R.HOST_DQ_BASE_LO (q : Nat) : Nat := 0x03e00008 + q * 0x40
abbrev R.HOST_DQ_BASE_HI (q : Nat) : Nat := 0x03e0000c + q * 0x40
abbrev R.HOST_DQ_TAIL (q : Nat) : Nat := 0x03e00010 + q * 0x40
abbrev R.HOST_DQ_HEAD (q : Nat) : Nat := 0x03e00014 + q * 0x40
abbrev R.HOST_DQ_POP_LO (q : Nat) : Nat := 0x03e00018 + q * 0x40
abbrev R.HOST_DQ_POP_HI (q : Nat) : Nat := 0x03e0001c + q * 0x40
abbrev R.HOST_HQ_CFG (q : Nat) : Nat := 0x03e01000 + q * 0x40
abbrev R.HOST_HQ_BASE_LO (q : Nat) : Nat := 0x03e01008 + q * 0x40
abbrev R.HOST_HQ_BASE_HI (q : Nat) : Nat := 0x03e0100c + q * 0x40
abbrev R.HOST_HQ_TAIL (q : Nat) : Nat := 0x03e01010 + q * 0x40
abbrev R.HOST_HQ_HEAD (q : Nat) : Nat := 0x03e01014 + q * 0x40
abbrev R.HOST_HQ_WB_LO (q : Nat) : Nat := 0x03e01018 + q * 0x40
abbrev R.HOST_HQ_WB_HI (q : Nat) : Nat := 0x03e0101c + q * 0x40
abbrev R.HOST_DQ_SAT (q : Nat) : Nat := 0x03e00034 + q * 0x40
abbrev R.HOST_HQ_SAT (q : Nat) : Nat := 0x03e01034 + q * 0x40
abbrev R.HOST_POP_LO (f : Nat) : Nat := 0x03e02000 + f * 0x10
abbrev R.HOST_POP_HI (f : Nat) : Nat := 0x03e02004 + f * 0x10
abbrev R.HOST_STAT_CTL : Nat := 0x03e03000
abbrev R.SCH_STATUS : Nat := 0x03000900
abbrev R.SCH_TEST_PORTS : Nat := 0x03000904
abbrev R.SCH_SAMPLE_CFG : Nat := 0x03000910
abbrev R.SCH_SAMPLE_BASE_LO : Nat := 0x03000914
abbrev R.SCH_SAMPLE_BASE_HI : Nat := 0x03000918
abbrev R.SCH_SAMPLE_SIZE : Nat := 0x0300091c
abbrev R.SCH_SAMPLE_WR : Nat := 0x03000920
abbrev R.SCH_SAMPLE_RD : Nat := 0x03000924
abbrev R.SCH_STAT_CTL : Nat := 0x03000930
abbrev R.SCH_SAT : Nat := 0x03000934
abbrev R.SCH_PORT_HELD (i : Nat) : Nat := 0x03000a00 + i * 0x4
abbrev R.TIME_CFG : Nat := 0x03801000
abbrev R.TIME_STATUS : Nat := 0x03801004
abbrev R.TIME_INC_LO : Nat := 0x03801008
abbrev R.TIME_INC_HI : Nat := 0x0380100c
abbrev R.TIME_ARG_INC_LO : Nat := 0x03801010
abbrev R.TIME_ARG_INC_HI : Nat := 0x03801014
abbrev R.TIME_ARG_SEC_LO : Nat := 0x03801018
abbrev R.TIME_ARG_SEC_HI : Nat := 0x0380101c
abbrev R.TIME_ARG_NS : Nat := 0x03801020
abbrev R.TIME_ARG_FRAC : Nat := 0x03801024
abbrev R.TIME_CMD : Nat := 0x03801028
abbrev R.TIME_ANCHOR_LO : Nat := 0x03801030
abbrev R.TIME_ANCHOR_HI : Nat := 0x03801034
abbrev R.TIME_RD_RAW_LO : Nat := 0x03801040
abbrev R.TIME_RD_RAW_HI : Nat := 0x03801044
abbrev R.TIME_RD_SEC_LO : Nat := 0x03801048
abbrev R.TIME_RD_SEC_HI : Nat := 0x0380104c
abbrev R.TIME_RD_NS : Nat := 0x03801050
abbrev R.TIME_RD_FRAC : Nat := 0x03801054
abbrev R.TIME_CAP (i : Nat) : Nat := 0x03801060 + i * 0x4
abbrev R.TIME_CAP_STATUS : Nat := 0x03801080
abbrev R.TIME_RXCAP_Q_LO : Nat := 0x03801090
abbrev R.TIME_RXCAP_Q_HI : Nat := 0x03801094
abbrev R.TIME_LAUNCH_CFG : Nat := 0x038010a0
abbrev R.TIME_PON_CFG (n : Nat) : Nat := 0x038010c0 + n * 0x4
abbrev R.TIME_PON_TARGET (n : Nat) : Nat := 0x038010d0 + n * 0x4
abbrev R.TIME_PPS_CFG : Nat := 0x03801100
abbrev R.TIME_SYNCE_CFG (i : Nat) : Nat := 0x03801110 + i * 0x4
abbrev R.TIME_TOD_CFG : Nat := 0x03801120
abbrev R.TIME_TOD_UTC : Nat := 0x03801124
abbrev R.TIME_TOD_RX : Nat := 0x03801128
abbrev R.TIME_SAT : Nat := 0x03801160
abbrev R.TIME_STAT_CTL : Nat := 0x03801164
abbrev R.CIPH_STATUS : Nat := 0x03a00000
abbrev R.CIPH_SALT : Nat := 0x03a00004
abbrev R.CIPH_KEY_SEL : Nat := 0x03a00010
abbrev R.CIPH_KEY_CMD : Nat := 0x03a00014
abbrev R.CIPH_KEY_DATA (i : Nat) : Nat := 0x03a00020 + i * 0x4
abbrev R.CIPH_RQ_CFG : Nat := 0x03a00100
abbrev R.CIPH_RQ_BASE_LO : Nat := 0x03a00104
abbrev R.CIPH_RQ_BASE_HI : Nat := 0x03a00108
abbrev R.CIPH_RP_BASE_LO : Nat := 0x03a0010c
abbrev R.CIPH_RP_BASE_HI : Nat := 0x03a00110
abbrev R.CIPH_RQ_TAIL : Nat := 0x03a00114
abbrev R.CIPH_RQ_HEAD : Nat := 0x03a00118
abbrev R.CIPH_STAT_CTL : Nat := 0x03a00160
abbrev R.CIPH_SAT : Nat := 0x03a00164
abbrev R.CIPH_SLOT (k : Nat) : Nat := 0x03a01000 + k * 0x4
abbrev R.MEM_DDR_CFG : Nat := 0x03c00000
abbrev R.MEM_DDR_STATUS : Nat := 0x03c00004
abbrev R.MEM_SCRUB_CFG (m : Nat) : Nat := 0x03c00010 + m * 0x8
abbrev R.MEM_SCRUB_STATUS (m : Nat) : Nat := 0x03c00014 + m * 0x8
abbrev R.MEM_INJ : Nat := 0x03c00100
abbrev R.MEM_INJ_PAT : Nat := 0x03c00104
abbrev R.MEM_STAT_CTL : Nat := 0x03c00240
abbrev R.MEM_SAT : Nat := 0x03c00244
abbrev R.MEM_DDR_SAT : Nat := 0x03c00248
abbrev R.MEM_DDR_SYM (k : Nat) : Nat := 0x03c00280 + k * 0x4
abbrev R.MEM_UE_LOG_A (i : Nat) : Nat := 0x03c00300 + i * 0x8
abbrev R.MEM_UE_LOG_B (i : Nat) : Nat := 0x03c00304 + i * 0x8
abbrev R.MEM_UE_LOG_PTR : Nat := 0x03c00340
abbrev R.PWR_STATUS : Nat := 0x00200000
abbrev R.PWR_BUDGET_CFG : Nat := 0x00200004
abbrev R.PWR_THERM_CFG : Nat := 0x00200008
abbrev R.PWR_FEED_CFG : Nat := 0x0020000c
abbrev R.PWR_FEED_HOST : Nat := 0x00200010
abbrev R.PWR_GRADE : Nat := 0x00200014
abbrev R.PWR_MEAS : Nat := 0x00200018
abbrev R.PWR_TEMP (i : Nat) : Nat := 0x00200020 + i * 0x4
abbrev R.PWR_WAKE_CFG : Nat := 0x00200040
abbrev R.PWR_WAKE_TIMER : Nat := 0x00200044
abbrev R.PWR_HAZE_CFG : Nat := 0x00200048
abbrev R.PWR_STAT_CTL : Nat := 0x00200090
abbrev R.PWR_SAT : Nat := 0x00200094
abbrev R.HOST_ID (f : Nat) : Nat := 0x10000000 + f * 0x10000000
abbrev R.HOST_RING_CFG (f : Nat) : Nat := 0x10001000 + f * 0x10000000
abbrev R.HOST_RING_VEC (f : Nat) : Nat := 0x10001004 + f * 0x10000000
abbrev R.HOST_RING_STATUS (f : Nat) : Nat := 0x10001008 + f * 0x10000000
abbrev R.HOST_CMD_BASE_LO (f : Nat) : Nat := 0x10001010 + f * 0x10000000
abbrev R.HOST_CMD_BASE_HI (f : Nat) : Nat := 0x10001014 + f * 0x10000000
abbrev R.HOST_CMD_TAIL (f : Nat) : Nat := 0x10001018 + f * 0x10000000
abbrev R.HOST_CMD_HEAD (f : Nat) : Nat := 0x1000101c + f * 0x10000000
abbrev R.HOST_RPL_BASE_LO (f : Nat) : Nat := 0x10001020 + f * 0x10000000
abbrev R.HOST_RPL_BASE_HI (f : Nat) : Nat := 0x10001024 + f * 0x10000000
abbrev R.HOST_RPL_WR (f : Nat) : Nat := 0x10001028 + f * 0x10000000
abbrev R.HOST_RPL_RD (f : Nat) : Nat := 0x1000102c + f * 0x10000000
abbrev R.HOST_EVT_BASE_LO (f : Nat) : Nat := 0x10001030 + f * 0x10000000
abbrev R.HOST_EVT_BASE_HI (f : Nat) : Nat := 0x10001034 + f * 0x10000000
abbrev R.HOST_EVT_WR (f : Nat) : Nat := 0x10001038 + f * 0x10000000
abbrev R.HOST_EVT_RD (f : Nat) : Nat := 0x1000103c + f * 0x10000000
abbrev R.HOST_WB_LO (f : Nat) : Nat := 0x10001040 + f * 0x10000000
abbrev R.HOST_WB_HI (f : Nat) : Nat := 0x10001044 + f * 0x10000000
abbrev R.HOST_EVT_LOST (f : Nat) : Nat := 0x10001048 + f * 0x10000000
abbrev R.BOOT_STATUS : Nat := 0x00002000
abbrev R.BOOT_RESTART : Nat := 0x00002004
abbrev R.BOOT_QSPI_ADDR : Nat := 0x00002010
abbrev R.BOOT_QSPI_CMD : Nat := 0x00002014
abbrev R.BOOT_QSPI_DATA (i : Nat) : Nat := 0x00002100 + i * 0x4
abbrev R.PWR_JRN_STATUS : Nat := 0x00200100
abbrev R.PWR_JRN_PRESC : Nat := 0x00200104
abbrev R.PWR_JRN_CLEAR : Nat := 0x00200108
abbrev R.PWR_JRN_ENG (i : Nat) : Nat := 0x00200110 + i * 0x4
abbrev R.HOST_ACC_ERR (f : Nat) : Nat := 0x10001050 + f * 0x10000000
abbrev R.BOND_STAT_CTL : Nat := 0x00600400
abbrev R.BUF_STAT_CTL : Nat := 0x03000820

abbrev F.TICK_CFG_PRIO3 : Fld := ⟨R.TICK_CFG, 19, 18⟩
abbrev F.TICK_CFG_PRIO2 : Fld := ⟨R.TICK_CFG, 17, 16⟩
abbrev F.TICK_CFG_PRIO1 : Fld := ⟨R.TICK_CFG, 15, 14⟩
abbrev F.TICK_CFG_PRIO0 : Fld := ⟨R.TICK_CFG, 13, 12⟩
abbrev F.TICK_CFG_ELIGIBLE : Fld := ⟨R.TICK_CFG, 11, 8⟩
abbrev F.TICK_CFG_REVERT : Fld := ⟨R.TICK_CFG, 7, 7⟩
abbrev F.TICK_CFG_BW : Fld := ⟨R.TICK_CFG, 6, 4⟩
abbrev F.TICK_OFFSET_OFFSET : Fld := ⟨R.TICK_OFFSET, 14, 0⟩
abbrev F.TICK_OUT_CFG_POLARITY : Fld := ⟨R.TICK_OUT_CFG, 1, 1⟩
abbrev F.TICK_OUT_CFG_ENABLE : Fld := ⟨R.TICK_OUT_CFG, 0, 0⟩
abbrev F.PON_RX_CFG_POL (n : Nat) : Fld := ⟨R.PON_RX_CFG n, 2, 2⟩
abbrev F.PON_RX_CFG_MODE (n : Nat) : Fld := ⟨R.PON_RX_CFG n, 1, 1⟩
abbrev F.PON_RX_CFG_ENABLE (n : Nat) : Fld := ⟨R.PON_RX_CFG n, 0, 0⟩
abbrev F.PON_FE_CFG_LOS_THR (n : Nat) : Fld := ⟨R.PON_FE_CFG n, 21, 16⟩
abbrev F.PON_FE_CFG_VGA (n : Nat) : Fld := ⟨R.PON_FE_CFG n, 12, 8⟩
abbrev F.PON_FE_CFG_CTLE (n : Nat) : Fld := ⟨R.PON_FE_CFG n, 3, 0⟩
abbrev F.PON_EQ_CTL_ACQ_TIME (n : Nat) : Fld := ⟨R.PON_EQ_CTL n, 31, 24⟩
abbrev F.PON_EQ_CTL_MU_TRK (n : Nat) : Fld := ⟨R.PON_EQ_CTL n, 23, 19⟩
abbrev F.PON_EQ_CTL_MU_ACQ (n : Nat) : Fld := ⟨R.PON_EQ_CTL n, 18, 14⟩
abbrev F.PON_EQ_CTL_DIV_THR (n : Nat) : Fld := ⟨R.PON_EQ_CTL n, 13, 4⟩
abbrev F.PON_EQ_CTL_DFE_EN (n : Nat) : Fld := ⟨R.PON_EQ_CTL n, 3, 3⟩
abbrev F.PON_EQ_CTL_SNAP (n : Nat) : Fld := ⟨R.PON_EQ_CTL n, 2, 2⟩
abbrev F.PON_EQ_CTL_RESET (n : Nat) : Fld := ⟨R.PON_EQ_CTL n, 1, 1⟩
abbrev F.PON_EQ_CTL_FREEZE (n : Nat) : Fld := ⟨R.PON_EQ_CTL n, 0, 0⟩
abbrev F.PON_EQ_TAP_VALUE (n i : Nat) : Fld := ⟨R.PON_EQ_TAP n i, 11, 0⟩
abbrev F.PON_SYNC_CFG_CONFIRM (n : Nat) : Fld := ⟨R.PON_SYNC_CFG n, 12, 10⟩
abbrev F.PON_SYNC_CFG_LOSS (n : Nat) : Fld := ⟨R.PON_SYNC_CFG n, 9, 6⟩
abbrev F.PON_SYNC_CFG_TRACK_TOL (n : Nat) : Fld := ⟨R.PON_SYNC_CFG n, 5, 3⟩
abbrev F.PON_SYNC_CFG_HUNT_TOL (n : Nat) : Fld := ⟨R.PON_SYNC_CFG n, 2, 0⟩
abbrev F.PON_FEC_CFG_MAX_ITER (n : Nat) : Fld := ⟨R.PON_FEC_CFG n, 4, 0⟩
abbrev F.PON_STAT_CTL_PERIOD (n : Nat) : Fld := ⟨R.PON_STAT_CTL n, 19, 8⟩
abbrev F.PON_STAT_CTL_SNAP (n : Nat) : Fld := ⟨R.PON_STAT_CTL n, 0, 0⟩
abbrev F.PON_STAT_SAT_SAT (n : Nat) : Fld := ⟨R.PON_STAT_SAT n, 9, 0⟩
abbrev F.PON_TC_CFG_TO2 (n : Nat) : Fld := ⟨R.PON_TC_CFG n, 23, 16⟩
abbrev F.PON_TC_CFG_TO1 (n : Nat) : Fld := ⟨R.PON_TC_CFG n, 15, 8⟩
abbrev F.PON_TC_CFG_PLOAM_COPY (n : Nat) : Fld := ⟨R.PON_TC_CFG n, 2, 2⟩
abbrev F.PON_TC_CFG_HOLD_ON_DEACT (n : Nat) : Fld := ⟨R.PON_TC_CFG n, 1, 1⟩
abbrev F.PON_TC_CFG_ACT_HOLD (n : Nat) : Fld := ⟨R.PON_TC_CFG n, 0, 0⟩
abbrev F.PON_TC_SAT_SAT (n : Nat) : Fld := ⟨R.PON_TC_SAT n, 9, 0⟩
abbrev F.PON_US_CFG_BEN_POL (n : Nat) : Fld := ⟨R.PON_US_CFG n, 0, 0⟩
abbrev F.PON_US_BEN_LEAD (n : Nat) : Fld := ⟨R.PON_US_BEN n, 31, 16⟩
abbrev F.PON_US_BEN_LAG (n : Nat) : Fld := ⟨R.PON_US_BEN n, 15, 0⟩
abbrev F.PON_US_SAT_SAT (n : Nat) : Fld := ⟨R.PON_US_SAT n, 5, 0⟩
abbrev F.BOND_SAT_SAT (g : Nat) : Fld := ⟨R.BOND_SAT g, 6, 0⟩
abbrev F.VE_CTL_TAG_CHECK (e : Nat) : Fld := ⟨R.VE_CTL e, 9, 9⟩
abbrev F.VE_CTL_CMD (e : Nat) : Fld := ⟨R.VE_CTL e, 1, 0⟩
abbrev F.VE_STATUS_SAT (e : Nat) : Fld := ⟨R.VE_STATUS e, 25, 25⟩
abbrev F.VE_STATUS_APERTURE_REFUSED (e : Nat) : Fld := ⟨R.VE_STATUS e, 24, 24⟩
abbrev F.VE_DOORBELL_RING (e : Nat) : Fld := ⟨R.VE_DOORBELL e, 0, 0⟩
abbrev F.VE_SPAD_PAGE_PAGE (e : Nat) : Fld := ⟨R.VE_SPAD_PAGE e, 1, 0⟩
abbrev F.VE_BUF_BASE (e i : Nat) : Fld := ⟨R.VE_BUF e i, 16, 5⟩
abbrev F.VE_SAT_SAT (e : Nat) : Fld := ⟨R.VE_SAT e, 5, 0⟩
abbrev F.SLAB_CTL_MODE (e : Nat) : Fld := ⟨R.SLAB_CTL e, 1, 0⟩
abbrev F.SLAB_STATUS_IND_REFUSED (e : Nat) : Fld := ⟨R.SLAB_STATUS e, 26, 26⟩
abbrev F.SLAB_ADDR_GO (e : Nat) : Fld := ⟨R.SLAB_ADDR e, 31, 31⟩
abbrev F.SLAB_ADDR_WR (e : Nat) : Fld := ⟨R.SLAB_ADDR e, 30, 30⟩
abbrev F.SLAB_ADDR_WORD (e : Nat) : Fld := ⟨R.SLAB_ADDR e, 16, 0⟩
abbrev F.SLAB_DATA_DATA (e i : Nat) : Fld := ⟨R.SLAB_DATA e i, 31, 0⟩
abbrev F.SLAB_SAT_SAT (e : Nat) : Fld := ⟨R.SLAB_SAT e, 2, 0⟩
abbrev F.VE_RETIRE_CFG_AUTO : Fld := ⟨R.VE_RETIRE_CFG, 16, 16⟩
abbrev F.VE_RETIRE_CFG_OVR_THR : Fld := ⟨R.VE_RETIRE_CFG, 13, 8⟩
abbrev F.VE_RETIRE_CFG_UE_THR : Fld := ⟨R.VE_RETIRE_CFG, 3, 0⟩
abbrev F.VS_CUTOFF_CUT : Fld := ⟨R.VS_CUTOFF, 10, 0⟩
abbrev F.VS_SAT_SAT : Fld := ⟨R.VS_SAT, 15, 0⟩
abbrev F.SVL_PORT_CFG_LINE_BASE (p : Nat) : Fld := ⟨R.SVL_PORT_CFG p, 31, 24⟩
abbrev F.SVL_PORT_CFG_LINES (p : Nat) : Fld := ⟨R.SVL_PORT_CFG p, 23, 16⟩
abbrev F.SVL_PORT_CFG_FIRST_LANE (p : Nat) : Fld := ⟨R.SVL_PORT_CFG p, 15, 12⟩
abbrev F.SVL_PORT_CFG_WIDTH (p : Nat) : Fld := ⟨R.SVL_PORT_CFG p, 9, 8⟩
abbrev F.SVL_PORT_CFG_TX_REVERSE (p : Nat) : Fld := ⟨R.SVL_PORT_CFG p, 1, 1⟩
abbrev F.SVL_PORT_CFG_ENABLE (p : Nat) : Fld := ⟨R.SVL_PORT_CFG p, 0, 0⟩
abbrev F.SVL_LINE_SEL_LINE (p : Nat) : Fld := ⟨R.SVL_LINE_SEL p, 7, 0⟩
abbrev F.SVL_STAT_CTL_SNAP (p : Nat) : Fld := ⟨R.SVL_STAT_CTL p, 0, 0⟩
abbrev F.SVL_SAT_SAT (p : Nat) : Fld := ⟨R.SVL_SAT p, 7, 0⟩
abbrev F.LANE_CFG_LOOP (l : Nat) : Fld := ⟨R.LANE_CFG l, 9, 8⟩
abbrev F.LANE_CFG_TX_INVERT (l : Nat) : Fld := ⟨R.LANE_CFG l, 1, 1⟩
abbrev F.LANE_CFG_RX_INVERT (l : Nat) : Fld := ⟨R.LANE_CFG l, 0, 0⟩
abbrev F.LANE_PWR_SD_WAKE (l : Nat) : Fld := ⟨R.LANE_PWR l, 2, 2⟩
abbrev F.LANE_PWR_RX_SLEEP (l : Nat) : Fld := ⟨R.LANE_PWR l, 1, 1⟩
abbrev F.LANE_PWR_TX_SLEEP (l : Nat) : Fld := ⟨R.LANE_PWR l, 0, 0⟩
abbrev F.LANE_STATUS_EQ_REFUSED (l : Nat) : Fld := ⟨R.LANE_STATUS l, 8, 8⟩
abbrev F.LANE_TXFIR_PRE (l r : Nat) : Fld := ⟨R.LANE_TXFIR l r, 14, 11⟩
abbrev F.LANE_TXFIR_MAIN (l r : Nat) : Fld := ⟨R.LANE_TXFIR l r, 10, 5⟩
abbrev F.LANE_TXFIR_POST (l r : Nat) : Fld := ⟨R.LANE_TXFIR l r, 4, 0⟩
abbrev F.LANE_RXEQ_VGA (l r : Nat) : Fld := ⟨R.LANE_RXEQ l r, 12, 8⟩
abbrev F.LANE_RXEQ_CTLE (l r : Nat) : Fld := ⟨R.LANE_RXEQ l r, 3, 0⟩
abbrev F.LANE_PAT_CFG_SNAP (l : Nat) : Fld := ⟨R.LANE_PAT_CFG l, 7, 7⟩
abbrev F.LANE_PAT_CFG_INV (l : Nat) : Fld := ⟨R.LANE_PAT_CFG l, 6, 6⟩
abbrev F.LANE_PAT_CFG_PATTERN (l : Nat) : Fld := ⟨R.LANE_PAT_CFG l, 5, 3⟩
abbrev F.LANE_PAT_CFG_CHK_EN (l : Nat) : Fld := ⟨R.LANE_PAT_CFG l, 1, 1⟩
abbrev F.LANE_PAT_CFG_GEN_EN (l : Nat) : Fld := ⟨R.LANE_PAT_CFG l, 0, 0⟩
abbrev F.LANE_PAT_USER_LO_PATTERN (l : Nat) : Fld := ⟨R.LANE_PAT_USER_LO l, 31, 0⟩
abbrev F.LANE_PAT_USER_HI_PATTERN (l : Nat) : Fld := ⟨R.LANE_PAT_USER_HI l, 31, 0⟩
abbrev F.LANE_INJ_GO (l : Nat) : Fld := ⟨R.LANE_INJ l, 31, 31⟩
abbrev F.LANE_INJ_MODE (l : Nat) : Fld := ⟨R.LANE_INJ l, 30, 29⟩
abbrev F.LANE_INJ_LEN (l : Nat) : Fld := ⟨R.LANE_INJ l, 28, 23⟩
abbrev F.LANE_INJ_POS (l : Nat) : Fld := ⟨R.LANE_INJ l, 22, 17⟩
abbrev F.LANE_INJ_PERIOD (l : Nat) : Fld := ⟨R.LANE_INJ l, 16, 12⟩
abbrev F.LANE_INJ_COUNT (l : Nat) : Fld := ⟨R.LANE_INJ l, 11, 0⟩
abbrev F.LANE_EYE_CFG_GO (l : Nat) : Fld := ⟨R.LANE_EYE_CFG l, 31, 31⟩
abbrev F.LANE_EYE_CFG_ABORT (l : Nat) : Fld := ⟨R.LANE_EYE_CFG l, 30, 30⟩
abbrev F.LANE_EYE_CFG_EYE (l : Nat) : Fld := ⟨R.LANE_EYE_CFG l, 29, 28⟩
abbrev F.LANE_EYE_CFG_DWELL (l : Nat) : Fld := ⟨R.LANE_EYE_CFG l, 4, 0⟩
abbrev F.LANE_EYE_ADDR_POINT (l : Nat) : Fld := ⟨R.LANE_EYE_ADDR l, 12, 0⟩
abbrev F.LANE_SAT_SAT (l : Nat) : Fld := ⟨R.LANE_SAT l, 2, 0⟩
abbrev F.ETH_CFG_MAX_LEN (m : Nat) : Fld := ⟨R.ETH_CFG m, 31, 16⟩
abbrev F.ETH_CFG_FEC (m : Nat) : Fld := ⟨R.ETH_CFG m, 11, 10⟩
abbrev F.ETH_CFG_SPEED (m : Nat) : Fld := ⟨R.ETH_CFG m, 9, 8⟩
abbrev F.ETH_CFG_AN37 (m : Nat) : Fld := ⟨R.ETH_CFG m, 4, 4⟩
abbrev F.ETH_CFG_BCAST_DROP (m : Nat) : Fld := ⟨R.ETH_CFG m, 3, 3⟩
abbrev F.ETH_CFG_ENABLE (m : Nat) : Fld := ⟨R.ETH_CFG m, 0, 0⟩
abbrev F.ETH_TAG_RX_TPID_S (m : Nat) : Fld := ⟨R.ETH_TAG_RX m, 31, 16⟩
abbrev F.ETH_TAG_RX_STRIP (m : Nat) : Fld := ⟨R.ETH_TAG_RX m, 1, 0⟩
abbrev F.ETH_TAG_TX_TPID_S (m : Nat) : Fld := ⟨R.ETH_TAG_TX m, 31, 16⟩
abbrev F.ETH_TAG_TX_DEI_COLOUR (m : Nat) : Fld := ⟨R.ETH_TAG_TX m, 4, 4⟩
abbrev F.ETH_TAG_TX_INS (m : Nat) : Fld := ⟨R.ETH_TAG_TX m, 3, 2⟩
abbrev F.ETH_TAG_TX_STRIP (m : Nat) : Fld := ⟨R.ETH_TAG_TX m, 1, 0⟩
abbrev F.ETH_TAG_TX_VID_OUTER_VID (m : Nat) : Fld := ⟨R.ETH_TAG_TX_VID m, 27, 16⟩
abbrev F.ETH_TAG_TX_VID_INNER_VID (m : Nat) : Fld := ⟨R.ETH_TAG_TX_VID m, 11, 0⟩
abbrev F.ETH_PCP_MAP_PCP (m i : Nat) : Fld := ⟨R.ETH_PCP_MAP m i, 23, 0⟩
abbrev F.ETH_PAUSE_MODE (m : Nat) : Fld := ⟨R.ETH_PAUSE m, 31, 30⟩
abbrev F.ETH_PAUSE_HOLDOFF (m : Nat) : Fld := ⟨R.ETH_PAUSE m, 29, 20⟩
abbrev F.ETH_PAUSE_WD_MS (m : Nat) : Fld := ⟨R.ETH_PAUSE m, 19, 10⟩
abbrev F.ETH_GLIDE_EN (m : Nat) : Fld := ⟨R.ETH_GLIDE m, 31, 31⟩
abbrev F.ETH_GLIDE_LOW (m : Nat) : Fld := ⟨R.ETH_GLIDE m, 30, 24⟩
abbrev F.ETH_GLIDE_HIGH (m : Nat) : Fld := ⟨R.ETH_GLIDE m, 23, 17⟩
abbrev F.ETH_GLIDE_WIN (m : Nat) : Fld := ⟨R.ETH_GLIDE m, 16, 7⟩
abbrev F.ETH_STAT_CTL_SNAP (m : Nat) : Fld := ⟨R.ETH_STAT_CTL m, 0, 0⟩
abbrev F.ETH_SAT_SAT (m : Nat) : Fld := ⟨R.ETH_SAT m, 11, 0⟩
abbrev F.ETH_SA_LO_SA (m : Nat) : Fld := ⟨R.ETH_SA_LO m, 31, 0⟩
abbrev F.ETH_SA_HI_SA (m : Nat) : Fld := ⟨R.ETH_SA_HI m, 15, 0⟩
abbrev F.ETH_MCHASH_BUCKET (m i : Nat) : Fld := ⟨R.ETH_MCHASH m i, 31, 0⟩
abbrev F.CLS_CFG_VXLAN_PORT : Fld := ⟨R.CLS_CFG, 31, 16⟩
abbrev F.CLS_CFG_FRAG_LIFE : Fld := ⟨R.CLS_CFG, 15, 8⟩
abbrev F.CLS_STAT_CTL_SNAP : Fld := ⟨R.CLS_STAT_CTL, 0, 0⟩
abbrev F.CLS_SAT_SAT : Fld := ⟨R.CLS_SAT, 11, 0⟩
abbrev F.CLS_SRC_CFG_FID (s : Nat) : Fld := ⟨R.CLS_SRC_CFG s, 31, 20⟩
abbrev F.CLS_SRC_CFG_CLASS (s : Nat) : Fld := ⟨R.CLS_SRC_CFG s, 19, 16⟩
abbrev F.CLS_SRC_CFG_RULE_SET (s : Nat) : Fld := ⟨R.CLS_SRC_CFG s, 1, 0⟩
abbrev F.CLS_SRC_DEF_LO_ACTION (s : Nat) : Fld := ⟨R.CLS_SRC_DEF_LO s, 31, 0⟩
abbrev F.CLS_SRC_DEF_HI_ACTION (s : Nat) : Fld := ⟨R.CLS_SRC_DEF_HI s, 31, 0⟩
abbrev F.CLS_SRC_FRAG_LO_ACTION (s : Nat) : Fld := ⟨R.CLS_SRC_FRAG_LO s, 31, 0⟩
abbrev F.CLS_SRC_FRAG_HI_ACTION (s : Nat) : Fld := ⟨R.CLS_SRC_FRAG_HI s, 31, 0⟩
abbrev F.FWD_CFG_MAX_KICKS : Fld := ⟨R.FWD_CFG, 7, 0⟩
abbrev F.FWD_AGE_CFG_UNIT : Fld := ⟨R.FWD_AGE_CFG, 31, 16⟩
abbrev F.FWD_AGE_CFG_LIMIT : Fld := ⟨R.FWD_AGE_CFG, 14, 0⟩
abbrev F.FWD_MOVE_CFG_WINDOW : Fld := ⟨R.FWD_MOVE_CFG, 31, 22⟩
abbrev F.FWD_MOVE_CFG_LOCK_DROP : Fld := ⟨R.FWD_MOVE_CFG, 21, 21⟩
abbrev F.FWD_MOVE_CFG_LOCK_S : Fld := ⟨R.FWD_MOVE_CFG, 15, 8⟩
abbrev F.FWD_MOVE_CFG_MOVES : Fld := ⟨R.FWD_MOVE_CFG, 3, 0⟩
abbrev F.FWD_STAT_CTL_SNAP : Fld := ⟨R.FWD_STAT_CTL, 0, 0⟩
abbrev F.FWD_SAT_SAT : Fld := ⟨R.FWD_SAT, 7, 0⟩
abbrev F.FWD_PORT_CFG_LEARN (s : Nat) : Fld := ⟨R.FWD_PORT_CFG s, 19, 19⟩
abbrev F.FWD_PORT_CFG_LIMIT_ACT (s : Nat) : Fld := ⟨R.FWD_PORT_CFG s, 18, 18⟩
abbrev F.FWD_PORT_CFG_LIMIT (s : Nat) : Fld := ⟨R.FWD_PORT_CFG s, 17, 0⟩
abbrev F.BUF_POOL_CFG_FALLOVER (i : Nat) : Fld := ⟨R.BUF_POOL_CFG i, 31, 31⟩
abbrev F.BUF_SAT_SAT : Fld := ⟨R.BUF_SAT, 24, 0⟩
abbrev F.HOST_DQ_CFG_ENABLE (q : Nat) : Fld := ⟨R.HOST_DQ_CFG q, 31, 31⟩
abbrev F.HOST_DQ_CFG_FUNC (q : Nat) : Fld := ⟨R.HOST_DQ_CFG q, 30, 28⟩
abbrev F.HOST_DQ_CFG_PRIO (q : Nat) : Fld := ⟨R.HOST_DQ_CFG q, 27, 26⟩
abbrev F.HOST_DQ_CFG_VECTOR (q : Nat) : Fld := ⟨R.HOST_DQ_CFG q, 23, 13⟩
abbrev F.HOST_DQ_CFG_BUF_SIZE (q : Nat) : Fld := ⟨R.HOST_DQ_CFG q, 12, 10⟩
abbrev F.HOST_DQ_CFG_SIZE (q : Nat) : Fld := ⟨R.HOST_DQ_CFG q, 9, 6⟩
abbrev F.HOST_DQ_HOLD_HOLD_US (q : Nat) : Fld := ⟨R.HOST_DQ_HOLD q, 9, 0⟩
abbrev F.HOST_DQ_BASE_LO_BASE (q : Nat) : Fld := ⟨R.HOST_DQ_BASE_LO q, 31, 0⟩
abbrev F.HOST_DQ_BASE_HI_BASE (q : Nat) : Fld := ⟨R.HOST_DQ_BASE_HI q, 31, 0⟩
abbrev F.HOST_DQ_TAIL_TAIL (q : Nat) : Fld := ⟨R.HOST_DQ_TAIL q, 15, 0⟩
abbrev F.HOST_HQ_CFG_ENABLE (q : Nat) : Fld := ⟨R.HOST_HQ_CFG q, 31, 31⟩
abbrev F.HOST_HQ_CFG_FUNC (q : Nat) : Fld := ⟨R.HOST_HQ_CFG q, 30, 28⟩
abbrev F.HOST_HQ_CFG_NOTICE (q : Nat) : Fld := ⟨R.HOST_HQ_CFG q, 27, 27⟩
abbrev F.HOST_HQ_CFG_VECTOR (q : Nat) : Fld := ⟨R.HOST_HQ_CFG q, 23, 13⟩
abbrev F.HOST_HQ_CFG_SIZE (q : Nat) : Fld := ⟨R.HOST_HQ_CFG q, 9, 6⟩
abbrev F.HOST_HQ_BASE_LO_BASE (q : Nat) : Fld := ⟨R.HOST_HQ_BASE_LO q, 31, 0⟩
abbrev F.HOST_HQ_BASE_HI_BASE (q : Nat) : Fld := ⟨R.HOST_HQ_BASE_HI q, 31, 0⟩
abbrev F.HOST_HQ_TAIL_TAIL (q : Nat) : Fld := ⟨R.HOST_HQ_TAIL q, 15, 0⟩
abbrev F.HOST_HQ_WB_LO_WB (q : Nat) : Fld := ⟨R.HOST_HQ_WB_LO q, 31, 0⟩
abbrev F.HOST_HQ_WB_HI_WB (q : Nat) : Fld := ⟨R.HOST_HQ_WB_HI q, 31, 0⟩
abbrev F.HOST_DQ_SAT_SAT (q : Nat) : Fld := ⟨R.HOST_DQ_SAT q, 2, 0⟩
abbrev F.HOST_HQ_SAT_SAT (q : Nat) : Fld := ⟨R.HOST_HQ_SAT q, 2, 0⟩
abbrev F.HOST_STAT_CTL_SNAP : Fld := ⟨R.HOST_STAT_CTL, 0, 0⟩
abbrev F.SCH_SAMPLE_CFG_EN : Fld := ⟨R.SCH_SAMPLE_CFG, 31, 31⟩
abbrev F.SCH_SAMPLE_CFG_PERIOD : Fld := ⟨R.SCH_SAMPLE_CFG, 7, 0⟩
abbrev F.SCH_SAMPLE_BASE_LO_BASE : Fld := ⟨R.SCH_SAMPLE_BASE_LO, 31, 0⟩
abbrev F.SCH_SAMPLE_BASE_HI_BASE : Fld := ⟨R.SCH_SAMPLE_BASE_HI, 31, 0⟩
abbrev F.SCH_SAMPLE_SIZE_SIZE : Fld := ⟨R.SCH_SAMPLE_SIZE, 4, 0⟩
abbrev F.SCH_SAMPLE_RD_RD : Fld := ⟨R.SCH_SAMPLE_RD, 31, 0⟩
abbrev F.SCH_STAT_CTL_SNAP : Fld := ⟨R.SCH_STAT_CTL, 0, 0⟩
abbrev F.SCH_SAT_SAT : Fld := ⟨R.SCH_SAT, 4, 0⟩
abbrev F.TIME_CFG_VALID : Fld := ⟨R.TIME_CFG, 0, 0⟩
abbrev F.TIME_STATUS_INC_REFUSED : Fld := ⟨R.TIME_STATUS, 1, 1⟩
abbrev F.TIME_ARG_INC_LO_INC : Fld := ⟨R.TIME_ARG_INC_LO, 31, 0⟩
abbrev F.TIME_ARG_INC_HI_INC : Fld := ⟨R.TIME_ARG_INC_HI, 15, 0⟩
abbrev F.TIME_ARG_SEC_LO_SEC : Fld := ⟨R.TIME_ARG_SEC_LO, 31, 0⟩
abbrev F.TIME_ARG_SEC_HI_SEC : Fld := ⟨R.TIME_ARG_SEC_HI, 15, 0⟩
abbrev F.TIME_ARG_NS_NS : Fld := ⟨R.TIME_ARG_NS, 29, 0⟩
abbrev F.TIME_ARG_FRAC_FRAC : Fld := ⟨R.TIME_ARG_FRAC, 15, 0⟩
abbrev F.TIME_CMD_OP : Fld := ⟨R.TIME_CMD, 2, 0⟩
abbrev F.TIME_RXCAP_Q_LO_MASK : Fld := ⟨R.TIME_RXCAP_Q_LO, 31, 0⟩
abbrev F.TIME_RXCAP_Q_HI_MASK : Fld := ⟨R.TIME_RXCAP_Q_HI, 31, 0⟩
abbrev F.TIME_LAUNCH_CFG_LATE_DROP : Fld := ⟨R.TIME_LAUNCH_CFG, 23, 0⟩
abbrev F.TIME_PON_CFG_ARM (n : Nat) : Fld := ⟨R.TIME_PON_CFG n, 31, 31⟩
abbrev F.TIME_PON_CFG_REPEAT (n : Nat) : Fld := ⟨R.TIME_PON_CFG n, 30, 30⟩
abbrev F.TIME_PON_TARGET_SFC (n : Nat) : Fld := ⟨R.TIME_PON_TARGET n, 31, 0⟩
abbrev F.TIME_PPS_CFG_OUT_OFFSET : Fld := ⟨R.TIME_PPS_CFG, 31, 16⟩
abbrev F.TIME_PPS_CFG_WIDTH_MS : Fld := ⟨R.TIME_PPS_CFG, 15, 5⟩
abbrev F.TIME_PPS_CFG_IN_POL : Fld := ⟨R.TIME_PPS_CFG, 4, 4⟩
abbrev F.TIME_PPS_CFG_IN_EN : Fld := ⟨R.TIME_PPS_CFG, 3, 3⟩
abbrev F.TIME_PPS_CFG_OUT_POL : Fld := ⟨R.TIME_PPS_CFG, 1, 1⟩
abbrev F.TIME_PPS_CFG_OUT_EN : Fld := ⟨R.TIME_PPS_CFG, 0, 0⟩
abbrev F.TIME_SYNCE_CFG_SQUELCH (i : Nat) : Fld := ⟨R.TIME_SYNCE_CFG i, 5, 4⟩
abbrev F.TIME_SYNCE_CFG_DIV (i : Nat) : Fld := ⟨R.TIME_SYNCE_CFG i, 3, 1⟩
abbrev F.TIME_SYNCE_CFG_EN (i : Nat) : Fld := ⟨R.TIME_SYNCE_CFG i, 0, 0⟩
abbrev F.TIME_TOD_CFG_DELAY_MS : Fld := ⟨R.TIME_TOD_CFG, 12, 4⟩
abbrev F.TIME_TOD_CFG_BAUD : Fld := ⟨R.TIME_TOD_CFG, 2, 1⟩
abbrev F.TIME_TOD_CFG_TOD_EN : Fld := ⟨R.TIME_TOD_CFG, 0, 0⟩
abbrev F.TIME_TOD_UTC_UTC_OFFSET : Fld := ⟨R.TIME_TOD_UTC, 31, 16⟩
abbrev F.TIME_TOD_UTC_FLAGS : Fld := ⟨R.TIME_TOD_UTC, 7, 0⟩
abbrev F.TIME_SAT_SAT : Fld := ⟨R.TIME_SAT, 5, 0⟩
abbrev F.TIME_STAT_CTL_SNAP : Fld := ⟨R.TIME_STAT_CTL, 0, 0⟩
abbrev F.CIPH_STATUS_KEY_REFUSED : Fld := ⟨R.CIPH_STATUS, 0, 0⟩
abbrev F.CIPH_KEY_SEL_LEN : Fld := ⟨R.CIPH_KEY_SEL, 21, 20⟩
abbrev F.CIPH_KEY_SEL_USAGE : Fld := ⟨R.CIPH_KEY_SEL, 19, 18⟩
abbrev F.CIPH_KEY_SEL_SLOT : Fld := ⟨R.CIPH_KEY_SEL, 9, 0⟩
abbrev F.CIPH_KEY_CMD_CMD : Fld := ⟨R.CIPH_KEY_CMD, 1, 0⟩
abbrev F.CIPH_KEY_DATA_DATA (i : Nat) : Fld := ⟨R.CIPH_KEY_DATA i, 31, 0⟩
abbrev F.CIPH_RQ_CFG_ENABLE : Fld := ⟨R.CIPH_RQ_CFG, 31, 31⟩
abbrev F.CIPH_RQ_CFG_VECTOR : Fld := ⟨R.CIPH_RQ_CFG, 10, 0⟩
abbrev F.CIPH_RQ_BASE_LO_BASE : Fld := ⟨R.CIPH_RQ_BASE_LO, 31, 0⟩
abbrev F.CIPH_RQ_BASE_HI_BASE : Fld := ⟨R.CIPH_RQ_BASE_HI, 31, 0⟩
abbrev F.CIPH_RP_BASE_LO_BASE : Fld := ⟨R.CIPH_RP_BASE_LO, 31, 0⟩
abbrev F.CIPH_RP_BASE_HI_BASE : Fld := ⟨R.CIPH_RP_BASE_HI, 31, 0⟩
abbrev F.CIPH_RQ_TAIL_TAIL : Fld := ⟨R.CIPH_RQ_TAIL, 15, 0⟩
abbrev F.CIPH_STAT_CTL_SNAP : Fld := ⟨R.CIPH_STAT_CTL, 0, 0⟩
abbrev F.CIPH_SAT_SAT : Fld := ⟨R.CIPH_SAT, 2, 0⟩
abbrev F.MEM_SCRUB_CFG_EN (m : Nat) : Fld := ⟨R.MEM_SCRUB_CFG m, 31, 31⟩
abbrev F.MEM_SCRUB_CFG_PERIOD (m : Nat) : Fld := ⟨R.MEM_SCRUB_CFG m, 16, 0⟩
abbrev F.MEM_INJ_GO : Fld := ⟨R.MEM_INJ, 31, 31⟩
abbrev F.MEM_INJ_SYM_B : Fld := ⟨R.MEM_INJ, 12, 8⟩
abbrev F.MEM_INJ_SYM_A : Fld := ⟨R.MEM_INJ, 7, 3⟩
abbrev F.MEM_INJ_MEM : Fld := ⟨R.MEM_INJ, 2, 0⟩
abbrev F.MEM_INJ_PAT_PAT : Fld := ⟨R.MEM_INJ_PAT, 15, 0⟩
abbrev F.MEM_STAT_CTL_SNAP : Fld := ⟨R.MEM_STAT_CTL, 0, 0⟩
abbrev F.MEM_SAT_SAT : Fld := ⟨R.MEM_SAT, 23, 0⟩
abbrev F.MEM_DDR_SAT_SAT : Fld := ⟨R.MEM_DDR_SAT, 17, 0⟩
abbrev F.MEM_UE_LOG_B_VALID (i : Nat) : Fld := ⟨R.MEM_UE_LOG_B i, 31, 31⟩
abbrev F.PWR_BUDGET_CFG_RESERVE_W : Fld := ⟨R.PWR_BUDGET_CFG, 31, 22⟩
abbrev F.PWR_BUDGET_CFG_UP_MARGIN : Fld := ⟨R.PWR_BUDGET_CFG, 21, 16⟩
abbrev F.PWR_BUDGET_CFG_DOWN_MARGIN : Fld := ⟨R.PWR_BUDGET_CFG, 15, 10⟩
abbrev F.PWR_BUDGET_CFG_DOWN_HOLD : Fld := ⟨R.PWR_BUDGET_CFG, 9, 6⟩
abbrev F.PWR_BUDGET_CFG_SQUALL_HOLD : Fld := ⟨R.PWR_BUDGET_CFG, 5, 0⟩
abbrev F.PWR_THERM_CFG_TEMP_TARGET : Fld := ⟨R.PWR_THERM_CFG, 31, 24⟩
abbrev F.PWR_THERM_CFG_TEMP_TRIP : Fld := ⟨R.PWR_THERM_CFG, 23, 16⟩
abbrev F.PWR_THERM_CFG_TEMP_CRIT : Fld := ⟨R.PWR_THERM_CFG, 15, 8⟩
abbrev F.PWR_THERM_CFG_HYST : Fld := ⟨R.PWR_THERM_CFG, 7, 4⟩
abbrev F.PWR_FEED_CFG_SRC : Fld := ⟨R.PWR_FEED_CFG, 31, 30⟩
abbrev F.PWR_FEED_CFG_ADDR : Fld := ⟨R.PWR_FEED_CFG, 29, 23⟩
abbrev F.PWR_FEED_CFG_CMD : Fld := ⟨R.PWR_FEED_CFG, 22, 15⟩
abbrev F.PWR_FEED_CFG_FALLBACK_W : Fld := ⟨R.PWR_FEED_CFG, 14, 4⟩
abbrev F.PWR_FEED_HOST_FEED : Fld := ⟨R.PWR_FEED_HOST, 15, 0⟩
abbrev F.PWR_WAKE_CFG_GPIO : Fld := ⟨R.PWR_WAKE_CFG, 31, 8⟩
abbrev F.PWR_WAKE_CFG_TIMER : Fld := ⟨R.PWR_WAKE_CFG, 2, 2⟩
abbrev F.PWR_WAKE_CFG_FEED : Fld := ⟨R.PWR_WAKE_CFG, 1, 1⟩
abbrev F.PWR_WAKE_CFG_WAKE_OUT : Fld := ⟨R.PWR_WAKE_CFG, 0, 0⟩
abbrev F.PWR_WAKE_TIMER_SECONDS : Fld := ⟨R.PWR_WAKE_TIMER, 31, 0⟩
abbrev F.PWR_HAZE_CFG_LANE_SLEEP : Fld := ⟨R.PWR_HAZE_CFG, 3, 3⟩
abbrev F.PWR_HAZE_CFG_FLOOR : Fld := ⟨R.PWR_HAZE_CFG, 2, 0⟩
abbrev F.PWR_STAT_CTL_SNAP : Fld := ⟨R.PWR_STAT_CTL, 0, 0⟩
abbrev F.PWR_SAT_SAT : Fld := ⟨R.PWR_SAT, 8, 0⟩
abbrev F.HOST_RING_CFG_CMD_EN (f : Nat) : Fld := ⟨R.HOST_RING_CFG f, 31, 31⟩
abbrev F.HOST_RING_CFG_RPL_EN (f : Nat) : Fld := ⟨R.HOST_RING_CFG f, 30, 30⟩
abbrev F.HOST_RING_CFG_EVT_EN (f : Nat) : Fld := ⟨R.HOST_RING_CFG f, 29, 29⟩
abbrev F.HOST_RING_CFG_CMD_SIZE (f : Nat) : Fld := ⟨R.HOST_RING_CFG f, 28, 24⟩
abbrev F.HOST_RING_CFG_RPL_SIZE (f : Nat) : Fld := ⟨R.HOST_RING_CFG f, 23, 19⟩
abbrev F.HOST_RING_CFG_EVT_SIZE (f : Nat) : Fld := ⟨R.HOST_RING_CFG f, 18, 14⟩
abbrev F.HOST_RING_CFG_RPL_NOTICE (f : Nat) : Fld := ⟨R.HOST_RING_CFG f, 13, 13⟩
abbrev F.HOST_RING_CFG_EVT_NOTICE (f : Nat) : Fld := ⟨R.HOST_RING_CFG f, 12, 12⟩
abbrev F.HOST_RING_VEC_EVT_VECTOR (f : Nat) : Fld := ⟨R.HOST_RING_VEC f, 26, 16⟩
abbrev F.HOST_RING_VEC_RPL_VECTOR (f : Nat) : Fld := ⟨R.HOST_RING_VEC f, 10, 0⟩
abbrev F.HOST_RING_STATUS_LOST_SAT (f : Nat) : Fld := ⟨R.HOST_RING_STATUS f, 3, 3⟩
abbrev F.HOST_CMD_BASE_LO_BASE (f : Nat) : Fld := ⟨R.HOST_CMD_BASE_LO f, 31, 0⟩
abbrev F.HOST_CMD_BASE_HI_BASE (f : Nat) : Fld := ⟨R.HOST_CMD_BASE_HI f, 31, 0⟩
abbrev F.HOST_CMD_TAIL_TAIL (f : Nat) : Fld := ⟨R.HOST_CMD_TAIL f, 31, 0⟩
abbrev F.HOST_RPL_BASE_LO_BASE (f : Nat) : Fld := ⟨R.HOST_RPL_BASE_LO f, 31, 0⟩
abbrev F.HOST_RPL_BASE_HI_BASE (f : Nat) : Fld := ⟨R.HOST_RPL_BASE_HI f, 31, 0⟩
abbrev F.HOST_RPL_RD_RD (f : Nat) : Fld := ⟨R.HOST_RPL_RD f, 31, 0⟩
abbrev F.HOST_EVT_BASE_LO_BASE (f : Nat) : Fld := ⟨R.HOST_EVT_BASE_LO f, 31, 0⟩
abbrev F.HOST_EVT_BASE_HI_BASE (f : Nat) : Fld := ⟨R.HOST_EVT_BASE_HI f, 31, 0⟩
abbrev F.HOST_EVT_RD_RD (f : Nat) : Fld := ⟨R.HOST_EVT_RD f, 31, 0⟩
abbrev F.HOST_WB_LO_WB (f : Nat) : Fld := ⟨R.HOST_WB_LO f, 31, 0⟩
abbrev F.HOST_WB_HI_WB (f : Nat) : Fld := ⟨R.HOST_WB_HI f, 31, 0⟩
abbrev F.BOOT_RESTART_KEY : Fld := ⟨R.BOOT_RESTART, 31, 0⟩
abbrev F.BOOT_QSPI_ADDR_ADDR : Fld := ⟨R.BOOT_QSPI_ADDR, 23, 0⟩
abbrev F.BOOT_QSPI_CMD_REFUSED : Fld := ⟨R.BOOT_QSPI_CMD, 30, 30⟩
abbrev F.BOOT_QSPI_CMD_ERROR : Fld := ⟨R.BOOT_QSPI_CMD, 29, 29⟩
abbrev F.BOOT_QSPI_CMD_OP : Fld := ⟨R.BOOT_QSPI_CMD, 1, 0⟩
abbrev F.BOOT_QSPI_DATA_DATA (i : Nat) : Fld := ⟨R.BOOT_QSPI_DATA i, 31, 0⟩
abbrev F.PWR_JRN_STATUS_MIRROR_FAIL : Fld := ⟨R.PWR_JRN_STATUS, 9, 9⟩
abbrev F.PWR_JRN_CLEAR_CLEAR : Fld := ⟨R.PWR_JRN_CLEAR, 0, 0⟩
abbrev F.HOST_ACC_ERR_PARTIAL (f : Nat) : Fld := ⟨R.HOST_ACC_ERR f, 3, 3⟩
abbrev F.HOST_ACC_ERR_VIEW (f : Nat) : Fld := ⟨R.HOST_ACC_ERR f, 2, 2⟩
abbrev F.HOST_ACC_ERR_UNMAPPED (f : Nat) : Fld := ⟨R.HOST_ACC_ERR f, 1, 1⟩
abbrev F.HOST_ACC_ERR_POWERED_OFF (f : Nat) : Fld := ⟨R.HOST_ACC_ERR f, 0, 0⟩
abbrev F.BOND_STAT_CTL_PERIOD : Fld := ⟨R.BOND_STAT_CTL, 19, 8⟩
abbrev F.BOND_STAT_CTL_SNAP : Fld := ⟨R.BOND_STAT_CTL, 0, 0⟩
abbrev F.BUF_STAT_CTL_SNAP : Fld := ⟨R.BUF_STAT_CTL, 0, 0⟩

end Sys2Proof.Machine
end

