-- ==== Sys2Proof/Machine/Counters.lean ====
section
/-! DEFINITION. The counters of the device (R89 and each chapter's counter table): C.<block>_<counter>. Offsets are those
of the demand bank; SAT bits count the error counters of a block in table order. Choices: log 34. -/

namespace Sys2Proof.Machine

/-- A counter: offset of its register in the demand bank, 64-bit traffic counter or 32-bit error counter, SAT register
and bit, source ID and function of the block. -/
structure Ctr where
  off : Nat
  wide : Bool := false
  sat : Nat := 0
  bit : Nat := 0
  src : Nat := 0
  func : Nat := 0
  deriving DecidableEq, Repr

/-- Source ID of lane l (Table 1-1, Table 10-1): PON serialisers 0-3 are lanes 40-43, vector link lanes 0-15, Ethernet
lanes 16-39. -/
def laneSource (l : Nat) : Nat :=
  if l < 16 then 0x0210 + l else if l < 40 then 0x0220 + (l - 16) else 0x0200 + (l - 40)

/-- Source ID of memory m (chapter 18): the DDR4 controller for m = 0, else control SRAM and scrubbers. -/
def memSource (m : Nat) : Nat := if m = 0 then 0x00B0 else 0x00B1

abbrev C.PON_FEC_CW (n : Nat) : Ctr := ⟨0x00400100 + n * 0x10000, true, 0, 0, 0x0010 + n, 1⟩
abbrev C.PON_FEC_CORR_CW (n : Nat) : Ctr := ⟨0x00400108 + n * 0x10000, false, R.PON_STAT_SAT n, 0, 0x0010 + n, 1⟩
abbrev C.PON_FEC_UNCORR_CW (n : Nat) : Ctr := ⟨0x0040010c + n * 0x10000, false, R.PON_STAT_SAT n, 1, 0x0010 + n, 1⟩
abbrev C.PON_FEC_CORR_BYTES (n : Nat) : Ctr := ⟨0x00400110 + n * 0x10000, false, R.PON_STAT_SAT n, 2, 0x0010 + n, 1⟩
abbrev C.PON_FEC_ES (n : Nat) : Ctr := ⟨0x00400114 + n * 0x10000, false, R.PON_STAT_SAT n, 3, 0x0010 + n, 1⟩
abbrev C.PON_HDR_ERR (n : Nat) : Ctr := ⟨0x00400118 + n * 0x10000, false, R.PON_STAT_SAT n, 4, 0x0010 + n, 1⟩
abbrev C.PON_PSYNC_MISS (n : Nat) : Ctr := ⟨0x0040011c + n * 0x10000, false, R.PON_STAT_SAT n, 5, 0x0010 + n, 1⟩
abbrev C.PON_SYNC_LOSS (n : Nat) : Ctr := ⟨0x00400120 + n * 0x10000, false, R.PON_STAT_SAT n, 6, 0x0010 + n, 1⟩
abbrev C.PON_LOS (n : Nat) : Ctr := ⟨0x00400124 + n * 0x10000, false, R.PON_STAT_SAT n, 7, 0x0010 + n, 1⟩
abbrev C.PON_CAND_FALSE (n : Nat) : Ctr := ⟨0x00400128 + n * 0x10000, false, R.PON_STAT_SAT n, 8, 0x0010 + n, 1⟩
abbrev C.PON_CAND_FULL (n : Nat) : Ctr := ⟨0x0040012c + n * 0x10000, false, R.PON_STAT_SAT n, 9, 0x0010 + n, 1⟩

/-- Counters of the block, in table order. -/
def ponCtrs (n : Nat) : List Ctr := [C.PON_FEC_CW n, C.PON_FEC_CORR_CW n, C.PON_FEC_UNCORR_CW n, C.PON_FEC_CORR_BYTES n, C.PON_FEC_ES n, C.PON_HDR_ERR n, C.PON_PSYNC_MISS n, C.PON_SYNC_LOSS n, C.PON_LOS n, C.PON_CAND_FALSE n, C.PON_CAND_FULL n]

abbrev C.TC_XGEM_RX (n : Nat) : Ctr := ⟨0x00400240 + n * 0x10000, true, 0, 0, 0x0010 + n, 1⟩
abbrev C.TC_XGEM_HEC_ERR (n : Nat) : Ctr := ⟨0x00400248 + n * 0x10000, false, R.PON_TC_SAT n, 0, 0x0010 + n, 1⟩
abbrev C.TC_XGEM_KEY_MISS (n : Nat) : Ctr := ⟨0x0040024c + n * 0x10000, false, R.PON_TC_SAT n, 1, 0x0010 + n, 1⟩
abbrev C.TC_XGEM_BAD (n : Nat) : Ctr := ⟨0x00400250 + n * 0x10000, false, R.PON_TC_SAT n, 2, 0x0010 + n, 1⟩
abbrev C.TC_SDU_LONG (n : Nat) : Ctr := ⟨0x00400254 + n * 0x10000, false, R.PON_TC_SAT n, 3, 0x0010 + n, 1⟩
abbrev C.TC_FRAG_LOST (n : Nat) : Ctr := ⟨0x00400258 + n * 0x10000, false, R.PON_TC_SAT n, 4, 0x0010 + n, 1⟩
abbrev C.TC_HDR_DISCARD (n : Nat) : Ctr := ⟨0x0040025c + n * 0x10000, false, R.PON_TC_SAT n, 5, 0x0010 + n, 1⟩
abbrev C.TC_PLOAM_MIC_ERR (n : Nat) : Ctr := ⟨0x00400260 + n * 0x10000, false, R.PON_TC_SAT n, 6, 0x0010 + n, 1⟩
abbrev C.TC_PLOAM_UNSUP (n : Nat) : Ctr := ⟨0x00400264 + n * 0x10000, false, R.PON_TC_SAT n, 7, 0x0010 + n, 1⟩
abbrev C.TC_OMCI_MIC_ERR (n : Nat) : Ctr := ⟨0x00400268 + n * 0x10000, false, R.PON_TC_SAT n, 8, 0x0010 + n, 1⟩
abbrev C.TC_ALLOC_REFUSED (n : Nat) : Ctr := ⟨0x0040026c + n * 0x10000, false, R.PON_TC_SAT n, 9, 0x0010 + n, 1⟩

/-- Counters of the block, in table order. -/
def tcCtrs (n : Nat) : List Ctr := [C.TC_XGEM_RX n, C.TC_XGEM_HEC_ERR n, C.TC_XGEM_KEY_MISS n, C.TC_XGEM_BAD n, C.TC_SDU_LONG n, C.TC_FRAG_LOST n, C.TC_HDR_DISCARD n, C.TC_PLOAM_MIC_ERR n, C.TC_PLOAM_UNSUP n, C.TC_OMCI_MIC_ERR n, C.TC_ALLOC_REFUSED n]

abbrev C.US_BURSTS (n : Nat) : Ctr := ⟨0x00400340 + n * 0x10000, true, 0, 0, 0x0010 + n, 1⟩
abbrev C.US_GRANT_UNKNOWN (n : Nat) : Ctr := ⟨0x00400348 + n * 0x10000, false, R.PON_US_SAT n, 0, 0x0010 + n, 1⟩
abbrev C.US_GRANT_OVERLAP (n : Nat) : Ctr := ⟨0x0040034c + n * 0x10000, false, R.PON_US_SAT n, 1, 0x0010 + n, 1⟩
abbrev C.US_GRANT_EXCESS (n : Nat) : Ctr := ⟨0x00400350 + n * 0x10000, false, R.PON_US_SAT n, 2, 0x0010 + n, 1⟩
abbrev C.US_GRANT_SKIP (n : Nat) : Ctr := ⟨0x00400354 + n * 0x10000, false, R.PON_US_SAT n, 3, 0x0010 + n, 1⟩
abbrev C.US_PROFILE_MISS (n : Nat) : Ctr := ⟨0x00400358 + n * 0x10000, false, R.PON_US_SAT n, 4, 0x0010 + n, 1⟩
abbrev C.US_FRAME_BAD (n : Nat) : Ctr := ⟨0x0040035c + n * 0x10000, false, R.PON_US_SAT n, 5, 0x0010 + n, 1⟩

/-- Counters of the block, in table order. -/
def usCtrs (n : Nat) : List Ctr := [C.US_BURSTS n, C.US_GRANT_UNKNOWN n, C.US_GRANT_OVERLAP n, C.US_GRANT_EXCESS n, C.US_GRANT_SKIP n, C.US_PROFILE_MISS n, C.US_FRAME_BAD n]

abbrev C.BOND_TAGGED (g : Nat) : Ctr := ⟨0x00600040 + g * 0x100, true, 0, 0, 0x0018, 1⟩
abbrev C.BOND_LATE (g : Nat) : Ctr := ⟨0x00600048 + g * 0x100, false, R.BOND_SAT g, 0, 0x0018, 1⟩
abbrev C.BOND_LOST (g : Nat) : Ctr := ⟨0x0060004c + g * 0x100, false, R.BOND_SAT g, 1, 0x0018, 1⟩
abbrev C.BOND_DUP (g : Nat) : Ctr := ⟨0x00600050 + g * 0x100, false, R.BOND_SAT g, 2, 0x0018, 1⟩
abbrev C.BOND_BEYOND (g : Nat) : Ctr := ⟨0x00600054 + g * 0x100, false, R.BOND_SAT g, 3, 0x0018, 1⟩
abbrev C.BOND_TAG_BAD (g : Nat) : Ctr := ⟨0x00600058 + g * 0x100, false, R.BOND_SAT g, 4, 0x0018, 1⟩
abbrev C.BOND_MOVE_DROP (g : Nat) : Ctr := ⟨0x0060005c + g * 0x100, false, R.BOND_SAT g, 5, 0x0018, 1⟩
abbrev C.BOND_STATUS_UNSENT (g : Nat) : Ctr := ⟨0x00600060 + g * 0x100, false, R.BOND_SAT g, 6, 0x0018, 1⟩

/-- Counters of the block, in table order. -/
def bondCtrs (g : Nat) : List Ctr := [C.BOND_TAGGED g, C.BOND_LATE g, C.BOND_LOST g, C.BOND_DUP g, C.BOND_BEYOND g, C.BOND_TAG_BAD g, C.BOND_MOVE_DROP g, C.BOND_STATUS_UNSENT g]

abbrev C.VE_OVR (e : Nat) : Ctr := ⟨0x01000040 + e * 0x10000, false, R.VE_SAT e, 0, 0x0100 + e, 2⟩
abbrev C.VE_DMA_LATE (e : Nat) : Ctr := ⟨0x01000044 + e * 0x10000, false, R.VE_SAT e, 1, 0x0100 + e, 2⟩
abbrev C.VE_SPAD_CE (e : Nat) : Ctr := ⟨0x01000048 + e * 0x10000, false, R.VE_SAT e, 2, 0x0100 + e, 2⟩
abbrev C.VE_SPAD_UE (e : Nat) : Ctr := ⟨0x0100004c + e * 0x10000, false, R.VE_SAT e, 3, 0x0100 + e, 2⟩
abbrev C.VE_IMEM_UE (e : Nat) : Ctr := ⟨0x01000050 + e * 0x10000, false, R.VE_SAT e, 4, 0x0100 + e, 2⟩
abbrev C.VE_TAG_ERR (e : Nat) : Ctr := ⟨0x01000054 + e * 0x10000, false, R.VE_SAT e, 5, 0x0100 + e, 2⟩

/-- Counters of the block, in table order. -/
def veCtrs (e : Nat) : List Ctr := [C.VE_OVR e, C.VE_DMA_LATE e, C.VE_SPAD_CE e, C.VE_SPAD_UE e, C.VE_IMEM_UE e, C.VE_TAG_ERR e]

abbrev C.SLAB_CE (e : Nat) : Ctr := ⟨0x01000140 + e * 0x10000, false, R.SLAB_SAT e, 0, 0x0100 + e, 2⟩
abbrev C.SLAB_UE (e : Nat) : Ctr := ⟨0x01000144 + e * 0x10000, false, R.SLAB_SAT e, 1, 0x0100 + e, 2⟩
abbrev C.SLAB_LOST (e : Nat) : Ctr := ⟨0x01000148 + e * 0x10000, false, R.SLAB_SAT e, 2, 0x0100 + e, 2⟩

/-- Counters of the block, in table order. -/
def slabCtrs (e : Nat) : List Ctr := [C.SLAB_CE e, C.SLAB_UE e, C.SLAB_LOST e]

abbrev C.VS_PORT_LATE (i : Nat) : Ctr := ⟨0x00800140 + i * 0x4, false, R.VS_SAT, i, 0x0030, 2⟩

/-- Counters of the block, in table order. -/
def vsPortCtrs (i : Nat) : List Ctr := [C.VS_PORT_LATE i]

abbrev C.SVL_TILES_RX (p : Nat) : Ctr := ⟨0x00801040 + p * 0x100, true, 0, 0, 0x0040 + p, 2⟩
abbrev C.SVL_TILES_TX (p : Nat) : Ctr := ⟨0x00801048 + p * 0x100, true, 0, 0, 0x0040 + p, 2⟩
abbrev C.SVL_TILE_CE (p : Nat) : Ctr := ⟨0x00801050 + p * 0x100, false, R.SVL_SAT p, 0, 0x0040 + p, 2⟩
abbrev C.SVL_TILE_UE (p : Nat) : Ctr := ⟨0x00801054 + p * 0x100, false, R.SVL_SAT p, 1, 0x0040 + p, 2⟩
abbrev C.SVL_CTL_BAD (p : Nat) : Ctr := ⟨0x00801058 + p * 0x100, false, R.SVL_SAT p, 2, 0x0040 + p, 2⟩
abbrev C.SVL_STREAM_BAD (p : Nat) : Ctr := ⟨0x0080105c + p * 0x100, false, R.SVL_SAT p, 3, 0x0040 + p, 2⟩
abbrev C.SVL_MISALIGN (p : Nat) : Ctr := ⟨0x00801060 + p * 0x100, false, R.SVL_SAT p, 4, 0x0040 + p, 2⟩
abbrev C.SVL_STATUS_MISS (p : Nat) : Ctr := ⟨0x00801064 + p * 0x100, false, R.SVL_SAT p, 5, 0x0040 + p, 2⟩
abbrev C.SVL_LOCK_LOSS (p : Nat) : Ctr := ⟨0x00801068 + p * 0x100, false, R.SVL_SAT p, 6, 0x0040 + p, 2⟩
abbrev C.SVL_DESKEW_FAIL (p : Nat) : Ctr := ⟨0x0080106c + p * 0x100, false, R.SVL_SAT p, 7, 0x0040 + p, 2⟩

/-- Counters of the block, in table order. -/
def svlCtrs (p : Nat) : List Ctr := [C.SVL_TILES_RX p, C.SVL_TILES_TX p, C.SVL_TILE_CE p, C.SVL_TILE_UE p, C.SVL_CTL_BAD p, C.SVL_STREAM_BAD p, C.SVL_MISALIGN p, C.SVL_STATUS_MISS p, C.SVL_LOCK_LOSS p, C.SVL_DESKEW_FAIL p]

abbrev C.LANE_PAT_BITS (l : Nat) : Ctr := ⟨0x02000080 + l * 0x1000, true, 0, 0, laneSource l, 0⟩
abbrev C.LANE_PAT_ERR (l : Nat) : Ctr := ⟨0x02000088 + l * 0x1000, false, R.LANE_SAT l, 0, laneSource l, 0⟩
abbrev C.LANE_PAT_LOCK_LOSS (l : Nat) : Ctr := ⟨0x0200008c + l * 0x1000, false, R.LANE_SAT l, 1, laneSource l, 0⟩
abbrev C.LANE_INJ_DONE (l : Nat) : Ctr := ⟨0x02000090 + l * 0x1000, false, R.LANE_SAT l, 2, laneSource l, 0⟩

/-- Counters of the block, in table order. -/
def laneCtrs (l : Nat) : List Ctr := [C.LANE_PAT_BITS l, C.LANE_PAT_ERR l, C.LANE_PAT_LOCK_LOSS l, C.LANE_INJ_DONE l]

abbrev C.ETH_RX_OK (m : Nat) : Ctr := ⟨0x02800100 + m * 0x1000, true, 0, 0, 0x0060 + m, 3⟩
abbrev C.ETH_RX_OCT (m : Nat) : Ctr := ⟨0x02800108 + m * 0x1000, true, 0, 0, 0x0060 + m, 3⟩
abbrev C.ETH_TX_OK (m : Nat) : Ctr := ⟨0x02800110 + m * 0x1000, true, 0, 0, 0x0060 + m, 3⟩
abbrev C.ETH_TX_OCT (m : Nat) : Ctr := ⟨0x02800118 + m * 0x1000, true, 0, 0, 0x0060 + m, 3⟩
abbrev C.ETH_FCS_ERR (m : Nat) : Ctr := ⟨0x02800120 + m * 0x1000, false, R.ETH_SAT m, 0, 0x0060 + m, 3⟩
abbrev C.ETH_RUNT (m : Nat) : Ctr := ⟨0x02800124 + m * 0x1000, false, R.ETH_SAT m, 1, 0x0060 + m, 3⟩
abbrev C.ETH_TOO_LONG (m : Nat) : Ctr := ⟨0x02800128 + m * 0x1000, false, R.ETH_SAT m, 2, 0x0060 + m, 3⟩
abbrev C.ETH_CODE_ERR (m : Nat) : Ctr := ⟨0x0280012c + m * 0x1000, false, R.ETH_SAT m, 3, 0x0060 + m, 3⟩
abbrev C.ETH_MC_FILTERED (m : Nat) : Ctr := ⟨0x02800130 + m * 0x1000, false, R.ETH_SAT m, 4, 0x0060 + m, 3⟩
abbrev C.ETH_PAUSE_RX (m : Nat) : Ctr := ⟨0x02800134 + m * 0x1000, false, R.ETH_SAT m, 5, 0x0060 + m, 3⟩
abbrev C.ETH_PAUSE_IGNORED (m : Nat) : Ctr := ⟨0x02800138 + m * 0x1000, false, R.ETH_SAT m, 6, 0x0060 + m, 3⟩
abbrev C.ETH_WD_TRIP (m : Nat) : Ctr := ⟨0x0280013c + m * 0x1000, false, R.ETH_SAT m, 7, 0x0060 + m, 3⟩
abbrev C.ETH_GLIDE_DOWN (m : Nat) : Ctr := ⟨0x02800140 + m * 0x1000, false, R.ETH_SAT m, 8, 0x0060 + m, 3⟩
abbrev C.ETH_GLIDE_UP (m : Nat) : Ctr := ⟨0x02800144 + m * 0x1000, false, R.ETH_SAT m, 9, 0x0060 + m, 3⟩
abbrev C.ETH_GLIDE_FAIL (m : Nat) : Ctr := ⟨0x02800148 + m * 0x1000, false, R.ETH_SAT m, 10, 0x0060 + m, 3⟩
abbrev C.ETH_LINK_DOWN (m : Nat) : Ctr := ⟨0x0280014c + m * 0x1000, false, R.ETH_SAT m, 11, 0x0060 + m, 3⟩

/-- Counters of the block, in table order. -/
def ethCtrs (m : Nat) : List Ctr := [C.ETH_RX_OK m, C.ETH_RX_OCT m, C.ETH_TX_OK m, C.ETH_TX_OCT m, C.ETH_FCS_ERR m, C.ETH_RUNT m, C.ETH_TOO_LONG m, C.ETH_CODE_ERR m, C.ETH_MC_FILTERED m, C.ETH_PAUSE_RX m, C.ETH_PAUSE_IGNORED m, C.ETH_WD_TRIP m, C.ETH_GLIDE_DOWN m, C.ETH_GLIDE_UP m, C.ETH_GLIDE_FAIL m, C.ETH_LINK_DOWN m]

abbrev C.CLS_PKTS : Ctr := ⟨0x03000100, true, 0, 0, 0x0080, 3⟩
abbrev C.CLS_RECIRC : Ctr := ⟨0x03000108, true, 0, 0, 0x0080, 3⟩
abbrev C.CLS_MISS : Ctr := ⟨0x03000110, false, R.CLS_SAT, 0, 0x0080, 3⟩
abbrev C.CLS_EXC1 : Ctr := ⟨0x03000114, false, R.CLS_SAT, 1, 0x0080, 3⟩
abbrev C.CLS_EXC2 : Ctr := ⟨0x03000118, false, R.CLS_SAT, 2, 0x0080, 3⟩
abbrev C.CLS_EXC3 : Ctr := ⟨0x0300011c, false, R.CLS_SAT, 3, 0x0080, 3⟩
abbrev C.CLS_EXC4 : Ctr := ⟨0x03000120, false, R.CLS_SAT, 4, 0x0080, 3⟩
abbrev C.CLS_EXC5 : Ctr := ⟨0x03000124, false, R.CLS_SAT, 5, 0x0080, 3⟩
abbrev C.CLS_EXC6 : Ctr := ⟨0x03000128, false, R.CLS_SAT, 6, 0x0080, 3⟩
abbrev C.CLS_EXC7 : Ctr := ⟨0x0300012c, false, R.CLS_SAT, 7, 0x0080, 3⟩
abbrev C.CLS_EXC8 : Ctr := ⟨0x03000130, false, R.CLS_SAT, 8, 0x0080, 3⟩
abbrev C.CLS_EXC9 : Ctr := ⟨0x03000134, false, R.CLS_SAT, 9, 0x0080, 3⟩
abbrev C.CLS_EXC10 : Ctr := ⟨0x03000138, false, R.CLS_SAT, 10, 0x0080, 3⟩
abbrev C.CLS_FRAG_FULL : Ctr := ⟨0x0300013c, false, R.CLS_SAT, 11, 0x0080, 3⟩

/-- Counters of the block, in table order. -/
def clsCtrs : List Ctr := [C.CLS_PKTS, C.CLS_RECIRC, C.CLS_MISS, C.CLS_EXC1, C.CLS_EXC2, C.CLS_EXC3, C.CLS_EXC4, C.CLS_EXC5, C.CLS_EXC6, C.CLS_EXC7, C.CLS_EXC8, C.CLS_EXC9, C.CLS_EXC10, C.CLS_FRAG_FULL]

abbrev C.FWD_LOOKUP : Ctr := ⟨0x03000640, true, 0, 0, 0x0082, 3⟩
abbrev C.FWD_LEARNED : Ctr := ⟨0x03000648, false, R.FWD_SAT, 0, 0x0082, 3⟩
abbrev C.FWD_AGED : Ctr := ⟨0x0300064c, false, R.FWD_SAT, 1, 0x0082, 3⟩
abbrev C.FWD_MOVES : Ctr := ⟨0x03000650, false, R.FWD_SAT, 2, 0x0082, 3⟩
abbrev C.FWD_MOVE_LOCKED : Ctr := ⟨0x03000654, false, R.FWD_SAT, 3, 0x0082, 3⟩
abbrev C.FWD_LIMIT_HIT : Ctr := ⟨0x03000658, false, R.FWD_SAT, 4, 0x0082, 3⟩
abbrev C.FWD_LEARN_DROP : Ctr := ⟨0x0300065c, false, R.FWD_SAT, 5, 0x0082, 3⟩
abbrev C.FWD_TABLE_FULL : Ctr := ⟨0x03000660, false, R.FWD_SAT, 6, 0x0082, 3⟩
abbrev C.FWD_FILTERED : Ctr := ⟨0x03000664, false, R.FWD_SAT, 7, 0x0082, 3⟩

/-- Counters of the block, in table order. -/
def fwdCtrs : List Ctr := [C.FWD_LOOKUP, C.FWD_LEARNED, C.FWD_AGED, C.FWD_MOVES, C.FWD_MOVE_LOCKED, C.FWD_LIMIT_HIT, C.FWD_LEARN_DROP, C.FWD_TABLE_FULL, C.FWD_FILTERED]

abbrev C.BUF_ALLOC (i : Nat) : Ctr := ⟨0x03000840 + i * 0x20, true, 0, 0, 0x0083, 3⟩
abbrev C.BUF_EMPTY (i : Nat) : Ctr := ⟨0x03000848 + i * 0x20, false, R.BUF_SAT, 6 * i + 0, 0x0083, 3⟩
abbrev C.BUF_FELL_OVER (i : Nat) : Ctr := ⟨0x0300084c + i * 0x20, false, R.BUF_SAT, 6 * i + 1, 0x0083, 3⟩
abbrev C.BUF_DOUBLE_FREE (i : Nat) : Ctr := ⟨0x03000850 + i * 0x20, false, R.BUF_SAT, 6 * i + 2, 0x0083, 3⟩
abbrev C.BUF_FOREIGN_FREE (i : Nat) : Ctr := ⟨0x03000854 + i * 0x20, false, R.BUF_SAT, 6 * i + 3, 0x0083, 3⟩
abbrev C.BUF_RING_LOST (i : Nat) : Ctr := ⟨0x03000858 + i * 0x20, false, R.BUF_SAT, 6 * i + 4, 0x0083, 3⟩
abbrev C.BUF_CACHE_STALL (i : Nat) : Ctr := ⟨0x0300085c + i * 0x20, false, R.BUF_SAT, 6 * i + 5, 0x0083, 3⟩

/-- Counters of the block, in table order. -/
def bufCtrs (i : Nat) : List Ctr := [C.BUF_ALLOC i, C.BUF_EMPTY i, C.BUF_FELL_OVER i, C.BUF_DOUBLE_FREE i, C.BUF_FOREIGN_FREE i, C.BUF_RING_LOST i, C.BUF_CACHE_STALL i]

abbrev C.BUF_TOO_BIG : Ctr := ⟨0x030008c0, false, R.BUF_SAT, 24, 0x0083, 3⟩

/-- Counters of the block, in table order. -/
def bufTotalCtrs : List Ctr := [C.BUF_TOO_BIG]

abbrev C.DQ_PKTS (q : Nat) : Ctr := ⟨0x03e00020 + q * 0x40, true, 0, 0, 0x0085, 3⟩
abbrev C.DQ_HOLD_DROP (q : Nat) : Ctr := ⟨0x03e00028 + q * 0x40, false, R.HOST_DQ_SAT q, 0, 0x0085, 3⟩
abbrev C.DQ_DISABLED_DROP (q : Nat) : Ctr := ⟨0x03e0002c + q * 0x40, false, R.HOST_DQ_SAT q, 1, 0x0085, 3⟩
abbrev C.DQ_REWOUND (q : Nat) : Ctr := ⟨0x03e00030 + q * 0x40, false, R.HOST_DQ_SAT q, 2, 0x0085, 3⟩

/-- Counters of the block, in table order. -/
def dqCtrs (q : Nat) : List Ctr := [C.DQ_PKTS q, C.DQ_HOLD_DROP q, C.DQ_DISABLED_DROP q, C.DQ_REWOUND q]

abbrev C.HQ_PKTS (q : Nat) : Ctr := ⟨0x03e01020 + q * 0x40, true, 0, 0, 0x0085, 3⟩
abbrev C.HQ_BAD_DESC (q : Nat) : Ctr := ⟨0x03e01028 + q * 0x40, false, R.HOST_HQ_SAT q, 0, 0x0085, 3⟩
abbrev C.HQ_DMA_ERR (q : Nat) : Ctr := ⟨0x03e0102c + q * 0x40, false, R.HOST_HQ_SAT q, 1, 0x0085, 3⟩
abbrev C.HQ_REWOUND (q : Nat) : Ctr := ⟨0x03e01030 + q * 0x40, false, R.HOST_HQ_SAT q, 2, 0x0085, 3⟩

/-- Counters of the block, in table order. -/
def hqCtrs (q : Nat) : List Ctr := [C.HQ_PKTS q, C.HQ_BAD_DESC q, C.HQ_DMA_ERR q, C.HQ_REWOUND q]

abbrev C.SCH_ENQ : Ctr := ⟨0x03000940, true, 0, 0, 0x0084, 3⟩
abbrev C.SCH_DEQ : Ctr := ⟨0x03000948, true, 0, 0, 0x0084, 3⟩
abbrev C.SCH_DROP_FULL : Ctr := ⟨0x03000950, false, R.SCH_SAT, 0, 0x0084, 3⟩
abbrev C.SCH_DROP_SHARE : Ctr := ⟨0x03000954, false, R.SCH_SAT, 1, 0x0084, 3⟩
abbrev C.SCH_DROP_DOWN : Ctr := ⟨0x03000958, false, R.SCH_SAT, 2, 0x0084, 3⟩
abbrev C.SCH_NO_NODE : Ctr := ⟨0x0300095c, false, R.SCH_SAT, 3, 0x0084, 3⟩
abbrev C.SCH_SAMPLE_LOST : Ctr := ⟨0x03000960, false, R.SCH_SAT, 4, 0x0084, 3⟩

/-- Counters of the block, in table order. -/
def schCtrs : List Ctr := [C.SCH_ENQ, C.SCH_DEQ, C.SCH_DROP_FULL, C.SCH_DROP_SHARE, C.SCH_DROP_DOWN, C.SCH_NO_NODE, C.SCH_SAMPLE_LOST]

abbrev C.TIME_CAP_LOST : Ctr := ⟨0x03801140, false, R.TIME_SAT, 0, 0x0090, 5⟩
abbrev C.TIME_LAUNCH_FULL : Ctr := ⟨0x03801144, false, R.TIME_SAT, 1, 0x0090, 5⟩
abbrev C.TIME_LAUNCH_LATE : Ctr := ⟨0x03801148, false, R.TIME_SAT, 2, 0x0090, 5⟩
abbrev C.TIME_ONESTEP_SKIP : Ctr := ⟨0x0380114c, false, R.TIME_SAT, 3, 0x0090, 5⟩
abbrev C.TIME_TIME_IGNORED : Ctr := ⟨0x03801150, false, R.TIME_SAT, 4, 0x0090, 5⟩
abbrev C.TIME_TOD_RX_LOST : Ctr := ⟨0x03801154, false, R.TIME_SAT, 5, 0x0090, 5⟩

/-- Counters of the block, in table order. -/
def timeCtrs : List Ctr := [C.TIME_CAP_LOST, C.TIME_LAUNCH_FULL, C.TIME_LAUNCH_LATE, C.TIME_ONESTEP_SKIP, C.TIME_TIME_IGNORED, C.TIME_TOD_RX_LOST]

abbrev C.CIPH_REQ : Ctr := ⟨0x03a00140, true, 0, 0, 0x00A4, 4⟩
abbrev C.CIPH_AUTH_FAIL : Ctr := ⟨0x03a00148, false, R.CIPH_SAT, 0, 0x00A4, 4⟩
abbrev C.CIPH_BAD_REQ : Ctr := ⟨0x03a0014c, false, R.CIPH_SAT, 1, 0x00A4, 4⟩
abbrev C.CIPH_DMA_ERR : Ctr := ⟨0x03a00150, false, R.CIPH_SAT, 2, 0x00A4, 4⟩

/-- Counters of the block, in table order. -/
def ciphCtrs : List Ctr := [C.CIPH_REQ, C.CIPH_AUTH_FAIL, C.CIPH_BAD_REQ, C.CIPH_DMA_ERR]

abbrev C.MEM_PASSES (m : Nat) : Ctr := ⟨0x03c00140 + m * 0x20, true, 0, 0, memSource m, 0⟩
abbrev C.MEM_CE (m : Nat) : Ctr := ⟨0x03c00148 + m * 0x20, false, R.MEM_SAT, 3 * m + 0, memSource m, 0⟩
abbrev C.MEM_UE (m : Nat) : Ctr := ⟨0x03c0014c + m * 0x20, false, R.MEM_SAT, 3 * m + 1, memSource m, 0⟩
abbrev C.MEM_PASS_LATE (m : Nat) : Ctr := ⟨0x03c00150 + m * 0x20, false, R.MEM_SAT, 3 * m + 2, memSource m, 0⟩

/-- Counters of the block, in table order. -/
def memCtrs (m : Nat) : List Ctr := [C.MEM_PASSES m, C.MEM_CE m, C.MEM_UE m, C.MEM_PASS_LATE m]

abbrev C.MEM_DDR_SYM (k : Nat) : Ctr := ⟨0x03c00280 + k * 0x4, false, R.MEM_DDR_SAT, k, 0x00B0, 0⟩

/-- Counters of the block, in table order. -/
def memDdrCtrs (k : Nat) : List Ctr := [C.MEM_DDR_SYM k]

abbrev C.PWR_SQUALLS : Ctr := ⟨0x00200060, false, R.PWR_SAT, 0, 0x00C0, 0⟩
abbrev C.PWR_ABORTS : Ctr := ⟨0x00200064, false, R.PWR_SAT, 1, 0x00C0, 0⟩
abbrev C.PWR_ENTRY_FAIL : Ctr := ⟨0x00200068, false, R.PWR_SAT, 2, 0x00C0, 0⟩
abbrev C.PWR_WAKE_RETRY : Ctr := ⟨0x0020006c, false, R.PWR_SAT, 3, 0x00C0, 0⟩
abbrev C.PWR_WAKE_FAIL : Ctr := ⟨0x00200070, false, R.PWR_SAT, 4, 0x00C0, 0⟩
abbrev C.PWR_FEED_FAIL : Ctr := ⟨0x00200074, false, R.PWR_SAT, 5, 0x00C0, 0⟩
abbrev C.PWR_MEAS_FAIL : Ctr := ⟨0x00200078, false, R.PWR_SAT, 6, 0x00C0, 0⟩
abbrev C.PWR_OVC_DROP : Ctr := ⟨0x0020007c, false, R.PWR_SAT, 7, 0x00C0, 0⟩
abbrev C.PWR_AVS_DEFER : Ctr := ⟨0x00200080, false, R.PWR_SAT, 8, 0x00C0, 0⟩

/-- Counters of the block, in table order. -/
def pwrCtrs : List Ctr := [C.PWR_SQUALLS, C.PWR_ABORTS, C.PWR_ENTRY_FAIL, C.PWR_WAKE_RETRY, C.PWR_WAKE_FAIL, C.PWR_FEED_FAIL, C.PWR_MEAS_FAIL, C.PWR_OVC_DROP, C.PWR_AVS_DEFER]

/-- The counter with a register at an offset, among a block's, delta above its demand bank: either half of a 64-bit
counter. -/
def ctrIn (off delta : Nat) (cs : List Ctr) : Option Ctr :=
  cs.find? (fun c => c.off + delta == off || (c.wide && c.off + delta + 4 == off))

/-- Instance of a block that holds an offset, where the instances lie stride apart from base. -/
def instOf (off base stride count : Nat) : Nat := min ((off - base) / stride) (count - 1)

/-- The counter with a register at an offset, in a demand or an interval bank (R576). -/
def ctrAt (off : Nat) : Option Ctr :=
  ctrIn off 0 (ponCtrs (instOf off 0x00400100 0x10000 4))
  <|> ctrIn off 0x80 (ponCtrs (instOf off 0x00400180 0x10000 4))
  <|> ctrIn off 0 (tcCtrs (instOf off 0x00400240 0x10000 4))
  <|> ctrIn off 0x40 (tcCtrs (instOf off 0x00400280 0x10000 4))
  <|> ctrIn off 0 (usCtrs (instOf off 0x00400340 0x10000 4))
  <|> ctrIn off 0x40 (usCtrs (instOf off 0x00400380 0x10000 4))
  <|> ctrIn off 0 (bondCtrs (instOf off 0x00600040 0x100 4))
  <|> ctrIn off 0x40 (bondCtrs (instOf off 0x00600080 0x100 4))
  <|> ctrIn off 0 (veCtrs (instOf off 0x01000040 0x10000 96))
  <|> ctrIn off 0 (slabCtrs (instOf off 0x01000140 0x10000 96))
  <|> ctrIn off 0 (vsPortCtrs (instOf off 0x00800140 0x4 16))
  <|> ctrIn off 0 (svlCtrs (instOf off 0x00801040 0x100 16))
  <|> ctrIn off 0 (laneCtrs (instOf off 0x02000080 0x1000 44))
  <|> ctrIn off 0 (ethCtrs (instOf off 0x02800100 0x1000 24))
  <|> ctrIn off 0 (clsCtrs)
  <|> ctrIn off 0 (fwdCtrs)
  <|> ctrIn off 0 (bufCtrs (instOf off 0x03000840 0x20 4))
  <|> ctrIn off 0 (bufTotalCtrs)
  <|> ctrIn off 0 (dqCtrs (instOf off 0x03e00020 0x40 64))
  <|> ctrIn off 0 (hqCtrs (instOf off 0x03e01020 0x40 64))
  <|> ctrIn off 0 (schCtrs)
  <|> ctrIn off 0 (timeCtrs)
  <|> ctrIn off 0 (ciphCtrs)
  <|> ctrIn off 0 (memCtrs (instOf off 0x03c00140 0x20 8))
  <|> ctrIn off 0 (memDdrCtrs (instOf off 0x03c00280 0x4 18))
  <|> ctrIn off 0 (pwrCtrs)

end Sys2Proof.Machine
end

