-- ==== Sys2Proof/Config.lean ====
section
/-! DEFINITION. What one device fixes and what the spec leaves open. Every constant here is opaque: no proof can see
its value, so a statement that holds, holds whatever the value is (log 35). -/

namespace Sys2Proof.Config

/-- Base serial number, in one-time fuses (R100). -/
opaque baseSn : BitVec 32
/-- Cipher salt fuses (CIPH_SALT). -/
opaque fuseSalt : BitVec 32
/-- Control core that runs a piece of firmware work (Table 20-8: source 0x00D0 + c); the spec does not say which. -/
opaque freeCore : Nat → Fin 4
/-- Prediction of the phase detector from the accepted samples (R38); the spec gives no formula. -/
opaque phasePrediction : List Int → Int
/-- Oscillator control value after an accepted sample (R36, R40): bandwidth in 0.1 Hz, value, error. -/
opaque dpllControl : Nat → Int → Int → Int
/-- TB cycles for which CMD_BUSY stays 1 after an accepted TIME_CMD write (R459: at most 8). -/
opaque cmdBusy : Nat → Fin 9

/-- The device-unique wrapping key of the FV4410 blobs, 256 bits of fuses (R488). -/
opaque wrapKey : BitVec 256
/-- A key that the standard derives from a channel's master session key (R130), or its default where none is set: kind 0
PLOAM integrity, 1 OMCI integrity, 2 key encryption; the spec does not restate the derivation. -/
opaque derivedKey : Nat → Option (List (BitVec 8)) → BitVec 128

/-- The 48 bytes of an upstream PLOAM message on the fibre, by kind, arguments and body (Table 4-3: the standard's form). -/
opaque upBytes : Nat → List Nat → List (BitVec 8) → List (BitVec 8)
/-- PON_RX cycles (err, x, dec) that a channel received since its taps were last given, where no operand tells them (R68). -/
opaque eqInput : Nat → List (List Int × List Int × List Int)
/-- Mean squared slicer error that a snapshot latches, where no operand tells it (R74). -/
opaque eqMse : Nat → BitVec 16
/-- Is an XGEM frame in progress at a loss of sync, where no operand tells it (R92)? -/
opaque midFrame : Nat → Bool
/-- Initial counter block of an XGEM payload (R131, R149: the standard's): direction (0 downstream, 1 upstream), mode,
superframe counter, place of the frame among its frame's or burst's parts. -/
opaque counterBlock : Nat → Nat → Nat → Nat → BitVec 128
/-- Reporting unit in bytes less 1 and largest value of the DBRu field, by mode (R154: the standard's). -/
opaque dbruUnit : Nat → Nat
opaque dbruMax : Nat → Nat

/-- Voltage in mV of VDD_VE by engine clock code, and of VDD_CORE: the per-part table in fuses (R530). -/
opaque veMillivolts : Nat → Nat
opaque coreMillivolts : Nat
/-- Final status of a PWR_SET_STATE whose entry was aborted (R533, R536); the spec does not state it. -/
opaque abortedStatus : Nat → BitVec 8
/-- The boot key in one-time fuses (R581). -/
opaque bootKey : BitVec 256
/-- Bytes of a sector of the journal's flash mirror, by sequence number and address (R585): the spec gives no layout. -/
opaque mirrorByte : Nat → Nat → BitVec 8
/-- LEN in bytes that a known board table record type requires (R582); the spec gives no layouts. -/
opaque recordLen : Nat → Nat

/-- State in which a pattern generator starts (R325), and a transmit scrambler (R282): no start is given. -/
opaque prbsSeed : Nat → BitVec 64
opaque scramblerSeed : Nat → BitVec 58

/-- Set of the fragment table that a key falls in (R378); the spec gives 512 sets and no hash. -/
opaque fragSet : List Nat → Fin 512

/-- The instruction register of the TAP (R622): its bits less 2, the code of IDCODE, and the bits captured into it and into the
boundary-scan register that an instruction selects, by how many captures came before. The spec gives none of them. -/
opaque irBits : Nat
opaque idcodeCode : List Bool
opaque irCapture : List Bool
opaque scanCapture : List Bool → Nat → List Bool

end Sys2Proof.Config
end

