-- ==== Sys2Proof/Machine/RegTable.lean ====
section
/-! DEFINITION. The register table: for every register the spec gives the device, the bits of each access code
(Table 0-2, R7) and the reset value of its writable bits, from the register tables of the chapters. Choices: log 2. -/

namespace Sys2Proof.Machine

/-- One row of the register tables: offset of the first instance, the dimensions (count, stride) from the outermost,
the masks of RW, W1C, W1S and WO bits, the reset value of the RW bits. -/
structure RegSpec where
  base : Nat
  dims : List (Nat × Nat)
  rw : Nat
  w1c : Nat
  w1s : Nat
  wo : Nat
  reset : Nat
  deriving DecidableEq, Repr

/-- Register rows, part 0. -/
def regRows0 : List RegSpec := [
  -- TICK_CFG
  ⟨0x03800000, [], 0x000ffff0, 0x00000000, 0x00000000, 0x00000000, 0x000e4f20⟩,
  -- TICK_OFFSET
  ⟨0x03800004, [], 0x00007fff, 0x00000000, 0x00000000, 0x00000000, 0x00000000⟩,
  -- TICK_STATUS
  ⟨0x03800008, [], 0x00000000, 0x00000000, 0x00000000, 0x00000000, 0x00000000⟩,
  -- TICK_COUNT_LO
  ⟨0x03800010, [], 0x00000000, 0x00000000, 0x00000000, 0x00000000, 0x00000000⟩,
  -- TICK_COUNT_HI
  ⟨0x03800014, [], 0x00000000, 0x00000000, 0x00000000, 0x00000000, 0x00000000⟩,
  -- TICK_INDEX
  ⟨0x03800018, [], 0x00000000, 0x00000000, 0x00000000, 0x00000000, 0x00000000⟩,
  -- TICK_PHASE_ERR
  ⟨0x0380001c, [], 0x00000000, 0x00000000, 0x00000000, 0x00000000, 0x00000000⟩,
  -- TICK_OUT_CFG
  ⟨0x03800020, [], 0x00000003, 0x00000000, 0x00000000, 0x00000000, 0x00000001⟩,
  -- PON_RX_CFG
  ⟨0x00400000, [(4, 0x10000)], 0x00000007, 0x00000000, 0x00000000, 0x00000000, 0x00000000⟩,
  -- PON_FE_CFG
  ⟨0x00400004, [(4, 0x10000)], 0x003f1f0f, 0x00000000, 0x00000000, 0x00000000, 0x00080804⟩,
  -- PON_RX_STATUS
  ⟨0x00400008, [(4, 0x10000)], 0x00000000, 0x00000000, 0x00000000, 0x00000000, 0x00000000⟩,
  -- PON_EQ_CTL
  ⟨0x00400010, [(4, 0x10000)], 0xfffffff9, 0x00000000, 0x00000006, 0x00000000, 0x506a5008⟩,
  -- PON_EQ_STATUS
  ⟨0x00400014, [(4, 0x10000)], 0x00000000, 0x00000000, 0x00000000, 0x00000000, 0x00000000⟩,
  -- PON_EQ_TAP
  ⟨0x00400040, [(4, 0x10000), (32, 0x4)], 0x00000fff, 0x00000000, 0x00000000, 0x00000000, 0x00000000⟩,
  -- PON_SYNC_CFG
  ⟨0x004000c0, [(4, 0x10000)], 0x00001fff, 0x00000000, 0x00000000, 0x00000000, 0x00000550⟩,
  -- PON_SYNC_STATUS
  ⟨0x004000c4, [(4, 0x10000)], 0x00000000, 0x00000000, 0x00000000, 0x00000000, 0x00000000⟩,
  -- PON_SFC_LO
  ⟨0x004000c8, [(4, 0x10000)], 0x00000000, 0x00000000, 0x00000000, 0x00000000, 0x00000000⟩,
  -- PON_SFC_HI
  ⟨0x004000cc, [(4, 0x10000)], 0x00000000, 0x00000000, 0x00000000, 0x00000000, 0x00000000⟩,
  -- PON_FEC_CFG
  ⟨0x004000d0, [(4, 0x10000)], 0x0000001f, 0x00000000, 0x00000000, 0x00000000, 0x0000000a⟩,
  -- PON_STAT_CTL
  ⟨0x004000e0, [(4, 0x10000)], 0x000fff00, 0x00000000, 0x00000001, 0x00000000, 0x00000000⟩,
  -- PON_STAT_SAT
  ⟨0x004000e4, [(4, 0x10000)], 0x00000000, 0x000003ff, 0x00000000, 0x00000000, 0x00000000⟩,
  -- PON_TC_CFG
  ⟨0x00400200, [(4, 0x10000)], 0x00ffff07, 0x00000000, 0x00000000, 0x00000000, 0x00640a02⟩,
  -- PON_TC_STATUS
  ⟨0x00400204, [(4, 0x10000)], 0x00000000, 0x00000000, 0x00000000, 0x00000000, 0x00000000⟩,
  -- PON_SN_VID
  ⟨0x00400208, [(4, 0x10000)], 0x00000000, 0x00000000, 0x00000000, 0x00000000, 0x00000000⟩,
  -- PON_SN_VSSN
  ⟨0x0040020c, [(4, 0x10000)], 0x00000000, 0x00000000, 0x00000000, 0x00000000, 0x00000000⟩]

/-- Register rows, part 1. -/
def regRows1 : List RegSpec := [
  -- PON_EQD
  ⟨0x00400210, [(4, 0x10000)], 0x00000000, 0x00000000, 0x00000000, 0x00000000, 0x00000000⟩,
  -- PON_TC_SAT
  ⟨0x004002c0, [(4, 0x10000)], 0x00000000, 0x000003ff, 0x00000000, 0x00000000, 0x00000000⟩,
  -- PON_US_CFG
  ⟨0x00400300, [(4, 0x10000)], 0x00000001, 0x00000000, 0x00000000, 0x00000000, 0x00000000⟩,
  -- PON_US_BEN
  ⟨0x00400304, [(4, 0x10000)], 0xffffffff, 0x00000000, 0x00000000, 0x00000000, 0x01000100⟩,
  -- PON_US_STATUS
  ⟨0x00400308, [(4, 0x10000)], 0x00000000, 0x00000000, 0x00000000, 0x00000000, 0x00000000⟩,
  -- PON_US_SAT
  ⟨0x004003c0, [(4, 0x10000)], 0x00000000, 0x0000003f, 0x00000000, 0x00000000, 0x00000000⟩,
  -- BOND_STATUS
  ⟨0x00600000, [(4, 0x100)], 0x00000000, 0x00000000, 0x00000000, 0x00000000, 0x00000000⟩,
  -- BOND_SAT
  ⟨0x006000c0, [(4, 0x100)], 0x00000000, 0x0000007f, 0x00000000, 0x00000000, 0x00000000⟩,
  -- VE_CTL
  ⟨0x01000000, [(96, 0x10000)], 0x00000200, 0x00000000, 0x00000000, 0x00000003, 0x00000200⟩,
  -- VE_STATUS
  ⟨0x01000004, [(96, 0x10000)], 0x00000000, 0x03000000, 0x00000000, 0x00000000, 0x00000000⟩,
  -- VE_FAULT
  ⟨0x01000008, [(96, 0x10000)], 0x00000000, 0x00000000, 0x00000000, 0x00000000, 0x00000000⟩,
  -- VE_PC
  ⟨0x0100000c, [(96, 0x10000)], 0x00000000, 0x00000000, 0x00000000, 0x00000000, 0x00000000⟩,
  -- VE_DOORBELL
  ⟨0x01000010, [(96, 0x10000)], 0x00000000, 0x00000000, 0x00000001, 0x00000000, 0x00000000⟩,
  -- VE_SPAD_PAGE
  ⟨0x01000014, [(96, 0x10000)], 0x00000003, 0x00000000, 0x00000000, 0x00000000, 0x00000000⟩,
  -- VE_IDLE
  ⟨0x01000018, [(96, 0x10000)], 0x00000000, 0x00000000, 0x00000000, 0x00000000, 0x00000000⟩,
  -- VE_BUF
  ⟨0x01000020, [(96, 0x10000), (6, 0x4)], 0x0001ffe0, 0x00000000, 0x00000000, 0x00000000, 0x00000000⟩,
  -- VE_SAT
  ⟨0x01000060, [(96, 0x10000)], 0x00000000, 0x0000003f, 0x00000000, 0x00000000, 0x00000000⟩,
  -- SLAB_CTL
  ⟨0x01000100, [(96, 0x10000)], 0x00000003, 0x00000000, 0x00000000, 0x00000000, 0x00000000⟩,
  -- SLAB_STATUS
  ⟨0x01000104, [(96, 0x10000)], 0x00000000, 0x04000000, 0x00000000, 0x00000000, 0x00000000⟩,
  -- SLAB_ADDR
  ⟨0x01000108, [(96, 0x10000)], 0x4001ffff, 0x00000000, 0x80000000, 0x00000000, 0x00000000⟩,
  -- SLAB_DATA
  ⟨0x01000110, [(96, 0x10000), (8, 0x4)], 0xffffffff, 0x00000000, 0x00000000, 0x00000000, 0x00000000⟩,
  -- SLAB_DATA_CHECK
  ⟨0x01000130, [(96, 0x10000)], 0x00000000, 0x00000000, 0x00000000, 0x00000000, 0x00000000⟩,
  -- SLAB_SAT
  ⟨0x01000150, [(96, 0x10000)], 0x00000000, 0x00000007, 0x00000000, 0x00000000, 0x00000000⟩,
  -- VE_RETIRE_CFG
  ⟨0x00800000, [], 0x00013f0f, 0x00000000, 0x00000000, 0x00000000, 0x00010102⟩,
  -- VE_SPARE
  ⟨0x00800010, [(3, 0x4)], 0x00000000, 0x00000000, 0x00000000, 0x00000000, 0x00000000⟩]

/-- Register rows, part 2. -/
def regRows2 : List RegSpec := [
  -- VE_RETIRED
  ⟨0x00800020, [(3, 0x4)], 0x00000000, 0x00000000, 0x00000000, 0x00000000, 0x00000000⟩,
  -- VE_COPY_STATUS
  ⟨0x00800030, [], 0x00000000, 0x00000000, 0x00000000, 0x00000000, 0x00000000⟩,
  -- VS_STATUS
  ⟨0x00800100, [], 0x00000000, 0x00000000, 0x00000000, 0x00000000, 0x00000000⟩,
  -- VS_CUTOFF
  ⟨0x00800104, [], 0x000007ff, 0x00000000, 0x00000000, 0x00000000, 0x00000144⟩,
  -- VS_GROUP
  ⟨0x00800110, [(4, 0x4)], 0x00000000, 0x00000000, 0x00000000, 0x00000000, 0x00000000⟩,
  -- VS_PORT_LATE
  ⟨0x00800140, [(16, 0x4)], 0x00000000, 0x00000000, 0x00000000, 0x00000000, 0x00000000⟩,
  -- VS_SAT
  ⟨0x00800180, [], 0x00000000, 0x0000ffff, 0x00000000, 0x00000000, 0x00000000⟩,
  -- VS_TG
  ⟨0x00800200, [(96, 0x4)], 0x00000000, 0x00000000, 0x00000000, 0x00000000, 0x00000000⟩,
  -- SVL_PORT_CFG
  ⟨0x00801000, [(16, 0x100)], 0xfffff303, 0x00000000, 0x00000000, 0x00000000, 0x00000000⟩,
  -- SVL_PORT_STATUS
  ⟨0x00801004, [(16, 0x100)], 0x00000000, 0x00000000, 0x00000000, 0x00000000, 0x00000000⟩,
  -- SVL_SKEW
  ⟨0x00801008, [(16, 0x100)], 0x00000000, 0x00000000, 0x00000000, 0x00000000, 0x00000000⟩,
  -- SVL_LINE_SEL
  ⟨0x0080100c, [(16, 0x100)], 0x000000ff, 0x00000000, 0x00000000, 0x00000000, 0x00000000⟩,
  -- SVL_LINE_DATA
  ⟨0x00801010, [(16, 0x100)], 0x00000000, 0x00000000, 0x00000000, 0x00000000, 0x00000000⟩,
  -- SVL_STAT_CTL
  ⟨0x00801014, [(16, 0x100)], 0x00000000, 0x00000000, 0x00000001, 0x00000000, 0x00000000⟩,
  -- SVL_SAT
  ⟨0x00801018, [(16, 0x100)], 0x00000000, 0x000000ff, 0x00000000, 0x00000000, 0x00000000⟩,
  -- LANE_CFG; a PON serialiser has no receive half (R337)
  ⟨0x02000000, [(40, 0x1000)], 0x00000303, 0x00000000, 0x00000000, 0x00000000, 0x00000000⟩,
  ⟨0x02028000, [(4, 0x1000)], 0x00000302, 0x00000000, 0x00000000, 0x00000000, 0x00000000⟩,
  -- LANE_PWR
  ⟨0x02000004, [(40, 0x1000)], 0x00000007, 0x00000000, 0x00000000, 0x00000000, 0x00000004⟩,
  ⟨0x02028004, [(4, 0x1000)], 0x00000001, 0x00000000, 0x00000000, 0x00000000, 0x00000000⟩,
  -- LANE_STATUS
  ⟨0x02000008, [(44, 0x1000)], 0x00000000, 0x00000100, 0x00000000, 0x00000000, 0x00000000⟩,
  -- LANE_TXFIR; a vector link lane has r0 alone (Table 10-1)
  ⟨0x02000010, [(16, 0x1000)], 0x00007fff, 0x00000000, 0x00000000, 0x00000000, 0x00000600⟩,
  ⟨0x02000014, [(16, 0x1000), (2, 0x4)], 0x00000000, 0x00000000, 0x00000000, 0x00000000, 0x00000000⟩,
  ⟨0x02010010, [(28, 0x1000), (3, 0x4)], 0x00007fff, 0x00000000, 0x00000000, 0x00000000, 0x00000600⟩,
  -- LANE_RXEQ
  ⟨0x02000020, [(16, 0x1000)], 0x00001f0f, 0x00000000, 0x00000000, 0x00000000, 0x00000804⟩,
  ⟨0x02000024, [(16, 0x1000), (2, 0x4)], 0x00000000, 0x00000000, 0x00000000, 0x00000000, 0x00000000⟩,
  ⟨0x02010020, [(24, 0x1000), (3, 0x4)], 0x00001f0f, 0x00000000, 0x00000000, 0x00000000, 0x00000804⟩,
  ⟨0x02028020, [(4, 0x1000), (3, 0x4)], 0x00000000, 0x00000000, 0x00000000, 0x00000000, 0x00000000⟩,
  -- LANE_PAT_CFG
  ⟨0x02000040, [(44, 0x1000)], 0x0000007b, 0x00000000, 0x00000080, 0x00000000, 0x00000000⟩,
  -- LANE_PAT_USER_LO
  ⟨0x02000044, [(44, 0x1000)], 0xffffffff, 0x00000000, 0x00000000, 0x00000000, 0x00000000⟩,
  -- LANE_PAT_USER_HI
  ⟨0x02000048, [(44, 0x1000)], 0xffffffff, 0x00000000, 0x00000000, 0x00000000, 0x00000000⟩,
  -- LANE_INJ
  ⟨0x02000050, [(44, 0x1000)], 0x7fffffff, 0x00000000, 0x80000000, 0x00000000, 0x0000a001⟩,
  -- LANE_EYE_CFG
  ⟨0x02000060, [(40, 0x1000)], 0x3000001f, 0x00000000, 0xc0000000, 0x00000000, 0x00000014⟩,
  ⟨0x02028060, [(4, 0x1000)], 0x00000000, 0x00000000, 0x00000000, 0x00000000, 0x00000000⟩]

/-- Register rows, part 3. -/
def regRows3 : List RegSpec := [
  -- LANE_EYE_STATUS
  ⟨0x02000064, [(44, 0x1000)], 0x00000000, 0x00000000, 0x00000000, 0x00000000, 0x00000000⟩,
  -- LANE_EYE_ADDR
  ⟨0x02000068, [(40, 0x1000)], 0x00001fff, 0x00000000, 0x00000000, 0x00000000, 0x00000000⟩,
  ⟨0x02028068, [(4, 0x1000)], 0x00000000, 0x00000000, 0x00000000, 0x00000000, 0x00000000⟩,
  -- LANE_EYE_DATA
  ⟨0x0200006c, [(44, 0x1000)], 0x00000000, 0x00000000, 0x00000000, 0x00000000, 0x00000000⟩,
  -- LANE_SAT
  ⟨0x020000a0, [(44, 0x1000)], 0x00000000, 0x00000007, 0x00000000, 0x00000000, 0x00000000⟩,
  -- ETH_CFG
  ⟨0x02800000, [(24, 0x1000)], 0xffff0f19, 0x00000000, 0x00000000, 0x00000000, 0x05ee0010⟩,
  -- ETH_STATUS
  ⟨0x02800004, [(24, 0x1000)], 0x00000000, 0x00000000, 0x00000000, 0x00000000, 0x00000000⟩,
  -- ETH_TAG_RX
  ⟨0x02800008, [(24, 0x1000)], 0xffff0003, 0x00000000, 0x00000000, 0x00000000, 0x88a80000⟩,
  -- ETH_TAG_TX
  ⟨0x0280000c, [(24, 0x1000)], 0xffff001f, 0x00000000, 0x00000000, 0x00000000, 0x88a80000⟩,
  -- ETH_TAG_TX_VID
  ⟨0x02800010, [(24, 0x1000)], 0x0fff0fff, 0x00000000, 0x00000000, 0x00000000, 0x00000000⟩,
  -- ETH_PCP_MAP
  ⟨0x02800014, [(24, 0x1000), (2, 0x4)], 0x00ffffff, 0x00000000, 0x00000000, 0x00000000, 0x00000000⟩,
  -- ETH_PAUSE
  ⟨0x02800020, [(24, 0x1000)], 0xfffffc00, 0x00000000, 0x00000000, 0x00000000, 0x06419000⟩,
  -- ETH_GLIDE
  ⟨0x02800024, [(24, 0x1000)], 0xffffff80, 0x00000000, 0x00000000, 0x00000000, 0x28a03200⟩,
  -- ETH_GLIDE_STATUS
  ⟨0x02800028, [(24, 0x1000)], 0x00000000, 0x00000000, 0x00000000, 0x00000000, 0x00000000⟩,
  -- ETH_STAT_CTL
  ⟨0x02800030, [(24, 0x1000)], 0x00000000, 0x00000000, 0x00000001, 0x00000000, 0x00000000⟩,
  -- ETH_SAT
  ⟨0x02800034, [(24, 0x1000)], 0x00000000, 0x00000fff, 0x00000000, 0x00000000, 0x00000000⟩,
  -- ETH_SA_LO
  ⟨0x02800040, [(24, 0x1000)], 0xffffffff, 0x00000000, 0x00000000, 0x00000000, 0x00000000⟩,
  -- ETH_SA_HI
  ⟨0x02800044, [(24, 0x1000)], 0x0000ffff, 0x00000000, 0x00000000, 0x00000000, 0x00000000⟩,
  -- ETH_MCHASH
  ⟨0x02800200, [(24, 0x1000), (128, 0x4)], 0xffffffff, 0x00000000, 0x00000000, 0x00000000, 0x00000000⟩,
  -- CLS_CFG
  ⟨0x03000000, [], 0xffffff00, 0x00000000, 0x00000000, 0x00000000, 0x12b50a00⟩,
  -- CLS_VER_STATUS
  ⟨0x03000004, [], 0x00000000, 0x00000000, 0x00000000, 0x00000000, 0x00000000⟩,
  -- CLS_STAT_CTL
  ⟨0x03000010, [], 0x00000000, 0x00000000, 0x00000001, 0x00000000, 0x00000000⟩,
  -- CLS_SAT
  ⟨0x03000014, [], 0x00000000, 0x00000fff, 0x00000000, 0x00000000, 0x00000000⟩,
  -- CLS_INFLIGHT
  ⟨0x03000020, [(8, 0x4)], 0x00000000, 0x00000000, 0x00000000, 0x00000000, 0x00000000⟩,
  -- CLS_SRC_CFG
  ⟨0x03000200, [(28, 0x20)], 0xffff0003, 0x00000000, 0x00000000, 0x00000000, 0x00000000⟩,
  -- CLS_SRC_DEF_LO
  ⟨0x03000208, [(28, 0x20)], 0xffffffff, 0x00000000, 0x00000000, 0x00000000, 0x00000001⟩]

/-- Register rows, part 4. -/
def regRows4 : List RegSpec := [
  -- CLS_SRC_DEF_HI
  ⟨0x0300020c, [(28, 0x20)], 0xffffffff, 0x00000000, 0x00000000, 0x00000000, 0x00000000⟩,
  -- CLS_SRC_FRAG_LO
  ⟨0x03000210, [(28, 0x20)], 0xffffffff, 0x00000000, 0x00000000, 0x00000000, 0x00000001⟩,
  -- CLS_SRC_FRAG_HI
  ⟨0x03000214, [(28, 0x20)], 0xffffffff, 0x00000000, 0x00000000, 0x00000000, 0x00000000⟩,
  -- FWD_CFG
  ⟨0x03000600, [], 0x000000ff, 0x00000000, 0x00000000, 0x00000000, 0x00000020⟩,
  -- FWD_AGE_CFG
  ⟨0x03000604, [], 0xffff7fff, 0x00000000, 0x00000000, 0x00000000, 0x03e8012c⟩,
  -- FWD_MOVE_CFG
  ⟨0x03000608, [], 0xffe0ff0f, 0x00000000, 0x00000000, 0x00000000, 0xfa203c04⟩,
  -- FWD_NOW
  ⟨0x0300060c, [], 0x00000000, 0x00000000, 0x00000000, 0x00000000, 0x00000000⟩,
  -- FWD_STATUS
  ⟨0x03000610, [], 0x00000000, 0x00000000, 0x00000000, 0x00000000, 0x00000000⟩,
  -- FWD_STAT_CTL
  ⟨0x03000614, [], 0x00000000, 0x00000000, 0x00000001, 0x00000000, 0x00000000⟩,
  -- FWD_SAT
  ⟨0x03000618, [], 0x00000000, 0x000000ff, 0x00000000, 0x00000000, 0x00000000⟩,
  -- FWD_PORT_CFG
  ⟨0x03000700, [(28, 0x4)], 0x000fffff, 0x00000000, 0x00000000, 0x00000000, 0x000c0000⟩,
  -- FWD_PORT_USE
  ⟨0x03000780, [(28, 0x4)], 0x00000000, 0x00000000, 0x00000000, 0x00000000, 0x00000000⟩,
  -- BUF_POOL_CFG
  ⟨0x03000800, [(4, 0x4)], 0x80000000, 0x00000000, 0x00000000, 0x00000000, 0x80000000⟩,
  -- BUF_POOL_STATUS
  ⟨0x03000810, [(4, 0x4)], 0x00000000, 0x00000000, 0x00000000, 0x00000000, 0x00000000⟩,
  -- BUF_SAT
  ⟨0x03000824, [], 0x00000000, 0x01ffffff, 0x00000000, 0x00000000, 0x00000000⟩,
  -- HOST_DQ_CFG
  ⟨0x03e00000, [(64, 0x40)], 0xfcffffc0, 0x00000000, 0x00000000, 0x00000000, 0x3c000c00⟩,
  -- HOST_DQ_HOLD
  ⟨0x03e00004, [(64, 0x40)], 0x000003ff, 0x00000000, 0x00000000, 0x00000000, 0x00000064⟩,
  -- HOST_DQ_BASE_LO
  ⟨0x03e00008, [(64, 0x40)], 0xffffffff, 0x00000000, 0x00000000, 0x00000000, 0x00000000⟩,
  -- HOST_DQ_BASE_HI
  ⟨0x03e0000c, [(64, 0x40)], 0xffffffff, 0x00000000, 0x00000000, 0x00000000, 0x00000000⟩,
  -- HOST_DQ_TAIL
  ⟨0x03e00010, [(64, 0x40)], 0x0000ffff, 0x00000000, 0x00000000, 0x00000000, 0x00000000⟩,
  -- HOST_DQ_HEAD
  ⟨0x03e00014, [(64, 0x40)], 0x00000000, 0x00000000, 0x00000000, 0x00000000, 0x00000000⟩,
  -- HOST_DQ_POP_LO
  ⟨0x03e00018, [(64, 0x40)], 0x00000000, 0x00000000, 0x00000000, 0x00000000, 0x00000000⟩,
  -- HOST_DQ_POP_HI
  ⟨0x03e0001c, [(64, 0x40)], 0x00000000, 0x00000000, 0x00000000, 0x00000000, 0x00000000⟩,
  -- HOST_HQ_CFG
  ⟨0x03e01000, [(64, 0x40)], 0xf8ffe3c0, 0x00000000, 0x00000000, 0x00000000, 0x30000000⟩,
  -- HOST_HQ_BASE_LO
  ⟨0x03e01008, [(64, 0x40)], 0xffffffff, 0x00000000, 0x00000000, 0x00000000, 0x00000000⟩]

/-- Register rows, part 5. -/
def regRows5 : List RegSpec := [
  -- HOST_HQ_BASE_HI
  ⟨0x03e0100c, [(64, 0x40)], 0xffffffff, 0x00000000, 0x00000000, 0x00000000, 0x00000000⟩,
  -- HOST_HQ_TAIL
  ⟨0x03e01010, [(64, 0x40)], 0x0000ffff, 0x00000000, 0x00000000, 0x00000000, 0x00000000⟩,
  -- HOST_HQ_HEAD
  ⟨0x03e01014, [(64, 0x40)], 0x00000000, 0x00000000, 0x00000000, 0x00000000, 0x00000000⟩,
  -- HOST_HQ_WB_LO
  ⟨0x03e01018, [(64, 0x40)], 0xffffffff, 0x00000000, 0x00000000, 0x00000000, 0x00000000⟩,
  -- HOST_HQ_WB_HI
  ⟨0x03e0101c, [(64, 0x40)], 0xffffffff, 0x00000000, 0x00000000, 0x00000000, 0x00000000⟩,
  -- HOST_DQ_SAT
  ⟨0x03e00034, [(64, 0x40)], 0x00000000, 0x00000007, 0x00000000, 0x00000000, 0x00000000⟩,
  -- HOST_HQ_SAT
  ⟨0x03e01034, [(64, 0x40)], 0x00000000, 0x00000007, 0x00000000, 0x00000000, 0x00000000⟩,
  -- HOST_POP_LO
  ⟨0x03e02000, [(6, 0x10)], 0x00000000, 0x00000000, 0x00000000, 0x00000000, 0x00000000⟩,
  -- HOST_POP_HI
  ⟨0x03e02004, [(6, 0x10)], 0x00000000, 0x00000000, 0x00000000, 0x00000000, 0x00000000⟩,
  -- HOST_STAT_CTL
  ⟨0x03e03000, [], 0x00000000, 0x00000000, 0x00000001, 0x00000000, 0x00000000⟩,
  -- SCH_STATUS
  ⟨0x03000900, [], 0x00000000, 0x00000000, 0x00000000, 0x00000000, 0x00000000⟩,
  -- SCH_TEST_PORTS
  ⟨0x03000904, [], 0x00000000, 0x00000000, 0x00000000, 0x00000000, 0x00000000⟩,
  -- SCH_SAMPLE_CFG
  ⟨0x03000910, [], 0x800000ff, 0x00000000, 0x00000000, 0x00000000, 0x00000008⟩,
  -- SCH_SAMPLE_BASE_LO
  ⟨0x03000914, [], 0xffffffff, 0x00000000, 0x00000000, 0x00000000, 0x00000000⟩,
  -- SCH_SAMPLE_BASE_HI
  ⟨0x03000918, [], 0xffffffff, 0x00000000, 0x00000000, 0x00000000, 0x00000000⟩,
  -- SCH_SAMPLE_SIZE
  ⟨0x0300091c, [], 0x0000001f, 0x00000000, 0x00000000, 0x00000000, 0x00000010⟩,
  -- SCH_SAMPLE_WR
  ⟨0x03000920, [], 0x00000000, 0x00000000, 0x00000000, 0x00000000, 0x00000000⟩,
  -- SCH_SAMPLE_RD
  ⟨0x03000924, [], 0xffffffff, 0x00000000, 0x00000000, 0x00000000, 0x00000000⟩,
  -- SCH_STAT_CTL
  ⟨0x03000930, [], 0x00000000, 0x00000000, 0x00000001, 0x00000000, 0x00000000⟩,
  -- SCH_SAT
  ⟨0x03000934, [], 0x00000000, 0x0000001f, 0x00000000, 0x00000000, 0x00000000⟩,
  -- SCH_PORT_HELD
  ⟨0x03000a00, [(29, 0x4)], 0x00000000, 0x00000000, 0x00000000, 0x00000000, 0x00000000⟩,
  -- TIME_CFG
  ⟨0x03801000, [], 0x00000001, 0x00000000, 0x00000000, 0x00000000, 0x00000000⟩,
  -- TIME_STATUS
  ⟨0x03801004, [], 0x00000000, 0x00000002, 0x00000000, 0x00000000, 0x00000000⟩,
  -- TIME_INC_LO
  ⟨0x03801008, [], 0x00000000, 0x00000000, 0x00000000, 0x00000000, 0x00000000⟩,
  -- TIME_INC_HI
  ⟨0x0380100c, [], 0x00000000, 0x00000000, 0x00000000, 0x00000000, 0x00000000⟩]

/-- Register rows, part 6. -/
def regRows6 : List RegSpec := [
  -- TIME_ARG_INC_LO
  ⟨0x03801010, [], 0xffffffff, 0x00000000, 0x00000000, 0x00000000, 0x00000000⟩,
  -- TIME_ARG_INC_HI
  ⟨0x03801014, [], 0x0000ffff, 0x00000000, 0x00000000, 0x00000000, 0x00000000⟩,
  -- TIME_ARG_SEC_LO
  ⟨0x03801018, [], 0xffffffff, 0x00000000, 0x00000000, 0x00000000, 0x00000000⟩,
  -- TIME_ARG_SEC_HI
  ⟨0x0380101c, [], 0x0000ffff, 0x00000000, 0x00000000, 0x00000000, 0x00000000⟩,
  -- TIME_ARG_NS
  ⟨0x03801020, [], 0x3fffffff, 0x00000000, 0x00000000, 0x00000000, 0x00000000⟩,
  -- TIME_ARG_FRAC
  ⟨0x03801024, [], 0x0000ffff, 0x00000000, 0x00000000, 0x00000000, 0x00000000⟩,
  -- TIME_CMD
  ⟨0x03801028, [], 0x00000000, 0x00000000, 0x00000000, 0x00000007, 0x00000000⟩,
  -- TIME_ANCHOR_LO
  ⟨0x03801030, [], 0x00000000, 0x00000000, 0x00000000, 0x00000000, 0x00000000⟩,
  -- TIME_ANCHOR_HI
  ⟨0x03801034, [], 0x00000000, 0x00000000, 0x00000000, 0x00000000, 0x00000000⟩,
  -- TIME_RD_RAW_LO
  ⟨0x03801040, [], 0x00000000, 0x00000000, 0x00000000, 0x00000000, 0x00000000⟩,
  -- TIME_RD_RAW_HI
  ⟨0x03801044, [], 0x00000000, 0x00000000, 0x00000000, 0x00000000, 0x00000000⟩,
  -- TIME_RD_SEC_LO
  ⟨0x03801048, [], 0x00000000, 0x00000000, 0x00000000, 0x00000000, 0x00000000⟩,
  -- TIME_RD_SEC_HI
  ⟨0x0380104c, [], 0x00000000, 0x00000000, 0x00000000, 0x00000000, 0x00000000⟩,
  -- TIME_RD_NS
  ⟨0x03801050, [], 0x00000000, 0x00000000, 0x00000000, 0x00000000, 0x00000000⟩,
  -- TIME_RD_FRAC
  ⟨0x03801054, [], 0x00000000, 0x00000000, 0x00000000, 0x00000000, 0x00000000⟩,
  -- TIME_CAP
  ⟨0x03801060, [(8, 0x4)], 0x00000000, 0x00000000, 0x00000000, 0x00000000, 0x00000000⟩,
  -- TIME_CAP_STATUS
  ⟨0x03801080, [], 0x00000000, 0x00000000, 0x00000000, 0x00000000, 0x00000000⟩,
  -- TIME_RXCAP_Q_LO
  ⟨0x03801090, [], 0xffffffff, 0x00000000, 0x00000000, 0x00000000, 0x00000000⟩,
  -- TIME_RXCAP_Q_HI
  ⟨0x03801094, [], 0xffffffff, 0x00000000, 0x00000000, 0x00000000, 0x00000000⟩,
  -- TIME_LAUNCH_CFG
  ⟨0x038010a0, [], 0x00ffffff, 0x00000000, 0x00000000, 0x00000000, 0x00000000⟩,
  -- TIME_PON_CFG
  ⟨0x038010c0, [(4, 0x4)], 0xc0000000, 0x00000000, 0x00000000, 0x00000000, 0x00000000⟩,
  -- TIME_PON_TARGET
  ⟨0x038010d0, [(4, 0x4)], 0xffffffff, 0x00000000, 0x00000000, 0x00000000, 0x00000000⟩,
  -- TIME_PPS_CFG
  ⟨0x03801100, [], 0xfffffffb, 0x00000000, 0x00000000, 0x00000000, 0x00000c80⟩,
  -- TIME_SYNCE_CFG
  ⟨0x03801110, [(2, 0x4)], 0x0000003f, 0x00000000, 0x00000000, 0x00000000, 0x00000010⟩,
  -- TIME_TOD_CFG
  ⟨0x03801120, [], 0x00001ff7, 0x00000000, 0x00000000, 0x00000000, 0x000000a4⟩]

/-- Register rows, part 7. -/
def regRows7 : List RegSpec := [
  -- TIME_TOD_UTC
  ⟨0x03801124, [], 0xffff00ff, 0x00000000, 0x00000000, 0x00000000, 0x00000000⟩,
  -- TIME_TOD_RX
  ⟨0x03801128, [], 0x00000000, 0x00000000, 0x00000000, 0x00000000, 0x00000000⟩,
  -- TIME_SAT
  ⟨0x03801160, [], 0x00000000, 0x0000003f, 0x00000000, 0x00000000, 0x00000000⟩,
  -- TIME_STAT_CTL
  ⟨0x03801164, [], 0x00000000, 0x00000000, 0x00000001, 0x00000000, 0x00000000⟩,
  -- CIPH_STATUS
  ⟨0x03a00000, [], 0x00000000, 0x00000001, 0x00000000, 0x00000000, 0x00000000⟩,
  -- CIPH_SALT
  ⟨0x03a00004, [], 0x00000000, 0x00000000, 0x00000000, 0x00000000, 0x00000000⟩,
  -- CIPH_KEY_SEL
  ⟨0x03a00010, [], 0x003c03ff, 0x00000000, 0x00000000, 0x00000000, 0x00000000⟩,
  -- CIPH_KEY_CMD
  ⟨0x03a00014, [], 0x00000000, 0x00000000, 0x00000000, 0x00000003, 0x00000000⟩,
  -- CIPH_KEY_DATA
  ⟨0x03a00020, [(8, 0x4)], 0x00000000, 0x00000000, 0x00000000, 0xffffffff, 0x00000000⟩,
  -- CIPH_RQ_CFG
  ⟨0x03a00100, [], 0x800007ff, 0x00000000, 0x00000000, 0x00000000, 0x00000000⟩,
  -- CIPH_RQ_BASE_LO
  ⟨0x03a00104, [], 0xffffffff, 0x00000000, 0x00000000, 0x00000000, 0x00000000⟩,
  -- CIPH_RQ_BASE_HI
  ⟨0x03a00108, [], 0xffffffff, 0x00000000, 0x00000000, 0x00000000, 0x00000000⟩,
  -- CIPH_RP_BASE_LO
  ⟨0x03a0010c, [], 0xffffffff, 0x00000000, 0x00000000, 0x00000000, 0x00000000⟩,
  -- CIPH_RP_BASE_HI
  ⟨0x03a00110, [], 0xffffffff, 0x00000000, 0x00000000, 0x00000000, 0x00000000⟩,
  -- CIPH_RQ_TAIL
  ⟨0x03a00114, [], 0x0000ffff, 0x00000000, 0x00000000, 0x00000000, 0x00000000⟩,
  -- CIPH_RQ_HEAD
  ⟨0x03a00118, [], 0x00000000, 0x00000000, 0x00000000, 0x00000000, 0x00000000⟩,
  -- CIPH_STAT_CTL
  ⟨0x03a00160, [], 0x00000000, 0x00000000, 0x00000001, 0x00000000, 0x00000000⟩,
  -- CIPH_SAT
  ⟨0x03a00164, [], 0x00000000, 0x00000007, 0x00000000, 0x00000000, 0x00000000⟩,
  -- CIPH_SLOT
  ⟨0x03a01000, [(1024, 0x4)], 0x00000000, 0x00000000, 0x00000000, 0x00000000, 0x00000000⟩,
  -- MEM_DDR_CFG
  ⟨0x03c00000, [], 0x00000000, 0x00000000, 0x00000000, 0x00000000, 0x00000000⟩,
  -- MEM_DDR_STATUS
  ⟨0x03c00004, [], 0x00000000, 0x00000000, 0x00000000, 0x00000000, 0x00000000⟩,
  -- MEM_SCRUB_CFG
  ⟨0x03c00010, [(8, 0x8)], 0x8001ffff, 0x00000000, 0x00000000, 0x00000000, 0x80000000⟩,
  -- MEM_SCRUB_STATUS
  ⟨0x03c00014, [(8, 0x8)], 0x00000000, 0x00000000, 0x00000000, 0x00000000, 0x00000000⟩,
  -- MEM_INJ
  ⟨0x03c00100, [], 0x00001fff, 0x00000000, 0x80000000, 0x00000000, 0x00000000⟩,
  -- MEM_INJ_PAT
  ⟨0x03c00104, [], 0x0000ffff, 0x00000000, 0x00000000, 0x00000000, 0x00000001⟩]

/-- Register rows, part 8. -/
def regRows8 : List RegSpec := [
  -- MEM_STAT_CTL
  ⟨0x03c00240, [], 0x00000000, 0x00000000, 0x00000001, 0x00000000, 0x00000000⟩,
  -- MEM_SAT
  ⟨0x03c00244, [], 0x00000000, 0x00ffffff, 0x00000000, 0x00000000, 0x00000000⟩,
  -- MEM_DDR_SAT
  ⟨0x03c00248, [], 0x00000000, 0x0003ffff, 0x00000000, 0x00000000, 0x00000000⟩,
  -- MEM_DDR_SYM
  ⟨0x03c00280, [(18, 0x4)], 0x00000000, 0x00000000, 0x00000000, 0x00000000, 0x00000000⟩,
  -- MEM_UE_LOG_A
  ⟨0x03c00300, [(8, 0x8)], 0x00000000, 0x00000000, 0x00000000, 0x00000000, 0x00000000⟩,
  -- MEM_UE_LOG_B
  ⟨0x03c00304, [(8, 0x8)], 0x00000000, 0x80000000, 0x00000000, 0x00000000, 0x00000000⟩,
  -- MEM_UE_LOG_PTR
  ⟨0x03c00340, [], 0x00000000, 0x00000000, 0x00000000, 0x00000000, 0x00000000⟩,
  -- PWR_STATUS
  ⟨0x00200000, [], 0x00000000, 0x00000000, 0x00000000, 0x00000000, 0x00000000⟩,
  -- PWR_BUDGET_CFG
  ⟨0x00200004, [], 0xffffffff, 0x00000000, 0x00000000, 0x00000000, 0x000a7848⟩,
  -- PWR_THERM_CFG
  ⟨0x00200008, [], 0xfffffff0, 0x00000000, 0x00000000, 0x00000000, 0x69707850⟩,
  -- PWR_FEED_CFG
  ⟨0x0020000c, [], 0xfffffff0, 0x00000000, 0x00000000, 0x00000000, 0x00000c80⟩,
  -- PWR_FEED_HOST
  ⟨0x00200010, [], 0x0000ffff, 0x00000000, 0x00000000, 0x00000000, 0x000001e0⟩,
  -- PWR_GRADE
  ⟨0x00200014, [], 0x00000000, 0x00000000, 0x00000000, 0x00000000, 0x00000000⟩,
  -- PWR_MEAS
  ⟨0x00200018, [], 0x00000000, 0x00000000, 0x00000000, 0x00000000, 0x00000000⟩,
  -- PWR_TEMP
  ⟨0x00200020, [(8, 0x4)], 0x00000000, 0x00000000, 0x00000000, 0x00000000, 0x00000000⟩,
  -- PWR_WAKE_CFG
  ⟨0x00200040, [], 0xffffff07, 0x00000000, 0x00000000, 0x00000000, 0x00000002⟩,
  -- PWR_WAKE_TIMER
  ⟨0x00200044, [], 0xffffffff, 0x00000000, 0x00000000, 0x00000000, 0x00000000⟩,
  -- PWR_HAZE_CFG
  ⟨0x00200048, [], 0x0000000f, 0x00000000, 0x00000000, 0x00000000, 0x0000000b⟩,
  -- PWR_STAT_CTL
  ⟨0x00200090, [], 0x00000000, 0x00000000, 0x00000001, 0x00000000, 0x00000000⟩,
  -- PWR_SAT
  ⟨0x00200094, [], 0x00000000, 0x000001ff, 0x00000000, 0x00000000, 0x00000000⟩,
  -- HOST_ID
  ⟨0x10000000, [(6, 0x10000000)], 0x00000000, 0x00000000, 0x00000000, 0x00000000, 0x00000000⟩,
  -- HOST_RING_CFG
  ⟨0x10001000, [(6, 0x10000000)], 0xfffff000, 0x00000000, 0x00000000, 0x00000000, 0x0739b000⟩,
  -- HOST_RING_VEC
  ⟨0x10001004, [(6, 0x10000000)], 0x07ff07ff, 0x00000000, 0x00000000, 0x00000000, 0x00010000⟩,
  -- HOST_RING_STATUS
  ⟨0x10001008, [(6, 0x10000000)], 0x00000000, 0x00000008, 0x00000000, 0x00000000, 0x00000000⟩,
  -- HOST_CMD_BASE_LO
  ⟨0x10001010, [(6, 0x10000000)], 0xffffffff, 0x00000000, 0x00000000, 0x00000000, 0x00000000⟩]

/-- Register rows, part 9. -/
def regRows9 : List RegSpec := [
  -- HOST_CMD_BASE_HI
  ⟨0x10001014, [(6, 0x10000000)], 0xffffffff, 0x00000000, 0x00000000, 0x00000000, 0x00000000⟩,
  -- HOST_CMD_TAIL
  ⟨0x10001018, [(6, 0x10000000)], 0xffffffff, 0x00000000, 0x00000000, 0x00000000, 0x00000000⟩,
  -- HOST_CMD_HEAD
  ⟨0x1000101c, [(6, 0x10000000)], 0x00000000, 0x00000000, 0x00000000, 0x00000000, 0x00000000⟩,
  -- HOST_RPL_BASE_LO
  ⟨0x10001020, [(6, 0x10000000)], 0xffffffff, 0x00000000, 0x00000000, 0x00000000, 0x00000000⟩,
  -- HOST_RPL_BASE_HI
  ⟨0x10001024, [(6, 0x10000000)], 0xffffffff, 0x00000000, 0x00000000, 0x00000000, 0x00000000⟩,
  -- HOST_RPL_WR
  ⟨0x10001028, [(6, 0x10000000)], 0x00000000, 0x00000000, 0x00000000, 0x00000000, 0x00000000⟩,
  -- HOST_RPL_RD
  ⟨0x1000102c, [(6, 0x10000000)], 0xffffffff, 0x00000000, 0x00000000, 0x00000000, 0x00000000⟩,
  -- HOST_EVT_BASE_LO
  ⟨0x10001030, [(6, 0x10000000)], 0xffffffff, 0x00000000, 0x00000000, 0x00000000, 0x00000000⟩,
  -- HOST_EVT_BASE_HI
  ⟨0x10001034, [(6, 0x10000000)], 0xffffffff, 0x00000000, 0x00000000, 0x00000000, 0x00000000⟩,
  -- HOST_EVT_WR
  ⟨0x10001038, [(6, 0x10000000)], 0x00000000, 0x00000000, 0x00000000, 0x00000000, 0x00000000⟩,
  -- HOST_EVT_RD
  ⟨0x1000103c, [(6, 0x10000000)], 0xffffffff, 0x00000000, 0x00000000, 0x00000000, 0x00000000⟩,
  -- HOST_WB_LO
  ⟨0x10001040, [(6, 0x10000000)], 0xffffffff, 0x00000000, 0x00000000, 0x00000000, 0x00000000⟩,
  -- HOST_WB_HI
  ⟨0x10001044, [(6, 0x10000000)], 0xffffffff, 0x00000000, 0x00000000, 0x00000000, 0x00000000⟩,
  -- HOST_EVT_LOST
  ⟨0x10001048, [(6, 0x10000000)], 0x00000000, 0x00000000, 0x00000000, 0x00000000, 0x00000000⟩,
  -- BOOT_STATUS
  ⟨0x00002000, [], 0x00000000, 0x00000000, 0x00000000, 0x00000000, 0x00000000⟩,
  -- BOOT_RESTART
  ⟨0x00002004, [], 0x00000000, 0x00000000, 0x00000000, 0xffffffff, 0x00000000⟩,
  -- BOOT_QSPI_ADDR
  ⟨0x00002010, [], 0x00ffffff, 0x00000000, 0x00000000, 0x00000000, 0x00000000⟩,
  -- BOOT_QSPI_CMD
  ⟨0x00002014, [], 0x00000000, 0x60000000, 0x00000000, 0x00000003, 0x00000000⟩,
  -- BOOT_QSPI_DATA
  ⟨0x00002100, [(64, 0x4)], 0xffffffff, 0x00000000, 0x00000000, 0x00000000, 0x00000000⟩,
  -- PWR_JRN_STATUS
  ⟨0x00200100, [], 0x00000000, 0x00000200, 0x00000000, 0x00000000, 0x00000000⟩,
  -- PWR_JRN_PRESC
  ⟨0x00200104, [], 0x00000000, 0x00000000, 0x00000000, 0x00000000, 0x00000000⟩,
  -- PWR_JRN_CLEAR
  ⟨0x00200108, [], 0x00000000, 0x00000000, 0x00000001, 0x00000000, 0x00000000⟩,
  -- PWR_JRN_ENG
  ⟨0x00200110, [(3, 0x4)], 0x00000000, 0x00000000, 0x00000000, 0x00000000, 0x00000000⟩,
  -- HOST_ACC_ERR
  ⟨0x10001050, [(6, 0x10000000)], 0x00000000, 0x0000000f, 0x00000000, 0x00000000, 0x00000000⟩,
  -- BOND_STAT_CTL
  ⟨0x00600400, [], 0x000fff00, 0x00000000, 0x00000001, 0x00000000, 0x00000000⟩]

/-- Register rows, part 10. -/
def regRows10 : List RegSpec := [
  -- BUF_STAT_CTL
  ⟨0x03000820, [], 0x00000000, 0x00000000, 0x00000001, 0x00000000, 0x00000000⟩]

/-- Every register of the device. -/
def regTable : List RegSpec :=
  regRows0 ++ regRows1 ++ regRows2 ++ regRows3 ++ regRows4 ++ regRows5 ++ regRows6 ++ regRows7 ++ regRows8 ++ regRows9 ++ regRows10

/-- Does an offset relative to the first instance name an instance, under the dimensions? -/
def dimsHit : List (Nat × Nat) → Nat → Bool
  | [], rel => rel == 0
  | (cnt, stride) :: ds, rel => decide (rel / stride < cnt) && dimsHit ds (rel % stride)

/-- Does a row hold the register at an offset? -/
def RegSpec.holds (r : RegSpec) (off : Nat) : Bool :=
  decide (r.base ≤ off) && dimsHit r.dims (off - r.base)

/-- The row of the register at an offset (R597: none where no register is defined). -/
@[irreducible] def regSpecAt (off : Nat) : Option RegSpec := regTable.find? (fun r => r.holds off)

/-- Reset value of the writable bits of the register at an offset: the tables' value, with the rows whose reset value
differs among their instances written out (BUF_POOL_CFG of pool 3, MEM_SCRUB_CFG of memory 0, PON_EQ_TAP under R69). -/
@[irreducible] def regReset (off : Nat) : Word :=
  if off = R.BUF_POOL_CFG 3 then 0
  else if off = R.MEM_SCRUB_CFG 0 then 0x80000e10
  else match regSpecAt off with
    | some r => BitVec.ofNat 32 r.reset
    | none => 0

end Sys2Proof.Machine
end

