-- ==== Sys2Proof/Machine/Sparse.lean ====
section
/-! DEFINITION. Stores with one value per number, kept as a list of (number, value) pairs in ONE canonical form:
numbers strictly rising, no entry equal to what an unlisted number reads as. Registers, counters, per-instance blocks,
tables and memories are held so. -/

namespace Sys2Proof.Machine

/-- A store: (number, value) pairs. -/
abbrev Sparse (α : Type) := List (Nat × α)

/-- Read a number: the first entry that names it, else the default. -/
def sparseGet {α : Type} (d : Nat → α) : Sparse α → Nat → α
  | [], k => d k
  | (j, v) :: m, k => if j = k then v else sparseGet d m k

/-- Remove every entry that names a number. -/
def sparseDel {α : Type} : Sparse α → Nat → Sparse α
  | [], _ => []
  | (j, v) :: m, k => if j = k then sparseDel m k else (j, v) :: sparseDel m k

/-- Put an entry in its place by rising number. -/
def sparseIns {α : Type} : Sparse α → Nat → α → Sparse α
  | [], k, v => [(k, v)]
  | (j, w) :: m, k, v => if k < j then (k, v) :: (j, w) :: m else (j, w) :: sparseIns m k v

/-- Write a number: the entry is replaced; writing the default removes it, so the form stays canonical. -/
def sparseSet {α : Type} [DecidableEq α] (d : Nat → α) (m : Sparse α) (k : Nat) (v : α) : Sparse α :=
  if v = d k then sparseDel m k else sparseIns (sparseDel m k) k v

/-- Change every entry; an entry that becomes the default is removed. -/
def sparseMap {α : Type} [DecidableEq α] (d : Nat → α) (f : Nat → α → α) (m : Sparse α) : Sparse α :=
  m.filterMap (fun p => if f p.1 p.2 = d p.1 then none else some (p.1, f p.1 p.2))

/-- The canonical form: numbers strictly rising, no entry equal to the default. -/
def sparseWf {α : Type} [DecidableEq α] (d : Nat → α) (m : Sparse α) : Bool :=
  decide (m.Pairwise (fun a b => a.1 < b.1)) && m.all (fun p => decide (p.2 ≠ d p.1))

end Sys2Proof.Machine
end

