-- ==== Sys2Proof/Machine/StateBase.lean ====
section
/-! DEFINITION. State of the event arbiter, the host functions, the outputs, frames, buffers, host queues, schedulers
and the timebase (chapters 01, 14, 15, 16, 20). Fields whose value a register table gives as RO are here; writable
register bits stand in the register file (State.regs). -/

namespace Sys2Proof.Machine

/-- The echo fields of a command: what its reply or completion event repeats (Tables 20-4, 20-8). -/
structure Echo where
  func : Nat
  op : Nat
  seq : Nat
  cookie : Nat
  always : Bool
  ordered : Bool
  deriving DecidableEq, Repr

/-! Events (R21 to R29, R565 to R569, R559). -/

/-- An event a block has raised and the arbiter has not granted; no is the model's number of the raise. -/
structure Ev where
  sev : Nat
  code : Nat
  func : Nat
  payload : List Byte
  no : Nat
  deriving DecidableEq, Repr

/-- The 16 places of one source (R29) and the count of events it has discarded. -/
structure EvSource where
  queue : List Ev := []
  discarded : Nat := 0
  deriving DecidableEq, Repr

/-- A granted event (Table 20-7). -/
structure EvRec where
  seq : BitVec 32
  tick : BitVec 32
  src : Nat
  code : Nat
  sev : Nat
  func : Nat
  payload : List Byte
  deriving DecidableEq, Repr

/-- A command-completed event that waits for the events of its command's effects to be granted (R559). -/
structure DeferredEv where
  waits : List Nat
  echo : Echo
  id : Nat
  status : Nat
  detail : Nat
  deriving DecidableEq, Repr

/-- The event arbiter (R22 to R26). -/
structure Arbiter where
  sources : Sparse EvSource := []
  last : Nat := 0xFFFF
  lastCycle : Option Nat := none
  seq : BitVec 32 := 0
  raised : Nat := 0
  deferred : List DeferredEv := []
  deriving DecidableEq, Repr

/-! Host functions (R552 to R559, R574). -/

/-- A command begun and not yet replied: it ends later (R558); id names it, tick is the tick count at which it began. -/
structure Begun where
  echo : Echo
  id : Nat
  tick : Nat := 0
  deriving DecidableEq, Repr

/-- A command that replied ACCEPTED and whose completion event is not yet granted (R559). -/
structure Accepted where
  echo : Echo
  id : Nat
  evNo : Option Nat := none
  deriving DecidableEq, Repr

/-- The device's side of one function's rings (Table 20-2, R554, R558, R568, R569, R574, R596). -/
structure HostFn where
  cmdHead : BitVec 32 := 0
  rplWr : BitVec 32 := 0
  evtWr : BitVec 32 := 0
  store : List EvRec := []
  evtLost : Nat := 0
  lostCount : Nat := 0
  lostSev : Nat := 3
  resetting : Bool := false
  resetDropped : Nat := 0
  held : List (List Byte) := []
  begun : List Begun := []
  accepted : List Accepted := []
  noticeOpen : Bool := false
  noticeDue : Bool := false
  accErrOffset : Nat := 0
  latches : Sparse Nat := []
  tickHi : Nat := 0
  tickIndex : Nat := 0
  rdRawHi : Nat := 0
  rdSec : Nat := 0
  rdNs : Nat := 0
  rdFrac : Nat := 0
  msix : Sparse Nat := []
  rdata : Nat := 0
  deriving DecidableEq, Repr

/-! Frames and buffers (R404 to R415, R362 to R370). -/

/-- An Ethernet frame in one buffer, with the metadata the packet path attaches to it. bytes run from the destination
address to the byte before the FCS, tags removed under R343; tags are the removed bytes. -/
structure Frame where
  buf : Nat := 0
  bytes : List Byte := []
  tags : List Byte := []
  bad : Bool := false
  src : Nat := 0
  fid : Nat := 0
  vid0 : Nat := 0
  pcp : Nat := 0
  cls : Nat := 0
  colour : Nat := 0
  queue : Nat := 0
  exc : Nat := 0
  hash : Nat := 0
  bond : Bool := false
  bondClass : Nat := 0
  bondGroup : Nat := 0
  copy : Bool := false
  rxRaw : Option Nat := none
  rxTime : Nat := 0
  time : Nat := 0
  hq : Nat := 64
  hqIdx : Nat := 0
  ver : Nat := 0
  deriving DecidableEq, Repr

/-- A frame waiting in a scheduler queue: level-1 node, enqueue instant in 0.1 µs, bond bucket it counts in,
bytes of it already sent in fragments on a PON channel. -/
structure QFrame where
  frame : Frame
  node1 : Nat
  enqAt : Nat
  bucket : Option (Nat × Nat) := none
  sent : Nat := 0
  deriving DecidableEq, Repr

/-- Free IDs of one pool: the cache, oldest first, and the ring in DDR4 as runs (first, count), with the ring slot of
the next read (R408, R410). free is FREE of BUF_POOL_STATUS; aside the IDs set aside in the ring in OVERCAST (R535). -/
structure Pool where
  count : Nat
  cache : List Nat := []
  ring : List (Nat × Nat) := []
  ringHead : Nat := 0
  free : Nat := 0
  aside : List (Nat × Nat) := []
  emptyTold : Bool := false
  deriving DecidableEq, Repr

/-- The buffer pool manager: pools, owner tag by buffer ID (0: state bit 0), destinations outstanding by buffer ID, and
the buffers whose frame had more than one destination (R414). -/
structure Buffers where
  pools : Sparse Pool := []
  owner : Sparse Nat := []
  dests : Sparse Nat := []
  multi : Sparse Bool := []
  limited : Bool := false
  deriving DecidableEq, Repr

/-- A completion descriptor (Table 14-2), 64 bits. -/
abbrev Descriptor := BitVec 64

/-- One device-to-host queue (R416 to R425). -/
structure DQueue where
  head : Nat := 0
  fifo : List Descriptor := []
  front : Option Frame := none
  writing : Bool := false
  claimed : List Nat := []
  commits : Nat := 0
  holdTold : Bool := false
  deriving DecidableEq, Repr

/-- One host-to-device queue (R426 to R428). cur is the frame being read, dest and fwd its descriptor's DEST and FWD. -/
structure HQueue where
  head : Nat := 0
  cur : Option Frame := none
  fwd : Bool := false
  dest : Nat := 0
  deriving DecidableEq, Repr

/-- The host packet channels. -/
structure HostChan where
  dq : Sparse DQueue := []
  hq : Sparse HQueue := []
  lastPop : Sparse Nat := []
  deriving DecidableEq, Repr

/-! What leaves the device. -/

/-- An upstream PLOAM message (Table 4-3): kind 0 Acknowledgement (sequence number, completion code: 0 OK, 1 Processing
error, 2 Unknown message type), 1 Registration, 2 Key_Report (key index), 3 Sleep_Request (mode), 4 Serial_Number_ONU,
5 the message the standard prescribes where none is queued. Its bytes on the fibre are the standard's. -/
structure UpMsg where
  kind : Nat
  args : List Nat := []
  body : List Byte := []
  deriving DecidableEq, Repr

/-- A part of an upstream burst, in order (R148): PSBu and header, PLOAMu, DBRu of an Alloc-ID with the value reported, an
XGEM frame (its port-ID where the spec names one, key index, 0 for none, bytes as they leave and last-fragment flag), idle
XGEM bytes, FS trailer, and that the standard's FEC parity of the mode is inserted. -/
inductive BurstPart where
  | header (profile : Nat)
  | ploamu (m : UpMsg)
  | dbru (alloc value : Nat)
  | xgem (alloc : Nat) (port : Option Nat) (key : Nat) (bytes : List Byte) (last : Bool)
  | idle (bytes : Nat)
  | trailer
  | parity (mode : Nat)
  deriving DecidableEq, Repr

/-- One thing that leaves the device: a write to host memory, an MSI-X message, a frame on an Ethernet lane (bytes and
whether its FCS is right), an upstream PLOAM message, a burst, a pulse (with its
active level) or a level on a pin, a control block or tile pair on
a vector link lane, n IDLE blocks on every lane of a port, a received block that a far-end loop sends out again, a 64-bit word
of a lane in test, a pulse of 1PPS_OUT (level and length), a message of the time-of-day port, the byte after which one is cut
off, a request to a regulator. -/
inductive Output where
  | hostWrite (func addr : Nat) (bytes : List Byte)
  | msix (func vector : Nat)
  | ethFrame (mac : Nat) (bytes : List Byte) (ok : Bool)
  | ethControl (mac : Nat) (kind : Nat) (arg : Nat)
  | ploamUp (ch : Nat) (msg : UpMsg) (delay : Nat)
  | burst (ch : Nat) (parts : List BurstPart)
  | pin (name : String) (inst : Nat) (level : Bool)
  | pulse (name : String) (inst : Nat) (level : Bool := true)
  | block (port lane : Nat) (bytes : List Byte)
  | tilePair (port lane : Nat) (bits : Nat)
  | idles (port n : Nat)
  | resent (lane : Nat) (block : BitVec 66)
  | laneWord (lane : Nat) (word : BitVec 64)
  | pps (level : Bool) (widthMs : Nat)
  | tod (bytes : List Byte)
  | todCut (bytesSent : Nat)
  | regulator (rail : Nat) (request : Nat)
  deriving DecidableEq, Repr

/-! Queue manager (R433 to R454). -/

/-- A shaper field (Table 15-2) and its credit (R437), kept in units of 10^-7 byte:
one unit is what 1 kbit/s earns in one PKT cycle of 0.8 ns; asOf is the PKT cycle it was brought up to. -/
structure Shaper where
  en : Bool := false
  rate : Nat := 0
  burst : Nat := 16384
  overhead : Int := 0
  credit : Int := 0
  asOf : Nat := 0
  deriving DecidableEq, Repr

/-- A level-1 node record and the bytes its queues hold (R435, R445). -/
structure Node1 where
  sel : Nat := 0
  selBase : Nat := 0
  nodeBase : Nat := 0
  nodes : Nat := 0
  shareKb : Nat := 49152
  shaper : Shaper := {}
  held : Nat := 0
  shareTold : Bool := false
  drrNext : Nat := 0
  deriving DecidableEq, Repr

/-- A level-2 node record (R441, R447 to R449). line is the line channel bound to it; shaper is in force, own the
record's shaper field. lineHold: 0 none, 1 held as in line state 1, 2 discarding. -/
structure Node2 where
  own : Shaper := {}
  parent : Nat := 29
  weight : Nat := 1
  spCount : Nat := 0
  shaper : Shaper := {}
  deficit : Int := 0
  lineHold : Nat := 0
  line : Option Nat := none
  drrNext : Nat := 0
  deriving DecidableEq, Repr

/-- A queue record and its statistics (R444, R450, SCH_QUEUE_READ). -/
structure SQueue where
  weight : Nat := 1
  maxKb : Nat := 1
  yelPct : Nat := 100
  redPct : Nat := 100
  sample : Bool := false
  shaper : Shaper := {}
  deficit : Int := 0
  frames : List QFrame := []
  dropped : Nat := 0
  maxSojourn : Nat := 0
  setDrops : Nat := 0
  deriving DecidableEq, Repr

/-- A line channel context entry: host half as loaded, device half (Table 15-3). -/
structure LineCtx where
  host : List Byte := []
  ndr : Nat := 0
  state : Nat := 0
  rate : Nat := 0
  bytes : Nat := 0
  discarded : Nat := 0
  changed : Nat := 0
  delivered : Bool := false
  wb : List Byte := []
  deriving DecidableEq, Repr

/-- A frame on its way to the queue manager, for one destination: a level-1 node (R434), the device-to-host queue when
that is node 28, the bond group when the bonding layer chooses the channel (R158). -/
structure Arrival where
  frame : Frame
  node1 : Nat
  dq : Nat := 0
  group : Option Nat := none
  deriving DecidableEq, Repr

/-- The queue manager. pkt is the PKT cycle last told to it. -/
structure Sched where
  node1 : Sparse Node1 := []
  node2 : Sparse Node2 := []
  queue : Sparse SQueue := []
  acct : Nat := 1
  recoveryTicks : Nat := 0
  sampleWr : BitVec 32 := 0
  vcNumber : BitVec 32 := 0
  setNumber : Nat := 0
  noNodeTold : Bool := false
  lines : Sparse LineCtx := []
  arrivals : List Arrival := []
  pkt : Nat := 0
  deriving DecidableEq, Repr

/-! Timebase (R455 to R481). -/

/-- An entry of a MAC's launch queue (R468). instant in nanoseconds of seconds mod 2^16. -/
structure Launch where
  frame : Frame
  sec : Nat
  ns : Nat
  late : Bool := false
  deriving DecidableEq, Repr

/-- The timebase. offset is OFFSET in units of 2^-40 ns, modulo 2^48 s. ppsFrom: raw count since which an edge on 1PPS_IN is
awaited; ppsOut: that of the latest pulse; todPulse: a pulse whose time-of-day message has not begun (its seconds, its raw count); todStart: raw count at which
the latest message began. -/
structure TimeBase where
  raw : Nat := 0
  inc : Nat := 0x0147AE147AE1
  offset : Nat := 0
  anchor : Nat := 0
  busyUntil : Nat := 0
  fifo : List (List Byte) := []
  capWords : List Byte := []
  capLostTold : Bool := false
  launch : Sparse (List Launch) := []
  lateTold : Nat := 0
  ppsEdges : Nat := 0
  ppsLast : Nat := 0
  ppsLostTold : Bool := false
  todRx : List Byte := []
  ppsFrom : Nat := 0
  ppsOut : Nat := 0
  todPulse : Option (Nat × Nat) := none
  todStart : Option Nat := none
  deriving DecidableEq, Repr

end Sys2Proof.Machine
end

