-- ==== Sys2Proof/Machine/StateCls.lean ====
section
/-! DEFINITION. State of the classifier, the fragment table and the forwarding table (chapters 12, 13). -/

namespace Sys2Proof.Machine

/-- A rule slot or flow entry in use (Table 12-4, R368): rule set, key, mask (rules alone), priority (rules alone), ACTION,
and the VER byte as its two flags with their versions (R372). -/
structure ClsEntry where
  set : Nat
  key : Nat
  mask : Nat := 0
  prio : Nat := 0
  action : Nat
  addV : Option Nat := none
  delV : Option Nat := none
  deriving DecidableEq, Repr

/-- A fragment table entry (R377, R378): its key as numbers, the action recorded, the tick at which it was recorded. -/
structure FragEntry where
  key : List Nat
  action : Nat
  at_ : Nat
  deriving DecidableEq, Repr

/-- The classifier. rules are keyed by 8,192 × rule set + slot, flows and frags by 4 × set + way, masks by rule set;
inflight by version. -/
structure Classifier where
  rules : Sparse (Option ClsEntry) := []
  flows : Sparse (Option ClsEntry) := []
  masks : Sparse Nat := []
  frags : Sparse (Option FragEntry) := []
  ver : Nat := 0
  prev : Option Nat := none
  sweep : Bool := false
  inflight : Sparse Nat := []
  fragTold : Bool := false
  deriving DecidableEq, Repr

/-- A forwarding table entry (Table 13-2). src is the source its DEST was learned from (R391), 255 none; stashNo orders the
entries of the stash by their arrival there. -/
structure FwdEntry where
  mac : Nat
  fid : Nat
  dest : Nat
  static : Bool := false
  lock : Bool := false
  moves : Nat := 0
  ts : Nat := 0
  mt : Nat := 0
  gen : Nat := 0
  src : Nat := 255
  stashNo : Nat := 0
  deriving DecidableEq, Repr

/-- Requests to the learn arbiter (R389); parity is the deletion of a learned entry with a parity error (R524). -/
inductive FwdKind where
  | learn | refresh | move | age | parity
  deriving DecidableEq, Repr

/-- A request: the key, the DEST to be learned and its source. -/
structure FwdReq where
  kind : FwdKind
  mac : Nat
  fid : Nat
  dest : Nat := 0
  src : Nat := 255
  deriving DecidableEq, Repr

/-- An open walk (R399, R400): its cursor, its carry list, the tick of its latest NEXT. -/
structure Walk where
  cursor : Nat := 0
  carry : List FwdEntry := []
  at_ : Nat := 0
  deriving DecidableEq, Repr

/-- A FLUSH_PORT that runs (R396): DEST, static entries too, places left to scan, entries deleted, its command. -/
structure Flush where
  dest : Nat
  static : Bool
  left : Nat
  deleted : Nat := 0
  func : Nat
  id : Nat
  deriving DecidableEq, Repr

/-- The forwarding table. entries are keyed by the position of R399: 4b + w way w of bucket b, 131,072 + i stash place i.
gen is the creation counter; ms, sec, now the clocks of R387 with the ticks counted towards each; reqs the learn arbiter's
queue, oldest first; scan the place the aging scan examines next, buckets before stash places. -/
structure Fwd where
  entries : Sparse (Option FwdEntry) := []
  gen : Nat := 0
  stashNo : Nat := 0
  ms : Nat := 0
  sec : Nat := 0
  now : Nat := 0
  msTicks : Nat := 0
  secTicks : Nat := 0
  nowTicks : Nat := 0
  reqs : List FwdReq := []
  scan : Nat := 0
  flush : Option Flush := none
  flood : Sparse Nat := []
  ports : Sparse Nat := []
  walks : Sparse (Option Walk) := []
  fullTold : Bool := false
  limitTold : Nat := 0
  deriving DecidableEq, Repr

end Sys2Proof.Machine
end

