-- ==== Sys2Proof/Machine/Ashlar.lean ====
section
/-! DEFINITION. The Ashlar code (R503 to R505): symbols over GF(2^16), syndromes, encoding, the two decoder modes.
Choices: log 4. -/

namespace Sys2Proof.Machine

/-- A 288-bit codeword (R503): data bits [255:0], P0 [271:256], P1 [287:272]. -/
abbrev Codeword := BitVec 288

/-- Multiply by alpha in GF(2^16) on x^16 + x^12 + x^3 + x + 1 (R504). -/
def gfX (a : Nat) : Nat :=
  if a.testBit 15 then (a * 2 % 65536) ^^^ 0x100B else a * 2

/-- Multiply by alpha to the n. -/
def gfXn : Nat → Nat → Nat
  | 0, a => a
  | n + 1, a => gfX (gfXn n a)

/-- Product in GF(2^16): n bits of b, most significant first. -/
def gfMulF (a b : Nat) : Nat → Nat
  | 0 => 0
  | n + 1 => gfX (gfMulF a (b / 2) n) ^^^ (if b.testBit 0 then a else 0)

/-- Product in GF(2^16). -/
def gfMul (a b : Nat) : Nat := gfMulF a b 16

/-- Square n times and multiply: the power 2^(n+1) - 1 of an element. -/
def gfOnes (a : Nat) : Nat → Nat
  | 0 => a
  | n + 1 => let r := gfOnes a n; gfMul (gfMul r r) a

/-- Inverse in GF(2^16): the power 2^16 - 2. -/
def gfInv (a : Nat) : Nat := let r := gfOnes a 14; gfMul r r

/-- Symbol k of a word (R503). -/
def symbolOf (w k : Nat) : Nat := (w >>> (16 * k)) % 65536

/-- Sum of the symbols 0 to n - 1. -/
def sumSyms (w : Nat) : Nat → Nat
  | 0 => 0
  | n + 1 => sumSyms w n ^^^ symbolOf w n

/-- Sum of symbol j times alpha^j for the n symbols from k on, times alpha^-k. -/
def weighSyms (w : Nat) : Nat → Nat → Nat
  | _, 0 => 0
  | k, n + 1 => symbolOf w k ^^^ gfX (weighSyms w (k + 1) n)

/-- Syndrome S0 (R504). -/
def syn0 (w : Codeword) : Nat := sumSyms w.toNat 18

/-- Syndrome S1 (R504). -/
def syn1 (w : Codeword) : Nat := weighSyms w.toNat 0 18

/-- The inverse of alpha^16 (1 + alpha). -/
def checkInv : Nat := gfInv (gfXn 16 3)

/-- The codeword of 256 data bits (R504). -/
def encodeWord (d : Nat) : Codeword :=
  let d := d % 2 ^ 256
  let a := sumSyms d 16
  let b := weighSyms d 0 16
  let p1 := gfMul (b ^^^ gfXn 16 a) checkInv
  BitVec.ofNat 288 (d + (a ^^^ p1) * 2 ^ 256 + p1 * 2 ^ 272)

/-- Check mode (R505): is the word clean? -/
def cleanWord (w : Codeword) : Bool := syn0 w == 0 && syn1 w == 0

/-- What a decoder in correcting mode finds (R505): clean, corrected at a symbol, or uncorrectable. -/
inductive Found where
  | clean
  | corrected (sym : Nat) (word : Codeword)
  | bad
  deriving DecidableEq, Repr

/-- The symbol k below n at which S1 = S0 alpha^k. -/
def findSym (s0 s1 : Nat) : Nat → Option Nat
  | 0 => none
  | n + 1 => match findSym s0 s1 n with
    | some k => some k
    | none => if gfXn n s0 = s1 then some n else none

/-- Correcting mode (R505). -/
def decodeWord (w : Codeword) : Found :=
  let s0 := syn0 w
  let s1 := syn1 w
  if s0 = 0 ∧ s1 = 0 then .clean
  else if s0 = 0 ∨ s1 = 0 then .bad
  else match findSym s0 s1 18 with
    | some k => .corrected k (w ^^^ BitVec.ofNat 288 (s0 * 2 ^ (16 * k)))
    | none => .bad

/-- The data bits that a decoder in correcting mode delivers. -/
def deliveredData (w : Codeword) : Nat :=
  match decodeWord w with
  | .corrected _ v => v.toNat % 2 ^ 256
  | _ => w.toNat % 2 ^ 256

/-! The DDR4 channel (R511). -/

/-- The 72 lines, DQ[63:0] below CB[7:0], in beat b of a codeword's half-burst: bit 4b + j of symbol k stands on line 4k + j, with
x4 and with x8 devices (Table 18-4). -/
def beatLines (w : Codeword) (b : Nat) : BitVec 72 :=
  BitVec.ofNat 72 ((List.range 18).map (fun k => symbolOf w.toNat k / 2 ^ (4 * b) % 16 * 2 ^ (4 * k))).sum

/-- The codeword of four beats. -/
def ofBeats (beats : List (BitVec 72)) : Codeword :=
  BitVec.ofNat 288 (beats.zipIdx.map (fun x =>
    ((List.range 18).map (fun k => x.1.toNat / 2 ^ (4 * k) % 16 * 2 ^ (4 * x.2 + 16 * k))).sum)).sum

/-- The eight beats of a burst that carry a codeword of an even index and the next (R511). -/
def burstBeats (lower upper : Codeword) : List (BitVec 72) :=
  (List.range 4).map (beatLines lower) ++ (List.range 4).map (beatLines upper)

/-- Data bits as 32 bytes, byte 0 in bits [7:0] (R4). -/
def dataBytes (d : Nat) : List Byte := leBytes 32 d

end Sys2Proof.Machine
end

