-- ==== Sys2Proof/Machine/StateMem.lean ====
section
/-! DEFINITION. State of the memory system and the cipher engine (chapters 17, 18). -/

namespace Sys2Proof.Machine

/-- The memory system. ddr holds DDR4 codewords by index (byte address over 32); memories that hold what this model
keeps elsewhere (control SRAM 1, packet buffer 2) are held as the error pattern of each codeword. pos is the scrub
position by memory, passAt the tick at which its pass began, logA and logB the uncorrectable-word log, ueTold the findings told in this vector cycle by memory,
symBase the counts of MEM_DDR_SYM at the superframe's start, parity the entries of the table memories with a parity
error. -/
structure Mem where
  ddr : Sparse Codeword := []
  trained : Bool := false
  filled : Bool := false
  selfRefresh : Bool := false
  gib : Nat := 0
  x8 : Bool := false
  dense : Bool := true
  ranks : Nat := 0
  ctlErr : Sparse Codeword := []
  pbufErr : Sparse Codeword := []
  pos : Sparse Nat := []
  passAt : Sparse Nat := []
  logA : Sparse Nat := []
  logB : Sparse Nat := []
  logPtr : Nat := 0
  ueTold : Sparse Nat := []
  symBase : Sparse Nat := []
  parity : List Nat := []
  deriving DecidableEq, Repr

/-- A key slot (R482, R484): state 0 EMPTY, 1 VALID, 2 RETIRED, 3 LOST; length and usage by their codes. -/
structure KeySlot where
  state : Nat := 0
  len : Nat := 0
  usage : Nat := 0
  counter : Nat := 0
  deriving DecidableEq, Repr

/-- The cipher engine (chapter 17): slots, their key words (memory 3), the request ring's HEAD, the entropy source's
failure. -/
structure Cipher where
  slots : Sparse KeySlot := []
  keys : Sparse Codeword := []
  rqHead : Nat := 0
  entropyFail : Bool := false
  deriving DecidableEq, Repr

end Sys2Proof.Machine
end

