-- ==== Sys2Proof/Machine/StateNet.lean ====
section
/-! DEFINITION. State of the serial lanes and the Ethernet MACs (chapters 10, 11). -/

namespace Sys2Proof.Machine

/-- Glide states (Table 11-3); the codes are the constructors' order. -/
inductive Glide where
  | off | probing | high | reqDown | retrain | low | reqUp
  deriving DecidableEq, Repr

/-- One MAC. timers are the pause timers in quanta as received (0-7 by priority, 8 the port's; 0: not running); stage counts the parts of a retrain:
0 none, 1 idle before the change, 2 changed, 3 returned; downLong a link down for 1 s (R532); sentWin, rcvdWin, sentCyc, rcvdCyc are frame bytes of the WIN
window and of the vector cycle, lastSent and lastRcvd those of the vector cycle just ended. -/
structure Mac where
  link : Bool := false
  rate : Nat := 0
  glide : Glide := .off
  partner : Bool := false
  lastRetrain : Nat := 0
  timers : Sparse Nat := []
  holdoff : Bool := false
  tx : Option Frame := none
  trans : Nat := 0
  tries : Nat := 0
  target : Nat := 0
  prev : Nat := 0
  stage : Nat := 0
  ours : Bool := false
  quiet : Bool := false
  sentWin : Nat := 0
  rcvdWin : Nat := 0
  sentCyc : Nat := 0
  rcvdCyc : Nat := 0
  lastSent : Nat := 0
  lastRcvd : Nat := 0
  downLong : Bool := false
  deriving DecidableEq, Repr

/-- Port held by PAUSE. -/
def Mac.paused (m : Mac) : Bool := sparseGet (fun _ => 0) m.timers 8 != 0

/-- Priorities held by PFC. -/
def Mac.pfc (m : Mac) : Nat := ((List.range 8).map (fun i => if sparseGet (fun _ => 0) m.timers i = 0 then 0 else 2 ^ i)).sum

/-- One lane (R317 to R336). rxIgnore are the sleep requesters of the receive half whose requests stood when a signal woke
it (R333): bit 0 host software, 1 the power state, 2 the lane's user. gen and ref are the last 64 bits of the generator's
sequence and of the checker's reference, the latest in bit 63 (none: not begun, or not seeded); injLeft is what a run of COUNT
injections has left, injGap the words before the next one, carry the bits of the next word that the last one still inverts;
frames and blocks are what the lane has sent in a near-end loop and not yet received (R322); eyeCmd the LANE_EYE command that
waits for the scan's end (function, number). -/
structure Lane where
  rate : Nat := 0
  rxIgnore : Nat := 0
  txOn : Bool := false
  rxOn : Bool := false
  cdr : Bool := false
  sd : Bool := false
  patLock : Bool := false
  injRun : Bool := false
  injLeft : Nat := 0
  gen : Option (BitVec 64) := none
  ref : Option (BitVec 64) := none
  injGap : Nat := 0
  carry : BitVec 64 := 0
  frames : List (List Byte × Bool) := []
  blocks : List (BitVec 66) := []
  eyeBusy : Bool := false
  eyeResult : Nat := 0
  eyeCause : Nat := 0
  eyePoints : Nat := 0
  eyeMap : Sparse Nat := []
  eyeCmd : Option (Nat × Nat) := none
  deriving DecidableEq, Repr

end Sys2Proof.Machine
end

