-- ==== Sys2Proof/Machine/StatePon.lean ====
section
/-! DEFINITION. State of the tick generator, the PON channels and the bonding layer (chapters 02 to 05). -/

namespace Sys2Proof.Machine

/-- Tick generator states (Table 2-2); the codes are the constructors' order. -/
inductive TickSt where
  | free | acquire | locked | holdover | slew
  deriving DecidableEq, Repr

/-- A TICK_MASTER command waiting for its boundary (R52): the channel and the command's identity. -/
structure MasterChange where
  ch : Nat
  func : Nat
  id : Nat
  deriving DecidableEq, Repr

/-- The tick generator (R32 to R60). spanMark is the TICK cycle of the current tick up to which time in LOCKED is counted
(R46), stepDue says that the next accepted sample in ACQUIRE sets the step of R41, sinceLoss counts tick edges since the
master was lost, up to 2 (R48), outLevel is the resting level of TICK_OUT (R55), squelch marks the SyncE outputs that wait for
a rising edge of their divided clock (R473). -/
structure TickGen where
  count : BitVec 48 := 0
  tif : Nat := 0
  tic : Nat := 0
  cycle : Nat := 0
  st : TickSt := .free
  holdoverLong : Bool := false
  hasMaster : Bool := false
  master : Nat := 0
  displace : Int := 0
  phaseErr : Int := 0
  offLive : Nat := 0
  offPending : Bool := false
  run : Nat := 0
  rejects : Nat := 0
  accepted : List Int := []
  osc : Int := 0
  lockedSpan : List (Int × Nat) := []
  spanMark : Nat := 0
  holdTicks : Nat := 0
  sinceLoss : Nat := 2
  change : Option MasterChange := none
  acqStep : Option Nat := none
  stepDue : Bool := false
  frameDue : Bool := false
  cycleDue : Bool := false
  superDue : Bool := false
  outLevel : Bool := false
  squelch : Nat := 3
  deriving DecidableEq, Repr

/-- Sync states of a channel (Table 3-2); the codes are the constructors' order. -/
inductive SyncSt where
  | hunt | presync | sync | resync | off
  deriving DecidableEq, Repr

/-- A live candidate of the tracker (R78): position of its last match, counted in bits received, recorded SFC structure,
confirmations. -/
structure Cand where
  pos : Nat
  sfc : Nat
  hecOk : Bool
  confirmed : Nat := 0
  deriving DecidableEq, Repr

/-- Activation states (Table 4-2); the codes are the constructors' order. -/
inductive Act where
  | o11 | o12 | o23 | o4 | o5 | o6 | o7
  deriving DecidableEq, Repr

/-- LULL modes (PON_TC_STATUS.LULL); the codes are the constructors' order. -/
inductive Lull where
  | awake | doze | watchful
  deriving DecidableEq, Repr

/-- A burst accepted and not yet sent: its grants in order, and the upstream frame it belongs to (the superframe
counter of the BWmap). built holds the content once the builder has run (R149), buckets the bond group and bucket of each
frame that the burst completes (R159). -/
structure BurstPlan where
  sfc : Nat
  grants : List Grant
  built : Option (List BurstPart) := none
  buckets : List (Nat × Nat) := []
  deriving DecidableEq, Repr

/-- An XGEM port-ID of a channel (R121, R123): in force, waiting to be added, waiting to be removed. -/
structure XPort where
  inForce : Bool := false
  addDue : Bool := false
  delDue : Bool := false
  active : Bool := true
  deriving DecidableEq, Repr

/-- A partial SDU of a port (R129): the bytes so far, whether any stood in a bad codeword, and whether the rest of the
SDU is skipped because a part of it was discarded. -/
structure Partial where
  data : List Byte := []
  bad : Bool := false
  skip : Bool := false
  deriving DecidableEq, Repr

/-- One PON channel. Candidates' positions count the bits received. portsOnu is the ONU-ID of the latest O5 (R121), eqdNext
the equalisation delays not yet in force with the superframe counters from which they apply (R108), sleepDue marks a LULL
mode entered whose Sleep_Request has not left (R134), burstOn a burst on the fibre, which is then the first of bursts,
badPart the frame whose PLOAM partition was discarded last (R125). -/
structure PonCh where
  sync : SyncSt := .off
  los : Bool := true
  cdr : Bool := false
  rxDown : Bool := false
  acquiring : Bool := false
  taps : List Int := []
  snapTaps : List Int := []
  mse : Nat := 0xFFFF
  cands : List Cand := []
  sfc : Nat := 0
  lastGood : Nat := 0
  psbd : Nat := 0
  inFrames : Nat := 0
  missRun : Nat := 0
  candFalseAt : Nat := 0
  badInSecond : Bool := false
  act : Act := .o11
  o7 : Bool := false
  onuId : Option Nat := none
  portsOnu : Option Nat := none
  eqd : Int := 0
  eqdNext : List (Int × Nat) := []
  profiles : List Profile := []
  lull : Lull := .awake
  lullPolicy : Nat := 0
  sleepAllowed : Bool := false
  txPowered : Bool := false
  txWaking : Bool := false
  txDis : Bool := true
  sleepDue : Bool := false
  burstOn : Bool := false
  badPart : Option Nat := none
  regId : List Byte := []
  msk : Option (List Byte) := none
  mskNext : Option (List Byte) := none
  lastSeq : Option Nat := none
  lastAck : List UpMsg := []
  ports : Sparse XPort := []
  grants : Nat := 0
  bursts : List BurstPlan := []
  snDue : Nat := 0
  rangeDue : Nat := 0
  partials : Sparse Partial := []
  ploamUp : List UpMsg := []
  ploamQ : Option Nat := none
  omccDq : Option Nat := none
  omccHq : Option Nat := none
  statusQ : List (Nat × List Byte) := []
  omciUp : List (List Byte) := []
  usOut : Bool := false
  dsOut : Bool := false
  refErr : Int := 0
  deriving DecidableEq, Repr

/-- Allocation context entry (Table 5-2): host half, whether it was loaded since the entry was assigned, device half live,
device half as last written back. -/
structure AllocCtx where
  host : List Byte := []
  loaded : Bool := false
  allocId : Nat := 0
  channel : Nat := 0
  state : Nat := 0
  grants : Nat := 0
  bytes : Nat := 0
  idle : Nat := 0
  dbru : Nat := 0
  lastSfc : Nat := 0
  wb : List Byte := []
  deriving DecidableEq, Repr

/-- A frame held by the re-sequencer: sequence number, the frame, the member it came on. -/
structure HeldSdu where
  seq : Nat
  frame : Frame
  deriving DecidableEq, Repr

/-- Bond group context entry (Table 5-6) and the bonding layer's working state of the group (R156 to R171). usAct and
dsAct are channel masks; outOfUse the members the head end's latest status marks; lastSeen the
members whose latest tagged frame carried LAST (R165); moves counts frames moved to another channel (R160). -/
structure BondCtx where
  host : List Byte := []
  enabled : Bool := false
  next : Nat := 0
  nextSet : Bool := false
  usAct : Nat := 0
  dsAct : Nat := 0
  states : List Nat := [0xFF, 0xFF, 0xFF, 0xFF]
  outOfUse : Nat := 0
  held : List HeldSdu := []
  lastSeen : Nat := 0
  buckets : Sparse Nat := []
  home : Sparse Nat := []
  repeatLeft : Nat := 0
  moves : Nat := 0
  queue : Option Nat := none
  wb : List Byte := []
  deriving DecidableEq, Repr

/-- A tagged SDU on its way to the bonding layer (R163). -/
structure BondSdu where
  ch : Nat
  group : Nat
  frame : Frame
  deriving DecidableEq, Repr

/-- The bonding layer: input are SDUs on bonded port-IDs not yet taken; four groups and the managed entity class (R170). -/
structure Bonding where
  groups : Sparse BondCtx := []
  input : List BondSdu := []
  meClass : Nat := 244
  deriving DecidableEq, Repr

end Sys2Proof.Machine
end

