-- ==== Sys2Proof/Machine/StateSys.lean ====
section
/-! DEFINITION. State of start, boot, journal and power (chapters 19, 21). -/

namespace Sys2Proof.Machine

/-- Start and boot (R578 to R591). mode: 0 starting, 1 normal, 2 recovery; step: start step in progress or last reached, 0
before S1; tries: attempts at it that have failed; alt: its alternate is in use. image, board, ref, ddrRate: the ones in use at
this start. bringUp: the time of R600; committed: the first configuration commit of R563 has been made; held: in reset until
PORST_N. The flash operation in progress is qspiOp (0 none) at qspiAddr; those of qspiWait (operation, address) wait for it. skipCh: channels whose optic did not answer. values: what the
board table copy in use says; cause: that of the latest failed attempt. -/
structure Boot where
  mode : Nat := 0
  step : Nat := 0
  tries : Nat := 0
  alt : Bool := false
  image : Nat := 0
  board : Nat := 0
  ref : Nat := 0
  ddrRate : Nat := 3
  boardDefault : Bool := false
  imageGood : Bool := false
  fwVersion : Nat := 0
  endpointUp : Bool := false
  bringUp : Bool := false
  committed : Bool := false
  held : Bool := false
  faultN : Bool := false
  qspiOp : Nat := 0
  qspiAddr : Nat := 0
  qspiWait : List (Nat × Nat) := []
  skipCh : Nat := 0
  values : Board := {}
  cause : Nat := 0
  flash : Sparse Byte := []
  deriving DecidableEq, Repr

/-- What the journal keeps and its mirror copies (R585 to R587): the entries held, oldest first, the number ever recorded, the
start number, the prescriptions of PWR_JRN_PRESC and PWR_JRN_ENG. -/
structure JCore where
  entries : List (List Byte) := []
  total : Nat := 0
  start : Nat := 0
  o7 : Nat := 0
  domSerial : Bool := false
  sramSerial : Bool := false
  avsLow : Bool := false
  board : Nat := 0
  image : Nat := 0
  ref : Nat := 0
  ddrRate : Nat := 3
  eng : Sparse Bool := []
  deriving DecidableEq, Repr

/-- The start journal: its core in always-on SRAM, a clearing of the prescriptions that waits for the next start, an entry
that the flash mirror lacks, the mirror's two sectors (sequence number, core), and the events recorded while the event path did
not run (severity, code, payload). -/
structure Journal where
  core : JCore := {}
  clearDue : Bool := false
  mirrorDue : Bool := false
  mirror : Sparse (Option (Nat × JCore)) := []
  events : List (Nat × Nat × List Byte) := []
  deriving DecidableEq, Repr

/-- A PWR_SET_STATE that is a wake event (R536): its function and number, its payload's target, awake channel and self-refresh
flag. -/
structure WakeCmd where
  func : Nat
  id : Nat
  target : Nat
  awake : Nat := 0xFF
  selfRef : Bool := false
  deriving DecidableEq, Repr

/-- The power and budget controller (chapter 19). state and target are the codes of Table 19-2, step that of PWR_STATUS; busy:
an entry, exit or wake runs, exiting an exit; from_: the state before it. part: of an exit the action of R538 in progress (1
acknowledgement, 2 power-good, 3 PLL, 4 packet buffer, 5 slabs and engines, 6 ports), of DARK entry step 4 the rail group in
progress (R610), acked once it is acknowledged. unwind: the abort point of an unwinding that waits for its reverse
acknowledgement or, with part 9, for the slabs to be READY again (0 none), failed one under R537. hazeAt: tick at which a change of CLEAR and HAZE was accepted. cmd: the
accepted command (function, number). wake: pending wake source (0 command, 1 GPIO, 2 feed alert, 3 wake timer, 4 link). groups: masks of the vector groups to restart, ckpts of those to checkpoint.
modes: slab modes before the entry; policies: host software's LULL policies. evalDue: the evaluation of this vector cycle is due.
feedLow: FEED_ALERT_N low. causes: squall causes in force ([2] feed alert, [1] temperature, [0] budget), episode those of the
squall since it began, began: one since the latest boundary, hot: a feed or temperature cause in this window. feedLast, feedMiss:
last feed reading and failed windows in a row; pouts: last READ_POUT by regulator; temps: latest readings, windowTop the highest
of this window, topUsed of the latest; overBudget: P > B at the latest evaluation. asked: a higher VDD_VE voltage asked for,
veAck acknowledged. rails: mask of the rails for which the board table
names a regulator, louts the regulators it lists for READ_POUT. -/
structure Power where
  state : Nat := 0
  target : Nat := 0
  step : Nat := 0
  busy : Bool := false
  exiting : Bool := false
  from_ : Nat := 0
  part : Nat := 0
  acked : Bool := false
  tries : Nat := 0
  unwind : Nat := 0
  failed : Bool := false
  hazeAt : Option Nat := none
  cmd : Option (Nat × Nat) := none
  wake : Option Nat := none
  wakeCmd : Option WakeCmd := none
  startTick : Nat := 0
  groups : Nat := 0
  ckpts : Nat := 0
  awake : Nat := 0xFF
  selfRef : Bool := false
  policies : List Nat := []
  modes : List (Nat × Nat) := []
  drained : Bool := false
  ckptDone : Bool := false
  l2 : Bool := false
  linkUp : Bool := true
  wakeOut : Bool := false
  wakeStep : Nat := 0
  failedStep : Nat := 0
  evalDue : Bool := false
  feedLow : Bool := false
  causes : Nat := 0
  episode : Nat := 0
  began : Bool := false
  hot : Bool := false
  grade : Nat := 0
  computed : Nat := 0
  clear : Nat := 0
  feedUsed : Nat := 0
  feedLast : Nat := 0
  feedMiss : Nat := 0
  pouts : Sparse Nat := []
  measured : Nat := 0
  budget : Int := 0
  temps : Sparse Int := []
  windowTop : Option Int := none
  topUsed : Int := 0
  overBudget : Bool := false
  asked : Bool := false
  veAck : Bool := false
  critTold : Bool := false
  rails : Nat := 0
  louts : Nat := 0
  deriving DecidableEq, Repr

/-! The test access port (R622). PRESUMED (log 37): its states and its registers are those of IEEE 1149.1. -/

/-- States of the TAP controller. -/
inductive TapSt where
  | testLogicReset | runTestIdle | selectDr | captureDr | shiftDr | exit1Dr | pauseDr | exit2Dr | updateDr
  | selectIr | captureIr | shiftIr | exit1Ir | pauseIr | exit2Ir | updateIr
  deriving DecidableEq, Repr

/-- The instruction in force: BYPASS, IDCODE, or a boundary-scan instruction by its code. -/
inductive TapInsn where
  | bypass | idcode
  | scan (code : List Bool)
  deriving DecidableEq, Repr

/-- The TAP: its state, the instruction in force, the instruction and data registers being shifted (the bit that leaves next
first), and the cells that a boundary-scan instruction has put on the balls. -/
structure Tap where
  st : TapSt := .testLogicReset
  insn : TapInsn := .idcode
  ir : List Bool := []
  dr : List Bool := []
  cells : Option (List Bool) := none
  deriving DecidableEq, Repr

end Sys2Proof.Machine
end

