-- ==== Sys2Proof/Machine/StateVec.lean ====
section
/-! DEFINITION. State of the vector engines, the vector scheduler and the SVL ports (chapters 06 to 09). -/

namespace Sys2Proof.Machine

/-- Engine states (Table 6-7); the codes are the constructors' order. -/
inductive EngSt where
  | off | stopped | running | halted | spare | retiring | retired
  deriving DecidableEq, Repr

/-- A scratchpad store on its way to the array (R181, R236): codeword, the 64-bit lanes it covers, their values in place.
full: a group of four lanes, encoded without a read. wait: a flush that waits for the read port, by its age in cycles; due:
cycles left until the write, once it is known. old: issued up to the SDONE that waits. -/
structure PendW where
  idx : Nat
  mask : Nat
  data : Nat
  full : Bool := false
  wait : Option Nat := none
  due : Nat := 0
  old : Bool := false
  deriving DecidableEq, Repr

/-- The gather buffer (R236): codeword, lanes held, values. -/
structure Gather where
  idx : Nat
  mask : Nat
  data : Nat
  deriving DecidableEq, Repr

/-- An active loop (R239, R241): body, iterations left, whether the first still runs, and the loop cache's instructions where
the body may be held. -/
structure LoopFr where
  start : Nat
  last : Nat
  left : Nat
  first : Bool := true
  held : Bool := true
  cache : Sparse (Option Nat) := []
  deriving DecidableEq, Repr

/-- Delay slots left after a branch, its target when taken, and whether it is RETI (R221, R247). -/
structure Slots where
  left : Nat
  target : Option Nat
  reti : Bool := false
  deriving DecidableEq, Repr

/-- What a slab is busy with (R194 to R199, R205). -/
inductive SlabWork where
  | none | zeroFill | wakeScrub | copy | reload
  deriving DecidableEq, Repr

/-- A slab (Table 6-12). words are codewords 0-65,535 and the canary 65,536; overlay the landed fence words not yet drained
(R266); want a mode change that waits for work to end; lostWord a word met uncorrectable on the C-bus (R185); none where the
slab has met none. -/
structure Slab where
  mode : Nat := 0
  ready : Bool := false
  lost : Bool := false
  work : SlabWork := .none
  want : Option Nat := none
  wake : Nat := 0
  reload : Nat := 0
  wakeCe : Nat := 0
  lastCheck : Nat := 0
  lostWord : Option Nat := none
  words : Sparse Codeword := []
  overlay : Sparse (Option Nat) := []
  deriving DecidableEq, Repr

/-- One vector engine. regs are s0-s15; gens the generator registers by 8 × generator + index (Table 7-5); acc the
accumulator parts by 48 × bank + 2 × lane + part; orf the output samples by 12 × bank + lane; err the E samples by lane. live
and valid are masks of banks A (bit 0) and B. wait: the mode of the WAITT that withholds issue; intWait the mode of one that
an interrupt was taken from, edge an edge remembered for it (R248). sdone: 0 none, 1 issued, 2 complete. rdFree, wrFree and
cFree: the last cycle left the port free for another user. imemBad: words of the instruction memory that the scrubber found
uncorrectable (R519); startDue: a start waits for the tick edge; held: kept STOPPED in squall shed (R272,
R273). spadFilled, imemLoaded: since the rail is on again (R201); retd: it was RETIRED when the rail went off. -/
structure Eng where
  st : EngSt := .stopped
  pc : Nat := 0
  regs : Sparse Word := []
  gens : Sparse Nat := []
  acc : Sparse Int := []
  orf : Sparse Nat := []
  err : Sparse Nat := []
  xh : Nat := 0
  live : Nat := 0
  valid : Nat := 0
  osh : Nat := 0
  ush : Nat := 0
  ie : Nat := 0
  ip : Nat := 0
  epc : Nat := 0
  restart : Nat := 0
  hm : Bool := false
  loops : List LoopFr := []
  afterEnd : Bool := false
  rep : Option Nat := none
  slots : Option Slots := none
  wait : Option Nat := none
  intWait : Option (Nat × Nat) := none
  edge : Bool := false
  sdone : Nat := 0
  cyc : Nat := 0
  loads : List (Nat × Nat × Nat) := []
  slabWr : List (Nat × Nat × Nat) := []
  pend : List PendW := []
  gather : Option Gather := none
  rdFree : Bool := true
  wrFree : Bool := true
  cFree : Bool := true
  usedRd : Nat := 0
  usedWr : Nat := 0
  minRd : Nat := 0xFFFF
  minWr : Nat := 0xFFFF
  idleRd : Nat := 0xFFFF
  idleWr : Nat := 0xFFFF
  tickLo : Nat := 0
  ticWord : Nat := 0
  plan : Nat := 0
  tones : Nat := 0
  par : Nat := 0
  faultCode : Nat := 0
  faultPc : Nat := 0
  startDue : Bool := false
  held : Bool := false
  imemBad : List Nat := []
  ovrCyc : Nat := 0
  ueCyc : Nat := 0
  ovrTold : Bool := false
  kernel : Option Nat := none
  spadFilled : Bool := true
  imemLoaded : Bool := true
  retd : Bool := false
  loadLost : Bool := false
  spareOf : Option Nat := none
  imem : Sparse Codeword := []
  spad : Sparse Codeword := []
  slab : Slab := {}
  deriving DecidableEq, Repr

/-- A tone group (Table 8-2, Table 8-11). est: estimating (R268); relAt: tick at which VG_TG_RELEASE was accepted; lostByp:
bypass for a lost slab, restore: it ends at the next boundary (R199); staged: fence words (R264); commit: the version of a committed fence; k1: K+1 in force. -/
structure TGroup where
  eng : Nat
  tones : Nat
  version : Nat := 0
  est : Bool := false
  relAt : Option Nat := none
  lostByp : Bool := false
  restore : Bool := false
  staged : Sparse (Option Nat) := []
  commit : Option Nat := none
  k1 : Nat := 0
  deriving DecidableEq, Repr

/-- One tone group's entry of a rung (Table 8-3). -/
structure RungTg where
  k1 : Nat
  w : Nat
  br : Nat
  bw : Nat
  deriving DecidableEq, Repr

/-- A port of a group (Table 8-2). -/
structure GPort where
  port : Nat
  first : Nat
  count : Nat
  deriving DecidableEq, Repr

/-- A symbol in the pipeline (R186, Table 8-6): the tick of its arrival, its buffer index, the engine of each tone group; tone
groups in bypass, those whose overrun has been judged, those whose input was incomplete at the edge (R191); ports late, cut off
and sent, by port entry; the tiles that the tick DMA has written and read by 256 × tone group + port entry, and the output tiles
by 2^20 × port entry + stream position. -/
structure Sym where
  tick : Nat
  par : Nat
  engs : List Nat := []
  byp : List Nat := []
  overs : List Nat := []
  lateIn : List Nat := []
  late : List Nat := []
  cut : List Nat := []
  sent : List Nat := []
  wr : Sparse Nat := []
  rd : Sparse Nat := []
  tiles : Sparse Codeword := []
  deriving DecidableEq, Repr

/-- A fence commit that waits for its boundary (R265): tone groups, tick of acceptance, its command. left are those held for a
takeover (R206). -/
structure FenceCmd where
  tgs : List Nat
  at_ : Nat
  func : Nat
  id : Nat
  deriving DecidableEq, Repr

/-- A vector group. state is STATE of VS_GROUP (0 undefined); startAt and stopAt the ticks at which a start and a stop were
accepted, startCmd and stopCmd their commands; boundary the tick of B of a stop under way; nextRungs replacements that wait, with
the tick of acceptance; frozen: update cycles suspended by a reset of PF2 (R575). -/
structure Group where
  state : Nat := 0
  profile : Nat := 0
  lines : Nat := 0
  mds : Nat := 0
  fbTiles : Nat := 0
  firstTone : Nat := 0
  kernel : Nat := 0
  spadBase : Nat := 0
  ports : List GPort := []
  tgs : List TGroup := []
  rungs : Sparse (List RungTg) := []
  nextRungs : List (Nat × List RungTg × Nat) := []
  epoch : Nat := 0
  startAt : Nat := 0
  startCmd : Option (Nat × Nat) := none
  stopAt : Option Nat := none
  stopCmd : Option (Nat × Nat) := none
  boundary : Option Nat := none
  fences : List FenceCmd := []
  inc : Option Sym := none
  comp : Option Sym := none
  outg : Option Sym := none
  frozen : Bool := false
  deriving DecidableEq, Repr

/-- A checkpoint (R198): its header's tone group index, group ID, partition epoch, coefficient generation and word count, and
the slab's words; headerOk false once its header does not decode. -/
structure Ckpt where
  tg : Nat
  group : Nat
  epoch : Nat
  gen : Nat
  count : Nat
  headerOk : Bool := true
  words : Sparse Codeword := []
  deriving DecidableEq, Repr

/-- A VG_PARAM under way (R263): engines, address, block, its command; begun at a boundary. -/
structure ParamJob where
  engines : List Nat
  addr : Nat
  block : List Byte
  func : Nat
  id : Nat
  begun : Bool := false
  deriving DecidableEq, Repr

/-- An engine on its way to RETIRED (R205 to R208): engine, its group and tone group, the command that waits for it. copied:
the copy has ended, to the spare named; waiting: no copy has begun. -/
structure Retiring where
  eng : Nat
  group : Nat
  tg : Nat
  spare : Option Nat := none
  copying : Bool := false
  copied : Bool := false
  tookAt : Option Nat := none
  cmd : Option (Nat × Nat) := none
  deriving DecidableEq, Repr

/-- A rejoin accepted (R208). -/
structure Rejoin where
  eng : Nat
  at_ : Nat
  func : Nat
  id : Nat
  deriving DecidableEq, Repr

/-- The vector scheduler and the array's shared parts. kernels are the images in DDR4 by handle; reloads the slabs to be
reloaded, in their order; veOff: VDD_VE is off. cut is VS_CUTOFF.CUT in force;
cutAt the tick at which a new one was written. squallDue: a squall signal not yet acted on; squallAt: the tick of the edge at which squall
shed began. -/
structure VecSched where
  groups : Sparse Group := []
  engs : Sparse Eng := []
  kernels : Sparse (Option (Sparse Nat)) := []
  ckpts : Sparse (Option Ckpt) := []
  grade : Nat := 0
  clock : Nat := 0
  update : Bool := false
  squall : Bool := false
  squallDue : Bool := false
  squallAt : Nat := 0
  retiring : List Retiring := []
  rejoins : List Rejoin := []
  params : List ParamJob := []
  reloads : List Nat := []
  veOff : Bool := false
  cut : Nat := 324
  cutAt : Option Nat := none
  deriving DecidableEq, Repr

/-- One lane of an SVL port's receive side (Table 9-4): state code, symbol position tested (R308), polarity; the last 58 bits
received (the descrambler, R282); consecutive valid headers in HUNT; in LOCK and READY the headers and the invalid ones of the
window, in LOCK the headers in all and the two polarity counts (R309); the data blocks of the pair partly received (R284);
logical lane and skew recorded, the latest marker (logical lane, width, count, sender, block position). -/
structure SvlLane where
  st : Nat := 0
  pos : Nat := 0
  inv : Bool := false
  desc : BitVec 58 := 0
  good : Nat := 0
  wHdrs : Nat := 0
  wBad : Nat := 0
  seen : Nat := 0
  ctl : Nat := 0
  ctlInv : Nat := 0
  part : List (BitVec 64) := []
  logical : Nat := 0
  skew : Nat := 0
  marker : Option (List Nat) := none
  deriving DecidableEq, Repr

/-- A symbol's stream on a port's receive side (R296 to R299): tick of arrival, whether its STREAM_START was accepted, mask of
lanes that ended early, pairs got by logical lane (samples, feedback), tiles by position with the feedback region from 2^20 on;
late: the port left UP during its window or missed its cut-off; closed: its window has closed. -/
structure RxSym where
  tick : Nat
  opened : Bool := false
  ended : Nat := 0
  gotS : Sparse Nat := []
  gotF : Sparse Nat := []
  tiles : Sparse Codeword := []
  late : Bool := false
  closed : Bool := false
  deriving DecidableEq, Repr

/-- A line's status on a port (R305, R306): latest received in this vector cycle, delivered rate and state, cycles missed. -/
structure SvlLine where
  fresh : Option (Nat × Nat) := none
  rate : Nat := 0
  state : Nat := 0
  miss : Nat := 0
  deriving DecidableEq, Repr

/-- A control block that waits for a control slot (Table 9-2): priority, type, bytes 1 to 6 (a LANE_MARKER's without the
lane). -/
structure CtlPend where
  pri : Nat
  ty : Nat
  body : List Nat
  deriving DecidableEq, Repr

/-- One SVL port. state is the port state code (R310); alignCount the count of the latest good marker set in ALIGN; rx the
streams of the symbols in hand, cur the tick of the one whose pairs arrive, ignore: the latest STREAM_START was refused (R296);
start the group and tick number of the latest STREAM_START and a mask of the lanes that carried it; lateRun consecutive late
symbols; markerNo the count of markers sent. Sending (R288): slot is the number of the next control slot, used the positions
sent since the last one, pend the control blocks that wait, highest first. -/
structure SvlPort where
  state : Nat := 0
  cfgErr : Bool := false
  lanes : Sparse SvlLane := []
  sender : Nat := 0
  alignCount : Option Nat := none
  rx : List RxSym := []
  cur : Option Nat := none
  ignore : Bool := false
  lines : Sparse SvlLine := []
  lateRun : Nat := 0
  silentTold : Bool := false
  lateTold : Bool := false
  misTold : Bool := false
  ueTold : Bool := false
  markerNo : Nat := 0
  start : Option (Nat × Nat × Nat) := none
  slot : Nat := 0
  used : Nat := 32
  pend : List CtlPend := []
  deriving DecidableEq, Repr

end Sys2Proof.Machine
end

