-- ==== Sys2Proof/Machine/State.lean ====
section
/-! DEFINITION. The state of the device, its reasons to stop, and the state after reset. Choices: log 2, 3, 36. -/

namespace Sys2Proof.Machine

/-- Reasons for a fault. The spec gives the device no access that has no answer (R597 completes every BAR0 access), so no
command of this model faults and the type has no constructor. -/
inductive Fault where
  deriving DecidableEq, Repr

/-- Reasons for a refusal. -/
inductive Refusal where
  /-- A command whose meaning is not in the model: raised by its arm in exec alone. Safe: the run stops. -/
  | notModelled (mnemonic : String)
  deriving DecidableEq, Repr

/-- The state of the FV9620. regs holds the writable bits of every register, keyed by BAR0 offset; cnt the live counts,
keyed by the offset of the counter's demand-bank register; bank the demand and interval banks; clsIn the frames waiting for the classifier, running the mask of
vector groups that run (R628); testLanes the mask of lanes with LANE_STATUS.TEST 1. -/
structure State where
  pending : List Instr := []
  out : List Output := []
  freeCtr : Nat := 0
  cmdId : Nat := 0
  regs : Sparse Word := []
  cnt : Sparse Nat := []
  bank : Sparse Nat := []
  arb : Arbiter := {}
  fns : Sparse HostFn := []
  tick : TickGen := {}
  pon : Sparse PonCh := []
  alloc : Sparse AllocCtx := []
  bonding : Bonding := {}
  buf : Buffers := {}
  chan : HostChan := {}
  sched : Sched := {}
  time : TimeBase := {}
  clsIn : List Frame := []
  cls : Classifier := {}
  fwd : Fwd := {}
  running : Nat := 0
  vec : VecSched := {}
  svl : Sparse SvlPort := []
  testLanes : Nat := 0
  mac : Sparse Mac := []
  lanes : Sparse Lane := []
  pwr : Power := {}
  mem : Mem := {}
  ciph : Cipher := {}
  boot : Boot := {}
  jrn : Journal := {}
  tap : Tap := {}
  deriving DecidableEq, Repr

/-- The machine right after PORST_N (R26, R34, R455, R578, and the reset columns of the register tables). -/
def State.reset : State := {}

end Sys2Proof.Machine
end

