-- ==== Sys2Proof/Machine/Ops.lean ====
section
/-! DEFINITION. Named operations over the state: the register file, counters and banks, events and the arbiter's
sources, outputs, free values. -/

namespace Sys2Proof.Machine

/-! Registers. -/

/-- Writable bits of the register at an offset. -/
def State.rd (s : State) (off : Nat) : Word := sparseGet regReset s.regs off

/-- Put a value into the register at an offset. -/
def State.wr (s : State) (off : Nat) (v : Word) : State := { s with regs := sparseSet regReset s.regs off v }

/-- The value of a register field. -/
def State.fld (s : State) (f : Fld) : Nat := bitsOf (s.rd f.off).toNat f.hi f.lo

/-- A register field taken as a flag. -/
def State.flag (s : State) (f : Fld) : Bool := s.fld f != 0

/-- Put a value into a register field. -/
def State.setFld (s : State) (f : Fld) (v : Nat) : State :=
  s.wr f.off (BitVec.ofNat 32 (putBits (s.rd f.off).toNat f.hi f.lo v))

/-- The RW bits of the register at an offset take a value (R7, R8). -/
def State.wrRw (s : State) (off : Nat) (v : Nat) : State :=
  match regSpecAt off with
  | none => s
  | some r =>
    let old := (s.rd off).toNat
    s.wr off (BitVec.ofNat 32 ((old &&& (0xFFFFFFFF ^^^ r.rw)) ||| (v &&& r.rw)))

/-- Write consecutive registers from an offset. -/
def State.wrRun (s : State) : Nat → List Word → State
  | _, [] => s
  | off, v :: vs => (s.wrRw off v.toNat).wrRun (off + 4) vs

/-- Recovery mode, in which the data paths stay disabled (R588). -/
def State.recovery (s : State) : Bool := s.boot.mode == 2

/-! Outputs and free values. -/

/-- Something leaves the device. -/
def State.emit (s : State) (o : Output) : State := { s with out := o :: s.out }

/-- The next number the opaque constants of Config are applied to. -/
def State.nextFree (s : State) : State := { s with freeCtr := s.freeCtr + 1 }

/-! Events. -/

/-- The owner of the block with a source ID (Table 1-1, R12): the function its overflow events go to (Table 20-8). -/
def sourceOwner (src : Nat) : Nat :=
  if src = 0x0001 then 0
  else if 0x0010 ≤ src ∧ src ≤ 0x0013 then 1
  else if src = 0x0018 then 1
  else if src = 0x0020 then 5
  else if 0x0030 ≤ src ∧ src ≤ 0x004F then 2
  else if 0x0060 ≤ src ∧ src ≤ 0x0085 then 3
  else if src = 0x0090 then 5
  else if 0x00A0 ≤ src ∧ src ≤ 0x00A3 then 1
  else if src = 0x00A4 then 4
  else if 0x0100 ≤ src ∧ src ≤ 0x015F then 2
  else 0

/-- The places of one source. -/
def State.source (s : State) (src : Nat) : EvSource := sparseGet (fun _ => {}) s.arb.sources src

/-- Replace the places of one source. -/
def State.setSource (s : State) (src : Nat) (q : EvSource) : State :=
  { s with arb := { s.arb with sources := sparseSet (fun _ => {}) s.arb.sources src q } }

/-- A block raises an event (R29): it takes one of the source's 16 places, or is discarded and counted. -/
def State.raise (s : State) (src sev code func : Nat) (payload : List Byte) : State :=
  let q := s.source src
  if 16 ≤ q.queue.length then s.setSource src { q with discarded := q.discarded + 1 }
  else
    let s := s.setSource src { q with queue := q.queue ++ [⟨sev, code, func, payload, s.arb.raised⟩] }
    { s with arb := { s.arb with raised := s.arb.raised + 1 } }

/-- Raise an event of row r of the table of chapter c (R566). -/
def State.raiseRow (s : State) (src sev c r func : Nat) (fs : List (Nat × Nat)) : State :=
  s.raise src sev (c * 256 + r) func (evPayload fs)

/-! Counters (R89, R576, R577). -/

/-- The live count. -/
def State.count (s : State) (c : Ctr) : Nat := sparseGet (fun _ => 0) s.cnt c.off

/-- Set a live count. -/
def State.setCount (s : State) (c : Ctr) (v : Nat) : State :=
  { s with cnt := sparseSet (fun _ => 0) s.cnt c.off v }

/-- Add to a counter: a traffic counter wraps at 2^64; an error counter saturates at 0xFFFFFFFF, and on reaching it sets
its SAT bit and raises one counter-saturated event (R89, R577, Table 20-8). -/
def State.bumpBy (s : State) (c : Ctr) (n : Nat) : State :=
  let v := s.count c
  if c.wide then s.setCount c ((v + n) % 2 ^ 64)
  else if v = 0xFFFFFFFF then s
  else if v + n < 0xFFFFFFFF then s.setCount c (v + n)
  else
    let s := s.setCount c 0xFFFFFFFF
    let s := s.wr c.sat (BitVec.ofNat 32 (setBit (s.rd c.sat).toNat c.bit))
    s.raise c.src 2 0x0002 c.func (evPayload [(4, c.off), (4, c.sat), (1, c.bit)])

/-- Add 1 to a counter. -/
def State.bump (s : State) (c : Ctr) : State := s.bumpBy c 1

/-- Value of a bank register. -/
def State.bankAt (s : State) (off : Nat) : Nat := sparseGet (fun _ => 0) s.bank off

/-- Set a bank register. -/
def State.setBank (s : State) (off v : Nat) : State := { s with bank := sparseSet (fun _ => 0) s.bank off v }

/-- Copy live counts into a bank that lies delta above the demand bank (0: the demand bank itself), R90. -/
def State.copyBank (s : State) (delta : Nat) : List Ctr → State
  | [] => s
  | c :: cs =>
    let v := s.count c
    let s := s.setBank (c.off + delta) (v % 2 ^ 32)
    let s := if c.wide then s.setBank (c.off + delta + 4) (v / 2 ^ 32) else s
    s.copyBank delta cs

/-! Functions. -/

/-- The device's side of a function's rings. -/
def State.fn (s : State) (f : Nat) : HostFn := sparseGet (fun _ => {}) s.fns f

/-- Replace it. -/
def State.setFn (s : State) (f : Nat) (h : HostFn) : State :=
  { s with fns := sparseSet (fun _ => {}) s.fns f h }

/-- A value latched for a function by the read of a _LO register (R596), keyed by the _HI register. -/
def State.setLatch (s : State) (f off v : Nat) : State :=
  let h := s.fn f
  s.setFn f { h with latches := sparseSet (fun _ => 0) h.latches off v }

/-- What the latest read of a function returned. -/
def State.answer (s : State) (f v : Nat) : State := s.setFn f { s.fn f with rdata := v }

/-- A refused access of a function to BAR0 (R603): which names the bit, 0 POWERED_OFF, 1 UNMAPPED, 2 VIEW, 3 PARTIAL. -/
def State.accErr (s : State) (f off which : Nat) : State :=
  let s := s.wr (R.HOST_ACC_ERR f) (BitVec.ofNat 32 (setBit (s.rd (R.HOST_ACC_ERR f)).toNat which))
  s.setFn f { s.fn f with accErrOffset := off / 4 % 2 ^ 24 }

/-! Blocks with instances. -/

/-- A lane. -/
def State.lane (s : State) (l : Nat) : Lane := sparseGet (fun _ => {}) s.lanes l
/-- Replace a lane. -/
def State.setLane (s : State) (l : Nat) (x : Lane) : State :=
  { s with lanes := sparseSet (fun _ => {}) s.lanes l x }

/-- Is a lane in a near-end loop: what it sends, it receives (R322, Table 10-2)? -/
def State.nearLoop (s : State) (l : Nat) : Bool := s.fld (F.LANE_CFG_LOOP l) == 1 || s.fld (F.LANE_CFG_LOOP l) == 2

/-- Is a lane in a far-end loop: what it receives, it sends (R322)? -/
def State.farLoop (s : State) (l : Nat) : Bool := s.fld (F.LANE_CFG_LOOP l) == 3

/-- Does a lane send its pattern (R325)? A PON serialiser does within a loop alone. -/
def State.sendsPattern (s : State) (l : Nat) : Bool :=
  s.flag (F.LANE_PAT_CFG_GEN_EN l) && (decide (l < 40) || s.nearLoop l)

/-- Does a lane discard its user's data (R324, R325)? -/
def State.laneDiscards (s : State) (l : Nat) : Bool := s.sendsPattern l || s.farLoop l

/-- Does a test keep a vector link lane's port in ACQUIRE (Table 10-5)? -/
def State.laneInTest (s : State) (l : Nat) : Bool :=
  s.fld (F.LANE_CFG_LOOP l) != 0 || s.flag (F.LANE_PAT_CFG_GEN_EN l)

/-- Lanes of an SVL port: WIDTH 3 acts as 0 (R281). -/
def State.portWidth (s : State) (p : Nat) : Nat := 2 ^ (s.fld (F.SVL_PORT_CFG_WIDTH p) % 3)

/-- Initial tap set of the equaliser (R69): 512 in the main-cursor tap of the mode (0: 50G-PON, tap 7; 1: XGS-PON, tap 3),
0 elsewhere. -/
def initTaps (mode : Nat) : List Int :=
  (List.range 32).map (fun i => if i = (if mode = 0 then 7 else 3) then 512 else 0)

/-- A PON channel at reset: taps as R69 gives for mode 0, registration ID of 36 zero bytes (R102). -/
def PonCh.reset : PonCh :=
  { taps := initTaps 0, snapTaps := initTaps 0, regId := List.replicate 36 0 }

/-- A PON channel. -/
def State.ch (s : State) (n : Nat) : PonCh := sparseGet (fun _ => PonCh.reset) s.pon n

/-- Replace a PON channel. -/
def State.setCh (s : State) (n : Nat) (c : PonCh) : State :=
  { s with pon := sparseSet (fun _ => PonCh.reset) s.pon n c }

/-- An allocation context entry. -/
def State.allocAt (s : State) (i : Nat) : AllocCtx := sparseGet (fun _ => {}) s.alloc i

/-- Replace an allocation context entry. -/
def State.setAlloc (s : State) (i : Nat) (a : AllocCtx) : State :=
  { s with alloc := sparseSet (fun _ => {}) s.alloc i a }

/-- A bond group. -/
def State.group (s : State) (g : Nat) : BondCtx := sparseGet (fun _ => {}) s.bonding.groups g

/-- Replace a bond group. -/
def State.setGroup (s : State) (g : Nat) (b : BondCtx) : State :=
  { s with bonding := { s.bonding with groups := sparseSet (fun _ => {}) s.bonding.groups g b } }

end Sys2Proof.Machine
end

