-- ==== Sys2Proof/Machine/EventArbiter.lean ====
section
/-! DEFINITION. The event arbiter, the functions' event stores and the event ring (R21 to R29, R554, R565 to R569).
Choices: log 7. -/

namespace Sys2Proof.Machine

/-- The severity with which a source competes (R23): 1 when it owes an overflow event, else its oldest event's. -/
def EvSource.competes (q : EvSource) : Option Nat :=
  if 0 < q.discarded then some 1 else (q.queue.head?).map (·.sev)

/-- Sources that compete, with their severities. -/
def Arbiter.contenders (a : Arbiter) : List (Nat × Nat) :=
  a.sources.filterMap (fun p => (p.2.competes).map (fun v => (p.1, v)))

/-- The lowest second component of a list. -/
def lowestSev : List (Nat × Nat) → Nat
  | [] => 4
  | (_, v) :: ps => min v (lowestSev ps)

/-- The smallest number of a list above a bound. -/
def nextAbove (b : Nat) : List Nat → Option Nat
  | [] => none
  | k :: ks =>
    match nextAbove b ks with
    | none => if b < k then some k else none
    | some m => if b < k ∧ k < m then some k else some m

/-- The source the arbiter grants (R23): lowest severity number, then the next source ID above the last granted,
wrapping. -/
def Arbiter.choose (a : Arbiter) : Option Nat :=
  let cs := a.contenders
  let v := lowestSev cs
  let ids := (cs.filter (fun p => p.2 == v)).map (·.1)
  match nextAbove a.last ids with
  | some k => some k
  | none => if ids.isEmpty then none else
      match nextAbove 0 ids with
      | some k => some k
      | none => ids.head?

/-- Numbers of the events raised and not yet granted. -/
def Arbiter.queuedNos (a : Arbiter) : List Nat := a.sources.flatMap (fun p => p.2.queue.map (·.no))

/-- a precedes b in the sequence (R28). -/
def seqBefore (a b : BitVec 32) : Bool :=
  let d := (b - a).toNat
  decide (1 ≤ d ∧ d ≤ 2147483647)

/-- The stored record that a new one displaces (R569): highest severity number above its own, highest sequence. -/
def displaced (sev : Nat) : List EvRec → Option EvRec
  | [] => none
  | r :: rs =>
    match displaced sev rs with
    | none => if sev < r.sev then some r else none
    | some m => if sev < r.sev ∧ (m.sev < r.sev ∨ (m.sev = r.sev ∧ seqBefore m.seq r.seq)) then some r else some m

/-- Count one lost record (R569): HOST_EVT_LOST saturates, setting LOST_SAT. -/
def State.loseEvent (s : State) (f sev : Nat) : State :=
  let h := s.fn f
  let n := min (h.evtLost + 1) 0xFFFFFFFF
  let sat := n == 0xFFFFFFFF && h.evtLost != 0xFFFFFFFF
  let s := s.setFn f { h with evtLost := n, lostCount := h.lostCount + 1, lostSev := min h.lostSev sev }
  if sat then
    let s := s.setFld (F.HOST_RING_STATUS_LOST_SAT f) 1
    s.raise 0x00E0 2 0x0002 f (evPayload [(4, 0x1048), (4, 0x1008), (1, 3)])
  else s

/-- Deliver a granted record to a function's store of 1,024 (R568, R569). -/
def State.storeEvent (s : State) (r : EvRec) : State :=
  let h := s.fn r.func
  if h.store.length < 1024 then s.setFn r.func { h with store := h.store ++ [r] }
  else
    match displaced r.sev h.store with
    | some x =>
      (s.setFn r.func { h with store := h.store.filter (fun y => y != x) ++ [r] }).loseEvent r.func x.sev
    | none => s.loseEvent r.func r.sev

/-- The command-completed event of an accepted command (R559, Table 20-8), from the control core that runs the work. -/
def State.raiseCompleted (s : State) (e : Echo) (id status detail : Nat) : State :=
  let src := 0x00D0 + (Config.freeCore s.freeCtr).val
  let s := s.nextFree
  let no := s.arb.raised
  let s := s.raise src 3 0x0003 e.func
    (evPayload [(2, e.op), (2, e.seq), (1, status), (4, detail), (4, e.cookie)])
  let h := s.fn e.func
  s.setFn e.func
    { h with accepted := h.accepted.map (fun a => if a.id = id then { a with evNo := some no } else a) }

/-- Raise the deferred completions whose events have all been granted. -/
def State.releaseDeferred (s : State) : List DeferredEv → State
  | [] => s
  | d :: ds =>
    let s := if d.waits.isEmpty then s.raiseCompleted d.echo d.id d.status d.detail
      else { s with arb := { s.arb with deferred := s.arb.deferred ++ [d] } }
    s.releaseDeferred ds

/-- After the grant of event no: completions wait no longer for it, and an accepted command whose completion it is has
completed (R557). -/
def State.granted (s : State) (f no : Nat) : State :=
  let ds := s.arb.deferred.map (fun d => { d with waits := d.waits.filter (· != no) })
  let s := { s with arb := { s.arb with deferred := [] } }
  let h := s.fn f
  let s := s.setFn f { h with accepted := h.accepted.filter (fun a => a.evNo != some no) }
  s.releaseDeferred ds

/-- EVENT_GRANT: the arbiter grants one event, at least 4 CTL cycles after the previous grant (R22 to R26, R29). The
operand is the CTL cycle of the grant. -/
def execEventGrant (cycle : Nat) (s : State) : Host.Outcome State Fault Refusal :=
  let early := match s.arb.lastCycle with
    | some c => decide (cycle < c + 4)
    | none => false
  match early, s.arb.choose with
  | true, _ => .next s
  | false, none => .next s
  | false, some src =>
    let q := s.source src
    let seq := s.arb.seq
    let tick := s.tick.count.setWidth 32
    let s := { s with arb := { s.arb with last := src, lastCycle := some cycle, seq := seq + 1 } }
    if 0 < q.discarded then
      let s := s.setSource src { q with discarded := 0 }
      .next (s.storeEvent ⟨seq, tick, src, 0x0001, 1, sourceOwner src, evPayload [(4, q.discarded)]⟩)
    else
      match q.queue with
      | [] => .next s
      | e :: es =>
        let s := s.setSource src { q with queue := es }
        let s := s.storeEvent ⟨seq, tick, src, e.code, e.sev, e.func, e.payload⟩
        .next (s.granted e.func e.no)

/-! The event ring. -/

/-- Ring size: 2^SIZE for SIZE in lo-16, else 2^lo (Table 20-2). -/
def ringSize (lo size : Nat) : Nat := if lo ≤ size ∧ size ≤ 16 then 2 ^ size else 2 ^ lo

/-- A 64-bit address from its _HI and _LO registers. -/
def State.addr64 (s : State) (lo hi : Nat) : Nat := (s.rd hi).toNat * 2 ^ 32 + (s.rd lo).toNat

/-- The 16-byte write-back of a function (R554). -/
def State.writeBack (s : State) (f : Nat) : State :=
  let h := s.fn f
  s.emit (.hostWrite f (s.addr64 (R.HOST_WB_LO f) (R.HOST_WB_HI f))
    (leBytes 4 h.cmdHead.toNat ++ leBytes 4 h.rplWr.toNat ++ leBytes 4 h.evtWr.toNat ++ leBytes 4 0))

/-- The 32 bytes of an event record (Table 20-7). -/
def EvRec.bytes (r : EvRec) : List Byte :=
  leBytes 4 r.seq.toNat ++ leBytes 4 r.tick.toNat ++ leBytes 2 r.src ++ leBytes 2 r.code ++ leBytes 1 r.sev ++
    leBytes 1 r.func ++ leBytes 2 0 ++ fitB 16 r.payload

/-- The record that leaves the store next (R568): lowest severity number, then lowest sequence. -/
def nextRecord : List EvRec → Option EvRec
  | [] => none
  | r :: rs =>
    match nextRecord rs with
    | none => some r
    | some m => if r.sev < m.sev ∨ (r.sev = m.sev ∧ seqBefore r.seq m.seq) then some r else some m

/-- Room in a function's event ring. -/
def State.evtRoom (s : State) (f : Nat) : Bool :=
  let used := ((s.fn f).evtWr - s.rd (R.HOST_EVT_RD f)).toNat
  decide (used < ringSize 6 (s.fld (F.HOST_RING_CFG_EVT_SIZE f)))

/-- The notice of event records: one message per 4 µs interval (R554). -/
def State.eventNotice (s : State) (f : Nat) : State :=
  if s.flag (F.HOST_RING_CFG_EVT_NOTICE f) then
    let h := s.fn f
    if h.noticeOpen then s.setFn f { h with noticeDue := true }
    else (s.setFn f { h with noticeOpen := true, noticeDue := false }).emit
      (.msix f (s.fld (F.HOST_RING_VEC_EVT_VECTOR f)))
  else s

/-- The events-lost event of a function, once its store has room (R569). -/
def State.tellLost (s : State) (f : Nat) : State :=
  let h := s.fn f
  if 0 < h.lostCount ∧ h.store.length < 1024 then
    (s.setFn f { h with lostCount := 0, lostSev := 3 }).raiseRow 0x00E0 1 20 1 f
      [(4, h.lostCount), (1, h.lostSev)]
  else s

/-- EVENT_RING_WRITE: one record moves from a function's store to its event ring (R554, R565, R568). -/
def execEventRingWrite (f : Fin 6) (s : State) : Host.Outcome State Fault Refusal :=
  let f := f.val
  let h := s.fn f
  match nextRecord h.store, s.flag (F.HOST_RING_CFG_EVT_EN f) && s.evtRoom f && !h.resetting with
  | some r, true =>
    let slot := h.evtWr.toNat % ringSize 6 (s.fld (F.HOST_RING_CFG_EVT_SIZE f))
    let base := s.addr64 (R.HOST_EVT_BASE_LO f) (R.HOST_EVT_BASE_HI f)
    let s := s.emit (.hostWrite f (base + 32 * slot) r.bytes)
    let s := s.setFn f { h with store := h.store.filter (fun y => y != r), evtWr := h.evtWr + 1 }
    let s := s.writeBack f
    let s := s.eventNotice f
    .next (s.tellLost f)
  | _, _ => .next s

/-- EVENT_NOTICE_INTERVAL_END: 4 µs after an event notice; records written meanwhile share one message (R554). -/
def execEventNoticeIntervalEnd (f : Fin 6) (s : State) : Host.Outcome State Fault Refusal :=
  let f := f.val
  let h := s.fn f
  let s := s.setFn f { h with noticeOpen := false, noticeDue := false }
  if h.noticeDue then .next (s.eventNotice f) else .next s

end Sys2Proof.Machine
end

