-- ==== Sys2Proof/Machine/HostOps.lean ====
section
/-! DEFINITION. How a command packet is taken, checked and completed (R30, R552 to R562, R588). Choices: log 7, 8. -/

namespace Sys2Proof.Machine

/-! Status codes (Table 20-5). -/
abbrev stDone : Nat := 0x00
abbrev stAccepted : Nat := 0x01
abbrev stBadOpcode : Nat := 0x10
abbrev stBadLength : Nat := 0x11
abbrev stBadTarget : Nat := 0x12
abbrev stBadParam : Nat := 0x13
abbrev stBusy : Nat := 0x20
abbrev stDraining : Nat := 0x21
abbrev stNoResource : Nat := 0x30
abbrev stBudgetDenied : Nat := 0x31
abbrev stHwFault : Nat := 0x40
abbrev stTimeout : Nat := 0x41
abbrev stNotOwner : Nat := 0x50
abbrev stAborted : Nat := 0x60

/-- How a command ends: status, DETAIL, reply payload. -/
structure CmdEnd where
  status : Nat
  detail : Nat := 0
  reply : List Byte := []
  deriving DecidableEq, Repr

/-- What a command's own part answers: an end now, or an end at a later moment (R558). -/
inductive BodyOut where
  | fin (s : State) (e : CmdEnd)
  | later (s : State)
  deriving DecidableEq, Repr

/-- The function that owns an opcode group (Table 1-6). -/
def groupOwner (g : Nat) : Nat :=
  if g ≤ 0x04 then 0 else if g ≤ 0x11 then 1 else if g ≤ 0x21 then 2 else if g ≤ 0x34 then 3
  else if g = 0x40 then 5 else 4

/-- Is there a group with this number (Table 1-6)? -/
def groupDefined (g : Nat) : Bool :=
  [0x01, 0x02, 0x03, 0x04, 0x10, 0x11, 0x20, 0x21, 0x30, 0x31, 0x32, 0x33, 0x34, 0x40, 0x50].contains g

/-- LENGTH of a packet. -/
def Pkt.length (p : Pkt) : Nat := p.payload.length

/-- 64-byte units of a packet or reply with n payload words (R555). -/
def unitsOf (n : Nat) : Nat := ceilDiv (16 + 4 * n) 64

/-- ORDERED of a packet. -/
def Pkt.ordered (p : Pkt) : Bool := p.flags.getLsbD 1

/-- REPLY_ALWAYS of a packet. -/
def Pkt.always (p : Pkt) : Bool := p.flags.getLsbD 0

/-- Payload bytes of a packet, little-endian words (R4). -/
def Pkt.bytes (p : Pkt) : List Byte := wordsToBytes p.payload

/-- Payload word i of a packet, 0 past its end. -/
def Pkt.w (p : Pkt) (i : Nat) : Nat := ((p.payload[i]?).getD 0).toNat

/-- What the reply and the completion event of a packet echo. -/
def Pkt.echo (p : Pkt) (op : Nat) : Echo :=
  ⟨p.func.val, op, p.seq.toNat, p.cookie.toNat, p.always, p.ordered⟩

/-- Units posted and not yet read. -/
def State.posted (s : State) (f : Nat) : Nat := (s.rd (R.HOST_CMD_TAIL f) - (s.fn f).cmdHead).toNat

/-- May a packet of opcode op begin (R555, R557, R558, R574, R583, R588)? -/
def State.mayBegin (s : State) (op : Nat) (p : Pkt) : Bool :=
  let f := p.func.val
  let h := s.fn f
  s.flag (F.HOST_RING_CFG_CMD_EN f) && !h.resetting && s.boot.mode != 0 && h.held.isEmpty &&
    decide (unitsOf p.length ≤ s.posted f) &&
    h.begun.all (fun b => b.echo.op / 256 != op / 256 && !b.echo.ordered) &&
    h.accepted.all (fun a => !a.echo.ordered) &&
    (!p.ordered || (h.begun.isEmpty && h.accepted.isEmpty))

/-- The bytes of a reply (Table 20-4). -/
def replyBytes (e : Echo) (r : CmdEnd) : List Byte :=
  let n := ceilDiv r.reply.length 4
  leBytes 2 e.op ++ leBytes 1 r.status ++ leBytes 1 1 ++ leBytes 2 e.seq ++ leBytes 2 n ++ leBytes 4 r.detail ++
    leBytes 4 e.cookie ++ fitB (4 * n) r.reply

/-- The pad reply that carries the ring to its end over u units (R558). -/
def padReply (u : Nat) : List Byte :=
  leBytes 2 0 ++ leBytes 1 0 ++ leBytes 1 1 ++ leBytes 2 0 ++ leBytes 2 ((64 * u - 16) / 4) ++ leBytes 8 0

/-- Write the oldest held reply of a function when RPL_EN is 1 and the ring has room (R554, R558). -/
def State.flushReply (s : State) (f : Nat) : State :=
  let h := s.fn f
  match h.held with
  | [] => s
  | r :: rs =>
    let size := ringSize 7 (s.fld (F.HOST_RING_CFG_RPL_SIZE f))
    let units := ceilDiv r.length 64
    let used := (h.rplWr - s.rd (R.HOST_RPL_RD f)).toNat
    let slot := h.rplWr.toNat % size
    let pad := if size < slot + units then size - slot else 0
    if s.flag (F.HOST_RING_CFG_RPL_EN f) && decide (used + pad + units ≤ size) && !h.resetting then
      let base := s.addr64 (R.HOST_RPL_BASE_LO f) (R.HOST_RPL_BASE_HI f)
      let s := if pad = 0 then s else s.emit (.hostWrite f (base + 64 * slot) (padReply pad))
      let s := s.emit (.hostWrite f (base + 64 * ((slot + pad) % size)) r)
      let s := s.setFn f { h with held := rs, rplWr := h.rplWr + BitVec.ofNat 32 (pad + units) }
      let s := s.writeBack f
      if s.flag (F.HOST_RING_CFG_RPL_NOTICE f) then s.emit (.msix f (s.fld (F.HOST_RING_VEC_RPL_VECTOR f))) else s
    else s

/-- The end of a command (R558): a reply for every status other than DONE, and for DONE when REPLY_ALWAYS is 1. -/
def State.endCmd (s : State) (e : Echo) (r : CmdEnd) : State :=
  if r.status != stDone || e.always then
    let h := s.fn e.func
    (s.setFn e.func { h with held := h.held ++ [replyBytes e r] }).flushReply e.func
  else s

/-- The end of a command that ends later than it began: only while it is still due (R574). -/
def State.endLater (s : State) (f id : Nat) (r : CmdEnd) : State :=
  let h := s.fn f
  match h.begun.find? (fun b => b.id == id) with
  | none => s
  | some b => (s.setFn f { h with begun := h.begun.filter (fun b => b.id != id) }).endCmd b.echo r

/-- The completion of an accepted command (R559): its event is raised once the events that its effects raised, numbered
from n on, have been granted. -/
def State.complete (s : State) (f id n status detail : Nat) : State :=
  match (s.fn f).accepted.find? (fun a => a.id == id) with
  | none => s
  | some a =>
    let waits := s.arb.queuedNos.filter (fun k => decide (n ≤ k))
    s.releaseDeferred [⟨waits, a.echo, id, status, detail⟩]

/-- Statuses of steps 1 to 8 of R556 for a defined opcode: lenBad is the expected LENGTH where LENGTH does not suit the
opcode, tgtOk whether TARGET names an object the opcode accepts. -/
def checkPkt (op : Nat) (p : Pkt) (pastEnd : Bool) (lenBad : Option Nat) (tgtOk : Bool) : Option CmdEnd :=
  if p.version.toNat != 1 then some ⟨stBadOpcode, 1, []⟩
  else if p.flags.toNat / 4 != 0 then some ⟨stBadParam, 0, []⟩
  else if 1024 < p.length ∨ pastEnd then some ⟨stBadLength, 0, []⟩
  else if !groupDefined (op / 256) then some ⟨stBadOpcode, 2, []⟩
  else if groupOwner (op / 256) != p.func.val then some ⟨stNotOwner, 0, []⟩
  else match lenBad with
    | some n => some ⟨stBadLength, n, []⟩
    | none => if tgtOk then none else some ⟨stBadTarget, 0, []⟩

/-- Opcodes that recovery mode serves on PF0 (R588). -/
def recoveryServes (op : Nat) (f : Nat) : Bool :=
  f == 0 && (op == 0x0101 || op == 0x0103 || op == 0x0104 || op == 0x0202)

/-- Does a packet pass the ring end (R556 step 3)? -/
def State.pastRingEnd (s : State) (p : Pkt) : Bool :=
  let f := p.func.val
  let size := ringSize 7 (s.fld (F.HOST_RING_CFG_CMD_SIZE f))
  decide (size < (s.fn f).cmdHead.toNat % size + unitsOf p.length)

/-- Read a packet: HEAD advances past it, or to the ring end when it passes the ring end, and is written back (R554 to
R556). -/
def State.takePkt (s : State) (p : Pkt) : State :=
  let f := p.func.val
  let h := s.fn f
  let size := ringSize 7 (s.fld (F.HOST_RING_CFG_CMD_SIZE f))
  let n := if s.pastRingEnd p then size - h.cmdHead.toNat % size else unitsOf p.length
  (s.setFn f { h with cmdHead := h.cmdHead + BitVec.ofNat 32 n }).writeBack f

/-- Run a command packet of opcode op. A packet that may not begin yet changes nothing. acc marks an opcode of reply A
(R562): ACCEPTED then keeps the command until its completion event is granted. The body gets the number that names the
command. -/
def runCmd (op : Nat) (acc : Bool) (lenBad : Option Nat) (tgtOk : Bool) (body : Nat → State → BodyOut)
    (p : Pkt) (s : State) : Host.Outcome State Fault Refusal :=
  if s.mayBegin op p then
    let e := p.echo op
    let id := s.cmdId
    let pastEnd := s.pastRingEnd p
    let s := { s.takePkt p with cmdId := id + 1 }
    if s.boot.mode = 2 ∧ recoveryServes op p.func.val = false then .next (s.endCmd e ⟨stHwFault, 0, []⟩)
    else
      match checkPkt op p pastEnd lenBad tgtOk with
      | some r => .next (s.endCmd e r)
      | none =>
        match body id s with
        | .fin s r =>
          if acc ∧ r.status = stAccepted then
            let h := s.fn e.func
            .next ((s.setFn e.func { h with accepted := h.accepted ++ [{ echo := e, id := id }] }).endCmd e r)
          else .next (s.endCmd e r)
        | .later s =>
          let h := s.fn e.func
          .next (s.setFn e.func { h with begun := h.begun ++ [⟨e, id, s.tick.count.toNat⟩] })
  else .next s

/-- A body that ends with a status and changes nothing. -/
def refuse (status : Nat) (s : State) (detail : Nat := 0) : BodyOut := .fin s ⟨status, detail, []⟩

/-- A body that ends with DONE. -/
def finish (s : State) (reply : List Byte := []) (detail : Nat := 0) : BodyOut := .fin s ⟨stDone, detail, reply⟩

/-- LENGTH must be n. -/
def lenIs (n : Nat) (p : Pkt) : Option Nat := if p.length = n then none else some n

/-- LENGTH must lie in lo-hi. -/
def lenIn (lo hi : Nat) (p : Pkt) : Option Nat := if lo ≤ p.length ∧ p.length ≤ hi then none else some lo

end Sys2Proof.Machine
end

