-- ==== Sys2Proof/Machine/TickOps.lean ====
section
/-! DEFINITION. The tick generator's operations: choice and loss of the master, phase samples, the edge itself (R32 to
R55). Phases are in 1/256 TICK cycle (R36); one tick is 829,440 of them. Choices: log 9. -/

namespace Sys2Proof.Machine

/-- One tick in 1/256 TICK cycle. -/
abbrev tickUnits : Int := 829440

/-- Does any vector group run? -/
def State.anyRunning (s : State) : Bool := s.running != 0

/-- Replace the tick generator. -/
def State.setTick (s : State) (t : TickGen) : State := { s with tick := t }

/-- TICK_CFG.PRIO, first positions only (R49). -/
def State.prioList (s : State) : List Nat :=
  ([s.fld F.TICK_CFG_PRIO0, s.fld F.TICK_CFG_PRIO1, s.fld F.TICK_CFG_PRIO2, s.fld F.TICK_CFG_PRIO3]).eraseDups

/-- Does a channel qualify as master (R48, R49)? -/
def State.qualifies (s : State) (c : Nat) : Bool :=
  s.prioList.contains c && bit (s.fld F.TICK_CFG_ELIGIBLE) c && decide (48 ≤ (s.ch c).inFrames)

/-- First channel of a list that qualifies. -/
def State.firstQualified (s : State) : List Nat → Option Nat
  | [] => none
  | c :: cs => if s.qualifies c then some c else s.firstQualified cs

/-- Is a channel in the Sync state (R76)? -/
def State.inSync (s : State) (c : Nat) : Bool :=
  match (s.ch c).sync with
  | .sync => true
  | .resync => true
  | _ => false

/-- Sum of control value times cycles, and of cycles, over the LOCKED span. -/
def spanSums : List (Int × Nat) → Int × Nat
  | [] => (0, 0)
  | (v, n) :: rest => let r := spanSums rest; (v * (n : Int) + r.1, n + r.2)

/-- The frequency estimate (R46): the mean control value over the span, weighted by TICK cycles; of a period shorter than
one tick, the value in force. -/
def TickGen.estimate (t : TickGen) : Int :=
  match t.lockedSpan with
  | [] => 0
  | (v, _) :: _ =>
    let r := spanSums t.lockedSpan
    if r.2 = 0 then v else r.1 / (r.2 : Int)

/-- The most recent part of the span that holds at most n cycles (R46: 1,000 ms, 155,520,000 cycles). -/
def trimSpan : Nat → List (Int × Nat) → List (Int × Nat)
  | _, [] => []
  | n, (v, c) :: rest => if n ≤ c then [(v, n)] else (v, c) :: trimSpan (n - c) rest

/-- Add TICK cycles spent in LOCKED at a control value. -/
def addSpan (v : Int) (c : Nat) : List (Int × Nat) → List (Int × Nat)
  | [] => [(v, c)]
  | (w, n) :: rest => if w = v then trimSpan 155520000 ((w, n + c) :: rest) else trimSpan 155520000 ((v, c) :: (w, n) :: rest)

/-- The generator steers on a master. -/
def TickGen.steered (t : TickGen) : Bool :=
  match t.st with
  | .acquire => true
  | .locked => true
  | .slew => true
  | _ => false

/-- The master is lost (R40, R46): HOLDOVER where an estimate is held, else FREE. cause 0: Sync lost; 1: four rejected
samples. -/
def State.loseMaster (s : State) (cause : Nat) : State :=
  let t := s.tick
  if t.steered then
    let t' := { t with hasMaster := false, sinceLoss := 0, run := 0, rejects := 0, accepted := [], acqStep := none }
    if t.lockedSpan.isEmpty then s.setTick { t' with st := .free, osc := 0 }
    else
      (s.setTick { t' with st := .holdover, osc := t.estimate, holdTicks := 0 }).raiseRow 0x0020 1 2 1 5
        [(1, t.master), (1, cause), (1, t.tic), (1, t.cycle)]
  else s

/-- An event of a PON channel (Tables 3-9, 4-8, 5-10). -/
def State.ponEvent (s : State) (n sev chap row : Nat) (fs : List (Nat × Nat)) : State :=
  s.raiseRow (0x0010 + n) sev chap row 1 fs

/-- Code of a LULL mode. -/
def Lull.code : Lull → Nat
  | .awake => 0
  | .doze => 1
  | .watchful => 2

/-- A LULL mode is entered or left: the event (Table 4-8); cause 0 head end, 1 policy, 2 wake-up indication. -/
def State.setLull (s : State) (n : Nat) (l : Lull) (cause : Nat) : State :=
  let c := s.ch n
  (s.setCh n { c with lull := l }).ponEvent n 3 4 8 [(1, c.lull.code), (1, l.code), (1, cause)]

/-- A channel that becomes the timing master uses doze in place of watchful sleep (R135). DESIGN CHOICE (log 11): the event's
cause is 1 (policy). -/
def State.masterLull (s : State) (c : Nat) : State :=
  if (s.ch c).lull = .watchful then s.setLull c .doze 1 else s

/-- The generator takes a master (R40, R43, R53): through SLEW while a vector group runs, otherwise ACQUIRE. A stored
offset applies at the entry. DESIGN CHOICE (log 9): the master-changed event (R60) is raised before any sample of the new
master; its phase error is the error of the new channel's latest frame start. -/
def State.takeMaster (s : State) (c : Nat) : State :=
  let t := s.tick
  let slew := s.anyRunning
  let s' := s.setTick { t with
    st := if slew then .slew else .acquire
    hasMaster := true
    master := c
    run := 0
    rejects := 0
    accepted := []
    acqStep := none
    stepDue := !slew
    holdoverLong := false
    offLive := s.fld F.TICK_OFFSET_OFFSET
    offPending := false }
  (s'.raiseRow 0x0020 2 2 3 5 [(1, t.master), (1, c), (1, if slew then 0 else 1), (4, twos 4 (s.ch c).refErr)]).masterLull c

/-- LOCKED is entered (Table 2-2) by a sample pos after the latest tick edge; at the end of ACQUIRE DISPLACE is set to 0
(R42). Time in LOCKED is counted from there (R46). -/
def State.enterLocked (s : State) (pos : Nat) : State :=
  let t := s.tick
  let d := if t.st = .acquire then 0 else t.displace
  (s.setTick { t with st := .locked, displace := d, run := 0, lockedSpan := addSpan t.osc 0 t.lockedSpan,
                        spanMark := min (pos / 256) 3240 }).raiseRow
    0x0020 3 2 4 5 [(1, t.master), (2, twos 2 d)]

/-- A number brought into -n to n-1 modulo 2n. -/
def wrapSigned (n : Int) (x : Int) : Int :=
  let r := x % (2 * n)
  if r < n then r else r - 2 * n

/-- Phase error of a frame start that falls pos after the latest tick edge (R37, R51): positive when the tick is late. -/
def TickGen.phaseOf (t : TickGen) (pos : Nat) : Int :=
  wrapSigned (tickUnits / 2) (-(pos : Int) - 256 * (t.offLive : Int))

/-- Index, modulo 288, that R42 gives to the edge nearest the latest tick edge. -/
def TickGen.wantIndex (t : TickGen) (pos sfc : Nat) : Int :=
  let x := -(pos : Int) - 256 * (t.offLive : Int)
  (6 * ((sfc % 48 : Nat) : Int) + (x - t.phaseOf pos) / tickUnits) % 288

/-- Index, modulo 288, of the next edge when its interval is lengthened onto the master's timing (R41, R42). -/
def TickGen.stepIndex (t : TickGen) (pos sfc : Nat) : Nat :=
  let k : Int := 1 - ((pos : Int) + 256 * (t.offLive : Int)) / tickUnits
  ((6 * ((sfc % 48 : Nat) : Int) + k) % 288).toNat

/-- DPLL bandwidth in 0.1 Hz (Table 2-2): 100 Hz in ACQUIRE, else TICK_CFG.BW, of which 5 to 7 act as 2 (Table 2-5). -/
def State.dpllBw (s : State) : Nat :=
  if s.tick.st = .acquire then 1000
  else match s.fld F.TICK_CFG_BW with
    | 0 => 1
    | 1 => 3
    | 3 => 30
    | 4 => 100
    | _ => 10

/-- Time in LOCKED up to TICK cycle m of the current tick is counted at the control value in force (R46). -/
def TickGen.countLocked (t : TickGen) (m : Nat) : TickGen :=
  match t.st with
  | .locked => { t with lockedSpan := addSpan t.osc (m - t.spanMark) t.lockedSpan, spanMark := max m t.spanMark }
  | _ => t

/-- A sample is accepted (R38, R40, R41, R51). -/
def State.acceptSample (s : State) (pos sfc : Nat) (err : Int) : State :=
  let bw := s.dpllBw
  let t := s.tick.countLocked (min (pos / 256) 3240)
  let near := decide (-796 ≤ err ∧ err ≤ 796)
  let t := { t with
    rejects := 0
    accepted := err :: t.accepted
    phaseErr := err
    osc := Config.dpllControl bw t.osc err }
  let s := s.setTick (t.countLocked t.spanMark)
  let t := s.tick
  match t.st with
  | .acquire =>
    let run := if near then t.run + 1 else 0
    let t := { t with run := run }
    let t := if t.stepDue then { t with acqStep := some (t.stepIndex pos sfc), stepDue := false } else t
    if 48 ≤ run then (s.setTick t).enterLocked pos else s.setTick t
  | .slew =>
    let idx : Int := (t.cycle * 36 + t.tic : Nat)
    let t := { t with displace := wrapSigned 144 (idx - t.wantIndex pos sfc) }
    if -79 ≤ err ∧ err ≤ 79 then (s.setTick t).enterLocked pos else s.setTick t
  | _ => s.setTick t

/-- A frame start of a channel is reported at pos after the latest tick edge (R36, R38, R84): the master's is a sample. -/
def State.frameStart (s : State) (c pos sfc : Nat) : State :=
  let t := s.tick
  let err := t.phaseOf pos
  let s := s.setCh c { s.ch c with refErr := err }
  if t.steered ∧ t.master = c then
    let d := err - Config.phasePrediction t.accepted
    if t.accepted.isEmpty ∨ (-7962 ≤ d ∧ d ≤ 7962) then s.acceptSample pos sfc err
    else
      let s := s.setTick { t.countLocked (min (pos / 256) 3240) with rejects := t.rejects + 1, run := 0 }
      if 4 ≤ t.rejects + 1 then s.loseMaster 1 else s
  else s

/-- A missing PSync of the master takes no sample and sets the run to 0 (R38, R40). -/
def State.frameMissing (s : State) (c : Nat) : State :=
  if s.tick.steered ∧ s.tick.master = c then s.setTick { s.tick with run := 0 } else s

/-- The indices after an edge (R32, R41): one further, or as the ACQUIRE step sets them. -/
def TickGen.advance (t : TickGen) : TickGen :=
  let t := { t.countLocked 3240 with count := t.count + 1, spanMark := 0, sinceLoss := min (t.sinceLoss + 1) 2 }
  let t := match t.acqStep, t.st with
    | some i, .acquire =>
      { t with tif := i % 6, tic := i % 36, cycle := i / 36 % 8, acqStep := none,
               accepted := t.accepted.map (fun e => e - t.phaseErr) }
    | _, _ =>
      let tic := (t.tic + 1) % 36
      { t with tif := (t.tif + 1) % 6, tic := tic, cycle := if tic = 0 then (t.cycle + 1) % 8 else t.cycle }
  { t with
    frameDue := t.frameDue || t.tif == 0
    cycleDue := t.cycleDue || t.tic == 0
    superDue := t.superDue || (t.tic == 0 && t.cycle == 0)
    holdTicks := match t.st with
      | .holdover => t.holdTicks + 1
      | _ => t.holdTicks }

/-- The pulse on TICK_OUT, at its active level (R55). -/
def State.tickOut (s : State) : State :=
  if s.flag F.TICK_OUT_CFG_ENABLE then s.emit (.pulse "TICK_OUT" 0 (!s.flag F.TICK_OUT_CFG_POLARITY)) else s

/-- TICK_OUT_CFG takes a value (R55): between pulses, and always with ENABLE 0, TICK_OUT rests at the inactive level. -/
def State.writeTickOut (s : State) (v : Nat) : State :=
  let s := s.wrRw R.TICK_OUT_CFG v
  let level := bit v 1
  if s.tick.outLevel = level then s
  else (s.setTick { s.tick with outLevel := level }).emit (.pin "TICK_OUT" 0 level)

/-! The SyncE outputs (R473). -/

/-- What a SyncE output drives: low, or the TICK clock divided. -/
inductive SyncE where
  | low
  | clock (divisor : Nat)
  deriving DecidableEq, Repr

/-- Does SQUELCH drive output i low in the state of the tick generator? -/
def State.squelched (s : State) (i : Nat) : Bool :=
  let acquiring := s.tick.st == .free || s.tick.st == .acquire
  match s.fld (F.TIME_SYNCE_CFG_SQUELCH i) with
  | 0 => false
  | 2 => acquiring || s.tick.st == .holdover
  | _ => acquiring

/-- Divisor of the TICK clock of 155.52 MHz that DIV selects; 5 to 7 act as 0. -/
def State.synceDivisor (s : State) (i : Nat) : Nat :=
  match s.fld (F.TIME_SYNCE_CFG_DIV i) with
  | 1 => 2
  | 2 => 4
  | 3 => 8
  | 4 => 19440
  | _ => 1

/-- Does output i still wait, squelch over, for a rising edge? The edges of divisors 1 to 8 come within the tick. -/
def State.synceWaits (s : State) (i : Nat) : Bool := s.synceDivisor i == 19440 && bit s.tick.squelch i

/-- What SyncE output i drives (R473, Table 23-9). -/
def State.synceOut (s : State) (i : Nat) : SyncE :=
  if s.flag (F.TIME_SYNCE_CFG_EN i) = false ∨ s.squelched i ∨ s.synceWaits i then .low else .clock (s.synceDivisor i)

/-- Squelch at a tick edge: the 8 kHz clock rises at the edge at which TIF becomes 0. DESIGN CHOICE (log 24): the spec gives no
phase. -/
def State.synceEdge (s : State) : State :=
  let keeps := fun i => s.squelched i || (s.synceWaits i && s.tick.tif != 0)
  s.setTick { s.tick with squelch := b2n (keeps 0) + 2 * b2n (keeps 1) }

/-- The commanded change at its boundary (R52). DESIGN CHOICE (log 9), where the spec is silent: a change to the channel
that is already the steered master moves nothing, raises no event and ends with DONE; a boundary that finds SLEW with no
group running (entering ACQUIRE), or HOLDOVER entered less than one tick before (R48), takes the change all the same. -/
def State.masterChangeDue (s : State) : State :=
  match s.tick.change with
  | none => s
  | some m =>
    let s := s.setTick { s.tick with change := none }
    if s.qualifies m.ch then
      let s := if s.tick.steered ∧ s.tick.master = m.ch then s else s.takeMaster m.ch
      s.endLater m.func m.id ⟨stDone, 0, []⟩
    else s.endLater m.func m.id ⟨stBadTarget, 0, []⟩

/-- Channels that stand before the current master in TICK_CFG.PRIO (R49, R50). -/
def State.earlier (s : State) : List Nat := s.prioList.takeWhile (· != s.tick.master)

/-- Choice of a master after a loss (R48) and revert (R50). -/
def State.masterChoice (s : State) : State :=
  let t := s.tick
  match t.st with
  | .free => match s.firstQualified s.prioList with
    | some c => if 2 ≤ t.sinceLoss then s.takeMaster c else s
    | none => s
  | .holdover => match s.firstQualified s.prioList with
    | some c => if 2 ≤ t.sinceLoss then s.takeMaster c else s
    | none => s
  | .locked => if s.flag F.TICK_CFG_REVERT then
      match s.firstQualified s.earlier with
      | some c => s.takeMaster c
      | none => s
    else s
  | _ => s

/-- The generator takes the offset v as its phase target. DESIGN CHOICE (log 9): the errors of the samples accepted so far
(R38) stand against the new target from then on. -/
def TickGen.retarget (t : TickGen) (v : Nat) : TickGen :=
  { t with
    offLive := v
    offPending := false
    accepted := t.accepted.map (fun e => wrapSigned (tickUnits / 2) (e - 256 * ((v : Int) - (t.offLive : Int)))) }

/-- A change of offset at its boundary (R53). -/
def State.offsetApply (s : State) : State :=
  let t := s.tick
  if t.offPending then
    let t' := t.retarget (s.fld F.TICK_OFFSET_OFFSET)
    match t.st with
    | .locked => s.setTick { t' with st := .slew }
    | .slew => s.setTick t'
    | .acquire => s.setTick { t' with stepDue := true }
    | _ => s
  else s

/-- A write of TICK_OFFSET (Table 2-6, R53): above 19,439 it is ignored; a change waits for the next boundary. -/
def State.writeOffset (s : State) (v : Nat) : State :=
  let v := v % 2 ^ 15
  if 19439 < v then s
  else if v = s.fld F.TICK_OFFSET_OFFSET then s
  else
    let s := s.setFld F.TICK_OFFSET_OFFSET v
    s.setTick { s.tick with offPending := true }

end Sys2Proof.Machine
end

