-- ==== Sys2Proof/Machine/BufferOps.lean ====
section
/-! DEFINITION. The buffer pool manager's operations (R404 to R415). Choices: log 23. -/

namespace Sys2Proof.Machine

/-! Owner tags (Table 14-1). -/
abbrev agEthRx : Nat := 1
abbrev agPonRx : Nat := 2
abbrev agBond : Nat := 3
abbrev agQm : Nat := 4
abbrev agEthTx : Nat := 5
abbrev agBurst : Nat := 6
abbrev agD2h : Nat := 7
abbrev agH2d : Nat := 8
abbrev agCore : Nat := 9

/-- Buffer size of a pool (R404). -/
def poolSize (i : Nat) : Nat := if i = 0 then 256 else if i = 1 then 1024 else if i = 2 then 2560 else 10240

/-- Reset COUNT of a pool (Table 14-6). -/
def poolCount (i : Nat) : Nat := if i = 0 then 32768 else if i = 3 then 1228 else 8192

/-- A pool. -/
def State.pool (s : State) (i : Nat) : Pool := sparseGet (fun i => { count := poolCount i }) s.buf.pools i

/-- Replace a pool. -/
def State.setPool (s : State) (i : Nat) (p : Pool) : State :=
  { s with buf := { s.buf with pools := sparseSet (fun i => { count := poolCount i }) s.buf.pools i p } }

/-- The pool of a buffer ID (R404). -/
def poolOf (id : Nat) : Nat := id / 2 ^ 18 % 4

/-- The owner tag of a buffer; 0: its state bit is 0. -/
def State.owner (s : State) (id : Nat) : Nat := sparseGet (fun _ => 0) s.buf.owner id

/-- Set an owner tag. -/
def State.setOwner (s : State) (id tag : Nat) : State :=
  { s with buf := { s.buf with owner := sparseSet (fun _ => 0) s.buf.owner id tag } }

/-- Take the first n IDs of a ring held as runs. -/
def takeRuns : Nat → List (Nat × Nat) → List Nat × List (Nat × Nat)
  | _, [] => ([], [])
  | n, (a, c) :: rs =>
    if n ≤ c then ((List.range n).map (· + a), if n = c then rs else (a + n, c - n) :: rs)
    else
      let r := takeRuns (n - c) rs
      ((List.range c).map (· + a) ++ r.1, r.2)

/-- IDs on a ring. -/
def runsLength : List (Nat × Nat) → Nat
  | [] => 0
  | (_, c) :: rs => c + runsLength rs

/-- Append an ID to a ring. -/
def pushRun : List (Nat × Nat) → Nat → List (Nat × Nat)
  | [], id => [(id, 1)]
  | [(a, c)], id => if a + c = id then [(a, c + 1)] else [(a, c), (id, 1)]
  | r :: rs, id => r :: pushRun rs id

/-- Append IDs to a ring. -/
def pushRuns : List (Nat × Nat) → List Nat → List (Nat × Nat)
  | rs, [] => rs
  | rs, id :: ids => pushRuns (pushRun rs id) ids

/-- Fetch a block of up to 128 IDs from the ring into the cache (R408). -/
def Pool.fetch (p : Pool) : Pool :=
  let n := min 128 (runsLength p.ring)
  let r := takeRuns n p.ring
  { p with cache := p.cache ++ r.1, ring := r.2, ringHead := (p.ringHead + n) % p.count }

/-- Write a block of 128 IDs from the cache to the ring (R408). -/
def Pool.writeOut (p : Pool) : Pool :=
  { p with cache := p.cache.drop 128, ring := pushRuns p.ring (p.cache.take 128) }

/-- Does OVERCAST set an ID aside (R535)? -/
def Pool.isHigh (p : Pool) (id : Nat) : Bool := decide (p.count / 8 ≤ id % 2 ^ 18)

/-- A run of IDs split into those OVERCAST keeps and those it sets aside. -/
def Pool.splitRun (p : Pool) (r : Nat × Nat) : List (Nat × Nat) × List (Nat × Nat) :=
  let low := min r.2 (p.count / 8 - r.1 % 2 ^ 18)
  (if low = 0 then [] else [(r.1, low)], if low = r.2 then [] else [(r.1 + low, r.2 - low)])

/-- OVERCAST begins for a pool (R535): higher IDs are set aside, FREE counts the others. -/
def Pool.limit (p : Pool) : Pool :=
  let keep := p.ring.flatMap (fun r => (p.splitRun r).1)
  let high := p.ring.flatMap (fun r => (p.splitRun r).2)
  let cache := p.cache.filter (fun id => !p.isHigh id)
  { p with cache := cache, ring := keep, aside := pushRuns high (p.cache.filter p.isHigh), free := cache.length + runsLength keep }

/-- OVERCAST ends for a pool (R538): the IDs set aside return to use. -/
def Pool.unlimit (p : Pool) : Pool :=
  { p with ring := p.ring ++ p.aside, aside := [], free := p.free + runsLength p.aside }

/-- What a buffer request answers: a buffer ID, or a refusal. -/
inductive AllocOut where
  | got (id : Nat)
  | refused
  deriving DecidableEq, Repr

/-- Pool-empty event (Table 14-7), first per vector cycle per pool. -/
def State.tellEmpty (s : State) (i agent : Nat) : State :=
  let p := s.pool i
  if p.emptyTold then s
  else (s.setPool i { p with emptyTold := true }).raiseRow 0x0083 2 14 5 3 [(1, i), (1, agent)]

/-- Offer a request to pool i and the larger ones (R406, R407); first is the first pool offered. A pool whose cache is
empty while its ring is not makes the request wait for a fetch, which is counted (R409). -/
def allocFrom (s : State) (agent first : Nat) : Nat → Nat → State × AllocOut
  | 0, _ => (((s.bump (C.BUF_EMPTY first)).tellEmpty first agent), .refused)
  | n + 1, i =>
    let p := s.pool i
    if 0 < p.free then
      let stall := p.cache.isEmpty
      let s := if stall then s.bump (C.BUF_CACHE_STALL i) else s
      let p := if stall then p.fetch else p
      match p.cache with
      | [] => (((s.bump (C.BUF_EMPTY first)).tellEmpty first agent), .refused)
      | id :: ids =>
        let s := s.setPool i { p with cache := ids, free := p.free - 1 }
        ((s.setOwner id agent).bump (C.BUF_ALLOC i), .got id)
    else if s.flag (F.BUF_POOL_CFG_FALLOVER i) ∧ i < 3 then
      allocFrom (s.bump (C.BUF_FELL_OVER i)) agent first n (i + 1)
    else (((s.bump (C.BUF_EMPTY first)).tellEmpty first agent), .refused)

/-- A request for a buffer of a stored length (R406). -/
def State.allocBuf (s : State) (agent len : Nat) : State × AllocOut :=
  if 10240 < len then (s.bump C.BUF_TOO_BIG, .refused)
  else
    let i := if len ≤ 256 then 0 else if len ≤ 1024 then 1 else if len ≤ 2560 then 2 else 3
    allocFrom s agent i 4 i

/-- The event of a rejected request (R412): kind 0 free, 1 handover. -/
def State.rejectReq (s : State) (id kind agent inst : Nat) : State :=
  if s.owner id = 0 then
    (s.bump (C.BUF_DOUBLE_FREE (poolOf id))).raiseRow 0x0083 1 14 1 3 [(4, id), (1, agent), (1, inst)]
  else
    (s.bump (C.BUF_FOREIGN_FREE (poolOf id))).raiseRow 0x0083 1 14 2 3
      [(4, id), (1, kind), (1, agent), (1, inst), (1, s.owner id)]

/-- A free (R411, R412): the ID returns to the cache, from which a block goes to the ring when it has no place (R408). -/
def State.freeBuf (s : State) (id agent inst : Nat) : State :=
  if s.owner id = agent ∧ agent ≠ 0 then
    let i := poolOf id
    let p := s.pool i
    if s.buf.limited && p.isHigh id then (s.setPool i { p with aside := pushRun p.aside id }).setOwner id 0
    else
      let p := if 1024 ≤ p.cache.length then p.writeOut else p
      (s.setPool i { p with cache := p.cache ++ [id], free := p.free + 1 }).setOwner id 0
  else s.rejectReq id 0 agent inst

/-- A handover (R411, R412). -/
def State.handover (s : State) (id agent inst dst : Nat) : State :=
  if s.owner id = agent ∧ agent ≠ 0 then s.setOwner id dst else s.rejectReq id 1 agent inst

/-- The pools hand out only the lower eighth, or all, of their IDs (R535, R538). -/
def State.limitPools (s : State) (on : Bool) : State :=
  if s.buf.limited = on then s
  else
    let s := (List.range 4).foldl (fun s i => s.setPool i (if on then (s.pool i).limit else (s.pool i).unlimit)) s
    { s with buf := { s.buf with limited := on } }

/-- Firmware writes every ID of a pool to its ring in ascending order and fills the cache with 1,024 IDs (R409). -/
def State.fillPool (s : State) (i count : Nat) : State :=
  let n := min 1024 count
  s.setPool i {
    count := count, cache := (List.range n).map (· + i * 2 ^ 18),
    ring := (if n < count then [(i * 2 ^ 18 + n, count - n)] else []), ringHead := n % max 1 count, free := count }

/-- The pools as start leaves them (R405, R409), with the counts that firmware uses. -/
def State.fillPools (s : State) (counts : List Nat) : State :=
  let s := { s with buf := { s.buf with owner := [], dests := [], multi := [] } }
  (List.range 4).foldl (fun s i => s.fillPool i ((counts[i]?).getD (poolCount i))) s

/-- Do four pool counts meet R405? -/
def carveOk (ns : List Nat) : Bool :=
  ns.length == 4 && ns.all (fun n => n % 4 == 0 && decide (n < 2 ^ 18)) &&
    decide (((List.range 4).map (fun i => (ns[i]?).getD 0 * poolSize i)).sum ≤ 50331648)

/-- Destinations outstanding for a buffer. -/
def State.destsOf (s : State) (id : Nat) : Nat := sparseGet (fun _ => 0) s.buf.dests id

/-- Set the destinations outstanding for a buffer. -/
def State.setDests (s : State) (id n : Nat) : State :=
  { s with buf := { s.buf with
      dests := sparseSet (fun _ => 0) s.buf.dests id n
      multi := sparseSet (fun _ => false) s.buf.multi id (decide (1 < n)) } }

/-- Did a buffer's frame have more than one destination? -/
def State.isMulti (s : State) (id : Nat) : Bool := sparseGet (fun _ => false) s.buf.multi id

/-- A destination has finished with a frame (R414, R446): the queue manager frees a buffer of several destinations when
the last has reported; the agent that holds a buffer of one destination frees it itself. -/
def State.finishDest (s : State) (id agent inst : Nat) : State :=
  if s.isMulti id then
    let n := s.destsOf id - 1
    let s := { s with buf := { s.buf with dests := sparseSet (fun _ => 0) s.buf.dests id n } }
    if n = 0 then ({ s with buf := { s.buf with multi := sparseSet (fun _ => false) s.buf.multi id false } }).freeBuf id agQm 0
    else s
  else
    ({ s with buf := { s.buf with dests := sparseSet (fun _ => 0) s.buf.dests id 0 } }).freeBuf id agent inst

/-- A transmitter takes a frame from the queue manager: a buffer of one destination is handed over to it (R411, R414). -/
def State.takeBuf (s : State) (id dst : Nat) : State :=
  if s.isMulti id then s else s.handover id agQm 0 dst

end Sys2Proof.Machine
end

