-- ==== Sys2Proof/Machine/MemOps.lean ====
section
/-! DEFINITION. Operations over the memories of chapter 18: reads and writes of DDR4, injection, findings, the packet
buffer's words. Choices: log 26. -/

namespace Sys2Proof.Machine

/-- Replace the memory system. -/
def State.setMem (s : State) (m : Mem) : State := { s with mem := m }

/-- Log a finding (R525) and raise the uncorrectable-word event, at most four per memory in a vector cycle (R528).
finder: 0 scrubber, 1 block read, 2 DDR4 partial write. -/
def State.logUe (s : State) (m word finder : Nat) : State :=
  let x := s.mem
  let i := x.logPtr % 8
  let b := m * 2 ^ 28 + finder * 2 ^ 24 + s.tick.count.toNat % 65536
  let told := sparseGet (fun _ => 0) x.ueTold m
  let s := s.setMem { x with
    logA := sparseSet (fun _ => 0) x.logA i (word % 2 ^ 32), logB := sparseSet (fun _ => 0) x.logB i b,
    logPtr := (i + 1) % 8, ueTold := sparseSet (fun _ => 0) x.ueTold m (told + 1) }
  let s := s.setFld (F.MEM_UE_LOG_B_VALID i) 1
  if told < 4 then s.raiseRow (memSource m) 1 18 2 0 [(1, m), (4, word), (1, finder)] else s

/-- A correctable word met in memory m: CE of its bank (R519), and the symbol position for DDR4 (R513). -/
def State.foundCe (s : State) (m k : Nat) : State :=
  let s := s.bump (C.MEM_CE m)
  if m = 0 then s.bump (C.MEM_DDR_SYM k) else s

/-- An uncorrectable word met in memory m: UE of its bank, the log and the event. -/
def State.foundUe (s : State) (m word finder : Nat) : State := (s.bump (C.MEM_UE m)).logUe m word finder

/-- An armed injection on memory m (R525): the pattern in the two selected symbols. -/
def State.injection (s : State) (m : Nat) : Option Codeword :=
  if s.flag F.MEM_INJ_GO ∧ s.fld F.MEM_INJ_MEM = m then
    let pat := s.fld F.MEM_INJ_PAT_PAT
    let a := s.fld F.MEM_INJ_SYM_A
    let b := s.fld F.MEM_INJ_SYM_B
    let w := pat * 2 ^ (16 * a)
    some (BitVec.ofNat 288 (if a = b then w else w ^^^ (pat * 2 ^ (16 * b))))
  else none

/-- A codeword about to be written to memory m: an armed injection falls on it and GO clears (R525). -/
def State.inject (s : State) (m : Nat) (w : Codeword) : State × Codeword :=
  match s.injection m with
  | some e => (s.setFld F.MEM_INJ_GO 0, w ^^^ e)
  | none => (s, w)

/-! DDR4. -/

/-- DDR4 codeword by index. -/
def State.ddrWord (s : State) (i : Nat) : Codeword := sparseGet (fun _ => 0) s.mem.ddr i

/-- Put a DDR4 codeword. -/
def State.setDdr (s : State) (i : Nat) (w : Codeword) : State :=
  s.setMem { s.mem with ddr := sparseSet (fun _ => 0) s.mem.ddr i w }

/-- Write a whole codeword: an injection into memory 0 falls on the lower codeword of the burst (R511, R525). -/
def State.writeDdr (s : State) (i : Nat) (w : Codeword) : State :=
  match s.injection 0 with
  | some e =>
    let s := (s.setDdr i w).setFld F.MEM_INJ_GO 0
    s.setDdr (i / 2 * 2) (s.ddrWord (i / 2 * 2) ^^^ e)
  | none => s.setDdr i w

/-- May the channel be used (Table 20-5, TIMEOUT)? -/
def State.ddrReady (s : State) : Bool := s.mem.trained && !s.mem.selfRefresh

/-- DDR4 capacity in bytes. -/
def State.ddrBytes (s : State) : Nat := s.mem.gib * 2 ^ 30

/-- Read one codeword: the data, none when it is uncorrectable (R505, R513, R519). -/
def State.readDdr (s : State) (i finder : Nat) : State × Option Nat :=
  match decodeWord (s.ddrWord i) with
  | .clean => (s, some ((s.ddrWord i).toNat % 2 ^ 256))
  | .corrected k w => (s.foundCe 0 k, some (w.toNat % 2 ^ 256))
  | .bad => (s.foundUe 0 i finder, none)

/-- Read n codewords from index i: their bytes, or the byte offset of the first uncorrectable one. -/
def State.readWords (s : State) (i : Nat) : Nat → State × Except Nat (List Byte)
  | 0 => (s, .ok [])
  | n + 1 =>
    match s.readDdr i 1 with
    | (s, none) => (s, .error (32 * i))
    | (s, some d) =>
      match s.readWords (i + 1) n with
      | (s, .ok bs) => (s, .ok (dataBytes d ++ bs))
      | (s, .error e) => (s, .error e)

/-- Read n bytes of DDR4 from an address (R515, R516). -/
def State.ddrRead (s : State) (addr n : Nat) : State × Except Nat (List Byte) :=
  let i := addr / 32
  match s.readWords i (ceilDiv (addr % 32 + n) 32) with
  | (s, .ok bs) => (s, .ok (sliceB bs (addr % 32) n))
  | (s, .error e) => (s, .error e)

/-- Write bytes of DDR4 from an address, codeword by codeword: a part of one is merged into the corrected word, and is
not written when that is uncorrectable (R515); fuel bounds the codewords. The answer names the byte offset of a codeword
that stopped the write. -/
def State.ddrWriteF (s : State) : Nat → Nat → List Byte → State × Option Nat
  | 0, _, _ => (s, none)
  | fuel + 1, addr, bs =>
    if bs.isEmpty then (s, none)
    else
      let i := addr / 32
      let off := addr % 32
      let part := bs.take (32 - off)
      let next := fun (s : State) => s.ddrWriteF fuel (addr + part.length) (bs.drop part.length)
      if part.length = 32 then next (s.writeDdr i (encodeWord (ofLe part)))
      else
        match s.readDdr i 2 with
        | (s, none) => (s, some (32 * i))
        | (s, some d) => next (s.writeDdr i (encodeWord (ofLe (spliceB (dataBytes d) off part))))

/-- Write bytes of DDR4. -/
def State.ddrWrite (s : State) (addr : Nat) (bs : List Byte) : State × Option Nat :=
  s.ddrWriteF (bs.length / 32 + 2) addr bs

/-! The packet buffer (memory 2): error patterns by codeword. -/

/-- First codeword of a buffer (R404). -/
def State.bufWord (s : State) (id : Nat) : Nat :=
  let i := poolOf id
  ((List.range i).map (fun j => (s.pool j).count * poolSize j)).sum / 32 + id % 2 ^ 18 * (poolSize i / 32)

/-- Codewords of a stored length. -/
def frameWords (len : Nat) : Nat := ceilDiv len 32

/-- A frame is written into a buffer: its words get new check bits; an armed injection falls on the first (R508, R525). -/
def State.storeFrame (s : State) (id len : Nat) : State :=
  let w := s.bufWord id
  let n := frameWords len
  let errs := s.mem.pbufErr.filter (fun p => !(decide (w ≤ p.1) && decide (p.1 < w + n)))
  let s := s.setMem { s.mem with pbufErr := errs }
  if n = 0 then s
  else
    match s.inject 2 0 with
    | (s, e) => s.setMem { s.mem with pbufErr := sparseSet (fun _ => 0) s.mem.pbufErr w e }

/-- Words of a frame that stand with an error pattern. -/
def State.frameErrs (s : State) (id len : Nat) : List (Nat × Codeword) :=
  let w := s.bufWord id
  s.mem.pbufErr.filter (fun p => decide (w ≤ p.1) && decide (p.1 < w + frameWords len))

/-- A reader meets the words of a frame in order, up to the first uncorrectable one: counted, logged (R505, R522). The
answer is that word's byte offset in the buffer. -/
def State.meetWords (s : State) (base : Nat) : List (Nat × Codeword) → State × Option Nat
  | [] => (s, none)
  | (i, e) :: es =>
    match decodeWord e with
    | .clean => s.meetWords base es
    | .corrected k _ => (s.foundCe 2 k).meetWords base es
    | .bad => (s.foundUe 2 i 1, some (32 * (i - base)))

/-- A transmitter or channel reads a frame's words. met is the byte at which the reader finds a word uncorrectable that a
disturbance has struck since; the answer is the byte at which it stops. -/
def State.readFrame (s : State) (id len : Nat) (met : Option Nat) : State × Option Nat :=
  match s.meetWords (s.bufWord id) (s.frameErrs id len) with
  | (s, some n) => (s, some n)
  | (s, none) =>
    match met with
    | none => (s, none)
    | some n => (s.foundUe 2 (s.bufWord id + n / 32) 1, some n)

/-! Table memories (memory 7). -/

/-- Entries of the table memories in the order in which the model numbers them: the rule slots of the four rule sets
0-32,767, flow entries to 98,303, forwarding places to 229,631, fragment entries to 231,679, queue records to 235,775,
level-2 node records to 236,287, level-1 node records to 236,316. -/
def tableBase (kind : Nat) : Nat :=
  match kind with
  | 0 => 0
  | 1 => 32768
  | 2 => 98304
  | 3 => 229632
  | 4 => 231680
  | 5 => 235776
  | 6 => 236288
  | _ => 236317

/-- The table memory that holds a word: its kind and the entry's index. -/
def tableOf (word : Nat) : Nat × Nat :=
  let k := ((List.range 7).filter (fun k => decide (tableBase k ≤ word))).length - 1
  (k, word - tableBase k)

/-- Does an entry of a table memory stand with a parity error? -/
def State.parityBad (s : State) (kind idx : Nat) : Bool := s.mem.parity.contains (tableBase kind + idx)

/-- An entry of a table memory is written: its parity is good again, unless an armed injection flips it (R525). -/
def State.wroteTable (s : State) (kind idx : Nat) : State :=
  let w := tableBase kind + idx
  let ps := s.mem.parity.filter (· != w)
  if s.flag F.MEM_INJ_GO ∧ s.fld F.MEM_INJ_MEM = 7 then
    let s := s.setFld F.MEM_INJ_GO 0
    s.setMem { s.mem with parity := if bit (s.fld F.MEM_INJ_PAT_PAT) 0 then w :: ps else ps }
  else s.setMem { s.mem with parity := ps }

/-- A lookup or the scrubber meets a parity error (R524): counted in UE of memory 7, logged. -/
def State.meetParity (s : State) (kind idx finder : Nat) : State := s.foundUe 7 (tableBase kind + idx) finder

end Sys2Proof.Machine
end

