-- ==== Sys2Proof/Machine/CipherOps.lean ====
section
/-! DEFINITION. The key store and the request instance (R482 to R500). Choices: log 25. -/

namespace Sys2Proof.Machine

/-- A key slot. -/
def State.slot (s : State) (i : Nat) : KeySlot := sparseGet (fun _ => {}) s.ciph.slots i
/-- Replace a key slot. -/
def State.setSlot (s : State) (i : Nat) (k : KeySlot) : State :=
  { s with ciph := { s.ciph with slots := sparseSet (fun _ => {}) s.ciph.slots i k } }
/-- The key word of a slot. -/
def State.keyWord (s : State) (i : Nat) : Codeword := sparseGet (fun _ => 0) s.ciph.keys i
/-- Replace the key word of a slot. -/
def State.setKeyWord (s : State) (i : Nat) (w : Codeword) : State :=
  { s with ciph := { s.ciph with keys := sparseSet (fun _ => 0) s.ciph.keys i w } }

/-- Bytes of a key by its LEN code. -/
def keyBytesOf (len : Nat) : Nat := 16 + 8 * len

/-- Load a key into a slot (R484, R486): the counter is 0. -/
def State.loadKey (s : State) (i len usage : Nat) (key : List Nat) : State :=
  let w := encodeWord (ofLe ((key.take (keyBytesOf len)).map (BitVec.ofNat 8)))
  match s.inject 3 w with
  | (s, w) => (s.setKeyWord i w).setSlot i { state := 1, len := len, usage := usage, counter := 0 }

/-- Empty a slot. -/
def State.eraseKey (s : State) (i : Nat) : State := (s.setKeyWord i 0).setSlot i {}

/-- The inline instance's source, or the request instance's, by slot (R500, Table 17-9). -/
def keyOwner (i : Nat) : Nat × Nat := if i < 32 then (0x00A0 + i / 8, 1) else (0x00A4, 4)

/-- A slot's key word is uncorrectable: a VALID slot enters LOST (R484, R500). Table 17-2 gives a RETIRED one no such way out. -/
def State.loseKey (s : State) (i : Nat) : State :=
  let k := s.slot i
  if k.state ≠ 1 then s
  else (s.setSlot i { k with state := 3 }).raiseRow (keyOwner i).1 1 17 2 (keyOwner i).2 [(2, i)]

/-- Read a slot's key (R484): a corrected read is used and written back corrected; an uncorrectable one loses the slot. -/
def State.readKey (s : State) (i : Nat) : State × Option (List Nat) :=
  let k := s.slot i
  if k.state = 1 ∨ k.state = 2 then
    let key := fun (d : Nat) => ((leBytes 32 d).take (keyBytesOf k.len)).map (·.toNat)
    match decodeWord (s.keyWord i) with
    | .clean => (s, some (key ((s.keyWord i).toNat % 2 ^ 256)))
    | .corrected j w => ((s.foundCe 3 j).setKeyWord i w, some (key (w.toNat % 2 ^ 256)))
    | .bad => ((s.foundUe 3 i 1).loseKey i, none)
  else (s, none)

/-- Inline slot of a channel's data key: key index 1 or 2, unicast or broadcast (Table 17-1). -/
def dataSlot (ch idx : Nat) (bcast : Bool) : Nat := 8 * ch + (if bcast then 2 else 0) + (idx - 1)

/-- Is a slot's key held for use by an inline instance? -/
def State.keyHeld (s : State) (i : Nat) : Bool := (s.slot i).state == 1

/-- Bytes of a 128-bit key, byte 0 the most significant. -/
def keyOf (k : BitVec 128) : List Nat := beNat 16 k.toNat

/-- Firmware loads a channel's integrity keys and key encryption key (R130, R500). -/
def State.loadDerived (s : State) (ch : Nat) (msk : Option (List Byte)) : State :=
  [0, 1, 2].foldl (fun s k => s.loadKey (8 * ch + 4 + k) 0 0 (keyOf (Config.derivedKey k msk))) s

/-- A channel's derived key of kind k (0 PLOAM integrity, 1 OMCI integrity, 2 key encryption) out of its slot; from a slot that
holds none, the one that firmware derives (R130). -/
def State.chKey (s : State) (ch k : Nat) : State × List Nat :=
  match s.readKey (8 * ch + 4 + k) with
  | (s, some key) => (s, key)
  | (s, none) => (s, keyOf (Config.derivedKey k (s.ch ch).msk))

/-- The MIC of an OMCI message (R132, R133): AES-CMAC of the direction byte (1 downstream, 2 upstream) and the content. -/
def omciMic (dir : Nat) (key : List Nat) (body : List Byte) : List Byte :=
  ((aesCmac key (dir :: body.map (·.toNat))).take 4).map (BitVec.ofNat 8)

/-- An XGEM payload encrypted or decrypted with AES-CTR (R131, R149); dir 0 downstream, 1 upstream. -/
def xgemCrypt (key : List Nat) (dir mode sfc at_ : Nat) (data : List Byte) : List Byte :=
  (aesCtr key (keyOf (Config.counterBlock dir mode sfc at_)) (data.map (·.toNat))).map (BitVec.ofNat 8)

/-! The request instance. -/

/-- CIPH_RQ_HEAD. -/
def State.rqHead (s : State) : Nat := s.ciph.rqHead

/-- Requests posted and not taken. -/
def State.rqPosted (s : State) : Nat := (s.fld F.CIPH_RQ_TAIL_TAIL + 65536 - s.rqHead) % 65536

/-- A 32-byte reply (Table 17-6). -/
def rqReply (result flags slot len : Nat) (ivOut : List Nat) (cookie : List Byte) : List Byte :=
  leBytes 1 result ++ leBytes 1 flags ++ leBytes 2 slot ++ leBytes 4 len ++ fitB 16 (ivOut.map (BitVec.ofNat 8)) ++
    fitB 8 cookie

/-- What a request ends with. -/
structure RqEnd where
  result : Nat
  flags : Nat := 0
  len : Nat := 0
  ivOut : List Nat := []
  deriving DecidableEq, Repr

/-- A request ends (R490): its reply is written, HEAD advances, a message goes out when NOTICE is 1. -/
def State.endRequest (s : State) (desc : List Byte) (e : RqEnd) : State :=
  let h := s.rqHead
  let base := s.addr64 R.CIPH_RP_BASE_LO R.CIPH_RP_BASE_HI
  let s := s.emit (.hostWrite 4 (base + 32 * (h % 256))
    (rqReply e.result e.flags (leAt desc 2 2) e.len e.ivOut (sliceB desc 56 8)))
  let s := { s with ciph := { s.ciph with rqHead := (h + 1) % 65536 } }
  let s := s.bump C.CIPH_REQ
  if bit (leAt desc 1 1) 0 then s.emit (.msix 4 (s.fld F.CIPH_RQ_CFG_VECTOR)) else s

/-- Does a descriptor break Table 17-4 for an operation? -/
def badRequest (op : Nat) (d : List Byte) : Bool :=
  let slot := leAt d 2 2
  let aad := leAt d 8 2
  let iv := leAt d 40 16
  decide (1 < leAt d 1 1) || decide (slot < 32) || decide (1023 < slot) || decide (16777215 < leAt d 4 4) ||
    (op != 3 && op != 4 && aad != 0) || leAt d 10 6 != 0 || (decide (5 ≤ op) && leAt d 24 8 != 0) ||
    (aad == 0 && leAt d 32 8 != 0) || (op != 2 && op != 4 && iv != 0) || (op == 4 && leAt d 52 4 != 0)

/-- Usage code that an operation needs (Table 17-5). -/
def usageOf (op : Nat) : Nat := if op ≤ 2 then 0 else if op ≤ 4 then 1 else 2

/-- What an operation computes with a key: bytes written at DST, and the end. -/
def rqCompute (op : Nat) (key iv data aad tag : List Nat) : List Nat × RqEnd :=
  let n := data.length
  match op with
  | 1 => (aesCtr key (iv ++ [0, 0, 0, 0]) data, { result := 0, len := n, ivOut := iv ++ [0, 0, 0, 0] })
  | 2 => (aesCtr key iv data, { result := 0, len := n })
  | 3 =>
    let c := gcmCtr key iv data
    (c ++ gcmTag key iv aad c, { result := 0, len := n, ivOut := iv ++ [0, 0, 0, 0] })
  | 4 =>
    let ok := gcmTag key iv aad data == tag
    (gcmCtr key iv data, { result := if ok then 0 else 1, flags := if ok then 0 else 1, len := n })
  | 5 => ([], { result := 0, len := n, ivOut := aesCmac key data })
  | _ => ([], { result := if aesCmac key data == tag then 0 else 1, len := n })

/-- Does byte 0 of a descriptor name an operation of Table 17-5 other than op? -/
def otherOp (op : Nat) (desc : List Byte) : Bool :=
  let o := leAt desc 0 1
  o != op && decide (1 ≤ o ∧ o ≤ 6)

/-- One request of the ring (R490 to R495, R498): desc its 64 bytes, whose OP is the row's, or one that Table 17-5 does not
define; data, aad, tag the bytes read from host memory; fail, when a host memory access fails, the output bytes written
before. -/
def State.request (s : State) (op : Nat) (desc data aad tag : List Byte) (fail : Option Nat) : State :=
  if s.flag F.CIPH_RQ_CFG_ENABLE ∧ 0 < s.rqPosted ∧ otherOp op desc = false then
    let i := leAt desc 2 2
    let slot := s.slot i
    if s.ciph.entropyFail then s.endRequest desc { result := 7 }
    else if leAt desc 0 1 ≠ op ∨ badRequest op desc then (s.bump C.CIPH_BAD_REQ).endRequest desc { result := 4 }
    else if slot.state = 0 ∨ slot.state = 3 then s.endRequest desc { result := 2 }
    else if slot.usage ≠ usageOf op then (s.bump C.CIPH_BAD_REQ).endRequest desc { result := 4 }
    else if slot.state = 2 ∧ (op = 1 ∨ op = 3) then s.endRequest desc { result := 3 }
    else
      match s.readKey i with
      | (s, none) => s.endRequest desc { result := 2 }
      | (s, some key) =>
        let enc := op == 1 || op == 3
        let c := slot.counter
        let iv := if enc then beNat 4 Config.fuseSalt.toNat ++ beNat 8 c
          else if op = 2 then (sliceB desc 40 16).map (·.toNat) else (sliceB desc 40 12).map (·.toNat)
        let nat := fun (n : Nat) (l : List Byte) => (fitB n l).map (·.toNat)
        let r := rqCompute op key iv (nat (leAt desc 4 4) data) (nat (leAt desc 8 2) aad) (nat 16 tag)
        let s := if enc then
            let s := s.setSlot i { s.slot i with counter := (c + 1) % 2 ^ 64 }
            if c = 2 ^ 64 - 1 then (s.setSlot i { s.slot i with state := 2 }).raiseRow 0x00A4 2 17 3 4 [(2, i)] else s
          else s
        let out := r.1.map (BitVec.ofNat 8)
        let write := fun (s : State) (bs : List Byte) =>
          if bs.isEmpty then s else s.emit (.hostWrite 4 (leAt desc 24 8) bs)
        match fail with
        | some n =>
          let s := (write s (out.take n)).bump C.CIPH_DMA_ERR
          (s.endRequest desc { result := 5, flags := 1 }).setFld F.CIPH_RQ_CFG_ENABLE 0
        | none =>
          let s := write s out
          let s := if r.2.result = 1 then s.bump C.CIPH_AUTH_FAIL else s
          s.endRequest desc r.2
  else s

end Sys2Proof.Machine
end

