-- ==== Sys2Proof/Machine/Cipher.lean ====
section
/-! DEFINITION. Commands of the cipher engine (chapter 17). Choices: log 25. -/

namespace Sys2Proof.Machine

/-- Both an accepted and a refused key command clear the staging registers (R485). -/
def State.clearStaging (s : State) : State :=
  (List.range 8).foldl (fun s i => s.wr (R.CIPH_KEY_DATA i) 0) (s.wr R.CIPH_KEY_SEL 0)

/-- A key command is refused (R485, Table 17-9): cause 0 slot, 1 length, 2 usage. -/
def State.refuseKey (s : State) (cmd cause : Nat) : State :=
  let slot := s.fld F.CIPH_KEY_SEL_SLOT
  ((s.setFld F.CIPH_STATUS_KEY_REFUSED 1).raiseRow 0x00A4 2 17 4 4 [(2, slot), (1, cmd), (1, cause)]).clearStaging

/-- The staged key bytes. -/
def State.stagedKey (s : State) : List Nat :=
  ((List.range 8).flatMap (fun i => leBytes 4 (s.rd (R.CIPH_KEY_DATA i)).toNat)).map (·.toNat)

/-- KEY_COMMIT (R485, R486). -/
def execKeyCommit (s : State) : Host.Outcome State Fault Refusal :=
  let slot := s.fld F.CIPH_KEY_SEL_SLOT
  let len := s.fld F.CIPH_KEY_SEL_LEN
  let usage := s.fld F.CIPH_KEY_SEL_USAGE
  if slot < 32 then .next (s.refuseKey 1 0)
  else if len = 3 then .next (s.refuseKey 1 1)
  else if usage = 3 then .next (s.refuseKey 1 2)
  else .next (s.loadKey slot len usage s.stagedKey).clearStaging

/-- KEY_ERASE (R485, R486). -/
def execKeyErase (s : State) : Host.Outcome State Fault Refusal :=
  let slot := s.fld F.CIPH_KEY_SEL_SLOT
  if slot < 32 then .next (s.refuseKey 2 0) else .next (s.eraseKey slot).clearStaging

/-- CIPH_UNWRAP (R488, R489). -/
def execCiphUnwrap (p : Pkt) (s : State) : Host.Outcome State Fault Refusal :=
  runCmd 0x5001 false (if p.length = 10 ∨ p.length = 12 ∨ p.length = 14 then none else some 10)
    (decide (32 ≤ p.target.toNat) && decide (p.target.toNat < 1024)) (fun _ s =>
    let b := p.bytes
    let len := leAt b 5 1
    let usage := leAt b 6 1
    let nat := fun (l : List Byte) => l.map (·.toNat)
    if beAt b 0 4 ≠ 0x46563434 ∨ leAt b 4 1 ≠ 1 ∨ 2 < len ∨ 2 < usage ∨ leAt b 7 1 ≠ 0 ∨ leAt b 10 2 ≠ 0 then
      refuse stBadParam s 1
    else if b.length ≠ 16 + 24 + 8 * len then refuse stBadParam s 2
    else if crc32 (nat (b.take 12 ++ b.drop 16)) ≠ beAt b 12 4 then refuse stBadParam s 3
    else
      let r := unwrapKey (beNat 32 Config.wrapKey.toNat) (nat (b.drop 16))
      if natBe r.1 ≠ 0xA6A6A6A6A6A6A6A6 then refuse stBadParam s 4
      else finish (s.loadKey p.target.toNat len usage r.2)) p s

/-- CIPH_SLOT_READ: state, length, usage, counter (Table 20-6). -/
def execCiphSlotRead (p : Pkt) (s : State) : Host.Outcome State Fault Refusal :=
  runCmd 0x5002 false (lenIs 0 p) (decide (p.target.toNat < 1024)) (fun _ s =>
    let k := s.slot p.target.toNat
    finish s (leBytes 1 k.state ++ leBytes 1 k.len ++ leBytes 1 k.usage ++ leBytes 5 0 ++ leBytes 8 k.counter)) p s

/-- CIPH_RQ: CIPH_RQ_CFG and the ring addresses (R501). -/
def execCiphRq (p : Pkt) (s : State) : Host.Outcome State Fault Refusal :=
  runCmd 0x5003 false (lenIs 5 p) (p.target == 0) (fun _ s =>
    if p.w 1 % 64 ≠ 0 ∨ p.w 3 % 32 ≠ 0 then refuse stBadParam s
    else finish (s.wrRun R.CIPH_RQ_CFG p.payload)) p s

/-- CIPH_RQ_TAIL_WRITE (R490). -/
def execCiphRqTailWrite (v : BitVec 16) (s : State) : Host.Outcome State Fault Refusal :=
  if 256 < (v.toNat + 65536 - s.rqHead) % 65536 then .next (s.bump C.CIPH_BAD_REQ)
  else .next (s.setFld F.CIPH_RQ_TAIL_TAIL v.toNat)

/-- CTR_ENCRYPT: request OP 1. -/
def execCtrEncrypt (desc data : List Byte) (fail : Option Nat) (s : State) : Host.Outcome State Fault Refusal :=
  .next (s.request 1 desc data [] [] fail)

/-- CTR_DECRYPT: request OP 2. -/
def execCtrDecrypt (desc data : List Byte) (fail : Option Nat) (s : State) : Host.Outcome State Fault Refusal :=
  .next (s.request 2 desc data [] [] fail)

/-- GCM_ENCRYPT: request OP 3. -/
def execGcmEncrypt (desc data aad : List Byte) (fail : Option Nat) (s : State) : Host.Outcome State Fault Refusal :=
  .next (s.request 3 desc data aad [] fail)

/-- GCM_DECRYPT: request OP 4; tag is read at SRC + LEN. -/
def execGcmDecrypt (desc data aad tag : List Byte) (fail : Option Nat) (s : State) : Host.Outcome State Fault Refusal :=
  .next (s.request 4 desc data aad tag fail)

/-- CMAC_GENERATE: request OP 5. -/
def execCmacGenerate (desc data : List Byte) (fail : Option Nat) (s : State) : Host.Outcome State Fault Refusal :=
  .next (s.request 5 desc data [] [] fail)

/-- CMAC_VERIFY: request OP 6; tag is read at SRC + LEN. -/
def execCmacVerify (desc data tag : List Byte) (fail : Option Nat) (s : State) : Host.Outcome State Fault Refusal :=
  .next (s.request 6 desc data [] tag fail)

/-- ENTROPY_HEALTH_FAIL: a health test fails (R498); the condition lasts until PORST_N. -/
def execEntropyHealthFail (test : Byte) (s : State) : Host.Outcome State Fault Refusal :=
  if s.ciph.entropyFail then .next s
  else .next (({ s with ciph := { s.ciph with entropyFail := true } }).raiseRow 0x00A4 0 17 1 4 [(1, test.toNat)])

/-- CIPH_STAT_SNAP (R501). -/
def execCiphStatSnap (s : State) : Host.Outcome State Fault Refusal := .next (s.copyBank 0 ciphCtrs)

end Sys2Proof.Machine
end

