-- ==== Sys2Proof/Machine/SchedOps.lean ====
section
/-! DEFINITION. The queue manager's operations: nodes, shapers, admission, choice of the next frame (R433 to R449).
Choices: log 14. -/

namespace Sys2Proof.Machine

/-- A level-1 node. -/
def State.n1 (s : State) (i : Nat) : Node1 := sparseGet (fun _ => {}) s.sched.node1 i
/-- Replace a level-1 node. -/
def State.setN1 (s : State) (i : Nat) (n : Node1) : State :=
  { s with sched := { s.sched with node1 := sparseSet (fun _ => {}) s.sched.node1 i n } }

/-- A level-2 node at reset: unattached; nodes 504-511 belong to the host node (R433). -/
def Node2.reset (i : Nat) : Node2 := if 504 ≤ i then { parent := 28 } else {}
/-- A level-2 node. -/
def State.n2 (s : State) (i : Nat) : Node2 := sparseGet Node2.reset s.sched.node2 i
/-- Replace a level-2 node. -/
def State.setN2 (s : State) (i : Nat) (n : Node2) : State :=
  { s with sched := { s.sched with node2 := sparseSet Node2.reset s.sched.node2 i n } }

/-- A queue. -/
def State.sq (s : State) (q : Nat) : SQueue := sparseGet (fun _ => {}) s.sched.queue q
/-- Replace a queue. -/
def State.setSq (s : State) (q : Nat) (v : SQueue) : State :=
  { s with sched := { s.sched with queue := sparseSet (fun _ => {}) s.sched.queue q v } }

/-- A line channel context entry. -/
def State.lineCtx (s : State) (i : Nat) : LineCtx := sparseGet (fun _ => {}) s.sched.lines i
/-- Replace a line channel context entry. -/
def State.setLine (s : State) (i : Nat) (l : LineCtx) : State :=
  { s with sched := { s.sched with lines := sparseSet (fun _ => {}) s.sched.lines i l } }

/-- A MAC. -/
def State.macAt (s : State) (m : Nat) : Mac := sparseGet (fun _ => {}) s.mac m
/-- Replace a MAC. -/
def State.setMac (s : State) (m : Nat) (x : Mac) : State := { s with mac := sparseSet (fun _ => {}) s.mac m x }

/-- The PKT cycle moves on to at (never back). -/
def State.pktTo (s : State) (cyc : Nat) : State := { s with sched := { s.sched with pkt := max s.sched.pkt cyc } }

/-! Shapers (R437, R438, R440). Credits are in 10^-7 byte. -/

/-- Credit brought up to a PKT cycle: it grows at RATE and never exceeds BURST. -/
def Shaper.bring (h : Shaper) (cyc : Nat) : Shaper :=
  if h.en then
    { h with credit := min ((h.burst * 10000000 : Nat) : Int) (h.credit + ((h.rate * (cyc - h.asOf) : Nat) : Int)),
             asOf := max h.asOf cyc }
  else { h with asOf := max h.asOf cyc }

/-- Does a shaper let its element be eligible? -/
def Shaper.ok (h : Shaper) : Bool := !h.en || decide (0 ≤ h.credit)

/-- Subtract a charged length in bytes. -/
def Shaper.charge (h : Shaper) (bytes : Nat) : Shaper :=
  if h.en then { h with credit := h.credit - ((bytes * 10000000 : Nat) : Int) } else h

/-- A new shaper field over an old shaper (R437, R440): credit kept, cut to the new BURST; 0 where the shaper was off. -/
def Shaper.change (old : Shaper) (en : Bool) (rate burst : Nat) (overhead : Int) (cyc : Nat) : Shaper :=
  let o := old.bring cyc
  let c : Int := if old.en then o.credit else 0
  { en := en, rate := rate, burst := burst, overhead := overhead, asOf := cyc,
    credit := min ((burst * 10000000 : Nat) : Int) c }

/-- Read a shaper field (Table 15-2). -/
def shaperFields (bs : List Byte) : Bool × Nat × Nat × Int :=
  let w := leAt bs 0 4
  let b := leAt bs 4 3
  let o := signedOf 8 (leAt bs 7 1)
  (bit w 31, w % 2 ^ 26, if 1536 ≤ b ∧ b ≤ 1048576 then b else 16384, if -32 ≤ o ∧ o ≤ 63 then o else 0)

/-- Are the bits that Table 15-2 gives as 0 all 0? -/
def shaperOk (bs : List Byte) : Bool := bitsOf (leAt bs 0 4) 30 26 == 0

/-- Frame bytes for charging (R438): stored length plus 4 for the FCS, except under the host node. -/
def chargeBytes (node1 : Nat) (f : Frame) : Nat := if node1 = 28 then f.bytes.length else f.bytes.length + 4

/-- Is lane test accounting in force for a level-1 node (R439)? testLanes is the mask of lanes under test. -/
def State.testNode (s : State) (node1 : Nat) : Bool := decide (node1 < 24) && bit s.testLanes (16 + node1)

/-- Is the accounting mode in force for a node (R439)? -/
def State.accounting (s : State) (node1 : Nat) : Bool := s.sched.acct != 0 || s.testNode node1

/-- Charged length under one shaper (R438). -/
def State.charged (s : State) (node1 : Nat) (h : Shaper) (f : Frame) : Nat :=
  let n := chargeBytes node1 f
  if s.accounting node1 then n else ((n : Int) + h.overhead).toNat

/-! Queues. -/

/-- Depth of a queue in bytes. -/
def SQueue.depth (q : SQueue) : Nat := (q.frames.map (fun x => x.frame.bytes.length)).sum

/-- Colour limit of a queue in bytes (R444). -/
def SQueue.limit (q : SQueue) (colour : Nat) : Nat :=
  if colour = 0 then q.maxKb * 1024 else if colour = 1 then q.maxKb * 1024 * q.yelPct / 100
  else q.maxKb * 1024 * q.redPct / 100

/-- Buffer bytes of a frame: the size of its pool's buffers (R445). -/
def bufBytes (f : Frame) : Nat := poolSize (poolOf f.buf)

/-- Is a level-1 node held by pause, a retrain or a link that is down (R349, R357)? -/
def State.held1 (s : State) (node1 : Nat) : Bool :=
  if node1 < 24 then
    let m := s.macAt node1
    m.paused || !m.link || m.stage != 0
  else false

/-- Is a queue of an Ethernet node held by PFC: queue i modulo 8 carries priority i (R349)? -/
def State.heldPfc (s : State) (node1 q : Nat) : Bool := decide (node1 < 24) && bit (s.macAt node1).pfc (q % 8)

/-- Allocation context entries in use that name a level-2 node on a channel. -/
def State.allocOfNode (s : State) (ch node2 : Nat) : Option AllocCtx :=
  (s.alloc.find? (fun p => p.2.state != 0 && p.2.channel == ch && !p.2.host.isEmpty && leAt p.2.host 0 2 == node2)).map (·.2)

/-- May frames enter a level-2 node of a level-1 node (R435)? -/
def State.attached (s : State) (node1 node2 : Nat) : Bool :=
  (s.n2 node2).parent == node1 &&
    (!(decide (24 ≤ node1) && decide (node1 ≤ 27)) ||
      match s.allocOfNode (node1 - 24) node2 with
      | some a => a.state == 2 || a.state == 3
      | none => true)

/-- Selector value of a frame at a level-1 node, and the level-2 node (R435). -/
def State.selectNode (s : State) (node1 : Nat) (f : Frame) : Nat × Nat :=
  let n := s.n1 node1
  let v := if n.sel = 1 then f.fid else if n.sel = 2 then f.vid0 else 0
  let i := (v + 4096 - n.selBase % 4096) % 4096
  (v, if n.sel = 0 then n.nodeBase else if i < n.nodes then n.nodeBase + i else n.nodeBase)

/-- Count a frame dropped at a queue (R444, R446, SCH_QUEUE_READ, Table 15-4). -/
def State.queueDrop (s : State) (q : Nat) : State :=
  let v := s.sq q
  s.setSq q { v with dropped := min (v.dropped + 1) 0xFFFFFFFF, setDrops := min (v.setDrops + 1) 65535 }

/-- Put a frame into a queue of a node, or drop it (R444, R445, R449). -/
def State.takeIn (s : State) (node1 q : Nat) (f : Frame) (bucket : Option (Nat × Nat)) : State :=
  let n2 := q / 8
  let v := s.sq q
  let n := s.n1 node1
  if (s.n2 n2).lineHold = 2 then
    let s := (s.bump C.SCH_DROP_DOWN).queueDrop q
    let s := match (s.n2 n2).line with
      | some l => s.setLine l { s.lineCtx l with discarded := ((s.lineCtx l).discarded + 1) % 2 ^ 32 }
      | none => s
    s.finishDest f.buf agQm 0
  else if v.limit f.colour < v.depth + f.bytes.length then
    ((s.bump C.SCH_DROP_FULL).queueDrop q).finishDest f.buf agQm 0
  else if n.shareKb * 1024 < n.held + bufBytes f then
    let s := (s.bump C.SCH_DROP_SHARE).queueDrop q
    let s := if n.shareTold then s
      else (s.setN1 node1 { n with shareTold := true }).raiseRow 0x0084 2 15 1 3 [(1, node1), (2, n.shareKb)]
    s.finishDest f.buf agQm 0
  else
    let s := s.setSq q { v with frames := v.frames ++ [⟨f, node1, s.sched.pkt / 125, bucket, 0⟩] }
    (s.setN1 node1 { n with held := n.held + bufBytes f }).bump C.SCH_ENQ

/-- A frame whose node is not attached (R435): counted, told once per vector cycle. -/
def State.noNode (s : State) (node1 sel : Nat) (f : Frame) : State :=
  let s := s.bump C.SCH_NO_NODE
  let s := if s.sched.noNodeTold then s
    else ({ s with sched := { s.sched with noNodeTold := true } }).raiseRow 0x0084 2 15 2 3 [(1, node1), (2, sel)]
  s.finishDest f.buf agQm 0

/-- Enqueue under a level-2 node that must be attached. -/
def State.enqueueAt (s : State) (node1 node2 sel : Nat) (f : Frame) (bucket : Option (Nat × Nat)) : State :=
  if s.attached node1 node2 then s.takeIn node1 (8 * node2 + f.queue % 8) f bucket else s.noNode node1 sel f

/-! Choice of the next frame (R441). -/

/-- An element that competes in a deficit round robin: its number, deficit, quantum and the bytes of its next frame. -/
structure Drr where
  no : Nat
  deficit : Int
  quantum : Nat
  need : Nat
  deriving DecidableEq, Repr

/-- Visits an element needs before its deficit covers its next frame, at least one. -/
def Drr.visits (d : Drr) : Nat :=
  max 1 (ceilDiv ((d.need : Int) - d.deficit).toNat (max 1 d.quantum))

/-- Elements in visiting order, beginning after the one numbered p, wrapping. -/
def drrOrder (p : Nat) (l : List Drr) : List Drr :=
  l.filter (fun d => decide (p < d.no)) ++ l.filter (fun d => decide (d.no ≤ p))

/-- First element of least visits. -/
def drrBest : List Drr → Option Drr
  | [] => none
  | d :: ds =>
    match drrBest ds with
    | none => some d
    | some b => if d.visits ≤ b.visits then some d else some b

/-- Deficits after the winner w, in visiting order: those before it have had its visits, those after it one fewer. -/
def drrPay (w : Drr) : Bool → List Drr → List (Nat × Int)
  | _, [] => []
  | past, d :: ds =>
    let n := if past then w.visits - 1 else w.visits
    (d.no, d.deficit + ((n * d.quantum : Nat) : Int)) :: drrPay w (past || d.no == w.no) ds

/-- One decision of a deficit round robin with the pointer at p: the winner and the deficits of all elements before the
frame is taken. The element at the pointer goes on while its deficit covers its next frame. -/
def drrChoose (p : Nat) (l : List Drr) : Option (Nat × List (Nat × Int)) :=
  match l.find? (fun d => d.no == p && decide ((d.need : Int) ≤ d.deficit)) with
  | some d => some (d.no, l.map (fun d => (d.no, d.deficit)))
  | none =>
    let o := drrOrder p l
    match drrBest o with
    | none => none
    | some w => some (w.no, drrPay w false o)

/-- Does a device-to-host queue hold a frame at its head, so that the frames behind it wait in the queue manager (R422)? -/
def State.headTaken (s : State) (node1 q : Nat) : Bool :=
  node1 == 28 && (sparseGet (fun _ => {}) s.chan.dq (q - 4032)).front.isSome

/-- Is a queue eligible on its own account (R441)? -/
def State.queueEligible (s : State) (node1 q : Nat) : Bool :=
  let v := s.sq q
  !v.frames.isEmpty && (v.shaper.bring s.sched.pkt).ok && !s.heldPfc node1 q && !s.headTaken node1 q

/-- The queue that a level-2 node serves next, and the deficits of its round robin queues (R441). -/
def State.pickQueue (s : State) (node1 node2 : Nat) : Option (Nat × List (Nat × Int)) :=
  let n := s.n2 node2
  let qs := (List.range 8).filter (fun k => s.queueEligible node1 (8 * node2 + k))
  match (qs.filter (fun k => decide (k < n.spCount))).head? with
  | some k => some (k, [])
  | none =>
    drrChoose n.drrNext (qs.map (fun k =>
      let v := s.sq (8 * node2 + k)
      ⟨k, v.deficit, v.weight * 64, match v.frames with
        | [] => 0
        | x :: _ => chargeBytes node1 x.frame⟩))

/-- Apply deficits to the queues of a level-2 node. -/
def State.payQueues (s : State) (node2 : Nat) : List (Nat × Int) → State
  | [] => s
  | (k, d) :: ds =>
    let q := 8 * node2 + k
    (s.setSq q { s.sq q with deficit := d }).payQueues node2 ds

/-- Apply deficits to level-2 nodes. -/
def State.payNodes (s : State) : List (Nat × Int) → State
  | [] => s
  | (k, d) :: ds => (s.setN2 k { s.n2 k with deficit := d }).payNodes ds

/-- Take the head frame of a queue: the counters, the depth statistics, the share; the deficit pays for the frame, and is
0 when the queue has emptied. -/
def State.takeHead (s : State) (node1 q : Nat) : State :=
  let v := s.sq q
  match v.frames with
  | [] => s
  | x :: xs =>
    let soj := min 65535 ((s.sched.pkt / 125 - x.enqAt) / 10)
    let d := if xs.isEmpty then 0 else v.deficit - (chargeBytes node1 x.frame : Int)
    let s := s.setSq q { v with frames := xs, deficit := d, maxSojourn := max v.maxSojourn soj }
    let n := s.n1 node1
    (s.setN1 node1 { n with held := n.held - bufBytes x.frame }).bump C.SCH_DEQ

/-- Charge a frame to the shapers of its queue, level-2 node and level-1 node (R438, R442: at PON nodes the queue's
alone), and to the line channel's byte count (Table 15-3). -/
def State.chargeAll (s : State) (node1 q : Nat) (f : Frame) : State :=
  let cyc := s.sched.pkt
  let v := s.sq q
  let hq := v.shaper.bring cyc
  let s := s.setSq q { v with shaper := hq.charge (s.charged node1 hq f) }
  let n2 := s.n2 (q / 8)
  let s := match n2.line with
    | some l => s.setLine l { s.lineCtx l with bytes := ((s.lineCtx l).bytes + chargeBytes node1 f) % 2 ^ 64 }
    | none => s
  if 24 ≤ node1 ∧ node1 ≤ 27 then s
  else
    let h2 := n2.shaper.bring cyc
    let s := s.setN2 (q / 8) { n2 with shaper := h2.charge (s.charged node1 h2 f) }
    let n1 := s.n1 node1
    let h1 := n1.shaper.bring cyc
    s.setN1 node1 { n1 with shaper := h1.charge (s.charged node1 h1 f) }

/-- Serve one level-2 node: choose its queue and take the frame. -/
def State.serveNode2 (s : State) (node1 node2 : Nat) : State × Option (Nat × QFrame) :=
  match s.pickQueue node1 node2 with
  | none => (s, none)
  | some (k, ds) =>
    let q := 8 * node2 + k
    let s := s.payQueues node2 ds
    let s := if ds.isEmpty then s else s.setN2 node2 { s.n2 node2 with drrNext := k }
    match (s.sq q).frames with
    | [] => (s, none)
    | x :: _ => (((s.takeHead node1 q).chargeAll node1 q x.frame), some (q, x))

/-- Level-2 nodes attached to a level-1 node that have an eligible queue, their shaper's leave and no line hold. -/
def State.candidates (s : State) (node1 : Nat) (ok : Nat → Bool) : List Nat :=
  ((s.sched.queue.map (fun p => p.1 / 8)).eraseDups).filter (fun k =>
    (s.n2 k).parent == node1 && ((s.n2 k).shaper.bring s.sched.pkt).ok && (s.n2 k).lineHold == 0 && ok k &&
      (s.pickQueue node1 k).isSome)

/-- The bytes of the frame that a level-2 node would serve next. -/
def State.nextBytes (s : State) (node1 node2 : Nat) : Nat :=
  match s.pickQueue node1 node2 with
  | none => 0
  | some (k, _) =>
    match (s.sq (8 * node2 + k)).frames with
    | [] => 0
    | x :: _ => chargeBytes node1 x.frame

/-- DEQUEUE at a level-1 node (R441): the next eligible frame, charged; ok restricts the level-2 nodes. -/
def State.serveNode1 (s : State) (node1 : Nat) (ok : Nat → Bool) : State × Option (Nat × QFrame) :=
  let n := s.n1 node1
  if s.held1 node1 || !(n.shaper.bring s.sched.pkt).ok then (s, none)
  else
    let l := (s.candidates node1 ok).map (fun k =>
      (⟨k, (s.n2 k).deficit, (s.n2 k).weight * 64, s.nextBytes node1 k⟩ : Drr))
    match drrChoose n.drrNext l with
    | none => (s, none)
    | some (k, ds) =>
      let need := s.nextBytes node1 k
      let s := s.payNodes ds
      let s := s.setN1 node1 { s.n1 node1 with drrNext := k }
      let s := s.setN2 k { s.n2 k with deficit := (s.n2 k).deficit - (need : Int) }
      s.serveNode2 node1 k

/-- A queue manager queue serves a device-to-host queue (R433, R436). -/
def dqQueue (q : Nat) : Nat := 4032 + q

/-- Firmware passes a record to host software on a device-to-host queue (R117, R169): it takes a buffer of the control
cores and goes to the queue manager; without a buffer it is dropped and counted at the queue. -/
def State.hostRecord (s : State) (q src : Nat) (bs : List Byte) : State :=
  match s.allocBuf agCore bs.length with
  | (s, .refused) => s.queueDrop (dqQueue q)
  | (s, .got id) =>
    let s := (s.handover id agCore 0 agQm).setDests id 1
    { s with sched := { s.sched with arrivals := s.sched.arrivals ++
        [{ frame := { buf := id, bytes := bs, src := src }, node1 := 28, dq := q }] } }

end Sys2Proof.Machine
end

