-- ==== Sys2Proof/Machine/TimeOps.lean ====
section
/-! DEFINITION. The timebase's operations (R455 to R464). Times are counted in units of 2^-40 ns. Choices: log 24. -/

namespace Sys2Proof.Machine

/-- Units of one second. -/
abbrev secUnits : Nat := 1000000000 * 2 ^ 40

/-- The modulus of time: seconds are taken modulo 2^48 (R456). -/
abbrev timeModulus : Nat := 2 ^ 48 * secUnits

/-- The time at a raw count, in units (R456). -/
def TimeBase.at (t : TimeBase) (r : Nat) : Nat := (r * t.inc + t.offset) % timeModulus

/-- Seconds of a time. -/
def timeSec (u : Nat) : Nat := u / secUnits
/-- Nanoseconds of a time. -/
def timeNs (u : Nat) : Nat := u % secUnits / 2 ^ 40
/-- Fraction of a time, truncated to 2^-16 ns. -/
def timeFrac (u : Nat) : Nat := u % 2 ^ 40 / 2 ^ 24

/-- A time from seconds, nanoseconds and fraction. -/
def timeOf (sec ns frac : Nat) : Nat := sec * secUnits + ns * 2 ^ 40 + frac * 2 ^ 24

/-- Replace the timebase. -/
def State.setTime (s : State) (t : TimeBase) : State := { s with time := t }

/-- The raw counter has reached r (R455: never back). -/
def State.rawTo (s : State) (r : Nat) : State := s.setTime { s.time with raw := max s.time.raw r }

/-- A capture record (Table 16-3): kind, source, raw count, the time u at it, the tag's bytes 24 to 31. -/
def capRecord (kind source raw u : Nat) (tag : List Byte) : List Byte :=
  leBytes 8 raw ++ leBytes 6 (timeSec u) ++ leBytes 4 (timeNs u) ++ leBytes 2 (timeFrac u) ++ leBytes 1 kind ++
    leBytes 1 source ++ leBytes 2 0 ++ fitB 8 tag

/-- A capture enters the FIFO of 512, or is discarded and counted (R462, R463); the answer says whether it entered. u is the
time at its raw count, formed under the correction in force at that count (R459). -/
def State.captureAt (s : State) (kind source raw u : Nat) (tag : List Byte) : State × Bool :=
  let t := s.time
  if t.fifo.length < 512 then (s.setTime { t with fifo := t.fifo ++ [capRecord kind source raw u tag] }, true)
  else
    let s := s.bump C.TIME_CAP_LOST
    if t.capLostTold then (s, false)
    else ((s.setTime { s.time with capLostTold := true }).raiseRow 0x0090 2 16 2 5 [(1, kind), (1, source)], false)

/-- A capture at the raw count reached. -/
def State.capture (s : State) (kind source : Nat) (tag : List Byte) : State × Bool :=
  s.captureAt kind source s.time.raw (s.time.at s.time.raw) tag

/-- The staged INC (TIME_ARG_INC). -/
def State.argInc (s : State) : Nat := s.fld F.TIME_ARG_INC_HI_INC * 2 ^ 32 + s.fld F.TIME_ARG_INC_LO_INC

/-- The staged seconds (TIME_ARG_SEC). -/
def State.argSec (s : State) : Nat := s.fld F.TIME_ARG_SEC_HI_SEC * 2 ^ 32 + s.fld F.TIME_ARG_SEC_LO_SEC

/-- OFFSET plus the staged argument (Table 16-1, operation 2): seconds modulo 2^48 stand for signed seconds. -/
def State.adjusted (s : State) (offset : Nat) : Nat :=
  (offset + timeOf s.argSec (s.fld F.TIME_ARG_NS_NS) (s.fld F.TIME_ARG_FRAC_FRAC)) % timeModulus

/-- OFFSET that keeps the time at a under a new INC (Table 16-1, operation 1). -/
def TimeBase.reInc (t : TimeBase) (a inc : Nat) : Nat :=
  ((t.offset : Int) + (a : Int) * ((t.inc : Int) - (inc : Int)) |>.emod (timeModulus : Int)).toNat

/-- Is an INC within R457? -/
def incOk (inc : Nat) : Bool := decide (1405967508669 ≤ inc ∧ inc ≤ 1408782258437)

/-- A correction operation is refused whole (R457, Table 16-6 TIME_ARG_NS). -/
def State.refuseTime (s : State) (op : Nat) : State :=
  (s.setFld F.TIME_STATUS_INC_REFUSED 1).raiseRow 0x0090 2 16 4 5 [(1, op), (8, s.argInc)]

/-- Has the time now passed an instant, in the half of the circle of seconds behind it? -/
def passed (now at_ : Nat) : Bool :=
  let behind := (now + timeModulus - at_ % timeModulus) % timeModulus
  behind != 0 && decide (behind < timeModulus / 2)

/-- A correction makes late the launch entries whose instants the time has passed (R471). -/
def TimeBase.markLate (t : TimeBase) : TimeBase :=
  let now := t.at t.raw
  { t with launch := sparseMap (fun _ => []) (fun _ l => l.map (fun x =>
      { x with late := x.late || passed now (timeOf x.sec x.ns 0) })) t.launch }

/-- A write of TIME_CMD that lands at raw count a (R457 to R459). -/
def State.timeCmd (s : State) (op a : Nat) : State :=
  if max s.time.raw a < s.time.busyUntil then s
  else
    let s := s.rawTo a
    let a := s.time.raw
    let badInc := (op == 1 || op == 4) && !incOk s.argInc
    let badNs := (op == 2 || op == 3 || op == 4) && decide (999999999 < s.fld F.TIME_ARG_NS_NS)
    if op = 0 ∨ 5 ≤ op then s
    else if badInc || badNs then s.refuseTime op
    else
      let t := s.time
      let off := if op = 1 then t.reInc a s.argInc
        else if op = 2 then s.adjusted t.offset
        else if op = 3 then
          ((timeOf s.argSec (s.fld F.TIME_ARG_NS_NS) (s.fld F.TIME_ARG_FRAC_FRAC) : Int) -
            ((a * t.inc : Nat) : Int) |>.emod (timeModulus : Int)).toNat
        else s.adjusted (t.reInc a s.argInc)
      let inc := if op = 1 ∨ op = 4 then s.argInc else t.inc
      let busy := a + (Config.cmdBusy s.freeCtr).val
      (s.nextFree).setTime (TimeBase.markLate { t with inc := inc, offset := off, anchor := a, busyUntil := busy })

/-- Launch instant of a TIME field (R468): the time with these low seconds within 65,536 s beginning 32,768 s before
now. -/
def launchSec (now lsec : Nat) : Nat :=
  let base := now + 2 ^ 48 - 32768
  (base + (lsec + 65536 - base % 65536) % 65536) % 2 ^ 48

/-- A MAC's launch queue. -/
def State.launchQ (s : State) (m : Nat) : List Launch := sparseGet (fun _ => []) s.time.launch m

/-- Replace a MAC's launch queue. -/
def State.setLaunchQ (s : State) (m : Nat) (l : List Launch) : State :=
  s.setTime { s.time with launch := sparseSet (fun _ => []) s.time.launch m l }

/-- CRC-16 step over one byte, polynomial 0x1021, most significant bit first (Table 16-5). -/
def crc16Bits : Nat → Nat → Nat
  | 0, r => r
  | n + 1, r =>
    let r2 := (r * 2) % 65536
    crc16Bits n (if 32768 ≤ r then r2 ^^^ 0x1021 else r2)

/-- CRC-16 over bytes from a start value. -/
def crc16 : Nat → List Byte → Nat
  | r, [] => r
  | r, b :: bs => crc16 (crc16Bits 8 (r ^^^ (b.toNat * 256))) bs

/-- The 16-byte time-of-day message for a pulse at a number of seconds (Table 16-5). -/
def State.todMessage (s : State) (sec : Nat) : List Byte :=
  let st := s.tick.st
  let flags := s.fld F.TIME_CFG_VALID + 2 * b2n (st == .locked) + 4 * b2n (st == .holdover)
  let body := beBytes 1 1 ++ beBytes 6 sec ++ beBytes 1 flags ++ beBytes 2 (s.fld F.TIME_TOD_UTC_UTC_OFFSET) ++
    beBytes 1 (s.fld F.TIME_TOD_UTC_FLAGS) ++ beBytes 2 0
  beBytes 1 0x7E ++ body ++ beBytes 2 (crc16 0xFFFF body)

end Sys2Proof.Machine
end

