-- ==== Sys2Proof/Machine/HostQueueOps.lean ====
section
/-! DEFINITION. The host packet channels' operations (R416 to R425). Choices: log 23. -/

namespace Sys2Proof.Machine

/-- A device-to-host queue. -/
def State.dq (s : State) (q : Nat) : DQueue := sparseGet (fun _ => {}) s.chan.dq q
/-- Replace a device-to-host queue. -/
def State.setDq (s : State) (q : Nat) (d : DQueue) : State :=
  { s with chan := { s.chan with dq := sparseSet (fun _ => {}) s.chan.dq q d } }
/-- A host-to-device queue. -/
def State.hq (s : State) (q : Nat) : HQueue := sparseGet (fun _ => {}) s.chan.hq q
/-- Replace a host-to-device queue. -/
def State.setHq (s : State) (q : Nat) (h : HQueue) : State :=
  { s with chan := { s.chan with hq := sparseSet (fun _ => {}) s.chan.hq q h } }

/-- FUNC: 6 and 7 act as 3 (Table 14-6). -/
def funcOf (n : Nat) : Nat := if n ≤ 5 then n else 3

/-- Function of a device-to-host queue. -/
def State.dqFunc (s : State) (q : Nat) : Nat := funcOf (s.fld (F.HOST_DQ_CFG_FUNC q))
/-- Function of a host-to-device queue. -/
def State.hqFunc (s : State) (q : Nat) : Nat := funcOf (s.fld (F.HOST_HQ_CFG_FUNC q))

/-- Ring entries by SIZE: 2^(SIZE + 6), other values than 0-6 act as 0 (Table 14-6). -/
def hostRing (size : Nat) : Nat := if size ≤ 6 then 2 ^ (size + 6) else 64

/-- Ring entries of a device-to-host queue. -/
def State.dqRing (s : State) (q : Nat) : Nat := hostRing (s.fld (F.HOST_DQ_CFG_SIZE q))
/-- Ring entries of a host-to-device queue. -/
def State.hqRing (s : State) (q : Nat) : Nat := hostRing (s.fld (F.HOST_HQ_CFG_SIZE q))

/-- Buffer bytes of a device-to-host queue: 256 × 2^BUF_SIZE, 7 acts as 3 (Table 14-6). -/
def State.dqBuf (s : State) (q : Nat) : Nat :=
  let b := s.fld (F.HOST_DQ_CFG_BUF_SIZE q)
  256 * 2 ^ (if b = 7 then 3 else b)

/-- HOLD_US of a device-to-host queue: other values than 10-1,000 act as 100 (Table 14-6). -/
def State.dqHold (s : State) (q : Nat) : Nat :=
  let h := s.fld (F.HOST_DQ_HOLD_HOLD_US q)
  if 10 ≤ h ∧ h ≤ 1000 then h else 100

/-- The delivered bytes of a frame: tags removed under R343 restored in place (R418). -/
def Frame.delivered (f : Frame) : List Byte := f.bytes.take 12 ++ f.tags ++ f.bytes.drop 12

/-- Buffers that a frame needs in a device-to-host queue (R418). -/
def State.dqNeed (s : State) (q : Nat) (f : Frame) : Nat := ceilDiv f.delivered.length (s.dqBuf q)

/-- Posted entries of a device-to-host queue. -/
def State.dqPosted (s : State) (q : Nat) : Nat :=
  (s.fld (F.HOST_DQ_TAIL_TAIL q) + 65536 - (s.dq q).head % 65536) % 65536

/-- Posted entries of a host-to-device queue. -/
def State.hqPosted (s : State) (q : Nat) : Nat :=
  (s.fld (F.HOST_HQ_TAIL_TAIL q) + 65536 - (s.hq q).head % 65536) % 65536

/-- Write bytes into claimed buffers in order, filling each before the next (R418). -/
def State.writeBuffers (s : State) (f size : Nat) : List Nat → List Byte → State
  | [], _ => s
  | a :: as, bs => if bs.isEmpty then s else
      (s.emit (.hostWrite f a (bs.take size))).writeBuffers f size as (bs.drop size)

/-- The completion descriptor of a frame (Table 14-2); ts is its TS bit. -/
def completion (q slot : Nat) (ts : Bool) (f : Frame) : Descriptor :=
  BitVec.ofNat 64 (1 * 2 ^ 60 + q % 64 * 2 ^ 54 + f.exc % 16 * 2 ^ 50 + f.cls % 16 * 2 ^ 46 + f.colour % 4 * 2 ^ 44 +
    b2n ts * 2 ^ 42 + b2n (!f.tags.isEmpty) * 2 ^ 41 + b2n f.copy * 2 ^ 40 + f.src % 256 * 2 ^ 32 +
    slot % 4096 * 2 ^ 16 + f.delivered.length % 16384)

/-- The idle descriptor (R424). -/
def idleDescriptor : Descriptor := 0xF000000000000000

/-- Remove the oldest completion of a queue, or answer idle (R424, R425). -/
def State.popDq (s : State) (q : Nat) : State × Descriptor :=
  let d := s.dq q
  match d.fifo with
  | [] => (s, idleDescriptor)
  | c :: cs => (s.setDq q { d with fifo := cs }, c)

/-- A function's own pop answers both halves: the low half now, the high half from its latch (R425, R596). -/
def State.popAnswer (s : State) (f hi : Nat) (c : Descriptor) : State :=
  (s.setLatch f hi (c.toNat / 2 ^ 32)).answer f (c.toNat % 2 ^ 32)

/-- The queue of lowest PRIO, and among equals the first in the order given, that has a completion (R425). -/
def State.bestPop (s : State) : List Nat → Option Nat
  | [] => none
  | q :: qs =>
    if (s.dq q).fifo.isEmpty then s.bestPop qs
    else match s.bestPop qs with
      | none => some q
      | some r => if s.fld (F.HOST_DQ_CFG_PRIO q) ≤ s.fld (F.HOST_DQ_CFG_PRIO r) then some q else some r

/-- Enabled queues of a function, beginning after the one last popped, wrapping. -/
def State.popOrder (s : State) (f : Nat) : List Nat :=
  let last := sparseGet (fun _ => 63) s.chan.lastPop f
  ((List.range 64).map (fun i => (last + 1 + i) % 64)).filter
    (fun q => s.flag (F.HOST_DQ_CFG_ENABLE q) && s.dqFunc q == f)

/-- The frame at the head of a device-to-host queue is dropped or rewound: its buffer is freed, the claimed entries stay
for the next frame (R419, R421, R422). -/
def State.dropFront (s : State) (q : Nat) : State :=
  let d := s.dq q
  match d.front with
  | none => s
  | some f => (s.setDq q { d with front := none, writing := false }).finishDest f.buf agD2h q

/-- A frame delivered by the queue manager reaches a device-to-host queue (R418, R422). -/
def State.reachDq (s : State) (q : Nat) (f : Frame) : State :=
  let s := s.takeBuf f.buf agD2h
  if s.flag (F.HOST_DQ_CFG_ENABLE q) then s.setDq q { s.dq q with front := some f }
  else (s.bump (C.DQ_DISABLED_DROP q)).finishDest f.buf agD2h q

/-- A host-to-device descriptor's condition of R426 that makes it bad, in the order listed. -/
def badDescriptor (d : List Byte) : Option Nat :=
  let len := leAt d 8 2
  let flags := leAt d 10 1
  let dest := leAt d 11 1
  let cc := leAt d 14 1
  let qb := leAt d 15 1
  if len < 14 ∨ 10240 < len then some 0
  else if bit flags 0 = false ∧ 32 ≤ dest ∧ dest ≤ 127 then some 1
  else if bitsOf cc 5 4 = 3 then some 2
  else if flags / 4 != 0 || leAt d 12 2 / 4096 != 0 || cc / 64 != 0 || qb / 128 != 0 || leAt d 20 4 != 0 then some 3
  else none

/-- The frame that a good descriptor describes, in a buffer. -/
def hqFrame (q idx buf : Nat) (d bytes : List Byte) : Frame :=
  let qb := leAt d 15 1
  { buf := buf, bytes := fitB (leAt d 8 2) bytes, src := 255, fid := leAt d 12 2, cls := bitsOf (leAt d 14 1) 3 0,
    colour := bitsOf (leAt d 14 1) 5 4, queue := bitsOf qb 2 0, bond := bit (leAt d 10 1) 1, bondClass := bitsOf qb 4 3,
    bondGroup := bitsOf qb 6 5, hash := leAt d 16 4, time := leAt d 24 8, hq := q, hqIdx := idx }

end Sys2Proof.Machine
end

