-- ==== Sys2Proof/Machine/CtxOps.lean ====
section
/-! DEFINITION. Loading and reading context entries (R570 to R573). Choices: log 12, 14, 26. -/

namespace Sys2Proof.Machine

/-- The level-2 node of an allocation context entry, once host software has loaded the entry since its assignment (R151,
R152). -/
def AllocCtx.node (a : AllocCtx) : Option Nat := if a.loaded then some (leAt a.host 0 2) else none

/-- INLINE of a CTX_LOAD. -/
def Pkt.inline (p : Pkt) : Bool := bit (p.w 1) 0

/-- First index of a CTX_LOAD or CTX_READ. -/
def Pkt.ctxFirst (p : Pkt) : Nat := p.w 0 % 65536

/-- Count of a CTX_LOAD or CTX_READ. -/
def Pkt.ctxCount (p : Pkt) : Nat := p.w 0 / 65536

/-- LENGTH of a CTX_LOAD (R571). -/
def ctxLoadLen (p : Pkt) : Option Nat :=
  if p.length < 2 then some 2
  else lenIs (if p.inline then 2 + 16 * p.ctxCount else 2) p

/-- Host halves of count entries from an index, out of DDR4 (R571): the bytes, or the failing index. -/
def State.readHalves (s : State) (base first : Nat) : Nat → State × Except Nat (List (List Byte))
  | 0 => (s, .ok [])
  | n + 1 =>
    match s.readHalves base first n with
    | (s, .error e) => (s, .error e)
    | (s, .ok hs) =>
      match s.ddrRead (base + 128 * (first + n)) 64 with
      | (s, .ok bs) => (s, .ok (hs ++ [bs]))
      | (s, .error _) => (s, .error (first + n))

/-- Write host halves to DDR4 in order from an index. -/
def State.writeHalves (s : State) (base : Nat) : Nat → List (List Byte) → State
  | _, [] => s
  | i, h :: hs => ((s.ddrWrite (base + 128 * i) h).1).writeHalves base (i + 1) hs

/-- The first index whose check fails, with the check's status. -/
def firstBad (check : Nat → List Byte → Option Nat) : Nat → List (List Byte) → Option (Nat × Nat)
  | _, [] => none
  | i, h :: hs => match check i h with
    | some st => some (i, st)
    | none => firstBad check (i + 1) hs

/-- Apply loaded host halves in order from an index. -/
def applyHalves (f : Nat → List Byte → State → State) : Nat → List (List Byte) → State → State
  | _, [], s => s
  | i, h :: hs, s => applyHalves f (i + 1) hs (f i h s)

/-- The body of a CTX_LOAD (R571, R572): base and entries are those of Table 20-10. check answers an entry's failing
status among all the halves loaded; load puts one entry into the cache. -/
def ctxLoad (p : Pkt) (base entries : Nat) (check : State → List (List Byte) → Nat → List Byte → Option Nat)
    (load : Nat → List Byte → State → State) (s : State) : BodyOut :=
  let first := p.ctxFirst
  let n := p.ctxCount
  if n < 1 ∨ 16 < n ∨ entries < first + n ∨ 1 < p.w 1 then refuse stBadParam s
  else if s.ddrReady = false then refuse stTimeout s
  else
    let got : State × Except Nat (List (List Byte)) :=
      if p.inline then (s, .ok ((List.range n).map (fun k => sliceB p.bytes (8 + 64 * k) 64)))
      else s.readHalves base first n
    match got with
    | (s, .error i) => refuse stHwFault s i
    | (s, .ok hs) =>
      match firstBad (check s hs) first hs with
      | some (i, st) => refuse st s i
      | none =>
        let s := if p.inline then s.writeHalves base first hs else s
        finish (applyHalves load first hs s)

/-- The body of a CTX_READ (R573): entry answers the 128 bytes of an entry. -/
def ctxRead (p : Pkt) (entries : Nat) (entry : State → Nat → List Byte) (s : State) : BodyOut :=
  let first := p.ctxFirst
  let n := p.ctxCount
  if n < 1 ∨ 32 < n ∨ entries < first + n then refuse stBadParam s
  else finish s ((List.range n).flatMap (fun k => entry s (first + k)))

/-! Line channel entries (Table 15-3). -/

/-- NODE of a host half. -/
def lineNode (h : List Byte) : Nat := leAt h 0 2
/-- FOLLOW of a host half. -/
def lineFollow (h : List Byte) : Bool := bit (leAt h 8 1) 0
/-- FRACTION of a host half: 0 acts as 256. -/
def lineFraction (h : List Byte) : Nat := if leAt h 2 2 = 0 then 256 else leAt h 2 2

/-- The device half of a line channel entry. -/
def LineCtx.deviceHalf (l : LineCtx) : List Byte :=
  fitB 64 (leBytes 3 l.ndr ++ leBytes 1 0 ++ leBytes 1 l.state ++ leBytes 3 0 ++ leBytes 4 l.rate ++ leBytes 8 l.bytes ++
    leBytes 4 l.discarded ++ leBytes 4 l.changed)

/-- The host half that line channel i has once the halves hs are loaded from an index. -/
def State.lineHalf (s : State) (first : Nat) (hs : List (List Byte)) (i : Nat) : List Byte :=
  if first ≤ i ∧ i < first + hs.length then (hs[i - first]?).getD [] else (s.lineCtx i).host

/-- Does another line channel than i follow a node? -/
def State.lineTaken (s : State) (first : Nat) (hs : List (List Byte)) (i node : Nat) : Bool :=
  (List.range 192).any (fun j =>
    j != i && lineFollow (s.lineHalf first hs j) && lineNode (s.lineHalf first hs j) == node)

/-- Checks of a line channel half (R447). -/
def lineCheck (first : Nat) (s : State) (hs : List (List Byte)) (i : Nat) (h : List Byte) : Option Nat :=
  if 503 < lineNode h ∨ 256 < leAt h 2 2 ∨ 1 < leAt h 8 1 ∨ (h.drop 9).any (fun b => b != 0) then some stBadParam
  else if lineFollow h && (decide (23 < (s.n2 (lineNode h)).parent) || s.lineTaken first hs i (lineNode h)) then
    some stBadParam
  else none

/-- A line channel lets go of the node bound to it: the node's own record applies again. -/
def State.unbindLine (s : State) (i : Nat) : State :=
  let h := (s.lineCtx i).host
  if lineFollow h then
    let n := s.n2 (lineNode h)
    if n.line = some i then
      s.setN2 (lineNode h) { n with
        line := none, lineHold := 0, shaper := n.shaper.change n.own.en n.own.rate n.own.burst n.own.overhead s.sched.pkt }
    else s
  else s

/-- Load a line channel entry: a node newly bound is held until the first delivery (R449). -/
def loadLine (i : Nat) (h : List Byte) (s : State) : State :=
  let old := s.lineCtx i
  let same := lineFollow old.host && lineFollow h && lineNode old.host == lineNode h
  let s := if same then s else s.unbindLine i
  let s := s.setLine i { old with host := h }
  if lineFollow h && !same then s.setN2 (lineNode h) { s.n2 (lineNode h) with line := some i, lineHold := 1 } else s

end Sys2Proof.Machine
end

