-- ==== Sys2Proof/Machine/BondOps.lean ====
section
/-! DEFINITION. The bonding layer's operations (R156 to R171). Choices: log 13. -/

namespace Sys2Proof.Machine

/-! Fields of a group's host half (Table 5-6). -/

/-- GROUP_ID. -/
def BondCtx.groupId (b : BondCtx) : Nat := leAt b.host 0 2
/-- MEMBERS, a channel mask. -/
def BondCtx.members (b : BondCtx) : Nat := leAt b.host 2 1 % 16
/-- FLAGS bit 1: re-sequencing. -/
def BondCtx.reseq (b : BondCtx) : Bool := bit (leAt b.host 3 1) 1
/-- FLAGS bit 2: hash spreading. -/
def BondCtx.spread (b : BondCtx) : Bool := bit (leAt b.host 3 1) 2
/-- FLAGS bit 3: LATE_POLICY. -/
def BondCtx.latePolicy (b : BondCtx) : Bool := bit (leAt b.host 3 1) 3
/-- HOLD_US: other values than 50-2,000 act as 200. -/
def BondCtx.holdUs (b : BondCtx) : Nat :=
  let u := leAt b.host 4 2
  if 50 ≤ u ∧ u ≤ 2000 then u else 200
/-- HOLD_KB: other values than 64-16,384 act as 4,096. -/
def BondCtx.holdKb (b : BondCtx) : Nat :=
  let k := leAt b.host 6 2
  if 64 ≤ k ∧ k ≤ 16384 then k else 4096
/-- SPILL_THR. -/
def BondCtx.spill (b : BondCtx) : Nat := leAt b.host 8 4
/-- STATUS_REPEAT: 0 acts as 3. -/
def BondCtx.statusRepeat (b : BondCtx) : Nat := if leAt b.host 12 1 = 0 then 3 else leAt b.host 12 1
/-- CTRL_PORT of a channel. -/
def BondCtx.ctrlPort (b : BondCtx) (n : Nat) : Nat := leAt b.host (16 + 2 * n) 2
/-- BOND_PORT of a channel. -/
def BondCtx.bondPort (b : BondCtx) (n : Nat) : Nat := leAt b.host (24 + 2 * n) 2
/-- BOND_PORTS. -/
def BondCtx.bondPorts (b : BondCtx) : Nat := leAt b.host 32 2
/-- CLASS_ALLOC of a bond class on a channel; 0xFF for none. -/
def BondCtx.classAlloc (b : BondCtx) (cls n : Nat) : Nat := leAt b.host (34 + 4 * cls + n) 1

/-- Channels of a mask, ascending. -/
def chansOf (mask : Nat) : List Nat := (List.range 4).filter (fun n => bit mask n)

/-- The mask of the channels that satisfy a test. -/
def chanMask (f : Nat → Bool) : Nat := ((List.range 4).map (fun n => if f n then 2 ^ n else 0)).sum

/-- The enabled group a channel is a member of. -/
def State.groupOf (s : State) (n : Nat) : Option Nat :=
  (List.range 4).find? (fun g => (s.group g).enabled && bit (s.group g).members n)

/-- Is a channel active upstream (R157)? -/
def State.usActiveNow (s : State) (b : BondCtx) (n : Nat) : Bool :=
  let c := s.ch n
  bit b.members n && c.act == .o5 && (c.txPowered || c.txWaking) && !bit b.outOfUse n

/-- Is a channel active downstream (R157)? -/
def State.dsActiveNow (s : State) (b : BondCtx) (n : Nat) : Bool :=
  bit b.members n && s.inSync n && !(s.ch n).rxDown && !bit b.outOfUse n

/-- STATE of a channel (Table 5-4); a channel that host software removed from the running group keeps 4. -/
def State.memberState (s : State) (b : BondCtx) (n : Nat) : Nat :=
  if bit b.members n then
    let c := s.ch n
    if c.lull ≠ .awake then 3
    else if s.inSync n = false then 1
    else if c.act ≠ .o5 then 2
    else 0
  else if (b.states[n]?).getD 0xFF = 0xFF then 0xFF else 4

/-- The member slots of a status body (R167): the members and the channels that host software removed from the running group
(state 4), in ascending channel order. -/
def BondCtx.slots (b : BondCtx) : List Nat :=
  (List.range 4).filter (fun n => bit b.members n || (b.states[n]?).getD 0xFF != 0xFF)

/-- A bond-status SDU: tag and body (Tables 5-3, 5-4). -/
def BondCtx.statusSdu (b : BondCtx) : List Byte :=
  let ms := b.slots
  let slot := fun i => match ms[i]? with
    | some n => (b.states[n]?).getD 0xFF
    | none => 0xFF
  beBytes 1 1 ++ beBytes 1 2 ++ beBytes 2 b.groupId ++ beBytes 4 0 ++ beBytes 1 1 ++ beBytes 1 ms.length ++
    ((List.range 4).map slot).flatMap (beBytes 1) ++ beBytes 2 0

/-- Queue a status frame on every member active upstream (R168). -/
def State.sendStatus (s : State) (g : Nat) : State :=
  let b := s.group g
  if b.usAct = 0 then s.bump (C.BOND_STATUS_UNSENT g)
  else (chansOf b.usAct).foldl (fun s n =>
    s.setCh n { s.ch n with statusQ := (b.ctrlPort n, b.statusSdu) :: (s.ch n).statusQ }) s

/-! Upstream spreading. -/

/-- The level-2 node of a bond class on a channel (R158, Table 15-1): the SCHED_NODE of its allocation context entry. -/
def State.bondNode (s : State) (b : BondCtx) (cls n : Nat) : Option Nat :=
  let i := b.classAlloc cls n
  if i = 0xFF then none else (s.allocAt i).node

/-- Bytes that a member holds in the group's Alloc-IDs (R159). -/
def State.heldBytes (s : State) (b : BondCtx) (n : Nat) : Nat :=
  let nodes := ((List.range 4).filterMap (fun cls => s.bondNode b cls n)).eraseDups
  (nodes.map (fun k => ((List.range 8).map (fun j => (s.sq (8 * k + j)).depth)).sum)).sum

/-- Bucket map and CTX_LOAD channels. -/
def BondCtx.bucket (b : BondCtx) (k : Nat) : Nat := sparseGet (fun _ => 0) b.buckets k
/-- CTX_LOAD channel of a bucket. -/
def BondCtx.homeOf (b : BondCtx) (k : Nat) : Nat := sparseGet (fun _ => 0) b.home k

/-- The next active upstream member after a channel, ascending and wrapping, that holds SPILL_THR bytes or fewer
(R159). -/
def State.nextMember (s : State) (b : BondCtx) (c : Nat) : Option Nat :=
  ((List.range 4).map (fun i => (c + 1 + i) % 4)).find? (fun n => bit b.usAct n && decide (s.heldBytes b n ≤ b.spill))

/-- Frames of a bucket among a queue's. -/
def isOfBucket (g k : Nat) (x : QFrame) : Bool := x.bucket == some (g, k)

/-- Frames of a bucket queued on its current channel and not completely sent (R159): in queues, and in bursts built or on the
fibre. -/
def State.bucketCount (s : State) (g k : Nat) : Nat :=
  let n := (s.group g).bucket k
  (s.sched.queue.map (fun p => (p.2.frames.filter (fun x => isOfBucket g k x && x.node1 == 24 + n)).length)).sum +
    ((s.ch n).bursts.map (fun p => p.buckets.count (g, k))).sum

/-- A frame moved to another channel is counted (R160); the spec names no register for the count. -/
def State.countMove (s : State) (g : Nat) : State := s.setGroup g { s.group g with moves := (s.group g).moves + 1 }

/-- Put a moved frame at the tail of its queue on another channel; one of which a fragment was sent is dropped (R152,
R160). -/
def State.placeMoved (s : State) (g dst oldQ : Nat) (x : QFrame) : State :=
  let s := s.countMove g
  let n1 := s.n1 x.node1
  let s := s.setN1 x.node1 { n1 with held := n1.held - bufBytes x.frame }
  if 0 < x.sent then ((s.bump (C.BOND_MOVE_DROP g)).queueDrop oldQ).finishDest x.frame.buf agQm 0
  else
    match s.bondNode (s.group g) x.frame.bondClass dst with
    | none => s.noNode (24 + dst) x.frame.bondClass x.frame
    | some k =>
      let q := 8 * k + x.frame.queue % 8
      let v := s.sq q
      let s := s.setSq q { v with frames := v.frames ++ [{ x with node1 := 24 + dst }] }
      let m := s.n1 (24 + dst)
      s.setN1 (24 + dst) { m with held := m.held + bufBytes x.frame }

/-- Move the frames of a bucket out of a list of queues to another channel, in order (R160). -/
def State.moveFrames (s : State) (g k dst : Nat) : List Nat → State
  | [] => s
  | q :: qs =>
    let v := s.sq q
    let mine := v.frames.filter (isOfBucket g k)
    let s := if mine.isEmpty then s else
      let s := s.setSq q { v with frames := v.frames.filter (fun x => !isOfBucket g k x) }
      mine.foldl (fun s x => s.placeMoved g dst q x) s
    s.moveFrames g k dst qs

/-- A bucket goes to another channel with its queued frames. -/
def State.moveBucket (s : State) (g k dst : Nat) : State :=
  let b := s.group g
  if b.bucket k = dst then s
  else
    let s := s.setGroup g { b with buckets := sparseSet (fun _ => 0) b.buckets k dst }
    s.moveFrames g k dst (s.sched.queue.map (·.1))

/-- Buckets whose channel is not active upstream move to an active member (R158, R160). -/
def State.moveInactive (s : State) (g : Nat) : State :=
  (List.range 64).foldl (fun s k =>
    let b := s.group g
    if bit b.usAct (b.bucket k) then s
    else match s.nextMember b (b.bucket k) with
      | some n => s.moveBucket g k n
      | none => s) s

/-- Channel of each bucket at CTX_LOAD (R158): the active upstream members in ascending order, or all members. -/
def ctxLoadMap (usAct members : Nat) : Sparse Nat :=
  let act := chansOf (usAct &&& members)
  let l := if act.isEmpty then chansOf members else act
  (List.range 64).foldl (fun m k => sparseSet (fun _ => 0) m k ((l[k % max 1 l.length]?).getD 0)) []

/-- The channel and bucket of a frame that the classifier places in a group (R158, R159). -/
def State.spreadFrame (s : State) (g : Nat) (f : Frame) : State × Nat × Nat :=
  let k := f.hash % 64
  let b := s.group g
  if s.bucketCount g k = 0 ∧ b.spread ∧ b.usAct ≠ 0 then
    let c := b.bucket k
    let s := if b.spill < s.heldBytes b c then
        match s.nextMember b c with
        | some n => s.moveBucket g k n
        | none => s
      else s
    let b := s.group g
    let h := b.homeOf k
    let s := if b.bucket k ≠ h ∧ bit b.usAct h ∧ 2 * s.heldBytes b h < b.spill then s.moveBucket g k h else s
    (s, (s.group g).bucket k, k)
  else (s, b.bucket k, k)

/-! Downstream re-sequencing (R163 to R166). Sequence numbers are modulo 2^24. -/

/-- Distance of a sequence number ahead of NEXT. -/
def seqDist (next seq : Nat) : Nat := (seq + 2 ^ 24 - next % 2 ^ 24) % 2 ^ 24

/-- A frame goes to the classifier. -/
def State.toClassifier (s : State) (f : Frame) : State := { s with clsIn := s.clsIn ++ [f] }

/-- Put a held frame in its place by distance from NEXT. -/
def insHeld (next : Nat) : List HeldSdu → HeldSdu → List HeldSdu
  | [], h => [h]
  | x :: xs, h => if seqDist next h.seq < seqDist next x.seq then h :: x :: xs else x :: insHeld next xs h

/-- release_run() (R164) over the held frames in order. -/
def State.releaseRun (s : State) (g : Nat) : List HeldSdu → State
  | [] => s.setGroup g { s.group g with held := [] }
  | x :: xs =>
    let b := s.group g
    if x.seq = b.next then
      ((s.setGroup g { b with next := (b.next + 1) % 2 ^ 24 }).toClassifier x.frame).releaseRun g xs
    else s.setGroup g { b with held := x :: xs }

/-- skip_to(x) (R164): the held frames passed are delivered, the empty places passed counted in LOST; the answer is how
many those were. -/
def State.skipTo (s : State) (g x : Nat) : State × Nat :=
  let b := s.group g
  let d := seqDist b.next x
  let pass := b.held.filter (fun h => decide (seqDist b.next h.seq < d))
  let keep := b.held.filter (fun h => decide (d ≤ seqDist b.next h.seq))
  let s := s.setGroup g { b with next := x % 2 ^ 24, held := keep }
  let s := pass.foldl (fun s h => s.toClassifier h.frame) s
  (s.bumpBy (C.BOND_LOST g) (d - pass.length), d - pass.length)

/-- Skip to the oldest held frame and release the run from it (R165); the answer is the places counted lost. -/
def State.skipOldest (s : State) (g : Nat) : State × Nat :=
  match (s.group g).held with
  | [] => (s, 0)
  | h :: _ =>
    let r := s.skipTo g h.seq
    (r.1.releaseRun g (r.1.group g).held, r.2)

/-- Have all active downstream members passed the gap (R165)? -/
def BondCtx.allPassed (b : BondCtx) : Bool :=
  b.dsAct != 0 && (chansOf b.dsAct).all (fun n => bit b.lastSeen n || b.held.any (fun h => h.frame.src == 24 + n))

/-- Bytes held by the re-sequencer. -/
def BondCtx.heldSize (b : BondCtx) : Nat := (b.held.map (fun h => h.frame.bytes.length)).sum

/-- The early releases of R165, as long as one holds; fuel bounds the gaps. -/
def State.earlyRelease (s : State) (g : Nat) : Nat → State
  | 0 => s
  | n + 1 =>
    let b := s.group g
    if b.held.isEmpty then s
    else if (b.held.head?.map (·.seq)) = some b.next then (s.releaseRun g b.held).earlyRelease g n
    else if b.holdKb * 1024 < b.heldSize then
      let r := s.skipOldest g
      (r.1.raiseRow 0x0018 2 5 5 1 [(1, g), (1, 1), (4, r.2)]).earlyRelease g n
    else if b.allPassed then (s.skipOldest g).1.earlyRelease g n
    else s

/-- The early releases of R165: each takes at least one held frame. -/
def State.releaseEarly (s : State) (g : Nat) : State := s.earlyRelease g (s.group g).held.length

/-- A tagged data frame with its tag stripped (R164). -/
def State.resequence (s : State) (g seq : Nat) (f : Frame) : State :=
  let b := s.group g
  if b.reseq = false then s.toClassifier f
  else
    let next := if b.nextSet then b.next else seq
    let s := s.setGroup g { b with next := next, nextSet := true }
    let b := s.group g
    let d := seqDist next seq
    let free := fun (s : State) => s.freeBuf f.buf agBond g
    let s :=
      if d = 0 then ((s.setGroup g { b with next := (seq + 1) % 2 ^ 24 }).toClassifier f).releaseRun g b.held
      else if d < 4096 then
        if b.held.any (fun h => h.seq == seq) then free (s.bump (C.BOND_DUP g))
        else s.setGroup g { b with held := insHeld next b.held ⟨seq, f⟩ }
      else if 0x800000 ≤ d then
        let s := s.bump (C.BOND_LATE g)
        if b.latePolicy then s.toClassifier f else free s
      else
        let r := s.skipTo g ((seq + 2 ^ 24 - 4095) % 2 ^ 24)
        let s := r.1.bump (C.BOND_BEYOND g)
        let b := s.group g
        s.setGroup g { b with held := insHeld b.next b.held ⟨seq, f⟩ }
    s.releaseEarly g

/-! Re-evaluation (R157, R168). -/

/-- Raise the member-state events of a group (Table 5-10): n channels from 0. -/
def State.tellMembers (s : State) (g : Nat) (old new : List Nat) : Nat → State
  | 0 => s
  | n + 1 =>
    let s := s.tellMembers g old new n
    let a := (old[n]?).getD 0xFF
    let b := (new[n]?).getD 0xFF
    if a = b then s else s.raiseRow 0x0018 2 5 4 1 [(1, g), (1, n), (1, a), (1, b)]

/-- The bonding layer re-evaluates a group after a change in the conditions (R157, R158, R160, R165, R168). -/
def State.reevalGroup (s : State) (g : Nat) : State :=
  let b := s.group g
  if b.enabled then
    let us := chanMask (s.usActiveNow b)
    let ds := chanMask (s.dsActiveNow b)
    let st := (List.range 4).map (s.memberState b)
    let s := s.setGroup g { b with usAct := us, dsAct := ds, states := st, nextSet := b.nextSet && ds != 0 }
    let s := if us = b.usAct then s else s.moveInactive g
    let s := if ds = b.dsAct then s else s.releaseEarly g
    if st = b.states then s
    else
      let s := s.tellMembers g b.states st 4
      (s.setGroup g { s.group g with repeatLeft := b.statusRepeat }).sendStatus g
  else s

/-- Re-evaluate the group of a channel. -/
def State.reeval (s : State) (n : Nat) : State :=
  match s.groupOf n with
  | some g => s.reevalGroup g
  | none => s

/-- The status frame is repeated at a superframe boundary (R168). -/
def State.statusRepeats (s : State) : State :=
  (List.range 4).foldl (fun s g =>
    let b := s.group g
    if b.enabled ∧ 0 < b.repeatLeft then (s.setGroup g { b with repeatLeft := b.repeatLeft - 1 }).sendStatus g
    else s) s

end Sys2Proof.Machine
end

