-- ==== Sys2Proof/Machine/EngOps.lean ====
section
/-! DEFINITION. Operations over one engine: instruction fields, memories and their pending accesses, generators, the vector
unit, the control of issue (chapters 06 and 07). Choices: log 16. -/

namespace Sys2Proof.Machine

/-! Engines and groups in the state. -/

/-- Replace the vector scheduler. -/
def State.setVec (s : State) (v : VecSched) : State := { s with vec := v }

/-- An engine. -/
def State.eng (s : State) (e : Nat) : Eng := sparseGet (fun _ => {}) s.vec.engs e

/-- Replace an engine. -/
def State.setEng (s : State) (e : Nat) (x : Eng) : State :=
  s.setVec { s.vec with engs := sparseSet (fun _ => {}) s.vec.engs e x }

/-- A vector group. -/
def State.vg (s : State) (g : Nat) : Group := sparseGet (fun _ => {}) s.vec.groups g

/-- Replace a vector group. -/
def State.setVg (s : State) (g : Nat) (x : Group) : State :=
  s.setVec { s.vec with groups := sparseSet (fun _ => {}) s.vec.groups g x }

/-- Replace an engine's slab. -/
def State.setSlab (s : State) (e : Nat) (b : Slab) : State := s.setEng e { s.eng e with slab := b }

/-- Group and tone group that an engine serves. -/
def State.serves (s : State) (e : Nat) : Option (Nat × Nat) :=
  (List.range 4).findSome? (fun g => ((s.vg g).tgs.findIdx? (fun t => t.eng == e)).map (fun k => (g, k)))

/-- VE_STATUS.TONE_GROUP (Table 6-10). -/
def State.tgCode (s : State) (e : Nat) : Nat :=
  match s.serves e with
  | some (_, k) => k
  | none => 0xFF

/-- Tone group k of a group. -/
def Group.tg (x : Group) (k : Nat) : TGroup := (x.tgs[k]?).getD { eng := 0, tones := 0 }

/-- Replace tone group k. -/
def Group.setTg (x : Group) (k : Nat) (t : TGroup) : Group := { x with tgs := x.tgs.set k t }

/-- Change tone group k of group g. -/
def State.modTg (s : State) (g k : Nat) (f : TGroup → TGroup) : State :=
  let x := s.vg g
  s.setVg g (x.setTg k (f (x.tg k)))

/-- Source block ID of an engine (R12). -/
def engSource (e : Nat) : Nat := 0x0100 + e

/-- The tick counter as event payloads carry it. -/
def State.tick32 (s : State) : Nat := s.tick.count.toNat % 2 ^ 32

/-- Whole VE cycles per tick, and per VDSL2 symbol, by clock code (Table 2-3). -/
def cyclesPerTick (clock : Nat) : Nat :=
  match clock with
  | 0 => 33333
  | 1 => 29166
  | 2 => 25000
  | 3 => 20833
  | _ => 8333

/-- Cycles per VDSL2 symbol. -/
def cyclesPerVdsl (clock : Nat) : Nat :=
  match clock with
  | 0 => 400000
  | 1 => 350000
  | 2 => 300000
  | 3 => 250000
  | _ => 100000

/-! Fields of an instruction (R216, Table 7-1, Table 7-2). -/

/-- Scalar opcode. -/
abbrev iSop (w : Nat) : Nat := bitsOf w 63 58
/-- Vector opcode. -/
abbrev iVop (w : Nat) : Nat := bitsOf w 57 52
/-- OP of the vector opcode (R232). -/
abbrev iVo (w : Nat) : Nat := bitsOf w 57 55
/-- B of the vector opcode. -/
abbrev iVb (w : Nat) : Nat := bitsOf w 54 54
/-- H of the vector opcode. -/
abbrev iVh (w : Nat) : Nat := bitsOf w 53 53
/-- V of the vector opcode. -/
abbrev iVv (w : Nat) : Nat := bitsOf w 52 52
/-- Operation of generator g: 0 C, 1 X, 2 Y. -/
abbrev iGop (w g : Nat) : Nat := bitsOf w (51 - 6 * g) (46 - 6 * g)
/-- ACT of generator g (R225). -/
abbrev iAct (w g : Nat) : Nat := iGop w g / 8
/-- MOD of generator g. -/
abbrev iMod (w g : Nat) : Nat := iGop w g % 8
/-- Scalar operands. -/
abbrev iOpnd (w : Nat) : Nat := w % 2 ^ 34
/-- rd, or ra of BRA and CNT, or the scalar register of AGN and SPR. -/
abbrev iRd (w : Nat) : Nat := bitsOf w 33 30
/-- ra, or rb of BRA. -/
abbrev iRa (w : Nat) : Nat := bitsOf w 29 26
/-- rb of REG. -/
abbrev iRb (w : Nat) : Nat := bitsOf w 25 22
/-- imm20. -/
abbrev iImm (w : Nat) : Nat := bitsOf w 19 0
/-- Target or end instruction. -/
abbrev iTgt (w : Nat) : Nat := bitsOf w 10 0
/-- Generator of AGN. -/
abbrev iGen (w : Nat) : Nat := bitsOf w 29 28
/-- Generator register of AGN. -/
abbrev iGreg (w : Nat) : Nat := bitsOf w 27 25
/-- Special register of SPR. -/
abbrev iSpr (w : Nat) : Nat := bitsOf w 29 25

/-- Does generator g access (ACT 1-4)? -/
def iAccess (w g : Nat) : Bool := decide (1 ≤ iAct w g ∧ iAct w g ≤ 4)

/-- Is the scalar operation a branch (R221)? -/
def isBranch (w : Nat) : Bool := decide (0x20 ≤ iSop w ∧ iSop w ≤ 0x26) || iSop w == 0x2B

/-- Bits of OPND that the opcode's layout marks 0 (R218, Table 7-2, Table 7-3), as a mask; none: the opcode is not defined. -/
def opndZero (sop : Nat) : Option Nat :=
  let reg := 2 ^ 22 - 1
  let rdM := 15 * 2 ^ 30
  let raM := 15 * 2 ^ 26
  let rbM := 15 * 2 ^ 22
  let immZ := 63 * 2 ^ 20
  let braZ := (2 ^ 15 - 1) * 2 ^ 11
  if sop = 0x00 ∨ sop = 0x2A ∨ sop = 0x2B then some (2 ^ 34 - 1)
  else if sop = 0x29 then some (2 ^ 34 - 2)
  else if sop = 0x0C then some (reg + rbM)
  else if sop ≤ 0x0F ∨ sop = 0x19 then some reg
  else if sop = 0x17 ∨ sop = 0x18 then some (immZ + raM)
  else if sop ≤ 0x16 ∨ sop = 0x1A ∨ sop = 0x1B then some immZ
  else if sop ≤ 0x1F then some (2 ^ 25 - 1)
  else if sop = 0x24 then some (braZ + rdM + raM)
  else if sop = 0x25 then some (reg + rdM + rbM)
  else if sop ≤ 0x26 then some braZ
  else if sop = 0x27 then some (31 * 2 ^ 24 + 2 ^ 12 - 1)
  else if sop = 0x28 then some (31 * 2 ^ 24 + 2 ^ 11)
  else none

/-- Does the vector opcode carry a bit that R232 requires to be 0? -/
def vopBad (w : Nat) : Bool :=
  match iVo w with
  | 0 => iVop w != 0
  | 3 => iVv w != 0
  | 4 => iVop w != 32
  | 5 => iVh w != 0 || iVv w != 0
  | 7 => iVv w != 0
  | _ => false

/-- Does a generator operation carry a bit that Table 7-6 gives as 0, or an illegal store source? -/
def gopBad (w : Nat) : Bool :=
  decide (1 < iMod w 0) || iMod w 1 != 0 || (if iAccess w 2 then decide (3 < iMod w 2) else iMod w 2 != 0)

/-- Vector operations that use the C-bus (R233). -/
def usesC (w : Nat) : Bool := iVo w == 1 || iVo w == 2 || iVo w == 5

/-- Is an instruction illegal by its fields alone (R218, R219, R224, R233, R237)? -/
def illegalForm (w : Nat) : Bool :=
  let sop := iSop w
  (match opndZero sop with
   | none => true
   | some m => (iOpnd w &&& m) != 0) ||
  ((sop == 0x1A || sop == 0x1B) && iRd w % 2 == 1) ||
  ((sop == 0x1C || sop == 0x1D) && (iGen w == 3 || (iGen w != 0 && iGreg w == 7))) ||
  vopBad w || gopBad w || (usesC w != iAccess w 0) || (sop == 0x1B && iAccess w 2) ||
  (iAccess w 1 && sop == 0x1A)

/-! Lanes of a codeword. -/

/-- The 64-bit lane l of 256 data bits. -/
def laneOf (d l : Nat) : Nat := (d >>> (64 * l)) % 2 ^ 64

/-- Data bits whose lanes in a mask come from the second word. -/
def mergeLanes (mask a b : Nat) : Nat :=
  let f := fun l => (if mask.testBit l then laneOf b l else laneOf a l) * 2 ^ (64 * l)
  f 0 + f 1 + f 2 + f 3

/-- Scratchpad codeword i. -/
def Eng.spadWord (x : Eng) (i : Nat) : Codeword := sparseGet (fun _ => 0) x.spad i

/-- Put a scratchpad codeword. -/
def Eng.setSpad (x : Eng) (i : Nat) (w : Codeword) : Eng := { x with spad := sparseSet (fun _ => 0) x.spad i w }

/-- Slab codeword i. -/
def Slab.word (b : Slab) (i : Nat) : Codeword := sparseGet (fun _ => 0) b.words i

/-- Put a slab codeword. -/
def Slab.setWord (b : Slab) (i : Nat) (w : Codeword) : Slab := { b with words := sparseSet (fun _ => 0) b.words i w }

/-- A slab word read through the fence overlay, as held (R267). -/
def Slab.through (b : Slab) (i : Nat) : Codeword :=
  match sparseGet (fun _ => none) b.overlay i with
  | some d => encodeWord d
  | none => b.word i

/-- Location in the scratchpad of an engine address (R179). -/
def spadLoc (a : Nat) : Nat := a % 0x20000

/-- Window of an engine address: 0 plain, 1 bit set, 2 bit clear, 3 rotate, 4 outside (Table 6-3). -/
def spadWin (a : Nat) : Nat := min (a / 0x20000) 4

/-- Lanes and values that stores not yet written cover in a codeword (R236). -/
def Eng.cover (x : Eng) (i : Nat) : Nat × Nat :=
  let add := fun (c : Nat × Nat) (m d : Nat) => (c.1 ||| m, mergeLanes m c.2 d)
  let c := x.pend.foldl (fun c p => if p.idx = i then add c p.mask p.data else c) (0, 0)
  match x.gather with
  | some g => if g.idx = i then add c g.mask g.data else c
  | none => c

/-! What one cycle does outside its engine. -/

/-- A finding or effect of a cycle that the rest of the device counts or acts on (Table 6-4). -/
inductive Fx where
  | ce
  | ue (word : Nat)
  | slabCe
  | slabUe (word : Nat)
  | tagErr (word got want : Nat)
  | wrote (slab : Bool) (word : Nat)
  | sat
  | clearSat
  deriving DecidableEq, Repr

/-- What an engine's cycle takes from outside: its number, VE_CTL.TAG_CHECK, the buffers of the symbol computed, its tone
group, FLAGS SAT and BYP. -/
structure EngEnv where
  num : Nat
  tagCheck : Bool
  inB : Nat
  outB : Nat
  fbB : Nat
  tg : Nat
  sat : Bool
  byp : Bool
  deriving DecidableEq, Repr

/-- A cycle in progress: the engine, its findings (latest first), whether the read port and the slab are in use. -/
structure Cy where
  x : Eng
  fx : List Fx := []
  rd : Bool := false
  c : Bool := false
  deriving DecidableEq, Repr

/-- Note a finding. -/
def Cy.note (k : Cy) (f : Fx) : Cy := { k with fx := f :: k.fx }

/-- Note a saturation where there was one. -/
def Cy.noteSat (k : Cy) (b : Bool) : Cy := if b then k.note .sat else k

/-! Scratchpad loads (R179, R184, R236). -/

/-- Lanes that a load at an address needs: two may be needed in the rotate window. -/
def loadLanes (a : Nat) : Nat :=
  let o := a % 32
  let l := o / 8
  if o % 8 = 0 then 2 ^ l else 2 ^ l ||| 2 ^ ((l + 1) % 4)

/-- The 8 bytes from byte o of 32 bytes, taken modulo 32. -/
def rotBytes (d o : Nat) : Nat := ((d >>> (8 * o)) ||| (d <<< (256 - 8 * o))) % 2 ^ 64

/-- A load of 8 bytes at an engine address, using the read port (R184, R185, R236). -/
def Cy.load (k : Cy) (a : Nat) : Cy × Nat :=
  let i := spadLoc a / 32
  let need := loadLanes a
  let c := k.x.cover i
  let k := { k with rd := true }
  if need &&& c.1 = need then (k, rotBytes c.2 (a % 32))
  else
    match decodeWord (k.x.spadWord i) with
    | .clean => (k, rotBytes (mergeLanes c.1 ((k.x.spadWord i).toNat % 2 ^ 256) c.2) (a % 32))
    | .corrected _ w => (k.note .ce, rotBytes (mergeLanes c.1 (w.toNat % 2 ^ 256) c.2) (a % 32))
    | .bad => (k.note (.ue i), rotBytes (mergeLanes c.1 0 c.2) (a % 32))

/-! Scratchpad stores (R181, R183, R236). -/

/-- Break the partial group: it waits for the read port (R236). -/
def Eng.breakGather (x : Eng) : Eng :=
  match x.gather with
  | none => x
  | some g => { x with gather := none, pend := x.pend ++ [{ idx := g.idx, mask := g.mask, data := g.data, wait := some 0 }] }

/-- A gathered store of a value at a plain address (R236). -/
def Eng.gatherStore (x : Eng) (a v : Nat) : Eng :=
  let i := spadLoc a / 32
  let l := a % 32 / 8
  let d := v * 2 ^ (64 * l)
  match x.gather with
  | some g =>
    if g.idx = i ∧ g.mask.testBit l = false then
      let m := g.mask ||| 2 ^ l
      let d := mergeLanes (2 ^ l) g.data d
      if m = 15 then
        { x with gather := none, pend := x.pend ++ [{ idx := i, mask := 15, data := d, full := true, due := 3 }] }
      else { x with gather := some ⟨i, m, d⟩ }
    else { x.breakGather with gather := some ⟨i, 2 ^ l, d⟩ }
  | none => { x with gather := some ⟨i, 2 ^ l, d⟩ }

/-- A store in the bit-set or bit-clear window: read in this cycle, written two cycles later (R181, R236). -/
def Cy.bitStore (k : Cy) (a v : Nat) : Cy :=
  let k := { k with x := k.x.breakGather, rd := true }
  let i := spadLoc a / 32
  let l := a % 32 / 8
  let c := k.x.cover i
  match decodeWord (k.x.spadWord i) with
  | .bad => k.note (.ue i)
  | r =>
    let base := match r with
      | .corrected _ w => w.toNat % 2 ^ 256
      | _ => (k.x.spadWord i).toNat % 2 ^ 256
    let old := laneOf (mergeLanes c.1 base c.2) l
    let new := if spadWin a = 1 then old ||| v else old &&& (2 ^ 64 - 1 - v)
    let d := new * 2 ^ (64 * l)
    let fix := fun (p : PendW) =>
      if p.idx = i ∧ p.mask.testBit l then { p with data := mergeLanes (2 ^ l) p.data d } else p
    { k with x := { k.x with pend := k.x.pend.map fix ++ [{ idx := i, mask := 2 ^ l, data := d, due := 3 }] } }

/-- A store of 8 bytes at an engine address whose checks have passed. -/
def Cy.store (k : Cy) (a v : Nat) : Cy :=
  if spadWin a = 0 then { k with x := k.x.gatherStore a v } else k.bitStore a v

/-- The fault of an access at an address, if any (R180, R226): 0x07 outside, 0x03 a store to the rotate window, 0x02
misaligned. -/
def addrFault (a : Nat) (isStore : Bool) : Option Nat :=
  if spadWin a = 4 then some 0x07
  else if spadWin a = 3 then (if isStore then some 0x03 else none)
  else if a % 8 ≠ 0 then some 0x02 else none

/-! The end of a cycle: writes on their way (R181, R183, R220, R234, R236). -/

/-- Write a store into the array: a whole codeword is encoded, a part merged into the word as decoded; a word that does not
decode is not written. -/
def Cy.apply (k : Cy) (p : PendW) : Cy :=
  if p.full then { k with x := k.x.setSpad p.idx (encodeWord p.data) }.note (.wrote false p.idx)
  else
    match decodeWord (k.x.spadWord p.idx) with
    | .bad => k
    | _ => { k with x := k.x.setSpad p.idx (encodeWord (mergeLanes p.mask (deliveredData (k.x.spadWord p.idx)) p.data)) }.note
        (.wrote false p.idx)

/-- The oldest flush that waits takes an idle read port (R236): its word decodes, or the write is given up. -/
def Cy.flushRead : Cy → List PendW → Cy × List PendW
  | k, [] => (k, [])
  | k, p :: ps =>
    match p.wait with
    | none =>
      match k.flushRead ps with
      | (k, ps) => (k, p :: ps)
    | some _ =>
      if k.rd then (k, p :: ps)
      else
        let k := { k with rd := true }
        match decodeWord (k.x.spadWord p.idx) with
        | .bad => (k.note (.ue p.idx), ps)
        | _ => (k, { p with wait := none, due := 3 } :: ps)

/-- Stores whose moment has come are written; the others are one cycle nearer. The answer tells whether the write port was
used. -/
def Cy.age : Cy → List PendW → Cy × List PendW × Bool
  | k, [] => (k, [], false)
  | k, p :: ps =>
    match p.wait with
    | some n =>
      match k.age ps with
      | (k, ps, u) => (k, { p with wait := some (n + 1) } :: ps, u)
    | none =>
      if p.due ≤ 1 then
        match (k.apply p).age ps with
        | (k, ps, _) => (k, ps, true)
      else
        match k.age ps with
        | (k, ps, u) => (k, { p with due := p.due - 1 } :: ps, u)

/-- Scalar register r. -/
def Eng.reg (x : Eng) (r : Nat) : Word := sparseGet (fun _ => 0) x.regs r

/-- Write scalar register r. -/
def Eng.setReg (x : Eng) (r : Nat) (v : Word) : Eng := { x with regs := sparseSet (fun _ => 0) x.regs r v }

/-- A load's value reaches its two registers. -/
def Eng.loadDone (x : Eng) (r v : Nat) : Eng :=
  (x.setReg r (BitVec.ofNat 32 (v % 2 ^ 32))).setReg (r + 1) (BitVec.ofNat 32 (v / 2 ^ 32))

/-- Loads whose latency has passed write their registers (R220). -/
def Eng.ageLoads (x : Eng) : Eng :=
  let done := x.loads.filter (fun l => decide (l.1 ≤ 1))
  let x := done.foldl (fun x l => x.loadDone l.2.1 l.2.2) x
  { x with loads := (x.loads.filter (fun l => decide (1 < l.1))).map (fun l => (l.1 - 1, l.2)) }

/-- A VCUPD result reaches the slab, and the overlay where it holds the word (R234, R266). -/
def Slab.updWrite (b : Slab) (a d : Nat) : Slab :=
  let b := b.setWord a (encodeWord d)
  match sparseGet (fun _ => none) b.overlay a with
  | some _ => { b with overlay := sparseSet (fun _ => none) b.overlay a (some d) }
  | none => b

/-- VCUPD results whose moment has come reach the slab. The answer names their words. -/
def Eng.ageSlab (x : Eng) : Eng × List Nat :=
  let done := x.slabWr.filter (fun l => decide (l.1 ≤ 1))
  let b := done.foldl (fun b l => if b.ready then b.updWrite l.2.1 l.2.2 else b) x.slab
  ({ x with slab := b, slabWr := (x.slabWr.filter (fun l => decide (1 < l.1))).map (fun l => (l.1 - 1, l.2)) },
    done.map (fun l => l.2.1))

/-- End of a VE cycle. -/
def Cy.endCycle (k : Cy) : Cy :=
  match k.flushRead k.x.pend with
  | (k, ps) =>
    match k.age ps with
    | (k, ps, wr) =>
      let x := { k.x with pend := ps }.ageLoads
      match x.ageSlab with
      | (x, sw) =>
        { k with fx := sw.map (fun a => Fx.wrote true a) ++ k.fx, x := { x with
            cyc := min (x.cyc + 1) 0xFFFFFFFF
            rdFree := !k.rd
            wrFree := !wr
            cFree := !k.c && sw.isEmpty
            usedRd := x.usedRd + b2n k.rd
            usedWr := x.usedWr + b2n wr } }

/-- A cycle without issue. -/
def Cy.idle (k : Cy) : Cy := { k with rd := false, c := false }.endCycle

/-- Cycles without issue. -/
def Cy.idles : Nat → Cy → Cy
  | 0, k => k
  | n + 1, k => (k.idle).idles n

/-- Stalls before an issue (R234, R236, Table 7-11): a flush that has waited past b + 2, and a C access in the cycle of a
VCUPD write. -/
def Cy.stalls (w : Nat) : Nat → Cy → Cy
  | 0, k => k
  | n + 1, k =>
    let late := k.x.pend.any (fun p => match p.wait with
      | some a => decide (3 ≤ a)
      | none => false)
    let clash := iAccess w 0 && k.x.slabWr.any (fun l => l.1 == 1)
    if late || clash then (k.idle).stalls w n else k

/-- Let every pending store be written, in idle cycles whose number nothing observes: an engine that waits, stops or
restarts. -/
def Cy.drain (k : Cy) : Cy :=
  let k := { k with x := k.x.breakGather }
  let c := k.x.cyc
  let r := k.x.usedRd
  let w := k.x.usedWr
  let flushes := (k.x.pend.filter (fun p => p.wait.isSome)).length
  let writes := k.x.pend.length
  let k := k.idles (flushes + 4)
  { k with x := { k.x with cyc := c, usedRd := r + flushes, usedWr := w + writes, rdFree := true, wrFree := true, cFree := true } }

/-! Address generators (R225, R227). -/

/-- Generator register i of generator g. -/
def Eng.gen (x : Eng) (g i : Nat) : Nat := sparseGet (fun _ => 0) x.gens (8 * g + i)

/-- Put a generator register. -/
def Eng.setGen (x : Eng) (g i v : Nat) : Eng := { x with gens := sparseSet (fun _ => 0) x.gens (8 * g + i) v }

/-- Width of a generator's addresses. -/
def genW (g : Nat) : Nat := if g = 0 then 16 else 20

/-- Access address of a generator (R225). -/
def Eng.genAddr (x : Eng) (g : Nat) : Nat :=
  ((((x.gen g 1 : Nat) : Int) + signedOf (genW g) (x.gen g 2)) % (2 ^ genW g : Int)).toNat

/-- A tone step, forwards or with TSTEP and TINC negated. -/
def Eng.toneStep (x : Eng) (g : Nat) (pair back : Bool) : Eng :=
  let w := genW g
  let t := signedOf w (x.gen g 5)
  let x := x.setGen g 1 ((((x.gen g 1 : Nat) : Int) + (if back then -t else t)) % (2 ^ w : Int)).toNat
  if g = 0 then
    let inc : Int := if pair then 2 else 1
    x.setGen 0 6 ((((x.gen 0 6 : Nat) : Int) + (if back then -inc else inc)) % 2048).toNat
  else x

/-- ADVANCE (R225). -/
def Eng.genAdvance (x : Eng) (g : Nat) (pair : Bool) : Eng :=
  let w := genW g
  let m := x.gen g 4
  let sum := signedOf w (x.gen g 2) + signedOf w (x.gen g 3)
  let put := fun (x : Eng) (v : Int) => x.setGen g 2 (v % (2 ^ w : Int)).toNat
  if m ≠ 0 ∧ (m : Int) ≤ sum then put (x.toneStep g pair false) (sum - m)
  else if m ≠ 0 ∧ sum < 0 then put (x.toneStep g pair true) (sum + m)
  else put x sum

/-- Update of a generator after its access (Table 7-6). -/
def Eng.genUpdate (x : Eng) (g act : Nat) (pair : Bool) : Eng :=
  match act with
  | 2 => x.genAdvance g pair
  | 3 => (x.toneStep g pair false).setGen g 2 0
  | 4 => x.setGen g 2 0
  | 5 => x.genAdvance g pair
  | 6 => (x.toneStep g pair false).setGen g 2 0
  | 7 => ((x.setGen g 1 (x.gen g 0)).setGen g 2 0).setGen g 6 0
  | _ => x

/-- Value that AGW stores (R219, R225). -/
def agwValue (g i v : Nat) : Nat :=
  if i = 6 then (if g = 0 then v % 2048 else if g = 1 then v % 6 else v % 12) else v % 2 ^ genW g

/-- Value that AGR delivers: PTR, STRIDE and TSTEP sign-extended (R219, Table 7-5). -/
def Eng.agrValue (x : Eng) (g i : Nat) : Word :=
  if i = 2 ∨ i = 3 ∨ i = 5 then BitVec.ofInt 32 (signedOf (genW g) (x.gen g i)) else BitVec.ofNat 32 (x.gen g i)

/-! The C-bus (R185, R195, R234, R235). -/

/-- The word a C access reads: a VCUPD write that is pending, else the overlay, else the slab, decoded. The answer tells
whether the tag is checked. -/
def Cy.cRead (k : Cy) (a : Nat) : Cy × Nat × Bool :=
  let k := { k with c := true }
  let b := k.x.slab
  if b.ready = false then (k, 0, false)
  else
    match (k.x.slabWr.filter (fun l => l.2.1 == a)).getLast? with
    | some l => (k, l.2.2, true)
    | none =>
      match sparseGet (fun _ => none) b.overlay a with
      | some d => (k, d, true)
      | none =>
        match decodeWord (b.word a) with
        | .clean => (k, (b.word a).toNat % 2 ^ 256, true)
        | .corrected _ w => (k.note .slabCe, w.toNat % 2 ^ 256, true)
        | .bad =>
          let lost := match b.lostWord with
            | some l => some l
            | none => some a
          (({ k with x := { k.x with slab := { b with lostWord := lost } } }).note (.slabUe a), 0, false)

/-- TONE_TAG of a coefficient word (Table 6-2). -/
def toneTag (d : Nat) : Nat := bitsOf d 15 5

/-- The tag check of a word (R178, R235). -/
def Cy.checkTag (k : Cy) (env : EngEnv) (w a d : Nat) (checked : Bool) : Cy :=
  let want := (k.x.gen 0 6 + (if iMod w 0 = 1 ∧ iVb w = 1 then 1 else 0)) % 2048
  if checked && env.tagCheck && toneTag d != want then k.note (.tagErr a (toneTag d) want) else k

/-! The vector unit (R228 to R234). -/

/-- Accumulator part: bank, lane, part (0 real, 1 imaginary). -/
def Eng.accAt (x : Eng) (b l p : Nat) : Int := sparseGet (fun _ => 0) x.acc (48 * b + 2 * l + p)

/-- Put an accumulator part. -/
def Eng.setAcc (x : Eng) (b l p : Nat) (v : Int) : Eng :=
  { x with acc := sparseSet (fun _ => 0) x.acc (48 * b + 2 * l + p) v }

/-- I component of a sample (R227). -/
def sampleI (v : Nat) : Int := signedOf 16 v
/-- Q component of a sample. -/
def sampleQ (v : Nat) : Int := signedOf 16 (v / 65536)
/-- A sample from its components. -/
def sampleOf (i q : Int) : Nat := (i % 65536).toNat + (q % 65536).toNat * 65536

/-- Mantissas of coefficient l: real and imaginary (R177). -/
def coefRe (d l : Nat) : Int := signedOf 10 (d >>> (16 + 20 * l))
/-- Imaginary mantissa. -/
def coefIm (d l : Nat) : Int := signedOf 10 (d >>> (26 + 20 * l))

/-- Add to an accumulator part, or set it, with saturation (R228, R229). -/
def Cy.accPut (k : Cy) (b l p : Nat) (fresh : Bool) (v : Int) : Cy :=
  let t := satInt 48 v
  let sum := if fresh then t else k.x.accAt b l p + t
  let r := satInt 48 sum
  ({ k with x := k.x.setAcc b l p r }).noteSat (t != v || r != sum)

/-- Sample of XH that an operation selects. -/
def Eng.xSample (x : Eng) (h : Nat) : Nat := if h = 1 then x.xh / 2 ^ 32 else x.xh % 2 ^ 32

/-- Multiply-accumulate of lanes below n (R228, R229). -/
def Cy.mac (b h v d : Nat) (fresh : Bool) : Nat → Cy → Cy
  | 0, k => k
  | n + 1, k =>
    let k := k.mac b h v d fresh n
    let xs := k.x.xSample h
    let xr := sampleI xs
    let xi := if v = 1 then -sampleQ xs else sampleQ xs
    let cr := coefRe d n
    let ci := coefIm d n
    let e : Int := (2 ^ (d % 32) : Nat)
    (k.accPut b n 0 fresh ((cr * xr - ci * xi) * e)).accPut b n 1 fresh ((cr * xi + ci * xr) * e)

/-- Sign of a component (R232). -/
def sgn (i : Int) : Int := if 0 < i then 1 else if i < 0 then -1 else 0

/-- E sample of lane l. -/
def Eng.errAt (x : Eng) (l : Nat) : Nat := sparseGet (fun _ => 0) x.err l

/-- Sign-error correlation of lanes below n (R232). -/
def Cy.corr (b h : Nat) : Nat → Cy → Cy
  | 0, k => k
  | n + 1, k =>
    let k := k.corr b h n
    let xs := k.x.xSample h
    let xr := sampleI xs
    let xi := sampleQ xs
    let sr := sgn (sampleI (k.x.errAt n))
    let si := sgn (sampleQ (k.x.errAt n))
    (k.accPut b n 0 false (sr * xr + si * xi)).accPut b n 1 false (si * xr - sr * xi)

/-- A mask with bit b as given. -/
def putBit (m b : Nat) (v : Bool) : Nat := if v then setBit m b else clrBit m b

/-- Snap of lanes below n of a bank (R230). -/
def Cy.snapLanes (b : Nat) : Nat → Cy → Cy
  | 0, k => k
  | n + 1, k =>
    let k := k.snapLanes b n
    let sh := min k.x.osh 47
    let i := k.x.accAt b n 0 / (2 ^ sh : Nat)
    let q := k.x.accAt b n 1 / (2 ^ sh : Nat)
    let o := sparseSet (fun _ => 0) k.x.orf (12 * b + n) (sampleOf (satInt 16 i) (satInt 16 q))
    ({ k with x := { k.x with orf := o } }).noteSat (satInt 16 i != i || satInt 16 q != q)

/-- Snap of a bank: VALID takes LIVE (R230). -/
def Cy.snap (b : Nat) (k : Cy) : Cy :=
  let k := k.snapLanes b 12
  { k with x := { k.x with valid := putBit k.x.valid b (k.x.live.testBit b) } }

/-- Clear a bank (R231, Table 7-7). -/
def Cy.clearBank (b : Nat) (k : Cy) : Cy :=
  { k with x := { k.x with
      acc := k.x.acc.filter (fun p => !(decide (48 * b ≤ p.1) && decide (p.1 < 48 * b + 48)))
      live := clrBit k.x.live b } }

/-- A bank is written. -/
def Cy.goLive (b : Nat) (k : Cy) : Cy := { k with x := { k.x with live := setBit k.x.live b } }

/-- Coefficient update of the 12 lanes below n (R234): the new word, and whether a mantissa saturated. -/
def Eng.updLanes (x : Eng) (b : Nat) (d : Nat) : Nat → Nat × Bool
  | 0 => (d, false)
  | n + 1 =>
    let r := x.updLanes b d n
    let sh := min x.ush 47
    let re := coefRe d n + x.accAt b n 0 / (2 ^ sh : Nat)
    let im := coefIm d n + x.accAt b n 1 / (2 ^ sh : Nat)
    let lo := 16 + 20 * n
    (putBits (putBits r.1 (lo + 9) lo ((satInt 10 re) % 1024).toNat) (lo + 19) (lo + 10) ((satInt 10 im) % 1024).toNat,
      r.2 || satInt 10 re != re || satInt 10 im != im)

/-- The vector operation of an instruction, on the C-bus word d read at A (Table 7-7). -/
def Cy.vector (k : Cy) (w a d : Nat) : Cy :=
  let b := iVb w
  match iVo w with
  | 1 => (k.mac b (iVh w) (iVv w) d false 12).goLive b
  | 2 => ((k.snap b).mac b (iVh w) (iVv w) d true 12).goLive b
  | 3 => (k.corr b (iVh w) 12).goLive b
  | 4 =>
    let l := k.x.gen 1 6
    let put := fun (m : Sparse Nat) (i v : Nat) => sparseSet (fun _ => 0) m i v
    let e := put (put k.x.err (2 * l) (k.x.xh % 2 ^ 32)) (2 * l + 1) (k.x.xh / 2 ^ 32)
    { k with x := { k.x with err := e }.setGen 1 6 ((l + 1) % 6) }
  | 5 =>
    let r := k.x.updLanes b d 12
    ({ k with x := { k.x with slabWr := k.x.slabWr ++ [(3, (a + k.x.gen 0 7) % 65536, r.1)] } }).noteSat r.2
  | 6 =>
    let banks := if iVh w = 1 then [0, 1] else [b]
    banks.foldl (fun k b => if iVv w = 1 then (k.snap b).clearBank b else k.snap b) k
  | 7 => (if iVh w = 1 then [0, 1] else [b]).foldl (fun k b => k.clearBank b) k
  | _ => k

/-- ORF sample of a bank's lane. -/
def Eng.orfAt (x : Eng) (b l : Nat) : Nat := sparseGet (fun _ => 0) x.orf (12 * b + l)

/-- Is a Y store of a source suppressed (R231)? -/
def Eng.suppressed (x : Eng) (src : Nat) : Bool :=
  match src with
  | 0 => x.valid % 4 != 3
  | 1 => x.valid.testBit 0 == false
  | 2 => x.valid.testBit 1 == false
  | _ => false

/-- Value of a Y store and YLANE afterwards (R225, Table 7-6). -/
def Eng.yValue (x : Eng) (src : Nat) : Nat × Nat :=
  let l := x.gen 2 6
  let y := l % 6
  let two := fun (f : Nat → Nat) => f (2 * y) + f (2 * y + 1) * 2 ^ 32
  match src with
  | 0 => (x.orfAt 0 l + x.orfAt 1 l * 2 ^ 32, if l = 11 then 0 else l + 1)
  | 1 => (two (x.orfAt 0), if y = 5 then 0 else y + 1)
  | 2 => (two (x.orfAt 1), if y = 5 then 0 else y + 1)
  | _ => (two x.errAt, if y = 5 then 0 else y + 1)

/-! Reset of an engine (R245). -/

/-- The state a reset command leaves: registers, generators, accumulators, ORF, E, XH, special registers and loop stack 0;
the memories, slab and records stay. -/
def Eng.cleared (x : Eng) : Eng :=
  { x with
    pc := 0, regs := [], gens := [], acc := [], orf := [], err := [], xh := 0, live := 0, valid := 0, osh := 0, ush := 0
    ie := 0, ip := 0, epc := 0, restart := 0, hm := false, loops := [], afterEnd := false, rep := none, slots := none
    wait := none, intWait := none, edge := false, sdone := 0, loads := [], slabWr := [], pend := [], gather := none
    rdFree := true, wrFree := true, cFree := true }

/-- Stop at once: pending writes end, REP, loops and delay slots are abandoned (R202, R244). -/
def Eng.halt (x : Eng) (st : EngSt) : Eng :=
  { x with st := st, loops := [], rep := none, slots := none, wait := none, intWait := none, edge := false, afterEnd := false }

end Sys2Proof.Machine
end

