-- ==== Sys2Proof/Machine/EngIssue.lean ====
section
/-! DEFINITION. The issue of one instruction: fetch, legality, faults, the five operations, the next instruction, interrupts
(chapter 07). Choices: log 16. -/

namespace Sys2Proof.Machine

/-! Where execution goes next (R221, R238 to R241, R247). -/

/-- The end instruction at pc has been issued or passed: iterations end, innermost first (R239). HM suspends the loops. -/
def passEnd (hm : Bool) (pc : Nat) : List LoopFr → Nat × List LoopFr
  | [] => ((pc + 1) % 2048, [])
  | f :: fs =>
    if hm = false ∧ f.last = pc then
      if 1 < f.left then (f.start, { f with left := f.left - 1, first := false } :: fs) else passEnd hm pc fs
    else ((pc + 1) % 2048, f :: fs)

/-- Execution continues after instruction pc. -/
def Eng.after (x : Eng) (pc : Nat) : Eng :=
  match passEnd x.hm pc x.loops with
  | (n, fs) =>
    let ends := match fs with
      | f :: _ => decide (f.last = pc)
      | [] => false
    { x with pc := n, loops := fs, afterEnd := ends }

/-- Loops that a taken branch leaves open (R240). -/
def keepLoops (t : Nat) : List LoopFr → List LoopFr
  | [] => []
  | f :: fs => if f.start ≤ t ∧ t ≤ f.last then f :: fs else keepLoops t fs

/-- The second delay slot has been issued: the branch takes effect (R221, R240, R247); what a WAITT remembers ends with a RETI
that returns elsewhere (R248). -/
def Eng.land (x : Eng) (pc : Nat) (sl : Slots) : Eng :=
  let x := { x with slots := none }
  let x := match sl.target with
    | some t => { x with pc := t, loops := if x.hm then x.loops else keepLoops t x.loops, afterEnd := false }
    | none => x.after pc
  if sl.reti then
    let x := { x with ie := setBit x.ie 4, hm := false }
    match x.intWait with
    | some (_, p) => if p = x.pc then x else { x with intWait := none, edge := false }
    | none => x
  else x

/-- The next instruction after an ordinary one at pc. -/
def Eng.next (x : Eng) (pc : Nat) : Eng :=
  match x.rep with
  | some n => if 1 < n then { x with rep := some (n - 1) } else { x with rep := none }.after pc
  | none =>
    match x.slots with
    | some sl =>
      if 1 < sl.left then { x with pc := (pc + 1) % 2048, slots := some { sl with left := sl.left - 1 }, afterEnd := false }
      else x.land pc sl
    | none => x.after pc

/-- A branch opens two delay slots (R221). -/
def Eng.openSlots (x : Eng) (target : Option Nat) (reti : Bool) : Eng :=
  { x with pc := (x.pc + 1) % 2048, slots := some ⟨2, target, reti⟩, afterEnd := false }

/-- Count of a REP or LOOP (R238, R239). -/
def Eng.countOf (x : Eng) (w top : Nat) : Nat :=
  if bitsOf w 29 29 = 1 then min ((x.reg (iRd w)).toNat % 65536) top else bitsOf w 23 12 + 1

/-- REP: n times the next instruction; with n 0 it is passed (R238). -/
def Eng.doRep (x : Eng) (w : Nat) : Eng :=
  let n := if bitsOf w 29 29 = 1 then min (x.reg (iRd w)).toNat 4096 else bitsOf w 23 12 + 1
  let p := (x.pc + 1) % 2048
  if n = 0 then { x with pc := p }.after p else { x with pc := p, rep := some n, afterEnd := false }

/-! Fetch (R241). -/

/-- What a fetch gives: an instruction, or an uncorrectable word. ce: the word was corrected. -/
structure Fetched where
  word : Option Nat
  ce : Bool := false
  deriving DecidableEq, Repr

/-- Instruction i of the instruction memory. -/
def Eng.fetchAt (x : Eng) (i : Nat) : Fetched :=
  let c := sparseGet (fun _ => 0) x.imem (i / 4)
  let cut := fun (d : Nat) => (d >>> (64 * (i % 4))) % 2 ^ 64
  match decodeWord c with
  | .clean => ⟨some (cut c.toNat), false⟩
  | .corrected _ w => ⟨some (cut w.toNat), true⟩
  | .bad => ⟨none, false⟩

/-- The loop cache of a body from p to q: its instructions, and whether it may be held: 32 instructions or fewer, none of them
a LOOP (R241). -/
def Eng.bodyOf (x : Eng) (p q : Nat) : Bool × Sparse (Option Nat) :=
  if p + 32 ≤ q then (false, [])
  else
    let ws := (List.range (q + 1 - p)).filterMap (fun i => (x.fetchAt (p + i)).word.map (fun w => (p + i, some w)))
    if ws.any (fun c => iSop (c.2.getD 0) == 0x28) then (false, []) else (true, ws)

/-- LOOP: n times its body; with n 0 its end is passed (R239, R241). -/
def Eng.doLoop (x : Eng) (w : Nat) : Eng :=
  let n := x.countOf w 65535
  if n = 0 then x.after (iTgt w)
  else
    let p := (x.pc + 1) % 2048
    let body := x.bodyOf p (iTgt w)
    { x with
      pc := p, loops := { start := p, last := iTgt w, left := n, held := body.1, cache := body.2 } :: x.loops, afterEnd := false }

/-- The instruction at VE_PC: from the loop cache in the later iterations of a body that it holds (R241). -/
def Eng.fetch (x : Eng) : Fetched :=
  match x.loops with
  | f :: _ =>
    if x.hm = false ∧ f.held ∧ f.first = false ∧ f.start ≤ x.pc ∧ x.pc ≤ f.last then
      match sparseGet (fun _ => none) f.cache x.pc with
      | some w => ⟨some w, false⟩
      | none => x.fetchAt x.pc
    else x.fetchAt x.pc
  | [] => x.fetchAt x.pc

/-! Legality and faults (R218, R221, R226, R237 to R239, R247). -/

/-- Is pc among the last n instructions of an active body? -/
def Eng.inTail (x : Eng) (n : Nat) : Bool :=
  !x.hm && x.loops.any (fun f => decide (x.pc ≤ f.last) && decide (f.last < x.pc + n))

/-- Is an instruction illegal where it stands? -/
def Eng.illegalHere (x : Eng) (w : Nat) : Bool :=
  let sop := iSop w
  let ctl := isBranch w || sop == 0x27 || sop == 0x28 || sop == 0x29
  (x.slots.isSome && ctl) || (x.rep.isSome && (ctl || sop == 0x2A)) ||
  (isBranch w && x.inTail 3) || (sop == 0x27 && x.inTail 1) ||
  (sop == 0x28 &&
    (x.hm || decide (3 ≤ x.loops.length) || decide (iTgt w < x.pc + 1) ||
      (match x.loops with
       | f :: _ => decide (f.last < iTgt w)
       | [] => false)))

/-- Address of a scalar load or store. -/
def Eng.pairAddr (x : Eng) (w : Nat) : Nat :=
  ((x.reg (iRa w)) + BitVec.ofInt 32 (signedOf 20 (iImm w))).toNat

/-- Does a store at an address take the read port: bit-set or bit-clear window? -/
def isBitWin (a : Nat) : Bool := spadWin a == 1 || spadWin a == 2

/-- Operations of an instruction that take the read port in its issue cycle (R237). -/
def Eng.readUsers (x : Eng) (w : Nat) : Nat :=
  b2n (iAccess w 1) + b2n (iSop w == 0x1A) + b2n (iAccess w 2 && isBitWin (x.genAddr 2)) +
    b2n (iSop w == 0x1B && isBitWin (x.pairAddr w))

/-- The fault that an instruction raises at issue, if any: 0x01 first, then its addresses in the order X, Y, LDP or STP. -/
def Eng.faultOf (x : Eng) (w : Nat) : Option Nat :=
  if illegalForm w || x.illegalHere w || decide (2 ≤ x.readUsers w) then some 0x01
  else
    (if iAccess w 1 then addrFault (x.genAddr 1) false else none)
    <|> (if iAccess w 2 then addrFault (x.genAddr 2) true else none)
    <|> (if iSop w == 0x1A then addrFault (x.pairAddr w) false else none)
    <|> (if iSop w == 0x1B then addrFault (x.pairAddr w) true else none)

/-! The scalar unit (R219, R222, R223). -/

/-- Leading zeros of a 32-bit value among its bits below n. -/
def clz (v : Nat) : Nat → Nat
  | 0 => 0
  | n + 1 => if v.testBit n then 0 else clz v n + 1

/-- Result of a register or immediate operation (Table 7-3); none: the opcode is not one. -/
def scalarOp (sop : Nat) (a b : Word) (imm : Nat) : Option Word :=
  let zx := BitVec.ofNat 32 imm
  let sx := BitVec.ofInt 32 (signedOf 20 imm)
  let flag := fun (c : Bool) => BitVec.ofNat 32 (b2n c)
  match sop with
  | 0x01 => some (a + b)
  | 0x02 => some (a - b)
  | 0x03 => some (a &&& b)
  | 0x04 => some (a ||| b)
  | 0x05 => some (a ^^^ b)
  | 0x06 => some (a <<< (b.toNat % 32))
  | 0x07 => some (a >>> (b.toNat % 32))
  | 0x08 => some (a.sshiftRight (b.toNat % 32))
  | 0x09 => some (if a.slt b then a else b)
  | 0x0A => some (if a.slt b then b else a)
  | 0x0B => some (a * b)
  | 0x0C => some (BitVec.ofNat 32 (clz a.toNat 32))
  | 0x0D => some (flag (a == b))
  | 0x0E => some (flag (a.slt b))
  | 0x0F => some (flag (a.ult b))
  | 0x10 => some (a + sx)
  | 0x11 => some (a &&& zx)
  | 0x12 => some (a ||| zx)
  | 0x13 => some (a ^^^ zx)
  | 0x14 => some (a <<< (imm % 32))
  | 0x15 => some (a >>> (imm % 32))
  | 0x16 => some (a.sshiftRight (imm % 32))
  | 0x17 => some sx
  | 0x18 => some (BitVec.ofNat 32 (imm * 4096))
  | _ => none

/-- One division step: remainder and quotient (R222). same: rd and rb name one register. -/
def dstep (rd ra rb : Word) (same : Bool) : Word × Word :=
  let r := if rd.msb then (rd <<< 1) + ra else (rd <<< 1) - ra
  let q := if same then r else rb
  (r, (q <<< 1) ||| BitVec.ofNat 32 (b2n (!r.msb)))

/-- Special register n (Table 7-4). -/
def Eng.special (x : Eng) (env : EngEnv) (n : Nat) : Nat :=
  match n with
  | 0x00 => env.inB
  | 0x01 => env.outB
  | 0x02 => env.fbB
  | 0x03 => x.tickLo
  | 0x04 => x.ticWord
  | 0x05 => x.plan
  | 0x06 => x.tones
  | 0x07 => env.num + env.tg * 256
  | 0x08 => x.cyc
  | 0x10 => x.osh
  | 0x11 => x.ush
  | 0x12 => x.ie
  | 0x13 => x.ip
  | 0x14 => x.epc
  | 0x15 => x.restart
  | 0x16 => b2n env.sat + 2 * b2n env.byp + 4 * b2n x.hm + 16 * (x.live % 4) + 64 * (x.valid % 4) +
      256 * min x.loops.length 3
  | _ => 0

/-- MTS (R223, R224). -/
def Cy.mts (k : Cy) (n : Nat) (v : Nat) : Cy :=
  let x := k.x
  match n with
  | 0x10 => { k with x := { x with osh := v } }
  | 0x11 => { k with x := { x with ush := v } }
  | 0x12 => { k with x := { x with ie := v % 32 } }
  | 0x13 => { k with x := { x with ip := x.ip &&& (15 - v % 16) } }
  | 0x14 => { k with x := { x with epc := v % 2048 } }
  | 0x15 => { k with x := { x with restart := v % 2048 } }
  | 0x16 => if bit v 0 then k.note .clearSat else k
  | _ => k

/-- Register writes of an instruction, from the registers as they stood (R219). -/
def Eng.scalarWrites (x : Eng) (env : EngEnv) (w : Nat) : List (Nat × Word) :=
  let sop := iSop w
  match scalarOp sop (x.reg (iRa w)) (x.reg (iRb w)) (iImm w) with
  | some v => [(iRd w, v)]
  | none =>
    if sop = 0x19 then
      let r := dstep (x.reg (iRd w)) (x.reg (iRa w)) (x.reg (iRb w)) (iRd w == iRb w)
      [(iRd w, r.1), (iRb w, r.2)]
    else if sop = 0x1D then [(iRd w, x.agrValue (iGen w) (iGreg w))]
    else if sop = 0x1E then [(iRd w, BitVec.ofNat 32 (x.special env (iSpr w)))]
    else if sop = 0x26 then [(15, BitVec.ofNat 32 (x.pc + 3))]
    else []

/-- Is a branch taken, and where to (Table 7-3)? -/
def Eng.branchTarget (x : Eng) (w : Nat) : Option Nat :=
  let a := x.reg (iRd w)
  let b := x.reg (iRa w)
  let t := some (iTgt w)
  match iSop w with
  | 0x20 => if a = b then t else none
  | 0x21 => if a = b then none else t
  | 0x22 => if a.slt b then t else none
  | 0x23 => if a.slt b then none else t
  | 0x25 => some ((x.reg (iRa w)).toNat % 2048)
  | _ => t

/-! One issue. -/

/-- The vector engine's memory and vector operations of one instruction: C access, X access, scalar load, vector operation,
Y store, generator updates (R217, R227, R233, R236). -/
def Cy.operate (k : Cy) (env : EngEnv) (w : Nat) : Cy :=
  let x0 := k.x
  let aC := x0.genAddr 0
  let r := if iAccess w 0 then k.cRead aC else (k, 0, false)
  let k := if iAccess w 0 then r.1.checkTag env w aC r.2.1 r.2.2 else k
  let k := if iAccess w 1 then (let l := k.load (x0.genAddr 1); { l.1 with x := { l.1.x with xh := l.2 } }) else k
  let k := if iSop w = 0x1A then
      (let l := k.load (x0.pairAddr w); { l.1 with x := { l.1.x with loads := l.1.x.loads ++ [(3, iRd w, l.2)] } })
    else k
  let k := k.vector w aC r.2.1
  let k := if iAccess w 2 then
      (let y := k.x.yValue (iMod w 2)
       let k := if k.x.suppressed (iMod w 2) then k else k.store (x0.genAddr 2) y.1
       { k with x := k.x.setGen 2 6 y.2 })
    else k
  let k := if iSop w = 0x1B then
      k.store (x0.pairAddr w) ((x0.reg (iRd w)).toNat + (x0.reg (iRd w + 1)).toNat * 2 ^ 32)
    else k
  let pair := iMod w 0 == 1
  { k with x := ((k.x.genUpdate 0 (iAct w 0) pair).genUpdate 1 (iAct w 1) false).genUpdate 2 (iAct w 2) false }

/-- Register, generator and special-register writes of an instruction, and its effect on what issues next. x0 is the engine
before it. -/
def Cy.control (k : Cy) (x0 : Eng) (env : EngEnv) (w : Nat) : Cy :=
  let sop := iSop w
  let ws := x0.scalarWrites env w
  let k := { k with x := ws.foldl (fun (x : Eng) (p : Nat × Word) => x.setReg p.1 p.2) k.x }
  let k := if sop = 0x1C then
      { k with x := k.x.setGen (iGen w) (iGreg w) (agwValue (iGen w) (iGreg w) (x0.reg (iRd w)).toNat) } else k
  let k := if sop = 0x1F then k.mts (iSpr w) (x0.reg (iRd w)).toNat else k
  let x := k.x
  if sop = 0x2B then { k with x := x.openSlots (some x.epc) true }
  else if isBranch w then { k with x := x.openSlots (x0.branchTarget w) false }
  else if sop = 0x27 then { k with x := x.doRep w }
  else if sop = 0x28 then { k with x := x.doLoop w }
  else if sop = 0x29 then
    let x := { x.breakGather with live := 0, valid := 0 }
    if x.hm then { k with x := { x with wait := some (w % 2) } }
    else
      let back := x.edge && (match x.intWait with
        | some (_, pc) => pc == x.pc
        | none => false)
      let x := { x with intWait := none, edge := false }
      if back then { k with x := x.next x.pc } else { k with x := { x with wait := some (w % 2) } }
  else if sop = 0x2A then
    let x := x.breakGather
    let x := if x.sdone = 0 then { x with sdone := 1, pend := x.pend.map (fun (p : PendW) => { p with old := true }) } else x
    { k with x := x.next x.pc }
  else { k with x := x.next x.pc }

/-- What an engine's cycle takes from outside. -/
def State.engEnv (s : State) (e : Nat) : EngEnv :=
  let x := s.eng e
  let base := fun i => s.fld (F.VE_BUF_BASE e i) * 32
  let byp := match s.serves e with
    | some (g, k) =>
      let grp := s.vg g
      let t := grp.tg k
      t.est || t.lostByp || bit x.plan 8 ||
        (match grp.comp with
         | some y => y.byp.contains k
         | none => false)
    | none => false
  { num := e, tagCheck := s.flag (F.VE_CTL_TAG_CHECK e), inB := base x.par, outB := base (2 + x.par),
    fbB := base (4 + x.par), tg := s.tgCode e, sat := s.flag (F.VE_STATUS_SAT e), byp := byp }

/-- The symbol that an engine computes is sent as bypass (R185, R192). -/
def State.bypassSymbol (s : State) (e : Nat) : State :=
  match s.serves e with
  | none => s
  | some (g, k) =>
    let x := s.vg g
    match x.comp with
    | some y => if y.byp.contains k then s else s.setVg g { x with comp := some { y with byp := k :: y.byp } }
    | none => s

/-- Interrupt cause n becomes pending (Table 7-9). -/
def State.raiseIp (s : State) (e n : Nat) : State := s.setEng e { s.eng e with ip := setBit (s.eng e).ip n }

/-- A user has written word i of a memory of engine e, 4 slab, 5 scratchpad, 6 instruction memory: an armed injection falls on it
(R525). -/
def State.injectEng (s : State) (m e i : Nat) : State :=
  match s.injection m with
  | none => s
  | some d =>
    let s := s.setFld F.MEM_INJ_GO 0
    let x := s.eng e
    s.setEng e (match m with
      | 4 => { x with slab := x.slab.setWord i (x.slab.word i ^^^ d) }
      | 5 => x.setSpad i (x.spadWord i ^^^ d)
      | _ => { x with imem := sparseSet (fun _ => 0) x.imem i (sparseGet (fun _ => 0) x.imem i ^^^ d) })

/-- Act on a finding of a cycle (Table 6-4, R229); uncorrectable words are logged (R525). -/
def State.applyFx (s : State) (e : Nat) (f : Fx) : State :=
  match f with
  | .ce => s.bump (C.VE_SPAD_CE e)
  | .ue w =>
    let s := (s.bump (C.VE_SPAD_UE e)).logUe 5 (4096 * e + w) 1
    let s := s.setEng e { s.eng e with ueCyc := (s.eng e).ueCyc + 1, ip := setBit (s.eng e).ip 2 }
    (s.bypassSymbol e).raiseRow (engSource e) 2 6 6 2 [(2, w), (4, s.tick32)]
  | .slabCe => s.bump (C.SLAB_CE e)
  | .slabUe w => ((s.bump (C.SLAB_UE e)).logUe 4 (65537 * e + w) 1).bypassSymbol e
  | .tagErr w got want =>
    ((s.bump (C.VE_TAG_ERR e)).bypassSymbol e |>.raiseIp e 2).raiseRow (engSource e) 2 6 7 2 [(2, w), (2, got), (2, want)]
  | .wrote slab w => s.injectEng (if slab then 4 else 5) e w
  | .sat => s.setFld (F.VE_STATUS_SAT e) 1
  | .clearSat => s.setFld (F.VE_STATUS_SAT e) 0

/-- Put a cycle's engine into the state and act on its findings, oldest first; a flag cleared in the cycle and set in it
stays set (R224). -/
def State.endCy (s : State) (e : Nat) (k : Cy) : State :=
  let s := s.setEng e k.x
  let s := if k.fx.contains .clearSat then s.applyFx e .clearSat else s
  (k.fx.reverse.filter (fun f => f != .clearSat)).foldl (fun s f => s.applyFx e f) s

/-! Retirement (R204 to R207). -/

/-- Replace the list of engines that retire. -/
def State.setRetiring (s : State) (rs : List Retiring) : State := s.setVec { s.vec with retiring := rs }

/-- Is a slab ON and READY with no work in progress, so that the copy path may reach it (R195)? -/
def Slab.atRest (b : Slab) : Bool := b.mode == 2 && b.ready && b.work == .none

/-- Lowest-numbered SPARE engine that backs a group (R205), its slab open to the copy path (R195). -/
def State.spareFor (s : State) (g : Nat) : Option Nat :=
  (List.range 96).find? (fun e => (s.eng e).st == .spare && (s.eng e).spareOf == some g && (s.eng e).slab.atRest &&
    !(s.vec.retiring.any (fun r => r.spare == some e)))

/-- Mark slab work, with the mode changes that wait for its end (R195). -/
def State.setWork (s : State) (e : Nat) (w : SlabWork) : State := s.setSlab e { (s.eng e).slab with work := w }

/-- The copy path takes up the first engine that waits for it (R205, R207): to the lowest spare, or none is there. An engine
whose slab accepts no read yet waits until it does (R195, log 15). fuel bounds the engines that find no spare. -/
def State.startCopy (s : State) : Nat → State
  | 0 => s
  | n + 1 =>
    if s.vec.retiring.any (fun r => r.copying) then s
    else
      match s.vec.retiring.find? (fun r => !r.copying && !r.copied &&
          ((s.eng r.eng).slab.atRest || (s.spareFor r.group).isNone)) with
      | none => s
      | some r =>
        let put := fun (s : State) (r' : Retiring) =>
          s.setRetiring (s.vec.retiring.map (fun q => if q.eng = r.eng then r' else q))
        match s.spareFor r.group with
        | some sp => ((put s { r with spare := some sp, copying := true }).setWork r.eng .copy).setWork sp .copy
        | none =>
          let s := (put s { r with copied := true, cmd := none }).raiseRow 0x0030 1 6 4 2 [(1, r.eng), (1, r.tg)]
          let s := match r.cmd with
            | some c => s.endLater c.1 c.2 ⟨stNoResource, 0, []⟩
            | none => s
          s.startCopy n

/-- A retirement trigger (R204, R205): cause 0 overruns, 1 scratchpad reads, 2 fetch, 3 command. auto: AUTO taken as 1. -/
def State.trigger (s : State) (e cause : Nat) (auto : Bool) (cmd : Option (Nat × Nat)) : State :=
  let tg := s.tgCode e
  let s := s.raiseRow 0x0030 1 6 3 2 [(1, e), (1, cause), (1, tg)]
  let k := Cy.drain { x := s.eng e }
  let s := (s.endCy e { k with x := k.x.halt (if auto then .retiring else .halted) }).bypassSymbol e
  if auto then
    let g := match s.serves e with
      | some (g, _) => g
      | none => 255
    (s.setRetiring (s.vec.retiring ++ [{ eng := e, group := g, tg := tg, cmd := cmd }])).startCopy 96
  else s

/-- UE_THR and OVR_THR in force (Table 6-13). -/
def State.ueThr (s : State) : Nat := let n := s.fld F.VE_RETIRE_CFG_UE_THR; if n = 0 then 2 else n
/-- OVR_THR in force. -/
def State.ovrThr (s : State) : Nat := let n := s.fld F.VE_RETIRE_CFG_OVR_THR; if n = 0 ∨ 36 < n then 1 else n

/-- Uncorrectable scratchpad reads have reached their threshold (R204). -/
def State.checkUe (s : State) (e : Nat) : State :=
  let x := s.eng e
  if x.st = .running ∧ s.ueThr ≤ x.ueCyc then s.trigger e 1 (s.flag F.VE_RETIRE_CFG_AUTO) none else s

/-- An engine fault (R201, R218, R226, Table 6-14). -/
def State.engFault (s : State) (e code pc : Nat) : State :=
  let k := Cy.drain { x := s.eng e }
  let s := s.endCy e { k with x := { k.x.halt .halted with faultCode := code, faultPc := pc } }
  (s.bypassSymbol e).raiseRow (engSource e) 1 6 1 2 [(1, code), (2, pc), (4, s.tick32)]

/-- An uncorrectable instruction fetch (R185, R204). -/
def State.fetchFault (s : State) (e : Nat) : State :=
  let x := s.eng e
  let s := (s.bump (C.VE_IMEM_UE e)).logUe 6 (512 * e + x.pc / 4) 1
  let s := s.setEng e { x with faultCode := 0x04, faultPc := x.pc }
  s.trigger e 2 (s.flag F.VE_RETIRE_CFG_AUTO) none

/-- Cause of the interrupt that is due at this boundary (R246). -/
def Eng.intDue (x : Eng) : Option Nat :=
  let c := x.ip &&& x.ie
  if bit x.ie 4 && x.slots.isNone && x.rep.isNone && (x.hm || x.loops.isEmpty || x.afterEnd) then
    (List.range 4).find? (fun n => c.testBit n)
  else none

/-- May an engine issue now: RUNNING, no WAITT withholds, no interrupt is due (R217, R246)? -/
def Eng.mayIssue (x : Eng) : Bool := x.st == .running && x.wait.isNone && (x.intDue).isNone

/-- Issue the instruction at VE_PC, w, in one VE cycle after its stalls (R217, R249). -/
def State.issueWord (s : State) (e w : Nat) (ce : Bool) : State :=
  let s := if ce then s.bump (C.VE_SPAD_CE e) else s
  let env := s.engEnv e
  let k := Cy.stalls w 4 { x := s.eng e }
  match k.x.faultOf w with
  | some c => (s.endCy e k).engFault e c k.x.pc
  | none =>
    let k := { k with rd := false, c := false }
    let x0 := k.x
    let k := ((k.operate env w).control x0 env w).endCycle
    let k := if k.x.wait.isSome then k.drain else k
    (s.endCy e k).checkUe e

/-- Is the VE clock gated: steps 2 to 5 of an entry (Table 19-4)? -/
def State.veGated (s : State) : Bool := s.pwr.busy && !s.pwr.exiting && decide (2 ≤ s.pwr.step)

/-- An instruction of a row issues: nothing happens unless engine e is at an instruction that the row names. -/
def State.issue (s : State) (e : Nat) (pick : Nat → Bool) : State :=
  let x := s.eng e
  if x.mayIssue ∧ s.veGated = false then
    match x.fetch with
    | ⟨none, _⟩ => s.fetchFault e
    | ⟨some w, ce⟩ => if pick w then s.issueWord e w ce else s
  else s

/-- The highest pending enabled cause is taken (R246): idle cycles a waiting engine has spent, then two without issue. -/
def State.enterInt (s : State) (e idle : Nat) : State :=
  let x := s.eng e
  match x.st == .running && !s.veGated, x.intDue with
  | true, some n =>
    let iw := match x.wait with
      | some m => some (m, x.pc)
      | none => x.intWait
    let x := { x with cyc := min (x.cyc + (if x.wait.isSome then idle else 0)) 0xFFFFFFFF }
    let x := { x with
      epc := x.pc, ie := clrBit x.ie 4, hm := true, wait := none, intWait := iw, pc := 2032 + 4 * n, afterEnd := false }
    s.endCy e (Cy.idles 2 { x := x })
  | _, _ => s

end Sys2Proof.Machine
end

