-- ==== Sys2Proof/Machine/SlabOps.lean ====
section
/-! DEFINITION. Slabs: modes, wake, loss and reload; start, stop and reset of engines; the copy path (chapter 06).
Choices: log 15. -/

namespace Sys2Proof.Machine

/-- Is the power state OVERCAST (Table 19-2)? -/
def State.overcast (s : State) : Bool := s.pwr.state == 2

/-- Data of an engine's canary word (R197). -/
def canaryData (e : Nat) : Nat :=
  (List.range 16).foldl (fun d j => d + (0xA55A ^^^ (j * 0x1111) ^^^ e) * 2 ^ (16 * j)) 0

/-- Drain a whole overlay into its slab (R266). -/
def Slab.drainAll (b : Slab) : Slab :=
  { b.overlay.foldl (fun b p => match p.2 with
      | some d => b.setWord p.1 (encodeWord d)
      | none => b) b with overlay := [] }

/-- A slab takes a mode at once (Table 6-6). -/
def Slab.setMode (b : Slab) (e mode : Nat) : Slab :=
  if mode = b.mode then b
  else
    match mode with
    | 0 => { b with mode := 0, ready := false, words := [], overlay := [], lostWord := none }
    | 1 => if b.mode = 2 then { b.drainAll.setWord 65536 (encodeWord (canaryData e)) with mode := 1, ready := false } else b
    | _ => { b with mode := 2, ready := false, work := if b.mode = 0 then .zeroFill else .wakeScrub }

/-- Does work of a slab delay a mode change (R195)? -/
def Slab.working (b : Slab) : Bool := b.work != .none || !b.overlay.isEmpty

/-- A mode change is requested: it waits for work to end (R195). -/
def Slab.request (b : Slab) (e mode : Nat) : Slab :=
  if b.working then { b with want := some mode } else b.setMode e mode

/-- A mode change that waits takes effect once no work delays it (R195). -/
def Slab.settle (b : Slab) (e : Nat) : Slab :=
  match b.want with
  | some m => if b.working then b else { b with want := none }.setMode e m
  | none => b

/-- May a mode be requested of an engine's slab (R196)? -/
def State.modeOk (s : State) (e mode : Nat) : Bool := (s.eng e).st != .running || mode == 2

/-- What waits for the work of an engine's slab takes effect. -/
def State.settleSlab (s : State) (e : Nat) : State := s.setSlab e ((s.eng e).slab.settle e)

/-- Request a slab mode, from SLAB_CTL or a command. -/
def State.slabRequest (s : State) (e mode : Nat) : State :=
  let s := s.setFld (F.SLAB_CTL_MODE e) mode
  s.setSlab e ((s.eng e).slab.request e mode)

/-- An OFF engine that ENG_SPARE designates becomes SPARE once its slab is ON and READY and the rail is on (Table 6-7). -/
def State.spareReady (s : State) (e : Nat) : State :=
  let x := s.eng e
  if x.st = .off ∧ s.vec.veOff = false ∧ x.spadFilled ∧ x.imemLoaded ∧ x.retd = false ∧ x.spareOf.isSome ∧ x.slab.mode = 2 ∧
      x.slab.ready then
    s.setEng e { x with st := .spare }
  else s

/-- An engine leaves OFF once firmware has reloaded its instruction memory and zero-filled its scratchpad (Table 6-7). -/
def State.leaveOff (s : State) (e : Nat) : State :=
  let x := s.eng e
  if x.st = .off ∧ s.vec.veOff = false ∧ x.spadFilled ∧ x.imemLoaded then
    if x.retd then s.setEng e { x with st := .retired }
    else if x.spareOf.isSome then s.spareReady e
    else s.setEng e { x with st := .stopped }
  else s

/-- The slab's work ends: what waits takes effect, a copy that waits for the slab included. -/
def State.workEnds (s : State) (e : Nat) : State :=
  (((s.setSlab e { (s.eng e).slab with work := .none }).settleSlab e).spareReady e).startCopy 96

/-- A slab is lost (R199): cause 0 canary, 1 scrub, 2 C-bus word. Its reload waits its turn, or it is zero-filled. -/
def State.loseSlab (s : State) (e cause word : Nat) : State :=
  let tg := s.tgCode e
  let b := (s.eng e).slab
  let s := s.setSlab e { b with lost := true, ready := false, lostWord := none }
  let s := (s.bump (C.SLAB_LOST e)).raiseRow (engSource e) 1 6 2 2 [(1, cause), (4, word), (1, tg)]
  match s.serves e with
  | some (g, k) =>
    let s := s.modTg g k (fun t => { t with lostByp := true, restore := false })
    let b := (s.eng e).slab
    let s := s.setSlab e { b with work := if b.work = .copy then .copy else .reload, reload := 3 }
    if s.vec.reloads.contains e then s else s.setVec { s.vec with reloads := s.vec.reloads ++ [e] }
  | none => if (s.eng e).slab.work = .copy then s else s.setWork e .zeroFill

/-- Canary and scrub of a slab that wakes (R197): the failing word, or the words corrected. -/
def Slab.scrub (ws : Sparse Codeword) : Except Nat (Sparse Codeword × Nat) :=
  ws.foldl (fun r p => match r with
    | .error n => .error n
    | .ok (out, n) =>
      match decodeWord p.2 with
      | .clean => .ok (out ++ [p], n)
      | .corrected _ w => .ok (if w = 0 then out else out ++ [(p.1, w)], n + 1)
      | .bad => .error p.1) (.ok ([], 0))

/-- A checkpoint's key: group and tone group (R198). -/
def ckptKey (g k : Nat) : Nat := g * 256 + k

/-- Is a checkpoint good for a tone group (R199)? -/
def State.goodCkpt (s : State) (g k : Nat) : Option Ckpt :=
  match sparseGet (fun _ => none) s.vec.ckpts (ckptKey g k) with
  | none => none
  | some c =>
    if c.headerOk && c.tg == k && c.group == g && c.epoch == (s.vg g).epoch && c.words.all (fun p => match decodeWord p.2 with
        | .bad => false
        | _ => true) then some c
    else none

/-- The reload of a slab ends (R199, R268). -/
def State.reloadEnds (s : State) (e : Nat) : State :=
  let s := s.setVec { s.vec with reloads := s.vec.reloads.filter (fun n => n != e) }
  match s.serves e with
  | none => s.setSlab e { (s.eng e).slab with work := .zeroFill, reload := 0 }
  | some (g, k) =>
    let gen := match sparseGet (fun _ => none) s.vec.ckpts (ckptKey g k) with
      | some c => if c.headerOk then c.gen else 0
      | none => 0
    match s.goodCkpt g k with
    | some c =>
      let s := s.setSlab e { (s.eng e).slab with words := c.words, ready := true, lost := false, reload := 1 }
      let s := (s.modTg g k (fun t => { t with restore := true })).workEnds e
      s.raiseRow (engSource e) 2 6 8 2 [(1, 1), (2, gen)]
    | none =>
      let s := s.setSlab e { (s.eng e).slab with words := [], overlay := [], reload := 2, work := .zeroFill }
      let s := s.modTg g k (fun t => { t with lostByp := false, est := true, relAt := none, version := 0 })
      let s := s.raiseRow (engSource e) 2 6 8 2 [(1, 2), (2, gen)]
      s.raiseRow 0x0030 1 8 3 2 [(1, g), (1, k), (1, e)]

/-- The zero-fill of a slab ends (R194, R199, R268). -/
def State.fillEnds (s : State) (e : Nat) : State :=
  let b := (s.eng e).slab
  let lost := b.lost && (s.serves e).isSome
  (s.setSlab e { b with words := [], ready := true, wake := 1, lost := lost }).workEnds e

/-- The wake scrub of a slab ends (R197). -/
def State.wakeEnds (s : State) (e : Nat) : State :=
  let b := (s.eng e).slab
  let c := b.word 65536
  let fail := fun (s : State) (code cause word : Nat) =>
    (s.setSlab e { (s.eng e).slab with work := .none, wake := code }).loseSlab e cause word
  if cleanWord c = false ∨ c.toNat % 2 ^ 256 ≠ canaryData e then fail s 4 0 65536
  else
    match Slab.scrub b.words with
    | .error n => fail (s.logUe 4 (65537 * e + n) 1) 5 1 n
    | .ok (ws, n) =>
      (s.setSlab e { b with words := ws, wakeCe := min n 0xFFFF, wake := if n = 0 then 2 else 3, ready := true }).workEnds e

/-! Engines (R201, R202, R208). -/

/-- Does a vector group run (R628)? -/
def State.groupRuns (s : State) (g : Nat) : Bool := decide (2 ≤ (s.vg g).state)

/-- An engine stops in the next VE cycle (R202). -/
def State.stopEng (s : State) (e : Nat) : State :=
  let k := Cy.drain { x := s.eng e }
  s.endCy e { k with x := k.x.halt .stopped }

/-- May a reset act on an engine (R202)? -/
def State.resetOk (s : State) (e : Nat) : Bool :=
  match (s.eng e).st with
  | .halted => true
  | .stopped => true
  | .retired => !(s.running != 0)
  | _ => false

/-- A reset command acts (R201, R202, R245). -/
def State.resetEng (s : State) (e : Nat) : State :=
  s.setEng e { (s.eng e).cleared with st := .stopped, startDue := false }

/-- May a start act (R202)? -/
def State.startOk (s : State) (e : Nat) : Bool := (s.eng e).st == .stopped && (s.eng e).slab.ready

/-- The running engine begins at instruction 0 in the state that a reset leaves (R245). -/
def State.runEng (s : State) (e : Nat) : State :=
  s.setEng e { (s.eng e).cleared with st := .running, startDue := false, held := false }

/-- Is an engine's kernel loaded (R208, R258, R575)? -/
def Eng.loaded (x : Eng) : Bool := x.kernel.isSome && !x.loadLost

/-- The copy path ends a copy (R205, R207, R267): words and canary, check bits unchanged, read through the overlay. A source
lost meanwhile accepts no read (R195): its copy begins again once its reload has ended. -/
def State.copyEnds (s : State) : State :=
  match s.vec.retiring.find? (fun r => r.copying) with
  | none => s
  | some r =>
    match r.spare with
    | none => s
    | some sp =>
      let src := (s.eng r.eng).slab
      let put := fun (s : State) (r' : Retiring) =>
        s.setRetiring (s.vec.retiring.map (fun q => if q.eng = r.eng then r' else q))
      if src.ready = false then
        let s := put s { r with copying := false, spare := none }
        (s.setWork r.eng (if (s.serves r.eng).isSome then .reload else .zeroFill)).workEnds sp
      else
      let ws := src.overlay.foldl (fun m p => sparseSet (fun _ => 0) m p.1 (src.through p.1)) src.words
      let s := s.setSlab sp { (s.eng sp).slab with words := ws }
      let s := put s { r with copying := false, copied := true }
      (s.workEnds r.eng).workEnds sp

/-! The instruction memory and the scratchpad seen by the host (R210, R211). -/

/-- May the host use an engine's aperture (R211)? -/
def Eng.apertureOpen (x : Eng) : Bool :=
  match x.st with
  | .stopped => true
  | .halted => true
  | .spare => true
  | .retired => true
  | _ => false

/-- A 32-bit word of a codeword as delivered. -/
def codeWord32 (c : Codeword) (j : Nat) : Nat := (deliveredData c >>> (32 * j)) % 2 ^ 32

/-- A codeword with its 32-bit word j replaced; one that does not decode stays. -/
def codePut32 (c : Codeword) (j v : Nat) : Codeword :=
  match decodeWord c with
  | .bad => c
  | _ => encodeWord (putBits (deliveredData c) (32 * j + 31) (32 * j) v)

/-- The instruction memory written from an image, zero where it holds nothing. -/
def imemOf (img : Sparse Nat) : Sparse Codeword :=
  img.foldl (fun m p =>
    let i := p.1 / 4
    let d := (sparseGet (fun _ => 0) m i).toNat % 2 ^ 256
    sparseSet (fun _ => 0) m i (encodeWord (putBits d (64 * (p.1 % 4) + 63) (64 * (p.1 % 4)) p.2))) []

end Sys2Proof.Machine
end

