-- ==== Sys2Proof/Machine/GroupOps.lean ====
section
/-! DEFINITION. Vector groups: limits and tests, the stream schedule, the tick DMA, cut-offs, the symbols in the pipeline, plans
and fences (chapters 06, 08, 09). Choices: log 17. -/

namespace Sys2Proof.Machine

/-! Profiles (Table 8-1). -/

/-- Is a profile FDD? -/
def fddProfile (p : Nat) : Bool := decide (p ≤ 1)

/-- Most tones of a profile. -/
def profileTones (p : Nat) : Nat :=
  match p with
  | 0 => 4096
  | 1 => 8192
  | 2 => 2048
  | 3 => 4096
  | _ => 8192

/-- Most lines of a group. -/
def profileLines (p : Nat) : Nat := if fddProfile p then 192 else 96

/-- Symbol period in ticks. -/
def periodOf (p : Nat) : Nat := if fddProfile p then 12 else 1

/-- Engine clock code and UPD_DIV of a grade (Table 8-7); divisor 0: no update cycles. -/
def gradeClock (g : Nat) : Nat := if g ≤ 2 then g else if g ≤ 6 then 3 else 4
/-- UPD_DIV of a grade. -/
def gradeDiv (g : Nat) : Nat := if g = 0 then 1 else if g = 1 then 2 else if g = 2 then 4 else if g ≤ 6 then 8 else 0

/-- Cycles of one symbol period of a group at a clock. -/
def Group.cycles (x : Group) (clock : Nat) : Nat :=
  if fddProfile x.profile then cyclesPerVdsl clock else cyclesPerTick clock

/-! The stream schedule (R291 to R295). -/

/-- Port entry q of a group. -/
def Group.port (x : Group) (q : Nat) : GPort := (x.ports[q]?).getD ⟨0, 0, 0⟩

/-- Sample tiles of tone group k on port entry q (R291). -/
def Group.tiles (x : Group) (q k : Nat) : Nat := ceilDiv ((x.port q).count * (x.tg k).tones) 8

/-- First stream position of tone group k on port entry q. -/
def Group.tgStart (x : Group) (q : Nat) : Nat → Nat
  | 0 => 0
  | k + 1 => x.tgStart q k + x.tiles q k

/-- Sample tiles of port entry q, S_p. -/
def Group.sampleTiles (x : Group) (q : Nat) : Nat := x.tgStart q x.tgs.length

/-- Feedback tiles of a port, F_p (R293). -/
def Group.fbTotal (x : Group) : Nat := x.tgs.length * x.fbTiles

/-- Tile offset of port entry q in the buffers of tone group k (R292). -/
def Group.tileOffset (x : Group) (q k : Nat) : Nat :=
  ((x.ports.take q).map (fun e => e.count)).sum * (x.tg k).tones / 8

/-- Bytes of one sample buffer of tone group k (R255). -/
def Group.sampleBytes (x : Group) (k : Nat) : Nat := 32 * ceilDiv (x.lines * (x.tg k).tones) 8

/-- Bases of the six buffers of tone group k (R255). -/
def Group.bufBase (x : Group) (k i : Nat) : Nat :=
  let b := x.sampleBytes k
  let f := 32 * (x.ports.length * x.fbTiles)
  if fddProfile x.profile then
    (match i with
     | 0 => x.spadBase
     | 1 => x.spadBase + b
     | 2 => x.spadBase
     | 3 => x.spadBase + b
     | 4 => x.spadBase + 2 * b
     | _ => x.spadBase + 2 * b + f)
  else if i ≤ 3 then x.spadBase + i * b
  else x.spadBase + 4 * b + (i - 4) * f

/-- End of the buffers of tone group k. -/
def Group.bufEnd (x : Group) (k : Nat) : Nat := x.bufBase k 5 + 32 * (x.ports.length * x.fbTiles)

/-! Tests on a group and its ladder (R257, Table 8-4). -/

/-- Rung of a grade, with replacements that wait. -/
def Group.rung (x : Group) (g : Nat) : Option (List RungTg) :=
  match x.nextRungs.reverse.find? (fun r => r.1 == g) with
  | some r => some r.2.1
  | none => match sparseGet (fun _ => []) x.rungs g with
    | [] => none
    | r => some r

/-- Rung in force for a grade. -/
def Group.rungNow (x : Group) (g : Nat) : List RungTg := sparseGet (fun _ => []) x.rungs g

/-- Loaded rungs in rising grade. -/
def Group.loaded (x : Group) : List (Nat × List RungTg) :=
  (List.range 8).filterMap (fun g => (x.rung g).map (fun r => (g, r)))

/-- K1 does not rise, and shed tone groups stay shed, between neighbouring loaded rungs. -/
def neighboursOk : List (Nat × List RungTg) → Bool
  | [] => true
  | [_] => true
  | a :: b :: rest => (a.2.zip b.2).all (fun p => decide (p.2.k1 ≤ p.1.k1)) && neighboursOk (b :: rest)

/-- Does a test hold for every unshed tone group of every loaded rung: cycles at the rung's clock, tone group, entry? -/
def Group.everyUnshed (x : Group) (f : Nat → Nat → RungTg → Bool) : Bool :=
  x.loaded.all (fun r => (List.range x.tgs.length).all (fun k =>
    match r.2[k]? with
    | some t => t.k1 == 0 || f (x.cycles (gradeClock r.1)) k t
    | none => true))

/-- Tiles per tick fit each port (R295). -/
def State.tilesFit (s : State) (x : Group) : Bool :=
  (List.range x.ports.length).all (fun q =>
    let l := s.portWidth (x.port q).port
    decide (ceilDiv (ceilDiv (x.sampleTiles q) 2) l + ceilDiv (ceilDiv x.fbTotal 2) l ≤ 1776 * periodOf x.profile))

/-- The first test of Table 8-4 that fails, by its status. -/
def State.ladderTests (s : State) (x : Group) : Option Nat :=
  let rs := x.loaded
  let b := ceilDiv x.lines 12
  let d := if fddProfile x.profile then 1 else 2
  let nIn := fun (k : Nat) => ceilDiv (x.lines * (x.tg k).tones) 8
  let nFb := x.ports.length * x.fbTiles
  if x.tgs.any (fun t => decide (2048 < t.tones)) ∨ rs.any (fun r => r.2.any (fun t => decide (x.lines < t.k1))) then
    some stBadParam
  else if neighboursOk rs = false then some stBadParam
  else if (match x.rung 7 with
      | some r => r.any (fun t => t.k1 != 0)
      | none => false) then some stBadParam
  else if (match x.rung 0 with
      | some r => (r.zip x.tgs).any (fun p => decide (65536 < d * b * p.1.k1 * p.2.tones))
      | none => false) then some stNoResource
  else if (List.range x.tgs.length).any (fun k => decide (0x20000 < x.bufEnd k)) then some stNoResource
  else if s.tilesFit x = false then some stNoResource
  else if x.everyUnshed (fun c k t => decide (b * t.k1 * (x.tg k).tones ≤ 9 * c / 10)) = false then some stBudgetDenied
  else if x.everyUnshed (fun c _ t => decide (t.w ≤ c)) = false then some stBudgetDenied
  else if x.everyUnshed (fun c k t => decide (nIn k + 64 + t.br ≤ c) && decide (nIn k + nFb + 64 + t.bw ≤ c)) = false then
    some stBudgetDenied
  else none

/-! Symbols and windows (R252, R253, R258, R296). -/

/-- Does a symbol of a group begin to arrive at a tick with this TIC (R35, R253)? -/
def Group.symbolAt (x : Group) (tic : Nat) : Bool := !fddProfile x.profile || tic % 12 == 0

/-- Does a group take symbols now: running, and its stop has not reached B? -/
def Group.taking (x : Group) : Bool := (x.state == 3 || x.state == 4) && x.boundary.isNone

/-- Buffer index of a symbol that arrives now (R186, R253). -/
def State.parNow (s : State) (x : Group) : Nat :=
  if fddProfile x.profile then (3 * s.tick.cycle + s.tick.tic / 12) % 2 else s.tick.count.toNat % 2

/-- The symbol arriving now, where the group takes it. -/
def State.arriving (s : State) (x : Group) : Option Sym :=
  if x.taking && x.symbolAt s.tick.tic && (fddProfile x.profile || s.tick.tic != 35) then
    some { tick := s.tick.count.toNat, par := s.parNow x, engs := x.tgs.map (fun t => t.eng) }
  else none

/-- Tick number of the gap position that no stream may carry now (R252, R296). -/
def State.gapTick (s : State) (x : Group) : Option Nat :=
  if fddProfile x.profile then none
  else if s.tick.tic = 34 then some (s.tick.count.toNat + 1)
  else if s.tick.tic = 35 then some s.tick.count.toNat else none

/-- Tick of arrival of the symbol whose window is open on a port entry, and none where there is none (R296). -/
def State.windowTick (s : State) (x : Group) (q : Nat) : Option Nat :=
  let now := s.tick.count.toNat
  let next :=
    if fddProfile x.profile then now + (12 - s.tick.tic % 12)
    else if s.tick.tic = 34 then now + 2 else now + 1
  if x.state = 2 then
    let b := now + (36 - s.tick.tic)
    if x.startAt + 2 ≤ b ∧ b ≤ now + periodOf x.profile then some b else none
  else if x.taking then
    match x.inc with
    | some y => if y.cut.contains q then some next else some y.tick
    | none => some next
  else none

/-- Group and port entry to which a port belongs. -/
def State.portOf (s : State) (p : Nat) : Option (Nat × Nat) :=
  (List.range 4).findSome? (fun g => ((s.vg g).ports.findIdx? (fun e => e.port == p)).map (fun q => (g, q)))

/-! SVL ports: what they hold of a symbol. -/

/-- An SVL port. -/
def State.svlPort (s : State) (p : Nat) : SvlPort := sparseGet (fun _ => {}) s.svl p

/-- Replace an SVL port. -/
def State.setSvlPort (s : State) (p : Nat) (x : SvlPort) : State :=
  { s with svl := sparseSet (fun _ => {}) s.svl p x }

/-- What a port holds of the symbol that arrives at a tick. -/
def SvlPort.rxOf (x : SvlPort) (t : Nat) : RxSym := (x.rx.find? (fun r => r.tick == t)).getD { tick := t }

/-- Replace it. -/
def SvlPort.setRx (x : SvlPort) (r : RxSym) : SvlPort := { x with rx := x.rx.filter (fun q => q.tick != r.tick) ++ [r] }

/-- Pairs that logical lane i expects of n dealt over l lanes (R298). -/
def lanePairs (n l i : Nat) : Nat := if i < n then ceilDiv (n - i) l else 0

/-- Has the port received the pair of tile n of a region? -/
def RxSym.hasTile (r : RxSym) (l : Nat) (fb : Bool) (n : Nat) : Bool :=
  let i := n / 2
  decide (i / l < sparseGet (fun _ => 0) (if fb then r.gotF else r.gotS) (i % l))

/-- Is tile n of a region at hand for the tick DMA: received, or a zero tile because its lane ended or the port is late? -/
def RxSym.atHand (r : RxSym) (l : Nat) (fb : Bool) (n : Nat) : Bool :=
  r.hasTile l fb n || r.late || r.closed || r.ended.testBit (n / 2 % l)

/-- Tile n of a region: zero where it has not been received. -/
def RxSym.tile (r : RxSym) (l : Nat) (fb : Bool) (n : Nat) : Codeword :=
  if r.hasTile l fb n then sparseGet (fun _ => 0) r.tiles (if fb then 2 ^ 20 + n else n) else 0

/-- Is a symbol complete on a port (R299)? -/
def Group.rxComplete (x : Group) (q l : Nat) (r : RxSym) : Bool :=
  r.opened && (List.range l).all (fun i =>
    decide (lanePairs (ceilDiv (x.sampleTiles q) 2) l i ≤ sparseGet (fun _ => 0) r.gotS i) &&
    decide (lanePairs (ceilDiv x.fbTotal 2) l i ≤ sparseGet (fun _ => 0) r.gotF i))

/-- Tiles of a symbol that a port has not received. -/
def Group.missing (x : Group) (q l : Nat) (r : RxSym) : Nat :=
  ((List.range (x.sampleTiles q)).filter (fun n => !r.hasTile l false n)).length +
    ((List.range x.fbTotal).filter (fun n => !r.hasTile l true n)).length

/-! Cut-off (R275 to R277). -/

/-- Cut-off of the symbol arriving in group g on port entry q. -/
def State.cutOff (s : State) (g q : Nat) : State :=
  let x := s.vg g
  match x.inc with
  | none => s
  | some y =>
    if y.cut.contains q then s
    else
      let p := (x.port q).port
      let o := s.svlPort p
      let r := o.rxOf y.tick
      let l := s.portWidth p
      let late := o.state != 3 || r.late || !x.rxComplete q l r
      let o := o.setRx { r with closed := true, late := late }
      let y := { y with cut := q :: y.cut, late := if late then q :: y.late else y.late }
      let s := s.setVg g { x with inc := some y }
      if late then
        let run := o.lateRun + 1
        let silent := decide (36 ≤ run) && !o.silentTold
        let first := !o.lateTold
        let s := s.setSvlPort p { o with lateRun := run, silentTold := o.silentTold || silent, lateTold := true }
        let s := s.bump (C.VS_PORT_LATE p)
        let s := if first then
            s.raiseRow (0x0040 + p) 2 8 4 2 [(1, g), (4, y.tick % 2 ^ 32), (4, x.missing q l r)] else s
        if silent then s.raiseRow (0x0040 + p) 1 8 2 2 [(1, g), (4, y.tick % 2 ^ 32)] else s
      else s.setSvlPort p { o with lateRun := 0, silentTold := false }

/-! The tick DMA (R186 to R188, R193, R261, R292). -/

/-- Tiles that the tick DMA has written, or read, of a symbol for tone group k and port entry q. -/
def dmaKey (k q : Nat) : Nat := 256 * k + q
/-- Tiles written. -/
def Sym.written (y : Sym) (k q : Nat) : Nat := sparseGet (fun _ => 0) y.wr (dmaKey k q)
/-- Tiles read. -/
def Sym.readOut (y : Sym) (k q : Nat) : Nat := sparseGet (fun _ => 0) y.rd (dmaKey k q)
/-- Engine that a symbol's tone group k is steered to. -/
def Sym.eng (y : Sym) (k : Nat) : Nat := (y.engs[k]?).getD 0

/-- Has the tick DMA dealt with all input and feedback tiles of tone group k? -/
def Group.allWritten (x : Group) (y : Sym) (k : Nat) : Bool :=
  (List.range x.ports.length).all (fun q => decide (x.tiles q k + x.fbTiles ≤ y.written k q))

/-- Did an engine leave a scratchpad port idle for the tick DMA in the cycle just ended (R187)? -/
def Eng.portFree (x : Eng) (rd : Bool) : Bool :=
  x.st != .running || x.wait.isSome || (if rd then x.rdFree else x.wrFree)

/-- Is a codeword between the read and the write of a read-modify-write, so that no other access reaches it (R181)? -/
def Eng.midWrite (x : Eng) (i : Nat) : Bool :=
  x.pend.any (fun p => p.idx == i % 4096 && !p.full && p.wait.isNone)

/-- Has the port handed on every tile before those of tone group k in schedule order (R188, R297)? fb: its feedback tiles, which
come after every sample tile. -/
def Group.inOrder (x : Group) (y : Sym) (k q : Nat) (fb : Bool) : Bool :=
  (List.range x.tgs.length).all (fun j =>
    let need := if fb then (if j < k then x.tiles q j + x.fbTiles else x.tiles q j) else if j < k then x.tiles q j else 0
    decide (need ≤ y.written j q))

/-- Does the vector cycle update coefficients for a group (R261, R575)? -/
def State.updating (s : State) (x : Group) : Bool := s.vec.update && !x.frozen

/-- A port hands a tile on: counted and checked (R300, R315); an uncorrectable sample tile sends its tone group as bypass. -/
def State.handTile (s : State) (k p pos tick : Nat) (fb : Bool) (c : Codeword) : State × Bool :=
  let s := s.bump (C.SVL_TILES_RX p)
  match decodeWord c with
  | .clean => (s, false)
  | .corrected _ _ => (s.bump (C.SVL_TILE_CE p), false)
  | .bad =>
    let s := s.bump (C.SVL_TILE_UE p)
    let o := s.svlPort p
    let s := if o.ueTold then s
      else (s.setSvlPort p { o with ueTold := true }).raiseRow (0x0040 + p) 2 9 4 2
        [(4, tick % 2 ^ 32), (1, k), (4, pos)]
    (s, !fb)

/-- A symbol's tone group k is in bypass. -/
def Sym.bypass (y : Sym) (k : Nat) : Sym := if y.byp.contains k then y else { y with byp := k :: y.byp }

/-- Put a codeword of a tile into an engine's scratchpad; the write port was idle. -/
def State.dmaPut (s : State) (e i : Nat) (c : Codeword) : State :=
  let x := s.eng e
  (s.setEng e { x.setSpad (i % 4096) c with wrFree := false }).injectEng 5 e (i % 4096)

/-- The tick DMA writes the next incoming tile of a symbol for tone group k from port entry q, or discards a feedback tile: the
symbol afterwards, none where the tile may not be written yet. comp: the symbol's tick of arrival has ended. -/
def State.dmaWrite (s : State) (g k q : Nat) (y : Sym) : Option (State × Sym) :=
  let x := s.vg g
  let p := (x.port q).port
  let l := s.portWidth p
  let r := (s.svlPort p).rxOf y.tick
  let n := y.written k q
  let c := x.tiles q k
  let e := y.eng k
  let held := match x.outg with
    | some z => z.par == y.par && z.eng k == e && decide (z.readOut k q ≤ n) && decide (z.readOut k q < c) && decide (n < c)
    | none => false
  let y' := { y with wr := sparseSet (fun _ => 0) y.wr (dmaKey k q) (n + 1) }
  if decide (c + x.fbTiles ≤ n) || held || !x.inOrder y k q (decide (c ≤ n)) then none
  else if n < c then
    let pos := x.tgStart q k + n
    let i := s.fld (F.VE_BUF_BASE e y.par) + x.tileOffset q k + n
    if r.atHand l false pos && (s.eng e).portFree false && !(s.eng e).midWrite i then
      let w := r.tile l false pos
      match s.handTile k p pos y.tick false w with
      | (s, bad) => some (s.dmaPut e i w, if bad then y'.bypass k else y')
    else none
  else
    let pos := k * x.fbTiles + (n - c)
    let i := s.fld (F.VE_BUF_BASE e (4 + y.par)) + q * x.fbTiles + (n - c)
    if r.atHand l true pos then
      let w := r.tile l true pos
      if s.updating x && !((s.eng e).portFree false && !(s.eng e).midWrite i) then none
      else
        match s.handTile k p (2 * ceilDiv (x.sampleTiles q) 2 + pos) y.tick true w with
        | (s, _) => some (if s.updating x then s.dmaPut e i w else s, y')
    else none

/-- Is a tone group of the symbol y sent as bypass under the plan in force (R268, R270), or because its computation begins in
squall shed (R272)? -/
def State.exempt (s : State) (x : Group) (y : Sym) (k : Nat) : Bool :=
  (s.vec.squall && decide (s.vec.squallAt ≤ y.tick + periodOf x.profile)) || (x.tg k).est ||
    (match (x.rungNow s.vec.grade)[k]? with
     | some t => t.k1 == 0
     | none => false)

/-- The tick DMA reads the next outgoing tile of tone group k for port entry q (R192, R193, R276). -/
def State.dmaRead (s : State) (g k q : Nat) (y : Sym) : Option (State × Sym) :=
  let x := s.vg g
  let n := y.readOut k q
  let e := y.eng k
  let inp := y.byp.contains k || y.late.contains q
  let i := s.fld (F.VE_BUF_BASE e (if inp then y.par else 2 + y.par)) + x.tileOffset q k + n
  if x.tiles q k ≤ n ∨ (s.eng e).portFree true = false ∨ (s.eng e).midWrite i then none
  else
    let c := if n < y.written k q then (s.eng e).spadWord (i % 4096) else 0
    let y := { y with
      rd := sparseSet (fun _ => 0) y.rd (dmaKey k q) (n + 1)
      tiles := sparseSet (fun _ => 0) y.tiles (2 ^ 20 * q + x.tgStart q k + n) c }
    some (s.setEng e { s.eng e with rdFree := false }, y)

/-! Control blocks and streams that leave (R286 to R289, R302). -/

/-- CRC-8 of one byte, most significant bit first (R286). -/
def crc8Bits : Nat → Nat → Nat
  | 0, c => c
  | n + 1, c => crc8Bits n (if c.testBit 7 then (c * 2 % 256) ^^^ 0x07 else c * 2)

/-- CRC-8 of bytes. -/
def crc8 : Nat → List Nat → Nat
  | c, [] => c
  | c, b :: bs => crc8 (crc8Bits 8 (c ^^^ b)) bs

/-- A control block (R286): type and bytes 1 to 6. -/
def ctlBlock (ty : Nat) (b : List Nat) : List Byte :=
  let bs := ty :: b
  (bs ++ [crc8 0 bs]).map (fun n => BitVec.ofNat 8 n)

/-- A 66-bit block before scrambling (R282, R283): the header, its first-sent bit the more significant (1: data, 01; 2:
control, 10), above the payload, whose bit 0 is sent first. -/
def mkBlock (h p : Nat) : BitVec 66 := BitVec.ofNat 66 (h * 2 ^ 64 + p % 2 ^ 64)

/-- The nine data blocks of a pair (R284). -/
def pairBlocks (bits : Nat) : List (BitVec 66) := (List.range 9).map (fun m => mkBlock 1 (bits / 2 ^ (64 * m)))

/-- The block of a control block's bytes. -/
def ctlBlock66 (bs : List Byte) : BitVec 66 := mkBlock 2 (ofLe bs)

/-- The payload of a block through the self-synchronous scrambler 1 + x^39 + x^58, whose last 58 bits are h (R282). -/
def scramble (h : BitVec 58) (b : BitVec 66) : BitVec 58 × BitVec 66 :=
  let d := b.toNat % 2 ^ 64
  let x := h.toNat
  let lo := (d ^^^ (x / 2 ^ 19) ^^^ x) % 2 ^ 39
  let y := x + lo * 2 ^ 58
  let hi := (d / 2 ^ 39 ^^^ (y / 2 ^ 58) ^^^ (y / 2 ^ 39)) % 2 ^ 25
  let z := x + (lo + hi * 2 ^ 39) * 2 ^ 58
  (BitVec.ofNat 58 (z / 2 ^ 64), mkBlock (b.toNat / 2 ^ 64) (lo + hi * 2 ^ 39))

/-- Blocks through the scrambler, in order. -/
def scrambleAll (h : BitVec 58) : List (BitVec 66) → List (BitVec 66)
  | [] => []
  | b :: bs => (scramble h b).2 :: scrambleAll (scramble h b).1 bs

/-- The blocks that one output puts on a lane of a port. -/
def Output.blocksOn (p l : Nat) : Output → List (BitVec 66)
  | .block q k bs => if q = p ∧ k = l then [ctlBlock66 bs] else []
  | .tilePair q k bits => if q = p ∧ k = l then pairBlocks bits else []
  | .idles q n => if q = p then List.replicate n (ctlBlock66 (ctlBlock 0x1E [0, 0, 0, 0, 0, 0])) else []
  | _ => []

/-- What a vector link lane carries on its conductors since reset, block by block (R282), with TX_INVERT as it stands. -/
def State.onWire (s : State) (p l : Nat) : List (BitVec 66) :=
  (scrambleAll (Config.scramblerSeed l) (s.out.reverse.flatMap (Output.blocksOn p l))).map (fun b =>
    if s.flag (F.LANE_CFG_TX_INVERT l) then ~~~b else b)

/-- The PAM4 levels of a block's 33 symbols, in the order sent (R282). -/
def blockLevels (b : BitVec 66) : List Int :=
  let sent := fun (i : Nat) => if i = 0 then b2n (b.getLsbD 65) else if i = 1 then b2n (b.getLsbD 64) else b2n (b.getLsbD (i - 2))
  (List.range 33).map (fun k => 2 * ((2 * sent (2 * k) + sent (2 * k + 1) : Nat) : Int) - 3)

/-- Does a port transmit (R313)? -/
def State.transmits (s : State) (p : Nat) : Bool := (s.svlPort p).state != 0 && !s.overcast

/-- Something leaves on a vector link lane, unless the lane discards its user's data (R324, R325); bs are its blocks, which a
near-end loop brings back (R322). -/
def State.laneOut (s : State) (l : Nat) (o : Output) (bs : List (BitVec 66)) : State :=
  if s.laneDiscards l then s
  else
    let s := s.emit o
    if s.nearLoop l then s.setLane l { s.lane l with blocks := (s.lane l).blocks ++ bs } else s

/-- Physical lane on which logical lane i is sent (R311). -/
def State.txLane (s : State) (p i : Nat) : Nat :=
  let f := s.fld (F.SVL_PORT_CFG_FIRST_LANE p)
  if s.flag (F.SVL_PORT_CFG_TX_REVERSE p) then f + s.portWidth p - 1 - i else f + i

/-! Block positions (R288, R289, Table 9-2). Positions are counted as blocks leave; a position that nothing fills carries
IDLE. -/

/-- Sender ID of a port (Table 9-1). -/
def senderId (p : Nat) : Nat := Config.baseSn.toNat % 2 ^ 20 * 16 + p

/-- The LANE_MARKER of the port's count, without the lane (Table 9-1). -/
def State.laneMarker (s : State) (p : Nat) : CtlPend :=
  let n := (s.svlPort p).markerNo
  let id := senderId p
  let w := match s.portWidth p with
    | 2 => 1
    | 4 => 2
    | _ => 0
  ⟨4, 0x78, [w * 4, n / 256 % 256, n % 256, id / 65536 % 256, id / 256 % 256, id % 256]⟩

/-- A control block joins those that wait, behind those of its priority and above. -/
def insertCtl (c : CtlPend) : List CtlPend → List CtlPend
  | [] => [c]
  | d :: ds => if d.pri ≤ c.pri then d :: insertCtl c ds else c :: d :: ds

/-- A control block becomes pending on a port. -/
def State.pendCtl (s : State) (p pri ty : Nat) (b : List Nat) : State :=
  let x := s.svlPort p
  s.setSvlPort p { x with pend := insertCtl ⟨pri, ty, b⟩ x.pend }

/-- A control block's bytes on logical lane i: a LANE_MARKER names the lane. -/
def CtlPend.bytes (c : CtlPend) (i : Nat) : List Byte :=
  ctlBlock c.ty (if c.ty = 0x78 then (c.body.head?.getD 0 + i) :: c.body.drop 1 else c.body)

/-- A control block leaves in the same slot on every lane of a port (R289). -/
def State.sendCtl (s : State) (p : Nat) (c : CtlPend) : State :=
  (List.range (s.portWidth p)).foldl (fun s i =>
    s.laneOut (s.txLane p i) (.block p (s.txLane p i) (c.bytes i)) [ctlBlock66 (c.bytes i)]) s

/-- IDLE blocks leave on every lane of a port. -/
def State.sendIdles (s : State) (p n : Nat) : State :=
  if n = 0 then s
  else
    let s := s.emit (.idles p n)
    (List.range (s.portWidth p)).foldl (fun s i =>
      let l := s.txLane p i
      if s.nearLoop l && !s.laneDiscards l then
        s.setLane l { s.lane l with
          blocks := (s.lane l).blocks ++ List.replicate n (ctlBlock66 (ctlBlock 0x1E [0, 0, 0, 0, 0, 0])) }
      else s) s

/-- The next control slot passes, and before it the positions still left since the last one: the slot carries the highest
pending block, a LANE_MARKER joining them at every 64th slot, or IDLE (R288). -/
def State.txSlot (s : State) (p : Nat) : State :=
  let s := s.sendIdles p (32 - (s.svlPort p).used)
  let s := if (s.svlPort p).slot % 64 = 63 then
      let c := s.laneMarker p
      (s.pendCtl p c.pri c.ty c.body).setSvlPort p { (s.pendCtl p c.pri c.ty c.body).svlPort p with
        markerNo := ((s.svlPort p).markerNo + 1) % 65536 }
    else s
  let x := s.svlPort p
  let s := s.setSvlPort p { x with slot := x.slot + 1, used := 0, pend := x.pend.drop 1 }
  match x.pend with
  | [] => s.sendIdles p 1
  | c :: _ => s.sendCtl p c

/-- Control slots pass until nothing is pending. -/
def State.txDrain (s : State) (p : Nat) : Nat → State
  | 0 => s
  | f + 1 => if (s.svlPort p).pend.isEmpty then s else (s.txSlot p).txDrain p f

/-- Most control blocks that can wait on a port at once. -/
def pendLimit : Nat := 16

/-- n data blocks pass on every lane of a port, with the control slots between them. -/
def State.txData (s : State) (p : Nat) : Nat → Nat → State
  | 0, _ => s
  | f + 1, n =>
    let x := s.svlPort p
    let room := 32 - x.used
    if n ≤ room then s.setSvlPort p { x with used := x.used + n }
    else ((s.setSvlPort p { x with used := 32 }).txSlot p).txData p f (n - room)

/-- Control slots pass up to the one that carries the next LANE_MARKER. -/
def State.txToMarker (s : State) (p : Nat) : Nat → State
  | 0 => s
  | f + 1 =>
    let sent := (s.svlPort p).markerNo
    let s := s.txSlot p
    if (s.svlPort p).markerNo ≠ sent then s.txDrain p pendLimit else s.txToMarker p f

/-- At a tick edge, what was pending has left; a port that does not transmit keeps nothing pending. -/
def State.txSettle (s : State) (p : Nat) : State :=
  if s.transmits p then s.txDrain p pendLimit
  else if (s.svlPort p).pend.isEmpty then s else s.setSvlPort p { s.svlPort p with pend := [] }

/-- The tick marker of a port is pending (R56, Table 9-1). -/
def State.sendMarker (s : State) (p : Nat) : State :=
  if s.transmits p then
    let n := s.tick.count.toNat % 65536
    let lock := match s.tick.st with
      | .locked => 0
      | _ => 1
    let run := match s.portOf p with
      | some (g, _) => decide (2 ≤ (s.vg g).state)
      | none => false
    s.pendCtl p 1 0x2D [s.tick.tic, n / 256, n % 256, s.tick.cycle,
      lock + 2 * b2n ((s.svlPort p).state == 3) + 4 * b2n run, 0]
  else s

/-- STREAM_START of a symbol is pending on a port (R302). tic: TIC of its arrival tick. -/
def State.sendStart (s : State) (g p tick tic : Nat) : State :=
  let n := tick % 65536
  if s.transmits p then s.pendCtl p 2 0x33 [g, n / 256, n % 256, tic, 0, 0] else s

/-- Sample pairs of a port's stream, dealt to its lanes in order (R294); n pairs remain from pair i. Nine positions pass with
the last lane's. -/
def State.sendPairs (s : State) (p q l : Nat) (y : Sym) (i : Nat) : Nat → State
  | 0 => s
  | n + 1 =>
    let t := fun (j : Nat) => (sparseGet (fun _ => 0) y.tiles (2 ^ 20 * q + j)).toNat
    let bits := t (2 * i) + t (2 * i + 1) * 2 ^ 288
    let lane := s.txLane p (i % l)
    let s := s.laneOut lane (.tilePair p lane bits) (pairBlocks bits)
    let s := if i % l + 1 = l ∨ n = 0 then s.txData p 2 9 else s
    s.sendPairs p q l y (i + 1) n

/-- The 40 flags of a BYPASS_FLAGS block (Table 9-1). -/
def flagBytes (byp : List Nat) (i : Nat) : List Nat :=
  (List.range 5).map (fun b => (List.range 8).foldl (fun a j => a + (if byp.contains (40 * i + 8 * b + j) then 2 ^ j else 0)) 0)

/-- The stream of the outgoing symbol on port entry q leaves: tiles not read by now become zero tiles (R193), then the pairs and
the flags (R302). -/
def State.sendStream (s : State) (g q : Nat) : State :=
  let x := s.vg g
  match x.outg with
  | none => s
  | some y =>
    if y.sent.contains q then s
    else
      let ks := List.range x.tgs.length
      let lost := fun (y : Sym) (k : Nat) => x.tiles q k - y.readOut k q
      let s := ks.foldl (fun s k => if 0 < lost y k then s.bumpBy (C.VE_DMA_LATE (y.eng k)) (lost y k) else s) s
      let y := ks.foldl (fun (y : Sym) k =>
        if 0 < lost y k then { y.bypass k with rd := sparseSet (fun _ => 0) y.rd (dmaKey k q) (x.tiles q k) } else y) y
      let y := { y with sent := q :: y.sent }
      let s := s.setVg g { x with outg := some y }
      let p := (x.port q).port
      if s.transmits p then
        let s := s.txDrain p pendLimit
        let s := s.sendPairs p q (s.portWidth p) y 0 (ceilDiv (x.sampleTiles q) 2)
        let s := s.bumpBy (C.SVL_TILES_TX p) (2 * ceilDiv (x.sampleTiles q) 2)
        let byp := if y.late.contains q then ks else y.byp
        let s := (List.range (ceilDiv x.tgs.length 40)).foldl
          (fun s i => s.pendCtl p 3 0x66 ((i * 64 + y.tick % 64) :: flagBytes byp i)) s
        s.txDrain p pendLimit
      else s

/-! Overruns and the symbol edge (R191 to R193, R244, R258 to R260, R274). -/

/-- An overrun of a symbol (R191): cause 0 kernel, 1 DMA; the OVR_THR count is a retirement trigger (R204). -/
def State.overrun (s : State) (e tick cause : Nat) : State :=
  let s := s.bump (C.VE_OVR e)
  let x := s.eng e
  let n := x.ovrCyc + 1
  let s := s.setEng e { x with ovrCyc := n, ovrTold := true }
  let s := if x.ovrTold then s
    else s.raiseRow (engSource e) 2 6 5 2 [(4, tick % 2 ^ 32), (1, n), (1, cause)]
  if s.ovrThr ≤ n then s.trigger e 0 (s.flag F.VE_RETIRE_CFG_AUTO) none else s

/-- Input incomplete at the edge that began the compute tick (R191): judged once the plan of the tick stands. -/
def State.judgeInput (s : State) (g : Nat) : State :=
  (List.range (s.vg g).tgs.length).foldl (fun s k =>
    let x := s.vg g
    match x.comp with
    | none => s
    | some y =>
      let e := y.eng k
      if y.lateIn.contains k ∧ y.overs.contains k = false ∧ s.exempt x y k = false ∧ (s.eng e).st = .running then
        (s.setVg g { x with comp := some { y.bypass k with overs := k :: y.overs } }).overrun e y.tick 1
      else s) s

/-- A symbol restart (R244). -/
def State.restartEng (s : State) (e : Nat) : State :=
  let x := { s.eng e with loads := [] }
  let k := Cy.drain { x := x }
  let x := k.x.slabWr.foldl (fun (x : Eng) l => { x with slab := if x.slab.ready then x.slab.updWrite l.2.1 l.2.2 else x.slab }) k.x
  s.endCy e { k with x := { x.halt .running with
    slabWr := [], live := 0, valid := 0, hm := false, ie := clrBit x.ie 4, pc := x.restart, cyc := 2 } }

/-- The deadline edge of the symbol that tone group k has computed: overrun, restart, or bypass (R191, R192, R203, R274). -/
def State.deadline (s : State) (g k : Nat) : State :=
  let x := s.vg g
  match x.comp with
  | none => s
  | some y =>
    let e := y.eng k
    let ex := s.exempt x y k
    let put := fun (s : State) => s.setVg g { s.vg g with comp := (s.vg g).comp.map (fun z => z.bypass k) }
    if (s.eng e).st = .running then
      let missed := (s.eng e).sdone != 2
      let s := if ex || (x.tg k).lostByp then put s else s
      let s := if missed then s.restartEng e else s
      if missed && !ex && !y.overs.contains k then (put s).overrun e y.tick 0 else s
    else if (s.eng e).st = .stopped ∧ (s.eng e).sdone = 2 ∧ ex = false ∧ (x.tg k).lostByp = false then s
    else put s

/-- Tiles of the computed symbol that are still unwritten at the edge of its output are discarded (R193). -/
def State.discardInput (s : State) (g : Nat) : State :=
  let x := s.vg g
  match x.comp with
  | none => s
  | some y =>
    (List.range x.tgs.length).foldl (fun s k =>
      let n := ((List.range x.ports.length).map (fun q => x.tiles q k - min (x.tiles q k) (y.written k q))).sum
      if n = 0 then s
      else
        let s := s.bumpBy (C.VE_DMA_LATE (y.eng k)) n
        s.setVg g { s.vg g with comp := (s.vg g).comp.map (fun z => z.bypass k) }) s

/-- The edge of a symbol boundary for a group: cut-offs and streams still owed, deadlines, then each symbol moves on. -/
def State.symbolEdge (s : State) (g : Nat) : State :=
  let qs := List.range (s.vg g).ports.length
  let s := qs.foldl (fun s q => s.cutOff g q) s
  let s := qs.foldl (fun s q => s.sendStream g q) s
  let s := s.discardInput g
  let s := (List.range (s.vg g).tgs.length).foldl (fun s k => s.deadline g k) s
  let x := s.vg g
  let comp := x.inc.map (fun y => { y with
    lateIn := (List.range x.tgs.length).filter (fun k => !x.allWritten y k) })
  let now := s.tick.count.toNat
  let keep := fun (r : RxSym) => decide (now ≤ r.tick) || (match comp with
    | some y => r.tick == y.tick
    | none => false)
  let s := x.ports.foldl (fun s e => s.setSvlPort e.port
    { s.svlPort e.port with
      rx := (s.svlPort e.port).rx.filter keep
      cur := (s.svlPort e.port).cur.filter (fun t => keep { tick := t }) }) s
  s.setVg g { x with outg := x.comp, comp := comp, inc := s.arriving x }

end Sys2Proof.Machine
end

