-- ==== Sys2Proof/Machine/VecTick.lean ====
section
/-! DEFINITION. What a tick edge and a vector-cycle boundary do to engines, groups and SVL ports (chapters 06 to
09). Choices: log 6, 15. -/

namespace Sys2Proof.Machine

/-- Change every engine that the state lists. -/
def State.mapEngs (s : State) (f : Nat → Eng → Eng) : State :=
  s.setVec { s.vec with engs := sparseMap (fun _ => {}) f s.vec.engs }

/-- Numbers of the engines that the state lists and that meet a condition. -/
def State.engsWith (s : State) (f : Eng → Bool) : List Nat := (s.vec.engs.filter (fun p => f p.2)).map (fun p => p.1)

/-- The mask of groups that run (R628). -/
def State.setRunning (s : State) : State :=
  { s with running := (List.range 4).foldl (fun m g => if s.groupRuns g then m + 2 ^ g else m) 0 }

/-- TIC and CYCLE as special register TIC holds them (Table 7-4). -/
def TickGen.ticWord (t : TickGen) : Nat := t.tic + t.cycle * 256

/-- The strobe reaches an engine: cycle counts start again, idle port cycles are accounted (R18, R190, R223). -/
def Eng.strobe (x : Eng) (c lo tic : Nat) : Eng :=
  let x := if x.st = .off then x
    else { x with minRd := min x.minRd (c - x.usedRd), minWr := min x.minWr (c - x.usedWr), usedRd := 0, usedWr := 0 }
  if x.st = .running then { x with cyc := 0, tickLo := lo, ticWord := tic, ip := setBit x.ip 0 } else x

/-- Is this edge a symbol boundary for an engine (R35, R242)? -/
def State.engSymbol (s : State) (e : Nat) : Bool :=
  match s.serves e with
  | some (g, _) => (s.vg g).symbolAt s.tick.tic
  | none => true

/-- Buffer index of the symbol an engine computes now (R186, R253). -/
def State.parComputed (s : State) (e : Nat) : Nat :=
  match s.serves e with
  | some (g, _) =>
    match (s.vg g).comp with
    | some y => y.par
    | none => if fddProfile (s.vg g).profile then (3 * s.tick.cycle + s.tick.tic / 12 + 1) % 2 else (s.tick.count.toNat + 1) % 2
  | none => (s.tick.count.toNat + 1) % 2

/-- A WAITT whose edge this is ends; one that an interrupt was taken from remembers it (R242, R248). -/
def Eng.edgeFor (x : Eng) (symbol : Bool) : Eng :=
  let x := match x.intWait with
    | some (m, _) => if m = 0 ∨ symbol then { x with edge := true } else x
    | none => x
  match x.wait with
  | some m => if m = 0 ∨ symbol then { x with wait := none }.next x.pc else x
  | none => x

/-- The tick edge for one engine: a start that waits, WAITT, the symbol now computed. -/
def State.edgeEng (s : State) (e : Nat) : State :=
  let x := s.eng e
  if x.startDue ∧ x.st = .stopped ∧ x.slab.ready then
    let s := s.runEng e
    s.setEng e { s.eng e with
      tickLo := s.tick32, ticWord := s.tick.ticWord, ip := 1, cyc := 0, par := s.parComputed e, usedRd := 0, usedWr := 0 }
  else
    let sym := s.engSymbol e
    let x := { x with startDue := false, sdone := if sym then 0 else x.sdone, par := if sym then s.parComputed e else x.par }
    s.setEng e (if x.st = .running then x.edgeFor sym else x)

/-- The spare takes over at the first tick edge after its copy (R205), unless the group has stopped (R207). It serves a tone
group from then on, so it is spare for none (R251): its designation ends (log 15). A reload that the old slab still waits for
goes to the spare, and the old slab is filled (R199). -/
def State.takeOver (s : State) (r : Retiring) : State :=
  let put := fun (s : State) (r' : Retiring) => s.setRetiring (s.vec.retiring.map (fun q => if q.eng = r.eng then r' else q))
  match r.spare, r.copied && !r.copying && r.tookAt.isNone with
  | some sp, true =>
    let x := s.vg r.group
    if s.groupRuns r.group ∧ (x.tg r.tg).eng = r.eng then
      let old := s.eng r.eng
      let s := (s.runEng sp).setVg r.group (x.setTg r.tg { x.tg r.tg with eng := sp })
      let s := s.setEng sp { s.eng sp with
        st := if s.vec.squall then .stopped else .running, held := s.vec.squall, spareOf := none
        plan := old.plan, tones := old.tones, par := old.par, tickLo := s.tick32, ticWord := s.tick.ticWord, ip := 1, cyc := 0 }
      let s := (List.range 6).foldl (fun s i => s.setFld (F.VE_BUF_BASE sp i) (x.bufBase r.tg i / 32)) s
      let s := if s.vec.reloads.contains r.eng then
          let s := s.setVec { s.vec with reloads := s.vec.reloads.map (fun e => if e = r.eng then sp else e) }
          let s := s.setSlab sp { (s.eng sp).slab with lost := true, ready := false, work := .reload, reload := 3 }
          s.setSlab r.eng { (s.eng r.eng).slab with work := .zeroFill, reload := 0 }
        else s
      let s := put s { r with tookAt := some s.tick.count.toNat, cmd := none }
      let s := s.raiseRow 0x0030 2 6 9 2 [(1, r.eng), (1, sp), (1, r.tg), (4, s.tick32)]
      match r.cmd with
      | some c => s.endLater c.1 c.2 ⟨stDone, 0, []⟩
      | none => s
    else put s { r with spare := none }
  | _, _ => s

/-- Slabs whose C-bus met an uncorrectable word are lost (R185, R199). -/
def State.declareLost (s : State) : State :=
  (s.engsWith (fun x => x.slab.lostWord.isSome)).foldl (fun s e =>
    match (s.eng e).slab.lostWord with
    | some w =>
      if (s.eng e).slab.ready then s.loseSlab e 2 w
      else s.setSlab e { (s.eng e).slab with lostWord := none }
    | none => s) s

/-- Engines stop for a squall (R272). -/
def State.squallStop (s : State) : State :=
  if s.vec.squallDue then
    if s.vec.squall then s.setVec { s.vec with squallDue := false }
    else
      let es := (List.range 4).flatMap (fun g => if s.groupRuns g then (s.vg g).tgs.map (fun t => t.eng) else [])
      let s := es.foldl (fun s e =>
        if (s.eng e).st = .running then
          let s := s.stopEng e
          s.setEng e { s.eng e with held := true }
        else s) s
      (s.setVec { s.vec with squallDue := false, squall := true, squallAt := s.tick.count.toNat }).raiseRow 0x0030 1 8 1 2 [(4, s.tick32), (1, s.running)]
  else s

/-- The stop of a group ends (R259). -/
def State.groupStopped (s : State) (g : Nat) : State :=
  let x := s.vg g
  match x.boundary with
  | none => s
  | some b =>
    if b + 2 * periodOf x.profile ≤ s.tick.count.toNat then
      let s := x.tgs.foldl (fun s t =>
        let s := if (s.eng t.eng).st = .running then s.stopEng t.eng else s
        s.setEng t.eng { s.eng t.eng with held := false }) s
      let n := s.arb.raised
      let s := s.setVg g { s.vg g with
        state := 1, stopAt := none, stopCmd := none, boundary := none, inc := none, comp := none, outg := none }
      let s := (s.setRunning).raiseRow 0x0030 3 8 7 2 [(1, g), (4, b % 2 ^ 32)]
      match x.stopCmd with
      | some c => s.complete c.1 c.2 n stDone 0
      | none => s
    else s

/-- Firmware rewrites instruction words that the scrubber found uncorrectable, once the engine is not RUNNING (R519). -/
def State.rewriteImem (s : State) (e : Nat) : State :=
  let x := s.eng e
  match x.kernel.bind (fun h => sparseGet (fun _ => none) s.vec.kernels h) with
  | some img =>
    let full := imemOf img
    x.imemBad.foldl (fun s i => s.injectEng 6 e i) (s.setEng e { x with
      imem := x.imemBad.foldl (fun m i => sparseSet (fun _ => 0) m i (sparseGet (fun _ => 0) full i)) x.imem, imemBad := [] })
  | none => s

/-- The vector part of a tick edge. -/
def State.vecTick (s : State) : State :=
  let c := cyclesPerTick s.vec.clock
  let s := s.mapEngs (fun _ x => x.strobe c s.tick32 s.tick.ticWord)
  let s := s.declareLost
  let s := s.vec.retiring.foldl (fun s r => s.takeOver r) s
  let gs := (List.range 4).filter (fun g => 3 ≤ (s.vg g).state && (s.vg g).symbolAt s.tick.tic)
  let s := gs.foldl (fun s g => s.symbolEdge g) s
  let s := s.squallStop
  let s := (List.range 4).foldl (fun s g => s.groupStopped g) s
  let s := (s.vec.engs.map (fun p => p.1)).foldl (fun s e => s.edgeEng e) s
  let s := if s.tick.tic = 0 then s else gs.foldl (fun s g => s.judgeInput g) s
  let s := (List.range 16).foldl (fun s p => (s.txSettle p).sendMarker p) s
  let s := gs.foldl (fun s g =>
    let x := s.vg g
    match x.outg with
    | some y => x.ports.foldl
        (fun s p => s.sendStart g p.port y.tick ((s.tick.tic + 36 - (2 * periodOf x.profile) % 36) % 36)) s
    | none => s) s
  (s.engsWith (fun x => !x.imemBad.isEmpty && x.st != .running)).foldl (fun s e => s.rewriteImem e) s

/-! The vector-cycle boundary. -/

/-- VE_IDLE takes the fewest idle port cycles of the vector cycle just ended (R190); the counts of the cycle start again
(R191, R204). -/
def Eng.boundary (x : Eng) (c : Nat) : Eng :=
  { x with
    idleRd := min x.minRd c, idleWr := min x.minWr c, minRd := 0xFFFF, minWr := 0xFFFF, ovrCyc := 0, ueCyc := 0, ovrTold := false }

/-- Engines whose retirement is over enter RETIRED (R205, R207), with the vector-cycle number that this boundary brings. -/
def State.retireDone (s : State) : State :=
  let now := s.tick.count.toNat
  let past := fun (r : Retiring) => r.copied && !r.copying && (match r.tookAt with
    | some t => decide (t < now)
    | none => r.spare.isNone)
  let done := s.vec.retiring.filter past
  let s := s.setRetiring (s.vec.retiring.filter (fun r => !past r))
  done.foldl (fun s r =>
    let s := s.setEng r.eng { s.eng r.eng with st := if (s.eng r.eng).st = .retiring then .retired else (s.eng r.eng).st }
    let s := s.raiseRow 0x0030 3 6 10 2 [(1, r.eng), (4, (s.sched.vcNumber + 1).toNat)]
    match r.cmd with
    | some c => s.endLater c.1 c.2 ⟨stDone, 0, []⟩
    | none => s) s

/-- Replacements of rungs that are due take effect (R256). -/
def State.rungsApply (s : State) (g : Nat) : State :=
  let x := s.vg g
  let now := s.tick.count.toNat
  let due := x.nextRungs.filter (fun r => decide (r.2.2 + 1 ≤ now))
  if due.isEmpty then s
  else s.setVg g { x with
    rungs := due.foldl (fun m r => sparseSet (fun _ => []) m r.1 r.2.1) x.rungs
    nextRungs := x.nextRungs.filter (fun r => !decide (r.2.2 + 1 ≤ now)) }

/-- Tone groups leave estimation (R268), and bypass after a reload (R199). -/
def State.releaseTgs (s : State) (g : Nat) : State :=
  (List.range (s.vg g).tgs.length).foldl (fun s k =>
    let t := (s.vg g).tg k
    let s := if t.restore then s.modTg g k (fun t => { t with restore := false, lostByp := false }) else s
    match t.est, t.relAt with
    | true, some a =>
      if a + 1 ≤ s.tick.count.toNat then
        let s := s.modTg g k (fun t => { t with est := false, relAt := none })
        let s := s.setSlab t.eng { (s.eng t.eng).slab with lost := false }
        s.raiseRow 0x0030 3 8 10 2 [(1, g), (1, k), (4, s.tick32)]
      else s
    | _, _ => s) s

/-- An engine starts at a vector-cycle boundary with its group: held instead in squall shed (R258, R273). -/
def State.startAtBoundary (s : State) (e : Nat) : State :=
  if (s.eng e).st = .stopped then
    if s.vec.squall then s.setEng e { s.eng e with held := true }
    else
      let s := s.runEng e
      s.setEng e { s.eng e with tickLo := s.tick32, ticWord := s.tick.ticWord, ip := 1, cyc := 0, par := s.parComputed e }
  else s

/-- A group starts at B (R258). -/
def State.groupStart (s : State) (g : Nat) : State :=
  let x := s.vg g
  let now := s.tick.count.toNat
  if x.state = 2 ∧ x.startAt + 2 ≤ now then
    let n := s.arb.raised
    let cmd := x.startCmd
    let x := { x with state := if x.stopAt.isSome then 4 else 3, startCmd := none, comp := none, outg := none }
    let s := s.setVg g { x with inc := s.arriving x }
    let s := x.tgs.foldl (fun s t => s.startAtBoundary t.eng) s
    let s := s.raiseRow 0x0030 3 8 6 2 [(1, g), (4, s.tick32)]
    match cmd with
    | some c => s.complete c.1 c.2 n stDone 0
    | none => s
  else s

/-- A stop that is due reaches B (R259). -/
def State.groupStopDue (s : State) (g : Nat) : State :=
  let x := s.vg g
  match x.stopAt with
  | some a =>
    if x.state = 4 ∧ x.boundary.isNone ∧ a + 2 ≤ s.tick.count.toNat then
      s.setVg g { x with boundary := some s.tick.count.toNat, inc := none }
    else s
  | none => s

/-- The plan of the grade reaches a running group (R269). -/
def State.planApply (s : State) (g : Nat) : State :=
  let x := s.vg g
  if 3 ≤ x.state then
    (List.range x.tgs.length).foldl (fun s k =>
      let t := (s.vg g).tg k
      let k1 := match (x.rungNow s.vec.grade)[k]? with
        | some r => r.k1
        | none => 0
      let k0 := match (x.rungNow 0)[k]? with
        | some r => r.k1
        | none => 0
      let shed := k1 == 0 || t.est
      let plan := (if shed then k0 else k1) % 256 + 256 * b2n shed + 512 * s.vec.grade + 4096 * s.vec.clock
      let s := s.modTg g k (fun t => { t with k1 := k1 })
      s.setEng t.eng { s.eng t.eng with plan := plan, tones := t.tones }) s
  else s

/-- Engines that serve no running group hold the grade and the clock of the vector cycle (R224, Table 7-4). -/
def State.planOthers (s : State) : State :=
  (List.range 96).foldl (fun s e =>
    let in_ := match s.serves e with
      | some (g, _) => decide (3 ≤ (s.vg g).state)
      | none => false
    if in_ then s else s.setEng e { s.eng e with plan := 512 * s.vec.grade + 4096 * s.vec.clock, tones := 0 }) s

/-- Is the fence of a tone group held for a takeover (R206, R267)? -/
def State.fenceHeld (s : State) (g k : Nat) : Bool :=
  s.vec.retiring.any (fun r => r.group == g && r.tg == k && (r.spare.isSome || !r.copied))

/-- A committed fence lands on a tone group (R265). -/
def State.landFence (s : State) (g k : Nat) : State :=
  if (s.vg g).tgs.length ≤ k then s
  else
    let t := (s.vg g).tg k
    let b := (s.eng t.eng).slab
    let s := s.setSlab t.eng { b with
      overlay := t.staged.foldl (fun m p => sparseSet (fun _ => none) m p.1 p.2) b.overlay }
    s.modTg g k (fun t => { t with staged := [], version := t.commit.getD t.version, commit := none })

/-- The committed fences of a group that are due land (R265). -/
def State.fencesLand (s : State) (g : Nat) : State :=
  let now := s.tick.count.toNat
  let due := (s.vg g).fences.filter (fun c => decide (c.at_ + 2 ≤ now))
  due.foldl (fun s c =>
    let lands := c.tgs.filter (fun k => !s.fenceHeld g k)
    let left := c.tgs.filter (fun k => s.fenceHeld g k)
    let n := s.arb.raised
    match lands with
    | [] => s
    | k0 :: _ =>
      let s := lands.foldl (fun s k => s.landFence g k) s
      let s := s.raiseRow 0x0030 3 8 9 2
        [(1, g), (1, lands.length), (1, k0), (2, ((s.vg g).tg k0).version), (4, s.tick32)]
      let x := s.vg g
      let keep := x.fences.filter (fun d => d != c)
      if left.isEmpty then (s.setVg g { x with fences := keep }).complete c.func c.id n stDone 0
      else s.setVg g { x with fences := keep ++ [{ c with tgs := left }] }) s

/-- Rejoins that are due (R208). -/
def State.rejoinsDue (s : State) : State :=
  let now := s.tick.count.toNat
  let due := s.vec.rejoins.filter (fun r => decide (r.at_ + 2 ≤ now))
  let s := s.setVec { s.vec with rejoins := s.vec.rejoins.filter (fun r => !decide (r.at_ + 2 ≤ now)) }
  due.foldl (fun s r =>
    let ok := (s.eng r.eng).st == .stopped && (s.eng r.eng).slab.ready && (match s.serves r.eng with
      | some (g, _) => s.groupRuns g
      | none => false)
    if ok then (s.startAtBoundary r.eng).endLater r.func r.id ⟨stDone, 0, []⟩
    else s.endLater r.func r.id ⟨stBusy, 0, []⟩) s

/-- Squall shed ends once the grade is below 7 (R273). -/
def State.squallLeave (s : State) : State :=
  if s.vec.squall ∧ s.vec.grade < 7 then
    let s := s.setVec { s.vec with squall := false }
    let s := (s.engsWith (fun x => x.held)).foldl (fun s e =>
      if (s.eng e).slab.ready ∧ (s.serves e).isSome then s.startAtBoundary e else s.setEng e { s.eng e with held := false }) s
    s.raiseRow 0x0030 2 8 5 2 [(1, s.vec.grade), (4, s.tick32)]
  else s

/-- The vector part of a vector-cycle boundary; grade is the one the budget controller delivers (R269). -/
def State.vecBoundary (s : State) (grade : Nat) : State :=
  let now := s.tick.count.toNat
  let c := cyclesPerTick s.vec.clock
  let s := (List.range 96).foldl (fun s e =>
    if (s.eng e).st = .off then s else s.setEng e ((s.eng e).boundary c)) s
  let s := { s with svl := sparseMap (fun _ => {}) (fun _ o => { o with lateTold := false, misTold := false, ueTold := false }) s.svl }
  let s := match s.vec.cutAt with
    | some a => if a + 1 ≤ now then
        (let v := s.fld F.VS_CUTOFF_CUT
         s.setVec { s.vec with cut := if 32 ≤ v ∧ v ≤ 1620 then v else 324, cutAt := none }) else s
    | none => s
  let s := s.retireDone
  let gs := List.range 4
  let s := gs.foldl (fun s g => (s.rungsApply g).releaseTgs g) s
  let old := s.vec.grade
  let d := gradeDiv grade
  let s := s.setVec { s.vec with
    grade := grade, clock := gradeClock grade, update := d != 0 && s.tick.cycle % d == 0
    params := s.vec.params.map (fun j => { j with begun := true }) }
  let s := if grade = old then s else s.raiseRow 0x0030 3 8 8 2 [(1, old), (1, grade), (1, gradeClock grade)]
  let s := s.squallLeave
  let s := gs.foldl (fun s g => (s.groupStart g).groupStopDue g) s
  let s := s.rejoinsDue
  let s := (gs.foldl (fun s g => s.planApply g) s).planOthers
  let s := gs.foldl (fun s g => s.fencesLand g) s
  let s := gs.foldl (fun s g => if 3 ≤ (s.vg g).state then s.judgeInput g else s) s
  s.setRunning

end Sys2Proof.Machine
end

