-- ==== Sys2Proof/Machine/SvlOps.lean ====
section
/-! DEFINITION. SVL ports: lanes, alignment, streams received, line status (chapter 09). Choices: log 18. -/

namespace Sys2Proof.Machine

/-- Source block ID of a port. -/
def svlSource (p : Nat) : Nat := 0x0040 + p

/-- First physical lane of a port. -/
def State.firstLane (s : State) (p : Nat) : Nat := s.fld (F.SVL_PORT_CFG_FIRST_LANE p)

/-- Lane i of a port, counted from FIRST_LANE. -/
def SvlPort.lane (x : SvlPort) (i : Nat) : SvlLane := sparseGet (fun _ => {}) x.lanes i

/-- Replace it. -/
def SvlPort.setLane (x : SvlPort) (i : Nat) (l : SvlLane) : SvlPort :=
  { x with lanes := sparseSet (fun _ => {}) x.lanes i l }

/-- Enabled port and lane offset to which a physical lane belongs. -/
def State.laneOwner (s : State) (l : Nat) : Option (Nat × Nat) :=
  (List.range 16).findSome? (fun p =>
    let f := s.firstLane p
    if (s.svlPort p).state != 0 && decide (f ≤ l) && decide (l < f + s.portWidth p) then some (p, l - f) else none)

/-- Every lane of a port READY: ACQUIRE ends (R310), unless a lane has a loop or GEN_EN (Table 10-5). -/
def State.acquireCheck (s : State) (p : Nat) : State :=
  let x := s.svlPort p
  if x.state = 1 ∧ (List.range (s.portWidth p)).all (fun i =>
      (x.lane i).st == 4 && !s.laneInTest (s.firstLane p + i)) then
    s.setSvlPort p { x with state := 2, alignCount := none, lanes := sparseMap (fun _ => {}) (fun _ l => { l with marker := none }) x.lanes }
  else s

/-- The port leaves UP during a window: late for that symbol (R301). -/
def State.lateNow (s : State) (p : Nat) : State :=
  match s.portOf p with
  | none => s
  | some (g, q) =>
    match s.windowTick (s.vg g) q with
    | none => s
    | some t =>
      let x := s.svlPort p
      s.setSvlPort p (x.setRx { x.rxOf t with late := true })

/-- UP is left (R310): cause 0 a lane left READY, 1 marker disagreement, 2 ENABLE cleared. -/
def State.portDown (s : State) (p cause lane dst : Nat) : State :=
  let s := s.lateNow p
  let s := if cause = 2 then s else s.bump (C.SVL_LOCK_LOSS p)
  let s := s.raiseRow (svlSource p) 1 9 1 2 [(1, cause), (1, lane)]
  let x := s.svlPort p
  (s.setSvlPort p { x with state := dst, alignCount := none, cur := none, start := none }).acquireCheck p

/-- A lane takes a state code (R308); a lane that leaves READY takes its port from UP (R310). -/
def State.laneTo (s : State) (p i : Nat) (l : SvlLane) : State :=
  let x := s.svlPort p
  let was := (x.lane i).st
  let s := s.setSvlPort p (x.setLane i l)
  if was = 4 ∧ l.st ≠ 4 ∧ x.state = 3 then s.portDown p 0 (s.firstLane p + i) 1 else s.acquireCheck p

/-- Back to HUNT at the next symbol position (R308, R309). -/
def SvlLane.hunt (l : SvlLane) : SvlLane :=
  { l with st := 2, pos := (l.pos + 1) % 33, inv := false, marker := none, good := 0, part := [] }

/-- LOCK is entered: windows, headers and polarity counts begin (R309). -/
def SvlLane.toLock (l : SvlLane) : SvlLane := { l with st := 3, wHdrs := 0, wBad := 0, seen := 0, ctl := 0, ctlInv := 0 }

/-- READY is entered; inv: every received bit is complemented from now on (R309). -/
def SvlLane.toReady (l : SvlLane) (inv : Bool) : SvlLane :=
  { l with st := 4, inv := inv, desc := if inv then ~~~l.desc else l.desc, part := [] }

/-- The signal is lost (R308, R309). -/
def SvlLane.noSignal (l : SvlLane) : SvlLane := { l with st := 0, inv := false, marker := none, good := 0, part := [] }

/-! Blocks received (R282, R283, R286, R287, R308, R309). -/

/-- A payload through the descrambler, whose last 58 bits are h (R282). -/
def descramble (h : BitVec 58) (p : Nat) : BitVec 58 × BitVec 64 :=
  let x := h.toNat + p % 2 ^ 64 * 2 ^ 58
  (BitVec.ofNat 58 (x / 2 ^ 64), BitVec.ofNat 64 (p ^^^ (x / 2 ^ 19) ^^^ x))

/-- Header of a block: 1 data, 2 control, 0 and 3 invalid (R283). -/
def hdrOf (b : BitVec 66) : Nat := b.toNat / 2 ^ 64

/-- A lane hears a block: its header and descrambled payload. -/
def SvlLane.hear (l : SvlLane) (b : BitVec 66) : SvlLane × Nat × BitVec 64 :=
  let b := if l.inv then ~~~b else b
  let r := descramble l.desc b.toNat
  ({ l with desc := r.1 }, hdrOf b, r.2)

/-- Byte i of a control block, the first on the wire being byte 0 (R286). -/
def ctlByte (d : BitVec 64) (i : Nat) : Nat := d.toNat / 2 ^ (8 * i) % 256

/-- A field of n bytes of a control block, from byte i, in network order. -/
def ctlField (d : BitVec 64) (i : Nat) : Nat → Nat
  | 0 => 0
  | n + 1 => ctlField d i n * 256 + ctlByte d (i + n)

/-- Is a payload a control block that the far end may send (R287)? -/
def ctlGood (d : BitVec 64) : Bool :=
  crc8 0 ((List.range 7).map (ctlByte d)) == ctlByte d 7 && [0x1E, 0x33, 0x4B, 0x55, 0x78].contains (ctlByte d 0)

/-- A header in HUNT (R308). -/
def SvlLane.huntHdr (l : SvlLane) (h : Nat) : SvlLane :=
  if h = 1 ∨ h = 2 then (if l.good = 63 then l.toLock else { l with good := l.good + 1 })
  else { l with pos := (l.pos + 1) % 33, good := 0 }

/-- A header in LOCK or READY: the window of 64 (R309). -/
def SvlLane.window (l : SvlLane) (h : Nat) : SvlLane :=
  let bad := l.wBad + b2n (h == 0 || h == 3)
  if 16 ≤ bad then l.hunt
  else if l.wHdrs = 63 then { l with wHdrs := 0, wBad := 0 } else { l with wHdrs := l.wHdrs + 1, wBad := bad }

/-- A block in LOCK (R309): the two counts, and the 4,096 headers. -/
def SvlLane.lockBlock (l : SvlLane) (h : Nat) (d : BitVec 64) : SvlLane :=
  let l := l.window h
  if l.st ≠ 3 then l
  else
    let l := { l with
      seen := l.seen + 1, ctl := l.ctl + b2n (h == 2 && ctlGood d), ctlInv := l.ctlInv + b2n (h == 1 && ctlGood (~~~d)) }
    if 16 ≤ l.ctl then l.toReady false
    else if 16 ≤ l.ctlInv then l.toReady true
    else if 4096 ≤ l.seen then l.hunt else l

/-- A change of a physical lane that is in one of the states given. -/
def State.laneStep (s : State) (l : Nat) (from_ : List Nat) (f : SvlLane → SvlLane) : State :=
  match s.laneOwner l with
  | none => s
  | some (p, i) =>
    let x := (s.svlPort p).lane i
    if from_.contains x.st then s.laneTo p i (f x) else s

/-! Configuration (R281). -/

/-- May a port be enabled with its configuration (R281)? -/
def State.cfgValid (s : State) (p : Nat) : Bool :=
  let w := s.portWidth p
  let f := s.firstLane p
  f % w == 0 && decide (f + w ≤ 16) && (List.range 16).all (fun o =>
    o == p || (s.svlPort o).state == 0 ||
      decide (s.firstLane o + s.portWidth o ≤ f) || decide (f + w ≤ s.firstLane o))

/-- A port is enabled: ACQUIRE, or CFG_ERR (R281, R310). -/
def State.enablePort (s : State) (p : Nat) : State :=
  let x := s.svlPort p
  if s.cfgValid p then
    s.setSvlPort p { x with state := 1, cfgErr := false, lanes := [], alignCount := none, cur := none, start := none,
                              markerNo := 0, slot := 0, used := 32, pend := [] }
  else s.setSvlPort p { x with cfgErr := true }

/-- A port is disabled (R310). -/
def State.disablePort (s : State) (p : Nat) : State :=
  let s := if (s.svlPort p).state = 3 then s.portDown p 2 (s.firstLane p) 0 else s
  s.setSvlPort p { s.svlPort p with state := 0, cfgErr := false, lanes := [], alignCount := none, cur := none, start := none, pend := [] }

/-- SVL_PORT_CFG takes a value (R281, R310): its lanes are taken up anew when they change. -/
def State.writePortCfg (s : State) (p v : Nat) : State :=
  let same := s.portWidth p == (match bitsOf v 9 8 with
    | 1 => 2
    | 2 => 4
    | _ => 1) && s.firstLane p == bitsOf v 15 12
  let on := (s.svlPort p).state != 0
  if bit v 0 then
    if on && same then s.wrRw (R.SVL_PORT_CFG p) v
    else
      let s := if on then s.disablePort p else s
      (s.wrRw (R.SVL_PORT_CFG p) v).enablePort p
  else (s.disablePort p).wrRw (R.SVL_PORT_CFG p) v

/-! Alignment (R310). -/

/-- Field j of a marker: 0 logical lane, 1 width, 2 count, 3 sender, 4 position. -/
def mkField (m : List Nat) (j : Nat) : Nat := (m[j]?).getD 0

/-- Latest markers of a port's lanes, where each has one. -/
def SvlPort.markers (x : SvlPort) (l : Nat) : Option (List (List Nat)) :=
  (List.range l).foldr (fun i r => match r, (x.lane i).marker with
    | some ms, some m => some (m :: ms)
    | _, _ => none) (some [])

/-- Earliest position of a marker set. -/
def earliest (ms : List (List Nat)) : Nat := ms.foldl (fun a m => min a (mkField m 4)) ((ms.head?.map (fun m => mkField m 4)).getD 0)

/-- First condition that a marker set fails (R310, Table 9-7): 0 sender ID, 1 marker count, 2 skew, 3 width, 4 logical lanes. -/
def markerFault (width : Nat) (ms : List (List Nat)) : Option Nat :=
  let same := fun (j : Nat) => ms.all (fun m => mkField m j == mkField (ms.head?.getD []) j)
  if same 3 = false then some 0
  else if same 2 = false then some 1
  else if ms.any (fun m => decide (earliest ms + 64 < mkField m 4)) then some 2
  else if ms.any (fun m => (match mkField m 1 with
      | 1 => 2
      | 2 => 4
      | _ => 1) != width) then some 3
  else if decide ((ms.map (fun m => mkField m 0)).Nodup) = false then some 4
  else none

/-- The port goes UP: lane map and skews are recorded (R310). -/
def State.portUp (s : State) (p : Nat) (ms : List (List Nat)) : State :=
  let x := s.svlPort p
  let e := earliest ms
  let x := (List.range ms.length).foldl (fun (x : SvlPort) i =>
    let m := (ms[i]?).getD []
    x.setLane i { x.lane i with logical := mkField m 0, skew := mkField m 4 - e, part := [] }) x
  let x := { x with state := 3, alignCount := none, sender := mkField (ms.head?.getD []) 3 }
  let sum := fun (f : SvlLane → Nat) (w : Nat) => (List.range ms.length).foldl (fun a i => a + f (x.lane i) * 2 ^ (w * i)) 0
  let top := (List.range ms.length).foldl (fun a i => max a (x.lane i).skew) 0
  (s.setSvlPort p x).raiseRow (svlSource p) 3 9 6 2
    [(1, sum (fun l => l.logical % 4) 2), (1, sum (fun l => b2n l.inv) 1), (1, top), (4, x.sender)]

/-- A LANE_MARKER arrives on lane i of a port (R310). -/
def State.takeMarker (s : State) (p i : Nat) (m : List Nat) : State :=
  let x := s.svlPort p
  let l := s.portWidth p
  if (x.lane i).st ≠ 4 ∨ l ≤ i then s
  else
    let x := x.setLane i { x.lane i with marker := some m }
    let s := s.setSvlPort p x
    let whole := (x.markers l).filter (fun ms => ms.all (fun n => mkField n 2 == mkField m 2))
    if x.state = 2 then
      match whole with
      | none => s
      | some ms =>
        match markerFault l ms with
        | some _ => s.setSvlPort p { x with alignCount := none }
        | none =>
          if x.alignCount = some ((mkField m 2 + 65535) % 65536) then s.portUp p ms
          else s.setSvlPort p { x with alignCount := some (mkField m 2) }
    else if x.state = 3 then
      if mkField m 0 ≠ (x.lane i).logical then s.portDown p 1 (s.firstLane p + i) 1
      else
        match whole with
        | none => s
        | some ms =>
          let bad := (List.range l).find? (fun j => mkField ((ms[j]?).getD []) 4 - earliest ms != (x.lane j).skew)
          match bad with
          | some j => s.portDown p 1 (s.firstLane p + j) 1
          | none => s
    else s

/-! Streams received (R296 to R299). -/

/-- First misalignment in a vector cycle (Table 9-7), and its count. -/
def State.misalign (s : State) (p tick lane : Nat) : State :=
  let s := s.bump (C.SVL_MISALIGN p)
  let x := s.svlPort p
  if x.misTold then s
  else (s.setSvlPort p { x with misTold := true }).raiseRow (svlSource p) 2 9 3 2 [(4, tick % 2 ^ 32), (1, lane)]

/-- A tile pair of logical lane i (R294, R298). Before the edge of its arrival tick a lane can have sent 2,048 tiles at most
(R297). -/
def State.takePair (s : State) (p i bits : Nat) : State :=
  let x := s.svlPort p
  if x.ignore then s
  else
    match x.cur, s.portOf p with
    | some t, some (g, q) =>
      let r := x.rxOf t
      let y := s.vg g
      let l := s.portWidth p
      let nS := ceilDiv (y.sampleTiles q) 2
      let nF := ceilDiv y.fbTotal 2
      let gS := sparseGet (fun _ => 0) r.gotS i
      let gF := sparseGet (fun _ => 0) r.gotF i
      let put := fun (r : RxSym) (base n top : Nat) =>
        let one := fun (r : RxSym) (j v : Nat) => if j < top then
          { r with tiles := sparseSet (fun _ => 0) r.tiles (base + j) (BitVec.ofNat 288 v) } else r
        one (one r (2 * n) (bits % 2 ^ 288)) (2 * n + 1) (bits / 2 ^ 288)
      if s.tick.count.toNat < r.tick ∧ 1024 ≤ gS + gF then s
      else if r.ended.testBit i then s.misalign p t i
      else if gS < lanePairs nS l i then
        let r' := { r with gotS := sparseSet (fun _ => 0) r.gotS i (gS + 1) }
        s.setSvlPort p (x.setRx (if r.closed then r else put r' 0 (gS * l + i) (y.sampleTiles q)))
      else if gF < lanePairs nF l i then
        let r' := { r with gotF := sparseSet (fun _ => 0) r.gotF i (gF + 1) }
        s.setSvlPort p (x.setRx (if r.closed then r else put r' (2 ^ 20) (gF * l + i) y.fbTotal))
      else s.misalign p t i
    | _, _ =>
      match s.portOf p with
      | some (g, _) => if (s.vg g).state < 2 then s else s.misalign p s.tick.count.toNat i
      | none => s

/-- A STREAM_START for a group and a tick number (R296). -/
def State.takeStart (s : State) (p grp tickNo : Nat) : State :=
  let x := s.svlPort p
  let refuse := fun (s : State) => s.setSvlPort p { s.svlPort p with cur := none, ignore := true }
  match s.portOf p with
  | none => refuse s
  | some (g, q) =>
    let y := s.vg g
    if y.state < 2 then refuse s
    else if grp = g ∧ (s.gapTick y).map (fun t => t % 65536) = some tickNo then refuse s
    else
      match s.windowTick y q with
      | some t =>
        if grp = g ∧ t % 65536 = tickNo then
          s.setSvlPort p { x.setRx { x.rxOf t with opened := true } with cur := some t, ignore := false }
        else refuse (s.bump (C.SVL_STREAM_BAD p))
      | none => refuse (s.bump (C.SVL_STREAM_BAD p))

/-- An FB_START on logical lane i (R298). -/
def State.takeFb (s : State) (p i : Nat) : State :=
  let x := s.svlPort p
  match x.cur, s.portOf p with
  | some t, some (g, q) =>
    let r := x.rxOf t
    if sparseGet (fun _ => 0) r.gotS i < lanePairs (ceilDiv ((s.vg g).sampleTiles q) 2) (s.portWidth p) i ∧
        r.ended.testBit i = false then
      (s.setSvlPort p (x.setRx { r with ended := setBit r.ended i })).misalign p t i
    else s
  | _, _ => s

/-- A STREAM_START arrives on lane i of a port that is UP: a pair partly received on the lane is discarded and counted; the
same block on the port's other lanes is the same STREAM_START (R296, R298). -/
def State.onStart (s : State) (p i grp tickNo : Nat) : State :=
  let x := s.svlPort p
  let s := if (x.lane i).part.isEmpty then s
    else (s.setSvlPort p (x.setLane i { x.lane i with part := [] })).misalign p (x.cur.getD s.tick.count.toNat) (x.lane i).logical
  let fresh := (s.takeStart p grp tickNo)
  let begin_ := fresh.setSvlPort p { fresh.svlPort p with start := some (grp, tickNo, 2 ^ i) }
  match x.start with
  | some (g, t, m) =>
    if g = grp ∧ t = tickNo ∧ m.testBit i = false then
      s.setSvlPort p { s.svlPort p with start := some (g, t, setBit m i) }
    else begin_
  | none => begin_

/-- A data block on lane i of a port that is UP: the ninth completes a pair (R284). -/
def State.takeData (s : State) (p i : Nat) (d : BitVec 64) : State :=
  let x := s.svlPort p
  let l := x.lane i
  if x.state ≠ 3 then s
  else if l.part.length < 8 then s.setSvlPort p (x.setLane i { l with part := l.part ++ [d] })
  else
    (s.setSvlPort p (x.setLane i { l with part := [] })).takePair p l.logical
      ((l.part ++ [d]).foldr (fun w a => w.toNat + a * 2 ^ 64) 0)

/-- A LINE_STATUS arrives on a port (R305); a reserved state acts as 0 (Table 9-1). -/
def State.takeStatus (s : State) (p line rate st : Nat) : State :=
  let x := s.svlPort p
  if s.fld (F.SVL_PORT_CFG_LINES p) ≤ line then s.bump (C.SVL_CTL_BAD p)
  else if x.state = 3 then
    let l := sparseGet (fun _ => {}) x.lines line
    s.setSvlPort p { x with lines := sparseSet (fun _ => {}) x.lines line { l with fresh := some (rate, if 4 < st then 0 else st) } }
  else s

/-- A control block on a READY lane i of a port (R287, Table 9-1); pos is the block position at which it arrives. -/
def State.takeControl (s : State) (p i pos : Nat) (d : BitVec 64) : State :=
  let up := (s.svlPort p).state == 3
  let ty := ctlByte d 0
  if ctlGood d = false then s.bump (C.SVL_CTL_BAD p)
  else if ty = 0x33 then (if up then s.onStart p i (ctlByte d 1 % 4) (ctlField d 2 2) else s)
  else if ty = 0x4B then (if up then s.takeFb p ((s.svlPort p).lane i).logical else s)
  else if ty = 0x55 then s.takeStatus p (ctlByte d 1) (ctlField d 2 3) (ctlByte d 5 % 16)
  else if ty = 0x78 then
    s.takeMarker p i [ctlByte d 1 % 4, ctlByte d 1 / 4 % 4, ctlField d 2 2, ctlField d 4 3, pos]
  else s

/-- A block, header and descrambled payload, on lane i of a port, by the lane's state (Table 9-4). -/
def State.takeBlock (s : State) (p i pos h : Nat) (d : BitVec 64) : State :=
  let x := (s.svlPort p).lane i
  if x.st = 2 then s.laneTo p i (x.huntHdr h)
  else if x.st = 3 then s.laneTo p i (x.lockBlock h d)
  else if x.st = 4 then
    let y := x.window h
    let s := s.laneTo p i y
    if y.st ≠ 4 then s else if h = 2 then s.takeControl p i pos d else if h = 1 then s.takeData p i d else s
  else s

/-- A block as received on lane i of a port. -/
def State.hearBlock (s : State) (p i pos : Nat) (b : BitVec 66) : State :=
  let x := s.svlPort p
  let r := (x.lane i).hear b
  (s.setSvlPort p (x.setLane i r.1)).takeBlock p i pos r.2.1 r.2.2

/-- Blocks arrive at a physical lane that belongs to an enabled port (R322 to R324): a near-end loop brings the lane's own in
their place, a far-end loop also sends them out again, and a lane whose received word is a pattern has none. -/
def State.laneBlocks (s : State) (p i pos : Nat) (bs : List (BitVec 66)) : State :=
  let l := s.firstLane p + i
  if s.nearLoop l then
    let own := (s.lane l).blocks
    own.foldl (fun s b => s.takeBlock p i pos (hdrOf b) (BitVec.ofNat 64 b.toNat)) (s.setLane l { s.lane l with blocks := [] })
  else
    let s := if s.farLoop l then bs.foldl (fun s b => s.emit (.resent l b)) s else s
    bs.foldl (fun s b => s.hearBlock p i pos b) s

/-- Blocks arrive on lane i of a port, in one of the lane states given. -/
def State.portBlocks (s : State) (p i pos : Nat) (from_ : List Nat) (bs : List (BitVec 66)) : State :=
  if (s.svlPort p).state ≠ 0 ∧ i < s.portWidth p ∧ from_.contains ((s.svlPort p).lane i).st then s.laneBlocks p i pos bs else s

/-- Blocks arrive on a physical lane, in one of the lane states given. -/
def State.laneHears (s : State) (l : Nat) (from_ : List Nat) (bs : List (BitVec 66)) : State :=
  match s.laneOwner l with
  | none => s
  | some (p, i) => s.portBlocks p i 0 from_ bs

/-- One control block of a type arrives on a READY lane i of a port, or one that R287 discards. -/
def State.control (s : State) (p i pos ty : Nat) (b : BitVec 66) : State :=
  let r := ((s.svlPort p).lane i).hear b
  if s.nearLoop (s.firstLane p + i) ∨ (r.2.1 = 2 ∧ (ctlGood r.2.2 = false ∨ ctlByte r.2.2 0 = ty)) then
    s.portBlocks p i pos [4] [b]
  else s

/-! Line status (R305, R306). -/

/-- A port delivers its lines at a vector-cycle boundary (R306). -/
def State.deliverPort (s : State) (p : Nat) (deliver : State → Nat → Nat → Nat → State) : State :=
  (List.range (s.fld (F.SVL_PORT_CFG_LINES p))).foldl (fun s i =>
    let x := s.svlPort p
    let l := sparseGet (fun _ => {}) x.lines i
    let up := x.state == 3
    let missed := l.fresh.isNone
    let miss := if missed then min (l.miss + 1) 8 else 0
    let v := if !up || decide (8 ≤ miss) then (0, 0) else l.fresh.getD (l.rate, l.state)
    let s := s.setSvlPort p { x with lines := sparseSet (fun _ => {}) x.lines i ⟨none, v.1, v.2, miss⟩ }
    let s := if missed then s.bump (C.SVL_STATUS_MISS p) else s
    let ch := s.fld (F.SVL_PORT_CFG_LINE_BASE p) + i
    let s := if missed && l.miss == 7 then s.raiseRow (svlSource p) 2 9 5 2 [(1, i), (1, ch)] else s
    deliver s ch v.1 v.2) s

end Sys2Proof.Machine
end

