-- ==== Sys2Proof/Machine/LaneOps.lean ====
section
/-! DEFINITION. The serial lanes' operations (R317 to R336). Choices: log 19. -/

namespace Sys2Proof.Machine

/-- KIND of a lane: 0 vector link, 1 Ethernet, 2 PON serialiser (Table 10-1). -/
def laneKind (l : Nat) : Nat := if l < 16 then 0 else if l < 40 then 1 else 2

/-- Is a vector link lane one of an enabled SVL port? -/
def State.svlUses (s : State) (l : Nat) : Bool :=
  (List.range 16).any (fun p => s.flag (F.SVL_PORT_CFG_ENABLE p) &&
    decide (s.fld (F.SVL_PORT_CFG_FIRST_LANE p) ≤ l ∧ l < s.fld (F.SVL_PORT_CFG_FIRST_LANE p) + s.portWidth p))

/-- An event of a lane (Table 10-8). -/
def State.laneEvent (s : State) (l sev row : Nat) (fs : List (Nat × Nat)) : State :=
  s.raiseRow (laneSource l) sev 10 row 0 fs

/-! Sleep (R332, R333, R532). -/

/-- Does the power state ask a half of a lane to sleep (R532; the end of an exit from OVERCAST withdraws what that state added, R538)? -/
def State.powerSleep (s : State) (l : Nat) : Bool :=
  let st := if s.pwr.exiting && decide (6 ≤ s.pwr.part) then s.pwr.target else s.pwr.state
  let idle :=
    if l < 16 then !s.svlUses l
    else if l < 40 then !s.flag (F.ETH_CFG_ENABLE (l - 16)) || (s.macAt (l - 16)).downLong
    else !s.flag (F.PON_RX_CFG_ENABLE (l - 40))
  ((st == 1 || st == 2) && s.flag F.PWR_HAZE_CFG_LANE_SLEEP && idle) || (st == 2 && decide (l < 16))

/-- Does a lane's user ask for sleep (R332)? -/
def State.userSleep (s : State) (l : Nat) : Bool :=
  if l < 16 then false
  else if l < 40 then !s.flag (F.ETH_CFG_ENABLE (l - 16))
  else (s.ch (l - 40)).lull != .awake && !(s.ch (l - 40)).txPowered && !(s.ch (l - 40)).txWaking

/-- Requesters of sleep for a half: bit 0 host software, 1 the power state, 2 the lane's user. -/
def State.sleepReq (s : State) (l : Nat) (tx : Bool) : Nat :=
  b2n (if tx then s.flag (F.LANE_PWR_TX_SLEEP l) else s.flag (F.LANE_PWR_RX_SLEEP l)) + 2 * b2n (s.powerSleep l) +
    4 * b2n (s.userSleep l)

/-- Requests for the receive half that hold it asleep: those made since a wake by signal. -/
def State.rxHolds (s : State) (l : Nat) : Nat :=
  let r := s.sleepReq l false
  r - (r &&& (s.lane l).rxIgnore)

/-- Is a half asleep (R332)? A selected loop uses both halves of its lane. -/
def State.asleep (s : State) (l : Nat) (tx : Bool) : Bool :=
  s.fld (F.LANE_CFG_LOOP l) == 0 && (if tx then s.sleepReq l true else s.rxHolds l) != 0

/-- An eye scan ends (R330): the command that asked for it completes. -/
def State.endEye (s : State) (l result cause : Nat) : State :=
  let x := s.lane l
  if x.eyeBusy then
    let n := s.arb.raised
    let s := s.setLane l { x with eyeBusy := false, eyeResult := result, eyeCause := cause, eyeCmd := none }
    let s := s.laneEvent l 3 4 [(1, l), (1, result), (1, cause), (2, x.eyePoints)]
    match x.eyeCmd with
    | some (f, id) => s.complete f id n stDone 0
    | none => s
  else s

/-- The rate set of a lane changes (R318): a scan ends, a locked checker hunts again. -/
def State.setLaneRate (s : State) (l r : Nat) : State :=
  if (s.lane l).rate = r then s
  else
    let s := s.setLane l { s.lane l with rate := r, patLock := false, ref := none }
    s.endEye l 2 2

/-! What a MAC whose receive half sees no signal does (R354, R358). -/

/-- An event of a MAC (Table 11-6). -/
def State.ethEvent (s : State) (m sev row : Nat) (fs : List (Nat × Nat)) : State := s.raiseRow (0x0060 + m) sev 11 row 3 fs

/-- SPEED in force: 3 acts as 0. -/
def State.ethSpeed (s : State) (m : Nat) : Nat := s.fld (F.ETH_CFG_SPEED m) % 3

/-- The MAC's rate set changes, with its lane's (R318). -/
def State.macRate (s : State) (m r : Nat) : State := (s.setMac m { s.macAt m with rate := r }).setLaneRate (16 + m) r

/-- The window of the down test begins again. -/
def Mac.newWindow (x : Mac) : Mac := { x with sentWin := 0, rcvdWin := 0 }

/-- The glide machine enters OFF (R354): the rate set is that of SPEED. PARTNER stands until the link goes down. -/
def State.glideOff (s : State) (m : Nat) : State :=
  let x := s.macAt m
  (s.setMac m { x with glide := .off, stage := 0, quiet := false, tries := 0 }).macRate m (s.ethSpeed m)

/-- A glide fails (R354, R358): counted, told; cause 0 NAK, 1 no answer, 2 retrain timeout. The machine starts no new REQ
for a window. -/
def State.glideFail (s : State) (m cause : Nat) : State :=
  let x := s.macAt m
  let s := s.setMac m { x.newWindow with glide := if x.prev = 0 then .high else .low, stage := 0, quiet := true }
  s.ethEvent m 2 3 [(1, b2n (x.target == 0)), (1, cause)]

/-- A retrain in progress ends with the link (R358): told as failed. DESIGN CHOICE (log 20): cause 2 stands for it. -/
def State.retrainLost (s : State) (m : Nat) : State := if (s.macAt m).stage = 0 then s else s.glideFail m 2

/-- A link goes down (R354, Table 11-6): cause 0 signal lost, 1 block lock lost, 2 remote fault, 3 glide return failed. -/
def State.ethLinkDown (s : State) (m cause : Nat) : State :=
  let r := (s.macAt m).rate
  let s := (s.setMac m { s.macAt m with link := false, partner := false }).bump (C.ETH_LINK_DOWN m)
  let s := s.ethEvent m 2 1 [(1, r), (1, cause)]
  let s := s.retrainLost m
  let s := if cause = 0 then (s.setLane (16 + m) { s.lane (16 + m) with sd := false, cdr := false }).endEye (16 + m) 2 3 else s
  s.glideOff m

/-- A receive half is asleep (R330, R333): it stops clock recovery and sampling, a scan on it ends, and its user sees loss of
signal; the checker of a lane that wakes hunts (Table 10-5). -/
def State.rxAsleep (s : State) (l : Nat) : State :=
  let x := s.lane l
  let s := (s.setLane l { x with rxOn := false, cdr := false, sd := false, patLock := false, ref := none }).endEye l 2 1
  if l < 16 then s.laneStep l [1, 3, 4] (fun x => x.noSignal)
  else if l < 40 ∧ (s.macAt (l - 16)).link then s.ethLinkDown (l - 16) 0
  else s

/-- The halves of a lane follow their sleep requests: a half that falls asleep is no longer ready. -/
def State.laneEval (s : State) (l : Nat) : State :=
  let x := s.lane l
  let s := s.setLane l { x with rxIgnore := x.rxIgnore &&& s.sleepReq l false }
  let s := if s.asleep l true then s.setLane l { s.lane l with txOn := false } else s
  if s.asleep l false ∧ l < 40 then s.rxAsleep l else s

/-- Every lane follows its sleep requests. -/
def State.lanesEval (s : State) : State := (List.range 44).foldl (fun s l => s.laneEval l) s

/-- SVL_PORT_CFG takes a value, and the lanes of the old and the new port follow (R310, R332). -/
def State.setPortCfg (s : State) (p v : Nat) : State := (s.writePortCfg p v).lanesEval

/-- A vector link lane's test has ended: its port may leave ACQUIRE (Table 10-5). -/
def State.portAfterTest (s : State) (l : Nat) : State :=
  if l < 16 then (match s.laneOwner l with
    | some (p, _) => s.acquireCheck p
    | none => s) else s

/-! Tests (R322 to R336). -/

/-- LANE_STATUS.TEST follows the loop, the generator and the injection run (R336). -/
def State.testEval (s : State) (l : Nat) : State :=
  let t := s.fld (F.LANE_CFG_LOOP l) != 0 || s.flag (F.LANE_PAT_CFG_GEN_EN l) || (s.lane l).injRun
  { s with testLanes := if t then setBit s.testLanes l else clrBit s.testLanes l }

/-- Does Table 10-5 refuse a loop or the generator on a lane? -/
def State.testRefused (s : State) (l : Nat) : Bool :=
  if l < 16 then s.svlUses l
  else if l < 40 then false
  else s.flag (F.PON_RX_CFG_ENABLE (l - 40)) && (s.ch (l - 40)).act != .o7

/-- Can a lane select a loop at all (Table 10-2)? -/
def State.loopOffered (s : State) (l loop : Nat) : Bool :=
  if l < 40 then decide (loop ≤ 3) else loop == 0 || (loop == 1 && (s.lane l).rate == 0)

/-- Does Table 10-5 refuse a LOOP value? -/
def State.loopRefused (s : State) (l loop : Nat) : Bool :=
  loop != 0 && (s.testRefused l || s.asleep l true || (decide (l < 40) && s.asleep l false))

/-- TX_DIS follows a near-end serial loop on a PON serialiser, in which it stays asserted (R323). -/
def State.serialLoop (s : State) (n : Nat) : State :=
  if (s.ch n).txDis then s else s.emit (.pin "TX_DIS" n (s.nearLoop (40 + n)))

/-- A LOOP value takes effect (R322, Table 10-5): a locked checker hunts again, counted in PAT_LOCK_LOSS. -/
def State.setLoop (s : State) (l loop : Nat) : State :=
  if s.fld (F.LANE_CFG_LOOP l) = loop then s
  else
    let s := s.setFld (F.LANE_CFG_LOOP l) loop
    let s := if (s.lane l).patLock then s.bump (C.LANE_PAT_LOCK_LOSS l) else s
    let s := s.setLane l { s.lane l with patLock := false, ref := none, frames := [], blocks := [] }
    let s := if l = 40 ∨ l = 41 ∨ l = 42 ∨ l = 43 then s.serialLoop (l - 40) else s
    ((s.laneEval l).testEval l).portAfterTest l

/-- The checker rises or falls (R326). -/
def State.setChecker (s : State) (l : Nat) (on : Bool) : State :=
  if on = s.flag (F.LANE_PAT_CFG_CHK_EN l) then s
  else
    let s := (s.setFld (F.LANE_PAT_CFG_CHK_EN l) (b2n on)).setLane l { s.lane l with patLock := false, ref := none }
    if on then
      ((s.setCount (C.LANE_PAT_BITS l) 0).setCount (C.LANE_PAT_ERR l) 0).setCount (C.LANE_PAT_LOCK_LOSS l) 0
    else s

/-- The pattern generator starts or stops (R325). -/
def State.setGen (s : State) (l : Nat) (on : Bool) : State :=
  let s := s.setFld (F.LANE_PAT_CFG_GEN_EN l) (b2n on)
  ((s.setLane l { s.lane l with gen := none, frames := [], blocks := [] }).testEval l).portAfterTest l

/-- PATTERN and INV of LANE_PAT_CFG take values; the generator starts its sequence anew. -/
def State.setPattern (s : State) (l v : Nat) : State :=
  let s := (s.setFld (F.LANE_PAT_CFG_INV l) (bitsOf v 6 6)).setFld (F.LANE_PAT_CFG_PATTERN l) (bitsOf v 5 3)
  s.setLane l { s.lane l with gen := none }

/-! Patterns (R325, R326, Table 10-3). Bit 0 of a word is the first. -/

/-- Delays whose bits a pattern adds to make the next (Table 10-3); the user pattern repeats after 64. -/
def patDelays (p : Nat) : List Nat :=
  match p with
  | 1 => [9, 5]
  | 2 => [13, 12, 2, 1]
  | 3 => [15, 14]
  | 4 => [23, 18]
  | 5 => [31, 28]
  | 6 => [64]
  | _ => [7, 6]

/-- n more bits of a pattern above the k bits of x. -/
def patBits (ds : List Nat) (x k : Nat) : Nat → Nat
  | 0 => x
  | n + 1 =>
    let b := ds.foldl (fun a d => a != x.testBit (k - d)) false
    patBits ds (x + (if b then 2 ^ k else 0)) (k + 1) n

/-- The word of a pattern that follows the 64 bits h. -/
def patWord (p : Nat) (h : BitVec 64) : BitVec 64 := BitVec.ofNat 64 (patBits (patDelays p) h.toNat 64 64 / 2 ^ 64)

/-- PATTERN of a lane. -/
def State.pattern (s : State) (l : Nat) : Nat := s.fld (F.LANE_PAT_CFG_PATTERN l)

/-- The user pattern of a lane. -/
def State.userPattern (s : State) (l : Nat) : BitVec 64 :=
  BitVec.ofNat 64 ((s.rd (R.LANE_PAT_USER_LO l)).toNat + (s.rd (R.LANE_PAT_USER_HI l)).toNat * 2 ^ 32)

/-- INV as a mask. -/
def State.invMask (s : State) (l : Nat) : BitVec 64 := if s.flag (F.LANE_PAT_CFG_INV l) then BitVec.allOnes 64 else 0

/-- The next word that the generator sends. A generator that starts does so from a state the spec does not give, but never
from one of zeros (log 19). -/
def State.genWord (s : State) (l : Nat) : State × BitVec 64 :=
  let x := s.lane l
  let s0 := if s.pattern l = 6 then s.userPattern l else Config.prbsSeed s.freeCtr ||| BitVec.ofNat 64 (2 ^ 63)
  let w := patWord (s.pattern l) (x.gen.getD s0)
  ((s.setLane l { x with gen := some w }).nextFree, w ^^^ s.invMask l)

/-- May the checker of a lane lock? A PON serialiser has received bits in its loop alone (R323). -/
def State.checking (s : State) (l : Nat) : Bool :=
  s.flag (F.LANE_PAT_CFG_CHK_EN l) && (if 40 ≤ l then s.nearLoop l else !s.asleep l false)

/-- Ones of a word. -/
def ones64 (w : BitVec 64) : Nat := ((List.range 64).map (fun i => b2n (w.getLsbD i))).sum

/-- A word reaches the checker of a lane (R326). -/
def State.rxWord (s : State) (l : Nat) (w : BitVec 64) : State :=
  let x := s.lane l
  let p := s.pattern l
  let w := w ^^^ s.invMask l ^^^
    (if 16 ≤ l ∧ l < 40 ∧ s.flag (F.LANE_CFG_RX_INVERT l) then BitVec.allOnes 64 else 0)
  if s.checking l = false then s
  else if x.patLock then
    let e := patWord p (x.ref.getD 0)
    let n := ones64 (e ^^^ w)
    let s := (s.bumpBy (C.LANE_PAT_BITS l) 64).bumpBy (C.LANE_PAT_ERR l) n
    if 32 ≤ n then
      let s := (s.bump (C.LANE_PAT_LOCK_LOSS l)).setLane l { x with patLock := false, ref := none }
      s.laneEvent l 2 1 [(1, l), (1, p), (4, s.count (C.LANE_PAT_ERR l))]
    else s.setLane l { x with ref := some e }
  else
    let match_ := if p = 6 then (List.range 64).any (fun k => (s.userPattern l).rotateLeft k == w)
      else (x.ref.map (patWord p)) == some w
    s.setLane l { x with patLock := match_, ref := if p = 6 && !match_ then none else some w }

/-- MODE of LANE_INJ: 3 acts as 0. -/
def State.injMode (s : State) (l : Nat) : Nat := s.fld (F.LANE_INJ_MODE l) % 3

/-- An injection run ends (R327). -/
def State.endInj (s : State) (l : Nat) : State :=
  let s := (s.setLane l { s.lane l with injRun := false, injLeft := 0 }).testEval l
  s.laneEvent l 3 5 [(1, l), (4, s.count (C.LANE_INJ_DONE l))]

/-- A write of LANE_INJ (R327, R335, R338): one with GO during a run is ignored; a run without an end ends when MODE is written
0; a 1 written to GO starts a run, except with MODE 0. -/
def State.writeLaneInj (s : State) (l v : Nat) : State :=
  let x := s.lane l
  if bit v 31 ∧ x.injRun then s
  else
    let s := s.wrRw (R.LANE_INJ l) v
    if x.injRun then (if x.injLeft = 0 ∧ s.injMode l = 0 then s.endInj l else s)
    else if bit v 31 then
      let s := s.setCount (C.LANE_INJ_DONE l) 0
      if s.injMode l = 0 then s
      else (s.setLane l { s.lane l with
        injRun := true, injLeft := s.fld (F.LANE_INJ_COUNT l), injGap := 0, carry := 0 }).testEval l
    else s

/-- The bits that an injection inverts, from bit 0 of its word (R327): one at POS, or LEN + 1 from there. -/
def State.injBits (s : State) (l : Nat) : Nat :=
  (if s.injMode l = 2 then 2 ^ (s.fld (F.LANE_INJ_LEN l) + 1) - 1 else if s.injMode l = 1 then 1 else 0) *
    2 ^ s.fld (F.LANE_INJ_POS l)

/-- A word is about to leave: the bits of it that the injection run inverts (R327). On a PON serialiser a word outside a burst
carries none. -/
def State.injMask (s : State) (l : Nat) : State × BitVec 64 :=
  let x := s.lane l
  if 40 ≤ l ∧ (s.ch (l - 40)).burstOn = false then (s, 0)
  else if x.injRun = false then (s.setLane l { x with carry := 0 }, x.carry)
  else if x.injGap ≠ 0 then (s.setLane l { x with injGap := x.injGap - 1, carry := 0 }, x.carry)
  else
    let m := s.injBits l
    let s := s.bump (C.LANE_INJ_DONE l)
    let s := s.setLane l { x with
      injGap := 2 ^ s.fld (F.LANE_INJ_PERIOD l) - 1, carry := BitVec.ofNat 64 (m / 2 ^ 64), injLeft := x.injLeft - 1 }
    (if x.injLeft = 1 then s.endInj l else s, x.carry ^^^ BitVec.ofNat 64 m)

/-- A word leaves the transmit half (R322, R325, R327): the pattern's, or w; TX_INVERT complements it. A near-end loop brings it
back. -/
def State.txWord (s : State) (l : Nat) (w : BitVec 64) : State :=
  if s.asleep l true then s
  else
    let g := if s.sendsPattern l then s.genWord l else (s, w)
    let m := g.1.injMask l
    let out := g.2 ^^^ m.2 ^^^ (if s.flag (F.LANE_CFG_TX_INVERT l) then BitVec.allOnes 64 else 0)
    let s := m.1.emit (.laneWord l out)
    if s.nearLoop l then s.rxWord l out else s

/-- Words of the transmit half: in a far-end loop those received, which go out again. -/
def State.sendWords (s : State) (l : Nat) (ws : List (BitVec 64)) : State :=
  ws.foldl (fun s w => if s.farLoop l then (s.rxWord l w).txWord l w else s.txWord l w) s

/-- Words at the receive half: in a near-end loop those sent. -/
def State.receiveWords (s : State) (l : Nat) (ws : List (BitVec 64)) : State :=
  ws.foldl (fun s w =>
    if s.nearLoop l then s.txWord l w else if s.farLoop l then (s.rxWord l w).txWord l w else s.rxWord l w) s

/-- The serialiser of a PON channel takes the rate set of a burst's line rate in kbit/s (R318, Table 10-1); XGS-PON mode has
r0 alone. -/
def State.burstRate (s : State) (n kbps : Nat) : State :=
  if 4 ≤ n then s
  else s.setLaneRate (40 + n)
    (if s.flag (F.PON_RX_CFG_MODE n) then 0 else if kbps = 24883200 then 1 else if kbps = 12441600 then 2 else 0)

/-- A scan starts (R329). -/
def State.startEye (s : State) (l : Nat) (cmd : Option (Nat × Nat)) : State :=
  if (s.lane l).eyeBusy ∨ 40 ≤ l then s
  else
    let s := s.setLane l { s.lane l with eyeBusy := true, eyePoints := 0, eyeMap := [], eyeCmd := cmd }
    s.laneEval l

/-- Rate sets of a lane (Table 10-1): a PON serialiser has one in XGS-PON mode. -/
def State.rateSets (s : State) (l : Nat) : Nat :=
  if l < 16 ∨ (40 ≤ l ∧ s.flag (F.PON_RX_CFG_MODE (l - 40))) then 1 else 3

/-- Write an equalisation value (R320): one over the limit is refused. A vector link lane has no set but r0, and the others'
fields are RSV (R337). -/
def State.writeTxfir (s : State) (l r v : Nat) : State × Bool :=
  if l < 16 ∧ r ≠ 0 then (s, true) else
  let pre := bitsOf v 14 11
  let main := bitsOf v 10 5
  let post := bitsOf v 4 0
  if 63 < pre + main + post then
    ((s.setFld (F.LANE_STATUS_EQ_REFUSED l) 1).laneEvent l 2 2 [(1, l), (1, r), (1, pre), (1, main), (1, post)], false)
  else (s.wrRw (R.LANE_TXFIR l r) v, true)

/-- Does Table 10-5 refuse a value of LANE_PWR? -/
def State.pwrRefused (s : State) (l v : Nat) : Bool :=
  (bit v 0 && decide (l < 16) && s.svlUses l) || ((bit v 0 || (bit v 1 && decide (l < 40))) && s.fld (F.LANE_CFG_LOOP l) != 0)

/-- The serialiser sets of a channel's mode are loaded from the board table (R319). -/
def State.loadPonSets (s : State) (n : Nat) : State :=
  (s.boot.values.ponSets.filter (fun e => e.1.val == n && e.2.1 == s.flag (F.PON_RX_CFG_MODE n))).foldl
    (fun s e => (s.writeTxfir (40 + n) e.2.2.1.val e.2.2.2.toNat).1) s

/-- A value of LANE_PWR takes effect: RX_SLEEP 1 is a request made anew (R333). -/
def State.setLanePwr (s : State) (l v : Nat) : State :=
  let s := s.wrRw (R.LANE_PWR l) v
  let x := s.lane l
  (s.setLane l { x with rxIgnore := if bit v 1 then clrBit x.rxIgnore 0 else x.rxIgnore }).laneEval l

end Sys2Proof.Machine
end

