-- ==== Sys2Proof/Machine/EthOps.lean ====
section
/-! DEFINITION. The Ethernet MACs' operations (R340 to R358) and the sending of a frame (R344, R345, R461 to R471).
Choices: log 20. -/

namespace Sys2Proof.Machine

/-- FEC in force: a value that the speed does not offer acts as none (R341, Table 11-1). -/
def State.ethFec (s : State) (m : Nat) : Nat :=
  let f := s.fld (F.ETH_CFG_FEC m) % 3
  if s.ethSpeed m = 0 then f else if s.ethSpeed m = 1 ∧ f = 1 then 1 else 0

/-- MAX_LEN: other values than 1,518-10,240 act as 1,518. -/
def State.ethMaxLen (s : State) (m : Nat) : Nat :=
  let n := s.fld (F.ETH_CFG_MAX_LEN m)
  if 1518 ≤ n ∧ n ≤ 10240 then n else 1518

/-- STRIP or INS: 3 acts as 2. -/
def upTo2 (n : Nat) : Nat := min n 2

/-- Outer tags of a frame that stripping removes: n at most, each with TPID 0x8100 or an outer TPID (R343): the tag bytes
and the frame without them. -/
def stripTags (tpid : Nat) : Nat → List Byte → List Byte × List Byte
  | 0, bs => ([], bs)
  | n + 1, bs =>
    let t := beAt bs 12 2
    if 16 ≤ bs.length ∧ (t = tpid ∨ t = 0x8100) then
      let r := stripTags tpid n (bs.take 12 ++ bs.drop 16)
      (sliceB bs 12 4 ++ r.1, r.2)
    else ([], bs)

/-- Does the group-address filter reject a frame (R346)? -/
def State.mcRejects (s : State) (m : Nat) (bs : List Byte) : Bool :=
  let da := beAt bs 0 6
  if beAt bs 0 1 % 2 = 0 then false
  else if da = 0xFFFFFFFFFFFF then s.flag (F.ETH_CFG_BCAST_DROP m)
  else if da / 16 = 0x0180C200000 then false
  else
    let h := crc32 ((bs.take 6).map (·.toNat)) / 2 ^ 20
    !bit (s.fld (F.ETH_MCHASH_BUCKET m (h / 32))) (h % 32)

/-- Count a frame received without error: len with its FCS. -/
def State.rxCount (s : State) (m len : Nat) : State :=
  let x := s.macAt m
  ((s.setMac m { x with rcvdWin := x.rcvdWin + len, rcvdCyc := x.rcvdCyc + len }).bump (C.ETH_RX_OK m)).bumpBy
    (C.ETH_RX_OCT m) len

/-- A frame goes out on a MAC's lane, unless the lane discards its user's data (R324, R325); a near-end loop brings it back
(R322). -/
def State.frameOut (s : State) (m : Nat) (bs : List Byte) (ok : Bool) : State :=
  let l := 16 + m
  if s.laneDiscards l then s
  else
    let s := s.emit (.ethFrame m bs ok)
    if s.nearLoop l then s.setLane l { s.lane l with frames := (s.lane l).frames ++ [(bs, ok)] } else s

/-- The frame that a MAC receives where its conductors bring one (R322): in a near-end loop the oldest it has sent, if any; a
far-end loop sends the frame out again. -/
def State.frameIn (s : State) (m : Nat) (bs : List Byte) (ok : Bool) : State × Option (List Byte × Bool) :=
  let l := 16 + m
  if s.nearLoop l then (s.setLane l { s.lane l with frames := (s.lane l).frames.drop 1 }, (s.lane l).frames.head?)
  else (if s.farLoop l then s.emit (.ethFrame m bs ok) else s, some (bs, ok))

/-- Send a frame, bytes without FCS; ok false: its FCS is complemented. -/
def State.txFrame (s : State) (m : Nat) (bs : List Byte) (ok : Bool) : State :=
  let s := s.frameOut m bs ok
  let len := bs.length + 4
  let x := s.macAt m
  ((s.setMac m { x with sentWin := x.sentWin + len, sentCyc := x.sentCyc + len }).bump (C.ETH_TX_OK m)).bumpBy
    (C.ETH_TX_OCT m) len

/-! Glide. -/

/-- Is a frame a glide control frame (R352)? -/
def isGlide (bs : List Byte) : Bool :=
  beAt bs 0 6 == 0x0180C200000E && beAt bs 12 2 == 0x88B5 && beAt bs 14 1 == 1

/-- A glide control frame of a MAC (Table 11-2). -/
def State.glideFrame (s : State) (m type trans target reason : Nat) : List Byte :=
  let sa := s.fld (F.ETH_SA_HI_SA m) * 2 ^ 32 + s.fld (F.ETH_SA_LO_SA m)
  beBytes 6 0x0180C200000E ++ beBytes 6 sa ++ beBytes 2 0x88B5 ++ beBytes 1 1 ++ beBytes 1 type ++
    beBytes 2 trans ++ beBytes 1 target ++ beBytes 1 reason ++ List.replicate 40 0

/-- Send a glide control frame. -/
def State.sendGlide (s : State) (m type trans target reason : Nat) : State :=
  s.txFrame m (s.glideFrame m type trans target reason) true

/-- A control frame arrives at a MAC whose link is up, and is counted; kind 1 to 5 a glide control frame's TYPE, 16 PAUSE, 17
PFC. none where none arrives: in a near-end loop unless the oldest frame sent is that one (R322). A far-end loop sends it out
again. -/
def State.controlIn (s : State) (m kind trans target : Nat) : Option State :=
  let l := 16 + m
  if (s.macAt m).link = false then none
  else if s.nearLoop l then
    match (s.lane l).frames with
    | (bs, _) :: fs =>
      if kind ≤ 5 ∧ isGlide bs ∧ beAt bs 15 1 = kind ∧ beAt bs 16 2 = trans ∧ beAt bs 18 1 = target then
        some ((s.setLane l { s.lane l with frames := fs }).rxCount m 64)
      else none
    | [] => none
  else some ((if s.farLoop l then s.emit (.ethControl m kind trans) else s).rxCount m 64)

/-- LOW: other values than 1-90 act as 40. -/
def State.glideLow (s : State) (m : Nat) : Nat :=
  let v := s.fld (F.ETH_GLIDE_LOW m)
  if 1 ≤ v ∧ v ≤ 90 then v else 40
/-- HIGH: other values than 10-95 act as 80. -/
def State.glideHigh (s : State) (m : Nat) : Nat :=
  let v := s.fld (F.ETH_GLIDE_HIGH m)
  if 10 ≤ v ∧ v ≤ 95 then v else 80
/-- WIN: other values than 10-1,000 act as 100. -/
def State.glideWin (s : State) (m : Nat) : Nat :=
  let v := s.fld (F.ETH_GLIDE_WIN m)
  if 10 ≤ v ∧ v ≤ 1000 then v else 100

/-- OFF is entered, and PROBING from it, under R354. -/
def State.glideEval (s : State) (m : Nat) : State :=
  let x := s.macAt m
  if s.flag (F.ETH_GLIDE_EN m) = false ∨ s.ethSpeed m ≠ 0 ∨ (x.link = false ∧ x.stage < 2) then
    if x.glide = .off then s else s.glideOff m
  else if x.glide = .off then
    s.setMac m { (s.macAt m).newWindow with glide := .probing }
  else s

/-- Send the next REQ of a request. -/
def State.sendReq (s : State) (m : Nat) : State :=
  let x := s.macAt m
  (s.setMac m { x with tries := x.tries + 1 }).sendGlide m 3 x.trans x.target 0

/-- The machine asks for a rate set (REQ_DOWN, REQ_UP). -/
def State.startReq (s : State) (m target : Nat) : State :=
  let x := s.macAt m
  (s.setMac m { x with glide := if target = 1 then .reqDown else .reqUp, trans := (x.trans + 1) % 65536, tries := 0,
                       target := target }).sendReq m

/-- A request fails. -/
def State.reqFail (s : State) (m cause : Nat) : State :=
  let x := s.macAt m
  ((s.setMac m { x with prev := x.rate }).bump (C.ETH_GLIDE_FAIL m)).glideFail m cause

/-- RETRAIN is entered (R357): frames are held, idle is sent. ours: the device asked. -/
def State.startRetrain (s : State) (m target : Nat) (ours : Bool) : State :=
  let x := s.macAt m
  s.setMac m { x with glide := .retrain, stage := 1, target := target, prev := x.rate, ours := ours }

/-- A MAC at a vector-cycle boundary (R355): the load of the cycle just ended; up test in LOW, and in HIGH at grades 5 to 7
the down test. -/
def State.macBoundary (s : State) (m : Nat) : State :=
  let x := s.macAt m
  let y := { x with sentCyc := 0, rcvdCyc := 0, lastSent := x.sentCyc, lastRcvd := x.rcvdCyc }
  let s := s.setMac m y
  if x.quiet then s
  else if x.glide = .low ∧ (s.glideHigh m * 9375 < x.sentCyc ∨ s.glideHigh m * 9375 < x.rcvdCyc) then s.startReq m 0
  else if x.glide = .high ∧ 5 ≤ s.pwr.grade ∧ x.sentCyc < s.glideLow m * 9375 ∧ x.rcvdCyc < s.glideLow m * 9375 then
    s.startReq m 1
  else s

/-- A write of ETH_CFG (R332, R341): SPEED and FEC only while ENABLE is 0. -/
def State.writeEthCfg (s : State) (m v : Nat) : State :=
  let old := (s.rd (R.ETH_CFG m)).toNat
  let v := if bit old 0 then putBits v 11 8 (bitsOf old 11 8) else v
  let s := s.wrRw (R.ETH_CFG m) v
  let s := if bit v 0 then s
    else
      let s := s.retrainLost m
      (s.setMac m { s.macAt m with link := false, partner := false, downLong := false }).glideOff m
  (if bit old 0 then s else s.macRate m (s.ethSpeed m)).laneEval (16 + m)

/-- A write of ETH_GLIDE (R354). -/
def State.writeGlide (s : State) (m v : Nat) : State := (s.wrRw (R.ETH_GLIDE m) v).glideEval m

/-! Sending (R344, R345, R465 to R471). -/

/-- One's complement sum of 16-bit words, folded once. -/
def fold16 (n : Nat) : Nat := n % 65536 + n / 65536

/-- 16-bit words of bytes, big-endian. -/
def words16 : List Byte → List Nat
  | a :: b :: bs => (a.toNat * 256 + b.toNat) :: words16 bs
  | [a] => [a.toNat * 256]
  | [] => []

/-- Incremental update of a UDP checksum when old bytes become new ones (R467): 0 stays 0. -/
def udpUpdate (sum : Nat) (old new : List Byte) : Nat :=
  if sum = 0 then 0
  else
    let t := (65535 - sum) + ((words16 old).map (fun w => 65535 - w)).sum + (words16 new).sum
    let r := 65535 - fold16 (fold16 t)
    if r = 0 then 65535 else r

/-- TIME field of a frame: LAUNCH. -/
def Frame.launch (f : Frame) : Bool := bit f.time 63
/-- ONESTEP. -/
def Frame.onestep (f : Frame) : Bool := bit f.time 62
/-- CAPTURE. -/
def Frame.capture (f : Frame) : Bool := bit f.time 61
/-- UDP. -/
def Frame.udp (f : Frame) : Bool := bit f.time 60
/-- PTP_OFF. -/
def Frame.ptpOff (f : Frame) : Nat := bitsOf f.time 55 48

/-- One-step insertion for a transmit timestamp u (R467). -/
def State.oneStep (s : State) (f : Frame) (u : Nat) : State × List Byte :=
  if f.onestep then
    let o := f.ptpOff
    let half : Int := 2 ^ 47
    let sec : Int := (((timeSec u : Int) - (beAt f.bytes (o + 34) 6 : Int) + half) % (2 ^ 48 : Int)) - half
    let d : Int := (sec * 1000000000 + (timeNs u : Int) - (beAt f.bytes (o + 40) 4 : Int)) * 65536 + (timeFrac u : Int)
    if -65536000000000 < d ∧ d < 65536000000000 then
      let old := sliceB f.bytes (o + 8) 8
      let new := beBytes 8 (((ofBe old : Int) + d) % (2 ^ 64 : Int)).toNat
      let bs := spliceB f.bytes (o + 8) new
      (s, if f.udp then spliceB bs (o - 2) (beBytes 2 (udpUpdate (beAt f.bytes (o - 2) 2) old new)) else bs)
    else (s.bump C.TIME_ONESTEP_SKIP, f.bytes)
  else (s, f.bytes)

/-- Tags and padding on transmission (R344, R345). -/
def State.txTags (s : State) (m : Nat) (f : Frame) (bs : List Byte) : List Byte :=
  let tpid := s.fld (F.ETH_TAG_TX_TPID_S m)
  let bs := (stripTags tpid (upTo2 (s.fld (F.ETH_TAG_TX_STRIP m))) bs).2
  let pcp := bitsOf (s.fld (F.ETH_PCP_MAP_PCP m (f.cls / 8 % 2))) (3 * (f.cls % 8) + 2) (3 * (f.cls % 8))
  let dei := b2n (s.flag (F.ETH_TAG_TX_DEI_COLOUR m) && decide (1 ≤ f.colour))
  let tag := fun (tp vid : Nat) => beBytes 2 tp ++ beBytes 2 (pcp * 8192 + dei * 4096 + vid)
  let ins := upTo2 (s.fld (F.ETH_TAG_TX_INS m))
  let inner := if 1 ≤ ins then tag 0x8100 (s.fld (F.ETH_TAG_TX_VID_INNER_VID m)) else []
  let outer := if ins = 2 then tag tpid (s.fld (F.ETH_TAG_TX_VID_OUTER_VID m)) else []
  let out := bs.take 12 ++ outer ++ inner ++ bs.drop 12
  out ++ List.replicate (60 - out.length) 0

/-- A MAC sends a frame whose timestamp point crosses the balls at a raw count: one-step insertion, tags, transmit
capture; met is the byte at which it finds a word uncorrectable, and the FCS is then complemented (R415). The buffer is
freed. -/
def State.sendFrame (s : State) (m : Nat) (f : Frame) (raw : Nat) (met : Option Nat) : State :=
  let s := s.rawTo raw
  match s.readFrame f.buf f.bytes.length met with
  | (s, bad) =>
    match s.oneStep f (s.time.at s.time.raw) with
    | (s, bs) =>
      let s := s.txFrame m (s.txTags m f bs) bad.isNone
      let s := if f.capture then
          (s.capture 1 m (leBytes 1 f.hq ++ leBytes 1 0 ++ leBytes 2 f.hqIdx ++ leBytes 4 0)).1
        else s
      s.finishDest f.buf agEthTx m

/-- A launch instant. -/
def Launch.instant (x : Launch) : Nat := timeOf x.sec x.ns 0

/-- Does launch entry a go before b: earlier instant, or equal and earlier enqueued? -/
def launchBefore (a b : Launch) : Bool := passed b.instant a.instant

/-- The entry a MAC sends next (R470). -/
def nextLaunch : List Launch → Option Launch
  | [] => none
  | x :: xs => match nextLaunch xs with
    | none => some x
    | some y => if launchBefore y x then some y else some x

/-- The time that n bytes take on a MAC's lane, in units of 2^-40 ns: 0.32, 0.8 or 8 ns a byte (Table 11-1). -/
def Mac.lineTime (x : Mac) (n : Nat) : Nat :=
  match x.rate with
  | 0 => n * 2 ^ 40 * 8 / 25
  | 1 => n * 2 ^ 40 * 4 / 5
  | _ => n * 2 ^ 40 * 8

/-- Would a frame whose timestamp point crosses the balls now leave the lane, with its FCS of 4 bytes and its interframe gap of 12,
before the preamble of 8 bytes of the MAC's next launch entry must begin (R470)? An entry already late claims no instant. -/
def State.clearsLaunch (s : State) (m : Nat) (f : Frame) : Bool :=
  match nextLaunch (s.launchQ m) with
  | none => true
  | some x => x.late ||
      !passed (s.time.at s.time.raw + (s.macAt m).lineTime ((s.txTags m f f.bytes).length + 24)) x.instant

/-- May a MAC start a frame of a queue (R349, R357)? -/
def State.macFree (s : State) (m queue : Nat) : Bool :=
  let x := s.macAt m
  x.link && !x.paused && x.stage == 0 && !bit x.pfc (queue % 8)

end Sys2Proof.Machine
end

