-- ==== Sys2Proof/Machine/HostQueues.lean ====
section
/-! DEFINITION. Commands of the host packet channels (chapter 14), but for HQ_FRAME_COMMIT. Choices: log 23. -/

namespace Sys2Proof.Machine

/-- Would a queue command change FUNC, SIZE, BUF_SIZE (bits [30:28], [12:6]) or BASE of an enabled queue (R416)? -/
def changesEnabled (oldCfg oldLo oldHi cfg lo hi : Nat) : Bool :=
  bit oldCfg 31 && (bitsOf oldCfg 30 28 != bitsOf cfg 30 28 || bitsOf oldCfg 12 6 != bitsOf cfg 12 6 ||
    oldLo != lo || oldHi != hi)

/-- HOST_DQ: HOST_DQ_CFG, HOST_DQ_HOLD, HOST_DQ_BASE_LO and _HI of a queue (R416). -/
def execHostDq (p : Pkt) (s : State) : Host.Outcome State Fault Refusal :=
  runCmd 0x3203 false (lenIs 4 p) (decide (p.target.toNat < 64)) (fun _ s =>
    let q := p.target.toNat
    let old := s.rd (R.HOST_DQ_CFG q)
    if p.w 2 % 64 != 0 then refuse stBadParam s
    else if changesEnabled old.toNat (s.rd (R.HOST_DQ_BASE_LO q)).toNat (s.rd (R.HOST_DQ_BASE_HI q)).toNat
        (p.w 0) (p.w 2) (p.w 3) then refuse stBusy s
    else
      let s := s.wrRun (R.HOST_DQ_CFG q) p.payload
      if bit (p.w 0) 31 then
        if bit old.toNat 31 then finish s else finish (s.setDq q { s.dq q with commits := 0 })
      else if (s.dq q).front.isSome then finish ((s.bump (C.DQ_DISABLED_DROP q)).dropFront q)
      else finish s) p s

/-- HOST_HQ: HOST_HQ_CFG, HOST_HQ_BASE_LO and _HI, HOST_HQ_WB_LO and _HI of a queue (R416). -/
def execHostHq (p : Pkt) (s : State) : Host.Outcome State Fault Refusal :=
  runCmd 0x3204 false (lenIs 5 p) (decide (p.target.toNat < 64)) (fun _ s =>
    let q := p.target.toNat
    let old := s.rd (R.HOST_HQ_CFG q)
    if p.w 1 % 32 != 0 || p.w 3 % 8 != 0 then refuse stBadParam s
    else if changesEnabled old.toNat (s.rd (R.HOST_HQ_BASE_LO q)).toNat (s.rd (R.HOST_HQ_BASE_HI q)).toNat
        (p.w 0) (p.w 1) (p.w 2) then refuse stBusy s
    else
      let s := s.wrRw (R.HOST_HQ_CFG q) (p.w 0)
      let s := s.wrRun (R.HOST_HQ_BASE_LO q) ((p.payload.drop 1).take 2)
      finish (s.wrRun (R.HOST_HQ_WB_LO q) (p.payload.drop 3))) p s

/-- A TAIL write with a posted count above the ring size is ignored and told (R417, Table 14-7): dir 0 device-to-host,
1 host-to-device. -/
def State.badIndex (s : State) (dir q func v : Nat) : State := s.raiseRow 0x0085 2 14 8 func [(1, dir), (1, q), (2, v)]

/-- DQ_TAIL_WRITE: a function writes HOST_DQ_TAIL of a queue (R416, R417). -/
def execDqTailWrite (f : Fin 6) (q : Fin 64) (v : BitVec 16) (s : State) : Host.Outcome State Fault Refusal :=
  if s.dqFunc q.val = f.val then
    if s.dqRing q.val < (v.toNat + 65536 - (s.dq q.val).head % 65536) % 65536 then
      .next (s.badIndex 0 q.val f.val v.toNat)
    else .next (s.setFld (F.HOST_DQ_TAIL_TAIL q.val) v.toNat)
  else .next (s.accErr f.val (R.HOST_DQ_TAIL q.val) 1)

/-- HQ_TAIL_WRITE: a function writes HOST_HQ_TAIL of a queue (R416). -/
def execHqTailWrite (f : Fin 6) (q : Fin 64) (v : BitVec 16) (s : State) : Host.Outcome State Fault Refusal :=
  if s.hqFunc q.val = f.val then
    if s.hqRing q.val < (v.toNat + 65536 - (s.hq q.val).head % 65536) % 65536 then
      .next (s.badIndex 1 q.val f.val v.toNat)
    else .next (s.setFld (F.HOST_HQ_TAIL_TAIL q.val) v.toNat)
  else .next (s.accErr f.val (R.HOST_HQ_TAIL q.val) 1)

/-- DQ_FRAME_CLAIM: the frame at a queue's head claims posted entries; addrs are the addresses read from the entries
after those already claimed. With enough of them and room in the completion FIFO its writes begin (R418, R419). A word of the
frame that is uncorrectable, or that a disturbance has struck since at byte bad, rewinds it (R421, Table 18-6). -/
def execDqFrameClaim (q : Fin 64) (addrs : List (BitVec 64)) (bad : Option Nat) (s : State) :
    Host.Outcome State Fault Refusal :=
  let d := s.dq q.val
  match d.front, d.writing with
  | some f, false =>
    let need := s.dqNeed q.val f
    let more := min (need - d.claimed.length) (s.dqPosted q.val - d.claimed.length)
    let d := { d with claimed := d.claimed ++ (addrs.take more).map (·.toNat) }
    let s := s.setDq q.val d
    if need ≤ d.claimed.length ∧ d.fifo.length < 512 then
      let func := s.dqFunc q.val
      match s.readFrame f.buf f.bytes.length bad with
      | (s, none) =>
        .next ((s.writeBuffers func (s.dqBuf q.val) d.claimed f.delivered).setDq q.val { d with writing := true })
      | (s, some n) =>
        let m := if n < 12 then n else n + f.tags.length
        let s := s.writeBuffers func (s.dqBuf q.val) d.claimed (f.delivered.take m)
        .next ((s.bump (C.DQ_REWOUND q.val)).dropFront q.val)
    else .next s
  | _, _ => .next s

/-- The receive capture of a frame about to be committed (R464); the answer is the TS bit. -/
def State.rxCapture (s : State) (q commits : Nat) (f : Frame) : State × Bool :=
  let mask := (s.rd R.TIME_RXCAP_Q_HI).toNat * 2 ^ 32 + (s.rd R.TIME_RXCAP_Q_LO).toNat
  match f.rxRaw with
  | some raw =>
    if f.src < 24 ∧ bit mask q then
      s.captureAt 0 f.src raw f.rxTime (leBytes 1 q ++ leBytes 3 0 ++ leBytes 4 commits)
    else (s, false)
  | none => (s, false)

/-- DQ_FRAME_COMMIT: the last data write of the frame at a queue's head has been issued (R420, R423, R464). -/
def execDqFrameCommit (q : Fin 64) (s : State) : Host.Outcome State Fault Refusal :=
  let d := s.dq q.val
  match d.front, d.writing with
  | some f, true =>
    let n := s.dqNeed q.val f
    let commits := (d.commits + 1) % 2 ^ 32
    let r := s.rxCapture q.val commits f
    let s := r.1
    let slot := d.head % s.dqRing q.val
    let s := s.setDq q.val { d with
      head := (d.head + n) % 65536, fifo := d.fifo ++ [completion q.val slot r.2 f], commits := commits,
      claimed := d.claimed.drop n, front := none, writing := false }
    let s := s.bump (C.DQ_PKTS q.val)
    let s := s.emit (.msix (s.dqFunc q.val) (s.fld (F.HOST_DQ_CFG_VECTOR q.val)))
    .next (s.finishDest f.buf agD2h q.val)
  | _, _ => .next s

/-- DQ_HOLD_TIMEOUT: the head frame of an enabled queue has waited HOLD_US without being written (R422). -/
def execDqHoldTimeout (q : Fin 64) (s : State) : Host.Outcome State Fault Refusal :=
  let d := s.dq q.val
  match d.front, d.writing || !s.flag (F.HOST_DQ_CFG_ENABLE q.val) with
  | some f, false =>
    let short := s.dqNeed q.val f - d.claimed.length
    let s := (s.bump (C.DQ_HOLD_DROP q.val)).dropFront q.val
    if d.holdTold then .next s
    else .next ((s.setDq q.val { s.dq q.val with holdTold := true }).raiseRow 0x0085 2 14 6 (s.dqFunc q.val)
      [(1, q.val), (2, f.delivered.length), (1, short)])
  | _, _ => .next s

/-- DQ_POP_READ: a function reads HOST_DQ_POP_LO of a queue (R416, R425). -/
def execDqPopRead (f : Fin 6) (q : Fin 64) (s : State) : Host.Outcome State Fault Refusal :=
  if s.dqFunc q.val = f.val then
    let r := s.popDq q.val
    .next (r.1.popAnswer f.val (R.HOST_DQ_POP_HI q.val) r.2)
  else .next (s.answer f.val 0)

/-- FUNC_POP_READ: a function reads its HOST_POP_LO (R425). -/
def execFuncPopRead (f : Fin 6) (s : State) : Host.Outcome State Fault Refusal :=
  match s.bestPop (s.popOrder f.val) with
  | none => .next (s.popAnswer f.val (R.HOST_POP_HI f.val) idleDescriptor)
  | some q =>
    let r := s.popDq q
    let s := r.1
    let s := { s with chan := { s.chan with lastPop := sparseSet (fun _ => 63) s.chan.lastPop f.val q } }
    .next (s.popAnswer f.val (R.HOST_POP_HI f.val) r.2)

/-- HQ_DESCRIPTOR: the device reads the descriptor at a queue's HEAD; a bad one is skipped, a good one gets a buffer and
its frame is read (R426, R427). desc is the 32 bytes read, bytes the frame in host memory. -/
def execHqDescriptor (q : Fin 64) (desc bytes : List Byte) (s : State) : Host.Outcome State Fault Refusal :=
  let h := s.hq q.val
  if s.flag (F.HOST_HQ_CFG_ENABLE q.val) ∧ 0 < s.hqPosted q.val ∧ h.cur = none then
    let idx := h.head % s.hqRing q.val
    match badDescriptor desc with
    | some cause =>
      let s := s.setHq q.val { h with head := (h.head + 1) % 65536 }
      .next ((s.bump (C.HQ_BAD_DESC q.val)).raiseRow 0x0085 2 14 7 (s.hqFunc q.val) [(1, q.val), (2, idx), (1, cause)])
    | none =>
      match s.allocBuf agH2d (leAt desc 8 2) with
      | (s, .refused) => .next s
      | (s, .got id) => .next (s.setHq q.val { h with
          cur := some (hqFrame q.val idx id desc bytes), fwd := bit (leAt desc 10 1) 0, dest := leAt desc 11 1 })
  else .next s

/-- HOST_DMA_ERROR: a read of host memory for a host-to-device queue (h2d true) or a write for a device-to-host queue
ends with an error; code is the PCIe completion status (R428). -/
def execHostDmaError (h2d : Bool) (q : Fin 64) (code : Byte) (s : State) : Host.Outcome State Fault Refusal :=
  let q := q.val
  if h2d then
    let h := s.hq q
    if s.flag (F.HOST_HQ_CFG_ENABLE q) then
      let s := match h.cur with
        | none => s
        | some f => ((s.setHq q { h with cur := none }).bump (C.HQ_REWOUND q)).freeBuf f.buf agH2d q
      let s := (s.bump (C.HQ_DMA_ERR q)).setFld (F.HOST_HQ_CFG_ENABLE q) 0
      .next (s.raiseRow 0x0085 1 14 4 (s.hqFunc q) [(1, 1), (1, q), (2, h.head % s.hqRing q), (1, code.toNat)])
    else .next s
  else
    let d := s.dq q
    if s.flag (F.HOST_DQ_CFG_ENABLE q) ∧ d.writing then
      let s := (s.bump (C.DQ_REWOUND q)).dropFront q
      let s := s.setFld (F.HOST_DQ_CFG_ENABLE q) 0
      .next (s.raiseRow 0x0085 1 14 4 (s.dqFunc q) [(1, 0), (1, q), (2, d.head % s.dqRing q), (1, code.toNat)])
    else .next s

/-- HOST_STAT_SNAP (R431). -/
def execHostStatSnap (s : State) : Host.Outcome State Fault Refusal :=
  .next ((List.range 64).foldl (fun s q => (s.copyBank 0 (dqCtrs q)).copyBank 0 (hqCtrs q)) s)

end Sys2Proof.Machine
end

