-- ==== Sys2Proof/Machine/Lanes.lean ====
section
/-! DEFINITION. Commands of the serial lanes (chapter 10). Choices: log 19. -/

namespace Sys2Proof.Machine

/-- LANE_EQ: a rate set, LANE_TXFIR, LANE_RXEQ (R320, R321). -/
def execLaneEq (p : Pkt) (s : State) : Host.Outcome State Fault Refusal :=
  runCmd 0x0401 false (lenIs 3 p) (decide (p.target.toNat < 44)) (fun _ s =>
    let l := p.target.toNat
    let r := p.w 0
    if s.rateSets l ≤ r then refuse stBadParam s
    else match s.writeTxfir l r (p.w 1) with
      | (s, false) => refuse stBadParam s
      | (s, true) => finish (s.wrRw (R.LANE_RXEQ l r) (p.w 2))) p s

/-- LANE_TEST: LOOP, LANE_PAT_CFG, user pattern, LANE_INJ (R335). -/
def execLaneTest (p : Pkt) (s : State) : Host.Outcome State Fault Refusal :=
  runCmd 0x0402 false (lenIs 5 p) (decide (p.target.toNat < 44)) (fun _ s =>
    let l := p.target.toNat
    let loop := p.w 0
    let cfg := p.w 1
    if 3 < loop then refuse stBadParam s
    else if s.loopOffered l loop = false then refuse (if 40 ≤ l ∧ loop = 1 then stBusy else stBadParam) s
    else if s.loopRefused l loop ∨ (bit cfg 0 ∧ s.testRefused l) then refuse stBusy s
    else
      let s := (s.wr (R.LANE_PAT_USER_LO l) (BitVec.ofNat 32 (p.w 2))).wr (R.LANE_PAT_USER_HI l) (BitVec.ofNat 32 (p.w 3))
      let s := s.setPattern l cfg
      let s := ((s.setLoop l loop).setGen l (bit cfg 0)).setChecker l (bit cfg 1)
      let s := if bit cfg 7 then s.copyBank 0 (laneCtrs l) else s
      finish (s.writeLaneInj l (p.w 4))) p s

/-- LANE_SLEEP: TX_SLEEP, RX_SLEEP, SD_WAKE (R335). -/
def execLaneSleep (p : Pkt) (s : State) : Host.Outcome State Fault Refusal :=
  runCmd 0x0403 false (lenIs 1 p) (decide (p.target.toNat < 44)) (fun _ s =>
    let l := p.target.toNat
    let b := p.bytes
    let v := leAt b 0 1 + 2 * leAt b 1 1 + 4 * leAt b 2 1
    if 1 < leAt b 0 1 ∨ 1 < leAt b 1 1 ∨ 1 < leAt b 2 1 then refuse stBadParam s
    else if s.pwrRefused l v then refuse stBusy s
    else finish (s.setLanePwr l v)) p s

/-- LANE_EYE: EYE, DWELL; completes at the scan's end (R329, R330). -/
def execLaneEye (p : Pkt) (s : State) : Host.Outcome State Fault Refusal :=
  runCmd 0x0404 true (lenIs 1 p) (decide (p.target.toNat < 40)) (fun id s =>
    let l := p.target.toNat
    let b := p.bytes
    if 3 < leAt b 0 1 ∨ 31 < leAt b 1 1 then refuse stBadParam s
    else if (s.lane l).eyeBusy ∨ s.asleep l false then refuse stBusy s
    else
      let s := (s.setFld (F.LANE_EYE_CFG_EYE l) (leAt b 0 1)).setFld (F.LANE_EYE_CFG_DWELL l) (leAt b 1 1)
      refuse stAccepted (s.startEye l (some (p.func.val, id)))) p s

/-- The count of a scan's point. -/
def Lane.eyeAt (x : Lane) (i : Nat) : Nat := sparseGet (fun _ => 0xFFFF) x.eyeMap i

/-- LANE_EYE_READ: first point, count (R331, Table 20-6). -/
def execLaneEyeRead (p : Pkt) (s : State) : Host.Outcome State Fault Refusal :=
  runCmd 0x0405 false (lenIs 1 p) (decide (p.target.toNat < 40)) (fun _ s =>
    let first := leAt p.bytes 0 2
    let n := leAt p.bytes 2 2
    if n < 1 ∨ 2048 < n ∨ 8192 < first + n then refuse stBadParam s
    else finish s ((List.range n).flatMap (fun k => leBytes 2 ((s.lane p.target.toNat).eyeAt (first + k))))) p s

/-- LANE_TXFIR_WRITE (R320). -/
def execLaneTxfirWrite (l : Fin 44) (r : Fin 3) (v : Word) (s : State) : Host.Outcome State Fault Refusal :=
  .next (s.writeTxfir l.val r.val v.toNat).1

/-- LANE_LOOP_WRITE: a write of LANE_CFG.LOOP; one that cannot be selected or that Table 10-5 refuses is ignored. -/
def execLaneLoopWrite (l : Fin 44) (loop : Fin 4) (s : State) : Host.Outcome State Fault Refusal :=
  if s.loopOffered l.val loop.val = false ∨ s.loopRefused l.val loop.val then .next s else .next (s.setLoop l.val loop.val)

/-- PATTERN_GEN_ENABLE: a write of GEN_EN. -/
def execPatternGenEnable (l : Fin 44) (on : Bool) (s : State) : Host.Outcome State Fault Refusal :=
  if on ∧ s.testRefused l.val then .next s else .next (s.setGen l.val on)

/-- CHECKER_ENABLE: CHK_EN is written 1. -/
def execCheckerEnable (l : Fin 44) (s : State) : Host.Outcome State Fault Refusal := .next (s.setChecker l.val true)

/-- PATTERN_LOCK: words reach the checker while it hunts (R326). -/
def execPatternLock (l : Fin 44) (words : List (BitVec 64)) (s : State) : Host.Outcome State Fault Refusal :=
  if (s.lane l.val).patLock then .next s else .next (s.receiveWords l.val words)

/-- PATTERN_LOCK_LOSS: words reach the locked checker (R326). -/
def execPatternLockLoss (l : Fin 44) (words : List (BitVec 64)) (s : State) : Host.Outcome State Fault Refusal :=
  if (s.lane l.val).patLock then .next (s.receiveWords l.val words) else .next s

/-- INJECTION_GO: a 1 written to LANE_INJ.GO. -/
def execInjectionGo (l : Fin 44) (s : State) : Host.Outcome State Fault Refusal :=
  .next (s.writeLaneInj l.val (setBit (s.rd (R.LANE_INJ l.val)).toNat 31))

/-- INJECTION: words leave the transmit half during an injection run (R327). -/
def execLaneInjection (l : Fin 44) (words : List (BitVec 64)) (s : State) : Host.Outcome State Fault Refusal :=
  if (s.lane l.val).injRun then .next (s.sendWords l.val words) else .next s

/-- EYE_SCAN_GO: a 1 written to LANE_EYE_CFG.GO; ignored during a scan. -/
def execEyeScanGo (l : Fin 40) (s : State) : Host.Outcome State Fault Refusal := .next (s.startEye l.val none)

/-- EYE_SCAN_POINT: one point's dwell ends with a count of disagreements. -/
def execEyeScanPoint (l : Fin 40) (count : Nat) (s : State) : Host.Outcome State Fault Refusal :=
  let l := l.val
  let x := s.lane l
  if x.eyeBusy then
    let s := s.setLane l { x with
      eyeMap := sparseSet (fun _ => 0xFFFF) x.eyeMap x.eyePoints (min count 0xFFFF), eyePoints := x.eyePoints + 1 }
    if x.eyePoints = 8191 then .next (s.endEye l 1 0) else .next s
  else .next s

/-- EYE_SCAN_ABORT: a 1 written to LANE_EYE_CFG.ABORT. -/
def execEyeScanAbort (l : Fin 40) (s : State) : Host.Outcome State Fault Refusal := .next (s.endEye l.val 2 0)

/-- EYE_DATA_READ: a read of LANE_EYE_DATA (R331, R593). -/
def execEyeDataRead (f : Fin 6) (l : Fin 40) (s : State) : Host.Outcome State Fault Refusal :=
  if f.val = 0 then
    let i := s.fld (F.LANE_EYE_ADDR_POINT l.val)
    .next ((s.setFld (F.LANE_EYE_ADDR_POINT l.val) ((i + 1) % 8192)).answer 0 ((s.lane l.val).eyeAt i))
  else .next (s.answer f.val 0)

/-- LANE_PAT_SNAP: words that have reached the checker up to the latch (R326, R338). -/
def execLanePatSnap (l : Fin 44) (words : List (BitVec 64)) (s : State) : Host.Outcome State Fault Refusal :=
  .next ((s.receiveWords l.val words).copyBank 0 (laneCtrs l.val))

/-- LANE_PWR_WRITE: a write of LANE_PWR that Table 10-5 refuses is ignored. -/
def execLanePwrWrite (l : Fin 44) (v : Word) (s : State) : Host.Outcome State Fault Refusal :=
  if s.pwrRefused l.val v.toNat then .next s else .next (s.setLanePwr l.val v.toNat)

/-- LANE_WAKE_BY_SIGNAL (R333). -/
def execLaneWakeBySignal (l : Fin 40) (s : State) : Host.Outcome State Fault Refusal :=
  let l := l.val
  if s.asleep l false ∧ s.flag (F.LANE_PWR_SD_WAKE l) then
    let s := s.setLane l { s.lane l with rxIgnore := s.sleepReq l false, sd := true }
    let s := s.setFld (F.LANE_PWR_RX_SLEEP l) 0
    .next ((s.laneEval l).laneEvent l 3 3 [(1, l)])
  else .next s

/-- LANE_HALF_READY: a half that is awake reports itself ready (R334). -/
def execLaneHalfReady (l : Fin 44) (tx : Bool) (s : State) : Host.Outcome State Fault Refusal :=
  let l := l.val
  if s.asleep l tx ∨ (tx = false ∧ 40 ≤ l) then .next s
  else if tx then .next (s.setLane l { s.lane l with txOn := true })
  else .next (s.setLane l { s.lane l with rxOn := true, cdr := true })

end Sys2Proof.Machine
end

