-- ==== Sys2Proof/Machine/Memory.lean ====
section
/-! DEFINITION. Commands of the Memory group and the memory system's registers (chapter 18), but for the scrubbers.
Choices: log 26. -/

namespace Sys2Proof.Machine

/-- DDR4 address of a Memory-group payload. -/
def Pkt.ddrAddr (p : Pkt) : Nat := p.w 1 * 2 ^ 32 + p.w 0

/-- MEM_READ (R516, Table 20-6). -/
def execMemRead (p : Pkt) (s : State) : Host.Outcome State Fault Refusal :=
  runCmd 0x0301 false (lenIs 3 p) (p.target == 0) (fun _ s =>
    let n := p.w 2
    if n < 32 ∨ 4096 < n ∨ n % 32 ≠ 0 ∨ s.ddrBytes < p.ddrAddr + n ∧ s.ddrReady then refuse stBadParam s
    else if s.ddrReady then
      match s.ddrRead p.ddrAddr n with
      | (s, .ok bs) => finish s bs
      | (s, .error e) => refuse stHwFault s e
    else refuse stTimeout s) p s

/-- Is a write of n bytes below 0x1000_0000 inside the host half of one context entry (R564, Table 20-10)? -/
def inHostHalf (addr n : Nat) : Bool :=
  let inTable (base count : Nat) : Bool := decide (base ≤ addr) && decide (addr + n ≤ base + 128 * count)
  (inTable 0 192 || inTable 0x6000 256 || inTable 0xE000 4) && decide (addr % 128 + n ≤ 64)

/-- MEM_WRITE (R515, R564, Table 20-6). -/
def execMemWrite (p : Pkt) (s : State) : Host.Outcome State Fault Refusal :=
  runCmd 0x0302 false
    (if 4 ≤ p.length then (if p.length = 3 + ceilDiv (p.w 2) 4 then none else some (3 + ceilDiv (p.w 2) 4)) else some 4)
    (p.target == 0) (fun _ s =>
    let n := p.w 2
    if n < 4 ∨ 4084 < n ∨ n % 4 ≠ 0 ∨ s.ddrBytes < p.ddrAddr + n ∧ s.ddrReady then refuse stBadParam s
    else if p.ddrAddr < 0x10000000 ∧ inHostHalf p.ddrAddr n = false then refuse stBadParam s
    else if s.ddrReady then
      match s.ddrWrite p.ddrAddr ((p.bytes.drop 12).take n) with
      | (s, none) => finish s
      | (s, some e) => refuse stHwFault s e
    else refuse stTimeout s) p s

/-- A write of MEM_INJ: the symbols and the memory, and with GO 1 the injection is armed (R525). -/
def State.writeInj (s : State) (v : Nat) : State :=
  let s := s.wrRw R.MEM_INJ v
  if bit v 31 then s.setFld F.MEM_INJ_GO 1 else s

/-- MEM_CFG: one word is MEM_SCRUB_CFG of memory TARGET, two are MEM_INJ and MEM_INJ_PAT for it (R526, Table 20-6). -/
def execMemCfg (p : Pkt) (s : State) : Host.Outcome State Fault Refusal :=
  runCmd 0x0303 false (lenIn 1 2 p) (decide (p.target.toNat < 8)) (fun _ s =>
    let m := p.target.toNat
    if p.length = 1 then finish (s.wrRw (R.MEM_SCRUB_CFG m) (p.w 0))
    else if bitsOf (p.w 0) 2 0 ≠ m ∨ 17 < bitsOf (p.w 0) 7 3 ∨ 17 < bitsOf (p.w 0) 12 8 then refuse stBadParam s
    else finish ((s.wrRw R.MEM_INJ_PAT (p.w 1)).writeInj (p.w 0))) p s

/-- MEM_INJECTION_ARM: PF0 writes MEM_INJ with GO 1 (R525, R526). -/
def execMemInjectionArm (v : Word) (s : State) : Host.Outcome State Fault Refusal := .next (s.writeInj (setBit v.toNat 31))

/-- MEM_STAT_SNAP (R527). -/
def execMemStatSnap (s : State) : Host.Outcome State Fault Refusal :=
  .next ((List.range 18).foldl (fun s k => s.copyBank 0 (memDdrCtrs k))
    ((List.range 8).foldl (fun s m => s.copyBank 0 (memCtrs m)) s))

end Sys2Proof.Machine
end

