-- ==== Sys2Proof/Machine/JournalOps.lean ====
section
/-! DEFINITION. The start journal's entries, the events of the always-on domain, and the reset of every block outside it
(R540, R578, R585 to R587, R591). Choices: log 28. -/

namespace Sys2Proof.Machine

/-- The journal's core. -/
def State.setCore (s : State) (c : JCore) : State := { s with jrn := { s.jrn with core := c } }

/-- The controller's state. -/
def State.setPwr (s : State) (p : Power) : State := { s with pwr := p }

/-- The start's state. -/
def State.setBoot (s : State) (b : Boot) : State := { s with boot := b }

/-- Milliseconds since S1 began, by the tick counter, which starts with the device: 48 ticks a millisecond. -/
def State.msNow (s : State) : Nat := s.tick.count.toNat / 48

/-- The bytes of a journal entry (Table 21-7). -/
def journalBytes (start step result cause attempts detail ms : Nat) : List Byte :=
  leBytes 4 start ++ leBytes 1 step ++ leBytes 1 result ++ leBytes 1 cause ++ leBytes 1 attempts ++ leBytes 4 detail ++
    leBytes 4 ms

/-- Record an entry in the ring of 256 (R585, R586). -/
def State.journal (s : State) (step result cause attempts detail ms : Nat) : State :=
  let c := s.jrn.core
  let es := c.entries ++ [journalBytes c.start step result cause attempts detail ms]
  { s with jrn := { s.jrn with
      core := { c with entries := es.drop (es.length - 256), total := c.total + 1 }, mirrorDue := true } }

/-- An event of the power controller or the journal (R547, R591): kept until the event path runs. -/
def State.aonEvent (s : State) (sev c row : Nat) (fs : List (Nat × Nat)) : State :=
  if s.boot.mode = 0 then { s with jrn := { s.jrn with events := s.jrn.events ++ [(sev, c * 256 + row, evPayload fs)] } }
  else s.raiseRow 0x00C0 sev c row 0 fs

/-- The events kept are raised (R547, R591). -/
def State.flushEvents (s : State) : State :=
  let es := s.jrn.events
  es.foldl (fun (s : State) (e : Nat × Nat × List Byte) => s.raise 0x00C0 e.1 e.2.1 0 e.2.2)
    { s with jrn := { s.jrn with events := [] } }

/-- FAULT_N is asserted. -/
def State.assertFault (s : State) : State := (s.setBoot { s.boot with faultN := true }).emit (.pin "FAULT_N" 0 false)

/-- Is a BAR0 offset in the power window, whose registers are in the always-on domain (R546, R590)? -/
def inPowerWindow (off : Nat) : Bool := decide (0x00200000 ≤ off) && decide (off < 0x00400000)

/-- A channel as a start finds it: in O7 where the journal records it (R111). -/
def resetChannel (o7 : Bool) : PonCh := if o7 then { PonCh.reset with act := .o7, o7 := true } else PonCh.reset

/-- The channels as a start finds them. -/
def resetChannels (o7 : Nat) : Sparse PonCh :=
  (List.range 4).foldl (fun m n => sparseSet (fun _ => PonCh.reset) m n (resetChannel (o7.testBit n))) []

/-- Every block outside the always-on domain takes its reset values (R540, R578). DDR4 keeps its contents, checkpoints
included, while it is in self-refresh. The balls return to the states of Table 23-9 (R616). The TAP has a reset of its own
(R622). -/
def State.blockReset (s : State) : State :=
  let keep := s.mem.selfRefresh
  let s := if s.boot.faultN then s.emit (.pin "FAULT_N" 0 true) else s
  let s := (List.range 4).foldl (fun s n => if (s.ch n).txDis then s else s.emit (.pin "TX_DIS" n true)) s
  let s := if s.tick.outLevel then s.emit (.pin "TICK_OUT" 0 false) else s
  { State.reset with
    pending := s.pending, out := s.out, freeCtr := s.freeCtr, cmdId := s.cmdId
    regs := s.regs.filter (fun p => inPowerWindow p.1)
    cnt := s.cnt.filter (fun p => inPowerWindow p.1)
    bank := s.bank.filter (fun p => inPowerWindow p.1)
    pon := resetChannels s.jrn.core.o7
    vec := { State.reset.vec with squallDue := s.pwr.causes != 0, ckpts := if keep then s.vec.ckpts else [] }
    mem := { State.reset.mem with ddr := if keep then s.mem.ddr else [], selfRefresh := keep }
    pwr := s.pwr
    jrn := s.jrn
    tap := s.tap
    boot := { State.reset.boot with flash := s.boot.flash } }

end Sys2Proof.Machine
end

