-- ==== Sys2Proof/Machine/PonOps.lean ====
section
/-! DEFINITION. The PON channels' shared operations: activation, LULL, loss of sync, PLOAM records (R64, R92, R95, R103 to
R121, R134 to R137). Choices: log 10, 11. -/

namespace Sys2Proof.Machine

/-- Mode of a channel: 0 50G-PON, 1 XGS-PON. -/
def State.ponMode (s : State) (n : Nat) : Nat := s.fld (F.PON_RX_CFG_MODE n)

/-- Is a channel the timing master? -/
def State.isMaster (s : State) (n : Nat) : Bool := s.tick.hasMaster && s.tick.steered && s.tick.master == n

/-- Code of an activation state (Table 4-2). -/
def Act.code : Act → Nat
  | .o11 => 0
  | .o12 => 1
  | .o23 => 2
  | .o4 => 3
  | .o5 => 4
  | .o6 => 5
  | .o7 => 6

/-- ONU_ID of PON_TC_STATUS: 0x3FF when none. -/
def PonCh.onuCode (c : PonCh) : Nat := c.onuId.getD 0x3FF

/-- A channel enters an activation state; the bonding layer re-evaluates (R157, Table 4-8). -/
def State.setAct (s : State) (n : Nat) (a : Act) : State :=
  let c := s.ch n
  if c.act = a then s
  else
    ((s.setCh n { c with act := a }).ponEvent n 3 4 7 [(1, c.act.code), (1, a.code), (4, c.sfc)]).reeval n

/-! Allocation context entries. -/

/-- Drop the frames that a list of queues holds for a PON channel (R121, R152): each is counted in its queue. -/
def State.dropQueue (s : State) (q : Nat) : List QFrame → State
  | [] => s
  | x :: xs =>
    let m := s.n1 x.node1
    let s := s.setN1 x.node1 { m with held := m.held - bufBytes x.frame }
    ((s.queueDrop q).finishDest x.frame.buf agQm 0).dropQueue q xs

/-- Drop the frames of a channel in a level-2 node's queues that satisfy a test. -/
def State.dropNode (s : State) (n node : Nat) (test : QFrame → Bool) : State :=
  (List.range 8).foldl (fun s k =>
    let q := 8 * node + k
    let v := s.sq q
    let mine := v.frames.filter (fun x => x.node1 == 24 + n && test x)
    if mine.isEmpty then s
    else (s.setSq q { v with frames := v.frames.filter (fun x => !(x.node1 == 24 + n && test x)) }).dropQueue q mine) s

/-- Allocation context indices assigned to a channel. -/
def State.allocsOf (s : State) (n : Nat) : List Nat :=
  (s.alloc.filter (fun p => p.2.state != 0 && p.2.channel == n)).map (·.1)

/-- Drop the frames of a channel that satisfy a test from the queues of an entry's node. -/
def State.dropAllocNode (s : State) (n i : Nat) (test : QFrame → Bool) : State :=
  match (s.allocAt i).node with
  | some k => s.dropNode n k test
  | none => s

/-- An entry returns to state 0 (R155); its held remainder is dropped (R152). -/
def State.freeAlloc (s : State) (n i : Nat) : State :=
  let s := s.dropAllocNode n i (fun x => decide (0 < x.sent))
  s.setAlloc i { s.allocAt i with state := 0, loaded := false }

/-- The first free entry. -/
def State.freeEntry (s : State) : Option Nat := (List.range 256).find? (fun i => (s.allocAt i).state == 0)

/-- Firmware assigns an entry to an Alloc-ID (R155): state 1, or 3 for the default Alloc-ID. -/
def State.assignAlloc (s : State) (n alloc st : Nat) : State :=
  match s.freeEntry with
  | none => s
  | some i => s.setAlloc i { s.allocAt i with
      loaded := false, allocId := alloc, channel := n, state := st, grants := 0, bytes := 0, idle := 0, dbru := 0, lastSfc := 0 }

/-! Identity. -/

/-- The bursts that remain when a channel starts no new burst: the one on the fibre, which runs to its granted end. -/
def PonCh.airBursts (c : PonCh) : List BurstPlan := if c.burstOn then c.bursts.take 1 else []

/-- The channel discards its ONU-ID and equalisation delay, and with the ONU-ID the default Alloc-ID that equals it. -/
def State.dropIdentity (s : State) (n : Nat) : State :=
  let c := s.ch n
  let s := s.setCh n { c with
    onuId := none, eqd := 0, eqdNext := [], bursts := c.airBursts, snDue := 0, rangeDue := 0, lastSeq := none
    lastAck := [] }
  ((s.allocsOf n).filter (fun i => (s.allocAt i).state == 3)).foldl (fun s i => s.freeAlloc n i) s

/-- From O1.2 to O2-3: a profile is learned and ACT_HOLD is 0 (R104, R120). -/
def State.tryO23 (s : State) (n : Nat) : State :=
  let c := s.ch n
  if c.act = .o12 ∧ c.profiles ≠ [] ∧ s.flag (F.PON_TC_CFG_ACT_HOLD n) = false then s.setAct n .o23 else s

/-- The channel has entered the Sync state (R105, Table 4-2). -/
def State.syncGained (s : State) (n : Nat) : State :=
  match (s.ch n).act with
  | .o11 => (s.setAct n .o12).tryO23 n
  | .o6 => s.setAct n .o5
  | _ => s.reeval n

/-- Number of a channel's port-IDs that host software added. -/
def PonCh.portCount (c : PonCh) : Nat := (c.ports.filter (fun p => (p.2.inForce || p.2.addDue) && !p.2.delDue)).length

/-- O5 is entered from O4 (R121): port-IDs kept inactive become active with the ONU-ID of the latest O5, and all port-IDs are
discarded with another. DESIGN CHOICE (log 11), where R121 speaks only of ports marked inactive at a deactivation: the same
follows after TO2 expiry and ENABLE cleared; ports added since the channel left O5 are discarded with the others; a channel
that holds none raises no event. -/
def State.enterO5 (s : State) (n : Nat) : State :=
  let c := s.ch n
  let new := { c with portsOnu := c.onuId, ports := sparseMap (fun _ => {}) (fun _ p => { p with active := true }) c.ports }
  let s := match c.portsOnu with
    | none => s.setCh n new
    | some k =>
      if some k = c.onuId then s.setCh n new
      else
        let s := s.setCh n { c with portsOnu := c.onuId, ports := [] }
        if c.portCount = 0 then s else s.ponEvent n 2 4 6 [(2, k), (2, c.onuCode), (2, c.portCount)]
  s.setAct n .o5

/-! PLOAM (R112 to R118). -/

/-- Pass a record to host software (R117, Table 4-4): dir 0 received, 1 sent. -/
def State.ploamRecord (s : State) (n dir disp act sfc : Nat) (raw : List Byte) : State :=
  match (s.ch n).ploamQ with
  | none => s
  | some q => s.hostRecord q (24 + n)
      (leBytes 1 n ++ leBytes 1 dir ++ leBytes 1 disp ++ leBytes 1 act ++ leBytes 4 sfc ++
        leBytes 4 s.tick.count.toNat ++ leBytes 4 0 ++ fitB 48 raw)

/-- The copy of a message sent, when PLOAM_COPY is 1 (R117). -/
def State.ploamCopy (s : State) (n : Nat) (m : UpMsg) : State :=
  let c := s.ch n
  if s.flag (F.PON_TC_CFG_PLOAM_COPY n) then
    s.ploamRecord n 1 0 c.act.code c.sfc (Config.upBytes m.kind m.args m.body)
  else s

/-- Firmware queues an upstream PLOAM message (R116). -/
def State.sendUp (s : State) (n : Nat) (m : UpMsg) : State :=
  let c := s.ch n
  (s.setCh n { c with ploamUp := c.ploamUp ++ [m] }).ploamCopy n m

/-- Queue several messages. -/
def State.sendAll (s : State) (n : Nat) : List UpMsg → State
  | [] => s
  | m :: ms => (s.sendUp n m).sendAll n ms

/-- What executing a PLOAM message gives: the state, the messages sent in answer, the record's disposition (none: a copy
alone, when PLOAM_COPY is 1). -/
structure PloamOut where
  s : State
  replies : List UpMsg := []
  disp : Option Nat := none

/-- A PLOAM partition with a byte in a bad codeword is discarded whole and counted once (R125). -/
def State.discardPart (s : State) (n sfc : Nat) : State :=
  let c := s.ch n
  if c.badPart = some sfc then s
  else (s.setCh n { c with badPart := some sfc }).bump (C.TC_HDR_DISCARD n)

/-- Run a downstream PLOAM message (R113, R114, R117, R125); a body that answers none is of no concern to the channel. Only
an Acknowledgement is sent again for a repeated sequence number. A MIC fails when its integrity key is lost (R500). -/
def runPloam (m : Ploam) (body : State → Option PloamOut) (s : State) : State :=
  let n := m.ch.val
  let c := s.ch n
  if s.inSync n = false ∨ s.nearLoop (40 + n) then s
  else if m.partBad then
    let s := s.discardPart n m.sfc
    if m.bad then s.bump (C.TC_HDR_DISCARD n) else s
  else if m.bad then s.bump (C.TC_HDR_DISCARD n)
  else
    let s := (s.readKey (8 * n + 4)).1
    if m.micFail ∨ (s.slot (8 * n + 4)).state = 3 then (s.bump (C.TC_HDR_DISCARD n)).bump (C.TC_PLOAM_MIC_ERR n)
    else if m.onu.isSome ∧ m.onu ≠ c.onuId then s
    else if m.onu.isSome ∧ c.lastSeq = some m.seq.toNat then s.sendAll n c.lastAck
    else match body s with
    | none => s
    | some r =>
      let s := r.s
      let s := if m.onu.isSome then
          s.setCh n { s.ch n with lastSeq := some m.seq.toNat,
                                  lastAck := r.replies.filter (fun x => x.kind == 0) }
        else s
      let s := s.sendAll n r.replies
      match r.disp with
      | some d => s.ploamRecord n 0 d c.act.code m.sfc m.raw
      | none => if s.flag (F.PON_TC_CFG_PLOAM_COPY n) then s.ploamRecord n 0 0 c.act.code m.sfc m.raw else s

/-- An Acknowledgement of a message. -/
def ackOf (m : Ploam) (code : Nat) : List UpMsg :=
  if m.onu.isSome then [{ kind := 0, args := [m.seq.toNat, code] }] else []

/-- Serial number of a channel: vendor ID "VLSK" and (BASE_SN + n) modulo 2^32 (R100). -/
def serialOf (n : Nat) : BitVec 64 :=
  (0x564C534B : BitVec 32) ++ (Config.baseSn + BitVec.ofNat 32 n)

/-! Equaliser (R68 to R74). -/

/-- Load the initial tap set and begin acquisition (R69, R70); with FREEZE 1 the set is held (R73). -/
def State.eqReset (s : State) (n : Nat) : State :=
  let c := s.ch n
  s.setCh n { c with taps := initTaps (s.ponMode n), acquiring := true }

/-- Are the taps held (R71)? -/
def State.eqHeld (s : State) (n : Nat) : Bool :=
  (s.ch n).los || (s.ch n).rxDown || s.flag (F.PON_EQ_CTL_FREEZE n)

/-- The step exponent in force: other values than 6-20 act as 9 (acquisition) and 13 (tracking). -/
def State.eqMu (s : State) (n : Nat) : Nat :=
  let v := if (s.ch n).acquiring then s.fld (F.PON_EQ_CTL_MU_ACQ n) else s.fld (F.PON_EQ_CTL_MU_TRK n)
  if 6 ≤ v ∧ v ≤ 20 then v else if (s.ch n).acquiring then 9 else 13

/-- Sum of products of two lists. -/
def dotI : List Int → List Int → Int
  | a :: as, b :: bs => a * b + dotI as bs
  | _, _ => 0

/-- Is tap i held at 0: taps 15-30 in XGS-PON mode (R69), the DFE tap with DFE_EN 0 (Table 3-6)? -/
def tapZero (mode : Nat) (dfe : Bool) (i : Nat) : Bool :=
  if i = 31 then !dfe else decide (mode = 1 ∧ 15 ≤ i)

/-- One update of the taps (R68): tap i takes the products of err with the samples from x[main - i]; tap 31 is the DFE's. -/
def eqStep (mode mu : Nat) (dfe : Bool) (taps : List Int) (c : EqCycle) : List Int :=
  (List.range 32).map (fun i =>
    let t := (taps[i]?).getD 0
    if tapZero mode dfe i then 0
    else if i = 31 then satInt 12 (t + dotI c.err c.dec / (2 ^ mu : Int))
    else satInt 12 (t + dotI c.err (c.x.drop (30 - i)) / (2 ^ mu : Int)))

/-- DFE_EN. -/
def State.dfeOn (s : State) (n : Nat) : Bool := s.flag (F.PON_EQ_CTL_DFE_EN n)

/-- The live taps that are held at 0 are 0. -/
def State.zeroTaps (s : State) (n : Nat) : State :=
  let c := s.ch n
  s.setCh n { c with taps := (List.range 32).map (fun i =>
    if tapZero (s.ponMode n) (s.dfeOn n) i then 0 else (c.taps[i]?).getD 0) }

/-- The taps adapt over the given PON_RX cycles with the step in force, unless they are held (R68, R70, R71). -/
def State.eqRun (s : State) (n : Nat) (cycles : List EqCycle) : State :=
  if s.eqHeld n then s
  else
    let c := s.ch n
    s.setCh n { c with taps := cycles.foldl (eqStep (s.ponMode n) (s.eqMu n) (s.dfeOn n)) c.taps }

/-- The taps have adapted up to now, where no operand tells the cycles since they were last given. -/
def State.eqAdapt (s : State) (n : Nat) : State :=
  if s.eqHeld n then s
  else (s.eqRun n ((Config.eqInput s.freeCtr).map (fun c => ⟨c.1, c.2.1, c.2.2⟩))).nextFree

/-- SNAP of the equaliser: the live taps and MSE are latched (R74). -/
def State.eqLatch (s : State) (n mse : Nat) : State :=
  let c := s.ch n
  s.setCh n { c with snapTaps := c.taps, mse := mse }

/-- A write of tap i while FREEZE is 1: the live tap and its latched value (R69, R73, R74). -/
def State.writeTap (s : State) (n i : Nat) (v : Int) : State :=
  if s.flag (F.PON_EQ_CTL_FREEZE n) then
    let x := s.ch n
    let v := if tapZero (s.ponMode n) (s.dfeOn n) i then 0 else v
    s.setCh n { x with taps := x.taps.set i v, snapTaps := x.snapTaps.set i v }
  else s


/-! LULL (R94, R95, R134 to R137). -/

/-- The receiver powers down under LULL: the channel enters OFF without a loss of sync (R64, R95), its taps held (R71). -/
def State.rxPowerDown (s : State) (n : Nat) : State :=
  let s := s.eqAdapt n
  let c := s.ch n
  (s.setCh n { c with sync := .off, los := true, cdr := false, rxDown := true, cands := [], inFrames := 0,
                      missRun := 0 }).reeval n

/-- The receiver powers up again: the channel hunts, with its taps kept (R71, R95). -/
def State.rxPowerUp (s : State) (n : Nat) : State :=
  let c := s.ch n
  if c.rxDown then
    (s.setCh n { c with sync := .hunt, rxDown := false, acquiring := true,
                        candFalseAt := s.count (C.PON_CAND_FALSE n) }).reeval n
  else s

/-- The channel wakes (R137): its transmitter becomes powered within 100 µs (R146), its receiver powers up. -/
def State.wake (s : State) (n cause : Nat) : State :=
  let c := s.ch n
  if c.lull = .awake then s
  else
    let s := s.setLull n .awake cause
    let c := s.ch n
    (((s.setCh n { c with txWaking := !c.txPowered && c.act != .o7, sleepDue := false }).rxPowerUp n).reeval n).laneEval (40 + n)

/-- The channel goes to sleep in its LULL mode: the transmitter, and in watchful sleep the receiver of a channel that is
not the timing master (R94, R135). -/
def State.sleepNow (s : State) (n : Nat) : State :=
  let c := s.ch n
  let s := (s.setCh n { c with txPowered := false, txWaking := false, sleepDue := false }).laneEval (40 + n)
  if c.lull = .watchful ∧ s.isMaster n = false then s.rxPowerDown n else s.reeval n

/-- Into O1.1, and to O1.2 and on at once while in sync. A channel in LULL wakes, so that it can activate again (R120).
DESIGN CHOICE (log 11): that event's cause is 2. -/
def State.enterO11 (s : State) (n : Nat) : State :=
  let s := ((s.dropIdentity n).setAct n .o11).wake n 2
  if s.inSync n then (s.setAct n .o12).tryO23 n else s

/-- Enter a LULL mode when the head end allows it and the policy permits one (R134, R135); the answer is the Sleep_Request
sent, with which the channel goes to sleep. -/
def State.tryLull (s : State) (n cause : Nat) : State × List UpMsg :=
  let c := s.ch n
  if c.sleepAllowed ∧ c.lullPolicy ≠ 0 ∧ c.act = .o5 ∧ c.lull = .awake then
    let l : Lull := if c.lullPolicy = 2 ∧ s.isMaster n = false then .watchful else .doze
    let s := s.setLull n l cause
    (s.setCh n { s.ch n with sleepDue := true }, [{ kind := 3, args := [l.code] }])
  else (s, [])

/-! Loss of downstream sync (R92). -/

/-- Partial SDUs of a channel are discarded and counted (R129). -/
def State.dropPartials (s : State) (n : Nat) : State :=
  let c := s.ch n
  let k := (c.partials.filter (fun p => !p.2.skip)).length
  (s.setCh n { c with partials := [] }).bumpBy (C.TC_FRAG_LOST n) k

/-- A channel loses downstream sync and stands in state st (R64, R92): cause 0 missing PSyncs, 1 LOS, 2 ENABLE cleared;
mid says whether an XGEM frame was in progress. -/
def State.loseSync (s : State) (n : Nat) (st : SyncSt) (cause : Nat) (mid : Bool) : State :=
  let c := s.ch n
  let master := s.isMaster n
  let s := s.setCh n { c with
    sync := st, cands := [], inFrames := 0, missRun := 0, bursts := c.airBursts, snDue := 0, rangeDue := 0,
    candFalseAt := s.count (C.PON_CAND_FALSE n) }
  let s := if mid then s.bump (C.TC_XGEM_BAD n) else s
  let s := s.dropPartials n
  let s := s.reeval n
  let s := if master then s.loseMaster 0 else s
  let s := (s.bump (C.PON_SYNC_LOSS n)).ponEvent n 1 3 1 [(1, cause), (4, c.sfc), (1, b2n master)]
  match (s.ch n).act with
  | .o12 => s.setAct n .o11
  | .o23 => (s.dropIdentity n).setAct n .o11
  | .o4 => (s.dropIdentity n).setAct n .o11
  | .o5 => s.setAct n .o6
  | _ => s

end Sys2Proof.Machine
end

