-- ==== Sys2Proof/Machine/PonRx.lean ====
section
/-! DEFINITION. Commands of the PON receive path (chapter 03). Choices: log 10. -/

namespace Sys2Proof.Machine

/-- ENABLE rises: OFF to HUNT, acquisition from the initial taps (R64, R70); TX_DIS is released outside O7 (Table 23-9), unless
a loop holds it (R323). -/
def State.rxEnable (s : State) (n : Nat) : State :=
  if s.flag (F.PON_RX_CFG_ENABLE n) then s
  else
    let s := ((s.setFld (F.PON_RX_CFG_ENABLE n) 1).eqReset n).laneEval (40 + n)
    let c := s.ch n
    let s := if c.txDis ∧ c.act ≠ .o7 ∧ s.nearLoop (40 + n) = false then s.emit (.pin "TX_DIS" n false) else s
    s.setCh n { c with sync := .hunt, los := true, cdr := false, rxDown := false, txPowered := c.act != .o7,
                       txDis := c.act == .o7,
                       candFalseAt := s.count (C.PON_CAND_FALSE n) }

/-- ENABLE is cleared (R64, R104): a loss of sync unless the channel stands in OFF already, and O1.1 from any state except
O7. DESIGN CHOICE (log 11): a channel leaves LULL with cause 1 (policy), and O5 through O6 (R92) to O1.1. -/
def State.rxDisable (s : State) (n : Nat) (mid : Bool) : State :=
  if s.flag (F.PON_RX_CFG_ENABLE n) then
    let s := (s.setFld (F.PON_RX_CFG_ENABLE n) 0).laneEval (40 + n)
    let c := s.ch n
    let off := c.sync == .off
    let s := s.setCh n { c with los := true, cdr := false, rxDown := false, txPowered := false, txWaking := false }
    let s := if off then s else s.loseSync n .off 2 mid
    let s := if (s.ch n).lull = .awake then s
      else (s.setLull n .awake 1).setCh n { (s.setLull n .awake 1).ch n with sleepDue := false }
    if (s.ch n).act = .o7 then s else (s.dropIdentity n).setAct n .o11
  else s

/-- PON_RX_ENABLE; in recovery mode the receiver stays disabled (R588). -/
def execPonRxEnable (c : Fin 4) (s : State) : Host.Outcome State Fault Refusal :=
  .next (if s.recovery then s else s.rxEnable c.val)

/-- PON_RX_DISABLE; mid: an XGEM frame is in progress. -/
def execPonRxDisable (c : Fin 4) (mid : Bool) (s : State) : Host.Outcome State Fault Refusal := .next (s.rxDisable c.val mid)

/-- Is the channel's receiver on: enabled and not powered down? -/
def State.rxOn (s : State) (n : Nat) : Bool := s.flag (F.PON_RX_CFG_ENABLE n) && !(s.ch n).rxDown

/-- LOS_ASSERT: for 1 µs the amplitude has stayed below LOS_THR (R66, R75, R96); peak is the highest amplitude then, in
steps of 2 mV as LOS_THR is (log 10); cycles are the PON_RX cycles since the taps were last given. -/
def execLosAssert (c : Fin 4) (peak : Byte) (mid : Bool) (cycles : List EqCycle) (s : State) :
    Host.Outcome State Fault Refusal :=
  let n := c.val
  if s.rxOn n ∧ (s.ch n).los = false ∧ peak.toNat < s.fld (F.PON_FE_CFG_LOS_THR n) then
    let was := s.inSync n
    let s := s.eqRun n cycles
    let s := s.setCh n { s.ch n with los := true, cdr := false }
    let s := (s.bump (C.PON_LOS n)).ponEvent n 2 3 2 [(1, peak.toNat)]
    if was then .next (s.loseSync n .hunt 1 mid)
    else .next (s.setCh n { s.ch n with sync := .hunt, cands := [] })
  else .next s

/-- LOS_CLEAR: for 10 µs the amplitude has stayed at or above LOS_THR + 2 (R66, R71); peak is the lowest amplitude then. -/
def execLosClear (c : Fin 4) (peak : Byte) (s : State) : Host.Outcome State Fault Refusal :=
  let n := c.val
  if s.rxOn n ∧ (s.ch n).los ∧ s.fld (F.PON_FE_CFG_LOS_THR n) + 2 ≤ peak.toNat then
    .next ((s.setCh n { s.ch n with los := false, acquiring := true }).ponEvent n 3 3 7 [])
  else .next s

/-- CDR_LOCK: timing recovery locks (R67). -/
def execCdrLock (c : Fin 4) (s : State) : Host.Outcome State Fault Refusal :=
  let n := c.val
  if s.rxOn n ∧ (s.ch n).los = false then .next (s.setCh n { s.ch n with cdr := true }) else .next s

/-- EQ_RESET: a 1 written to PON_EQ_CTL.RESET (R70, R73). -/
def execEqReset (c : Fin 4) (s : State) : Host.Outcome State Fault Refusal := .next (s.eqReset c.val)

/-- EQ_ACQUISITION_END: ACQ_TIME µs after acquisition began (R70); cycles are the PON_RX cycles since the taps were last
given. -/
def execEqAcquisitionEnd (c : Fin 4) (cycles : List EqCycle) (s : State) : Host.Outcome State Fault Refusal :=
  let s := s.eqRun c.val cycles
  .next (s.setCh c.val { s.ch c.val with acquiring := false })

/-- EQ_DIVERGENCE_RESET: the MSE at two consecutive frame periods (R72). DEDUCED (log 10): MSE ÷ 64 is compared exactly, so
that it exceeds DIV_THR when MSE exceeds 64 times DIV_THR. -/
def execEqDivergenceReset (c : Fin 4) (mse1 mse2 : BitVec 16) (s : State) : Host.Outcome State Fault Refusal :=
  let n := c.val
  let x := s.ch n
  let thr := s.fld (F.PON_EQ_CTL_DIV_THR n)
  if (x.sync = .hunt ∨ x.sync = .presync) ∧ x.los = false ∧ s.flag (F.PON_EQ_CTL_FREEZE n) = false ∧
      x.acquiring = false ∧ 64 * thr < mse1.toNat ∧ 64 * thr < mse2.toNat then
    .next ((s.eqReset n).ponEvent n 2 3 3 [(2, mse2.toNat)])
  else .next s

/-- EQ_SNAP: a 1 written to PON_EQ_CTL.SNAP; cycles are the PON_RX cycles since the taps were last given, mse the mean
squared error over the last 125 µs. -/
def execEqSnap (c : Fin 4) (cycles : List EqCycle) (mse : BitVec 16) (s : State) : Host.Outcome State Fault Refusal :=
  .next ((s.eqRun c.val cycles).eqLatch c.val mse.toNat)

/-- EQ_TAP_WRITE (R73, R74). -/
def execEqTapWrite (c : Fin 4) (i : Fin 32) (v : BitVec 12) (s : State) : Host.Outcome State Fault Refusal :=
  .next (s.writeTap c.val i.val v.toInt)

/-- Bits of a PHY frame of a mode (Table 3-1): 125 µs at the line rate. -/
def frameBits (mode : Nat) : Nat := if mode = 0 then 6220800 else 1244160

/-- Expected position of a candidate, one PHY frame after its last match (R79). -/
def Cand.expected (k : Cand) (mode : Nat) : Nat := k.pos + frameBits mode

/-! In a near-end serial loop the front end takes the serialiser's signal in place of the fibre's, which no PSync, PLOAM
message, bandwidth map or XGEM frame then reaches the channel by (R323). -/

/-- PSYNC_MATCH: a match away from every live candidate's expected position (R77, R78); at_ is the position of its first bit,
counted in bits received. -/
def execPsyncMatch (c : Fin 4) (at_ : Nat) (p : PSync) (s : State) : Host.Outcome State Fault Refusal :=
  let n := c.val
  let x := s.ch n
  if s.nearLoop (40 + n) = false ∧ (x.sync = .hunt ∨ x.sync = .presync) ∧ x.cdr ∧ p.diff ≤ s.fld (F.PON_SYNC_CFG_HUNT_TOL n) ∧
      x.cands.all (fun k => k.expected (s.ponMode n) != at_) then
    if 8 ≤ x.cands.length then .next (s.bump (C.PON_CAND_FULL n))
    else .next (s.setCh n { x with sync := .presync, cands := x.cands ++ [⟨at_, p.sfc % 2 ^ 51, p.hecOk, 0⟩] })
  else .next s

/-- A capture of a PON frame (R472). -/
def State.ponCapture (s : State) (n raw sfc : Nat) : State :=
  if s.flag (F.TIME_PON_CFG_ARM n) ∧ sfc % 2 ^ 32 = s.fld (F.TIME_PON_TARGET_SFC n) then
    let s := s.rawTo raw
    let s := (s.capture 3 n (leBytes 4 0 ++ leBytes 4 sfc)).1
    if s.flag (F.TIME_PON_CFG_REPEAT n) then
      s.setFld (F.TIME_PON_TARGET_SFC n) ((s.fld (F.TIME_PON_TARGET_SFC n) + 8000) % 2 ^ 32)
    else s.setFld (F.TIME_PON_CFG_ARM n) 0
  else s

/-- An accepted frame start (R84, R472). -/
def State.acceptedStart (s : State) (n : Nat) (p : PSync) (sfc : Nat) : State :=
  (s.frameStart n p.pos sfc).ponCapture n p.raw sfc

/-- CONFIRM: other values than 1-3 act as 1. -/
def State.confirmCount (s : State) (n : Nat) : Nat :=
  let v := s.fld (F.PON_SYNC_CFG_CONFIRM n)
  if 1 ≤ v ∧ v ≤ 3 then v else 1

/-- A candidate is promoted (R76, R80, R83, R84). us is the microseconds since LOS cleared. -/
def State.promote (s : State) (n : Nat) (p : PSync) (us : Nat) : State :=
  let x := s.ch n
  let falses := s.count (C.PON_CAND_FALSE n) - x.candFalseAt
  let sfc := p.sfc % 2 ^ 51
  let s := s.setCh n { x with
    sync := .sync, cands := [], sfc := sfc, lastGood := sfc, psbd := if p.ocOk then p.psbd else x.psbd, inFrames := 1
    missRun := 0 }
  let s := if p.ocOk then s else s.bump (C.PON_HDR_ERR n)
  let s := s.ponEvent n 3 3 5 [(4, sfc), (4, falses), (4, us)]
  (s.acceptedStart n p sfc).syncGained n

/-- CANDIDATE_CHECK: one PHY frame after a candidate's last match (R79, R80). -/
def execCandidateCheck (c : Fin 4) (at_ : Nat) (p : PSync) (us : Nat) (s : State) : Host.Outcome State Fault Refusal :=
  let n := c.val
  let x := s.ch n
  match x.sync, x.cands.find? (fun k => k.expected (s.ponMode n) == at_) with
  | .presync, some k =>
    let rest := x.cands.filter (fun j => j.pos != k.pos)
    if s.nearLoop (40 + n) ∨ s.fld (F.PON_SYNC_CFG_HUNT_TOL n) < p.diff then
      let s := s.bump (C.PON_CAND_FALSE n)
      .next (s.setCh n { s.ch n with cands := rest, sync := if rest.isEmpty then .hunt else .presync })
    else
      let sfc := p.sfc % 2 ^ 51
      if p.hecOk ∧ (k.hecOk = false ∨ sfc = (k.sfc + 1) % 2 ^ 51) then
        if s.confirmCount n ≤ k.confirmed + 1 then .next (s.promote n p us)
        else .next (s.setCh n { x with cands := x.cands.map (fun j =>
          if j.pos = k.pos then ⟨at_, sfc, true, k.confirmed + 1⟩ else j) })
      else .next (s.setCh n { x with cands := x.cands.map (fun j =>
        if j.pos = k.pos then ⟨at_, sfc, p.hecOk, 0⟩ else j) })
  | _, _ => .next s

/-- LOSS: other values than 2-15 act as 5. -/
def State.lossCount (s : State) (n : Nat) : Nat :=
  let v := s.fld (F.PON_SYNC_CFG_LOSS n)
  if 2 ≤ v then v else 5

/-- A correct PSync in the Sync state (R83, R84). -/
def State.psyncGood (s : State) (n : Nat) (p : PSync) : State :=
  let x := s.ch n
  let want := (x.sfc + 1) % 2 ^ 51
  let got := p.sfc % 2 ^ 51
  let sfc := if p.hecOk then got else want
  let s := s.setCh n { x with
    sync := .sync, sfc := sfc, lastGood := sfc, missRun := 0, inFrames := min 255 (x.inFrames + 1),
    psbd := if p.ocOk then p.psbd else x.psbd }
  let s := if p.hecOk then s else s.bump (C.PON_HDR_ERR n)
  let s := if p.hecOk ∧ got ≠ want then s.ponEvent n 2 3 4 [(4, want), (4, got)] else s
  let s := if p.ocOk then s else s.bump (C.PON_HDR_ERR n)
  s.acceptedStart n p sfc

/-- A missing PSync in the Sync state (R75, R82, R84). -/
def State.psyncMissing (s : State) (n : Nat) (mid : Bool) : State :=
  let x := s.ch n
  let s := s.bump (C.PON_PSYNC_MISS n)
  let s := s.frameMissing n
  let run := x.missRun + 1
  let s := s.setCh n { s.ch n with
    sync := .resync, sfc := (x.sfc + 1) % 2 ^ 51, missRun := run, inFrames := min 255 (x.inFrames + 1) }
  let s := if x.sync = .sync then s.ponEvent n 3 3 6 [(4, x.lastGood)] else s
  if s.lossCount n ≤ run then s.loseSync n .hunt 0 mid else s

/-- PSYNC_CHECK: the PSync at the expected position in the Sync state (R82). -/
def execPsyncCheck (c : Fin 4) (p : PSync) (mid : Bool) (s : State) : Host.Outcome State Fault Refusal :=
  let n := c.val
  if s.inSync n then
    if s.nearLoop (40 + n) = false ∧ p.diff ≤ s.fld (F.PON_SYNC_CFG_TRACK_TOL n) then .next (s.psyncGood n p) else .next (s.psyncMissing n mid)
  else .next s

/-- MAX_ITER: other values than 4-16 act as 10 (Table 3-8). -/
def State.maxIter (s : State) (n : Nat) : Nat :=
  let v := s.fld (F.PON_FEC_CFG_MAX_ITER n)
  if 4 ≤ v ∧ v ≤ 16 then v else 10

/-- Is a codeword uncorrectable (R85, R86, Table 3-1)? In 50G-PON mode found is the number of iterations of the LDPC decoder
after which every parity check is satisfied, in XGS-PON mode the symbol errors that the RS(248,216) decoder finds; none when
that never happens or the decoder fails. -/
def State.cwBad (s : State) (n : Nat) : Option Nat → Bool
  | none => true
  | some k => if s.ponMode n = 0 then decide (s.maxIter n < k) else decide (8 < k)

/-- FEC_CODEWORD: one codeword decoded in Sync; changed is the bytes that its correction changes (R85 to R87). -/
def execFecCodeword (c : Fin 4) (found : Option Nat) (changed : Nat) (s : State) : Host.Outcome State Fault Refusal :=
  let n := c.val
  if s.inSync n then
    let s := s.bump (C.PON_FEC_CW n)
    if s.cwBad n found then
      let s := s.bump (C.PON_FEC_UNCORR_CW n)
      .next (s.setCh n { s.ch n with badInSecond := true })
    else if changed = 0 then .next s
    else .next ((s.bump (C.PON_FEC_CORR_CW n)).bumpBy (C.PON_FEC_CORR_BYTES n) changed)
  else .next s

/-- FEC_ES_INTERVAL: a tick count that is a multiple of 48,000 ends an interval (R88). -/
def execFecEsInterval (c : Fin 4) (s : State) : Host.Outcome State Fault Refusal :=
  let n := c.val
  if s.tick.count.toNat % 48000 = 0 ∧ (s.ch n).badInSecond then
    .next ((s.setCh n { s.ch n with badInSecond := false }).bump (C.PON_FEC_ES n))
  else .next s

/-- Copy a channel's receive, TC and upstream counts into the demand banks (delta 0) or interval banks (R90, R139,
R172). -/
def State.ponCopy (s : State) (n : Nat) (interval : Bool) : State :=
  let d := if interval then 0x40 else 0
  ((s.copyBank (2 * d) (ponCtrs n)).copyBank d (tcCtrs n)).copyBank d (usCtrs n)

/-- PON_STAT_SNAP. -/
def execPonStatSnap (c : Fin 4) (s : State) : Host.Outcome State Fault Refusal := .next (s.ponCopy c.val false)

/-- PON_STAT_INTERVAL_COPY (R90). -/
def execPonStatIntervalCopy (c : Fin 4) (s : State) : Host.Outcome State Fault Refusal :=
  let p := s.fld (F.PON_STAT_CTL_PERIOD c.val)
  if p ≠ 0 ∧ s.tick.count.toNat % (p * 48000) = 0 then .next (s.ponCopy c.val true) else .next s

/-- WATCHFUL_RX_WAKE: 500 µs before the end of a low-power interval (R136). -/
def execWatchfulRxWake (c : Fin 4) (s : State) : Host.Outcome State Fault Refusal :=
  if (s.ch c.val).lull = .watchful then .next (s.rxPowerUp c.val) else .next s

/-- May a function see a counter's register (Table 22-1, R416)? -/
def State.seesCounter (s : State) (f : Nat) (c : Ctr) : Bool :=
  if c.src = 0x0085 then
    let q := (c.off - 0x03e00000) / 0x40 % 64
    if c.off < 0x03e01000 then s.dqFunc q == f else s.hqFunc q == f
  else f == 0 || f == sourceOwner c.src

/-- PON_SFC_LO_READ: a function reads PON_SFC_LO; its latch takes bits [50:32] (R596, Table 3-7). -/
def execPonSfcLoRead (f : Fin 6) (c : Fin 4) (s : State) : Host.Outcome State Fault Refusal :=
  if f.val = 0 ∨ f.val = 1 then
    let x := (s.ch c.val).sfc
    .next ((s.setLatch f.val (R.PON_SFC_HI c.val) (x / 2 ^ 32)).answer f.val (x % 2 ^ 32))
  else .next (s.answer f.val 0)

end Sys2Proof.Machine
end

