-- ==== Sys2Proof/Machine/PonTc.lean ====
section
/-! DEFINITION. Commands of activation, PLOAM, TC deframing and LULL (chapter 04). Choices: log 11. -/

namespace Sys2Proof.Machine

/-- Upstream line rates in kbit/s that a mode implements (Table 4-1). -/
def upRates (mode : Nat) : List Nat := if mode = 0 then [12441600, 24883200, 49766400] else [9953280]

/-- BURST_PROFILE: the profile is stored (R104, R115, R120); one with a line rate that the mode does not implement is not
(R99). -/
def execBurstProfile (m : Ploam) (p : Profile) (s : State) : Host.Outcome State Fault Refusal :=
  .next (runPloam m (fun s =>
    let n := m.ch.val
    let c := s.ch n
    if (upRates (s.ponMode n)).contains p.rateKbps = false then some { s := s } else
    let ps := c.profiles.filter (fun q => q.index != p.index) ++ [p]
    some { s := (s.setCh n { c with profiles := ps }).tryO23 n }) s)

/-- ASSIGN_ONU_ID: with a matching serial number, O2-3 to O4 (Table 4-3); the default Alloc-ID is assigned (R155). -/
def execAssignOnuId (m : Ploam) (sn : BitVec 64) (id : BitVec 10) (s : State) : Host.Outcome State Fault Refusal :=
  .next (runPloam m (fun s =>
    let n := m.ch.val
    if sn = serialOf n ∧ (s.ch n).act = .o23 then
      let s := s.setCh n { s.ch n with onuId := some id.toNat, snDue := 0 }
      some { s := (s.assignAlloc n id.toNat 3).setAct n .o4, disp := some 1 }
    else none) s)

/-- RANGING_TIME: the delay applies from the first BWmap whose frame starts at least 125 µs after this frame's end (R108);
O4 to O5. relative adds to the value in force or, where one waits, to the latest. The delay has the 32 bits of PON_EQD. -/
def execRangingTime (m : Ploam) (relative : Bool) (v : Int) (s : State) : Host.Outcome State Fault Refusal :=
  .next (runPloam m (fun s =>
    let n := m.ch.val
    let c := s.ch n
    if c.act = .o4 ∨ c.act = .o5 then
      let latest := match c.eqdNext.getLast? with
        | some (x, _) => x
        | none => c.eqd
      let new := wrapSigned (2 ^ 31) (if relative then latest + v else v)
      let s := s.setCh n { c with eqdNext := c.eqdNext ++ [(new, (m.sfc + 2) % 2 ^ 51)], rangeDue := 0 }
      let s := if c.act = .o4 then s.enterO5 n else s
      some { s := s, replies := ackOf m 0 }
    else none) s)

/-- Discard a channel's data keys (R119). -/
def State.dropDataKeys (s : State) (n : Nat) : State := [0, 1, 2, 3].foldl (fun s i => s.eraseKey (8 * n + i)) s

/-- The frames waiting in a channel's Alloc-ID queues are dropped and its Alloc-IDs discarded (R119, R121). -/
def State.dropAllocs (s : State) (n : Nat) : State :=
  (s.allocsOf n).foldl (fun s i => (s.dropAllocNode n i (fun _ => true)).freeAlloc n i) s

/-- DEACTIVATE_ONU_ID (R119 to R121): the bonding layer moves its frames, then what waits is dropped. A channel in LULL wakes,
so that it can activate again (R120). -/
def execDeactivateOnuId (m : Ploam) (s : State) : Host.Outcome State Fault Refusal :=
  .next (runPloam m (fun s =>
    let n := m.ch.val
    let was := (s.ch n).onuCode
    if (s.ch n).act = .o7 then none
    else
      let s := (((s.setAct n .o11).dropAllocs n).dropIdentity n).dropDataKeys n
      let s := s.wake n 0
      let c := s.ch n
      let s := s.setCh n { c with ports := sparseMap (fun _ => {}) (fun _ p => { p with active := false }) c.ports }
      let s := s.setAct n .o12
      let s := if s.flag (F.PON_TC_CFG_HOLD_ON_DEACT n) then s.setFld (F.PON_TC_CFG_ACT_HOLD n) 1 else s
      some { s := (s.ponEvent n 1 4 2 [(2, was), (1, s.fld (F.PON_TC_CFG_ACT_HOLD n))]).tryO23 n, disp := some 2 }) s)

/-- TX_DIS and the emergency stop of the burst transmitter (R110): a burst on the fibre ends. -/
def State.stopTx (s : State) (n : Nat) : State :=
  let s := s.emit (.pin "TX_DIS" n true)
  if (s.ch n).burstOn then s.emit (.pin "BEN_P" n (s.flag (F.PON_US_CFG_BEN_POL n))) else s

/-- DISABLE_SERIAL_NUMBER with the disable option (R110, R111); a channel in LULL leaves it, and its transmitter stays off. -/
def execDisableSerialNumber (m : Ploam) (sn : BitVec 64) (s : State) : Host.Outcome State Fault Refusal :=
  .next (runPloam m (fun s =>
    let n := m.ch.val
    let c := s.ch n
    if sn = serialOf n then
      let s := s.stopTx n
      let s := s.setCh n { c with txDis := true, txPowered := false, txWaking := false, bursts := [], burstOn := false
                                  snDue := 0, rangeDue := 0, o7 := true }
      let s := { s with jrn := { s.jrn with core := { s.jrn.core with o7 := setBit s.jrn.core.o7 n } } }
      let s := if c.act = .o7 then s else s.journal 0x50 0 0 1 n s.msNow
      let s := (s.setAct n .o7).wake n 0
      some { s := if c.act = .o7 then s else s.ponEvent n 1 4 1 [(4, c.sfc)], disp := some 1 }
    else none) s)

/-- ENABLE_SERIAL_NUMBER: Disable_Serial_Number with the enable option (R111): to O1.2 in sync, else to O1.1. -/
def execEnableSerialNumber (m : Ploam) (sn : BitVec 64) (s : State) : Host.Outcome State Fault Refusal :=
  .next (runPloam m (fun s =>
    let n := m.ch.val
    if sn = serialOf n ∧ (s.ch n).act = .o7 then
      let en := s.flag (F.PON_RX_CFG_ENABLE n)
      let s := if en ∧ s.nearLoop (40 + n) = false then s.emit (.pin "TX_DIS" n false) else s
      let s := s.setCh n { s.ch n with txDis := !en, txPowered := s.rxOn n, o7 := false }
      let s := { s with jrn := { s.jrn with core := { s.jrn.core with o7 := clrBit s.jrn.core.o7 n } } }
      let s := s.journal 0x51 0 0 1 n s.msNow
      let s := if s.inSync n then ((s.dropIdentity n).setAct n .o12).tryO23 n else s.enterO11 n
      some { s := s, disp := some 1 }
    else none) s)

/-- REQUEST_REGISTRATION: Registration is sent with the registration ID (R102). -/
def execRequestRegistration (m : Ploam) (s : State) : Host.Outcome State Fault Refusal :=
  .next (runPloam m (fun s =>
    some { s := s, replies := [{ kind := 1, args := [m.seq.toNat], body := (s.ch m.ch.val).regId }] }) s)

/-- ASSIGN_ALLOC_ID: an assignment (R122, R155), or with dealloc a deallocation, always accepted (R152). -/
def execAssignAllocId (m : Ploam) (alloc : BitVec 14) (dealloc : Bool) (s : State) : Host.Outcome State Fault Refusal :=
  .next (runPloam m (fun s =>
    let n := m.ch.val
    let mine := s.allocsOf n
    let have_ := mine.find? (fun i => (s.allocAt i).allocId == alloc.toNat)
    if dealloc then
      some { s := match have_ with
                  | some i => s.freeAlloc n i
                  | none => s
             replies := ackOf m 0, disp := some 1 }
    else if have_.isSome then some { s := s, replies := ackOf m 0, disp := some 1 }
    else if 64 ≤ mine.length then
      some { s := (s.bump (C.TC_ALLOC_REFUSED n)).ponEvent n 2 4 5 [(2, alloc.toNat)], replies := ackOf m 1,
             disp := some 3 }
    else some { s := s.assignAlloc n alloc.toNat 1, replies := ackOf m 0, disp := some 1 }) s)

/-- KEY_CONTROL: a new data key, drawn from the entropy source, goes into the slot of the key index named and is returned
in Key_Report, encrypted with AES under the key encryption key (R131); a channel asleep wakes (R137); no key is drawn once
the source has failed (R498). -/
def execKeyControl (m : Ploam) (idx : Fin 2) (key : BitVec 128) (s : State) : Host.Outcome State Fault Refusal :=
  .next (runPloam m (fun s =>
    let n := m.ch.val
    if s.ciph.entropyFail then some { s := s }
    else
      let i := idx.val + 1
      match s.chKey n 2 with
      | (s, kek) =>
        let s := s.loadKey (dataSlot n i false) 0 0 (keyOf key)
        let s := s.ponEvent n 3 4 9 [(1, i)]
        let report : UpMsg := { kind := 2, args := [i], body := (aesEnc kek (keyOf key)).map (BitVec.ofNat 8) }
        some { s := s.wake n 2, replies := [report] }) s)

/-- SLEEP_ALLOW with the ON or OFF option (R134, R135). -/
def execSleepAllow (m : Ploam) (on : Bool) (s : State) : Host.Outcome State Fault Refusal :=
  .next (runPloam m (fun s =>
    let n := m.ch.val
    let s := s.setCh n { s.ch n with sleepAllowed := on }
    if on then
      let r := s.tryLull n 0
      some { s := r.1, replies := ackOf m 0 ++ r.2, disp := some 1 }
    else some { s := s.wake n 0, replies := ackOf m 0, disp := some 1 }) s)

/-- PLOAM_UNSUPPORTED: a type not executed (R115); answer: the standard requires an Acknowledgement. DESIGN CHOICE (log 11):
disposition 3 marks a refused Assign_Alloc-ID alone; a message that R115 refuses is copied with disposition 0. -/
def execPloamUnsupported (m : Ploam) (answer : Bool) (s : State) : Host.Outcome State Fault Refusal :=
  .next (runPloam m (fun s =>
    some { s := s.bump (C.TC_PLOAM_UNSUP m.ch.val),
           replies := if answer then [{ kind := 0, args := [m.seq.toNat, 2] }] else [] }) s)

/-- TO1_EXPIRY: TO1 seconds after entry into O2-3 (R105). -/
def execTo1Expiry (c : Fin 4) (s : State) : Host.Outcome State Fault Refusal :=
  let n := c.val
  match (s.ch n).act with
  | .o23 => .next ((s.ponEvent n 2 4 4 [(1, 0)]).enterO11 n)
  | .o4 => .next ((s.ponEvent n 2 4 4 [(1, 1)]).enterO11 n)
  | _ => .next s

/-- TO2_EXPIRY: TO2 milliseconds after entry into O6 (R105). -/
def execTo2Expiry (c : Fin 4) (s : State) : Host.Outcome State Fault Refusal :=
  let n := c.val
  match (s.ch n).act with
  | .o6 => .next ((s.ponEvent n 1 4 3 [(2, (s.ch n).onuCode)]).enterO11 n)
  | _ => .next s

/-- SN_RESPONSE_SEND: the oldest serial number grant not yet answered is answered after the random delay drawn for it, in
PON_TX cycles (R106, R107); without delay once the entropy source has failed (R498). -/
def execSnResponseSend (c : Fin 4) (delay : Nat) (s : State) : Host.Outcome State Fault Refusal :=
  let n := c.val
  let x := s.ch n
  if x.act = .o23 ∧ 0 < x.snDue ∧ x.txPowered then
    let s := s.setCh n { x with snDue := x.snDue - 1 }
    let m : UpMsg := { kind := 4, args := [(serialOf n).toNat] }
    .next ((s.emit (.ploamUp n m (if s.ciph.entropyFail then 0 else delay))).ploamCopy n m)
  else .next s

/-- RANGING_RESPONSE_SEND: a ranging grant is answered, without a random delay (R107). -/
def execRangingResponseSend (c : Fin 4) (s : State) : Host.Outcome State Fault Refusal :=
  let n := c.val
  let x := s.ch n
  if x.act = .o4 ∧ 0 < x.rangeDue ∧ x.txPowered then
    let s := s.setCh n { x with rangeDue := x.rangeDue - 1 }
    let m : UpMsg := { kind := 1, args := [x.onuCode], body := x.regId }
    .next ((s.emit (.ploamUp n m 0)).ploamCopy n m)
  else .next s

/-- ACT_HOLD is cleared (R120). -/
def State.clearHold (s : State) (n : Nat) : State := (s.setFld (F.PON_TC_CFG_ACT_HOLD n) 0).tryO23 n

/-- ACT_HOLD_CLEAR. -/
def execActHoldClear (c : Fin 4) (s : State) : Host.Outcome State Fault Refusal := .next (s.clearHold c.val)

/-! XGEM (R126 to R132). -/

/-- A partial SDU. -/
def PonCh.partialOf (c : PonCh) (port : Nat) : Partial := sparseGet (fun _ => {}) c.partials port
/-- Replace a partial SDU. -/
def State.setPartial (s : State) (n port : Nat) (p : Partial) : State :=
  let c := s.ch n
  s.setCh n { c with partials := sparseSet (fun _ => {}) c.partials port p }

/-- A fragment of a port is lost (R129): its partial SDU is discarded and counted, and what follows of it is skipped. -/
def State.loseFragment (s : State) (n port : Nat) (last : Bool) : State :=
  let p := (s.ch n).partialOf port
  let s := if p.data.isEmpty then s else s.bump (C.TC_FRAG_LOST n)
  s.setPartial n port { skip := !last }

/-- Is a port-ID in the channel's port set (R123, R124, R127)? The OMCC port-ID is the ONU-ID. -/
def PonCh.inPorts (c : PonCh) (port : Nat) : Bool :=
  c.onuId == some port || ((sparseGet (fun _ => ({} : XPort)) c.ports port).inForce &&
    (sparseGet (fun _ => ({} : XPort)) c.ports port).active)

/-- The bond group on whose bonded port-IDs a channel's port lies. -/
def State.bondedPort (s : State) (n port : Nat) : Option Nat :=
  match s.groupOf n with
  | none => none
  | some g =>
    let b := s.group g
    if b.bondPort n ≤ port ∧ port < b.bondPort n + b.bondPorts then some g else none

/-- A whole SDU (R129, R132, R163): an OMCI message, whose MIC is checked, a tagged frame for the bonding layer,
or a frame for the parser, stored without its FCS (R406). -/
def State.wholeSdu (s : State) (n : Nat) (x : Xgem) (data : List Byte) (bad : Bool) : State :=
  let c := s.ch n
  if bad then s.bump (C.TC_XGEM_BAD n)
  else if c.onuId = some x.port then
    let k := s.chKey n 1
    let s := k.1
    let cut := data.length - 4
    if (s.slot (8 * n + 5)).state = 3 ∨ data.length < 4 ∨ omciMic 1 k.2 (data.take cut) ≠ data.drop cut then
      s.bump (C.TC_OMCI_MIC_ERR n)
    else match c.omccDq with
      | none => s
      | some q => s.hostRecord q (24 + n) data
  else
    let bond := s.bondedPort n x.port
    let body := if bond.isSome then data else data.take (data.length - 4)
    match s.allocBuf agPonRx body.length with
    | (s, .refused) => s
    | (s, .got id) =>
      let s := s.storeFrame id body.length
      let f : Frame := { buf := id, bytes := body, src := 24 + n }
      match bond with
      | some g =>
        let s := s.handover id agPonRx n agBond
        { s with bonding := { s.bonding with input := s.bonding.input ++ [⟨n, g, f⟩] } }
      | none => s.toClassifier f

/-- XGEM_FRAME (R126 to R132): the payload is decrypted under the key named. lost are the fragments (port, last) in the rest of
the payload when the header cannot be corrected. DESIGN CHOICE (log 11): the bytes of a partly received SDU stand in the
channel (R129), and the SDU takes a buffer, of its stored length (R406), with its last fragment; XGEM_RX counts every frame of
the port set, that of an SDU then skipped or discarded included. -/
def execXgemFrame (c : Fin 4) (x : Xgem) (lost : List (Nat × Bool)) (s : State) : Host.Outcome State Fault Refusal :=
  let n := c.val
  if s.inSync n = false ∨ s.nearLoop (40 + n) then .next s
  else if x.hecOk = false then
    .next (lost.foldl (fun s l => s.loseFragment n l.1 l.2) (s.bump (C.TC_XGEM_HEC_ERR n)))
  else if x.idle ∨ (s.ch n).inPorts x.port = false then .next s
  else
    let r : State × Option (List Byte) :=
      if x.key = 0 then (s, some x.data)
      else if 2 < x.key ∨ s.keyHeld (dataSlot n x.key x.bcast) = false then (s, none)
      else match s.readKey (dataSlot n x.key x.bcast) with
        | (s, k) => (s, k.map (fun k => xgemCrypt k 0 (s.ponMode n) (s.ch n).sfc x.at_ x.data))
    match r.2 with
    | none => .next ((r.1.bump (C.TC_XGEM_KEY_MISS n)).loseFragment n x.port x.last)
    | some plain =>
      let s := r.1.bump (C.TC_XGEM_RX n)
      let p := (s.ch n).partialOf x.port
      if p.skip then .next (if x.last then s.setPartial n x.port {} else s)
      else
        let data := p.data ++ plain
        if 10240 < data.length then .next ((s.bump (C.TC_SDU_LONG n)).setPartial n x.port { skip := !x.last })
        else if x.last then .next ((s.setPartial n x.port {}).wholeSdu n x data (p.bad || x.bad))
        else .next (s.setPartial n x.port { data := data, bad := p.bad || x.bad })

/-- FORCED_WAKEUP: the head end's forced wake-up indication (R137). DESIGN CHOICE (log 11): of the causes that Table 4-8 names,
the event carries 2 (wake-up indication). -/
def execForcedWakeup (c : Fin 4) (s : State) : Host.Outcome State Fault Refusal :=
  if s.inSync c.val then .next (s.wake c.val 2) else .next s

/-- TX_POWER_UP: the waking channel's transmitter is powered (R146). -/
def execTxPowerUp (c : Fin 4) (s : State) : Host.Outcome State Fault Refusal :=
  let n := c.val
  let x := s.ch n
  if x.txWaking ∧ x.act ≠ .o7 then .next ((s.setCh n { x with txWaking := false, txPowered := true }).reeval n) else .next s

/-! Register writes of a channel. -/

/-- The bits of a register field set aside in a value. -/
def keepBits (v mask old : Nat) : Nat := (v &&& (0xFFFFFFFF ^^^ mask)) ||| (old &&& mask)

/-- A write of PON_RX_CFG (R63, R64, R70): POL and MODE only while ENABLE is 0; another MODE loads the serialiser's sets of that
mode (R319). Where it ends the Sync state, whether an XGEM
frame was in progress (R92) is a free value. -/
def State.writeRxCfg (s : State) (n v : Nat) : State :=
  let old := (s.rd (R.PON_RX_CFG n)).toNat
  let mode := s.flag (F.PON_RX_CFG_MODE n)
  let s := if bit old 0 then s else (s.wrRw (R.PON_RX_CFG n) (keepBits v 1 old)).zeroTaps n
  let s := if s.flag (F.PON_RX_CFG_MODE n) = mode then s else s.loadPonSets n
  if bit v 0 then s.rxEnable n
  else if s.inSync n then s.nextFree.rxDisable n (Config.midFrame s.freeCtr)
  else s.rxDisable n false

/-- A write of PON_EQ_CTL (R70, R73, R74): the taps adapt up to it under the values before it; FREEZE clearing leaves the
tracking step (R71). The MSE that SNAP latches is a free value. -/
def State.writeEqCtl (s : State) (n v : Nat) : State :=
  let s := s.eqAdapt n
  let thaw := s.flag (F.PON_EQ_CTL_FREEZE n) && !bit v 0
  let s := (s.wrRw (R.PON_EQ_CTL n) v).zeroTaps n
  let s := if thaw then s.setCh n { s.ch n with acquiring := false } else s
  let s := if bit v 1 then s.eqReset n else s
  if bit v 2 then s.nextFree.eqLatch n (Config.eqMse s.freeCtr).toNat else s

/-- A write of PON_TC_CFG (R104, R120). -/
def State.writeTcCfg (s : State) (n v : Nat) : State :=
  let s := s.wrRw (R.PON_TC_CFG n) v
  if bit v 0 then s else s.tryO23 n

/-- PON_CFG: PON_RX_CFG, PON_FE_CFG, PON_EQ_CTL, PON_SYNC_CFG, PON_FEC_CFG, PON_STAT_CTL, PON_TC_CFG (R97, R138). -/
def execPonCfg (p : Pkt) (s : State) : Host.Outcome State Fault Refusal :=
  runCmd 0x1001 false (lenIs 7 p) (decide (p.target.toNat < 4)) (fun _ s =>
    let n := p.target.toNat
    let s := s.wrRw (R.PON_FE_CFG n) (p.w 1)
    let s := s.wrRw (R.PON_SYNC_CFG n) (p.w 3)
    let s := s.wrRw (R.PON_FEC_CFG n) (p.w 4)
    let s := s.wrRw (R.PON_STAT_CTL n) (p.w 5)
    let s := if bit (p.w 5) 0 then s.ponCopy n false else s
    let s := s.writeRxCfg n (p.w 0)
    let s := s.writeEqCtl n (p.w 2)
    finish (s.writeTcCfg n (p.w 6))) p s

/-- PON_REG_ID (R102). -/
def execPonRegId (p : Pkt) (s : State) : Host.Outcome State Fault Refusal :=
  runCmd 0x1002 false (lenIs 9 p) (decide (p.target.toNat < 4)) (fun _ s =>
    finish (s.setCh p.target.toNat { s.ch p.target.toNat with regId := p.bytes })) p s

/-- PON_MSK: the key takes effect at the next PON-frame boundary (R130). -/
def execPonMsk (p : Pkt) (s : State) : Host.Outcome State Fault Refusal :=
  runCmd 0x1003 false (lenIs 4 p) (decide (p.target.toNat < 4)) (fun _ s =>
    finish (s.setCh p.target.toNat { s.ch p.target.toNat with mskNext := some p.bytes })) p s

/-- A port of a channel. -/
def PonCh.portOf (c : PonCh) (port : Nat) : XPort := sparseGet (fun _ => {}) c.ports port

/-- PON_PORT_ADD: at a PON-frame boundary (R123, R124). -/
def execPonPortAdd (p : Pkt) (s : State) : Host.Outcome State Fault Refusal :=
  runCmd 0x1004 false (lenIs 1 p) (decide (p.target.toNat < 4)) (fun _ s =>
    let n := p.target.toNat
    let c := s.ch n
    let x := c.portOf (p.w 0)
    if 65535 < p.w 0 then refuse stBadParam s
    else if (x.inForce || x.addDue) && !x.delDue then finish s
    else if 1023 ≤ c.portCount then refuse stNoResource s
    else
      let y : XPort := { x with addDue := !x.inForce, delDue := false }
      finish (s.setCh n { c with ports := sparseSet (fun _ => {}) c.ports (p.w 0) y })) p s

/-- PON_PORT_REMOVE: at a PON-frame boundary (R124). -/
def execPonPortRemove (p : Pkt) (s : State) : Host.Outcome State Fault Refusal :=
  runCmd 0x1005 false (lenIs 1 p) (decide (p.target.toNat < 4)) (fun _ s =>
    let n := p.target.toNat
    let c := s.ch n
    let x := c.portOf (p.w 0)
    if 65535 < p.w 0 then refuse stBadParam s
    else
      let y : XPort := { x with addDue := false, delDue := x.inForce }
      finish (s.setCh n { c with ports := sparseSet (fun _ => {}) c.ports (p.w 0) y })) p s

/-- A channel takes a LULL policy (R134): one that no longer permits the mode in force wakes it. -/
def State.setLullPolicy (s : State) (n v : Nat) : State :=
  let s := s.setCh n { s.ch n with lullPolicy := v }
  if v < (s.ch n).lull.code then s.wake n 1
  else
    let r := s.tryLull n 1
    r.1.sendAll n r.2

/-- PON_LULL_POLICY (R134). -/
def execPonLullPolicy (p : Pkt) (s : State) : Host.Outcome State Fault Refusal :=
  runCmd 0x1006 false (lenIs 1 p) (decide (p.target.toNat < 4)) (fun _ s =>
    let n := p.target.toNat
    if 2 < p.w 0 then refuse stBadParam s
    else
      finish (s.setLullPolicy n (p.w 0))) p s

/-- PON_QUEUES: PLOAM record queue, OMCC device-to-host and host-to-device queues (R117). -/
def execPonQueues (p : Pkt) (s : State) : Host.Outcome State Fault Refusal :=
  runCmd 0x1007 false (lenIs 1 p) (decide (p.target.toNat < 4)) (fun _ s =>
    let b := p.bytes
    if 63 < leAt b 0 1 ∨ 63 < leAt b 1 1 ∨ 63 < leAt b 2 1 then refuse stBadParam s
    else finish (s.setCh p.target.toNat { s.ch p.target.toNat with
      ploamQ := some (leAt b 0 1), omccDq := some (leAt b 1 1), omccHq := some (leAt b 2 1) })) p s

/-- AWARE_INTERVAL_START: a channel in watchful sleep that has not regained sync stays awake and follows R104 and R105
(R136). DESIGN CHOICE (log 11): the LULL-changed event's cause is 2. -/
def execAwareIntervalStart (c : Fin 4) (s : State) : Host.Outcome State Fault Refusal :=
  let n := c.val
  if (s.ch n).lull = .watchful ∧ s.inSync n = false then
    let s := s.wake n 2
    if (s.ch n).act = .o5 then .next (s.setAct n .o6) else .next s
  else .next s

/-- LOW_POWER_INTERVAL_START: the end of an aware interval (R95); a channel whose Sleep_Request has not left stays up. -/
def execLowPowerIntervalStart (c : Fin 4) (s : State) : Host.Outcome State Fault Refusal :=
  if (s.ch c.val).lull = .awake ∨ (s.ch c.val).sleepDue then .next s else .next (s.sleepNow c.val)

/-- What a PON-frame boundary brings to a channel: the new master session key (R130), the port set (R124), integrity keys
restored after a loss (R500). -/
def State.ponBoundary (s : State) (n : Nat) : State :=
  let c := s.ch n
  let lost := [4, 5, 6].any (fun i => (s.slot (8 * n + i)).state == 3)
  let s := match c.mskNext with
    | some k => (s.setCh n { c with msk := some k, mskNext := none }).loadDerived n (some k)
    | none => if lost then s.loadDerived n c.msk else s
  let c := s.ch n
  s.setCh n { c with ports := sparseMap (fun _ => {}) (fun _ x =>
    if x.delDue then {} else { x with inForce := x.inForce || x.addDue, addDue := false }) c.ports }

end Sys2Proof.Machine
end

