-- ==== Sys2Proof/Machine/Sched.lean ====
section
/-! DEFINITION. Commands of the queue manager (chapter 15), but for ENQUEUE. Choices: log 14. -/

namespace Sys2Proof.Machine

/-- DEQUEUE: a transmitter takes the next eligible frame of its level-1 node at a PKT cycle (R438, R441): a MAC that can
start a frame, or the host channels. PON nodes are served at each grant, by BURST_BUILD (R434). -/
def execDequeue (node1 : Fin 29) (cyc : Nat) (s : State) : Host.Outcome State Fault Refusal :=
  let s := s.pktTo cyc
  let n := node1.val
  if n < 24 then
    let m := s.macAt n
    if m.tx.isSome || !m.link then .next s
    else match s.serveNode1 n (fun _ => true) with
      | (s, none) => .next s
      | (s, some (_, x)) =>
        let s := s.takeBuf x.frame.buf agEthTx
        .next (s.setMac n { s.macAt n with tx := some x.frame })
  else if n = 28 then
    match s.serveNode1 28 (fun _ => true) with
    | (s, none) => .next s
    | (s, some (q, x)) => .next (s.reachDq (q - 4032) x.frame)
  else .next s

/-- RECOVERY_ACCOUNTING_END: 48,000 ticks after a reset of PF3 (R439). -/
def execRecoveryAccountingEnd (s : State) : Host.Outcome State Fault Refusal :=
  if s.sched.acct = 2 ∧ s.sched.recoveryTicks = 0 then
    .next (({ s with sched := { s.sched with acct := 0 } }).raiseRow 0x0084 3 15 5 3 [(1, 2), (1, 0), (1, 1)])
  else .next s

/-- SCH_L1: a level-1 node record (R440, R452, R625). -/
def execSchL1 (p : Pkt) (s : State) : Host.Outcome State Fault Refusal :=
  runCmd 0x3301 false (lenIs 5 p) (decide (p.target.toNat < 29)) (fun _ s =>
    let b := p.bytes
    let i := p.target.toNat
    let share := leAt b 8 2
    if leAt b 0 1 ≠ i ∨ 2 < leAt b 1 1 ∨ 4095 < leAt b 2 2 ∨ 511 < leAt b 4 2 ∨ 512 < leAt b 6 2 ∨ share < 64 ∨
        49152 < share ∨ leAt b 10 2 ≠ 0 ∨ shaperOk (b.drop 12) = false then refuse stBadParam s
    else
      let (en, rate, burst, ov) := shaperFields (b.drop 12)
      let n := s.n1 i
      finish ((s.setN1 i { n with
        sel := leAt b 1 1, selBase := leAt b 2 2, nodeBase := leAt b 4 2, nodes := leAt b 6 2, shareKb := share,
        shaper := n.shaper.change en rate burst ov s.sched.pkt }).wroteTable 6 i)) p s

/-- Do the queues of a level-2 node hold frames? -/
def State.nodeHolds (s : State) (i : Nat) : Bool := (List.range 8).any (fun k => !(s.sq (8 * i + k)).frames.isEmpty)

/-- SCH_L2: a level-2 node record (R440, R452, R625). -/
def execSchL2 (p : Pkt) (s : State) : Host.Outcome State Fault Refusal :=
  runCmd 0x3302 false (lenIs 4 p) (decide (p.target.toNat < 512)) (fun _ s =>
    let b := p.bytes
    let i := p.target.toNat
    let par := leAt b 2 1
    let n := s.n2 i
    if leAt b 0 2 ≠ i ∨ 28 < par ∨ leAt b 3 1 = 0 ∨ 8 < leAt b 4 1 ∨ leAt b 5 3 ≠ 0 ∨ shaperOk (b.drop 8) = false then
      refuse stBadParam s
    else if 504 ≤ i ∨ par ≠ n.parent ∧ s.nodeHolds i then refuse stBusy s
    else
      let (en, rate, burst, ov) := shaperFields (b.drop 8)
      let own : Shaper := { en := en, rate := rate, burst := burst, overhead := ov }
      let (en, rate) := if n.line.isSome ∧ n.shaper.en then (true, n.shaper.rate) else (en, rate)
      finish ((s.setN2 i { n with
        parent := par, weight := leAt b 3 1, spCount := leAt b 4 1, own := own,
        shaper := n.shaper.change en rate burst ov s.sched.pkt }).wroteTable 5 i)) p s

/-- SCH_QUEUE: a queue record (R440, R452, R625); its drop count starts again (Table 20-6). -/
def execSchQueue (p : Pkt) (s : State) : Host.Outcome State Fault Refusal :=
  runCmd 0x3303 false (lenIs 5 p) (decide (p.target.toNat < 4096)) (fun _ s =>
    let b := p.bytes
    let q := p.target.toNat
    let kb := leAt b 4 2
    if leAt b 0 2 ≠ q ∨ leAt b 2 1 = 0 ∨ kb = 0 ∨ 49152 < kb ∨ 100 < leAt b 6 1 ∨ 100 < leAt b 7 1 ∨ 1 < leAt b 8 1 ∨
        leAt b 3 1 ≠ 0 ∨ leAt b 9 3 ≠ 0 ∨ shaperOk (b.drop 12) = false then
      refuse stBadParam s
    else
      let (en, rate, burst, ov) := shaperFields (b.drop 12)
      let v := s.sq q
      finish ((s.setSq q { v with
        weight := leAt b 2 1, maxKb := kb, yelPct := leAt b 6 1, redPct := leAt b 7 1, sample := bit (leAt b 8 1) 0,
        dropped := 0, shaper := v.shaper.change en rate burst ov s.sched.pkt }).wroteTable 4 q)) p s

/-- SCH_QUEUE_READ: depth, frames, frames dropped (Table 20-6). -/
def execSchQueueRead (p : Pkt) (s : State) : Host.Outcome State Fault Refusal :=
  runCmd 0x3304 false (lenIs 0 p) (decide (p.target.toNat < 4096)) (fun _ s =>
    let v := s.sq p.target.toNat
    finish s (leBytes 4 v.depth ++ leBytes 4 v.frames.length ++ leBytes 4 v.dropped)) p s

/-- SCH_SAMPLE: EN, PERIOD, BASE, SIZE (R564, Table 15-6). -/
def execSchSample (p : Pkt) (s : State) : Host.Outcome State Fault Refusal :=
  runCmd 0x3305 false (lenIs 5 p) (p.target == 0) (fun _ s =>
    let b := p.bytes
    let base := leAt b 8 8
    if 1 < leAt b 0 1 ∨ 31 < leAt b 16 1 ∨ base % 64 ≠ 0 ∨ base < 0x10000000 then refuse stBadParam s
    else
      let s := s.setFld F.SCH_SAMPLE_CFG_PERIOD (leAt b 1 1)
      let s := s.setFld F.SCH_SAMPLE_CFG_EN (leAt b 0 1)
      let s := s.wr R.SCH_SAMPLE_BASE_LO (BitVec.ofNat 32 base)
      let s := s.wr R.SCH_SAMPLE_BASE_HI (BitVec.ofNat 32 (base / 2 ^ 32))
      finish (s.setFld F.SCH_SAMPLE_SIZE_SIZE (leAt b 16 1))) p s

/-- LINE_CTX_LOAD (R447, R571, R572). -/
def execLineCtxLoad (p : Pkt) (s : State) : Host.Outcome State Fault Refusal :=
  runCmd 0x33F0 false (ctxLoadLen p) (p.target == 0) (fun _ s =>
    ctxLoad p 0 192 (lineCheck p.ctxFirst) loadLine s) p s

/-- LINE_CTX_READ (R573). -/
def execLineCtxRead (p : Pkt) (s : State) : Host.Outcome State Fault Refusal :=
  runCmd 0x33F1 false (lenIs 1 p) (p.target == 0) (fun _ s =>
    ctxRead p 192 (fun s i => fitB 64 (s.lineCtx i).host ++ fitB 64 (s.lineCtx i).wb) s) p s

/-- SCH_STAT_SNAP (R453). -/
def execSchStatSnap (s : State) : Host.Outcome State Fault Refusal := .next (s.copyBank 0 schCtrs)

/-! The vector-cycle boundary at the queue manager. -/

/-- Discard every frame that the queues of a level-2 node hold (R449). -/
def State.discardQueue (s : State) (q : Nat) : List QFrame → State
  | [] => s
  | x :: xs =>
    let n := s.n1 x.node1
    let s := s.setN1 x.node1 { n with held := n.held - bufBytes x.frame }
    let s := (s.bump C.SCH_DROP_DOWN).queueDrop q
    let s := match (s.n2 (q / 8)).line with
      | some l => s.setLine l { s.lineCtx l with discarded := ((s.lineCtx l).discarded + 1) % 2 ^ 32 }
      | none => s
    (s.finishDest x.frame.buf agQm 0).discardQueue q xs

/-- Discard all queues of a level-2 node. -/
def State.discardNode (s : State) (node : Nat) : State :=
  (List.range 8).foldl (fun s k =>
    let q := 8 * node + k
    let fs := (s.sq q).frames
    if fs.isEmpty then s else (s.setSq q { s.sq q with frames := [], deficit := 0 }).discardQueue q fs) s

/-- A line channel delivers a rate and a state (R306, R448, R449). -/
def State.deliverLine (s : State) (i ndr st : Nat) : State :=
  let l := s.lineCtx i
  let h := l.host
  let s := s.setLine i { l with ndr := ndr, state := st, delivered := true }
  if lineFollow h then
    let k := lineNode h
    let n := s.n2 k
    if n.line = some i then
      if st = 2 ∨ st = 3 then
        let rate := max (leAt h 4 4) (ndr * lineFraction h / 256)
        let s := s.setN2 k { n with
          lineHold := 0, shaper := n.shaper.change true rate n.own.burst n.own.overhead s.sched.pkt }
        if rate = l.rate then s
        else s.setLine i { s.lineCtx i with rate := rate, changed := s.tick.count.toNat % 2 ^ 32 }
      else if st = 1 then s.setN2 k { n with lineHold := 1 }
      else
        let s := s.setN2 k { n with lineHold := 2 }
        let s := if n.lineHold = 2 then s else s.raiseRow 0x0084 3 15 4 3 [(1, i), (2, k), (1, st)]
        s.discardNode k
    else s
  else s

/-- SIZE of the sample ring: other values than 13-20 act as 16 (Table 15-6). -/
def State.sampleSize (s : State) : Nat :=
  let z := s.fld F.SCH_SAMPLE_SIZE_SIZE
  if 13 ≤ z ∧ z ≤ 20 then z else 16

/-- PERIOD: 0 acts as 8 (Table 15-6). -/
def State.samplePeriod (s : State) : Nat :=
  let p := s.fld F.SCH_SAMPLE_CFG_PERIOD
  if p = 0 then 8 else p

/-- The level-1 node a queue stands under. -/
def State.queueNode1 (s : State) (q : Nat) : Nat := (s.n2 (q / 8)).parent

/-- A queue record of a sample set (Table 15-4), k PKT cycles after the boundary. -/
def State.sampleRecord (s : State) (q : Nat) : List Byte :=
  let v := s.sq q
  let n2 := s.n2 (q / 8)
  let n1 := s.queueNode1 q
  let held := !(v.shaper.bring s.sched.pkt).ok || s.held1 n1 || s.heldPfc n1 q || n2.lineHold == 1 ||
    (!(decide (24 ≤ n1 ∧ n1 ≤ 27)) && (!(n2.shaper.bring s.sched.pkt).ok || !((s.n1 n1).shaper.bring s.sched.pkt).ok))
  let age := match v.frames with
    | [] => 0
    | x :: _ => min 65535 ((s.sched.pkt / 125 - x.enqAt) / 10)
  leBytes 2 q ++ leBytes 2 (b2n v.frames.isEmpty + 2 * b2n held + 4 * b2n (n2.lineHold == 2)) ++ leBytes 4 v.depth ++
    leBytes 2 (min 65535 v.frames.length) ++ leBytes 2 age ++ leBytes 2 v.maxSojourn ++ leBytes 2 v.setDrops

/-- Write sample records to the ring, 16 bytes each. -/
def State.writeSamples (s : State) (base size : Nat) : List (List Byte) → State
  | [] => s
  | r :: rs =>
    let wr := s.sched.sampleWr
    let s := (s.ddrWrite (base + 16 * (wr.toNat % 2 ^ size)) r).1
    ({ s with sched := { s.sched with sampleWr := wr + 1 } }).writeSamples base size rs

/-- Start the statistics of a written set's queues again. -/
def State.clearSampled (s : State) : List Nat → State
  | [] => s
  | q :: qs => (s.setSq q { s.sq q with maxSojourn := 0, setDrops := 0 }).clearSampled qs

/-- A sampling boundary (R450, R451). -/
def State.sampleSet (s : State) : State :=
  if s.flag F.SCH_SAMPLE_CFG_EN ∧ s.sched.vcNumber.toNat % s.samplePeriod = 0 then
    let qs := (s.sched.queue.filter (fun p => p.2.sample)).map (·.1)
    let size := s.sampleSize
    let used := (s.sched.sampleWr - s.rd R.SCH_SAMPLE_RD).toNat
    let no := s.sched.setNumber
    let s := { s with sched := { s.sched with setNumber := no + 1 } }
    if 2 ^ size < used + qs.length + 1 then
      (s.bump C.SCH_SAMPLE_LOST).raiseRow 0x0084 2 15 3 3 [(2, no % 65536), (4, qs.length + 1), (4, 2 ^ size - used)]
    else
      let header := leBytes 2 0xFFFF ++ leBytes 2 qs.length ++ leBytes 4 s.tick.count.toNat ++ leBytes 2 no ++
        leBytes 2 s.samplePeriod ++ leBytes 4 0
      let base := s.addr64 R.SCH_SAMPLE_BASE_LO R.SCH_SAMPLE_BASE_HI
      let recs := qs.map s.sampleRecord
      (s.writeSamples base size (header :: recs)).clearSampled qs
  else s

/-- The queue manager at a vector-cycle boundary: the vector-cycle number, the once-per-cycle events, the sample set.
R448 comes before it, as the port delivers its lines. -/
def State.schedBoundary (s : State) : State :=
  let s := { s with sched := { s.sched with
    vcNumber := s.sched.vcNumber + 1, noNodeTold := false,
    node1 := sparseMap (fun _ => {}) (fun _ n => { n with shareTold := false }) s.sched.node1 } }
  s.sampleSet

end Sys2Proof.Machine
end

