-- ==== Sys2Proof/Machine/PonUp.lean ====
section
/-! DEFINITION. Commands of upstream bursts, bandwidth reports and bonding (chapter 05), and ENQUEUE (R444).
Choices: log 12, 13. -/

namespace Sys2Proof.Machine

/-! Grants (R141 to R146). -/

/-- Allocation context entry of an Alloc-ID on a channel. -/
def State.allocEntry (s : State) (n alloc : Nat) : Option Nat :=
  (s.allocsOf n).find? (fun i => (s.allocAt i).allocId == alloc)

/-- Is an Alloc-ID assigned to no channel and equal to no ONU-ID of the device (R141)? -/
def State.grantUnknown (s : State) (alloc : Nat) : Bool :=
  (List.range 4).all (fun n => (s.allocEntry n alloc).isNone && (s.ch n).onuId != some alloc)

/-- Grants in bursts: a grant marked as a continuation joins the burst before it (R143). -/
def burstsOf : List Grant → List (List Grant)
  | [] => []
  | g :: gs =>
    match burstsOf gs with
    | [] => [[g]]
    | [] :: bs => [g] :: bs
    | (h :: hs) :: bs => if h.cont then (g :: h :: hs) :: bs else [g] :: (h :: hs) :: bs

/-- Start of a burst's granted interval. -/
def burstStart (b : List Grant) : Nat := match b with
  | [] => 0
  | g :: _ => g.start

/-- End of a burst's granted interval. -/
def burstEnd (b : List Grant) : Nat := burstStart b + (b.map (·.size)).sum

/-- Do two bursts' granted intervals overlap (R144)? -/
def burstsOverlap (a b : List Grant) : Bool :=
  decide (burstStart a < burstEnd b) && decide (burstStart b < burstEnd a)

/-- A channel accepts a burst, or refuses it for its profile or an overlap (R143, R144). -/
def State.acceptBurst (s : State) (n sfc : Nat) (b : List Grant) : State :=
  match b with
  | [] => s
  | g :: _ =>
    let c := s.ch n
    if c.profiles.all (fun p => p.index.val != g.profile) then
      (s.bump (C.US_PROFILE_MISS n)).ponEvent n 2 5 3 [(1, g.profile)]
    else if c.bursts.any (fun p => p.sfc == sfc && burstsOverlap p.grants b) then
      (s.bump (C.US_GRANT_OVERLAP n)).ponEvent n 2 5 2 [(2, g.alloc), (2, g.start), (4, sfc)]
    else
      let s := s.setCh n { c with bursts := c.bursts ++ [{ sfc := sfc, grants := b }], grants := c.grants + b.length }
      b.foldl (fun s g => match s.allocEntry n g.alloc with
        | some i => s.setAlloc i { s.allocAt i with lastSfc := sfc % 2 ^ 32 }
        | none => s) s

/-- Has the frame of a superframe counter come? -/
def sfcReached (sfc due : Nat) : Bool := decide ((sfc + 2 ^ 51 - due % 2 ^ 51) % 2 ^ 51 < 2 ^ 50)

/-- The equalisation delays of Ranging_Time messages apply from their frames on, the latest due one stands (R108). -/
def State.applyEqd (s : State) (n : Nat) : State :=
  let c := s.ch n
  let due := c.eqdNext.takeWhile (fun p => sfcReached c.sfc p.2)
  match due.getLast? with
  | some (v, _) => s.setCh n { c with eqd := v, eqdNext := c.eqdNext.drop due.length }
  | none => s

/-- BWMAP: the BWmap of the channel's current frame; bad marks a byte of it, hlBad a byte of HLend, in a bad codeword (R109,
R125, R141 to R144). Without HLend the BWmap has no bounds and yields no grants either. Serial number and ranging grants wait
for their answers (R106, R107). -/
def execBwmap (c : Fin 4) (grants : List Grant) (bad hlBad : Bool) (s : State) : Host.Outcome State Fault Refusal :=
  let n := c.val
  if s.inSync n = false ∨ s.nearLoop (40 + n) then .next s
  else
    let s := (s.applyEqd n)
    if bad || hlBad then .next ((s.bump (C.TC_HDR_DISCARD n)).setCh n { (s.bump (C.TC_HDR_DISCARD n)).ch n with grants := 0 })
    else
      let x := s.ch n
      let asks := fun (k : Nat) => (grants.filter (fun g => g.kind.val == k)).length
      let s := s.setCh n { x with
        grants := 0, snDue := if x.act = .o23 then x.snDue + asks 1 else x.snDue,
        rangeDue := if x.act = .o4 then x.rangeDue + asks 2 else x.rangeDue }
      let data := grants.filter (fun g => g.kind.val == 0)
      let s := s.bumpBy (C.US_GRANT_UNKNOWN n) (data.filter (fun g => s.grantUnknown g.alloc)).length
      let mine := data.filter (fun g => (s.allocEntry n g.alloc).isSome)
      let s := s.bumpBy (C.US_GRANT_EXCESS n) (mine.length - 32)
      .next ((burstsOf (mine.take 32)).foldl (fun s b => s.acceptBurst n x.sfc b) s)

/-! Burst contents (R148 to R154). -/

/-- XGEM header bytes, and the space that a payload takes in XGEM frames: a multiple of 4, at least 8. -/
def xgemHeader : Nat := 8
/-- Space of a payload. -/
def xgemSpace (n : Nat) : Nat := max 8 (4 * ceilDiv n 4)

/-- XGEM payload bytes of a frame: its stored length and its FCS. -/
def xgemBytes (f : Frame) : Nat := f.bytes.length + 4

/-- The SDU of an Ethernet frame: its bytes and their FCS. -/
def ethSdu (f : Frame) : List Byte := f.bytes ++ leBytes 4 (crc32 (f.bytes.map (·.toNat)))

/-- The queue of a level-2 node that holds a fragment remainder of a channel's (R149). -/
def State.heldRemainder (s : State) (n node : Nat) : Option Nat :=
  (List.range 8).find? (fun k => match (s.sq (8 * node + k)).frames with
    | x :: _ => decide (0 < x.sent) && x.node1 == 24 + n
    | [] => false)

/-- The queue that the builder draws from next: a held remainder's, else the node's choice (R149, R442). -/
def State.burstPick (s : State) (n node : Nat) : Option (Nat × Bool × List (Nat × Int)) :=
  match s.heldRemainder n node with
  | some k => some (k, true, [])
  | none => (s.pickQueue (24 + n) node).map (fun p => (p.1, false, p.2))

/-- Replace the head frame of a queue by one of which more bytes are sent. -/
def State.sentPart (s : State) (q bytes : Nat) : State :=
  let v := s.sq q
  match v.frames with
  | [] => s
  | x :: xs => s.setSq q { v with frames := { x with sent := x.sent + bytes } :: xs }

/-- A frame found bad is dropped before its first fragment (R150). -/
def State.dropBad (s : State) (n alloc q : Nat) (x : QFrame) : State :=
  let s := (s.takeHead (24 + n) q).bump (C.US_FRAME_BAD n)
  let s := s.ponEvent n 2 5 1 [(2, alloc), (2, q), (4, x.frame.buf)]
  (s.takeBuf x.frame.buf agBurst).finishDest x.frame.buf agBurst n

/-- What the filling of a space gives: state, parts, frame payload bytes and idle bytes, and the buckets of the frames
completed. -/
structure Filled where
  s : State
  parts : List BurstPart := []
  payload : Nat := 0
  idle : Nat := 0
  buckets : List (Nat × Nat) := []

/-- Put a part before what follows it. -/
def Filled.put (f : Filled) (p : BurstPart) (bytes : Nat) (bucket : Option (Nat × Nat)) : Filled :=
  { f with parts := p :: f.parts, payload := f.payload + bytes, buckets := bucket.toList ++ f.buckets }

/-- Space that no frame fills carries idle XGEM frames (R149). -/
def idleFill (s : State) (r : Nat) : Filled :=
  if r = 0 then { s := s } else { s := s, parts := [.idle r], idle := r }

/-- Fill r bytes of a grant from a level-2 node; bad are the buffers whose words the builder finds uncorrectable; fuel
bounds the frames and fragments. -/
def fillSpace (n alloc key node : Nat) (bad : List Nat) : Nat → Nat → State → Filled
  | 0, r, s => idleFill s r
  | fuel + 1, r, s =>
    if r < xgemHeader + 8 then idleFill s r
    else
      match s.burstPick n node with
      | none => idleFill s r
      | some (k, rest, ds) =>
        let q := 8 * node + k
        let s := s.payQueues node ds
        let s := if ds.isEmpty then s else s.setN2 node { s.n2 node with drrNext := k }
        match (s.sq q).frames with
        | [] => idleFill s r
        | x :: _ =>
          let got := if rest then (s, none)
            else s.readFrame x.frame.buf x.frame.bytes.length (if bad.contains x.frame.buf then some 0 else none)
          match got with
          | (s, some _) => fillSpace n alloc key node bad fuel r (s.dropBad n alloc q x)
          | (s, none) =>
            let data := (ethSdu x.frame).drop x.sent
            let room := r - xgemHeader
            if xgemSpace data.length ≤ room then
              let s := (s.takeHead (24 + n) q).chargeAll (24 + n) q x.frame
              let s := (s.takeBuf x.frame.buf agBurst).finishDest x.frame.buf agBurst n
              (fillSpace n alloc key node bad fuel (room - xgemSpace data.length) s).put
                (.xgem alloc none key data true) data.length x.bucket
            else
              let m := room / 4 * 4
              (idleFill (s.sentPart q m) (room - m)).put (.xgem alloc none key (data.take m) false) m none

/-- Bond-status frames and OMCI messages (port-ID, bytes) that fit go ahead of the Ethernet frames; one that does not fit
waits. -/
def fillControl (alloc key : Nat) : List (Nat × List Byte) → Nat → List BurstPart × Nat × List (Nat × List Byte)
  | [], r => ([], r, [])
  | d :: ds, r =>
    if xgemHeader + xgemSpace d.2.length ≤ r then
      let f := fillControl alloc key ds (r - xgemHeader - xgemSpace d.2.length)
      (.xgem alloc (some d.1) key d.2 true :: f.1, f.2.1, f.2.2)
    else ([], r, d :: ds)

/-- Payload bytes of control frames. -/
def controlBytes (ds : List (Nat × List Byte)) : Nat := (ds.map (·.2.length)).sum

/-- Is an allocation context entry the one whose grants carry a channel's bond-status frames (R168)? DESIGN CHOICE (log 13):
the spec does not say which queue serves the control port-ID; it is the first Alloc-ID that the group's CLASS_ALLOC names for
the channel, by class, and the default Alloc-ID where it names none. -/
def State.servesControl (s : State) (n i : Nat) : Bool :=
  match s.groupOf n with
  | none => (s.allocAt i).state == 3
  | some g =>
    match ((List.range 4).map (fun k => (s.group g).classAlloc k n)).find? (· != 0xFF) with
    | some j => i == j
    | none => (s.allocAt i).state == 3

/-- The control frames that wait for the grants of an entry: bond-status frames first, then OMCI messages on the OMCC port-ID,
which is the ONU-ID, in the default Alloc-ID's grants. -/
def State.controlOf (s : State) (n i : Nat) : List (Nat × List Byte) × List (Nat × List Byte) :=
  let c := s.ch n
  (if s.servesControl n i then c.statusQ else [],
   if (s.allocAt i).state = 3 then c.omciUp.map (fun d => (c.onuCode, d)) else [])

/-- Bytes of the DBRu field. -/
def dbruBytes : Nat := 4

/-- Frames that a level-2 node's queues hold. -/
def State.nodeFrames (s : State) (node : Nat) : List QFrame :=
  (List.range 8).flatMap (fun k => (s.sq (8 * node + k)).frames)

/-- Fill one grant (R149, R151): an Alloc-ID assigned and not committed carries idle frames. -/
def fillGrant (n key : Nat) (bad : List Nat) (g : Grant) (s : State) : Filled :=
  let space := g.size - (if g.dbru then dbruBytes else 0)
  match s.allocEntry n g.alloc with
  | none => idleFill s space
  | some i =>
    let a := s.allocAt i
    if a.state = 1 then
      let f := idleFill s space
      { f with s := f.s.setAlloc i { f.s.allocAt i with idle := ((f.s.allocAt i).idle + f.idle) % 2 ^ 64 } }
    else
      let c := s.ch n
      let w := s.controlOf n i
      let st := fillControl g.alloc key w.1 space
      let om := fillControl g.alloc key w.2 st.2.1
      let s := s.setCh n { c with
        statusQ := c.statusQ.drop (w.1.length - st.2.2.length), omciUp := c.omciUp.drop (w.2.length - om.2.2.length) }
      let f := match a.node with
        | some node => fillSpace n g.alloc key node bad (om.2.1 + (s.nodeFrames node).length) om.2.1 s
        | none => idleFill s om.2.1
      let sent := f.payload + (controlBytes w.1 - controlBytes st.2.2) + (controlBytes w.2 - controlBytes om.2.2)
      let x := f.s.allocAt i
      { f with
        s := f.s.setAlloc i { x with bytes := (x.bytes + sent) % 2 ^ 64, idle := (x.idle + f.idle) % 2 ^ 64 }
        parts := st.1 ++ om.1 ++ f.parts }

/-- Fill the grants of a burst in order; the parts stay with their grants. The last component are the buckets of the frames
completed. -/
def fillGrants (n key : Nat) (bad : List Nat) :
    List Grant → State → State × List (Grant × List BurstPart) × List (Nat × Nat)
  | [], s => (s, [], [])
  | g :: gs, s =>
    let f := fillGrant n key bad g s
    let r := fillGrants n key bad gs f.s
    (r.1, (g, f.parts) :: r.2.1, f.buckets ++ r.2.2)

/-- Occupancy of an Alloc-ID in reporting units (R151, R153, R154): its queues' frames, the frames that its grants carry
ahead of them, and a header for each. -/
def State.occupancy (s : State) (n i : Nat) : Nat :=
  let a := s.allocAt i
  if a.state = 1 then 0
  else
    let frames := match a.node with
      | some k => s.nodeFrames k
      | none => []
    let w := s.controlOf n i
    let bytes := (frames.map (fun x => xgemBytes x.frame - x.sent + xgemHeader)).sum +
      controlBytes (w.1 ++ w.2) + xgemHeader * (w.1 ++ w.2).length
    min (Config.dbruMax (s.ponMode n)) (ceilDiv bytes (Config.dbruUnit (s.ponMode n) + 1))

/-- The reports of a burst's grants, after its frames are chosen (R148, R153). -/
def reportGrants (n : Nat) : List (Grant × List BurstPart) → State → State × List BurstPart
  | [], s => (s, [])
  | (g, ps) :: gs, s =>
    match g.dbru, s.allocEntry n g.alloc with
    | true, some i =>
      let v := s.occupancy n i
      let r := reportGrants n gs (s.setAlloc i { s.allocAt i with dbru := v })
      (r.1, .dbru g.alloc v :: ps ++ r.2)
    | true, none =>
      let r := reportGrants n gs s
      (r.1, .dbru g.alloc 0 :: ps ++ r.2)
    | false, _ =>
      let r := reportGrants n gs s
      (r.1, ps ++ r.2)

/-- The PLOAMu of a burst: the message queued first, or the one the standard prescribes (R148). -/
def State.takePloamu (s : State) (n : Nat) : State × UpMsg :=
  let c := s.ch n
  match c.ploamUp with
  | [] => (s.ploamCopy n { kind := 5 }, { kind := 5 })
  | m :: ms => (s.setCh n { c with ploamUp := ms }, m)

/-- Count a burst answered for each of its Alloc-IDs. -/
def State.countGrants (s : State) (n : Nat) (b : List Grant) : State :=
  ((b.map (·.alloc)).eraseDups).foldl (fun s alloc => match s.allocEntry n alloc with
    | some i => s.setAlloc i { s.allocAt i with grants := ((s.allocAt i).grants + 1) % 2 ^ 64 }
    | none => s) s

/-- The XGEM payloads of a burst are encrypted under the current data key, each by its place (R149). -/
def cryptParts (key : Option (List Nat)) (mode sfc : Nat) : Nat → List BurstPart → List BurstPart
  | _, [] => []
  | i, .xgem a p k bs last :: ps =>
    .xgem a p k (match key with
      | some x => xgemCrypt x 1 mode sfc i bs
      | none => bs) last :: cryptParts key mode sfc (i + 1) ps
  | i, p :: ps => p :: cryptParts key mode sfc (i + 1) ps

/-- A burst profile of a channel. -/
def PonCh.profile (c : PonCh) (i : Nat) : Option Profile := c.profiles.find? (fun p => p.index.val == i)

/-- Profile index of a burst: its first grant's. -/
def BurstPlan.profileIx (p : BurstPlan) : Nat := (p.grants.head?.map (·.profile)).getD 0

/-- BURST_BUILD: the oldest accepted burst's contents, at a PKT cycle. key is the index of the current data key, 0 for
none; an Alloc-ID's frames go under it only while its slot's key can be read (R149, R500). ready says, of a waking
transmitter, that it is powered by the burst's first bit (R146). FEC parity follows the burst profile (R148). -/
def execBurstBuild (c : Fin 4) (cyc : Nat) (key : Fin 3) (bad : List Nat) (ready : Bool) (s : State) :
    Host.Outcome State Fault Refusal :=
  let n := c.val
  let s := s.pktTo cyc
  let x := s.ch n
  match x.bursts with
  | [] => .next s
  | p :: ps =>
    if p.built.isSome then .next s
    else if x.txPowered = false ∧ (x.txWaking && ready) = false then
      let s := s.setCh n { x with bursts := ps }
      .next (if x.lull ≠ .awake ∨ x.txWaking then s.bump (C.US_GRANT_SKIP n) else s)
    else
      let got := if key.val = 0 then (s, none) else s.readKey (dataSlot n key.val false)
      let k := if got.2.isSome then key.val else 0
      let first := p.grants.head?
      let um := if (first.map (·.ploamu)).getD false then
          let r := got.1.takePloamu n
          (r.1, [BurstPart.ploamu r.2])
        else (got.1, [])
      let f := fillGrants n k bad p.grants um.1
      let r := reportGrants n f.2.1 f.1
      let s := r.1.countGrants n p.grants
      let fec := ((x.profile p.profileIx).map (·.fec)).getD false
      let parts := .header p.profileIx :: um.2 ++ cryptParts got.2 (s.ponMode n) p.sfc 0 r.2 ++ [.trailer] ++
        (if fec then [.parity (s.ponMode n)] else [])
      .next (s.setCh n { s.ch n with bursts := { p with built := some parts, buckets := f.2.2 } :: ps })

/-- A PLOAMu with a Sleep_Request? -/
def BurstPart.asksSleep : BurstPart → Bool
  | .ploamu m => m.kind == 3
  | _ => false

/-- The last bit of the burst on the fibre has left (R147); a channel that asked for sleep in it goes to sleep (R134). -/
def State.burstEnds (s : State) (n : Nat) (p : BurstPlan) (rest : List BurstPlan) : State :=
  let s := s.setCh n { s.ch n with bursts := rest, burstOn := false }
  let s := s.emit (.pin "BEN_P" n (s.flag (F.PON_US_CFG_BEN_POL n)))
  if (s.ch n).sleepDue ∧ ((p.built.getD []).any BurstPart.asksSleep) then s.sleepNow n else s

/-- BURST_TRANSMIT (R145 to R147): with ends false, BEN becomes active and the built burst goes out at its profile's line
rate, or is dropped where the transmitter is not powered; with ends true, the burst on the fibre ends and BEN becomes
inactive. In a near-end serial loop BEN stays inactive (R323). -/
def execBurstTransmit (c : Fin 4) (ends : Bool) (s : State) : Host.Outcome State Fault Refusal :=
  let n := c.val
  let x := s.ch n
  match x.bursts with
  | [] => .next s
  | p :: ps =>
    if x.burstOn then (if ends then .next (s.burstEnds n p ps) else .next s)
    else if ends then .next s
    else match p.built with
    | none => .next s
    | some parts =>
      if s.nearLoop (40 + n) then .next (s.setCh n { x with bursts := ps })
      else if x.txPowered then
        let s := s.setCh n { x with burstOn := true }
        let s := s.burstRate n (((x.profile p.profileIx).map (·.rateKbps)).getD 0)
        let s := (s.emit (.pin "BEN_P" n (!s.flag (F.PON_US_CFG_BEN_POL n)))).emit (.burst n parts)
        .next (s.bump (C.US_BURSTS n))
      else
        let s := s.setCh n { x with bursts := ps }
        .next (if x.lull ≠ .awake ∨ x.txWaking then s.bump (C.US_GRANT_SKIP n) else s)

/-! Bonding downstream (R163 to R169). -/

/-- Does a tagged SDU break R163? -/
def BondCtx.tagBad (b : BondCtx) (bs : List Byte) : Bool :=
  decide (bs.length < 8) || beAt bs 0 1 != 1 || beAt bs 2 2 != b.groupId

/-- STATUS of a bond tag. -/
def tagStatus (bs : List Byte) : Bool := bit (beAt bs 1 1) 1
/-- LAST of a bond tag. -/
def tagLast (bs : List Byte) : Bool := bit (beAt bs 1 1) 0
/-- SEQ of a bond tag. -/
def tagSeq (bs : List Byte) : Nat := beAt bs 4 4 % 2 ^ 24

/-- Remember whether a member's latest tagged frame carried LAST (R165). -/
def BondCtx.noteLast (b : BondCtx) (ch : Nat) (last : Bool) : BondCtx :=
  { b with lastSeen := if last then setBit b.lastSeen ch else clrBit b.lastSeen ch }

/-- BOND_TAGGED_FRAME: the oldest SDU on a bonded port-ID, unless it is a bond-status frame (R163, R164). -/
def execBondTaggedFrame (s : State) : Host.Outcome State Fault Refusal :=
  match s.bonding.input with
  | [] => .next s
  | x :: xs =>
    let b := s.group x.group
    let bs := x.frame.bytes
    if b.tagBad bs then
      let s := { s with bonding := { s.bonding with input := xs } }
      .next ((s.bump (C.BOND_TAG_BAD x.group)).freeBuf x.frame.buf agBond x.group)
    else if tagStatus bs then .next s
    else
      let s := { s with bonding := { s.bonding with input := xs } }
      let s := (s.bump (C.BOND_TAGGED x.group)).setGroup x.group (b.noteLast x.ch (tagLast bs))
      let f := { x.frame with bytes := (bs.drop 8).take (bs.length - 12) }
      if b.enabled then .next (s.resequence x.group (tagSeq bs) f) else .next (s.toClassifier f)

/-- RESEQ_HOLD_TIMEOUT: a held frame of a group has waited HOLD_US (R165); waited is the longest wait in microseconds. -/
def execReseqHoldTimeout (g : Fin 4) (waited : Nat) (s : State) : Host.Outcome State Fault Refusal :=
  let g := g.val
  if (s.group g).held.isEmpty ∨ waited < (s.group g).holdUs then .next s
  else
    let r := s.skipOldest g
    .next ((r.1.raiseRow 0x0018 2 5 5 1 [(1, g), (1, 0), (4, r.2)]).releaseEarly g)

/-- The channels that a status body marks other than 0, by member slot (R167, R169). -/
def BondCtx.markedOut (b : BondCtx) (bs : List Byte) : Nat :=
  let ms := b.slots
  ((List.range ms.length).map (fun i => if beAt bs (10 + i) 1 = 0 then 0 else 2 ^ ((ms[i]?).getD 0))).sum

/-- BOND_STATUS_RECEIVE: the oldest SDU on a bonded port-ID is a bond-status frame that passes R163 (R166, R169). -/
def execBondStatusReceive (s : State) : Host.Outcome State Fault Refusal :=
  match s.bonding.input with
  | [] => .next s
  | x :: xs =>
    let g := x.group
    let b := s.group g
    let bs := x.frame.bytes
    if b.tagBad bs = false ∧ tagStatus bs then
      let s := { s with bonding := { s.bonding with input := xs } }
      let s := (s.bump (C.BOND_TAGGED g)).setGroup g { b.noteLast x.ch (tagLast bs) with outOfUse := b.markedOut bs }
      let s := s.freeBuf x.frame.buf agBond g
      let s := match b.queue with
        | some q => s.hostRecord q (24 + x.ch) bs
        | none => s
      let s := s.raiseRow 0x0018 3 5 6 1 ((1, g) :: (List.range 4).map (fun i => (1, beAt bs (10 + i) 1)))
      .next ((s.reevalGroup g).releaseEarly g)
    else .next s

/-! Context entries. -/

/-- Device half of an allocation context entry (Table 5-2). -/
def AllocCtx.deviceHalf (a : AllocCtx) : List Byte :=
  fitB 64 (leBytes 2 a.allocId ++ leBytes 1 a.channel ++ leBytes 1 a.state ++ leBytes 8 a.grants ++ leBytes 8 a.bytes ++
    leBytes 8 a.idle ++ leBytes 4 a.dbru ++ leBytes 4 a.lastSfc)

/-- Check of an allocation context half (R572, Table 5-2). -/
def allocCheck (s : State) (_ : List (List Byte)) (i : Nat) (h : List Byte) : Option Nat :=
  if (s.allocAt i).state = 0 then some stBadTarget
  else if 511 < leAt h 0 2 ∨ bitsOf (leAt h 2 1) 4 2 ≠ 0 ∨ (h.drop 3).any (fun b => b != 0) then some stBadParam
  else none

/-- Load an allocation context entry: state 1 moves to 2 (R572). -/
def loadAlloc (i : Nat) (h : List Byte) (s : State) : State :=
  let a := s.allocAt i
  s.setAlloc i { a with host := h, loaded := true, state := if a.state = 1 then 2 else a.state }

/-- ALLOC_CTX_LOAD (R571, R572). -/
def execAllocCtxLoad (p : Pkt) (s : State) : Host.Outcome State Fault Refusal :=
  runCmd 0x10F0 false (ctxLoadLen p) (p.target == 0) (fun _ s => ctxLoad p 0x6000 256 allocCheck loadAlloc s) p s

/-- ALLOC_CTX_READ (R573). -/
def execAllocCtxRead (p : Pkt) (s : State) : Host.Outcome State Fault Refusal :=
  runCmd 0x10F1 false (lenIs 1 p) (p.target == 0) (fun _ s =>
    ctxRead p 256 (fun s i => fitB 64 (s.allocAt i).host ++ fitB 64 (s.allocAt i).wb) s) p s

/-- Device half of a bond group context entry (Table 5-6). -/
def BondCtx.deviceHalf (b : BondCtx) : List Byte :=
  let map := ((List.range 64).map (fun k => b.bucket k % 4 * 4 ^ k)).sum
  fitB 64 (leBytes 4 (b.next % 2 ^ 24 + b2n b.nextSet * 2 ^ 31) ++ leBytes 1 (b.usAct + 16 * b.dsAct) ++
    (b.states.take 4).flatMap (leBytes 1) ++ leBytes 3 0 ++ leBytes 4 b.heldSize ++ leBytes 16 map)

/-- The bond group half in force at an index once the halves hs are loaded from an index. -/
def State.bondHalf (s : State) (first : Nat) (hs : List (List Byte)) (i : Nat) : List Byte :=
  if first ≤ i ∧ i < first + hs.length then (hs[i - first]?).getD [] else (s.group i).host

/-- ENABLE of a bond group half. -/
def bondEnable (h : List Byte) : Bool := bit (leAt h 3 1) 0
/-- MEMBERS of a bond group half. -/
def bondMembers (h : List Byte) : Nat := leAt h 2 1 % 16

/-- Check of a bond group half (R156, Table 5-6). -/
def bondCheck (first : Nat) (s : State) (hs : List (List Byte)) (i : Nat) (h : List Byte) : Option Nat :=
  let clash := (List.range 4).any (fun j => j != i && bondEnable (s.bondHalf first hs j) &&
    (bondMembers (s.bondHalf first hs j) &&& bondMembers h) != 0)
  if leAt h 2 1 / 16 ≠ 0 ∨ leAt h 3 1 / 16 ≠ 0 ∨ leAt h 13 3 ≠ 0 ∨ (h.drop 50).any (fun b => b != 0) then some stBadParam
  else if bondEnable h = false then none
  else if (chansOf (bondMembers h)).length < 2 ∨ clash ∨ leAt h 8 4 < 4096 ∨ 16777216 < leAt h 8 4 ∨ 15 < leAt h 12 1 ∨
      leAt h 32 2 < 1 ∨ 64 < leAt h 32 2 then some stBadParam
  else none

/-- The buckets of a group return to the channels that R158 gives them at CTX_LOAD, with their queued frames (R171). -/
def State.returnBuckets (s : State) (g : Nat) : State :=
  let b := s.group g
  let map := ctxLoadMap b.usAct b.members
  (List.range 64).foldl (fun s k => s.moveBucket g k (sparseGet (fun _ => 0) map k)) s

/-- Load a bond group context entry (R158, R164, R171): held frames are delivered in order, the bucket map is made
anew, and the next tagged data frame sets NEXT. An entry with ENABLE clear ends the group: its buckets return first. -/
def loadBond (g : Nat) (h : List Byte) (s : State) : State :=
  let s := (s.group g).held.foldl (fun s x => s.toClassifier x.frame) s
  let s := if (s.group g).enabled && !bondEnable h then s.returnBuckets g else s
  let old := s.group g
  let b : BondCtx := { old with host := h, enabled := bondEnable h, nextSet := false, held := [], lastSeen := 0 }
  if bondEnable h then
    let b := { b with outOfUse := if old.enabled then old.outOfUse else 0 }
    let us := chanMask (s.usActiveNow b)
    let map := ctxLoadMap us b.members
    (s.setGroup g { b with usAct := us, buckets := map, home := map }).reevalGroup g
  else s.setGroup g { b with usAct := 0, dsAct := 0, states := [0xFF, 0xFF, 0xFF, 0xFF], repeatLeft := 0,
                             outOfUse := 0 }

/-- BOND_CTX_LOAD (R156, R171, R571, R572). -/
def execBondCtxLoad (p : Pkt) (s : State) : Host.Outcome State Fault Refusal :=
  runCmd 0x11F0 false (ctxLoadLen p) (p.target == 0) (fun _ s =>
    ctxLoad p 0xE000 4 (bondCheck p.ctxFirst) loadBond s) p s

/-- BOND_CTX_READ (R573). -/
def execBondCtxRead (p : Pkt) (s : State) : Host.Outcome State Fault Refusal :=
  runCmd 0x11F1 false (lenIs 1 p) (p.target == 0) (fun _ s =>
    ctxRead p 4 (fun s i => fitB 64 (s.group i).host ++ fitB 64 (s.group i).wb) s) p s

/-- BOND_ME_CLASS (R170). -/
def execBondMeClass (p : Pkt) (s : State) : Host.Outcome State Fault Refusal :=
  runCmd 0x1101 false (lenIs 1 p) (p.target == 0) (fun _ s =>
    if 65535 < p.w 0 then refuse stBadParam s
    else finish { s with bonding := { s.bonding with meClass := p.w 0 } }) p s

/-- BOND_QUEUE: the host queue for status frames of a group (R169). -/
def execBondQueue (p : Pkt) (s : State) : Host.Outcome State Fault Refusal :=
  runCmd 0x1102 false (lenIs 1 p) (decide (p.target.toNat < 4)) (fun _ s =>
    if 63 < p.w 0 then refuse stBadParam s
    else finish (s.setGroup p.target.toNat { s.group p.target.toNat with queue := some (p.w 0) })) p s

/-- Copy the groups' live counts into a bank. -/
def State.bondCopy (s : State) (delta : Nat) : State :=
  (List.range 4).foldl (fun s g => s.copyBank delta (bondCtrs g)) s

/-- BOND_STAT_SNAP (R173). -/
def execBondStatSnap (s : State) : Host.Outcome State Fault Refusal := .next (s.bondCopy 0)

/-- BOND_STAT_INTERVAL_COPY (R90, R173). -/
def execBondStatIntervalCopy (s : State) : Host.Outcome State Fault Refusal :=
  let p := s.fld F.BOND_STAT_CTL_PERIOD
  if p ≠ 0 ∧ s.tick.count.toNat % (p * 48000) = 0 then .next (s.bondCopy 0x40) else .next s

/-- The device half of every context entry is written back (R573). -/
def State.writeBackContexts (s : State) : State :=
  if s.ddrReady then
    let s := s.sched.lines.foldl (fun s e =>
      let h := (s.lineCtx e.1).deviceHalf
      (s.setLine e.1 { s.lineCtx e.1 with wb := h }).ddrWrite (128 * e.1 + 64) h |>.1) s
    let s := s.alloc.foldl (fun s e =>
      let h := (s.allocAt e.1).deviceHalf
      (s.setAlloc e.1 { s.allocAt e.1 with wb := h }).ddrWrite (0x6000 + 128 * e.1 + 64) h |>.1) s
    (List.range 4).foldl (fun s g =>
      let h := (s.group g).deviceHalf
      (s.setGroup g { s.group g with wb := h }).ddrWrite (0xE000 + 128 * g + 64) h |>.1) s
  else s

/-! ENQUEUE. -/

/-- A frame that has entered an Alloc-ID queue wakes its channel (R137). -/
def State.wakeFor (s : State) (before node1 : Nat) : State :=
  if 24 ≤ node1 ∧ node1 ≤ 27 ∧ s.count C.SCH_ENQ ≠ before then s.wake (node1 - 24) 2 else s

/-- ENQUEUE: the oldest frame on its way to the queue manager enters a queue or is dropped, at a PKT cycle (R434 to R436,
R443 to R446, R449, R158, R159). -/
def execEnqueue (cyc : Nat) (s : State) : Host.Outcome State Fault Refusal :=
  match s.sched.arrivals with
  | [] => .next s
  | a :: as =>
    let s := ({ s with sched := { s.sched with arrivals := as } }).pktTo cyc
    let f := a.frame
    let before := s.count C.SCH_ENQ
    if a.node1 = 28 then .next (s.takeIn 28 (dqQueue a.dq) f none)
    else match a.group with
      | some g =>
        if (s.group g).enabled then
          let r := s.spreadFrame g f
          let n := r.2.1
          match r.1.bondNode (r.1.group g) f.bondClass n with
          | none => .next (r.1.noNode (24 + n) f.bondClass f)
          | some k => .next ((r.1.enqueueAt (24 + n) k f.bondClass f (some (g, r.2.2))).wakeFor before (24 + n))
        else .next (s.noNode (24 + (s.group g).bucket (f.hash % 64)) f.bondClass f)
      | none =>
        let x := s.selectNode a.node1 f
        .next ((s.enqueueAt a.node1 x.2 x.1 f none).wakeFor before a.node1)

end Sys2Proof.Machine
end

