-- ==== Sys2Proof/Machine/Groups.lean ====
section
/-! DEFINITION. Commands of the Vector-group group, and the tick DMA's steps (chapters 06 and 08). Choices: log 17. -/

namespace Sys2Proof.Machine

/-! VG_DEFINE (R250 to R255, R292, R307). -/

/-- Byte i of a payload. -/
def byteAt (bs : List Byte) (i : Nat) : Nat := leAt bs i 1

/-- The definition a VG_DEFINE payload spells (Table 8-2). -/
def groupOf (bs : List Byte) : Group :=
  let p := byteAt bs 6
  let n := byteAt bs 5
  { state := 1, profile := byteAt bs 1, lines := leAt bs 2 2, mds := byteAt bs 4, fbTiles := byteAt bs 7,
    firstTone := leAt bs 8 2, spadBase := leAt bs 12 2, kernel := leAt bs 14 2
    ports := (List.range p).map (fun i => ⟨byteAt bs (16 + 4 * i), byteAt bs (17 + 4 * i), byteAt bs (18 + 4 * i)⟩)
    tgs := (List.range n).map (fun k =>
      { eng := byteAt bs (16 + 4 * p + 4 * k), tones := leAt bs (18 + 4 * p + 4 * k) 2 }) }

/-- Port entries that carry line i. -/
def Group.carriers (x : Group) (i : Nat) : Nat :=
  (x.ports.filter (fun p => decide (p.first ≤ i) && decide (i < p.first + p.count))).length

/-- Is a definition within its ranges: R250, R254, R292, R307 and Table 8-2, the bytes that the table gives as 0 among them? -/
def State.defineOk (s : State) (bs : List Byte) (x : Group) : Bool :=
  let n := x.lines
  let fdd := fddProfile x.profile
  decide (byteAt bs 0 ≤ 3) && decide (x.profile ≤ 4) && decide (1 ≤ n ∧ n ≤ profileLines x.profile) &&
  (if fdd then x.mds == 0 else decide (1 ≤ x.mds ∧ x.mds ≤ 34)) &&
  decide (1 ≤ x.tgs.length ∧ x.tgs.length ≤ 96) && decide (1 ≤ x.ports.length ∧ x.ports.length ≤ 16) &&
  decide (x.fbTiles ≤ 32) && decide (1 ≤ leAt bs 10 2 ∧ leAt bs 10 2 + x.firstTone ≤ profileTones x.profile) &&
  x.spadBase % 32 == 0 && decide ((x.tgs.map (fun t => t.tones)).sum = leAt bs 10 2) &&
  (List.range n).all (fun i => x.carriers i == 1) && x.ports.all (fun p => decide (p.first + p.count ≤ n)) &&
  x.ports.all (fun p => decide (p.port < 16)) && decide ((x.ports.map (fun p => p.port)).Nodup) &&
  x.tgs.all (fun t => decide (t.eng < 96) && decide (1 ≤ t.tones ∧ t.tones ≤ 2048)) &&
  decide ((x.tgs.map (fun t => t.eng)).Nodup) &&
  (x.ports.take (x.ports.length - 1)).all (fun p => x.tgs.all (fun t => p.count * t.tones % 8 == 0)) &&
  x.ports.all (fun p => s.fld (F.SVL_PORT_CFG_LINES p.port) == p.count) &&
  (List.range x.ports.length).all (fun i => byteAt bs (19 + 4 * i) == 0) &&
  (List.range x.tgs.length).all (fun k => byteAt bs (17 + 4 * x.ports.length + 4 * k) == 0)

/-- Do the limits of R251 hold with a definition of group g? A RETIRED engine belongs to no group (Table 6-7). -/
def State.defineFits (s : State) (g : Nat) (x : Group) : Bool :=
  let others := (List.range 4).filter (fun h => h != g && (s.vg h).state != 0)
  let load := fun (y : Group) => if fddProfile y.profile then y.lines else 2 * y.lines
  decide (load x + (others.map (fun h => load (s.vg h))).sum ≤ 192) &&
  others.all (fun h => (s.vg h).ports.all (fun p => x.ports.all (fun q => p.port != q.port)) &&
    (s.vg h).tgs.all (fun t => x.tgs.all (fun u => t.eng != u.eng))) &&
  x.tgs.all (fun t => (s.eng t.eng).spareOf.isNone && (s.eng t.eng).st != .retired)

/-- The partition epoch of a new definition (R198). -/
def State.nextEpoch (s : State) (g : Nat) : Nat :=
  let old := (s.vg g).epoch
  let hi := s.jrn.core.start % 65536
  hi * 65536 + (if old / 65536 = hi then (old % 65536 + 1) % 65536 else 1)

/-- VG_DEFINE (R250 to R255, R257). -/
def execVgDefine (p : Pkt) (s : State) : Host.Outcome State Fault Refusal :=
  let bs := p.bytes
  let want := 4 + byteAt bs 5 + byteAt bs 6
  runCmd 0x2001 false (if 4 ≤ p.length then lenIs want p else some 4) (p.target == 0) (fun _ s =>
    let g := byteAt bs 0
    let x := groupOf bs
    if s.defineOk bs x = false then refuse stBadParam s
    else if s.groupRuns g then refuse stBusy s
    else if s.defineFits g x = false then refuse stNoResource s
    else
      match s.ladderTests x with
      | some st => refuse st s
      | none =>
        let s := s.setVg g { x with epoch := s.nextEpoch g, fences := (s.vg g).fences }
        finish ((List.range x.tgs.length).foldl (fun s k =>
          (List.range 6).foldl (fun s i => s.setFld (F.VE_BUF_BASE (x.tg k).eng i) (x.bufBase k i / 32)) s) s)) p s

/-! VG_LADDER (R256, R257). -/

/-- Entry k of a ladder payload (Table 8-3). -/
def rungEntry (bs : List Byte) (k : Nat) : RungTg :=
  ⟨byteAt bs (4 + 16 * k), leAt bs (8 + 16 * k) 4, leAt bs (12 + 16 * k) 4, leAt bs (16 + 16 * k) 4⟩

/-- The bytes that Table 8-3 gives as 0, for n tone groups. -/
def rungZeros (bs : List Byte) (n : Nat) : Bool :=
  leAt bs 2 2 == 0 && (List.range n).all (fun k => leAt bs (5 + 16 * k) 3 == 0)

/-- VG_LADDER: while the group runs, a replacement waits for its boundary; rung 7 is not replaced then (R256). -/
def execVgLadder (p : Pkt) (s : State) : Host.Outcome State Fault Refusal :=
  let bs := p.bytes
  let g := byteAt bs 0
  let x := s.vg g
  let n := x.tgs.length
  runCmd 0x2002 false
    (if g ≤ 3 ∧ x.state ≠ 0 then lenIs (1 + 4 * n) p else if 1 ≤ p.length then none else some 1) (p.target == 0) (fun _ s =>
    let grade := byteAt bs 1
    if 3 < g ∨ x.state = 0 ∨ 7 < grade ∨ rungZeros bs n = false then refuse stBadParam s
    else if s.groupRuns g ∧ grade = 7 then refuse stBusy s
    else
      let r := (List.range n).map (rungEntry bs)
      let x := s.vg g
      let x' := if s.groupRuns g then
          { x with nextRungs := x.nextRungs.filter (fun q => q.1 != grade) ++ [(grade, r, s.tick.count.toNat)] }
        else { x with rungs := sparseSet (fun _ => []) x.rungs grade r }
      match s.ladderTests x' with
      | some st => refuse st s
      | none => finish (s.setVg g x')) p s

/-- Checks 3 to 7 of R258: the status of the first that fails. lostOk: a lost slab passes check 6, as it does when an exit from
OVERCAST restarts the group (R538: a slab that wakes lost is handled once its group runs). -/
def State.startChecks (s : State) (g : Nat) (lostOk : Bool := false) : Option Nat :=
  let x := s.vg g
  if x.loaded.length ≠ 8 then some stBusy
  else
    match s.ladderTests x with
    | some st => some st
    | none =>
      match s.tick.st with
      | .free => some stBusy
      | .acquire => some stBusy
      | _ =>
        if x.tgs.all (fun t => (s.eng t.eng).st == .stopped && (s.eng t.eng).loaded && (s.eng t.eng).kernel == some x.kernel &&
            ((s.eng t.eng).slab.ready || (lostOk && (s.eng t.eng).slab.lost))) = false then some stBusy
        else if x.ports.all (fun p => (s.svlPort p.port).state == 3) = false then some stBusy
        else none

/-- Does TARGET name a group number? -/
def Pkt.vgOk (p : Pkt) : Bool := decide (p.target.toNat < 4)

/-- VG_START (R258, R561). -/
def execVgStart (p : Pkt) (s : State) : Host.Outcome State Fault Refusal :=
  runCmd 0x2003 true (lenIs 0 p) p.vgOk (fun id s =>
    let g := p.target.toNat
    let x := s.vg g
    if s.overcast then refuse stBusy s
    else if x.state = 0 then refuse stBadTarget s
    else if s.groupRuns g then refuse stBusy s
    else
      match s.startChecks g with
      | some st => refuse st s
      | none =>
        .fin (State.setRunning (s.setVg g { x with
          state := 2, startAt := s.tick.count.toNat, startCmd := some (p.func.val, id), stopAt := none, stopCmd := none })) ⟨stAccepted, 0, []⟩) p s

/-- VG_STOP (R259). -/
def execVgStop (p : Pkt) (s : State) : Host.Outcome State Fault Refusal :=
  runCmd 0x2004 true (lenIs 0 p) p.vgOk (fun id s =>
    let g := p.target.toNat
    let x := s.vg g
    if x.state = 0 then refuse stBadTarget s
    else if x.state = 1 ∨ x.state = 4 ∨ x.stopAt.isSome then refuse stBusy s
    else
      .fin (s.setVg g { x with
        state := if x.state = 3 then 4 else x.state
        stopAt := some s.tick.count.toNat
        stopCmd := some (p.func.val, id) }) ⟨stAccepted, 0, []⟩) p s

/-! VG_PARAM (R263). -/

/-- Engines that an engine mask index and a mask name. -/
def maskEngines (i m : Nat) : List Nat := ((List.range 32).filter (fun b => m.testBit b)).map (fun b => 32 * i + b)

/-- Does a block overlap the buffers of the tone group an engine serves (R255, R263)? -/
def State.overlapsBuf (s : State) (e addr n : Nat) : Bool :=
  match s.serves e with
  | some (g, k) => decide (addr < (s.vg g).bufEnd k) && decide ((s.vg g).spadBase < addr + n)
  | none => false

/-- VG_PARAM (R263): it ends once every engine holds the block. -/
def execVgParam (p : Pkt) (s : State) : Host.Outcome State Fault Refusal :=
  runCmd 0x2005 false (lenIn 4 1002 p) (decide (p.target.toNat < 3)) (fun id s =>
    let addr := p.w 0
    let es := maskEngines p.target.toNat (p.w 1)
    let block := p.bytes.drop 8
    if 0x20000 < addr + block.length ∨ es.any (fun e => s.overlapsBuf e addr block.length) then refuse stBadParam s
    else .later (s.setVec { s.vec with params := s.vec.params ++ [⟨es, addr, block, p.func.val, id, false⟩] })) p s

/-- Write bytes into a scratchpad: a part of a codeword is merged into the word as decoded, one that does not decode stays;
fuel bounds the codewords. -/
def Eng.putBytes : Nat → Eng → Nat → List Byte → Eng
  | 0, x, _, _ => x
  | n + 1, x, addr, bs =>
    if bs.isEmpty then x
    else
      let i := addr / 32
      let off := addr % 32
      let part := bs.take (32 - off)
      let w := x.spadWord i
      let x := match decodeWord w, part.length == 32 with
        | .bad, false => x
        | _, _ => x.setSpad i (encodeWord (ofLe (spliceB (dataBytes (deliveredData w)) off part)))
      Eng.putBytes n x (addr + part.length) (bs.drop part.length)

/-- VG_PARAM_DONE: the oldest block under way is whole in every engine (R263). -/
def execVgParamDone (s : State) : Host.Outcome State Fault Refusal :=
  match s.vec.params with
  | [] => .next s
  | j :: js =>
    if j.begun then
      let s := j.engines.foldl (fun s e =>
        (s.setEng e (Eng.putBytes 127 (s.eng e) j.addr j.block)).injectEng 5 e (j.addr / 32)) s
      let s := s.setVec { s.vec with params := js }
      .next (s.endLater j.func j.id ⟨stDone, 0, []⟩)
    else .next s

/-! Fences (R264 to R266). -/

/-- Stage words of 36 bytes each, index and data, while the fence has room: the fence, and whether all found it. -/
def stageWords (m : Sparse (Option Nat)) : List Byte → Nat → Sparse (Option Nat) × Bool
  | _, 0 => (m, true)
  | bs, n + 1 =>
    let i := leAt bs 0 2
    if (sparseGet (fun _ => none) m i).isNone && decide (512 ≤ m.length) then (m, false)
    else stageWords (sparseSet (fun _ => none) m i (some (leAt bs 4 32))) (bs.drop 36) n

/-- VG_FENCE_WORDS (R264). -/
def execVgFenceWords (p : Pkt) (s : State) : Host.Outcome State Fault Refusal :=
  runCmd 0x2006 false (if 9 ≤ p.length ∧ p.length % 9 = 0 then none else some 9) (decide (p.target.toNat < 96)) (fun _ s =>
    match s.serves p.target.toNat with
    | none => refuse stBadTarget s
    | some (g, k) =>
      let t := (s.vg g).tg k
      if t.commit.isSome then refuse stBusy s
      else
        match stageWords t.staged p.bytes (p.length / 9) with
        | (m, ok) =>
          let s := s.modTg g k (fun t => { t with staged := m })
          if ok then finish s else refuse stNoResource s) p s

/-- VG_FENCE_ABORT (R264). -/
def execVgFenceAbort (p : Pkt) (s : State) : Host.Outcome State Fault Refusal :=
  runCmd 0x2008 false (lenIs 0 p) (decide (p.target.toNat < 96)) (fun _ s =>
    match s.serves p.target.toNat with
    | none => refuse stBadTarget s
    | some (g, k) =>
      if ((s.vg g).tg k).commit.isSome then refuse stBusy s
      else finish (s.modTg g k (fun t => { t with staged := [] }))) p s

/-- VG_FENCE_COMMIT (R265): pairs of a tone group and a version. -/
def execVgFenceCommit (p : Pkt) (s : State) : Host.Outcome State Fault Refusal :=
  runCmd 0x2007 true (lenIn 1 96 p) p.vgOk (fun id s =>
    let g := p.target.toNat
    let x := s.vg g
    let ps := p.payload.map (fun w => (w.toNat % 256, w.toNat / 65536))
    let ks := ps.map (fun q => q.1)
    if x.state = 0 then refuse stBadTarget s
    else if ks.any (fun k => decide (x.tgs.length ≤ k)) ∨ decide ks.Nodup = false then refuse stBadParam s
    else if ks.any (fun k => (x.tg k).commit.isSome || !(s.eng (x.tg k).eng).slab.overlay.isEmpty) then refuse stBusy s
    else
      let s := ps.foldl (fun s q => s.modTg g q.1 (fun t => { t with commit := some q.2 })) s
      .fin (s.setVg g { s.vg g with fences := (s.vg g).fences ++ [⟨ks, s.tick.count.toNat, p.func.val, id⟩] }) ⟨stAccepted, 0, []⟩) p s

/-- FENCE_DRAIN_WORD: the lowest word of an overlay reaches its slab in a cycle that leaves the slab free (R266). -/
def execFenceDrainWord (e : Fin 96) (s : State) : Host.Outcome State Fault Refusal :=
  let e := e.val
  let x := s.eng e
  match x.slab.overlay with
  | (i, some d) :: rest =>
    if x.slab.ready ∧ (x.st != .running || x.wait.isSome || x.cFree) then
      let b := { x.slab.setWord i (encodeWord d) with overlay := rest }
      .next ((s.setEng e { x with slab := b, cFree := false }).injectEng 4 e i |>.settleSlab e)
    else .next s
  | _ => .next s

/-- VG_TG_RELEASE (R268). -/
def execVgTgRelease (p : Pkt) (s : State) : Host.Outcome State Fault Refusal :=
  runCmd 0x2009 false (lenIs 0 p) (decide (p.target.toNat < 96)) (fun _ s =>
    match s.serves p.target.toNat with
    | none => refuse stBadTarget s
    | some (g, k) =>
      if ((s.vg g).tg k).est then finish (s.modTg g k (fun t => { t with relAt := some s.tick.count.toNat }))
      else refuse stBusy s) p s

/-- VG_UNDEFINE (R207, Table 20-6). -/
def execVgUndefine (p : Pkt) (s : State) : Host.Outcome State Fault Refusal :=
  runCmd 0x200A false (lenIs 0 p) p.vgOk (fun _ s =>
    let g := p.target.toNat
    if (s.vg g).state = 0 then refuse stBadTarget s
    else if s.groupRuns g then refuse stBusy s
    else
      let s := (s.engsWith (fun x => x.spareOf == some g)).foldl (fun s e =>
        (s.setEng e { s.eng e with spareOf := none, st := if (s.eng e).st = .spare then .stopped else (s.eng e).st }).leaveOff e) s
      finish (s.setVg g { epoch := (s.vg g).epoch, fences := (s.vg g).fences })) p s

/-- VG_THAW (R575, Table 20-11). -/
def execVgThaw (p : Pkt) (s : State) : Host.Outcome State Fault Refusal :=
  runCmd 0x200B false (lenIs 0 p) p.vgOk (fun _ s =>
    let g := p.target.toNat
    if (s.vg g).state = 0 then refuse stBadTarget s else finish (s.setVg g { s.vg g with frozen := false })) p s

/-- VS_CUTOFF: a new cut-off waits for its boundary (R275). -/
def execVsCutoff (p : Pkt) (s : State) : Host.Outcome State Fault Refusal :=
  runCmd 0x200C false (lenIs 1 p) (p.target == 0) (fun _ s =>
    if 2047 < p.w 0 % 65536 then refuse stBadParam s
    else
      let s := s.wrRw R.VS_CUTOFF (p.w 0)
      finish (s.setVec { s.vec with cutAt := some s.tick.count.toNat })) p s

/-! The tick DMA (R187, R188). -/

/-- Is the symbol computed still owed tiles for tone group k and port entry q? -/
def Group.owed (x : Group) (k q : Nat) : Bool :=
  match x.comp with
  | some y => decide (y.written k q < x.tiles q k + x.fbTiles)
  | none => false

/-- DMA_TILE_WRITE: the next incoming tile of tone group k of group g from port entry q (R187, R188); the last one of the symbol
arriving now sets cause 1 (Table 7-9). -/
def execDmaTileWrite (g : Fin 4) (k : Fin 96) (q : Fin 16) (s : State) : Host.Outcome State Fault Refusal :=
  let x := s.vg g.val
  if x.tgs.length ≤ k.val ∨ x.ports.length ≤ q.val then .next s
  else if x.owed k.val q.val then
    match x.comp with
    | none => .next s
    | some y =>
      match s.dmaWrite g.val k.val q.val y with
      | none => .next s
      | some (s, y) => .next (s.setVg g.val { s.vg g.val with comp := some y })
  else
    match x.inc with
    | none => .next s
    | some y =>
      match s.dmaWrite g.val k.val q.val y with
      | none => .next s
      | some (s, y) =>
        let s := s.setVg g.val { s.vg g.val with inc := some y }
        .next (if x.allWritten y k.val then s.raiseIp (y.eng k.val) 1 else s)

/-- DMA_TILE_READ: the next outgoing tile of tone group k of group g for port entry q (R187, R188, R192). -/
def execDmaTileRead (g : Fin 4) (k : Fin 96) (q : Fin 16) (s : State) : Host.Outcome State Fault Refusal :=
  let x := s.vg g.val
  if x.tgs.length ≤ k.val ∨ x.ports.length ≤ q.val then .next s
  else
    match x.outg with
    | none => .next s
    | some y =>
      match s.dmaRead g.val k.val q.val y with
      | none => .next s
      | some (s, y) => .next (s.setVg g.val { s.vg g.val with outg := some y })

end Sys2Proof.Machine
end

