-- ==== Sys2Proof/Machine/PowerOps.lean ====
section
/-! DEFINITION. The power and budget controller's operations: registers, rails, entry to OVERCAST and DARK, unwinding, leaving
OVERCAST, waking from DARK, squall and grade (chapter 19). Choices: log 27. -/

namespace Sys2Proof.Machine

/-! Register fields whose other values act as a default (Table 19-9). -/

/-- UP_MARGIN in 0.1 W. -/
def State.upMargin (s : State) : Nat :=
  let v := s.fld F.PWR_BUDGET_CFG_UP_MARGIN
  if v = 0 then 10 else v
/-- DOWN_MARGIN in 0.1 W. -/
def State.downMargin (s : State) : Nat :=
  let v := s.fld F.PWR_BUDGET_CFG_DOWN_MARGIN
  if v = 0 then 30 else v
/-- DOWN_HOLD in vector cycles. -/
def State.downHold (s : State) : Nat := max 1 (s.fld F.PWR_BUDGET_CFG_DOWN_HOLD)
/-- SQUALL_HOLD in vector cycles. -/
def State.squallHold (s : State) : Nat :=
  let v := s.fld F.PWR_BUDGET_CFG_SQUALL_HOLD
  if v = 0 then 8 else v
/-- TEMP_TARGET in degrees. -/
def State.tempTarget (s : State) : Nat :=
  let v := s.fld F.PWR_THERM_CFG_TEMP_TARGET
  if 85 ≤ v ∧ v ≤ 110 then v else 105
/-- TEMP_TRIP in degrees. -/
def State.tempTrip (s : State) : Nat :=
  let v := s.fld F.PWR_THERM_CFG_TEMP_TRIP
  if s.tempTarget + 1 ≤ v ∧ v ≤ 120 then v else 112
/-- TEMP_CRIT in degrees. -/
def State.tempCrit (s : State) : Nat :=
  let v := s.fld F.PWR_THERM_CFG_TEMP_CRIT
  if s.tempTrip + 1 ≤ v ∧ v ≤ 125 then v else 120
/-- HYST in degrees. -/
def State.hyst (s : State) : Nat :=
  let v := s.fld F.PWR_THERM_CFG_HYST
  if v = 0 then 5 else v
/-- FLOOR of HAZE. -/
def State.hazeFloor (s : State) : Nat := min 6 (s.fld F.PWR_HAZE_CFG_FLOOR)

/-- The grade that a boundary delivers from a computed one in a power state (R543). -/
def State.floored (s : State) (state g : Nat) : Nat := if state = 1 then max g s.hazeFloor else g

/-- The register image of PWR_STATUS. -/
def Power.statusWord (p : Power) : Nat :=
  p.state * 2 ^ 30 + p.target * 2 ^ 28 + p.step * 2 ^ 24 + b2n p.busy * 2 ^ 23 + b2n (p.causes != 0) * 2 ^ 22 + p.causes * 2 ^ 19

/-! Rails (R529, R530, R610). Numbers: 0 VDD_CORE, 1 VDD_VE, 2 VDD_SRAM, 4 AVDD_LANE, 5 AVDDH_LANE, 6 AVDD_PON, 7 AVDDH_PON,
8 VDDQ, 9 VDD_IO. -/

/-- Millivolts of a rail that is on. -/
def State.railMv (s : State) (low : Bool) (r : Nat) : Nat :=
  let drop := if low then 50 else 0
  match r with
  | 0 => Config.coreMillivolts - drop
  | 1 => Config.veMillivolts s.vec.clock - drop
  | 2 => 800
  | 4 => 900
  | 5 => 1200
  | 6 => 900
  | 8 => 1200
  | _ => 1800

/-- Rails of a sequence group that are requested (R609). -/
def railGroup (g : Nat) : List Nat := if g = 2 then [0, 2] else if g = 3 then [1, 4, 6, 9] else if g = 4 then [5, 7, 8] else []

/-- Rails of a group that a request can reach: those on AVSBus, and those for which the board table names a regulator; VDDQ stays
on while DDR4 is in self-refresh. -/
def State.railsOf (s : State) (g : Nat) : List Nat :=
  (railGroup g).filter (fun r => (decide (r ≤ 1) || s.pwr.rails.testBit r) && !(r == 8 && s.mem.selfRefresh))

/-- The last sequence group with a rail that a request reaches. -/
def State.topGroup (s : State) : Nat := if (s.railsOf 4).isEmpty then 3 else 4

/-- Ask for the rails of a group, on or off. -/
def State.askGroup (s : State) (g : Nat) (on : Bool) : State :=
  (s.railsOf g).foldl (fun s r =>
    s.emit (.regulator r (if on then s.railMv s.jrn.core.avsLow r else 0))) s

/-- Ask for VDD_VE at the voltage of an engine clock, or off. -/
def State.askVe (s : State) (mv : Nat) : State := s.emit (.regulator 1 mv)

/-! Entry to OVERCAST and DARK (R534 to R537). -/

/-- The channel that AWAKE names; 4 for none (Table 19-3). -/
def State.awakeChannel (s : State) (a : Nat) : Nat := if a ≤ 3 then a else if s.tick.hasMaster then s.tick.master else 4

/-- Groups of a mask. -/
def groupsOf (m : Nat) : List Nat := (List.range 4).filter (fun g => m.testBit g)

/-- The mask of the groups that meet a test. -/
def State.groupMask (s : State) (f : Group → Bool) : Nat :=
  (List.range 4).foldl (fun m g => if f (s.vg g) then m + 2 ^ g else m) 0

/-- A group stops as VG_STOP stops it, for no command (R259, R534). -/
def State.stopGroup (s : State) (g : Nat) : State :=
  let x := s.vg g
  if (x.state = 2 ∨ x.state = 3) ∧ x.stopAt.isNone then
    s.setVg g { x with state := if x.state = 3 then 4 else x.state, stopAt := some s.tick.count.toNat, stopCmd := none }
  else s

/-- Step 1 of Table 19-4 for OVERCAST. -/
def State.overcastStep1 (s : State) (awake : Nat) : State :=
  let restart := s.groupMask (fun x => (x.state == 2 || x.state == 3) && x.stopAt.isNone)
  let ckpts := s.groupMask (fun x => decide (2 ≤ x.state))
  let s := s.setPwr { s.pwr with
    groups := restart, ckpts := ckpts, policies := (List.range 4).map (fun n => (s.ch n).lullPolicy), drained := false,
    ckptDone := false, modes := [] }
  let s := (List.range 4).foldl (fun s g => s.stopGroup g) s
  let a := s.awakeChannel awake
  let s := (List.range 4).foldl (fun s n => if n = a then s else s.setLullPolicy n 2) s
  s.limitPools true

/-- An entry begins (R534). -/
def State.startEntry (s : State) (target awake : Nat) (selfRef : Bool) (cmd : Option (Nat × Nat)) : State :=
  let p := s.pwr
  let s := s.setPwr { p with
    target := target, step := 1, busy := true, exiting := false, from_ := p.state, part := 0, acked := false, tries := 0,
    unwind := 0, failed := false, cmd := cmd, wake := none, wakeCmd := none, startTick := s.tick.count.toNat, awake := awake
    selfRef := selfRef }
  if p.state = 2 then s.setPwr { s.pwr with drained := true, ckptDone := true } else s.overcastStep1 awake

/-- The move in progress is over: the controller is idle in a state. -/
def State.moveOver (s : State) (state : Nat) : State :=
  s.setPwr { s.pwr with
    state := state, target := state, step := 0, busy := false, exiting := false, part := 0, acked := false, tries := 0, unwind := 0
    failed := false, hazeAt := none, cmd := none, wake := none, wakeCmd := none }

/-- Duration of the move in µs: a tick lasts 125/6 µs. -/
def State.moveUs (s : State) : Nat := (s.tick.count.toNat - s.pwr.startTick) * 125 / 6

/-- A command of the Power group completes, after the events from number n on (R559). -/
def State.completeCmd (s : State) (c : Option (Nat × Nat)) (n status : Nat) : State :=
  match c with
  | some (f, id) => s.complete f id n status 0
  | none => s

/-- A target state is reached: the event, the command (R533, R547). -/
def State.reached (s : State) (state : Nat) : State :=
  let cmd := s.pwr.cmd
  let old := s.pwr.from_
  let us := s.moveUs
  let n := s.arb.raised
  let s := (s.moveOver state).lanesEval
  let s := s.aonEvent 3 19 9 [(1, old), (1, state), (4, us)]
  s.completeCmd cmd n stDone

/-- A group restarts as VG_START starts it; a refusal is told (R538). -/
def State.restartGroup (s : State) (g : Nat) : State :=
  let x := s.vg g
  if x.state ≠ 1 then s
  else
    match s.startChecks g true with
    | some st => s.aonEvent 1 19 6 [(1, g), (1, st)]
    | none =>
      State.setRunning (s.setVg g { x with
        state := 2, startAt := s.tick.count.toNat, startCmd := none, stopAt := none, stopCmd := none })

/-- Host software's LULL policies stand again. -/
def State.restorePolicies (s : State) : State :=
  (List.range 4).foldl (fun s n => s.setLullPolicy n ((s.pwr.policies[n]?).getD 0)) s

/-- Groups that ran at entry restart. -/
def State.restartGroups (s : State) : State := (groupsOf s.pwr.groups).foldl (fun s g => s.restartGroup g) s

/-- Step 3 of Table 19-4 for OVERCAST: slabs that serve tone groups enter RETAIN, the others OFF; the modes are remembered. -/
def State.slabsDown (s : State) : State :=
  let s := s.setPwr { s.pwr with modes := (List.range 96).map (fun e => (e, (s.eng e).slab.mode)) }
  (List.range 96).foldl (fun s e =>
    s.setSlab e ((s.eng e).slab.setMode e (if (s.serves e).isSome then 1 else 0))) s

/-- Step 3 is undone: each slab takes the mode it had, as Table 6-6 gives: one in RETAIN is checked and scrubbed, one that was
OFF is filled anew. -/
def State.slabsUndo (s : State) : State :=
  s.pwr.modes.foldl (fun (s : State) (m : Nat × Nat) => s.setSlab m.1 ((s.eng m.1).slab.setMode m.1 m.2)) s

/-- Is a slab being filled or scrubbed? -/
def State.slabsWaking (s : State) : Bool :=
  (List.range 96).any (fun e => (s.eng e).slab.work == .zeroFill || (s.eng e).slab.work == .wakeScrub)

/-- Ask VDD_VE on at the voltage for the clock of the grade to be applied. -/
def State.askVeOn (s : State) : State :=
  s.askVe (Config.veMillivolts (gradeClock (s.floored s.pwr.target s.pwr.computed)))

/-- An exit begins. -/
def State.startExit (s : State) (target : Nat) (cmd : Option (Nat × Nat)) : State :=
  (s.setPwr { s.pwr with
    target := target, step := 0, busy := true, exiting := true, from_ := 2, part := 1, acked := false, tries := 0, unwind := 0
    cmd := cmd, wake := none, wakeCmd := none, startTick := s.tick.count.toNat }).askVeOn

/-- What host software's command that unwound an entry asks for is reached, or begins (R533, R536). -/
def State.wakeCmdGo (s : State) (w : WakeCmd) (n : Nat) : State :=
  let at_ := s.pwr.state
  let cmd := some (w.func, w.id)
  if w.target = at_ then s.completeCmd cmd n stDone
  else if w.target ≤ 1 ∧ at_ ≤ 1 then
    s.setPwr { s.pwr with
      target := w.target, busy := true, from_ := at_, hazeAt := some s.tick.count.toNat, cmd := cmd
      startTick := s.tick.count.toNat }
  else if at_ < w.target then s.startEntry w.target w.awake w.selfRef cmd
  else s.startExit w.target cmd

/-- The undoing ends: the state before the entry holds, as if none had begun (R536); what the entry's command and a command that
caused the unwinding then get. point is the abort point. -/
def State.undoEnds (s : State) (point : Nat) : State :=
  let p := s.pwr
  let s := s.setMem { s.mem with selfRefresh := false }
  let s := if p.from_ = 2 then s
    else
      let s := (s.limitPools false).restorePolicies
      s.restartGroups
  let n := s.arb.raised
  let s := if p.failed then s
    else (s.bump C.PWR_ABORTS).aonEvent 2 19 7 [(1, p.target), (1, point), (1, p.wake.getD 0)]
  let s := s.moveOver p.from_
  let status := if p.failed then stTimeout else (Config.abortedStatus s.freeCtr).toNat
  let s := s.nextFree.completeCmd p.cmd n status
  let s := match p.wakeCmd with
    | none => s
    | some w => s.wakeCmdGo w n
  s.lanesEval

/-- The completed steps are undone from an abort point: after step 3 of an OVERCAST entry the slabs wake first (R536). -/
def State.entryUndone (s : State) (point : Nat) : State :=
  let p := s.pwr
  if 3 ≤ p.step ∧ p.target = 2 then
    let s := s.slabsUndo
    if s.slabsWaking then s.setPwr { s.pwr with unwind := point, step := 1, part := 9 } else s.undoEnds point
  else s.undoEnds point

/-- The slabs of an unwinding are READY or lost: it ends. -/
def State.undoGo (s : State) : State :=
  let p := s.pwr
  if p.busy ∧ p.exiting = false ∧ p.unwind ≠ 0 ∧ p.part = 9 ∧ s.slabsWaking = false then s.undoEnds p.unwind else s

/-- The rails that step 4 asks for at its present part. -/
def State.askStep4 (s : State) (on : Bool) : State :=
  if s.pwr.target = 2 then s.askVe (if on then s.railMv false 1 else 0) else s.askGroup s.pwr.part on

/-- An unwinding begins at an abort point (R536): at A4 the reverse request goes out and its acknowledgement is awaited. -/
def State.beginUnwind (s : State) (point : Nat) (failed : Bool) : State :=
  let s := s.setPwr { s.pwr with unwind := point, failed := failed, acked := false }
  if point = 4 then s.askStep4 true else s.entryUndone point

/-- Steps 2 to 4 of Table 19-4; no abort point between them finds a wake event that A1 has not found. -/
def State.entrySteps (s : State) : State :=
  let s := s.setPwr { s.pwr with step := 2 }
  let s := if s.pwr.target = 2 then s.slabsDown else s.setMem { s.mem with selfRefresh := s.pwr.selfRef }
  let s := s.setPwr { s.pwr with step := 4, part := if s.pwr.target = 2 then 0 else s.topGroup, acked := false, tries := 0 }
  s.askStep4 false

/-- An entry in step 1 goes on once the groups have stopped, their checkpoints are written, the higher buffers drained, no slab
has work that delays its mode (R195) and, for DARK, the link is in L2; a pending wake event unwinds it at A1 (R534, R536). -/
def State.entryGo (s : State) : State :=
  let p := s.pwr
  if p.busy ∧ p.exiting = false ∧ p.step = 1 ∧ p.unwind = 0 ∧ s.running = 0 ∧ p.ckptDone ∧ p.drained ∧
      (p.target ≠ 3 ∨ p.l2 ∨ p.wake = some 4) ∧ (List.range 96).all (fun e => (s.eng e).slab.work == .none) then
    if p.wake.isSome then s.beginUnwind 1 false else s.entrySteps
  else s

/-- VDD_VE is off (Table 6-7, R201): every engine enters OFF and loses its instruction memory and scratchpad. -/
def State.enginesOff (s : State) : State :=
  let rs := s.vec.retiring
  let s := rs.foldl (fun (s : State) r => match r.cmd with
    | some c => s.endLater c.1 c.2 ⟨stDone, 0, []⟩
    | none => s) (s.setRetiring [])
  let s := (List.range 96).foldl (fun s e =>
    let x := s.eng e
    s.setEng e { x.cleared with
      st := .off, retd := x.st == .retired, imem := [], spad := [], spadFilled := false, imemLoaded := false
      imemBad := [], startDue := false, held := false }) s
  s.setVec { s.vec with veOff := true }

/-- OVERCAST is entered (step 5 of Table 19-4). -/
def State.overcastEntered (s : State) : State :=
  let s := (s.setPwr { s.pwr with step := 5 }).enginesOff
  s.reached 2

/-- DARK is entered: every block outside the always-on domain loses its state; no event. -/
def State.darkEntered (s : State) : State :=
  let s := (s.moveOver 3).blockReset
  s.setPwr { s.pwr with linkUp := false, l2 := false, evalDue := false, asked := false, veAck := false, wakeStep := 0 }

/-- An acknowledgement in step 4: DARK's groups follow one another (R610). ok: the group in progress is done. -/
def State.entryAck (s : State) (pg : Bool) : State :=
  let p := s.pwr
  if p.target = 2 then
    if pg then s
    else if p.unwind = 4 then s.entryUndone 4
    else if p.wake.isSome then s.beginUnwind 4 false
    else s.overcastEntered
  else
    let done := pg && p.acked
    let s := s.setPwr { p with acked := p.acked || !pg }
    if done = false then s
    else if p.unwind = 4 then
      if s.topGroup ≤ p.part then s.entryUndone 4
      else
        let s := s.setPwr { s.pwr with part := p.part + 1, acked := false, tries := 0 }
        s.askStep4 true
    else if p.wake.isSome then s.beginUnwind 4 false
    else if p.part = 2 then s.darkEntered
    else
      let s := s.setPwr { s.pwr with part := p.part - 1, acked := false, tries := 0 }
      s.askStep4 false

/-- The acknowledgement of step 4 does not arrive (R537). -/
def State.entryTimeout (s : State) : State :=
  let p := s.pwr
  let t := p.tries + 1
  let s := s.setPwr { p with tries := t }
  if p.unwind = 4 then s.askStep4 true
  else if t < 3 then s.askStep4 false
  else
    let s := (s.bump C.PWR_ENTRY_FAIL).aonEvent 1 19 3 [(1, p.target), (1, p.step), (1, t)]
    let s := s.journal 0x30 2 0 t p.target s.msNow
    s.beginUnwind 4 true

/-! Leaving OVERCAST (R538). -/

/-- Action 1 of an exit is not acknowledged or has no power-good in time: tried three times (R538). -/
def State.exitTimeout (s : State) : State :=
  let p := s.pwr
  let t := p.tries + 1
  if t < 3 then (s.setPwr { p with tries := t, part := 1 }).askVeOn
  else
    let n := s.arb.raised
    let s := (s.bump C.PWR_ENTRY_FAIL).aonEvent 1 19 3 [(1, p.target), (1, p.step), (1, t)]
    let s := s.journal 0x31 2 0 t p.target s.msNow
    (s.moveOver 2).completeCmd p.cmd n stTimeout

/-- Actions 3 and 4: the switched-off packet buffer banks are filled, the IDs return, the slabs wake. -/
def State.exitMemories (s : State) : State :=
  let s := s.setMem { s.mem with pbufErr := s.mem.pbufErr.filter (fun p =>
    (List.range 4).any (fun i =>
      let w := s.bufWord (i * 2 ^ 18)
      decide (w ≤ p.1) && decide (p.1 < w + (s.pool i).count / 8 * (poolSize i / 32)))) }
  let s := s.limitPools false
  let s := (List.range 96).foldl (fun s e =>
    let x := s.eng e
    if x.slab.mode = 1 then s.setSlab e (x.slab.request e 2)
    else if x.spareOf.isSome ∧ x.slab.mode = 0 then s.setSlab e (x.slab.request e 2) else s) s
  s.setPwr { s.pwr with part := 5 }

/-- Action 4 ends once no engine is OFF and no slab is at work; then the ports are waited for (R538). -/
def State.exitGo (s : State) : State :=
  let p := s.pwr
  if p.exiting ∧ p.part = 5 ∧ (List.range 96).all (fun e =>
      (s.eng e).st != .off && (s.eng e).slab.work != .zeroFill && (s.eng e).slab.work != .wakeScrub) then
    (s.setPwr { p with part := 6 }).lanesEval
  else s

/-! Waking from DARK (R539, R540). -/

/-- A wake step begins: PWR_STATUS.STEP is 7 + its number; W1 asks for its first group of rails. -/
def State.wakeStepBegin (s : State) (k : Nat) : State :=
  let s := s.setPwr { s.pwr with wakeStep := k, step := 7 + k, acked := false, part := 2 }
  if k = 1 then s.askGroup 2 true else s

/-- A wake event in DARK: the steps begin (R539). -/
def State.beginWake (s : State) : State :=
  let out := s.flag F.PWR_WAKE_CFG_WAKE_OUT
  let s := if out then s.emit (.pin "GPIO" 0 false) else s
  (s.setPwr { s.pwr with
    busy := true, target := 0, from_ := 3, tries := 0, wakeOut := out, startTick := s.tick.count.toNat }).wakeStepBegin 1

/-- A wake event: in DARK it begins the wake steps; during the entry to DARK it is pending (R536, R539). -/
def State.wakeEvent (s : State) (source : Nat) : State :=
  let p := s.pwr
  if p.state = 3 then (if p.wakeStep = 0 then s.beginWake else s)
  else if p.busy ∧ p.exiting = false ∧ p.target = 3 ∧ p.step ≠ 0 ∧ p.unwind = 0 ∧ p.wake.isNone then
    (s.setPwr { p with wake := some source }).entryGo
  else s

/-- Rails of W1 follow one another: acknowledged, then power-good (R539, R610). -/
def State.wakeAck (s : State) (pg : Bool) : State :=
  let p := s.pwr
  if p.part ≤ 4 then
    if pg && p.acked then
      if p.part < s.topGroup then (s.setPwr { p with part := p.part + 1, acked := false }).askGroup (p.part + 1) true
      else s.setPwr { p with part := 5, acked := false }
    else s.setPwr { p with acked := p.acked || !pg }
  else s

/-- A wake fails for good at step k (R539): the journal, the count, FAULT_N, the rails back off, the alternate prescribed. -/
def State.wakeFails (s : State) (k : Nat) : State :=
  let s := s.journal (0x20 + k) 2 0 3 0 s.msNow
  let s := (s.bump C.PWR_WAKE_FAIL).assertFault
  let s := ((s.askGroup 4 false).askGroup 3 false).askGroup 2 false
  let c := s.jrn.core
  let s := s.setCore (match k with
    | 1 => { c with avsLow := true }
    | 2 => { c with ref := 1 - c.ref }
    | 3 => { c with sramSerial := true }
    | _ => { c with domSerial := true })
  let s := s.aonEvent 1 19 4 [(1, 7 + k), (1, 0), (4, s.jrn.core.total - 1)]
  s.setPwr { s.pwr with wakeStep := 0, step := 0, busy := false, tries := 0, failedStep := k, target := 3 }

/-! Squall and grade (R541 to R545). -/

/-- A squall begins, or another cause joins it (R544): cause 4 feed alert, 2 temperature, 1 budget. -/
def State.squallTrigger (s : State) (cause : Nat) : State :=
  let p := s.pwr
  let new := p.causes == 0
  let s := s.setPwr { p with
    causes := p.causes ||| cause, episode := if new then cause else p.episode ||| cause, began := true, computed := 7
    hot := p.hot || cause != 1 }
  let s := s.setVec { s.vec with squallDue := true }
  if new then
    (s.bump C.PWR_SQUALLS).aonEvent 1 19 2 [(1, if cause = 4 then 0 else if cause = 2 then 1 else 2), (4, s.tick32)]
  else s

/-- The cause of a feed-alert or temperature squall is absent: FEED_ALERT_N high, every reading below TEMP_TRIP - HYST (R544). -/
def State.coolAndFed (s : State) : Bool :=
  !s.pwr.feedLow && (List.range 8).all (fun i =>
    decide (sparseGet (fun _ => 0) s.pwr.temps i < 4 * ((s.tempTrip : Int) - (s.hyst : Int))))

/-- Feed and temperature causes end when they are absent. -/
def State.causesEnd (s : State) : State :=
  if s.coolAndFed then s.setPwr { s.pwr with causes := s.pwr.causes &&& 1 } else s

/-- LINEAR11 (PRESUMED, log 27: the PMBus format): an 11-bit signed mantissa times 2 to a 5-bit signed exponent, in 0.1 W. -/
def linear11 (v : Nat) : Nat :=
  let m := signedOf 11 v
  let e := signedOf 5 (v / 2048)
  let x : Int := if 0 ≤ e then 10 * m * (2 ^ e.toNat : Int) else 10 * m / (2 ^ (-e).toNat : Int)
  x.toNat

/-- The feed reading of a window (R541, R542): F, and the state after it. -/
def State.readFeed (s : State) (feed : Option (BitVec 16)) : State × Nat :=
  let p := s.pwr
  let src := s.fld F.PWR_FEED_CFG_SRC
  let host := s.fld F.PWR_FEED_HOST_FEED
  if src = 1 then (s, host)
  else
    let s := match feed with
      | some v => s.setPwr { p with feedLast := linear11 v.toNat, feedMiss := 0 }
      | none =>
        let s := (s.setPwr { p with feedMiss := p.feedMiss + 1 }).bump C.PWR_FEED_FAIL
        if p.feedMiss + 1 = 8 then
          s.aonEvent 1 19 5 [(1, s.fld F.PWR_FEED_CFG_ADDR), (2, s.fld F.PWR_FEED_CFG_FALLBACK_W)]
        else s
    if 8 ≤ s.pwr.feedMiss then (s, s.fld F.PWR_FEED_CFG_FALLBACK_W)
    else if src = 0 then (s, s.pwr.feedLast) else (s, min s.pwr.feedLast host)

/-- The power reading of a window (R541, R542): regulator i of those the board table lists; a failed read keeps the previous
value. -/
def State.readPower (s : State) : Nat → List (Option (BitVec 16)) → State
  | _, [] => s
  | i, r :: rs =>
    if s.pwr.louts ≤ i then s
    else
      let s := match r with
        | some v => s.setPwr { s.pwr with pouts := sparseSet (fun _ => 0) s.pwr.pouts i (linear11 v.toNat) }
        | none => s.bump C.PWR_MEAS_FAIL
      s.readPower (i + 1) rs

/-- The computed grade (Table 19-6): g the delivered grade, over the budget now and before, absent the squall's cause over the
whole window, calm the step-down condition below 7; n the clear count after this evaluation. -/
def State.tableGrade (s : State) (g n : Nat) (p b t : Int) (past before absent calm : Bool) : Nat × Bool :=
  let target := 4 * (s.tempTarget : Int)
  if s.pwr.causes != 0 || s.pwr.began then (7, false)
  else if g = 7 then (if absent && decide (s.squallHold ≤ n) then 6 else 7, false)
  else if g = 6 && past && before then (7, true)
  else if decide (p > b) || decide (target + 12 ≤ t) then (min (g + 2) 6, false)
  else if decide (p > b - (s.upMargin : Int)) || decide (target ≤ t) then (min (g + 1) 6, false)
  else if calm && decide (s.downHold ≤ n) then (g - 1, false)
  else (g, false)

/-- The evaluation of the window that ends (R541 to R543). -/
def State.evaluate (s : State) (feed : Option (BitVec 16)) (pouts : List (Option (BitVec 16))) : State :=
  match s.readFeed feed with
  | (s, f) =>
    let s := s.readPower 0 pouts
    let p : Nat := ((List.range 12).map (fun i => sparseGet (fun _ => 0) s.pwr.pouts i)).sum
    let b : Int := (f : Int) - (s.fld F.PWR_BUDGET_CFG_RESERVE_W : Int)
    let t : Int := s.pwr.windowTop.getD s.pwr.topUsed
    let calmP := decide ((p : Int) ≤ b - (s.downMargin : Int))
    let s := if calmP then s.setPwr { s.pwr with causes := s.pwr.causes &&& 6 } else s
    let w := s.pwr
    let g := w.grade
    let past := decide ((p : Int) > b)
    let absent := w.causes == 0 && !w.began && !(w.hot && w.episode &&& 6 != 0) && (calmP || w.episode &&& 1 == 0)
    let calm := calmP && decide (t ≤ 4 * ((s.tempTarget : Int) - (s.hyst : Int)))
    let n := if (if g = 7 then absent else calm) then min (w.clear + 1) 63 else 0
    let r := s.tableGrade g n (p : Int) b t past w.overBudget absent calm
    let s := s.setPwr { w with
      computed := r.1, clear := n, feedUsed := f, measured := p, budget := b, topUsed := t, windowTop := none
      overBudget := past, hot := w.causes &&& 6 != 0, evalDue := false }
    let s := if r.2 then s.squallTrigger 1 else s
    let next := s.floored s.pwr.state s.pwr.computed
    if gradeClock next < gradeClock g ∧ s.vec.veOff = false ∧ s.pwr.step ≤ 1 ∧ s.pwr.veAck = false then
      (s.setPwr { s.pwr with asked := true }).askVe (Config.veMillivolts (gradeClock next))
    else s

/-- The grade that a vector-cycle boundary delivers (R530, R541, R543), and the state after its delivery. -/
def State.gradeDeliver (s : State) : State × Nat :=
  let w := s.pwr
  let g := w.grade
  let want := s.floored w.state w.computed
  let up := decide (gradeClock want < gradeClock g)
  if up ∧ w.veAck = false ∧ s.vec.veOff = false then
    ((s.bump C.PWR_AVS_DEFER).setPwr { w with began := false }, g)
  else if want = g then (s.setPwr { w with began := false }, g)
  else
    let s := s.setPwr { w with grade := want, clear := 0, began := false, asked := false, veAck := false }
    let s := s.aonEvent 3 19 8 [(1, g), (1, want), (2, w.measured), (2, twos 2 w.budget), (2, twos 2 w.topUsed)]
    let s := if gradeClock g < gradeClock want ∧ s.vec.veOff = false then s.askVe (Config.veMillivolts (gradeClock want)) else s
    (s, want)

end Sys2Proof.Machine
end

