-- ==== Sys2Proof/Machine/Power.lean ====
section
/-! DEFINITION. Commands and events of the power and budget controller (chapter 19). Choices: log 27. -/

namespace Sys2Proof.Machine

/-- The effect of PWR_SET_STATE for a target state (R533 to R536, R538). -/
def State.setPower (s : State) (target : Nat) (p : Pkt) (id : Nat) : BodyOut :=
  let b := p.bytes
  let w := s.pwr
  let awake := leAt b 2 1
  let cmd := some (p.func.val, id)
  if 3 < leAt b 0 1 ∨ (3 < awake ∧ awake ≠ 0xFF) ∨ leAt b 1 1 / 2 ≠ 0 ∨ leAt b 3 1 ≠ 0 then refuse stBadParam s
  else if w.busy then
    if w.exiting = false ∧ w.step ≠ 0 ∧ target < w.target ∧ w.unwind = 0 ∧ w.wake.isNone then
      .fin (s.setPwr { w with
        wake := some 0, wakeCmd := some ⟨p.func.val, id, target, awake, bit (leAt b 1 1) 0⟩ }) ⟨stAccepted, 0, []⟩
    else refuse stBusy s
  else if w.state = target then finish s
  else if target ≤ 1 ∧ w.state ≤ 1 then
    .fin (s.setPwr { w with
      target := target, busy := true, from_ := w.state, hazeAt := some s.tick.count.toNat, cmd := cmd
      startTick := s.tick.count.toNat }) ⟨stAccepted, 0, []⟩
  else if w.state < target then .fin (s.startEntry target awake (bit (leAt b 1 1) 0) cmd) ⟨stAccepted, 0, []⟩
  else .fin (s.startExit target cmd) ⟨stAccepted, 0, []⟩

/-- PWR_SET_STATE for CLEAR. -/
def execPwrSetClear (p : Pkt) (s : State) : Host.Outcome State Fault Refusal :=
  runCmd 0x0201 true (lenIs 1 p) (p.target == 0) (fun id s => s.setPower 0 p id) p s

/-- PWR_SET_STATE for HAZE. -/
def execPwrSetHaze (p : Pkt) (s : State) : Host.Outcome State Fault Refusal :=
  runCmd 0x0201 true (lenIs 1 p) (p.target == 0) (fun id s => s.setPower 1 p id) p s

/-- PWR_SET_STATE for OVERCAST. -/
def execPwrSetOvercast (p : Pkt) (s : State) : Host.Outcome State Fault Refusal :=
  runCmd 0x0201 true (lenIs 1 p) (p.target == 0) (fun id s => s.setPower 2 p id) p s

/-- PWR_SET_STATE for DARK. -/
def execPwrSetDark (p : Pkt) (s : State) : Host.Outcome State Fault Refusal :=
  runCmd 0x0201 true (lenIs 1 p) (p.target == 0) (fun id s => s.setPower 3 p id) p s

/-- HAZE is entered or left at the first vector-cycle boundary at least one tick after acceptance (R533). -/
def State.hazeChange (s : State) : State :=
  match s.pwr.hazeAt with
  | some a => if a + 1 ≤ s.tick.count.toNat then s.reached s.pwr.target else s
  | none => s

/-- A write of the RW, W1C and W1S fields of a register of the power window (R546, R587, R590). -/
def State.writePwr (s : State) (off v : Nat) : State :=
  if off = R.PWR_STAT_CTL then (if bit v 0 then s.copyBank 0 pwrCtrs else s)
  else if off = R.PWR_JRN_CLEAR then (if bit v 0 then { s with jrn := { s.jrn with clearDue := true } } else s)
  else
    match regSpecAt off with
    | none => s
    | some r =>
      let old := (s.rd off).toNat
      let s := s.wr off (BitVec.ofNat 32 (old - (old &&& v &&& r.w1c)))
      let s := s.wrRw off v
      if off = R.PWR_HAZE_CFG then s.lanesEval else s

/-- PWR_CFG: the values of consecutive registers, TARGET the offset of the first in the power window (R546). -/
def execPwrCfg (p : Pkt) (s : State) : Host.Outcome State Fault Refusal :=
  runCmd 0x0202 false (lenIn 1 1024 p)
    (p.target.toNat % 4 == 0 && (List.range p.length).all (fun i =>
      let off := 0x00200000 + p.target.toNat + 4 * i
      inPowerWindow off && ((regSpecAt off).isSome || (ctrAt off).isSome)))
    (fun _ s =>
      finish ((List.range p.length).foldl (fun s i => s.writePwr (0x00200000 + p.target.toNat + 4 * i) (p.w i)) s)) p s

/-- PWR_STAT_SNAP: the live counts reach the demand bank (R546). -/
def execPwrStatSnap (s : State) : Host.Outcome State Fault Refusal := .next (s.writePwr R.PWR_STAT_CTL 1)

/-- CHECKPOINT_WRITE_DONE: the groups that ran when the entry began have stopped and every tone group's checkpoint is in DDR4
(R198). -/
def execCheckpointWriteDone (s : State) : Host.Outcome State Fault Refusal :=
  let p := s.pwr
  if p.busy ∧ p.exiting = false ∧ p.step = 1 ∧ p.ckptDone = false ∧ s.running = 0 then
    let s := (groupsOf p.ckpts).foldl (fun s g =>
      let x := s.vg g
      (List.range x.tgs.length).foldl (fun (s : State) k =>
        let t := x.tg k
        let b := (s.eng t.eng).slab
        let ws := b.overlay.foldl (fun m p => sparseSet (fun _ => 0) m p.1 (b.through p.1)) b.words
        let c : Ckpt := { tg := k, group := g, epoch := x.epoch, gen := t.version, count := 65536, words := ws.filter (fun p => p.1 < 65536) }
        s.setVec { s.vec with ckpts := sparseSet (fun _ => none) s.vec.ckpts (ckptKey g k) (some c) }) s) s
    .next (State.entryGo (s.setPwr { s.pwr with ckptDone := true }))
  else .next s

/-- Frames that a queue holds in buffers set aside are dropped (R446, R535). -/
def State.drainQueue (s : State) (q : Nat) : State :=
  let v := s.sq q
  let high := fun (x : QFrame) => (s.pool (poolOf x.frame.buf)).isHigh x.frame.buf
  let mine := v.frames.filter high
  if mine.isEmpty then s else (s.setSq q { v with frames := v.frames.filter (fun x => !high x) }).dropQueue q mine

/-- OVERCAST_POOL_DRAIN_END: every higher buffer is free, or 10 ms have passed (R535). -/
def execOvercastPoolDrainEnd (s : State) : Host.Outcome State Fault Refusal :=
  let p := s.pwr
  if p.busy ∧ p.exiting = false ∧ p.step = 1 ∧ p.drained = false then
    let qs := s.sched.queue.map (fun q => q.1)
    let bufs := (s.sched.queue.flatMap (fun q => q.2.frames.map (fun x => x.frame.buf))).eraseDups
    let n := (bufs.filter (fun b => (s.pool (poolOf b)).isHigh b)).length
    let s := qs.foldl (fun s q => s.drainQueue q) s
    let s := s.bumpBy C.PWR_OVC_DROP n
    .next (State.entryGo (s.setPwr { s.pwr with drained := true }))
  else .next s

/-- PCIE_L2_ENTERED: the link enters L2 (R534). -/
def execPcieL2Entered (s : State) : Host.Outcome State Fault Refusal :=
  .next (State.entryGo (s.setPwr { s.pwr with l2 := true, linkUp := false }))

/-- DARK_L2_TIMEOUT: the link has not entered L2 within 1 s; the entry aborts at A1 with cause "link" (R534). -/
def execDarkL2Timeout (s : State) : Host.Outcome State Fault Refusal :=
  let p := s.pwr
  if p.busy ∧ p.exiting = false ∧ p.step = 1 ∧ p.target = 3 ∧ p.l2 = false ∧ p.wake.isNone then
    .next (State.entryGo (s.setPwr { p with wake := some 4 }))
  else .next s

/-- REGULATOR_ACK: an acknowledgement, or with pg a power-good, arrives (R530, R534, R536, R538, R539). -/
def execRegulatorAck (pg : Bool) (s : State) : Host.Outcome State Fault Refusal :=
  let p := s.pwr
  if p.busy ∧ p.exiting = false ∧ p.step = 4 then .next (s.entryAck pg)
  else if p.exiting ∧ p.part = 1 ∧ pg = false then .next (s.setPwr { p with part := 2 })
  else if p.exiting ∧ p.part = 2 ∧ pg then .next (s.setPwr { p with part := 3 })
  else if p.wakeStep = 1 then .next (s.wakeAck pg)
  else if p.asked ∧ pg = false then .next (s.setPwr { p with asked := false, veAck := true })
  else .next s

/-- REGULATOR_ACK_TIMEOUT: an acknowledgement, or the power-good of an exit, has not arrived in time (R537, R538). -/
def execRegulatorAckTimeout (s : State) : Host.Outcome State Fault Refusal :=
  let p := s.pwr
  if p.busy ∧ p.exiting = false ∧ p.step = 4 then .next s.entryTimeout
  else if p.exiting ∧ (p.part = 1 ∨ p.part = 2) then .next s.exitTimeout
  else .next s

/-- VE_PLL_LOCK (R538). -/
def execVePllLock (s : State) : Host.Outcome State Fault Refusal :=
  let p := s.pwr
  if p.exiting ∧ p.part = 3 then .next ((s.setVec { s.vec with veOff := false }).setPwr { p with part := 4 }) else .next s

/-- MEMORY_ZERO_FILL_DONE: the packet buffer banks that were off are filled, or an engine's scratchpad is (R518, R538). -/
def execMemoryZeroFillDone (e : Option (Fin 96)) (s : State) : Host.Outcome State Fault Refusal :=
  match e with
  | none => if s.pwr.exiting ∧ s.pwr.part = 4 then .next s.exitMemories.exitGo else .next s
  | some e =>
    let x := s.eng e.val
    if x.st = .off ∧ s.vec.veOff = false ∧ x.spadFilled = false then
      .next (((s.setEng e.val { x with spad := [], spadFilled := true }).leaveOff e.val).exitGo)
    else .next s

/-- INSTRUCTION_MEMORY_RELOADED: firmware has reloaded an engine's instruction memory from its kernel's image (R201). -/
def execInstructionMemoryReloaded (e : Fin 96) (s : State) : Host.Outcome State Fault Refusal :=
  let x := s.eng e.val
  if x.st = .off ∧ s.vec.veOff = false ∧ x.imemLoaded = false then
    let img := match x.kernel.bind (fun h => sparseGet (fun _ => none) s.vec.kernels h) with
      | some i => imemOf i
      | none => []
    .next (((s.setEng e.val { x with imem := img, imemBad := [], imemLoaded := true }).leaveOff e.val).exitGo)
  else .next s

/-- OVERCAST_EXIT_PORT_WAIT_END: every enabled port is UP, or 10 ms have passed; the rest of the exit follows (R538). -/
def execOvercastExitPortWaitEnd (s : State) : Host.Outcome State Fault Refusal :=
  let p := s.pwr
  if p.exiting ∧ p.part = 6 then
    let s := s.restorePolicies
    let s := State.restartGroups (s.setPwr { s.pwr with state := p.target })
    .next (s.reached p.target)
  else .next s

/-- GPIO_WAKE: a GPIO that PWR_WAKE_CFG enables is low (R539). -/
def execGpioWake (k : Fin 24) (s : State) : Host.Outcome State Fault Refusal :=
  if bit (s.fld F.PWR_WAKE_CFG_GPIO) k.val then .next (s.wakeEvent 1) else .next s

/-- FEED_ALERT_LOW: FEED_ALERT_N has been low for four AON cycles (R544). -/
def execFeedAlertLow (s : State) : Host.Outcome State Fault Refusal :=
  if s.pwr.feedLow then .next s else .next (State.squallTrigger (s.setPwr { s.pwr with feedLow := true }) 4)

/-- FEED_ALERT_RISE: a squall cause may end (R544); in DARK an enabled wake source (R539). -/
def execFeedAlertRise (s : State) : Host.Outcome State Fault Refusal :=
  let s := State.causesEnd (s.setPwr { s.pwr with feedLow := false })
  if s.flag F.PWR_WAKE_CFG_FEED then .next (s.wakeEvent 2) else .next s

/-- WAKE_TIMER_EXPIRY: the wake timer reaches PWR_WAKE_TIMER seconds (R539). -/
def execWakeTimerExpiry (s : State) : Host.Outcome State Fault Refusal :=
  if s.flag F.PWR_WAKE_CFG_TIMER then .next (s.wakeEvent 3) else .next s

/-- WAKE_STEP_READY: the step's ready signal arrives; after W4 the start of R540 begins (R539). -/
def execWakeStepReady (s : State) : Host.Outcome State Fault Refusal :=
  let p := s.pwr
  if p.state ≠ 3 ∨ p.wakeStep = 0 ∨ 4 < p.wakeStep ∨ (p.wakeStep = 1 ∧ p.part < 5) then .next s
  else if p.wakeStep < 4 then .next (State.wakeStepBegin (s.setPwr { p with tries := 0 }) (p.wakeStep + 1))
  else
    let s := s.blockReset
    .next (s.setPwr { s.pwr with wakeStep := 5, step := 0, tries := 0 })

/-- WAKE_STEP_TIMEOUT: the step is begun again, twice at most; then the wake fails (R539). -/
def execWakeStepTimeout (s : State) : Host.Outcome State Fault Refusal :=
  let p := s.pwr
  if p.state ≠ 3 ∨ p.wakeStep = 0 ∨ 4 < p.wakeStep then .next s
  else if p.tries < 2 then
    .next (State.wakeStepBegin ((s.bump C.PWR_WAKE_RETRY).setPwr { p with tries := p.tries + 1 }) p.wakeStep)
  else .next (s.wakeFails p.wakeStep)

/-- PCIE_LINK_UP: the link trains; GPIO 0 ends its part as WAKE_N (R540), and L2 ends (R536). -/
def execPcieLinkUp (s : State) : Host.Outcome State Fault Refusal :=
  let p := s.pwr
  let s := s.setPwr { p with linkUp := true, l2 := false, wakeOut := false }
  if p.wakeOut then .next (s.emit (.pin "GPIO" 0 true)) else .next s

/-- GRADE_EVALUATION: at the tick edge at which TIC becomes 24; the readings of the window: the feed unit's, and each
regulator's, none where the read fails (R541 to R543). -/
def execGradeEvaluation (feed : Option (BitVec 16)) (pouts : List (Option (BitVec 16))) (s : State) :
    Host.Outcome State Fault Refusal :=
  if s.pwr.evalDue then .next (s.evaluate feed pouts) else .next s

/-- SENSOR_READING: sensor i reads t, in 0.25 °C (R541, R543, R544). -/
def execSensorReading (i : Fin 8) (t : BitVec 16) (s : State) : Host.Outcome State Fault Refusal :=
  let v := signedOf 16 t.toNat
  let p := s.pwr
  let s := s.setPwr { p with
    temps := sparseSet (fun _ => 0) p.temps i.val v
    windowTop := some (match p.windowTop with
      | some w => max w v
      | none => v) }
  let s := if 4 * (s.tempTrip : Int) ≤ v ∧ s.pwr.causes &&& 2 = 0 then s.squallTrigger 2 else s
  let s := s.causesEnd
  if 4 * (s.tempCrit : Int) ≤ v then
    let s := if s.pwr.critTold then s
      else (s.setPwr { s.pwr with critTold := true }).aonEvent 0 19 1 [(1, i.val), (2, twos 2 v)]
    if s.pwr.busy ∨ 2 ≤ s.pwr.state then .next s else .next (s.startEntry 2 0xFF false none)
  else
    let hot := (List.range 8).any (fun j => decide (4 * (s.tempCrit : Int) ≤ sparseGet (fun _ => 0) s.pwr.temps j))
    .next (s.setPwr { s.pwr with critTold := s.pwr.critTold && hot })

end Sys2Proof.Machine
end

