-- ==== Sys2Proof/Machine/ClsParse.lean ====
section
/-! DEFINITION. The parser and the classification key (R363 to R366, R377). Header sizes that the spec leaves to the
protocols' own standards are PRESUMED (log 31): TCP its data offset, UDP 8, SCTP 12, ICMP 8, ICMPv6 4, GRE 4 and 4 for
each of checksum, key and sequence. -/

namespace Sys2Proof.Machine

/-- What kind of header stands at an offset. -/
inductive Hdr where
  | eth | vlan | mpls | ipv4 | ipv6 | ext | frag6 | l4 | gre | none
  deriving DecidableEq, Repr

/-- What a pass has parsed. at_ and start are offsets in the frame; hdrs counts headers, exts IPv6 extension headers; ipEnd is
the end of the IP payload. frag: 0 none, 1 first, 2 later. inner: where a second pass starts. -/
structure Parsed where
  start : Nat := 0
  at_ : Nat := 0
  hdrs : Nat := 0
  exts : Nat := 0
  ntags : Nat := 0
  nmpls : Nat := 0
  vid0 : Nat := 0
  pcp0 : Nat := 0
  vid1 : Nat := 0
  pcp1 : Nat := 0
  etype : Nat := 0
  mpls0 : Nat := 0
  da : Nat := 0
  sa : Nat := 0
  l3 : Nat := 0
  ipSrc : Nat := 0
  ipDst : Nat := 0
  dscp : Nat := 0
  proto : Nat := 0
  ipEnd : Nat := 0
  frag : Nat := 0
  fragId : Nat := 0
  fragProto : Nat := 0
  l4Src : Nat := 0
  l4Dst : Nat := 0
  tcpFlags : Nat := 0
  tun : Nat := 0
  tunId : Nat := 0
  inner : Option (Nat × Hdr) := Option.none
  exc : Nat := 0
  deriving DecidableEq, Repr

/-- What the parser looks at besides the frame: TPID_S of the source's MAC, VXLAN_PORT, the pass. -/
structure ParseCfg where
  tpid : Nat
  vxlan : Nat
  second : Bool
  deriving DecidableEq, Repr

/-- One header parsed: the pass goes on with the next header, or has ended. -/
inductive ParseOut where
  | go (h : Hdr) (p : Parsed)
  | stop (p : Parsed)
  deriving DecidableEq, Repr

/-- The pass ends with an exception. -/
def Parsed.fail (p : Parsed) (code : Nat) : ParseOut := .stop { p with exc := code }

/-- Header that an EtherType announces (Table 12-1). -/
def byEtherType (c : ParseCfg) (t : Nat) : Hdr :=
  if t = 0x8100 ∨ t = 0x88A8 ∨ t = c.tpid then .vlan
  else if t = 0x8847 ∨ t = 0x8848 then .mpls
  else if t = 0x0800 then .ipv4
  else if t = 0x86DD then .ipv6
  else .none

/-- Header that an IP protocol announces (Table 12-1); extension headers only under IPv6. -/
def byProto (v6 : Bool) (n : Nat) : Hdr :=
  if v6 && (n == 0 || n == 43 || n == 60) then .ext
  else if v6 && n == 44 then .frag6
  else if n = 6 ∨ n = 17 ∨ n = 132 ∨ n = 1 ∨ n = 58 then .l4
  else if n = 47 then .gre
  else .none

/-- Take a header of n bytes: the checks of R364 in the order of Table 12-2, then truncation. -/
def takeHdr (b : List Byte) (n : Nat) (p : Parsed) : Except Nat Parsed :=
  if 12 ≤ p.hdrs then .error 1
  else if p.start + 256 < p.at_ + n then .error 2
  else if b.length < p.at_ + n then .error 8
  else .ok { p with hdrs := p.hdrs + 1, at_ := p.at_ + n }

/-- Ethernet header. -/
def parseEth (c : ParseCfg) (b : List Byte) (p : Parsed) : ParseOut :=
  match takeHdr b 14 p with
  | .error e => p.fail e
  | .ok q =>
    let t := beAt b (p.at_ + 12) 2
    .go (byEtherType c t) { q with da := beAt b p.at_ 6, sa := beAt b (p.at_ + 6) 6, etype := t }

/-- VLAN tag: its control word and the EtherType after it. -/
def parseVlan (c : ParseCfg) (b : List Byte) (p : Parsed) : ParseOut :=
  if p.hdrs < 12 ∧ p.at_ + 4 ≤ p.start + 256 ∧ p.ntags = 3 then p.fail 3
  else match takeHdr b 4 p with
    | .error e => p.fail e
    | .ok q =>
      let tci := beAt b p.at_ 2
      let t := beAt b (p.at_ + 2) 2
      let q := if p.ntags = 0 then { q with vid0 := tci % 4096, pcp0 := tci / 8192 }
        else if p.ntags = 1 then { q with vid1 := tci % 4096, pcp1 := tci / 8192 } else q
      .go (byEtherType c t) { q with ntags := p.ntags + 1, etype := t }

/-- MPLS label; after the bottom one the first nibble tells IPv4 and IPv6. -/
def parseMpls (b : List Byte) (p : Parsed) : ParseOut :=
  if p.hdrs < 12 ∧ p.at_ + 4 ≤ p.start + 256 ∧ p.nmpls = 6 then p.fail 4
  else match takeHdr b 4 p with
    | .error e => p.fail e
    | .ok q =>
      let l := beAt b p.at_ 4
      let q := { q with nmpls := p.nmpls + 1, mpls0 := if p.nmpls = 0 then l / 4096 else p.mpls0 }
      if bit l 8 = false then .go .mpls q
      else
        let nib := beAt b q.at_ 1 / 16
        if p.start + 256 < q.at_ + 1 ∧ q.at_ < b.length then q.fail 2
        else if nib = 4 then .go .ipv4 q else if nib = 6 then .go .ipv6 q else .stop q

/-- IPv4 header. -/
def parseIpv4 (b : List Byte) (p : Parsed) : ParseOut :=
  match takeHdr b 20 p with
  | .error e => p.fail e
  | .ok _ =>
    let ihl := beAt b p.at_ 1 % 16
    if ihl < 5 then p.fail 7
    else match takeHdr b (4 * ihl) p with
      | .error e => p.fail e
      | .ok q =>
        let total := beAt b (p.at_ + 2) 2
        let ff := beAt b (p.at_ + 6) 2
        let pr := beAt b (p.at_ + 9) 1
        if b.length < p.at_ + total then p.fail 7
        else
          let frag := if ff % 8192 ≠ 0 then 2 else if bit ff 13 then 1 else 0
          let q := { q with
            l3 := 1, ipSrc := beAt b (p.at_ + 12) 4, ipDst := beAt b (p.at_ + 16) 4, dscp := beAt b (p.at_ + 1) 1 / 4,
            proto := pr, ipEnd := p.at_ + total, frag := frag, fragId := beAt b (p.at_ + 4) 2, fragProto := pr }
          if frag = 2 then .stop q else .go (byProto false pr) q

/-- IPv6 header. -/
def parseIpv6 (b : List Byte) (p : Parsed) : ParseOut :=
  match takeHdr b 40 p with
  | .error e => p.fail e
  | .ok q =>
    let len := beAt b (p.at_ + 4) 2
    let nx := beAt b (p.at_ + 6) 1
    if b.length < q.at_ + len then p.fail 7
    else .go (byProto true nx) { q with
      l3 := 2, ipSrc := beAt b (p.at_ + 8) 16, ipDst := beAt b (p.at_ + 24) 16,
      dscp := beAt b p.at_ 2 / 64 % 64, proto := nx, ipEnd := q.at_ + len }

/-- IPv6 extension header other than the fragment header. -/
def parseExt (b : List Byte) (p : Parsed) : ParseOut :=
  if p.hdrs < 12 ∧ p.at_ + 8 ≤ p.start + 256 ∧ p.exts = 4 then p.fail 5
  else match takeHdr b 8 p with
    | .error e => p.fail e
    | .ok _ =>
      let n := (beAt b (p.at_ + 1) 1 + 1) * 8
      match takeHdr b n p with
      | .error e => p.fail e
      | .ok q =>
        let nx := beAt b p.at_ 1
        if p.ipEnd < q.at_ then p.fail 7
        else .go (byProto true nx) { q with exts := p.exts + 1, proto := nx }

/-- IPv6 fragment header (R377). -/
def parseFrag6 (b : List Byte) (p : Parsed) : ParseOut :=
  if p.hdrs < 12 ∧ p.at_ + 8 ≤ p.start + 256 ∧ p.exts = 4 then p.fail 5
  else match takeHdr b 8 p with
    | .error e => p.fail e
    | .ok q =>
      let nx := beAt b p.at_ 1
      let off := beAt b (p.at_ + 2) 2
      if p.ipEnd < q.at_ then p.fail 7
      else
        let frag := if off / 8 ≠ 0 then 2 else if bit off 0 then 1 else p.frag
        let q := { q with
          exts := p.exts + 1, proto := nx, frag := frag, fragId := beAt b (p.at_ + 4) 4, fragProto := nx }
        if off / 8 ≠ 0 then .stop q else .go (byProto true nx) q

/-- A UDP header, and with the VXLAN port the VXLAN header with it: a tunnel. -/
def parseUdp (c : ParseCfg) (b : List Byte) (p : Parsed) : ParseOut :=
  match takeHdr b 8 p with
  | .error e => p.fail e
  | .ok q =>
    let len := beAt b (p.at_ + 4) 2
    let dst := beAt b (p.at_ + 2) 2
    if len < 8 ∨ p.ipEnd < p.at_ + len then p.fail 7
    else
      let q := { q with l4Src := beAt b p.at_ 2, l4Dst := dst }
      if dst ≠ c.vxlan then .stop q
      else if c.second then p.fail 6
      else match takeHdr b 16 p with
        | .error e => p.fail e
        | .ok r => .stop { r with
            l4Src := q.l4Src, l4Dst := dst, tun := 1, tunId := beAt b (p.at_ + 12) 3, inner := some (r.at_, .eth) }

/-- TCP, UDP, SCTP, ICMP or ICMPv6 by the protocol just parsed; parsing stops after it. -/
def parseL4 (c : ParseCfg) (b : List Byte) (p : Parsed) : ParseOut :=
  if p.proto = 17 then parseUdp c b p
  else if p.proto = 6 then
    match takeHdr b 20 p with
    | .error e => p.fail e
    | .ok _ =>
      let off := beAt b (p.at_ + 12) 1 / 16
      if off < 5 then p.fail 7
      else match takeHdr b (4 * off) p with
        | .error e => p.fail e
        | .ok q => .stop { q with
            l4Src := beAt b p.at_ 2, l4Dst := beAt b (p.at_ + 2) 2, tcpFlags := beAt b (p.at_ + 13) 1 }
  else
    match takeHdr b (if p.proto = 132 then 12 else if p.proto = 1 then 8 else 4) p with
    | .error e => p.fail e
    | .ok q =>
      if p.proto = 132 then .stop { q with l4Src := beAt b p.at_ 2, l4Dst := beAt b (p.at_ + 2) 2 } else .stop q

/-- GRE: a version other than 0 is not recognised, so that it counts as no header; a tunnel on the first pass. -/
def parseGre (c : ParseCfg) (b : List Byte) (p : Parsed) : ParseOut :=
  let fl := beAt b p.at_ 2
  if p.at_ + 2 ≤ b.length ∧ p.at_ + 2 ≤ p.start + 256 ∧ fl % 8 ≠ 0 then .stop p
  else match takeHdr b 4 p with
  | .error e => p.fail e
  | .ok _ =>
    if c.second then p.fail 6
    else match takeHdr b (4 + 4 * (b2n (bit fl 15) + b2n (bit fl 13) + b2n (bit fl 12))) p with
      | .error e => p.fail e
      | .ok q =>
        let key := if bit fl 13 then beAt b (p.at_ + 4 + 4 * b2n (bit fl 15)) 4 else 0
        let t := beAt b (p.at_ + 2) 2
        let h : Hdr := if t = 0x6558 then .eth else if t = 0x0800 then .ipv4 else if t = 0x86DD then .ipv6 else .none
        .stop { q with tun := 2, tunId := key, inner := some (q.at_, h) }

/-- Parse one header. -/
def parseHdr (c : ParseCfg) (b : List Byte) : Hdr → Parsed → ParseOut
  | .eth, p => parseEth c b p
  | .vlan, p => parseVlan c b p
  | .mpls, p => parseMpls b p
  | .ipv4, p => parseIpv4 b p
  | .ipv6, p => parseIpv6 b p
  | .ext, p => parseExt b p
  | .frag6, p => parseFrag6 b p
  | .l4, p => parseL4 c b p
  | .gre, p => parseGre c b p
  | .none, p => .stop p

/-- Parse headers until the pass ends; fuel bounds the headers, of which a 13th is an exception. -/
def parseLoop (c : ParseCfg) (b : List Byte) : Nat → Hdr → Parsed → Parsed
  | 0, _, p => p
  | n + 1, h, p =>
    match parseHdr c b h p with
    | .stop q => q
    | .go h q => parseLoop c b n h q

/-- One pass of the parser over a frame, from an offset and a kind of header (R363). -/
def parsePass (c : ParseCfg) (b : List Byte) (off : Nat) (h : Hdr) : Parsed :=
  parseLoop c b 14 h { start := off, at_ := off }

/-- The key of a pass (Table 12-3). -/
def clsKey (src : Nat) (second : Bool) (tun tunId : Nat) (p : Parsed) : Nat :=
  src % 2 ^ 8 + b2n second * 2 ^ 8 + b2n (p.frag == 1) * 2 ^ 13 + p.l3 * 2 ^ 15 + tun * 2 ^ 17 + p.ntags * 2 ^ 19 +
    p.nmpls * 2 ^ 21 + p.vid0 * 2 ^ 24 + p.pcp0 * 2 ^ 36 + p.vid1 * 2 ^ 39 + p.pcp1 * 2 ^ 51 + p.etype * 2 ^ 54 +
    p.mpls0 * 2 ^ 70 + p.da * 2 ^ 90 + p.sa * 2 ^ 138 + p.ipSrc * 2 ^ 186 + p.ipDst * 2 ^ 314 + p.dscp * 2 ^ 442 +
    p.proto * 2 ^ 448 + p.l4Src * 2 ^ 456 + p.l4Dst * 2 ^ 472 + p.tcpFlags * 2 ^ 488 + tunId * 2 ^ 496

/-- Eight bit steps of CRC-32C (reflected polynomial of Castagnoli). -/
def crc32cBits : Nat → Nat → Nat
  | 0, c => c
  | n + 1, c => crc32cBits n (if c.testBit 0 then (c / 2) ^^^ 0x82F63B78 else c / 2)

/-- CRC-32C, initial value 0xFFFFFFFF, final complement (R368, R370, R383). -/
def crc32c (bs : List Nat) : Nat := (bs.foldl (fun c b => crc32cBits 8 (c ^^^ b)) 0xFFFFFFFF) ^^^ 0xFFFFFFFF

/-- Field [hi:lo] of a key as bytes, low byte first. -/
def keyBytes (key hi lo : Nat) : List Nat := (leBytes (ceilDiv (hi + 1 - lo) 8) (bitsOf key hi lo)).map (·.toNat)

/-- The flow hash over the key fields that HASH_SEL names, in the order of their bits (R370). -/
def flowHash (sel key : Nat) : Nat :=
  let f := keyBytes key
  let ips := f 313 186 ++ f 441 314
  crc32c (
    if sel = 0 then f 35 24 ++ f 137 90 ++ f 185 138
    else if sel = 1 then ips ++ f 455 448
    else if sel = 2 then ips ++ f 455 448 ++ f 471 456 ++ f 487 472
    else ips ++ f 527 496)

end Sys2Proof.Machine
end

