-- ==== Sys2Proof/Machine/FwdOps.lean ====
section
/-! DEFINITION. The forwarding table's operations (R383 to R400). Choices: log 22, 32. -/

namespace Sys2Proof.Machine

/-- Replace the forwarding table. -/
def State.setFwd (s : State) (x : Fwd) : State := { s with fwd := x }

/-! Places. -/

/-- First stash position (R399). -/
abbrev stashBase : Nat := 131072
/-- One past the last position. -/
abbrev fwdPlaces : Nat := 131328

/-- The 8 key bytes of a FID and address (R383). -/
def fwdKey (fid mac : Nat) : List Nat := (beBytes 2 fid ++ beBytes 6 mac).map (·.toNat)

/-- The two candidate buckets of a key (R383). -/
def bucketsOf (fid mac : Nat) : Nat × Nat :=
  let h0 := crc32c (fwdKey fid mac) % 32768
  let h1 := crc32 (fwdKey fid mac) % 32768
  (h0, if h1 = h0 then h1 ^^^ 1 else h1)

/-- The entry at a position. -/
def State.fwdAt (s : State) (pos : Nat) : Option FwdEntry := sparseGet (fun _ => none) s.fwd.entries pos

/-- Write a position: a table memory write (R525). -/
def State.setFwdAt (s : State) (pos : Nat) (e : Option FwdEntry) : State :=
  (s.setFwd { s.fwd with entries := sparseSet (fun _ => none) s.fwd.entries pos e }).wroteTable 2 pos

/-- Positions of a bucket. -/
def bucketPlaces (b : Nat) : List Nat := [4 * b, 4 * b + 1, 4 * b + 2, 4 * b + 3]

/-- Positions in use in the stash. -/
def State.stashUsed (s : State) : List Nat := (s.fwd.entries.map (·.1)).filter (fun p => decide (stashBase ≤ p))

/-- Positions that one lookup reads (R384). -/
def State.lookupPlaces (s : State) (fid mac : Nat) : List Nat :=
  let b := bucketsOf fid mac
  bucketPlaces b.1 ++ bucketPlaces b.2 ++ s.stashUsed

/-- Does the entry at a position hold a key? -/
def State.holdsKey (s : State) (fid mac pos : Nat) : Bool :=
  match s.fwdAt pos with
  | some e => e.fid == fid && e.mac == mac
  | none => false

/-- Where a key lies, whatever its parity. -/
def State.fwdFind (s : State) (fid mac : Nat) : Option Nat := (s.lookupPlaces fid mac).find? (s.holdsKey fid mac)

/-- Add a request to the learn arbiter; one that repeats the key and DEST of a request queued is merged, one that finds the
queue of 256 full is discarded and counted (R389). -/
def State.fwdRequest (s : State) (r : FwdReq) : State :=
  if s.fwd.reqs.any (fun q => q.fid == r.fid && q.mac == r.mac && q.dest == r.dest && q.kind != .age && q.kind != .parity)
  then s
  else if 256 ≤ s.fwd.reqs.length then s.bump C.FWD_LEARN_DROP
  else s.setFwd { s.fwd with reqs := s.fwd.reqs ++ [r] }

/-- Add a deletion to the learn arbiter, once, while it has room. -/
def State.requestDelete (s : State) (kind : FwdKind) (e : FwdEntry) : State :=
  if s.fwd.reqs.any (fun q => q.fid == e.fid && q.mac == e.mac && q.kind == kind) || decide (256 ≤ s.fwd.reqs.length) then s
  else s.setFwd { s.fwd with reqs := s.fwd.reqs ++ [⟨kind, e.mac, e.fid, 0, 255⟩] }

/-- A lookup meets the parity errors of the places it reads: each is counted, and a learned entry's deletion is queued
(R524). -/
def State.meetFwdParity (s : State) : List Nat → State
  | [] => s
  | p :: ps =>
    let s := if s.parityBad 2 p then
        let s := s.meetParity 2 p 1
        match s.fwdAt p with
        | some e => if e.static then s else s.requestDelete .parity e
        | none => s
      else s
    s.meetFwdParity ps

/-- A lookup of a key: the position and entry found with good parity (R383, R384, R524). -/
def State.fwdLookup (s : State) (fid mac : Nat) : State × Option (Nat × FwdEntry) :=
  let ps := s.lookupPlaces fid mac
  let s := s.meetFwdParity ps
  match ps.find? (fun p => s.holdsKey fid mac p && !s.parityBad 2 p) with
  | none => (s, none)
  | some p => (s, (s.fwdAt p).map (fun e => (p, e)))

/-! Moves between places (R393, R394, R400). -/

/-- An open walk. -/
def State.walkAt (s : State) (i : Nat) : Option Walk := sparseGet (fun _ => none) s.fwd.walks i
/-- Replace a walk. -/
def State.setWalk (s : State) (i : Nat) (w : Option Walk) : State :=
  s.setFwd { s.fwd with walks := sparseSet (fun _ => none) s.fwd.walks i w }

/-- Does a move pass a walk's cursor (R400)? -/
def crosses (w : Walk) (src dst : Nat) : Bool := decide (w.cursor ≤ src) && decide (dst < w.cursor)

/-- May a list of moves (from, to) be made: no walk's carry list would overflow (R400)? -/
def State.movesAllowed (s : State) (ms : List (Nat × Nat)) : Bool :=
  s.fwd.walks.all (fun p => match p.2 with
    | none => true
    | some w => decide (w.carry.length + (ms.filter (fun m => crosses w m.1 m.2)).length ≤ 64))

/-- A move places a copy on the carry list of each walk that it passes (R400). -/
def State.carryCopies (s : State) (e : FwdEntry) (src dst : Nat) : State :=
  s.setFwd { s.fwd with walks := sparseMap (fun _ => none) (fun _ w => match w with
    | none => none
    | some w => some (if crosses w src dst then { w with carry := w.carry ++ [e] } else w)) s.fwd.walks }

/-- Move an entry: written in its new place, then the old one invalidated (R393). -/
def State.moveEntry (s : State) (src dst : Nat) : State :=
  match s.fwdAt src with
  | none => s
  | some e => (((s.setFwdAt dst (some { e with stashNo := 0 })).carryCopies e src dst).setFwdAt src none)

/-- First free way of a bucket. -/
def State.freeWay (s : State) (b : Nat) : Option Nat := (bucketPlaces b).find? (fun p => (s.fwdAt p).isNone)

/-- The other candidate bucket of the entry at a position. -/
def State.otherBucket (s : State) (pos : Nat) : Option Nat :=
  (s.fwdAt pos).map (fun e => let b := bucketsOf e.fid e.mac; if pos / 4 = b.1 then b.2 else b.1)

/-- The moves of a path, from its free end backwards: dst is free, and the list is the places to be moved, the last first. -/
def pathMoves (dst : Nat) : List Nat → List (Nat × Nat)
  | [] => []
  | p :: ps => (p, dst) :: pathMoves p ps

/-- Look along the ends of paths for one whose last entry has a free way in its other bucket. -/
def State.pathEnd (s : State) : List (List Nat) → Option (List (Nat × Nat))
  | [] => none
  | [] :: rest => s.pathEnd rest
  | (p :: ps) :: rest =>
    match (s.otherBucket p).bind s.freeWay with
    | some w => some (pathMoves w (p :: ps))
    | none => s.pathEnd rest

/-- Lengthen paths by the entries of the other buckets, each place once. -/
def State.widen (s : State) : List Nat → List (List Nat) → List Nat × List (List Nat)
  | seen, [] => (seen, [])
  | seen, [] :: rest => s.widen seen rest
  | seen, (p :: ps) :: rest =>
    let new := match s.otherBucket p with
      | none => []
      | some b => (bucketPlaces b).filter (fun q => !seen.contains q)
    let r := s.widen (seen ++ new) rest
    (r.1, new.map (fun q => q :: p :: ps) ++ r.2)

/-- A relocation path of at most n moves (R393), the shortest; the spec names no choice among them (log 32). -/
def State.findPath (s : State) : Nat → List Nat → List (List Nat) → Option (List (Nat × Nat))
  | 0, _, _ => none
  | n + 1, seen, paths =>
    match s.pathEnd paths with
    | some ms => some ms
    | none => let w := s.widen seen paths; if w.2.isEmpty then none else s.findPath n w.1 w.2

/-- MAX_KICKS: other values than 1-128 act as 32 (Table 13-5). -/
def State.maxKicks (s : State) : Nat :=
  let k := s.fld F.FWD_CFG_MAX_KICKS
  if 1 ≤ k ∧ k ≤ 128 then k else 32

/-- First free stash place. -/
def State.freeStash (s : State) : Option Nat :=
  ((List.range 256).map (· + stashBase)).find? (fun p => (s.fwdAt p).isNone)

/-- Put a new entry into the stash, or fail: counted, told once per vector cycle (R393, Table 13-6). -/
def State.toStash (s : State) (e : FwdEntry) : State × Bool :=
  match s.freeStash with
  | some p =>
    let n := s.fwd.stashNo + 1
    ((s.setFwd { s.fwd with stashNo := n }).setFwdAt p (some { e with stashNo := n }), true)
  | none =>
    let s := s.bump C.FWD_TABLE_FULL
    let s := if s.fwd.fullTold then s
      else (s.setFwd { s.fwd with fullTold := true }).raise 0x0082 2 0x0D02 3
        (fitB 16 (leBytes 2 e.fid ++ beBytes 6 e.mac ++ leBytes 2 s.stashUsed.length))
    (s, false)

/-- Insertion of an entry whose key is absent (R393); the answer says whether it found a place. -/
def State.place (s : State) (e : FwdEntry) : State × Bool :=
  let b := bucketsOf e.fid e.mac
  match s.freeWay b.1, s.freeWay b.2 with
  | some p, _ => (s.setFwdAt p (some e), true)
  | none, some p => (s.setFwdAt p (some e), true)
  | none, none =>
    let roots := bucketPlaces b.1 ++ bucketPlaces b.2
    match s.findPath s.maxKicks roots (roots.map (fun p => [p])) with
    | none => s.toStash e
    | some ms =>
      if s.movesAllowed ms then
        let s := ms.foldl (fun s m => s.moveEntry m.1 m.2) s
        match ms.getLast? with
        | some m => (s.setFwdAt m.1 (some e), true)
        | none => (s, false)
      else s.toStash e

/-- The stash entry longest there that has a bucket as candidate (R394). -/
def State.stashFor (s : State) (b : Nat) : Option Nat :=
  let cs := s.stashUsed.filterMap (fun p => (s.fwdAt p).bind (fun e =>
    let h := bucketsOf e.fid e.mac
    if h.1 = b ∨ h.2 = b then some (e.stashNo, p) else none))
  (cs.foldl (fun (best : Option (Nat × Nat)) c => match best with
    | none => some c
    | some x => if c.1 < x.1 then some c else some x) none).map (·.2)

/-- Delete the entry at a position; a bucket way that becomes free takes the entry longest in the stash (R394). -/
def State.removeAt (s : State) (pos : Nat) : State :=
  let s := s.setFwdAt pos none
  if stashBase ≤ pos then s
  else match s.stashFor (pos / 4) with
    | none => s
    | some p => if s.movesAllowed [(p, pos)] then s.moveEntry p pos else s

/-! Creation, use counts. -/

/-- Entries counted for a source (R391). -/
def State.portUse (s : State) (src : Nat) : Nat :=
  (s.fwd.entries.filter (fun p => match p.2 with
    | some e => e.src == src && !e.static
    | none => false)).length

/-- Is a source at its limit (R391)? -/
def State.atLimit (s : State) (src : Nat) : Bool :=
  let l := s.fld (F.FWD_PORT_CFG_LIMIT src)
  l != 0 && s.portUse src == l

/-- A learn or move into a source at its limit is refused (R391, Table 13-6). -/
def State.limitHit (s : State) (src : Nat) : State :=
  let s := s.bump C.FWD_LIMIT_HIT
  if bit s.fwd.limitTold src then s
  else (s.setFwd { s.fwd with limitTold := setBit s.fwd.limitTold src }).raiseRow 0x0082 2 13 3 3
    [(1, src), (4, s.fld (F.FWD_PORT_CFG_LIMIT src))]

/-- Create an entry (R387): generation, clocks. -/
def State.create (s : State) (e : FwdEntry) : State × Bool :=
  let x := s.fwd
  let r := s.place { e with lock := false, moves := 0, mt := x.ms, ts := x.now, gen := x.gen }
  if r.2 then (r.1.setFwd { r.1.fwd with gen := (x.gen + 1) % 65536 }, true) else r

/-- Aging unit clock runs at UNIT: 0 acts as 1,000 (Table 13-5). -/
def State.ageUnit (s : State) : Nat :=
  let u := s.fld F.FWD_AGE_CFG_UNIT
  if u = 0 then 1000 else u

/-- Distance of a 16-bit clock from an earlier value (R387). -/
def clockSince (now then_ : Nat) : Nat := (now + 65536 - then_ % 65536) % 65536

/-- Is an entry aged (R395)? -/
def State.aged (s : State) (e : FwdEntry) : Bool :=
  let l := s.fld F.FWD_AGE_CFG_LIMIT
  l != 0 && !e.static && !e.lock && decide (l ≤ clockSince s.fwd.now e.ts)

/-- The clocks of R387 at a tick edge. -/
def State.fwdTick (s : State) : State :=
  let x := s.fwd
  let m := if 47 ≤ x.msTicks then (0, (x.ms + 1) % 65536) else (x.msTicks + 1, x.ms)
  let c := if 47999 ≤ x.secTicks then (0, (x.sec + 1) % 65536) else (x.secTicks + 1, x.sec)
  let n := if s.ageUnit * 48 ≤ x.nowTicks + 1 then (0, (x.now + 1) % 65536) else (x.nowTicks + 1, x.now)
  s.setFwd { x with
    msTicks := m.1, ms := m.2, secTicks := c.1, sec := c.2, nowTicks := n.1, now := n.2 }

/-! Grants. -/

/-- Window: other values than 10-1,000 act as 1,000. -/
def State.moveWindow (s : State) : Nat :=
  let w := s.fld F.FWD_MOVE_CFG_WINDOW
  if 10 ≤ w ∧ w ≤ 1000 then w else 1000
/-- Moves allowed per window: 0 acts as 4. -/
def State.moveLimit (s : State) : Nat :=
  let m := s.fld F.FWD_MOVE_CFG_MOVES
  if m = 0 then 4 else m
/-- Lock time: 0 acts as 60. -/
def State.lockTime (s : State) : Nat :=
  let l := s.fld F.FWD_MOVE_CFG_LOCK_S
  if l = 0 then 60 else l

/-- A station move is granted on the entry at a position (R391, R392). -/
def State.grantMove (s : State) (pos : Nat) (e : FwdEntry) (r : FwdReq) : State :=
  if e.static || e.lock then s
  else if r.src ≠ e.src ∧ s.atLimit r.src then s.limitHit r.src
  else
    let x := s.fwd
    let old := decide (s.moveWindow ≤ clockSince x.ms e.mt)
    let moves := (if old then 0 else e.moves) + 1
    let mt := if old then x.ms else e.mt
    if s.moveLimit < moves then
      (s.setFwdAt pos (some { e with lock := true, mt := x.sec, moves := 0 })).raise 0x0082 2 0x0D01 3
        (fitB 16 (leBytes 2 e.fid ++ beBytes 6 e.mac ++ leBytes 1 e.dest ++ leBytes 1 r.dest))
    else
      (s.setFwdAt pos (some { e with dest := r.dest, src := r.src, ts := x.now, moves := moves, mt := mt })).bump
        C.FWD_MOVES

/-- A refresh is granted on the entry at a position. -/
def State.grantRefresh (s : State) (pos : Nat) (e : FwdEntry) : State :=
  if e.static || e.lock then s else s.setFwdAt pos (some { e with ts := s.fwd.now })

/-- A request on a key that is present: a refresh where the entry has its DEST, else a move (R390). -/
def State.grantPresent (s : State) (pos : Nat) (e : FwdEntry) (r : FwdReq) : State :=
  if e.dest = r.dest then s.grantRefresh pos e else s.grantMove pos e r

/-- The entry a request's key now has, with its place. -/
def State.present (s : State) (r : FwdReq) : Option (Nat × FwdEntry) :=
  (s.fwdFind r.fid r.mac).bind (fun p => (s.fwdAt p).map (fun e => (p, e)))

/-- A learn is granted (R387, R390, R391). -/
def State.grantLearn (s : State) (r : FwdReq) : State :=
  match s.present r with
  | some (p, e) => s.grantPresent p e r
  | none =>
    if s.atLimit r.src then s.limitHit r.src
    else
      let c := s.create { mac := r.mac, fid := r.fid, dest := r.dest, src := r.src }
      if c.2 then c.1.bump C.FWD_LEARNED else c.1

/-- The oldest request leaves the arbiter. -/
def State.nextReq (s : State) : State := s.setFwd { s.fwd with reqs := s.fwd.reqs.drop 1 }

/-! Records and destinations. -/

/-- The 16-byte record of an entry (Table 13-2). -/
def FwdEntry.record (e : FwdEntry) : List Byte :=
  beBytes 6 e.mac ++ leBytes 2 e.fid ++ leBytes 1 e.dest ++ leBytes 1 (b2n e.static + 2 * b2n e.lock + 16 * e.moves) ++
    leBytes 2 e.ts ++ leBytes 2 e.mt ++ leBytes 2 e.gen

/-- Flood set of a FID (R385). -/
def State.floodSet (s : State) (fid : Nat) : Nat := sparseGet (fun _ => 0x0FFFFFFF) s.fwd.flood fid
/-- Port set by number (R385). -/
def State.portSet (s : State) (i : Nat) : Nat := sparseGet (fun _ => 0) s.fwd.ports i

/-- DEST codes of a 32-bit mask. -/
def maskDests (m : Nat) : List Nat := (List.range 32).filter (fun d => bit m d)

/-- The DEST codes that one DEST stands for: a port set's members. -/
def State.expandDest (s : State) (d : Nat) : List Nat := if 128 ≤ d then maskDests (s.portSet (d - 128)) else [d]

/-- Is an address a group address? -/
def isGroup (mac : Nat) : Bool := bit (mac / 2 ^ 40) 0

/-- The learned DEST of a source (R388). -/
def State.sourceDest (s : State) (src : Nat) : Nat :=
  if src < 24 then src
  else match s.groupOf (src - 24) with
    | some g => 28 + g
    | none => src

/-- DEST codes that delivery excludes for a source (R386); 255: none. -/
def State.excluded (s : State) (src : Nat) : List Nat :=
  if src < 24 then [src]
  else if src < 28 then
    match s.groupOf (src - 24) with
    | some g => (28 + g) :: (chansOf (s.group g).members).map (· + 24)
    | none => [src]
  else []

/-- The destination lookup (R386). -/
def State.destLookup (s : State) (fid da : Nat) : State × List Nat :=
  let r := (s.bump C.FWD_LOOKUP).fwdLookup fid da
  match r.2 with
  | some (_, e) =>
    if isGroup da && !e.static then (r.1, maskDests (r.1.floodSet fid)) else (r.1, r.1.expandDest e.dest)
  | none => (r.1, maskDests (r.1.floodSet fid))

/-- Where a frame for a DEST code goes: a level-1 node, a bond group, a device-to-host queue. A frame that its
classification places in an enabled bond group goes to the group when its DEST is a member channel (R158, R385). -/
def State.arrivalFor (s : State) (f : Frame) (d : Nat) : Arrival :=
  if d < 24 then { frame := f, node1 := d }
  else if d < 28 then
    if f.bond ∧ s.groupOf (d - 24) = some f.bondGroup then { frame := f, node1 := 24, group := some f.bondGroup }
    else { frame := f, node1 := d }
  else if d < 32 then { frame := f, node1 := 24, group := some (d - 28) }
  else { frame := f, node1 := 28, dq := d - 32 }

/-- Hand a frame to the queue manager for its destinations, from the agent that holds its buffer (R411, R414). -/
def State.submit (s : State) (f : Frame) (agent inst : Nat) (as : List Arrival) : State :=
  let s := (s.handover f.buf agent inst agQm).setDests f.buf as.length
  { s with sched := { s.sched with arrivals := s.sched.arrivals ++ as } }

end Sys2Proof.Machine
end

