-- ==== Sys2Proof/Machine/ClsOps.lean ====
section
/-! DEFINITION. The classifier's operations (R362 to R379): versions, lookups, fragments, the passes, and what the
forwarding table does with the result (R386, R388). Choices: log 21. -/

namespace Sys2Proof.Machine

/-- Replace the classifier. -/
def State.setCls (s : State) (c : Classifier) : State := { s with cls := c }

/-! Versions (R372, R373). -/

/-- Is version x at or after y (R372)? -/
def verAtOrAfter (x y : Nat) : Bool := decide ((x + 8 - y % 8) % 8 ≤ 3)

/-- Is an entry visible to a version (R372)? -/
def ClsEntry.visible (e : ClsEntry) (v : Nat) : Bool :=
  (match e.addV with
    | none => true
    | some a => verAtOrAfter v a) &&
  (match e.delV with
    | none => true
    | some d => !verAtOrAfter v d)

/-- The staged version. -/
def State.staged (s : State) : Nat := (s.cls.ver + 1) % 8

/-- A rule slot; idx is 8,192 × rule set + slot. -/
def State.ruleAt (s : State) (idx : Nat) : Option ClsEntry := sparseGet (fun _ => none) s.cls.rules idx
/-- A flow table place; idx is 4 × set + way. -/
def State.flowAt (s : State) (idx : Nat) : Option ClsEntry := sparseGet (fun _ => none) s.cls.flows idx

/-- Write a rule slot. -/
def State.setRule (s : State) (idx : Nat) (e : Option ClsEntry) : State :=
  (s.setCls { s.cls with rules := sparseSet (fun _ => none) s.cls.rules idx e }).wroteTable 0 idx
/-- Write a flow table place. -/
def State.setFlow (s : State) (idx : Nat) (e : Option ClsEntry) : State :=
  (s.setCls { s.cls with flows := sparseSet (fun _ => none) s.cls.flows idx e }).wroteTable 1 idx

/-- A staged delete of an entry (R373): free at once, marked, or refused. -/
def ClsEntry.stageDelete (e : ClsEntry) (v : Nat) : Option (Option ClsEntry) :=
  if e.addV = some v then some none
  else if e.delV.isSome then none
  else some (some { e with delV := some v })

/-- An entry after CLS_ABORT at staged version v (R373). -/
def ClsEntry.abort (v : Nat) (e : ClsEntry) : Option ClsEntry :=
  if e.addV = some v then none else some (if e.delV = some v then { e with delV := none } else e)

/-- An entry after the sweep that retires the predecessor of v (R376). -/
def ClsEntry.swept (v : Nat) (e : ClsEntry) : Option ClsEntry :=
  if e.delV = some v then none else some (if e.addV = some v then { e with addV := none } else e)

/-- Apply a change to every rule and flow entry. -/
def State.mapEntries (s : State) (f : ClsEntry → Option ClsEntry) : State :=
  s.setCls { s.cls with
    rules := sparseMap (fun _ => none) (fun _ e => e.bind f) s.cls.rules
    flows := sparseMap (fun _ => none) (fun _ e => e.bind f) s.cls.flows }

/-- CLS_ABORT's effect (R373). -/
def State.clsAbort (s : State) : State := s.mapEntries (ClsEntry.abort s.staged)

/-! Lookups. -/

/-- Flow mask of a rule set. -/
def State.flowMask (s : State) (set : Nat) : Nat := sparseGet (fun _ => 0) s.cls.masks set

/-- Set of the flow table for a masked key and rule set (R368). -/
def flowSet (set key : Nat) : Nat := crc32c ((leBytes 68 key).map (·.toNat) ++ [set]) % 16384

/-- Places of a flow table set. -/
def flowPlaces (i : Nat) : List Nat := [4 * i, 4 * i + 1, 4 * i + 2, 4 * i + 3]

/-- A lookup meets parity errors in a table's places: each is counted (R524). -/
def State.meetAll (s : State) (kind : Nat) : List Nat → State
  | [] => s
  | p :: ps => (if s.parityBad kind p then s.meetParity kind p 1 else s).meetAll kind ps

/-- Does a flow entry hold a masked key of a rule set, visible to a version? -/
def State.flowHit (s : State) (v set key i : Nat) : Bool :=
  match s.flowAt i with
  | some e => e.set == set && e.key == key && e.visible v && !s.parityBad 1 i
  | none => false

/-- The flow table's action for a key (R368, R369). -/
def State.flowLookup (s : State) (v set key : Nat) : Option Nat :=
  let k := key &&& s.flowMask set
  ((flowPlaces (flowSet set k)).find? (s.flowHit v set k)).bind (fun i => (s.flowAt i).map (·.action))

/-- Rules of a set that match a key: priority, slot, action (R367). -/
def State.ruleHits (s : State) (v set key : Nat) : List (Nat × Nat × Nat) :=
  s.cls.rules.filterMap (fun p => match p.2 with
    | none => none
    | some e =>
      if e.set = set ∧ e.visible v ∧ key &&& e.mask = e.key ∧ s.parityBad 0 p.1 = false then
        some (e.prio, p.1, e.action) else none)

/-- The winning rule's action (R367): lowest PRIO, then lowest slot. -/
def bestRule : List (Nat × Nat × Nat) → Option (Nat × Nat × Nat)
  | [] => none
  | r :: rs => match bestRule rs with
    | none => some r
    | some b => if b.1 < r.1 ∨ (b.1 = r.1 ∧ b.2.1 < r.2.1) then some b else some r

/-- Look a key up in the flow table and the rule set (R369): the action of a hit. -/
def State.clsLookup (s : State) (v set key : Nat) : State × Option Nat :=
  let rules := (s.cls.rules.map (·.1)).filter (fun i => i / 8192 == set)
  let s := (s.meetAll 1 (flowPlaces (flowSet set (key &&& s.flowMask set)))).meetAll 0 rules
  match s.flowLookup v set key with
  | some a => (s, some a)
  | none => (s, (bestRule (s.ruleHits v set key)).map (·.2.2))

/-! Sources and actions. -/

/-- Default action of a source (R362). -/
def State.srcDefault (s : State) (src : Nat) : Nat :=
  (s.rd (R.CLS_SRC_DEF_HI src)).toNat * 2 ^ 32 + (s.rd (R.CLS_SRC_DEF_LO src)).toNat
/-- Fragment action of a source. -/
def State.srcFrag (s : State) (src : Nat) : Nat :=
  (s.rd (R.CLS_SRC_FRAG_HI src)).toNat * 2 ^ 32 + (s.rd (R.CLS_SRC_FRAG_LO src)).toNat

/-- Base metadata of a packet (R370). -/
def State.baseMeta (s : State) (f : Frame) : Frame :=
  { f with
    fid := s.fld (F.CLS_SRC_CFG_FID f.src), cls := s.fld (F.CLS_SRC_CFG_CLASS f.src), colour := 0, queue := 0, exc := 0,
    bond := false, bondClass := 0, bondGroup := 0, hash := 0, copy := false }

/-- A packet's metadata with HASH_SEL, as its passes leave it. -/
structure Meta where
  f : Frame
  hashSel : Nat := 2
  deriving DecidableEq, Repr

/-- An action overwrites each field whose enable bit is 1 (Table 12-5, R370). -/
def Meta.apply (m : Meta) (a : Nat) : Meta :=
  let f := m.f
  let f := if bit a 33 then { f with fid := bitsOf a 32 21 } else f
  let f := if bit a 20 then { f with queue := bitsOf a 19 17 } else f
  let f := if bit a 16 then { f with colour := min 2 (bitsOf a 15 14) } else f
  let f := if bit a 13 then { f with cls := bitsOf a 12 9 } else f
  let f := if bit a 38 then { f with bond := true, bondClass := bitsOf a 37 36, bondGroup := bitsOf a 35 34 } else f
  { m with f := f, hashSel := if bit a 41 then bitsOf a 40 39 else m.hashSel }

/-- DISP of an action: 5 to 7 act as 1. -/
def dispOf (a : Nat) : Nat := if 5 ≤ a % 8 then 1 else a % 8

/-! Fragments (R377 to R379). -/

/-- Key of the fragment table. -/
def fragKey (src : Nat) (p : Parsed) : List Nat := [src, p.l3, p.ipSrc, p.ipDst, p.fragProto, p.fragId]

/-- Places of the set that a fragment key falls in. -/
def fragPlaces (k : List Nat) : List Nat := flowPlaces (Config.fragSet k).val

/-- A fragment table entry. -/
def State.fragAt (s : State) (i : Nat) : Option FragEntry := sparseGet (fun _ => none) s.cls.frags i

/-- Write a fragment table entry. -/
def State.setFrag (s : State) (i : Nat) (e : Option FragEntry) : State :=
  (s.setCls { s.cls with frags := sparseSet (fun _ => none) s.cls.frags i e }).wroteTable 3 i

/-- FRAG_LIFE in force, in ms (Table 12-7). -/
def State.fragLife (s : State) : Nat :=
  let n := s.fld F.CLS_CFG_FRAG_LIFE
  if 1 ≤ n ∧ n ≤ 100 then n else 10

/-- Has an entry of the fragment table expired (R378)? A ms is 48 ticks (R32). -/
def State.fragExpired (s : State) (e : FragEntry) : Bool :=
  decide (48 * s.fragLife ≤ (s.tick.count - BitVec.ofNat 48 e.at_).toNat)

/-- The place of a fragment key: an entry with a parity error is treated as absent (R524), and so is one that has expired. -/
def State.fragFind (s : State) (k : List Nat) : Option Nat :=
  (fragPlaces k).find? (fun i => !s.parityBad 3 i && (match s.fragAt i with
    | some e => e.key == k && !s.fragExpired e
    | none => false))

/-- May a record take a place of the fragment table: free, expired, or with a parity error? -/
def State.fragFree (s : State) (i : Nat) : Bool :=
  s.parityBad 3 i || (match s.fragAt i with
    | some e => s.fragExpired e
    | none => true)

/-- A first fragment's action is recorded (R378): over an entry of its key, else in a free or expired way; else counted and told,
first per vector cycle. -/
def State.fragRecord (s : State) (src : Nat) (k : List Nat) (a : Nat) : State :=
  let e : FragEntry := ⟨k, a, s.tick.count.toNat⟩
  match s.fragFind k with
  | some i => s.setFrag i (some e)
  | none =>
    match (fragPlaces k).find? (fun i => s.fragFree i) with
    | some i => s.setFrag i (some e)
    | none =>
      let s := s.bump C.CLS_FRAG_FULL
      if s.cls.fragTold then s
      else (s.setCls { s.cls with fragTold := true }).raiseRow 0x0080 2 12 1 3
        [(1, src), (2, (Config.fragSet k).val)]

/-! The passes. -/

/-- Counter EXC[code], 1-10. -/
def excCtr (code : Nat) : Ctr := ⟨0x03000110 + 4 * code, false, R.CLS_SAT, code, 0x0080, 3⟩

/-- What a pass decides: an action and an exception code. -/
structure Verdict where
  action : Nat
  exc : Nat := 0
  deriving DecidableEq, Repr

/-- One pass from what the parser found (R365, R369, R379). -/
def State.classPass (s : State) (v src key : Nat) (p : Parsed) : State × Verdict :=
  if p.exc ≠ 0 then (s.bump (excCtr p.exc), ⟨s.srcDefault src, p.exc⟩)
  else if p.frag = 2 then
    let k := fragKey src p
    let s := s.meetAll 3 (fragPlaces k)
    match (s.fragFind k).bind (fun i => (s.fragAt i).map (·.action)) with
    | some a => (s, ⟨a, 0⟩)
    | none => (s.bump (excCtr 10), ⟨s.srcFrag src, 10⟩)
  else
    match s.clsLookup v (s.fld (F.CLS_SRC_CFG_RULE_SET src)) key with
    | (s, some a) => (s, ⟨a, 0⟩)
    | (s, none) => (s.bump C.CLS_MISS, ⟨s.srcDefault src, 0⟩)

/-- A packet after its passes: metadata and the final action, whose DISP 4 acts as a drop (log 21). -/
structure Classified where
  m : Meta
  action : Nat
  deriving DecidableEq, Repr

/-- The packet leaves the classifier: flow hash and VID0 of the last pass; the final action is recorded for each pass's first
fragment (R377). -/
def State.endClass (s : State) (m : Meta) (key exc a : Nat) (ps : List Parsed) : State × Classified :=
  let s := (ps.filter (fun p => p.frag == 1)).foldl (fun s p => s.fragRecord m.f.src (fragKey m.f.src p) a) s
  let f := { m.f with exc := exc, vid0 := bitsOf key 35 24, hash := flowHash m.hashSel key }
  (s, ⟨{ m with f := f }, a⟩)

/-- A recirculate disposition that is refused (R371): exception 9, and the default action overrides. -/
def State.refuseRecirc (s : State) (f : Frame) (key : Nat) (ps : List Parsed) : State × Classified :=
  let s := s.bump (excCtr 9)
  let a := s.srcDefault f.src
  s.endClass ((⟨s.baseMeta f, 2⟩ : Meta).apply a) key 9 a ps

/-- Classify a frame under version v, on one or two passes (R366, R369 to R371). DISP 4 of whatever action is refused on a packet
without a tunnel and on a second pass. -/
def State.classify (s : State) (v : Nat) (f : Frame) : State × Classified :=
  let src := f.src
  let b := f.delivered
  let c : ParseCfg :=
    ⟨if src < 24 then s.fld (F.ETH_TAG_RX_TPID_S src) else 0x88A8, s.fld F.CLS_CFG_VXLAN_PORT, false⟩
  let p := parsePass c b 0 .eth
  let key := clsKey src false p.tun p.tunId p
  let r := (s.bump C.CLS_PKTS).classPass v src key p
  let x := r.2
  let m := (⟨s.baseMeta f, 2⟩ : Meta).apply x.action
  if dispOf x.action ≠ 4 then r.1.endClass m key x.exc x.action [p]
  else match p.inner with
    | none => r.1.refuseRecirc f key [p]
    | some (off, h) =>
      let p2 := parsePass { c with second := true } b off h
      let key2 := clsKey src true p.tun p.tunId p2
      let r2 := (r.1.bump C.CLS_RECIRC).classPass v src key2 p2
      let x2 := r2.2
      if dispOf x2.action = 4 then r2.1.refuseRecirc f key2 [p, p2]
      else r2.1.endClass (m.apply x2.action) key2 x2.exc x2.action [p, p2]

/-! After classification. -/

/-- The source lookup (R388, R391, R392): requests are queued; the answer says whether the packet is dropped. -/
def State.sourceLookup (s : State) (f : Frame) : State × Bool :=
  let src := f.src
  let sa := beAt f.bytes 6 6
  if f.exc ≠ 0 ∨ s.flag (F.FWD_PORT_CFG_LEARN src) = false ∨ sa = 0 ∨ isGroup sa then (s, false)
  else
    let d := s.sourceDest src
    let r := s.fwdLookup f.fid sa
    let s := r.1
    let limited := s.atLimit src && !s.flag (F.FWD_PORT_CFG_LIMIT_ACT src)
    match r.2 with
    | none => (s.fwdRequest ⟨.learn, sa, f.fid, d, src⟩, limited)
    | some (_, e) =>
      if e.static then (s, false)
      else if e.lock then
        if e.dest = d then (s, false) else (s.bump C.FWD_MOVE_LOCKED, s.flag F.FWD_MOVE_CFG_LOCK_DROP)
      else if e.dest = d then
        (if e.ts = s.fwd.now then s else s.fwdRequest ⟨.refresh, sa, f.fid, d, src⟩, false)
      else (s.fwdRequest ⟨.move, sa, f.fid, d, src⟩, limited && src != e.src)

/-- Deliver a classified packet (R386, Table 12-5). -/
def State.deliver (s : State) (x : Classified) : State :=
  let f := x.m.f
  let inst := f.src
  let disp := dispOf x.action
  let r := s.sourceLookup f
  let s := r.1
  if r.2 then s.freeBuf f.buf (s.owner f.buf) inst
  else
    let forward := disp == 0 || disp == 3
    let l := if forward then s.destLookup f.fid (beAt f.bytes 0 6) else (s, [])
    let s := l.1
    let ds := l.2.filter (fun d => !(s.excluded f.src).contains d)
    let host : List Arrival := if disp = 2 ∨ disp = 3 then
        [{ frame := { f with copy := disp == 3 }, node1 := 28, dq := bitsOf x.action 8 3 }] else []
    let as := (ds.map (s.arrivalFor f)).eraseDups ++ host
    if as.isEmpty then (if forward then s.bump C.FWD_FILTERED else s).freeBuf f.buf (s.owner f.buf) inst else s.submit f (s.owner f.buf) inst as

/-- Packets in flight under a version (R374). -/
def State.inflight (s : State) (v : Nat) : Nat := sparseGet (fun _ => 0) s.cls.inflight v

/-- Change the packets in flight under a version. -/
def State.setInflight (s : State) (v n : Nat) : State :=
  s.setCls { s.cls with inflight := sparseSet (fun _ => 0) s.cls.inflight v n }

end Sys2Proof.Machine
end

