-- ==== Sys2Proof/Machine/BootOps.lean ====
section
/-! DEFINITION. Flash, firmware images, board table copies, recovery mode and the restart of the control cores (R523, R580 to
R582, R588). Choices: log 28. -/

namespace Sys2Proof.Machine

/-! Flash (R580). Bytes that nothing has written are erased. -/

/-- The sequence number of the journal copy that a byte of flash belongs to. -/
def State.mirrorAt (s : State) (a : Nat) : Option Nat :=
  if 0x020000 ≤ a ∧ a < 0x030000 then (sparseGet (fun _ => none) s.jrn.mirror ((a - 0x020000) / 32768)).map (·.1) else none

/-- A byte of flash. -/
def State.flashAt (s : State) (a : Nat) : Byte :=
  match s.mirrorAt a with
  | some n => Config.mirrorByte n a
  | none => sparseGet (fun _ => 0xFF) s.boot.flash a

/-- n bytes of flash. -/
def State.flashBytes (s : State) (a n : Nat) : List Byte := (List.range n).map (fun i => s.flashAt (a + i))

/-- Put a byte of flash. -/
def State.setFlash (s : State) (a : Nat) (b : Byte) : State :=
  s.setBoot { s.boot with flash := sparseSet (fun _ => 0xFF) s.boot.flash a b }

/-- Address of firmware image k, 0 A, 1 B. -/
def imageBase (k : Nat) : Nat := if k = 0 then 0x100000 else 0x500000

/-- Address of board table copy k. -/
def boardBase (k : Nat) : Nat := if k = 0 then 0 else 0x10000

/-- Numbers of bytes. -/
def natsOf (bs : List Byte) : List Nat := bs.map (·.toNat)

/-- The header of image k. -/
def State.imageHead (s : State) (k : Nat) : List Byte := s.flashBytes (imageBase k) 64

/-- Is image k good (R581, Table 21-3)? -/
def State.imageOk (s : State) (k : Nat) : Bool :=
  let h := s.imageHead k
  let n := leAt h 8 4
  natsOf (h.take 4) == [0x56, 0x4C, 0x46, 0x57] && leAt h 4 1 == 1 && n % 32 == 0 && decide (n ≤ 4194240) &&
    natsOf (h.drop 48) ==
      aesCmac (beNat 32 Config.bootKey.toNat) (natsOf (h.take 48 ++ s.flashBytes (imageBase k + 64) n))

/-- Records of a board table copy from an offset: each ends before the CRC, and a known TYPE has the LEN it requires. -/
def recordsOk (bs : List Byte) (stop : Nat) : Nat → Nat → Bool
  | 0, _ => true
  | n + 1, off =>
    let ty := leAt bs off 2
    let len := leAt bs (off + 2) 2
    let next := off + 4 + 4 * ceilDiv len 4
    decide (next ≤ stop) && (ty == 0 || decide (9 < ty) || len == Config.recordLen ty) && recordsOk bs stop n next

/-- Is board table copy k good (R582, Table 21-4)? -/
def State.boardOk (s : State) (k : Nat) : Bool :=
  let h := s.flashBytes (boardBase k) 16
  let n := leAt h 8 4
  natsOf (h.take 4) == [0x56, 0x4C, 0x42, 0x54] && leAt h 4 1 == 1 && decide (20 ≤ n) && decide (n ≤ 65536) &&
    (let bs := s.flashBytes (boardBase k) n
     leAt bs (n - 4) 4 == crc32 (natsOf (bs.take (n - 4))) && recordsOk bs (n - 4) (leAt h 6 2) 16)

/-! Entries and events of the steps. -/

/-- A step that fails for good: its entry and its event (R586, R591). -/
def State.stepFailed (s : State) (step result cause detail ms : Nat) : State :=
  (s.journal step result cause 3 detail ms).aonEvent 1 21 2 [(1, step), (1, result), (1, cause), (4, detail)]

/-- The wake from DARK, if one led to this start, is over: the device is in CLEAR. -/
def State.wakeOver (s : State) : State := if s.pwr.state = 3 then s.reached 0 else s

/-- Recovery mode is entered at a step (R588). -/
def State.enterRecovery (s : State) (step cause detail ms : Nat) : State :=
  let s := s.stepFailed step 4 cause detail ms
  let s := State.assertFault (s.setBoot { s.boot with mode := 2, endpointUp := true })
  (s.flushEvents.wakeOver).aonEvent 0 21 1 [(1, step), (1, cause)]

/-- An image is taken (S4). -/
def State.takeImage (s : State) (k : Nat) : State :=
  s.setBoot { s.boot with image := k, imageGood := true, fwVersion := leAt (s.imageHead k) 12 4 }

/-- The control cores restart (R523, R578): they run step S4 again, and the data paths keep running. -/
def State.coreRestart (s : State) : State :=
  let k := s.jrn.core.image
  let done := fun (s : State) (k : Nat) =>
    ((s.takeImage k).journal 0x40 0 1 1 k s.msNow).aonEvent 1 21 3 [(1, k)]
  if s.imageOk k then done s k
  else if s.imageOk (1 - k) then
    let s := s.setCore { s.jrn.core with image := 1 - k }
    done (s.stepFailed 4 2 1 k s.msNow) (1 - k)
  else
    let s := s.setBoot { s.boot with imageGood := false, fwVersion := 0 }
    (s.journal 0x40 4 1 1 k s.msNow).enterRecovery 4 1 k s.msNow

end Sys2Proof.Machine
end

