-- ==== Sys2Proof/Machine/HostRings.lean ====
section
/-! DEFINITION. The rings of a function, and the commands of the Management group (R552 to R563, R576, R587).
Choices: log 7, 8, 33. -/

namespace Sys2Proof.Machine

/-! Fast paths of the rings (R552, R553, R599). -/

/-- A refused index write (R553). -/
def State.indexRefused (s : State) (f ring v : Nat) : State := s.raiseRow 0x00E0 2 20 2 f [(1, ring), (4, v)]

/-- CMD_TAIL_WRITE: a function writes HOST_CMD_TAIL (R552, R553). -/
def execCmdTailWrite (f : Fin 6) (v : Word) (s : State) : Host.Outcome State Fault Refusal :=
  let f := f.val
  if (s.fn f).resetting then .next s
  else if ringSize 7 (s.fld (F.HOST_RING_CFG_CMD_SIZE f)) < (v - (s.fn f).cmdHead).toNat then .next (s.indexRefused f 0 v.toNat)
  else .next (s.wr (R.HOST_CMD_TAIL f) v)

/-- Is an RD write refused: WR - RD above the ring size, or RD past WR (R553)? old is RD before it. -/
def rdRefused (wr old v : BitVec 32) (size : Nat) : Bool :=
  decide (size < (wr - v).toNat) || decide ((wr - old).toNat < (v - old).toNat)

/-- RPL_RD_WRITE: a function writes HOST_RPL_RD (R552, R553). -/
def execRplRdWrite (f : Fin 6) (v : Word) (s : State) : Host.Outcome State Fault Refusal :=
  let f := f.val
  if (s.fn f).resetting then .next s
  else if rdRefused (s.fn f).rplWr (s.rd (R.HOST_RPL_RD f)) v (ringSize 7 (s.fld (F.HOST_RING_CFG_RPL_SIZE f))) then
    .next (s.indexRefused f 1 v.toNat)
  else .next (s.wr (R.HOST_RPL_RD f) v)

/-- EVT_RD_WRITE: a function writes HOST_EVT_RD (R552, R553). -/
def execEvtRdWrite (f : Fin 6) (v : Word) (s : State) : Host.Outcome State Fault Refusal :=
  let f := f.val
  if (s.fn f).resetting then .next s
  else if rdRefused (s.fn f).evtWr (s.rd (R.HOST_EVT_RD f)) v (ringSize 6 (s.fld (F.HOST_RING_CFG_EVT_SIZE f))) then
    .next (s.indexRefused f 2 v.toNat)
  else .next (s.wr (R.HOST_EVT_RD f) v)

/-- The value of HOST_RING_CFG after a write (R552): a ring whose EN was 1 keeps its SIZE. -/
def ringCfgAfter (old v : Nat) : Nat :=
  let size := fun (en hi lo : Nat) => if bit old en then bitsOf old hi lo else bitsOf v hi lo
  putBits (putBits (putBits v 28 24 (size 31 28 24)) 23 19 (size 30 23 19)) 18 14 (size 29 18 14)

/-- RING_CFG_WRITE: a function writes HOST_RING_CFG (R552). -/
def execRingCfgWrite (f : Fin 6) (v : Word) (s : State) : Host.Outcome State Fault Refusal :=
  let f := f.val
  if (s.fn f).resetting then .next s
  else .next (s.wrRw (R.HOST_RING_CFG f) (ringCfgAfter (s.rd (R.HOST_RING_CFG f)).toNat v.toNat))

/-- PAD: a packet of opcode 0x0000 is skipped: no check, no reply (R555). -/
def execPad (p : Pkt) (s : State) : Host.Outcome State Fault Refusal :=
  let f := p.func.val
  let h := s.fn f
  if s.flag (F.HOST_RING_CFG_CMD_EN f) && !h.resetting && s.boot.mode != 0 && decide (unitsOf p.length ≤ s.posted f) then
    .next ((s.setFn f { h with cmdHead := h.cmdHead + BitVec.ofNat 32 (unitsOf p.length) }).writeBack f)
  else .next s

/-- REPLY_WRITE: the oldest held reply goes out once RPL_EN is 1 and the ring has room (R558). -/
def execReplyWrite (f : Fin 6) (s : State) : Host.Outcome State Fault Refusal := .next (s.flushReply f.val)

/-- Work that a command of function f, number id, has left waiting is withdrawn. -/
def State.dropJobs (s : State) (f id : Nat) : State :=
  let mine := fun (g i : Nat) => g == f && i == id
  let s := { s with tick := { s.tick with change := s.tick.change.filter (fun m => !mine m.func m.id) } }
  s.setVec { s.vec with
    params := s.vec.params.filter (fun j => !mine j.func j.id)
    rejoins := s.vec.rejoins.filter (fun r => !mine r.func r.id)
    retiring := s.vec.retiring.map (fun r =>
      if (match r.cmd with
          | some c => mine c.1 c.2
          | none => false) then { r with cmd := none } else r) }

/-- COMMAND_TIMEOUT: a command that replies D has not ended 1 s, 48,000 ticks, after it began (R560, Table 20-5). -/
def execCommandTimeout (f : Fin 6) (id : Nat) (s : State) : Host.Outcome State Fault Refusal :=
  if (s.fn f.val).begun.any (fun b => b.id == id && decide (b.tick + 48000 ≤ s.tick.count.toNat)) then
    .next ((s.dropJobs f.val id).endLater f.val id ⟨stTimeout, 0, []⟩)
  else .next s

/-! The Management group. -/

/-- Bits of VE_RETIRED[i]: engines 32i to 32i + 31 that are RETIRED (R201). -/
def State.retiredWord (s : State) (i : Nat) : Nat :=
  ((List.range 32).map (fun b => if (s.eng (32 * i + b)).st = .retired then 2 ^ b else 0)).sum

/-- HOST_ID of a function (Table 20-2). -/
def hostId (f : Nat) : Nat := 0xA0 * 2 ^ 24 + f * 2 ^ 20 + 0x9620

/-- What a function's PCI configuration header reports of its identity (R549). -/
structure PciId where
  vendor : Nat
  device : Nat
  classCode : Nat
  subVendor : Nat
  subId : Nat
  deriving DecidableEq, Repr

/-- The identity of a function (R549, Table 20-1); the subsystem IDs are those of the board table copy in use. -/
def State.pciId (s : State) (f : Nat) : PciId :=
  { vendor := 0x1E9C
    device := 0x9620 + f
    classCode := match f with
      | 1 => 0x028000
      | 3 => 0x028000
      | 4 => 0x108000
      | 5 => 0x088000
      | _ => 0x0B4000
    subVendor := s.boot.values.subsys.1
    subId := s.boot.values.subsys.2 }

/-- MGMT_INFO (Table 20-6, R588). -/
def execMgmtInfo (p : Pkt) (s : State) : Host.Outcome State Fault Refusal :=
  runCmd 0x0101 false (lenIs 0 p) (p.target == 0) (fun _ s =>
    finish s (packFrom 0 [(4, hostId 0), (4, if s.boot.imageGood then s.boot.fwVersion else 0), (4, Config.baseSn.toNat),
      (1, s.mem.gib), (4, s.retiredWord 0), (4, s.retiredWord 1), (4, s.retiredWord 2)])) p s

/-- The accounting in force changes (R439, Table 15-7). -/
def State.setAcct (s : State) (acct cause : Nat) : State :=
  let old := s.sched.acct
  if old = acct then s
  else State.raiseRow { s with sched := { s.sched with acct := acct } } 0x0084 3 15 5 3 [(1, old), (1, acct), (1, cause)]

/-- CFG_COMMIT (R439, R563, R600). -/
def execCfgCommit (p : Pkt) (s : State) : Host.Outcome State Fault Refusal :=
  runCmd 0x0102 false (lenIs 0 p) (p.target == 0) (fun _ s =>
    if s.boot.committed then finish s [] 1
    else
      let s := s.setBoot { s.boot with committed := true, bringUp := false }
      finish (s.setAcct (if s.sched.recoveryTicks = 0 then 0 else 2) 0)) p s

/-- JOURNAL_READ: TARGET the index of the first entry, a count of 1-128 (R587). -/
def execJournalRead (p : Pkt) (s : State) : Host.Outcome State Fault Refusal :=
  let c := s.jrn.core
  runCmd 0x0103 false (lenIs 1 p) (decide (p.target.toNat < c.total)) (fun _ s =>
    let n := p.w 0
    if n = 0 ∨ 128 < n then refuse stBadParam s
    else
      let first := max p.target.toNat (c.total - c.entries.length)
      finish s (((c.entries.drop (first - (c.total - c.entries.length))).take n).flatten) first) p s

/-- BOARD_READ: offset and length in a board table copy (Table 20-6, R580). -/
def execBoardRead (p : Pkt) (s : State) : Host.Outcome State Fault Refusal :=
  runCmd 0x0104 false (lenIs 1 p) (decide (p.target.toNat < 2)) (fun _ s =>
    let off := leAt p.bytes 0 2
    let n := leAt p.bytes 2 2
    if 4096 < n ∨ 65536 < off + n then refuse stBadParam s
    else finish s (s.flashBytes (boardBase p.target.toNat + off) n)) p s

/-! Counters (R576). -/

/-- A counter is cleared, and its SAT bit (R576). -/
def State.clearCtr (s : State) (c : Ctr) : State :=
  let s := s.setCount c 0
  if c.wide then s else s.wr c.sat (BitVec.ofNat 32 (clrBit (s.rd c.sat).toNat c.bit))

/-- A counter register that CNT_CLEAR may name for function f. -/
def clearable (f off : Nat) : Bool :=
  match ctrAt off with
  | some c => c.func == f
  | none => off == 0x1048

/-- The counter register at an offset is cleared for function f; HOST_EVT_LOST lies in the function's own ring registers. -/
def State.clearReg (s : State) (f off : Nat) : State :=
  match ctrAt off with
  | some c => s.clearCtr c
  | none => (s.setFn f { s.fn f with evtLost := 0 }).setFld (F.HOST_RING_STATUS_LOST_SAT f) 0

/-- CNT_CLEAR of group grp (R576). -/
def execCntClear (p : Pkt) (grp : Byte) (s : State) : Host.Outcome State Fault Refusal :=
  let g := grp.toNat
  let f := p.func.val
  runCmd (g * 256 + 0xFE) false (lenIs 2 p) (p.target == 0) (fun _ s =>
    let off := p.w 0
    let n := p.w 1
    if n = 0 ∨ 64 < n then refuse stBadParam s
    else if off % 4 = 0 ∧ (List.range n).all (fun i => clearable f (off + 4 * i)) then
      finish ((List.range n).foldl (fun s i => s.clearReg f (off + 4 * i)) s)
    else refuse stBadTarget s) p s

end Sys2Proof.Machine
end

