-- ==== Sys2Proof/Machine/Resets.lean ====
section
/-! DEFINITION. Function-level reset and the reset of the link (R551, R574, R575, R599). Choices: log 29. -/

namespace Sys2Proof.Machine

/-- Every command-completed event still due for function f is suppressed, and what waited for it waits no longer (R574). -/
def State.suppressDone (s : State) (f : Nat) : State :=
  let mine := fun (e : Ev) => e.code == 0x0003 && e.func == f
  let gone := s.arb.sources.flatMap (fun p => (p.2.queue.filter mine).map (·.no))
  let src := sparseMap (fun _ => {}) (fun _ (q : EvSource) => { q with queue := q.queue.filter (fun e => !mine e) }) s.arb.sources
  let ds := (s.arb.deferred.filter (fun d => d.echo.func != f)).map (fun d =>
    { d with waits := d.waits.filter (fun w => !gone.contains w) })
  State.releaseDeferred { s with arb := { s.arb with sources := src, deferred := [] } } ds

/-- The rings of function f as a reset leaves them; the event store is emptied (R574). -/
def State.clearRings (s : State) (f : Nat) : State :=
  let s := ((s.setFld (F.HOST_RING_CFG_CMD_EN f) 0).setFld (F.HOST_RING_CFG_RPL_EN f) 0).setFld (F.HOST_RING_CFG_EVT_EN f) 0
  let s := ((s.wr (R.HOST_CMD_TAIL f) 0).wr (R.HOST_RPL_RD f) 0).wr (R.HOST_EVT_RD f) 0
  s.setFn f { s.fn f with
    cmdHead := 0, rplWr := 0, evtWr := 0, store := [], held := [], begun := [], accepted := [], noticeOpen := false
    noticeDue := false, msix := [] }

/-- The host queues assigned to function f (R429). -/
def State.resetQueues (s : State) (f : Nat) : State :=
  (List.range 64).foldl (fun s q =>
    let s :=
      if s.dqFunc q = f then
        let s := (s.setFld (F.HOST_DQ_CFG_ENABLE q) 0).dropFront q
        (s.setFld (F.HOST_DQ_TAIL_TAIL q) 0).setDq q {}
      else s
    if s.hqFunc q = f then
      let h := s.hq q
      let s := (s.setFld (F.HOST_HQ_CFG_ENABLE q) 0).setFld (F.HOST_HQ_TAIL_TAIL q) 0
      let s := match h.cur with
        | some x => s.freeBuf x.buf agH2d q
        | none => s
      s.setHq q {}
    else s) s

/-- A group loses the commands of PF2 that are not yet in effect; its update cycles are suspended (R575). -/
def Group.afterReset (x : Group) : Group :=
  let stopping := x.stopCmd.isSome && x.boundary.isNone
  let starting := x.state == 2 && x.startCmd.isSome
  { x with
    state := if starting then 1 else if stopping && x.state == 4 then 3 else x.state
    startCmd := none
    stopAt := if stopping then none else x.stopAt
    stopCmd := none
    nextRungs := []
    fences := []
    tgs := x.tgs.map (fun t => { t with staged := [], commit := none, relAt := none })
    frozen := true }

/-- The effects of a reset of PF2 on the vector groups and engines (R575). -/
def State.resetVector (s : State) : State :=
  let s := s.setFld F.VS_CUTOFF_CUT s.vec.cut
  let s := s.setVec { s.vec with
    groups := sparseMap (fun _ => {}) (fun _ x => if x.state = 0 then x else x.afterReset) s.vec.groups
    params := [], rejoins := [], cutAt := none
    retiring := s.vec.retiring.map (fun r => { r with cmd := none }) }
  State.setRunning (s.mapEngs (fun _ x => { x with loadLost := x.loadLost || x.kernel.isSome }))

/-- The effects of a reset of PF3 beyond its queues (R399, R439, R575). -/
def State.resetPacket (s : State) : State :=
  let s := (List.range 4).foldl (fun s i => s.setWalk i none) s.clsAbort
  let s := { s with sched := { s.sched with recoveryTicks := 48000 } }
  if s.sched.acct = 0 then s.setAcct 2 2 else s

/-- The effects of a reset of PF4 (R496): reqs are the requests between HEAD and TAIL. -/
def State.resetCipher (s : State) (reqs : List (List Byte)) : State :=
  let s := (List.range s.rqPosted).foldl (fun s i => s.endRequest ((reqs[i]?).getD []) { result := 6 }) s
  let s := (s.setFld F.CIPH_RQ_CFG_ENABLE 0).setFld F.CIPH_RQ_TAIL_TAIL 0
  let s := { s with ciph := { s.ciph with rqHead := 0 } }
  (List.range 8).foldl (fun s i => s.wr (R.CIPH_KEY_DATA i) 0) (s.wr R.CIPH_KEY_SEL 0)

/-- Table 20-11, and R429. -/
def State.resetEffects (s : State) (f : Nat) (reqs : List (List Byte)) : State :=
  let s := s.resetQueues f
  match f with
  | 2 => s.resetVector
  | 3 => s.resetPacket
  | 4 => s.resetCipher reqs
  | 5 => s.setTime { s.time with fifo := [], todRx := [] }
  | _ => s

/-- A function-level reset of f (R574): steps 1 to 5; a reset under way is joined. -/
def State.resetFunction (s : State) (f : Nat) (reqs : List (List Byte)) : State :=
  if (s.fn f).resetting then s
  else
    let s := ((s.clearRings f).suppressDone f).tellLost f
    let s := s.resetEffects f reqs
    s.setFn f { s.fn f with resetting := true }

/-- Step 6 of R574: the reset of f is done. -/
def State.resetDone (s : State) (f : Nat) : State :=
  if (s.fn f).resetting then (s.setFn f { s.fn f with resetting := false }).raiseRow 0x00E0 3 20 3 f [(4, 0)] else s

/-- FUNCTION_LEVEL_RESET of function f (R574, R575); reqs are the descriptors of the cipher requests between HEAD and TAIL, which
stand in host memory. -/
def execFunctionLevelReset (f : Fin 6) (reqs : List (List Byte)) (s : State) : Host.Outcome State Fault Refusal :=
  .next (s.resetFunction f.val reqs)

/-- PCIE_HOT_RESET: hot reset, link-down reset or PERST_N low (R551, R620). -/
def execPcieHotReset (reqs : List (List Byte)) (s : State) : Host.Outcome State Fault Refusal :=
  .next ((List.range 6).foldl (fun s f => s.resetFunction f reqs) s)

end Sys2Proof.Machine
end

