-- ==== Sys2Proof/Machine/Time.lean ====
section
/-! DEFINITION. Commands of the timebase and PTP unit (chapter 16), those that need no frame. Choices: log 24. -/

namespace Sys2Proof.Machine

/-- TIME_SET_INCREMENT: TIME_CMD OP 1 lands at a raw count (Table 16-1). -/
def execTimeSetIncrement (raw : Nat) (s : State) : Host.Outcome State Fault Refusal := .next (s.timeCmd 1 raw)

/-- TIME_ADJUST: TIME_CMD OP 2. -/
def execTimeAdjust (raw : Nat) (s : State) : Host.Outcome State Fault Refusal := .next (s.timeCmd 2 raw)

/-- TIME_SET_TIME: TIME_CMD OP 3. -/
def execTimeSetTime (raw : Nat) (s : State) : Host.Outcome State Fault Refusal := .next (s.timeCmd 3 raw)

/-- TIME_INCREMENT_ADJUST: TIME_CMD OP 4. -/
def execTimeIncrementAdjust (raw : Nat) (s : State) : Host.Outcome State Fault Refusal := .next (s.timeCmd 4 raw)

/-- TIME_RD_RAW_LO_READ: a read takes the raw count and latches the rest for the function (R460, R596). -/
def execTimeRdRawLoRead (f : Fin 6) (raw : Nat) (s : State) : Host.Outcome State Fault Refusal :=
  if f.val = 5 ∨ f.val = 0 then
    let s := s.rawTo raw
    let r := s.time.raw
    let u := s.time.at r
    let h := s.fn f.val
    .next ((s.setFn f.val { h with rdRawHi := r / 2 ^ 32 % 2 ^ 32, rdSec := timeSec u, rdNs := timeNs u,
                                   rdFrac := timeFrac u }).answer f.val (r % 2 ^ 32))
  else .next (s.answer f.val 0)

/-- CAPTURE_POP: a read of TIME_CAP[0] by PF5 removes the oldest record and latches it (R462); PF0's view has no
effect (R593). -/
def execCapturePop (f : Fin 6) (s : State) : Host.Outcome State Fault Refusal :=
  if f.val = 5 then
    let t := s.time
    match t.fifo with
    | [] =>
      let r := List.replicate 20 (0 : Byte) ++ [0xFF] ++ List.replicate 11 0
      .next ((s.setTime { t with capWords := r }).answer 5 0)
    | r :: rs => .next ((s.setTime { t with capWords := r, fifo := rs }).answer 5 (leAt r 0 4))
  else .next (s.answer f.val 0)

/-- The second that the time, shifted by OUT_OFFSET, has reached at a raw count (R474). -/
def State.ppsSecond (s : State) (r : Nat) : Nat :=
  let off := signedOf 16 (s.fld F.TIME_PPS_CFG_OUT_OFFSET)
  timeSec (((s.time.at r : Int) - off * 2 ^ 40 |>.emod (timeModulus : Int)).toNat)

/-- Has the time, by running, reached a second at raw count r (R474)? A correction that lands there moved it instead. -/
def State.ppsDue (s : State) (r : Nat) : Bool :=
  s.flag F.TIME_PPS_CFG_OUT_EN && decide (s.time.raw ≤ r ∧ s.time.ppsOut < r ∧ s.time.anchor < r) && s.ppsSecond r != s.ppsSecond (r - 1)

/-- WIDTH_MS and DELAY_MS: values other than 1-500 act as d (Table 16-6). -/
def ms500 (d v : Nat) : Nat := if 1 ≤ v ∧ v ≤ 500 then v else d

/-- Raw counts in one second. -/
abbrev rawHz : Nat := 781250000

/-- Bits per second of the time-of-day port. -/
def State.todBaud (s : State) : Nat :=
  match s.fld F.TIME_TOD_CFG_BAUD with
  | 0 => 9600
  | 1 => 38400
  | _ => 115200

/-- Bytes of the time-of-day message in progress that have begun by raw count r, each of ten bits (R476). -/
def State.todBegun (s : State) (start r : Nat) : Nat := (r - start) * s.todBaud / (10 * rawHz) + 1

/-- A new pulse cuts off a time-of-day message that is not finished after its current byte (R476). -/
def State.todCut (s : State) (r : Nat) : State :=
  match s.time.todStart with
  | none => s
  | some start =>
    let n := s.todBegun start r
    let s := s.setTime { s.time with todStart := none }
    if n < 16 then s.emit (.todCut n) else s

/-- PPS_OUT_PULSE: at a raw count the time's seconds advance through 0 ns, shifted by OUT_OFFSET, and 1PPS_OUT drives its pulse
(R474); the time-of-day port owes a message for it (R476). -/
def execPpsOutPulse (raw : Nat) (s : State) : Host.Outcome State Fault Refusal :=
  if s.ppsDue raw then
    let s := s.setTime { s.time with raw := raw, ppsOut := raw }
    let s := s.emit (.pps (!s.flag F.TIME_PPS_CFG_OUT_POL) (ms500 100 (s.fld F.TIME_PPS_CFG_WIDTH_MS)))
    if s.flag F.TIME_TOD_CFG_TOD_EN then
      let s := s.todCut raw
      .next (s.setTime { s.time with todPulse := some (s.ppsSecond raw, raw) })
    else .next s
  else .next (s.rawTo raw)

/-- PPS_IN_EDGE: an edge on 1PPS_IN at a raw count; the active one, which IN_POL selects, makes a capture of KIND 2 (R475). -/
def execPpsInEdge (falling : Bool) (raw : Nat) (s : State) : Host.Outcome State Fault Refusal :=
  let s := s.rawTo raw
  if s.flag F.TIME_PPS_CFG_IN_EN ∧ falling = s.flag F.TIME_PPS_CFG_IN_POL then
    let t := s.time
    let s := s.setTime { t with ppsEdges := t.ppsEdges + 1, ppsLast := t.raw, ppsFrom := t.raw, ppsLostTold := false }
    .next (s.capture 2 0 (leBytes 4 0 ++ leBytes 4 (t.ppsEdges + 1))).1
  else .next s

/-- PPS_IN_LOST: by a raw count no edge has come for 1,100 ms, 859,375,000 counts; the event is raised once (R475). -/
def execPpsInLost (raw : Nat) (s : State) : Host.Outcome State Fault Refusal :=
  let s := s.rawTo raw
  let t := s.time
  if s.flag F.TIME_PPS_CFG_IN_EN ∧ t.ppsLostTold = false ∧ t.ppsFrom + 859375000 ≤ t.raw then
    .next ((s.setTime { t with ppsLostTold := true }).raiseRow 0x0090 1 16 1 5 [(8, t.ppsLast)])
  else .next s

/-- TOD_MESSAGE_SEND: at a raw count DELAY_MS has passed since a pulse, and the time-of-day port begins its message (R476). -/
def execTodMessageSend (raw : Nat) (s : State) : Host.Outcome State Fault Refusal :=
  let s := s.rawTo raw
  match s.time.todPulse with
  | some (sec, pulse) =>
    if s.flag F.TIME_TOD_CFG_TOD_EN ∧ pulse + ms500 10 (s.fld F.TIME_TOD_CFG_DELAY_MS) * (rawHz / 1000) ≤ s.time.raw then
      .next ((s.setTime { s.time with todPulse := none, todStart := some s.time.raw }).emit (.tod (s.todMessage sec)))
    else .next s
  | none => .next s

/-- TOD_RX_BYTE: a byte received on the time-of-day port enters the 256-byte FIFO, or is lost (R477). -/
def execTodRxByte (b : Byte) (s : State) : Host.Outcome State Fault Refusal :=
  let t := s.time
  if t.todRx.length < 256 then .next (s.setTime { t with todRx := t.todRx ++ [b] })
  else .next (s.bump C.TIME_TOD_RX_LOST)

/-- TOD_RX_POP: a read of TIME_TOD_RX by PF5 removes the oldest byte (R477); PF0's view has no effect (R593). -/
def execTodRxPop (f : Fin 6) (s : State) : Host.Outcome State Fault Refusal :=
  if f.val = 5 then
    match s.time.todRx with
    | [] => .next (s.answer 5 0)
    | b :: bs => .next ((s.setTime { s.time with todRx := bs }).answer 5 (256 + b.toNat))
  else .next (s.answer f.val 0)

/-- TIME_STAT_SNAP (R480). -/
def execTimeStatSnap (s : State) : Host.Outcome State Fault Refusal := .next (s.copyBank 0 timeCtrs)

/-- Registers that TIME_CFG may write: the RW registers of Table 16-6, by offset in the Time window. -/
def timeCfgRegs : List Nat :=
  [0x1000, 0x1010, 0x1014, 0x1018, 0x101C, 0x1020, 0x1024, 0x1090, 0x1094, 0x10A0, 0x10C0, 0x10C4, 0x10C8, 0x10CC,
   0x10D0, 0x10D4, 0x10D8, 0x10DC, 0x1100, 0x1110, 0x1114, 0x1120, 0x1124]

/-- A write of TIME_PPS_CFG: an edge is awaited from the raw count at which the input is switched on (R475). -/
def State.writePps (s : State) (v : Nat) : State :=
  let s := if bit v 3 && !s.flag F.TIME_PPS_CFG_IN_EN then s.setTime { s.time with ppsFrom := s.time.raw } else s
  s.wrRw R.TIME_PPS_CFG v

/-- A register of the timebase takes a value. -/
def State.writeTime (s : State) (k v : Nat) : State := if k = R.TIME_PPS_CFG then s.writePps v else s.wrRw k v

/-- Values for consecutive registers of the timebase. -/
def State.writeTimes (s : State) : Nat → List Word → State
  | _, [] => s
  | k, v :: vs => (s.writeTime k v.toNat).writeTimes (k + 4) vs

/-- TIME_CFG: values for consecutive registers from the register offset that TARGET names (R479). -/
def execTimeCfg (p : Pkt) (s : State) : Host.Outcome State Fault Refusal :=
  runCmd 0x4004 false (lenIn 1 1024 p) (timeCfgRegs.contains p.target.toNat) (fun _ s =>
    if (List.range p.length).all (fun i => timeCfgRegs.contains (p.target.toNat + 4 * i)) then
      finish (s.writeTimes (0x03800000 + p.target.toNat) p.payload)
    else refuse stBadTarget s) p s

end Sys2Proof.Machine
end

