-- ==== Sys2Proof/Machine/RegWrite.lean ====
section
/-! DEFINITION. Direct writes of registers, with the access rules of chapter 22 (R7 to R9, R592 to R603). A bit that starts an
operation with a row of its own is carried by that row, and has no effect here. Choices: log 33. -/

namespace Sys2Proof.Machine

/-- Where the model keeps the register that function f names by a BAR0 offset: its ring registers are its own (R550). -/
def regKey (f off : Nat) : Nat := if off < 0x2000 ∧ (off = 0 ∨ 0x1000 ≤ off) then 0x10000000 + f * 0x10000000 + off else off

/-- Are the registers of the host queues at an offset mapped for function f (R416)? -/
def State.queueMapped (s : State) (f off : Nat) : Bool :=
  let r := off - 0x03E00000
  if r < 0x1000 then s.dqFunc (r / 0x40) == f
  else if r < 0x2000 then s.hqFunc ((r - 0x1000) / 0x40) == f
  else if r < 0x3000 then decide (r < 0x2060) && (r - 0x2000) / 0x10 == f
  else f == 3

/-- Access of function f at an offset (R592): 2 full, 1 read-only view, 0 none. -/
def State.access (s : State) (f off : Nat) : Nat :=
  let owned := fun (o : Nat) => if f = o then 2 else if f = 0 then 1 else 0
  let only := fun (o : Nat) => if f = o then 2 else 0
  if off < 0x00100000 then (if off < 4 ∨ (0x1000 ≤ off ∧ off < 0x2000) then 2 else only 0)
  else if off < 0x00400000 then only 0
  else if off < 0x00800000 then owned 1
  else if off < 0x02000000 then owned 2
  else if off < 0x02800000 then only 0
  else if off < 0x03800000 then owned 3
  else if off < 0x03A00000 then owned 5
  else if off < 0x03C00000 then
    let inline := decide (0x03A01000 ≤ off) && decide (off < 0x03A01080)
    if f = 1 then (if inline then 2 else 1) else if f = 4 then (if inline then 0 else 2) else if f = 0 then 1 else 0
  else if off < 0x03E00000 then only 0
  else if off < 0x03F00000 then (if s.queueMapped f off then 2 else 0)
  else 2

/-- Is there a register at an offset (R597)? Engine apertures and the MSI-X table count as such. -/
def regDefined (f off : Nat) : Bool :=
  (regSpecAt (regKey f off)).isSome || (ctrAt off).isSome ||
    (decide (0x01000000 ≤ off) && decide (off < 0x01600000) && decide (0x4000 ≤ off % 0x10000)) ||
    (decide (0x03F00000 ≤ off) && decide (off < 0x03F08000)) || (decide (0x03F80000 ≤ off) && decide (off < 0x03F80100))

/-- Is the block of a register off (R598)? Engine registers without VDD_VE; a slab's registers
without VDD_VE unless the slab is in RETAIN. -/
def State.poweredOff (s : State) (off : Nat) : Bool :=
  let e := (off - 0x01000000) / 0x10000
  let r := off % 0x10000
  decide (0x01000000 ≤ off) && decide (off < 0x01600000) && decide (r < 0x4000) &&
    (if 0x100 ≤ r ∧ r < 0x200 then s.vec.veOff && (s.eng e).slab.mode != 1 else s.vec.veOff)

/-- The field map alone (R7 to R9): RW bits take the value, W1C bits written 1 clear, WO bits of CIPH_KEY_DATA are held. -/
def State.writePlain (s : State) (k v : Nat) : State :=
  match regSpecAt k with
  | none => s
  | some r =>
    let old := (s.rd k).toNat
    let s := s.wr k (BitVec.ofNat 32 (old - (old &&& v &&& r.w1c)))
    s.wrRw k v

/-- Registers of a PON channel. -/
def State.writePon (s : State) (k v : Nat) : State :=
  let n := (k - 0x00400000) / 0x10000
  let r := k % 0x10000
  if r = 0 then s.writeRxCfg n v
  else if r = 0x10 then s.writeEqCtl n v
  else if 0x40 ≤ r ∧ r < 0xC0 then
    s.writeTap n ((r - 0x40) / 4) (signedOf 12 v)
  else if r = 0xE0 then
    let s := s.writePlain k v
    if bit v 0 then s.ponCopy n false else s
  else if r = 0x200 then s.writeTcCfg n v
  else s.writePlain k v

/-- Registers of a lane: LOOP, LANE_PWR, LANE_PAT_CFG and TXFIR with the refusals of R320, R322 and Table 10-5; a write that is
refused changes nothing. -/
def State.writeLane (s : State) (k v : Nat) : State :=
  let l := (k - 0x02000000) / 0x1000
  let r := k % 0x1000
  if r = 0 then
    let loop := bitsOf v 9 8
    if s.loopOffered l loop = false ∨ s.loopRefused l loop then s
    else (s.wrRw k (putBits v 9 8 (s.fld (F.LANE_CFG_LOOP l)))).setLoop l loop
  else if r = 4 then (if s.pwrRefused l v then s else s.setLanePwr l v)
  else if 0x10 ≤ r ∧ r < 0x20 then (s.writeTxfir l ((r - 0x10) / 4) v).1
  else if r = 0x40 then
    if bit v 0 && s.testRefused l then s
    else
      let s := ((s.setPattern l v).setGen l (bit v 0)).setChecker l (bit v 1)
      if bit v 7 then s.copyBank 0 (laneCtrs l) else s
  else if r = 0x50 then s.writeLaneInj l v
  else if r = 0x60 then
    let s := s.writePlain k v
    let s := if bit v 30 then s.endEye l 2 0 else s
    if bit v 31 && !bit v 30 then s.startEye l none else s
  else s.writePlain k v

/-- Registers of an Ethernet MAC. -/
def State.writeEth (s : State) (k v : Nat) : State :=
  let m := (k - 0x02800000) / 0x1000
  let r := k % 0x1000
  if r = 0 then s.writeEthCfg m v
  else if r = 0x24 then s.writeGlide m v
  else if r = 0x30 then (if bit v 0 then s.copyBank 0 (ethCtrs m) else s)
  else s.writePlain k v

/-- Registers of the vector array's window. -/
def State.writeVec (s : State) (k v : Nat) : State :=
  if 0x00801000 ≤ k ∧ k < 0x00802000 then
    let p := (k - 0x00801000) / 0x100
    if k % 0x100 = 0 then s.setPortCfg p v
    else if k % 0x100 = 0x14 then (if bit v 0 then s.copyBank 0 (svlCtrs p) else s)
    else s.writePlain k v
  else if k = R.VS_CUTOFF then
    let s := s.writePlain k v
    s.setVec { s.vec with cutAt := some s.tick.count.toNat }
  else s.writePlain k v

/-- Registers of an engine's window. -/
def State.writeEngReg (s : State) (k v : Nat) : State :=
  let e := (k - 0x01000000) / 0x10000
  let r := k % 0x10000
  if 0x4000 ≤ r then s
  else if r = 0x10 then (if bit v 0 then s.raiseIp e 3 else s)
  else if r = 0x100 then
    let m := v % 4
    if m ≤ 2 ∧ s.modeOk e m then s.slabRequest e m else s
  else s.writePlain k v

/-- Registers of the host queues: a TAIL above the ring's size is refused (R417); the effects of ENABLE are those of HOST_DQ. -/
def State.writeQueueReg (s : State) (f k v : Nat) : State :=
  let r := k - 0x03E00000
  let q := r % 0x1000 / 0x40
  if r < 0x1000 ∧ r % 0x40 = 0 then
    let on := s.flag (F.HOST_DQ_CFG_ENABLE q)
    let s := s.writePlain k v
    if bit v 31 then (if on then s else s.setDq q { s.dq q with commits := 0 })
    else if (s.dq q).front.isSome then (s.bump (C.DQ_DISABLED_DROP q)).dropFront q
    else s
  else if r < 0x1000 ∧ r % 0x40 = 0x10 then
    if s.dqRing q < (v % 65536 + 65536 - (s.dq q).head % 65536) % 65536 then s.badIndex 0 q f (v % 65536) else s.writePlain k v
  else if r < 0x2000 ∧ r % 0x40 = 0x10 then
    if s.hqRing q < (v % 65536 + 65536 - (s.hq q).head % 65536) % 65536 then s.badIndex 1 q f (v % 65536) else s.writePlain k v
  else if k = R.HOST_STAT_CTL then
    (if bit v 0 then (List.range 64).foldl (fun s q => (s.copyBank 0 (dqCtrs q)).copyBank 0 (hqCtrs q)) s else s)
  else s.writePlain k v

/-- Ring registers of a function (R552, R553): BASE is ignored while the ring's EN is 1; the low bits of an address are 0. -/
def State.writeRingReg (s : State) (f r v : Nat) : State :=
  let k := regKey f r
  let cfg := (s.rd (R.HOST_RING_CFG f)).toNat
  let h := s.fn f
  let w := BitVec.ofNat 32 v
  let en := if r = 0x1010 ∨ r = 0x1014 then bit cfg 31 else if r = 0x1020 ∨ r = 0x1024 then bit cfg 30
    else (r == 0x1030 || r == 0x1034) && bit cfg 29
  if en then s
  else if r = 0x1000 then s.wrRw k (ringCfgAfter cfg v)
  else if r = 0x1018 then
    if ringSize 7 (s.fld (F.HOST_RING_CFG_CMD_SIZE f)) < (w - h.cmdHead).toNat then s.indexRefused f 0 v else s.wr k w
  else if r = 0x102C then
    if rdRefused h.rplWr (s.rd k) w (ringSize 7 (s.fld (F.HOST_RING_CFG_RPL_SIZE f))) then s.indexRefused f 1 v else s.wr k w
  else if r = 0x103C then
    if rdRefused h.evtWr (s.rd k) w (ringSize 6 (s.fld (F.HOST_RING_CFG_EVT_SIZE f))) then s.indexRefused f 2 v else s.wr k w
  else s.writePlain k v

/-- Registers of the packet path's, time's, cipher's and memory system's windows that act when they are written. -/
def State.writeOther (s : State) (k v : Nat) : State :=
  let snap := fun (cs : List Ctr) => if bit v 0 then s.copyBank 0 cs else s
  if k = R.TICK_OFFSET then s.writeOffset v
  else if k = R.TICK_OUT_CFG then s.writeTickOut v
  else if k = R.TIME_PPS_CFG then s.writePps v
  else if k = R.CLS_STAT_CTL then snap clsCtrs
  else if k = R.FWD_STAT_CTL then snap fwdCtrs
  else if k = R.BUF_STAT_CTL then
    (if bit v 0 then ((List.range 4).foldl (fun s i => s.copyBank 0 (bufCtrs i)) s).copyBank 0 bufTotalCtrs else s)
  else if k = R.SCH_STAT_CTL then snap schCtrs
  else if k = R.TIME_STAT_CTL then snap timeCtrs
  else if k = R.CIPH_STAT_CTL then snap ciphCtrs
  else if k = R.MEM_STAT_CTL then
    (if bit v 0 then (List.range 18).foldl (fun s k => s.copyBank 0 (memDdrCtrs k))
      ((List.range 8).foldl (fun s m => s.copyBank 0 (memCtrs m)) s) else s)
  else if k = R.MEM_INJ then s.writeInj v
  else if k = R.CIPH_RQ_TAIL then
    (if 256 < (v % 65536 + 65536 - s.rqHead) % 65536 then s.bump C.CIPH_BAD_REQ else s.writePlain k v)
  else if R.CIPH_KEY_DATA 0 ≤ k ∧ k ≤ R.CIPH_KEY_DATA 7 then s.wr k (BitVec.ofNat 32 v)
  else s.writePlain k v

/-- An entry of a function's MSI-X table; the pending-bit array is read-only. -/
def State.writeMsix (s : State) (f off v : Nat) : State :=
  if off < 0x03F80000 then
    s.setFn f { s.fn f with msix := sparseSet (fun _ => 0) (s.fn f).msix ((off - 0x03F00000) / 4) v }
  else s

/-- A write of v to the register at an offset by a function with full access. -/
def State.writeReg (s : State) (f off v : Nat) : State :=
  if off < 0x2000 then s.writeRingReg f off v
  else if off < 0x00200000 then s.writePlain off v
  else if off < 0x00400000 then s.writePwr off v
  else if off < 0x00600000 then s.writePon off v
  else if off < 0x00800000 then
    let s := s.writePlain off v
    if off = R.BOND_STAT_CTL ∧ bit v 0 then s.bondCopy 0 else s
  else if off < 0x01000000 then s.writeVec off v
  else if off < 0x02000000 then s.writeEngReg off v
  else if off < 0x02800000 then s.writeLane off v
  else if off < 0x03000000 then s.writeEth off v
  else if off < 0x03E00000 then s.writeOther off v
  else if off < 0x03F00000 then s.writeQueueReg f off v
  else s.writeMsix f off v

/-- Does bit 0 of the register at an offset enable a data path: a PON receiver, a vector link port, an Ethernet MAC? -/
def enablesPath (off : Nat) : Bool :=
  (decide (0x00400000 ≤ off) && decide (off < 0x00440000) && off % 0x10000 == 0) ||
    (decide (0x00801000 ≤ off) && decide (off < 0x00802000) && off % 0x100 == 0) ||
    (decide (0x02800000 ≤ off) && decide (off < 0x02818000) && off % 0x1000 == 0)

/-- The value that a direct write brings: in recovery mode no data path is enabled (R588). -/
def State.writeValue (s : State) (off v : Nat) : Nat := if s.recovery && enablesPath off then clrBit v 0 else v

/-- Set every bit of HOST_ACC_ERR whose condition an access meets (R603). -/
def State.accErrs (s : State) (f off : Nat) (cs : List (Bool × Nat)) : State :=
  cs.foldl (fun s c => if c.1 then s.accErr f off c.2 else s) s

/-- REGISTER_WRITE: function f writes v at a BAR0 offset with byte enables be (R592 to R603). -/
def execRegisterWrite (f : Fin 6) (off : BitVec 26) (v : Word) (be : BitVec 4) (s : State) :
    Host.Outcome State Fault Refusal :=
  let f := f.val
  let off := off.toNat / 4 * 4
  let kind := s.access f off
  let ring := decide (0x1000 ≤ off) && decide (off < 0x2000)
  if ring && (s.fn f).resetting then .next s
  else
    let powered := kind != 0 && s.poweredOff off
    let unmapped := kind == 0 || !regDefined f off
    let view := kind == 1
    let partly := be != 0xF
    let s := s.accErrs f off [(powered, 0), (unmapped, 1), (view, 2), (partly, 3)]
    if powered || unmapped || view || partly then .next s
    else .next (s.writeReg f off (s.writeValue off v.toNat))

end Sys2Proof.Machine
end

