-- ==== Sys2Proof/Machine/Boot.lean ====
section
/-! DEFINITION. Reset of the device, start, the flash registers and the journal's mirror (R578 to R591). Choices:
log 28. -/

namespace Sys2Proof.Machine

/-! Resets (R578, R579). -/

/-- The device is reset as PORST_N resets it: what the power controller has in progress is abandoned. -/
def State.powerOn (s : State) : State := (s.moveOver 0).blockReset

/-- POWER_ON_RESET: PORST_N low for ns nanoseconds; pulses below 1 µs are ignored (R579). In DARK it is a wake (R539). -/
def execPowerOnReset (ns : Nat) (s : State) : Host.Outcome State Fault Refusal :=
  if ns < 1000 then .next s
  else if s.pwr.state = 3 ∧ s.pwr.wakeStep ≤ 4 then
    if s.pwr.wakeStep = 0 then .next s.beginWake else .next (s.setPwr { s.pwr with tries := 0 }).beginWake
  else .next s.powerOn

/-- BOOT_RESTART: a function writes v to BOOT_RESTART (R589). -/
def execBootRestart (f : Fin 6) (v : Word) (s : State) : Host.Outcome State Fault Refusal :=
  if f.val = 0 then (if v = 0x52455354 then .next s.powerOn else .next s)
  else .next (s.accErr f.val R.BOOT_RESTART 1)

/-! The start steps (R583, Table 21-6). -/

/-- The start goes on at step k. -/
def State.toStep (s : State) (k : Nat) : State := s.setBoot { s.boot with step := k, tries := 0, alt := false, cause := 0 }

/-- A step that passes after a retry has an entry (R586). -/
def State.retried (s : State) (detail ms : Nat) : State :=
  let b := s.boot
  if b.tries = 0 then s else s.journal b.step 1 b.cause (b.tries + 1) detail ms

/-- A step's alternate is taken, at its first attempt. -/
def State.retakeAlt (s : State) : State := s.setBoot { s.boot with tries := 0, alt := true }

/-- The prescriptions but for O7 are cleared, where PWR_JRN_CLEAR has asked for it (R587). -/
def JCore.cleared (c : JCore) : JCore :=
  { c with domSerial := false, sramSerial := false, avsLow := false, board := 0, image := 0, ref := 0, ddrRate := 3, eng := [] }

/-- The newer good sector of the flash mirror (R585). -/
def Journal.newest (j : Journal) : Option (Nat × JCore) :=
  match sparseGet (fun _ => none) j.mirror 0, sparseGet (fun _ => none) j.mirror 1 with
  | some a, some b => if a.1 < b.1 then some b else some a
  | some a, none => some a
  | none, b => b

/-- The alternates in use at this start are those of the core. -/
def State.prescribe (s : State) : State :=
  let c := s.jrn.core
  s.setBoot { s.boot with image := c.image, board := c.board, ref := c.ref, ddrRate := c.ddrRate }

/-- S2: the journal is loaded (R585, R587). -/
def State.loadJournal (s : State) (aonOk : Bool) : State :=
  let j := s.jrn
  let c := if aonOk then j.core else
    match j.newest with
    | some m => { m.2 with start := (m.2.start + 1) % 2 ^ 32 }
    | none => { start := 1 }
  let c := if j.clearDue then c.cleared else c
  State.prescribe { s with
    jrn := { j with core := c, clearDue := false }
    pon := resetChannels c.o7 }

/-- S1 begins: the start number advances (Table 21-7). -/
def State.beginStart (s : State) : State :=
  if s.boot.step = 0 then
    State.toStep (s.setCore { s.jrn.core with start := (s.jrn.core.start + 1) % 2 ^ 32 }) 1
  else s

/-- A fatal failure of S1, or of both inputs of S3. -/
def State.startFatal (s : State) (k cause detail ms : Nat) : State :=
  let s := s.stepFailed k 5 cause detail ms
  State.assertFault (s.setBoot { s.boot with held := true })

/-- DDR4 capacity in GiB of a configuration (Table 18-3): 16 or 8 data devices of 1 or 2 GiB, in one or two ranks. -/
def capacity (x8 dense two : Bool) : Nat := (if x8 then 8 else 16) * (if dense then 2 else 1) * (if two then 2 else 1)

/-- The DDR4 configuration of the board table; the reset values where it is refused (R510, R584). -/
def State.ddrConfig (s : State) (ms : Nat) : State :=
  let bad := fun (s : State) =>
    (s.journal 0x60 2 3 1 0 ms).setMem { s.mem with x8 := false, dense := true, ranks := 0, gib := 32 }
  match s.boot.values.ddr with
  | none => bad s
  | some (_, x8, dense, two) =>
    if 32 < capacity x8 dense two then bad s
    else s.setMem { s.mem with x8 := x8, dense := dense, ranks := b2n two, gib := capacity x8 dense two }

/-- The rate S7 begins with: the prescribed one, or else the board table's where that is lower. -/
def State.startRate (s : State) : Nat :=
  match s.boot.values.ddr with
  | some d => min s.jrn.core.ddrRate (min d.1 3)
  | none => min s.jrn.core.ddrRate 3

/-- S8 ends: DDR4 filled unless its contents were kept, pool rings and caches filled (R405, R409, R514, R584). -/
def State.fillMemories (s : State) (ms : Nat) : State :=
  let s := s.setMem { s.mem with ddr := if s.mem.selfRefresh then s.mem.ddr else [], filled := true, selfRefresh := false }
  let s := s.setPwr { s.pwr with selfRef := false }
  match s.boot.values.pools with
  | none => s.fillPools []
  | some c => if carveOk c then s.fillPools c else (s.journal 0x60 2 3 1 1 ms).fillPools []

/-- The engines that the journal prescribes RETIRED enter RETIRED. -/
def State.retirePrescribed (s : State) : State :=
  s.jrn.core.eng.foldl (fun s p => if p.2 then s.setEng p.1 { s.eng p.1 with st := .retired } else s) s

/-- Does S11 load a register from the board table (Table 21-5)? -/
def boardReg (off : Nat) : Bool :=
  let chan := fun (r : Nat) => decide (0x00400000 ≤ off) && decide (off < 0x00440000) && off % 0x10000 == r
  let lane := decide (0x02000000 ≤ off) && decide (off < 0x0202C000)
  chan 0 || chan 4 || chan 0x300 || chan 0x304 ||
    (lane && (off % 0x1000 == 0 ||
      (decide (off < 0x02028000) && decide (0x10 ≤ off % 0x1000) && decide (off % 0x1000 < 0x30)))) ||
    (decide (0x00801000 ≤ off) && decide (off < 0x00802000) && off % 0x100 == 0) ||
    (decide (0x02800000 ≤ off) && decide (off < 0x02818000) && (off % 0x1000 == 0x40 || off % 0x1000 == 0x44))

/-- Is a register one of a PON channel that has no record (R629)? -/
def Board.skips (b : Board) (off : Nat) : Bool :=
  decide (0x00400000 ≤ off) && decide (off < 0x00440000) && !b.chans.testBit ((off - 0x00400000) / 0x10000)

/-- S11: the board table's values are loaded, the channels and ports enabled (R111, R583, R629); a channel without a record
keeps its reset values. Of LANE_CFG the table gives TX_INVERT alone, of PON_RX_CFG all but ENABLE. The standard's default keys
are loaded (R130). -/
def State.loadBoard (s : State) : State :=
  let b := s.boot.values
  let s := (List.range 4).foldl (fun s n => s.loadDerived n none) s
  let s := b.writes.foldl (fun s w =>
    let off := w.1
    let v := w.2.toNat
    if boardReg off = false ∨ b.skips off then s
    else if off < 0x00440000 ∧ off % 0x10000 = 0 then s.writeReg 0 off (clrBit v 0)
    else if 0x02000000 ≤ off ∧ off < 0x0202C000 ∧ off % 0x1000 = 0 then
      s.setFld (F.LANE_CFG_TX_INVERT ((off - 0x02000000) / 0x1000)) (bitsOf v 1 1)
    else s.writeReg 0 off v) s
  let s := (List.range 4).foldl (fun s n => if b.chans.testBit n then s.loadPonSets n else s) s
  let s := (List.range 24).foldl (fun s m =>
    if b.macs.testBit m then s.writeEthCfg m (setBit (s.rd (R.ETH_CFG m)).toNat 0) else s) s
  (List.range 4).foldl (fun s n =>
    if b.chans.testBit n ∧ s.boot.skipCh.testBit n = false then s.rxEnable n else s) s

/-- S11 and S12: the device is ready (R583, R586, R591, R600). -/
def State.startCompleted (s : State) (ms : Nat) : State :=
  let s := s.loadBoard
  let s := s.setBoot { s.boot with mode := 1, step := 12, tries := 0, alt := false, bringUp := true, committed := false }
  let s := s.journal 0x0C 0 0 1 0 ms
  let s := (s.flushEvents.wakeOver).aonEvent 3 21 5 [(4, s.jrn.core.start), (4, ms)]
  s

/-- Board table copy k is in use. -/
def State.takeBoard (s : State) (b : Board) : State :=
  let s := s.setBoot { s.boot with values := b, boardDefault := false, endpointUp := true }
  s.setPwr { s.pwr with rails := b.rails, louts := b.louts }

/-- Engines whose self-test of S9 counts as failed. -/
def State.selfTestFails (s : State) (i : StartInfo) : List Nat :=
  i.engines.filter (fun e => decide (e < 96) && !sparseGet (fun _ => false) s.jrn.core.eng e)

/-- The mask of channels with a record whose optic does not answer (S10, R629). -/
def State.opticsMissing (s : State) (i : StartInfo) : Nat := s.boot.values.chans % 16 &&& (15 - i.optics % 16)

/-- A step's three attempts have failed (Table 21-6): cause of the last. -/
def State.stepExhausted (s : State) (cause : Nat) (i : StartInfo) : State :=
  let b := s.boot
  let ms := i.ms
  match b.step with
  | 1 => s.startFatal 1 cause 0 ms
  | 2 =>
    let s := s.stepFailed 2 3 cause 0 ms
    (State.prescribe (s.setCore s.jrn.core.cleared)).toStep 3
  | 3 =>
    if b.alt then s.startFatal 3 cause b.ref ms
    else
      let s := s.stepFailed 3 2 cause b.ref ms
      let s := s.setCore { s.jrn.core with ref := 1 - b.ref }
      (s.setBoot { s.boot with ref := 1 - b.ref }).retakeAlt
  | 4 =>
    if b.alt then s.enterRecovery 4 cause b.image ms
    else
      let s := s.stepFailed 4 2 cause b.image ms
      let s := s.setCore { s.jrn.core with image := 1 - b.image }
      (s.setBoot { s.boot with image := 1 - b.image }).retakeAlt
  | 5 =>
    if b.alt then (s.setBoot { b with values := {}, boardDefault := true }).enterRecovery 5 cause b.board ms
    else
      let s := s.stepFailed 5 2 cause b.board ms
      let s := s.setCore { s.jrn.core with board := 1 - b.board }
      (s.setBoot { s.boot with board := 1 - b.board }).retakeAlt
  | 7 =>
    if b.ddrRate = 0 then s.enterRecovery 7 cause 0 ms
    else
      let s := s.stepFailed 7 2 cause b.ddrRate ms
      let s := s.setCore { s.jrn.core with ddrRate := b.ddrRate - 1 }
      (s.setBoot { s.boot with ddrRate := b.ddrRate - 1 }).retakeAlt
  | 8 => s.enterRecovery 8 cause 0 ms
  | 9 =>
    let s := (s.selfTestFails i).foldl (fun s e =>
      let s := s.stepFailed 9 2 cause e ms
      s.setCore { s.jrn.core with eng := sparseSet (fun _ => false) s.jrn.core.eng e true }) s
    s.retirePrescribed.toStep 10
  | 10 =>
    let missing := s.opticsMissing i
    let s := (chansOf missing).foldl (fun s n => s.stepFailed 10 3 2 n ms) s
    (s.setBoot { s.boot with skipCh := missing }).startCompleted ms
  | _ => s

/-- An attempt at a step fails: three in all before its failure handling applies (R583). -/
def State.attemptFails (s : State) (cause : Nat) (i : StartInfo) : State :=
  if s.boot.tries < 2 then s.setBoot { s.boot with tries := s.boot.tries + 1, cause := cause }
  else s.stepExhausted cause i

/-- May the start take a step: it is under way, the device is not held, and no wake step precedes it? -/
def State.starting (s : State) : Bool :=
  s.boot.mode == 0 && !s.boot.held && (s.pwr.state != 3 || s.pwr.wakeStep == 5)

/-- The ready condition of the step in progress arrives; S6 follows S5 at once, S11 and S12 follow S10. -/
def State.stepReady (s : State) (i : StartInfo) : State :=
  let b := s.boot
  match b.step with
  | 1 => (s.retried 0 i.ms).toStep 2
  | 2 => ((s.loadJournal i.aonOk).retried 0 i.ms).toStep 3
  | 3 => (s.retried b.ref i.ms).toStep 4
  | 4 =>
    if s.imageOk b.image then ((s.takeImage b.image).retried b.image i.ms).toStep 5 else s.attemptFails 1 i
  | 5 =>
    if s.boardOk b.board then
      let s := ((s.takeBoard i.board).retried b.board i.ms).toStep 7
      s.setBoot { s.boot with ddrRate := s.startRate }
    else s.attemptFails 1 i
  | 7 =>
    let s := (s.ddrConfig i.ms).retried b.ddrRate i.ms
    State.toStep (s.setMem { s.mem with trained := true }) 8
  | 8 => ((s.fillMemories i.ms).retried 0 i.ms).toStep 9
  | 9 =>
    if (s.selfTestFails i).isEmpty then (s.retirePrescribed.retried 0 i.ms).toStep 10 else s.attemptFails 1 i
  | 10 => if s.opticsMissing i = 0 then (s.retried 0 i.ms).startCompleted i.ms else s.attemptFails 2 i
  | _ => s

/-- START_STEP_READY (R583). -/
def execStartStepReady (i : StartInfo) (s : State) : Host.Outcome State Fault Refusal :=
  if s.starting then .next (s.beginStart.stepReady i) else .next s

/-- START_STEP_TIMEOUT: an attempt at the step in progress fails, by its timeout or for the cause given (R583). -/
def execStartStepTimeout (i : StartInfo) (s : State) : Host.Outcome State Fault Refusal :=
  if s.starting then .next (s.beginStart.attemptFails i.cause.val i) else .next s

/-! Flash by BOOT_QSPI (R589). -/

/-- Does a function's write of BOOT_QSPI_CMD reach the register? -/
def State.qspiWrite (s : State) (f : Nat) (act : State) : State := if f = 0 then act else s.accErr f R.BOOT_QSPI_CMD 1

/-- Does an operation on n bytes touch the journal mirror? -/
def touchesMirror (a n : Nat) : Bool := decide (a < 0x030000) && decide (0x020000 < a + n)

/-- An operation on flash arrives: op 1 READ, 2 PROGRAM, 3 ERASE. They are served one at a time, in arrival order. -/
def State.qspiBegin (s : State) (op n : Nat) : State :=
  let a := s.fld F.BOOT_QSPI_ADDR_ADDR
  if op ≠ 1 ∧ (a % n ≠ 0 ∨ touchesMirror a n) then s.setFld F.BOOT_QSPI_CMD_REFUSED 1
  else if s.boot.qspiOp ≠ 0 then s.setBoot { s.boot with qspiWait := s.boot.qspiWait ++ [(op, a)] }
  else s.setBoot { s.boot with qspiOp := op, qspiAddr := a }

/-- QSPI_READ: function f writes OP 1. -/
def execQspiRead (f : Fin 6) (s : State) : Host.Outcome State Fault Refusal := .next (s.qspiWrite f.val (s.qspiBegin 1 4))

/-- QSPI_PROGRAM: function f writes OP 2; a page is 256 bytes. -/
def execQspiProgram (f : Fin 6) (s : State) : Host.Outcome State Fault Refusal := .next (s.qspiWrite f.val (s.qspiBegin 2 256))

/-- QSPI_ERASE: function f writes OP 3; a sector is 64 KiB. -/
def execQspiErase (f : Fin 6) (s : State) : Host.Outcome State Fault Refusal := .next (s.qspiWrite f.val (s.qspiBegin 3 65536))

/-- Word i of the flash from an address. -/
def State.flashWord (s : State) (a i : Nat) : Word := BitVec.ofNat 32 (ofLe (s.flashBytes (a + 4 * i) 4))

/-- A page is written from BOOT_QSPI_DATA. -/
def State.programPage (s : State) (a : Nat) : State :=
  (List.range 256).foldl (fun s i =>
    s.setFlash (a + i) (BitVec.ofNat 8 ((s.rd (R.BOOT_QSPI_DATA (i / 4))).toNat >>> (8 * (i % 4))))) s

/-- The flash operation that has waited longest begins. -/
def State.qspiNext (s : State) : State :=
  s.setBoot (match s.boot.qspiWait with
    | [] => { s.boot with qspiOp := 0 }
    | (op, a) :: rest => { s.boot with qspiOp := op, qspiAddr := a, qspiWait := rest })

/-- QSPI_OP_DONE: the operation ends; err: flash reports an error, and then its data are not moved. -/
def execQspiOpDone (err : Bool) (s : State) : Host.Outcome State Fault Refusal :=
  let op := s.boot.qspiOp
  let a := s.boot.qspiAddr
  let s := s.qspiNext
  if op = 0 then .next s
  else if err then .next (s.setFld F.BOOT_QSPI_CMD_ERROR 1)
  else if op = 1 then .next ((List.range 64).foldl (fun s i => s.wr (R.BOOT_QSPI_DATA i) (s.flashWord a i)) s)
  else if op = 2 then .next (s.programPage a)
  else .next (s.setBoot { s.boot with
    flash := s.boot.flash.filter (fun p => !(decide (a ≤ p.1) && decide (p.1 < a + 65536))) })

/-! The journal's mirror and its clearing (R585, R587). -/

/-- The sector that the next mirror write takes: the older one. -/
def Journal.older (j : Journal) : Nat :=
  match sparseGet (fun _ => none) j.mirror 0, sparseGet (fun _ => none) j.mirror 1 with
  | some a, some b => if a.1 < b.1 then 0 else 1
  | some _, none => 1
  | none, _ => 0

/-- JOURNAL_MIRROR_WRITE: ok false when the write fails (R585). It waits for flash operations that arrived before (R589). -/
def execJournalMirrorWrite (ok : Bool) (s : State) : Host.Outcome State Fault Refusal :=
  let j := s.jrn
  let k := j.older
  if j.mirrorDue = false ∨ s.boot.qspiOp ≠ 0 then .next s
  else if ok then
    let n := (match j.newest with
      | some m => m.1
      | none => 0) + 1
    .next { s with jrn := { j with mirror := sparseSet (fun _ => none) j.mirror k (some (n, j.core)), mirrorDue := false } }
  else
    .next (State.aonEvent ({ s with jrn := { j with mirrorDue := false } }.setFld F.PWR_JRN_STATUS_MIRROR_FAIL 1) 2 21 4 [(1, k)])

/-- JOURNAL_CLEAR: function f writes 1 to PWR_JRN_CLEAR.CLEAR (R587). -/
def execJournalClear (f : Fin 6) (s : State) : Host.Outcome State Fault Refusal :=
  if f.val = 0 then .next (s.writePwr R.PWR_JRN_CLEAR 1) else .next (s.accErr f.val R.PWR_JRN_CLEAR 1)

/-- OPTIC_MONITORING_READ: RSSI_TRIG of a channel is driven for 1 µs; the values that the optic then returns go to firmware
(R615). -/
def execOpticMonitoringRead (c : Fin 4) (s : State) : Host.Outcome State Fault Refusal := .next (s.emit (.pulse "RSSI_TRIG" c.val))

end Sys2Proof.Machine
end

