-- ==== Sys2Proof/Machine/Boundaries.lean ====
section
/-! DEFINITION. The tick edge and the boundaries that fall on it (R32 to R35, and what each chapter places there).
Choices: log 5, 6. -/

namespace Sys2Proof.Machine

/-- Recovery accounting runs for 48,000 ticks (R439). -/
def State.recoveryTick (s : State) : State :=
  { s with sched := { s.sched with recoveryTicks := s.sched.recoveryTicks - 1 } }

/-- The evaluation of the grade is due at the edge at which TIC becomes 24 (R541). -/
def State.evalTick (s : State) : State := if s.tick.tic = 24 then s.setPwr { s.pwr with evalDue := true } else s

/-- TICK_EDGE: the counter and the indices advance; what is bound to the edge follows (R32, R55, R473, R574 step 6, chapters 06 to 09). -/
def execTickEdge (s : State) : Host.Outcome State Fault Refusal :=
  let s := (State.synceEdge { s with tick := s.tick.advance }).tickOut
  let s := (s.vecTick.fwdTick.recoveryTick).evalTick
  let s := (List.range 6).foldl (fun s f => s.resetDone f) s
  .next ((s.entryGo.undoGo).exitGo)

/-- PON_FRAME_BOUNDARY: TIF has become 0 (R33, R124, R130). -/
def execPonFrameBoundary (s : State) : Host.Outcome State Fault Refusal :=
  if s.tick.frameDue then
    let s := { s with tick := { s.tick with frameDue := false } }
    .next ((List.range 4).foldl (fun s n => s.ponBoundary n) s)
  else .next s

/-- What is told once per vector cycle may be told again. -/
def State.newCycle (s : State) : State :=
  { s with
    cls := { s.cls with fragTold := false }
    fwd := { s.fwd with fullTold := false, limitTold := 0 }
    buf := { s.buf with pools := sparseMap (fun i => { count := poolCount i }) (fun _ p => { p with emptyTold := false }) s.buf.pools }
    time := { s.time with capLostTold := false, lateTold := 0 }
    mem := { s.mem with ueTold := [] }
    chan := { s.chan with dq := sparseMap (fun _ => {}) (fun _ d => { d with holdTold := false }) s.chan.dq } }

/-- VECTOR_CYCLE_BOUNDARY: TIC has become 0 (R33, R48 to R53, R306, R355, R448, R450, R533, R541); the boundary reaches the
PKT domain in PKT cycle pkt, from which shapers count at their new rates (R20). -/
def execVectorCycleBoundary (pkt : Nat) (s : State) : Host.Outcome State Fault Refusal :=
  if s.tick.cycleDue then
    let s := ({ s with tick := { s.tick with cycleDue := false } }).pktTo pkt
    let s := (s.newCycle.masterChangeDue.masterChoice).offsetApply
    let s := s.hazeChange
    let g := s.gradeDeliver
    let s := g.1.vecBoundary g.2
    let s := (List.range 16).foldl (fun s p => s.deliverPort p State.deliverLine) s
    .next ((List.range 24).foldl (fun s m => s.macBoundary m) s.schedBoundary)
  else .next s

/-- The correction-rate event (R528): the lowest symbol position whose corrections rose by more than 1,024 in the superframe. -/
def State.correctionRate (s : State) : State :=
  let base := s.mem.symBase
  let rose := fun k => decide (1024 < s.count (C.MEM_DDR_SYM k) - sparseGet (fun _ => 0) base k)
  let counts := (List.range 18).foldl (fun m k => sparseSet (fun _ => 0) m k (s.count (C.MEM_DDR_SYM k))) base
  let s' := s.setMem { s.mem with symBase := counts }
  match (List.range 18).find? rose with
  | some k => s'.raiseRow 0x00B0 3 18 4 0 [(1, k)]
  | none => s'

/-- SUPERFRAME_BOUNDARY: CYCLE has become 0 (R33, R168, R528, R573). -/
def execSuperframeBoundary (s : State) : Host.Outcome State Fault Refusal :=
  if s.tick.superDue then
    let s := { s with tick := { s.tick with superDue := false } }
    .next (s.writeBackContexts.statusRepeats.correctionRate)
  else .next s

end Sys2Proof.Machine
end

