-- ==== Sys2Proof/Machine/Buffers.lean ====
section
/-! DEFINITION. Commands of the buffer pool manager (chapter 14). Choices: log 23. -/

namespace Sys2Proof.Machine

/-- BUFFER_ALLOCATION: a request of an agent (tag 1-9) for a stored length (R406 to R409, R411). -/
def execBufferAllocation (agent : Fin 10) (len : Nat) (s : State) : Host.Outcome State Fault Refusal :=
  if agent = 0 then .next s else .next (s.allocBuf agent.val len).1

/-- BUFFER_HANDOVER: a request of an agent's instance that names a new owner (R411, R412). -/
def execBufferHandover (id : BitVec 20) (agent : Fin 10) (inst : Byte) (dst : Fin 10) (s : State) :
    Host.Outcome State Fault Refusal :=
  if dst = 0 then .next s else .next (s.handover id.toNat agent.val inst.toNat dst.val)

/-- BUFFER_FREE: a request of an agent's instance (R411, R412). -/
def execBufferFree (id : BitVec 20) (agent : Fin 10) (inst : Byte) (s : State) : Host.Outcome State Fault Refusal :=
  .next (s.freeBuf id.toNat agent.val inst.toNat)

/-- Lose the IDs of uncorrectable ring words out of a fetched block (R410): ids stand on the ring from a slot on; lost
are word indices. -/
def loseWords (count slot : Nat) (lost : List Nat) : List Nat → List Nat
  | [] => []
  | id :: ids =>
    let rest := loseWords count (slot + 1) lost ids
    if lost.contains (slot % max 1 count / 8) then rest else id :: rest

/-- IDs of a block of n from a slot that lie in ring word w. -/
def inWord (count slot n w : Nat) : Nat := ((List.range n).filter (fun k => (slot + k) % max 1 count / 8 == w)).length

/-- Count and tell the ring words lost in a block (R410, Table 14-7). -/
def State.tellWords (s : State) (i slot n : Nat) : List Nat → State
  | [] => s
  | w :: ws =>
    let k := inWord (s.pool i).count slot n w
    let s := if k = 0 then s else
      (s.bumpBy (C.BUF_RING_LOST i) k).raiseRow 0x0083 1 14 3 3 [(1, i), (2, w), (1, k)]
    s.tellWords i slot n ws

/-- CACHE_FETCH: a pool's cache holds fewer than 256 IDs and its ring some; lost names the ring words found uncorrectable
(R408, R410). -/
def execCacheFetch (i : Fin 4) (lost : List Nat) (s : State) : Host.Outcome State Fault Refusal :=
  let p := s.pool i.val
  if p.cache.length < 256 ∧ p.ring ≠ [] then
    let n := min 128 (runsLength p.ring)
    let r := takeRuns n p.ring
    let good := loseWords p.count p.ringHead lost r.1
    let s := s.setPool i.val { p with
      cache := p.cache ++ good, ring := r.2, ringHead := (p.ringHead + n) % max 1 p.count,
      free := p.free - (n - good.length) }
    .next (s.tellWords i.val p.ringHead n lost.eraseDups)
  else .next s

/-- CACHE_WRITE_OUT: a cache of more than 896 IDs writes 128 of them to the ring (R408). -/
def execCacheWriteOut (i : Fin 4) (s : State) : Host.Outcome State Fault Refusal :=
  let p := s.pool i.val
  if 896 < p.cache.length then .next (s.setPool i.val p.writeOut) else .next s

/-- BUF_CARVE (R405). -/
def execBufCarve (p : Pkt) (s : State) : Host.Outcome State Fault Refusal :=
  runCmd 0x3201 false (lenIs 4 p) (p.target == 0) (fun _ s =>
    let c := (List.range 4).map p.w
    if s.boot.committed || !s.buf.owner.isEmpty then refuse stBusy s
    else if carveOk c then finish (s.fillPools c)
    else refuse stBadParam s) p s

/-- BUF_POOL: the FALLOVER of a pool (R406). -/
def execBufPool (p : Pkt) (s : State) : Host.Outcome State Fault Refusal :=
  runCmd 0x3202 false (lenIs 1 p) (decide (p.target.toNat < 4)) (fun _ s =>
    if 1 < p.w 0 then refuse stBadParam s
    else finish (s.setFld (F.BUF_POOL_CFG_FALLOVER p.target.toNat) (p.w 0))) p s

/-- BUF_STAT_SNAP (R430). -/
def execBufStatSnap (s : State) : Host.Outcome State Fault Refusal :=
  .next (((List.range 4).foldl (fun s i => s.copyBank 0 (bufCtrs i)) s).copyBank 0 bufTotalCtrs)

end Sys2Proof.Machine
end

