-- ==== Sys2Proof/Machine/Classify.lean ====
section
/-! DEFINITION. Commands of the classifier (chapter 12). Choices: log 21. -/

namespace Sys2Proof.Machine

/-- PACKET_CLASSIFY: the oldest frame waiting for the classifier passes it under the current version, and the forwarding
table places it (R362 to R374, R386, R388). -/
def execPacketClassify (s : State) : Host.Outcome State Fault Refusal :=
  match s.clsIn with
  | [] => .next s
  | f :: fs =>
    let v := s.cls.ver
    let s := { s with clsIn := fs }
    let s := s.setInflight v (s.inflight v + 1)
    let r := s.classify v { f with ver := v }
    let s := r.1.setInflight v (r.1.inflight v - 1)
    .next (s.deliver r.2)

/-- FRAG_ENTRY_EXPIRY: an entry of the fragment table leaves once FRAG_LIFE ms have passed since it was recorded (R378). -/
def execFragEntryExpiry (set : Fin 512) (way : Fin 4) (s : State) : Host.Outcome State Fault Refusal :=
  let i := 4 * set.val + way.val
  match s.fragAt i with
  | none => .next s
  | some e =>
    if s.fragExpired e then .next (s.setCls { s.cls with frags := sparseSet (fun _ => none) s.cls.frags i none }) else .next s

/-- May an action be written (Table 12-5: bits [63:42] are 0)? -/
def actionOk (a : Nat) : Bool := decide (a < 2 ^ 42)

/-- CLS_RULE_WRITE: a rule into a free slot, staged (R367, R373, Table 12-4). -/
def execClsRuleWrite (p : Pkt) (s : State) : Host.Outcome State Fault Refusal :=
  runCmd 0x3001 false (lenIs 38 p) (decide (p.target.toNat < 8192)) (fun _ s =>
    let b := p.bytes
    let key := leAt b 0 68
    let mask := leAt b 68 68
    let set := leAt b 138 1
    let a := leAt b 140 8
    let idx := 8192 * set + p.target.toNat
    if key &&& mask ≠ key ∨ 3 < set ∨ leAt b 139 1 ≠ 0 ∨ leAt b 149 3 ≠ 0 ∨ actionOk a = false then
      refuse stBadParam s
    else if (s.ruleAt idx).isSome then refuse stBusy s
    else finish (s.setRule idx (some {
      set := set, key := key, mask := mask, prio := leAt b 136 2, action := a, addV := some s.staged }))) p s

/-- CLS_RULE_DELETE: a rule's deletion, staged (R373). -/
def execClsRuleDelete (p : Pkt) (s : State) : Host.Outcome State Fault Refusal :=
  runCmd 0x3002 false (lenIs 1 p) (decide (p.target.toNat < 8192)) (fun _ s =>
    if 3 < p.w 0 then refuse stBadParam s
    else
      let idx := 8192 * p.w 0 + p.target.toNat
      match (s.ruleAt idx).bind (fun e => e.stageDelete s.staged) with
      | none => refuse stBadTarget s
      | some e => finish (s.setRule idx e)) p s

/-- Rule set, masked key and action of a flow command's payload (R625). -/
def flowPayload (p : Pkt) : Nat × Nat × Nat := (leAt p.bytes 0 4, leAt p.bytes 4 68, leAt p.bytes 72 8)

/-- CLS_FLOW_INSERT: a flow entry into a free way of its set, staged (R368, R373). -/
def execClsFlowInsert (p : Pkt) (s : State) : Host.Outcome State Fault Refusal :=
  runCmd 0x3003 false (lenIs 20 p) (p.target == 0) (fun _ s =>
    let (set, key, a) := flowPayload p
    let ps := flowPlaces (flowSet set key)
    let same := fun i => match s.flowAt i with
      | some e => e.set == set && e.key == key && e.visible s.staged
      | none => false
    if 3 < set ∨ key &&& s.flowMask set ≠ key ∨ actionOk a = false ∨ ps.any same then refuse stBadParam s
    else match ps.find? (fun i => (s.flowAt i).isNone) with
      | none => refuse stNoResource s
      | some i => finish (s.setFlow i (some { set := set, key := key, action := a, addV := some s.staged }))) p s

/-- CLS_FLOW_DELETE: a flow entry's deletion, staged (R373). -/
def execClsFlowDelete (p : Pkt) (s : State) : Host.Outcome State Fault Refusal :=
  runCmd 0x3004 false (lenIs 20 p) (p.target == 0) (fun _ s =>
    let (set, key, _) := flowPayload p
    let mine := fun i => match s.flowAt i with
      | some e => e.set == set && e.key == key && (e.stageDelete s.staged).isSome
      | none => false
    if 3 < set then refuse stBadParam s
    else match (flowPlaces (flowSet set key)).find? mine with
      | none => refuse stBadTarget s
      | some i => finish (s.setFlow i (((s.flowAt i).bind (fun e => e.stageDelete s.staged)).getD none))) p s

/-- CLS_COMMIT: the staged version becomes current for every source, unless a predecessor is live (R375). -/
def execClsCommit (p : Pkt) (s : State) : Host.Outcome State Fault Refusal :=
  runCmd 0x3005 false (lenIs 0 p) (p.target == 0) (fun _ s =>
    if s.cls.prev.isSome then refuse stDraining s
    else finish (s.setCls { s.cls with prev := some s.cls.ver, ver := s.staged }) [] s.staged) p s

/-- CLS_ABORT: every staged change is discarded (R373). -/
def execClsAbort (p : Pkt) (s : State) : Host.Outcome State Fault Refusal :=
  runCmd 0x3006 false (lenIs 0 p) (p.target == 0) (fun _ s => finish s.clsAbort) p s

/-- CLS_FLOW_MASK: a rule set's flow mask, unless it would change under flow entries (R368). -/
def execClsFlowMask (p : Pkt) (s : State) : Host.Outcome State Fault Refusal :=
  runCmd 0x3007 false (lenIs 17 p) (decide (p.target.toNat < 4)) (fun _ s =>
    let set := p.target.toNat
    let m := leAt p.bytes 0 68
    if m ≠ s.flowMask set ∧ s.cls.flows.any (fun x => x.2.any (fun e => e.set == set)) then refuse stBusy s
    else finish (s.setCls { s.cls with masks := sparseSet (fun _ => 0) s.cls.masks set m })) p s

/-- CLS_SRC: CLS_SRC_CFG, CLS_SRC_DEF_LO and _HI, CLS_SRC_FRAG_LO and _HI of a source (R362). -/
def execClsSrc (p : Pkt) (s : State) : Host.Outcome State Fault Refusal :=
  runCmd 0x3008 false (lenIs 5 p) (decide (p.target.toNat < 28)) (fun _ s =>
    let i := p.target.toNat
    finish ((s.wrRw (R.CLS_SRC_CFG i) (p.w 0)).wrRun (R.CLS_SRC_DEF_LO i) (p.payload.drop 1))) p s

/-- CLS_CFG (R380). -/
def execClsCfg (p : Pkt) (s : State) : Host.Outcome State Fault Refusal :=
  runCmd 0x3009 false (lenIs 1 p) (p.target == 0) (fun _ s => finish (s.wrRw R.CLS_CFG (p.w 0))) p s

/-- VERSION_SWEEP_START: the predecessor's in-flight count has reached 0 (R376). -/
def execVersionSweepStart (s : State) : Host.Outcome State Fault Refusal :=
  match s.cls.prev with
  | none => .next s
  | some r => if s.inflight r = 0 then .next (s.setCls { s.cls with sweep := true }) else .next s

/-- VERSION_RETIRED: the sweep has ended; the predecessor retires (R376, Table 12-8). -/
def execVersionRetired (s : State) : Host.Outcome State Fault Refusal :=
  match s.cls.prev, s.cls.sweep with
  | some r, true =>
    let s := s.mapEntries (ClsEntry.swept ((r + 1) % 8))
    let s := s.setCls { s.cls with prev := none, sweep := false }
    .next (s.raiseRow 0x0080 3 12 2 3 [(1, r), (1, s.cls.ver), (4, s.tick.count.toNat % 2 ^ 32)])
  | _, _ => .next s

/-- CLS_STAT_SNAP (R381). -/
def execClsStatSnap (s : State) : Host.Outcome State Fault Refusal := .next (s.copyBank 0 clsCtrs)

end Sys2Proof.Machine
end

