-- ==== Sys2Proof/Machine/Engine.lean ====
section
/-! DEFINITION. Commands of the Engine-and-kernel group, and the engines' and slabs' registers (chapter 06).
Choices: log 15. -/

namespace Sys2Proof.Machine

/-- VE_CMD_START: VE_CTL.CMD 1; execution begins at the next tick edge (R202). -/
def execVeCmdStart (e : Fin 96) (s : State) : Host.Outcome State Fault Refusal :=
  if s.startOk e.val then .next (s.setEng e.val { s.eng e.val with startDue := true }) else .next s

/-- VE_CMD_STOP: VE_CTL.CMD 2 (R202). -/
def execVeCmdStop (e : Fin 96) (s : State) : Host.Outcome State Fault Refusal :=
  if (s.eng e.val).st = .running then .next (s.stopEng e.val) else .next s

/-- VE_CMD_RESET: VE_CTL.CMD 3 (R202). -/
def execVeCmdReset (e : Fin 96) (s : State) : Host.Outcome State Fault Refusal :=
  if s.resetOk e.val then .next (s.resetEng e.val) else .next s

/-- Does TARGET name an engine? -/
def Pkt.engOk (p : Pkt) : Bool := decide (p.target.toNat < 96)

/-- ENG_CTL start (R208, R561). -/
def execEngCtlStart (p : Pkt) (s : State) : Host.Outcome State Fault Refusal :=
  runCmd 0x2107 false (lenIs 1 p) p.engOk (fun _ s =>
    let e := p.target.toNat
    if s.overcast || !s.startOk e then refuse stBusy s
    else finish (s.setEng e { s.eng e with startDue := true })) p s

/-- ENG_CTL stop (R208). -/
def execEngCtlStop (p : Pkt) (s : State) : Host.Outcome State Fault Refusal :=
  runCmd 0x2107 false (lenIs 1 p) p.engOk (fun _ s =>
    let e := p.target.toNat
    if (s.eng e).st = .running then finish (s.stopEng e) else refuse stBusy s) p s

/-- ENG_CTL reset (R208): an engine prescribed RETIRED runs its self-test, whose result is pass (R587). -/
def execEngCtlReset (p : Pkt) (pass : Bool) (s : State) : Host.Outcome State Fault Refusal :=
  runCmd 0x2107 false (lenIs 1 p) p.engOk (fun _ s =>
    let e := p.target.toNat
    if !s.resetOk e then refuse stBusy s
    else if (s.eng e).st = .retired ∧ sparseGet (fun _ => false) s.jrn.core.eng e then
      if pass then
        finish { s.resetEng e with jrn := { s.jrn with core := { s.jrn.core with eng := sparseSet (fun _ => false) s.jrn.core.eng e false } } }
      else refuse stHwFault s
    else finish (s.resetEng e)) p s

/-- ENG_CTL retire (R208). -/
def execEngCtlRetire (p : Pkt) (s : State) : Host.Outcome State Fault Refusal :=
  runCmd 0x2107 false (lenIs 1 p) p.engOk (fun id s =>
    let e := p.target.toNat
    match s.serves e with
    | none => refuse stBusy s
    | some (g, _) =>
      if !s.groupRuns g || ((s.eng e).st != .running && (s.eng e).st != .halted) then refuse stBusy s
      else if (s.spareFor g).isNone then refuse stNoResource s
      else .later (s.trigger e 3 true (some (p.func.val, id)))) p s

/-- ENG_CTL rejoin (R208, R561). -/
def execEngCtlRejoin (p : Pkt) (s : State) : Host.Outcome State Fault Refusal :=
  runCmd 0x2107 false (lenIs 1 p) p.engOk (fun id s =>
    let e := p.target.toNat
    let x := s.eng e
    match s.serves e with
    | none => refuse stBusy s
    | some (g, _) =>
      if s.overcast || !s.groupRuns g || x.st != .stopped || !x.loaded || !x.slab.ready then refuse stBusy s
      else .later (s.setVec { s.vec with rejoins := s.vec.rejoins ++ [⟨e, s.tick.count.toNat, p.func.val, id⟩] })) p s

/-- SLAB_CTL_OFF: SLAB_CTL.MODE 0 (R194 to R196). -/
def execSlabCtlOff (e : Fin 96) (s : State) : Host.Outcome State Fault Refusal :=
  if s.modeOk e.val 0 then .next (s.slabRequest e.val 0) else .next s

/-- SLAB_CTL_RETAIN: SLAB_CTL.MODE 1 (R194 to R196). -/
def execSlabCtlRetain (e : Fin 96) (s : State) : Host.Outcome State Fault Refusal :=
  if s.modeOk e.val 1 then .next (s.slabRequest e.val 1) else .next s

/-- SLAB_CTL_ON: SLAB_CTL.MODE 2 (R194, R195). -/
def execSlabCtlOn (e : Fin 96) (s : State) : Host.Outcome State Fault Refusal := .next (s.slabRequest e.val 2)

/-- SLAB_MODE (R194 to R196). -/
def execSlabMode (p : Pkt) (s : State) : Host.Outcome State Fault Refusal :=
  runCmd 0x2109 false (lenIs 1 p) p.engOk (fun _ s =>
    let e := p.target.toNat
    let m := p.w 0 % 256
    if 2 < m then refuse stBadParam s
    else if s.modeOk e m then finish (s.slabRequest e m) else refuse stBusy s) p s

/-- SLAB_ZERO_FILL_DONE (R194, R199, R268). -/
def execSlabZeroFillDone (e : Fin 96) (s : State) : Host.Outcome State Fault Refusal :=
  if (s.eng e.val).slab.work = .zeroFill then .next (s.fillEnds e.val) else .next s

/-- SLAB_WAKE_SCRUB_DONE (R197). -/
def execSlabWakeScrubDone (e : Fin 96) (s : State) : Host.Outcome State Fault Refusal :=
  if (s.eng e.val).slab.work = .wakeScrub then .next (s.wakeEnds e.val) else .next s

/-- SLAB_RELOAD_DONE: the reload whose turn it is (R199). -/
def execSlabReloadDone (e : Fin 96) (s : State) : Host.Outcome State Fault Refusal :=
  if (s.eng e.val).slab.work = .reload ∧ s.vec.reloads.head? = some e.val then .next (s.reloadEnds e.val) else .next s

/-- Indirect access is refused (R212). -/
def State.indRefused (s : State) (e : Nat) : State := s.setFld (F.SLAB_STATUS_IND_REFUSED e) 1

/-- May indirect access be made (R212)? -/
def State.indOk (s : State) (e : Nat) : Bool := (s.eng e).st != .running && (s.eng e).slab.ready

/-- SLAB_INDIRECT_READ: SLAB_ADDR with GO 1 and WR 0 (R212, R267). -/
def execSlabIndirectRead (e : Fin 96) (word : BitVec 17) (s : State) : Host.Outcome State Fault Refusal :=
  let e := e.val
  let s := (s.setFld (F.SLAB_ADDR_WORD e) word.toNat).setFld (F.SLAB_ADDR_WR e) 0
  if s.indOk e ∧ word.toNat ≤ 65536 then
    let c := ((s.eng e).slab.through word.toNat).toNat
    let s := (List.range 8).foldl (fun s i => s.wr (R.SLAB_DATA e i) (BitVec.ofNat 32 (c >>> (32 * i)))) s
    .next (s.wr (R.SLAB_DATA_CHECK e) (BitVec.ofNat 32 (c >>> 256)))
  else .next (s.indRefused e)

/-- SLAB_INDIRECT_WRITE: SLAB_ADDR with GO 1 and WR 1 (R212). -/
def execSlabIndirectWrite (e : Fin 96) (word : BitVec 17) (s : State) : Host.Outcome State Fault Refusal :=
  let e := e.val
  let s := (s.setFld (F.SLAB_ADDR_WORD e) word.toNat).setFld (F.SLAB_ADDR_WR e) 1
  if s.indOk e ∧ word.toNat ≤ 65536 then
    if word.toNat = 65536 then .next s
    else
      let d := (List.range 8).foldl (fun d i => d + (s.rd (R.SLAB_DATA e i)).toNat * 2 ^ (32 * i)) 0
      .next ((s.setSlab e ((s.eng e).slab.updWrite word.toNat d)).injectEng 4 e word.toNat)
  else .next (s.indRefused e)

/-- Write consecutive slab words from 32-byte blocks; fuel bounds them. -/
def Slab.writeRun (b : Slab) (i : Nat) (bs : List Byte) : Nat → Slab
  | 0 => b
  | n + 1 => (b.updWrite i (ofLe (bs.take 32))).writeRun (i + 1) (bs.drop 32) n

/-- SLAB_WRITE (R627, R561). -/
def execSlabWrite (p : Pkt) (s : State) : Host.Outcome State Fault Refusal :=
  runCmd 0x2104 false
    (if 9 ≤ p.length ∧ p.length ≤ 1017 ∧ p.length % 8 = 1 then none else some 9) p.engOk (fun _ s =>
    let e := p.target.toNat
    let n := (p.length - 1) / 8
    if s.overcast || !s.indOk e then refuse stBusy s
    else if 65536 < p.w 0 + n then refuse stBadParam s
    else finish ((s.setSlab e ((s.eng e).slab.writeRun (p.w 0) (p.bytes.drop 4) n)).injectEng 4 e (p.w 0))) p s

/-- Read n slab words from i in correcting mode (R627): the data, or the failing word. -/
def State.readSlab (s : State) (e i : Nat) : Nat → State × Except Nat (List Byte)
  | 0 => (s, .ok [])
  | n + 1 =>
    let c := (s.eng e).slab.through i
    let go := fun (s : State) =>
      match s.readSlab e (i + 1) n with
      | (s, .ok bs) => (s, Except.ok (dataBytes (deliveredData c) ++ bs))
      | (s, .error m) => (s, .error m)
    match decodeWord c with
    | .clean => go s
    | .corrected _ _ => go (s.bump (C.SLAB_CE e))
    | .bad => ((s.bump (C.SLAB_UE e)).logUe 4 (65537 * e + i) 1, .error i)

/-- SLAB_READ (R627). -/
def execSlabRead (p : Pkt) (s : State) : Host.Outcome State Fault Refusal :=
  runCmd 0x2105 false (lenIs 2 p) p.engOk (fun _ s =>
    let e := p.target.toNat
    if !s.indOk e then refuse stBusy s
    else if p.w 1 = 0 ∨ 127 < p.w 1 ∨ 65536 < p.w 0 + p.w 1 then refuse stBadParam s
    else
      match s.readSlab e (p.w 0) (p.w 1) with
      | (s, .ok bs) => finish s bs
      | (s, .error i) => refuse stHwFault s i) p s

/-- SLAB_COPY_DONE (R205, R207). -/
def execSlabCopyDone (s : State) : Host.Outcome State Fault Refusal := .next s.copyEnds

/-- VE_DOORBELL_RING: VE_DOORBELL.RING 1 sets cause 3 (R210, Table 7-9). -/
def execVeDoorbellRing (e : Fin 96) (s : State) : Host.Outcome State Fault Refusal := .next (s.raiseIp e.val 3)

/-- APERTURE_ACCESS: function f reads, or writes wr to, the 32-bit word at off of an engine's window, 0x4000 and up (R210,
R211). -/
def execApertureAccess (f : Fin 6) (e : Fin 96) (off : BitVec 16) (wr : Option Word) (s : State) :
    Host.Outcome State Fault Refusal :=
  let e := e.val
  let a := off.toNat / 4 * 4
  let x := s.eng e
  if a < 0x4000 then .next s
  else if f.val ≠ 0 ∧ f.val ≠ 2 then
    match wr with
    | none => .next (s.answer f.val 0)
    | some _ => .next (s.accErr f.val (0x01000000 + 0x10000 * e + a) 1)
  else if f.val = 0 ∧ wr.isSome then .next (s.accErr 0 (0x01000000 + 0x10000 * e + a) 2)
  else if x.apertureOpen then
    let imem := decide (a < 0x8000)
    let loc := if imem then a - 0x4000 else s.fld (F.VE_SPAD_PAGE_PAGE e) * 0x8000 + (a - 0x8000)
    let i := loc / 32
    let j := loc % 32 / 4
    let c := if imem then sparseGet (fun _ => 0) x.imem i else x.spadWord i
    let s := match decodeWord c with
      | .bad => s.logUe (if imem then 6 else 5) (if imem then 512 * e + i else 4096 * e + i) 1
      | _ => s
    match wr with
    | none => .next (s.answer f.val (codeWord32 c j))
    | some v =>
      let c := codePut32 c j v.toNat
      .next ((s.setEng e (if imem then { x with imem := sparseSet (fun _ => 0) x.imem i c } else x.setSpad i c)).injectEng
        (if imem then 6 else 5) e i)
  else
    let s := s.setFld (F.VE_STATUS_APERTURE_REFUSED e) 1
    match wr with
    | none => .next (s.answer f.val 0)
    | some _ => .next s

/-- A kernel image with instructions put from an index. -/
def putInsns (img : Sparse Nat) (i : Nat) : List Byte → Nat → Sparse Nat
  | _, 0 => img
  | bs, n + 1 => putInsns (sparseSet (fun _ => 0) img i (ofLe (bs.take 8))) (i + 1) (bs.drop 8) n

/-- KERNEL_LOAD (R626, R561, Table 20-6). -/
def execKernelLoad (p : Pkt) (s : State) : Host.Outcome State Fault Refusal :=
  runCmd 0x2101 false
    (if 3 ≤ p.length ∧ p.length ≤ 1017 ∧ p.length % 2 = 1 then none else some 3) true (fun _ s =>
    let h := p.target.toNat
    let n := (p.length - 1) / 2
    let off := p.w 0 % 65536
    if s.overcast then refuse stBusy s
    else if 2048 < off + n then refuse stBadParam s
    else if !s.ddrReady then refuse stTimeout s
    else
      let img := (sparseGet (fun _ => none) s.vec.kernels h).getD []
      let img := putInsns img off (p.bytes.drop 4) n
      finish (s.setVec { s.vec with kernels := sparseSet (fun _ => none) s.vec.kernels h (some img) })) p s

/-- KERNEL_FREE (R626). -/
def execKernelFree (p : Pkt) (s : State) : Host.Outcome State Fault Refusal :=
  runCmd 0x2102 false (lenIs 0 p) true (fun _ s =>
    let h := p.target.toNat
    match sparseGet (fun _ => none) s.vec.kernels h with
    | none => refuse stBadTarget s
    | some _ =>
      if (List.range 96).any (fun e => (s.eng e).kernel == some h && (s.eng e).st != .retired) then refuse stBusy s
      else finish (s.setVec { s.vec with kernels := sparseSet (fun _ => none) s.vec.kernels h none })) p s

/-- ENG_LOAD (R626, R561). -/
def execEngLoad (p : Pkt) (s : State) : Host.Outcome State Fault Refusal :=
  runCmd 0x2103 false (lenIs 1 p) p.engOk (fun _ s =>
    let e := p.target.toNat
    let h := p.w 0 % 65536
    let x := s.eng e
    if s.overcast || !x.apertureOpen then refuse stBusy s
    else
      match sparseGet (fun _ => none) s.vec.kernels h with
      | none => refuse stBadParam s
      | some img =>
        if !s.ddrReady then refuse stTimeout s
        else finish ((s.setEng e { x with imem := imemOf img, kernel := some h, loadLost := false, imemBad := [] }).injectEng
          6 e 0)) p s

/-- ENG_SPARE (R201, R251, Table 20-6): designates a STOPPED engine that holds the group's kernel, or ends a designation. -/
def execEngSpare (p : Pkt) (s : State) : Host.Outcome State Fault Refusal :=
  runCmd 0x2106 false (lenIs 1 p) p.engOk (fun _ s =>
    let e := p.target.toNat
    let g := p.w 0 % 256
    let on := p.w 0 / 256 % 256
    let x := s.eng e
    if 3 < g ∨ 1 < on then refuse stBadParam s
    else if on = 1 then
      if (s.vg g).state = 0 then refuse stBadParam s
      else if x.st = .stopped ∧ x.spareOf = none ∧ (s.serves e).isNone ∧ x.loaded ∧ x.kernel = some (s.vg g).kernel ∧
          x.slab.mode = 2 ∧ x.slab.ready then
        finish (s.setEng e { x with st := .spare, spareOf := some g })
      else refuse stBusy s
    else if x.spareOf = some g ∧ s.vec.retiring.all (fun r => r.spare != some e || r.tookAt.isSome) then
      finish ((s.setEng e { x with spareOf := none, st := if x.st = .spare then .stopped else x.st }).leaveOff e)
    else refuse stBusy s) p s

/-- ENG_RETIRE_CFG (R214). -/
def execEngRetireCfg (p : Pkt) (s : State) : Host.Outcome State Fault Refusal :=
  runCmd 0x2108 false (lenIs 1 p) (p.target == 0) (fun _ s => finish (s.wrRw R.VE_RETIRE_CFG (p.w 0))) p s

end Sys2Proof.Machine
end

