-- ==== Sys2Proof/Machine/Ethernet.lean ====
section
/-! DEFINITION. Commands of the Ethernet ports (chapter 11), and LAUNCH_ENTRY_SEND (R470, R471). Choices: log 20. -/

namespace Sys2Proof.Machine

/-- A frame reaches a MAC: bytes from the destination address to the byte before the FCS; fcsOk its FCS, codeErr a code or FEC
error in it, raw the count at its timestamp point (R342, R343, R346, R349, R352, R406). -/
def State.macReceive (s : State) (m : Nat) (bytes : List Byte) (fcsOk codeErr : Bool) (raw : Nat) : State :=
  let tpid := s.fld (F.ETH_TAG_RX_TPID_S m)
  let len := bytes.length + 4
  let tags := (stripTags tpid 2 bytes).1
  if fcsOk = false then s.bump (C.ETH_FCS_ERR m)
  else if len < 64 then s.bump (C.ETH_RUNT m)
  else if s.ethMaxLen m < len - tags.length then s.bump (C.ETH_TOO_LONG m)
  else if codeErr then s.bump (C.ETH_CODE_ERR m)
  else
    let s := (s.rawTo raw).rxCount m len
    if beAt bytes 12 2 = 0x8808 ∨ isGlide bytes then s
    else if s.mcRejects m bytes then s.bump (C.ETH_MC_FILTERED m)
    else
      let r := stripTags tpid (upTo2 (s.fld (F.ETH_TAG_RX_STRIP m))) bytes
      match s.allocBuf agEthRx r.2.length with
      | (s, .refused) => s
      | (s, .got id) =>
        (s.storeFrame id r.2.length).toClassifier { buf := id, bytes := r.2, tags := r.1, src := m, rxRaw := some s.time.raw, rxTime := s.time.at s.time.raw }

/-- ETH_FRAME_RECEIVE (R342). In a near-end loop the frame is the oldest that the MAC has sent (R322). -/
def execEthFrameReceive (m : Fin 24) (bytes : List Byte) (fcsOk codeErr : Bool) (raw : Nat) (s : State) :
    Host.Outcome State Fault Refusal :=
  let m := m.val
  if s.flag (F.ETH_CFG_ENABLE m) = false ∨ (s.macAt m).link = false then .next s
  else
    let r := s.frameIn m bytes fcsOk
    match r.2 with
    | none => .next r.1
    | some (bs, ok) => .next (r.1.macReceive m bs ok codeErr raw)

/-- ETH_FRAME_TRANSMIT: the MAC starts the frame it took from the scheduler; raw is the count at its timestamp point, met
the byte at which it finds a word uncorrectable (R344, R345); a frame that would still occupy the lane when the next launch
entry must begin waits (R470). -/
def execEthFrameTransmit (m : Fin 24) (raw : Nat) (met : Option Nat) (s : State) : Host.Outcome State Fault Refusal :=
  let m := m.val
  match (s.macAt m).tx with
  | none => .next s
  | some f =>
    let s := s.rawTo raw
    if s.macFree m f.queue ∧ s.clearsLaunch m f then
      .next ((s.setMac m { s.macAt m with tx := none }).sendFrame m f raw met)
    else .next s

/-! Pause (R348 to R351). -/

/-- MODE of ETH_PAUSE: 3 acts as 0. -/
def State.pauseMode (s : State) (m : Nat) : Nat := s.fld (F.ETH_PAUSE_MODE m) % 3

/-- A time setting in ms: other values than 1-1,000 act as 100. -/
def msOr100 (v : Nat) : Nat := if 1 ≤ v ∧ v ≤ 1000 then v else 100

/-- Set pause timers. -/
def Mac.setTimers (x : Mac) : List (Nat × Nat) → Mac
  | [] => x
  | (i, q) :: ts => ({ x with timers := sparseSet (fun _ => 0) x.timers i q } : Mac).setTimers ts

/-- A received PAUSE or PFC frame: mode is the mode that obeys it, ts the timers it sets. -/
def State.pauseFrame (s : State) (m mode : Nat) (ts : List (Nat × Nat)) : State :=
  let x := s.macAt m
  match s.controlIn m (15 + mode) 0 0 with
  | none => s
  | some s =>
    if x.holdoff then s.bump (C.ETH_PAUSE_IGNORED m)
    else
      let s := s.bump (C.ETH_PAUSE_RX m)
      if s.pauseMode m = mode then s.setMac m ((s.macAt m).setTimers ts) else s

/-- PAUSE_FRAME: quanta of 512 bit times (R349). -/
def execPauseFrame (m : Fin 24) (quanta : BitVec 16) (s : State) : Host.Outcome State Fault Refusal :=
  .next (s.pauseFrame m.val 1 [(8, quanta.toNat)])

/-- PFC_FRAME: the quanta of each priority that the frame names (R349). -/
def execPfcFrame (m : Fin 24) (prio : List (Fin 8 × BitVec 16)) (s : State) : Host.Outcome State Fault Refusal :=
  .next (s.pauseFrame m.val 2 (prio.map (fun p => (p.1.val, p.2.toNat))))

/-- PAUSE_TIMER_EXPIRY: a timer reaches 0; timer 8 is the port's. -/
def execPauseTimerExpiry (m : Fin 24) (timer : Fin 9) (s : State) : Host.Outcome State Fault Refusal :=
  .next (s.setMac m.val ((s.macAt m.val).setTimers [(timer.val, 0)]))

/-- PAUSE_WATCHDOG_TRIP: a hold without a break reaches WD_MS; prio is the priority held longest, 0 for the port
(R350). -/
def execPauseWatchdogTrip (m : Fin 24) (prio : Fin 8) (s : State) : Host.Outcome State Fault Refusal :=
  let m := m.val
  let x := s.macAt m
  if x.timers.isEmpty then .next s
  else
    let s := (s.setMac m { x with timers := [], holdoff := true }).bump (C.ETH_WD_TRIP m)
    .next (s.ethEvent m 2 2 [(1, s.pauseMode m), (1, prio.val), (2, msOr100 (s.fld (F.ETH_PAUSE_WD_MS m)))])

/-- PAUSE_HOLDOFF_END: HOLDOFF ms after the trip. -/
def execPauseHoldoffEnd (m : Fin 24) (s : State) : Host.Outcome State Fault Refusal :=
  .next (s.setMac m.val { s.macAt m.val with holdoff := false })

/-! Rate glide (R352 to R358). -/

/-- GLIDE_PROBE: answered, except in OFF, and in RETRAIN, where no frame is started (R357). -/
def execGlideProbe (m : Fin 24) (trans : BitVec 16) (s : State) : Host.Outcome State Fault Refusal :=
  let m := m.val
  let x := s.macAt m
  match s.controlIn m 1 trans.toNat 0 with
  | none => .next s
  | some s => if x.glide = .off ∨ x.stage ≠ 0 then .next s else .next (s.sendGlide m 2 trans.toNat 0 0)

/-- GLIDE_PROBE_ACK: PROBING to HIGH, when it echoes the PROBE's transaction. -/
def execGlideProbeAck (m : Fin 24) (trans : BitVec 16) (s : State) : Host.Outcome State Fault Refusal :=
  let m := m.val
  let x := s.macAt m
  match s.controlIn m 2 trans.toNat 0 with
  | none => .next s
  | some s =>
    if x.glide = .probing ∧ trans.toNat = x.trans then
      .next (s.setMac m { (s.macAt m).newWindow with glide := .high, partner := true })
    else .next s

/-- The answer to a REQ for a rate set (R356): none ACK, some a NAK reason. -/
def State.reqReason (s : State) (m target : Nat) : Option Nat :=
  let x := s.macAt m
  let test := bit s.testLanes (16 + m)
  if x.glide = .off then some 1
  else if (x.glide = .reqDown ∨ x.glide = .reqUp) ∧ x.target = target then none
  else if x.glide ≠ .high ∧ x.glide ≠ .low then some 2
  else if test then some 3
  else if (x.glide = .high ∧ target = 1) ∨ (x.glide = .low ∧ target = 0) then none
  else some 4

/-- GLIDE_REQ (R354, R356): an ACK enters RETRAIN, the device being the initiator when it takes the REQ as the ACK of its
own. In RETRAIN no frame is started, and so none answers (R357). -/
def execGlideReq (m : Fin 24) (trans : BitVec 16) (target : Byte) (s : State) : Host.Outcome State Fault Refusal :=
  let m := m.val
  let x := s.macAt m
  match s.controlIn m 3 trans.toNat target.toNat with
  | none => .next s
  | some s =>
    if x.stage ≠ 0 then .next s else
    match s.reqReason m target.toNat with
    | some r => .next (s.sendGlide m 5 trans.toNat target.toNat r)
    | none =>
      let ours := x.glide == .reqDown || x.glide == .reqUp
      .next ((s.sendGlide m 4 trans.toNat target.toNat 0).startRetrain m target.toNat ours)

/-- Is the MAC's own REQ outstanding with a transaction? -/
def Mac.asked (x : Mac) (trans : Nat) : Bool :=
  (x.glide == .reqDown || x.glide == .reqUp) && x.trans == trans

/-- GLIDE_ACK: RETRAIN is entered. -/
def execGlideAck (m : Fin 24) (trans : BitVec 16) (s : State) : Host.Outcome State Fault Refusal :=
  let m := m.val
  let x := s.macAt m
  match s.controlIn m 4 trans.toNat x.target with
  | none => .next s
  | some s =>
    if x.asked trans.toNat then .next (s.startRetrain m x.target true) else .next s

/-- GLIDE_NAK: counted in GLIDE_FAIL; back to HIGH or LOW. -/
def execGlideNak (m : Fin 24) (trans : BitVec 16) (s : State) : Host.Outcome State Fault Refusal :=
  let m := m.val
  let x := s.macAt m
  match s.controlIn m 5 trans.toNat x.target with
  | none => .next s
  | some s =>
    if x.asked trans.toNat then .next (s.reqFail m 0) else .next s

/-- GLIDE_PROBE_TIMER: every 1 s in PROBING. -/
def execGlideProbeTimer (m : Fin 24) (s : State) : Host.Outcome State Fault Refusal :=
  let m := m.val
  let x := s.macAt m
  if x.glide = .probing then
    let t := (x.trans + 1) % 65536
    .next ((s.setMac m { x with trans := t }).sendGlide m 1 t 0 0)
  else .next s

/-- GLIDE_REQ_TIMER: 100 µs after a REQ without an answer; five unanswered fail. -/
def execGlideReqTimer (m : Fin 24) (s : State) : Host.Outcome State Fault Refusal :=
  let m := m.val
  let x := s.macAt m
  if x.glide = .reqDown ∨ x.glide = .reqUp then
    if x.tries < 5 then .next (s.sendReq m) else .next (s.reqFail m 1)
  else .next s

/-- GLIDE_WINDOW_END: the end of a window of WIN ms (R355); at grades 5 to 7 the down test is the vector cycle's. -/
def execGlideWindowEnd (m : Fin 24) (s : State) : Host.Outcome State Fault Refusal :=
  let m := m.val
  let x := s.macAt m
  let s := s.setMac m { x.newWindow with quiet := false }
  let thr := s.glideLow m * s.glideWin m * 12500
  if x.glide = .high ∧ x.quiet = false ∧ s.pwr.grade < 5 ∧ x.sentWin < thr ∧ x.rcvdWin < thr then .next (s.startReq m 1)
  else .next s

/-- GLIDE_RATE_CHANGE: after 10 µs of idle (R357); the link is not up until it is regained. -/
def execGlideRateChange (m : Fin 24) (s : State) : Host.Outcome State Fault Refusal :=
  let m := m.val
  let x := s.macAt m
  if x.stage = 1 then .next ((s.setMac m { x with stage := 2, link := false }).macRate m x.target) else .next s

/-- GLIDE_LINK_UP: the link is up again, us microseconds after the rate change (R357, R358). -/
def execGlideLinkUp (m : Fin 24) (us : Nat) (s : State) : Host.Outcome State Fault Refusal :=
  let m := m.val
  let x := s.macAt m
  if x.stage = 2 then
    let s := s.setMac m { x.newWindow with
      glide := if x.target = 0 then .high else .low, stage := 0, link := true, lastRetrain := min us 0xFFFF }
    let s := s.bump (if x.target = 1 then C.ETH_GLIDE_DOWN m else C.ETH_GLIDE_UP m)
    .next (s.ethEvent m 3 5 [(1, x.target), (2, min us 0xFFFF), (1, b2n (!x.ours))])
  else if x.stage = 3 then .next ((s.setMac m { x with link := true }).glideFail m 2)
  else .next s

/-- GLIDE_RETRAIN_TIMEOUT: 2 ms without a link: back to the previous rate set, then the link is down (R357, R358). -/
def execGlideRetrainTimeout (m : Fin 24) (s : State) : Host.Outcome State Fault Refusal :=
  let m := m.val
  let x := s.macAt m
  if x.stage = 2 then .next (((s.setMac m { x with stage := 3 }).macRate m x.prev).bump (C.ETH_GLIDE_FAIL m))
  else if x.stage = 3 then .next (s.ethLinkDown m 3)
  else .next s

/-! Links and configuration. -/

/-- ETH_LINK_UP (R354, Table 11-6). -/
def execEthLinkUp (m : Fin 24) (s : State) : Host.Outcome State Fault Refusal :=
  let m := m.val
  let x := s.macAt m
  if s.flag (F.ETH_CFG_ENABLE m) ∧ x.link = false ∧ x.stage = 0 ∧ s.asleep (16 + m) true = false ∧ s.asleep (16 + m) false = false then
    let s := s.setMac m { x with link := true, partner := false, downLong := false }
    let s := s.setLane (16 + m) { s.lane (16 + m) with sd := true, cdr := true }
    let s := ((s.macRate m (s.ethSpeed m)).laneEval (16 + m)).glideEval m
    .next (s.ethEvent m 3 4 [(1, (s.macAt m).rate), (1, s.ethFec m)])
  else .next s

/-- ETH_LINK_DOWN: cause 0 signal lost, 1 block lock lost, 2 remote fault; a link being retrained is not up. -/
def execEthLinkDown (m : Fin 24) (cause : Fin 3) (s : State) : Host.Outcome State Fault Refusal :=
  let x := s.macAt m.val
  if x.link then .next (s.ethLinkDown m.val cause.val) else .next s

/-- ETH_LINK_DOWN_SLEEP: the link has been down for 1 s (R532). -/
def execEthLinkDownSleep (m : Fin 24) (s : State) : Host.Outcome State Fault Refusal :=
  let x := s.macAt m.val
  if x.link ∨ x.stage ≠ 0 then .next s else .next ((s.setMac m.val { x with downLong := true }).laneEval (16 + m.val))

/-- ETH_CFG. -/
def execEthCfg (p : Pkt) (s : State) : Host.Outcome State Fault Refusal :=
  runCmd 0x3401 false (lenIs 1 p) (decide (p.target.toNat < 24)) (fun _ s =>
    finish (s.writeEthCfg p.target.toNat (p.w 0))) p s

/-- ETH_TAGS: ETH_TAG_RX, ETH_TAG_TX, ETH_TAG_TX_VID, ETH_PCP_MAP[0..1]. -/
def execEthTags (p : Pkt) (s : State) : Host.Outcome State Fault Refusal :=
  runCmd 0x3402 false (lenIs 5 p) (decide (p.target.toNat < 24)) (fun _ s =>
    finish (s.wrRun (R.ETH_TAG_RX p.target.toNat) p.payload)) p s

/-- ETH_MCHASH: all 128 words (R347). -/
def execEthMchash (p : Pkt) (s : State) : Host.Outcome State Fault Refusal :=
  runCmd 0x3403 false (lenIs 128 p) (decide (p.target.toNat < 24)) (fun _ s =>
    finish (s.wrRun (R.ETH_MCHASH p.target.toNat 0) p.payload)) p s

/-- ETH_PAUSE. -/
def execEthPause (p : Pkt) (s : State) : Host.Outcome State Fault Refusal :=
  runCmd 0x3404 false (lenIs 1 p) (decide (p.target.toNat < 24)) (fun _ s =>
    finish (s.wrRw (R.ETH_PAUSE p.target.toNat) (p.w 0))) p s

/-- ETH_GLIDE. -/
def execEthGlide (p : Pkt) (s : State) : Host.Outcome State Fault Refusal :=
  runCmd 0x3405 false (lenIs 1 p) (decide (p.target.toNat < 24)) (fun _ s =>
    finish (s.writeGlide p.target.toNat (p.w 0))) p s

/-- ETH_STAT_SNAP (R360). -/
def execEthStatSnap (m : Fin 24) (s : State) : Host.Outcome State Fault Refusal := .next (s.copyBank 0 (ethCtrs m.val))

/-! Launch at time. -/

/-- A late entry is counted and told, first per vector cycle per MAC (R471): action 0 sent, 1 dropped. -/
def State.countLate (s : State) (m : Nat) (x : Launch) (action : Nat) : State :=
  let s := s.bump C.TIME_LAUNCH_LATE
  if bit s.time.lateTold m then s
  else (s.setTime { s.time with lateTold := setBit s.time.lateTold m }).raiseRow 0x0090 3 16 5 5
    [(1, m), (8, x.sec % 65536 * 2 ^ 30 + x.ns), (1, action)]

/-- LAUNCH_ENTRY_SEND: the MAC's next launch entry, whose timestamp point would cross the balls at a raw count; one that
is early waits, one more than 8 ns behind its instant is late (R470, R471). -/
def execLaunchEntrySend (m : Fin 24) (raw : Nat) (met : Option Nat) (s : State) : Host.Outcome State Fault Refusal :=
  let m := m.val
  let s := s.rawTo raw
  match nextLaunch (s.launchQ m) with
  | none => .next s
  | some x =>
    let now := s.time.at s.time.raw
    if x.late = false ∧ passed x.instant (now + 8 * 2 ^ 40) then .next s
    else
      let late := x.late || passed now (x.instant + 8 * 2 ^ 40)
      let f := x.frame
      let drop := late && bit (s.fld F.TIME_LAUNCH_CFG_LATE_DROP) m
      if drop = false ∧ s.macFree m f.queue = false then .next s
      else
        let s := s.setLaunchQ m ((s.launchQ m).erase x)
        let n := s.n1 m
        let s := s.setN1 m { n with held := n.held - bufBytes f }
        let s := if late then s.countLate m x (b2n drop) else s
        if drop then .next (s.finishDest f.buf agQm 0)
        else .next ((s.takeBuf f.buf agEthTx).sendFrame m f raw met)

end Sys2Proof.Machine
end

