-- ==== Sys2Proof/Machine/Forward.lean ====
section
/-! DEFINITION. Commands of the forwarding table (chapter 13), and the commit of a host-to-device frame (R427).
Choices: log 22. -/

namespace Sys2Proof.Machine

/-- LEARN_GRANT: the arbiter's oldest request is a learn, and is granted (R389 to R391, R393). -/
def execLearnGrant (s : State) : Host.Outcome State Fault Refusal :=
  match s.fwd.reqs with
  | r :: _ => if r.kind = .learn then .next (s.nextReq.grantLearn r) else .next s
  | [] => .next s

/-- REFRESH_GRANT: the oldest request is a refresh; one whose entry has gone does nothing (R389, R390). -/
def execRefreshGrant (s : State) : Host.Outcome State Fault Refusal :=
  match s.fwd.reqs with
  | r :: _ =>
    if r.kind = .refresh then
      match s.nextReq.present r with
      | some (p, e) => if e.dest = r.dest then .next (s.nextReq.grantRefresh p e) else .next s.nextReq
      | none => .next s.nextReq
    else .next s
  | [] => .next s

/-- MOVE_GRANT: the oldest request is a station move; one whose entry has gone does nothing (R390 to R392). -/
def execMoveGrant (s : State) : Host.Outcome State Fault Refusal :=
  match s.fwd.reqs with
  | r :: _ =>
    if r.kind = .move then
      match s.nextReq.present r with
      | some (p, e) => .next (s.nextReq.grantPresent p e r)
      | none => .next s.nextReq
    else .next s
  | [] => .next s

/-- AGING_DELETE_GRANT: the oldest request is a deletion: of an entry that is still aged (R395), or of a learned entry that
still has its parity error (R524). -/
def execAgingDeleteGrant (s : State) : Host.Outcome State Fault Refusal :=
  match s.fwd.reqs with
  | r :: _ =>
    if r.kind = .age then
      match s.nextReq.present r with
      | some (p, e) => if s.aged e then .next ((s.nextReq.removeAt p).bump C.FWD_AGED) else .next s.nextReq
      | none => .next s.nextReq
    else if r.kind = .parity then
      match s.nextReq.present r with
      | some (p, e) => if s.parityBad 2 p && !e.static then .next (s.nextReq.removeAt p) else .next s.nextReq
      | none => .next s.nextReq
    else .next s
  | [] => .next s

/-- The scan looks at the lock and the age of one entry (R392, R395). -/
def State.scanOne (s : State) (pos : Nat) (e : FwdEntry) : State :=
  if e.lock then
    if s.lockTime ≤ clockSince s.fwd.sec e.mt then
      s.setFwdAt pos (some { e with lock := false, mt := s.fwd.ms })
    else s
  else if s.aged e then s.requestDelete .age e
  else s

/-- The scan examines one place (R392, R395, R396): a flush deletes, a lock ends, an aged entry's deletion is queued. After
a deletion the place is examined again, since the stash may have refilled it; fuel bounds that. -/
def State.scanPlace (s : State) (pos : Nat) : Nat → State
  | 0 => s
  | n + 1 =>
    match s.fwdAt pos with
    | none => s
    | some e =>
      match s.fwd.flush with
      | some fl =>
        if e.dest = fl.dest ∧ (e.static = false ∨ fl.static) then
          let s := s.removeAt pos
          (s.setFwd { s.fwd with flush := some { fl with deleted := fl.deleted + 1 } }).scanPlace pos n
        else s.scanOne pos e
      | none => s.scanOne pos e

/-- AGING_SCAN_STEP: the next bucket or stash place is examined (R395, R396). -/
def execAgingScanStep (s : State) : Host.Outcome State Fault Refusal :=
  let i := s.fwd.scan
  let ps := if i < 32768 then bucketPlaces i else [stashBase + (i - 32768)]
  if (s.fwd.flush.map (·.left)) = some 0 then .next s
  else
    let s := ps.foldl (fun s p => s.scanPlace p 257) s
    let fl := s.fwd.flush.map (fun f => { f with left := f.left - 1 })
    .next (s.setFwd { s.fwd with scan := (i + 1) % 33024, flush := fl })

/-- FID and address of a key payload (Table 13-3). -/
def keyPayload (p : Pkt) : Nat × Nat := (leAt p.bytes 0 2, beAt p.bytes 2 6)

/-- SEARCH: the record of a key, or nothing (R397). -/
def execFwdSearch (p : Pkt) (s : State) : Host.Outcome State Fault Refusal :=
  runCmd 0x3101 false (lenIs 2 p) (p.target == 0) (fun _ s =>
    let k := keyPayload p
    if 4095 < k.1 then refuse stBadParam s
    else match s.fwdLookup k.1 k.2 with
      | (s, some (_, e)) => finish s e.record
      | (s, none) => finish s) p s

/-- The entries from a position up, in ascending order. -/
def State.entriesFrom (s : State) (pos : Nat) : List (Nat × FwdEntry) :=
  s.fwd.entries.filterMap (fun p => match p.2 with
    | some e => if pos ≤ p.1 then some (p.1, e) else none
    | none => none)

/-- A NEXT on walk i from a position (R399, R400): carried records first, then entries; the walk closes when nothing is
left. -/
def State.walkNext (s : State) (i pos n : Nat) : BodyOut :=
  match s.walkAt i with
  | none => refuse stBadTarget s
  | some w =>
    let c := w.carry.take n
    let l := s.entriesFrom pos
    let es := l.take (n - c.length)
    let rest := l.drop (n - c.length)
    let next := match rest with
      | (q, _) :: _ => q
      | [] => fwdPlaces
    let recs := (c.map (·.record)).flatten ++ (es.map (·.2.record)).flatten
    let carry := w.carry.drop n
    if rest.isEmpty && carry.isEmpty then finish (s.setWalk i none) (leBytes 4 0xFFFFFFFF ++ recs)
    else finish (s.setWalk i (some ⟨next, carry, s.tick.count.toNat⟩)) (leBytes 4 (i * 2 ^ 30 + 2 ^ 29 + next) ++ recs)

/-- NEXT: opens or continues a walk (R399 to R401). -/
def execFwdNext (p : Pkt) (s : State) : Host.Outcome State Fault Refusal :=
  runCmd 0x3102 false (lenIs 2 p) (p.target == 0) (fun _ s =>
    let c := p.w 0
    let n := p.w 1
    if n = 0 ∨ 255 < n then refuse stBadParam s
    else if c = 0 then
      match (List.range 4).find? (fun i => (s.walkAt i).isNone) with
      | none => refuse stBusy s
      | some i => (s.setWalk i (some {})).walkNext i 0 n
    else if bit c 29 ∧ bitsOf c 28 18 = 0 then s.walkNext (c / 2 ^ 30) (c % 2 ^ 18) n
    else refuse stBadTarget s) p s

/-- Table commands that change the table wait for the requests queued before them (R389). -/
def State.arbiterFree (s : State) : Bool := s.fwd.reqs.isEmpty

/-- Source that a host-given DEST counts for (R391). -/
def destSource (d : Nat) : Nat := if d < 28 then d else 255

/-- INSERT: creates or replaces an entry (R397, R398). -/
def execFwdInsert (p : Pkt) (s : State) : Host.Outcome State Fault Refusal :=
  if s.arbiterFree then
    runCmd 0x3103 false (lenIs 4 p) (p.target == 0) (fun _ s =>
      let b := p.bytes
      let mac := beAt b 0 6
      let fid := leAt b 6 2
      let d := leAt b 8 1
      let st := bit (leAt b 9 1) 0
      if 4095 < fid ∨ (96 ≤ d ∧ d ≤ 127) ∨ (128 ≤ d ∧ st = false) ∨ bitsOf (leAt b 9 1) 3 2 ≠ 0 then refuse stBadParam s
      else match (s.fwdFind fid mac).bind (fun i => (s.fwdAt i).map (fun e => (i, e))) with
        | some (i, e) => finish (s.setFwdAt i (some { e with
            dest := d, static := st, lock := false, moves := 0, mt := s.fwd.ms, ts := s.fwd.now, src := destSource d })) [] 1
        | none =>
          let c := s.create { mac := mac, fid := fid, dest := d, static := st, src := destSource d }
          if c.2 then finish c.1 else refuse stNoResource c.1) p s
  else .next s

/-- DELETE: deletes an entry (R397). -/
def execFwdDelete (p : Pkt) (s : State) : Host.Outcome State Fault Refusal :=
  if s.arbiterFree then
    runCmd 0x3104 false (lenIs 2 p) (p.target == 0) (fun _ s =>
      let k := keyPayload p
      if 4095 < k.1 then refuse stBadParam s
      else match s.fwdFind k.1 k.2 with
        | none => refuse stBadTarget s
        | some i => finish (s.removeAt i)) p s
  else .next s

/-- FLUSH_PORT: one pass of the scan that deletes the entries of a DEST (R396). -/
def execFlushPort (p : Pkt) (s : State) : Host.Outcome State Fault Refusal :=
  if s.arbiterFree then
    runCmd 0x3105 true (lenIs 1 p) (p.target == 0) (fun id s =>
      let d := leAt p.bytes 0 1
      let fl := leAt p.bytes 1 1
      if (96 ≤ d ∧ d ≤ 127) ∨ 1 < fl ∨ leAt p.bytes 2 2 ≠ 0 then refuse stBadParam s
      else if s.fwd.flush.isSome then refuse stBusy s
      else .fin (s.setFwd { s.fwd with
        flush := some { dest := d, static := fl == 1, left := 33024, func := p.func.val, id := id } }) ⟨stAccepted, 0, []⟩) p s
  else .next s

/-- FLUSH_COMPLETE: the flush has scanned the whole table (R396, R559, Table 13-6). -/
def execFlushComplete (s : State) : Host.Outcome State Fault Refusal :=
  match s.fwd.flush with
  | some fl =>
    if fl.left = 0 then
      let n := s.arb.raised
      let s := (s.setFwd { s.fwd with flush := none }).raiseRow 0x0082 3 13 4 3 [(1, fl.dest), (4, fl.deleted)]
      .next (s.complete fl.func fl.id n stDone 0)
    else .next s
  | none => .next s

/-- FLOOD_SET: a flood set or a port set (R385, R397, R398). -/
def execFloodSet (p : Pkt) (s : State) : Host.Outcome State Fault Refusal :=
  if s.arbiterFree then
    runCmd 0x3106 false (lenIs 2 p) (p.target == 0) (fun _ s =>
      let b := p.bytes
      let kind := leAt b 0 1
      let i := leAt b 2 2
      if 1 < kind ∨ leAt b 1 1 ≠ 0 ∨ (if kind = 0 then 4095 else 127) < i then refuse stBadParam s
      else if kind = 0 then
        finish (s.setFwd { s.fwd with flood := sparseSet (fun _ => 0x0FFFFFFF) s.fwd.flood i (p.w 1) })
      else finish (s.setFwd { s.fwd with ports := sparseSet (fun _ => 0) s.fwd.ports i (p.w 1) })) p s
  else .next s

/-- FWD_CFG: FWD_CFG, FWD_AGE_CFG and FWD_MOVE_CFG, or FWD_PORT_CFG of the source TARGET - 1 (R402). -/
def execFwdCfg (p : Pkt) (s : State) : Host.Outcome State Fault Refusal :=
  runCmd 0x3107 false (lenIs (if p.target = 0 then 3 else 1) p) (decide (p.target.toNat ≤ 28)) (fun _ s =>
    if p.target = 0 then finish (s.wrRun R.FWD_CFG p.payload)
    else finish (s.wrRw (R.FWD_PORT_CFG (p.target.toNat - 1)) (p.w 0))) p s

/-- WALK_TIMEOUT: a walk that has had no NEXT for 1 s, 48,000 ticks, closes (R399). -/
def execWalkTimeout (w : Fin 4) (s : State) : Host.Outcome State Fault Refusal :=
  match s.walkAt w.val with
  | none => .next s
  | some x =>
    if 48000 ≤ (s.tick.count - BitVec.ofNat 48 x.at_).toNat then .next (s.setWalk w.val none) else .next s

/-- FWD_STAT_SNAP (R402). -/
def execFwdStatSnap (s : State) : Host.Outcome State Fault Refusal := .next (s.copyBank 0 fwdCtrs)

/-! Commit of a host-to-device frame. -/

/-- The channel whose OMCC takes its upstream messages from a host-to-device queue (PON_QUEUES). -/
def State.omccOf (s : State) (q : Nat) : Option Nat := (List.range 4).find? (fun n => (s.ch n).omccHq == some q)

/-- An upstream OMCI message with its MIC in its last four bytes (R133). -/
def omciWithMic (key : List Nat) (bs : List Byte) : List Byte :=
  let body := bs.take (bs.length - 4)
  body ++ omciMic 2 key body

/-- A frame for one MAC asks for a launch (R468, R469): an entry in the MAC's launch queue, or a rejection. -/
def State.launchEnqueue (s : State) (m raw q : Nat) (f : Frame) : State :=
  let l := s.launchQ m
  if 128 ≤ l.length then
    ((s.bump C.TIME_LAUNCH_FULL).raiseRow 0x0090 2 16 3 5 [(1, m), (1, 0), (1, q), (2, f.hqIdx)]).finishDest f.buf agQm 0
  else
    let s := s.rawTo raw
    let now := s.time.at s.time.raw
    let sec := launchSec (timeSec now) (bitsOf f.time 45 30)
    let ns := bitsOf f.time 29 0
    let n := s.n1 m
    (s.setN1 m { n with held := n.held + bufBytes f }).setLaunchQ m (l ++ [⟨f, sec, ns, passed now (timeOf sec ns 0)⟩])

/-- One destination of a committed frame: its launch, or its way to the queue manager with the TIME field that applies
there (R466). -/
def State.hqDest (s : State) (raw q : Nat) (a : Arrival) : State :=
  let f := a.frame
  let mac := decide (a.node1 < 24) && a.group.isNone
  if mac && bit f.time 63 then s.launchEnqueue a.node1 raw q f
  else
    let s := if mac || f.time == 0 then s else s.bump C.TIME_TIME_IGNORED
    let a := if mac then a else { a with frame := { f with time := 0 } }
    { s with sched := { s.sched with arrivals := s.sched.arrivals ++ [a] } }

/-- HQ_FRAME_COMMIT: the last byte of a queue's frame is in the packet buffer, at a raw count (R427, R133, R386, R466,
R468). -/
def execHqFrameCommit (q : Fin 64) (raw : Nat) (s : State) : Host.Outcome State Fault Refusal :=
  let q := q.val
  let h := s.hq q
  match h.cur with
  | none => .next s
  | some f =>
    let func := s.hqFunc q
    let head := (h.head + 1) % 65536
    let s := ((s.setHq q { h with head := head, cur := none }).storeFrame f.buf f.bytes.length).bump (C.HQ_PKTS q)
    let wb := (s.rd (R.HOST_HQ_WB_HI q)).toNat * 2 ^ 32 + (s.rd (R.HOST_HQ_WB_LO q)).toNat
    let s := s.emit (.hostWrite func wb (leBytes 2 head))
    let s := if s.flag (F.HOST_HQ_CFG_NOTICE q) then s.emit (.msix func (s.fld (F.HOST_HQ_CFG_VECTOR q))) else s
    match s.omccOf q with
    | some n =>
      let k := s.chKey n 1
      let s := k.1
      let c := s.ch n
      let msg := omciWithMic k.2 f.bytes
      .next (((s.setCh n { c with omciUp := c.omciUp ++ [msg] }).freeBuf f.buf agH2d q).wake n 2)
    | none =>
      let short := f.time != 0 && decide (f.bytes.length < bitsOf f.time 55 48 + 44)
      let s := if short then s.bump C.TIME_TIME_IGNORED else s
      let f := if short then { f with time := 0 } else f
      let l := if h.fwd then s.destLookup f.fid (beAt f.bytes 0 6) else (s, s.expandDest h.dest)
      let as := (l.2.map (l.1.arrivalFor f)).eraseDups
      if as.isEmpty then .next ((l.1.bump C.FWD_FILTERED).freeBuf f.buf agH2d q)
      else
        let s := (l.1.handover f.buf agH2d q agQm).setDests f.buf as.length
        .next (as.foldl (fun s a => s.hqDest raw q a) s)

end Sys2Proof.Machine
end

