-- ==== Sys2Proof/Machine/Isa.lean ====
section
/-! DEFINITION. The vector engines' instructions (chapter 07). A row of the table names one operation of a 64-bit instruction:
the step issues the whole instruction at VE_PC of engine e (R217) when its operation is the row's, and changes nothing
otherwise. Choices: log 16. -/

namespace Sys2Proof.Machine

/-- NOP: an instruction whose SOP is 0x00 issues (R219). -/
def execNop (e : Fin 96) (s : State) : Host.Outcome State Fault Refusal :=
  .next (s.issue e.val (fun w => iSop w == 0x00))

/-- ADD: an instruction whose SOP is 0x01 issues (R219). -/
def execOpAdd (e : Fin 96) (s : State) : Host.Outcome State Fault Refusal :=
  .next (s.issue e.val (fun w => iSop w == 0x01))

/-- SUB: an instruction whose SOP is 0x02 issues (R219). -/
def execOpSub (e : Fin 96) (s : State) : Host.Outcome State Fault Refusal :=
  .next (s.issue e.val (fun w => iSop w == 0x02))

/-- AND: an instruction whose SOP is 0x03 issues (R219). -/
def execOpAnd (e : Fin 96) (s : State) : Host.Outcome State Fault Refusal :=
  .next (s.issue e.val (fun w => iSop w == 0x03))

/-- OR: an instruction whose SOP is 0x04 issues (R219). -/
def execOpOr (e : Fin 96) (s : State) : Host.Outcome State Fault Refusal :=
  .next (s.issue e.val (fun w => iSop w == 0x04))

/-- XOR: an instruction whose SOP is 0x05 issues (R219). -/
def execOpXor (e : Fin 96) (s : State) : Host.Outcome State Fault Refusal :=
  .next (s.issue e.val (fun w => iSop w == 0x05))

/-- SHL: an instruction whose SOP is 0x06 issues (R219). -/
def execShl (e : Fin 96) (s : State) : Host.Outcome State Fault Refusal :=
  .next (s.issue e.val (fun w => iSop w == 0x06))

/-- SHR: an instruction whose SOP is 0x07 issues (R219). -/
def execShr (e : Fin 96) (s : State) : Host.Outcome State Fault Refusal :=
  .next (s.issue e.val (fun w => iSop w == 0x07))

/-- SRA: an instruction whose SOP is 0x08 issues (R219). -/
def execSra (e : Fin 96) (s : State) : Host.Outcome State Fault Refusal :=
  .next (s.issue e.val (fun w => iSop w == 0x08))

/-- MIN: an instruction whose SOP is 0x09 issues (R219). -/
def execOpMin (e : Fin 96) (s : State) : Host.Outcome State Fault Refusal :=
  .next (s.issue e.val (fun w => iSop w == 0x09))

/-- MAX: an instruction whose SOP is 0x0A issues (R219). -/
def execOpMax (e : Fin 96) (s : State) : Host.Outcome State Fault Refusal :=
  .next (s.issue e.val (fun w => iSop w == 0x0A))

/-- MUL: an instruction whose SOP is 0x0B issues (R219). -/
def execMul (e : Fin 96) (s : State) : Host.Outcome State Fault Refusal :=
  .next (s.issue e.val (fun w => iSop w == 0x0B))

/-- CLZ: an instruction whose SOP is 0x0C issues (R219). -/
def execClz (e : Fin 96) (s : State) : Host.Outcome State Fault Refusal :=
  .next (s.issue e.val (fun w => iSop w == 0x0C))

/-- CMPEQ: an instruction whose SOP is 0x0D issues (R219). -/
def execCmpeq (e : Fin 96) (s : State) : Host.Outcome State Fault Refusal :=
  .next (s.issue e.val (fun w => iSop w == 0x0D))

/-- CMPLT: an instruction whose SOP is 0x0E issues (R219). -/
def execCmplt (e : Fin 96) (s : State) : Host.Outcome State Fault Refusal :=
  .next (s.issue e.val (fun w => iSop w == 0x0E))

/-- CMPLTU: an instruction whose SOP is 0x0F issues (R219). -/
def execCmpltu (e : Fin 96) (s : State) : Host.Outcome State Fault Refusal :=
  .next (s.issue e.val (fun w => iSop w == 0x0F))

/-- ADDI: an instruction whose SOP is 0x10 issues (R219). -/
def execAddi (e : Fin 96) (s : State) : Host.Outcome State Fault Refusal :=
  .next (s.issue e.val (fun w => iSop w == 0x10))

/-- ANDI: an instruction whose SOP is 0x11 issues (R219). -/
def execAndi (e : Fin 96) (s : State) : Host.Outcome State Fault Refusal :=
  .next (s.issue e.val (fun w => iSop w == 0x11))

/-- ORI: an instruction whose SOP is 0x12 issues (R219). -/
def execOri (e : Fin 96) (s : State) : Host.Outcome State Fault Refusal :=
  .next (s.issue e.val (fun w => iSop w == 0x12))

/-- XORI: an instruction whose SOP is 0x13 issues (R219). -/
def execXori (e : Fin 96) (s : State) : Host.Outcome State Fault Refusal :=
  .next (s.issue e.val (fun w => iSop w == 0x13))

/-- SHLI: an instruction whose SOP is 0x14 issues (R219). -/
def execShli (e : Fin 96) (s : State) : Host.Outcome State Fault Refusal :=
  .next (s.issue e.val (fun w => iSop w == 0x14))

/-- SHRI: an instruction whose SOP is 0x15 issues (R219). -/
def execShri (e : Fin 96) (s : State) : Host.Outcome State Fault Refusal :=
  .next (s.issue e.val (fun w => iSop w == 0x15))

/-- SRAI: an instruction whose SOP is 0x16 issues (R219). -/
def execSrai (e : Fin 96) (s : State) : Host.Outcome State Fault Refusal :=
  .next (s.issue e.val (fun w => iSop w == 0x16))

/-- LI: an instruction whose SOP is 0x17 issues (R219). -/
def execOpLi (e : Fin 96) (s : State) : Host.Outcome State Fault Refusal :=
  .next (s.issue e.val (fun w => iSop w == 0x17))

/-- LUI: an instruction whose SOP is 0x18 issues (R219). -/
def execLui (e : Fin 96) (s : State) : Host.Outcome State Fault Refusal :=
  .next (s.issue e.val (fun w => iSop w == 0x18))

/-- DSTEP: an instruction whose SOP is 0x19 issues (R222). -/
def execDstep (e : Fin 96) (s : State) : Host.Outcome State Fault Refusal :=
  .next (s.issue e.val (fun w => iSop w == 0x19))

/-- LDP: an instruction whose SOP is 0x1A issues (R220). -/
def execLdp (e : Fin 96) (s : State) : Host.Outcome State Fault Refusal :=
  .next (s.issue e.val (fun w => iSop w == 0x1A))

/-- STP: an instruction whose SOP is 0x1B issues (R236). -/
def execStp (e : Fin 96) (s : State) : Host.Outcome State Fault Refusal :=
  .next (s.issue e.val (fun w => iSop w == 0x1B))

/-- AGW: an instruction whose SOP is 0x1C issues (R225). -/
def execAgw (e : Fin 96) (s : State) : Host.Outcome State Fault Refusal :=
  .next (s.issue e.val (fun w => iSop w == 0x1C))

/-- AGR: an instruction whose SOP is 0x1D issues (R219). -/
def execAgr (e : Fin 96) (s : State) : Host.Outcome State Fault Refusal :=
  .next (s.issue e.val (fun w => iSop w == 0x1D))

/-- MFS: an instruction whose SOP is 0x1E issues (R223). -/
def execMfs (e : Fin 96) (s : State) : Host.Outcome State Fault Refusal :=
  .next (s.issue e.val (fun w => iSop w == 0x1E))

/-- MTS: an instruction whose SOP is 0x1F issues (R223). -/
def execMts (e : Fin 96) (s : State) : Host.Outcome State Fault Refusal :=
  .next (s.issue e.val (fun w => iSop w == 0x1F))

/-- BEQ: an instruction whose SOP is 0x20 issues (R221). -/
def execBeq (e : Fin 96) (s : State) : Host.Outcome State Fault Refusal :=
  .next (s.issue e.val (fun w => iSop w == 0x20))

/-- BNE: an instruction whose SOP is 0x21 issues (R221). -/
def execBne (e : Fin 96) (s : State) : Host.Outcome State Fault Refusal :=
  .next (s.issue e.val (fun w => iSop w == 0x21))

/-- BLT: an instruction whose SOP is 0x22 issues (R221). -/
def execBlt (e : Fin 96) (s : State) : Host.Outcome State Fault Refusal :=
  .next (s.issue e.val (fun w => iSop w == 0x22))

/-- BGE: an instruction whose SOP is 0x23 issues (R221). -/
def execBge (e : Fin 96) (s : State) : Host.Outcome State Fault Refusal :=
  .next (s.issue e.val (fun w => iSop w == 0x23))

/-- BR: an instruction whose SOP is 0x24 issues (R221). -/
def execBr (e : Fin 96) (s : State) : Host.Outcome State Fault Refusal :=
  .next (s.issue e.val (fun w => iSop w == 0x24))

/-- BRI: an instruction whose SOP is 0x25 issues (R221). -/
def execBri (e : Fin 96) (s : State) : Host.Outcome State Fault Refusal :=
  .next (s.issue e.val (fun w => iSop w == 0x25))

/-- CALL: an instruction whose SOP is 0x26 issues (R219). -/
def execCall (e : Fin 96) (s : State) : Host.Outcome State Fault Refusal :=
  .next (s.issue e.val (fun w => iSop w == 0x26))

/-- REP: an instruction whose SOP is 0x27 issues (R238). -/
def execOpRep (e : Fin 96) (s : State) : Host.Outcome State Fault Refusal :=
  .next (s.issue e.val (fun w => iSop w == 0x27))

/-- LOOP: an instruction whose SOP is 0x28 issues (R239). -/
def execOpLoop (e : Fin 96) (s : State) : Host.Outcome State Fault Refusal :=
  .next (s.issue e.val (fun w => iSop w == 0x28))

/-- WAITT: an instruction whose SOP is 0x29 issues (R242). -/
def execWaitt (e : Fin 96) (s : State) : Host.Outcome State Fault Refusal :=
  .next (s.issue e.val (fun w => iSop w == 0x29))

/-- SDONE: an instruction whose SOP is 0x2A issues (R243). -/
def execSdone (e : Fin 96) (s : State) : Host.Outcome State Fault Refusal :=
  .next (s.issue e.val (fun w => iSop w == 0x2A))

/-- RETI: an instruction whose SOP is 0x2B issues (R247). -/
def execReti (e : Fin 96) (s : State) : Host.Outcome State Fault Refusal :=
  .next (s.issue e.val (fun w => iSop w == 0x2B))

/-- VNOP: an instruction whose vector OP is 0 issues (R232). -/
def execVnop (e : Fin 96) (s : State) : Host.Outcome State Fault Refusal :=
  .next (s.issue e.val (fun w => iVo w == 0))

/-- VMAC: an instruction whose vector OP is 1 issues (R228). -/
def execVmac (e : Fin 96) (s : State) : Host.Outcome State Fault Refusal :=
  .next (s.issue e.val (fun w => iVo w == 1))

/-- VMACS: an instruction whose vector OP is 2 issues (R232). -/
def execVmacs (e : Fin 96) (s : State) : Host.Outcome State Fault Refusal :=
  .next (s.issue e.val (fun w => iVo w == 2))

/-- VCORR: an instruction whose vector OP is 3 issues (R232). -/
def execVcorr (e : Fin 96) (s : State) : Host.Outcome State Fault Refusal :=
  .next (s.issue e.val (fun w => iVo w == 3))

/-- VLDE: an instruction whose vector OP is 4 issues (R232). -/
def execVlde (e : Fin 96) (s : State) : Host.Outcome State Fault Refusal :=
  .next (s.issue e.val (fun w => iVo w == 4))

/-- VCUPD: an instruction whose vector OP is 5 issues (R234). -/
def execVcupd (e : Fin 96) (s : State) : Host.Outcome State Fault Refusal :=
  .next (s.issue e.val (fun w => iVo w == 5))

/-- VSNAP: an instruction whose vector OP is 6 issues (R230). -/
def execVsnap (e : Fin 96) (s : State) : Host.Outcome State Fault Refusal :=
  .next (s.issue e.val (fun w => iVo w == 6))

/-- VCLR: an instruction whose vector OP is 7 issues (R231). -/
def execVclr (e : Fin 96) (s : State) : Host.Outcome State Fault Refusal :=
  .next (s.issue e.val (fun w => iVo w == 7))

/-- ACC: an instruction whose operation of generator g (0 C, 1 X, 2 Y) has ACT 1 issues (R225). -/
def execAcc (e : Fin 96) (g : Fin 3) (s : State) : Host.Outcome State Fault Refusal :=
  .next (s.issue e.val (fun w => iAct w g.val == 1))

/-- ACC_ADV: an instruction whose operation of generator g (0 C, 1 X, 2 Y) has ACT 2 issues (R225). -/
def execAccAdv (e : Fin 96) (g : Fin 3) (s : State) : Host.Outcome State Fault Refusal :=
  .next (s.issue e.val (fun w => iAct w g.val == 2))

/-- ACC_T: an instruction whose operation of generator g (0 C, 1 X, 2 Y) has ACT 3 issues (R225). -/
def execAccT (e : Fin 96) (g : Fin 3) (s : State) : Host.Outcome State Fault Refusal :=
  .next (s.issue e.val (fun w => iAct w g.val == 3))

/-- ACC_0: an instruction whose operation of generator g (0 C, 1 X, 2 Y) has ACT 4 issues (R225). -/
def execAcc0 (e : Fin 96) (g : Fin 3) (s : State) : Host.Outcome State Fault Refusal :=
  .next (s.issue e.val (fun w => iAct w g.val == 4))

/-- ADV: an instruction whose operation of generator g (0 C, 1 X, 2 Y) has ACT 5 issues (R225). -/
def execAdv (e : Fin 96) (g : Fin 3) (s : State) : Host.Outcome State Fault Refusal :=
  .next (s.issue e.val (fun w => iAct w g.val == 5))

/-- TSTEP: an instruction whose operation of generator g (0 C, 1 X, 2 Y) has ACT 6 issues (R225). -/
def execTstep (e : Fin 96) (g : Fin 3) (s : State) : Host.Outcome State Fault Refusal :=
  .next (s.issue e.val (fun w => iAct w g.val == 6))

/-- RST: an instruction whose operation of generator g (0 C, 1 X, 2 Y) has ACT 7 issues (R225). -/
def execRst (e : Fin 96) (g : Fin 3) (s : State) : Host.Outcome State Fault Refusal :=
  .next (s.issue e.val (fun w => iAct w g.val == 7))

/-- SDONE_COMPLETE: every store issued up to SDONE has been written, and the symbol is done (R191, R243). -/
def execSdoneComplete (e : Fin 96) (s : State) : Host.Outcome State Fault Refusal :=
  let x := s.eng e.val
  if x.sdone = 1 ∧ x.pend.all (fun p => !p.old) then .next (s.setEng e.val { x with sdone := 2 }) else .next s

/-- INTERRUPT_ENTRY: the engine takes the pending, enabled cause of highest priority (R246). idle: VE cycles it has waited in a
WAITT since the latest edge. -/
def execInterruptEntry (e : Fin 96) (idle : Nat) (s : State) : Host.Outcome State Fault Refusal :=
  .next (s.enterInt e.val idle)

end Sys2Proof.Machine
end

