-- ==== Sys2Proof/Machine/Pins.lean ====
section
/-! DEFINITION. The test access port and the balls during reset and start (R616, R622). The opcode table has no row for an edge
of TCK: State.tck says what one does. Choices: log 37. -/

namespace Sys2Proof.Machine

/-! The TAP (R622, IEEE 1149.1). -/

/-- The state after an edge of TCK with TMS. -/
def TapSt.next (tms : Bool) : TapSt → TapSt
  | .testLogicReset => if tms then .testLogicReset else .runTestIdle
  | .runTestIdle => if tms then .selectDr else .runTestIdle
  | .selectDr => if tms then .selectIr else .captureDr
  | .captureDr => if tms then .exit1Dr else .shiftDr
  | .shiftDr => if tms then .exit1Dr else .shiftDr
  | .exit1Dr => if tms then .updateDr else .pauseDr
  | .pauseDr => if tms then .exit2Dr else .pauseDr
  | .exit2Dr => if tms then .updateDr else .shiftDr
  | .updateDr => if tms then .selectDr else .runTestIdle
  | .selectIr => if tms then .testLogicReset else .captureIr
  | .captureIr => if tms then .exit1Ir else .shiftIr
  | .shiftIr => if tms then .exit1Ir else .shiftIr
  | .exit1Ir => if tms then .updateIr else .pauseIr
  | .pauseIr => if tms then .exit2Ir else .pauseIr
  | .exit2Ir => if tms then .updateIr else .shiftIr
  | .updateIr => if tms then .selectDr else .runTestIdle

/-- The IDCODE of the device (R622). -/
abbrev idcode : BitVec 32 := 0x096204A7

/-- Test-Logic-Reset: IDCODE is in force, and no cell drives a ball. -/
def Tap.reset (t : Tap) : Tap := { t with st := .testLogicReset, insn := .idcode, cells := none }

/-- The instruction of a code: all ones is BYPASS. -/
def tapInsnOf (code : List Bool) : TapInsn :=
  if code.all id then .bypass else if code = Config.idcodeCode then .idcode else .scan code

/-- Does the instruction in force scan the balls? One other than BYPASS and IDCODE takes effect only while PORST_N is low (R622);
otherwise the bypass bit stands between TDI and TDO. -/
def Tap.scans (t : Tap) (porstLow : Bool) : Option (List Bool) :=
  match t.insn with
  | .scan c => if porstLow then some c else none
  | _ => none

/-- What Capture-DR puts into the data register; n is a free value's number. -/
def Tap.capture (t : Tap) (porstLow : Bool) (n : Nat) : List Bool :=
  match t.scans porstLow with
  | some c => Config.scanCapture c n
  | none => if t.insn = .idcode then (List.range 32).map (fun i => idcode.getLsbD i) else [false]

/-- One bit in at TDI, one out at TDO. -/
def shiftBits (l : List Bool) (tdi : Bool) : List Bool := l.drop 1 ++ [tdi]

/-- One edge of TCK, with TRST_N high. -/
def Tap.clock (t : Tap) (tms tdi porstLow : Bool) (n : Nat) : Tap :=
  let t := match t.st with
    | .captureDr => { t with dr := t.capture porstLow n }
    | .shiftDr => { t with dr := shiftBits t.dr tdi }
    | .captureIr => { t with ir := (Config.irCapture ++ List.replicate (Config.irBits + 2) false).take (Config.irBits + 2) }
    | .shiftIr => { t with ir := shiftBits t.ir tdi }
    | _ => t
  let t := { t with st := t.st.next tms }
  match t.st with
  | .testLogicReset => t.reset
  | .updateIr => { t with insn := tapInsnOf t.ir }
  | .updateDr => if (t.scans porstLow).isSome then { t with cells := some t.dr } else t
  | _ => t

/-- One edge of TCK, or TRST_N low, which holds the TAP in Test-Logic-Reset (R622). Once PORST_N is high no cell drives a ball. -/
def State.tck (s : State) (trstLow porstLow tms tdi : Bool) : State :=
  if trstLow then { s with tap := s.tap.reset }
  else
    let t := s.tap.clock tms tdi porstLow s.freeCtr
    { s with tap := if porstLow then t else { t with cells := none } }.nextFree

/-- TDO: the bit that leaves next while a register is shifted; none in every other state, where TDO is at high impedance. -/
def Tap.tdo (t : Tap) : Option Bool :=
  match t.st with
  | .shiftDr => t.dr.head?
  | .shiftIr => t.ir.head?
  | _ => none

/-! Balls during reset and start (Table 23-9). -/

/-- What is on a ball. -/
inductive BallState where
  | low | high | highZ | commonMode | inputPullUp | inputPullDown | running
  deriving DecidableEq, Repr

/-- TX_DIS[n]: released high by the external pull-up until S11 drives it low for an enabled channel outside O7. -/
def State.txDisBall (s : State) (n : Nat) : BallState := if (s.ch n).txDis then .high else .low

/-- BEN_P and BEN_N, and the transmit pairs of lanes and PON channels: at the common-mode level until S11. -/
def State.transmitBall (s : State) : BallState := if s.boot.step < 11 then .commonMode else .running

/-- FAULT_N: high impedance until a rule asserts it low. -/
def State.faultBall (s : State) : BallState := if s.boot.faultN then .low else .highZ

/-- QSPI_CS_N: high until S4, which reads the flash. -/
def State.qspiBall (s : State) : BallState := if s.boot.step < 4 then .high else .running

/-- TICK_OUT between its pulses. -/
def State.tickBall (s : State) : BallState := if s.tick.outLevel then .high else .low

/-- 1PPS_OUT and TOD_TX: low until their outputs are enabled. -/
def State.timeBall (s : State) (tod : Bool) : BallState :=
  if (if tod then s.flag F.TIME_TOD_CFG_TOD_EN else s.flag F.TIME_PPS_CFG_OUT_EN) then .running else .low

/-- SYNCE_P[i] and SYNCE_N[i]: differential low until EN is set. -/
def State.synceBall (s : State) (i : Nat) : BallState := if s.flag (F.TIME_SYNCE_CFG_EN i) then .running else .low

/-- GPIO[k] is an input with a pull-up, and TEST_EN one with a pull-down; the spec names no register that configures a GPIO. -/
def gpioBall : BallState := .inputPullUp
def testEnBall : BallState := .inputPullDown

end Sys2Proof.Machine
end

