-- ==== Sys2Proof/Machine/RegRead.lean ====
section
/-! DEFINITION. What a read of each register returns (R7, R592 to R599 and the register tables of the chapters). Read-only
fields are composed here from the state; a field written by software is read as it stands. Choices: log 33. -/

namespace Sys2Proof.Machine

/-- Fields packed into a word: value and lowest bit of each. -/
def packBits (fs : List (Nat × Nat)) : Nat := (fs.map (fun f => f.1 * 2 ^ f.2)).sum

/-- A mask of the indices below n at which f holds. -/
def maskOf (n : Nat) (f : Nat → Bool) : Nat := ((List.range n).map (fun i => b2n (f i) * 2 ^ i)).sum

/-- The bits of a register that software writes, as they read: RW, W1C and W1S bits as they stand, WO and reserved bits 0 (R7). -/
def State.plainValue (s : State) (k : Nat) : Nat :=
  match regSpecAt k with
  | none => 0
  | some r => (s.rd k).toNat &&& (r.rw ||| r.w1c ||| r.w1s)

/-- A counter register: a 64-bit counter's _HI half reads as latched for the function (R596); the counters of engines, slabs and
late ports have no bank and read as they stand (R213, R279). -/
def State.counterValue (s : State) (f off : Nat) (c : Ctr) : Nat :=
  if c.wide && bit off 2 then sparseGet (fun _ => 0) (s.fn f).latches off
  else if (0x01000000 ≤ off ∧ off < 0x02000000) ∨ (0x00800100 ≤ off ∧ off < 0x00800200) then s.count c
  else s.bankAt off

/-! State codes. -/

/-- Table 2-2. -/
def TickSt.code : TickSt → Nat
  | .free => 0
  | .acquire => 1
  | .locked => 2
  | .holdover => 3
  | .slew => 4

/-- Table 3-2. -/
def SyncSt.code : SyncSt → Nat
  | .hunt => 0
  | .presync => 1
  | .sync => 2
  | .resync => 3
  | .off => 4

/-- Table 6-7. -/
def EngSt.code : EngSt → Nat
  | .off => 0
  | .stopped => 1
  | .running => 2
  | .halted => 3
  | .spare => 4
  | .retiring => 5
  | .retired => 6

/-- Table 11-3. -/
def Glide.code : Glide → Nat
  | .off => 0
  | .probing => 1
  | .high => 2
  | .reqDown => 3
  | .retrain => 4
  | .low => 5
  | .reqUp => 6

/-! Windows, by the chapter that gives their registers. Each answers the read-only fields of the register at offset k. -/

/-- TICK_STATUS (Table 2-7). -/
def State.tickStatus (s : State) : Nat :=
  let t := s.tick
  packBits [(t.st.code, 25), (b2n t.holdoverLong, 24), (t.master, 22), (maskOf 4 s.inSync, 18), (twos 9 t.displace, 8)]

/-- The tick generator (Tables 2-7 to 2-9). -/
def State.tickValue (s : State) (f k : Nat) : Nat :=
  if k = R.TICK_STATUS then s.tickStatus
  else if k = R.TICK_COUNT_LO then s.tick.count.toNat % 2 ^ 32
  else if k = R.TICK_COUNT_HI then (s.fn f).tickHi
  else if k = R.TICK_INDEX then (s.fn f).tickIndex
  else if k = R.TICK_PHASE_ERR then twos 32 s.tick.phaseErr
  else 0

/-- PON_RX_STATUS.EQ (Table 3-5). -/
def State.eqCode (s : State) (n : Nat) : Nat :=
  if s.flag (F.PON_RX_CFG_ENABLE n) = false then 3 else if s.eqHeld n then 2 else if (s.ch n).acquiring then 0 else 1

/-- A PON channel (Tables 3-5 to 3-7, 4-5, 5-4). -/
def State.ponValue (s : State) (f k : Nat) : Nat :=
  let n := (k - 0x00400000) / 0x10000
  let r := k % 0x10000
  let c := s.ch n
  if r = 0x08 then packBits [(c.sync.code, 8), (s.eqCode n, 4), (b2n c.cdr, 1), (b2n c.los, 0)]
  else if r = 0x14 then packBits [(min c.mse 0xFFFF, 16)]
  else if 0x40 ≤ r ∧ r < 0xC0 then twos 12 ((c.snapTaps[(r - 0x40) / 4]?).getD 0)
  else if r = 0xC4 then packBits [(min c.inFrames 255, 8), (c.cands.length, 4), (c.sync.code, 0)]
  else if r = 0xC8 then c.sfc % 2 ^ 32
  else if r = 0xCC then sparseGet (fun _ => 0) (s.fn f).latches k
  else if r = 0x204 then
    packBits [(c.onuCode, 16), (c.lull.code, 12), (maskOf 4 (fun p => c.profiles.any (fun q => q.index.val == p)), 8),
      (b2n c.o7, 7), (c.act.code, 0)]
  else if r = 0x208 then (serialOf n).toNat / 2 ^ 32
  else if r = 0x20C then (serialOf n).toNat % 2 ^ 32
  else if r = 0x210 then twos 32 c.eqd
  else if r = 0x308 then packBits [(b2n c.burstOn, 9), (b2n c.txPowered, 8), (c.grants, 0)]
  else 0

/-- The bonding layer (Table 5-7). -/
def State.bondValue (s : State) (k : Nat) : Nat :=
  if k % 0x100 = 0 ∧ k < 0x00600400 then
    let b := s.group ((k - 0x00600000) / 0x100)
    packBits [(b.dsAct, 28), (b.usAct, 24), (b.next, 0)]
  else 0

/-- Designated spares (Table 6-13). -/
def State.spareWord (s : State) (i : Nat) : Nat := maskOf 32 (fun b => (s.eng (32 * i + b)).spareOf.isSome)

/-- VE_COPY_STATUS (Table 6-13): the copy that runs. -/
def State.copyStatus (s : State) : Nat :=
  match s.vec.retiring.find? (fun r => r.copying) with
  | some r => packBits [(1, 31), (r.eng, 24), (r.spare.getD 0, 16)]
  | none => 0

/-- VS_STATUS (Table 8-11). RUNNING shows groups in STATE 3. -/
def State.vsStatus (s : State) : Nat :=
  packBits [(b2n s.vec.squall, 31), (s.vec.grade, 28), (s.vec.clock, 25), (b2n s.vec.update, 24),
    (maskOf 4 (fun g => (s.vg g).state == 3), 20)]

/-- VS_GROUP[g] (Table 8-11). -/
def State.vsGroup (s : State) (g : Nat) : Nat :=
  let x := s.vg g
  packBits [(x.state, 29), (x.profile, 26), (x.lines, 16), (x.tgs.length, 8), (maskOf 8 (fun r => x.loaded.any (fun e => e.1 == r)), 0)]

/-- STATE of VS_TG[e] (Table 8-11). Where several hold, the first of: held in squall shed, estimating, bypass by fault, shed.
DESIGN CHOICE (log 33): a tone group of a running group whose engine is not RUNNING is in bypass by fault, and one with no K+1 in
force reads as shed. -/
def State.tgState (s : State) (g k e : Nat) : Nat :=
  let t := (s.vg g).tg k
  if (s.eng e).held then 5
  else if t.est then 3
  else if t.lostByp || ((s.vg g).state == 3 && (s.eng e).st != .running) then 4
  else if t.k1 = 0 then 2
  else 1

/-- FENCE of VS_TG[e]. -/
def State.fenceCode (s : State) (g k e : Nat) : Nat :=
  let t := (s.vg g).tg k
  if t.commit.isSome then 2 else if !t.staged.isEmpty then 1 else if !(s.eng e).slab.overlay.isEmpty then 3 else 0

/-- VS_TG[e]: 0 where the engine serves no tone group. -/
def State.vsTg (s : State) (e : Nat) : Nat :=
  match s.serves e with
  | none => 0
  | some (g, k) =>
    let t := (s.vg g).tg k
    packBits [(g, 30), (s.tgState g k e, 27), (s.fenceCode g k e, 25), (t.k1, 16), (t.version % 2 ^ 16, 0)]

/-- The fields of lanes 0 to 3 of a port, w bits each. -/
def SvlPort.laneBits (x : SvlPort) (n w : Nat) (f : SvlLane → Nat) : Nat :=
  ((List.range n).map (fun i => f (x.lane i) * 2 ^ (w * i))).sum

/-- A port of the vector link (Table 9-6). -/
def State.svlValue (s : State) (k : Nat) : Nat :=
  let p := (k - 0x00801000) / 0x100
  let r := k % 0x100
  let x := s.svlPort p
  let n := s.portWidth p
  if r = 4 then
    packBits [(x.state, 30), (b2n x.cfgErr, 29), (x.laneBits n 3 SvlLane.st, 16), (x.laneBits n 1 (fun l => b2n l.inv), 12),
      (x.laneBits n 2 SvlLane.logical, 4)]
  else if r = 8 then x.laneBits n 8 SvlLane.skew
  else if k = R.SVL_LINE_DATA p then
    let l := sparseGet (fun _ => {}) x.lines (s.fld (F.SVL_LINE_SEL_LINE p))
    packBits [(l.state, 28), (min l.miss 8, 24), (l.rate, 0)]
  else 0

/-- Vector array control (Tables 6-13, 8-11, 9-6). -/
def State.vecValue (s : State) (k : Nat) : Nat :=
  if R.VE_SPARE 0 ≤ k ∧ k ≤ R.VE_SPARE 2 then s.spareWord ((k - R.VE_SPARE 0) / 4)
  else if R.VE_RETIRED 0 ≤ k ∧ k ≤ R.VE_RETIRED 2 then s.retiredWord ((k - R.VE_RETIRED 0) / 4)
  else if k = R.VE_COPY_STATUS then s.copyStatus
  else if k = R.VS_STATUS then s.vsStatus
  else if R.VS_GROUP 0 ≤ k ∧ k ≤ R.VS_GROUP 3 then s.vsGroup ((k - R.VS_GROUP 0) / 4)
  else if R.VS_TG 0 ≤ k ∧ k ≤ R.VS_TG 95 then s.vsTg ((k - R.VS_TG 0) / 4)
  else if 0x00801000 ≤ k ∧ k < 0x00802000 then s.svlValue k
  else 0

/-- An engine and its slab (Tables 6-10 to 6-12). -/
def State.engValue (s : State) (k : Nat) : Nat :=
  let e := (k - 0x01000000) / 0x10000
  let x := s.eng e
  let b := x.slab
  if k = R.VE_STATUS e then packBits [(x.st.code, 29), (s.tgCode e, 16)]
  else if k = R.VE_FAULT e then packBits [(x.faultCode, 24), (x.faultPc, 0)]
  else if k = R.VE_PC e then x.pc
  else if k = R.VE_IDLE e then packBits [(x.idleRd, 16), (x.idleWr, 0)]
  else if k = R.SLAB_STATUS e then
    packBits [(b.mode, 30), (b2n b.ready, 29), (b2n b.lost, 28), (b2n (b.work != .none), 27), (b.wake, 23), (b.reload, 21),
      (min b.wakeCe 0xFFFF, 0)]
  else if k = R.SLAB_DATA_CHECK e then (s.rd k).toNat
  else 0

/-- A lane (Table 10-6). -/
def State.laneValue (s : State) (k : Nat) : Nat :=
  let l := (k - 0x02000000) / 0x1000
  let x := s.lane l
  if k = R.LANE_CFG l then packBits [(laneKind l, 30), (x.rate, 28)]
  else if k = R.LANE_STATUS l then
    packBits [(b2n (bit s.testLanes l), 7), (b2n x.eyeBusy, 6), (b2n x.patLock, 5), (b2n x.cdr, 4), (b2n x.sd, 3), (b2n x.rxOn, 2),
      (b2n x.txOn, 1)]
  else if k = R.LANE_EYE_STATUS l then packBits [(x.eyeResult, 30), (x.eyeCause, 28), (x.eyePoints, 0)]
  else if k = R.LANE_EYE_DATA l then x.eyeAt (s.fld (F.LANE_EYE_ADDR_POINT l))
  else 0

/-- An Ethernet MAC (Table 11-5). -/
def State.ethValue (s : State) (k : Nat) : Nat :=
  let m := (k - 0x02800000) / 0x1000
  let x := s.macAt m
  if k = R.ETH_STATUS m then
    packBits [(x.rate, 30), (b2n x.link, 26), (b2n x.paused, 25), (b2n x.holdoff, 24), (x.pfc, 16)]
  else if k = R.ETH_GLIDE_STATUS m then packBits [(x.glide.code, 29), (b2n x.partner, 28), (min x.lastRetrain 0xFFFF, 0)]
  else 0

/-- The packet path (Tables 12-6, 13-5, 14-5, 15-6). -/
def State.pathValue (s : State) (k : Nat) : Nat :=
  if k = R.CLS_VER_STATUS then
    packBits [(b2n s.cls.prev.isSome, 31), (b2n s.cls.sweep, 30), (s.cls.ver, 27), (s.cls.prev.getD 0, 24)]
  else if R.CLS_INFLIGHT 0 ≤ k ∧ k ≤ R.CLS_INFLIGHT 7 then s.inflight ((k - R.CLS_INFLIGHT 0) / 4) % 2 ^ 16
  else if k = R.FWD_NOW then packBits [(s.fwd.sec % 2 ^ 16, 16), (s.fwd.now % 2 ^ 16, 0)]
  else if k = R.FWD_STATUS then
    packBits [(maskOf 4 (fun i => (s.walkAt i).isSome), 28), (b2n s.fwd.flush.isSome, 27), (s.stashUsed.length, 18),
      (s.fwd.entries.length, 0)]
  else if R.FWD_PORT_USE 0 ≤ k ∧ k < R.FWD_PORT_USE 28 then s.portUse ((k - R.FWD_PORT_USE 0) / 4)
  else if R.BUF_POOL_CFG 0 ≤ k ∧ k ≤ R.BUF_POOL_CFG 3 then (s.pool ((k - R.BUF_POOL_CFG 0) / 4)).count
  else if R.BUF_POOL_STATUS 0 ≤ k ∧ k ≤ R.BUF_POOL_STATUS 3 then
    let p := s.pool ((k - R.BUF_POOL_STATUS 0) / 4)
    packBits [(p.cache.length, 18), (p.free, 0)]
  else if k = R.SCH_STATUS then packBits [(s.sched.acct, 30), (ceilDiv s.sched.recoveryTicks 48, 0)]
  else if k = R.SCH_TEST_PORTS then maskOf 24 (fun m => s.testNode m)
  else if k = R.SCH_SAMPLE_WR then s.sched.sampleWr.toNat
  else if R.SCH_PORT_HELD 0 ≤ k ∧ k ≤ R.SCH_PORT_HELD 28 then ceilDiv (s.n1 ((k - R.SCH_PORT_HELD 0) / 4)).held 1024 % 2 ^ 16
  else 0

/-- The timebase (Table 16-6). -/
def State.timeValue (s : State) (f k : Nat) : Nat :=
  let t := s.time
  let h := s.fn f
  if k = R.TIME_STATUS then b2n (decide (t.raw < t.busyUntil))
  else if k = R.TIME_INC_LO then t.inc % 2 ^ 32
  else if k = R.TIME_INC_HI then t.inc / 2 ^ 32
  else if k = R.TIME_ANCHOR_LO then t.anchor % 2 ^ 32
  else if k = R.TIME_ANCHOR_HI then t.anchor / 2 ^ 32 % 2 ^ 32
  else if k = R.TIME_RD_RAW_LO then t.raw % 2 ^ 32
  else if k = R.TIME_RD_RAW_HI then h.rdRawHi
  else if k = R.TIME_RD_SEC_LO then h.rdSec % 2 ^ 32
  else if k = R.TIME_RD_SEC_HI then h.rdSec / 2 ^ 32
  else if k = R.TIME_RD_NS then h.rdNs
  else if k = R.TIME_RD_FRAC then h.rdFrac
  else if R.TIME_CAP 0 ≤ k ∧ k ≤ R.TIME_CAP 7 then leAt t.capWords (k - R.TIME_CAP 0) 4
  else if k = R.TIME_CAP_STATUS then t.fifo.length
  else if k = R.TIME_TOD_RX then
    match t.todRx with
    | [] => 0
    | b :: _ => 256 + b.toNat
  else 0

/-- The cipher engine (Table 17-6). -/
def State.ciphValue (s : State) (k : Nat) : Nat :=
  if k = R.CIPH_STATUS then packBits [(b2n s.ciph.entropyFail, 1)]
  else if k = R.CIPH_SALT then Config.fuseSalt.toNat
  else if k = R.CIPH_RQ_HEAD then s.rqHead % 2 ^ 16
  else if R.CIPH_SLOT 0 ≤ k ∧ k ≤ R.CIPH_SLOT 1023 then
    let x := s.slot ((k - R.CIPH_SLOT 0) / 4)
    packBits [(x.state, 30), (x.len, 28), (x.usage, 26)]
  else 0

/-- The memory system (Table 18-8). -/
def State.memValue (s : State) (k : Nat) : Nat :=
  let m := s.mem
  if k = R.MEM_DDR_CFG then
    packBits [(s.boot.ddrRate, 26), (b2n m.x8, 25), (b2n m.dense, 24), (m.ranks, 23), (m.gib, 0)]
  else if k = R.MEM_DDR_STATUS then packBits [(b2n m.filled, 2), (b2n m.selfRefresh, 1), (b2n m.trained, 0)]
  else if R.MEM_SCRUB_STATUS 0 ≤ k ∧ k ≤ R.MEM_SCRUB_STATUS 7 ∧ k % 8 = 4 then
    sparseGet (fun _ => 0) m.pos ((k - R.MEM_SCRUB_STATUS 0) / 8)
  else if R.MEM_UE_LOG_A 0 ≤ k ∧ k < R.MEM_UE_LOG_PTR then
    let i := (k - R.MEM_UE_LOG_A 0) / 8
    if k % 8 = 0 then sparseGet (fun _ => 0) m.logA i else sparseGet (fun _ => 0) m.logB i
  else if k = R.MEM_UE_LOG_PTR then m.logPtr
  else 0

/-- Power, budget and journal (Tables 19-9, 21-8). -/
def State.pwrValue (s : State) (k : Nat) : Nat :=
  let p := s.pwr
  let c := s.jrn.core
  if k = R.PWR_STATUS then p.statusWord
  else if k = R.PWR_GRADE then packBits [(p.grade, 29), (p.computed, 26), (min p.clear 63, 20), (p.feedUsed % 2 ^ 16, 0)]
  else if k = R.PWR_MEAS then packBits [(min p.measured 0xFFFF, 16), (twos 16 p.budget, 0)]
  else if R.PWR_TEMP 0 ≤ k ∧ k < R.PWR_WAKE_CFG then twos 16 (sparseGet (fun _ => 0) p.temps ((k - R.PWR_TEMP 0) / 4))
  else if k = R.PWR_JRN_STATUS then packBits [(c.start % 2 ^ 16, 16), (c.entries.length, 0)]
  else if k = R.PWR_JRN_PRESC then
    packBits [(c.o7, 8), (b2n c.domSerial, 7), (b2n c.sramSerial, 6), (b2n c.avsLow, 5), (c.board, 4), (c.image, 3), (c.ref, 2),
      (c.ddrRate, 0)]
  else if R.PWR_JRN_ENG 0 ≤ k ∧ k ≤ R.PWR_JRN_ENG 2 then
    let i := (k - R.PWR_JRN_ENG 0) / 4
    maskOf 32 (fun b => sparseGet (fun _ => false) c.eng (32 * i + b))
  else 0

/-- The event ring of a function is full. -/
def State.evtFull (s : State) (f : Nat) : Bool :=
  decide (ringSize 6 (s.fld (F.HOST_RING_CFG_EVT_SIZE f)) ≤ ((s.fn f).evtWr - s.rd (R.HOST_EVT_RD f)).toNat)

/-- A function's own registers (Tables 20-2, 22-3), r their BAR0 offset. -/
def State.ringValue (s : State) (f r : Nat) : Nat :=
  let h := s.fn f
  if r = 0 then hostId f
  else if r = 0x1008 then
    packBits [(h.store.length, 10), (b2n h.resetting, 2), (b2n (s.evtFull f), 1), (b2n !h.held.isEmpty, 0)]
  else if r = 0x101C then h.cmdHead.toNat
  else if r = 0x1028 then h.rplWr.toNat
  else if r = 0x1038 then h.evtWr.toNat
  else if r = 0x1048 then h.evtLost
  else if r = 0x1050 then packBits [(h.accErrOffset, 8)]
  else 0

/-- Boot (Table 21-8). -/
def State.bootValue (s : State) (k : Nat) : Nat :=
  let b := s.boot
  if k = R.BOOT_STATUS then packBits [(b.mode, 30), (b.step, 26), (b.image, 25), (b.board, 24), (b2n b.boardDefault, 23)]
  else if k = R.BOOT_QSPI_CMD then packBits [(b2n (b.qspiOp != 0), 31)]
  else 0

/-- The host queues (Table 14-6). -/
def State.queueValue (s : State) (f k : Nat) : Nat :=
  let r := k - 0x03E00000
  let q := r % 0x1000 / 0x40
  if r < 0x1000 ∧ r % 0x40 = 0x14 then (s.dq q).head % 2 ^ 16
  else if r < 0x1000 ∧ r % 0x40 = 0x1C then sparseGet (fun _ => 0) (s.fn f).latches k
  else if 0x1000 ≤ r ∧ r < 0x2000 ∧ r % 0x40 = 0x14 then (s.hq q).head % 2 ^ 16
  else if 0x2000 ≤ r ∧ r < 0x3000 ∧ r % 0x10 = 4 then sparseGet (fun _ => 0) (s.fn f).latches k
  else 0

/-- The read-only fields of the register at an offset. -/
def State.roValue (s : State) (f off : Nat) : Nat :=
  if off < 0x2000 then s.ringValue f off
  else if off < 0x00100000 then s.bootValue off
  else if off < 0x00200000 then 0
  else if off < 0x00400000 then s.pwrValue off
  else if off < 0x00600000 then s.ponValue f off
  else if off < 0x00800000 then s.bondValue off
  else if off < 0x01000000 then s.vecValue off
  else if off < 0x02000000 then s.engValue off
  else if off < 0x02800000 then s.laneValue off
  else if off < 0x03000000 then s.ethValue off
  else if off < 0x03800000 then s.pathValue off
  else if off < 0x03801000 then s.tickValue f off
  else if off < 0x03A00000 then s.timeValue f off
  else if off < 0x03C00000 then s.ciphValue off
  else if off < 0x03E00000 then s.memValue off
  else if off < 0x03F00000 then s.queueValue f off
  else 0

/-- The value of the register at an offset, as a function with full access reads it. -/
def State.regValue (s : State) (f off : Nat) : Nat :=
  match ctrAt off with
  | some c => s.counterValue f off c
  | none => if 0x03F00000 ≤ off then
      (if off < 0x03F80000 then sparseGet (fun _ => 0) (s.fn f).msix ((off - 0x03F00000) / 4) else 0)
    else s.plainValue (regKey f off) + s.roValue f off

/-- Would a read of the register have an effect on its owner's state (R593)? -/
def readActs (off : Nat) : Bool :=
  off == R.TIME_CAP 0 || off == R.TIME_TOD_RX ||
    (decide (0x02000000 ≤ off) && decide (off < 0x02800000) && off % 0x1000 == 0x6C) ||
    (decide (0x03E00000 ≤ off) && decide (off < 0x03E01000) && off % 0x40 == 0x18) ||
    (decide (0x03E02000 ≤ off) && decide (off < 0x03E03000) && off % 0x10 == 0)

/-- A read of the register at an offset by function f (R592 to R599): its state after it and what it returns. A read with an
effect of its own is carried by its row; seen through a read-only view it returns 0. -/
def State.readReg (s : State) (f off : Nat) : State × Nat :=
  let kind := s.access f off
  if decide (0x1000 ≤ off) && decide (off < 0x2000) && (s.fn f).resetting then (s, 0)
  else if kind = 0 ∨ regDefined f off = false then (s, 0)
  else if s.poweredOff off then (s.accErr f off 0, 0)
  else if kind = 1 ∧ readActs off then (s, 0)
  else (s, s.regValue f off)

/-- COUNTER_LO_READ: a function that may see the register reads the _LO half of a 64-bit counter: its own latch takes the
_HI half (R595, R596). DESIGN CHOICE (log 33): the row with the offset of any other register is a read of that register. -/
def execCounterLoRead (f : Fin 6) (off : Nat) (s : State) : Host.Outcome State Fault Refusal :=
  let plain := s.readReg f.val (off / 4 * 4)
  match ctrAt off with
  | some c =>
    if c.wide ∧ bit off 2 = false then
      if s.seesCounter f.val c then
        .next ((s.setLatch f.val (off + 4) (s.bankAt (off + 4))).answer f.val (s.bankAt off))
      else .next (s.answer f.val 0)
    else .next (plain.1.answer f.val plain.2)
  | none => .next (plain.1.answer f.val plain.2)

end Sys2Proof.Machine
end

