-- ==== Sys2Proof/Machine/Scrub.lean ====
section
/-! DEFINITION. The scrubbers of the memories (R517 to R524). Choices: log 26. -/

namespace Sys2Proof.Machine

/-- Codewords of a memory (Table 18-1); words of the table memories for m = 7. -/
def State.memWords (s : State) (m : Nat) : Nat :=
  match m with
  | 0 => s.mem.gib * 2 ^ 25
  | 1 => 262144
  | 2 => 1572864
  | 3 => 1024
  | 4 => 96 * 65537
  | 5 => 96 * 4096
  | 6 => 96 * 512
  | _ => tableBase 7

/-- PERIOD in seconds (Table 18-8): other values than 1-86,400 act as the reset value. -/
def State.scrubPeriod (s : State) (m : Nat) : Nat :=
  let v := s.fld (F.MEM_SCRUB_CFG_PERIOD m)
  if 1 ≤ v ∧ v ≤ 86400 then v else if m = 0 then 3600 else 10

/-- Position that the pass of memory m reads next. -/
def State.scrubPos (s : State) (m : Nat) : Nat := sparseGet (fun _ => 0) s.mem.pos m

/-- The scrubber of memory m runs: enabled, and not paused (R518). -/
def State.scrubs (s : State) (m : Nat) : Bool :=
  s.flag (F.MEM_SCRUB_CFG_EN m) && (if m = 0 then s.ddrReady else if m = 5 ∨ m = 6 then !s.vec.veOff else true)

/-- A pass of memory m begins. -/
def State.beginPass (s : State) (m : Nat) : State :=
  s.setMem { s.mem with pos := sparseSet (fun _ => 0) s.mem.pos m 0,
                        passAt := sparseSet (fun _ => 0) s.mem.passAt m s.tick.count.toNat }

/-- Has a pass of memory m lasted PERIOD seconds of 48,000 ticks (R517)? -/
def State.passOver (s : State) (m : Nat) : Bool :=
  decide (sparseGet (fun _ => 0) s.mem.passAt m + 48000 * s.scrubPeriod m ≤ s.tick.count.toNat)

/-- The pass moves to the next codeword; at the end of the memory it counts in PASSES and the next begins (R517). -/
def State.scrubNext (s : State) (m : Nat) : State :=
  let n := s.scrubPos m + 1
  let past := decide (s.memWords m ≤ n)
  if past then (s.beginPass m).bump (C.MEM_PASSES m)
  else s.setMem { s.mem with pos := sparseSet (fun _ => 0) s.mem.pos m n }

/-- Is a packet buffer codeword in a bank that is on (R518, R535)? -/
def State.bankOn (s : State) (i : Nat) : Bool :=
  !(s.pwr.state == 2 && s.buf.limited) || (List.range 4).any (fun k =>
    let w := s.bufWord (k * 2 ^ 18)
    decide (w ≤ i) && decide (i < w + (s.pool k).count / 8 * (poolSize k / 32)))

/-- A codeword of memory m as it is stored, none where its part of the memory is not powered; the packet buffer and control
SRAM by their error patterns. -/
def State.scrubWord (s : State) (m i : Nat) : Option Codeword :=
  match m with
  | 0 => some (s.ddrWord i)
  | 1 => some (sparseGet (fun _ => 0) s.mem.ctlErr i)
  | 2 => if s.bankOn i then some (sparseGet (fun _ => 0) s.mem.pbufErr i) else none
  | 3 => some (s.keyWord i)
  | 4 => if (s.eng (i / 65537)).slab.ready then some ((s.eng (i / 65537)).slab.word (i % 65537)) else none
  | 5 => some ((s.eng (i / 4096)).spadWord (i % 4096))
  | _ => some (sparseGet (fun _ => 0) (s.eng (i / 512)).imem (i % 512))

/-- Store a codeword of memory m. -/
def State.putScrubWord (s : State) (m i : Nat) (w : Codeword) : State :=
  match m with
  | 0 => s.setDdr i w
  | 1 => s.setMem { s.mem with ctlErr := sparseSet (fun _ => 0) s.mem.ctlErr i w }
  | 2 => s.setMem { s.mem with pbufErr := sparseSet (fun _ => 0) s.mem.pbufErr i w }
  | 3 => s.setKeyWord i w
  | 4 => s.setSlab (i / 65537) ((s.eng (i / 65537)).slab.setWord (i % 65537) w)
  | 5 => s.setEng (i / 4096) ((s.eng (i / 4096)).setSpad (i % 4096) w)
  | _ =>
    let x := s.eng (i / 512)
    s.setEng (i / 512) { x with imem := sparseSet (fun _ => 0) x.imem (i % 512) w }

/-- A correctable word that the scrubber finds: counted where Table 18-1 says, for instruction memories where Table 6-4 does. -/
def State.scrubCe (s : State) (m i k : Nat) : State :=
  match m with
  | 4 => s.bump (C.SLAB_CE (i / 65537))
  | 5 => s.bump (C.VE_SPAD_CE (i / 4096))
  | 6 => s.bump (C.VE_SPAD_CE (i / 512))
  | _ => s.foundCe m k

/-- Firmware rewrites a control SRAM word: an armed injection falls on it (R523, R525). -/
def State.rewriteControl (s : State) (i : Nat) : State :=
  match s.inject 1 0 with
  | (s, w) => s.putScrubWord 1 i w

/-- An uncorrectable control SRAM word (R523): the other copy repairs it; with both uncorrectable the cores restart. -/
def State.controlUe (s : State) (i : Nat) (otherGood : Bool) (kind : Nat) : State :=
  if otherGood then s.rewriteControl i
  else
    let s := s.raiseRow 0x00B1 0 18 1 0 [(4, i), (1, kind)]
    (State.rewriteControl s.assertFault i).coreRestart

/-- An uncorrectable word that the scrubber finds (R519, Table 18-5). -/
def State.scrubUe (s : State) (m i : Nat) (otherGood : Bool) (kind : Nat) : State :=
  match m with
  | 1 => (s.foundUe 1 i 0).controlUe i otherGood kind
  | 3 => (s.foundUe 3 i 0).loseKey i
  | 4 =>
    let e := i / 65537
    let b := (s.eng e).slab
    ((s.bump (C.SLAB_UE e)).logUe 4 i 0).setSlab e { b with lostWord := some (b.lostWord.getD (i % 65537)) }
  | 5 =>
    let e := i / 4096
    ((s.bump (C.VE_SPAD_UE e)).logUe 5 i 0).raiseRow (engSource e) 2 6 6 2 [(2, i % 4096), (4, s.tick32)]
  | 6 =>
    let e := i / 512
    let x := s.eng e
    let s := s.setEng e { x with imemBad := if x.imemBad.contains (i % 512) then x.imemBad else x.imemBad ++ [i % 512] }
    (s.bump (C.VE_IMEM_UE e)).logUe 6 i 0
  | _ => s.foundUe m i 0

/-- The parity scrubber's finding (R524): a learned forwarding entry's deletion is queued. -/
def State.scrubParity (s : State) (i : Nat) : State :=
  match tableOf i with
  | (k, n) =>
    if s.parityBad k n then
      let s := s.meetParity k n 0
      if k = 2 then
        match s.fwdAt n with
        | some e => if e.static then s else s.requestDelete .parity e
        | none => s
      else s
    else s

/-- SCRUB_READ: the scrubber of memory m reads the next codeword of its pass. flip is what disturbances have changed in that
codeword since it was written, bit 0 for a word of the table memories; otherGood whether the other copy of a control SRAM word
is good, and kind the structure it belongs to. No other write falls between the read and the write-back, so the write-back of
R521 is performed. -/
def execScrubRead (m : Fin 8) (flip : BitVec 288) (otherGood : Bool) (kind : Byte) (s : State) :
    Host.Outcome State Fault Refusal :=
  let m := m.val
  let i := s.scrubPos m
  if s.scrubs m = false ∨ s.memWords m = 0 then .next s
  else if m = 7 then
    let s := if flip.getLsbD 0 then
        s.setMem { s.mem with parity :=
          if s.mem.parity.contains i then s.mem.parity.filter (· != i) else i :: s.mem.parity }
      else s
    .next ((s.scrubParity i).scrubNext 7)
  else
    match s.scrubWord m i with
    | none => .next (s.scrubNext m)
    | some w =>
      let w := w ^^^ flip
      let s := if flip = 0 then s else s.putScrubWord m i w
      match decodeWord w with
      | .clean => .next (s.scrubNext m)
      | .corrected k c =>
        .next (((s.scrubCe m i k).putScrubWord m i c).scrubNext m)
      | .bad => .next ((s.scrubUe m i otherGood kind.toNat).scrubNext m)

/-- SCRUB_PASS_LATE: a pass has not ended within PERIOD (R517). -/
def execScrubPassLate (m : Fin 8) (s : State) : Host.Outcome State Fault Refusal :=
  let m := m.val
  if s.scrubs m ∧ s.passOver m then
    let left := s.memWords m - s.scrubPos m
    let s := (s.bump (C.MEM_PASS_LATE m)).raiseRow (memSource m) 2 18 3 0 [(1, m), (4, s.scrubPeriod m), (4, left)]
    .next (s.beginPass m)
  else .next s

/-- PARITY_REWRITE: firmware rewrites an entry or record from its control SRAM copy (R524): not a learned forwarding entry, nor a
fragment entry. -/
def execParityRewrite (word : BitVec 18) (s : State) : Host.Outcome State Fault Refusal :=
  match tableOf word.toNat with
  | (k, n) =>
    let copied := if k = 2 then (match s.fwdAt n with
        | some e => e.static
        | none => false)
      else k != 3
    if copied then .next (s.setMem { s.mem with parity := s.mem.parity.filter (· != word.toNat) }) else .next s

end Sys2Proof.Machine
end

