-- ==== Sys2Proof/Machine/Svl.lean ====
section
/-! DEFINITION. Commands and events of the SVL ports (chapter 09). Blocks are as received, scrambled: header in bits 65 and 64,
bit 65 the first, payload bit i in bit i. Choices: log 18. -/

namespace Sys2Proof.Machine

/-- SVL_PORT (R314). -/
def execSvlPort (p : Pkt) (s : State) : Host.Outcome State Fault Refusal :=
  runCmd 0x2010 false (lenIs 1 p) (decide (p.target.toNat < 16)) (fun _ s =>
    let v := p.w 0
    if 191 < bitsOf v 31 24 ∨ 192 < bitsOf v 31 24 + bitsOf v 23 16 then refuse stBadParam s
    else finish (s.setPortCfg p.target.toNat v)) p s

/-- PORT_CUTOFF: the cut-off of the symbol now arriving on port p (R275). -/
def execPortCutoff (p : Fin 16) (s : State) : Host.Outcome State Fault Refusal :=
  match s.portOf p.val with
  | some (g, q) => .next (s.cutOff g q)
  | none => .next s

/-- TILE_PAIR_RECEIVE: blocks on lane i, counted from FIRST_LANE; the ninth data block makes a pair (R284, R294, R298). -/
def execTilePairReceive (p : Fin 16) (i : Fin 4) (blocks : List (BitVec 66)) (s : State) : Host.Outcome State Fault Refusal :=
  .next (s.portBlocks p.val i.val 0 [4] blocks)

/-- STREAM_START on lane i, counted from FIRST_LANE (R296, R298). -/
def execStreamStart (p : Fin 16) (i : Fin 4) (block : BitVec 66) (s : State) : Host.Outcome State Fault Refusal :=
  .next (s.control p.val i.val 0 0x33 block)

/-- FB_START on lane i (R298). -/
def execFbStart (p : Fin 16) (i : Fin 4) (block : BitVec 66) (s : State) : Host.Outcome State Fault Refusal :=
  .next (s.control p.val i.val 0 0x4B block)

/-- LINE_STATUS on lane i (R305). -/
def execLineStatus (p : Fin 16) (i : Fin 4) (block : BitVec 66) (s : State) : Host.Outcome State Fault Refusal :=
  .next (s.control p.val i.val 0 0x55 block)

/-- LANE_MARKER on lane i, at a block position (R310). -/
def execLaneMarker (p : Fin 16) (i : Fin 4) (block : BitVec 66) (pos : Nat) (s : State) :
    Host.Outcome State Fault Refusal :=
  .next (s.control p.val i.val pos 0x78 block)

/-- IDLE on lane i: accepted, does nothing (R287). -/
def execIdle (p : Fin 16) (i : Fin 4) (block : BitVec 66) (s : State) : Host.Outcome State Fault Refusal :=
  .next (s.control p.val i.val 0 0x1E block)

/-- DESKEW_TIMEOUT: ALIGN has lasted 50 µs (R310). -/
def execDeskewTimeout (p : Fin 16) (s : State) : Host.Outcome State Fault Refusal :=
  let p := p.val
  let x := s.svlPort p
  if x.state = 2 then
    let l := s.portWidth p
    let cause := match x.markers l with
      | some ms => (markerFault l ms).getD 1
      | none => 1
    let s := (s.bump (C.SVL_DESKEW_FAIL p)).raiseRow (svlSource p) 2 9 2 2 [(1, cause)]
    let x := (List.range l).foldl (fun (x : SvlPort) i => x.setLane i (x.lane i).hunt) x
    .next (s.setSvlPort p { x with state := 1, alignCount := none })
  else .next s

/-- BYPASS_FLAGS_SEND: the stream of the outgoing symbol has left on port p, and its flags follow (R302, R193). -/
def execBypassFlagsSend (p : Fin 16) (s : State) : Host.Outcome State Fault Refusal :=
  match s.portOf p.val with
  | some (g, q) => .next (s.sendStream g q)
  | none => .next s

/-- LANE_MARKER_SEND: control slots pass up to the port's next 64th, from which a LANE_MARKER goes out (R288, R313). -/
def execLaneMarkerSend (p : Fin 16) (s : State) : Host.Outcome State Fault Refusal :=
  if s.transmits p.val then .next (s.txToMarker p.val 65) else .next s

/-- LANE_SIGNAL_DETECT (R308): the lane sees signal. -/
def execLaneSignalDetect (l : Fin 16) (s : State) : Host.Outcome State Fault Refusal :=
  let l := l.val
  if s.asleep l false ∨ s.nearLoop l then .next s
  else .next ((s.setLane l { s.lane l with sd := true }).laneStep l [0] (fun x => { x with st := 1 }))

/-- LANE_SIGNAL_LOST (R308, R309): Table 9-4 has a lane leave CDR, LOCK and READY for it; an eye scan ends (R330). -/
def execLaneSignalLost (l : Fin 16) (s : State) : Host.Outcome State Fault Refusal :=
  let l := l.val
  if s.nearLoop l then .next s
  else
    let s := (s.setLane l { s.lane l with sd := false, cdr := false }).endEye l 2 3
    .next (s.laneStep l [1, 3, 4] (fun x => x.noSignal))

/-- LANE_CDR_LOCK (R308). -/
def execLaneCdrLock (l : Fin 16) (s : State) : Host.Outcome State Fault Refusal :=
  let l := l.val
  if s.asleep l false then .next s
  else .next ((s.setLane l { s.lane l with cdr := true }).laneStep l [1] (fun x => { x with st := 2, good := 0 }))

/-- LANE_CDR_TIMEOUT: recovery restarts in CDR (R308). -/
def execLaneCdrTimeout (l : Fin 16) (s : State) : Host.Outcome State Fault Refusal :=
  .next (s.laneStep l.val [1] (fun x => { x with st := 1 }))

/-- LANE_BLOCK_LOCK: blocks in HUNT; the 64th valid header in a row takes the lane to LOCK (R308). -/
def execLaneBlockLock (l : Fin 16) (blocks : List (BitVec 66)) (s : State) : Host.Outcome State Fault Refusal :=
  .next (if s.asleep l.val false then s else s.laneHears l.val [2] blocks)

/-- LANE_HEADER_SLIP: blocks in HUNT; an invalid header moves the lane to the next position (R308). -/
def execLaneHeaderSlip (l : Fin 16) (blocks : List (BitVec 66)) (s : State) : Host.Outcome State Fault Refusal :=
  .next (if s.asleep l.val false then s else s.laneHears l.val [2] blocks)

/-- LANE_POLARITY_DECIDED: blocks in LOCK, the two polarity counts (R309). -/
def execLanePolarityDecided (l : Fin 16) (blocks : List (BitVec 66)) (s : State) : Host.Outcome State Fault Refusal :=
  .next (if s.asleep l.val false then s else s.laneHears l.val [3] blocks)

/-- LANE_LOCK_TIMEOUT: blocks in LOCK, up to the 4,096th header (R308). -/
def execLaneLockTimeout (l : Fin 16) (blocks : List (BitVec 66)) (s : State) : Host.Outcome State Fault Refusal :=
  .next (if s.asleep l.val false then s else s.laneHears l.val [3] blocks)

/-- LANE_HEADER_WINDOW_FAIL: blocks in LOCK or READY, the windows of 64 headers (R309). -/
def execLaneHeaderWindowFail (l : Fin 16) (blocks : List (BitVec 66)) (s : State) : Host.Outcome State Fault Refusal :=
  .next (if s.asleep l.val false then s else s.laneHears l.val [3, 4] blocks)

/-- SVL_PORT_ENABLE: SVL_PORT_CFG takes a value with ENABLE 1 (R281, R310), in recovery mode with ENABLE 0 (R588). -/
def execSvlPortEnable (p : Fin 16) (v : Word) (s : State) : Host.Outcome State Fault Refusal :=
  .next (s.setPortCfg p.val (if s.recovery then clrBit v.toNat 0 else setBit v.toNat 0))

/-- SVL_PORT_DISABLE: SVL_PORT_CFG takes a value with ENABLE 0 (R310). -/
def execSvlPortDisable (p : Fin 16) (v : Word) (s : State) : Host.Outcome State Fault Refusal :=
  .next (s.setPortCfg p.val (clrBit v.toNat 0))

/-- SVL_STAT_SNAP (R315). -/
def execSvlStatSnap (p : Fin 16) (s : State) : Host.Outcome State Fault Refusal :=
  .next (s.copyBank 0 (svlCtrs p.val))

end Sys2Proof.Machine
end

