-- ==== Sys2Proof/Machine/Tick.lean ====
section
/-! DEFINITION. Commands of the tick generator (chapter 02). Choices: log 9. -/

namespace Sys2Proof.Machine

/-- HOLDOVER_LONG: HOLDOVER has lasted 10 s, 480,000 ticks (R47). -/
def execHoldoverLong (s : State) : Host.Outcome State Fault Refusal :=
  let t := s.tick
  if t.st = .holdover ∧ 480000 ≤ t.holdTicks ∧ t.holdoverLong = false then
    .next ((s.setTick { t with holdoverLong := true }).raiseRow 0x0020 1 2 2 5 [(1, t.master)])
  else .next s

/-- TICK_MASTER (R52). -/
def execTickMaster (p : Pkt) (s : State) : Host.Outcome State Fault Refusal :=
  runCmd 0x4001 false (lenIs 0 p) (decide (p.target.toNat < 4)) (fun id s =>
    if s.qualifies p.target.toNat then
      .later (s.setTick { s.tick with change := some ⟨p.target.toNat, p.func.val, id⟩ })
    else refuse stBadTarget s) p s

/-- TICK_REALIGN (R54). -/
def execTickRealign (p : Pkt) (s : State) : Host.Outcome State Fault Refusal :=
  runCmd 0x4002 false (lenIs 0 p) (p.target == 0) (fun _ s =>
    let t := s.tick
    if s.anyRunning then refuse stBusy s
    else if t.steered ∧ s.inSync t.master then
      finish (s.setTick { t with st := .acquire, run := 0, rejects := 0, accepted := [], acqStep := none, stepDue := true })
    else refuse stBadTarget s) p s

/-- TICK_OFFSET_WRITE: a write of TICK_OFFSET.OFFSET (R53). -/
def execTickOffsetWrite (v : Word) (s : State) : Host.Outcome State Fault Refusal := .next (s.writeOffset v.toNat)

/-- TICK_CFG: the values of TICK_CFG, TICK_OFFSET and TICK_OUT_CFG (R58). -/
def execTickCfg (p : Pkt) (s : State) : Host.Outcome State Fault Refusal :=
  runCmd 0x4003 false (lenIs 3 p) (p.target == 0) (fun _ s =>
    if 19439 < p.w 1 then refuse stBadParam s
    else
      let s := s.wr R.TICK_CFG (BitVec.ofNat 32 (p.w 0 &&& 0x000ffff0))
      let s := s.writeOffset (p.w 1)
      finish (s.writeTickOut (p.w 2))) p s

/-- The register image of TICK_INDEX. -/
def TickGen.indexWord (t : TickGen) : Nat := t.cycle * 2 ^ 16 + t.tic * 2 ^ 8 + t.tif

/-- TICK_COUNT_LO_READ: a read of TICK_COUNT_LO by a function answers bits 31:0 of the counter and latches the other two
registers for it (R59, R596). -/
def execTickCountLoRead (f : Fin 6) (s : State) : Host.Outcome State Fault Refusal :=
  if f.val = 5 ∨ f.val = 0 then
    let h := s.fn f.val
    .next ((s.setFn f.val { h with tickHi := s.tick.count.toNat / 2 ^ 32, tickIndex := s.tick.indexWord }).answer f.val
      (s.tick.count.toNat % 2 ^ 32))
  else .next (s.answer f.val 0)

end Sys2Proof.Machine
end

