-- ==== Sys2Proof/Machine/Dispatch.lean ====
section
/-! DEFINITION. One arm per command: its meaning, or its refusal by name. -/

namespace Sys2Proof.Machine

/-- The effect of a command on everything but the queue. -/
def exec (i : Instr) (s : State) : Host.Outcome State Fault Refusal :=
  match i with
  | .eventGrant cycle => Sys2Proof.Machine.execEventGrant cycle s
  | .eventRingWrite f => Sys2Proof.Machine.execEventRingWrite f s
  | .tickEdge => Sys2Proof.Machine.execTickEdge s
  | .ponFrameBoundary => Sys2Proof.Machine.execPonFrameBoundary s
  | .vectorCycleBoundary pkt => Sys2Proof.Machine.execVectorCycleBoundary pkt s
  | .superframeBoundary => Sys2Proof.Machine.execSuperframeBoundary s
  | .holdoverLong => Sys2Proof.Machine.execHoldoverLong s
  | .tickMaster p => Sys2Proof.Machine.execTickMaster p s
  | .tickRealign p => Sys2Proof.Machine.execTickRealign p s
  | .tickOffsetWrite v => Sys2Proof.Machine.execTickOffsetWrite v s
  | .tickCfg p => Sys2Proof.Machine.execTickCfg p s
  | .timeCfg p => Sys2Proof.Machine.execTimeCfg p s
  | .tickCountLoRead f => Sys2Proof.Machine.execTickCountLoRead f s
  | .ponRxEnable c => Sys2Proof.Machine.execPonRxEnable c s
  | .ponRxDisable c mid => Sys2Proof.Machine.execPonRxDisable c mid s
  | .losAssert c peak mid cycles => Sys2Proof.Machine.execLosAssert c peak mid cycles s
  | .losClear c peak => Sys2Proof.Machine.execLosClear c peak s
  | .cdrLock c => Sys2Proof.Machine.execCdrLock c s
  | .eqReset c => Sys2Proof.Machine.execEqReset c s
  | .eqAcquisitionEnd c cycles => Sys2Proof.Machine.execEqAcquisitionEnd c cycles s
  | .eqDivergenceReset c mse1 mse2 => Sys2Proof.Machine.execEqDivergenceReset c mse1 mse2 s
  | .eqSnap c cycles mse => Sys2Proof.Machine.execEqSnap c cycles mse s
  | .eqTapWrite c k v => Sys2Proof.Machine.execEqTapWrite c k v s
  | .psyncMatch c at_ p => Sys2Proof.Machine.execPsyncMatch c at_ p s
  | .candidateCheck c at_ p us => Sys2Proof.Machine.execCandidateCheck c at_ p us s
  | .psyncCheck c p mid => Sys2Proof.Machine.execPsyncCheck c p mid s
  | .fecCodeword c found changed => Sys2Proof.Machine.execFecCodeword c found changed s
  | .fecEsInterval c => Sys2Proof.Machine.execFecEsInterval c s
  | .ponStatSnap c => Sys2Proof.Machine.execPonStatSnap c s
  | .ponStatIntervalCopy c => Sys2Proof.Machine.execPonStatIntervalCopy c s
  | .watchfulRxWake c => Sys2Proof.Machine.execWatchfulRxWake c s
  | .counterLoRead f off => Sys2Proof.Machine.execCounterLoRead f off s
  | .ponSfcLoRead f c => Sys2Proof.Machine.execPonSfcLoRead f c s
  | .burstProfile m p => Sys2Proof.Machine.execBurstProfile m p s
  | .assignOnuId m sn id => Sys2Proof.Machine.execAssignOnuId m sn id s
  | .rangingTime m relative v => Sys2Proof.Machine.execRangingTime m relative v s
  | .deactivateOnuId m => Sys2Proof.Machine.execDeactivateOnuId m s
  | .disableSerialNumber m sn => Sys2Proof.Machine.execDisableSerialNumber m sn s
  | .enableSerialNumber m sn => Sys2Proof.Machine.execEnableSerialNumber m sn s
  | .requestRegistration m => Sys2Proof.Machine.execRequestRegistration m s
  | .assignAllocId m alloc dealloc => Sys2Proof.Machine.execAssignAllocId m alloc dealloc s
  | .keyControl m idx key => Sys2Proof.Machine.execKeyControl m idx key s
  | .sleepAllow m on => Sys2Proof.Machine.execSleepAllow m on s
  | .ploamUnsupported m answer => Sys2Proof.Machine.execPloamUnsupported m answer s
  | .to1Expiry c => Sys2Proof.Machine.execTo1Expiry c s
  | .to2Expiry c => Sys2Proof.Machine.execTo2Expiry c s
  | .snResponseSend c delay => Sys2Proof.Machine.execSnResponseSend c delay s
  | .rangingResponseSend c => Sys2Proof.Machine.execRangingResponseSend c s
  | .actHoldClear c => Sys2Proof.Machine.execActHoldClear c s
  | .xgemFrame c x lost => Sys2Proof.Machine.execXgemFrame c x lost s
  | .forcedWakeup c => Sys2Proof.Machine.execForcedWakeup c s
  | .txPowerUp c => Sys2Proof.Machine.execTxPowerUp c s
  | .ponCfg p => Sys2Proof.Machine.execPonCfg p s
  | .ponRegId p => Sys2Proof.Machine.execPonRegId p s
  | .ponMsk p => Sys2Proof.Machine.execPonMsk p s
  | .ponPortAdd p => Sys2Proof.Machine.execPonPortAdd p s
  | .ponPortRemove p => Sys2Proof.Machine.execPonPortRemove p s
  | .ponLullPolicy p => Sys2Proof.Machine.execPonLullPolicy p s
  | .ponQueues p => Sys2Proof.Machine.execPonQueues p s
  | .bwmap c grants bad hlBad => Sys2Proof.Machine.execBwmap c grants bad hlBad s
  | .burstBuild c cyc key bad ready => Sys2Proof.Machine.execBurstBuild c cyc key bad ready s
  | .burstTransmit c ends => Sys2Proof.Machine.execBurstTransmit c ends s
  | .bondTaggedFrame => Sys2Proof.Machine.execBondTaggedFrame s
  | .reseqHoldTimeout g waited => Sys2Proof.Machine.execReseqHoldTimeout g waited s
  | .bondStatusReceive => Sys2Proof.Machine.execBondStatusReceive s
  | .allocCtxLoad p => Sys2Proof.Machine.execAllocCtxLoad p s
  | .allocCtxRead p => Sys2Proof.Machine.execAllocCtxRead p s
  | .bondCtxLoad p => Sys2Proof.Machine.execBondCtxLoad p s
  | .bondCtxRead p => Sys2Proof.Machine.execBondCtxRead p s
  | .bondMeClass p => Sys2Proof.Machine.execBondMeClass p s
  | .bondQueue p => Sys2Proof.Machine.execBondQueue p s
  | .bondStatSnap => Sys2Proof.Machine.execBondStatSnap s
  | .bondStatIntervalCopy => Sys2Proof.Machine.execBondStatIntervalCopy s
  | .veCmdStart e => Sys2Proof.Machine.execVeCmdStart e s
  | .veCmdStop e => Sys2Proof.Machine.execVeCmdStop e s
  | .veCmdReset e => Sys2Proof.Machine.execVeCmdReset e s
  | .engCtlStart p => Sys2Proof.Machine.execEngCtlStart p s
  | .engCtlStop p => Sys2Proof.Machine.execEngCtlStop p s
  | .engCtlReset p pass => Sys2Proof.Machine.execEngCtlReset p pass s
  | .engCtlRetire p => Sys2Proof.Machine.execEngCtlRetire p s
  | .engCtlRejoin p => Sys2Proof.Machine.execEngCtlRejoin p s
  | .slabCtlOff e => Sys2Proof.Machine.execSlabCtlOff e s
  | .slabCtlRetain e => Sys2Proof.Machine.execSlabCtlRetain e s
  | .slabCtlOn e => Sys2Proof.Machine.execSlabCtlOn e s
  | .slabMode p => Sys2Proof.Machine.execSlabMode p s
  | .slabZeroFillDone e => Sys2Proof.Machine.execSlabZeroFillDone e s
  | .slabWakeScrubDone e => Sys2Proof.Machine.execSlabWakeScrubDone e s
  | .slabReloadDone e => Sys2Proof.Machine.execSlabReloadDone e s
  | .slabIndirectRead e word => Sys2Proof.Machine.execSlabIndirectRead e word s
  | .slabIndirectWrite e word => Sys2Proof.Machine.execSlabIndirectWrite e word s
  | .slabWrite p => Sys2Proof.Machine.execSlabWrite p s
  | .slabRead p => Sys2Proof.Machine.execSlabRead p s
  | .slabCopyDone => Sys2Proof.Machine.execSlabCopyDone s
  | .dmaTileWrite g k q => Sys2Proof.Machine.execDmaTileWrite g k q s
  | .dmaTileRead g k q => Sys2Proof.Machine.execDmaTileRead g k q s
  | .veDoorbellRing e => Sys2Proof.Machine.execVeDoorbellRing e s
  | .apertureAccess f e off wr => Sys2Proof.Machine.execApertureAccess f e off wr s
  | .kernelLoad p => Sys2Proof.Machine.execKernelLoad p s
  | .kernelFree p => Sys2Proof.Machine.execKernelFree p s
  | .engLoad p => Sys2Proof.Machine.execEngLoad p s
  | .engSpare p => Sys2Proof.Machine.execEngSpare p s
  | .engRetireCfg p => Sys2Proof.Machine.execEngRetireCfg p s
  | .nop e => Sys2Proof.Machine.execNop e s
  | .opAdd e => Sys2Proof.Machine.execOpAdd e s
  | .opSub e => Sys2Proof.Machine.execOpSub e s
  | .opAnd e => Sys2Proof.Machine.execOpAnd e s
  | .opOr e => Sys2Proof.Machine.execOpOr e s
  | .opXor e => Sys2Proof.Machine.execOpXor e s
  | .shl e => Sys2Proof.Machine.execShl e s
  | .shr e => Sys2Proof.Machine.execShr e s
  | .sra e => Sys2Proof.Machine.execSra e s
  | .opMin e => Sys2Proof.Machine.execOpMin e s
  | .opMax e => Sys2Proof.Machine.execOpMax e s
  | .mul e => Sys2Proof.Machine.execMul e s
  | .clz e => Sys2Proof.Machine.execClz e s
  | .cmpeq e => Sys2Proof.Machine.execCmpeq e s
  | .cmplt e => Sys2Proof.Machine.execCmplt e s
  | .cmpltu e => Sys2Proof.Machine.execCmpltu e s
  | .addi e => Sys2Proof.Machine.execAddi e s
  | .andi e => Sys2Proof.Machine.execAndi e s
  | .ori e => Sys2Proof.Machine.execOri e s
  | .xori e => Sys2Proof.Machine.execXori e s
  | .shli e => Sys2Proof.Machine.execShli e s
  | .shri e => Sys2Proof.Machine.execShri e s
  | .srai e => Sys2Proof.Machine.execSrai e s
  | .opLi e => Sys2Proof.Machine.execOpLi e s
  | .lui e => Sys2Proof.Machine.execLui e s
  | .dstep e => Sys2Proof.Machine.execDstep e s
  | .ldp e => Sys2Proof.Machine.execLdp e s
  | .stp e => Sys2Proof.Machine.execStp e s
  | .agw e => Sys2Proof.Machine.execAgw e s
  | .agr e => Sys2Proof.Machine.execAgr e s
  | .mfs e => Sys2Proof.Machine.execMfs e s
  | .mts e => Sys2Proof.Machine.execMts e s
  | .beq e => Sys2Proof.Machine.execBeq e s
  | .bne e => Sys2Proof.Machine.execBne e s
  | .blt e => Sys2Proof.Machine.execBlt e s
  | .bge e => Sys2Proof.Machine.execBge e s
  | .br e => Sys2Proof.Machine.execBr e s
  | .bri e => Sys2Proof.Machine.execBri e s
  | .call e => Sys2Proof.Machine.execCall e s
  | .opRep e => Sys2Proof.Machine.execOpRep e s
  | .opLoop e => Sys2Proof.Machine.execOpLoop e s
  | .waitt e => Sys2Proof.Machine.execWaitt e s
  | .sdone e => Sys2Proof.Machine.execSdone e s
  | .sdoneComplete e => Sys2Proof.Machine.execSdoneComplete e s
  | .reti e => Sys2Proof.Machine.execReti e s
  | .vnop e => Sys2Proof.Machine.execVnop e s
  | .vmac e => Sys2Proof.Machine.execVmac e s
  | .vmacs e => Sys2Proof.Machine.execVmacs e s
  | .vcorr e => Sys2Proof.Machine.execVcorr e s
  | .vlde e => Sys2Proof.Machine.execVlde e s
  | .vcupd e => Sys2Proof.Machine.execVcupd e s
  | .vsnap e => Sys2Proof.Machine.execVsnap e s
  | .vclr e => Sys2Proof.Machine.execVclr e s
  | .acc e g => Sys2Proof.Machine.execAcc e g s
  | .accAdv e g => Sys2Proof.Machine.execAccAdv e g s
  | .accT e g => Sys2Proof.Machine.execAccT e g s
  | .acc0 e g => Sys2Proof.Machine.execAcc0 e g s
  | .adv e g => Sys2Proof.Machine.execAdv e g s
  | .tstep e g => Sys2Proof.Machine.execTstep e g s
  | .rst e g => Sys2Proof.Machine.execRst e g s
  | .interruptEntry e idle => Sys2Proof.Machine.execInterruptEntry e idle s
  | .vgDefine p => Sys2Proof.Machine.execVgDefine p s
  | .vgLadder p => Sys2Proof.Machine.execVgLadder p s
  | .vgStart p => Sys2Proof.Machine.execVgStart p s
  | .vgStop p => Sys2Proof.Machine.execVgStop p s
  | .vgParam p => Sys2Proof.Machine.execVgParam p s
  | .vgParamDone => Sys2Proof.Machine.execVgParamDone s
  | .vgFenceWords p => Sys2Proof.Machine.execVgFenceWords p s
  | .vgFenceAbort p => Sys2Proof.Machine.execVgFenceAbort p s
  | .vgFenceCommit p => Sys2Proof.Machine.execVgFenceCommit p s
  | .fenceDrainWord e => Sys2Proof.Machine.execFenceDrainWord e s
  | .vgTgRelease p => Sys2Proof.Machine.execVgTgRelease p s
  | .vgUndefine p => Sys2Proof.Machine.execVgUndefine p s
  | .vgThaw p => Sys2Proof.Machine.execVgThaw p s
  | .vsCutoff p => Sys2Proof.Machine.execVsCutoff p s
  | .svlPort p => Sys2Proof.Machine.execSvlPort p s
  | .portCutoff p => Sys2Proof.Machine.execPortCutoff p s
  | .tilePairReceive p l blocks => Sys2Proof.Machine.execTilePairReceive p l blocks s
  | .streamStart p l block => Sys2Proof.Machine.execStreamStart p l block s
  | .fbStart p l block => Sys2Proof.Machine.execFbStart p l block s
  | .lineStatus p l block => Sys2Proof.Machine.execLineStatus p l block s
  | .laneMarker p l block pos => Sys2Proof.Machine.execLaneMarker p l block pos s
  | .idle p l block => Sys2Proof.Machine.execIdle p l block s
  | .deskewTimeout p => Sys2Proof.Machine.execDeskewTimeout p s
  | .bypassFlagsSend p => Sys2Proof.Machine.execBypassFlagsSend p s
  | .laneMarkerSend p => Sys2Proof.Machine.execLaneMarkerSend p s
  | .laneSignalDetect l => Sys2Proof.Machine.execLaneSignalDetect l s
  | .laneSignalLost l => Sys2Proof.Machine.execLaneSignalLost l s
  | .laneCdrLock l => Sys2Proof.Machine.execLaneCdrLock l s
  | .laneCdrTimeout l => Sys2Proof.Machine.execLaneCdrTimeout l s
  | .laneBlockLock l blocks => Sys2Proof.Machine.execLaneBlockLock l blocks s
  | .laneHeaderSlip l blocks => Sys2Proof.Machine.execLaneHeaderSlip l blocks s
  | .lanePolarityDecided l blocks => Sys2Proof.Machine.execLanePolarityDecided l blocks s
  | .laneLockTimeout l blocks => Sys2Proof.Machine.execLaneLockTimeout l blocks s
  | .laneHeaderWindowFail l blocks => Sys2Proof.Machine.execLaneHeaderWindowFail l blocks s
  | .svlPortEnable p v => Sys2Proof.Machine.execSvlPortEnable p v s
  | .svlPortDisable p v => Sys2Proof.Machine.execSvlPortDisable p v s
  | .svlStatSnap p => Sys2Proof.Machine.execSvlStatSnap p s
  | .laneEq p => Sys2Proof.Machine.execLaneEq p s
  | .laneTest p => Sys2Proof.Machine.execLaneTest p s
  | .laneSleep p => Sys2Proof.Machine.execLaneSleep p s
  | .laneEye p => Sys2Proof.Machine.execLaneEye p s
  | .laneEyeRead p => Sys2Proof.Machine.execLaneEyeRead p s
  | .laneTxfirWrite l r v => Sys2Proof.Machine.execLaneTxfirWrite l r v s
  | .laneLoopWrite l loop => Sys2Proof.Machine.execLaneLoopWrite l loop s
  | .patternGenEnable l on => Sys2Proof.Machine.execPatternGenEnable l on s
  | .checkerEnable l => Sys2Proof.Machine.execCheckerEnable l s
  | .patternLock l words => Sys2Proof.Machine.execPatternLock l words s
  | .patternLockLoss l words => Sys2Proof.Machine.execPatternLockLoss l words s
  | .injectionGo l => Sys2Proof.Machine.execInjectionGo l s
  | .laneInjection l words => Sys2Proof.Machine.execLaneInjection l words s
  | .eyeScanGo l => Sys2Proof.Machine.execEyeScanGo l s
  | .eyeScanPoint l count => Sys2Proof.Machine.execEyeScanPoint l count s
  | .eyeScanAbort l => Sys2Proof.Machine.execEyeScanAbort l s
  | .eyeDataRead f l => Sys2Proof.Machine.execEyeDataRead f l s
  | .lanePatSnap l words => Sys2Proof.Machine.execLanePatSnap l words s
  | .lanePwrWrite l v => Sys2Proof.Machine.execLanePwrWrite l v s
  | .laneWakeBySignal l => Sys2Proof.Machine.execLaneWakeBySignal l s
  | .laneHalfReady l tx => Sys2Proof.Machine.execLaneHalfReady l tx s
  | .ethFrameReceive m bytes fcsOk codeErr raw => Sys2Proof.Machine.execEthFrameReceive m bytes fcsOk codeErr raw s
  | .ethFrameTransmit m raw met => Sys2Proof.Machine.execEthFrameTransmit m raw met s
  | .pauseFrame m quanta => Sys2Proof.Machine.execPauseFrame m quanta s
  | .pfcFrame m prio => Sys2Proof.Machine.execPfcFrame m prio s
  | .pauseTimerExpiry m timer => Sys2Proof.Machine.execPauseTimerExpiry m timer s
  | .pauseWatchdogTrip m prio => Sys2Proof.Machine.execPauseWatchdogTrip m prio s
  | .pauseHoldoffEnd m => Sys2Proof.Machine.execPauseHoldoffEnd m s
  | .glideProbe m trn => Sys2Proof.Machine.execGlideProbe m trn s
  | .glideProbeAck m trn => Sys2Proof.Machine.execGlideProbeAck m trn s
  | .glideReq m trn target => Sys2Proof.Machine.execGlideReq m trn target s
  | .glideAck m trn => Sys2Proof.Machine.execGlideAck m trn s
  | .glideNak m trn => Sys2Proof.Machine.execGlideNak m trn s
  | .glideProbeTimer m => Sys2Proof.Machine.execGlideProbeTimer m s
  | .glideReqTimer m => Sys2Proof.Machine.execGlideReqTimer m s
  | .glideWindowEnd m => Sys2Proof.Machine.execGlideWindowEnd m s
  | .glideRateChange m => Sys2Proof.Machine.execGlideRateChange m s
  | .glideLinkUp m us => Sys2Proof.Machine.execGlideLinkUp m us s
  | .glideRetrainTimeout m => Sys2Proof.Machine.execGlideRetrainTimeout m s
  | .ethLinkUp m => Sys2Proof.Machine.execEthLinkUp m s
  | .ethLinkDown m cause => Sys2Proof.Machine.execEthLinkDown m cause s
  | .ethLinkDownSleep m => Sys2Proof.Machine.execEthLinkDownSleep m s
  | .ethCfg p => Sys2Proof.Machine.execEthCfg p s
  | .ethTags p => Sys2Proof.Machine.execEthTags p s
  | .ethMchash p => Sys2Proof.Machine.execEthMchash p s
  | .ethPause p => Sys2Proof.Machine.execEthPause p s
  | .ethGlide p => Sys2Proof.Machine.execEthGlide p s
  | .ethStatSnap m => Sys2Proof.Machine.execEthStatSnap m s
  | .packetClassify => Sys2Proof.Machine.execPacketClassify s
  | .fragEntryExpiry set way => Sys2Proof.Machine.execFragEntryExpiry set way s
  | .clsRuleWrite p => Sys2Proof.Machine.execClsRuleWrite p s
  | .clsRuleDelete p => Sys2Proof.Machine.execClsRuleDelete p s
  | .clsFlowInsert p => Sys2Proof.Machine.execClsFlowInsert p s
  | .clsFlowDelete p => Sys2Proof.Machine.execClsFlowDelete p s
  | .clsCommit p => Sys2Proof.Machine.execClsCommit p s
  | .clsAbort p => Sys2Proof.Machine.execClsAbort p s
  | .clsFlowMask p => Sys2Proof.Machine.execClsFlowMask p s
  | .clsSrc p => Sys2Proof.Machine.execClsSrc p s
  | .clsCfg p => Sys2Proof.Machine.execClsCfg p s
  | .versionSweepStart => Sys2Proof.Machine.execVersionSweepStart s
  | .versionRetired => Sys2Proof.Machine.execVersionRetired s
  | .clsStatSnap => Sys2Proof.Machine.execClsStatSnap s
  | .learnGrant => Sys2Proof.Machine.execLearnGrant s
  | .refreshGrant => Sys2Proof.Machine.execRefreshGrant s
  | .moveGrant => Sys2Proof.Machine.execMoveGrant s
  | .agingDeleteGrant => Sys2Proof.Machine.execAgingDeleteGrant s
  | .agingScanStep => Sys2Proof.Machine.execAgingScanStep s
  | .fwdSearch p => Sys2Proof.Machine.execFwdSearch p s
  | .fwdNext p => Sys2Proof.Machine.execFwdNext p s
  | .fwdInsert p => Sys2Proof.Machine.execFwdInsert p s
  | .fwdDelete p => Sys2Proof.Machine.execFwdDelete p s
  | .flushPort p => Sys2Proof.Machine.execFlushPort p s
  | .flushComplete => Sys2Proof.Machine.execFlushComplete s
  | .floodSet p => Sys2Proof.Machine.execFloodSet p s
  | .fwdCfg p => Sys2Proof.Machine.execFwdCfg p s
  | .walkTimeout w => Sys2Proof.Machine.execWalkTimeout w s
  | .fwdStatSnap => Sys2Proof.Machine.execFwdStatSnap s
  | .bufferAllocation agent len => Sys2Proof.Machine.execBufferAllocation agent len s
  | .bufferHandover id agent inst dst => Sys2Proof.Machine.execBufferHandover id agent inst dst s
  | .bufferFree id agent inst => Sys2Proof.Machine.execBufferFree id agent inst s
  | .cacheFetch n lost => Sys2Proof.Machine.execCacheFetch n lost s
  | .cacheWriteOut n => Sys2Proof.Machine.execCacheWriteOut n s
  | .bufCarve p => Sys2Proof.Machine.execBufCarve p s
  | .bufPool p => Sys2Proof.Machine.execBufPool p s
  | .hostDq p => Sys2Proof.Machine.execHostDq p s
  | .hostHq p => Sys2Proof.Machine.execHostHq p s
  | .dqTailWrite f q v => Sys2Proof.Machine.execDqTailWrite f q v s
  | .dqFrameClaim q addrs bad => Sys2Proof.Machine.execDqFrameClaim q addrs bad s
  | .dqFrameCommit q => Sys2Proof.Machine.execDqFrameCommit q s
  | .dqHoldTimeout q => Sys2Proof.Machine.execDqHoldTimeout q s
  | .dqPopRead f q => Sys2Proof.Machine.execDqPopRead f q s
  | .funcPopRead f => Sys2Proof.Machine.execFuncPopRead f s
  | .hqTailWrite f q v => Sys2Proof.Machine.execHqTailWrite f q v s
  | .hqDescriptor q desc bytes => Sys2Proof.Machine.execHqDescriptor q desc bytes s
  | .hqFrameCommit q raw => Sys2Proof.Machine.execHqFrameCommit q raw s
  | .hostDmaError h2d q code => Sys2Proof.Machine.execHostDmaError h2d q code s
  | .bufStatSnap => Sys2Proof.Machine.execBufStatSnap s
  | .hostStatSnap => Sys2Proof.Machine.execHostStatSnap s
  | .enqueue cyc => Sys2Proof.Machine.execEnqueue cyc s
  | .dequeue node1 cyc => Sys2Proof.Machine.execDequeue node1 cyc s
  | .recoveryAccountingEnd => Sys2Proof.Machine.execRecoveryAccountingEnd s
  | .schL1 p => Sys2Proof.Machine.execSchL1 p s
  | .schL2 p => Sys2Proof.Machine.execSchL2 p s
  | .schQueue p => Sys2Proof.Machine.execSchQueue p s
  | .schQueueRead p => Sys2Proof.Machine.execSchQueueRead p s
  | .schSample p => Sys2Proof.Machine.execSchSample p s
  | .lineCtxLoad p => Sys2Proof.Machine.execLineCtxLoad p s
  | .lineCtxRead p => Sys2Proof.Machine.execLineCtxRead p s
  | .schStatSnap => Sys2Proof.Machine.execSchStatSnap s
  | .timeSetIncrement raw => Sys2Proof.Machine.execTimeSetIncrement raw s
  | .timeAdjust raw => Sys2Proof.Machine.execTimeAdjust raw s
  | .timeSetTime raw => Sys2Proof.Machine.execTimeSetTime raw s
  | .timeIncrementAdjust raw => Sys2Proof.Machine.execTimeIncrementAdjust raw s
  | .timeRdRawLoRead f raw => Sys2Proof.Machine.execTimeRdRawLoRead f raw s
  | .capturePop f => Sys2Proof.Machine.execCapturePop f s
  | .launchEntrySend m raw met => Sys2Proof.Machine.execLaunchEntrySend m raw met s
  | .ppsOutPulse raw => Sys2Proof.Machine.execPpsOutPulse raw s
  | .ppsInEdge falling raw => Sys2Proof.Machine.execPpsInEdge falling raw s
  | .ppsInLost raw => Sys2Proof.Machine.execPpsInLost raw s
  | .todMessageSend raw => Sys2Proof.Machine.execTodMessageSend raw s
  | .todRxByte b => Sys2Proof.Machine.execTodRxByte b s
  | .todRxPop f => Sys2Proof.Machine.execTodRxPop f s
  | .timeStatSnap => Sys2Proof.Machine.execTimeStatSnap s
  | .keyCommit => Sys2Proof.Machine.execKeyCommit s
  | .keyErase => Sys2Proof.Machine.execKeyErase s
  | .ciphUnwrap p => Sys2Proof.Machine.execCiphUnwrap p s
  | .ciphSlotRead p => Sys2Proof.Machine.execCiphSlotRead p s
  | .ciphRq p => Sys2Proof.Machine.execCiphRq p s
  | .ciphRqTailWrite v => Sys2Proof.Machine.execCiphRqTailWrite v s
  | .ctrEncrypt desc data fail => Sys2Proof.Machine.execCtrEncrypt desc data fail s
  | .ctrDecrypt desc data fail => Sys2Proof.Machine.execCtrDecrypt desc data fail s
  | .gcmEncrypt desc data aad fail => Sys2Proof.Machine.execGcmEncrypt desc data aad fail s
  | .gcmDecrypt desc data aad tag fail => Sys2Proof.Machine.execGcmDecrypt desc data aad tag fail s
  | .cmacGenerate desc data fail => Sys2Proof.Machine.execCmacGenerate desc data fail s
  | .cmacVerify desc data tag fail => Sys2Proof.Machine.execCmacVerify desc data tag fail s
  | .entropyHealthFail test => Sys2Proof.Machine.execEntropyHealthFail test s
  | .ciphStatSnap => Sys2Proof.Machine.execCiphStatSnap s
  | .scrubRead m flip otherGood kind => Sys2Proof.Machine.execScrubRead m flip otherGood kind s
  | .scrubPassLate m => Sys2Proof.Machine.execScrubPassLate m s
  | .memRead p => Sys2Proof.Machine.execMemRead p s
  | .memWrite p => Sys2Proof.Machine.execMemWrite p s
  | .memCfg p => Sys2Proof.Machine.execMemCfg p s
  | .memInjectionArm v => Sys2Proof.Machine.execMemInjectionArm v s
  | .parityRewrite word => Sys2Proof.Machine.execParityRewrite word s
  | .memStatSnap => Sys2Proof.Machine.execMemStatSnap s
  | .pwrSetClear p => Sys2Proof.Machine.execPwrSetClear p s
  | .pwrSetHaze p => Sys2Proof.Machine.execPwrSetHaze p s
  | .pwrSetOvercast p => Sys2Proof.Machine.execPwrSetOvercast p s
  | .pwrSetDark p => Sys2Proof.Machine.execPwrSetDark p s
  | .pwrCfg p => Sys2Proof.Machine.execPwrCfg p s
  | .overcastPoolDrainEnd => Sys2Proof.Machine.execOvercastPoolDrainEnd s
  | .pcieL2Entered => Sys2Proof.Machine.execPcieL2Entered s
  | .darkL2Timeout => Sys2Proof.Machine.execDarkL2Timeout s
  | .regulatorAck pg => Sys2Proof.Machine.execRegulatorAck pg s
  | .regulatorAckTimeout => Sys2Proof.Machine.execRegulatorAckTimeout s
  | .overcastExitPortWaitEnd => Sys2Proof.Machine.execOvercastExitPortWaitEnd s
  | .gpioWake k => Sys2Proof.Machine.execGpioWake k s
  | .feedAlertRise => Sys2Proof.Machine.execFeedAlertRise s
  | .wakeTimerExpiry => Sys2Proof.Machine.execWakeTimerExpiry s
  | .wakeStepReady => Sys2Proof.Machine.execWakeStepReady s
  | .wakeStepTimeout => Sys2Proof.Machine.execWakeStepTimeout s
  | .gradeEvaluation feed pouts => Sys2Proof.Machine.execGradeEvaluation feed pouts s
  | .sensorReading k t => Sys2Proof.Machine.execSensorReading k t s
  | .feedAlertLow => Sys2Proof.Machine.execFeedAlertLow s
  | .pwrStatSnap => Sys2Proof.Machine.execPwrStatSnap s
  | .cmdTailWrite f v => Sys2Proof.Machine.execCmdTailWrite f v s
  | .rplRdWrite f v => Sys2Proof.Machine.execRplRdWrite f v s
  | .evtRdWrite f v => Sys2Proof.Machine.execEvtRdWrite f v s
  | .ringCfgWrite f v => Sys2Proof.Machine.execRingCfgWrite f v s
  | .pad p => Sys2Proof.Machine.execPad p s
  | .replyWrite f => Sys2Proof.Machine.execReplyWrite f s
  | .commandTimeout f id => Sys2Proof.Machine.execCommandTimeout f id s
  | .mgmtInfo p => Sys2Proof.Machine.execMgmtInfo p s
  | .cfgCommit p => Sys2Proof.Machine.execCfgCommit p s
  | .journalRead p => Sys2Proof.Machine.execJournalRead p s
  | .boardRead p => Sys2Proof.Machine.execBoardRead p s
  | .cntClear p grp => Sys2Proof.Machine.execCntClear p grp s
  | .functionLevelReset f reqs => Sys2Proof.Machine.execFunctionLevelReset f reqs s
  | .pcieHotReset reqs => Sys2Proof.Machine.execPcieHotReset reqs s
  | .powerOnReset ns => Sys2Proof.Machine.execPowerOnReset ns s
  | .startStepReady info => Sys2Proof.Machine.execStartStepReady info s
  | .startStepTimeout info => Sys2Proof.Machine.execStartStepTimeout info s
  | .bootRestart f v => Sys2Proof.Machine.execBootRestart f v s
  | .qspiRead f => Sys2Proof.Machine.execQspiRead f s
  | .qspiProgram f => Sys2Proof.Machine.execQspiProgram f s
  | .qspiErase f => Sys2Proof.Machine.execQspiErase f s
  | .qspiOpDone err => Sys2Proof.Machine.execQspiOpDone err s
  | .journalMirrorWrite ok => Sys2Proof.Machine.execJournalMirrorWrite ok s
  | .journalClear f => Sys2Proof.Machine.execJournalClear f s
  | .registerWrite f off v be => Sys2Proof.Machine.execRegisterWrite f off v be s
  | .awareIntervalStart c => Sys2Proof.Machine.execAwareIntervalStart c s
  | .lowPowerIntervalStart c => Sys2Proof.Machine.execLowPowerIntervalStart c s
  | .checkpointWriteDone => Sys2Proof.Machine.execCheckpointWriteDone s
  | .memoryZeroFillDone e => Sys2Proof.Machine.execMemoryZeroFillDone e s
  | .instructionMemoryReloaded e => Sys2Proof.Machine.execInstructionMemoryReloaded e s
  | .vePllLock => Sys2Proof.Machine.execVePllLock s
  | .pcieLinkUp => Sys2Proof.Machine.execPcieLinkUp s
  | .eventNoticeIntervalEnd f => Sys2Proof.Machine.execEventNoticeIntervalEnd f s
  | .opticMonitoringRead c => Sys2Proof.Machine.execOpticMonitoringRead c s

end Sys2Proof.Machine
end

