-- ==== Sys2Proof/Safety.lean ====
section
/-! DEFINITION. The terms in which the claims are stated: that a command completes, how a packet's command ends, what counts
as a store kept in its canonical form, and which parts of the state two states share. -/

namespace Sys2Proof.Machine

/-- exec answers a next state, of which P holds. -/
def Completes (i : Instr) (s : State) (P : State → Prop) : Prop := ∃ t, exec i s = .next t ∧ P t

/-- The packet p is read now and meets the checks of R556 that do not depend on its opcode's LENGTH and TARGET: it may begin
(R555, R557, R558, R574), it does not pass the ring end, the device is in normal operation (R588), VERSION is 1, the
reserved FLAGS bits are 0, LENGTH is at most 1,024, and the opcode's group belongs to the function (Table 1-6). -/
abbrev Taken (op : Nat) (p : Pkt) (s : State) : Prop :=
  s.mayBegin op p = true ∧ s.pastRingEnd p = false ∧ s.boot.mode = 1 ∧ p.version.toNat = 1 ∧ p.flags.toNat / 4 = 0 ∧
    p.length ≤ 1024 ∧ groupDefined (op / 256) = true ∧ groupOwner (op / 256) = p.func.val

/-- The state after the packet p has been read from its ring (R554, R555): what the command's own part starts from. -/
def State.afterTake (s : State) (p : Pkt) : State := { s.takePkt p with cmdId := s.cmdId + 1 }

/-- The command of packet p ends with r: the next state is a state u of which P holds, with the command ended in it (R558). -/
def Ends (i : Instr) (op : Nat) (p : Pkt) (s : State) (r : CmdEnd) (P : State → Prop) : Prop :=
  ∃ u, exec i s = .next (u.endCmd (p.echo op) r) ∧ P u

/-- The state u with the command of packet p among the accepted ones of its function (R559), under the number n. -/
def State.accepting (u : State) (op n : Nat) (p : Pkt) : State :=
  u.setFn p.func.val { u.fn p.func.val with
    accepted := (u.fn p.func.val).accepted ++ [{ echo := p.echo op, id := n }] }

/-- The command of packet p is accepted (R559): it replies ACCEPTED with this DETAIL and stays among the accepted ones; P
holds of the state that its effect reaches first. -/
def Accepts (i : Instr) (op : Nat) (p : Pkt) (s : State) (detail : Nat) (P : State → Prop) : Prop :=
  ∃ u, exec i s = .next ((u.accepting op s.cmdId p).endCmd (p.echo op) ⟨stAccepted, detail, []⟩) ∧ P u

/-- The command of packet p has begun and ends later (R558): it stands among those begun; P holds of the state reached. -/
def Begins (i : Instr) (op : Nat) (p : Pkt) (s : State) (P : State → Prop) : Prop :=
  ∃ u, exec i s = .next (u.setFn p.func.val { u.fn p.func.val with
    begun := (u.fn p.func.val).begun ++ [⟨p.echo op, s.cmdId, u.tick.count.toNat⟩] }) ∧ P u

/-- The value of the register at an offset after its RW bits take the value v (R7, R8). -/
def State.rwAfter (s : State) (off v : Nat) : Word :=
  match regSpecAt off with
  | none => s.rd off
  | some r => BitVec.ofNat 32 (((s.rd off).toNat &&& (0xFFFFFFFF ^^^ r.rw)) ||| (v &&& r.rw))

/-- The downstream PLOAM message of a row that carries one. -/
def ploamOf : Instr → Option Ploam
  | .burstProfile m _ => some m
  | .assignOnuId m _ _ => some m
  | .rangingTime m _ _ => some m
  | .deactivateOnuId m => some m
  | .disableSerialNumber m _ => some m
  | .enableSerialNumber m _ => some m
  | .requestRegistration m => some m
  | .assignAllocId m _ _ => some m
  | .keyControl m _ _ => some m
  | .sleepAllow m _ => some m
  | .ploamUnsupported m _ => some m
  | _ => none

/-- A downstream PLOAM message that its channel executes (R113, R114): in sync, outside a near-end loop, whole, its
partition without a bad byte, its MIC right with the integrity key held and its codeword clean, and addressed to all or,
with a new sequence number, to this ONU. -/
abbrev Heard (m : Ploam) (s : State) : Prop :=
  s.inSync m.ch.val = true ∧ s.nearLoop (40 + m.ch.val) = false ∧ m.partBad = false ∧ m.bad = false ∧
    m.micFail = false ∧ (s.slot (8 * m.ch.val + 4)).state ≠ 3 ∧ (s.readKey (8 * m.ch.val + 4)).1 = s ∧
    (m.onu = none ∨ (m.onu = (s.ch m.ch.val).onuId ∧ (s.ch m.ch.val).lastSeq ≠ some m.seq.toNat))

/-- A request of the cipher's ring: the operation its row names, the descriptor, the failure of its host memory access. -/
def requestOf : Instr → Option (Nat × List Byte × Option Nat)
  | .ctrEncrypt d _ f => some (1, d, f)
  | .ctrDecrypt d _ f => some (2, d, f)
  | .gcmEncrypt d _ _ f => some (3, d, f)
  | .gcmDecrypt d _ _ _ f => some (4, d, f)
  | .cmacGenerate d _ f => some (5, d, f)
  | .cmacVerify d _ _ f => some (6, d, f)
  | _ => none

/-- The host halves that a CTX_LOAD with INLINE 0 reads out of DDR4, or the first index that cannot be read (R571). -/
def State.halves (s : State) (base first n : Nat) : List (List Byte) ⊕ Nat :=
  match (s.readHalves base first n).2 with
  | .ok hs => .inl hs
  | .error i => .inr i

/-- Registers outside some families read as before: those that a command writes, and those in which it may tell of a saturated
counter or of a memory error on its way. -/
def RegsKeptIn (families : List (Nat → Nat)) (s t : State) : Prop := ∀ o, (∀ g ∈ families, ∀ i, g i ≠ o) → t.rd o = s.rd o

/-- Registers outside a list of offsets read as before. -/
def RegsKept (offs : List Nat) (s t : State) : Prop := ∀ o, o ∉ offs → t.rd o = s.rd o

/-- Registers outside the BAR0 range from lo to below hi read as before. -/
def RegsKeptBut (lo hi : Nat) (s t : State) : Prop := ∀ o, (o < lo ∨ hi ≤ o) → t.rd o = s.rd o

/-- The parts of the state. -/
inductive Part where
  | regs | cnt | bank | arb | fns | tick | pon | alloc | bonding | buf | chan | sched | time | clsIn | cls | fwd | running
  | vec | svl | testLanes | mac | lanes | pwr | mem | ciph | boot | jrn | tap | pending | out | freeCtr | cmdId
  deriving DecidableEq, Repr

/-- Two states have the same value of a part. -/
def Part.same (s t : State) : Part → Prop
  | .regs => t.regs = s.regs
  | .cnt => t.cnt = s.cnt
  | .bank => t.bank = s.bank
  | .arb => t.arb = s.arb
  | .fns => t.fns = s.fns
  | .tick => t.tick = s.tick
  | .pon => t.pon = s.pon
  | .alloc => t.alloc = s.alloc
  | .bonding => t.bonding = s.bonding
  | .buf => t.buf = s.buf
  | .chan => t.chan = s.chan
  | .sched => t.sched = s.sched
  | .time => t.time = s.time
  | .clsIn => t.clsIn = s.clsIn
  | .cls => t.cls = s.cls
  | .fwd => t.fwd = s.fwd
  | .running => t.running = s.running
  | .vec => t.vec = s.vec
  | .svl => t.svl = s.svl
  | .testLanes => t.testLanes = s.testLanes
  | .mac => t.mac = s.mac
  | .lanes => t.lanes = s.lanes
  | .pwr => t.pwr = s.pwr
  | .mem => t.mem = s.mem
  | .ciph => t.ciph = s.ciph
  | .boot => t.boot = s.boot
  | .jrn => t.jrn = s.jrn
  | .tap => t.tap = s.tap
  | .pending => t.pending = s.pending
  | .out => t.out = s.out
  | .freeCtr => t.freeCtr = s.freeCtr
  | .cmdId => t.cmdId = s.cmdId

/-- Every part of the state outside a list is as before. -/
def OnlyChanges (ps : List Part) (s t : State) : Prop := ∀ x : Part, x ∉ ps → x.same s t

/-! One instruction of a vector engine (chapter 07). -/

/-- Engine e issues the instruction w next, uncorrected and without a fault (R217, R218, R226); no access of an earlier
instruction is on its way, and its uncorrectable reads stay below their threshold. -/
abbrev Issues (e w : Nat) (s : State) : Prop :=
  (s.eng e).mayIssue = true ∧ s.veGated = false ∧ (s.eng e).fetch = ⟨some w, false⟩ ∧ (s.eng e).faultOf w = none ∧ (s.eng e).loads = [] ∧
    (s.eng e).slabWr = [] ∧ (s.eng e).pend = [] ∧ (s.eng e).gather = none ∧ (s.eng e).ueCyc < s.ueThr

/-- Engine x with the registers, the place of execution, the cycle counter and the port use of y. -/
abbrev Eng.moved (x y : Eng) : Eng :=
  { x with
    regs := y.regs, pc := y.pc, loops := y.loops, slots := y.slots, rep := y.rep, afterEnd := y.afterEnd, cyc := y.cyc
    rdFree := y.rdFree, wrFree := y.wrFree, cFree := y.cFree, usedRd := y.usedRd, usedWr := y.usedWr }

/-- An instruction with a scalar operation only. -/
abbrev scalarOnly (w : Nat) : Prop := iVop w = 0 ∧ iAct w 0 = 0 ∧ iAct w 1 = 0 ∧ iAct w 2 = 0

/-- Every engine but e is as before. -/
abbrev OtherEngines (e : Nat) (s t : State) : Prop := ∀ k < 96, k ≠ e → t.eng k = s.eng k

/-- The registers of an engine after the writes ws, of which the last to a register stands. -/
abbrev RegsAfter (ws : List (Nat × Word)) (x y : Eng) : Prop :=
  ∀ r < 16, y.reg r = ((ws.reverse.find? (fun p => p.1 == r)).map (·.2)).getD (x.reg r)

/-- The scalar operation of w has written ws, and execution goes on after it. Where w has no other operation, nothing else of
the engines changes. -/
abbrev ScalarDone (e w : Nat) (ws : List (Nat × Word)) (s t : State) : Prop :=
  RegsAfter ws (s.eng e) (t.eng e) ∧ (t.eng e).pc = ((s.eng e).next (s.eng e).pc).pc ∧
    (scalarOnly w → t.eng e = (s.eng e).moved (t.eng e) ∧ (t.eng e).cyc = min ((s.eng e).cyc + 1) 0xFFFFFFFF ∧
      OtherEngines e s t ∧ t = { s with vec := t.vec })

/-- The memories and every other store of the memory system stand in their canonical form. -/
def Mem.wf (m : Mem) : Bool :=
  sparseWf (fun _ => 0) m.ddr && sparseWf (fun _ => 0) m.ctlErr && sparseWf (fun _ => 0) m.pbufErr &&
    sparseWf (fun _ => 0) m.pos && sparseWf (fun _ => 0) m.logA && sparseWf (fun _ => 0) m.logB &&
    sparseWf (fun _ => 0) m.ueTold && sparseWf (fun _ => 0) m.symBase && sparseWf (fun _ => 0) m.passAt

/-- The opcode and the packet of a command that host software sends by a command packet (Table 20-6); none for the others. -/
def packetOf : Instr → Option (Nat × Pkt)
  | .tickMaster p => some (0x4001, p)
  | .tickRealign p => some (0x4002, p)
  | .tickCfg p => some (0x4003, p)
  | .timeCfg p => some (0x4004, p)
  | .ponCfg p => some (0x1001, p)
  | .ponRegId p => some (0x1002, p)
  | .ponMsk p => some (0x1003, p)
  | .ponPortAdd p => some (0x1004, p)
  | .ponPortRemove p => some (0x1005, p)
  | .ponLullPolicy p => some (0x1006, p)
  | .ponQueues p => some (0x1007, p)
  | .allocCtxLoad p => some (0x10F0, p)
  | .allocCtxRead p => some (0x10F1, p)
  | .bondCtxLoad p => some (0x11F0, p)
  | .bondCtxRead p => some (0x11F1, p)
  | .bondMeClass p => some (0x1101, p)
  | .bondQueue p => some (0x1102, p)
  | .engCtlStart p => some (0x2107, p)
  | .engCtlStop p => some (0x2107, p)
  | .engCtlReset p _ => some (0x2107, p)
  | .engCtlRetire p => some (0x2107, p)
  | .engCtlRejoin p => some (0x2107, p)
  | .slabMode p => some (0x2109, p)
  | .slabWrite p => some (0x2104, p)
  | .slabRead p => some (0x2105, p)
  | .kernelLoad p => some (0x2101, p)
  | .kernelFree p => some (0x2102, p)
  | .engLoad p => some (0x2103, p)
  | .engSpare p => some (0x2106, p)
  | .engRetireCfg p => some (0x2108, p)
  | .vgDefine p => some (0x2001, p)
  | .vgLadder p => some (0x2002, p)
  | .vgStart p => some (0x2003, p)
  | .vgStop p => some (0x2004, p)
  | .vgParam p => some (0x2005, p)
  | .vgFenceWords p => some (0x2006, p)
  | .vgFenceAbort p => some (0x2008, p)
  | .vgFenceCommit p => some (0x2007, p)
  | .vgTgRelease p => some (0x2009, p)
  | .vgUndefine p => some (0x200A, p)
  | .vgThaw p => some (0x200B, p)
  | .vsCutoff p => some (0x200C, p)
  | .svlPort p => some (0x2010, p)
  | .laneEq p => some (0x0401, p)
  | .laneTest p => some (0x0402, p)
  | .laneSleep p => some (0x0403, p)
  | .laneEye p => some (0x0404, p)
  | .laneEyeRead p => some (0x0405, p)
  | .ethCfg p => some (0x3401, p)
  | .ethTags p => some (0x3402, p)
  | .ethMchash p => some (0x3403, p)
  | .ethPause p => some (0x3404, p)
  | .ethGlide p => some (0x3405, p)
  | .clsRuleWrite p => some (0x3001, p)
  | .clsRuleDelete p => some (0x3002, p)
  | .clsFlowInsert p => some (0x3003, p)
  | .clsFlowDelete p => some (0x3004, p)
  | .clsCommit p => some (0x3005, p)
  | .clsAbort p => some (0x3006, p)
  | .clsFlowMask p => some (0x3007, p)
  | .clsSrc p => some (0x3008, p)
  | .clsCfg p => some (0x3009, p)
  | .fwdSearch p => some (0x3101, p)
  | .fwdNext p => some (0x3102, p)
  | .fwdInsert p => some (0x3103, p)
  | .fwdDelete p => some (0x3104, p)
  | .flushPort p => some (0x3105, p)
  | .floodSet p => some (0x3106, p)
  | .fwdCfg p => some (0x3107, p)
  | .bufCarve p => some (0x3201, p)
  | .bufPool p => some (0x3202, p)
  | .hostDq p => some (0x3203, p)
  | .hostHq p => some (0x3204, p)
  | .schL1 p => some (0x3301, p)
  | .schL2 p => some (0x3302, p)
  | .schQueue p => some (0x3303, p)
  | .schQueueRead p => some (0x3304, p)
  | .schSample p => some (0x3305, p)
  | .lineCtxLoad p => some (0x33F0, p)
  | .lineCtxRead p => some (0x33F1, p)
  | .ciphUnwrap p => some (0x5001, p)
  | .ciphSlotRead p => some (0x5002, p)
  | .ciphRq p => some (0x5003, p)
  | .memRead p => some (0x0301, p)
  | .memWrite p => some (0x0302, p)
  | .memCfg p => some (0x0303, p)
  | .pwrSetClear p => some (0x0201, p)
  | .pwrSetHaze p => some (0x0201, p)
  | .pwrSetOvercast p => some (0x0201, p)
  | .pwrSetDark p => some (0x0201, p)
  | .pwrCfg p => some (0x0202, p)
  | .mgmtInfo p => some (0x0101, p)
  | .cfgCommit p => some (0x0102, p)
  | .journalRead p => some (0x0103, p)
  | .boardRead p => some (0x0104, p)
  | .cntClear p grp => some (grp.toNat * 256 + 0xFE, p)
  | _ => none

/-- The commands that can put the TICK domain into reset: PORST_N, a restart, and the power state DARK with the wake from it. -/
def resetsTick : Instr → Bool
  | .powerOnReset _ => true
  | .bootRestart _ _ => true
  | .regulatorAck _ => true
  | .wakeStepReady => true
  | _ => false

/-- TIF is TIC modulo 6, and TIC and CYCLE stay within their ranges (Table 2-1, R33). -/
def TickGen.legal (t : TickGen) : Prop := t.tif = t.tic % 6 ∧ t.tic < 36 ∧ t.cycle < 8

end Sys2Proof.Machine
end

