-- ==== Sys2Proof/Certificates/Slice0/Obligations.lean ====
section
/-! DEFINITION. The statements for the provers. Unless a docstring says otherwise, each clause of a statement says what one
command does in every state that meets the clause's hypotheses: that exec answers a next state, what that state holds, and
which parts of the state it leaves as they were (OnlyChanges, RegsKept of Safety.lean). A packet command (Taken) begins at
the state after its packet has been read (State.afterTake) and ends with its reply (Ends, Accepts, Begins). -/

open Sys2Proof Sys2Proof.Machine

/-- The commands of the spec reach a run through this statement alone; that an empty queue idles is the model's
choice (log 3). -/
def Obligations.StepRunsTheCommandAtTheFrontOfTheQueue : Prop :=
  (∀ (c : Instr) (s : State) (cs : List Instr), s.pending = c :: cs → step s = exec c { s with pending := cs }) ∧
  (∀ s : State, s.pending = [] → step s = .next s)

/-- R23 and R25: the arbiter's choice. -/
def Obligations.ArbiterGrantsTheLowestSeverityInRoundRobin : Prop :=
  ∀ (a : Arbiter) (src : Nat), a.choose = some src →
    ∃ v, (src, v) ∈ a.contenders ∧ (∀ k w, (k, w) ∈ a.contenders → v ≤ w) ∧
      (∀ k, (k, v) ∈ a.contenders → a.last < k → a.last < src ∧ src ≤ k) ∧
      ((∀ k, (k, v) ∈ a.contenders → k ≤ a.last) → ∀ k, (k, v) ∈ a.contenders → 0 < k → src ≤ k)

/-- R556, steps 1 to 5, and R588 for every command packet. Commands that change the forwarding table wait for the
requests queued before them (R389). -/
def Obligations.FirstFailingCheckEndsTheCommandAlone : Prop :=
  (∀ (i : Instr) (op : Nat) (p : Pkt) (s : State), packetOf i = some (op, p) → s.mayBegin op p = true →
    s.boot.mode = 2 → recoveryServes op p.func.val = false → s.fwd.reqs = [] →
    exec i s = .next ((s.afterTake p).endCmd (p.echo op) ⟨stHwFault, 0, []⟩)) ∧
  ∀ (i : Instr) (op : Nat) (p : Pkt) (s : State), packetOf i = some (op, p) → s.mayBegin op p = true →
    (s.boot.mode = 1 ∨ (s.boot.mode = 2 ∧ recoveryServes op p.func.val = true)) → s.fwd.reqs = [] →
    (p.version.toNat ≠ 1 → exec i s = .next ((s.afterTake p).endCmd (p.echo op) ⟨stBadOpcode, 1, []⟩)) ∧
    (p.version.toNat = 1 → p.flags.toNat / 4 ≠ 0 →
      exec i s = .next ((s.afterTake p).endCmd (p.echo op) ⟨stBadParam, 0, []⟩)) ∧
    (p.version.toNat = 1 → p.flags.toNat / 4 = 0 → (1024 < p.length ∨ s.pastRingEnd p = true) →
      exec i s = .next ((s.afterTake p).endCmd (p.echo op) ⟨stBadLength, 0, []⟩)) ∧
    (p.version.toNat = 1 → p.flags.toNat / 4 = 0 → p.length ≤ 1024 → s.pastRingEnd p = false →
      groupDefined (op / 256) = false → exec i s = .next ((s.afterTake p).endCmd (p.echo op) ⟨stBadOpcode, 2, []⟩)) ∧
    (p.version.toNat = 1 → p.flags.toNat / 4 = 0 → p.length ≤ 1024 → s.pastRingEnd p = false →
      groupDefined (op / 256) = true → groupOwner (op / 256) ≠ p.func.val →
      exec i s = .next ((s.afterTake p).endCmd (p.echo op) ⟨stNotOwner, 0, []⟩))

/-- The state right after reset (R26, R34, R578); the invariants of the two next statements hold in it. Values the
spec does not give are the model's (log 2). -/
def Obligations.ResetStateIsCanonicalAndAtZero : Prop :=
  State.reset.pending = [] ∧ State.reset.mem.wf = true ∧ State.reset.tick.count = 0 ∧ State.reset.tick.legal ∧
    State.reset.tick.tif = 0 ∧ State.reset.tick.tic = 0 ∧ State.reset.tick.cycle = 0 ∧ State.reset.arb.seq = 0 ∧
    (∀ o, State.reset.rd o = regReset o) ∧ (∀ c, State.reset.count c = 0)

/-- R34, over every command; with it the first sentence of R33. -/
def Obligations.TickCountMovesOnlyAtTickEdges : Prop :=
  (State.reset.tick.count = 0 ∧ State.reset.tick.tif = 0 ∧ State.reset.tick.tic = 0 ∧ State.reset.tick.cycle = 0) ∧
  (∀ s t : State, step s = .next t →
    t.tick.count = s.tick.count ∨
    (∃ cs, s.pending = .tickEdge :: cs ∧ t.tick.count = s.tick.count + 1) ∨
    (∃ c cs, s.pending = c :: cs ∧ resetsTick c = true ∧ t.tick = {})) ∧
  (∀ s : State, Completes .tickEdge s fun t => t.tick.count = s.tick.count + 1) ∧
  (∀ s t : State, s.tick.legal → step s = .next t → t.tick.legal)

/-- Every command completes in every state. Equal memories are equal data: every command keeps the canonical form
of the memories (log 4). -/
def Obligations.EveryStepCompletesAndKeepsTheMemoriesCanonical : Prop :=
  (∀ s : State, ∃ t, step s = .next t) ∧
  ∀ s t : State, s.mem.wf = true → step s = .next t → t.mem.wf = true

/-- R26. -/
def Obligations.SequenceNumbersStartAtZeroAndSurviveFunctionResets : Prop :=
  (∀ (s : State) (ns : Nat), 1000 ≤ ns → s.pwr.state ≠ 3 → Completes (.powerOnReset ns) s fun t => t.arb.seq = 0) ∧
  (∀ s : State, s.pwr.state = 3 → s.pwr.wakeStep = 4 → Completes .wakeStepReady s fun t => t.arb.seq = 0) ∧
  (∀ (s : State) (cycle src : Nat), s.arb.choose = some src →
    s.arb.lastCycle.all (fun c => decide (c + 4 ≤ cycle)) = true →
    (0 < (s.source src).discarded ∨ (s.source src).queue ≠ []) → (∀ f, (s.fn f).store.length < 1024) →
    Completes (.eventGrant cycle) s fun t =>
      (∃ f, ∃ r ∈ (t.fn f).store, r.seq = s.arb.seq) ∧ t.arb.seq = s.arb.seq + 1) ∧
  (∀ (s : State) (f : Fin 6) (reqs : List (List Byte)),
    Completes (.functionLevelReset f reqs) s fun t => t.arb.seq = s.arb.seq) ∧
  (∀ (s : State) (reqs : List (List Byte)), Completes (.pcieHotReset reqs) s fun t => t.arb.seq = s.arb.seq)

/-- R503 to R505: encoding, the syndromes, and the correction of one symbol. -/
def Obligations.AshlarDecodesItsCodewordsAndCorrectsOneSymbol : Prop :=
  (∀ d : Nat, d < 2 ^ 256 →
    syn0 (encodeWord d) = 0 ∧ syn1 (encodeWord d) = 0 ∧ (encodeWord d).toNat % 2 ^ 256 = d ∧
      decodeWord (encodeWord d) = .clean) ∧
  (∀ w : Codeword, syn0 w = 0 → syn1 w = 0 → encodeWord (w.toNat % 2 ^ 256) = w) ∧
  (∀ d k e : Nat, d < 2 ^ 256 → k < 18 → 0 < e → e < 65536 →
    decodeWord (encodeWord d ^^^ BitVec.ofNat 288 (e * 2 ^ (16 * k))) = .corrected k (encodeWord d) ∧
    cleanWord (encodeWord d ^^^ BitVec.ofNat 288 (e * 2 ^ (16 * k))) = false)

/-- TICK_EDGE, PON_FRAME_BOUNDARY, VECTOR_CYCLE_BOUNDARY, SUPERFRAME_BOUNDARY, HOLDOVER_LONG (R32, R33, R41, R47,
R52, R55, R124, R130, R528). -/
def Obligations.TickEdgeAndBoundariesActTogether : Prop :=
  (∀ (s : State), (s.tick.acqStep = none ∨ s.tick.st ≠ .acquire) →
    Completes (.tickEdge) s fun t =>
      t.tick.count = s.tick.count + 1 ∧ t.tick.tif = (s.tick.tif + 1) % 6 ∧ t.tick.tic = (s.tick.tic + 1) % 36 ∧
      t.tick.cycle = (if (s.tick.tic + 1) % 36 = 0 then (s.tick.cycle + 1) % 8 else s.tick.cycle) ∧
      t.tick.frameDue = (s.tick.frameDue || (s.tick.tif + 1) % 6 == 0) ∧
      t.tick.cycleDue = (s.tick.cycleDue || (s.tick.tic + 1) % 36 == 0) ∧
      t.tick.superDue = (s.tick.superDue || ((s.tick.tic + 1) % 36 == 0 && (s.tick.cycle + 1) % 8 == 0)) ∧
      t.tick.st = s.tick.st ∧ t.tick.master = s.tick.master ∧
      (s.flag F.TICK_OUT_CFG_ENABLE = true → .pulse "TICK_OUT" 0 (!s.flag F.TICK_OUT_CFG_POLARITY) ∈ t.out) ∧
      RegsKeptIn [R.BOND_SAT, fun _ => R.BUF_SAT, R.ETH_SAT, fun _ => R.MEM_INJ, R.MEM_UE_LOG_B, R.PON_STAT_SAT,
        fun _ => R.PWR_SAT, fun _ => R.SCH_SAT, R.SLAB_SAT, R.SVL_SAT, fun _ => R.TIME_SAT,
        fun i => R.VE_BUF (i / 1024) (i % 1024), R.VE_SAT, R.VE_STATUS, fun _ => R.VS_SAT] s t ∧
      OnlyChanges [.pending, .out, .freeCtr, .regs, .cnt, .arb, .fns, .tick, .pon, .bonding, .buf, .sched, .time,
        .clsIn, .fwd, .running, .vec, .svl, .mac, .lanes, .pwr, .mem, .jrn] s t) ∧
  (∀ (s : State) (i : Nat), s.tick.acqStep = some i → s.tick.st = .acquire →
    Completes (.tickEdge) s fun t =>
      t.tick.count = s.tick.count + 1 ∧ t.tick.tif = i % 6 ∧ t.tick.tic = i % 36 ∧ t.tick.cycle = i / 36 % 8 ∧
      t.tick.acqStep = none ∧
      RegsKeptIn [R.BOND_SAT, fun _ => R.BUF_SAT, R.ETH_SAT, fun _ => R.MEM_INJ, R.MEM_UE_LOG_B, R.PON_STAT_SAT,
        fun _ => R.PWR_SAT, fun _ => R.SCH_SAT, R.SLAB_SAT, R.SVL_SAT, fun _ => R.TIME_SAT,
        fun i => R.VE_BUF (i / 1024) (i % 1024), R.VE_SAT, R.VE_STATUS, fun _ => R.VS_SAT] s t ∧
      OnlyChanges [.pending, .out, .freeCtr, .regs, .cnt, .arb, .fns, .tick, .pon, .bonding, .buf, .sched, .time,
        .clsIn, .fwd, .running, .vec, .svl, .mac, .lanes, .pwr, .mem, .jrn] s t) ∧
  (∀ (s : State) (n : Fin 4) (k : List Byte), s.tick.frameDue = true → (s.ch n.val).mskNext = some k →
    Completes (.ponFrameBoundary) s fun t =>
      t.tick = { s.tick with frameDue := false } ∧ (t.ch n.val).msk = some k ∧ (t.ch n.val).mskNext = none ∧
      RegsKeptIn [fun _ => R.MEM_INJ] s t ∧ OnlyChanges [.regs, .tick, .pon, .ciph] s t) ∧
  (∀ (s : State) (n : Fin 4) (i : Nat), s.tick.frameDue = true →
    Completes (.ponFrameBoundary) s fun t =>
      (sparseGet (fun _ => {}) (t.ch n.val).ports i) =
        (let x : XPort := sparseGet (fun _ => {}) (s.ch n.val).ports i; if x.delDue
        then {} else { x with inForce := x.inForce || x.addDue, addDue := false }) ∧
      RegsKeptIn [fun _ => R.MEM_INJ] s t ∧ OnlyChanges [.regs, .tick, .pon, .ciph] s t) ∧
  (∀ (s : State) (pkt : Nat), s.tick.cycleDue = true →
    Completes (.vectorCycleBoundary pkt) s fun t =>
      t.tick.cycleDue = false ∧ t.tick.change = none ∧ t.mem.ueTold = [] ∧ t.tick.count = s.tick.count ∧
      t.tick.tic = s.tick.tic ∧ t.sched.pkt = max s.sched.pkt pkt ∧
      RegsKeptIn [R.BOND_SAT, fun _ => R.BUF_SAT, R.ETH_SAT, fun _ => R.FWD_SAT, fun _ => R.MEM_DDR_SAT,
        fun _ => R.MEM_INJ, fun _ => R.MEM_SAT, R.MEM_UE_LOG_B, R.PON_STAT_SAT, fun _ => R.PWR_SAT,
        fun _ => R.SCH_SAT, R.SLAB_SAT, R.SVL_SAT, fun _ => R.TIME_SAT, R.VE_SAT, R.VE_STATUS] s t ∧
      OnlyChanges [.pending, .out, .freeCtr, .regs, .cnt, .arb, .fns, .tick, .pon, .bonding, .buf, .chan, .sched,
        .time, .clsIn, .cls, .fwd, .running, .vec, .svl, .mac, .lanes, .pwr, .mem, .jrn] s t) ∧
  (∀ (s : State), s.tick.superDue = true →
    Completes (.superframeBoundary) s fun t =>
      t.tick = { s.tick with superDue := false } ∧
      (∀ k < 18, sparseGet (fun _ => 0) t.mem.symBase k = s.count (C.MEM_DDR_SYM k)) ∧
      RegsKeptIn [R.BOND_SAT, fun _ => R.MEM_DDR_SAT, fun _ => R.MEM_INJ, fun _ => R.MEM_SAT, R.MEM_UE_LOG_B] s t ∧
      OnlyChanges [.regs, .cnt, .arb, .tick, .pon, .alloc, .bonding, .sched, .mem] s t) ∧
  (∀ (s : State), s.tick.st = .holdover → 480000 ≤ s.tick.holdTicks → s.tick.holdoverLong = false →
    exec (.holdoverLong) s = .next ((s.setTick { s.tick with holdoverLong := true }).raiseRow 0x0020 1 2 2 5 [(1,
      s.tick.master)])) ∧
  (∀ (s : State), s.tick.frameDue = false →
    exec (.ponFrameBoundary) s = .next (s)) ∧
  (∀ (s : State) (pkt : Nat), s.tick.cycleDue = false →
    exec (.vectorCycleBoundary pkt) s = .next (s)) ∧
  (∀ (s : State), s.tick.superDue = false →
    exec (.superframeBoundary) s = .next (s)) ∧
  (∀ (s : State), (s.tick.st ≠ .holdover ∨ s.tick.holdTicks < 480000 ∨ s.tick.holdoverLong = true) →
    exec (.holdoverLong) s = .next (s))

/-- TICK_MASTER, TICK_REALIGN, TICK_OFFSET_WRITE, TICK_CFG, TICK_COUNT_LO_READ (R52 to R54, R58, R59, R596). -/
def Obligations.TickGeneratorCommandsStoreAndReadBack : Prop :=
  (∀ (s : State) (p : Pkt), Taken 0x4001 p s → p.length = 0 → p.target.toNat < 4 →
    s.qualifies p.target.toNat = true →
    Begins (.tickMaster p) 0x4001 p s fun u =>
      u.tick = { s.tick with change := some ⟨p.target.toNat, p.func.val, s.cmdId⟩ } ∧
      OnlyChanges [.tick] (s.afterTake p) u) ∧
  (∀ (s : State) (p : Pkt), Taken 0x4001 p s → p.length = 0 → p.target.toNat < 4 →
    s.qualifies p.target.toNat = false →
    Ends (.tickMaster p) 0x4001 p s ⟨stBadTarget, 0, []⟩ fun u =>
      OnlyChanges [] (s.afterTake p) u) ∧
  (∀ (s : State) (p : Pkt), Taken 0x4002 p s → p.length = 0 → p.target = 0 → s.running = 0 → s.tick.steered = true →
    s.inSync s.tick.master = true →
    Ends (.tickRealign p) 0x4002 p s ⟨stDone, 0, []⟩ fun u =>
      u.tick = { s.tick with st := .acquire, run := 0, rejects := 0, accepted := [], acqStep := none, stepDue := true } ∧
      OnlyChanges [.tick] (s.afterTake p) u) ∧
  (∀ (s : State) (p : Pkt), Taken 0x4002 p s → p.length = 0 → p.target = 0 → s.running ≠ 0 →
    Ends (.tickRealign p) 0x4002 p s ⟨stBusy, 0, []⟩ fun u =>
      OnlyChanges [] (s.afterTake p) u) ∧
  (∀ (s : State) (p : Pkt), Taken 0x4002 p s → p.length = 0 → p.target = 0 → s.running = 0 →
    (s.tick.steered = false ∨ s.inSync s.tick.master = false) →
    Ends (.tickRealign p) 0x4002 p s ⟨stBadTarget, 0, []⟩ fun u =>
      OnlyChanges [] (s.afterTake p) u) ∧
  (∀ (s : State) (v : Word), v.toNat % 2 ^ 15 ≤ 19439 → v.toNat % 2 ^ 15 ≠ s.fld F.TICK_OFFSET_OFFSET →
    Completes (.tickOffsetWrite v) s fun t =>
      t.fld F.TICK_OFFSET_OFFSET = v.toNat % 2 ^ 15 ∧ t.tick = { s.tick with offPending := true } ∧
      RegsKept [R.TICK_OFFSET] s t ∧ OnlyChanges [.regs, .tick] s t) ∧
  (∀ (s : State) (v : Word), (19439 < v.toNat % 2 ^ 15 ∨ v.toNat % 2 ^ 15 = s.fld F.TICK_OFFSET_OFFSET) →
    exec (.tickOffsetWrite v) s = .next (s)) ∧
  (∀ (s : State) (p : Pkt), Taken 0x4003 p s → p.length = 3 → p.target = 0 → p.w 1 ≤ 19439 →
    Ends (.tickCfg p) 0x4003 p s ⟨stDone, 0, []⟩ fun u =>
      u.rd R.TICK_CFG = BitVec.ofNat 32 (p.w 0 &&& 0x000ffff0) ∧ u.fld F.TICK_OFFSET_OFFSET = p.w 1 ∧
      u.rd R.TICK_OUT_CFG = BitVec.ofNat 32 (p.w 2 &&& 3) ∧
      u.tick = { s.tick with offPending := s.tick.offPending || decide (p.w 1 ≠ s.fld F.TICK_OFFSET_OFFSET), outLevel := bit (p.w 2) 1 } ∧
      RegsKept [R.TICK_CFG, R.TICK_OFFSET, R.TICK_OUT_CFG] s u ∧ OnlyChanges [.regs, .tick, .out] (s.afterTake p) u) ∧
  (∀ (s : State) (p : Pkt), Taken 0x4003 p s → p.length = 3 → p.target = 0 → 19439 < p.w 1 →
    Ends (.tickCfg p) 0x4003 p s ⟨stBadParam, 0, []⟩ fun u =>
      OnlyChanges [] (s.afterTake p) u) ∧
  (∀ (s : State) (f : Fin 6), (f.val = 5 ∨ f.val = 0) →
    Completes (.tickCountLoRead f) s fun t =>
      (t.fn f.val).tickHi = s.tick.count.toNat / 2 ^ 32 ∧
      (t.fn f.val).tickIndex = s.tick.cycle * 2 ^ 16 + s.tick.tic * 2 ^ 8 + s.tick.tif ∧
      (t.fn f.val).rdata = s.tick.count.toNat % 2 ^ 32 ∧ (∀ g < 6, g ≠ f.val → t.fn g = s.fn g) ∧
      OnlyChanges [.fns] s t) ∧
  (∀ (s : State) (f : Fin 6), f.val ≠ 5 → f.val ≠ 0 →
    exec (.tickCountLoRead f) s = .next (s.answer f.val 0))

/-- TIME_SET_INCREMENT, TIME_ADJUST, TIME_SET_TIME, TIME_INCREMENT_ADJUST (R456 to R459, Table 16-1). A command
that names a raw count already passed lands at the count reached (log 24). -/
def Obligations.TimeCorrectionsMoveTheTimeAsStated : Prop :=
  (∀ (s : State) (a b : Nat), b = max s.time.raw a → s.time.busyUntil ≤ b → incOk s.argInc = true →
    Completes (.timeSetIncrement a) s fun t =>
      t.time.inc = s.argInc ∧ t.time.at b = s.time.at b ∧ t.time.anchor = b ∧ t.time.raw = b ∧
      t.time.busyUntil ≤ b + 8 ∧ OnlyChanges [.time, .freeCtr] s t) ∧
  (∀ (s : State) (a b : Nat), b = max s.time.raw a → s.time.busyUntil ≤ b → s.fld F.TIME_ARG_NS_NS ≤ 999999999 →
    Completes (.timeAdjust a) s fun t =>
      t.time.inc = s.time.inc ∧
      (∀ r, t.time.at r = (s.time.at r +
        timeOf s.argSec (s.fld F.TIME_ARG_NS_NS) (s.fld F.TIME_ARG_FRAC_FRAC)) % timeModulus) ∧
      t.time.anchor = b ∧ t.time.raw = b ∧ t.time.busyUntil ≤ b + 8 ∧ OnlyChanges [.time, .freeCtr] s t) ∧
  (∀ (s : State) (a b : Nat), b = max s.time.raw a → s.time.busyUntil ≤ b → s.fld F.TIME_ARG_NS_NS ≤ 999999999 →
    Completes (.timeSetTime a) s fun t =>
      t.time.inc = s.time.inc ∧
      t.time.at b = timeOf s.argSec (s.fld F.TIME_ARG_NS_NS) (s.fld F.TIME_ARG_FRAC_FRAC) % timeModulus ∧
      t.time.anchor = b ∧ t.time.raw = b ∧ t.time.busyUntil ≤ b + 8 ∧ OnlyChanges [.time, .freeCtr] s t) ∧
  (∀ (s : State) (a b : Nat), b = max s.time.raw a → s.time.busyUntil ≤ b → incOk s.argInc = true →
    s.fld F.TIME_ARG_NS_NS ≤ 999999999 →
    Completes (.timeIncrementAdjust a) s fun t =>
      t.time.inc = s.argInc ∧
      t.time.at b = (s.time.at b + timeOf s.argSec (s.fld F.TIME_ARG_NS_NS) (s.fld F.TIME_ARG_FRAC_FRAC)) % timeModulus ∧
      t.time.anchor = b ∧ t.time.raw = b ∧ t.time.busyUntil ≤ b + 8 ∧ OnlyChanges [.time, .freeCtr] s t) ∧
  (∀ (s : State) (a b : Nat), b = max s.time.raw a → s.time.busyUntil ≤ b → incOk s.argInc = false →
    exec (.timeSetIncrement a) s = .next (((s.rawTo a).setFld F.TIME_STATUS_INC_REFUSED 1).raiseRow 0x0090 2 16 4 5 [(1,
      1), (8, s.argInc)])) ∧
  (∀ (s : State) (a b : Nat), b = max s.time.raw a → s.time.busyUntil ≤ b → 999999999 < s.fld F.TIME_ARG_NS_NS →
    exec (.timeAdjust a) s = .next (((s.rawTo a).setFld F.TIME_STATUS_INC_REFUSED 1).raiseRow 0x0090 2 16 4 5 [(1,
      2), (8, s.argInc)])) ∧
  (∀ (s : State) (a b : Nat), b = max s.time.raw a → s.time.busyUntil ≤ b → 999999999 < s.fld F.TIME_ARG_NS_NS →
    exec (.timeSetTime a) s = .next (((s.rawTo a).setFld F.TIME_STATUS_INC_REFUSED 1).raiseRow 0x0090 2 16 4 5 [(1,
      3), (8, s.argInc)])) ∧
  (∀ (s : State) (a b : Nat), b = max s.time.raw a → s.time.busyUntil ≤ b →
    (incOk s.argInc = false ∨ 999999999 < s.fld F.TIME_ARG_NS_NS) →
    exec (.timeIncrementAdjust a) s =
      .next (((s.rawTo a).setFld F.TIME_STATUS_INC_REFUSED 1).raiseRow 0x0090 2 16 4 5 [(1, 4), (8, s.argInc)])) ∧
  (∀ (s : State) (a : Nat), max s.time.raw a < s.time.busyUntil →
    (exec (.timeSetIncrement a) s = .next s ∧ exec (.timeAdjust a) s = .next s ∧ exec (.timeSetTime a) s = .next s ∧
      exec (.timeIncrementAdjust a) s = .next s))

/-- The remaining commands of the timebase (R460, R462, R474 to R477, R479, R480, R596). -/
def Obligations.TimebaseReadsPulsesAndMessages : Prop :=
  (∀ (s : State) (f : Fin 6) (raw r : Nat), (f.val = 5 ∨ f.val = 0) → r = max s.time.raw raw →
    Completes (.timeRdRawLoRead f raw) s fun t =>
      (t.fn f.val).rdata = r % 2 ^ 32 ∧ (t.fn f.val).rdRawHi = r / 2 ^ 32 % 2 ^ 32 ∧
      (t.fn f.val).rdSec = timeSec (s.time.at r) ∧ (t.fn f.val).rdNs = timeNs (s.time.at r) ∧
      (t.fn f.val).rdFrac = timeFrac (s.time.at r) ∧ t.time = { s.time with raw := r } ∧
      OnlyChanges [.fns, .time] s t) ∧
  (∀ (s : State) (f : Fin 6) (raw : Nat), f.val ≠ 5 → f.val ≠ 0 →
    exec (.timeRdRawLoRead f raw) s = .next (s.answer f.val 0)) ∧
  (∀ (s : State) (r : List Byte) (rs : List (List Byte)), s.time.fifo = r :: rs →
    Completes (.capturePop 5) s fun t =>
      t.time = { s.time with fifo := rs, capWords := r } ∧ (t.fn 5).rdata = leAt r 0 4 ∧
      OnlyChanges [.fns, .time] s t) ∧
  (∀ (s : State), s.time.fifo = [] →
    Completes (.capturePop 5) s fun t =>
      t.time = { s.time with capWords := List.replicate 20 0 ++ [0xFF] ++ List.replicate 11 0 } ∧
      (t.fn 5).rdata = 0 ∧ OnlyChanges [.fns, .time] s t) ∧
  (∀ (s : State) (f : Fin 6), f.val ≠ 5 →
    (exec (.capturePop f) s = .next (s.answer f.val 0) ∧ exec (.todRxPop f) s = .next (s.answer f.val 0))) ∧
  (∀ (s : State) (raw : Nat), s.ppsDue raw = true →
    Completes (.ppsOutPulse raw) s fun t =>
      .pps (!s.flag F.TIME_PPS_CFG_OUT_POL) (ms500 100 (s.fld F.TIME_PPS_CFG_WIDTH_MS)) ∈ t.out ∧
      t.time.todPulse = (if s.flag F.TIME_TOD_CFG_TOD_EN then some (s.ppsSecond raw, raw) else s.time.todPulse) ∧
      t.time.raw = raw ∧ t.time.ppsOut = raw ∧ t.time.inc = s.time.inc ∧ t.time.offset = s.time.offset ∧
      OnlyChanges [.out, .time] s t) ∧
  (∀ (s : State) (raw : Nat), s.ppsDue raw = false →
    exec (.ppsOutPulse raw) s = .next (s.rawTo raw)) ∧
  (∀ (s : State) (falling : Bool) (raw r : Nat), s.flag F.TIME_PPS_CFG_IN_EN = true →
    falling = s.flag F.TIME_PPS_CFG_IN_POL → r = max s.time.raw raw → s.time.fifo.length < 512 →
    Completes (.ppsInEdge falling raw) s fun t =>
      t.time = { s.time with raw := r, ppsEdges := s.time.ppsEdges + 1, ppsLast := r, ppsFrom := r, ppsLostTold := false, fifo := s.time.fifo ++ [capRecord 2 0 r (s.time.at r) (leBytes 4 0 ++ leBytes 4 (s.time.ppsEdges + 1))] } ∧
      OnlyChanges [.time] s t) ∧
  (∀ (s : State) (falling : Bool) (raw : Nat), s.flag F.TIME_PPS_CFG_IN_EN = true →
    falling = s.flag F.TIME_PPS_CFG_IN_POL → 512 ≤ s.time.fifo.length → s.count C.TIME_CAP_LOST < 0xFFFFFFFE →
    Completes (.ppsInEdge falling raw) s fun t =>
      t.time.fifo = s.time.fifo ∧ t.count C.TIME_CAP_LOST = s.count C.TIME_CAP_LOST + 1 ∧
      t.time.ppsEdges = s.time.ppsEdges + 1 ∧ OnlyChanges [.time, .cnt, .arb] s t) ∧
  (∀ (s : State) (falling : Bool) (raw : Nat),
    (s.flag F.TIME_PPS_CFG_IN_EN = false ∨ falling ≠ s.flag F.TIME_PPS_CFG_IN_POL) →
    exec (.ppsInEdge falling raw) s = .next (s.rawTo raw)) ∧
  (∀ (s : State) (raw : Nat), s.flag F.TIME_PPS_CFG_IN_EN = true → s.time.ppsLostTold = false →
    s.time.ppsFrom + 859375000 ≤ max s.time.raw raw →
    exec (.ppsInLost raw) s = .next (((s.rawTo raw).setTime { s.time with raw := max s.time.raw raw, ppsLostTold := true }).raiseRow 0x0090 1 16 1 5 [(8,
      s.time.ppsLast)])) ∧
  (∀ (s : State) (raw : Nat),
    (s.flag F.TIME_PPS_CFG_IN_EN = false ∨ s.time.ppsLostTold = true ∨
      max s.time.raw raw < s.time.ppsFrom + 859375000) →
    exec (.ppsInLost raw) s = .next (s.rawTo raw)) ∧
  (∀ (s : State) (raw r sec pulse : Nat), r = max s.time.raw raw → s.time.todPulse = some (sec, pulse) →
    s.flag F.TIME_TOD_CFG_TOD_EN = true → pulse + ms500 10 (s.fld F.TIME_TOD_CFG_DELAY_MS) * 781250 ≤ r →
    Completes (.todMessageSend raw) s fun t =>
      t.out = .tod (s.todMessage sec) :: s.out ∧ (s.todMessage sec).length = 16 ∧
      t.time = { s.time with raw := r, todPulse := none, todStart := some r } ∧ OnlyChanges [.out, .time] s t) ∧
  (∀ (s : State) (raw : Nat), (s.time.todPulse = none ∨ s.flag F.TIME_TOD_CFG_TOD_EN = false) →
    exec (.todMessageSend raw) s = .next (s.rawTo raw)) ∧
  (∀ (s : State) (raw sec pulse : Nat), s.time.todPulse = some (sec, pulse) →
    max s.time.raw raw < pulse + ms500 10 (s.fld F.TIME_TOD_CFG_DELAY_MS) * 781250 →
    exec (.todMessageSend raw) s = .next (s.rawTo raw)) ∧
  (∀ (s : State) (b : Byte), s.time.todRx.length < 256 →
    Completes (.todRxByte b) s fun t =>
      t.time = { s.time with todRx := s.time.todRx ++ [b] } ∧ OnlyChanges [.time] s t) ∧
  (∀ (s : State) (b : Byte), 256 ≤ s.time.todRx.length →
    exec (.todRxByte b) s = .next (s.bump C.TIME_TOD_RX_LOST)) ∧
  (∀ (s : State) (b : Byte) (bs : List Byte), s.time.todRx = b :: bs →
    Completes (.todRxPop 5) s fun t =>
      t.time = { s.time with todRx := bs } ∧ (t.fn 5).rdata = 256 + b.toNat ∧ OnlyChanges [.time, .fns] s t) ∧
  (∀ (s : State), s.time.todRx = [] →
    exec (.todRxPop 5) s = .next (s.answer 5 0)) ∧
  (∀ (s : State),
    Completes (.timeStatSnap) s fun t =>
      (∀ c ∈ timeCtrs, t.bankAt c.off = s.count c % 2 ^ 32) ∧ OnlyChanges [.bank] s t) ∧
  (∀ (s : State) (p : Pkt), Taken 0x4004 p s → 1 ≤ p.length →
    (List.range p.length).all (fun i => timeCfgRegs.contains (p.target.toNat + 4 * i)) = true →
    Ends (.timeCfg p) 0x4004 p s ⟨stDone, 0, []⟩ fun u =>
      (∀ i < p.length, u.rd (0x03800000 + p.target.toNat + 4 * i) =
        s.rwAfter (0x03800000 + p.target.toNat + 4 * i) (p.w i)) ∧
      RegsKept (((List.range p.length).map (fun i => 0x03800000 + p.target.toNat + 4 * i))) s u ∧
      OnlyChanges [.regs, .time] (s.afterTake p) u) ∧
  (∀ (s : State) (p : Pkt), Taken 0x4004 p s → 1 ≤ p.length →
    (List.range p.length).all (fun i => timeCfgRegs.contains (p.target.toNat + 4 * i)) = false →
    Ends (.timeCfg p) 0x4004 p s ⟨stBadTarget, 0, []⟩ fun u =>
      OnlyChanges [] (s.afterTake p) u)

/-- PON_RX_ENABLE, PON_RX_DISABLE, LOS_ASSERT, LOS_CLEAR, CDR_LOCK, WATCHFUL_RX_WAKE, PON_SFC_LO_READ,
COUNTER_LO_READ. -/
def Obligations.ReceiverEnableLosAndLockMoveTheChannel : Prop :=
  (∀ (s : State) (c : Fin 4), s.recovery = false → s.flag (F.PON_RX_CFG_ENABLE c.val) = false →
    Completes (.ponRxEnable c) s fun t =>
      t.fld (F.PON_RX_CFG_ENABLE c.val) = 1 ∧ (t.ch c.val).sync = .hunt ∧ (t.ch c.val).los = true ∧
      (t.ch c.val).cdr = false ∧ (t.ch c.val).taps = initTaps (s.ponMode c.val) ∧ (t.ch c.val).acquiring = true ∧
      (t.ch c.val).act = (s.ch c.val).act ∧ (t.ch c.val).txDis = ((s.ch c.val).act == .o7) ∧
      (∀ m < 4, m ≠ c.val → t.ch m = s.ch m) ∧ RegsKeptIn [R.ETH_SAT, R.PON_RX_CFG, R.PON_STAT_SAT, R.SVL_SAT] s t ∧
      OnlyChanges [.out, .freeCtr, .regs, .cnt, .arb, .fns, .pon, .svl, .mac, .lanes] s t) ∧
  (∀ (s : State) (c : Fin 4), (s.recovery = true ∨ s.flag (F.PON_RX_CFG_ENABLE c.val) = true) →
    exec (.ponRxEnable c) s = .next (s)) ∧
  (∀ (s : State) (c : Fin 4) (mid : Bool), s.flag (F.PON_RX_CFG_ENABLE c.val) = true →
    Completes (.ponRxDisable c mid) s fun t =>
      t.fld (F.PON_RX_CFG_ENABLE c.val) = 0 ∧ (t.ch c.val).sync = .off ∧ (t.ch c.val).los = true ∧
      (t.ch c.val).cdr = false ∧ (t.ch c.val).lull = .awake ∧
      (t.ch c.val).act = (if (s.ch c.val).act = .o7 then .o7 else .o11) ∧
      (∀ m < 4, m ≠ c.val → { t.ch m with statusQ := [] } = { s.ch m with statusQ := [] }) ∧
      RegsKeptIn [R.BOND_SAT, fun _ => R.BUF_SAT, R.ETH_SAT, R.PON_RX_CFG, R.PON_STAT_SAT, R.PON_TC_SAT,
        fun _ => R.SCH_SAT, R.SVL_SAT] s t ∧
      OnlyChanges [.freeCtr, .regs, .cnt, .arb, .fns, .tick, .pon, .alloc, .bonding, .buf, .sched, .clsIn, .svl,
        .mac, .lanes] s t) ∧
  (∀ (s : State) (c : Fin 4) (mid : Bool), s.flag (F.PON_RX_CFG_ENABLE c.val) = false →
    exec (.ponRxDisable c mid) s = .next (s)) ∧
  (∀ (s : State) (c : Fin 4) (peak : Byte) (mid : Bool) (cs : List EqCycle), s.rxOn c.val = true →
    (s.ch c.val).los = false → peak.toNat < s.fld (F.PON_FE_CFG_LOS_THR c.val) →
    s.count (C.PON_LOS c.val) < 0xFFFFFFFE →
    Completes (.losAssert c peak mid cs) s fun t =>
      (t.ch c.val).los = true ∧ (t.ch c.val).cdr = false ∧ (t.ch c.val).sync = .hunt ∧ (t.ch c.val).cands = [] ∧
      t.count (C.PON_LOS c.val) = s.count (C.PON_LOS c.val) + 1 ∧
      (∀ m < 4, m ≠ c.val → { t.ch m with statusQ := [] } = { s.ch m with statusQ := [] }) ∧
      RegsKeptIn [R.BOND_SAT, fun _ => R.BUF_SAT, R.PON_STAT_SAT, R.PON_TC_SAT, fun _ => R.SCH_SAT,
        fun _ => R.TIME_SAT] s t ∧
      OnlyChanges [.regs, .cnt, .arb, .tick, .pon, .alloc, .bonding, .buf, .sched, .time, .clsIn] s t) ∧
  (∀ (s : State) (c : Fin 4) (peak : Byte) (mid : Bool) (cs : List EqCycle),
    (s.rxOn c.val = false ∨ (s.ch c.val).los = true ∨ s.fld (F.PON_FE_CFG_LOS_THR c.val) ≤ peak.toNat) →
    exec (.losAssert c peak mid cs) s = .next (s)) ∧
  (∀ (s : State) (c : Fin 4) (peak : Byte), s.rxOn c.val = true → (s.ch c.val).los = true →
    s.fld (F.PON_FE_CFG_LOS_THR c.val) + 2 ≤ peak.toNat →
    Completes (.losClear c peak) s fun t =>
      t.ch c.val = { s.ch c.val with los := false, acquiring := true } ∧ (∀ m < 4, m ≠ c.val → t.ch m = s.ch m) ∧
      OnlyChanges [.pon, .arb] s t) ∧
  (∀ (s : State) (c : Fin 4) (peak : Byte),
    (s.rxOn c.val = false ∨ (s.ch c.val).los = false ∨ peak.toNat < s.fld (F.PON_FE_CFG_LOS_THR c.val) + 2) →
    exec (.losClear c peak) s = .next (s)) ∧
  (∀ (s : State) (c : Fin 4), s.rxOn c.val = true → (s.ch c.val).los = false →
    Completes (.cdrLock c) s fun t =>
      t.ch c.val = { s.ch c.val with cdr := true } ∧ (∀ m < 4, m ≠ c.val → t.ch m = s.ch m) ∧
        OnlyChanges [.pon] s t) ∧
  (∀ (s : State) (c : Fin 4), (s.rxOn c.val = false ∨ (s.ch c.val).los = true) →
    exec (.cdrLock c) s = .next (s)) ∧
  (∀ (s : State) (c : Fin 4), (s.ch c.val).lull = .watchful → (s.ch c.val).rxDown = true →
    Completes (.watchfulRxWake c) s fun t =>
      (t.ch c.val).sync = .hunt ∧ (t.ch c.val).rxDown = false ∧ (t.ch c.val).acquiring = true ∧
      (t.ch c.val).taps = (s.ch c.val).taps ∧
      (∀ m < 4, m ≠ c.val → { t.ch m with statusQ := [] } = { s.ch m with statusQ := [] }) ∧
      RegsKeptIn [R.BOND_SAT, fun _ => R.BUF_SAT, R.PON_STAT_SAT, fun _ => R.SCH_SAT] s t ∧
      OnlyChanges [.regs, .cnt, .arb, .pon, .bonding, .buf, .sched, .clsIn] s t) ∧
  (∀ (s : State) (c : Fin 4), ((s.ch c.val).lull ≠ .watchful ∨ (s.ch c.val).rxDown = false) →
    exec (.watchfulRxWake c) s = .next (s)) ∧
  (∀ (s : State) (f : Fin 6) (c : Fin 4), (f.val = 0 ∨ f.val = 1) →
    Completes (.ponSfcLoRead f c) s fun t =>
      (t.fn f.val).rdata = (s.ch c.val).sfc % 2 ^ 32 ∧
      sparseGet (fun _ => 0) (t.fn f.val).latches (R.PON_SFC_HI c.val) = (s.ch c.val).sfc / 2 ^ 32 ∧
      OnlyChanges [.fns] s t) ∧
  (∀ (s : State) (f : Fin 6) (c : Fin 4), f.val ≠ 0 → f.val ≠ 1 →
    exec (.ponSfcLoRead f c) s = .next (s.answer f.val 0)) ∧
  (∀ (s : State) (f : Fin 6) (off : Nat) (c : Ctr), ctrAt off = some c → c.wide = true → bit off 2 = false →
    s.seesCounter f.val c = true →
    Completes (.counterLoRead f off) s fun t =>
      (t.fn f.val).rdata = s.bankAt off ∧
      sparseGet (fun _ => 0) (t.fn f.val).latches (off + 4) = s.bankAt (off + 4) ∧ OnlyChanges [.fns] s t) ∧
  (∀ (s : State) (f : Fin 6) (off : Nat) (c : Ctr), ctrAt off = some c → c.wide = true → bit off 2 = false →
    s.seesCounter f.val c = false →
    exec (.counterLoRead f off) s = .next (s.answer f.val 0)) ∧
  (∀ (s : State) (f : Fin 6) (off : Nat), ctrAt off = none →
    exec (.counterLoRead f off) s = .next ((s.readReg f.val (off / 4 * 4)).1.answer f.val (s.readReg f.val (off / 4 *
      4)).2))

/-- EQ_RESET, EQ_ACQUISITION_END, EQ_DIVERGENCE_RESET, EQ_SNAP, EQ_TAP_WRITE (R69 to R74). -/
def Obligations.EqualiserLoadsHoldsAndLatchesItsTaps : Prop :=
  (∀ (s : State) (c : Fin 4),
    Completes (.eqReset c) s fun t =>
      t.ch c.val = { s.ch c.val with taps := initTaps (s.ponMode c.val), acquiring := true } ∧
      (∀ m < 4, m ≠ c.val → t.ch m = s.ch m) ∧ OnlyChanges [.pon] s t) ∧
  (∀ (s : State) (c : Fin 4) (cs : List EqCycle),
    Completes (.eqAcquisitionEnd c cs) s fun t =>
      t.ch c.val = { s.ch c.val with acquiring := false, taps := (if s.eqHeld c.val then (s.ch c.val).taps else cs.foldl (eqStep (s.ponMode c.val) (s.eqMu c.val) (s.dfeOn c.val)) (s.ch c.val).taps) } ∧
      (∀ m < 4, m ≠ c.val → t.ch m = s.ch m) ∧ OnlyChanges [.pon] s t) ∧
  (∀ (s : State) (c : Fin 4) (a b : BitVec 16), ((s.ch c.val).sync = .hunt ∨ (s.ch c.val).sync = .presync) →
    (s.ch c.val).los = false → s.flag (F.PON_EQ_CTL_FREEZE c.val) = false → (s.ch c.val).acquiring = false →
    64 * s.fld (F.PON_EQ_CTL_DIV_THR c.val) < a.toNat → 64 * s.fld (F.PON_EQ_CTL_DIV_THR c.val) < b.toNat →
    Completes (.eqDivergenceReset c a b) s fun t =>
      t.ch c.val = { s.ch c.val with taps := initTaps (s.ponMode c.val), acquiring := true } ∧
      (∀ m < 4, m ≠ c.val → t.ch m = s.ch m) ∧ OnlyChanges [.pon, .arb] s t) ∧
  (∀ (s : State) (c : Fin 4) (a b : BitVec 16),
    (((s.ch c.val).sync ≠ .hunt ∧ (s.ch c.val).sync ≠ .presync) ∨ (s.ch c.val).los = true ∨
      s.flag (F.PON_EQ_CTL_FREEZE c.val) = true ∨ (s.ch c.val).acquiring = true ∨
      a.toNat ≤ 64 * s.fld (F.PON_EQ_CTL_DIV_THR c.val) ∨ b.toNat ≤ 64 * s.fld (F.PON_EQ_CTL_DIV_THR c.val)) →
    exec (.eqDivergenceReset c a b) s = .next (s)) ∧
  (∀ (s : State) (c : Fin 4) (cs : List EqCycle) (mse : BitVec 16),
    Completes (.eqSnap c cs mse) s fun t =>
      t.ch c.val = { s.ch c.val with taps := (if s.eqHeld c.val then (s.ch c.val).taps else cs.foldl (eqStep (s.ponMode c.val) (s.eqMu c.val) (s.dfeOn c.val)) (s.ch c.val).taps), snapTaps := (t.ch c.val).taps, mse := mse.toNat } ∧
      (∀ m < 4, m ≠ c.val → t.ch m = s.ch m) ∧ OnlyChanges [.pon] s t) ∧
  (∀ (s : State) (c : Fin 4) (k : Fin 32) (v : BitVec 12), s.flag (F.PON_EQ_CTL_FREEZE c.val) = true →
    Completes (.eqTapWrite c k v) s fun t =>
      (t.ch c.val).taps = (s.ch c.val).taps.set k.val (if tapZero (s.ponMode c.val) (s.dfeOn c.val) k.val
        then 0 else v.toInt) ∧
      (t.ch c.val).snapTaps = (s.ch c.val).snapTaps.set k.val (if tapZero (s.ponMode c.val) (s.dfeOn c.val) k.val
        then 0 else v.toInt) ∧
      (t.ch c.val).mse = (s.ch c.val).mse ∧ (t.ch c.val).acquiring = (s.ch c.val).acquiring ∧
      (∀ m < 4, m ≠ c.val → t.ch m = s.ch m) ∧ OnlyChanges [.pon] s t) ∧
  (∀ (s : State) (c : Fin 4) (k : Fin 32) (v : BitVec 12), s.flag (F.PON_EQ_CTL_FREEZE c.val) = false →
    exec (.eqTapWrite c k v) s = .next (s))

/-- PSYNC_MATCH, CANDIDATE_CHECK, PSYNC_CHECK (R76 to R83). -/
def Obligations.SynchronisationTracksPsyncs : Prop :=
  (∀ (s : State) (c : Fin 4) (pos : Nat) (p : PSync), s.nearLoop (40 + c.val) = false →
    ((s.ch c.val).sync = .hunt ∨ (s.ch c.val).sync = .presync) → (s.ch c.val).cdr = true →
    p.diff ≤ s.fld (F.PON_SYNC_CFG_HUNT_TOL c.val) →
    (s.ch c.val).cands.all (fun k => k.expected (s.ponMode c.val) != pos) = true → (s.ch c.val).cands.length < 8 →
    Completes (.psyncMatch c pos p) s fun t =>
      t.ch c.val = { s.ch c.val with sync := .presync, cands := (s.ch c.val).cands ++ [⟨pos, p.sfc % 2 ^ 51, p.hecOk, 0⟩] } ∧
      (∀ m < 4, m ≠ c.val → t.ch m = s.ch m) ∧ OnlyChanges [.pon] s t) ∧
  (∀ (s : State) (c : Fin 4) (pos : Nat) (p : PSync), s.nearLoop (40 + c.val) = false →
    ((s.ch c.val).sync = .hunt ∨ (s.ch c.val).sync = .presync) → (s.ch c.val).cdr = true →
    p.diff ≤ s.fld (F.PON_SYNC_CFG_HUNT_TOL c.val) →
    (s.ch c.val).cands.all (fun k => k.expected (s.ponMode c.val) != pos) = true → 8 ≤ (s.ch c.val).cands.length →
    exec (.psyncMatch c pos p) s = .next (s.bump (C.PON_CAND_FULL c.val))) ∧
  (∀ (s : State) (c : Fin 4) (pos : Nat) (p : PSync),
    (s.nearLoop (40 + c.val) = true ∨ ((s.ch c.val).sync ≠ .hunt ∧
      (s.ch c.val).sync ≠ .presync) ∨ (s.ch c.val).cdr = false ∨ s.fld (F.PON_SYNC_CFG_HUNT_TOL c.val) < p.diff) →
    exec (.psyncMatch c pos p) s = .next (s)) ∧
  (∀ (s : State) (c : Fin 4) (pos : Nat) (k : Cand) (p : PSync) (us : Nat), (s.ch c.val).sync = .presync →
    (s.ch c.val).cands.find? (fun j => j.expected (s.ponMode c.val) == pos) = some k →
    (s.nearLoop (40 + c.val) = true ∨ s.fld (F.PON_SYNC_CFG_HUNT_TOL c.val) < p.diff) →
    s.count (C.PON_CAND_FALSE c.val) < 0xFFFFFFFE →
    Completes (.candidateCheck c pos p us) s fun t =>
      t.ch c.val = (let rest := (s.ch c.val).cands.filter (fun j => j.pos != k.pos); { s.ch c.val with cands := rest, sync := if rest.isEmpty then .hunt else .presync }) ∧
      t.count (C.PON_CAND_FALSE c.val) = s.count (C.PON_CAND_FALSE c.val) + 1 ∧
      (∀ m < 4, m ≠ c.val → t.ch m = s.ch m) ∧ OnlyChanges [.pon, .cnt] s t) ∧
  (∀ (s : State) (c : Fin 4) (pos : Nat) (k : Cand) (p : PSync) (us : Nat), s.nearLoop (40 + c.val) = false →
    (s.ch c.val).sync = .presync →
    (s.ch c.val).cands.find? (fun j => j.expected (s.ponMode c.val) == pos) = some k →
    p.diff ≤ s.fld (F.PON_SYNC_CFG_HUNT_TOL c.val) → p.hecOk = true →
    (k.hecOk = false ∨ p.sfc % 2 ^ 51 = (k.sfc + 1) % 2 ^ 51) → s.confirmCount c.val ≤ k.confirmed + 1 →
    Completes (.candidateCheck c pos p us) s fun t =>
      (t.ch c.val).sync = .sync ∧ (t.ch c.val).cands = [] ∧ (t.ch c.val).sfc = p.sfc % 2 ^ 51 ∧
      (t.ch c.val).inFrames = 1 ∧ (t.ch c.val).missRun = 0 ∧
      (t.ch c.val).psbd = (if p.ocOk then p.psbd else (s.ch c.val).psbd) ∧
      (∀ m < 4, m ≠ c.val → { t.ch m with statusQ := [] } = { s.ch m with statusQ := [] }) ∧
      RegsKeptIn [R.BOND_SAT, fun _ => R.BUF_SAT, R.PON_STAT_SAT, fun _ => R.SCH_SAT, R.TIME_PON_CFG,
        R.TIME_PON_TARGET, fun _ => R.TIME_SAT] s t ∧
      OnlyChanges [.regs, .cnt, .arb, .tick, .pon, .bonding, .buf, .sched, .time, .clsIn] s t) ∧
  (∀ (s : State) (c : Fin 4) (pos : Nat) (k : Cand) (p : PSync) (us : Nat), s.nearLoop (40 + c.val) = false →
    (s.ch c.val).sync = .presync →
    (s.ch c.val).cands.find? (fun j => j.expected (s.ponMode c.val) == pos) = some k →
    p.diff ≤ s.fld (F.PON_SYNC_CFG_HUNT_TOL c.val) → p.hecOk = true →
    (k.hecOk = false ∨ p.sfc % 2 ^ 51 = (k.sfc + 1) % 2 ^ 51) → k.confirmed + 1 < s.confirmCount c.val →
    Completes (.candidateCheck c pos p us) s fun t =>
      t.ch c.val = { s.ch c.val with cands := (s.ch c.val).cands.map (fun j => if j.pos = k.pos then ⟨pos, p.sfc % 2 ^ 51, true, k.confirmed + 1⟩ else j) } ∧
      (∀ m < 4, m ≠ c.val → t.ch m = s.ch m) ∧ OnlyChanges [.pon] s t) ∧
  (∀ (s : State) (c : Fin 4) (pos : Nat) (k : Cand) (p : PSync) (us : Nat), s.nearLoop (40 + c.val) = false →
    (s.ch c.val).sync = .presync →
    (s.ch c.val).cands.find? (fun j => j.expected (s.ponMode c.val) == pos) = some k →
    p.diff ≤ s.fld (F.PON_SYNC_CFG_HUNT_TOL c.val) →
    (p.hecOk = false ∨ (k.hecOk = true ∧ p.sfc % 2 ^ 51 ≠ (k.sfc + 1) % 2 ^ 51)) →
    Completes (.candidateCheck c pos p us) s fun t =>
      t.ch c.val = { s.ch c.val with cands := (s.ch c.val).cands.map (fun j => if j.pos = k.pos then ⟨pos, p.sfc % 2 ^ 51, p.hecOk, 0⟩ else j) } ∧
      (∀ m < 4, m ≠ c.val → t.ch m = s.ch m) ∧ OnlyChanges [.pon] s t) ∧
  (∀ (s : State) (c : Fin 4) (pos : Nat) (p : PSync) (us : Nat),
    ((s.ch c.val).sync ≠ .presync ∨ (s.ch c.val).cands.find? (fun j => j.expected (s.ponMode c.val) == pos) = none) →
    exec (.candidateCheck c pos p us) s = .next (s)) ∧
  (∀ (s : State) (c : Fin 4) (p : PSync) (mid : Bool), s.nearLoop (40 + c.val) = false → s.inSync c.val = true →
    p.diff ≤ s.fld (F.PON_SYNC_CFG_TRACK_TOL c.val) →
    Completes (.psyncCheck c p mid) s fun t =>
      (t.ch c.val).sync = .sync ∧
      (t.ch c.val).sfc = (if p.hecOk then p.sfc % 2 ^ 51 else ((s.ch c.val).sfc + 1) % 2 ^ 51) ∧
      (t.ch c.val).missRun = 0 ∧ (t.ch c.val).inFrames = min 255 ((s.ch c.val).inFrames + 1) ∧
      (t.ch c.val).psbd = (if p.ocOk then p.psbd else (s.ch c.val).psbd) ∧ (∀ m < 4, m ≠ c.val → t.ch m = s.ch m) ∧
      RegsKeptIn [R.BOND_SAT, fun _ => R.BUF_SAT, R.PON_STAT_SAT, R.PON_TC_SAT, fun _ => R.SCH_SAT, R.TIME_PON_CFG,
        R.TIME_PON_TARGET, fun _ => R.TIME_SAT] s t ∧
      OnlyChanges [.regs, .cnt, .arb, .tick, .pon, .alloc, .bonding, .buf, .sched, .time, .clsIn] s t) ∧
  (∀ (s : State) (c : Fin 4) (p : PSync) (mid : Bool), s.inSync c.val = true →
    (s.nearLoop (40 + c.val) = true ∨ s.fld (F.PON_SYNC_CFG_TRACK_TOL c.val) < p.diff) →
    (s.ch c.val).missRun + 1 < s.lossCount c.val → s.count (C.PON_PSYNC_MISS c.val) < 0xFFFFFFFE →
    Completes (.psyncCheck c p mid) s fun t =>
      (t.ch c.val).sync = .resync ∧ (t.ch c.val).sfc = ((s.ch c.val).sfc + 1) % 2 ^ 51 ∧
      (t.ch c.val).missRun = (s.ch c.val).missRun + 1 ∧
      t.count (C.PON_PSYNC_MISS c.val) = s.count (C.PON_PSYNC_MISS c.val) + 1 ∧
      (∀ m < 4, m ≠ c.val → t.ch m = s.ch m) ∧
      RegsKeptIn [R.BOND_SAT, fun _ => R.BUF_SAT, R.PON_STAT_SAT, R.PON_TC_SAT, fun _ => R.SCH_SAT, R.TIME_PON_CFG,
        R.TIME_PON_TARGET, fun _ => R.TIME_SAT] s t ∧
      OnlyChanges [.regs, .cnt, .arb, .tick, .pon, .alloc, .bonding, .buf, .sched, .time, .clsIn] s t) ∧
  (∀ (s : State) (c : Fin 4) (p : PSync) (mid : Bool), s.inSync c.val = true →
    (s.nearLoop (40 + c.val) = true ∨ s.fld (F.PON_SYNC_CFG_TRACK_TOL c.val) < p.diff) →
    s.lossCount c.val ≤ (s.ch c.val).missRun + 1 →
    Completes (.psyncCheck c p mid) s fun t =>
      (t.ch c.val).sync = .hunt ∧ (t.ch c.val).bursts = (s.ch c.val).airBursts ∧ (t.ch c.val).partials = [] ∧
      ((s.ch c.val).act = .o5 → (t.ch c.val).act = .o6) ∧
      (∀ m < 4, m ≠ c.val → { t.ch m with statusQ := [] } = { s.ch m with statusQ := [] }) ∧
      RegsKeptIn [R.BOND_SAT, fun _ => R.BUF_SAT, R.PON_STAT_SAT, R.PON_TC_SAT, fun _ => R.SCH_SAT, R.TIME_PON_CFG,
        R.TIME_PON_TARGET, fun _ => R.TIME_SAT] s t ∧
      OnlyChanges [.regs, .cnt, .arb, .tick, .pon, .alloc, .bonding, .buf, .sched, .time, .clsIn] s t) ∧
  (∀ (s : State) (c : Fin 4) (p : PSync) (mid : Bool), s.inSync c.val = false →
    exec (.psyncCheck c p mid) s = .next (s))

/-- FEC_CODEWORD, FEC_ES_INTERVAL, PON_STAT_SNAP, PON_STAT_INTERVAL_COPY (R85, R86, R88, R90). -/
def Obligations.FecAndStatisticsCount : Prop :=
  (∀ (s : State) (c : Fin 4) (ch : Nat), s.inSync c.val = true → s.count (C.PON_FEC_UNCORR_CW c.val) < 0xFFFFFFFE →
    Completes (.fecCodeword c none ch) s fun t =>
      t.count (C.PON_FEC_CW c.val) = (s.count (C.PON_FEC_CW c.val) + 1) % 2 ^ 64 ∧
      t.count (C.PON_FEC_UNCORR_CW c.val) = s.count (C.PON_FEC_UNCORR_CW c.val) + 1 ∧
      t.ch c.val = { s.ch c.val with badInSecond := true } ∧ (∀ m < 4, m ≠ c.val → t.ch m = s.ch m) ∧
      OnlyChanges [.pon, .cnt] s t) ∧
  (∀ (s : State) (c : Fin 4) (k ch : Nat), s.inSync c.val = true →
    (if s.ponMode c.val = 0 then s.maxIter c.val < k else 8 < k) →
    s.count (C.PON_FEC_UNCORR_CW c.val) < 0xFFFFFFFE →
    Completes (.fecCodeword c (some k) ch) s fun t =>
      t.count (C.PON_FEC_CW c.val) = (s.count (C.PON_FEC_CW c.val) + 1) % 2 ^ 64 ∧
      t.count (C.PON_FEC_UNCORR_CW c.val) = s.count (C.PON_FEC_UNCORR_CW c.val) + 1 ∧
      t.ch c.val = { s.ch c.val with badInSecond := true } ∧ (∀ m < 4, m ≠ c.val → t.ch m = s.ch m) ∧
      OnlyChanges [.pon, .cnt] s t) ∧
  (∀ (s : State) (c : Fin 4) (k ch : Nat), s.inSync c.val = true →
    (if s.ponMode c.val = 0 then k ≤ s.maxIter c.val else k ≤ 8) → 0 < ch →
    s.count (C.PON_FEC_CORR_CW c.val) < 0xFFFFFFFE → s.count (C.PON_FEC_CORR_BYTES c.val) + ch < 0xFFFFFFFF →
    Completes (.fecCodeword c (some k) ch) s fun t =>
      t.count (C.PON_FEC_CW c.val) = (s.count (C.PON_FEC_CW c.val) + 1) % 2 ^ 64 ∧
      t.count (C.PON_FEC_CORR_CW c.val) = s.count (C.PON_FEC_CORR_CW c.val) + 1 ∧
      t.count (C.PON_FEC_CORR_BYTES c.val) = s.count (C.PON_FEC_CORR_BYTES c.val) + ch ∧
      t.count (C.PON_FEC_UNCORR_CW c.val) = s.count (C.PON_FEC_UNCORR_CW c.val) ∧ OnlyChanges [.cnt] s t) ∧
  (∀ (s : State) (c : Fin 4) (k : Nat), s.inSync c.val = true →
    (if s.ponMode c.val = 0 then k ≤ s.maxIter c.val else k ≤ 8) →
    exec (.fecCodeword c (some k) 0) s = .next (s.bump (C.PON_FEC_CW c.val))) ∧
  (∀ (s : State) (c : Fin 4) (found : Option Nat) (ch : Nat), s.inSync c.val = false →
    exec (.fecCodeword c found ch) s = .next (s)) ∧
  (∀ (s : State) (c : Fin 4), s.tick.count.toNat % 48000 = 0 → (s.ch c.val).badInSecond = true →
    s.count (C.PON_FEC_ES c.val) < 0xFFFFFFFE →
    Completes (.fecEsInterval c) s fun t =>
      t.count (C.PON_FEC_ES c.val) = s.count (C.PON_FEC_ES c.val) + 1 ∧
      t.ch c.val = { s.ch c.val with badInSecond := false } ∧ (∀ m < 4, m ≠ c.val → t.ch m = s.ch m) ∧
      OnlyChanges [.pon, .cnt] s t) ∧
  (∀ (s : State) (c : Fin 4), (s.tick.count.toNat % 48000 ≠ 0 ∨ (s.ch c.val).badInSecond = false) →
    exec (.fecEsInterval c) s = .next (s)) ∧
  (∀ (s : State) (c : Fin 4),
    Completes (.ponStatSnap c) s fun t =>
      (∀ x ∈ ponCtrs c.val ++ tcCtrs c.val ++ usCtrs c.val, t.bankAt x.off = s.count x % 2 ^ 32) ∧
      (∀ x ∈ ponCtrs c.val ++ tcCtrs c.val ++ usCtrs c.val, x.wide = true →
        t.bankAt (x.off + 4) = s.count x / 2 ^ 32 % 2 ^ 32 ∨ 2 ^ 64 ≤ s.count x) ∧
      OnlyChanges [.bank] s t) ∧
  (∀ (s : State) (c : Fin 4), s.fld (F.PON_STAT_CTL_PERIOD c.val) ≠ 0 →
    s.tick.count.toNat % (s.fld (F.PON_STAT_CTL_PERIOD c.val) * 48000) = 0 →
    Completes (.ponStatIntervalCopy c) s fun t =>
      (∀ x ∈ ponCtrs c.val, t.bankAt (x.off + 0x80) = s.count x % 2 ^ 32) ∧
      (∀ x ∈ tcCtrs c.val ++ usCtrs c.val, t.bankAt (x.off + 0x40) = s.count x % 2 ^ 32) ∧
      (∀ x ∈ ponCtrs c.val, t.bankAt x.off = s.bankAt x.off) ∧ OnlyChanges [.bank] s t) ∧
  (∀ (s : State) (c : Fin 4),
    (s.fld (F.PON_STAT_CTL_PERIOD c.val) = 0 ∨
      s.tick.count.toNat % (s.fld (F.PON_STAT_CTL_PERIOD c.val) * 48000) ≠ 0) →
    exec (.ponStatIntervalCopy c) s = .next (s))

/-- BURST_PROFILE, ASSIGN_ONU_ID, RANGING_TIME, DEACTIVATE_ONU_ID, DISABLE_SERIAL_NUMBER, ENABLE_SERIAL_NUMBER
(R99, R104, R108, R110 to R120). -/
def Obligations.ActivationFollowsTheDownstreamMessages : Prop :=
  (∀ (s : State) (m : Ploam) (p : Profile), Heard m s → (upRates (s.ponMode m.ch.val)).contains p.rateKbps = true →
    Completes (.burstProfile m p) s fun t =>
      (t.ch m.ch.val).profiles = (s.ch m.ch.val).profiles.filter (fun q => q.index != p.index) ++ [p] ∧
      (t.ch m.ch.val).act = (if (s.ch m.ch.val).act = .o12 ∧
        s.flag (F.PON_TC_CFG_ACT_HOLD m.ch.val) = false then .o23 else (s.ch m.ch.val).act) ∧
      (∀ k < 4, k ≠ m.ch.val → { t.ch k with statusQ := [] } = { s.ch k with statusQ := [] }) ∧
      RegsKeptIn [R.BOND_SAT, fun _ => R.BUF_SAT, fun _ => R.MEM_DDR_SAT, fun _ => R.MEM_SAT, R.MEM_UE_LOG_B,
        R.PON_TC_SAT, fun _ => R.SCH_SAT] s t ∧
      OnlyChanges [.regs, .cnt, .arb, .pon, .bonding, .buf, .sched, .clsIn, .mem, .ciph] s t) ∧
  (∀ (s : State) (m : Ploam) (p : Profile), Heard m s → (upRates (s.ponMode m.ch.val)).contains p.rateKbps = false →
    Completes (.burstProfile m p) s fun t =>
      (t.ch m.ch.val).profiles = (s.ch m.ch.val).profiles ∧ (t.ch m.ch.val).act = (s.ch m.ch.val).act ∧
      (∀ k < 4, k ≠ m.ch.val → { t.ch k with statusQ := [] } = { s.ch k with statusQ := [] }) ∧
      RegsKeptIn [R.BOND_SAT, fun _ => R.BUF_SAT, fun _ => R.MEM_DDR_SAT, fun _ => R.MEM_SAT, R.MEM_UE_LOG_B,
        R.PON_TC_SAT, fun _ => R.SCH_SAT] s t ∧
      OnlyChanges [.regs, .cnt, .arb, .pon, .bonding, .buf, .sched, .clsIn, .mem, .ciph] s t) ∧
  (∀ (s : State) (m : Ploam) (id : BitVec 10) (i : Nat), Heard m s → (s.ch m.ch.val).act = .o23 →
    s.freeEntry = some i →
    Completes (.assignOnuId m (serialOf m.ch.val) id) s fun t =>
      (t.ch m.ch.val).onuId = some id.toNat ∧ (t.ch m.ch.val).act = .o4 ∧ (t.allocAt i).state = 3 ∧
      (t.allocAt i).allocId = id.toNat ∧ (t.allocAt i).channel = m.ch.val ∧
      (∀ j < 256, j ≠ i → t.allocAt j = s.allocAt j) ∧
      (∀ k < 4, k ≠ m.ch.val → { t.ch k with statusQ := [] } = { s.ch k with statusQ := [] }) ∧
      RegsKeptIn [R.BOND_SAT, fun _ => R.BUF_SAT, fun _ => R.MEM_DDR_SAT, fun _ => R.MEM_SAT, R.MEM_UE_LOG_B,
        R.PON_TC_SAT, fun _ => R.SCH_SAT] s t ∧
      OnlyChanges [.regs, .cnt, .arb, .pon, .alloc, .bonding, .buf, .sched, .clsIn, .mem, .ciph] s t) ∧
  (∀ (s : State) (m : Ploam) (sn : BitVec 64) (id : BitVec 10), Heard m s → (s.ch m.ch.val).act ≠ .o23 →
    exec (.assignOnuId m sn id) s = .next (s)) ∧
  (∀ (s : State) (m : Ploam) (v : Int), Heard m s → ((s.ch m.ch.val).act = .o4 ∨ (s.ch m.ch.val).act = .o5) →
    Completes (.rangingTime m false v) s fun t =>
      (t.ch m.ch.val).act = .o5 ∧
      (t.ch m.ch.val).eqdNext = (s.ch m.ch.val).eqdNext ++ [(wrapSigned (2 ^ 31) v, (m.sfc + 2) % 2 ^ 51)] ∧
      (t.ch m.ch.val).eqd = (s.ch m.ch.val).eqd ∧ (t.ch m.ch.val).ploamUp = (s.ch m.ch.val).ploamUp ++ ackOf m 0 ∧
      (∀ k < 4, k ≠ m.ch.val → { t.ch k with statusQ := [] } = { s.ch k with statusQ := [] }) ∧
      RegsKeptIn [R.BOND_SAT, fun _ => R.BUF_SAT, fun _ => R.MEM_DDR_SAT, fun _ => R.MEM_SAT, R.MEM_UE_LOG_B,
        R.PON_TC_SAT, fun _ => R.SCH_SAT] s t ∧
      OnlyChanges [.regs, .cnt, .arb, .pon, .bonding, .buf, .sched, .clsIn, .mem, .ciph] s t) ∧
  (∀ (s : State) (m : Ploam) (v latest : Int), Heard m s → ((s.ch m.ch.val).act = .o4 ∨ (s.ch m.ch.val).act = .o5) →
    latest = (((s.ch m.ch.val).eqdNext.getLast?).map (·.1)).getD (s.ch m.ch.val).eqd →
    Completes (.rangingTime m true v) s fun t =>
      (t.ch m.ch.val).act = .o5 ∧
      (t.ch m.ch.val).eqdNext = (s.ch m.ch.val).eqdNext ++ [(wrapSigned (2 ^ 31) (latest + v),
        (m.sfc + 2) % 2 ^ 51)] ∧
      (t.ch m.ch.val).eqd = (s.ch m.ch.val).eqd ∧ (t.ch m.ch.val).ploamUp = (s.ch m.ch.val).ploamUp ++ ackOf m 0 ∧
      (∀ k < 4, k ≠ m.ch.val → { t.ch k with statusQ := [] } = { s.ch k with statusQ := [] }) ∧
      RegsKeptIn [R.BOND_SAT, fun _ => R.BUF_SAT, fun _ => R.MEM_DDR_SAT, fun _ => R.MEM_SAT, R.MEM_UE_LOG_B,
        R.PON_TC_SAT, fun _ => R.SCH_SAT] s t ∧
      OnlyChanges [.regs, .cnt, .arb, .pon, .bonding, .buf, .sched, .clsIn, .mem, .ciph] s t) ∧
  (∀ (s : State) (m : Ploam) (relative : Bool) (v : Int), Heard m s → (s.ch m.ch.val).act ≠ .o4 →
    (s.ch m.ch.val).act ≠ .o5 →
    exec (.rangingTime m relative v) s = .next (s)) ∧
  (∀ (s : State) (m : Ploam), Heard m s → (s.ch m.ch.val).act ≠ .o7 →
    Completes (.deactivateOnuId m) s fun t =>
      (t.ch m.ch.val).onuId = none ∧ (t.ch m.ch.val).eqd = 0 ∧ (t.ch m.ch.val).bursts = (s.ch m.ch.val).airBursts ∧
      (t.ch m.ch.val).lull = .awake ∧ t.allocsOf m.ch.val = [] ∧ (∀ i < 4, (t.slot (8 * m.ch.val + i)).state = 0) ∧
      t.flag (F.PON_TC_CFG_ACT_HOLD m.ch.val) =
        (s.flag (F.PON_TC_CFG_HOLD_ON_DEACT m.ch.val) || s.flag (F.PON_TC_CFG_ACT_HOLD m.ch.val)) ∧
      (t.ch m.ch.val).act = (if (s.ch m.ch.val).profiles ≠ [] ∧
        t.flag (F.PON_TC_CFG_ACT_HOLD m.ch.val) = false then .o23 else .o12) ∧
      (∀ k < 4, k ≠ m.ch.val → { t.ch k with statusQ := [] } = { s.ch k with statusQ := [] }) ∧
      RegsKeptIn [R.BOND_SAT, fun _ => R.BUF_SAT, R.ETH_SAT, fun _ => R.MEM_DDR_SAT, fun _ => R.MEM_SAT,
        R.MEM_UE_LOG_B, R.PON_STAT_SAT, R.PON_TC_CFG, R.PON_TC_SAT, fun _ => R.SCH_SAT, R.SVL_SAT] s t ∧
      OnlyChanges [.freeCtr, .regs, .cnt, .arb, .fns, .pon, .alloc, .bonding, .buf, .sched, .clsIn, .svl, .mac,
        .lanes, .mem, .ciph] s t) ∧
  (∀ (s : State) (m : Ploam), Heard m s → (s.ch m.ch.val).act = .o7 →
    exec (.deactivateOnuId m) s = .next (s)) ∧
  (∀ (s : State) (m : Ploam), Heard m s →
    Completes (.disableSerialNumber m (serialOf m.ch.val)) s fun t =>
      (t.ch m.ch.val).act = .o7 ∧ (t.ch m.ch.val).o7 = true ∧ (t.ch m.ch.val).txDis = true ∧
      (t.ch m.ch.val).txPowered = false ∧ (t.ch m.ch.val).txWaking = false ∧ (t.ch m.ch.val).bursts = [] ∧
      .pin "TX_DIS" m.ch.val true ∈ t.out ∧ t.jrn.core.o7.testBit m.ch.val = true ∧
      (∀ k < 4, k ≠ m.ch.val → { t.ch k with statusQ := [] } = { s.ch k with statusQ := [] }) ∧
      RegsKeptIn [R.BOND_SAT, fun _ => R.BUF_SAT, R.ETH_SAT, fun _ => R.MEM_DDR_SAT, fun _ => R.MEM_SAT,
        R.MEM_UE_LOG_B, R.PON_STAT_SAT, R.PON_TC_SAT, fun _ => R.SCH_SAT, R.SVL_SAT] s t ∧
      OnlyChanges [.pending, .out, .freeCtr, .regs, .cnt, .arb, .fns, .pon, .bonding, .buf, .sched, .clsIn, .svl,
        .mac, .lanes, .mem, .ciph, .jrn] s t) ∧
  (∀ (s : State) (m : Ploam) (sn : BitVec 64) (id : BitVec 10), Heard m s → sn ≠ serialOf m.ch.val →
    (exec (.assignOnuId m sn id) s = .next s ∧ exec (.disableSerialNumber m sn) s = .next s ∧
      exec (.enableSerialNumber m sn) s = .next s)) ∧
  (∀ (s : State) (m : Ploam), Heard m s → (s.ch m.ch.val).act = .o7 →
    Completes (.enableSerialNumber m (serialOf m.ch.val)) s fun t =>
      (t.ch m.ch.val).act = (if (s.ch m.ch.val).profiles ≠ [] ∧
        s.flag (F.PON_TC_CFG_ACT_HOLD m.ch.val) = false then .o23 else .o12) ∧
      (t.ch m.ch.val).onuId = none ∧ (t.ch m.ch.val).o7 = false ∧
      (t.ch m.ch.val).txDis = !s.flag (F.PON_RX_CFG_ENABLE m.ch.val) ∧ t.jrn.core.o7.testBit m.ch.val = false ∧
      (∀ k < 4, k ≠ m.ch.val → { t.ch k with statusQ := [] } = { s.ch k with statusQ := [] }) ∧
      RegsKeptIn [R.BOND_SAT, fun _ => R.BUF_SAT, R.ETH_SAT, fun _ => R.MEM_DDR_SAT, fun _ => R.MEM_SAT,
        R.MEM_UE_LOG_B, R.PON_STAT_SAT, R.PON_TC_SAT, fun _ => R.SCH_SAT, R.SVL_SAT] s t ∧
      OnlyChanges [.pending, .out, .freeCtr, .regs, .cnt, .arb, .fns, .pon, .alloc, .bonding, .buf, .sched, .clsIn,
        .svl, .mac, .lanes, .mem, .ciph, .jrn] s t) ∧
  (∀ (s : State) (m : Ploam), Heard m s → (s.ch m.ch.val).act ≠ .o7 →
    exec (.enableSerialNumber m (serialOf m.ch.val)) s = .next (s))

/-- REQUEST_REGISTRATION, ASSIGN_ALLOC_ID, KEY_CONTROL, SLEEP_ALLOW, PLOAM_UNSUPPORTED (R102, R115, R116, R122,
R131, R134, R137), and what R114 and R125 say of a message of any type. -/
def Obligations.OtherDownstreamMessagesAreAnswered : Prop :=
  (∀ (s : State) (i : Instr) (m : Ploam), ploamOf i = some m →
    (s.inSync m.ch.val = false ∨ s.nearLoop (40 + m.ch.val) = true) →
    exec i s = .next s) ∧
  (∀ (s : State) (i : Instr) (m : Ploam), ploamOf i = some m → s.inSync m.ch.val = true →
    s.nearLoop (40 + m.ch.val) = false → m.partBad = false → m.bad = true →
    exec i s = .next (s.bump (C.TC_HDR_DISCARD m.ch.val))) ∧
  (∀ (s : State) (i : Instr) (m : Ploam), ploamOf i = some m → s.inSync m.ch.val = true →
    s.nearLoop (40 + m.ch.val) = false → m.partBad = true → m.bad = false →
    exec i s = .next (if (s.ch m.ch.val).badPart = some m.sfc then s
      else (s.setCh m.ch.val { s.ch m.ch.val with badPart := some m.sfc }).bump (C.TC_HDR_DISCARD m.ch.val))) ∧
  (∀ (s : State) (i : Instr) (m : Ploam), ploamOf i = some m → s.inSync m.ch.val = true →
    s.nearLoop (40 + m.ch.val) = false → m.partBad = false → m.bad = false →
    (m.micFail = true ∨ (s.slot (8 * m.ch.val + 4)).state = 3) → (s.readKey (8 * m.ch.val + 4)).1 = s →
    exec i s = .next ((s.bump (C.TC_HDR_DISCARD m.ch.val)).bump (C.TC_PLOAM_MIC_ERR m.ch.val))) ∧
  (∀ (s : State) (i : Instr) (m : Ploam), ploamOf i = some m → s.inSync m.ch.val = true →
    s.nearLoop (40 + m.ch.val) = false → m.partBad = false → m.bad = false → m.micFail = false →
    (s.slot (8 * m.ch.val + 4)).state ≠ 3 → (s.readKey (8 * m.ch.val + 4)).1 = s → m.onu.isSome = true →
    m.onu ≠ (s.ch m.ch.val).onuId →
    exec i s = .next s) ∧
  (∀ (s : State) (i : Instr) (m : Ploam), ploamOf i = some m → s.inSync m.ch.val = true →
    s.nearLoop (40 + m.ch.val) = false → m.partBad = false → m.bad = false → m.micFail = false →
    (s.slot (8 * m.ch.val + 4)).state ≠ 3 → (s.readKey (8 * m.ch.val + 4)).1 = s → m.onu.isSome = true →
    m.onu = (s.ch m.ch.val).onuId → (s.ch m.ch.val).lastSeq = some m.seq.toNat →
    exec i s = .next (s.sendAll m.ch.val (s.ch m.ch.val).lastAck)) ∧
  (∀ (s : State) (i : Instr) (m : Ploam) (x : State), ploamOf i = some m → s.inSync m.ch.val = true →
    s.nearLoop (40 + m.ch.val) = false → m.partBad = false → m.bad = false → (s.readKey (8 * m.ch.val + 4)).1 = x →
    (x.readKey (8 * m.ch.val + 4)).1 = x →
    exec i s = exec i x) ∧
  (∀ (s : State) (m : Ploam), Heard m s →
    Completes (.requestRegistration m) s fun t =>
      (t.ch m.ch.val).ploamUp = (s.ch m.ch.val).ploamUp ++
        [{ kind := 1, args := [m.seq.toNat], body := (s.ch m.ch.val).regId }] ∧
      (t.ch m.ch.val).act = (s.ch m.ch.val).act ∧ (∀ k < 4, k ≠ m.ch.val → t.ch k = s.ch k) ∧
      RegsKeptIn [fun _ => R.BUF_SAT, fun _ => R.MEM_DDR_SAT, fun _ => R.MEM_SAT, R.MEM_UE_LOG_B, R.PON_TC_SAT] s t ∧
      OnlyChanges [.regs, .cnt, .arb, .pon, .buf, .sched, .mem, .ciph] s t) ∧
  (∀ (s : State) (m : Ploam) (alloc : BitVec 14) (i : Nat), Heard m s → (s.allocsOf m.ch.val).length < 64 →
    (s.allocsOf m.ch.val).all (fun j => (s.allocAt j).allocId != alloc.toNat) = true → s.freeEntry = some i →
    Completes (.assignAllocId m alloc false) s fun t =>
      (t.allocAt i).allocId = alloc.toNat ∧ (t.allocAt i).channel = m.ch.val ∧ (t.allocAt i).state = 1 ∧
      (∀ j < 256, j ≠ i → t.allocAt j = s.allocAt j) ∧
      (t.ch m.ch.val).ploamUp = (s.ch m.ch.val).ploamUp ++ ackOf m 0 ∧
      RegsKeptIn [fun _ => R.BUF_SAT, fun _ => R.MEM_DDR_SAT, fun _ => R.MEM_SAT, R.MEM_UE_LOG_B, R.PON_TC_SAT] s t ∧
      OnlyChanges [.regs, .cnt, .arb, .pon, .alloc, .buf, .sched, .mem, .ciph] s t) ∧
  (∀ (s : State) (m : Ploam) (alloc : BitVec 14), Heard m s → 64 ≤ (s.allocsOf m.ch.val).length →
    (s.allocsOf m.ch.val).all (fun j => (s.allocAt j).allocId != alloc.toNat) = true →
    s.count (C.TC_ALLOC_REFUSED m.ch.val) < 0xFFFFFFFE →
    Completes (.assignAllocId m alloc false) s fun t =>
      t.alloc = s.alloc ∧ t.count (C.TC_ALLOC_REFUSED m.ch.val) = s.count (C.TC_ALLOC_REFUSED m.ch.val) + 1 ∧
      (t.ch m.ch.val).ploamUp = (s.ch m.ch.val).ploamUp ++ ackOf m 1 ∧
      RegsKeptIn [fun _ => R.BUF_SAT, fun _ => R.MEM_DDR_SAT, fun _ => R.MEM_SAT, R.MEM_UE_LOG_B, R.PON_TC_SAT] s t ∧
      OnlyChanges [.regs, .cnt, .arb, .pon, .alloc, .buf, .sched, .mem, .ciph] s t) ∧
  (∀ (s : State) (m : Ploam) (alloc : BitVec 14) (i : Nat), Heard m s →
    (s.allocsOf m.ch.val).find? (fun j => (s.allocAt j).allocId == alloc.toNat) = some i →
    Completes (.assignAllocId m alloc true) s fun t =>
      (t.allocAt i).state = 0 ∧ (∀ j < 256, j ≠ i → t.allocAt j = s.allocAt j) ∧
      (t.ch m.ch.val).ploamUp = (s.ch m.ch.val).ploamUp ++ ackOf m 0 ∧
      RegsKeptIn [fun _ => R.BUF_SAT, fun _ => R.MEM_DDR_SAT, fun _ => R.MEM_SAT, R.MEM_UE_LOG_B, R.PON_TC_SAT] s t ∧
      OnlyChanges [.regs, .cnt, .arb, .pon, .alloc, .buf, .sched, .mem, .ciph] s t) ∧
  (∀ (s : State) (m : Ploam) (alloc : BitVec 14) (dealloc : Bool), Heard m s →
    ((s.allocsOf m.ch.val).find? (fun j => (s.allocAt j).allocId == alloc.toNat)).isSome = !dealloc →
    Completes (.assignAllocId m alloc dealloc) s fun t =>
      t.alloc = s.alloc ∧ (t.ch m.ch.val).ploamUp = (s.ch m.ch.val).ploamUp ++ ackOf m 0 ∧
      RegsKeptIn [fun _ => R.BUF_SAT, fun _ => R.MEM_DDR_SAT, fun _ => R.MEM_SAT, R.MEM_UE_LOG_B, R.PON_TC_SAT] s t ∧
      OnlyChanges [.regs, .cnt, .arb, .pon, .alloc, .buf, .sched, .mem, .ciph] s t) ∧
  (∀ (s : State) (m : Ploam) (idx : Fin 2) (key : BitVec 128), Heard m s → s.ciph.entropyFail = false →
    Completes (.keyControl m idx key) s fun t =>
      t.slot (dataSlot m.ch.val (idx.val + 1) false) = { state := 1, len := 0, usage := 0, counter := 0 } ∧
      (t.ch m.ch.val).ploamUp = (s.ch m.ch.val).ploamUp ++
        [{ kind := 2, args := [idx.val + 1], body := (aesEnc (s.chKey m.ch.val 2).2 (keyOf key)).map (BitVec.ofNat 8) }] ∧
      (t.ch m.ch.val).lull = .awake ∧
      (∀ k < 4, k ≠ m.ch.val → { t.ch k with statusQ := [] } = { s.ch k with statusQ := [] }) ∧
      RegsKeptIn [R.BOND_SAT, fun _ => R.BUF_SAT, R.ETH_SAT, fun _ => R.MEM_DDR_SAT, fun _ => R.MEM_INJ,
        fun _ => R.MEM_SAT, R.MEM_UE_LOG_B, R.PON_STAT_SAT, R.PON_TC_SAT, fun _ => R.SCH_SAT, R.SVL_SAT] s t ∧
      OnlyChanges [.freeCtr, .regs, .cnt, .arb, .fns, .pon, .bonding, .buf, .sched, .clsIn, .svl, .mac, .lanes,
        .mem, .ciph] s t) ∧
  (∀ (s : State) (m : Ploam) (idx : Fin 2) (key : BitVec 128), Heard m s → s.ciph.entropyFail = true →
    Completes (.keyControl m idx key) s fun t =>
      (∀ k < 32, t.slot k = s.slot k) ∧ (t.ch m.ch.val).ploamUp = (s.ch m.ch.val).ploamUp ∧
      (t.ch m.ch.val).lull = (s.ch m.ch.val).lull ∧
      RegsKeptIn [R.BOND_SAT, fun _ => R.BUF_SAT, R.ETH_SAT, fun _ => R.MEM_DDR_SAT, fun _ => R.MEM_INJ,
        fun _ => R.MEM_SAT, R.MEM_UE_LOG_B, R.PON_STAT_SAT, R.PON_TC_SAT, fun _ => R.SCH_SAT, R.SVL_SAT] s t ∧
      OnlyChanges [.freeCtr, .regs, .cnt, .arb, .fns, .pon, .bonding, .buf, .sched, .clsIn, .svl, .mac, .lanes,
        .mem, .ciph] s t) ∧
  (∀ (s : State) (m : Ploam), Heard m s →
    Completes (.sleepAllow m false) s fun t =>
      (t.ch m.ch.val).sleepAllowed = false ∧ (t.ch m.ch.val).lull = .awake ∧
      (t.ch m.ch.val).ploamUp = (s.ch m.ch.val).ploamUp ++ ackOf m 0 ∧
      (∀ k < 4, k ≠ m.ch.val → { t.ch k with statusQ := [] } = { s.ch k with statusQ := [] }) ∧
      RegsKeptIn [R.BOND_SAT, fun _ => R.BUF_SAT, R.ETH_SAT, fun _ => R.MEM_DDR_SAT, fun _ => R.MEM_SAT,
        R.MEM_UE_LOG_B, R.PON_STAT_SAT, R.PON_TC_SAT, fun _ => R.SCH_SAT, R.SVL_SAT] s t ∧
      OnlyChanges [.freeCtr, .regs, .cnt, .arb, .fns, .pon, .bonding, .buf, .sched, .clsIn, .svl, .mac, .lanes,
        .mem, .ciph] s t) ∧
  (∀ (s : State) (m : Ploam) (l : Lull), Heard m s → (s.ch m.ch.val).lullPolicy ≠ 0 → (s.ch m.ch.val).act = .o5 →
    (s.ch m.ch.val).lull = .awake →
    l = (if (s.ch m.ch.val).lullPolicy = 2 ∧ s.isMaster m.ch.val = false then .watchful else .doze : Lull) →
    Completes (.sleepAllow m true) s fun t =>
      (t.ch m.ch.val).sleepAllowed = true ∧ (t.ch m.ch.val).lull = l ∧ (t.ch m.ch.val).sleepDue = true ∧
      (t.ch m.ch.val).txPowered = (s.ch m.ch.val).txPowered ∧
      (t.ch m.ch.val).ploamUp = (s.ch m.ch.val).ploamUp ++ ackOf m 0 ++ [{ kind := 3, args := [l.code] }] ∧
      (∀ k < 4, k ≠ m.ch.val → { t.ch k with statusQ := [] } = { s.ch k with statusQ := [] }) ∧
      RegsKeptIn [R.BOND_SAT, fun _ => R.BUF_SAT, R.ETH_SAT, fun _ => R.MEM_DDR_SAT, fun _ => R.MEM_SAT,
        R.MEM_UE_LOG_B, R.PON_STAT_SAT, R.PON_TC_SAT, fun _ => R.SCH_SAT, R.SVL_SAT] s t ∧
      OnlyChanges [.freeCtr, .regs, .cnt, .arb, .fns, .pon, .bonding, .buf, .sched, .clsIn, .svl, .mac, .lanes,
        .mem, .ciph] s t) ∧
  (∀ (s : State) (m : Ploam), Heard m s →
    ((s.ch m.ch.val).lullPolicy = 0 ∨ (s.ch m.ch.val).act ≠ .o5 ∨ (s.ch m.ch.val).lull ≠ .awake) →
    Completes (.sleepAllow m true) s fun t =>
      (t.ch m.ch.val).sleepAllowed = true ∧ (t.ch m.ch.val).lull = (s.ch m.ch.val).lull ∧
      (t.ch m.ch.val).ploamUp = (s.ch m.ch.val).ploamUp ++ ackOf m 0 ∧
      (∀ k < 4, k ≠ m.ch.val → { t.ch k with statusQ := [] } = { s.ch k with statusQ := [] }) ∧
      RegsKeptIn [R.BOND_SAT, fun _ => R.BUF_SAT, R.ETH_SAT, fun _ => R.MEM_DDR_SAT, fun _ => R.MEM_SAT,
        R.MEM_UE_LOG_B, R.PON_STAT_SAT, R.PON_TC_SAT, fun _ => R.SCH_SAT, R.SVL_SAT] s t ∧
      OnlyChanges [.freeCtr, .regs, .cnt, .arb, .fns, .pon, .bonding, .buf, .sched, .clsIn, .svl, .mac, .lanes,
        .mem, .ciph] s t) ∧
  (∀ (s : State) (m : Ploam) (answer : Bool), Heard m s → s.count (C.TC_PLOAM_UNSUP m.ch.val) < 0xFFFFFFFE →
    Completes (.ploamUnsupported m answer) s fun t =>
      t.count (C.TC_PLOAM_UNSUP m.ch.val) = s.count (C.TC_PLOAM_UNSUP m.ch.val) + 1 ∧
      (t.ch m.ch.val).ploamUp = (s.ch m.ch.val).ploamUp ++ (if answer
        then [{ kind := 0, args := [m.seq.toNat, 2] }] else []) ∧
      (t.ch m.ch.val).act = (s.ch m.ch.val).act ∧
      RegsKeptIn [fun _ => R.BUF_SAT, fun _ => R.MEM_DDR_SAT, fun _ => R.MEM_SAT, R.MEM_UE_LOG_B, R.PON_TC_SAT] s t ∧
      OnlyChanges [.regs, .cnt, .arb, .fns, .pon, .buf, .sched, .mem, .ciph] s t)

/-- TO1_EXPIRY, TO2_EXPIRY, SN_RESPONSE_SEND, RANGING_RESPONSE_SEND, ACT_HOLD_CLEAR, FORCED_WAKEUP, TX_POWER_UP,
AWARE_INTERVAL_START, LOW_POWER_INTERVAL_START. -/
def Obligations.ActivationTimersResponsesAndSleep : Prop :=
  (∀ (s : State) (c : Fin 4), ((s.ch c.val).act = .o23 ∨ (s.ch c.val).act = .o4) →
    Completes (.to1Expiry c) s fun t =>
      (t.ch c.val).onuId = none ∧ (t.ch c.val).lull = .awake ∧
      (t.ch c.val).act = (if s.inSync c.val then if (s.ch c.val).profiles ≠ [] ∧
        s.flag (F.PON_TC_CFG_ACT_HOLD c.val) = false then .o23 else .o12 else .o11) ∧
      (∀ m < 4, m ≠ c.val → { t.ch m with statusQ := [] } = { s.ch m with statusQ := [] }) ∧
      RegsKeptIn [R.BOND_SAT, fun _ => R.BUF_SAT, R.ETH_SAT, R.PON_STAT_SAT, fun _ => R.SCH_SAT, R.SVL_SAT] s t ∧
      OnlyChanges [.freeCtr, .regs, .cnt, .arb, .fns, .pon, .alloc, .bonding, .buf, .sched, .clsIn, .svl, .mac,
        .lanes] s t) ∧
  (∀ (s : State) (c : Fin 4), (s.ch c.val).act ≠ .o23 → (s.ch c.val).act ≠ .o4 →
    exec (.to1Expiry c) s = .next (s)) ∧
  (∀ (s : State) (c : Fin 4), (s.ch c.val).act = .o6 →
    Completes (.to2Expiry c) s fun t =>
      (t.ch c.val).onuId = none ∧ (t.ch c.val).lull = .awake ∧
      (t.ch c.val).act = (if s.inSync c.val then if (s.ch c.val).profiles ≠ [] ∧
        s.flag (F.PON_TC_CFG_ACT_HOLD c.val) = false then .o23 else .o12 else .o11) ∧
      (∀ m < 4, m ≠ c.val → { t.ch m with statusQ := [] } = { s.ch m with statusQ := [] }) ∧
      RegsKeptIn [R.BOND_SAT, fun _ => R.BUF_SAT, R.ETH_SAT, R.PON_STAT_SAT, fun _ => R.SCH_SAT, R.SVL_SAT] s t ∧
      OnlyChanges [.freeCtr, .regs, .cnt, .arb, .fns, .pon, .alloc, .bonding, .buf, .sched, .clsIn, .svl, .mac,
        .lanes] s t) ∧
  (∀ (s : State) (c : Fin 4), (s.ch c.val).act ≠ .o6 →
    exec (.to2Expiry c) s = .next (s)) ∧
  (∀ (s : State) (c : Fin 4) (delay : Nat), (s.ch c.val).act = .o23 → 0 < (s.ch c.val).snDue →
    (s.ch c.val).txPowered = true →
    Completes (.snResponseSend c delay) s fun t =>
      .ploamUp c.val { kind := 4, args := [(serialOf c.val).toNat] } (if s.ciph.entropyFail
        then 0 else delay) ∈ t.out ∧
      t.ch c.val = { s.ch c.val with snDue := (s.ch c.val).snDue - 1 } ∧ (∀ m < 4, m ≠ c.val → t.ch m = s.ch m) ∧
      RegsKeptIn [fun _ => R.BUF_SAT] s t ∧ OnlyChanges [.out, .regs, .cnt, .arb, .pon, .buf, .sched] s t) ∧
  (∀ (s : State) (c : Fin 4) (delay : Nat),
    ((s.ch c.val).act ≠ .o23 ∨ (s.ch c.val).snDue = 0 ∨ (s.ch c.val).txPowered = false) →
    exec (.snResponseSend c delay) s = .next (s)) ∧
  (∀ (s : State) (c : Fin 4), (s.ch c.val).act = .o4 → 0 < (s.ch c.val).rangeDue → (s.ch c.val).txPowered = true →
    Completes (.rangingResponseSend c) s fun t =>
      .ploamUp c.val { kind := 1, args := [(s.ch c.val).onuCode], body := (s.ch c.val).regId } 0 ∈ t.out ∧
      t.ch c.val = { s.ch c.val with rangeDue := (s.ch c.val).rangeDue - 1 } ∧
      (∀ m < 4, m ≠ c.val → t.ch m = s.ch m) ∧ RegsKeptIn [fun _ => R.BUF_SAT] s t ∧
      OnlyChanges [.out, .regs, .cnt, .arb, .pon, .buf, .sched] s t) ∧
  (∀ (s : State) (c : Fin 4),
    ((s.ch c.val).act ≠ .o4 ∨ (s.ch c.val).rangeDue = 0 ∨ (s.ch c.val).txPowered = false) →
    exec (.rangingResponseSend c) s = .next (s)) ∧
  (∀ (s : State) (c : Fin 4),
    Completes (.actHoldClear c) s fun t =>
      t.flag (F.PON_TC_CFG_ACT_HOLD c.val) = false ∧
      (t.ch c.val).act = (if (s.ch c.val).act = .o12 ∧ (s.ch c.val).profiles ≠ [] then .o23 else (s.ch c.val).act) ∧
      (∀ m < 4, m ≠ c.val → { t.ch m with statusQ := [] } = { s.ch m with statusQ := [] }) ∧
      RegsKeptIn [R.BOND_SAT, fun _ => R.BUF_SAT, R.PON_TC_CFG, fun _ => R.SCH_SAT] s t ∧
      OnlyChanges [.regs, .cnt, .arb, .pon, .bonding, .buf, .sched, .clsIn] s t) ∧
  (∀ (s : State) (c : Fin 4), s.inSync c.val = true → (s.ch c.val).lull ≠ .awake →
    Completes (.forcedWakeup c) s fun t =>
      (t.ch c.val).lull = .awake ∧ (t.ch c.val).txWaking = (!(s.ch c.val).txPowered && (s.ch c.val).act != .o7) ∧
      (t.ch c.val).act = (s.ch c.val).act ∧
      (∀ m < 4, m ≠ c.val → { t.ch m with statusQ := [] } = { s.ch m with statusQ := [] }) ∧
      RegsKeptIn [R.BOND_SAT, fun _ => R.BUF_SAT, R.ETH_SAT, R.PON_STAT_SAT, fun _ => R.SCH_SAT, R.SVL_SAT] s t ∧
      OnlyChanges [.freeCtr, .regs, .cnt, .arb, .fns, .pon, .bonding, .buf, .sched, .clsIn, .svl, .mac, .lanes] s t) ∧
  (∀ (s : State) (c : Fin 4), (s.inSync c.val = false ∨ (s.ch c.val).lull = .awake) →
    exec (.forcedWakeup c) s = .next (s)) ∧
  (∀ (s : State) (c : Fin 4), (s.ch c.val).txWaking = true → (s.ch c.val).act ≠ .o7 →
    Completes (.txPowerUp c) s fun t =>
      (t.ch c.val).txPowered = true ∧ (t.ch c.val).txWaking = false ∧
      (∀ m < 4, m ≠ c.val → { t.ch m with statusQ := [] } = { s.ch m with statusQ := [] }) ∧
      RegsKeptIn [R.BOND_SAT, fun _ => R.BUF_SAT, fun _ => R.SCH_SAT] s t ∧
      OnlyChanges [.regs, .cnt, .arb, .pon, .bonding, .buf, .sched, .clsIn] s t) ∧
  (∀ (s : State) (c : Fin 4), ((s.ch c.val).txWaking = false ∨ (s.ch c.val).act = .o7) →
    exec (.txPowerUp c) s = .next (s)) ∧
  (∀ (s : State) (c : Fin 4), (s.ch c.val).lull = .watchful → s.inSync c.val = false →
    Completes (.awareIntervalStart c) s fun t =>
      (t.ch c.val).lull = .awake ∧ (t.ch c.val).act = (if (s.ch c.val).act = .o5 then .o6 else (s.ch c.val).act) ∧
      (∀ m < 4, m ≠ c.val → { t.ch m with statusQ := [] } = { s.ch m with statusQ := [] }) ∧
      RegsKeptIn [R.BOND_SAT, fun _ => R.BUF_SAT, R.ETH_SAT, R.PON_STAT_SAT, fun _ => R.SCH_SAT, R.SVL_SAT] s t ∧
      OnlyChanges [.freeCtr, .regs, .cnt, .arb, .fns, .pon, .bonding, .buf, .sched, .clsIn, .svl, .mac, .lanes] s t) ∧
  (∀ (s : State) (c : Fin 4), ((s.ch c.val).lull ≠ .watchful ∨ s.inSync c.val = true) →
    exec (.awareIntervalStart c) s = .next (s)) ∧
  (∀ (s : State) (c : Fin 4), (s.ch c.val).lull = .watchful → (s.ch c.val).sleepDue = false →
    s.isMaster c.val = false →
    Completes (.lowPowerIntervalStart c) s fun t =>
      (t.ch c.val).txPowered = false ∧ (t.ch c.val).rxDown = true ∧ (t.ch c.val).sync = .off ∧
      (s.eqHeld c.val = true → (t.ch c.val).taps = (s.ch c.val).taps) ∧
      (∀ m < 4, m ≠ c.val → { t.ch m with statusQ := [] } = { s.ch m with statusQ := [] }) ∧
      RegsKeptIn [R.BOND_SAT, fun _ => R.BUF_SAT, R.ETH_SAT, fun _ => R.SCH_SAT, R.SVL_SAT, fun _ => R.TIME_SAT] s t ∧
      OnlyChanges [.freeCtr, .regs, .cnt, .arb, .fns, .pon, .bonding, .buf, .sched, .time, .clsIn, .svl, .mac,
        .lanes] s t) ∧
  (∀ (s : State) (c : Fin 4),
    ((s.ch c.val).lull = .doze ∨ ((s.ch c.val).lull = .watchful ∧ s.isMaster c.val = true)) →
    (s.ch c.val).sleepDue = false →
    Completes (.lowPowerIntervalStart c) s fun t =>
      (t.ch c.val).txPowered = false ∧ (t.ch c.val).sync = (s.ch c.val).sync ∧
      (t.ch c.val).rxDown = (s.ch c.val).rxDown ∧
      (∀ m < 4, m ≠ c.val → { t.ch m with statusQ := [] } = { s.ch m with statusQ := [] }) ∧
      RegsKeptIn [R.BOND_SAT, fun _ => R.BUF_SAT, R.ETH_SAT, fun _ => R.SCH_SAT, R.SVL_SAT, fun _ => R.TIME_SAT] s t ∧
      OnlyChanges [.freeCtr, .regs, .cnt, .arb, .fns, .pon, .bonding, .buf, .sched, .time, .clsIn, .svl, .mac,
        .lanes] s t) ∧
  (∀ (s : State) (c : Fin 4), ((s.ch c.val).lull = .awake ∨ (s.ch c.val).sleepDue = true) →
    exec (.lowPowerIntervalStart c) s = .next (s))

/-- XGEM_FRAME, PON_CFG, PON_REG_ID, PON_MSK, PON_PORT_ADD, PON_PORT_REMOVE, PON_LULL_POLICY, PON_QUEUES (R97,
R102, R117, R123 to R134). -/
def Obligations.XgemFramesAndPonCommandsTakeEffect : Prop :=
  (∀ (s : State) (c : Fin 4) (x : Xgem) (lost : List (Nat × Bool)), s.inSync c.val = true →
    s.nearLoop (40 + c.val) = false → x.hecOk = false →
    exec (.xgemFrame c x lost) s = .next (lost.foldl (fun s l => s.loseFragment c.val l.1 l.2) (s.bump (C.TC_XGEM_HEC_ERR c.val)))) ∧
  (∀ (s : State) (c : Fin 4) (x : Xgem) (port : Nat) (last : Bool), s.inSync c.val = true →
    s.nearLoop (40 + c.val) = false → x.hecOk = false → s.count (C.TC_XGEM_HEC_ERR c.val) < 0xFFFFFFFE →
    s.count (C.TC_FRAG_LOST c.val) < 0xFFFFFFFE →
    Completes (.xgemFrame c x [(port, last)]) s fun t =>
      t.count (C.TC_XGEM_HEC_ERR c.val) = s.count (C.TC_XGEM_HEC_ERR c.val) + 1 ∧
      t.count (C.TC_FRAG_LOST c.val) = s.count (C.TC_FRAG_LOST c.val) + (if ((s.ch c.val).partialOf port).data = []
        then 0 else 1) ∧
      (t.ch c.val).partialOf port = { skip := !last } ∧ (∀ m < 4, m ≠ c.val → t.ch m = s.ch m) ∧
      OnlyChanges [.pon, .cnt] s t) ∧
  (∀ (s : State) (c : Fin 4) (x : Xgem) (lost : List (Nat × Bool)),
    (s.inSync c.val = false ∨ s.nearLoop (40 + c.val) = true ∨ (x.hecOk = true ∧
      (x.idle = true ∨ (s.ch c.val).inPorts x.port = false))) →
    exec (.xgemFrame c x lost) s = .next (s)) ∧
  (∀ (s : State) (c : Fin 4) (x : Xgem) (lost : List (Nat × Bool)), s.inSync c.val = true →
    s.nearLoop (40 + c.val) = false → x.hecOk = true → x.idle = false → (s.ch c.val).inPorts x.port = true →
    x.key ≠ 0 → (2 < x.key ∨ s.keyHeld (dataSlot c.val x.key x.bcast) = false) →
    s.count (C.TC_XGEM_KEY_MISS c.val) < 0xFFFFFFFE →
    Completes (.xgemFrame c x lost) s fun t =>
      t.count (C.TC_XGEM_KEY_MISS c.val) = s.count (C.TC_XGEM_KEY_MISS c.val) + 1 ∧
      (t.ch c.val).partialOf x.port = { skip := !x.last } ∧ t.clsIn = s.clsIn ∧
      (∀ m < 4, m ≠ c.val → t.ch m = s.ch m) ∧
      RegsKeptIn [fun _ => R.BUF_SAT, fun _ => R.MEM_DDR_SAT, fun _ => R.MEM_INJ, fun _ => R.MEM_SAT,
        R.MEM_UE_LOG_B, R.PON_TC_SAT] s t ∧
      OnlyChanges [.pon, .cnt, .arb, .regs] s t) ∧
  (∀ (s : State) (c : Fin 4) (x : Xgem) (lost : List (Nat × Bool)) (k : List Nat), s.inSync c.val = true →
    s.nearLoop (40 + c.val) = false → x.hecOk = true → x.idle = false → (s.ch c.val).inPorts x.port = true →
    (x.key = 1 ∨ x.key = 2) → s.keyHeld (dataSlot c.val x.key x.bcast) = true →
    s.readKey (dataSlot c.val x.key x.bcast) = (s, some k) →
    exec (.xgemFrame c x lost) s = exec (.xgemFrame c { x with key := 0, data := xgemCrypt k 0 (s.ponMode c.val) (s.ch c.val).sfc x.at_ x.data } lost) s) ∧
  (∀ (s : State) (c : Fin 4) (x : Xgem) (lost : List (Nat × Bool)), s.inSync c.val = true →
    s.nearLoop (40 + c.val) = false → x.hecOk = true → x.idle = false → (s.ch c.val).inPorts x.port = true →
    x.key = 0 → ((s.ch c.val).partialOf x.port).skip = true →
    Completes (.xgemFrame c x lost) s fun t =>
      (t.ch c.val).partialOf x.port = (if x.last then {} else (s.ch c.val).partialOf x.port) ∧ t.clsIn = s.clsIn ∧
      (∀ m < 4, m ≠ c.val → t.ch m = s.ch m) ∧ OnlyChanges [.pon, .cnt] s t) ∧
  (∀ (s : State) (c : Fin 4) (x : Xgem) (lost : List (Nat × Bool)), s.inSync c.val = true →
    s.nearLoop (40 + c.val) = false → x.hecOk = true → x.idle = false → (s.ch c.val).inPorts x.port = true →
    x.key = 0 → ((s.ch c.val).partialOf x.port).skip = false → x.last = false →
    ((s.ch c.val).partialOf x.port).data.length + x.data.length ≤ 10240 →
    Completes (.xgemFrame c x lost) s fun t =>
      (t.ch c.val).partialOf x.port = { data := ((s.ch c.val).partialOf x.port).data ++ x.data, bad := ((s.ch c.val).partialOf x.port).bad || x.bad } ∧
      t.clsIn = s.clsIn ∧ (∀ m < 4, m ≠ c.val → t.ch m = s.ch m) ∧ OnlyChanges [.pon, .cnt] s t) ∧
  (∀ (s : State) (c : Fin 4) (x : Xgem) (lost : List (Nat × Bool)), s.inSync c.val = true →
    s.nearLoop (40 + c.val) = false → x.hecOk = true → x.idle = false → (s.ch c.val).inPorts x.port = true →
    x.key = 0 → ((s.ch c.val).partialOf x.port).skip = false →
    10240 < ((s.ch c.val).partialOf x.port).data.length + x.data.length →
    s.count (C.TC_SDU_LONG c.val) < 0xFFFFFFFE →
    Completes (.xgemFrame c x lost) s fun t =>
      t.count (C.TC_SDU_LONG c.val) = s.count (C.TC_SDU_LONG c.val) + 1 ∧
      (t.ch c.val).partialOf x.port = { skip := !x.last } ∧ t.clsIn = s.clsIn ∧
      (∀ m < 4, m ≠ c.val → t.ch m = s.ch m) ∧ OnlyChanges [.pon, .cnt] s t) ∧
  (∀ (s : State) (c : Fin 4) (x : Xgem) (lost : List (Nat × Bool)), s.inSync c.val = true →
    s.nearLoop (40 + c.val) = false → x.hecOk = true → x.idle = false → (s.ch c.val).inPorts x.port = true →
    x.key = 0 → ((s.ch c.val).partialOf x.port).skip = false → x.last = true →
    ((s.ch c.val).partialOf x.port).data.length + x.data.length ≤ 10240 →
    (((s.ch c.val).partialOf x.port).bad || x.bad) = true → s.count (C.TC_XGEM_BAD c.val) < 0xFFFFFFFE →
    Completes (.xgemFrame c x lost) s fun t =>
      t.count (C.TC_XGEM_BAD c.val) = s.count (C.TC_XGEM_BAD c.val) + 1 ∧ (t.ch c.val).partialOf x.port = {} ∧
      t.clsIn = s.clsIn ∧ (∀ m < 4, m ≠ c.val → t.ch m = s.ch m) ∧ OnlyChanges [.pon, .cnt] s t) ∧
  (∀ (s : State) (c : Fin 4) (x : Xgem) (lost : List (Nat × Bool)), s.inSync c.val = true →
    s.nearLoop (40 + c.val) = false → x.hecOk = true → x.idle = false → (s.ch c.val).inPorts x.port = true →
    x.key = 0 → (s.ch c.val).partialOf x.port = {} → x.last = true → x.bad = false → x.data.length ≤ 10240 →
    (s.ch c.val).onuId = some x.port → (s.readKey (8 * c.val + 5)).1 = s →
    (x.data.length < 4 ∨ omciMic 1 (s.chKey c.val 1).2 (x.data.take (x.data.length - 4)) ≠ x.data.drop (x.data.length - 4)) →
    s.count (C.TC_OMCI_MIC_ERR c.val) < 0xFFFFFFFE →
    Completes (.xgemFrame c x lost) s fun t =>
      t.count (C.TC_OMCI_MIC_ERR c.val) = s.count (C.TC_OMCI_MIC_ERR c.val) + 1 ∧ t.clsIn = s.clsIn ∧
      (∀ m < 4, m ≠ c.val → t.ch m = s.ch m) ∧ OnlyChanges [.pon, .cnt] s t) ∧
  (∀ (s : State) (c : Fin 4) (x : Xgem) (lost : List (Nat × Bool)) (id : Nat) (ids : List Nat),
    s.inSync c.val = true → s.nearLoop (40 + c.val) = false → x.hecOk = true → x.idle = false →
    (s.ch c.val).inPorts x.port = true → x.key = 0 → (s.ch c.val).partialOf x.port = {} → x.last = true →
    x.bad = false → (s.ch c.val).onuId ≠ some x.port → s.bondedPort c.val x.port = none → x.data.length ≤ 260 →
    0 < (s.pool 0).free → (s.pool 0).cache = id :: ids →
    Completes (.xgemFrame c x lost) s fun t =>
      t.clsIn = s.clsIn ++ [{ buf := id, bytes := x.data.take (x.data.length - 4), src := 24 + c.val }] ∧
      t.owner id = agPonRx ∧ (t.pool 0).cache = ids ∧ (∀ m < 4, m ≠ c.val → t.ch m = s.ch m) ∧
      RegsKeptIn [fun _ => R.BUF_SAT, fun _ => R.MEM_DDR_SAT, fun _ => R.MEM_INJ, fun _ => R.MEM_SAT,
        R.MEM_UE_LOG_B, R.PON_TC_SAT] s t ∧
      OnlyChanges [.regs, .cnt, .arb, .pon, .bonding, .buf, .sched, .clsIn, .mem, .ciph] s t) ∧
  (∀ (s : State) (p : Pkt), Taken 0x1001 p s → p.length = 7 → p.target.toNat < 4 →
    Ends (.ponCfg p) 0x1001 p s ⟨stDone, 0, []⟩ fun u =>
      u.rd (R.PON_FE_CFG p.target.toNat) = s.rwAfter (R.PON_FE_CFG p.target.toNat) (p.w 1) ∧
      u.rd (R.PON_EQ_CTL p.target.toNat) = s.rwAfter (R.PON_EQ_CTL p.target.toNat) (p.w 2) ∧
      u.rd (R.PON_SYNC_CFG p.target.toNat) = s.rwAfter (R.PON_SYNC_CFG p.target.toNat) (p.w 3) ∧
      u.rd (R.PON_FEC_CFG p.target.toNat) = s.rwAfter (R.PON_FEC_CFG p.target.toNat) (p.w 4) ∧
      u.rd (R.PON_STAT_CTL p.target.toNat) = s.rwAfter (R.PON_STAT_CTL p.target.toNat) (p.w 5) ∧
      u.rd (R.PON_TC_CFG p.target.toNat) = s.rwAfter (R.PON_TC_CFG p.target.toNat) (p.w 6) ∧
      u.fld (F.PON_RX_CFG_ENABLE p.target.toNat) = bitsOf (p.w 0) 0 0 ∧
      RegsKeptIn [R.BOND_SAT, fun _ => R.BUF_SAT, R.ETH_SAT, R.LANE_STATUS,
        fun i => R.LANE_TXFIR (i / 1024) (i % 1024), R.PON_EQ_CTL, R.PON_FEC_CFG, R.PON_FE_CFG, R.PON_RX_CFG,
        R.PON_STAT_CTL, R.PON_STAT_SAT, R.PON_SYNC_CFG, R.PON_TC_CFG, R.PON_TC_SAT, R.PON_US_SAT,
        fun _ => R.SCH_SAT, R.SVL_SAT, fun _ => R.TIME_SAT] s u ∧
      OnlyChanges [.out, .freeCtr, .regs, .cnt, .bank, .arb, .fns, .tick, .pon, .alloc, .bonding, .buf, .sched,
        .time, .clsIn, .svl, .mac, .lanes] (s.afterTake p) u) ∧
  (∀ (s : State) (p : Pkt), Taken 0x1002 p s → p.length = 9 → p.target.toNat < 4 →
    Ends (.ponRegId p) 0x1002 p s ⟨stDone, 0, []⟩ fun u =>
      u.ch p.target.toNat = { s.ch p.target.toNat with regId := p.bytes } ∧
      (∀ k < 4, k ≠ p.target.toNat → u.ch k = s.ch k) ∧ OnlyChanges [.pon] (s.afterTake p) u) ∧
  (∀ (s : State) (p : Pkt), Taken 0x1003 p s → p.length = 4 → p.target.toNat < 4 →
    Ends (.ponMsk p) 0x1003 p s ⟨stDone, 0, []⟩ fun u =>
      u.ch p.target.toNat = { s.ch p.target.toNat with mskNext := some p.bytes } ∧
      (∀ k < 4, k ≠ p.target.toNat → u.ch k = s.ch k) ∧ OnlyChanges [.pon] (s.afterTake p) u) ∧
  (∀ (s : State) (p : Pkt), Taken 0x1004 p s → p.length = 1 → p.target.toNat < 4 → p.w 0 ≤ 65535 →
    ((((s.ch p.target.toNat).portOf (p.w 0)).inForce || ((s.ch p.target.toNat).portOf (p.w 0)).addDue) && !((s.ch p.target.toNat).portOf (p.w 0)).delDue) =
      false →
    (s.ch p.target.toNat).portCount < 1023 →
    Ends (.ponPortAdd p) 0x1004 p s ⟨stDone, 0, []⟩ fun u =>
      (u.ch p.target.toNat).portOf (p.w 0) =
        { (s.ch p.target.toNat).portOf (p.w 0) with addDue := !((s.ch p.target.toNat).portOf (p.w 0)).inForce, delDue := false } ∧
      (∀ k < 4, k ≠ p.target.toNat → u.ch k = s.ch k) ∧ OnlyChanges [.pon] (s.afterTake p) u) ∧
  (∀ (s : State) (p : Pkt), Taken 0x1004 p s → p.length = 1 → p.target.toNat < 4 → p.w 0 ≤ 65535 →
    ((((s.ch p.target.toNat).portOf (p.w 0)).inForce || ((s.ch p.target.toNat).portOf (p.w 0)).addDue) && !((s.ch p.target.toNat).portOf (p.w 0)).delDue) =
      true →
    Ends (.ponPortAdd p) 0x1004 p s ⟨stDone, 0, []⟩ fun u =>
      OnlyChanges [] (s.afterTake p) u) ∧
  (∀ (s : State) (p : Pkt), Taken 0x1004 p s → p.length = 1 → p.target.toNat < 4 → p.w 0 ≤ 65535 →
    ((((s.ch p.target.toNat).portOf (p.w 0)).inForce || ((s.ch p.target.toNat).portOf (p.w 0)).addDue) && !((s.ch p.target.toNat).portOf (p.w 0)).delDue) =
      false →
    1023 ≤ (s.ch p.target.toNat).portCount →
    Ends (.ponPortAdd p) 0x1004 p s ⟨stNoResource, 0, []⟩ fun u =>
      OnlyChanges [] (s.afterTake p) u) ∧
  (∀ (s : State) (p : Pkt), Taken 0x1004 p s → p.length = 1 → p.target.toNat < 4 → 65535 < p.w 0 →
    Ends (.ponPortAdd p) 0x1004 p s ⟨stBadParam, 0, []⟩ fun u =>
      OnlyChanges [] (s.afterTake p) u) ∧
  (∀ (s : State) (p : Pkt), Taken 0x1005 p s → p.length = 1 → p.target.toNat < 4 → p.w 0 ≤ 65535 →
    Ends (.ponPortRemove p) 0x1005 p s ⟨stDone, 0, []⟩ fun u =>
      (u.ch p.target.toNat).portOf (p.w 0) =
        { (s.ch p.target.toNat).portOf (p.w 0) with addDue := false, delDue := ((s.ch p.target.toNat).portOf (p.w 0)).inForce } ∧
      (∀ k < 4, k ≠ p.target.toNat → u.ch k = s.ch k) ∧ OnlyChanges [.pon] (s.afterTake p) u) ∧
  (∀ (s : State) (p : Pkt), Taken 0x1005 p s → p.length = 1 → p.target.toNat < 4 → 65535 < p.w 0 →
    Ends (.ponPortRemove p) 0x1005 p s ⟨stBadParam, 0, []⟩ fun u =>
      OnlyChanges [] (s.afterTake p) u) ∧
  (∀ (s : State) (p : Pkt), Taken 0x1006 p s → p.length = 1 → p.target.toNat < 4 → p.w 0 ≤ 2 →
    Ends (.ponLullPolicy p) 0x1006 p s ⟨stDone, 0, []⟩ fun u =>
      (u.ch p.target.toNat).lullPolicy = p.w 0 ∧
      (p.w 0 < (s.ch p.target.toNat).lull.code → (u.ch p.target.toNat).lull = .awake) ∧
      RegsKeptIn [R.BOND_SAT, fun _ => R.BUF_SAT, R.ETH_SAT, R.PON_STAT_SAT, fun _ => R.SCH_SAT, R.SVL_SAT] s u ∧
      OnlyChanges [.freeCtr, .regs, .cnt, .arb, .fns, .pon, .bonding, .buf, .sched, .clsIn, .svl, .mac,
        .lanes] (s.afterTake p) u) ∧
  (∀ (s : State) (p : Pkt), Taken 0x1006 p s → p.length = 1 → p.target.toNat < 4 → 2 < p.w 0 →
    Ends (.ponLullPolicy p) 0x1006 p s ⟨stBadParam, 0, []⟩ fun u =>
      OnlyChanges [] (s.afterTake p) u) ∧
  (∀ (s : State) (p : Pkt), Taken 0x1007 p s → p.length = 1 → p.target.toNat < 4 → leAt p.bytes 0 1 ≤ 63 →
    leAt p.bytes 1 1 ≤ 63 → leAt p.bytes 2 1 ≤ 63 →
    Ends (.ponQueues p) 0x1007 p s ⟨stDone, 0, []⟩ fun u =>
      u.ch p.target.toNat = { s.ch p.target.toNat with ploamQ := some (leAt p.bytes 0 1), omccDq := some (leAt p.bytes 1 1), omccHq := some (leAt p.bytes 2 1) } ∧
      (∀ k < 4, k ≠ p.target.toNat → u.ch k = s.ch k) ∧ OnlyChanges [.pon] (s.afterTake p) u) ∧
  (∀ (s : State) (p : Pkt), Taken 0x1007 p s → p.length = 1 → p.target.toNat < 4 →
    (63 < leAt p.bytes 0 1 ∨ 63 < leAt p.bytes 1 1 ∨ 63 < leAt p.bytes 2 1) →
    Ends (.ponQueues p) 0x1007 p s ⟨stBadParam, 0, []⟩ fun u =>
      OnlyChanges [] (s.afterTake p) u)

/-- BUFFER_ALLOCATION, BUFFER_HANDOVER, BUFFER_FREE, CACHE_FETCH, CACHE_WRITE_OUT, BUF_CARVE, BUF_POOL,
BUF_STAT_SNAP (R404 to R412, R430, R535). -/
def Obligations.BufferIdsMoveBetweenAgentsAndPools : Prop :=
  (∀ (s : State) (agent : Fin 10) (len i : Nat) (id : Nat) (ids : List Nat), agent ≠ 0 → len ≤ 10240 →
    i = (if len ≤ 256 then 0 else if len ≤ 1024 then 1 else if len ≤ 2560 then 2 else 3) → 0 < (s.pool i).free →
    (s.pool i).cache = id :: ids →
    Completes (.bufferAllocation agent len) s fun t =>
      t.owner id = agent.val ∧ t.pool i = { s.pool i with cache := ids, free := (s.pool i).free - 1 } ∧
      (∀ j < 4, j ≠ i → t.pool j = s.pool j) ∧ OnlyChanges [.buf, .cnt] s t) ∧
  (∀ (s : State) (agent : Fin 10) (len i : Nat) (id : Nat) (ids : List Nat), agent ≠ 0 → len ≤ 10240 →
    i = (if len ≤ 256 then 0 else if len ≤ 1024 then 1 else if len ≤ 2560 then 2 else 3) → 0 < (s.pool i).free →
    (s.pool i).cache = [] → (s.pool i).fetch.cache = id :: ids → s.count (C.BUF_CACHE_STALL i) < 0xFFFFFFFE →
    Completes (.bufferAllocation agent len) s fun t =>
      t.owner id = agent.val ∧ t.pool i = { (s.pool i).fetch with cache := ids, free := (s.pool i).free - 1 } ∧
      t.count (C.BUF_CACHE_STALL i) = s.count (C.BUF_CACHE_STALL i) + 1 ∧ OnlyChanges [.buf, .cnt] s t) ∧
  (∀ (s : State) (agent : Fin 10) (len i : Nat) (id : Nat) (ids : List Nat), agent ≠ 0 → len ≤ 10240 →
    i = (if len ≤ 256 then 0 else if len ≤ 1024 then 1 else if len ≤ 2560 then 2 else 3) → (s.pool i).free = 0 →
    s.flag (F.BUF_POOL_CFG_FALLOVER i) = true → i < 3 → 0 < (s.pool (i + 1)).free →
    (s.pool (i + 1)).cache = id :: ids → s.count (C.BUF_FELL_OVER i) < 0xFFFFFFFE →
    Completes (.bufferAllocation agent len) s fun t =>
      t.owner id = agent.val ∧ (t.pool (i + 1)).cache = ids ∧ (t.pool (i + 1)).free = (s.pool (i + 1)).free - 1 ∧
      t.count (C.BUF_FELL_OVER i) = s.count (C.BUF_FELL_OVER i) + 1 ∧ OnlyChanges [.buf, .cnt] s t) ∧
  (∀ (s : State) (agent : Fin 10) (len i : Nat), agent ≠ 0 → len ≤ 10240 →
    i = (if len ≤ 256 then 0 else if len ≤ 1024 then 1 else if len ≤ 2560 then 2 else 3) → (s.pool i).free = 0 →
    (s.flag (F.BUF_POOL_CFG_FALLOVER i) = false ∨ i = 3) →
    exec (.bufferAllocation agent len) s = .next ((s.bump (C.BUF_EMPTY i)).tellEmpty i agent.val)) ∧
  (∀ (s : State) (agent : Fin 10) (len : Nat), agent ≠ 0 → 10240 < len →
    exec (.bufferAllocation agent len) s = .next (s.bump C.BUF_TOO_BIG)) ∧
  (∀ (s : State) (len : Nat),
    exec (.bufferAllocation 0 len) s = .next (s)) ∧
  (∀ (s : State) (id : BitVec 20) (agent dst : Fin 10) (inst : Byte), dst ≠ 0 → agent ≠ 0 →
    s.owner id.toNat = agent.val →
    Completes (.bufferHandover id agent inst dst) s fun t =>
      t.owner id.toNat = dst.val ∧ t.buf.pools = s.buf.pools ∧ OnlyChanges [.buf] s t) ∧
  (∀ (s : State) (id : BitVec 20) (agent dst : Fin 10) (inst : Byte), dst ≠ 0 →
    (agent = 0 ∨ s.owner id.toNat ≠ agent.val) →
    Completes (.bufferHandover id agent inst dst) s fun t =>
      t.buf = s.buf ∧ RegsKeptIn [fun _ => R.BUF_SAT] s t ∧ OnlyChanges [.cnt, .regs, .arb] s t) ∧
  (∀ (s : State) (id : BitVec 20) (agent : Fin 10) (inst : Byte),
    exec (.bufferHandover id agent inst 0) s = .next (s)) ∧
  (∀ (s : State) (id : BitVec 20) (agent : Fin 10) (inst : Byte), agent ≠ 0 → s.owner id.toNat = agent.val →
    (s.buf.limited = false ∨ (s.pool (poolOf id.toNat)).isHigh id.toNat = false) →
    Completes (.bufferFree id agent inst) s fun t =>
      t.owner id.toNat = 0 ∧
      t.pool (poolOf id.toNat) = (let p := if 1024 ≤ (s.pool (poolOf id.toNat)).cache.length then (s.pool (poolOf id.toNat)).writeOut else (s.pool (poolOf id.toNat)); { p with cache := p.cache ++ [id.toNat], free := p.free + 1 }) ∧
      (∀ j < 4, j ≠ poolOf id.toNat → t.pool j = s.pool j) ∧ OnlyChanges [.buf] s t) ∧
  (∀ (s : State) (id : BitVec 20) (agent : Fin 10) (inst : Byte), agent ≠ 0 → s.owner id.toNat = agent.val →
    s.buf.limited = true → (s.pool (poolOf id.toNat)).isHigh id.toNat = true →
    Completes (.bufferFree id agent inst) s fun t =>
      t.owner id.toNat = 0 ∧
      t.pool (poolOf id.toNat) = { (s.pool (poolOf id.toNat)) with aside := pushRun (s.pool (poolOf id.toNat)).aside id.toNat } ∧
      (∀ j < 4, j ≠ poolOf id.toNat → t.pool j = s.pool j) ∧ OnlyChanges [.buf] s t) ∧
  (∀ (s : State) (id : BitVec 20) (agent : Fin 10) (inst : Byte), (agent = 0 ∨ s.owner id.toNat ≠ agent.val) →
    Completes (.bufferFree id agent inst) s fun t =>
      t.buf = s.buf ∧ RegsKeptIn [fun _ => R.BUF_SAT] s t ∧ OnlyChanges [.cnt, .regs, .arb] s t) ∧
  (∀ (s : State) (n : Fin 4) (lost : List Nat) (k : Nat) (r : List Nat × List (Nat × Nat)) (good : List Nat),
    (s.pool n.val).cache.length < 256 → (s.pool n.val).ring ≠ [] → k = min 128 (runsLength (s.pool n.val).ring) →
    r = takeRuns k (s.pool n.val).ring → good = loseWords (s.pool n.val).count (s.pool n.val).ringHead lost r.1 →
    Completes (.cacheFetch n lost) s fun t =>
      t.pool n.val = { s.pool n.val with cache := (s.pool n.val).cache ++ good, ring := r.2, ringHead := ((s.pool n.val).ringHead + k) % max 1 (s.pool n.val).count, free := (s.pool n.val).free - (k - good.length) } ∧
      (∀ i < 4, i ≠ n.val → t.pool i = s.pool i) ∧ RegsKeptIn [fun _ => R.BUF_SAT] s t ∧
      OnlyChanges [.regs, .cnt, .arb, .buf] s t) ∧
  (∀ (s : State) (n : Fin 4) (lost : List Nat), (256 ≤ (s.pool n.val).cache.length ∨ (s.pool n.val).ring = []) →
    exec (.cacheFetch n lost) s = .next (s)) ∧
  (∀ (s : State) (n : Fin 4), 896 < (s.pool n.val).cache.length →
    Completes (.cacheWriteOut n) s fun t =>
      (t.pool n.val).cache = (s.pool n.val).cache.drop 128 ∧
      (t.pool n.val).ring = pushRuns (s.pool n.val).ring ((s.pool n.val).cache.take 128) ∧
      (∀ i < 4, i ≠ n.val → t.pool i = s.pool i) ∧ OnlyChanges [.buf] s t) ∧
  (∀ (s : State) (n : Fin 4), (s.pool n.val).cache.length ≤ 896 →
    exec (.cacheWriteOut n) s = .next (s)) ∧
  (∀ (s : State) (p : Pkt), Taken 0x3201 p s → p.length = 4 → p.target = 0 → s.boot.committed = false →
    s.buf.owner = [] → carveOk [p.w 0, p.w 1, p.w 2, p.w 3] = true →
    Ends (.bufCarve p) 0x3201 p s ⟨stDone, 0, []⟩ fun u =>
      (∀ i < 4, (u.pool i).count = p.w i) ∧ (∀ i < 4, (u.pool i).free = p.w i) ∧
      (∀ i < 4, (u.pool i).cache.length = min 1024 (p.w i)) ∧ OnlyChanges [.buf] (s.afterTake p) u) ∧
  (∀ (s : State) (p : Pkt), Taken 0x3201 p s → p.length = 4 → p.target = 0 →
    (s.boot.committed = true ∨ s.buf.owner ≠ []) →
    Ends (.bufCarve p) 0x3201 p s ⟨stBusy, 0, []⟩ fun u =>
      OnlyChanges [] (s.afterTake p) u) ∧
  (∀ (s : State) (p : Pkt), Taken 0x3201 p s → p.length = 4 → p.target = 0 → s.boot.committed = false →
    s.buf.owner = [] → carveOk [p.w 0, p.w 1, p.w 2, p.w 3] = false →
    Ends (.bufCarve p) 0x3201 p s ⟨stBadParam, 0, []⟩ fun u =>
      OnlyChanges [] (s.afterTake p) u) ∧
  (∀ (s : State) (p : Pkt), Taken 0x3202 p s → p.length = 1 → p.target.toNat < 4 → p.w 0 ≤ 1 →
    Ends (.bufPool p) 0x3202 p s ⟨stDone, 0, []⟩ fun u =>
      u.fld (F.BUF_POOL_CFG_FALLOVER p.target.toNat) = p.w 0 ∧ RegsKept [R.BUF_POOL_CFG p.target.toNat] s u ∧
      OnlyChanges [.regs] (s.afterTake p) u) ∧
  (∀ (s : State) (p : Pkt), Taken 0x3202 p s → p.length = 1 → p.target.toNat < 4 → 1 < p.w 0 →
    Ends (.bufPool p) 0x3202 p s ⟨stBadParam, 0, []⟩ fun u =>
      OnlyChanges [] (s.afterTake p) u) ∧
  (∀ (s : State),
    Completes (.bufStatSnap) s fun t =>
      (∀ i < 4, ∀ x ∈ bufCtrs i, t.bankAt x.off = s.count x % 2 ^ 32) ∧
      (∀ x ∈ bufTotalCtrs, t.bankAt x.off = s.count x % 2 ^ 32) ∧ OnlyChanges [.bank] s t)

/-- BWMAP, BURST_BUILD, BURST_TRANSMIT (R106, R107, R125, R141 to R148, R323). -/
def Obligations.UpstreamBurstsFollowTheBandwidthMap : Prop :=
  (∀ (s : State) (c : Fin 4) (gs : List Grant) (bad hlBad : Bool),
    (s.inSync c.val = false ∨ s.nearLoop (40 + c.val) = true) →
    exec (.bwmap c gs bad hlBad) s = .next (s)) ∧
  (∀ (s : State) (c : Fin 4) (gs : List Grant) (bad hlBad : Bool), s.inSync c.val = true →
    s.nearLoop (40 + c.val) = false → (bad = true ∨ hlBad = true) → s.count (C.TC_HDR_DISCARD c.val) < 0xFFFFFFFE →
    Completes (.bwmap c gs bad hlBad) s fun t =>
      (t.ch c.val).grants = 0 ∧ (t.ch c.val).bursts = (s.ch c.val).bursts ∧
      t.count (C.TC_HDR_DISCARD c.val) = s.count (C.TC_HDR_DISCARD c.val) + 1 ∧
      (∀ m < 4, m ≠ c.val → t.ch m = s.ch m) ∧ RegsKeptIn [R.PON_TC_SAT, R.PON_US_SAT] s t ∧
      OnlyChanges [.regs, .cnt, .arb, .pon, .alloc] s t) ∧
  (∀ (s : State) (c : Fin 4) (gs : List Grant), s.inSync c.val = true → s.nearLoop (40 + c.val) = false →
    s.count (C.US_GRANT_UNKNOWN c.val) + gs.length < 0xFFFFFFFE →
    s.count (C.US_GRANT_EXCESS c.val) + gs.length < 0xFFFFFFFE →
    Completes (.bwmap c gs false false) s fun t =>
      (s.ch c.val).bursts <+: (t.ch c.val).bursts ∧ (t.ch c.val).grants ≤ 32 ∧
      (∀ b ∈ (t.ch c.val).bursts.drop (s.ch c.val).bursts.length, b.sfc = (s.ch c.val).sfc ∧ b.built = none ∧
        ∀ g ∈ b.grants, g ∈ gs ∧ g.kind.val = 0 ∧ (s.allocEntry c.val g.alloc).isSome = true) ∧
      t.count (C.US_GRANT_UNKNOWN c.val) =
        s.count (C.US_GRANT_UNKNOWN c.val) + (gs.filter (fun g => g.kind.val == 0 && s.grantUnknown g.alloc)).length ∧
      t.count (C.US_GRANT_EXCESS c.val) =
        s.count (C.US_GRANT_EXCESS c.val) +
        ((gs.filter (fun g => g.kind.val == 0 && (s.allocEntry c.val g.alloc).isSome)).length - 32) ∧
      (t.ch c.val).snDue = (s.ch c.val).snDue + (if (s.ch c.val).act = .o23
        then (gs.filter (fun g => g.kind.val == 1)).length else 0) ∧
      (t.ch c.val).rangeDue = (s.ch c.val).rangeDue + (if (s.ch c.val).act = .o4
        then (gs.filter (fun g => g.kind.val == 2)).length else 0) ∧
      (∀ m < 4, m ≠ c.val → t.ch m = s.ch m) ∧ RegsKeptIn [R.PON_TC_SAT, R.PON_US_SAT] s t ∧
      OnlyChanges [.regs, .cnt, .arb, .pon, .alloc] s t) ∧
  (∀ (s : State) (c : Fin 4) (cyc : Nat) (key : Fin 3) (bad : List Nat) (ready : Bool),
    ((s.ch c.val).bursts.head?.map (·.built.isSome)).getD true = true →
    exec (.burstBuild c cyc key bad ready) s = .next (s.pktTo cyc)) ∧
  (∀ (s : State) (c : Fin 4) (cyc : Nat) (key : Fin 3) (bad : List Nat) (ready : Bool) (b : BurstPlan) (bs : List BurstPlan),
    (s.ch c.val).bursts = b :: bs → b.built = none →
    ((s.ch c.val).txPowered = true ∨ ((s.ch c.val).txWaking = true ∧ ready = true)) →
    Completes (.burstBuild c cyc key bad ready) s fun t =>
      (∃ ps buckets, (t.ch c.val).bursts =
        { b with buckets := buckets, built := some (.header b.profileIx :: ps ++ [.trailer] ++ (if (((s.ch c.val).profile b.profileIx).map (·.fec)).getD false then [.parity (s.ponMode c.val)] else [])) } :: bs) ∧
      t.out = s.out ∧ (∀ m < 4, m ≠ c.val → (t.ch m).bursts = (s.ch m).bursts) ∧
      RegsKeptIn [fun _ => R.BUF_SAT, fun _ => R.MEM_DDR_SAT, fun _ => R.MEM_SAT, R.MEM_UE_LOG_B, R.PON_US_SAT] s t ∧
      OnlyChanges [.regs, .cnt, .arb, .pon, .alloc, .buf, .sched, .mem, .ciph] s t) ∧
  (∀ (s : State) (c : Fin 4) (cyc : Nat) (key : Fin 3) (bad : List Nat) (ready : Bool) (b : BurstPlan) (bs : List BurstPlan),
    (s.ch c.val).bursts = b :: bs → b.built = none → (s.ch c.val).txPowered = false →
    ((s.ch c.val).txWaking = false ∨ ready = false) → s.count (C.US_GRANT_SKIP c.val) < 0xFFFFFFFE →
    Completes (.burstBuild c cyc key bad ready) s fun t =>
      t.ch c.val = { s.ch c.val with bursts := bs } ∧
      (t.count (C.US_GRANT_SKIP c.val) = s.count (C.US_GRANT_SKIP c.val) + (if (s.ch c.val).lull ≠ .awake ∨
        (s.ch c.val).txWaking = true then 1 else 0)) ∧
      t.out = s.out ∧ (∀ m < 4, m ≠ c.val → t.ch m = s.ch m) ∧
      RegsKeptIn [fun _ => R.BUF_SAT, fun _ => R.MEM_DDR_SAT, fun _ => R.MEM_SAT, R.MEM_UE_LOG_B, R.PON_US_SAT] s t ∧
      OnlyChanges [.regs, .cnt, .arb, .pon, .alloc, .buf, .sched, .mem, .ciph] s t) ∧
  (∀ (s : State) (c : Fin 4) (b : BurstPlan) (bs : List BurstPlan) (parts : List BurstPart),
    (s.ch c.val).bursts = b :: bs → b.built = some parts → (s.ch c.val).burstOn = false →
    s.nearLoop (40 + c.val) = false → (s.ch c.val).txPowered = true → s.count (C.US_BURSTS c.val) < 0xFFFFFFFE →
    Completes (.burstTransmit c false) s fun t =>
      t.ch c.val = { s.ch c.val with burstOn := true } ∧
      (∃ o, t.out = .burst c.val parts :: .pin "BEN_P" c.val (!s.flag (F.PON_US_CFG_BEN_POL c.val)) :: o) ∧
      t.count (C.US_BURSTS c.val) = s.count (C.US_BURSTS c.val) + 1 ∧ (∀ m < 4, m ≠ c.val → t.ch m = s.ch m) ∧
      RegsKeptIn [R.BOND_SAT, fun _ => R.BUF_SAT, R.ETH_SAT, R.PON_US_SAT, fun _ => R.SCH_SAT, R.SVL_SAT,
        fun _ => R.TIME_SAT] s t ∧
      OnlyChanges [.out, .freeCtr, .regs, .cnt, .arb, .fns, .pon, .bonding, .buf, .sched, .time, .clsIn, .svl, .mac,
        .lanes] s t) ∧
  (∀ (s : State) (c : Fin 4) (b : BurstPlan) (bs : List BurstPlan), (s.ch c.val).bursts = b :: bs →
    b.built.isSome = true → (s.ch c.val).burstOn = false → s.nearLoop (40 + c.val) = true →
    exec (.burstTransmit c false) s = .next (s.setCh c.val { s.ch c.val with bursts := bs })) ∧
  (∀ (s : State) (c : Fin 4) (b : BurstPlan) (bs : List BurstPlan), (s.ch c.val).bursts = b :: bs →
    b.built.isSome = true → (s.ch c.val).burstOn = false → s.nearLoop (40 + c.val) = false →
    (s.ch c.val).txPowered = false → s.count (C.US_GRANT_SKIP c.val) < 0xFFFFFFFE →
    Completes (.burstTransmit c false) s fun t =>
      t.ch c.val = { s.ch c.val with bursts := bs } ∧
      (t.count (C.US_GRANT_SKIP c.val) = s.count (C.US_GRANT_SKIP c.val) + (if (s.ch c.val).lull ≠ .awake ∨
        (s.ch c.val).txWaking = true then 1 else 0)) ∧
      t.out = s.out ∧ (∀ m < 4, m ≠ c.val → t.ch m = s.ch m) ∧ OnlyChanges [.pon, .cnt] s t) ∧
  (∀ (s : State) (c : Fin 4) (b : BurstPlan) (bs : List BurstPlan), (s.ch c.val).bursts = b :: bs →
    (s.ch c.val).burstOn = true →
    Completes (.burstTransmit c true) s fun t =>
      (t.ch c.val).bursts = bs ∧ (t.ch c.val).burstOn = false ∧
      .pin "BEN_P" c.val (s.flag (F.PON_US_CFG_BEN_POL c.val)) ∈ t.out ∧
      (t.ch c.val).txPowered = ((s.ch c.val).txPowered && !((s.ch c.val).sleepDue && (b.built.getD []).any BurstPart.asksSleep)) ∧
      (∀ m < 4, m ≠ c.val → { t.ch m with statusQ := [] } = { s.ch m with statusQ := [] }) ∧
      RegsKeptIn [R.BOND_SAT, fun _ => R.BUF_SAT, R.ETH_SAT, R.PON_US_SAT, fun _ => R.SCH_SAT, R.SVL_SAT,
        fun _ => R.TIME_SAT] s t ∧
      OnlyChanges [.out, .freeCtr, .regs, .cnt, .arb, .fns, .pon, .bonding, .buf, .sched, .time, .clsIn, .svl, .mac,
        .lanes] s t) ∧
  (∀ (s : State) (c : Fin 4) (ends : Bool),
    ((s.ch c.val).bursts = [] ∨ (s.ch c.val).burstOn = !ends ∨ ((s.ch c.val).burstOn = false ∧
      ((s.ch c.val).bursts.head?.bind (·.built)) = none)) →
    exec (.burstTransmit c ends) s = .next (s))

/-- ALLOC_CTX_LOAD, ALLOC_CTX_READ, BOND_CTX_LOAD, BOND_CTX_READ, BOND_ME_CLASS, BOND_QUEUE (R155, R156, R169 to
R171, R571 to R573). -/
def Obligations.BondGroupsAndAllocationContextsLoadAndRead : Prop :=
  (∀ (s : State) (p : Pkt) (first n : Nat) (hs : List (List Byte)), Taken 0x10F0 p s → p.target = 0 →
    ctxLoadLen p = none → first = p.ctxFirst → n = p.ctxCount → p.w 1 ≤ 1 → 0 < n → n ≤ 16 → first + n ≤ 256 →
    s.ddrReady = true → p.inline = true → hs = (List.range n).map (fun k => sliceB p.bytes (8 + 64 * k) 64) →
    firstBad (allocCheck s hs) first hs = none →
    Ends (.allocCtxLoad p) 0x10F0 p s ⟨stDone, 0, []⟩ fun u =>
      (∀ k < n, (u.allocAt (first + k)).host = sliceB p.bytes (8 + 64 * k) 64) ∧
      (∀ k < n, (u.allocAt (first + k)).state = (if (s.allocAt (first + k)).state = 1
        then 2 else (s.allocAt (first + k)).state)) ∧
      (∀ j, (j < first ∨ first + n ≤ j) → u.allocAt j = s.allocAt j) ∧
      RegsKeptIn [fun _ => R.MEM_DDR_SAT, fun _ => R.MEM_INJ, fun _ => R.MEM_SAT, R.MEM_UE_LOG_B] s u ∧
      OnlyChanges [.regs, .cnt, .arb, .alloc, .mem] (s.afterTake p) u) ∧
  (∀ (s : State) (p : Pkt) (first n : Nat) (hs : List (List Byte)), Taken 0x10F0 p s → p.target = 0 →
    ctxLoadLen p = none → first = p.ctxFirst → n = p.ctxCount → p.w 1 ≤ 1 → 0 < n → n ≤ 16 → first + n ≤ 256 →
    s.ddrReady = true → p.inline = false → (s.afterTake p).halves 0x6000 first n = .inl hs →
    firstBad (allocCheck s hs) first hs = none →
    Ends (.allocCtxLoad p) 0x10F0 p s ⟨stDone, 0, []⟩ fun u =>
      (∀ k < n, (u.allocAt (first + k)).host = (hs[k]?).getD []) ∧
      (∀ k < n, (u.allocAt (first + k)).state = (if (s.allocAt (first + k)).state = 1
        then 2 else (s.allocAt (first + k)).state)) ∧
      (∀ j, (j < first ∨ first + n ≤ j) → u.allocAt j = s.allocAt j) ∧
      RegsKeptIn [fun _ => R.MEM_DDR_SAT, fun _ => R.MEM_INJ, fun _ => R.MEM_SAT, R.MEM_UE_LOG_B] s u ∧
      OnlyChanges [.regs, .cnt, .arb, .alloc, .mem] (s.afterTake p) u) ∧
  (∀ (s : State) (p : Pkt) (first n : Nat) (i : Nat), Taken 0x10F0 p s → p.target = 0 → ctxLoadLen p = none →
    first = p.ctxFirst → n = p.ctxCount → p.w 1 ≤ 1 → 0 < n → n ≤ 16 → first + n ≤ 256 → s.ddrReady = true →
    p.inline = false → (s.afterTake p).halves 0x6000 first n = .inr i →
    Ends (.allocCtxLoad p) 0x10F0 p s ⟨stHwFault, i, []⟩ fun u =>
      (∀ j, (u.allocAt j) = (s.allocAt j)) ∧
      RegsKeptIn [fun _ => R.MEM_DDR_SAT, fun _ => R.MEM_INJ, fun _ => R.MEM_SAT, R.MEM_UE_LOG_B] s u ∧
      OnlyChanges [.regs, .cnt, .arb, .alloc, .mem] (s.afterTake p) u) ∧
  (∀ (s : State) (p : Pkt) (first n : Nat) (hs : List (List Byte)) (i st : Nat), Taken 0x10F0 p s → p.target = 0 →
    ctxLoadLen p = none → first = p.ctxFirst → n = p.ctxCount → p.w 1 ≤ 1 → 0 < n → n ≤ 16 → first + n ≤ 256 →
    s.ddrReady = true → p.inline = true → hs = (List.range n).map (fun k => sliceB p.bytes (8 + 64 * k) 64) →
    firstBad (allocCheck s hs) first hs = some (i, st) →
    Ends (.allocCtxLoad p) 0x10F0 p s ⟨st, i, []⟩ fun u =>
      OnlyChanges [] (s.afterTake p) u) ∧
  (∀ (s : State) (p : Pkt) (first n : Nat), Taken 0x10F0 p s → p.target = 0 → ctxLoadLen p = none →
    first = p.ctxFirst → n = p.ctxCount → p.w 1 ≤ 1 → 0 < n → n ≤ 16 → first + n ≤ 256 → s.ddrReady = false →
    Ends (.allocCtxLoad p) 0x10F0 p s ⟨stTimeout, 0, []⟩ fun u =>
      OnlyChanges [] (s.afterTake p) u) ∧
  (∀ (s : State) (p : Pkt) (first n : Nat), Taken 0x10F0 p s → p.target = 0 → ctxLoadLen p = none →
    first = p.ctxFirst → n = p.ctxCount → (n < 1 ∨ 16 < n ∨ 256 < first + n ∨ 1 < p.w 1) →
    Ends (.allocCtxLoad p) 0x10F0 p s ⟨stBadParam, 0, []⟩ fun u =>
      OnlyChanges [] (s.afterTake p) u) ∧
  (∀ (s : State) (p : Pkt) (first n : Nat), Taken 0x10F1 p s → p.target = 0 → p.length = 1 → first = p.ctxFirst →
    n = p.ctxCount → 0 < n → n ≤ 32 → first + n ≤ 256 →
    Ends (.allocCtxRead p) 0x10F1 p s ⟨stDone, 0,
      (List.range n).flatMap (fun k => fitB 64 (s.allocAt (first + k)).host ++
      fitB 64 (s.allocAt (first + k)).wb)⟩ fun u =>
      OnlyChanges [] (s.afterTake p) u) ∧
  (∀ (s : State) (p : Pkt) (first n : Nat), Taken 0x10F1 p s → p.target = 0 → p.length = 1 → first = p.ctxFirst →
    n = p.ctxCount → (n < 1 ∨ 32 < n ∨ 256 < first + n) →
    Ends (.allocCtxRead p) 0x10F1 p s ⟨stBadParam, 0, []⟩ fun u =>
      OnlyChanges [] (s.afterTake p) u) ∧
  (∀ (s : State) (p : Pkt) (first n : Nat) (hs : List (List Byte)), Taken 0x11F0 p s → p.target = 0 →
    ctxLoadLen p = none → first = p.ctxFirst → n = p.ctxCount → p.w 1 ≤ 1 → 0 < n → n ≤ 16 → first + n ≤ 4 →
    s.ddrReady = true → p.inline = true → hs = (List.range n).map (fun k => sliceB p.bytes (8 + 64 * k) 64) →
    firstBad (bondCheck first s hs) first hs = none →
    Ends (.bondCtxLoad p) 0x11F0 p s ⟨stDone, 0, []⟩ fun u =>
      (∀ k < n, (u.group (first + k)).host = sliceB p.bytes (8 + 64 * k) 64) ∧
      (∀ k < n, (u.group (first + k)).enabled = bondEnable (u.group (first + k)).host) ∧
      (∀ j < 4, (j < first ∨ first + n ≤ j) → (u.group j).host = (s.group j).host) ∧
      RegsKeptIn [R.BOND_SAT, fun _ => R.BUF_SAT, fun _ => R.MEM_DDR_SAT, fun _ => R.MEM_INJ, fun _ => R.MEM_SAT,
        R.MEM_UE_LOG_B, fun _ => R.SCH_SAT] s u ∧
      OnlyChanges [.regs, .cnt, .arb, .pon, .bonding, .buf, .sched, .clsIn, .mem] (s.afterTake p) u) ∧
  (∀ (s : State) (p : Pkt) (first n : Nat) (hs : List (List Byte)), Taken 0x11F0 p s → p.target = 0 →
    ctxLoadLen p = none → first = p.ctxFirst → n = p.ctxCount → p.w 1 ≤ 1 → 0 < n → n ≤ 16 → first + n ≤ 4 →
    s.ddrReady = true → p.inline = false → (s.afterTake p).halves 0xE000 first n = .inl hs →
    firstBad (bondCheck first s hs) first hs = none →
    Ends (.bondCtxLoad p) 0x11F0 p s ⟨stDone, 0, []⟩ fun u =>
      (∀ k < n, (u.group (first + k)).host = (hs[k]?).getD []) ∧
      (∀ k < n, (u.group (first + k)).enabled = bondEnable (u.group (first + k)).host) ∧
      (∀ j < 4, (j < first ∨ first + n ≤ j) → (u.group j).host = (s.group j).host) ∧
      RegsKeptIn [R.BOND_SAT, fun _ => R.BUF_SAT, fun _ => R.MEM_DDR_SAT, fun _ => R.MEM_INJ, fun _ => R.MEM_SAT,
        R.MEM_UE_LOG_B, fun _ => R.SCH_SAT] s u ∧
      OnlyChanges [.regs, .cnt, .arb, .pon, .bonding, .buf, .sched, .clsIn, .mem] (s.afterTake p) u) ∧
  (∀ (s : State) (p : Pkt) (first n : Nat) (i : Nat), Taken 0x11F0 p s → p.target = 0 → ctxLoadLen p = none →
    first = p.ctxFirst → n = p.ctxCount → p.w 1 ≤ 1 → 0 < n → n ≤ 16 → first + n ≤ 4 → s.ddrReady = true →
    p.inline = false → (s.afterTake p).halves 0xE000 first n = .inr i →
    Ends (.bondCtxLoad p) 0x11F0 p s ⟨stHwFault, i, []⟩ fun u =>
      (∀ j, (u.group j) = (s.group j)) ∧
      RegsKeptIn [R.BOND_SAT, fun _ => R.BUF_SAT, fun _ => R.MEM_DDR_SAT, fun _ => R.MEM_INJ, fun _ => R.MEM_SAT,
        R.MEM_UE_LOG_B, fun _ => R.SCH_SAT] s u ∧
      OnlyChanges [.regs, .cnt, .arb, .pon, .bonding, .buf, .sched, .clsIn, .mem] (s.afterTake p) u) ∧
  (∀ (s : State) (p : Pkt) (first n : Nat) (hs : List (List Byte)) (i st : Nat), Taken 0x11F0 p s → p.target = 0 →
    ctxLoadLen p = none → first = p.ctxFirst → n = p.ctxCount → p.w 1 ≤ 1 → 0 < n → n ≤ 16 → first + n ≤ 4 →
    s.ddrReady = true → p.inline = true → hs = (List.range n).map (fun k => sliceB p.bytes (8 + 64 * k) 64) →
    firstBad (bondCheck first s hs) first hs = some (i, st) →
    Ends (.bondCtxLoad p) 0x11F0 p s ⟨st, i, []⟩ fun u =>
      OnlyChanges [] (s.afterTake p) u) ∧
  (∀ (s : State) (p : Pkt) (first n : Nat), Taken 0x11F0 p s → p.target = 0 → ctxLoadLen p = none →
    first = p.ctxFirst → n = p.ctxCount → p.w 1 ≤ 1 → 0 < n → n ≤ 16 → first + n ≤ 4 → s.ddrReady = false →
    Ends (.bondCtxLoad p) 0x11F0 p s ⟨stTimeout, 0, []⟩ fun u =>
      OnlyChanges [] (s.afterTake p) u) ∧
  (∀ (s : State) (p : Pkt) (first n : Nat), Taken 0x11F0 p s → p.target = 0 → ctxLoadLen p = none →
    first = p.ctxFirst → n = p.ctxCount → (n < 1 ∨ 16 < n ∨ 4 < first + n ∨ 1 < p.w 1) →
    Ends (.bondCtxLoad p) 0x11F0 p s ⟨stBadParam, 0, []⟩ fun u =>
      OnlyChanges [] (s.afterTake p) u) ∧
  (∀ (s : State) (p : Pkt) (first n : Nat), Taken 0x11F1 p s → p.target = 0 → p.length = 1 → first = p.ctxFirst →
    n = p.ctxCount → 0 < n → n ≤ 32 → first + n ≤ 4 →
    Ends (.bondCtxRead p) 0x11F1 p s ⟨stDone, 0,
      (List.range n).flatMap (fun k => fitB 64 (s.group (first + k)).host ++
      fitB 64 (s.group (first + k)).wb)⟩ fun u =>
      OnlyChanges [] (s.afterTake p) u) ∧
  (∀ (s : State) (p : Pkt) (first n : Nat), Taken 0x11F1 p s → p.target = 0 → p.length = 1 → first = p.ctxFirst →
    n = p.ctxCount → (n < 1 ∨ 32 < n ∨ 4 < first + n) →
    Ends (.bondCtxRead p) 0x11F1 p s ⟨stBadParam, 0, []⟩ fun u =>
      OnlyChanges [] (s.afterTake p) u) ∧
  (∀ (s : State) (p : Pkt), Taken 0x1101 p s → p.length = 1 → p.target = 0 → p.w 0 ≤ 65535 →
    Ends (.bondMeClass p) 0x1101 p s ⟨stDone, 0, []⟩ fun u =>
      u.bonding = { s.bonding with meClass := p.w 0 } ∧ OnlyChanges [.bonding] (s.afterTake p) u) ∧
  (∀ (s : State) (p : Pkt), Taken 0x1101 p s → p.length = 1 → p.target = 0 → 65535 < p.w 0 →
    Ends (.bondMeClass p) 0x1101 p s ⟨stBadParam, 0, []⟩ fun u =>
      OnlyChanges [] (s.afterTake p) u) ∧
  (∀ (s : State) (p : Pkt), Taken 0x1102 p s → p.length = 1 → p.target.toNat < 4 → p.w 0 ≤ 63 →
    Ends (.bondQueue p) 0x1102 p s ⟨stDone, 0, []⟩ fun u =>
      u.group p.target.toNat = { s.group p.target.toNat with queue := some (p.w 0) } ∧
      (∀ j < 4, j ≠ p.target.toNat → u.group j = s.group j) ∧ OnlyChanges [.bonding] (s.afterTake p) u) ∧
  (∀ (s : State) (p : Pkt), Taken 0x1102 p s → p.length = 1 → p.target.toNat < 4 → 63 < p.w 0 →
    Ends (.bondQueue p) 0x1102 p s ⟨stBadParam, 0, []⟩ fun u =>
      OnlyChanges [] (s.afterTake p) u)

/-- BOND_TAGGED_FRAME, RESEQ_HOLD_TIMEOUT, BOND_STATUS_RECEIVE, BOND_STAT_SNAP, BOND_STAT_INTERVAL_COPY (R157, R163
to R166, R169, R173). -/
def Obligations.BondingDeliversTaggedFramesInOrder : Prop :=
  (∀ (s : State), s.bonding.input = [] →
    (exec .bondTaggedFrame s = .next s ∧ exec .bondStatusReceive s = .next s)) ∧
  (∀ (s : State) (x : BondSdu) (xs : List BondSdu), s.bonding.input = x :: xs →
    (s.group x.group).tagBad x.frame.bytes = false → tagStatus x.frame.bytes = true →
    exec (.bondTaggedFrame) s = .next (s)) ∧
  (∀ (s : State) (x : BondSdu) (xs : List BondSdu), s.bonding.input = x :: xs →
    (s.group x.group).tagBad x.frame.bytes = true → s.count (C.BOND_TAG_BAD x.group) < 0xFFFFFFFE →
    Completes (.bondTaggedFrame) s fun t =>
      t.bonding = { s.bonding with input := xs } ∧ t.clsIn = s.clsIn ∧
      t.count (C.BOND_TAG_BAD x.group) = s.count (C.BOND_TAG_BAD x.group) + 1 ∧
      (s.owner x.frame.buf = agBond → t.owner x.frame.buf = 0) ∧ RegsKeptIn [R.BOND_SAT, fun _ => R.BUF_SAT] s t ∧
      OnlyChanges [.regs, .cnt, .arb, .bonding, .buf, .clsIn] s t) ∧
  (∀ (s : State) (x : BondSdu) (xs : List BondSdu), s.bonding.input = x :: xs →
    (s.group x.group).tagBad x.frame.bytes = false → tagStatus x.frame.bytes = false →
    s.count (C.BOND_TAGGED x.group) < 0xFFFFFFFE →
    ((s.group x.group).enabled = false ∨ (s.group x.group).reseq = false) →
    Completes (.bondTaggedFrame) s fun t =>
      t.bonding.input = xs ∧ t.count (C.BOND_TAGGED x.group) = s.count (C.BOND_TAGGED x.group) + 1 ∧
      t.clsIn = s.clsIn ++ [{ x.frame with bytes := (x.frame.bytes.drop 8).take (x.frame.bytes.length - 12) }] ∧
      (t.group x.group).held = (s.group x.group).held ∧ (t.group x.group).next = (s.group x.group).next ∧
      (∀ g < 4, g ≠ x.group → t.group g = s.group g) ∧ RegsKeptIn [R.BOND_SAT, fun _ => R.BUF_SAT] s t ∧
      OnlyChanges [.regs, .cnt, .arb, .bonding, .buf, .clsIn] s t) ∧
  (∀ (s : State) (x : BondSdu) (xs : List BondSdu), s.bonding.input = x :: xs →
    (s.group x.group).tagBad x.frame.bytes = false → tagStatus x.frame.bytes = false →
    s.count (C.BOND_TAGGED x.group) < 0xFFFFFFFE → (s.group x.group).enabled = true →
    (s.group x.group).reseq = true → (s.group x.group).held = [] →
    ((s.group x.group).nextSet = false ∨ (s.group x.group).next = tagSeq x.frame.bytes) →
    Completes (.bondTaggedFrame) s fun t =>
      t.bonding.input = xs ∧ t.count (C.BOND_TAGGED x.group) = s.count (C.BOND_TAGGED x.group) + 1 ∧
      (t.group x.group).next = (tagSeq x.frame.bytes + 1) % 2 ^ 24 ∧ (t.group x.group).nextSet = true ∧
      (t.group x.group).held = [] ∧
      t.clsIn = s.clsIn ++ [{ x.frame with bytes := (x.frame.bytes.drop 8).take (x.frame.bytes.length - 12) }] ∧
      (∀ g < 4, g ≠ x.group → t.group g = s.group g) ∧ RegsKeptIn [R.BOND_SAT, fun _ => R.BUF_SAT] s t ∧
      OnlyChanges [.regs, .cnt, .arb, .bonding, .buf, .clsIn] s t) ∧
  (∀ (s : State) (x : BondSdu) (xs : List BondSdu) (b : BondCtx), s.bonding.input = x :: xs →
    (s.group x.group).tagBad x.frame.bytes = false → tagStatus x.frame.bytes = false →
    s.count (C.BOND_TAGGED x.group) < 0xFFFFFFFE → (s.group x.group).enabled = true →
    (s.group x.group).reseq = true → (s.group x.group).held = [] → (s.group x.group).nextSet = true →
    0 < seqDist (s.group x.group).next (tagSeq x.frame.bytes) →
    seqDist (s.group x.group).next (tagSeq x.frame.bytes) < 4096 →
    b = { (s.group x.group).noteLast x.ch (tagLast x.frame.bytes) with held := [⟨tagSeq x.frame.bytes, { x.frame with bytes := (x.frame.bytes.drop 8).take (x.frame.bytes.length - 12) }⟩] } →
    b.heldSize ≤ b.holdKb * 1024 → b.allPassed = false →
    Completes (.bondTaggedFrame) s fun t =>
      t.bonding.input = xs ∧ t.count (C.BOND_TAGGED x.group) = s.count (C.BOND_TAGGED x.group) + 1 ∧
      t.group x.group = b ∧ t.clsIn = s.clsIn ∧ (∀ g < 4, g ≠ x.group → t.group g = s.group g) ∧
      RegsKeptIn [R.BOND_SAT, fun _ => R.BUF_SAT] s t ∧ OnlyChanges [.regs, .cnt, .arb, .bonding, .buf, .clsIn] s t) ∧
  (∀ (s : State) (x : BondSdu) (xs : List BondSdu), s.bonding.input = x :: xs →
    (s.group x.group).tagBad x.frame.bytes = false → tagStatus x.frame.bytes = false →
    s.count (C.BOND_TAGGED x.group) < 0xFFFFFFFE → (s.group x.group).enabled = true →
    (s.group x.group).reseq = true → (s.group x.group).nextSet = true →
    0 < seqDist (s.group x.group).next (tagSeq x.frame.bytes) →
    seqDist (s.group x.group).next (tagSeq x.frame.bytes) < 4096 →
    (s.group x.group).held.any (fun h => h.seq == tagSeq x.frame.bytes) = true →
    s.count (C.BOND_DUP x.group) < 0xFFFFFFFE →
    Completes (.bondTaggedFrame) s fun t =>
      t.bonding.input = xs ∧ t.count (C.BOND_TAGGED x.group) = s.count (C.BOND_TAGGED x.group) + 1 ∧
      t.count (C.BOND_DUP x.group) = s.count (C.BOND_DUP x.group) + 1 ∧
      (s.owner x.frame.buf = agBond → t.owner x.frame.buf = 0) ∧ (∀ g < 4, g ≠ x.group → t.group g = s.group g) ∧
      RegsKeptIn [R.BOND_SAT, fun _ => R.BUF_SAT] s t ∧ OnlyChanges [.regs, .cnt, .arb, .bonding, .buf, .clsIn] s t) ∧
  (∀ (s : State) (x : BondSdu) (xs : List BondSdu), s.bonding.input = x :: xs →
    (s.group x.group).tagBad x.frame.bytes = false → tagStatus x.frame.bytes = false →
    s.count (C.BOND_TAGGED x.group) < 0xFFFFFFFE → (s.group x.group).enabled = true →
    (s.group x.group).reseq = true → (s.group x.group).nextSet = true →
    0x800000 ≤ seqDist (s.group x.group).next (tagSeq x.frame.bytes) → s.count (C.BOND_LATE x.group) < 0xFFFFFFFE →
    Completes (.bondTaggedFrame) s fun t =>
      t.bonding.input = xs ∧ t.count (C.BOND_TAGGED x.group) = s.count (C.BOND_TAGGED x.group) + 1 ∧
      t.count (C.BOND_LATE x.group) = s.count (C.BOND_LATE x.group) + 1 ∧
      ((s.group x.group).latePolicy = true →
        s.clsIn ++ [{ x.frame with bytes := (x.frame.bytes.drop 8).take (x.frame.bytes.length - 12) }] <+: t.clsIn) ∧
      (((s.group x.group).latePolicy = false ∧ s.owner x.frame.buf = agBond) → t.owner x.frame.buf = 0) ∧
      (∀ g < 4, g ≠ x.group → t.group g = s.group g) ∧ RegsKeptIn [R.BOND_SAT, fun _ => R.BUF_SAT] s t ∧
      OnlyChanges [.regs, .cnt, .arb, .bonding, .buf, .clsIn] s t) ∧
  (∀ (s : State) (x : BondSdu) (xs : List BondSdu), s.bonding.input = x :: xs →
    (s.group x.group).tagBad x.frame.bytes = false → tagStatus x.frame.bytes = false →
    s.count (C.BOND_TAGGED x.group) < 0xFFFFFFFE → (s.group x.group).enabled = true →
    (s.group x.group).reseq = true → (s.group x.group).nextSet = true →
    4096 ≤ seqDist (s.group x.group).next (tagSeq x.frame.bytes) →
    seqDist (s.group x.group).next (tagSeq x.frame.bytes) < 0x800000 →
    s.count (C.BOND_BEYOND x.group) < 0xFFFFFFFE →
    Completes (.bondTaggedFrame) s fun t =>
      t.bonding.input = xs ∧ t.count (C.BOND_TAGGED x.group) = s.count (C.BOND_TAGGED x.group) + 1 ∧
      t.count (C.BOND_BEYOND x.group) = s.count (C.BOND_BEYOND x.group) + 1 ∧ s.clsIn <+: t.clsIn ∧
      (∀ g < 4, g ≠ x.group → t.group g = s.group g) ∧ RegsKeptIn [R.BOND_SAT, fun _ => R.BUF_SAT] s t ∧
      OnlyChanges [.regs, .cnt, .arb, .bonding, .buf, .clsIn] s t) ∧
  (∀ (s : State) (g : Fin 4) (waited : Nat), ((s.group g.val).held = [] ∨ waited < (s.group g.val).holdUs) →
    exec (.reseqHoldTimeout g waited) s = .next (s)) ∧
  (∀ (s : State) (g : Fin 4) (waited : Nat), (s.group g.val).held ≠ [] → (s.group g.val).holdUs ≤ waited →
    (∀ h ∈ (s.group g.val).held, h.seq < 2 ^ 24) →
    Completes (.reseqHoldTimeout g waited) s fun t =>
      (t.group g.val).held.length < (s.group g.val).held.length ∧ s.clsIn <+: t.clsIn ∧
      (∀ j < 4, j ≠ g.val → t.group j = s.group j) ∧ RegsKeptIn [R.BOND_SAT] s t ∧
      OnlyChanges [.regs, .cnt, .arb, .bonding, .clsIn] s t) ∧
  (∀ (s : State) (x : BondSdu) (xs : List BondSdu), s.bonding.input = x :: xs →
    (s.group x.group).tagBad x.frame.bytes = false → tagStatus x.frame.bytes = true →
    s.count (C.BOND_TAGGED x.group) < 0xFFFFFFFE →
    Completes (.bondStatusReceive) s fun t =>
      t.bonding.input = xs ∧ t.count (C.BOND_TAGGED x.group) = s.count (C.BOND_TAGGED x.group) + 1 ∧
      (t.group x.group).outOfUse = (s.group x.group).markedOut x.frame.bytes ∧
      (s.owner x.frame.buf = agBond → t.owner x.frame.buf = 0) ∧ s.clsIn <+: t.clsIn ∧
      RegsKeptIn [R.BOND_SAT, fun _ => R.BUF_SAT, fun _ => R.SCH_SAT] s t ∧
      OnlyChanges [.regs, .cnt, .arb, .pon, .bonding, .buf, .sched, .clsIn] s t) ∧
  (∀ (s : State) (x : BondSdu) (xs : List BondSdu), s.bonding.input = x :: xs →
    ((s.group x.group).tagBad x.frame.bytes = true ∨ tagStatus x.frame.bytes = false) →
    exec (.bondStatusReceive) s = .next (s)) ∧
  (∀ (s : State),
    Completes (.bondStatSnap) s fun t =>
      (∀ g < 4, ∀ x ∈ bondCtrs g, t.bankAt x.off = s.count x % 2 ^ 32) ∧ OnlyChanges [.bank] s t) ∧
  (∀ (s : State), s.fld F.BOND_STAT_CTL_PERIOD ≠ 0 →
    s.tick.count.toNat % (s.fld F.BOND_STAT_CTL_PERIOD * 48000) = 0 →
    Completes (.bondStatIntervalCopy) s fun t =>
      (∀ g < 4, ∀ x ∈ bondCtrs g, t.bankAt (x.off + 0x40) = s.count x % 2 ^ 32) ∧ OnlyChanges [.bank] s t) ∧
  (∀ (s : State),
    (s.fld F.BOND_STAT_CTL_PERIOD = 0 ∨ s.tick.count.toNat % (s.fld F.BOND_STAT_CTL_PERIOD * 48000) ≠ 0) →
    exec (.bondStatIntervalCopy) s = .next (s))

/-- VE_CMD_START, VE_CMD_STOP, VE_CMD_RESET and the five ENG_CTL rows (R201, R202, R205, R208, R245, R561, R587). -/
def Obligations.EnginesStartStopAndResetByCommand : Prop :=
  (∀ (s : State) (e : Fin 96), (s.eng e.val).st = .stopped → (s.eng e.val).slab.ready = true →
    exec (.veCmdStart e) s = .next (s.setEng e.val { s.eng e.val with startDue := true })) ∧
  (∀ (s : State) (e : Fin 96), ((s.eng e.val).st ≠ .stopped ∨ (s.eng e.val).slab.ready = false) →
    exec (.veCmdStart e) s = .next (s)) ∧
  (∀ (s : State) (e : Fin 96), (s.eng e.val).st = .running →
    Completes (.veCmdStop e) s fun t =>
      (t.eng e.val).st = .stopped ∧ (t.eng e.val).loops = [] ∧ (t.eng e.val).rep = none ∧
      (t.eng e.val).slots = none ∧ (t.eng e.val).wait = none ∧ (t.eng e.val).pc = (s.eng e.val).pc ∧
      (∀ k < 96, k ≠ e.val → t.eng k = s.eng k) ∧
      RegsKeptIn [fun _ => R.MEM_INJ, R.MEM_UE_LOG_B, R.SLAB_SAT, R.VE_SAT, R.VE_STATUS] s t ∧
      OnlyChanges [.regs, .cnt, .arb, .vec, .mem] s t) ∧
  (∀ (s : State) (e : Fin 96), (s.eng e.val).st ≠ .running →
    exec (.veCmdStop e) s = .next (s)) ∧
  (∀ (s : State) (e : Fin 96),
    ((s.eng e.val).st = .stopped ∨ (s.eng e.val).st = .halted ∨ ((s.eng e.val).st = .retired ∧ s.running = 0)) →
    Completes (.veCmdReset e) s fun t =>
      t.eng e.val = { (s.eng e.val).cleared with st := .stopped, startDue := false } ∧
      (∀ k < 96, k ≠ e.val → t.eng k = s.eng k) ∧ OnlyChanges [.vec] s t) ∧
  (∀ (s : State) (e : Fin 96),
    ((s.eng e.val).st = .running ∨ (s.eng e.val).st = .off ∨ (s.eng e.val).st = .spare ∨
      (s.eng e.val).st = .retiring ∨ ((s.eng e.val).st = .retired ∧ s.running ≠ 0)) →
    exec (.veCmdReset e) s = .next (s)) ∧
  (∀ (s : State) (p : Pkt), Taken 0x2107 p s → p.length = 1 → p.target.toNat < 96 → s.overcast = false →
    (s.eng p.target.toNat).st = .stopped → (s.eng p.target.toNat).slab.ready = true →
    Ends (.engCtlStart p) 0x2107 p s ⟨stDone, 0, []⟩ fun u =>
      u.eng p.target.toNat = { s.eng p.target.toNat with startDue := true } ∧
      (∀ k < 96, k ≠ p.target.toNat → u.eng k = s.eng k) ∧ OnlyChanges [.vec] (s.afterTake p) u) ∧
  (∀ (s : State) (p : Pkt), Taken 0x2107 p s → p.length = 1 → p.target.toNat < 96 →
    (s.overcast = true ∨ (s.eng p.target.toNat).st ≠ .stopped ∨ (s.eng p.target.toNat).slab.ready = false) →
    Ends (.engCtlStart p) 0x2107 p s ⟨stBusy, 0, []⟩ fun u =>
      OnlyChanges [] (s.afterTake p) u) ∧
  (∀ (s : State) (p : Pkt), Taken 0x2107 p s → p.length = 1 → p.target.toNat < 96 →
    (s.eng p.target.toNat).st = .running →
    Ends (.engCtlStop p) 0x2107 p s ⟨stDone, 0, []⟩ fun u =>
      (u.eng p.target.toNat).st = .stopped ∧ (u.eng p.target.toNat).pc = (s.eng p.target.toNat).pc ∧
      (∀ k < 96, k ≠ p.target.toNat → u.eng k = s.eng k) ∧
      RegsKeptIn [fun _ => R.MEM_INJ, R.MEM_UE_LOG_B, R.SLAB_SAT, R.VE_SAT, R.VE_STATUS] s u ∧
      OnlyChanges [.regs, .cnt, .arb, .vec, .mem] (s.afterTake p) u) ∧
  (∀ (s : State) (p : Pkt), Taken 0x2107 p s → p.length = 1 → p.target.toNat < 96 →
    (s.eng p.target.toNat).st ≠ .running →
    Ends (.engCtlStop p) 0x2107 p s ⟨stBusy, 0, []⟩ fun u =>
      OnlyChanges [] (s.afterTake p) u) ∧
  (∀ (s : State) (p : Pkt) (pass : Bool), Taken 0x2107 p s → p.length = 1 → p.target.toNat < 96 →
    ((s.eng p.target.toNat).st = .stopped ∨ (s.eng p.target.toNat).st = .halted ∨
      ((s.eng p.target.toNat).st = .retired ∧ s.running = 0 ∧
      sparseGet (fun _ => false) s.jrn.core.eng p.target.toNat = false)) →
    Ends (.engCtlReset p pass) 0x2107 p s ⟨stDone, 0, []⟩ fun u =>
      u.eng p.target.toNat = { (s.eng p.target.toNat).cleared with st := .stopped, startDue := false } ∧
      (∀ k < 96, k ≠ p.target.toNat → u.eng k = s.eng k) ∧ OnlyChanges [.vec] (s.afterTake p) u) ∧
  (∀ (s : State) (p : Pkt), Taken 0x2107 p s → p.length = 1 → p.target.toNat < 96 →
    (s.eng p.target.toNat).st = .retired → s.running = 0 →
    sparseGet (fun _ => false) s.jrn.core.eng p.target.toNat = true →
    Ends (.engCtlReset p true) 0x2107 p s ⟨stDone, 0, []⟩ fun u =>
      u.eng p.target.toNat = { (s.eng p.target.toNat).cleared with st := .stopped, startDue := false } ∧
      sparseGet (fun _ => false) u.jrn.core.eng p.target.toNat = false ∧
      (∀ k < 96, k ≠ p.target.toNat → u.eng k = s.eng k) ∧ OnlyChanges [.vec, .jrn] (s.afterTake p) u) ∧
  (∀ (s : State) (p : Pkt), Taken 0x2107 p s → p.length = 1 → p.target.toNat < 96 →
    (s.eng p.target.toNat).st = .retired → s.running = 0 →
    sparseGet (fun _ => false) s.jrn.core.eng p.target.toNat = true →
    Ends (.engCtlReset p false) 0x2107 p s ⟨stHwFault, 0, []⟩ fun u =>
      OnlyChanges [] (s.afterTake p) u) ∧
  (∀ (s : State) (p : Pkt) (pass : Bool), Taken 0x2107 p s → p.length = 1 → p.target.toNat < 96 →
    ((s.eng p.target.toNat).st = .running ∨ (s.eng p.target.toNat).st = .off ∨ (s.eng p.target.toNat).st = .spare ∨
      (s.eng p.target.toNat).st = .retiring ∨ ((s.eng p.target.toNat).st = .retired ∧ s.running ≠ 0)) →
    Ends (.engCtlReset p pass) 0x2107 p s ⟨stBusy, 0, []⟩ fun u =>
      OnlyChanges [] (s.afterTake p) u) ∧
  (∀ (s : State) (p : Pkt) (g k : Nat), Taken 0x2107 p s → p.length = 1 → p.target.toNat < 96 →
    s.serves p.target.toNat = some (g, k) → s.groupRuns g = true →
    ((s.eng p.target.toNat).st = .running ∨ (s.eng p.target.toNat).st = .halted) → s.spareFor g = none →
    Ends (.engCtlRetire p) 0x2107 p s ⟨stNoResource, 0, []⟩ fun u =>
      OnlyChanges [] (s.afterTake p) u) ∧
  (∀ (s : State) (p : Pkt) (g k sp : Nat), Taken 0x2107 p s → p.length = 1 → p.target.toNat < 96 →
    s.serves p.target.toNat = some (g, k) → s.groupRuns g = true →
    ((s.eng p.target.toNat).st = .running ∨ (s.eng p.target.toNat).st = .halted) → s.spareFor g = some sp →
    sp ≠ p.target.toNat → (s.eng p.target.toNat).slab.atRest = true → s.vec.retiring = [] →
    Begins (.engCtlRetire p) 0x2107 p s fun u =>
      (u.eng p.target.toNat).st = .retiring ∧
      u.vec.retiring.map (fun r => (r.eng, r.spare, r.copying)) = [(p.target.toNat, some sp, true)] ∧
      (u.eng p.target.toNat).slab.work = .copy ∧ (u.eng sp).slab.work = .copy ∧
      RegsKeptIn [fun _ => R.MEM_INJ, R.MEM_UE_LOG_B, R.SLAB_SAT, R.VE_SAT, R.VE_STATUS] s u ∧
      OnlyChanges [.out, .regs, .cnt, .arb, .fns, .vec, .mem] (s.afterTake p) u) ∧
  (∀ (s : State) (p : Pkt) (g k : Nat), Taken 0x2107 p s → p.length = 1 → p.target.toNat < 96 →
    s.serves p.target.toNat = some (g, k) → s.groupRuns g = true →
    ((s.eng p.target.toNat).st = .running ∨ (s.eng p.target.toNat).st = .halted) → (s.spareFor g).isSome = true →
    ((s.eng p.target.toNat).slab.atRest = false ∨ s.vec.retiring.any (fun r => r.copying) = true) →
    s.vec.retiring.all (fun r => r.copying || r.copied) = true →
    Begins (.engCtlRetire p) 0x2107 p s fun u =>
      (u.eng p.target.toNat).st = .retiring ∧
      u.vec.retiring.map (fun r => (r.eng, r.spare, r.copying)) = s.vec.retiring.map (fun r => (r.eng, r.spare,
        r.copying)) ++ [(p.target.toNat, none, false)] ∧
      RegsKeptIn [fun _ => R.MEM_INJ, R.MEM_UE_LOG_B, R.SLAB_SAT, R.VE_SAT, R.VE_STATUS] s u ∧
      OnlyChanges [.out, .regs, .cnt, .arb, .fns, .vec, .mem] (s.afterTake p) u) ∧
  (∀ (s : State) (p : Pkt), Taken 0x2107 p s → p.length = 1 → p.target.toNat < 96 → s.serves p.target.toNat = none →
    (Ends (.engCtlRetire p) 0x2107 p s ⟨stBusy, 0, []⟩ (fun u => OnlyChanges [] (s.afterTake p) u) ∧
      Ends (.engCtlRejoin p) 0x2107 p s ⟨stBusy, 0, []⟩ (fun u => OnlyChanges [] (s.afterTake p) u))) ∧
  (∀ (s : State) (p : Pkt) (g k : Nat), Taken 0x2107 p s → p.length = 1 → p.target.toNat < 96 →
    s.serves p.target.toNat = some (g, k) →
    (s.groupRuns g = false ∨ ((s.eng p.target.toNat).st ≠ .running ∧ (s.eng p.target.toNat).st ≠ .halted)) →
    Ends (.engCtlRetire p) 0x2107 p s ⟨stBusy, 0, []⟩ fun u =>
      OnlyChanges [] (s.afterTake p) u) ∧
  (∀ (s : State) (p : Pkt) (g k : Nat), Taken 0x2107 p s → p.length = 1 → p.target.toNat < 96 →
    s.serves p.target.toNat = some (g, k) → s.overcast = false → s.groupRuns g = true →
    (s.eng p.target.toNat).st = .stopped → (s.eng p.target.toNat).loaded = true →
    (s.eng p.target.toNat).slab.ready = true →
    Begins (.engCtlRejoin p) 0x2107 p s fun u =>
      u.vec.rejoins = s.vec.rejoins ++ [⟨p.target.toNat, s.tick.count.toNat, p.func.val, s.cmdId⟩] ∧
      (∀ k < 96, u.eng k = s.eng k) ∧ OnlyChanges [.vec] (s.afterTake p) u) ∧
  (∀ (s : State) (p : Pkt) (g k : Nat), Taken 0x2107 p s → p.length = 1 → p.target.toNat < 96 →
    s.serves p.target.toNat = some (g, k) →
    (s.overcast = true ∨ s.groupRuns g = false ∨ (s.eng p.target.toNat).st ≠ .stopped ∨
      (s.eng p.target.toNat).loaded = false ∨ (s.eng p.target.toNat).slab.ready = false) →
    Ends (.engCtlRejoin p) 0x2107 p s ⟨stBusy, 0, []⟩ fun u =>
      OnlyChanges [] (s.afterTake p) u)

/-- SLAB_CTL_OFF/RETAIN/ON, SLAB_MODE, SLAB_ZERO_FILL_DONE, SLAB_WAKE_SCRUB_DONE, SLAB_RELOAD_DONE,
SLAB_INDIRECT_READ/WRITE, SLAB_WRITE, SLAB_READ, SLAB_COPY_DONE. -/
def Obligations.SlabsChangeModeScrubAndReload : Prop :=
  (∀ (s : State) (e : Fin 96), (s.eng e.val).st ≠ .running → (s.eng e.val).slab.working = true →
    Completes (.slabCtlOff e) s fun t =>
      t.fld (F.SLAB_CTL_MODE e.val) = 0 ∧ (t.eng e.val).slab = { (s.eng e.val).slab with want := some 0 } ∧
      (∀ k < 96, k ≠ e.val → t.eng k = s.eng k) ∧ RegsKept [R.SLAB_CTL e.val] s t ∧ OnlyChanges [.regs, .vec] s t) ∧
  (∀ (s : State) (e : Fin 96), (s.eng e.val).st ≠ .running → (s.eng e.val).slab.working = false →
    (s.eng e.val).slab.mode ≠ 0 →
    Completes (.slabCtlOff e) s fun t =>
      t.fld (F.SLAB_CTL_MODE e.val) = 0 ∧
      (t.eng e.val).slab = { (s.eng e.val).slab with mode := 0, ready := false, words := [], overlay := [], lostWord := none } ∧
      (∀ k < 96, k ≠ e.val → t.eng k = s.eng k) ∧ RegsKept [R.SLAB_CTL e.val] s t ∧ OnlyChanges [.regs, .vec] s t) ∧
  (∀ (s : State) (e : Fin 96), (s.eng e.val).st ≠ .running → (s.eng e.val).slab.working = false →
    (s.eng e.val).slab.mode = 0 →
    Completes (.slabCtlOff e) s fun t =>
      t.fld (F.SLAB_CTL_MODE e.val) = 0 ∧ (t.eng e.val).slab = (s.eng e.val).slab ∧
      (∀ k < 96, k ≠ e.val → t.eng k = s.eng k) ∧ RegsKept [R.SLAB_CTL e.val] s t ∧ OnlyChanges [.regs, .vec] s t) ∧
  (∀ (s : State) (e : Fin 96), (s.eng e.val).st ≠ .running → (s.eng e.val).slab.working = true →
    Completes (.slabCtlRetain e) s fun t =>
      t.fld (F.SLAB_CTL_MODE e.val) = 1 ∧ (t.eng e.val).slab = { (s.eng e.val).slab with want := some 1 } ∧
      (∀ k < 96, k ≠ e.val → t.eng k = s.eng k) ∧ RegsKept [R.SLAB_CTL e.val] s t ∧ OnlyChanges [.regs, .vec] s t) ∧
  (∀ (s : State) (e : Fin 96), (s.eng e.val).st ≠ .running → (s.eng e.val).slab.working = false →
    (s.eng e.val).slab.mode = 2 →
    Completes (.slabCtlRetain e) s fun t =>
      t.fld (F.SLAB_CTL_MODE e.val) = 1 ∧ (t.eng e.val).slab.mode = 1 ∧ (t.eng e.val).slab.ready = false ∧
      (t.eng e.val).slab.word 65536 = encodeWord (canaryData e.val) ∧
      (∀ k < 65536, (t.eng e.val).slab.word k = (s.eng e.val).slab.word k) ∧
      (∀ k < 96, k ≠ e.val → t.eng k = s.eng k) ∧ RegsKept [R.SLAB_CTL e.val] s t ∧ OnlyChanges [.regs, .vec] s t) ∧
  (∀ (s : State) (e : Fin 96), (s.eng e.val).st ≠ .running → (s.eng e.val).slab.working = false →
    (s.eng e.val).slab.mode ≠ 2 →
    Completes (.slabCtlRetain e) s fun t =>
      t.fld (F.SLAB_CTL_MODE e.val) = 1 ∧ (t.eng e.val).slab = (s.eng e.val).slab ∧
      (∀ k < 96, k ≠ e.val → t.eng k = s.eng k) ∧ RegsKept [R.SLAB_CTL e.val] s t ∧ OnlyChanges [.regs, .vec] s t) ∧
  (∀ (s : State) (e : Fin 96), (s.eng e.val).slab.working = true →
    Completes (.slabCtlOn e) s fun t =>
      t.fld (F.SLAB_CTL_MODE e.val) = 2 ∧ (t.eng e.val).slab = { (s.eng e.val).slab with want := some 2 } ∧
      (∀ k < 96, k ≠ e.val → t.eng k = s.eng k) ∧ RegsKept [R.SLAB_CTL e.val] s t ∧ OnlyChanges [.regs, .vec] s t) ∧
  (∀ (s : State) (e : Fin 96), (s.eng e.val).slab.working = false → (s.eng e.val).slab.mode ≠ 2 →
    Completes (.slabCtlOn e) s fun t =>
      t.fld (F.SLAB_CTL_MODE e.val) = 2 ∧
      (t.eng e.val).slab = { (s.eng e.val).slab with mode := 2, ready := false, work := if (s.eng e.val).slab.mode = 0 then .zeroFill else .wakeScrub } ∧
      (∀ k < 96, k ≠ e.val → t.eng k = s.eng k) ∧ RegsKept [R.SLAB_CTL e.val] s t ∧ OnlyChanges [.regs, .vec] s t) ∧
  (∀ (s : State) (e : Fin 96), (s.eng e.val).slab.working = false → (s.eng e.val).slab.mode = 2 →
    Completes (.slabCtlOn e) s fun t =>
      t.fld (F.SLAB_CTL_MODE e.val) = 2 ∧ (t.eng e.val).slab = (s.eng e.val).slab ∧
      (∀ k < 96, k ≠ e.val → t.eng k = s.eng k) ∧ RegsKept [R.SLAB_CTL e.val] s t ∧ OnlyChanges [.regs, .vec] s t) ∧
  (∀ (s : State) (e : Fin 96), (s.eng e.val).st = .running →
    (exec (.slabCtlOff e) s = .next s ∧ exec (.slabCtlRetain e) s = .next s)) ∧
  (∀ (s : State) (p : Pkt), Taken 0x2109 p s → p.length = 1 → p.target.toNat < 96 → p.w 0 % 256 ≤ 2 →
    ((s.eng p.target.toNat).st ≠ .running ∨ p.w 0 % 256 = 2) →
    Ends (.slabMode p) 0x2109 p s ⟨stDone, 0, []⟩ fun u =>
      u.fld (F.SLAB_CTL_MODE p.target.toNat) = p.w 0 % 256 ∧
      (u.eng p.target.toNat).slab = (s.eng p.target.toNat).slab.request p.target.toNat (p.w 0 % 256) ∧
      (∀ k < 96, k ≠ p.target.toNat → u.eng k = s.eng k) ∧ RegsKept [R.SLAB_CTL p.target.toNat] s u ∧
      OnlyChanges [.regs, .vec] (s.afterTake p) u) ∧
  (∀ (s : State) (p : Pkt), Taken 0x2109 p s → p.length = 1 → p.target.toNat < 96 → p.w 0 % 256 < 2 →
    (s.eng p.target.toNat).st = .running →
    Ends (.slabMode p) 0x2109 p s ⟨stBusy, 0, []⟩ fun u =>
      OnlyChanges [] (s.afterTake p) u) ∧
  (∀ (s : State) (p : Pkt), Taken 0x2109 p s → p.length = 1 → p.target.toNat < 96 → 2 < p.w 0 % 256 →
    Ends (.slabMode p) 0x2109 p s ⟨stBadParam, 0, []⟩ fun u =>
      OnlyChanges [] (s.afterTake p) u) ∧
  (∀ (s : State) (e : Fin 96), (s.eng e.val).slab.work = .zeroFill → (s.eng e.val).slab.want = none →
    Completes (.slabZeroFillDone e) s fun t =>
      (t.eng e.val).slab.ready = true ∧ (t.eng e.val).slab.words = [] ∧ (t.eng e.val).slab.wake = 1 ∧
      RegsKeptIn [R.BOND_SAT, fun _ => R.BUF_SAT, R.ETH_SAT, R.PON_STAT_SAT, fun _ => R.SCH_SAT, R.SVL_SAT] s t ∧
      OnlyChanges [.out, .freeCtr, .regs, .cnt, .arb, .fns, .pon, .bonding, .buf, .sched, .clsIn, .vec, .svl, .mac,
        .lanes] s t) ∧
  (∀ (s : State) (e : Fin 96), (s.eng e.val).slab.work = .zeroFill → s.vec.retiring = [] →
    Completes (.slabZeroFillDone e) s fun t =>
      (t.eng e.val).slab = Slab.settle { (s.eng e.val).slab with words := [], ready := true, wake := 1, lost := (s.eng e.val).slab.lost && (s.serves e.val).isSome, work := .none } e.val ∧
      (∀ k < 96, k ≠ e.val → t.eng k = s.eng k) ∧ OnlyChanges [.vec] s t) ∧
  (∀ (s : State) (e : Fin 96), (s.eng e.val).slab.work ≠ .zeroFill →
    exec (.slabZeroFillDone e) s = .next (s)) ∧
  (∀ (s : State) (e : Fin 96) (ws : Sparse Codeword) (n : Nat), (s.eng e.val).slab.work = .wakeScrub →
    (s.eng e.val).slab.want = none → cleanWord ((s.eng e.val).slab.word 65536) = true →
    ((s.eng e.val).slab.word 65536).toNat % 2 ^ 256 = canaryData e.val →
    (Slab.scrub (s.eng e.val).slab.words).toOption = some (ws, n) →
    Completes (.slabWakeScrubDone e) s fun t =>
      (t.eng e.val).slab.ready = true ∧ (t.eng e.val).slab.words = ws ∧
      (t.eng e.val).slab.wake = (if n = 0 then 2 else 3) ∧ (t.eng e.val).slab.wakeCe = min n 0xFFFF ∧
      RegsKeptIn [R.BOND_SAT, fun _ => R.BUF_SAT, R.ETH_SAT, R.MEM_UE_LOG_B, R.PON_STAT_SAT, fun _ => R.SCH_SAT,
        R.SLAB_SAT, R.SVL_SAT] s t ∧
      OnlyChanges [.out, .freeCtr, .regs, .cnt, .arb, .fns, .pon, .bonding, .buf, .sched, .clsIn, .vec, .svl, .mac,
        .lanes, .mem] s t) ∧
  (∀ (s : State) (e : Fin 96) (ws : Sparse Codeword) (n : Nat), (s.eng e.val).slab.work = .wakeScrub →
    s.vec.retiring = [] → cleanWord ((s.eng e.val).slab.word 65536) = true →
    ((s.eng e.val).slab.word 65536).toNat % 2 ^ 256 = canaryData e.val →
    (Slab.scrub (s.eng e.val).slab.words).toOption = some (ws, n) →
    Completes (.slabWakeScrubDone e) s fun t =>
      (t.eng e.val).slab = Slab.settle { (s.eng e.val).slab with words := ws, wakeCe := min n 0xFFFF, wake := if n = 0 then 2 else 3, ready := true, work := .none } e.val ∧
      (∀ k < 96, k ≠ e.val → t.eng k = s.eng k) ∧ OnlyChanges [.vec] s t) ∧
  (∀ (s : State) (e : Fin 96), (s.eng e.val).slab.work = .wakeScrub →
    (cleanWord ((s.eng e.val).slab.word 65536) = false ∨
      ((s.eng e.val).slab.word 65536).toNat % 2 ^ 256 ≠ canaryData e.val) →
    s.count (C.SLAB_LOST e.val) < 0xFFFFFFFE →
    Completes (.slabWakeScrubDone e) s fun t =>
      (t.eng e.val).slab.ready = false ∧ (t.eng e.val).slab.lost = true ∧ (t.eng e.val).slab.wake = 4 ∧
      t.count (C.SLAB_LOST e.val) = s.count (C.SLAB_LOST e.val) + 1 ∧ (∀ k < 96, k ≠ e.val → t.eng k = s.eng k) ∧
      RegsKeptIn [R.BOND_SAT, fun _ => R.BUF_SAT, R.ETH_SAT, R.MEM_UE_LOG_B, R.PON_STAT_SAT, fun _ => R.SCH_SAT,
        R.SLAB_SAT, R.SVL_SAT] s t ∧
      OnlyChanges [.out, .freeCtr, .regs, .cnt, .arb, .fns, .pon, .bonding, .buf, .sched, .clsIn, .vec, .svl, .mac,
        .lanes, .mem] s t) ∧
  (∀ (s : State) (e : Fin 96), (s.eng e.val).slab.work = .wakeScrub →
    cleanWord ((s.eng e.val).slab.word 65536) = true →
    ((s.eng e.val).slab.word 65536).toNat % 2 ^ 256 = canaryData e.val →
    (Slab.scrub (s.eng e.val).slab.words).toOption = none → s.count (C.SLAB_LOST e.val) < 0xFFFFFFFE →
    Completes (.slabWakeScrubDone e) s fun t =>
      (t.eng e.val).slab.ready = false ∧ (t.eng e.val).slab.lost = true ∧ (t.eng e.val).slab.wake = 5 ∧
      t.count (C.SLAB_LOST e.val) = s.count (C.SLAB_LOST e.val) + 1 ∧ (∀ k < 96, k ≠ e.val → t.eng k = s.eng k) ∧
      RegsKeptIn [R.BOND_SAT, fun _ => R.BUF_SAT, R.ETH_SAT, R.MEM_UE_LOG_B, R.PON_STAT_SAT, fun _ => R.SCH_SAT,
        R.SLAB_SAT, R.SVL_SAT] s t ∧
      OnlyChanges [.out, .freeCtr, .regs, .cnt, .arb, .fns, .pon, .bonding, .buf, .sched, .clsIn, .vec, .svl, .mac,
        .lanes, .mem] s t) ∧
  (∀ (s : State) (e : Fin 96), (s.eng e.val).slab.work ≠ .wakeScrub →
    exec (.slabWakeScrubDone e) s = .next (s)) ∧
  (∀ (s : State) (e : Fin 96) (g k : Nat) (c : Ckpt), (s.eng e.val).slab.work = .reload →
    s.vec.reloads.head? = some e.val → s.serves e.val = some (g, k) → s.goodCkpt g k = some c →
    (s.eng e.val).slab.want = none →
    Completes (.slabReloadDone e) s fun t =>
      (t.eng e.val).slab.words = c.words ∧ (t.eng e.val).slab.ready = true ∧ (t.eng e.val).slab.lost = false ∧
      (t.eng e.val).slab.reload = 1 ∧ ((t.vg g).tg k).restore = true ∧ OnlyChanges [.out, .arb, .fns, .vec] s t) ∧
  (∀ (s : State) (e : Fin 96) (g k : Nat), (s.eng e.val).slab.work = .reload → s.vec.reloads.head? = some e.val →
    s.serves e.val = some (g, k) → s.goodCkpt g k = none →
    Completes (.slabReloadDone e) s fun t =>
      (t.eng e.val).slab = { (s.eng e.val).slab with words := [], overlay := [], reload := 2, work := .zeroFill } ∧
      ((t.vg g).tg k).est = true ∧ ((t.vg g).tg k).version = 0 ∧ (∀ k < 96, k ≠ e.val → t.eng k = s.eng k) ∧
      OnlyChanges [.out, .arb, .fns, .vec] s t) ∧
  (∀ (s : State) (e : Fin 96), (s.eng e.val).slab.work = .reload → s.vec.reloads.head? = some e.val →
    s.serves e.val = none →
    Completes (.slabReloadDone e) s fun t =>
      (t.eng e.val).slab = { (s.eng e.val).slab with work := .zeroFill, reload := 0 } ∧
      (∀ k < 96, k ≠ e.val → t.eng k = s.eng k) ∧ OnlyChanges [.vec] s t) ∧
  (∀ (s : State) (e : Fin 96), ((s.eng e.val).slab.work ≠ .reload ∨ s.vec.reloads.head? ≠ some e.val) →
    exec (.slabReloadDone e) s = .next (s)) ∧
  (∀ (s : State) (e : Fin 96) (word : BitVec 17), (s.eng e.val).st ≠ .running → (s.eng e.val).slab.ready = true →
    word.toNat ≤ 65536 →
    Completes (.slabIndirectRead e word) s fun t =>
      (∀ i < 8, (t.rd (R.SLAB_DATA e.val i)).toNat =
        (((s.eng e.val).slab.through word.toNat).toNat >>> (32 * i)) % 2 ^ 32) ∧
      (t.rd (R.SLAB_DATA_CHECK e.val)).toNat = ((s.eng e.val).slab.through word.toNat).toNat >>> 256 ∧
      t.fld (F.SLAB_ADDR_WORD e.val) = word.toNat ∧ t.fld (F.SLAB_ADDR_WR e.val) = 0 ∧
      RegsKept (R.SLAB_ADDR e.val :: R.SLAB_DATA_CHECK e.val :: (List.range 8).map (R.SLAB_DATA e.val)) s t ∧
      OnlyChanges [.regs] s t) ∧
  (∀ (s : State) (e : Fin 96) (word : BitVec 17),
    ((s.eng e.val).st = .running ∨ (s.eng e.val).slab.ready = false ∨ 65536 < word.toNat) →
    Completes (.slabIndirectRead e word) s fun t =>
      t.fld (F.SLAB_STATUS_IND_REFUSED e.val) = 1 ∧ RegsKept [R.SLAB_ADDR e.val, R.SLAB_STATUS e.val] s t ∧
      OnlyChanges [.regs] s t) ∧
  (∀ (s : State) (e : Fin 96) (word : BitVec 17), (s.eng e.val).st ≠ .running → (s.eng e.val).slab.ready = true →
    word.toNat < 65536 → s.injection 4 = none →
    Completes (.slabIndirectWrite e word) s fun t =>
      (t.eng e.val).slab.word word.toNat =
        encodeWord ((List.range 8).map (fun i => (s.rd (R.SLAB_DATA e.val i)).toNat * 2 ^ (32 * i))).sum ∧
      (∀ k < 65537, k ≠ word.toNat → (t.eng e.val).slab.word k = (s.eng e.val).slab.word k) ∧
      (∀ k < 96, k ≠ e.val → t.eng k = s.eng k) ∧ RegsKept [R.SLAB_ADDR e.val] s t ∧ OnlyChanges [.regs, .vec] s t) ∧
  (∀ (s : State) (e : Fin 96) (word : BitVec 17) (d : Codeword), (s.eng e.val).st ≠ .running →
    (s.eng e.val).slab.ready = true → word.toNat < 65536 → s.injection 4 = some d →
    Completes (.slabIndirectWrite e word) s fun t =>
      (t.eng e.val).slab.word word.toNat =
        (encodeWord ((List.range 8).map (fun i => (s.rd (R.SLAB_DATA e.val i)).toNat * 2 ^ (32 * i))).sum) ^^^ d ∧
      t.flag F.MEM_INJ_GO = false ∧
      (∀ k < 65537, k ≠ word.toNat → (t.eng e.val).slab.word k = (s.eng e.val).slab.word k) ∧
      (∀ k < 96, k ≠ e.val → t.eng k = s.eng k) ∧ RegsKept [R.SLAB_ADDR e.val, R.MEM_INJ] s t ∧
      OnlyChanges [.regs, .vec] s t) ∧
  (∀ (s : State) (e : Fin 96) (word : BitVec 17), (s.eng e.val).st ≠ .running → (s.eng e.val).slab.ready = true →
    word.toNat = 65536 →
    Completes (.slabIndirectWrite e word) s fun t =>
      (∀ k < 96, t.eng k = s.eng k) ∧ RegsKept [R.SLAB_ADDR e.val] s t ∧ OnlyChanges [.regs] s t) ∧
  (∀ (s : State) (e : Fin 96) (word : BitVec 17),
    ((s.eng e.val).st = .running ∨ (s.eng e.val).slab.ready = false ∨ 65536 < word.toNat) →
    Completes (.slabIndirectWrite e word) s fun t =>
      t.fld (F.SLAB_STATUS_IND_REFUSED e.val) = 1 ∧ RegsKept [R.SLAB_ADDR e.val, R.SLAB_STATUS e.val] s t ∧
      OnlyChanges [.regs] s t) ∧
  (∀ (s : State) (p : Pkt) (n : Nat), Taken 0x2104 p s → p.length = 1 + 8 * n → 0 < n → n ≤ 127 →
    p.target.toNat < 96 → s.overcast = false → s.indOk p.target.toNat = true → p.w 0 + n ≤ 65536 →
    s.injection 4 = none →
    Ends (.slabWrite p) 0x2104 p s ⟨stDone, 0, []⟩ fun u =>
      (∀ k < n, (u.eng p.target.toNat).slab.word (p.w 0 + k) = encodeWord (ofLe (sliceB p.bytes (4 + 32 * k) 32))) ∧
      (∀ k < 65537, (k < p.w 0 ∨ p.w 0 + n ≤ k) →
        (u.eng p.target.toNat).slab.word k = (s.eng p.target.toNat).slab.word k) ∧
      (∀ k < 96, k ≠ p.target.toNat → u.eng k = s.eng k) ∧ OnlyChanges [.vec] (s.afterTake p) u) ∧
  (∀ (s : State) (p : Pkt) (n : Nat) (d : Codeword), Taken 0x2104 p s → p.length = 1 + 8 * n → 0 < n → n ≤ 127 →
    p.target.toNat < 96 → s.overcast = false → s.indOk p.target.toNat = true → p.w 0 + n ≤ 65536 →
    s.injection 4 = some d →
    Ends (.slabWrite p) 0x2104 p s ⟨stDone, 0, []⟩ fun u =>
      (u.eng p.target.toNat).slab.word (p.w 0) = encodeWord (ofLe (sliceB p.bytes 4 32)) ^^^ d ∧
      (∀ k < n, 0 < k → (u.eng p.target.toNat).slab.word (p.w 0 + k) =
        encodeWord (ofLe (sliceB p.bytes (4 + 32 * k) 32))) ∧
      u.flag F.MEM_INJ_GO = false ∧ (∀ k < 96, k ≠ p.target.toNat → u.eng k = s.eng k) ∧ RegsKept [R.MEM_INJ] s u ∧
      OnlyChanges [.vec, .regs] (s.afterTake p) u) ∧
  (∀ (s : State) (p : Pkt) (n : Nat), Taken 0x2104 p s → p.length = 1 + 8 * n → 0 < n → n ≤ 127 →
    p.target.toNat < 96 → (s.overcast = true ∨ s.indOk p.target.toNat = false) →
    Ends (.slabWrite p) 0x2104 p s ⟨stBusy, 0, []⟩ fun u =>
      OnlyChanges [] (s.afterTake p) u) ∧
  (∀ (s : State) (p : Pkt) (n : Nat), Taken 0x2104 p s → p.length = 1 + 8 * n → 0 < n → n ≤ 127 →
    p.target.toNat < 96 → s.overcast = false → s.indOk p.target.toNat = true → 65536 < p.w 0 + n →
    Ends (.slabWrite p) 0x2104 p s ⟨stBadParam, 0, []⟩ fun u =>
      OnlyChanges [] (s.afterTake p) u) ∧
  (∀ (s : State) (p : Pkt) (n : Nat), Taken 0x2105 p s → p.length = 2 → p.target.toNat < 96 →
    s.indOk p.target.toNat = true → n = p.w 1 → 0 < n → n ≤ 127 → p.w 0 + n ≤ 65536 →
    (∀ k < n, cleanWord ((s.eng p.target.toNat).slab.through (p.w 0 + k)) = true) →
    Ends (.slabRead p) 0x2105 p s ⟨stDone, 0,
      (List.range n).flatMap (fun k => dataBytes (deliveredData ((s.eng p.target.toNat).slab.through (p.w 0 +
      k))))⟩ fun u =>
      OnlyChanges [] (s.afterTake p) u) ∧
  (∀ (s : State) (p : Pkt) (n : Nat), Taken 0x2105 p s → p.length = 2 → p.target.toNat < 96 →
    s.indOk p.target.toNat = true → n = p.w 1 → 0 < n → n ≤ 127 → p.w 0 + n ≤ 65536 →
    (∀ k < n, (decodeWord ((s.eng p.target.toNat).slab.through (p.w 0 + k)) matches .bad) = false) →
    Ends (.slabRead p) 0x2105 p s ⟨stDone, 0,
      (List.range n).flatMap (fun k => dataBytes (deliveredData ((s.eng p.target.toNat).slab.through (p.w 0 +
      k))))⟩ fun u =>
      RegsKeptIn [R.MEM_UE_LOG_B, R.SLAB_SAT] s u ∧ OnlyChanges [.regs, .cnt, .arb, .mem] (s.afterTake p) u) ∧
  (∀ (s : State) (p : Pkt) (n j : Nat), Taken 0x2105 p s → p.length = 2 → p.target.toNat < 96 →
    s.indOk p.target.toNat = true → n = p.w 1 → n ≤ 127 → p.w 0 + n ≤ 65536 → j < n →
    (∀ k < j, (decodeWord ((s.eng p.target.toNat).slab.through (p.w 0 + k)) matches .bad) = false) →
    (decodeWord ((s.eng p.target.toNat).slab.through (p.w 0 + j)) matches .bad) = true →
    Ends (.slabRead p) 0x2105 p s ⟨stHwFault, (p.w 0 + j), []⟩ fun u =>
      (∀ k < 96, u.eng k = s.eng k) ∧ RegsKeptIn [R.MEM_UE_LOG_B, R.SLAB_SAT] s u ∧
      OnlyChanges [.regs, .cnt, .arb, .mem] (s.afterTake p) u) ∧
  (∀ (s : State) (p : Pkt), Taken 0x2105 p s → p.length = 2 → p.target.toNat < 96 → s.indOk p.target.toNat = false →
    Ends (.slabRead p) 0x2105 p s ⟨stBusy, 0, []⟩ fun u =>
      OnlyChanges [] (s.afterTake p) u) ∧
  (∀ (s : State) (p : Pkt), Taken 0x2105 p s → p.length = 2 → p.target.toNat < 96 → s.indOk p.target.toNat = true →
    (p.w 1 = 0 ∨ 127 < p.w 1 ∨ 65536 < p.w 0 + p.w 1) →
    Ends (.slabRead p) 0x2105 p s ⟨stBadParam, 0, []⟩ fun u =>
      OnlyChanges [] (s.afterTake p) u) ∧
  (∀ (s : State) (r : Retiring) (sp : Nat), s.vec.retiring.find? (fun r => r.copying) = some r → r.spare = some sp →
    sp ≠ r.eng → (s.eng r.eng).slab.ready = true → (s.eng sp).slab.want = none →
    Completes (.slabCopyDone) s fun t =>
      (∀ k < 65537, (t.eng sp).slab.word k = (s.eng r.eng).slab.through k) ∧
      OnlyChanges [.out, .arb, .fns, .vec] s t) ∧
  (∀ (s : State) (r : Retiring) (sp : Nat), s.vec.retiring = [r] → r.copying = true → r.spare = some sp →
    sp ≠ r.eng → (s.eng r.eng).slab.ready = true →
    Completes (.slabCopyDone) s fun t =>
      t.vec.retiring = [{ r with copying := false, copied := true }] ∧ OnlyChanges [.out, .arb, .fns, .vec] s t) ∧
  (∀ (s : State) (r : Retiring) (sp : Nat), s.vec.retiring.find? (fun r => r.copying) = some r → r.spare = some sp →
    sp ≠ r.eng → (s.eng r.eng).slab.ready = false → (s.eng sp).slab.want = none →
    Completes (.slabCopyDone) s fun t =>
      (t.eng sp).slab.words = (s.eng sp).slab.words ∧
      (t.eng r.eng).slab.work = (if (s.serves r.eng).isSome then .reload else .zeroFill) ∧
      OnlyChanges [.out, .arb, .fns, .vec] s t) ∧
  (∀ (s : State), (s.vec.retiring.find? (fun r => r.copying)).bind (·.spare) = none →
    exec (.slabCopyDone) s = .next (s))

/-- VE_DOORBELL_RING, APERTURE_ACCESS, KERNEL_LOAD, KERNEL_FREE, ENG_LOAD, ENG_SPARE, ENG_RETIRE_CFG (R201, R209 to
R211, R214, R246, R251, R626). -/
def Obligations.KernelsApertureAndSparesServeTheEngines : Prop :=
  (∀ (s : State) (e : Fin 96),
    Completes (.veDoorbellRing e) s fun t =>
      t.eng e.val = { s.eng e.val with ip := setBit (s.eng e.val).ip 3 } ∧
      (∀ k < 96, k ≠ e.val → t.eng k = s.eng k) ∧ OnlyChanges [.vec] s t) ∧
  (∀ (s : State) (f : Fin 6) (e : Fin 96) (off : BitVec 16) (wr : Option Word), off.toNat < 0x4000 →
    exec (.apertureAccess f e off wr) s = .next (s)) ∧
  (∀ (s : State) (f : Fin 6) (e : Fin 96) (off : BitVec 16), 0x4000 ≤ off.toNat → f.val ≠ 0 → f.val ≠ 2 →
    exec (.apertureAccess f e off none) s = .next (s.answer f.val 0)) ∧
  (∀ (s : State) (f : Fin 6) (e : Fin 96) (off : BitVec 16) (v : Word), 0x4000 ≤ off.toNat → f.val ≠ 2 →
    Completes (.apertureAccess f e off (some v)) s fun t =>
      (∀ k < 96, t.eng k = s.eng k) ∧
      (t.rd (R.HOST_ACC_ERR f.val)).toNat.testBit (if f.val = 0 then 2 else 1) = true ∧
      (t.fn f.val).accErrOffset = (0x01000000 + 0x10000 * e.val + off.toNat) / 4 % 2 ^ 24 ∧
      RegsKept [R.HOST_ACC_ERR f.val] s t ∧ OnlyChanges [.fns, .regs] s t) ∧
  (∀ (s : State) (f : Fin 6) (e : Fin 96) (off : BitVec 16) (i : Nat), (f.val = 0 ∨ f.val = 2) →
    0x4000 ≤ off.toNat → off.toNat < 0x8000 → i = (off.toNat - 0x4000) / 32 → (s.eng e.val).apertureOpen = true →
    Completes (.apertureAccess f e off none) s fun t =>
      (t.fn f.val).rdata = codeWord32 (sparseGet (fun _ => 0) (s.eng e.val).imem i) (off.toNat % 32 / 4) ∧
      (∀ k < 96, t.eng k = s.eng k) ∧
      RegsKeptIn [R.HOST_ACC_ERR, fun _ => R.MEM_INJ, R.MEM_UE_LOG_B, R.VE_STATUS] s t ∧
      OnlyChanges [.fns, .mem, .regs, .arb] s t) ∧
  (∀ (s : State) (f : Fin 6) (e : Fin 96) (off : BitVec 16) (i : Nat), (f.val = 0 ∨ f.val = 2) →
    0x8000 ≤ off.toNat → i = (s.fld (F.VE_SPAD_PAGE_PAGE e.val) * 0x8000 + (off.toNat / 4 * 4 - 0x8000)) / 32 →
    (s.eng e.val).apertureOpen = true →
    Completes (.apertureAccess f e off none) s fun t =>
      (t.fn f.val).rdata = codeWord32 ((s.eng e.val).spadWord i) (off.toNat % 32 / 4) ∧
      (∀ k < 96, t.eng k = s.eng k) ∧
      RegsKeptIn [R.HOST_ACC_ERR, fun _ => R.MEM_INJ, R.MEM_UE_LOG_B, R.VE_STATUS] s t ∧
      OnlyChanges [.fns, .mem, .regs, .arb] s t) ∧
  (∀ (s : State) (e : Fin 96) (off : BitVec 16) (v : Word) (i : Nat), 0x4000 ≤ off.toNat → off.toNat < 0x8000 →
    i = (off.toNat - 0x4000) / 32 → (s.eng e.val).apertureOpen = true →
    (decodeWord (sparseGet (fun _ => 0) (s.eng e.val).imem i) matches .bad) = false → s.injection 6 = none →
    Completes (.apertureAccess 2 e off (some v)) s fun t =>
      codeWord32 (sparseGet (fun _ => 0) (t.eng e.val).imem i) (off.toNat % 32 / 4) = v.toNat ∧
      (∀ j < 8, j ≠ off.toNat % 32 / 4 →
        codeWord32 (sparseGet (fun _ => 0) (t.eng e.val).imem i) j =
        codeWord32 (sparseGet (fun _ => 0) (s.eng e.val).imem i) j) ∧
      (∀ k < 4096, k ≠ i → (sparseGet (fun _ => 0) (t.eng e.val).imem k) =
        (sparseGet (fun _ => 0) (s.eng e.val).imem k)) ∧
      (∀ k < 96, k ≠ e.val → t.eng k = s.eng k) ∧ OnlyChanges [.vec] s t) ∧
  (∀ (s : State) (e : Fin 96) (off : BitVec 16) (v : Word) (i : Nat) (d : Codeword), 0x4000 ≤ off.toNat →
    off.toNat < 0x8000 → i = (off.toNat - 0x4000) / 32 → (s.eng e.val).apertureOpen = true →
    (decodeWord (sparseGet (fun _ => 0) (s.eng e.val).imem i) matches .bad) = false → s.injection 6 = some d →
    Completes (.apertureAccess 2 e off (some v)) s fun t =>
      (sparseGet (fun _ => 0) (t.eng e.val).imem i) =
        codePut32 (sparseGet (fun _ => 0) (s.eng e.val).imem i) (off.toNat % 32 / 4) v.toNat ^^^ d ∧
      (∀ k < 4096, k ≠ i → (sparseGet (fun _ => 0) (t.eng e.val).imem k) =
        (sparseGet (fun _ => 0) (s.eng e.val).imem k)) ∧
      (∀ k < 96, k ≠ e.val → t.eng k = s.eng k) ∧ RegsKept [R.MEM_INJ] s t ∧ OnlyChanges [.vec, .regs] s t) ∧
  (∀ (s : State) (e : Fin 96) (off : BitVec 16) (v : Word) (i : Nat), 0x4000 ≤ off.toNat → off.toNat < 0x8000 →
    i = (off.toNat - 0x4000) / 32 → (s.eng e.val).apertureOpen = true →
    (decodeWord (sparseGet (fun _ => 0) (s.eng e.val).imem i) matches .bad) = true → s.injection 6 = none →
    Completes (.apertureAccess 2 e off (some v)) s fun t =>
      (sparseGet (fun _ => 0) (t.eng e.val).imem i) = (sparseGet (fun _ => 0) (s.eng e.val).imem i) ∧
      (∀ k < 96, k ≠ e.val → t.eng k = s.eng k) ∧
      RegsKeptIn [R.HOST_ACC_ERR, fun _ => R.MEM_INJ, R.MEM_UE_LOG_B, R.VE_STATUS] s t ∧
      OnlyChanges [.regs, .arb, .fns, .vec, .mem] s t) ∧
  (∀ (s : State) (e : Fin 96) (off : BitVec 16) (v : Word) (i : Nat), 0x8000 ≤ off.toNat →
    i = (s.fld (F.VE_SPAD_PAGE_PAGE e.val) * 0x8000 + (off.toNat / 4 * 4 - 0x8000)) / 32 →
    (s.eng e.val).apertureOpen = true → (decodeWord ((s.eng e.val).spadWord i) matches .bad) = false →
    s.injection 5 = none →
    Completes (.apertureAccess 2 e off (some v)) s fun t =>
      codeWord32 ((t.eng e.val).spadWord i) (off.toNat % 32 / 4) = v.toNat ∧
      (∀ j < 8, j ≠ off.toNat % 32 / 4 →
        codeWord32 ((t.eng e.val).spadWord i) j = codeWord32 ((s.eng e.val).spadWord i) j) ∧
      (∀ k < 4096, k ≠ i → ((t.eng e.val).spadWord k) = ((s.eng e.val).spadWord k)) ∧
      (∀ k < 96, k ≠ e.val → t.eng k = s.eng k) ∧ OnlyChanges [.vec] s t) ∧
  (∀ (s : State) (e : Fin 96) (off : BitVec 16) (v : Word) (i : Nat) (d : Codeword), 0x8000 ≤ off.toNat →
    i = (s.fld (F.VE_SPAD_PAGE_PAGE e.val) * 0x8000 + (off.toNat / 4 * 4 - 0x8000)) / 32 →
    (s.eng e.val).apertureOpen = true → (decodeWord ((s.eng e.val).spadWord i) matches .bad) = false →
    s.injection 5 = some d →
    Completes (.apertureAccess 2 e off (some v)) s fun t =>
      ((t.eng e.val).spadWord i) = codePut32 ((s.eng e.val).spadWord i) (off.toNat % 32 / 4) v.toNat ^^^ d ∧
      (∀ k < 4096, k ≠ i → ((t.eng e.val).spadWord k) = ((s.eng e.val).spadWord k)) ∧
      (∀ k < 96, k ≠ e.val → t.eng k = s.eng k) ∧ RegsKept [R.MEM_INJ] s t ∧ OnlyChanges [.vec, .regs] s t) ∧
  (∀ (s : State) (e : Fin 96) (off : BitVec 16) (v : Word) (i : Nat), 0x8000 ≤ off.toNat →
    i = (s.fld (F.VE_SPAD_PAGE_PAGE e.val) * 0x8000 + (off.toNat / 4 * 4 - 0x8000)) / 32 →
    (s.eng e.val).apertureOpen = true → (decodeWord ((s.eng e.val).spadWord i) matches .bad) = true →
    s.injection 5 = none →
    Completes (.apertureAccess 2 e off (some v)) s fun t =>
      ((t.eng e.val).spadWord i) = ((s.eng e.val).spadWord i) ∧ (∀ k < 96, k ≠ e.val → t.eng k = s.eng k) ∧
      RegsKeptIn [R.HOST_ACC_ERR, fun _ => R.MEM_INJ, R.MEM_UE_LOG_B, R.VE_STATUS] s t ∧
      OnlyChanges [.regs, .arb, .fns, .vec, .mem] s t) ∧
  (∀ (s : State) (f : Fin 6) (e : Fin 96) (off : BitVec 16), (f.val = 0 ∨ f.val = 2) → 0x4000 ≤ off.toNat →
    (s.eng e.val).apertureOpen = false →
    Completes (.apertureAccess f e off none) s fun t =>
      (t.fn f.val).rdata = 0 ∧ t.fld (F.VE_STATUS_APERTURE_REFUSED e.val) = 1 ∧ RegsKept [R.VE_STATUS e.val] s t ∧
      OnlyChanges [.fns, .regs] s t) ∧
  (∀ (s : State) (e : Fin 96) (off : BitVec 16) (v : Word), 0x4000 ≤ off.toNat →
    (s.eng e.val).apertureOpen = false →
    Completes (.apertureAccess 2 e off (some v)) s fun t =>
      t.fld (F.VE_STATUS_APERTURE_REFUSED e.val) = 1 ∧ RegsKept [R.VE_STATUS e.val] s t ∧ OnlyChanges [.regs] s t) ∧
  (∀ (s : State) (p : Pkt) (n h : Nat), Taken 0x2101 p s → h = p.target.toNat → p.length = 1 + 2 * n → 0 < n →
    n ≤ 508 → s.overcast = false → s.ddrReady = true → p.w 0 % 65536 + n ≤ 2048 →
    Ends (.kernelLoad p) 0x2101 p s ⟨stDone, 0, []⟩ fun u =>
      sparseGet (fun _ => none) u.vec.kernels h =
        some (putInsns ((sparseGet (fun _ => none) s.vec.kernels h).getD []) (p.w 0 % 65536) (p.bytes.drop 4) n) ∧
      (∀ j, j ≠ h → sparseGet (fun _ => none) u.vec.kernels j = sparseGet (fun _ => none) s.vec.kernels j) ∧
      OnlyChanges [.vec] (s.afterTake p) u) ∧
  (∀ (s : State) (p : Pkt) (n h : Nat), Taken 0x2101 p s → h = p.target.toNat → p.length = 1 + 2 * n → 0 < n →
    n ≤ 508 → s.overcast = true →
    Ends (.kernelLoad p) 0x2101 p s ⟨stBusy, 0, []⟩ fun u =>
      OnlyChanges [] (s.afterTake p) u) ∧
  (∀ (s : State) (p : Pkt) (n h : Nat), Taken 0x2101 p s → h = p.target.toNat → p.length = 1 + 2 * n → 0 < n →
    n ≤ 508 → s.overcast = false → 2048 < p.w 0 % 65536 + n →
    Ends (.kernelLoad p) 0x2101 p s ⟨stBadParam, 0, []⟩ fun u =>
      OnlyChanges [] (s.afterTake p) u) ∧
  (∀ (s : State) (p : Pkt) (n h : Nat), Taken 0x2101 p s → h = p.target.toNat → p.length = 1 + 2 * n → 0 < n →
    n ≤ 508 → s.overcast = false → p.w 0 % 65536 + n ≤ 2048 → s.ddrReady = false →
    Ends (.kernelLoad p) 0x2101 p s ⟨stTimeout, 0, []⟩ fun u =>
      OnlyChanges [] (s.afterTake p) u) ∧
  (∀ (s : State) (p : Pkt) (img : Sparse Nat), Taken 0x2102 p s → p.length = 0 →
    sparseGet (fun _ => none) s.vec.kernels p.target.toNat = some img →
    (∀ k < 96, (s.eng k).kernel = some p.target.toNat → (s.eng k).st = .retired) →
    Ends (.kernelFree p) 0x2102 p s ⟨stDone, 0, []⟩ fun u =>
      sparseGet (fun _ => none) u.vec.kernels p.target.toNat = none ∧
      (∀ j, j ≠ p.target.toNat → sparseGet (fun _ => none) u.vec.kernels j =
        sparseGet (fun _ => none) s.vec.kernels j) ∧
      OnlyChanges [.vec] (s.afterTake p) u) ∧
  (∀ (s : State) (p : Pkt) (img : Sparse Nat) (e : Fin 96), Taken 0x2102 p s → p.length = 0 →
    sparseGet (fun _ => none) s.vec.kernels p.target.toNat = some img → (s.eng e.val).kernel = some p.target.toNat →
    (s.eng e.val).st ≠ .retired →
    Ends (.kernelFree p) 0x2102 p s ⟨stBusy, 0, []⟩ fun u =>
      OnlyChanges [] (s.afterTake p) u) ∧
  (∀ (s : State) (p : Pkt), Taken 0x2102 p s → p.length = 0 →
    sparseGet (fun _ => none) s.vec.kernels p.target.toNat = none →
    Ends (.kernelFree p) 0x2102 p s ⟨stBadTarget, 0, []⟩ fun u =>
      OnlyChanges [] (s.afterTake p) u) ∧
  (∀ (s : State) (p : Pkt) (img : Sparse Nat), Taken 0x2103 p s → p.length = 1 → p.target.toNat < 96 →
    s.overcast = false → (s.eng p.target.toNat).apertureOpen = true →
    sparseGet (fun _ => none) s.vec.kernels (p.w 0 % 65536) = some img → s.ddrReady = true → s.injection 6 = none →
    Ends (.engLoad p) 0x2103 p s ⟨stDone, 0, []⟩ fun u =>
      u.eng p.target.toNat = { s.eng p.target.toNat with imem := imemOf img, kernel := some (p.w 0 % 65536), loadLost := false, imemBad := [] } ∧
      (∀ k < 96, k ≠ p.target.toNat → u.eng k = s.eng k) ∧ OnlyChanges [.vec] (s.afterTake p) u) ∧
  (∀ (s : State) (p : Pkt) (img : Sparse Nat) (d : Codeword), Taken 0x2103 p s → p.length = 1 →
    p.target.toNat < 96 → s.overcast = false → (s.eng p.target.toNat).apertureOpen = true →
    sparseGet (fun _ => none) s.vec.kernels (p.w 0 % 65536) = some img → s.ddrReady = true →
    s.injection 6 = some d →
    Ends (.engLoad p) 0x2103 p s ⟨stDone, 0, []⟩ fun u =>
      u.eng p.target.toNat = { s.eng p.target.toNat with imem := sparseSet (fun _ => 0) (imemOf img) 0 (sparseGet (fun _ => 0) (imemOf img) 0 ^^^ d), kernel := some (p.w 0 % 65536), loadLost := false, imemBad := [] } ∧
      (∀ k < 96, k ≠ p.target.toNat → u.eng k = s.eng k) ∧ RegsKept [R.MEM_INJ] s u ∧
      OnlyChanges [.vec, .regs] (s.afterTake p) u) ∧
  (∀ (s : State) (p : Pkt), Taken 0x2103 p s → p.length = 1 → p.target.toNat < 96 →
    (s.overcast = true ∨ (s.eng p.target.toNat).apertureOpen = false) →
    Ends (.engLoad p) 0x2103 p s ⟨stBusy, 0, []⟩ fun u =>
      OnlyChanges [] (s.afterTake p) u) ∧
  (∀ (s : State) (p : Pkt), Taken 0x2103 p s → p.length = 1 → p.target.toNat < 96 → s.overcast = false →
    (s.eng p.target.toNat).apertureOpen = true → sparseGet (fun _ => none) s.vec.kernels (p.w 0 % 65536) = none →
    Ends (.engLoad p) 0x2103 p s ⟨stBadParam, 0, []⟩ fun u =>
      OnlyChanges [] (s.afterTake p) u) ∧
  (∀ (s : State) (p : Pkt) (img : Sparse Nat), Taken 0x2103 p s → p.length = 1 → p.target.toNat < 96 →
    s.overcast = false → (s.eng p.target.toNat).apertureOpen = true →
    sparseGet (fun _ => none) s.vec.kernels (p.w 0 % 65536) = some img → s.ddrReady = false →
    Ends (.engLoad p) 0x2103 p s ⟨stTimeout, 0, []⟩ fun u =>
      OnlyChanges [] (s.afterTake p) u) ∧
  (∀ (s : State) (p : Pkt) (g : Nat), Taken 0x2106 p s → p.length = 1 → p.target.toNat < 96 → g = p.w 0 % 256 →
    p.w 0 / 256 % 256 = 1 → g ≤ 3 → (s.vg g).state ≠ 0 → (s.eng p.target.toNat).st = .stopped →
    (s.eng p.target.toNat).spareOf = none → s.serves p.target.toNat = none → (s.eng p.target.toNat).loaded = true →
    (s.eng p.target.toNat).kernel = some (s.vg g).kernel → (s.eng p.target.toNat).slab.mode = 2 →
    (s.eng p.target.toNat).slab.ready = true →
    Ends (.engSpare p) 0x2106 p s ⟨stDone, 0, []⟩ fun u =>
      u.eng p.target.toNat = { s.eng p.target.toNat with st := .spare, spareOf := some g } ∧
      (∀ k < 96, k ≠ p.target.toNat → u.eng k = s.eng k) ∧ OnlyChanges [.vec] (s.afterTake p) u) ∧
  (∀ (s : State) (p : Pkt) (g : Nat), Taken 0x2106 p s → p.length = 1 → p.target.toNat < 96 → g = p.w 0 % 256 →
    p.w 0 / 256 % 256 = 1 → g ≤ 3 → (s.vg g).state ≠ 0 →
    ((s.eng p.target.toNat).st ≠ .stopped ∨ (s.eng p.target.toNat).spareOf ≠ none ∨ s.serves p.target.toNat ≠ none ∨
      (s.eng p.target.toNat).loaded = false ∨ (s.eng p.target.toNat).kernel ≠ some (s.vg g).kernel ∨
      (s.eng p.target.toNat).slab.mode ≠ 2 ∨ (s.eng p.target.toNat).slab.ready = false) →
    Ends (.engSpare p) 0x2106 p s ⟨stBusy, 0, []⟩ fun u =>
      OnlyChanges [] (s.afterTake p) u) ∧
  (∀ (s : State) (p : Pkt) (g : Nat), Taken 0x2106 p s → p.length = 1 → p.target.toNat < 96 → g = p.w 0 % 256 →
    (3 < g ∨ 1 < p.w 0 / 256 % 256 ∨ (p.w 0 / 256 % 256 = 1 ∧ (s.vg g).state = 0)) →
    Ends (.engSpare p) 0x2106 p s ⟨stBadParam, 0, []⟩ fun u =>
      OnlyChanges [] (s.afterTake p) u) ∧
  (∀ (s : State) (p : Pkt) (g : Nat), Taken 0x2106 p s → p.length = 1 → p.target.toNat < 96 → g = p.w 0 % 256 →
    p.w 0 / 256 % 256 = 0 → g ≤ 3 → (s.eng p.target.toNat).spareOf = some g → (s.eng p.target.toNat).st ≠ .off →
    s.vec.retiring.all (fun r => r.spare != some p.target.toNat || r.tookAt.isSome) = true →
    Ends (.engSpare p) 0x2106 p s ⟨stDone, 0, []⟩ fun u =>
      u.eng p.target.toNat = { s.eng p.target.toNat with spareOf := none, st := if (s.eng p.target.toNat).st = .spare then .stopped else (s.eng p.target.toNat).st } ∧
      (∀ k < 96, k ≠ p.target.toNat → u.eng k = s.eng k) ∧ OnlyChanges [.vec] (s.afterTake p) u) ∧
  (∀ (s : State) (p : Pkt) (g : Nat), Taken 0x2106 p s → p.length = 1 → p.target.toNat < 96 → g = p.w 0 % 256 →
    p.w 0 / 256 % 256 = 0 → g ≤ 3 → (s.eng p.target.toNat).spareOf = some g → (s.eng p.target.toNat).st = .off →
    s.vec.retiring.all (fun r => r.spare != some p.target.toNat || r.tookAt.isSome) = true →
    Ends (.engSpare p) 0x2106 p s ⟨stDone, 0, []⟩ fun u =>
      (u.eng p.target.toNat).spareOf = none ∧ (∀ k < 96, k ≠ p.target.toNat → u.eng k = s.eng k) ∧
      OnlyChanges [.vec] (s.afterTake p) u) ∧
  (∀ (s : State) (p : Pkt) (g : Nat), Taken 0x2106 p s → p.length = 1 → p.target.toNat < 96 → g = p.w 0 % 256 →
    p.w 0 / 256 % 256 = 0 → g ≤ 3 →
    ((s.eng p.target.toNat).spareOf ≠ some g ∨
      s.vec.retiring.all (fun r => r.spare != some p.target.toNat || r.tookAt.isSome) = false) →
    Ends (.engSpare p) 0x2106 p s ⟨stBusy, 0, []⟩ fun u =>
      OnlyChanges [] (s.afterTake p) u) ∧
  (∀ (s : State) (p : Pkt), Taken 0x2108 p s → p.length = 1 → p.target = 0 →
    Ends (.engRetireCfg p) 0x2108 p s ⟨stDone, 0, []⟩ fun u =>
      u.rd R.VE_RETIRE_CFG = s.rwAfter R.VE_RETIRE_CFG (p.w 0) ∧ RegsKept [R.VE_RETIRE_CFG] s u ∧
      OnlyChanges [.regs] (s.afterTake p) u)

/-- SOP 0x00 to 0x19, 0x1D and 0x1E of Table 7-3 (R217, R219, R222, R223). -/
def Obligations.ScalarOperationsWriteTheirResult : Prop :=
  ∀ (e : Fin 96) (w : Nat) (s : State) (a b zx sx : Word), Issues e.val w s → a = (s.eng e.val).reg (iRa w) →
    b = (s.eng e.val).reg (iRb w) → zx = BitVec.ofNat 32 (iImm w) → sx = BitVec.ofInt 32 (signedOf 20 (iImm w)) →
    (iSop w = 0x00 → Completes (.nop e) s (ScalarDone e.val w [] s)) ∧
    (iSop w = 0x01 → Completes (.opAdd e) s (ScalarDone e.val w [(iRd w, a + b)] s)) ∧
    (iSop w = 0x02 → Completes (.opSub e) s (ScalarDone e.val w [(iRd w, a - b)] s)) ∧
    (iSop w = 0x03 → Completes (.opAnd e) s (ScalarDone e.val w [(iRd w, a &&& b)] s)) ∧
    (iSop w = 0x04 → Completes (.opOr e) s (ScalarDone e.val w [(iRd w, a ||| b)] s)) ∧
    (iSop w = 0x05 → Completes (.opXor e) s (ScalarDone e.val w [(iRd w, a ^^^ b)] s)) ∧
    (iSop w = 0x06 → Completes (.shl e) s (ScalarDone e.val w [(iRd w, a <<< (b.toNat % 32))] s)) ∧
    (iSop w = 0x07 → Completes (.shr e) s (ScalarDone e.val w [(iRd w, a >>> (b.toNat % 32))] s)) ∧
    (iSop w = 0x08 → Completes (.sra e) s (ScalarDone e.val w [(iRd w, a.sshiftRight (b.toNat % 32))] s)) ∧
    (iSop w = 0x09 → Completes (.opMin e) s (ScalarDone e.val w [(iRd w, if a.slt b then a else b)] s)) ∧
    (iSop w = 0x0A → Completes (.opMax e) s (ScalarDone e.val w [(iRd w, if a.slt b then b else a)] s)) ∧
    (iSop w = 0x0B → Completes (.mul e) s (ScalarDone e.val w [(iRd w, a * b)] s)) ∧
    (iSop w = 0x0C → Completes (.clz e) s (ScalarDone e.val w [(iRd w, BitVec.ofNat 32 (clz a.toNat 32))] s)) ∧
    (iSop w = 0x0D → Completes (.cmpeq e) s (ScalarDone e.val w [(iRd w, if a = b then 1 else 0)] s)) ∧
    (iSop w = 0x0E → Completes (.cmplt e) s (ScalarDone e.val w [(iRd w, if a.slt b then 1 else 0)] s)) ∧
    (iSop w = 0x0F → Completes (.cmpltu e) s (ScalarDone e.val w [(iRd w, if a.ult b then 1 else 0)] s)) ∧
    (iSop w = 0x10 → Completes (.addi e) s (ScalarDone e.val w [(iRd w, a + sx)] s)) ∧
    (iSop w = 0x11 → Completes (.andi e) s (ScalarDone e.val w [(iRd w, a &&& zx)] s)) ∧
    (iSop w = 0x12 → Completes (.ori e) s (ScalarDone e.val w [(iRd w, a ||| zx)] s)) ∧
    (iSop w = 0x13 → Completes (.xori e) s (ScalarDone e.val w [(iRd w, a ^^^ zx)] s)) ∧
    (iSop w = 0x14 → Completes (.shli e) s (ScalarDone e.val w [(iRd w, a <<< (iImm w % 32))] s)) ∧
    (iSop w = 0x15 → Completes (.shri e) s (ScalarDone e.val w [(iRd w, a >>> (iImm w % 32))] s)) ∧
    (iSop w = 0x16 → Completes (.srai e) s (ScalarDone e.val w [(iRd w, a.sshiftRight (iImm w % 32))] s)) ∧
    (iSop w = 0x17 → Completes (.opLi e) s (ScalarDone e.val w [(iRd w, sx)] s)) ∧
    (iSop w = 0x18 → Completes (.lui e) s (ScalarDone e.val w [(iRd w, BitVec.ofNat 32 (iImm w * 4096))] s)) ∧
    (iSop w = 0x19 →
      Completes (.dstep e) s (ScalarDone e.val w [(iRd w,
        (dstep ((s.eng e.val).reg (iRd w)) a b (iRd w == iRb w)).1), (iRb w,
        (dstep ((s.eng e.val).reg (iRd w)) a b (iRd w == iRb w)).2)] s)) ∧
    (iSop w = 0x1D →
      Completes (.agr e) s (ScalarDone e.val w [(iRd w, (s.eng e.val).agrValue (iGen w) (iGreg w))] s)) ∧
    (iSop w = 0x1E →
      Completes (.mfs e) s (ScalarDone e.val w [(iRd w,
        BitVec.ofNat 32 ((s.eng e.val).special (s.engEnv e.val) (iSpr w)))] s))

/-- SOP 0x1A, 0x1B, 0x1C and 0x1F of Table 7-3 (R219, R220, R223 to R225, R236). -/
def Obligations.ScalarMemoryAndSpecialRegisterRowsAct : Prop :=
  ∀ (e : Fin 96) (w : Nat) (s : State), Issues e.val w s →
    (iSop w = 0x1A →
      Completes (.ldp e) s fun t => (t.eng e.val).loads = [(2, iRd w,
        (Cy.load { x := (s.eng e.val) } ((s.eng e.val).pairAddr w)).2)] ∧ RegsAfter [] (s.eng e.val) (t.eng e.val) ∧
        (t.eng e.val).pc = ((s.eng e.val).next (s.eng e.val).pc).pc ∧ (scalarOnly w → OtherEngines e.val s t) ∧
        (scalarOnly w → OnlyChanges [.vec] s t)) ∧
    (iSop w = 0x1B ∧ spadWin ((s.eng e.val).pairAddr w) = 0 →
      Completes (.stp e) s fun t => (t.eng e.val).gather = some ⟨(s.eng e.val).pairAddr w / 32,
        2 ^ ((s.eng e.val).pairAddr w % 32 / 8),
        (((s.eng e.val).reg (iRd w)).toNat + ((s.eng e.val).reg (iRd w +
        1)).toNat * 2 ^ 32) * 2 ^ (64 * ((s.eng e.val).pairAddr w % 32 / 8))⟩ ∧
        (t.eng e.val).spad = (s.eng e.val).spad ∧ RegsAfter [] (s.eng e.val) (t.eng e.val) ∧
        (t.eng e.val).pc = ((s.eng e.val).next (s.eng e.val).pc).pc ∧ (scalarOnly w → OnlyChanges [.vec] s t)) ∧
    (iSop w = 0x1C →
      Completes (.agw e) s fun t => (t.eng e.val).gen (iGen w) (iGreg w) =
        agwValue (iGen w) (iGreg w) ((s.eng e.val).reg (iRd w)).toNat ∧ RegsAfter [] (s.eng e.val) (t.eng e.val) ∧
        (t.eng e.val).pc = ((s.eng e.val).next (s.eng e.val).pc).pc ∧
        (scalarOnly w → t.eng e.val = { (s.eng e.val).moved (t.eng e.val) with gens := (t.eng e.val).gens } ∧
        ∀ g < 3, ∀ i < 8, (g, i) ≠ (iGen w, iGreg w) → (t.eng e.val).gen g i = (s.eng e.val).gen g i) ∧
        (scalarOnly w → OnlyChanges [.vec] s t)) ∧
    (iSop w = 0x1F ∧ iSpr w = 0x10 →
      Completes (.mts e) s fun t => (scalarOnly w →
        t.eng e.val = { (s.eng e.val).moved (t.eng e.val) with osh := ((s.eng e.val).reg (iRd w)).toNat }) ∧
        RegsAfter [] (s.eng e.val) (t.eng e.val) ∧ (t.eng e.val).pc = ((s.eng e.val).next (s.eng e.val).pc).pc ∧
        (scalarOnly w → OnlyChanges [.vec] s t)) ∧
    (iSop w = 0x1F ∧ iSpr w = 0x11 →
      Completes (.mts e) s fun t => (scalarOnly w →
        t.eng e.val = { (s.eng e.val).moved (t.eng e.val) with ush := ((s.eng e.val).reg (iRd w)).toNat }) ∧
        RegsAfter [] (s.eng e.val) (t.eng e.val) ∧ (t.eng e.val).pc = ((s.eng e.val).next (s.eng e.val).pc).pc ∧
        (scalarOnly w → OnlyChanges [.vec] s t)) ∧
    (iSop w = 0x1F ∧ iSpr w = 0x12 →
      Completes (.mts e) s fun t => (scalarOnly w →
        t.eng e.val = { (s.eng e.val).moved (t.eng e.val) with ie := ((s.eng e.val).reg (iRd w)).toNat % 32 }) ∧
        RegsAfter [] (s.eng e.val) (t.eng e.val) ∧ (t.eng e.val).pc = ((s.eng e.val).next (s.eng e.val).pc).pc ∧
        (scalarOnly w → OnlyChanges [.vec] s t)) ∧
    (iSop w = 0x1F ∧ iSpr w = 0x13 →
      Completes (.mts e) s fun t => (scalarOnly w →
        t.eng e.val = { (s.eng e.val).moved (t.eng e.val) with ip := (s.eng e.val).ip &&& (15 - ((s.eng e.val).reg (iRd w)).toNat % 16) }) ∧
        RegsAfter [] (s.eng e.val) (t.eng e.val) ∧ (t.eng e.val).pc = ((s.eng e.val).next (s.eng e.val).pc).pc ∧
        (scalarOnly w → OnlyChanges [.vec] s t)) ∧
    (iSop w = 0x1F ∧ iSpr w = 0x14 →
      Completes (.mts e) s fun t => (scalarOnly w →
        t.eng e.val = { (s.eng e.val).moved (t.eng e.val) with epc := ((s.eng e.val).reg (iRd w)).toNat % 2048 }) ∧
        RegsAfter [] (s.eng e.val) (t.eng e.val) ∧ (t.eng e.val).pc = ((s.eng e.val).next (s.eng e.val).pc).pc ∧
        (scalarOnly w → OnlyChanges [.vec] s t)) ∧
    (iSop w = 0x1F ∧ iSpr w = 0x15 →
      Completes (.mts e) s fun t => (scalarOnly w →
        t.eng e.val = { (s.eng e.val).moved (t.eng e.val) with restart := ((s.eng e.val).reg (iRd w)).toNat % 2048 }) ∧
        RegsAfter [] (s.eng e.val) (t.eng e.val) ∧ (t.eng e.val).pc = ((s.eng e.val).next (s.eng e.val).pc).pc ∧
        (scalarOnly w → OnlyChanges [.vec] s t)) ∧
    (iSop w = 0x1F ∧ iSpr w = 0x16 ∧ scalarOnly w →
      Completes (.mts e) s fun t => (t.eng e.val) = (s.eng e.val).moved (t.eng e.val) ∧
        t.fld (F.VE_STATUS_SAT e.val) = (if ((s.eng e.val).reg (iRd w)).getLsbD 0
        then 0 else s.fld (F.VE_STATUS_SAT e.val)) ∧ RegsAfter [] (s.eng e.val) (t.eng e.val) ∧
        (t.eng e.val).pc = ((s.eng e.val).next (s.eng e.val).pc).pc ∧ OnlyChanges [.regs, .vec] s t)

/-- SOP 0x20 to 0x2B, SDONE_COMPLETE and INTERRUPT_ENTRY (R219, R221, R238 to R240, R242, R243, R246, R247). -/
def Obligations.BranchesLoopsWaitsAndInterruptsMoveVePc : Prop :=
  (∀ (e : Fin 96) (w : Nat) (s : State), Issues e.val w s →
    (iSop w = 0x20 →
      Completes (.beq e) s fun t => (t.eng e.val).slots = some ⟨2,
        if (s.eng e.val).reg (iRd w) = (s.eng e.val).reg (iRa w) then some (iTgt w) else none, false⟩ ∧
        (t.eng e.val).pc = ((s.eng e.val).pc + 1) % 2048 ∧ RegsAfter [] (s.eng e.val) (t.eng e.val) ∧
        (scalarOnly w → t.eng e.val = (s.eng e.val).moved (t.eng e.val)) ∧ (scalarOnly w → OnlyChanges [.vec] s t)) ∧
    (iSop w = 0x21 →
      Completes (.bne e) s fun t => (t.eng e.val).slots = some ⟨2,
        if (s.eng e.val).reg (iRd w) = (s.eng e.val).reg (iRa w) then none else some (iTgt w), false⟩ ∧
        (t.eng e.val).pc = ((s.eng e.val).pc + 1) % 2048 ∧ RegsAfter [] (s.eng e.val) (t.eng e.val) ∧
        (scalarOnly w → t.eng e.val = (s.eng e.val).moved (t.eng e.val)) ∧ (scalarOnly w → OnlyChanges [.vec] s t)) ∧
    (iSop w = 0x22 →
      Completes (.blt e) s fun t => (t.eng e.val).slots = some ⟨2,
        if ((s.eng e.val).reg (iRd w)).slt ((s.eng e.val).reg (iRa w)) then some (iTgt w) else none, false⟩ ∧
        (t.eng e.val).pc = ((s.eng e.val).pc + 1) % 2048 ∧ RegsAfter [] (s.eng e.val) (t.eng e.val) ∧
        (scalarOnly w → t.eng e.val = (s.eng e.val).moved (t.eng e.val)) ∧ (scalarOnly w → OnlyChanges [.vec] s t)) ∧
    (iSop w = 0x23 →
      Completes (.bge e) s fun t => (t.eng e.val).slots = some ⟨2,
        if ((s.eng e.val).reg (iRd w)).slt ((s.eng e.val).reg (iRa w)) then none else some (iTgt w), false⟩ ∧
        (t.eng e.val).pc = ((s.eng e.val).pc + 1) % 2048 ∧ RegsAfter [] (s.eng e.val) (t.eng e.val) ∧
        (scalarOnly w → t.eng e.val = (s.eng e.val).moved (t.eng e.val)) ∧ (scalarOnly w → OnlyChanges [.vec] s t)) ∧
    (iSop w = 0x24 →
      Completes (.br e) s fun t => (t.eng e.val).slots = some ⟨2, some (iTgt w), false⟩ ∧
        (t.eng e.val).pc = ((s.eng e.val).pc + 1) % 2048 ∧ RegsAfter [] (s.eng e.val) (t.eng e.val) ∧
        (scalarOnly w → t.eng e.val = (s.eng e.val).moved (t.eng e.val)) ∧ (scalarOnly w → OnlyChanges [.vec] s t)) ∧
    (iSop w = 0x25 →
      Completes (.bri e) s fun t => (t.eng e.val).slots = some ⟨2, some (((s.eng e.val).reg (iRa w)).toNat % 2048),
        false⟩ ∧ (t.eng e.val).pc = ((s.eng e.val).pc + 1) % 2048 ∧ RegsAfter [] (s.eng e.val) (t.eng e.val) ∧
        (scalarOnly w → t.eng e.val = (s.eng e.val).moved (t.eng e.val)) ∧ (scalarOnly w → OnlyChanges [.vec] s t)) ∧
    (iSop w = 0x26 →
      Completes (.call e) s fun t => (t.eng e.val).slots = some ⟨2, some (iTgt w), false⟩ ∧
        (t.eng e.val).pc = ((s.eng e.val).pc + 1) % 2048 ∧
        RegsAfter [(15, BitVec.ofNat 32 ((s.eng e.val).pc + 3))] (s.eng e.val) (t.eng e.val) ∧
        (scalarOnly w → t.eng e.val = (s.eng e.val).moved (t.eng e.val)) ∧ (scalarOnly w → OnlyChanges [.vec] s t)) ∧
    (iSop w = 0x27 ∧ (if bitsOf w 29 29 = 1
      then min ((s.eng e.val).reg (iRd w)).toNat 4096 else bitsOf w 23 12 + 1) ≠ 0 →
      Completes (.opRep e) s fun t => (t.eng e.val).rep = some (if bitsOf w 29 29 = 1
        then min ((s.eng e.val).reg (iRd w)).toNat 4096 else bitsOf w 23 12 + 1) ∧
        (t.eng e.val).pc = ((s.eng e.val).pc + 1) % 2048 ∧ RegsAfter [] (s.eng e.val) (t.eng e.val) ∧
        (scalarOnly w → OnlyChanges [.vec] s t)) ∧
    (iSop w = 0x27 ∧ (if bitsOf w 29 29 = 1
      then min ((s.eng e.val).reg (iRd w)).toNat 4096 else bitsOf w 23 12 + 1) = 0 →
      Completes (.opRep e) s fun t => (t.eng e.val).rep = none ∧
        (t.eng e.val).pc = ({ (s.eng e.val) with pc := ((s.eng e.val).pc + 1) % 2048 }.after (((s.eng e.val).pc +
        1) % 2048)).pc ∧ RegsAfter [] (s.eng e.val) (t.eng e.val) ∧ (scalarOnly w → OnlyChanges [.vec] s t)) ∧
    (iSop w = 0x28 ∧ (s.eng e.val).countOf w 65535 ≠ 0 →
      Completes (.opLoop e) s fun t => (t.eng e.val).loops.map (fun f => (f.start, f.last,
        f.left)) = (((s.eng e.val).pc + 1) % 2048, iTgt w,
        (s.eng e.val).countOf w 65535) :: (s.eng e.val).loops.map (fun f => (f.start, f.last, f.left)) ∧
        (t.eng e.val).pc = ((s.eng e.val).pc + 1) % 2048 ∧ RegsAfter [] (s.eng e.val) (t.eng e.val) ∧
        (scalarOnly w → OnlyChanges [.vec] s t)) ∧
    (iSop w = 0x28 ∧ (s.eng e.val).countOf w 65535 = 0 →
      Completes (.opLoop e) s fun t => (t.eng e.val).pc = ((s.eng e.val).after (iTgt w)).pc ∧
        RegsAfter [] (s.eng e.val) (t.eng e.val) ∧ (scalarOnly w → OnlyChanges [.vec] s t)) ∧
    (iSop w = 0x29 ∧ (s.eng e.val).edge = false →
      Completes (.waitt e) s fun t => (t.eng e.val).wait = some (w % 2) ∧ (t.eng e.val).live = 0 ∧
        (t.eng e.val).valid = 0 ∧ (t.eng e.val).pc = (s.eng e.val).pc ∧ RegsAfter [] (s.eng e.val) (t.eng e.val) ∧
        (scalarOnly w → OnlyChanges [.vec] s t)) ∧
    (iSop w = 0x29 ∧ (s.eng e.val).edge = true ∧ (s.eng e.val).intWait = some (w % 2, (s.eng e.val).pc) →
      Completes (.waitt e) s fun t => (t.eng e.val).wait = none ∧
        (t.eng e.val).pc = ((s.eng e.val).next (s.eng e.val).pc).pc ∧ (t.eng e.val).live = 0 ∧
        (t.eng e.val).valid = 0 ∧ (scalarOnly w → OnlyChanges [.vec] s t)) ∧
    (iSop w = 0x2A →
      Completes (.sdone e) s fun t => (t.eng e.val).sdone = max 1 (s.eng e.val).sdone ∧
        (t.eng e.val).pc = ((s.eng e.val).next (s.eng e.val).pc).pc ∧ RegsAfter [] (s.eng e.val) (t.eng e.val) ∧
        (scalarOnly w → OnlyChanges [.vec] s t)) ∧
    (iSop w = 0x2B →
      Completes (.reti e) s fun t => (t.eng e.val).slots = some ⟨2, some (s.eng e.val).epc, true⟩ ∧
        (t.eng e.val).pc = ((s.eng e.val).pc + 1) % 2048 ∧ RegsAfter [] (s.eng e.val) (t.eng e.val) ∧
        (scalarOnly w → OnlyChanges [.vec] s t))) ∧
  (∀ (e : Fin 96) (s : State), (s.eng e.val).sdone = 1 → (s.eng e.val).pend.all (fun q => !q.old) = true →
    exec (.sdoneComplete e) s = .next (s.setEng e.val { s.eng e.val with sdone := 2 })) ∧
  (∀ (e : Fin 96) (s : State), (s.eng e.val).sdone ≠ 1 ∨ (s.eng e.val).pend.all (fun q => !q.old) = false →
    exec (.sdoneComplete e) s = .next s) ∧
  (∀ (e : Fin 96) (s : State) (idle n : Nat), (s.eng e.val).st = .running → s.veGated = false →
    (s.eng e.val).intDue = some n → (s.eng e.val).loads = [] → (s.eng e.val).slabWr = [] → (s.eng e.val).pend = [] →
    Completes (.interruptEntry e idle) s fun t =>
      t.eng e.val = { (s.eng e.val).moved (t.eng e.val) with
        epc := (s.eng e.val).pc, ie := clrBit (s.eng e.val).ie 4, hm := true, wait := none
        intWait := match (s.eng e.val).wait with
          | some m => some (m, (s.eng e.val).pc)
          | none => (s.eng e.val).intWait } ∧
      (t.eng e.val).pc = 2032 + 4 * n ∧
      (t.eng e.val).cyc = min ((s.eng e.val).cyc + (if (s.eng e.val).wait.isSome then idle else 0) + 2) 0xFFFFFFFF ∧
      RegsAfter [] (s.eng e.val) (t.eng e.val) ∧ OtherEngines e.val s t) ∧
  (∀ (e : Fin 96) (s : State) (idle : Nat),
    (s.eng e.val).st ≠ .running ∨ s.veGated = true ∨ (s.eng e.val).intDue = none →
    exec (.interruptEntry e idle) s = .next s) ∧
  (∀ (x : Eng) (pc t : Nat) (r : Bool), x.rep = none → x.slots = some ⟨1, some t, r⟩ → (x.next pc).pc = t) ∧
  (∀ (x : Eng) (pc n : Nat), x.rep = some (n + 2) → (x.next pc).pc = x.pc ∧ (x.next pc).rep = some (n + 1)) ∧
  (∀ (x : Eng) (pc : Nat), x.rep = none → x.slots = none → x.loops = [] → (x.next pc).pc = (pc + 1) % 2048)

/-- Vector opcodes 0 to 7 of Table 7-7 (R227 to R232, R234). -/
def Obligations.VectorOperationsComputeTheirBanks : Prop :=
  ∀ (e : Fin 96) (w : Nat) (s : State) (b d : Nat), Issues e.val w s → b = iVb w →
    d = (Cy.cRead { x := (s.eng e.val) } ((s.eng e.val).genAddr 0)).2.1 →
    (iVo w = 0 →
      Completes (.vnop e) s fun t => (t.eng e.val).acc = (s.eng e.val).acc ∧ (t.eng e.val).orf = (s.eng e.val).orf ∧
        (t.eng e.val).err = (s.eng e.val).err ∧ (t.eng e.val).slab.words = (s.eng e.val).slab.words ∧
        (iSop w ≠ 0x29 → (t.eng e.val).live = (s.eng e.val).live ∧ (t.eng e.val).valid = (s.eng e.val).valid) ∧
        (iSop w = 0 → RegsAfter [] (s.eng e.val) (t.eng e.val)) ∧
        OnlyChanges [.pending, .out, .regs, .cnt, .arb, .fns, .vec, .svl, .testLanes, .lanes, .mem] s t) ∧
    (iVo w = 1 ∧ iSop w ≠ 0x29 →
      Completes (.vmac e) s fun t => (∀ l < 12,
        (t.eng e.val).accAt b l 0 = satInt 48 ((s.eng e.val).accAt b l 0 +
        satInt 48 ((coefRe d l * sampleI ((t.eng e.val).xSample (iVh w)) - coefIm d l * (if iVv w = 1
        then -sampleQ ((t.eng e.val).xSample (iVh w))
        else sampleQ ((t.eng e.val).xSample (iVh w)))) * ((2 ^ (d % 32) : Nat) : Int))) ∧
        (t.eng e.val).accAt b l 1 = satInt 48 ((s.eng e.val).accAt b l 1 + satInt 48 ((coefRe d l * (if iVv w = 1
        then -sampleQ ((t.eng e.val).xSample (iVh w))
        else sampleQ ((t.eng e.val).xSample (iVh w))) +
        coefIm d l * sampleI ((t.eng e.val).xSample (iVh w))) * ((2 ^ (d % 32) : Nat) : Int)))) ∧
        (∀ l < 12, ∀ q < 2, (t.eng e.val).accAt (1 - b) l q = (s.eng e.val).accAt (1 - b) l q) ∧
        (t.eng e.val).live = setBit (s.eng e.val).live b ∧ (t.eng e.val).orf = (s.eng e.val).orf ∧
        (t.eng e.val).valid = (s.eng e.val).valid ∧ (iSop w = 0 → RegsAfter [] (s.eng e.val) (t.eng e.val)) ∧
        OnlyChanges [.pending, .out, .regs, .cnt, .arb, .fns, .vec, .svl, .testLanes, .lanes, .mem] s t) ∧
    (iVo w = 2 ∧ iSop w ≠ 0x29 →
      Completes (.vmacs e) s fun t => (∀ l < 12,
        (t.eng e.val).accAt b l 0 = satInt 48 ((coefRe d l * sampleI ((t.eng e.val).xSample (iVh w)) - coefIm d l *
        (if iVv w = 1 then -sampleQ ((t.eng e.val).xSample (iVh w))
        else sampleQ ((t.eng e.val).xSample (iVh w)))) * ((2 ^ (d % 32) : Nat) : Int)) ∧
        (t.eng e.val).accAt b l 1 = satInt 48 ((coefRe d l * (if iVv w = 1
        then -sampleQ ((t.eng e.val).xSample (iVh w))
        else sampleQ ((t.eng e.val).xSample (iVh w))) +
        coefIm d l * sampleI ((t.eng e.val).xSample (iVh w))) * ((2 ^ (d % 32) : Nat) : Int))) ∧
        (∀ l < 12, (t.eng e.val).orfAt b l =
        sampleOf (satInt 16 ((s.eng e.val).accAt b l 0 / (2 ^ min (s.eng e.val).osh 47 : Nat))) (satInt 16 ((s.eng e.val).accAt b l 1 / (2 ^ min (s.eng e.val).osh 47 : Nat)))) ∧
        (t.eng e.val).valid = putBit (s.eng e.val).valid b ((s.eng e.val).live.testBit b) ∧
        (t.eng e.val).live = setBit (s.eng e.val).live b ∧
        (∀ l < 12, ∀ q < 2, (t.eng e.val).accAt (1 - b) l q = (s.eng e.val).accAt (1 - b) l q) ∧
        (iSop w = 0 → RegsAfter [] (s.eng e.val) (t.eng e.val)) ∧
        OnlyChanges [.pending, .out, .regs, .cnt, .arb, .fns, .vec, .svl, .testLanes, .lanes, .mem] s t) ∧
    (iVo w = 3 ∧ iSop w ≠ 0x29 →
      Completes (.vcorr e) s fun t => (∀ l < 12,
        (t.eng e.val).accAt b l 0 = satInt 48 ((s.eng e.val).accAt b l 0 +
        satInt 48 (sgn (sampleI ((s.eng e.val).errAt l)) * sampleI ((t.eng e.val).xSample (iVh w)) +
        sgn (sampleQ ((s.eng e.val).errAt l)) * sampleQ ((t.eng e.val).xSample (iVh w)))) ∧
        (t.eng e.val).accAt b l 1 = satInt 48 ((s.eng e.val).accAt b l 1 +
        satInt 48 (sgn (sampleQ ((s.eng e.val).errAt l)) *
        sampleI ((t.eng e.val).xSample (iVh w)) - sgn (sampleI ((s.eng e.val).errAt l)) *
        sampleQ ((t.eng e.val).xSample (iVh w))))) ∧
        (∀ l < 12, ∀ q < 2, (t.eng e.val).accAt (1 - b) l q = (s.eng e.val).accAt (1 - b) l q) ∧
        (t.eng e.val).live = setBit (s.eng e.val).live b ∧ (iSop w = 0 → RegsAfter [] (s.eng e.val) (t.eng e.val)) ∧
        OnlyChanges [.pending, .out, .regs, .cnt, .arb, .fns, .vec, .svl, .testLanes, .lanes, .mem] s t) ∧
    (iVo w = 4 →
      Completes (.vlde e) s fun t => (∀ i < 12, (t.eng e.val).errAt i = (if i = 2 * (s.eng e.val).gen 1 6
        then (t.eng e.val).xh % 2 ^ 32 else if i = 2 * (s.eng e.val).gen 1 6 + 1
        then (t.eng e.val).xh / 2 ^ 32 else (s.eng e.val).errAt i)) ∧
        (iSop w ≠ 0x1C → iAct w 1 ≠ 7 → (t.eng e.val).gen 1 6 = ((s.eng e.val).gen 1 6 + 1) % 6) ∧
        (t.eng e.val).acc = (s.eng e.val).acc ∧ (iSop w = 0 → RegsAfter [] (s.eng e.val) (t.eng e.val)) ∧
        OnlyChanges [.pending, .out, .regs, .cnt, .arb, .fns, .vec, .svl, .testLanes, .lanes, .mem] s t) ∧
    (iVo w = 5 →
      Completes (.vcupd e) s fun t => (t.eng e.val).slabWr.map (fun q => (q.1, q.2.1)) = [(2,
        ((s.eng e.val).genAddr 0 + (s.eng e.val).gen 0 7) % 65536)] ∧
        (∀ q ∈ (t.eng e.val).slabWr, q.2.2 % 2 ^ 16 = d % 2 ^ 16 ∧
        ∀ l < 12, coefRe q.2.2 l = satInt 10 (coefRe d l +
        (s.eng e.val).accAt b l 0 / (2 ^ min (s.eng e.val).ush 47 : Nat)) ∧
        coefIm q.2.2 l = satInt 10 (coefIm d l + (s.eng e.val).accAt b l 1 / (2 ^ min (s.eng e.val).ush 47 : Nat))) ∧
        (t.eng e.val).acc = (s.eng e.val).acc ∧ (iSop w = 0 → RegsAfter [] (s.eng e.val) (t.eng e.val)) ∧
        OnlyChanges [.pending, .out, .regs, .cnt, .arb, .fns, .vec, .svl, .testLanes, .lanes, .mem] s t) ∧
    (iVo w = 6 ∧ iSop w ≠ 0x29 →
      Completes (.vsnap e) s fun t => (∀ k ∈ (if iVh w = 1
        then [0, 1] else [b]), ∀ l < 12,
        (t.eng e.val).orfAt k l = sampleOf (satInt 16 ((s.eng e.val).accAt k l 0 / (2 ^ min (s.eng e.val).osh 47 : Nat))) (satInt 16 ((s.eng e.val).accAt k l 1 / (2 ^ min (s.eng e.val).osh 47 : Nat)))) ∧
        (∀ k ∈ (if iVh w = 1 then [0, 1] else [b]), (t.eng e.val).valid.testBit k = (s.eng e.val).live.testBit k) ∧
        (∀ k ∈ (if iVh w = 1 then [0, 1] else [b]), ∀ l < 12, ∀ q < 2, (t.eng e.val).accAt k l q = (if iVv w = 1
        then 0 else (s.eng e.val).accAt k l q)) ∧
        (∀ k ∈ (if iVh w = 1 then [0, 1]
        else [b]), (t.eng e.val).live.testBit k = (iVv w == 0 && (s.eng e.val).live.testBit k)) ∧
        (iSop w = 0 → RegsAfter [] (s.eng e.val) (t.eng e.val)) ∧
        OnlyChanges [.pending, .out, .regs, .cnt, .arb, .fns, .vec, .svl, .testLanes, .lanes, .mem] s t) ∧
    (iVo w = 7 ∧ iSop w ≠ 0x29 →
      Completes (.vclr e) s fun t => (∀ k < 2, ∀ l < 12, ∀ q < 2, (t.eng e.val).accAt k l q = (if k ∈ (if iVh w = 1
        then [0, 1] else [b]) then 0 else (s.eng e.val).accAt k l q)) ∧
        (∀ k < 2, (t.eng e.val).live.testBit k = (!decide (k ∈ (if iVh w = 1
        then [0, 1] else [b])) && (s.eng e.val).live.testBit k)) ∧ (t.eng e.val).orf = (s.eng e.val).orf ∧
        (t.eng e.val).valid = (s.eng e.val).valid ∧ (iSop w = 0 → RegsAfter [] (s.eng e.val) (t.eng e.val)) ∧
        OnlyChanges [.pending, .out, .regs, .cnt, .arb, .fns, .vec, .svl, .testLanes, .lanes, .mem] s t)

/-- ACT 1 to 7 of Table 7-6 (R225, R227, R231, R236). -/
def Obligations.AddressGeneratorsAccessAndAdvance : Prop :=
  (∀ (e : Fin 96) (g : Fin 3) (w : Nat) (s : State) (org base ptr stride mod step sum inc : Int), Issues e.val w s →
    iSop w ≠ 0x1C → org = ((s.eng e.val).gen g.val 0 : Nat) → base = ((s.eng e.val).gen g.val 1 : Nat) →
    ptr = signedOf (genW g.val) ((s.eng e.val).gen g.val 2) →
    stride = signedOf (genW g.val) ((s.eng e.val).gen g.val 3) → mod = ((s.eng e.val).gen g.val 4 : Nat) →
    step = signedOf (genW g.val) ((s.eng e.val).gen g.val 5) → sum = ptr + stride →
    inc = (if iMod w 0 = 1 then 2 else 1) →
    (iAct w g.val = 1 →
      Completes (.acc e g) s fun t => (∀ i ∈ [0, 1, 2, 3, 4, 5],
        (t.eng e.val).gen g.val i = (s.eng e.val).gen g.val i) ∧
        (iSop w = 0 → RegsAfter [] (s.eng e.val) (t.eng e.val)) ∧
        (iVop w = 0 → ∀ h < 3, h ≠ g.val → iAct w h = 0 → ∀ i < 8, (t.eng e.val).gen h i = (s.eng e.val).gen h i) ∧
        OnlyChanges [.pending, .out, .regs, .cnt, .arb, .fns, .vec, .svl, .testLanes, .lanes, .mem] s t) ∧
    (iAct w g.val = 2 →
      Completes (.accAdv e g) s fun t => ((t.eng e.val).gen g.val 2 : Int) = (if mod ≠ 0 ∧
        mod ≤ sum then sum - mod else if mod ≠ 0 ∧ sum < 0 then sum + mod else sum) % (2 ^ genW g.val : Int) ∧
        ((t.eng e.val).gen g.val 1 : Int) = (if mod ≠ 0 ∧
        mod ≤ sum then (base + step) % (2 ^ genW g.val : Int) else if mod ≠ 0 ∧
        sum < 0 then (base - step) % (2 ^ genW g.val : Int) else base) ∧
        (g.val = 0 → ((t.eng e.val).gen g.val 6 : Int) = (if mod ≠ 0 ∧
        mod ≤ sum then (((s.eng e.val).gen g.val 6 : Nat) + inc) % 2048 else if mod ≠ 0 ∧
        sum < 0 then (((s.eng e.val).gen g.val 6 : Nat) - inc) % 2048
        else (((s.eng e.val).gen g.val 6 : Nat) : Int))) ∧
        (∀ i ∈ [0, 3, 4, 5], (t.eng e.val).gen g.val i = (s.eng e.val).gen g.val i) ∧
        (iSop w = 0 → RegsAfter [] (s.eng e.val) (t.eng e.val)) ∧
        (iVop w = 0 → ∀ h < 3, h ≠ g.val → iAct w h = 0 → ∀ i < 8, (t.eng e.val).gen h i = (s.eng e.val).gen h i) ∧
        OnlyChanges [.pending, .out, .regs, .cnt, .arb, .fns, .vec, .svl, .testLanes, .lanes, .mem] s t) ∧
    (iAct w g.val = 3 →
      Completes (.accT e g) s fun t => ((t.eng e.val).gen g.val 1 : Int) = (base + step) % (2 ^ genW g.val : Int) ∧
        ((t.eng e.val).gen g.val 2 : Int) = 0 ∧
        (g.val = 0 → ((t.eng e.val).gen g.val 6 : Int) = (((s.eng e.val).gen g.val 6 : Nat) + inc) % 2048) ∧
        (∀ i ∈ [0, 3, 4, 5], (t.eng e.val).gen g.val i = (s.eng e.val).gen g.val i) ∧
        (iSop w = 0 → RegsAfter [] (s.eng e.val) (t.eng e.val)) ∧
        (iVop w = 0 → ∀ h < 3, h ≠ g.val → iAct w h = 0 → ∀ i < 8, (t.eng e.val).gen h i = (s.eng e.val).gen h i) ∧
        OnlyChanges [.pending, .out, .regs, .cnt, .arb, .fns, .vec, .svl, .testLanes, .lanes, .mem] s t) ∧
    (iAct w g.val = 4 →
      Completes (.acc0 e g) s fun t => ((t.eng e.val).gen g.val 2 : Int) = 0 ∧
        (∀ i ∈ [0, 1, 3, 4, 5], (t.eng e.val).gen g.val i = (s.eng e.val).gen g.val i) ∧
        (iSop w = 0 → RegsAfter [] (s.eng e.val) (t.eng e.val)) ∧
        (iVop w = 0 → ∀ h < 3, h ≠ g.val → iAct w h = 0 → ∀ i < 8, (t.eng e.val).gen h i = (s.eng e.val).gen h i) ∧
        OnlyChanges [.pending, .out, .regs, .cnt, .arb, .fns, .vec, .svl, .testLanes, .lanes, .mem] s t) ∧
    (iAct w g.val = 5 →
      Completes (.adv e g) s fun t => ((t.eng e.val).gen g.val 2 : Int) = (if mod ≠ 0 ∧
        mod ≤ sum then sum - mod else if mod ≠ 0 ∧ sum < 0 then sum + mod else sum) % (2 ^ genW g.val : Int) ∧
        ((t.eng e.val).gen g.val 1 : Int) = (if mod ≠ 0 ∧
        mod ≤ sum then (base + step) % (2 ^ genW g.val : Int) else if mod ≠ 0 ∧
        sum < 0 then (base - step) % (2 ^ genW g.val : Int) else base) ∧
        (g.val = 0 → ((t.eng e.val).gen g.val 6 : Int) = (if mod ≠ 0 ∧
        mod ≤ sum then (((s.eng e.val).gen g.val 6 : Nat) + inc) % 2048 else if mod ≠ 0 ∧
        sum < 0 then (((s.eng e.val).gen g.val 6 : Nat) - inc) % 2048
        else (((s.eng e.val).gen g.val 6 : Nat) : Int))) ∧
        (∀ i ∈ [0, 3, 4, 5], (t.eng e.val).gen g.val i = (s.eng e.val).gen g.val i) ∧
        (iSop w = 0 → RegsAfter [] (s.eng e.val) (t.eng e.val)) ∧
        (iVop w = 0 → ∀ h < 3, h ≠ g.val → iAct w h = 0 → ∀ i < 8, (t.eng e.val).gen h i = (s.eng e.val).gen h i) ∧
        OnlyChanges [.pending, .out, .regs, .cnt, .arb, .fns, .vec, .svl, .testLanes, .lanes, .mem] s t) ∧
    (iAct w g.val = 6 →
      Completes (.tstep e g) s fun t => ((t.eng e.val).gen g.val 1 : Int) = (base + step) % (2 ^ genW g.val : Int) ∧
        ((t.eng e.val).gen g.val 2 : Int) = 0 ∧
        (g.val = 0 → ((t.eng e.val).gen g.val 6 : Int) = (((s.eng e.val).gen g.val 6 : Nat) + inc) % 2048) ∧
        (∀ i ∈ [0, 3, 4, 5], (t.eng e.val).gen g.val i = (s.eng e.val).gen g.val i) ∧
        (iSop w = 0 → RegsAfter [] (s.eng e.val) (t.eng e.val)) ∧
        (iVop w = 0 → ∀ h < 3, h ≠ g.val → iAct w h = 0 → ∀ i < 8, (t.eng e.val).gen h i = (s.eng e.val).gen h i) ∧
        OnlyChanges [.pending, .out, .regs, .cnt, .arb, .fns, .vec, .svl, .testLanes, .lanes, .mem] s t) ∧
    (iAct w g.val = 7 →
      Completes (.rst e g) s fun t => ((t.eng e.val).gen g.val 1 : Int) = org ∧
        ((t.eng e.val).gen g.val 2 : Int) = 0 ∧ (t.eng e.val).gen g.val 6 = 0 ∧
        (∀ i ∈ [0, 3, 4, 5], (t.eng e.val).gen g.val i = (s.eng e.val).gen g.val i) ∧
        (iSop w = 0 → RegsAfter [] (s.eng e.val) (t.eng e.val)) ∧
        (iVop w = 0 → ∀ h < 3, h ≠ g.val → iAct w h = 0 → ∀ i < 8, (t.eng e.val).gen h i = (s.eng e.val).gen h i) ∧
        OnlyChanges [.pending, .out, .regs, .cnt, .arb, .fns, .vec, .svl, .testLanes, .lanes, .mem] s t)) ∧
  (∀ (e : Fin 96) (w : Nat) (s : State), Issues e.val w s → iAct w 1 = 1 →
    Completes (.acc e 1) s fun t =>
      (t.eng e.val).xh = (Cy.load { x := s.eng e.val } ((s.eng e.val).genAddr 1)).2) ∧
  (∀ (e : Fin 96) (w i l : Nat) (s : State), Issues e.val w s → iAct w 2 = 1 → iVo w = 0 → iSop w = 0 →
    (s.eng e.val).suppressed (iMod w 2) = false → spadWin ((s.eng e.val).genAddr 2) = 0 →
    i = (s.eng e.val).genAddr 2 / 32 → l = (s.eng e.val).genAddr 2 % 32 / 8 →
    Completes (.acc e 2) s fun t =>
      (t.eng e.val).gather = some ⟨i, 2 ^ l, ((s.eng e.val).yValue (iMod w 2)).1 * 2 ^ (64 * l)⟩ ∧
      (t.eng e.val).gen 2 6 = ((s.eng e.val).yValue (iMod w 2)).2 ∧ (t.eng e.val).spad = (s.eng e.val).spad)

/-- R217, R218, R201 and R226. -/
def Obligations.OneInstructionCarriesUpToFiveOperations : Prop :=
  (∀ (e : Fin 96) (w : Nat) (s : State), Issues e.val w s → iSop w = 0x01 → iVo w = 1 → iAct w 0 = 2 → iAct w 1 = 1 →
    exec (.opAdd e) s = exec (.vmac e) s ∧ exec (.opAdd e) s = exec (.accAdv e 0) s ∧
    exec (.opAdd e) s = exec (.acc e 1) s) ∧
  (∀ (e : Fin 96) (w : Nat) (ce : Bool) (s : State), (s.eng e.val).fetch = ⟨some w, ce⟩ →
    (iSop w ≠ 0x01 → exec (.opAdd e) s = .next s) ∧ (iVo w ≠ 1 → exec (.vmac e) s = .next s) ∧
    ∀ g : Fin 3, iAct w g.val ≠ 2 → exec (.accAdv e g) s = .next s) ∧
  (∀ (e : Fin 96) (w c : Nat) (s : State), (s.eng e.val).mayIssue = true → s.veGated = false →
    (s.eng e.val).fetch = ⟨some w, false⟩ → (s.eng e.val).pend = [] → (s.eng e.val).gather = none →
      (s.eng e.val).loads = [] → (s.eng e.val).slabWr = [] →
    (s.eng e.val).faultOf w = some c → iSop w = 0x01 →
    Completes (.opAdd e) s fun t =>
      (t.eng e.val).st = .halted ∧ (t.eng e.val).faultCode = c ∧ (t.eng e.val).faultPc = (s.eng e.val).pc ∧
      RegsAfter [] (s.eng e.val) (t.eng e.val) ∧ OtherEngines e.val s t) ∧
  (∀ (e : Fin 96) (s : State), (s.eng e.val).mayIssue = false ∨ s.veGated = true →
    exec (.opAdd e) s = .next s ∧ exec (.vmac e) s = .next s) ∧
  (∀ (e : Fin 96) (s : State), (s.eng e.val).mayIssue = true → s.veGated = false → (s.eng e.val).fetch.word = none →
    Completes (.opAdd e) s fun t =>
      (t.eng e.val).st = (if s.flag F.VE_RETIRE_CFG_AUTO then .retiring else .halted) ∧ (t.eng e.val).faultCode = 4 ∧
      (t.eng e.val).faultPc = (s.eng e.val).pc) ∧
  (∀ (e : Fin 96) (w : Nat) (s : State), (s.eng e.val).mayIssue = true → s.veGated = false →
    (s.eng e.val).fetch = ⟨some w, true⟩ → iSop w = 0x01 → s.count (C.VE_SPAD_CE e.val) < 0xFFFFFFFE →
    Completes (.opAdd e) s fun t => s.count (C.VE_SPAD_CE e.val) < t.count (C.VE_SPAD_CE e.val))

/-- VG_DEFINE, VG_LADDER, VG_START, VG_STOP, VG_UNDEFINE, VG_THAW, VG_TG_RELEASE, VS_CUTOFF (chapter 08). -/
def Obligations.VectorGroupsAreDefinedStartedAndStopped : Prop :=
  (∀ (s : State) (p : Pkt) (g : Nat) (x : Group), Taken 0x2001 p s → g = byteAt p.bytes 0 → x = groupOf p.bytes →
    p.target = 0 → p.length = 4 + byteAt p.bytes 5 + byteAt p.bytes 6 → s.defineOk p.bytes x = true →
    s.groupRuns g = false → s.defineFits g x = true → s.ladderTests x = none →
    Ends (.vgDefine p) 0x2001 p s ⟨stDone, 0, []⟩ fun u =>
      u.vg g = { x with epoch := s.nextEpoch g, fences := (s.vg g).fences } ∧ (∀ h < 4, h ≠ g → u.vg h = s.vg h) ∧
      (∀ k < 96, u.eng k = s.eng k) ∧
      (∀ k < x.tgs.length, ∀ i < 6, u.fld (F.VE_BUF_BASE (x.tg k).eng i) = x.bufBase k i / 32 % 4096) ∧
      RegsKept (((List.range 96).flatMap (fun e => (List.range 6).map (R.VE_BUF e)))) s u ∧
      OnlyChanges [.regs, .vec] (s.afterTake p) u) ∧
  (∀ (s : State) (p : Pkt) (g : Nat) (x : Group), Taken 0x2001 p s → g = byteAt p.bytes 0 → x = groupOf p.bytes →
    p.target = 0 → p.length = 4 + byteAt p.bytes 5 + byteAt p.bytes 6 → s.defineOk p.bytes x = false →
    Ends (.vgDefine p) 0x2001 p s ⟨stBadParam, 0, []⟩ fun u =>
      OnlyChanges [] (s.afterTake p) u) ∧
  (∀ (s : State) (p : Pkt) (g : Nat) (x : Group), Taken 0x2001 p s → g = byteAt p.bytes 0 → x = groupOf p.bytes →
    p.target = 0 → p.length = 4 + byteAt p.bytes 5 + byteAt p.bytes 6 → s.defineOk p.bytes x = true →
    s.groupRuns g = true →
    Ends (.vgDefine p) 0x2001 p s ⟨stBusy, 0, []⟩ fun u =>
      OnlyChanges [] (s.afterTake p) u) ∧
  (∀ (s : State) (p : Pkt) (g : Nat) (x : Group), Taken 0x2001 p s → g = byteAt p.bytes 0 → x = groupOf p.bytes →
    p.target = 0 → p.length = 4 + byteAt p.bytes 5 + byteAt p.bytes 6 → s.defineOk p.bytes x = true →
    s.groupRuns g = false → s.defineFits g x = false →
    Ends (.vgDefine p) 0x2001 p s ⟨stNoResource, 0, []⟩ fun u =>
      OnlyChanges [] (s.afterTake p) u) ∧
  (∀ (s : State) (p : Pkt) (g : Nat) (x : Group) (st : Nat), Taken 0x2001 p s → g = byteAt p.bytes 0 →
    x = groupOf p.bytes → p.target = 0 → p.length = 4 + byteAt p.bytes 5 + byteAt p.bytes 6 →
    s.defineOk p.bytes x = true → s.groupRuns g = false → s.defineFits g x = true → s.ladderTests x = some st →
    Ends (.vgDefine p) 0x2001 p s ⟨st, 0, []⟩ fun u =>
      OnlyChanges [] (s.afterTake p) u) ∧
  (∀ (s : State) (p : Pkt) (g grade : Nat) (r : List RungTg), Taken 0x2002 p s → p.target = 0 →
    g = byteAt p.bytes 0 → grade = byteAt p.bytes 1 → g ≤ 3 → (s.vg g).state ≠ 0 →
    p.length = 1 + 4 * (s.vg g).tgs.length → grade ≤ 7 → rungZeros p.bytes (s.vg g).tgs.length = true →
    r = (List.range (s.vg g).tgs.length).map (rungEntry p.bytes) → (s.vg g).state = 1 →
    s.ladderTests { s.vg g with rungs := sparseSet (fun _ => []) (s.vg g).rungs grade r } = none →
    Ends (.vgLadder p) 0x2002 p s ⟨stDone, 0, []⟩ fun u =>
      (u.vg g).rungNow grade = r ∧ (∀ k < 8, k ≠ grade → (u.vg g).rungNow k = (s.vg g).rungNow k) ∧
      (∀ h < 4, h ≠ g → u.vg h = s.vg h) ∧ OnlyChanges [.vec] (s.afterTake p) u) ∧
  (∀ (s : State) (p : Pkt) (g grade : Nat) (r : List RungTg), Taken 0x2002 p s → p.target = 0 →
    g = byteAt p.bytes 0 → grade = byteAt p.bytes 1 → g ≤ 3 → (s.vg g).state ≠ 0 →
    p.length = 1 + 4 * (s.vg g).tgs.length → grade ≤ 7 → rungZeros p.bytes (s.vg g).tgs.length = true →
    r = (List.range (s.vg g).tgs.length).map (rungEntry p.bytes) → s.groupRuns g = true → grade ≠ 7 →
    s.ladderTests { s.vg g with nextRungs := (s.vg g).nextRungs.filter (fun q => q.1 != grade) ++ [(grade, r, s.tick.count.toNat)] } =
      none →
    Ends (.vgLadder p) 0x2002 p s ⟨stDone, 0, []⟩ fun u =>
      u.vg g = { s.vg g with nextRungs := (s.vg g).nextRungs.filter (fun q => q.1 != grade) ++ [(grade, r, s.tick.count.toNat)] } ∧
      (∀ h < 4, h ≠ g → u.vg h = s.vg h) ∧ OnlyChanges [.vec] (s.afterTake p) u) ∧
  (∀ (s : State) (p : Pkt) (g grade : Nat) (r : List RungTg), Taken 0x2002 p s → p.target = 0 →
    g = byteAt p.bytes 0 → grade = byteAt p.bytes 1 → g ≤ 3 → (s.vg g).state ≠ 0 →
    p.length = 1 + 4 * (s.vg g).tgs.length → grade ≤ 7 → rungZeros p.bytes (s.vg g).tgs.length = true →
    r = (List.range (s.vg g).tgs.length).map (rungEntry p.bytes) → s.groupRuns g = true → grade = 7 →
    Ends (.vgLadder p) 0x2002 p s ⟨stBusy, 0, []⟩ fun u =>
      OnlyChanges [] (s.afterTake p) u) ∧
  (∀ (s : State) (p : Pkt) (g grade : Nat) (r : List RungTg) (st : Nat), Taken 0x2002 p s → p.target = 0 →
    g = byteAt p.bytes 0 → grade = byteAt p.bytes 1 → g ≤ 3 → (s.vg g).state ≠ 0 →
    p.length = 1 + 4 * (s.vg g).tgs.length → grade ≤ 7 → rungZeros p.bytes (s.vg g).tgs.length = true →
    r = (List.range (s.vg g).tgs.length).map (rungEntry p.bytes) → (s.vg g).state = 1 →
    s.ladderTests { s.vg g with rungs := sparseSet (fun _ => []) (s.vg g).rungs grade r } = some st →
    Ends (.vgLadder p) 0x2002 p s ⟨st, 0, []⟩ fun u =>
      OnlyChanges [] (s.afterTake p) u) ∧
  (∀ (s : State) (p : Pkt) (g grade : Nat) (r : List RungTg) (st : Nat), Taken 0x2002 p s → p.target = 0 →
    g = byteAt p.bytes 0 → grade = byteAt p.bytes 1 → g ≤ 3 → (s.vg g).state ≠ 0 →
    p.length = 1 + 4 * (s.vg g).tgs.length → grade ≤ 7 → rungZeros p.bytes (s.vg g).tgs.length = true →
    r = (List.range (s.vg g).tgs.length).map (rungEntry p.bytes) → s.groupRuns g = true → grade ≠ 7 →
    s.ladderTests { s.vg g with nextRungs := (s.vg g).nextRungs.filter (fun q => q.1 != grade) ++ [(grade, r, s.tick.count.toNat)] } =
      some st →
    Ends (.vgLadder p) 0x2002 p s ⟨st, 0, []⟩ fun u =>
      OnlyChanges [] (s.afterTake p) u) ∧
  (∀ (s : State) (p : Pkt) (g grade : Nat), Taken 0x2002 p s → p.target = 0 → g = byteAt p.bytes 0 →
    grade = byteAt p.bytes 1 → g ≤ 3 → (s.vg g).state ≠ 0 → p.length = 1 + 4 * (s.vg g).tgs.length →
    (7 < grade ∨ rungZeros p.bytes (s.vg g).tgs.length = false) →
    Ends (.vgLadder p) 0x2002 p s ⟨stBadParam, 0, []⟩ fun u =>
      OnlyChanges [] (s.afterTake p) u) ∧
  (∀ (s : State) (p : Pkt) (g : Nat), Taken 0x2002 p s → p.target = 0 → g = byteAt p.bytes 0 → 1 ≤ p.length →
    (3 < g ∨ (s.vg g).state = 0) →
    Ends (.vgLadder p) 0x2002 p s ⟨stBadParam, 0, []⟩ fun u =>
      OnlyChanges [] (s.afterTake p) u) ∧
  (∀ (s : State) (p : Pkt) (g : Nat), Taken 0x2003 p s → p.length = 0 → g = p.target.toNat → g < 4 →
    s.overcast = false → (s.vg g).state = 1 → s.startChecks g = none →
    Accepts (.vgStart p) 0x2003 p s 0 fun u =>
      u.vg g = { s.vg g with state := 2, startAt := s.tick.count.toNat, startCmd := some (p.func.val, s.cmdId), stopAt := none, stopCmd := none } ∧
      (∀ h < 4, h ≠ g → u.vg h = s.vg h) ∧ u.running.testBit g = true ∧
      OnlyChanges [.vec, .running] (s.afterTake p) u) ∧
  (∀ (s : State) (p : Pkt) (g : Nat) (st : Nat), Taken 0x2003 p s → p.length = 0 → g = p.target.toNat → g < 4 →
    s.overcast = false → (s.vg g).state = 1 → s.startChecks g = some st →
    Ends (.vgStart p) 0x2003 p s ⟨st, 0, []⟩ fun u =>
      OnlyChanges [] (s.afterTake p) u) ∧
  (∀ (s : State) (p : Pkt) (g : Nat), Taken 0x2003 p s → p.length = 0 → g = p.target.toNat → g < 4 →
    s.overcast = false → (s.vg g).state = 0 →
    Ends (.vgStart p) 0x2003 p s ⟨stBadTarget, 0, []⟩ fun u =>
      OnlyChanges [] (s.afterTake p) u) ∧
  (∀ (s : State) (p : Pkt) (g : Nat), Taken 0x2003 p s → p.length = 0 → g = p.target.toNat → g < 4 →
    (s.overcast = true ∨ s.groupRuns g = true) →
    Ends (.vgStart p) 0x2003 p s ⟨stBusy, 0, []⟩ fun u =>
      OnlyChanges [] (s.afterTake p) u) ∧
  (∀ (s : State) (p : Pkt) (g : Nat), Taken 0x2004 p s → p.length = 0 → g = p.target.toNat → g < 4 →
    ((s.vg g).state = 2 ∨ (s.vg g).state = 3) → (s.vg g).stopAt = none →
    Accepts (.vgStop p) 0x2004 p s 0 fun u =>
      u.vg g = { s.vg g with state := if (s.vg g).state = 3 then 4 else (s.vg g).state, stopAt := some s.tick.count.toNat, stopCmd := some (p.func.val, s.cmdId) } ∧
      (∀ h < 4, h ≠ g → u.vg h = s.vg h) ∧ OnlyChanges [.vec] (s.afterTake p) u) ∧
  (∀ (s : State) (p : Pkt) (g : Nat), Taken 0x2004 p s → p.length = 0 → g = p.target.toNat → g < 4 →
    ((s.vg g).state = 1 ∨ (s.vg g).state = 4 ∨ ((s.vg g).state ≠ 0 ∧ (s.vg g).stopAt ≠ none)) →
    Ends (.vgStop p) 0x2004 p s ⟨stBusy, 0, []⟩ fun u =>
      OnlyChanges [] (s.afterTake p) u) ∧
  (∀ (s : State) (p : Pkt) (g : Nat), Taken 0x200A p s → p.length = 0 → g = p.target.toNat → g < 4 →
    (s.vg g).state = 1 →
    Ends (.vgUndefine p) 0x200A p s ⟨stDone, 0, []⟩ fun u =>
      u.vg g = { epoch := (s.vg g).epoch, fences := (s.vg g).fences } ∧ (∀ h < 4, h ≠ g → u.vg h = s.vg h) ∧
      (∀ k < 96, (u.eng k).spareOf = (if (s.eng k).spareOf = some g then none else (s.eng k).spareOf)) ∧
      OnlyChanges [.vec] (s.afterTake p) u) ∧
  (∀ (s : State) (p : Pkt) (g : Nat), Taken 0x200A p s → p.length = 0 → g = p.target.toNat → g < 4 →
    s.groupRuns g = true →
    Ends (.vgUndefine p) 0x200A p s ⟨stBusy, 0, []⟩ fun u =>
      OnlyChanges [] (s.afterTake p) u) ∧
  (∀ (s : State) (p : Pkt) (g : Nat), Taken 0x200B p s → p.length = 0 → g = p.target.toNat → g < 4 →
    (s.vg g).state ≠ 0 →
    Ends (.vgThaw p) 0x200B p s ⟨stDone, 0, []⟩ fun u =>
      u.vg g = { s.vg g with frozen := false } ∧ (∀ h < 4, h ≠ g → u.vg h = s.vg h) ∧
      OnlyChanges [.vec] (s.afterTake p) u) ∧
  (∀ (s : State) (p : Pkt) (g : Nat), p.length = 0 → g = p.target.toNat → g < 4 → (s.vg g).state = 0 →
    ((Taken 0x2004 p s → Ends (.vgStop p) 0x2004 p s ⟨stBadTarget, 0,
      []⟩ (fun u => OnlyChanges [] (s.afterTake p) u)) ∧
      (Taken 0x200A p s → Ends (.vgUndefine p) 0x200A p s ⟨stBadTarget, 0,
        []⟩ (fun u => OnlyChanges [] (s.afterTake p) u)) ∧
      (Taken 0x200B p s → Ends (.vgThaw p) 0x200B p s ⟨stBadTarget, 0,
        []⟩ (fun u => OnlyChanges [] (s.afterTake p) u)))) ∧
  (∀ (s : State) (p : Pkt) (g k : Nat), Taken 0x2009 p s → p.length = 0 → p.target.toNat < 96 →
    s.serves p.target.toNat = some (g, k) → ((s.vg g).tg k).est = true →
    Ends (.vgTgRelease p) 0x2009 p s ⟨stDone, 0, []⟩ fun u =>
      (u.vg g).tg k = { (s.vg g).tg k with relAt := some s.tick.count.toNat } ∧ (∀ h < 4, h ≠ g → u.vg h = s.vg h) ∧
      OnlyChanges [.vec] (s.afterTake p) u) ∧
  (∀ (s : State) (p : Pkt) (g k : Nat), Taken 0x2009 p s → p.length = 0 → p.target.toNat < 96 →
    s.serves p.target.toNat = some (g, k) → ((s.vg g).tg k).est = false →
    Ends (.vgTgRelease p) 0x2009 p s ⟨stBusy, 0, []⟩ fun u =>
      OnlyChanges [] (s.afterTake p) u) ∧
  (∀ (s : State) (p : Pkt), Taken 0x2009 p s → p.length = 0 → p.target.toNat < 96 → s.serves p.target.toNat = none →
    Ends (.vgTgRelease p) 0x2009 p s ⟨stBadTarget, 0, []⟩ fun u =>
      OnlyChanges [] (s.afterTake p) u) ∧
  (∀ (s : State) (p : Pkt), Taken 0x200C p s → p.length = 1 → p.target = 0 → p.w 0 % 65536 ≤ 2047 →
    Ends (.vsCutoff p) 0x200C p s ⟨stDone, 0, []⟩ fun u =>
      u.vec = { s.vec with cutAt := some s.tick.count.toNat } ∧ u.rd R.VS_CUTOFF = s.rwAfter R.VS_CUTOFF (p.w 0) ∧
      RegsKept [R.VS_CUTOFF] s u ∧ OnlyChanges [.regs, .vec] (s.afterTake p) u) ∧
  (∀ (s : State) (p : Pkt), Taken 0x200C p s → p.length = 1 → p.target = 0 → 2047 < p.w 0 % 65536 →
    Ends (.vsCutoff p) 0x200C p s ⟨stBadParam, 0, []⟩ fun u =>
      OnlyChanges [] (s.afterTake p) u)

/-- VG_PARAM, VG_PARAM_DONE, VG_FENCE_WORDS, VG_FENCE_ABORT, VG_FENCE_COMMIT, FENCE_DRAIN_WORD, DMA_TILE_WRITE,
DMA_TILE_READ (R181, R187, R188, R192, R255, R261, R263 to R266, R297). -/
def Obligations.ParametersFencesAndTilesReachTheEngines : Prop :=
  (∀ (s : State) (p : Pkt), Taken 0x2005 p s → 4 ≤ p.length → p.length ≤ 1002 → p.target.toNat < 3 →
    p.w 0 + (p.bytes.drop 8).length ≤ 0x20000 →
    (∀ e ∈ maskEngines p.target.toNat (p.w 1), s.overlapsBuf e (p.w 0) (p.bytes.drop 8).length = false) →
    Begins (.vgParam p) 0x2005 p s fun u =>
      u.vec = { s.vec with params := s.vec.params ++ [⟨maskEngines p.target.toNat (p.w 1), p.w 0, p.bytes.drop 8, p.func.val, s.cmdId, false⟩] } ∧
      OnlyChanges [.vec] (s.afterTake p) u) ∧
  (∀ (s : State) (p : Pkt), Taken 0x2005 p s → 4 ≤ p.length → p.length ≤ 1002 → p.target.toNat < 3 →
    (0x20000 < p.w 0 + (p.bytes.drop 8).length ∨
      (maskEngines p.target.toNat (p.w 1)).any (fun e => s.overlapsBuf e (p.w 0) (p.bytes.drop 8).length) = true) →
    Ends (.vgParam p) 0x2005 p s ⟨stBadParam, 0, []⟩ fun u =>
      OnlyChanges [] (s.afterTake p) u) ∧
  (∀ (s : State) (j : ParamJob) (js : List ParamJob), s.vec.params = j :: js → j.begun = true → j.engines.Nodup →
    s.injection 5 = none →
    ∃ v, exec .vgParamDone s = .next (v.endLater j.func j.id ⟨stDone, 0, []⟩) ∧
      (∀ e ∈ j.engines, v.eng e = Eng.putBytes 127 (s.eng e) j.addr j.block) ∧ v.vec.params = js ∧
      (∀ k, k ∉ j.engines → v.eng k = s.eng k) ∧ OnlyChanges [.vec] s v) ∧
  (∀ (s : State) (e : Nat) (j : ParamJob) (js : List ParamJob) (d : Codeword), s.vec.params = j :: js →
    j.begun = true → j.engines = [e] → s.injection 5 = some d →
    ∃ v, exec .vgParamDone s = .next (v.endLater j.func j.id ⟨stDone, 0, []⟩) ∧
      (v.eng e).spadWord (j.addr / 32) = (Eng.putBytes 127 (s.eng e) j.addr j.block).spadWord (j.addr / 32) ^^^ d ∧
        v.flag F.MEM_INJ_GO = false ∧
      v.vec.params = js ∧ (∀ k, k ≠ e → v.eng k = s.eng k) ∧ OnlyChanges [.vec, .regs] s v) ∧
  (∀ (x : Eng) (addr n : Nat) (bs : List Byte), bs ≠ [] → addr % 32 + bs.length ≤ 32 →
    (bs.length = 32 ∨ (decodeWord (x.spadWord (addr / 32)) matches .bad) = false) →
    (Eng.putBytes (n + 1) x addr bs).spadWord (addr / 32) =
        encodeWord (ofLe (spliceB (dataBytes (deliveredData (x.spadWord (addr / 32)))) (addr % 32) bs)) ∧
      ∀ k, k ≠ addr / 32 → (Eng.putBytes (n + 1) x addr bs).spadWord k = x.spadWord k) ∧
  (∀ (s : State), (s.vec.params.head?.map (·.begun)).getD false = false →
    exec (.vgParamDone) s = .next (s)) ∧
  (∀ (s : State) (p : Pkt) (g k : Nat) (m : Sparse (Option Nat)), Taken 0x2006 p s → 9 ≤ p.length →
    p.length % 9 = 0 → p.target.toNat < 96 → s.serves p.target.toNat = some (g, k) → ((s.vg g).tg k).commit = none →
    stageWords ((s.vg g).tg k).staged p.bytes (p.length / 9) = (m, true) →
    Ends (.vgFenceWords p) 0x2006 p s ⟨stDone, 0, []⟩ fun u =>
      (u.vg g).tg k = { (s.vg g).tg k with staged := m } ∧ (∀ h < 4, h ≠ g → u.vg h = s.vg h) ∧
      OnlyChanges [.vec] (s.afterTake p) u) ∧
  (∀ (s : State) (p : Pkt) (g k : Nat) (m : Sparse (Option Nat)), Taken 0x2006 p s → 9 ≤ p.length →
    p.length % 9 = 0 → p.target.toNat < 96 → s.serves p.target.toNat = some (g, k) → ((s.vg g).tg k).commit = none →
    stageWords ((s.vg g).tg k).staged p.bytes (p.length / 9) = (m, false) →
    Ends (.vgFenceWords p) 0x2006 p s ⟨stNoResource, 0, []⟩ fun u =>
      (u.vg g).tg k = { (s.vg g).tg k with staged := m } ∧ (∀ h < 4, h ≠ g → u.vg h = s.vg h) ∧
      OnlyChanges [.vec] (s.afterTake p) u) ∧
  (∀ (s : State) (p : Pkt) (g k : Nat), Taken 0x2006 p s → 9 ≤ p.length → p.length % 9 = 0 → p.target.toNat < 96 →
    s.serves p.target.toNat = some (g, k) → ((s.vg g).tg k).commit ≠ none →
    Ends (.vgFenceWords p) 0x2006 p s ⟨stBusy, 0, []⟩ fun u =>
      OnlyChanges [] (s.afterTake p) u) ∧
  (∀ (s : State) (p : Pkt), Taken 0x2006 p s → 9 ≤ p.length → p.length % 9 = 0 → p.target.toNat < 96 →
    s.serves p.target.toNat = none →
    Ends (.vgFenceWords p) 0x2006 p s ⟨stBadTarget, 0, []⟩ fun u =>
      OnlyChanges [] (s.afterTake p) u) ∧
  (∀ (s : State) (p : Pkt) (g k : Nat), Taken 0x2008 p s → p.length = 0 → p.target.toNat < 96 →
    s.serves p.target.toNat = some (g, k) → ((s.vg g).tg k).commit = none →
    Ends (.vgFenceAbort p) 0x2008 p s ⟨stDone, 0, []⟩ fun u =>
      (u.vg g).tg k = { (s.vg g).tg k with staged := [] } ∧ (∀ h < 4, h ≠ g → u.vg h = s.vg h) ∧
      OnlyChanges [.vec] (s.afterTake p) u) ∧
  (∀ (s : State) (p : Pkt) (g k : Nat), Taken 0x2008 p s → p.length = 0 → p.target.toNat < 96 →
    s.serves p.target.toNat = some (g, k) → ((s.vg g).tg k).commit ≠ none →
    Ends (.vgFenceAbort p) 0x2008 p s ⟨stBusy, 0, []⟩ fun u =>
      OnlyChanges [] (s.afterTake p) u) ∧
  (∀ (s : State) (p : Pkt), Taken 0x2008 p s → p.length = 0 → p.target.toNat < 96 → s.serves p.target.toNat = none →
    Ends (.vgFenceAbort p) 0x2008 p s ⟨stBadTarget, 0, []⟩ fun u =>
      OnlyChanges [] (s.afterTake p) u) ∧
  (∀ (s : State) (p : Pkt) (g : Nat) (ks : List Nat), Taken 0x2007 p s → 1 ≤ p.length → p.length ≤ 96 →
    g = p.target.toNat → g < 4 → ks = p.payload.map (fun w => w.toNat % 256) → (s.vg g).state ≠ 0 → ks.Nodup →
    (∀ k ∈ ks, k < (s.vg g).tgs.length ∧ ((s.vg g).tg k).commit = none ∧
      (s.eng ((s.vg g).tg k).eng).slab.overlay = []) →
    Accepts (.vgFenceCommit p) 0x2007 p s 0 fun u =>
      (u.vg g).fences = (s.vg g).fences ++ [⟨ks, s.tick.count.toNat, p.func.val, s.cmdId⟩] ∧
      (∀ w ∈ p.payload, ((u.vg g).tg (w.toNat % 256)).commit = some (w.toNat / 65536)) ∧
      (∀ h < 4, h ≠ g → u.vg h = s.vg h) ∧ OnlyChanges [.vec] (s.afterTake p) u) ∧
  (∀ (s : State) (p : Pkt) (g : Nat) (ks : List Nat), Taken 0x2007 p s → 1 ≤ p.length → p.length ≤ 96 →
    g = p.target.toNat → g < 4 → ks = p.payload.map (fun w => w.toNat % 256) → (s.vg g).state = 0 →
    Ends (.vgFenceCommit p) 0x2007 p s ⟨stBadTarget, 0, []⟩ fun u =>
      OnlyChanges [] (s.afterTake p) u) ∧
  (∀ (s : State) (p : Pkt) (g : Nat) (ks : List Nat), Taken 0x2007 p s → 1 ≤ p.length → p.length ≤ 96 →
    g = p.target.toNat → g < 4 → ks = p.payload.map (fun w => w.toNat % 256) → (s.vg g).state ≠ 0 →
    (ks.any (fun k => decide ((s.vg g).tgs.length ≤ k)) = true ∨ ¬ ks.Nodup) →
    Ends (.vgFenceCommit p) 0x2007 p s ⟨stBadParam, 0, []⟩ fun u =>
      OnlyChanges [] (s.afterTake p) u) ∧
  (∀ (s : State) (p : Pkt) (g : Nat) (ks : List Nat), Taken 0x2007 p s → 1 ≤ p.length → p.length ≤ 96 →
    g = p.target.toNat → g < 4 → ks = p.payload.map (fun w => w.toNat % 256) → (s.vg g).state ≠ 0 → ks.Nodup →
    (∀ k ∈ ks, k < (s.vg g).tgs.length) →
    ks.any (fun k => ((s.vg g).tg k).commit.isSome || !(s.eng ((s.vg g).tg k).eng).slab.overlay.isEmpty) = true →
    Ends (.vgFenceCommit p) 0x2007 p s ⟨stBusy, 0, []⟩ fun u =>
      OnlyChanges [] (s.afterTake p) u) ∧
  (∀ (e : Fin 96) (s : State) (i d : Nat) (rest : Sparse (Option Nat)),
    (s.eng e.val).slab.overlay = (i, some d) :: rest → (s.eng e.val).slab.ready = true →
    ((s.eng e.val).st ≠ .running ∨ (s.eng e.val).wait.isSome = true ∨ (s.eng e.val).cFree = true) →
    s.injection 4 = none →
    Completes (.fenceDrainWord e) s fun t =>
      (t.eng e.val).slab = Slab.settle { (s.eng e.val).slab.setWord i (encodeWord d) with overlay := rest } e.val ∧
      (∀ k < 96, k ≠ e.val → t.eng k = s.eng k) ∧ OnlyChanges [.vec] s t) ∧
  (∀ (e : Fin 96) (s : State) (i d : Nat) (rest : Sparse (Option Nat)) (c : Codeword),
    (s.eng e.val).slab.overlay = (i, some d) :: rest → (s.eng e.val).slab.ready = true →
    ((s.eng e.val).st ≠ .running ∨ (s.eng e.val).wait.isSome = true ∨ (s.eng e.val).cFree = true) →
    s.injection 4 = some c →
    Completes (.fenceDrainWord e) s fun t =>
      ((s.eng e.val).slab.want = none → (t.eng e.val).slab.word i = encodeWord d ^^^ c) ∧
      t.flag F.MEM_INJ_GO = false ∧ (∀ k < 96, k ≠ e.val → t.eng k = s.eng k) ∧ RegsKept [R.MEM_INJ] s t ∧
      OnlyChanges [.vec, .regs] s t) ∧
  (∀ (e : Fin 96) (s : State),
    (((s.eng e.val).slab.overlay.head?.bind (·.2)) = none ∨ (s.eng e.val).slab.ready = false ∨
      ((s.eng e.val).st = .running ∧ (s.eng e.val).wait = none ∧ (s.eng e.val).cFree = false)) →
    exec (.fenceDrainWord e) s = .next (s)) ∧
  (∀ (g : Fin 4) (k : Fin 96) (q : Fin 16) (s : State) (y : Sym) (l n : Nat), k.val < (s.vg g.val).tgs.length →
    q.val < (s.vg g.val).ports.length → (s.vg g.val).owed k.val q.val = false → (s.vg g.val).inc = some y →
    l = s.portWidth ((s.vg g.val).port q.val).port → n = y.written k.val q.val →
    (s.vg g.val).outg.all (fun z => !(z.par == y.par && z.eng k.val == y.eng k.val && decide (z.readOut k.val q.val ≤ n) && decide (z.readOut k.val q.val < (s.vg g.val).tiles q.val k.val) && decide (n < (s.vg g.val).tiles q.val k.val))) =
      true →
    n < (s.vg g.val).tiles q.val k.val → (s.vg g.val).inOrder y k.val q.val false = true →
    ((s.svlPort ((s.vg g.val).port q.val).port).rxOf y.tick).atHand l false ((s.vg g.val).tgStart q.val k.val + n) =
      true →
    (s.eng (y.eng k.val)).portFree false = true →
    (s.eng (y.eng k.val)).midWrite (s.fld (F.VE_BUF_BASE (y.eng k.val) y.par) + (s.vg g.val).tileOffset q.val k.val +
      n) = false →
    s.injection 5 = none →
    Completes (.dmaTileWrite g k q) s fun t =>
      (∃ z, (t.vg g.val).inc = some z ∧ z.written k.val q.val = n + 1 ∧ z.tick = y.tick) ∧
      (t.eng (y.eng k.val)).spadWord ((s.fld (F.VE_BUF_BASE (y.eng k.val) y.par) +
        (s.vg g.val).tileOffset q.val k.val + n) % 4096) =
        ((s.svlPort ((s.vg g.val).port q.val).port).rxOf y.tick).tile l false ((s.vg g.val).tgStart q.val k.val + n) ∧
      (t.eng (y.eng k.val)).wrFree = false ∧ (∀ e < 96, e ≠ y.eng k.val → t.eng e = s.eng e) ∧
      (s.count (C.SVL_TILES_RX ((s.vg g.val).port q.val).port) < 0xFFFFFFFE →
        t.count (C.SVL_TILES_RX ((s.vg g.val).port q.val).port) =
        s.count (C.SVL_TILES_RX ((s.vg g.val).port q.val).port) + 1) ∧
      RegsKeptIn [fun _ => R.MEM_INJ, R.SVL_SAT] s t ∧ OnlyChanges [.regs, .cnt, .arb, .vec, .svl] s t) ∧
  (∀ (g : Fin 4) (k : Fin 96) (q : Fin 16) (s : State) (y : Sym) (l n : Nat), k.val < (s.vg g.val).tgs.length →
    q.val < (s.vg g.val).ports.length → (s.vg g.val).owed k.val q.val = true → (s.vg g.val).comp = some y →
    l = s.portWidth ((s.vg g.val).port q.val).port → n = y.written k.val q.val →
    (s.vg g.val).outg.all (fun z => !(z.par == y.par && z.eng k.val == y.eng k.val && decide (z.readOut k.val q.val ≤ n) && decide (z.readOut k.val q.val < (s.vg g.val).tiles q.val k.val) && decide (n < (s.vg g.val).tiles q.val k.val))) =
      true →
    n < (s.vg g.val).tiles q.val k.val → (s.vg g.val).inOrder y k.val q.val false = true →
    ((s.svlPort ((s.vg g.val).port q.val).port).rxOf y.tick).atHand l false ((s.vg g.val).tgStart q.val k.val + n) =
      true →
    (s.eng (y.eng k.val)).portFree false = true →
    (s.eng (y.eng k.val)).midWrite (s.fld (F.VE_BUF_BASE (y.eng k.val) y.par) + (s.vg g.val).tileOffset q.val k.val +
      n) = false →
    s.injection 5 = none →
    Completes (.dmaTileWrite g k q) s fun t =>
      (∃ z, (t.vg g.val).comp = some z ∧ z.written k.val q.val = n + 1 ∧ z.tick = y.tick) ∧
      (t.eng (y.eng k.val)).spadWord ((s.fld (F.VE_BUF_BASE (y.eng k.val) y.par) +
        (s.vg g.val).tileOffset q.val k.val + n) % 4096) =
        ((s.svlPort ((s.vg g.val).port q.val).port).rxOf y.tick).tile l false ((s.vg g.val).tgStart q.val k.val + n) ∧
      (t.eng (y.eng k.val)).wrFree = false ∧ (∀ e < 96, e ≠ y.eng k.val → t.eng e = s.eng e) ∧
      (s.count (C.SVL_TILES_RX ((s.vg g.val).port q.val).port) < 0xFFFFFFFE →
        t.count (C.SVL_TILES_RX ((s.vg g.val).port q.val).port) =
        s.count (C.SVL_TILES_RX ((s.vg g.val).port q.val).port) + 1) ∧
      RegsKeptIn [fun _ => R.MEM_INJ, R.SVL_SAT] s t ∧ OnlyChanges [.regs, .cnt, .arb, .vec, .svl] s t) ∧
  (∀ (g : Fin 4) (k : Fin 96) (q : Fin 16) (s : State) (y : Sym) (l n : Nat), k.val < (s.vg g.val).tgs.length →
    q.val < (s.vg g.val).ports.length → (s.vg g.val).owed k.val q.val = false → (s.vg g.val).inc = some y →
    l = s.portWidth ((s.vg g.val).port q.val).port → n = y.written k.val q.val →
    (s.vg g.val).outg.all (fun z => !(z.par == y.par && z.eng k.val == y.eng k.val && decide (z.readOut k.val q.val ≤ n) && decide (z.readOut k.val q.val < (s.vg g.val).tiles q.val k.val) && decide (n < (s.vg g.val).tiles q.val k.val))) =
      true →
    (s.vg g.val).tiles q.val k.val ≤ n → n < (s.vg g.val).tiles q.val k.val + (s.vg g.val).fbTiles →
    (s.vg g.val).inOrder y k.val q.val true = true →
    ((s.svlPort ((s.vg g.val).port q.val).port).rxOf y.tick).atHand l true (k.val * (s.vg g.val).fbTiles +
      (n - (s.vg g.val).tiles q.val k.val)) = true →
    s.updating (s.vg g.val) = true → (s.eng (y.eng k.val)).portFree false = true →
    (s.eng (y.eng k.val)).midWrite (s.fld (F.VE_BUF_BASE (y.eng k.val) (4 + y.par)) + q.val * (s.vg g.val).fbTiles +
      (n - (s.vg g.val).tiles q.val k.val)) = false →
    s.injection 5 = none →
    Completes (.dmaTileWrite g k q) s fun t =>
      (∃ z, (t.vg g.val).inc = some z ∧ z.written k.val q.val = n + 1 ∧ z.tick = y.tick) ∧
      (t.eng (y.eng k.val)).spadWord ((s.fld (F.VE_BUF_BASE (y.eng k.val) (4 + y.par)) +
        q.val * (s.vg g.val).fbTiles + (n - (s.vg g.val).tiles q.val k.val)) % 4096) =
        ((s.svlPort ((s.vg g.val).port q.val).port).rxOf y.tick).tile l true (k.val * (s.vg g.val).fbTiles +
        (n - (s.vg g.val).tiles q.val k.val)) ∧
      (t.eng (y.eng k.val)).wrFree = false ∧ (∀ e < 96, e ≠ y.eng k.val → t.eng e = s.eng e) ∧
      (s.count (C.SVL_TILES_RX ((s.vg g.val).port q.val).port) < 0xFFFFFFFE →
        t.count (C.SVL_TILES_RX ((s.vg g.val).port q.val).port) =
        s.count (C.SVL_TILES_RX ((s.vg g.val).port q.val).port) + 1) ∧
      RegsKeptIn [fun _ => R.MEM_INJ, R.SVL_SAT] s t ∧ OnlyChanges [.regs, .cnt, .arb, .vec, .svl] s t) ∧
  (∀ (g : Fin 4) (k : Fin 96) (q : Fin 16) (s : State) (y : Sym) (l n : Nat), k.val < (s.vg g.val).tgs.length →
    q.val < (s.vg g.val).ports.length → (s.vg g.val).owed k.val q.val = true → (s.vg g.val).comp = some y →
    l = s.portWidth ((s.vg g.val).port q.val).port → n = y.written k.val q.val →
    (s.vg g.val).outg.all (fun z => !(z.par == y.par && z.eng k.val == y.eng k.val && decide (z.readOut k.val q.val ≤ n) && decide (z.readOut k.val q.val < (s.vg g.val).tiles q.val k.val) && decide (n < (s.vg g.val).tiles q.val k.val))) =
      true →
    (s.vg g.val).tiles q.val k.val ≤ n → n < (s.vg g.val).tiles q.val k.val + (s.vg g.val).fbTiles →
    (s.vg g.val).inOrder y k.val q.val true = true →
    ((s.svlPort ((s.vg g.val).port q.val).port).rxOf y.tick).atHand l true (k.val * (s.vg g.val).fbTiles +
      (n - (s.vg g.val).tiles q.val k.val)) = true →
    s.updating (s.vg g.val) = true → (s.eng (y.eng k.val)).portFree false = true →
    (s.eng (y.eng k.val)).midWrite (s.fld (F.VE_BUF_BASE (y.eng k.val) (4 + y.par)) + q.val * (s.vg g.val).fbTiles +
      (n - (s.vg g.val).tiles q.val k.val)) = false →
    s.injection 5 = none →
    Completes (.dmaTileWrite g k q) s fun t =>
      (∃ z, (t.vg g.val).comp = some z ∧ z.written k.val q.val = n + 1 ∧ z.tick = y.tick) ∧
      (t.eng (y.eng k.val)).spadWord ((s.fld (F.VE_BUF_BASE (y.eng k.val) (4 + y.par)) +
        q.val * (s.vg g.val).fbTiles + (n - (s.vg g.val).tiles q.val k.val)) % 4096) =
        ((s.svlPort ((s.vg g.val).port q.val).port).rxOf y.tick).tile l true (k.val * (s.vg g.val).fbTiles +
        (n - (s.vg g.val).tiles q.val k.val)) ∧
      (t.eng (y.eng k.val)).wrFree = false ∧ (∀ e < 96, e ≠ y.eng k.val → t.eng e = s.eng e) ∧
      (s.count (C.SVL_TILES_RX ((s.vg g.val).port q.val).port) < 0xFFFFFFFE →
        t.count (C.SVL_TILES_RX ((s.vg g.val).port q.val).port) =
        s.count (C.SVL_TILES_RX ((s.vg g.val).port q.val).port) + 1) ∧
      RegsKeptIn [fun _ => R.MEM_INJ, R.SVL_SAT] s t ∧ OnlyChanges [.regs, .cnt, .arb, .vec, .svl] s t) ∧
  (∀ (g : Fin 4) (k : Fin 96) (q : Fin 16) (s : State) (y : Sym) (l n : Nat), k.val < (s.vg g.val).tgs.length →
    q.val < (s.vg g.val).ports.length → (s.vg g.val).owed k.val q.val = false → (s.vg g.val).inc = some y →
    l = s.portWidth ((s.vg g.val).port q.val).port → n = y.written k.val q.val →
    (s.vg g.val).outg.all (fun z => !(z.par == y.par && z.eng k.val == y.eng k.val && decide (z.readOut k.val q.val ≤ n) && decide (z.readOut k.val q.val < (s.vg g.val).tiles q.val k.val) && decide (n < (s.vg g.val).tiles q.val k.val))) =
      true →
    (s.vg g.val).tiles q.val k.val ≤ n → n < (s.vg g.val).tiles q.val k.val + (s.vg g.val).fbTiles →
    (s.vg g.val).inOrder y k.val q.val true = true →
    ((s.svlPort ((s.vg g.val).port q.val).port).rxOf y.tick).atHand l true (k.val * (s.vg g.val).fbTiles +
      (n - (s.vg g.val).tiles q.val k.val)) = true →
    s.updating (s.vg g.val) = false →
    Completes (.dmaTileWrite g k q) s fun t =>
      (∃ z, (t.vg g.val).inc = some z ∧ z.written k.val q.val = n + 1 ∧ z.tick = y.tick) ∧
      (∀ e < 96, (t.eng e).spad = (s.eng e).spad) ∧
      (s.count (C.SVL_TILES_RX ((s.vg g.val).port q.val).port) < 0xFFFFFFFE →
        t.count (C.SVL_TILES_RX ((s.vg g.val).port q.val).port) =
        s.count (C.SVL_TILES_RX ((s.vg g.val).port q.val).port) + 1) ∧
      RegsKeptIn [fun _ => R.MEM_INJ, R.SVL_SAT] s t ∧ OnlyChanges [.regs, .cnt, .arb, .vec, .svl] s t) ∧
  (∀ (g : Fin 4) (k : Fin 96) (q : Fin 16) (s : State) (y : Sym) (l n : Nat), k.val < (s.vg g.val).tgs.length →
    q.val < (s.vg g.val).ports.length → (s.vg g.val).owed k.val q.val = true → (s.vg g.val).comp = some y →
    l = s.portWidth ((s.vg g.val).port q.val).port → n = y.written k.val q.val →
    (s.vg g.val).outg.all (fun z => !(z.par == y.par && z.eng k.val == y.eng k.val && decide (z.readOut k.val q.val ≤ n) && decide (z.readOut k.val q.val < (s.vg g.val).tiles q.val k.val) && decide (n < (s.vg g.val).tiles q.val k.val))) =
      true →
    (s.vg g.val).tiles q.val k.val ≤ n → n < (s.vg g.val).tiles q.val k.val + (s.vg g.val).fbTiles →
    (s.vg g.val).inOrder y k.val q.val true = true →
    ((s.svlPort ((s.vg g.val).port q.val).port).rxOf y.tick).atHand l true (k.val * (s.vg g.val).fbTiles +
      (n - (s.vg g.val).tiles q.val k.val)) = true →
    s.updating (s.vg g.val) = false →
    Completes (.dmaTileWrite g k q) s fun t =>
      (∃ z, (t.vg g.val).comp = some z ∧ z.written k.val q.val = n + 1 ∧ z.tick = y.tick) ∧
      (∀ e < 96, (t.eng e).spad = (s.eng e).spad) ∧
      (s.count (C.SVL_TILES_RX ((s.vg g.val).port q.val).port) < 0xFFFFFFFE →
        t.count (C.SVL_TILES_RX ((s.vg g.val).port q.val).port) =
        s.count (C.SVL_TILES_RX ((s.vg g.val).port q.val).port) + 1) ∧
      RegsKeptIn [fun _ => R.MEM_INJ, R.SVL_SAT] s t ∧ OnlyChanges [.regs, .cnt, .arb, .vec, .svl] s t) ∧
  (∀ (g : Fin 4) (k : Fin 96) (q : Fin 16) (s : State),
    ((s.vg g.val).tgs.length ≤ k.val ∨ (s.vg g.val).ports.length ≤ q.val ∨
      (((if (s.vg g.val).owed k.val q.val
      then (s.vg g.val).comp else (s.vg g.val).inc).bind (fun y => s.dmaWrite g.val k.val q.val y)).isNone = true)) →
    exec (.dmaTileWrite g k q) s = .next (s)) ∧
  (∀ (g : Fin 4) (k : Fin 96) (q : Fin 16) (s : State) (y : Sym) (l n : Nat), k.val < (s.vg g.val).tgs.length →
    q.val < (s.vg g.val).ports.length → (s.vg g.val).outg = some y → n = y.readOut k.val q.val →
    n < (s.vg g.val).tiles q.val k.val → (s.eng (y.eng k.val)).portFree true = true →
    l = s.fld (F.VE_BUF_BASE (y.eng k.val) (if y.byp.contains k.val || y.late.contains q.val
      then y.par else 2 + y.par)) + (s.vg g.val).tileOffset q.val k.val + n →
    (s.eng (y.eng k.val)).midWrite l = false →
    Completes (.dmaTileRead g k q) s fun t =>
      (∃ z, (t.vg g.val).outg = some z ∧ z.readOut k.val q.val = n + 1 ∧
        sparseGet (fun _ => 0) z.tiles (2 ^ 20 * q.val + (s.vg g.val).tgStart q.val k.val + n) =
        (if n < y.written k.val q.val then (s.eng (y.eng k.val)).spadWord (l % 4096) else 0)) ∧
      t.eng (y.eng k.val) = { s.eng (y.eng k.val) with rdFree := false } ∧
      (∀ e < 96, e ≠ y.eng k.val → t.eng e = s.eng e) ∧ OnlyChanges [.vec] s t) ∧
  (∀ (g : Fin 4) (k : Fin 96) (q : Fin 16) (s : State),
    ((s.vg g.val).tgs.length ≤ k.val ∨ (s.vg g.val).ports.length ≤ q.val ∨
      (((s.vg g.val).outg.bind (fun y => s.dmaRead g.val k.val q.val y)).isNone = true)) →
    exec (.dmaTileRead g k q) s = .next (s))

/-- The nine LANE rows of chapter 09 (R308 to R310). -/
def Obligations.SvlLanesFollowTheirSteps : Prop :=
  (∀ (s : State) (l : Fin 16), s.asleep l.val false = false → s.nearLoop l.val = false →
    Completes (.laneSignalDetect l) s fun t =>
      (t.lane l.val).sd = true ∧ (t.lane l.val).cdr = (s.lane l.val).cdr ∧
      (∀ k < 44, k ≠ l.val → t.lane k = s.lane k) ∧ RegsKept [] s t ∧
      OnlyChanges [.regs, .cnt, .arb, .svl, .lanes] s t) ∧
  (∀ (s : State) (l : Fin 16) (p i : Nat), s.laneOwner l.val = some (p, i) → s.asleep l.val false = false →
    s.nearLoop l.val = false → ((s.svlPort p).lane i).st = 0 →
    Completes (.laneSignalDetect l) s fun t =>
      ((t.svlPort p).lane i) = { ((s.svlPort p).lane i) with st := 1 } ∧ (t.svlPort p).rx = (s.svlPort p).rx ∧
      (∀ k < 16, k ≠ p → t.svlPort k = s.svlPort k) ∧ RegsKept [] s t ∧
      OnlyChanges [.regs, .cnt, .arb, .svl, .lanes] s t) ∧
  (∀ (s : State) (l : Fin 16) (p i : Nat), s.laneOwner l.val = some (p, i) → ((s.svlPort p).lane i).st ≠ 0 →
    Completes (.laneSignalDetect l) s fun t =>
      t.svl = s.svl ∧ RegsKept [] s t ∧ OnlyChanges [.regs, .cnt, .arb, .svl, .lanes] s t) ∧
  (∀ (s : State) (l : Fin 16), (s.asleep l.val false = true ∨ s.nearLoop l.val = true) →
    exec (.laneSignalDetect l) s = .next (s)) ∧
  (∀ (s : State) (l : Fin 16), s.nearLoop l.val = false →
    Completes (.laneSignalLost l) s fun t =>
      (t.lane l.val).sd = false ∧ (t.lane l.val).cdr = false ∧ (t.lane l.val).eyeBusy = false ∧
      (∀ k < 44, k ≠ l.val → t.lane k = s.lane k) ∧ RegsKept ((List.range 16).map R.SVL_SAT) s t ∧
      OnlyChanges [.freeCtr, .regs, .cnt, .arb, .fns, .svl, .lanes] s t) ∧
  (∀ (s : State) (l : Fin 16), s.nearLoop l.val = false → (s.lane l.val).eyeBusy = true →
    Completes (.laneSignalLost l) s fun t =>
      (t.lane l.val).eyeResult = 2 ∧ (t.lane l.val).eyeCause = 3 ∧ RegsKept ((List.range 16).map R.SVL_SAT) s t ∧
      OnlyChanges [.freeCtr, .regs, .cnt, .arb, .fns, .svl, .lanes] s t) ∧
  (∀ (s : State) (l : Fin 16) (p i : Nat), s.laneOwner l.val = some (p, i) → s.nearLoop l.val = false →
    (((s.svlPort p).lane i).st = 1 ∨ ((s.svlPort p).lane i).st = 3 ∨ ((s.svlPort p).lane i).st = 4) →
    ¬ (((s.svlPort p).lane i).st = 4 ∧ (s.svlPort p).state = 3) →
    Completes (.laneSignalLost l) s fun t =>
      ((t.svlPort p).lane i).st = 0 ∧ ((t.svlPort p).lane i).inv = false ∧
      (t.svlPort p).state = (s.svlPort p).state ∧ (t.svlPort p).rx = (s.svlPort p).rx ∧
      (∀ k < 16, k ≠ p → t.svlPort k = s.svlPort k) ∧ RegsKept [R.SVL_SAT p] s t ∧
      OnlyChanges [.freeCtr, .regs, .cnt, .arb, .fns, .svl, .lanes] s t) ∧
  (∀ (s : State) (l : Fin 16) (p i : Nat), s.laneOwner l.val = some (p, i) → s.nearLoop l.val = false →
    ((s.svlPort p).lane i).st = 4 → (s.svlPort p).state = 3 → s.count (C.SVL_LOCK_LOSS p) < 0xFFFFFFFE →
    Completes (.laneSignalLost l) s fun t =>
      ((t.svlPort p).lane i).st = 0 ∧ (t.svlPort p).state = 1 ∧ (t.svlPort p).cur = none ∧
      t.count (C.SVL_LOCK_LOSS p) = s.count (C.SVL_LOCK_LOSS p) + 1 ∧
      (∀ k < 16, k ≠ p → t.svlPort k = s.svlPort k) ∧ RegsKept [R.SVL_SAT p] s t ∧
      OnlyChanges [.freeCtr, .regs, .cnt, .arb, .fns, .svl, .lanes] s t) ∧
  (∀ (s : State) (l : Fin 16) (p i : Nat), s.laneOwner l.val = some (p, i) → s.nearLoop l.val = false →
    (((s.svlPort p).lane i).st = 0 ∨ ((s.svlPort p).lane i).st = 2) →
    Completes (.laneSignalLost l) s fun t =>
      t.svl = s.svl ∧ RegsKept [R.SVL_SAT p] s t ∧
        OnlyChanges [.freeCtr, .regs, .cnt, .arb, .fns, .svl, .lanes] s t) ∧
  (∀ (s : State) (l : Fin 16), s.nearLoop l.val = true →
    exec (.laneSignalLost l) s = .next (s)) ∧
  (∀ (s : State) (l : Fin 16), s.asleep l.val false = false →
    Completes (.laneCdrLock l) s fun t =>
      (t.lane l.val).cdr = true ∧ (∀ k < 44, k ≠ l.val → t.lane k = s.lane k) ∧ RegsKept [] s t ∧
      OnlyChanges [.regs, .cnt, .arb, .svl, .lanes] s t) ∧
  (∀ (s : State) (l : Fin 16) (p i : Nat), s.laneOwner l.val = some (p, i) → s.asleep l.val false = false →
    ((s.svlPort p).lane i).st = 1 →
    Completes (.laneCdrLock l) s fun t =>
      ((t.svlPort p).lane i) = { ((s.svlPort p).lane i) with st := 2, good := 0 } ∧
      (t.svlPort p).rx = (s.svlPort p).rx ∧ (∀ k < 16, k ≠ p → t.svlPort k = s.svlPort k) ∧ RegsKept [] s t ∧
      OnlyChanges [.regs, .cnt, .arb, .svl, .lanes] s t) ∧
  (∀ (s : State) (l : Fin 16) (p i : Nat), s.laneOwner l.val = some (p, i) → ((s.svlPort p).lane i).st ≠ 1 →
    Completes (.laneCdrLock l) s fun t =>
      t.svl = s.svl ∧ RegsKept [] s t ∧ OnlyChanges [.regs, .cnt, .arb, .svl, .lanes] s t) ∧
  (∀ (s : State) (l : Fin 16), s.asleep l.val false = true →
    exec (.laneCdrLock l) s = .next (s)) ∧
  (∀ (s : State) (l : Fin 16) (p i : Nat), s.laneOwner l.val = some (p, i) → ((s.svlPort p).lane i).st = 1 →
    Completes (.laneCdrTimeout l) s fun t =>
      ((t.svlPort p).lane i) = ((s.svlPort p).lane i) ∧ (t.svlPort p).rx = (s.svlPort p).rx ∧
      (∀ k < 16, k ≠ p → t.svlPort k = s.svlPort k) ∧ RegsKept [] s t ∧
      OnlyChanges [.regs, .cnt, .arb, .svl, .lanes] s t) ∧
  (∀ (s : State) (l : Fin 16) (p i : Nat), s.laneOwner l.val = some (p, i) → ((s.svlPort p).lane i).st ≠ 1 →
    exec (.laneCdrTimeout l) s = .next (s)) ∧
  (∀ (s : State) (l : Fin 16), s.laneOwner l.val = none →
    exec (.laneCdrTimeout l) s = .next s ∧
      (∃ t, exec (.laneSignalDetect l) s = .next t ∧ t.svl = s.svl) ∧ (∃ t, exec (.laneSignalLost l) s = .next t ∧
        t.svl = s.svl) ∧
      ∃ t, exec (.laneCdrLock l) s = .next t ∧ t.svl = s.svl) ∧
  (∀ (s : State) (l : Fin 16) (p i : Nat) (b : BitVec 66), s.laneOwner l.val = some (p, i) →
    s.asleep l.val false = false → s.nearLoop l.val = false → s.farLoop l.val = false →
    ((s.svlPort p).lane i).st = 2 → ((s.svlPort p).lane i).good = 63 →
    ((((s.svlPort p).lane i).hear b).2.1 = 1 ∨ (((s.svlPort p).lane i).hear b).2.1 = 2) →
    Completes (.laneBlockLock l [b]) s fun t =>
      ((t.svlPort p).lane i).st = 3 ∧ ((t.svlPort p).lane i).pos = ((s.svlPort p).lane i).pos ∧
      ((t.svlPort p).lane i).seen = 0 ∧ ((t.svlPort p).lane i).ctl = 0 ∧ ((t.svlPort p).lane i).ctlInv = 0 ∧
        ((t.svlPort p).lane i).wHdrs = 0 ∧ ((t.svlPort p).lane i).wBad = 0 ∧
      (t.svlPort p).rx = (s.svlPort p).rx ∧ (∀ k < 16, k ≠ p → t.svlPort k = s.svlPort k) ∧
      RegsKept [R.SVL_SAT p] s t ∧ OnlyChanges [.out, .regs, .cnt, .arb, .svl, .lanes] s t) ∧
  (∀ (s : State) (l : Fin 16) (p i : Nat) (b : BitVec 66), s.laneOwner l.val = some (p, i) →
    s.asleep l.val false = false → s.nearLoop l.val = false → s.farLoop l.val = false →
    ((s.svlPort p).lane i).st = 2 → ((s.svlPort p).lane i).good ≠ 63 →
    ((((s.svlPort p).lane i).hear b).2.1 = 1 ∨ (((s.svlPort p).lane i).hear b).2.1 = 2) →
    Completes (.laneBlockLock l [b]) s fun t =>
      ((t.svlPort p).lane i).st = 2 ∧ ((t.svlPort p).lane i).pos = ((s.svlPort p).lane i).pos ∧
      ((t.svlPort p).lane i).good = ((s.svlPort p).lane i).good + 1 ∧ (t.svlPort p).rx = (s.svlPort p).rx ∧
      (∀ k < 16, k ≠ p → t.svlPort k = s.svlPort k) ∧ RegsKept [R.SVL_SAT p] s t ∧
      OnlyChanges [.out, .regs, .cnt, .arb, .svl, .lanes] s t) ∧
  (∀ (s : State) (l : Fin 16) (p i : Nat) (b : BitVec 66), s.laneOwner l.val = some (p, i) →
    s.asleep l.val false = false → s.nearLoop l.val = false → s.farLoop l.val = false →
    ((s.svlPort p).lane i).st = 2 →
    ((((s.svlPort p).lane i).hear b).2.1 = 0 ∨ (((s.svlPort p).lane i).hear b).2.1 = 3) →
    Completes (.laneBlockLock l [b]) s fun t =>
      ((t.svlPort p).lane i).st = 2 ∧ ((t.svlPort p).lane i).pos = (((s.svlPort p).lane i).pos + 1) % 33 ∧
      ((t.svlPort p).lane i).good = 0 ∧ (t.svlPort p).rx = (s.svlPort p).rx ∧
      (∀ k < 16, k ≠ p → t.svlPort k = s.svlPort k) ∧ RegsKept [R.SVL_SAT p] s t ∧
      OnlyChanges [.out, .regs, .cnt, .arb, .svl, .lanes] s t) ∧
  (∀ (s : State) (l : Fin 16) (p i : Nat) (b : BitVec 66), s.laneOwner l.val = some (p, i) →
    s.asleep l.val false = false → s.nearLoop l.val = false → s.farLoop l.val = false →
    ((s.svlPort p).lane i).st = 2 → ((s.svlPort p).lane i).good = 63 →
    ((((s.svlPort p).lane i).hear b).2.1 = 1 ∨ (((s.svlPort p).lane i).hear b).2.1 = 2) →
    Completes (.laneHeaderSlip l [b]) s fun t =>
      ((t.svlPort p).lane i).st = 3 ∧ ((t.svlPort p).lane i).pos = ((s.svlPort p).lane i).pos ∧
      ((t.svlPort p).lane i).seen = 0 ∧ ((t.svlPort p).lane i).ctl = 0 ∧ ((t.svlPort p).lane i).ctlInv = 0 ∧
        ((t.svlPort p).lane i).wHdrs = 0 ∧ ((t.svlPort p).lane i).wBad = 0 ∧
      (t.svlPort p).rx = (s.svlPort p).rx ∧ (∀ k < 16, k ≠ p → t.svlPort k = s.svlPort k) ∧
      RegsKept [R.SVL_SAT p] s t ∧ OnlyChanges [.out, .regs, .cnt, .arb, .svl, .lanes] s t) ∧
  (∀ (s : State) (l : Fin 16) (p i : Nat) (b : BitVec 66), s.laneOwner l.val = some (p, i) →
    s.asleep l.val false = false → s.nearLoop l.val = false → s.farLoop l.val = false →
    ((s.svlPort p).lane i).st = 2 → ((s.svlPort p).lane i).good ≠ 63 →
    ((((s.svlPort p).lane i).hear b).2.1 = 1 ∨ (((s.svlPort p).lane i).hear b).2.1 = 2) →
    Completes (.laneHeaderSlip l [b]) s fun t =>
      ((t.svlPort p).lane i).st = 2 ∧ ((t.svlPort p).lane i).pos = ((s.svlPort p).lane i).pos ∧
      ((t.svlPort p).lane i).good = ((s.svlPort p).lane i).good + 1 ∧ (t.svlPort p).rx = (s.svlPort p).rx ∧
      (∀ k < 16, k ≠ p → t.svlPort k = s.svlPort k) ∧ RegsKept [R.SVL_SAT p] s t ∧
      OnlyChanges [.out, .regs, .cnt, .arb, .svl, .lanes] s t) ∧
  (∀ (s : State) (l : Fin 16) (p i : Nat) (b : BitVec 66), s.laneOwner l.val = some (p, i) →
    s.asleep l.val false = false → s.nearLoop l.val = false → s.farLoop l.val = false →
    ((s.svlPort p).lane i).st = 2 →
    ((((s.svlPort p).lane i).hear b).2.1 = 0 ∨ (((s.svlPort p).lane i).hear b).2.1 = 3) →
    Completes (.laneHeaderSlip l [b]) s fun t =>
      ((t.svlPort p).lane i).st = 2 ∧ ((t.svlPort p).lane i).pos = (((s.svlPort p).lane i).pos + 1) % 33 ∧
      ((t.svlPort p).lane i).good = 0 ∧ (t.svlPort p).rx = (s.svlPort p).rx ∧
      (∀ k < 16, k ≠ p → t.svlPort k = s.svlPort k) ∧ RegsKept [R.SVL_SAT p] s t ∧
      OnlyChanges [.out, .regs, .cnt, .arb, .svl, .lanes] s t) ∧
  (∀ (s : State) (l : Fin 16) (p i : Nat) (b : BitVec 66), s.laneOwner l.val = some (p, i) →
    s.asleep l.val false = false → s.nearLoop l.val = false → s.farLoop l.val = false →
    ((s.svlPort p).lane i).st = 3 →
    (16 ≤ ((s.svlPort p).lane i).wBad + (if ((((s.svlPort p).lane i).hear b).2.1 = 0 ∨
      (((s.svlPort p).lane i).hear b).2.1 = 3) then 1 else 0)) →
    Completes (.lanePolarityDecided l [b]) s fun t =>
      ((t.svlPort p).lane i).st = 2 ∧ ((t.svlPort p).lane i).pos = (((s.svlPort p).lane i).pos + 1) % 33 ∧
      ((t.svlPort p).lane i).inv = false ∧ (t.svlPort p).rx = (s.svlPort p).rx ∧
      (∀ k < 16, k ≠ p → t.svlPort k = s.svlPort k) ∧ RegsKept [R.SVL_SAT p] s t ∧
      OnlyChanges [.out, .regs, .cnt, .arb, .svl, .lanes] s t) ∧
  (∀ (s : State) (l : Fin 16) (p i : Nat) (b : BitVec 66), s.laneOwner l.val = some (p, i) →
    s.asleep l.val false = false → s.nearLoop l.val = false → s.farLoop l.val = false →
    ((s.svlPort p).lane i).st = 3 →
    (¬ (16 ≤ ((s.svlPort p).lane i).wBad + (if ((((s.svlPort p).lane i).hear b).2.1 = 0 ∨
      (((s.svlPort p).lane i).hear b).2.1 = 3) then 1 else 0))) →
    ((((s.svlPort p).lane i).hear b).2.1 = 2 ∧ ctlGood (((s.svlPort p).lane i).hear b).2.2 = true) →
    15 ≤ ((s.svlPort p).lane i).ctl →
    Completes (.lanePolarityDecided l [b]) s fun t =>
      ((t.svlPort p).lane i).st = 4 ∧ ((t.svlPort p).lane i).inv = false ∧ (t.svlPort p).rx = (s.svlPort p).rx ∧
      (∀ k < 16, k ≠ p → t.svlPort k = s.svlPort k) ∧ RegsKept [R.SVL_SAT p] s t ∧
      OnlyChanges [.out, .regs, .cnt, .arb, .svl, .lanes] s t) ∧
  (∀ (s : State) (l : Fin 16) (p i : Nat) (b : BitVec 66), s.laneOwner l.val = some (p, i) →
    s.asleep l.val false = false → s.nearLoop l.val = false → s.farLoop l.val = false →
    ((s.svlPort p).lane i).st = 3 →
    (¬ (16 ≤ ((s.svlPort p).lane i).wBad + (if ((((s.svlPort p).lane i).hear b).2.1 = 0 ∨
      (((s.svlPort p).lane i).hear b).2.1 = 3) then 1 else 0))) →
    ((((s.svlPort p).lane i).hear b).2.1 = 1 ∧ ctlGood (~~~(((s.svlPort p).lane i).hear b).2.2) = true) →
    ((s.svlPort p).lane i).ctl < 16 → 15 ≤ ((s.svlPort p).lane i).ctlInv →
    Completes (.lanePolarityDecided l [b]) s fun t =>
      ((t.svlPort p).lane i).st = 4 ∧ ((t.svlPort p).lane i).inv = true ∧ (t.svlPort p).rx = (s.svlPort p).rx ∧
      (∀ k < 16, k ≠ p → t.svlPort k = s.svlPort k) ∧ RegsKept [R.SVL_SAT p] s t ∧
      OnlyChanges [.out, .regs, .cnt, .arb, .svl, .lanes] s t) ∧
  (∀ (s : State) (l : Fin 16) (p i : Nat) (b : BitVec 66), s.laneOwner l.val = some (p, i) →
    s.asleep l.val false = false → s.nearLoop l.val = false → s.farLoop l.val = false →
    ((s.svlPort p).lane i).st = 3 →
    (¬ (16 ≤ ((s.svlPort p).lane i).wBad + (if ((((s.svlPort p).lane i).hear b).2.1 = 0 ∨
      (((s.svlPort p).lane i).hear b).2.1 = 3) then 1 else 0))) →
    ((s.svlPort p).lane i).ctl + (if ((((s.svlPort p).lane i).hear b).2.1 = 2 ∧
      ctlGood (((s.svlPort p).lane i).hear b).2.2 = true) then 1 else 0) < 16 →
    ((s.svlPort p).lane i).ctlInv + (if ((((s.svlPort p).lane i).hear b).2.1 = 1 ∧
      ctlGood (~~~(((s.svlPort p).lane i).hear b).2.2) = true) then 1 else 0) < 16 →
    4095 ≤ ((s.svlPort p).lane i).seen →
    Completes (.lanePolarityDecided l [b]) s fun t =>
      ((t.svlPort p).lane i).st = 2 ∧ ((t.svlPort p).lane i).pos = (((s.svlPort p).lane i).pos + 1) % 33 ∧
      ((t.svlPort p).lane i).inv = false ∧ (t.svlPort p).rx = (s.svlPort p).rx ∧
      (∀ k < 16, k ≠ p → t.svlPort k = s.svlPort k) ∧ RegsKept [R.SVL_SAT p] s t ∧
      OnlyChanges [.out, .regs, .cnt, .arb, .svl, .lanes] s t) ∧
  (∀ (s : State) (l : Fin 16) (p i : Nat) (b : BitVec 66), s.laneOwner l.val = some (p, i) →
    s.asleep l.val false = false → s.nearLoop l.val = false → s.farLoop l.val = false →
    ((s.svlPort p).lane i).st = 3 →
    (¬ (16 ≤ ((s.svlPort p).lane i).wBad + (if ((((s.svlPort p).lane i).hear b).2.1 = 0 ∨
      (((s.svlPort p).lane i).hear b).2.1 = 3) then 1 else 0))) →
    ((s.svlPort p).lane i).ctl + (if ((((s.svlPort p).lane i).hear b).2.1 = 2 ∧
      ctlGood (((s.svlPort p).lane i).hear b).2.2 = true) then 1 else 0) < 16 →
    ((s.svlPort p).lane i).ctlInv + (if ((((s.svlPort p).lane i).hear b).2.1 = 1 ∧
      ctlGood (~~~(((s.svlPort p).lane i).hear b).2.2) = true) then 1 else 0) < 16 →
    ((s.svlPort p).lane i).seen < 4095 →
    Completes (.lanePolarityDecided l [b]) s fun t =>
      ((t.svlPort p).lane i).st = 3 ∧ ((t.svlPort p).lane i).seen = ((s.svlPort p).lane i).seen + 1 ∧
      ((t.svlPort p).lane i).ctl = ((s.svlPort p).lane i).ctl + (if ((((s.svlPort p).lane i).hear b).2.1 = 2 ∧
        ctlGood (((s.svlPort p).lane i).hear b).2.2 = true) then 1 else 0) ∧
      ((t.svlPort p).lane i).ctlInv = ((s.svlPort p).lane i).ctlInv + (if ((((s.svlPort p).lane i).hear b).2.1 = 1 ∧
        ctlGood (~~~(((s.svlPort p).lane i).hear b).2.2) = true) then 1 else 0) ∧
      ((t.svlPort p).lane i).wHdrs = (if ((s.svlPort p).lane i).wHdrs = 63
        then 0 else ((s.svlPort p).lane i).wHdrs + 1) ∧
      (((t.svlPort p).lane i).wBad = (if ((s.svlPort p).lane i).wHdrs = 63
        then 0 else ((s.svlPort p).lane i).wBad + (if ((((s.svlPort p).lane i).hear b).2.1 = 0 ∨
        (((s.svlPort p).lane i).hear b).2.1 = 3) then 1 else 0))) ∧
      (t.svlPort p).rx = (s.svlPort p).rx ∧ (∀ k < 16, k ≠ p → t.svlPort k = s.svlPort k) ∧
      RegsKept [R.SVL_SAT p] s t ∧ OnlyChanges [.out, .regs, .cnt, .arb, .svl, .lanes] s t) ∧
  (∀ (s : State) (l : Fin 16) (p i : Nat) (b : BitVec 66), s.laneOwner l.val = some (p, i) →
    s.asleep l.val false = false → s.nearLoop l.val = false → s.farLoop l.val = false →
    ((s.svlPort p).lane i).st = 3 →
    (16 ≤ ((s.svlPort p).lane i).wBad + (if ((((s.svlPort p).lane i).hear b).2.1 = 0 ∨
      (((s.svlPort p).lane i).hear b).2.1 = 3) then 1 else 0)) →
    Completes (.laneLockTimeout l [b]) s fun t =>
      ((t.svlPort p).lane i).st = 2 ∧ ((t.svlPort p).lane i).pos = (((s.svlPort p).lane i).pos + 1) % 33 ∧
      ((t.svlPort p).lane i).inv = false ∧ (t.svlPort p).rx = (s.svlPort p).rx ∧
      (∀ k < 16, k ≠ p → t.svlPort k = s.svlPort k) ∧ RegsKept [R.SVL_SAT p] s t ∧
      OnlyChanges [.out, .regs, .cnt, .arb, .svl, .lanes] s t) ∧
  (∀ (s : State) (l : Fin 16) (p i : Nat) (b : BitVec 66), s.laneOwner l.val = some (p, i) →
    s.asleep l.val false = false → s.nearLoop l.val = false → s.farLoop l.val = false →
    ((s.svlPort p).lane i).st = 3 →
    (¬ (16 ≤ ((s.svlPort p).lane i).wBad + (if ((((s.svlPort p).lane i).hear b).2.1 = 0 ∨
      (((s.svlPort p).lane i).hear b).2.1 = 3) then 1 else 0))) →
    ((((s.svlPort p).lane i).hear b).2.1 = 2 ∧ ctlGood (((s.svlPort p).lane i).hear b).2.2 = true) →
    15 ≤ ((s.svlPort p).lane i).ctl →
    Completes (.laneLockTimeout l [b]) s fun t =>
      ((t.svlPort p).lane i).st = 4 ∧ ((t.svlPort p).lane i).inv = false ∧ (t.svlPort p).rx = (s.svlPort p).rx ∧
      (∀ k < 16, k ≠ p → t.svlPort k = s.svlPort k) ∧ RegsKept [R.SVL_SAT p] s t ∧
      OnlyChanges [.out, .regs, .cnt, .arb, .svl, .lanes] s t) ∧
  (∀ (s : State) (l : Fin 16) (p i : Nat) (b : BitVec 66), s.laneOwner l.val = some (p, i) →
    s.asleep l.val false = false → s.nearLoop l.val = false → s.farLoop l.val = false →
    ((s.svlPort p).lane i).st = 3 →
    (¬ (16 ≤ ((s.svlPort p).lane i).wBad + (if ((((s.svlPort p).lane i).hear b).2.1 = 0 ∨
      (((s.svlPort p).lane i).hear b).2.1 = 3) then 1 else 0))) →
    ((((s.svlPort p).lane i).hear b).2.1 = 1 ∧ ctlGood (~~~(((s.svlPort p).lane i).hear b).2.2) = true) →
    ((s.svlPort p).lane i).ctl < 16 → 15 ≤ ((s.svlPort p).lane i).ctlInv →
    Completes (.laneLockTimeout l [b]) s fun t =>
      ((t.svlPort p).lane i).st = 4 ∧ ((t.svlPort p).lane i).inv = true ∧ (t.svlPort p).rx = (s.svlPort p).rx ∧
      (∀ k < 16, k ≠ p → t.svlPort k = s.svlPort k) ∧ RegsKept [R.SVL_SAT p] s t ∧
      OnlyChanges [.out, .regs, .cnt, .arb, .svl, .lanes] s t) ∧
  (∀ (s : State) (l : Fin 16) (p i : Nat) (b : BitVec 66), s.laneOwner l.val = some (p, i) →
    s.asleep l.val false = false → s.nearLoop l.val = false → s.farLoop l.val = false →
    ((s.svlPort p).lane i).st = 3 →
    (¬ (16 ≤ ((s.svlPort p).lane i).wBad + (if ((((s.svlPort p).lane i).hear b).2.1 = 0 ∨
      (((s.svlPort p).lane i).hear b).2.1 = 3) then 1 else 0))) →
    ((s.svlPort p).lane i).ctl + (if ((((s.svlPort p).lane i).hear b).2.1 = 2 ∧
      ctlGood (((s.svlPort p).lane i).hear b).2.2 = true) then 1 else 0) < 16 →
    ((s.svlPort p).lane i).ctlInv + (if ((((s.svlPort p).lane i).hear b).2.1 = 1 ∧
      ctlGood (~~~(((s.svlPort p).lane i).hear b).2.2) = true) then 1 else 0) < 16 →
    4095 ≤ ((s.svlPort p).lane i).seen →
    Completes (.laneLockTimeout l [b]) s fun t =>
      ((t.svlPort p).lane i).st = 2 ∧ ((t.svlPort p).lane i).pos = (((s.svlPort p).lane i).pos + 1) % 33 ∧
      ((t.svlPort p).lane i).inv = false ∧ (t.svlPort p).rx = (s.svlPort p).rx ∧
      (∀ k < 16, k ≠ p → t.svlPort k = s.svlPort k) ∧ RegsKept [R.SVL_SAT p] s t ∧
      OnlyChanges [.out, .regs, .cnt, .arb, .svl, .lanes] s t) ∧
  (∀ (s : State) (l : Fin 16) (p i : Nat) (b : BitVec 66), s.laneOwner l.val = some (p, i) →
    s.asleep l.val false = false → s.nearLoop l.val = false → s.farLoop l.val = false →
    ((s.svlPort p).lane i).st = 3 →
    (¬ (16 ≤ ((s.svlPort p).lane i).wBad + (if ((((s.svlPort p).lane i).hear b).2.1 = 0 ∨
      (((s.svlPort p).lane i).hear b).2.1 = 3) then 1 else 0))) →
    ((s.svlPort p).lane i).ctl + (if ((((s.svlPort p).lane i).hear b).2.1 = 2 ∧
      ctlGood (((s.svlPort p).lane i).hear b).2.2 = true) then 1 else 0) < 16 →
    ((s.svlPort p).lane i).ctlInv + (if ((((s.svlPort p).lane i).hear b).2.1 = 1 ∧
      ctlGood (~~~(((s.svlPort p).lane i).hear b).2.2) = true) then 1 else 0) < 16 →
    ((s.svlPort p).lane i).seen < 4095 →
    Completes (.laneLockTimeout l [b]) s fun t =>
      ((t.svlPort p).lane i).st = 3 ∧ ((t.svlPort p).lane i).seen = ((s.svlPort p).lane i).seen + 1 ∧
      ((t.svlPort p).lane i).ctl = ((s.svlPort p).lane i).ctl + (if ((((s.svlPort p).lane i).hear b).2.1 = 2 ∧
        ctlGood (((s.svlPort p).lane i).hear b).2.2 = true) then 1 else 0) ∧
      ((t.svlPort p).lane i).ctlInv = ((s.svlPort p).lane i).ctlInv + (if ((((s.svlPort p).lane i).hear b).2.1 = 1 ∧
        ctlGood (~~~(((s.svlPort p).lane i).hear b).2.2) = true) then 1 else 0) ∧
      ((t.svlPort p).lane i).wHdrs = (if ((s.svlPort p).lane i).wHdrs = 63
        then 0 else ((s.svlPort p).lane i).wHdrs + 1) ∧
      (((t.svlPort p).lane i).wBad = (if ((s.svlPort p).lane i).wHdrs = 63
        then 0 else ((s.svlPort p).lane i).wBad + (if ((((s.svlPort p).lane i).hear b).2.1 = 0 ∨
        (((s.svlPort p).lane i).hear b).2.1 = 3) then 1 else 0))) ∧
      (t.svlPort p).rx = (s.svlPort p).rx ∧ (∀ k < 16, k ≠ p → t.svlPort k = s.svlPort k) ∧
      RegsKept [R.SVL_SAT p] s t ∧ OnlyChanges [.out, .regs, .cnt, .arb, .svl, .lanes] s t) ∧
  (∀ (s : State) (l : Fin 16) (p i : Nat) (b : BitVec 66), s.laneOwner l.val = some (p, i) →
    s.asleep l.val false = false → s.nearLoop l.val = false → s.farLoop l.val = false →
    ((s.svlPort p).lane i).st = 3 →
    (16 ≤ ((s.svlPort p).lane i).wBad + (if ((((s.svlPort p).lane i).hear b).2.1 = 0 ∨
      (((s.svlPort p).lane i).hear b).2.1 = 3) then 1 else 0)) →
    Completes (.laneHeaderWindowFail l [b]) s fun t =>
      ((t.svlPort p).lane i).st = 2 ∧ ((t.svlPort p).lane i).pos = (((s.svlPort p).lane i).pos + 1) % 33 ∧
      ((t.svlPort p).lane i).inv = false ∧ (t.svlPort p).rx = (s.svlPort p).rx ∧
      (∀ k < 16, k ≠ p → t.svlPort k = s.svlPort k) ∧ RegsKept [R.SVL_SAT p] s t ∧
      OnlyChanges [.out, .regs, .cnt, .arb, .svl, .lanes] s t) ∧
  (∀ (s : State) (l : Fin 16) (p i : Nat) (b : BitVec 66), s.laneOwner l.val = some (p, i) →
    s.asleep l.val false = false → s.nearLoop l.val = false → s.farLoop l.val = false →
    ((s.svlPort p).lane i).st = 3 →
    (¬ (16 ≤ ((s.svlPort p).lane i).wBad + (if ((((s.svlPort p).lane i).hear b).2.1 = 0 ∨
      (((s.svlPort p).lane i).hear b).2.1 = 3) then 1 else 0))) →
    ((((s.svlPort p).lane i).hear b).2.1 = 2 ∧ ctlGood (((s.svlPort p).lane i).hear b).2.2 = true) →
    15 ≤ ((s.svlPort p).lane i).ctl →
    Completes (.laneHeaderWindowFail l [b]) s fun t =>
      ((t.svlPort p).lane i).st = 4 ∧ ((t.svlPort p).lane i).inv = false ∧ (t.svlPort p).rx = (s.svlPort p).rx ∧
      (∀ k < 16, k ≠ p → t.svlPort k = s.svlPort k) ∧ RegsKept [R.SVL_SAT p] s t ∧
      OnlyChanges [.out, .regs, .cnt, .arb, .svl, .lanes] s t) ∧
  (∀ (s : State) (l : Fin 16) (p i : Nat) (b : BitVec 66), s.laneOwner l.val = some (p, i) →
    s.asleep l.val false = false → s.nearLoop l.val = false → s.farLoop l.val = false →
    ((s.svlPort p).lane i).st = 3 →
    (¬ (16 ≤ ((s.svlPort p).lane i).wBad + (if ((((s.svlPort p).lane i).hear b).2.1 = 0 ∨
      (((s.svlPort p).lane i).hear b).2.1 = 3) then 1 else 0))) →
    ((((s.svlPort p).lane i).hear b).2.1 = 1 ∧ ctlGood (~~~(((s.svlPort p).lane i).hear b).2.2) = true) →
    ((s.svlPort p).lane i).ctl < 16 → 15 ≤ ((s.svlPort p).lane i).ctlInv →
    Completes (.laneHeaderWindowFail l [b]) s fun t =>
      ((t.svlPort p).lane i).st = 4 ∧ ((t.svlPort p).lane i).inv = true ∧ (t.svlPort p).rx = (s.svlPort p).rx ∧
      (∀ k < 16, k ≠ p → t.svlPort k = s.svlPort k) ∧ RegsKept [R.SVL_SAT p] s t ∧
      OnlyChanges [.out, .regs, .cnt, .arb, .svl, .lanes] s t) ∧
  (∀ (s : State) (l : Fin 16) (p i : Nat) (b : BitVec 66), s.laneOwner l.val = some (p, i) →
    s.asleep l.val false = false → s.nearLoop l.val = false → s.farLoop l.val = false →
    ((s.svlPort p).lane i).st = 3 →
    (¬ (16 ≤ ((s.svlPort p).lane i).wBad + (if ((((s.svlPort p).lane i).hear b).2.1 = 0 ∨
      (((s.svlPort p).lane i).hear b).2.1 = 3) then 1 else 0))) →
    ((s.svlPort p).lane i).ctl + (if ((((s.svlPort p).lane i).hear b).2.1 = 2 ∧
      ctlGood (((s.svlPort p).lane i).hear b).2.2 = true) then 1 else 0) < 16 →
    ((s.svlPort p).lane i).ctlInv + (if ((((s.svlPort p).lane i).hear b).2.1 = 1 ∧
      ctlGood (~~~(((s.svlPort p).lane i).hear b).2.2) = true) then 1 else 0) < 16 →
    4095 ≤ ((s.svlPort p).lane i).seen →
    Completes (.laneHeaderWindowFail l [b]) s fun t =>
      ((t.svlPort p).lane i).st = 2 ∧ ((t.svlPort p).lane i).pos = (((s.svlPort p).lane i).pos + 1) % 33 ∧
      ((t.svlPort p).lane i).inv = false ∧ (t.svlPort p).rx = (s.svlPort p).rx ∧
      (∀ k < 16, k ≠ p → t.svlPort k = s.svlPort k) ∧ RegsKept [R.SVL_SAT p] s t ∧
      OnlyChanges [.out, .regs, .cnt, .arb, .svl, .lanes] s t) ∧
  (∀ (s : State) (l : Fin 16) (p i : Nat) (b : BitVec 66), s.laneOwner l.val = some (p, i) →
    s.asleep l.val false = false → s.nearLoop l.val = false → s.farLoop l.val = false →
    ((s.svlPort p).lane i).st = 3 →
    (¬ (16 ≤ ((s.svlPort p).lane i).wBad + (if ((((s.svlPort p).lane i).hear b).2.1 = 0 ∨
      (((s.svlPort p).lane i).hear b).2.1 = 3) then 1 else 0))) →
    ((s.svlPort p).lane i).ctl + (if ((((s.svlPort p).lane i).hear b).2.1 = 2 ∧
      ctlGood (((s.svlPort p).lane i).hear b).2.2 = true) then 1 else 0) < 16 →
    ((s.svlPort p).lane i).ctlInv + (if ((((s.svlPort p).lane i).hear b).2.1 = 1 ∧
      ctlGood (~~~(((s.svlPort p).lane i).hear b).2.2) = true) then 1 else 0) < 16 →
    ((s.svlPort p).lane i).seen < 4095 →
    Completes (.laneHeaderWindowFail l [b]) s fun t =>
      ((t.svlPort p).lane i).st = 3 ∧ ((t.svlPort p).lane i).seen = ((s.svlPort p).lane i).seen + 1 ∧
      ((t.svlPort p).lane i).ctl = ((s.svlPort p).lane i).ctl + (if ((((s.svlPort p).lane i).hear b).2.1 = 2 ∧
        ctlGood (((s.svlPort p).lane i).hear b).2.2 = true) then 1 else 0) ∧
      ((t.svlPort p).lane i).ctlInv = ((s.svlPort p).lane i).ctlInv + (if ((((s.svlPort p).lane i).hear b).2.1 = 1 ∧
        ctlGood (~~~(((s.svlPort p).lane i).hear b).2.2) = true) then 1 else 0) ∧
      ((t.svlPort p).lane i).wHdrs = (if ((s.svlPort p).lane i).wHdrs = 63
        then 0 else ((s.svlPort p).lane i).wHdrs + 1) ∧
      (((t.svlPort p).lane i).wBad = (if ((s.svlPort p).lane i).wHdrs = 63
        then 0 else ((s.svlPort p).lane i).wBad + (if ((((s.svlPort p).lane i).hear b).2.1 = 0 ∨
        (((s.svlPort p).lane i).hear b).2.1 = 3) then 1 else 0))) ∧
      (t.svlPort p).rx = (s.svlPort p).rx ∧ (∀ k < 16, k ≠ p → t.svlPort k = s.svlPort k) ∧
      RegsKept [R.SVL_SAT p] s t ∧ OnlyChanges [.out, .regs, .cnt, .arb, .svl, .lanes] s t) ∧
  (∀ (s : State) (l : Fin 16) (p i : Nat) (b : BitVec 66), s.laneOwner l.val = some (p, i) →
    s.asleep l.val false = false → s.nearLoop l.val = false → s.farLoop l.val = false →
    ((s.svlPort p).lane i).st = 3 → ((s.svlPort p).lane i).wBad < 16 → 15 ≤ ((s.svlPort p).lane i).ctl →
    ((((s.svlPort p).lane i).hear b).2.1 = 2 ∧ ctlGood (((s.svlPort p).lane i).hear b).2.2 = true) →
    (s.svlPort p).state = 1 →
    (∀ j < s.portWidth p, (j ≠ i → ((s.svlPort p).lane j).st = 4) ∧ s.laneInTest (s.firstLane p + j) = false) →
    Completes (.lanePolarityDecided l [b]) s fun t =>
      (t.svlPort p).state = 2 ∧ (t.svlPort p).alignCount = none ∧ (∀ k < 16, k ≠ p → t.svlPort k = s.svlPort k) ∧
      RegsKept [R.SVL_SAT p] s t ∧ OnlyChanges [.out, .regs, .cnt, .arb, .svl, .lanes] s t) ∧
  (∀ (s : State) (l : Fin 16) (p i : Nat) (b : BitVec 66), s.laneOwner l.val = some (p, i) →
    s.asleep l.val false = false → s.nearLoop l.val = false → s.farLoop l.val = false →
    ((s.svlPort p).lane i).st = 3 → ((s.svlPort p).lane i).wBad < 16 → 15 ≤ ((s.svlPort p).lane i).ctl →
    ((((s.svlPort p).lane i).hear b).2.1 = 2 ∧ ctlGood (((s.svlPort p).lane i).hear b).2.2 = true) →
    (s.svlPort p).state = 1 →
    (List.range (s.portWidth p)).any (fun j => (decide (j ≠ i) && ((s.svlPort p).lane j).st != 4) || s.laneInTest (s.firstLane p +
      j)) = true →
    Completes (.lanePolarityDecided l [b]) s fun t =>
      (t.svlPort p).state = 1 ∧ (∀ k < 16, k ≠ p → t.svlPort k = s.svlPort k) ∧ RegsKept [R.SVL_SAT p] s t ∧
      OnlyChanges [.out, .regs, .cnt, .arb, .svl, .lanes] s t) ∧
  (∀ (s : State) (l : Fin 16) (p i : Nat) (b : BitVec 66), s.laneOwner l.val = some (p, i) →
    s.asleep l.val false = false → s.nearLoop l.val = false → s.farLoop l.val = false →
    ((s.svlPort p).lane i).st = 4 →
    ((((s.svlPort p).lane i).hear b).2.1 = 0 ∨ (((s.svlPort p).lane i).hear b).2.1 = 3) →
    ((s.svlPort p).lane i).wBad < 15 →
    Completes (.laneHeaderWindowFail l [b]) s fun t =>
      ((t.svlPort p).lane i).st = 4 ∧
      ((t.svlPort p).lane i).wHdrs = (if ((s.svlPort p).lane i).wHdrs = 63
        then 0 else ((s.svlPort p).lane i).wHdrs + 1) ∧
      ((t.svlPort p).lane i).wBad = (if ((s.svlPort p).lane i).wHdrs = 63
        then 0 else ((s.svlPort p).lane i).wBad + 1) ∧
      ((t.svlPort p).lane i).part = ((s.svlPort p).lane i).part ∧ (t.svlPort p).rx = (s.svlPort p).rx ∧
      (∀ k < 16, k ≠ p → t.svlPort k = s.svlPort k) ∧ RegsKept [R.SVL_SAT p] s t ∧
      OnlyChanges [.out, .regs, .cnt, .arb, .svl, .lanes] s t) ∧
  (∀ (s : State) (l : Fin 16) (p i : Nat) (b : BitVec 66), s.laneOwner l.val = some (p, i) →
    s.asleep l.val false = false → s.nearLoop l.val = false → s.farLoop l.val = false →
    ((s.svlPort p).lane i).st = 4 →
    ((((s.svlPort p).lane i).hear b).2.1 = 0 ∨ (((s.svlPort p).lane i).hear b).2.1 = 3) →
    15 ≤ ((s.svlPort p).lane i).wBad → (s.svlPort p).state ≠ 3 →
    Completes (.laneHeaderWindowFail l [b]) s fun t =>
      ((t.svlPort p).lane i).st = 2 ∧ ((t.svlPort p).lane i).pos = (((s.svlPort p).lane i).pos + 1) % 33 ∧
      ((t.svlPort p).lane i).inv = false ∧ (t.svlPort p).state = (s.svlPort p).state ∧
      (t.svlPort p).rx = (s.svlPort p).rx ∧ (∀ k < 16, k ≠ p → t.svlPort k = s.svlPort k) ∧
      RegsKept [R.SVL_SAT p] s t ∧ OnlyChanges [.out, .regs, .cnt, .arb, .svl, .lanes] s t) ∧
  (∀ (s : State) (l : Fin 16) (p i : Nat) (b : BitVec 66), s.laneOwner l.val = some (p, i) →
    s.asleep l.val false = false → s.nearLoop l.val = false → s.farLoop l.val = false →
    ((s.svlPort p).lane i).st = 4 →
    ((((s.svlPort p).lane i).hear b).2.1 = 0 ∨ (((s.svlPort p).lane i).hear b).2.1 = 3) →
    15 ≤ ((s.svlPort p).lane i).wBad → (s.svlPort p).state = 3 → s.count (C.SVL_LOCK_LOSS p) < 0xFFFFFFFE →
    Completes (.laneHeaderWindowFail l [b]) s fun t =>
      ((t.svlPort p).lane i).st = 2 ∧ ((t.svlPort p).lane i).pos = (((s.svlPort p).lane i).pos + 1) % 33 ∧
      (t.svlPort p).state = 1 ∧ (t.svlPort p).cur = none ∧
      t.count (C.SVL_LOCK_LOSS p) = s.count (C.SVL_LOCK_LOSS p) + 1 ∧
      (∀ k < 16, k ≠ p → t.svlPort k = s.svlPort k) ∧ RegsKept [R.SVL_SAT p] s t ∧
      OnlyChanges [.out, .regs, .cnt, .arb, .svl, .lanes] s t) ∧
  (∀ (s : State) (l : Fin 16) (p : Fin 16) (i : Fin 4) (bs : List (BitVec 66)),
    s.laneOwner l.val = some (p.val, i.val) → ((s.svlPort p.val).lane i.val).st = 4 → s.asleep l.val false = false →
    exec (.laneHeaderWindowFail l bs) s = exec (.tilePairReceive p i bs) s) ∧
  (∀ (s : State) (l : Fin 16) (p i : Nat) (bs : List (BitVec 66)), s.laneOwner l.val = some (p, i) →
    s.asleep l.val false = false → s.nearLoop l.val = false → s.farLoop l.val = false →
    [2].contains ((s.svlPort p).lane i).st = true →
    exec (.laneBlockLock l bs) s = .next (bs.foldl (fun s b => s.hearBlock p i 0 b) s)) ∧
  (∀ (s : State) (l : Fin 16) (p i : Nat) (bs : List (BitVec 66)), s.laneOwner l.val = some (p, i) →
    s.asleep l.val false = false → s.farLoop l.val = true → [2].contains ((s.svlPort p).lane i).st = true →
    exec (.laneBlockLock l bs) s = .next (bs.foldl (fun s b => s.hearBlock p i 0 b) (bs.foldl (fun s b => s.emit (.resent l.val b)) s))) ∧
  (∀ (s : State) (l : Fin 16) (p i : Nat) (bs : List (BitVec 66)), s.laneOwner l.val = some (p, i) →
    s.nearLoop l.val = true → [2].contains ((s.svlPort p).lane i).st = true →
    exec (.laneBlockLock l bs) s = .next ((s.lane l.val).blocks.foldl (fun s b => s.takeBlock p i 0 (hdrOf b) (BitVec.ofNat 64 b.toNat))
      (s.setLane l.val { s.lane l.val with blocks := [] }))) ∧
  (∀ (s : State) (l : Fin 16) (p i : Nat) (bs : List (BitVec 66)), s.laneOwner l.val = some (p, i) →
    [2].contains ((s.svlPort p).lane i).st = false →
    exec (.laneBlockLock l bs) s = .next (s)) ∧
  (∀ (s : State) (l : Fin 16) (p i : Nat) (bs : List (BitVec 66)), s.laneOwner l.val = some (p, i) →
    s.asleep l.val false = false → s.nearLoop l.val = false → s.farLoop l.val = false →
    [2].contains ((s.svlPort p).lane i).st = true →
    exec (.laneHeaderSlip l bs) s = .next (bs.foldl (fun s b => s.hearBlock p i 0 b) s)) ∧
  (∀ (s : State) (l : Fin 16) (p i : Nat) (bs : List (BitVec 66)), s.laneOwner l.val = some (p, i) →
    s.asleep l.val false = false → s.farLoop l.val = true → [2].contains ((s.svlPort p).lane i).st = true →
    exec (.laneHeaderSlip l bs) s = .next (bs.foldl (fun s b => s.hearBlock p i 0 b) (bs.foldl (fun s b => s.emit (.resent l.val b)) s))) ∧
  (∀ (s : State) (l : Fin 16) (p i : Nat) (bs : List (BitVec 66)), s.laneOwner l.val = some (p, i) →
    s.nearLoop l.val = true → [2].contains ((s.svlPort p).lane i).st = true →
    exec (.laneHeaderSlip l bs) s = .next ((s.lane l.val).blocks.foldl (fun s b => s.takeBlock p i 0 (hdrOf b) (BitVec.ofNat 64 b.toNat))
      (s.setLane l.val { s.lane l.val with blocks := [] }))) ∧
  (∀ (s : State) (l : Fin 16) (p i : Nat) (bs : List (BitVec 66)), s.laneOwner l.val = some (p, i) →
    [2].contains ((s.svlPort p).lane i).st = false →
    exec (.laneHeaderSlip l bs) s = .next (s)) ∧
  (∀ (s : State) (l : Fin 16) (p i : Nat) (bs : List (BitVec 66)), s.laneOwner l.val = some (p, i) →
    s.asleep l.val false = false → s.nearLoop l.val = false → s.farLoop l.val = false →
    [3].contains ((s.svlPort p).lane i).st = true →
    exec (.lanePolarityDecided l bs) s = .next (bs.foldl (fun s b => s.hearBlock p i 0 b) s)) ∧
  (∀ (s : State) (l : Fin 16) (p i : Nat) (bs : List (BitVec 66)), s.laneOwner l.val = some (p, i) →
    s.asleep l.val false = false → s.farLoop l.val = true → [3].contains ((s.svlPort p).lane i).st = true →
    exec (.lanePolarityDecided l bs) s =
      .next (bs.foldl (fun s b => s.hearBlock p i 0 b) (bs.foldl (fun s b => s.emit (.resent l.val b)) s))) ∧
  (∀ (s : State) (l : Fin 16) (p i : Nat) (bs : List (BitVec 66)), s.laneOwner l.val = some (p, i) →
    s.nearLoop l.val = true → [3].contains ((s.svlPort p).lane i).st = true →
    exec (.lanePolarityDecided l bs) s =
      .next ((s.lane l.val).blocks.foldl (fun s b => s.takeBlock p i 0 (hdrOf b) (BitVec.ofNat 64 b.toNat))
      (s.setLane l.val { s.lane l.val with blocks := [] }))) ∧
  (∀ (s : State) (l : Fin 16) (p i : Nat) (bs : List (BitVec 66)), s.laneOwner l.val = some (p, i) →
    [3].contains ((s.svlPort p).lane i).st = false →
    exec (.lanePolarityDecided l bs) s = .next (s)) ∧
  (∀ (s : State) (l : Fin 16) (p i : Nat) (bs : List (BitVec 66)), s.laneOwner l.val = some (p, i) →
    s.asleep l.val false = false → s.nearLoop l.val = false → s.farLoop l.val = false →
    [3].contains ((s.svlPort p).lane i).st = true →
    exec (.laneLockTimeout l bs) s = .next (bs.foldl (fun s b => s.hearBlock p i 0 b) s)) ∧
  (∀ (s : State) (l : Fin 16) (p i : Nat) (bs : List (BitVec 66)), s.laneOwner l.val = some (p, i) →
    s.asleep l.val false = false → s.farLoop l.val = true → [3].contains ((s.svlPort p).lane i).st = true →
    exec (.laneLockTimeout l bs) s =
      .next (bs.foldl (fun s b => s.hearBlock p i 0 b) (bs.foldl (fun s b => s.emit (.resent l.val b)) s))) ∧
  (∀ (s : State) (l : Fin 16) (p i : Nat) (bs : List (BitVec 66)), s.laneOwner l.val = some (p, i) →
    s.nearLoop l.val = true → [3].contains ((s.svlPort p).lane i).st = true →
    exec (.laneLockTimeout l bs) s =
      .next ((s.lane l.val).blocks.foldl (fun s b => s.takeBlock p i 0 (hdrOf b) (BitVec.ofNat 64 b.toNat))
      (s.setLane l.val { s.lane l.val with blocks := [] }))) ∧
  (∀ (s : State) (l : Fin 16) (p i : Nat) (bs : List (BitVec 66)), s.laneOwner l.val = some (p, i) →
    [3].contains ((s.svlPort p).lane i).st = false →
    exec (.laneLockTimeout l bs) s = .next (s)) ∧
  (∀ (s : State) (l : Fin 16) (p i : Nat) (bs : List (BitVec 66)), s.laneOwner l.val = some (p, i) →
    s.asleep l.val false = false → s.nearLoop l.val = false → s.farLoop l.val = false →
    [3, 4].contains ((s.svlPort p).lane i).st = true →
    exec (.laneHeaderWindowFail l bs) s = .next (bs.foldl (fun s b => s.hearBlock p i 0 b) s)) ∧
  (∀ (s : State) (l : Fin 16) (p i : Nat) (bs : List (BitVec 66)), s.laneOwner l.val = some (p, i) →
    s.asleep l.val false = false → s.farLoop l.val = true → [3, 4].contains ((s.svlPort p).lane i).st = true →
    exec (.laneHeaderWindowFail l bs) s =
      .next (bs.foldl (fun s b => s.hearBlock p i 0 b) (bs.foldl (fun s b => s.emit (.resent l.val b)) s))) ∧
  (∀ (s : State) (l : Fin 16) (p i : Nat) (bs : List (BitVec 66)), s.laneOwner l.val = some (p, i) →
    s.nearLoop l.val = true → [3, 4].contains ((s.svlPort p).lane i).st = true →
    exec (.laneHeaderWindowFail l bs) s =
      .next ((s.lane l.val).blocks.foldl (fun s b => s.takeBlock p i 0 (hdrOf b) (BitVec.ofNat 64 b.toNat))
      (s.setLane l.val { s.lane l.val with blocks := [] }))) ∧
  (∀ (s : State) (l : Fin 16) (p i : Nat) (bs : List (BitVec 66)), s.laneOwner l.val = some (p, i) →
    [3, 4].contains ((s.svlPort p).lane i).st = false →
    exec (.laneHeaderWindowFail l bs) s = .next (s)) ∧
  (∀ (s : State) (l : Fin 16) (bs : List (BitVec 66)), (s.laneOwner l.val = none ∨ s.asleep l.val false = true) →
    exec (.laneBlockLock l bs) s = .next s ∧
      exec (.laneHeaderSlip l bs) s = .next s ∧
      exec (.lanePolarityDecided l bs) s = .next s ∧
      exec (.laneLockTimeout l bs) s = .next s ∧
      exec (.laneHeaderWindowFail l bs) s = .next s)

/-- The port rows of chapter 09 (R275, R281, R284, R287, R288, R296 to R305, R310, R314, R315). -/
def Obligations.SvlPortsConfigureAlignAndReceive : Prop :=
  (∀ (s : State) (p : Pkt), Taken 0x2010 p s → p.length = 1 → p.target.toNat < 16 → bitsOf (p.w 0) 31 24 ≤ 191 →
    bitsOf (p.w 0) 31 24 + bitsOf (p.w 0) 23 16 ≤ 192 →
    Ends (.svlPort p) 0x2010 p s ⟨stDone, 0, []⟩ fun u =>
      u.rd (R.SVL_PORT_CFG p.target.toNat) = s.rwAfter (R.SVL_PORT_CFG p.target.toNat) (p.w 0) ∧
      ((∀ l < 16, u.asleep l false = true → u.laneOwner l = none) → ∀ k < 16, k ≠ p.target.toNat →
        u.svlPort k = s.svlPort k) ∧
      ((∀ l < 40, u.asleep l false = false) → RegsKept [R.SVL_PORT_CFG p.target.toNat] s u) ∧
      OnlyChanges [.freeCtr, .regs, .cnt, .arb, .fns, .svl, .mac, .lanes] (s.afterTake p) u) ∧
  (∀ (s : State) (p : Pkt), Taken 0x2010 p s → p.length = 1 → p.target.toNat < 16 → bitsOf (p.w 0) 31 24 ≤ 191 →
    bitsOf (p.w 0) 31 24 + bitsOf (p.w 0) 23 16 ≤ 192 → (s.svlPort p.target.toNat).state = 0 →
    (p.w 0).testBit 0 = true → (s.wrRw (R.SVL_PORT_CFG p.target.toNat) (p.w 0)).cfgValid p.target.toNat = true →
    Ends (.svlPort p) 0x2010 p s ⟨stDone, 0, []⟩ fun u =>
      (u.svlPort p.target.toNat).state = 1 ∧ (u.svlPort p.target.toNat).cfgErr = false ∧
      RegsKeptIn [R.ETH_SAT, R.SVL_PORT_CFG, R.SVL_SAT] s u ∧
      OnlyChanges [.freeCtr, .regs, .cnt, .arb, .fns, .svl, .mac, .lanes] (s.afterTake p) u) ∧
  (∀ (s : State) (p : Pkt), Taken 0x2010 p s → p.length = 1 → p.target.toNat < 16 → bitsOf (p.w 0) 31 24 ≤ 191 →
    bitsOf (p.w 0) 31 24 + bitsOf (p.w 0) 23 16 ≤ 192 → (s.svlPort p.target.toNat).state = 0 →
    (p.w 0).testBit 0 = true → (s.wrRw (R.SVL_PORT_CFG p.target.toNat) (p.w 0)).cfgValid p.target.toNat = false →
    Ends (.svlPort p) 0x2010 p s ⟨stDone, 0, []⟩ fun u =>
      (u.svlPort p.target.toNat).state = 0 ∧ (u.svlPort p.target.toNat).cfgErr = true ∧
      RegsKeptIn [R.ETH_SAT, R.SVL_PORT_CFG, R.SVL_SAT] s u ∧
      OnlyChanges [.freeCtr, .regs, .cnt, .arb, .fns, .svl, .mac, .lanes] (s.afterTake p) u) ∧
  (∀ (s : State) (p : Pkt), Taken 0x2010 p s → p.length = 1 → p.target.toNat < 16 → bitsOf (p.w 0) 31 24 ≤ 191 →
    bitsOf (p.w 0) 31 24 + bitsOf (p.w 0) 23 16 ≤ 192 → (p.w 0).testBit 0 = false →
    Ends (.svlPort p) 0x2010 p s ⟨stDone, 0, []⟩ fun u =>
      (u.svlPort p.target.toNat).state = 0 ∧ (u.svlPort p.target.toNat).lanes = [] ∧
      RegsKeptIn [R.ETH_SAT, R.SVL_PORT_CFG, R.SVL_SAT] s u ∧
      OnlyChanges [.freeCtr, .regs, .cnt, .arb, .fns, .svl, .mac, .lanes] (s.afterTake p) u) ∧
  (∀ (s : State) (p : Pkt), Taken 0x2010 p s → p.length = 1 → p.target.toNat < 16 →
    (191 < bitsOf (p.w 0) 31 24 ∨ 192 < bitsOf (p.w 0) 31 24 + bitsOf (p.w 0) 23 16) →
    Ends (.svlPort p) 0x2010 p s ⟨stBadParam, 0, []⟩ fun u =>
      OnlyChanges [] (s.afterTake p) u) ∧
  (∀ (s : State) (p : Pkt), Taken 0x2010 p s → p.length = 1 → 16 ≤ p.target.toNat →
    Ends (.svlPort p) 0x2010 p s ⟨stBadTarget, 0, []⟩ fun u =>
      OnlyChanges [] (s.afterTake p) u) ∧
  (∀ (s : State) (p : Fin 16) (v : Word), s.recovery = false → (s.svlPort p.val).state = 0 →
    (s.wrRw (R.SVL_PORT_CFG p.val) (setBit v.toNat 0)).cfgValid p.val = true →
    Completes (.svlPortEnable p v) s fun t =>
      (t.svlPort p.val).state = 1 ∧ (t.svlPort p.val).cfgErr = false ∧
      t.rd (R.SVL_PORT_CFG p.val) = s.rwAfter (R.SVL_PORT_CFG p.val) (setBit v.toNat 0) ∧
      ((∀ l < 16, t.asleep l false = true → t.laneOwner l = none) → ∀ k < 16, k ≠ p.val → t.svlPort k = s.svlPort k) ∧
      ((∀ l < 40, t.asleep l false = false) → RegsKept [R.SVL_PORT_CFG p.val] s t) ∧
      OnlyChanges [.freeCtr, .regs, .cnt, .arb, .fns, .svl, .mac, .lanes] s t) ∧
  (∀ (s : State) (p : Fin 16) (v : Word), s.recovery = false → (s.svlPort p.val).state = 0 →
    (s.wrRw (R.SVL_PORT_CFG p.val) (setBit v.toNat 0)).cfgValid p.val = false →
    Completes (.svlPortEnable p v) s fun t =>
      (t.svlPort p.val).state = 0 ∧ (t.svlPort p.val).cfgErr = true ∧
      t.rd (R.SVL_PORT_CFG p.val) = s.rwAfter (R.SVL_PORT_CFG p.val) (setBit v.toNat 0) ∧
      ((∀ l < 16, t.asleep l false = true → t.laneOwner l = none) → ∀ k < 16, k ≠ p.val → t.svlPort k = s.svlPort k) ∧
      ((∀ l < 40, t.asleep l false = false) → RegsKept [R.SVL_PORT_CFG p.val] s t) ∧
      OnlyChanges [.freeCtr, .regs, .cnt, .arb, .fns, .svl, .mac, .lanes] s t) ∧
  (∀ (s : State) (p : Fin 16) (v : Word), s.recovery = false → (s.svlPort p.val).state ≠ 0 →
    s.firstLane p.val = bitsOf v.toNat 15 12 → s.portWidth p.val = 2 ^ (bitsOf v.toNat 9 8 % 3) →
    (∀ l < 16, s.asleep l false = false) →
    Completes (.svlPortEnable p v) s fun t =>
      t.svlPort p.val = s.svlPort p.val ∧
      t.rd (R.SVL_PORT_CFG p.val) = s.rwAfter (R.SVL_PORT_CFG p.val) (setBit v.toNat 0) ∧
      ((∀ l < 16, t.asleep l false = true → t.laneOwner l = none) → ∀ k < 16, k ≠ p.val → t.svlPort k = s.svlPort k) ∧
      ((∀ l < 40, t.asleep l false = false) → RegsKept [R.SVL_PORT_CFG p.val] s t) ∧
      OnlyChanges [.freeCtr, .regs, .cnt, .arb, .fns, .svl, .mac, .lanes] s t) ∧
  (∀ (s : State) (p : Fin 16) (v : Word), s.recovery = false → (s.svlPort p.val).state ≠ 0 →
    (s.firstLane p.val ≠ bitsOf v.toNat 15 12 ∨ s.portWidth p.val ≠ 2 ^ (bitsOf v.toNat 9 8 % 3)) →
    Completes (.svlPortEnable p v) s fun t =>
      (t.svlPort p.val).state ≤ 1 ∧ (t.svlPort p.val).lanes = [] ∧
      t.rd (R.SVL_PORT_CFG p.val) = s.rwAfter (R.SVL_PORT_CFG p.val) (setBit v.toNat 0) ∧
      ((∀ l < 16, t.asleep l false = true → t.laneOwner l = none) → ∀ k < 16, k ≠ p.val → t.svlPort k = s.svlPort k) ∧
      RegsKeptIn [R.ETH_SAT, R.SVL_PORT_CFG, R.SVL_SAT] s t ∧
      OnlyChanges [.freeCtr, .regs, .cnt, .arb, .fns, .svl, .mac, .lanes] s t) ∧
  (∀ (s : State) (p : Fin 16) (v : Word), s.recovery = true →
    exec (.svlPortEnable p v) s = exec (.svlPortDisable p v) s) ∧
  (∀ (s : State) (p : Fin 16) (v : Word),
    Completes (.svlPortDisable p v) s fun t =>
      (t.svlPort p.val).state = 0 ∧ (t.svlPort p.val).cfgErr = false ∧ (t.svlPort p.val).lanes = [] ∧
      (t.svlPort p.val).cur = none ∧
      t.rd (R.SVL_PORT_CFG p.val) = s.rwAfter (R.SVL_PORT_CFG p.val) (clrBit v.toNat 0) ∧
      ((∀ l < 16, t.asleep l false = true → t.laneOwner l = none) → ∀ k < 16, k ≠ p.val → t.svlPort k = s.svlPort k) ∧
      ((∀ l < 40, t.asleep l false = false) → RegsKept [R.SVL_PORT_CFG p.val] s t) ∧
      OnlyChanges [.freeCtr, .regs, .cnt, .arb, .fns, .svl, .mac, .lanes] s t) ∧
  (∀ (s : State) (p : Fin 16) (i : Fin 4) (b : BitVec 66) (bs : List (BitVec 66)) (n : Nat),
    (((s.svlPort p.val).lane i.val).st ≠ 4 ∨ (s.svlPort p.val).state = 0 ∨ s.portWidth p.val ≤ i.val) →
    exec (.tilePairReceive p i bs) s = .next s ∧ exec (.laneMarker p i b n) s = .next s ∧
      exec (.streamStart p i b) s = .next s ∧ exec (.fbStart p i b) s = .next s ∧
        exec (.lineStatus p i b) s = .next s ∧ exec (.idle p i b) s = .next s) ∧
  (∀ (s : State) (p : Fin 16) (i : Fin 4) (b : BitVec 66) (n : Nat),
    s.nearLoop (s.firstLane p.val + i.val) = false →
    ((((s.svlPort p.val).lane i.val).hear b).2.1 ≠ 2 ∨ (ctlGood (((s.svlPort p.val).lane i.val).hear b).2.2 = true ∧
      ctlByte (((s.svlPort p.val).lane i.val).hear b).2.2 0 ∉ [0x33, 0x4B, 0x55, 0x78, 0x1E])) →
    exec (.laneMarker p i b n) s = .next s ∧
      exec (.streamStart p i b) s = .next s ∧ exec (.fbStart p i b) s = .next s ∧
        exec (.lineStatus p i b) s = .next s ∧ exec (.idle p i b) s = .next s) ∧
  (∀ (s : State) (p : Fin 16) (i : Fin 4) (b : BitVec 66), s.nearLoop (s.firstLane p.val + i.val) = false →
    (((s.svlPort p.val).lane i.val).hear b).2.1 = 2 → ctlGood (((s.svlPort p.val).lane i.val).hear b).2.2 = true →
    ctlByte (((s.svlPort p.val).lane i.val).hear b).2.2 0 ≠ 0x33 →
    exec (.streamStart p i b) s = .next (s)) ∧
  (∀ (s : State) (p : Fin 16) (i : Fin 4) (b : BitVec 66), ((s.svlPort p.val).lane i.val).st = 4 →
    (s.svlPort p.val).state ≠ 0 → i.val < s.portWidth p.val → s.nearLoop (s.firstLane p.val + i.val) = false →
    s.farLoop (s.firstLane p.val + i.val) = false → ((s.svlPort p.val).lane i.val).wBad < 16 →
    (((s.svlPort p.val).lane i.val).hear b).2.1 = 2 → ctlGood (((s.svlPort p.val).lane i.val).hear b).2.2 = false →
    s.count (C.SVL_CTL_BAD p.val) < 0xFFFFFFFE →
    Completes (.streamStart p i b) s fun t =>
      t.count (C.SVL_CTL_BAD p.val) = s.count (C.SVL_CTL_BAD p.val) + 1 ∧
      (t.svlPort p.val).rx = (s.svlPort p.val).rx ∧ (t.svlPort p.val).lines = (s.svlPort p.val).lines ∧
      (t.svlPort p.val).cur = (s.svlPort p.val).cur ∧ (t.svlPort p.val).ignore = (s.svlPort p.val).ignore ∧
      (t.svlPort p.val).start = (s.svlPort p.val).start ∧
      ((t.svlPort p.val).lane i.val).part = ((s.svlPort p.val).lane i.val).part ∧
      (∀ k < 16, k ≠ p.val → t.svlPort k = s.svlPort k) ∧ RegsKept [R.SVL_SAT p.val] s t ∧
      OnlyChanges [.out, .regs, .cnt, .arb, .svl, .testLanes, .lanes] s t) ∧
  (∀ (s : State) (p : Fin 16) (i : Fin 4) (b : BitVec 66), ((s.svlPort p.val).lane i.val).st = 4 →
    (s.svlPort p.val).state ≠ 0 → i.val < s.portWidth p.val → s.farLoop (s.firstLane p.val + i.val) = true →
    (((s.svlPort p.val).lane i.val).hear b).2.1 = 2 →
    (ctlGood (((s.svlPort p.val).lane i.val).hear b).2.2 = false ∨
      ctlByte (((s.svlPort p.val).lane i.val).hear b).2.2 0 = 0x33) →
    exec (.streamStart p i b) s = .next ((s.emit (.resent (s.firstLane p.val +
      i.val) b)).hearBlock p.val i.val 0 b)) ∧
  (∀ (s : State) (p : Fin 16) (i : Fin 4) (b : BitVec 66), ((s.svlPort p.val).lane i.val).st = 4 →
    (s.svlPort p.val).state ≠ 0 → i.val < s.portWidth p.val → s.nearLoop (s.firstLane p.val + i.val) = true →
    exec (.streamStart p i b) s = .next ((s.lane (s.firstLane p.val + i.val)).blocks.foldl
      (fun s b => s.takeBlock p.val i.val 0 (hdrOf b) (BitVec.ofNat 64 b.toNat))
      (s.setLane (s.firstLane p.val + i.val) { s.lane (s.firstLane p.val + i.val) with blocks := [] }))) ∧
  (∀ (s : State) (p : Fin 16) (i : Fin 4) (b : BitVec 66), s.nearLoop (s.firstLane p.val + i.val) = false →
    (((s.svlPort p.val).lane i.val).hear b).2.1 = 2 → ctlGood (((s.svlPort p.val).lane i.val).hear b).2.2 = true →
    ctlByte (((s.svlPort p.val).lane i.val).hear b).2.2 0 ≠ 0x4B →
    exec (.fbStart p i b) s = .next (s)) ∧
  (∀ (s : State) (p : Fin 16) (i : Fin 4) (b : BitVec 66), ((s.svlPort p.val).lane i.val).st = 4 →
    (s.svlPort p.val).state ≠ 0 → i.val < s.portWidth p.val → s.nearLoop (s.firstLane p.val + i.val) = false →
    s.farLoop (s.firstLane p.val + i.val) = false → ((s.svlPort p.val).lane i.val).wBad < 16 →
    (((s.svlPort p.val).lane i.val).hear b).2.1 = 2 → ctlGood (((s.svlPort p.val).lane i.val).hear b).2.2 = false →
    s.count (C.SVL_CTL_BAD p.val) < 0xFFFFFFFE →
    Completes (.fbStart p i b) s fun t =>
      t.count (C.SVL_CTL_BAD p.val) = s.count (C.SVL_CTL_BAD p.val) + 1 ∧
      (t.svlPort p.val).rx = (s.svlPort p.val).rx ∧ (t.svlPort p.val).lines = (s.svlPort p.val).lines ∧
      (t.svlPort p.val).cur = (s.svlPort p.val).cur ∧ (t.svlPort p.val).ignore = (s.svlPort p.val).ignore ∧
      (t.svlPort p.val).start = (s.svlPort p.val).start ∧
      ((t.svlPort p.val).lane i.val).part = ((s.svlPort p.val).lane i.val).part ∧
      (∀ k < 16, k ≠ p.val → t.svlPort k = s.svlPort k) ∧ RegsKept [R.SVL_SAT p.val] s t ∧
      OnlyChanges [.out, .regs, .cnt, .arb, .svl, .testLanes, .lanes] s t) ∧
  (∀ (s : State) (p : Fin 16) (i : Fin 4) (b : BitVec 66), ((s.svlPort p.val).lane i.val).st = 4 →
    (s.svlPort p.val).state ≠ 0 → i.val < s.portWidth p.val → s.farLoop (s.firstLane p.val + i.val) = true →
    (((s.svlPort p.val).lane i.val).hear b).2.1 = 2 →
    (ctlGood (((s.svlPort p.val).lane i.val).hear b).2.2 = false ∨
      ctlByte (((s.svlPort p.val).lane i.val).hear b).2.2 0 = 0x4B) →
    exec (.fbStart p i b) s = .next ((s.emit (.resent (s.firstLane p.val + i.val) b)).hearBlock p.val i.val 0 b)) ∧
  (∀ (s : State) (p : Fin 16) (i : Fin 4) (b : BitVec 66), ((s.svlPort p.val).lane i.val).st = 4 →
    (s.svlPort p.val).state ≠ 0 → i.val < s.portWidth p.val → s.nearLoop (s.firstLane p.val + i.val) = true →
    exec (.fbStart p i b) s = .next ((s.lane (s.firstLane p.val + i.val)).blocks.foldl
      (fun s b => s.takeBlock p.val i.val 0 (hdrOf b) (BitVec.ofNat 64 b.toNat))
      (s.setLane (s.firstLane p.val + i.val) { s.lane (s.firstLane p.val + i.val) with blocks := [] }))) ∧
  (∀ (s : State) (p : Fin 16) (i : Fin 4) (b : BitVec 66), s.nearLoop (s.firstLane p.val + i.val) = false →
    (((s.svlPort p.val).lane i.val).hear b).2.1 = 2 → ctlGood (((s.svlPort p.val).lane i.val).hear b).2.2 = true →
    ctlByte (((s.svlPort p.val).lane i.val).hear b).2.2 0 ≠ 0x55 →
    exec (.lineStatus p i b) s = .next (s)) ∧
  (∀ (s : State) (p : Fin 16) (i : Fin 4) (b : BitVec 66), ((s.svlPort p.val).lane i.val).st = 4 →
    (s.svlPort p.val).state ≠ 0 → i.val < s.portWidth p.val → s.nearLoop (s.firstLane p.val + i.val) = false →
    s.farLoop (s.firstLane p.val + i.val) = false → ((s.svlPort p.val).lane i.val).wBad < 16 →
    (((s.svlPort p.val).lane i.val).hear b).2.1 = 2 → ctlGood (((s.svlPort p.val).lane i.val).hear b).2.2 = false →
    s.count (C.SVL_CTL_BAD p.val) < 0xFFFFFFFE →
    Completes (.lineStatus p i b) s fun t =>
      t.count (C.SVL_CTL_BAD p.val) = s.count (C.SVL_CTL_BAD p.val) + 1 ∧
      (t.svlPort p.val).rx = (s.svlPort p.val).rx ∧ (t.svlPort p.val).lines = (s.svlPort p.val).lines ∧
      (t.svlPort p.val).cur = (s.svlPort p.val).cur ∧ (t.svlPort p.val).ignore = (s.svlPort p.val).ignore ∧
      (t.svlPort p.val).start = (s.svlPort p.val).start ∧
      ((t.svlPort p.val).lane i.val).part = ((s.svlPort p.val).lane i.val).part ∧
      (∀ k < 16, k ≠ p.val → t.svlPort k = s.svlPort k) ∧ RegsKept [R.SVL_SAT p.val] s t ∧
      OnlyChanges [.out, .regs, .cnt, .arb, .svl, .testLanes, .lanes] s t) ∧
  (∀ (s : State) (p : Fin 16) (i : Fin 4) (b : BitVec 66), ((s.svlPort p.val).lane i.val).st = 4 →
    (s.svlPort p.val).state ≠ 0 → i.val < s.portWidth p.val → s.farLoop (s.firstLane p.val + i.val) = true →
    (((s.svlPort p.val).lane i.val).hear b).2.1 = 2 →
    (ctlGood (((s.svlPort p.val).lane i.val).hear b).2.2 = false ∨
      ctlByte (((s.svlPort p.val).lane i.val).hear b).2.2 0 = 0x55) →
    exec (.lineStatus p i b) s = .next ((s.emit (.resent (s.firstLane p.val + i.val) b)).hearBlock p.val i.val 0 b)) ∧
  (∀ (s : State) (p : Fin 16) (i : Fin 4) (b : BitVec 66), ((s.svlPort p.val).lane i.val).st = 4 →
    (s.svlPort p.val).state ≠ 0 → i.val < s.portWidth p.val → s.nearLoop (s.firstLane p.val + i.val) = true →
    exec (.lineStatus p i b) s = .next ((s.lane (s.firstLane p.val + i.val)).blocks.foldl
      (fun s b => s.takeBlock p.val i.val 0 (hdrOf b) (BitVec.ofNat 64 b.toNat))
      (s.setLane (s.firstLane p.val + i.val) { s.lane (s.firstLane p.val + i.val) with blocks := [] }))) ∧
  (∀ (s : State) (p : Fin 16) (i : Fin 4) (b : BitVec 66), s.nearLoop (s.firstLane p.val + i.val) = false →
    (((s.svlPort p.val).lane i.val).hear b).2.1 = 2 → ctlGood (((s.svlPort p.val).lane i.val).hear b).2.2 = true →
    ctlByte (((s.svlPort p.val).lane i.val).hear b).2.2 0 ≠ 0x1E →
    exec (.idle p i b) s = .next (s)) ∧
  (∀ (s : State) (p : Fin 16) (i : Fin 4) (b : BitVec 66), ((s.svlPort p.val).lane i.val).st = 4 →
    (s.svlPort p.val).state ≠ 0 → i.val < s.portWidth p.val → s.nearLoop (s.firstLane p.val + i.val) = false →
    s.farLoop (s.firstLane p.val + i.val) = false → ((s.svlPort p.val).lane i.val).wBad < 16 →
    (((s.svlPort p.val).lane i.val).hear b).2.1 = 2 → ctlGood (((s.svlPort p.val).lane i.val).hear b).2.2 = false →
    s.count (C.SVL_CTL_BAD p.val) < 0xFFFFFFFE →
    Completes (.idle p i b) s fun t =>
      t.count (C.SVL_CTL_BAD p.val) = s.count (C.SVL_CTL_BAD p.val) + 1 ∧
      (t.svlPort p.val).rx = (s.svlPort p.val).rx ∧ (t.svlPort p.val).lines = (s.svlPort p.val).lines ∧
      (t.svlPort p.val).cur = (s.svlPort p.val).cur ∧ (t.svlPort p.val).ignore = (s.svlPort p.val).ignore ∧
      (t.svlPort p.val).start = (s.svlPort p.val).start ∧
      ((t.svlPort p.val).lane i.val).part = ((s.svlPort p.val).lane i.val).part ∧
      (∀ k < 16, k ≠ p.val → t.svlPort k = s.svlPort k) ∧ RegsKept [R.SVL_SAT p.val] s t ∧
      OnlyChanges [.out, .regs, .cnt, .arb, .svl, .testLanes, .lanes] s t) ∧
  (∀ (s : State) (p : Fin 16) (i : Fin 4) (b : BitVec 66), ((s.svlPort p.val).lane i.val).st = 4 →
    (s.svlPort p.val).state ≠ 0 → i.val < s.portWidth p.val → s.farLoop (s.firstLane p.val + i.val) = true →
    (((s.svlPort p.val).lane i.val).hear b).2.1 = 2 →
    (ctlGood (((s.svlPort p.val).lane i.val).hear b).2.2 = false ∨
      ctlByte (((s.svlPort p.val).lane i.val).hear b).2.2 0 = 0x1E) →
    exec (.idle p i b) s = .next ((s.emit (.resent (s.firstLane p.val + i.val) b)).hearBlock p.val i.val 0 b)) ∧
  (∀ (s : State) (p : Fin 16) (i : Fin 4) (b : BitVec 66), ((s.svlPort p.val).lane i.val).st = 4 →
    (s.svlPort p.val).state ≠ 0 → i.val < s.portWidth p.val → s.nearLoop (s.firstLane p.val + i.val) = true →
    exec (.idle p i b) s = .next ((s.lane (s.firstLane p.val + i.val)).blocks.foldl
      (fun s b => s.takeBlock p.val i.val 0 (hdrOf b) (BitVec.ofNat 64 b.toNat))
      (s.setLane (s.firstLane p.val + i.val) { s.lane (s.firstLane p.val + i.val) with blocks := [] }))) ∧
  (∀ (s : State) (p : Fin 16) (i : Fin 4) (b : BitVec 66) (n : Nat),
    s.nearLoop (s.firstLane p.val + i.val) = false → (((s.svlPort p.val).lane i.val).hear b).2.1 = 2 →
    ctlGood (((s.svlPort p.val).lane i.val).hear b).2.2 = true →
    ctlByte (((s.svlPort p.val).lane i.val).hear b).2.2 0 ≠ 0x78 →
    exec (.laneMarker p i b n) s = .next (s)) ∧
  (∀ (s : State) (p : Fin 16) (i : Fin 4) (b : BitVec 66) (n : Nat), ((s.svlPort p.val).lane i.val).st = 4 →
    (s.svlPort p.val).state ≠ 0 → i.val < s.portWidth p.val → s.nearLoop (s.firstLane p.val + i.val) = false →
    s.farLoop (s.firstLane p.val + i.val) = false → ((s.svlPort p.val).lane i.val).wBad < 16 →
    (((s.svlPort p.val).lane i.val).hear b).2.1 = 2 → ctlGood (((s.svlPort p.val).lane i.val).hear b).2.2 = false →
    s.count (C.SVL_CTL_BAD p.val) < 0xFFFFFFFE →
    Completes (.laneMarker p i b n) s fun t =>
      t.count (C.SVL_CTL_BAD p.val) = s.count (C.SVL_CTL_BAD p.val) + 1 ∧
      (t.svlPort p.val).rx = (s.svlPort p.val).rx ∧ (t.svlPort p.val).lines = (s.svlPort p.val).lines ∧
      (t.svlPort p.val).cur = (s.svlPort p.val).cur ∧ (t.svlPort p.val).ignore = (s.svlPort p.val).ignore ∧
      (t.svlPort p.val).start = (s.svlPort p.val).start ∧
      ((t.svlPort p.val).lane i.val).part = ((s.svlPort p.val).lane i.val).part ∧
      (∀ k < 16, k ≠ p.val → t.svlPort k = s.svlPort k) ∧ RegsKept [R.SVL_SAT p.val] s t ∧
      OnlyChanges [.out, .regs, .cnt, .arb, .svl, .testLanes, .lanes] s t) ∧
  (∀ (s : State) (p : Fin 16) (i : Fin 4) (b : BitVec 66) (n : Nat), ((s.svlPort p.val).lane i.val).st = 4 →
    (s.svlPort p.val).state ≠ 0 → i.val < s.portWidth p.val → s.farLoop (s.firstLane p.val + i.val) = true →
    (((s.svlPort p.val).lane i.val).hear b).2.1 = 2 →
    (ctlGood (((s.svlPort p.val).lane i.val).hear b).2.2 = false ∨
      ctlByte (((s.svlPort p.val).lane i.val).hear b).2.2 0 = 0x78) →
    exec (.laneMarker p i b n) s = .next ((s.emit (.resent (s.firstLane p.val +
      i.val) b)).hearBlock p.val i.val n b)) ∧
  (∀ (s : State) (p : Fin 16) (i : Fin 4) (b : BitVec 66) (n : Nat), ((s.svlPort p.val).lane i.val).st = 4 →
    (s.svlPort p.val).state ≠ 0 → i.val < s.portWidth p.val → s.nearLoop (s.firstLane p.val + i.val) = true →
    exec (.laneMarker p i b n) s = .next ((s.lane (s.firstLane p.val + i.val)).blocks.foldl
      (fun s b => s.takeBlock p.val i.val n (hdrOf b) (BitVec.ofNat 64 b.toNat))
      (s.setLane (s.firstLane p.val + i.val) { s.lane (s.firstLane p.val + i.val) with blocks := [] }))) ∧
  (∀ (s : State) (p : Fin 16) (i : Fin 4) (bs : List (BitVec 66)), ((s.svlPort p.val).lane i.val).st = 4 →
    (s.svlPort p.val).state ≠ 0 → i.val < s.portWidth p.val → s.nearLoop (s.firstLane p.val + i.val) = false →
    s.farLoop (s.firstLane p.val + i.val) = false →
    exec (.tilePairReceive p i bs) s = .next (bs.foldl (fun s b => s.hearBlock p.val i.val 0 b) s)) ∧
  (∀ (s : State) (p : Fin 16) (i : Fin 4) (bs : List (BitVec 66)), ((s.svlPort p.val).lane i.val).st = 4 →
    (s.svlPort p.val).state ≠ 0 → i.val < s.portWidth p.val → s.farLoop (s.firstLane p.val + i.val) = true →
    exec (.tilePairReceive p i bs) s = .next (bs.foldl (fun s b => s.hearBlock p.val i.val 0 b)
      (bs.foldl (fun s b => s.emit (.resent (s.firstLane p.val + i.val) b)) s))) ∧
  (∀ (s : State) (p : Fin 16) (i : Fin 4) (bs : List (BitVec 66)), ((s.svlPort p.val).lane i.val).st = 4 →
    (s.svlPort p.val).state ≠ 0 → i.val < s.portWidth p.val → s.nearLoop (s.firstLane p.val + i.val) = true →
    exec (.tilePairReceive p i bs) s = .next ((s.lane (s.firstLane p.val + i.val)).blocks.foldl
      (fun s b => s.takeBlock p.val i.val 0 (hdrOf b) (BitVec.ofNat 64 b.toNat))
      (s.setLane (s.firstLane p.val + i.val) { s.lane (s.firstLane p.val + i.val) with blocks := [] }))) ∧
  (∀ (s : State) (p : Fin 16) (i : Fin 4) (b : BitVec 66), ((s.svlPort p.val).lane i.val).st = 4 →
    (s.svlPort p.val).state ≠ 0 → i.val < s.portWidth p.val → s.nearLoop (s.firstLane p.val + i.val) = false →
    s.farLoop (s.firstLane p.val + i.val) = false → ((s.svlPort p.val).lane i.val).wBad < 16 →
    (((s.svlPort p.val).lane i.val).hear b).2.1 = 1 → (s.svlPort p.val).state ≠ 3 →
    Completes (.tilePairReceive p i [b]) s fun t =>
      ((t.svlPort p.val).lane i.val).part = ((s.svlPort p.val).lane i.val).part ∧
      (t.svlPort p.val).rx = (s.svlPort p.val).rx ∧ (∀ k < 16, k ≠ p.val → t.svlPort k = s.svlPort k) ∧
      RegsKept [R.SVL_SAT p.val] s t ∧ OnlyChanges [.out, .regs, .cnt, .arb, .svl, .lanes] s t) ∧
  (∀ (s : State) (p : Fin 16) (i : Fin 4) (b : BitVec 66), ((s.svlPort p.val).lane i.val).st = 4 →
    (s.svlPort p.val).state ≠ 0 → i.val < s.portWidth p.val → s.nearLoop (s.firstLane p.val + i.val) = false →
    s.farLoop (s.firstLane p.val + i.val) = false → ((s.svlPort p.val).lane i.val).wBad < 16 →
    (((s.svlPort p.val).lane i.val).hear b).2.1 = 1 → (s.svlPort p.val).state = 3 →
    ((s.svlPort p.val).lane i.val).part.length < 8 →
    Completes (.tilePairReceive p i [b]) s fun t =>
      ((t.svlPort p.val).lane i.val).part =
        ((s.svlPort p.val).lane i.val).part ++ [(((s.svlPort p.val).lane i.val).hear b).2.2] ∧
      (t.svlPort p.val).rx = (s.svlPort p.val).rx ∧ (t.svlPort p.val).state = 3 ∧
      (∀ k < 16, k ≠ p.val → t.svlPort k = s.svlPort k) ∧ RegsKept [R.SVL_SAT p.val] s t ∧
      OnlyChanges [.out, .regs, .cnt, .arb, .svl, .lanes] s t) ∧
  (∀ (s : State) (p : Fin 16) (i : Fin 4) (b : BitVec 66) (pair : Nat) (tk g q k : Nat) (r : RxSym),
    ((s.svlPort p.val).lane i.val).st = 4 → (s.svlPort p.val).state ≠ 0 → i.val < s.portWidth p.val →
    s.nearLoop (s.firstLane p.val + i.val) = false → s.farLoop (s.firstLane p.val + i.val) = false →
    ((s.svlPort p.val).lane i.val).wBad < 16 → (((s.svlPort p.val).lane i.val).hear b).2.1 = 1 →
    (s.svlPort p.val).state = 3 → 8 ≤ ((s.svlPort p.val).lane i.val).part.length →
    pair = (((s.svlPort p.val).lane i.val).part ++
      [(((s.svlPort p.val).lane i.val).hear b).2.2]).foldr (fun w a => w.toNat + a * 2 ^ 64) 0 →
    (s.svlPort p.val).ignore = false → (s.svlPort p.val).cur = some tk → s.portOf p.val = some (g, q) →
    r = (s.svlPort p.val).rxOf tk → k = ((s.svlPort p.val).lane i.val).logical →
    ¬ (s.tick.count.toNat < r.tick ∧ 1024 ≤ sparseGet (fun _ => 0) r.gotS k + sparseGet (fun _ => 0) r.gotF k) →
    r.ended.testBit k = false →
    sparseGet (fun _ => 0) r.gotS k < lanePairs (ceilDiv ((s.vg g).sampleTiles q) 2) (s.portWidth p.val) k →
    r.closed = false →
    Completes (.tilePairReceive p i [b]) s fun t =>
      sparseGet (fun _ => 0) ((t.svlPort p.val).rxOf tk).gotS k = sparseGet (fun _ => 0) r.gotS k + 1 ∧
      sparseGet (fun _ => 0) ((t.svlPort p.val).rxOf tk).tiles (2 * (sparseGet (fun _ => 0) r.gotS k *
        s.portWidth p.val + k)) = (if 2 * (sparseGet (fun _ => 0) r.gotS k * s.portWidth p.val +
        k) < (s.vg g).sampleTiles q then BitVec.ofNat 288 (pair % 2 ^ 288)
        else sparseGet (fun _ => 0) r.tiles (2 * (sparseGet (fun _ => 0) r.gotS k * s.portWidth p.val + k))) ∧
      sparseGet (fun _ => 0) ((t.svlPort p.val).rxOf tk).tiles (2 * (sparseGet (fun _ => 0) r.gotS k *
        s.portWidth p.val + k) + 1) = (if 2 * (sparseGet (fun _ => 0) r.gotS k * s.portWidth p.val + k) +
        1 < (s.vg g).sampleTiles q then BitVec.ofNat 288 (pair / 2 ^ 288)
        else sparseGet (fun _ => 0) r.tiles (2 * (sparseGet (fun _ => 0) r.gotS k * s.portWidth p.val + k) + 1)) ∧
      ((t.svlPort p.val).lane i.val).part = [] ∧ (∀ k < 16, k ≠ p.val → t.svlPort k = s.svlPort k) ∧
      RegsKept [R.SVL_SAT p.val] s t ∧ OnlyChanges [.out, .regs, .cnt, .arb, .svl, .lanes] s t) ∧
  (∀ (s : State) (p : Fin 16) (i : Fin 4) (b : BitVec 66) (pair : Nat) (tk g q k : Nat) (r : RxSym),
    ((s.svlPort p.val).lane i.val).st = 4 → (s.svlPort p.val).state ≠ 0 → i.val < s.portWidth p.val →
    s.nearLoop (s.firstLane p.val + i.val) = false → s.farLoop (s.firstLane p.val + i.val) = false →
    ((s.svlPort p.val).lane i.val).wBad < 16 → (((s.svlPort p.val).lane i.val).hear b).2.1 = 1 →
    (s.svlPort p.val).state = 3 → 8 ≤ ((s.svlPort p.val).lane i.val).part.length →
    pair = (((s.svlPort p.val).lane i.val).part ++
      [(((s.svlPort p.val).lane i.val).hear b).2.2]).foldr (fun w a => w.toNat + a * 2 ^ 64) 0 →
    (s.svlPort p.val).ignore = false → (s.svlPort p.val).cur = some tk → s.portOf p.val = some (g, q) →
    r = (s.svlPort p.val).rxOf tk → k = ((s.svlPort p.val).lane i.val).logical →
    ¬ (s.tick.count.toNat < r.tick ∧ 1024 ≤ sparseGet (fun _ => 0) r.gotS k + sparseGet (fun _ => 0) r.gotF k) →
    r.ended.testBit k = false →
    lanePairs (ceilDiv ((s.vg g).sampleTiles q) 2) (s.portWidth p.val) k ≤ sparseGet (fun _ => 0) r.gotS k →
    sparseGet (fun _ => 0) r.gotF k < lanePairs (ceilDiv (s.vg g).fbTotal 2) (s.portWidth p.val) k →
    r.closed = false →
    Completes (.tilePairReceive p i [b]) s fun t =>
      sparseGet (fun _ => 0) ((t.svlPort p.val).rxOf tk).gotF k = sparseGet (fun _ => 0) r.gotF k + 1 ∧
      sparseGet (fun _ => 0) ((t.svlPort p.val).rxOf tk).gotS k = sparseGet (fun _ => 0) r.gotS k ∧
      sparseGet (fun _ => 0) ((t.svlPort p.val).rxOf tk).tiles (2 ^ 20 +
        2 * (sparseGet (fun _ => 0) r.gotF k * s.portWidth p.val + k)) =
        (if 2 * (sparseGet (fun _ => 0) r.gotF k * s.portWidth p.val + k) < (s.vg g).fbTotal
        then BitVec.ofNat 288 (pair % 2 ^ 288)
        else sparseGet (fun _ => 0) r.tiles (2 ^ 20 + 2 * (sparseGet (fun _ => 0) r.gotF k * s.portWidth p.val +
        k))) ∧
      sparseGet (fun _ => 0) ((t.svlPort p.val).rxOf tk).tiles (2 ^ 20 +
        2 * (sparseGet (fun _ => 0) r.gotF k * s.portWidth p.val + k) + 1) =
        (if 2 * (sparseGet (fun _ => 0) r.gotF k * s.portWidth p.val + k) + 1 < (s.vg g).fbTotal
        then BitVec.ofNat 288 (pair / 2 ^ 288)
        else sparseGet (fun _ => 0) r.tiles (2 ^ 20 + 2 * (sparseGet (fun _ => 0) r.gotF k * s.portWidth p.val + k) +
        1)) ∧
      ((t.svlPort p.val).lane i.val).part = [] ∧ (∀ k < 16, k ≠ p.val → t.svlPort k = s.svlPort k) ∧
      RegsKept [R.SVL_SAT p.val] s t ∧ OnlyChanges [.out, .regs, .cnt, .arb, .svl, .lanes] s t) ∧
  (∀ (s : State) (p : Fin 16) (i : Fin 4) (b : BitVec 66) (pair : Nat) (tk g q k : Nat) (r : RxSym),
    ((s.svlPort p.val).lane i.val).st = 4 → (s.svlPort p.val).state ≠ 0 → i.val < s.portWidth p.val →
    s.nearLoop (s.firstLane p.val + i.val) = false → s.farLoop (s.firstLane p.val + i.val) = false →
    ((s.svlPort p.val).lane i.val).wBad < 16 → (((s.svlPort p.val).lane i.val).hear b).2.1 = 1 →
    (s.svlPort p.val).state = 3 → 8 ≤ ((s.svlPort p.val).lane i.val).part.length →
    pair = (((s.svlPort p.val).lane i.val).part ++
      [(((s.svlPort p.val).lane i.val).hear b).2.2]).foldr (fun w a => w.toNat + a * 2 ^ 64) 0 →
    (s.svlPort p.val).ignore = false → (s.svlPort p.val).cur = some tk → s.portOf p.val = some (g, q) →
    r = (s.svlPort p.val).rxOf tk → k = ((s.svlPort p.val).lane i.val).logical → r.closed = true →
    r.ended.testBit k = false →
    (sparseGet (fun _ => 0) r.gotS k < lanePairs (ceilDiv ((s.vg g).sampleTiles q) 2) (s.portWidth p.val) k ∨
      sparseGet (fun _ => 0) r.gotF k < lanePairs (ceilDiv (s.vg g).fbTotal 2) (s.portWidth p.val) k) →
    Completes (.tilePairReceive p i [b]) s fun t =>
      (t.svlPort p.val).rx = (s.svlPort p.val).rx ∧
      t.count (C.SVL_MISALIGN p.val) = s.count (C.SVL_MISALIGN p.val) ∧ ((t.svlPort p.val).lane i.val).part = [] ∧
      (∀ k < 16, k ≠ p.val → t.svlPort k = s.svlPort k) ∧ RegsKept [R.SVL_SAT p.val] s t ∧
      OnlyChanges [.out, .regs, .cnt, .arb, .svl, .lanes] s t) ∧
  (∀ (s : State) (p : Fin 16) (i : Fin 4) (b : BitVec 66) (pair : Nat) (tk g q k : Nat) (r : RxSym),
    ((s.svlPort p.val).lane i.val).st = 4 → (s.svlPort p.val).state ≠ 0 → i.val < s.portWidth p.val →
    s.nearLoop (s.firstLane p.val + i.val) = false → s.farLoop (s.firstLane p.val + i.val) = false →
    ((s.svlPort p.val).lane i.val).wBad < 16 → (((s.svlPort p.val).lane i.val).hear b).2.1 = 1 →
    (s.svlPort p.val).state = 3 → 8 ≤ ((s.svlPort p.val).lane i.val).part.length →
    pair = (((s.svlPort p.val).lane i.val).part ++
      [(((s.svlPort p.val).lane i.val).hear b).2.2]).foldr (fun w a => w.toNat + a * 2 ^ 64) 0 →
    (s.svlPort p.val).ignore = false → (s.svlPort p.val).cur = some tk → s.portOf p.val = some (g, q) →
    r = (s.svlPort p.val).rxOf tk → k = ((s.svlPort p.val).lane i.val).logical →
    ¬ (s.tick.count.toNat < r.tick ∧ 1024 ≤ sparseGet (fun _ => 0) r.gotS k + sparseGet (fun _ => 0) r.gotF k) →
    (r.ended.testBit k = true ∨ (lanePairs (ceilDiv ((s.vg g).sampleTiles q) 2) (s.portWidth p.val) k ≤ sparseGet (fun _ => 0) r.gotS k ∧
      lanePairs (ceilDiv (s.vg g).fbTotal 2) (s.portWidth p.val) k ≤ sparseGet (fun _ => 0) r.gotF k)) →
    s.count (C.SVL_MISALIGN p.val) < 0xFFFFFFFE →
    Completes (.tilePairReceive p i [b]) s fun t =>
      (t.svlPort p.val).rx = (s.svlPort p.val).rx ∧
      t.count (C.SVL_MISALIGN p.val) = s.count (C.SVL_MISALIGN p.val) + 1 ∧ (t.svlPort p.val).misTold = true ∧
      ((t.svlPort p.val).lane i.val).part = [] ∧ (∀ k < 16, k ≠ p.val → t.svlPort k = s.svlPort k) ∧
      RegsKept [R.SVL_SAT p.val] s t ∧ OnlyChanges [.out, .regs, .cnt, .arb, .svl, .lanes] s t) ∧
  (∀ (s : State) (p : Fin 16) (i : Fin 4) (b : BitVec 66) (pair : Nat) (tk g q k : Nat) (r : RxSym),
    ((s.svlPort p.val).lane i.val).st = 4 → (s.svlPort p.val).state ≠ 0 → i.val < s.portWidth p.val →
    s.nearLoop (s.firstLane p.val + i.val) = false → s.farLoop (s.firstLane p.val + i.val) = false →
    ((s.svlPort p.val).lane i.val).wBad < 16 → (((s.svlPort p.val).lane i.val).hear b).2.1 = 1 →
    (s.svlPort p.val).state = 3 → 8 ≤ ((s.svlPort p.val).lane i.val).part.length →
    pair = (((s.svlPort p.val).lane i.val).part ++
      [(((s.svlPort p.val).lane i.val).hear b).2.2]).foldr (fun w a => w.toNat + a * 2 ^ 64) 0 →
    (s.svlPort p.val).ignore = false → (s.svlPort p.val).cur = some tk → s.portOf p.val = some (g, q) →
    r = (s.svlPort p.val).rxOf tk → k = ((s.svlPort p.val).lane i.val).logical →
    s.tick.count.toNat < r.tick ∧ 1024 ≤ sparseGet (fun _ => 0) r.gotS k + sparseGet (fun _ => 0) r.gotF k →
    Completes (.tilePairReceive p i [b]) s fun t =>
      (t.svlPort p.val).rx = (s.svlPort p.val).rx ∧
      t.count (C.SVL_MISALIGN p.val) = s.count (C.SVL_MISALIGN p.val) ∧ ((t.svlPort p.val).lane i.val).part = [] ∧
      (∀ k < 16, k ≠ p.val → t.svlPort k = s.svlPort k) ∧ RegsKept [R.SVL_SAT p.val] s t ∧
      OnlyChanges [.out, .regs, .cnt, .arb, .svl, .lanes] s t) ∧
  (∀ (s : State) (p : Fin 16) (i : Fin 4) (b : BitVec 66) (pair : Nat), ((s.svlPort p.val).lane i.val).st = 4 →
    (s.svlPort p.val).state ≠ 0 → i.val < s.portWidth p.val → s.nearLoop (s.firstLane p.val + i.val) = false →
    s.farLoop (s.firstLane p.val + i.val) = false → ((s.svlPort p.val).lane i.val).wBad < 16 →
    (((s.svlPort p.val).lane i.val).hear b).2.1 = 1 → (s.svlPort p.val).state = 3 →
    8 ≤ ((s.svlPort p.val).lane i.val).part.length →
    pair = (((s.svlPort p.val).lane i.val).part ++
      [(((s.svlPort p.val).lane i.val).hear b).2.2]).foldr (fun w a => w.toNat + a * 2 ^ 64) 0 →
    (s.svlPort p.val).ignore = true →
    Completes (.tilePairReceive p i [b]) s fun t =>
      (t.svlPort p.val).rx = (s.svlPort p.val).rx ∧
      t.count (C.SVL_MISALIGN p.val) = s.count (C.SVL_MISALIGN p.val) ∧ ((t.svlPort p.val).lane i.val).part = [] ∧
      (∀ k < 16, k ≠ p.val → t.svlPort k = s.svlPort k) ∧ RegsKept [R.SVL_SAT p.val] s t ∧
      OnlyChanges [.out, .regs, .cnt, .arb, .svl, .lanes] s t) ∧
  (∀ (s : State) (p : Fin 16) (i : Fin 4) (b : BitVec 66) (pair : Nat) (g q : Nat),
    ((s.svlPort p.val).lane i.val).st = 4 → (s.svlPort p.val).state ≠ 0 → i.val < s.portWidth p.val →
    s.nearLoop (s.firstLane p.val + i.val) = false → s.farLoop (s.firstLane p.val + i.val) = false →
    ((s.svlPort p.val).lane i.val).wBad < 16 → (((s.svlPort p.val).lane i.val).hear b).2.1 = 1 →
    (s.svlPort p.val).state = 3 → 8 ≤ ((s.svlPort p.val).lane i.val).part.length →
    pair = (((s.svlPort p.val).lane i.val).part ++
      [(((s.svlPort p.val).lane i.val).hear b).2.2]).foldr (fun w a => w.toNat + a * 2 ^ 64) 0 →
    (s.svlPort p.val).ignore = false → (s.svlPort p.val).cur = none → s.portOf p.val = some (g, q) →
    2 ≤ (s.vg g).state → s.count (C.SVL_MISALIGN p.val) < 0xFFFFFFFE →
    Completes (.tilePairReceive p i [b]) s fun t =>
      (t.svlPort p.val).rx = (s.svlPort p.val).rx ∧
      t.count (C.SVL_MISALIGN p.val) = s.count (C.SVL_MISALIGN p.val) + 1 ∧
      ((t.svlPort p.val).lane i.val).part = [] ∧ (∀ k < 16, k ≠ p.val → t.svlPort k = s.svlPort k) ∧
      RegsKept [R.SVL_SAT p.val] s t ∧ OnlyChanges [.out, .regs, .cnt, .arb, .svl, .lanes] s t) ∧
  (∀ (s : State) (p : Fin 16) (i : Fin 4) (b : BitVec 66) (pair : Nat), ((s.svlPort p.val).lane i.val).st = 4 →
    (s.svlPort p.val).state ≠ 0 → i.val < s.portWidth p.val → s.nearLoop (s.firstLane p.val + i.val) = false →
    s.farLoop (s.firstLane p.val + i.val) = false → ((s.svlPort p.val).lane i.val).wBad < 16 →
    (((s.svlPort p.val).lane i.val).hear b).2.1 = 1 → (s.svlPort p.val).state = 3 →
    8 ≤ ((s.svlPort p.val).lane i.val).part.length →
    pair = (((s.svlPort p.val).lane i.val).part ++
      [(((s.svlPort p.val).lane i.val).hear b).2.2]).foldr (fun w a => w.toNat + a * 2 ^ 64) 0 →
    (s.svlPort p.val).ignore = false → ((s.svlPort p.val).cur = none ∨ s.portOf p.val = none) →
    (match s.portOf p.val with | some (g, _) => decide ((s.vg g).state < 2) | none => true) = true →
    Completes (.tilePairReceive p i [b]) s fun t =>
      (t.svlPort p.val).rx = (s.svlPort p.val).rx ∧
      t.count (C.SVL_MISALIGN p.val) = s.count (C.SVL_MISALIGN p.val) ∧ ((t.svlPort p.val).lane i.val).part = [] ∧
      (∀ k < 16, k ≠ p.val → t.svlPort k = s.svlPort k) ∧ RegsKept [R.SVL_SAT p.val] s t ∧
      OnlyChanges [.out, .regs, .cnt, .arb, .svl, .lanes] s t) ∧
  (∀ (s : State) (p : Fin 16) (i : Fin 4) (b : BitVec 66) (grp tickNo : Nat),
    ((s.svlPort p.val).lane i.val).st = 4 → ((s.svlPort p.val).lane i.val).wBad < 16 →
    (s.svlPort p.val).state ≠ 0 ∧ (s.svlPort p.val).state ≠ 3 → i.val < s.portWidth p.val →
    s.nearLoop (s.firstLane p.val + i.val) = false → s.farLoop (s.firstLane p.val + i.val) = false →
    (((s.svlPort p.val).lane i.val).hear b).2.1 = 2 → ctlGood (((s.svlPort p.val).lane i.val).hear b).2.2 = true →
    ctlByte (((s.svlPort p.val).lane i.val).hear b).2.2 0 = 0x33 →
    Completes (.streamStart p i b) s fun t =>
      (t.svlPort p.val).rx = (s.svlPort p.val).rx ∧ (t.svlPort p.val).cur = (s.svlPort p.val).cur ∧
      (t.svlPort p.val).ignore = (s.svlPort p.val).ignore ∧
      t.count (C.SVL_STREAM_BAD p.val) = s.count (C.SVL_STREAM_BAD p.val) ∧
      t.count (C.SVL_MISALIGN p.val) = s.count (C.SVL_MISALIGN p.val) ∧
      (∀ k < 16, k ≠ p.val → t.svlPort k = s.svlPort k) ∧ RegsKept [R.SVL_SAT p.val] s t ∧
      OnlyChanges [.out, .regs, .cnt, .arb, .svl, .testLanes, .lanes] s t) ∧
  (∀ (s : State) (p : Fin 16) (i : Fin 4) (b : BitVec 66) (grp tickNo : Nat) (tk q : Nat),
    ((s.svlPort p.val).lane i.val).st = 4 → (s.svlPort p.val).state ≠ 0 → i.val < s.portWidth p.val →
    s.nearLoop (s.firstLane p.val + i.val) = false → s.farLoop (s.firstLane p.val + i.val) = false →
    ((s.svlPort p.val).lane i.val).wBad < 16 → (((s.svlPort p.val).lane i.val).hear b).2.1 = 2 →
    ctlGood (((s.svlPort p.val).lane i.val).hear b).2.2 = true →
    ctlByte (((s.svlPort p.val).lane i.val).hear b).2.2 0 = 0x33 → (s.svlPort p.val).state = 3 →
    grp = ctlByte (((s.svlPort p.val).lane i.val).hear b).2.2 1 % 4 →
    tickNo = ctlField (((s.svlPort p.val).lane i.val).hear b).2.2 2 2 →
    (s.svlPort p.val).start.all (fun z => z.1 != grp || z.2.1 != tickNo || z.2.2.testBit i.val) = true →
    s.portOf p.val = some (grp, q) → 2 ≤ (s.vg grp).state →
    ¬ ((s.gapTick (s.vg grp)).map (fun t => t % 65536) = some tickNo) → s.windowTick (s.vg grp) q = some tk →
    tk % 65536 = tickNo →
    Completes (.streamStart p i b) s fun t =>
      (t.svlPort p.val).cur = some tk ∧ (t.svlPort p.val).ignore = false ∧
      ((t.svlPort p.val).rxOf tk).opened = true ∧ (t.svlPort p.val).start = some (grp, tickNo, 2 ^ i.val) ∧
      t.count (C.SVL_STREAM_BAD p.val) = s.count (C.SVL_STREAM_BAD p.val) ∧
      (∀ k < 16, k ≠ p.val → t.svlPort k = s.svlPort k) ∧ RegsKept [R.SVL_SAT p.val] s t ∧
      OnlyChanges [.out, .regs, .cnt, .arb, .svl, .testLanes, .lanes] s t) ∧
  (∀ (s : State) (p : Fin 16) (i : Fin 4) (b : BitVec 66) (grp tickNo : Nat) (g q : Nat),
    ((s.svlPort p.val).lane i.val).st = 4 → (s.svlPort p.val).state ≠ 0 → i.val < s.portWidth p.val →
    s.nearLoop (s.firstLane p.val + i.val) = false → s.farLoop (s.firstLane p.val + i.val) = false →
    ((s.svlPort p.val).lane i.val).wBad < 16 → (((s.svlPort p.val).lane i.val).hear b).2.1 = 2 →
    ctlGood (((s.svlPort p.val).lane i.val).hear b).2.2 = true →
    ctlByte (((s.svlPort p.val).lane i.val).hear b).2.2 0 = 0x33 → (s.svlPort p.val).state = 3 →
    grp = ctlByte (((s.svlPort p.val).lane i.val).hear b).2.2 1 % 4 →
    tickNo = ctlField (((s.svlPort p.val).lane i.val).hear b).2.2 2 2 →
    (s.svlPort p.val).start.all (fun z => z.1 != grp || z.2.1 != tickNo || z.2.2.testBit i.val) = true →
    s.portOf p.val = some (g, q) → 2 ≤ (s.vg g).state →
    ¬ (grp = g ∧ (s.gapTick (s.vg g)).map (fun t => t % 65536) = some tickNo) →
    ¬ (grp = g ∧ (s.windowTick (s.vg g) q).map (fun t => t % 65536) = some tickNo) →
    s.count (C.SVL_STREAM_BAD p.val) < 0xFFFFFFFE →
    Completes (.streamStart p i b) s fun t =>
      (t.svlPort p.val).cur = none ∧ (t.svlPort p.val).ignore = true ∧ (t.svlPort p.val).rx = (s.svlPort p.val).rx ∧
      t.count (C.SVL_STREAM_BAD p.val) = s.count (C.SVL_STREAM_BAD p.val) + 1 ∧
      (t.svlPort p.val).start = some (grp, tickNo, 2 ^ i.val) ∧ (∀ k < 16, k ≠ p.val → t.svlPort k = s.svlPort k) ∧
      RegsKept [R.SVL_SAT p.val] s t ∧ OnlyChanges [.out, .regs, .cnt, .arb, .svl, .testLanes, .lanes] s t) ∧
  (∀ (s : State) (p : Fin 16) (i : Fin 4) (b : BitVec 66) (grp tickNo : Nat) (g q : Nat),
    ((s.svlPort p.val).lane i.val).st = 4 → (s.svlPort p.val).state ≠ 0 → i.val < s.portWidth p.val →
    s.nearLoop (s.firstLane p.val + i.val) = false → s.farLoop (s.firstLane p.val + i.val) = false →
    ((s.svlPort p.val).lane i.val).wBad < 16 → (((s.svlPort p.val).lane i.val).hear b).2.1 = 2 →
    ctlGood (((s.svlPort p.val).lane i.val).hear b).2.2 = true →
    ctlByte (((s.svlPort p.val).lane i.val).hear b).2.2 0 = 0x33 → (s.svlPort p.val).state = 3 →
    grp = ctlByte (((s.svlPort p.val).lane i.val).hear b).2.2 1 % 4 →
    tickNo = ctlField (((s.svlPort p.val).lane i.val).hear b).2.2 2 2 →
    (s.svlPort p.val).start.all (fun z => z.1 != grp || z.2.1 != tickNo || z.2.2.testBit i.val) = true →
    s.portOf p.val = some (g, q) →
    ((s.vg g).state < 2 ∨ (grp = g ∧ (s.gapTick (s.vg g)).map (fun t => t % 65536) = some tickNo)) →
    Completes (.streamStart p i b) s fun t =>
      (t.svlPort p.val).cur = none ∧ (t.svlPort p.val).ignore = true ∧ (t.svlPort p.val).rx = (s.svlPort p.val).rx ∧
      t.count (C.SVL_STREAM_BAD p.val) = s.count (C.SVL_STREAM_BAD p.val) ∧
      (t.svlPort p.val).start = some (grp, tickNo, 2 ^ i.val) ∧ (∀ k < 16, k ≠ p.val → t.svlPort k = s.svlPort k) ∧
      RegsKept [R.SVL_SAT p.val] s t ∧ OnlyChanges [.out, .regs, .cnt, .arb, .svl, .testLanes, .lanes] s t) ∧
  (∀ (s : State) (p : Fin 16) (i : Fin 4) (b : BitVec 66) (grp tickNo : Nat),
    ((s.svlPort p.val).lane i.val).st = 4 → (s.svlPort p.val).state ≠ 0 → i.val < s.portWidth p.val →
    s.nearLoop (s.firstLane p.val + i.val) = false → s.farLoop (s.firstLane p.val + i.val) = false →
    ((s.svlPort p.val).lane i.val).wBad < 16 → (((s.svlPort p.val).lane i.val).hear b).2.1 = 2 →
    ctlGood (((s.svlPort p.val).lane i.val).hear b).2.2 = true →
    ctlByte (((s.svlPort p.val).lane i.val).hear b).2.2 0 = 0x33 → (s.svlPort p.val).state = 3 →
    grp = ctlByte (((s.svlPort p.val).lane i.val).hear b).2.2 1 % 4 →
    tickNo = ctlField (((s.svlPort p.val).lane i.val).hear b).2.2 2 2 →
    (s.svlPort p.val).start.all (fun z => z.1 != grp || z.2.1 != tickNo || z.2.2.testBit i.val) = true →
    s.portOf p.val = none →
    Completes (.streamStart p i b) s fun t =>
      (t.svlPort p.val).cur = none ∧ (t.svlPort p.val).ignore = true ∧ (t.svlPort p.val).rx = (s.svlPort p.val).rx ∧
      t.count (C.SVL_STREAM_BAD p.val) = s.count (C.SVL_STREAM_BAD p.val) ∧
      (t.svlPort p.val).start = some (grp, tickNo, 2 ^ i.val) ∧ (∀ k < 16, k ≠ p.val → t.svlPort k = s.svlPort k) ∧
      RegsKept [R.SVL_SAT p.val] s t ∧ OnlyChanges [.out, .regs, .cnt, .arb, .svl, .testLanes, .lanes] s t) ∧
  (∀ (s : State) (p : Fin 16) (i : Fin 4) (b : BitVec 66) (grp tickNo : Nat) (m : Nat),
    ((s.svlPort p.val).lane i.val).st = 4 → (s.svlPort p.val).state ≠ 0 → i.val < s.portWidth p.val →
    s.nearLoop (s.firstLane p.val + i.val) = false → s.farLoop (s.firstLane p.val + i.val) = false →
    ((s.svlPort p.val).lane i.val).wBad < 16 → (((s.svlPort p.val).lane i.val).hear b).2.1 = 2 →
    ctlGood (((s.svlPort p.val).lane i.val).hear b).2.2 = true →
    ctlByte (((s.svlPort p.val).lane i.val).hear b).2.2 0 = 0x33 → (s.svlPort p.val).state = 3 →
    grp = ctlByte (((s.svlPort p.val).lane i.val).hear b).2.2 1 % 4 →
    tickNo = ctlField (((s.svlPort p.val).lane i.val).hear b).2.2 2 2 →
    (s.svlPort p.val).start = some (grp, tickNo, m) → m.testBit i.val = false →
    Completes (.streamStart p i b) s fun t =>
      (t.svlPort p.val).start = some (grp, tickNo, setBit m i.val) ∧ (t.svlPort p.val).cur = (s.svlPort p.val).cur ∧
      (t.svlPort p.val).ignore = (s.svlPort p.val).ignore ∧ (t.svlPort p.val).rx = (s.svlPort p.val).rx ∧
      t.count (C.SVL_STREAM_BAD p.val) = s.count (C.SVL_STREAM_BAD p.val) ∧
      (∀ k < 16, k ≠ p.val → t.svlPort k = s.svlPort k) ∧ RegsKept [R.SVL_SAT p.val] s t ∧
      OnlyChanges [.out, .regs, .cnt, .arb, .svl, .testLanes, .lanes] s t) ∧
  (∀ (s : State) (p : Fin 16) (i : Fin 4) (b : BitVec 66), ((s.svlPort p.val).lane i.val).st = 4 →
    (s.svlPort p.val).state ≠ 0 → i.val < s.portWidth p.val → s.nearLoop (s.firstLane p.val + i.val) = false →
    s.farLoop (s.firstLane p.val + i.val) = false → ((s.svlPort p.val).lane i.val).wBad < 16 →
    (((s.svlPort p.val).lane i.val).hear b).2.1 = 2 → ctlGood (((s.svlPort p.val).lane i.val).hear b).2.2 = true →
    ctlByte (((s.svlPort p.val).lane i.val).hear b).2.2 0 = 0x33 → (s.svlPort p.val).state = 3 →
    ((s.svlPort p.val).lane i.val).part ≠ [] → s.count (C.SVL_MISALIGN p.val) < 0xFFFFFFFE →
    Completes (.streamStart p i b) s fun t =>
      ((t.svlPort p.val).lane i.val).part = [] ∧
      t.count (C.SVL_MISALIGN p.val) = s.count (C.SVL_MISALIGN p.val) + 1 ∧ (t.svlPort p.val).misTold = true ∧
      RegsKept [R.SVL_SAT p.val] s t ∧ OnlyChanges [.out, .regs, .cnt, .arb, .svl, .testLanes, .lanes] s t) ∧
  (∀ (s : State) (p : Fin 16) (i : Fin 4) (b : BitVec 66), ((s.svlPort p.val).lane i.val).st = 4 →
    (s.svlPort p.val).state ≠ 0 → i.val < s.portWidth p.val → s.nearLoop (s.firstLane p.val + i.val) = false →
    s.farLoop (s.firstLane p.val + i.val) = false → ((s.svlPort p.val).lane i.val).wBad < 16 →
    (((s.svlPort p.val).lane i.val).hear b).2.1 = 2 → ctlGood (((s.svlPort p.val).lane i.val).hear b).2.2 = true →
    ctlByte (((s.svlPort p.val).lane i.val).hear b).2.2 0 = 0x33 → (s.svlPort p.val).state = 3 →
    ((s.svlPort p.val).lane i.val).part = [] →
    Completes (.streamStart p i b) s fun t =>
      ((t.svlPort p.val).lane i.val).part = [] ∧ t.count (C.SVL_MISALIGN p.val) = s.count (C.SVL_MISALIGN p.val) ∧
      RegsKept [R.SVL_SAT p.val] s t ∧ OnlyChanges [.out, .regs, .cnt, .arb, .svl, .testLanes, .lanes] s t) ∧
  (∀ (s : State) (p : Fin 16) (i : Fin 4) (b : BitVec 66) (tk g q k : Nat) (r : RxSym),
    ((s.svlPort p.val).lane i.val).st = 4 → (s.svlPort p.val).state ≠ 0 → i.val < s.portWidth p.val →
    s.nearLoop (s.firstLane p.val + i.val) = false → s.farLoop (s.firstLane p.val + i.val) = false →
    ((s.svlPort p.val).lane i.val).wBad < 16 → (((s.svlPort p.val).lane i.val).hear b).2.1 = 2 →
    ctlGood (((s.svlPort p.val).lane i.val).hear b).2.2 = true →
    ctlByte (((s.svlPort p.val).lane i.val).hear b).2.2 0 = 0x4B → (s.svlPort p.val).state = 3 →
    (s.svlPort p.val).cur = some tk → s.portOf p.val = some (g, q) → r = (s.svlPort p.val).rxOf tk →
    k = ((s.svlPort p.val).lane i.val).logical → r.ended.testBit k = false →
    sparseGet (fun _ => 0) r.gotS k < lanePairs (ceilDiv ((s.vg g).sampleTiles q) 2) (s.portWidth p.val) k →
    s.count (C.SVL_MISALIGN p.val) < 0xFFFFFFFE →
    Completes (.fbStart p i b) s fun t =>
      (((t.svlPort p.val).rxOf tk).ended).testBit k = true ∧ ((t.svlPort p.val).rxOf tk).gotS = r.gotS ∧
      (t.svlPort p.val).misTold = true ∧ t.count (C.SVL_MISALIGN p.val) = s.count (C.SVL_MISALIGN p.val) + 1 ∧
      (∀ k < 16, k ≠ p.val → t.svlPort k = s.svlPort k) ∧ RegsKept [R.SVL_SAT p.val] s t ∧
      OnlyChanges [.out, .regs, .cnt, .arb, .svl, .testLanes, .lanes] s t) ∧
  (∀ (s : State) (p : Fin 16) (i : Fin 4) (b : BitVec 66) (tk g q k : Nat) (r : RxSym),
    ((s.svlPort p.val).lane i.val).st = 4 → (s.svlPort p.val).state ≠ 0 → i.val < s.portWidth p.val →
    s.nearLoop (s.firstLane p.val + i.val) = false → s.farLoop (s.firstLane p.val + i.val) = false →
    ((s.svlPort p.val).lane i.val).wBad < 16 → (((s.svlPort p.val).lane i.val).hear b).2.1 = 2 →
    ctlGood (((s.svlPort p.val).lane i.val).hear b).2.2 = true →
    ctlByte (((s.svlPort p.val).lane i.val).hear b).2.2 0 = 0x4B → (s.svlPort p.val).state = 3 →
    (s.svlPort p.val).cur = some tk → s.portOf p.val = some (g, q) → r = (s.svlPort p.val).rxOf tk →
    k = ((s.svlPort p.val).lane i.val).logical →
    (r.ended.testBit k = true ∨ lanePairs (ceilDiv ((s.vg g).sampleTiles q) 2) (s.portWidth p.val) k ≤ sparseGet (fun _ => 0) r.gotS k) →
    Completes (.fbStart p i b) s fun t =>
      (t.svlPort p.val).rx = (s.svlPort p.val).rx ∧
      t.count (C.SVL_MISALIGN p.val) = s.count (C.SVL_MISALIGN p.val) ∧
      (∀ k < 16, k ≠ p.val → t.svlPort k = s.svlPort k) ∧ RegsKept [R.SVL_SAT p.val] s t ∧
      OnlyChanges [.out, .regs, .cnt, .arb, .svl, .testLanes, .lanes] s t) ∧
  (∀ (s : State) (p : Fin 16) (i : Fin 4) (b : BitVec 66), ((s.svlPort p.val).lane i.val).st = 4 →
    (s.svlPort p.val).state ≠ 0 → i.val < s.portWidth p.val → s.nearLoop (s.firstLane p.val + i.val) = false →
    s.farLoop (s.firstLane p.val + i.val) = false → ((s.svlPort p.val).lane i.val).wBad < 16 →
    (((s.svlPort p.val).lane i.val).hear b).2.1 = 2 → ctlGood (((s.svlPort p.val).lane i.val).hear b).2.2 = true →
    ctlByte (((s.svlPort p.val).lane i.val).hear b).2.2 0 = 0x4B →
    ((s.svlPort p.val).state ≠ 3 ∨ (s.svlPort p.val).cur = none ∨ s.portOf p.val = none) →
    Completes (.fbStart p i b) s fun t =>
      (t.svlPort p.val).rx = (s.svlPort p.val).rx ∧
      t.count (C.SVL_MISALIGN p.val) = s.count (C.SVL_MISALIGN p.val) ∧
      (∀ k < 16, k ≠ p.val → t.svlPort k = s.svlPort k) ∧ RegsKept [R.SVL_SAT p.val] s t ∧
      OnlyChanges [.out, .regs, .cnt, .arb, .svl, .testLanes, .lanes] s t) ∧
  (∀ (s : State) (p : Fin 16) (i : Fin 4) (b : BitVec 66) (line : Nat), ((s.svlPort p.val).lane i.val).st = 4 →
    (s.svlPort p.val).state ≠ 0 → i.val < s.portWidth p.val → s.nearLoop (s.firstLane p.val + i.val) = false →
    s.farLoop (s.firstLane p.val + i.val) = false → ((s.svlPort p.val).lane i.val).wBad < 16 →
    (((s.svlPort p.val).lane i.val).hear b).2.1 = 2 → ctlGood (((s.svlPort p.val).lane i.val).hear b).2.2 = true →
    ctlByte (((s.svlPort p.val).lane i.val).hear b).2.2 0 = 0x55 → (s.svlPort p.val).state = 3 →
    line = ctlByte (((s.svlPort p.val).lane i.val).hear b).2.2 1 → line < s.fld (F.SVL_PORT_CFG_LINES p.val) →
    Completes (.lineStatus p i b) s fun t =>
      (sparseGet (fun _ => {}) (t.svlPort p.val).lines line).fresh =
        some (ctlField (((s.svlPort p.val).lane i.val).hear b).2.2 2 3,
        if 4 < ctlByte (((s.svlPort p.val).lane i.val).hear b).2.2 5 % 16
        then 0 else ctlByte (((s.svlPort p.val).lane i.val).hear b).2.2 5 % 16) ∧
      (∀ k < 256, k ≠ line → sparseGet (fun _ => {}) (t.svlPort p.val).lines k =
        sparseGet (fun _ => {}) (s.svlPort p.val).lines k) ∧
      (∀ k < 16, k ≠ p.val → t.svlPort k = s.svlPort k) ∧ RegsKept [R.SVL_SAT p.val] s t ∧
      OnlyChanges [.out, .regs, .cnt, .arb, .svl, .testLanes, .lanes] s t) ∧
  (∀ (s : State) (p : Fin 16) (i : Fin 4) (b : BitVec 66), ((s.svlPort p.val).lane i.val).st = 4 →
    (s.svlPort p.val).state ≠ 0 → i.val < s.portWidth p.val → s.nearLoop (s.firstLane p.val + i.val) = false →
    s.farLoop (s.firstLane p.val + i.val) = false → ((s.svlPort p.val).lane i.val).wBad < 16 →
    (((s.svlPort p.val).lane i.val).hear b).2.1 = 2 → ctlGood (((s.svlPort p.val).lane i.val).hear b).2.2 = true →
    ctlByte (((s.svlPort p.val).lane i.val).hear b).2.2 0 = 0x55 →
    s.fld (F.SVL_PORT_CFG_LINES p.val) ≤ ctlByte (((s.svlPort p.val).lane i.val).hear b).2.2 1 →
    s.count (C.SVL_CTL_BAD p.val) < 0xFFFFFFFE →
    Completes (.lineStatus p i b) s fun t =>
      t.count (C.SVL_CTL_BAD p.val) = s.count (C.SVL_CTL_BAD p.val) + 1 ∧
      (t.svlPort p.val).lines = (s.svlPort p.val).lines ∧ (∀ k < 16, k ≠ p.val → t.svlPort k = s.svlPort k) ∧
      RegsKept [R.SVL_SAT p.val] s t ∧ OnlyChanges [.out, .regs, .cnt, .arb, .svl, .testLanes, .lanes] s t) ∧
  (∀ (s : State) (p : Fin 16) (i : Fin 4) (b : BitVec 66), ((s.svlPort p.val).lane i.val).st = 4 →
    (s.svlPort p.val).state ≠ 0 → i.val < s.portWidth p.val → s.nearLoop (s.firstLane p.val + i.val) = false →
    s.farLoop (s.firstLane p.val + i.val) = false → ((s.svlPort p.val).lane i.val).wBad < 16 →
    (((s.svlPort p.val).lane i.val).hear b).2.1 = 2 → ctlGood (((s.svlPort p.val).lane i.val).hear b).2.2 = true →
    ctlByte (((s.svlPort p.val).lane i.val).hear b).2.2 0 = 0x55 →
    ctlByte (((s.svlPort p.val).lane i.val).hear b).2.2 1 < s.fld (F.SVL_PORT_CFG_LINES p.val) →
    (s.svlPort p.val).state ≠ 3 →
    Completes (.lineStatus p i b) s fun t =>
      (t.svlPort p.val).lines = (s.svlPort p.val).lines ∧
      t.count (C.SVL_CTL_BAD p.val) = s.count (C.SVL_CTL_BAD p.val) ∧
      (∀ k < 16, k ≠ p.val → t.svlPort k = s.svlPort k) ∧ RegsKept [R.SVL_SAT p.val] s t ∧
      OnlyChanges [.out, .regs, .cnt, .arb, .svl, .testLanes, .lanes] s t) ∧
  (∀ (s : State) (p : Fin 16) (i : Fin 4) (b : BitVec 66), ((s.svlPort p.val).lane i.val).st = 4 →
    (s.svlPort p.val).state ≠ 0 → i.val < s.portWidth p.val → s.nearLoop (s.firstLane p.val + i.val) = false →
    s.farLoop (s.firstLane p.val + i.val) = false → ((s.svlPort p.val).lane i.val).wBad < 16 →
    (((s.svlPort p.val).lane i.val).hear b).2.1 = 2 → ctlGood (((s.svlPort p.val).lane i.val).hear b).2.2 = true →
    ctlByte (((s.svlPort p.val).lane i.val).hear b).2.2 0 = 0x1E →
    Completes (.idle p i b) s fun t =>
      (t.svlPort p.val).rx = (s.svlPort p.val).rx ∧ (t.svlPort p.val).lines = (s.svlPort p.val).lines ∧
      (t.svlPort p.val).cur = (s.svlPort p.val).cur ∧
      ((t.svlPort p.val).lane i.val).part = ((s.svlPort p.val).lane i.val).part ∧ t.cnt = s.cnt ∧
      (∀ k < 16, k ≠ p.val → t.svlPort k = s.svlPort k) ∧ RegsKept [R.SVL_SAT p.val] s t ∧
      OnlyChanges [.out, .regs, .cnt, .arb, .svl, .testLanes, .lanes] s t) ∧
  (∀ (s : State) (p : Fin 16) (i : Fin 4) (b : BitVec 66) (n : Nat) (m : List Nat),
    ((s.svlPort p.val).lane i.val).st = 4 → (s.svlPort p.val).state ≠ 0 → i.val < s.portWidth p.val →
    s.nearLoop (s.firstLane p.val + i.val) = false → s.farLoop (s.firstLane p.val + i.val) = false →
    ((s.svlPort p.val).lane i.val).wBad < 16 → (((s.svlPort p.val).lane i.val).hear b).2.1 = 2 →
    ctlGood (((s.svlPort p.val).lane i.val).hear b).2.2 = true →
    ctlByte (((s.svlPort p.val).lane i.val).hear b).2.2 0 = 0x78 →
    m = [ctlByte (((s.svlPort p.val).lane i.val).hear b).2.2 1 % 4,
      ctlByte (((s.svlPort p.val).lane i.val).hear b).2.2 1 / 4 % 4,
      ctlField (((s.svlPort p.val).lane i.val).hear b).2.2 2 2,
      ctlField (((s.svlPort p.val).lane i.val).hear b).2.2 4 3, n] →
    (s.svlPort p.val).state = 1 →
    (List.range (s.portWidth p.val)).any (fun j => ((s.svlPort p.val).lane j).st != 4 || s.laneInTest (s.firstLane p.val +
      j)) = true →
    Completes (.laneMarker p i b n) s fun t =>
      ((t.svlPort p.val).lane i.val).marker = some m ∧ (t.svlPort p.val).state = 1 ∧
      (∀ k < 16, k ≠ p.val → t.svlPort k = s.svlPort k) ∧ RegsKept [R.SVL_SAT p.val] s t ∧
      OnlyChanges [.out, .regs, .cnt, .arb, .svl, .testLanes, .lanes] s t) ∧
  (∀ (s : State) (p : Fin 16) (i : Fin 4) (b : BitVec 66) (n : Nat) (m : List Nat),
    ((s.svlPort p.val).lane i.val).st = 4 → (s.svlPort p.val).state ≠ 0 → i.val < s.portWidth p.val →
    s.nearLoop (s.firstLane p.val + i.val) = false → s.farLoop (s.firstLane p.val + i.val) = false →
    ((s.svlPort p.val).lane i.val).wBad < 16 → (((s.svlPort p.val).lane i.val).hear b).2.1 = 2 →
    ctlGood (((s.svlPort p.val).lane i.val).hear b).2.2 = true →
    ctlByte (((s.svlPort p.val).lane i.val).hear b).2.2 0 = 0x78 →
    m = [ctlByte (((s.svlPort p.val).lane i.val).hear b).2.2 1 % 4,
      ctlByte (((s.svlPort p.val).lane i.val).hear b).2.2 1 / 4 % 4,
      ctlField (((s.svlPort p.val).lane i.val).hear b).2.2 2 2,
      ctlField (((s.svlPort p.val).lane i.val).hear b).2.2 4 3, n] →
    (s.svlPort p.val).state = 2 →
    (((s.svlPort p.val).setLane i.val { ((s.svlPort p.val).lane i.val) with marker := some m }).markers (s.portWidth p.val)).filter (fun ms => ms.all (fun z => mkField z 2 == mkField m 2)) =
      none →
    Completes (.laneMarker p i b n) s fun t =>
      ((t.svlPort p.val).lane i.val).marker = some m ∧ (t.svlPort p.val).state = 2 ∧
      (t.svlPort p.val).alignCount = (s.svlPort p.val).alignCount ∧
      (∀ k < 16, k ≠ p.val → t.svlPort k = s.svlPort k) ∧ RegsKept [R.SVL_SAT p.val] s t ∧
      OnlyChanges [.out, .regs, .cnt, .arb, .svl, .testLanes, .lanes] s t) ∧
  (∀ (s : State) (p : Fin 16) (i : Fin 4) (b : BitVec 66) (n : Nat) (m : List Nat) (ms : List (List Nat)),
    ((s.svlPort p.val).lane i.val).st = 4 → (s.svlPort p.val).state ≠ 0 → i.val < s.portWidth p.val →
    s.nearLoop (s.firstLane p.val + i.val) = false → s.farLoop (s.firstLane p.val + i.val) = false →
    ((s.svlPort p.val).lane i.val).wBad < 16 → (((s.svlPort p.val).lane i.val).hear b).2.1 = 2 →
    ctlGood (((s.svlPort p.val).lane i.val).hear b).2.2 = true →
    ctlByte (((s.svlPort p.val).lane i.val).hear b).2.2 0 = 0x78 →
    m = [ctlByte (((s.svlPort p.val).lane i.val).hear b).2.2 1 % 4,
      ctlByte (((s.svlPort p.val).lane i.val).hear b).2.2 1 / 4 % 4,
      ctlField (((s.svlPort p.val).lane i.val).hear b).2.2 2 2,
      ctlField (((s.svlPort p.val).lane i.val).hear b).2.2 4 3, n] →
    (s.svlPort p.val).state = 2 →
    (((s.svlPort p.val).setLane i.val { ((s.svlPort p.val).lane i.val) with marker := some m }).markers (s.portWidth p.val)).filter (fun ms => ms.all (fun z => mkField z 2 == mkField m 2)) =
      some ms →
    markerFault (s.portWidth p.val) ms ≠ none →
    Completes (.laneMarker p i b n) s fun t =>
      (t.svlPort p.val).state = 2 ∧ (t.svlPort p.val).alignCount = none ∧
      (∀ k < 16, k ≠ p.val → t.svlPort k = s.svlPort k) ∧ RegsKept [R.SVL_SAT p.val] s t ∧
      OnlyChanges [.out, .regs, .cnt, .arb, .svl, .testLanes, .lanes] s t) ∧
  (∀ (s : State) (p : Fin 16) (i : Fin 4) (b : BitVec 66) (n : Nat) (m : List Nat) (ms : List (List Nat)),
    ((s.svlPort p.val).lane i.val).st = 4 → (s.svlPort p.val).state ≠ 0 → i.val < s.portWidth p.val →
    s.nearLoop (s.firstLane p.val + i.val) = false → s.farLoop (s.firstLane p.val + i.val) = false →
    ((s.svlPort p.val).lane i.val).wBad < 16 → (((s.svlPort p.val).lane i.val).hear b).2.1 = 2 →
    ctlGood (((s.svlPort p.val).lane i.val).hear b).2.2 = true →
    ctlByte (((s.svlPort p.val).lane i.val).hear b).2.2 0 = 0x78 →
    m = [ctlByte (((s.svlPort p.val).lane i.val).hear b).2.2 1 % 4,
      ctlByte (((s.svlPort p.val).lane i.val).hear b).2.2 1 / 4 % 4,
      ctlField (((s.svlPort p.val).lane i.val).hear b).2.2 2 2,
      ctlField (((s.svlPort p.val).lane i.val).hear b).2.2 4 3, n] →
    (s.svlPort p.val).state = 2 →
    (((s.svlPort p.val).setLane i.val { ((s.svlPort p.val).lane i.val) with marker := some m }).markers (s.portWidth p.val)).filter (fun ms => ms.all (fun z => mkField z 2 == mkField m 2)) =
      some ms →
    markerFault (s.portWidth p.val) ms = none →
    (s.svlPort p.val).alignCount ≠ some ((mkField m 2 + 65535) % 65536) →
    Completes (.laneMarker p i b n) s fun t =>
      (t.svlPort p.val).state = 2 ∧ (t.svlPort p.val).alignCount = some (mkField m 2) ∧
      (∀ k < 16, k ≠ p.val → t.svlPort k = s.svlPort k) ∧ RegsKept [R.SVL_SAT p.val] s t ∧
      OnlyChanges [.out, .regs, .cnt, .arb, .svl, .testLanes, .lanes] s t) ∧
  (∀ (s : State) (p : Fin 16) (i : Fin 4) (b : BitVec 66) (n : Nat) (m : List Nat) (ms : List (List Nat)),
    ((s.svlPort p.val).lane i.val).st = 4 → (s.svlPort p.val).state ≠ 0 → i.val < s.portWidth p.val →
    s.nearLoop (s.firstLane p.val + i.val) = false → s.farLoop (s.firstLane p.val + i.val) = false →
    ((s.svlPort p.val).lane i.val).wBad < 16 → (((s.svlPort p.val).lane i.val).hear b).2.1 = 2 →
    ctlGood (((s.svlPort p.val).lane i.val).hear b).2.2 = true →
    ctlByte (((s.svlPort p.val).lane i.val).hear b).2.2 0 = 0x78 →
    m = [ctlByte (((s.svlPort p.val).lane i.val).hear b).2.2 1 % 4,
      ctlByte (((s.svlPort p.val).lane i.val).hear b).2.2 1 / 4 % 4,
      ctlField (((s.svlPort p.val).lane i.val).hear b).2.2 2 2,
      ctlField (((s.svlPort p.val).lane i.val).hear b).2.2 4 3, n] →
    (s.svlPort p.val).state = 2 →
    (((s.svlPort p.val).setLane i.val { ((s.svlPort p.val).lane i.val) with marker := some m }).markers (s.portWidth p.val)).filter (fun ms => ms.all (fun z => mkField z 2 == mkField m 2)) =
      some ms →
    markerFault (s.portWidth p.val) ms = none →
    (s.svlPort p.val).alignCount = some ((mkField m 2 + 65535) % 65536) →
    Completes (.laneMarker p i b n) s fun t =>
      (t.svlPort p.val).state = 3 ∧ (t.svlPort p.val).sender = mkField m 3 ∧
      (∀ j < s.portWidth p.val, ((t.svlPort p.val).lane j).logical = mkField ((ms[j]?).getD []) 0 ∧
        ((t.svlPort p.val).lane j).skew = mkField ((ms[j]?).getD []) 4 - earliest ms) ∧
      (∀ k < 16, k ≠ p.val → t.svlPort k = s.svlPort k) ∧ RegsKept [R.SVL_SAT p.val] s t ∧
      OnlyChanges [.out, .regs, .cnt, .arb, .svl, .testLanes, .lanes] s t) ∧
  (∀ (s : State) (p : Fin 16) (i : Fin 4) (b : BitVec 66) (n : Nat) (m : List Nat),
    ((s.svlPort p.val).lane i.val).st = 4 → (s.svlPort p.val).state ≠ 0 → i.val < s.portWidth p.val →
    s.nearLoop (s.firstLane p.val + i.val) = false → s.farLoop (s.firstLane p.val + i.val) = false →
    ((s.svlPort p.val).lane i.val).wBad < 16 → (((s.svlPort p.val).lane i.val).hear b).2.1 = 2 →
    ctlGood (((s.svlPort p.val).lane i.val).hear b).2.2 = true →
    ctlByte (((s.svlPort p.val).lane i.val).hear b).2.2 0 = 0x78 →
    m = [ctlByte (((s.svlPort p.val).lane i.val).hear b).2.2 1 % 4,
      ctlByte (((s.svlPort p.val).lane i.val).hear b).2.2 1 / 4 % 4,
      ctlField (((s.svlPort p.val).lane i.val).hear b).2.2 2 2,
      ctlField (((s.svlPort p.val).lane i.val).hear b).2.2 4 3, n] →
    (s.svlPort p.val).state = 3 → mkField m 0 ≠ ((s.svlPort p.val).lane i.val).logical →
    s.count (C.SVL_LOCK_LOSS p.val) < 0xFFFFFFFE →
    Completes (.laneMarker p i b n) s fun t =>
      (t.svlPort p.val).state ≤ 2 ∧ (t.svlPort p.val).cur = none ∧
      t.count (C.SVL_LOCK_LOSS p.val) = s.count (C.SVL_LOCK_LOSS p.val) + 1 ∧
      (∀ k < 16, k ≠ p.val → t.svlPort k = s.svlPort k) ∧ RegsKept [R.SVL_SAT p.val] s t ∧
      OnlyChanges [.out, .regs, .cnt, .arb, .svl, .testLanes, .lanes] s t) ∧
  (∀ (s : State) (p : Fin 16) (i : Fin 4) (b : BitVec 66) (n : Nat) (m : List Nat) (ms : List (List Nat)),
    ((s.svlPort p.val).lane i.val).st = 4 → (s.svlPort p.val).state ≠ 0 → i.val < s.portWidth p.val →
    s.nearLoop (s.firstLane p.val + i.val) = false → s.farLoop (s.firstLane p.val + i.val) = false →
    ((s.svlPort p.val).lane i.val).wBad < 16 → (((s.svlPort p.val).lane i.val).hear b).2.1 = 2 →
    ctlGood (((s.svlPort p.val).lane i.val).hear b).2.2 = true →
    ctlByte (((s.svlPort p.val).lane i.val).hear b).2.2 0 = 0x78 →
    m = [ctlByte (((s.svlPort p.val).lane i.val).hear b).2.2 1 % 4,
      ctlByte (((s.svlPort p.val).lane i.val).hear b).2.2 1 / 4 % 4,
      ctlField (((s.svlPort p.val).lane i.val).hear b).2.2 2 2,
      ctlField (((s.svlPort p.val).lane i.val).hear b).2.2 4 3, n] →
    (s.svlPort p.val).state = 3 → mkField m 0 = ((s.svlPort p.val).lane i.val).logical →
    (((s.svlPort p.val).setLane i.val { ((s.svlPort p.val).lane i.val) with marker := some m }).markers (s.portWidth p.val)).filter (fun ms => ms.all (fun z => mkField z 2 == mkField m 2)) =
      some ms →
    (List.range (s.portWidth p.val)).any (fun j => mkField ((ms[j]?).getD []) 4 - earliest ms != ((s.svlPort p.val).lane j).skew) =
      true →
    s.count (C.SVL_LOCK_LOSS p.val) < 0xFFFFFFFE →
    Completes (.laneMarker p i b n) s fun t =>
      (t.svlPort p.val).state ≤ 2 ∧ (t.svlPort p.val).cur = none ∧
      t.count (C.SVL_LOCK_LOSS p.val) = s.count (C.SVL_LOCK_LOSS p.val) + 1 ∧
      (∀ k < 16, k ≠ p.val → t.svlPort k = s.svlPort k) ∧ RegsKept [R.SVL_SAT p.val] s t ∧
      OnlyChanges [.out, .regs, .cnt, .arb, .svl, .testLanes, .lanes] s t) ∧
  (∀ (s : State) (p : Fin 16) (i : Fin 4) (b : BitVec 66) (n : Nat) (m : List Nat),
    ((s.svlPort p.val).lane i.val).st = 4 → (s.svlPort p.val).state ≠ 0 → i.val < s.portWidth p.val →
    s.nearLoop (s.firstLane p.val + i.val) = false → s.farLoop (s.firstLane p.val + i.val) = false →
    ((s.svlPort p.val).lane i.val).wBad < 16 → (((s.svlPort p.val).lane i.val).hear b).2.1 = 2 →
    ctlGood (((s.svlPort p.val).lane i.val).hear b).2.2 = true →
    ctlByte (((s.svlPort p.val).lane i.val).hear b).2.2 0 = 0x78 →
    m = [ctlByte (((s.svlPort p.val).lane i.val).hear b).2.2 1 % 4,
      ctlByte (((s.svlPort p.val).lane i.val).hear b).2.2 1 / 4 % 4,
      ctlField (((s.svlPort p.val).lane i.val).hear b).2.2 2 2,
      ctlField (((s.svlPort p.val).lane i.val).hear b).2.2 4 3, n] →
    (s.svlPort p.val).state = 3 → mkField m 0 = ((s.svlPort p.val).lane i.val).logical →
    ((((s.svlPort p.val).setLane i.val { ((s.svlPort p.val).lane i.val) with marker := some m }).markers (s.portWidth p.val)).filter (fun ms => ms.all (fun z => mkField z 2 == mkField m 2))).all (fun ms => (List.range (s.portWidth p.val)).all (fun j => mkField ((ms[j]?).getD []) 4 - earliest ms == ((s.svlPort p.val).lane j).skew)) =
      true →
    Completes (.laneMarker p i b n) s fun t =>
      (t.svlPort p.val).state = 3 ∧ (t.svlPort p.val).cur = (s.svlPort p.val).cur ∧
      (t.svlPort p.val).rx = (s.svlPort p.val).rx ∧ ((t.svlPort p.val).lane i.val).marker = some m ∧
      (∀ k < 16, k ≠ p.val → t.svlPort k = s.svlPort k) ∧ RegsKept [R.SVL_SAT p.val] s t ∧
      OnlyChanges [.out, .regs, .cnt, .arb, .svl, .testLanes, .lanes] s t) ∧
  (∀ (s : State) (p : Fin 16), (s.svlPort p.val).state = 2 → s.count (C.SVL_DESKEW_FAIL p.val) < 0xFFFFFFFE →
    Completes (.deskewTimeout p) s fun t =>
      (t.svlPort p.val).state = 1 ∧ (t.svlPort p.val).alignCount = none ∧
      t.count (C.SVL_DESKEW_FAIL p.val) = s.count (C.SVL_DESKEW_FAIL p.val) + 1 ∧
      (∀ i < s.portWidth p.val, ((t.svlPort p.val).lane i).st = 2) ∧
      (∀ k < 16, k ≠ p.val → t.svlPort k = s.svlPort k) ∧ RegsKept [R.SVL_SAT p.val] s t ∧
      OnlyChanges [.regs, .cnt, .arb, .svl, .lanes] s t) ∧
  (∀ (s : State) (p : Fin 16), (s.svlPort p.val).state ≠ 2 →
    exec (.deskewTimeout p) s = .next (s)) ∧
  (∀ (s : State) (p : Fin 16), s.transmits p.val = true →
    Completes (.laneMarkerSend p) s fun t =>
      (t.svlPort p.val).markerNo = ((s.svlPort p.val).markerNo + 1) % 65536 ∧
      (s.svlPort p.val).slot < (t.svlPort p.val).slot ∧ (t.svlPort p.val).rx = (s.svlPort p.val).rx ∧
      (∀ k < 16, k ≠ p.val → t.svlPort k = s.svlPort k) ∧ RegsKept [R.SVL_SAT p.val] s t ∧
      OnlyChanges [.out, .regs, .svl, .lanes] s t) ∧
  (∀ (s : State) (p : Fin 16), s.transmits p.val = true → (s.svlPort p.val).slot % 64 = 63 →
    (s.svlPort p.val).pend = [] → s.portWidth p.val = 1 → s.laneDiscards (s.firstLane p.val) = false →
    s.nearLoop (s.firstLane p.val) = false → (s.svlPort p.val).used = 32 →
    Completes (.laneMarkerSend p) s fun t =>
      t.out = Output.block p.val (s.firstLane p.val) ((s.laneMarker p.val).bytes 0) :: s.out ∧
      (t.svlPort p.val).pend = [] ∧ (∀ k < 16, k ≠ p.val → t.svlPort k = s.svlPort k) ∧
      RegsKept [R.SVL_SAT p.val] s t ∧ OnlyChanges [.out, .regs, .svl, .lanes] s t) ∧
  (∀ (s : State) (p : Fin 16), s.transmits p.val = false →
    exec (.laneMarkerSend p) s = .next (s)) ∧
  (∀ (s : State) (p : Fin 16) (g q : Nat) (y : Sym), s.portOf p.val = some (g, q) → (s.vg g).outg = some y →
    y.sent.contains q = false →
    Completes (.bypassFlagsSend p) s fun t =>
      (∃ z, (t.vg g).outg = some z ∧ z.sent = q :: y.sent ∧ z.tick = y.tick) ∧
      RegsKept ((0 :: y.engs).map R.VE_SAT) s t ∧ OnlyChanges [.out, .regs, .cnt, .arb, .vec, .svl, .lanes] s t) ∧
  (∀ (s : State) (p : Fin 16) (g q : Nat), s.portOf p.val = some (g, q) →
    ((s.vg g).outg.all (fun y => y.sent.contains q)) = true →
    exec (.bypassFlagsSend p) s = .next (s)) ∧
  (∀ (s : State) (p : Fin 16) (g q : Nat) (y : Sym), s.portOf p.val = some (g, q) → (s.vg g).inc = some y →
    y.cut.contains q = false →
    Completes (.portCutoff p) s fun t =>
      (∃ z, (t.vg g).inc = some z ∧ z.cut = q :: y.cut) ∧
      ((t.svlPort ((s.vg g).port q).port).rxOf y.tick).closed = true ∧ RegsKept [R.VS_SAT] s t ∧
      OnlyChanges [.regs, .cnt, .arb, .vec, .svl] s t) ∧
  (∀ (s : State) (p : Fin 16) (g q : Nat) (y : Sym) (x : SvlPort) (r : RxSym), s.portOf p.val = some (g, q) →
    (s.vg g).inc = some y → y.cut.contains q = false → x = s.svlPort ((s.vg g).port q).port → r = x.rxOf y.tick →
    x.state = 3 → r.late = false → (s.vg g).rxComplete q (s.portWidth ((s.vg g).port q).port) r = true →
    Completes (.portCutoff p) s fun t =>
      (∃ z, (t.vg g).inc = some z ∧ z.cut = q :: y.cut ∧ z.late = y.late) ∧
      (t.svlPort ((s.vg g).port q).port).lateRun = 0 ∧ t.cnt = s.cnt ∧ RegsKept [R.VS_SAT] s t ∧
      OnlyChanges [.regs, .cnt, .arb, .vec, .svl] s t) ∧
  (∀ (s : State) (p : Fin 16) (g q : Nat) (y : Sym) (x : SvlPort) (r : RxSym), s.portOf p.val = some (g, q) →
    (s.vg g).inc = some y → y.cut.contains q = false → x = s.svlPort ((s.vg g).port q).port → r = x.rxOf y.tick →
    (x.state ≠ 3 ∨ r.late = true ∨ (s.vg g).rxComplete q (s.portWidth ((s.vg g).port q).port) r = false) →
    s.count (C.VS_PORT_LATE ((s.vg g).port q).port) < 0xFFFFFFFE →
    Completes (.portCutoff p) s fun t =>
      (∃ z, (t.vg g).inc = some z ∧ z.cut = q :: y.cut ∧ z.late = q :: y.late) ∧
      (t.svlPort ((s.vg g).port q).port).lateRun = x.lateRun + 1 ∧
      t.count (C.VS_PORT_LATE ((s.vg g).port q).port) = s.count (C.VS_PORT_LATE ((s.vg g).port q).port) + 1 ∧
      RegsKept [R.VS_SAT] s t ∧ OnlyChanges [.regs, .cnt, .arb, .vec, .svl] s t) ∧
  (∀ (s : State) (p : Fin 16) (g q : Nat), s.portOf p.val = some (g, q) →
    ((s.vg g).inc.all (fun y => y.cut.contains q)) = true →
    exec (.portCutoff p) s = .next (s)) ∧
  (∀ (s : State) (p : Fin 16), s.portOf p.val = none →
    exec (.portCutoff p) s = .next s ∧ exec (.bypassFlagsSend p) s = .next s) ∧
  (∀ (s : State) (p : Fin 16),
    Completes (.svlStatSnap p) s fun t =>
      (∀ x ∈ svlCtrs p.val, t.bankAt x.off = s.count x % 2 ^ 32) ∧ OnlyChanges [.bank] s t)

/-- The rows of chapter 10 but for eye scans (R320, R322, R325 to R327, R332 to R335, R338). -/
def Obligations.LaneTestsSleepAndEqualisersAct : Prop :=
  (∀ (s : State) (p : Pkt), Taken 0x0401 p s → p.length = 3 → p.target.toNat < 44 →
    p.w 0 < s.rateSets p.target.toNat → bitsOf (p.w 1) 14 11 + bitsOf (p.w 1) 10 5 + bitsOf (p.w 1) 4 0 ≤ 63 →
    Ends (.laneEq p) 0x0401 p s ⟨stDone, 0, []⟩ fun u =>
      u.rd (R.LANE_TXFIR p.target.toNat (p.w 0)) = s.rwAfter (R.LANE_TXFIR p.target.toNat (p.w 0)) (p.w 1) ∧
      u.rd (R.LANE_RXEQ p.target.toNat (p.w 0)) = s.rwAfter (R.LANE_RXEQ p.target.toNat (p.w 0)) (p.w 2) ∧
      RegsKept [R.LANE_TXFIR p.target.toNat (p.w 0), R.LANE_RXEQ p.target.toNat (p.w 0)] s u ∧
      OnlyChanges [.regs] (s.afterTake p) u) ∧
  (∀ (s : State) (p : Pkt), Taken 0x0401 p s → p.length = 3 → p.target.toNat < 44 →
    p.w 0 < s.rateSets p.target.toNat → 63 < bitsOf (p.w 1) 14 11 + bitsOf (p.w 1) 10 5 + bitsOf (p.w 1) 4 0 →
    Ends (.laneEq p) 0x0401 p s ⟨stBadParam, 0, []⟩ fun u =>
      u.fld (F.LANE_STATUS_EQ_REFUSED p.target.toNat) = 1 ∧ RegsKept [R.LANE_STATUS p.target.toNat] s u ∧
      OnlyChanges [.regs, .arb] (s.afterTake p) u) ∧
  (∀ (s : State) (p : Pkt), Taken 0x0401 p s → p.length = 3 → p.target.toNat < 44 →
    s.rateSets p.target.toNat ≤ p.w 0 →
    Ends (.laneEq p) 0x0401 p s ⟨stBadParam, 0, []⟩ fun u =>
      OnlyChanges [] (s.afterTake p) u) ∧
  (∀ (s : State) (p : Pkt), Taken 0x0401 p s → p.length = 3 → 44 ≤ p.target.toNat →
    Ends (.laneEq p) 0x0401 p s ⟨stBadTarget, 0, []⟩ fun u =>
      OnlyChanges [] (s.afterTake p) u) ∧
  (∀ (s : State) (p : Pkt), Taken 0x0402 p s → p.length = 5 → 44 ≤ p.target.toNat →
    Ends (.laneTest p) 0x0402 p s ⟨stBadTarget, 0, []⟩ fun u =>
      OnlyChanges [] (s.afterTake p) u) ∧
  (∀ (s : State) (p : Pkt), Taken 0x0403 p s → p.length = 1 → 44 ≤ p.target.toNat →
    Ends (.laneSleep p) 0x0403 p s ⟨stBadTarget, 0, []⟩ fun u =>
      OnlyChanges [] (s.afterTake p) u) ∧
  (∀ (s : State) (l : Fin 44) (r : Fin 3) (v : Word), (16 ≤ l.val ∨ r.val = 0) →
    bitsOf v.toNat 14 11 + bitsOf v.toNat 10 5 + bitsOf v.toNat 4 0 ≤ 63 →
    Completes (.laneTxfirWrite l r v) s fun t =>
      t.rd (R.LANE_TXFIR l.val r.val) = s.rwAfter (R.LANE_TXFIR l.val r.val) v.toNat ∧
      RegsKept [R.LANE_TXFIR l.val r.val] s t ∧ OnlyChanges [.regs] s t) ∧
  (∀ (s : State) (l : Fin 44) (r : Fin 3) (v : Word), (16 ≤ l.val ∨ r.val = 0) →
    63 < bitsOf v.toNat 14 11 + bitsOf v.toNat 10 5 + bitsOf v.toNat 4 0 →
    Completes (.laneTxfirWrite l r v) s fun t =>
      t.fld (F.LANE_STATUS_EQ_REFUSED l.val) = 1 ∧ RegsKept [R.LANE_STATUS l.val] s t ∧
      OnlyChanges [.regs, .arb] s t) ∧
  (∀ (s : State) (l : Fin 44) (r : Fin 3) (v : Word), l.val < 16 → r.val ≠ 0 →
    exec (.laneTxfirWrite l r v) s = .next (s)) ∧
  (∀ (s : State) (p : Pkt) (l cfg : Nat), Taken 0x0402 p s → p.length = 5 → l = p.target.toNat → cfg = p.w 1 →
    l < 44 → p.w 0 ≤ 3 → s.loopOffered l (p.w 0) = true → s.loopRefused l (p.w 0) = false →
    (cfg.testBit 0 = false ∨ s.testRefused l = false) →
    Ends (.laneTest p) 0x0402 p s ⟨stDone, 0, []⟩ fun u =>
      u.fld (F.LANE_CFG_LOOP l) = p.w 0 ∧ u.fld (F.LANE_PAT_CFG_GEN_EN l) = bitsOf cfg 0 0 ∧
      u.fld (F.LANE_PAT_CFG_CHK_EN l) = bitsOf cfg 1 1 ∧ u.fld (F.LANE_PAT_CFG_PATTERN l) = bitsOf cfg 5 3 ∧
      u.fld (F.LANE_PAT_CFG_INV l) = bitsOf cfg 6 6 ∧ (u.rd (R.LANE_PAT_USER_LO l)).toNat = p.w 2 ∧
      (u.rd (R.LANE_PAT_USER_HI l)).toNat = p.w 3 ∧
      u.rd (R.LANE_INJ l) = (if (p.w 4).testBit 31 = true ∧
        (s.lane l).injRun = true then s.rd (R.LANE_INJ l) else s.rwAfter (R.LANE_INJ l) (p.w 4)) ∧
      (u.lane l).gen = none ∧ (p.w 0 ≠ s.fld (F.LANE_CFG_LOOP l) → (u.lane l).patLock = false) ∧
      (∀ k < 44, k ≠ l → u.lane k = s.lane k) ∧
      RegsKeptIn [R.ETH_SAT, R.LANE_CFG, R.LANE_INJ, R.LANE_PAT_CFG, R.LANE_PAT_USER_HI, R.LANE_PAT_USER_LO,
        R.LANE_SAT, R.SVL_SAT] s u ∧
      OnlyChanges [.out, .freeCtr, .regs, .cnt, .bank, .arb, .fns, .svl, .testLanes, .mac,
        .lanes] (s.afterTake p) u) ∧
  (∀ (s : State) (p : Pkt) (l cfg : Nat), Taken 0x0402 p s → p.length = 5 → l = p.target.toNat → cfg = p.w 1 →
    l < 44 → p.w 0 ≤ 3 → s.loopOffered l (p.w 0) = true → s.loopRefused l (p.w 0) = false →
    (cfg.testBit 0 = false ∨ s.testRefused l = false) → cfg.testBit 7 = true → (p.w 4).testBit 31 = false →
    (s.lane l).injRun = false →
    Ends (.laneTest p) 0x0402 p s ⟨stDone, 0, []⟩ fun u =>
      (∀ x ∈ laneCtrs l, u.bankAt x.off = u.count x % 2 ^ 32) ∧
      RegsKeptIn [R.ETH_SAT, R.LANE_CFG, R.LANE_INJ, R.LANE_PAT_CFG, R.LANE_PAT_USER_HI, R.LANE_PAT_USER_LO,
        R.LANE_SAT, R.SVL_SAT] s u ∧
      OnlyChanges [.out, .freeCtr, .regs, .cnt, .bank, .arb, .fns, .svl, .testLanes, .mac,
        .lanes] (s.afterTake p) u) ∧
  (∀ (s : State) (p : Pkt) (l cfg : Nat), Taken 0x0402 p s → p.length = 5 → l = p.target.toNat → cfg = p.w 1 →
    l < 44 → p.w 0 ≤ 3 → s.loopOffered l (p.w 0) = true → s.loopRefused l (p.w 0) = false →
    (cfg.testBit 0 = false ∨ s.testRefused l = false) → (s.lane l).injRun = false → (p.w 4).testBit 31 = true →
    ((s.wrRw (R.LANE_INJ l) (p.w 4)).injMode l) ≠ 0 →
    Ends (.laneTest p) 0x0402 p s ⟨stDone, 0, []⟩ fun u =>
      (u.lane l).injRun = true ∧ u.count (C.LANE_INJ_DONE l) = 0 ∧ (u.lane l).injLeft = u.fld (F.LANE_INJ_COUNT l) ∧
      RegsKeptIn [R.ETH_SAT, R.LANE_CFG, R.LANE_INJ, R.LANE_PAT_CFG, R.LANE_PAT_USER_HI, R.LANE_PAT_USER_LO,
        R.LANE_SAT, R.SVL_SAT] s u ∧
      OnlyChanges [.out, .freeCtr, .regs, .cnt, .bank, .arb, .fns, .svl, .testLanes, .mac,
        .lanes] (s.afterTake p) u) ∧
  (∀ (s : State) (p : Pkt) (l cfg : Nat), Taken 0x0402 p s → p.length = 5 → l = p.target.toNat → cfg = p.w 1 →
    l < 44 → p.w 0 ≤ 3 → s.loopOffered l (p.w 0) = true →
    (s.loopRefused l (p.w 0) = true ∨ (cfg.testBit 0 = true ∧ s.testRefused l = true)) →
    Ends (.laneTest p) 0x0402 p s ⟨stBusy, 0, []⟩ fun u =>
      OnlyChanges [] (s.afterTake p) u) ∧
  (∀ (s : State) (p : Pkt) (l cfg : Nat), Taken 0x0402 p s → p.length = 5 → l = p.target.toNat → cfg = p.w 1 →
    l < 44 → p.w 0 ≤ 3 → s.loopOffered l (p.w 0) = false → ¬ (40 ≤ l ∧ p.w 0 = 1) →
    Ends (.laneTest p) 0x0402 p s ⟨stBadParam, 0, []⟩ fun u =>
      OnlyChanges [] (s.afterTake p) u) ∧
  (∀ (s : State) (p : Pkt) (l cfg : Nat), Taken 0x0402 p s → p.length = 5 → l = p.target.toNat → cfg = p.w 1 →
    l < 44 → p.w 0 ≤ 3 → s.loopOffered l (p.w 0) = false → 40 ≤ l ∧ p.w 0 = 1 →
    Ends (.laneTest p) 0x0402 p s ⟨stBusy, 0, []⟩ fun u =>
      OnlyChanges [] (s.afterTake p) u) ∧
  (∀ (s : State) (p : Pkt), Taken 0x0402 p s → p.length = 5 → p.target.toNat < 44 → 3 < p.w 0 →
    Ends (.laneTest p) 0x0402 p s ⟨stBadParam, 0, []⟩ fun u =>
      OnlyChanges [] (s.afterTake p) u) ∧
  (∀ (s : State) (p : Pkt) (v : Nat), Taken 0x0403 p s → p.length = 1 → p.target.toNat < 44 → leAt p.bytes 0 1 ≤ 1 →
    leAt p.bytes 1 1 ≤ 1 → leAt p.bytes 2 1 ≤ 1 →
    v = leAt p.bytes 0 1 + 2 * leAt p.bytes 1 1 + 4 * leAt p.bytes 2 1 → s.pwrRefused p.target.toNat v = false →
    Ends (.laneSleep p) 0x0403 p s ⟨stDone, 0, []⟩ fun u =>
      u.rd (R.LANE_PWR p.target.toNat) = s.rwAfter (R.LANE_PWR p.target.toNat) v ∧
      (u.asleep p.target.toNat true = true → (u.lane p.target.toNat).txOn = false) ∧
      (p.target.toNat < 40 → u.asleep p.target.toNat false = true → (u.lane p.target.toNat).rxOn = false ∧
        (u.lane p.target.toNat).cdr = false ∧ (u.lane p.target.toNat).sd = false ∧
        (u.lane p.target.toNat).patLock = false) ∧
      (∀ k < 44, k ≠ p.target.toNat → u.lane k = s.lane k) ∧ RegsKeptIn [R.ETH_SAT, R.LANE_PWR, R.SVL_SAT] s u ∧
      OnlyChanges [.freeCtr, .regs, .cnt, .arb, .fns, .svl, .mac, .lanes] (s.afterTake p) u) ∧
  (∀ (s : State) (p : Pkt) (v : Nat), Taken 0x0403 p s → p.length = 1 → p.target.toNat < 44 → leAt p.bytes 0 1 ≤ 1 →
    leAt p.bytes 1 1 ≤ 1 → leAt p.bytes 2 1 ≤ 1 →
    v = leAt p.bytes 0 1 + 2 * leAt p.bytes 1 1 + 4 * leAt p.bytes 2 1 → s.pwrRefused p.target.toNat v = true →
    Ends (.laneSleep p) 0x0403 p s ⟨stBusy, 0, []⟩ fun u =>
      OnlyChanges [] (s.afterTake p) u) ∧
  (∀ (s : State) (p : Pkt), Taken 0x0403 p s → p.length = 1 → p.target.toNat < 44 →
    (1 < leAt p.bytes 0 1 ∨ 1 < leAt p.bytes 1 1 ∨ 1 < leAt p.bytes 2 1) →
    Ends (.laneSleep p) 0x0403 p s ⟨stBadParam, 0, []⟩ fun u =>
      OnlyChanges [] (s.afterTake p) u) ∧
  (∀ (s : State) (l : Fin 44) (loop : Fin 4), s.loopOffered l.val loop.val = true →
    s.loopRefused l.val loop.val = false → s.fld (F.LANE_CFG_LOOP l.val) ≠ loop.val →
    Completes (.laneLoopWrite l loop) s fun t =>
      t.fld (F.LANE_CFG_LOOP l.val) = loop.val ∧ (t.lane l.val).patLock = false ∧ (t.lane l.val).blocks = [] ∧
      (t.lane l.val).frames = [] ∧ (∀ k < 44, k ≠ l.val → t.lane k = s.lane k) ∧
      RegsKeptIn [R.ETH_SAT, R.LANE_CFG, R.LANE_SAT, R.SVL_SAT] s t ∧
      OnlyChanges [.out, .freeCtr, .regs, .cnt, .arb, .fns, .svl, .testLanes, .mac, .lanes] s t) ∧
  (∀ (s : State) (l : Fin 44) (loop : Fin 4), s.loopOffered l.val loop.val = true →
    s.loopRefused l.val loop.val = false → s.fld (F.LANE_CFG_LOOP l.val) ≠ loop.val →
    (s.lane l.val).patLock = true → s.count (C.LANE_PAT_LOCK_LOSS l.val) < 0xFFFFFFFE →
    Completes (.laneLoopWrite l loop) s fun t =>
      t.count (C.LANE_PAT_LOCK_LOSS l.val) = s.count (C.LANE_PAT_LOCK_LOSS l.val) + 1 ∧
      RegsKeptIn [R.ETH_SAT, R.LANE_CFG, R.LANE_SAT, R.SVL_SAT] s t ∧
      OnlyChanges [.out, .freeCtr, .regs, .cnt, .arb, .fns, .svl, .testLanes, .mac, .lanes] s t) ∧
  (∀ (s : State) (l : Fin 44) (loop : Fin 4), loop.val ≠ 0 → s.loopOffered l.val loop.val = true →
    s.loopRefused l.val loop.val = false →
    Completes (.laneLoopWrite l loop) s fun t =>
      t.asleep l.val true = false ∧ t.asleep l.val false = false ∧
      RegsKeptIn [R.ETH_SAT, R.LANE_CFG, R.LANE_SAT, R.SVL_SAT] s t ∧
      OnlyChanges [.out, .freeCtr, .regs, .cnt, .arb, .fns, .svl, .testLanes, .mac, .lanes] s t) ∧
  (∀ (s : State) (l : Fin 44) (loop : Fin 4),
    (s.loopOffered l.val loop.val = false ∨ s.loopRefused l.val loop.val = true ∨
      s.fld (F.LANE_CFG_LOOP l.val) = loop.val) →
    exec (.laneLoopWrite l loop) s = .next (s)) ∧
  (∀ (s : State) (l : Fin 44) (on : Bool), (on = false ∨ s.testRefused l.val = false) →
    Completes (.patternGenEnable l on) s fun t =>
      t.fld (F.LANE_PAT_CFG_GEN_EN l.val) = b2n on ∧ (t.lane l.val).gen = none ∧ (t.lane l.val).frames = [] ∧
      (t.lane l.val).blocks = [] ∧ (t.lane l.val).patLock = (s.lane l.val).patLock ∧
      (∀ k < 44, k ≠ l.val → t.lane k = s.lane k) ∧ (on = true → t.testLanes.testBit l.val = true) ∧
      RegsKept [R.LANE_PAT_CFG l.val] s t ∧ OnlyChanges [.regs, .svl, .testLanes, .lanes] s t) ∧
  (∀ (s : State) (l : Fin 44), s.testRefused l.val = true →
    exec (.patternGenEnable l true) s = .next (s)) ∧
  (∀ (s : State) (l : Fin 44), s.flag (F.LANE_PAT_CFG_CHK_EN l.val) = false →
    Completes (.checkerEnable l) s fun t =>
      t.fld (F.LANE_PAT_CFG_CHK_EN l.val) = 1 ∧ t.count (C.LANE_PAT_BITS l.val) = 0 ∧
      t.count (C.LANE_PAT_ERR l.val) = 0 ∧ t.count (C.LANE_PAT_LOCK_LOSS l.val) = 0 ∧
      (t.lane l.val) = { (s.lane l.val) with patLock := false, ref := none } ∧
      (∀ k < 44, k ≠ l.val → t.lane k = s.lane k) ∧ RegsKept [R.LANE_PAT_CFG l.val] s t ∧
      OnlyChanges [.regs, .cnt, .lanes] s t) ∧
  (∀ (s : State) (l : Fin 44), s.flag (F.LANE_PAT_CFG_CHK_EN l.val) = true →
    exec (.checkerEnable l) s = .next (s)) ∧
  (∀ (s : State) (l : Fin 44) (w v : BitVec 64), s.nearLoop l.val = false → s.farLoop l.val = false →
    (s.lane l.val).patLock = false → s.checking l.val = true →
    v = w ^^^ s.invMask l.val ^^^ (if 16 ≤ l.val ∧ l.val < 40 ∧
      s.flag (F.LANE_CFG_RX_INVERT l.val) = true then BitVec.allOnes 64 else 0) →
    s.pattern l.val ≠ 6 → ((s.lane l.val).ref.map (patWord (s.pattern l.val))) = some v →
    Completes (.patternLock l [w]) s fun t =>
      (t.lane l.val) = { (s.lane l.val) with patLock := true, ref := some v } ∧
      (∀ k < 44, k ≠ l.val → t.lane k = s.lane k) ∧ OnlyChanges [.lanes] s t) ∧
  (∀ (s : State) (l : Fin 44) (w v : BitVec 64), s.nearLoop l.val = false → s.farLoop l.val = false →
    (s.lane l.val).patLock = false → s.checking l.val = true →
    v = w ^^^ s.invMask l.val ^^^ (if 16 ≤ l.val ∧ l.val < 40 ∧
      s.flag (F.LANE_CFG_RX_INVERT l.val) = true then BitVec.allOnes 64 else 0) →
    s.pattern l.val ≠ 6 → ((s.lane l.val).ref.map (patWord (s.pattern l.val))) ≠ some v →
    Completes (.patternLock l [w]) s fun t =>
      (t.lane l.val) = { (s.lane l.val) with ref := some v } ∧ (∀ k < 44, k ≠ l.val → t.lane k = s.lane k) ∧
      OnlyChanges [.lanes] s t) ∧
  (∀ (s : State) (l : Fin 44) (w v : BitVec 64) (k : Fin 64), s.nearLoop l.val = false → s.farLoop l.val = false →
    (s.lane l.val).patLock = false → s.checking l.val = true →
    v = w ^^^ s.invMask l.val ^^^ (if 16 ≤ l.val ∧ l.val < 40 ∧
      s.flag (F.LANE_CFG_RX_INVERT l.val) = true then BitVec.allOnes 64 else 0) →
    s.pattern l.val = 6 → (s.userPattern l.val).rotateLeft k.val = v →
    Completes (.patternLock l [w]) s fun t =>
      (t.lane l.val) = { (s.lane l.val) with patLock := true, ref := some v } ∧
      (∀ k < 44, k ≠ l.val → t.lane k = s.lane k) ∧ OnlyChanges [.lanes] s t) ∧
  (∀ (s : State) (l : Fin 44) (w v : BitVec 64), s.nearLoop l.val = false → s.farLoop l.val = false →
    (s.lane l.val).patLock = false → s.checking l.val = true →
    v = w ^^^ s.invMask l.val ^^^ (if 16 ≤ l.val ∧ l.val < 40 ∧
      s.flag (F.LANE_CFG_RX_INVERT l.val) = true then BitVec.allOnes 64 else 0) →
    s.pattern l.val = 6 → (∀ k < 64, (s.userPattern l.val).rotateLeft k ≠ v) →
    Completes (.patternLock l [w]) s fun t =>
      (t.lane l.val) = { (s.lane l.val) with ref := none } ∧ (∀ k < 44, k ≠ l.val → t.lane k = s.lane k) ∧
      OnlyChanges [.lanes] s t) ∧
  (∀ (s : State) (l : Fin 44) (w : BitVec 64), s.nearLoop l.val = false → s.farLoop l.val = false →
    s.checking l.val = false →
    exec (.patternLock l [w]) s = .next s ∧ exec (.patternLockLoss l [w]) s = .next s) ∧
  (∀ (s : State) (l : Fin 44) (ws : List (BitVec 64)), (s.lane l.val).patLock = true →
    exec (.patternLock l ws) s = .next (s)) ∧
  (∀ (s : State) (l : Fin 44) (ws : List (BitVec 64)), (s.lane l.val).patLock = false →
    exec (.patternLock l ws) s = .next (ws.foldl (fun s w => if s.nearLoop l.val
      then s.txWord l.val w else if s.farLoop l.val
      then (s.rxWord l.val w).txWord l.val w else s.rxWord l.val w) s)) ∧
  (∀ (s : State) (l : Fin 44) (ws : List (BitVec 64)), (s.lane l.val).patLock = false →
    exec (.patternLockLoss l ws) s = .next (s)) ∧
  (∀ (s : State) (l : Fin 44) (ws : List (BitVec 64)), (s.lane l.val).patLock = true →
    exec (.patternLockLoss l ws) s = .next (ws.foldl (fun s w => if s.nearLoop l.val
      then s.txWord l.val w else if s.farLoop l.val
      then (s.rxWord l.val w).txWord l.val w else s.rxWord l.val w) s)) ∧
  (∀ (s : State) (l : Fin 44) (w v : BitVec 64) (e : BitVec 64), s.nearLoop l.val = false →
    s.farLoop l.val = false → (s.lane l.val).patLock = true → s.checking l.val = true →
    v = w ^^^ s.invMask l.val ^^^ (if 16 ≤ l.val ∧ l.val < 40 ∧
      s.flag (F.LANE_CFG_RX_INVERT l.val) = true then BitVec.allOnes 64 else 0) →
    e = patWord (s.pattern l.val) ((s.lane l.val).ref.getD 0) → 32 ≤ ones64 (e ^^^ v) →
    s.count (C.LANE_PAT_LOCK_LOSS l.val) < 0xFFFFFFFE →
    s.count (C.LANE_PAT_ERR l.val) + ones64 (e ^^^ v) < 0xFFFFFFFE →
    Completes (.patternLockLoss l [w]) s fun t =>
      (t.lane l.val) = { (s.lane l.val) with patLock := false, ref := none } ∧
      t.count (C.LANE_PAT_LOCK_LOSS l.val) = s.count (C.LANE_PAT_LOCK_LOSS l.val) + 1 ∧
      t.count (C.LANE_PAT_ERR l.val) = s.count (C.LANE_PAT_ERR l.val) + ones64 (e ^^^ v) ∧
      t.count (C.LANE_PAT_BITS l.val) = (s.count (C.LANE_PAT_BITS l.val) + 64) % 2 ^ 64 ∧
      (∀ k < 44, k ≠ l.val → t.lane k = s.lane k) ∧ OnlyChanges [.cnt, .lanes, .arb] s t) ∧
  (∀ (s : State) (l : Fin 44) (w v : BitVec 64) (e : BitVec 64), s.nearLoop l.val = false →
    s.farLoop l.val = false → (s.lane l.val).patLock = true → s.checking l.val = true →
    v = w ^^^ s.invMask l.val ^^^ (if 16 ≤ l.val ∧ l.val < 40 ∧
      s.flag (F.LANE_CFG_RX_INVERT l.val) = true then BitVec.allOnes 64 else 0) →
    e = patWord (s.pattern l.val) ((s.lane l.val).ref.getD 0) → ones64 (e ^^^ v) < 32 →
    s.count (C.LANE_PAT_ERR l.val) + ones64 (e ^^^ v) < 0xFFFFFFFE →
    Completes (.patternLockLoss l [w]) s fun t =>
      (t.lane l.val) = { (s.lane l.val) with ref := some e } ∧
      t.count (C.LANE_PAT_ERR l.val) = s.count (C.LANE_PAT_ERR l.val) + ones64 (e ^^^ v) ∧
      t.count (C.LANE_PAT_BITS l.val) = (s.count (C.LANE_PAT_BITS l.val) + 64) % 2 ^ 64 ∧
      (∀ k < 44, k ≠ l.val → t.lane k = s.lane k) ∧ OnlyChanges [.cnt, .lanes] s t) ∧
  (∀ (s : State) (l : Fin 44), (s.lane l.val).injRun = false → s.injMode l.val ≠ 0 →
    Completes (.injectionGo l) s fun t =>
      (t.lane l.val) = { (s.lane l.val) with injRun := true, injLeft := s.fld (F.LANE_INJ_COUNT l.val), injGap := 0, carry := 0 } ∧
      t.count (C.LANE_INJ_DONE l.val) = 0 ∧ t.testLanes.testBit l.val = true ∧
      (∀ k < 44, k ≠ l.val → t.lane k = s.lane k) ∧ RegsKept [R.LANE_INJ l.val] s t ∧
      OnlyChanges [.cnt, .lanes, .testLanes, .regs] s t) ∧
  (∀ (s : State) (l : Fin 44), (s.lane l.val).injRun = false → s.injMode l.val = 0 →
    Completes (.injectionGo l) s fun t =>
      t.count (C.LANE_INJ_DONE l.val) = 0 ∧ RegsKept [R.LANE_INJ l.val] s t ∧ OnlyChanges [.cnt, .regs] s t) ∧
  (∀ (s : State) (l : Fin 44), (s.lane l.val).injRun = true →
    exec (.injectionGo l) s = .next (s)) ∧
  (∀ (s : State) (l : Fin 44) (ws : List (BitVec 64)), (s.lane l.val).injRun = false →
    exec (.laneInjection l ws) s = .next (s)) ∧
  (∀ (s : State) (l : Fin 44) (ws : List (BitVec 64)), (s.lane l.val).injRun = true →
    exec (.laneInjection l ws) s = .next (ws.foldl (fun s w => if s.farLoop l.val
      then (s.rxWord l.val w).txWord l.val w else s.txWord l.val w) s)) ∧
  (∀ (s : State) (l : Fin 44) (w : BitVec 64), (s.lane l.val).injRun = true → s.asleep l.val true = false →
    s.farLoop l.val = false → s.nearLoop l.val = false → s.sendsPattern l.val = false →
    (l.val < 40 ∨ (s.ch (l.val - 40)).burstOn = true) → (s.lane l.val).injGap = 0 → (s.lane l.val).injLeft ≠ 1 →
    s.count (C.LANE_INJ_DONE l.val) < 0xFFFFFFFE →
    Completes (.laneInjection l [w]) s fun t =>
      t.out = Output.laneWord l.val (w ^^^ ((s.lane l.val).carry ^^^ BitVec.ofNat 64 (s.injBits l.val)) ^^^ (if s.flag (F.LANE_CFG_TX_INVERT l.val) =
        true then BitVec.allOnes 64 else 0)) :: s.out ∧
      (t.lane l.val) = { (s.lane l.val) with injGap := 2 ^ s.fld (F.LANE_INJ_PERIOD l.val) - 1, carry := BitVec.ofNat 64 ((s.injBits l.val) / 2 ^ 64), injLeft := (s.lane l.val).injLeft - 1 } ∧
      t.count (C.LANE_INJ_DONE l.val) = s.count (C.LANE_INJ_DONE l.val) + 1 ∧
      (∀ k < 44, k ≠ l.val → t.lane k = s.lane k) ∧ OnlyChanges [.cnt, .lanes, .out] s t) ∧
  (∀ (s : State) (l : Fin 44) (w : BitVec 64), (s.lane l.val).injRun = true → s.asleep l.val true = false →
    s.farLoop l.val = false → s.nearLoop l.val = false → s.sendsPattern l.val = false →
    (l.val < 40 ∨ (s.ch (l.val - 40)).burstOn = true) → (s.lane l.val).injGap = 0 → (s.lane l.val).injLeft = 1 →
    s.count (C.LANE_INJ_DONE l.val) < 0xFFFFFFFE →
    Completes (.laneInjection l [w]) s fun t =>
      (t.lane l.val).injRun = false ∧ (t.lane l.val).carry = BitVec.ofNat 64 ((s.injBits l.val) / 2 ^ 64) ∧
      t.out = Output.laneWord l.val (w ^^^ ((s.lane l.val).carry ^^^ BitVec.ofNat 64 (s.injBits l.val)) ^^^ (if s.flag (F.LANE_CFG_TX_INVERT l.val) =
        true then BitVec.allOnes 64 else 0)) :: s.out ∧
      t.count (C.LANE_INJ_DONE l.val) = s.count (C.LANE_INJ_DONE l.val) + 1 ∧
      (∀ k < 44, k ≠ l.val → t.lane k = s.lane k) ∧ OnlyChanges [.cnt, .lanes, .out, .testLanes, .arb] s t) ∧
  (∀ (s : State) (l : Fin 44) (w : BitVec 64), (s.lane l.val).injRun = true → s.asleep l.val true = false →
    s.farLoop l.val = false → s.nearLoop l.val = false → s.sendsPattern l.val = false →
    (l.val < 40 ∨ (s.ch (l.val - 40)).burstOn = true) → (s.lane l.val).injGap ≠ 0 →
    Completes (.laneInjection l [w]) s fun t =>
      (t.lane l.val) = { (s.lane l.val) with injGap := (s.lane l.val).injGap - 1, carry := 0 } ∧
      t.out = Output.laneWord l.val (w ^^^ (s.lane l.val).carry ^^^ (if s.flag (F.LANE_CFG_TX_INVERT l.val) = true
        then BitVec.allOnes 64 else 0)) :: s.out ∧
      (∀ k < 44, k ≠ l.val → t.lane k = s.lane k) ∧ OnlyChanges [.lanes, .out] s t) ∧
  (∀ (s : State) (l : Fin 44) (w : BitVec 64), (s.lane l.val).injRun = true → s.asleep l.val true = false →
    s.farLoop l.val = false → s.nearLoop l.val = false → s.sendsPattern l.val = false → 40 ≤ l.val →
    (s.ch (l.val - 40)).burstOn = false →
    Completes (.laneInjection l [w]) s fun t =>
      t.out = Output.laneWord l.val (w ^^^ 0 ^^^ (if s.flag (F.LANE_CFG_TX_INVERT l.val) = true
        then BitVec.allOnes 64 else 0)) :: s.out ∧
      OnlyChanges [.out] s t) ∧
  (∀ (s : State) (l : Fin 44) (w : BitVec 64), (s.lane l.val).injRun = true → s.asleep l.val true = false →
    s.farLoop l.val = false → s.nearLoop l.val = false → s.sendsPattern l.val = true → (s.lane l.val).injGap ≠ 0 →
    Completes (.laneInjection l [w]) s fun t =>
      t.out = Output.laneWord l.val ((s.genWord l.val).2 ^^^ (s.lane l.val).carry ^^^ (if s.flag (F.LANE_CFG_TX_INVERT l.val) =
        true then BitVec.allOnes 64 else 0)) :: s.out ∧
      (t.lane l.val).gen = some ((s.genWord l.val).2 ^^^ s.invMask l.val) ∧
      (∀ k < 44, k ≠ l.val → t.lane k = s.lane k) ∧ RegsKeptIn [R.LANE_SAT] s t ∧
      OnlyChanges [.out, .freeCtr, .regs, .cnt, .arb, .testLanes, .lanes] s t) ∧
  (∀ (s : State) (l : Fin 44) (w : BitVec 64), s.asleep l.val true = true → s.farLoop l.val = false →
    exec (.laneInjection l [w]) s = .next (s)) ∧
  (∀ (s : State) (l : Fin 44) (ws : List (BitVec 64)),
    Completes (.lanePatSnap l ws) s fun t =>
      (∀ x ∈ laneCtrs l.val, t.bankAt x.off = t.count x % 2 ^ 32) ∧ (∀ k < 44, k ≠ l.val → t.lane k = s.lane k) ∧
      RegsKeptIn [R.LANE_SAT] s t ∧ OnlyChanges [.out, .freeCtr, .regs, .cnt, .bank, .arb, .testLanes, .lanes] s t) ∧
  (∀ (s : State) (l : Fin 44),
    Completes (.lanePatSnap l []) s fun t =>
      (∀ x ∈ laneCtrs l.val, t.bankAt x.off = s.count x % 2 ^ 32) ∧ OnlyChanges [.bank] s t) ∧
  (∀ (s : State) (l : Fin 44) (w v : BitVec 64) (e : BitVec 64), s.nearLoop l.val = false →
    s.farLoop l.val = false → (s.lane l.val).patLock = true → s.checking l.val = true →
    v = w ^^^ s.invMask l.val ^^^ (if 16 ≤ l.val ∧ l.val < 40 ∧
      s.flag (F.LANE_CFG_RX_INVERT l.val) = true then BitVec.allOnes 64 else 0) →
    e = patWord (s.pattern l.val) ((s.lane l.val).ref.getD 0) → ones64 (e ^^^ v) < 32 →
    s.count (C.LANE_PAT_ERR l.val) + ones64 (e ^^^ v) < 0xFFFFFFFE →
    Completes (.lanePatSnap l [w]) s fun t =>
      t.bankAt (C.LANE_PAT_ERR l.val).off = (s.count (C.LANE_PAT_ERR l.val) + ones64 (e ^^^ v)) % 2 ^ 32 ∧
      (t.lane l.val).patLock = true ∧ OnlyChanges [.cnt, .bank, .lanes] s t) ∧
  (∀ (s : State) (l : Fin 44) (v : Word), s.pwrRefused l.val v.toNat = false →
    Completes (.lanePwrWrite l v) s fun t =>
      t.rd (R.LANE_PWR l.val) = s.rwAfter (R.LANE_PWR l.val) v.toNat ∧
      (t.asleep l.val true = true → (t.lane l.val).txOn = false) ∧
      (l.val < 40 → t.asleep l.val false = true → (t.lane l.val).rxOn = false ∧ (t.lane l.val).cdr = false ∧
        (t.lane l.val).sd = false ∧ (t.lane l.val).patLock = false) ∧
      (∀ k < 44, k ≠ l.val → t.lane k = s.lane k) ∧ RegsKeptIn [R.ETH_SAT, R.LANE_PWR, R.SVL_SAT] s t ∧
      OnlyChanges [.freeCtr, .regs, .cnt, .arb, .fns, .svl, .mac, .lanes] s t) ∧
  (∀ (s : State) (l : Fin 44) (v : Word), s.pwrRefused l.val v.toNat = true →
    exec (.lanePwrWrite l v) s = .next (s)) ∧
  (∀ (s : State) (l : Fin 40), s.asleep l.val false = true → s.flag (F.LANE_PWR_SD_WAKE l.val) = true →
    Completes (.laneWakeBySignal l) s fun t =>
      t.fld (F.LANE_PWR_RX_SLEEP l.val) = 0 ∧ (t.lane l.val).sd = true ∧ t.asleep l.val false = false ∧
      (∀ k < 44, k ≠ l.val → t.lane k = s.lane k) ∧ RegsKept [R.LANE_PWR l.val] s t ∧
      OnlyChanges [.freeCtr, .regs, .cnt, .arb, .fns, .svl, .mac, .lanes] s t) ∧
  (∀ (s : State) (l : Fin 40), (s.asleep l.val false = false ∨ s.flag (F.LANE_PWR_SD_WAKE l.val) = false) →
    exec (.laneWakeBySignal l) s = .next (s)) ∧
  (∀ (s : State) (l : Fin 44), s.asleep l.val true = false →
    Completes (.laneHalfReady l true) s fun t =>
      (t.lane l.val) = { (s.lane l.val) with txOn := true } ∧ (∀ k < 44, k ≠ l.val → t.lane k = s.lane k) ∧
      OnlyChanges [.lanes] s t) ∧
  (∀ (s : State) (l : Fin 44), s.asleep l.val false = false → l.val < 40 →
    Completes (.laneHalfReady l false) s fun t =>
      (t.lane l.val) = { (s.lane l.val) with rxOn := true, cdr := true } ∧
      (∀ k < 44, k ≠ l.val → t.lane k = s.lane k) ∧ OnlyChanges [.lanes] s t) ∧
  (∀ (s : State) (l : Fin 44) (tx : Bool), (s.asleep l.val tx = true ∨ (tx = false ∧ 40 ≤ l.val)) →
    exec (.laneHalfReady l tx) s = .next (s))

/-- LANE_EYE, EYE_SCAN_GO, EYE_SCAN_POINT, EYE_SCAN_ABORT, LANE_EYE_READ, EYE_DATA_READ (R329 to R331, R593). -/
def Obligations.EyeScansRunPointByPoint : Prop :=
  (∀ (s : State) (p : Pkt) (l : Nat), Taken 0x0404 p s → p.length = 1 → p.target.toNat < 40 → l = p.target.toNat →
    leAt p.bytes 0 1 ≤ 3 → leAt p.bytes 1 1 ≤ 31 → (s.lane l).eyeBusy = false → s.asleep l false = false →
    Accepts (.laneEye p) 0x0404 p s 0 fun u =>
      u.fld (F.LANE_EYE_CFG_EYE l) = leAt p.bytes 0 1 ∧ u.fld (F.LANE_EYE_CFG_DWELL l) = leAt p.bytes 1 1 ∧
      (u.lane l).eyeBusy = true ∧ (u.lane l).eyePoints = 0 ∧ (u.lane l).eyeMap = [] ∧
      (u.lane l).eyeCmd = some (p.func.val, s.cmdId) ∧ (∀ k < 44, k ≠ l → u.lane k = s.lane k) ∧
      RegsKept [R.LANE_EYE_CFG l] s u ∧ OnlyChanges [.regs, .lanes] (s.afterTake p) u) ∧
  (∀ (s : State) (p : Pkt), Taken 0x0404 p s → p.length = 1 → p.target.toNat < 40 → leAt p.bytes 0 1 ≤ 3 →
    leAt p.bytes 1 1 ≤ 31 → ((s.lane p.target.toNat).eyeBusy = true ∨ s.asleep p.target.toNat false = true) →
    Ends (.laneEye p) 0x0404 p s ⟨stBusy, 0, []⟩ fun u =>
      OnlyChanges [] (s.afterTake p) u) ∧
  (∀ (s : State) (p : Pkt), Taken 0x0404 p s → p.length = 1 → p.target.toNat < 40 →
    (3 < leAt p.bytes 0 1 ∨ 31 < leAt p.bytes 1 1) →
    Ends (.laneEye p) 0x0404 p s ⟨stBadParam, 0, []⟩ fun u =>
      OnlyChanges [] (s.afterTake p) u) ∧
  (∀ (s : State) (p : Pkt), Taken 0x0404 p s → p.length = 1 → 40 ≤ p.target.toNat →
    Ends (.laneEye p) 0x0404 p s ⟨stBadTarget, 0, []⟩ fun u =>
      OnlyChanges [] (s.afterTake p) u) ∧
  (∀ (s : State) (l : Fin 40), (s.lane l.val).eyeBusy = false → s.asleep l.val false = false →
    Completes (.eyeScanGo l) s fun t =>
      (t.lane l.val).eyeBusy = true ∧ (t.lane l.val).eyePoints = 0 ∧ (t.lane l.val).eyeMap = [] ∧
      (t.lane l.val).eyeCmd = none ∧ (∀ k < 44, k ≠ l.val → t.lane k = s.lane k) ∧ OnlyChanges [.lanes] s t) ∧
  (∀ (s : State) (l : Fin 40), (s.lane l.val).eyeBusy = false → s.asleep l.val false = true →
    Completes (.eyeScanGo l) s fun t =>
      (t.lane l.val).eyeBusy = false ∧ (t.lane l.val).eyePoints = 0 ∧ (t.lane l.val).eyeMap = [] ∧
      (t.lane l.val).eyeResult = 2 ∧ (t.lane l.val).eyeCause = 1 ∧ (∀ k < 44, k ≠ l.val → t.lane k = s.lane k) ∧
      RegsKeptIn [R.ETH_SAT, R.SVL_SAT] s t ∧
      OnlyChanges [.freeCtr, .regs, .cnt, .arb, .fns, .svl, .mac, .lanes] s t) ∧
  (∀ (s : State) (l : Fin 40), (s.lane l.val).eyeBusy = true →
    exec (.eyeScanGo l) s = .next (s)) ∧
  (∀ (s : State) (l : Fin 40) (n : Nat), (s.lane l.val).eyeBusy = true → (s.lane l.val).eyePoints ≠ 8191 →
    Completes (.eyeScanPoint l n) s fun t =>
      t.lane l.val = { s.lane l.val with eyeMap := (t.lane l.val).eyeMap, eyePoints := (s.lane l.val).eyePoints + 1 } ∧
      (t.lane l.val).eyeAt (s.lane l.val).eyePoints = min n 0xFFFF ∧
      (∀ k < 8192, k ≠ (s.lane l.val).eyePoints → (t.lane l.val).eyeAt k = (s.lane l.val).eyeAt k) ∧
      (∀ k < 44, k ≠ l.val → t.lane k = s.lane k) ∧ OnlyChanges [.lanes] s t) ∧
  (∀ (s : State) (l : Fin 40) (n : Nat), (s.lane l.val).eyeBusy = true → (s.lane l.val).eyePoints = 8191 →
    Completes (.eyeScanPoint l n) s fun t =>
      (t.lane l.val).eyeBusy = false ∧ (t.lane l.val).eyeResult = 1 ∧ (t.lane l.val).eyePoints = 8192 ∧
      (t.lane l.val).eyeAt 8191 = min n 0xFFFF ∧ (∀ k < 8191, (t.lane l.val).eyeAt k = (s.lane l.val).eyeAt k) ∧
      (∀ k < 44, k ≠ l.val → t.lane k = s.lane k) ∧ OnlyChanges [.freeCtr, .arb, .fns, .lanes] s t) ∧
  (∀ (s : State) (l : Fin 40), (s.lane l.val).eyeBusy = true →
    Completes (.eyeScanAbort l) s fun t =>
      (t.lane l.val).eyeBusy = false ∧ (t.lane l.val).eyeResult = 2 ∧ (t.lane l.val).eyeCause = 0 ∧
      (t.lane l.val).eyePoints = (s.lane l.val).eyePoints ∧ (t.lane l.val).eyeMap = (s.lane l.val).eyeMap ∧
      (∀ k < 44, k ≠ l.val → t.lane k = s.lane k) ∧ OnlyChanges [.freeCtr, .arb, .fns, .lanes] s t) ∧
  (∀ (s : State) (l : Fin 40) (n : Nat), (s.lane l.val).eyeBusy = false →
    exec (.eyeScanAbort l) s = .next s ∧ exec (.eyeScanPoint l n) s = .next s) ∧
  (∀ (s : State) (p : Pkt) (n : Nat), Taken 0x0405 p s → p.length = 1 → p.target.toNat < 40 → n = leAt p.bytes 2 2 →
    0 < n → n ≤ 2048 → leAt p.bytes 0 2 + n ≤ 8192 →
    Ends (.laneEyeRead p) 0x0405 p s ⟨stDone, 0,
      (List.range n).flatMap (fun k => leBytes 2 ((s.lane p.target.toNat).eyeAt (leAt p.bytes 0 2 + k)))⟩ fun u =>
      OnlyChanges [] (s.afterTake p) u) ∧
  (∀ (s : State) (p : Pkt) (n : Nat), Taken 0x0405 p s → p.length = 1 → p.target.toNat < 40 → n = leAt p.bytes 2 2 →
    (n = 0 ∨ 2048 < n ∨ 8192 < leAt p.bytes 0 2 + n) →
    Ends (.laneEyeRead p) 0x0405 p s ⟨stBadParam, 0, []⟩ fun u =>
      OnlyChanges [] (s.afterTake p) u) ∧
  (∀ (s : State) (p : Pkt), Taken 0x0405 p s → p.length = 1 → 40 ≤ p.target.toNat →
    Ends (.laneEyeRead p) 0x0405 p s ⟨stBadTarget, 0, []⟩ fun u =>
      OnlyChanges [] (s.afterTake p) u) ∧
  (∀ (s : State) (l : Fin 40) (i : Nat), i = s.fld (F.LANE_EYE_ADDR_POINT l.val) →
    Completes (.eyeDataRead 0 l) s fun t =>
      (t.fn 0).rdata = (s.lane l.val).eyeAt i ∧ t.fld (F.LANE_EYE_ADDR_POINT l.val) = (i + 1) % 8192 ∧
      RegsKept [R.LANE_EYE_ADDR l.val] s t ∧ OnlyChanges [.regs, .fns] s t) ∧
  (∀ (s : State) (l : Fin 40) (f : Fin 6), f.val ≠ 0 →
    Completes (.eyeDataRead f l) s fun t =>
      (t.fn f.val).rdata = 0 ∧ OnlyChanges [.fns] s t)

/-- The frame and pause rows of chapter 11, LAUNCH_ENTRY_SEND, ETH_TAGS, ETH_MCHASH, ETH_PAUSE, ETH_STAT_SNAP. -/
def Obligations.EthernetFramesArePassedCountedAndPaused : Prop :=
  (∀ (s : State) (m : Fin 24) (bs : List Byte) (fcs ce : Bool) (raw : Nat), s.flag (F.ETH_CFG_ENABLE m.val) = true →
    (s.macAt m.val).link = true → s.nearLoop (16 + m.val) = false → s.farLoop (16 + m.val) = false →
    s.count (C.ETH_FCS_ERR m.val) < 0xFFFFFFFE →
    exec (.ethFrameReceive m bs false ce raw) s = .next (s.bump (C.ETH_FCS_ERR m.val))) ∧
  (∀ (s : State) (m : Fin 24) (bs : List Byte) (fcs ce : Bool) (raw : Nat), s.flag (F.ETH_CFG_ENABLE m.val) = true →
    (s.macAt m.val).link = true → s.nearLoop (16 + m.val) = false → s.farLoop (16 + m.val) = false →
    bs.length < 60 →
    exec (.ethFrameReceive m bs true ce raw) s = .next (s.bump (C.ETH_RUNT m.val))) ∧
  (∀ (s : State) (m : Fin 24) (bs : List Byte) (fcs ce : Bool) (raw : Nat), s.flag (F.ETH_CFG_ENABLE m.val) = true →
    (s.macAt m.val).link = true → s.nearLoop (16 + m.val) = false → s.farLoop (16 + m.val) = false →
    60 ≤ bs.length →
    s.ethMaxLen m.val < bs.length + 4 - (stripTags (s.fld (F.ETH_TAG_RX_TPID_S m.val)) 2 bs).1.length →
    exec (.ethFrameReceive m bs true ce raw) s = .next (s.bump (C.ETH_TOO_LONG m.val))) ∧
  (∀ (s : State) (m : Fin 24) (bs : List Byte) (fcs ce : Bool) (raw : Nat), s.flag (F.ETH_CFG_ENABLE m.val) = true →
    (s.macAt m.val).link = true → s.nearLoop (16 + m.val) = false → s.farLoop (16 + m.val) = false →
    60 ≤ bs.length →
    bs.length + 4 - (stripTags (s.fld (F.ETH_TAG_RX_TPID_S m.val)) 2 bs).1.length ≤ s.ethMaxLen m.val →
    exec (.ethFrameReceive m bs true true raw) s = .next (s.bump (C.ETH_CODE_ERR m.val))) ∧
  (∀ (s : State) (m : Fin 24) (bs : List Byte) (fcs ce : Bool) (raw : Nat), s.flag (F.ETH_CFG_ENABLE m.val) = true →
    (s.macAt m.val).link = true → s.nearLoop (16 + m.val) = false → s.farLoop (16 + m.val) = false →
    60 ≤ bs.length →
    bs.length + 4 - (stripTags (s.fld (F.ETH_TAG_RX_TPID_S m.val)) 2 bs).1.length ≤ s.ethMaxLen m.val →
    (beAt bs 12 2 = 0x8808 ∨ isGlide bs = true) →
    exec (.ethFrameReceive m bs true false raw) s = .next (((s.rawTo raw).rxCount m.val (bs.length + 4)))) ∧
  (∀ (s : State) (m : Fin 24) (bs : List Byte) (fcs ce : Bool) (raw : Nat), s.flag (F.ETH_CFG_ENABLE m.val) = true →
    (s.macAt m.val).link = true → s.nearLoop (16 + m.val) = false → s.farLoop (16 + m.val) = false →
    60 ≤ bs.length →
    bs.length + 4 - (stripTags (s.fld (F.ETH_TAG_RX_TPID_S m.val)) 2 bs).1.length ≤ s.ethMaxLen m.val →
    beAt bs 12 2 ≠ 0x8808 → isGlide bs = false → s.mcRejects m.val bs = true →
    exec (.ethFrameReceive m bs true false raw) s =
      .next (((s.rawTo raw).rxCount m.val (bs.length + 4)).bump (C.ETH_MC_FILTERED m.val))) ∧
  (∀ (s : State) (m : Fin 24) (bs : List Byte) (fcs ce : Bool) (raw : Nat) (r : List Byte × List Byte) (id : Nat),
    s.flag (F.ETH_CFG_ENABLE m.val) = true → (s.macAt m.val).link = true → s.nearLoop (16 + m.val) = false →
    s.farLoop (16 + m.val) = false → 60 ≤ bs.length →
    bs.length + 4 - (stripTags (s.fld (F.ETH_TAG_RX_TPID_S m.val)) 2 bs).1.length ≤ s.ethMaxLen m.val →
    beAt bs 12 2 ≠ 0x8808 → isGlide bs = false → s.mcRejects m.val bs = false →
    r = stripTags (s.fld (F.ETH_TAG_RX_TPID_S m.val)) (upTo2 (s.fld (F.ETH_TAG_RX_STRIP m.val))) bs →
    (((s.rawTo raw).rxCount m.val (bs.length + 4)).allocBuf agEthRx r.2.length).2 = .got id →
    Completes (.ethFrameReceive m bs true false raw) s fun t =>
      t.clsIn = s.clsIn ++ [{ buf := id, bytes := r.2, tags := r.1, src := m, rxRaw := some (max s.time.raw raw), rxTime := (s.rawTo raw).time.at (max s.time.raw raw) }] ∧
      t.owner id = agEthRx ∧ t.count (C.ETH_RX_OK m.val) = (s.count (C.ETH_RX_OK m.val) + 1) % 2 ^ 64 ∧
      t.count (C.ETH_RX_OCT m.val) = (s.count (C.ETH_RX_OCT m.val) + (bs.length + 4)) % 2 ^ 64 ∧
      (t.macAt m.val).rcvdWin = (s.macAt m.val).rcvdWin + bs.length + 4 ∧
      (∀ k < 24, k ≠ m.val → t.macAt k = s.macAt k) ∧
      RegsKeptIn [fun _ => R.BUF_SAT, R.ETH_SAT, fun _ => R.MEM_INJ] s t ∧
      OnlyChanges [.out, .regs, .cnt, .arb, .buf, .time, .clsIn, .mac, .lanes, .mem] s t) ∧
  (∀ (s : State) (m : Fin 24) (bs : List Byte) (fcs ce : Bool) (raw : Nat) (r : List Byte × List Byte),
    s.flag (F.ETH_CFG_ENABLE m.val) = true → (s.macAt m.val).link = true → s.nearLoop (16 + m.val) = false →
    s.farLoop (16 + m.val) = false → 60 ≤ bs.length →
    bs.length + 4 - (stripTags (s.fld (F.ETH_TAG_RX_TPID_S m.val)) 2 bs).1.length ≤ s.ethMaxLen m.val →
    beAt bs 12 2 ≠ 0x8808 → isGlide bs = false → s.mcRejects m.val bs = false →
    r = stripTags (s.fld (F.ETH_TAG_RX_TPID_S m.val)) (upTo2 (s.fld (F.ETH_TAG_RX_STRIP m.val))) bs →
    (((s.rawTo raw).rxCount m.val (bs.length + 4)).allocBuf agEthRx r.2.length).2 = .refused →
    Completes (.ethFrameReceive m bs true false raw) s fun t =>
      t.clsIn = s.clsIn ∧ (∀ k < 24, k ≠ m.val → t.macAt k = s.macAt k) ∧
      RegsKeptIn [fun _ => R.BUF_SAT, R.ETH_SAT, fun _ => R.MEM_INJ] s t ∧
      OnlyChanges [.out, .regs, .cnt, .arb, .buf, .time, .clsIn, .mac, .lanes, .mem] s t) ∧
  (∀ (s : State) (m : Fin 24) (bs : List Byte) (fcs ce : Bool) (raw : Nat), s.flag (F.ETH_CFG_ENABLE m.val) = true →
    (s.macAt m.val).link = true → s.nearLoop (16 + m.val) = false → s.farLoop (16 + m.val) = true →
    exec (.ethFrameReceive m bs fcs ce raw) s =
      .next ((s.emit (.ethFrame m.val bs fcs)).macReceive m.val bs fcs ce raw)) ∧
  (∀ (s : State) (m : Fin 24) (bs : List Byte) (fcs ce : Bool) (raw : Nat) (old : List Byte) (ok : Bool) (fs : List (List Byte × Bool)),
    s.flag (F.ETH_CFG_ENABLE m.val) = true → (s.macAt m.val).link = true → s.nearLoop (16 + m.val) = true →
    (s.lane (16 + m.val)).frames = (old, ok) :: fs →
    exec (.ethFrameReceive m bs fcs ce raw) s =
      .next ((s.setLane (16 + m.val) { s.lane (16 + m.val) with frames := fs }).macReceive m.val old ok ce raw)) ∧
  (∀ (s : State) (m : Fin 24) (bs : List Byte) (fcs ce : Bool) (raw : Nat), s.flag (F.ETH_CFG_ENABLE m.val) = true →
    (s.macAt m.val).link = true → s.nearLoop (16 + m.val) = true → (s.lane (16 + m.val)).frames = [] →
    Completes (.ethFrameReceive m bs fcs ce raw) s fun t =>
      t.clsIn = s.clsIn ∧ t.cnt = s.cnt ∧ (∀ k < 44, t.lane k = s.lane k) ∧ OnlyChanges [.lanes] s t) ∧
  (∀ (s : State) (m : Fin 24) (bs : List Byte) (fcs ce : Bool) (raw : Nat),
    (s.flag (F.ETH_CFG_ENABLE m.val) = false ∨ (s.macAt m.val).link = false) →
    exec (.ethFrameReceive m bs fcs ce raw) s = .next (s)) ∧
  (∀ (s : State) (m : Fin 24) (raw : Nat) (met : Option Nat) (f : Frame), (s.macAt m.val).tx = some f →
    s.macFree m.val f.queue = true → (s.rawTo raw).clearsLaunch m.val f = true →
    Completes (.ethFrameTransmit m raw met) s fun t =>
      (t.macAt m.val).tx = none ∧ t.count (C.ETH_TX_OK m.val) = (s.count (C.ETH_TX_OK m.val) + 1) % 2 ^ 64 ∧
      (∀ k < 24, k ≠ m.val → t.macAt k = s.macAt k) ∧
      RegsKeptIn [fun _ => R.BUF_SAT, fun _ => R.MEM_DDR_SAT, fun _ => R.MEM_SAT, R.MEM_UE_LOG_B,
        fun _ => R.TIME_SAT] s t ∧
      OnlyChanges [.out, .regs, .cnt, .arb, .buf, .time, .mac, .lanes, .mem] s t) ∧
  (∀ (s : State) (m : Fin 24) (raw : Nat) (met : Option Nat) (f : Frame), (s.macAt m.val).tx = some f →
    s.macFree m.val f.queue = true → (s.rawTo raw).clearsLaunch m.val f = true →
    s.laneDiscards (16 + m.val) = false →
    Completes (.ethFrameTransmit m raw met) s fun t =>
      (∃ ok, .ethFrame m.val (s.txTags m.val f ((s.rawTo raw).oneStep f ((s.rawTo raw).time.at (max s.time.raw raw))).2) ok ∈ t.out) ∧
      RegsKeptIn [fun _ => R.BUF_SAT, fun _ => R.MEM_DDR_SAT, fun _ => R.MEM_SAT, R.MEM_UE_LOG_B,
        fun _ => R.TIME_SAT] s t ∧
      OnlyChanges [.out, .regs, .cnt, .arb, .buf, .time, .mac, .lanes, .mem] s t) ∧
  (∀ (s : State) (m : Fin 24) (raw : Nat) (f : Frame), (s.macAt m.val).tx = some f →
    s.macFree m.val f.queue = true → (s.rawTo raw).clearsLaunch m.val f = true →
    s.laneDiscards (16 + m.val) = false →
    s.meetWords (s.bufWord f.buf) (s.frameErrs f.buf f.bytes.length) = (s, none) → f.capture = false →
    Completes (.ethFrameTransmit m raw none) s fun t =>
      t.out = Output.ethFrame m.val (s.txTags m.val f ((s.rawTo raw).oneStep f ((s.rawTo raw).time.at (max s.time.raw raw))).2) true :: s.out ∧
      RegsKeptIn [fun _ => R.BUF_SAT, fun _ => R.MEM_DDR_SAT, fun _ => R.MEM_SAT, R.MEM_UE_LOG_B,
        fun _ => R.TIME_SAT] s t ∧
      OnlyChanges [.out, .regs, .cnt, .arb, .buf, .time, .mac, .lanes, .mem] s t) ∧
  (∀ (s : State) (m : Fin 24) (raw : Nat) (met : Option Nat) (f : Frame), (s.macAt m.val).tx = some f →
    s.macFree m.val f.queue = true → (s.rawTo raw).clearsLaunch m.val f = true → f.capture = true →
    s.time.fifo.length < 512 →
    Completes (.ethFrameTransmit m raw met) s fun t =>
      t.time.fifo.length = s.time.fifo.length + 1 ∧
      RegsKeptIn [fun _ => R.BUF_SAT, fun _ => R.MEM_DDR_SAT, fun _ => R.MEM_SAT, R.MEM_UE_LOG_B,
        fun _ => R.TIME_SAT] s t ∧
      OnlyChanges [.out, .regs, .cnt, .arb, .buf, .time, .mac, .lanes, .mem] s t) ∧
  (∀ (s : State) (m : Fin 24) (raw : Nat) (met : Option Nat), (s.macAt m.val).tx = none →
    exec (.ethFrameTransmit m raw met) s = .next (s)) ∧
  (∀ (s : State) (m : Fin 24) (raw : Nat) (met : Option Nat) (f : Frame), (s.macAt m.val).tx = some f →
    (s.macFree m.val f.queue = false ∨ (s.rawTo raw).clearsLaunch m.val f = false) →
    exec (.ethFrameTransmit m raw met) s = .next (s.rawTo raw)) ∧
  (∀ (s : State) (m : Fin 24) (q : BitVec 16), (s.macAt m.val).link = true → s.nearLoop (16 + m.val) = false →
    (s.macAt m.val).holdoff = false → s.pauseMode m.val = 1 → s.count (C.ETH_PAUSE_RX m.val) < 0xFFFFFFFE →
    Completes (.pauseFrame m q) s fun t =>
      (∀ k < 9, sparseGet (fun _ => 0) (t.macAt m.val).timers k = (if k = 8
        then q.toNat else sparseGet (fun _ => 0) (s.macAt m.val).timers k)) ∧
      t.count (C.ETH_PAUSE_RX m.val) = s.count (C.ETH_PAUSE_RX m.val) + 1 ∧
      t.count (C.ETH_RX_OK m.val) = (s.count (C.ETH_RX_OK m.val) + 1) % 2 ^ 64 ∧
      (∀ k < 24, k ≠ m.val → t.macAt k = s.macAt k) ∧ OnlyChanges [.cnt, .mac, .out] s t) ∧
  (∀ (s : State) (m : Fin 24) (q : BitVec 16), (s.macAt m.val).link = true → s.nearLoop (16 + m.val) = false →
    (s.macAt m.val).holdoff = false → s.pauseMode m.val ≠ 1 → s.count (C.ETH_PAUSE_RX m.val) < 0xFFFFFFFE →
    Completes (.pauseFrame m q) s fun t =>
      (t.macAt m.val).timers = (s.macAt m.val).timers ∧
      t.count (C.ETH_PAUSE_RX m.val) = s.count (C.ETH_PAUSE_RX m.val) + 1 ∧
      t.count (C.ETH_RX_OK m.val) = (s.count (C.ETH_RX_OK m.val) + 1) % 2 ^ 64 ∧
      (∀ k < 24, k ≠ m.val → t.macAt k = s.macAt k) ∧ OnlyChanges [.cnt, .mac, .out] s t) ∧
  (∀ (s : State) (m : Fin 24) (q : BitVec 16), (s.macAt m.val).link = true → s.nearLoop (16 + m.val) = false →
    (s.macAt m.val).holdoff = true → s.count (C.ETH_PAUSE_IGNORED m.val) < 0xFFFFFFFE →
    Completes (.pauseFrame m q) s fun t =>
      (t.macAt m.val).timers = (s.macAt m.val).timers ∧
      t.count (C.ETH_PAUSE_IGNORED m.val) = s.count (C.ETH_PAUSE_IGNORED m.val) + 1 ∧
      t.count (C.ETH_RX_OK m.val) = (s.count (C.ETH_RX_OK m.val) + 1) % 2 ^ 64 ∧
      (∀ k < 24, k ≠ m.val → t.macAt k = s.macAt k) ∧ OnlyChanges [.cnt, .mac, .out] s t) ∧
  (∀ (s : State) (m : Fin 24) (ps : List (Fin 8 × BitVec 16)), (s.macAt m.val).link = true →
    s.nearLoop (16 + m.val) = false → (s.macAt m.val).holdoff = false → s.pauseMode m.val = 2 →
    s.count (C.ETH_PAUSE_RX m.val) < 0xFFFFFFFE →
    Completes (.pfcFrame m ps) s fun t =>
      (t.macAt m.val).timers = ((s.macAt m.val).setTimers (ps.map (fun z => (z.1.val, z.2.toNat)))).timers ∧
      t.count (C.ETH_PAUSE_RX m.val) = s.count (C.ETH_PAUSE_RX m.val) + 1 ∧
      t.count (C.ETH_RX_OK m.val) = (s.count (C.ETH_RX_OK m.val) + 1) % 2 ^ 64 ∧
      (∀ k < 24, k ≠ m.val → t.macAt k = s.macAt k) ∧ OnlyChanges [.cnt, .mac, .out] s t) ∧
  (∀ (s : State) (m : Fin 24) (k : Fin 8) (q : BitVec 16), (s.macAt m.val).link = true →
    s.nearLoop (16 + m.val) = false → (s.macAt m.val).holdoff = false → s.pauseMode m.val = 2 →
    Completes (.pfcFrame m [(k, q)]) s fun t =>
      (∀ i < 9, sparseGet (fun _ => 0) (t.macAt m.val).timers i = (if i = k.val
        then q.toNat else sparseGet (fun _ => 0) (s.macAt m.val).timers i)) ∧
      (∀ k < 24, k ≠ m.val → t.macAt k = s.macAt k) ∧ RegsKeptIn [R.ETH_SAT] s t ∧
      OnlyChanges [.out, .regs, .cnt, .arb, .mac, .lanes] s t) ∧
  (∀ (s : State) (m : Fin 24) (ps : List (Fin 8 × BitVec 16)), (s.macAt m.val).link = true →
    s.nearLoop (16 + m.val) = false → (s.macAt m.val).holdoff = false → s.pauseMode m.val ≠ 2 →
    s.count (C.ETH_PAUSE_RX m.val) < 0xFFFFFFFE →
    Completes (.pfcFrame m ps) s fun t =>
      (t.macAt m.val).timers = (s.macAt m.val).timers ∧
      t.count (C.ETH_PAUSE_RX m.val) = s.count (C.ETH_PAUSE_RX m.val) + 1 ∧
      t.count (C.ETH_RX_OK m.val) = (s.count (C.ETH_RX_OK m.val) + 1) % 2 ^ 64 ∧
      (∀ k < 24, k ≠ m.val → t.macAt k = s.macAt k) ∧ OnlyChanges [.cnt, .mac, .out] s t) ∧
  (∀ (s : State) (m : Fin 24) (ps : List (Fin 8 × BitVec 16)), (s.macAt m.val).link = true →
    s.nearLoop (16 + m.val) = false → (s.macAt m.val).holdoff = true →
    s.count (C.ETH_PAUSE_IGNORED m.val) < 0xFFFFFFFE →
    Completes (.pfcFrame m ps) s fun t =>
      (t.macAt m.val).timers = (s.macAt m.val).timers ∧
      t.count (C.ETH_PAUSE_IGNORED m.val) = s.count (C.ETH_PAUSE_IGNORED m.val) + 1 ∧
      t.count (C.ETH_RX_OK m.val) = (s.count (C.ETH_RX_OK m.val) + 1) % 2 ^ 64 ∧
      (∀ k < 24, k ≠ m.val → t.macAt k = s.macAt k) ∧ OnlyChanges [.cnt, .mac, .out] s t) ∧
  (∀ (s : State) (m : Fin 24) (q : BitVec 16) (ps : List (Fin 8 × BitVec 16)),
    ((s.macAt m.val).link = false ∨ s.nearLoop (16 + m.val) = true) →
    exec (.pauseFrame m q) s = .next s ∧ exec (.pfcFrame m ps) s = .next s) ∧
  (∀ (s : State) (m : Fin 24) (q : BitVec 16), (s.macAt m.val).link = true → s.nearLoop (16 + m.val) = false →
    s.farLoop (16 + m.val) = true →
    Completes (.pauseFrame m q) s fun t =>
      t.out = Output.ethControl m.val 16 0 :: s.out ∧ RegsKeptIn [R.ETH_SAT] s t ∧
      OnlyChanges [.out, .regs, .cnt, .arb, .mac, .lanes] s t) ∧
  (∀ (s : State) (m : Fin 24) (k : Fin 9),
    Completes (.pauseTimerExpiry m k) s fun t =>
      (∀ i < 9, sparseGet (fun _ => 0) (t.macAt m.val).timers i = (if i = k.val
        then 0 else sparseGet (fun _ => 0) (s.macAt m.val).timers i)) ∧
      (∀ k < 24, k ≠ m.val → t.macAt k = s.macAt k) ∧ OnlyChanges [.mac] s t) ∧
  (∀ (s : State) (m : Fin 24) (k : Fin 8), (s.macAt m.val).timers ≠ [] →
    s.count (C.ETH_WD_TRIP m.val) < 0xFFFFFFFE →
    Completes (.pauseWatchdogTrip m k) s fun t =>
      (t.macAt m.val) = { (s.macAt m.val) with timers := [], holdoff := true } ∧
      t.count (C.ETH_WD_TRIP m.val) = s.count (C.ETH_WD_TRIP m.val) + 1 ∧
      (∀ k < 24, k ≠ m.val → t.macAt k = s.macAt k) ∧ RegsKeptIn [R.ETH_SAT] s t ∧
      OnlyChanges [.regs, .cnt, .arb, .mac] s t) ∧
  (∀ (s : State) (m : Fin 24) (k : Fin 8), (s.macAt m.val).timers = [] →
    exec (.pauseWatchdogTrip m k) s = .next (s)) ∧
  (∀ (s : State) (m : Fin 24),
    Completes (.pauseHoldoffEnd m) s fun t =>
      (t.macAt m.val) = { (s.macAt m.val) with holdoff := false } ∧ (∀ k < 24, k ≠ m.val → t.macAt k = s.macAt k) ∧
      OnlyChanges [.mac] s t) ∧
  (∀ (s : State) (m : Fin 24) (raw : Nat) (met : Option Nat) (x : Launch), nextLaunch (s.launchQ m.val) = some x →
    ¬ (x.late = false ∧ passed x.instant (((s.rawTo raw).time.at (max s.time.raw raw)) + 8 * 2 ^ 40) = true) →
    (¬ (x.late = true ∨ passed ((s.rawTo raw).time.at (max s.time.raw raw)) (x.instant + 8 * 2 ^ 40) = true)) →
    s.macFree m.val x.frame.queue = true →
    Completes (.launchEntrySend m raw met) s fun t =>
      t.launchQ m.val = (s.launchQ m.val).erase x ∧
      t.count (C.ETH_TX_OK m.val) = (s.count (C.ETH_TX_OK m.val) + 1) % 2 ^ 64 ∧
      t.count C.TIME_LAUNCH_LATE = s.count C.TIME_LAUNCH_LATE ∧
      RegsKeptIn [fun _ => R.BUF_SAT, fun _ => R.MEM_DDR_SAT, fun _ => R.MEM_SAT, R.MEM_UE_LOG_B,
        fun _ => R.TIME_SAT] s t ∧
      OnlyChanges [.out, .regs, .cnt, .arb, .buf, .sched, .time, .mac, .lanes, .mem] s t) ∧
  (∀ (s : State) (m : Fin 24) (raw : Nat) (met : Option Nat) (x : Launch), nextLaunch (s.launchQ m.val) = some x →
    ¬ (x.late = false ∧ passed x.instant (((s.rawTo raw).time.at (max s.time.raw raw)) + 8 * 2 ^ 40) = true) →
    (¬ (x.late = true ∨ passed ((s.rawTo raw).time.at (max s.time.raw raw)) (x.instant + 8 * 2 ^ 40) = true)) →
    s.macFree m.val x.frame.queue = true → s.laneDiscards (16 + m.val) = false →
    Completes (.launchEntrySend m raw met) s fun t =>
      (∃ ok, .ethFrame m.val (s.txTags m.val x.frame ((s.rawTo raw).oneStep x.frame ((s.rawTo raw).time.at (max s.time.raw raw))).2) ok ∈ t.out) ∧
      RegsKeptIn [fun _ => R.BUF_SAT, fun _ => R.MEM_DDR_SAT, fun _ => R.MEM_SAT, R.MEM_UE_LOG_B,
        fun _ => R.TIME_SAT] s t ∧
      OnlyChanges [.out, .regs, .cnt, .arb, .buf, .sched, .time, .mac, .lanes, .mem] s t) ∧
  (∀ (s : State) (m : Fin 24) (raw : Nat) (met : Option Nat) (x : Launch), nextLaunch (s.launchQ m.val) = some x →
    (x.late = true ∨ passed ((s.rawTo raw).time.at (max s.time.raw raw)) (x.instant + 8 * 2 ^ 40) = true) →
    bit (s.fld F.TIME_LAUNCH_CFG_LATE_DROP) m.val = false → s.macFree m.val x.frame.queue = true →
    s.count C.TIME_LAUNCH_LATE < 0xFFFFFFFE →
    Completes (.launchEntrySend m raw met) s fun t =>
      t.launchQ m.val = (s.launchQ m.val).erase x ∧
      t.count (C.ETH_TX_OK m.val) = (s.count (C.ETH_TX_OK m.val) + 1) % 2 ^ 64 ∧
      t.count C.TIME_LAUNCH_LATE = s.count C.TIME_LAUNCH_LATE + 1 ∧ t.time.lateTold.testBit m.val = true ∧
      RegsKeptIn [fun _ => R.BUF_SAT, fun _ => R.MEM_DDR_SAT, fun _ => R.MEM_SAT, R.MEM_UE_LOG_B,
        fun _ => R.TIME_SAT] s t ∧
      OnlyChanges [.out, .regs, .cnt, .arb, .buf, .sched, .time, .mac, .lanes, .mem] s t) ∧
  (∀ (s : State) (m : Fin 24) (raw : Nat) (met : Option Nat) (x : Launch), nextLaunch (s.launchQ m.val) = some x →
    (x.late = true ∨ passed ((s.rawTo raw).time.at (max s.time.raw raw)) (x.instant + 8 * 2 ^ 40) = true) →
    bit (s.fld F.TIME_LAUNCH_CFG_LATE_DROP) m.val = true → s.count C.TIME_LAUNCH_LATE < 0xFFFFFFFE →
    Completes (.launchEntrySend m raw met) s fun t =>
      t.launchQ m.val = (s.launchQ m.val).erase x ∧ t.count (C.ETH_TX_OK m.val) = s.count (C.ETH_TX_OK m.val) ∧
      t.count C.TIME_LAUNCH_LATE = s.count C.TIME_LAUNCH_LATE + 1 ∧ t.out = s.out ∧ t.mac = s.mac ∧
      RegsKeptIn [fun _ => R.BUF_SAT, fun _ => R.MEM_DDR_SAT, fun _ => R.MEM_SAT, R.MEM_UE_LOG_B,
        fun _ => R.TIME_SAT] s t ∧
      OnlyChanges [.out, .regs, .cnt, .arb, .buf, .sched, .time, .mac, .lanes, .mem] s t) ∧
  (∀ (s : State) (m : Fin 24) (raw : Nat) (met : Option Nat) (x : Launch), nextLaunch (s.launchQ m.val) = some x →
    x.late = false ∧ passed x.instant (((s.rawTo raw).time.at (max s.time.raw raw)) + 8 * 2 ^ 40) = true →
    exec (.launchEntrySend m raw met) s = .next (s.rawTo raw)) ∧
  (∀ (s : State) (m : Fin 24) (raw : Nat) (met : Option Nat) (x : Launch), nextLaunch (s.launchQ m.val) = some x →
    (¬ ((x.late = true ∨ passed ((s.rawTo raw).time.at (max s.time.raw raw)) (x.instant + 8 * 2 ^ 40) = true) ∧
      bit (s.fld F.TIME_LAUNCH_CFG_LATE_DROP) m.val = true)) →
    s.macFree m.val x.frame.queue = false →
    exec (.launchEntrySend m raw met) s = .next (s.rawTo raw)) ∧
  (∀ (s : State) (m : Fin 24) (raw : Nat) (met : Option Nat), s.launchQ m.val = [] →
    exec (.launchEntrySend m raw met) s = .next (s.rawTo raw)) ∧
  (∀ (s : State) (p : Pkt), Taken 0x3402 p s → p.length = 5 → p.target.toNat < 24 →
    Ends (.ethTags p) 0x3402 p s ⟨stDone, 0, []⟩ fun u =>
      u.rd (R.ETH_TAG_RX p.target.toNat) = s.rwAfter (R.ETH_TAG_RX p.target.toNat) (p.w 0) ∧
      u.rd (R.ETH_TAG_TX p.target.toNat) = s.rwAfter (R.ETH_TAG_TX p.target.toNat) (p.w 1) ∧
      u.rd (R.ETH_TAG_TX_VID p.target.toNat) = s.rwAfter (R.ETH_TAG_TX_VID p.target.toNat) (p.w 2) ∧
      u.rd (R.ETH_PCP_MAP p.target.toNat 0) = s.rwAfter (R.ETH_PCP_MAP p.target.toNat 0) (p.w 3) ∧
      u.rd (R.ETH_PCP_MAP p.target.toNat 1) = s.rwAfter (R.ETH_PCP_MAP p.target.toNat 1) (p.w 4) ∧
      RegsKept [R.ETH_TAG_RX p.target.toNat, R.ETH_TAG_TX p.target.toNat, R.ETH_TAG_TX_VID p.target.toNat,
        R.ETH_PCP_MAP p.target.toNat 0, R.ETH_PCP_MAP p.target.toNat 1] s u ∧
      OnlyChanges [.regs] (s.afterTake p) u) ∧
  (∀ (s : State) (p : Pkt), Taken 0x3403 p s → p.length = 128 → p.target.toNat < 24 →
    Ends (.ethMchash p) 0x3403 p s ⟨stDone, 0, []⟩ fun u =>
      (∀ k < 128, u.rd (R.ETH_MCHASH p.target.toNat k) = s.rwAfter (R.ETH_MCHASH p.target.toNat k) (p.w k)) ∧
      RegsKept ((List.range 128).map (R.ETH_MCHASH p.target.toNat)) s u ∧ OnlyChanges [.regs] (s.afterTake p) u) ∧
  (∀ (s : State) (p : Pkt), Taken 0x3404 p s → p.length = 1 → p.target.toNat < 24 →
    Ends (.ethPause p) 0x3404 p s ⟨stDone, 0, []⟩ fun u =>
      u.rd (R.ETH_PAUSE p.target.toNat) = s.rwAfter (R.ETH_PAUSE p.target.toNat) (p.w 0) ∧
      RegsKept [R.ETH_PAUSE p.target.toNat] s u ∧ OnlyChanges [.regs] (s.afterTake p) u) ∧
  (∀ (s : State) (p : Pkt), Taken 0x3402 p s → p.length = 5 → 24 ≤ p.target.toNat →
    Ends (.ethTags p) 0x3402 p s ⟨stBadTarget, 0, []⟩ fun u =>
      OnlyChanges [] (s.afterTake p) u) ∧
  (∀ (s : State) (p : Pkt), Taken 0x3403 p s → p.length = 128 → 24 ≤ p.target.toNat →
    Ends (.ethMchash p) 0x3403 p s ⟨stBadTarget, 0, []⟩ fun u =>
      OnlyChanges [] (s.afterTake p) u) ∧
  (∀ (s : State) (p : Pkt), Taken 0x3404 p s → p.length = 1 → 24 ≤ p.target.toNat →
    Ends (.ethPause p) 0x3404 p s ⟨stBadTarget, 0, []⟩ fun u =>
      OnlyChanges [] (s.afterTake p) u) ∧
  (∀ (s : State) (m : Fin 24),
    Completes (.ethStatSnap m) s fun t =>
      (∀ x ∈ ethCtrs m.val, t.bankAt x.off = s.count x % 2 ^ 32) ∧ OnlyChanges [.bank] s t)

/-- The glide and link rows of chapter 11, ETH_CFG, ETH_GLIDE (R332, R341, R352 to R358, R532). -/
def Obligations.RateGlideAndLinksFollowTheirMachine : Prop :=
  (∀ (s : State) (m : Fin 24) (k a b : Nat),
    ((s.macAt m.val).link = false → s.controlIn m.val k a b = none) ∧
      ((s.macAt m.val).link = true → s.nearLoop (16 + m.val) = false → s.controlIn m.val k a b =
        some ((if s.farLoop (16 + m.val) then s.emit (.ethControl m.val k a) else s).rxCount m.val 64)) ∧
      ((s.macAt m.val).link = true → s.nearLoop (16 + m.val) = true → (s.lane (16 + m.val)).frames = [] →
        s.controlIn m.val k a b = none) ∧
      ∀ bs ok fs, (s.macAt m.val).link = true → s.nearLoop (16 + m.val) = true →
        (s.lane (16 + m.val)).frames = (bs, ok) :: fs →
        s.controlIn m.val k a b = if k ≤ 5 ∧ isGlide bs = true ∧ beAt bs 15 1 = k ∧ beAt bs 16 2 = a ∧
          beAt bs 18 1 = b then
          some ((s.setLane (16 + m.val) { s.lane (16 + m.val) with frames := fs }).rxCount m.val 64) else none) ∧
  (∀ (s : State) (m : Fin 24) (trn : BitVec 16) (target : Byte), (s.macAt m.val).link = false →
    exec (.glideProbe m trn) s = .next s ∧ exec (.glideProbeAck m trn) s = .next s ∧
      exec (.glideReq m trn target) s = .next s ∧
      exec (.glideAck m trn) s = .next s ∧ exec (.glideNak m trn) s = .next s) ∧
  (∀ (s : State) (m : Fin 24) (trn : BitVec 16) (target : Byte),
    (s.controlIn m.val 1 trn.toNat 0 = none → exec (.glideProbe m trn) s = .next s) ∧
      (s.controlIn m.val 2 trn.toNat 0 = none → exec (.glideProbeAck m trn) s = .next s) ∧
      (s.controlIn m.val 3 trn.toNat target.toNat = none → exec (.glideReq m trn target) s = .next s) ∧
      (s.controlIn m.val 4 trn.toNat (s.macAt m.val).target = none → exec (.glideAck m trn) s = .next s) ∧
      (s.controlIn m.val 5 trn.toNat (s.macAt m.val).target = none → exec (.glideNak m trn) s = .next s)) ∧
  (∀ (s : State) (m : Fin 24) (trn : BitVec 16) (s1 : State), s.controlIn m.val 1 trn.toNat 0 = some s1 →
    (s.macAt m.val).glide ≠ .off → (s.macAt m.val).stage = 0 →
    Completes (.glideProbe m trn) s fun t =>
      t.out = (if s.laneDiscards (16 + m.val) = true
        then s1.out else Output.ethFrame m.val (s.glideFrame m.val 2 trn.toNat 0 0) true :: s1.out) ∧
      t.count (C.ETH_TX_OK m.val) = (s1.count (C.ETH_TX_OK m.val) + 1) % 2 ^ 64 ∧
      (t.macAt m.val).glide = (s.macAt m.val).glide ∧ (∀ k < 24, k ≠ m.val → t.macAt k = s.macAt k) ∧
      RegsKeptIn [] s t ∧ OnlyChanges [.out, .regs, .cnt, .arb, .mac, .lanes] s t) ∧
  (∀ (s : State) (m : Fin 24) (trn : BitVec 16) (s1 : State), s.controlIn m.val 1 trn.toNat 0 = some s1 →
    ((s.macAt m.val).glide = .off ∨ (s.macAt m.val).stage ≠ 0) →
    exec (.glideProbe m trn) s = .next (s1)) ∧
  (∀ (s : State) (m : Fin 24) (trn : BitVec 16) (s1 : State), s.controlIn m.val 2 trn.toNat 0 = some s1 →
    (s.macAt m.val).glide = .probing → trn.toNat = (s.macAt m.val).trans →
    Completes (.glideProbeAck m trn) s fun t =>
      (t.macAt m.val) = { (s1.macAt m.val) with glide := .high, partner := true, sentWin := 0, rcvdWin := 0 } ∧
      t.out = s1.out ∧ (∀ k < 24, k ≠ m.val → t.macAt k = s.macAt k) ∧ RegsKeptIn [] s t ∧
      OnlyChanges [.out, .regs, .cnt, .arb, .mac, .lanes] s t) ∧
  (∀ (s : State) (m : Fin 24) (trn : BitVec 16) (s1 : State), s.controlIn m.val 2 trn.toNat 0 = some s1 →
    ((s.macAt m.val).glide ≠ .probing ∨ trn.toNat ≠ (s.macAt m.val).trans) →
    exec (.glideProbeAck m trn) s = .next (s1)) ∧
  (∀ (s : State) (m : Fin 24) (trn : BitVec 16) (target : Byte) (s1 : State),
    s.controlIn m.val 3 trn.toNat target.toNat = some s1 → (s.macAt m.val).stage = 0 →
    s1.reqReason m.val target.toNat = none →
    Completes (.glideReq m trn target) s fun t =>
      (t.macAt m.val).glide = .retrain ∧ (t.macAt m.val).stage = 1 ∧ (t.macAt m.val).prev = (s.macAt m.val).rate ∧
      (t.macAt m.val).target = target.toNat ∧
      (t.macAt m.val).ours = ((s.macAt m.val).glide == .reqDown || (s.macAt m.val).glide == .reqUp) ∧
      t.out = (if s.laneDiscards (16 + m.val) = true
        then s1.out else Output.ethFrame m.val (s.glideFrame m.val 4 trn.toNat target.toNat 0) true :: s1.out) ∧
      (∀ k < 24, k ≠ m.val → t.macAt k = s.macAt k) ∧ RegsKeptIn [] s t ∧
      OnlyChanges [.out, .regs, .cnt, .arb, .mac, .lanes] s t) ∧
  (∀ (s : State) (m : Fin 24) (trn : BitVec 16) (target : Byte) (r : Nat) (s1 : State),
    s.controlIn m.val 3 trn.toNat target.toNat = some s1 → (s.macAt m.val).stage = 0 →
    s1.reqReason m.val target.toNat = some r →
    Completes (.glideReq m trn target) s fun t =>
      (t.macAt m.val).glide = (s.macAt m.val).glide ∧ (t.macAt m.val).stage = 0 ∧
      t.out = (if s.laneDiscards (16 + m.val) = true
        then s1.out else Output.ethFrame m.val (s.glideFrame m.val 5 trn.toNat target.toNat r) true :: s1.out) ∧
      (∀ k < 24, k ≠ m.val → t.macAt k = s.macAt k) ∧ RegsKeptIn [] s t ∧
      OnlyChanges [.out, .regs, .cnt, .arb, .mac, .lanes] s t) ∧
  (∀ (s : State) (m : Fin 24) (trn : BitVec 16) (target : Byte) (s1 : State),
    s.controlIn m.val 3 trn.toNat target.toNat = some s1 → (s.macAt m.val).stage ≠ 0 →
    exec (.glideReq m trn target) s = .next (s1)) ∧
  (∀ (s : State) (m : Fin 24) (target : Nat),
    s.reqReason m.val target = (if (s.macAt m.val).glide = .off then some 1
      else if ((s.macAt m.val).glide = .reqDown ∨ (s.macAt m.val).glide = .reqUp) ∧
        (s.macAt m.val).target = target then none
      else if (s.macAt m.val).glide ≠ .high ∧
        (s.macAt m.val).glide ≠ .low then some 2 else if s.testLanes.testBit (16 + m.val) = true then some 3
      else if ((s.macAt m.val).glide = .high ∧ target = 1) ∨ ((s.macAt m.val).glide = .low ∧
        target = 0) then none else some 4)) ∧
  (∀ (s : State) (m : Fin 24) (trn : BitVec 16) (s1 : State),
    s.controlIn m.val 4 trn.toNat (s.macAt m.val).target = some s1 → (s.macAt m.val).asked trn.toNat = true →
    Completes (.glideAck m trn) s fun t =>
      (t.macAt m.val).glide = .retrain ∧ (t.macAt m.val).stage = 1 ∧ (t.macAt m.val).prev = (s.macAt m.val).rate ∧
      (t.macAt m.val).ours = true ∧ (t.macAt m.val).target = (s.macAt m.val).target ∧ t.out = s1.out ∧
      (∀ k < 24, k ≠ m.val → t.macAt k = s.macAt k) ∧ RegsKeptIn [] s t ∧
      OnlyChanges [.out, .regs, .cnt, .arb, .mac, .lanes] s t) ∧
  (∀ (s : State) (m : Fin 24) (trn : BitVec 16) (s1 : State),
    s.controlIn m.val 5 trn.toNat (s.macAt m.val).target = some s1 → (s.macAt m.val).asked trn.toNat = true →
    s.count (C.ETH_GLIDE_FAIL m.val) < 0xFFFFFFFE →
    Completes (.glideNak m trn) s fun t =>
      (t.macAt m.val).glide = (if (s.macAt m.val).rate = 0 then Glide.high else Glide.low) ∧
      (t.macAt m.val).quiet = true ∧ (t.macAt m.val).stage = 0 ∧
      t.count (C.ETH_GLIDE_FAIL m.val) = s.count (C.ETH_GLIDE_FAIL m.val) + 1 ∧ t.out = s1.out ∧
      (∀ k < 24, k ≠ m.val → t.macAt k = s.macAt k) ∧ RegsKeptIn [R.ETH_SAT] s t ∧
      OnlyChanges [.out, .regs, .cnt, .arb, .mac, .lanes] s t) ∧
  (∀ (s : State) (m : Fin 24) (trn : BitVec 16) (s1 : State), (s.macAt m.val).asked trn.toNat = false →
    (s.controlIn m.val 4 trn.toNat (s.macAt m.val).target = some s1 → exec (.glideAck m trn) s = .next s1) ∧
      (s.controlIn m.val 5 trn.toNat (s.macAt m.val).target = some s1 → exec (.glideNak m trn) s = .next s1)) ∧
  (∀ (s : State) (m : Fin 24), (s.macAt m.val).glide = .probing →
    Completes (.glideProbeTimer m) s fun t =>
      (t.macAt m.val).trans = ((s.macAt m.val).trans + 1) % 65536 ∧ (t.macAt m.val).glide = .probing ∧
      t.out = (if s.laneDiscards (16 + m.val) = true
        then s.out else Output.ethFrame m.val (s.glideFrame m.val 1 (((s.macAt m.val).trans +
        1) % 65536) 0 0) true :: s.out) ∧
      (∀ k < 24, k ≠ m.val → t.macAt k = s.macAt k) ∧ RegsKeptIn [] s t ∧
      OnlyChanges [.out, .regs, .cnt, .arb, .mac, .lanes] s t) ∧
  (∀ (s : State) (m : Fin 24), (s.macAt m.val).glide ≠ .probing →
    exec (.glideProbeTimer m) s = .next (s)) ∧
  (∀ (s : State) (m : Fin 24), ((s.macAt m.val).glide = .reqDown ∨ (s.macAt m.val).glide = .reqUp) →
    (s.macAt m.val).tries < 5 →
    Completes (.glideReqTimer m) s fun t =>
      (t.macAt m.val).tries = (s.macAt m.val).tries + 1 ∧ (t.macAt m.val).glide = (s.macAt m.val).glide ∧
      t.out = (if s.laneDiscards (16 + m.val) = true
        then s.out else Output.ethFrame m.val (s.glideFrame m.val 3 (s.macAt m.val).trans (s.macAt m.val).target 0) true :: s.out) ∧
      (∀ k < 24, k ≠ m.val → t.macAt k = s.macAt k) ∧ RegsKeptIn [R.ETH_SAT] s t ∧
      OnlyChanges [.out, .regs, .cnt, .arb, .mac, .lanes] s t) ∧
  (∀ (s : State) (m : Fin 24), ((s.macAt m.val).glide = .reqDown ∨ (s.macAt m.val).glide = .reqUp) →
    5 ≤ (s.macAt m.val).tries → s.count (C.ETH_GLIDE_FAIL m.val) < 0xFFFFFFFE →
    Completes (.glideReqTimer m) s fun t =>
      (t.macAt m.val).glide = (if (s.macAt m.val).rate = 0 then Glide.high else Glide.low) ∧
      (t.macAt m.val).quiet = true ∧ t.out = s.out ∧
      t.count (C.ETH_GLIDE_FAIL m.val) = s.count (C.ETH_GLIDE_FAIL m.val) + 1 ∧
      (∀ k < 24, k ≠ m.val → t.macAt k = s.macAt k) ∧ RegsKeptIn [R.ETH_SAT] s t ∧
      OnlyChanges [.out, .regs, .cnt, .arb, .mac, .lanes] s t) ∧
  (∀ (s : State) (m : Fin 24), (s.macAt m.val).glide ≠ .reqDown → (s.macAt m.val).glide ≠ .reqUp →
    exec (.glideReqTimer m) s = .next (s)) ∧
  (∀ (s : State) (m : Fin 24), (s.macAt m.val).glide = .high → (s.macAt m.val).quiet = false → s.pwr.grade < 5 →
    (s.macAt m.val).sentWin < s.glideLow m.val * s.glideWin m.val * 12500 →
    (s.macAt m.val).rcvdWin < s.glideLow m.val * s.glideWin m.val * 12500 →
    Completes (.glideWindowEnd m) s fun t =>
      (t.macAt m.val).glide = .reqDown ∧ (t.macAt m.val).target = 1 ∧ (t.macAt m.val).tries = 1 ∧
      (t.macAt m.val).trans = ((s.macAt m.val).trans + 1) % 65536 ∧
      t.out = (if s.laneDiscards (16 + m.val) = true
        then s.out else Output.ethFrame m.val (s.glideFrame m.val 3 (((s.macAt m.val).trans +
        1) % 65536) 1 0) true :: s.out) ∧
      (∀ k < 24, k ≠ m.val → t.macAt k = s.macAt k) ∧ RegsKeptIn [] s t ∧
      OnlyChanges [.out, .regs, .cnt, .arb, .mac, .lanes] s t) ∧
  (∀ (s : State) (m : Fin 24),
    ¬ ((s.macAt m.val).glide = .high ∧ (s.macAt m.val).quiet = false ∧ s.pwr.grade < 5 ∧
      (s.macAt m.val).sentWin < s.glideLow m.val * s.glideWin m.val * 12500 ∧
      (s.macAt m.val).rcvdWin < s.glideLow m.val * s.glideWin m.val * 12500) →
    Completes (.glideWindowEnd m) s fun t =>
      (t.macAt m.val) = { (s.macAt m.val) with sentWin := 0, rcvdWin := 0, quiet := false } ∧ t.out = s.out ∧
      (∀ k < 24, k ≠ m.val → t.macAt k = s.macAt k) ∧ OnlyChanges [.mac] s t) ∧
  (∀ (s : State) (m : Fin 24), (s.macAt m.val).stage = 1 →
    Completes (.glideRateChange m) s fun t =>
      (t.macAt m.val).stage = 2 ∧ (t.macAt m.val).link = false ∧ (t.macAt m.val).rate = (s.macAt m.val).target ∧
      (t.lane (16 + m.val)).rate = (s.macAt m.val).target ∧ (∀ k < 24, k ≠ m.val → t.macAt k = s.macAt k) ∧
      OnlyChanges [.freeCtr, .arb, .fns, .mac, .lanes] s t) ∧
  (∀ (s : State) (m : Fin 24), (s.macAt m.val).stage ≠ 1 →
    exec (.glideRateChange m) s = .next (s)) ∧
  (∀ (s : State) (m : Fin 24) (us : Nat), (s.macAt m.val).stage = 2 →
    Completes (.glideLinkUp m us) s fun t =>
      (t.macAt m.val).glide = (if (s.macAt m.val).target = 0 then .high else .low) ∧ (t.macAt m.val).stage = 0 ∧
      (t.macAt m.val).link = true ∧ (t.macAt m.val).lastRetrain = min us 0xFFFF ∧
      (∀ k < 24, k ≠ m.val → t.macAt k = s.macAt k) ∧ RegsKeptIn [R.ETH_SAT] s t ∧
      OnlyChanges [.regs, .cnt, .arb, .mac] s t) ∧
  (∀ (s : State) (m : Fin 24) (us : Nat), (s.macAt m.val).stage = 2 →
    s.count (if (s.macAt m.val).target = 1 then C.ETH_GLIDE_DOWN m.val else C.ETH_GLIDE_UP m.val) < 0xFFFFFFFE →
    Completes (.glideLinkUp m us) s fun t =>
      t.count (if (s.macAt m.val).target = 1
        then C.ETH_GLIDE_DOWN m.val else C.ETH_GLIDE_UP m.val) = s.count (if (s.macAt m.val).target = 1
        then C.ETH_GLIDE_DOWN m.val else C.ETH_GLIDE_UP m.val) + 1 ∧
      RegsKeptIn [R.ETH_SAT] s t ∧ OnlyChanges [.regs, .cnt, .arb, .mac] s t) ∧
  (∀ (s : State) (m : Fin 24) (us : Nat), (s.macAt m.val).stage = 3 →
    Completes (.glideLinkUp m us) s fun t =>
      (t.macAt m.val).glide = (if (s.macAt m.val).prev = 0 then .high else .low) ∧ (t.macAt m.val).stage = 0 ∧
      (t.macAt m.val).link = true ∧ (t.macAt m.val).quiet = true ∧ t.cnt = s.cnt ∧
      (∀ k < 24, k ≠ m.val → t.macAt k = s.macAt k) ∧ RegsKeptIn [R.ETH_SAT] s t ∧
      OnlyChanges [.regs, .cnt, .arb, .mac] s t) ∧
  (∀ (s : State) (m : Fin 24) (us : Nat), (s.macAt m.val).stage ≠ 2 → (s.macAt m.val).stage ≠ 3 →
    exec (.glideLinkUp m us) s = .next (s)) ∧
  (∀ (s : State) (m : Fin 24), (s.macAt m.val).stage = 2 → s.count (C.ETH_GLIDE_FAIL m.val) < 0xFFFFFFFE →
    Completes (.glideRetrainTimeout m) s fun t =>
      (t.macAt m.val).stage = 3 ∧ (t.macAt m.val).rate = (s.macAt m.val).prev ∧
      (t.lane (16 + m.val)).rate = (s.macAt m.val).prev ∧
      t.count (C.ETH_GLIDE_FAIL m.val) = s.count (C.ETH_GLIDE_FAIL m.val) + 1 ∧
      (∀ k < 24, k ≠ m.val → t.macAt k = s.macAt k) ∧ RegsKeptIn [R.ETH_SAT] s t ∧
      OnlyChanges [.freeCtr, .regs, .cnt, .arb, .fns, .mac, .lanes] s t) ∧
  (∀ (s : State) (m : Fin 24), (s.macAt m.val).stage = 3 → s.count (C.ETH_LINK_DOWN m.val) < 0xFFFFFFFE →
    Completes (.glideRetrainTimeout m) s fun t =>
      (t.macAt m.val).link = false ∧ (t.macAt m.val).glide = .off ∧ (t.macAt m.val).stage = 0 ∧
      (t.macAt m.val).rate = s.ethSpeed m.val ∧
      t.count (C.ETH_LINK_DOWN m.val) = s.count (C.ETH_LINK_DOWN m.val) + 1 ∧
      (∀ k < 24, k ≠ m.val → t.macAt k = s.macAt k) ∧ RegsKeptIn [R.ETH_SAT] s t ∧
      OnlyChanges [.freeCtr, .regs, .cnt, .arb, .fns, .mac, .lanes] s t) ∧
  (∀ (s : State) (m : Fin 24), (s.macAt m.val).stage ≠ 2 → (s.macAt m.val).stage ≠ 3 →
    exec (.glideRetrainTimeout m) s = .next (s)) ∧
  (∀ (s : State) (m : Fin 24), s.flag (F.ETH_CFG_ENABLE m.val) = true → (s.macAt m.val).link = false →
    (s.macAt m.val).stage = 0 → s.asleep (16 + m.val) true = false → s.asleep (16 + m.val) false = false →
    (s.flag (F.ETH_GLIDE_EN m.val) = false ∨ s.ethSpeed m.val ≠ 0) →
    Completes (.ethLinkUp m) s fun t =>
      (t.macAt m.val).link = true ∧ (t.macAt m.val).downLong = false ∧ (t.macAt m.val).partner = false ∧
      (t.macAt m.val).glide = .off ∧ (t.macAt m.val).rate = s.ethSpeed m.val ∧ (t.lane (16 + m.val)).sd = true ∧
      (t.lane (16 + m.val)).cdr = true ∧ (∀ k < 24, k ≠ m.val → t.macAt k = s.macAt k) ∧
      RegsKeptIn [R.ETH_SAT, R.SVL_SAT] s t ∧
      OnlyChanges [.freeCtr, .regs, .cnt, .arb, .fns, .svl, .mac, .lanes] s t) ∧
  (∀ (s : State) (m : Fin 24), s.flag (F.ETH_CFG_ENABLE m.val) = true → (s.macAt m.val).link = false →
    (s.macAt m.val).stage = 0 → s.asleep (16 + m.val) true = false → s.asleep (16 + m.val) false = false →
    s.flag (F.ETH_GLIDE_EN m.val) = true → s.ethSpeed m.val = 0 →
    Completes (.ethLinkUp m) s fun t =>
      (t.macAt m.val).link = true ∧
      (t.macAt m.val).glide = (if (s.macAt m.val).glide = .off then .probing else (s.macAt m.val).glide) ∧
      ((s.macAt m.val).glide = .off → (t.macAt m.val).sentWin = 0 ∧ (t.macAt m.val).rcvdWin = 0) ∧
      (t.macAt m.val).rate = 0 ∧ (∀ k < 24, k ≠ m.val → t.macAt k = s.macAt k) ∧
      RegsKeptIn [R.ETH_SAT, R.SVL_SAT] s t ∧
      OnlyChanges [.freeCtr, .regs, .cnt, .arb, .fns, .svl, .mac, .lanes] s t) ∧
  (∀ (s : State) (m : Fin 24),
    ¬ (s.flag (F.ETH_CFG_ENABLE m.val) = true ∧ (s.macAt m.val).link = false ∧ (s.macAt m.val).stage = 0 ∧
      s.asleep (16 + m.val) true = false ∧ s.asleep (16 + m.val) false = false) →
    exec (.ethLinkUp m) s = .next (s)) ∧
  (∀ (s : State) (m : Fin 24) (cause : Fin 3), (s.macAt m.val).link = true →
    s.count (C.ETH_LINK_DOWN m.val) < 0xFFFFFFFE →
    Completes (.ethLinkDown m cause) s fun t =>
      (t.macAt m.val).link = false ∧ (t.macAt m.val).partner = false ∧ (t.macAt m.val).glide = .off ∧
      (t.macAt m.val).stage = 0 ∧ (t.macAt m.val).rate = s.ethSpeed m.val ∧
      (cause.val = 0 → (t.lane (16 + m.val)).sd = false ∧ (t.lane (16 + m.val)).cdr = false) ∧
      t.count (C.ETH_LINK_DOWN m.val) = s.count (C.ETH_LINK_DOWN m.val) + 1 ∧
      (∀ k < 24, k ≠ m.val → t.macAt k = s.macAt k) ∧ RegsKeptIn [R.ETH_SAT] s t ∧
      OnlyChanges [.freeCtr, .regs, .cnt, .arb, .fns, .mac, .lanes] s t) ∧
  (∀ (s : State) (m : Fin 24) (cause : Fin 3), (s.macAt m.val).link = false →
    exec (.ethLinkDown m cause) s = .next (s)) ∧
  (∀ (s : State) (m : Fin 24), (s.macAt m.val).link = false → (s.macAt m.val).stage = 0 →
    Completes (.ethLinkDownSleep m) s fun t =>
      (t.macAt m.val) = { (s.macAt m.val) with downLong := true } ∧ (∀ k < 24, k ≠ m.val → t.macAt k = s.macAt k) ∧
      RegsKeptIn [R.ETH_SAT, R.SVL_SAT] s t ∧
      OnlyChanges [.freeCtr, .regs, .cnt, .arb, .fns, .svl, .mac, .lanes] s t) ∧
  (∀ (s : State) (m : Fin 24), ((s.macAt m.val).link = true ∨ (s.macAt m.val).stage ≠ 0) →
    exec (.ethLinkDownSleep m) s = .next (s)) ∧
  (∀ (s : State) (p : Pkt), Taken 0x3401 p s → p.length = 1 → p.target.toNat < 24 →
    (s.rd (R.ETH_CFG p.target.toNat)).toNat.testBit 0 = false →
    Ends (.ethCfg p) 0x3401 p s ⟨stDone, 0, []⟩ fun u =>
      u.rd (R.ETH_CFG p.target.toNat) = s.rwAfter (R.ETH_CFG p.target.toNat) (p.w 0) ∧
      (u.macAt p.target.toNat).rate = u.ethSpeed p.target.toNat ∧
      (∀ k < 24, k ≠ p.target.toNat → u.macAt k = s.macAt k) ∧ RegsKeptIn [R.ETH_CFG, R.ETH_SAT, R.SVL_SAT] s u ∧
      OnlyChanges [.freeCtr, .regs, .cnt, .arb, .fns, .svl, .mac, .lanes] (s.afterTake p) u) ∧
  (∀ (s : State) (p : Pkt), Taken 0x3401 p s → p.length = 1 → p.target.toNat < 24 →
    (s.rd (R.ETH_CFG p.target.toNat)).toNat.testBit 0 = true →
    Ends (.ethCfg p) 0x3401 p s ⟨stDone, 0, []⟩ fun u =>
      u.fld (F.ETH_CFG_SPEED p.target.toNat) = s.fld (F.ETH_CFG_SPEED p.target.toNat) ∧
      u.fld (F.ETH_CFG_FEC p.target.toNat) = s.fld (F.ETH_CFG_FEC p.target.toNat) ∧
      u.fld (F.ETH_CFG_ENABLE p.target.toNat) = bitsOf (p.w 0) 0 0 ∧
      u.fld (F.ETH_CFG_MAX_LEN p.target.toNat) = bitsOf (p.w 0) 31 16 ∧
      u.fld (F.ETH_CFG_AN37 p.target.toNat) = bitsOf (p.w 0) 4 4 ∧
      u.fld (F.ETH_CFG_BCAST_DROP p.target.toNat) = bitsOf (p.w 0) 3 3 ∧
      (∀ k < 24, k ≠ p.target.toNat → u.macAt k = s.macAt k) ∧ RegsKeptIn [R.ETH_CFG, R.ETH_SAT, R.SVL_SAT] s u ∧
      OnlyChanges [.freeCtr, .regs, .cnt, .arb, .fns, .svl, .mac, .lanes] (s.afterTake p) u) ∧
  (∀ (s : State) (p : Pkt), Taken 0x3401 p s → p.length = 1 → p.target.toNat < 24 → (p.w 0).testBit 0 = false →
    Ends (.ethCfg p) 0x3401 p s ⟨stDone, 0, []⟩ fun u =>
      (u.macAt p.target.toNat).link = false ∧ (u.macAt p.target.toNat).glide = .off ∧
      (u.macAt p.target.toNat).stage = 0 ∧
      (u.asleep (16 + p.target.toNat) true = true → (u.lane (16 + p.target.toNat)).txOn = false) ∧
      RegsKeptIn [R.ETH_CFG, R.ETH_SAT, R.SVL_SAT] s u ∧
      OnlyChanges [.freeCtr, .regs, .cnt, .arb, .fns, .svl, .mac, .lanes] (s.afterTake p) u) ∧
  (∀ (s : State) (p : Pkt), Taken 0x3405 p s → p.length = 1 → p.target.toNat < 24 →
    Ends (.ethGlide p) 0x3405 p s ⟨stDone, 0, []⟩ fun u =>
      u.rd (R.ETH_GLIDE p.target.toNat) = s.rwAfter (R.ETH_GLIDE p.target.toNat) (p.w 0) ∧
      (u.fld (F.ETH_GLIDE_EN p.target.toNat) = 0 → (u.macAt p.target.toNat).glide = .off) ∧
      (∀ k < 24, k ≠ p.target.toNat → u.macAt k = s.macAt k) ∧ RegsKeptIn [R.ETH_GLIDE] s u ∧
      OnlyChanges [.freeCtr, .regs, .arb, .fns, .mac, .lanes] (s.afterTake p) u) ∧
  (∀ (s : State) (p : Pkt), Taken 0x3405 p s → p.length = 1 → p.target.toNat < 24 →
    (s.macAt p.target.toNat).link = true → (s.macAt p.target.toNat).glide = .off → s.ethSpeed p.target.toNat = 0 →
    ((s.wrRw (R.ETH_GLIDE p.target.toNat) (p.w 0)).flag (F.ETH_GLIDE_EN p.target.toNat)) = true →
    Ends (.ethGlide p) 0x3405 p s ⟨stDone, 0, []⟩ fun u =>
      (u.macAt p.target.toNat).glide = .probing ∧ RegsKeptIn [R.ETH_GLIDE] s u ∧
      OnlyChanges [.freeCtr, .regs, .arb, .fns, .mac, .lanes] (s.afterTake p) u) ∧
  (∀ (s : State) (p : Pkt), Taken 0x3401 p s → p.length = 1 → 24 ≤ p.target.toNat →
    Ends (.ethCfg p) 0x3401 p s ⟨stBadTarget, 0, []⟩ fun u =>
      OnlyChanges [] (s.afterTake p) u) ∧
  (∀ (s : State) (p : Pkt), Taken 0x3405 p s → p.length = 1 → 24 ≤ p.target.toNat →
    Ends (.ethGlide p) 0x3405 p s ⟨stBadTarget, 0, []⟩ fun u =>
      OnlyChanges [] (s.afterTake p) u)

/-- PACKET_CLASSIFY (R362 to R371, R374, R377, R378, R386). -/
def Obligations.FramesAreClassifiedUnderTheCurrentVersion : Prop :=
  (∀ (s : State), s.clsIn = [] →
    exec (.packetClassify) s = .next (s)) ∧
  (∀ (s : State) (v src key : Nat) (x : Parsed),
    (x.exc ≠ 0 → s.classPass v src key x = (s.bump (excCtr x.exc), ⟨s.srcDefault src, x.exc⟩)) ∧
      (s.mem.parity = [] → x.exc = 0 → x.frag = 2 → ∀ i z, s.fragFind (fragKey src x) = some i → s.fragAt i = some z →
        s.classPass v src key x = (s, ⟨z.action, 0⟩)) ∧
      (s.mem.parity = [] → x.exc = 0 → x.frag = 2 → s.fragFind (fragKey src x) = none →
        s.classPass v src key x = (s.bump (excCtr 10), ⟨s.srcFrag src, 10⟩)) ∧
      (s.mem.parity = [] → x.exc = 0 → x.frag ≠ 2 →
        ∀ a, s.flowLookup v (s.fld (F.CLS_SRC_CFG_RULE_SET src)) key = some a →
        s.classPass v src key x = (s, ⟨a, 0⟩)) ∧
      (s.mem.parity = [] → x.exc = 0 → x.frag ≠ 2 → s.flowLookup v (s.fld (F.CLS_SRC_CFG_RULE_SET src)) key = none →
        ∀ r, bestRule (s.ruleHits v (s.fld (F.CLS_SRC_CFG_RULE_SET src)) key) = some r →
        s.classPass v src key x = (s, ⟨r.2.2, 0⟩)) ∧
      (s.mem.parity = [] → x.exc = 0 → x.frag ≠ 2 → s.flowLookup v (s.fld (F.CLS_SRC_CFG_RULE_SET src)) key = none →
        bestRule (s.ruleHits v (s.fld (F.CLS_SRC_CFG_RULE_SET src)) key) = none →
        s.classPass v src key x = (s.bump C.CLS_MISS, ⟨s.srcDefault src, 0⟩))) ∧
  (∀ (s : State) (f : Frame) (fs : List Frame) (x : Parsed), s.clsIn = f :: fs → s.mem.parity = [] →
    x = parsePass ⟨if f.src < 24 then s.fld (F.ETH_TAG_RX_TPID_S f.src)
      else 0x88A8, s.fld F.CLS_CFG_VXLAN_PORT, false⟩ f.delivered 0 .eth →
    s.flag (F.FWD_PORT_CFG_LEARN f.src) = false → s.owner f.buf ≠ 0 → x.exc = 0 → x.frag = 0 → s.cls.rules = [] →
    s.cls.flows = [] → dispOf (s.srcDefault f.src) = 1 → s.count C.CLS_MISS < 0xFFFFFFFE →
    Completes (.packetClassify) s fun t =>
      t.clsIn = fs ∧ t.cls.ver = s.cls.ver ∧ (∀ v < 8, t.inflight v = s.inflight v) ∧
      t.count C.CLS_PKTS = (s.count C.CLS_PKTS + 1) % 2 ^ 64 ∧ t.count C.CLS_MISS = s.count C.CLS_MISS + 1 ∧
      t.owner f.buf = 0 ∧ t.sched = s.sched ∧
      RegsKeptIn [fun _ => R.BUF_SAT, fun _ => R.CLS_SAT, fun _ => R.FWD_SAT, fun _ => R.MEM_INJ,
        fun _ => R.MEM_SAT, R.MEM_UE_LOG_B] s t ∧
      OnlyChanges [.regs, .cnt, .arb, .buf, .sched, .clsIn, .cls, .fwd, .mem] s t) ∧
  (∀ (s : State) (f : Frame) (fs : List Frame) (x : Parsed), s.clsIn = f :: fs → s.mem.parity = [] →
    x = parsePass ⟨if f.src < 24 then s.fld (F.ETH_TAG_RX_TPID_S f.src)
      else 0x88A8, s.fld F.CLS_CFG_VXLAN_PORT, false⟩ f.delivered 0 .eth →
    s.flag (F.FWD_PORT_CFG_LEARN f.src) = false → s.owner f.buf ≠ 0 → x.exc ≠ 0 → x.frag ≠ 1 →
    dispOf (s.srcDefault f.src) = 1 → s.count (excCtr x.exc) < 0xFFFFFFFE →
    Completes (.packetClassify) s fun t =>
      t.clsIn = fs ∧ t.cls.ver = s.cls.ver ∧ (∀ v < 8, t.inflight v = s.inflight v) ∧
      t.count C.CLS_PKTS = (s.count C.CLS_PKTS + 1) % 2 ^ 64 ∧ t.count (excCtr x.exc) = s.count (excCtr x.exc) + 1 ∧
      t.owner f.buf = 0 ∧ t.sched = s.sched ∧
      RegsKeptIn [fun _ => R.BUF_SAT, fun _ => R.CLS_SAT, fun _ => R.FWD_SAT, fun _ => R.MEM_INJ,
        fun _ => R.MEM_SAT, R.MEM_UE_LOG_B] s t ∧
      OnlyChanges [.regs, .cnt, .arb, .buf, .sched, .clsIn, .cls, .fwd, .mem] s t) ∧
  (∀ (s : State) (f : Frame) (fs : List Frame) (x : Parsed) (idx : Nat) (e : ClsEntry), s.clsIn = f :: fs →
    s.mem.parity = [] →
    x = parsePass ⟨if f.src < 24 then s.fld (F.ETH_TAG_RX_TPID_S f.src)
      else 0x88A8, s.fld F.CLS_CFG_VXLAN_PORT, false⟩ f.delivered 0 .eth →
    s.flag (F.FWD_PORT_CFG_LEARN f.src) = false → s.owner f.buf ≠ 0 → x.exc = 0 → x.frag = 0 → s.cls.flows = [] →
    s.cls.rules = [(idx, some e)] → idx / 8192 = s.fld (F.CLS_SRC_CFG_RULE_SET f.src) →
    e.set = s.fld (F.CLS_SRC_CFG_RULE_SET f.src) → e.visible s.cls.ver = true →
    clsKey f.src false x.tun x.tunId x &&& e.mask = e.key → dispOf e.action = 2 → bit e.action 13 = true →
    bit e.action 33 = false →
    Completes (.packetClassify) s fun t =>
      t.clsIn = fs ∧ t.cls.ver = s.cls.ver ∧ (∀ v < 8, t.inflight v = s.inflight v) ∧
      t.count C.CLS_PKTS = (s.count C.CLS_PKTS + 1) % 2 ^ 64 ∧ t.count C.CLS_MISS = s.count C.CLS_MISS ∧
      t.owner f.buf = agQm ∧
      (∃ a, t.sched.arrivals = s.sched.arrivals ++ [a] ∧ a.node1 = 28 ∧ a.dq = bitsOf e.action 8 3 ∧
        a.frame.cls = bitsOf e.action 12 9 ∧ a.frame.bytes = f.bytes ∧
        a.frame.fid = s.fld (F.CLS_SRC_CFG_FID f.src)) ∧
      RegsKeptIn [fun _ => R.BUF_SAT, fun _ => R.CLS_SAT, fun _ => R.FWD_SAT, fun _ => R.MEM_INJ,
        fun _ => R.MEM_SAT, R.MEM_UE_LOG_B] s t ∧
      OnlyChanges [.regs, .cnt, .arb, .buf, .sched, .clsIn, .cls, .fwd, .mem] s t) ∧
  (∀ (s : State) (f : Frame) (fs : List Frame) (x : Parsed) (a e : Nat), s.clsIn = f :: fs → s.mem.parity = [] →
    x = parsePass ⟨if f.src < 24 then s.fld (F.ETH_TAG_RX_TPID_S f.src)
      else 0x88A8, s.fld F.CLS_CFG_VXLAN_PORT, false⟩ f.delivered 0 .eth →
    s.flag (F.FWD_PORT_CFG_LEARN f.src) = false → s.owner f.buf ≠ 0 →
    ((({ s with clsIn := fs }.setInflight s.cls.ver (s.inflight s.cls.ver +
      1)).bump C.CLS_PKTS).classPass s.cls.ver f.src (clsKey f.src false x.tun x.tunId x) x).2.action = a →
    ((({ s with clsIn := fs }.setInflight s.cls.ver (s.inflight s.cls.ver +
      1)).bump C.CLS_PKTS).classPass s.cls.ver f.src (clsKey f.src false x.tun x.tunId x) x).2.exc = e →
    x.frag ≠ 1 → dispOf a = 1 →
    Completes (.packetClassify) s fun t =>
      t.clsIn = fs ∧ t.cls.ver = s.cls.ver ∧ (∀ v < 8, t.inflight v = s.inflight v) ∧
      t.count C.CLS_PKTS = (s.count C.CLS_PKTS + 1) % 2 ^ 64 ∧ t.owner f.buf = 0 ∧ t.sched = s.sched ∧
      RegsKeptIn [fun _ => R.BUF_SAT, fun _ => R.CLS_SAT, fun _ => R.FWD_SAT, fun _ => R.MEM_INJ,
        fun _ => R.MEM_SAT, R.MEM_UE_LOG_B] s t ∧
      OnlyChanges [.regs, .cnt, .arb, .buf, .sched, .clsIn, .cls, .fwd, .mem] s t) ∧
  (∀ (s : State) (f : Frame) (fs : List Frame) (x : Parsed) (a e : Nat), s.clsIn = f :: fs → s.mem.parity = [] →
    x = parsePass ⟨if f.src < 24 then s.fld (F.ETH_TAG_RX_TPID_S f.src)
      else 0x88A8, s.fld F.CLS_CFG_VXLAN_PORT, false⟩ f.delivered 0 .eth →
    s.flag (F.FWD_PORT_CFG_LEARN f.src) = false → s.owner f.buf ≠ 0 →
    ((({ s with clsIn := fs }.setInflight s.cls.ver (s.inflight s.cls.ver +
      1)).bump C.CLS_PKTS).classPass s.cls.ver f.src (clsKey f.src false x.tun x.tunId x) x).2.action = a →
    ((({ s with clsIn := fs }.setInflight s.cls.ver (s.inflight s.cls.ver +
      1)).bump C.CLS_PKTS).classPass s.cls.ver f.src (clsKey f.src false x.tun x.tunId x) x).2.exc = e →
    x.frag ≠ 1 → dispOf a = 2 →
    Completes (.packetClassify) s fun t =>
      t.clsIn = fs ∧ t.cls.ver = s.cls.ver ∧ (∀ v < 8, t.inflight v = s.inflight v) ∧
      t.count C.CLS_PKTS = (s.count C.CLS_PKTS + 1) % 2 ^ 64 ∧ t.owner f.buf = agQm ∧
      (∃ z, t.sched.arrivals = s.sched.arrivals ++ [z] ∧ z.node1 = 28 ∧ z.dq = bitsOf a 8 3 ∧ z.frame.copy = false ∧
        z.frame.exc = e) ∧
      RegsKeptIn [fun _ => R.BUF_SAT, fun _ => R.CLS_SAT, fun _ => R.FWD_SAT, fun _ => R.MEM_INJ,
        fun _ => R.MEM_SAT, R.MEM_UE_LOG_B] s t ∧
      OnlyChanges [.regs, .cnt, .arb, .buf, .sched, .clsIn, .cls, .fwd, .mem] s t) ∧
  (∀ (s : State) (f : Frame) (fs : List Frame) (x : Parsed) (a e : Nat) (g : Frame) (ds : List Nat),
    s.clsIn = f :: fs → s.mem.parity = [] →
    x = parsePass ⟨if f.src < 24 then s.fld (F.ETH_TAG_RX_TPID_S f.src)
      else 0x88A8, s.fld F.CLS_CFG_VXLAN_PORT, false⟩ f.delivered 0 .eth →
    s.flag (F.FWD_PORT_CFG_LEARN f.src) = false → s.owner f.buf ≠ 0 →
    ((({ s with clsIn := fs }.setInflight s.cls.ver (s.inflight s.cls.ver +
      1)).bump C.CLS_PKTS).classPass s.cls.ver f.src (clsKey f.src false x.tun x.tunId x) x).2.action = a →
    ((({ s with clsIn := fs }.setInflight s.cls.ver (s.inflight s.cls.ver +
      1)).bump C.CLS_PKTS).classPass s.cls.ver f.src (clsKey f.src false x.tun x.tunId x) x).2.exc = e →
    x.frag ≠ 1 → dispOf a = 0 →
    g = { ((⟨s.baseMeta { f with ver := s.cls.ver }, 2⟩ : Meta).apply a).f with exc := e, vid0 := bitsOf (clsKey f.src false x.tun x.tunId x) 35 24, hash := flowHash ((⟨s.baseMeta { f with ver := s.cls.ver }, 2⟩ : Meta).apply a).hashSel (clsKey f.src false x.tun x.tunId x) } →
    ds = (s.destLookup g.fid (beAt g.bytes 0 6)).2.filter (fun d => !(s.excluded g.src).contains d) → ds ≠ [] →
    Completes (.packetClassify) s fun t =>
      t.clsIn = fs ∧ t.cls.ver = s.cls.ver ∧ (∀ v < 8, t.inflight v = s.inflight v) ∧
      t.count C.CLS_PKTS = (s.count C.CLS_PKTS + 1) % 2 ^ 64 ∧ t.owner f.buf = agQm ∧
      t.sched.arrivals = s.sched.arrivals ++ (ds.map (s.arrivalFor g)).eraseDups ∧
      RegsKeptIn [fun _ => R.BUF_SAT, fun _ => R.CLS_SAT, fun _ => R.FWD_SAT, fun _ => R.MEM_INJ,
        fun _ => R.MEM_SAT, R.MEM_UE_LOG_B] s t ∧
      OnlyChanges [.regs, .cnt, .arb, .buf, .sched, .clsIn, .cls, .fwd, .mem] s t) ∧
  (∀ (s : State) (f : Frame) (fs : List Frame) (x : Parsed) (a e : Nat) (g : Frame) (ds : List Nat),
    s.clsIn = f :: fs → s.mem.parity = [] →
    x = parsePass ⟨if f.src < 24 then s.fld (F.ETH_TAG_RX_TPID_S f.src)
      else 0x88A8, s.fld F.CLS_CFG_VXLAN_PORT, false⟩ f.delivered 0 .eth →
    s.flag (F.FWD_PORT_CFG_LEARN f.src) = false → s.owner f.buf ≠ 0 →
    ((({ s with clsIn := fs }.setInflight s.cls.ver (s.inflight s.cls.ver +
      1)).bump C.CLS_PKTS).classPass s.cls.ver f.src (clsKey f.src false x.tun x.tunId x) x).2.action = a →
    ((({ s with clsIn := fs }.setInflight s.cls.ver (s.inflight s.cls.ver +
      1)).bump C.CLS_PKTS).classPass s.cls.ver f.src (clsKey f.src false x.tun x.tunId x) x).2.exc = e →
    x.frag ≠ 1 → dispOf a = 3 →
    g = { ((⟨s.baseMeta { f with ver := s.cls.ver }, 2⟩ : Meta).apply a).f with exc := e, vid0 := bitsOf (clsKey f.src false x.tun x.tunId x) 35 24, hash := flowHash ((⟨s.baseMeta { f with ver := s.cls.ver }, 2⟩ : Meta).apply a).hashSel (clsKey f.src false x.tun x.tunId x) } →
    ds = (s.destLookup g.fid (beAt g.bytes 0 6)).2.filter (fun d => !(s.excluded g.src).contains d) →
    Completes (.packetClassify) s fun t =>
      t.clsIn = fs ∧ t.cls.ver = s.cls.ver ∧ (∀ v < 8, t.inflight v = s.inflight v) ∧
      t.count C.CLS_PKTS = (s.count C.CLS_PKTS + 1) % 2 ^ 64 ∧ t.owner f.buf = agQm ∧
      t.sched.arrivals = s.sched.arrivals ++ ((ds.map (s.arrivalFor g)).eraseDups ++
        [{ frame := { g with copy := true }, node1 := 28, dq := bitsOf a 8 3 }]) ∧
      RegsKeptIn [fun _ => R.BUF_SAT, fun _ => R.CLS_SAT, fun _ => R.FWD_SAT, fun _ => R.MEM_INJ,
        fun _ => R.MEM_SAT, R.MEM_UE_LOG_B] s t ∧
      OnlyChanges [.regs, .cnt, .arb, .buf, .sched, .clsIn, .cls, .fwd, .mem] s t) ∧
  (∀ (s : State) (f : Frame) (fs : List Frame) (x : Parsed) (a e : Nat) (g : Frame) (ds : List Nat),
    s.clsIn = f :: fs → s.mem.parity = [] →
    x = parsePass ⟨if f.src < 24 then s.fld (F.ETH_TAG_RX_TPID_S f.src)
      else 0x88A8, s.fld F.CLS_CFG_VXLAN_PORT, false⟩ f.delivered 0 .eth →
    s.flag (F.FWD_PORT_CFG_LEARN f.src) = false → s.owner f.buf ≠ 0 →
    ((({ s with clsIn := fs }.setInflight s.cls.ver (s.inflight s.cls.ver +
      1)).bump C.CLS_PKTS).classPass s.cls.ver f.src (clsKey f.src false x.tun x.tunId x) x).2.action = a →
    ((({ s with clsIn := fs }.setInflight s.cls.ver (s.inflight s.cls.ver +
      1)).bump C.CLS_PKTS).classPass s.cls.ver f.src (clsKey f.src false x.tun x.tunId x) x).2.exc = e →
    x.frag ≠ 1 → dispOf a = 0 →
    g = { ((⟨s.baseMeta { f with ver := s.cls.ver }, 2⟩ : Meta).apply a).f with exc := e, vid0 := bitsOf (clsKey f.src false x.tun x.tunId x) 35 24, hash := flowHash ((⟨s.baseMeta { f with ver := s.cls.ver }, 2⟩ : Meta).apply a).hashSel (clsKey f.src false x.tun x.tunId x) } →
    ds = (s.destLookup g.fid (beAt g.bytes 0 6)).2.filter (fun d => !(s.excluded g.src).contains d) → ds = [] →
    s.count C.FWD_FILTERED < 0xFFFFFFFE →
    Completes (.packetClassify) s fun t =>
      t.clsIn = fs ∧ t.cls.ver = s.cls.ver ∧ (∀ v < 8, t.inflight v = s.inflight v) ∧
      t.count C.CLS_PKTS = (s.count C.CLS_PKTS + 1) % 2 ^ 64 ∧ t.owner f.buf = 0 ∧ t.sched = s.sched ∧
      t.count C.FWD_FILTERED = s.count C.FWD_FILTERED + 1 ∧
      RegsKeptIn [fun _ => R.BUF_SAT, fun _ => R.CLS_SAT, fun _ => R.FWD_SAT, fun _ => R.MEM_INJ,
        fun _ => R.MEM_SAT, R.MEM_UE_LOG_B] s t ∧
      OnlyChanges [.regs, .cnt, .arb, .buf, .sched, .clsIn, .cls, .fwd, .mem] s t) ∧
  (∀ (s : State) (f : Frame) (fs : List Frame) (x : Parsed) (a e : Nat), s.clsIn = f :: fs → s.mem.parity = [] →
    x = parsePass ⟨if f.src < 24 then s.fld (F.ETH_TAG_RX_TPID_S f.src)
      else 0x88A8, s.fld F.CLS_CFG_VXLAN_PORT, false⟩ f.delivered 0 .eth →
    s.flag (F.FWD_PORT_CFG_LEARN f.src) = false → s.owner f.buf ≠ 0 →
    ((({ s with clsIn := fs }.setInflight s.cls.ver (s.inflight s.cls.ver +
      1)).bump C.CLS_PKTS).classPass s.cls.ver f.src (clsKey f.src false x.tun x.tunId x) x).2.action = a →
    ((({ s with clsIn := fs }.setInflight s.cls.ver (s.inflight s.cls.ver +
      1)).bump C.CLS_PKTS).classPass s.cls.ver f.src (clsKey f.src false x.tun x.tunId x) x).2.exc = e →
    x.frag ≠ 1 → dispOf a = 4 → x.inner = none → dispOf (s.srcDefault f.src) = 1 → s.count (excCtr 9) < 0xFFFFFFFE →
    e ≠ 9 →
    Completes (.packetClassify) s fun t =>
      t.clsIn = fs ∧ t.cls.ver = s.cls.ver ∧ (∀ v < 8, t.inflight v = s.inflight v) ∧
      t.count C.CLS_PKTS = (s.count C.CLS_PKTS + 1) % 2 ^ 64 ∧ t.owner f.buf = 0 ∧ t.sched = s.sched ∧
      t.count (excCtr 9) = s.count (excCtr 9) + 1 ∧
      RegsKeptIn [fun _ => R.BUF_SAT, fun _ => R.CLS_SAT, fun _ => R.FWD_SAT, fun _ => R.MEM_INJ,
        fun _ => R.MEM_SAT, R.MEM_UE_LOG_B] s t ∧
      OnlyChanges [.regs, .cnt, .arb, .buf, .sched, .clsIn, .cls, .fwd, .mem] s t) ∧
  (∀ (s : State) (f : Frame) (fs : List Frame) (x : Parsed) (a e : Nat) (i : Nat), s.clsIn = f :: fs →
    s.mem.parity = [] →
    x = parsePass ⟨if f.src < 24 then s.fld (F.ETH_TAG_RX_TPID_S f.src)
      else 0x88A8, s.fld F.CLS_CFG_VXLAN_PORT, false⟩ f.delivered 0 .eth →
    s.flag (F.FWD_PORT_CFG_LEARN f.src) = false → s.owner f.buf ≠ 0 →
    ((({ s with clsIn := fs }.setInflight s.cls.ver (s.inflight s.cls.ver +
      1)).bump C.CLS_PKTS).classPass s.cls.ver f.src (clsKey f.src false x.tun x.tunId x) x).2.action = a →
    ((({ s with clsIn := fs }.setInflight s.cls.ver (s.inflight s.cls.ver +
      1)).bump C.CLS_PKTS).classPass s.cls.ver f.src (clsKey f.src false x.tun x.tunId x) x).2.exc = e →
    x.frag = 1 → dispOf a = 1 → e = 0 → s.fragFind (fragKey f.src x) = none →
    (fragPlaces (fragKey f.src x)).find? (fun k => s.fragFree k) = some i →
    Completes (.packetClassify) s fun t =>
      t.clsIn = fs ∧ t.cls.ver = s.cls.ver ∧ (∀ v < 8, t.inflight v = s.inflight v) ∧
      t.count C.CLS_PKTS = (s.count C.CLS_PKTS + 1) % 2 ^ 64 ∧ t.owner f.buf = 0 ∧ t.sched = s.sched ∧
      t.fragAt i = some ⟨fragKey f.src x, a, s.tick.count.toNat⟩ ∧
      RegsKeptIn [fun _ => R.BUF_SAT, fun _ => R.CLS_SAT, fun _ => R.FWD_SAT, fun _ => R.MEM_INJ,
        fun _ => R.MEM_SAT, R.MEM_UE_LOG_B] s t ∧
      OnlyChanges [.regs, .cnt, .arb, .buf, .sched, .clsIn, .cls, .fwd, .mem] s t)

/-- The commands of chapter 12 and its three own steps (R362 to R381). -/
def Obligations.ClassifierTablesChangeByVersions : Prop :=
  (∀ (s : State) (p : Pkt), Taken 0x3001 p s → p.length = 38 → p.target.toNat < 8192 →
    leAt p.bytes 0 68 &&& leAt p.bytes 68 68 = leAt p.bytes 0 68 → leAt p.bytes 138 1 ≤ 3 → leAt p.bytes 139 1 = 0 →
    leAt p.bytes 149 3 = 0 → leAt p.bytes 140 8 < 2 ^ 42 →
    s.ruleAt (8192 * leAt p.bytes 138 1 + p.target.toNat) = none →
    Ends (.clsRuleWrite p) 0x3001 p s ⟨stDone, 0, []⟩ fun u =>
      u.ruleAt (8192 * leAt p.bytes 138 1 + p.target.toNat) =
        some { set := leAt p.bytes 138 1, key := leAt p.bytes 0 68, mask := leAt p.bytes 68 68, prio := leAt p.bytes 136 2, action := leAt p.bytes 140 8, addV := some ((s.cls.ver + 1) % 8) } ∧
      (∀ k, k ≠ 8192 * leAt p.bytes 138 1 + p.target.toNat → u.ruleAt k = s.ruleAt k) ∧
      u.cls = { s.cls with rules := u.cls.rules } ∧ RegsKept [R.MEM_INJ] s u ∧
      OnlyChanges [.regs, .cls, .mem] (s.afterTake p) u) ∧
  (∀ (s : State) (p : Pkt) (e : ClsEntry), Taken 0x3002 p s → p.length = 1 → p.target.toNat < 8192 → p.w 0 ≤ 3 →
    s.ruleAt (8192 * p.w 0 + p.target.toNat) = some e → e.addV ≠ some ((s.cls.ver + 1) % 8) → e.delV = none →
    Ends (.clsRuleDelete p) 0x3002 p s ⟨stDone, 0, []⟩ fun u =>
      u.ruleAt (8192 * p.w 0 + p.target.toNat) = some { e with delV := some ((s.cls.ver + 1) % 8) } ∧
      (∀ k, k ≠ 8192 * p.w 0 + p.target.toNat → u.ruleAt k = s.ruleAt k) ∧
      u.cls = { s.cls with rules := u.cls.rules } ∧ RegsKept [R.MEM_INJ] s u ∧
      OnlyChanges [.regs, .cls, .mem] (s.afterTake p) u) ∧
  (∀ (s : State) (p : Pkt) (e : ClsEntry), Taken 0x3002 p s → p.length = 1 → p.target.toNat < 8192 → p.w 0 ≤ 3 →
    s.ruleAt (8192 * p.w 0 + p.target.toNat) = some e → e.addV = some ((s.cls.ver + 1) % 8) →
    Ends (.clsRuleDelete p) 0x3002 p s ⟨stDone, 0, []⟩ fun u =>
      u.ruleAt (8192 * p.w 0 + p.target.toNat) = none ∧
      (∀ k, k ≠ 8192 * p.w 0 + p.target.toNat → u.ruleAt k = s.ruleAt k) ∧
      u.cls = { s.cls with rules := u.cls.rules } ∧ RegsKept [R.MEM_INJ] s u ∧
      OnlyChanges [.regs, .cls, .mem] (s.afterTake p) u) ∧
  (∀ (s : State) (p : Pkt) (i : Nat), Taken 0x3003 p s → p.length = 20 → p.target = 0 → leAt p.bytes 0 4 ≤ 3 →
    leAt p.bytes 4 68 &&& s.flowMask (leAt p.bytes 0 4) = leAt p.bytes 4 68 → leAt p.bytes 72 8 < 2 ^ 42 →
    (flowPlaces (flowSet (leAt p.bytes 0 4) (leAt p.bytes 4 68))).find? (fun k => (s.flowAt k).isNone) = some i →
    (flowPlaces (flowSet (leAt p.bytes 0 4) (leAt p.bytes 4 68))).all (fun k => (s.flowAt k).all (fun e => e.key != leAt p.bytes 4 68 || e.set != leAt p.bytes 0 4 || !e.visible ((s.cls.ver +
      1) % 8))) = true →
    Ends (.clsFlowInsert p) 0x3003 p s ⟨stDone, 0, []⟩ fun u =>
      u.flowAt i = some { set := leAt p.bytes 0 4, key := leAt p.bytes 4 68, action := leAt p.bytes 72 8, addV := some ((s.cls.ver + 1) % 8) } ∧
      (∀ k, k ≠ i → u.flowAt k = s.flowAt k) ∧ u.cls = { s.cls with flows := u.cls.flows } ∧
      RegsKept [R.MEM_INJ] s u ∧ OnlyChanges [.regs, .cls, .mem] (s.afterTake p) u) ∧
  (∀ (s : State) (p : Pkt) (i : Nat) (e : ClsEntry), Taken 0x3004 p s → p.length = 20 → p.target = 0 →
    leAt p.bytes 0 4 ≤ 3 → i ∈ flowPlaces (flowSet (leAt p.bytes 0 4) (leAt p.bytes 4 68)) → s.flowAt i = some e →
    e.set = leAt p.bytes 0 4 → e.key = leAt p.bytes 4 68 → e.delV = none → e.addV ≠ some ((s.cls.ver + 1) % 8) →
    (flowPlaces (flowSet (leAt p.bytes 0 4) (leAt p.bytes 4 68))).all (fun k => k == i || (s.flowAt k).all (fun e => e.key != leAt p.bytes 4 68 || e.set != leAt p.bytes 0 4)) =
      true →
    Ends (.clsFlowDelete p) 0x3004 p s ⟨stDone, 0, []⟩ fun u =>
      u.flowAt i = some { e with delV := some ((s.cls.ver + 1) % 8) } ∧ (∀ k, k ≠ i → u.flowAt k = s.flowAt k) ∧
      u.cls = { s.cls with flows := u.cls.flows } ∧ RegsKept [R.MEM_INJ] s u ∧
      OnlyChanges [.regs, .cls, .mem] (s.afterTake p) u) ∧
  (∀ (s : State) (p : Pkt) (i : Nat) (e : ClsEntry), Taken 0x3004 p s → p.length = 20 → p.target = 0 →
    leAt p.bytes 0 4 ≤ 3 → i ∈ flowPlaces (flowSet (leAt p.bytes 0 4) (leAt p.bytes 4 68)) → s.flowAt i = some e →
    e.set = leAt p.bytes 0 4 → e.key = leAt p.bytes 4 68 → e.addV = some ((s.cls.ver + 1) % 8) →
    (flowPlaces (flowSet (leAt p.bytes 0 4) (leAt p.bytes 4 68))).all (fun k => k == i || (s.flowAt k).all (fun e => e.key != leAt p.bytes 4 68 || e.set != leAt p.bytes 0 4)) =
      true →
    Ends (.clsFlowDelete p) 0x3004 p s ⟨stDone, 0, []⟩ fun u =>
      u.flowAt i = none ∧ (∀ k, k ≠ i → u.flowAt k = s.flowAt k) ∧ u.cls = { s.cls with flows := u.cls.flows } ∧
      RegsKept [R.MEM_INJ] s u ∧ OnlyChanges [.regs, .cls, .mem] (s.afterTake p) u) ∧
  (∀ (s : State) (p : Pkt), Taken 0x3005 p s → p.length = 0 → p.target = 0 → s.cls.prev = none →
    Ends (.clsCommit p) 0x3005 p s ⟨stDone, ((s.cls.ver + 1) % 8), []⟩ fun u =>
      u.cls = { s.cls with prev := some s.cls.ver, ver := (s.cls.ver + 1) % 8 } ∧
      OnlyChanges [.cls] (s.afterTake p) u) ∧
  (∀ (s : State) (p : Pkt), Taken 0x3006 p s → p.length = 0 → p.target = 0 →
    sparseWf (fun _ => none) s.cls.rules = true → sparseWf (fun _ => none) s.cls.flows = true →
    Ends (.clsAbort p) 0x3006 p s ⟨stDone, 0, []⟩ fun u =>
      (∀ k < 32768, u.ruleAt k = (s.ruleAt k).bind (ClsEntry.abort ((s.cls.ver + 1) % 8))) ∧
      (∀ k < 65536, u.flowAt k = (s.flowAt k).bind (ClsEntry.abort ((s.cls.ver + 1) % 8))) ∧ u.cls.ver = s.cls.ver ∧
      u.cls.prev = s.cls.prev ∧ OnlyChanges [.cls] (s.afterTake p) u) ∧
  (∀ (s : State) (p : Pkt), Taken 0x3007 p s → p.length = 17 → p.target.toNat < 4 →
    (leAt p.bytes 0 68 = s.flowMask p.target.toNat ∨
      s.cls.flows.all (fun x => x.2.all (fun e => e.set != p.target.toNat)) = true) →
    Ends (.clsFlowMask p) 0x3007 p s ⟨stDone, 0, []⟩ fun u =>
      u.flowMask p.target.toNat = leAt p.bytes 0 68 ∧ (∀ k < 4, k ≠ p.target.toNat → u.flowMask k = s.flowMask k) ∧
      u.cls = { s.cls with masks := u.cls.masks } ∧ OnlyChanges [.cls] (s.afterTake p) u) ∧
  (∀ (s : State) (p : Pkt), Taken 0x3008 p s → p.length = 5 → p.target.toNat < 28 →
    Ends (.clsSrc p) 0x3008 p s ⟨stDone, 0, []⟩ fun u =>
      u.rd (R.CLS_SRC_CFG p.target.toNat) = s.rwAfter (R.CLS_SRC_CFG p.target.toNat) (p.w 0) ∧
      u.rd (R.CLS_SRC_DEF_LO p.target.toNat) = s.rwAfter (R.CLS_SRC_DEF_LO p.target.toNat) (p.w 1) ∧
      u.rd (R.CLS_SRC_DEF_HI p.target.toNat) = s.rwAfter (R.CLS_SRC_DEF_HI p.target.toNat) (p.w 2) ∧
      u.rd (R.CLS_SRC_FRAG_LO p.target.toNat) = s.rwAfter (R.CLS_SRC_FRAG_LO p.target.toNat) (p.w 3) ∧
      u.rd (R.CLS_SRC_FRAG_HI p.target.toNat) = s.rwAfter (R.CLS_SRC_FRAG_HI p.target.toNat) (p.w 4) ∧
      RegsKept [R.CLS_SRC_CFG p.target.toNat, R.CLS_SRC_DEF_LO p.target.toNat, R.CLS_SRC_DEF_HI p.target.toNat,
        R.CLS_SRC_FRAG_LO p.target.toNat, R.CLS_SRC_FRAG_HI p.target.toNat] s u ∧
      OnlyChanges [.regs] (s.afterTake p) u) ∧
  (∀ (s : State) (p : Pkt), Taken 0x3009 p s → p.length = 1 → p.target = 0 →
    Ends (.clsCfg p) 0x3009 p s ⟨stDone, 0, []⟩ fun u =>
      u.rd R.CLS_CFG = s.rwAfter R.CLS_CFG (p.w 0) ∧ RegsKept [R.CLS_CFG] s u ∧
      OnlyChanges [.regs] (s.afterTake p) u) ∧
  (∀ (s : State) (p : Pkt), Taken 0x3001 p s → p.length = 38 → p.target.toNat < 8192 →
    (leAt p.bytes 0 68 &&& leAt p.bytes 68 68 ≠ leAt p.bytes 0 68 ∨ 3 < leAt p.bytes 138 1 ∨ leAt p.bytes 139 1 ≠ 0 ∨
      leAt p.bytes 149 3 ≠ 0 ∨ 2 ^ 42 ≤ leAt p.bytes 140 8) →
    Ends (.clsRuleWrite p) 0x3001 p s ⟨stBadParam, 0, []⟩ fun u =>
      OnlyChanges [] (s.afterTake p) u) ∧
  (∀ (s : State) (p : Pkt), Taken 0x3001 p s → p.length = 38 → p.target.toNat < 8192 →
    leAt p.bytes 0 68 &&& leAt p.bytes 68 68 = leAt p.bytes 0 68 → leAt p.bytes 138 1 ≤ 3 → leAt p.bytes 139 1 = 0 →
    leAt p.bytes 149 3 = 0 → leAt p.bytes 140 8 < 2 ^ 42 →
    s.ruleAt (8192 * leAt p.bytes 138 1 + p.target.toNat) ≠ none →
    Ends (.clsRuleWrite p) 0x3001 p s ⟨stBusy, 0, []⟩ fun u =>
      OnlyChanges [] (s.afterTake p) u) ∧
  (∀ (s : State) (p : Pkt), Taken 0x3002 p s → p.length = 1 → p.target.toNat < 8192 → 3 < p.w 0 →
    Ends (.clsRuleDelete p) 0x3002 p s ⟨stBadParam, 0, []⟩ fun u =>
      OnlyChanges [] (s.afterTake p) u) ∧
  (∀ (s : State) (p : Pkt), Taken 0x3002 p s → p.length = 1 → p.target.toNat < 8192 → p.w 0 ≤ 3 →
    (s.ruleAt (8192 * p.w 0 + p.target.toNat)).all (fun e => e.addV != some ((s.cls.ver + 1) % 8) && e.delV.isSome) =
      true →
    Ends (.clsRuleDelete p) 0x3002 p s ⟨stBadTarget, 0, []⟩ fun u =>
      OnlyChanges [] (s.afterTake p) u) ∧
  (∀ (s : State) (p : Pkt), Taken 0x3003 p s → p.length = 20 → p.target = 0 →
    (3 < leAt p.bytes 0 4 ∨ leAt p.bytes 4 68 &&& s.flowMask (leAt p.bytes 0 4) ≠ leAt p.bytes 4 68 ∨
      2 ^ 42 ≤ leAt p.bytes 72 8 ∨ (flowPlaces (flowSet (leAt p.bytes 0 4) (leAt p.bytes 4 68))).any (fun k => (s.flowAt k).any (fun e => e.key == leAt p.bytes 4 68 && e.set == leAt p.bytes 0 4 && e.visible ((s.cls.ver +
      1) % 8))) = true) →
    Ends (.clsFlowInsert p) 0x3003 p s ⟨stBadParam, 0, []⟩ fun u =>
      OnlyChanges [] (s.afterTake p) u) ∧
  (∀ (s : State) (p : Pkt), Taken 0x3003 p s → p.length = 20 → p.target = 0 → leAt p.bytes 0 4 ≤ 3 →
    leAt p.bytes 4 68 &&& s.flowMask (leAt p.bytes 0 4) = leAt p.bytes 4 68 → leAt p.bytes 72 8 < 2 ^ 42 →
    (flowPlaces (flowSet (leAt p.bytes 0 4) (leAt p.bytes 4 68))).all (fun k => (s.flowAt k).any (fun e => e.key != leAt p.bytes 4 68 || e.set != leAt p.bytes 0 4 || !e.visible ((s.cls.ver +
      1) % 8))) = true →
    Ends (.clsFlowInsert p) 0x3003 p s ⟨stNoResource, 0, []⟩ fun u =>
      OnlyChanges [] (s.afterTake p) u) ∧
  (∀ (s : State) (p : Pkt), Taken 0x3004 p s → p.length = 20 → p.target = 0 → 3 < leAt p.bytes 0 4 →
    Ends (.clsFlowDelete p) 0x3004 p s ⟨stBadParam, 0, []⟩ fun u =>
      OnlyChanges [] (s.afterTake p) u) ∧
  (∀ (s : State) (p : Pkt), Taken 0x3004 p s → p.length = 20 → p.target = 0 → leAt p.bytes 0 4 ≤ 3 →
    (flowPlaces (flowSet (leAt p.bytes 0 4) (leAt p.bytes 4 68))).all (fun k => (s.flowAt k).all (fun e => e.key != leAt p.bytes 4 68 || e.set != leAt p.bytes 0 4 || (e.addV != some ((s.cls.ver +
      1) % 8) && e.delV.isSome))) = true →
    Ends (.clsFlowDelete p) 0x3004 p s ⟨stBadTarget, 0, []⟩ fun u =>
      OnlyChanges [] (s.afterTake p) u) ∧
  (∀ (s : State) (p : Pkt), Taken 0x3005 p s → p.length = 0 → p.target = 0 → s.cls.prev ≠ none →
    Ends (.clsCommit p) 0x3005 p s ⟨stDraining, 0, []⟩ fun u =>
      OnlyChanges [] (s.afterTake p) u) ∧
  (∀ (s : State) (p : Pkt), Taken 0x3007 p s → p.length = 17 → p.target.toNat < 4 →
    leAt p.bytes 0 68 ≠ s.flowMask p.target.toNat →
    s.cls.flows.any (fun x => x.2.any (fun e => e.set == p.target.toNat)) = true →
    Ends (.clsFlowMask p) 0x3007 p s ⟨stBusy, 0, []⟩ fun u =>
      OnlyChanges [] (s.afterTake p) u) ∧
  (∀ (s : State) (p : Pkt), Taken 0x3001 p s → p.length = 38 → 8192 ≤ p.target.toNat →
    Ends (.clsRuleWrite p) 0x3001 p s ⟨stBadTarget, 0, []⟩ fun u =>
      OnlyChanges [] (s.afterTake p) u) ∧
  (∀ (s : State) (p : Pkt), Taken 0x3002 p s → p.length = 1 → 8192 ≤ p.target.toNat →
    Ends (.clsRuleDelete p) 0x3002 p s ⟨stBadTarget, 0, []⟩ fun u =>
      OnlyChanges [] (s.afterTake p) u) ∧
  (∀ (s : State) (p : Pkt), Taken 0x3003 p s → p.length = 20 → p.target ≠ 0 →
    Ends (.clsFlowInsert p) 0x3003 p s ⟨stBadTarget, 0, []⟩ fun u =>
      OnlyChanges [] (s.afterTake p) u) ∧
  (∀ (s : State) (p : Pkt), Taken 0x3004 p s → p.length = 20 → p.target ≠ 0 →
    Ends (.clsFlowDelete p) 0x3004 p s ⟨stBadTarget, 0, []⟩ fun u =>
      OnlyChanges [] (s.afterTake p) u) ∧
  (∀ (s : State) (p : Pkt), Taken 0x3005 p s → p.length = 0 → p.target ≠ 0 →
    Ends (.clsCommit p) 0x3005 p s ⟨stBadTarget, 0, []⟩ fun u =>
      OnlyChanges [] (s.afterTake p) u) ∧
  (∀ (s : State) (p : Pkt), Taken 0x3006 p s → p.length = 0 → p.target ≠ 0 →
    Ends (.clsAbort p) 0x3006 p s ⟨stBadTarget, 0, []⟩ fun u =>
      OnlyChanges [] (s.afterTake p) u) ∧
  (∀ (s : State) (p : Pkt), Taken 0x3007 p s → p.length = 17 → 4 ≤ p.target.toNat →
    Ends (.clsFlowMask p) 0x3007 p s ⟨stBadTarget, 0, []⟩ fun u =>
      OnlyChanges [] (s.afterTake p) u) ∧
  (∀ (s : State) (p : Pkt), Taken 0x3008 p s → p.length = 5 → 28 ≤ p.target.toNat →
    Ends (.clsSrc p) 0x3008 p s ⟨stBadTarget, 0, []⟩ fun u =>
      OnlyChanges [] (s.afterTake p) u) ∧
  (∀ (s : State) (p : Pkt), Taken 0x3009 p s → p.length = 1 → p.target ≠ 0 →
    Ends (.clsCfg p) 0x3009 p s ⟨stBadTarget, 0, []⟩ fun u =>
      OnlyChanges [] (s.afterTake p) u) ∧
  (∀ (s : State), s.cls.prev = none →
    exec .versionSweepStart s = .next s ∧ exec .versionRetired s = .next s) ∧
  (∀ (s : State), s.cls.sweep = false →
    exec (.versionRetired) s = .next (s)) ∧
  (∀ (s : State) (v : Nat), s.cls.prev = some v → s.inflight v = 0 →
    exec (.versionSweepStart) s = .next ({ s with cls := { s.cls with sweep := true } })) ∧
  (∀ (s : State) (v : Nat), s.cls.prev = some v → s.inflight v ≠ 0 →
    exec (.versionSweepStart) s = .next (s)) ∧
  (∀ (s : State) (v : Nat), s.cls.prev = some v → s.cls.sweep = true → (s.source 0x0080).queue.length < 16 →
    sparseWf (fun _ => none) s.cls.rules = true → sparseWf (fun _ => none) s.cls.flows = true →
    Completes (.versionRetired) s fun t =>
      t.cls.prev = none ∧ t.cls.sweep = false ∧ t.cls.ver = s.cls.ver ∧
      (∀ k < 32768, t.ruleAt k = (s.ruleAt k).bind (ClsEntry.swept ((v + 1) % 8))) ∧
      (∀ k < 65536, t.flowAt k = (s.flowAt k).bind (ClsEntry.swept ((v + 1) % 8))) ∧
      (t.source 0x0080).queue = (s.source 0x0080).queue ++ [⟨3, 0x0C02, 3, evPayload [(1, v), (1, s.cls.ver), (4,
        s.tick.count.toNat % 2 ^ 32)], s.arb.raised⟩] ∧
      OnlyChanges [.arb, .cls] s t) ∧
  (∀ (s : State) (set : Fin 512) (way : Fin 4) (e : FragEntry), s.fragAt (4 * set.val + way.val) = some e →
    s.fragExpired e = true →
    Completes (.fragEntryExpiry set way) s fun t =>
      t.fragAt (4 * set.val + way.val) = none ∧ (∀ k, k ≠ 4 * set.val + way.val → t.fragAt k = s.fragAt k) ∧
      t.cls = { s.cls with frags := t.cls.frags } ∧ OnlyChanges [.cls] s t) ∧
  (∀ (s : State) (set : Fin 512) (way : Fin 4),
    (s.fragAt (4 * set.val + way.val)).all (fun e => !s.fragExpired e) = true →
    exec (.fragEntryExpiry set way) s = .next (s)) ∧
  (∀ (s : State) (e : FragEntry),
    s.fragExpired e = decide (48 * s.fragLife ≤ (s.tick.count - BitVec.ofNat 48 e.at_).toNat)) ∧
  (∀ (s : State),
    Completes (.clsStatSnap) s fun t =>
      (∀ x ∈ clsCtrs, t.bankAt x.off = s.count x % 2 ^ 32) ∧ OnlyChanges [.bank] s t)

/-- LEARN_GRANT, REFRESH_GRANT, MOVE_GRANT, AGING_DELETE_GRANT, AGING_SCAN_STEP (R387 to R396). The bucket order
among free ways is R393's. -/
def Obligations.ForwardingEntriesAreLearnedRefreshedMovedAndAged : Prop :=
  (∀ (s : State) (r : FwdReq) (rs : List FwdReq) (i : Nat), s.fwd.reqs = r :: rs → r.kind = .learn →
    s.fwdFind r.fid r.mac = none → s.atLimit r.src = false →
    (s.freeWay (bucketsOf r.fid r.mac).1 = some i ∨ s.freeWay (bucketsOf r.fid r.mac).1 = none ∧
      s.freeWay (bucketsOf r.fid r.mac).2 = some i) →
    s.count C.FWD_LEARNED < 0xFFFFFFFE →
    Completes (.learnGrant) s fun t =>
      t.fwdAt i = some { mac := r.mac, fid := r.fid, dest := r.dest, src := r.src, ts := s.fwd.now, mt := s.fwd.ms, gen := s.fwd.gen } ∧
      (∀ k, k ≠ i → t.fwdAt k = s.fwdAt k) ∧
      t.fwd = { s.fwd with entries := t.fwd.entries, reqs := rs, gen := (s.fwd.gen + 1) % 65536 } ∧
      t.count C.FWD_LEARNED = s.count C.FWD_LEARNED + 1 ∧ RegsKept [R.MEM_INJ] s t ∧
      OnlyChanges [.regs, .cnt, .arb, .fwd, .mem] s t) ∧
  (∀ (s : State) (r : FwdReq) (rs : List FwdReq), s.fwd.reqs = r :: rs → r.kind = .learn →
    s.fwdFind r.fid r.mac = none → s.atLimit r.src = true → s.count C.FWD_LIMIT_HIT < 0xFFFFFFFE →
    Completes (.learnGrant) s fun t =>
      t.fwd.entries = s.fwd.entries ∧ t.fwd.reqs = rs ∧ t.count C.FWD_LIMIT_HIT = s.count C.FWD_LIMIT_HIT + 1 ∧
      OnlyChanges [.cnt, .arb, .fwd] s t) ∧
  (∀ (s : State) (r : FwdReq) (rs : List FwdReq) (i : Nat) (e : FwdEntry), s.fwd.reqs = r :: rs →
    r.kind = .refresh → s.fwdFind r.fid r.mac = some i → s.fwdAt i = some e → e.dest = r.dest → e.static = false →
    e.lock = false →
    Completes (.refreshGrant) s fun t =>
      t.fwdAt i = some { e with ts := s.fwd.now } ∧ (∀ k, k ≠ i → t.fwdAt k = s.fwdAt k) ∧
      t.fwd = { s.fwd with entries := t.fwd.entries, reqs := rs } ∧ RegsKept [R.MEM_INJ] s t ∧
      OnlyChanges [.fwd, .mem, .regs] s t) ∧
  (∀ (s : State) (r : FwdReq) (rs : List FwdReq), s.fwd.reqs = r :: rs → r.kind = .refresh →
    s.fwdFind r.fid r.mac = none →
    exec (.refreshGrant) s = .next ({ s with fwd := { s.fwd with reqs := rs } })) ∧
  (∀ (s : State) (r : FwdReq) (rs : List FwdReq) (i : Nat) (e : FwdEntry), s.fwd.reqs = r :: rs → r.kind = .move →
    s.fwdFind r.fid r.mac = some i → s.fwdAt i = some e → e.dest ≠ r.dest → e.static = false → e.lock = false →
    s.atLimit r.src = false → e.moves < s.moveLimit → clockSince s.fwd.ms e.mt < s.moveWindow →
    s.count C.FWD_MOVES < 0xFFFFFFFE →
    Completes (.moveGrant) s fun t =>
      t.fwdAt i = some { e with dest := r.dest, src := r.src, ts := s.fwd.now, moves := e.moves + 1 } ∧
      (∀ k, k ≠ i → t.fwdAt k = s.fwdAt k) ∧ t.fwd = { s.fwd with entries := t.fwd.entries, reqs := rs } ∧
      t.count C.FWD_MOVES = s.count C.FWD_MOVES + 1 ∧ RegsKept [R.MEM_INJ] s t ∧
      OnlyChanges [.regs, .cnt, .arb, .fwd, .mem] s t) ∧
  (∀ (s : State) (r : FwdReq) (rs : List FwdReq) (i : Nat) (e : FwdEntry), s.fwd.reqs = r :: rs → r.kind = .move →
    s.fwdFind r.fid r.mac = some i → s.fwdAt i = some e → e.dest ≠ r.dest → e.static = false → e.lock = false →
    s.atLimit r.src = false → s.moveLimit ≤ e.moves → clockSince s.fwd.ms e.mt < s.moveWindow →
    (s.source 0x0082).queue.length < 16 →
    Completes (.moveGrant) s fun t =>
      t.fwdAt i = some { e with lock := true, mt := s.fwd.sec, moves := 0 } ∧ (∀ k, k ≠ i → t.fwdAt k = s.fwdAt k) ∧
      t.fwd = { s.fwd with entries := t.fwd.entries, reqs := rs } ∧
      (t.source 0x0082).queue = (s.source 0x0082).queue ++ [⟨2, 0x0D01, 3,
        fitB 16 (leBytes 2 e.fid ++ beBytes 6 e.mac ++ leBytes 1 e.dest ++ leBytes 1 r.dest), s.arb.raised⟩] ∧
      RegsKept [R.MEM_INJ] s t ∧ OnlyChanges [.arb, .fwd, .mem, .regs] s t) ∧
  (∀ (s : State) (r : FwdReq) (rs : List FwdReq) (i : Nat) (e : FwdEntry), s.fwd.reqs = r :: rs → r.kind = .move →
    s.fwdFind r.fid r.mac = some i → s.fwdAt i = some e → e.dest ≠ r.dest → e.static = true →
    exec (.moveGrant) s = .next ({ s with fwd := { s.fwd with reqs := rs } })) ∧
  (∀ (s : State) (r : FwdReq) (rs : List FwdReq) (i : Nat) (e : FwdEntry), s.fwd.reqs = r :: rs → r.kind = .age →
    s.fwdFind r.fid r.mac = some i → s.fwdAt i = some e → s.aged e = true → i < stashBase → s.stashUsed = [] →
    s.count C.FWD_AGED < 0xFFFFFFFE →
    Completes (.agingDeleteGrant) s fun t =>
      t.fwdAt i = none ∧ (∀ k, k ≠ i → t.fwdAt k = s.fwdAt k) ∧
      t.fwd = { s.fwd with entries := t.fwd.entries, reqs := rs } ∧ t.count C.FWD_AGED = s.count C.FWD_AGED + 1 ∧
      RegsKept [R.MEM_INJ] s t ∧ OnlyChanges [.regs, .cnt, .arb, .fwd, .mem] s t) ∧
  (∀ (s : State) (r : FwdReq) (rs : List FwdReq) (i : Nat) (e : FwdEntry), s.fwd.reqs = r :: rs → r.kind = .age →
    s.fwdFind r.fid r.mac = some i → s.fwdAt i = some e → s.aged e = false →
    exec (.agingDeleteGrant) s = .next ({ s with fwd := { s.fwd with reqs := rs } })) ∧
  (∀ (s : State), s.fwd.flush = none → s.fwd.scan < 32768 → (∀ k < 4, s.fwdAt (4 * s.fwd.scan + k) = none) →
    exec (.agingScanStep) s = .next ({ s with fwd := { s.fwd with scan := (s.fwd.scan + 1) % 33024 } })) ∧
  (∀ (s : State) (k : Nat) (e : FwdEntry), s.fwd.flush = none → s.fwd.scan < 32768 → k < 4 →
    s.fwdAt (4 * s.fwd.scan + k) = some e → (∀ j < 4, j = k ∨ s.fwdAt (4 * s.fwd.scan + j) = none) →
    s.aged e = true → s.fwd.reqs = [] →
    Completes (.agingScanStep) s fun t =>
      t.fwd = { s.fwd with scan := (s.fwd.scan + 1) % 33024, reqs := [⟨.age, e.mac, e.fid, 0, 255⟩] } ∧
      OnlyChanges [.fwd] s t) ∧
  (∀ (s : State) (k : Nat) (e : FwdEntry) (fl : Flush), s.fwd.flush = some fl → 0 < fl.left → s.fwd.scan < 32768 →
    k < 4 → s.fwdAt (4 * s.fwd.scan + k) = some e → (∀ j < 4, j = k ∨ s.fwdAt (4 * s.fwd.scan + j) = none) →
    e.dest = fl.dest → (e.static = false ∨ fl.static = true) → s.stashUsed = [] →
    Completes (.agingScanStep) s fun t =>
      t.fwdAt (4 * s.fwd.scan + k) = none ∧ (∀ k, k ≠ 4 * s.fwd.scan + k → t.fwdAt k = s.fwdAt k) ∧
      t.fwd = { s.fwd with entries := t.fwd.entries, scan := (s.fwd.scan + 1) % 33024, flush := some { fl with left := fl.left - 1, deleted := fl.deleted + 1 } } ∧
      RegsKept [R.MEM_INJ] s t ∧ OnlyChanges [.regs, .fwd, .mem] s t) ∧
  (∀ (s : State), s.fwd.reqs = [] →
    exec (.learnGrant) s = .next (s)) ∧
  (∀ (s : State), s.fwd.reqs = [] →
    exec (.refreshGrant) s = .next (s)) ∧
  (∀ (s : State), s.fwd.reqs = [] →
    exec (.moveGrant) s = .next (s)) ∧
  (∀ (s : State), s.fwd.reqs = [] →
    exec (.agingDeleteGrant) s = .next (s)) ∧
  (∀ (s : State) (r : FwdReq) (rs : List FwdReq), s.fwd.reqs = r :: rs → r.kind ≠ .learn →
    exec (.learnGrant) s = .next (s)) ∧
  (∀ (s : State) (r : FwdReq) (rs : List FwdReq), s.fwd.reqs = r :: rs → r.kind ≠ .refresh →
    exec (.refreshGrant) s = .next (s)) ∧
  (∀ (s : State) (r : FwdReq) (rs : List FwdReq), s.fwd.reqs = r :: rs → r.kind ≠ .move →
    exec (.moveGrant) s = .next (s)) ∧
  (∀ (s : State) (r : FwdReq) (rs : List FwdReq), s.fwd.reqs = r :: rs → r.kind ≠ .age → r.kind ≠ .parity →
    exec (.agingDeleteGrant) s = .next (s)) ∧
  (∀ (s : State) (r : FwdReq) (rs : List FwdReq) (i : Nat) (e : FwdEntry), s.fwd.reqs = r :: rs → r.kind = .learn →
    s.fwdFind r.fid r.mac = some i → s.fwdAt i = some e → e.dest = r.dest → e.static = false → e.lock = false →
    Completes (.learnGrant) s fun t =>
      t.fwdAt i = some { e with ts := s.fwd.now } ∧ (∀ k, k ≠ i → t.fwdAt k = s.fwdAt k) ∧
      t.fwd = { s.fwd with entries := t.fwd.entries, reqs := rs } ∧ RegsKept [R.MEM_INJ] s t ∧
      OnlyChanges [.fwd, .mem, .regs] s t) ∧
  (∀ (s : State) (r : FwdReq) (rs : List FwdReq) (i : Nat) (e : FwdEntry), s.fwd.reqs = r :: rs → r.kind = .learn →
    s.fwdFind r.fid r.mac = some i → s.fwdAt i = some e → (e.static = true ∨ e.lock = true) →
    exec (.learnGrant) s = .next ({ s with fwd := { s.fwd with reqs := rs } })) ∧
  (∀ (s : State) (r : FwdReq) (rs : List FwdReq) (i : Nat) (e : FwdEntry), s.fwd.reqs = r :: rs → r.kind = .learn →
    s.fwdFind r.fid r.mac = some i → s.fwdAt i = some e → e.dest ≠ r.dest →
    exec (.learnGrant) s = .next ((s.setFwd { s.fwd with reqs := rs }).grantMove i e r)) ∧
  (∀ (s : State) (r : FwdReq) (rs : List FwdReq) (m : Nat × Nat) (ms : List (Nat × Nat)), s.fwd.reqs = r :: rs →
    r.kind = .learn → s.fwdFind r.fid r.mac = none → s.atLimit r.src = false →
    s.freeWay (bucketsOf (r.fid) (r.mac)).1 = none → s.freeWay (bucketsOf (r.fid) (r.mac)).2 = none →
    (s.findPath s.maxKicks (bucketPlaces (bucketsOf (r.fid) (r.mac)).1 ++
      bucketPlaces (bucketsOf (r.fid) (r.mac)).2) ((bucketPlaces (bucketsOf (r.fid) (r.mac)).1 ++
      bucketPlaces (bucketsOf (r.fid) (r.mac)).2).map (fun q => [q]))) = some ms →
    s.movesAllowed ms = true → ms.getLast? = some m →
    Completes (.learnGrant) s fun t =>
      t.fwdAt m.1 = some { mac := r.mac, fid := r.fid, dest := r.dest, src := r.src, ts := s.fwd.now, mt := s.fwd.ms, gen := s.fwd.gen } ∧
      (∀ k, (∀ x ∈ ms, k ≠ x.1 ∧ k ≠ x.2) → t.fwdAt k = s.fwdAt k) ∧
      t.fwd = { s.fwd with entries := t.fwd.entries, walks := t.fwd.walks, reqs := rs, gen := (s.fwd.gen + 1) % 65536 } ∧
      RegsKept [R.MEM_INJ] s t ∧ OnlyChanges [.regs, .cnt, .arb, .fwd, .mem] s t) ∧
  (∀ (s : State) (r : FwdReq) (rs : List FwdReq) (a b : Nat) (z : FwdEntry), s.fwd.reqs = r :: rs →
    r.kind = .learn → s.fwdFind r.fid r.mac = none → s.atLimit r.src = false →
    s.freeWay (bucketsOf (r.fid) (r.mac)).1 = none → s.freeWay (bucketsOf (r.fid) (r.mac)).2 = none →
    (s.findPath s.maxKicks (bucketPlaces (bucketsOf (r.fid) (r.mac)).1 ++
      bucketPlaces (bucketsOf (r.fid) (r.mac)).2) ((bucketPlaces (bucketsOf (r.fid) (r.mac)).1 ++
      bucketPlaces (bucketsOf (r.fid) (r.mac)).2).map (fun q => [q]))) = some [(a, b)] →
    s.movesAllowed [(a, b)] = true → s.fwdAt a = some z → a ≠ b →
    Completes (.learnGrant) s fun t =>
      t.fwdAt a = some { mac := r.mac, fid := r.fid, dest := r.dest, src := r.src, ts := s.fwd.now, mt := s.fwd.ms, gen := s.fwd.gen } ∧
      t.fwdAt b = some { z with stashNo := 0 } ∧ RegsKept [R.MEM_INJ] s t ∧
      OnlyChanges [.regs, .cnt, .arb, .fwd, .mem] s t) ∧
  (∀ (s : State) (r : FwdReq) (rs : List FwdReq) (i : Nat), s.fwd.reqs = r :: rs → r.kind = .learn →
    s.fwdFind r.fid r.mac = none → s.atLimit r.src = false → s.freeWay (bucketsOf (r.fid) (r.mac)).1 = none →
    s.freeWay (bucketsOf (r.fid) (r.mac)).2 = none →
    ((s.findPath s.maxKicks (bucketPlaces (bucketsOf (r.fid) (r.mac)).1 ++
      bucketPlaces (bucketsOf (r.fid) (r.mac)).2) ((bucketPlaces (bucketsOf (r.fid) (r.mac)).1 ++
      bucketPlaces (bucketsOf (r.fid) (r.mac)).2).map (fun q => [q]))) = none ∨
      (s.findPath s.maxKicks (bucketPlaces (bucketsOf (r.fid) (r.mac)).1 ++
      bucketPlaces (bucketsOf (r.fid) (r.mac)).2) ((bucketPlaces (bucketsOf (r.fid) (r.mac)).1 ++
      bucketPlaces (bucketsOf (r.fid) (r.mac)).2).map (fun q => [q]))).map s.movesAllowed = some false) →
    s.freeStash = some i → s.count C.FWD_LEARNED < 0xFFFFFFFE →
    Completes (.learnGrant) s fun t =>
      t.fwdAt i = some { mac := r.mac, fid := r.fid, dest := r.dest, src := r.src, ts := s.fwd.now, mt := s.fwd.ms, gen := s.fwd.gen, stashNo := s.fwd.stashNo + 1 } ∧
      (∀ k, k ≠ i → t.fwdAt k = s.fwdAt k) ∧
      t.fwd = { s.fwd with entries := t.fwd.entries, reqs := rs, stashNo := s.fwd.stashNo + 1, gen := (s.fwd.gen + 1) % 65536 } ∧
      t.count C.FWD_LEARNED = s.count C.FWD_LEARNED + 1 ∧ RegsKept [R.MEM_INJ] s t ∧
      OnlyChanges [.regs, .cnt, .arb, .fwd, .mem] s t) ∧
  (∀ (s : State) (r : FwdReq) (rs : List FwdReq), s.fwd.reqs = r :: rs → r.kind = .learn →
    s.fwdFind r.fid r.mac = none → s.atLimit r.src = false → s.freeWay (bucketsOf (r.fid) (r.mac)).1 = none →
    s.freeWay (bucketsOf (r.fid) (r.mac)).2 = none →
    (s.findPath s.maxKicks (bucketPlaces (bucketsOf (r.fid) (r.mac)).1 ++
      bucketPlaces (bucketsOf (r.fid) (r.mac)).2) ((bucketPlaces (bucketsOf (r.fid) (r.mac)).1 ++
      bucketPlaces (bucketsOf (r.fid) (r.mac)).2).map (fun q => [q]))) = none →
    s.freeStash = none → s.count C.FWD_TABLE_FULL < 0xFFFFFFFE →
    Completes (.learnGrant) s fun t =>
      t.fwd = { s.fwd with reqs := rs, fullTold := true } ∧
      t.count C.FWD_TABLE_FULL = s.count C.FWD_TABLE_FULL + 1 ∧ t.count C.FWD_LEARNED = s.count C.FWD_LEARNED ∧
      RegsKept [] s t ∧ OnlyChanges [.regs, .cnt, .arb, .fwd, .mem] s t) ∧
  (∀ (s : State) (r : FwdReq) (rs : List FwdReq) (i : Nat) (e : FwdEntry), s.fwd.reqs = r :: rs →
    r.kind = .refresh → s.fwdFind r.fid r.mac = some i → s.fwdAt i = some e →
    (e.dest ≠ r.dest ∨ e.static = true ∨ e.lock = true) →
    exec (.refreshGrant) s = .next ({ s with fwd := { s.fwd with reqs := rs } })) ∧
  (∀ (s : State) (r : FwdReq) (rs : List FwdReq) (i : Nat) (e : FwdEntry), s.fwd.reqs = r :: rs → r.kind = .move →
    s.fwdFind r.fid r.mac = some i → s.fwdAt i = some e → e.dest = r.dest → e.static = false → e.lock = false →
    Completes (.moveGrant) s fun t =>
      t.fwdAt i = some { e with ts := s.fwd.now } ∧ (∀ k, k ≠ i → t.fwdAt k = s.fwdAt k) ∧
      t.fwd = { s.fwd with entries := t.fwd.entries, reqs := rs } ∧ RegsKept [R.MEM_INJ] s t ∧
      OnlyChanges [.fwd, .mem, .regs] s t) ∧
  (∀ (s : State) (r : FwdReq) (rs : List FwdReq), s.fwd.reqs = r :: rs → r.kind = .move →
    s.fwdFind r.fid r.mac = none →
    exec (.moveGrant) s = .next ({ s with fwd := { s.fwd with reqs := rs } })) ∧
  (∀ (s : State) (r : FwdReq) (rs : List FwdReq) (i : Nat) (e : FwdEntry), s.fwd.reqs = r :: rs → r.kind = .move →
    s.fwdFind r.fid r.mac = some i → s.fwdAt i = some e → e.lock = true →
    exec (.moveGrant) s = .next ({ s with fwd := { s.fwd with reqs := rs } })) ∧
  (∀ (s : State) (r : FwdReq) (rs : List FwdReq) (i : Nat) (e : FwdEntry), s.fwd.reqs = r :: rs → r.kind = .move →
    s.fwdFind r.fid r.mac = some i → s.fwdAt i = some e → e.dest ≠ r.dest → e.static = false → e.lock = false →
    r.src ≠ e.src → s.atLimit r.src = true → s.count C.FWD_LIMIT_HIT < 0xFFFFFFFE →
    Completes (.moveGrant) s fun t =>
      t.fwd.entries = s.fwd.entries ∧ t.fwd.reqs = rs ∧ t.count C.FWD_LIMIT_HIT = s.count C.FWD_LIMIT_HIT + 1 ∧
      OnlyChanges [.cnt, .arb, .fwd] s t) ∧
  (∀ (s : State) (r : FwdReq) (rs : List FwdReq) (i : Nat) (e : FwdEntry), s.fwd.reqs = r :: rs → r.kind = .move →
    s.fwdFind r.fid r.mac = some i → s.fwdAt i = some e → e.dest ≠ r.dest → e.static = false → e.lock = false →
    (r.src = e.src ∨ s.atLimit r.src = false) → s.moveWindow ≤ clockSince s.fwd.ms e.mt → 1 ≤ s.moveLimit →
    s.count C.FWD_MOVES < 0xFFFFFFFE →
    Completes (.moveGrant) s fun t =>
      t.fwdAt i = some { e with dest := r.dest, src := r.src, ts := s.fwd.now, moves := 1, mt := s.fwd.ms } ∧
      (∀ k, k ≠ i → t.fwdAt k = s.fwdAt k) ∧ t.fwd = { s.fwd with entries := t.fwd.entries, reqs := rs } ∧
      t.count C.FWD_MOVES = s.count C.FWD_MOVES + 1 ∧ RegsKept [R.MEM_INJ] s t ∧
      OnlyChanges [.regs, .cnt, .arb, .fwd, .mem] s t) ∧
  (∀ (s : State) (r : FwdReq) (rs : List FwdReq), s.fwd.reqs = r :: rs → r.kind = .age →
    s.fwdFind r.fid r.mac = none →
    exec (.agingDeleteGrant) s = .next ({ s with fwd := { s.fwd with reqs := rs } })) ∧
  (∀ (s : State) (r : FwdReq) (rs : List FwdReq), s.fwd.reqs = r :: rs → r.kind = .parity →
    s.fwdFind r.fid r.mac = none →
    exec (.agingDeleteGrant) s = .next ({ s with fwd := { s.fwd with reqs := rs } })) ∧
  (∀ (s : State) (r : FwdReq) (rs : List FwdReq) (i : Nat) (e : FwdEntry), s.fwd.reqs = r :: rs → r.kind = .parity →
    s.fwdFind r.fid r.mac = some i → s.fwdAt i = some e → (s.parityBad 2 i = false ∨ e.static = true) →
    exec (.agingDeleteGrant) s = .next ({ s with fwd := { s.fwd with reqs := rs } })) ∧
  (∀ (s : State) (r : FwdReq) (rs : List FwdReq) (i : Nat) (e : FwdEntry), s.fwd.reqs = r :: rs → r.kind = .parity →
    s.fwdFind r.fid r.mac = some i → s.fwdAt i = some e → s.parityBad 2 i = true → e.static = false →
    (stashBase ≤ i ∨ (s.setFwdAt i none).stashFor (i / 4) = none) →
    Completes (.agingDeleteGrant) s fun t =>
      t.fwdAt i = none ∧ (∀ k, k ≠ i → t.fwdAt k = s.fwdAt k) ∧
      t.fwd = { s.fwd with entries := t.fwd.entries, reqs := rs } ∧ RegsKept [R.MEM_INJ] s t ∧
      OnlyChanges [.regs, .cnt, .arb, .fwd, .mem] s t) ∧
  (∀ (s : State) (r : FwdReq) (rs : List FwdReq) (i : Nat) (e : FwdEntry), s.fwd.reqs = r :: rs → r.kind = .age →
    s.fwdFind r.fid r.mac = some i → s.fwdAt i = some e → s.aged e = true →
    (stashBase ≤ i ∨ (s.setFwdAt i none).stashFor (i / 4) = none) → s.count C.FWD_AGED < 0xFFFFFFFE →
    Completes (.agingDeleteGrant) s fun t =>
      t.fwdAt i = none ∧ (∀ k, k ≠ i → t.fwdAt k = s.fwdAt k) ∧
      t.fwd = { s.fwd with entries := t.fwd.entries, reqs := rs } ∧ t.count C.FWD_AGED = s.count C.FWD_AGED + 1 ∧
      RegsKept [R.MEM_INJ] s t ∧ OnlyChanges [.regs, .cnt, .arb, .fwd, .mem] s t) ∧
  (∀ (s : State) (r : FwdReq) (rs : List FwdReq) (i : Nat) (e : FwdEntry) (k : Nat) (z : FwdEntry),
    s.fwd.reqs = r :: rs → r.kind = .age → s.fwdFind r.fid r.mac = some i → s.fwdAt i = some e → s.aged e = true →
    i < stashBase → (s.setFwdAt i none).stashFor (i / 4) = some k → s.fwdAt k = some z →
    s.movesAllowed [(k, i)] = true →
    Completes (.agingDeleteGrant) s fun t =>
      t.fwdAt i = some { z with stashNo := 0 } ∧ t.fwdAt k = none ∧ (∀ j, j ≠ i → j ≠ k → t.fwdAt j = s.fwdAt j) ∧
      RegsKept [R.MEM_INJ] s t ∧ OnlyChanges [.regs, .cnt, .arb, .fwd, .mem] s t) ∧
  (∀ (s : State) (fl : Flush), s.fwd.flush = some fl → fl.left = 0 →
    exec (.agingScanStep) s = .next (s)) ∧
  (∀ (s : State) (fl : Flush), s.fwd.flush = some fl → 0 < fl.left → s.fwd.scan < 32768 →
    (∀ k < 4, s.fwdAt (4 * s.fwd.scan + k) = none) →
    exec (.agingScanStep) s = .next ({ s with fwd := { s.fwd with scan := (s.fwd.scan + 1) % 33024, flush := some { fl with left := fl.left - 1 } } })) ∧
  (∀ (s : State), s.fwd.flush = none → 32768 ≤ s.fwd.scan → s.fwdAt (stashBase + (s.fwd.scan - 32768)) = none →
    exec (.agingScanStep) s = .next ({ s with fwd := { s.fwd with scan := (s.fwd.scan + 1) % 33024 } })) ∧
  (∀ (s : State) (e : FwdEntry), s.fwd.flush = none → 32768 ≤ s.fwd.scan →
    s.fwdAt (stashBase + (s.fwd.scan - 32768)) = some e →
    exec (.agingScanStep) s = .next ((s.scanOne (stashBase +
      (s.fwd.scan - 32768)) e).setFwd { (s.scanOne (stashBase + (s.fwd.scan - 32768)) e).fwd with scan := (s.fwd.scan + 1) % 33024 })) ∧
  (∀ (s : State) (pos : Nat) (e : FwdEntry),
    (e.lock = true → s.lockTime ≤ clockSince s.fwd.sec e.mt →
      s.scanOne pos e = s.setFwdAt pos (some { e with lock := false, mt := s.fwd.ms })) ∧
      (e.lock = true → clockSince s.fwd.sec e.mt < s.lockTime → s.scanOne pos e = s) ∧
      (e.lock = false → s.aged e = true → s.scanOne pos e = s.requestDelete .age e) ∧
      (e.lock = false → s.aged e = false → s.scanOne pos e = s)) ∧
  (∀ (s : State) (k : Nat) (e : FwdEntry), s.fwd.flush = none → s.fwd.scan < 32768 → k < 4 →
    s.fwdAt (4 * s.fwd.scan + k) = some e → (∀ j < 4, j = k ∨ s.fwdAt (4 * s.fwd.scan + j) = none) → e.lock = true →
    s.lockTime ≤ clockSince s.fwd.sec e.mt →
    Completes (.agingScanStep) s fun t =>
      t.fwdAt (4 * s.fwd.scan + k) = some { e with lock := false, mt := s.fwd.ms } ∧
      (∀ k, k ≠ 4 * s.fwd.scan + k → t.fwdAt k = s.fwdAt k) ∧
      t.fwd = { s.fwd with entries := t.fwd.entries, scan := (s.fwd.scan + 1) % 33024 } ∧ RegsKept [R.MEM_INJ] s t ∧
      OnlyChanges [.regs, .fwd, .mem] s t) ∧
  (∀ (s : State) (k : Nat) (e : FwdEntry), s.fwd.flush = none → s.fwd.scan < 32768 → k < 4 →
    s.fwdAt (4 * s.fwd.scan + k) = some e → (∀ j < 4, j = k ∨ s.fwdAt (4 * s.fwd.scan + j) = none) →
    s.scanOne (4 * s.fwd.scan + k) e = s →
    exec (.agingScanStep) s = .next ({ s with fwd := { s.fwd with scan := (s.fwd.scan + 1) % 33024 } })) ∧
  (∀ (s : State) (k : Nat) (e : FwdEntry) (fl : Flush), s.fwd.flush = some fl → 0 < fl.left → s.fwd.scan < 32768 →
    k < 4 → s.fwdAt (4 * s.fwd.scan + k) = some e → (∀ j < 4, j = k ∨ s.fwdAt (4 * s.fwd.scan + j) = none) →
    (e.dest ≠ fl.dest ∨ (e.static = true ∧ fl.static = false)) → s.aged e = false → e.lock = false →
    exec (.agingScanStep) s = .next ({ s with fwd := { s.fwd with scan := (s.fwd.scan + 1) % 33024, flush := some { fl with left := fl.left - 1 } } })) ∧
  (∀ (s : State) (e : FwdEntry) (fl : Flush), s.fwd.flush = some fl → 0 < fl.left → 32768 ≤ s.fwd.scan →
    s.fwdAt (stashBase + (s.fwd.scan - 32768)) = some e → e.dest = fl.dest → (e.static = false ∨ fl.static = true) →
    Completes (.agingScanStep) s fun t =>
      t.fwdAt (stashBase + (s.fwd.scan - 32768)) = none ∧
      (∀ k, k ≠ stashBase + (s.fwd.scan - 32768) → t.fwdAt k = s.fwdAt k) ∧
      t.fwd = { s.fwd with entries := t.fwd.entries, scan := (s.fwd.scan + 1) % 33024, flush := some { fl with left := fl.left - 1, deleted := fl.deleted + 1 } } ∧
      RegsKept [R.MEM_INJ] s t ∧ OnlyChanges [.regs, .fwd, .mem] s t)

/-- The commands of chapter 13 (R385 to R402). -/
def Obligations.ForwardingCommandsReadAndChangeTheTable : Prop :=
  (∀ (s : State) (p : Pkt) (i : Nat) (e : FwdEntry), Taken 0x3101 p s → p.length = 2 → p.target = 0 →
    leAt p.bytes 0 2 ≤ 4095 → s.mem.parity = [] → s.fwdFind (leAt p.bytes 0 2) (beAt p.bytes 2 6) = some i →
    s.fwdAt i = some e →
    Ends (.fwdSearch p) 0x3101 p s ⟨stDone, 0, e.record⟩ fun u =>
      u.fwd = s.fwd ∧ OnlyChanges [] (s.afterTake p) u) ∧
  (∀ (s : State) (p : Pkt), Taken 0x3101 p s → p.length = 2 → p.target = 0 → leAt p.bytes 0 2 ≤ 4095 →
    s.mem.parity = [] → s.fwdFind (leAt p.bytes 0 2) (beAt p.bytes 2 6) = none →
    Ends (.fwdSearch p) 0x3101 p s ⟨stDone, 0, []⟩ fun u =>
      u.fwd = s.fwd ∧ OnlyChanges [] (s.afterTake p) u) ∧
  (∀ (s : State) (p : Pkt) (i : Nat) (e : FwdEntry), Taken 0x3101 p s → p.length = 2 → p.target = 0 →
    leAt p.bytes 0 2 ≤ 4095 → (s.fwdLookup (leAt p.bytes 0 2) (beAt p.bytes 2 6)).2 = some (i, e) →
    Ends (.fwdSearch p) 0x3101 p s ⟨stDone, 0, e.record⟩ fun u =>
      u.fwd.entries = s.fwd.entries ∧ RegsKeptIn [fun _ => R.MEM_SAT, R.MEM_UE_LOG_B] s u ∧
      OnlyChanges [.regs, .cnt, .arb, .fwd, .mem] (s.afterTake p) u) ∧
  (∀ (s : State) (p : Pkt), Taken 0x3101 p s → p.length = 2 → p.target = 0 → leAt p.bytes 0 2 ≤ 4095 →
    (s.fwdLookup (leAt p.bytes 0 2) (beAt p.bytes 2 6)).2 = none →
    Ends (.fwdSearch p) 0x3101 p s ⟨stDone, 0, []⟩ fun u =>
      u.fwd.entries = s.fwd.entries ∧ RegsKeptIn [fun _ => R.MEM_SAT, R.MEM_UE_LOG_B] s u ∧
      OnlyChanges [.regs, .cnt, .arb, .fwd, .mem] (s.afterTake p) u) ∧
  (∀ (s : State) (p : Pkt), Taken 0x3101 p s → p.length = 2 → p.target = 0 → 4095 < leAt p.bytes 0 2 →
    Ends (.fwdSearch p) 0x3101 p s ⟨stBadParam, 0, []⟩ fun u =>
      OnlyChanges [] (s.afterTake p) u) ∧
  (∀ (s : State) (p : Pkt), Taken 0x3102 p s → p.length = 2 → p.target = 0 → (p.w 1 = 0 ∨ 255 < p.w 1) →
    Ends (.fwdNext p) 0x3102 p s ⟨stBadParam, 0, []⟩ fun u =>
      OnlyChanges [] (s.afterTake p) u) ∧
  (∀ (s : State) (p : Pkt), Taken 0x3102 p s → p.length = 2 → p.target = 0 → p.w 0 = 0 → 1 ≤ p.w 1 → p.w 1 ≤ 255 →
    (List.range 4).find? (fun i => (s.walkAt i).isNone) = none →
    Ends (.fwdNext p) 0x3102 p s ⟨stBusy, 0, []⟩ fun u =>
      OnlyChanges [] (s.afterTake p) u) ∧
  (∀ (s : State) (p : Pkt), Taken 0x3102 p s → p.length = 2 → p.target = 0 → p.w 0 ≠ 0 → 1 ≤ p.w 1 → p.w 1 ≤ 255 →
    (bit (p.w 0) 29 = false ∨ bitsOf (p.w 0) 28 18 ≠ 0 ∨ s.walkAt (p.w 0 / 2 ^ 30) = none) →
    Ends (.fwdNext p) 0x3102 p s ⟨stBadTarget, 0, []⟩ fun u =>
      OnlyChanges [] (s.afterTake p) u) ∧
  (∀ (s : State) (p : Pkt) (w : Walk) (n q : Nat), Taken 0x3102 p s → p.length = 2 → p.target = 0 →
    bit (p.w 0) 29 = true → bitsOf (p.w 0) 28 18 = 0 → 1 ≤ p.w 1 → p.w 1 ≤ 255 →
    s.walkAt (p.w 0 / 2 ^ 30) = some w → p.w 1 < w.carry.length + (s.entriesFrom (p.w 0 % 2 ^ 18)).length →
    n = p.w 1 - w.carry.length → q = (((s.entriesFrom (p.w 0 % 2 ^ 18)).drop n).head?.map (·.1)).getD 131328 →
    Ends (.fwdNext p) 0x3102 p s ⟨stDone, 0,
      leBytes 4 (p.w 0 / 2 ^ 30 * 2 ^ 30 + 2 ^ 29 + q) ++ ((w.carry.take (p.w 1)).map (·.record)).flatten ++
      (((s.entriesFrom (p.w 0 % 2 ^ 18)).take n).map (·.2.record)).flatten⟩ fun u =>
      u.walkAt (p.w 0 / 2 ^ 30) = some ⟨q, w.carry.drop (p.w 1), s.tick.count.toNat⟩ ∧
      (∀ k < 4, k ≠ p.w 0 / 2 ^ 30 → u.walkAt k = s.walkAt k) ∧ u.fwd = { s.fwd with walks := u.fwd.walks } ∧
      OnlyChanges [.fwd] (s.afterTake p) u) ∧
  (∀ (s : State) (p : Pkt) (i : Nat), Taken 0x3102 p s → p.length = 2 → p.target = 0 → p.w 0 = 0 → 1 ≤ p.w 1 →
    p.w 1 ≤ 255 → (List.range 4).find? (fun i => (s.walkAt i).isNone) = some i → (s.entriesFrom 0).length ≤ p.w 1 →
    Ends (.fwdNext p) 0x3102 p s ⟨stDone, 0,
      leBytes 4 0xFFFFFFFF ++ ((s.entriesFrom 0).map (·.2.record)).flatten⟩ fun u =>
      u.walkAt i = none ∧ (∀ k < 4, k ≠ i → u.walkAt k = s.walkAt k) ∧ u.fwd = { s.fwd with walks := u.fwd.walks } ∧
      OnlyChanges [.fwd] (s.afterTake p) u) ∧
  (∀ (s : State) (p : Pkt) (i q : Nat) (e : FwdEntry) (r : List (Nat × FwdEntry)), Taken 0x3102 p s → p.length = 2 →
    p.target = 0 → p.w 0 = 0 → 1 ≤ p.w 1 → p.w 1 ≤ 255 →
    (List.range 4).find? (fun i => (s.walkAt i).isNone) = some i → (s.entriesFrom 0).drop (p.w 1) = (q, e) :: r →
    Ends (.fwdNext p) 0x3102 p s ⟨stDone, 0,
      leBytes 4 (i * 2 ^ 30 + 2 ^ 29 + q) ++ (((s.entriesFrom 0).take (p.w 1)).map (·.2.record)).flatten⟩ fun u =>
      u.walkAt i = some ⟨q, [], s.tick.count.toNat⟩ ∧ (∀ k < 4, k ≠ i → u.walkAt k = s.walkAt k) ∧
      u.fwd = { s.fwd with walks := u.fwd.walks } ∧ OnlyChanges [.fwd] (s.afterTake p) u) ∧
  (∀ (s : State) (p : Pkt) (w : Walk), Taken 0x3102 p s → p.length = 2 → p.target = 0 → bit (p.w 0) 29 = true →
    bitsOf (p.w 0) 28 18 = 0 → 1 ≤ p.w 1 → p.w 1 ≤ 255 → s.walkAt (p.w 0 / 2 ^ 30) = some w →
    w.carry.length + (s.entriesFrom (p.w 0 % 2 ^ 18)).length ≤ p.w 1 →
    Ends (.fwdNext p) 0x3102 p s ⟨stDone, 0,
      leBytes 4 0xFFFFFFFF ++ (w.carry.map (·.record)).flatten ++
      ((s.entriesFrom (p.w 0 % 2 ^ 18)).map (·.2.record)).flatten⟩ fun u =>
      u.walkAt (p.w 0 / 2 ^ 30) = none ∧ u.fwd = { s.fwd with walks := u.fwd.walks } ∧
      OnlyChanges [.fwd] (s.afterTake p) u) ∧
  (∀ (s : State) (p : Pkt) (i : Nat), Taken 0x3103 p s → p.length = 4 → p.target = 0 → s.fwd.reqs = [] →
    leAt p.bytes 6 2 ≤ 4095 → ¬(96 ≤ leAt p.bytes 8 1 ∧ leAt p.bytes 8 1 ≤ 127) →
    (leAt p.bytes 8 1 < 128 ∨ bit (leAt p.bytes 9 1) 0 = true) → bitsOf (leAt p.bytes 9 1) 3 2 = 0 →
    s.fwdFind (leAt p.bytes 6 2) (beAt p.bytes 0 6) = none →
    s.freeWay (bucketsOf (leAt p.bytes 6 2) (beAt p.bytes 0 6)).1 = some i →
    Ends (.fwdInsert p) 0x3103 p s ⟨stDone, 0, []⟩ fun u =>
      u.fwdAt i = some { mac := beAt p.bytes 0 6, fid := leAt p.bytes 6 2, dest := leAt p.bytes 8 1, static := bit (leAt p.bytes 9 1) 0, src := destSource (leAt p.bytes 8 1), ts := s.fwd.now, mt := s.fwd.ms, gen := s.fwd.gen } ∧
      (∀ k, k ≠ i → u.fwdAt k = s.fwdAt k) ∧
      u.fwd = { s.fwd with entries := u.fwd.entries, gen := (s.fwd.gen + 1) % 65536 } ∧ RegsKept [R.MEM_INJ] s u ∧
      OnlyChanges [.fwd, .mem, .regs] (s.afterTake p) u) ∧
  (∀ (s : State) (p : Pkt) (i : Nat) (e : FwdEntry), Taken 0x3103 p s → p.length = 4 → p.target = 0 →
    s.fwd.reqs = [] → leAt p.bytes 6 2 ≤ 4095 → ¬(96 ≤ leAt p.bytes 8 1 ∧ leAt p.bytes 8 1 ≤ 127) →
    (leAt p.bytes 8 1 < 128 ∨ bit (leAt p.bytes 9 1) 0 = true) → bitsOf (leAt p.bytes 9 1) 3 2 = 0 →
    s.fwdFind (leAt p.bytes 6 2) (beAt p.bytes 0 6) = some i → s.fwdAt i = some e →
    Ends (.fwdInsert p) 0x3103 p s ⟨stDone, 1, []⟩ fun u =>
      u.fwdAt i = some { e with dest := leAt p.bytes 8 1, static := bit (leAt p.bytes 9 1) 0, lock := false, moves := 0, mt := s.fwd.ms, ts := s.fwd.now, src := destSource (leAt p.bytes 8 1) } ∧
      (∀ k, k ≠ i → u.fwdAt k = s.fwdAt k) ∧ u.fwd = { s.fwd with entries := u.fwd.entries } ∧
      RegsKept [R.MEM_INJ] s u ∧ OnlyChanges [.fwd, .mem, .regs] (s.afterTake p) u) ∧
  (∀ (s : State) (p : Pkt) (i : Nat), Taken 0x3104 p s → p.length = 2 → p.target = 0 → s.fwd.reqs = [] →
    leAt p.bytes 0 2 ≤ 4095 → s.fwdFind (leAt p.bytes 0 2) (beAt p.bytes 2 6) = some i → i < stashBase →
    s.stashUsed = [] →
    Ends (.fwdDelete p) 0x3104 p s ⟨stDone, 0, []⟩ fun u =>
      u.fwdAt i = none ∧ (∀ k, k ≠ i → u.fwdAt k = s.fwdAt k) ∧ u.fwd = { s.fwd with entries := u.fwd.entries } ∧
      RegsKept [R.MEM_INJ] s u ∧ OnlyChanges [.fwd, .mem, .regs] (s.afterTake p) u) ∧
  (∀ (s : State) (p : Pkt), Taken 0x3105 p s → p.length = 1 → p.target = 0 → s.fwd.reqs = [] →
    ¬(96 ≤ leAt p.bytes 0 1 ∧ leAt p.bytes 0 1 ≤ 127) → leAt p.bytes 1 1 ≤ 1 → leAt p.bytes 2 2 = 0 →
    s.fwd.flush = none →
    Accepts (.flushPort p) 0x3105 p s 0 fun u =>
      u.fwd = { s.fwd with flush := some { dest := leAt p.bytes 0 1, static := leAt p.bytes 1 1 == 1, left := 33024, func := p.func.val, id := s.cmdId } } ∧
      OnlyChanges [.fwd] (s.afterTake p) u) ∧
  (∀ (s : State) (fl : Flush), s.fwd.flush = some fl → fl.left = 0 → (s.source 0x0082).queue.length < 16 →
    Completes (.flushComplete) s fun t =>
      t.fwd = { s.fwd with flush := none } ∧
      (t.source 0x0082).queue = (s.source 0x0082).queue ++ [⟨3, 0x0D04, 3, evPayload [(1, fl.dest), (4,
        fl.deleted)], s.arb.raised⟩] ∧
      OnlyChanges [.freeCtr, .arb, .fns, .fwd] s t) ∧
  (∀ (s : State) (p : Pkt), Taken 0x3106 p s → p.length = 2 → p.target = 0 → s.fwd.reqs = [] →
    leAt p.bytes 0 1 = 0 → leAt p.bytes 1 1 = 0 → leAt p.bytes 2 2 ≤ 4095 →
    Ends (.floodSet p) 0x3106 p s ⟨stDone, 0, []⟩ fun u =>
      u.floodSet (leAt p.bytes 2 2) = p.w 1 ∧ (∀ k, k ≠ leAt p.bytes 2 2 → u.floodSet k = s.floodSet k) ∧
      u.fwd = { s.fwd with flood := u.fwd.flood } ∧ OnlyChanges [.fwd] (s.afterTake p) u) ∧
  (∀ (s : State) (p : Pkt), Taken 0x3106 p s → p.length = 2 → p.target = 0 → s.fwd.reqs = [] →
    leAt p.bytes 0 1 = 1 → leAt p.bytes 1 1 = 0 → leAt p.bytes 2 2 ≤ 127 →
    Ends (.floodSet p) 0x3106 p s ⟨stDone, 0, []⟩ fun u =>
      u.portSet (leAt p.bytes 2 2) = p.w 1 ∧ (∀ k, k ≠ leAt p.bytes 2 2 → u.portSet k = s.portSet k) ∧
      u.fwd = { s.fwd with ports := u.fwd.ports } ∧ OnlyChanges [.fwd] (s.afterTake p) u) ∧
  (∀ (s : State) (p : Pkt), Taken 0x3107 p s → p.length = 3 → p.target = 0 →
    Ends (.fwdCfg p) 0x3107 p s ⟨stDone, 0, []⟩ fun u =>
      u.rd R.FWD_CFG = s.rwAfter R.FWD_CFG (p.w 0) ∧ u.rd R.FWD_AGE_CFG = s.rwAfter R.FWD_AGE_CFG (p.w 1) ∧
      u.rd R.FWD_MOVE_CFG = s.rwAfter R.FWD_MOVE_CFG (p.w 2) ∧
      RegsKept [R.FWD_CFG, R.FWD_AGE_CFG, R.FWD_MOVE_CFG] s u ∧ OnlyChanges [.regs] (s.afterTake p) u) ∧
  (∀ (s : State) (p : Pkt), Taken 0x3107 p s → p.length = 1 → 1 ≤ p.target.toNat → p.target.toNat ≤ 28 →
    Ends (.fwdCfg p) 0x3107 p s ⟨stDone, 0, []⟩ fun u =>
      u.rd (R.FWD_PORT_CFG (p.target.toNat - 1)) = s.rwAfter (R.FWD_PORT_CFG (p.target.toNat - 1)) (p.w 0) ∧
      RegsKept [R.FWD_PORT_CFG (p.target.toNat - 1)] s u ∧ OnlyChanges [.regs] (s.afterTake p) u) ∧
  (∀ (s : State) (p : Pkt), Taken 0x3103 p s → p.length = 4 → p.target = 0 → s.fwd.reqs = [] →
    (4095 < leAt p.bytes 6 2 ∨ (96 ≤ leAt p.bytes 8 1 ∧ leAt p.bytes 8 1 ≤ 127) ∨ (128 ≤ leAt p.bytes 8 1 ∧
      bit (leAt p.bytes 9 1) 0 = false) ∨ bitsOf (leAt p.bytes 9 1) 3 2 ≠ 0) →
    Ends (.fwdInsert p) 0x3103 p s ⟨stBadParam, 0, []⟩ fun u =>
      OnlyChanges [] (s.afterTake p) u) ∧
  (∀ (s : State) (p : Pkt) (i : Nat), Taken 0x3103 p s → p.length = 4 → p.target = 0 → s.fwd.reqs = [] →
    leAt p.bytes 6 2 ≤ 4095 → ¬(96 ≤ leAt p.bytes 8 1 ∧ leAt p.bytes 8 1 ≤ 127) →
    (leAt p.bytes 8 1 < 128 ∨ bit (leAt p.bytes 9 1) 0 = true) → bitsOf (leAt p.bytes 9 1) 3 2 = 0 →
    s.fwdFind (leAt p.bytes 6 2) (beAt p.bytes 0 6) = none →
    s.freeWay (bucketsOf (leAt p.bytes 6 2) (beAt p.bytes 0 6)).1 = none →
    s.freeWay (bucketsOf (leAt p.bytes 6 2) (beAt p.bytes 0 6)).2 = some i →
    Ends (.fwdInsert p) 0x3103 p s ⟨stDone, 0, []⟩ fun u =>
      u.fwdAt i = some { mac := beAt p.bytes 0 6, fid := leAt p.bytes 6 2, dest := leAt p.bytes 8 1, static := bit (leAt p.bytes 9 1) 0, src := destSource (leAt p.bytes 8 1), ts := s.fwd.now, mt := s.fwd.ms, gen := s.fwd.gen } ∧
      (∀ k, k ≠ i → u.fwdAt k = s.fwdAt k) ∧
      u.fwd = { s.fwd with entries := u.fwd.entries, gen := (s.fwd.gen + 1) % 65536 } ∧ RegsKept [R.MEM_INJ] s u ∧
      OnlyChanges [.fwd, .mem, .regs] (s.afterTake p) u) ∧
  (∀ (s : State) (p : Pkt) (m : Nat × Nat) (ms : List (Nat × Nat)), Taken 0x3103 p s → p.length = 4 → p.target = 0 →
    s.fwd.reqs = [] → leAt p.bytes 6 2 ≤ 4095 → ¬(96 ≤ leAt p.bytes 8 1 ∧ leAt p.bytes 8 1 ≤ 127) →
    (leAt p.bytes 8 1 < 128 ∨ bit (leAt p.bytes 9 1) 0 = true) → bitsOf (leAt p.bytes 9 1) 3 2 = 0 →
    s.fwdFind (leAt p.bytes 6 2) (beAt p.bytes 0 6) = none →
    s.freeWay (bucketsOf (leAt p.bytes 6 2) (beAt p.bytes 0 6)).1 = none →
    s.freeWay (bucketsOf (leAt p.bytes 6 2) (beAt p.bytes 0 6)).2 = none →
    (s.findPath s.maxKicks (bucketPlaces (bucketsOf (leAt p.bytes 6 2) (beAt p.bytes 0 6)).1 ++
      bucketPlaces (bucketsOf (leAt p.bytes 6 2) (beAt p.bytes 0 6)).2) ((bucketPlaces (bucketsOf (leAt p.bytes 6 2) (beAt p.bytes 0 6)).1 ++
      bucketPlaces (bucketsOf (leAt p.bytes 6 2) (beAt p.bytes 0 6)).2).map (fun q => [q]))) = some ms →
    s.movesAllowed ms = true → ms.getLast? = some m →
    Ends (.fwdInsert p) 0x3103 p s ⟨stDone, 0, []⟩ fun u =>
      u.fwdAt m.1 = some { mac := beAt p.bytes 0 6, fid := leAt p.bytes 6 2, dest := leAt p.bytes 8 1, static := bit (leAt p.bytes 9 1) 0, src := destSource (leAt p.bytes 8 1), ts := s.fwd.now, mt := s.fwd.ms, gen := s.fwd.gen } ∧
      (∀ k, (∀ x ∈ ms, k ≠ x.1 ∧ k ≠ x.2) → u.fwdAt k = s.fwdAt k) ∧
      u.fwd = { s.fwd with entries := u.fwd.entries, walks := u.fwd.walks, gen := (s.fwd.gen + 1) % 65536 } ∧
      RegsKept [R.MEM_INJ] s u ∧ OnlyChanges [.regs, .cnt, .arb, .fwd, .mem] (s.afterTake p) u) ∧
  (∀ (s : State) (p : Pkt) (i : Nat), Taken 0x3103 p s → p.length = 4 → p.target = 0 → s.fwd.reqs = [] →
    leAt p.bytes 6 2 ≤ 4095 → ¬(96 ≤ leAt p.bytes 8 1 ∧ leAt p.bytes 8 1 ≤ 127) →
    (leAt p.bytes 8 1 < 128 ∨ bit (leAt p.bytes 9 1) 0 = true) → bitsOf (leAt p.bytes 9 1) 3 2 = 0 →
    s.fwdFind (leAt p.bytes 6 2) (beAt p.bytes 0 6) = none →
    s.freeWay (bucketsOf (leAt p.bytes 6 2) (beAt p.bytes 0 6)).1 = none →
    s.freeWay (bucketsOf (leAt p.bytes 6 2) (beAt p.bytes 0 6)).2 = none →
    (s.findPath s.maxKicks (bucketPlaces (bucketsOf (leAt p.bytes 6 2) (beAt p.bytes 0 6)).1 ++
      bucketPlaces (bucketsOf (leAt p.bytes 6 2) (beAt p.bytes 0 6)).2) ((bucketPlaces (bucketsOf (leAt p.bytes 6 2) (beAt p.bytes 0 6)).1 ++
      bucketPlaces (bucketsOf (leAt p.bytes 6 2) (beAt p.bytes 0 6)).2).map (fun q => [q]))) = none →
    s.freeStash = some i →
    Ends (.fwdInsert p) 0x3103 p s ⟨stDone, 0, []⟩ fun u =>
      u.fwdAt i = some { mac := beAt p.bytes 0 6, fid := leAt p.bytes 6 2, dest := leAt p.bytes 8 1, static := bit (leAt p.bytes 9 1) 0, src := destSource (leAt p.bytes 8 1), ts := s.fwd.now, mt := s.fwd.ms, gen := s.fwd.gen, stashNo := s.fwd.stashNo + 1 } ∧
      (∀ k, k ≠ i → u.fwdAt k = s.fwdAt k) ∧
      u.fwd = { s.fwd with entries := u.fwd.entries, stashNo := s.fwd.stashNo + 1, gen := (s.fwd.gen + 1) % 65536 } ∧
      RegsKept [R.MEM_INJ] s u ∧ OnlyChanges [.regs, .cnt, .arb, .fwd, .mem] (s.afterTake p) u) ∧
  (∀ (s : State) (p : Pkt), Taken 0x3103 p s → p.length = 4 → p.target = 0 → s.fwd.reqs = [] →
    leAt p.bytes 6 2 ≤ 4095 → ¬(96 ≤ leAt p.bytes 8 1 ∧ leAt p.bytes 8 1 ≤ 127) →
    (leAt p.bytes 8 1 < 128 ∨ bit (leAt p.bytes 9 1) 0 = true) → bitsOf (leAt p.bytes 9 1) 3 2 = 0 →
    s.fwdFind (leAt p.bytes 6 2) (beAt p.bytes 0 6) = none →
    s.freeWay (bucketsOf (leAt p.bytes 6 2) (beAt p.bytes 0 6)).1 = none →
    s.freeWay (bucketsOf (leAt p.bytes 6 2) (beAt p.bytes 0 6)).2 = none →
    (s.findPath s.maxKicks (bucketPlaces (bucketsOf (leAt p.bytes 6 2) (beAt p.bytes 0 6)).1 ++
      bucketPlaces (bucketsOf (leAt p.bytes 6 2) (beAt p.bytes 0 6)).2) ((bucketPlaces (bucketsOf (leAt p.bytes 6 2) (beAt p.bytes 0 6)).1 ++
      bucketPlaces (bucketsOf (leAt p.bytes 6 2) (beAt p.bytes 0 6)).2).map (fun q => [q]))) = none →
    s.freeStash = none → s.count C.FWD_TABLE_FULL < 0xFFFFFFFE →
    Ends (.fwdInsert p) 0x3103 p s ⟨stNoResource, 0, []⟩ fun u =>
      u.fwd = { s.fwd with fullTold := true } ∧ u.count C.FWD_TABLE_FULL = s.count C.FWD_TABLE_FULL + 1 ∧
      RegsKept [] s u ∧ OnlyChanges [.regs, .cnt, .arb, .fwd, .mem] (s.afterTake p) u) ∧
  (∀ (s : State) (p : Pkt), s.fwd.reqs ≠ [] →
    exec (.fwdInsert p) s = .next (s)) ∧
  (∀ (s : State) (p : Pkt), s.fwd.reqs ≠ [] →
    exec (.fwdDelete p) s = .next (s)) ∧
  (∀ (s : State) (p : Pkt), s.fwd.reqs ≠ [] →
    exec (.flushPort p) s = .next (s)) ∧
  (∀ (s : State) (p : Pkt), s.fwd.reqs ≠ [] →
    exec (.floodSet p) s = .next (s)) ∧
  (∀ (s : State) (p : Pkt), Taken 0x3104 p s → p.length = 2 → p.target = 0 → s.fwd.reqs = [] →
    4095 < leAt p.bytes 0 2 →
    Ends (.fwdDelete p) 0x3104 p s ⟨stBadParam, 0, []⟩ fun u =>
      OnlyChanges [] (s.afterTake p) u) ∧
  (∀ (s : State) (p : Pkt), Taken 0x3104 p s → p.length = 2 → p.target = 0 → s.fwd.reqs = [] →
    leAt p.bytes 0 2 ≤ 4095 → s.fwdFind (leAt p.bytes 0 2) (beAt p.bytes 2 6) = none →
    Ends (.fwdDelete p) 0x3104 p s ⟨stBadTarget, 0, []⟩ fun u =>
      OnlyChanges [] (s.afterTake p) u) ∧
  (∀ (s : State) (p : Pkt) (i k : Nat) (z : FwdEntry), Taken 0x3104 p s → p.length = 2 → p.target = 0 →
    s.fwd.reqs = [] → leAt p.bytes 0 2 ≤ 4095 → s.fwdFind (leAt p.bytes 0 2) (beAt p.bytes 2 6) = some i →
    i < stashBase → (s.setFwdAt i none).stashFor (i / 4) = some k → s.fwdAt k = some z →
    s.movesAllowed [(k, i)] = true →
    Ends (.fwdDelete p) 0x3104 p s ⟨stDone, 0, []⟩ fun u =>
      u.fwdAt i = some { z with stashNo := 0 } ∧ u.fwdAt k = none ∧ (∀ j, j ≠ i → j ≠ k → u.fwdAt j = s.fwdAt j) ∧
      u.fwd = { s.fwd with entries := u.fwd.entries, walks := u.fwd.walks } ∧ RegsKept [R.MEM_INJ] s u ∧
      OnlyChanges [.fwd, .mem, .regs] (s.afterTake p) u) ∧
  (∀ (s : State) (p : Pkt) (i : Nat), Taken 0x3104 p s → p.length = 2 → p.target = 0 → s.fwd.reqs = [] →
    leAt p.bytes 0 2 ≤ 4095 → s.fwdFind (leAt p.bytes 0 2) (beAt p.bytes 2 6) = some i →
    (stashBase ≤ i ∨ (s.setFwdAt i none).stashFor (i / 4) = none) →
    Ends (.fwdDelete p) 0x3104 p s ⟨stDone, 0, []⟩ fun u =>
      u.fwdAt i = none ∧ (∀ k, k ≠ i → u.fwdAt k = s.fwdAt k) ∧ u.fwd = { s.fwd with entries := u.fwd.entries } ∧
      RegsKept [R.MEM_INJ] s u ∧ OnlyChanges [.fwd, .mem, .regs] (s.afterTake p) u) ∧
  (∀ (s : State) (p : Pkt), Taken 0x3105 p s → p.length = 1 → p.target = 0 → s.fwd.reqs = [] →
    ((96 ≤ leAt p.bytes 0 1 ∧ leAt p.bytes 0 1 ≤ 127) ∨ 1 < leAt p.bytes 1 1 ∨ leAt p.bytes 2 2 ≠ 0) →
    Ends (.flushPort p) 0x3105 p s ⟨stBadParam, 0, []⟩ fun u =>
      OnlyChanges [] (s.afterTake p) u) ∧
  (∀ (s : State) (p : Pkt), Taken 0x3105 p s → p.length = 1 → p.target = 0 → s.fwd.reqs = [] →
    ¬(96 ≤ leAt p.bytes 0 1 ∧ leAt p.bytes 0 1 ≤ 127) → leAt p.bytes 1 1 ≤ 1 → leAt p.bytes 2 2 = 0 →
    s.fwd.flush ≠ none →
    Ends (.flushPort p) 0x3105 p s ⟨stBusy, 0, []⟩ fun u =>
      OnlyChanges [] (s.afterTake p) u) ∧
  (∀ (s : State), s.fwd.flush = none →
    exec (.flushComplete) s = .next (s)) ∧
  (∀ (s : State) (fl : Flush), s.fwd.flush = some fl → fl.left ≠ 0 →
    exec (.flushComplete) s = .next (s)) ∧
  (∀ (s : State) (p : Pkt), Taken 0x3106 p s → p.length = 2 → p.target = 0 → s.fwd.reqs = [] →
    (1 < leAt p.bytes 0 1 ∨ leAt p.bytes 1 1 ≠ 0 ∨ (leAt p.bytes 0 1 = 0 ∧
      4095 < leAt p.bytes 2 2) ∨ (leAt p.bytes 0 1 = 1 ∧ 127 < leAt p.bytes 2 2)) →
    Ends (.floodSet p) 0x3106 p s ⟨stBadParam, 0, []⟩ fun u =>
      OnlyChanges [] (s.afterTake p) u) ∧
  (∀ (s : State) (p : Pkt), Taken 0x3107 p s → 28 < p.target.toNat → p.length = 1 →
    Ends (.fwdCfg p) 0x3107 p s ⟨stBadTarget, 0, []⟩ fun u =>
      OnlyChanges [] (s.afterTake p) u) ∧
  (∀ (s : State) (p : Pkt), Taken 0x3101 p s → p.length = 2 → p.target ≠ 0 →
    Ends (.fwdSearch p) 0x3101 p s ⟨stBadTarget, 0, []⟩ fun u =>
      OnlyChanges [] (s.afterTake p) u) ∧
  (∀ (s : State) (p : Pkt), Taken 0x3102 p s → p.length = 2 → p.target ≠ 0 →
    Ends (.fwdNext p) 0x3102 p s ⟨stBadTarget, 0, []⟩ fun u =>
      OnlyChanges [] (s.afterTake p) u) ∧
  (∀ (s : State) (p : Pkt), s.fwd.reqs = [] → Taken 0x3103 p s → p.length = 4 → p.target ≠ 0 →
    Ends (.fwdInsert p) 0x3103 p s ⟨stBadTarget, 0, []⟩ fun u =>
      OnlyChanges [] (s.afterTake p) u) ∧
  (∀ (s : State) (p : Pkt), s.fwd.reqs = [] → Taken 0x3104 p s → p.length = 2 → p.target ≠ 0 →
    Ends (.fwdDelete p) 0x3104 p s ⟨stBadTarget, 0, []⟩ fun u =>
      OnlyChanges [] (s.afterTake p) u) ∧
  (∀ (s : State) (p : Pkt), s.fwd.reqs = [] → Taken 0x3105 p s → p.length = 1 → p.target ≠ 0 →
    Ends (.flushPort p) 0x3105 p s ⟨stBadTarget, 0, []⟩ fun u =>
      OnlyChanges [] (s.afterTake p) u) ∧
  (∀ (s : State) (p : Pkt), s.fwd.reqs = [] → Taken 0x3106 p s → p.length = 2 → p.target ≠ 0 →
    Ends (.floodSet p) 0x3106 p s ⟨stBadTarget, 0, []⟩ fun u =>
      OnlyChanges [] (s.afterTake p) u) ∧
  (∀ (s : State) (w : Fin 4) (x : Walk), s.walkAt w.val = some x →
    48000 ≤ (s.tick.count - BitVec.ofNat 48 x.at_).toNat →
    Completes (.walkTimeout w) s fun t =>
      t.walkAt w.val = none ∧ (∀ k < 4, k ≠ w.val → t.walkAt k = s.walkAt k) ∧
      t.fwd = { s.fwd with walks := t.fwd.walks } ∧ OnlyChanges [.fwd] s t) ∧
  (∀ (s : State) (w : Fin 4),
    (∀ x ∈ (s.walkAt w.val).toList, (s.tick.count - BitVec.ofNat 48 x.at_).toNat < 48000) →
    exec (.walkTimeout w) s = .next (s)) ∧
  (∀ (s : State),
    Completes (.fwdStatSnap) s fun t =>
      (∀ x ∈ fwdCtrs, t.bankAt x.off = s.count x % 2 ^ 32) ∧ OnlyChanges [.bank] s t)

/-- The device-to-host rows of chapter 14, the pops, HOST_DMA_ERROR on a write, HOST_STAT_SNAP (R416 to R431). -/
def Obligations.DeviceToHostQueuesDeliverFrames : Prop :=
  (∀ (s : State) (p : Pkt), Taken 0x3203 p s → p.length = 4 → p.target.toNat < 64 → p.w 2 % 64 = 0 →
    changesEnabled (s.rd (R.HOST_DQ_CFG p.target.toNat)).toNat (s.rd (R.HOST_DQ_BASE_LO p.target.toNat)).toNat (s.rd (R.HOST_DQ_BASE_HI p.target.toNat)).toNat (p.w 0) (p.w 2) (p.w 3) =
      false →
    bit (p.w 0) 31 = true →
    Ends (.hostDq p) 0x3203 p s ⟨stDone, 0, []⟩ fun u =>
      u.rd (R.HOST_DQ_CFG p.target.toNat) = s.rwAfter (R.HOST_DQ_CFG p.target.toNat) (p.w 0) ∧
      u.rd (R.HOST_DQ_HOLD p.target.toNat) = s.rwAfter (R.HOST_DQ_HOLD p.target.toNat) (p.w 1) ∧
      u.rd (R.HOST_DQ_BASE_LO p.target.toNat) = s.rwAfter (R.HOST_DQ_BASE_LO p.target.toNat) (p.w 2) ∧
      u.rd (R.HOST_DQ_BASE_HI p.target.toNat) = s.rwAfter (R.HOST_DQ_BASE_HI p.target.toNat) (p.w 3) ∧
      u.dq p.target.toNat = { s.dq p.target.toNat with commits := (if bit (s.rd (R.HOST_DQ_CFG p.target.toNat)).toNat 31 then (s.dq p.target.toNat).commits else 0) } ∧
      (∀ k < 64, k ≠ p.target.toNat → u.dq k = s.dq k) ∧
      RegsKept [R.HOST_DQ_CFG p.target.toNat, R.HOST_DQ_HOLD p.target.toNat, R.HOST_DQ_BASE_LO p.target.toNat,
        R.HOST_DQ_BASE_HI p.target.toNat] s u ∧
      OnlyChanges [.chan, .regs] (s.afterTake p) u) ∧
  (∀ (s : State) (p : Pkt), Taken 0x3203 p s → p.length = 4 → p.target.toNat < 64 → p.w 2 % 64 = 0 →
    changesEnabled (s.rd (R.HOST_DQ_CFG p.target.toNat)).toNat (s.rd (R.HOST_DQ_BASE_LO p.target.toNat)).toNat (s.rd (R.HOST_DQ_BASE_HI p.target.toNat)).toNat (p.w 0) (p.w 2) (p.w 3) =
      false →
    bit (p.w 0) 31 = false → (s.dq p.target.toNat).front = none →
    Ends (.hostDq p) 0x3203 p s ⟨stDone, 0, []⟩ fun u =>
      u.rd (R.HOST_DQ_CFG p.target.toNat) = s.rwAfter (R.HOST_DQ_CFG p.target.toNat) (p.w 0) ∧
      u.rd (R.HOST_DQ_HOLD p.target.toNat) = s.rwAfter (R.HOST_DQ_HOLD p.target.toNat) (p.w 1) ∧
      u.rd (R.HOST_DQ_BASE_LO p.target.toNat) = s.rwAfter (R.HOST_DQ_BASE_LO p.target.toNat) (p.w 2) ∧
      u.rd (R.HOST_DQ_BASE_HI p.target.toNat) = s.rwAfter (R.HOST_DQ_BASE_HI p.target.toNat) (p.w 3) ∧
      RegsKept [R.HOST_DQ_CFG p.target.toNat, R.HOST_DQ_HOLD p.target.toNat, R.HOST_DQ_BASE_LO p.target.toNat,
        R.HOST_DQ_BASE_HI p.target.toNat] s u ∧
      OnlyChanges [.regs] (s.afterTake p) u) ∧
  (∀ (s : State) (p : Pkt) (f : Frame), Taken 0x3203 p s → p.length = 4 → p.target.toNat < 64 → p.w 2 % 64 = 0 →
    changesEnabled (s.rd (R.HOST_DQ_CFG p.target.toNat)).toNat (s.rd (R.HOST_DQ_BASE_LO p.target.toNat)).toNat (s.rd (R.HOST_DQ_BASE_HI p.target.toNat)).toNat (p.w 0) (p.w 2) (p.w 3) =
      false →
    bit (p.w 0) 31 = false → (s.dq p.target.toNat).front = some f → s.isMulti f.buf = false →
    s.owner f.buf = agD2h → s.count (C.DQ_DISABLED_DROP p.target.toNat) < 0xFFFFFFFE →
    Ends (.hostDq p) 0x3203 p s ⟨stDone, 0, []⟩ fun u =>
      u.rd (R.HOST_DQ_CFG p.target.toNat) = s.rwAfter (R.HOST_DQ_CFG p.target.toNat) (p.w 0) ∧
      u.rd (R.HOST_DQ_HOLD p.target.toNat) = s.rwAfter (R.HOST_DQ_HOLD p.target.toNat) (p.w 1) ∧
      u.rd (R.HOST_DQ_BASE_LO p.target.toNat) = s.rwAfter (R.HOST_DQ_BASE_LO p.target.toNat) (p.w 2) ∧
      u.rd (R.HOST_DQ_BASE_HI p.target.toNat) = s.rwAfter (R.HOST_DQ_BASE_HI p.target.toNat) (p.w 3) ∧
      u.dq p.target.toNat = { s.dq p.target.toNat with front := none, writing := false } ∧ u.owner f.buf = 0 ∧
      u.count (C.DQ_DISABLED_DROP p.target.toNat) = s.count (C.DQ_DISABLED_DROP p.target.toNat) + 1 ∧
      (∀ k < 64, k ≠ p.target.toNat → u.dq k = s.dq k) ∧
      RegsKept [R.HOST_DQ_CFG p.target.toNat, R.HOST_DQ_HOLD p.target.toNat, R.HOST_DQ_BASE_LO p.target.toNat,
        R.HOST_DQ_BASE_HI p.target.toNat] s u ∧
      OnlyChanges [.cnt, .buf, .chan, .regs] (s.afterTake p) u) ∧
  (∀ (s : State) (q : Fin 64) (f : Fin 6) (v : BitVec 16), s.dqFunc q.val = f.val →
    ((v.toNat + 65536 - (s.dq q.val).head % 65536) % 65536) ≤ s.dqRing q.val →
    Completes (.dqTailWrite f q v) s fun t =>
      t.fld (F.HOST_DQ_TAIL_TAIL q.val) = v.toNat ∧ RegsKept [R.HOST_DQ_TAIL q.val] s t ∧ OnlyChanges [.regs] s t) ∧
  (∀ (s : State) (q : Fin 64) (f : Fin 6) (v : BitVec 16), s.dqFunc q.val = f.val →
    s.dqRing q.val < ((v.toNat + 65536 - (s.dq q.val).head % 65536) % 65536) →
    exec (.dqTailWrite f q v) s = .next (s.raiseRow 0x0085 2 14 8 f.val [(1, 0), (1, q.val), (2, v.toNat)])) ∧
  (∀ (s : State) (q : Fin 64) (addrs : List (BitVec 64)) (f : Frame), (s.dq q.val).front = some f →
    (s.dq q.val).writing = false → (s.dq q.val).claimed = [] → addrs.length = s.dqNeed q.val f →
    s.dqNeed q.val f ≤ s.dqPosted q.val → (s.dq q.val).fifo.length < 512 → s.frameErrs f.buf f.bytes.length = [] →
    Completes (.dqFrameClaim q addrs none) s fun t =>
      t.dq q.val = { s.dq q.val with claimed := addrs.map (·.toNat), writing := true } ∧
      (∀ k < 64, k ≠ q.val → t.dq k = s.dq k) ∧
      (∃ os, t.out = os ++ s.out ∧ os.reverse.map (fun o => match o with | .hostWrite g a bs => some (g, a, bs) | _ => none) =
        (List.range (s.dqNeed q.val f)).map (fun i => some (s.dqFunc q.val, ((addrs[i]?).map (·.toNat)).getD 0,
        (f.delivered.drop (i * s.dqBuf q.val)).take (s.dqBuf q.val)))) ∧
      OnlyChanges [.chan, .out] s t) ∧
  (∀ (s : State) (q : Fin 64) (addrs : List (BitVec 64)) (bad : Option Nat) (f : Frame),
    (s.dq q.val).front = some f → (s.dq q.val).writing = false → s.dqPosted q.val ≤ (s.dq q.val).claimed.length →
    (s.dq q.val).claimed.length < s.dqNeed q.val f →
    Completes (.dqFrameClaim q addrs bad) s fun t =>
      t.dq q.val = s.dq q.val ∧ (∀ k < 64, k ≠ q.val → t.dq k = s.dq k) ∧ OnlyChanges [.chan] s t) ∧
  (∀ (s : State) (q : Fin 64) (f : Frame), (s.dq q.val).front = some f → (s.dq q.val).writing = true →
    f.rxRaw = none → s.isMulti f.buf = false → s.owner f.buf = agD2h →
    Completes (.dqFrameCommit q) s fun t =>
      t.dq q.val = { s.dq q.val with head := ((s.dq q.val).head + s.dqNeed q.val f) % 65536, fifo := (s.dq q.val).fifo ++ [completion q.val ((s.dq q.val).head % s.dqRing q.val) false f], commits := ((s.dq q.val).commits + 1) % 2 ^ 32, claimed := (s.dq q.val).claimed.drop (s.dqNeed q.val f), front := none, writing := false } ∧
      (∀ k < 64, k ≠ q.val → t.dq k = s.dq k) ∧
      t.count (C.DQ_PKTS q.val) = (s.count (C.DQ_PKTS q.val) + 1) % 2 ^ 64 ∧
      t.out = .msix (s.dqFunc q.val) (s.fld (F.HOST_DQ_CFG_VECTOR q.val)) :: s.out ∧ t.owner f.buf = 0 ∧
      OnlyChanges [.cnt, .buf, .chan, .out] s t) ∧
  (∀ (s : State) (q : Fin 64) (f : Frame), (s.dq q.val).front = some f → (s.dq q.val).writing = false →
    s.flag (F.HOST_DQ_CFG_ENABLE q.val) = true → s.count (C.DQ_HOLD_DROP q.val) < 0xFFFFFFFE →
    s.isMulti f.buf = false → s.owner f.buf = agD2h →
    Completes (.dqHoldTimeout q) s fun t =>
      t.dq q.val = { s.dq q.val with front := none, writing := false, holdTold := true } ∧
      (∀ k < 64, k ≠ q.val → t.dq k = s.dq k) ∧
      t.count (C.DQ_HOLD_DROP q.val) = s.count (C.DQ_HOLD_DROP q.val) + 1 ∧ t.owner f.buf = 0 ∧
      OnlyChanges [.cnt, .arb, .buf, .chan] s t) ∧
  (∀ (s : State) (q : Fin 64) (f : Fin 6) (c : Descriptor) (cs : List Descriptor), s.dqFunc q.val = f.val →
    (s.dq q.val).fifo = c :: cs →
    Completes (.dqPopRead f q) s fun t =>
      t.dq q.val = { s.dq q.val with fifo := cs } ∧ (∀ k < 64, k ≠ q.val → t.dq k = s.dq k) ∧
      (t.fn f.val).rdata = c.toNat % 2 ^ 32 ∧
      sparseGet (fun _ => 0) (t.fn f.val).latches (R.HOST_DQ_POP_HI q.val) = c.toNat / 2 ^ 32 ∧
      OnlyChanges [.fns, .chan] s t) ∧
  (∀ (s : State) (q : Fin 64) (f : Fin 6), s.dqFunc q.val = f.val → (s.dq q.val).fifo = [] →
    Completes (.dqPopRead f q) s fun t =>
      (t.fn f.val).rdata = 0 ∧ sparseGet (fun _ => 0) (t.fn f.val).latches (R.HOST_DQ_POP_HI q.val) = 0xF0000000 ∧
      OnlyChanges [.fns] s t) ∧
  (∀ (s : State) (q : Fin 64) (f : Fin 6), s.dqFunc q.val ≠ f.val →
    Completes (.dqPopRead f q) s fun t =>
      t.fn f.val = { s.fn f.val with rdata := 0 } ∧ OnlyChanges [.fns] s t) ∧
  (∀ (s : State) (q : Fin 64) (f : Fin 6) (c : Descriptor) (cs : List Descriptor),
    s.bestPop (s.popOrder f.val) = some q.val → (s.dq q.val).fifo = c :: cs →
    Completes (.funcPopRead f) s fun t =>
      t.dq q.val = { s.dq q.val with fifo := cs } ∧ (∀ k < 64, k ≠ q.val → t.dq k = s.dq k) ∧
      (t.fn f.val).rdata = c.toNat % 2 ^ 32 ∧
      sparseGet (fun _ => 0) (t.fn f.val).latches (R.HOST_POP_HI f.val) = c.toNat / 2 ^ 32 ∧
      OnlyChanges [.fns, .chan] s t) ∧
  (∀ (s : State) (f : Fin 6), s.bestPop (s.popOrder f.val) = none →
    Completes (.funcPopRead f) s fun t =>
      (t.fn f.val).rdata = 0 ∧ sparseGet (fun _ => 0) (t.fn f.val).latches (R.HOST_POP_HI f.val) = 0xF0000000 ∧
      OnlyChanges [.fns] s t) ∧
  (∀ (s : State) (q : Fin 64) (code : Byte) (f : Frame), s.flag (F.HOST_DQ_CFG_ENABLE q.val) = true →
    (s.dq q.val).writing = true → (s.dq q.val).front = some f → s.count (C.DQ_REWOUND q.val) < 0xFFFFFFFE →
    (s.source 0x0085).queue.length < 16 → s.isMulti f.buf = false → s.owner f.buf = agD2h →
    Completes (.hostDmaError false q code) s fun t =>
      t.dq q.val = { s.dq q.val with front := none, writing := false } ∧ (∀ k < 64, k ≠ q.val → t.dq k = s.dq k) ∧
      t.count (C.DQ_REWOUND q.val) = s.count (C.DQ_REWOUND q.val) + 1 ∧
      t.flag (F.HOST_DQ_CFG_ENABLE q.val) = false ∧ t.owner f.buf = 0 ∧
      (t.source 0x0085).queue = (s.source 0x0085).queue ++ [⟨1, 0x0E04, s.dqFunc q.val, evPayload [(1, 0), (1,
        q.val), (2, (s.dq q.val).head % s.dqRing q.val), (1, code.toNat)], s.arb.raised⟩] ∧
      RegsKept [R.HOST_DQ_CFG q.val] s t ∧ OnlyChanges [.arb, .cnt, .buf, .chan, .regs] s t) ∧
  (∀ (s : State) (p : Pkt), Taken 0x3203 p s → p.length = 4 → p.target.toNat < 64 → p.w 2 % 64 ≠ 0 →
    Ends (.hostDq p) 0x3203 p s ⟨stBadParam, 0, []⟩ fun u =>
      OnlyChanges [] (s.afterTake p) u) ∧
  (∀ (s : State) (p : Pkt), Taken 0x3203 p s → p.length = 4 → p.target.toNat < 64 → p.w 2 % 64 = 0 →
    changesEnabled (s.rd (R.HOST_DQ_CFG p.target.toNat)).toNat (s.rd (R.HOST_DQ_BASE_LO p.target.toNat)).toNat (s.rd (R.HOST_DQ_BASE_HI p.target.toNat)).toNat (p.w 0) (p.w 2) (p.w 3) =
      true →
    Ends (.hostDq p) 0x3203 p s ⟨stBusy, 0, []⟩ fun u =>
      OnlyChanges [] (s.afterTake p) u) ∧
  (∀ (s : State) (p : Pkt), Taken 0x3203 p s → p.length = 4 → 64 ≤ p.target.toNat →
    Ends (.hostDq p) 0x3203 p s ⟨stBadTarget, 0, []⟩ fun u =>
      OnlyChanges [] (s.afterTake p) u) ∧
  (∀ (s : State) (p : Pkt) (f : Frame), Taken 0x3203 p s → p.length = 4 → p.target.toNat < 64 → p.w 2 % 64 = 0 →
    changesEnabled (s.rd (R.HOST_DQ_CFG p.target.toNat)).toNat (s.rd (R.HOST_DQ_BASE_LO p.target.toNat)).toNat (s.rd (R.HOST_DQ_BASE_HI p.target.toNat)).toNat (p.w 0) (p.w 2) (p.w 3) =
      false →
    bit (p.w 0) 31 = false → (s.dq p.target.toNat).front = some f →
    s.count (C.DQ_DISABLED_DROP p.target.toNat) < 0xFFFFFFFE →
    Ends (.hostDq p) 0x3203 p s ⟨stDone, 0, []⟩ fun u =>
      u.rd (R.HOST_DQ_CFG p.target.toNat) = s.rwAfter (R.HOST_DQ_CFG p.target.toNat) (p.w 0) ∧
      u.rd (R.HOST_DQ_HOLD p.target.toNat) = s.rwAfter (R.HOST_DQ_HOLD p.target.toNat) (p.w 1) ∧
      u.rd (R.HOST_DQ_BASE_LO p.target.toNat) = s.rwAfter (R.HOST_DQ_BASE_LO p.target.toNat) (p.w 2) ∧
      u.rd (R.HOST_DQ_BASE_HI p.target.toNat) = s.rwAfter (R.HOST_DQ_BASE_HI p.target.toNat) (p.w 3) ∧
      u.dq p.target.toNat = { s.dq p.target.toNat with front := none, writing := false } ∧
      u.count (C.DQ_DISABLED_DROP p.target.toNat) = s.count (C.DQ_DISABLED_DROP p.target.toNat) + 1 ∧
      (∀ k < 64, k ≠ p.target.toNat → u.dq k = s.dq k) ∧
      OnlyChanges [.regs, .cnt, .arb, .buf, .chan] (s.afterTake p) u) ∧
  (∀ (s : State) (q : Fin 64) (f : Fin 6) (v : BitVec 16), s.dqFunc q.val ≠ f.val →
    exec (.dqTailWrite f q v) s = .next (s.accErr f.val (R.HOST_DQ_TAIL q.val) 1)) ∧
  (∀ (s : State) (q : Fin 64) (addrs : List (BitVec 64)) (bad : Option Nat),
    ((s.dq q.val).front = none ∨ (s.dq q.val).writing = true) →
    exec (.dqFrameClaim q addrs bad) s = .next (s)) ∧
  (∀ (s : State) (q : Fin 64) (addrs : List (BitVec 64)) (bad : Option Nat) (f : Frame) (cl : List Nat),
    (s.dq q.val).front = some f → (s.dq q.val).writing = false →
    cl = (s.dq q.val).claimed ++ (addrs.take (min (s.dqNeed q.val f - (s.dq q.val).claimed.length) (s.dqPosted q.val - (s.dq q.val).claimed.length))).map (·.toNat) →
    (cl.length < s.dqNeed q.val f ∨ 512 ≤ (s.dq q.val).fifo.length) →
    Completes (.dqFrameClaim q addrs bad) s fun t =>
      t.dq q.val = { s.dq q.val with claimed := cl } ∧ (∀ k < 64, k ≠ q.val → t.dq k = s.dq k) ∧
      OnlyChanges [.chan] s t) ∧
  (∀ (s : State) (q : Fin 64) (addrs : List (BitVec 64)) (bad : Option Nat) (f : Frame) (cl : List Nat),
    (s.dq q.val).front = some f → (s.dq q.val).writing = false →
    cl = (s.dq q.val).claimed ++ (addrs.take (min (s.dqNeed q.val f - (s.dq q.val).claimed.length) (s.dqPosted q.val - (s.dq q.val).claimed.length))).map (·.toNat) →
    s.dqNeed q.val f ≤ cl.length → (s.dq q.val).fifo.length < 512 →
    (s.readFrame f.buf f.bytes.length bad).2 = none →
    Completes (.dqFrameClaim q addrs bad) s fun t =>
      t.dq q.val = { s.dq q.val with claimed := cl, writing := true } ∧ (∀ k < 64, k ≠ q.val → t.dq k = s.dq k) ∧
      RegsKeptIn [fun _ => R.BUF_SAT, R.HOST_DQ_SAT, fun _ => R.MEM_DDR_SAT, fun _ => R.MEM_SAT, R.MEM_UE_LOG_B] s t ∧
      OnlyChanges [.out, .regs, .cnt, .arb, .buf, .chan, .mem] s t) ∧
  (∀ (s : State) (q : Fin 64) (addrs : List (BitVec 64)) (bad : Option Nat) (f : Frame) (cl : List Nat) (n : Nat),
    (s.dq q.val).front = some f → (s.dq q.val).writing = false →
    cl = (s.dq q.val).claimed ++ (addrs.take (min (s.dqNeed q.val f - (s.dq q.val).claimed.length) (s.dqPosted q.val - (s.dq q.val).claimed.length))).map (·.toNat) →
    s.dqNeed q.val f ≤ cl.length → (s.dq q.val).fifo.length < 512 →
    (s.readFrame f.buf f.bytes.length bad).2 = some n → s.count (C.DQ_REWOUND q.val) < 0xFFFFFFFE →
    Completes (.dqFrameClaim q addrs bad) s fun t =>
      t.dq q.val = { s.dq q.val with claimed := cl, front := none, writing := false } ∧
      (∀ k < 64, k ≠ q.val → t.dq k = s.dq k) ∧ t.count (C.DQ_REWOUND q.val) = s.count (C.DQ_REWOUND q.val) + 1 ∧
      RegsKeptIn [fun _ => R.BUF_SAT, R.HOST_DQ_SAT, fun _ => R.MEM_DDR_SAT, fun _ => R.MEM_SAT, R.MEM_UE_LOG_B] s t ∧
      OnlyChanges [.out, .regs, .cnt, .arb, .buf, .chan, .mem] s t) ∧
  (∀ (s : State) (q : Fin 64), ((s.dq q.val).front = none ∨ (s.dq q.val).writing = false) →
    exec (.dqFrameCommit q) s = .next (s)) ∧
  (∀ (s : State) (q : Fin 64) (f : Frame) (raw : Nat), (s.dq q.val).front = some f → (s.dq q.val).writing = true →
    f.rxRaw = some raw → f.src < 24 →
    bit ((s.rd R.TIME_RXCAP_Q_HI).toNat * 2 ^ 32 + (s.rd R.TIME_RXCAP_Q_LO).toNat) q.val = true →
    s.time.fifo.length < 512 → s.isMulti f.buf = false → s.owner f.buf = agD2h →
    Completes (.dqFrameCommit q) s fun t =>
      t.dq q.val = { s.dq q.val with head := ((s.dq q.val).head + s.dqNeed q.val f) % 65536, fifo := (s.dq q.val).fifo ++ [completion q.val ((s.dq q.val).head % s.dqRing q.val) true f], commits := ((s.dq q.val).commits + 1) % 2 ^ 32, claimed := (s.dq q.val).claimed.drop (s.dqNeed q.val f), front := none, writing := false } ∧
      (∀ k < 64, k ≠ q.val → t.dq k = s.dq k) ∧
      t.time = { s.time with fifo := s.time.fifo ++ [capRecord 0 f.src raw f.rxTime (leBytes 1 q.val ++ leBytes 3 0 ++ leBytes 4 (((s.dq q.val).commits + 1) % 2 ^ 32))] } ∧
      t.owner f.buf = 0 ∧ OnlyChanges [.cnt, .buf, .chan, .out, .time] s t) ∧
  (∀ (s : State) (q : Fin 64) (f : Frame) (raw : Nat), (s.dq q.val).front = some f → (s.dq q.val).writing = true →
    f.rxRaw = some raw →
    (24 ≤ f.src ∨ bit ((s.rd R.TIME_RXCAP_Q_HI).toNat * 2 ^ 32 + (s.rd R.TIME_RXCAP_Q_LO).toNat) q.val = false) →
    Completes (.dqFrameCommit q) s fun t =>
      (t.dq q.val).fifo = (s.dq q.val).fifo ++ [completion q.val ((s.dq q.val).head % s.dqRing q.val) false f] ∧
      (t.dq q.val).front = none ∧ t.time = s.time ∧ (∀ k < 64, k ≠ q.val → t.dq k = s.dq k) ∧
      RegsKeptIn [fun _ => R.BUF_SAT, fun _ => R.TIME_SAT] s t ∧
      OnlyChanges [.out, .regs, .cnt, .arb, .buf, .chan, .time] s t) ∧
  (∀ (s : State) (q : Fin 64) (f : Frame) (raw : Nat), (s.dq q.val).front = some f → (s.dq q.val).writing = true →
    f.rxRaw = some raw → f.src < 24 →
    bit ((s.rd R.TIME_RXCAP_Q_HI).toNat * 2 ^ 32 + (s.rd R.TIME_RXCAP_Q_LO).toNat) q.val = true →
    512 ≤ s.time.fifo.length → s.count C.TIME_CAP_LOST < 0xFFFFFFFE →
    Completes (.dqFrameCommit q) s fun t =>
      (t.dq q.val).fifo = (s.dq q.val).fifo ++ [completion q.val ((s.dq q.val).head % s.dqRing q.val) false f] ∧
      (t.dq q.val).front = none ∧ t.time.fifo = s.time.fifo ∧
      t.count C.TIME_CAP_LOST = s.count C.TIME_CAP_LOST + 1 ∧ (∀ k < 64, k ≠ q.val → t.dq k = s.dq k) ∧
      RegsKeptIn [fun _ => R.BUF_SAT, fun _ => R.TIME_SAT] s t ∧
      OnlyChanges [.out, .regs, .cnt, .arb, .buf, .chan, .time] s t) ∧
  (∀ (s : State) (q : Fin 64) (f : Frame), (s.dq q.val).front = some f → (s.dq q.val).writing = true →
    f.rxRaw = none → s.isMulti f.buf = true → 1 < s.destsOf f.buf →
    Completes (.dqFrameCommit q) s fun t =>
      (t.dq q.val).fifo = (s.dq q.val).fifo ++ [completion q.val ((s.dq q.val).head % s.dqRing q.val) false f] ∧
      (t.dq q.val).front = none ∧ (∀ k < 64, k ≠ q.val → t.dq k = s.dq k) ∧ t.owner f.buf = s.owner f.buf ∧
      t.destsOf f.buf = s.destsOf f.buf - 1 ∧ OnlyChanges [.cnt, .buf, .chan, .out] s t) ∧
  (∀ (s : State) (q : Fin 64) (f : Frame), (s.dq q.val).front = some f → (s.dq q.val).writing = true →
    f.rxRaw = none → s.isMulti f.buf = true → s.destsOf f.buf = 1 → s.owner f.buf = agQm →
    Completes (.dqFrameCommit q) s fun t =>
      (t.dq q.val).fifo = (s.dq q.val).fifo ++ [completion q.val ((s.dq q.val).head % s.dqRing q.val) false f] ∧
      (t.dq q.val).front = none ∧ (∀ k < 64, k ≠ q.val → t.dq k = s.dq k) ∧ t.owner f.buf = 0 ∧
      OnlyChanges [.cnt, .buf, .chan, .out] s t) ∧
  (∀ (s : State) (q : Fin 64),
    ((s.dq q.val).front = none ∨ (s.dq q.val).writing = true ∨ s.flag (F.HOST_DQ_CFG_ENABLE q.val) = false) →
    exec (.dqHoldTimeout q) s = .next (s)) ∧
  (∀ (s : State) (q : Fin 64) (f : Frame), (s.dq q.val).front = some f → (s.dq q.val).writing = false →
    s.flag (F.HOST_DQ_CFG_ENABLE q.val) = true → s.count (C.DQ_HOLD_DROP q.val) < 0xFFFFFFFE →
    (s.dq q.val).holdTold = false → (s.source 0x0085).queue.length < 16 → s.isMulti f.buf = false →
    s.owner f.buf = agD2h →
    Completes (.dqHoldTimeout q) s fun t =>
      t.dq q.val = { s.dq q.val with front := none, writing := false, holdTold := true } ∧
      (t.source 0x0085).queue = (s.source 0x0085).queue ++ [⟨2, 0x0E06, s.dqFunc q.val, evPayload [(1, q.val), (2,
        f.delivered.length), (1, s.dqNeed q.val f - (s.dq q.val).claimed.length)], s.arb.raised⟩] ∧
      OnlyChanges [.cnt, .arb, .buf, .chan] s t) ∧
  (∀ (s : State) (q : Fin 64) (f : Frame), (s.dq q.val).front = some f → (s.dq q.val).writing = false →
    s.flag (F.HOST_DQ_CFG_ENABLE q.val) = true → s.count (C.DQ_HOLD_DROP q.val) < 0xFFFFFFFE →
    s.isMulti f.buf = true → 1 < s.destsOf f.buf →
    Completes (.dqHoldTimeout q) s fun t =>
      t.dq q.val = { s.dq q.val with front := none, writing := false, holdTold := true } ∧
      (∀ k < 64, k ≠ q.val → t.dq k = s.dq k) ∧
      t.count (C.DQ_HOLD_DROP q.val) = s.count (C.DQ_HOLD_DROP q.val) + 1 ∧ t.owner f.buf = s.owner f.buf ∧
      t.destsOf f.buf = s.destsOf f.buf - 1 ∧ OnlyChanges [.cnt, .arb, .buf, .chan] s t) ∧
  (∀ (s : State) (q : Fin 64) (qs : List Nat), s.bestPop qs = some q.val →
    q.val ∈ qs ∧ (s.dq q.val).fifo ≠ [] ∧
      ∀ r ∈ qs, (s.dq r).fifo ≠ [] → s.fld (F.HOST_DQ_CFG_PRIO q.val) ≤ s.fld (F.HOST_DQ_CFG_PRIO r)) ∧
  (∀ (s : State) (qs : List Nat), s.bestPop qs = none →
    ∀ r ∈ qs, (s.dq r).fifo = []) ∧
  (∀ (s : State) (q : Fin 64) (code : Byte),
    (s.flag (F.HOST_DQ_CFG_ENABLE q.val) = false ∨ (s.dq q.val).writing = false) →
    exec (.hostDmaError false q code) s = .next (s)) ∧
  (∀ (s : State) (q : Fin 64) (code : Byte) (f : Frame), s.flag (F.HOST_DQ_CFG_ENABLE q.val) = true →
    (s.dq q.val).writing = true → (s.dq q.val).front = some f → s.count (C.DQ_REWOUND q.val) < 0xFFFFFFFE →
    s.isMulti f.buf = true → 1 < s.destsOf f.buf →
    Completes (.hostDmaError false q code) s fun t =>
      t.dq q.val = { s.dq q.val with front := none, writing := false } ∧ (∀ k < 64, k ≠ q.val → t.dq k = s.dq k) ∧
      t.count (C.DQ_REWOUND q.val) = s.count (C.DQ_REWOUND q.val) + 1 ∧
      t.flag (F.HOST_DQ_CFG_ENABLE q.val) = false ∧ t.owner f.buf = s.owner f.buf ∧
      t.destsOf f.buf = s.destsOf f.buf - 1 ∧ RegsKept [R.HOST_DQ_CFG q.val] s t ∧
      OnlyChanges [.arb, .cnt, .buf, .chan, .regs] s t) ∧
  (∀ (s : State),
    Completes (.hostStatSnap) s fun t =>
      (∀ q < 64, ∀ x ∈ dqCtrs q ++ hqCtrs q, t.bankAt x.off = s.count x % 2 ^ 32) ∧ OnlyChanges [.bank] s t)

/-- The host-to-device rows of chapter 14 and HQ_FRAME_COMMIT (R133, R416, R426 to R428, R466). -/
def Obligations.HostToDeviceQueuesTakeFrames : Prop :=
  (∀ (s : State) (p : Pkt), Taken 0x3204 p s → p.length = 5 → p.target.toNat < 64 → p.w 1 % 32 = 0 → p.w 3 % 8 = 0 →
    changesEnabled (s.rd (R.HOST_HQ_CFG p.target.toNat)).toNat (s.rd (R.HOST_HQ_BASE_LO p.target.toNat)).toNat (s.rd (R.HOST_HQ_BASE_HI p.target.toNat)).toNat (p.w 0) (p.w 1) (p.w 2) =
      false →
    Ends (.hostHq p) 0x3204 p s ⟨stDone, 0, []⟩ fun u =>
      u.rd (R.HOST_HQ_CFG p.target.toNat) = s.rwAfter (R.HOST_HQ_CFG p.target.toNat) (p.w 0) ∧
      u.rd (R.HOST_HQ_BASE_LO p.target.toNat) = s.rwAfter (R.HOST_HQ_BASE_LO p.target.toNat) (p.w 1) ∧
      u.rd (R.HOST_HQ_BASE_HI p.target.toNat) = s.rwAfter (R.HOST_HQ_BASE_HI p.target.toNat) (p.w 2) ∧
      u.rd (R.HOST_HQ_WB_LO p.target.toNat) = s.rwAfter (R.HOST_HQ_WB_LO p.target.toNat) (p.w 3) ∧
      u.rd (R.HOST_HQ_WB_HI p.target.toNat) = s.rwAfter (R.HOST_HQ_WB_HI p.target.toNat) (p.w 4) ∧
      RegsKept [R.HOST_HQ_CFG p.target.toNat, R.HOST_HQ_BASE_LO p.target.toNat, R.HOST_HQ_BASE_HI p.target.toNat,
        R.HOST_HQ_WB_LO p.target.toNat, R.HOST_HQ_WB_HI p.target.toNat] s u ∧
      OnlyChanges [.regs] (s.afterTake p) u) ∧
  (∀ (s : State) (q : Fin 64) (f : Fin 6) (v : BitVec 16), s.hqFunc q.val = f.val →
    ((v.toNat + 65536 - (s.hq q.val).head % 65536) % 65536) ≤ s.hqRing q.val →
    Completes (.hqTailWrite f q v) s fun t =>
      t.fld (F.HOST_HQ_TAIL_TAIL q.val) = v.toNat ∧ RegsKept [R.HOST_HQ_TAIL q.val] s t ∧ OnlyChanges [.regs] s t) ∧
  (∀ (s : State) (q : Fin 64) (desc bytes : List Byte) (cause : Nat), s.flag (F.HOST_HQ_CFG_ENABLE q.val) = true →
    0 < s.hqPosted q.val → (s.hq q.val).cur = none → badDescriptor desc = some cause →
    s.count (C.HQ_BAD_DESC q.val) < 0xFFFFFFFE → (s.source 0x0085).queue.length < 16 →
    Completes (.hqDescriptor q desc bytes) s fun t =>
      t.hq q.val = { s.hq q.val with head := ((s.hq q.val).head + 1) % 65536 } ∧
      (∀ k < 64, k ≠ q.val → t.hq k = s.hq k) ∧ t.count (C.HQ_BAD_DESC q.val) = s.count (C.HQ_BAD_DESC q.val) + 1 ∧
      (t.source 0x0085).queue = (s.source 0x0085).queue ++ [⟨2, 0x0E07, s.hqFunc q.val, evPayload [(1, q.val), (2,
        (s.hq q.val).head % s.hqRing q.val), (1, cause)], s.arb.raised⟩] ∧
      OnlyChanges [.arb, .cnt, .chan] s t) ∧
  (∀ (s : State) (q : Fin 64) (desc bytes : List Byte) (id : Nat), s.flag (F.HOST_HQ_CFG_ENABLE q.val) = true →
    0 < s.hqPosted q.val → (s.hq q.val).cur = none → badDescriptor desc = none →
    (s.allocBuf agH2d (leAt desc 8 2)).2 = .got id →
    Completes (.hqDescriptor q desc bytes) s fun t =>
      t.hq q.val = { s.hq q.val with cur := some (hqFrame q.val ((s.hq q.val).head % s.hqRing q.val) id desc bytes), fwd := bit (leAt desc 10 1) 0, dest := leAt desc 11 1 } ∧
      (∀ k < 64, k ≠ q.val → t.hq k = s.hq k) ∧ t.owner id = agH2d ∧
      RegsKeptIn [fun _ => R.BUF_SAT, R.HOST_HQ_SAT] s t ∧ OnlyChanges [.arb, .buf, .cnt, .chan, .regs] s t) ∧
  (∀ (s : State) (q : Fin 64) (desc bytes : List Byte), s.flag (F.HOST_HQ_CFG_ENABLE q.val) = true →
    0 < s.hqPosted q.val → (s.hq q.val).cur = none → badDescriptor desc = none →
    (s.allocBuf agH2d (leAt desc 8 2)).2 = .refused →
    Completes (.hqDescriptor q desc bytes) s fun t =>
      t.chan = s.chan ∧ RegsKeptIn [fun _ => R.BUF_SAT, R.HOST_HQ_SAT] s t ∧
      OnlyChanges [.arb, .buf, .cnt, .regs] s t) ∧
  (∀ (s : State) (q : Fin 64) (raw : Nat) (f : Frame), (s.hq q.val).cur = some f → s.omccOf q.val = none →
    (s.hq q.val).fwd = false → (s.hq q.val).dest < 24 → f.time = 0 → s.owner f.buf = agH2d →
    Completes (.hqFrameCommit q raw) s fun t =>
      t.hq q.val = { s.hq q.val with head := ((s.hq q.val).head + 1) % 65536, cur := none } ∧
      (∀ k < 64, k ≠ q.val → t.hq k = s.hq k) ∧
      t.sched.arrivals = s.sched.arrivals ++ [{ frame := f, node1 := (s.hq q.val).dest }] ∧ t.owner f.buf = agQm ∧
      t.count (C.HQ_PKTS q.val) = (s.count (C.HQ_PKTS q.val) + 1) % 2 ^ 64 ∧
      .hostWrite (s.hqFunc q.val) (s.addr64 (R.HOST_HQ_WB_LO q.val) (R.HOST_HQ_WB_HI q.val)) (leBytes 2 (((s.hq q.val).head +
        1) % 65536)) ∈ t.out ∧
      RegsKept [R.MEM_INJ] s t ∧ OnlyChanges [.cnt, .buf, .chan, .out, .sched, .mem, .regs] s t) ∧
  (∀ (s : State) (q : Fin 64) (raw : Nat) (f : Frame) (n : Nat), (s.hq q.val).cur = some f →
    s.omccOf q.val = some n → s.owner f.buf = agH2d →
    Completes (.hqFrameCommit q raw) s fun t =>
      (t.hq q.val).cur = none ∧ (t.ch n).omciUp = (s.ch n).omciUp ++ [omciWithMic (s.chKey n 1).2 f.bytes] ∧
      t.owner f.buf = 0 ∧ t.sched.arrivals = s.sched.arrivals ∧
      RegsKeptIn [R.BOND_SAT, fun _ => R.BUF_SAT, R.ETH_SAT, fun _ => R.FWD_SAT, fun _ => R.MEM_DDR_SAT,
        fun _ => R.MEM_INJ, fun _ => R.MEM_SAT, R.MEM_UE_LOG_B, R.PON_STAT_SAT, fun _ => R.SCH_SAT, R.SVL_SAT,
        fun _ => R.TIME_SAT] s t ∧
      OnlyChanges [.out, .freeCtr, .regs, .cnt, .arb, .fns, .pon, .bonding, .buf, .chan, .sched, .time, .clsIn,
        .fwd, .svl, .mac, .lanes, .mem, .ciph] s t) ∧
  (∀ (s : State) (q : Fin 64) (raw : Nat), (s.hq q.val).cur = none →
    exec (.hqFrameCommit q raw) s = .next (s)) ∧
  (∀ (s : State) (q : Fin 64) (code : Byte), s.flag (F.HOST_HQ_CFG_ENABLE q.val) = true → (s.hq q.val).cur = none →
    s.count (C.HQ_DMA_ERR q.val) < 0xFFFFFFFE → (s.source 0x0085).queue.length < 16 →
    Completes (.hostDmaError true q code) s fun t =>
      t.chan = s.chan ∧ t.count (C.HQ_DMA_ERR q.val) = s.count (C.HQ_DMA_ERR q.val) + 1 ∧
      t.flag (F.HOST_HQ_CFG_ENABLE q.val) = false ∧
      (t.source 0x0085).queue = (s.source 0x0085).queue ++ [⟨1, 0x0E04, s.hqFunc q.val, evPayload [(1, 1), (1,
        q.val), (2, (s.hq q.val).head % s.hqRing q.val), (1, code.toNat)], s.arb.raised⟩] ∧
      RegsKept [R.HOST_HQ_CFG q.val] s t ∧ OnlyChanges [.arb, .cnt, .regs] s t) ∧
  (∀ (s : State) (p : Pkt), Taken 0x3204 p s → p.length = 5 → p.target.toNat < 64 →
    (p.w 1 % 32 ≠ 0 ∨ p.w 3 % 8 ≠ 0) →
    Ends (.hostHq p) 0x3204 p s ⟨stBadParam, 0, []⟩ fun u =>
      OnlyChanges [] (s.afterTake p) u) ∧
  (∀ (s : State) (p : Pkt), Taken 0x3204 p s → p.length = 5 → p.target.toNat < 64 → p.w 1 % 32 = 0 → p.w 3 % 8 = 0 →
    changesEnabled (s.rd (R.HOST_HQ_CFG p.target.toNat)).toNat (s.rd (R.HOST_HQ_BASE_LO p.target.toNat)).toNat (s.rd (R.HOST_HQ_BASE_HI p.target.toNat)).toNat (p.w 0) (p.w 1) (p.w 2) =
      true →
    Ends (.hostHq p) 0x3204 p s ⟨stBusy, 0, []⟩ fun u =>
      OnlyChanges [] (s.afterTake p) u) ∧
  (∀ (s : State) (p : Pkt), Taken 0x3204 p s → p.length = 5 → 64 ≤ p.target.toNat →
    Ends (.hostHq p) 0x3204 p s ⟨stBadTarget, 0, []⟩ fun u =>
      OnlyChanges [] (s.afterTake p) u) ∧
  (∀ (s : State) (q : Fin 64) (f : Fin 6) (v : BitVec 16), s.hqFunc q.val = f.val →
    s.hqRing q.val < ((v.toNat + 65536 - (s.hq q.val).head % 65536) % 65536) →
    exec (.hqTailWrite f q v) s = .next (s.raiseRow 0x0085 2 14 8 f.val [(1, 1), (1, q.val), (2, v.toNat)])) ∧
  (∀ (s : State) (q : Fin 64) (f : Fin 6) (v : BitVec 16), s.hqFunc q.val ≠ f.val →
    exec (.hqTailWrite f q v) s = .next (s.accErr f.val (R.HOST_HQ_TAIL q.val) 1)) ∧
  (∀ (s : State) (q : Fin 64) (desc bytes : List Byte),
    (s.flag (F.HOST_HQ_CFG_ENABLE q.val) = false ∨ s.hqPosted q.val = 0 ∨ (s.hq q.val).cur ≠ none) →
    exec (.hqDescriptor q desc bytes) s = .next (s)) ∧
  (∀ (s : State) (q : Fin 64) (code : Byte), s.flag (F.HOST_HQ_CFG_ENABLE q.val) = false →
    exec (.hostDmaError true q code) s = .next (s)) ∧
  (∀ (s : State) (q : Fin 64) (code : Byte) (f : Frame), s.flag (F.HOST_HQ_CFG_ENABLE q.val) = true →
    (s.hq q.val).cur = some f → s.owner f.buf = agH2d → s.count (C.HQ_DMA_ERR q.val) < 0xFFFFFFFE →
    s.count (C.HQ_REWOUND q.val) < 0xFFFFFFFE → (s.source 0x0085).queue.length < 16 →
    Completes (.hostDmaError true q code) s fun t =>
      t.hq q.val = { s.hq q.val with cur := none } ∧ (∀ k < 64, k ≠ q.val → t.hq k = s.hq k) ∧ t.owner f.buf = 0 ∧
      t.count (C.HQ_DMA_ERR q.val) = s.count (C.HQ_DMA_ERR q.val) + 1 ∧
      t.count (C.HQ_REWOUND q.val) = s.count (C.HQ_REWOUND q.val) + 1 ∧
      t.flag (F.HOST_HQ_CFG_ENABLE q.val) = false ∧
      (t.source 0x0085).queue = (s.source 0x0085).queue ++ [⟨1, 0x0E04, s.hqFunc q.val, evPayload [(1, 1), (1,
        q.val), (2, (s.hq q.val).head % s.hqRing q.val), (1, code.toNat)], s.arb.raised⟩] ∧
      RegsKept [R.HOST_HQ_CFG q.val] s t ∧ OnlyChanges [.arb, .buf, .chan, .cnt, .regs] s t) ∧
  (∀ (s : State) (q : Fin 64) (raw : Nat) (f : Frame), (s.hq q.val).cur = some f →
    s.flag (F.HOST_HQ_CFG_NOTICE q.val) = true →
    Completes (.hqFrameCommit q raw) s fun t =>
      .msix (s.hqFunc q.val) (s.fld (F.HOST_HQ_CFG_VECTOR q.val)) ∈ t.out ∧ (t.hq q.val).cur = none ∧
      (t.hq q.val).head = ((s.hq q.val).head + 1) % 65536 ∧ (∀ k < 64, k ≠ q.val → t.hq k = s.hq k) ∧
      RegsKeptIn [R.BOND_SAT, fun _ => R.BUF_SAT, R.ETH_SAT, fun _ => R.FWD_SAT, fun _ => R.MEM_DDR_SAT,
        fun _ => R.MEM_INJ, fun _ => R.MEM_SAT, R.MEM_UE_LOG_B, R.PON_STAT_SAT, fun _ => R.SCH_SAT, R.SVL_SAT,
        fun _ => R.TIME_SAT] s t ∧
      OnlyChanges [.out, .freeCtr, .regs, .cnt, .arb, .fns, .pon, .bonding, .buf, .chan, .sched, .time, .clsIn,
        .fwd, .svl, .mac, .lanes, .mem, .ciph] s t) ∧
  (∀ (s : State) (q : Fin 64) (raw : Nat) (f : Frame) (as : List Arrival), (s.hq q.val).cur = some f →
    s.omccOf q.val = none → s.owner f.buf = agH2d →
    as = ((if (s.hq q.val).fwd then (s.destLookup f.fid (beAt f.bytes 0 6)).2
      else s.expandDest (s.hq q.val).dest).map (s.arrivalFor f)).eraseDups →
    f.time = 0 → as ≠ [] →
    Completes (.hqFrameCommit q raw) s fun t =>
      t.sched.arrivals = s.sched.arrivals ++ as ∧ t.owner f.buf = agQm ∧ t.destsOf f.buf = as.length ∧
      (t.hq q.val).cur = none ∧
      RegsKeptIn [R.BOND_SAT, fun _ => R.BUF_SAT, R.ETH_SAT, fun _ => R.FWD_SAT, fun _ => R.MEM_DDR_SAT,
        fun _ => R.MEM_INJ, fun _ => R.MEM_SAT, R.MEM_UE_LOG_B, R.PON_STAT_SAT, fun _ => R.SCH_SAT, R.SVL_SAT,
        fun _ => R.TIME_SAT] s t ∧
      OnlyChanges [.out, .freeCtr, .regs, .cnt, .arb, .fns, .pon, .bonding, .buf, .chan, .sched, .time, .clsIn,
        .fwd, .svl, .mac, .lanes, .mem, .ciph] s t) ∧
  (∀ (s : State) (q : Fin 64) (raw : Nat) (f : Frame) (as : List Arrival), (s.hq q.val).cur = some f →
    s.omccOf q.val = none → s.owner f.buf = agH2d →
    as = ((if (s.hq q.val).fwd then (s.destLookup f.fid (beAt f.bytes 0 6)).2
      else s.expandDest (s.hq q.val).dest).map (s.arrivalFor f)).eraseDups →
    as = [] → s.count C.FWD_FILTERED < 0xFFFFFFFE → f.time = 0 →
    Completes (.hqFrameCommit q raw) s fun t =>
      t.sched = s.sched ∧ t.owner f.buf = 0 ∧ t.count C.FWD_FILTERED = s.count C.FWD_FILTERED + 1 ∧
      (t.hq q.val).cur = none ∧
      RegsKeptIn [R.BOND_SAT, fun _ => R.BUF_SAT, R.ETH_SAT, fun _ => R.FWD_SAT, fun _ => R.MEM_DDR_SAT,
        fun _ => R.MEM_INJ, fun _ => R.MEM_SAT, R.MEM_UE_LOG_B, R.PON_STAT_SAT, fun _ => R.SCH_SAT, R.SVL_SAT,
        fun _ => R.TIME_SAT] s t ∧
      OnlyChanges [.out, .freeCtr, .regs, .cnt, .arb, .fns, .pon, .bonding, .buf, .chan, .sched, .time, .clsIn,
        .fwd, .svl, .mac, .lanes, .mem, .ciph] s t) ∧
  (∀ (s : State) (q : Fin 64) (raw : Nat) (f : Frame), (s.hq q.val).cur = some f → s.omccOf q.val = none →
    s.owner f.buf = agH2d → (s.hq q.val).fwd = false → (s.hq q.val).dest < 24 → bit f.time 63 = false →
    bitsOf f.time 55 48 + 44 ≤ f.bytes.length →
    Completes (.hqFrameCommit q raw) s fun t =>
      t.sched.arrivals = s.sched.arrivals ++ [{ frame := f, node1 := (s.hq q.val).dest }] ∧
      t.count C.TIME_TIME_IGNORED = s.count C.TIME_TIME_IGNORED ∧
      RegsKeptIn [R.BOND_SAT, fun _ => R.BUF_SAT, R.ETH_SAT, fun _ => R.FWD_SAT, fun _ => R.MEM_DDR_SAT,
        fun _ => R.MEM_INJ, fun _ => R.MEM_SAT, R.MEM_UE_LOG_B, R.PON_STAT_SAT, fun _ => R.SCH_SAT, R.SVL_SAT,
        fun _ => R.TIME_SAT] s t ∧
      OnlyChanges [.out, .freeCtr, .regs, .cnt, .arb, .fns, .pon, .bonding, .buf, .chan, .sched, .time, .clsIn,
        .fwd, .svl, .mac, .lanes, .mem, .ciph] s t) ∧
  (∀ (s : State) (q : Fin 64) (raw : Nat) (f : Frame), (s.hq q.val).cur = some f → s.omccOf q.val = none →
    s.owner f.buf = agH2d → (s.hq q.val).fwd = false → (s.hq q.val).dest < 24 → f.time ≠ 0 →
    ¬(bitsOf f.time 55 48 + 44 ≤ f.bytes.length) → s.count C.TIME_TIME_IGNORED < 0xFFFFFFFE →
    Completes (.hqFrameCommit q raw) s fun t =>
      t.sched.arrivals = s.sched.arrivals ++ [{ frame := { f with time := 0 }, node1 := (s.hq q.val).dest }] ∧
      t.count C.TIME_TIME_IGNORED = s.count C.TIME_TIME_IGNORED + 1 ∧
      RegsKeptIn [R.BOND_SAT, fun _ => R.BUF_SAT, R.ETH_SAT, fun _ => R.FWD_SAT, fun _ => R.MEM_DDR_SAT,
        fun _ => R.MEM_INJ, fun _ => R.MEM_SAT, R.MEM_UE_LOG_B, R.PON_STAT_SAT, fun _ => R.SCH_SAT, R.SVL_SAT,
        fun _ => R.TIME_SAT] s t ∧
      OnlyChanges [.out, .freeCtr, .regs, .cnt, .arb, .fns, .pon, .bonding, .buf, .chan, .sched, .time, .clsIn,
        .fwd, .svl, .mac, .lanes, .mem, .ciph] s t) ∧
  (∀ (s : State) (q : Fin 64) (raw : Nat) (f : Frame), (s.hq q.val).cur = some f → s.omccOf q.val = none →
    s.owner f.buf = agH2d → (s.hq q.val).fwd = false → 24 ≤ (s.hq q.val).dest → (s.hq q.val).dest < 128 →
    f.time ≠ 0 → s.count C.TIME_TIME_IGNORED < 0xFFFFFFFE →
    Completes (.hqFrameCommit q raw) s fun t =>
      t.sched.arrivals = s.sched.arrivals ++ [s.arrivalFor { f with time := 0 } (s.hq q.val).dest] ∧
      t.count C.TIME_TIME_IGNORED = s.count C.TIME_TIME_IGNORED + 1 ∧
      RegsKeptIn [R.BOND_SAT, fun _ => R.BUF_SAT, R.ETH_SAT, fun _ => R.FWD_SAT, fun _ => R.MEM_DDR_SAT,
        fun _ => R.MEM_INJ, fun _ => R.MEM_SAT, R.MEM_UE_LOG_B, R.PON_STAT_SAT, fun _ => R.SCH_SAT, R.SVL_SAT,
        fun _ => R.TIME_SAT] s t ∧
      OnlyChanges [.out, .freeCtr, .regs, .cnt, .arb, .fns, .pon, .bonding, .buf, .chan, .sched, .time, .clsIn,
        .fwd, .svl, .mac, .lanes, .mem, .ciph] s t) ∧
  (∀ (s : State) (q : Fin 64) (raw : Nat) (f : Frame) (now sec ns : Nat), (s.hq q.val).cur = some f →
    s.omccOf q.val = none → s.owner f.buf = agH2d → (s.hq q.val).fwd = false → (s.hq q.val).dest < 24 →
    bit f.time 63 = true → bitsOf f.time 55 48 + 44 ≤ f.bytes.length → (s.launchQ (s.hq q.val).dest).length < 128 →
    now = s.time.at (max s.time.raw raw) → sec = launchSec (timeSec now) (bitsOf f.time 45 30) →
    ns = bitsOf f.time 29 0 →
    Completes (.hqFrameCommit q raw) s fun t =>
      t.launchQ (s.hq q.val).dest = s.launchQ (s.hq q.val).dest ++ [⟨f, sec, ns, passed now (timeOf sec ns 0)⟩] ∧
      (∀ m < 24, m ≠ (s.hq q.val).dest → t.launchQ m = s.launchQ m) ∧ t.sched.arrivals = s.sched.arrivals ∧
      t.owner f.buf = agQm ∧
      RegsKeptIn [R.BOND_SAT, fun _ => R.BUF_SAT, R.ETH_SAT, fun _ => R.FWD_SAT, fun _ => R.MEM_DDR_SAT,
        fun _ => R.MEM_INJ, fun _ => R.MEM_SAT, R.MEM_UE_LOG_B, R.PON_STAT_SAT, fun _ => R.SCH_SAT, R.SVL_SAT,
        fun _ => R.TIME_SAT] s t ∧
      OnlyChanges [.out, .freeCtr, .regs, .cnt, .arb, .fns, .pon, .bonding, .buf, .chan, .sched, .time, .clsIn,
        .fwd, .svl, .mac, .lanes, .mem, .ciph] s t) ∧
  (∀ (s : State) (q : Fin 64) (raw : Nat) (f : Frame), (s.hq q.val).cur = some f → s.omccOf q.val = none →
    s.owner f.buf = agH2d → (s.hq q.val).fwd = false → (s.hq q.val).dest < 24 → bit f.time 63 = true →
    bitsOf f.time 55 48 + 44 ≤ f.bytes.length → 128 ≤ (s.launchQ (s.hq q.val).dest).length →
    s.count C.TIME_LAUNCH_FULL < 0xFFFFFFFE →
    Completes (.hqFrameCommit q raw) s fun t =>
      t.time = s.time ∧ t.sched = s.sched ∧ t.owner f.buf = 0 ∧
      t.count C.TIME_LAUNCH_FULL = s.count C.TIME_LAUNCH_FULL + 1 ∧
      RegsKeptIn [R.BOND_SAT, fun _ => R.BUF_SAT, R.ETH_SAT, fun _ => R.FWD_SAT, fun _ => R.MEM_DDR_SAT,
        fun _ => R.MEM_INJ, fun _ => R.MEM_SAT, R.MEM_UE_LOG_B, R.PON_STAT_SAT, fun _ => R.SCH_SAT, R.SVL_SAT,
        fun _ => R.TIME_SAT] s t ∧
      OnlyChanges [.out, .freeCtr, .regs, .cnt, .arb, .fns, .pon, .bonding, .buf, .chan, .sched, .time, .clsIn,
        .fwd, .svl, .mac, .lanes, .mem, .ciph] s t)

/-- ENQUEUE and DEQUEUE (R422, R433 to R436, R441, R443, R444). -/
def Obligations.FramesEnterAndLeaveTheQueues : Prop :=
  (∀ (s : State) (cyc : Nat) (a : Arrival) (as : List Arrival) (sel node q : Nat), s.sched.arrivals = a :: as →
    a.group = none → a.node1 < 24 → s.selectNode a.node1 a.frame = (sel, node) → q = 8 * node + a.frame.queue % 8 →
    s.attached a.node1 node = true → (s.n2 (q / 8)).lineHold ≠ 2 →
    (s.sq q).depth + a.frame.bytes.length ≤ (s.sq q).limit a.frame.colour →
    (s.n1 a.node1).held + bufBytes a.frame ≤ (s.n1 a.node1).shareKb * 1024 → s.count C.SCH_ENQ < 0xFFFFFFFE →
    Completes (.enqueue cyc) s fun t =>
      t.sched.arrivals = as ∧
      (t.sq q).frames = (s.sq q).frames ++ [⟨a.frame, a.node1, max s.sched.pkt cyc / 125, none, 0⟩] ∧
      (t.n1 a.node1).held = (s.n1 a.node1).held + bufBytes a.frame ∧ t.count C.SCH_ENQ = s.count C.SCH_ENQ + 1 ∧
      (∀ k < 4096, k ≠ q → t.sq k = s.sq k) ∧ OnlyChanges [.sched, .cnt] s t) ∧
  (∀ (s : State) (cyc : Nat) (a : Arrival) (as : List Arrival) (sel node q : Nat), s.sched.arrivals = a :: as →
    a.group = none → a.node1 < 24 → s.selectNode a.node1 a.frame = (sel, node) → q = 8 * node + a.frame.queue % 8 →
    s.attached a.node1 node = true → (s.n2 (q / 8)).lineHold ≠ 2 →
    (s.sq q).limit a.frame.colour < (s.sq q).depth + a.frame.bytes.length → s.count C.SCH_DROP_FULL < 0xFFFFFFFE →
    Completes (.enqueue cyc) s fun t =>
      t.sched.arrivals = as ∧ (t.sq q).frames = (s.sq q).frames ∧ (t.n1 a.node1).held = (s.n1 a.node1).held ∧
      t.count C.SCH_DROP_FULL = s.count C.SCH_DROP_FULL + 1 ∧ (∀ k < 4096, k ≠ q → t.sq k = s.sq k) ∧
      RegsKeptIn [R.BOND_SAT, fun _ => R.BUF_SAT, R.ETH_SAT, R.PON_STAT_SAT, fun _ => R.SCH_SAT, R.SVL_SAT] s t ∧
      OnlyChanges [.freeCtr, .regs, .cnt, .arb, .fns, .pon, .bonding, .buf, .sched, .clsIn, .svl, .mac, .lanes] s t) ∧
  (∀ (s : State) (cyc : Nat) (a : Arrival) (as : List Arrival) (sel node : Nat), s.sched.arrivals = a :: as →
    a.group = none → a.node1 < 24 → s.selectNode a.node1 a.frame = (sel, node) → s.attached a.node1 node = false →
    s.count C.SCH_NO_NODE < 0xFFFFFFFE →
    Completes (.enqueue cyc) s fun t =>
      t.sched.arrivals = as ∧ t.count C.SCH_NO_NODE = s.count C.SCH_NO_NODE + 1 ∧ (∀ k < 4096, t.sq k = s.sq k) ∧
      RegsKeptIn [R.BOND_SAT, fun _ => R.BUF_SAT, R.ETH_SAT, R.PON_STAT_SAT, fun _ => R.SCH_SAT, R.SVL_SAT] s t ∧
      OnlyChanges [.freeCtr, .regs, .cnt, .arb, .fns, .pon, .bonding, .buf, .sched, .clsIn, .svl, .mac, .lanes] s t) ∧
  (∀ (s : State) (cyc : Nat) (a : Arrival) (as : List Arrival), s.sched.arrivals = a :: as → a.node1 = 28 →
    (s.n2 (dqQueue a.dq / 8)).lineHold ≠ 2 →
    (s.sq (dqQueue a.dq)).depth + a.frame.bytes.length ≤ (s.sq (dqQueue a.dq)).limit a.frame.colour →
    (s.n1 28).held + bufBytes a.frame ≤ (s.n1 28).shareKb * 1024 →
    Completes (.enqueue cyc) s fun t =>
      t.sched.arrivals = as ∧
      (t.sq (dqQueue a.dq)).frames = (s.sq (dqQueue a.dq)).frames ++ [⟨a.frame, 28, max s.sched.pkt cyc / 125, none,
        0⟩] ∧
      (∀ k < 4096, k ≠ dqQueue a.dq → t.sq k = s.sq k) ∧ OnlyChanges [.sched, .cnt] s t) ∧
  (∀ (s : State) (cyc : Nat), s.sched.arrivals = [] →
    exec (.enqueue cyc) s = .next (s)) ∧
  (∀ (s : State) (cyc : Nat) (a : Arrival) (as : List Arrival) (sel node q : Nat), s.sched.arrivals = a :: as →
    a.group = none → s.selectNode a.node1 a.frame = (sel, node) → a.node1 ≠ 28 → q = 8 * node + a.frame.queue % 8 →
    s.attached a.node1 node = true → (s.n2 (q / 8)).lineHold ≠ 2 →
    (s.sq q).depth + a.frame.bytes.length ≤ (s.sq q).limit a.frame.colour →
    (s.n1 a.node1).held + bufBytes a.frame ≤ (s.n1 a.node1).shareKb * 1024 → s.count C.SCH_ENQ < 0xFFFFFFFE →
    Completes (.enqueue cyc) s fun t =>
      t.sched.arrivals = as ∧
      (t.sq q).frames = (s.sq q).frames ++ [⟨a.frame, a.node1, max s.sched.pkt cyc / 125, none, 0⟩] ∧
      t.count C.SCH_ENQ = s.count C.SCH_ENQ + 1 ∧ (∀ k < 4096, k ≠ q → t.sq k = s.sq k) ∧
      (24 ≤ a.node1 ∧ a.node1 ≤ 27 → (t.ch (a.node1 - 24)).lull = .awake) ∧
      RegsKeptIn [R.BOND_SAT, fun _ => R.BUF_SAT, R.ETH_SAT, R.PON_STAT_SAT, fun _ => R.SCH_SAT, R.SVL_SAT] s t ∧
      OnlyChanges [.freeCtr, .regs, .cnt, .arb, .fns, .pon, .bonding, .buf, .sched, .clsIn, .svl, .mac, .lanes] s t) ∧
  (∀ (s : State) (cyc : Nat) (a : Arrival) (as : List Arrival) (sel node q : Nat), s.sched.arrivals = a :: as →
    a.group = none → s.selectNode a.node1 a.frame = (sel, node) → a.node1 ≠ 28 → q = 8 * node + a.frame.queue % 8 →
    s.attached a.node1 node = true → (s.n2 (q / 8)).lineHold = 2 → s.count C.SCH_DROP_DOWN < 0xFFFFFFFE →
    Completes (.enqueue cyc) s fun t =>
      t.sched.arrivals = as ∧ (t.sq q).frames = (s.sq q).frames ∧
      t.count C.SCH_DROP_DOWN = s.count C.SCH_DROP_DOWN + 1 ∧ (∀ k < 4096, k ≠ q → t.sq k = s.sq k) ∧
      RegsKeptIn [R.BOND_SAT, fun _ => R.BUF_SAT, R.ETH_SAT, R.PON_STAT_SAT, fun _ => R.SCH_SAT, R.SVL_SAT] s t ∧
      OnlyChanges [.freeCtr, .regs, .cnt, .arb, .fns, .pon, .bonding, .buf, .sched, .clsIn, .svl, .mac, .lanes] s t) ∧
  (∀ (s : State) (cyc : Nat) (a : Arrival) (as : List Arrival) (sel node q : Nat), s.sched.arrivals = a :: as →
    a.group = none → s.selectNode a.node1 a.frame = (sel, node) → a.node1 ≠ 28 → q = 8 * node + a.frame.queue % 8 →
    s.attached a.node1 node = true → (s.n2 (q / 8)).lineHold ≠ 2 →
    (s.sq q).depth + a.frame.bytes.length ≤ (s.sq q).limit a.frame.colour →
    (s.n1 a.node1).shareKb * 1024 < (s.n1 a.node1).held + bufBytes a.frame → s.count C.SCH_DROP_SHARE < 0xFFFFFFFE →
    Completes (.enqueue cyc) s fun t =>
      t.sched.arrivals = as ∧ (t.sq q).frames = (s.sq q).frames ∧
      t.count C.SCH_DROP_SHARE = s.count C.SCH_DROP_SHARE + 1 ∧ (t.n1 a.node1).shareTold = true ∧
      (∀ k < 4096, k ≠ q → t.sq k = s.sq k) ∧
      RegsKeptIn [R.BOND_SAT, fun _ => R.BUF_SAT, R.ETH_SAT, R.PON_STAT_SAT, fun _ => R.SCH_SAT, R.SVL_SAT] s t ∧
      OnlyChanges [.freeCtr, .regs, .cnt, .arb, .fns, .pon, .bonding, .buf, .sched, .clsIn, .svl, .mac, .lanes] s t) ∧
  (∀ (s : State) (cyc : Nat) (a : Arrival) (as : List Arrival) (g : Nat), s.sched.arrivals = a :: as →
    a.group = some g → a.node1 ≠ 28 → (s.group g).enabled = false → s.count C.SCH_NO_NODE < 0xFFFFFFFE →
    Completes (.enqueue cyc) s fun t =>
      t.sched.arrivals = as ∧ t.count C.SCH_NO_NODE = s.count C.SCH_NO_NODE + 1 ∧ (∀ k < 4096, t.sq k = s.sq k) ∧
      RegsKeptIn [R.BOND_SAT, fun _ => R.BUF_SAT, R.ETH_SAT, R.PON_STAT_SAT, fun _ => R.SCH_SAT, R.SVL_SAT] s t ∧
      OnlyChanges [.freeCtr, .regs, .cnt, .arb, .fns, .pon, .bonding, .buf, .sched, .clsIn, .svl, .mac, .lanes] s t) ∧
  (∀ (s : State) (cyc : Nat) (a : Arrival) (as : List Arrival) (g : Nat) (n b : Nat), s.sched.arrivals = a :: as →
    a.group = some g → a.node1 ≠ 28 → (s.group g).enabled = true →
    (({ s with sched := { s.sched with arrivals := as } }.pktTo cyc).spreadFrame g a.frame).2 = (n, b) →
    (({ s with sched := { s.sched with arrivals := as } }.pktTo cyc).spreadFrame g a.frame).1.bondNode ((({ s with sched := { s.sched with arrivals := as } }.pktTo cyc).spreadFrame g a.frame).1.group g) a.frame.bondClass n =
      none →
    (({ s with sched := { s.sched with arrivals := as } }.pktTo cyc).spreadFrame g a.frame).1.count C.SCH_NO_NODE < 0xFFFFFFFE →
    Completes (.enqueue cyc) s fun t =>
      t.sched.arrivals = as ∧
      t.count C.SCH_NO_NODE = (({ s with sched := { s.sched with arrivals := as } }.pktTo cyc).spreadFrame g a.frame).1.count C.SCH_NO_NODE +
        1 ∧
      (∀ k < 4096, t.sq k = (({ s with sched := { s.sched with arrivals := as } }.pktTo cyc).spreadFrame g a.frame).1.sq k) ∧
      RegsKeptIn [R.BOND_SAT, fun _ => R.BUF_SAT, R.ETH_SAT, R.PON_STAT_SAT, fun _ => R.SCH_SAT, R.SVL_SAT] s t ∧
      OnlyChanges [.freeCtr, .regs, .cnt, .arb, .fns, .pon, .bonding, .buf, .sched, .clsIn, .svl, .mac, .lanes] s t) ∧
  (∀ (s : State) (cyc : Nat) (a : Arrival) (as : List Arrival) (g : Nat) (n b k q : Nat),
    s.sched.arrivals = a :: as → a.group = some g → a.node1 ≠ 28 → (s.group g).enabled = true →
    (({ s with sched := { s.sched with arrivals := as } }.pktTo cyc).spreadFrame g a.frame).2 = (n, b) → n < 4 →
    (({ s with sched := { s.sched with arrivals := as } }.pktTo cyc).spreadFrame g a.frame).1.bondNode ((({ s with sched := { s.sched with arrivals := as } }.pktTo cyc).spreadFrame g a.frame).1.group g) a.frame.bondClass n =
      some k →
    q = 8 * k + a.frame.queue % 8 →
    (({ s with sched := { s.sched with arrivals := as } }.pktTo cyc).spreadFrame g a.frame).1.attached (24 + n) k =
      true →
    ((({ s with sched := { s.sched with arrivals := as } }.pktTo cyc).spreadFrame g a.frame).1.n2 (q / 8)).lineHold ≠ 2 →
    ((({ s with sched := { s.sched with arrivals := as } }.pktTo cyc).spreadFrame g a.frame).1.sq q).depth +
      a.frame.bytes.length ≤ ((({ s with sched := { s.sched with arrivals := as } }.pktTo cyc).spreadFrame g a.frame).1.sq q).limit a.frame.colour →
    ((({ s with sched := { s.sched with arrivals := as } }.pktTo cyc).spreadFrame g a.frame).1.n1 (24 + n)).held +
      bufBytes a.frame ≤ ((({ s with sched := { s.sched with arrivals := as } }.pktTo cyc).spreadFrame g a.frame).1.n1 (24 +
      n)).shareKb * 1024 →
    Completes (.enqueue cyc) s fun t =>
      t.sched.arrivals = as ∧
      (t.sq q).frames = ((({ s with sched := { s.sched with arrivals := as } }.pktTo cyc).spreadFrame g a.frame).1.sq q).frames ++
        [⟨a.frame, 24 + n, max s.sched.pkt cyc / 125, some (g, b), 0⟩] ∧
      (∀ j < 4096, j ≠ q → t.sq j = (({ s with sched := { s.sched with arrivals := as } }.pktTo cyc).spreadFrame g a.frame).1.sq j) ∧
      RegsKeptIn [R.BOND_SAT, fun _ => R.BUF_SAT, R.ETH_SAT, R.PON_STAT_SAT, fun _ => R.SCH_SAT, R.SVL_SAT] s t ∧
      OnlyChanges [.freeCtr, .regs, .cnt, .arb, .fns, .pon, .bonding, .buf, .sched, .clsIn, .svl, .mac, .lanes] s t) ∧
  (∀ (s : State) (g : Nat) (f : Frame),
    (s.bucketCount g (f.hash % 64) ≠ 0 ∨ (s.group g).spread = false ∨ (s.group g).usAct = 0 →
        s.spreadFrame g f = (s, (s.group g).bucket (f.hash % 64), f.hash % 64)) ∧
      (∀ n, s.bucketCount g (f.hash % 64) = 0 → (s.group g).spread = true → (s.group g).usAct ≠ 0 →
        (s.group g).spill < s.heldBytes (s.group g) ((s.group g).bucket (f.hash % 64)) →
        s.nextMember (s.group g) ((s.group g).bucket (f.hash % 64)) = some n → (s.group g).homeOf (f.hash % 64) = n →
        (s.spreadFrame g f).2 = (n, f.hash % 64))) ∧
  (∀ (s : State) (n : Fin 29) (cyc q : Nat) (x : QFrame), n.val < 24 → (s.macAt n.val).tx = none →
    (s.macAt n.val).link = true → ((s.pktTo cyc).serveNode1 n.val (fun _ => true)).2 = some (q, x) →
    s.count C.SCH_DEQ < 0xFFFFFFFE →
    Completes (.dequeue n cyc) s fun t =>
      (s.sq q).frames = x :: (t.sq q).frames ∧ (t.macAt n.val).tx = some x.frame ∧
      t.count C.SCH_DEQ = s.count C.SCH_DEQ + 1 ∧ (∀ k < 4096, k ≠ q → (t.sq k).frames = (s.sq k).frames) ∧
      (∀ m < 24, m ≠ n.val → t.macAt m = s.macAt m) ∧ RegsKeptIn [fun _ => R.BUF_SAT, R.HOST_DQ_SAT] s t ∧
      OnlyChanges [.regs, .cnt, .arb, .buf, .chan, .sched, .mac] s t) ∧
  (∀ (s : State) (n : Fin 29) (cyc : Nat),
    (24 ≤ n.val ∧ n.val ≤ 27 ∨ n.val < 24 ∧ ((s.macAt n.val).tx ≠ none ∨ (s.macAt n.val).link = false)) →
    exec (.dequeue n cyc) s = .next (s.pktTo cyc)) ∧
  (∀ (s : State) (cyc q : Nat) (x : QFrame), ((s.pktTo cyc).serveNode1 28 (fun _ => true)).2 = some (q, x) →
    4032 ≤ q → s.flag (F.HOST_DQ_CFG_ENABLE (q - 4032)) = true →
    Completes (.dequeue 28 cyc) s fun t =>
      (s.sq q).frames = x :: (t.sq q).frames ∧ (t.dq (q - 4032)).front = some x.frame ∧
      (∀ k < 64, k ≠ q - 4032 → t.dq k = s.dq k) ∧ RegsKeptIn [fun _ => R.BUF_SAT, R.HOST_DQ_SAT] s t ∧
      OnlyChanges [.regs, .cnt, .arb, .buf, .chan, .sched, .mac] s t) ∧
  (∀ (s : State) (n : Fin 29) (cyc : Nat), n.val < 24 → (s.macAt n.val).tx = none → (s.macAt n.val).link = true →
    ((s.pktTo cyc).serveNode1 n.val (fun _ => true)).2 = none →
    Completes (.dequeue n cyc) s fun t =>
      (∀ k < 4096, (t.sq k).frames = (s.sq k).frames) ∧ (∀ m < 24, t.macAt m = s.macAt m) ∧
      t.sched.pkt = max s.sched.pkt cyc ∧ OnlyChanges [.sched] s t) ∧
  (∀ (s : State) (cyc : Nat), ((s.pktTo cyc).serveNode1 28 (fun _ => true)).2 = none →
    Completes (.dequeue 28 cyc) s fun t =>
      (∀ k < 4096, (t.sq k).frames = (s.sq k).frames) ∧ t.chan = s.chan ∧ t.sched.pkt = max s.sched.pkt cyc ∧
      OnlyChanges [.sched] s t) ∧
  (∀ (s : State) (cyc q : Nat) (x : QFrame), ((s.pktTo cyc).serveNode1 28 (fun _ => true)).2 = some (q, x) →
    s.flag (F.HOST_DQ_CFG_ENABLE (q - 4032)) = false → s.count (C.DQ_DISABLED_DROP (q - 4032)) < 0xFFFFFFFE →
    Completes (.dequeue 28 cyc) s fun t =>
      (s.sq q).frames = x :: (t.sq q).frames ∧ t.chan = s.chan ∧
      t.count (C.DQ_DISABLED_DROP (q - 4032)) = s.count (C.DQ_DISABLED_DROP (q - 4032)) + 1 ∧
      RegsKeptIn [fun _ => R.BUF_SAT, R.HOST_DQ_SAT] s t ∧
      OnlyChanges [.regs, .cnt, .arb, .buf, .chan, .sched, .mac] s t)

/-- SCH_L1, SCH_L2, SCH_QUEUE, SCH_QUEUE_READ, SCH_SAMPLE, LINE_CTX_LOAD, LINE_CTX_READ, RECOVERY_ACCOUNTING_END,
SCH_STAT_SNAP. -/
def Obligations.SchedulingRecordsAreStoredAndRead : Prop :=
  (∀ (s : State) (p : Pkt) (first n : Nat) (hs : List (List Byte)), Taken 0x33F0 p s → p.target = 0 →
    ctxLoadLen p = none → first = p.ctxFirst → n = p.ctxCount → p.w 1 ≤ 1 → 0 < n → n ≤ 16 → first + n ≤ 192 →
    s.ddrReady = true → p.inline = true → hs = (List.range n).map (fun k => sliceB p.bytes (8 + 64 * k) 64) →
    firstBad (lineCheck first s hs) first hs = none →
    Ends (.lineCtxLoad p) 0x33F0 p s ⟨stDone, 0, []⟩ fun u =>
      (∀ k < n, (u.lineCtx (first + k)).host = sliceB p.bytes (8 + 64 * k) 64) ∧
      (∀ j < 192, (j < first ∨ first + n ≤ j) → u.lineCtx j = s.lineCtx j) ∧ (∀ k < 4096, u.sq k = s.sq k) ∧
      (∀ k < n, lineFollow (s.lineCtx (first + k)).host = false → lineFollow (u.lineCtx (first + k)).host = true →
        (u.n2 (lineNode (u.lineCtx (first + k)).host)).line = some (first + k) ∧
        (u.n2 (lineNode (u.lineCtx (first + k)).host)).lineHold = 1) ∧
      RegsKeptIn [fun _ => R.MEM_DDR_SAT, fun _ => R.MEM_INJ, fun _ => R.MEM_SAT, R.MEM_UE_LOG_B] s u ∧
      OnlyChanges [.regs, .cnt, .arb, .sched, .mem] (s.afterTake p) u) ∧
  (∀ (s : State) (p : Pkt) (first n : Nat) (hs : List (List Byte)), Taken 0x33F0 p s → p.target = 0 →
    ctxLoadLen p = none → first = p.ctxFirst → n = p.ctxCount → p.w 1 ≤ 1 → 0 < n → n ≤ 16 → first + n ≤ 192 →
    s.ddrReady = true → p.inline = false → (s.afterTake p).halves 0 first n = .inl hs →
    firstBad (lineCheck first s hs) first hs = none →
    Ends (.lineCtxLoad p) 0x33F0 p s ⟨stDone, 0, []⟩ fun u =>
      (∀ k < n, (u.lineCtx (first + k)).host = (hs[k]?).getD []) ∧
      (∀ j < 192, (j < first ∨ first + n ≤ j) → u.lineCtx j = s.lineCtx j) ∧ (∀ k < 4096, u.sq k = s.sq k) ∧
      (∀ k < n, lineFollow (s.lineCtx (first + k)).host = false → lineFollow (u.lineCtx (first + k)).host = true →
        (u.n2 (lineNode (u.lineCtx (first + k)).host)).line = some (first + k) ∧
        (u.n2 (lineNode (u.lineCtx (first + k)).host)).lineHold = 1) ∧
      RegsKeptIn [fun _ => R.MEM_DDR_SAT, fun _ => R.MEM_INJ, fun _ => R.MEM_SAT, R.MEM_UE_LOG_B] s u ∧
      OnlyChanges [.regs, .cnt, .arb, .sched, .mem] (s.afterTake p) u) ∧
  (∀ (s : State) (p : Pkt) (first n : Nat) (i : Nat), Taken 0x33F0 p s → p.target = 0 → ctxLoadLen p = none →
    first = p.ctxFirst → n = p.ctxCount → p.w 1 ≤ 1 → 0 < n → n ≤ 16 → first + n ≤ 192 → s.ddrReady = true →
    p.inline = false → (s.afterTake p).halves 0 first n = .inr i →
    Ends (.lineCtxLoad p) 0x33F0 p s ⟨stHwFault, i, []⟩ fun u =>
      (∀ j, (u.lineCtx j) = (s.lineCtx j)) ∧
      RegsKeptIn [fun _ => R.MEM_DDR_SAT, fun _ => R.MEM_INJ, fun _ => R.MEM_SAT, R.MEM_UE_LOG_B] s u ∧
      OnlyChanges [.regs, .cnt, .arb, .sched, .mem] (s.afterTake p) u) ∧
  (∀ (s : State) (p : Pkt) (first n : Nat) (hs : List (List Byte)) (i st : Nat), Taken 0x33F0 p s → p.target = 0 →
    ctxLoadLen p = none → first = p.ctxFirst → n = p.ctxCount → p.w 1 ≤ 1 → 0 < n → n ≤ 16 → first + n ≤ 192 →
    s.ddrReady = true → p.inline = true → hs = (List.range n).map (fun k => sliceB p.bytes (8 + 64 * k) 64) →
    firstBad (lineCheck first s hs) first hs = some (i, st) →
    Ends (.lineCtxLoad p) 0x33F0 p s ⟨st, i, []⟩ fun u =>
      OnlyChanges [] (s.afterTake p) u) ∧
  (∀ (s : State) (p : Pkt) (first n : Nat), Taken 0x33F0 p s → p.target = 0 → ctxLoadLen p = none →
    first = p.ctxFirst → n = p.ctxCount → p.w 1 ≤ 1 → 0 < n → n ≤ 16 → first + n ≤ 192 → s.ddrReady = false →
    Ends (.lineCtxLoad p) 0x33F0 p s ⟨stTimeout, 0, []⟩ fun u =>
      OnlyChanges [] (s.afterTake p) u) ∧
  (∀ (s : State) (p : Pkt) (first n : Nat), Taken 0x33F0 p s → p.target = 0 → ctxLoadLen p = none →
    first = p.ctxFirst → n = p.ctxCount → (n < 1 ∨ 16 < n ∨ 192 < first + n ∨ 1 < p.w 1) →
    Ends (.lineCtxLoad p) 0x33F0 p s ⟨stBadParam, 0, []⟩ fun u =>
      OnlyChanges [] (s.afterTake p) u) ∧
  (∀ (s : State) (p : Pkt) (first n : Nat), Taken 0x33F1 p s → p.target = 0 → p.length = 1 → first = p.ctxFirst →
    n = p.ctxCount → 0 < n → n ≤ 32 → first + n ≤ 192 →
    Ends (.lineCtxRead p) 0x33F1 p s ⟨stDone, 0,
      (List.range n).flatMap (fun k => fitB 64 (s.lineCtx (first + k)).host ++
      fitB 64 (s.lineCtx (first + k)).wb)⟩ fun u =>
      OnlyChanges [] (s.afterTake p) u) ∧
  (∀ (s : State) (p : Pkt) (first n : Nat), Taken 0x33F1 p s → p.target = 0 → p.length = 1 → first = p.ctxFirst →
    n = p.ctxCount → (n < 1 ∨ 32 < n ∨ 192 < first + n) →
    Ends (.lineCtxRead p) 0x33F1 p s ⟨stBadParam, 0, []⟩ fun u =>
      OnlyChanges [] (s.afterTake p) u) ∧
  (∀ (s : State) (p : Pkt) (b : List Byte), Taken 0x3301 p s → p.length = 5 → p.target.toNat < 29 → b = p.bytes →
    leAt b 0 1 = p.target.toNat → leAt b 1 1 ≤ 2 → leAt b 2 2 ≤ 4095 → leAt b 4 2 ≤ 511 → leAt b 6 2 ≤ 512 →
    64 ≤ leAt b 8 2 → leAt b 8 2 ≤ 49152 → leAt b 10 2 = 0 → shaperOk (b.drop 12) = true →
    Ends (.schL1 p) 0x3301 p s ⟨stDone, 0, []⟩ fun u =>
      (u.n1 p.target.toNat).sel = leAt b 1 1 ∧ (u.n1 p.target.toNat).selBase = leAt b 2 2 ∧
      (u.n1 p.target.toNat).nodeBase = leAt b 4 2 ∧ (u.n1 p.target.toNat).nodes = leAt b 6 2 ∧
      (u.n1 p.target.toNat).shareKb = leAt b 8 2 ∧ (u.n1 p.target.toNat).held = (s.n1 p.target.toNat).held ∧
      (u.n1 p.target.toNat).shaper = (s.n1 p.target.toNat).shaper.change (shaperFields (b.drop 12)).1 (shaperFields (b.drop 12)).2.1 (shaperFields (b.drop 12)).2.2.1 (shaperFields (b.drop 12)).2.2.2 s.sched.pkt ∧
      (∀ k < 29, k ≠ p.target.toNat → u.n1 k = s.n1 k) ∧ (∀ k < 4096, u.sq k = s.sq k) ∧
      RegsKeptIn [fun _ => R.MEM_INJ] s u ∧ OnlyChanges [.regs, .sched, .mem] (s.afterTake p) u) ∧
  (∀ (s : State) (p : Pkt), Taken 0x3301 p s → p.length = 5 → p.target.toNat < 29 →
    (leAt p.bytes 0 1 ≠ p.target.toNat ∨ 2 < leAt p.bytes 1 1 ∨ 4095 < leAt p.bytes 2 2 ∨ 511 < leAt p.bytes 4 2 ∨
      512 < leAt p.bytes 6 2 ∨ leAt p.bytes 8 2 < 64 ∨ 49152 < leAt p.bytes 8 2 ∨ leAt p.bytes 10 2 ≠ 0 ∨
      shaperOk (p.bytes.drop 12) = false) →
    Ends (.schL1 p) 0x3301 p s ⟨stBadParam, 0, []⟩ fun u =>
      OnlyChanges [] (s.afterTake p) u) ∧
  (∀ (s : State) (p : Pkt) (b : List Byte), Taken 0x3302 p s → p.length = 4 → p.target.toNat < 504 → b = p.bytes →
    leAt b 0 2 = p.target.toNat → leAt b 2 1 ≤ 28 → leAt b 3 1 ≠ 0 → leAt b 4 1 ≤ 8 → leAt b 5 3 = 0 →
    shaperOk (b.drop 8) = true → (leAt b 2 1 = (s.n2 p.target.toNat).parent ∨ s.nodeHolds p.target.toNat = false) →
    Ends (.schL2 p) 0x3302 p s ⟨stDone, 0, []⟩ fun u =>
      (u.n2 p.target.toNat).parent = leAt b 2 1 ∧ (u.n2 p.target.toNat).weight = leAt b 3 1 ∧
      (u.n2 p.target.toNat).spCount = leAt b 4 1 ∧ (u.n2 p.target.toNat).line = (s.n2 p.target.toNat).line ∧
      (u.n2 p.target.toNat).own = { en := (shaperFields (b.drop 8)).1, rate := (shaperFields (b.drop 8)).2.1, burst := (shaperFields (b.drop 8)).2.2.1, overhead := (shaperFields (b.drop 8)).2.2.2 } ∧
      ((s.n2 p.target.toNat).line = none ∨ (s.n2 p.target.toNat).shaper.en = false →
        (u.n2 p.target.toNat).shaper = (s.n2 p.target.toNat).shaper.change (shaperFields (b.drop 8)).1 (shaperFields (b.drop 8)).2.1 (shaperFields (b.drop 8)).2.2.1 (shaperFields (b.drop 8)).2.2.2 s.sched.pkt) ∧
      ((s.n2 p.target.toNat).line ≠ none → (s.n2 p.target.toNat).shaper.en = true →
        (u.n2 p.target.toNat).shaper = (s.n2 p.target.toNat).shaper.change true (s.n2 p.target.toNat).shaper.rate (shaperFields (b.drop 8)).2.2.1 (shaperFields (b.drop 8)).2.2.2 s.sched.pkt) ∧
      (∀ k < 512, k ≠ p.target.toNat → u.n2 k = s.n2 k) ∧ (∀ k < 4096, u.sq k = s.sq k) ∧
      RegsKeptIn [fun _ => R.MEM_INJ] s u ∧ OnlyChanges [.regs, .sched, .mem] (s.afterTake p) u) ∧
  (∀ (s : State) (p : Pkt), Taken 0x3302 p s → p.length = 4 → p.target.toNat < 512 →
    (leAt p.bytes 0 2 ≠ p.target.toNat ∨ 28 < leAt p.bytes 2 1 ∨ leAt p.bytes 3 1 = 0 ∨ 8 < leAt p.bytes 4 1 ∨
      leAt p.bytes 5 3 ≠ 0 ∨ shaperOk (p.bytes.drop 8) = false) →
    Ends (.schL2 p) 0x3302 p s ⟨stBadParam, 0, []⟩ fun u =>
      OnlyChanges [] (s.afterTake p) u) ∧
  (∀ (s : State) (p : Pkt), Taken 0x3302 p s → p.length = 4 → p.target.toNat < 512 →
    leAt p.bytes 0 2 = p.target.toNat → leAt p.bytes 2 1 ≤ 28 → leAt p.bytes 3 1 ≠ 0 → leAt p.bytes 4 1 ≤ 8 →
    leAt p.bytes 5 3 = 0 → shaperOk (p.bytes.drop 8) = true →
    (504 ≤ p.target.toNat ∨ (leAt p.bytes 2 1 ≠ (s.n2 p.target.toNat).parent ∧ s.nodeHolds p.target.toNat = true)) →
    Ends (.schL2 p) 0x3302 p s ⟨stBusy, 0, []⟩ fun u =>
      OnlyChanges [] (s.afterTake p) u) ∧
  (∀ (s : State) (p : Pkt), Taken 0x3301 p s → p.length = 5 → 29 ≤ p.target.toNat →
    Ends (.schL1 p) 0x3301 p s ⟨stBadTarget, 0, []⟩ fun u =>
      OnlyChanges [] (s.afterTake p) u) ∧
  (∀ (s : State) (p : Pkt), Taken 0x3302 p s → p.length = 4 → 512 ≤ p.target.toNat →
    Ends (.schL2 p) 0x3302 p s ⟨stBadTarget, 0, []⟩ fun u =>
      OnlyChanges [] (s.afterTake p) u) ∧
  (∀ (s : State) (p : Pkt), Taken 0x3303 p s → p.length = 5 → 4096 ≤ p.target.toNat →
    Ends (.schQueue p) 0x3303 p s ⟨stBadTarget, 0, []⟩ fun u =>
      OnlyChanges [] (s.afterTake p) u) ∧
  (∀ (s : State) (p : Pkt), Taken 0x3304 p s → p.length = 0 → 4096 ≤ p.target.toNat →
    Ends (.schQueueRead p) 0x3304 p s ⟨stBadTarget, 0, []⟩ fun u =>
      OnlyChanges [] (s.afterTake p) u) ∧
  (∀ (s : State) (p : Pkt), Taken 0x3305 p s → p.length = 5 → p.target ≠ 0 →
    Ends (.schSample p) 0x3305 p s ⟨stBadTarget, 0, []⟩ fun u =>
      OnlyChanges [] (s.afterTake p) u) ∧
  (∀ (s : State) (p : Pkt), Taken 0x3305 p s → p.length = 5 → p.target = 0 →
    (1 < leAt p.bytes 0 1 ∨ 31 < leAt p.bytes 16 1 ∨ leAt p.bytes 8 8 % 64 ≠ 0 ∨ leAt p.bytes 8 8 < 0x10000000) →
    Ends (.schSample p) 0x3305 p s ⟨stBadParam, 0, []⟩ fun u =>
      OnlyChanges [] (s.afterTake p) u) ∧
  (∀ (s : State) (p : Pkt), Taken 0x3303 p s → p.length = 5 → p.target.toNat < 4096 →
    (leAt p.bytes 0 2 ≠ p.target.toNat ∨ leAt p.bytes 2 1 = 0 ∨ leAt p.bytes 4 2 = 0 ∨ 49152 < leAt p.bytes 4 2 ∨
      100 < leAt p.bytes 6 1 ∨ 100 < leAt p.bytes 7 1 ∨ 1 < leAt p.bytes 8 1 ∨ leAt p.bytes 3 1 ≠ 0 ∨
      leAt p.bytes 9 3 ≠ 0 ∨ shaperOk (p.bytes.drop 12) = false) →
    Ends (.schQueue p) 0x3303 p s ⟨stBadParam, 0, []⟩ fun u =>
      OnlyChanges [] (s.afterTake p) u) ∧
  (∀ (s : State) (p : Pkt) (b : List Byte), Taken 0x3303 p s → p.length = 5 → p.target.toNat < 4096 → b = p.bytes →
    leAt b 0 2 = p.target.toNat → leAt b 2 1 ≠ 0 → leAt b 4 2 ≠ 0 → leAt b 4 2 ≤ 49152 → leAt b 6 1 ≤ 100 →
    leAt b 7 1 ≤ 100 → leAt b 8 1 ≤ 1 → leAt b 3 1 = 0 → leAt b 9 3 = 0 → shaperOk (b.drop 12) = true →
    Ends (.schQueue p) 0x3303 p s ⟨stDone, 0, []⟩ fun u =>
      (u.sq p.target.toNat).weight = leAt b 2 1 ∧ (u.sq p.target.toNat).maxKb = leAt b 4 2 ∧
      (u.sq p.target.toNat).yelPct = leAt b 6 1 ∧ (u.sq p.target.toNat).redPct = leAt b 7 1 ∧
      (u.sq p.target.toNat).sample = bit (leAt b 8 1) 0 ∧ (u.sq p.target.toNat).dropped = 0 ∧
      (u.sq p.target.toNat).shaper = (s.sq p.target.toNat).shaper.change (shaperFields (b.drop 12)).1 (shaperFields (b.drop 12)).2.1 (shaperFields (b.drop 12)).2.2.1 (shaperFields (b.drop 12)).2.2.2 s.sched.pkt ∧
      (u.sq p.target.toNat).frames = (s.sq p.target.toNat).frames ∧
      (∀ k < 4096, k ≠ p.target.toNat → u.sq k = s.sq k) ∧ RegsKeptIn [fun _ => R.MEM_INJ] s u ∧
      OnlyChanges [.regs, .sched, .mem] (s.afterTake p) u) ∧
  (∀ (s : State) (p : Pkt), Taken 0x3304 p s → p.length = 0 → p.target.toNat < 4096 →
    Ends (.schQueueRead p) 0x3304 p s ⟨stDone, 0,
      leBytes 4 (s.sq p.target.toNat).depth ++ leBytes 4 (s.sq p.target.toNat).frames.length ++
      leBytes 4 (s.sq p.target.toNat).dropped⟩ fun u =>
      OnlyChanges [] (s.afterTake p) u) ∧
  (∀ (s : State) (p : Pkt) (b : List Byte), Taken 0x3305 p s → p.length = 5 → p.target = 0 → b = p.bytes →
    leAt b 0 1 ≤ 1 → leAt b 16 1 ≤ 31 → leAt b 8 8 % 64 = 0 → 0x10000000 ≤ leAt b 8 8 →
    Ends (.schSample p) 0x3305 p s ⟨stDone, 0, []⟩ fun u =>
      u.fld F.SCH_SAMPLE_CFG_PERIOD = leAt b 1 1 ∧ u.fld F.SCH_SAMPLE_CFG_EN = leAt b 0 1 ∧
      u.addr64 R.SCH_SAMPLE_BASE_LO R.SCH_SAMPLE_BASE_HI = leAt b 8 8 ∧ u.fld F.SCH_SAMPLE_SIZE_SIZE = leAt b 16 1 ∧
      RegsKept [R.SCH_SAMPLE_CFG, R.SCH_SAMPLE_BASE_LO, R.SCH_SAMPLE_BASE_HI, R.SCH_SAMPLE_SIZE] s u ∧
      OnlyChanges [.regs] (s.afterTake p) u) ∧
  (∀ (s : State), s.sched.acct = 2 → s.sched.recoveryTicks = 0 →
    exec (.recoveryAccountingEnd) s =
      .next (({ s with sched := { s.sched with acct := 0 } }).raiseRow 0x0084 3 15 5 3 [(1, 2), (1, 0), (1, 1)])) ∧
  (∀ (s : State), (s.sched.acct ≠ 2 ∨ s.sched.recoveryTicks ≠ 0) →
    exec (.recoveryAccountingEnd) s = .next (s)) ∧
  (∀ (s : State),
    Completes (.schStatSnap) s fun t =>
      (∀ x ∈ schCtrs, t.bankAt x.off = s.count x % 2 ^ 32) ∧ OnlyChanges [.bank] s t)

/-- KEY_COMMIT, KEY_ERASE, CIPH_UNWRAP, CIPH_SLOT_READ, CIPH_RQ, CIPH_RQ_TAIL_WRITE, ENTROPY_HEALTH_FAIL,
CIPH_STAT_SNAP (R482 to R501). The wrapping key is an opaque constant: both outcomes of the unwrapping are stated. -/
def Obligations.KeysEnterAndLeaveTheKeyStore : Prop :=
  (∀ (s : State), 32 ≤ s.fld F.CIPH_KEY_SEL_SLOT → s.fld F.CIPH_KEY_SEL_LEN ≠ 3 → s.fld F.CIPH_KEY_SEL_USAGE ≠ 3 →
    s.injection 3 = none →
    Completes (.keyCommit) s fun t =>
      t.slot (s.fld F.CIPH_KEY_SEL_SLOT) = ⟨1, s.fld F.CIPH_KEY_SEL_LEN, s.fld F.CIPH_KEY_SEL_USAGE, 0⟩ ∧
      t.keyWord (s.fld F.CIPH_KEY_SEL_SLOT) =
        encodeWord (ofLe ((((List.range 8).flatMap (fun k => leBytes 4 (s.rd (R.CIPH_KEY_DATA k)).toNat)).take (16 +
        8 * s.fld F.CIPH_KEY_SEL_LEN)))) ∧
      (∀ k, k ≠ s.fld F.CIPH_KEY_SEL_SLOT → t.slot k = s.slot k ∧ t.keyWord k = s.keyWord k) ∧
      t.rd R.CIPH_KEY_SEL = 0 ∧ (∀ k < 8, t.rd (R.CIPH_KEY_DATA k) = 0) ∧
      RegsKept ([R.CIPH_KEY_SEL] ++ (List.range 8).map R.CIPH_KEY_DATA) s t ∧ OnlyChanges [.ciph, .regs] s t) ∧
  (∀ (s : State), (s.fld F.CIPH_KEY_SEL_SLOT < 32 ∨ s.fld F.CIPH_KEY_SEL_LEN = 3 ∨ s.fld F.CIPH_KEY_SEL_USAGE = 3) →
    (s.source 0x00A4).queue.length < 16 →
    Completes (.keyCommit) s fun t =>
      t.flag F.CIPH_STATUS_KEY_REFUSED = true ∧
      (t.source 0x00A4).queue = (s.source 0x00A4).queue ++ [⟨2, 0x1104, 4, evPayload [(2,
        s.fld F.CIPH_KEY_SEL_SLOT), (1, 1), (1, if s.fld F.CIPH_KEY_SEL_SLOT < 32
        then 0 else if s.fld F.CIPH_KEY_SEL_LEN = 3 then 1 else 2)], s.arb.raised⟩] ∧
      t.rd R.CIPH_KEY_SEL = 0 ∧ (∀ k < 8, t.rd (R.CIPH_KEY_DATA k) = 0) ∧
      RegsKept ([R.CIPH_STATUS] ++ [R.CIPH_KEY_SEL] ++ (List.range 8).map R.CIPH_KEY_DATA) s t ∧
      OnlyChanges [.arb, .regs] s t) ∧
  (∀ (s : State), 32 ≤ s.fld F.CIPH_KEY_SEL_SLOT →
    Completes (.keyErase) s fun t =>
      t.slot (s.fld F.CIPH_KEY_SEL_SLOT) = {} ∧ t.keyWord (s.fld F.CIPH_KEY_SEL_SLOT) = 0 ∧
      (∀ k, k ≠ s.fld F.CIPH_KEY_SEL_SLOT → t.slot k = s.slot k ∧ t.keyWord k = s.keyWord k) ∧
      t.rd R.CIPH_KEY_SEL = 0 ∧ (∀ k < 8, t.rd (R.CIPH_KEY_DATA k) = 0) ∧
      RegsKept ([R.CIPH_KEY_SEL] ++ (List.range 8).map R.CIPH_KEY_DATA) s t ∧ OnlyChanges [.ciph, .regs] s t) ∧
  (∀ (s : State), s.fld F.CIPH_KEY_SEL_SLOT < 32 → (s.source 0x00A4).queue.length < 16 →
    Completes (.keyErase) s fun t =>
      t.flag F.CIPH_STATUS_KEY_REFUSED = true ∧
      (t.source 0x00A4).queue = (s.source 0x00A4).queue ++ [⟨2, 0x1104, 4, evPayload [(2,
        s.fld F.CIPH_KEY_SEL_SLOT), (1, 2), (1, 0)], s.arb.raised⟩] ∧
      t.rd R.CIPH_KEY_SEL = 0 ∧ (∀ k < 8, t.rd (R.CIPH_KEY_DATA k) = 0) ∧
      RegsKept ([R.CIPH_STATUS] ++ [R.CIPH_KEY_SEL] ++ (List.range 8).map R.CIPH_KEY_DATA) s t ∧
      OnlyChanges [.arb, .regs] s t) ∧
  (∀ (s : State) (p : Pkt), Taken 0x5001 p s → (p.length = 10 ∨ p.length = 12 ∨ p.length = 14) →
    32 ≤ p.target.toNat → p.target.toNat < 1024 → s.injection 3 = none → beAt p.bytes 0 4 = 0x46563434 →
    leAt p.bytes 4 1 = 1 → leAt p.bytes 5 1 ≤ 2 → leAt p.bytes 6 1 ≤ 2 → leAt p.bytes 7 1 = 0 →
    leAt p.bytes 10 2 = 0 → p.bytes.length = 40 + 8 * leAt p.bytes 5 1 →
    crc32 ((p.bytes.take 12 ++ p.bytes.drop 16).map (·.toNat)) = beAt p.bytes 12 4 →
    let r := unwrapKey (beNat 32 Config.wrapKey.toNat) ((p.bytes.drop 16).map (·.toNat))
    ∃ u e, exec (.ciphUnwrap p) s = .next (u.endCmd (p.echo 0x5001) e) ∧ OnlyChanges [.ciph] (s.afterTake p) u ∧
      (∀ k, k ≠ p.target.toNat → u.slot k = s.slot k ∧ u.keyWord k = s.keyWord k) ∧
      (natBe r.1 = 0xA6A6A6A6A6A6A6A6 → e = ⟨stDone, 0, []⟩ ∧
        u.slot p.target.toNat = ⟨1, leAt p.bytes 5 1, leAt p.bytes 6 1, 0⟩ ∧
        u.keyWord p.target.toNat = encodeWord (ofLe ((r.2.take (16 + 8 * leAt p.bytes 5 1)).map (BitVec.ofNat 8)))) ∧
      (natBe r.1 ≠ 0xA6A6A6A6A6A6A6A6 → e = ⟨stBadParam, 4, []⟩ ∧ u.ciph = s.ciph)) ∧
  (∀ (s : State) (p : Pkt), Taken 0x5002 p s → p.length = 0 → p.target.toNat < 1024 →
    Ends (.ciphSlotRead p) 0x5002 p s ⟨stDone, 0,
      leBytes 1 (s.slot p.target.toNat).state ++ leBytes 1 (s.slot p.target.toNat).len ++
      leBytes 1 (s.slot p.target.toNat).usage ++ leBytes 5 0 ++ leBytes 8 (s.slot p.target.toNat).counter⟩ fun u =>
      OnlyChanges [] (s.afterTake p) u) ∧
  (∀ (s : State) (p : Pkt), Taken 0x5003 p s → p.length = 5 → p.target = 0 → p.w 1 % 64 = 0 → p.w 3 % 32 = 0 →
    Ends (.ciphRq p) 0x5003 p s ⟨stDone, 0, []⟩ fun u =>
      u.rd R.CIPH_RQ_CFG = s.rwAfter R.CIPH_RQ_CFG (p.w 0) ∧
      u.rd R.CIPH_RQ_BASE_LO = s.rwAfter R.CIPH_RQ_BASE_LO (p.w 1) ∧
      u.rd R.CIPH_RQ_BASE_HI = s.rwAfter R.CIPH_RQ_BASE_HI (p.w 2) ∧
      u.rd R.CIPH_RP_BASE_LO = s.rwAfter R.CIPH_RP_BASE_LO (p.w 3) ∧
      u.rd R.CIPH_RP_BASE_HI = s.rwAfter R.CIPH_RP_BASE_HI (p.w 4) ∧
      RegsKept [R.CIPH_RQ_CFG, R.CIPH_RQ_BASE_LO, R.CIPH_RQ_BASE_HI, R.CIPH_RP_BASE_LO, R.CIPH_RP_BASE_HI] s u ∧
      OnlyChanges [.regs] (s.afterTake p) u) ∧
  (∀ (s : State), 32 ≤ s.fld F.CIPH_KEY_SEL_SLOT → s.fld F.CIPH_KEY_SEL_LEN ≠ 3 → s.fld F.CIPH_KEY_SEL_USAGE ≠ 3 →
    Completes (.keyCommit) s fun t =>
      t.slot (s.fld F.CIPH_KEY_SEL_SLOT) = ⟨1, s.fld F.CIPH_KEY_SEL_LEN, s.fld F.CIPH_KEY_SEL_USAGE, 0⟩ ∧
      (∀ k, k ≠ s.fld F.CIPH_KEY_SEL_SLOT → t.slot k = s.slot k ∧ t.keyWord k = s.keyWord k) ∧
      t.rd R.CIPH_KEY_SEL = 0 ∧ (∀ k < 8, t.rd (R.CIPH_KEY_DATA k) = 0) ∧
      RegsKeptIn [R.CIPH_KEY_DATA, fun _ => R.CIPH_KEY_SEL, fun _ => R.CIPH_STATUS, fun _ => R.MEM_INJ] s t ∧
      OnlyChanges [.regs, .arb, .ciph] s t) ∧
  (∀ (s : State) (p : Pkt), Taken 0x5001 p s → (p.length = 10 ∨ p.length = 12 ∨ p.length = 14) →
    32 ≤ p.target.toNat → p.target.toNat < 1024 → beAt p.bytes 0 4 = 0x46563434 → leAt p.bytes 4 1 = 1 →
    leAt p.bytes 5 1 ≤ 2 → leAt p.bytes 6 1 ≤ 2 → leAt p.bytes 7 1 = 0 → leAt p.bytes 10 2 = 0 →
    p.bytes.length = 40 + 8 * leAt p.bytes 5 1 →
    crc32 ((p.bytes.take 12 ++ p.bytes.drop 16).map (·.toNat)) = beAt p.bytes 12 4 →
    let r := unwrapKey (beNat 32 Config.wrapKey.toNat) ((p.bytes.drop 16).map (·.toNat))
    ∃ u e, exec (.ciphUnwrap p) s = .next (u.endCmd (p.echo 0x5001) e) ∧
      OnlyChanges [.ciph, .regs, .mem] (s.afterTake p) u ∧
      RegsKeptIn [fun _ => R.MEM_INJ] s u ∧ (∀ k, k ≠ p.target.toNat → u.slot k = s.slot k ∧
        u.keyWord k = s.keyWord k) ∧
      (natBe r.1 = 0xA6A6A6A6A6A6A6A6 → u.slot p.target.toNat = ⟨1, leAt p.bytes 5 1, leAt p.bytes 6 1, 0⟩)) ∧
  (∀ (s : State) (p : Pkt), Taken 0x5001 p s → (p.length = 10 ∨ p.length = 12 ∨ p.length = 14) →
    32 ≤ p.target.toNat → p.target.toNat < 1024 →
    (beAt p.bytes 0 4 ≠ 0x46563434 ∨ leAt p.bytes 4 1 ≠ 1 ∨ 2 < leAt p.bytes 5 1 ∨ 2 < leAt p.bytes 6 1 ∨
      leAt p.bytes 7 1 ≠ 0 ∨ leAt p.bytes 10 2 ≠ 0) →
    Ends (.ciphUnwrap p) 0x5001 p s ⟨stBadParam, 1, []⟩ fun u =>
      OnlyChanges [] (s.afterTake p) u) ∧
  (∀ (s : State) (p : Pkt), Taken 0x5001 p s → (p.length = 10 ∨ p.length = 12 ∨ p.length = 14) →
    32 ≤ p.target.toNat → p.target.toNat < 1024 → beAt p.bytes 0 4 = 0x46563434 → leAt p.bytes 4 1 = 1 →
    leAt p.bytes 5 1 ≤ 2 → leAt p.bytes 6 1 ≤ 2 → leAt p.bytes 7 1 = 0 → leAt p.bytes 10 2 = 0 →
    p.bytes.length ≠ 40 + 8 * leAt p.bytes 5 1 →
    Ends (.ciphUnwrap p) 0x5001 p s ⟨stBadParam, 2, []⟩ fun u =>
      OnlyChanges [] (s.afterTake p) u) ∧
  (∀ (s : State) (p : Pkt), Taken 0x5001 p s → (p.length = 10 ∨ p.length = 12 ∨ p.length = 14) →
    32 ≤ p.target.toNat → p.target.toNat < 1024 → beAt p.bytes 0 4 = 0x46563434 → leAt p.bytes 4 1 = 1 →
    leAt p.bytes 5 1 ≤ 2 → leAt p.bytes 6 1 ≤ 2 → leAt p.bytes 7 1 = 0 → leAt p.bytes 10 2 = 0 →
    p.bytes.length = 40 + 8 * leAt p.bytes 5 1 →
    crc32 ((p.bytes.take 12 ++ p.bytes.drop 16).map (·.toNat)) ≠ beAt p.bytes 12 4 →
    Ends (.ciphUnwrap p) 0x5001 p s ⟨stBadParam, 3, []⟩ fun u =>
      OnlyChanges [] (s.afterTake p) u) ∧
  (∀ (s : State) (p : Pkt), Taken 0x5001 p s → (p.length = 10 ∨ p.length = 12 ∨ p.length = 14) →
    (p.target.toNat < 32 ∨ 1024 ≤ p.target.toNat) →
    Ends (.ciphUnwrap p) 0x5001 p s ⟨stBadTarget, 0, []⟩ fun u =>
      OnlyChanges [] (s.afterTake p) u) ∧
  (∀ (s : State) (p : Pkt), Taken 0x5002 p s → p.length = 0 → 1024 ≤ p.target.toNat →
    Ends (.ciphSlotRead p) 0x5002 p s ⟨stBadTarget, 0, []⟩ fun u =>
      OnlyChanges [] (s.afterTake p) u) ∧
  (∀ (s : State) (p : Pkt), Taken 0x5003 p s → p.length = 5 → p.target = 0 → (p.w 1 % 64 ≠ 0 ∨ p.w 3 % 32 ≠ 0) →
    Ends (.ciphRq p) 0x5003 p s ⟨stBadParam, 0, []⟩ fun u =>
      OnlyChanges [] (s.afterTake p) u) ∧
  (∀ (s : State) (p : Pkt), Taken 0x5003 p s → p.length = 5 → p.target ≠ 0 →
    Ends (.ciphRq p) 0x5003 p s ⟨stBadTarget, 0, []⟩ fun u =>
      OnlyChanges [] (s.afterTake p) u) ∧
  (∀ (s : State) (v : BitVec 16), (v.toNat + 65536 - s.ciph.rqHead) % 65536 ≤ 256 →
    Completes (.ciphRqTailWrite v) s fun t =>
      t.fld F.CIPH_RQ_TAIL_TAIL = v.toNat ∧ RegsKept [R.CIPH_RQ_TAIL] s t ∧ OnlyChanges [.regs] s t) ∧
  (∀ (s : State) (v : BitVec 16), 256 < (v.toNat + 65536 - s.ciph.rqHead) % 65536 →
    s.count C.CIPH_BAD_REQ < 0xFFFFFFFE →
    Completes (.ciphRqTailWrite v) s fun t =>
      t.count C.CIPH_BAD_REQ = s.count C.CIPH_BAD_REQ + 1 ∧ OnlyChanges [.cnt] s t) ∧
  (∀ (s : State) (test : Byte), s.ciph.entropyFail = false → (s.source 0x00A4).queue.length < 16 →
    Completes (.entropyHealthFail test) s fun t =>
      t.ciph = { s.ciph with entropyFail := true } ∧
      (t.source 0x00A4).queue = (s.source 0x00A4).queue ++ [⟨0, 0x1101, 4, evPayload [(1, test.toNat)],
        s.arb.raised⟩] ∧
      OnlyChanges [.arb, .ciph] s t) ∧
  (∀ (s : State) (test : Byte), s.ciph.entropyFail = true →
    exec (.entropyHealthFail test) s = .next (s)) ∧
  (∀ (s : State),
    Completes (.ciphStatSnap) s fun t =>
      (∀ x ∈ ciphCtrs, t.bankAt x.off = s.count x % 2 ^ 32) ∧ OnlyChanges [.bank] s t)

/-- CTR_ENCRYPT, CTR_DECRYPT, GCM_ENCRYPT, GCM_DECRYPT, CMAC_GENERATE, CMAC_VERIFY (R490 to R498). AES, GCM and
CMAC themselves are the public standards (log 30). -/
def Obligations.RequestsEncryptDecryptAndAuthenticate : Prop :=
  (∀ (s : State) (desc data : List Byte) (key m : List Nat), s.flag F.CIPH_RQ_CFG_ENABLE = true → 0 < s.rqPosted →
    s.ciph.entropyFail = false → leAt desc 0 1 = 1 → badRequest 1 desc = false →
    (s.slot (leAt desc 2 2)).state = 1 → (s.slot (leAt desc 2 2)).usage = usageOf 1 →
    (s.readKey (leAt desc 2 2)).2 = some key → m = (fitB (leAt desc 4 4) data).map (·.toNat) →
    Completes (.ctrEncrypt desc data none) s fun t =>
      (0 < m.length → .hostWrite 4 (leAt desc 24 8) ((aesCtr key ((beNat 4 Config.fuseSalt.toNat ++
        beNat 8 (s.slot (leAt desc 2 2)).counter) ++ [0, 0, 0, 0]) m).map (BitVec.ofNat 8)) ∈ t.out) ∧
      .hostWrite 4 (s.addr64 R.CIPH_RP_BASE_LO R.CIPH_RP_BASE_HI +
        32 * (s.ciph.rqHead % 256)) (rqReply 0 0 (leAt desc 2 2) m.length ((beNat 4 Config.fuseSalt.toNat ++
        beNat 8 (s.slot (leAt desc 2 2)).counter) ++ [0, 0, 0, 0]) (sliceB desc 56 8)) ∈ t.out ∧
      (t.slot (leAt desc 2 2)).counter = ((s.slot (leAt desc 2 2)).counter + 1) % 2 ^ 64 ∧
        (t.slot (leAt desc 2 2)).state = (if (s.slot (leAt desc 2 2)).counter = 2 ^ 64 - 1 then 2 else 1) ∧
      (∀ k < 1024, k ≠ leAt desc 2 2 → t.slot k = s.slot k) ∧ t.ciph.rqHead = (s.ciph.rqHead + 1) % 65536 ∧
      t.count C.CIPH_REQ = (s.count C.CIPH_REQ + 1) % 2 ^ 64 ∧
      RegsKeptIn [fun _ => R.CIPH_RQ_CFG, fun _ => R.CIPH_SAT, fun _ => R.MEM_DDR_SAT, fun _ => R.MEM_SAT,
        R.MEM_UE_LOG_B] s t ∧
      OnlyChanges [.out, .regs, .cnt, .arb, .mem, .ciph] s t) ∧
  (∀ (s : State) (desc data : List Byte) (key m : List Nat), s.flag F.CIPH_RQ_CFG_ENABLE = true → 0 < s.rqPosted →
    s.ciph.entropyFail = false → leAt desc 0 1 = 2 → badRequest 2 desc = false →
    ((s.slot (leAt desc 2 2)).state = 1 ∨ (s.slot (leAt desc 2 2)).state = 2) →
    (s.slot (leAt desc 2 2)).usage = usageOf 2 → (s.readKey (leAt desc 2 2)).2 = some key →
    m = (fitB (leAt desc 4 4) data).map (·.toNat) →
    Completes (.ctrDecrypt desc data none) s fun t =>
      (0 < m.length → .hostWrite 4 (leAt desc 24 8) ((aesCtr key ((sliceB desc 40 16).map (·.toNat)) m).map (BitVec.ofNat 8)) ∈ t.out) ∧
      .hostWrite 4 (s.addr64 R.CIPH_RP_BASE_LO R.CIPH_RP_BASE_HI +
        32 * (s.ciph.rqHead % 256)) (rqReply 0 0 (leAt desc 2 2) m.length [] (sliceB desc 56 8)) ∈ t.out ∧
      t.slot (leAt desc 2 2) = s.slot (leAt desc 2 2) ∧ (∀ k < 1024, k ≠ leAt desc 2 2 → t.slot k = s.slot k) ∧
      t.ciph.rqHead = (s.ciph.rqHead + 1) % 65536 ∧ t.count C.CIPH_REQ = (s.count C.CIPH_REQ + 1) % 2 ^ 64 ∧
      RegsKeptIn [fun _ => R.CIPH_RQ_CFG, fun _ => R.CIPH_SAT, fun _ => R.MEM_DDR_SAT, fun _ => R.MEM_SAT,
        R.MEM_UE_LOG_B] s t ∧
      OnlyChanges [.out, .regs, .cnt, .arb, .mem, .ciph] s t) ∧
  (∀ (s : State) (desc data aad : List Byte) (key m a : List Nat), s.flag F.CIPH_RQ_CFG_ENABLE = true →
    0 < s.rqPosted → s.ciph.entropyFail = false → leAt desc 0 1 = 3 → badRequest 3 desc = false →
    (s.slot (leAt desc 2 2)).state = 1 → (s.slot (leAt desc 2 2)).usage = usageOf 3 →
    (s.readKey (leAt desc 2 2)).2 = some key → m = (fitB (leAt desc 4 4) data).map (·.toNat) →
    a = (fitB (leAt desc 8 2) aad).map (·.toNat) →
    Completes (.gcmEncrypt desc data aad none) s fun t =>
      .hostWrite 4 (leAt desc 24 8) ((gcmCtr key (beNat 4 Config.fuseSalt.toNat ++
        beNat 8 (s.slot (leAt desc 2 2)).counter) m ++ gcmTag key (beNat 4 Config.fuseSalt.toNat ++
        beNat 8 (s.slot (leAt desc 2 2)).counter) a (gcmCtr key (beNat 4 Config.fuseSalt.toNat ++
        beNat 8 (s.slot (leAt desc 2 2)).counter) m)).map (BitVec.ofNat 8)) ∈ t.out ∧
      .hostWrite 4 (s.addr64 R.CIPH_RP_BASE_LO R.CIPH_RP_BASE_HI +
        32 * (s.ciph.rqHead % 256)) (rqReply 0 0 (leAt desc 2 2) m.length ((beNat 4 Config.fuseSalt.toNat ++
        beNat 8 (s.slot (leAt desc 2 2)).counter) ++ [0, 0, 0, 0]) (sliceB desc 56 8)) ∈ t.out ∧
      (t.slot (leAt desc 2 2)).counter = ((s.slot (leAt desc 2 2)).counter + 1) % 2 ^ 64 ∧
        (t.slot (leAt desc 2 2)).state = (if (s.slot (leAt desc 2 2)).counter = 2 ^ 64 - 1 then 2 else 1) ∧
      (∀ k < 1024, k ≠ leAt desc 2 2 → t.slot k = s.slot k) ∧ t.ciph.rqHead = (s.ciph.rqHead + 1) % 65536 ∧
      t.count C.CIPH_REQ = (s.count C.CIPH_REQ + 1) % 2 ^ 64 ∧
      RegsKeptIn [fun _ => R.CIPH_RQ_CFG, fun _ => R.CIPH_SAT, fun _ => R.MEM_DDR_SAT, fun _ => R.MEM_SAT,
        R.MEM_UE_LOG_B] s t ∧
      OnlyChanges [.out, .regs, .cnt, .arb, .mem, .ciph] s t) ∧
  (∀ (s : State) (desc data aad tag : List Byte) (key m a : List Nat), s.flag F.CIPH_RQ_CFG_ENABLE = true →
    0 < s.rqPosted → s.ciph.entropyFail = false → leAt desc 0 1 = 4 → badRequest 4 desc = false →
    ((s.slot (leAt desc 2 2)).state = 1 ∨ (s.slot (leAt desc 2 2)).state = 2) →
    (s.slot (leAt desc 2 2)).usage = usageOf 4 → (s.readKey (leAt desc 2 2)).2 = some key →
    m = (fitB (leAt desc 4 4) data).map (·.toNat) → a = (fitB (leAt desc 8 2) aad).map (·.toNat) →
    gcmTag key ((sliceB desc 40 12).map (·.toNat)) a m = (fitB 16 tag).map (·.toNat) →
    Completes (.gcmDecrypt desc data aad tag none) s fun t =>
      (0 < m.length → .hostWrite 4 (leAt desc 24 8) ((gcmCtr key ((sliceB desc 40 12).map (·.toNat)) m).map (BitVec.ofNat 8)) ∈ t.out) ∧
      .hostWrite 4 (s.addr64 R.CIPH_RP_BASE_LO R.CIPH_RP_BASE_HI +
        32 * (s.ciph.rqHead % 256)) (rqReply 0 0 (leAt desc 2 2) m.length [] (sliceB desc 56 8)) ∈ t.out ∧
      t.slot (leAt desc 2 2) = s.slot (leAt desc 2 2) ∧ (∀ k < 1024, k ≠ leAt desc 2 2 → t.slot k = s.slot k) ∧
      t.count C.CIPH_AUTH_FAIL = s.count C.CIPH_AUTH_FAIL ∧ t.ciph.rqHead = (s.ciph.rqHead + 1) % 65536 ∧
      t.count C.CIPH_REQ = (s.count C.CIPH_REQ + 1) % 2 ^ 64 ∧
      RegsKeptIn [fun _ => R.CIPH_RQ_CFG, fun _ => R.CIPH_SAT, fun _ => R.MEM_DDR_SAT, fun _ => R.MEM_SAT,
        R.MEM_UE_LOG_B] s t ∧
      OnlyChanges [.out, .regs, .cnt, .arb, .mem, .ciph] s t) ∧
  (∀ (s : State) (desc data aad tag : List Byte) (key m a : List Nat), s.flag F.CIPH_RQ_CFG_ENABLE = true →
    0 < s.rqPosted → s.ciph.entropyFail = false → leAt desc 0 1 = 4 → badRequest 4 desc = false →
    ((s.slot (leAt desc 2 2)).state = 1 ∨ (s.slot (leAt desc 2 2)).state = 2) →
    (s.slot (leAt desc 2 2)).usage = usageOf 4 → (s.readKey (leAt desc 2 2)).2 = some key →
    m = (fitB (leAt desc 4 4) data).map (·.toNat) → a = (fitB (leAt desc 8 2) aad).map (·.toNat) →
    gcmTag key ((sliceB desc 40 12).map (·.toNat)) a m ≠ (fitB 16 tag).map (·.toNat) →
    s.count C.CIPH_AUTH_FAIL < 0xFFFFFFFE →
    Completes (.gcmDecrypt desc data aad tag none) s fun t =>
      .hostWrite 4 (s.addr64 R.CIPH_RP_BASE_LO R.CIPH_RP_BASE_HI +
        32 * (s.ciph.rqHead % 256)) (rqReply 1 1 (leAt desc 2 2) m.length [] (sliceB desc 56 8)) ∈ t.out ∧
      t.slot (leAt desc 2 2) = s.slot (leAt desc 2 2) ∧ (∀ k < 1024, k ≠ leAt desc 2 2 → t.slot k = s.slot k) ∧
      t.count C.CIPH_AUTH_FAIL = s.count C.CIPH_AUTH_FAIL + 1 ∧ t.ciph.rqHead = (s.ciph.rqHead + 1) % 65536 ∧
      t.count C.CIPH_REQ = (s.count C.CIPH_REQ + 1) % 2 ^ 64 ∧
      RegsKeptIn [fun _ => R.CIPH_RQ_CFG, fun _ => R.CIPH_SAT, fun _ => R.MEM_DDR_SAT, fun _ => R.MEM_SAT,
        R.MEM_UE_LOG_B] s t ∧
      OnlyChanges [.out, .regs, .cnt, .arb, .mem, .ciph] s t) ∧
  (∀ (s : State) (desc data : List Byte) (key m : List Nat), s.flag F.CIPH_RQ_CFG_ENABLE = true → 0 < s.rqPosted →
    s.ciph.entropyFail = false → leAt desc 0 1 = 5 → badRequest 5 desc = false →
    ((s.slot (leAt desc 2 2)).state = 1 ∨ (s.slot (leAt desc 2 2)).state = 2) →
    (s.slot (leAt desc 2 2)).usage = usageOf 5 → (s.readKey (leAt desc 2 2)).2 = some key →
    m = (fitB (leAt desc 4 4) data).map (·.toNat) →
    Completes (.cmacGenerate desc data none) s fun t =>
      .hostWrite 4 (s.addr64 R.CIPH_RP_BASE_LO R.CIPH_RP_BASE_HI +
        32 * (s.ciph.rqHead % 256)) (rqReply 0 0 (leAt desc 2 2) m.length (aesCmac key m) (sliceB desc 56 8)) ∈ t.out ∧
      t.slot (leAt desc 2 2) = s.slot (leAt desc 2 2) ∧ (∀ k < 1024, k ≠ leAt desc 2 2 → t.slot k = s.slot k) ∧
      t.ciph.rqHead = (s.ciph.rqHead + 1) % 65536 ∧ t.count C.CIPH_REQ = (s.count C.CIPH_REQ + 1) % 2 ^ 64 ∧
      RegsKeptIn [fun _ => R.CIPH_RQ_CFG, fun _ => R.CIPH_SAT, fun _ => R.MEM_DDR_SAT, fun _ => R.MEM_SAT,
        R.MEM_UE_LOG_B] s t ∧
      OnlyChanges [.out, .regs, .cnt, .arb, .mem, .ciph] s t) ∧
  (∀ (s : State) (desc data tag : List Byte) (key m : List Nat), s.flag F.CIPH_RQ_CFG_ENABLE = true →
    0 < s.rqPosted → s.ciph.entropyFail = false → leAt desc 0 1 = 6 → badRequest 6 desc = false →
    ((s.slot (leAt desc 2 2)).state = 1 ∨ (s.slot (leAt desc 2 2)).state = 2) →
    (s.slot (leAt desc 2 2)).usage = usageOf 6 → (s.readKey (leAt desc 2 2)).2 = some key →
    m = (fitB (leAt desc 4 4) data).map (·.toNat) → aesCmac key m = (fitB 16 tag).map (·.toNat) →
    Completes (.cmacVerify desc data tag none) s fun t =>
      .hostWrite 4 (s.addr64 R.CIPH_RP_BASE_LO R.CIPH_RP_BASE_HI +
        32 * (s.ciph.rqHead % 256)) (rqReply 0 0 (leAt desc 2 2) m.length [] (sliceB desc 56 8)) ∈ t.out ∧
      t.slot (leAt desc 2 2) = s.slot (leAt desc 2 2) ∧ (∀ k < 1024, k ≠ leAt desc 2 2 → t.slot k = s.slot k) ∧
      t.count C.CIPH_AUTH_FAIL = s.count C.CIPH_AUTH_FAIL ∧ t.ciph.rqHead = (s.ciph.rqHead + 1) % 65536 ∧
      t.count C.CIPH_REQ = (s.count C.CIPH_REQ + 1) % 2 ^ 64 ∧
      RegsKeptIn [fun _ => R.CIPH_RQ_CFG, fun _ => R.CIPH_SAT, fun _ => R.MEM_DDR_SAT, fun _ => R.MEM_SAT,
        R.MEM_UE_LOG_B] s t ∧
      OnlyChanges [.out, .regs, .cnt, .arb, .mem, .ciph] s t) ∧
  (∀ (s : State) (desc data tag : List Byte) (key m : List Nat), s.flag F.CIPH_RQ_CFG_ENABLE = true →
    0 < s.rqPosted → s.ciph.entropyFail = false → leAt desc 0 1 = 6 → badRequest 6 desc = false →
    ((s.slot (leAt desc 2 2)).state = 1 ∨ (s.slot (leAt desc 2 2)).state = 2) →
    (s.slot (leAt desc 2 2)).usage = usageOf 6 → (s.readKey (leAt desc 2 2)).2 = some key →
    m = (fitB (leAt desc 4 4) data).map (·.toNat) → aesCmac key m ≠ (fitB 16 tag).map (·.toNat) →
    s.count C.CIPH_AUTH_FAIL < 0xFFFFFFFE →
    Completes (.cmacVerify desc data tag none) s fun t =>
      .hostWrite 4 (s.addr64 R.CIPH_RP_BASE_LO R.CIPH_RP_BASE_HI +
        32 * (s.ciph.rqHead % 256)) (rqReply 1 0 (leAt desc 2 2) m.length [] (sliceB desc 56 8)) ∈ t.out ∧
      t.slot (leAt desc 2 2) = s.slot (leAt desc 2 2) ∧ (∀ k < 1024, k ≠ leAt desc 2 2 → t.slot k = s.slot k) ∧
      t.count C.CIPH_AUTH_FAIL = s.count C.CIPH_AUTH_FAIL + 1 ∧ t.ciph.rqHead = (s.ciph.rqHead + 1) % 65536 ∧
      t.count C.CIPH_REQ = (s.count C.CIPH_REQ + 1) % 2 ^ 64 ∧
      RegsKeptIn [fun _ => R.CIPH_RQ_CFG, fun _ => R.CIPH_SAT, fun _ => R.MEM_DDR_SAT, fun _ => R.MEM_SAT,
        R.MEM_UE_LOG_B] s t ∧
      OnlyChanges [.out, .regs, .cnt, .arb, .mem, .ciph] s t) ∧
  (∀ (i : Instr) (s : State) (op : Nat) (desc : List Byte) (fail : Option Nat),
    requestOf i = some (op, desc, fail) →
    (s.flag F.CIPH_RQ_CFG_ENABLE = false ∨ s.rqPosted = 0 ∨ otherOp op desc = true) →
    exec (i) s = .next (s)) ∧
  (∀ (i : Instr) (s : State) (op : Nat) (desc : List Byte) (fail : Option Nat),
    requestOf i = some (op, desc, fail) → s.flag F.CIPH_RQ_CFG_ENABLE = true → 0 < s.rqPosted →
    otherOp op desc = false → s.ciph.entropyFail = true →
    Completes (i) s fun t =>
      .hostWrite 4 (s.addr64 R.CIPH_RP_BASE_LO R.CIPH_RP_BASE_HI +
        32 * (s.ciph.rqHead % 256)) (rqReply 7 0 (leAt desc 2 2) 0 [] (sliceB desc 56 8)) ∈ t.out ∧
      t.ciph = { s.ciph with rqHead := (s.ciph.rqHead + 1) % 65536 } ∧
      t.count C.CIPH_REQ = (s.count C.CIPH_REQ + 1) % 2 ^ 64 ∧
      (bit (leAt desc 1 1) 0 = true → .msix 4 (s.fld F.CIPH_RQ_CFG_VECTOR) ∈ t.out) ∧
      OnlyChanges [.ciph, .cnt, .out] s t) ∧
  (∀ (i : Instr) (s : State) (op : Nat) (desc : List Byte) (fail : Option Nat),
    requestOf i = some (op, desc, fail) → s.flag F.CIPH_RQ_CFG_ENABLE = true → 0 < s.rqPosted →
    otherOp op desc = false → s.ciph.entropyFail = false → (leAt desc 0 1 ≠ op ∨ badRequest op desc = true) →
    s.count C.CIPH_BAD_REQ < 0xFFFFFFFE →
    Completes (i) s fun t =>
      .hostWrite 4 (s.addr64 R.CIPH_RP_BASE_LO R.CIPH_RP_BASE_HI +
        32 * (s.ciph.rqHead % 256)) (rqReply 4 0 (leAt desc 2 2) 0 [] (sliceB desc 56 8)) ∈ t.out ∧
      t.ciph = { s.ciph with rqHead := (s.ciph.rqHead + 1) % 65536 } ∧
      t.count C.CIPH_REQ = (s.count C.CIPH_REQ + 1) % 2 ^ 64 ∧ t.count C.CIPH_BAD_REQ = s.count C.CIPH_BAD_REQ + 1 ∧
      (bit (leAt desc 1 1) 0 = true → .msix 4 (s.fld F.CIPH_RQ_CFG_VECTOR) ∈ t.out) ∧
      OnlyChanges [.ciph, .cnt, .out] s t) ∧
  (∀ (i : Instr) (s : State) (op : Nat) (desc : List Byte) (fail : Option Nat),
    requestOf i = some (op, desc, fail) → s.flag F.CIPH_RQ_CFG_ENABLE = true → 0 < s.rqPosted →
    otherOp op desc = false → s.ciph.entropyFail = false → leAt desc 0 1 = op → badRequest op desc = false →
    ((s.slot (leAt desc 2 2)).state = 0 ∨ (s.slot (leAt desc 2 2)).state = 3) →
    Completes (i) s fun t =>
      .hostWrite 4 (s.addr64 R.CIPH_RP_BASE_LO R.CIPH_RP_BASE_HI +
        32 * (s.ciph.rqHead % 256)) (rqReply 2 0 (leAt desc 2 2) 0 [] (sliceB desc 56 8)) ∈ t.out ∧
      t.ciph = { s.ciph with rqHead := (s.ciph.rqHead + 1) % 65536 } ∧
      t.count C.CIPH_REQ = (s.count C.CIPH_REQ + 1) % 2 ^ 64 ∧
      (bit (leAt desc 1 1) 0 = true → .msix 4 (s.fld F.CIPH_RQ_CFG_VECTOR) ∈ t.out) ∧
      OnlyChanges [.ciph, .cnt, .out] s t) ∧
  (∀ (i : Instr) (s : State) (op : Nat) (desc : List Byte) (fail : Option Nat),
    requestOf i = some (op, desc, fail) → s.flag F.CIPH_RQ_CFG_ENABLE = true → 0 < s.rqPosted →
    otherOp op desc = false → s.ciph.entropyFail = false → leAt desc 0 1 = op → badRequest op desc = false →
    (s.slot (leAt desc 2 2)).state ≠ 0 → (s.slot (leAt desc 2 2)).state ≠ 3 →
    (s.slot (leAt desc 2 2)).usage ≠ usageOf op → s.count C.CIPH_BAD_REQ < 0xFFFFFFFE →
    Completes (i) s fun t =>
      .hostWrite 4 (s.addr64 R.CIPH_RP_BASE_LO R.CIPH_RP_BASE_HI +
        32 * (s.ciph.rqHead % 256)) (rqReply 4 0 (leAt desc 2 2) 0 [] (sliceB desc 56 8)) ∈ t.out ∧
      t.ciph = { s.ciph with rqHead := (s.ciph.rqHead + 1) % 65536 } ∧
      t.count C.CIPH_REQ = (s.count C.CIPH_REQ + 1) % 2 ^ 64 ∧ t.count C.CIPH_BAD_REQ = s.count C.CIPH_BAD_REQ + 1 ∧
      (bit (leAt desc 1 1) 0 = true → .msix 4 (s.fld F.CIPH_RQ_CFG_VECTOR) ∈ t.out) ∧
      OnlyChanges [.ciph, .cnt, .out] s t) ∧
  (∀ (i : Instr) (s : State) (op : Nat) (desc : List Byte) (fail : Option Nat),
    requestOf i = some (op, desc, fail) → s.flag F.CIPH_RQ_CFG_ENABLE = true → 0 < s.rqPosted →
    otherOp op desc = false → s.ciph.entropyFail = false → leAt desc 0 1 = op → badRequest op desc = false →
    (s.slot (leAt desc 2 2)).state = 2 → (s.slot (leAt desc 2 2)).usage = usageOf op → (op = 1 ∨ op = 3) →
    Completes (i) s fun t =>
      .hostWrite 4 (s.addr64 R.CIPH_RP_BASE_LO R.CIPH_RP_BASE_HI +
        32 * (s.ciph.rqHead % 256)) (rqReply 3 0 (leAt desc 2 2) 0 [] (sliceB desc 56 8)) ∈ t.out ∧
      t.ciph = { s.ciph with rqHead := (s.ciph.rqHead + 1) % 65536 } ∧
      t.count C.CIPH_REQ = (s.count C.CIPH_REQ + 1) % 2 ^ 64 ∧
      (bit (leAt desc 1 1) 0 = true → .msix 4 (s.fld F.CIPH_RQ_CFG_VECTOR) ∈ t.out) ∧
      OnlyChanges [.ciph, .cnt, .out] s t) ∧
  (∀ (i : Instr) (s : State) (op : Nat) (desc : List Byte) (fail : Option Nat),
    requestOf i = some (op, desc, fail) → s.flag F.CIPH_RQ_CFG_ENABLE = true → 0 < s.rqPosted →
    otherOp op desc = false → s.ciph.entropyFail = false → leAt desc 0 1 = op → badRequest op desc = false →
    ((s.slot (leAt desc 2 2)).state = 1 ∨ (s.slot (leAt desc 2 2)).state = 2 ∧ op ≠ 1 ∧ op ≠ 3) →
    (s.slot (leAt desc 2 2)).usage = usageOf op → (s.readKey (leAt desc 2 2)).2 = none →
    Completes (i) s fun t =>
      .hostWrite 4 (s.addr64 R.CIPH_RP_BASE_LO R.CIPH_RP_BASE_HI +
        32 * (s.ciph.rqHead % 256)) (rqReply 2 0 (leAt desc 2 2) 0 [] (sliceB desc 56 8)) ∈ t.out ∧
      t.ciph.rqHead = (s.ciph.rqHead + 1) % 65536 ∧
      (t.slot (leAt desc 2 2)).state = (if (s.slot (leAt desc 2 2)).state = 1 then 3 else 2) ∧
      (∀ k < 1024, k ≠ leAt desc 2 2 → t.slot k = s.slot k) ∧
      (bit (leAt desc 1 1) 0 = true → .msix 4 (s.fld F.CIPH_RQ_CFG_VECTOR) ∈ t.out) ∧
      RegsKeptIn [fun _ => R.CIPH_RQ_CFG, fun _ => R.CIPH_SAT, fun _ => R.MEM_DDR_SAT, fun _ => R.MEM_SAT,
        R.MEM_UE_LOG_B] s t ∧
      OnlyChanges [.arb, .ciph, .cnt, .mem, .out, .regs] s t) ∧
  (∀ (i : Instr) (s : State) (op : Nat) (desc : List Byte) (fail : Option Nat) (n : Nat),
    requestOf i = some (op, desc, fail) → s.flag F.CIPH_RQ_CFG_ENABLE = true → 0 < s.rqPosted →
    otherOp op desc = false → fail = some n → s.ciph.entropyFail = false → leAt desc 0 1 = op →
    badRequest op desc = false →
    ((s.slot (leAt desc 2 2)).state = 1 ∨ (s.slot (leAt desc 2 2)).state = 2 ∧ op ≠ 1 ∧ op ≠ 3) →
    (s.slot (leAt desc 2 2)).usage = usageOf op → (s.readKey (leAt desc 2 2)).2 ≠ none →
    s.count C.CIPH_DMA_ERR < 0xFFFFFFFE →
    Completes (i) s fun t =>
      .hostWrite 4 (s.addr64 R.CIPH_RP_BASE_LO R.CIPH_RP_BASE_HI +
        32 * (s.ciph.rqHead % 256)) (rqReply 5 1 (leAt desc 2 2) 0 [] (sliceB desc 56 8)) ∈ t.out ∧
      t.flag F.CIPH_RQ_CFG_ENABLE = false ∧ t.count C.CIPH_DMA_ERR = s.count C.CIPH_DMA_ERR + 1 ∧
      t.ciph.rqHead = (s.ciph.rqHead + 1) % 65536 ∧ t.count C.CIPH_REQ = (s.count C.CIPH_REQ + 1) % 2 ^ 64 ∧
      ((t.slot (leAt desc 2 2)).counter = (if op = 1 ∨
        op = 3 then ((s.slot (leAt desc 2 2)).counter + 1) % 2 ^ 64 else (s.slot (leAt desc 2 2)).counter)) ∧
      (∀ k < 1024, k ≠ leAt desc 2 2 → t.slot k = s.slot k) ∧
      (bit (leAt desc 1 1) 0 = true → .msix 4 (s.fld F.CIPH_RQ_CFG_VECTOR) ∈ t.out) ∧
      RegsKeptIn [fun _ => R.CIPH_RQ_CFG, fun _ => R.CIPH_SAT, fun _ => R.MEM_DDR_SAT, fun _ => R.MEM_SAT,
        R.MEM_UE_LOG_B] s t ∧
      OnlyChanges [.arb, .ciph, .cnt, .mem, .out, .regs] s t)

/-- MEM_READ, MEM_WRITE, MEM_CFG, MEM_INJECTION_ARM, MEM_STAT_SNAP (R504, R515, R516, R525 to R527, R564). -/
def Obligations.DdrIsReadWrittenAndInjected : Prop :=
  (∀ (s : State) (p : Pkt), Taken 0x0301 p s → p.length = 3 → p.target = 0 → s.ddrReady = true → 32 ≤ p.w 2 →
    p.w 2 ≤ 4096 → p.w 2 % 32 = 0 → p.ddrAddr + p.w 2 ≤ s.ddrBytes →
    (∀ k < ceilDiv (p.ddrAddr % 32 + p.w 2) 32, cleanWord (s.ddrWord (p.ddrAddr / 32 + k)) = true) →
    Ends (.memRead p) 0x0301 p s ⟨stDone, 0,
      sliceB (((List.range (ceilDiv (p.ddrAddr % 32 +
      p.w 2) 32)).map (fun k => dataBytes ((s.ddrWord (p.ddrAddr / 32 +
      k)).toNat % 2 ^ 256))).flatten) (p.ddrAddr % 32) (p.w 2)⟩ fun u =>
      OnlyChanges [] (s.afterTake p) u) ∧
  (∀ (s : State) (p : Pkt) (e : Nat), Taken 0x0301 p s → p.length = 3 → p.target = 0 → s.ddrReady = true →
    32 ≤ p.w 2 → p.w 2 ≤ 4096 → p.w 2 % 32 = 0 → p.ddrAddr + p.w 2 ≤ s.ddrBytes →
    (s.ddrRead p.ddrAddr (p.w 2)).2 = .error e →
    Ends (.memRead p) 0x0301 p s ⟨stHwFault, e, []⟩ fun u =>
      decodeWord (s.ddrWord (e / 32)) = .bad ∧ e % 32 = 0 ∧
      RegsKeptIn [fun _ => R.MEM_DDR_SAT, fun _ => R.MEM_SAT, R.MEM_UE_LOG_B] s u ∧
      OnlyChanges [.regs, .cnt, .arb, .mem] (s.afterTake p) u) ∧
  (∀ (s : State) (p : Pkt), Taken 0x0302 p s → p.length = 3 + ceilDiv (p.w 2) 4 → p.target = 0 → s.ddrReady = true →
    4 ≤ p.w 2 → p.w 2 ≤ 4084 → p.w 2 % 4 = 0 → p.ddrAddr + p.w 2 ≤ s.ddrBytes →
    (0x10000000 ≤ p.ddrAddr ∨ inHostHalf p.ddrAddr (p.w 2) = true) → p.ddrAddr % 32 = 0 → p.w 2 % 32 = 0 →
    s.injection 0 = none →
    Ends (.memWrite p) 0x0302 p s ⟨stDone, 0, []⟩ fun u =>
      (∀ k < p.w 2 / 32, u.ddrWord (p.ddrAddr / 32 + k) =
        encodeWord (ofLe (((p.bytes.drop 12).drop (32 * k)).take 32))) ∧
      (∀ k, (k < p.ddrAddr / 32 ∨ p.ddrAddr / 32 + p.w 2 / 32 ≤ k) → u.ddrWord k = s.ddrWord k) ∧
      u.mem = { s.mem with ddr := u.mem.ddr } ∧ OnlyChanges [.mem] (s.afterTake p) u) ∧
  (∀ (s : State) (p : Pkt), Taken 0x0302 p s → p.length = 3 + ceilDiv (p.w 2) 4 → p.target = 0 → s.ddrReady = true →
    4 ≤ p.w 2 → p.w 2 ≤ 4084 → p.w 2 % 4 = 0 → p.ddrAddr + p.w 2 ≤ s.ddrBytes →
    (0x10000000 ≤ p.ddrAddr ∨ inHostHalf p.ddrAddr (p.w 2) = true) → p.ddrAddr % 32 + p.w 2 < 32 →
    cleanWord (s.ddrWord (p.ddrAddr / 32)) = true → s.injection 0 = none →
    Ends (.memWrite p) 0x0302 p s ⟨stDone, 0, []⟩ fun u =>
      u.ddrWord (p.ddrAddr / 32) = encodeWord (ofLe (spliceB (dataBytes ((s.ddrWord (p.ddrAddr / 32)).toNat % 2 ^ 256)) (p.ddrAddr % 32) ((p.bytes.drop 12).take (p.w 2)))) ∧
      (∀ k, k ≠ p.ddrAddr / 32 → u.ddrWord k = s.ddrWord k) ∧ u.mem = { s.mem with ddr := u.mem.ddr } ∧
      OnlyChanges [.mem] (s.afterTake p) u) ∧
  (∀ (s : State) (p : Pkt), Taken 0x0303 p s → p.length = 1 → p.target.toNat < 8 →
    Ends (.memCfg p) 0x0303 p s ⟨stDone, 0, []⟩ fun u =>
      u.rd (R.MEM_SCRUB_CFG p.target.toNat) = s.rwAfter (R.MEM_SCRUB_CFG p.target.toNat) (p.w 0) ∧
      RegsKept [R.MEM_SCRUB_CFG p.target.toNat] s u ∧ OnlyChanges [.regs] (s.afterTake p) u) ∧
  (∀ (s : State) (p : Pkt), Taken 0x0303 p s → p.length = 2 → p.target.toNat < 8 →
    bitsOf (p.w 0) 2 0 = p.target.toNat → bitsOf (p.w 0) 7 3 ≤ 17 → bitsOf (p.w 0) 12 8 ≤ 17 →
    bit (p.w 0) 31 = true →
    Ends (.memCfg p) 0x0303 p s ⟨stDone, 0, []⟩ fun u =>
      u.fld F.MEM_INJ_PAT_PAT = bitsOf (p.w 1) 15 0 ∧ u.flag F.MEM_INJ_GO = true ∧
      u.fld F.MEM_INJ_MEM = p.target.toNat ∧ u.fld F.MEM_INJ_SYM_A = bitsOf (p.w 0) 7 3 ∧
      u.fld F.MEM_INJ_SYM_B = bitsOf (p.w 0) 12 8 ∧ RegsKept [R.MEM_INJ, R.MEM_INJ_PAT] s u ∧
      OnlyChanges [.regs] (s.afterTake p) u) ∧
  (∀ (s : State) (p : Pkt) (bs : List Byte), Taken 0x0301 p s → p.length = 3 → p.target = 0 → s.ddrReady = true →
    32 ≤ p.w 2 → p.w 2 ≤ 4096 → p.w 2 % 32 = 0 → p.ddrAddr + p.w 2 ≤ s.ddrBytes →
    (s.ddrRead p.ddrAddr (p.w 2)).2 = .ok bs →
    Ends (.memRead p) 0x0301 p s ⟨stDone, 0, bs⟩ fun u =>
      u.mem.ddr = s.mem.ddr ∧ RegsKeptIn [fun _ => R.MEM_DDR_SAT, fun _ => R.MEM_SAT, R.MEM_UE_LOG_B] s u ∧
      OnlyChanges [.regs, .cnt, .arb, .mem] (s.afterTake p) u) ∧
  (∀ (s : State) (p : Pkt), Taken 0x0301 p s → p.length = 3 → p.target = 0 →
    (p.w 2 < 32 ∨ 4096 < p.w 2 ∨ p.w 2 % 32 ≠ 0 ∨ (s.ddrBytes < p.ddrAddr + p.w 2 ∧ s.ddrReady = true)) →
    Ends (.memRead p) 0x0301 p s ⟨stBadParam, 0, []⟩ fun u =>
      OnlyChanges [] (s.afterTake p) u) ∧
  (∀ (s : State) (p : Pkt), Taken 0x0301 p s → p.length = 3 → p.target = 0 → s.ddrReady = false → 32 ≤ p.w 2 →
    p.w 2 ≤ 4096 → p.w 2 % 32 = 0 →
    Ends (.memRead p) 0x0301 p s ⟨stTimeout, 0, []⟩ fun u =>
      OnlyChanges [] (s.afterTake p) u) ∧
  (∀ (s : State) (p : Pkt), Taken 0x0301 p s → p.length = 3 → p.target ≠ 0 →
    Ends (.memRead p) 0x0301 p s ⟨stBadTarget, 0, []⟩ fun u =>
      OnlyChanges [] (s.afterTake p) u) ∧
  (∀ (s : State) (p : Pkt), Taken 0x0302 p s → p.length = 3 + ceilDiv (p.w 2) 4 → p.target = 0 → s.ddrReady = true →
    4 ≤ p.w 2 → p.w 2 ≤ 4084 → p.w 2 % 4 = 0 → p.ddrAddr + p.w 2 ≤ s.ddrBytes →
    (0x10000000 ≤ p.ddrAddr ∨ inHostHalf p.ddrAddr (p.w 2) = true) →
    (s.ddrWrite p.ddrAddr ((p.bytes.drop 12).take (p.w 2))).2 = none →
    Ends (.memWrite p) 0x0302 p s ⟨stDone, 0, []⟩ fun u =>
      (∀ k, (k < p.ddrAddr / 64 * 2 ∨ (p.ddrAddr + p.w 2 + 31) / 32 ≤ k) → u.ddrWord k = s.ddrWord k) ∧
      RegsKeptIn [fun _ => R.MEM_DDR_SAT, fun _ => R.MEM_INJ, fun _ => R.MEM_SAT, R.MEM_UE_LOG_B] s u ∧
      OnlyChanges [.regs, .cnt, .arb, .mem] (s.afterTake p) u) ∧
  (∀ (s : State) (p : Pkt) (e : Nat), Taken 0x0302 p s → p.length = 3 + ceilDiv (p.w 2) 4 → p.target = 0 →
    s.ddrReady = true → 4 ≤ p.w 2 → p.w 2 ≤ 4084 → p.w 2 % 4 = 0 → p.ddrAddr + p.w 2 ≤ s.ddrBytes →
    (0x10000000 ≤ p.ddrAddr ∨ inHostHalf p.ddrAddr (p.w 2) = true) →
    (s.ddrWrite p.ddrAddr ((p.bytes.drop 12).take (p.w 2))).2 = some e →
    Ends (.memWrite p) 0x0302 p s ⟨stHwFault, e, []⟩ fun u =>
      decodeWord (s.ddrWord (e / 32)) = .bad ∧ e % 32 = 0 ∧
      (∀ k, (k < p.ddrAddr / 64 * 2 ∨ (p.ddrAddr + p.w 2 + 31) / 32 ≤ k) → u.ddrWord k = s.ddrWord k) ∧
      RegsKeptIn [fun _ => R.MEM_DDR_SAT, fun _ => R.MEM_INJ, fun _ => R.MEM_SAT, R.MEM_UE_LOG_B] s u ∧
      OnlyChanges [.regs, .cnt, .arb, .mem] (s.afterTake p) u) ∧
  (∀ (s : State) (p : Pkt), Taken 0x0302 p s → 4 ≤ p.length → p.length = 3 + ceilDiv (p.w 2) 4 → p.target = 0 →
    (p.w 2 < 4 ∨ 4084 < p.w 2 ∨ p.w 2 % 4 ≠ 0 ∨ (s.ddrBytes < p.ddrAddr + p.w 2 ∧
      s.ddrReady = true) ∨ (p.ddrAddr < 0x10000000 ∧ inHostHalf p.ddrAddr (p.w 2) = false)) →
    Ends (.memWrite p) 0x0302 p s ⟨stBadParam, 0, []⟩ fun u =>
      OnlyChanges [] (s.afterTake p) u) ∧
  (∀ (s : State) (p : Pkt), Taken 0x0302 p s → p.length = 3 + ceilDiv (p.w 2) 4 → p.target = 0 → 4 ≤ p.w 2 →
    p.w 2 ≤ 4084 → p.w 2 % 4 = 0 → (0x10000000 ≤ p.ddrAddr ∨ inHostHalf p.ddrAddr (p.w 2) = true) →
    s.ddrReady = false →
    Ends (.memWrite p) 0x0302 p s ⟨stTimeout, 0, []⟩ fun u =>
      OnlyChanges [] (s.afterTake p) u) ∧
  (∀ (s : State) (p : Pkt), Taken 0x0302 p s → 4 ≤ p.length → p.length = 3 + ceilDiv (p.w 2) 4 → p.target ≠ 0 →
    Ends (.memWrite p) 0x0302 p s ⟨stBadTarget, 0, []⟩ fun u =>
      OnlyChanges [] (s.afterTake p) u) ∧
  (∀ (s : State) (p : Pkt), Taken 0x0303 p s → p.length = 2 → p.target.toNat < 8 →
    (bitsOf (p.w 0) 2 0 ≠ p.target.toNat ∨ 17 < bitsOf (p.w 0) 7 3 ∨ 17 < bitsOf (p.w 0) 12 8) →
    Ends (.memCfg p) 0x0303 p s ⟨stBadParam, 0, []⟩ fun u =>
      OnlyChanges [] (s.afterTake p) u) ∧
  (∀ (s : State) (p : Pkt), Taken 0x0303 p s → p.length = 2 → p.target.toNat < 8 →
    bitsOf (p.w 0) 2 0 = p.target.toNat → bitsOf (p.w 0) 7 3 ≤ 17 → bitsOf (p.w 0) 12 8 ≤ 17 →
    bit (p.w 0) 31 = false →
    Ends (.memCfg p) 0x0303 p s ⟨stDone, 0, []⟩ fun u =>
      u.fld F.MEM_INJ_PAT_PAT = bitsOf (p.w 1) 15 0 ∧ u.flag F.MEM_INJ_GO = s.flag F.MEM_INJ_GO ∧
      u.fld F.MEM_INJ_MEM = p.target.toNat ∧ u.fld F.MEM_INJ_SYM_A = bitsOf (p.w 0) 7 3 ∧
      u.fld F.MEM_INJ_SYM_B = bitsOf (p.w 0) 12 8 ∧ RegsKept [R.MEM_INJ, R.MEM_INJ_PAT] s u ∧
      OnlyChanges [.regs] (s.afterTake p) u) ∧
  (∀ (s : State) (p : Pkt), Taken 0x0303 p s → 1 ≤ p.length → p.length ≤ 2 → 8 ≤ p.target.toNat →
    Ends (.memCfg p) 0x0303 p s ⟨stBadTarget, 0, []⟩ fun u =>
      OnlyChanges [] (s.afterTake p) u) ∧
  (∀ (s : State) (v : Word),
    Completes (.memInjectionArm v) s fun t =>
      t.flag F.MEM_INJ_GO = true ∧ t.fld F.MEM_INJ_MEM = bitsOf v.toNat 2 0 ∧
      t.fld F.MEM_INJ_SYM_A = bitsOf v.toNat 7 3 ∧ t.fld F.MEM_INJ_SYM_B = bitsOf v.toNat 12 8 ∧
      RegsKept [R.MEM_INJ] s t ∧ OnlyChanges [.regs] s t) ∧
  (∀ (s : State),
    Completes (.memStatSnap) s fun t =>
      (∀ m < 8, ∀ x ∈ memCtrs m, t.bankAt x.off = s.count x % 2 ^ 32) ∧
      (∀ k < 18, t.bankAt (C.MEM_DDR_SYM k).off = s.count (C.MEM_DDR_SYM k) % 2 ^ 32) ∧ OnlyChanges [.bank] s t)

/-- SCRUB_READ, SCRUB_PASS_LATE, PARITY_REWRITE (R505, R513, R517 to R524). -/
def Obligations.ScrubbersReadCorrectAndReport : Prop :=
  (∀ (s : State) (m : Fin 8) (oth : Bool) (kind : Byte) (flip : BitVec 288),
    (s.scrubs m.val = false ∨ s.memWords m.val = 0) →
    exec (.scrubRead m flip oth kind) s = .next (s)) ∧
  (∀ (s : State) (m : Fin 8) (oth : Bool) (kind : Byte) (w : Codeword), s.scrubs m.val = true →
    0 < s.memWords m.val → m.val < 7 → s.scrubWord m.val (s.scrubPos m.val) = some w → cleanWord w = true →
    Completes (.scrubRead m 0 oth kind) s fun t =>
      sparseGet (fun _ => 0) t.mem.pos m.val = (if s.memWords m.val ≤ s.scrubPos m.val + 1
        then 0 else s.scrubPos m.val + 1) ∧
      (∀ k, k ≠ m.val → t.scrubPos k = s.scrubPos k) ∧
      t.count (C.MEM_PASSES m.val) = (if s.memWords m.val ≤ s.scrubPos m.val + 1
        then (s.count (C.MEM_PASSES m.val) + 1) % 2 ^ 64 else s.count (C.MEM_PASSES m.val)) ∧
      sparseGet (fun _ => 0) t.mem.passAt m.val = (if s.memWords m.val ≤ s.scrubPos m.val + 1
        then s.tick.count.toNat else sparseGet (fun _ => 0) s.mem.passAt m.val) ∧
      t.mem = { s.mem with pos := t.mem.pos, passAt := t.mem.passAt } ∧ OnlyChanges [.cnt, .mem] s t) ∧
  (∀ (s : State) (m : Fin 8) (oth : Bool) (kind : Byte) (w c : Codeword) (k : Nat), s.scrubs m.val = true →
    0 < s.memWords m.val → m.val < 4 → s.scrubWord m.val (s.scrubPos m.val) = some w →
    decodeWord w = .corrected k c → s.count (C.MEM_CE m.val) < 0xFFFFFFFE → s.count (C.MEM_DDR_SYM k) < 0xFFFFFFFE →
    Completes (.scrubRead m 0 oth kind) s fun t =>
      sparseGet (fun _ => 0) t.mem.pos m.val = (if s.memWords m.val ≤ s.scrubPos m.val + 1
        then 0 else s.scrubPos m.val + 1) ∧
      (∀ k, k ≠ m.val → t.scrubPos k = s.scrubPos k) ∧
      t.count (C.MEM_PASSES m.val) = (if s.memWords m.val ≤ s.scrubPos m.val + 1
        then (s.count (C.MEM_PASSES m.val) + 1) % 2 ^ 64 else s.count (C.MEM_PASSES m.val)) ∧
      t.scrubWord m.val (s.scrubPos m.val) = some c ∧ t.count (C.MEM_CE m.val) = s.count (C.MEM_CE m.val) + 1 ∧
      OnlyChanges [.ciph, .cnt, .mem] s t) ∧
  (∀ (s : State) (oth : Bool) (kind : Byte), s.scrubs 0 = true → s.scrubPos 0 < s.memWords 0 →
    decodeWord (s.ddrWord (s.scrubPos 0)) = .bad → s.count (C.MEM_UE 0) < 0xFFFFFFFE →
    Completes (.scrubRead 0 0 oth kind) s fun t =>
      t.mem.ddr = s.mem.ddr ∧ t.count (C.MEM_UE 0) = s.count (C.MEM_UE 0) + 1 ∧
      t.mem.logPtr = (s.mem.logPtr % 8 + 1) % 8 ∧ RegsKept [R.MEM_UE_LOG_B (s.mem.logPtr % 8)] s t ∧
      OnlyChanges [.arb, .cnt, .mem, .regs] s t) ∧
  (∀ (s : State) (oth : Bool) (kind : Byte), s.scrubs 7 = true → s.scrubPos 7 < tableBase 7 → s.scrubPos 7 < 98304 →
    s.scrubPos 7 ∈ s.mem.parity → s.count (C.MEM_UE 7) < 0xFFFFFFFE →
    Completes (.scrubRead 7 0 oth kind) s fun t =>
      t.mem.parity = s.mem.parity ∧ t.count (C.MEM_UE 7) = s.count (C.MEM_UE 7) + 1 ∧ t.fwd = s.fwd ∧
      t.cls = s.cls ∧ RegsKept [R.MEM_UE_LOG_B (s.mem.logPtr % 8)] s t ∧ OnlyChanges [.arb, .cnt, .mem, .regs] s t) ∧
  (∀ (s : State) (m : Fin 8), s.scrubs m.val = true → s.passOver m.val = true →
    (s.source (memSource m.val)).queue.length < 16 → s.count (C.MEM_PASS_LATE m.val) < 0xFFFFFFFE →
    Completes (.scrubPassLate m) s fun t =>
      t.scrubPos m.val = 0 ∧ sparseGet (fun _ => 0) t.mem.passAt m.val = s.tick.count.toNat ∧
      (∀ k, k ≠ m.val → t.scrubPos k = s.scrubPos k) ∧
      t.count (C.MEM_PASS_LATE m.val) = s.count (C.MEM_PASS_LATE m.val) + 1 ∧
      (t.source (memSource m.val)).queue = (s.source (memSource m.val)).queue ++ [⟨2, 0x1203, 0, evPayload [(1,
        m.val), (4, s.scrubPeriod m.val), (4, s.memWords m.val - s.scrubPos m.val)], s.arb.raised⟩] ∧
      OnlyChanges [.arb, .cnt, .mem] s t) ∧
  (∀ (s : State) (m : Fin 8), (s.scrubs m.val = false ∨ s.passOver m.val = false) →
    exec (.scrubPassLate m) s = .next (s)) ∧
  (∀ (s : State) (word : BitVec 18), (tableOf word.toNat).1 ≠ 2 → (tableOf word.toNat).1 ≠ 3 →
    Completes (.parityRewrite word) s fun t =>
      (∀ k, k ∈ t.mem.parity ↔ k ∈ s.mem.parity ∧ k ≠ word.toNat) ∧ t.mem = { s.mem with parity := t.mem.parity } ∧
      OnlyChanges [.mem] s t) ∧
  (∀ (s : State) (word : BitVec 18), (tableOf word.toNat).1 = 3 →
    exec (.parityRewrite word) s = .next (s)) ∧
  (∀ (s : State) (word : BitVec 18) (e : FwdEntry), (tableOf word.toNat).1 = 2 →
    s.fwdAt (tableOf word.toNat).2 = some e → e.static = true →
    Completes (.parityRewrite word) s fun t =>
      (∀ k, k ∈ t.mem.parity ↔ k ∈ s.mem.parity ∧ k ≠ word.toNat) ∧ t.mem = { s.mem with parity := t.mem.parity } ∧
      OnlyChanges [.mem] s t) ∧
  (∀ (s : State) (word : BitVec 18), (tableOf word.toNat).1 = 2 →
    (∀ e ∈ (s.fwdAt (tableOf word.toNat).2).toList, e.static = false) →
    exec (.parityRewrite word) s = .next (s)) ∧
  (∀ (s : State) (m : Fin 8) (oth : Bool) (kind : Byte) (flip : BitVec 288) (w c : Codeword) (k : Nat),
    s.scrubs m.val = true → 0 < s.memWords m.val → m.val < 4 → s.scrubWord m.val (s.scrubPos m.val) = some w →
    decodeWord (w ^^^ flip) = .corrected k c → s.count (C.MEM_CE m.val) < 0xFFFFFFFE →
    s.count (C.MEM_DDR_SYM k) < 0xFFFFFFFE →
    Completes (.scrubRead m flip oth kind) s fun t =>
      sparseGet (fun _ => 0) t.mem.pos m.val = (if s.memWords m.val ≤ s.scrubPos m.val + 1
        then 0 else s.scrubPos m.val + 1) ∧
      (∀ k, k ≠ m.val → t.scrubPos k = s.scrubPos k) ∧
      t.count (C.MEM_PASSES m.val) = (if s.memWords m.val ≤ s.scrubPos m.val + 1
        then (s.count (C.MEM_PASSES m.val) + 1) % 2 ^ 64 else s.count (C.MEM_PASSES m.val)) ∧
      t.scrubWord m.val (s.scrubPos m.val) = some c ∧ t.count (C.MEM_CE m.val) = s.count (C.MEM_CE m.val) + 1 ∧
      OnlyChanges [.ciph, .cnt, .mem] s t) ∧
  (∀ (s : State) (m : Fin 8) (oth : Bool) (kind : Byte) (flip : BitVec 288) (w : Codeword), s.scrubs m.val = true →
    0 < s.memWords m.val → m.val < 7 → s.scrubWord m.val (s.scrubPos m.val) = some w →
    cleanWord (w ^^^ flip) = true →
    Completes (.scrubRead m flip oth kind) s fun t =>
      sparseGet (fun _ => 0) t.mem.pos m.val = (if s.memWords m.val ≤ s.scrubPos m.val + 1
        then 0 else s.scrubPos m.val + 1) ∧
      (∀ k, k ≠ m.val → t.scrubPos k = s.scrubPos k) ∧
      t.count (C.MEM_PASSES m.val) = (if s.memWords m.val ≤ s.scrubPos m.val + 1
        then (s.count (C.MEM_PASSES m.val) + 1) % 2 ^ 64 else s.count (C.MEM_PASSES m.val)) ∧
      t.scrubWord m.val (s.scrubPos m.val) = some (w ^^^ flip) ∧ OnlyChanges [.ciph, .cnt, .mem, .vec] s t) ∧
  (∀ (s : State) (m : Fin 8) (oth : Bool) (kind : Byte) (flip : BitVec 288), s.scrubs m.val = true →
    0 < s.memWords m.val → m.val < 7 → s.scrubWord m.val (s.scrubPos m.val) = none →
    Completes (.scrubRead m flip oth kind) s fun t =>
      sparseGet (fun _ => 0) t.mem.pos m.val = (if s.memWords m.val ≤ s.scrubPos m.val + 1
        then 0 else s.scrubPos m.val + 1) ∧
      (∀ k, k ≠ m.val → t.scrubPos k = s.scrubPos k) ∧
      t.count (C.MEM_PASSES m.val) = (if s.memWords m.val ≤ s.scrubPos m.val + 1
        then (s.count (C.MEM_PASSES m.val) + 1) % 2 ^ 64 else s.count (C.MEM_PASSES m.val)) ∧
      sparseGet (fun _ => 0) t.mem.passAt m.val = (if s.memWords m.val ≤ s.scrubPos m.val + 1
        then s.tick.count.toNat else sparseGet (fun _ => 0) s.mem.passAt m.val) ∧
      t.mem = { s.mem with pos := t.mem.pos, passAt := t.mem.passAt } ∧ OnlyChanges [.cnt, .mem] s t) ∧
  (∀ (s : State) (oth : Bool) (kind : Byte) (flip : BitVec 288) (w c : Codeword) (k : Nat), s.scrubs 4 = true →
    s.scrubWord 4 (s.scrubPos 4) = some w → decodeWord (w ^^^ flip) = .corrected k c →
    s.count (C.SLAB_CE (s.scrubPos 4 / 65537)) < 0xFFFFFFFE →
    Completes (.scrubRead 4 flip oth kind) s fun t =>
      t.scrubWord 4 (s.scrubPos 4) = some c ∧
      t.count (C.SLAB_CE (s.scrubPos 4 / 65537)) = s.count (C.SLAB_CE (s.scrubPos 4 / 65537)) + 1 ∧
      OnlyChanges [.cnt, .mem, .vec] s t) ∧
  (∀ (s : State) (oth : Bool) (kind : Byte) (flip : BitVec 288) (w c : Codeword) (k : Nat), s.scrubs 5 = true →
    s.scrubWord 5 (s.scrubPos 5) = some w → decodeWord (w ^^^ flip) = .corrected k c →
    s.count (C.VE_SPAD_CE (s.scrubPos 5 / 4096)) < 0xFFFFFFFE →
    Completes (.scrubRead 5 flip oth kind) s fun t =>
      t.scrubWord 5 (s.scrubPos 5) = some c ∧
      t.count (C.VE_SPAD_CE (s.scrubPos 5 / 4096)) = s.count (C.VE_SPAD_CE (s.scrubPos 5 / 4096)) + 1 ∧
      OnlyChanges [.cnt, .mem, .vec] s t) ∧
  (∀ (s : State) (oth : Bool) (kind : Byte) (flip : BitVec 288) (w c : Codeword) (k : Nat), s.scrubs 6 = true →
    s.scrubWord 6 (s.scrubPos 6) = some w → decodeWord (w ^^^ flip) = .corrected k c →
    s.count (C.VE_SPAD_CE (s.scrubPos 6 / 512)) < 0xFFFFFFFE →
    Completes (.scrubRead 6 flip oth kind) s fun t =>
      t.scrubWord 6 (s.scrubPos 6) = some c ∧
      t.count (C.VE_SPAD_CE (s.scrubPos 6 / 512)) = s.count (C.VE_SPAD_CE (s.scrubPos 6 / 512)) + 1 ∧
      OnlyChanges [.cnt, .mem, .vec] s t) ∧
  (∀ (s : State) (oth : Bool) (kind : Byte) (flip : BitVec 288) (w : Codeword), s.scrubs 0 = true →
    0 < s.memWords 0 → s.scrubWord 0 (s.scrubPos 0) = some w → decodeWord (w ^^^ flip) = .bad →
    s.count (C.MEM_UE 0) < 0xFFFFFFFE →
    Completes (.scrubRead 0 flip oth kind) s fun t =>
      t.ddrWord (s.scrubPos 0) = w ^^^ flip ∧ t.count (C.MEM_UE 0) = s.count (C.MEM_UE 0) + 1 ∧
      t.mem.logPtr = (s.mem.logPtr % 8 + 1) % 8 ∧ RegsKept [R.MEM_UE_LOG_B (s.mem.logPtr % 8)] s t ∧
      OnlyChanges [.arb, .cnt, .mem, .regs] s t) ∧
  (∀ (s : State) (oth : Bool) (kind : Byte) (flip : BitVec 288) (w : Codeword), s.scrubs 2 = true →
    s.scrubWord 2 (s.scrubPos 2) = some w → decodeWord (w ^^^ flip) = .bad → s.count (C.MEM_UE 2) < 0xFFFFFFFE →
    Completes (.scrubRead 2 flip oth kind) s fun t =>
      t.scrubWord 2 (s.scrubPos 2) = some (w ^^^ flip) ∧ t.count (C.MEM_UE 2) = s.count (C.MEM_UE 2) + 1 ∧
      RegsKept [R.MEM_UE_LOG_B (s.mem.logPtr % 8)] s t ∧ OnlyChanges [.arb, .cnt, .mem, .regs] s t) ∧
  (∀ (s : State) (oth : Bool) (kind : Byte) (flip : BitVec 288) (w : Codeword), s.scrubs 1 = true →
    s.scrubWord 1 (s.scrubPos 1) = some w → decodeWord (w ^^^ flip) = .bad → s.count (C.MEM_UE 1) < 0xFFFFFFFE →
    s.injection 1 = none →
    Completes (.scrubRead 1 flip true kind) s fun t =>
      t.scrubWord 1 (s.scrubPos 1) = some 0 ∧ t.count (C.MEM_UE 1) = s.count (C.MEM_UE 1) + 1 ∧
      RegsKept [R.MEM_UE_LOG_B (s.mem.logPtr % 8)] s t ∧ OnlyChanges [.arb, .cnt, .mem, .regs] s t) ∧
  (∀ (s : State) (oth : Bool) (kind : Byte) (flip : BitVec 288) (w : Codeword), s.scrubs 1 = true →
    s.scrubWord 1 (s.scrubPos 1) = some w → decodeWord (w ^^^ flip) = .bad →
    Completes (.scrubRead 1 flip false kind) s fun t =>
      t.boot.faultN = true ∧ .pin "FAULT_N" 0 false ∈ t.out ∧
      RegsKeptIn [R.BOND_SAT, fun _ => R.BUF_SAT, R.ETH_SAT, fun _ => R.MEM_DDR_SAT, fun _ => R.MEM_INJ,
        fun _ => R.MEM_SAT, R.MEM_UE_LOG_B, R.PON_STAT_SAT, fun _ => R.SCH_SAT, R.SLAB_SAT, R.SVL_SAT, R.VE_SAT] s t ∧
      OnlyChanges [.pending, .out, .freeCtr, .regs, .cnt, .arb, .fns, .pon, .bonding, .buf, .sched, .clsIn, .fwd,
        .vec, .svl, .mac, .lanes, .pwr, .mem, .ciph, .boot, .jrn] s t) ∧
  (∀ (s : State) (oth : Bool) (kind : Byte) (flip : BitVec 288) (w : Codeword), s.scrubs 3 = true →
    s.scrubWord 3 (s.scrubPos 3) = some w → decodeWord (w ^^^ flip) = .bad → s.count (C.MEM_UE 3) < 0xFFFFFFFE →
    Completes (.scrubRead 3 flip oth kind) s fun t =>
      t.keyWord (s.scrubPos 3) = w ^^^ flip ∧
      t.slot (s.scrubPos 3) = { s.slot (s.scrubPos 3) with state := if (s.slot (s.scrubPos 3)).state = 1 then 3 else (s.slot (s.scrubPos 3)).state } ∧
      t.count (C.MEM_UE 3) = s.count (C.MEM_UE 3) + 1 ∧ RegsKept [R.MEM_UE_LOG_B (s.mem.logPtr % 8)] s t ∧
      OnlyChanges [.arb, .ciph, .cnt, .mem, .regs] s t) ∧
  (∀ (s : State) (oth : Bool) (kind : Byte) (flip : BitVec 288) (w : Codeword), s.scrubs 4 = true →
    s.scrubWord 4 (s.scrubPos 4) = some w → decodeWord (w ^^^ flip) = .bad →
    s.count (C.SLAB_UE (s.scrubPos 4 / 65537)) < 0xFFFFFFFE →
    Completes (.scrubRead 4 flip oth kind) s fun t =>
      (t.eng (s.scrubPos 4 / 65537)).slab.lostWord =
        some ((s.eng (s.scrubPos 4 / 65537)).slab.lostWord.getD (s.scrubPos 4 % 65537)) ∧
      t.count (C.SLAB_UE (s.scrubPos 4 / 65537)) = s.count (C.SLAB_UE (s.scrubPos 4 / 65537)) + 1 ∧
      RegsKept [R.MEM_UE_LOG_B (s.mem.logPtr % 8)] s t ∧ OnlyChanges [.arb, .cnt, .mem, .regs, .vec] s t) ∧
  (∀ (s : State) (oth : Bool) (kind : Byte) (flip : BitVec 288) (w : Codeword), s.scrubs 5 = true →
    s.scrubWord 5 (s.scrubPos 5) = some w → decodeWord (w ^^^ flip) = .bad →
    s.count (C.VE_SPAD_UE (s.scrubPos 5 / 4096)) < 0xFFFFFFFE →
    Completes (.scrubRead 5 flip oth kind) s fun t =>
      (t.eng (s.scrubPos 5 / 4096)).spadWord (s.scrubPos 5 % 4096) = w ^^^ flip ∧
      t.count (C.VE_SPAD_UE (s.scrubPos 5 / 4096)) = s.count (C.VE_SPAD_UE (s.scrubPos 5 / 4096)) + 1 ∧
      RegsKept [R.MEM_UE_LOG_B (s.mem.logPtr % 8)] s t ∧ OnlyChanges [.arb, .cnt, .mem, .regs, .vec] s t) ∧
  (∀ (s : State) (oth : Bool) (kind : Byte) (flip : BitVec 288) (w : Codeword), s.scrubs 6 = true →
    s.scrubWord 6 (s.scrubPos 6) = some w → decodeWord (w ^^^ flip) = .bad →
    s.count (C.VE_IMEM_UE (s.scrubPos 6 / 512)) < 0xFFFFFFFE →
    Completes (.scrubRead 6 flip oth kind) s fun t =>
      s.scrubPos 6 % 512 ∈ (t.eng (s.scrubPos 6 / 512)).imemBad ∧
      t.count (C.VE_IMEM_UE (s.scrubPos 6 / 512)) = s.count (C.VE_IMEM_UE (s.scrubPos 6 / 512)) + 1 ∧
      RegsKept [R.MEM_UE_LOG_B (s.mem.logPtr % 8)] s t ∧ OnlyChanges [.arb, .cnt, .mem, .regs, .vec] s t) ∧
  (∀ (s : State) (oth : Bool) (kind : Byte) (flip : BitVec 288), s.scrubs 7 = true → flip.getLsbD 0 = true →
    s.scrubPos 7 ∈ s.mem.parity →
    Completes (.scrubRead 7 flip oth kind) s fun t =>
      (∀ k, k ∈ t.mem.parity ↔ k ∈ s.mem.parity ∧ k ≠ s.scrubPos 7) ∧ t.fwd = s.fwd ∧ OnlyChanges [.cnt, .mem] s t) ∧
  (∀ (s : State) (oth : Bool) (kind : Byte) (flip : BitVec 288), s.scrubs 7 = true → flip.getLsbD 0 = false →
    s.scrubPos 7 ∉ s.mem.parity →
    Completes (.scrubRead 7 flip oth kind) s fun t =>
      t.mem.parity = s.mem.parity ∧ t.fwd = s.fwd ∧ OnlyChanges [.cnt, .mem] s t) ∧
  (∀ (s : State) (oth : Bool) (kind : Byte) (flip : BitVec 288), s.scrubs 7 = true → flip.getLsbD 0 = true →
    s.scrubPos 7 ∉ s.mem.parity → s.count (C.MEM_UE 7) < 0xFFFFFFFE → s.scrubPos 7 < tableBase 7 →
    Completes (.scrubRead 7 flip oth kind) s fun t =>
      t.mem.parity = s.scrubPos 7 :: s.mem.parity ∧ t.count (C.MEM_UE 7) = s.count (C.MEM_UE 7) + 1 ∧
      t.fwd.entries = s.fwd.entries ∧ RegsKept [R.MEM_UE_LOG_B (s.mem.logPtr % 8)] s t ∧
      OnlyChanges [.arb, .cnt, .fwd, .mem, .regs] s t) ∧
  (∀ (s : State) (oth : Bool) (kind : Byte) (e : FwdEntry) (n : Nat), s.scrubs 7 = true →
    tableOf (s.scrubPos 7) = (2, n) → s.scrubPos 7 ∈ s.mem.parity → s.fwdAt n = some e → e.static = false →
    s.fwd.reqs = [] →
    Completes (.scrubRead 7 0 oth kind) s fun t =>
      t.fwd = { s.fwd with reqs := [⟨.parity, e.mac, e.fid, 0, 255⟩] } ∧ t.mem.parity = s.mem.parity ∧
      RegsKeptIn [R.BOND_SAT, fun _ => R.BUF_SAT, R.ETH_SAT, fun _ => R.MEM_DDR_SAT, fun _ => R.MEM_INJ,
        fun _ => R.MEM_SAT, R.MEM_UE_LOG_B, R.PON_STAT_SAT, fun _ => R.SCH_SAT, R.SLAB_SAT, R.SVL_SAT, R.VE_SAT] s t ∧
      OnlyChanges [.pending, .out, .freeCtr, .regs, .cnt, .arb, .fns, .pon, .bonding, .buf, .sched, .clsIn, .fwd,
        .vec, .svl, .mac, .lanes, .pwr, .mem, .ciph, .boot, .jrn] s t)

/-- PWR_SET_STATE, PWR_CFG, PWR_STAT_SNAP and the rows that move the power states (R198, R201, R530 to R538, R546). -/
def Obligations.PowerStatesAreEnteredAndLeft : Prop :=
  (∀ (s : State) (p : Pkt), Taken 0x0201 p s → p.length = 1 → p.target = 0 → leAt p.bytes 0 1 ≤ 3 →
    leAt p.bytes 1 1 ≤ 1 → (leAt p.bytes 2 1 ≤ 3 ∨ leAt p.bytes 2 1 = 0xFF) → leAt p.bytes 3 1 = 0 →
    s.pwr.busy = false → s.pwr.state = 0 →
    Ends (.pwrSetClear p) 0x0201 p s ⟨stDone, 0, []⟩ fun u =>
      u.pwr = s.pwr ∧ OnlyChanges [] (s.afterTake p) u) ∧
  (∀ (s : State) (p : Pkt), Taken 0x0201 p s → p.length = 1 → p.target = 0 → leAt p.bytes 0 1 ≤ 3 →
    leAt p.bytes 1 1 ≤ 1 → (leAt p.bytes 2 1 ≤ 3 ∨ leAt p.bytes 2 1 = 0xFF) → leAt p.bytes 3 1 = 0 →
    s.pwr.busy = false → s.pwr.state = 0 →
    Accepts (.pwrSetHaze p) 0x0201 p s 0 fun u =>
      u.pwr = { s.pwr with target := 1, busy := true, from_ := 0, hazeAt := some s.tick.count.toNat, cmd := some (p.func.val, s.cmdId), startTick := s.tick.count.toNat } ∧
      OnlyChanges [.pwr] (s.afterTake p) u) ∧
  (∀ (s : State) (p : Pkt), Taken 0x0201 p s → p.length = 1 → p.target = 0 → leAt p.bytes 0 1 ≤ 3 →
    leAt p.bytes 1 1 ≤ 1 → (leAt p.bytes 2 1 ≤ 3 ∨ leAt p.bytes 2 1 = 0xFF) → leAt p.bytes 3 1 = 0 →
    s.pwr.busy = false → s.pwr.state = 1 →
    Accepts (.pwrSetClear p) 0x0201 p s 0 fun u =>
      u.pwr = { s.pwr with target := 0, busy := true, from_ := 1, hazeAt := some s.tick.count.toNat, cmd := some (p.func.val, s.cmdId), startTick := s.tick.count.toNat } ∧
      OnlyChanges [.pwr] (s.afterTake p) u) ∧
  (∀ (s : State) (p : Pkt), Taken 0x0201 p s → p.length = 1 → p.target = 0 → leAt p.bytes 0 1 ≤ 3 →
    leAt p.bytes 1 1 ≤ 1 → (leAt p.bytes 2 1 ≤ 3 ∨ leAt p.bytes 2 1 = 0xFF) → leAt p.bytes 3 1 = 0 →
    s.pwr.busy = false → s.pwr.state ≤ 1 →
    Accepts (.pwrSetOvercast p) 0x0201 p s 0 fun u =>
      u.pwr.busy = true ∧ u.pwr.target = 2 ∧ u.pwr.step = 1 ∧ u.pwr.from_ = s.pwr.state ∧
      u.pwr.state = s.pwr.state ∧ u.pwr.ckptDone = false ∧ u.pwr.drained = false ∧ u.buf.limited = true ∧
      RegsKeptIn [R.BOND_SAT, fun _ => R.BUF_SAT, R.ETH_SAT, R.PON_STAT_SAT, fun _ => R.SCH_SAT, R.SVL_SAT] s u ∧
      OnlyChanges [.pending, .out, .freeCtr, .regs, .cnt, .arb, .fns, .pon, .bonding, .buf, .sched, .clsIn, .vec,
        .svl, .mac, .lanes, .pwr] (s.afterTake p) u) ∧
  (∀ (s : State) (p : Pkt), Taken 0x0201 p s → p.length = 1 → p.target = 0 → leAt p.bytes 0 1 ≤ 3 →
    leAt p.bytes 1 1 ≤ 1 → (leAt p.bytes 2 1 ≤ 3 ∨ leAt p.bytes 2 1 = 0xFF) → leAt p.bytes 3 1 = 0 →
    s.pwr.busy = false → s.pwr.state = 2 →
    Accepts (.pwrSetDark p) 0x0201 p s 0 fun u =>
      u.pwr.busy = true ∧ u.pwr.target = 3 ∧ u.pwr.step = 1 ∧ u.pwr.from_ = 2 ∧
      u.pwr.selfRef = bit (leAt p.bytes 1 1) 0 ∧ u.pwr.drained = true ∧ u.pwr.ckptDone = true ∧
      OnlyChanges [.pwr] (s.afterTake p) u) ∧
  (∀ (s : State) (p : Pkt), Taken 0x0201 p s → p.length = 1 → p.target = 0 → leAt p.bytes 0 1 ≤ 3 →
    leAt p.bytes 1 1 ≤ 1 → (leAt p.bytes 2 1 ≤ 3 ∨ leAt p.bytes 2 1 = 0xFF) → leAt p.bytes 3 1 = 0 →
    s.pwr.busy = false → s.pwr.state = 2 →
    Accepts (.pwrSetClear p) 0x0201 p s 0 fun u =>
      u.pwr.busy = true ∧ u.pwr.exiting = true ∧ u.pwr.part = 1 ∧ u.pwr.target = 0 ∧
      (∃ mv, u.out = .regulator 1 mv :: s.out) ∧ OnlyChanges [.out, .pwr] (s.afterTake p) u) ∧
  (∀ (s : State) (p : Pkt), Taken 0x0201 p s → p.length = 1 → p.target = 0 → leAt p.bytes 0 1 ≤ 3 →
    leAt p.bytes 1 1 ≤ 1 → (leAt p.bytes 2 1 ≤ 3 ∨ leAt p.bytes 2 1 = 0xFF) → leAt p.bytes 3 1 = 0 →
    s.pwr.busy = true → s.pwr.exiting = true →
    Ends (.pwrSetDark p) 0x0201 p s ⟨stBusy, 0, []⟩ fun u =>
      u.pwr = s.pwr ∧ OnlyChanges [] (s.afterTake p) u) ∧
  (∀ (s : State) (p : Pkt) (r : RegSpec), Taken 0x0202 p s → p.length = 1 → p.target.toNat % 4 = 0 →
    p.target.toNat < 0x200000 → regSpecAt (0x00200000 + p.target.toNat) = some r → r.w1c = 0 →
    0x00200000 + p.target.toNat ∉ [R.PWR_STAT_CTL, R.PWR_JRN_CLEAR, R.PWR_HAZE_CFG] →
    Ends (.pwrCfg p) 0x0202 p s ⟨stDone, 0, []⟩ fun u =>
      u.rd (0x00200000 + p.target.toNat) = s.rwAfter (0x00200000 + p.target.toNat) (p.w 0) ∧
      RegsKept [0x00200000 + p.target.toNat] s u ∧ OnlyChanges [.regs] (s.afterTake p) u) ∧
  (∀ (s : State),
    Completes (.pwrStatSnap) s fun t =>
      (∀ x ∈ pwrCtrs, t.bankAt x.off = s.count x % 2 ^ 32) ∧ OnlyChanges [.bank] s t) ∧
  (∀ (s : State), s.pwr.busy = true → s.pwr.exiting = false → s.pwr.step = 1 → s.pwr.ckptDone = false →
    s.running = 0 → s.pwr.drained = false →
    Completes (.checkpointWriteDone) s fun t =>
      t.pwr = { s.pwr with ckptDone := true } ∧
      (∀ g ∈ groupsOf s.pwr.ckpts, (∀ k < (s.vg g).tgs.length,
        (sparseGet (fun _ => none) t.vec.ckpts (ckptKey g k)).isSome = true)) ∧
      t.vec = { s.vec with ckpts := t.vec.ckpts } ∧ OnlyChanges [.pwr, .vec] s t) ∧
  (∀ (s : State), s.pwr.busy = true → s.pwr.exiting = false → s.pwr.step = 1 → s.pwr.drained = false →
    s.pwr.ckptDone = false →
    Completes (.overcastPoolDrainEnd) s fun t =>
      t.pwr = { s.pwr with drained := true } ∧
      RegsKeptIn [R.BOND_SAT, fun _ => R.BUF_SAT, R.ETH_SAT, R.PON_STAT_SAT, fun _ => R.PWR_SAT, fun _ => R.SCH_SAT,
        R.SVL_SAT, fun _ => R.TIME_SAT] s t ∧
      OnlyChanges [.pending, .out, .freeCtr, .regs, .cnt, .arb, .fns, .pon, .bonding, .buf, .sched, .time, .clsIn,
        .running, .vec, .svl, .mac, .lanes, .pwr, .mem, .jrn] s t) ∧
  (∀ (s : State), s.pwr.busy = false →
    exec (.pcieL2Entered) s = .next ({ s with pwr := { s.pwr with l2 := true, linkUp := false } })) ∧
  (∀ (s : State), s.pwr.busy = true → s.pwr.exiting = false → s.pwr.step = 1 → s.pwr.target = 3 →
    s.pwr.ckptDone = true → s.pwr.drained = true → s.running = 0 → s.pwr.wake = none →
    (List.range 96).all (fun e => (s.eng e).slab.work == .none) = true →
    Completes (.pcieL2Entered) s fun t =>
      t.pwr.l2 = true ∧ t.pwr.step = 4 ∧ t.pwr.part = s.topGroup ∧ t.mem.selfRefresh = s.pwr.selfRef ∧
      t.pwr.busy = true ∧
      RegsKeptIn [R.BOND_SAT, fun _ => R.BUF_SAT, R.ETH_SAT, R.PON_STAT_SAT, fun _ => R.PWR_SAT, fun _ => R.SCH_SAT,
        R.SVL_SAT, fun _ => R.TIME_SAT] s t ∧
      OnlyChanges [.pending, .out, .freeCtr, .regs, .cnt, .arb, .fns, .pon, .bonding, .buf, .sched, .time, .clsIn,
        .running, .vec, .svl, .mac, .lanes, .pwr, .mem, .jrn] s t) ∧
  (∀ (s : State), s.pwr.busy = true → s.pwr.exiting = false → s.pwr.step = 1 → s.pwr.target = 3 → s.pwr.l2 = false →
    s.pwr.wake = none → s.pwr.ckptDone = false →
    Completes (.darkL2Timeout) s fun t =>
      t.pwr = { s.pwr with wake := some 4 } ∧ OnlyChanges [.pwr] s t) ∧
  (∀ (s : State), s.pwr.busy = true → s.pwr.exiting = false → s.pwr.step = 4 → s.pwr.target = 2 → s.pwr.unwind = 0 →
    s.pwr.wake = none →
    Completes (.regulatorAck false) s fun t =>
      t.pwr.state = 2 ∧ t.pwr.busy = false ∧ t.pwr.step = 0 ∧ t.vec.veOff = true ∧
      (∀ e < 96, (t.eng e).st = .off ∧ (t.eng e).imem = [] ∧ (t.eng e).spad = []) ∧
      RegsKeptIn [R.BOND_SAT, fun _ => R.BUF_SAT, R.ETH_SAT, R.PON_STAT_SAT, fun _ => R.PWR_SAT, fun _ => R.SCH_SAT,
        R.SVL_SAT, fun _ => R.TIME_SAT] s t ∧
      OnlyChanges [.pending, .out, .freeCtr, .cmdId, .regs, .cnt, .bank, .arb, .fns, .tick, .pon, .alloc, .bonding,
        .buf, .chan, .sched, .time, .clsIn, .cls, .fwd, .running, .vec, .svl, .testLanes, .mac, .lanes, .pwr, .mem,
        .ciph, .boot, .jrn, .tap] s t) ∧
  (∀ (s : State), s.pwr.busy = true → s.pwr.exiting = true → s.pwr.part = 1 →
    exec (.regulatorAck false) s = .next ({ s with pwr := { s.pwr with part := 2 } })) ∧
  (∀ (s : State), s.pwr.busy = true → s.pwr.exiting = true → s.pwr.part = 2 →
    exec (.regulatorAck true) s = .next ({ s with pwr := { s.pwr with part := 3 } })) ∧
  (∀ (s : State), s.pwr.busy = true → s.pwr.exiting = false → s.pwr.step = 4 → s.pwr.unwind = 0 → s.pwr.target = 2 →
    s.pwr.tries < 2 →
    Completes (.regulatorAckTimeout) s fun t =>
      t.pwr = { s.pwr with tries := s.pwr.tries + 1 } ∧ t.out = .regulator 1 0 :: s.out ∧
      OnlyChanges [.out, .pwr] s t) ∧
  (∀ (s : State), s.pwr.exiting = true → (s.pwr.part = 1 ∨ s.pwr.part = 2) → 2 ≤ s.pwr.tries →
    s.count C.PWR_ENTRY_FAIL < 0xFFFFFFFE →
    Completes (.regulatorAckTimeout) s fun t =>
      t.pwr.state = 2 ∧ t.pwr.busy = false ∧ t.pwr.exiting = false ∧
      t.count C.PWR_ENTRY_FAIL = s.count C.PWR_ENTRY_FAIL + 1 ∧
      RegsKeptIn [R.BOND_SAT, fun _ => R.BUF_SAT, R.ETH_SAT, R.PON_STAT_SAT, fun _ => R.PWR_SAT, fun _ => R.SCH_SAT,
        R.SVL_SAT, fun _ => R.TIME_SAT] s t ∧
      OnlyChanges [.pending, .out, .freeCtr, .regs, .cnt, .arb, .fns, .pon, .bonding, .buf, .sched, .time, .clsIn,
        .running, .vec, .svl, .mac, .lanes, .pwr, .mem, .jrn] s t) ∧
  (∀ (s : State), s.pwr.exiting = true → s.pwr.part = 3 →
    exec (.vePllLock) s = .next ({ s with vec := { s.vec with veOff := false }, pwr := { s.pwr with part := 4 } })) ∧
  (∀ (s : State), s.pwr.exiting = true → s.pwr.part = 4 →
    Completes (.memoryZeroFillDone none) s fun t =>
      t.buf.limited = false ∧ 5 ≤ t.pwr.part ∧ t.pwr.exiting = true ∧
      RegsKeptIn [fun _ => R.CIPH_RQ_CFG, fun _ => R.CIPH_SAT, R.ETH_SAT, fun _ => R.MEM_DDR_SAT,
        fun _ => R.MEM_SAT, R.MEM_UE_LOG_B, R.SVL_SAT] s t ∧
      OnlyChanges [.out, .freeCtr, .regs, .cnt, .arb, .fns, .buf, .vec, .svl, .mac, .lanes, .pwr, .mem, .ciph] s t) ∧
  (∀ (s : State) (e : Fin 96), (s.eng e.val).st = .off → s.vec.veOff = false → (s.eng e.val).spadFilled = false →
    s.pwr.exiting = false →
    Completes (.memoryZeroFillDone (some e)) s fun t =>
      (t.eng e.val).spadFilled = true ∧ (t.eng e.val).spad = [] ∧ (t.eng e.val).imem = (s.eng e.val).imem ∧
      OtherEngines e.val s t ∧ OnlyChanges [.vec] s t) ∧
  (∀ (s : State) (e : Fin 96), (s.eng e.val).st = .off → s.vec.veOff = false → (s.eng e.val).imemLoaded = false →
    (s.eng e.val).kernel = none → (s.eng e.val).spadFilled = true → (s.eng e.val).retd = false →
    (s.eng e.val).spareOf = none → s.pwr.exiting = false →
    Completes (.instructionMemoryReloaded e) s fun t =>
      (t.eng e.val).st = .stopped ∧ (t.eng e.val).imem = [] ∧ (t.eng e.val).imemLoaded = true ∧
      OtherEngines e.val s t ∧ OnlyChanges [.vec] s t) ∧
  (∀ (s : State) (e : Fin 96) (h : Nat) (img : Sparse Nat), (s.eng e.val).st = .off → s.vec.veOff = false →
    (s.eng e.val).imemLoaded = false → (s.eng e.val).kernel = some h →
    sparseGet (fun _ => none) s.vec.kernels h = some img → (s.eng e.val).spadFilled = false →
    s.pwr.exiting = false →
    Completes (.instructionMemoryReloaded e) s fun t =>
      (t.eng e.val).imem = imemOf img ∧ (t.eng e.val).imemLoaded = true ∧ (t.eng e.val).st = .off ∧
      OtherEngines e.val s t ∧ OnlyChanges [.vec] s t) ∧
  (∀ (s : State), s.pwr.exiting = true → s.pwr.part = 6 →
    Completes (.overcastExitPortWaitEnd) s fun t =>
      t.pwr.state = s.pwr.target ∧ t.pwr.busy = false ∧ t.pwr.exiting = false ∧
      RegsKeptIn [R.BOND_SAT, fun _ => R.BUF_SAT, R.ETH_SAT, R.PON_STAT_SAT, fun _ => R.SCH_SAT, R.SVL_SAT,
        fun _ => R.TIME_SAT] s t ∧
      OnlyChanges [.pending, .freeCtr, .regs, .cnt, .arb, .fns, .pon, .bonding, .buf, .sched, .time, .clsIn,
        .running, .vec, .svl, .mac, .lanes, .pwr, .jrn] s t) ∧
  (∀ (s : State) (p : Pkt), Taken 0x0201 p s → p.length = 1 → p.target = 0 →
    (3 < leAt p.bytes 0 1 ∨ (3 < leAt p.bytes 2 1 ∧
      leAt p.bytes 2 1 ≠ 0xFF) ∨ leAt p.bytes 1 1 / 2 ≠ 0 ∨ leAt p.bytes 3 1 ≠ 0) →
    Ends (.pwrSetClear p) 0x0201 p s ⟨stBadParam, 0, []⟩ fun u =>
      OnlyChanges [] (s.afterTake p) u) ∧
  (∀ (s : State) (p : Pkt), Taken 0x0201 p s → p.length = 1 → p.target ≠ 0 →
    Ends (.pwrSetClear p) 0x0201 p s ⟨stBadTarget, 0, []⟩ fun u =>
      OnlyChanges [] (s.afterTake p) u) ∧
  (∀ (s : State) (p : Pkt), Taken 0x0201 p s → p.length = 1 → p.target = 0 → leAt p.bytes 0 1 ≤ 3 →
    leAt p.bytes 1 1 ≤ 1 → (leAt p.bytes 2 1 ≤ 3 ∨ leAt p.bytes 2 1 = 0xFF) → leAt p.bytes 3 1 = 0 →
    s.pwr.busy = false → s.pwr.state = 0 →
    Ends (.pwrSetClear p) 0x0201 p s ⟨stDone, 0, []⟩ fun u =>
      OnlyChanges [] (s.afterTake p) u) ∧
  (∀ (s : State) (p : Pkt), Taken 0x0201 p s → p.length = 1 → p.target = 0 → leAt p.bytes 0 1 ≤ 3 →
    leAt p.bytes 1 1 ≤ 1 → (leAt p.bytes 2 1 ≤ 3 ∨ leAt p.bytes 2 1 = 0xFF) → leAt p.bytes 3 1 = 0 →
    s.pwr.busy = true →
    (s.pwr.exiting = true ∨ s.pwr.step = 0 ∨ s.pwr.target ≤ 0 ∨ s.pwr.unwind ≠ 0 ∨ s.pwr.wake ≠ none) →
    Ends (.pwrSetClear p) 0x0201 p s ⟨stBusy, 0, []⟩ fun u =>
      OnlyChanges [] (s.afterTake p) u) ∧
  (∀ (s : State) (p : Pkt), Taken 0x0201 p s → p.length = 1 → p.target = 0 → leAt p.bytes 0 1 ≤ 3 →
    leAt p.bytes 1 1 ≤ 1 → (leAt p.bytes 2 1 ≤ 3 ∨ leAt p.bytes 2 1 = 0xFF) → leAt p.bytes 3 1 = 0 →
    s.pwr.busy = true → s.pwr.exiting = false → s.pwr.step ≠ 0 → 0 < s.pwr.target → s.pwr.unwind = 0 →
    s.pwr.wake = none →
    Accepts (.pwrSetClear p) 0x0201 p s 0 fun u =>
      u.pwr = { s.pwr with wake := some 0, wakeCmd := some ⟨p.func.val, s.cmdId, 0, leAt p.bytes 2 1, bit (leAt p.bytes 1 1) 0⟩ } ∧
      OnlyChanges [.pwr] (s.afterTake p) u) ∧
  (∀ (s : State) (p : Pkt), Taken 0x0201 p s → p.length = 1 → p.target = 0 → leAt p.bytes 0 1 ≤ 3 →
    leAt p.bytes 1 1 ≤ 1 → (leAt p.bytes 2 1 ≤ 3 ∨ leAt p.bytes 2 1 = 0xFF) → leAt p.bytes 3 1 = 0 →
    s.pwr.busy = false → s.pwr.state = 2 →
    Accepts (.pwrSetClear p) 0x0201 p s 0 fun u =>
      u.pwr.busy = true ∧ u.pwr.exiting = true ∧ u.pwr.part = 1 ∧ u.pwr.target = 0 ∧ u.pwr.state = 2 ∧
      (∃ mv, u.out = .regulator 1 mv :: s.out) ∧ OnlyChanges [.out, .pwr] (s.afterTake p) u) ∧
  (∀ (s : State) (p : Pkt), Taken 0x0201 p s → p.length = 1 → p.target = 0 →
    (3 < leAt p.bytes 0 1 ∨ (3 < leAt p.bytes 2 1 ∧
      leAt p.bytes 2 1 ≠ 0xFF) ∨ leAt p.bytes 1 1 / 2 ≠ 0 ∨ leAt p.bytes 3 1 ≠ 0) →
    Ends (.pwrSetHaze p) 0x0201 p s ⟨stBadParam, 0, []⟩ fun u =>
      OnlyChanges [] (s.afterTake p) u) ∧
  (∀ (s : State) (p : Pkt), Taken 0x0201 p s → p.length = 1 → p.target ≠ 0 →
    Ends (.pwrSetHaze p) 0x0201 p s ⟨stBadTarget, 0, []⟩ fun u =>
      OnlyChanges [] (s.afterTake p) u) ∧
  (∀ (s : State) (p : Pkt), Taken 0x0201 p s → p.length = 1 → p.target = 0 → leAt p.bytes 0 1 ≤ 3 →
    leAt p.bytes 1 1 ≤ 1 → (leAt p.bytes 2 1 ≤ 3 ∨ leAt p.bytes 2 1 = 0xFF) → leAt p.bytes 3 1 = 0 →
    s.pwr.busy = false → s.pwr.state = 1 →
    Ends (.pwrSetHaze p) 0x0201 p s ⟨stDone, 0, []⟩ fun u =>
      OnlyChanges [] (s.afterTake p) u) ∧
  (∀ (s : State) (p : Pkt), Taken 0x0201 p s → p.length = 1 → p.target = 0 → leAt p.bytes 0 1 ≤ 3 →
    leAt p.bytes 1 1 ≤ 1 → (leAt p.bytes 2 1 ≤ 3 ∨ leAt p.bytes 2 1 = 0xFF) → leAt p.bytes 3 1 = 0 →
    s.pwr.busy = true →
    (s.pwr.exiting = true ∨ s.pwr.step = 0 ∨ s.pwr.target ≤ 1 ∨ s.pwr.unwind ≠ 0 ∨ s.pwr.wake ≠ none) →
    Ends (.pwrSetHaze p) 0x0201 p s ⟨stBusy, 0, []⟩ fun u =>
      OnlyChanges [] (s.afterTake p) u) ∧
  (∀ (s : State) (p : Pkt), Taken 0x0201 p s → p.length = 1 → p.target = 0 → leAt p.bytes 0 1 ≤ 3 →
    leAt p.bytes 1 1 ≤ 1 → (leAt p.bytes 2 1 ≤ 3 ∨ leAt p.bytes 2 1 = 0xFF) → leAt p.bytes 3 1 = 0 →
    s.pwr.busy = true → s.pwr.exiting = false → s.pwr.step ≠ 0 → 1 < s.pwr.target → s.pwr.unwind = 0 →
    s.pwr.wake = none →
    Accepts (.pwrSetHaze p) 0x0201 p s 0 fun u =>
      u.pwr = { s.pwr with wake := some 0, wakeCmd := some ⟨p.func.val, s.cmdId, 1, leAt p.bytes 2 1, bit (leAt p.bytes 1 1) 0⟩ } ∧
      OnlyChanges [.pwr] (s.afterTake p) u) ∧
  (∀ (s : State) (p : Pkt), Taken 0x0201 p s → p.length = 1 → p.target = 0 → leAt p.bytes 0 1 ≤ 3 →
    leAt p.bytes 1 1 ≤ 1 → (leAt p.bytes 2 1 ≤ 3 ∨ leAt p.bytes 2 1 = 0xFF) → leAt p.bytes 3 1 = 0 →
    s.pwr.busy = false → s.pwr.state = 2 →
    Accepts (.pwrSetHaze p) 0x0201 p s 0 fun u =>
      u.pwr.busy = true ∧ u.pwr.exiting = true ∧ u.pwr.part = 1 ∧ u.pwr.target = 1 ∧ u.pwr.state = 2 ∧
      (∃ mv, u.out = .regulator 1 mv :: s.out) ∧ OnlyChanges [.out, .pwr] (s.afterTake p) u) ∧
  (∀ (s : State) (p : Pkt), Taken 0x0201 p s → p.length = 1 → p.target = 0 →
    (3 < leAt p.bytes 0 1 ∨ (3 < leAt p.bytes 2 1 ∧
      leAt p.bytes 2 1 ≠ 0xFF) ∨ leAt p.bytes 1 1 / 2 ≠ 0 ∨ leAt p.bytes 3 1 ≠ 0) →
    Ends (.pwrSetOvercast p) 0x0201 p s ⟨stBadParam, 0, []⟩ fun u =>
      OnlyChanges [] (s.afterTake p) u) ∧
  (∀ (s : State) (p : Pkt), Taken 0x0201 p s → p.length = 1 → p.target ≠ 0 →
    Ends (.pwrSetOvercast p) 0x0201 p s ⟨stBadTarget, 0, []⟩ fun u =>
      OnlyChanges [] (s.afterTake p) u) ∧
  (∀ (s : State) (p : Pkt), Taken 0x0201 p s → p.length = 1 → p.target = 0 → leAt p.bytes 0 1 ≤ 3 →
    leAt p.bytes 1 1 ≤ 1 → (leAt p.bytes 2 1 ≤ 3 ∨ leAt p.bytes 2 1 = 0xFF) → leAt p.bytes 3 1 = 0 →
    s.pwr.busy = false → s.pwr.state = 2 →
    Ends (.pwrSetOvercast p) 0x0201 p s ⟨stDone, 0, []⟩ fun u =>
      OnlyChanges [] (s.afterTake p) u) ∧
  (∀ (s : State) (p : Pkt), Taken 0x0201 p s → p.length = 1 → p.target = 0 → leAt p.bytes 0 1 ≤ 3 →
    leAt p.bytes 1 1 ≤ 1 → (leAt p.bytes 2 1 ≤ 3 ∨ leAt p.bytes 2 1 = 0xFF) → leAt p.bytes 3 1 = 0 →
    s.pwr.busy = true →
    (s.pwr.exiting = true ∨ s.pwr.step = 0 ∨ s.pwr.target ≤ 2 ∨ s.pwr.unwind ≠ 0 ∨ s.pwr.wake ≠ none) →
    Ends (.pwrSetOvercast p) 0x0201 p s ⟨stBusy, 0, []⟩ fun u =>
      OnlyChanges [] (s.afterTake p) u) ∧
  (∀ (s : State) (p : Pkt), Taken 0x0201 p s → p.length = 1 → p.target = 0 → leAt p.bytes 0 1 ≤ 3 →
    leAt p.bytes 1 1 ≤ 1 → (leAt p.bytes 2 1 ≤ 3 ∨ leAt p.bytes 2 1 = 0xFF) → leAt p.bytes 3 1 = 0 →
    s.pwr.busy = true → s.pwr.exiting = false → s.pwr.step ≠ 0 → 2 < s.pwr.target → s.pwr.unwind = 0 →
    s.pwr.wake = none →
    Accepts (.pwrSetOvercast p) 0x0201 p s 0 fun u =>
      u.pwr = { s.pwr with wake := some 0, wakeCmd := some ⟨p.func.val, s.cmdId, 2, leAt p.bytes 2 1, bit (leAt p.bytes 1 1) 0⟩ } ∧
      OnlyChanges [.pwr] (s.afterTake p) u) ∧
  (∀ (s : State) (p : Pkt), Taken 0x0201 p s → p.length = 1 → p.target = 0 →
    (3 < leAt p.bytes 0 1 ∨ (3 < leAt p.bytes 2 1 ∧
      leAt p.bytes 2 1 ≠ 0xFF) ∨ leAt p.bytes 1 1 / 2 ≠ 0 ∨ leAt p.bytes 3 1 ≠ 0) →
    Ends (.pwrSetDark p) 0x0201 p s ⟨stBadParam, 0, []⟩ fun u =>
      OnlyChanges [] (s.afterTake p) u) ∧
  (∀ (s : State) (p : Pkt), Taken 0x0201 p s → p.length = 1 → p.target ≠ 0 →
    Ends (.pwrSetDark p) 0x0201 p s ⟨stBadTarget, 0, []⟩ fun u =>
      OnlyChanges [] (s.afterTake p) u) ∧
  (∀ (s : State) (p : Pkt), Taken 0x0201 p s → p.length = 1 → p.target = 0 → leAt p.bytes 0 1 ≤ 3 →
    leAt p.bytes 1 1 ≤ 1 → (leAt p.bytes 2 1 ≤ 3 ∨ leAt p.bytes 2 1 = 0xFF) → leAt p.bytes 3 1 = 0 →
    s.pwr.busy = false → s.pwr.state = 3 →
    Ends (.pwrSetDark p) 0x0201 p s ⟨stDone, 0, []⟩ fun u =>
      OnlyChanges [] (s.afterTake p) u) ∧
  (∀ (s : State) (p : Pkt), Taken 0x0201 p s → p.length = 1 → p.target = 0 → leAt p.bytes 0 1 ≤ 3 →
    leAt p.bytes 1 1 ≤ 1 → (leAt p.bytes 2 1 ≤ 3 ∨ leAt p.bytes 2 1 = 0xFF) → leAt p.bytes 3 1 = 0 →
    s.pwr.busy = true →
    (s.pwr.exiting = true ∨ s.pwr.step = 0 ∨ s.pwr.target ≤ 3 ∨ s.pwr.unwind ≠ 0 ∨ s.pwr.wake ≠ none) →
    Ends (.pwrSetDark p) 0x0201 p s ⟨stBusy, 0, []⟩ fun u =>
      OnlyChanges [] (s.afterTake p) u) ∧
  (∀ (s : State) (p : Pkt), Taken 0x0201 p s → p.length = 1 → p.target = 0 → leAt p.bytes 0 1 ≤ 3 →
    leAt p.bytes 1 1 ≤ 1 → (leAt p.bytes 2 1 ≤ 3 ∨ leAt p.bytes 2 1 = 0xFF) → leAt p.bytes 3 1 = 0 →
    s.pwr.busy = false → s.pwr.state ≤ 1 →
    Accepts (.pwrSetDark p) 0x0201 p s 0 fun u =>
      u.pwr.busy = true ∧ u.pwr.target = 3 ∧ u.pwr.step = 1 ∧ u.pwr.from_ = s.pwr.state ∧
      u.pwr.state = s.pwr.state ∧ u.pwr.selfRef = bit (leAt p.bytes 1 1) 0 ∧ u.pwr.ckptDone = false ∧
      u.pwr.drained = false ∧ u.buf.limited = true ∧
      RegsKeptIn [R.BOND_SAT, fun _ => R.BUF_SAT, R.ETH_SAT, R.PON_STAT_SAT, fun _ => R.SCH_SAT, R.SVL_SAT] s u ∧
      OnlyChanges [.pending, .out, .freeCtr, .regs, .cnt, .arb, .fns, .pon, .bonding, .buf, .sched, .clsIn, .vec,
        .svl, .mac, .lanes, .pwr] (s.afterTake p) u) ∧
  (∀ (s : State) (p : Pkt), Taken 0x0202 p s → 1 ≤ p.length → p.length ≤ 1024 →
    (p.target.toNat % 4 ≠ 0 ∨ 0x200000 ≤ p.target.toNat) →
    Ends (.pwrCfg p) 0x0202 p s ⟨stBadTarget, 0, []⟩ fun u =>
      OnlyChanges [] (s.afterTake p) u) ∧
  (∀ (s : State) (p : Pkt) (r0 r1 : RegSpec), Taken 0x0202 p s → p.length = 2 → p.target.toNat % 4 = 0 →
    p.target.toNat + 4 < 0x200000 → regSpecAt (0x00200000 + p.target.toNat) = some r0 →
    regSpecAt (0x00200000 + (p.target.toNat + 4)) = some r1 → r0.w1c = 0 → r1.w1c = 0 →
    (∀ o ∈ [R.PWR_STAT_CTL, R.PWR_JRN_CLEAR, R.PWR_HAZE_CFG], o ≠ 0x00200000 + p.target.toNat ∧
      o ≠ 0x00200000 + (p.target.toNat + 4)) →
    Ends (.pwrCfg p) 0x0202 p s ⟨stDone, 0, []⟩ fun u =>
      u.rd (0x00200000 + p.target.toNat) = s.rwAfter (0x00200000 + p.target.toNat) (p.w 0) ∧
      u.rd (0x00200000 + (p.target.toNat + 4)) = s.rwAfter (0x00200000 + (p.target.toNat + 4)) (p.w 1) ∧
      RegsKept [0x00200000 + p.target.toNat, 0x00200000 + (p.target.toNat + 4)] s u ∧
      OnlyChanges [.regs] (s.afterTake p) u) ∧
  (∀ (s : State) (p : Pkt) (r : RegSpec) (o : Nat), Taken 0x0202 p s → p.length = 1 → p.target.toNat % 4 = 0 →
    p.target.toNat < 0x200000 → o = 0x00200000 + p.target.toNat → regSpecAt o = some r →
    o ∉ [R.PWR_STAT_CTL, R.PWR_JRN_CLEAR] →
    Ends (.pwrCfg p) 0x0202 p s ⟨stDone, 0, []⟩ fun u =>
      u.rd o = (s.wr o (BitVec.ofNat 32 ((s.rd o).toNat - ((s.rd o).toNat &&& p.w 0 &&& r.w1c)))).rwAfter o (p.w 0) ∧
      RegsKeptIn [fun _ => o, R.ETH_SAT, R.SVL_SAT] s u ∧
      OnlyChanges [.freeCtr, .regs, .cnt, .bank, .arb, .fns, .svl, .mac, .lanes, .jrn] (s.afterTake p) u) ∧
  (∀ (s : State) (p : Pkt), Taken 0x0202 p s → p.length = 1 → p.target.toNat = R.PWR_STAT_CTL - 0x00200000 →
    bit (p.w 0) 0 = true →
    Ends (.pwrCfg p) 0x0202 p s ⟨stDone, 0, []⟩ fun u =>
      (∀ x ∈ pwrCtrs, u.bankAt x.off = s.count x % 2 ^ 32) ∧ OnlyChanges [.bank] (s.afterTake p) u) ∧
  (∀ (s : State) (p : Pkt), Taken 0x0202 p s → p.length = 1 → p.target.toNat = R.PWR_JRN_CLEAR - 0x00200000 →
    bit (p.w 0) 0 = true →
    Ends (.pwrCfg p) 0x0202 p s ⟨stDone, 0, []⟩ fun u =>
      u.jrn = { s.jrn with clearDue := true } ∧ OnlyChanges [.jrn] (s.afterTake p) u) ∧
  (∀ (s : State),
    (s.pwr.busy = false ∨ s.pwr.exiting = true ∨ s.pwr.step ≠ 1 ∨ s.pwr.ckptDone = true ∨ s.running ≠ 0) →
    exec (.checkpointWriteDone) s = .next (s)) ∧
  (∀ (s : State), s.pwr.busy = true → s.pwr.exiting = false → s.pwr.step = 1 → s.pwr.ckptDone = false →
    s.running = 0 → s.pwr.drained = true → s.pwr.target = 2 → s.pwr.unwind = 0 → s.pwr.wake = none →
    (List.range 96).all (fun e => (s.eng e).slab.work == .none) = true →
    Completes (.checkpointWriteDone) s fun t =>
      t.pwr.ckptDone = true ∧ t.pwr.step = 4 ∧ t.pwr.busy = true ∧
      t.pwr.modes = (List.range 96).map (fun e => (e, (s.eng e).slab.mode)) ∧ .regulator 1 0 ∈ t.out ∧
      (∀ g ∈ groupsOf s.pwr.ckpts, (∀ k < (s.vg g).tgs.length,
        (sparseGet (fun _ => none) t.vec.ckpts (ckptKey g k)).isSome = true)) ∧
      OnlyChanges [.out, .pwr, .vec] s t) ∧
  (∀ (s : State), (s.pwr.busy = false ∨ s.pwr.exiting = true ∨ s.pwr.step ≠ 1 ∨ s.pwr.drained = true) →
    exec (.overcastPoolDrainEnd) s = .next (s)) ∧
  (∀ (s : State), s.pwr.busy = true → s.pwr.exiting = false → s.pwr.step = 1 → s.pwr.drained = false →
    s.pwr.ckptDone = true → s.running = 0 → s.pwr.target = 2 → s.pwr.unwind = 0 → s.pwr.wake = none →
    (List.range 96).all (fun e => (s.eng e).slab.work == .none) = true →
    Completes (.overcastPoolDrainEnd) s fun t =>
      t.pwr.drained = true ∧ t.pwr.step = 4 ∧ t.pwr.busy = true ∧ .regulator 1 0 ∈ t.out ∧
      RegsKeptIn [R.BOND_SAT, fun _ => R.BUF_SAT, R.ETH_SAT, R.PON_STAT_SAT, fun _ => R.PWR_SAT, fun _ => R.SCH_SAT,
        R.SVL_SAT, fun _ => R.TIME_SAT] s t ∧
      OnlyChanges [.pending, .out, .freeCtr, .regs, .cnt, .arb, .fns, .pon, .bonding, .buf, .sched, .time, .clsIn,
        .running, .vec, .svl, .mac, .lanes, .pwr, .mem, .jrn] s t) ∧
  (∀ (s : State),
    (s.pwr.busy = false ∨ s.pwr.exiting = true ∨ s.pwr.step ≠ 1 ∨ s.pwr.unwind ≠ 0 ∨ s.running ≠ 0 ∨
      s.pwr.ckptDone = false ∨ s.pwr.drained = false) →
    exec (.pcieL2Entered) s = .next ({ s with pwr := { s.pwr with l2 := true, linkUp := false } })) ∧
  (∀ (s : State),
    (s.pwr.busy = false ∨ s.pwr.exiting = true ∨ s.pwr.step ≠ 1 ∨ s.pwr.target ≠ 3 ∨ s.pwr.l2 = true ∨
      s.pwr.wake ≠ none) →
    exec (.darkL2Timeout) s = .next (s)) ∧
  (∀ (s : State), s.pwr.busy = true → s.pwr.exiting = false → s.pwr.step = 1 → s.pwr.target = 3 → s.pwr.l2 = false →
    s.pwr.wake = none → s.pwr.ckptDone = true → s.pwr.drained = true → s.running = 0 → s.pwr.unwind = 0 →
    (List.range 96).all (fun e => (s.eng e).slab.work == .none) = true → s.pwr.wakeCmd = none →
    s.count C.PWR_ABORTS < 0xFFFFFFFE →
    Completes (.darkL2Timeout) s fun t =>
      t.pwr.state = s.pwr.from_ ∧ t.pwr.busy = false ∧ t.pwr.step = 0 ∧ t.mem.selfRefresh = false ∧
      t.count C.PWR_ABORTS = s.count C.PWR_ABORTS + 1 ∧
      RegsKeptIn [R.BOND_SAT, fun _ => R.BUF_SAT, R.ETH_SAT, R.PON_STAT_SAT, fun _ => R.PWR_SAT, fun _ => R.SCH_SAT,
        R.SVL_SAT, fun _ => R.TIME_SAT] s t ∧
      OnlyChanges [.pending, .out, .freeCtr, .regs, .cnt, .arb, .fns, .pon, .bonding, .buf, .sched, .time, .clsIn,
        .running, .vec, .svl, .mac, .lanes, .pwr, .mem, .jrn] s t) ∧
  (∀ (s : State), s.pwr.busy = true → s.pwr.exiting = false → s.pwr.step = 4 → s.pwr.target = 2 →
    exec (.regulatorAck true) s = .next (s)) ∧
  (∀ (s : State), s.pwr.busy = true → s.pwr.exiting = false → s.pwr.step = 4 → s.pwr.target = 2 → s.pwr.unwind ≠ 4 →
    s.pwr.wake ≠ none →
    Completes (.regulatorAck false) s fun t =>
      t.pwr = { s.pwr with unwind := 4, failed := false, acked := false } ∧
      t.out = .regulator 1 (s.railMv false 1) :: s.out ∧ OnlyChanges [.out, .pwr] s t) ∧
  (∀ (s : State), s.pwr.busy = true → s.pwr.exiting = false → s.pwr.step = 4 → s.pwr.target = 2 → s.pwr.unwind = 4 →
    s.pwr.modes = [] → s.slabsWaking = false → s.pwr.wakeCmd = none →
    Completes (.regulatorAck false) s fun t =>
      t.pwr.state = s.pwr.from_ ∧ t.pwr.busy = false ∧ t.pwr.unwind = 0 ∧
      RegsKeptIn [R.BOND_SAT, fun _ => R.BUF_SAT, R.ETH_SAT, R.PON_STAT_SAT, fun _ => R.PWR_SAT, fun _ => R.SCH_SAT,
        R.SVL_SAT, fun _ => R.TIME_SAT] s t ∧
      OnlyChanges [.pending, .out, .freeCtr, .cmdId, .regs, .cnt, .bank, .arb, .fns, .tick, .pon, .alloc, .bonding,
        .buf, .chan, .sched, .time, .clsIn, .cls, .fwd, .running, .vec, .svl, .testLanes, .mac, .lanes, .pwr, .mem,
        .ciph, .boot, .jrn, .tap] s t) ∧
  (∀ (s : State) (pg : Bool), s.pwr.busy = true → s.pwr.exiting = false → s.pwr.step = 4 → s.pwr.target = 3 →
    (s.pwr.acked = false ∨ pg = false) →
    exec (.regulatorAck pg) s = .next ({ s with pwr := { s.pwr with acked := s.pwr.acked || !pg } })) ∧
  (∀ (s : State), s.pwr.busy = true → s.pwr.exiting = false → s.pwr.step = 4 → s.pwr.target = 3 →
    s.pwr.acked = true → s.pwr.unwind ≠ 4 → s.pwr.wake = none → s.pwr.part ≠ 2 →
    Completes (.regulatorAck true) s fun t =>
      t.pwr = { s.pwr with part := s.pwr.part - 1, acked := false, tries := 0 } ∧
      (∀ r ∈ s.railsOf (s.pwr.part - 1), .regulator r 0 ∈ t.out) ∧ OnlyChanges [.out, .pwr] s t) ∧
  (∀ (s : State), s.pwr.busy = true → s.pwr.exiting = false → s.pwr.step = 4 → s.pwr.target = 3 →
    s.pwr.acked = true → s.pwr.unwind ≠ 4 → s.pwr.wake = none → s.pwr.part = 2 →
    Completes (.regulatorAck true) s fun t =>
      t.pwr.state = 3 ∧ t.pwr.busy = false ∧ t.pwr.linkUp = false ∧ t.pwr.wakeStep = 0 ∧ t.boot.mode = 0 ∧
      t.jrn = s.jrn ∧ (∀ o, t.rd o = if inPowerWindow o then s.rd o else State.reset.rd o) ∧ t.pending = s.pending ∧
      OnlyChanges [.pending, .out, .freeCtr, .cmdId, .regs, .cnt, .bank, .arb, .fns, .tick, .pon, .alloc, .bonding,
        .buf, .chan, .sched, .time, .clsIn, .cls, .fwd, .running, .vec, .svl, .testLanes, .mac, .lanes, .pwr, .mem,
        .ciph, .boot, .jrn, .tap] s t) ∧
  (∀ (s : State), s.pwr.busy = true → s.pwr.exiting = false → s.pwr.step = 4 → s.pwr.target = 3 →
    s.pwr.acked = true → s.pwr.unwind ≠ 4 → s.pwr.wake ≠ none →
    Completes (.regulatorAck true) s fun t =>
      t.pwr = { s.pwr with unwind := 4, failed := false, acked := false } ∧
      (∀ r ∈ s.railsOf s.pwr.part, .regulator r (s.railMv s.jrn.core.avsLow r) ∈ t.out) ∧
      OnlyChanges [.out, .pwr] s t) ∧
  (∀ (s : State), s.pwr.busy = true → s.pwr.exiting = false → s.pwr.step = 4 → s.pwr.target = 3 →
    s.pwr.acked = true → s.pwr.unwind = 4 → s.pwr.part < s.topGroup →
    Completes (.regulatorAck true) s fun t =>
      t.pwr = { s.pwr with part := s.pwr.part + 1, acked := false, tries := 0 } ∧
      (∀ r ∈ s.railsOf (s.pwr.part + 1), .regulator r (s.railMv s.jrn.core.avsLow r) ∈ t.out) ∧
      OnlyChanges [.out, .pwr] s t) ∧
  (∀ (s : State), s.pwr.busy = true → s.pwr.exiting = false → s.pwr.step = 4 → s.pwr.target = 3 →
    s.pwr.acked = true → s.pwr.unwind = 4 → s.topGroup ≤ s.pwr.part → s.pwr.wakeCmd = none →
    Completes (.regulatorAck true) s fun t =>
      t.pwr.state = s.pwr.from_ ∧ t.pwr.busy = false ∧ t.mem.selfRefresh = false ∧
      RegsKeptIn [R.BOND_SAT, fun _ => R.BUF_SAT, R.ETH_SAT, R.PON_STAT_SAT, fun _ => R.PWR_SAT, fun _ => R.SCH_SAT,
        R.SVL_SAT, fun _ => R.TIME_SAT] s t ∧
      OnlyChanges [.pending, .out, .freeCtr, .cmdId, .regs, .cnt, .bank, .arb, .fns, .tick, .pon, .alloc, .bonding,
        .buf, .chan, .sched, .time, .clsIn, .cls, .fwd, .running, .vec, .svl, .testLanes, .mac, .lanes, .pwr, .mem,
        .ciph, .boot, .jrn, .tap] s t) ∧
  (∀ (s : State) (pg : Bool), (s.pwr.busy = true ∧ s.pwr.step = 4 → s.pwr.exiting = true) → s.pwr.exiting = false →
    s.pwr.wakeStep = 1 → s.pwr.part ≤ 4 → (pg = false ∨ s.pwr.acked = false) →
    exec (.regulatorAck pg) s = .next ({ s with pwr := { s.pwr with acked := s.pwr.acked || !pg } })) ∧
  (∀ (s : State), (s.pwr.busy = true ∧ s.pwr.step = 4 → s.pwr.exiting = true) → s.pwr.exiting = false →
    s.pwr.wakeStep = 1 → s.pwr.part ≤ 4 → s.pwr.acked = true → s.pwr.part < s.topGroup →
    Completes (.regulatorAck true) s fun t =>
      t.pwr = { s.pwr with part := s.pwr.part + 1, acked := false } ∧
      (∀ r ∈ s.railsOf (s.pwr.part + 1), .regulator r (s.railMv s.jrn.core.avsLow r) ∈ t.out) ∧
      OnlyChanges [.out, .pwr] s t) ∧
  (∀ (s : State), (s.pwr.busy = true ∧ s.pwr.step = 4 → s.pwr.exiting = true) → s.pwr.exiting = false →
    s.pwr.wakeStep = 1 → s.pwr.part ≤ 4 → s.pwr.acked = true → s.topGroup ≤ s.pwr.part →
    exec (.regulatorAck true) s = .next ({ s with pwr := { s.pwr with part := 5, acked := false } })) ∧
  (∀ (s : State), (s.pwr.busy = false ∨ s.pwr.step ≠ 4) → s.pwr.exiting = false → s.pwr.wakeStep ≠ 1 →
    s.pwr.asked = true →
    exec (.regulatorAck false) s = .next ({ s with pwr := { s.pwr with asked := false, veAck := true } })) ∧
  (∀ (s : State) (pg : Bool), (s.pwr.busy = false ∨ s.pwr.step ≠ 4) → s.pwr.exiting = false → s.pwr.wakeStep ≠ 1 →
    (s.pwr.asked = false ∨ pg = true) →
    exec (.regulatorAck pg) s = .next (s)) ∧
  (∀ (s : State), (s.pwr.busy = false ∨ s.pwr.step ≠ 4 ∨ s.pwr.exiting = true) →
    (s.pwr.exiting = false ∨ s.pwr.part ≠ 1 ∧ s.pwr.part ≠ 2) →
    exec (.regulatorAckTimeout) s = .next (s)) ∧
  (∀ (s : State), s.pwr.busy = true → s.pwr.exiting = false → s.pwr.step = 4 → s.pwr.unwind = 4 → s.pwr.target = 2 →
    Completes (.regulatorAckTimeout) s fun t =>
      t.pwr = { s.pwr with tries := s.pwr.tries + 1 } ∧ t.out = .regulator 1 (s.railMv false 1) :: s.out ∧
      OnlyChanges [.out, .pwr] s t) ∧
  (∀ (s : State), s.pwr.busy = true → s.pwr.exiting = false → s.pwr.step = 4 → s.pwr.unwind ≠ 4 → s.pwr.target = 3 →
    s.pwr.tries < 2 →
    Completes (.regulatorAckTimeout) s fun t =>
      t.pwr = { s.pwr with tries := s.pwr.tries + 1 } ∧ (∀ r ∈ s.railsOf s.pwr.part, .regulator r 0 ∈ t.out) ∧
      OnlyChanges [.out, .pwr] s t) ∧
  (∀ (s : State), s.pwr.busy = true → s.pwr.exiting = false → s.pwr.step = 4 → s.pwr.unwind ≠ 4 → 2 ≤ s.pwr.tries →
    s.count C.PWR_ENTRY_FAIL < 0xFFFFFFFE →
    Completes (.regulatorAckTimeout) s fun t =>
      t.pwr = { s.pwr with tries := s.pwr.tries + 1, unwind := 4, failed := true, acked := false } ∧
      t.count C.PWR_ENTRY_FAIL = s.count C.PWR_ENTRY_FAIL + 1 ∧
      RegsKeptIn [R.BOND_SAT, fun _ => R.BUF_SAT, R.ETH_SAT, R.PON_STAT_SAT, fun _ => R.PWR_SAT, fun _ => R.SCH_SAT,
        R.SVL_SAT, fun _ => R.TIME_SAT] s t ∧
      OnlyChanges [.pending, .out, .freeCtr, .regs, .cnt, .arb, .fns, .pon, .bonding, .buf, .sched, .time, .clsIn,
        .running, .vec, .svl, .mac, .lanes, .pwr, .mem, .jrn] s t) ∧
  (∀ (s : State), s.pwr.exiting = true → (s.pwr.part = 1 ∨ s.pwr.part = 2) → s.pwr.tries < 2 →
    Completes (.regulatorAckTimeout) s fun t =>
      t.pwr = { s.pwr with tries := s.pwr.tries + 1, part := 1 } ∧ (∃ mv, t.out = .regulator 1 mv :: s.out) ∧
      OnlyChanges [.out, .pwr] s t) ∧
  (∀ (s : State) (pg : Bool), s.pwr.exiting = true → (s.pwr.part = 1 ∧ pg = true ∨ s.pwr.part = 2 ∧ pg = false) →
    s.pwr.wakeStep ≠ 1 → (s.pwr.asked = false ∨ pg = true) →
    exec (.regulatorAck pg) s = .next (s)) ∧
  (∀ (s : State), (s.pwr.exiting = false ∨ s.pwr.part ≠ 3) →
    exec (.vePllLock) s = .next (s)) ∧
  (∀ (s : State), (s.pwr.exiting = false ∨ s.pwr.part ≠ 4) →
    exec (.memoryZeroFillDone none) s = .next (s)) ∧
  (∀ (s : State) (e : Fin 96), ((s.eng e.val).st ≠ .off ∨ s.vec.veOff = true ∨ (s.eng e.val).spadFilled = true) →
    exec (.memoryZeroFillDone (some e)) s = .next (s)) ∧
  (∀ (s : State) (e : Fin 96), (s.eng e.val).st = .off → s.vec.veOff = false → (s.eng e.val).spadFilled = false →
    Completes (.memoryZeroFillDone (some e)) s fun t =>
      (t.eng e.val).spadFilled = true ∧ (t.eng e.val).spad = [] ∧ (t.eng e.val).imem = (s.eng e.val).imem ∧
      OtherEngines e.val s t ∧
      RegsKeptIn [fun _ => R.CIPH_RQ_CFG, fun _ => R.CIPH_SAT, R.ETH_SAT, fun _ => R.MEM_DDR_SAT,
        fun _ => R.MEM_SAT, R.MEM_UE_LOG_B, R.SVL_SAT] s t ∧
      OnlyChanges [.out, .freeCtr, .regs, .cnt, .arb, .fns, .buf, .vec, .svl, .mac, .lanes, .pwr, .mem, .ciph] s t) ∧
  (∀ (s : State) (e : Fin 96), (s.eng e.val).st = .off → s.vec.veOff = false → (s.eng e.val).spadFilled = false →
    (s.eng e.val).imemLoaded = true → ((s.eng e.val).retd = true ∨ (s.eng e.val).spareOf = none) →
    Completes (.memoryZeroFillDone (some e)) s fun t =>
      (t.eng e.val).st = (if (s.eng e.val).retd = true then .retired else .stopped) ∧
      RegsKeptIn [fun _ => R.CIPH_RQ_CFG, fun _ => R.CIPH_SAT, R.ETH_SAT, fun _ => R.MEM_DDR_SAT,
        fun _ => R.MEM_SAT, R.MEM_UE_LOG_B, R.SVL_SAT] s t ∧
      OnlyChanges [.out, .freeCtr, .regs, .cnt, .arb, .fns, .buf, .vec, .svl, .mac, .lanes, .pwr, .mem, .ciph] s t) ∧
  (∀ (s : State) (e : Fin 96), ((s.eng e.val).st ≠ .off ∨ s.vec.veOff = true ∨ (s.eng e.val).imemLoaded = true) →
    exec (.instructionMemoryReloaded e) s = .next (s)) ∧
  (∀ (s : State) (e : Fin 96), (s.eng e.val).st = .off → s.vec.veOff = false → (s.eng e.val).imemLoaded = false →
    Completes (.instructionMemoryReloaded e) s fun t =>
      (t.eng e.val).imem = (match (s.eng e.val).kernel.bind (fun h => sparseGet (fun _ => none) s.vec.kernels h) with | some i => imemOf i | none => []) ∧
      (t.eng e.val).imemLoaded = true ∧ (t.eng e.val).imemBad = [] ∧ OtherEngines e.val s t ∧
      RegsKeptIn [R.ETH_SAT, R.SVL_SAT] s t ∧
      OnlyChanges [.freeCtr, .regs, .cnt, .arb, .fns, .vec, .svl, .mac, .lanes, .pwr] s t) ∧
  (∀ (s : State) (e : Fin 96), (s.eng e.val).st = .off → s.vec.veOff = false → (s.eng e.val).imemLoaded = false →
    (s.eng e.val).spadFilled = true → (s.eng e.val).retd = true →
    Completes (.instructionMemoryReloaded e) s fun t =>
      (t.eng e.val).st = .retired ∧ OtherEngines e.val s t ∧ RegsKeptIn [R.ETH_SAT, R.SVL_SAT] s t ∧
      OnlyChanges [.freeCtr, .regs, .cnt, .arb, .fns, .vec, .svl, .mac, .lanes, .pwr] s t) ∧
  (∀ (s : State), (s.pwr.exiting = false ∨ s.pwr.part ≠ 6) →
    exec (.overcastExitPortWaitEnd) s = .next (s))

/-- The wake, squall and grade rows of chapter 19 (R539 to R544). -/
def Obligations.WakeSquallAndGradeFollowTheirInputs : Prop :=
  (∀ (s : State) (k : Fin 24), bit (s.fld F.PWR_WAKE_CFG_GPIO) k.val = true → s.pwr.state = 3 → s.pwr.wakeStep = 0 →
    Completes (.gpioWake k) s fun t =>
      t.pwr.wakeStep = 1 ∧ t.pwr.step = 8 ∧ t.pwr.busy = true ∧ t.pwr.target = 0 ∧ t.pwr.state = 3 ∧
      OnlyChanges [.out, .pwr] s t) ∧
  (∀ (s : State) (k : Fin 24),
    (bit (s.fld F.PWR_WAKE_CFG_GPIO) k.val = false ∨ s.pwr.busy = false ∧ s.pwr.state ≠ 3) →
    exec (.gpioWake k) s = .next (s)) ∧
  (∀ (s : State), s.flag F.PWR_WAKE_CFG_TIMER = true → s.pwr.state = 3 → s.pwr.wakeStep = 0 →
    Completes (.wakeTimerExpiry) s fun t =>
      t.pwr.wakeStep = 1 ∧ t.pwr.step = 8 ∧ t.pwr.busy = true ∧ OnlyChanges [.out, .pwr] s t) ∧
  (∀ (s : State), s.pwr.state = 3 → 2 ≤ s.pwr.wakeStep → s.pwr.wakeStep < 4 →
    Completes (.wakeStepReady) s fun t =>
      t.pwr.wakeStep = s.pwr.wakeStep + 1 ∧ t.pwr.step = 8 + s.pwr.wakeStep ∧ t.pwr.tries = 0 ∧
      OnlyChanges [.pwr] s t) ∧
  (∀ (s : State), s.pwr.state = 3 → s.pwr.wakeStep = 4 →
    Completes (.wakeStepReady) s fun t =>
      t.pwr.wakeStep = 5 ∧ t.pwr.step = 0 ∧ t.boot.mode = 0 ∧ t.boot.step = 0 ∧ t.jrn = s.jrn ∧
      (∀ o, t.rd o = if inPowerWindow o then s.rd o else State.reset.rd o) ∧
      OnlyChanges [.pending, .out, .freeCtr, .cmdId, .regs, .cnt, .bank, .arb, .fns, .tick, .pon, .alloc, .bonding,
        .buf, .chan, .sched, .time, .clsIn, .cls, .fwd, .running, .vec, .svl, .testLanes, .mac, .lanes, .pwr, .mem,
        .ciph, .boot, .jrn, .tap] s t) ∧
  (∀ (s : State), s.pwr.state = 3 → 2 ≤ s.pwr.wakeStep → s.pwr.wakeStep ≤ 4 → s.pwr.tries < 2 →
    s.count C.PWR_WAKE_RETRY < 0xFFFFFFFE →
    Completes (.wakeStepTimeout) s fun t =>
      t.pwr.wakeStep = s.pwr.wakeStep ∧ t.pwr.tries = s.pwr.tries + 1 ∧
      t.count C.PWR_WAKE_RETRY = s.count C.PWR_WAKE_RETRY + 1 ∧ OnlyChanges [.cnt, .pwr] s t) ∧
  (∀ (s : State), s.pwr.state = 3 → 1 ≤ s.pwr.wakeStep → s.pwr.wakeStep ≤ 4 → 2 ≤ s.pwr.tries →
    s.count C.PWR_WAKE_FAIL < 0xFFFFFFFE →
    Completes (.wakeStepTimeout) s fun t =>
      t.pwr.wakeStep = 0 ∧ t.pwr.busy = false ∧ t.pwr.failedStep = s.pwr.wakeStep ∧ t.boot.faultN = true ∧
      t.count C.PWR_WAKE_FAIL = s.count C.PWR_WAKE_FAIL + 1 ∧
      RegsKeptIn [fun _ => R.PWR_SAT, fun _ => R.TIME_SAT] s t ∧
      OnlyChanges [.pending, .out, .regs, .cnt, .arb, .time, .pwr, .boot, .jrn] s t) ∧
  (∀ (s : State),
    Completes (.pcieLinkUp) s fun t =>
      t.pwr = { s.pwr with linkUp := true, l2 := false, wakeOut := false } ∧ OnlyChanges [.out, .pwr] s t) ∧
  (∀ (s : State), s.pwr.feedLow = false → s.pwr.causes = 0 → s.boot.mode ≠ 0 → (s.source 0x00C0).queue.length < 16 →
    s.count C.PWR_SQUALLS < 0xFFFFFFFE →
    Completes (.feedAlertLow) s fun t =>
      t.pwr = { s.pwr with feedLow := true, causes := 4, episode := 4, began := true, computed := 7, hot := true } ∧
      t.vec = { s.vec with squallDue := true } ∧ t.count C.PWR_SQUALLS = s.count C.PWR_SQUALLS + 1 ∧
      (t.source 0x00C0).queue = (s.source 0x00C0).queue ++ [⟨1, 0x1302, 0, evPayload [(1, 0), (4, s.tick32)],
        s.arb.raised⟩] ∧
      OnlyChanges [.arb, .cnt, .pwr, .vec] s t) ∧
  (∀ (s : State), s.flag F.PWR_WAKE_CFG_FEED = false →
    (s.coolAndFed = true ∨ s.pwr.feedLow = true ∧ (s.setPwr { s.pwr with feedLow := false }).coolAndFed = true) →
    Completes (.feedAlertRise) s fun t =>
      t.pwr = { s.pwr with feedLow := false, causes := s.pwr.causes &&& 1 } ∧ OnlyChanges [.pwr] s t) ∧
  (∀ (s : State) (i : Fin 8) (v : BitVec 16), signedOf 16 v.toNat < 4 * (s.tempTrip : Int) → s.pwr.causes = 0 →
    s.pwr.critTold = false →
    Completes (.sensorReading i v) s fun t =>
      sparseGet (fun _ => 0) t.pwr.temps i.val = signedOf 16 v.toNat ∧
      (∀ k, k ≠ i.val → sparseGet (fun _ => 0) t.pwr.temps k = sparseGet (fun _ => 0) s.pwr.temps k) ∧
      t.pwr.windowTop = some (match s.pwr.windowTop with | some x => max x (signedOf 16 v.toNat) | none => signedOf 16 v.toNat) ∧
      t.pwr = { s.pwr with temps := t.pwr.temps, windowTop := t.pwr.windowTop } ∧ OnlyChanges [.pwr] s t) ∧
  (∀ (s : State) (i : Fin 8) (v : BitVec 16), 4 * (s.tempTrip : Int) ≤ signedOf 16 v.toNat →
    signedOf 16 v.toNat < 4 * (s.tempCrit : Int) → s.pwr.causes = 0 → s.count C.PWR_SQUALLS < 0xFFFFFFFE →
    Completes (.sensorReading i v) s fun t =>
      sparseGet (fun _ => 0) t.pwr.temps i.val = signedOf 16 v.toNat ∧ t.pwr.causes = 2 ∧ t.pwr.computed = 7 ∧
      t.vec.squallDue = true ∧ t.count C.PWR_SQUALLS = s.count C.PWR_SQUALLS + 1 ∧
      RegsKeptIn [R.BOND_SAT, fun _ => R.BUF_SAT, R.ETH_SAT, R.PON_STAT_SAT, fun _ => R.PWR_SAT, fun _ => R.SCH_SAT,
        R.SVL_SAT] s t ∧
      OnlyChanges [.pending, .freeCtr, .regs, .cnt, .arb, .fns, .pon, .bonding, .buf, .sched, .clsIn, .vec, .svl,
        .mac, .lanes, .pwr, .jrn] s t) ∧
  (∀ (s : State) (i : Fin 8) (v : BitVec 16), 4 * (s.tempCrit : Int) ≤ signedOf 16 v.toNat → s.pwr.busy = false →
    s.pwr.state ≤ 1 →
    Completes (.sensorReading i v) s fun t =>
      t.pwr.busy = true ∧ t.pwr.target = 2 ∧ t.pwr.step = 1 ∧ t.pwr.critTold = true ∧
      RegsKeptIn [R.BOND_SAT, fun _ => R.BUF_SAT, R.ETH_SAT, R.PON_STAT_SAT, fun _ => R.PWR_SAT, fun _ => R.SCH_SAT,
        R.SVL_SAT] s t ∧
      OnlyChanges [.pending, .freeCtr, .regs, .cnt, .arb, .fns, .pon, .bonding, .buf, .sched, .clsIn, .vec, .svl,
        .mac, .lanes, .pwr, .jrn] s t) ∧
  (∀ (s : State) (feed : Option (BitVec 16)) (pouts : List (Option (BitVec 16))), s.pwr.evalDue = false →
    exec (.gradeEvaluation feed pouts) s = .next (s)) ∧
  (∀ (s : State) (v : BitVec 16) (pouts : List (Option (BitVec 16))), s.pwr.evalDue = true → s.pwr.causes = 0 →
    s.pwr.began = false → s.pwr.grade ≤ 5 → s.fld F.PWR_FEED_CFG_SRC = 0 →
    Completes (.gradeEvaluation (some v) pouts) s fun t =>
      t.pwr.evalDue = false ∧ t.pwr.feedUsed = linear11 v.toNat ∧
      t.pwr.budget = (t.pwr.feedUsed : Int) - (s.fld F.PWR_BUDGET_CFG_RESERVE_W : Int) ∧
      t.pwr.topUsed = s.pwr.windowTop.getD s.pwr.topUsed ∧
      (t.pwr.computed = (if (t.pwr.budget < (t.pwr.measured : Int) ∨
        4 * (s.tempTarget : Int) + 12 ≤ t.pwr.topUsed)
        then min (s.pwr.grade + 2) 6 else if (t.pwr.budget - (s.upMargin : Int) < (t.pwr.measured : Int) ∨
        4 * (s.tempTarget : Int) ≤ t.pwr.topUsed)
        then min (s.pwr.grade + 1) 6 else if (t.pwr.measured : Int) ≤ t.pwr.budget - (s.downMargin : Int) ∧
        t.pwr.topUsed ≤ 4 * ((s.tempTarget : Int) - (s.hyst : Int)) ∧
        s.downHold ≤ min (s.pwr.clear + 1) 63 then s.pwr.grade - 1 else s.pwr.grade)) ∧
      RegsKeptIn [fun _ => R.PWR_SAT] s t ∧ OnlyChanges [.pending, .out, .regs, .cnt, .arb, .vec, .pwr, .jrn] s t) ∧
  (∀ (s : State) (pouts : List (Option (BitVec 16))), s.pwr.evalDue = true → s.fld F.PWR_FEED_CFG_SRC = 0 →
    s.count C.PWR_FEED_FAIL < 0xFFFFFFFE → s.pwr.feedMiss < 7 →
    Completes (.gradeEvaluation none pouts) s fun t =>
      t.pwr.feedUsed = s.pwr.feedLast ∧ t.pwr.feedMiss = s.pwr.feedMiss + 1 ∧
      t.count C.PWR_FEED_FAIL = s.count C.PWR_FEED_FAIL + 1 ∧ RegsKeptIn [fun _ => R.PWR_SAT] s t ∧
      OnlyChanges [.pending, .out, .regs, .cnt, .arb, .vec, .pwr, .jrn] s t) ∧
  (∀ (s : State) (k : Fin 24), bit (s.fld F.PWR_WAKE_CFG_GPIO) k.val = true → s.pwr.state ≠ 3 → s.pwr.busy = true →
    s.pwr.exiting = false → s.pwr.target = 3 → s.pwr.step = 4 → s.pwr.unwind = 0 → s.pwr.wake = none →
    exec (.gpioWake k) s = .next ({ s with pwr := { s.pwr with wake := some 1 } })) ∧
  (∀ (s : State) (k : Fin 24), s.pwr.state = 3 → s.pwr.wakeStep ≠ 0 →
    exec (.gpioWake k) s = .next (s)) ∧
  (∀ (s : State), s.flag F.PWR_WAKE_CFG_TIMER = true → s.pwr.state ≠ 3 → s.pwr.busy = true → s.pwr.exiting = false →
    s.pwr.target = 3 → s.pwr.step = 4 → s.pwr.unwind = 0 → s.pwr.wake = none →
    exec (.wakeTimerExpiry) s = .next ({ s with pwr := { s.pwr with wake := some 3 } })) ∧
  (∀ (s : State), (s.flag F.PWR_WAKE_CFG_TIMER = false ∨ s.pwr.state ≠ 3 ∧ s.pwr.busy = false) →
    exec (.wakeTimerExpiry) s = .next (s)) ∧
  (∀ (s : State), s.flag F.PWR_WAKE_CFG_FEED = true → s.pwr.state = 3 → s.pwr.wakeStep = 0 →
    Completes (.feedAlertRise) s fun t =>
      t.pwr.wakeStep = 1 ∧ t.pwr.step = 8 ∧ t.pwr.busy = true ∧ t.pwr.feedLow = false ∧
        OnlyChanges [.out, .pwr] s t) ∧
  (∀ (s : State), s.flag F.PWR_WAKE_CFG_FEED = false →
    (s.setPwr { s.pwr with feedLow := false }).coolAndFed = false →
    exec (.feedAlertRise) s = .next ({ s with pwr := { s.pwr with feedLow := false } })) ∧
  (∀ (s : State),
    (s.pwr.state ≠ 3 ∨ s.pwr.wakeStep = 0 ∨ 4 < s.pwr.wakeStep ∨ (s.pwr.wakeStep = 1 ∧ s.pwr.part < 5)) →
    exec (.wakeStepReady) s = .next (s)) ∧
  (∀ (s : State), s.pwr.state = 3 → s.pwr.wakeStep = 1 → 5 ≤ s.pwr.part →
    Completes (.wakeStepReady) s fun t =>
      t.pwr = { s.pwr with tries := 0, wakeStep := 2, step := 9, acked := false, part := 2 } ∧
      OnlyChanges [.pwr] s t) ∧
  (∀ (s : State), (s.pwr.state ≠ 3 ∨ s.pwr.wakeStep = 0 ∨ 4 < s.pwr.wakeStep) →
    exec (.wakeStepTimeout) s = .next (s)) ∧
  (∀ (s : State), s.pwr.state = 3 → s.pwr.wakeStep = 1 → s.pwr.tries < 2 → s.count C.PWR_WAKE_RETRY < 0xFFFFFFFE →
    Completes (.wakeStepTimeout) s fun t =>
      t.pwr = { s.pwr with tries := s.pwr.tries + 1, wakeStep := 1, step := 8, acked := false, part := 2 } ∧
      t.count C.PWR_WAKE_RETRY = s.count C.PWR_WAKE_RETRY + 1 ∧
      (∀ r ∈ s.railsOf 2, .regulator r (s.railMv s.jrn.core.avsLow r) ∈ t.out) ∧ OnlyChanges [.cnt, .out, .pwr] s t) ∧
  (∀ (s : State), s.pwr.wakeOut = true →
    Completes (.pcieLinkUp) s fun t =>
      t.pwr = { s.pwr with linkUp := true, l2 := false, wakeOut := false } ∧ t.out = .pin "GPIO" 0 true :: s.out ∧
      OnlyChanges [.out, .pwr] s t) ∧
  (∀ (s : State), s.pwr.feedLow = true →
    exec (.feedAlertLow) s = .next (s)) ∧
  (∀ (s : State), s.pwr.feedLow = false → s.pwr.causes ≠ 0 →
    Completes (.feedAlertLow) s fun t =>
      t.pwr = { s.pwr with feedLow := true, causes := s.pwr.causes ||| 4, episode := s.pwr.episode ||| 4, began := true, computed := 7, hot := true } ∧
      t.vec = { s.vec with squallDue := true } ∧ OnlyChanges [.pwr, .vec] s t) ∧
  (∀ (s : State), s.pwr.feedLow = false → s.pwr.causes = 0 → s.boot.mode = 0 → s.count C.PWR_SQUALLS < 0xFFFFFFFE →
    Completes (.feedAlertLow) s fun t =>
      t.pwr.causes = 4 ∧ t.pwr.computed = 7 ∧
      t.jrn = { s.jrn with events := s.jrn.events ++ [(1, 0x1302, evPayload [(1, 0), (4, s.tick32)])] } ∧
      t.count C.PWR_SQUALLS = s.count C.PWR_SQUALLS + 1 ∧ OnlyChanges [.cnt, .jrn, .pwr, .vec] s t) ∧
  (∀ (s : State) (i : Fin 8) (v : BitVec 16), 4 * (s.tempTrip : Int) ≤ signedOf 16 v.toNat →
    signedOf 16 v.toNat < 4 * (s.tempCrit : Int) → s.pwr.causes ≠ 0 → s.pwr.causes &&& 2 = 0 →
    Completes (.sensorReading i v) s fun t =>
      sparseGet (fun _ => 0) t.pwr.temps i.val = signedOf 16 v.toNat ∧ t.pwr.causes &&& 2 = 2 ∧ t.pwr.computed = 7 ∧
      t.vec.squallDue = true ∧ OnlyChanges [.pwr, .vec] s t) ∧
  (∀ (s : State) (i : Fin 8) (v : BitVec 16), signedOf 16 v.toNat < 4 * (s.tempTrip : Int) →
    Completes (.sensorReading i v) s fun t =>
      sparseGet (fun _ => 0) t.pwr.temps i.val = signedOf 16 v.toNat ∧
      (t.pwr.causes = s.pwr.causes ∨ t.pwr.causes = s.pwr.causes &&& 1) ∧
      t.pwr.windowTop = some (match s.pwr.windowTop with | some x => max x (signedOf 16 v.toNat) | none => signedOf 16 v.toNat) ∧
      t.pwr.computed = s.pwr.computed ∧ t.pwr.busy = s.pwr.busy ∧ OnlyChanges [.pwr] s t) ∧
  (∀ (s : State) (i : Fin 8) (v : BitVec 16), 4 * (s.tempCrit : Int) ≤ signedOf 16 v.toNat →
    (s.pwr.busy = true ∨ 2 ≤ s.pwr.state) →
    Completes (.sensorReading i v) s fun t =>
      sparseGet (fun _ => 0) t.pwr.temps i.val = signedOf 16 v.toNat ∧ t.pwr.critTold = true ∧
      t.pwr.busy = s.pwr.busy ∧ t.pwr.state = s.pwr.state ∧ t.pwr.target = s.pwr.target ∧
      RegsKeptIn [R.BOND_SAT, fun _ => R.BUF_SAT, R.ETH_SAT, R.PON_STAT_SAT, fun _ => R.PWR_SAT, fun _ => R.SCH_SAT,
        R.SVL_SAT] s t ∧
      OnlyChanges [.arb, .cnt, .jrn, .pwr, .regs, .vec] s t) ∧
  (∀ (s : State) (feed : Option (BitVec 16)) (pouts : List (Option (BitVec 16))), s.pwr.evalDue = true →
    (s.pwr.causes &&& 6 ≠ 0 ∨ s.pwr.began = true) →
    Completes (.gradeEvaluation feed pouts) s fun t =>
      t.pwr.computed = 7 ∧ t.pwr.evalDue = false ∧ t.pwr.windowTop = none ∧ RegsKeptIn [fun _ => R.PWR_SAT] s t ∧
      OnlyChanges [.pending, .out, .regs, .cnt, .arb, .vec, .pwr, .jrn] s t) ∧
  (∀ (s : State) (feed : Option (BitVec 16)) (pouts : List (Option (BitVec 16))), s.pwr.evalDue = true →
    s.pwr.causes = 0 → s.pwr.began = false → s.pwr.hot = false → s.pwr.grade = 7 → s.fld F.PWR_FEED_CFG_SRC = 1 →
    Completes (.gradeEvaluation feed pouts) s fun t =>
      t.pwr.feedUsed = s.fld F.PWR_FEED_HOST_FEED ∧
      (t.pwr.computed = (if ((t.pwr.measured : Int) ≤ t.pwr.budget - (s.downMargin : Int) ∨
        s.pwr.episode &&& 1 = 0) ∧ s.squallHold ≤ min (s.pwr.clear + 1) 63 then 6 else 7)) ∧
      t.pwr.evalDue = false ∧ RegsKeptIn [fun _ => R.PWR_SAT] s t ∧
      OnlyChanges [.pending, .out, .regs, .cnt, .arb, .vec, .pwr, .jrn] s t) ∧
  (∀ (s : State) (feed : Option (BitVec 16)) (pouts : List (Option (BitVec 16))), s.pwr.evalDue = true →
    s.pwr.causes = 0 → s.pwr.began = false → s.pwr.grade = 6 → s.fld F.PWR_FEED_CFG_SRC = 1 →
    Completes (.gradeEvaluation feed pouts) s fun t =>
      (t.pwr.computed = (if t.pwr.budget < (t.pwr.measured : Int) ∧
        s.pwr.overBudget = true then 7 else if (t.pwr.budget < (t.pwr.measured : Int) ∨
        4 * (s.tempTarget : Int) + 12 ≤ t.pwr.topUsed) ∨
        (t.pwr.budget - (s.upMargin : Int) < (t.pwr.measured : Int) ∨
        4 * (s.tempTarget : Int) ≤ t.pwr.topUsed)
        then 6 else if (t.pwr.measured : Int) ≤ t.pwr.budget - (s.downMargin : Int) ∧
        t.pwr.topUsed ≤ 4 * ((s.tempTarget : Int) - (s.hyst : Int)) ∧
        s.downHold ≤ min (s.pwr.clear + 1) 63 then 5 else 6)) ∧
      t.pwr.overBudget = decide (t.pwr.budget < (t.pwr.measured : Int)) ∧
      (t.pwr.computed = 7 → t.pwr.causes = 1 ∧ t.vec.squallDue = true) ∧ RegsKeptIn [fun _ => R.PWR_SAT] s t ∧
      OnlyChanges [.pending, .out, .regs, .cnt, .arb, .vec, .pwr, .jrn] s t) ∧
  (∀ (s : State) (v : BitVec 16) (pouts : List (Option (BitVec 16))), s.pwr.evalDue = true →
    s.fld F.PWR_FEED_CFG_SRC ≠ 0 → s.fld F.PWR_FEED_CFG_SRC ≠ 1 →
    Completes (.gradeEvaluation (some v) pouts) s fun t =>
      t.pwr.feedUsed = min (linear11 v.toNat) (s.fld F.PWR_FEED_HOST_FEED) ∧ t.pwr.feedLast = linear11 v.toNat ∧
      t.pwr.feedMiss = 0 ∧ RegsKeptIn [fun _ => R.PWR_SAT] s t ∧
      OnlyChanges [.pending, .out, .regs, .cnt, .arb, .vec, .pwr, .jrn] s t) ∧
  (∀ (s : State) (pouts : List (Option (BitVec 16))), s.pwr.evalDue = true → s.fld F.PWR_FEED_CFG_SRC ≠ 1 →
    7 ≤ s.pwr.feedMiss → s.count C.PWR_FEED_FAIL < 0xFFFFFFFE →
    Completes (.gradeEvaluation none pouts) s fun t =>
      t.pwr.feedUsed = s.fld F.PWR_FEED_CFG_FALLBACK_W ∧ t.pwr.feedMiss = s.pwr.feedMiss + 1 ∧
      t.count C.PWR_FEED_FAIL = s.count C.PWR_FEED_FAIL + 1 ∧ RegsKeptIn [fun _ => R.PWR_SAT] s t ∧
      OnlyChanges [.pending, .out, .regs, .cnt, .arb, .vec, .pwr, .jrn] s t) ∧
  (∀ (s : State) (feed : Option (BitVec 16)) (pouts : List (Option (BitVec 16))), s.pwr.evalDue = true →
    Completes (.gradeEvaluation feed pouts) s fun t =>
      (∀ i < 12, ∀ v, i < s.pwr.louts → pouts[i]? = some (some v) →
        sparseGet (fun _ => 0) t.pwr.pouts i = linear11 v.toNat) ∧
      (∀ i < 12, s.pwr.louts ≤ i ∨ pouts[i]? = some none ∨ pouts.length ≤ i →
        sparseGet (fun _ => 0) t.pwr.pouts i = sparseGet (fun _ => 0) s.pwr.pouts i) ∧
      t.pwr.measured = ((List.range 12).map (fun i => sparseGet (fun _ => 0) t.pwr.pouts i)).sum ∧
      t.pwr.grade = s.pwr.grade ∧ RegsKeptIn [fun _ => R.PWR_SAT] s t ∧
      OnlyChanges [.pending, .out, .regs, .cnt, .arb, .vec, .pwr, .jrn] s t)

/-- EVENT_GRANT, EVENT_RING_WRITE, EVENT_NOTICE_INTERVAL_END, REPLY_WRITE (R22 to R29, R554, R558, R565, R568,
R569). -/
def Obligations.EventsReachTheirFunctionsRing : Prop :=
  (∀ (s : State) (cycle src : Nat) (e : Ev) (es : List Ev), s.arb.choose = some src →
    (s.source src).queue = e :: es → (s.source src).discarded = 0 →
    s.arb.lastCycle.all (fun c => decide (c + 4 ≤ cycle)) = true → (s.fn e.func).store.length < 1024 →
    Completes (.eventGrant cycle) s fun t =>
      t.arb.seq = s.arb.seq + 1 ∧ t.arb.last = src ∧ t.arb.lastCycle = some cycle ∧ es <+: (t.source src).queue ∧
      (t.fn e.func).store = (s.fn e.func).store ++ [⟨s.arb.seq, s.tick.count.setWidth 32, src, e.code, e.sev,
        e.func, e.payload⟩] ∧
      OnlyChanges [.arb, .fns, .freeCtr] s t) ∧
  (∀ (s : State) (cycle src : Nat), s.arb.choose = some src → 0 < (s.source src).discarded →
    s.arb.lastCycle.all (fun c => decide (c + 4 ≤ cycle)) = true → (s.fn (sourceOwner src)).store.length < 1024 →
    Completes (.eventGrant cycle) s fun t =>
      t.arb.seq = s.arb.seq + 1 ∧ t.arb.last = src ∧ t.arb.lastCycle = some cycle ∧ (t.source src).discarded = 0 ∧
      (t.source src).queue = (s.source src).queue ∧
      (t.fn (sourceOwner src)).store = (s.fn (sourceOwner src)).store ++ [⟨s.arb.seq, s.tick.count.setWidth 32, src,
        0x0001, 1, sourceOwner src, evPayload [(4, (s.source src).discarded)]⟩] ∧
      OnlyChanges [.arb, .fns] s t) ∧
  (∀ (s : State) (cycle src : Nat) (e : Ev) (es : List Ev) (x : EvRec), s.arb.choose = some src →
    (s.source src).queue = e :: es → (s.source src).discarded = 0 →
    s.arb.lastCycle.all (fun c => decide (c + 4 ≤ cycle)) = true → 1024 ≤ (s.fn e.func).store.length →
    displaced e.sev (s.fn e.func).store = some x → (s.fn e.func).evtLost < 0xFFFFFFFE →
    Completes (.eventGrant cycle) s fun t =>
      t.arb.seq = s.arb.seq + 1 ∧ t.arb.last = src ∧ t.arb.lastCycle = some cycle ∧ es <+: (t.source src).queue ∧
      x ∈ (s.fn e.func).store ∧ e.sev < x.sev ∧ ∀ y ∈ (s.fn e.func).store, y.sev ≤ x.sev ∧
      (t.fn e.func).store = (s.fn e.func).store.filter (fun y => y != x) ++ [⟨s.arb.seq, s.tick.count.setWidth 32,
        src, e.code, e.sev, e.func, e.payload⟩] ∧
      (t.fn e.func).evtLost = (s.fn e.func).evtLost + 1 ∧ (t.fn e.func).lostCount = (s.fn e.func).lostCount + 1 ∧
      OnlyChanges [.arb, .fns, .freeCtr] s t) ∧
  (∀ (s : State) (cycle src : Nat) (e : Ev) (es : List Ev), s.arb.choose = some src →
    (s.source src).queue = e :: es → (s.source src).discarded = 0 →
    s.arb.lastCycle.all (fun c => decide (c + 4 ≤ cycle)) = true → 1024 ≤ (s.fn e.func).store.length →
    (∀ y ∈ (s.fn e.func).store, y.sev ≤ e.sev) → (s.fn e.func).evtLost < 0xFFFFFFFE →
    Completes (.eventGrant cycle) s fun t =>
      t.arb.seq = s.arb.seq + 1 ∧ t.arb.last = src ∧ t.arb.lastCycle = some cycle ∧ es <+: (t.source src).queue ∧
      (t.fn e.func).store = (s.fn e.func).store ∧ (t.fn e.func).evtLost = (s.fn e.func).evtLost + 1 ∧
      (t.fn e.func).lostCount = (s.fn e.func).lostCount + 1 ∧ OnlyChanges [.arb, .fns, .freeCtr] s t) ∧
  (∀ (s : State) (cycle src : Nat) (x : EvRec), s.arb.choose = some src → 0 < (s.source src).discarded →
    s.arb.lastCycle.all (fun c => decide (c + 4 ≤ cycle)) = true → 1024 ≤ (s.fn (sourceOwner src)).store.length →
    displaced 1 (s.fn (sourceOwner src)).store = some x → (s.fn (sourceOwner src)).evtLost < 0xFFFFFFFE →
    Completes (.eventGrant cycle) s fun t =>
      t.arb.seq = s.arb.seq + 1 ∧ t.arb.last = src ∧ t.arb.lastCycle = some cycle ∧ (t.source src).discarded = 0 ∧
      x ∈ (s.fn (sourceOwner src)).store ∧ 1 < x.sev ∧ ∀ y ∈ (s.fn (sourceOwner src)).store, y.sev ≤ x.sev ∧
      (t.fn (sourceOwner src)).store = (s.fn (sourceOwner src)).store.filter (fun y => y != x) ++ [⟨s.arb.seq,
        s.tick.count.setWidth 32, src, 0x0001, 1, sourceOwner src, evPayload [(4, (s.source src).discarded)]⟩] ∧
      (t.fn (sourceOwner src)).evtLost = (s.fn (sourceOwner src)).evtLost + 1 ∧ OnlyChanges [.arb, .fns] s t) ∧
  (∀ (s : State) (cycle src : Nat), s.arb.choose = some src → 0 < (s.source src).discarded →
    s.arb.lastCycle.all (fun c => decide (c + 4 ≤ cycle)) = true → 1024 ≤ (s.fn (sourceOwner src)).store.length →
    (∀ y ∈ (s.fn (sourceOwner src)).store, y.sev ≤ 1) → (s.fn (sourceOwner src)).evtLost < 0xFFFFFFFE →
    Completes (.eventGrant cycle) s fun t =>
      t.arb.seq = s.arb.seq + 1 ∧ t.arb.last = src ∧ t.arb.lastCycle = some cycle ∧ (t.source src).discarded = 0 ∧
      (t.fn (sourceOwner src)).store = (s.fn (sourceOwner src)).store ∧
      (t.fn (sourceOwner src)).evtLost = (s.fn (sourceOwner src)).evtLost + 1 ∧ OnlyChanges [.arb, .fns] s t) ∧
  (∀ (s : State) (cycle : Nat),
    (s.arb.lastCycle.any (fun c => decide (cycle < c + 4)) = true ∨ s.arb.choose = none) →
    exec (.eventGrant cycle) s = .next (s)) ∧
  (∀ (s : State) (f : Fin 6) (r : EvRec), nextRecord (s.fn f.val).store = some r →
    s.flag (F.HOST_RING_CFG_EVT_EN f.val) = true → s.evtRoom f.val = true → (s.fn f.val).resetting = false →
    Completes (.eventRingWrite f) s fun t =>
      .hostWrite f.val (s.addr64 (R.HOST_EVT_BASE_LO f.val) (R.HOST_EVT_BASE_HI f.val) +
        32 * ((s.fn f.val).evtWr.toNat % ringSize 6 (s.fld (F.HOST_RING_CFG_EVT_SIZE f.val)))) r.bytes ∈ t.out ∧
      (t.fn f.val).store = (s.fn f.val).store.filter (fun y => y != r) ∧
      (t.fn f.val).evtWr = (s.fn f.val).evtWr + 1 ∧
      .hostWrite f.val (s.addr64 (R.HOST_WB_LO f.val) (R.HOST_WB_HI f.val)) (leBytes 4 ((s.fn f.val).cmdHead).toNat ++
        leBytes 4 ((s.fn f.val).rplWr).toNat ++ leBytes 4 ((s.fn f.val).evtWr + 1).toNat ++ leBytes 4 0) ∈ t.out ∧
      r ∈ (s.fn f.val).store ∧ ∀ y ∈ (s.fn f.val).store, r.sev ≤ y.sev ∧ OnlyChanges [.arb, .fns, .out] s t) ∧
  (∀ (s : State) (f : Fin 6) (r : EvRec), nextRecord (s.fn f.val).store = some r →
    s.flag (F.HOST_RING_CFG_EVT_EN f.val) = true → s.evtRoom f.val = true → (s.fn f.val).resetting = false →
    s.flag (F.HOST_RING_CFG_EVT_NOTICE f.val) = true → (s.fn f.val).noticeOpen = false →
    Completes (.eventRingWrite f) s fun t =>
      .msix f.val (s.fld (F.HOST_RING_VEC_EVT_VECTOR f.val)) ∈ t.out ∧ (t.fn f.val).noticeOpen = true ∧
      (t.fn f.val).noticeDue = false ∧ OnlyChanges [.arb, .fns, .out] s t) ∧
  (∀ (s : State) (f : Fin 6) (r : EvRec), nextRecord (s.fn f.val).store = some r →
    s.flag (F.HOST_RING_CFG_EVT_EN f.val) = true → s.evtRoom f.val = true → (s.fn f.val).resetting = false →
    s.flag (F.HOST_RING_CFG_EVT_NOTICE f.val) = true → (s.fn f.val).noticeOpen = true →
    Completes (.eventRingWrite f) s fun t =>
      t.out.length = s.out.length + 2 ∧ (t.fn f.val).noticeOpen = true ∧ (t.fn f.val).noticeDue = true ∧
      OnlyChanges [.arb, .fns, .out] s t) ∧
  (∀ (s : State) (f : Fin 6) (r : EvRec), nextRecord (s.fn f.val).store = some r →
    s.flag (F.HOST_RING_CFG_EVT_EN f.val) = true → s.evtRoom f.val = true → (s.fn f.val).resetting = false →
    s.flag (F.HOST_RING_CFG_EVT_NOTICE f.val) = false →
    Completes (.eventRingWrite f) s fun t =>
      t.out.length = s.out.length + 2 ∧ (t.fn f.val).noticeOpen = (s.fn f.val).noticeOpen ∧
      (t.fn f.val).noticeDue = (s.fn f.val).noticeDue ∧ OnlyChanges [.arb, .fns, .out] s t) ∧
  (∀ (s : State) (f : Fin 6) (r : EvRec), nextRecord (s.fn f.val).store = some r →
    s.flag (F.HOST_RING_CFG_EVT_EN f.val) = true → s.evtRoom f.val = true → (s.fn f.val).resetting = false →
    0 < (s.fn f.val).lostCount → (s.fn f.val).store.length ≤ 1024 → (s.source 0x00e0).queue.length < 16 →
    Completes (.eventRingWrite f) s fun t =>
      (t.fn f.val).lostCount = 0 ∧
      (t.source 0x00E0).queue = (s.source 0x00E0).queue ++ [⟨1, 0x1401, f.val, evPayload [(4,
        (s.fn f.val).lostCount), (1, (s.fn f.val).lostSev)], s.arb.raised⟩] ∧
      OnlyChanges [.arb, .fns, .out] s t) ∧
  (∀ (s : State) (f : Fin 6),
    (nextRecord (s.fn f.val).store = none ∨ s.flag (F.HOST_RING_CFG_EVT_EN f.val) = false ∨ s.evtRoom f.val = false ∨
      (s.fn f.val).resetting = true) →
    exec (.eventRingWrite f) s = .next (s)) ∧
  (∀ (s : State) (f : Fin 6), (s.fn f.val).noticeDue = false →
    Completes (.eventNoticeIntervalEnd f) s fun t =>
      (t.fn f.val).noticeOpen = false ∧ (t.fn f.val).noticeDue = false ∧ OnlyChanges [.fns] s t) ∧
  (∀ (s : State) (f : Fin 6), (s.fn f.val).noticeDue = true → s.flag (F.HOST_RING_CFG_EVT_NOTICE f.val) = true →
    Completes (.eventNoticeIntervalEnd f) s fun t =>
      (t.fn f.val).noticeOpen = true ∧ (t.fn f.val).noticeDue = false ∧
      t.out = .msix f.val (s.fld (F.HOST_RING_VEC_EVT_VECTOR f.val)) :: s.out ∧ OnlyChanges [.fns, .out] s t) ∧
  (∀ (s : State) (f : Fin 6), (s.fn f.val).noticeDue = true → s.flag (F.HOST_RING_CFG_EVT_NOTICE f.val) = false →
    Completes (.eventNoticeIntervalEnd f) s fun t =>
      (t.fn f.val).noticeOpen = false ∧ (t.fn f.val).noticeDue = false ∧ OnlyChanges [.fns] s t) ∧
  (∀ (s : State) (f : Fin 6) (r : List Byte) (rs : List (List Byte)) (slot pad : Nat), (s.fn f.val).held = r :: rs →
    s.flag (F.HOST_RING_CFG_RPL_EN f.val) = true → (s.fn f.val).resetting = false →
    slot = (s.fn f.val).rplWr.toNat % ringSize 7 (s.fld (F.HOST_RING_CFG_RPL_SIZE f.val)) →
    (slot + ceilDiv r.length 64 ≤ ringSize 7 (s.fld (F.HOST_RING_CFG_RPL_SIZE f.val)) ∧
      pad = 0 ∨ ringSize 7 (s.fld (F.HOST_RING_CFG_RPL_SIZE f.val)) < slot + ceilDiv r.length 64 ∧
      pad = ringSize 7 (s.fld (F.HOST_RING_CFG_RPL_SIZE f.val)) - slot) →
    ((s.fn f.val).rplWr - s.rd (R.HOST_RPL_RD f.val)).toNat + pad +
      ceilDiv r.length 64 ≤ ringSize 7 (s.fld (F.HOST_RING_CFG_RPL_SIZE f.val)) →
    Completes (.replyWrite f) s fun t =>
      .hostWrite f.val (s.addr64 (R.HOST_RPL_BASE_LO f.val) (R.HOST_RPL_BASE_HI f.val) + 64 * ((slot +
        pad) % ringSize 7 (s.fld (F.HOST_RING_CFG_RPL_SIZE f.val)))) r ∈ t.out ∧
      (0 < pad → .hostWrite f.val (s.addr64 (R.HOST_RPL_BASE_LO f.val) (R.HOST_RPL_BASE_HI f.val) +
        64 * slot) (padReply pad) ∈ t.out) ∧
      (t.fn f.val).held = rs ∧
      (t.fn f.val).rplWr = (s.fn f.val).rplWr + BitVec.ofNat 32 (pad + ceilDiv r.length 64) ∧
      .hostWrite f.val (s.addr64 (R.HOST_WB_LO f.val) (R.HOST_WB_HI f.val)) (leBytes 4 ((s.fn f.val).cmdHead).toNat ++
        leBytes 4 ((s.fn f.val).rplWr + BitVec.ofNat 32 (pad + ceilDiv r.length 64)).toNat ++
        leBytes 4 ((s.fn f.val).evtWr).toNat ++ leBytes 4 0) ∈ t.out ∧
      (s.flag (F.HOST_RING_CFG_RPL_NOTICE f.val) = true →
        .msix f.val (s.fld (F.HOST_RING_VEC_RPL_VECTOR f.val)) ∈ t.out) ∧
      t.out.length = s.out.length + (if pad = 0 then 2 else 3) + (if s.flag (F.HOST_RING_CFG_RPL_NOTICE f.val)
        then 1 else 0) ∧
      OnlyChanges [.fns, .out] s t) ∧
  (∀ (s : State) (f : Fin 6),
    ((s.fn f.val).held = [] ∨ s.flag (F.HOST_RING_CFG_RPL_EN f.val) = false ∨ (s.fn f.val).resetting = true) →
    exec (.replyWrite f) s = .next (s)) ∧
  (∀ (s : State) (f : Fin 6) (r : List Byte) (rs : List (List Byte)) (slot : Nat), (s.fn f.val).held = r :: rs →
    slot = (s.fn f.val).rplWr.toNat % ringSize 7 (s.fld (F.HOST_RING_CFG_RPL_SIZE f.val)) →
    ringSize 7 (s.fld (F.HOST_RING_CFG_RPL_SIZE f.val)) < ((s.fn f.val).rplWr - s.rd (R.HOST_RPL_RD f.val)).toNat +
      (if ringSize 7 (s.fld (F.HOST_RING_CFG_RPL_SIZE f.val)) < slot + ceilDiv r.length 64
      then ringSize 7 (s.fld (F.HOST_RING_CFG_RPL_SIZE f.val)) - slot else 0) + ceilDiv r.length 64 →
    exec (.replyWrite f) s = .next (s))

/-- CMD_TAIL_WRITE, RPL_RD_WRITE, EVT_RD_WRITE, RING_CFG_WRITE, PAD, COMMAND_TIMEOUT (R552, R553, R555, R560). -/
def Obligations.RingIndexWritesTakeEffectOrAreRefused : Prop :=
  (∀ (s : State) (f : Fin 6) (v : Word), (s.fn f.val).resetting = false →
    (v - (s.fn f.val).cmdHead).toNat ≤ ringSize 7 (s.fld (F.HOST_RING_CFG_CMD_SIZE f.val)) →
    Completes (.cmdTailWrite f v) s fun t =>
      t.rd (R.HOST_CMD_TAIL f.val) = v ∧ RegsKept [R.HOST_CMD_TAIL f.val] s t ∧ OnlyChanges [.regs] s t) ∧
  (∀ (s : State) (f : Fin 6) (v : Word), (s.fn f.val).resetting = false →
    ringSize 7 (s.fld (F.HOST_RING_CFG_CMD_SIZE f.val)) < (v - (s.fn f.val).cmdHead).toNat →
    exec (.cmdTailWrite f v) s = .next (s.raiseRow 0x00E0 2 20 2 f.val [(1, 0), (4, v.toNat)])) ∧
  (∀ (s : State) (f : Fin 6) (v : Word), (s.fn f.val).resetting = false →
    ((s.fn f.val).rplWr - v).toNat ≤ ringSize 7 (s.fld (F.HOST_RING_CFG_RPL_SIZE f.val)) →
    (v - s.rd (R.HOST_RPL_RD f.val)).toNat ≤ ((s.fn f.val).rplWr - s.rd (R.HOST_RPL_RD f.val)).toNat →
    Completes (.rplRdWrite f v) s fun t =>
      t.rd (R.HOST_RPL_RD f.val) = v ∧ RegsKept [R.HOST_RPL_RD f.val] s t ∧ OnlyChanges [.regs] s t) ∧
  (∀ (s : State) (f : Fin 6) (v : Word), (s.fn f.val).resetting = false →
    ((s.fn f.val).evtWr - v).toNat ≤ ringSize 6 (s.fld (F.HOST_RING_CFG_EVT_SIZE f.val)) →
    (v - s.rd (R.HOST_EVT_RD f.val)).toNat ≤ ((s.fn f.val).evtWr - s.rd (R.HOST_EVT_RD f.val)).toNat →
    Completes (.evtRdWrite f v) s fun t =>
      t.rd (R.HOST_EVT_RD f.val) = v ∧ RegsKept [R.HOST_EVT_RD f.val] s t ∧ OnlyChanges [.regs] s t) ∧
  (∀ (s : State) (f : Fin 6) (v : Word), (s.fn f.val).resetting = false →
    (ringSize 7 (s.fld (F.HOST_RING_CFG_RPL_SIZE f.val)) < ((s.fn f.val).rplWr - v).toNat ∨
      ((s.fn f.val).rplWr - s.rd (R.HOST_RPL_RD f.val)).toNat < (v - s.rd (R.HOST_RPL_RD f.val)).toNat) →
    exec (.rplRdWrite f v) s = .next (s.raiseRow 0x00E0 2 20 2 f.val [(1, 1), (4, v.toNat)])) ∧
  (∀ (s : State) (f : Fin 6) (v : Word), (s.fn f.val).resetting = false →
    (ringSize 6 (s.fld (F.HOST_RING_CFG_EVT_SIZE f.val)) < ((s.fn f.val).evtWr - v).toNat ∨
      ((s.fn f.val).evtWr - s.rd (R.HOST_EVT_RD f.val)).toNat < (v - s.rd (R.HOST_EVT_RD f.val)).toNat) →
    exec (.evtRdWrite f v) s = .next (s.raiseRow 0x00E0 2 20 2 f.val [(1, 2), (4, v.toNat)])) ∧
  (∀ (s : State) (f : Fin 6) (v : Word), (s.fn f.val).resetting = false →
    Completes (.ringCfgWrite f v) s fun t =>
      t.fld (F.HOST_RING_CFG_CMD_EN f.val) = bitsOf v.toNat 31 31 ∧
      t.fld (F.HOST_RING_CFG_RPL_EN f.val) = bitsOf v.toNat 30 30 ∧
      t.fld (F.HOST_RING_CFG_EVT_EN f.val) = bitsOf v.toNat 29 29 ∧
      t.fld (F.HOST_RING_CFG_RPL_NOTICE f.val) = bitsOf v.toNat 13 13 ∧
      t.fld (F.HOST_RING_CFG_EVT_NOTICE f.val) = bitsOf v.toNat 12 12 ∧
      t.fld (F.HOST_RING_CFG_CMD_SIZE f.val) = (if s.flag (F.HOST_RING_CFG_CMD_EN f.val)
        then s.fld (F.HOST_RING_CFG_CMD_SIZE f.val) else bitsOf v.toNat 28 24) ∧
      t.fld (F.HOST_RING_CFG_RPL_SIZE f.val) = (if s.flag (F.HOST_RING_CFG_RPL_EN f.val)
        then s.fld (F.HOST_RING_CFG_RPL_SIZE f.val) else bitsOf v.toNat 23 19) ∧
      t.fld (F.HOST_RING_CFG_EVT_SIZE f.val) = (if s.flag (F.HOST_RING_CFG_EVT_EN f.val)
        then s.fld (F.HOST_RING_CFG_EVT_SIZE f.val) else bitsOf v.toNat 18 14) ∧
      RegsKept [R.HOST_RING_CFG f.val] s t ∧ OnlyChanges [.regs] s t) ∧
  (∀ (s : State) (f : Fin 6) (v : Word), (s.fn f.val).resetting = true →
    exec (.cmdTailWrite f v) s = .next (s)) ∧
  (∀ (s : State) (f : Fin 6) (v : Word), (s.fn f.val).resetting = true →
    exec (.rplRdWrite f v) s = .next (s)) ∧
  (∀ (s : State) (f : Fin 6) (v : Word), (s.fn f.val).resetting = true →
    exec (.evtRdWrite f v) s = .next (s)) ∧
  (∀ (s : State) (f : Fin 6) (v : Word), (s.fn f.val).resetting = true →
    exec (.ringCfgWrite f v) s = .next (s)) ∧
  (∀ (s : State) (p : Pkt), s.flag (F.HOST_RING_CFG_CMD_EN p.func.val) = true →
    (s.fn p.func.val).resetting = false → s.boot.mode ≠ 0 → unitsOf p.length ≤ s.posted p.func.val →
    Completes (.pad p) s fun t =>
      (t.fn p.func.val) = { s.fn p.func.val with cmdHead := (s.fn p.func.val).cmdHead + BitVec.ofNat 32 (unitsOf p.length) } ∧
      t.out = .hostWrite p.func.val (s.addr64 (R.HOST_WB_LO p.func.val) (R.HOST_WB_HI p.func.val)) (leBytes 4 ((s.fn p.func.val).cmdHead +
        BitVec.ofNat 32 (unitsOf p.length)).toNat ++ leBytes 4 (s.fn p.func.val).rplWr.toNat ++
        leBytes 4 (s.fn p.func.val).evtWr.toNat ++ leBytes 4 0) :: s.out ∧
      (∀ g < 6, g ≠ p.func.val → t.fn g = s.fn g) ∧ OnlyChanges [.fns, .out] s t) ∧
  (∀ (s : State) (p : Pkt),
    (s.flag (F.HOST_RING_CFG_CMD_EN p.func.val) = false ∨ (s.fn p.func.val).resetting = true ∨ s.boot.mode = 0 ∨
      s.posted p.func.val < unitsOf p.length) →
    exec (.pad p) s = .next (s)) ∧
  (∀ (s : State) (f : Fin 6) (id : Nat) (b : Begun), (s.fn f.val).begun.find? (fun b => b.id == id) = some b →
    b.tick + 48000 ≤ s.tick.count.toNat →
    ∃ u, exec (.commandTimeout f id) s = .next (u.endCmd b.echo ⟨stTimeout, 0, []⟩) ∧
      (u.fn f.val).begun = (s.fn f.val).begun.filter (fun b => b.id != id) ∧
      (∀ m, u.tick.change = some m → ¬(m.func = f.val ∧ m.id = id)) ∧
      (∀ j ∈ u.vec.params, ¬(j.func = f.val ∧ j.id = id)) ∧ (∀ r ∈ u.vec.rejoins, ¬(r.func = f.val ∧ r.id = id)) ∧
      OnlyChanges [.fns, .tick, .vec] s u) ∧
  (∀ (s : State) (f : Fin 6) (id : Nat),
    (∀ b ∈ (s.fn f.val).begun, b.id = id → s.tick.count.toNat < b.tick + 48000) →
    exec (.commandTimeout f id) s = .next (s))

/-- The commands of the Management group and CNT_CLEAR (R439, R563, R576, R580, R587, R588, R600). -/
def Obligations.ManagementCommandsAnswerAndCommit : Prop :=
  (∀ (s : State) (p : Pkt), s.mayBegin 0x0101 p = true → s.pastRingEnd p = false →
    (s.boot.mode = 1 ∨ s.boot.mode = 2) → p.version.toNat = 1 → p.flags.toNat / 4 = 0 → p.func.val = 0 →
    p.length = 0 → p.target = 0 →
    Ends (.mgmtInfo p) 0x0101 p s ⟨stDone, 0, packFrom 0 [(4, hostId 0), (4, if s.boot.imageGood
      then s.boot.fwVersion else 0), (4, Config.baseSn.toNat), (1, s.mem.gib), (4, s.retiredWord 0), (4,
      s.retiredWord 1), (4, s.retiredWord 2)]⟩ fun u =>
      OnlyChanges [] (s.afterTake p) u) ∧
  (∀ (s : State) (p : Pkt), s.mayBegin 0x0101 p = true → s.pastRingEnd p = false →
    (s.boot.mode = 1 ∨ s.boot.mode = 2) → p.version.toNat = 1 → p.flags.toNat / 4 = 0 → p.func.val = 0 →
    p.length = 0 → p.target ≠ 0 →
    Ends (.mgmtInfo p) 0x0101 p s ⟨stBadTarget, 0, []⟩ fun u =>
      OnlyChanges [] (s.afterTake p) u) ∧
  (∀ (s : State) (p : Pkt), Taken 0x0102 p s → p.length = 0 → p.target = 0 → s.boot.committed = false →
    s.sched.recoveryTicks = 0 →
    Ends (.cfgCommit p) 0x0102 p s ⟨stDone, 0, []⟩ fun u =>
      u.boot = { s.boot with committed := true, bringUp := false } ∧ u.sched = { s.sched with acct := 0 } ∧
      OnlyChanges [.boot, .sched, .arb] (s.afterTake p) u) ∧
  (∀ (s : State) (p : Pkt), Taken 0x0102 p s → p.length = 0 → p.target = 0 → s.boot.committed = false →
    s.sched.recoveryTicks = 0 → s.sched.acct ≠ 0 → (s.source 0x0084).queue.length < 16 →
    Ends (.cfgCommit p) 0x0102 p s ⟨stDone, 0, []⟩ fun u =>
      u.boot = { s.boot with committed := true, bringUp := false } ∧ u.sched = { s.sched with acct := 0 } ∧
      (u.source 0x0084).queue = (s.source 0x0084).queue ++ [⟨3, 0x0F05, 3, evPayload [(1, s.sched.acct), (1, 0), (1,
        0)], s.arb.raised⟩] ∧
      OnlyChanges [.boot, .sched, .arb] (s.afterTake p) u) ∧
  (∀ (s : State) (p : Pkt), Taken 0x0102 p s → p.length = 0 → p.target = 0 → s.boot.committed = false →
    s.sched.recoveryTicks ≠ 0 →
    Ends (.cfgCommit p) 0x0102 p s ⟨stDone, 0, []⟩ fun u =>
      u.boot = { s.boot with committed := true, bringUp := false } ∧ u.sched = { s.sched with acct := 2 } ∧
      OnlyChanges [.boot, .sched, .arb] (s.afterTake p) u) ∧
  (∀ (s : State) (p : Pkt), Taken 0x0102 p s → p.length = 0 → p.target = 0 → s.boot.committed = false →
    s.sched.recoveryTicks ≠ 0 → s.sched.acct ≠ 2 → (s.source 0x0084).queue.length < 16 →
    Ends (.cfgCommit p) 0x0102 p s ⟨stDone, 0, []⟩ fun u =>
      u.boot = { s.boot with committed := true, bringUp := false } ∧ u.sched = { s.sched with acct := 2 } ∧
      (u.source 0x0084).queue = (s.source 0x0084).queue ++ [⟨3, 0x0F05, 3, evPayload [(1, s.sched.acct), (1, 2), (1,
        0)], s.arb.raised⟩] ∧
      OnlyChanges [.boot, .sched, .arb] (s.afterTake p) u) ∧
  (∀ (s : State) (p : Pkt), Taken 0x0102 p s → p.length = 0 → p.target = 0 → s.boot.committed = true →
    Ends (.cfgCommit p) 0x0102 p s ⟨stDone, 1, []⟩ fun u =>
      OnlyChanges [] (s.afterTake p) u) ∧
  (∀ (s : State) (p : Pkt), Taken 0x0102 p s → p.length = 0 → p.target ≠ 0 →
    Ends (.cfgCommit p) 0x0102 p s ⟨stBadTarget, 0, []⟩ fun u =>
      OnlyChanges [] (s.afterTake p) u) ∧
  (∀ (s : State) (p : Pkt), s.mayBegin 0x0103 p = true → s.pastRingEnd p = false →
    (s.boot.mode = 1 ∨ s.boot.mode = 2) → p.version.toNat = 1 → p.flags.toNat / 4 = 0 → p.func.val = 0 →
    p.length = 1 → p.target.toNat < s.jrn.core.total → 1 ≤ p.w 0 → p.w 0 ≤ 128 →
    (s.jrn.core.total - s.jrn.core.entries.length) ≤ p.target.toNat →
    Ends (.journalRead p) 0x0103 p s ⟨stDone, p.target.toNat,
      ((s.jrn.core.entries.drop (p.target.toNat - (s.jrn.core.total - s.jrn.core.entries.length))).take (p.w 0)).flatten⟩ fun u =>
      OnlyChanges [] (s.afterTake p) u) ∧
  (∀ (s : State) (p : Pkt), s.mayBegin 0x0103 p = true → s.pastRingEnd p = false →
    (s.boot.mode = 1 ∨ s.boot.mode = 2) → p.version.toNat = 1 → p.flags.toNat / 4 = 0 → p.func.val = 0 →
    p.length = 1 → p.target.toNat < s.jrn.core.total → 1 ≤ p.w 0 → p.w 0 ≤ 128 →
    p.target.toNat < (s.jrn.core.total - s.jrn.core.entries.length) →
    Ends (.journalRead p) 0x0103 p s ⟨stDone, s.jrn.core.total - s.jrn.core.entries.length,
      ((s.jrn.core.entries.take (p.w 0)).flatten)⟩ fun u =>
      OnlyChanges [] (s.afterTake p) u) ∧
  (∀ (s : State) (p : Pkt), s.mayBegin 0x0103 p = true → s.pastRingEnd p = false →
    (s.boot.mode = 1 ∨ s.boot.mode = 2) → p.version.toNat = 1 → p.flags.toNat / 4 = 0 → p.func.val = 0 →
    p.length = 1 → p.target.toNat < s.jrn.core.total → (p.w 0 = 0 ∨ 128 < p.w 0) →
    Ends (.journalRead p) 0x0103 p s ⟨stBadParam, 0, []⟩ fun u =>
      OnlyChanges [] (s.afterTake p) u) ∧
  (∀ (s : State) (p : Pkt), s.mayBegin 0x0103 p = true → s.pastRingEnd p = false →
    (s.boot.mode = 1 ∨ s.boot.mode = 2) → p.version.toNat = 1 → p.flags.toNat / 4 = 0 → p.func.val = 0 →
    p.length = 1 → s.jrn.core.total ≤ p.target.toNat →
    Ends (.journalRead p) 0x0103 p s ⟨stBadTarget, 0, []⟩ fun u =>
      OnlyChanges [] (s.afterTake p) u) ∧
  (∀ (s : State) (p : Pkt), s.mayBegin 0x0104 p = true → s.pastRingEnd p = false →
    (s.boot.mode = 1 ∨ s.boot.mode = 2) → p.version.toNat = 1 → p.flags.toNat / 4 = 0 → p.func.val = 0 →
    p.length = 1 → p.target.toNat < 2 → leAt p.bytes 2 2 ≤ 4096 → leAt p.bytes 0 2 + leAt p.bytes 2 2 ≤ 65536 →
    Ends (.boardRead p) 0x0104 p s ⟨stDone, 0,
      s.flashBytes (boardBase p.target.toNat + leAt p.bytes 0 2) (leAt p.bytes 2 2)⟩ fun u =>
      OnlyChanges [] (s.afterTake p) u) ∧
  (∀ (s : State) (p : Pkt), s.mayBegin 0x0104 p = true → s.pastRingEnd p = false →
    (s.boot.mode = 1 ∨ s.boot.mode = 2) → p.version.toNat = 1 → p.flags.toNat / 4 = 0 → p.func.val = 0 →
    p.length = 1 → p.target.toNat < 2 → (4096 < leAt p.bytes 2 2 ∨ 65536 < leAt p.bytes 0 2 + leAt p.bytes 2 2) →
    Ends (.boardRead p) 0x0104 p s ⟨stBadParam, 0, []⟩ fun u =>
      OnlyChanges [] (s.afterTake p) u) ∧
  (∀ (s : State) (p : Pkt), s.mayBegin 0x0104 p = true → s.pastRingEnd p = false →
    (s.boot.mode = 1 ∨ s.boot.mode = 2) → p.version.toNat = 1 → p.flags.toNat / 4 = 0 → p.func.val = 0 →
    p.length = 1 → 2 ≤ p.target.toNat →
    Ends (.boardRead p) 0x0104 p s ⟨stBadTarget, 0, []⟩ fun u =>
      OnlyChanges [] (s.afterTake p) u) ∧
  (∀ (s : State) (p : Pkt) (grp : Byte), Taken (grp.toNat * 256 + 0xFE) p s → p.length = 2 → p.target = 0 →
    1 ≤ p.w 1 → p.w 1 ≤ 64 → p.w 0 % 4 = 0 → (∀ i < p.w 1, clearable p.func.val (p.w 0 + 4 * i) = true) →
    Ends (.cntClear p grp) (grp.toNat * 256 + 0xFE) p s ⟨stDone, 0, []⟩ fun u =>
      (∀ i < p.w 1, ∀ c, ctrAt (p.w 0 + 4 * i) = some c → u.count c = 0 ∧
        (c.wide = true ∨ (u.rd c.sat).toNat.testBit c.bit = false)) ∧
      (∀ c, (∀ i < p.w 1, ∀ d, ctrAt (p.w 0 + 4 * i) = some d → d.off ≠ c.off) → u.count c = s.count c) ∧
      (∀ g < 6, g ≠ p.func.val → u.fn g = s.fn g) ∧
      (∀ o, o ≠ R.HOST_RING_STATUS p.func.val → (∀ i < p.w 1, ∀ d, ctrAt (p.w 0 + 4 * i) = some d → d.sat ≠ o) →
        u.rd o = s.rd o) ∧
      OnlyChanges [.cnt, .fns, .regs] (s.afterTake p) u) ∧
  (∀ (s : State) (p : Pkt) (grp : Byte), Taken (grp.toNat * 256 + 0xFE) p s → p.length = 2 → p.target = 0 →
    p.w 0 = 0x1048 → p.w 1 = 1 →
    Ends (.cntClear p grp) (grp.toNat * 256 + 0xFE) p s ⟨stDone, 0, []⟩ fun u =>
      (u.fn p.func.val).evtLost = 0 ∧ u.fld (F.HOST_RING_STATUS_LOST_SAT p.func.val) = 0 ∧
      RegsKept [R.HOST_RING_STATUS p.func.val] s u ∧ OnlyChanges [.fns, .regs] (s.afterTake p) u) ∧
  (∀ (s : State) (p : Pkt) (grp : Byte), Taken (grp.toNat * 256 + 0xFE) p s → p.length = 2 → p.target = 0 →
    (p.w 1 = 0 ∨ 64 < p.w 1) →
    Ends (.cntClear p grp) (grp.toNat * 256 + 0xFE) p s ⟨stBadParam, 0, []⟩ fun u =>
      OnlyChanges [] (s.afterTake p) u) ∧
  (∀ (s : State) (p : Pkt) (grp : Byte) (k : Nat), Taken (grp.toNat * 256 + 0xFE) p s → p.length = 2 →
    p.target = 0 → 1 ≤ p.w 1 → p.w 1 ≤ 64 →
    (p.w 0 % 4 ≠ 0 ∨ k < p.w 1 ∧ clearable p.func.val (p.w 0 + 4 * k) = false) →
    Ends (.cntClear p grp) (grp.toNat * 256 + 0xFE) p s ⟨stBadTarget, 0, []⟩ fun u =>
      OnlyChanges [] (s.afterTake p) u) ∧
  (∀ (s : State) (p : Pkt) (grp : Byte), Taken (grp.toNat * 256 + 0xFE) p s → p.length = 2 → p.target ≠ 0 →
    Ends (.cntClear p grp) (grp.toNat * 256 + 0xFE) p s ⟨stBadTarget, 0, []⟩ fun u =>
      OnlyChanges [] (s.afterTake p) u)

/-- FUNCTION_LEVEL_RESET, PCIE_HOT_RESET, POWER_ON_RESET, BOOT_RESTART, START_STEP_READY, START_STEP_TIMEOUT (R429,
R539, R551, R574 to R589); the TAP (R622; its states are the model's presumption, log 37). Whether a firmware image
is good depends on a free key: both cases are stated. -/
def Obligations.ResetsAndStartLeaveTheirStates : Prop :=
  (∀ (s : State) (f : Fin 6) (reqs : List (List Byte)), (s.fn f.val).resetting = false →
    Completes (.functionLevelReset f reqs) s fun t =>
      (t.fn f.val).resetting = true ∧ (t.fn f.val).cmdHead = 0 ∧ (t.fn f.val).rplWr = 0 ∧ (t.fn f.val).evtWr = 0 ∧
        (t.fn f.val).store = [] ∧ (t.fn f.val).held = [] ∧ (t.fn f.val).begun = [] ∧ (t.fn f.val).accepted = [] ∧
        (t.fn f.val).lostCount = 0 ∧
      t.flag (F.HOST_RING_CFG_CMD_EN f.val) = false ∧ t.flag (F.HOST_RING_CFG_RPL_EN f.val) = false ∧
        t.flag (F.HOST_RING_CFG_EVT_EN f.val) = false ∧ t.rd (R.HOST_CMD_TAIL f.val) = 0 ∧
        t.rd (R.HOST_RPL_RD f.val) = 0 ∧ t.rd (R.HOST_EVT_RD f.val) = 0 ∧
      (∀ q < 64, s.dqFunc q = f.val → t.flag (F.HOST_DQ_CFG_ENABLE q) = false ∧ t.dq q = {}) ∧
      (∀ q < 64, s.hqFunc q = f.val → t.flag (F.HOST_HQ_CFG_ENABLE q) = false ∧ t.hq q = {}) ∧
      (∀ g < 6, g ≠ f.val → (t.fn g).resetting = (s.fn g).resetting ∧ (t.fn g).cmdHead = (s.fn g).cmdHead ∧
        (t.fn g).held = (s.fn g).held ∧ (t.fn g).begun = (s.fn g).begun) ∧
      RegsKeptIn [fun _ => R.BUF_SAT, R.CIPH_KEY_DATA, fun _ => R.CIPH_KEY_SEL, fun _ => R.CIPH_RQ_CFG,
        fun _ => R.CIPH_RQ_TAIL, R.HOST_CMD_TAIL, R.HOST_DQ_CFG, R.HOST_DQ_TAIL, R.HOST_EVT_RD, R.HOST_HQ_CFG,
        R.HOST_HQ_TAIL, R.HOST_RING_CFG, R.HOST_RPL_RD, fun _ => R.VS_CUTOFF] s t ∧
      OnlyChanges [.out, .freeCtr, .regs, .cnt, .arb, .fns, .buf, .chan, .sched, .time, .cls, .fwd, .running, .vec,
        .ciph] s t) ∧
  (∀ (s : State) (f : Fin 6) (reqs : List (List Byte)), (s.fn f.val).resetting = true →
    exec (.functionLevelReset f reqs) s = .next (s)) ∧
  (∀ (s : State) (reqs : List (List Byte)), (s.fn 2).resetting = false →
    Completes (.functionLevelReset 2 reqs) s fun t =>
      t.vec.params = [] ∧ t.vec.rejoins = [] ∧ t.vec.cutAt = none ∧
      (∀ g, (s.vg g).state ≠ 0 → (t.vg g).startCmd = none ∧ (t.vg g).stopCmd = none ∧ (t.vg g).nextRungs = [] ∧
        (t.vg g).fences = [] ∧ (t.vg g).frozen = true ∧ (t.vg g).rungs = (s.vg g).rungs) ∧
      (∀ g, (s.vg g).state = 3 → (t.vg g).state = 3) ∧
      (∀ e < 96, (s.eng e).kernel.isSome = true → (t.eng e).loadLost = true ∧ (t.eng e).st = (s.eng e).st) ∧
      RegsKeptIn [fun _ => R.BUF_SAT, R.CIPH_KEY_DATA, fun _ => R.CIPH_KEY_SEL, fun _ => R.CIPH_RQ_CFG,
        fun _ => R.CIPH_RQ_TAIL, R.HOST_CMD_TAIL, R.HOST_DQ_CFG, R.HOST_DQ_TAIL, R.HOST_EVT_RD, R.HOST_HQ_CFG,
        R.HOST_HQ_TAIL, R.HOST_RING_CFG, R.HOST_RPL_RD, fun _ => R.VS_CUTOFF] s t ∧
      OnlyChanges [.out, .freeCtr, .regs, .cnt, .arb, .fns, .buf, .chan, .sched, .time, .cls, .fwd, .running, .vec,
        .ciph] s t) ∧
  (∀ (s : State) (reqs : List (List Byte)), (s.fn 3).resetting = false →
    Completes (.functionLevelReset 3 reqs) s fun t =>
      (∀ i < 4, t.walkAt i = none) ∧ t.sched.recoveryTicks = 48000 ∧ (s.sched.acct = 0 → t.sched.acct = 2) ∧
      (s.sched.acct ≠ 0 → t.sched.acct = s.sched.acct) ∧
      (∀ i r, t.ruleAt i = some r → r.addV ≠ some s.staged ∧ r.delV ≠ some s.staged) ∧
      RegsKeptIn [fun _ => R.BUF_SAT, R.CIPH_KEY_DATA, fun _ => R.CIPH_KEY_SEL, fun _ => R.CIPH_RQ_CFG,
        fun _ => R.CIPH_RQ_TAIL, R.HOST_CMD_TAIL, R.HOST_DQ_CFG, R.HOST_DQ_TAIL, R.HOST_EVT_RD, R.HOST_HQ_CFG,
        R.HOST_HQ_TAIL, R.HOST_RING_CFG, R.HOST_RPL_RD, fun _ => R.VS_CUTOFF] s t ∧
      OnlyChanges [.out, .freeCtr, .regs, .cnt, .arb, .fns, .buf, .chan, .sched, .time, .cls, .fwd, .running, .vec,
        .ciph] s t) ∧
  (∀ (s : State) (reqs : List (List Byte)), (s.fn 4).resetting = false →
    Completes (.functionLevelReset 4 reqs) s fun t =>
      t.flag F.CIPH_RQ_CFG_ENABLE = false ∧ t.fld F.CIPH_RQ_TAIL_TAIL = 0 ∧ t.ciph = { s.ciph with rqHead := 0 } ∧
      t.rd R.CIPH_KEY_SEL = 0 ∧ (∀ k < 8, t.rd (R.CIPH_KEY_DATA k) = 0) ∧
      t.count C.CIPH_REQ = (s.count C.CIPH_REQ + s.rqPosted) % 2 ^ 64 ∧
      RegsKeptIn [fun _ => R.BUF_SAT, R.CIPH_KEY_DATA, fun _ => R.CIPH_KEY_SEL, fun _ => R.CIPH_RQ_CFG,
        fun _ => R.CIPH_RQ_TAIL, R.HOST_CMD_TAIL, R.HOST_DQ_CFG, R.HOST_DQ_TAIL, R.HOST_EVT_RD, R.HOST_HQ_CFG,
        R.HOST_HQ_TAIL, R.HOST_RING_CFG, R.HOST_RPL_RD, fun _ => R.VS_CUTOFF] s t ∧
      OnlyChanges [.out, .freeCtr, .regs, .cnt, .arb, .fns, .buf, .chan, .sched, .time, .cls, .fwd, .running, .vec,
        .ciph] s t) ∧
  (∀ (s : State) (d : List Byte), (s.fn 4).resetting = false → s.rqPosted = 1 →
    Completes (.functionLevelReset 4 [d]) s fun t =>
      .hostWrite 4 (s.addr64 R.CIPH_RP_BASE_LO R.CIPH_RP_BASE_HI +
        32 * (s.rqHead % 256)) (rqReply 6 0 (leAt d 2 2) 0 [] (sliceB d 56 8)) ∈ t.out ∧
      RegsKeptIn [fun _ => R.BUF_SAT, R.CIPH_KEY_DATA, fun _ => R.CIPH_KEY_SEL, fun _ => R.CIPH_RQ_CFG,
        fun _ => R.CIPH_RQ_TAIL, R.HOST_CMD_TAIL, R.HOST_DQ_CFG, R.HOST_DQ_TAIL, R.HOST_EVT_RD, R.HOST_HQ_CFG,
        R.HOST_HQ_TAIL, R.HOST_RING_CFG, R.HOST_RPL_RD, fun _ => R.VS_CUTOFF] s t ∧
      OnlyChanges [.out, .freeCtr, .regs, .cnt, .arb, .fns, .buf, .chan, .sched, .time, .cls, .fwd, .running, .vec,
        .ciph] s t) ∧
  (∀ (s : State) (reqs : List (List Byte)), (s.fn 5).resetting = false →
    Completes (.functionLevelReset 5 reqs) s fun t =>
      t.time = { s.time with fifo := [], todRx := [] } ∧ t.tick = s.tick ∧
      RegsKeptIn [fun _ => R.BUF_SAT, R.CIPH_KEY_DATA, fun _ => R.CIPH_KEY_SEL, fun _ => R.CIPH_RQ_CFG,
        fun _ => R.CIPH_RQ_TAIL, R.HOST_CMD_TAIL, R.HOST_DQ_CFG, R.HOST_DQ_TAIL, R.HOST_EVT_RD, R.HOST_HQ_CFG,
        R.HOST_HQ_TAIL, R.HOST_RING_CFG, R.HOST_RPL_RD, fun _ => R.VS_CUTOFF] s t ∧
      OnlyChanges [.out, .freeCtr, .regs, .cnt, .arb, .fns, .buf, .chan, .sched, .time, .cls, .fwd, .running, .vec,
        .ciph] s t) ∧
  (∀ (s : State) (reqs : List (List Byte)), (∀ f < 6, (s.fn f).resetting = false) →
    Completes (.pcieHotReset reqs) s fun t =>
      (∀ f < 6, ((t.fn f).resetting = true ∧ (t.fn f).cmdHead = 0 ∧ (t.fn f).rplWr = 0 ∧ (t.fn f).evtWr = 0 ∧
        (t.fn f).store = [] ∧ (t.fn f).held = [] ∧ (t.fn f).begun = [] ∧ (t.fn f).accepted = [] ∧
        (t.fn f).lostCount = 0) ∧ t.flag (F.HOST_RING_CFG_CMD_EN f) = false ∧
        t.flag (F.HOST_RING_CFG_RPL_EN f) = false ∧ t.flag (F.HOST_RING_CFG_EVT_EN f) = false ∧
        t.rd (R.HOST_CMD_TAIL f) = 0 ∧ t.rd (R.HOST_RPL_RD f) = 0 ∧ t.rd (R.HOST_EVT_RD f) = 0) ∧
      RegsKeptIn [fun _ => R.BUF_SAT, R.CIPH_KEY_DATA, fun _ => R.CIPH_KEY_SEL, fun _ => R.CIPH_RQ_CFG,
        fun _ => R.CIPH_RQ_TAIL, R.HOST_CMD_TAIL, R.HOST_DQ_CFG, R.HOST_DQ_TAIL, R.HOST_EVT_RD, R.HOST_HQ_CFG,
        R.HOST_HQ_TAIL, R.HOST_RING_CFG, R.HOST_RPL_RD, fun _ => R.VS_CUTOFF] s t ∧
      OnlyChanges [.out, .freeCtr, .regs, .cnt, .arb, .fns, .buf, .chan, .sched, .time, .cls, .fwd, .running, .vec,
        .ciph] s t) ∧
  (∀ (s : State) (f : Fin 6) (reqs : List (List Byte)), (s.fn f.val).resetting = true →
    Completes (.pcieHotReset reqs) s fun t =>
      (t.fn f.val).resetting = true ∧
      (t.fn f.val).cmdHead = (s.fn f.val).cmdHead ∧ (t.fn f.val).held = (s.fn f.val).held ∧
        (t.fn f.val).begun = (s.fn f.val).begun ∧
      RegsKeptIn [fun _ => R.BUF_SAT, R.CIPH_KEY_DATA, fun _ => R.CIPH_KEY_SEL, fun _ => R.CIPH_RQ_CFG,
        fun _ => R.CIPH_RQ_TAIL, R.HOST_CMD_TAIL, R.HOST_DQ_CFG, R.HOST_DQ_TAIL, R.HOST_EVT_RD, R.HOST_HQ_CFG,
        R.HOST_HQ_TAIL, R.HOST_RING_CFG, R.HOST_RPL_RD, fun _ => R.VS_CUTOFF] s t ∧
      OnlyChanges [.out, .freeCtr, .regs, .cnt, .arb, .fns, .buf, .chan, .sched, .time, .cls, .fwd, .running, .vec,
        .ciph] s t) ∧
  (∀ (s : State) (f : Fin 6) (reqs : List (List Byte)), (s.fn f.val).resetting = false →
    Completes (.pcieHotReset reqs) s fun t =>
      (t.fn f.val).resetting = true ∧ (t.fn f.val).cmdHead = 0 ∧ (t.fn f.val).rplWr = 0 ∧ (t.fn f.val).evtWr = 0 ∧
        (t.fn f.val).store = [] ∧ (t.fn f.val).held = [] ∧ (t.fn f.val).begun = [] ∧ (t.fn f.val).accepted = [] ∧
        (t.fn f.val).lostCount = 0 ∧
      t.flag (F.HOST_RING_CFG_CMD_EN f.val) = false ∧ t.flag (F.HOST_RING_CFG_RPL_EN f.val) = false ∧
        t.flag (F.HOST_RING_CFG_EVT_EN f.val) = false ∧ t.rd (R.HOST_CMD_TAIL f.val) = 0 ∧
        t.rd (R.HOST_RPL_RD f.val) = 0 ∧ t.rd (R.HOST_EVT_RD f.val) = 0 ∧
      RegsKeptIn [fun _ => R.BUF_SAT, R.CIPH_KEY_DATA, fun _ => R.CIPH_KEY_SEL, fun _ => R.CIPH_RQ_CFG,
        fun _ => R.CIPH_RQ_TAIL, R.HOST_CMD_TAIL, R.HOST_DQ_CFG, R.HOST_DQ_TAIL, R.HOST_EVT_RD, R.HOST_HQ_CFG,
        R.HOST_HQ_TAIL, R.HOST_RING_CFG, R.HOST_RPL_RD, fun _ => R.VS_CUTOFF] s t ∧
      OnlyChanges [.out, .freeCtr, .regs, .cnt, .arb, .fns, .buf, .chan, .sched, .time, .cls, .fwd, .running, .vec,
        .ciph] s t) ∧
  (∀ (s : State) (ns : Nat), 1000 ≤ ns → (s.pwr.state ≠ 3 ∨ 4 < s.pwr.wakeStep) →
    Completes (.powerOnReset ns) s fun t =>
      t.pwr.state = 0 ∧ t.pwr.busy = false ∧ t.boot = { State.reset.boot with flash := s.boot.flash } ∧
      t.jrn = s.jrn ∧ t.pending = s.pending ∧ t.fns = [] ∧ t.tick = {} ∧ t.cls = {} ∧ t.fwd = {} ∧ t.ciph = {} ∧
      t.svl = [] ∧ t.mac = [] ∧ t.arb = {} ∧ t.alloc = State.reset.alloc ∧ t.bonding = State.reset.bonding ∧
      t.buf = State.reset.buf ∧ t.chan = State.reset.chan ∧ t.sched = State.reset.sched ∧
      t.time = State.reset.time ∧ t.clsIn = State.reset.clsIn ∧ t.running = 0 ∧ t.testLanes = 0 ∧ t.lanes = [] ∧
      t.tap = s.tap ∧ t.mem = { State.reset.mem with ddr := t.mem.ddr, selfRefresh := s.mem.selfRefresh } ∧
      t.mem.ddr = (if s.mem.selfRefresh then s.mem.ddr else []) ∧
      t.vec = { State.reset.vec with squallDue := s.pwr.causes != 0, ckpts := t.vec.ckpts } ∧
      t.vec.ckpts = (if s.mem.selfRefresh then s.vec.ckpts else []) ∧ t.freeCtr = s.freeCtr ∧ t.cmdId = s.cmdId ∧
      (∀ c, t.count c = (if inPowerWindow c.off then s.count c else 0)) ∧
      (∀ n < 4, t.ch n = resetChannel (s.jrn.core.o7.testBit n)) ∧
      (∀ o, t.rd o = (if inPowerWindow o then s.rd o else regReset o))) ∧
  (∀ (s : State) (ns : Nat), ns < 1000 →
    exec (.powerOnReset ns) s = .next (s)) ∧
  (∀ (s : State) (ns : Nat), 1000 ≤ ns → s.pwr.state = 3 → s.pwr.wakeStep ≤ 4 →
    Completes (.powerOnReset ns) s fun t =>
      t.pwr.wakeStep = 1 ∧ t.pwr.step = 8 ∧ t.pwr.busy = true ∧ t.pwr.state = 3 ∧ t.pwr.tries = 0 ∧
      (∀ r ∈ s.railsOf 2, .regulator r (s.railMv s.jrn.core.avsLow r) ∈ t.out) ∧ OnlyChanges [.out, .pwr] s t) ∧
  (∀ (s : State),
    Completes (.bootRestart 0 0x52455354) s fun t =>
      t.pwr.state = 0 ∧ t.pwr.busy = false ∧ t.boot = { State.reset.boot with flash := s.boot.flash } ∧
      t.jrn = s.jrn ∧ t.pending = s.pending ∧ t.fns = [] ∧ t.tick = {} ∧ t.cls = {} ∧ t.fwd = {} ∧ t.ciph = {} ∧
      t.svl = [] ∧ t.mac = [] ∧ t.arb = {} ∧ t.alloc = State.reset.alloc ∧ t.bonding = State.reset.bonding ∧
      t.buf = State.reset.buf ∧ t.chan = State.reset.chan ∧ t.sched = State.reset.sched ∧
      t.time = State.reset.time ∧ t.clsIn = State.reset.clsIn ∧ t.running = 0 ∧ t.testLanes = 0 ∧ t.lanes = [] ∧
      t.tap = s.tap ∧ t.mem = { State.reset.mem with ddr := t.mem.ddr, selfRefresh := s.mem.selfRefresh } ∧
      t.mem.ddr = (if s.mem.selfRefresh then s.mem.ddr else []) ∧
      t.vec = { State.reset.vec with squallDue := s.pwr.causes != 0, ckpts := t.vec.ckpts } ∧
      t.vec.ckpts = (if s.mem.selfRefresh then s.vec.ckpts else []) ∧ t.freeCtr = s.freeCtr ∧ t.cmdId = s.cmdId ∧
      (∀ c, t.count c = (if inPowerWindow c.off then s.count c else 0)) ∧
      (∀ n < 4, t.ch n = resetChannel (s.jrn.core.o7.testBit n)) ∧
      (∀ o, t.rd o = (if inPowerWindow o then s.rd o else regReset o))) ∧
  (∀ (s : State) (v : Word), v ≠ 0x52455354 →
    exec (.bootRestart 0 v) s = .next (s)) ∧
  (∀ (s : State) (f : Fin 6) (v : Word), f.val ≠ 0 →
    Completes (.bootRestart f v) s fun t =>
      t.flag (F.HOST_ACC_ERR_UNMAPPED f.val) = true ∧ (t.fn f.val).accErrOffset = R.BOOT_RESTART / 4 ∧
      RegsKept [R.HOST_ACC_ERR f.val] s t ∧ OnlyChanges [.regs, .fns] s t) ∧
  (∀ (s : State) (i : StartInfo), s.starting = false →
    exec (.startStepReady i) s = .next (s)) ∧
  (∀ (s : State) (i : StartInfo), s.starting = false →
    exec (.startStepTimeout i) s = .next (s)) ∧
  (∀ (s : State) (i : StartInfo), s.starting = true → s.boot.step = 0 →
    Completes (.startStepReady i) s fun t =>
      t.boot = { s.boot with step := 2, tries := 0, alt := false, cause := 0 } ∧
      t.jrn = { s.jrn with core := { s.jrn.core with start := (s.jrn.core.start + 1) % 2 ^ 32 } } ∧
      OnlyChanges [.boot, .jrn] s t) ∧
  (∀ (s : State) (i : StartInfo), s.starting = true → s.boot.step = 1 →
    Completes (.startStepReady i) s fun t =>
      t.boot = { s.boot with step := 2, tries := 0, alt := false, cause := 0 } ∧
      (s.boot.tries = 0 → t.jrn.core.entries = s.jrn.core.entries ∧ t.jrn.core.total = s.jrn.core.total) ∧
      (s.boot.tries ≠ 0 → t.jrn.core.total = s.jrn.core.total + 1 ∧
        t.jrn.core.entries.getLast? = some (journalBytes t.jrn.core.start 1 1 s.boot.cause (s.boot.tries +
        1) (0) i.ms)) ∧
      OnlyChanges [.boot, .jrn] s t) ∧
  (∀ (s : State) (i : StartInfo), s.starting = true → s.boot.step = 2 → s.boot.tries = 0 → s.jrn.clearDue = false →
    i.aonOk = true →
    Completes (.startStepReady i) s fun t =>
      t.jrn = { s.jrn with core := (s.jrn.core), clearDue := false } ∧
      t.boot = { s.boot with step := 3, tries := 0, alt := false, cause := 0, image := (s.jrn.core).image, board := (s.jrn.core).board, ref := (s.jrn.core).ref, ddrRate := (s.jrn.core).ddrRate } ∧
      (∀ n < 4, t.ch n = resetChannel ((s.jrn.core).o7.testBit n)) ∧ OnlyChanges [.boot, .jrn, .pon] s t) ∧
  (∀ (s : State) (i : StartInfo), s.starting = true → s.boot.step = 2 → s.boot.tries = 0 → s.jrn.clearDue = true →
    i.aonOk = true →
    Completes (.startStepReady i) s fun t =>
      t.jrn = { s.jrn with core := (s.jrn.core.cleared), clearDue := false } ∧
      t.boot = { s.boot with step := 3, tries := 0, alt := false, cause := 0, image := (s.jrn.core.cleared).image, board := (s.jrn.core.cleared).board, ref := (s.jrn.core.cleared).ref, ddrRate := (s.jrn.core.cleared).ddrRate } ∧
      (∀ n < 4, t.ch n = resetChannel ((s.jrn.core.cleared).o7.testBit n)) ∧ OnlyChanges [.boot, .jrn, .pon] s t) ∧
  (∀ (s : State) (i : StartInfo), s.starting = true → s.boot.step = 2 → s.boot.tries = 0 → s.jrn.clearDue = false →
    i.aonOk = false → s.jrn.newest = none →
    Completes (.startStepReady i) s fun t =>
      t.jrn = { s.jrn with core := ({ start := 1 } : JCore), clearDue := false } ∧
      t.boot = { s.boot with step := 3, tries := 0, alt := false, cause := 0, image := ({ start := 1 } : JCore).image, board := ({ start := 1 } : JCore).board, ref := ({ start := 1 } : JCore).ref, ddrRate := ({ start := 1 } : JCore).ddrRate } ∧
      (∀ n < 4, t.ch n = resetChannel (({ start := 1 } : JCore).o7.testBit n)) ∧
        OnlyChanges [.boot, .jrn, .pon] s t) ∧
  (∀ (s : State) (i : StartInfo) (m : Nat × JCore), s.starting = true → s.boot.step = 2 → s.boot.tries = 0 →
    i.aonOk = false → s.jrn.clearDue = false → s.jrn.newest = some m →
    Completes (.startStepReady i) s fun t =>
      t.jrn = { s.jrn with core := { m.2 with start := (m.2.start + 1) % 2 ^ 32 } } ∧
      t.boot = { s.boot with step := 3, tries := 0, alt := false, cause := 0, image := m.2.image, board := m.2.board, ref := m.2.ref, ddrRate := m.2.ddrRate } ∧
      (∀ n < 4, t.ch n = resetChannel (m.2.o7.testBit n)) ∧ OnlyChanges [.boot, .jrn, .pon] s t) ∧
  (∀ (s : State) (i : StartInfo), s.starting = true → s.boot.step = 2 → i.aonOk = true → s.jrn.clearDue = false →
    Completes (.startStepReady i) s fun t =>
      t.boot.step = 3 ∧
      (s.boot.tries = 0 → t.jrn.core.entries = s.jrn.core.entries ∧ t.jrn.core.total = s.jrn.core.total) ∧
      (s.boot.tries ≠ 0 → t.jrn.core.total = s.jrn.core.total + 1 ∧
        t.jrn.core.entries.getLast? = some (journalBytes t.jrn.core.start 2 1 s.boot.cause (s.boot.tries +
        1) (0) i.ms)) ∧
      OnlyChanges [.boot, .jrn, .pon] s t) ∧
  (∀ (s : State) (i : StartInfo), s.starting = true → s.boot.step = 3 →
    Completes (.startStepReady i) s fun t =>
      t.boot = { s.boot with step := 4, tries := 0, alt := false, cause := 0 } ∧
      (s.boot.tries = 0 → t.jrn.core.entries = s.jrn.core.entries ∧ t.jrn.core.total = s.jrn.core.total) ∧
      (s.boot.tries ≠ 0 → t.jrn.core.total = s.jrn.core.total + 1 ∧
        t.jrn.core.entries.getLast? = some (journalBytes t.jrn.core.start 3 1 s.boot.cause (s.boot.tries +
        1) (s.boot.ref) i.ms)) ∧
      OnlyChanges [.boot, .jrn] s t) ∧
  (∀ (s : State) (i : StartInfo), s.starting = true → s.boot.step = 4 → s.boot.tries < 2 →
    Completes (.startStepReady i) s fun t =>
      t.boot = (if s.imageOk s.boot.image
        then { s.boot with step := 5, tries := 0, alt := false, cause := 0, imageGood := true, fwVersion := leAt (s.imageHead s.boot.image) 12 4 }
        else { s.boot with tries := s.boot.tries + 1, cause := 1 }) ∧
      OnlyChanges [.boot, .jrn] s t) ∧
  (∀ (s : State) (i : StartInfo), s.starting = true → s.boot.step = 5 → s.boardOk s.boot.board = true →
    Completes (.startStepReady i) s fun t =>
      t.boot = { s.boot with step := 7, tries := 0, alt := false, cause := 0, values := i.board, boardDefault := false, endpointUp := true, ddrRate := t.boot.ddrRate } ∧
      t.boot.ddrRate = (match i.board.ddr with | some d => min s.jrn.core.ddrRate (min d.1 3) | none => min s.jrn.core.ddrRate 3) ∧
      t.pwr = { s.pwr with rails := i.board.rails, louts := i.board.louts } ∧
      (s.boot.tries = 0 → t.jrn.core.entries = s.jrn.core.entries ∧ t.jrn.core.total = s.jrn.core.total) ∧
      (s.boot.tries ≠ 0 → t.jrn.core.total = s.jrn.core.total + 1 ∧
        t.jrn.core.entries.getLast? = some (journalBytes t.jrn.core.start 5 1 s.boot.cause (s.boot.tries +
        1) (s.boot.board) i.ms)) ∧
      OnlyChanges [.boot, .jrn, .pwr] s t) ∧
  (∀ (s : State) (i : StartInfo), s.starting = true → s.boot.step = 5 → s.boardOk s.boot.board = false →
    s.boot.tries < 2 →
    Completes (.startStepReady i) s fun t =>
      t.boot = { s.boot with tries := s.boot.tries + 1, cause := 1 } ∧ OnlyChanges [.boot] s t) ∧
  (∀ (s : State) (i : StartInfo), s.starting = true → s.boot.step = 7 →
    (match s.boot.values.ddr with | none => true | some d => decide (32 < capacity d.2.1 d.2.2.1 d.2.2.2)) = true →
    Completes (.startStepReady i) s fun t =>
      t.boot = { s.boot with step := 8, tries := 0, alt := false, cause := 0 } ∧ t.mem.trained = true ∧
      t.mem.x8 = false ∧ t.mem.dense = true ∧ t.mem.gib = 32 ∧ t.mem.ranks = 0 ∧
      t.jrn.core.total = s.jrn.core.total + (if s.boot.tries = 0 then 1 else 2) ∧
      OnlyChanges [.boot, .jrn, .mem] s t) ∧
  (∀ (s : State) (i : StartInfo) (r : Nat) (x8 dense two : Bool), s.starting = true → s.boot.step = 7 →
    s.boot.values.ddr = some (r, x8, dense, two) → capacity x8 dense two ≤ 32 →
    Completes (.startStepReady i) s fun t =>
      t.boot = { s.boot with step := 8, tries := 0, alt := false, cause := 0 } ∧
      t.mem = { s.mem with trained := true, x8 := x8, dense := dense, ranks := b2n two, gib := capacity x8 dense two } ∧
      (s.boot.tries = 0 → t.jrn.core.entries = s.jrn.core.entries ∧ t.jrn.core.total = s.jrn.core.total) ∧
      (s.boot.tries ≠ 0 → t.jrn.core.total = s.jrn.core.total + 1 ∧
        t.jrn.core.entries.getLast? = some (journalBytes t.jrn.core.start 7 1 s.boot.cause (s.boot.tries +
        1) (s.boot.ddrRate) i.ms)) ∧
      OnlyChanges [.boot, .jrn, .mem] s t) ∧
  (∀ (s : State) (i : StartInfo), s.starting = true → s.boot.step = 8 →
    Completes (.startStepReady i) s fun t =>
      t.boot.step = 9 ∧ t.mem.filled = true ∧ t.mem.selfRefresh = false ∧
      (∀ k, t.ddrWord k = (if s.mem.selfRefresh then s.ddrWord k else 0)) ∧ (∀ k, t.owner k = 0) ∧
      (∀ k < 4, (t.pool k).free = (t.pool k).count ∧
        (t.pool k).count = (match s.boot.values.pools with | some c => if carveOk c then c.getD k (poolCount k) else poolCount k | none => poolCount k)) ∧
      OnlyChanges [.boot, .buf, .jrn, .mem, .pwr] s t) ∧
  (∀ (s : State) (i : StartInfo), s.starting = true → s.boot.step = 9 → s.selfTestFails i = [] →
    s.jrn.core.eng.Pairwise (fun a b => a.1 < b.1) →
    Completes (.startStepReady i) s fun t =>
      t.boot = { s.boot with step := 10, tries := 0, alt := false, cause := 0 } ∧
      (∀ e < 96, (t.eng e).st = (if sparseGet (fun _ => false) s.jrn.core.eng e then .retired else (s.eng e).st)) ∧
      (s.boot.tries = 0 → t.jrn.core.entries = s.jrn.core.entries ∧ t.jrn.core.total = s.jrn.core.total) ∧
      (s.boot.tries ≠ 0 → t.jrn.core.total = s.jrn.core.total + 1 ∧
        t.jrn.core.entries.getLast? = some (journalBytes t.jrn.core.start 9 1 s.boot.cause (s.boot.tries +
        1) (0) i.ms)) ∧
      OnlyChanges [.boot, .jrn, .vec] s t) ∧
  (∀ (s : State) (i : StartInfo), s.starting = true → s.boot.step = 9 → s.selfTestFails i ≠ [] → s.boot.tries < 2 →
    Completes (.startStepReady i) s fun t =>
      t.boot = { s.boot with tries := s.boot.tries + 1, cause := 1 } ∧ OnlyChanges [.boot] s t) ∧
  (∀ (s : State) (i : StartInfo), s.starting = true → s.boot.step = 10 → s.opticsMissing i = 0 →
    Completes (.startStepReady i) s fun t =>
      t.boot.mode = 1 ∧ t.boot.step = 12 ∧ t.boot.bringUp = true ∧ t.boot.committed = false ∧
      (∀ n < 4, s.boot.values.chans.testBit n = true → s.boot.skipCh.testBit n = false →
        t.flag (F.PON_RX_CFG_ENABLE n) = true) ∧
      (∀ m < 24, s.boot.values.macs.testBit m = true → t.flag (F.ETH_CFG_ENABLE m) = true) ∧ t.jrn.events = [] ∧
      t.jrn.core.entries.getLast? = some (journalBytes s.jrn.core.start 12 0 0 1 0 i.ms) ∧
      RegsKeptBut 0x00200000 0x03400000 s t ∧
      OnlyChanges [.pending, .out, .freeCtr, .regs, .cnt, .bank, .arb, .fns, .tick, .pon, .alloc, .bonding, .buf,
        .chan, .sched, .time, .clsIn, .vec, .svl, .testLanes, .mac, .lanes, .pwr, .mem, .ciph, .boot, .jrn] s t) ∧
  (∀ (s : State) (i : StartInfo), s.starting = true → s.boot.step = 10 → s.opticsMissing i ≠ 0 → s.boot.tries < 2 →
    Completes (.startStepReady i) s fun t =>
      t.boot = { s.boot with tries := s.boot.tries + 1, cause := 2 } ∧ OnlyChanges [.boot] s t) ∧
  (∀ (s : State) (i : StartInfo), s.starting = true → s.boot.step ∉ [0, 1, 2, 3, 4, 5, 7, 8, 9, 10] →
    exec (.startStepReady i) s = .next (s)) ∧
  (∀ (s : State) (i : StartInfo), s.starting = true → s.boot.step = 0 →
    Completes (.startStepTimeout i) s fun t =>
      t.boot = { s.boot with step := 1, tries := 1, alt := false, cause := i.cause.val } ∧
      t.jrn = { s.jrn with core := { s.jrn.core with start := (s.jrn.core.start + 1) % 2 ^ 32 } } ∧
      OnlyChanges [.boot, .jrn] s t) ∧
  (∀ (s : State) (i : StartInfo), s.starting = true → s.boot.step ≠ 0 → s.boot.tries < 2 →
    Completes (.startStepTimeout i) s fun t =>
      t.boot = { s.boot with tries := s.boot.tries + 1, cause := i.cause.val } ∧ OnlyChanges [.boot] s t) ∧
  (∀ (s : State) (i : StartInfo), s.starting = true → s.boot.step = 1 → 2 ≤ s.boot.tries →
    Completes (.startStepTimeout i) s fun t =>
      t.boot = { s.boot with held := true, faultN := true } ∧ .pin "FAULT_N" 0 false ∈ t.out ∧
      t.jrn.core.entries.getLast? = some (journalBytes t.jrn.core.start 1 5 i.cause.val 3 (0) i.ms) ∧
      OnlyChanges [.boot, .jrn, .out] s t) ∧
  (∀ (s : State) (i : StartInfo), s.starting = true → s.boot.step = 2 → 2 ≤ s.boot.tries →
    Completes (.startStepTimeout i) s fun t =>
      t.boot = { s.boot with step := 3, tries := 0, alt := false, cause := 0, image := 0, board := 0, ref := 0, ddrRate := 3 } ∧
      t.jrn.core.eng = [] ∧ t.jrn.core.image = 0 ∧ t.jrn.core.board = 0 ∧ t.jrn.core.ref = 0 ∧
        t.jrn.core.o7 = s.jrn.core.o7 ∧
      t.jrn.core.entries.getLast? = some (journalBytes t.jrn.core.start 2 3 i.cause.val 3 (0) i.ms) ∧
      OnlyChanges [.boot, .jrn, .out] s t) ∧
  (∀ (s : State) (i : StartInfo), s.starting = true → s.boot.step = 3 → 2 ≤ s.boot.tries → s.boot.alt = false →
    Completes (.startStepTimeout i) s fun t =>
      t.boot = { s.boot with ref := 1 - s.boot.ref, tries := 0, alt := true } ∧ t.jrn.core.ref = 1 - s.boot.ref ∧
      t.jrn.core.total = s.jrn.core.total + 1 ∧
      t.jrn.core.entries.getLast? = some (journalBytes t.jrn.core.start 3 2 i.cause.val 3 (s.boot.ref) i.ms) ∧
      OnlyChanges [.boot, .jrn, .out] s t) ∧
  (∀ (s : State) (i : StartInfo), s.starting = true → s.boot.step = 3 → 2 ≤ s.boot.tries → s.boot.alt = true →
    Completes (.startStepTimeout i) s fun t =>
      t.boot = { s.boot with held := true, faultN := true } ∧
      t.jrn.core.entries.getLast? = some (journalBytes t.jrn.core.start 3 5 i.cause.val 3 (s.boot.ref) i.ms) ∧
      OnlyChanges [.boot, .jrn, .out] s t) ∧
  (∀ (s : State) (i : StartInfo), s.starting = true → s.boot.step = 4 → 2 ≤ s.boot.tries → s.boot.alt = false →
    Completes (.startStepTimeout i) s fun t =>
      t.boot = { s.boot with image := 1 - s.boot.image, tries := 0, alt := true } ∧
      t.jrn.core.image = 1 - s.boot.image ∧
      t.jrn.core.entries.getLast? = some (journalBytes t.jrn.core.start 4 2 i.cause.val 3 (s.boot.image) i.ms) ∧
      OnlyChanges [.boot, .jrn, .out] s t) ∧
  (∀ (s : State) (i : StartInfo), s.starting = true → s.boot.step = 4 → 2 ≤ s.boot.tries → s.boot.alt = true →
    Completes (.startStepTimeout i) s fun t =>
      t.boot.mode = 2 ∧ t.boot.faultN = true ∧ t.boot.endpointUp = true ∧ t.boot.step = s.boot.step ∧
      t.jrn.core.entries.getLast? = some (journalBytes t.jrn.core.start 4 4 i.cause.val 3 (s.boot.image) i.ms) ∧
      RegsKeptIn [R.BOND_SAT, fun _ => R.BUF_SAT, R.ETH_SAT, R.PON_STAT_SAT, fun _ => R.SCH_SAT, R.SVL_SAT] s t ∧
      OnlyChanges [.regs, .cnt, .arb, .fns, .pon, .bonding, .buf, .sched, .clsIn, .svl, .mac, .lanes, .pwr, .boot,
        .jrn, .pending, .out, .freeCtr] s t) ∧
  (∀ (s : State) (i : StartInfo), s.starting = true → s.boot.step = 5 → 2 ≤ s.boot.tries → s.boot.alt = false →
    Completes (.startStepTimeout i) s fun t =>
      t.boot = { s.boot with board := 1 - s.boot.board, tries := 0, alt := true } ∧
      t.jrn.core.board = 1 - s.boot.board ∧
      t.jrn.core.entries.getLast? = some (journalBytes t.jrn.core.start 5 2 i.cause.val 3 (s.boot.board) i.ms) ∧
      OnlyChanges [.boot, .jrn, .out] s t) ∧
  (∀ (s : State) (i : StartInfo), s.starting = true → s.boot.step = 5 → 2 ≤ s.boot.tries → s.boot.alt = true →
    Completes (.startStepTimeout i) s fun t =>
      t.boot.mode = 2 ∧ t.boot.faultN = true ∧ t.boot.endpointUp = true ∧ t.boot.step = s.boot.step ∧
      t.boot.values = {} ∧ t.boot.boardDefault = true ∧
      t.jrn.core.entries.getLast? = some (journalBytes t.jrn.core.start 5 4 i.cause.val 3 (s.boot.board) i.ms) ∧
      RegsKeptIn [R.BOND_SAT, fun _ => R.BUF_SAT, R.ETH_SAT, R.PON_STAT_SAT, fun _ => R.SCH_SAT, R.SVL_SAT] s t ∧
      OnlyChanges [.regs, .cnt, .arb, .fns, .pon, .bonding, .buf, .sched, .clsIn, .svl, .mac, .lanes, .pwr, .boot,
        .jrn, .pending, .out, .freeCtr] s t) ∧
  (∀ (s : State) (i : StartInfo), s.starting = true → s.boot.step = 7 → 2 ≤ s.boot.tries → s.boot.ddrRate ≠ 0 →
    Completes (.startStepTimeout i) s fun t =>
      t.boot = { s.boot with ddrRate := s.boot.ddrRate - 1, tries := 0, alt := true } ∧
      t.jrn.core.ddrRate = s.boot.ddrRate - 1 ∧
      t.jrn.core.entries.getLast? = some (journalBytes t.jrn.core.start 7 2 i.cause.val 3 (s.boot.ddrRate) i.ms) ∧
      OnlyChanges [.boot, .jrn, .out] s t) ∧
  (∀ (s : State) (i : StartInfo), s.starting = true → s.boot.step = 7 → 2 ≤ s.boot.tries → s.boot.ddrRate = 0 →
    Completes (.startStepTimeout i) s fun t =>
      t.boot.mode = 2 ∧ t.boot.faultN = true ∧ t.boot.endpointUp = true ∧ t.boot.step = s.boot.step ∧
      t.jrn.core.entries.getLast? = some (journalBytes t.jrn.core.start 7 4 i.cause.val 3 (0) i.ms) ∧
      RegsKeptIn [R.BOND_SAT, fun _ => R.BUF_SAT, R.ETH_SAT, R.PON_STAT_SAT, fun _ => R.SCH_SAT, R.SVL_SAT] s t ∧
      OnlyChanges [.regs, .cnt, .arb, .fns, .pon, .bonding, .buf, .sched, .clsIn, .svl, .mac, .lanes, .pwr, .boot,
        .jrn, .pending, .out, .freeCtr] s t) ∧
  (∀ (s : State) (i : StartInfo), s.starting = true → s.boot.step = 8 → 2 ≤ s.boot.tries →
    Completes (.startStepTimeout i) s fun t =>
      t.boot.mode = 2 ∧ t.boot.faultN = true ∧ t.boot.endpointUp = true ∧ t.boot.step = s.boot.step ∧
      t.jrn.core.entries.getLast? = some (journalBytes t.jrn.core.start 8 4 i.cause.val 3 (0) i.ms) ∧
      RegsKeptIn [R.BOND_SAT, fun _ => R.BUF_SAT, R.ETH_SAT, R.PON_STAT_SAT, fun _ => R.SCH_SAT, R.SVL_SAT] s t ∧
      OnlyChanges [.regs, .cnt, .arb, .fns, .pon, .bonding, .buf, .sched, .clsIn, .svl, .mac, .lanes, .pwr, .boot,
        .jrn, .pending, .out, .freeCtr] s t) ∧
  (∀ (s : State) (i : StartInfo), s.starting = true → s.boot.step = 9 → 2 ≤ s.boot.tries →
    Completes (.startStepTimeout i) s fun t =>
      t.boot = { s.boot with step := 10, tries := 0, alt := false, cause := 0 } ∧
      (∀ e ∈ s.selfTestFails i, sparseGet (fun _ => false) t.jrn.core.eng e = true ∧ (t.eng e).st = .retired) ∧
      t.jrn.core.total = s.jrn.core.total + (s.selfTestFails i).length ∧ OnlyChanges [.boot, .jrn, .vec] s t) ∧
  (∀ (s : State) (i : StartInfo), s.starting = true → s.boot.step = 10 → 2 ≤ s.boot.tries →
    Completes (.startStepTimeout i) s fun t =>
      t.boot.mode = 1 ∧ t.boot.skipCh = s.opticsMissing i ∧ t.boot.step = 12 ∧
      (∀ n < 4, s.boot.values.chans.testBit n = true → (s.opticsMissing i).testBit n = false →
        t.flag (F.PON_RX_CFG_ENABLE n) = true) ∧
      t.jrn.core.total = s.jrn.core.total + (chansOf (s.opticsMissing i)).length + 1 ∧
      RegsKeptBut 0x00200000 0x03400000 s t ∧
      OnlyChanges [.pending, .out, .freeCtr, .regs, .cnt, .bank, .arb, .fns, .tick, .pon, .alloc, .bonding, .buf,
        .chan, .sched, .time, .clsIn, .vec, .svl, .testLanes, .mac, .lanes, .pwr, .mem, .ciph, .boot, .jrn] s t) ∧
  (∀ (s : State) (i : StartInfo), s.starting = true → 2 ≤ s.boot.tries →
    s.boot.step ∉ [0, 1, 2, 3, 4, 5, 7, 8, 9, 10] →
    exec (.startStepTimeout i) s = .next (s)) ∧
  (∀ (s : State) (porst tms tdi : Bool),
    (s.tck true porst tms tdi).tap = { s.tap with st := .testLogicReset, insn := .idcode, cells := none }) ∧
  (∀ (s : State) (porst tdi : Bool),
    ((((((s.tck false porst true tdi).tck false porst true tdi).tck false porst true tdi).tck false porst true tdi).tck false porst true tdi).tap.st =
      .testLogicReset)) ∧
  (∀ (s : State) (tms tdi : Bool),
    (s.tck false false tms tdi).tap.cells = none) ∧
  (∀ (s : State) (tms tdi porst : Bool), s.tap.st = .captureDr → s.tap.insn = .idcode →
    (s.tck false porst tms tdi).tap.dr = (List.range 32).map (fun i => idcode.getLsbD i))

/-- REGISTER_WRITE, the QSPI rows, JOURNAL_MIRROR_WRITE, JOURNAL_CLEAR, OPTIC_MONITORING_READ (R7, R8, R585 to
R603, R615). -/
def Obligations.RegistersFlashAndJournalAreWritten : Prop :=
  (∀ (s : State) (f : Fin 6) (off : BitVec 26) (v : Word) (r : RegSpec), s.access f.val off.toNat = 2 →
    0x03000000 ≤ off.toNat → off.toNat < 0x03380000 → off.toNat % 4 = 0 → regSpecAt off.toNat = some r →
    off.toNat ∉ [R.CLS_STAT_CTL, R.FWD_STAT_CTL, R.BUF_STAT_CTL, R.SCH_STAT_CTL] →
    Completes (.registerWrite f off v 0xF) s fun t =>
      t.rd off.toNat = (s.wr off.toNat (BitVec.ofNat 32 ((s.rd off.toNat).toNat - ((s.rd off.toNat).toNat &&& v.toNat &&& r.w1c)))).rwAfter off.toNat v.toNat ∧
      RegsKept [off.toNat] s t ∧ OnlyChanges [.regs] s t) ∧
  (∀ (s : State) (f : Fin 6) (off : BitVec 26) (v : Word), s.access f.val (off.toNat / 4 * 4) = 2 →
    regDefined f.val (off.toNat / 4 * 4) = true → s.poweredOff (off.toNat / 4 * 4) = false →
    (0x1000 ≤ off.toNat / 4 * 4 ∧ off.toNat / 4 * 4 < 0x2000 → (s.fn f.val).resetting = false) →
    exec (.registerWrite f off v 0xF) s =
      .next (s.writeReg f.val (off.toNat / 4 * 4) (s.writeValue (off.toNat / 4 * 4) v.toNat))) ∧
  (∀ (s : State) (f : Fin 6) (off : BitVec 26) (v : Word) (be : BitVec 4),
    (s.access f.val (off.toNat / 4 * 4) = 1 ∨ s.access f.val (off.toNat / 4 * 4) = 0 ∨
      regDefined f.val (off.toNat / 4 * 4) = false ∨ be ≠ 0xF ∨ s.poweredOff (off.toNat / 4 * 4) = true) →
    (0x1000 ≤ off.toNat / 4 * 4 ∧ off.toNat / 4 * 4 < 0x2000 → (s.fn f.val).resetting = false) →
    Completes (.registerWrite f off v be) s fun t =>
      (s.access f.val (off.toNat / 4 * 4) = 1 → t.flag (F.HOST_ACC_ERR_VIEW f.val) = true) ∧
      (s.access f.val (off.toNat / 4 * 4) = 0 ∨ regDefined f.val (off.toNat / 4 * 4) = false →
        t.flag (F.HOST_ACC_ERR_UNMAPPED f.val) = true) ∧
      (be ≠ 0xF → t.flag (F.HOST_ACC_ERR_PARTIAL f.val) = true) ∧
      (s.access f.val (off.toNat / 4 * 4) ≠ 0 ∧
        s.poweredOff (off.toNat / 4 * 4) = true → t.flag (F.HOST_ACC_ERR_POWERED_OFF f.val) = true) ∧
      (t.fn f.val).accErrOffset = off.toNat / 4 ∧ RegsKept [R.HOST_ACC_ERR f.val] s t ∧
      OnlyChanges [.regs, .fns] s t) ∧
  (∀ (s : State) (f : Fin 6) (off : BitVec 26) (v : Word) (be : BitVec 4), 0x1000 ≤ off.toNat → off.toNat < 0x2000 →
    (s.fn f.val).resetting = true →
    exec (.registerWrite f off v be) s = .next (s)) ∧
  (∀ (s : State) (f : Fin 6) (v : Word),
    exec (.registerWrite f 0x1018 v 0xF) s = exec (.cmdTailWrite f v) s) ∧
  (∀ (s : State) (f : Fin 6) (v : Word),
    exec (.registerWrite f 0x102C v 0xF) s = exec (.rplRdWrite f v) s) ∧
  (∀ (s : State) (f : Fin 6) (v : Word),
    exec (.registerWrite f 0x103C v 0xF) s = exec (.evtRdWrite f v) s) ∧
  (∀ (s : State) (f : Fin 6) (v : Word),
    exec (.registerWrite f 0x1000 v 0xF) s = exec (.ringCfgWrite f v) s) ∧
  (∀ (s : State) (n : Fin 4) (v : Word), s.boot.mode = 2 →
    Completes (.registerWrite 1 (BitVec.ofNat 26 (R.PON_RX_CFG n.val)) v 0xF) s fun t =>
      t.flag (F.PON_RX_CFG_ENABLE n.val) = false ∧
      RegsKeptIn [R.BOND_SAT, fun _ => R.BUF_SAT, R.ETH_SAT, R.LANE_STATUS,
        fun i => R.LANE_TXFIR (i / 1024) (i % 1024), R.PON_RX_CFG, R.PON_STAT_SAT, R.PON_TC_SAT, fun _ => R.SCH_SAT,
        R.SVL_SAT] s t ∧
      OnlyChanges [.regs, .cnt, .arb, .fns, .tick, .pon, .alloc, .bonding, .buf, .sched, .clsIn, .svl, .mac, .lanes,
        .out, .freeCtr] s t) ∧
  (∀ (s : State) (n : Fin 4) (v : Word), s.boot.mode = 2 →
    Completes (.registerWrite 2 (BitVec.ofNat 26 (R.SVL_PORT_CFG n.val)) v 0xF) s fun t =>
      t.flag (F.SVL_PORT_CFG_ENABLE n.val) = false ∧
      RegsKeptIn [R.BOND_SAT, fun _ => R.BUF_SAT, R.ETH_SAT, R.LANE_STATUS,
        fun i => R.LANE_TXFIR (i / 1024) (i % 1024), R.PON_RX_CFG, R.PON_STAT_SAT, R.PON_TC_SAT, fun _ => R.SCH_SAT,
        R.SVL_SAT] s t ∧
      OnlyChanges [.regs, .cnt, .arb, .fns, .tick, .pon, .alloc, .bonding, .buf, .sched, .clsIn, .svl, .mac, .lanes,
        .out, .freeCtr] s t) ∧
  (∀ (s : State) (n : Fin 24) (v : Word), s.boot.mode = 2 →
    Completes (.registerWrite 3 (BitVec.ofNat 26 (R.ETH_CFG n.val)) v 0xF) s fun t =>
      t.flag (F.ETH_CFG_ENABLE n.val) = false ∧ RegsKeptIn [R.ETH_CFG, R.ETH_SAT, R.SVL_SAT] s t ∧
      OnlyChanges [.regs, .cnt, .arb, .fns, .svl, .mac, .lanes, .freeCtr] s t) ∧
  (∀ (s : State), s.boot.qspiOp = 0 →
    exec (.qspiRead 0) s = .next ({ s with boot := { s.boot with qspiOp := 1, qspiAddr := s.fld F.BOOT_QSPI_ADDR_ADDR } })) ∧
  (∀ (s : State), s.boot.qspiOp ≠ 0 →
    exec (.qspiRead 0) s = .next ({ s with boot := { s.boot with qspiWait := s.boot.qspiWait ++ [(1, s.fld F.BOOT_QSPI_ADDR_ADDR)] } })) ∧
  (∀ (s : State), s.boot.qspiOp = 0 → s.fld F.BOOT_QSPI_ADDR_ADDR % 256 = 0 →
    touchesMirror (s.fld F.BOOT_QSPI_ADDR_ADDR) 256 = false →
    exec (.qspiProgram 0) s = .next ({ s with boot := { s.boot with qspiOp := 2, qspiAddr := s.fld F.BOOT_QSPI_ADDR_ADDR } })) ∧
  (∀ (s : State), s.boot.qspiOp ≠ 0 → s.fld F.BOOT_QSPI_ADDR_ADDR % 256 = 0 →
    touchesMirror (s.fld F.BOOT_QSPI_ADDR_ADDR) 256 = false →
    exec (.qspiProgram 0) s = .next ({ s with boot := { s.boot with qspiWait := s.boot.qspiWait ++ [(2, s.fld F.BOOT_QSPI_ADDR_ADDR)] } })) ∧
  (∀ (s : State), (s.fld F.BOOT_QSPI_ADDR_ADDR % 256 ≠ 0 ∨ touchesMirror (s.fld F.BOOT_QSPI_ADDR_ADDR) 256 = true) →
    Completes (.qspiProgram 0) s fun t =>
      t.flag F.BOOT_QSPI_CMD_REFUSED = true ∧ RegsKept [R.BOOT_QSPI_CMD] s t ∧ OnlyChanges [.regs] s t) ∧
  (∀ (s : State), s.boot.qspiOp = 0 → s.fld F.BOOT_QSPI_ADDR_ADDR % 65536 = 0 →
    touchesMirror (s.fld F.BOOT_QSPI_ADDR_ADDR) 65536 = false →
    exec (.qspiErase 0) s = .next ({ s with boot := { s.boot with qspiOp := 3, qspiAddr := s.fld F.BOOT_QSPI_ADDR_ADDR } })) ∧
  (∀ (s : State), s.boot.qspiOp ≠ 0 → s.fld F.BOOT_QSPI_ADDR_ADDR % 65536 = 0 →
    touchesMirror (s.fld F.BOOT_QSPI_ADDR_ADDR) 65536 = false →
    exec (.qspiErase 0) s = .next ({ s with boot := { s.boot with qspiWait := s.boot.qspiWait ++ [(3, s.fld F.BOOT_QSPI_ADDR_ADDR)] } })) ∧
  (∀ (s : State),
    (s.fld F.BOOT_QSPI_ADDR_ADDR % 65536 ≠ 0 ∨ touchesMirror (s.fld F.BOOT_QSPI_ADDR_ADDR) 65536 = true) →
    Completes (.qspiErase 0) s fun t =>
      t.flag F.BOOT_QSPI_CMD_REFUSED = true ∧ RegsKept [R.BOOT_QSPI_CMD] s t ∧ OnlyChanges [.regs] s t) ∧
  (∀ (s : State) (f : Fin 6), f.val ≠ 0 →
    Completes (.qspiRead f) s fun t =>
      t.flag (F.HOST_ACC_ERR_UNMAPPED f.val) = true ∧ (t.fn f.val).accErrOffset = R.BOOT_QSPI_CMD / 4 ∧
      RegsKept [R.HOST_ACC_ERR f.val] s t ∧ OnlyChanges [.regs, .fns] s t) ∧
  (∀ (s : State) (f : Fin 6), f.val ≠ 0 →
    Completes (.qspiProgram f) s fun t =>
      t.flag (F.HOST_ACC_ERR_UNMAPPED f.val) = true ∧ (t.fn f.val).accErrOffset = R.BOOT_QSPI_CMD / 4 ∧
      RegsKept [R.HOST_ACC_ERR f.val] s t ∧ OnlyChanges [.regs, .fns] s t) ∧
  (∀ (s : State) (f : Fin 6), f.val ≠ 0 →
    Completes (.qspiErase f) s fun t =>
      t.flag (F.HOST_ACC_ERR_UNMAPPED f.val) = true ∧ (t.fn f.val).accErrOffset = R.BOOT_QSPI_CMD / 4 ∧
      RegsKept [R.HOST_ACC_ERR f.val] s t ∧ OnlyChanges [.regs, .fns] s t) ∧
  (∀ (s : State), s.boot.qspiOp = 1 →
    Completes (.qspiOpDone false) s fun t =>
      (∀ k < 64, t.rd (R.BOOT_QSPI_DATA k) = BitVec.ofNat 32 (ofLe (s.flashBytes (s.boot.qspiAddr + 4 * k) 4))) ∧
      t.boot = s.qspiNext.boot ∧ RegsKept ((List.range 64).map R.BOOT_QSPI_DATA) s t ∧
      OnlyChanges [.boot, .regs] s t) ∧
  (∀ (s : State), s.boot.qspiOp = 2 → touchesMirror s.boot.qspiAddr 256 = false →
    Completes (.qspiOpDone false) s fun t =>
      (∀ k, t.flashAt k = (if s.boot.qspiAddr ≤ k ∧
        k < s.boot.qspiAddr + 256 then BitVec.ofNat 8 ((s.rd (R.BOOT_QSPI_DATA ((k - s.boot.qspiAddr) / 4))).toNat >>> (8 *
        ((k - s.boot.qspiAddr) % 4))) else s.flashAt k)) ∧
      t.boot = { s.qspiNext.boot with flash := t.boot.flash } ∧ OnlyChanges [.boot] s t) ∧
  (∀ (s : State), s.boot.qspiOp = 3 → touchesMirror s.boot.qspiAddr 65536 = false →
    Completes (.qspiOpDone false) s fun t =>
      (∀ k, t.flashAt k = (if s.boot.qspiAddr ≤ k ∧ k < s.boot.qspiAddr + 65536 then 0xFF else s.flashAt k)) ∧
      t.boot = { s.qspiNext.boot with flash := t.boot.flash } ∧ OnlyChanges [.boot] s t) ∧
  (∀ (s : State), s.boot.qspiOp ≠ 0 → s.boot.qspiWait = [] →
    Completes (.qspiOpDone true) s fun t =>
      t.flag F.BOOT_QSPI_CMD_ERROR = true ∧ t.boot = { s.boot with qspiOp := 0 } ∧ RegsKept [R.BOOT_QSPI_CMD] s t ∧
      OnlyChanges [.boot, .regs] s t) ∧
  (∀ (s : State) (op a : Nat) (l : List (Nat × Nat)), s.boot.qspiOp ≠ 0 → s.boot.qspiWait = (op, a) :: l →
    Completes (.qspiOpDone true) s fun t =>
      t.flag F.BOOT_QSPI_CMD_ERROR = true ∧ t.boot = { s.boot with qspiOp := op, qspiAddr := a, qspiWait := l } ∧
      RegsKept [R.BOOT_QSPI_CMD] s t ∧ OnlyChanges [.boot, .regs] s t) ∧
  (∀ (s : State) (e : Bool), s.boot.qspiOp = 0 → s.boot.qspiWait = [] →
    exec (.qspiOpDone e) s = .next (s)) ∧
  (∀ (s : State), s.jrn.mirrorDue = true → s.boot.qspiOp = 0 →
    Completes (.journalMirrorWrite true) s fun t =>
      (∃ n, sparseGet (fun _ => none) t.jrn.mirror s.jrn.older = some (n, s.jrn.core) ∧
        (∀ m c k, sparseGet (fun _ => none) s.jrn.mirror k = some (m, c) → k < 2 → m < n)) ∧
      (∀ k, k ≠ s.jrn.older → sparseGet (fun _ => none) t.jrn.mirror k = sparseGet (fun _ => none) s.jrn.mirror k) ∧
      t.jrn = { s.jrn with mirror := t.jrn.mirror, mirrorDue := false } ∧ OnlyChanges [.jrn] s t) ∧
  (∀ (s : State), s.jrn.mirrorDue = true → s.boot.qspiOp = 0 →
    Completes (.journalMirrorWrite false) s fun t =>
      t.flag F.PWR_JRN_STATUS_MIRROR_FAIL = true ∧ t.jrn.mirror = s.jrn.mirror ∧ t.jrn.mirrorDue = false ∧
      RegsKept [R.PWR_JRN_STATUS] s t ∧ OnlyChanges [.arb, .jrn, .regs] s t) ∧
  (∀ (s : State) (ok : Bool), (s.jrn.mirrorDue = false ∨ s.boot.qspiOp ≠ 0) →
    exec (.journalMirrorWrite ok) s = .next (s)) ∧
  (∀ (s : State),
    exec (.journalClear 0) s = .next ({ s with jrn := { s.jrn with clearDue := true } })) ∧
  (∀ (s : State) (f : Fin 6), f.val ≠ 0 →
    Completes (.journalClear f) s fun t =>
      t.flag (F.HOST_ACC_ERR_UNMAPPED f.val) = true ∧ (t.fn f.val).accErrOffset = R.PWR_JRN_CLEAR / 4 ∧
      RegsKept [R.HOST_ACC_ERR f.val] s t ∧ OnlyChanges [.regs, .fns] s t) ∧
  (∀ (s : State) (c : Fin 4),
    exec (.opticMonitoringRead c) s = .next ({ s with out := .pulse "RSSI_TRIG" c.val :: s.out }))
end

