-- ==== Sys2Proof/Laws/Sparse.lean ====
section
/-! SUPPORT. Laws of the stores: a read after a write, and the canonical form that every operation keeps. -/

namespace Sys2Proof.Machine

variable {α : Type}

theorem sparseGet_nil (d : Nat → α) (k : Nat) : sparseGet d [] k = d k := rfl

theorem sparseGet_of_not_mem (d : Nat → α) (m : Sparse α) (k : Nat) (h : ∀ p ∈ m, p.1 ≠ k) :
    sparseGet d m k = d k := by
  induction m with
  | nil => rfl
  | cons p m ih =>
    obtain ⟨j, v⟩ := p
    have hj : j ≠ k := h (j, v) (by simp)
    simp only [sparseGet, if_neg hj]
    exact ih (fun q hq => h q (List.mem_cons_of_mem _ hq))

theorem mem_sparseDel {m : Sparse α} {k : Nat} {p : Nat × α} :
    p ∈ sparseDel m k ↔ p ∈ m ∧ p.1 ≠ k := by
  induction m with
  | nil => simp [sparseDel]
  | cons q m ih =>
    obtain ⟨j, v⟩ := q
    by_cases hj : j = k
    · simp only [sparseDel, if_pos hj, ih, List.mem_cons]
      constructor
      · rintro ⟨h1, h2⟩; exact ⟨.inr h1, h2⟩
      · rintro ⟨rfl | h1, h2⟩
        · exact absurd hj h2
        · exact ⟨h1, h2⟩
    · simp only [sparseDel, if_neg hj, List.mem_cons, ih]
      constructor
      · rintro (rfl | ⟨h1, h2⟩)
        · exact ⟨.inl rfl, hj⟩
        · exact ⟨.inr h1, h2⟩
      · rintro ⟨rfl | h1, h2⟩
        · exact .inl rfl
        · exact .inr ⟨h1, h2⟩

theorem mem_sparseIns {m : Sparse α} {k : Nat} {v : α} {p : Nat × α} :
    p ∈ sparseIns m k v ↔ p = (k, v) ∨ p ∈ m := by
  induction m with
  | nil => simp [sparseIns]
  | cons q m ih =>
    obtain ⟨j, w⟩ := q
    by_cases hj : k < j
    · simp [sparseIns, hj]
    · simp only [sparseIns, if_neg hj, List.mem_cons, ih]
      tauto

theorem sparseGet_sparseDel (d : Nat → α) (m : Sparse α) (k j : Nat) :
    sparseGet d (sparseDel m k) j = if j = k then d j else sparseGet d m j := by
  induction m with
  | nil => simp [sparseDel, sparseGet]
  | cons q m ih =>
    obtain ⟨i, w⟩ := q
    by_cases hi : i = k
    · simp only [sparseDel, if_pos hi, ih, sparseGet]
      by_cases hj : j = k
      · simp [hj]
      · have : i ≠ j := fun e => hj (e.symm.trans hi)
        simp [hj, this]
    · simp only [sparseDel, if_neg hi, sparseGet, ih]
      by_cases hij : i = j
      · have : j ≠ k := fun e => hi (hij.trans e)
        simp [hij, this]
      · simp [hij]

theorem sparseGet_sparseIns (d : Nat → α) (m : Sparse α) (k j : Nat) (v : α) (h : ∀ p ∈ m, p.1 ≠ k) :
    sparseGet d (sparseIns m k v) j = if j = k then v else sparseGet d m j := by
  induction m with
  | nil =>
    by_cases hj : j = k
    · simp [sparseIns, sparseGet, hj]
    · have : k ≠ j := fun e => hj e.symm
      simp [sparseIns, sparseGet, hj, this]
  | cons q m ih =>
    obtain ⟨i, w⟩ := q
    have hi : i ≠ k := h (i, w) (by simp)
    have hm : ∀ p ∈ m, p.1 ≠ k := fun p hp => h p (List.mem_cons_of_mem _ hp)
    by_cases hlt : k < i
    · by_cases hj : j = k
      · simp [sparseIns, hlt, sparseGet, hj]
      · have : k ≠ j := fun e => hj e.symm
        simp [sparseIns, hlt, sparseGet, hj, this]
    · simp only [sparseIns, if_neg hlt, sparseGet, ih hm]
      by_cases hij : i = j
      · have : j ≠ k := fun e => hi (hij.trans e)
        simp [hij, this]
      · simp [hij]

/-- A read after a write: the value written at the number written, the old value at every other. -/
@[simp] theorem sparseGet_sparseSet [DecidableEq α] (d : Nat → α) (m : Sparse α) (k j : Nat) (v : α) :
    sparseGet d (sparseSet d m k v) j = if j = k then v else sparseGet d m j := by
  unfold sparseSet
  by_cases hv : v = d k
  · rw [if_pos hv, sparseGet_sparseDel]
    by_cases hj : j = k
    · simp [hj, hv]
    · simp [hj]
  · rw [if_neg hv, sparseGet_sparseIns d _ k j v (fun p hp => (mem_sparseDel.mp hp).2), sparseGet_sparseDel]
    by_cases hj : j = k <;> simp [hj]

theorem sparseWf_nil [DecidableEq α] (d : Nat → α) : sparseWf d ([] : Sparse α) = true := by
  simp [sparseWf]

theorem sparseWf_iff [DecidableEq α] (d : Nat → α) (m : Sparse α) :
    sparseWf d m = true ↔ m.Pairwise (fun a b => a.1 < b.1) ∧ ∀ p ∈ m, p.2 ≠ d p.1 := by
  simp [sparseWf]

theorem sparseDel_sublist (m : Sparse α) (k : Nat) : (sparseDel m k).Sublist m := by
  induction m with
  | nil => exact List.Sublist.refl _
  | cons q m ih =>
    obtain ⟨j, v⟩ := q
    by_cases hj : j = k
    · simpa [sparseDel, hj] using ih.cons _
    · simpa [sparseDel, hj] using ih

theorem sparseIns_pairwise (m : Sparse α) (k : Nat) (v : α) (h : m.Pairwise (fun a b => a.1 < b.1))
    (hk : ∀ p ∈ m, p.1 ≠ k) : (sparseIns m k v).Pairwise (fun a b => a.1 < b.1) := by
  induction m with
  | nil => simp [sparseIns]
  | cons q m ih =>
    obtain ⟨i, w⟩ := q
    rw [List.pairwise_cons] at h
    by_cases hlt : k < i
    · simp only [sparseIns, if_pos hlt]
      refine List.pairwise_cons.mpr ⟨fun a ha => ?_, List.pairwise_cons.mpr h⟩
      rcases List.mem_cons.mp ha with rfl | ha
      · exact hlt
      · exact lt_trans hlt (h.1 a ha)
    · simp only [sparseIns, if_neg hlt]
      refine List.pairwise_cons.mpr ⟨fun a ha => ?_, ih h.2 (fun p hp => hk p (List.mem_cons_of_mem _ hp))⟩
      rcases mem_sparseIns.mp ha with rfl | ha
      · have := hk (i, w) (by simp)
        simp only at this ⊢
        omega
      · exact h.1 a ha

/-- A write keeps the canonical form. -/
theorem sparseWf_sparseSet [DecidableEq α] (d : Nat → α) (m : Sparse α) (k : Nat) (v : α)
    (h : sparseWf d m = true) : sparseWf d (sparseSet d m k v) = true := by
  rw [sparseWf_iff] at h ⊢
  have hs := sparseDel_sublist m k
  have hp := h.1.sublist hs
  unfold sparseSet
  split
  · exact ⟨hp, fun p hpm => h.2 p (hs.subset hpm)⟩
  · rename_i hv
    refine ⟨sparseIns_pairwise _ k v hp (fun p hpm => (mem_sparseDel.mp hpm).2), fun p hpm => ?_⟩
    rcases mem_sparseIns.mp hpm with rfl | hpm
    · exact hv
    · exact h.2 p (hs.subset hpm)

/-- Changing every entry keeps the canonical form. -/
theorem sparseWf_sparseMap [DecidableEq α] (d : Nat → α) (f : Nat → α → α) (m : Sparse α)
    (h : sparseWf d m = true) : sparseWf d (sparseMap d f m) = true := by
  rw [sparseWf_iff] at h ⊢
  refine ⟨?_, fun p hp => ?_⟩
  · refine List.Pairwise.filterMap _ (fun a b hab x hx y hy => ?_) h.1
    simp only [Option.ite_none_left_eq_some, Option.some.injEq] at hx hy
    obtain ⟨-, rfl⟩ := hx
    obtain ⟨-, rfl⟩ := hy
    exact hab
  · simp only [sparseMap, List.mem_filterMap, Option.ite_none_left_eq_some, Option.some.injEq] at hp
    obtain ⟨a, -, h1, rfl⟩ := hp
    exact h1

/-- Leaving entries out keeps the canonical form. -/
theorem sparseWf_filter [DecidableEq α] (d : Nat → α) (m : Sparse α) (q : Nat × α → Bool)
    (h : sparseWf d m = true) : sparseWf d (m.filter q) = true := by
  rw [sparseWf_iff] at h ⊢
  exact ⟨h.1.sublist List.filter_sublist, fun p hp => h.2 p (List.mem_filter.mp hp).1⟩

end Sys2Proof.Machine
end

