-- ==== Sys2Proof/Laws/State.lean ====
section
/-! SUPPORT. What each update of the state leaves as it was, one lemma per field per update, and what it writes: the block
it names and no other. -/

namespace Sys2Proof.Machine

variable (s : State)

@[simp] theorem State.wr_pending (off : Nat) (v : Word) : (s.wr off v).pending = s.pending := (rfl)
@[simp] theorem State.wr_out (off : Nat) (v : Word) : (s.wr off v).out = s.out := (rfl)
@[simp] theorem State.wr_freeCtr (off : Nat) (v : Word) : (s.wr off v).freeCtr = s.freeCtr := (rfl)
@[simp] theorem State.wr_cmdId (off : Nat) (v : Word) : (s.wr off v).cmdId = s.cmdId := (rfl)
@[simp] theorem State.wr_cnt (off : Nat) (v : Word) : (s.wr off v).cnt = s.cnt := (rfl)
@[simp] theorem State.wr_bank (off : Nat) (v : Word) : (s.wr off v).bank = s.bank := (rfl)
@[simp] theorem State.wr_arb (off : Nat) (v : Word) : (s.wr off v).arb = s.arb := (rfl)
@[simp] theorem State.wr_fns (off : Nat) (v : Word) : (s.wr off v).fns = s.fns := (rfl)
@[simp] theorem State.wr_tick (off : Nat) (v : Word) : (s.wr off v).tick = s.tick := (rfl)
@[simp] theorem State.wr_pon (off : Nat) (v : Word) : (s.wr off v).pon = s.pon := (rfl)
@[simp] theorem State.wr_alloc (off : Nat) (v : Word) : (s.wr off v).alloc = s.alloc := (rfl)
@[simp] theorem State.wr_bonding (off : Nat) (v : Word) : (s.wr off v).bonding = s.bonding := (rfl)
@[simp] theorem State.wr_buf (off : Nat) (v : Word) : (s.wr off v).buf = s.buf := (rfl)
@[simp] theorem State.wr_chan (off : Nat) (v : Word) : (s.wr off v).chan = s.chan := (rfl)
@[simp] theorem State.wr_sched (off : Nat) (v : Word) : (s.wr off v).sched = s.sched := (rfl)
@[simp] theorem State.wr_time (off : Nat) (v : Word) : (s.wr off v).time = s.time := (rfl)
@[simp] theorem State.wr_clsIn (off : Nat) (v : Word) : (s.wr off v).clsIn = s.clsIn := (rfl)
@[simp] theorem State.wr_cls (off : Nat) (v : Word) : (s.wr off v).cls = s.cls := (rfl)
@[simp] theorem State.wr_fwd (off : Nat) (v : Word) : (s.wr off v).fwd = s.fwd := (rfl)
@[simp] theorem State.wr_running (off : Nat) (v : Word) : (s.wr off v).running = s.running := (rfl)
@[simp] theorem State.wr_vec (off : Nat) (v : Word) : (s.wr off v).vec = s.vec := (rfl)
@[simp] theorem State.wr_svl (off : Nat) (v : Word) : (s.wr off v).svl = s.svl := (rfl)
@[simp] theorem State.wr_testLanes (off : Nat) (v : Word) : (s.wr off v).testLanes = s.testLanes := (rfl)
@[simp] theorem State.wr_mac (off : Nat) (v : Word) : (s.wr off v).mac = s.mac := (rfl)
@[simp] theorem State.wr_lanes (off : Nat) (v : Word) : (s.wr off v).lanes = s.lanes := (rfl)
@[simp] theorem State.wr_pwr (off : Nat) (v : Word) : (s.wr off v).pwr = s.pwr := (rfl)
@[simp] theorem State.wr_mem (off : Nat) (v : Word) : (s.wr off v).mem = s.mem := (rfl)
@[simp] theorem State.wr_ciph (off : Nat) (v : Word) : (s.wr off v).ciph = s.ciph := (rfl)
@[simp] theorem State.wr_boot (off : Nat) (v : Word) : (s.wr off v).boot = s.boot := (rfl)
@[simp] theorem State.wr_jrn (off : Nat) (v : Word) : (s.wr off v).jrn = s.jrn := (rfl)
@[simp] theorem State.wr_tap (off : Nat) (v : Word) : (s.wr off v).tap = s.tap := (rfl)

@[simp] theorem State.setFld_pending (f : Fld) (v : Nat) : (s.setFld f v).pending = s.pending := (rfl)
@[simp] theorem State.setFld_out (f : Fld) (v : Nat) : (s.setFld f v).out = s.out := (rfl)
@[simp] theorem State.setFld_freeCtr (f : Fld) (v : Nat) : (s.setFld f v).freeCtr = s.freeCtr := (rfl)
@[simp] theorem State.setFld_cmdId (f : Fld) (v : Nat) : (s.setFld f v).cmdId = s.cmdId := (rfl)
@[simp] theorem State.setFld_cnt (f : Fld) (v : Nat) : (s.setFld f v).cnt = s.cnt := (rfl)
@[simp] theorem State.setFld_bank (f : Fld) (v : Nat) : (s.setFld f v).bank = s.bank := (rfl)
@[simp] theorem State.setFld_arb (f : Fld) (v : Nat) : (s.setFld f v).arb = s.arb := (rfl)
@[simp] theorem State.setFld_fns (f : Fld) (v : Nat) : (s.setFld f v).fns = s.fns := (rfl)
@[simp] theorem State.setFld_tick (f : Fld) (v : Nat) : (s.setFld f v).tick = s.tick := (rfl)
@[simp] theorem State.setFld_pon (f : Fld) (v : Nat) : (s.setFld f v).pon = s.pon := (rfl)
@[simp] theorem State.setFld_alloc (f : Fld) (v : Nat) : (s.setFld f v).alloc = s.alloc := (rfl)
@[simp] theorem State.setFld_bonding (f : Fld) (v : Nat) : (s.setFld f v).bonding = s.bonding := (rfl)
@[simp] theorem State.setFld_buf (f : Fld) (v : Nat) : (s.setFld f v).buf = s.buf := (rfl)
@[simp] theorem State.setFld_chan (f : Fld) (v : Nat) : (s.setFld f v).chan = s.chan := (rfl)
@[simp] theorem State.setFld_sched (f : Fld) (v : Nat) : (s.setFld f v).sched = s.sched := (rfl)
@[simp] theorem State.setFld_time (f : Fld) (v : Nat) : (s.setFld f v).time = s.time := (rfl)
@[simp] theorem State.setFld_clsIn (f : Fld) (v : Nat) : (s.setFld f v).clsIn = s.clsIn := (rfl)
@[simp] theorem State.setFld_cls (f : Fld) (v : Nat) : (s.setFld f v).cls = s.cls := (rfl)
@[simp] theorem State.setFld_fwd (f : Fld) (v : Nat) : (s.setFld f v).fwd = s.fwd := (rfl)
@[simp] theorem State.setFld_running (f : Fld) (v : Nat) : (s.setFld f v).running = s.running := (rfl)
@[simp] theorem State.setFld_vec (f : Fld) (v : Nat) : (s.setFld f v).vec = s.vec := (rfl)
@[simp] theorem State.setFld_svl (f : Fld) (v : Nat) : (s.setFld f v).svl = s.svl := (rfl)
@[simp] theorem State.setFld_testLanes (f : Fld) (v : Nat) : (s.setFld f v).testLanes = s.testLanes := (rfl)
@[simp] theorem State.setFld_mac (f : Fld) (v : Nat) : (s.setFld f v).mac = s.mac := (rfl)
@[simp] theorem State.setFld_lanes (f : Fld) (v : Nat) : (s.setFld f v).lanes = s.lanes := (rfl)
@[simp] theorem State.setFld_pwr (f : Fld) (v : Nat) : (s.setFld f v).pwr = s.pwr := (rfl)
@[simp] theorem State.setFld_mem (f : Fld) (v : Nat) : (s.setFld f v).mem = s.mem := (rfl)
@[simp] theorem State.setFld_ciph (f : Fld) (v : Nat) : (s.setFld f v).ciph = s.ciph := (rfl)
@[simp] theorem State.setFld_boot (f : Fld) (v : Nat) : (s.setFld f v).boot = s.boot := (rfl)
@[simp] theorem State.setFld_jrn (f : Fld) (v : Nat) : (s.setFld f v).jrn = s.jrn := (rfl)
@[simp] theorem State.setFld_tap (f : Fld) (v : Nat) : (s.setFld f v).tap = s.tap := (rfl)

@[simp] theorem State.emit_pending (o : Output) : (s.emit o).pending = s.pending := (rfl)
@[simp] theorem State.emit_freeCtr (o : Output) : (s.emit o).freeCtr = s.freeCtr := (rfl)
@[simp] theorem State.emit_cmdId (o : Output) : (s.emit o).cmdId = s.cmdId := (rfl)
@[simp] theorem State.emit_regs (o : Output) : (s.emit o).regs = s.regs := (rfl)
@[simp] theorem State.emit_cnt (o : Output) : (s.emit o).cnt = s.cnt := (rfl)
@[simp] theorem State.emit_bank (o : Output) : (s.emit o).bank = s.bank := (rfl)
@[simp] theorem State.emit_arb (o : Output) : (s.emit o).arb = s.arb := (rfl)
@[simp] theorem State.emit_fns (o : Output) : (s.emit o).fns = s.fns := (rfl)
@[simp] theorem State.emit_tick (o : Output) : (s.emit o).tick = s.tick := (rfl)
@[simp] theorem State.emit_pon (o : Output) : (s.emit o).pon = s.pon := (rfl)
@[simp] theorem State.emit_alloc (o : Output) : (s.emit o).alloc = s.alloc := (rfl)
@[simp] theorem State.emit_bonding (o : Output) : (s.emit o).bonding = s.bonding := (rfl)
@[simp] theorem State.emit_buf (o : Output) : (s.emit o).buf = s.buf := (rfl)
@[simp] theorem State.emit_chan (o : Output) : (s.emit o).chan = s.chan := (rfl)
@[simp] theorem State.emit_sched (o : Output) : (s.emit o).sched = s.sched := (rfl)
@[simp] theorem State.emit_time (o : Output) : (s.emit o).time = s.time := (rfl)
@[simp] theorem State.emit_clsIn (o : Output) : (s.emit o).clsIn = s.clsIn := (rfl)
@[simp] theorem State.emit_cls (o : Output) : (s.emit o).cls = s.cls := (rfl)
@[simp] theorem State.emit_fwd (o : Output) : (s.emit o).fwd = s.fwd := (rfl)
@[simp] theorem State.emit_running (o : Output) : (s.emit o).running = s.running := (rfl)
@[simp] theorem State.emit_vec (o : Output) : (s.emit o).vec = s.vec := (rfl)
@[simp] theorem State.emit_svl (o : Output) : (s.emit o).svl = s.svl := (rfl)
@[simp] theorem State.emit_testLanes (o : Output) : (s.emit o).testLanes = s.testLanes := (rfl)
@[simp] theorem State.emit_mac (o : Output) : (s.emit o).mac = s.mac := (rfl)
@[simp] theorem State.emit_lanes (o : Output) : (s.emit o).lanes = s.lanes := (rfl)
@[simp] theorem State.emit_pwr (o : Output) : (s.emit o).pwr = s.pwr := (rfl)
@[simp] theorem State.emit_mem (o : Output) : (s.emit o).mem = s.mem := (rfl)
@[simp] theorem State.emit_ciph (o : Output) : (s.emit o).ciph = s.ciph := (rfl)
@[simp] theorem State.emit_boot (o : Output) : (s.emit o).boot = s.boot := (rfl)
@[simp] theorem State.emit_jrn (o : Output) : (s.emit o).jrn = s.jrn := (rfl)
@[simp] theorem State.emit_tap (o : Output) : (s.emit o).tap = s.tap := (rfl)

@[simp] theorem State.nextFree_pending : (s.nextFree).pending = s.pending := (rfl)
@[simp] theorem State.nextFree_out : (s.nextFree).out = s.out := (rfl)
@[simp] theorem State.nextFree_cmdId : (s.nextFree).cmdId = s.cmdId := (rfl)
@[simp] theorem State.nextFree_regs : (s.nextFree).regs = s.regs := (rfl)
@[simp] theorem State.nextFree_cnt : (s.nextFree).cnt = s.cnt := (rfl)
@[simp] theorem State.nextFree_bank : (s.nextFree).bank = s.bank := (rfl)
@[simp] theorem State.nextFree_arb : (s.nextFree).arb = s.arb := (rfl)
@[simp] theorem State.nextFree_fns : (s.nextFree).fns = s.fns := (rfl)
@[simp] theorem State.nextFree_tick : (s.nextFree).tick = s.tick := (rfl)
@[simp] theorem State.nextFree_pon : (s.nextFree).pon = s.pon := (rfl)
@[simp] theorem State.nextFree_alloc : (s.nextFree).alloc = s.alloc := (rfl)
@[simp] theorem State.nextFree_bonding : (s.nextFree).bonding = s.bonding := (rfl)
@[simp] theorem State.nextFree_buf : (s.nextFree).buf = s.buf := (rfl)
@[simp] theorem State.nextFree_chan : (s.nextFree).chan = s.chan := (rfl)
@[simp] theorem State.nextFree_sched : (s.nextFree).sched = s.sched := (rfl)
@[simp] theorem State.nextFree_time : (s.nextFree).time = s.time := (rfl)
@[simp] theorem State.nextFree_clsIn : (s.nextFree).clsIn = s.clsIn := (rfl)
@[simp] theorem State.nextFree_cls : (s.nextFree).cls = s.cls := (rfl)
@[simp] theorem State.nextFree_fwd : (s.nextFree).fwd = s.fwd := (rfl)
@[simp] theorem State.nextFree_running : (s.nextFree).running = s.running := (rfl)
@[simp] theorem State.nextFree_vec : (s.nextFree).vec = s.vec := (rfl)
@[simp] theorem State.nextFree_svl : (s.nextFree).svl = s.svl := (rfl)
@[simp] theorem State.nextFree_testLanes : (s.nextFree).testLanes = s.testLanes := (rfl)
@[simp] theorem State.nextFree_mac : (s.nextFree).mac = s.mac := (rfl)
@[simp] theorem State.nextFree_lanes : (s.nextFree).lanes = s.lanes := (rfl)
@[simp] theorem State.nextFree_pwr : (s.nextFree).pwr = s.pwr := (rfl)
@[simp] theorem State.nextFree_mem : (s.nextFree).mem = s.mem := (rfl)
@[simp] theorem State.nextFree_ciph : (s.nextFree).ciph = s.ciph := (rfl)
@[simp] theorem State.nextFree_boot : (s.nextFree).boot = s.boot := (rfl)
@[simp] theorem State.nextFree_jrn : (s.nextFree).jrn = s.jrn := (rfl)
@[simp] theorem State.nextFree_tap : (s.nextFree).tap = s.tap := (rfl)

@[simp] theorem State.setSource_pending (src : Nat) (q : EvSource) : (s.setSource src q).pending = s.pending := (rfl)
@[simp] theorem State.setSource_out (src : Nat) (q : EvSource) : (s.setSource src q).out = s.out := (rfl)
@[simp] theorem State.setSource_freeCtr (src : Nat) (q : EvSource) : (s.setSource src q).freeCtr = s.freeCtr := (rfl)
@[simp] theorem State.setSource_cmdId (src : Nat) (q : EvSource) : (s.setSource src q).cmdId = s.cmdId := (rfl)
@[simp] theorem State.setSource_regs (src : Nat) (q : EvSource) : (s.setSource src q).regs = s.regs := (rfl)
@[simp] theorem State.setSource_cnt (src : Nat) (q : EvSource) : (s.setSource src q).cnt = s.cnt := (rfl)
@[simp] theorem State.setSource_bank (src : Nat) (q : EvSource) : (s.setSource src q).bank = s.bank := (rfl)
@[simp] theorem State.setSource_fns (src : Nat) (q : EvSource) : (s.setSource src q).fns = s.fns := (rfl)
@[simp] theorem State.setSource_tick (src : Nat) (q : EvSource) : (s.setSource src q).tick = s.tick := (rfl)
@[simp] theorem State.setSource_pon (src : Nat) (q : EvSource) : (s.setSource src q).pon = s.pon := (rfl)
@[simp] theorem State.setSource_alloc (src : Nat) (q : EvSource) : (s.setSource src q).alloc = s.alloc := (rfl)
@[simp] theorem State.setSource_bonding (src : Nat) (q : EvSource) : (s.setSource src q).bonding = s.bonding := (rfl)
@[simp] theorem State.setSource_buf (src : Nat) (q : EvSource) : (s.setSource src q).buf = s.buf := (rfl)
@[simp] theorem State.setSource_chan (src : Nat) (q : EvSource) : (s.setSource src q).chan = s.chan := (rfl)
@[simp] theorem State.setSource_sched (src : Nat) (q : EvSource) : (s.setSource src q).sched = s.sched := (rfl)
@[simp] theorem State.setSource_time (src : Nat) (q : EvSource) : (s.setSource src q).time = s.time := (rfl)
@[simp] theorem State.setSource_clsIn (src : Nat) (q : EvSource) : (s.setSource src q).clsIn = s.clsIn := (rfl)
@[simp] theorem State.setSource_cls (src : Nat) (q : EvSource) : (s.setSource src q).cls = s.cls := (rfl)
@[simp] theorem State.setSource_fwd (src : Nat) (q : EvSource) : (s.setSource src q).fwd = s.fwd := (rfl)
@[simp] theorem State.setSource_running (src : Nat) (q : EvSource) : (s.setSource src q).running = s.running := (rfl)
@[simp] theorem State.setSource_vec (src : Nat) (q : EvSource) : (s.setSource src q).vec = s.vec := (rfl)
@[simp] theorem State.setSource_svl (src : Nat) (q : EvSource) : (s.setSource src q).svl = s.svl := (rfl)
@[simp] theorem State.setSource_testLanes (src : Nat) (q : EvSource) : (s.setSource src q).testLanes = s.testLanes := (rfl)
@[simp] theorem State.setSource_mac (src : Nat) (q : EvSource) : (s.setSource src q).mac = s.mac := (rfl)
@[simp] theorem State.setSource_lanes (src : Nat) (q : EvSource) : (s.setSource src q).lanes = s.lanes := (rfl)
@[simp] theorem State.setSource_pwr (src : Nat) (q : EvSource) : (s.setSource src q).pwr = s.pwr := (rfl)
@[simp] theorem State.setSource_mem (src : Nat) (q : EvSource) : (s.setSource src q).mem = s.mem := (rfl)
@[simp] theorem State.setSource_ciph (src : Nat) (q : EvSource) : (s.setSource src q).ciph = s.ciph := (rfl)
@[simp] theorem State.setSource_boot (src : Nat) (q : EvSource) : (s.setSource src q).boot = s.boot := (rfl)
@[simp] theorem State.setSource_jrn (src : Nat) (q : EvSource) : (s.setSource src q).jrn = s.jrn := (rfl)
@[simp] theorem State.setSource_tap (src : Nat) (q : EvSource) : (s.setSource src q).tap = s.tap := (rfl)

@[simp] theorem State.setCount_pending (c : Ctr) (v : Nat) : (s.setCount c v).pending = s.pending := (rfl)
@[simp] theorem State.setCount_out (c : Ctr) (v : Nat) : (s.setCount c v).out = s.out := (rfl)
@[simp] theorem State.setCount_freeCtr (c : Ctr) (v : Nat) : (s.setCount c v).freeCtr = s.freeCtr := (rfl)
@[simp] theorem State.setCount_cmdId (c : Ctr) (v : Nat) : (s.setCount c v).cmdId = s.cmdId := (rfl)
@[simp] theorem State.setCount_regs (c : Ctr) (v : Nat) : (s.setCount c v).regs = s.regs := (rfl)
@[simp] theorem State.setCount_bank (c : Ctr) (v : Nat) : (s.setCount c v).bank = s.bank := (rfl)
@[simp] theorem State.setCount_arb (c : Ctr) (v : Nat) : (s.setCount c v).arb = s.arb := (rfl)
@[simp] theorem State.setCount_fns (c : Ctr) (v : Nat) : (s.setCount c v).fns = s.fns := (rfl)
@[simp] theorem State.setCount_tick (c : Ctr) (v : Nat) : (s.setCount c v).tick = s.tick := (rfl)
@[simp] theorem State.setCount_pon (c : Ctr) (v : Nat) : (s.setCount c v).pon = s.pon := (rfl)
@[simp] theorem State.setCount_alloc (c : Ctr) (v : Nat) : (s.setCount c v).alloc = s.alloc := (rfl)
@[simp] theorem State.setCount_bonding (c : Ctr) (v : Nat) : (s.setCount c v).bonding = s.bonding := (rfl)
@[simp] theorem State.setCount_buf (c : Ctr) (v : Nat) : (s.setCount c v).buf = s.buf := (rfl)
@[simp] theorem State.setCount_chan (c : Ctr) (v : Nat) : (s.setCount c v).chan = s.chan := (rfl)
@[simp] theorem State.setCount_sched (c : Ctr) (v : Nat) : (s.setCount c v).sched = s.sched := (rfl)
@[simp] theorem State.setCount_time (c : Ctr) (v : Nat) : (s.setCount c v).time = s.time := (rfl)
@[simp] theorem State.setCount_clsIn (c : Ctr) (v : Nat) : (s.setCount c v).clsIn = s.clsIn := (rfl)
@[simp] theorem State.setCount_cls (c : Ctr) (v : Nat) : (s.setCount c v).cls = s.cls := (rfl)
@[simp] theorem State.setCount_fwd (c : Ctr) (v : Nat) : (s.setCount c v).fwd = s.fwd := (rfl)
@[simp] theorem State.setCount_running (c : Ctr) (v : Nat) : (s.setCount c v).running = s.running := (rfl)
@[simp] theorem State.setCount_vec (c : Ctr) (v : Nat) : (s.setCount c v).vec = s.vec := (rfl)
@[simp] theorem State.setCount_svl (c : Ctr) (v : Nat) : (s.setCount c v).svl = s.svl := (rfl)
@[simp] theorem State.setCount_testLanes (c : Ctr) (v : Nat) : (s.setCount c v).testLanes = s.testLanes := (rfl)
@[simp] theorem State.setCount_mac (c : Ctr) (v : Nat) : (s.setCount c v).mac = s.mac := (rfl)
@[simp] theorem State.setCount_lanes (c : Ctr) (v : Nat) : (s.setCount c v).lanes = s.lanes := (rfl)
@[simp] theorem State.setCount_pwr (c : Ctr) (v : Nat) : (s.setCount c v).pwr = s.pwr := (rfl)
@[simp] theorem State.setCount_mem (c : Ctr) (v : Nat) : (s.setCount c v).mem = s.mem := (rfl)
@[simp] theorem State.setCount_ciph (c : Ctr) (v : Nat) : (s.setCount c v).ciph = s.ciph := (rfl)
@[simp] theorem State.setCount_boot (c : Ctr) (v : Nat) : (s.setCount c v).boot = s.boot := (rfl)
@[simp] theorem State.setCount_jrn (c : Ctr) (v : Nat) : (s.setCount c v).jrn = s.jrn := (rfl)
@[simp] theorem State.setCount_tap (c : Ctr) (v : Nat) : (s.setCount c v).tap = s.tap := (rfl)

@[simp] theorem State.setBank_pending (off v : Nat) : (s.setBank off v).pending = s.pending := (rfl)
@[simp] theorem State.setBank_out (off v : Nat) : (s.setBank off v).out = s.out := (rfl)
@[simp] theorem State.setBank_freeCtr (off v : Nat) : (s.setBank off v).freeCtr = s.freeCtr := (rfl)
@[simp] theorem State.setBank_cmdId (off v : Nat) : (s.setBank off v).cmdId = s.cmdId := (rfl)
@[simp] theorem State.setBank_regs (off v : Nat) : (s.setBank off v).regs = s.regs := (rfl)
@[simp] theorem State.setBank_cnt (off v : Nat) : (s.setBank off v).cnt = s.cnt := (rfl)
@[simp] theorem State.setBank_arb (off v : Nat) : (s.setBank off v).arb = s.arb := (rfl)
@[simp] theorem State.setBank_fns (off v : Nat) : (s.setBank off v).fns = s.fns := (rfl)
@[simp] theorem State.setBank_tick (off v : Nat) : (s.setBank off v).tick = s.tick := (rfl)
@[simp] theorem State.setBank_pon (off v : Nat) : (s.setBank off v).pon = s.pon := (rfl)
@[simp] theorem State.setBank_alloc (off v : Nat) : (s.setBank off v).alloc = s.alloc := (rfl)
@[simp] theorem State.setBank_bonding (off v : Nat) : (s.setBank off v).bonding = s.bonding := (rfl)
@[simp] theorem State.setBank_buf (off v : Nat) : (s.setBank off v).buf = s.buf := (rfl)
@[simp] theorem State.setBank_chan (off v : Nat) : (s.setBank off v).chan = s.chan := (rfl)
@[simp] theorem State.setBank_sched (off v : Nat) : (s.setBank off v).sched = s.sched := (rfl)
@[simp] theorem State.setBank_time (off v : Nat) : (s.setBank off v).time = s.time := (rfl)
@[simp] theorem State.setBank_clsIn (off v : Nat) : (s.setBank off v).clsIn = s.clsIn := (rfl)
@[simp] theorem State.setBank_cls (off v : Nat) : (s.setBank off v).cls = s.cls := (rfl)
@[simp] theorem State.setBank_fwd (off v : Nat) : (s.setBank off v).fwd = s.fwd := (rfl)
@[simp] theorem State.setBank_running (off v : Nat) : (s.setBank off v).running = s.running := (rfl)
@[simp] theorem State.setBank_vec (off v : Nat) : (s.setBank off v).vec = s.vec := (rfl)
@[simp] theorem State.setBank_svl (off v : Nat) : (s.setBank off v).svl = s.svl := (rfl)
@[simp] theorem State.setBank_testLanes (off v : Nat) : (s.setBank off v).testLanes = s.testLanes := (rfl)
@[simp] theorem State.setBank_mac (off v : Nat) : (s.setBank off v).mac = s.mac := (rfl)
@[simp] theorem State.setBank_lanes (off v : Nat) : (s.setBank off v).lanes = s.lanes := (rfl)
@[simp] theorem State.setBank_pwr (off v : Nat) : (s.setBank off v).pwr = s.pwr := (rfl)
@[simp] theorem State.setBank_mem (off v : Nat) : (s.setBank off v).mem = s.mem := (rfl)
@[simp] theorem State.setBank_ciph (off v : Nat) : (s.setBank off v).ciph = s.ciph := (rfl)
@[simp] theorem State.setBank_boot (off v : Nat) : (s.setBank off v).boot = s.boot := (rfl)
@[simp] theorem State.setBank_jrn (off v : Nat) : (s.setBank off v).jrn = s.jrn := (rfl)
@[simp] theorem State.setBank_tap (off v : Nat) : (s.setBank off v).tap = s.tap := (rfl)

@[simp] theorem State.setFn_pending (f : Nat) (h : HostFn) : (s.setFn f h).pending = s.pending := (rfl)
@[simp] theorem State.setFn_out (f : Nat) (h : HostFn) : (s.setFn f h).out = s.out := (rfl)
@[simp] theorem State.setFn_freeCtr (f : Nat) (h : HostFn) : (s.setFn f h).freeCtr = s.freeCtr := (rfl)
@[simp] theorem State.setFn_cmdId (f : Nat) (h : HostFn) : (s.setFn f h).cmdId = s.cmdId := (rfl)
@[simp] theorem State.setFn_regs (f : Nat) (h : HostFn) : (s.setFn f h).regs = s.regs := (rfl)
@[simp] theorem State.setFn_cnt (f : Nat) (h : HostFn) : (s.setFn f h).cnt = s.cnt := (rfl)
@[simp] theorem State.setFn_bank (f : Nat) (h : HostFn) : (s.setFn f h).bank = s.bank := (rfl)
@[simp] theorem State.setFn_arb (f : Nat) (h : HostFn) : (s.setFn f h).arb = s.arb := (rfl)
@[simp] theorem State.setFn_tick (f : Nat) (h : HostFn) : (s.setFn f h).tick = s.tick := (rfl)
@[simp] theorem State.setFn_pon (f : Nat) (h : HostFn) : (s.setFn f h).pon = s.pon := (rfl)
@[simp] theorem State.setFn_alloc (f : Nat) (h : HostFn) : (s.setFn f h).alloc = s.alloc := (rfl)
@[simp] theorem State.setFn_bonding (f : Nat) (h : HostFn) : (s.setFn f h).bonding = s.bonding := (rfl)
@[simp] theorem State.setFn_buf (f : Nat) (h : HostFn) : (s.setFn f h).buf = s.buf := (rfl)
@[simp] theorem State.setFn_chan (f : Nat) (h : HostFn) : (s.setFn f h).chan = s.chan := (rfl)
@[simp] theorem State.setFn_sched (f : Nat) (h : HostFn) : (s.setFn f h).sched = s.sched := (rfl)
@[simp] theorem State.setFn_time (f : Nat) (h : HostFn) : (s.setFn f h).time = s.time := (rfl)
@[simp] theorem State.setFn_clsIn (f : Nat) (h : HostFn) : (s.setFn f h).clsIn = s.clsIn := (rfl)
@[simp] theorem State.setFn_cls (f : Nat) (h : HostFn) : (s.setFn f h).cls = s.cls := (rfl)
@[simp] theorem State.setFn_fwd (f : Nat) (h : HostFn) : (s.setFn f h).fwd = s.fwd := (rfl)
@[simp] theorem State.setFn_running (f : Nat) (h : HostFn) : (s.setFn f h).running = s.running := (rfl)
@[simp] theorem State.setFn_vec (f : Nat) (h : HostFn) : (s.setFn f h).vec = s.vec := (rfl)
@[simp] theorem State.setFn_svl (f : Nat) (h : HostFn) : (s.setFn f h).svl = s.svl := (rfl)
@[simp] theorem State.setFn_testLanes (f : Nat) (h : HostFn) : (s.setFn f h).testLanes = s.testLanes := (rfl)
@[simp] theorem State.setFn_mac (f : Nat) (h : HostFn) : (s.setFn f h).mac = s.mac := (rfl)
@[simp] theorem State.setFn_lanes (f : Nat) (h : HostFn) : (s.setFn f h).lanes = s.lanes := (rfl)
@[simp] theorem State.setFn_pwr (f : Nat) (h : HostFn) : (s.setFn f h).pwr = s.pwr := (rfl)
@[simp] theorem State.setFn_mem (f : Nat) (h : HostFn) : (s.setFn f h).mem = s.mem := (rfl)
@[simp] theorem State.setFn_ciph (f : Nat) (h : HostFn) : (s.setFn f h).ciph = s.ciph := (rfl)
@[simp] theorem State.setFn_boot (f : Nat) (h : HostFn) : (s.setFn f h).boot = s.boot := (rfl)
@[simp] theorem State.setFn_jrn (f : Nat) (h : HostFn) : (s.setFn f h).jrn = s.jrn := (rfl)
@[simp] theorem State.setFn_tap (f : Nat) (h : HostFn) : (s.setFn f h).tap = s.tap := (rfl)

@[simp] theorem State.setLatch_pending (f off v : Nat) : (s.setLatch f off v).pending = s.pending := (rfl)
@[simp] theorem State.setLatch_out (f off v : Nat) : (s.setLatch f off v).out = s.out := (rfl)
@[simp] theorem State.setLatch_freeCtr (f off v : Nat) : (s.setLatch f off v).freeCtr = s.freeCtr := (rfl)
@[simp] theorem State.setLatch_cmdId (f off v : Nat) : (s.setLatch f off v).cmdId = s.cmdId := (rfl)
@[simp] theorem State.setLatch_regs (f off v : Nat) : (s.setLatch f off v).regs = s.regs := (rfl)
@[simp] theorem State.setLatch_cnt (f off v : Nat) : (s.setLatch f off v).cnt = s.cnt := (rfl)
@[simp] theorem State.setLatch_bank (f off v : Nat) : (s.setLatch f off v).bank = s.bank := (rfl)
@[simp] theorem State.setLatch_arb (f off v : Nat) : (s.setLatch f off v).arb = s.arb := (rfl)
@[simp] theorem State.setLatch_tick (f off v : Nat) : (s.setLatch f off v).tick = s.tick := (rfl)
@[simp] theorem State.setLatch_pon (f off v : Nat) : (s.setLatch f off v).pon = s.pon := (rfl)
@[simp] theorem State.setLatch_alloc (f off v : Nat) : (s.setLatch f off v).alloc = s.alloc := (rfl)
@[simp] theorem State.setLatch_bonding (f off v : Nat) : (s.setLatch f off v).bonding = s.bonding := (rfl)
@[simp] theorem State.setLatch_buf (f off v : Nat) : (s.setLatch f off v).buf = s.buf := (rfl)
@[simp] theorem State.setLatch_chan (f off v : Nat) : (s.setLatch f off v).chan = s.chan := (rfl)
@[simp] theorem State.setLatch_sched (f off v : Nat) : (s.setLatch f off v).sched = s.sched := (rfl)
@[simp] theorem State.setLatch_time (f off v : Nat) : (s.setLatch f off v).time = s.time := (rfl)
@[simp] theorem State.setLatch_clsIn (f off v : Nat) : (s.setLatch f off v).clsIn = s.clsIn := (rfl)
@[simp] theorem State.setLatch_cls (f off v : Nat) : (s.setLatch f off v).cls = s.cls := (rfl)
@[simp] theorem State.setLatch_fwd (f off v : Nat) : (s.setLatch f off v).fwd = s.fwd := (rfl)
@[simp] theorem State.setLatch_running (f off v : Nat) : (s.setLatch f off v).running = s.running := (rfl)
@[simp] theorem State.setLatch_vec (f off v : Nat) : (s.setLatch f off v).vec = s.vec := (rfl)
@[simp] theorem State.setLatch_svl (f off v : Nat) : (s.setLatch f off v).svl = s.svl := (rfl)
@[simp] theorem State.setLatch_testLanes (f off v : Nat) : (s.setLatch f off v).testLanes = s.testLanes := (rfl)
@[simp] theorem State.setLatch_mac (f off v : Nat) : (s.setLatch f off v).mac = s.mac := (rfl)
@[simp] theorem State.setLatch_lanes (f off v : Nat) : (s.setLatch f off v).lanes = s.lanes := (rfl)
@[simp] theorem State.setLatch_pwr (f off v : Nat) : (s.setLatch f off v).pwr = s.pwr := (rfl)
@[simp] theorem State.setLatch_mem (f off v : Nat) : (s.setLatch f off v).mem = s.mem := (rfl)
@[simp] theorem State.setLatch_ciph (f off v : Nat) : (s.setLatch f off v).ciph = s.ciph := (rfl)
@[simp] theorem State.setLatch_boot (f off v : Nat) : (s.setLatch f off v).boot = s.boot := (rfl)
@[simp] theorem State.setLatch_jrn (f off v : Nat) : (s.setLatch f off v).jrn = s.jrn := (rfl)
@[simp] theorem State.setLatch_tap (f off v : Nat) : (s.setLatch f off v).tap = s.tap := (rfl)

@[simp] theorem State.answer_pending (f v : Nat) : (s.answer f v).pending = s.pending := (rfl)
@[simp] theorem State.answer_out (f v : Nat) : (s.answer f v).out = s.out := (rfl)
@[simp] theorem State.answer_freeCtr (f v : Nat) : (s.answer f v).freeCtr = s.freeCtr := (rfl)
@[simp] theorem State.answer_cmdId (f v : Nat) : (s.answer f v).cmdId = s.cmdId := (rfl)
@[simp] theorem State.answer_regs (f v : Nat) : (s.answer f v).regs = s.regs := (rfl)
@[simp] theorem State.answer_cnt (f v : Nat) : (s.answer f v).cnt = s.cnt := (rfl)
@[simp] theorem State.answer_bank (f v : Nat) : (s.answer f v).bank = s.bank := (rfl)
@[simp] theorem State.answer_arb (f v : Nat) : (s.answer f v).arb = s.arb := (rfl)
@[simp] theorem State.answer_tick (f v : Nat) : (s.answer f v).tick = s.tick := (rfl)
@[simp] theorem State.answer_pon (f v : Nat) : (s.answer f v).pon = s.pon := (rfl)
@[simp] theorem State.answer_alloc (f v : Nat) : (s.answer f v).alloc = s.alloc := (rfl)
@[simp] theorem State.answer_bonding (f v : Nat) : (s.answer f v).bonding = s.bonding := (rfl)
@[simp] theorem State.answer_buf (f v : Nat) : (s.answer f v).buf = s.buf := (rfl)
@[simp] theorem State.answer_chan (f v : Nat) : (s.answer f v).chan = s.chan := (rfl)
@[simp] theorem State.answer_sched (f v : Nat) : (s.answer f v).sched = s.sched := (rfl)
@[simp] theorem State.answer_time (f v : Nat) : (s.answer f v).time = s.time := (rfl)
@[simp] theorem State.answer_clsIn (f v : Nat) : (s.answer f v).clsIn = s.clsIn := (rfl)
@[simp] theorem State.answer_cls (f v : Nat) : (s.answer f v).cls = s.cls := (rfl)
@[simp] theorem State.answer_fwd (f v : Nat) : (s.answer f v).fwd = s.fwd := (rfl)
@[simp] theorem State.answer_running (f v : Nat) : (s.answer f v).running = s.running := (rfl)
@[simp] theorem State.answer_vec (f v : Nat) : (s.answer f v).vec = s.vec := (rfl)
@[simp] theorem State.answer_svl (f v : Nat) : (s.answer f v).svl = s.svl := (rfl)
@[simp] theorem State.answer_testLanes (f v : Nat) : (s.answer f v).testLanes = s.testLanes := (rfl)
@[simp] theorem State.answer_mac (f v : Nat) : (s.answer f v).mac = s.mac := (rfl)
@[simp] theorem State.answer_lanes (f v : Nat) : (s.answer f v).lanes = s.lanes := (rfl)
@[simp] theorem State.answer_pwr (f v : Nat) : (s.answer f v).pwr = s.pwr := (rfl)
@[simp] theorem State.answer_mem (f v : Nat) : (s.answer f v).mem = s.mem := (rfl)
@[simp] theorem State.answer_ciph (f v : Nat) : (s.answer f v).ciph = s.ciph := (rfl)
@[simp] theorem State.answer_boot (f v : Nat) : (s.answer f v).boot = s.boot := (rfl)
@[simp] theorem State.answer_jrn (f v : Nat) : (s.answer f v).jrn = s.jrn := (rfl)
@[simp] theorem State.answer_tap (f v : Nat) : (s.answer f v).tap = s.tap := (rfl)

@[simp] theorem State.setCh_pending (n : Nat) (c : PonCh) : (s.setCh n c).pending = s.pending := (rfl)
@[simp] theorem State.setCh_out (n : Nat) (c : PonCh) : (s.setCh n c).out = s.out := (rfl)
@[simp] theorem State.setCh_freeCtr (n : Nat) (c : PonCh) : (s.setCh n c).freeCtr = s.freeCtr := (rfl)
@[simp] theorem State.setCh_cmdId (n : Nat) (c : PonCh) : (s.setCh n c).cmdId = s.cmdId := (rfl)
@[simp] theorem State.setCh_regs (n : Nat) (c : PonCh) : (s.setCh n c).regs = s.regs := (rfl)
@[simp] theorem State.setCh_cnt (n : Nat) (c : PonCh) : (s.setCh n c).cnt = s.cnt := (rfl)
@[simp] theorem State.setCh_bank (n : Nat) (c : PonCh) : (s.setCh n c).bank = s.bank := (rfl)
@[simp] theorem State.setCh_arb (n : Nat) (c : PonCh) : (s.setCh n c).arb = s.arb := (rfl)
@[simp] theorem State.setCh_fns (n : Nat) (c : PonCh) : (s.setCh n c).fns = s.fns := (rfl)
@[simp] theorem State.setCh_tick (n : Nat) (c : PonCh) : (s.setCh n c).tick = s.tick := (rfl)
@[simp] theorem State.setCh_alloc (n : Nat) (c : PonCh) : (s.setCh n c).alloc = s.alloc := (rfl)
@[simp] theorem State.setCh_bonding (n : Nat) (c : PonCh) : (s.setCh n c).bonding = s.bonding := (rfl)
@[simp] theorem State.setCh_buf (n : Nat) (c : PonCh) : (s.setCh n c).buf = s.buf := (rfl)
@[simp] theorem State.setCh_chan (n : Nat) (c : PonCh) : (s.setCh n c).chan = s.chan := (rfl)
@[simp] theorem State.setCh_sched (n : Nat) (c : PonCh) : (s.setCh n c).sched = s.sched := (rfl)
@[simp] theorem State.setCh_time (n : Nat) (c : PonCh) : (s.setCh n c).time = s.time := (rfl)
@[simp] theorem State.setCh_clsIn (n : Nat) (c : PonCh) : (s.setCh n c).clsIn = s.clsIn := (rfl)
@[simp] theorem State.setCh_cls (n : Nat) (c : PonCh) : (s.setCh n c).cls = s.cls := (rfl)
@[simp] theorem State.setCh_fwd (n : Nat) (c : PonCh) : (s.setCh n c).fwd = s.fwd := (rfl)
@[simp] theorem State.setCh_running (n : Nat) (c : PonCh) : (s.setCh n c).running = s.running := (rfl)
@[simp] theorem State.setCh_vec (n : Nat) (c : PonCh) : (s.setCh n c).vec = s.vec := (rfl)
@[simp] theorem State.setCh_svl (n : Nat) (c : PonCh) : (s.setCh n c).svl = s.svl := (rfl)
@[simp] theorem State.setCh_testLanes (n : Nat) (c : PonCh) : (s.setCh n c).testLanes = s.testLanes := (rfl)
@[simp] theorem State.setCh_mac (n : Nat) (c : PonCh) : (s.setCh n c).mac = s.mac := (rfl)
@[simp] theorem State.setCh_lanes (n : Nat) (c : PonCh) : (s.setCh n c).lanes = s.lanes := (rfl)
@[simp] theorem State.setCh_pwr (n : Nat) (c : PonCh) : (s.setCh n c).pwr = s.pwr := (rfl)
@[simp] theorem State.setCh_mem (n : Nat) (c : PonCh) : (s.setCh n c).mem = s.mem := (rfl)
@[simp] theorem State.setCh_ciph (n : Nat) (c : PonCh) : (s.setCh n c).ciph = s.ciph := (rfl)
@[simp] theorem State.setCh_boot (n : Nat) (c : PonCh) : (s.setCh n c).boot = s.boot := (rfl)
@[simp] theorem State.setCh_jrn (n : Nat) (c : PonCh) : (s.setCh n c).jrn = s.jrn := (rfl)
@[simp] theorem State.setCh_tap (n : Nat) (c : PonCh) : (s.setCh n c).tap = s.tap := (rfl)

@[simp] theorem State.setAlloc_pending (i : Nat) (a : AllocCtx) : (s.setAlloc i a).pending = s.pending := (rfl)
@[simp] theorem State.setAlloc_out (i : Nat) (a : AllocCtx) : (s.setAlloc i a).out = s.out := (rfl)
@[simp] theorem State.setAlloc_freeCtr (i : Nat) (a : AllocCtx) : (s.setAlloc i a).freeCtr = s.freeCtr := (rfl)
@[simp] theorem State.setAlloc_cmdId (i : Nat) (a : AllocCtx) : (s.setAlloc i a).cmdId = s.cmdId := (rfl)
@[simp] theorem State.setAlloc_regs (i : Nat) (a : AllocCtx) : (s.setAlloc i a).regs = s.regs := (rfl)
@[simp] theorem State.setAlloc_cnt (i : Nat) (a : AllocCtx) : (s.setAlloc i a).cnt = s.cnt := (rfl)
@[simp] theorem State.setAlloc_bank (i : Nat) (a : AllocCtx) : (s.setAlloc i a).bank = s.bank := (rfl)
@[simp] theorem State.setAlloc_arb (i : Nat) (a : AllocCtx) : (s.setAlloc i a).arb = s.arb := (rfl)
@[simp] theorem State.setAlloc_fns (i : Nat) (a : AllocCtx) : (s.setAlloc i a).fns = s.fns := (rfl)
@[simp] theorem State.setAlloc_tick (i : Nat) (a : AllocCtx) : (s.setAlloc i a).tick = s.tick := (rfl)
@[simp] theorem State.setAlloc_pon (i : Nat) (a : AllocCtx) : (s.setAlloc i a).pon = s.pon := (rfl)
@[simp] theorem State.setAlloc_bonding (i : Nat) (a : AllocCtx) : (s.setAlloc i a).bonding = s.bonding := (rfl)
@[simp] theorem State.setAlloc_buf (i : Nat) (a : AllocCtx) : (s.setAlloc i a).buf = s.buf := (rfl)
@[simp] theorem State.setAlloc_chan (i : Nat) (a : AllocCtx) : (s.setAlloc i a).chan = s.chan := (rfl)
@[simp] theorem State.setAlloc_sched (i : Nat) (a : AllocCtx) : (s.setAlloc i a).sched = s.sched := (rfl)
@[simp] theorem State.setAlloc_time (i : Nat) (a : AllocCtx) : (s.setAlloc i a).time = s.time := (rfl)
@[simp] theorem State.setAlloc_clsIn (i : Nat) (a : AllocCtx) : (s.setAlloc i a).clsIn = s.clsIn := (rfl)
@[simp] theorem State.setAlloc_cls (i : Nat) (a : AllocCtx) : (s.setAlloc i a).cls = s.cls := (rfl)
@[simp] theorem State.setAlloc_fwd (i : Nat) (a : AllocCtx) : (s.setAlloc i a).fwd = s.fwd := (rfl)
@[simp] theorem State.setAlloc_running (i : Nat) (a : AllocCtx) : (s.setAlloc i a).running = s.running := (rfl)
@[simp] theorem State.setAlloc_vec (i : Nat) (a : AllocCtx) : (s.setAlloc i a).vec = s.vec := (rfl)
@[simp] theorem State.setAlloc_svl (i : Nat) (a : AllocCtx) : (s.setAlloc i a).svl = s.svl := (rfl)
@[simp] theorem State.setAlloc_testLanes (i : Nat) (a : AllocCtx) : (s.setAlloc i a).testLanes = s.testLanes := (rfl)
@[simp] theorem State.setAlloc_mac (i : Nat) (a : AllocCtx) : (s.setAlloc i a).mac = s.mac := (rfl)
@[simp] theorem State.setAlloc_lanes (i : Nat) (a : AllocCtx) : (s.setAlloc i a).lanes = s.lanes := (rfl)
@[simp] theorem State.setAlloc_pwr (i : Nat) (a : AllocCtx) : (s.setAlloc i a).pwr = s.pwr := (rfl)
@[simp] theorem State.setAlloc_mem (i : Nat) (a : AllocCtx) : (s.setAlloc i a).mem = s.mem := (rfl)
@[simp] theorem State.setAlloc_ciph (i : Nat) (a : AllocCtx) : (s.setAlloc i a).ciph = s.ciph := (rfl)
@[simp] theorem State.setAlloc_boot (i : Nat) (a : AllocCtx) : (s.setAlloc i a).boot = s.boot := (rfl)
@[simp] theorem State.setAlloc_jrn (i : Nat) (a : AllocCtx) : (s.setAlloc i a).jrn = s.jrn := (rfl)
@[simp] theorem State.setAlloc_tap (i : Nat) (a : AllocCtx) : (s.setAlloc i a).tap = s.tap := (rfl)

@[simp] theorem State.setGroup_pending (g : Nat) (b : BondCtx) : (s.setGroup g b).pending = s.pending := (rfl)
@[simp] theorem State.setGroup_out (g : Nat) (b : BondCtx) : (s.setGroup g b).out = s.out := (rfl)
@[simp] theorem State.setGroup_freeCtr (g : Nat) (b : BondCtx) : (s.setGroup g b).freeCtr = s.freeCtr := (rfl)
@[simp] theorem State.setGroup_cmdId (g : Nat) (b : BondCtx) : (s.setGroup g b).cmdId = s.cmdId := (rfl)
@[simp] theorem State.setGroup_regs (g : Nat) (b : BondCtx) : (s.setGroup g b).regs = s.regs := (rfl)
@[simp] theorem State.setGroup_cnt (g : Nat) (b : BondCtx) : (s.setGroup g b).cnt = s.cnt := (rfl)
@[simp] theorem State.setGroup_bank (g : Nat) (b : BondCtx) : (s.setGroup g b).bank = s.bank := (rfl)
@[simp] theorem State.setGroup_arb (g : Nat) (b : BondCtx) : (s.setGroup g b).arb = s.arb := (rfl)
@[simp] theorem State.setGroup_fns (g : Nat) (b : BondCtx) : (s.setGroup g b).fns = s.fns := (rfl)
@[simp] theorem State.setGroup_tick (g : Nat) (b : BondCtx) : (s.setGroup g b).tick = s.tick := (rfl)
@[simp] theorem State.setGroup_pon (g : Nat) (b : BondCtx) : (s.setGroup g b).pon = s.pon := (rfl)
@[simp] theorem State.setGroup_alloc (g : Nat) (b : BondCtx) : (s.setGroup g b).alloc = s.alloc := (rfl)
@[simp] theorem State.setGroup_buf (g : Nat) (b : BondCtx) : (s.setGroup g b).buf = s.buf := (rfl)
@[simp] theorem State.setGroup_chan (g : Nat) (b : BondCtx) : (s.setGroup g b).chan = s.chan := (rfl)
@[simp] theorem State.setGroup_sched (g : Nat) (b : BondCtx) : (s.setGroup g b).sched = s.sched := (rfl)
@[simp] theorem State.setGroup_time (g : Nat) (b : BondCtx) : (s.setGroup g b).time = s.time := (rfl)
@[simp] theorem State.setGroup_clsIn (g : Nat) (b : BondCtx) : (s.setGroup g b).clsIn = s.clsIn := (rfl)
@[simp] theorem State.setGroup_cls (g : Nat) (b : BondCtx) : (s.setGroup g b).cls = s.cls := (rfl)
@[simp] theorem State.setGroup_fwd (g : Nat) (b : BondCtx) : (s.setGroup g b).fwd = s.fwd := (rfl)
@[simp] theorem State.setGroup_running (g : Nat) (b : BondCtx) : (s.setGroup g b).running = s.running := (rfl)
@[simp] theorem State.setGroup_vec (g : Nat) (b : BondCtx) : (s.setGroup g b).vec = s.vec := (rfl)
@[simp] theorem State.setGroup_svl (g : Nat) (b : BondCtx) : (s.setGroup g b).svl = s.svl := (rfl)
@[simp] theorem State.setGroup_testLanes (g : Nat) (b : BondCtx) : (s.setGroup g b).testLanes = s.testLanes := (rfl)
@[simp] theorem State.setGroup_mac (g : Nat) (b : BondCtx) : (s.setGroup g b).mac = s.mac := (rfl)
@[simp] theorem State.setGroup_lanes (g : Nat) (b : BondCtx) : (s.setGroup g b).lanes = s.lanes := (rfl)
@[simp] theorem State.setGroup_pwr (g : Nat) (b : BondCtx) : (s.setGroup g b).pwr = s.pwr := (rfl)
@[simp] theorem State.setGroup_mem (g : Nat) (b : BondCtx) : (s.setGroup g b).mem = s.mem := (rfl)
@[simp] theorem State.setGroup_ciph (g : Nat) (b : BondCtx) : (s.setGroup g b).ciph = s.ciph := (rfl)
@[simp] theorem State.setGroup_boot (g : Nat) (b : BondCtx) : (s.setGroup g b).boot = s.boot := (rfl)
@[simp] theorem State.setGroup_jrn (g : Nat) (b : BondCtx) : (s.setGroup g b).jrn = s.jrn := (rfl)
@[simp] theorem State.setGroup_tap (g : Nat) (b : BondCtx) : (s.setGroup g b).tap = s.tap := (rfl)

@[simp] theorem State.setPool_pending (i : Nat) (p : Pool) : (s.setPool i p).pending = s.pending := (rfl)
@[simp] theorem State.setPool_out (i : Nat) (p : Pool) : (s.setPool i p).out = s.out := (rfl)
@[simp] theorem State.setPool_freeCtr (i : Nat) (p : Pool) : (s.setPool i p).freeCtr = s.freeCtr := (rfl)
@[simp] theorem State.setPool_cmdId (i : Nat) (p : Pool) : (s.setPool i p).cmdId = s.cmdId := (rfl)
@[simp] theorem State.setPool_regs (i : Nat) (p : Pool) : (s.setPool i p).regs = s.regs := (rfl)
@[simp] theorem State.setPool_cnt (i : Nat) (p : Pool) : (s.setPool i p).cnt = s.cnt := (rfl)
@[simp] theorem State.setPool_bank (i : Nat) (p : Pool) : (s.setPool i p).bank = s.bank := (rfl)
@[simp] theorem State.setPool_arb (i : Nat) (p : Pool) : (s.setPool i p).arb = s.arb := (rfl)
@[simp] theorem State.setPool_fns (i : Nat) (p : Pool) : (s.setPool i p).fns = s.fns := (rfl)
@[simp] theorem State.setPool_tick (i : Nat) (p : Pool) : (s.setPool i p).tick = s.tick := (rfl)
@[simp] theorem State.setPool_pon (i : Nat) (p : Pool) : (s.setPool i p).pon = s.pon := (rfl)
@[simp] theorem State.setPool_alloc (i : Nat) (p : Pool) : (s.setPool i p).alloc = s.alloc := (rfl)
@[simp] theorem State.setPool_bonding (i : Nat) (p : Pool) : (s.setPool i p).bonding = s.bonding := (rfl)
@[simp] theorem State.setPool_chan (i : Nat) (p : Pool) : (s.setPool i p).chan = s.chan := (rfl)
@[simp] theorem State.setPool_sched (i : Nat) (p : Pool) : (s.setPool i p).sched = s.sched := (rfl)
@[simp] theorem State.setPool_time (i : Nat) (p : Pool) : (s.setPool i p).time = s.time := (rfl)
@[simp] theorem State.setPool_clsIn (i : Nat) (p : Pool) : (s.setPool i p).clsIn = s.clsIn := (rfl)
@[simp] theorem State.setPool_cls (i : Nat) (p : Pool) : (s.setPool i p).cls = s.cls := (rfl)
@[simp] theorem State.setPool_fwd (i : Nat) (p : Pool) : (s.setPool i p).fwd = s.fwd := (rfl)
@[simp] theorem State.setPool_running (i : Nat) (p : Pool) : (s.setPool i p).running = s.running := (rfl)
@[simp] theorem State.setPool_vec (i : Nat) (p : Pool) : (s.setPool i p).vec = s.vec := (rfl)
@[simp] theorem State.setPool_svl (i : Nat) (p : Pool) : (s.setPool i p).svl = s.svl := (rfl)
@[simp] theorem State.setPool_testLanes (i : Nat) (p : Pool) : (s.setPool i p).testLanes = s.testLanes := (rfl)
@[simp] theorem State.setPool_mac (i : Nat) (p : Pool) : (s.setPool i p).mac = s.mac := (rfl)
@[simp] theorem State.setPool_lanes (i : Nat) (p : Pool) : (s.setPool i p).lanes = s.lanes := (rfl)
@[simp] theorem State.setPool_pwr (i : Nat) (p : Pool) : (s.setPool i p).pwr = s.pwr := (rfl)
@[simp] theorem State.setPool_mem (i : Nat) (p : Pool) : (s.setPool i p).mem = s.mem := (rfl)
@[simp] theorem State.setPool_ciph (i : Nat) (p : Pool) : (s.setPool i p).ciph = s.ciph := (rfl)
@[simp] theorem State.setPool_boot (i : Nat) (p : Pool) : (s.setPool i p).boot = s.boot := (rfl)
@[simp] theorem State.setPool_jrn (i : Nat) (p : Pool) : (s.setPool i p).jrn = s.jrn := (rfl)
@[simp] theorem State.setPool_tap (i : Nat) (p : Pool) : (s.setPool i p).tap = s.tap := (rfl)

@[simp] theorem State.setOwner_pending (id tag : Nat) : (s.setOwner id tag).pending = s.pending := (rfl)
@[simp] theorem State.setOwner_out (id tag : Nat) : (s.setOwner id tag).out = s.out := (rfl)
@[simp] theorem State.setOwner_freeCtr (id tag : Nat) : (s.setOwner id tag).freeCtr = s.freeCtr := (rfl)
@[simp] theorem State.setOwner_cmdId (id tag : Nat) : (s.setOwner id tag).cmdId = s.cmdId := (rfl)
@[simp] theorem State.setOwner_regs (id tag : Nat) : (s.setOwner id tag).regs = s.regs := (rfl)
@[simp] theorem State.setOwner_cnt (id tag : Nat) : (s.setOwner id tag).cnt = s.cnt := (rfl)
@[simp] theorem State.setOwner_bank (id tag : Nat) : (s.setOwner id tag).bank = s.bank := (rfl)
@[simp] theorem State.setOwner_arb (id tag : Nat) : (s.setOwner id tag).arb = s.arb := (rfl)
@[simp] theorem State.setOwner_fns (id tag : Nat) : (s.setOwner id tag).fns = s.fns := (rfl)
@[simp] theorem State.setOwner_tick (id tag : Nat) : (s.setOwner id tag).tick = s.tick := (rfl)
@[simp] theorem State.setOwner_pon (id tag : Nat) : (s.setOwner id tag).pon = s.pon := (rfl)
@[simp] theorem State.setOwner_alloc (id tag : Nat) : (s.setOwner id tag).alloc = s.alloc := (rfl)
@[simp] theorem State.setOwner_bonding (id tag : Nat) : (s.setOwner id tag).bonding = s.bonding := (rfl)
@[simp] theorem State.setOwner_chan (id tag : Nat) : (s.setOwner id tag).chan = s.chan := (rfl)
@[simp] theorem State.setOwner_sched (id tag : Nat) : (s.setOwner id tag).sched = s.sched := (rfl)
@[simp] theorem State.setOwner_time (id tag : Nat) : (s.setOwner id tag).time = s.time := (rfl)
@[simp] theorem State.setOwner_clsIn (id tag : Nat) : (s.setOwner id tag).clsIn = s.clsIn := (rfl)
@[simp] theorem State.setOwner_cls (id tag : Nat) : (s.setOwner id tag).cls = s.cls := (rfl)
@[simp] theorem State.setOwner_fwd (id tag : Nat) : (s.setOwner id tag).fwd = s.fwd := (rfl)
@[simp] theorem State.setOwner_running (id tag : Nat) : (s.setOwner id tag).running = s.running := (rfl)
@[simp] theorem State.setOwner_vec (id tag : Nat) : (s.setOwner id tag).vec = s.vec := (rfl)
@[simp] theorem State.setOwner_svl (id tag : Nat) : (s.setOwner id tag).svl = s.svl := (rfl)
@[simp] theorem State.setOwner_testLanes (id tag : Nat) : (s.setOwner id tag).testLanes = s.testLanes := (rfl)
@[simp] theorem State.setOwner_mac (id tag : Nat) : (s.setOwner id tag).mac = s.mac := (rfl)
@[simp] theorem State.setOwner_lanes (id tag : Nat) : (s.setOwner id tag).lanes = s.lanes := (rfl)
@[simp] theorem State.setOwner_pwr (id tag : Nat) : (s.setOwner id tag).pwr = s.pwr := (rfl)
@[simp] theorem State.setOwner_mem (id tag : Nat) : (s.setOwner id tag).mem = s.mem := (rfl)
@[simp] theorem State.setOwner_ciph (id tag : Nat) : (s.setOwner id tag).ciph = s.ciph := (rfl)
@[simp] theorem State.setOwner_boot (id tag : Nat) : (s.setOwner id tag).boot = s.boot := (rfl)
@[simp] theorem State.setOwner_jrn (id tag : Nat) : (s.setOwner id tag).jrn = s.jrn := (rfl)
@[simp] theorem State.setOwner_tap (id tag : Nat) : (s.setOwner id tag).tap = s.tap := (rfl)

@[simp] theorem State.setDests_pending (id n : Nat) : (s.setDests id n).pending = s.pending := (rfl)
@[simp] theorem State.setDests_out (id n : Nat) : (s.setDests id n).out = s.out := (rfl)
@[simp] theorem State.setDests_freeCtr (id n : Nat) : (s.setDests id n).freeCtr = s.freeCtr := (rfl)
@[simp] theorem State.setDests_cmdId (id n : Nat) : (s.setDests id n).cmdId = s.cmdId := (rfl)
@[simp] theorem State.setDests_regs (id n : Nat) : (s.setDests id n).regs = s.regs := (rfl)
@[simp] theorem State.setDests_cnt (id n : Nat) : (s.setDests id n).cnt = s.cnt := (rfl)
@[simp] theorem State.setDests_bank (id n : Nat) : (s.setDests id n).bank = s.bank := (rfl)
@[simp] theorem State.setDests_arb (id n : Nat) : (s.setDests id n).arb = s.arb := (rfl)
@[simp] theorem State.setDests_fns (id n : Nat) : (s.setDests id n).fns = s.fns := (rfl)
@[simp] theorem State.setDests_tick (id n : Nat) : (s.setDests id n).tick = s.tick := (rfl)
@[simp] theorem State.setDests_pon (id n : Nat) : (s.setDests id n).pon = s.pon := (rfl)
@[simp] theorem State.setDests_alloc (id n : Nat) : (s.setDests id n).alloc = s.alloc := (rfl)
@[simp] theorem State.setDests_bonding (id n : Nat) : (s.setDests id n).bonding = s.bonding := (rfl)
@[simp] theorem State.setDests_chan (id n : Nat) : (s.setDests id n).chan = s.chan := (rfl)
@[simp] theorem State.setDests_sched (id n : Nat) : (s.setDests id n).sched = s.sched := (rfl)
@[simp] theorem State.setDests_time (id n : Nat) : (s.setDests id n).time = s.time := (rfl)
@[simp] theorem State.setDests_clsIn (id n : Nat) : (s.setDests id n).clsIn = s.clsIn := (rfl)
@[simp] theorem State.setDests_cls (id n : Nat) : (s.setDests id n).cls = s.cls := (rfl)
@[simp] theorem State.setDests_fwd (id n : Nat) : (s.setDests id n).fwd = s.fwd := (rfl)
@[simp] theorem State.setDests_running (id n : Nat) : (s.setDests id n).running = s.running := (rfl)
@[simp] theorem State.setDests_vec (id n : Nat) : (s.setDests id n).vec = s.vec := (rfl)
@[simp] theorem State.setDests_svl (id n : Nat) : (s.setDests id n).svl = s.svl := (rfl)
@[simp] theorem State.setDests_testLanes (id n : Nat) : (s.setDests id n).testLanes = s.testLanes := (rfl)
@[simp] theorem State.setDests_mac (id n : Nat) : (s.setDests id n).mac = s.mac := (rfl)
@[simp] theorem State.setDests_lanes (id n : Nat) : (s.setDests id n).lanes = s.lanes := (rfl)
@[simp] theorem State.setDests_pwr (id n : Nat) : (s.setDests id n).pwr = s.pwr := (rfl)
@[simp] theorem State.setDests_mem (id n : Nat) : (s.setDests id n).mem = s.mem := (rfl)
@[simp] theorem State.setDests_ciph (id n : Nat) : (s.setDests id n).ciph = s.ciph := (rfl)
@[simp] theorem State.setDests_boot (id n : Nat) : (s.setDests id n).boot = s.boot := (rfl)
@[simp] theorem State.setDests_jrn (id n : Nat) : (s.setDests id n).jrn = s.jrn := (rfl)
@[simp] theorem State.setDests_tap (id n : Nat) : (s.setDests id n).tap = s.tap := (rfl)

@[simp] theorem State.setDq_pending (q : Nat) (d : DQueue) : (s.setDq q d).pending = s.pending := (rfl)
@[simp] theorem State.setDq_out (q : Nat) (d : DQueue) : (s.setDq q d).out = s.out := (rfl)
@[simp] theorem State.setDq_freeCtr (q : Nat) (d : DQueue) : (s.setDq q d).freeCtr = s.freeCtr := (rfl)
@[simp] theorem State.setDq_cmdId (q : Nat) (d : DQueue) : (s.setDq q d).cmdId = s.cmdId := (rfl)
@[simp] theorem State.setDq_regs (q : Nat) (d : DQueue) : (s.setDq q d).regs = s.regs := (rfl)
@[simp] theorem State.setDq_cnt (q : Nat) (d : DQueue) : (s.setDq q d).cnt = s.cnt := (rfl)
@[simp] theorem State.setDq_bank (q : Nat) (d : DQueue) : (s.setDq q d).bank = s.bank := (rfl)
@[simp] theorem State.setDq_arb (q : Nat) (d : DQueue) : (s.setDq q d).arb = s.arb := (rfl)
@[simp] theorem State.setDq_fns (q : Nat) (d : DQueue) : (s.setDq q d).fns = s.fns := (rfl)
@[simp] theorem State.setDq_tick (q : Nat) (d : DQueue) : (s.setDq q d).tick = s.tick := (rfl)
@[simp] theorem State.setDq_pon (q : Nat) (d : DQueue) : (s.setDq q d).pon = s.pon := (rfl)
@[simp] theorem State.setDq_alloc (q : Nat) (d : DQueue) : (s.setDq q d).alloc = s.alloc := (rfl)
@[simp] theorem State.setDq_bonding (q : Nat) (d : DQueue) : (s.setDq q d).bonding = s.bonding := (rfl)
@[simp] theorem State.setDq_buf (q : Nat) (d : DQueue) : (s.setDq q d).buf = s.buf := (rfl)
@[simp] theorem State.setDq_sched (q : Nat) (d : DQueue) : (s.setDq q d).sched = s.sched := (rfl)
@[simp] theorem State.setDq_time (q : Nat) (d : DQueue) : (s.setDq q d).time = s.time := (rfl)
@[simp] theorem State.setDq_clsIn (q : Nat) (d : DQueue) : (s.setDq q d).clsIn = s.clsIn := (rfl)
@[simp] theorem State.setDq_cls (q : Nat) (d : DQueue) : (s.setDq q d).cls = s.cls := (rfl)
@[simp] theorem State.setDq_fwd (q : Nat) (d : DQueue) : (s.setDq q d).fwd = s.fwd := (rfl)
@[simp] theorem State.setDq_running (q : Nat) (d : DQueue) : (s.setDq q d).running = s.running := (rfl)
@[simp] theorem State.setDq_vec (q : Nat) (d : DQueue) : (s.setDq q d).vec = s.vec := (rfl)
@[simp] theorem State.setDq_svl (q : Nat) (d : DQueue) : (s.setDq q d).svl = s.svl := (rfl)
@[simp] theorem State.setDq_testLanes (q : Nat) (d : DQueue) : (s.setDq q d).testLanes = s.testLanes := (rfl)
@[simp] theorem State.setDq_mac (q : Nat) (d : DQueue) : (s.setDq q d).mac = s.mac := (rfl)
@[simp] theorem State.setDq_lanes (q : Nat) (d : DQueue) : (s.setDq q d).lanes = s.lanes := (rfl)
@[simp] theorem State.setDq_pwr (q : Nat) (d : DQueue) : (s.setDq q d).pwr = s.pwr := (rfl)
@[simp] theorem State.setDq_mem (q : Nat) (d : DQueue) : (s.setDq q d).mem = s.mem := (rfl)
@[simp] theorem State.setDq_ciph (q : Nat) (d : DQueue) : (s.setDq q d).ciph = s.ciph := (rfl)
@[simp] theorem State.setDq_boot (q : Nat) (d : DQueue) : (s.setDq q d).boot = s.boot := (rfl)
@[simp] theorem State.setDq_jrn (q : Nat) (d : DQueue) : (s.setDq q d).jrn = s.jrn := (rfl)
@[simp] theorem State.setDq_tap (q : Nat) (d : DQueue) : (s.setDq q d).tap = s.tap := (rfl)

@[simp] theorem State.setHq_pending (q : Nat) (h : HQueue) : (s.setHq q h).pending = s.pending := (rfl)
@[simp] theorem State.setHq_out (q : Nat) (h : HQueue) : (s.setHq q h).out = s.out := (rfl)
@[simp] theorem State.setHq_freeCtr (q : Nat) (h : HQueue) : (s.setHq q h).freeCtr = s.freeCtr := (rfl)
@[simp] theorem State.setHq_cmdId (q : Nat) (h : HQueue) : (s.setHq q h).cmdId = s.cmdId := (rfl)
@[simp] theorem State.setHq_regs (q : Nat) (h : HQueue) : (s.setHq q h).regs = s.regs := (rfl)
@[simp] theorem State.setHq_cnt (q : Nat) (h : HQueue) : (s.setHq q h).cnt = s.cnt := (rfl)
@[simp] theorem State.setHq_bank (q : Nat) (h : HQueue) : (s.setHq q h).bank = s.bank := (rfl)
@[simp] theorem State.setHq_arb (q : Nat) (h : HQueue) : (s.setHq q h).arb = s.arb := (rfl)
@[simp] theorem State.setHq_fns (q : Nat) (h : HQueue) : (s.setHq q h).fns = s.fns := (rfl)
@[simp] theorem State.setHq_tick (q : Nat) (h : HQueue) : (s.setHq q h).tick = s.tick := (rfl)
@[simp] theorem State.setHq_pon (q : Nat) (h : HQueue) : (s.setHq q h).pon = s.pon := (rfl)
@[simp] theorem State.setHq_alloc (q : Nat) (h : HQueue) : (s.setHq q h).alloc = s.alloc := (rfl)
@[simp] theorem State.setHq_bonding (q : Nat) (h : HQueue) : (s.setHq q h).bonding = s.bonding := (rfl)
@[simp] theorem State.setHq_buf (q : Nat) (h : HQueue) : (s.setHq q h).buf = s.buf := (rfl)
@[simp] theorem State.setHq_sched (q : Nat) (h : HQueue) : (s.setHq q h).sched = s.sched := (rfl)
@[simp] theorem State.setHq_time (q : Nat) (h : HQueue) : (s.setHq q h).time = s.time := (rfl)
@[simp] theorem State.setHq_clsIn (q : Nat) (h : HQueue) : (s.setHq q h).clsIn = s.clsIn := (rfl)
@[simp] theorem State.setHq_cls (q : Nat) (h : HQueue) : (s.setHq q h).cls = s.cls := (rfl)
@[simp] theorem State.setHq_fwd (q : Nat) (h : HQueue) : (s.setHq q h).fwd = s.fwd := (rfl)
@[simp] theorem State.setHq_running (q : Nat) (h : HQueue) : (s.setHq q h).running = s.running := (rfl)
@[simp] theorem State.setHq_vec (q : Nat) (h : HQueue) : (s.setHq q h).vec = s.vec := (rfl)
@[simp] theorem State.setHq_svl (q : Nat) (h : HQueue) : (s.setHq q h).svl = s.svl := (rfl)
@[simp] theorem State.setHq_testLanes (q : Nat) (h : HQueue) : (s.setHq q h).testLanes = s.testLanes := (rfl)
@[simp] theorem State.setHq_mac (q : Nat) (h : HQueue) : (s.setHq q h).mac = s.mac := (rfl)
@[simp] theorem State.setHq_lanes (q : Nat) (h : HQueue) : (s.setHq q h).lanes = s.lanes := (rfl)
@[simp] theorem State.setHq_pwr (q : Nat) (h : HQueue) : (s.setHq q h).pwr = s.pwr := (rfl)
@[simp] theorem State.setHq_mem (q : Nat) (h : HQueue) : (s.setHq q h).mem = s.mem := (rfl)
@[simp] theorem State.setHq_ciph (q : Nat) (h : HQueue) : (s.setHq q h).ciph = s.ciph := (rfl)
@[simp] theorem State.setHq_boot (q : Nat) (h : HQueue) : (s.setHq q h).boot = s.boot := (rfl)
@[simp] theorem State.setHq_jrn (q : Nat) (h : HQueue) : (s.setHq q h).jrn = s.jrn := (rfl)
@[simp] theorem State.setHq_tap (q : Nat) (h : HQueue) : (s.setHq q h).tap = s.tap := (rfl)

@[simp] theorem State.setN1_pending (i : Nat) (n : Node1) : (s.setN1 i n).pending = s.pending := (rfl)
@[simp] theorem State.setN1_out (i : Nat) (n : Node1) : (s.setN1 i n).out = s.out := (rfl)
@[simp] theorem State.setN1_freeCtr (i : Nat) (n : Node1) : (s.setN1 i n).freeCtr = s.freeCtr := (rfl)
@[simp] theorem State.setN1_cmdId (i : Nat) (n : Node1) : (s.setN1 i n).cmdId = s.cmdId := (rfl)
@[simp] theorem State.setN1_regs (i : Nat) (n : Node1) : (s.setN1 i n).regs = s.regs := (rfl)
@[simp] theorem State.setN1_cnt (i : Nat) (n : Node1) : (s.setN1 i n).cnt = s.cnt := (rfl)
@[simp] theorem State.setN1_bank (i : Nat) (n : Node1) : (s.setN1 i n).bank = s.bank := (rfl)
@[simp] theorem State.setN1_arb (i : Nat) (n : Node1) : (s.setN1 i n).arb = s.arb := (rfl)
@[simp] theorem State.setN1_fns (i : Nat) (n : Node1) : (s.setN1 i n).fns = s.fns := (rfl)
@[simp] theorem State.setN1_tick (i : Nat) (n : Node1) : (s.setN1 i n).tick = s.tick := (rfl)
@[simp] theorem State.setN1_pon (i : Nat) (n : Node1) : (s.setN1 i n).pon = s.pon := (rfl)
@[simp] theorem State.setN1_alloc (i : Nat) (n : Node1) : (s.setN1 i n).alloc = s.alloc := (rfl)
@[simp] theorem State.setN1_bonding (i : Nat) (n : Node1) : (s.setN1 i n).bonding = s.bonding := (rfl)
@[simp] theorem State.setN1_buf (i : Nat) (n : Node1) : (s.setN1 i n).buf = s.buf := (rfl)
@[simp] theorem State.setN1_chan (i : Nat) (n : Node1) : (s.setN1 i n).chan = s.chan := (rfl)
@[simp] theorem State.setN1_time (i : Nat) (n : Node1) : (s.setN1 i n).time = s.time := (rfl)
@[simp] theorem State.setN1_clsIn (i : Nat) (n : Node1) : (s.setN1 i n).clsIn = s.clsIn := (rfl)
@[simp] theorem State.setN1_cls (i : Nat) (n : Node1) : (s.setN1 i n).cls = s.cls := (rfl)
@[simp] theorem State.setN1_fwd (i : Nat) (n : Node1) : (s.setN1 i n).fwd = s.fwd := (rfl)
@[simp] theorem State.setN1_running (i : Nat) (n : Node1) : (s.setN1 i n).running = s.running := (rfl)
@[simp] theorem State.setN1_vec (i : Nat) (n : Node1) : (s.setN1 i n).vec = s.vec := (rfl)
@[simp] theorem State.setN1_svl (i : Nat) (n : Node1) : (s.setN1 i n).svl = s.svl := (rfl)
@[simp] theorem State.setN1_testLanes (i : Nat) (n : Node1) : (s.setN1 i n).testLanes = s.testLanes := (rfl)
@[simp] theorem State.setN1_mac (i : Nat) (n : Node1) : (s.setN1 i n).mac = s.mac := (rfl)
@[simp] theorem State.setN1_lanes (i : Nat) (n : Node1) : (s.setN1 i n).lanes = s.lanes := (rfl)
@[simp] theorem State.setN1_pwr (i : Nat) (n : Node1) : (s.setN1 i n).pwr = s.pwr := (rfl)
@[simp] theorem State.setN1_mem (i : Nat) (n : Node1) : (s.setN1 i n).mem = s.mem := (rfl)
@[simp] theorem State.setN1_ciph (i : Nat) (n : Node1) : (s.setN1 i n).ciph = s.ciph := (rfl)
@[simp] theorem State.setN1_boot (i : Nat) (n : Node1) : (s.setN1 i n).boot = s.boot := (rfl)
@[simp] theorem State.setN1_jrn (i : Nat) (n : Node1) : (s.setN1 i n).jrn = s.jrn := (rfl)
@[simp] theorem State.setN1_tap (i : Nat) (n : Node1) : (s.setN1 i n).tap = s.tap := (rfl)

@[simp] theorem State.setN2_pending (i : Nat) (n : Node2) : (s.setN2 i n).pending = s.pending := (rfl)
@[simp] theorem State.setN2_out (i : Nat) (n : Node2) : (s.setN2 i n).out = s.out := (rfl)
@[simp] theorem State.setN2_freeCtr (i : Nat) (n : Node2) : (s.setN2 i n).freeCtr = s.freeCtr := (rfl)
@[simp] theorem State.setN2_cmdId (i : Nat) (n : Node2) : (s.setN2 i n).cmdId = s.cmdId := (rfl)
@[simp] theorem State.setN2_regs (i : Nat) (n : Node2) : (s.setN2 i n).regs = s.regs := (rfl)
@[simp] theorem State.setN2_cnt (i : Nat) (n : Node2) : (s.setN2 i n).cnt = s.cnt := (rfl)
@[simp] theorem State.setN2_bank (i : Nat) (n : Node2) : (s.setN2 i n).bank = s.bank := (rfl)
@[simp] theorem State.setN2_arb (i : Nat) (n : Node2) : (s.setN2 i n).arb = s.arb := (rfl)
@[simp] theorem State.setN2_fns (i : Nat) (n : Node2) : (s.setN2 i n).fns = s.fns := (rfl)
@[simp] theorem State.setN2_tick (i : Nat) (n : Node2) : (s.setN2 i n).tick = s.tick := (rfl)
@[simp] theorem State.setN2_pon (i : Nat) (n : Node2) : (s.setN2 i n).pon = s.pon := (rfl)
@[simp] theorem State.setN2_alloc (i : Nat) (n : Node2) : (s.setN2 i n).alloc = s.alloc := (rfl)
@[simp] theorem State.setN2_bonding (i : Nat) (n : Node2) : (s.setN2 i n).bonding = s.bonding := (rfl)
@[simp] theorem State.setN2_buf (i : Nat) (n : Node2) : (s.setN2 i n).buf = s.buf := (rfl)
@[simp] theorem State.setN2_chan (i : Nat) (n : Node2) : (s.setN2 i n).chan = s.chan := (rfl)
@[simp] theorem State.setN2_time (i : Nat) (n : Node2) : (s.setN2 i n).time = s.time := (rfl)
@[simp] theorem State.setN2_clsIn (i : Nat) (n : Node2) : (s.setN2 i n).clsIn = s.clsIn := (rfl)
@[simp] theorem State.setN2_cls (i : Nat) (n : Node2) : (s.setN2 i n).cls = s.cls := (rfl)
@[simp] theorem State.setN2_fwd (i : Nat) (n : Node2) : (s.setN2 i n).fwd = s.fwd := (rfl)
@[simp] theorem State.setN2_running (i : Nat) (n : Node2) : (s.setN2 i n).running = s.running := (rfl)
@[simp] theorem State.setN2_vec (i : Nat) (n : Node2) : (s.setN2 i n).vec = s.vec := (rfl)
@[simp] theorem State.setN2_svl (i : Nat) (n : Node2) : (s.setN2 i n).svl = s.svl := (rfl)
@[simp] theorem State.setN2_testLanes (i : Nat) (n : Node2) : (s.setN2 i n).testLanes = s.testLanes := (rfl)
@[simp] theorem State.setN2_mac (i : Nat) (n : Node2) : (s.setN2 i n).mac = s.mac := (rfl)
@[simp] theorem State.setN2_lanes (i : Nat) (n : Node2) : (s.setN2 i n).lanes = s.lanes := (rfl)
@[simp] theorem State.setN2_pwr (i : Nat) (n : Node2) : (s.setN2 i n).pwr = s.pwr := (rfl)
@[simp] theorem State.setN2_mem (i : Nat) (n : Node2) : (s.setN2 i n).mem = s.mem := (rfl)
@[simp] theorem State.setN2_ciph (i : Nat) (n : Node2) : (s.setN2 i n).ciph = s.ciph := (rfl)
@[simp] theorem State.setN2_boot (i : Nat) (n : Node2) : (s.setN2 i n).boot = s.boot := (rfl)
@[simp] theorem State.setN2_jrn (i : Nat) (n : Node2) : (s.setN2 i n).jrn = s.jrn := (rfl)
@[simp] theorem State.setN2_tap (i : Nat) (n : Node2) : (s.setN2 i n).tap = s.tap := (rfl)

@[simp] theorem State.setSq_pending (q : Nat) (v : SQueue) : (s.setSq q v).pending = s.pending := (rfl)
@[simp] theorem State.setSq_out (q : Nat) (v : SQueue) : (s.setSq q v).out = s.out := (rfl)
@[simp] theorem State.setSq_freeCtr (q : Nat) (v : SQueue) : (s.setSq q v).freeCtr = s.freeCtr := (rfl)
@[simp] theorem State.setSq_cmdId (q : Nat) (v : SQueue) : (s.setSq q v).cmdId = s.cmdId := (rfl)
@[simp] theorem State.setSq_regs (q : Nat) (v : SQueue) : (s.setSq q v).regs = s.regs := (rfl)
@[simp] theorem State.setSq_cnt (q : Nat) (v : SQueue) : (s.setSq q v).cnt = s.cnt := (rfl)
@[simp] theorem State.setSq_bank (q : Nat) (v : SQueue) : (s.setSq q v).bank = s.bank := (rfl)
@[simp] theorem State.setSq_arb (q : Nat) (v : SQueue) : (s.setSq q v).arb = s.arb := (rfl)
@[simp] theorem State.setSq_fns (q : Nat) (v : SQueue) : (s.setSq q v).fns = s.fns := (rfl)
@[simp] theorem State.setSq_tick (q : Nat) (v : SQueue) : (s.setSq q v).tick = s.tick := (rfl)
@[simp] theorem State.setSq_pon (q : Nat) (v : SQueue) : (s.setSq q v).pon = s.pon := (rfl)
@[simp] theorem State.setSq_alloc (q : Nat) (v : SQueue) : (s.setSq q v).alloc = s.alloc := (rfl)
@[simp] theorem State.setSq_bonding (q : Nat) (v : SQueue) : (s.setSq q v).bonding = s.bonding := (rfl)
@[simp] theorem State.setSq_buf (q : Nat) (v : SQueue) : (s.setSq q v).buf = s.buf := (rfl)
@[simp] theorem State.setSq_chan (q : Nat) (v : SQueue) : (s.setSq q v).chan = s.chan := (rfl)
@[simp] theorem State.setSq_time (q : Nat) (v : SQueue) : (s.setSq q v).time = s.time := (rfl)
@[simp] theorem State.setSq_clsIn (q : Nat) (v : SQueue) : (s.setSq q v).clsIn = s.clsIn := (rfl)
@[simp] theorem State.setSq_cls (q : Nat) (v : SQueue) : (s.setSq q v).cls = s.cls := (rfl)
@[simp] theorem State.setSq_fwd (q : Nat) (v : SQueue) : (s.setSq q v).fwd = s.fwd := (rfl)
@[simp] theorem State.setSq_running (q : Nat) (v : SQueue) : (s.setSq q v).running = s.running := (rfl)
@[simp] theorem State.setSq_vec (q : Nat) (v : SQueue) : (s.setSq q v).vec = s.vec := (rfl)
@[simp] theorem State.setSq_svl (q : Nat) (v : SQueue) : (s.setSq q v).svl = s.svl := (rfl)
@[simp] theorem State.setSq_testLanes (q : Nat) (v : SQueue) : (s.setSq q v).testLanes = s.testLanes := (rfl)
@[simp] theorem State.setSq_mac (q : Nat) (v : SQueue) : (s.setSq q v).mac = s.mac := (rfl)
@[simp] theorem State.setSq_lanes (q : Nat) (v : SQueue) : (s.setSq q v).lanes = s.lanes := (rfl)
@[simp] theorem State.setSq_pwr (q : Nat) (v : SQueue) : (s.setSq q v).pwr = s.pwr := (rfl)
@[simp] theorem State.setSq_mem (q : Nat) (v : SQueue) : (s.setSq q v).mem = s.mem := (rfl)
@[simp] theorem State.setSq_ciph (q : Nat) (v : SQueue) : (s.setSq q v).ciph = s.ciph := (rfl)
@[simp] theorem State.setSq_boot (q : Nat) (v : SQueue) : (s.setSq q v).boot = s.boot := (rfl)
@[simp] theorem State.setSq_jrn (q : Nat) (v : SQueue) : (s.setSq q v).jrn = s.jrn := (rfl)
@[simp] theorem State.setSq_tap (q : Nat) (v : SQueue) : (s.setSq q v).tap = s.tap := (rfl)

@[simp] theorem State.setLine_pending (i : Nat) (l : LineCtx) : (s.setLine i l).pending = s.pending := (rfl)
@[simp] theorem State.setLine_out (i : Nat) (l : LineCtx) : (s.setLine i l).out = s.out := (rfl)
@[simp] theorem State.setLine_freeCtr (i : Nat) (l : LineCtx) : (s.setLine i l).freeCtr = s.freeCtr := (rfl)
@[simp] theorem State.setLine_cmdId (i : Nat) (l : LineCtx) : (s.setLine i l).cmdId = s.cmdId := (rfl)
@[simp] theorem State.setLine_regs (i : Nat) (l : LineCtx) : (s.setLine i l).regs = s.regs := (rfl)
@[simp] theorem State.setLine_cnt (i : Nat) (l : LineCtx) : (s.setLine i l).cnt = s.cnt := (rfl)
@[simp] theorem State.setLine_bank (i : Nat) (l : LineCtx) : (s.setLine i l).bank = s.bank := (rfl)
@[simp] theorem State.setLine_arb (i : Nat) (l : LineCtx) : (s.setLine i l).arb = s.arb := (rfl)
@[simp] theorem State.setLine_fns (i : Nat) (l : LineCtx) : (s.setLine i l).fns = s.fns := (rfl)
@[simp] theorem State.setLine_tick (i : Nat) (l : LineCtx) : (s.setLine i l).tick = s.tick := (rfl)
@[simp] theorem State.setLine_pon (i : Nat) (l : LineCtx) : (s.setLine i l).pon = s.pon := (rfl)
@[simp] theorem State.setLine_alloc (i : Nat) (l : LineCtx) : (s.setLine i l).alloc = s.alloc := (rfl)
@[simp] theorem State.setLine_bonding (i : Nat) (l : LineCtx) : (s.setLine i l).bonding = s.bonding := (rfl)
@[simp] theorem State.setLine_buf (i : Nat) (l : LineCtx) : (s.setLine i l).buf = s.buf := (rfl)
@[simp] theorem State.setLine_chan (i : Nat) (l : LineCtx) : (s.setLine i l).chan = s.chan := (rfl)
@[simp] theorem State.setLine_time (i : Nat) (l : LineCtx) : (s.setLine i l).time = s.time := (rfl)
@[simp] theorem State.setLine_clsIn (i : Nat) (l : LineCtx) : (s.setLine i l).clsIn = s.clsIn := (rfl)
@[simp] theorem State.setLine_cls (i : Nat) (l : LineCtx) : (s.setLine i l).cls = s.cls := (rfl)
@[simp] theorem State.setLine_fwd (i : Nat) (l : LineCtx) : (s.setLine i l).fwd = s.fwd := (rfl)
@[simp] theorem State.setLine_running (i : Nat) (l : LineCtx) : (s.setLine i l).running = s.running := (rfl)
@[simp] theorem State.setLine_vec (i : Nat) (l : LineCtx) : (s.setLine i l).vec = s.vec := (rfl)
@[simp] theorem State.setLine_svl (i : Nat) (l : LineCtx) : (s.setLine i l).svl = s.svl := (rfl)
@[simp] theorem State.setLine_testLanes (i : Nat) (l : LineCtx) : (s.setLine i l).testLanes = s.testLanes := (rfl)
@[simp] theorem State.setLine_mac (i : Nat) (l : LineCtx) : (s.setLine i l).mac = s.mac := (rfl)
@[simp] theorem State.setLine_lanes (i : Nat) (l : LineCtx) : (s.setLine i l).lanes = s.lanes := (rfl)
@[simp] theorem State.setLine_pwr (i : Nat) (l : LineCtx) : (s.setLine i l).pwr = s.pwr := (rfl)
@[simp] theorem State.setLine_mem (i : Nat) (l : LineCtx) : (s.setLine i l).mem = s.mem := (rfl)
@[simp] theorem State.setLine_ciph (i : Nat) (l : LineCtx) : (s.setLine i l).ciph = s.ciph := (rfl)
@[simp] theorem State.setLine_boot (i : Nat) (l : LineCtx) : (s.setLine i l).boot = s.boot := (rfl)
@[simp] theorem State.setLine_jrn (i : Nat) (l : LineCtx) : (s.setLine i l).jrn = s.jrn := (rfl)
@[simp] theorem State.setLine_tap (i : Nat) (l : LineCtx) : (s.setLine i l).tap = s.tap := (rfl)

@[simp] theorem State.setMac_pending (m : Nat) (x : Mac) : (s.setMac m x).pending = s.pending := (rfl)
@[simp] theorem State.setMac_out (m : Nat) (x : Mac) : (s.setMac m x).out = s.out := (rfl)
@[simp] theorem State.setMac_freeCtr (m : Nat) (x : Mac) : (s.setMac m x).freeCtr = s.freeCtr := (rfl)
@[simp] theorem State.setMac_cmdId (m : Nat) (x : Mac) : (s.setMac m x).cmdId = s.cmdId := (rfl)
@[simp] theorem State.setMac_regs (m : Nat) (x : Mac) : (s.setMac m x).regs = s.regs := (rfl)
@[simp] theorem State.setMac_cnt (m : Nat) (x : Mac) : (s.setMac m x).cnt = s.cnt := (rfl)
@[simp] theorem State.setMac_bank (m : Nat) (x : Mac) : (s.setMac m x).bank = s.bank := (rfl)
@[simp] theorem State.setMac_arb (m : Nat) (x : Mac) : (s.setMac m x).arb = s.arb := (rfl)
@[simp] theorem State.setMac_fns (m : Nat) (x : Mac) : (s.setMac m x).fns = s.fns := (rfl)
@[simp] theorem State.setMac_tick (m : Nat) (x : Mac) : (s.setMac m x).tick = s.tick := (rfl)
@[simp] theorem State.setMac_pon (m : Nat) (x : Mac) : (s.setMac m x).pon = s.pon := (rfl)
@[simp] theorem State.setMac_alloc (m : Nat) (x : Mac) : (s.setMac m x).alloc = s.alloc := (rfl)
@[simp] theorem State.setMac_bonding (m : Nat) (x : Mac) : (s.setMac m x).bonding = s.bonding := (rfl)
@[simp] theorem State.setMac_buf (m : Nat) (x : Mac) : (s.setMac m x).buf = s.buf := (rfl)
@[simp] theorem State.setMac_chan (m : Nat) (x : Mac) : (s.setMac m x).chan = s.chan := (rfl)
@[simp] theorem State.setMac_sched (m : Nat) (x : Mac) : (s.setMac m x).sched = s.sched := (rfl)
@[simp] theorem State.setMac_time (m : Nat) (x : Mac) : (s.setMac m x).time = s.time := (rfl)
@[simp] theorem State.setMac_clsIn (m : Nat) (x : Mac) : (s.setMac m x).clsIn = s.clsIn := (rfl)
@[simp] theorem State.setMac_cls (m : Nat) (x : Mac) : (s.setMac m x).cls = s.cls := (rfl)
@[simp] theorem State.setMac_fwd (m : Nat) (x : Mac) : (s.setMac m x).fwd = s.fwd := (rfl)
@[simp] theorem State.setMac_running (m : Nat) (x : Mac) : (s.setMac m x).running = s.running := (rfl)
@[simp] theorem State.setMac_vec (m : Nat) (x : Mac) : (s.setMac m x).vec = s.vec := (rfl)
@[simp] theorem State.setMac_svl (m : Nat) (x : Mac) : (s.setMac m x).svl = s.svl := (rfl)
@[simp] theorem State.setMac_testLanes (m : Nat) (x : Mac) : (s.setMac m x).testLanes = s.testLanes := (rfl)
@[simp] theorem State.setMac_lanes (m : Nat) (x : Mac) : (s.setMac m x).lanes = s.lanes := (rfl)
@[simp] theorem State.setMac_pwr (m : Nat) (x : Mac) : (s.setMac m x).pwr = s.pwr := (rfl)
@[simp] theorem State.setMac_mem (m : Nat) (x : Mac) : (s.setMac m x).mem = s.mem := (rfl)
@[simp] theorem State.setMac_ciph (m : Nat) (x : Mac) : (s.setMac m x).ciph = s.ciph := (rfl)
@[simp] theorem State.setMac_boot (m : Nat) (x : Mac) : (s.setMac m x).boot = s.boot := (rfl)
@[simp] theorem State.setMac_jrn (m : Nat) (x : Mac) : (s.setMac m x).jrn = s.jrn := (rfl)
@[simp] theorem State.setMac_tap (m : Nat) (x : Mac) : (s.setMac m x).tap = s.tap := (rfl)

@[simp] theorem State.setTick_pending (t : TickGen) : (s.setTick t).pending = s.pending := (rfl)
@[simp] theorem State.setTick_out (t : TickGen) : (s.setTick t).out = s.out := (rfl)
@[simp] theorem State.setTick_freeCtr (t : TickGen) : (s.setTick t).freeCtr = s.freeCtr := (rfl)
@[simp] theorem State.setTick_cmdId (t : TickGen) : (s.setTick t).cmdId = s.cmdId := (rfl)
@[simp] theorem State.setTick_regs (t : TickGen) : (s.setTick t).regs = s.regs := (rfl)
@[simp] theorem State.setTick_cnt (t : TickGen) : (s.setTick t).cnt = s.cnt := (rfl)
@[simp] theorem State.setTick_bank (t : TickGen) : (s.setTick t).bank = s.bank := (rfl)
@[simp] theorem State.setTick_arb (t : TickGen) : (s.setTick t).arb = s.arb := (rfl)
@[simp] theorem State.setTick_fns (t : TickGen) : (s.setTick t).fns = s.fns := (rfl)
@[simp] theorem State.setTick_pon (t : TickGen) : (s.setTick t).pon = s.pon := (rfl)
@[simp] theorem State.setTick_alloc (t : TickGen) : (s.setTick t).alloc = s.alloc := (rfl)
@[simp] theorem State.setTick_bonding (t : TickGen) : (s.setTick t).bonding = s.bonding := (rfl)
@[simp] theorem State.setTick_buf (t : TickGen) : (s.setTick t).buf = s.buf := (rfl)
@[simp] theorem State.setTick_chan (t : TickGen) : (s.setTick t).chan = s.chan := (rfl)
@[simp] theorem State.setTick_sched (t : TickGen) : (s.setTick t).sched = s.sched := (rfl)
@[simp] theorem State.setTick_time (t : TickGen) : (s.setTick t).time = s.time := (rfl)
@[simp] theorem State.setTick_clsIn (t : TickGen) : (s.setTick t).clsIn = s.clsIn := (rfl)
@[simp] theorem State.setTick_cls (t : TickGen) : (s.setTick t).cls = s.cls := (rfl)
@[simp] theorem State.setTick_fwd (t : TickGen) : (s.setTick t).fwd = s.fwd := (rfl)
@[simp] theorem State.setTick_running (t : TickGen) : (s.setTick t).running = s.running := (rfl)
@[simp] theorem State.setTick_vec (t : TickGen) : (s.setTick t).vec = s.vec := (rfl)
@[simp] theorem State.setTick_svl (t : TickGen) : (s.setTick t).svl = s.svl := (rfl)
@[simp] theorem State.setTick_testLanes (t : TickGen) : (s.setTick t).testLanes = s.testLanes := (rfl)
@[simp] theorem State.setTick_mac (t : TickGen) : (s.setTick t).mac = s.mac := (rfl)
@[simp] theorem State.setTick_lanes (t : TickGen) : (s.setTick t).lanes = s.lanes := (rfl)
@[simp] theorem State.setTick_pwr (t : TickGen) : (s.setTick t).pwr = s.pwr := (rfl)
@[simp] theorem State.setTick_mem (t : TickGen) : (s.setTick t).mem = s.mem := (rfl)
@[simp] theorem State.setTick_ciph (t : TickGen) : (s.setTick t).ciph = s.ciph := (rfl)
@[simp] theorem State.setTick_boot (t : TickGen) : (s.setTick t).boot = s.boot := (rfl)
@[simp] theorem State.setTick_jrn (t : TickGen) : (s.setTick t).jrn = s.jrn := (rfl)
@[simp] theorem State.setTick_tap (t : TickGen) : (s.setTick t).tap = s.tap := (rfl)

@[simp] theorem State.setTime_pending (t : TimeBase) : (s.setTime t).pending = s.pending := (rfl)
@[simp] theorem State.setTime_out (t : TimeBase) : (s.setTime t).out = s.out := (rfl)
@[simp] theorem State.setTime_freeCtr (t : TimeBase) : (s.setTime t).freeCtr = s.freeCtr := (rfl)
@[simp] theorem State.setTime_cmdId (t : TimeBase) : (s.setTime t).cmdId = s.cmdId := (rfl)
@[simp] theorem State.setTime_regs (t : TimeBase) : (s.setTime t).regs = s.regs := (rfl)
@[simp] theorem State.setTime_cnt (t : TimeBase) : (s.setTime t).cnt = s.cnt := (rfl)
@[simp] theorem State.setTime_bank (t : TimeBase) : (s.setTime t).bank = s.bank := (rfl)
@[simp] theorem State.setTime_arb (t : TimeBase) : (s.setTime t).arb = s.arb := (rfl)
@[simp] theorem State.setTime_fns (t : TimeBase) : (s.setTime t).fns = s.fns := (rfl)
@[simp] theorem State.setTime_tick (t : TimeBase) : (s.setTime t).tick = s.tick := (rfl)
@[simp] theorem State.setTime_pon (t : TimeBase) : (s.setTime t).pon = s.pon := (rfl)
@[simp] theorem State.setTime_alloc (t : TimeBase) : (s.setTime t).alloc = s.alloc := (rfl)
@[simp] theorem State.setTime_bonding (t : TimeBase) : (s.setTime t).bonding = s.bonding := (rfl)
@[simp] theorem State.setTime_buf (t : TimeBase) : (s.setTime t).buf = s.buf := (rfl)
@[simp] theorem State.setTime_chan (t : TimeBase) : (s.setTime t).chan = s.chan := (rfl)
@[simp] theorem State.setTime_sched (t : TimeBase) : (s.setTime t).sched = s.sched := (rfl)
@[simp] theorem State.setTime_clsIn (t : TimeBase) : (s.setTime t).clsIn = s.clsIn := (rfl)
@[simp] theorem State.setTime_cls (t : TimeBase) : (s.setTime t).cls = s.cls := (rfl)
@[simp] theorem State.setTime_fwd (t : TimeBase) : (s.setTime t).fwd = s.fwd := (rfl)
@[simp] theorem State.setTime_running (t : TimeBase) : (s.setTime t).running = s.running := (rfl)
@[simp] theorem State.setTime_vec (t : TimeBase) : (s.setTime t).vec = s.vec := (rfl)
@[simp] theorem State.setTime_svl (t : TimeBase) : (s.setTime t).svl = s.svl := (rfl)
@[simp] theorem State.setTime_testLanes (t : TimeBase) : (s.setTime t).testLanes = s.testLanes := (rfl)
@[simp] theorem State.setTime_mac (t : TimeBase) : (s.setTime t).mac = s.mac := (rfl)
@[simp] theorem State.setTime_lanes (t : TimeBase) : (s.setTime t).lanes = s.lanes := (rfl)
@[simp] theorem State.setTime_pwr (t : TimeBase) : (s.setTime t).pwr = s.pwr := (rfl)
@[simp] theorem State.setTime_mem (t : TimeBase) : (s.setTime t).mem = s.mem := (rfl)
@[simp] theorem State.setTime_ciph (t : TimeBase) : (s.setTime t).ciph = s.ciph := (rfl)
@[simp] theorem State.setTime_boot (t : TimeBase) : (s.setTime t).boot = s.boot := (rfl)
@[simp] theorem State.setTime_jrn (t : TimeBase) : (s.setTime t).jrn = s.jrn := (rfl)
@[simp] theorem State.setTime_tap (t : TimeBase) : (s.setTime t).tap = s.tap := (rfl)

@[simp] theorem State.setLane_pending (l : Nat) (x : Lane) : (s.setLane l x).pending = s.pending := (rfl)
@[simp] theorem State.setLane_out (l : Nat) (x : Lane) : (s.setLane l x).out = s.out := (rfl)
@[simp] theorem State.setLane_freeCtr (l : Nat) (x : Lane) : (s.setLane l x).freeCtr = s.freeCtr := (rfl)
@[simp] theorem State.setLane_cmdId (l : Nat) (x : Lane) : (s.setLane l x).cmdId = s.cmdId := (rfl)
@[simp] theorem State.setLane_regs (l : Nat) (x : Lane) : (s.setLane l x).regs = s.regs := (rfl)
@[simp] theorem State.setLane_cnt (l : Nat) (x : Lane) : (s.setLane l x).cnt = s.cnt := (rfl)
@[simp] theorem State.setLane_bank (l : Nat) (x : Lane) : (s.setLane l x).bank = s.bank := (rfl)
@[simp] theorem State.setLane_arb (l : Nat) (x : Lane) : (s.setLane l x).arb = s.arb := (rfl)
@[simp] theorem State.setLane_fns (l : Nat) (x : Lane) : (s.setLane l x).fns = s.fns := (rfl)
@[simp] theorem State.setLane_tick (l : Nat) (x : Lane) : (s.setLane l x).tick = s.tick := (rfl)
@[simp] theorem State.setLane_pon (l : Nat) (x : Lane) : (s.setLane l x).pon = s.pon := (rfl)
@[simp] theorem State.setLane_alloc (l : Nat) (x : Lane) : (s.setLane l x).alloc = s.alloc := (rfl)
@[simp] theorem State.setLane_bonding (l : Nat) (x : Lane) : (s.setLane l x).bonding = s.bonding := (rfl)
@[simp] theorem State.setLane_buf (l : Nat) (x : Lane) : (s.setLane l x).buf = s.buf := (rfl)
@[simp] theorem State.setLane_chan (l : Nat) (x : Lane) : (s.setLane l x).chan = s.chan := (rfl)
@[simp] theorem State.setLane_sched (l : Nat) (x : Lane) : (s.setLane l x).sched = s.sched := (rfl)
@[simp] theorem State.setLane_time (l : Nat) (x : Lane) : (s.setLane l x).time = s.time := (rfl)
@[simp] theorem State.setLane_clsIn (l : Nat) (x : Lane) : (s.setLane l x).clsIn = s.clsIn := (rfl)
@[simp] theorem State.setLane_cls (l : Nat) (x : Lane) : (s.setLane l x).cls = s.cls := (rfl)
@[simp] theorem State.setLane_fwd (l : Nat) (x : Lane) : (s.setLane l x).fwd = s.fwd := (rfl)
@[simp] theorem State.setLane_running (l : Nat) (x : Lane) : (s.setLane l x).running = s.running := (rfl)
@[simp] theorem State.setLane_vec (l : Nat) (x : Lane) : (s.setLane l x).vec = s.vec := (rfl)
@[simp] theorem State.setLane_svl (l : Nat) (x : Lane) : (s.setLane l x).svl = s.svl := (rfl)
@[simp] theorem State.setLane_testLanes (l : Nat) (x : Lane) : (s.setLane l x).testLanes = s.testLanes := (rfl)
@[simp] theorem State.setLane_mac (l : Nat) (x : Lane) : (s.setLane l x).mac = s.mac := (rfl)
@[simp] theorem State.setLane_pwr (l : Nat) (x : Lane) : (s.setLane l x).pwr = s.pwr := (rfl)
@[simp] theorem State.setLane_mem (l : Nat) (x : Lane) : (s.setLane l x).mem = s.mem := (rfl)
@[simp] theorem State.setLane_ciph (l : Nat) (x : Lane) : (s.setLane l x).ciph = s.ciph := (rfl)
@[simp] theorem State.setLane_boot (l : Nat) (x : Lane) : (s.setLane l x).boot = s.boot := (rfl)
@[simp] theorem State.setLane_jrn (l : Nat) (x : Lane) : (s.setLane l x).jrn = s.jrn := (rfl)
@[simp] theorem State.setLane_tap (l : Nat) (x : Lane) : (s.setLane l x).tap = s.tap := (rfl)

@[simp] theorem State.setCls_pending (c : Classifier) : (s.setCls c).pending = s.pending := (rfl)
@[simp] theorem State.setCls_out (c : Classifier) : (s.setCls c).out = s.out := (rfl)
@[simp] theorem State.setCls_freeCtr (c : Classifier) : (s.setCls c).freeCtr = s.freeCtr := (rfl)
@[simp] theorem State.setCls_cmdId (c : Classifier) : (s.setCls c).cmdId = s.cmdId := (rfl)
@[simp] theorem State.setCls_regs (c : Classifier) : (s.setCls c).regs = s.regs := (rfl)
@[simp] theorem State.setCls_cnt (c : Classifier) : (s.setCls c).cnt = s.cnt := (rfl)
@[simp] theorem State.setCls_bank (c : Classifier) : (s.setCls c).bank = s.bank := (rfl)
@[simp] theorem State.setCls_arb (c : Classifier) : (s.setCls c).arb = s.arb := (rfl)
@[simp] theorem State.setCls_fns (c : Classifier) : (s.setCls c).fns = s.fns := (rfl)
@[simp] theorem State.setCls_tick (c : Classifier) : (s.setCls c).tick = s.tick := (rfl)
@[simp] theorem State.setCls_pon (c : Classifier) : (s.setCls c).pon = s.pon := (rfl)
@[simp] theorem State.setCls_alloc (c : Classifier) : (s.setCls c).alloc = s.alloc := (rfl)
@[simp] theorem State.setCls_bonding (c : Classifier) : (s.setCls c).bonding = s.bonding := (rfl)
@[simp] theorem State.setCls_buf (c : Classifier) : (s.setCls c).buf = s.buf := (rfl)
@[simp] theorem State.setCls_chan (c : Classifier) : (s.setCls c).chan = s.chan := (rfl)
@[simp] theorem State.setCls_sched (c : Classifier) : (s.setCls c).sched = s.sched := (rfl)
@[simp] theorem State.setCls_time (c : Classifier) : (s.setCls c).time = s.time := (rfl)
@[simp] theorem State.setCls_clsIn (c : Classifier) : (s.setCls c).clsIn = s.clsIn := (rfl)
@[simp] theorem State.setCls_fwd (c : Classifier) : (s.setCls c).fwd = s.fwd := (rfl)
@[simp] theorem State.setCls_running (c : Classifier) : (s.setCls c).running = s.running := (rfl)
@[simp] theorem State.setCls_vec (c : Classifier) : (s.setCls c).vec = s.vec := (rfl)
@[simp] theorem State.setCls_svl (c : Classifier) : (s.setCls c).svl = s.svl := (rfl)
@[simp] theorem State.setCls_testLanes (c : Classifier) : (s.setCls c).testLanes = s.testLanes := (rfl)
@[simp] theorem State.setCls_mac (c : Classifier) : (s.setCls c).mac = s.mac := (rfl)
@[simp] theorem State.setCls_lanes (c : Classifier) : (s.setCls c).lanes = s.lanes := (rfl)
@[simp] theorem State.setCls_pwr (c : Classifier) : (s.setCls c).pwr = s.pwr := (rfl)
@[simp] theorem State.setCls_mem (c : Classifier) : (s.setCls c).mem = s.mem := (rfl)
@[simp] theorem State.setCls_ciph (c : Classifier) : (s.setCls c).ciph = s.ciph := (rfl)
@[simp] theorem State.setCls_boot (c : Classifier) : (s.setCls c).boot = s.boot := (rfl)
@[simp] theorem State.setCls_jrn (c : Classifier) : (s.setCls c).jrn = s.jrn := (rfl)
@[simp] theorem State.setCls_tap (c : Classifier) : (s.setCls c).tap = s.tap := (rfl)

@[simp] theorem State.setFwd_pending (x : Fwd) : (s.setFwd x).pending = s.pending := (rfl)
@[simp] theorem State.setFwd_out (x : Fwd) : (s.setFwd x).out = s.out := (rfl)
@[simp] theorem State.setFwd_freeCtr (x : Fwd) : (s.setFwd x).freeCtr = s.freeCtr := (rfl)
@[simp] theorem State.setFwd_cmdId (x : Fwd) : (s.setFwd x).cmdId = s.cmdId := (rfl)
@[simp] theorem State.setFwd_regs (x : Fwd) : (s.setFwd x).regs = s.regs := (rfl)
@[simp] theorem State.setFwd_cnt (x : Fwd) : (s.setFwd x).cnt = s.cnt := (rfl)
@[simp] theorem State.setFwd_bank (x : Fwd) : (s.setFwd x).bank = s.bank := (rfl)
@[simp] theorem State.setFwd_arb (x : Fwd) : (s.setFwd x).arb = s.arb := (rfl)
@[simp] theorem State.setFwd_fns (x : Fwd) : (s.setFwd x).fns = s.fns := (rfl)
@[simp] theorem State.setFwd_tick (x : Fwd) : (s.setFwd x).tick = s.tick := (rfl)
@[simp] theorem State.setFwd_pon (x : Fwd) : (s.setFwd x).pon = s.pon := (rfl)
@[simp] theorem State.setFwd_alloc (x : Fwd) : (s.setFwd x).alloc = s.alloc := (rfl)
@[simp] theorem State.setFwd_bonding (x : Fwd) : (s.setFwd x).bonding = s.bonding := (rfl)
@[simp] theorem State.setFwd_buf (x : Fwd) : (s.setFwd x).buf = s.buf := (rfl)
@[simp] theorem State.setFwd_chan (x : Fwd) : (s.setFwd x).chan = s.chan := (rfl)
@[simp] theorem State.setFwd_sched (x : Fwd) : (s.setFwd x).sched = s.sched := (rfl)
@[simp] theorem State.setFwd_time (x : Fwd) : (s.setFwd x).time = s.time := (rfl)
@[simp] theorem State.setFwd_clsIn (x : Fwd) : (s.setFwd x).clsIn = s.clsIn := (rfl)
@[simp] theorem State.setFwd_cls (x : Fwd) : (s.setFwd x).cls = s.cls := (rfl)
@[simp] theorem State.setFwd_running (x : Fwd) : (s.setFwd x).running = s.running := (rfl)
@[simp] theorem State.setFwd_vec (x : Fwd) : (s.setFwd x).vec = s.vec := (rfl)
@[simp] theorem State.setFwd_svl (x : Fwd) : (s.setFwd x).svl = s.svl := (rfl)
@[simp] theorem State.setFwd_testLanes (x : Fwd) : (s.setFwd x).testLanes = s.testLanes := (rfl)
@[simp] theorem State.setFwd_mac (x : Fwd) : (s.setFwd x).mac = s.mac := (rfl)
@[simp] theorem State.setFwd_lanes (x : Fwd) : (s.setFwd x).lanes = s.lanes := (rfl)
@[simp] theorem State.setFwd_pwr (x : Fwd) : (s.setFwd x).pwr = s.pwr := (rfl)
@[simp] theorem State.setFwd_mem (x : Fwd) : (s.setFwd x).mem = s.mem := (rfl)
@[simp] theorem State.setFwd_ciph (x : Fwd) : (s.setFwd x).ciph = s.ciph := (rfl)
@[simp] theorem State.setFwd_boot (x : Fwd) : (s.setFwd x).boot = s.boot := (rfl)
@[simp] theorem State.setFwd_jrn (x : Fwd) : (s.setFwd x).jrn = s.jrn := (rfl)
@[simp] theorem State.setFwd_tap (x : Fwd) : (s.setFwd x).tap = s.tap := (rfl)

@[simp] theorem State.setVec_pending (v : VecSched) : (s.setVec v).pending = s.pending := (rfl)
@[simp] theorem State.setVec_out (v : VecSched) : (s.setVec v).out = s.out := (rfl)
@[simp] theorem State.setVec_freeCtr (v : VecSched) : (s.setVec v).freeCtr = s.freeCtr := (rfl)
@[simp] theorem State.setVec_cmdId (v : VecSched) : (s.setVec v).cmdId = s.cmdId := (rfl)
@[simp] theorem State.setVec_regs (v : VecSched) : (s.setVec v).regs = s.regs := (rfl)
@[simp] theorem State.setVec_cnt (v : VecSched) : (s.setVec v).cnt = s.cnt := (rfl)
@[simp] theorem State.setVec_bank (v : VecSched) : (s.setVec v).bank = s.bank := (rfl)
@[simp] theorem State.setVec_arb (v : VecSched) : (s.setVec v).arb = s.arb := (rfl)
@[simp] theorem State.setVec_fns (v : VecSched) : (s.setVec v).fns = s.fns := (rfl)
@[simp] theorem State.setVec_tick (v : VecSched) : (s.setVec v).tick = s.tick := (rfl)
@[simp] theorem State.setVec_pon (v : VecSched) : (s.setVec v).pon = s.pon := (rfl)
@[simp] theorem State.setVec_alloc (v : VecSched) : (s.setVec v).alloc = s.alloc := (rfl)
@[simp] theorem State.setVec_bonding (v : VecSched) : (s.setVec v).bonding = s.bonding := (rfl)
@[simp] theorem State.setVec_buf (v : VecSched) : (s.setVec v).buf = s.buf := (rfl)
@[simp] theorem State.setVec_chan (v : VecSched) : (s.setVec v).chan = s.chan := (rfl)
@[simp] theorem State.setVec_sched (v : VecSched) : (s.setVec v).sched = s.sched := (rfl)
@[simp] theorem State.setVec_time (v : VecSched) : (s.setVec v).time = s.time := (rfl)
@[simp] theorem State.setVec_clsIn (v : VecSched) : (s.setVec v).clsIn = s.clsIn := (rfl)
@[simp] theorem State.setVec_cls (v : VecSched) : (s.setVec v).cls = s.cls := (rfl)
@[simp] theorem State.setVec_fwd (v : VecSched) : (s.setVec v).fwd = s.fwd := (rfl)
@[simp] theorem State.setVec_running (v : VecSched) : (s.setVec v).running = s.running := (rfl)
@[simp] theorem State.setVec_svl (v : VecSched) : (s.setVec v).svl = s.svl := (rfl)
@[simp] theorem State.setVec_testLanes (v : VecSched) : (s.setVec v).testLanes = s.testLanes := (rfl)
@[simp] theorem State.setVec_mac (v : VecSched) : (s.setVec v).mac = s.mac := (rfl)
@[simp] theorem State.setVec_lanes (v : VecSched) : (s.setVec v).lanes = s.lanes := (rfl)
@[simp] theorem State.setVec_pwr (v : VecSched) : (s.setVec v).pwr = s.pwr := (rfl)
@[simp] theorem State.setVec_mem (v : VecSched) : (s.setVec v).mem = s.mem := (rfl)
@[simp] theorem State.setVec_ciph (v : VecSched) : (s.setVec v).ciph = s.ciph := (rfl)
@[simp] theorem State.setVec_boot (v : VecSched) : (s.setVec v).boot = s.boot := (rfl)
@[simp] theorem State.setVec_jrn (v : VecSched) : (s.setVec v).jrn = s.jrn := (rfl)
@[simp] theorem State.setVec_tap (v : VecSched) : (s.setVec v).tap = s.tap := (rfl)

@[simp] theorem State.setEng_pending (e : Nat) (x : Eng) : (s.setEng e x).pending = s.pending := (rfl)
@[simp] theorem State.setEng_out (e : Nat) (x : Eng) : (s.setEng e x).out = s.out := (rfl)
@[simp] theorem State.setEng_freeCtr (e : Nat) (x : Eng) : (s.setEng e x).freeCtr = s.freeCtr := (rfl)
@[simp] theorem State.setEng_cmdId (e : Nat) (x : Eng) : (s.setEng e x).cmdId = s.cmdId := (rfl)
@[simp] theorem State.setEng_regs (e : Nat) (x : Eng) : (s.setEng e x).regs = s.regs := (rfl)
@[simp] theorem State.setEng_cnt (e : Nat) (x : Eng) : (s.setEng e x).cnt = s.cnt := (rfl)
@[simp] theorem State.setEng_bank (e : Nat) (x : Eng) : (s.setEng e x).bank = s.bank := (rfl)
@[simp] theorem State.setEng_arb (e : Nat) (x : Eng) : (s.setEng e x).arb = s.arb := (rfl)
@[simp] theorem State.setEng_fns (e : Nat) (x : Eng) : (s.setEng e x).fns = s.fns := (rfl)
@[simp] theorem State.setEng_tick (e : Nat) (x : Eng) : (s.setEng e x).tick = s.tick := (rfl)
@[simp] theorem State.setEng_pon (e : Nat) (x : Eng) : (s.setEng e x).pon = s.pon := (rfl)
@[simp] theorem State.setEng_alloc (e : Nat) (x : Eng) : (s.setEng e x).alloc = s.alloc := (rfl)
@[simp] theorem State.setEng_bonding (e : Nat) (x : Eng) : (s.setEng e x).bonding = s.bonding := (rfl)
@[simp] theorem State.setEng_buf (e : Nat) (x : Eng) : (s.setEng e x).buf = s.buf := (rfl)
@[simp] theorem State.setEng_chan (e : Nat) (x : Eng) : (s.setEng e x).chan = s.chan := (rfl)
@[simp] theorem State.setEng_sched (e : Nat) (x : Eng) : (s.setEng e x).sched = s.sched := (rfl)
@[simp] theorem State.setEng_time (e : Nat) (x : Eng) : (s.setEng e x).time = s.time := (rfl)
@[simp] theorem State.setEng_clsIn (e : Nat) (x : Eng) : (s.setEng e x).clsIn = s.clsIn := (rfl)
@[simp] theorem State.setEng_cls (e : Nat) (x : Eng) : (s.setEng e x).cls = s.cls := (rfl)
@[simp] theorem State.setEng_fwd (e : Nat) (x : Eng) : (s.setEng e x).fwd = s.fwd := (rfl)
@[simp] theorem State.setEng_running (e : Nat) (x : Eng) : (s.setEng e x).running = s.running := (rfl)
@[simp] theorem State.setEng_svl (e : Nat) (x : Eng) : (s.setEng e x).svl = s.svl := (rfl)
@[simp] theorem State.setEng_testLanes (e : Nat) (x : Eng) : (s.setEng e x).testLanes = s.testLanes := (rfl)
@[simp] theorem State.setEng_mac (e : Nat) (x : Eng) : (s.setEng e x).mac = s.mac := (rfl)
@[simp] theorem State.setEng_lanes (e : Nat) (x : Eng) : (s.setEng e x).lanes = s.lanes := (rfl)
@[simp] theorem State.setEng_pwr (e : Nat) (x : Eng) : (s.setEng e x).pwr = s.pwr := (rfl)
@[simp] theorem State.setEng_mem (e : Nat) (x : Eng) : (s.setEng e x).mem = s.mem := (rfl)
@[simp] theorem State.setEng_ciph (e : Nat) (x : Eng) : (s.setEng e x).ciph = s.ciph := (rfl)
@[simp] theorem State.setEng_boot (e : Nat) (x : Eng) : (s.setEng e x).boot = s.boot := (rfl)
@[simp] theorem State.setEng_jrn (e : Nat) (x : Eng) : (s.setEng e x).jrn = s.jrn := (rfl)
@[simp] theorem State.setEng_tap (e : Nat) (x : Eng) : (s.setEng e x).tap = s.tap := (rfl)

@[simp] theorem State.setVg_pending (g : Nat) (x : Group) : (s.setVg g x).pending = s.pending := (rfl)
@[simp] theorem State.setVg_out (g : Nat) (x : Group) : (s.setVg g x).out = s.out := (rfl)
@[simp] theorem State.setVg_freeCtr (g : Nat) (x : Group) : (s.setVg g x).freeCtr = s.freeCtr := (rfl)
@[simp] theorem State.setVg_cmdId (g : Nat) (x : Group) : (s.setVg g x).cmdId = s.cmdId := (rfl)
@[simp] theorem State.setVg_regs (g : Nat) (x : Group) : (s.setVg g x).regs = s.regs := (rfl)
@[simp] theorem State.setVg_cnt (g : Nat) (x : Group) : (s.setVg g x).cnt = s.cnt := (rfl)
@[simp] theorem State.setVg_bank (g : Nat) (x : Group) : (s.setVg g x).bank = s.bank := (rfl)
@[simp] theorem State.setVg_arb (g : Nat) (x : Group) : (s.setVg g x).arb = s.arb := (rfl)
@[simp] theorem State.setVg_fns (g : Nat) (x : Group) : (s.setVg g x).fns = s.fns := (rfl)
@[simp] theorem State.setVg_tick (g : Nat) (x : Group) : (s.setVg g x).tick = s.tick := (rfl)
@[simp] theorem State.setVg_pon (g : Nat) (x : Group) : (s.setVg g x).pon = s.pon := (rfl)
@[simp] theorem State.setVg_alloc (g : Nat) (x : Group) : (s.setVg g x).alloc = s.alloc := (rfl)
@[simp] theorem State.setVg_bonding (g : Nat) (x : Group) : (s.setVg g x).bonding = s.bonding := (rfl)
@[simp] theorem State.setVg_buf (g : Nat) (x : Group) : (s.setVg g x).buf = s.buf := (rfl)
@[simp] theorem State.setVg_chan (g : Nat) (x : Group) : (s.setVg g x).chan = s.chan := (rfl)
@[simp] theorem State.setVg_sched (g : Nat) (x : Group) : (s.setVg g x).sched = s.sched := (rfl)
@[simp] theorem State.setVg_time (g : Nat) (x : Group) : (s.setVg g x).time = s.time := (rfl)
@[simp] theorem State.setVg_clsIn (g : Nat) (x : Group) : (s.setVg g x).clsIn = s.clsIn := (rfl)
@[simp] theorem State.setVg_cls (g : Nat) (x : Group) : (s.setVg g x).cls = s.cls := (rfl)
@[simp] theorem State.setVg_fwd (g : Nat) (x : Group) : (s.setVg g x).fwd = s.fwd := (rfl)
@[simp] theorem State.setVg_running (g : Nat) (x : Group) : (s.setVg g x).running = s.running := (rfl)
@[simp] theorem State.setVg_svl (g : Nat) (x : Group) : (s.setVg g x).svl = s.svl := (rfl)
@[simp] theorem State.setVg_testLanes (g : Nat) (x : Group) : (s.setVg g x).testLanes = s.testLanes := (rfl)
@[simp] theorem State.setVg_mac (g : Nat) (x : Group) : (s.setVg g x).mac = s.mac := (rfl)
@[simp] theorem State.setVg_lanes (g : Nat) (x : Group) : (s.setVg g x).lanes = s.lanes := (rfl)
@[simp] theorem State.setVg_pwr (g : Nat) (x : Group) : (s.setVg g x).pwr = s.pwr := (rfl)
@[simp] theorem State.setVg_mem (g : Nat) (x : Group) : (s.setVg g x).mem = s.mem := (rfl)
@[simp] theorem State.setVg_ciph (g : Nat) (x : Group) : (s.setVg g x).ciph = s.ciph := (rfl)
@[simp] theorem State.setVg_boot (g : Nat) (x : Group) : (s.setVg g x).boot = s.boot := (rfl)
@[simp] theorem State.setVg_jrn (g : Nat) (x : Group) : (s.setVg g x).jrn = s.jrn := (rfl)
@[simp] theorem State.setVg_tap (g : Nat) (x : Group) : (s.setVg g x).tap = s.tap := (rfl)

@[simp] theorem State.setSlab_pending (e : Nat) (b : Slab) : (s.setSlab e b).pending = s.pending := (rfl)
@[simp] theorem State.setSlab_out (e : Nat) (b : Slab) : (s.setSlab e b).out = s.out := (rfl)
@[simp] theorem State.setSlab_freeCtr (e : Nat) (b : Slab) : (s.setSlab e b).freeCtr = s.freeCtr := (rfl)
@[simp] theorem State.setSlab_cmdId (e : Nat) (b : Slab) : (s.setSlab e b).cmdId = s.cmdId := (rfl)
@[simp] theorem State.setSlab_regs (e : Nat) (b : Slab) : (s.setSlab e b).regs = s.regs := (rfl)
@[simp] theorem State.setSlab_cnt (e : Nat) (b : Slab) : (s.setSlab e b).cnt = s.cnt := (rfl)
@[simp] theorem State.setSlab_bank (e : Nat) (b : Slab) : (s.setSlab e b).bank = s.bank := (rfl)
@[simp] theorem State.setSlab_arb (e : Nat) (b : Slab) : (s.setSlab e b).arb = s.arb := (rfl)
@[simp] theorem State.setSlab_fns (e : Nat) (b : Slab) : (s.setSlab e b).fns = s.fns := (rfl)
@[simp] theorem State.setSlab_tick (e : Nat) (b : Slab) : (s.setSlab e b).tick = s.tick := (rfl)
@[simp] theorem State.setSlab_pon (e : Nat) (b : Slab) : (s.setSlab e b).pon = s.pon := (rfl)
@[simp] theorem State.setSlab_alloc (e : Nat) (b : Slab) : (s.setSlab e b).alloc = s.alloc := (rfl)
@[simp] theorem State.setSlab_bonding (e : Nat) (b : Slab) : (s.setSlab e b).bonding = s.bonding := (rfl)
@[simp] theorem State.setSlab_buf (e : Nat) (b : Slab) : (s.setSlab e b).buf = s.buf := (rfl)
@[simp] theorem State.setSlab_chan (e : Nat) (b : Slab) : (s.setSlab e b).chan = s.chan := (rfl)
@[simp] theorem State.setSlab_sched (e : Nat) (b : Slab) : (s.setSlab e b).sched = s.sched := (rfl)
@[simp] theorem State.setSlab_time (e : Nat) (b : Slab) : (s.setSlab e b).time = s.time := (rfl)
@[simp] theorem State.setSlab_clsIn (e : Nat) (b : Slab) : (s.setSlab e b).clsIn = s.clsIn := (rfl)
@[simp] theorem State.setSlab_cls (e : Nat) (b : Slab) : (s.setSlab e b).cls = s.cls := (rfl)
@[simp] theorem State.setSlab_fwd (e : Nat) (b : Slab) : (s.setSlab e b).fwd = s.fwd := (rfl)
@[simp] theorem State.setSlab_running (e : Nat) (b : Slab) : (s.setSlab e b).running = s.running := (rfl)
@[simp] theorem State.setSlab_svl (e : Nat) (b : Slab) : (s.setSlab e b).svl = s.svl := (rfl)
@[simp] theorem State.setSlab_testLanes (e : Nat) (b : Slab) : (s.setSlab e b).testLanes = s.testLanes := (rfl)
@[simp] theorem State.setSlab_mac (e : Nat) (b : Slab) : (s.setSlab e b).mac = s.mac := (rfl)
@[simp] theorem State.setSlab_lanes (e : Nat) (b : Slab) : (s.setSlab e b).lanes = s.lanes := (rfl)
@[simp] theorem State.setSlab_pwr (e : Nat) (b : Slab) : (s.setSlab e b).pwr = s.pwr := (rfl)
@[simp] theorem State.setSlab_mem (e : Nat) (b : Slab) : (s.setSlab e b).mem = s.mem := (rfl)
@[simp] theorem State.setSlab_ciph (e : Nat) (b : Slab) : (s.setSlab e b).ciph = s.ciph := (rfl)
@[simp] theorem State.setSlab_boot (e : Nat) (b : Slab) : (s.setSlab e b).boot = s.boot := (rfl)
@[simp] theorem State.setSlab_jrn (e : Nat) (b : Slab) : (s.setSlab e b).jrn = s.jrn := (rfl)
@[simp] theorem State.setSlab_tap (e : Nat) (b : Slab) : (s.setSlab e b).tap = s.tap := (rfl)

@[simp] theorem State.setSvlPort_pending (p : Nat) (x : SvlPort) : (s.setSvlPort p x).pending = s.pending := (rfl)
@[simp] theorem State.setSvlPort_out (p : Nat) (x : SvlPort) : (s.setSvlPort p x).out = s.out := (rfl)
@[simp] theorem State.setSvlPort_freeCtr (p : Nat) (x : SvlPort) : (s.setSvlPort p x).freeCtr = s.freeCtr := (rfl)
@[simp] theorem State.setSvlPort_cmdId (p : Nat) (x : SvlPort) : (s.setSvlPort p x).cmdId = s.cmdId := (rfl)
@[simp] theorem State.setSvlPort_regs (p : Nat) (x : SvlPort) : (s.setSvlPort p x).regs = s.regs := (rfl)
@[simp] theorem State.setSvlPort_cnt (p : Nat) (x : SvlPort) : (s.setSvlPort p x).cnt = s.cnt := (rfl)
@[simp] theorem State.setSvlPort_bank (p : Nat) (x : SvlPort) : (s.setSvlPort p x).bank = s.bank := (rfl)
@[simp] theorem State.setSvlPort_arb (p : Nat) (x : SvlPort) : (s.setSvlPort p x).arb = s.arb := (rfl)
@[simp] theorem State.setSvlPort_fns (p : Nat) (x : SvlPort) : (s.setSvlPort p x).fns = s.fns := (rfl)
@[simp] theorem State.setSvlPort_tick (p : Nat) (x : SvlPort) : (s.setSvlPort p x).tick = s.tick := (rfl)
@[simp] theorem State.setSvlPort_pon (p : Nat) (x : SvlPort) : (s.setSvlPort p x).pon = s.pon := (rfl)
@[simp] theorem State.setSvlPort_alloc (p : Nat) (x : SvlPort) : (s.setSvlPort p x).alloc = s.alloc := (rfl)
@[simp] theorem State.setSvlPort_bonding (p : Nat) (x : SvlPort) : (s.setSvlPort p x).bonding = s.bonding := (rfl)
@[simp] theorem State.setSvlPort_buf (p : Nat) (x : SvlPort) : (s.setSvlPort p x).buf = s.buf := (rfl)
@[simp] theorem State.setSvlPort_chan (p : Nat) (x : SvlPort) : (s.setSvlPort p x).chan = s.chan := (rfl)
@[simp] theorem State.setSvlPort_sched (p : Nat) (x : SvlPort) : (s.setSvlPort p x).sched = s.sched := (rfl)
@[simp] theorem State.setSvlPort_time (p : Nat) (x : SvlPort) : (s.setSvlPort p x).time = s.time := (rfl)
@[simp] theorem State.setSvlPort_clsIn (p : Nat) (x : SvlPort) : (s.setSvlPort p x).clsIn = s.clsIn := (rfl)
@[simp] theorem State.setSvlPort_cls (p : Nat) (x : SvlPort) : (s.setSvlPort p x).cls = s.cls := (rfl)
@[simp] theorem State.setSvlPort_fwd (p : Nat) (x : SvlPort) : (s.setSvlPort p x).fwd = s.fwd := (rfl)
@[simp] theorem State.setSvlPort_running (p : Nat) (x : SvlPort) : (s.setSvlPort p x).running = s.running := (rfl)
@[simp] theorem State.setSvlPort_vec (p : Nat) (x : SvlPort) : (s.setSvlPort p x).vec = s.vec := (rfl)
@[simp] theorem State.setSvlPort_testLanes (p : Nat) (x : SvlPort) : (s.setSvlPort p x).testLanes = s.testLanes := (rfl)
@[simp] theorem State.setSvlPort_mac (p : Nat) (x : SvlPort) : (s.setSvlPort p x).mac = s.mac := (rfl)
@[simp] theorem State.setSvlPort_lanes (p : Nat) (x : SvlPort) : (s.setSvlPort p x).lanes = s.lanes := (rfl)
@[simp] theorem State.setSvlPort_pwr (p : Nat) (x : SvlPort) : (s.setSvlPort p x).pwr = s.pwr := (rfl)
@[simp] theorem State.setSvlPort_mem (p : Nat) (x : SvlPort) : (s.setSvlPort p x).mem = s.mem := (rfl)
@[simp] theorem State.setSvlPort_ciph (p : Nat) (x : SvlPort) : (s.setSvlPort p x).ciph = s.ciph := (rfl)
@[simp] theorem State.setSvlPort_boot (p : Nat) (x : SvlPort) : (s.setSvlPort p x).boot = s.boot := (rfl)
@[simp] theorem State.setSvlPort_jrn (p : Nat) (x : SvlPort) : (s.setSvlPort p x).jrn = s.jrn := (rfl)
@[simp] theorem State.setSvlPort_tap (p : Nat) (x : SvlPort) : (s.setSvlPort p x).tap = s.tap := (rfl)

@[simp] theorem State.setSlot_pending (i : Nat) (k : KeySlot) : (s.setSlot i k).pending = s.pending := (rfl)
@[simp] theorem State.setSlot_out (i : Nat) (k : KeySlot) : (s.setSlot i k).out = s.out := (rfl)
@[simp] theorem State.setSlot_freeCtr (i : Nat) (k : KeySlot) : (s.setSlot i k).freeCtr = s.freeCtr := (rfl)
@[simp] theorem State.setSlot_cmdId (i : Nat) (k : KeySlot) : (s.setSlot i k).cmdId = s.cmdId := (rfl)
@[simp] theorem State.setSlot_regs (i : Nat) (k : KeySlot) : (s.setSlot i k).regs = s.regs := (rfl)
@[simp] theorem State.setSlot_cnt (i : Nat) (k : KeySlot) : (s.setSlot i k).cnt = s.cnt := (rfl)
@[simp] theorem State.setSlot_bank (i : Nat) (k : KeySlot) : (s.setSlot i k).bank = s.bank := (rfl)
@[simp] theorem State.setSlot_arb (i : Nat) (k : KeySlot) : (s.setSlot i k).arb = s.arb := (rfl)
@[simp] theorem State.setSlot_fns (i : Nat) (k : KeySlot) : (s.setSlot i k).fns = s.fns := (rfl)
@[simp] theorem State.setSlot_tick (i : Nat) (k : KeySlot) : (s.setSlot i k).tick = s.tick := (rfl)
@[simp] theorem State.setSlot_pon (i : Nat) (k : KeySlot) : (s.setSlot i k).pon = s.pon := (rfl)
@[simp] theorem State.setSlot_alloc (i : Nat) (k : KeySlot) : (s.setSlot i k).alloc = s.alloc := (rfl)
@[simp] theorem State.setSlot_bonding (i : Nat) (k : KeySlot) : (s.setSlot i k).bonding = s.bonding := (rfl)
@[simp] theorem State.setSlot_buf (i : Nat) (k : KeySlot) : (s.setSlot i k).buf = s.buf := (rfl)
@[simp] theorem State.setSlot_chan (i : Nat) (k : KeySlot) : (s.setSlot i k).chan = s.chan := (rfl)
@[simp] theorem State.setSlot_sched (i : Nat) (k : KeySlot) : (s.setSlot i k).sched = s.sched := (rfl)
@[simp] theorem State.setSlot_time (i : Nat) (k : KeySlot) : (s.setSlot i k).time = s.time := (rfl)
@[simp] theorem State.setSlot_clsIn (i : Nat) (k : KeySlot) : (s.setSlot i k).clsIn = s.clsIn := (rfl)
@[simp] theorem State.setSlot_cls (i : Nat) (k : KeySlot) : (s.setSlot i k).cls = s.cls := (rfl)
@[simp] theorem State.setSlot_fwd (i : Nat) (k : KeySlot) : (s.setSlot i k).fwd = s.fwd := (rfl)
@[simp] theorem State.setSlot_running (i : Nat) (k : KeySlot) : (s.setSlot i k).running = s.running := (rfl)
@[simp] theorem State.setSlot_vec (i : Nat) (k : KeySlot) : (s.setSlot i k).vec = s.vec := (rfl)
@[simp] theorem State.setSlot_svl (i : Nat) (k : KeySlot) : (s.setSlot i k).svl = s.svl := (rfl)
@[simp] theorem State.setSlot_testLanes (i : Nat) (k : KeySlot) : (s.setSlot i k).testLanes = s.testLanes := (rfl)
@[simp] theorem State.setSlot_mac (i : Nat) (k : KeySlot) : (s.setSlot i k).mac = s.mac := (rfl)
@[simp] theorem State.setSlot_lanes (i : Nat) (k : KeySlot) : (s.setSlot i k).lanes = s.lanes := (rfl)
@[simp] theorem State.setSlot_pwr (i : Nat) (k : KeySlot) : (s.setSlot i k).pwr = s.pwr := (rfl)
@[simp] theorem State.setSlot_mem (i : Nat) (k : KeySlot) : (s.setSlot i k).mem = s.mem := (rfl)
@[simp] theorem State.setSlot_boot (i : Nat) (k : KeySlot) : (s.setSlot i k).boot = s.boot := (rfl)
@[simp] theorem State.setSlot_jrn (i : Nat) (k : KeySlot) : (s.setSlot i k).jrn = s.jrn := (rfl)
@[simp] theorem State.setSlot_tap (i : Nat) (k : KeySlot) : (s.setSlot i k).tap = s.tap := (rfl)

@[simp] theorem State.setKeyWord_pending (i : Nat) (w : Codeword) : (s.setKeyWord i w).pending = s.pending := (rfl)
@[simp] theorem State.setKeyWord_out (i : Nat) (w : Codeword) : (s.setKeyWord i w).out = s.out := (rfl)
@[simp] theorem State.setKeyWord_freeCtr (i : Nat) (w : Codeword) : (s.setKeyWord i w).freeCtr = s.freeCtr := (rfl)
@[simp] theorem State.setKeyWord_cmdId (i : Nat) (w : Codeword) : (s.setKeyWord i w).cmdId = s.cmdId := (rfl)
@[simp] theorem State.setKeyWord_regs (i : Nat) (w : Codeword) : (s.setKeyWord i w).regs = s.regs := (rfl)
@[simp] theorem State.setKeyWord_cnt (i : Nat) (w : Codeword) : (s.setKeyWord i w).cnt = s.cnt := (rfl)
@[simp] theorem State.setKeyWord_bank (i : Nat) (w : Codeword) : (s.setKeyWord i w).bank = s.bank := (rfl)
@[simp] theorem State.setKeyWord_arb (i : Nat) (w : Codeword) : (s.setKeyWord i w).arb = s.arb := (rfl)
@[simp] theorem State.setKeyWord_fns (i : Nat) (w : Codeword) : (s.setKeyWord i w).fns = s.fns := (rfl)
@[simp] theorem State.setKeyWord_tick (i : Nat) (w : Codeword) : (s.setKeyWord i w).tick = s.tick := (rfl)
@[simp] theorem State.setKeyWord_pon (i : Nat) (w : Codeword) : (s.setKeyWord i w).pon = s.pon := (rfl)
@[simp] theorem State.setKeyWord_alloc (i : Nat) (w : Codeword) : (s.setKeyWord i w).alloc = s.alloc := (rfl)
@[simp] theorem State.setKeyWord_bonding (i : Nat) (w : Codeword) : (s.setKeyWord i w).bonding = s.bonding := (rfl)
@[simp] theorem State.setKeyWord_buf (i : Nat) (w : Codeword) : (s.setKeyWord i w).buf = s.buf := (rfl)
@[simp] theorem State.setKeyWord_chan (i : Nat) (w : Codeword) : (s.setKeyWord i w).chan = s.chan := (rfl)
@[simp] theorem State.setKeyWord_sched (i : Nat) (w : Codeword) : (s.setKeyWord i w).sched = s.sched := (rfl)
@[simp] theorem State.setKeyWord_time (i : Nat) (w : Codeword) : (s.setKeyWord i w).time = s.time := (rfl)
@[simp] theorem State.setKeyWord_clsIn (i : Nat) (w : Codeword) : (s.setKeyWord i w).clsIn = s.clsIn := (rfl)
@[simp] theorem State.setKeyWord_cls (i : Nat) (w : Codeword) : (s.setKeyWord i w).cls = s.cls := (rfl)
@[simp] theorem State.setKeyWord_fwd (i : Nat) (w : Codeword) : (s.setKeyWord i w).fwd = s.fwd := (rfl)
@[simp] theorem State.setKeyWord_running (i : Nat) (w : Codeword) : (s.setKeyWord i w).running = s.running := (rfl)
@[simp] theorem State.setKeyWord_vec (i : Nat) (w : Codeword) : (s.setKeyWord i w).vec = s.vec := (rfl)
@[simp] theorem State.setKeyWord_svl (i : Nat) (w : Codeword) : (s.setKeyWord i w).svl = s.svl := (rfl)
@[simp] theorem State.setKeyWord_testLanes (i : Nat) (w : Codeword) : (s.setKeyWord i w).testLanes = s.testLanes := (rfl)
@[simp] theorem State.setKeyWord_mac (i : Nat) (w : Codeword) : (s.setKeyWord i w).mac = s.mac := (rfl)
@[simp] theorem State.setKeyWord_lanes (i : Nat) (w : Codeword) : (s.setKeyWord i w).lanes = s.lanes := (rfl)
@[simp] theorem State.setKeyWord_pwr (i : Nat) (w : Codeword) : (s.setKeyWord i w).pwr = s.pwr := (rfl)
@[simp] theorem State.setKeyWord_mem (i : Nat) (w : Codeword) : (s.setKeyWord i w).mem = s.mem := (rfl)
@[simp] theorem State.setKeyWord_boot (i : Nat) (w : Codeword) : (s.setKeyWord i w).boot = s.boot := (rfl)
@[simp] theorem State.setKeyWord_jrn (i : Nat) (w : Codeword) : (s.setKeyWord i w).jrn = s.jrn := (rfl)
@[simp] theorem State.setKeyWord_tap (i : Nat) (w : Codeword) : (s.setKeyWord i w).tap = s.tap := (rfl)

@[simp] theorem State.setMem_pending (m : Mem) : (s.setMem m).pending = s.pending := (rfl)
@[simp] theorem State.setMem_out (m : Mem) : (s.setMem m).out = s.out := (rfl)
@[simp] theorem State.setMem_freeCtr (m : Mem) : (s.setMem m).freeCtr = s.freeCtr := (rfl)
@[simp] theorem State.setMem_cmdId (m : Mem) : (s.setMem m).cmdId = s.cmdId := (rfl)
@[simp] theorem State.setMem_regs (m : Mem) : (s.setMem m).regs = s.regs := (rfl)
@[simp] theorem State.setMem_cnt (m : Mem) : (s.setMem m).cnt = s.cnt := (rfl)
@[simp] theorem State.setMem_bank (m : Mem) : (s.setMem m).bank = s.bank := (rfl)
@[simp] theorem State.setMem_arb (m : Mem) : (s.setMem m).arb = s.arb := (rfl)
@[simp] theorem State.setMem_fns (m : Mem) : (s.setMem m).fns = s.fns := (rfl)
@[simp] theorem State.setMem_tick (m : Mem) : (s.setMem m).tick = s.tick := (rfl)
@[simp] theorem State.setMem_pon (m : Mem) : (s.setMem m).pon = s.pon := (rfl)
@[simp] theorem State.setMem_alloc (m : Mem) : (s.setMem m).alloc = s.alloc := (rfl)
@[simp] theorem State.setMem_bonding (m : Mem) : (s.setMem m).bonding = s.bonding := (rfl)
@[simp] theorem State.setMem_buf (m : Mem) : (s.setMem m).buf = s.buf := (rfl)
@[simp] theorem State.setMem_chan (m : Mem) : (s.setMem m).chan = s.chan := (rfl)
@[simp] theorem State.setMem_sched (m : Mem) : (s.setMem m).sched = s.sched := (rfl)
@[simp] theorem State.setMem_time (m : Mem) : (s.setMem m).time = s.time := (rfl)
@[simp] theorem State.setMem_clsIn (m : Mem) : (s.setMem m).clsIn = s.clsIn := (rfl)
@[simp] theorem State.setMem_cls (m : Mem) : (s.setMem m).cls = s.cls := (rfl)
@[simp] theorem State.setMem_fwd (m : Mem) : (s.setMem m).fwd = s.fwd := (rfl)
@[simp] theorem State.setMem_running (m : Mem) : (s.setMem m).running = s.running := (rfl)
@[simp] theorem State.setMem_vec (m : Mem) : (s.setMem m).vec = s.vec := (rfl)
@[simp] theorem State.setMem_svl (m : Mem) : (s.setMem m).svl = s.svl := (rfl)
@[simp] theorem State.setMem_testLanes (m : Mem) : (s.setMem m).testLanes = s.testLanes := (rfl)
@[simp] theorem State.setMem_mac (m : Mem) : (s.setMem m).mac = s.mac := (rfl)
@[simp] theorem State.setMem_lanes (m : Mem) : (s.setMem m).lanes = s.lanes := (rfl)
@[simp] theorem State.setMem_pwr (m : Mem) : (s.setMem m).pwr = s.pwr := (rfl)
@[simp] theorem State.setMem_ciph (m : Mem) : (s.setMem m).ciph = s.ciph := (rfl)
@[simp] theorem State.setMem_boot (m : Mem) : (s.setMem m).boot = s.boot := (rfl)
@[simp] theorem State.setMem_jrn (m : Mem) : (s.setMem m).jrn = s.jrn := (rfl)
@[simp] theorem State.setMem_tap (m : Mem) : (s.setMem m).tap = s.tap := (rfl)

@[simp] theorem State.setDdr_pending (i : Nat) (w : Codeword) : (s.setDdr i w).pending = s.pending := (rfl)
@[simp] theorem State.setDdr_out (i : Nat) (w : Codeword) : (s.setDdr i w).out = s.out := (rfl)
@[simp] theorem State.setDdr_freeCtr (i : Nat) (w : Codeword) : (s.setDdr i w).freeCtr = s.freeCtr := (rfl)
@[simp] theorem State.setDdr_cmdId (i : Nat) (w : Codeword) : (s.setDdr i w).cmdId = s.cmdId := (rfl)
@[simp] theorem State.setDdr_regs (i : Nat) (w : Codeword) : (s.setDdr i w).regs = s.regs := (rfl)
@[simp] theorem State.setDdr_cnt (i : Nat) (w : Codeword) : (s.setDdr i w).cnt = s.cnt := (rfl)
@[simp] theorem State.setDdr_bank (i : Nat) (w : Codeword) : (s.setDdr i w).bank = s.bank := (rfl)
@[simp] theorem State.setDdr_arb (i : Nat) (w : Codeword) : (s.setDdr i w).arb = s.arb := (rfl)
@[simp] theorem State.setDdr_fns (i : Nat) (w : Codeword) : (s.setDdr i w).fns = s.fns := (rfl)
@[simp] theorem State.setDdr_tick (i : Nat) (w : Codeword) : (s.setDdr i w).tick = s.tick := (rfl)
@[simp] theorem State.setDdr_pon (i : Nat) (w : Codeword) : (s.setDdr i w).pon = s.pon := (rfl)
@[simp] theorem State.setDdr_alloc (i : Nat) (w : Codeword) : (s.setDdr i w).alloc = s.alloc := (rfl)
@[simp] theorem State.setDdr_bonding (i : Nat) (w : Codeword) : (s.setDdr i w).bonding = s.bonding := (rfl)
@[simp] theorem State.setDdr_buf (i : Nat) (w : Codeword) : (s.setDdr i w).buf = s.buf := (rfl)
@[simp] theorem State.setDdr_chan (i : Nat) (w : Codeword) : (s.setDdr i w).chan = s.chan := (rfl)
@[simp] theorem State.setDdr_sched (i : Nat) (w : Codeword) : (s.setDdr i w).sched = s.sched := (rfl)
@[simp] theorem State.setDdr_time (i : Nat) (w : Codeword) : (s.setDdr i w).time = s.time := (rfl)
@[simp] theorem State.setDdr_clsIn (i : Nat) (w : Codeword) : (s.setDdr i w).clsIn = s.clsIn := (rfl)
@[simp] theorem State.setDdr_cls (i : Nat) (w : Codeword) : (s.setDdr i w).cls = s.cls := (rfl)
@[simp] theorem State.setDdr_fwd (i : Nat) (w : Codeword) : (s.setDdr i w).fwd = s.fwd := (rfl)
@[simp] theorem State.setDdr_running (i : Nat) (w : Codeword) : (s.setDdr i w).running = s.running := (rfl)
@[simp] theorem State.setDdr_vec (i : Nat) (w : Codeword) : (s.setDdr i w).vec = s.vec := (rfl)
@[simp] theorem State.setDdr_svl (i : Nat) (w : Codeword) : (s.setDdr i w).svl = s.svl := (rfl)
@[simp] theorem State.setDdr_testLanes (i : Nat) (w : Codeword) : (s.setDdr i w).testLanes = s.testLanes := (rfl)
@[simp] theorem State.setDdr_mac (i : Nat) (w : Codeword) : (s.setDdr i w).mac = s.mac := (rfl)
@[simp] theorem State.setDdr_lanes (i : Nat) (w : Codeword) : (s.setDdr i w).lanes = s.lanes := (rfl)
@[simp] theorem State.setDdr_pwr (i : Nat) (w : Codeword) : (s.setDdr i w).pwr = s.pwr := (rfl)
@[simp] theorem State.setDdr_ciph (i : Nat) (w : Codeword) : (s.setDdr i w).ciph = s.ciph := (rfl)
@[simp] theorem State.setDdr_boot (i : Nat) (w : Codeword) : (s.setDdr i w).boot = s.boot := (rfl)
@[simp] theorem State.setDdr_jrn (i : Nat) (w : Codeword) : (s.setDdr i w).jrn = s.jrn := (rfl)
@[simp] theorem State.setDdr_tap (i : Nat) (w : Codeword) : (s.setDdr i w).tap = s.tap := (rfl)

@[simp] theorem State.setCore_pending (c : JCore) : (s.setCore c).pending = s.pending := (rfl)
@[simp] theorem State.setCore_out (c : JCore) : (s.setCore c).out = s.out := (rfl)
@[simp] theorem State.setCore_freeCtr (c : JCore) : (s.setCore c).freeCtr = s.freeCtr := (rfl)
@[simp] theorem State.setCore_cmdId (c : JCore) : (s.setCore c).cmdId = s.cmdId := (rfl)
@[simp] theorem State.setCore_regs (c : JCore) : (s.setCore c).regs = s.regs := (rfl)
@[simp] theorem State.setCore_cnt (c : JCore) : (s.setCore c).cnt = s.cnt := (rfl)
@[simp] theorem State.setCore_bank (c : JCore) : (s.setCore c).bank = s.bank := (rfl)
@[simp] theorem State.setCore_arb (c : JCore) : (s.setCore c).arb = s.arb := (rfl)
@[simp] theorem State.setCore_fns (c : JCore) : (s.setCore c).fns = s.fns := (rfl)
@[simp] theorem State.setCore_tick (c : JCore) : (s.setCore c).tick = s.tick := (rfl)
@[simp] theorem State.setCore_pon (c : JCore) : (s.setCore c).pon = s.pon := (rfl)
@[simp] theorem State.setCore_alloc (c : JCore) : (s.setCore c).alloc = s.alloc := (rfl)
@[simp] theorem State.setCore_bonding (c : JCore) : (s.setCore c).bonding = s.bonding := (rfl)
@[simp] theorem State.setCore_buf (c : JCore) : (s.setCore c).buf = s.buf := (rfl)
@[simp] theorem State.setCore_chan (c : JCore) : (s.setCore c).chan = s.chan := (rfl)
@[simp] theorem State.setCore_sched (c : JCore) : (s.setCore c).sched = s.sched := (rfl)
@[simp] theorem State.setCore_time (c : JCore) : (s.setCore c).time = s.time := (rfl)
@[simp] theorem State.setCore_clsIn (c : JCore) : (s.setCore c).clsIn = s.clsIn := (rfl)
@[simp] theorem State.setCore_cls (c : JCore) : (s.setCore c).cls = s.cls := (rfl)
@[simp] theorem State.setCore_fwd (c : JCore) : (s.setCore c).fwd = s.fwd := (rfl)
@[simp] theorem State.setCore_running (c : JCore) : (s.setCore c).running = s.running := (rfl)
@[simp] theorem State.setCore_vec (c : JCore) : (s.setCore c).vec = s.vec := (rfl)
@[simp] theorem State.setCore_svl (c : JCore) : (s.setCore c).svl = s.svl := (rfl)
@[simp] theorem State.setCore_testLanes (c : JCore) : (s.setCore c).testLanes = s.testLanes := (rfl)
@[simp] theorem State.setCore_mac (c : JCore) : (s.setCore c).mac = s.mac := (rfl)
@[simp] theorem State.setCore_lanes (c : JCore) : (s.setCore c).lanes = s.lanes := (rfl)
@[simp] theorem State.setCore_pwr (c : JCore) : (s.setCore c).pwr = s.pwr := (rfl)
@[simp] theorem State.setCore_mem (c : JCore) : (s.setCore c).mem = s.mem := (rfl)
@[simp] theorem State.setCore_ciph (c : JCore) : (s.setCore c).ciph = s.ciph := (rfl)
@[simp] theorem State.setCore_boot (c : JCore) : (s.setCore c).boot = s.boot := (rfl)
@[simp] theorem State.setCore_tap (c : JCore) : (s.setCore c).tap = s.tap := (rfl)

@[simp] theorem State.setPwr_pending (p : Power) : (s.setPwr p).pending = s.pending := (rfl)
@[simp] theorem State.setPwr_out (p : Power) : (s.setPwr p).out = s.out := (rfl)
@[simp] theorem State.setPwr_freeCtr (p : Power) : (s.setPwr p).freeCtr = s.freeCtr := (rfl)
@[simp] theorem State.setPwr_cmdId (p : Power) : (s.setPwr p).cmdId = s.cmdId := (rfl)
@[simp] theorem State.setPwr_regs (p : Power) : (s.setPwr p).regs = s.regs := (rfl)
@[simp] theorem State.setPwr_cnt (p : Power) : (s.setPwr p).cnt = s.cnt := (rfl)
@[simp] theorem State.setPwr_bank (p : Power) : (s.setPwr p).bank = s.bank := (rfl)
@[simp] theorem State.setPwr_arb (p : Power) : (s.setPwr p).arb = s.arb := (rfl)
@[simp] theorem State.setPwr_fns (p : Power) : (s.setPwr p).fns = s.fns := (rfl)
@[simp] theorem State.setPwr_tick (p : Power) : (s.setPwr p).tick = s.tick := (rfl)
@[simp] theorem State.setPwr_pon (p : Power) : (s.setPwr p).pon = s.pon := (rfl)
@[simp] theorem State.setPwr_alloc (p : Power) : (s.setPwr p).alloc = s.alloc := (rfl)
@[simp] theorem State.setPwr_bonding (p : Power) : (s.setPwr p).bonding = s.bonding := (rfl)
@[simp] theorem State.setPwr_buf (p : Power) : (s.setPwr p).buf = s.buf := (rfl)
@[simp] theorem State.setPwr_chan (p : Power) : (s.setPwr p).chan = s.chan := (rfl)
@[simp] theorem State.setPwr_sched (p : Power) : (s.setPwr p).sched = s.sched := (rfl)
@[simp] theorem State.setPwr_time (p : Power) : (s.setPwr p).time = s.time := (rfl)
@[simp] theorem State.setPwr_clsIn (p : Power) : (s.setPwr p).clsIn = s.clsIn := (rfl)
@[simp] theorem State.setPwr_cls (p : Power) : (s.setPwr p).cls = s.cls := (rfl)
@[simp] theorem State.setPwr_fwd (p : Power) : (s.setPwr p).fwd = s.fwd := (rfl)
@[simp] theorem State.setPwr_running (p : Power) : (s.setPwr p).running = s.running := (rfl)
@[simp] theorem State.setPwr_vec (p : Power) : (s.setPwr p).vec = s.vec := (rfl)
@[simp] theorem State.setPwr_svl (p : Power) : (s.setPwr p).svl = s.svl := (rfl)
@[simp] theorem State.setPwr_testLanes (p : Power) : (s.setPwr p).testLanes = s.testLanes := (rfl)
@[simp] theorem State.setPwr_mac (p : Power) : (s.setPwr p).mac = s.mac := (rfl)
@[simp] theorem State.setPwr_lanes (p : Power) : (s.setPwr p).lanes = s.lanes := (rfl)
@[simp] theorem State.setPwr_mem (p : Power) : (s.setPwr p).mem = s.mem := (rfl)
@[simp] theorem State.setPwr_ciph (p : Power) : (s.setPwr p).ciph = s.ciph := (rfl)
@[simp] theorem State.setPwr_boot (p : Power) : (s.setPwr p).boot = s.boot := (rfl)
@[simp] theorem State.setPwr_jrn (p : Power) : (s.setPwr p).jrn = s.jrn := (rfl)
@[simp] theorem State.setPwr_tap (p : Power) : (s.setPwr p).tap = s.tap := (rfl)

@[simp] theorem State.setBoot_pending (b : Boot) : (s.setBoot b).pending = s.pending := (rfl)
@[simp] theorem State.setBoot_out (b : Boot) : (s.setBoot b).out = s.out := (rfl)
@[simp] theorem State.setBoot_freeCtr (b : Boot) : (s.setBoot b).freeCtr = s.freeCtr := (rfl)
@[simp] theorem State.setBoot_cmdId (b : Boot) : (s.setBoot b).cmdId = s.cmdId := (rfl)
@[simp] theorem State.setBoot_regs (b : Boot) : (s.setBoot b).regs = s.regs := (rfl)
@[simp] theorem State.setBoot_cnt (b : Boot) : (s.setBoot b).cnt = s.cnt := (rfl)
@[simp] theorem State.setBoot_bank (b : Boot) : (s.setBoot b).bank = s.bank := (rfl)
@[simp] theorem State.setBoot_arb (b : Boot) : (s.setBoot b).arb = s.arb := (rfl)
@[simp] theorem State.setBoot_fns (b : Boot) : (s.setBoot b).fns = s.fns := (rfl)
@[simp] theorem State.setBoot_tick (b : Boot) : (s.setBoot b).tick = s.tick := (rfl)
@[simp] theorem State.setBoot_pon (b : Boot) : (s.setBoot b).pon = s.pon := (rfl)
@[simp] theorem State.setBoot_alloc (b : Boot) : (s.setBoot b).alloc = s.alloc := (rfl)
@[simp] theorem State.setBoot_bonding (b : Boot) : (s.setBoot b).bonding = s.bonding := (rfl)
@[simp] theorem State.setBoot_buf (b : Boot) : (s.setBoot b).buf = s.buf := (rfl)
@[simp] theorem State.setBoot_chan (b : Boot) : (s.setBoot b).chan = s.chan := (rfl)
@[simp] theorem State.setBoot_sched (b : Boot) : (s.setBoot b).sched = s.sched := (rfl)
@[simp] theorem State.setBoot_time (b : Boot) : (s.setBoot b).time = s.time := (rfl)
@[simp] theorem State.setBoot_clsIn (b : Boot) : (s.setBoot b).clsIn = s.clsIn := (rfl)
@[simp] theorem State.setBoot_cls (b : Boot) : (s.setBoot b).cls = s.cls := (rfl)
@[simp] theorem State.setBoot_fwd (b : Boot) : (s.setBoot b).fwd = s.fwd := (rfl)
@[simp] theorem State.setBoot_running (b : Boot) : (s.setBoot b).running = s.running := (rfl)
@[simp] theorem State.setBoot_vec (b : Boot) : (s.setBoot b).vec = s.vec := (rfl)
@[simp] theorem State.setBoot_svl (b : Boot) : (s.setBoot b).svl = s.svl := (rfl)
@[simp] theorem State.setBoot_testLanes (b : Boot) : (s.setBoot b).testLanes = s.testLanes := (rfl)
@[simp] theorem State.setBoot_mac (b : Boot) : (s.setBoot b).mac = s.mac := (rfl)
@[simp] theorem State.setBoot_lanes (b : Boot) : (s.setBoot b).lanes = s.lanes := (rfl)
@[simp] theorem State.setBoot_pwr (b : Boot) : (s.setBoot b).pwr = s.pwr := (rfl)
@[simp] theorem State.setBoot_mem (b : Boot) : (s.setBoot b).mem = s.mem := (rfl)
@[simp] theorem State.setBoot_ciph (b : Boot) : (s.setBoot b).ciph = s.ciph := (rfl)
@[simp] theorem State.setBoot_jrn (b : Boot) : (s.setBoot b).jrn = s.jrn := (rfl)
@[simp] theorem State.setBoot_tap (b : Boot) : (s.setBoot b).tap = s.tap := (rfl)

@[simp] theorem State.setFlash_pending (a : Nat) (b : Byte) : (s.setFlash a b).pending = s.pending := (rfl)
@[simp] theorem State.setFlash_out (a : Nat) (b : Byte) : (s.setFlash a b).out = s.out := (rfl)
@[simp] theorem State.setFlash_freeCtr (a : Nat) (b : Byte) : (s.setFlash a b).freeCtr = s.freeCtr := (rfl)
@[simp] theorem State.setFlash_cmdId (a : Nat) (b : Byte) : (s.setFlash a b).cmdId = s.cmdId := (rfl)
@[simp] theorem State.setFlash_regs (a : Nat) (b : Byte) : (s.setFlash a b).regs = s.regs := (rfl)
@[simp] theorem State.setFlash_cnt (a : Nat) (b : Byte) : (s.setFlash a b).cnt = s.cnt := (rfl)
@[simp] theorem State.setFlash_bank (a : Nat) (b : Byte) : (s.setFlash a b).bank = s.bank := (rfl)
@[simp] theorem State.setFlash_arb (a : Nat) (b : Byte) : (s.setFlash a b).arb = s.arb := (rfl)
@[simp] theorem State.setFlash_fns (a : Nat) (b : Byte) : (s.setFlash a b).fns = s.fns := (rfl)
@[simp] theorem State.setFlash_tick (a : Nat) (b : Byte) : (s.setFlash a b).tick = s.tick := (rfl)
@[simp] theorem State.setFlash_pon (a : Nat) (b : Byte) : (s.setFlash a b).pon = s.pon := (rfl)
@[simp] theorem State.setFlash_alloc (a : Nat) (b : Byte) : (s.setFlash a b).alloc = s.alloc := (rfl)
@[simp] theorem State.setFlash_bonding (a : Nat) (b : Byte) : (s.setFlash a b).bonding = s.bonding := (rfl)
@[simp] theorem State.setFlash_buf (a : Nat) (b : Byte) : (s.setFlash a b).buf = s.buf := (rfl)
@[simp] theorem State.setFlash_chan (a : Nat) (b : Byte) : (s.setFlash a b).chan = s.chan := (rfl)
@[simp] theorem State.setFlash_sched (a : Nat) (b : Byte) : (s.setFlash a b).sched = s.sched := (rfl)
@[simp] theorem State.setFlash_time (a : Nat) (b : Byte) : (s.setFlash a b).time = s.time := (rfl)
@[simp] theorem State.setFlash_clsIn (a : Nat) (b : Byte) : (s.setFlash a b).clsIn = s.clsIn := (rfl)
@[simp] theorem State.setFlash_cls (a : Nat) (b : Byte) : (s.setFlash a b).cls = s.cls := (rfl)
@[simp] theorem State.setFlash_fwd (a : Nat) (b : Byte) : (s.setFlash a b).fwd = s.fwd := (rfl)
@[simp] theorem State.setFlash_running (a : Nat) (b : Byte) : (s.setFlash a b).running = s.running := (rfl)
@[simp] theorem State.setFlash_vec (a : Nat) (b : Byte) : (s.setFlash a b).vec = s.vec := (rfl)
@[simp] theorem State.setFlash_svl (a : Nat) (b : Byte) : (s.setFlash a b).svl = s.svl := (rfl)
@[simp] theorem State.setFlash_testLanes (a : Nat) (b : Byte) : (s.setFlash a b).testLanes = s.testLanes := (rfl)
@[simp] theorem State.setFlash_mac (a : Nat) (b : Byte) : (s.setFlash a b).mac = s.mac := (rfl)
@[simp] theorem State.setFlash_lanes (a : Nat) (b : Byte) : (s.setFlash a b).lanes = s.lanes := (rfl)
@[simp] theorem State.setFlash_pwr (a : Nat) (b : Byte) : (s.setFlash a b).pwr = s.pwr := (rfl)
@[simp] theorem State.setFlash_mem (a : Nat) (b : Byte) : (s.setFlash a b).mem = s.mem := (rfl)
@[simp] theorem State.setFlash_ciph (a : Nat) (b : Byte) : (s.setFlash a b).ciph = s.ciph := (rfl)
@[simp] theorem State.setFlash_jrn (a : Nat) (b : Byte) : (s.setFlash a b).jrn = s.jrn := (rfl)
@[simp] theorem State.setFlash_tap (a : Nat) (b : Byte) : (s.setFlash a b).tap = s.tap := (rfl)

@[simp] theorem State.fn_setFn (f g : Nat) (h : HostFn) : (s.setFn f h).fn g = if g = f then h else s.fn g :=
  sparseGet_sparseSet _ _ _ _ _
@[simp] theorem State.ch_setCh (n m : Nat) (c : PonCh) : (s.setCh n c).ch m = if m = n then c else s.ch m :=
  sparseGet_sparseSet _ _ _ _ _
@[simp] theorem State.allocAt_setAlloc (i j : Nat) (a : AllocCtx) : (s.setAlloc i a).allocAt j = if j = i then a else s.allocAt j :=
  sparseGet_sparseSet _ _ _ _ _
@[simp] theorem State.group_setGroup (g k : Nat) (b : BondCtx) : (s.setGroup g b).group k = if k = g then b else s.group k :=
  sparseGet_sparseSet _ _ _ _ _
@[simp] theorem State.pool_setPool (i j : Nat) (p : Pool) : (s.setPool i p).pool j = if j = i then p else s.pool j :=
  sparseGet_sparseSet _ _ _ _ _
@[simp] theorem State.owner_setOwner (i j tag : Nat) : (s.setOwner i tag).owner j = if j = i then tag else s.owner j :=
  sparseGet_sparseSet _ _ _ _ _
@[simp] theorem State.dq_setDq (q r : Nat) (d : DQueue) : (s.setDq q d).dq r = if r = q then d else s.dq r :=
  sparseGet_sparseSet _ _ _ _ _
@[simp] theorem State.hq_setHq (q r : Nat) (h : HQueue) : (s.setHq q h).hq r = if r = q then h else s.hq r :=
  sparseGet_sparseSet _ _ _ _ _
@[simp] theorem State.n1_setN1 (i j : Nat) (n : Node1) : (s.setN1 i n).n1 j = if j = i then n else s.n1 j :=
  sparseGet_sparseSet _ _ _ _ _
@[simp] theorem State.n2_setN2 (i j : Nat) (n : Node2) : (s.setN2 i n).n2 j = if j = i then n else s.n2 j :=
  sparseGet_sparseSet _ _ _ _ _
@[simp] theorem State.sq_setSq (i j : Nat) (v : SQueue) : (s.setSq i v).sq j = if j = i then v else s.sq j :=
  sparseGet_sparseSet _ _ _ _ _
@[simp] theorem State.lineCtx_setLine (i j : Nat) (l : LineCtx) : (s.setLine i l).lineCtx j = if j = i then l else s.lineCtx j :=
  sparseGet_sparseSet _ _ _ _ _
@[simp] theorem State.macAt_setMac (m k : Nat) (x : Mac) : (s.setMac m x).macAt k = if k = m then x else s.macAt k :=
  sparseGet_sparseSet _ _ _ _ _
@[simp] theorem State.lane_setLane (l k : Nat) (x : Lane) : (s.setLane l x).lane k = if k = l then x else s.lane k :=
  sparseGet_sparseSet _ _ _ _ _
@[simp] theorem State.eng_setEng (e k : Nat) (x : Eng) : (s.setEng e x).eng k = if k = e then x else s.eng k :=
  sparseGet_sparseSet _ _ _ _ _
@[simp] theorem State.vg_setVg (g k : Nat) (x : Group) : (s.setVg g x).vg k = if k = g then x else s.vg k :=
  sparseGet_sparseSet _ _ _ _ _
@[simp] theorem State.svlPort_setSvlPort (p k : Nat) (x : SvlPort) : (s.setSvlPort p x).svlPort k = if k = p then x else s.svlPort k :=
  sparseGet_sparseSet _ _ _ _ _
@[simp] theorem State.slot_setSlot (i j : Nat) (k : KeySlot) : (s.setSlot i k).slot j = if j = i then k else s.slot j :=
  sparseGet_sparseSet _ _ _ _ _
@[simp] theorem State.keyWord_setKeyWord (i j : Nat) (w : Codeword) : (s.setKeyWord i w).keyWord j = if j = i then w else s.keyWord j :=
  sparseGet_sparseSet _ _ _ _ _
@[simp] theorem State.source_setSource (a b : Nat) (q : EvSource) : (s.setSource a q).source b = if b = a then q else s.source b :=
  sparseGet_sparseSet _ _ _ _ _
@[simp] theorem State.ddrWord_setDdr (i j : Nat) (w : Codeword) : (s.setDdr i w).ddrWord j = if j = i then w else s.ddrWord j :=
  sparseGet_sparseSet _ _ _ _ _
@[simp] theorem State.bankAt_setBank (a b v : Nat) : (s.setBank a v).bankAt b = if b = a then v else s.bankAt b :=
  sparseGet_sparseSet _ _ _ _ _
@[simp] theorem State.rd_wr (a b : Nat) (v : Word) : (s.wr a v).rd b = if b = a then v else s.rd b :=
  sparseGet_sparseSet _ _ _ _ _
@[simp] theorem State.count_setCount (c d : Ctr) (v : Nat) :
    (s.setCount c v).count d = if d.off = c.off then v else s.count d :=
  sparseGet_sparseSet _ _ _ _ _

end Sys2Proof.Machine
end

