-- ==== Sys2Proof/Laws/Ops.lean ====
section
/-! SUPPORT. What the shared operations can do: for each, the parts of the state it can change (the lemma ..._only) and, from
it, every other part read as before. -/

namespace Sys2Proof.Machine

variable (s : State)

theorem State.wrRw_only (off v : Nat) :
    ∃ a', s.wrRw off v = { s with regs := a' } := by
  unfold State.wrRw; split <;> exact ⟨_, rfl⟩
@[simp] theorem State.wrRw_pending (off v : Nat) : (s.wrRw off v).pending = s.pending := by
  obtain ⟨_, h⟩ := s.wrRw_only off v; rw [h]
@[simp] theorem State.wrRw_out (off v : Nat) : (s.wrRw off v).out = s.out := by
  obtain ⟨_, h⟩ := s.wrRw_only off v; rw [h]
@[simp] theorem State.wrRw_freeCtr (off v : Nat) : (s.wrRw off v).freeCtr = s.freeCtr := by
  obtain ⟨_, h⟩ := s.wrRw_only off v; rw [h]
@[simp] theorem State.wrRw_cmdId (off v : Nat) : (s.wrRw off v).cmdId = s.cmdId := by
  obtain ⟨_, h⟩ := s.wrRw_only off v; rw [h]
@[simp] theorem State.wrRw_cnt (off v : Nat) : (s.wrRw off v).cnt = s.cnt := by
  obtain ⟨_, h⟩ := s.wrRw_only off v; rw [h]
@[simp] theorem State.wrRw_bank (off v : Nat) : (s.wrRw off v).bank = s.bank := by
  obtain ⟨_, h⟩ := s.wrRw_only off v; rw [h]
@[simp] theorem State.wrRw_arb (off v : Nat) : (s.wrRw off v).arb = s.arb := by
  obtain ⟨_, h⟩ := s.wrRw_only off v; rw [h]
@[simp] theorem State.wrRw_fns (off v : Nat) : (s.wrRw off v).fns = s.fns := by
  obtain ⟨_, h⟩ := s.wrRw_only off v; rw [h]
@[simp] theorem State.wrRw_tick (off v : Nat) : (s.wrRw off v).tick = s.tick := by
  obtain ⟨_, h⟩ := s.wrRw_only off v; rw [h]
@[simp] theorem State.wrRw_pon (off v : Nat) : (s.wrRw off v).pon = s.pon := by
  obtain ⟨_, h⟩ := s.wrRw_only off v; rw [h]
@[simp] theorem State.wrRw_alloc (off v : Nat) : (s.wrRw off v).alloc = s.alloc := by
  obtain ⟨_, h⟩ := s.wrRw_only off v; rw [h]
@[simp] theorem State.wrRw_bonding (off v : Nat) : (s.wrRw off v).bonding = s.bonding := by
  obtain ⟨_, h⟩ := s.wrRw_only off v; rw [h]
@[simp] theorem State.wrRw_buf (off v : Nat) : (s.wrRw off v).buf = s.buf := by
  obtain ⟨_, h⟩ := s.wrRw_only off v; rw [h]
@[simp] theorem State.wrRw_chan (off v : Nat) : (s.wrRw off v).chan = s.chan := by
  obtain ⟨_, h⟩ := s.wrRw_only off v; rw [h]
@[simp] theorem State.wrRw_sched (off v : Nat) : (s.wrRw off v).sched = s.sched := by
  obtain ⟨_, h⟩ := s.wrRw_only off v; rw [h]
@[simp] theorem State.wrRw_time (off v : Nat) : (s.wrRw off v).time = s.time := by
  obtain ⟨_, h⟩ := s.wrRw_only off v; rw [h]
@[simp] theorem State.wrRw_clsIn (off v : Nat) : (s.wrRw off v).clsIn = s.clsIn := by
  obtain ⟨_, h⟩ := s.wrRw_only off v; rw [h]
@[simp] theorem State.wrRw_cls (off v : Nat) : (s.wrRw off v).cls = s.cls := by
  obtain ⟨_, h⟩ := s.wrRw_only off v; rw [h]
@[simp] theorem State.wrRw_fwd (off v : Nat) : (s.wrRw off v).fwd = s.fwd := by
  obtain ⟨_, h⟩ := s.wrRw_only off v; rw [h]
@[simp] theorem State.wrRw_running (off v : Nat) : (s.wrRw off v).running = s.running := by
  obtain ⟨_, h⟩ := s.wrRw_only off v; rw [h]
@[simp] theorem State.wrRw_vec (off v : Nat) : (s.wrRw off v).vec = s.vec := by
  obtain ⟨_, h⟩ := s.wrRw_only off v; rw [h]
@[simp] theorem State.wrRw_svl (off v : Nat) : (s.wrRw off v).svl = s.svl := by
  obtain ⟨_, h⟩ := s.wrRw_only off v; rw [h]
@[simp] theorem State.wrRw_testLanes (off v : Nat) : (s.wrRw off v).testLanes = s.testLanes := by
  obtain ⟨_, h⟩ := s.wrRw_only off v; rw [h]
@[simp] theorem State.wrRw_mac (off v : Nat) : (s.wrRw off v).mac = s.mac := by
  obtain ⟨_, h⟩ := s.wrRw_only off v; rw [h]
@[simp] theorem State.wrRw_lanes (off v : Nat) : (s.wrRw off v).lanes = s.lanes := by
  obtain ⟨_, h⟩ := s.wrRw_only off v; rw [h]
@[simp] theorem State.wrRw_pwr (off v : Nat) : (s.wrRw off v).pwr = s.pwr := by
  obtain ⟨_, h⟩ := s.wrRw_only off v; rw [h]
@[simp] theorem State.wrRw_mem (off v : Nat) : (s.wrRw off v).mem = s.mem := by
  obtain ⟨_, h⟩ := s.wrRw_only off v; rw [h]
@[simp] theorem State.wrRw_ciph (off v : Nat) : (s.wrRw off v).ciph = s.ciph := by
  obtain ⟨_, h⟩ := s.wrRw_only off v; rw [h]
@[simp] theorem State.wrRw_boot (off v : Nat) : (s.wrRw off v).boot = s.boot := by
  obtain ⟨_, h⟩ := s.wrRw_only off v; rw [h]
@[simp] theorem State.wrRw_jrn (off v : Nat) : (s.wrRw off v).jrn = s.jrn := by
  obtain ⟨_, h⟩ := s.wrRw_only off v; rw [h]
@[simp] theorem State.wrRw_tap (off v : Nat) : (s.wrRw off v).tap = s.tap := by
  obtain ⟨_, h⟩ := s.wrRw_only off v; rw [h]

theorem State.wrRun_only (off : Nat) (ws : List Word) :
    ∃ a', s.wrRun off ws = { s with regs := a' } := by
  induction ws generalizing s off with
  | nil => exact ⟨_, rfl⟩
  | cons w ws ih =>
    obtain ⟨a, h⟩ := s.wrRw_only off w.toNat
    obtain ⟨b, h'⟩ := ih (s.wrRw off w.toNat) (off + 4)
    exact ⟨b, by rw [State.wrRun, h', h]⟩
@[simp] theorem State.wrRun_pending (off : Nat) (ws : List Word) : (s.wrRun off ws).pending = s.pending := by
  obtain ⟨_, h⟩ := s.wrRun_only off ws; rw [h]
@[simp] theorem State.wrRun_out (off : Nat) (ws : List Word) : (s.wrRun off ws).out = s.out := by
  obtain ⟨_, h⟩ := s.wrRun_only off ws; rw [h]
@[simp] theorem State.wrRun_freeCtr (off : Nat) (ws : List Word) : (s.wrRun off ws).freeCtr = s.freeCtr := by
  obtain ⟨_, h⟩ := s.wrRun_only off ws; rw [h]
@[simp] theorem State.wrRun_cmdId (off : Nat) (ws : List Word) : (s.wrRun off ws).cmdId = s.cmdId := by
  obtain ⟨_, h⟩ := s.wrRun_only off ws; rw [h]
@[simp] theorem State.wrRun_cnt (off : Nat) (ws : List Word) : (s.wrRun off ws).cnt = s.cnt := by
  obtain ⟨_, h⟩ := s.wrRun_only off ws; rw [h]
@[simp] theorem State.wrRun_bank (off : Nat) (ws : List Word) : (s.wrRun off ws).bank = s.bank := by
  obtain ⟨_, h⟩ := s.wrRun_only off ws; rw [h]
@[simp] theorem State.wrRun_arb (off : Nat) (ws : List Word) : (s.wrRun off ws).arb = s.arb := by
  obtain ⟨_, h⟩ := s.wrRun_only off ws; rw [h]
@[simp] theorem State.wrRun_fns (off : Nat) (ws : List Word) : (s.wrRun off ws).fns = s.fns := by
  obtain ⟨_, h⟩ := s.wrRun_only off ws; rw [h]
@[simp] theorem State.wrRun_tick (off : Nat) (ws : List Word) : (s.wrRun off ws).tick = s.tick := by
  obtain ⟨_, h⟩ := s.wrRun_only off ws; rw [h]
@[simp] theorem State.wrRun_pon (off : Nat) (ws : List Word) : (s.wrRun off ws).pon = s.pon := by
  obtain ⟨_, h⟩ := s.wrRun_only off ws; rw [h]
@[simp] theorem State.wrRun_alloc (off : Nat) (ws : List Word) : (s.wrRun off ws).alloc = s.alloc := by
  obtain ⟨_, h⟩ := s.wrRun_only off ws; rw [h]
@[simp] theorem State.wrRun_bonding (off : Nat) (ws : List Word) : (s.wrRun off ws).bonding = s.bonding := by
  obtain ⟨_, h⟩ := s.wrRun_only off ws; rw [h]
@[simp] theorem State.wrRun_buf (off : Nat) (ws : List Word) : (s.wrRun off ws).buf = s.buf := by
  obtain ⟨_, h⟩ := s.wrRun_only off ws; rw [h]
@[simp] theorem State.wrRun_chan (off : Nat) (ws : List Word) : (s.wrRun off ws).chan = s.chan := by
  obtain ⟨_, h⟩ := s.wrRun_only off ws; rw [h]
@[simp] theorem State.wrRun_sched (off : Nat) (ws : List Word) : (s.wrRun off ws).sched = s.sched := by
  obtain ⟨_, h⟩ := s.wrRun_only off ws; rw [h]
@[simp] theorem State.wrRun_time (off : Nat) (ws : List Word) : (s.wrRun off ws).time = s.time := by
  obtain ⟨_, h⟩ := s.wrRun_only off ws; rw [h]
@[simp] theorem State.wrRun_clsIn (off : Nat) (ws : List Word) : (s.wrRun off ws).clsIn = s.clsIn := by
  obtain ⟨_, h⟩ := s.wrRun_only off ws; rw [h]
@[simp] theorem State.wrRun_cls (off : Nat) (ws : List Word) : (s.wrRun off ws).cls = s.cls := by
  obtain ⟨_, h⟩ := s.wrRun_only off ws; rw [h]
@[simp] theorem State.wrRun_fwd (off : Nat) (ws : List Word) : (s.wrRun off ws).fwd = s.fwd := by
  obtain ⟨_, h⟩ := s.wrRun_only off ws; rw [h]
@[simp] theorem State.wrRun_running (off : Nat) (ws : List Word) : (s.wrRun off ws).running = s.running := by
  obtain ⟨_, h⟩ := s.wrRun_only off ws; rw [h]
@[simp] theorem State.wrRun_vec (off : Nat) (ws : List Word) : (s.wrRun off ws).vec = s.vec := by
  obtain ⟨_, h⟩ := s.wrRun_only off ws; rw [h]
@[simp] theorem State.wrRun_svl (off : Nat) (ws : List Word) : (s.wrRun off ws).svl = s.svl := by
  obtain ⟨_, h⟩ := s.wrRun_only off ws; rw [h]
@[simp] theorem State.wrRun_testLanes (off : Nat) (ws : List Word) : (s.wrRun off ws).testLanes = s.testLanes := by
  obtain ⟨_, h⟩ := s.wrRun_only off ws; rw [h]
@[simp] theorem State.wrRun_mac (off : Nat) (ws : List Word) : (s.wrRun off ws).mac = s.mac := by
  obtain ⟨_, h⟩ := s.wrRun_only off ws; rw [h]
@[simp] theorem State.wrRun_lanes (off : Nat) (ws : List Word) : (s.wrRun off ws).lanes = s.lanes := by
  obtain ⟨_, h⟩ := s.wrRun_only off ws; rw [h]
@[simp] theorem State.wrRun_pwr (off : Nat) (ws : List Word) : (s.wrRun off ws).pwr = s.pwr := by
  obtain ⟨_, h⟩ := s.wrRun_only off ws; rw [h]
@[simp] theorem State.wrRun_mem (off : Nat) (ws : List Word) : (s.wrRun off ws).mem = s.mem := by
  obtain ⟨_, h⟩ := s.wrRun_only off ws; rw [h]
@[simp] theorem State.wrRun_ciph (off : Nat) (ws : List Word) : (s.wrRun off ws).ciph = s.ciph := by
  obtain ⟨_, h⟩ := s.wrRun_only off ws; rw [h]
@[simp] theorem State.wrRun_boot (off : Nat) (ws : List Word) : (s.wrRun off ws).boot = s.boot := by
  obtain ⟨_, h⟩ := s.wrRun_only off ws; rw [h]
@[simp] theorem State.wrRun_jrn (off : Nat) (ws : List Word) : (s.wrRun off ws).jrn = s.jrn := by
  obtain ⟨_, h⟩ := s.wrRun_only off ws; rw [h]
@[simp] theorem State.wrRun_tap (off : Nat) (ws : List Word) : (s.wrRun off ws).tap = s.tap := by
  obtain ⟨_, h⟩ := s.wrRun_only off ws; rw [h]

theorem State.raise_only (src sev code func : Nat) (payload : List Byte) :
    ∃ a', s.raise src sev code func payload = { s with arb := a' } := by
  unfold State.raise; dsimp only; split <;> exact ⟨_, rfl⟩
@[simp] theorem State.raise_pending (src sev code func : Nat) (payload : List Byte) : (s.raise src sev code func payload).pending = s.pending := by
  obtain ⟨_, h⟩ := s.raise_only src sev code func payload; rw [h]
@[simp] theorem State.raise_out (src sev code func : Nat) (payload : List Byte) : (s.raise src sev code func payload).out = s.out := by
  obtain ⟨_, h⟩ := s.raise_only src sev code func payload; rw [h]
@[simp] theorem State.raise_freeCtr (src sev code func : Nat) (payload : List Byte) : (s.raise src sev code func payload).freeCtr = s.freeCtr := by
  obtain ⟨_, h⟩ := s.raise_only src sev code func payload; rw [h]
@[simp] theorem State.raise_cmdId (src sev code func : Nat) (payload : List Byte) : (s.raise src sev code func payload).cmdId = s.cmdId := by
  obtain ⟨_, h⟩ := s.raise_only src sev code func payload; rw [h]
@[simp] theorem State.raise_regs (src sev code func : Nat) (payload : List Byte) : (s.raise src sev code func payload).regs = s.regs := by
  obtain ⟨_, h⟩ := s.raise_only src sev code func payload; rw [h]
@[simp] theorem State.raise_cnt (src sev code func : Nat) (payload : List Byte) : (s.raise src sev code func payload).cnt = s.cnt := by
  obtain ⟨_, h⟩ := s.raise_only src sev code func payload; rw [h]
@[simp] theorem State.raise_bank (src sev code func : Nat) (payload : List Byte) : (s.raise src sev code func payload).bank = s.bank := by
  obtain ⟨_, h⟩ := s.raise_only src sev code func payload; rw [h]
@[simp] theorem State.raise_fns (src sev code func : Nat) (payload : List Byte) : (s.raise src sev code func payload).fns = s.fns := by
  obtain ⟨_, h⟩ := s.raise_only src sev code func payload; rw [h]
@[simp] theorem State.raise_tick (src sev code func : Nat) (payload : List Byte) : (s.raise src sev code func payload).tick = s.tick := by
  obtain ⟨_, h⟩ := s.raise_only src sev code func payload; rw [h]
@[simp] theorem State.raise_pon (src sev code func : Nat) (payload : List Byte) : (s.raise src sev code func payload).pon = s.pon := by
  obtain ⟨_, h⟩ := s.raise_only src sev code func payload; rw [h]
@[simp] theorem State.raise_alloc (src sev code func : Nat) (payload : List Byte) : (s.raise src sev code func payload).alloc = s.alloc := by
  obtain ⟨_, h⟩ := s.raise_only src sev code func payload; rw [h]
@[simp] theorem State.raise_bonding (src sev code func : Nat) (payload : List Byte) : (s.raise src sev code func payload).bonding = s.bonding := by
  obtain ⟨_, h⟩ := s.raise_only src sev code func payload; rw [h]
@[simp] theorem State.raise_buf (src sev code func : Nat) (payload : List Byte) : (s.raise src sev code func payload).buf = s.buf := by
  obtain ⟨_, h⟩ := s.raise_only src sev code func payload; rw [h]
@[simp] theorem State.raise_chan (src sev code func : Nat) (payload : List Byte) : (s.raise src sev code func payload).chan = s.chan := by
  obtain ⟨_, h⟩ := s.raise_only src sev code func payload; rw [h]
@[simp] theorem State.raise_sched (src sev code func : Nat) (payload : List Byte) : (s.raise src sev code func payload).sched = s.sched := by
  obtain ⟨_, h⟩ := s.raise_only src sev code func payload; rw [h]
@[simp] theorem State.raise_time (src sev code func : Nat) (payload : List Byte) : (s.raise src sev code func payload).time = s.time := by
  obtain ⟨_, h⟩ := s.raise_only src sev code func payload; rw [h]
@[simp] theorem State.raise_clsIn (src sev code func : Nat) (payload : List Byte) : (s.raise src sev code func payload).clsIn = s.clsIn := by
  obtain ⟨_, h⟩ := s.raise_only src sev code func payload; rw [h]
@[simp] theorem State.raise_cls (src sev code func : Nat) (payload : List Byte) : (s.raise src sev code func payload).cls = s.cls := by
  obtain ⟨_, h⟩ := s.raise_only src sev code func payload; rw [h]
@[simp] theorem State.raise_fwd (src sev code func : Nat) (payload : List Byte) : (s.raise src sev code func payload).fwd = s.fwd := by
  obtain ⟨_, h⟩ := s.raise_only src sev code func payload; rw [h]
@[simp] theorem State.raise_running (src sev code func : Nat) (payload : List Byte) : (s.raise src sev code func payload).running = s.running := by
  obtain ⟨_, h⟩ := s.raise_only src sev code func payload; rw [h]
@[simp] theorem State.raise_vec (src sev code func : Nat) (payload : List Byte) : (s.raise src sev code func payload).vec = s.vec := by
  obtain ⟨_, h⟩ := s.raise_only src sev code func payload; rw [h]
@[simp] theorem State.raise_svl (src sev code func : Nat) (payload : List Byte) : (s.raise src sev code func payload).svl = s.svl := by
  obtain ⟨_, h⟩ := s.raise_only src sev code func payload; rw [h]
@[simp] theorem State.raise_testLanes (src sev code func : Nat) (payload : List Byte) : (s.raise src sev code func payload).testLanes = s.testLanes := by
  obtain ⟨_, h⟩ := s.raise_only src sev code func payload; rw [h]
@[simp] theorem State.raise_mac (src sev code func : Nat) (payload : List Byte) : (s.raise src sev code func payload).mac = s.mac := by
  obtain ⟨_, h⟩ := s.raise_only src sev code func payload; rw [h]
@[simp] theorem State.raise_lanes (src sev code func : Nat) (payload : List Byte) : (s.raise src sev code func payload).lanes = s.lanes := by
  obtain ⟨_, h⟩ := s.raise_only src sev code func payload; rw [h]
@[simp] theorem State.raise_pwr (src sev code func : Nat) (payload : List Byte) : (s.raise src sev code func payload).pwr = s.pwr := by
  obtain ⟨_, h⟩ := s.raise_only src sev code func payload; rw [h]
@[simp] theorem State.raise_mem (src sev code func : Nat) (payload : List Byte) : (s.raise src sev code func payload).mem = s.mem := by
  obtain ⟨_, h⟩ := s.raise_only src sev code func payload; rw [h]
@[simp] theorem State.raise_ciph (src sev code func : Nat) (payload : List Byte) : (s.raise src sev code func payload).ciph = s.ciph := by
  obtain ⟨_, h⟩ := s.raise_only src sev code func payload; rw [h]
@[simp] theorem State.raise_boot (src sev code func : Nat) (payload : List Byte) : (s.raise src sev code func payload).boot = s.boot := by
  obtain ⟨_, h⟩ := s.raise_only src sev code func payload; rw [h]
@[simp] theorem State.raise_jrn (src sev code func : Nat) (payload : List Byte) : (s.raise src sev code func payload).jrn = s.jrn := by
  obtain ⟨_, h⟩ := s.raise_only src sev code func payload; rw [h]
@[simp] theorem State.raise_tap (src sev code func : Nat) (payload : List Byte) : (s.raise src sev code func payload).tap = s.tap := by
  obtain ⟨_, h⟩ := s.raise_only src sev code func payload; rw [h]

theorem State.raiseRow_only (src sev c r func : Nat) (fs : List (Nat × Nat)) :
    ∃ a', s.raiseRow src sev c r func fs = { s with arb := a' } := by
  exact s.raise_only _ _ _ _ _
@[simp] theorem State.raiseRow_pending (src sev c r func : Nat) (fs : List (Nat × Nat)) : (s.raiseRow src sev c r func fs).pending = s.pending := by
  obtain ⟨_, h⟩ := s.raiseRow_only src sev c r func fs; rw [h]
@[simp] theorem State.raiseRow_out (src sev c r func : Nat) (fs : List (Nat × Nat)) : (s.raiseRow src sev c r func fs).out = s.out := by
  obtain ⟨_, h⟩ := s.raiseRow_only src sev c r func fs; rw [h]
@[simp] theorem State.raiseRow_freeCtr (src sev c r func : Nat) (fs : List (Nat × Nat)) : (s.raiseRow src sev c r func fs).freeCtr = s.freeCtr := by
  obtain ⟨_, h⟩ := s.raiseRow_only src sev c r func fs; rw [h]
@[simp] theorem State.raiseRow_cmdId (src sev c r func : Nat) (fs : List (Nat × Nat)) : (s.raiseRow src sev c r func fs).cmdId = s.cmdId := by
  obtain ⟨_, h⟩ := s.raiseRow_only src sev c r func fs; rw [h]
@[simp] theorem State.raiseRow_regs (src sev c r func : Nat) (fs : List (Nat × Nat)) : (s.raiseRow src sev c r func fs).regs = s.regs := by
  obtain ⟨_, h⟩ := s.raiseRow_only src sev c r func fs; rw [h]
@[simp] theorem State.raiseRow_cnt (src sev c r func : Nat) (fs : List (Nat × Nat)) : (s.raiseRow src sev c r func fs).cnt = s.cnt := by
  obtain ⟨_, h⟩ := s.raiseRow_only src sev c r func fs; rw [h]
@[simp] theorem State.raiseRow_bank (src sev c r func : Nat) (fs : List (Nat × Nat)) : (s.raiseRow src sev c r func fs).bank = s.bank := by
  obtain ⟨_, h⟩ := s.raiseRow_only src sev c r func fs; rw [h]
@[simp] theorem State.raiseRow_fns (src sev c r func : Nat) (fs : List (Nat × Nat)) : (s.raiseRow src sev c r func fs).fns = s.fns := by
  obtain ⟨_, h⟩ := s.raiseRow_only src sev c r func fs; rw [h]
@[simp] theorem State.raiseRow_tick (src sev c r func : Nat) (fs : List (Nat × Nat)) : (s.raiseRow src sev c r func fs).tick = s.tick := by
  obtain ⟨_, h⟩ := s.raiseRow_only src sev c r func fs; rw [h]
@[simp] theorem State.raiseRow_pon (src sev c r func : Nat) (fs : List (Nat × Nat)) : (s.raiseRow src sev c r func fs).pon = s.pon := by
  obtain ⟨_, h⟩ := s.raiseRow_only src sev c r func fs; rw [h]
@[simp] theorem State.raiseRow_alloc (src sev c r func : Nat) (fs : List (Nat × Nat)) : (s.raiseRow src sev c r func fs).alloc = s.alloc := by
  obtain ⟨_, h⟩ := s.raiseRow_only src sev c r func fs; rw [h]
@[simp] theorem State.raiseRow_bonding (src sev c r func : Nat) (fs : List (Nat × Nat)) : (s.raiseRow src sev c r func fs).bonding = s.bonding := by
  obtain ⟨_, h⟩ := s.raiseRow_only src sev c r func fs; rw [h]
@[simp] theorem State.raiseRow_buf (src sev c r func : Nat) (fs : List (Nat × Nat)) : (s.raiseRow src sev c r func fs).buf = s.buf := by
  obtain ⟨_, h⟩ := s.raiseRow_only src sev c r func fs; rw [h]
@[simp] theorem State.raiseRow_chan (src sev c r func : Nat) (fs : List (Nat × Nat)) : (s.raiseRow src sev c r func fs).chan = s.chan := by
  obtain ⟨_, h⟩ := s.raiseRow_only src sev c r func fs; rw [h]
@[simp] theorem State.raiseRow_sched (src sev c r func : Nat) (fs : List (Nat × Nat)) : (s.raiseRow src sev c r func fs).sched = s.sched := by
  obtain ⟨_, h⟩ := s.raiseRow_only src sev c r func fs; rw [h]
@[simp] theorem State.raiseRow_time (src sev c r func : Nat) (fs : List (Nat × Nat)) : (s.raiseRow src sev c r func fs).time = s.time := by
  obtain ⟨_, h⟩ := s.raiseRow_only src sev c r func fs; rw [h]
@[simp] theorem State.raiseRow_clsIn (src sev c r func : Nat) (fs : List (Nat × Nat)) : (s.raiseRow src sev c r func fs).clsIn = s.clsIn := by
  obtain ⟨_, h⟩ := s.raiseRow_only src sev c r func fs; rw [h]
@[simp] theorem State.raiseRow_cls (src sev c r func : Nat) (fs : List (Nat × Nat)) : (s.raiseRow src sev c r func fs).cls = s.cls := by
  obtain ⟨_, h⟩ := s.raiseRow_only src sev c r func fs; rw [h]
@[simp] theorem State.raiseRow_fwd (src sev c r func : Nat) (fs : List (Nat × Nat)) : (s.raiseRow src sev c r func fs).fwd = s.fwd := by
  obtain ⟨_, h⟩ := s.raiseRow_only src sev c r func fs; rw [h]
@[simp] theorem State.raiseRow_running (src sev c r func : Nat) (fs : List (Nat × Nat)) : (s.raiseRow src sev c r func fs).running = s.running := by
  obtain ⟨_, h⟩ := s.raiseRow_only src sev c r func fs; rw [h]
@[simp] theorem State.raiseRow_vec (src sev c r func : Nat) (fs : List (Nat × Nat)) : (s.raiseRow src sev c r func fs).vec = s.vec := by
  obtain ⟨_, h⟩ := s.raiseRow_only src sev c r func fs; rw [h]
@[simp] theorem State.raiseRow_svl (src sev c r func : Nat) (fs : List (Nat × Nat)) : (s.raiseRow src sev c r func fs).svl = s.svl := by
  obtain ⟨_, h⟩ := s.raiseRow_only src sev c r func fs; rw [h]
@[simp] theorem State.raiseRow_testLanes (src sev c r func : Nat) (fs : List (Nat × Nat)) : (s.raiseRow src sev c r func fs).testLanes = s.testLanes := by
  obtain ⟨_, h⟩ := s.raiseRow_only src sev c r func fs; rw [h]
@[simp] theorem State.raiseRow_mac (src sev c r func : Nat) (fs : List (Nat × Nat)) : (s.raiseRow src sev c r func fs).mac = s.mac := by
  obtain ⟨_, h⟩ := s.raiseRow_only src sev c r func fs; rw [h]
@[simp] theorem State.raiseRow_lanes (src sev c r func : Nat) (fs : List (Nat × Nat)) : (s.raiseRow src sev c r func fs).lanes = s.lanes := by
  obtain ⟨_, h⟩ := s.raiseRow_only src sev c r func fs; rw [h]
@[simp] theorem State.raiseRow_pwr (src sev c r func : Nat) (fs : List (Nat × Nat)) : (s.raiseRow src sev c r func fs).pwr = s.pwr := by
  obtain ⟨_, h⟩ := s.raiseRow_only src sev c r func fs; rw [h]
@[simp] theorem State.raiseRow_mem (src sev c r func : Nat) (fs : List (Nat × Nat)) : (s.raiseRow src sev c r func fs).mem = s.mem := by
  obtain ⟨_, h⟩ := s.raiseRow_only src sev c r func fs; rw [h]
@[simp] theorem State.raiseRow_ciph (src sev c r func : Nat) (fs : List (Nat × Nat)) : (s.raiseRow src sev c r func fs).ciph = s.ciph := by
  obtain ⟨_, h⟩ := s.raiseRow_only src sev c r func fs; rw [h]
@[simp] theorem State.raiseRow_boot (src sev c r func : Nat) (fs : List (Nat × Nat)) : (s.raiseRow src sev c r func fs).boot = s.boot := by
  obtain ⟨_, h⟩ := s.raiseRow_only src sev c r func fs; rw [h]
@[simp] theorem State.raiseRow_jrn (src sev c r func : Nat) (fs : List (Nat × Nat)) : (s.raiseRow src sev c r func fs).jrn = s.jrn := by
  obtain ⟨_, h⟩ := s.raiseRow_only src sev c r func fs; rw [h]
@[simp] theorem State.raiseRow_tap (src sev c r func : Nat) (fs : List (Nat × Nat)) : (s.raiseRow src sev c r func fs).tap = s.tap := by
  obtain ⟨_, h⟩ := s.raiseRow_only src sev c r func fs; rw [h]

theorem State.bumpBy_only (c : Ctr) (n : Nat) :
    ∃ a' b' c', s.bumpBy c n = { s with regs := a', cnt := b', arb := c' } := by
  unfold State.bumpBy; dsimp only
  split_ifs
  · exact ⟨_, _, _, rfl⟩
  · exact ⟨_, _, _, rfl⟩
  · exact ⟨_, _, _, rfl⟩
  · exact ⟨_, _, _, (State.raise_only _ _ _ _ _ _).choose_spec.trans rfl⟩
@[simp] theorem State.bumpBy_pending (c : Ctr) (n : Nat) : (s.bumpBy c n).pending = s.pending := by
  obtain ⟨_, _, _, h⟩ := s.bumpBy_only c n; rw [h]
@[simp] theorem State.bumpBy_out (c : Ctr) (n : Nat) : (s.bumpBy c n).out = s.out := by
  obtain ⟨_, _, _, h⟩ := s.bumpBy_only c n; rw [h]
@[simp] theorem State.bumpBy_freeCtr (c : Ctr) (n : Nat) : (s.bumpBy c n).freeCtr = s.freeCtr := by
  obtain ⟨_, _, _, h⟩ := s.bumpBy_only c n; rw [h]
@[simp] theorem State.bumpBy_cmdId (c : Ctr) (n : Nat) : (s.bumpBy c n).cmdId = s.cmdId := by
  obtain ⟨_, _, _, h⟩ := s.bumpBy_only c n; rw [h]
@[simp] theorem State.bumpBy_bank (c : Ctr) (n : Nat) : (s.bumpBy c n).bank = s.bank := by
  obtain ⟨_, _, _, h⟩ := s.bumpBy_only c n; rw [h]
@[simp] theorem State.bumpBy_fns (c : Ctr) (n : Nat) : (s.bumpBy c n).fns = s.fns := by
  obtain ⟨_, _, _, h⟩ := s.bumpBy_only c n; rw [h]
@[simp] theorem State.bumpBy_tick (c : Ctr) (n : Nat) : (s.bumpBy c n).tick = s.tick := by
  obtain ⟨_, _, _, h⟩ := s.bumpBy_only c n; rw [h]
@[simp] theorem State.bumpBy_pon (c : Ctr) (n : Nat) : (s.bumpBy c n).pon = s.pon := by
  obtain ⟨_, _, _, h⟩ := s.bumpBy_only c n; rw [h]
@[simp] theorem State.bumpBy_alloc (c : Ctr) (n : Nat) : (s.bumpBy c n).alloc = s.alloc := by
  obtain ⟨_, _, _, h⟩ := s.bumpBy_only c n; rw [h]
@[simp] theorem State.bumpBy_bonding (c : Ctr) (n : Nat) : (s.bumpBy c n).bonding = s.bonding := by
  obtain ⟨_, _, _, h⟩ := s.bumpBy_only c n; rw [h]
@[simp] theorem State.bumpBy_buf (c : Ctr) (n : Nat) : (s.bumpBy c n).buf = s.buf := by
  obtain ⟨_, _, _, h⟩ := s.bumpBy_only c n; rw [h]
@[simp] theorem State.bumpBy_chan (c : Ctr) (n : Nat) : (s.bumpBy c n).chan = s.chan := by
  obtain ⟨_, _, _, h⟩ := s.bumpBy_only c n; rw [h]
@[simp] theorem State.bumpBy_sched (c : Ctr) (n : Nat) : (s.bumpBy c n).sched = s.sched := by
  obtain ⟨_, _, _, h⟩ := s.bumpBy_only c n; rw [h]
@[simp] theorem State.bumpBy_time (c : Ctr) (n : Nat) : (s.bumpBy c n).time = s.time := by
  obtain ⟨_, _, _, h⟩ := s.bumpBy_only c n; rw [h]
@[simp] theorem State.bumpBy_clsIn (c : Ctr) (n : Nat) : (s.bumpBy c n).clsIn = s.clsIn := by
  obtain ⟨_, _, _, h⟩ := s.bumpBy_only c n; rw [h]
@[simp] theorem State.bumpBy_cls (c : Ctr) (n : Nat) : (s.bumpBy c n).cls = s.cls := by
  obtain ⟨_, _, _, h⟩ := s.bumpBy_only c n; rw [h]
@[simp] theorem State.bumpBy_fwd (c : Ctr) (n : Nat) : (s.bumpBy c n).fwd = s.fwd := by
  obtain ⟨_, _, _, h⟩ := s.bumpBy_only c n; rw [h]
@[simp] theorem State.bumpBy_running (c : Ctr) (n : Nat) : (s.bumpBy c n).running = s.running := by
  obtain ⟨_, _, _, h⟩ := s.bumpBy_only c n; rw [h]
@[simp] theorem State.bumpBy_vec (c : Ctr) (n : Nat) : (s.bumpBy c n).vec = s.vec := by
  obtain ⟨_, _, _, h⟩ := s.bumpBy_only c n; rw [h]
@[simp] theorem State.bumpBy_svl (c : Ctr) (n : Nat) : (s.bumpBy c n).svl = s.svl := by
  obtain ⟨_, _, _, h⟩ := s.bumpBy_only c n; rw [h]
@[simp] theorem State.bumpBy_testLanes (c : Ctr) (n : Nat) : (s.bumpBy c n).testLanes = s.testLanes := by
  obtain ⟨_, _, _, h⟩ := s.bumpBy_only c n; rw [h]
@[simp] theorem State.bumpBy_mac (c : Ctr) (n : Nat) : (s.bumpBy c n).mac = s.mac := by
  obtain ⟨_, _, _, h⟩ := s.bumpBy_only c n; rw [h]
@[simp] theorem State.bumpBy_lanes (c : Ctr) (n : Nat) : (s.bumpBy c n).lanes = s.lanes := by
  obtain ⟨_, _, _, h⟩ := s.bumpBy_only c n; rw [h]
@[simp] theorem State.bumpBy_pwr (c : Ctr) (n : Nat) : (s.bumpBy c n).pwr = s.pwr := by
  obtain ⟨_, _, _, h⟩ := s.bumpBy_only c n; rw [h]
@[simp] theorem State.bumpBy_mem (c : Ctr) (n : Nat) : (s.bumpBy c n).mem = s.mem := by
  obtain ⟨_, _, _, h⟩ := s.bumpBy_only c n; rw [h]
@[simp] theorem State.bumpBy_ciph (c : Ctr) (n : Nat) : (s.bumpBy c n).ciph = s.ciph := by
  obtain ⟨_, _, _, h⟩ := s.bumpBy_only c n; rw [h]
@[simp] theorem State.bumpBy_boot (c : Ctr) (n : Nat) : (s.bumpBy c n).boot = s.boot := by
  obtain ⟨_, _, _, h⟩ := s.bumpBy_only c n; rw [h]
@[simp] theorem State.bumpBy_jrn (c : Ctr) (n : Nat) : (s.bumpBy c n).jrn = s.jrn := by
  obtain ⟨_, _, _, h⟩ := s.bumpBy_only c n; rw [h]
@[simp] theorem State.bumpBy_tap (c : Ctr) (n : Nat) : (s.bumpBy c n).tap = s.tap := by
  obtain ⟨_, _, _, h⟩ := s.bumpBy_only c n; rw [h]

theorem State.bump_only (c : Ctr) :
    ∃ a' b' c', s.bump c = { s with regs := a', cnt := b', arb := c' } := by
  exact s.bumpBy_only _ _
@[simp] theorem State.bump_pending (c : Ctr) : (s.bump c).pending = s.pending := by
  obtain ⟨_, _, _, h⟩ := s.bump_only c; rw [h]
@[simp] theorem State.bump_out (c : Ctr) : (s.bump c).out = s.out := by
  obtain ⟨_, _, _, h⟩ := s.bump_only c; rw [h]
@[simp] theorem State.bump_freeCtr (c : Ctr) : (s.bump c).freeCtr = s.freeCtr := by
  obtain ⟨_, _, _, h⟩ := s.bump_only c; rw [h]
@[simp] theorem State.bump_cmdId (c : Ctr) : (s.bump c).cmdId = s.cmdId := by
  obtain ⟨_, _, _, h⟩ := s.bump_only c; rw [h]
@[simp] theorem State.bump_bank (c : Ctr) : (s.bump c).bank = s.bank := by
  obtain ⟨_, _, _, h⟩ := s.bump_only c; rw [h]
@[simp] theorem State.bump_fns (c : Ctr) : (s.bump c).fns = s.fns := by
  obtain ⟨_, _, _, h⟩ := s.bump_only c; rw [h]
@[simp] theorem State.bump_tick (c : Ctr) : (s.bump c).tick = s.tick := by
  obtain ⟨_, _, _, h⟩ := s.bump_only c; rw [h]
@[simp] theorem State.bump_pon (c : Ctr) : (s.bump c).pon = s.pon := by
  obtain ⟨_, _, _, h⟩ := s.bump_only c; rw [h]
@[simp] theorem State.bump_alloc (c : Ctr) : (s.bump c).alloc = s.alloc := by
  obtain ⟨_, _, _, h⟩ := s.bump_only c; rw [h]
@[simp] theorem State.bump_bonding (c : Ctr) : (s.bump c).bonding = s.bonding := by
  obtain ⟨_, _, _, h⟩ := s.bump_only c; rw [h]
@[simp] theorem State.bump_buf (c : Ctr) : (s.bump c).buf = s.buf := by
  obtain ⟨_, _, _, h⟩ := s.bump_only c; rw [h]
@[simp] theorem State.bump_chan (c : Ctr) : (s.bump c).chan = s.chan := by
  obtain ⟨_, _, _, h⟩ := s.bump_only c; rw [h]
@[simp] theorem State.bump_sched (c : Ctr) : (s.bump c).sched = s.sched := by
  obtain ⟨_, _, _, h⟩ := s.bump_only c; rw [h]
@[simp] theorem State.bump_time (c : Ctr) : (s.bump c).time = s.time := by
  obtain ⟨_, _, _, h⟩ := s.bump_only c; rw [h]
@[simp] theorem State.bump_clsIn (c : Ctr) : (s.bump c).clsIn = s.clsIn := by
  obtain ⟨_, _, _, h⟩ := s.bump_only c; rw [h]
@[simp] theorem State.bump_cls (c : Ctr) : (s.bump c).cls = s.cls := by
  obtain ⟨_, _, _, h⟩ := s.bump_only c; rw [h]
@[simp] theorem State.bump_fwd (c : Ctr) : (s.bump c).fwd = s.fwd := by
  obtain ⟨_, _, _, h⟩ := s.bump_only c; rw [h]
@[simp] theorem State.bump_running (c : Ctr) : (s.bump c).running = s.running := by
  obtain ⟨_, _, _, h⟩ := s.bump_only c; rw [h]
@[simp] theorem State.bump_vec (c : Ctr) : (s.bump c).vec = s.vec := by
  obtain ⟨_, _, _, h⟩ := s.bump_only c; rw [h]
@[simp] theorem State.bump_svl (c : Ctr) : (s.bump c).svl = s.svl := by
  obtain ⟨_, _, _, h⟩ := s.bump_only c; rw [h]
@[simp] theorem State.bump_testLanes (c : Ctr) : (s.bump c).testLanes = s.testLanes := by
  obtain ⟨_, _, _, h⟩ := s.bump_only c; rw [h]
@[simp] theorem State.bump_mac (c : Ctr) : (s.bump c).mac = s.mac := by
  obtain ⟨_, _, _, h⟩ := s.bump_only c; rw [h]
@[simp] theorem State.bump_lanes (c : Ctr) : (s.bump c).lanes = s.lanes := by
  obtain ⟨_, _, _, h⟩ := s.bump_only c; rw [h]
@[simp] theorem State.bump_pwr (c : Ctr) : (s.bump c).pwr = s.pwr := by
  obtain ⟨_, _, _, h⟩ := s.bump_only c; rw [h]
@[simp] theorem State.bump_mem (c : Ctr) : (s.bump c).mem = s.mem := by
  obtain ⟨_, _, _, h⟩ := s.bump_only c; rw [h]
@[simp] theorem State.bump_ciph (c : Ctr) : (s.bump c).ciph = s.ciph := by
  obtain ⟨_, _, _, h⟩ := s.bump_only c; rw [h]
@[simp] theorem State.bump_boot (c : Ctr) : (s.bump c).boot = s.boot := by
  obtain ⟨_, _, _, h⟩ := s.bump_only c; rw [h]
@[simp] theorem State.bump_jrn (c : Ctr) : (s.bump c).jrn = s.jrn := by
  obtain ⟨_, _, _, h⟩ := s.bump_only c; rw [h]
@[simp] theorem State.bump_tap (c : Ctr) : (s.bump c).tap = s.tap := by
  obtain ⟨_, _, _, h⟩ := s.bump_only c; rw [h]

theorem State.copyBank_only (delta : Nat) (cs : List Ctr) :
    ∃ a', s.copyBank delta cs = { s with bank := a' } := by
  induction cs generalizing s with
  | nil => exact ⟨_, rfl⟩
  | cons c cs ih =>
    rw [State.copyBank]
    split_ifs
    · obtain ⟨b, h⟩ := ih ((s.setBank (c.off + delta) (s.count c % 2 ^ 32)).setBank (c.off + delta + 4) (s.count c / 2 ^ 32))
      exact ⟨b, by rw [h]; rfl⟩
    · obtain ⟨b, h⟩ := ih (s.setBank (c.off + delta) (s.count c % 2 ^ 32))
      exact ⟨b, by rw [h]; rfl⟩
@[simp] theorem State.copyBank_pending (delta : Nat) (cs : List Ctr) : (s.copyBank delta cs).pending = s.pending := by
  obtain ⟨_, h⟩ := s.copyBank_only delta cs; rw [h]
@[simp] theorem State.copyBank_out (delta : Nat) (cs : List Ctr) : (s.copyBank delta cs).out = s.out := by
  obtain ⟨_, h⟩ := s.copyBank_only delta cs; rw [h]
@[simp] theorem State.copyBank_freeCtr (delta : Nat) (cs : List Ctr) : (s.copyBank delta cs).freeCtr = s.freeCtr := by
  obtain ⟨_, h⟩ := s.copyBank_only delta cs; rw [h]
@[simp] theorem State.copyBank_cmdId (delta : Nat) (cs : List Ctr) : (s.copyBank delta cs).cmdId = s.cmdId := by
  obtain ⟨_, h⟩ := s.copyBank_only delta cs; rw [h]
@[simp] theorem State.copyBank_regs (delta : Nat) (cs : List Ctr) : (s.copyBank delta cs).regs = s.regs := by
  obtain ⟨_, h⟩ := s.copyBank_only delta cs; rw [h]
@[simp] theorem State.copyBank_cnt (delta : Nat) (cs : List Ctr) : (s.copyBank delta cs).cnt = s.cnt := by
  obtain ⟨_, h⟩ := s.copyBank_only delta cs; rw [h]
@[simp] theorem State.copyBank_arb (delta : Nat) (cs : List Ctr) : (s.copyBank delta cs).arb = s.arb := by
  obtain ⟨_, h⟩ := s.copyBank_only delta cs; rw [h]
@[simp] theorem State.copyBank_fns (delta : Nat) (cs : List Ctr) : (s.copyBank delta cs).fns = s.fns := by
  obtain ⟨_, h⟩ := s.copyBank_only delta cs; rw [h]
@[simp] theorem State.copyBank_tick (delta : Nat) (cs : List Ctr) : (s.copyBank delta cs).tick = s.tick := by
  obtain ⟨_, h⟩ := s.copyBank_only delta cs; rw [h]
@[simp] theorem State.copyBank_pon (delta : Nat) (cs : List Ctr) : (s.copyBank delta cs).pon = s.pon := by
  obtain ⟨_, h⟩ := s.copyBank_only delta cs; rw [h]
@[simp] theorem State.copyBank_alloc (delta : Nat) (cs : List Ctr) : (s.copyBank delta cs).alloc = s.alloc := by
  obtain ⟨_, h⟩ := s.copyBank_only delta cs; rw [h]
@[simp] theorem State.copyBank_bonding (delta : Nat) (cs : List Ctr) : (s.copyBank delta cs).bonding = s.bonding := by
  obtain ⟨_, h⟩ := s.copyBank_only delta cs; rw [h]
@[simp] theorem State.copyBank_buf (delta : Nat) (cs : List Ctr) : (s.copyBank delta cs).buf = s.buf := by
  obtain ⟨_, h⟩ := s.copyBank_only delta cs; rw [h]
@[simp] theorem State.copyBank_chan (delta : Nat) (cs : List Ctr) : (s.copyBank delta cs).chan = s.chan := by
  obtain ⟨_, h⟩ := s.copyBank_only delta cs; rw [h]
@[simp] theorem State.copyBank_sched (delta : Nat) (cs : List Ctr) : (s.copyBank delta cs).sched = s.sched := by
  obtain ⟨_, h⟩ := s.copyBank_only delta cs; rw [h]
@[simp] theorem State.copyBank_time (delta : Nat) (cs : List Ctr) : (s.copyBank delta cs).time = s.time := by
  obtain ⟨_, h⟩ := s.copyBank_only delta cs; rw [h]
@[simp] theorem State.copyBank_clsIn (delta : Nat) (cs : List Ctr) : (s.copyBank delta cs).clsIn = s.clsIn := by
  obtain ⟨_, h⟩ := s.copyBank_only delta cs; rw [h]
@[simp] theorem State.copyBank_cls (delta : Nat) (cs : List Ctr) : (s.copyBank delta cs).cls = s.cls := by
  obtain ⟨_, h⟩ := s.copyBank_only delta cs; rw [h]
@[simp] theorem State.copyBank_fwd (delta : Nat) (cs : List Ctr) : (s.copyBank delta cs).fwd = s.fwd := by
  obtain ⟨_, h⟩ := s.copyBank_only delta cs; rw [h]
@[simp] theorem State.copyBank_running (delta : Nat) (cs : List Ctr) : (s.copyBank delta cs).running = s.running := by
  obtain ⟨_, h⟩ := s.copyBank_only delta cs; rw [h]
@[simp] theorem State.copyBank_vec (delta : Nat) (cs : List Ctr) : (s.copyBank delta cs).vec = s.vec := by
  obtain ⟨_, h⟩ := s.copyBank_only delta cs; rw [h]
@[simp] theorem State.copyBank_svl (delta : Nat) (cs : List Ctr) : (s.copyBank delta cs).svl = s.svl := by
  obtain ⟨_, h⟩ := s.copyBank_only delta cs; rw [h]
@[simp] theorem State.copyBank_testLanes (delta : Nat) (cs : List Ctr) : (s.copyBank delta cs).testLanes = s.testLanes := by
  obtain ⟨_, h⟩ := s.copyBank_only delta cs; rw [h]
@[simp] theorem State.copyBank_mac (delta : Nat) (cs : List Ctr) : (s.copyBank delta cs).mac = s.mac := by
  obtain ⟨_, h⟩ := s.copyBank_only delta cs; rw [h]
@[simp] theorem State.copyBank_lanes (delta : Nat) (cs : List Ctr) : (s.copyBank delta cs).lanes = s.lanes := by
  obtain ⟨_, h⟩ := s.copyBank_only delta cs; rw [h]
@[simp] theorem State.copyBank_pwr (delta : Nat) (cs : List Ctr) : (s.copyBank delta cs).pwr = s.pwr := by
  obtain ⟨_, h⟩ := s.copyBank_only delta cs; rw [h]
@[simp] theorem State.copyBank_mem (delta : Nat) (cs : List Ctr) : (s.copyBank delta cs).mem = s.mem := by
  obtain ⟨_, h⟩ := s.copyBank_only delta cs; rw [h]
@[simp] theorem State.copyBank_ciph (delta : Nat) (cs : List Ctr) : (s.copyBank delta cs).ciph = s.ciph := by
  obtain ⟨_, h⟩ := s.copyBank_only delta cs; rw [h]
@[simp] theorem State.copyBank_boot (delta : Nat) (cs : List Ctr) : (s.copyBank delta cs).boot = s.boot := by
  obtain ⟨_, h⟩ := s.copyBank_only delta cs; rw [h]
@[simp] theorem State.copyBank_jrn (delta : Nat) (cs : List Ctr) : (s.copyBank delta cs).jrn = s.jrn := by
  obtain ⟨_, h⟩ := s.copyBank_only delta cs; rw [h]
@[simp] theorem State.copyBank_tap (delta : Nat) (cs : List Ctr) : (s.copyBank delta cs).tap = s.tap := by
  obtain ⟨_, h⟩ := s.copyBank_only delta cs; rw [h]

theorem State.accErr_only (f off which : Nat) :
    ∃ a' b', s.accErr f off which = { s with regs := a', fns := b' } := by
  unfold State.accErr State.setFn State.wr; exact ⟨_, _, rfl⟩
@[simp] theorem State.accErr_pending (f off which : Nat) : (s.accErr f off which).pending = s.pending := by
  obtain ⟨_, _, h⟩ := s.accErr_only f off which; rw [h]
@[simp] theorem State.accErr_out (f off which : Nat) : (s.accErr f off which).out = s.out := by
  obtain ⟨_, _, h⟩ := s.accErr_only f off which; rw [h]
@[simp] theorem State.accErr_freeCtr (f off which : Nat) : (s.accErr f off which).freeCtr = s.freeCtr := by
  obtain ⟨_, _, h⟩ := s.accErr_only f off which; rw [h]
@[simp] theorem State.accErr_cmdId (f off which : Nat) : (s.accErr f off which).cmdId = s.cmdId := by
  obtain ⟨_, _, h⟩ := s.accErr_only f off which; rw [h]
@[simp] theorem State.accErr_cnt (f off which : Nat) : (s.accErr f off which).cnt = s.cnt := by
  obtain ⟨_, _, h⟩ := s.accErr_only f off which; rw [h]
@[simp] theorem State.accErr_bank (f off which : Nat) : (s.accErr f off which).bank = s.bank := by
  obtain ⟨_, _, h⟩ := s.accErr_only f off which; rw [h]
@[simp] theorem State.accErr_arb (f off which : Nat) : (s.accErr f off which).arb = s.arb := by
  obtain ⟨_, _, h⟩ := s.accErr_only f off which; rw [h]
@[simp] theorem State.accErr_tick (f off which : Nat) : (s.accErr f off which).tick = s.tick := by
  obtain ⟨_, _, h⟩ := s.accErr_only f off which; rw [h]
@[simp] theorem State.accErr_pon (f off which : Nat) : (s.accErr f off which).pon = s.pon := by
  obtain ⟨_, _, h⟩ := s.accErr_only f off which; rw [h]
@[simp] theorem State.accErr_alloc (f off which : Nat) : (s.accErr f off which).alloc = s.alloc := by
  obtain ⟨_, _, h⟩ := s.accErr_only f off which; rw [h]
@[simp] theorem State.accErr_bonding (f off which : Nat) : (s.accErr f off which).bonding = s.bonding := by
  obtain ⟨_, _, h⟩ := s.accErr_only f off which; rw [h]
@[simp] theorem State.accErr_buf (f off which : Nat) : (s.accErr f off which).buf = s.buf := by
  obtain ⟨_, _, h⟩ := s.accErr_only f off which; rw [h]
@[simp] theorem State.accErr_chan (f off which : Nat) : (s.accErr f off which).chan = s.chan := by
  obtain ⟨_, _, h⟩ := s.accErr_only f off which; rw [h]
@[simp] theorem State.accErr_sched (f off which : Nat) : (s.accErr f off which).sched = s.sched := by
  obtain ⟨_, _, h⟩ := s.accErr_only f off which; rw [h]
@[simp] theorem State.accErr_time (f off which : Nat) : (s.accErr f off which).time = s.time := by
  obtain ⟨_, _, h⟩ := s.accErr_only f off which; rw [h]
@[simp] theorem State.accErr_clsIn (f off which : Nat) : (s.accErr f off which).clsIn = s.clsIn := by
  obtain ⟨_, _, h⟩ := s.accErr_only f off which; rw [h]
@[simp] theorem State.accErr_cls (f off which : Nat) : (s.accErr f off which).cls = s.cls := by
  obtain ⟨_, _, h⟩ := s.accErr_only f off which; rw [h]
@[simp] theorem State.accErr_fwd (f off which : Nat) : (s.accErr f off which).fwd = s.fwd := by
  obtain ⟨_, _, h⟩ := s.accErr_only f off which; rw [h]
@[simp] theorem State.accErr_running (f off which : Nat) : (s.accErr f off which).running = s.running := by
  obtain ⟨_, _, h⟩ := s.accErr_only f off which; rw [h]
@[simp] theorem State.accErr_vec (f off which : Nat) : (s.accErr f off which).vec = s.vec := by
  obtain ⟨_, _, h⟩ := s.accErr_only f off which; rw [h]
@[simp] theorem State.accErr_svl (f off which : Nat) : (s.accErr f off which).svl = s.svl := by
  obtain ⟨_, _, h⟩ := s.accErr_only f off which; rw [h]
@[simp] theorem State.accErr_testLanes (f off which : Nat) : (s.accErr f off which).testLanes = s.testLanes := by
  obtain ⟨_, _, h⟩ := s.accErr_only f off which; rw [h]
@[simp] theorem State.accErr_mac (f off which : Nat) : (s.accErr f off which).mac = s.mac := by
  obtain ⟨_, _, h⟩ := s.accErr_only f off which; rw [h]
@[simp] theorem State.accErr_lanes (f off which : Nat) : (s.accErr f off which).lanes = s.lanes := by
  obtain ⟨_, _, h⟩ := s.accErr_only f off which; rw [h]
@[simp] theorem State.accErr_pwr (f off which : Nat) : (s.accErr f off which).pwr = s.pwr := by
  obtain ⟨_, _, h⟩ := s.accErr_only f off which; rw [h]
@[simp] theorem State.accErr_mem (f off which : Nat) : (s.accErr f off which).mem = s.mem := by
  obtain ⟨_, _, h⟩ := s.accErr_only f off which; rw [h]
@[simp] theorem State.accErr_ciph (f off which : Nat) : (s.accErr f off which).ciph = s.ciph := by
  obtain ⟨_, _, h⟩ := s.accErr_only f off which; rw [h]
@[simp] theorem State.accErr_boot (f off which : Nat) : (s.accErr f off which).boot = s.boot := by
  obtain ⟨_, _, h⟩ := s.accErr_only f off which; rw [h]
@[simp] theorem State.accErr_jrn (f off which : Nat) : (s.accErr f off which).jrn = s.jrn := by
  obtain ⟨_, _, h⟩ := s.accErr_only f off which; rw [h]
@[simp] theorem State.accErr_tap (f off which : Nat) : (s.accErr f off which).tap = s.tap := by
  obtain ⟨_, _, h⟩ := s.accErr_only f off which; rw [h]

theorem State.writeBack_only (f : Nat) :
    ∃ a', s.writeBack f = { s with out := a' } := by
  unfold State.writeBack State.emit; exact ⟨_, rfl⟩
@[simp] theorem State.writeBack_pending (f : Nat) : (s.writeBack f).pending = s.pending := by
  obtain ⟨_, h⟩ := s.writeBack_only f; rw [h]
@[simp] theorem State.writeBack_freeCtr (f : Nat) : (s.writeBack f).freeCtr = s.freeCtr := by
  obtain ⟨_, h⟩ := s.writeBack_only f; rw [h]
@[simp] theorem State.writeBack_cmdId (f : Nat) : (s.writeBack f).cmdId = s.cmdId := by
  obtain ⟨_, h⟩ := s.writeBack_only f; rw [h]
@[simp] theorem State.writeBack_regs (f : Nat) : (s.writeBack f).regs = s.regs := by
  obtain ⟨_, h⟩ := s.writeBack_only f; rw [h]
@[simp] theorem State.writeBack_cnt (f : Nat) : (s.writeBack f).cnt = s.cnt := by
  obtain ⟨_, h⟩ := s.writeBack_only f; rw [h]
@[simp] theorem State.writeBack_bank (f : Nat) : (s.writeBack f).bank = s.bank := by
  obtain ⟨_, h⟩ := s.writeBack_only f; rw [h]
@[simp] theorem State.writeBack_arb (f : Nat) : (s.writeBack f).arb = s.arb := by
  obtain ⟨_, h⟩ := s.writeBack_only f; rw [h]
@[simp] theorem State.writeBack_fns (f : Nat) : (s.writeBack f).fns = s.fns := by
  obtain ⟨_, h⟩ := s.writeBack_only f; rw [h]
@[simp] theorem State.writeBack_tick (f : Nat) : (s.writeBack f).tick = s.tick := by
  obtain ⟨_, h⟩ := s.writeBack_only f; rw [h]
@[simp] theorem State.writeBack_pon (f : Nat) : (s.writeBack f).pon = s.pon := by
  obtain ⟨_, h⟩ := s.writeBack_only f; rw [h]
@[simp] theorem State.writeBack_alloc (f : Nat) : (s.writeBack f).alloc = s.alloc := by
  obtain ⟨_, h⟩ := s.writeBack_only f; rw [h]
@[simp] theorem State.writeBack_bonding (f : Nat) : (s.writeBack f).bonding = s.bonding := by
  obtain ⟨_, h⟩ := s.writeBack_only f; rw [h]
@[simp] theorem State.writeBack_buf (f : Nat) : (s.writeBack f).buf = s.buf := by
  obtain ⟨_, h⟩ := s.writeBack_only f; rw [h]
@[simp] theorem State.writeBack_chan (f : Nat) : (s.writeBack f).chan = s.chan := by
  obtain ⟨_, h⟩ := s.writeBack_only f; rw [h]
@[simp] theorem State.writeBack_sched (f : Nat) : (s.writeBack f).sched = s.sched := by
  obtain ⟨_, h⟩ := s.writeBack_only f; rw [h]
@[simp] theorem State.writeBack_time (f : Nat) : (s.writeBack f).time = s.time := by
  obtain ⟨_, h⟩ := s.writeBack_only f; rw [h]
@[simp] theorem State.writeBack_clsIn (f : Nat) : (s.writeBack f).clsIn = s.clsIn := by
  obtain ⟨_, h⟩ := s.writeBack_only f; rw [h]
@[simp] theorem State.writeBack_cls (f : Nat) : (s.writeBack f).cls = s.cls := by
  obtain ⟨_, h⟩ := s.writeBack_only f; rw [h]
@[simp] theorem State.writeBack_fwd (f : Nat) : (s.writeBack f).fwd = s.fwd := by
  obtain ⟨_, h⟩ := s.writeBack_only f; rw [h]
@[simp] theorem State.writeBack_running (f : Nat) : (s.writeBack f).running = s.running := by
  obtain ⟨_, h⟩ := s.writeBack_only f; rw [h]
@[simp] theorem State.writeBack_vec (f : Nat) : (s.writeBack f).vec = s.vec := by
  obtain ⟨_, h⟩ := s.writeBack_only f; rw [h]
@[simp] theorem State.writeBack_svl (f : Nat) : (s.writeBack f).svl = s.svl := by
  obtain ⟨_, h⟩ := s.writeBack_only f; rw [h]
@[simp] theorem State.writeBack_testLanes (f : Nat) : (s.writeBack f).testLanes = s.testLanes := by
  obtain ⟨_, h⟩ := s.writeBack_only f; rw [h]
@[simp] theorem State.writeBack_mac (f : Nat) : (s.writeBack f).mac = s.mac := by
  obtain ⟨_, h⟩ := s.writeBack_only f; rw [h]
@[simp] theorem State.writeBack_lanes (f : Nat) : (s.writeBack f).lanes = s.lanes := by
  obtain ⟨_, h⟩ := s.writeBack_only f; rw [h]
@[simp] theorem State.writeBack_pwr (f : Nat) : (s.writeBack f).pwr = s.pwr := by
  obtain ⟨_, h⟩ := s.writeBack_only f; rw [h]
@[simp] theorem State.writeBack_mem (f : Nat) : (s.writeBack f).mem = s.mem := by
  obtain ⟨_, h⟩ := s.writeBack_only f; rw [h]
@[simp] theorem State.writeBack_ciph (f : Nat) : (s.writeBack f).ciph = s.ciph := by
  obtain ⟨_, h⟩ := s.writeBack_only f; rw [h]
@[simp] theorem State.writeBack_boot (f : Nat) : (s.writeBack f).boot = s.boot := by
  obtain ⟨_, h⟩ := s.writeBack_only f; rw [h]
@[simp] theorem State.writeBack_jrn (f : Nat) : (s.writeBack f).jrn = s.jrn := by
  obtain ⟨_, h⟩ := s.writeBack_only f; rw [h]
@[simp] theorem State.writeBack_tap (f : Nat) : (s.writeBack f).tap = s.tap := by
  obtain ⟨_, h⟩ := s.writeBack_only f; rw [h]

theorem State.flushReply_only (f : Nat) :
    ∃ a' b', s.flushReply f = { s with fns := a', out := b' } := by
  unfold State.flushReply; dsimp only
  split
  · exact ⟨_, _, rfl⟩
  · split_ifs <;> first | (unfold State.writeBack State.setFn State.emit; exact ⟨_, _, rfl⟩) | exact ⟨_, _, rfl⟩
@[simp] theorem State.flushReply_pending (f : Nat) : (s.flushReply f).pending = s.pending := by
  obtain ⟨_, _, h⟩ := s.flushReply_only f; rw [h]
@[simp] theorem State.flushReply_freeCtr (f : Nat) : (s.flushReply f).freeCtr = s.freeCtr := by
  obtain ⟨_, _, h⟩ := s.flushReply_only f; rw [h]
@[simp] theorem State.flushReply_cmdId (f : Nat) : (s.flushReply f).cmdId = s.cmdId := by
  obtain ⟨_, _, h⟩ := s.flushReply_only f; rw [h]
@[simp] theorem State.flushReply_regs (f : Nat) : (s.flushReply f).regs = s.regs := by
  obtain ⟨_, _, h⟩ := s.flushReply_only f; rw [h]
@[simp] theorem State.flushReply_cnt (f : Nat) : (s.flushReply f).cnt = s.cnt := by
  obtain ⟨_, _, h⟩ := s.flushReply_only f; rw [h]
@[simp] theorem State.flushReply_bank (f : Nat) : (s.flushReply f).bank = s.bank := by
  obtain ⟨_, _, h⟩ := s.flushReply_only f; rw [h]
@[simp] theorem State.flushReply_arb (f : Nat) : (s.flushReply f).arb = s.arb := by
  obtain ⟨_, _, h⟩ := s.flushReply_only f; rw [h]
@[simp] theorem State.flushReply_tick (f : Nat) : (s.flushReply f).tick = s.tick := by
  obtain ⟨_, _, h⟩ := s.flushReply_only f; rw [h]
@[simp] theorem State.flushReply_pon (f : Nat) : (s.flushReply f).pon = s.pon := by
  obtain ⟨_, _, h⟩ := s.flushReply_only f; rw [h]
@[simp] theorem State.flushReply_alloc (f : Nat) : (s.flushReply f).alloc = s.alloc := by
  obtain ⟨_, _, h⟩ := s.flushReply_only f; rw [h]
@[simp] theorem State.flushReply_bonding (f : Nat) : (s.flushReply f).bonding = s.bonding := by
  obtain ⟨_, _, h⟩ := s.flushReply_only f; rw [h]
@[simp] theorem State.flushReply_buf (f : Nat) : (s.flushReply f).buf = s.buf := by
  obtain ⟨_, _, h⟩ := s.flushReply_only f; rw [h]
@[simp] theorem State.flushReply_chan (f : Nat) : (s.flushReply f).chan = s.chan := by
  obtain ⟨_, _, h⟩ := s.flushReply_only f; rw [h]
@[simp] theorem State.flushReply_sched (f : Nat) : (s.flushReply f).sched = s.sched := by
  obtain ⟨_, _, h⟩ := s.flushReply_only f; rw [h]
@[simp] theorem State.flushReply_time (f : Nat) : (s.flushReply f).time = s.time := by
  obtain ⟨_, _, h⟩ := s.flushReply_only f; rw [h]
@[simp] theorem State.flushReply_clsIn (f : Nat) : (s.flushReply f).clsIn = s.clsIn := by
  obtain ⟨_, _, h⟩ := s.flushReply_only f; rw [h]
@[simp] theorem State.flushReply_cls (f : Nat) : (s.flushReply f).cls = s.cls := by
  obtain ⟨_, _, h⟩ := s.flushReply_only f; rw [h]
@[simp] theorem State.flushReply_fwd (f : Nat) : (s.flushReply f).fwd = s.fwd := by
  obtain ⟨_, _, h⟩ := s.flushReply_only f; rw [h]
@[simp] theorem State.flushReply_running (f : Nat) : (s.flushReply f).running = s.running := by
  obtain ⟨_, _, h⟩ := s.flushReply_only f; rw [h]
@[simp] theorem State.flushReply_vec (f : Nat) : (s.flushReply f).vec = s.vec := by
  obtain ⟨_, _, h⟩ := s.flushReply_only f; rw [h]
@[simp] theorem State.flushReply_svl (f : Nat) : (s.flushReply f).svl = s.svl := by
  obtain ⟨_, _, h⟩ := s.flushReply_only f; rw [h]
@[simp] theorem State.flushReply_testLanes (f : Nat) : (s.flushReply f).testLanes = s.testLanes := by
  obtain ⟨_, _, h⟩ := s.flushReply_only f; rw [h]
@[simp] theorem State.flushReply_mac (f : Nat) : (s.flushReply f).mac = s.mac := by
  obtain ⟨_, _, h⟩ := s.flushReply_only f; rw [h]
@[simp] theorem State.flushReply_lanes (f : Nat) : (s.flushReply f).lanes = s.lanes := by
  obtain ⟨_, _, h⟩ := s.flushReply_only f; rw [h]
@[simp] theorem State.flushReply_pwr (f : Nat) : (s.flushReply f).pwr = s.pwr := by
  obtain ⟨_, _, h⟩ := s.flushReply_only f; rw [h]
@[simp] theorem State.flushReply_mem (f : Nat) : (s.flushReply f).mem = s.mem := by
  obtain ⟨_, _, h⟩ := s.flushReply_only f; rw [h]
@[simp] theorem State.flushReply_ciph (f : Nat) : (s.flushReply f).ciph = s.ciph := by
  obtain ⟨_, _, h⟩ := s.flushReply_only f; rw [h]
@[simp] theorem State.flushReply_boot (f : Nat) : (s.flushReply f).boot = s.boot := by
  obtain ⟨_, _, h⟩ := s.flushReply_only f; rw [h]
@[simp] theorem State.flushReply_jrn (f : Nat) : (s.flushReply f).jrn = s.jrn := by
  obtain ⟨_, _, h⟩ := s.flushReply_only f; rw [h]
@[simp] theorem State.flushReply_tap (f : Nat) : (s.flushReply f).tap = s.tap := by
  obtain ⟨_, _, h⟩ := s.flushReply_only f; rw [h]

theorem State.endCmd_only (e : Echo) (r : CmdEnd) :
    ∃ a' b', s.endCmd e r = { s with fns := a', out := b' } := by
  unfold State.endCmd; dsimp only
  split_ifs
  · exact ⟨_, _, (State.flushReply_only _ _).choose_spec.choose_spec.trans rfl⟩
  · exact ⟨_, _, rfl⟩
@[simp] theorem State.endCmd_pending (e : Echo) (r : CmdEnd) : (s.endCmd e r).pending = s.pending := by
  obtain ⟨_, _, h⟩ := s.endCmd_only e r; rw [h]
@[simp] theorem State.endCmd_freeCtr (e : Echo) (r : CmdEnd) : (s.endCmd e r).freeCtr = s.freeCtr := by
  obtain ⟨_, _, h⟩ := s.endCmd_only e r; rw [h]
@[simp] theorem State.endCmd_cmdId (e : Echo) (r : CmdEnd) : (s.endCmd e r).cmdId = s.cmdId := by
  obtain ⟨_, _, h⟩ := s.endCmd_only e r; rw [h]
@[simp] theorem State.endCmd_regs (e : Echo) (r : CmdEnd) : (s.endCmd e r).regs = s.regs := by
  obtain ⟨_, _, h⟩ := s.endCmd_only e r; rw [h]
@[simp] theorem State.endCmd_cnt (e : Echo) (r : CmdEnd) : (s.endCmd e r).cnt = s.cnt := by
  obtain ⟨_, _, h⟩ := s.endCmd_only e r; rw [h]
@[simp] theorem State.endCmd_bank (e : Echo) (r : CmdEnd) : (s.endCmd e r).bank = s.bank := by
  obtain ⟨_, _, h⟩ := s.endCmd_only e r; rw [h]
@[simp] theorem State.endCmd_arb (e : Echo) (r : CmdEnd) : (s.endCmd e r).arb = s.arb := by
  obtain ⟨_, _, h⟩ := s.endCmd_only e r; rw [h]
@[simp] theorem State.endCmd_tick (e : Echo) (r : CmdEnd) : (s.endCmd e r).tick = s.tick := by
  obtain ⟨_, _, h⟩ := s.endCmd_only e r; rw [h]
@[simp] theorem State.endCmd_pon (e : Echo) (r : CmdEnd) : (s.endCmd e r).pon = s.pon := by
  obtain ⟨_, _, h⟩ := s.endCmd_only e r; rw [h]
@[simp] theorem State.endCmd_alloc (e : Echo) (r : CmdEnd) : (s.endCmd e r).alloc = s.alloc := by
  obtain ⟨_, _, h⟩ := s.endCmd_only e r; rw [h]
@[simp] theorem State.endCmd_bonding (e : Echo) (r : CmdEnd) : (s.endCmd e r).bonding = s.bonding := by
  obtain ⟨_, _, h⟩ := s.endCmd_only e r; rw [h]
@[simp] theorem State.endCmd_buf (e : Echo) (r : CmdEnd) : (s.endCmd e r).buf = s.buf := by
  obtain ⟨_, _, h⟩ := s.endCmd_only e r; rw [h]
@[simp] theorem State.endCmd_chan (e : Echo) (r : CmdEnd) : (s.endCmd e r).chan = s.chan := by
  obtain ⟨_, _, h⟩ := s.endCmd_only e r; rw [h]
@[simp] theorem State.endCmd_sched (e : Echo) (r : CmdEnd) : (s.endCmd e r).sched = s.sched := by
  obtain ⟨_, _, h⟩ := s.endCmd_only e r; rw [h]
@[simp] theorem State.endCmd_time (e : Echo) (r : CmdEnd) : (s.endCmd e r).time = s.time := by
  obtain ⟨_, _, h⟩ := s.endCmd_only e r; rw [h]
@[simp] theorem State.endCmd_clsIn (e : Echo) (r : CmdEnd) : (s.endCmd e r).clsIn = s.clsIn := by
  obtain ⟨_, _, h⟩ := s.endCmd_only e r; rw [h]
@[simp] theorem State.endCmd_cls (e : Echo) (r : CmdEnd) : (s.endCmd e r).cls = s.cls := by
  obtain ⟨_, _, h⟩ := s.endCmd_only e r; rw [h]
@[simp] theorem State.endCmd_fwd (e : Echo) (r : CmdEnd) : (s.endCmd e r).fwd = s.fwd := by
  obtain ⟨_, _, h⟩ := s.endCmd_only e r; rw [h]
@[simp] theorem State.endCmd_running (e : Echo) (r : CmdEnd) : (s.endCmd e r).running = s.running := by
  obtain ⟨_, _, h⟩ := s.endCmd_only e r; rw [h]
@[simp] theorem State.endCmd_vec (e : Echo) (r : CmdEnd) : (s.endCmd e r).vec = s.vec := by
  obtain ⟨_, _, h⟩ := s.endCmd_only e r; rw [h]
@[simp] theorem State.endCmd_svl (e : Echo) (r : CmdEnd) : (s.endCmd e r).svl = s.svl := by
  obtain ⟨_, _, h⟩ := s.endCmd_only e r; rw [h]
@[simp] theorem State.endCmd_testLanes (e : Echo) (r : CmdEnd) : (s.endCmd e r).testLanes = s.testLanes := by
  obtain ⟨_, _, h⟩ := s.endCmd_only e r; rw [h]
@[simp] theorem State.endCmd_mac (e : Echo) (r : CmdEnd) : (s.endCmd e r).mac = s.mac := by
  obtain ⟨_, _, h⟩ := s.endCmd_only e r; rw [h]
@[simp] theorem State.endCmd_lanes (e : Echo) (r : CmdEnd) : (s.endCmd e r).lanes = s.lanes := by
  obtain ⟨_, _, h⟩ := s.endCmd_only e r; rw [h]
@[simp] theorem State.endCmd_pwr (e : Echo) (r : CmdEnd) : (s.endCmd e r).pwr = s.pwr := by
  obtain ⟨_, _, h⟩ := s.endCmd_only e r; rw [h]
@[simp] theorem State.endCmd_mem (e : Echo) (r : CmdEnd) : (s.endCmd e r).mem = s.mem := by
  obtain ⟨_, _, h⟩ := s.endCmd_only e r; rw [h]
@[simp] theorem State.endCmd_ciph (e : Echo) (r : CmdEnd) : (s.endCmd e r).ciph = s.ciph := by
  obtain ⟨_, _, h⟩ := s.endCmd_only e r; rw [h]
@[simp] theorem State.endCmd_boot (e : Echo) (r : CmdEnd) : (s.endCmd e r).boot = s.boot := by
  obtain ⟨_, _, h⟩ := s.endCmd_only e r; rw [h]
@[simp] theorem State.endCmd_jrn (e : Echo) (r : CmdEnd) : (s.endCmd e r).jrn = s.jrn := by
  obtain ⟨_, _, h⟩ := s.endCmd_only e r; rw [h]
@[simp] theorem State.endCmd_tap (e : Echo) (r : CmdEnd) : (s.endCmd e r).tap = s.tap := by
  obtain ⟨_, _, h⟩ := s.endCmd_only e r; rw [h]

theorem State.endLater_only (f id : Nat) (r : CmdEnd) :
    ∃ a' b', s.endLater f id r = { s with fns := a', out := b' } := by
  unfold State.endLater; dsimp only
  split
  · exact ⟨_, _, rfl⟩
  · exact ⟨_, _, (State.endCmd_only _ _ _).choose_spec.choose_spec.trans rfl⟩
@[simp] theorem State.endLater_pending (f id : Nat) (r : CmdEnd) : (s.endLater f id r).pending = s.pending := by
  obtain ⟨_, _, h⟩ := s.endLater_only f id r; rw [h]
@[simp] theorem State.endLater_freeCtr (f id : Nat) (r : CmdEnd) : (s.endLater f id r).freeCtr = s.freeCtr := by
  obtain ⟨_, _, h⟩ := s.endLater_only f id r; rw [h]
@[simp] theorem State.endLater_cmdId (f id : Nat) (r : CmdEnd) : (s.endLater f id r).cmdId = s.cmdId := by
  obtain ⟨_, _, h⟩ := s.endLater_only f id r; rw [h]
@[simp] theorem State.endLater_regs (f id : Nat) (r : CmdEnd) : (s.endLater f id r).regs = s.regs := by
  obtain ⟨_, _, h⟩ := s.endLater_only f id r; rw [h]
@[simp] theorem State.endLater_cnt (f id : Nat) (r : CmdEnd) : (s.endLater f id r).cnt = s.cnt := by
  obtain ⟨_, _, h⟩ := s.endLater_only f id r; rw [h]
@[simp] theorem State.endLater_bank (f id : Nat) (r : CmdEnd) : (s.endLater f id r).bank = s.bank := by
  obtain ⟨_, _, h⟩ := s.endLater_only f id r; rw [h]
@[simp] theorem State.endLater_arb (f id : Nat) (r : CmdEnd) : (s.endLater f id r).arb = s.arb := by
  obtain ⟨_, _, h⟩ := s.endLater_only f id r; rw [h]
@[simp] theorem State.endLater_tick (f id : Nat) (r : CmdEnd) : (s.endLater f id r).tick = s.tick := by
  obtain ⟨_, _, h⟩ := s.endLater_only f id r; rw [h]
@[simp] theorem State.endLater_pon (f id : Nat) (r : CmdEnd) : (s.endLater f id r).pon = s.pon := by
  obtain ⟨_, _, h⟩ := s.endLater_only f id r; rw [h]
@[simp] theorem State.endLater_alloc (f id : Nat) (r : CmdEnd) : (s.endLater f id r).alloc = s.alloc := by
  obtain ⟨_, _, h⟩ := s.endLater_only f id r; rw [h]
@[simp] theorem State.endLater_bonding (f id : Nat) (r : CmdEnd) : (s.endLater f id r).bonding = s.bonding := by
  obtain ⟨_, _, h⟩ := s.endLater_only f id r; rw [h]
@[simp] theorem State.endLater_buf (f id : Nat) (r : CmdEnd) : (s.endLater f id r).buf = s.buf := by
  obtain ⟨_, _, h⟩ := s.endLater_only f id r; rw [h]
@[simp] theorem State.endLater_chan (f id : Nat) (r : CmdEnd) : (s.endLater f id r).chan = s.chan := by
  obtain ⟨_, _, h⟩ := s.endLater_only f id r; rw [h]
@[simp] theorem State.endLater_sched (f id : Nat) (r : CmdEnd) : (s.endLater f id r).sched = s.sched := by
  obtain ⟨_, _, h⟩ := s.endLater_only f id r; rw [h]
@[simp] theorem State.endLater_time (f id : Nat) (r : CmdEnd) : (s.endLater f id r).time = s.time := by
  obtain ⟨_, _, h⟩ := s.endLater_only f id r; rw [h]
@[simp] theorem State.endLater_clsIn (f id : Nat) (r : CmdEnd) : (s.endLater f id r).clsIn = s.clsIn := by
  obtain ⟨_, _, h⟩ := s.endLater_only f id r; rw [h]
@[simp] theorem State.endLater_cls (f id : Nat) (r : CmdEnd) : (s.endLater f id r).cls = s.cls := by
  obtain ⟨_, _, h⟩ := s.endLater_only f id r; rw [h]
@[simp] theorem State.endLater_fwd (f id : Nat) (r : CmdEnd) : (s.endLater f id r).fwd = s.fwd := by
  obtain ⟨_, _, h⟩ := s.endLater_only f id r; rw [h]
@[simp] theorem State.endLater_running (f id : Nat) (r : CmdEnd) : (s.endLater f id r).running = s.running := by
  obtain ⟨_, _, h⟩ := s.endLater_only f id r; rw [h]
@[simp] theorem State.endLater_vec (f id : Nat) (r : CmdEnd) : (s.endLater f id r).vec = s.vec := by
  obtain ⟨_, _, h⟩ := s.endLater_only f id r; rw [h]
@[simp] theorem State.endLater_svl (f id : Nat) (r : CmdEnd) : (s.endLater f id r).svl = s.svl := by
  obtain ⟨_, _, h⟩ := s.endLater_only f id r; rw [h]
@[simp] theorem State.endLater_testLanes (f id : Nat) (r : CmdEnd) : (s.endLater f id r).testLanes = s.testLanes := by
  obtain ⟨_, _, h⟩ := s.endLater_only f id r; rw [h]
@[simp] theorem State.endLater_mac (f id : Nat) (r : CmdEnd) : (s.endLater f id r).mac = s.mac := by
  obtain ⟨_, _, h⟩ := s.endLater_only f id r; rw [h]
@[simp] theorem State.endLater_lanes (f id : Nat) (r : CmdEnd) : (s.endLater f id r).lanes = s.lanes := by
  obtain ⟨_, _, h⟩ := s.endLater_only f id r; rw [h]
@[simp] theorem State.endLater_pwr (f id : Nat) (r : CmdEnd) : (s.endLater f id r).pwr = s.pwr := by
  obtain ⟨_, _, h⟩ := s.endLater_only f id r; rw [h]
@[simp] theorem State.endLater_mem (f id : Nat) (r : CmdEnd) : (s.endLater f id r).mem = s.mem := by
  obtain ⟨_, _, h⟩ := s.endLater_only f id r; rw [h]
@[simp] theorem State.endLater_ciph (f id : Nat) (r : CmdEnd) : (s.endLater f id r).ciph = s.ciph := by
  obtain ⟨_, _, h⟩ := s.endLater_only f id r; rw [h]
@[simp] theorem State.endLater_boot (f id : Nat) (r : CmdEnd) : (s.endLater f id r).boot = s.boot := by
  obtain ⟨_, _, h⟩ := s.endLater_only f id r; rw [h]
@[simp] theorem State.endLater_jrn (f id : Nat) (r : CmdEnd) : (s.endLater f id r).jrn = s.jrn := by
  obtain ⟨_, _, h⟩ := s.endLater_only f id r; rw [h]
@[simp] theorem State.endLater_tap (f id : Nat) (r : CmdEnd) : (s.endLater f id r).tap = s.tap := by
  obtain ⟨_, _, h⟩ := s.endLater_only f id r; rw [h]

theorem State.takePkt_only (p : Pkt) :
    ∃ a' b', s.takePkt p = { s with fns := a', out := b' } := by
  unfold State.takePkt; unfold State.writeBack State.emit State.setFn; exact ⟨_, _, rfl⟩
@[simp] theorem State.takePkt_pending (p : Pkt) : (s.takePkt p).pending = s.pending := by
  obtain ⟨_, _, h⟩ := s.takePkt_only p; rw [h]
@[simp] theorem State.takePkt_freeCtr (p : Pkt) : (s.takePkt p).freeCtr = s.freeCtr := by
  obtain ⟨_, _, h⟩ := s.takePkt_only p; rw [h]
@[simp] theorem State.takePkt_cmdId (p : Pkt) : (s.takePkt p).cmdId = s.cmdId := by
  obtain ⟨_, _, h⟩ := s.takePkt_only p; rw [h]
@[simp] theorem State.takePkt_regs (p : Pkt) : (s.takePkt p).regs = s.regs := by
  obtain ⟨_, _, h⟩ := s.takePkt_only p; rw [h]
@[simp] theorem State.takePkt_cnt (p : Pkt) : (s.takePkt p).cnt = s.cnt := by
  obtain ⟨_, _, h⟩ := s.takePkt_only p; rw [h]
@[simp] theorem State.takePkt_bank (p : Pkt) : (s.takePkt p).bank = s.bank := by
  obtain ⟨_, _, h⟩ := s.takePkt_only p; rw [h]
@[simp] theorem State.takePkt_arb (p : Pkt) : (s.takePkt p).arb = s.arb := by
  obtain ⟨_, _, h⟩ := s.takePkt_only p; rw [h]
@[simp] theorem State.takePkt_tick (p : Pkt) : (s.takePkt p).tick = s.tick := by
  obtain ⟨_, _, h⟩ := s.takePkt_only p; rw [h]
@[simp] theorem State.takePkt_pon (p : Pkt) : (s.takePkt p).pon = s.pon := by
  obtain ⟨_, _, h⟩ := s.takePkt_only p; rw [h]
@[simp] theorem State.takePkt_alloc (p : Pkt) : (s.takePkt p).alloc = s.alloc := by
  obtain ⟨_, _, h⟩ := s.takePkt_only p; rw [h]
@[simp] theorem State.takePkt_bonding (p : Pkt) : (s.takePkt p).bonding = s.bonding := by
  obtain ⟨_, _, h⟩ := s.takePkt_only p; rw [h]
@[simp] theorem State.takePkt_buf (p : Pkt) : (s.takePkt p).buf = s.buf := by
  obtain ⟨_, _, h⟩ := s.takePkt_only p; rw [h]
@[simp] theorem State.takePkt_chan (p : Pkt) : (s.takePkt p).chan = s.chan := by
  obtain ⟨_, _, h⟩ := s.takePkt_only p; rw [h]
@[simp] theorem State.takePkt_sched (p : Pkt) : (s.takePkt p).sched = s.sched := by
  obtain ⟨_, _, h⟩ := s.takePkt_only p; rw [h]
@[simp] theorem State.takePkt_time (p : Pkt) : (s.takePkt p).time = s.time := by
  obtain ⟨_, _, h⟩ := s.takePkt_only p; rw [h]
@[simp] theorem State.takePkt_clsIn (p : Pkt) : (s.takePkt p).clsIn = s.clsIn := by
  obtain ⟨_, _, h⟩ := s.takePkt_only p; rw [h]
@[simp] theorem State.takePkt_cls (p : Pkt) : (s.takePkt p).cls = s.cls := by
  obtain ⟨_, _, h⟩ := s.takePkt_only p; rw [h]
@[simp] theorem State.takePkt_fwd (p : Pkt) : (s.takePkt p).fwd = s.fwd := by
  obtain ⟨_, _, h⟩ := s.takePkt_only p; rw [h]
@[simp] theorem State.takePkt_running (p : Pkt) : (s.takePkt p).running = s.running := by
  obtain ⟨_, _, h⟩ := s.takePkt_only p; rw [h]
@[simp] theorem State.takePkt_vec (p : Pkt) : (s.takePkt p).vec = s.vec := by
  obtain ⟨_, _, h⟩ := s.takePkt_only p; rw [h]
@[simp] theorem State.takePkt_svl (p : Pkt) : (s.takePkt p).svl = s.svl := by
  obtain ⟨_, _, h⟩ := s.takePkt_only p; rw [h]
@[simp] theorem State.takePkt_testLanes (p : Pkt) : (s.takePkt p).testLanes = s.testLanes := by
  obtain ⟨_, _, h⟩ := s.takePkt_only p; rw [h]
@[simp] theorem State.takePkt_mac (p : Pkt) : (s.takePkt p).mac = s.mac := by
  obtain ⟨_, _, h⟩ := s.takePkt_only p; rw [h]
@[simp] theorem State.takePkt_lanes (p : Pkt) : (s.takePkt p).lanes = s.lanes := by
  obtain ⟨_, _, h⟩ := s.takePkt_only p; rw [h]
@[simp] theorem State.takePkt_pwr (p : Pkt) : (s.takePkt p).pwr = s.pwr := by
  obtain ⟨_, _, h⟩ := s.takePkt_only p; rw [h]
@[simp] theorem State.takePkt_mem (p : Pkt) : (s.takePkt p).mem = s.mem := by
  obtain ⟨_, _, h⟩ := s.takePkt_only p; rw [h]
@[simp] theorem State.takePkt_ciph (p : Pkt) : (s.takePkt p).ciph = s.ciph := by
  obtain ⟨_, _, h⟩ := s.takePkt_only p; rw [h]
@[simp] theorem State.takePkt_boot (p : Pkt) : (s.takePkt p).boot = s.boot := by
  obtain ⟨_, _, h⟩ := s.takePkt_only p; rw [h]
@[simp] theorem State.takePkt_jrn (p : Pkt) : (s.takePkt p).jrn = s.jrn := by
  obtain ⟨_, _, h⟩ := s.takePkt_only p; rw [h]
@[simp] theorem State.takePkt_tap (p : Pkt) : (s.takePkt p).tap = s.tap := by
  obtain ⟨_, _, h⟩ := s.takePkt_only p; rw [h]

theorem State.setFn_setFld_raise (f : Nat) (h : HostFn) (x : Fld) (v src sev code func : Nat) (pl : List Byte) :
    ∃ a' b' c', (((s.setFn f h).setFld x v).raise src sev code func pl) = { s with fns := a', regs := b', arb := c' } := by
  obtain ⟨a, e⟩ := ((s.setFn f h).setFld x v).raise_only src sev code func pl
  rw [e]
  exact ⟨_, _, _, rfl⟩

theorem State.loseEvent_only (f sev : Nat) :
    ∃ a' b' c', s.loseEvent f sev = { s with fns := a', regs := b', arb := c' } := by
  unfold State.loseEvent; dsimp only
  split_ifs
  · exact State.setFn_setFld_raise s _ _ _ _ _ _ _ _ _
  · exact ⟨_, _, _, rfl⟩
@[simp] theorem State.loseEvent_pending (f sev : Nat) : (s.loseEvent f sev).pending = s.pending := by
  obtain ⟨_, _, _, h⟩ := s.loseEvent_only f sev; rw [h]
@[simp] theorem State.loseEvent_out (f sev : Nat) : (s.loseEvent f sev).out = s.out := by
  obtain ⟨_, _, _, h⟩ := s.loseEvent_only f sev; rw [h]
@[simp] theorem State.loseEvent_freeCtr (f sev : Nat) : (s.loseEvent f sev).freeCtr = s.freeCtr := by
  obtain ⟨_, _, _, h⟩ := s.loseEvent_only f sev; rw [h]
@[simp] theorem State.loseEvent_cmdId (f sev : Nat) : (s.loseEvent f sev).cmdId = s.cmdId := by
  obtain ⟨_, _, _, h⟩ := s.loseEvent_only f sev; rw [h]
@[simp] theorem State.loseEvent_cnt (f sev : Nat) : (s.loseEvent f sev).cnt = s.cnt := by
  obtain ⟨_, _, _, h⟩ := s.loseEvent_only f sev; rw [h]
@[simp] theorem State.loseEvent_bank (f sev : Nat) : (s.loseEvent f sev).bank = s.bank := by
  obtain ⟨_, _, _, h⟩ := s.loseEvent_only f sev; rw [h]
@[simp] theorem State.loseEvent_tick (f sev : Nat) : (s.loseEvent f sev).tick = s.tick := by
  obtain ⟨_, _, _, h⟩ := s.loseEvent_only f sev; rw [h]
@[simp] theorem State.loseEvent_pon (f sev : Nat) : (s.loseEvent f sev).pon = s.pon := by
  obtain ⟨_, _, _, h⟩ := s.loseEvent_only f sev; rw [h]
@[simp] theorem State.loseEvent_alloc (f sev : Nat) : (s.loseEvent f sev).alloc = s.alloc := by
  obtain ⟨_, _, _, h⟩ := s.loseEvent_only f sev; rw [h]
@[simp] theorem State.loseEvent_bonding (f sev : Nat) : (s.loseEvent f sev).bonding = s.bonding := by
  obtain ⟨_, _, _, h⟩ := s.loseEvent_only f sev; rw [h]
@[simp] theorem State.loseEvent_buf (f sev : Nat) : (s.loseEvent f sev).buf = s.buf := by
  obtain ⟨_, _, _, h⟩ := s.loseEvent_only f sev; rw [h]
@[simp] theorem State.loseEvent_chan (f sev : Nat) : (s.loseEvent f sev).chan = s.chan := by
  obtain ⟨_, _, _, h⟩ := s.loseEvent_only f sev; rw [h]
@[simp] theorem State.loseEvent_sched (f sev : Nat) : (s.loseEvent f sev).sched = s.sched := by
  obtain ⟨_, _, _, h⟩ := s.loseEvent_only f sev; rw [h]
@[simp] theorem State.loseEvent_time (f sev : Nat) : (s.loseEvent f sev).time = s.time := by
  obtain ⟨_, _, _, h⟩ := s.loseEvent_only f sev; rw [h]
@[simp] theorem State.loseEvent_clsIn (f sev : Nat) : (s.loseEvent f sev).clsIn = s.clsIn := by
  obtain ⟨_, _, _, h⟩ := s.loseEvent_only f sev; rw [h]
@[simp] theorem State.loseEvent_cls (f sev : Nat) : (s.loseEvent f sev).cls = s.cls := by
  obtain ⟨_, _, _, h⟩ := s.loseEvent_only f sev; rw [h]
@[simp] theorem State.loseEvent_fwd (f sev : Nat) : (s.loseEvent f sev).fwd = s.fwd := by
  obtain ⟨_, _, _, h⟩ := s.loseEvent_only f sev; rw [h]
@[simp] theorem State.loseEvent_running (f sev : Nat) : (s.loseEvent f sev).running = s.running := by
  obtain ⟨_, _, _, h⟩ := s.loseEvent_only f sev; rw [h]
@[simp] theorem State.loseEvent_vec (f sev : Nat) : (s.loseEvent f sev).vec = s.vec := by
  obtain ⟨_, _, _, h⟩ := s.loseEvent_only f sev; rw [h]
@[simp] theorem State.loseEvent_svl (f sev : Nat) : (s.loseEvent f sev).svl = s.svl := by
  obtain ⟨_, _, _, h⟩ := s.loseEvent_only f sev; rw [h]
@[simp] theorem State.loseEvent_testLanes (f sev : Nat) : (s.loseEvent f sev).testLanes = s.testLanes := by
  obtain ⟨_, _, _, h⟩ := s.loseEvent_only f sev; rw [h]
@[simp] theorem State.loseEvent_mac (f sev : Nat) : (s.loseEvent f sev).mac = s.mac := by
  obtain ⟨_, _, _, h⟩ := s.loseEvent_only f sev; rw [h]
@[simp] theorem State.loseEvent_lanes (f sev : Nat) : (s.loseEvent f sev).lanes = s.lanes := by
  obtain ⟨_, _, _, h⟩ := s.loseEvent_only f sev; rw [h]
@[simp] theorem State.loseEvent_pwr (f sev : Nat) : (s.loseEvent f sev).pwr = s.pwr := by
  obtain ⟨_, _, _, h⟩ := s.loseEvent_only f sev; rw [h]
@[simp] theorem State.loseEvent_mem (f sev : Nat) : (s.loseEvent f sev).mem = s.mem := by
  obtain ⟨_, _, _, h⟩ := s.loseEvent_only f sev; rw [h]
@[simp] theorem State.loseEvent_ciph (f sev : Nat) : (s.loseEvent f sev).ciph = s.ciph := by
  obtain ⟨_, _, _, h⟩ := s.loseEvent_only f sev; rw [h]
@[simp] theorem State.loseEvent_boot (f sev : Nat) : (s.loseEvent f sev).boot = s.boot := by
  obtain ⟨_, _, _, h⟩ := s.loseEvent_only f sev; rw [h]
@[simp] theorem State.loseEvent_jrn (f sev : Nat) : (s.loseEvent f sev).jrn = s.jrn := by
  obtain ⟨_, _, _, h⟩ := s.loseEvent_only f sev; rw [h]
@[simp] theorem State.loseEvent_tap (f sev : Nat) : (s.loseEvent f sev).tap = s.tap := by
  obtain ⟨_, _, _, h⟩ := s.loseEvent_only f sev; rw [h]

theorem State.storeEvent_only (r : EvRec) :
    ∃ a' b' c', s.storeEvent r = { s with fns := a', regs := b', arb := c' } := by
  unfold State.storeEvent; dsimp only
  split_ifs
  · exact ⟨_, _, _, rfl⟩
  · split
    · exact ⟨_, _, _, (State.loseEvent_only _ _ _).choose_spec.choose_spec.choose_spec.trans rfl⟩
    · exact s.loseEvent_only _ _
@[simp] theorem State.storeEvent_pending (r : EvRec) : (s.storeEvent r).pending = s.pending := by
  obtain ⟨_, _, _, h⟩ := s.storeEvent_only r; rw [h]
@[simp] theorem State.storeEvent_out (r : EvRec) : (s.storeEvent r).out = s.out := by
  obtain ⟨_, _, _, h⟩ := s.storeEvent_only r; rw [h]
@[simp] theorem State.storeEvent_freeCtr (r : EvRec) : (s.storeEvent r).freeCtr = s.freeCtr := by
  obtain ⟨_, _, _, h⟩ := s.storeEvent_only r; rw [h]
@[simp] theorem State.storeEvent_cmdId (r : EvRec) : (s.storeEvent r).cmdId = s.cmdId := by
  obtain ⟨_, _, _, h⟩ := s.storeEvent_only r; rw [h]
@[simp] theorem State.storeEvent_cnt (r : EvRec) : (s.storeEvent r).cnt = s.cnt := by
  obtain ⟨_, _, _, h⟩ := s.storeEvent_only r; rw [h]
@[simp] theorem State.storeEvent_bank (r : EvRec) : (s.storeEvent r).bank = s.bank := by
  obtain ⟨_, _, _, h⟩ := s.storeEvent_only r; rw [h]
@[simp] theorem State.storeEvent_tick (r : EvRec) : (s.storeEvent r).tick = s.tick := by
  obtain ⟨_, _, _, h⟩ := s.storeEvent_only r; rw [h]
@[simp] theorem State.storeEvent_pon (r : EvRec) : (s.storeEvent r).pon = s.pon := by
  obtain ⟨_, _, _, h⟩ := s.storeEvent_only r; rw [h]
@[simp] theorem State.storeEvent_alloc (r : EvRec) : (s.storeEvent r).alloc = s.alloc := by
  obtain ⟨_, _, _, h⟩ := s.storeEvent_only r; rw [h]
@[simp] theorem State.storeEvent_bonding (r : EvRec) : (s.storeEvent r).bonding = s.bonding := by
  obtain ⟨_, _, _, h⟩ := s.storeEvent_only r; rw [h]
@[simp] theorem State.storeEvent_buf (r : EvRec) : (s.storeEvent r).buf = s.buf := by
  obtain ⟨_, _, _, h⟩ := s.storeEvent_only r; rw [h]
@[simp] theorem State.storeEvent_chan (r : EvRec) : (s.storeEvent r).chan = s.chan := by
  obtain ⟨_, _, _, h⟩ := s.storeEvent_only r; rw [h]
@[simp] theorem State.storeEvent_sched (r : EvRec) : (s.storeEvent r).sched = s.sched := by
  obtain ⟨_, _, _, h⟩ := s.storeEvent_only r; rw [h]
@[simp] theorem State.storeEvent_time (r : EvRec) : (s.storeEvent r).time = s.time := by
  obtain ⟨_, _, _, h⟩ := s.storeEvent_only r; rw [h]
@[simp] theorem State.storeEvent_clsIn (r : EvRec) : (s.storeEvent r).clsIn = s.clsIn := by
  obtain ⟨_, _, _, h⟩ := s.storeEvent_only r; rw [h]
@[simp] theorem State.storeEvent_cls (r : EvRec) : (s.storeEvent r).cls = s.cls := by
  obtain ⟨_, _, _, h⟩ := s.storeEvent_only r; rw [h]
@[simp] theorem State.storeEvent_fwd (r : EvRec) : (s.storeEvent r).fwd = s.fwd := by
  obtain ⟨_, _, _, h⟩ := s.storeEvent_only r; rw [h]
@[simp] theorem State.storeEvent_running (r : EvRec) : (s.storeEvent r).running = s.running := by
  obtain ⟨_, _, _, h⟩ := s.storeEvent_only r; rw [h]
@[simp] theorem State.storeEvent_vec (r : EvRec) : (s.storeEvent r).vec = s.vec := by
  obtain ⟨_, _, _, h⟩ := s.storeEvent_only r; rw [h]
@[simp] theorem State.storeEvent_svl (r : EvRec) : (s.storeEvent r).svl = s.svl := by
  obtain ⟨_, _, _, h⟩ := s.storeEvent_only r; rw [h]
@[simp] theorem State.storeEvent_testLanes (r : EvRec) : (s.storeEvent r).testLanes = s.testLanes := by
  obtain ⟨_, _, _, h⟩ := s.storeEvent_only r; rw [h]
@[simp] theorem State.storeEvent_mac (r : EvRec) : (s.storeEvent r).mac = s.mac := by
  obtain ⟨_, _, _, h⟩ := s.storeEvent_only r; rw [h]
@[simp] theorem State.storeEvent_lanes (r : EvRec) : (s.storeEvent r).lanes = s.lanes := by
  obtain ⟨_, _, _, h⟩ := s.storeEvent_only r; rw [h]
@[simp] theorem State.storeEvent_pwr (r : EvRec) : (s.storeEvent r).pwr = s.pwr := by
  obtain ⟨_, _, _, h⟩ := s.storeEvent_only r; rw [h]
@[simp] theorem State.storeEvent_mem (r : EvRec) : (s.storeEvent r).mem = s.mem := by
  obtain ⟨_, _, _, h⟩ := s.storeEvent_only r; rw [h]
@[simp] theorem State.storeEvent_ciph (r : EvRec) : (s.storeEvent r).ciph = s.ciph := by
  obtain ⟨_, _, _, h⟩ := s.storeEvent_only r; rw [h]
@[simp] theorem State.storeEvent_boot (r : EvRec) : (s.storeEvent r).boot = s.boot := by
  obtain ⟨_, _, _, h⟩ := s.storeEvent_only r; rw [h]
@[simp] theorem State.storeEvent_jrn (r : EvRec) : (s.storeEvent r).jrn = s.jrn := by
  obtain ⟨_, _, _, h⟩ := s.storeEvent_only r; rw [h]
@[simp] theorem State.storeEvent_tap (r : EvRec) : (s.storeEvent r).tap = s.tap := by
  obtain ⟨_, _, _, h⟩ := s.storeEvent_only r; rw [h]

theorem State.raiseCompleted_only (e : Echo) (id status detail : Nat) :
    ∃ a' b' c', s.raiseCompleted e id status detail = { s with freeCtr := a', fns := b', arb := c' } := by
  unfold State.raiseCompleted State.setFn; dsimp only
  rw [(State.raise_only _ _ _ _ _ _).choose_spec]
  exact ⟨_, _, _, rfl⟩
@[simp] theorem State.raiseCompleted_pending (e : Echo) (id status detail : Nat) : (s.raiseCompleted e id status detail).pending = s.pending := by
  obtain ⟨_, _, _, h⟩ := s.raiseCompleted_only e id status detail; rw [h]
@[simp] theorem State.raiseCompleted_out (e : Echo) (id status detail : Nat) : (s.raiseCompleted e id status detail).out = s.out := by
  obtain ⟨_, _, _, h⟩ := s.raiseCompleted_only e id status detail; rw [h]
@[simp] theorem State.raiseCompleted_cmdId (e : Echo) (id status detail : Nat) : (s.raiseCompleted e id status detail).cmdId = s.cmdId := by
  obtain ⟨_, _, _, h⟩ := s.raiseCompleted_only e id status detail; rw [h]
@[simp] theorem State.raiseCompleted_regs (e : Echo) (id status detail : Nat) : (s.raiseCompleted e id status detail).regs = s.regs := by
  obtain ⟨_, _, _, h⟩ := s.raiseCompleted_only e id status detail; rw [h]
@[simp] theorem State.raiseCompleted_cnt (e : Echo) (id status detail : Nat) : (s.raiseCompleted e id status detail).cnt = s.cnt := by
  obtain ⟨_, _, _, h⟩ := s.raiseCompleted_only e id status detail; rw [h]
@[simp] theorem State.raiseCompleted_bank (e : Echo) (id status detail : Nat) : (s.raiseCompleted e id status detail).bank = s.bank := by
  obtain ⟨_, _, _, h⟩ := s.raiseCompleted_only e id status detail; rw [h]
@[simp] theorem State.raiseCompleted_tick (e : Echo) (id status detail : Nat) : (s.raiseCompleted e id status detail).tick = s.tick := by
  obtain ⟨_, _, _, h⟩ := s.raiseCompleted_only e id status detail; rw [h]
@[simp] theorem State.raiseCompleted_pon (e : Echo) (id status detail : Nat) : (s.raiseCompleted e id status detail).pon = s.pon := by
  obtain ⟨_, _, _, h⟩ := s.raiseCompleted_only e id status detail; rw [h]
@[simp] theorem State.raiseCompleted_alloc (e : Echo) (id status detail : Nat) : (s.raiseCompleted e id status detail).alloc = s.alloc := by
  obtain ⟨_, _, _, h⟩ := s.raiseCompleted_only e id status detail; rw [h]
@[simp] theorem State.raiseCompleted_bonding (e : Echo) (id status detail : Nat) : (s.raiseCompleted e id status detail).bonding = s.bonding := by
  obtain ⟨_, _, _, h⟩ := s.raiseCompleted_only e id status detail; rw [h]
@[simp] theorem State.raiseCompleted_buf (e : Echo) (id status detail : Nat) : (s.raiseCompleted e id status detail).buf = s.buf := by
  obtain ⟨_, _, _, h⟩ := s.raiseCompleted_only e id status detail; rw [h]
@[simp] theorem State.raiseCompleted_chan (e : Echo) (id status detail : Nat) : (s.raiseCompleted e id status detail).chan = s.chan := by
  obtain ⟨_, _, _, h⟩ := s.raiseCompleted_only e id status detail; rw [h]
@[simp] theorem State.raiseCompleted_sched (e : Echo) (id status detail : Nat) : (s.raiseCompleted e id status detail).sched = s.sched := by
  obtain ⟨_, _, _, h⟩ := s.raiseCompleted_only e id status detail; rw [h]
@[simp] theorem State.raiseCompleted_time (e : Echo) (id status detail : Nat) : (s.raiseCompleted e id status detail).time = s.time := by
  obtain ⟨_, _, _, h⟩ := s.raiseCompleted_only e id status detail; rw [h]
@[simp] theorem State.raiseCompleted_clsIn (e : Echo) (id status detail : Nat) : (s.raiseCompleted e id status detail).clsIn = s.clsIn := by
  obtain ⟨_, _, _, h⟩ := s.raiseCompleted_only e id status detail; rw [h]
@[simp] theorem State.raiseCompleted_cls (e : Echo) (id status detail : Nat) : (s.raiseCompleted e id status detail).cls = s.cls := by
  obtain ⟨_, _, _, h⟩ := s.raiseCompleted_only e id status detail; rw [h]
@[simp] theorem State.raiseCompleted_fwd (e : Echo) (id status detail : Nat) : (s.raiseCompleted e id status detail).fwd = s.fwd := by
  obtain ⟨_, _, _, h⟩ := s.raiseCompleted_only e id status detail; rw [h]
@[simp] theorem State.raiseCompleted_running (e : Echo) (id status detail : Nat) : (s.raiseCompleted e id status detail).running = s.running := by
  obtain ⟨_, _, _, h⟩ := s.raiseCompleted_only e id status detail; rw [h]
@[simp] theorem State.raiseCompleted_vec (e : Echo) (id status detail : Nat) : (s.raiseCompleted e id status detail).vec = s.vec := by
  obtain ⟨_, _, _, h⟩ := s.raiseCompleted_only e id status detail; rw [h]
@[simp] theorem State.raiseCompleted_svl (e : Echo) (id status detail : Nat) : (s.raiseCompleted e id status detail).svl = s.svl := by
  obtain ⟨_, _, _, h⟩ := s.raiseCompleted_only e id status detail; rw [h]
@[simp] theorem State.raiseCompleted_testLanes (e : Echo) (id status detail : Nat) : (s.raiseCompleted e id status detail).testLanes = s.testLanes := by
  obtain ⟨_, _, _, h⟩ := s.raiseCompleted_only e id status detail; rw [h]
@[simp] theorem State.raiseCompleted_mac (e : Echo) (id status detail : Nat) : (s.raiseCompleted e id status detail).mac = s.mac := by
  obtain ⟨_, _, _, h⟩ := s.raiseCompleted_only e id status detail; rw [h]
@[simp] theorem State.raiseCompleted_lanes (e : Echo) (id status detail : Nat) : (s.raiseCompleted e id status detail).lanes = s.lanes := by
  obtain ⟨_, _, _, h⟩ := s.raiseCompleted_only e id status detail; rw [h]
@[simp] theorem State.raiseCompleted_pwr (e : Echo) (id status detail : Nat) : (s.raiseCompleted e id status detail).pwr = s.pwr := by
  obtain ⟨_, _, _, h⟩ := s.raiseCompleted_only e id status detail; rw [h]
@[simp] theorem State.raiseCompleted_mem (e : Echo) (id status detail : Nat) : (s.raiseCompleted e id status detail).mem = s.mem := by
  obtain ⟨_, _, _, h⟩ := s.raiseCompleted_only e id status detail; rw [h]
@[simp] theorem State.raiseCompleted_ciph (e : Echo) (id status detail : Nat) : (s.raiseCompleted e id status detail).ciph = s.ciph := by
  obtain ⟨_, _, _, h⟩ := s.raiseCompleted_only e id status detail; rw [h]
@[simp] theorem State.raiseCompleted_boot (e : Echo) (id status detail : Nat) : (s.raiseCompleted e id status detail).boot = s.boot := by
  obtain ⟨_, _, _, h⟩ := s.raiseCompleted_only e id status detail; rw [h]
@[simp] theorem State.raiseCompleted_jrn (e : Echo) (id status detail : Nat) : (s.raiseCompleted e id status detail).jrn = s.jrn := by
  obtain ⟨_, _, _, h⟩ := s.raiseCompleted_only e id status detail; rw [h]
@[simp] theorem State.raiseCompleted_tap (e : Echo) (id status detail : Nat) : (s.raiseCompleted e id status detail).tap = s.tap := by
  obtain ⟨_, _, _, h⟩ := s.raiseCompleted_only e id status detail; rw [h]

theorem State.releaseDeferred_only (ds : List DeferredEv) :
    ∃ a' b' c', s.releaseDeferred ds = { s with freeCtr := a', fns := b', arb := c' } := by
  induction ds generalizing s with
  | nil => exact ⟨_, _, _, rfl⟩
  | cons d ds ih =>
    rw [State.releaseDeferred]; dsimp only
    split_ifs
    · obtain ⟨a, b, c, h⟩ := s.raiseCompleted_only d.echo d.id d.status d.detail
      obtain ⟨a', b', c', h'⟩ := ih (s.raiseCompleted d.echo d.id d.status d.detail)
      exact ⟨a', b', c', by rw [h', h]⟩
    · exact ⟨_, _, _, (ih _).choose_spec.choose_spec.choose_spec.trans rfl⟩
@[simp] theorem State.releaseDeferred_pending (ds : List DeferredEv) : (s.releaseDeferred ds).pending = s.pending := by
  obtain ⟨_, _, _, h⟩ := s.releaseDeferred_only ds; rw [h]
@[simp] theorem State.releaseDeferred_out (ds : List DeferredEv) : (s.releaseDeferred ds).out = s.out := by
  obtain ⟨_, _, _, h⟩ := s.releaseDeferred_only ds; rw [h]
@[simp] theorem State.releaseDeferred_cmdId (ds : List DeferredEv) : (s.releaseDeferred ds).cmdId = s.cmdId := by
  obtain ⟨_, _, _, h⟩ := s.releaseDeferred_only ds; rw [h]
@[simp] theorem State.releaseDeferred_regs (ds : List DeferredEv) : (s.releaseDeferred ds).regs = s.regs := by
  obtain ⟨_, _, _, h⟩ := s.releaseDeferred_only ds; rw [h]
@[simp] theorem State.releaseDeferred_cnt (ds : List DeferredEv) : (s.releaseDeferred ds).cnt = s.cnt := by
  obtain ⟨_, _, _, h⟩ := s.releaseDeferred_only ds; rw [h]
@[simp] theorem State.releaseDeferred_bank (ds : List DeferredEv) : (s.releaseDeferred ds).bank = s.bank := by
  obtain ⟨_, _, _, h⟩ := s.releaseDeferred_only ds; rw [h]
@[simp] theorem State.releaseDeferred_tick (ds : List DeferredEv) : (s.releaseDeferred ds).tick = s.tick := by
  obtain ⟨_, _, _, h⟩ := s.releaseDeferred_only ds; rw [h]
@[simp] theorem State.releaseDeferred_pon (ds : List DeferredEv) : (s.releaseDeferred ds).pon = s.pon := by
  obtain ⟨_, _, _, h⟩ := s.releaseDeferred_only ds; rw [h]
@[simp] theorem State.releaseDeferred_alloc (ds : List DeferredEv) : (s.releaseDeferred ds).alloc = s.alloc := by
  obtain ⟨_, _, _, h⟩ := s.releaseDeferred_only ds; rw [h]
@[simp] theorem State.releaseDeferred_bonding (ds : List DeferredEv) : (s.releaseDeferred ds).bonding = s.bonding := by
  obtain ⟨_, _, _, h⟩ := s.releaseDeferred_only ds; rw [h]
@[simp] theorem State.releaseDeferred_buf (ds : List DeferredEv) : (s.releaseDeferred ds).buf = s.buf := by
  obtain ⟨_, _, _, h⟩ := s.releaseDeferred_only ds; rw [h]
@[simp] theorem State.releaseDeferred_chan (ds : List DeferredEv) : (s.releaseDeferred ds).chan = s.chan := by
  obtain ⟨_, _, _, h⟩ := s.releaseDeferred_only ds; rw [h]
@[simp] theorem State.releaseDeferred_sched (ds : List DeferredEv) : (s.releaseDeferred ds).sched = s.sched := by
  obtain ⟨_, _, _, h⟩ := s.releaseDeferred_only ds; rw [h]
@[simp] theorem State.releaseDeferred_time (ds : List DeferredEv) : (s.releaseDeferred ds).time = s.time := by
  obtain ⟨_, _, _, h⟩ := s.releaseDeferred_only ds; rw [h]
@[simp] theorem State.releaseDeferred_clsIn (ds : List DeferredEv) : (s.releaseDeferred ds).clsIn = s.clsIn := by
  obtain ⟨_, _, _, h⟩ := s.releaseDeferred_only ds; rw [h]
@[simp] theorem State.releaseDeferred_cls (ds : List DeferredEv) : (s.releaseDeferred ds).cls = s.cls := by
  obtain ⟨_, _, _, h⟩ := s.releaseDeferred_only ds; rw [h]
@[simp] theorem State.releaseDeferred_fwd (ds : List DeferredEv) : (s.releaseDeferred ds).fwd = s.fwd := by
  obtain ⟨_, _, _, h⟩ := s.releaseDeferred_only ds; rw [h]
@[simp] theorem State.releaseDeferred_running (ds : List DeferredEv) : (s.releaseDeferred ds).running = s.running := by
  obtain ⟨_, _, _, h⟩ := s.releaseDeferred_only ds; rw [h]
@[simp] theorem State.releaseDeferred_vec (ds : List DeferredEv) : (s.releaseDeferred ds).vec = s.vec := by
  obtain ⟨_, _, _, h⟩ := s.releaseDeferred_only ds; rw [h]
@[simp] theorem State.releaseDeferred_svl (ds : List DeferredEv) : (s.releaseDeferred ds).svl = s.svl := by
  obtain ⟨_, _, _, h⟩ := s.releaseDeferred_only ds; rw [h]
@[simp] theorem State.releaseDeferred_testLanes (ds : List DeferredEv) : (s.releaseDeferred ds).testLanes = s.testLanes := by
  obtain ⟨_, _, _, h⟩ := s.releaseDeferred_only ds; rw [h]
@[simp] theorem State.releaseDeferred_mac (ds : List DeferredEv) : (s.releaseDeferred ds).mac = s.mac := by
  obtain ⟨_, _, _, h⟩ := s.releaseDeferred_only ds; rw [h]
@[simp] theorem State.releaseDeferred_lanes (ds : List DeferredEv) : (s.releaseDeferred ds).lanes = s.lanes := by
  obtain ⟨_, _, _, h⟩ := s.releaseDeferred_only ds; rw [h]
@[simp] theorem State.releaseDeferred_pwr (ds : List DeferredEv) : (s.releaseDeferred ds).pwr = s.pwr := by
  obtain ⟨_, _, _, h⟩ := s.releaseDeferred_only ds; rw [h]
@[simp] theorem State.releaseDeferred_mem (ds : List DeferredEv) : (s.releaseDeferred ds).mem = s.mem := by
  obtain ⟨_, _, _, h⟩ := s.releaseDeferred_only ds; rw [h]
@[simp] theorem State.releaseDeferred_ciph (ds : List DeferredEv) : (s.releaseDeferred ds).ciph = s.ciph := by
  obtain ⟨_, _, _, h⟩ := s.releaseDeferred_only ds; rw [h]
@[simp] theorem State.releaseDeferred_boot (ds : List DeferredEv) : (s.releaseDeferred ds).boot = s.boot := by
  obtain ⟨_, _, _, h⟩ := s.releaseDeferred_only ds; rw [h]
@[simp] theorem State.releaseDeferred_jrn (ds : List DeferredEv) : (s.releaseDeferred ds).jrn = s.jrn := by
  obtain ⟨_, _, _, h⟩ := s.releaseDeferred_only ds; rw [h]
@[simp] theorem State.releaseDeferred_tap (ds : List DeferredEv) : (s.releaseDeferred ds).tap = s.tap := by
  obtain ⟨_, _, _, h⟩ := s.releaseDeferred_only ds; rw [h]

theorem State.granted_only (f no : Nat) :
    ∃ a' b' c', s.granted f no = { s with freeCtr := a', fns := b', arb := c' } := by
  unfold State.granted; dsimp only
  exact ⟨_, _, _, (State.releaseDeferred_only _ _).choose_spec.choose_spec.choose_spec.trans rfl⟩
@[simp] theorem State.granted_pending (f no : Nat) : (s.granted f no).pending = s.pending := by
  obtain ⟨_, _, _, h⟩ := s.granted_only f no; rw [h]
@[simp] theorem State.granted_out (f no : Nat) : (s.granted f no).out = s.out := by
  obtain ⟨_, _, _, h⟩ := s.granted_only f no; rw [h]
@[simp] theorem State.granted_cmdId (f no : Nat) : (s.granted f no).cmdId = s.cmdId := by
  obtain ⟨_, _, _, h⟩ := s.granted_only f no; rw [h]
@[simp] theorem State.granted_regs (f no : Nat) : (s.granted f no).regs = s.regs := by
  obtain ⟨_, _, _, h⟩ := s.granted_only f no; rw [h]
@[simp] theorem State.granted_cnt (f no : Nat) : (s.granted f no).cnt = s.cnt := by
  obtain ⟨_, _, _, h⟩ := s.granted_only f no; rw [h]
@[simp] theorem State.granted_bank (f no : Nat) : (s.granted f no).bank = s.bank := by
  obtain ⟨_, _, _, h⟩ := s.granted_only f no; rw [h]
@[simp] theorem State.granted_tick (f no : Nat) : (s.granted f no).tick = s.tick := by
  obtain ⟨_, _, _, h⟩ := s.granted_only f no; rw [h]
@[simp] theorem State.granted_pon (f no : Nat) : (s.granted f no).pon = s.pon := by
  obtain ⟨_, _, _, h⟩ := s.granted_only f no; rw [h]
@[simp] theorem State.granted_alloc (f no : Nat) : (s.granted f no).alloc = s.alloc := by
  obtain ⟨_, _, _, h⟩ := s.granted_only f no; rw [h]
@[simp] theorem State.granted_bonding (f no : Nat) : (s.granted f no).bonding = s.bonding := by
  obtain ⟨_, _, _, h⟩ := s.granted_only f no; rw [h]
@[simp] theorem State.granted_buf (f no : Nat) : (s.granted f no).buf = s.buf := by
  obtain ⟨_, _, _, h⟩ := s.granted_only f no; rw [h]
@[simp] theorem State.granted_chan (f no : Nat) : (s.granted f no).chan = s.chan := by
  obtain ⟨_, _, _, h⟩ := s.granted_only f no; rw [h]
@[simp] theorem State.granted_sched (f no : Nat) : (s.granted f no).sched = s.sched := by
  obtain ⟨_, _, _, h⟩ := s.granted_only f no; rw [h]
@[simp] theorem State.granted_time (f no : Nat) : (s.granted f no).time = s.time := by
  obtain ⟨_, _, _, h⟩ := s.granted_only f no; rw [h]
@[simp] theorem State.granted_clsIn (f no : Nat) : (s.granted f no).clsIn = s.clsIn := by
  obtain ⟨_, _, _, h⟩ := s.granted_only f no; rw [h]
@[simp] theorem State.granted_cls (f no : Nat) : (s.granted f no).cls = s.cls := by
  obtain ⟨_, _, _, h⟩ := s.granted_only f no; rw [h]
@[simp] theorem State.granted_fwd (f no : Nat) : (s.granted f no).fwd = s.fwd := by
  obtain ⟨_, _, _, h⟩ := s.granted_only f no; rw [h]
@[simp] theorem State.granted_running (f no : Nat) : (s.granted f no).running = s.running := by
  obtain ⟨_, _, _, h⟩ := s.granted_only f no; rw [h]
@[simp] theorem State.granted_vec (f no : Nat) : (s.granted f no).vec = s.vec := by
  obtain ⟨_, _, _, h⟩ := s.granted_only f no; rw [h]
@[simp] theorem State.granted_svl (f no : Nat) : (s.granted f no).svl = s.svl := by
  obtain ⟨_, _, _, h⟩ := s.granted_only f no; rw [h]
@[simp] theorem State.granted_testLanes (f no : Nat) : (s.granted f no).testLanes = s.testLanes := by
  obtain ⟨_, _, _, h⟩ := s.granted_only f no; rw [h]
@[simp] theorem State.granted_mac (f no : Nat) : (s.granted f no).mac = s.mac := by
  obtain ⟨_, _, _, h⟩ := s.granted_only f no; rw [h]
@[simp] theorem State.granted_lanes (f no : Nat) : (s.granted f no).lanes = s.lanes := by
  obtain ⟨_, _, _, h⟩ := s.granted_only f no; rw [h]
@[simp] theorem State.granted_pwr (f no : Nat) : (s.granted f no).pwr = s.pwr := by
  obtain ⟨_, _, _, h⟩ := s.granted_only f no; rw [h]
@[simp] theorem State.granted_mem (f no : Nat) : (s.granted f no).mem = s.mem := by
  obtain ⟨_, _, _, h⟩ := s.granted_only f no; rw [h]
@[simp] theorem State.granted_ciph (f no : Nat) : (s.granted f no).ciph = s.ciph := by
  obtain ⟨_, _, _, h⟩ := s.granted_only f no; rw [h]
@[simp] theorem State.granted_boot (f no : Nat) : (s.granted f no).boot = s.boot := by
  obtain ⟨_, _, _, h⟩ := s.granted_only f no; rw [h]
@[simp] theorem State.granted_jrn (f no : Nat) : (s.granted f no).jrn = s.jrn := by
  obtain ⟨_, _, _, h⟩ := s.granted_only f no; rw [h]
@[simp] theorem State.granted_tap (f no : Nat) : (s.granted f no).tap = s.tap := by
  obtain ⟨_, _, _, h⟩ := s.granted_only f no; rw [h]

theorem State.complete_only (f id n status detail : Nat) :
    ∃ a' b' c', s.complete f id n status detail = { s with freeCtr := a', fns := b', arb := c' } := by
  unfold State.complete
  split
  · exact ⟨_, _, _, rfl⟩
  · exact s.releaseDeferred_only _
@[simp] theorem State.complete_pending (f id n status detail : Nat) : (s.complete f id n status detail).pending = s.pending := by
  obtain ⟨_, _, _, h⟩ := s.complete_only f id n status detail; rw [h]
@[simp] theorem State.complete_out (f id n status detail : Nat) : (s.complete f id n status detail).out = s.out := by
  obtain ⟨_, _, _, h⟩ := s.complete_only f id n status detail; rw [h]
@[simp] theorem State.complete_cmdId (f id n status detail : Nat) : (s.complete f id n status detail).cmdId = s.cmdId := by
  obtain ⟨_, _, _, h⟩ := s.complete_only f id n status detail; rw [h]
@[simp] theorem State.complete_regs (f id n status detail : Nat) : (s.complete f id n status detail).regs = s.regs := by
  obtain ⟨_, _, _, h⟩ := s.complete_only f id n status detail; rw [h]
@[simp] theorem State.complete_cnt (f id n status detail : Nat) : (s.complete f id n status detail).cnt = s.cnt := by
  obtain ⟨_, _, _, h⟩ := s.complete_only f id n status detail; rw [h]
@[simp] theorem State.complete_bank (f id n status detail : Nat) : (s.complete f id n status detail).bank = s.bank := by
  obtain ⟨_, _, _, h⟩ := s.complete_only f id n status detail; rw [h]
@[simp] theorem State.complete_tick (f id n status detail : Nat) : (s.complete f id n status detail).tick = s.tick := by
  obtain ⟨_, _, _, h⟩ := s.complete_only f id n status detail; rw [h]
@[simp] theorem State.complete_pon (f id n status detail : Nat) : (s.complete f id n status detail).pon = s.pon := by
  obtain ⟨_, _, _, h⟩ := s.complete_only f id n status detail; rw [h]
@[simp] theorem State.complete_alloc (f id n status detail : Nat) : (s.complete f id n status detail).alloc = s.alloc := by
  obtain ⟨_, _, _, h⟩ := s.complete_only f id n status detail; rw [h]
@[simp] theorem State.complete_bonding (f id n status detail : Nat) : (s.complete f id n status detail).bonding = s.bonding := by
  obtain ⟨_, _, _, h⟩ := s.complete_only f id n status detail; rw [h]
@[simp] theorem State.complete_buf (f id n status detail : Nat) : (s.complete f id n status detail).buf = s.buf := by
  obtain ⟨_, _, _, h⟩ := s.complete_only f id n status detail; rw [h]
@[simp] theorem State.complete_chan (f id n status detail : Nat) : (s.complete f id n status detail).chan = s.chan := by
  obtain ⟨_, _, _, h⟩ := s.complete_only f id n status detail; rw [h]
@[simp] theorem State.complete_sched (f id n status detail : Nat) : (s.complete f id n status detail).sched = s.sched := by
  obtain ⟨_, _, _, h⟩ := s.complete_only f id n status detail; rw [h]
@[simp] theorem State.complete_time (f id n status detail : Nat) : (s.complete f id n status detail).time = s.time := by
  obtain ⟨_, _, _, h⟩ := s.complete_only f id n status detail; rw [h]
@[simp] theorem State.complete_clsIn (f id n status detail : Nat) : (s.complete f id n status detail).clsIn = s.clsIn := by
  obtain ⟨_, _, _, h⟩ := s.complete_only f id n status detail; rw [h]
@[simp] theorem State.complete_cls (f id n status detail : Nat) : (s.complete f id n status detail).cls = s.cls := by
  obtain ⟨_, _, _, h⟩ := s.complete_only f id n status detail; rw [h]
@[simp] theorem State.complete_fwd (f id n status detail : Nat) : (s.complete f id n status detail).fwd = s.fwd := by
  obtain ⟨_, _, _, h⟩ := s.complete_only f id n status detail; rw [h]
@[simp] theorem State.complete_running (f id n status detail : Nat) : (s.complete f id n status detail).running = s.running := by
  obtain ⟨_, _, _, h⟩ := s.complete_only f id n status detail; rw [h]
@[simp] theorem State.complete_vec (f id n status detail : Nat) : (s.complete f id n status detail).vec = s.vec := by
  obtain ⟨_, _, _, h⟩ := s.complete_only f id n status detail; rw [h]
@[simp] theorem State.complete_svl (f id n status detail : Nat) : (s.complete f id n status detail).svl = s.svl := by
  obtain ⟨_, _, _, h⟩ := s.complete_only f id n status detail; rw [h]
@[simp] theorem State.complete_testLanes (f id n status detail : Nat) : (s.complete f id n status detail).testLanes = s.testLanes := by
  obtain ⟨_, _, _, h⟩ := s.complete_only f id n status detail; rw [h]
@[simp] theorem State.complete_mac (f id n status detail : Nat) : (s.complete f id n status detail).mac = s.mac := by
  obtain ⟨_, _, _, h⟩ := s.complete_only f id n status detail; rw [h]
@[simp] theorem State.complete_lanes (f id n status detail : Nat) : (s.complete f id n status detail).lanes = s.lanes := by
  obtain ⟨_, _, _, h⟩ := s.complete_only f id n status detail; rw [h]
@[simp] theorem State.complete_pwr (f id n status detail : Nat) : (s.complete f id n status detail).pwr = s.pwr := by
  obtain ⟨_, _, _, h⟩ := s.complete_only f id n status detail; rw [h]
@[simp] theorem State.complete_mem (f id n status detail : Nat) : (s.complete f id n status detail).mem = s.mem := by
  obtain ⟨_, _, _, h⟩ := s.complete_only f id n status detail; rw [h]
@[simp] theorem State.complete_ciph (f id n status detail : Nat) : (s.complete f id n status detail).ciph = s.ciph := by
  obtain ⟨_, _, _, h⟩ := s.complete_only f id n status detail; rw [h]
@[simp] theorem State.complete_boot (f id n status detail : Nat) : (s.complete f id n status detail).boot = s.boot := by
  obtain ⟨_, _, _, h⟩ := s.complete_only f id n status detail; rw [h]
@[simp] theorem State.complete_jrn (f id n status detail : Nat) : (s.complete f id n status detail).jrn = s.jrn := by
  obtain ⟨_, _, _, h⟩ := s.complete_only f id n status detail; rw [h]
@[simp] theorem State.complete_tap (f id n status detail : Nat) : (s.complete f id n status detail).tap = s.tap := by
  obtain ⟨_, _, _, h⟩ := s.complete_only f id n status detail; rw [h]

theorem State.eventNotice_only (f : Nat) :
    ∃ a' b', s.eventNotice f = { s with fns := a', out := b' } := by
  unfold State.eventNotice; dsimp only
  split_ifs
  · exact ⟨_, _, rfl⟩
  · unfold State.setFn State.emit; exact ⟨_, _, rfl⟩
  · exact ⟨_, _, rfl⟩
@[simp] theorem State.eventNotice_pending (f : Nat) : (s.eventNotice f).pending = s.pending := by
  obtain ⟨_, _, h⟩ := s.eventNotice_only f; rw [h]
@[simp] theorem State.eventNotice_freeCtr (f : Nat) : (s.eventNotice f).freeCtr = s.freeCtr := by
  obtain ⟨_, _, h⟩ := s.eventNotice_only f; rw [h]
@[simp] theorem State.eventNotice_cmdId (f : Nat) : (s.eventNotice f).cmdId = s.cmdId := by
  obtain ⟨_, _, h⟩ := s.eventNotice_only f; rw [h]
@[simp] theorem State.eventNotice_regs (f : Nat) : (s.eventNotice f).regs = s.regs := by
  obtain ⟨_, _, h⟩ := s.eventNotice_only f; rw [h]
@[simp] theorem State.eventNotice_cnt (f : Nat) : (s.eventNotice f).cnt = s.cnt := by
  obtain ⟨_, _, h⟩ := s.eventNotice_only f; rw [h]
@[simp] theorem State.eventNotice_bank (f : Nat) : (s.eventNotice f).bank = s.bank := by
  obtain ⟨_, _, h⟩ := s.eventNotice_only f; rw [h]
@[simp] theorem State.eventNotice_arb (f : Nat) : (s.eventNotice f).arb = s.arb := by
  obtain ⟨_, _, h⟩ := s.eventNotice_only f; rw [h]
@[simp] theorem State.eventNotice_tick (f : Nat) : (s.eventNotice f).tick = s.tick := by
  obtain ⟨_, _, h⟩ := s.eventNotice_only f; rw [h]
@[simp] theorem State.eventNotice_pon (f : Nat) : (s.eventNotice f).pon = s.pon := by
  obtain ⟨_, _, h⟩ := s.eventNotice_only f; rw [h]
@[simp] theorem State.eventNotice_alloc (f : Nat) : (s.eventNotice f).alloc = s.alloc := by
  obtain ⟨_, _, h⟩ := s.eventNotice_only f; rw [h]
@[simp] theorem State.eventNotice_bonding (f : Nat) : (s.eventNotice f).bonding = s.bonding := by
  obtain ⟨_, _, h⟩ := s.eventNotice_only f; rw [h]
@[simp] theorem State.eventNotice_buf (f : Nat) : (s.eventNotice f).buf = s.buf := by
  obtain ⟨_, _, h⟩ := s.eventNotice_only f; rw [h]
@[simp] theorem State.eventNotice_chan (f : Nat) : (s.eventNotice f).chan = s.chan := by
  obtain ⟨_, _, h⟩ := s.eventNotice_only f; rw [h]
@[simp] theorem State.eventNotice_sched (f : Nat) : (s.eventNotice f).sched = s.sched := by
  obtain ⟨_, _, h⟩ := s.eventNotice_only f; rw [h]
@[simp] theorem State.eventNotice_time (f : Nat) : (s.eventNotice f).time = s.time := by
  obtain ⟨_, _, h⟩ := s.eventNotice_only f; rw [h]
@[simp] theorem State.eventNotice_clsIn (f : Nat) : (s.eventNotice f).clsIn = s.clsIn := by
  obtain ⟨_, _, h⟩ := s.eventNotice_only f; rw [h]
@[simp] theorem State.eventNotice_cls (f : Nat) : (s.eventNotice f).cls = s.cls := by
  obtain ⟨_, _, h⟩ := s.eventNotice_only f; rw [h]
@[simp] theorem State.eventNotice_fwd (f : Nat) : (s.eventNotice f).fwd = s.fwd := by
  obtain ⟨_, _, h⟩ := s.eventNotice_only f; rw [h]
@[simp] theorem State.eventNotice_running (f : Nat) : (s.eventNotice f).running = s.running := by
  obtain ⟨_, _, h⟩ := s.eventNotice_only f; rw [h]
@[simp] theorem State.eventNotice_vec (f : Nat) : (s.eventNotice f).vec = s.vec := by
  obtain ⟨_, _, h⟩ := s.eventNotice_only f; rw [h]
@[simp] theorem State.eventNotice_svl (f : Nat) : (s.eventNotice f).svl = s.svl := by
  obtain ⟨_, _, h⟩ := s.eventNotice_only f; rw [h]
@[simp] theorem State.eventNotice_testLanes (f : Nat) : (s.eventNotice f).testLanes = s.testLanes := by
  obtain ⟨_, _, h⟩ := s.eventNotice_only f; rw [h]
@[simp] theorem State.eventNotice_mac (f : Nat) : (s.eventNotice f).mac = s.mac := by
  obtain ⟨_, _, h⟩ := s.eventNotice_only f; rw [h]
@[simp] theorem State.eventNotice_lanes (f : Nat) : (s.eventNotice f).lanes = s.lanes := by
  obtain ⟨_, _, h⟩ := s.eventNotice_only f; rw [h]
@[simp] theorem State.eventNotice_pwr (f : Nat) : (s.eventNotice f).pwr = s.pwr := by
  obtain ⟨_, _, h⟩ := s.eventNotice_only f; rw [h]
@[simp] theorem State.eventNotice_mem (f : Nat) : (s.eventNotice f).mem = s.mem := by
  obtain ⟨_, _, h⟩ := s.eventNotice_only f; rw [h]
@[simp] theorem State.eventNotice_ciph (f : Nat) : (s.eventNotice f).ciph = s.ciph := by
  obtain ⟨_, _, h⟩ := s.eventNotice_only f; rw [h]
@[simp] theorem State.eventNotice_boot (f : Nat) : (s.eventNotice f).boot = s.boot := by
  obtain ⟨_, _, h⟩ := s.eventNotice_only f; rw [h]
@[simp] theorem State.eventNotice_jrn (f : Nat) : (s.eventNotice f).jrn = s.jrn := by
  obtain ⟨_, _, h⟩ := s.eventNotice_only f; rw [h]
@[simp] theorem State.eventNotice_tap (f : Nat) : (s.eventNotice f).tap = s.tap := by
  obtain ⟨_, _, h⟩ := s.eventNotice_only f; rw [h]

theorem State.tellLost_only (f : Nat) :
    ∃ a' b', s.tellLost f = { s with fns := a', arb := b' } := by
  unfold State.tellLost; dsimp only
  split_ifs
  · exact ⟨_, _, (State.raiseRow_only _ _ _ _ _ _ _).choose_spec.trans rfl⟩
  · exact ⟨_, _, rfl⟩
@[simp] theorem State.tellLost_pending (f : Nat) : (s.tellLost f).pending = s.pending := by
  obtain ⟨_, _, h⟩ := s.tellLost_only f; rw [h]
@[simp] theorem State.tellLost_out (f : Nat) : (s.tellLost f).out = s.out := by
  obtain ⟨_, _, h⟩ := s.tellLost_only f; rw [h]
@[simp] theorem State.tellLost_freeCtr (f : Nat) : (s.tellLost f).freeCtr = s.freeCtr := by
  obtain ⟨_, _, h⟩ := s.tellLost_only f; rw [h]
@[simp] theorem State.tellLost_cmdId (f : Nat) : (s.tellLost f).cmdId = s.cmdId := by
  obtain ⟨_, _, h⟩ := s.tellLost_only f; rw [h]
@[simp] theorem State.tellLost_regs (f : Nat) : (s.tellLost f).regs = s.regs := by
  obtain ⟨_, _, h⟩ := s.tellLost_only f; rw [h]
@[simp] theorem State.tellLost_cnt (f : Nat) : (s.tellLost f).cnt = s.cnt := by
  obtain ⟨_, _, h⟩ := s.tellLost_only f; rw [h]
@[simp] theorem State.tellLost_bank (f : Nat) : (s.tellLost f).bank = s.bank := by
  obtain ⟨_, _, h⟩ := s.tellLost_only f; rw [h]
@[simp] theorem State.tellLost_tick (f : Nat) : (s.tellLost f).tick = s.tick := by
  obtain ⟨_, _, h⟩ := s.tellLost_only f; rw [h]
@[simp] theorem State.tellLost_pon (f : Nat) : (s.tellLost f).pon = s.pon := by
  obtain ⟨_, _, h⟩ := s.tellLost_only f; rw [h]
@[simp] theorem State.tellLost_alloc (f : Nat) : (s.tellLost f).alloc = s.alloc := by
  obtain ⟨_, _, h⟩ := s.tellLost_only f; rw [h]
@[simp] theorem State.tellLost_bonding (f : Nat) : (s.tellLost f).bonding = s.bonding := by
  obtain ⟨_, _, h⟩ := s.tellLost_only f; rw [h]
@[simp] theorem State.tellLost_buf (f : Nat) : (s.tellLost f).buf = s.buf := by
  obtain ⟨_, _, h⟩ := s.tellLost_only f; rw [h]
@[simp] theorem State.tellLost_chan (f : Nat) : (s.tellLost f).chan = s.chan := by
  obtain ⟨_, _, h⟩ := s.tellLost_only f; rw [h]
@[simp] theorem State.tellLost_sched (f : Nat) : (s.tellLost f).sched = s.sched := by
  obtain ⟨_, _, h⟩ := s.tellLost_only f; rw [h]
@[simp] theorem State.tellLost_time (f : Nat) : (s.tellLost f).time = s.time := by
  obtain ⟨_, _, h⟩ := s.tellLost_only f; rw [h]
@[simp] theorem State.tellLost_clsIn (f : Nat) : (s.tellLost f).clsIn = s.clsIn := by
  obtain ⟨_, _, h⟩ := s.tellLost_only f; rw [h]
@[simp] theorem State.tellLost_cls (f : Nat) : (s.tellLost f).cls = s.cls := by
  obtain ⟨_, _, h⟩ := s.tellLost_only f; rw [h]
@[simp] theorem State.tellLost_fwd (f : Nat) : (s.tellLost f).fwd = s.fwd := by
  obtain ⟨_, _, h⟩ := s.tellLost_only f; rw [h]
@[simp] theorem State.tellLost_running (f : Nat) : (s.tellLost f).running = s.running := by
  obtain ⟨_, _, h⟩ := s.tellLost_only f; rw [h]
@[simp] theorem State.tellLost_vec (f : Nat) : (s.tellLost f).vec = s.vec := by
  obtain ⟨_, _, h⟩ := s.tellLost_only f; rw [h]
@[simp] theorem State.tellLost_svl (f : Nat) : (s.tellLost f).svl = s.svl := by
  obtain ⟨_, _, h⟩ := s.tellLost_only f; rw [h]
@[simp] theorem State.tellLost_testLanes (f : Nat) : (s.tellLost f).testLanes = s.testLanes := by
  obtain ⟨_, _, h⟩ := s.tellLost_only f; rw [h]
@[simp] theorem State.tellLost_mac (f : Nat) : (s.tellLost f).mac = s.mac := by
  obtain ⟨_, _, h⟩ := s.tellLost_only f; rw [h]
@[simp] theorem State.tellLost_lanes (f : Nat) : (s.tellLost f).lanes = s.lanes := by
  obtain ⟨_, _, h⟩ := s.tellLost_only f; rw [h]
@[simp] theorem State.tellLost_pwr (f : Nat) : (s.tellLost f).pwr = s.pwr := by
  obtain ⟨_, _, h⟩ := s.tellLost_only f; rw [h]
@[simp] theorem State.tellLost_mem (f : Nat) : (s.tellLost f).mem = s.mem := by
  obtain ⟨_, _, h⟩ := s.tellLost_only f; rw [h]
@[simp] theorem State.tellLost_ciph (f : Nat) : (s.tellLost f).ciph = s.ciph := by
  obtain ⟨_, _, h⟩ := s.tellLost_only f; rw [h]
@[simp] theorem State.tellLost_boot (f : Nat) : (s.tellLost f).boot = s.boot := by
  obtain ⟨_, _, h⟩ := s.tellLost_only f; rw [h]
@[simp] theorem State.tellLost_jrn (f : Nat) : (s.tellLost f).jrn = s.jrn := by
  obtain ⟨_, _, h⟩ := s.tellLost_only f; rw [h]
@[simp] theorem State.tellLost_tap (f : Nat) : (s.tellLost f).tap = s.tap := by
  obtain ⟨_, _, h⟩ := s.tellLost_only f; rw [h]

theorem State.journal_only (step result cause attempts detail ms : Nat) :
    ∃ a', s.journal step result cause attempts detail ms = { s with jrn := a' } := by
  exact ⟨_, rfl⟩
@[simp] theorem State.journal_pending (step result cause attempts detail ms : Nat) : (s.journal step result cause attempts detail ms).pending = s.pending := by
  obtain ⟨_, h⟩ := s.journal_only step result cause attempts detail ms; rw [h]
@[simp] theorem State.journal_out (step result cause attempts detail ms : Nat) : (s.journal step result cause attempts detail ms).out = s.out := by
  obtain ⟨_, h⟩ := s.journal_only step result cause attempts detail ms; rw [h]
@[simp] theorem State.journal_freeCtr (step result cause attempts detail ms : Nat) : (s.journal step result cause attempts detail ms).freeCtr = s.freeCtr := by
  obtain ⟨_, h⟩ := s.journal_only step result cause attempts detail ms; rw [h]
@[simp] theorem State.journal_cmdId (step result cause attempts detail ms : Nat) : (s.journal step result cause attempts detail ms).cmdId = s.cmdId := by
  obtain ⟨_, h⟩ := s.journal_only step result cause attempts detail ms; rw [h]
@[simp] theorem State.journal_regs (step result cause attempts detail ms : Nat) : (s.journal step result cause attempts detail ms).regs = s.regs := by
  obtain ⟨_, h⟩ := s.journal_only step result cause attempts detail ms; rw [h]
@[simp] theorem State.journal_cnt (step result cause attempts detail ms : Nat) : (s.journal step result cause attempts detail ms).cnt = s.cnt := by
  obtain ⟨_, h⟩ := s.journal_only step result cause attempts detail ms; rw [h]
@[simp] theorem State.journal_bank (step result cause attempts detail ms : Nat) : (s.journal step result cause attempts detail ms).bank = s.bank := by
  obtain ⟨_, h⟩ := s.journal_only step result cause attempts detail ms; rw [h]
@[simp] theorem State.journal_arb (step result cause attempts detail ms : Nat) : (s.journal step result cause attempts detail ms).arb = s.arb := by
  obtain ⟨_, h⟩ := s.journal_only step result cause attempts detail ms; rw [h]
@[simp] theorem State.journal_fns (step result cause attempts detail ms : Nat) : (s.journal step result cause attempts detail ms).fns = s.fns := by
  obtain ⟨_, h⟩ := s.journal_only step result cause attempts detail ms; rw [h]
@[simp] theorem State.journal_tick (step result cause attempts detail ms : Nat) : (s.journal step result cause attempts detail ms).tick = s.tick := by
  obtain ⟨_, h⟩ := s.journal_only step result cause attempts detail ms; rw [h]
@[simp] theorem State.journal_pon (step result cause attempts detail ms : Nat) : (s.journal step result cause attempts detail ms).pon = s.pon := by
  obtain ⟨_, h⟩ := s.journal_only step result cause attempts detail ms; rw [h]
@[simp] theorem State.journal_alloc (step result cause attempts detail ms : Nat) : (s.journal step result cause attempts detail ms).alloc = s.alloc := by
  obtain ⟨_, h⟩ := s.journal_only step result cause attempts detail ms; rw [h]
@[simp] theorem State.journal_bonding (step result cause attempts detail ms : Nat) : (s.journal step result cause attempts detail ms).bonding = s.bonding := by
  obtain ⟨_, h⟩ := s.journal_only step result cause attempts detail ms; rw [h]
@[simp] theorem State.journal_buf (step result cause attempts detail ms : Nat) : (s.journal step result cause attempts detail ms).buf = s.buf := by
  obtain ⟨_, h⟩ := s.journal_only step result cause attempts detail ms; rw [h]
@[simp] theorem State.journal_chan (step result cause attempts detail ms : Nat) : (s.journal step result cause attempts detail ms).chan = s.chan := by
  obtain ⟨_, h⟩ := s.journal_only step result cause attempts detail ms; rw [h]
@[simp] theorem State.journal_sched (step result cause attempts detail ms : Nat) : (s.journal step result cause attempts detail ms).sched = s.sched := by
  obtain ⟨_, h⟩ := s.journal_only step result cause attempts detail ms; rw [h]
@[simp] theorem State.journal_time (step result cause attempts detail ms : Nat) : (s.journal step result cause attempts detail ms).time = s.time := by
  obtain ⟨_, h⟩ := s.journal_only step result cause attempts detail ms; rw [h]
@[simp] theorem State.journal_clsIn (step result cause attempts detail ms : Nat) : (s.journal step result cause attempts detail ms).clsIn = s.clsIn := by
  obtain ⟨_, h⟩ := s.journal_only step result cause attempts detail ms; rw [h]
@[simp] theorem State.journal_cls (step result cause attempts detail ms : Nat) : (s.journal step result cause attempts detail ms).cls = s.cls := by
  obtain ⟨_, h⟩ := s.journal_only step result cause attempts detail ms; rw [h]
@[simp] theorem State.journal_fwd (step result cause attempts detail ms : Nat) : (s.journal step result cause attempts detail ms).fwd = s.fwd := by
  obtain ⟨_, h⟩ := s.journal_only step result cause attempts detail ms; rw [h]
@[simp] theorem State.journal_running (step result cause attempts detail ms : Nat) : (s.journal step result cause attempts detail ms).running = s.running := by
  obtain ⟨_, h⟩ := s.journal_only step result cause attempts detail ms; rw [h]
@[simp] theorem State.journal_vec (step result cause attempts detail ms : Nat) : (s.journal step result cause attempts detail ms).vec = s.vec := by
  obtain ⟨_, h⟩ := s.journal_only step result cause attempts detail ms; rw [h]
@[simp] theorem State.journal_svl (step result cause attempts detail ms : Nat) : (s.journal step result cause attempts detail ms).svl = s.svl := by
  obtain ⟨_, h⟩ := s.journal_only step result cause attempts detail ms; rw [h]
@[simp] theorem State.journal_testLanes (step result cause attempts detail ms : Nat) : (s.journal step result cause attempts detail ms).testLanes = s.testLanes := by
  obtain ⟨_, h⟩ := s.journal_only step result cause attempts detail ms; rw [h]
@[simp] theorem State.journal_mac (step result cause attempts detail ms : Nat) : (s.journal step result cause attempts detail ms).mac = s.mac := by
  obtain ⟨_, h⟩ := s.journal_only step result cause attempts detail ms; rw [h]
@[simp] theorem State.journal_lanes (step result cause attempts detail ms : Nat) : (s.journal step result cause attempts detail ms).lanes = s.lanes := by
  obtain ⟨_, h⟩ := s.journal_only step result cause attempts detail ms; rw [h]
@[simp] theorem State.journal_pwr (step result cause attempts detail ms : Nat) : (s.journal step result cause attempts detail ms).pwr = s.pwr := by
  obtain ⟨_, h⟩ := s.journal_only step result cause attempts detail ms; rw [h]
@[simp] theorem State.journal_mem (step result cause attempts detail ms : Nat) : (s.journal step result cause attempts detail ms).mem = s.mem := by
  obtain ⟨_, h⟩ := s.journal_only step result cause attempts detail ms; rw [h]
@[simp] theorem State.journal_ciph (step result cause attempts detail ms : Nat) : (s.journal step result cause attempts detail ms).ciph = s.ciph := by
  obtain ⟨_, h⟩ := s.journal_only step result cause attempts detail ms; rw [h]
@[simp] theorem State.journal_boot (step result cause attempts detail ms : Nat) : (s.journal step result cause attempts detail ms).boot = s.boot := by
  obtain ⟨_, h⟩ := s.journal_only step result cause attempts detail ms; rw [h]
@[simp] theorem State.journal_tap (step result cause attempts detail ms : Nat) : (s.journal step result cause attempts detail ms).tap = s.tap := by
  obtain ⟨_, h⟩ := s.journal_only step result cause attempts detail ms; rw [h]

theorem State.aonEvent_only (sev c row : Nat) (fs : List (Nat × Nat)) :
    ∃ a' b', s.aonEvent sev c row fs = { s with arb := a', jrn := b' } := by
  unfold State.aonEvent
  split_ifs
  · exact ⟨_, _, rfl⟩
  · exact ⟨_, _, (State.raiseRow_only _ _ _ _ _ _ _).choose_spec.trans rfl⟩
@[simp] theorem State.aonEvent_pending (sev c row : Nat) (fs : List (Nat × Nat)) : (s.aonEvent sev c row fs).pending = s.pending := by
  obtain ⟨_, _, h⟩ := s.aonEvent_only sev c row fs; rw [h]
@[simp] theorem State.aonEvent_out (sev c row : Nat) (fs : List (Nat × Nat)) : (s.aonEvent sev c row fs).out = s.out := by
  obtain ⟨_, _, h⟩ := s.aonEvent_only sev c row fs; rw [h]
@[simp] theorem State.aonEvent_freeCtr (sev c row : Nat) (fs : List (Nat × Nat)) : (s.aonEvent sev c row fs).freeCtr = s.freeCtr := by
  obtain ⟨_, _, h⟩ := s.aonEvent_only sev c row fs; rw [h]
@[simp] theorem State.aonEvent_cmdId (sev c row : Nat) (fs : List (Nat × Nat)) : (s.aonEvent sev c row fs).cmdId = s.cmdId := by
  obtain ⟨_, _, h⟩ := s.aonEvent_only sev c row fs; rw [h]
@[simp] theorem State.aonEvent_regs (sev c row : Nat) (fs : List (Nat × Nat)) : (s.aonEvent sev c row fs).regs = s.regs := by
  obtain ⟨_, _, h⟩ := s.aonEvent_only sev c row fs; rw [h]
@[simp] theorem State.aonEvent_cnt (sev c row : Nat) (fs : List (Nat × Nat)) : (s.aonEvent sev c row fs).cnt = s.cnt := by
  obtain ⟨_, _, h⟩ := s.aonEvent_only sev c row fs; rw [h]
@[simp] theorem State.aonEvent_bank (sev c row : Nat) (fs : List (Nat × Nat)) : (s.aonEvent sev c row fs).bank = s.bank := by
  obtain ⟨_, _, h⟩ := s.aonEvent_only sev c row fs; rw [h]
@[simp] theorem State.aonEvent_fns (sev c row : Nat) (fs : List (Nat × Nat)) : (s.aonEvent sev c row fs).fns = s.fns := by
  obtain ⟨_, _, h⟩ := s.aonEvent_only sev c row fs; rw [h]
@[simp] theorem State.aonEvent_tick (sev c row : Nat) (fs : List (Nat × Nat)) : (s.aonEvent sev c row fs).tick = s.tick := by
  obtain ⟨_, _, h⟩ := s.aonEvent_only sev c row fs; rw [h]
@[simp] theorem State.aonEvent_pon (sev c row : Nat) (fs : List (Nat × Nat)) : (s.aonEvent sev c row fs).pon = s.pon := by
  obtain ⟨_, _, h⟩ := s.aonEvent_only sev c row fs; rw [h]
@[simp] theorem State.aonEvent_alloc (sev c row : Nat) (fs : List (Nat × Nat)) : (s.aonEvent sev c row fs).alloc = s.alloc := by
  obtain ⟨_, _, h⟩ := s.aonEvent_only sev c row fs; rw [h]
@[simp] theorem State.aonEvent_bonding (sev c row : Nat) (fs : List (Nat × Nat)) : (s.aonEvent sev c row fs).bonding = s.bonding := by
  obtain ⟨_, _, h⟩ := s.aonEvent_only sev c row fs; rw [h]
@[simp] theorem State.aonEvent_buf (sev c row : Nat) (fs : List (Nat × Nat)) : (s.aonEvent sev c row fs).buf = s.buf := by
  obtain ⟨_, _, h⟩ := s.aonEvent_only sev c row fs; rw [h]
@[simp] theorem State.aonEvent_chan (sev c row : Nat) (fs : List (Nat × Nat)) : (s.aonEvent sev c row fs).chan = s.chan := by
  obtain ⟨_, _, h⟩ := s.aonEvent_only sev c row fs; rw [h]
@[simp] theorem State.aonEvent_sched (sev c row : Nat) (fs : List (Nat × Nat)) : (s.aonEvent sev c row fs).sched = s.sched := by
  obtain ⟨_, _, h⟩ := s.aonEvent_only sev c row fs; rw [h]
@[simp] theorem State.aonEvent_time (sev c row : Nat) (fs : List (Nat × Nat)) : (s.aonEvent sev c row fs).time = s.time := by
  obtain ⟨_, _, h⟩ := s.aonEvent_only sev c row fs; rw [h]
@[simp] theorem State.aonEvent_clsIn (sev c row : Nat) (fs : List (Nat × Nat)) : (s.aonEvent sev c row fs).clsIn = s.clsIn := by
  obtain ⟨_, _, h⟩ := s.aonEvent_only sev c row fs; rw [h]
@[simp] theorem State.aonEvent_cls (sev c row : Nat) (fs : List (Nat × Nat)) : (s.aonEvent sev c row fs).cls = s.cls := by
  obtain ⟨_, _, h⟩ := s.aonEvent_only sev c row fs; rw [h]
@[simp] theorem State.aonEvent_fwd (sev c row : Nat) (fs : List (Nat × Nat)) : (s.aonEvent sev c row fs).fwd = s.fwd := by
  obtain ⟨_, _, h⟩ := s.aonEvent_only sev c row fs; rw [h]
@[simp] theorem State.aonEvent_running (sev c row : Nat) (fs : List (Nat × Nat)) : (s.aonEvent sev c row fs).running = s.running := by
  obtain ⟨_, _, h⟩ := s.aonEvent_only sev c row fs; rw [h]
@[simp] theorem State.aonEvent_vec (sev c row : Nat) (fs : List (Nat × Nat)) : (s.aonEvent sev c row fs).vec = s.vec := by
  obtain ⟨_, _, h⟩ := s.aonEvent_only sev c row fs; rw [h]
@[simp] theorem State.aonEvent_svl (sev c row : Nat) (fs : List (Nat × Nat)) : (s.aonEvent sev c row fs).svl = s.svl := by
  obtain ⟨_, _, h⟩ := s.aonEvent_only sev c row fs; rw [h]
@[simp] theorem State.aonEvent_testLanes (sev c row : Nat) (fs : List (Nat × Nat)) : (s.aonEvent sev c row fs).testLanes = s.testLanes := by
  obtain ⟨_, _, h⟩ := s.aonEvent_only sev c row fs; rw [h]
@[simp] theorem State.aonEvent_mac (sev c row : Nat) (fs : List (Nat × Nat)) : (s.aonEvent sev c row fs).mac = s.mac := by
  obtain ⟨_, _, h⟩ := s.aonEvent_only sev c row fs; rw [h]
@[simp] theorem State.aonEvent_lanes (sev c row : Nat) (fs : List (Nat × Nat)) : (s.aonEvent sev c row fs).lanes = s.lanes := by
  obtain ⟨_, _, h⟩ := s.aonEvent_only sev c row fs; rw [h]
@[simp] theorem State.aonEvent_pwr (sev c row : Nat) (fs : List (Nat × Nat)) : (s.aonEvent sev c row fs).pwr = s.pwr := by
  obtain ⟨_, _, h⟩ := s.aonEvent_only sev c row fs; rw [h]
@[simp] theorem State.aonEvent_mem (sev c row : Nat) (fs : List (Nat × Nat)) : (s.aonEvent sev c row fs).mem = s.mem := by
  obtain ⟨_, _, h⟩ := s.aonEvent_only sev c row fs; rw [h]
@[simp] theorem State.aonEvent_ciph (sev c row : Nat) (fs : List (Nat × Nat)) : (s.aonEvent sev c row fs).ciph = s.ciph := by
  obtain ⟨_, _, h⟩ := s.aonEvent_only sev c row fs; rw [h]
@[simp] theorem State.aonEvent_boot (sev c row : Nat) (fs : List (Nat × Nat)) : (s.aonEvent sev c row fs).boot = s.boot := by
  obtain ⟨_, _, h⟩ := s.aonEvent_only sev c row fs; rw [h]
@[simp] theorem State.aonEvent_tap (sev c row : Nat) (fs : List (Nat × Nat)) : (s.aonEvent sev c row fs).tap = s.tap := by
  obtain ⟨_, _, h⟩ := s.aonEvent_only sev c row fs; rw [h]

theorem State.assertFault_only :
    ∃ a' b', s.assertFault = { s with boot := a', out := b' } := by
  exact ⟨_, _, rfl⟩
@[simp] theorem State.assertFault_pending : (s.assertFault).pending = s.pending := by
  obtain ⟨_, _, h⟩ := s.assertFault_only; rw [h]
@[simp] theorem State.assertFault_freeCtr : (s.assertFault).freeCtr = s.freeCtr := by
  obtain ⟨_, _, h⟩ := s.assertFault_only; rw [h]
@[simp] theorem State.assertFault_cmdId : (s.assertFault).cmdId = s.cmdId := by
  obtain ⟨_, _, h⟩ := s.assertFault_only; rw [h]
@[simp] theorem State.assertFault_regs : (s.assertFault).regs = s.regs := by
  obtain ⟨_, _, h⟩ := s.assertFault_only; rw [h]
@[simp] theorem State.assertFault_cnt : (s.assertFault).cnt = s.cnt := by
  obtain ⟨_, _, h⟩ := s.assertFault_only; rw [h]
@[simp] theorem State.assertFault_bank : (s.assertFault).bank = s.bank := by
  obtain ⟨_, _, h⟩ := s.assertFault_only; rw [h]
@[simp] theorem State.assertFault_arb : (s.assertFault).arb = s.arb := by
  obtain ⟨_, _, h⟩ := s.assertFault_only; rw [h]
@[simp] theorem State.assertFault_fns : (s.assertFault).fns = s.fns := by
  obtain ⟨_, _, h⟩ := s.assertFault_only; rw [h]
@[simp] theorem State.assertFault_tick : (s.assertFault).tick = s.tick := by
  obtain ⟨_, _, h⟩ := s.assertFault_only; rw [h]
@[simp] theorem State.assertFault_pon : (s.assertFault).pon = s.pon := by
  obtain ⟨_, _, h⟩ := s.assertFault_only; rw [h]
@[simp] theorem State.assertFault_alloc : (s.assertFault).alloc = s.alloc := by
  obtain ⟨_, _, h⟩ := s.assertFault_only; rw [h]
@[simp] theorem State.assertFault_bonding : (s.assertFault).bonding = s.bonding := by
  obtain ⟨_, _, h⟩ := s.assertFault_only; rw [h]
@[simp] theorem State.assertFault_buf : (s.assertFault).buf = s.buf := by
  obtain ⟨_, _, h⟩ := s.assertFault_only; rw [h]
@[simp] theorem State.assertFault_chan : (s.assertFault).chan = s.chan := by
  obtain ⟨_, _, h⟩ := s.assertFault_only; rw [h]
@[simp] theorem State.assertFault_sched : (s.assertFault).sched = s.sched := by
  obtain ⟨_, _, h⟩ := s.assertFault_only; rw [h]
@[simp] theorem State.assertFault_time : (s.assertFault).time = s.time := by
  obtain ⟨_, _, h⟩ := s.assertFault_only; rw [h]
@[simp] theorem State.assertFault_clsIn : (s.assertFault).clsIn = s.clsIn := by
  obtain ⟨_, _, h⟩ := s.assertFault_only; rw [h]
@[simp] theorem State.assertFault_cls : (s.assertFault).cls = s.cls := by
  obtain ⟨_, _, h⟩ := s.assertFault_only; rw [h]
@[simp] theorem State.assertFault_fwd : (s.assertFault).fwd = s.fwd := by
  obtain ⟨_, _, h⟩ := s.assertFault_only; rw [h]
@[simp] theorem State.assertFault_running : (s.assertFault).running = s.running := by
  obtain ⟨_, _, h⟩ := s.assertFault_only; rw [h]
@[simp] theorem State.assertFault_vec : (s.assertFault).vec = s.vec := by
  obtain ⟨_, _, h⟩ := s.assertFault_only; rw [h]
@[simp] theorem State.assertFault_svl : (s.assertFault).svl = s.svl := by
  obtain ⟨_, _, h⟩ := s.assertFault_only; rw [h]
@[simp] theorem State.assertFault_testLanes : (s.assertFault).testLanes = s.testLanes := by
  obtain ⟨_, _, h⟩ := s.assertFault_only; rw [h]
@[simp] theorem State.assertFault_mac : (s.assertFault).mac = s.mac := by
  obtain ⟨_, _, h⟩ := s.assertFault_only; rw [h]
@[simp] theorem State.assertFault_lanes : (s.assertFault).lanes = s.lanes := by
  obtain ⟨_, _, h⟩ := s.assertFault_only; rw [h]
@[simp] theorem State.assertFault_pwr : (s.assertFault).pwr = s.pwr := by
  obtain ⟨_, _, h⟩ := s.assertFault_only; rw [h]
@[simp] theorem State.assertFault_mem : (s.assertFault).mem = s.mem := by
  obtain ⟨_, _, h⟩ := s.assertFault_only; rw [h]
@[simp] theorem State.assertFault_ciph : (s.assertFault).ciph = s.ciph := by
  obtain ⟨_, _, h⟩ := s.assertFault_only; rw [h]
@[simp] theorem State.assertFault_jrn : (s.assertFault).jrn = s.jrn := by
  obtain ⟨_, _, h⟩ := s.assertFault_only; rw [h]
@[simp] theorem State.assertFault_tap : (s.assertFault).tap = s.tap := by
  obtain ⟨_, _, h⟩ := s.assertFault_only; rw [h]

end Sys2Proof.Machine
end

