-- ==== Sys2Proof/Laws/Commands.lean ====
section
/-! SUPPORT. What running a command packet can do (R554 to R559): one lemma for each way it ends, and one that says that it
always answers a next state. -/

namespace Sys2Proof.Machine

variable {op : Nat} {acc : Bool} {lenBad : Option Nat} {tgtOk : Bool} {body : Nat → State → BodyOut} {p : Pkt} {s : State}

/-- A packet that may not begin yet changes nothing. -/
theorem runCmd_waits (h : s.mayBegin op p = false) : runCmd op acc lenBad tgtOk body p s = .next s := by
  simp [runCmd, h]

/-- In recovery mode a command that PF0 is not served there ends with HW_FAULT (R588). -/
theorem runCmd_recovery (h : s.mayBegin op p = true) (hm : s.boot.mode = 2)
    (hr : recoveryServes op p.func.val = false) :
    runCmd op acc lenBad tgtOk body p s = .next ((s.afterTake p).endCmd (p.echo op) ⟨stHwFault, 0, []⟩) := by
  simp [runCmd, h, State.afterTake, State.takePkt, hm, hr]

/-- A failing check ends the command with the check's status alone. -/
theorem runCmd_refused {r : CmdEnd} (h : s.mayBegin op p = true) (hm : s.boot.mode = 1)
    (hc : checkPkt op p (s.pastRingEnd p) lenBad tgtOk = some r) :
    runCmd op acc lenBad tgtOk body p s = .next ((s.afterTake p).endCmd (p.echo op) r) := by
  simp [runCmd, h, State.afterTake, State.takePkt, hm, hc]

/-- The command's own part ends it at once. -/
theorem runCmd_fin {t : State} {r : CmdEnd} (h : s.mayBegin op p = true) (hm : s.boot.mode = 1)
    (hc : checkPkt op p (s.pastRingEnd p) lenBad tgtOk = none) (hb : body s.cmdId (s.afterTake p) = .fin t r)
    (ha : acc = false ∨ r.status ≠ stAccepted) :
    runCmd op acc lenBad tgtOk body p s = .next (t.endCmd (p.echo op) r) := by
  simp only [State.afterTake] at hb
  have hn : ¬(acc = true ∧ r.status = stAccepted) := by
    rintro ⟨h1, h2⟩; cases ha <;> simp_all
  simp only [runCmd, h, if_true, hc, hb, if_neg hn]
  simp [State.takePkt, hm]

/-- The command's own part accepts it (R559). -/
theorem runCmd_accepts {t : State} {d : Nat} (h : s.mayBegin op p = true) (hm : s.boot.mode = 1)
    (hc : checkPkt op p (s.pastRingEnd p) lenBad tgtOk = none)
    (hb : body s.cmdId (s.afterTake p) = .fin t ⟨stAccepted, d, []⟩) (ha : acc = true) :
    runCmd op acc lenBad tgtOk body p s =
      .next ((t.accepting op s.cmdId p).endCmd (p.echo op) ⟨stAccepted, d, []⟩) := by
  simp only [State.afterTake] at hb
  simp only [runCmd, h, if_true, hc, hb, ha, and_self]
  simp [State.takePkt, State.accepting, Pkt.echo, hm]

/-- The command's own part has begun and ends later (R558). -/
theorem runCmd_begins {t : State} (h : s.mayBegin op p = true) (hm : s.boot.mode = 1)
    (hc : checkPkt op p (s.pastRingEnd p) lenBad tgtOk = none) (hb : body s.cmdId (s.afterTake p) = .later t) :
    runCmd op acc lenBad tgtOk body p s = .next (t.setFn p.func.val { t.fn p.func.val with
      begun := (t.fn p.func.val).begun ++ [⟨p.echo op, s.cmdId, t.tick.count.toNat⟩] }) := by
  simp only [State.afterTake] at hb
  simp only [runCmd, h, if_true, hc, hb]
  simp [State.takePkt, Pkt.echo, hm]

/-- Running a packet always answers a next state. -/
theorem runCmd_next : ∃ t, runCmd op acc lenBad tgtOk body p s = .next t := by
  unfold runCmd
  split
  · dsimp only
    split
    · exact ⟨_, rfl⟩
    · split
      · exact ⟨_, rfl⟩
      · split
        · split <;> exact ⟨_, rfl⟩
        · exact ⟨_, rfl⟩
  · exact ⟨_, rfl⟩

/-- The checks of R556 that a taken packet passes leave LENGTH and TARGET. -/
theorem checkPkt_of_taken (h : Taken op p s) :
    checkPkt op p (s.pastRingEnd p) none true = none := by
  obtain ⟨-, hp, -, hv, hf, hl, hg, ho⟩ := h
  have hl' : ¬ 1024 < p.length := by omega
  simp [checkPkt, hp, hv, hf, hl', hg, ho]

/-- A body that keeps the memories keeps them through the whole command. -/
theorem runCmd_mem {t : State} (P : Mem → Prop) (hs : P s.mem)
    (hb : ∀ n u, P u.mem → match body n u with | .fin v _ => P v.mem | .later v => P v.mem)
    (h : runCmd op acc lenBad tgtOk body p s = .next t) : P t.mem := by
  have h0 : P ({ s.takePkt p with cmdId := s.cmdId + 1 } : State).mem := by
    have := State.takePkt_mem s p
    simpa [this] using hs
  unfold runCmd at h
  split at h
  · dsimp only at h
    split at h
    · cases h; simpa using h0
    · split at h
      · cases h; simpa using h0
      · have := hb s.cmdId _ h0
        split at h <;> rename_i hb'
        · rw [hb'] at this
          split at h <;> cases h <;> simpa using this
        · rw [hb'] at this
          cases h; simpa using this
  · cases h; exact hs

end Sys2Proof.Machine
end

