-- ==== Sys2Proof/Laws/Exec.lean ====
section
/-! SUPPORT. exec, arm by arm: what it answers for each command. (Unfolding exec itself takes its 399 arms apart; these lemmas
do not.) -/

namespace Sys2Proof.Machine

theorem exec_eventGrant (cycle : Nat) (s : State) : exec (.eventGrant cycle) s = execEventGrant cycle s := rfl
theorem exec_eventRingWrite (f : Fin 6) (s : State) : exec (.eventRingWrite f) s = execEventRingWrite f s := rfl
theorem exec_tickEdge (s : State) : exec (.tickEdge) s = execTickEdge s := rfl
theorem exec_ponFrameBoundary (s : State) : exec (.ponFrameBoundary) s = execPonFrameBoundary s := rfl
theorem exec_vectorCycleBoundary (pkt : Nat) (s : State) : exec (.vectorCycleBoundary pkt) s = execVectorCycleBoundary pkt s := rfl
theorem exec_superframeBoundary (s : State) : exec (.superframeBoundary) s = execSuperframeBoundary s := rfl
theorem exec_holdoverLong (s : State) : exec (.holdoverLong) s = execHoldoverLong s := rfl
theorem exec_tickMaster (p : Pkt) (s : State) : exec (.tickMaster p) s = execTickMaster p s := rfl
theorem exec_tickRealign (p : Pkt) (s : State) : exec (.tickRealign p) s = execTickRealign p s := rfl
theorem exec_tickOffsetWrite (v : Word) (s : State) : exec (.tickOffsetWrite v) s = execTickOffsetWrite v s := rfl
theorem exec_tickCfg (p : Pkt) (s : State) : exec (.tickCfg p) s = execTickCfg p s := rfl
theorem exec_timeCfg (p : Pkt) (s : State) : exec (.timeCfg p) s = execTimeCfg p s := rfl
theorem exec_tickCountLoRead (f : Fin 6) (s : State) : exec (.tickCountLoRead f) s = execTickCountLoRead f s := rfl
theorem exec_ponRxEnable (c : Fin 4) (s : State) : exec (.ponRxEnable c) s = execPonRxEnable c s := rfl
theorem exec_ponRxDisable (c : Fin 4) (mid : Bool) (s : State) : exec (.ponRxDisable c mid) s = execPonRxDisable c mid s := rfl
theorem exec_losAssert (c : Fin 4) (peak : Byte) (mid : Bool) (cycles : List EqCycle) (s : State) : exec (.losAssert c peak mid cycles) s = execLosAssert c peak mid cycles s := rfl
theorem exec_losClear (c : Fin 4) (peak : Byte) (s : State) : exec (.losClear c peak) s = execLosClear c peak s := rfl
theorem exec_cdrLock (c : Fin 4) (s : State) : exec (.cdrLock c) s = execCdrLock c s := rfl
theorem exec_eqReset (c : Fin 4) (s : State) : exec (.eqReset c) s = execEqReset c s := rfl
theorem exec_eqAcquisitionEnd (c : Fin 4) (cycles : List EqCycle) (s : State) : exec (.eqAcquisitionEnd c cycles) s = execEqAcquisitionEnd c cycles s := rfl
theorem exec_eqDivergenceReset (c : Fin 4) (mse1 : BitVec 16) (mse2 : BitVec 16) (s : State) : exec (.eqDivergenceReset c mse1 mse2) s = execEqDivergenceReset c mse1 mse2 s := rfl
theorem exec_eqSnap (c : Fin 4) (cycles : List EqCycle) (mse : BitVec 16) (s : State) : exec (.eqSnap c cycles mse) s = execEqSnap c cycles mse s := rfl
theorem exec_eqTapWrite (c : Fin 4) (k : Fin 32) (v : BitVec 12) (s : State) : exec (.eqTapWrite c k v) s = execEqTapWrite c k v s := rfl
theorem exec_psyncMatch (c : Fin 4) (at_ : Nat) (p : PSync) (s : State) : exec (.psyncMatch c at_ p) s = execPsyncMatch c at_ p s := rfl
theorem exec_candidateCheck (c : Fin 4) (at_ : Nat) (p : PSync) (us : Nat) (s : State) : exec (.candidateCheck c at_ p us) s = execCandidateCheck c at_ p us s := rfl
theorem exec_psyncCheck (c : Fin 4) (p : PSync) (mid : Bool) (s : State) : exec (.psyncCheck c p mid) s = execPsyncCheck c p mid s := rfl
theorem exec_fecCodeword (c : Fin 4) (found : Option Nat) (changed : Nat) (s : State) : exec (.fecCodeword c found changed) s = execFecCodeword c found changed s := rfl
theorem exec_fecEsInterval (c : Fin 4) (s : State) : exec (.fecEsInterval c) s = execFecEsInterval c s := rfl
theorem exec_ponStatSnap (c : Fin 4) (s : State) : exec (.ponStatSnap c) s = execPonStatSnap c s := rfl
theorem exec_ponStatIntervalCopy (c : Fin 4) (s : State) : exec (.ponStatIntervalCopy c) s = execPonStatIntervalCopy c s := rfl
theorem exec_watchfulRxWake (c : Fin 4) (s : State) : exec (.watchfulRxWake c) s = execWatchfulRxWake c s := rfl
theorem exec_counterLoRead (f : Fin 6) (off : Nat) (s : State) : exec (.counterLoRead f off) s = execCounterLoRead f off s := rfl
theorem exec_ponSfcLoRead (f : Fin 6) (c : Fin 4) (s : State) : exec (.ponSfcLoRead f c) s = execPonSfcLoRead f c s := rfl
theorem exec_burstProfile (m : Ploam) (p : Profile) (s : State) : exec (.burstProfile m p) s = execBurstProfile m p s := rfl
theorem exec_assignOnuId (m : Ploam) (sn : BitVec 64) (id : BitVec 10) (s : State) : exec (.assignOnuId m sn id) s = execAssignOnuId m sn id s := rfl
theorem exec_rangingTime (m : Ploam) (relative : Bool) (v : Int) (s : State) : exec (.rangingTime m relative v) s = execRangingTime m relative v s := rfl
theorem exec_deactivateOnuId (m : Ploam) (s : State) : exec (.deactivateOnuId m) s = execDeactivateOnuId m s := rfl
theorem exec_disableSerialNumber (m : Ploam) (sn : BitVec 64) (s : State) : exec (.disableSerialNumber m sn) s = execDisableSerialNumber m sn s := rfl
theorem exec_enableSerialNumber (m : Ploam) (sn : BitVec 64) (s : State) : exec (.enableSerialNumber m sn) s = execEnableSerialNumber m sn s := rfl
theorem exec_requestRegistration (m : Ploam) (s : State) : exec (.requestRegistration m) s = execRequestRegistration m s := rfl
theorem exec_assignAllocId (m : Ploam) (alloc : BitVec 14) (dealloc : Bool) (s : State) : exec (.assignAllocId m alloc dealloc) s = execAssignAllocId m alloc dealloc s := rfl
theorem exec_keyControl (m : Ploam) (idx : Fin 2) (key : BitVec 128) (s : State) : exec (.keyControl m idx key) s = execKeyControl m idx key s := rfl
theorem exec_sleepAllow (m : Ploam) (on : Bool) (s : State) : exec (.sleepAllow m on) s = execSleepAllow m on s := rfl
theorem exec_ploamUnsupported (m : Ploam) (answer : Bool) (s : State) : exec (.ploamUnsupported m answer) s = execPloamUnsupported m answer s := rfl
theorem exec_to1Expiry (c : Fin 4) (s : State) : exec (.to1Expiry c) s = execTo1Expiry c s := rfl
theorem exec_to2Expiry (c : Fin 4) (s : State) : exec (.to2Expiry c) s = execTo2Expiry c s := rfl
theorem exec_snResponseSend (c : Fin 4) (delay : Nat) (s : State) : exec (.snResponseSend c delay) s = execSnResponseSend c delay s := rfl
theorem exec_rangingResponseSend (c : Fin 4) (s : State) : exec (.rangingResponseSend c) s = execRangingResponseSend c s := rfl
theorem exec_actHoldClear (c : Fin 4) (s : State) : exec (.actHoldClear c) s = execActHoldClear c s := rfl
theorem exec_xgemFrame (c : Fin 4) (x : Xgem) (lost : List (Nat × Bool)) (s : State) : exec (.xgemFrame c x lost) s = execXgemFrame c x lost s := rfl
theorem exec_forcedWakeup (c : Fin 4) (s : State) : exec (.forcedWakeup c) s = execForcedWakeup c s := rfl
theorem exec_txPowerUp (c : Fin 4) (s : State) : exec (.txPowerUp c) s = execTxPowerUp c s := rfl
theorem exec_ponCfg (p : Pkt) (s : State) : exec (.ponCfg p) s = execPonCfg p s := rfl
theorem exec_ponRegId (p : Pkt) (s : State) : exec (.ponRegId p) s = execPonRegId p s := rfl
theorem exec_ponMsk (p : Pkt) (s : State) : exec (.ponMsk p) s = execPonMsk p s := rfl
theorem exec_ponPortAdd (p : Pkt) (s : State) : exec (.ponPortAdd p) s = execPonPortAdd p s := rfl
theorem exec_ponPortRemove (p : Pkt) (s : State) : exec (.ponPortRemove p) s = execPonPortRemove p s := rfl
theorem exec_ponLullPolicy (p : Pkt) (s : State) : exec (.ponLullPolicy p) s = execPonLullPolicy p s := rfl
theorem exec_ponQueues (p : Pkt) (s : State) : exec (.ponQueues p) s = execPonQueues p s := rfl
theorem exec_bwmap (c : Fin 4) (grants : List Grant) (bad : Bool) (hlBad : Bool) (s : State) : exec (.bwmap c grants bad hlBad) s = execBwmap c grants bad hlBad s := rfl
theorem exec_burstBuild (c : Fin 4) (cyc : Nat) (key : Fin 3) (bad : List Nat) (ready : Bool) (s : State) : exec (.burstBuild c cyc key bad ready) s = execBurstBuild c cyc key bad ready s := rfl
theorem exec_burstTransmit (c : Fin 4) (ends : Bool) (s : State) : exec (.burstTransmit c ends) s = execBurstTransmit c ends s := rfl
theorem exec_bondTaggedFrame (s : State) : exec (.bondTaggedFrame) s = execBondTaggedFrame s := rfl
theorem exec_reseqHoldTimeout (g : Fin 4) (waited : Nat) (s : State) : exec (.reseqHoldTimeout g waited) s = execReseqHoldTimeout g waited s := rfl
theorem exec_bondStatusReceive (s : State) : exec (.bondStatusReceive) s = execBondStatusReceive s := rfl
theorem exec_allocCtxLoad (p : Pkt) (s : State) : exec (.allocCtxLoad p) s = execAllocCtxLoad p s := rfl
theorem exec_allocCtxRead (p : Pkt) (s : State) : exec (.allocCtxRead p) s = execAllocCtxRead p s := rfl
theorem exec_bondCtxLoad (p : Pkt) (s : State) : exec (.bondCtxLoad p) s = execBondCtxLoad p s := rfl
theorem exec_bondCtxRead (p : Pkt) (s : State) : exec (.bondCtxRead p) s = execBondCtxRead p s := rfl
theorem exec_bondMeClass (p : Pkt) (s : State) : exec (.bondMeClass p) s = execBondMeClass p s := rfl
theorem exec_bondQueue (p : Pkt) (s : State) : exec (.bondQueue p) s = execBondQueue p s := rfl
theorem exec_bondStatSnap (s : State) : exec (.bondStatSnap) s = execBondStatSnap s := rfl
theorem exec_bondStatIntervalCopy (s : State) : exec (.bondStatIntervalCopy) s = execBondStatIntervalCopy s := rfl
theorem exec_veCmdStart (e : Fin 96) (s : State) : exec (.veCmdStart e) s = execVeCmdStart e s := rfl
theorem exec_veCmdStop (e : Fin 96) (s : State) : exec (.veCmdStop e) s = execVeCmdStop e s := rfl
theorem exec_veCmdReset (e : Fin 96) (s : State) : exec (.veCmdReset e) s = execVeCmdReset e s := rfl
theorem exec_engCtlStart (p : Pkt) (s : State) : exec (.engCtlStart p) s = execEngCtlStart p s := rfl
theorem exec_engCtlStop (p : Pkt) (s : State) : exec (.engCtlStop p) s = execEngCtlStop p s := rfl
theorem exec_engCtlReset (p : Pkt) (pass : Bool) (s : State) : exec (.engCtlReset p pass) s = execEngCtlReset p pass s := rfl
theorem exec_engCtlRetire (p : Pkt) (s : State) : exec (.engCtlRetire p) s = execEngCtlRetire p s := rfl
theorem exec_engCtlRejoin (p : Pkt) (s : State) : exec (.engCtlRejoin p) s = execEngCtlRejoin p s := rfl
theorem exec_slabCtlOff (e : Fin 96) (s : State) : exec (.slabCtlOff e) s = execSlabCtlOff e s := rfl
theorem exec_slabCtlRetain (e : Fin 96) (s : State) : exec (.slabCtlRetain e) s = execSlabCtlRetain e s := rfl
theorem exec_slabCtlOn (e : Fin 96) (s : State) : exec (.slabCtlOn e) s = execSlabCtlOn e s := rfl
theorem exec_slabMode (p : Pkt) (s : State) : exec (.slabMode p) s = execSlabMode p s := rfl
theorem exec_slabZeroFillDone (e : Fin 96) (s : State) : exec (.slabZeroFillDone e) s = execSlabZeroFillDone e s := rfl
theorem exec_slabWakeScrubDone (e : Fin 96) (s : State) : exec (.slabWakeScrubDone e) s = execSlabWakeScrubDone e s := rfl
theorem exec_slabReloadDone (e : Fin 96) (s : State) : exec (.slabReloadDone e) s = execSlabReloadDone e s := rfl
theorem exec_slabIndirectRead (e : Fin 96) (word : BitVec 17) (s : State) : exec (.slabIndirectRead e word) s = execSlabIndirectRead e word s := rfl
theorem exec_slabIndirectWrite (e : Fin 96) (word : BitVec 17) (s : State) : exec (.slabIndirectWrite e word) s = execSlabIndirectWrite e word s := rfl
theorem exec_slabWrite (p : Pkt) (s : State) : exec (.slabWrite p) s = execSlabWrite p s := rfl
theorem exec_slabRead (p : Pkt) (s : State) : exec (.slabRead p) s = execSlabRead p s := rfl
theorem exec_slabCopyDone (s : State) : exec (.slabCopyDone) s = execSlabCopyDone s := rfl
theorem exec_dmaTileWrite (g : Fin 4) (k : Fin 96) (q : Fin 16) (s : State) : exec (.dmaTileWrite g k q) s = execDmaTileWrite g k q s := rfl
theorem exec_dmaTileRead (g : Fin 4) (k : Fin 96) (q : Fin 16) (s : State) : exec (.dmaTileRead g k q) s = execDmaTileRead g k q s := rfl
theorem exec_veDoorbellRing (e : Fin 96) (s : State) : exec (.veDoorbellRing e) s = execVeDoorbellRing e s := rfl
theorem exec_apertureAccess (f : Fin 6) (e : Fin 96) (off : BitVec 16) (wr : Option Word) (s : State) : exec (.apertureAccess f e off wr) s = execApertureAccess f e off wr s := rfl
theorem exec_kernelLoad (p : Pkt) (s : State) : exec (.kernelLoad p) s = execKernelLoad p s := rfl
theorem exec_kernelFree (p : Pkt) (s : State) : exec (.kernelFree p) s = execKernelFree p s := rfl
theorem exec_engLoad (p : Pkt) (s : State) : exec (.engLoad p) s = execEngLoad p s := rfl
theorem exec_engSpare (p : Pkt) (s : State) : exec (.engSpare p) s = execEngSpare p s := rfl
theorem exec_engRetireCfg (p : Pkt) (s : State) : exec (.engRetireCfg p) s = execEngRetireCfg p s := rfl
theorem exec_nop (e : Fin 96) (s : State) : exec (.nop e) s = execNop e s := rfl
theorem exec_opAdd (e : Fin 96) (s : State) : exec (.opAdd e) s = execOpAdd e s := rfl
theorem exec_opSub (e : Fin 96) (s : State) : exec (.opSub e) s = execOpSub e s := rfl
theorem exec_opAnd (e : Fin 96) (s : State) : exec (.opAnd e) s = execOpAnd e s := rfl
theorem exec_opOr (e : Fin 96) (s : State) : exec (.opOr e) s = execOpOr e s := rfl
theorem exec_opXor (e : Fin 96) (s : State) : exec (.opXor e) s = execOpXor e s := rfl
theorem exec_shl (e : Fin 96) (s : State) : exec (.shl e) s = execShl e s := rfl
theorem exec_shr (e : Fin 96) (s : State) : exec (.shr e) s = execShr e s := rfl
theorem exec_sra (e : Fin 96) (s : State) : exec (.sra e) s = execSra e s := rfl
theorem exec_opMin (e : Fin 96) (s : State) : exec (.opMin e) s = execOpMin e s := rfl
theorem exec_opMax (e : Fin 96) (s : State) : exec (.opMax e) s = execOpMax e s := rfl
theorem exec_mul (e : Fin 96) (s : State) : exec (.mul e) s = execMul e s := rfl
theorem exec_clz (e : Fin 96) (s : State) : exec (.clz e) s = execClz e s := rfl
theorem exec_cmpeq (e : Fin 96) (s : State) : exec (.cmpeq e) s = execCmpeq e s := rfl
theorem exec_cmplt (e : Fin 96) (s : State) : exec (.cmplt e) s = execCmplt e s := rfl
theorem exec_cmpltu (e : Fin 96) (s : State) : exec (.cmpltu e) s = execCmpltu e s := rfl
theorem exec_addi (e : Fin 96) (s : State) : exec (.addi e) s = execAddi e s := rfl
theorem exec_andi (e : Fin 96) (s : State) : exec (.andi e) s = execAndi e s := rfl
theorem exec_ori (e : Fin 96) (s : State) : exec (.ori e) s = execOri e s := rfl
theorem exec_xori (e : Fin 96) (s : State) : exec (.xori e) s = execXori e s := rfl
theorem exec_shli (e : Fin 96) (s : State) : exec (.shli e) s = execShli e s := rfl
theorem exec_shri (e : Fin 96) (s : State) : exec (.shri e) s = execShri e s := rfl
theorem exec_srai (e : Fin 96) (s : State) : exec (.srai e) s = execSrai e s := rfl
theorem exec_opLi (e : Fin 96) (s : State) : exec (.opLi e) s = execOpLi e s := rfl
theorem exec_lui (e : Fin 96) (s : State) : exec (.lui e) s = execLui e s := rfl
theorem exec_dstep (e : Fin 96) (s : State) : exec (.dstep e) s = execDstep e s := rfl
theorem exec_ldp (e : Fin 96) (s : State) : exec (.ldp e) s = execLdp e s := rfl
theorem exec_stp (e : Fin 96) (s : State) : exec (.stp e) s = execStp e s := rfl
theorem exec_agw (e : Fin 96) (s : State) : exec (.agw e) s = execAgw e s := rfl
theorem exec_agr (e : Fin 96) (s : State) : exec (.agr e) s = execAgr e s := rfl
theorem exec_mfs (e : Fin 96) (s : State) : exec (.mfs e) s = execMfs e s := rfl
theorem exec_mts (e : Fin 96) (s : State) : exec (.mts e) s = execMts e s := rfl
theorem exec_beq (e : Fin 96) (s : State) : exec (.beq e) s = execBeq e s := rfl
theorem exec_bne (e : Fin 96) (s : State) : exec (.bne e) s = execBne e s := rfl
theorem exec_blt (e : Fin 96) (s : State) : exec (.blt e) s = execBlt e s := rfl
theorem exec_bge (e : Fin 96) (s : State) : exec (.bge e) s = execBge e s := rfl
theorem exec_br (e : Fin 96) (s : State) : exec (.br e) s = execBr e s := rfl
theorem exec_bri (e : Fin 96) (s : State) : exec (.bri e) s = execBri e s := rfl
theorem exec_call (e : Fin 96) (s : State) : exec (.call e) s = execCall e s := rfl
theorem exec_opRep (e : Fin 96) (s : State) : exec (.opRep e) s = execOpRep e s := rfl
theorem exec_opLoop (e : Fin 96) (s : State) : exec (.opLoop e) s = execOpLoop e s := rfl
theorem exec_waitt (e : Fin 96) (s : State) : exec (.waitt e) s = execWaitt e s := rfl
theorem exec_sdone (e : Fin 96) (s : State) : exec (.sdone e) s = execSdone e s := rfl
theorem exec_sdoneComplete (e : Fin 96) (s : State) : exec (.sdoneComplete e) s = execSdoneComplete e s := rfl
theorem exec_reti (e : Fin 96) (s : State) : exec (.reti e) s = execReti e s := rfl
theorem exec_vnop (e : Fin 96) (s : State) : exec (.vnop e) s = execVnop e s := rfl
theorem exec_vmac (e : Fin 96) (s : State) : exec (.vmac e) s = execVmac e s := rfl
theorem exec_vmacs (e : Fin 96) (s : State) : exec (.vmacs e) s = execVmacs e s := rfl
theorem exec_vcorr (e : Fin 96) (s : State) : exec (.vcorr e) s = execVcorr e s := rfl
theorem exec_vlde (e : Fin 96) (s : State) : exec (.vlde e) s = execVlde e s := rfl
theorem exec_vcupd (e : Fin 96) (s : State) : exec (.vcupd e) s = execVcupd e s := rfl
theorem exec_vsnap (e : Fin 96) (s : State) : exec (.vsnap e) s = execVsnap e s := rfl
theorem exec_vclr (e : Fin 96) (s : State) : exec (.vclr e) s = execVclr e s := rfl
theorem exec_acc (e : Fin 96) (g : Fin 3) (s : State) : exec (.acc e g) s = execAcc e g s := rfl
theorem exec_accAdv (e : Fin 96) (g : Fin 3) (s : State) : exec (.accAdv e g) s = execAccAdv e g s := rfl
theorem exec_accT (e : Fin 96) (g : Fin 3) (s : State) : exec (.accT e g) s = execAccT e g s := rfl
theorem exec_acc0 (e : Fin 96) (g : Fin 3) (s : State) : exec (.acc0 e g) s = execAcc0 e g s := rfl
theorem exec_adv (e : Fin 96) (g : Fin 3) (s : State) : exec (.adv e g) s = execAdv e g s := rfl
theorem exec_tstep (e : Fin 96) (g : Fin 3) (s : State) : exec (.tstep e g) s = execTstep e g s := rfl
theorem exec_rst (e : Fin 96) (g : Fin 3) (s : State) : exec (.rst e g) s = execRst e g s := rfl
theorem exec_interruptEntry (e : Fin 96) (idle : Nat) (s : State) : exec (.interruptEntry e idle) s = execInterruptEntry e idle s := rfl
theorem exec_vgDefine (p : Pkt) (s : State) : exec (.vgDefine p) s = execVgDefine p s := rfl
theorem exec_vgLadder (p : Pkt) (s : State) : exec (.vgLadder p) s = execVgLadder p s := rfl
theorem exec_vgStart (p : Pkt) (s : State) : exec (.vgStart p) s = execVgStart p s := rfl
theorem exec_vgStop (p : Pkt) (s : State) : exec (.vgStop p) s = execVgStop p s := rfl
theorem exec_vgParam (p : Pkt) (s : State) : exec (.vgParam p) s = execVgParam p s := rfl
theorem exec_vgParamDone (s : State) : exec (.vgParamDone) s = execVgParamDone s := rfl
theorem exec_vgFenceWords (p : Pkt) (s : State) : exec (.vgFenceWords p) s = execVgFenceWords p s := rfl
theorem exec_vgFenceAbort (p : Pkt) (s : State) : exec (.vgFenceAbort p) s = execVgFenceAbort p s := rfl
theorem exec_vgFenceCommit (p : Pkt) (s : State) : exec (.vgFenceCommit p) s = execVgFenceCommit p s := rfl
theorem exec_fenceDrainWord (e : Fin 96) (s : State) : exec (.fenceDrainWord e) s = execFenceDrainWord e s := rfl
theorem exec_vgTgRelease (p : Pkt) (s : State) : exec (.vgTgRelease p) s = execVgTgRelease p s := rfl
theorem exec_vgUndefine (p : Pkt) (s : State) : exec (.vgUndefine p) s = execVgUndefine p s := rfl
theorem exec_vgThaw (p : Pkt) (s : State) : exec (.vgThaw p) s = execVgThaw p s := rfl
theorem exec_vsCutoff (p : Pkt) (s : State) : exec (.vsCutoff p) s = execVsCutoff p s := rfl
theorem exec_svlPort (p : Pkt) (s : State) : exec (.svlPort p) s = execSvlPort p s := rfl
theorem exec_portCutoff (p : Fin 16) (s : State) : exec (.portCutoff p) s = execPortCutoff p s := rfl
theorem exec_tilePairReceive (p : Fin 16) (l : Fin 4) (blocks : List (BitVec 66)) (s : State) : exec (.tilePairReceive p l blocks) s = execTilePairReceive p l blocks s := rfl
theorem exec_streamStart (p : Fin 16) (l : Fin 4) (block : BitVec 66) (s : State) : exec (.streamStart p l block) s = execStreamStart p l block s := rfl
theorem exec_fbStart (p : Fin 16) (l : Fin 4) (block : BitVec 66) (s : State) : exec (.fbStart p l block) s = execFbStart p l block s := rfl
theorem exec_lineStatus (p : Fin 16) (l : Fin 4) (block : BitVec 66) (s : State) : exec (.lineStatus p l block) s = execLineStatus p l block s := rfl
theorem exec_laneMarker (p : Fin 16) (l : Fin 4) (block : BitVec 66) (pos : Nat) (s : State) : exec (.laneMarker p l block pos) s = execLaneMarker p l block pos s := rfl
theorem exec_idle (p : Fin 16) (l : Fin 4) (block : BitVec 66) (s : State) : exec (.idle p l block) s = execIdle p l block s := rfl
theorem exec_deskewTimeout (p : Fin 16) (s : State) : exec (.deskewTimeout p) s = execDeskewTimeout p s := rfl
theorem exec_bypassFlagsSend (p : Fin 16) (s : State) : exec (.bypassFlagsSend p) s = execBypassFlagsSend p s := rfl
theorem exec_laneMarkerSend (p : Fin 16) (s : State) : exec (.laneMarkerSend p) s = execLaneMarkerSend p s := rfl
theorem exec_laneSignalDetect (l : Fin 16) (s : State) : exec (.laneSignalDetect l) s = execLaneSignalDetect l s := rfl
theorem exec_laneSignalLost (l : Fin 16) (s : State) : exec (.laneSignalLost l) s = execLaneSignalLost l s := rfl
theorem exec_laneCdrLock (l : Fin 16) (s : State) : exec (.laneCdrLock l) s = execLaneCdrLock l s := rfl
theorem exec_laneCdrTimeout (l : Fin 16) (s : State) : exec (.laneCdrTimeout l) s = execLaneCdrTimeout l s := rfl
theorem exec_laneBlockLock (l : Fin 16) (blocks : List (BitVec 66)) (s : State) : exec (.laneBlockLock l blocks) s = execLaneBlockLock l blocks s := rfl
theorem exec_laneHeaderSlip (l : Fin 16) (blocks : List (BitVec 66)) (s : State) : exec (.laneHeaderSlip l blocks) s = execLaneHeaderSlip l blocks s := rfl
theorem exec_lanePolarityDecided (l : Fin 16) (blocks : List (BitVec 66)) (s : State) : exec (.lanePolarityDecided l blocks) s = execLanePolarityDecided l blocks s := rfl
theorem exec_laneLockTimeout (l : Fin 16) (blocks : List (BitVec 66)) (s : State) : exec (.laneLockTimeout l blocks) s = execLaneLockTimeout l blocks s := rfl
theorem exec_laneHeaderWindowFail (l : Fin 16) (blocks : List (BitVec 66)) (s : State) : exec (.laneHeaderWindowFail l blocks) s = execLaneHeaderWindowFail l blocks s := rfl
theorem exec_svlPortEnable (p : Fin 16) (v : Word) (s : State) : exec (.svlPortEnable p v) s = execSvlPortEnable p v s := rfl
theorem exec_svlPortDisable (p : Fin 16) (v : Word) (s : State) : exec (.svlPortDisable p v) s = execSvlPortDisable p v s := rfl
theorem exec_svlStatSnap (p : Fin 16) (s : State) : exec (.svlStatSnap p) s = execSvlStatSnap p s := rfl
theorem exec_laneEq (p : Pkt) (s : State) : exec (.laneEq p) s = execLaneEq p s := rfl
theorem exec_laneTest (p : Pkt) (s : State) : exec (.laneTest p) s = execLaneTest p s := rfl
theorem exec_laneSleep (p : Pkt) (s : State) : exec (.laneSleep p) s = execLaneSleep p s := rfl
theorem exec_laneEye (p : Pkt) (s : State) : exec (.laneEye p) s = execLaneEye p s := rfl
theorem exec_laneEyeRead (p : Pkt) (s : State) : exec (.laneEyeRead p) s = execLaneEyeRead p s := rfl
theorem exec_laneTxfirWrite (l : Fin 44) (r : Fin 3) (v : Word) (s : State) : exec (.laneTxfirWrite l r v) s = execLaneTxfirWrite l r v s := rfl
theorem exec_laneLoopWrite (l : Fin 44) (loop : Fin 4) (s : State) : exec (.laneLoopWrite l loop) s = execLaneLoopWrite l loop s := rfl
theorem exec_patternGenEnable (l : Fin 44) (on : Bool) (s : State) : exec (.patternGenEnable l on) s = execPatternGenEnable l on s := rfl
theorem exec_checkerEnable (l : Fin 44) (s : State) : exec (.checkerEnable l) s = execCheckerEnable l s := rfl
theorem exec_patternLock (l : Fin 44) (words : List (BitVec 64)) (s : State) : exec (.patternLock l words) s = execPatternLock l words s := rfl
theorem exec_patternLockLoss (l : Fin 44) (words : List (BitVec 64)) (s : State) : exec (.patternLockLoss l words) s = execPatternLockLoss l words s := rfl
theorem exec_injectionGo (l : Fin 44) (s : State) : exec (.injectionGo l) s = execInjectionGo l s := rfl
theorem exec_laneInjection (l : Fin 44) (words : List (BitVec 64)) (s : State) : exec (.laneInjection l words) s = execLaneInjection l words s := rfl
theorem exec_eyeScanGo (l : Fin 40) (s : State) : exec (.eyeScanGo l) s = execEyeScanGo l s := rfl
theorem exec_eyeScanPoint (l : Fin 40) (count : Nat) (s : State) : exec (.eyeScanPoint l count) s = execEyeScanPoint l count s := rfl
theorem exec_eyeScanAbort (l : Fin 40) (s : State) : exec (.eyeScanAbort l) s = execEyeScanAbort l s := rfl
theorem exec_eyeDataRead (f : Fin 6) (l : Fin 40) (s : State) : exec (.eyeDataRead f l) s = execEyeDataRead f l s := rfl
theorem exec_lanePatSnap (l : Fin 44) (words : List (BitVec 64)) (s : State) : exec (.lanePatSnap l words) s = execLanePatSnap l words s := rfl
theorem exec_lanePwrWrite (l : Fin 44) (v : Word) (s : State) : exec (.lanePwrWrite l v) s = execLanePwrWrite l v s := rfl
theorem exec_laneWakeBySignal (l : Fin 40) (s : State) : exec (.laneWakeBySignal l) s = execLaneWakeBySignal l s := rfl
theorem exec_laneHalfReady (l : Fin 44) (tx : Bool) (s : State) : exec (.laneHalfReady l tx) s = execLaneHalfReady l tx s := rfl
theorem exec_ethFrameReceive (m : Fin 24) (bytes : List Byte) (fcsOk codeErr : Bool) (raw : Nat) (s : State) : exec (.ethFrameReceive m bytes fcsOk codeErr raw) s = execEthFrameReceive m bytes fcsOk codeErr raw s := rfl
theorem exec_ethFrameTransmit (m : Fin 24) (raw : Nat) (met : Option Nat) (s : State) : exec (.ethFrameTransmit m raw met) s = execEthFrameTransmit m raw met s := rfl
theorem exec_pauseFrame (m : Fin 24) (quanta : BitVec 16) (s : State) : exec (.pauseFrame m quanta) s = execPauseFrame m quanta s := rfl
theorem exec_pfcFrame (m : Fin 24) (prio : List (Fin 8 × BitVec 16)) (s : State) : exec (.pfcFrame m prio) s = execPfcFrame m prio s := rfl
theorem exec_pauseTimerExpiry (m : Fin 24) (timer : Fin 9) (s : State) : exec (.pauseTimerExpiry m timer) s = execPauseTimerExpiry m timer s := rfl
theorem exec_pauseWatchdogTrip (m : Fin 24) (prio : Fin 8) (s : State) : exec (.pauseWatchdogTrip m prio) s = execPauseWatchdogTrip m prio s := rfl
theorem exec_pauseHoldoffEnd (m : Fin 24) (s : State) : exec (.pauseHoldoffEnd m) s = execPauseHoldoffEnd m s := rfl
theorem exec_glideProbe (m : Fin 24) (trn : BitVec 16) (s : State) : exec (.glideProbe m trn) s = execGlideProbe m trn s := rfl
theorem exec_glideProbeAck (m : Fin 24) (trn : BitVec 16) (s : State) : exec (.glideProbeAck m trn) s = execGlideProbeAck m trn s := rfl
theorem exec_glideReq (m : Fin 24) (trn : BitVec 16) (target : Byte) (s : State) : exec (.glideReq m trn target) s = execGlideReq m trn target s := rfl
theorem exec_glideAck (m : Fin 24) (trn : BitVec 16) (s : State) : exec (.glideAck m trn) s = execGlideAck m trn s := rfl
theorem exec_glideNak (m : Fin 24) (trn : BitVec 16) (s : State) : exec (.glideNak m trn) s = execGlideNak m trn s := rfl
theorem exec_glideProbeTimer (m : Fin 24) (s : State) : exec (.glideProbeTimer m) s = execGlideProbeTimer m s := rfl
theorem exec_glideReqTimer (m : Fin 24) (s : State) : exec (.glideReqTimer m) s = execGlideReqTimer m s := rfl
theorem exec_glideWindowEnd (m : Fin 24) (s : State) : exec (.glideWindowEnd m) s = execGlideWindowEnd m s := rfl
theorem exec_glideRateChange (m : Fin 24) (s : State) : exec (.glideRateChange m) s = execGlideRateChange m s := rfl
theorem exec_glideLinkUp (m : Fin 24) (us : Nat) (s : State) : exec (.glideLinkUp m us) s = execGlideLinkUp m us s := rfl
theorem exec_glideRetrainTimeout (m : Fin 24) (s : State) : exec (.glideRetrainTimeout m) s = execGlideRetrainTimeout m s := rfl
theorem exec_ethLinkUp (m : Fin 24) (s : State) : exec (.ethLinkUp m) s = execEthLinkUp m s := rfl
theorem exec_ethLinkDown (m : Fin 24) (cause : Fin 3) (s : State) : exec (.ethLinkDown m cause) s = execEthLinkDown m cause s := rfl
theorem exec_ethLinkDownSleep (m : Fin 24) (s : State) : exec (.ethLinkDownSleep m) s = execEthLinkDownSleep m s := rfl
theorem exec_ethCfg (p : Pkt) (s : State) : exec (.ethCfg p) s = execEthCfg p s := rfl
theorem exec_ethTags (p : Pkt) (s : State) : exec (.ethTags p) s = execEthTags p s := rfl
theorem exec_ethMchash (p : Pkt) (s : State) : exec (.ethMchash p) s = execEthMchash p s := rfl
theorem exec_ethPause (p : Pkt) (s : State) : exec (.ethPause p) s = execEthPause p s := rfl
theorem exec_ethGlide (p : Pkt) (s : State) : exec (.ethGlide p) s = execEthGlide p s := rfl
theorem exec_ethStatSnap (m : Fin 24) (s : State) : exec (.ethStatSnap m) s = execEthStatSnap m s := rfl
theorem exec_packetClassify (s : State) : exec (.packetClassify) s = execPacketClassify s := rfl
theorem exec_fragEntryExpiry (set : Fin 512) (way : Fin 4) (s : State) : exec (.fragEntryExpiry set way) s = execFragEntryExpiry set way s := rfl
theorem exec_clsRuleWrite (p : Pkt) (s : State) : exec (.clsRuleWrite p) s = execClsRuleWrite p s := rfl
theorem exec_clsRuleDelete (p : Pkt) (s : State) : exec (.clsRuleDelete p) s = execClsRuleDelete p s := rfl
theorem exec_clsFlowInsert (p : Pkt) (s : State) : exec (.clsFlowInsert p) s = execClsFlowInsert p s := rfl
theorem exec_clsFlowDelete (p : Pkt) (s : State) : exec (.clsFlowDelete p) s = execClsFlowDelete p s := rfl
theorem exec_clsCommit (p : Pkt) (s : State) : exec (.clsCommit p) s = execClsCommit p s := rfl
theorem exec_clsAbort (p : Pkt) (s : State) : exec (.clsAbort p) s = execClsAbort p s := rfl
theorem exec_clsFlowMask (p : Pkt) (s : State) : exec (.clsFlowMask p) s = execClsFlowMask p s := rfl
theorem exec_clsSrc (p : Pkt) (s : State) : exec (.clsSrc p) s = execClsSrc p s := rfl
theorem exec_clsCfg (p : Pkt) (s : State) : exec (.clsCfg p) s = execClsCfg p s := rfl
theorem exec_versionSweepStart (s : State) : exec (.versionSweepStart) s = execVersionSweepStart s := rfl
theorem exec_versionRetired (s : State) : exec (.versionRetired) s = execVersionRetired s := rfl
theorem exec_clsStatSnap (s : State) : exec (.clsStatSnap) s = execClsStatSnap s := rfl
theorem exec_learnGrant (s : State) : exec (.learnGrant) s = execLearnGrant s := rfl
theorem exec_refreshGrant (s : State) : exec (.refreshGrant) s = execRefreshGrant s := rfl
theorem exec_moveGrant (s : State) : exec (.moveGrant) s = execMoveGrant s := rfl
theorem exec_agingDeleteGrant (s : State) : exec (.agingDeleteGrant) s = execAgingDeleteGrant s := rfl
theorem exec_agingScanStep (s : State) : exec (.agingScanStep) s = execAgingScanStep s := rfl
theorem exec_fwdSearch (p : Pkt) (s : State) : exec (.fwdSearch p) s = execFwdSearch p s := rfl
theorem exec_fwdNext (p : Pkt) (s : State) : exec (.fwdNext p) s = execFwdNext p s := rfl
theorem exec_fwdInsert (p : Pkt) (s : State) : exec (.fwdInsert p) s = execFwdInsert p s := rfl
theorem exec_fwdDelete (p : Pkt) (s : State) : exec (.fwdDelete p) s = execFwdDelete p s := rfl
theorem exec_flushPort (p : Pkt) (s : State) : exec (.flushPort p) s = execFlushPort p s := rfl
theorem exec_flushComplete (s : State) : exec (.flushComplete) s = execFlushComplete s := rfl
theorem exec_floodSet (p : Pkt) (s : State) : exec (.floodSet p) s = execFloodSet p s := rfl
theorem exec_fwdCfg (p : Pkt) (s : State) : exec (.fwdCfg p) s = execFwdCfg p s := rfl
theorem exec_walkTimeout (w : Fin 4) (s : State) : exec (.walkTimeout w) s = execWalkTimeout w s := rfl
theorem exec_fwdStatSnap (s : State) : exec (.fwdStatSnap) s = execFwdStatSnap s := rfl
theorem exec_bufferAllocation (agent : Fin 10) (len : Nat) (s : State) : exec (.bufferAllocation agent len) s = execBufferAllocation agent len s := rfl
theorem exec_bufferHandover (id : BitVec 20) (agent : Fin 10) (inst : Byte) (dst : Fin 10) (s : State) : exec (.bufferHandover id agent inst dst) s = execBufferHandover id agent inst dst s := rfl
theorem exec_bufferFree (id : BitVec 20) (agent : Fin 10) (inst : Byte) (s : State) : exec (.bufferFree id agent inst) s = execBufferFree id agent inst s := rfl
theorem exec_cacheFetch (n : Fin 4) (lost : List Nat) (s : State) : exec (.cacheFetch n lost) s = execCacheFetch n lost s := rfl
theorem exec_cacheWriteOut (n : Fin 4) (s : State) : exec (.cacheWriteOut n) s = execCacheWriteOut n s := rfl
theorem exec_bufCarve (p : Pkt) (s : State) : exec (.bufCarve p) s = execBufCarve p s := rfl
theorem exec_bufPool (p : Pkt) (s : State) : exec (.bufPool p) s = execBufPool p s := rfl
theorem exec_hostDq (p : Pkt) (s : State) : exec (.hostDq p) s = execHostDq p s := rfl
theorem exec_hostHq (p : Pkt) (s : State) : exec (.hostHq p) s = execHostHq p s := rfl
theorem exec_dqTailWrite (f : Fin 6) (q : Fin 64) (v : BitVec 16) (s : State) : exec (.dqTailWrite f q v) s = execDqTailWrite f q v s := rfl
theorem exec_dqFrameClaim (q : Fin 64) (addrs : List (BitVec 64)) (bad : Option Nat) (s : State) : exec (.dqFrameClaim q addrs bad) s = execDqFrameClaim q addrs bad s := rfl
theorem exec_dqFrameCommit (q : Fin 64) (s : State) : exec (.dqFrameCommit q) s = execDqFrameCommit q s := rfl
theorem exec_dqHoldTimeout (q : Fin 64) (s : State) : exec (.dqHoldTimeout q) s = execDqHoldTimeout q s := rfl
theorem exec_dqPopRead (f : Fin 6) (q : Fin 64) (s : State) : exec (.dqPopRead f q) s = execDqPopRead f q s := rfl
theorem exec_funcPopRead (f : Fin 6) (s : State) : exec (.funcPopRead f) s = execFuncPopRead f s := rfl
theorem exec_hqTailWrite (f : Fin 6) (q : Fin 64) (v : BitVec 16) (s : State) : exec (.hqTailWrite f q v) s = execHqTailWrite f q v s := rfl
theorem exec_hqDescriptor (q : Fin 64) (desc : List Byte) (bytes : List Byte) (s : State) : exec (.hqDescriptor q desc bytes) s = execHqDescriptor q desc bytes s := rfl
theorem exec_hqFrameCommit (q : Fin 64) (raw : Nat) (s : State) : exec (.hqFrameCommit q raw) s = execHqFrameCommit q raw s := rfl
theorem exec_hostDmaError (h2d : Bool) (q : Fin 64) (code : Byte) (s : State) : exec (.hostDmaError h2d q code) s = execHostDmaError h2d q code s := rfl
theorem exec_bufStatSnap (s : State) : exec (.bufStatSnap) s = execBufStatSnap s := rfl
theorem exec_hostStatSnap (s : State) : exec (.hostStatSnap) s = execHostStatSnap s := rfl
theorem exec_enqueue (cyc : Nat) (s : State) : exec (.enqueue cyc) s = execEnqueue cyc s := rfl
theorem exec_dequeue (node1 : Fin 29) (cyc : Nat) (s : State) : exec (.dequeue node1 cyc) s = execDequeue node1 cyc s := rfl
theorem exec_recoveryAccountingEnd (s : State) : exec (.recoveryAccountingEnd) s = execRecoveryAccountingEnd s := rfl
theorem exec_schL1 (p : Pkt) (s : State) : exec (.schL1 p) s = execSchL1 p s := rfl
theorem exec_schL2 (p : Pkt) (s : State) : exec (.schL2 p) s = execSchL2 p s := rfl
theorem exec_schQueue (p : Pkt) (s : State) : exec (.schQueue p) s = execSchQueue p s := rfl
theorem exec_schQueueRead (p : Pkt) (s : State) : exec (.schQueueRead p) s = execSchQueueRead p s := rfl
theorem exec_schSample (p : Pkt) (s : State) : exec (.schSample p) s = execSchSample p s := rfl
theorem exec_lineCtxLoad (p : Pkt) (s : State) : exec (.lineCtxLoad p) s = execLineCtxLoad p s := rfl
theorem exec_lineCtxRead (p : Pkt) (s : State) : exec (.lineCtxRead p) s = execLineCtxRead p s := rfl
theorem exec_schStatSnap (s : State) : exec (.schStatSnap) s = execSchStatSnap s := rfl
theorem exec_timeSetIncrement (raw : Nat) (s : State) : exec (.timeSetIncrement raw) s = execTimeSetIncrement raw s := rfl
theorem exec_timeAdjust (raw : Nat) (s : State) : exec (.timeAdjust raw) s = execTimeAdjust raw s := rfl
theorem exec_timeSetTime (raw : Nat) (s : State) : exec (.timeSetTime raw) s = execTimeSetTime raw s := rfl
theorem exec_timeIncrementAdjust (raw : Nat) (s : State) : exec (.timeIncrementAdjust raw) s = execTimeIncrementAdjust raw s := rfl
theorem exec_timeRdRawLoRead (f : Fin 6) (raw : Nat) (s : State) : exec (.timeRdRawLoRead f raw) s = execTimeRdRawLoRead f raw s := rfl
theorem exec_capturePop (f : Fin 6) (s : State) : exec (.capturePop f) s = execCapturePop f s := rfl
theorem exec_launchEntrySend (m : Fin 24) (raw : Nat) (met : Option Nat) (s : State) : exec (.launchEntrySend m raw met) s = execLaunchEntrySend m raw met s := rfl
theorem exec_ppsOutPulse (raw : Nat) (s : State) : exec (.ppsOutPulse raw) s = execPpsOutPulse raw s := rfl
theorem exec_ppsInEdge (falling : Bool) (raw : Nat) (s : State) : exec (.ppsInEdge falling raw) s = execPpsInEdge falling raw s := rfl
theorem exec_ppsInLost (raw : Nat) (s : State) : exec (.ppsInLost raw) s = execPpsInLost raw s := rfl
theorem exec_todMessageSend (raw : Nat) (s : State) : exec (.todMessageSend raw) s = execTodMessageSend raw s := rfl
theorem exec_todRxByte (b : Byte) (s : State) : exec (.todRxByte b) s = execTodRxByte b s := rfl
theorem exec_todRxPop (f : Fin 6) (s : State) : exec (.todRxPop f) s = execTodRxPop f s := rfl
theorem exec_timeStatSnap (s : State) : exec (.timeStatSnap) s = execTimeStatSnap s := rfl
theorem exec_keyCommit (s : State) : exec (.keyCommit) s = execKeyCommit s := rfl
theorem exec_keyErase (s : State) : exec (.keyErase) s = execKeyErase s := rfl
theorem exec_ciphUnwrap (p : Pkt) (s : State) : exec (.ciphUnwrap p) s = execCiphUnwrap p s := rfl
theorem exec_ciphSlotRead (p : Pkt) (s : State) : exec (.ciphSlotRead p) s = execCiphSlotRead p s := rfl
theorem exec_ciphRq (p : Pkt) (s : State) : exec (.ciphRq p) s = execCiphRq p s := rfl
theorem exec_ciphRqTailWrite (v : BitVec 16) (s : State) : exec (.ciphRqTailWrite v) s = execCiphRqTailWrite v s := rfl
theorem exec_ctrEncrypt (desc : List Byte) (data : List Byte) (fail : Option Nat) (s : State) : exec (.ctrEncrypt desc data fail) s = execCtrEncrypt desc data fail s := rfl
theorem exec_ctrDecrypt (desc : List Byte) (data : List Byte) (fail : Option Nat) (s : State) : exec (.ctrDecrypt desc data fail) s = execCtrDecrypt desc data fail s := rfl
theorem exec_gcmEncrypt (desc : List Byte) (data : List Byte) (aad : List Byte) (fail : Option Nat) (s : State) : exec (.gcmEncrypt desc data aad fail) s = execGcmEncrypt desc data aad fail s := rfl
theorem exec_gcmDecrypt (desc : List Byte) (data : List Byte) (aad : List Byte) (tag : List Byte) (fail : Option Nat) (s : State) : exec (.gcmDecrypt desc data aad tag fail) s = execGcmDecrypt desc data aad tag fail s := rfl
theorem exec_cmacGenerate (desc : List Byte) (data : List Byte) (fail : Option Nat) (s : State) : exec (.cmacGenerate desc data fail) s = execCmacGenerate desc data fail s := rfl
theorem exec_cmacVerify (desc : List Byte) (data : List Byte) (tag : List Byte) (fail : Option Nat) (s : State) : exec (.cmacVerify desc data tag fail) s = execCmacVerify desc data tag fail s := rfl
theorem exec_entropyHealthFail (test : Byte) (s : State) : exec (.entropyHealthFail test) s = execEntropyHealthFail test s := rfl
theorem exec_ciphStatSnap (s : State) : exec (.ciphStatSnap) s = execCiphStatSnap s := rfl
theorem exec_scrubRead (m : Fin 8) (flip : BitVec 288) (otherGood : Bool) (kind : Byte) (s : State) : exec (.scrubRead m flip otherGood kind) s = execScrubRead m flip otherGood kind s := rfl
theorem exec_scrubPassLate (m : Fin 8) (s : State) : exec (.scrubPassLate m) s = execScrubPassLate m s := rfl
theorem exec_memRead (p : Pkt) (s : State) : exec (.memRead p) s = execMemRead p s := rfl
theorem exec_memWrite (p : Pkt) (s : State) : exec (.memWrite p) s = execMemWrite p s := rfl
theorem exec_memCfg (p : Pkt) (s : State) : exec (.memCfg p) s = execMemCfg p s := rfl
theorem exec_memInjectionArm (v : Word) (s : State) : exec (.memInjectionArm v) s = execMemInjectionArm v s := rfl
theorem exec_parityRewrite (word : BitVec 18) (s : State) : exec (.parityRewrite word) s = execParityRewrite word s := rfl
theorem exec_memStatSnap (s : State) : exec (.memStatSnap) s = execMemStatSnap s := rfl
theorem exec_pwrSetClear (p : Pkt) (s : State) : exec (.pwrSetClear p) s = execPwrSetClear p s := rfl
theorem exec_pwrSetHaze (p : Pkt) (s : State) : exec (.pwrSetHaze p) s = execPwrSetHaze p s := rfl
theorem exec_pwrSetOvercast (p : Pkt) (s : State) : exec (.pwrSetOvercast p) s = execPwrSetOvercast p s := rfl
theorem exec_pwrSetDark (p : Pkt) (s : State) : exec (.pwrSetDark p) s = execPwrSetDark p s := rfl
theorem exec_pwrCfg (p : Pkt) (s : State) : exec (.pwrCfg p) s = execPwrCfg p s := rfl
theorem exec_overcastPoolDrainEnd (s : State) : exec (.overcastPoolDrainEnd) s = execOvercastPoolDrainEnd s := rfl
theorem exec_pcieL2Entered (s : State) : exec (.pcieL2Entered) s = execPcieL2Entered s := rfl
theorem exec_darkL2Timeout (s : State) : exec (.darkL2Timeout) s = execDarkL2Timeout s := rfl
theorem exec_regulatorAck (pg : Bool) (s : State) : exec (.regulatorAck pg) s = execRegulatorAck pg s := rfl
theorem exec_regulatorAckTimeout (s : State) : exec (.regulatorAckTimeout) s = execRegulatorAckTimeout s := rfl
theorem exec_overcastExitPortWaitEnd (s : State) : exec (.overcastExitPortWaitEnd) s = execOvercastExitPortWaitEnd s := rfl
theorem exec_gpioWake (k : Fin 24) (s : State) : exec (.gpioWake k) s = execGpioWake k s := rfl
theorem exec_feedAlertRise (s : State) : exec (.feedAlertRise) s = execFeedAlertRise s := rfl
theorem exec_wakeTimerExpiry (s : State) : exec (.wakeTimerExpiry) s = execWakeTimerExpiry s := rfl
theorem exec_wakeStepReady (s : State) : exec (.wakeStepReady) s = execWakeStepReady s := rfl
theorem exec_wakeStepTimeout (s : State) : exec (.wakeStepTimeout) s = execWakeStepTimeout s := rfl
theorem exec_gradeEvaluation (feed : Option (BitVec 16)) (pouts : List (Option (BitVec 16))) (s : State) : exec (.gradeEvaluation feed pouts) s = execGradeEvaluation feed pouts s := rfl
theorem exec_sensorReading (k : Fin 8) (t : BitVec 16) (s : State) : exec (.sensorReading k t) s = execSensorReading k t s := rfl
theorem exec_feedAlertLow (s : State) : exec (.feedAlertLow) s = execFeedAlertLow s := rfl
theorem exec_pwrStatSnap (s : State) : exec (.pwrStatSnap) s = execPwrStatSnap s := rfl
theorem exec_cmdTailWrite (f : Fin 6) (v : Word) (s : State) : exec (.cmdTailWrite f v) s = execCmdTailWrite f v s := rfl
theorem exec_rplRdWrite (f : Fin 6) (v : Word) (s : State) : exec (.rplRdWrite f v) s = execRplRdWrite f v s := rfl
theorem exec_evtRdWrite (f : Fin 6) (v : Word) (s : State) : exec (.evtRdWrite f v) s = execEvtRdWrite f v s := rfl
theorem exec_ringCfgWrite (f : Fin 6) (v : Word) (s : State) : exec (.ringCfgWrite f v) s = execRingCfgWrite f v s := rfl
theorem exec_pad (p : Pkt) (s : State) : exec (.pad p) s = execPad p s := rfl
theorem exec_replyWrite (f : Fin 6) (s : State) : exec (.replyWrite f) s = execReplyWrite f s := rfl
theorem exec_commandTimeout (f : Fin 6) (id : Nat) (s : State) : exec (.commandTimeout f id) s = execCommandTimeout f id s := rfl
theorem exec_mgmtInfo (p : Pkt) (s : State) : exec (.mgmtInfo p) s = execMgmtInfo p s := rfl
theorem exec_cfgCommit (p : Pkt) (s : State) : exec (.cfgCommit p) s = execCfgCommit p s := rfl
theorem exec_journalRead (p : Pkt) (s : State) : exec (.journalRead p) s = execJournalRead p s := rfl
theorem exec_boardRead (p : Pkt) (s : State) : exec (.boardRead p) s = execBoardRead p s := rfl
theorem exec_cntClear (p : Pkt) (grp : Byte) (s : State) : exec (.cntClear p grp) s = execCntClear p grp s := rfl
theorem exec_functionLevelReset (f : Fin 6) (reqs : List (List Byte)) (s : State) : exec (.functionLevelReset f reqs) s = execFunctionLevelReset f reqs s := rfl
theorem exec_pcieHotReset (reqs : List (List Byte)) (s : State) : exec (.pcieHotReset reqs) s = execPcieHotReset reqs s := rfl
theorem exec_powerOnReset (ns : Nat) (s : State) : exec (.powerOnReset ns) s = execPowerOnReset ns s := rfl
theorem exec_startStepReady (info : StartInfo) (s : State) : exec (.startStepReady info) s = execStartStepReady info s := rfl
theorem exec_startStepTimeout (info : StartInfo) (s : State) : exec (.startStepTimeout info) s = execStartStepTimeout info s := rfl
theorem exec_bootRestart (f : Fin 6) (v : Word) (s : State) : exec (.bootRestart f v) s = execBootRestart f v s := rfl
theorem exec_qspiRead (f : Fin 6) (s : State) : exec (.qspiRead f) s = execQspiRead f s := rfl
theorem exec_qspiProgram (f : Fin 6) (s : State) : exec (.qspiProgram f) s = execQspiProgram f s := rfl
theorem exec_qspiErase (f : Fin 6) (s : State) : exec (.qspiErase f) s = execQspiErase f s := rfl
theorem exec_qspiOpDone (err : Bool) (s : State) : exec (.qspiOpDone err) s = execQspiOpDone err s := rfl
theorem exec_journalMirrorWrite (ok : Bool) (s : State) : exec (.journalMirrorWrite ok) s = execJournalMirrorWrite ok s := rfl
theorem exec_journalClear (f : Fin 6) (s : State) : exec (.journalClear f) s = execJournalClear f s := rfl
theorem exec_registerWrite (f : Fin 6) (off : BitVec 26) (v : Word) (be : BitVec 4) (s : State) : exec (.registerWrite f off v be) s = execRegisterWrite f off v be s := rfl
theorem exec_awareIntervalStart (c : Fin 4) (s : State) : exec (.awareIntervalStart c) s = execAwareIntervalStart c s := rfl
theorem exec_lowPowerIntervalStart (c : Fin 4) (s : State) : exec (.lowPowerIntervalStart c) s = execLowPowerIntervalStart c s := rfl
theorem exec_checkpointWriteDone (s : State) : exec (.checkpointWriteDone) s = execCheckpointWriteDone s := rfl
theorem exec_memoryZeroFillDone (e : Option (Fin 96)) (s : State) : exec (.memoryZeroFillDone e) s = execMemoryZeroFillDone e s := rfl
theorem exec_instructionMemoryReloaded (e : Fin 96) (s : State) : exec (.instructionMemoryReloaded e) s = execInstructionMemoryReloaded e s := rfl
theorem exec_vePllLock (s : State) : exec (.vePllLock) s = execVePllLock s := rfl
theorem exec_pcieLinkUp (s : State) : exec (.pcieLinkUp) s = execPcieLinkUp s := rfl
theorem exec_eventNoticeIntervalEnd (f : Fin 6) (s : State) : exec (.eventNoticeIntervalEnd f) s = execEventNoticeIntervalEnd f s := rfl
theorem exec_opticMonitoringRead (c : Fin 4) (s : State) : exec (.opticMonitoringRead c) s = execOpticMonitoringRead c s := rfl

end Sys2Proof.Machine
end

