-- ==== Sys2Proof/Laws/Memory.lean ====
section
/-! SUPPORT. Every operation over the memories keeps their canonical form (Mem.wf). That a DDR4 codeword reads as it was
written stands in Laws/State.lean. -/

namespace Sys2Proof.Machine

variable (s : State)

@[simp] theorem State.setMem_mem (m : Mem) : (s.setMem m).mem = m := (rfl)

/-- The canonical form, field by field. -/
theorem Mem.wf_iff (m : Mem) : m.wf = true ↔
    sparseWf (fun _ => 0) m.ddr = true ∧ sparseWf (fun _ => 0) m.ctlErr = true ∧ sparseWf (fun _ => 0) m.pbufErr = true ∧
      sparseWf (fun _ => 0) m.pos = true ∧ sparseWf (fun _ => 0) m.logA = true ∧ sparseWf (fun _ => 0) m.logB = true ∧
      sparseWf (fun _ => 0) m.ueTold = true ∧ sparseWf (fun _ => 0) m.symBase = true ∧
      sparseWf (fun _ => 0) m.passAt = true := by
  simp [Mem.wf, and_assoc]

theorem reset_mem_wf : State.reset.mem.wf = true := by decide

theorem State.foundCe_mem (m k : Nat) : (s.foundCe m k).mem = s.mem := by
  unfold State.foundCe; dsimp only; split <;> simp

theorem State.logUe_wf (m word finder : Nat) (h : s.mem.wf = true) : (s.logUe m word finder).mem.wf = true := by
  rw [Mem.wf_iff] at *
  obtain ⟨h1, h2, h3, h4, h5, h6, h7, h8⟩ := h
  unfold State.logUe; dsimp only
  split <;>
    simp only [State.raiseRow_mem, State.setFld_mem, State.setMem_mem] <;>
    exact ⟨h1, h2, h3, h4, sparseWf_sparseSet _ _ _ _ h5, sparseWf_sparseSet _ _ _ _ h6,
      sparseWf_sparseSet _ _ _ _ h7, h8⟩

theorem State.foundUe_wf (m word finder : Nat) (h : s.mem.wf = true) : (s.foundUe m word finder).mem.wf = true :=
  State.logUe_wf _ _ _ _ (by simpa using h)

theorem State.setDdr_wf (i : Nat) (w : Codeword) (h : s.mem.wf = true) : (s.setDdr i w).mem.wf = true := by
  rw [Mem.wf_iff] at *
  exact ⟨sparseWf_sparseSet _ _ _ _ h.1, h.2⟩

theorem State.inject_mem (m : Nat) (w : Codeword) : (s.inject m w).1.mem = s.mem := by
  unfold State.inject
  split
  · rw [State.setFld_mem]
  · rfl

theorem State.writeDdr_wf (i : Nat) (w : Codeword) (h : s.mem.wf = true) : (s.writeDdr i w).mem.wf = true := by
  unfold State.writeDdr
  split
  · exact State.setDdr_wf _ _ _ (by simpa using State.setDdr_wf s i w h)
  · exact State.setDdr_wf s i w h

theorem State.readDdr_wf (i finder : Nat) (h : s.mem.wf = true) : (s.readDdr i finder).1.mem.wf = true := by
  unfold State.readDdr
  split
  · exact h
  · rw [State.foundCe_mem]; exact h
  · exact State.foundUe_wf _ _ _ _ h

theorem State.readWords_wf (n : Nat) : ∀ (s : State) (i : Nat), s.mem.wf = true → (s.readWords i n).1.mem.wf = true := by
  induction n with
  | zero => intro s i h; exact h
  | succ n ih =>
    intro s i h
    have hr := State.readDdr_wf s i 1 h
    unfold State.readWords
    split <;> rename_i e <;> rw [e] at hr
    · exact hr
    · have := ih _ (i + 1) hr
      split <;> rename_i e' <;> rw [e'] at this <;> exact this

theorem State.ddrRead_wf (addr n : Nat) (h : s.mem.wf = true) : (s.ddrRead addr n).1.mem.wf = true := by
  have := State.readWords_wf (ceilDiv (addr % 32 + n) 32) s (addr / 32) h
  unfold State.ddrRead; dsimp only
  split <;> rename_i e <;> rw [e] at this <;> exact this

theorem State.ddrWriteF_wf (fuel : Nat) : ∀ (s : State) (addr : Nat) (bs : List Byte), s.mem.wf = true →
    (s.ddrWriteF fuel addr bs).1.mem.wf = true := by
  induction fuel with
  | zero => intro s addr bs h; exact h
  | succ fuel ih =>
    intro s addr bs h
    unfold State.ddrWriteF
    split
    · exact h
    · dsimp only
      split
      · exact ih _ _ _ (State.writeDdr_wf _ _ _ h)
      · have hr := State.readDdr_wf s (addr / 32) 2 h
        split <;> rename_i e <;> rw [e] at hr
        · exact hr
        · exact ih _ _ _ (State.writeDdr_wf _ _ _ hr)

/-- Writing DDR4 keeps the canonical form. -/
theorem State.ddrWrite_wf (addr : Nat) (bs : List Byte) (h : s.mem.wf = true) :
    (s.ddrWrite addr bs).1.mem.wf = true := State.ddrWriteF_wf _ _ _ _ h

theorem State.storeFrame_wf (id len : Nat) (h : s.mem.wf = true) : (s.storeFrame id len).mem.wf = true := by
  unfold State.storeFrame; dsimp only
  generalize hu : State.setMem s _ = u
  have hf : u.mem.wf = true := by
    rw [← hu, State.setMem_mem]
    rw [Mem.wf_iff] at *
    exact ⟨h.1, h.2.1, sparseWf_filter _ _ _ h.2.2.1, h.2.2.2⟩
  have hi : (u.inject 2 0).1.mem = u.mem := State.inject_mem u 2 0
  split
  · exact hf
  · rw [← hi] at hf
    rw [Mem.wf_iff] at *
    exact ⟨hf.1, hf.2.1, sparseWf_sparseSet _ _ _ _ hf.2.2.1, hf.2.2.2⟩

theorem State.meetWords_wf (base : Nat) (es : List (Nat × Codeword)) : ∀ s : State, s.mem.wf = true →
    (s.meetWords base es).1.mem.wf = true := by
  induction es with
  | nil => intro s h; exact h
  | cons e es ih =>
    intro s h
    obtain ⟨i, e⟩ := e
    unfold State.meetWords
    split
    · exact ih _ h
    · exact ih _ (by rw [State.foundCe_mem]; exact h)
    · exact State.foundUe_wf _ _ _ _ h

theorem State.readFrame_wf (id len : Nat) (met : Option Nat) (h : s.mem.wf = true) :
    (s.readFrame id len met).1.mem.wf = true := by
  have := State.meetWords_wf (s.bufWord id) (s.frameErrs id len) s h
  unfold State.readFrame
  split <;> rename_i e <;> rw [e] at this
  · exact this
  · split
    · exact this
    · exact State.foundUe_wf _ _ _ _ this

theorem State.wroteTable_wf (kind idx : Nat) (h : s.mem.wf = true) : (s.wroteTable kind idx).mem.wf = true := by
  rw [Mem.wf_iff] at *
  unfold State.wroteTable; dsimp only
  split
  · rw [State.setMem_mem, State.setFld_mem]; exact h
  · rw [State.setMem_mem]; exact h

theorem State.meetParity_wf (kind idx finder : Nat) (h : s.mem.wf = true) :
    (s.meetParity kind idx finder).mem.wf = true := State.foundUe_wf _ _ _ _ h

theorem State.beginPass_wf (m : Nat) (h : s.mem.wf = true) : (s.beginPass m).mem.wf = true := by
  rw [Mem.wf_iff] at *
  unfold State.beginPass
  rw [State.setMem_mem]
  obtain ⟨h1, h2, h3, h4, h5, h6, h7, h8, h9⟩ := h
  dsimp only; exact ⟨h1, h2, h3, sparseWf_sparseSet _ _ m 0 h4, h5, h6, h7, h8, sparseWf_sparseSet _ _ m s.tick.count.toNat h9⟩

theorem State.scrubNext_wf (m : Nat) (h : s.mem.wf = true) : (s.scrubNext m).mem.wf = true := by
  unfold State.scrubNext; dsimp only
  split
  · rw [State.bump_mem]; exact State.beginPass_wf s m h
  · rw [State.setMem_mem]
    rw [Mem.wf_iff] at *
    dsimp only
    exact ⟨h.1, h.2.1, h.2.2.1, sparseWf_sparseSet _ _ m _ h.2.2.2.1, h.2.2.2.2⟩

theorem State.putScrubWord_wf (m i : Nat) (w : Codeword) (h : s.mem.wf = true) :
    (s.putScrubWord m i w).mem.wf = true := by
  have hc := h
  rw [Mem.wf_iff] at hc
  unfold State.putScrubWord
  split
  · exact State.setDdr_wf _ _ _ h
  · rw [Mem.wf_iff]; exact ⟨hc.1, sparseWf_sparseSet _ _ _ _ hc.2.1, hc.2.2⟩
  · rw [Mem.wf_iff]; exact ⟨hc.1, hc.2.1, sparseWf_sparseSet _ _ _ _ hc.2.2.1, hc.2.2.2⟩
  all_goals exact h

theorem State.rewriteControl_wf (i : Nat) (h : s.mem.wf = true) : (s.rewriteControl i).mem.wf = true := by
  have hi := State.inject_mem s 1 0
  unfold State.rewriteControl
  split
  rename_i u w e
  rw [e] at hi
  exact State.putScrubWord_wf u 1 i w (by rw [hi]; exact h)

end Sys2Proof.Machine
end

