-- ==== Sys2Proof/WellFormed.lean ====
section
/-! DEFINITION. The bounds on a command's operands that their types do not give (log 1): an operand outside them stands for
nothing that can reach the device. -/

namespace Sys2Proof.Machine

/-- A packet's LENGTH is 16 bits wide (Table 20-3). -/
def Pkt.wf (p : Pkt) : Bool := decide (p.payload.length < 65536)

/-- A PSync has 64 bits (R77); the PON standards give its SFC structure a 51-bit counter and the structure after it 64 bits
(PRESUMED, log 1). -/
def PSync.wf (p : PSync) : Bool := decide (p.diff ≤ 64 ∧ p.sfc < 2 ^ 51 ∧ p.psbd < 2 ^ 64)

/-- The samples of one PON_RX cycle (R68). -/
def EqCycle.wf (c : EqCycle) : Bool := decide (c.err.length = 64 ∧ c.x.length = 94 ∧ c.dec.length = 64)

/-- A PLOAM message has 48 bytes (R117: a record of 64 with a header of 16); the standards give an ONU-ID 10 bits and a
superframe counter 51 (PRESUMED, log 1). -/
def Ploam.wf (m : Ploam) : Bool :=
  decide ((m.bad = true → m.partBad = true) ∧ m.raw.length = 48 ∧ (∀ o ∈ m.onu, o < 1024) ∧ m.sfc < 2 ^ 51)

/-- An upstream rate is above 0. -/
def Profile.wf (p : Profile) : Bool := decide (0 < p.rateKbps)

/-- The standards give an Alloc-ID 14 bits and a burst profile index 2 (PRESUMED, log 1). -/
def Grant.wf (g : Grant) : Bool := decide (g.alloc < 2 ^ 14 ∧ g.profile < 4)

/-- The standards give an XGEM port-ID 16 bits (PRESUMED, log 1). -/
def Xgem.wf (x : Xgem) : Bool := decide (x.port < 2 ^ 16)

/-- The board table names four channels, 24 MACs, four inputs and two 16-bit subsystem IDs (Table 21-5). -/
def Board.wf (b : Board) : Bool := decide (b.chans < 2 ^ 4 ∧ b.macs < 2 ^ 24 ∧ b.pref < 4 ∧ b.subsys.1 < 2 ^ 16 ∧ b.subsys.2 < 2 ^ 16)

/-- A start step names engines and channels that exist. -/
def StartInfo.wf (i : StartInfo) : Bool := i.board.wf && decide ((∀ e ∈ i.engines, e < 96) ∧ i.optics < 2 ^ 4)

end Sys2Proof.Machine

namespace Sys2Proof

open Machine

/-- A command's operands are ones that can reach the device. -/
def Instr.wf (i : Instr) : Bool :=
  match i with
  | .tickMaster p => p.wf
  | .tickRealign p => p.wf
  | .tickCfg p => p.wf
  | .timeCfg p => p.wf
  | .losAssert _ _ _ cycles => cycles.all EqCycle.wf
  | .eqAcquisitionEnd _ cycles => cycles.all EqCycle.wf
  | .eqSnap _ cycles _ => cycles.all EqCycle.wf
  | .psyncMatch _ _ p => p.wf
  | .candidateCheck _ _ p _ => p.wf
  | .psyncCheck _ p _ => p.wf
  | .burstProfile m p => m.wf && p.wf
  | .assignOnuId m _ _ => m.wf
  | .rangingTime m _ _ => m.wf
  | .deactivateOnuId m => m.wf
  | .disableSerialNumber m _ => m.wf
  | .enableSerialNumber m _ => m.wf
  | .requestRegistration m => m.wf
  | .assignAllocId m _ _ => m.wf
  | .keyControl m _ _ => m.wf
  | .sleepAllow m _ => m.wf
  | .ploamUnsupported m _ => m.wf
  | .xgemFrame _ x _ => x.wf
  | .ponCfg p => p.wf
  | .ponRegId p => p.wf
  | .ponMsk p => p.wf
  | .ponPortAdd p => p.wf
  | .ponPortRemove p => p.wf
  | .ponLullPolicy p => p.wf
  | .ponQueues p => p.wf
  | .bwmap _ grants _ _ => grants.all Grant.wf
  | .allocCtxLoad p => p.wf
  | .allocCtxRead p => p.wf
  | .bondCtxLoad p => p.wf
  | .bondCtxRead p => p.wf
  | .bondMeClass p => p.wf
  | .bondQueue p => p.wf
  | .engCtlStart p => p.wf
  | .engCtlStop p => p.wf
  | .engCtlReset p _ => p.wf
  | .engCtlRetire p => p.wf
  | .engCtlRejoin p => p.wf
  | .slabMode p => p.wf
  | .slabWrite p => p.wf
  | .slabRead p => p.wf
  | .kernelLoad p => p.wf
  | .kernelFree p => p.wf
  | .engLoad p => p.wf
  | .engSpare p => p.wf
  | .engRetireCfg p => p.wf
  | .vgDefine p => p.wf
  | .vgLadder p => p.wf
  | .vgStart p => p.wf
  | .vgStop p => p.wf
  | .vgParam p => p.wf
  | .vgFenceWords p => p.wf
  | .vgFenceAbort p => p.wf
  | .vgFenceCommit p => p.wf
  | .vgTgRelease p => p.wf
  | .vgUndefine p => p.wf
  | .vgThaw p => p.wf
  | .vsCutoff p => p.wf
  | .svlPort p => p.wf
  | .laneEq p => p.wf
  | .laneTest p => p.wf
  | .laneSleep p => p.wf
  | .laneEye p => p.wf
  | .laneEyeRead p => p.wf
  | .ethCfg p => p.wf
  | .ethTags p => p.wf
  | .ethMchash p => p.wf
  | .ethPause p => p.wf
  | .ethGlide p => p.wf
  | .clsRuleWrite p => p.wf
  | .clsRuleDelete p => p.wf
  | .clsFlowInsert p => p.wf
  | .clsFlowDelete p => p.wf
  | .clsCommit p => p.wf
  | .clsAbort p => p.wf
  | .clsFlowMask p => p.wf
  | .clsSrc p => p.wf
  | .clsCfg p => p.wf
  | .fwdSearch p => p.wf
  | .fwdNext p => p.wf
  | .fwdInsert p => p.wf
  | .fwdDelete p => p.wf
  | .flushPort p => p.wf
  | .floodSet p => p.wf
  | .fwdCfg p => p.wf
  | .bufCarve p => p.wf
  | .bufPool p => p.wf
  | .hostDq p => p.wf
  | .hostHq p => p.wf
  | .hqDescriptor _ desc _ => decide (desc.length = 32)
  | .schL1 p => p.wf
  | .schL2 p => p.wf
  | .schQueue p => p.wf
  | .schQueueRead p => p.wf
  | .schSample p => p.wf
  | .lineCtxLoad p => p.wf
  | .lineCtxRead p => p.wf
  | .ciphUnwrap p => p.wf
  | .ciphSlotRead p => p.wf
  | .ciphRq p => p.wf
  | .ctrEncrypt desc _ _ => decide (desc.length = 64)
  | .ctrDecrypt desc _ _ => decide (desc.length = 64)
  | .gcmEncrypt desc _ _ _ => decide (desc.length = 64)
  | .gcmDecrypt desc _ _ tag _ => decide (desc.length = 64) && decide (tag.length = 16)
  | .cmacGenerate desc _ _ => decide (desc.length = 64)
  | .cmacVerify desc _ tag _ => decide (desc.length = 64) && decide (tag.length = 16)
  | .memRead p => p.wf
  | .memWrite p => p.wf
  | .memCfg p => p.wf
  | .pwrSetClear p => p.wf
  | .pwrSetHaze p => p.wf
  | .pwrSetOvercast p => p.wf
  | .pwrSetDark p => p.wf
  | .pwrCfg p => p.wf
  | .gradeEvaluation _ pouts => decide (pouts.length ≤ 12)
  | .pad p => p.wf
  | .mgmtInfo p => p.wf
  | .cfgCommit p => p.wf
  | .journalRead p => p.wf
  | .boardRead p => p.wf
  | .cntClear p _ => p.wf
  | .functionLevelReset _ reqs => reqs.all (fun d => decide (d.length = 64))
  | .pcieHotReset reqs => reqs.all (fun d => decide (d.length = 64))
  | .startStepReady info => info.wf
  | .startStepTimeout info => info.wf
  | .eventGrant _ | .eventRingWrite _ | .tickEdge | .ponFrameBoundary | .vectorCycleBoundary _ | .superframeBoundary
  | .holdoverLong | .tickOffsetWrite _ | .tickCountLoRead _ | .ponRxEnable _ | .ponRxDisable _ _ | .losClear _ _
  | .cdrLock _ | .eqReset _ | .eqDivergenceReset _ _ _ | .eqTapWrite _ _ _ | .fecCodeword _ _ _ | .fecEsInterval _
  | .ponStatSnap _ | .ponStatIntervalCopy _ | .watchfulRxWake _ | .counterLoRead _ _ | .ponSfcLoRead _ _ | .to1Expiry _
  | .to2Expiry _ | .snResponseSend _ _ | .rangingResponseSend _ | .actHoldClear _ | .forcedWakeup _ | .txPowerUp _
  | .burstBuild _ _ _ _ _ | .burstTransmit _ _ | .bondTaggedFrame | .reseqHoldTimeout _ _ | .bondStatusReceive
  | .bondStatSnap | .bondStatIntervalCopy | .veCmdStart _ | .veCmdStop _ | .veCmdReset _ | .slabCtlOff _
  | .slabCtlRetain _ | .slabCtlOn _ | .slabZeroFillDone _ | .slabWakeScrubDone _ | .slabReloadDone _
  | .slabIndirectRead _ _ | .slabIndirectWrite _ _ | .slabCopyDone | .dmaTileWrite _ _ _ | .dmaTileRead _ _ _
  | .veDoorbellRing _ | .apertureAccess _ _ _ _ | .nop _ | .opAdd _ | .opSub _ | .opAnd _ | .opOr _ | .opXor _ | .shl _
  | .shr _ | .sra _ | .opMin _ | .opMax _ | .mul _ | .clz _ | .cmpeq _ | .cmplt _ | .cmpltu _ | .addi _ | .andi _
  | .ori _ | .xori _ | .shli _ | .shri _ | .srai _ | .opLi _ | .lui _ | .dstep _ | .ldp _ | .stp _ | .agw _ | .agr _
  | .mfs _ | .mts _ | .beq _ | .bne _ | .blt _ | .bge _ | .br _ | .bri _ | .call _ | .opRep _ | .opLoop _ | .waitt _
  | .sdone _ | .sdoneComplete _ | .reti _ | .vnop _ | .vmac _ | .vmacs _ | .vcorr _ | .vlde _ | .vcupd _ | .vsnap _
  | .vclr _ | .acc _ _ | .accAdv _ _ | .accT _ _ | .acc0 _ _ | .adv _ _ | .tstep _ _ | .rst _ _ | .interruptEntry _ _
  | .vgParamDone | .fenceDrainWord _ | .portCutoff _ | .tilePairReceive _ _ _ | .streamStart _ _ _ | .fbStart _ _ _
  | .lineStatus _ _ _ | .laneMarker _ _ _ _ | .idle _ _ _ | .deskewTimeout _ | .bypassFlagsSend _ | .laneMarkerSend _
  | .laneSignalDetect _ | .laneSignalLost _ | .laneCdrLock _ | .laneCdrTimeout _ | .laneBlockLock _ _
  | .laneHeaderSlip _ _ | .lanePolarityDecided _ _ | .laneLockTimeout _ _ | .laneHeaderWindowFail _ _
  | .svlPortEnable _ _ | .svlPortDisable _ _ | .svlStatSnap _ | .laneTxfirWrite _ _ _ | .laneLoopWrite _ _
  | .patternGenEnable _ _ | .checkerEnable _ | .patternLock _ _ | .patternLockLoss _ _ | .injectionGo _
  | .laneInjection _ _ | .eyeScanGo _ | .eyeScanPoint _ _ | .eyeScanAbort _ | .eyeDataRead _ _ | .lanePatSnap _ _
  | .lanePwrWrite _ _ | .laneWakeBySignal _ | .laneHalfReady _ _ | .ethFrameReceive _ _ _ _ _ | .ethFrameTransmit _ _ _
  | .pauseFrame _ _ | .pfcFrame _ _ | .pauseTimerExpiry _ _ | .pauseWatchdogTrip _ _ | .pauseHoldoffEnd _
  | .glideProbe _ _ | .glideProbeAck _ _ | .glideReq _ _ _ | .glideAck _ _ | .glideNak _ _ | .glideProbeTimer _
  | .glideReqTimer _ | .glideWindowEnd _ | .glideRateChange _ | .glideLinkUp _ _ | .glideRetrainTimeout _ | .ethLinkUp _
  | .ethLinkDown _ _ | .ethLinkDownSleep _ | .ethStatSnap _ | .packetClassify | .fragEntryExpiry _ _
  | .versionSweepStart | .versionRetired | .clsStatSnap | .learnGrant | .refreshGrant | .moveGrant | .agingDeleteGrant
  | .agingScanStep | .flushComplete | .walkTimeout _ | .fwdStatSnap | .bufferAllocation _ _ | .bufferHandover _ _ _ _
  | .bufferFree _ _ _ | .cacheFetch _ _ | .cacheWriteOut _ | .dqTailWrite _ _ _ | .dqFrameClaim _ _ _ | .dqFrameCommit _
  | .dqHoldTimeout _ | .dqPopRead _ _ | .funcPopRead _ | .hqTailWrite _ _ _ | .hqFrameCommit _ _ | .hostDmaError _ _ _
  | .bufStatSnap | .hostStatSnap | .enqueue _ | .dequeue _ _ | .recoveryAccountingEnd | .schStatSnap
  | .timeSetIncrement _ | .timeAdjust _ | .timeSetTime _ | .timeIncrementAdjust _ | .timeRdRawLoRead _ _ | .capturePop _
  | .launchEntrySend _ _ _ | .ppsOutPulse _ | .ppsInEdge _ _ | .ppsInLost _ | .todMessageSend _ | .todRxByte _
  | .todRxPop _ | .timeStatSnap | .keyCommit | .keyErase | .ciphRqTailWrite _ | .entropyHealthFail _ | .ciphStatSnap
  | .scrubRead _ _ _ _ | .scrubPassLate _ | .memInjectionArm _ | .parityRewrite _ | .memStatSnap | .overcastPoolDrainEnd
  | .pcieL2Entered | .darkL2Timeout | .regulatorAck _ | .regulatorAckTimeout | .overcastExitPortWaitEnd | .gpioWake _
  | .feedAlertRise | .wakeTimerExpiry | .wakeStepReady | .wakeStepTimeout | .sensorReading _ _ | .feedAlertLow
  | .pwrStatSnap | .cmdTailWrite _ _ | .rplRdWrite _ _ | .evtRdWrite _ _ | .ringCfgWrite _ _ | .replyWrite _
  | .commandTimeout _ _ | .powerOnReset _ | .bootRestart _ _ | .qspiRead _ | .qspiProgram _ | .qspiErase _
  | .qspiOpDone _ | .journalMirrorWrite _ | .journalClear _ | .registerWrite _ _ _ _ | .awareIntervalStart _
  | .lowPowerIntervalStart _ | .checkpointWriteDone | .memoryZeroFillDone _ | .instructionMemoryReloaded _ | .vePllLock
  | .pcieLinkUp | .eventNoticeIntervalEnd _ | .opticMonitoringRead _ => true

end Sys2Proof
end

