-- ==== Sys2Proof/Tests/Slice0.lean ====
section
/-! SUPPORT. Tests: an ill-formed term for each check of WellFormed.lean, the worked examples of the spec, a few words and
published vectors, and for every statement with hypotheses a state and operands that meet them together, clause by clause
(the theorems wit_...; one named after a statement holds the witnesses of its clauses in order). -/

open Sys2Proof Sys2Proof.Machine

section

set_option Elab.async false
set_option linter.unusedVariables false

namespace Sys2Proof.Tests

/-- A device in normal operation, everything else at reset. -/
def base : State := { State.reset with boot := { State.reset.boot with mode := 1 } }

/-- base, with the command ring of a function enabled and 128 units posted. -/
def ready (f : Nat) : State :=
  { base with regs := [(R.HOST_RING_CFG f, 0x8739b000), (R.HOST_CMD_TAIL f, 128)] }

/-- A packet of a function: VERSION 1, REPLY_ALWAYS 1. -/
def pk (f : Fin 6) (target : Word) (payload : List Word) : Pkt := ⟨f, 1, 1, 7, target, 9, payload⟩

/-- A state with its DDR4 channel ready. -/
def ddr (s : State) : State := { s with mem := { s.mem with trained := true, selfRefresh := false, gib := 32 } }

/-- A state in which engine e is RUNNING, otherwise as x, with the instruction w at its VE_PC. -/
def running (e w : Nat) (x : Eng) : State :=
  { base with vec := { base.vec with
      engs := [(e, { x with st := .running, imem := [(x.pc / 4, encodeWord (w <<< (64 * (x.pc % 4))))] })] } }

/-- An instruction's words: scalar opcode and operands, vector opcode, operations of the generators C, X, Y. -/
def instr (sop opnd : Nat) (vop : Nat := 0) (c : Nat := 0) (x : Nat := 0) (y : Nat := 0) : Nat :=
  sop * 2 ^ 58 + vop * 2 ^ 52 + c * 2 ^ 46 + x * 2 ^ 40 + y * 2 ^ 34 + opnd

/-- Scalar operands of the REG form. -/
def regs3 (rd ra rb : Nat) : Nat := rd * 2 ^ 30 + ra * 2 ^ 26 + rb * 2 ^ 22

/-- Scalar operands of the IMM form. -/
def regsI (rd ra imm : Nat) : Nat := rd * 2 ^ 30 + ra * 2 ^ 26 + imm

/-! The checks of WellFormed.lean each refuse a term. -/

/-- A PLOAM message of 48 bytes. -/
def ploam : Ploam :=
  ⟨0, some 5, 1, false, false, false, List.replicate 48 0, 0⟩

/-- A start step that meets nothing. -/
def startInfo : StartInfo := ⟨0, true, 0, {}, [], 0⟩

theorem test_wf_packet : (pk 0 0 (List.replicate 3 0)).wf = true ∧ (pk 0 0 (List.replicate 65536 0)).wf = false := by
  constructor
  · decide
  · unfold Pkt.wf pk; simp only [List.length_replicate]; decide

theorem test_wf_psync : (⟨0, 0, 0, 5, true, true, 0⟩ : PSync).wf = true ∧
    (⟨0, 0, 65, 0, true, true, 0⟩ : PSync).wf = false ∧ (⟨0, 0, 0, 2 ^ 51, true, true, 0⟩ : PSync).wf = false ∧
    (⟨0, 0, 0, 0, true, true, 2 ^ 64⟩ : PSync).wf = false := by decide +kernel

theorem test_wf_eqCycle :
    (⟨List.replicate 64 0, List.replicate 94 0, List.replicate 64 0⟩ : EqCycle).wf = true ∧
    (⟨[], List.replicate 94 0, List.replicate 64 0⟩ : EqCycle).wf = false ∧
    (⟨List.replicate 64 0, [], List.replicate 64 0⟩ : EqCycle).wf = false ∧
    (⟨List.replicate 64 0, List.replicate 94 0, []⟩ : EqCycle).wf = false := by decide +kernel

theorem test_wf_ploam : ploam.wf = true ∧ { ploam with raw := [] }.wf = false ∧ { ploam with onu := some 1024 }.wf = false ∧
    { ploam with sfc := 2 ^ 51 }.wf = false := by decide +kernel

theorem test_wf_profile : (⟨0, 1, 0, true⟩ : Profile).wf = true ∧ (⟨0, 0, 0, true⟩ : Profile).wf = false := by
  decide +kernel

theorem test_wf_grant : (⟨0, 16383, 0, 0, 3, false, false, false⟩ : Grant).wf = true ∧
    (⟨0, 16384, 0, 0, 3, false, false, false⟩ : Grant).wf = false ∧
    (⟨0, 16383, 0, 0, 4, false, false, false⟩ : Grant).wf = false := by decide +kernel

theorem test_wf_xgem : (⟨true, false, 65535, 0, false, true, false, 0, []⟩ : Xgem).wf = true ∧
    (⟨true, false, 65536, 0, false, true, false, 0, []⟩ : Xgem).wf = false := by decide +kernel

theorem test_wf_board : ({} : Board).wf = true ∧ { ({} : Board) with chans := 16 }.wf = false ∧
    { ({} : Board) with macs := 2 ^ 24 }.wf = false ∧ { ({} : Board) with pref := 4 }.wf = false := by decide +kernel

theorem test_wf_startInfo : startInfo.wf = true ∧ { startInfo with engines := [96] }.wf = false ∧
    { startInfo with optics := 16 }.wf = false ∧
    { startInfo with board := { ({} : Board) with pref := 4 } }.wf = false := by decide +kernel

/-- The lengths of descriptors, tags, request lists and readings, and a check reached through a command. -/
theorem test_wf_commands : (Instr.hqDescriptor 0 [] []).wf = false ∧ (Instr.ctrEncrypt [] [] none).wf = false ∧
    (Instr.cmacVerify (List.replicate 64 0) [] [] none).wf = false ∧ (Instr.pcieHotReset [[]]).wf = false ∧
    (Instr.gradeEvaluation none (List.replicate 13 none)).wf = false ∧
    (Instr.psyncCheck 0 ⟨0, 0, 65, 0, true, true, 0⟩ false).wf = false := by decide +kernel

/-! The spec's worked examples. -/

/-- Chapter 18, "one error, then two": D1 = 0x3A00 with bit 8 flipped is corrected at symbol 1. -/
theorem test_ashlar_one_error :
    decodeWord (encodeWord (0x3A00 * 2 ^ 16) ^^^ BitVec.ofNat 288 (0x0100 * 2 ^ 16)) =
      .corrected 1 (encodeWord (0x3A00 * 2 ^ 16)) := by decide +kernel

/-- The same flip in D0 and D1: S0 = 0 and S1 = 0x0300, uncorrectable in both modes. -/
theorem test_ashlar_two_errors :
    let w := encodeWord (0x3A00 * 2 ^ 16) ^^^ BitVec.ofNat 288 (0x0100 * 2 ^ 16 + 0x0100)
    syn0 w = 0 ∧ syn1 w = 0x0300 ∧ decodeWord w = .bad ∧ cleanWord w = false := by decide +kernel

/-- n DSTEPs on a remainder and a quotient. -/
def divide (d : Word) : Nat → Word × Word → Word × Word
  | 0, x => x
  | n + 1, x => divide d n (dstep x.1 d x.2 false)

/-- Chapter 7: n = 37,500 and d = 59,568; step 1 leaves 15,432, step 2 leaves -28,704, step 16 the quotient 0xA129. -/
theorem test_dstep_example : divide 59568 1 (37500, 0) = (15432, 1) ∧ divide 59568 2 (37500, 0) = (-28704, 2) ∧
    (divide 59568 16 (37500, 0)).2 = 0xA129 := by decide +kernel

/-- A line context bound to level-2 node 41, FRACTION 243, MIN_KBPS 1,000. -/
def line17 (ndr : Nat) : Option Nat :=
  let s := { base with sched := { base.sched with
    lines := [(17, ({ host := leBytes 2 41 ++ leBytes 2 243 ++ leBytes 4 1000 ++ [1] } : LineCtx))], node2 := [(41, ({ line := some 17 } : Node2))] } }
  some ((s.deliverLine 17 ndr 2).lineCtx 17).rate

/-- Chapter 15, "a line that loses half its rate". -/
theorem test_line_rate : line17 800000 = some 759375 ∧ line17 400000 = some 379687 := by decide +kernel

/-- Chapter 16, "a frequency correction": OFFSET falls by 2^36 * 28,148 units. -/
theorem test_time_increment :
    (({ inc := 1407374883553, offset := 5 * 2 ^ 50 } : TimeBase).reInc (2 ^ 36) 1407374911701 : Nat) =
      5 * 2 ^ 50 - 2 ^ 36 * 28148 := by decide +kernel

/-- Chapter 22, "one register seen from three functions": PF0's HOST_ACC_ERR reads 0x4940_0604 after its write of VE_IDLE
of engine 37. -/
theorem test_acc_err_view :
    (match execRegisterWrite 0 0x01250018 0 0xF base with
      | .next t => some ((t.fn 0).accErrOffset * 256 + (t.rd (R.HOST_ACC_ERR 0)).toNat)
      | _ => none) = some 0x49400604 := by decide +kernel

/-- Chapter 20, "stopping a vector group": the reply of the accepted VG_STOP. -/
theorem test_vgStop_reply :
    replyBytes ((⟨2, 1, 0, 0x0042, 1, 0x00007A31, []⟩ : Pkt).echo 0x2004) ⟨stAccepted, 0, []⟩ =
      [0x04, 0x20, 0x01, 0x01, 0x42, 0, 0, 0, 0, 0, 0, 0, 0x31, 0x7A, 0, 0] := by decide +kernel

/-- Chapter 14, "a receive ring exhausted mid-frame": TYPE 0x1, QUEUE 5, SLOT 117, LENGTH 9,000. -/
theorem test_dq_completion :
    let d := completion 5 117 false { ({} : Frame) with bytes := List.replicate 9000 0 }
    d.toNat / 2 ^ 60 = 1 ∧ d.toNat / 2 ^ 54 % 64 = 5 ∧ d.toNat / 2 ^ 16 % 4096 = 117 ∧ d.toNat % 2 ^ 14 = 9000 := by
  decide +kernel

/-! A step. -/

theorem test_step_idle : step State.reset = .next State.reset := rfl

/-- TICK_EDGE at the front of the queue: the count is 1 and the queue empty (R34). -/
theorem test_step_tickEdge :
    (match step { State.reset with pending := [.tickEdge] } with
      | .next t => some (t.tick.count.toNat, t.pending)
      | _ => none) = some (1, []) := by decide +kernel

/-! Witnesses of the statements whose clauses are written out. -/

theorem wit_StepRunsTheCommandAtTheFrontOfTheQueue :
    (∃ (c : Instr) (s : State) (cs : List Instr), s.pending = c :: cs) ∧ (∃ s : State, s.pending = []) :=
  ⟨⟨.tickEdge, { base with pending := [.tickEdge] }, [], rfl⟩, base, rfl⟩

theorem wit_ArbiterGrantsTheLowestSeverityInRoundRobin : ∃ (a : Arbiter) (src : Nat), a.choose = some src :=
  ⟨(base.raise 0x0040 2 5 0 []).arb, 0x0040, by decide +kernel⟩

theorem wit_FirstFailingCheck_recovery : ∃ (s : State) (p : Pkt), packetOf (.tickRealign p) = some (0x4002, p) ∧
    s.mayBegin 0x4002 p = true ∧ s.boot.mode = 2 ∧ recoveryServes 0x4002 p.func.val = false ∧ s.fwd.reqs = [] :=
  ⟨{ ready 5 with boot := { base.boot with mode := 2 } }, pk 5 0 [], by decide +kernel⟩

theorem wit_FirstFailingCheck_version : ∃ p : Pkt, packetOf (.tickRealign p) = some (0x4002, p) ∧
    (ready 5).mayBegin 0x4002 p = true ∧ (ready 5).boot.mode = 1 ∧ (ready 5).fwd.reqs = [] ∧ p.version.toNat ≠ 1 :=
  ⟨{ pk 5 0 [] with version := 2 }, by decide +kernel⟩

theorem wit_FirstFailingCheck_flags : ∃ p : Pkt, packetOf (.tickRealign p) = some (0x4002, p) ∧
    (ready 5).mayBegin 0x4002 p = true ∧ (ready 5).boot.mode = 1 ∧ (ready 5).fwd.reqs = [] ∧ p.version.toNat = 1 ∧
    p.flags.toNat / 4 ≠ 0 :=
  ⟨{ pk 5 0 [] with flags := 4 }, by decide +kernel⟩

theorem wit_FirstFailingCheck_length : ∃ p : Pkt, packetOf (.tickRealign p) = some (0x4002, p) ∧
    (ready 5).mayBegin 0x4002 p = true ∧ (ready 5).boot.mode = 1 ∧ (ready 5).fwd.reqs = [] ∧ p.version.toNat = 1 ∧
    p.flags.toNat / 4 = 0 ∧ 1024 < p.length :=
  ⟨pk 5 0 (List.replicate 1025 0), by decide +kernel⟩

theorem wit_FirstFailingCheck_group : ∃ p : Pkt, packetOf (.cntClear p 0x60) = some (0x60FE, p) ∧
    (ready 2).mayBegin 0x60FE p = true ∧ (ready 2).boot.mode = 1 ∧ (ready 2).fwd.reqs = [] ∧ p.version.toNat = 1 ∧
    p.flags.toNat / 4 = 0 ∧ p.length ≤ 1024 ∧ (ready 2).pastRingEnd p = false ∧ groupDefined (0x60FE / 256) = false :=
  ⟨pk 2 0 [], by decide +kernel⟩

theorem wit_FirstFailingCheck_owner : ∃ p : Pkt, packetOf (.tickRealign p) = some (0x4002, p) ∧
    (ready 2).mayBegin 0x4002 p = true ∧ (ready 2).boot.mode = 1 ∧ (ready 2).fwd.reqs = [] ∧ p.version.toNat = 1 ∧
    p.flags.toNat / 4 = 0 ∧ p.length ≤ 1024 ∧ (ready 2).pastRingEnd p = false ∧ groupDefined (0x4002 / 256) = true ∧
    groupOwner (0x4002 / 256) ≠ p.func.val :=
  ⟨pk 2 0 [], by decide +kernel⟩

theorem wit_TickCountMovesOnlyAtTickEdges :
    (∃ s t : State, step s = .next t) ∧ (∃ s t : State, s.tick.legal ∧ step s = .next t) :=
  ⟨⟨State.reset, State.reset, rfl⟩, State.reset, State.reset, ⟨rfl, by decide, by decide⟩, rfl⟩

theorem wit_EveryStepCompletesAndKeepsTheMemoriesCanonical : ∃ s t : State, s.mem.wf = true ∧ step s = .next t :=
  ⟨State.reset, State.reset, by decide +kernel, rfl⟩

theorem wit_SequenceNumbersStartAtZeroAndSurviveFunctionResets :
    (∃ (s : State) (ns : Nat), 1000 ≤ ns ∧ s.pwr.state ≠ 3) ∧ (∃ s : State, s.pwr.state = 3 ∧ s.pwr.wakeStep = 4) ∧
    (∃ (s : State) (cycle src : Nat), s.arb.choose = some src ∧
      s.arb.lastCycle.all (fun c => decide (c + 4 ≤ cycle)) = true ∧
      (0 < (s.source src).discarded ∨ (s.source src).queue ≠ []) ∧ (∀ f, (s.fn f).store.length < 1024)) :=
  ⟨⟨base, 1000, by decide +kernel⟩,
   ⟨{ base with pwr := { base.pwr with state := 3, wakeStep := 4 } }, by decide +kernel⟩,
   ⟨base.raise 0x0040 2 5 0 [], 4, 0x0040, by decide +kernel, by decide +kernel, by decide +kernel,
    fun _ => (by decide : 0 < 1024)⟩⟩

/-- A message for another serial number (R105). -/
theorem wit_ActivationFollowsTheDownstreamMessages_otherSerial :
    ∃ (s : State) (m : Ploam) (sn : BitVec 64), Heard m s ∧ sn ≠ serialOf m.ch.val :=
  ⟨base.setCh 2 { PonCh.reset with sync := .sync, los := false },
   ⟨2, none, 3, false, false, false, List.replicate 48 0, 0⟩, serialOf 2 + 1, by decide +kernel, fun h => by
     have := congrArg (fun v => v - serialOf 2) h
     simp at this⟩

/-- The first fragment of an IPv4 packet. -/
def fragment : Frame :=
  { buf := 3, src := 4, bytes := List.replicate 12 2 ++ [8, 0, 0x45, 0, 0, 28, 0, 7, 0x20, 0, 64, 17, 70, 200, 10, 0, 0, 1, 10, 0, 0, 2, 0, 1, 0, 2, 0, 8, 0, 0] ++ List.replicate 32 0 }

/-- A state in which the fragment waits for the classifier and a rule drops it. -/
def fragmentWaits : State :=
  { ((((base.setOwner 3 1).wr (R.CLS_SRC_DEF_LO 4) 1).setFld (F.FWD_PORT_CFG_LEARN 4) 0).setFld (F.CLS_SRC_CFG_RULE_SET 4) 2) with
    clsIn := [fragment]
    cls := { base.cls with rules := [(16390, some { set := 2, key := 0, action := 0x2519 })] } }

/-- What the parser finds in the fragment. -/
def fragmentParsed : Parsed := parsePass ⟨0x88A8, 4789, false⟩ fragment.bytes 0 .eth

/-- The first fragment, recorded: the place in its set is a free value, and any set is empty. -/
theorem wit_FramesAreClassifiedUnderTheCurrentVersion_firstFragment :
    ∃ (s : State) (f : Frame) (fs : List Frame) (x : Parsed) (a e : Nat) (i : Nat),
      s.clsIn = f :: fs ∧ s.mem.parity = [] ∧
      x = parsePass ⟨if f.src < 24 then s.fld (F.ETH_TAG_RX_TPID_S f.src) else 0x88A8, s.fld F.CLS_CFG_VXLAN_PORT, false⟩
        f.delivered 0 .eth ∧
      s.flag (F.FWD_PORT_CFG_LEARN f.src) = false ∧ s.owner f.buf ≠ 0 ∧
      ((({ s with clsIn := fs }.setInflight s.cls.ver (s.inflight s.cls.ver + 1)).bump C.CLS_PKTS).classPass s.cls.ver f.src
        (clsKey f.src false x.tun x.tunId x) x).2.action = a ∧
      ((({ s with clsIn := fs }.setInflight s.cls.ver (s.inflight s.cls.ver + 1)).bump C.CLS_PKTS).classPass s.cls.ver f.src
        (clsKey f.src false x.tun x.tunId x) x).2.exc = e ∧
      x.frag = 1 ∧ dispOf a = 1 ∧ e = 0 ∧ s.fragFind (fragKey f.src x) = none ∧
      (fragPlaces (fragKey f.src x)).find? (fun k => s.fragFree k) = some i :=
  ⟨fragmentWaits, fragment, [], fragmentParsed, 0x2519, 0, 4 * (Config.fragSet (fragKey 4 fragmentParsed)).val,
   by decide +kernel, by decide +kernel, by decide +kernel, by decide +kernel, by decide +kernel, by decide +kernel,
   by decide +kernel, by decide +kernel, by decide +kernel, rfl,
   rfl, rfl⟩

theorem wit_AshlarDecodesItsCodewordsAndCorrectsOneSymbol :
    (∃ d : Nat, d < 2 ^ 256) ∧ (∃ w : Codeword, syn0 w = 0 ∧ syn1 w = 0) ∧
    (∃ d k e : Nat, d < 2 ^ 256 ∧ k < 18 ∧ 0 < e ∧ e < 65536) :=
  ⟨⟨2 ^ 256 - 1, by decide +kernel⟩, ⟨0, by decide +kernel⟩, ⟨0, 17, 65535, by decide +kernel⟩⟩

/-! Words and vectors written out by hand. -/

/-- Tables 7-1 to 7-3: SOP 0x10 in [63:58], rd 3 in [33:30], ra 2 in [29:26], imm20 = -1: ADDI s3, s2, -1. -/
theorem test_addi_word :
    (match execAddi 5 (running 5 0x40000000C80FFFFF { ({} : Eng) with regs := [(2, 5)] }) with
      | .next t => some ((t.eng 5).reg 3, (t.eng 5).pc)
      | _ => none) = some (4, 1) := by decide +kernel

/-- SOP 0x0F in [63:58], rd 1, ra 2, rb 3: CMPLTU compares unsigned. -/
theorem test_cmpltu_word :
    (match execCmpltu 0 (running 0 0x3C00000048C00000 { ({} : Eng) with regs := [(2, 1), (3, 0x80000000)] }) with
      | .next t => some ((t.eng 0).reg 1)
      | _ => none) = some 1 := by decide +kernel

/-- AES-128 as FIPS 197 publishes it (example C.1): PRESUMED, log 30. -/
theorem test_aes_fips197 :
    aesEnc (List.range 16) ((List.range 16).map (fun i => 17 * i)) =
      [0x69, 0xC4, 0xE0, 0xD8, 0x6A, 0x7B, 0x04, 0x30, 0xD8, 0xCD, 0xB7, 0x80, 0x70, 0xB4, 0xC5, 0x5A] := by
  decide +kernel

/-- AES-CMAC of the empty message (RFC 4493, example 1): PRESUMED, log 30. -/
theorem test_cmac_rfc4493 :
    aesCmac [0x2B, 0x7E, 0x15, 0x16, 0x28, 0xAE, 0xD2, 0xA6, 0xAB, 0xF7, 0x15, 0x88, 0x09, 0xCF, 0x4F, 0x3C] [] =
      [0xBB, 0x1D, 0x69, 0x29, 0xE9, 0x59, 0x37, 0x28, 0x7F, 0xA3, 0x7D, 0x12, 0x9B, 0x75, 0x67, 0x46] := by
  decide +kernel

/-- The CRC-32 of "123456789" (its published check value). -/
theorem test_crc32_check : crc32 [0x31, 0x32, 0x33, 0x34, 0x35, 0x36, 0x37, 0x38, 0x39] = 0xCBF43926 := by decide +kernel

/-! Witnesses of the other statements. -/

theorem wit_TickEdgeAndBoundariesActTogether :
    (∃ (s : State),
      (s.tick.acqStep = none ∨ s.tick.st ≠ .acquire)) ∧
    (∃ (s : State) (i : Nat),
      s.tick.acqStep = some i ∧ s.tick.st = .acquire) ∧
    (∃ (s : State) (n : Fin 4) (k : List Byte),
      s.tick.frameDue = true ∧ (s.ch n.val).mskNext = some k) ∧
    (∃ (s : State) (n : Fin 4) (i : Nat),
      s.tick.frameDue = true) ∧
    (∃ (s : State) (pkt : Nat),
      s.tick.cycleDue = true) ∧
    (∃ (s : State),
      s.tick.superDue = true) ∧
    (∃ (s : State),
      s.tick.st = .holdover ∧ 480000 ≤ s.tick.holdTicks ∧ s.tick.holdoverLong = false) ∧
    (∃ (s : State),
      s.tick.frameDue = false) ∧
    (∃ (s : State) (pkt : Nat),
      s.tick.cycleDue = false) ∧
    (∃ (s : State),
      s.tick.superDue = false) ∧
    (∃ (s : State),
      (s.tick.st ≠ .holdover ∨ s.tick.holdTicks < 480000 ∨ s.tick.holdoverLong = true)) :=
  ⟨⟨base.wr R.TICK_OUT_CFG 1, by decide +kernel⟩,
   ⟨base.setTick { acqStep := some 70, st := .acquire }, 70, by decide +kernel⟩,
   ⟨(base.setTick { frameDue := true }).setCh 1 { PonCh.reset with mskNext := some [1] }, 1, [1], by decide +kernel⟩,
   ⟨(base.setTick { frameDue := true }).setCh 1 { PonCh.reset with ports := [(3, { addDue := true })] }, 1, 3,
     by decide +kernel⟩,
   ⟨base.setTick { cycleDue := true }, 7, by decide +kernel⟩,
   ⟨(base.setTick { superDue := true }).setCount (C.MEM_DDR_SYM 3) 8, by decide +kernel⟩,
   ⟨base.setTick { st := .holdover, holdTicks := 480000 }, by decide +kernel⟩,
   ⟨base, by decide +kernel⟩,
   ⟨base, 3, by decide +kernel⟩,
   ⟨base, by decide +kernel⟩,
   ⟨base, by decide +kernel⟩⟩

theorem wit_TickGeneratorCommandsStoreAndReadBack :
    (∃ (s : State) (p : Pkt),
      Taken 0x4001 p s ∧ p.length = 0 ∧ p.target.toNat < 4 ∧ s.qualifies p.target.toNat = true) ∧
    (∃ (s : State) (p : Pkt),
      Taken 0x4001 p s ∧ p.length = 0 ∧ p.target.toNat < 4 ∧ s.qualifies p.target.toNat = false) ∧
    (∃ (s : State) (p : Pkt),
      Taken 0x4002 p s ∧ p.length = 0 ∧ p.target = 0 ∧ s.running = 0 ∧ s.tick.steered = true ∧
        s.inSync s.tick.master = true) ∧
    (∃ (s : State) (p : Pkt),
      Taken 0x4002 p s ∧ p.length = 0 ∧ p.target = 0 ∧ s.running ≠ 0) ∧
    (∃ (s : State) (p : Pkt),
      Taken 0x4002 p s ∧ p.length = 0 ∧ p.target = 0 ∧ s.running = 0 ∧
        (s.tick.steered = false ∨ s.inSync s.tick.master = false)) ∧
    (∃ (s : State) (v : Word),
      v.toNat % 2 ^ 15 ≤ 19439 ∧ v.toNat % 2 ^ 15 ≠ s.fld F.TICK_OFFSET_OFFSET) ∧
    (∃ (s : State) (v : Word),
      (19439 < v.toNat % 2 ^ 15 ∨ v.toNat % 2 ^ 15 = s.fld F.TICK_OFFSET_OFFSET)) ∧
    (∃ (s : State) (p : Pkt),
      Taken 0x4003 p s ∧ p.length = 3 ∧ p.target = 0 ∧ p.w 1 ≤ 19439) ∧
    (∃ (s : State) (p : Pkt),
      Taken 0x4003 p s ∧ p.length = 3 ∧ p.target = 0 ∧ 19439 < p.w 1) ∧
    (∃ (s : State) (f : Fin 6),
      (f.val = 5 ∨ f.val = 0)) ∧
    (∃ (s : State) (f : Fin 6),
      f.val ≠ 5 ∧ f.val ≠ 0) :=
  ⟨⟨(ready 5).setCh 1 { PonCh.reset with inFrames := 48 }, pk 5 1 [], by decide +kernel⟩,
   ⟨(ready 5).setCh 1 { PonCh.reset with inFrames := 47 }, pk 5 1 [], by decide +kernel⟩,
   ⟨((ready 5).setCh 2 { PonCh.reset with sync := .sync }).setTick { st := .locked, master := 2 }, pk 5 0 [],
     by decide +kernel⟩,
   ⟨{ ready 5 with running := 1 }, pk 5 0 [], by decide +kernel⟩,
   ⟨ready 5, pk 5 0 [], by decide +kernel⟩,
   ⟨base, 19439, by decide +kernel⟩,
   ⟨base, 19440, by decide +kernel⟩,
   ⟨ready 5, pk 5 0 [0xE4F20, 100, 2], by decide +kernel⟩,
   ⟨ready 5, pk 5 0 [0, 19440, 0], by decide +kernel⟩,
   ⟨base.setTick { count := 0x123456789a, tic := 5 }, 5, by decide +kernel⟩,
   ⟨base, 3, by decide +kernel⟩⟩

theorem wit_TimeCorrectionsMoveTheTimeAsStated :
    (∃ (s : State) (a b : Nat),
      b = max s.time.raw a ∧ s.time.busyUntil ≤ b ∧ incOk s.argInc = true) ∧
    (∃ (s : State) (a b : Nat),
      b = max s.time.raw a ∧ s.time.busyUntil ≤ b ∧ s.fld F.TIME_ARG_NS_NS ≤ 999999999) ∧
    (∃ (s : State) (a b : Nat),
      b = max s.time.raw a ∧ s.time.busyUntil ≤ b ∧ s.fld F.TIME_ARG_NS_NS ≤ 999999999) ∧
    (∃ (s : State) (a b : Nat),
      b = max s.time.raw a ∧ s.time.busyUntil ≤ b ∧ incOk s.argInc = true ∧ s.fld F.TIME_ARG_NS_NS ≤ 999999999) ∧
    (∃ (s : State) (a b : Nat),
      b = max s.time.raw a ∧ s.time.busyUntil ≤ b ∧ incOk s.argInc = false) ∧
    (∃ (s : State) (a b : Nat),
      b = max s.time.raw a ∧ s.time.busyUntil ≤ b ∧ 999999999 < s.fld F.TIME_ARG_NS_NS) ∧
    (∃ (s : State) (a b : Nat),
      b = max s.time.raw a ∧ s.time.busyUntil ≤ b ∧ 999999999 < s.fld F.TIME_ARG_NS_NS) ∧
    (∃ (s : State) (a b : Nat),
      b = max s.time.raw a ∧ s.time.busyUntil ≤ b ∧ (incOk s.argInc = false ∨ 999999999 < s.fld F.TIME_ARG_NS_NS)) ∧
    (∃ (s : State) (a : Nat),
      max s.time.raw a < s.time.busyUntil) :=
  ⟨⟨((base.wr R.TIME_ARG_INC_HI 0x147).wr R.TIME_ARG_INC_LO 0xAE147AE2), 1000, 1000, by decide +kernel⟩,
   ⟨base, 1000, 1000, by decide +kernel⟩,
   ⟨(base.wr R.TIME_ARG_NS 17), 1000, 1000, by decide +kernel⟩,
   ⟨(((base.wr R.TIME_ARG_INC_HI 0x147).wr R.TIME_ARG_INC_LO 0xAE147AE2).wr R.TIME_ARG_NS 17), 1000, 1000,
     by decide +kernel⟩,
   ⟨(base.wr R.TIME_ARG_INC_LO 5), 1000, 1000, by decide +kernel⟩,
   ⟨(base.wr R.TIME_ARG_NS 0x3FFFFFFF), 1000, 1000, by decide +kernel⟩,
   ⟨(base.wr R.TIME_ARG_NS 0x3FFFFFFF), 1000, 1000, by decide +kernel⟩,
   ⟨(((base.wr R.TIME_ARG_INC_HI 0x147).wr R.TIME_ARG_INC_LO 0xAE147AE2).wr R.TIME_ARG_NS 0x3FFFFFFF), 1000, 1000,
     by decide +kernel⟩,
   ⟨base.setTime { busyUntil := 8 }, 7, by decide +kernel⟩⟩

theorem wit_TimebaseReadsPulsesAndMessages :
    (∃ (s : State) (f : Fin 6) (raw r : Nat),
      (f.val = 5 ∨ f.val = 0) ∧ r = max s.time.raw raw) ∧
    (∃ (s : State) (f : Fin 6) (raw : Nat),
      f.val ≠ 5 ∧ f.val ≠ 0) ∧
    (∃ (s : State) (r : List Byte) (rs : List (List Byte)),
      s.time.fifo = r :: rs) ∧
    (∃ (s : State),
      s.time.fifo = []) ∧
    (∃ (s : State) (f : Fin 6),
      f.val ≠ 5) ∧
    (∃ (s : State) (raw : Nat),
      s.ppsDue raw = true) ∧
    (∃ (s : State) (raw : Nat),
      s.ppsDue raw = false) ∧
    (∃ (s : State) (falling : Bool) (raw r : Nat),
      s.flag F.TIME_PPS_CFG_IN_EN = true ∧ falling = s.flag F.TIME_PPS_CFG_IN_POL ∧ r = max s.time.raw raw ∧
        s.time.fifo.length < 512) ∧
    (∃ (s : State) (falling : Bool) (raw : Nat),
      s.flag F.TIME_PPS_CFG_IN_EN = true ∧ falling = s.flag F.TIME_PPS_CFG_IN_POL ∧ 512 ≤ s.time.fifo.length ∧
        s.count C.TIME_CAP_LOST < 0xFFFFFFFE) ∧
    (∃ (s : State) (falling : Bool) (raw : Nat),
      (s.flag F.TIME_PPS_CFG_IN_EN = false ∨ falling ≠ s.flag F.TIME_PPS_CFG_IN_POL)) ∧
    (∃ (s : State) (raw : Nat),
      s.flag F.TIME_PPS_CFG_IN_EN = true ∧ s.time.ppsLostTold = false ∧
        s.time.ppsFrom + 859375000 ≤ max s.time.raw raw) ∧
    (∃ (s : State) (raw : Nat),
      (s.flag F.TIME_PPS_CFG_IN_EN = false ∨ s.time.ppsLostTold = true ∨
        max s.time.raw raw < s.time.ppsFrom + 859375000)) ∧
    (∃ (s : State) (raw r sec pulse : Nat),
      r = max s.time.raw raw ∧ s.time.todPulse = some (sec, pulse) ∧ s.flag F.TIME_TOD_CFG_TOD_EN = true ∧
        pulse + ms500 10 (s.fld F.TIME_TOD_CFG_DELAY_MS) * 781250 ≤ r) ∧
    (∃ (s : State) (raw : Nat),
      (s.time.todPulse = none ∨ s.flag F.TIME_TOD_CFG_TOD_EN = false)) ∧
    (∃ (s : State) (raw sec pulse : Nat),
      s.time.todPulse = some (sec, pulse) ∧
        max s.time.raw raw < pulse + ms500 10 (s.fld F.TIME_TOD_CFG_DELAY_MS) * 781250) ∧
    (∃ (s : State) (b : Byte),
      s.time.todRx.length < 256) ∧
    (∃ (s : State) (b : Byte),
      256 ≤ s.time.todRx.length) ∧
    (∃ (s : State) (b : Byte) (bs : List Byte),
      s.time.todRx = b :: bs) ∧
    (∃ (s : State),
      s.time.todRx = []) ∧
    (∃ (s : State) (p : Pkt),
      Taken 0x4004 p s ∧ 1 ≤ p.length ∧
        (List.range p.length).all (fun i => timeCfgRegs.contains (p.target.toNat + 4 * i)) = true) ∧
    (∃ (s : State) (p : Pkt),
      Taken 0x4004 p s ∧ 1 ≤ p.length ∧
        (List.range p.length).all (fun i => timeCfgRegs.contains (p.target.toNat + 4 * i)) = false) :=
  ⟨⟨base, 5, 123456789012, 123456789012, by decide +kernel⟩,
   ⟨base, 3, 9, by decide +kernel⟩,
   ⟨base.setTime { fifo := [[1, 2], [3]] }, [1, 2], [[3]], by decide +kernel⟩,
   ⟨base, by decide +kernel⟩,
   ⟨base, 0, by decide +kernel⟩,
   ⟨((base.wr R.TIME_PPS_CFG 1).wr R.TIME_TOD_CFG 0xffffffff).setTime { offset := secUnits - 1 }, 1,
     by decide +kernel⟩,
   ⟨base, 9, by decide +kernel⟩,
   ⟨base.wr R.TIME_PPS_CFG 0xffffffff, true, 9, 9, by decide +kernel⟩,
   ⟨(base.wr R.TIME_PPS_CFG 0xffffffff).setTime { fifo := List.replicate 512 [] }, true, 9, by decide +kernel⟩,
   ⟨base, true, 9, by decide +kernel⟩,
   ⟨base.wr R.TIME_PPS_CFG 0xffffffff, 859375000, by decide +kernel⟩,
   ⟨base, 859374999, by decide +kernel⟩,
   ⟨(base.wr R.TIME_TOD_CFG 0xffffffff).setTime { todPulse := some (7, 0) }, 7812500, 7812500, 7, 0,
     by decide +kernel⟩,
   ⟨base, 9, by decide +kernel⟩,
   ⟨(base.wr R.TIME_TOD_CFG 0xffffffff).setTime { todPulse := some (7, 0) }, 7812499, 7, 0, by decide +kernel⟩,
   ⟨base, 7, by decide +kernel⟩,
   ⟨base.setTime { todRx := List.replicate 256 0 }, 7, by decide +kernel⟩,
   ⟨base.setTime { todRx := [1, 2] }, 1, [2], by decide +kernel⟩,
   ⟨base, by decide +kernel⟩,
   ⟨ready 5, pk 5 0x1014 [1, 2, 3], by decide +kernel⟩,
   ⟨ready 5, pk 5 0x1124 [1, 2], by decide +kernel⟩⟩

theorem wit_ReceiverEnableLosAndLockMoveTheChannel :
    (∃ (s : State) (c : Fin 4),
      s.recovery = false ∧ s.flag (F.PON_RX_CFG_ENABLE c.val) = false) ∧
    (∃ (s : State) (c : Fin 4),
      (s.recovery = true ∨ s.flag (F.PON_RX_CFG_ENABLE c.val) = true)) ∧
    (∃ (s : State) (c : Fin 4) (mid : Bool),
      s.flag (F.PON_RX_CFG_ENABLE c.val) = true) ∧
    (∃ (s : State) (c : Fin 4) (mid : Bool),
      s.flag (F.PON_RX_CFG_ENABLE c.val) = false) ∧
    (∃ (s : State) (c : Fin 4) (peak : Byte) (mid : Bool) (cs : List EqCycle),
      s.rxOn c.val = true ∧ (s.ch c.val).los = false ∧ peak.toNat < s.fld (F.PON_FE_CFG_LOS_THR c.val) ∧
        s.count (C.PON_LOS c.val) < 0xFFFFFFFE) ∧
    (∃ (s : State) (c : Fin 4) (peak : Byte) (mid : Bool) (cs : List EqCycle),
      (s.rxOn c.val = false ∨ (s.ch c.val).los = true ∨ s.fld (F.PON_FE_CFG_LOS_THR c.val) ≤ peak.toNat)) ∧
    (∃ (s : State) (c : Fin 4) (peak : Byte),
      s.rxOn c.val = true ∧ (s.ch c.val).los = true ∧ s.fld (F.PON_FE_CFG_LOS_THR c.val) + 2 ≤ peak.toNat) ∧
    (∃ (s : State) (c : Fin 4) (peak : Byte),
      (s.rxOn c.val = false ∨ (s.ch c.val).los = false ∨ peak.toNat < s.fld (F.PON_FE_CFG_LOS_THR c.val) + 2)) ∧
    (∃ (s : State) (c : Fin 4),
      s.rxOn c.val = true ∧ (s.ch c.val).los = false) ∧
    (∃ (s : State) (c : Fin 4),
      (s.rxOn c.val = false ∨ (s.ch c.val).los = true)) ∧
    (∃ (s : State) (c : Fin 4),
      (s.ch c.val).lull = .watchful ∧ (s.ch c.val).rxDown = true) ∧
    (∃ (s : State) (c : Fin 4),
      ((s.ch c.val).lull ≠ .watchful ∨ (s.ch c.val).rxDown = false)) ∧
    (∃ (s : State) (f : Fin 6) (c : Fin 4),
      (f.val = 0 ∨ f.val = 1)) ∧
    (∃ (s : State) (f : Fin 6) (c : Fin 4),
      f.val ≠ 0 ∧ f.val ≠ 1) ∧
    (∃ (s : State) (f : Fin 6) (off : Nat) (c : Ctr),
      ctrAt off = some c ∧ c.wide = true ∧ bit off 2 = false ∧ s.seesCounter f.val c = true) ∧
    (∃ (s : State) (f : Fin 6) (off : Nat) (c : Ctr),
      ctrAt off = some c ∧ c.wide = true ∧ bit off 2 = false ∧ s.seesCounter f.val c = false) ∧
    (∃ (s : State) (f : Fin 6) (off : Nat),
      ctrAt off = none) :=
  ⟨⟨base, 2, by decide +kernel⟩,
   ⟨(base.setFld (F.PON_RX_CFG_ENABLE 2) 1), 2, by decide +kernel⟩,
   ⟨(base.setFld (F.PON_RX_CFG_ENABLE 2) 1).setCh 2 { PonCh.reset with sync := .sync, act := .o5, onuId := some 4 },
     2, true, by decide +kernel⟩,
   ⟨base, 2, true, by decide +kernel⟩,
   ⟨(base.setFld (F.PON_RX_CFG_ENABLE 2) 1).setCh 2 { PonCh.reset with sync := .presync, los := false, cands := [⟨1, 2, true, 0⟩] },
     2, 3, false, [], by decide +kernel⟩,
   ⟨base, 2, 3, false, [], by decide +kernel⟩,
   ⟨(base.setFld (F.PON_RX_CFG_ENABLE 2) 1), 2, 255, by decide +kernel⟩,
   ⟨base, 2, 255, by decide +kernel⟩,
   ⟨(base.setFld (F.PON_RX_CFG_ENABLE 2) 1).setCh 2 { PonCh.reset with los := false }, 2, by decide +kernel⟩,
   ⟨base, 2, by decide +kernel⟩,
   ⟨(base.setFld (F.PON_RX_CFG_ENABLE 2) 1).setCh 2 { PonCh.reset with lull := .watchful, rxDown := true }, 2,
     by decide +kernel⟩,
   ⟨base, 2, by decide +kernel⟩,
   ⟨base.setCh 2 { PonCh.reset with sfc := 0x123456789ab }, 1, 2, by decide +kernel⟩,
   ⟨base, 3, 2, by decide +kernel⟩,
   ⟨base.setBank 0x00420104 7, 1, 0x00420100, C.PON_FEC_CW 2, by decide +kernel⟩,
   ⟨base, 3, 0x00420100, C.PON_FEC_CW 2, by decide +kernel⟩,
   ⟨base, 5, R.TICK_STATUS, by decide +kernel⟩⟩

theorem wit_EqualiserLoadsHoldsAndLatchesItsTaps :
    (∃ (s : State) (c : Fin 4) (a b : BitVec 16),
      ((s.ch c.val).sync = .hunt ∨ (s.ch c.val).sync = .presync) ∧ (s.ch c.val).los = false ∧
        s.flag (F.PON_EQ_CTL_FREEZE c.val) = false ∧ (s.ch c.val).acquiring = false ∧
        64 * s.fld (F.PON_EQ_CTL_DIV_THR c.val) < a.toNat ∧ 64 * s.fld (F.PON_EQ_CTL_DIV_THR c.val) < b.toNat) ∧
    (∃ (s : State) (c : Fin 4) (a b : BitVec 16),
      (((s.ch c.val).sync ≠ .hunt ∧ (s.ch c.val).sync ≠ .presync) ∨ (s.ch c.val).los = true ∨
        s.flag (F.PON_EQ_CTL_FREEZE c.val) = true ∨ (s.ch c.val).acquiring = true ∨
        a.toNat ≤ 64 * s.fld (F.PON_EQ_CTL_DIV_THR c.val) ∨ b.toNat ≤ 64 * s.fld (F.PON_EQ_CTL_DIV_THR c.val))) ∧
    (∃ (s : State) (c : Fin 4) (k : Fin 32) (v : BitVec 12),
      s.flag (F.PON_EQ_CTL_FREEZE c.val) = true) ∧
    (∃ (s : State) (c : Fin 4) (k : Fin 32) (v : BitVec 12),
      s.flag (F.PON_EQ_CTL_FREEZE c.val) = false) :=
  ⟨⟨base.setCh 2 { PonCh.reset with sync := .hunt, los := false }, 2, 0xffff, 0xffff, by decide +kernel⟩,
   ⟨base, 2, 0, 0, by decide +kernel⟩,
   ⟨base.setFld (F.PON_EQ_CTL_FREEZE 2) 1, 2, 31, 0xfff, by decide +kernel⟩,
   ⟨base, 2, 31, 0xfff, by decide +kernel⟩⟩

theorem wit_SynchronisationTracksPsyncs :
    (∃ (s : State) (c : Fin 4) (pos : Nat) (p : PSync),
      s.nearLoop (40 + c.val) = false ∧ ((s.ch c.val).sync = .hunt ∨ (s.ch c.val).sync = .presync) ∧
        (s.ch c.val).cdr = true ∧ p.diff ≤ s.fld (F.PON_SYNC_CFG_HUNT_TOL c.val) ∧
        (s.ch c.val).cands.all (fun k => k.expected (s.ponMode c.val) != pos) = true ∧
        (s.ch c.val).cands.length < 8) ∧
    (∃ (s : State) (c : Fin 4) (pos : Nat) (p : PSync),
      s.nearLoop (40 + c.val) = false ∧ ((s.ch c.val).sync = .hunt ∨ (s.ch c.val).sync = .presync) ∧
        (s.ch c.val).cdr = true ∧ p.diff ≤ s.fld (F.PON_SYNC_CFG_HUNT_TOL c.val) ∧
        (s.ch c.val).cands.all (fun k => k.expected (s.ponMode c.val) != pos) = true ∧
        8 ≤ (s.ch c.val).cands.length) ∧
    (∃ (s : State) (c : Fin 4) (pos : Nat) (p : PSync),
      (s.nearLoop (40 + c.val) = true ∨ ((s.ch c.val).sync ≠ .hunt ∧
        (s.ch c.val).sync ≠ .presync) ∨ (s.ch c.val).cdr = false ∨ s.fld (F.PON_SYNC_CFG_HUNT_TOL c.val) < p.diff)) ∧
    (∃ (s : State) (c : Fin 4) (pos : Nat) (k : Cand) (p : PSync) (us : Nat),
      (s.ch c.val).sync = .presync ∧ (s.ch c.val).cands.find? (fun j => j.expected (s.ponMode c.val) == pos) =
        some k ∧ (s.nearLoop (40 + c.val) = true ∨ s.fld (F.PON_SYNC_CFG_HUNT_TOL c.val) < p.diff) ∧
        s.count (C.PON_CAND_FALSE c.val) < 0xFFFFFFFE) ∧
    (∃ (s : State) (c : Fin 4) (pos : Nat) (k : Cand) (p : PSync) (us : Nat),
      s.nearLoop (40 + c.val) = false ∧ (s.ch c.val).sync = .presync ∧
        (s.ch c.val).cands.find? (fun j => j.expected (s.ponMode c.val) == pos) = some k ∧
        p.diff ≤ s.fld (F.PON_SYNC_CFG_HUNT_TOL c.val) ∧ p.hecOk = true ∧
        (k.hecOk = false ∨ p.sfc % 2 ^ 51 = (k.sfc + 1) % 2 ^ 51) ∧ s.confirmCount c.val ≤ k.confirmed + 1) ∧
    (∃ (s : State) (c : Fin 4) (pos : Nat) (k : Cand) (p : PSync) (us : Nat),
      s.nearLoop (40 + c.val) = false ∧ (s.ch c.val).sync = .presync ∧
        (s.ch c.val).cands.find? (fun j => j.expected (s.ponMode c.val) == pos) = some k ∧
        p.diff ≤ s.fld (F.PON_SYNC_CFG_HUNT_TOL c.val) ∧ p.hecOk = true ∧
        (k.hecOk = false ∨ p.sfc % 2 ^ 51 = (k.sfc + 1) % 2 ^ 51) ∧ k.confirmed + 1 < s.confirmCount c.val) ∧
    (∃ (s : State) (c : Fin 4) (pos : Nat) (k : Cand) (p : PSync) (us : Nat),
      s.nearLoop (40 + c.val) = false ∧ (s.ch c.val).sync = .presync ∧
        (s.ch c.val).cands.find? (fun j => j.expected (s.ponMode c.val) == pos) = some k ∧
        p.diff ≤ s.fld (F.PON_SYNC_CFG_HUNT_TOL c.val) ∧ (p.hecOk = false ∨ (k.hecOk = true ∧
        p.sfc % 2 ^ 51 ≠ (k.sfc + 1) % 2 ^ 51))) ∧
    (∃ (s : State) (c : Fin 4) (pos : Nat) (p : PSync) (us : Nat),
      ((s.ch c.val).sync ≠ .presync ∨ (s.ch c.val).cands.find? (fun j => j.expected (s.ponMode c.val) == pos) =
        none)) ∧
    (∃ (s : State) (c : Fin 4) (p : PSync) (mid : Bool),
      s.nearLoop (40 + c.val) = false ∧ s.inSync c.val = true ∧ p.diff ≤ s.fld (F.PON_SYNC_CFG_TRACK_TOL c.val)) ∧
    (∃ (s : State) (c : Fin 4) (p : PSync) (mid : Bool),
      s.inSync c.val = true ∧ (s.nearLoop (40 + c.val) = true ∨ s.fld (F.PON_SYNC_CFG_TRACK_TOL c.val) < p.diff) ∧
        (s.ch c.val).missRun + 1 < s.lossCount c.val ∧ s.count (C.PON_PSYNC_MISS c.val) < 0xFFFFFFFE) ∧
    (∃ (s : State) (c : Fin 4) (p : PSync) (mid : Bool),
      s.inSync c.val = true ∧ (s.nearLoop (40 + c.val) = true ∨ s.fld (F.PON_SYNC_CFG_TRACK_TOL c.val) < p.diff) ∧
        s.lossCount c.val ≤ (s.ch c.val).missRun + 1) ∧
    (∃ (s : State) (c : Fin 4) (p : PSync) (mid : Bool),
      s.inSync c.val = false) :=
  ⟨⟨base.setCh 2 { PonCh.reset with sync := .hunt, cdr := true }, 2, 100, (⟨0, 0, 0, 7, true, true, 0⟩ : PSync),
    by decide +kernel⟩,
   ⟨base.setCh 2 { PonCh.reset with sync := .presync, cdr := true, cands := List.replicate 8 ⟨1, 2, true, 0⟩ }, 2,
     100, (⟨0, 0, 0, 7, true, true, 0⟩ : PSync), by decide +kernel⟩,
   ⟨base, 2, 100, (⟨0, 0, 0, 7, true, true, 0⟩ : PSync), by decide +kernel⟩,
   ⟨base.setCh 2 { PonCh.reset with sync := .presync, cdr := true, cands := [⟨100, 7, true, 0⟩] }, 2,
     100 + frameBits 0, ⟨100, 7, true, 0⟩, (⟨0, 0, 20, 8, true, true, 0⟩ : PSync), 5, by decide +kernel⟩,
   ⟨base.setCh 2 { PonCh.reset with sync := .presync, cdr := true, cands := [⟨100, 7, true, 1⟩] }, 2,
     100 + frameBits 0, ⟨100, 7, true, 1⟩, (⟨0, 0, 0, 8, true, true, 0⟩ : PSync), 5, by decide +kernel⟩,
   ⟨(base.setCh 2 { PonCh.reset with sync := .presync, cdr := true, cands := [⟨100, 7, true, 0⟩] }).setFld (F.PON_SYNC_CFG_CONFIRM 2) 3,
     2, 100 + frameBits 0, ⟨100, 7, true, 0⟩, (⟨0, 0, 0, 8, true, true, 0⟩ : PSync), 5, by decide +kernel⟩,
   ⟨base.setCh 2 { PonCh.reset with sync := .presync, cdr := true, cands := [⟨100, 7, true, 0⟩] }, 2,
     100 + frameBits 0, ⟨100, 7, true, 0⟩, (⟨0, 0, 0, 9, true, true, 0⟩ : PSync), 5, by decide +kernel⟩,
   ⟨base, 2, 7, (⟨0, 0, 0, 9, true, true, 0⟩ : PSync), 5, by decide +kernel⟩,
   ⟨base.setCh 2 { PonCh.reset with sync := .resync, sfc := 5, missRun := 2 }, 2, (⟨0, 0, 0, 6, true, true,
     0⟩ : PSync), false, by decide +kernel⟩,
   ⟨base.setCh 2 { PonCh.reset with sync := .sync, sfc := 5 }, 2, (⟨0, 0, 64, 6, true, true, 0⟩ : PSync), false,
     by decide +kernel⟩,
   ⟨base.setCh 2 { PonCh.reset with sync := .sync, act := .o5, missRun := 4 }, 2, (⟨0, 0, 64, 6, true, true,
     0⟩ : PSync), false, by decide +kernel⟩,
   ⟨base, 2, (⟨0, 0, 0, 9, true, true, 0⟩ : PSync), false, by decide +kernel⟩⟩

theorem wit_FecAndStatisticsCount :
    (∃ (s : State) (c : Fin 4) (ch : Nat),
      s.inSync c.val = true ∧ s.count (C.PON_FEC_UNCORR_CW c.val) < 0xFFFFFFFE) ∧
    (∃ (s : State) (c : Fin 4) (k ch : Nat),
      s.inSync c.val = true ∧ (if s.ponMode c.val = 0 then s.maxIter c.val < k else 8 < k) ∧
        s.count (C.PON_FEC_UNCORR_CW c.val) < 0xFFFFFFFE) ∧
    (∃ (s : State) (c : Fin 4) (k ch : Nat),
      s.inSync c.val = true ∧ (if s.ponMode c.val = 0 then k ≤ s.maxIter c.val else k ≤ 8) ∧ 0 < ch ∧
        s.count (C.PON_FEC_CORR_CW c.val) < 0xFFFFFFFE ∧ s.count (C.PON_FEC_CORR_BYTES c.val) + ch < 0xFFFFFFFF) ∧
    (∃ (s : State) (c : Fin 4) (k : Nat),
      s.inSync c.val = true ∧ (if s.ponMode c.val = 0 then k ≤ s.maxIter c.val else k ≤ 8)) ∧
    (∃ (s : State) (c : Fin 4) (found : Option Nat) (ch : Nat),
      s.inSync c.val = false) ∧
    (∃ (s : State) (c : Fin 4),
      s.tick.count.toNat % 48000 = 0 ∧ (s.ch c.val).badInSecond = true ∧ s.count (C.PON_FEC_ES c.val) < 0xFFFFFFFE) ∧
    (∃ (s : State) (c : Fin 4),
      (s.tick.count.toNat % 48000 ≠ 0 ∨ (s.ch c.val).badInSecond = false)) ∧
    (∃ (s : State) (c : Fin 4),
      s.fld (F.PON_STAT_CTL_PERIOD c.val) ≠ 0 ∧
        s.tick.count.toNat % (s.fld (F.PON_STAT_CTL_PERIOD c.val) * 48000) = 0) ∧
    (∃ (s : State) (c : Fin 4),
      (s.fld (F.PON_STAT_CTL_PERIOD c.val) = 0 ∨
        s.tick.count.toNat % (s.fld (F.PON_STAT_CTL_PERIOD c.val) * 48000) ≠ 0)) :=
  ⟨⟨base.setCh 2 { PonCh.reset with sync := .sync }, 2, 0, by decide +kernel⟩,
   ⟨base.setCh 2 { PonCh.reset with sync := .sync }, 2, 11, 0, by decide +kernel⟩,
   ⟨base.setCh 2 { PonCh.reset with sync := .sync }, 2, 9, 9, by decide +kernel⟩,
   ⟨base.setCh 2 { PonCh.reset with sync := .sync }, 2, 1, by decide +kernel⟩,
   ⟨base, 2, none, 0, by decide +kernel⟩,
   ⟨base.setCh 2 { PonCh.reset with badInSecond := true }, 2, by decide +kernel⟩,
   ⟨base, 2, by decide +kernel⟩,
   ⟨(base.setCount (C.PON_FEC_CW 2) 0x123456789a).setFld (F.PON_STAT_CTL_PERIOD 2) 1, 2, by decide +kernel⟩,
   ⟨base, 2, by decide +kernel⟩⟩

theorem wit_ActivationFollowsTheDownstreamMessages :
    (∃ (s : State) (m : Ploam) (p : Profile),
      Heard m s ∧ (upRates (s.ponMode m.ch.val)).contains p.rateKbps = true) ∧
    (∃ (s : State) (m : Ploam) (p : Profile),
      Heard m s ∧ (upRates (s.ponMode m.ch.val)).contains p.rateKbps = false) ∧
    (∃ (s : State) (m : Ploam) (id : BitVec 10) (i : Nat),
      Heard m s ∧ (s.ch m.ch.val).act = .o23 ∧ s.freeEntry = some i) ∧
    (∃ (s : State) (m : Ploam) (sn : BitVec 64) (id : BitVec 10),
      Heard m s ∧ (s.ch m.ch.val).act ≠ .o23) ∧
    (∃ (s : State) (m : Ploam) (v : Int),
      Heard m s ∧ ((s.ch m.ch.val).act = .o4 ∨ (s.ch m.ch.val).act = .o5)) ∧
    (∃ (s : State) (m : Ploam) (v latest : Int),
      Heard m s ∧ ((s.ch m.ch.val).act = .o4 ∨ (s.ch m.ch.val).act = .o5) ∧
        latest = (((s.ch m.ch.val).eqdNext.getLast?).map (·.1)).getD (s.ch m.ch.val).eqd) ∧
    (∃ (s : State) (m : Ploam) (relative : Bool) (v : Int),
      Heard m s ∧ (s.ch m.ch.val).act ≠ .o4 ∧ (s.ch m.ch.val).act ≠ .o5) ∧
    (∃ (s : State) (m : Ploam),
      Heard m s ∧ (s.ch m.ch.val).act ≠ .o7) ∧
    (∃ (s : State) (m : Ploam),
      Heard m s ∧ (s.ch m.ch.val).act = .o7) ∧
    (∃ (s : State) (m : Ploam),
      Heard m s) ∧
    (∃ (s : State) (m : Ploam),
      Heard m s ∧ (s.ch m.ch.val).act = .o7) ∧
    (∃ (s : State) (m : Ploam),
      Heard m s ∧ (s.ch m.ch.val).act ≠ .o7) :=
  ⟨⟨(base.setCh 2 { PonCh.reset with sync := .sync, los := false, act := .o12 }), ⟨2, none, 3, false, false, false,
    [1, 2], 9⟩, ⟨1, 12441600, 3, true⟩, by decide +kernel⟩,
   ⟨(base.setCh 2 { PonCh.reset with sync := .sync, los := false, act := .o12 }), ⟨2, none, 3, false, false, false,
     [1, 2], 9⟩, ⟨1, 9953280, 3, true⟩, by decide +kernel⟩,
   ⟨(base.setCh 2 { PonCh.reset with sync := .sync, los := false, act := .o23 }), ⟨2, none, 3, false, false, false,
     [1, 2], 9⟩, 77, 0, by decide +kernel⟩,
   ⟨(base.setCh 2 { PonCh.reset with sync := .sync, los := false, act := .o5 }), ⟨2, none, 3, false, false, false,
     [1, 2], 9⟩, 3, 77, by decide +kernel⟩,
   ⟨(base.setCh 2 { PonCh.reset with sync := .sync, los := false, act := .o4, onuId := some 5 }), ⟨2, some 5, 3,
     false, false, false, [1, 2], 9⟩, 77, by decide +kernel⟩,
   ⟨(base.setCh 2 { PonCh.reset with sync := .sync, los := false, act := .o5, onuId := some 5, eqd := 3 }), ⟨2,
     some 5, 3, false, false, false, [1, 2], 9⟩, 77, 3, by decide +kernel⟩,
   ⟨(base.setCh 2 { PonCh.reset with sync := .sync, los := false, act := .o12 }), ⟨2, none, 3, false, false, false,
     [1, 2], 9⟩, true, 77, by decide +kernel⟩,
   ⟨((base.setCh 2 { PonCh.reset with sync := .sync, los := false, act := .o5, onuId := some 5 }).setSlot 17 { state := 1 }).setAlloc 4 { state := 1, channel := 2 },
     ⟨2, some 5, 3, false, false, false, [1, 2], 9⟩, by decide +kernel⟩,
   ⟨(base.setCh 2 { PonCh.reset with sync := .sync, los := false, act := .o7 }), ⟨2, none, 3, false, false, false,
     [1, 2], 9⟩, by decide +kernel⟩,
   ⟨(base.setCh 2 { PonCh.reset with sync := .sync, los := false, act := .o5, lull := .doze }), ⟨2, none, 3, false,
     false, false, [1, 2], 9⟩, by decide +kernel⟩,
   ⟨(base.setCh 2 { PonCh.reset with sync := .sync, los := false, act := .o7, o7 := true }), ⟨2, none, 3, false,
     false, false, [1, 2], 9⟩, by decide +kernel⟩,
   ⟨(base.setCh 2 { PonCh.reset with sync := .sync, los := false, act := .o5 }), ⟨2, none, 3, false, false, false,
     [1, 2], 9⟩, by decide +kernel⟩⟩

theorem wit_OtherDownstreamMessagesAreAnswered :
    (∃ (s : State) (i : Instr) (m : Ploam),
      ploamOf i = some m ∧ (s.inSync m.ch.val = false ∨ s.nearLoop (40 + m.ch.val) = true)) ∧
    (∃ (s : State) (i : Instr) (m : Ploam),
      ploamOf i = some m ∧ s.inSync m.ch.val = true ∧ s.nearLoop (40 + m.ch.val) = false ∧ m.partBad = false ∧
        m.bad = true) ∧
    (∃ (s : State) (i : Instr) (m : Ploam),
      ploamOf i = some m ∧ s.inSync m.ch.val = true ∧ s.nearLoop (40 + m.ch.val) = false ∧ m.partBad = true ∧
        m.bad = false) ∧
    (∃ (s : State) (i : Instr) (m : Ploam),
      ploamOf i = some m ∧ s.inSync m.ch.val = true ∧ s.nearLoop (40 + m.ch.val) = false ∧ m.partBad = false ∧
        m.bad = false ∧ (m.micFail = true ∨ (s.slot (8 * m.ch.val + 4)).state = 3) ∧
        (s.readKey (8 * m.ch.val + 4)).1 = s) ∧
    (∃ (s : State) (i : Instr) (m : Ploam),
      ploamOf i = some m ∧ s.inSync m.ch.val = true ∧ s.nearLoop (40 + m.ch.val) = false ∧ m.partBad = false ∧
        m.bad = false ∧ m.micFail = false ∧ (s.slot (8 * m.ch.val + 4)).state ≠ 3 ∧
        (s.readKey (8 * m.ch.val + 4)).1 = s ∧ m.onu.isSome = true ∧ m.onu ≠ (s.ch m.ch.val).onuId) ∧
    (∃ (s : State) (i : Instr) (m : Ploam),
      ploamOf i = some m ∧ s.inSync m.ch.val = true ∧ s.nearLoop (40 + m.ch.val) = false ∧ m.partBad = false ∧
        m.bad = false ∧ m.micFail = false ∧ (s.slot (8 * m.ch.val + 4)).state ≠ 3 ∧
        (s.readKey (8 * m.ch.val + 4)).1 = s ∧ m.onu.isSome = true ∧ m.onu = (s.ch m.ch.val).onuId ∧
        (s.ch m.ch.val).lastSeq = some m.seq.toNat) ∧
    (∃ (s : State) (i : Instr) (m : Ploam) (x : State),
      ploamOf i = some m ∧ s.inSync m.ch.val = true ∧ s.nearLoop (40 + m.ch.val) = false ∧ m.partBad = false ∧
        m.bad = false ∧ (s.readKey (8 * m.ch.val + 4)).1 = x ∧ (x.readKey (8 * m.ch.val + 4)).1 = x) ∧
    (∃ (s : State) (m : Ploam),
      Heard m s) ∧
    (∃ (s : State) (m : Ploam) (alloc : BitVec 14) (i : Nat),
      Heard m s ∧ (s.allocsOf m.ch.val).length < 64 ∧
        (s.allocsOf m.ch.val).all (fun j => (s.allocAt j).allocId != alloc.toNat) = true ∧ s.freeEntry = some i) ∧
    (∃ (s : State) (m : Ploam) (alloc : BitVec 14),
      Heard m s ∧ 64 ≤ (s.allocsOf m.ch.val).length ∧
        (s.allocsOf m.ch.val).all (fun j => (s.allocAt j).allocId != alloc.toNat) = true ∧
        s.count (C.TC_ALLOC_REFUSED m.ch.val) < 0xFFFFFFFE) ∧
    (∃ (s : State) (m : Ploam) (alloc : BitVec 14) (i : Nat),
      Heard m s ∧ (s.allocsOf m.ch.val).find? (fun j => (s.allocAt j).allocId == alloc.toNat) = some i) ∧
    (∃ (s : State) (m : Ploam) (alloc : BitVec 14) (dealloc : Bool),
      Heard m s ∧ ((s.allocsOf m.ch.val).find? (fun j => (s.allocAt j).allocId == alloc.toNat)).isSome = !dealloc) ∧
    (∃ (s : State) (m : Ploam) (idx : Fin 2) (key : BitVec 128),
      Heard m s ∧ s.ciph.entropyFail = false) ∧
    (∃ (s : State) (m : Ploam) (idx : Fin 2) (key : BitVec 128),
      Heard m s ∧ s.ciph.entropyFail = true) ∧
    (∃ (s : State) (m : Ploam),
      Heard m s) ∧
    (∃ (s : State) (m : Ploam) (l : Lull),
      Heard m s ∧ (s.ch m.ch.val).lullPolicy ≠ 0 ∧ (s.ch m.ch.val).act = .o5 ∧ (s.ch m.ch.val).lull = .awake ∧
        l = (if (s.ch m.ch.val).lullPolicy = 2 ∧ s.isMaster m.ch.val = false then .watchful else .doze : Lull)) ∧
    (∃ (s : State) (m : Ploam),
      Heard m s ∧ ((s.ch m.ch.val).lullPolicy = 0 ∨ (s.ch m.ch.val).act ≠ .o5 ∨ (s.ch m.ch.val).lull ≠ .awake)) ∧
    (∃ (s : State) (m : Ploam) (answer : Bool),
      Heard m s ∧ s.count (C.TC_PLOAM_UNSUP m.ch.val) < 0xFFFFFFFE) :=
  ⟨⟨base, .sleepAllow (⟨2, none, 3, false, false, false, [1, 2], 9⟩) true, ⟨2, none, 3, false, false, false, [1, 2],
    9⟩, by decide +kernel⟩,
   ⟨(base.setCh 2 { PonCh.reset with sync := .sync, los := false, act := .o5 }), .sleepAllow (⟨2, none, 3, true,
     false, false, [1, 2], 9⟩) true, ⟨2, none, 3, true, false, false, [1, 2], 9⟩, by decide +kernel⟩,
   ⟨(base.setCh 2 { PonCh.reset with sync := .sync, los := false, act := .o5 }), .sleepAllow (⟨2, none, 3, false,
     true, false, [1, 2], 9⟩) true, ⟨2, none, 3, false, true, false, [1, 2], 9⟩, by decide +kernel⟩,
   ⟨(base.setCh 2 { PonCh.reset with sync := .sync, los := false, act := .o5 }), .sleepAllow (⟨2, none, 3, false,
     false, true, [1, 2], 9⟩) true, ⟨2, none, 3, false, false, true, [1, 2], 9⟩, by decide +kernel⟩,
   ⟨(base.setCh 2 { PonCh.reset with sync := .sync, los := false, act := .o5 }), .sleepAllow (⟨2, some 4, 3, false,
     false, false, [1, 2], 9⟩) true, ⟨2, some 4, 3, false, false, false, [1, 2], 9⟩, by decide +kernel⟩,
   ⟨(base.setCh 2 { PonCh.reset with sync := .sync, los := false, act := .o5, onuId := some 5, lastSeq := some 3 }),
     .sleepAllow (⟨2, some 5, 3, false, false, false, [1, 2], 9⟩) true, ⟨2, some 5, 3, false, false, false, [1, 2],
     9⟩, by decide +kernel⟩,
   ⟨(base.setCh 2 { PonCh.reset with sync := .sync, los := false, act := .o5 }), .sleepAllow (⟨2, none, 3, false,
     false, false, [1, 2], 9⟩) true, ⟨2, none, 3, false, false, false, [1, 2], 9⟩,
     (base.setCh 2 { PonCh.reset with sync := .sync, los := false, act := .o5 }), by decide +kernel⟩,
   ⟨(base.setCh 2 { PonCh.reset with sync := .sync, los := false, act := .o5 }), ⟨2, none, 3, false, false, false,
     [1, 2], 9⟩, by decide +kernel⟩,
   ⟨(base.setCh 2 { PonCh.reset with sync := .sync, los := false, act := .o5, onuId := some 5 }).setAlloc 0 { state := 1, allocId := 900, channel := 2 },
     ⟨2, some 5, 3, false, false, false, [1, 2], 9⟩, 1030, 1, by decide +kernel⟩,
   ⟨{ (base.setCh 2 { PonCh.reset with sync := .sync, los := false, act := .o5, onuId := some 5 }) with alloc := (List.range 64).map (fun i => (i, ({ state := 1, allocId := 2000 + i, channel := 2 } : AllocCtx))) },
     ⟨2, some 5, 3, false, false, false, [1, 2], 9⟩, 1030, by decide +kernel⟩,
   ⟨(base.setCh 2 { PonCh.reset with sync := .sync, los := false, act := .o5, onuId := some 5 }).setAlloc 7 { state := 1, allocId := 1030, channel := 2 },
     ⟨2, some 5, 3, false, false, false, [1, 2], 9⟩, 1030, 7, by decide +kernel⟩,
   ⟨(base.setCh 2 { PonCh.reset with sync := .sync, los := false, act := .o5, onuId := some 5 }).setAlloc 7 { state := 1, allocId := 1030, channel := 2 },
     ⟨2, some 5, 3, false, false, false, [1, 2], 9⟩, 1030, false, by decide +kernel⟩,
   ⟨(base.setCh 2 { PonCh.reset with sync := .sync, los := false, act := .o5, onuId := some 5 }), ⟨2, some 5, 3,
     false, false, false, [1, 2], 9⟩, 1, 0x1234, by decide +kernel⟩,
   ⟨{ (base.setCh 2 { PonCh.reset with sync := .sync, los := false, act := .o5, onuId := some 5 }) with ciph := { entropyFail := true } },
     ⟨2, some 5, 3, false, false, false, [1, 2], 9⟩, 1, 0x1234, by decide +kernel⟩,
   ⟨(base.setCh 2 { PonCh.reset with sync := .sync, los := false, act := .o5, onuId := some 5, lull := .doze }), ⟨2,
     some 5, 3, false, false, false, [1, 2], 9⟩, by decide +kernel⟩,
   ⟨(base.setCh 2 { PonCh.reset with sync := .sync, los := false, act := .o5, onuId := some 5, lullPolicy := 1 }),
     ⟨2, some 5, 3, false, false, false, [1, 2], 9⟩, .doze, by decide +kernel⟩,
   ⟨(base.setCh 2 { PonCh.reset with sync := .sync, los := false, act := .o5, onuId := some 5 }), ⟨2, some 5, 3,
     false, false, false, [1, 2], 9⟩, by decide +kernel⟩,
   ⟨(base.setCh 2 { PonCh.reset with sync := .sync, los := false, act := .o5, onuId := some 5 }), ⟨2, some 5, 3,
     false, false, false, [1, 2], 9⟩, true, by decide +kernel⟩⟩

theorem wit_ActivationTimersResponsesAndSleep :
    (∃ (s : State) (c : Fin 4),
      ((s.ch c.val).act = .o23 ∨ (s.ch c.val).act = .o4)) ∧
    (∃ (s : State) (c : Fin 4),
      (s.ch c.val).act ≠ .o23 ∧ (s.ch c.val).act ≠ .o4) ∧
    (∃ (s : State) (c : Fin 4),
      (s.ch c.val).act = .o6) ∧
    (∃ (s : State) (c : Fin 4),
      (s.ch c.val).act ≠ .o6) ∧
    (∃ (s : State) (c : Fin 4) (delay : Nat),
      (s.ch c.val).act = .o23 ∧ 0 < (s.ch c.val).snDue ∧ (s.ch c.val).txPowered = true) ∧
    (∃ (s : State) (c : Fin 4) (delay : Nat),
      ((s.ch c.val).act ≠ .o23 ∨ (s.ch c.val).snDue = 0 ∨ (s.ch c.val).txPowered = false)) ∧
    (∃ (s : State) (c : Fin 4),
      (s.ch c.val).act = .o4 ∧ 0 < (s.ch c.val).rangeDue ∧ (s.ch c.val).txPowered = true) ∧
    (∃ (s : State) (c : Fin 4),
      ((s.ch c.val).act ≠ .o4 ∨ (s.ch c.val).rangeDue = 0 ∨ (s.ch c.val).txPowered = false)) ∧
    (∃ (s : State) (c : Fin 4),
      s.inSync c.val = true ∧ (s.ch c.val).lull ≠ .awake) ∧
    (∃ (s : State) (c : Fin 4),
      (s.inSync c.val = false ∨ (s.ch c.val).lull = .awake)) ∧
    (∃ (s : State) (c : Fin 4),
      (s.ch c.val).txWaking = true ∧ (s.ch c.val).act ≠ .o7) ∧
    (∃ (s : State) (c : Fin 4),
      ((s.ch c.val).txWaking = false ∨ (s.ch c.val).act = .o7)) ∧
    (∃ (s : State) (c : Fin 4),
      (s.ch c.val).lull = .watchful ∧ s.inSync c.val = false) ∧
    (∃ (s : State) (c : Fin 4),
      ((s.ch c.val).lull ≠ .watchful ∨ s.inSync c.val = true)) ∧
    (∃ (s : State) (c : Fin 4),
      (s.ch c.val).lull = .watchful ∧ (s.ch c.val).sleepDue = false ∧ s.isMaster c.val = false) ∧
    (∃ (s : State) (c : Fin 4),
      ((s.ch c.val).lull = .doze ∨ ((s.ch c.val).lull = .watchful ∧ s.isMaster c.val = true)) ∧
        (s.ch c.val).sleepDue = false) ∧
    (∃ (s : State) (c : Fin 4),
      ((s.ch c.val).lull = .awake ∨ (s.ch c.val).sleepDue = true)) :=
  ⟨⟨base.setCh 2 { PonCh.reset with act := .o4, onuId := some 4 }, 2, by decide +kernel⟩,
   ⟨base, 2, by decide +kernel⟩,
   ⟨base.setCh 2 { PonCh.reset with act := .o6, onuId := some 4 }, 2, by decide +kernel⟩,
   ⟨base, 2, by decide +kernel⟩,
   ⟨base.setCh 2 { PonCh.reset with act := .o23, snDue := 2, txPowered := true }, 2, 100, by decide +kernel⟩,
   ⟨base, 2, 100, by decide +kernel⟩,
   ⟨base.setCh 2 { PonCh.reset with act := .o4, rangeDue := 2, txPowered := true }, 2, by decide +kernel⟩,
   ⟨base, 2, by decide +kernel⟩,
   ⟨(base.setCh 2 { PonCh.reset with sync := .sync, los := false, lull := .doze }), 2, by decide +kernel⟩,
   ⟨base, 2, by decide +kernel⟩,
   ⟨base.setCh 2 { PonCh.reset with txWaking := true }, 2, by decide +kernel⟩,
   ⟨base, 2, by decide +kernel⟩,
   ⟨base.setCh 2 { PonCh.reset with lull := .watchful, act := .o5, rxDown := true }, 2, by decide +kernel⟩,
   ⟨base, 2, by decide +kernel⟩,
   ⟨base.setCh 2 { PonCh.reset with lull := .watchful, act := .o5, txPowered := true, sync := .sync }, 2,
     by decide +kernel⟩,
   ⟨base.setCh 2 { PonCh.reset with lull := .doze, act := .o5, txPowered := true, sync := .sync }, 2,
     by decide +kernel⟩,
   ⟨base, 2, by decide +kernel⟩⟩

theorem wit_XgemFramesAndPonCommandsTakeEffect :
    (∃ (s : State) (c : Fin 4) (x : Xgem) (lost : List (Nat × Bool)),
      s.inSync c.val = true ∧ s.nearLoop (40 + c.val) = false ∧ x.hecOk = false) ∧
    (∃ (s : State) (c : Fin 4) (x : Xgem) (port : Nat) (last : Bool),
      s.inSync c.val = true ∧ s.nearLoop (40 + c.val) = false ∧ x.hecOk = false ∧
        s.count (C.TC_XGEM_HEC_ERR c.val) < 0xFFFFFFFE ∧ s.count (C.TC_FRAG_LOST c.val) < 0xFFFFFFFE) ∧
    (∃ (s : State) (c : Fin 4) (x : Xgem) (lost : List (Nat × Bool)),
      (s.inSync c.val = false ∨ s.nearLoop (40 + c.val) = true ∨ (x.hecOk = true ∧
        (x.idle = true ∨ (s.ch c.val).inPorts x.port = false)))) ∧
    (∃ (s : State) (c : Fin 4) (x : Xgem) (lost : List (Nat × Bool)),
      s.inSync c.val = true ∧ s.nearLoop (40 + c.val) = false ∧ x.hecOk = true ∧ x.idle = false ∧
        (s.ch c.val).inPorts x.port = true ∧ x.key ≠ 0 ∧
        (2 < x.key ∨ s.keyHeld (dataSlot c.val x.key x.bcast) = false) ∧
        s.count (C.TC_XGEM_KEY_MISS c.val) < 0xFFFFFFFE) ∧
    (∃ (s : State) (c : Fin 4) (x : Xgem) (lost : List (Nat × Bool)) (k : List Nat),
      s.inSync c.val = true ∧ s.nearLoop (40 + c.val) = false ∧ x.hecOk = true ∧ x.idle = false ∧
        (s.ch c.val).inPorts x.port = true ∧ (x.key = 1 ∨ x.key = 2) ∧
        s.keyHeld (dataSlot c.val x.key x.bcast) = true ∧ s.readKey (dataSlot c.val x.key x.bcast) = (s, some k)) ∧
    (∃ (s : State) (c : Fin 4) (x : Xgem) (lost : List (Nat × Bool)),
      s.inSync c.val = true ∧ s.nearLoop (40 + c.val) = false ∧ x.hecOk = true ∧ x.idle = false ∧
        (s.ch c.val).inPorts x.port = true ∧ x.key = 0 ∧ ((s.ch c.val).partialOf x.port).skip = true) ∧
    (∃ (s : State) (c : Fin 4) (x : Xgem) (lost : List (Nat × Bool)),
      s.inSync c.val = true ∧ s.nearLoop (40 + c.val) = false ∧ x.hecOk = true ∧ x.idle = false ∧
        (s.ch c.val).inPorts x.port = true ∧ x.key = 0 ∧ ((s.ch c.val).partialOf x.port).skip = false ∧
        x.last = false ∧ ((s.ch c.val).partialOf x.port).data.length + x.data.length ≤ 10240) ∧
    (∃ (s : State) (c : Fin 4) (x : Xgem) (lost : List (Nat × Bool)),
      s.inSync c.val = true ∧ s.nearLoop (40 + c.val) = false ∧ x.hecOk = true ∧ x.idle = false ∧
        (s.ch c.val).inPorts x.port = true ∧ x.key = 0 ∧ ((s.ch c.val).partialOf x.port).skip = false ∧
        10240 < ((s.ch c.val).partialOf x.port).data.length + x.data.length ∧
        s.count (C.TC_SDU_LONG c.val) < 0xFFFFFFFE) ∧
    (∃ (s : State) (c : Fin 4) (x : Xgem) (lost : List (Nat × Bool)),
      s.inSync c.val = true ∧ s.nearLoop (40 + c.val) = false ∧ x.hecOk = true ∧ x.idle = false ∧
        (s.ch c.val).inPorts x.port = true ∧ x.key = 0 ∧ ((s.ch c.val).partialOf x.port).skip = false ∧
        x.last = true ∧ ((s.ch c.val).partialOf x.port).data.length + x.data.length ≤ 10240 ∧
        (((s.ch c.val).partialOf x.port).bad || x.bad) = true ∧ s.count (C.TC_XGEM_BAD c.val) < 0xFFFFFFFE) ∧
    (∃ (s : State) (c : Fin 4) (x : Xgem) (lost : List (Nat × Bool)),
      s.inSync c.val = true ∧ s.nearLoop (40 + c.val) = false ∧ x.hecOk = true ∧ x.idle = false ∧
        (s.ch c.val).inPorts x.port = true ∧ x.key = 0 ∧ (s.ch c.val).partialOf x.port = {} ∧ x.last = true ∧
        x.bad = false ∧ x.data.length ≤ 10240 ∧ (s.ch c.val).onuId = some x.port ∧
        (s.readKey (8 * c.val + 5)).1 = s ∧
        (x.data.length < 4 ∨ omciMic 1 (s.chKey c.val 1).2 (x.data.take (x.data.length - 4)) ≠ x.data.drop (x.data.length - 4)) ∧
        s.count (C.TC_OMCI_MIC_ERR c.val) < 0xFFFFFFFE) ∧
    (∃ (s : State) (c : Fin 4) (x : Xgem) (lost : List (Nat × Bool)) (id : Nat) (ids : List Nat),
      s.inSync c.val = true ∧ s.nearLoop (40 + c.val) = false ∧ x.hecOk = true ∧ x.idle = false ∧
        (s.ch c.val).inPorts x.port = true ∧ x.key = 0 ∧ (s.ch c.val).partialOf x.port = {} ∧ x.last = true ∧
        x.bad = false ∧ (s.ch c.val).onuId ≠ some x.port ∧ s.bondedPort c.val x.port = none ∧ x.data.length ≤ 260 ∧
        0 < (s.pool 0).free ∧ (s.pool 0).cache = id :: ids) ∧
    (∃ (s : State) (p : Pkt),
      Taken 0x1001 p s ∧ p.length = 7 ∧ p.target.toNat < 4) ∧
    (∃ (s : State) (p : Pkt),
      Taken 0x1002 p s ∧ p.length = 9 ∧ p.target.toNat < 4) ∧
    (∃ (s : State) (p : Pkt),
      Taken 0x1003 p s ∧ p.length = 4 ∧ p.target.toNat < 4) ∧
    (∃ (s : State) (p : Pkt),
      Taken 0x1004 p s ∧ p.length = 1 ∧ p.target.toNat < 4 ∧ p.w 0 ≤ 65535 ∧
        ((((s.ch p.target.toNat).portOf (p.w 0)).inForce || ((s.ch p.target.toNat).portOf (p.w 0)).addDue) && !((s.ch p.target.toNat).portOf (p.w 0)).delDue) =
        false ∧ (s.ch p.target.toNat).portCount < 1023) ∧
    (∃ (s : State) (p : Pkt),
      Taken 0x1004 p s ∧ p.length = 1 ∧ p.target.toNat < 4 ∧ p.w 0 ≤ 65535 ∧
        ((((s.ch p.target.toNat).portOf (p.w 0)).inForce || ((s.ch p.target.toNat).portOf (p.w 0)).addDue) && !((s.ch p.target.toNat).portOf (p.w 0)).delDue) =
        true) ∧
    (∃ (s : State) (p : Pkt),
      Taken 0x1004 p s ∧ p.length = 1 ∧ p.target.toNat < 4 ∧ p.w 0 ≤ 65535 ∧
        ((((s.ch p.target.toNat).portOf (p.w 0)).inForce || ((s.ch p.target.toNat).portOf (p.w 0)).addDue) && !((s.ch p.target.toNat).portOf (p.w 0)).delDue) =
        false ∧ 1023 ≤ (s.ch p.target.toNat).portCount) ∧
    (∃ (s : State) (p : Pkt),
      Taken 0x1004 p s ∧ p.length = 1 ∧ p.target.toNat < 4 ∧ 65535 < p.w 0) ∧
    (∃ (s : State) (p : Pkt),
      Taken 0x1005 p s ∧ p.length = 1 ∧ p.target.toNat < 4 ∧ p.w 0 ≤ 65535) ∧
    (∃ (s : State) (p : Pkt),
      Taken 0x1005 p s ∧ p.length = 1 ∧ p.target.toNat < 4 ∧ 65535 < p.w 0) ∧
    (∃ (s : State) (p : Pkt),
      Taken 0x1006 p s ∧ p.length = 1 ∧ p.target.toNat < 4 ∧ p.w 0 ≤ 2) ∧
    (∃ (s : State) (p : Pkt),
      Taken 0x1006 p s ∧ p.length = 1 ∧ p.target.toNat < 4 ∧ 2 < p.w 0) ∧
    (∃ (s : State) (p : Pkt),
      Taken 0x1007 p s ∧ p.length = 1 ∧ p.target.toNat < 4 ∧ leAt p.bytes 0 1 ≤ 63 ∧ leAt p.bytes 1 1 ≤ 63 ∧
        leAt p.bytes 2 1 ≤ 63) ∧
    (∃ (s : State) (p : Pkt),
      Taken 0x1007 p s ∧ p.length = 1 ∧ p.target.toNat < 4 ∧
        (63 < leAt p.bytes 0 1 ∨ 63 < leAt p.bytes 1 1 ∨ 63 < leAt p.bytes 2 1)) :=
  ⟨⟨(base.setCh 2 { PonCh.reset with sync := .sync, los := false, act := .o5 }), 2, ⟨false, false, 7, 0, false,
    true, false, 0, [1, 2]⟩, [], by decide +kernel⟩,
   ⟨((base.setCh 2 { PonCh.reset with sync := .sync, los := false, act := .o5, partials := [(7, { data := [1] })] })),
     2, ⟨false, false, 5, 0, false, true, false, 0, []⟩, 7, false, by decide +kernel⟩,
   ⟨(base.setCh 2 { PonCh.reset with sync := .sync, los := false, act := .o5 }), 2, ⟨true, false, 7, 0, false, true,
     false, 0, [1, 2]⟩, [], by decide +kernel⟩,
   ⟨(base.setCh 2 { PonCh.reset with sync := .sync, los := false, act := .o5, ports := [(7, { inForce := true })] }),
     2, ⟨true, false, 7, 1, false, true, false, 0, [1, 2]⟩, [], by decide +kernel⟩,
   ⟨((base.setCh 2 { PonCh.reset with sync := .sync, los := false, act := .o5, ports := [(7, { inForce := true })] })).loadKey 17 0 0 (List.replicate 16 5),
     2, ⟨true, false, 7, 2, false, true, false, 0, [1, 2]⟩, [], List.replicate 16 5, by decide +kernel⟩,
   ⟨(base.setCh 2 { PonCh.reset with sync := .sync, los := false, act := .o5, ports := [(7, { inForce := true })], partials := [(7, { skip := true })] }),
     2, ⟨true, false, 7, 0, false, true, false, 0, [1, 2]⟩, [], by decide +kernel⟩,
   ⟨(base.setCh 2 { PonCh.reset with sync := .sync, los := false, act := .o5, ports := [(7, { inForce := true })] }),
     2, ⟨true, false, 7, 0, false, false, false, 0, [1, 2]⟩, [], by decide +kernel⟩,
   ⟨(base.setCh 2 { PonCh.reset with sync := .sync, los := false, act := .o5, ports := [(7, { inForce := true })] }),
     2, ⟨true, false, 7, 0, false, true, false, 0, List.replicate 10241 0⟩, [], by decide +kernel⟩,
   ⟨(base.setCh 2 { PonCh.reset with sync := .sync, los := false, act := .o5, ports := [(7, { inForce := true })] }),
     2, ⟨true, false, 7, 0, false, true, true, 0, [1, 2]⟩, [], by decide +kernel⟩,
   ⟨(base.setCh 2 { PonCh.reset with sync := .sync, los := false, act := .o5, onuId := some 7 }), 2, ⟨true, false,
     7, 0, false, true, false, 0, [1, 2]⟩, [], by decide +kernel⟩,
   ⟨((base.setCh 2 { PonCh.reset with sync := .sync, los := false, act := .o5, ports := [(7, { inForce := true })] })).fillPool 0 8,
     2, ⟨true, false, 7, 0, false, true, false, 0, [1, 2, 3, 4, 5, 6]⟩, [], 0, [1, 2, 3, 4, 5, 6, 7],
     by decide +kernel⟩,
   ⟨ready 1, pk 1 2 [1, 0x303, 0x50000000, 0x551, 0x1, 0x100, 0x1], by decide +kernel⟩,
   ⟨ready 1, pk 1 2 [1, 2, 3, 4, 5, 6, 7, 8, 9], by decide +kernel⟩,
   ⟨ready 1, pk 1 2 [1, 2, 3, 4], by decide +kernel⟩,
   ⟨ready 1, pk 1 2 [65535], by decide +kernel⟩,
   ⟨(ready 1).setCh 2 { PonCh.reset with ports := [(9, { inForce := true })] }, pk 1 2 [9], by decide +kernel⟩,
   ⟨(ready 1).setCh 2 { PonCh.reset with ports := (List.range 1023).map (fun i => (i, ({ inForce := true } : XPort))) },
     pk 1 2 [65535], by decide +kernel⟩,
   ⟨ready 1, pk 1 2 [65536], by decide +kernel⟩,
   ⟨(ready 1).setCh 2 { PonCh.reset with ports := [(9, { inForce := true })] }, pk 1 2 [9], by decide +kernel⟩,
   ⟨ready 1, pk 1 2 [65536], by decide +kernel⟩,
   ⟨(ready 1).setCh 2 { PonCh.reset with lull := .doze }, pk 1 2 [0], by decide +kernel⟩,
   ⟨ready 1, pk 1 2 [3], by decide +kernel⟩,
   ⟨ready 1, pk 1 2 [0x00030201], by decide +kernel⟩,
   ⟨ready 1, pk 1 2 [0x00034001], by decide +kernel⟩⟩

theorem wit_BufferIdsMoveBetweenAgentsAndPools :
    (∃ (s : State) (agent : Fin 10) (len i : Nat) (id : Nat) (ids : List Nat),
      agent ≠ 0 ∧ len ≤ 10240 ∧ i = (if len ≤ 256 then 0 else if len ≤ 1024 then 1 else if len ≤ 2560
        then 2 else 3) ∧ 0 < (s.pool i).free ∧ (s.pool i).cache = id :: ids) ∧
    (∃ (s : State) (agent : Fin 10) (len i : Nat) (id : Nat) (ids : List Nat),
      agent ≠ 0 ∧ len ≤ 10240 ∧ i = (if len ≤ 256 then 0 else if len ≤ 1024 then 1 else if len ≤ 2560
        then 2 else 3) ∧ 0 < (s.pool i).free ∧ (s.pool i).cache = [] ∧ (s.pool i).fetch.cache = id :: ids ∧
        s.count (C.BUF_CACHE_STALL i) < 0xFFFFFFFE) ∧
    (∃ (s : State) (agent : Fin 10) (len i : Nat) (id : Nat) (ids : List Nat),
      agent ≠ 0 ∧ len ≤ 10240 ∧ i = (if len ≤ 256 then 0 else if len ≤ 1024 then 1 else if len ≤ 2560
        then 2 else 3) ∧ (s.pool i).free = 0 ∧ s.flag (F.BUF_POOL_CFG_FALLOVER i) = true ∧ i < 3 ∧
        0 < (s.pool (i + 1)).free ∧ (s.pool (i + 1)).cache = id :: ids ∧ s.count (C.BUF_FELL_OVER i) < 0xFFFFFFFE) ∧
    (∃ (s : State) (agent : Fin 10) (len i : Nat),
      agent ≠ 0 ∧ len ≤ 10240 ∧ i = (if len ≤ 256 then 0 else if len ≤ 1024 then 1 else if len ≤ 2560
        then 2 else 3) ∧ (s.pool i).free = 0 ∧ (s.flag (F.BUF_POOL_CFG_FALLOVER i) = false ∨ i = 3)) ∧
    (∃ (s : State) (agent : Fin 10) (len : Nat),
      agent ≠ 0 ∧ 10240 < len) ∧
    (∃ (s : State) (id : BitVec 20) (agent dst : Fin 10) (inst : Byte),
      dst ≠ 0 ∧ agent ≠ 0 ∧ s.owner id.toNat = agent.val) ∧
    (∃ (s : State) (id : BitVec 20) (agent dst : Fin 10) (inst : Byte),
      dst ≠ 0 ∧ (agent = 0 ∨ s.owner id.toNat ≠ agent.val)) ∧
    (∃ (s : State) (id : BitVec 20) (agent : Fin 10) (inst : Byte),
      agent ≠ 0 ∧ s.owner id.toNat = agent.val ∧
        (s.buf.limited = false ∨ (s.pool (poolOf id.toNat)).isHigh id.toNat = false)) ∧
    (∃ (s : State) (id : BitVec 20) (agent : Fin 10) (inst : Byte),
      agent ≠ 0 ∧ s.owner id.toNat = agent.val ∧ s.buf.limited = true ∧
        (s.pool (poolOf id.toNat)).isHigh id.toNat = true) ∧
    (∃ (s : State) (id : BitVec 20) (agent : Fin 10) (inst : Byte),
      (agent = 0 ∨ s.owner id.toNat ≠ agent.val)) ∧
    (∃ (s : State) (n : Fin 4) (lost : List Nat) (k : Nat) (r : List Nat × List (Nat × Nat)) (good : List Nat),
      (s.pool n.val).cache.length < 256 ∧ (s.pool n.val).ring ≠ [] ∧ k = min 128 (runsLength (s.pool n.val).ring) ∧
        r = takeRuns k (s.pool n.val).ring ∧ good = loseWords (s.pool n.val).count (s.pool n.val).ringHead lost r.1) ∧
    (∃ (s : State) (n : Fin 4) (lost : List Nat),
      (256 ≤ (s.pool n.val).cache.length ∨ (s.pool n.val).ring = [])) ∧
    (∃ (s : State) (n : Fin 4),
      896 < (s.pool n.val).cache.length) ∧
    (∃ (s : State) (n : Fin 4),
      (s.pool n.val).cache.length ≤ 896) ∧
    (∃ (s : State) (p : Pkt),
      Taken 0x3201 p s ∧ p.length = 4 ∧ p.target = 0 ∧ s.boot.committed = false ∧ s.buf.owner = [] ∧
        carveOk [p.w 0, p.w 1, p.w 2, p.w 3] = true) ∧
    (∃ (s : State) (p : Pkt),
      Taken 0x3201 p s ∧ p.length = 4 ∧ p.target = 0 ∧ (s.boot.committed = true ∨ s.buf.owner ≠ [])) ∧
    (∃ (s : State) (p : Pkt),
      Taken 0x3201 p s ∧ p.length = 4 ∧ p.target = 0 ∧ s.boot.committed = false ∧ s.buf.owner = [] ∧
        carveOk [p.w 0, p.w 1, p.w 2, p.w 3] = false) ∧
    (∃ (s : State) (p : Pkt),
      Taken 0x3202 p s ∧ p.length = 1 ∧ p.target.toNat < 4 ∧ p.w 0 ≤ 1) ∧
    (∃ (s : State) (p : Pkt),
      Taken 0x3202 p s ∧ p.length = 1 ∧ p.target.toNat < 4 ∧ 1 < p.w 0) :=
  ⟨⟨base.fillPool 2 4, 1, 1025, 2, 0x80000, [0x80001, 0x80002, 0x80003], by decide +kernel⟩,
   ⟨base.setPool 1 { count := 300, ring := [(262144, 3)], free := 3 }, 1, 257, 1, 262144, [262145, 262146],
     by decide +kernel⟩,
   ⟨((base.setPool 0 { count := 4 }).fillPool 1 4).setFld (F.BUF_POOL_CFG_FALLOVER 0) 1, 1, 256, 0, 0x40000,
     [0x40001, 0x40002, 0x40003], by decide +kernel⟩,
   ⟨(base.setPool 0 { count := 4 }).setFld (F.BUF_POOL_CFG_FALLOVER 0) 0, 1, 256, 0, by decide +kernel⟩,
   ⟨base, 1, 10241, by decide +kernel⟩,
   ⟨base.setOwner 5 3, 5, 3, 4, 0, by decide +kernel⟩,
   ⟨base.setOwner 5 3, 5, 4, 4, 0, by decide +kernel⟩,
   ⟨base.setOwner 5 3, 5, 3, 0, by decide +kernel⟩,
   ⟨{ base.setOwner 0x3ffff 3 with buf := { (base.setOwner 0x3ffff 3).buf with limited := true } }, 0x3ffff, 3, 0,
     by decide +kernel⟩,
   ⟨base.setOwner 5 3, 5, 4, 0, by decide +kernel⟩,
   ⟨base.setPool 1 { count := 4, ring := [(262144, 2)], free := 2 }, 1, [], 2, ([262144, 262145], []), [262144,
     262145], by decide +kernel⟩,
   ⟨base.setPool 1 { count := 4 }, 1, [], by decide +kernel⟩,
   ⟨base.setPool 1 { count := 1000, cache := List.range 897, free := 897 }, 1, by decide +kernel⟩,
   ⟨base.setPool 1 { count := 4 }, 1, by decide +kernel⟩,
   ⟨ready 3, pk 3 0 [4, 8, 4, 4], by decide +kernel⟩,
   ⟨(ready 3).setOwner 5 3, pk 3 0 [4, 8, 4, 4], by decide +kernel⟩,
   ⟨ready 3, pk 3 0 [4, 8, 4, 5], by decide +kernel⟩,
   ⟨ready 3, pk 3 1 [1], by decide +kernel⟩,
   ⟨ready 3, pk 3 1 [2], by decide +kernel⟩⟩

theorem wit_UpstreamBurstsFollowTheBandwidthMap :
    (∃ (s : State) (c : Fin 4) (gs : List Grant) (bad hlBad : Bool),
      (s.inSync c.val = false ∨ s.nearLoop (40 + c.val) = true)) ∧
    (∃ (s : State) (c : Fin 4) (gs : List Grant) (bad hlBad : Bool),
      s.inSync c.val = true ∧ s.nearLoop (40 + c.val) = false ∧ (bad = true ∨ hlBad = true) ∧
        s.count (C.TC_HDR_DISCARD c.val) < 0xFFFFFFFE) ∧
    (∃ (s : State) (c : Fin 4) (gs : List Grant),
      s.inSync c.val = true ∧ s.nearLoop (40 + c.val) = false ∧
        s.count (C.US_GRANT_UNKNOWN c.val) + gs.length < 0xFFFFFFFE ∧
        s.count (C.US_GRANT_EXCESS c.val) + gs.length < 0xFFFFFFFE) ∧
    (∃ (s : State) (c : Fin 4) (cyc : Nat) (key : Fin 3) (bad : List Nat) (ready : Bool),
      ((s.ch c.val).bursts.head?.map (·.built.isSome)).getD true = true) ∧
    (∃ (s : State) (c : Fin 4) (cyc : Nat) (key : Fin 3) (bad : List Nat) (ready : Bool) (b : BurstPlan) (bs : List BurstPlan),
      (s.ch c.val).bursts = b :: bs ∧ b.built = none ∧
        ((s.ch c.val).txPowered = true ∨ ((s.ch c.val).txWaking = true ∧ ready = true))) ∧
    (∃ (s : State) (c : Fin 4) (cyc : Nat) (key : Fin 3) (bad : List Nat) (ready : Bool) (b : BurstPlan) (bs : List BurstPlan),
      (s.ch c.val).bursts = b :: bs ∧ b.built = none ∧ (s.ch c.val).txPowered = false ∧
        ((s.ch c.val).txWaking = false ∨ ready = false) ∧ s.count (C.US_GRANT_SKIP c.val) < 0xFFFFFFFE) ∧
    (∃ (s : State) (c : Fin 4) (b : BurstPlan) (bs : List BurstPlan) (parts : List BurstPart),
      (s.ch c.val).bursts = b :: bs ∧ b.built = some parts ∧ (s.ch c.val).burstOn = false ∧
        s.nearLoop (40 + c.val) = false ∧ (s.ch c.val).txPowered = true ∧ s.count (C.US_BURSTS c.val) < 0xFFFFFFFE) ∧
    (∃ (s : State) (c : Fin 4) (b : BurstPlan) (bs : List BurstPlan),
      (s.ch c.val).bursts = b :: bs ∧ b.built.isSome = true ∧ (s.ch c.val).burstOn = false ∧
        s.nearLoop (40 + c.val) = true) ∧
    (∃ (s : State) (c : Fin 4) (b : BurstPlan) (bs : List BurstPlan),
      (s.ch c.val).bursts = b :: bs ∧ b.built.isSome = true ∧ (s.ch c.val).burstOn = false ∧
        s.nearLoop (40 + c.val) = false ∧ (s.ch c.val).txPowered = false ∧
        s.count (C.US_GRANT_SKIP c.val) < 0xFFFFFFFE) ∧
    (∃ (s : State) (c : Fin 4) (b : BurstPlan) (bs : List BurstPlan),
      (s.ch c.val).bursts = b :: bs ∧ (s.ch c.val).burstOn = true) ∧
    (∃ (s : State) (c : Fin 4) (ends : Bool),
      ((s.ch c.val).bursts = [] ∨ (s.ch c.val).burstOn = !ends ∨ ((s.ch c.val).burstOn = false ∧
        ((s.ch c.val).bursts.head?.bind (·.built)) = none))) :=
  ⟨⟨base, 2, [⟨0, 1030, 100, 64, 3, false, false, false⟩], false, false, by decide +kernel⟩,
   ⟨(base.setCh 2 { PonCh.reset with sync := .sync, los := false, act := .o5, grants := 3 }), 2, [⟨0, 1030, 100, 64,
     3, false, false, false⟩], false, true, by decide +kernel⟩,
   ⟨(base.setCh 2 { PonCh.reset with sync := .sync, los := false, act := .o5, profiles := [⟨3, 9953280, 3, true⟩] }).setAlloc 7 { state := 2, allocId := 1030, channel := 2 },
     2, [⟨0, 1030, 100, 64, 3, false, false, false⟩], by decide +kernel⟩,
   ⟨base, 2, 40, 0, [], true, by decide +kernel⟩,
   ⟨base.setCh 2 { PonCh.reset with txWaking := true, profiles := [⟨3, 9953280, 3, true⟩], bursts := [{ sfc := 5, grants := [⟨0, 1030, 100, 64, 3, false, false, false⟩] }] },
     2, 40, 0, [], true, { sfc := 5, grants := [⟨0, 1030, 100, 64, 3, false, false, false⟩] }, [], by decide +kernel⟩,
   ⟨base.setCh 2 { PonCh.reset with txPowered := false, lull := .doze, bursts := [{ sfc := 5, grants := [⟨0, 1030, 100, 64, 3, false, false, false⟩] }] },
     2, 40, 0, [], true, { sfc := 5, grants := [⟨0, 1030, 100, 64, 3, false, false, false⟩] }, [], by decide +kernel⟩,
   ⟨base.setCh 2 { PonCh.reset with txPowered := true, bursts := [{ sfc := 5, grants := [], built := some [.trailer] }] },
     2, { sfc := 5, grants := [], built := some [.trailer] }, [], [.trailer], by decide +kernel⟩,
   ⟨(base.setCh 2 { PonCh.reset with txPowered := true, bursts := [{ sfc := 5, grants := [], built := some [.trailer] }] }).setFld (F.LANE_CFG_LOOP 42) 1,
     2, { sfc := 5, grants := [], built := some [.trailer] }, [], by decide +kernel⟩,
   ⟨base.setCh 2 { PonCh.reset with bursts := [{ sfc := 5, grants := [], built := some [.trailer] }] }, 2,
     { sfc := 5, grants := [], built := some [.trailer] }, [], by decide +kernel⟩,
   ⟨base.setCh 2 { PonCh.reset with txPowered := true, burstOn := true, sleepDue := true, lull := .doze, bursts := [{ sfc := 5, grants := [], built := some [.ploamu { kind := 3 }] }] },
     2, { sfc := 5, grants := [], built := some [.ploamu { kind := 3 }] }, [], by decide +kernel⟩,
   ⟨base, 2, true, by decide +kernel⟩⟩

theorem wit_BondGroupsAndAllocationContextsLoadAndRead :
    (∃ (s : State) (p : Pkt) (first n : Nat) (hs : List (List Byte)),
      Taken 0x10F0 p s ∧ p.target = 0 ∧ ctxLoadLen p = none ∧ first = p.ctxFirst ∧ n = p.ctxCount ∧ p.w 1 ≤ 1 ∧
        0 < n ∧ n ≤ 16 ∧ first + n ≤ 256 ∧ s.ddrReady = true ∧ p.inline = true ∧
        hs = (List.range n).map (fun k => sliceB p.bytes (8 + 64 * k) 64) ∧
        firstBad (allocCheck s hs) first hs = none) ∧
    (∃ (s : State) (p : Pkt) (first n : Nat) (hs : List (List Byte)),
      Taken 0x10F0 p s ∧ p.target = 0 ∧ ctxLoadLen p = none ∧ first = p.ctxFirst ∧ n = p.ctxCount ∧ p.w 1 ≤ 1 ∧
        0 < n ∧ n ≤ 16 ∧ first + n ≤ 256 ∧ s.ddrReady = true ∧ p.inline = false ∧
        (s.afterTake p).halves 0x6000 first n = .inl hs ∧ firstBad (allocCheck s hs) first hs = none) ∧
    (∃ (s : State) (p : Pkt) (first n : Nat) (i : Nat),
      Taken 0x10F0 p s ∧ p.target = 0 ∧ ctxLoadLen p = none ∧ first = p.ctxFirst ∧ n = p.ctxCount ∧ p.w 1 ≤ 1 ∧
        0 < n ∧ n ≤ 16 ∧ first + n ≤ 256 ∧ s.ddrReady = true ∧ p.inline = false ∧
        (s.afterTake p).halves 0x6000 first n = .inr i) ∧
    (∃ (s : State) (p : Pkt) (first n : Nat) (hs : List (List Byte)) (i st : Nat),
      Taken 0x10F0 p s ∧ p.target = 0 ∧ ctxLoadLen p = none ∧ first = p.ctxFirst ∧ n = p.ctxCount ∧ p.w 1 ≤ 1 ∧
        0 < n ∧ n ≤ 16 ∧ first + n ≤ 256 ∧ s.ddrReady = true ∧ p.inline = true ∧
        hs = (List.range n).map (fun k => sliceB p.bytes (8 + 64 * k) 64) ∧
        firstBad (allocCheck s hs) first hs = some (i, st)) ∧
    (∃ (s : State) (p : Pkt) (first n : Nat),
      Taken 0x10F0 p s ∧ p.target = 0 ∧ ctxLoadLen p = none ∧ first = p.ctxFirst ∧ n = p.ctxCount ∧ p.w 1 ≤ 1 ∧
        0 < n ∧ n ≤ 16 ∧ first + n ≤ 256 ∧ s.ddrReady = false) ∧
    (∃ (s : State) (p : Pkt) (first n : Nat),
      Taken 0x10F0 p s ∧ p.target = 0 ∧ ctxLoadLen p = none ∧ first = p.ctxFirst ∧ n = p.ctxCount ∧
        (n < 1 ∨ 16 < n ∨ 256 < first + n ∨ 1 < p.w 1)) ∧
    (∃ (s : State) (p : Pkt) (first n : Nat),
      Taken 0x10F1 p s ∧ p.target = 0 ∧ p.length = 1 ∧ first = p.ctxFirst ∧ n = p.ctxCount ∧ 0 < n ∧ n ≤ 32 ∧
        first + n ≤ 256) ∧
    (∃ (s : State) (p : Pkt) (first n : Nat),
      Taken 0x10F1 p s ∧ p.target = 0 ∧ p.length = 1 ∧ first = p.ctxFirst ∧ n = p.ctxCount ∧
        (n < 1 ∨ 32 < n ∨ 256 < first + n)) ∧
    (∃ (s : State) (p : Pkt) (first n : Nat) (hs : List (List Byte)),
      Taken 0x11F0 p s ∧ p.target = 0 ∧ ctxLoadLen p = none ∧ first = p.ctxFirst ∧ n = p.ctxCount ∧ p.w 1 ≤ 1 ∧
        0 < n ∧ n ≤ 16 ∧ first + n ≤ 4 ∧ s.ddrReady = true ∧ p.inline = true ∧
        hs = (List.range n).map (fun k => sliceB p.bytes (8 + 64 * k) 64) ∧
        firstBad (bondCheck first s hs) first hs = none) ∧
    (∃ (s : State) (p : Pkt) (first n : Nat) (hs : List (List Byte)),
      Taken 0x11F0 p s ∧ p.target = 0 ∧ ctxLoadLen p = none ∧ first = p.ctxFirst ∧ n = p.ctxCount ∧ p.w 1 ≤ 1 ∧
        0 < n ∧ n ≤ 16 ∧ first + n ≤ 4 ∧ s.ddrReady = true ∧ p.inline = false ∧
        (s.afterTake p).halves 0xE000 first n = .inl hs ∧ firstBad (bondCheck first s hs) first hs = none) ∧
    (∃ (s : State) (p : Pkt) (first n : Nat) (i : Nat),
      Taken 0x11F0 p s ∧ p.target = 0 ∧ ctxLoadLen p = none ∧ first = p.ctxFirst ∧ n = p.ctxCount ∧ p.w 1 ≤ 1 ∧
        0 < n ∧ n ≤ 16 ∧ first + n ≤ 4 ∧ s.ddrReady = true ∧ p.inline = false ∧
        (s.afterTake p).halves 0xE000 first n = .inr i) ∧
    (∃ (s : State) (p : Pkt) (first n : Nat) (hs : List (List Byte)) (i st : Nat),
      Taken 0x11F0 p s ∧ p.target = 0 ∧ ctxLoadLen p = none ∧ first = p.ctxFirst ∧ n = p.ctxCount ∧ p.w 1 ≤ 1 ∧
        0 < n ∧ n ≤ 16 ∧ first + n ≤ 4 ∧ s.ddrReady = true ∧ p.inline = true ∧
        hs = (List.range n).map (fun k => sliceB p.bytes (8 + 64 * k) 64) ∧
        firstBad (bondCheck first s hs) first hs = some (i, st)) ∧
    (∃ (s : State) (p : Pkt) (first n : Nat),
      Taken 0x11F0 p s ∧ p.target = 0 ∧ ctxLoadLen p = none ∧ first = p.ctxFirst ∧ n = p.ctxCount ∧ p.w 1 ≤ 1 ∧
        0 < n ∧ n ≤ 16 ∧ first + n ≤ 4 ∧ s.ddrReady = false) ∧
    (∃ (s : State) (p : Pkt) (first n : Nat),
      Taken 0x11F0 p s ∧ p.target = 0 ∧ ctxLoadLen p = none ∧ first = p.ctxFirst ∧ n = p.ctxCount ∧
        (n < 1 ∨ 16 < n ∨ 4 < first + n ∨ 1 < p.w 1)) ∧
    (∃ (s : State) (p : Pkt) (first n : Nat),
      Taken 0x11F1 p s ∧ p.target = 0 ∧ p.length = 1 ∧ first = p.ctxFirst ∧ n = p.ctxCount ∧ 0 < n ∧ n ≤ 32 ∧
        first + n ≤ 4) ∧
    (∃ (s : State) (p : Pkt) (first n : Nat),
      Taken 0x11F1 p s ∧ p.target = 0 ∧ p.length = 1 ∧ first = p.ctxFirst ∧ n = p.ctxCount ∧
        (n < 1 ∨ 32 < n ∨ 4 < first + n)) ∧
    (∃ (s : State) (p : Pkt),
      Taken 0x1101 p s ∧ p.length = 1 ∧ p.target = 0 ∧ p.w 0 ≤ 65535) ∧
    (∃ (s : State) (p : Pkt),
      Taken 0x1101 p s ∧ p.length = 1 ∧ p.target = 0 ∧ 65535 < p.w 0) ∧
    (∃ (s : State) (p : Pkt),
      Taken 0x1102 p s ∧ p.length = 1 ∧ p.target.toNat < 4 ∧ p.w 0 ≤ 63) ∧
    (∃ (s : State) (p : Pkt),
      Taken 0x1102 p s ∧ p.length = 1 ∧ p.target.toNat < 4 ∧ 63 < p.w 0) :=
  ⟨⟨ddr ((ready 1).setAlloc 7 { state := 1, allocId := 1030, channel := 2 }), pk 1 0 [0x10007, 1, 0x005, 0, 0, 0, 0,
    0, 0, 0, 0, 0, 0, 0, 0, 0, 0, 0], 7, 1, [leBytes 4 5 ++ List.replicate 60 0], by decide +kernel⟩,
   ⟨ddr ((ready 1).setAlloc 7 { state := 1, allocId := 1030, channel := 2 }), pk 1 0 [0x10007, 0], 7, 1,
     [List.replicate 64 0], by decide +kernel⟩,
   ⟨(ddr (ready 1)).setDdr 796 0x01000100, pk 1 0 [65543, 0], 7, 1, 7, by decide +kernel⟩,
   ⟨ddr ((ready 1).setAlloc 7 { state := 1, allocId := 1030, channel := 2 }), pk 1 0 [0x10007, 1, 0x1FF01FF, 0, 0,
     0, 0, 0, 0, 0, 0, 0, 0, 0, 0, 0, 0, 0], 7, 1, [leBytes 4 0x1FF01FF ++ List.replicate 60 0], 7, stBadParam,
     by decide +kernel⟩,
   ⟨ready 1, pk 1 0 [65543, 0], 7, 1, by decide +kernel⟩,
   ⟨ready 1, pk 1 0 [65543, 2], 7, 1, by decide +kernel⟩,
   ⟨ready 1, pk 1 0 [65543], 7, 1, by decide +kernel⟩,
   ⟨ready 1, pk 1 0 [7], 7, 0, by decide +kernel⟩,
   ⟨ddr (ready 1), pk 1 0 [0x10001, 1, 0x01030000, 0, 4096, 1, 0, 0, 0, 0, 1, 0, 0, 0, 0, 0, 0, 0], 1, 1,
     [leBytes 4 0x01030000 ++ leBytes 4 0 ++ leBytes 4 4096 ++ leBytes 4 1 ++ List.replicate 16 0 ++ leBytes 4 1 ++
     List.replicate 28 0], by decide +kernel⟩,
   ⟨ddr (ready 1), pk 1 0 [0x10001, 0], 1, 1, [List.replicate 64 0], by decide +kernel⟩,
   ⟨(ddr (ready 1)).setDdr 1796 0x01000100, pk 1 0 [65537, 0], 1, 1, 1, by decide +kernel⟩,
   ⟨ddr (ready 1), pk 1 0 [0x10001, 1, 0xF1030000, 0, 4096, 1, 0, 0, 0, 0, 1, 0, 0, 0, 0, 0, 0, 0], 1, 1,
     [leBytes 4 0xF1030000 ++ (leBytes 4 0x01030000 ++ leBytes 4 0 ++ leBytes 4 4096 ++ leBytes 4 1 ++
     List.replicate 16 0 ++ leBytes 4 1 ++ List.replicate 28 0).drop 4], 1, stBadParam, by decide +kernel⟩,
   ⟨ready 1, pk 1 0 [65537, 0], 1, 1, by decide +kernel⟩,
   ⟨ready 1, pk 1 0 [65537, 2], 1, 1, by decide +kernel⟩,
   ⟨ready 1, pk 1 0 [65537], 1, 1, by decide +kernel⟩,
   ⟨ready 1, pk 1 0 [1], 1, 0, by decide +kernel⟩,
   ⟨ready 1, pk 1 0 [300], by decide +kernel⟩,
   ⟨ready 1, pk 1 0 [65536], by decide +kernel⟩,
   ⟨ready 1, pk 1 3 [63], by decide +kernel⟩,
   ⟨ready 1, pk 1 3 [64], by decide +kernel⟩⟩

theorem wit_BondingDeliversTaggedFramesInOrder :
    (∃ (s : State),
      s.bonding.input = []) ∧
    (∃ (s : State) (x : BondSdu) (xs : List BondSdu),
      s.bonding.input = x :: xs ∧ (s.group x.group).tagBad x.frame.bytes = false ∧ tagStatus x.frame.bytes = true) ∧
    (∃ (s : State) (x : BondSdu) (xs : List BondSdu),
      s.bonding.input = x :: xs ∧ (s.group x.group).tagBad x.frame.bytes = true ∧
        s.count (C.BOND_TAG_BAD x.group) < 0xFFFFFFFE) ∧
    (∃ (s : State) (x : BondSdu) (xs : List BondSdu),
      s.bonding.input = x :: xs ∧ (s.group x.group).tagBad x.frame.bytes = false ∧ tagStatus x.frame.bytes = false ∧
        s.count (C.BOND_TAGGED x.group) < 0xFFFFFFFE ∧
        ((s.group x.group).enabled = false ∨ (s.group x.group).reseq = false)) ∧
    (∃ (s : State) (x : BondSdu) (xs : List BondSdu),
      s.bonding.input = x :: xs ∧ (s.group x.group).tagBad x.frame.bytes = false ∧ tagStatus x.frame.bytes = false ∧
        s.count (C.BOND_TAGGED x.group) < 0xFFFFFFFE ∧ (s.group x.group).enabled = true ∧
        (s.group x.group).reseq = true ∧ (s.group x.group).held = [] ∧
        ((s.group x.group).nextSet = false ∨ (s.group x.group).next = tagSeq x.frame.bytes)) ∧
    (∃ (s : State) (x : BondSdu) (xs : List BondSdu) (b : BondCtx),
      s.bonding.input = x :: xs ∧ (s.group x.group).tagBad x.frame.bytes = false ∧ tagStatus x.frame.bytes = false ∧
        s.count (C.BOND_TAGGED x.group) < 0xFFFFFFFE ∧ (s.group x.group).enabled = true ∧
        (s.group x.group).reseq = true ∧ (s.group x.group).held = [] ∧ (s.group x.group).nextSet = true ∧
        0 < seqDist (s.group x.group).next (tagSeq x.frame.bytes) ∧
        seqDist (s.group x.group).next (tagSeq x.frame.bytes) < 4096 ∧
        b = { (s.group x.group).noteLast x.ch (tagLast x.frame.bytes) with held := [⟨tagSeq x.frame.bytes, { x.frame with bytes := (x.frame.bytes.drop 8).take (x.frame.bytes.length - 12) }⟩] } ∧
        b.heldSize ≤ b.holdKb * 1024 ∧ b.allPassed = false) ∧
    (∃ (s : State) (x : BondSdu) (xs : List BondSdu),
      s.bonding.input = x :: xs ∧ (s.group x.group).tagBad x.frame.bytes = false ∧ tagStatus x.frame.bytes = false ∧
        s.count (C.BOND_TAGGED x.group) < 0xFFFFFFFE ∧ (s.group x.group).enabled = true ∧
        (s.group x.group).reseq = true ∧ (s.group x.group).nextSet = true ∧
        0 < seqDist (s.group x.group).next (tagSeq x.frame.bytes) ∧
        seqDist (s.group x.group).next (tagSeq x.frame.bytes) < 4096 ∧
        (s.group x.group).held.any (fun h => h.seq == tagSeq x.frame.bytes) = true ∧
        s.count (C.BOND_DUP x.group) < 0xFFFFFFFE) ∧
    (∃ (s : State) (x : BondSdu) (xs : List BondSdu),
      s.bonding.input = x :: xs ∧ (s.group x.group).tagBad x.frame.bytes = false ∧ tagStatus x.frame.bytes = false ∧
        s.count (C.BOND_TAGGED x.group) < 0xFFFFFFFE ∧ (s.group x.group).enabled = true ∧
        (s.group x.group).reseq = true ∧ (s.group x.group).nextSet = true ∧
        0x800000 ≤ seqDist (s.group x.group).next (tagSeq x.frame.bytes) ∧
        s.count (C.BOND_LATE x.group) < 0xFFFFFFFE) ∧
    (∃ (s : State) (x : BondSdu) (xs : List BondSdu),
      s.bonding.input = x :: xs ∧ (s.group x.group).tagBad x.frame.bytes = false ∧ tagStatus x.frame.bytes = false ∧
        s.count (C.BOND_TAGGED x.group) < 0xFFFFFFFE ∧ (s.group x.group).enabled = true ∧
        (s.group x.group).reseq = true ∧ (s.group x.group).nextSet = true ∧
        4096 ≤ seqDist (s.group x.group).next (tagSeq x.frame.bytes) ∧
        seqDist (s.group x.group).next (tagSeq x.frame.bytes) < 0x800000 ∧
        s.count (C.BOND_BEYOND x.group) < 0xFFFFFFFE) ∧
    (∃ (s : State) (g : Fin 4) (waited : Nat),
      ((s.group g.val).held = [] ∨ waited < (s.group g.val).holdUs)) ∧
    (∃ (s : State) (g : Fin 4) (waited : Nat),
      (s.group g.val).held ≠ [] ∧ (s.group g.val).holdUs ≤ waited ∧ (∀ h ∈ (s.group g.val).held, h.seq < 2 ^ 24)) ∧
    (∃ (s : State) (x : BondSdu) (xs : List BondSdu),
      s.bonding.input = x :: xs ∧ (s.group x.group).tagBad x.frame.bytes = false ∧ tagStatus x.frame.bytes = true ∧
        s.count (C.BOND_TAGGED x.group) < 0xFFFFFFFE) ∧
    (∃ (s : State) (x : BondSdu) (xs : List BondSdu),
      s.bonding.input = x :: xs ∧ ((s.group x.group).tagBad x.frame.bytes = true ∨ tagStatus x.frame.bytes = false)) ∧
    (∃ (s : State),
      s.fld F.BOND_STAT_CTL_PERIOD ≠ 0 ∧ s.tick.count.toNat % (s.fld F.BOND_STAT_CTL_PERIOD * 48000) = 0) ∧
    (∃ (s : State),
      (s.fld F.BOND_STAT_CTL_PERIOD = 0 ∨ s.tick.count.toNat % (s.fld F.BOND_STAT_CTL_PERIOD * 48000) ≠ 0)) :=
  ⟨⟨base, by decide +kernel⟩,
   ⟨{ base with bonding := { base.bonding with input := [⟨2, 1, { buf := 5, src := 26, bytes := [1, 2, 0, 0, 0, 0, 0, 0, 0, 0, 1, 0, 0, 0] }⟩], groups := [(1, { enabled := true, nextSet := true, next := 9, host := [0, 0, 6, 3] })] } },
     ⟨2, 1, { buf := 5, src := 26, bytes := [1, 2, 0, 0, 0, 0, 0, 0, 0, 0, 1, 0, 0, 0] }⟩, [], by decide +kernel⟩,
   ⟨{ base.setOwner 5 agBond with bonding := { base.bonding with input := [⟨2, 1, { buf := 5, src := 26, bytes := [1, 2] }⟩], groups := [(1,  {})] } },
     ⟨2, 1, { buf := 5, src := 26, bytes := [1, 2] }⟩, [], by decide +kernel⟩,
   ⟨{ base with bonding := { base.bonding with input := [⟨2, 1, { buf := 5, src := 26, bytes := [1, 0, 0, 0, 0, 0, 0, 9, 9, 9, 9, 9, 1, 2, 3, 4] }⟩], groups := [(1, { enabled := false, nextSet := true, next := 9, host := [0, 0, 6, 2] })] } },
     ⟨2, 1, { buf := 5, src := 26, bytes := [1, 0, 0, 0, 0, 0, 0, 9, 9, 9, 9, 9, 1, 2, 3, 4] }⟩, [],
     by decide +kernel⟩,
   ⟨{ base with bonding := { base.bonding with input := [⟨2, 1, { buf := 5, src := 26, bytes := [1, 0, 0, 0, 0, 0, 0, 9, 9, 9, 9, 9, 1, 2, 3, 4] }⟩], groups := [(1, { enabled := true, nextSet := true, next := 9, host := [0, 0, 6, 3] })] } },
     ⟨2, 1, { buf := 5, src := 26, bytes := [1, 0, 0, 0, 0, 0, 0, 9, 9, 9, 9, 9, 1, 2, 3, 4] }⟩, [],
     by decide +kernel⟩,
   ⟨{ base with bonding := { base.bonding with input := [⟨2, 1, { buf := 5, src := 26, bytes := [1, 0, 0, 0, 0, 0, 0, 11, 9, 9, 9, 9, 1, 2, 3, 4] }⟩], groups := [(1, { enabled := true, nextSet := true, next := 9, host := [0, 0, 6, 3], dsAct := 6 })] } },
     ⟨2, 1, { buf := 5, src := 26, bytes := [1, 0, 0, 0, 0, 0, 0, 11, 9, 9, 9, 9, 1, 2, 3, 4] }⟩, [],
     { enabled := true, nextSet := true, next := 9, host := [0, 0, 6, 3], dsAct := 6, held := [⟨11, { buf := 5, src := 26, bytes := [9, 9, 9, 9] }⟩] },
     by decide +kernel⟩,
   ⟨{ base.setOwner 5 agBond with bonding := { base.bonding with input := [⟨2, 1, { buf := 5, src := 26, bytes := [1, 0, 0, 0, 0, 0, 0, 11, 9, 9, 9, 9, 1, 2, 3, 4] }⟩], groups := [(1, { enabled := true, nextSet := true, next := 9, host := [0, 0, 6, 3], held := [⟨11, {}⟩] })] } },
     ⟨2, 1, { buf := 5, src := 26, bytes := [1, 0, 0, 0, 0, 0, 0, 11, 9, 9, 9, 9, 1, 2, 3, 4] }⟩, [],
     by decide +kernel⟩,
   ⟨{ base with bonding := { base.bonding with input := [⟨2, 1, { buf := 5, src := 26, bytes := [1, 0, 0, 0, 0, 0, 0, 8, 9, 9, 9, 9, 1, 2, 3, 4] }⟩], groups := [(1, { enabled := true, nextSet := true, next := 9, host := [0, 0, 6, 11] })] } },
     ⟨2, 1, { buf := 5, src := 26, bytes := [1, 0, 0, 0, 0, 0, 0, 8, 9, 9, 9, 9, 1, 2, 3, 4] }⟩, [],
     by decide +kernel⟩,
   ⟨{ base with bonding := { base.bonding with input := [⟨2, 1, { buf := 5, src := 26, bytes := [1, 0, 0, 0, 0, 0, 32, 9, 9, 9, 9, 9, 1, 2, 3, 4] }⟩], groups := [(1, { enabled := true, nextSet := true, next := 9, host := [0, 0, 6, 3], dsAct := 6 })] } },
     ⟨2, 1, { buf := 5, src := 26, bytes := [1, 0, 0, 0, 0, 0, 32, 9, 9, 9, 9, 9, 1, 2, 3, 4] }⟩, [],
     by decide +kernel⟩,
   ⟨base, 1, 5000, by decide +kernel⟩,
   ⟨{ base with bonding := { base.bonding with groups := [(1, { enabled := true, nextSet := true, next := 3, held := [⟨5, { bytes := [7] }⟩, ⟨8, {}⟩] })] } },
     1, 200, by decide +kernel⟩,
   ⟨{ base with bonding := { base.bonding with input := [⟨2, 1, { buf := 5, src := 26, bytes := [1, 2, 0, 0, 0, 0, 0, 0, 0, 0, 1, 0, 0, 0] }⟩], groups := [(1, { enabled := true, nextSet := true, next := 9, host := [0, 0, 6, 3] })] } },
     ⟨2, 1, { buf := 5, src := 26, bytes := [1, 2, 0, 0, 0, 0, 0, 0, 0, 0, 1, 0, 0, 0] }⟩, [], by decide +kernel⟩,
   ⟨{ base with bonding := { base.bonding with input := [⟨2, 1, { buf := 5, src := 26, bytes := [1, 0, 0, 0, 0, 0, 0, 9, 9, 9, 9, 9, 1, 2, 3, 4] }⟩], groups := [(1, { enabled := true, nextSet := true, next := 9, host := [0, 0, 6, 3] })] } },
     ⟨2, 1, { buf := 5, src := 26, bytes := [1, 0, 0, 0, 0, 0, 0, 9, 9, 9, 9, 9, 1, 2, 3, 4] }⟩, [],
     by decide +kernel⟩,
   ⟨base.setFld F.BOND_STAT_CTL_PERIOD 1, by decide +kernel⟩,
   ⟨base, by decide +kernel⟩⟩

theorem wit_EnginesStartStopAndResetByCommand :
    (∃ (s : State) (e : Fin 96),
      (s.eng e.val).st = .stopped ∧ (s.eng e.val).slab.ready = true) ∧
    (∃ (s : State) (e : Fin 96),
      ((s.eng e.val).st ≠ .stopped ∨ (s.eng e.val).slab.ready = false)) ∧
    (∃ (s : State) (e : Fin 96),
      (s.eng e.val).st = .running) ∧
    (∃ (s : State) (e : Fin 96),
      (s.eng e.val).st ≠ .running) ∧
    (∃ (s : State) (e : Fin 96),
      ((s.eng e.val).st = .stopped ∨ (s.eng e.val).st = .halted ∨ ((s.eng e.val).st = .retired ∧ s.running = 0))) ∧
    (∃ (s : State) (e : Fin 96),
      ((s.eng e.val).st = .running ∨ (s.eng e.val).st = .off ∨ (s.eng e.val).st = .spare ∨
        (s.eng e.val).st = .retiring ∨ ((s.eng e.val).st = .retired ∧ s.running ≠ 0))) ∧
    (∃ (s : State) (p : Pkt),
      Taken 0x2107 p s ∧ p.length = 1 ∧ p.target.toNat < 96 ∧ s.overcast = false ∧
        (s.eng p.target.toNat).st = .stopped ∧ (s.eng p.target.toNat).slab.ready = true) ∧
    (∃ (s : State) (p : Pkt),
      Taken 0x2107 p s ∧ p.length = 1 ∧ p.target.toNat < 96 ∧
        (s.overcast = true ∨ (s.eng p.target.toNat).st ≠ .stopped ∨ (s.eng p.target.toNat).slab.ready = false)) ∧
    (∃ (s : State) (p : Pkt),
      Taken 0x2107 p s ∧ p.length = 1 ∧ p.target.toNat < 96 ∧ (s.eng p.target.toNat).st = .running) ∧
    (∃ (s : State) (p : Pkt),
      Taken 0x2107 p s ∧ p.length = 1 ∧ p.target.toNat < 96 ∧ (s.eng p.target.toNat).st ≠ .running) ∧
    (∃ (s : State) (p : Pkt) (pass : Bool),
      Taken 0x2107 p s ∧ p.length = 1 ∧ p.target.toNat < 96 ∧
        ((s.eng p.target.toNat).st = .stopped ∨ (s.eng p.target.toNat).st = .halted ∨
        ((s.eng p.target.toNat).st = .retired ∧ s.running = 0 ∧
        sparseGet (fun _ => false) s.jrn.core.eng p.target.toNat = false))) ∧
    (∃ (s : State) (p : Pkt),
      Taken 0x2107 p s ∧ p.length = 1 ∧ p.target.toNat < 96 ∧ (s.eng p.target.toNat).st = .retired ∧ s.running = 0 ∧
        sparseGet (fun _ => false) s.jrn.core.eng p.target.toNat = true) ∧
    (∃ (s : State) (p : Pkt),
      Taken 0x2107 p s ∧ p.length = 1 ∧ p.target.toNat < 96 ∧ (s.eng p.target.toNat).st = .retired ∧ s.running = 0 ∧
        sparseGet (fun _ => false) s.jrn.core.eng p.target.toNat = true) ∧
    (∃ (s : State) (p : Pkt) (pass : Bool),
      Taken 0x2107 p s ∧ p.length = 1 ∧ p.target.toNat < 96 ∧
        ((s.eng p.target.toNat).st = .running ∨ (s.eng p.target.toNat).st = .off ∨
        (s.eng p.target.toNat).st = .spare ∨ (s.eng p.target.toNat).st = .retiring ∨
        ((s.eng p.target.toNat).st = .retired ∧ s.running ≠ 0))) ∧
    (∃ (s : State) (p : Pkt) (g k : Nat),
      Taken 0x2107 p s ∧ p.length = 1 ∧ p.target.toNat < 96 ∧ s.serves p.target.toNat = some (g, k) ∧
        s.groupRuns g = true ∧ ((s.eng p.target.toNat).st = .running ∨ (s.eng p.target.toNat).st = .halted) ∧
        s.spareFor g = none) ∧
    (∃ (s : State) (p : Pkt) (g k sp : Nat),
      Taken 0x2107 p s ∧ p.length = 1 ∧ p.target.toNat < 96 ∧ s.serves p.target.toNat = some (g, k) ∧
        s.groupRuns g = true ∧ ((s.eng p.target.toNat).st = .running ∨ (s.eng p.target.toNat).st = .halted) ∧
        s.spareFor g = some sp ∧ sp ≠ p.target.toNat ∧ (s.eng p.target.toNat).slab.atRest = true ∧
        s.vec.retiring = []) ∧
    (∃ (s : State) (p : Pkt) (g k : Nat),
      Taken 0x2107 p s ∧ p.length = 1 ∧ p.target.toNat < 96 ∧ s.serves p.target.toNat = some (g, k) ∧
        s.groupRuns g = true ∧ ((s.eng p.target.toNat).st = .running ∨ (s.eng p.target.toNat).st = .halted) ∧
        (s.spareFor g).isSome = true ∧ ((s.eng p.target.toNat).slab.atRest = false ∨
        s.vec.retiring.any (fun r => r.copying) = true) ∧
        s.vec.retiring.all (fun r => r.copying || r.copied) = true) ∧
    (∃ (s : State) (p : Pkt),
      Taken 0x2107 p s ∧ p.length = 1 ∧ p.target.toNat < 96 ∧ s.serves p.target.toNat = none) ∧
    (∃ (s : State) (p : Pkt) (g k : Nat),
      Taken 0x2107 p s ∧ p.length = 1 ∧ p.target.toNat < 96 ∧ s.serves p.target.toNat = some (g, k) ∧
        (s.groupRuns g = false ∨ ((s.eng p.target.toNat).st ≠ .running ∧ (s.eng p.target.toNat).st ≠ .halted))) ∧
    (∃ (s : State) (p : Pkt) (g k : Nat),
      Taken 0x2107 p s ∧ p.length = 1 ∧ p.target.toNat < 96 ∧ s.serves p.target.toNat = some (g, k) ∧
        s.overcast = false ∧ s.groupRuns g = true ∧ (s.eng p.target.toNat).st = .stopped ∧
        (s.eng p.target.toNat).loaded = true ∧ (s.eng p.target.toNat).slab.ready = true) ∧
    (∃ (s : State) (p : Pkt) (g k : Nat),
      Taken 0x2107 p s ∧ p.length = 1 ∧ p.target.toNat < 96 ∧ s.serves p.target.toNat = some (g, k) ∧
        (s.overcast = true ∨ s.groupRuns g = false ∨ (s.eng p.target.toNat).st ≠ .stopped ∨
        (s.eng p.target.toNat).loaded = false ∨ (s.eng p.target.toNat).slab.ready = false)) :=
  ⟨⟨(base.setEng 5 { slab := { mode := 2, ready := true } }), 5, by decide +kernel⟩,
   ⟨base, 5, by decide +kernel⟩,
   ⟨(base.setEng 5 { st := .running, pc := 9, rep := some 4 }), 5, by decide +kernel⟩,
   ⟨base, 5, by decide +kernel⟩,
   ⟨(base.setEng 5 { st := .halted, pc := 9 }), 5, by decide +kernel⟩,
   ⟨(base.setEng 5 { st := .running, pc := 9 }), 5, by decide +kernel⟩,
   ⟨((ready 2).setEng 5 { slab := { mode := 2, ready := true } }), pk 2 5 [1], by decide +kernel⟩,
   ⟨ready 2, pk 2 5 [1], by decide +kernel⟩,
   ⟨((ready 2).setEng 5 { st := .running }), pk 2 5 [2], by decide +kernel⟩,
   ⟨ready 2, pk 2 5 [2], by decide +kernel⟩,
   ⟨((ready 2).setEng 5 { st := .halted }), pk 2 5 [3], true, by decide +kernel⟩,
   ⟨{ ((ready 2).setEng 5 { st := .retired }) with jrn := { base.jrn with core := { base.jrn.core with eng := [(5, true)] } } },
     pk 2 5 [3], by decide +kernel⟩,
   ⟨{ ((ready 2).setEng 5 { st := .retired }) with jrn := { base.jrn with core := { base.jrn.core with eng := [(5, true)] } } },
     pk 2 5 [3], by decide +kernel⟩,
   ⟨((ready 2).setEng 5 { st := .running }), pk 2 5 [3], true, by decide +kernel⟩,
   ⟨(((ready 2).setVg 1 { state := 2, tgs := [{ eng := 5, tones := 4 }] }).setEng 5 { st := .running }), pk 2 5 [4],
     1, 0, by decide +kernel⟩,
   ⟨((((ready 2).setVg 1 { state := 2, tgs := [{ eng := 5, tones := 4 }] }).setEng 5 { st := .running, slab := { mode := 2, ready := true } }).setEng 9 { st := .spare, spareOf := some 1, slab := { mode := 2, ready := true } }),
     pk 2 5 [4], 1, 0, 9, by decide +kernel⟩,
   ⟨((((ready 2).setVg 1 { state := 2, tgs := [{ eng := 5, tones := 4 }] }).setEng 5 { st := .running }).setEng 9 { st := .spare, spareOf := some 1, slab := { mode := 2, ready := true } }),
     pk 2 5 [4], 1, 0, by decide +kernel⟩,
   ⟨ready 2, pk 2 5 [4], by decide +kernel⟩,
   ⟨(((ready 2).setVg 1 { state := 2, tgs := [{ eng := 5, tones := 4 }] }).setEng 5 { st := .stopped }), pk 2 5 [4],
     1, 0, by decide +kernel⟩,
   ⟨(((ready 2).setVg 1 { state := 2, tgs := [{ eng := 5, tones := 4 }] }).setEng 5 { kernel := some 3, slab := { mode := 2, ready := true } }),
     pk 2 5 [5], 1, 0, by decide +kernel⟩,
   ⟨(((ready 2).setVg 1 { state := 2, tgs := [{ eng := 5, tones := 4 }] }).setEng 5 { st := .stopped }), pk 2 5 [5],
     1, 0, by decide +kernel⟩⟩

theorem wit_SlabsChangeModeScrubAndReload :
    (∃ (s : State) (e : Fin 96),
      (s.eng e.val).st ≠ .running ∧ (s.eng e.val).slab.working = true) ∧
    (∃ (s : State) (e : Fin 96),
      (s.eng e.val).st ≠ .running ∧ (s.eng e.val).slab.working = false ∧ (s.eng e.val).slab.mode ≠ 0) ∧
    (∃ (s : State) (e : Fin 96),
      (s.eng e.val).st ≠ .running ∧ (s.eng e.val).slab.working = false ∧ (s.eng e.val).slab.mode = 0) ∧
    (∃ (s : State) (e : Fin 96),
      (s.eng e.val).st ≠ .running ∧ (s.eng e.val).slab.working = true) ∧
    (∃ (s : State) (e : Fin 96),
      (s.eng e.val).st ≠ .running ∧ (s.eng e.val).slab.working = false ∧ (s.eng e.val).slab.mode = 2) ∧
    (∃ (s : State) (e : Fin 96),
      (s.eng e.val).st ≠ .running ∧ (s.eng e.val).slab.working = false ∧ (s.eng e.val).slab.mode ≠ 2) ∧
    (∃ (s : State) (e : Fin 96),
      (s.eng e.val).slab.working = true) ∧
    (∃ (s : State) (e : Fin 96),
      (s.eng e.val).slab.working = false ∧ (s.eng e.val).slab.mode ≠ 2) ∧
    (∃ (s : State) (e : Fin 96),
      (s.eng e.val).slab.working = false ∧ (s.eng e.val).slab.mode = 2) ∧
    (∃ (s : State) (e : Fin 96),
      (s.eng e.val).st = .running) ∧
    (∃ (s : State) (p : Pkt),
      Taken 0x2109 p s ∧ p.length = 1 ∧ p.target.toNat < 96 ∧ p.w 0 % 256 ≤ 2 ∧
        ((s.eng p.target.toNat).st ≠ .running ∨ p.w 0 % 256 = 2)) ∧
    (∃ (s : State) (p : Pkt),
      Taken 0x2109 p s ∧ p.length = 1 ∧ p.target.toNat < 96 ∧ p.w 0 % 256 < 2 ∧
        (s.eng p.target.toNat).st = .running) ∧
    (∃ (s : State) (p : Pkt),
      Taken 0x2109 p s ∧ p.length = 1 ∧ p.target.toNat < 96 ∧ 2 < p.w 0 % 256) ∧
    (∃ (s : State) (e : Fin 96),
      (s.eng e.val).slab.work = .zeroFill ∧ (s.eng e.val).slab.want = none) ∧
    (∃ (s : State) (e : Fin 96),
      (s.eng e.val).slab.work = .zeroFill ∧ s.vec.retiring = []) ∧
    (∃ (s : State) (e : Fin 96),
      (s.eng e.val).slab.work ≠ .zeroFill) ∧
    (∃ (s : State) (e : Fin 96) (ws : Sparse Codeword) (n : Nat),
      (s.eng e.val).slab.work = .wakeScrub ∧ (s.eng e.val).slab.want = none ∧
        cleanWord ((s.eng e.val).slab.word 65536) = true ∧
        ((s.eng e.val).slab.word 65536).toNat % 2 ^ 256 = canaryData e.val ∧
        (Slab.scrub (s.eng e.val).slab.words).toOption = some (ws, n)) ∧
    (∃ (s : State) (e : Fin 96) (ws : Sparse Codeword) (n : Nat),
      (s.eng e.val).slab.work = .wakeScrub ∧ s.vec.retiring = [] ∧ cleanWord ((s.eng e.val).slab.word 65536) = true ∧
        ((s.eng e.val).slab.word 65536).toNat % 2 ^ 256 = canaryData e.val ∧
        (Slab.scrub (s.eng e.val).slab.words).toOption = some (ws, n)) ∧
    (∃ (s : State) (e : Fin 96),
      (s.eng e.val).slab.work = .wakeScrub ∧
        (cleanWord ((s.eng e.val).slab.word 65536) = false ∨
        ((s.eng e.val).slab.word 65536).toNat % 2 ^ 256 ≠ canaryData e.val) ∧
        s.count (C.SLAB_LOST e.val) < 0xFFFFFFFE) ∧
    (∃ (s : State) (e : Fin 96),
      (s.eng e.val).slab.work = .wakeScrub ∧ cleanWord ((s.eng e.val).slab.word 65536) = true ∧
        ((s.eng e.val).slab.word 65536).toNat % 2 ^ 256 = canaryData e.val ∧
        (Slab.scrub (s.eng e.val).slab.words).toOption = none ∧ s.count (C.SLAB_LOST e.val) < 0xFFFFFFFE) ∧
    (∃ (s : State) (e : Fin 96),
      (s.eng e.val).slab.work ≠ .wakeScrub) ∧
    (∃ (s : State) (e : Fin 96) (g k : Nat) (c : Ckpt),
      (s.eng e.val).slab.work = .reload ∧ s.vec.reloads.head? = some e.val ∧ s.serves e.val = some (g, k) ∧
        s.goodCkpt g k = some c ∧ (s.eng e.val).slab.want = none) ∧
    (∃ (s : State) (e : Fin 96) (g k : Nat),
      (s.eng e.val).slab.work = .reload ∧ s.vec.reloads.head? = some e.val ∧ s.serves e.val = some (g, k) ∧
        s.goodCkpt g k = none) ∧
    (∃ (s : State) (e : Fin 96),
      (s.eng e.val).slab.work = .reload ∧ s.vec.reloads.head? = some e.val ∧ s.serves e.val = none) ∧
    (∃ (s : State) (e : Fin 96),
      ((s.eng e.val).slab.work ≠ .reload ∨ s.vec.reloads.head? ≠ some e.val)) ∧
    (∃ (s : State) (e : Fin 96) (word : BitVec 17),
      (s.eng e.val).st ≠ .running ∧ (s.eng e.val).slab.ready = true ∧ word.toNat ≤ 65536) ∧
    (∃ (s : State) (e : Fin 96) (word : BitVec 17),
      ((s.eng e.val).st = .running ∨ (s.eng e.val).slab.ready = false ∨ 65536 < word.toNat)) ∧
    (∃ (s : State) (e : Fin 96) (word : BitVec 17),
      (s.eng e.val).st ≠ .running ∧ (s.eng e.val).slab.ready = true ∧ word.toNat < 65536 ∧ s.injection 4 = none) ∧
    (∃ (s : State) (e : Fin 96) (word : BitVec 17) (d : Codeword),
      (s.eng e.val).st ≠ .running ∧ (s.eng e.val).slab.ready = true ∧ word.toNat < 65536 ∧ s.injection 4 = some d) ∧
    (∃ (s : State) (e : Fin 96) (word : BitVec 17),
      (s.eng e.val).st ≠ .running ∧ (s.eng e.val).slab.ready = true ∧ word.toNat = 65536) ∧
    (∃ (s : State) (e : Fin 96) (word : BitVec 17),
      ((s.eng e.val).st = .running ∨ (s.eng e.val).slab.ready = false ∨ 65536 < word.toNat)) ∧
    (∃ (s : State) (p : Pkt) (n : Nat),
      Taken 0x2104 p s ∧ p.length = 1 + 8 * n ∧ 0 < n ∧ n ≤ 127 ∧ p.target.toNat < 96 ∧ s.overcast = false ∧
        s.indOk p.target.toNat = true ∧ p.w 0 + n ≤ 65536 ∧ s.injection 4 = none) ∧
    (∃ (s : State) (p : Pkt) (n : Nat) (d : Codeword),
      Taken 0x2104 p s ∧ p.length = 1 + 8 * n ∧ 0 < n ∧ n ≤ 127 ∧ p.target.toNat < 96 ∧ s.overcast = false ∧
        s.indOk p.target.toNat = true ∧ p.w 0 + n ≤ 65536 ∧ s.injection 4 = some d) ∧
    (∃ (s : State) (p : Pkt) (n : Nat),
      Taken 0x2104 p s ∧ p.length = 1 + 8 * n ∧ 0 < n ∧ n ≤ 127 ∧ p.target.toNat < 96 ∧
        (s.overcast = true ∨ s.indOk p.target.toNat = false)) ∧
    (∃ (s : State) (p : Pkt) (n : Nat),
      Taken 0x2104 p s ∧ p.length = 1 + 8 * n ∧ 0 < n ∧ n ≤ 127 ∧ p.target.toNat < 96 ∧ s.overcast = false ∧
        s.indOk p.target.toNat = true ∧ 65536 < p.w 0 + n) ∧
    (∃ (s : State) (p : Pkt) (n : Nat),
      Taken 0x2105 p s ∧ p.length = 2 ∧ p.target.toNat < 96 ∧ s.indOk p.target.toNat = true ∧ n = p.w 1 ∧ 0 < n ∧
        n ≤ 127 ∧ p.w 0 + n ≤ 65536 ∧ (∀ k < n, cleanWord ((s.eng p.target.toNat).slab.through (p.w 0 + k)) = true)) ∧
    (∃ (s : State) (p : Pkt) (n : Nat),
      Taken 0x2105 p s ∧ p.length = 2 ∧ p.target.toNat < 96 ∧ s.indOk p.target.toNat = true ∧ n = p.w 1 ∧ 0 < n ∧
        n ≤ 127 ∧ p.w 0 + n ≤ 65536 ∧ (∀ k < n,
        (decodeWord ((s.eng p.target.toNat).slab.through (p.w 0 + k)) matches .bad) = false)) ∧
    (∃ (s : State) (p : Pkt) (n j : Nat),
      Taken 0x2105 p s ∧ p.length = 2 ∧ p.target.toNat < 96 ∧ s.indOk p.target.toNat = true ∧ n = p.w 1 ∧ n ≤ 127 ∧
        p.w 0 + n ≤ 65536 ∧ j < n ∧ (∀ k < j,
        (decodeWord ((s.eng p.target.toNat).slab.through (p.w 0 + k)) matches .bad) = false) ∧
        (decodeWord ((s.eng p.target.toNat).slab.through (p.w 0 + j)) matches .bad) = true) ∧
    (∃ (s : State) (p : Pkt),
      Taken 0x2105 p s ∧ p.length = 2 ∧ p.target.toNat < 96 ∧ s.indOk p.target.toNat = false) ∧
    (∃ (s : State) (p : Pkt),
      Taken 0x2105 p s ∧ p.length = 2 ∧ p.target.toNat < 96 ∧ s.indOk p.target.toNat = true ∧
        (p.w 1 = 0 ∨ 127 < p.w 1 ∨ 65536 < p.w 0 + p.w 1)) ∧
    (∃ (s : State) (r : Retiring) (sp : Nat),
      s.vec.retiring.find? (fun r => r.copying) = some r ∧ r.spare = some sp ∧ sp ≠ r.eng ∧
        (s.eng r.eng).slab.ready = true ∧ (s.eng sp).slab.want = none) ∧
    (∃ (s : State) (r : Retiring) (sp : Nat),
      s.vec.retiring = [r] ∧ r.copying = true ∧ r.spare = some sp ∧ sp ≠ r.eng ∧ (s.eng r.eng).slab.ready = true) ∧
    (∃ (s : State) (r : Retiring) (sp : Nat),
      s.vec.retiring.find? (fun r => r.copying) = some r ∧ r.spare = some sp ∧ sp ≠ r.eng ∧
        (s.eng r.eng).slab.ready = false ∧ (s.eng sp).slab.want = none) ∧
    (∃ (s : State),
      (s.vec.retiring.find? (fun r => r.copying)).bind (·.spare) = none) :=
  ⟨⟨(base.setEng 5 { slab := { mode := 1, work := .copy } }), 5, by decide +kernel⟩,
   ⟨(base.setEng 5 { slab := { mode := 2, ready := true } }), 5, by decide +kernel⟩,
   ⟨(base.setEng 5 { slab := { mode := 0, ready := false } }), 5, by decide +kernel⟩,
   ⟨(base.setEng 5 { slab := { mode := 1, work := .copy } }), 5, by decide +kernel⟩,
   ⟨(base.setEng 5 { slab := { mode := 2, ready := true } }), 5, by decide +kernel⟩,
   ⟨(base.setEng 5 { slab := { mode := 0, ready := false } }), 5, by decide +kernel⟩,
   ⟨(base.setEng 5 { slab := { mode := 1, work := .copy } }), 5, by decide +kernel⟩,
   ⟨(base.setEng 5 { slab := { mode := 1, ready := false } }), 5, by decide +kernel⟩,
   ⟨(base.setEng 5 { slab := { mode := 2, ready := true } }), 5, by decide +kernel⟩,
   ⟨(base.setEng 5 { st := .running }), 5, by decide +kernel⟩,
   ⟨ready 2, pk 2 5 [2], by decide +kernel⟩,
   ⟨((ready 2).setEng 5 { st := .running }), pk 2 5 [1], by decide +kernel⟩,
   ⟨ready 2, pk 2 5 [3], by decide +kernel⟩,
   ⟨(base.setEng 5 { slab := { mode := 2, work := .zeroFill, words := [(3, 4)] } }), 5, by decide +kernel⟩,
   ⟨(base.setEng 5 { slab := { mode := 2, work := .zeroFill, words := [(3, 4)], want := some 1 } }), 5,
     by decide +kernel⟩,
   ⟨base, 5, by decide +kernel⟩,
   ⟨(base.setEng 5 { slab := { mode := 2, work := .wakeScrub, words := [(65536, encodeWord (canaryData 5))] } }), 5,
     [(65536, encodeWord (canaryData 5))], 0, by decide +kernel⟩,
   ⟨(base.setEng 5 { slab := { mode := 2, work := .wakeScrub, words := [(65535, encodeWord 7 ^^^ 5), (65536, encodeWord (canaryData 5))] } }),
     5, [(65535, encodeWord 7), (65536, encodeWord (canaryData 5))], 1, by decide +kernel⟩,
   ⟨(base.setEng 5 { slab := { mode := 2, work := .wakeScrub } }), 5, by decide +kernel⟩,
   ⟨(base.setEng 5 { slab := { mode := 2, work := .wakeScrub, words := [(7, encodeWord 7 ^^^ 0x10001), (65536, encodeWord (canaryData 5))] } }),
     5, by decide +kernel⟩,
   ⟨base, 5, by decide +kernel⟩,
   ⟨{ ((base.setVg 1 { state := 2, tgs := [{ eng := 5, tones := 4 }] }).setEng 5 { slab := { mode := 2, work := .reload } }) with vec := { ((base.setVg 1 { state := 2, tgs := [{ eng := 5, tones := 4 }] }).setEng 5 { slab := { mode := 2, work := .reload } }).vec with reloads := [5], ckpts := [(256, some { tg := 0, group := 1, count := 1, epoch := 0, gen := 3, words := [(7, encodeWord 9)] })] } },
     5, 1, 0, { tg := 0, group := 1, count := 1, epoch := 0, gen := 3, words := [(7, encodeWord 9)] },
     by decide +kernel⟩,
   ⟨{ ((base.setVg 1 { state := 2, tgs := [{ eng := 5, tones := 4 }] }).setEng 5 { slab := { mode := 2, work := .reload } }) with vec := { ((base.setVg 1 { state := 2, tgs := [{ eng := 5, tones := 4 }] }).setEng 5 { slab := { mode := 2, work := .reload } }).vec with reloads := [5], ckpts := [] } },
     5, 1, 0, by decide +kernel⟩,
   ⟨{ (base.setEng 5 { slab := { mode := 2, work := .reload } }) with vec := { (base.setEng 5 { slab := { mode := 2, work := .reload } }).vec with reloads := [5], ckpts := [] } },
     5, by decide +kernel⟩,
   ⟨base, 5, by decide +kernel⟩,
   ⟨(base.setEng 5 { slab := { mode := 2, ready := true, words := [(9, encodeWord 0x1122334455667788)] } }), 5, 9,
     by decide +kernel⟩,
   ⟨base, 5, 9, by decide +kernel⟩,
   ⟨(((base.setEng 5 { slab := { mode := 2, ready := true } }).wr (R.SLAB_DATA 5 0) 5).wr (R.SLAB_DATA 5 7) 0x80000001),
     5, 9, by decide +kernel⟩,
   ⟨((((base.setEng 5 { slab := { mode := 2, ready := true } }).setFld F.MEM_INJ_GO 1).setFld F.MEM_INJ_MEM 4).setFld F.MEM_INJ_PAT_PAT 9),
     5, 9, BitVec.ofNat 288 9, by decide +kernel⟩,
   ⟨(base.setEng 5 { slab := { mode := 2, ready := true } }), 5, 65536, by decide +kernel⟩,
   ⟨base, 5, 9, by decide +kernel⟩,
   ⟨((ready 2).setEng 5 { slab := { mode := 2, ready := true } }), pk 2 5 [0xFFFE, 1, 2, 3, 4, 5, 6, 7, 8, 9, 10,
     11, 12, 13, 14, 15, 16], 2, by decide +kernel⟩,
   ⟨(((((ready 2).setEng 5 { slab := { mode := 2, ready := true } }).setFld F.MEM_INJ_GO 1).setFld F.MEM_INJ_MEM 4).setFld F.MEM_INJ_PAT_PAT 9),
     pk 2 5 [0xFFFE, 1, 2, 3, 4, 5, 6, 7, 8, 9, 10, 11, 12, 13, 14, 15, 16], 2, BitVec.ofNat 288 9,
     by decide +kernel⟩,
   ⟨ready 2, pk 2 5 [0, 1, 2, 3, 4, 5, 6, 7, 8], 1, by decide +kernel⟩,
   ⟨((ready 2).setEng 5 { slab := { mode := 2, ready := true } }), pk 2 5 [65536, 1, 2, 3, 4, 5, 6, 7, 8], 1,
     by decide +kernel⟩,
   ⟨((ready 2).setEng 5 { slab := { mode := 2, ready := true, words := [(9, encodeWord 0x1122334455667788)] } }),
     pk 2 5 [8, 2], 2, by decide +kernel⟩,
   ⟨((ready 2).setEng 5 { slab := { mode := 2, ready := true, words := [(9, encodeWord 0x1122334455667788 ^^^ 5)] } }),
     pk 2 5 [8, 2], 2, by decide +kernel⟩,
   ⟨((ready 2).setEng 5 { slab := { mode := 2, ready := true, words := [(9, encodeWord 7 ^^^ 0x10001)] } }),
     pk 2 5 [8, 2], 2, 1, by decide +kernel⟩,
   ⟨ready 2, pk 2 5 [8, 2], by decide +kernel⟩,
   ⟨((ready 2).setEng 5 { slab := { mode := 2, ready := true } }), pk 2 5 [8, 0], by decide +kernel⟩,
   ⟨(((base.setEng 5 { slab := { mode := 2, ready := true, work := .copy, words := [(3, encodeWord 4)] } }).setEng 9 { st := .spare, slab := { mode := 2, ready := true, work := .copy } })).setRetiring [{ eng := 5, group := 1, tg := 0, spare := some 9, copying := true }],
     { eng := 5, group := 1, tg := 0, spare := some 9, copying := true }, 9, by decide +kernel⟩,
   ⟨(((base.setEng 5 { slab := { mode := 2, ready := true, work := .copy, words := [(3, encodeWord 4)] } }).setEng 9 { st := .spare, slab := { mode := 2, ready := true, work := .copy } })).setRetiring [{ eng := 5, group := 1, tg := 0, spare := some 9, copying := true }],
     { eng := 5, group := 1, tg := 0, spare := some 9, copying := true }, 9, by decide +kernel⟩,
   ⟨(((base.setEng 5 { slab := { mode := 2, lost := true, work := .copy } }).setEng 9 { st := .spare, slab := { mode := 2, ready := true, work := .copy } })).setRetiring [{ eng := 5, group := 1, tg := 0, spare := some 9, copying := true }],
     { eng := 5, group := 1, tg := 0, spare := some 9, copying := true }, 9, by decide +kernel⟩,
   ⟨base, by decide +kernel⟩⟩

theorem wit_KernelsApertureAndSparesServeTheEngines :
    (∃ (s : State) (f : Fin 6) (e : Fin 96) (off : BitVec 16) (wr : Option Word),
      off.toNat < 0x4000) ∧
    (∃ (s : State) (f : Fin 6) (e : Fin 96) (off : BitVec 16),
      0x4000 ≤ off.toNat ∧ f.val ≠ 0 ∧ f.val ≠ 2) ∧
    (∃ (s : State) (f : Fin 6) (e : Fin 96) (off : BitVec 16) (v : Word),
      0x4000 ≤ off.toNat ∧ f.val ≠ 2) ∧
    (∃ (s : State) (f : Fin 6) (e : Fin 96) (off : BitVec 16) (i : Nat),
      (f.val = 0 ∨ f.val = 2) ∧ 0x4000 ≤ off.toNat ∧ off.toNat < 0x8000 ∧ i = (off.toNat - 0x4000) / 32 ∧
        (s.eng e.val).apertureOpen = true) ∧
    (∃ (s : State) (f : Fin 6) (e : Fin 96) (off : BitVec 16) (i : Nat),
      (f.val = 0 ∨ f.val = 2) ∧ 0x8000 ≤ off.toNat ∧
        i = (s.fld (F.VE_SPAD_PAGE_PAGE e.val) * 0x8000 + (off.toNat / 4 * 4 - 0x8000)) / 32 ∧
        (s.eng e.val).apertureOpen = true) ∧
    (∃ (s : State) (e : Fin 96) (off : BitVec 16) (v : Word) (i : Nat),
      0x4000 ≤ off.toNat ∧ off.toNat < 0x8000 ∧ i = (off.toNat - 0x4000) / 32 ∧ (s.eng e.val).apertureOpen = true ∧
        (decodeWord (sparseGet (fun _ => 0) (s.eng e.val).imem i) matches .bad) = false ∧ s.injection 6 = none) ∧
    (∃ (s : State) (e : Fin 96) (off : BitVec 16) (v : Word) (i : Nat) (d : Codeword),
      0x4000 ≤ off.toNat ∧ off.toNat < 0x8000 ∧ i = (off.toNat - 0x4000) / 32 ∧ (s.eng e.val).apertureOpen = true ∧
        (decodeWord (sparseGet (fun _ => 0) (s.eng e.val).imem i) matches .bad) = false ∧ s.injection 6 = some d) ∧
    (∃ (s : State) (e : Fin 96) (off : BitVec 16) (v : Word) (i : Nat),
      0x4000 ≤ off.toNat ∧ off.toNat < 0x8000 ∧ i = (off.toNat - 0x4000) / 32 ∧ (s.eng e.val).apertureOpen = true ∧
        (decodeWord (sparseGet (fun _ => 0) (s.eng e.val).imem i) matches .bad) = true ∧ s.injection 6 = none) ∧
    (∃ (s : State) (e : Fin 96) (off : BitVec 16) (v : Word) (i : Nat),
      0x8000 ≤ off.toNat ∧ i = (s.fld (F.VE_SPAD_PAGE_PAGE e.val) * 0x8000 + (off.toNat / 4 * 4 - 0x8000)) / 32 ∧
        (s.eng e.val).apertureOpen = true ∧ (decodeWord ((s.eng e.val).spadWord i) matches .bad) = false ∧
        s.injection 5 = none) ∧
    (∃ (s : State) (e : Fin 96) (off : BitVec 16) (v : Word) (i : Nat) (d : Codeword),
      0x8000 ≤ off.toNat ∧ i = (s.fld (F.VE_SPAD_PAGE_PAGE e.val) * 0x8000 + (off.toNat / 4 * 4 - 0x8000)) / 32 ∧
        (s.eng e.val).apertureOpen = true ∧ (decodeWord ((s.eng e.val).spadWord i) matches .bad) = false ∧
        s.injection 5 = some d) ∧
    (∃ (s : State) (e : Fin 96) (off : BitVec 16) (v : Word) (i : Nat),
      0x8000 ≤ off.toNat ∧ i = (s.fld (F.VE_SPAD_PAGE_PAGE e.val) * 0x8000 + (off.toNat / 4 * 4 - 0x8000)) / 32 ∧
        (s.eng e.val).apertureOpen = true ∧ (decodeWord ((s.eng e.val).spadWord i) matches .bad) = true ∧
        s.injection 5 = none) ∧
    (∃ (s : State) (f : Fin 6) (e : Fin 96) (off : BitVec 16),
      (f.val = 0 ∨ f.val = 2) ∧ 0x4000 ≤ off.toNat ∧ (s.eng e.val).apertureOpen = false) ∧
    (∃ (s : State) (e : Fin 96) (off : BitVec 16) (v : Word),
      0x4000 ≤ off.toNat ∧ (s.eng e.val).apertureOpen = false) ∧
    (∃ (s : State) (p : Pkt) (n h : Nat),
      Taken 0x2101 p s ∧ h = p.target.toNat ∧ p.length = 1 + 2 * n ∧ 0 < n ∧ n ≤ 508 ∧ s.overcast = false ∧
        s.ddrReady = true ∧ p.w 0 % 65536 + n ≤ 2048) ∧
    (∃ (s : State) (p : Pkt) (n h : Nat),
      Taken 0x2101 p s ∧ h = p.target.toNat ∧ p.length = 1 + 2 * n ∧ 0 < n ∧ n ≤ 508 ∧ s.overcast = true) ∧
    (∃ (s : State) (p : Pkt) (n h : Nat),
      Taken 0x2101 p s ∧ h = p.target.toNat ∧ p.length = 1 + 2 * n ∧ 0 < n ∧ n ≤ 508 ∧ s.overcast = false ∧
        2048 < p.w 0 % 65536 + n) ∧
    (∃ (s : State) (p : Pkt) (n h : Nat),
      Taken 0x2101 p s ∧ h = p.target.toNat ∧ p.length = 1 + 2 * n ∧ 0 < n ∧ n ≤ 508 ∧ s.overcast = false ∧
        p.w 0 % 65536 + n ≤ 2048 ∧ s.ddrReady = false) ∧
    (∃ (s : State) (p : Pkt) (img : Sparse Nat),
      Taken 0x2102 p s ∧ p.length = 0 ∧ sparseGet (fun _ => none) s.vec.kernels p.target.toNat = some img ∧
        (∀ k < 96, (s.eng k).kernel = some p.target.toNat → (s.eng k).st = .retired)) ∧
    (∃ (s : State) (p : Pkt) (img : Sparse Nat) (e : Fin 96),
      Taken 0x2102 p s ∧ p.length = 0 ∧ sparseGet (fun _ => none) s.vec.kernels p.target.toNat = some img ∧
        (s.eng e.val).kernel = some p.target.toNat ∧ (s.eng e.val).st ≠ .retired) ∧
    (∃ (s : State) (p : Pkt),
      Taken 0x2102 p s ∧ p.length = 0 ∧ sparseGet (fun _ => none) s.vec.kernels p.target.toNat = none) ∧
    (∃ (s : State) (p : Pkt) (img : Sparse Nat),
      Taken 0x2103 p s ∧ p.length = 1 ∧ p.target.toNat < 96 ∧ s.overcast = false ∧
        (s.eng p.target.toNat).apertureOpen = true ∧
        sparseGet (fun _ => none) s.vec.kernels (p.w 0 % 65536) = some img ∧ s.ddrReady = true ∧
        s.injection 6 = none) ∧
    (∃ (s : State) (p : Pkt) (img : Sparse Nat) (d : Codeword),
      Taken 0x2103 p s ∧ p.length = 1 ∧ p.target.toNat < 96 ∧ s.overcast = false ∧
        (s.eng p.target.toNat).apertureOpen = true ∧
        sparseGet (fun _ => none) s.vec.kernels (p.w 0 % 65536) = some img ∧ s.ddrReady = true ∧
        s.injection 6 = some d) ∧
    (∃ (s : State) (p : Pkt),
      Taken 0x2103 p s ∧ p.length = 1 ∧ p.target.toNat < 96 ∧
        (s.overcast = true ∨ (s.eng p.target.toNat).apertureOpen = false)) ∧
    (∃ (s : State) (p : Pkt),
      Taken 0x2103 p s ∧ p.length = 1 ∧ p.target.toNat < 96 ∧ s.overcast = false ∧
        (s.eng p.target.toNat).apertureOpen = true ∧ sparseGet (fun _ => none) s.vec.kernels (p.w 0 % 65536) = none) ∧
    (∃ (s : State) (p : Pkt) (img : Sparse Nat),
      Taken 0x2103 p s ∧ p.length = 1 ∧ p.target.toNat < 96 ∧ s.overcast = false ∧
        (s.eng p.target.toNat).apertureOpen = true ∧
        sparseGet (fun _ => none) s.vec.kernels (p.w 0 % 65536) = some img ∧ s.ddrReady = false) ∧
    (∃ (s : State) (p : Pkt) (g : Nat),
      Taken 0x2106 p s ∧ p.length = 1 ∧ p.target.toNat < 96 ∧ g = p.w 0 % 256 ∧ p.w 0 / 256 % 256 = 1 ∧ g ≤ 3 ∧
        (s.vg g).state ≠ 0 ∧ (s.eng p.target.toNat).st = .stopped ∧ (s.eng p.target.toNat).spareOf = none ∧
        s.serves p.target.toNat = none ∧ (s.eng p.target.toNat).loaded = true ∧
        (s.eng p.target.toNat).kernel = some (s.vg g).kernel ∧ (s.eng p.target.toNat).slab.mode = 2 ∧
        (s.eng p.target.toNat).slab.ready = true) ∧
    (∃ (s : State) (p : Pkt) (g : Nat),
      Taken 0x2106 p s ∧ p.length = 1 ∧ p.target.toNat < 96 ∧ g = p.w 0 % 256 ∧ p.w 0 / 256 % 256 = 1 ∧ g ≤ 3 ∧
        (s.vg g).state ≠ 0 ∧ ((s.eng p.target.toNat).st ≠ .stopped ∨ (s.eng p.target.toNat).spareOf ≠ none ∨
        s.serves p.target.toNat ≠ none ∨ (s.eng p.target.toNat).loaded = false ∨
        (s.eng p.target.toNat).kernel ≠ some (s.vg g).kernel ∨ (s.eng p.target.toNat).slab.mode ≠ 2 ∨
        (s.eng p.target.toNat).slab.ready = false)) ∧
    (∃ (s : State) (p : Pkt) (g : Nat),
      Taken 0x2106 p s ∧ p.length = 1 ∧ p.target.toNat < 96 ∧ g = p.w 0 % 256 ∧
        (3 < g ∨ 1 < p.w 0 / 256 % 256 ∨ (p.w 0 / 256 % 256 = 1 ∧ (s.vg g).state = 0))) ∧
    (∃ (s : State) (p : Pkt) (g : Nat),
      Taken 0x2106 p s ∧ p.length = 1 ∧ p.target.toNat < 96 ∧ g = p.w 0 % 256 ∧ p.w 0 / 256 % 256 = 0 ∧ g ≤ 3 ∧
        (s.eng p.target.toNat).spareOf = some g ∧ (s.eng p.target.toNat).st ≠ .off ∧
        s.vec.retiring.all (fun r => r.spare != some p.target.toNat || r.tookAt.isSome) = true) ∧
    (∃ (s : State) (p : Pkt) (g : Nat),
      Taken 0x2106 p s ∧ p.length = 1 ∧ p.target.toNat < 96 ∧ g = p.w 0 % 256 ∧ p.w 0 / 256 % 256 = 0 ∧ g ≤ 3 ∧
        (s.eng p.target.toNat).spareOf = some g ∧ (s.eng p.target.toNat).st = .off ∧
        s.vec.retiring.all (fun r => r.spare != some p.target.toNat || r.tookAt.isSome) = true) ∧
    (∃ (s : State) (p : Pkt) (g : Nat),
      Taken 0x2106 p s ∧ p.length = 1 ∧ p.target.toNat < 96 ∧ g = p.w 0 % 256 ∧ p.w 0 / 256 % 256 = 0 ∧ g ≤ 3 ∧
        ((s.eng p.target.toNat).spareOf ≠ some g ∨
        s.vec.retiring.all (fun r => r.spare != some p.target.toNat || r.tookAt.isSome) = false)) ∧
    (∃ (s : State) (p : Pkt),
      Taken 0x2108 p s ∧ p.length = 1 ∧ p.target = 0) :=
  ⟨⟨base, 2, 5, 0x3FFC, none, by decide +kernel⟩,
   ⟨base, 3, 5, 0x4000, by decide +kernel⟩,
   ⟨base, 0, 5, 0x4000, 7, by decide +kernel⟩,
   ⟨(base.setEng 5 { imem := [(1, encodeWord 0x123456789)] }), 2, 5, 0x4024, 1, by decide +kernel⟩,
   ⟨(base.setEng 5 { spad := [(1, encodeWord 0x123456789)] }), 0, 5, 0x8024, 1, by decide +kernel⟩,
   ⟨(base.setEng 5 { imem := [(1, encodeWord 0x123456789)] }), 5, 0x4024, 77, 1, by decide +kernel⟩,
   ⟨((((base.setEng 5 { imem := [(1, encodeWord 0x123456789)] }).setFld F.MEM_INJ_GO 1).setFld F.MEM_INJ_MEM 6).setFld F.MEM_INJ_PAT_PAT 9),
     5, 0x4024, 77, 1, BitVec.ofNat 288 9, by decide +kernel⟩,
   ⟨(base.setEng 5 { imem := [(1, encodeWord 7 ^^^ 0x10001)] }), 5, 0x4024, 77, 1, by decide +kernel⟩,
   ⟨(base.setEng 5 { spad := [(1, encodeWord 0x123456789)] }), 5, 0x8024, 77, 1, by decide +kernel⟩,
   ⟨((((base.setEng 5 { spad := [(1, encodeWord 0x123456789)] }).setFld F.MEM_INJ_GO 1).setFld F.MEM_INJ_MEM 5).setFld F.MEM_INJ_PAT_PAT 9),
     5, 0x8024, 77, 1, BitVec.ofNat 288 9, by decide +kernel⟩,
   ⟨(base.setEng 5 { spad := [(1, encodeWord 7 ^^^ 0x10001)] }), 5, 0x8024, 77, 1, by decide +kernel⟩,
   ⟨(base.setEng 5 { st := .running }), 2, 5, 0x4024, by decide +kernel⟩,
   ⟨(base.setEng 5 { st := .running }), 5, 0x4024, 3, by decide +kernel⟩,
   ⟨ddr (ready 2), pk 2 77 [5, 1, 2, 3, 4], 2, 77, by decide +kernel⟩,
   ⟨{ ready 2 with pwr := { base.pwr with state := 2 } }, pk 2 77 [5, 1, 2], 1, 77, by decide +kernel⟩,
   ⟨ready 2, pk 2 77 [2048, 1, 2], 1, 77, by decide +kernel⟩,
   ⟨ready 2, pk 2 77 [5, 1, 2], 1, 77, by decide +kernel⟩,
   ⟨{ ready 2 with vec := { (ready 2).vec with kernels := [(77, some [])] } }, pk 2 77 [], [], by decide +kernel⟩,
   ⟨(({ ready 2 with vec := { (ready 2).vec with kernels := [(77, some [])] } } : State).setEng 5 { kernel := some 77 }),
     pk 2 77 [], [], 5, by decide +kernel⟩,
   ⟨ready 2, pk 2 77 [], by decide +kernel⟩,
   ⟨ddr { ready 2 with vec := { (ready 2).vec with kernels := [(77, some [(0, 5)])] } }, pk 2 5 [77], [(0, 5)],
     by decide +kernel⟩,
   ⟨((((ddr { ready 2 with vec := { (ready 2).vec with kernels := [(77, some [(0, 5)])] } }).setFld F.MEM_INJ_GO 1).setFld F.MEM_INJ_MEM 6).setFld F.MEM_INJ_PAT_PAT 9),
     pk 2 5 [77], [(0, 5)], BitVec.ofNat 288 9, by decide +kernel⟩,
   ⟨((ready 2).setEng 5 { st := .running }), pk 2 5 [77], by decide +kernel⟩,
   ⟨ready 2, pk 2 5 [77], by decide +kernel⟩,
   ⟨{ ready 2 with vec := { (ready 2).vec with kernels := [(77, some [(0, 5)])] } }, pk 2 5 [77], [(0, 5)],
     by decide +kernel⟩,
   ⟨(((ready 2).setVg 1 { state := 1, kernel := 77 }).setEng 5 { kernel := some 77, slab := { mode := 2, ready := true } }),
     pk 2 5 [0x101], 1, by decide +kernel⟩,
   ⟨((ready 2).setVg 1 { state := 1, kernel := 77 }), pk 2 5 [0x101], 1, by decide +kernel⟩,
   ⟨ready 2, pk 2 5 [0x101], 1, by decide +kernel⟩,
   ⟨((ready 2).setEng 5 { st := .spare, spareOf := some 1 }), pk 2 5 [1], 1, by decide +kernel⟩,
   ⟨((ready 2).setEng 5 { st := .off, spareOf := some 1 }), pk 2 5 [1], 1, by decide +kernel⟩,
   ⟨ready 2, pk 2 5 [1], 1, by decide +kernel⟩,
   ⟨ready 2, pk 2 0 [0xFFFFFFFF], by decide +kernel⟩⟩

theorem wit_ScalarOperationsWriteTheirResult :
    (∃ (e : Fin 96) (w : Nat) (s : State) (a b zx sx : Word),
      Issues e.val w s ∧ a = (s.eng e.val).reg (iRa w) ∧ b = (s.eng e.val).reg (iRb w) ∧
        zx = BitVec.ofNat 32 (iImm w) ∧ sx = BitVec.ofInt 32 (signedOf 20 (iImm w)) ∧ iSop w = 0x00) ∧
    (∃ (e : Fin 96) (w : Nat) (s : State) (a b zx sx : Word),
      Issues e.val w s ∧ a = (s.eng e.val).reg (iRa w) ∧ b = (s.eng e.val).reg (iRb w) ∧
        zx = BitVec.ofNat 32 (iImm w) ∧ sx = BitVec.ofInt 32 (signedOf 20 (iImm w)) ∧ iSop w = 0x01) ∧
    (∃ (e : Fin 96) (w : Nat) (s : State) (a b zx sx : Word),
      Issues e.val w s ∧ a = (s.eng e.val).reg (iRa w) ∧ b = (s.eng e.val).reg (iRb w) ∧
        zx = BitVec.ofNat 32 (iImm w) ∧ sx = BitVec.ofInt 32 (signedOf 20 (iImm w)) ∧ iSop w = 0x02) ∧
    (∃ (e : Fin 96) (w : Nat) (s : State) (a b zx sx : Word),
      Issues e.val w s ∧ a = (s.eng e.val).reg (iRa w) ∧ b = (s.eng e.val).reg (iRb w) ∧
        zx = BitVec.ofNat 32 (iImm w) ∧ sx = BitVec.ofInt 32 (signedOf 20 (iImm w)) ∧ iSop w = 0x03) ∧
    (∃ (e : Fin 96) (w : Nat) (s : State) (a b zx sx : Word),
      Issues e.val w s ∧ a = (s.eng e.val).reg (iRa w) ∧ b = (s.eng e.val).reg (iRb w) ∧
        zx = BitVec.ofNat 32 (iImm w) ∧ sx = BitVec.ofInt 32 (signedOf 20 (iImm w)) ∧ iSop w = 0x04) ∧
    (∃ (e : Fin 96) (w : Nat) (s : State) (a b zx sx : Word),
      Issues e.val w s ∧ a = (s.eng e.val).reg (iRa w) ∧ b = (s.eng e.val).reg (iRb w) ∧
        zx = BitVec.ofNat 32 (iImm w) ∧ sx = BitVec.ofInt 32 (signedOf 20 (iImm w)) ∧ iSop w = 0x05) ∧
    (∃ (e : Fin 96) (w : Nat) (s : State) (a b zx sx : Word),
      Issues e.val w s ∧ a = (s.eng e.val).reg (iRa w) ∧ b = (s.eng e.val).reg (iRb w) ∧
        zx = BitVec.ofNat 32 (iImm w) ∧ sx = BitVec.ofInt 32 (signedOf 20 (iImm w)) ∧ iSop w = 0x06) ∧
    (∃ (e : Fin 96) (w : Nat) (s : State) (a b zx sx : Word),
      Issues e.val w s ∧ a = (s.eng e.val).reg (iRa w) ∧ b = (s.eng e.val).reg (iRb w) ∧
        zx = BitVec.ofNat 32 (iImm w) ∧ sx = BitVec.ofInt 32 (signedOf 20 (iImm w)) ∧ iSop w = 0x07) ∧
    (∃ (e : Fin 96) (w : Nat) (s : State) (a b zx sx : Word),
      Issues e.val w s ∧ a = (s.eng e.val).reg (iRa w) ∧ b = (s.eng e.val).reg (iRb w) ∧
        zx = BitVec.ofNat 32 (iImm w) ∧ sx = BitVec.ofInt 32 (signedOf 20 (iImm w)) ∧ iSop w = 0x08) ∧
    (∃ (e : Fin 96) (w : Nat) (s : State) (a b zx sx : Word),
      Issues e.val w s ∧ a = (s.eng e.val).reg (iRa w) ∧ b = (s.eng e.val).reg (iRb w) ∧
        zx = BitVec.ofNat 32 (iImm w) ∧ sx = BitVec.ofInt 32 (signedOf 20 (iImm w)) ∧ iSop w = 0x09) ∧
    (∃ (e : Fin 96) (w : Nat) (s : State) (a b zx sx : Word),
      Issues e.val w s ∧ a = (s.eng e.val).reg (iRa w) ∧ b = (s.eng e.val).reg (iRb w) ∧
        zx = BitVec.ofNat 32 (iImm w) ∧ sx = BitVec.ofInt 32 (signedOf 20 (iImm w)) ∧ iSop w = 0x0A) ∧
    (∃ (e : Fin 96) (w : Nat) (s : State) (a b zx sx : Word),
      Issues e.val w s ∧ a = (s.eng e.val).reg (iRa w) ∧ b = (s.eng e.val).reg (iRb w) ∧
        zx = BitVec.ofNat 32 (iImm w) ∧ sx = BitVec.ofInt 32 (signedOf 20 (iImm w)) ∧ iSop w = 0x0B) ∧
    (∃ (e : Fin 96) (w : Nat) (s : State) (a b zx sx : Word),
      Issues e.val w s ∧ a = (s.eng e.val).reg (iRa w) ∧ b = (s.eng e.val).reg (iRb w) ∧
        zx = BitVec.ofNat 32 (iImm w) ∧ sx = BitVec.ofInt 32 (signedOf 20 (iImm w)) ∧ iSop w = 0x0C) ∧
    (∃ (e : Fin 96) (w : Nat) (s : State) (a b zx sx : Word),
      Issues e.val w s ∧ a = (s.eng e.val).reg (iRa w) ∧ b = (s.eng e.val).reg (iRb w) ∧
        zx = BitVec.ofNat 32 (iImm w) ∧ sx = BitVec.ofInt 32 (signedOf 20 (iImm w)) ∧ iSop w = 0x0D) ∧
    (∃ (e : Fin 96) (w : Nat) (s : State) (a b zx sx : Word),
      Issues e.val w s ∧ a = (s.eng e.val).reg (iRa w) ∧ b = (s.eng e.val).reg (iRb w) ∧
        zx = BitVec.ofNat 32 (iImm w) ∧ sx = BitVec.ofInt 32 (signedOf 20 (iImm w)) ∧ iSop w = 0x0E) ∧
    (∃ (e : Fin 96) (w : Nat) (s : State) (a b zx sx : Word),
      Issues e.val w s ∧ a = (s.eng e.val).reg (iRa w) ∧ b = (s.eng e.val).reg (iRb w) ∧
        zx = BitVec.ofNat 32 (iImm w) ∧ sx = BitVec.ofInt 32 (signedOf 20 (iImm w)) ∧ iSop w = 0x0F) ∧
    (∃ (e : Fin 96) (w : Nat) (s : State) (a b zx sx : Word),
      Issues e.val w s ∧ a = (s.eng e.val).reg (iRa w) ∧ b = (s.eng e.val).reg (iRb w) ∧
        zx = BitVec.ofNat 32 (iImm w) ∧ sx = BitVec.ofInt 32 (signedOf 20 (iImm w)) ∧ iSop w = 0x10) ∧
    (∃ (e : Fin 96) (w : Nat) (s : State) (a b zx sx : Word),
      Issues e.val w s ∧ a = (s.eng e.val).reg (iRa w) ∧ b = (s.eng e.val).reg (iRb w) ∧
        zx = BitVec.ofNat 32 (iImm w) ∧ sx = BitVec.ofInt 32 (signedOf 20 (iImm w)) ∧ iSop w = 0x11) ∧
    (∃ (e : Fin 96) (w : Nat) (s : State) (a b zx sx : Word),
      Issues e.val w s ∧ a = (s.eng e.val).reg (iRa w) ∧ b = (s.eng e.val).reg (iRb w) ∧
        zx = BitVec.ofNat 32 (iImm w) ∧ sx = BitVec.ofInt 32 (signedOf 20 (iImm w)) ∧ iSop w = 0x12) ∧
    (∃ (e : Fin 96) (w : Nat) (s : State) (a b zx sx : Word),
      Issues e.val w s ∧ a = (s.eng e.val).reg (iRa w) ∧ b = (s.eng e.val).reg (iRb w) ∧
        zx = BitVec.ofNat 32 (iImm w) ∧ sx = BitVec.ofInt 32 (signedOf 20 (iImm w)) ∧ iSop w = 0x13) ∧
    (∃ (e : Fin 96) (w : Nat) (s : State) (a b zx sx : Word),
      Issues e.val w s ∧ a = (s.eng e.val).reg (iRa w) ∧ b = (s.eng e.val).reg (iRb w) ∧
        zx = BitVec.ofNat 32 (iImm w) ∧ sx = BitVec.ofInt 32 (signedOf 20 (iImm w)) ∧ iSop w = 0x14) ∧
    (∃ (e : Fin 96) (w : Nat) (s : State) (a b zx sx : Word),
      Issues e.val w s ∧ a = (s.eng e.val).reg (iRa w) ∧ b = (s.eng e.val).reg (iRb w) ∧
        zx = BitVec.ofNat 32 (iImm w) ∧ sx = BitVec.ofInt 32 (signedOf 20 (iImm w)) ∧ iSop w = 0x15) ∧
    (∃ (e : Fin 96) (w : Nat) (s : State) (a b zx sx : Word),
      Issues e.val w s ∧ a = (s.eng e.val).reg (iRa w) ∧ b = (s.eng e.val).reg (iRb w) ∧
        zx = BitVec.ofNat 32 (iImm w) ∧ sx = BitVec.ofInt 32 (signedOf 20 (iImm w)) ∧ iSop w = 0x16) ∧
    (∃ (e : Fin 96) (w : Nat) (s : State) (a b zx sx : Word),
      Issues e.val w s ∧ a = (s.eng e.val).reg (iRa w) ∧ b = (s.eng e.val).reg (iRb w) ∧
        zx = BitVec.ofNat 32 (iImm w) ∧ sx = BitVec.ofInt 32 (signedOf 20 (iImm w)) ∧ iSop w = 0x17) ∧
    (∃ (e : Fin 96) (w : Nat) (s : State) (a b zx sx : Word),
      Issues e.val w s ∧ a = (s.eng e.val).reg (iRa w) ∧ b = (s.eng e.val).reg (iRb w) ∧
        zx = BitVec.ofNat 32 (iImm w) ∧ sx = BitVec.ofInt 32 (signedOf 20 (iImm w)) ∧ iSop w = 0x18) ∧
    (∃ (e : Fin 96) (w : Nat) (s : State) (a b zx sx : Word),
      Issues e.val w s ∧ a = (s.eng e.val).reg (iRa w) ∧ b = (s.eng e.val).reg (iRb w) ∧
        zx = BitVec.ofNat 32 (iImm w) ∧ sx = BitVec.ofInt 32 (signedOf 20 (iImm w)) ∧ iSop w = 0x19) ∧
    (∃ (e : Fin 96) (w : Nat) (s : State) (a b zx sx : Word),
      Issues e.val w s ∧ a = (s.eng e.val).reg (iRa w) ∧ b = (s.eng e.val).reg (iRb w) ∧
        zx = BitVec.ofNat 32 (iImm w) ∧ sx = BitVec.ofInt 32 (signedOf 20 (iImm w)) ∧ iSop w = 0x1D) ∧
    (∃ (e : Fin 96) (w : Nat) (s : State) (a b zx sx : Word),
      Issues e.val w s ∧ a = (s.eng e.val).reg (iRa w) ∧ b = (s.eng e.val).reg (iRb w) ∧
        zx = BitVec.ofNat 32 (iImm w) ∧ sx = BitVec.ofInt 32 (signedOf 20 (iImm w)) ∧ iSop w = 0x1E) :=
  ⟨⟨5, instr 0x0 (0), running 5 (instr 0x0 (0)) { regs := [(2, 0xFFFFFFF5), (3, 7)], pc := 9 }, 0, 0,
    BitVec.ofNat 32 (iImm (instr 0x0 (0))), BitVec.ofInt 32 (signedOf 20 (iImm (instr 0x0 (0)))), by decide +kernel⟩,
   ⟨5, instr 0x1 (regs3 1 2 3), running 5 (instr 0x1 (regs3 1 2 3)) { regs := [(2, 0xFFFFFFF5), (3, 7)], pc := 9 },
     0xFFFFFFF5, 7, BitVec.ofNat 32 (iImm (instr 0x1 (regs3 1 2 3))),
     BitVec.ofInt 32 (signedOf 20 (iImm (instr 0x1 (regs3 1 2 3)))), by decide +kernel⟩,
   ⟨5, instr 0x2 (regs3 1 2 3), running 5 (instr 0x2 (regs3 1 2 3)) { regs := [(2, 0xFFFFFFF5), (3, 7)], pc := 9 },
     0xFFFFFFF5, 7, BitVec.ofNat 32 (iImm (instr 0x2 (regs3 1 2 3))),
     BitVec.ofInt 32 (signedOf 20 (iImm (instr 0x2 (regs3 1 2 3)))), by decide +kernel⟩,
   ⟨5, instr 0x3 (regs3 1 2 3), running 5 (instr 0x3 (regs3 1 2 3)) { regs := [(2, 0xFFFFFFF5), (3, 7)], pc := 9 },
     0xFFFFFFF5, 7, BitVec.ofNat 32 (iImm (instr 0x3 (regs3 1 2 3))),
     BitVec.ofInt 32 (signedOf 20 (iImm (instr 0x3 (regs3 1 2 3)))), by decide +kernel⟩,
   ⟨5, instr 0x4 (regs3 1 2 3), running 5 (instr 0x4 (regs3 1 2 3)) { regs := [(2, 0xFFFFFFF5), (3, 7)], pc := 9 },
     0xFFFFFFF5, 7, BitVec.ofNat 32 (iImm (instr 0x4 (regs3 1 2 3))),
     BitVec.ofInt 32 (signedOf 20 (iImm (instr 0x4 (regs3 1 2 3)))), by decide +kernel⟩,
   ⟨5, instr 0x5 (regs3 1 2 3), running 5 (instr 0x5 (regs3 1 2 3)) { regs := [(2, 0xFFFFFFF5), (3, 7)], pc := 9 },
     0xFFFFFFF5, 7, BitVec.ofNat 32 (iImm (instr 0x5 (regs3 1 2 3))),
     BitVec.ofInt 32 (signedOf 20 (iImm (instr 0x5 (regs3 1 2 3)))), by decide +kernel⟩,
   ⟨5, instr 0x6 (regs3 1 2 3), running 5 (instr 0x6 (regs3 1 2 3)) { regs := [(2, 0xFFFFFFF5), (3, 7)], pc := 9 },
     0xFFFFFFF5, 7, BitVec.ofNat 32 (iImm (instr 0x6 (regs3 1 2 3))),
     BitVec.ofInt 32 (signedOf 20 (iImm (instr 0x6 (regs3 1 2 3)))), by decide +kernel⟩,
   ⟨5, instr 0x7 (regs3 1 2 3), running 5 (instr 0x7 (regs3 1 2 3)) { regs := [(2, 0xFFFFFFF5), (3, 7)], pc := 9 },
     0xFFFFFFF5, 7, BitVec.ofNat 32 (iImm (instr 0x7 (regs3 1 2 3))),
     BitVec.ofInt 32 (signedOf 20 (iImm (instr 0x7 (regs3 1 2 3)))), by decide +kernel⟩,
   ⟨5, instr 0x8 (regs3 1 2 3), running 5 (instr 0x8 (regs3 1 2 3)) { regs := [(2, 0xFFFFFFF5), (3, 7)], pc := 9 },
     0xFFFFFFF5, 7, BitVec.ofNat 32 (iImm (instr 0x8 (regs3 1 2 3))),
     BitVec.ofInt 32 (signedOf 20 (iImm (instr 0x8 (regs3 1 2 3)))), by decide +kernel⟩,
   ⟨5, instr 0x9 (regs3 1 2 3), running 5 (instr 0x9 (regs3 1 2 3)) { regs := [(2, 0xFFFFFFF5), (3, 7)], pc := 9 },
     0xFFFFFFF5, 7, BitVec.ofNat 32 (iImm (instr 0x9 (regs3 1 2 3))),
     BitVec.ofInt 32 (signedOf 20 (iImm (instr 0x9 (regs3 1 2 3)))), by decide +kernel⟩,
   ⟨5, instr 0xA (regs3 1 2 3), running 5 (instr 0xA (regs3 1 2 3)) { regs := [(2, 0xFFFFFFF5), (3, 7)], pc := 9 },
     0xFFFFFFF5, 7, BitVec.ofNat 32 (iImm (instr 0xA (regs3 1 2 3))),
     BitVec.ofInt 32 (signedOf 20 (iImm (instr 0xA (regs3 1 2 3)))), by decide +kernel⟩,
   ⟨5, instr 0xB (regs3 1 2 3), running 5 (instr 0xB (regs3 1 2 3)) { regs := [(2, 0xFFFFFFF5), (3, 7)], pc := 9 },
     0xFFFFFFF5, 7, BitVec.ofNat 32 (iImm (instr 0xB (regs3 1 2 3))),
     BitVec.ofInt 32 (signedOf 20 (iImm (instr 0xB (regs3 1 2 3)))), by decide +kernel⟩,
   ⟨5, instr 0xC (regs3 1 2 0), running 5 (instr 0xC (regs3 1 2 0)) { regs := [(2, 0xFFFFFFF5), (3, 7)], pc := 9 },
     0xFFFFFFF5, 0, BitVec.ofNat 32 (iImm (instr 0xC (regs3 1 2 0))),
     BitVec.ofInt 32 (signedOf 20 (iImm (instr 0xC (regs3 1 2 0)))), by decide +kernel⟩,
   ⟨5, instr 0xD (regs3 1 2 3), running 5 (instr 0xD (regs3 1 2 3)) { regs := [(2, 0xFFFFFFF5), (3, 7)], pc := 9 },
     0xFFFFFFF5, 7, BitVec.ofNat 32 (iImm (instr 0xD (regs3 1 2 3))),
     BitVec.ofInt 32 (signedOf 20 (iImm (instr 0xD (regs3 1 2 3)))), by decide +kernel⟩,
   ⟨5, instr 0xE (regs3 1 2 3), running 5 (instr 0xE (regs3 1 2 3)) { regs := [(2, 0xFFFFFFF5), (3, 7)], pc := 9 },
     0xFFFFFFF5, 7, BitVec.ofNat 32 (iImm (instr 0xE (regs3 1 2 3))),
     BitVec.ofInt 32 (signedOf 20 (iImm (instr 0xE (regs3 1 2 3)))), by decide +kernel⟩,
   ⟨5, instr 0xF (regs3 1 2 3), running 5 (instr 0xF (regs3 1 2 3)) { regs := [(2, 0xFFFFFFF5), (3, 7)], pc := 9 },
     0xFFFFFFF5, 7, BitVec.ofNat 32 (iImm (instr 0xF (regs3 1 2 3))),
     BitVec.ofInt 32 (signedOf 20 (iImm (instr 0xF (regs3 1 2 3)))), by decide +kernel⟩,
   ⟨5, instr 0x10 (regsI 1 2 0xFFFF1),
     running 5 (instr 0x10 (regsI 1 2 0xFFFF1)) { regs := [(2, 0xFFFFFFF5), (3, 7)], pc := 9 }, 0xFFFFFFF5, 0,
     BitVec.ofNat 32 (iImm (instr 0x10 (regsI 1 2 0xFFFF1))),
     BitVec.ofInt 32 (signedOf 20 (iImm (instr 0x10 (regsI 1 2 0xFFFF1)))), by decide +kernel⟩,
   ⟨5, instr 0x11 (regsI 1 2 0xFFFF1),
     running 5 (instr 0x11 (regsI 1 2 0xFFFF1)) { regs := [(2, 0xFFFFFFF5), (3, 7)], pc := 9 }, 0xFFFFFFF5, 0,
     BitVec.ofNat 32 (iImm (instr 0x11 (regsI 1 2 0xFFFF1))),
     BitVec.ofInt 32 (signedOf 20 (iImm (instr 0x11 (regsI 1 2 0xFFFF1)))), by decide +kernel⟩,
   ⟨5, instr 0x12 (regsI 1 2 0xFFFF1),
     running 5 (instr 0x12 (regsI 1 2 0xFFFF1)) { regs := [(2, 0xFFFFFFF5), (3, 7)], pc := 9 }, 0xFFFFFFF5, 0,
     BitVec.ofNat 32 (iImm (instr 0x12 (regsI 1 2 0xFFFF1))),
     BitVec.ofInt 32 (signedOf 20 (iImm (instr 0x12 (regsI 1 2 0xFFFF1)))), by decide +kernel⟩,
   ⟨5, instr 0x13 (regsI 1 2 0xFFFF1),
     running 5 (instr 0x13 (regsI 1 2 0xFFFF1)) { regs := [(2, 0xFFFFFFF5), (3, 7)], pc := 9 }, 0xFFFFFFF5, 0,
     BitVec.ofNat 32 (iImm (instr 0x13 (regsI 1 2 0xFFFF1))),
     BitVec.ofInt 32 (signedOf 20 (iImm (instr 0x13 (regsI 1 2 0xFFFF1)))), by decide +kernel⟩,
   ⟨5, instr 0x14 (regsI 1 2 0xFFFF1),
     running 5 (instr 0x14 (regsI 1 2 0xFFFF1)) { regs := [(2, 0xFFFFFFF5), (3, 7)], pc := 9 }, 0xFFFFFFF5, 0,
     BitVec.ofNat 32 (iImm (instr 0x14 (regsI 1 2 0xFFFF1))),
     BitVec.ofInt 32 (signedOf 20 (iImm (instr 0x14 (regsI 1 2 0xFFFF1)))), by decide +kernel⟩,
   ⟨5, instr 0x15 (regsI 1 2 0xFFFF1),
     running 5 (instr 0x15 (regsI 1 2 0xFFFF1)) { regs := [(2, 0xFFFFFFF5), (3, 7)], pc := 9 }, 0xFFFFFFF5, 0,
     BitVec.ofNat 32 (iImm (instr 0x15 (regsI 1 2 0xFFFF1))),
     BitVec.ofInt 32 (signedOf 20 (iImm (instr 0x15 (regsI 1 2 0xFFFF1)))), by decide +kernel⟩,
   ⟨5, instr 0x16 (regsI 1 2 0xFFFF1),
     running 5 (instr 0x16 (regsI 1 2 0xFFFF1)) { regs := [(2, 0xFFFFFFF5), (3, 7)], pc := 9 }, 0xFFFFFFF5, 0,
     BitVec.ofNat 32 (iImm (instr 0x16 (regsI 1 2 0xFFFF1))),
     BitVec.ofInt 32 (signedOf 20 (iImm (instr 0x16 (regsI 1 2 0xFFFF1)))), by decide +kernel⟩,
   ⟨5, instr 0x17 (regsI 1 0 0xFFFF1),
     running 5 (instr 0x17 (regsI 1 0 0xFFFF1)) { regs := [(2, 0xFFFFFFF5), (3, 7)], pc := 9 }, 0, 0,
     BitVec.ofNat 32 (iImm (instr 0x17 (regsI 1 0 0xFFFF1))),
     BitVec.ofInt 32 (signedOf 20 (iImm (instr 0x17 (regsI 1 0 0xFFFF1)))), by decide +kernel⟩,
   ⟨5, instr 0x18 (regsI 1 0 0xFFFF1),
     running 5 (instr 0x18 (regsI 1 0 0xFFFF1)) { regs := [(2, 0xFFFFFFF5), (3, 7)], pc := 9 }, 0, 0,
     BitVec.ofNat 32 (iImm (instr 0x18 (regsI 1 0 0xFFFF1))),
     BitVec.ofInt 32 (signedOf 20 (iImm (instr 0x18 (regsI 1 0 0xFFFF1)))), by decide +kernel⟩,
   ⟨5, instr 0x19 (regs3 1 2 3), running 5 (instr 0x19 (regs3 1 2 3)) { regs := [(2, 0xFFFFFFF5), (3, 7)], pc := 9 },
     0xFFFFFFF5, 7, BitVec.ofNat 32 (iImm (instr 0x19 (regs3 1 2 3))),
     BitVec.ofInt 32 (signedOf 20 (iImm (instr 0x19 (regs3 1 2 3)))), by decide +kernel⟩,
   ⟨5, instr 0x1D (1 * 2 ^ 30 + 1 * 2 ^ 28 + 2 * 2 ^ 25),
     running 5 (instr 0x1D (1 * 2 ^ 30 + 1 * 2 ^ 28 + 2 * 2 ^ 25)) { gens := [(10, 0xFFFFE)] }, 0, 0, 0, 0,
     by decide +kernel⟩,
   ⟨5, instr 0x1E (1 * 2 ^ 30 + 8 * 2 ^ 25), running 5 (instr 0x1E (1 * 2 ^ 30 + 8 * 2 ^ 25)) { cyc := 77 }, 0, 0,
     0, 0, by decide +kernel⟩⟩

theorem wit_ScalarMemoryAndSpecialRegisterRowsAct :
    (∃ (e : Fin 96) (w : Nat) (s : State),
      Issues e.val w s ∧ iSop w = 0x1A) ∧
    (∃ (e : Fin 96) (w : Nat) (s : State),
      Issues e.val w s ∧ iSop w = 0x1B ∧ spadWin ((s.eng e.val).pairAddr w) = 0) ∧
    (∃ (e : Fin 96) (w : Nat) (s : State),
      Issues e.val w s ∧ iSop w = 0x1C) ∧
    (∃ (e : Fin 96) (w : Nat) (s : State),
      Issues e.val w s ∧ iSop w = 0x1F ∧ iSpr w = 0x10) ∧
    (∃ (e : Fin 96) (w : Nat) (s : State),
      Issues e.val w s ∧ iSop w = 0x1F ∧ iSpr w = 0x11) ∧
    (∃ (e : Fin 96) (w : Nat) (s : State),
      Issues e.val w s ∧ iSop w = 0x1F ∧ iSpr w = 0x12) ∧
    (∃ (e : Fin 96) (w : Nat) (s : State),
      Issues e.val w s ∧ iSop w = 0x1F ∧ iSpr w = 0x13) ∧
    (∃ (e : Fin 96) (w : Nat) (s : State),
      Issues e.val w s ∧ iSop w = 0x1F ∧ iSpr w = 0x14) ∧
    (∃ (e : Fin 96) (w : Nat) (s : State),
      Issues e.val w s ∧ iSop w = 0x1F ∧ iSpr w = 0x15) ∧
    (∃ (e : Fin 96) (w : Nat) (s : State),
      Issues e.val w s ∧ iSop w = 0x1F ∧ iSpr w = 0x16 ∧ scalarOnly w) :=
  ⟨⟨5, instr 0x1A (regsI 4 2 8), running 5 (instr 0x1A (regsI 4 2 8)) { regs := [(2, 16)], spad := [(0, encodeWord (0x1122334455667788 <<< 192))] },
    by decide +kernel⟩,
   ⟨5, instr 0x1B (regsI 4 2 8), running 5 (instr 0x1B (regsI 4 2 8)) { regs := [(2, 16), (4, 1), (5, 2)] },
     by decide +kernel⟩,
   ⟨5, instr 0x1C (4 * 2 ^ 30 + 1 * 2 ^ 28 + 3 * 2 ^ 25),
     running 5 (instr 0x1C (4 * 2 ^ 30 + 1 * 2 ^ 28 + 3 * 2 ^ 25)) { regs := [(4, 0xFFFFFFFE)] }, by decide +kernel⟩,
   ⟨5, instr 0x1F (4 * 2 ^ 30 + 0x10 * 2 ^ 25),
     running 5 (instr 0x1F (4 * 2 ^ 30 + 0x10 * 2 ^ 25)) { regs := [(4, 0xFFFFFFFE)], ip := 3 }, by decide +kernel⟩,
   ⟨5, instr 0x1F (4 * 2 ^ 30 + 0x11 * 2 ^ 25),
     running 5 (instr 0x1F (4 * 2 ^ 30 + 0x11 * 2 ^ 25)) { regs := [(4, 0xFFFFFFFE)], ip := 3 }, by decide +kernel⟩,
   ⟨5, instr 0x1F (4 * 2 ^ 30 + 0x12 * 2 ^ 25),
     running 5 (instr 0x1F (4 * 2 ^ 30 + 0x12 * 2 ^ 25)) { regs := [(4, 0xFFFFFFFE)], ip := 3 }, by decide +kernel⟩,
   ⟨5, instr 0x1F (4 * 2 ^ 30 + 0x13 * 2 ^ 25),
     running 5 (instr 0x1F (4 * 2 ^ 30 + 0x13 * 2 ^ 25)) { regs := [(4, 0xFFFFFFFE)], ip := 3 }, by decide +kernel⟩,
   ⟨5, instr 0x1F (4 * 2 ^ 30 + 0x14 * 2 ^ 25),
     running 5 (instr 0x1F (4 * 2 ^ 30 + 0x14 * 2 ^ 25)) { regs := [(4, 0xFFFFFFFE)], ip := 3 }, by decide +kernel⟩,
   ⟨5, instr 0x1F (4 * 2 ^ 30 + 0x15 * 2 ^ 25),
     running 5 (instr 0x1F (4 * 2 ^ 30 + 0x15 * 2 ^ 25)) { regs := [(4, 0xFFFFFFFE)], ip := 3 }, by decide +kernel⟩,
   ⟨5, instr 0x1F (4 * 2 ^ 30 + 0x16 * 2 ^ 25),
     (running 5 (instr 0x1F (4 * 2 ^ 30 + 0x16 * 2 ^ 25)) { regs := [(4, 1)] }).setFld (F.VE_STATUS_SAT 5) 1,
     by decide +kernel⟩⟩

theorem wit_BranchesLoopsWaitsAndInterruptsMoveVePc :
    (∃ (e : Fin 96) (w : Nat) (s : State),
      Issues e.val w s ∧ iSop w = 0x20) ∧
    (∃ (e : Fin 96) (w : Nat) (s : State),
      Issues e.val w s ∧ iSop w = 0x21) ∧
    (∃ (e : Fin 96) (w : Nat) (s : State),
      Issues e.val w s ∧ iSop w = 0x22) ∧
    (∃ (e : Fin 96) (w : Nat) (s : State),
      Issues e.val w s ∧ iSop w = 0x23) ∧
    (∃ (e : Fin 96) (w : Nat) (s : State),
      Issues e.val w s ∧ iSop w = 0x24) ∧
    (∃ (e : Fin 96) (w : Nat) (s : State),
      Issues e.val w s ∧ iSop w = 0x25) ∧
    (∃ (e : Fin 96) (w : Nat) (s : State),
      Issues e.val w s ∧ iSop w = 0x26) ∧
    (∃ (e : Fin 96) (w : Nat) (s : State),
      Issues e.val w s ∧ iSop w = 0x27 ∧
        (if bitsOf w 29 29 = 1 then min ((s.eng e.val).reg (iRd w)).toNat 4096 else bitsOf w 23 12 + 1) ≠ 0) ∧
    (∃ (e : Fin 96) (w : Nat) (s : State),
      Issues e.val w s ∧ iSop w = 0x27 ∧
        (if bitsOf w 29 29 = 1 then min ((s.eng e.val).reg (iRd w)).toNat 4096 else bitsOf w 23 12 + 1) = 0) ∧
    (∃ (e : Fin 96) (w : Nat) (s : State),
      Issues e.val w s ∧ iSop w = 0x28 ∧ (s.eng e.val).countOf w 65535 ≠ 0) ∧
    (∃ (e : Fin 96) (w : Nat) (s : State),
      Issues e.val w s ∧ iSop w = 0x28 ∧ (s.eng e.val).countOf w 65535 = 0) ∧
    (∃ (e : Fin 96) (w : Nat) (s : State),
      Issues e.val w s ∧ iSop w = 0x29 ∧ (s.eng e.val).edge = false) ∧
    (∃ (e : Fin 96) (w : Nat) (s : State),
      Issues e.val w s ∧ iSop w = 0x29 ∧ (s.eng e.val).edge = true ∧
        (s.eng e.val).intWait = some (w % 2, (s.eng e.val).pc)) ∧
    (∃ (e : Fin 96) (w : Nat) (s : State),
      Issues e.val w s ∧ iSop w = 0x2A) ∧
    (∃ (e : Fin 96) (w : Nat) (s : State),
      Issues e.val w s ∧ iSop w = 0x2B) ∧
    (∃ (e : Fin 96) (s : State),
      (s.eng e.val).sdone = 1 ∧ (s.eng e.val).pend.all (fun q => !q.old) = true) ∧
    (∃ (e : Fin 96) (s : State),
      ((s.eng e.val).sdone ≠ 1 ∨ (s.eng e.val).pend.all (fun q => !q.old) = false)) ∧
    (∃ (e : Fin 96) (s : State) (idle n : Nat),
      (s.eng e.val).st = .running ∧ s.veGated = false ∧ (s.eng e.val).intDue = some n ∧ (s.eng e.val).loads = [] ∧
        (s.eng e.val).slabWr = [] ∧ (s.eng e.val).pend = []) ∧
    (∃ (e : Fin 96) (s : State) (idle n : Nat),
      (s.eng e.val).st = .running ∧ s.veGated = false ∧ (s.eng e.val).intDue = some n ∧ (s.eng e.val).loads = [] ∧
        (s.eng e.val).slabWr = [] ∧ (s.eng e.val).pend = []) ∧
    (∃ (e : Fin 96) (s : State) (idle : Nat),
      ((s.eng e.val).st ≠ .running ∨ s.veGated = true ∨ (s.eng e.val).intDue = none)) ∧
    (∃ (x : Eng) (pc t : Nat) (r : Bool),
      x.rep = none ∧ x.slots = some ⟨1, some t, r⟩) ∧
    (∃ (x : Eng) (pc n : Nat),
      x.rep = some (n + 2)) ∧
    (∃ (x : Eng) (pc : Nat),
      x.rep = none ∧ x.slots = none ∧ x.loops = []) :=
  ⟨⟨5, instr 0x20 (regsI 1 2 77),
    running 5 (instr 0x20 (regsI 1 2 77)) { regs := [(1, 0xFFFFFFFE), (2, 5)], pc := 2047 }, by decide +kernel⟩,
   ⟨5, instr 0x21 (regsI 1 2 77), running 5 (instr 0x21 (regsI 1 2 77)) { regs := [(1, 0xFFFFFFFE), (2, 5)], pc := 2047 },
     by decide +kernel⟩,
   ⟨5, instr 0x22 (regsI 1 2 77), running 5 (instr 0x22 (regsI 1 2 77)) { regs := [(1, 0xFFFFFFFE), (2, 5)], pc := 2047 },
     by decide +kernel⟩,
   ⟨5, instr 0x23 (regsI 1 2 77), running 5 (instr 0x23 (regsI 1 2 77)) { regs := [(1, 0xFFFFFFFE), (2, 5)], pc := 2047 },
     by decide +kernel⟩,
   ⟨5, instr 0x24 (77), running 5 (instr 0x24 (77)) { regs := [(1, 0xFFFFFFFE), (2, 5)], pc := 2047 },
     by decide +kernel⟩,
   ⟨5, instr 0x25 (regs3 0 2 0), running 5 (instr 0x25 (regs3 0 2 0)) { regs := [(1, 0xFFFFFFFE), (2, 5)], pc := 2047 },
     by decide +kernel⟩,
   ⟨5, instr 0x26 77, running 5 (instr 0x26 77) { pc := 30 }, by decide +kernel⟩,
   ⟨5, instr 0x27 (9 * 4096), running 5 (instr 0x27 (9 * 4096)) { pc := 30 }, by decide +kernel⟩,
   ⟨5, instr 0x27 (1 * 2 ^ 30 + 2 ^ 29), running 5 (instr 0x27 (1 * 2 ^ 30 + 2 ^ 29)) { pc := 30 },
     by decide +kernel⟩,
   ⟨5, instr 0x28 (9 * 4096 + 40), running 5 (instr 0x28 (9 * 4096 + 40)) { pc := 30 }, by decide +kernel⟩,
   ⟨5, instr 0x28 (1 * 2 ^ 30 + 2 ^ 29 + 40), running 5 (instr 0x28 (1 * 2 ^ 30 + 2 ^ 29 + 40)) { pc := 30 },
     by decide +kernel⟩,
   ⟨5, instr 0x29 1, running 5 (instr 0x29 1) { pc := 30, live := 3 }, by decide +kernel⟩,
   ⟨5, instr 0x29 1, running 5 (instr 0x29 1) { pc := 30, edge := true, intWait := some (1, 30) }, by decide +kernel⟩,
   ⟨5, instr 0x2A 0, running 5 (instr 0x2A 0) { pc := 30 }, by decide +kernel⟩,
   ⟨5, instr 0x2B 0, running 5 (instr 0x2B 0) { pc := 2033, hm := true, epc := 9 }, by decide +kernel⟩,
   ⟨5, running 5 0 { sdone := 1 }, by decide +kernel⟩,
   ⟨5, running 5 0 { sdone := 2 }, by decide +kernel⟩,
   ⟨5, running 5 0 { ip := 5, ie := 0x1F, pc := 44 }, 3, 0, by decide +kernel⟩,
   ⟨5, running 5 0 { ip := 5, ie := 0x1F, pc := 44, wait := some 1 }, 3, 0, by decide +kernel⟩,
   ⟨5, running 5 0 { pc := 44 }, 3, by decide +kernel⟩,
   ⟨{ slots := some ⟨1, some 9, false⟩ }, 4, 9, false, by decide +kernel⟩,
   ⟨{ rep := some 5 }, 4, 3, by decide +kernel⟩,
   ⟨{}, 4, by decide +kernel⟩⟩

theorem wit_VectorOperationsComputeTheirBanks :
    (∃ (e : Fin 96) (w : Nat) (s : State) (b d : Nat),
      Issues e.val w s ∧ b = iVb w ∧ d = (Cy.cRead { x := (s.eng e.val) } ((s.eng e.val).genAddr 0)).2.1 ∧
        iVo w = 0) ∧
    (∃ (e : Fin 96) (w : Nat) (s : State) (b d : Nat),
      Issues e.val w s ∧ b = iVb w ∧ d = (Cy.cRead { x := (s.eng e.val) } ((s.eng e.val).genAddr 0)).2.1 ∧
        iVo w = 1 ∧ iSop w ≠ 0x29) ∧
    (∃ (e : Fin 96) (w : Nat) (s : State) (b d : Nat),
      Issues e.val w s ∧ b = iVb w ∧ d = (Cy.cRead { x := (s.eng e.val) } ((s.eng e.val).genAddr 0)).2.1 ∧
        iVo w = 2 ∧ iSop w ≠ 0x29) ∧
    (∃ (e : Fin 96) (w : Nat) (s : State) (b d : Nat),
      Issues e.val w s ∧ b = iVb w ∧ d = (Cy.cRead { x := (s.eng e.val) } ((s.eng e.val).genAddr 0)).2.1 ∧
        iVo w = 3 ∧ iSop w ≠ 0x29) ∧
    (∃ (e : Fin 96) (w : Nat) (s : State) (b d : Nat),
      Issues e.val w s ∧ b = iVb w ∧ d = (Cy.cRead { x := (s.eng e.val) } ((s.eng e.val).genAddr 0)).2.1 ∧
        iVo w = 4) ∧
    (∃ (e : Fin 96) (w : Nat) (s : State) (b d : Nat),
      Issues e.val w s ∧ b = iVb w ∧ d = (Cy.cRead { x := (s.eng e.val) } ((s.eng e.val).genAddr 0)).2.1 ∧
        iVo w = 5) ∧
    (∃ (e : Fin 96) (w : Nat) (s : State) (b d : Nat),
      Issues e.val w s ∧ b = iVb w ∧ d = (Cy.cRead { x := (s.eng e.val) } ((s.eng e.val).genAddr 0)).2.1 ∧
        iVo w = 6 ∧ iSop w ≠ 0x29) ∧
    (∃ (e : Fin 96) (w : Nat) (s : State) (b d : Nat),
      Issues e.val w s ∧ b = iVb w ∧ d = (Cy.cRead { x := (s.eng e.val) } ((s.eng e.val).genAddr 0)).2.1 ∧
        iVo w = 7 ∧ iSop w ≠ 0x29) :=
  ⟨⟨5, instr 0 0 0x0 0x0, running 5 (instr 0 0 0x0 0x0) { live := 1 }, 0,
    (Cy.cRead { x := (running 5 (instr 0 0) {}).eng 5 } 0).2.1, by decide +kernel⟩,
   ⟨5, instr 0 0 0x8 0x8, running 5 (instr 0 0 0x8 0x8) { xh := 0xFFF00011, acc := [(0, 5)], slab := { mode := 2, ready := true, words := [(0, encodeWord (0x64ff40700a3))] } },
     0, 0x64ff40700a3, by decide +kernel⟩,
   ⟨5, instr 0 0 0x10 0x8, running 5 (instr 0 0 0x10 0x8) { xh := 0xFFF00011, acc := [(0, 5)], slab := { mode := 2, ready := true, words := [(0, encodeWord (0x64ff40700a3))] } },
     0, 0x64ff40700a3, by decide +kernel⟩,
   ⟨5, instr 0 0 0x18 0x0, running 5 (instr 0 0 0x18 0x0) { xh := 0xFFF00011, acc := [(0, 5)], err := [(0, 0x0005FFFF)] },
     0, (Cy.cRead { x := (running 5 (instr 0 0) {}).eng 5 } 0).2.1, by decide +kernel⟩,
   ⟨5, instr 0 0 0x20 0x0, running 5 (instr 0 0 0x20 0x0) { xh := 0x1234567FFF00011, gens := [(14, 5)] }, 0,
     (Cy.cRead { x := (running 5 (instr 0 0) {}).eng 5 } 0).2.1, by decide +kernel⟩,
   ⟨5, instr 0 0 0x28 0x8, running 5 (instr 0 0 0x28 0x8) { acc := [(0, 5), (1, -9)], gens := [(7, 3)], slab := { mode := 2, ready := true, words := [(0, encodeWord (0x64ff40700a3))] } },
     0, 0x64ff40700a3, by decide +kernel⟩,
   ⟨5, instr 0 0 0x33 0x0, running 5 (instr 0 0 0x33 0x0) { acc := [(0, 5000000), (49, -9)], live := 1, osh := 4 },
     0, (Cy.cRead { x := (running 5 (instr 0 0) {}).eng 5 } 0).2.1, by decide +kernel⟩,
   ⟨5, instr 0 0 0x3c 0x0, running 5 (instr 0 0 0x3c 0x0) { acc := [(0, 5), (49, -9)], live := 3 }, 1,
     (Cy.cRead { x := (running 5 (instr 0 0) {}).eng 5 } 0).2.1, by decide +kernel⟩⟩

theorem wit_AddressGeneratorsAccessAndAdvance :
    (∃ (e : Fin 96) (g : Fin 3) (w : Nat) (s : State) (org base ptr stride mod step sum inc : Int),
      Issues e.val w s ∧ iSop w ≠ 0x1C ∧ org = ((s.eng e.val).gen g.val 0 : Nat) ∧
        base = ((s.eng e.val).gen g.val 1 : Nat) ∧ ptr = signedOf (genW g.val) ((s.eng e.val).gen g.val 2) ∧
        stride = signedOf (genW g.val) ((s.eng e.val).gen g.val 3) ∧ mod = ((s.eng e.val).gen g.val 4 : Nat) ∧
        step = signedOf (genW g.val) ((s.eng e.val).gen g.val 5) ∧ sum = ptr + stride ∧
        inc = (if iMod w 0 = 1 then 2 else 1) ∧ iAct w g.val = 1) ∧
    (∃ (e : Fin 96) (g : Fin 3) (w : Nat) (s : State) (org base ptr stride mod step sum inc : Int),
      Issues e.val w s ∧ iSop w ≠ 0x1C ∧ org = ((s.eng e.val).gen g.val 0 : Nat) ∧
        base = ((s.eng e.val).gen g.val 1 : Nat) ∧ ptr = signedOf (genW g.val) ((s.eng e.val).gen g.val 2) ∧
        stride = signedOf (genW g.val) ((s.eng e.val).gen g.val 3) ∧ mod = ((s.eng e.val).gen g.val 4 : Nat) ∧
        step = signedOf (genW g.val) ((s.eng e.val).gen g.val 5) ∧ sum = ptr + stride ∧
        inc = (if iMod w 0 = 1 then 2 else 1) ∧ iAct w g.val = 2) ∧
    (∃ (e : Fin 96) (g : Fin 3) (w : Nat) (s : State) (org base ptr stride mod step sum inc : Int),
      Issues e.val w s ∧ iSop w ≠ 0x1C ∧ org = ((s.eng e.val).gen g.val 0 : Nat) ∧
        base = ((s.eng e.val).gen g.val 1 : Nat) ∧ ptr = signedOf (genW g.val) ((s.eng e.val).gen g.val 2) ∧
        stride = signedOf (genW g.val) ((s.eng e.val).gen g.val 3) ∧ mod = ((s.eng e.val).gen g.val 4 : Nat) ∧
        step = signedOf (genW g.val) ((s.eng e.val).gen g.val 5) ∧ sum = ptr + stride ∧
        inc = (if iMod w 0 = 1 then 2 else 1) ∧ iAct w g.val = 3) ∧
    (∃ (e : Fin 96) (g : Fin 3) (w : Nat) (s : State) (org base ptr stride mod step sum inc : Int),
      Issues e.val w s ∧ iSop w ≠ 0x1C ∧ org = ((s.eng e.val).gen g.val 0 : Nat) ∧
        base = ((s.eng e.val).gen g.val 1 : Nat) ∧ ptr = signedOf (genW g.val) ((s.eng e.val).gen g.val 2) ∧
        stride = signedOf (genW g.val) ((s.eng e.val).gen g.val 3) ∧ mod = ((s.eng e.val).gen g.val 4 : Nat) ∧
        step = signedOf (genW g.val) ((s.eng e.val).gen g.val 5) ∧ sum = ptr + stride ∧
        inc = (if iMod w 0 = 1 then 2 else 1) ∧ iAct w g.val = 4) ∧
    (∃ (e : Fin 96) (g : Fin 3) (w : Nat) (s : State) (org base ptr stride mod step sum inc : Int),
      Issues e.val w s ∧ iSop w ≠ 0x1C ∧ org = ((s.eng e.val).gen g.val 0 : Nat) ∧
        base = ((s.eng e.val).gen g.val 1 : Nat) ∧ ptr = signedOf (genW g.val) ((s.eng e.val).gen g.val 2) ∧
        stride = signedOf (genW g.val) ((s.eng e.val).gen g.val 3) ∧ mod = ((s.eng e.val).gen g.val 4 : Nat) ∧
        step = signedOf (genW g.val) ((s.eng e.val).gen g.val 5) ∧ sum = ptr + stride ∧
        inc = (if iMod w 0 = 1 then 2 else 1) ∧ iAct w g.val = 5) ∧
    (∃ (e : Fin 96) (g : Fin 3) (w : Nat) (s : State) (org base ptr stride mod step sum inc : Int),
      Issues e.val w s ∧ iSop w ≠ 0x1C ∧ org = ((s.eng e.val).gen g.val 0 : Nat) ∧
        base = ((s.eng e.val).gen g.val 1 : Nat) ∧ ptr = signedOf (genW g.val) ((s.eng e.val).gen g.val 2) ∧
        stride = signedOf (genW g.val) ((s.eng e.val).gen g.val 3) ∧ mod = ((s.eng e.val).gen g.val 4 : Nat) ∧
        step = signedOf (genW g.val) ((s.eng e.val).gen g.val 5) ∧ sum = ptr + stride ∧
        inc = (if iMod w 0 = 1 then 2 else 1) ∧ iAct w g.val = 6) ∧
    (∃ (e : Fin 96) (g : Fin 3) (w : Nat) (s : State) (org base ptr stride mod step sum inc : Int),
      Issues e.val w s ∧ iSop w ≠ 0x1C ∧ org = ((s.eng e.val).gen g.val 0 : Nat) ∧
        base = ((s.eng e.val).gen g.val 1 : Nat) ∧ ptr = signedOf (genW g.val) ((s.eng e.val).gen g.val 2) ∧
        stride = signedOf (genW g.val) ((s.eng e.val).gen g.val 3) ∧ mod = ((s.eng e.val).gen g.val 4 : Nat) ∧
        step = signedOf (genW g.val) ((s.eng e.val).gen g.val 5) ∧ sum = ptr + stride ∧
        inc = (if iMod w 0 = 1 then 2 else 1) ∧ iAct w g.val = 7) ∧
    (∃ (e : Fin 96) (w : Nat) (s : State),
      Issues e.val w s ∧ iAct w 1 = 1) ∧
    (∃ (e : Fin 96) (w i l : Nat) (s : State),
      Issues e.val w s ∧ iAct w 2 = 1 ∧ iVo w = 0 ∧ iSop w = 0 ∧ (s.eng e.val).suppressed (iMod w 2) = false ∧
        spadWin ((s.eng e.val).genAddr 2) = 0 ∧ i = (s.eng e.val).genAddr 2 / 32 ∧
        l = (s.eng e.val).genAddr 2 % 32 / 8) :=
  ⟨⟨5, 1, instr 0 0 0 0 0x8, running 5 (instr 0 0 0 0 0x8) { gens := [(8, 64), (9, 96), (10, 0xFFFF8), (11, 16), (12, 8), (13, 32), (14, 3)] },
    64, 96, -8, 16, 8, 32, 8, 1, by decide +kernel⟩,
   ⟨5, 1, instr 0 0 0 0 0x10, running 5 (instr 0 0 0 0 0x10) { gens := [(8, 64), (9, 96), (10, 0xFFFF8), (11, 16), (12, 8), (13, 32), (14, 3)] },
     64, 96, -8, 16, 8, 32, 8, 1, by decide +kernel⟩,
   ⟨5, 1, instr 0 0 0 0 0x18, running 5 (instr 0 0 0 0 0x18) { gens := [(8, 64), (9, 96), (10, 0xFFFF8), (11, 16), (12, 8), (13, 32), (14, 3)] },
     64, 96, -8, 16, 8, 32, 8, 1, by decide +kernel⟩,
   ⟨5, 1, instr 0 0 0 0 0x20, running 5 (instr 0 0 0 0 0x20) { gens := [(8, 64), (9, 96), (10, 0xFFFF8), (11, 16), (12, 8), (13, 32), (14, 3)] },
     64, 96, -8, 16, 8, 32, 8, 1, by decide +kernel⟩,
   ⟨5, 1, instr 0 0 0 0 0x28, running 5 (instr 0 0 0 0 0x28) { gens := [(8, 64), (9, 96), (10, 0xFFFF8), (11, 16), (12, 8), (13, 32), (14, 3)] },
     64, 96, -8, 16, 8, 32, 8, 1, by decide +kernel⟩,
   ⟨5, 1, instr 0 0 0 0 0x30, running 5 (instr 0 0 0 0 0x30) { gens := [(8, 64), (9, 96), (10, 0xFFFF8), (11, 16), (12, 8), (13, 32), (14, 3)] },
     64, 96, -8, 16, 8, 32, 8, 1, by decide +kernel⟩,
   ⟨5, 1, instr 0 0 0 0 0x38, running 5 (instr 0 0 0 0 0x38) { gens := [(8, 64), (9, 96), (10, 0xFFFF8), (11, 16), (12, 8), (13, 32), (14, 3)] },
     64, 96, -8, 16, 8, 32, 8, 1, by decide +kernel⟩,
   ⟨5, instr 0 0 0 0 8, running 5 (instr 0 0 0 0 8) { gens := [(9, 8)], spad := [(0, encodeWord (0x1122334455667788 <<< 64))] },
     by decide +kernel⟩,
   ⟨5, instr 0 0 0 0 0 9, 1, 1, running 5 (instr 0 0 0 0 0 9) { gens := [(17, 40)], valid := 1, orf := [(0, 5), (1, 9)] },
     by decide +kernel⟩⟩

theorem wit_OneInstructionCarriesUpToFiveOperations :
    (∃ (e : Fin 96) (w : Nat) (s : State),
      Issues e.val w s ∧ iSop w = 0x01 ∧ iVo w = 1 ∧ iAct w 0 = 2 ∧ iAct w 1 = 1) ∧
    (∃ (e : Fin 96) (w : Nat) (ce : Bool) (s : State),
      (s.eng e.val).fetch = ⟨some w, ce⟩) ∧
    (∃ (e : Fin 96) (w c : Nat) (s : State),
      (s.eng e.val).mayIssue = true ∧ s.veGated = false ∧ (s.eng e.val).fetch = ⟨some w, false⟩ ∧
        (s.eng e.val).pend = [] ∧ (s.eng e.val).gather = none ∧ (s.eng e.val).loads = [] ∧
        (s.eng e.val).slabWr = [] ∧ (s.eng e.val).faultOf w = some c ∧ iSop w = 0x01) ∧
    (∃ (e : Fin 96) (s : State),
      ((s.eng e.val).mayIssue = false ∨ s.veGated = true)) ∧
    (∃ (e : Fin 96) (s : State),
      (s.eng e.val).mayIssue = true ∧ s.veGated = false ∧ (s.eng e.val).fetch.word = none) ∧
    (∃ (e : Fin 96) (w : Nat) (s : State),
      (s.eng e.val).mayIssue = true ∧ s.veGated = false ∧ (s.eng e.val).fetch = ⟨some w, true⟩ ∧ iSop w = 0x01 ∧
        s.count (C.VE_SPAD_CE e.val) < 0xFFFFFFFE) :=
  ⟨⟨5, instr 0x01 (regs3 1 2 3) 8 16 8, running 5 (instr 0x01 (regs3 1 2 3) 8 16 8) {}, by decide +kernel⟩,
   ⟨5, 0, false, running 5 0 {}, by decide +kernel⟩,
   ⟨5, instr 0x01 (regs3 1 2 3 + 1), 1, running 5 (instr 0x01 (regs3 1 2 3 + 1)) { pc := 7 }, by decide +kernel⟩,
   ⟨5, base, by decide +kernel⟩,
   ⟨5, base.setEng 5 { st := .running, pc := 7, imem := [(1, encodeWord 5 ^^^ 0x10001)] }, by decide +kernel⟩,
   ⟨5, instr 0x01 (regs3 1 2 3), base.setEng 5 { st := .running, imem := [(0, encodeWord (instr 0x01 (regs3 1 2 3)) ^^^ 5)] },
     by decide +kernel⟩⟩

theorem wit_VectorGroupsAreDefinedStartedAndStopped :
    (∃ (s : State) (p : Pkt) (g : Nat) (x : Group),
      Taken 0x2001 p s ∧ g = byteAt p.bytes 0 ∧ x = groupOf p.bytes ∧ p.target = 0 ∧
        p.length = 4 + byteAt p.bytes 5 + byteAt p.bytes 6 ∧ s.defineOk p.bytes x = true ∧ s.groupRuns g = false ∧
        s.defineFits g x = true ∧ s.ladderTests x = none) ∧
    (∃ (s : State) (p : Pkt) (g : Nat) (x : Group),
      Taken 0x2001 p s ∧ g = byteAt p.bytes 0 ∧ x = groupOf p.bytes ∧ p.target = 0 ∧
        p.length = 4 + byteAt p.bytes 5 + byteAt p.bytes 6 ∧ s.defineOk p.bytes x = false) ∧
    (∃ (s : State) (p : Pkt) (g : Nat) (x : Group),
      Taken 0x2001 p s ∧ g = byteAt p.bytes 0 ∧ x = groupOf p.bytes ∧ p.target = 0 ∧
        p.length = 4 + byteAt p.bytes 5 + byteAt p.bytes 6 ∧ s.defineOk p.bytes x = true ∧ s.groupRuns g = true) ∧
    (∃ (s : State) (p : Pkt) (g : Nat) (x : Group),
      Taken 0x2001 p s ∧ g = byteAt p.bytes 0 ∧ x = groupOf p.bytes ∧ p.target = 0 ∧
        p.length = 4 + byteAt p.bytes 5 + byteAt p.bytes 6 ∧ s.defineOk p.bytes x = true ∧ s.groupRuns g = false ∧
        s.defineFits g x = false) ∧
    (∃ (s : State) (p : Pkt) (g : Nat) (x : Group) (st : Nat),
      Taken 0x2001 p s ∧ g = byteAt p.bytes 0 ∧ x = groupOf p.bytes ∧ p.target = 0 ∧
        p.length = 4 + byteAt p.bytes 5 + byteAt p.bytes 6 ∧ s.defineOk p.bytes x = true ∧ s.groupRuns g = false ∧
        s.defineFits g x = true ∧ s.ladderTests x = some st) ∧
    (∃ (s : State) (p : Pkt) (g grade : Nat) (r : List RungTg),
      Taken 0x2002 p s ∧ p.target = 0 ∧ g = byteAt p.bytes 0 ∧ grade = byteAt p.bytes 1 ∧ g ≤ 3 ∧
        (s.vg g).state ≠ 0 ∧ p.length = 1 + 4 * (s.vg g).tgs.length ∧ grade ≤ 7 ∧
        rungZeros p.bytes (s.vg g).tgs.length = true ∧ r = (List.range (s.vg g).tgs.length).map (rungEntry p.bytes) ∧
        (s.vg g).state = 1 ∧ s.ladderTests { s.vg g with rungs := sparseSet (fun _ => []) (s.vg g).rungs grade r } =
        none) ∧
    (∃ (s : State) (p : Pkt) (g grade : Nat) (r : List RungTg),
      Taken 0x2002 p s ∧ p.target = 0 ∧ g = byteAt p.bytes 0 ∧ grade = byteAt p.bytes 1 ∧ g ≤ 3 ∧
        (s.vg g).state ≠ 0 ∧ p.length = 1 + 4 * (s.vg g).tgs.length ∧ grade ≤ 7 ∧
        rungZeros p.bytes (s.vg g).tgs.length = true ∧ r = (List.range (s.vg g).tgs.length).map (rungEntry p.bytes) ∧
        s.groupRuns g = true ∧ grade ≠ 7 ∧
        s.ladderTests { s.vg g with nextRungs := (s.vg g).nextRungs.filter (fun q => q.1 != grade) ++ [(grade, r, s.tick.count.toNat)] } =
        none) ∧
    (∃ (s : State) (p : Pkt) (g grade : Nat) (r : List RungTg),
      Taken 0x2002 p s ∧ p.target = 0 ∧ g = byteAt p.bytes 0 ∧ grade = byteAt p.bytes 1 ∧ g ≤ 3 ∧
        (s.vg g).state ≠ 0 ∧ p.length = 1 + 4 * (s.vg g).tgs.length ∧ grade ≤ 7 ∧
        rungZeros p.bytes (s.vg g).tgs.length = true ∧ r = (List.range (s.vg g).tgs.length).map (rungEntry p.bytes) ∧
        s.groupRuns g = true ∧ grade = 7) ∧
    (∃ (s : State) (p : Pkt) (g grade : Nat) (r : List RungTg) (st : Nat),
      Taken 0x2002 p s ∧ p.target = 0 ∧ g = byteAt p.bytes 0 ∧ grade = byteAt p.bytes 1 ∧ g ≤ 3 ∧
        (s.vg g).state ≠ 0 ∧ p.length = 1 + 4 * (s.vg g).tgs.length ∧ grade ≤ 7 ∧
        rungZeros p.bytes (s.vg g).tgs.length = true ∧ r = (List.range (s.vg g).tgs.length).map (rungEntry p.bytes) ∧
        (s.vg g).state = 1 ∧ s.ladderTests { s.vg g with rungs := sparseSet (fun _ => []) (s.vg g).rungs grade r } =
        some st) ∧
    (∃ (s : State) (p : Pkt) (g grade : Nat) (r : List RungTg) (st : Nat),
      Taken 0x2002 p s ∧ p.target = 0 ∧ g = byteAt p.bytes 0 ∧ grade = byteAt p.bytes 1 ∧ g ≤ 3 ∧
        (s.vg g).state ≠ 0 ∧ p.length = 1 + 4 * (s.vg g).tgs.length ∧ grade ≤ 7 ∧
        rungZeros p.bytes (s.vg g).tgs.length = true ∧ r = (List.range (s.vg g).tgs.length).map (rungEntry p.bytes) ∧
        s.groupRuns g = true ∧ grade ≠ 7 ∧
        s.ladderTests { s.vg g with nextRungs := (s.vg g).nextRungs.filter (fun q => q.1 != grade) ++ [(grade, r, s.tick.count.toNat)] } =
        some st) ∧
    (∃ (s : State) (p : Pkt) (g grade : Nat),
      Taken 0x2002 p s ∧ p.target = 0 ∧ g = byteAt p.bytes 0 ∧ grade = byteAt p.bytes 1 ∧ g ≤ 3 ∧
        (s.vg g).state ≠ 0 ∧ p.length = 1 + 4 * (s.vg g).tgs.length ∧
        (7 < grade ∨ rungZeros p.bytes (s.vg g).tgs.length = false)) ∧
    (∃ (s : State) (p : Pkt) (g : Nat),
      Taken 0x2002 p s ∧ p.target = 0 ∧ g = byteAt p.bytes 0 ∧ 1 ≤ p.length ∧ (3 < g ∨ (s.vg g).state = 0)) ∧
    (∃ (s : State) (p : Pkt) (g : Nat),
      Taken 0x2003 p s ∧ p.length = 0 ∧ g = p.target.toNat ∧ g < 4 ∧ s.overcast = false ∧ (s.vg g).state = 1 ∧
        s.startChecks g = none) ∧
    (∃ (s : State) (p : Pkt) (g : Nat) (st : Nat),
      Taken 0x2003 p s ∧ p.length = 0 ∧ g = p.target.toNat ∧ g < 4 ∧ s.overcast = false ∧ (s.vg g).state = 1 ∧
        s.startChecks g = some st) ∧
    (∃ (s : State) (p : Pkt) (g : Nat),
      Taken 0x2003 p s ∧ p.length = 0 ∧ g = p.target.toNat ∧ g < 4 ∧ s.overcast = false ∧ (s.vg g).state = 0) ∧
    (∃ (s : State) (p : Pkt) (g : Nat),
      Taken 0x2003 p s ∧ p.length = 0 ∧ g = p.target.toNat ∧ g < 4 ∧ (s.overcast = true ∨ s.groupRuns g = true)) ∧
    (∃ (s : State) (p : Pkt) (g : Nat),
      Taken 0x2004 p s ∧ p.length = 0 ∧ g = p.target.toNat ∧ g < 4 ∧ ((s.vg g).state = 2 ∨ (s.vg g).state = 3) ∧
        (s.vg g).stopAt = none) ∧
    (∃ (s : State) (p : Pkt) (g : Nat),
      Taken 0x2004 p s ∧ p.length = 0 ∧ g = p.target.toNat ∧ g < 4 ∧
        ((s.vg g).state = 1 ∨ (s.vg g).state = 4 ∨ ((s.vg g).state ≠ 0 ∧ (s.vg g).stopAt ≠ none))) ∧
    (∃ (s : State) (p : Pkt) (g : Nat),
      Taken 0x200A p s ∧ p.length = 0 ∧ g = p.target.toNat ∧ g < 4 ∧ (s.vg g).state = 1) ∧
    (∃ (s : State) (p : Pkt) (g : Nat),
      Taken 0x200A p s ∧ p.length = 0 ∧ g = p.target.toNat ∧ g < 4 ∧ s.groupRuns g = true) ∧
    (∃ (s : State) (p : Pkt) (g : Nat),
      Taken 0x200B p s ∧ p.length = 0 ∧ g = p.target.toNat ∧ g < 4 ∧ (s.vg g).state ≠ 0) ∧
    (∃ (s : State) (p : Pkt) (g : Nat),
      p.length = 0 ∧ g = p.target.toNat ∧ g < 4 ∧ (s.vg g).state = 0) ∧
    (∃ (s : State) (p : Pkt) (g k : Nat),
      Taken 0x2009 p s ∧ p.length = 0 ∧ p.target.toNat < 96 ∧ s.serves p.target.toNat = some (g, k) ∧
        ((s.vg g).tg k).est = true) ∧
    (∃ (s : State) (p : Pkt) (g k : Nat),
      Taken 0x2009 p s ∧ p.length = 0 ∧ p.target.toNat < 96 ∧ s.serves p.target.toNat = some (g, k) ∧
        ((s.vg g).tg k).est = false) ∧
    (∃ (s : State) (p : Pkt),
      Taken 0x2009 p s ∧ p.length = 0 ∧ p.target.toNat < 96 ∧ s.serves p.target.toNat = none) ∧
    (∃ (s : State) (p : Pkt),
      Taken 0x200C p s ∧ p.length = 1 ∧ p.target = 0 ∧ p.w 0 % 65536 ≤ 2047) ∧
    (∃ (s : State) (p : Pkt),
      Taken 0x200C p s ∧ p.length = 1 ∧ p.target = 0 ∧ 2047 < p.w 0 % 65536) :=
  ⟨⟨(ready 2).setFld (F.SVL_PORT_CFG_LINES 3) 4, pk 2 0 [0x00040201, 0x0001011E, 0x00080000, 0x004D0000, 0x00040003,
    0x00080005], 1, groupOf (pk 2 0 [0x00040201, 0x0001011E, 0x00080000, 0x004D0000, 0x00040003, 0x00080005]).bytes,
    by decide +kernel⟩,
   ⟨ready 2, pk 2 0 [0x00040201, 0x0001011E, 0x00080000, 0x004D0000, 0x00040003, 0x00080005], 1,
     groupOf (pk 2 0 [0x00040201, 0x0001011E, 0x00080000, 0x004D0000, 0x00040003, 0x00080005]).bytes,
     by decide +kernel⟩,
   ⟨((ready 2).setFld (F.SVL_PORT_CFG_LINES 3) 4).setVg 1 { state := 3 }, pk 2 0 [0x00040201, 0x0001011E,
     0x00080000, 0x004D0000, 0x00040003, 0x00080005], 1, groupOf (pk 2 0 [0x00040201, 0x0001011E, 0x00080000,
     0x004D0000, 0x00040003, 0x00080005]).bytes, by decide +kernel⟩,
   ⟨((ready 2).setFld (F.SVL_PORT_CFG_LINES 3) 4).setEng 5 { st := .retired }, pk 2 0 [0x00040201, 0x0001011E,
     0x00080000, 0x004D0000, 0x00040003, 0x00080005], 1, groupOf (pk 2 0 [0x00040201, 0x0001011E, 0x00080000,
     0x004D0000, 0x00040003, 0x00080005]).bytes, by decide +kernel⟩,
   ⟨(ready 2).setFld (F.SVL_PORT_CFG_LINES 3) 4, pk 2 0 [0x00040201, 0x0001011E, 0x04080000, 0x004DFFE0, 0x00040003,
     0x04080005], 1, groupOf (pk 2 0 [0x00040201, 0x0001011E, 0x04080000, 0x004DFFE0, 0x00040003,
     0x04080005]).bytes, stNoResource, by decide +kernel⟩,
   ⟨((ready 2).setVg 1 { state := 1, tgs := [{ eng := 5, tones := 8 }], ports := [⟨3, 0, 4⟩], lines := 4, mds := 30, profile := 2 }),
     pk 2 0 [0x0201, 4, 1000, 10, 10], 1, 2, [⟨4, 1000, 10, 10⟩], by decide +kernel⟩,
   ⟨((ready 2).setVg 1 { state := 3, tgs := [{ eng := 5, tones := 8 }], ports := [⟨3, 0, 4⟩], lines := 4, mds := 30, profile := 2 }),
     pk 2 0 [0x0201, 4, 1000, 10, 10], 1, 2, [⟨4, 1000, 10, 10⟩], by decide +kernel⟩,
   ⟨((ready 2).setVg 1 { state := 3, tgs := [{ eng := 5, tones := 8 }], ports := [⟨3, 0, 4⟩], lines := 4, mds := 30, profile := 2 }),
     pk 2 0 [0x0701, 0, 1000, 10, 10], 1, 7, [⟨0, 1000, 10, 10⟩], by decide +kernel⟩,
   ⟨((ready 2).setVg 1 { state := 1, tgs := [{ eng := 5, tones := 8 }], ports := [⟨3, 0, 4⟩], lines := 4, mds := 30, profile := 2 }),
     pk 2 0 [0x0201, 5, 1000, 10, 10], 1, 2, [⟨5, 1000, 10, 10⟩], stBadParam, by decide +kernel⟩,
   ⟨((ready 2).setVg 1 { state := 3, tgs := [{ eng := 5, tones := 8 }], ports := [⟨3, 0, 4⟩], lines := 4, mds := 30, profile := 2 }),
     pk 2 0 [0x0201, 5, 1000, 10, 10], 1, 2, [⟨5, 1000, 10, 10⟩], stBadParam, by decide +kernel⟩,
   ⟨((ready 2).setVg 1 { state := 1, tgs := [{ eng := 5, tones := 8 }], ports := [⟨3, 0, 4⟩], lines := 4, mds := 30, profile := 2 }),
     pk 2 0 [0x10201, 4, 1000, 10, 10], 1, 2, by decide +kernel⟩,
   ⟨ready 2, pk 2 0 [4], 4, by decide +kernel⟩,
   ⟨((({ ready 2 with tick := { base.tick with st := .locked } }).setVg 1 { state := 1, rungs := (List.range 8).map (fun r => (r, [⟨0, 0, 0, 0⟩])), tgs := [{ eng := 5, tones := 8 }], ports := [⟨3, 0, 4⟩], lines := 4, mds := 30, profile := 2 }).setEng 5 { kernel := some 0, slab := { mode := 2, ready := true } }).setSvlPort 3 { state := 3 },
     pk 2 1 [], 1, by decide +kernel⟩,
   ⟨((ready 2).setVg 1 { state := 1 }), pk 2 1 [], 1, stBusy, by decide +kernel⟩,
   ⟨ready 2, pk 2 1 [], 1, by decide +kernel⟩,
   ⟨((ready 2).setVg 1 { state := 3 }), pk 2 1 [], 1, by decide +kernel⟩,
   ⟨((ready 2).setVg 1 { state := 3 }), pk 2 1 [], 1, by decide +kernel⟩,
   ⟨((ready 2).setVg 1 { state := 1 }), pk 2 1 [], 1, by decide +kernel⟩,
   ⟨((ready 2).setVg 1 { state := 1 }).setEng 5 { st := .spare, spareOf := some 1 }, pk 2 1 [], 1, by decide +kernel⟩,
   ⟨((ready 2).setVg 1 { state := 2 }), pk 2 1 [], 1, by decide +kernel⟩,
   ⟨((ready 2).setVg 1 { state := 3, frozen := true }), pk 2 1 [], 1, by decide +kernel⟩,
   ⟨ready 2, pk 2 1 [], 1, by decide +kernel⟩,
   ⟨((ready 2).setVg 1 { state := 3, tgs := [{ eng := 5, tones := 8, est := true }] }), pk 2 5 [], 1, 0,
     by decide +kernel⟩,
   ⟨((ready 2).setVg 1 { state := 3, tgs := [{ eng := 5, tones := 8 }] }), pk 2 5 [], 1, 0, by decide +kernel⟩,
   ⟨ready 2, pk 2 5 [], by decide +kernel⟩,
   ⟨ready 2, pk 2 0 [2047], by decide +kernel⟩,
   ⟨ready 2, pk 2 0 [2048], by decide +kernel⟩⟩

theorem wit_ParametersFencesAndTilesReachTheEngines :
    (∃ (s : State) (p : Pkt),
      Taken 0x2005 p s ∧ 4 ≤ p.length ∧ p.length ≤ 1002 ∧ p.target.toNat < 3 ∧
        p.w 0 + (p.bytes.drop 8).length ≤ 0x20000 ∧
        (∀ e ∈ maskEngines p.target.toNat (p.w 1), s.overlapsBuf e (p.w 0) (p.bytes.drop 8).length = false)) ∧
    (∃ (s : State) (p : Pkt),
      Taken 0x2005 p s ∧ 4 ≤ p.length ∧ p.length ≤ 1002 ∧ p.target.toNat < 3 ∧
        (0x20000 < p.w 0 + (p.bytes.drop 8).length ∨
        (maskEngines p.target.toNat (p.w 1)).any (fun e => s.overlapsBuf e (p.w 0) (p.bytes.drop 8).length) = true)) ∧
    (∃ (s : State) (j : ParamJob) (js : List ParamJob),
      s.vec.params = j :: js ∧ j.begun = true ∧ j.engines.Nodup ∧ s.injection 5 = none) ∧
    (∃ (s : State) (e : Nat) (j : ParamJob) (js : List ParamJob) (d : Codeword),
      s.vec.params = j :: js ∧ j.begun = true ∧ j.engines = [e] ∧ s.injection 5 = some d) ∧
    (∃ (x : Eng) (addr n : Nat) (bs : List Byte),
      bs ≠ [] ∧ addr % 32 + bs.length ≤ 32 ∧
        (bs.length = 32 ∨ (decodeWord (x.spadWord (addr / 32)) matches .bad) = false)) ∧
    (∃ (s : State),
      (s.vec.params.head?.map (·.begun)).getD false = false) ∧
    (∃ (s : State) (p : Pkt) (g k : Nat) (m : Sparse (Option Nat)),
      Taken 0x2006 p s ∧ 9 ≤ p.length ∧ p.length % 9 = 0 ∧ p.target.toNat < 96 ∧
        s.serves p.target.toNat = some (g, k) ∧ ((s.vg g).tg k).commit = none ∧
        stageWords ((s.vg g).tg k).staged p.bytes (p.length / 9) = (m, true)) ∧
    (∃ (s : State) (p : Pkt) (g k : Nat) (m : Sparse (Option Nat)),
      Taken 0x2006 p s ∧ 9 ≤ p.length ∧ p.length % 9 = 0 ∧ p.target.toNat < 96 ∧
        s.serves p.target.toNat = some (g, k) ∧ ((s.vg g).tg k).commit = none ∧
        stageWords ((s.vg g).tg k).staged p.bytes (p.length / 9) = (m, false)) ∧
    (∃ (s : State) (p : Pkt) (g k : Nat),
      Taken 0x2006 p s ∧ 9 ≤ p.length ∧ p.length % 9 = 0 ∧ p.target.toNat < 96 ∧
        s.serves p.target.toNat = some (g, k) ∧ ((s.vg g).tg k).commit ≠ none) ∧
    (∃ (s : State) (p : Pkt),
      Taken 0x2006 p s ∧ 9 ≤ p.length ∧ p.length % 9 = 0 ∧ p.target.toNat < 96 ∧ s.serves p.target.toNat = none) ∧
    (∃ (s : State) (p : Pkt) (g k : Nat),
      Taken 0x2008 p s ∧ p.length = 0 ∧ p.target.toNat < 96 ∧ s.serves p.target.toNat = some (g, k) ∧
        ((s.vg g).tg k).commit = none) ∧
    (∃ (s : State) (p : Pkt) (g k : Nat),
      Taken 0x2008 p s ∧ p.length = 0 ∧ p.target.toNat < 96 ∧ s.serves p.target.toNat = some (g, k) ∧
        ((s.vg g).tg k).commit ≠ none) ∧
    (∃ (s : State) (p : Pkt),
      Taken 0x2008 p s ∧ p.length = 0 ∧ p.target.toNat < 96 ∧ s.serves p.target.toNat = none) ∧
    (∃ (s : State) (p : Pkt) (g : Nat) (ks : List Nat),
      Taken 0x2007 p s ∧ 1 ≤ p.length ∧ p.length ≤ 96 ∧ g = p.target.toNat ∧ g < 4 ∧
        ks = p.payload.map (fun w => w.toNat % 256) ∧ (s.vg g).state ≠ 0 ∧ ks.Nodup ∧
        (∀ k ∈ ks, k < (s.vg g).tgs.length ∧ ((s.vg g).tg k).commit = none ∧
        (s.eng ((s.vg g).tg k).eng).slab.overlay = [])) ∧
    (∃ (s : State) (p : Pkt) (g : Nat) (ks : List Nat),
      Taken 0x2007 p s ∧ 1 ≤ p.length ∧ p.length ≤ 96 ∧ g = p.target.toNat ∧ g < 4 ∧
        ks = p.payload.map (fun w => w.toNat % 256) ∧ (s.vg g).state = 0) ∧
    (∃ (s : State) (p : Pkt) (g : Nat) (ks : List Nat),
      Taken 0x2007 p s ∧ 1 ≤ p.length ∧ p.length ≤ 96 ∧ g = p.target.toNat ∧ g < 4 ∧
        ks = p.payload.map (fun w => w.toNat % 256) ∧ (s.vg g).state ≠ 0 ∧
        (ks.any (fun k => decide ((s.vg g).tgs.length ≤ k)) = true ∨ ¬ ks.Nodup)) ∧
    (∃ (s : State) (p : Pkt) (g : Nat) (ks : List Nat),
      Taken 0x2007 p s ∧ 1 ≤ p.length ∧ p.length ≤ 96 ∧ g = p.target.toNat ∧ g < 4 ∧
        ks = p.payload.map (fun w => w.toNat % 256) ∧ (s.vg g).state ≠ 0 ∧ ks.Nodup ∧
        (∀ k ∈ ks, k < (s.vg g).tgs.length) ∧
        ks.any (fun k => ((s.vg g).tg k).commit.isSome || !(s.eng ((s.vg g).tg k).eng).slab.overlay.isEmpty) = true) ∧
    (∃ (e : Fin 96) (s : State) (i d : Nat) (rest : Sparse (Option Nat)),
      (s.eng e.val).slab.overlay = (i, some d) :: rest ∧ (s.eng e.val).slab.ready = true ∧
        ((s.eng e.val).st ≠ .running ∨ (s.eng e.val).wait.isSome = true ∨ (s.eng e.val).cFree = true) ∧
        s.injection 4 = none) ∧
    (∃ (e : Fin 96) (s : State) (i d : Nat) (rest : Sparse (Option Nat)) (c : Codeword),
      (s.eng e.val).slab.overlay = (i, some d) :: rest ∧ (s.eng e.val).slab.ready = true ∧
        ((s.eng e.val).st ≠ .running ∨ (s.eng e.val).wait.isSome = true ∨ (s.eng e.val).cFree = true) ∧
        s.injection 4 = some c) ∧
    (∃ (e : Fin 96) (s : State),
      (((s.eng e.val).slab.overlay.head?.bind (·.2)) = none ∨ (s.eng e.val).slab.ready = false ∨
        ((s.eng e.val).st = .running ∧ (s.eng e.val).wait = none ∧ (s.eng e.val).cFree = false))) ∧
    (∃ (g : Fin 4) (k : Fin 96) (q : Fin 16) (s : State) (y : Sym) (l n : Nat),
      k.val < (s.vg g.val).tgs.length ∧ q.val < (s.vg g.val).ports.length ∧ (s.vg g.val).owed k.val q.val = false ∧
        (s.vg g.val).inc = some y ∧ l = s.portWidth ((s.vg g.val).port q.val).port ∧ n = y.written k.val q.val ∧
        (s.vg g.val).outg.all (fun z => !(z.par == y.par && z.eng k.val == y.eng k.val && decide (z.readOut k.val q.val ≤ n) && decide (z.readOut k.val q.val < (s.vg g.val).tiles q.val k.val) && decide (n < (s.vg g.val).tiles q.val k.val))) =
        true ∧ n < (s.vg g.val).tiles q.val k.val ∧ (s.vg g.val).inOrder y k.val q.val false = true ∧
        ((s.svlPort ((s.vg g.val).port q.val).port).rxOf y.tick).atHand l false ((s.vg g.val).tgStart q.val k.val +
        n) = true ∧ (s.eng (y.eng k.val)).portFree false = true ∧
        (s.eng (y.eng k.val)).midWrite (s.fld (F.VE_BUF_BASE (y.eng k.val) y.par) +
        (s.vg g.val).tileOffset q.val k.val + n) = false ∧ s.injection 5 = none) ∧
    (∃ (g : Fin 4) (k : Fin 96) (q : Fin 16) (s : State) (y : Sym) (l n : Nat),
      k.val < (s.vg g.val).tgs.length ∧ q.val < (s.vg g.val).ports.length ∧ (s.vg g.val).owed k.val q.val = true ∧
        (s.vg g.val).comp = some y ∧ l = s.portWidth ((s.vg g.val).port q.val).port ∧ n = y.written k.val q.val ∧
        (s.vg g.val).outg.all (fun z => !(z.par == y.par && z.eng k.val == y.eng k.val && decide (z.readOut k.val q.val ≤ n) && decide (z.readOut k.val q.val < (s.vg g.val).tiles q.val k.val) && decide (n < (s.vg g.val).tiles q.val k.val))) =
        true ∧ n < (s.vg g.val).tiles q.val k.val ∧ (s.vg g.val).inOrder y k.val q.val false = true ∧
        ((s.svlPort ((s.vg g.val).port q.val).port).rxOf y.tick).atHand l false ((s.vg g.val).tgStart q.val k.val +
        n) = true ∧ (s.eng (y.eng k.val)).portFree false = true ∧
        (s.eng (y.eng k.val)).midWrite (s.fld (F.VE_BUF_BASE (y.eng k.val) y.par) +
        (s.vg g.val).tileOffset q.val k.val + n) = false ∧ s.injection 5 = none) ∧
    (∃ (g : Fin 4) (k : Fin 96) (q : Fin 16) (s : State) (y : Sym) (l n : Nat),
      k.val < (s.vg g.val).tgs.length ∧ q.val < (s.vg g.val).ports.length ∧ (s.vg g.val).owed k.val q.val = false ∧
        (s.vg g.val).inc = some y ∧ l = s.portWidth ((s.vg g.val).port q.val).port ∧ n = y.written k.val q.val ∧
        (s.vg g.val).outg.all (fun z => !(z.par == y.par && z.eng k.val == y.eng k.val && decide (z.readOut k.val q.val ≤ n) && decide (z.readOut k.val q.val < (s.vg g.val).tiles q.val k.val) && decide (n < (s.vg g.val).tiles q.val k.val))) =
        true ∧ (s.vg g.val).tiles q.val k.val ≤ n ∧ n < (s.vg g.val).tiles q.val k.val + (s.vg g.val).fbTiles ∧
        (s.vg g.val).inOrder y k.val q.val true = true ∧
        ((s.svlPort ((s.vg g.val).port q.val).port).rxOf y.tick).atHand l true (k.val * (s.vg g.val).fbTiles +
        (n - (s.vg g.val).tiles q.val k.val)) = true ∧ s.updating (s.vg g.val) = true ∧
        (s.eng (y.eng k.val)).portFree false = true ∧
        (s.eng (y.eng k.val)).midWrite (s.fld (F.VE_BUF_BASE (y.eng k.val) (4 + y.par)) +
        q.val * (s.vg g.val).fbTiles + (n - (s.vg g.val).tiles q.val k.val)) = false ∧ s.injection 5 = none) ∧
    (∃ (g : Fin 4) (k : Fin 96) (q : Fin 16) (s : State) (y : Sym) (l n : Nat),
      k.val < (s.vg g.val).tgs.length ∧ q.val < (s.vg g.val).ports.length ∧ (s.vg g.val).owed k.val q.val = true ∧
        (s.vg g.val).comp = some y ∧ l = s.portWidth ((s.vg g.val).port q.val).port ∧ n = y.written k.val q.val ∧
        (s.vg g.val).outg.all (fun z => !(z.par == y.par && z.eng k.val == y.eng k.val && decide (z.readOut k.val q.val ≤ n) && decide (z.readOut k.val q.val < (s.vg g.val).tiles q.val k.val) && decide (n < (s.vg g.val).tiles q.val k.val))) =
        true ∧ (s.vg g.val).tiles q.val k.val ≤ n ∧ n < (s.vg g.val).tiles q.val k.val + (s.vg g.val).fbTiles ∧
        (s.vg g.val).inOrder y k.val q.val true = true ∧
        ((s.svlPort ((s.vg g.val).port q.val).port).rxOf y.tick).atHand l true (k.val * (s.vg g.val).fbTiles +
        (n - (s.vg g.val).tiles q.val k.val)) = true ∧ s.updating (s.vg g.val) = true ∧
        (s.eng (y.eng k.val)).portFree false = true ∧
        (s.eng (y.eng k.val)).midWrite (s.fld (F.VE_BUF_BASE (y.eng k.val) (4 + y.par)) +
        q.val * (s.vg g.val).fbTiles + (n - (s.vg g.val).tiles q.val k.val)) = false ∧ s.injection 5 = none) ∧
    (∃ (g : Fin 4) (k : Fin 96) (q : Fin 16) (s : State) (y : Sym) (l n : Nat),
      k.val < (s.vg g.val).tgs.length ∧ q.val < (s.vg g.val).ports.length ∧ (s.vg g.val).owed k.val q.val = false ∧
        (s.vg g.val).inc = some y ∧ l = s.portWidth ((s.vg g.val).port q.val).port ∧ n = y.written k.val q.val ∧
        (s.vg g.val).outg.all (fun z => !(z.par == y.par && z.eng k.val == y.eng k.val && decide (z.readOut k.val q.val ≤ n) && decide (z.readOut k.val q.val < (s.vg g.val).tiles q.val k.val) && decide (n < (s.vg g.val).tiles q.val k.val))) =
        true ∧ (s.vg g.val).tiles q.val k.val ≤ n ∧ n < (s.vg g.val).tiles q.val k.val + (s.vg g.val).fbTiles ∧
        (s.vg g.val).inOrder y k.val q.val true = true ∧
        ((s.svlPort ((s.vg g.val).port q.val).port).rxOf y.tick).atHand l true (k.val * (s.vg g.val).fbTiles +
        (n - (s.vg g.val).tiles q.val k.val)) = true ∧ s.updating (s.vg g.val) = false) ∧
    (∃ (g : Fin 4) (k : Fin 96) (q : Fin 16) (s : State) (y : Sym) (l n : Nat),
      k.val < (s.vg g.val).tgs.length ∧ q.val < (s.vg g.val).ports.length ∧ (s.vg g.val).owed k.val q.val = true ∧
        (s.vg g.val).comp = some y ∧ l = s.portWidth ((s.vg g.val).port q.val).port ∧ n = y.written k.val q.val ∧
        (s.vg g.val).outg.all (fun z => !(z.par == y.par && z.eng k.val == y.eng k.val && decide (z.readOut k.val q.val ≤ n) && decide (z.readOut k.val q.val < (s.vg g.val).tiles q.val k.val) && decide (n < (s.vg g.val).tiles q.val k.val))) =
        true ∧ (s.vg g.val).tiles q.val k.val ≤ n ∧ n < (s.vg g.val).tiles q.val k.val + (s.vg g.val).fbTiles ∧
        (s.vg g.val).inOrder y k.val q.val true = true ∧
        ((s.svlPort ((s.vg g.val).port q.val).port).rxOf y.tick).atHand l true (k.val * (s.vg g.val).fbTiles +
        (n - (s.vg g.val).tiles q.val k.val)) = true ∧ s.updating (s.vg g.val) = false) ∧
    (∃ (g : Fin 4) (k : Fin 96) (q : Fin 16) (s : State),
      ((s.vg g.val).tgs.length ≤ k.val ∨ (s.vg g.val).ports.length ≤ q.val ∨
        (((if (s.vg g.val).owed k.val q.val
        then (s.vg g.val).comp else (s.vg g.val).inc).bind (fun y => s.dmaWrite g.val k.val q.val y)).isNone =
        true))) ∧
    (∃ (g : Fin 4) (k : Fin 96) (q : Fin 16) (s : State) (y : Sym) (l n : Nat),
      k.val < (s.vg g.val).tgs.length ∧ q.val < (s.vg g.val).ports.length ∧ (s.vg g.val).outg = some y ∧
        n = y.readOut k.val q.val ∧ n < (s.vg g.val).tiles q.val k.val ∧ (s.eng (y.eng k.val)).portFree true = true ∧
        l = s.fld (F.VE_BUF_BASE (y.eng k.val) (if y.byp.contains k.val || y.late.contains q.val
        then y.par else 2 + y.par)) + (s.vg g.val).tileOffset q.val k.val + n ∧
        (s.eng (y.eng k.val)).midWrite l = false) ∧
    (∃ (g : Fin 4) (k : Fin 96) (q : Fin 16) (s : State),
      ((s.vg g.val).tgs.length ≤ k.val ∨ (s.vg g.val).ports.length ≤ q.val ∨
        (((s.vg g.val).outg.bind (fun y => s.dmaRead g.val k.val q.val y)).isNone = true))) :=
  ⟨⟨ready 2, pk 2 1 [64, 0x21, 5, 6], by decide +kernel⟩,
   ⟨ready 2, pk 2 1 [0x1FFFC, 0x21, 5, 6], by decide +kernel⟩,
   ⟨{ (base.setFn 2 { begun := [⟨(pk 2 0 []).echo 0x2005, 7, 0⟩] }) with vec := { base.vec with params := [⟨[5, 6], 70, List.replicate 8 9, 2, 7, true⟩] } },
     ⟨[5, 6], 70, List.replicate 8 9, 2, 7, true⟩, [], by decide +kernel⟩,
   ⟨{ ((base.setFn 2 { begun := [⟨(pk 2 0 []).echo 0x2005, 7, 0⟩] }).setFld F.MEM_INJ_GO 1 |>.setFld F.MEM_INJ_MEM 5) with vec := { base.vec with params := [⟨[5], 70, List.replicate 8 9, 2, 7, true⟩] } },
     5, ⟨[5], 70, List.replicate 8 9, 2, 7, true⟩, [], 1, by decide +kernel⟩,
   ⟨{}, 70, 126, [1, 2, 3], by decide +kernel⟩,
   ⟨base, by decide +kernel⟩,
   ⟨((ready 2).setVg 1 { state := 3, tgs := [{ eng := 5, tones := 8 }] }), pk 2 5 [7, 1, 2, 3, 4, 5, 6, 7, 8], 1, 0,
     [(7, some (leAt ((pk 2 5 [7, 1, 2, 3, 4, 5, 6, 7, 8]).bytes) 4 32))], by decide +kernel⟩,
   ⟨((ready 2).setVg 1 { state := 3, tgs := [{ eng := 5, tones := 8, staged := (List.range 512).map (fun i => (i, some 1)) }] }),
     pk 2 5 [512, 1, 2, 3, 4, 5, 6, 7, 8], 1, 0, (List.range 512).map (fun i => (i, some 1)), by decide +kernel⟩,
   ⟨((ready 2).setVg 1 { state := 3, tgs := [{ eng := 5, tones := 8, commit := some 4 }] }), pk 2 5 [512, 1, 2, 3,
     4, 5, 6, 7, 8], 1, 0, by decide +kernel⟩,
   ⟨ready 2, pk 2 5 [512, 1, 2, 3, 4, 5, 6, 7, 8], by decide +kernel⟩,
   ⟨((ready 2).setVg 1 { state := 3, tgs := [{ eng := 5, tones := 8, staged := [(1, some 2)] }] }), pk 2 5 [], 1, 0,
     by decide +kernel⟩,
   ⟨((ready 2).setVg 1 { state := 3, tgs := [{ eng := 5, tones := 8, commit := some 4 }] }), pk 2 5 [], 1, 0,
     by decide +kernel⟩,
   ⟨ready 2, pk 2 5 [], by decide +kernel⟩,
   ⟨((ready 2).setVg 1 { state := 3, tgs := [{ eng := 5, tones := 8 }] }), pk 2 1 [0x70000], 1, [0],
     by decide +kernel⟩,
   ⟨ready 2, pk 2 1 [0x70000], 1, [0], by decide +kernel⟩,
   ⟨((ready 2).setVg 1 { state := 3, tgs := [{ eng := 5, tones := 8 }] }), pk 2 1 [0x70000, 0], 1, [0, 0],
     by decide +kernel⟩,
   ⟨((ready 2).setVg 1 { state := 3, tgs := [{ eng := 5, tones := 8, commit := some 4 }] }), pk 2 1 [0x70000], 1,
     [0], by decide +kernel⟩,
   ⟨5, base.setEng 5 { slab := { mode := 2, ready := true, overlay := [(7, some 9), (8, some 4)] } }, 7, 9, [(8,
     some 4)], by decide +kernel⟩,
   ⟨5, (base.setFld F.MEM_INJ_GO 1 |>.setFld F.MEM_INJ_MEM 4 |>.setFld F.MEM_INJ_PAT_PAT 9).setEng 5 { slab := { mode := 2, ready := true, overlay := [(7, some 9), (8, some 4)] } },
     7, 9, [(8, some 4)], BitVec.ofNat 288 9, by decide +kernel⟩,
   ⟨5, base, by decide +kernel⟩,
   ⟨1, 0, 0, { (((base.setVg 1 { state := 3, tgs := [{ eng := 5, tones := 8 }], ports := [⟨3, 0, 4⟩], lines := 4, mds := 30, profile := 2, inc := some { tick := 9, par := 0, engs := [5] } })).setSvlPort 3 { rx := [{ tick := 9, opened := true, late := true }] }) with vec := { (((base.setVg 1 { state := 3, tgs := [{ eng := 5, tones := 8 }], ports := [⟨3, 0, 4⟩], lines := 4, mds := 30, profile := 2, inc := some { tick := 9, par := 0, engs := [5] } })).setSvlPort 3 { rx := [{ tick := 9, opened := true, late := true }] }).vec with update := false } },
     { tick := 9, par := 0, engs := [5] }, base.portWidth 3, 0, by decide +kernel⟩,
   ⟨1, 0, 0, { (((base.setVg 1 { state := 3, tgs := [{ eng := 5, tones := 8 }], ports := [⟨3, 0, 4⟩], lines := 4, mds := 30, profile := 2, comp := some { tick := 9, par := 0, engs := [5] } })).setSvlPort 3 { rx := [{ tick := 9, opened := true, late := true }] }) with vec := { (((base.setVg 1 { state := 3, tgs := [{ eng := 5, tones := 8 }], ports := [⟨3, 0, 4⟩], lines := 4, mds := 30, profile := 2, comp := some { tick := 9, par := 0, engs := [5] } })).setSvlPort 3 { rx := [{ tick := 9, opened := true, late := true }] }).vec with update := false } },
     { tick := 9, par := 0, engs := [5] }, base.portWidth 3, 0, by decide +kernel⟩,
   ⟨1, 0, 0, { (((base.setVg 1 { state := 3, tgs := [{ eng := 5, tones := 8 }], ports := [⟨3, 0, 4⟩], lines := 4, mds := 30, profile := 2, fbTiles := 2, inc := some { tick := 9, par := 0, engs := [5], wr := [(0, 4)] } })).setSvlPort 3 { rx := [{ tick := 9, opened := true, late := true }] }) with vec := { (((base.setVg 1 { state := 3, tgs := [{ eng := 5, tones := 8 }], ports := [⟨3, 0, 4⟩], lines := 4, mds := 30, profile := 2, fbTiles := 2, inc := some { tick := 9, par := 0, engs := [5], wr := [(0, 4)] } })).setSvlPort 3 { rx := [{ tick := 9, opened := true, late := true }] }).vec with update := true } },
     { tick := 9, par := 0, engs := [5], wr := [(0, 4)] }, base.portWidth 3, 4, by decide +kernel⟩,
   ⟨1, 0, 0, { (((base.setVg 1 { state := 3, tgs := [{ eng := 5, tones := 8 }], ports := [⟨3, 0, 4⟩], lines := 4, mds := 30, profile := 2, fbTiles := 2, comp := some { tick := 9, par := 0, engs := [5], wr := [(0, 4)] } })).setSvlPort 3 { rx := [{ tick := 9, opened := true, late := true }] }) with vec := { (((base.setVg 1 { state := 3, tgs := [{ eng := 5, tones := 8 }], ports := [⟨3, 0, 4⟩], lines := 4, mds := 30, profile := 2, fbTiles := 2, comp := some { tick := 9, par := 0, engs := [5], wr := [(0, 4)] } })).setSvlPort 3 { rx := [{ tick := 9, opened := true, late := true }] }).vec with update := true } },
     { tick := 9, par := 0, engs := [5], wr := [(0, 4)] }, base.portWidth 3, 4, by decide +kernel⟩,
   ⟨1, 0, 0, { (((base.setVg 1 { state := 3, tgs := [{ eng := 5, tones := 8 }], ports := [⟨3, 0, 4⟩], lines := 4, mds := 30, profile := 2, fbTiles := 2, inc := some { tick := 9, par := 0, engs := [5], wr := [(0, 4)] } })).setSvlPort 3 { rx := [{ tick := 9, opened := true, late := true }] }) with vec := { (((base.setVg 1 { state := 3, tgs := [{ eng := 5, tones := 8 }], ports := [⟨3, 0, 4⟩], lines := 4, mds := 30, profile := 2, fbTiles := 2, inc := some { tick := 9, par := 0, engs := [5], wr := [(0, 4)] } })).setSvlPort 3 { rx := [{ tick := 9, opened := true, late := true }] }).vec with update := false } },
     { tick := 9, par := 0, engs := [5], wr := [(0, 4)] }, base.portWidth 3, 4, by decide +kernel⟩,
   ⟨1, 0, 0, { (((base.setVg 1 { state := 3, tgs := [{ eng := 5, tones := 8 }], ports := [⟨3, 0, 4⟩], lines := 4, mds := 30, profile := 2, fbTiles := 2, comp := some { tick := 9, par := 0, engs := [5], wr := [(0, 4)] } })).setSvlPort 3 { rx := [{ tick := 9, opened := true, late := true }] }) with vec := { (((base.setVg 1 { state := 3, tgs := [{ eng := 5, tones := 8 }], ports := [⟨3, 0, 4⟩], lines := 4, mds := 30, profile := 2, fbTiles := 2, comp := some { tick := 9, par := 0, engs := [5], wr := [(0, 4)] } })).setSvlPort 3 { rx := [{ tick := 9, opened := true, late := true }] }).vec with update := false } },
     { tick := 9, par := 0, engs := [5], wr := [(0, 4)] }, base.portWidth 3, 4, by decide +kernel⟩,
   ⟨1, 0, 0, base, by decide +kernel⟩,
   ⟨1, 0, 0, (base.setVg 1 { state := 3, tgs := [{ eng := 5, tones := 8 }], ports := [⟨3, 0, 4⟩], lines := 4, mds := 30, profile := 2, outg := some { tick := 9, par := 0, engs := [5] } }),
     { tick := 9, par := 0, engs := [5] }, base.fld (F.VE_BUF_BASE 5 2), 0, by decide +kernel⟩,
   ⟨1, 0, 0, base, by decide +kernel⟩⟩

theorem wit_SvlLanesFollowTheirSteps :
    (∃ (s : State) (l : Fin 16),
      s.asleep l.val false = false ∧ s.nearLoop l.val = false) ∧
    (∃ (s : State) (l : Fin 16) (p i : Nat),
      s.laneOwner l.val = some (p, i) ∧ s.asleep l.val false = false ∧ s.nearLoop l.val = false ∧
        ((s.svlPort p).lane i).st = 0) ∧
    (∃ (s : State) (l : Fin 16) (p i : Nat),
      s.laneOwner l.val = some (p, i) ∧ ((s.svlPort p).lane i).st ≠ 0) ∧
    (∃ (s : State) (l : Fin 16),
      (s.asleep l.val false = true ∨ s.nearLoop l.val = true)) ∧
    (∃ (s : State) (l : Fin 16),
      s.nearLoop l.val = false) ∧
    (∃ (s : State) (l : Fin 16),
      s.nearLoop l.val = false ∧ (s.lane l.val).eyeBusy = true) ∧
    (∃ (s : State) (l : Fin 16) (p i : Nat),
      s.laneOwner l.val = some (p, i) ∧ s.nearLoop l.val = false ∧
        (((s.svlPort p).lane i).st = 1 ∨ ((s.svlPort p).lane i).st = 3 ∨ ((s.svlPort p).lane i).st = 4) ∧
        ¬ (((s.svlPort p).lane i).st = 4 ∧ (s.svlPort p).state = 3)) ∧
    (∃ (s : State) (l : Fin 16) (p i : Nat),
      s.laneOwner l.val = some (p, i) ∧ s.nearLoop l.val = false ∧ ((s.svlPort p).lane i).st = 4 ∧
        (s.svlPort p).state = 3 ∧ s.count (C.SVL_LOCK_LOSS p) < 0xFFFFFFFE) ∧
    (∃ (s : State) (l : Fin 16) (p i : Nat),
      s.laneOwner l.val = some (p, i) ∧ s.nearLoop l.val = false ∧
        (((s.svlPort p).lane i).st = 0 ∨ ((s.svlPort p).lane i).st = 2)) ∧
    (∃ (s : State) (l : Fin 16),
      s.nearLoop l.val = true) ∧
    (∃ (s : State) (l : Fin 16),
      s.asleep l.val false = false) ∧
    (∃ (s : State) (l : Fin 16) (p i : Nat),
      s.laneOwner l.val = some (p, i) ∧ s.asleep l.val false = false ∧ ((s.svlPort p).lane i).st = 1) ∧
    (∃ (s : State) (l : Fin 16) (p i : Nat),
      s.laneOwner l.val = some (p, i) ∧ ((s.svlPort p).lane i).st ≠ 1) ∧
    (∃ (s : State) (l : Fin 16),
      s.asleep l.val false = true) ∧
    (∃ (s : State) (l : Fin 16) (p i : Nat),
      s.laneOwner l.val = some (p, i) ∧ ((s.svlPort p).lane i).st = 1) ∧
    (∃ (s : State) (l : Fin 16) (p i : Nat),
      s.laneOwner l.val = some (p, i) ∧ ((s.svlPort p).lane i).st ≠ 1) ∧
    (∃ (s : State) (l : Fin 16),
      s.laneOwner l.val = none) ∧
    (∃ (s : State) (l : Fin 16) (p i : Nat) (b : BitVec 66),
      s.laneOwner l.val = some (p, i) ∧ s.asleep l.val false = false ∧ s.nearLoop l.val = false ∧
        s.farLoop l.val = false ∧ ((s.svlPort p).lane i).st = 2 ∧ ((s.svlPort p).lane i).good = 63 ∧
        ((((s.svlPort p).lane i).hear b).2.1 = 1 ∨ (((s.svlPort p).lane i).hear b).2.1 = 2)) ∧
    (∃ (s : State) (l : Fin 16) (p i : Nat) (b : BitVec 66),
      s.laneOwner l.val = some (p, i) ∧ s.asleep l.val false = false ∧ s.nearLoop l.val = false ∧
        s.farLoop l.val = false ∧ ((s.svlPort p).lane i).st = 2 ∧ ((s.svlPort p).lane i).good ≠ 63 ∧
        ((((s.svlPort p).lane i).hear b).2.1 = 1 ∨ (((s.svlPort p).lane i).hear b).2.1 = 2)) ∧
    (∃ (s : State) (l : Fin 16) (p i : Nat) (b : BitVec 66),
      s.laneOwner l.val = some (p, i) ∧ s.asleep l.val false = false ∧ s.nearLoop l.val = false ∧
        s.farLoop l.val = false ∧ ((s.svlPort p).lane i).st = 2 ∧
        ((((s.svlPort p).lane i).hear b).2.1 = 0 ∨ (((s.svlPort p).lane i).hear b).2.1 = 3)) ∧
    (∃ (s : State) (l : Fin 16) (p i : Nat) (b : BitVec 66),
      s.laneOwner l.val = some (p, i) ∧ s.asleep l.val false = false ∧ s.nearLoop l.val = false ∧
        s.farLoop l.val = false ∧ ((s.svlPort p).lane i).st = 2 ∧ ((s.svlPort p).lane i).good = 63 ∧
        ((((s.svlPort p).lane i).hear b).2.1 = 1 ∨ (((s.svlPort p).lane i).hear b).2.1 = 2)) ∧
    (∃ (s : State) (l : Fin 16) (p i : Nat) (b : BitVec 66),
      s.laneOwner l.val = some (p, i) ∧ s.asleep l.val false = false ∧ s.nearLoop l.val = false ∧
        s.farLoop l.val = false ∧ ((s.svlPort p).lane i).st = 2 ∧ ((s.svlPort p).lane i).good ≠ 63 ∧
        ((((s.svlPort p).lane i).hear b).2.1 = 1 ∨ (((s.svlPort p).lane i).hear b).2.1 = 2)) ∧
    (∃ (s : State) (l : Fin 16) (p i : Nat) (b : BitVec 66),
      s.laneOwner l.val = some (p, i) ∧ s.asleep l.val false = false ∧ s.nearLoop l.val = false ∧
        s.farLoop l.val = false ∧ ((s.svlPort p).lane i).st = 2 ∧
        ((((s.svlPort p).lane i).hear b).2.1 = 0 ∨ (((s.svlPort p).lane i).hear b).2.1 = 3)) ∧
    (∃ (s : State) (l : Fin 16) (p i : Nat) (b : BitVec 66),
      s.laneOwner l.val = some (p, i) ∧ s.asleep l.val false = false ∧ s.nearLoop l.val = false ∧
        s.farLoop l.val = false ∧ ((s.svlPort p).lane i).st = 3 ∧
        (16 ≤ ((s.svlPort p).lane i).wBad + (if ((((s.svlPort p).lane i).hear b).2.1 = 0 ∨
        (((s.svlPort p).lane i).hear b).2.1 = 3) then 1 else 0))) ∧
    (∃ (s : State) (l : Fin 16) (p i : Nat) (b : BitVec 66),
      s.laneOwner l.val = some (p, i) ∧ s.asleep l.val false = false ∧ s.nearLoop l.val = false ∧
        s.farLoop l.val = false ∧ ((s.svlPort p).lane i).st = 3 ∧
        (¬ (16 ≤ ((s.svlPort p).lane i).wBad + (if ((((s.svlPort p).lane i).hear b).2.1 = 0 ∨
        (((s.svlPort p).lane i).hear b).2.1 = 3) then 1 else 0))) ∧ ((((s.svlPort p).lane i).hear b).2.1 = 2 ∧
        ctlGood (((s.svlPort p).lane i).hear b).2.2 = true) ∧ 15 ≤ ((s.svlPort p).lane i).ctl) ∧
    (∃ (s : State) (l : Fin 16) (p i : Nat) (b : BitVec 66),
      s.laneOwner l.val = some (p, i) ∧ s.asleep l.val false = false ∧ s.nearLoop l.val = false ∧
        s.farLoop l.val = false ∧ ((s.svlPort p).lane i).st = 3 ∧
        (¬ (16 ≤ ((s.svlPort p).lane i).wBad + (if ((((s.svlPort p).lane i).hear b).2.1 = 0 ∨
        (((s.svlPort p).lane i).hear b).2.1 = 3) then 1 else 0))) ∧ ((((s.svlPort p).lane i).hear b).2.1 = 1 ∧
        ctlGood (~~~(((s.svlPort p).lane i).hear b).2.2) = true) ∧ ((s.svlPort p).lane i).ctl < 16 ∧
        15 ≤ ((s.svlPort p).lane i).ctlInv) ∧
    (∃ (s : State) (l : Fin 16) (p i : Nat) (b : BitVec 66),
      s.laneOwner l.val = some (p, i) ∧ s.asleep l.val false = false ∧ s.nearLoop l.val = false ∧
        s.farLoop l.val = false ∧ ((s.svlPort p).lane i).st = 3 ∧
        (¬ (16 ≤ ((s.svlPort p).lane i).wBad + (if ((((s.svlPort p).lane i).hear b).2.1 = 0 ∨
        (((s.svlPort p).lane i).hear b).2.1 = 3) then 1 else 0))) ∧
        ((s.svlPort p).lane i).ctl + (if ((((s.svlPort p).lane i).hear b).2.1 = 2 ∧
        ctlGood (((s.svlPort p).lane i).hear b).2.2 = true) then 1 else 0) < 16 ∧
        ((s.svlPort p).lane i).ctlInv + (if ((((s.svlPort p).lane i).hear b).2.1 = 1 ∧
        ctlGood (~~~(((s.svlPort p).lane i).hear b).2.2) = true) then 1 else 0) < 16 ∧
        4095 ≤ ((s.svlPort p).lane i).seen) ∧
    (∃ (s : State) (l : Fin 16) (p i : Nat) (b : BitVec 66),
      s.laneOwner l.val = some (p, i) ∧ s.asleep l.val false = false ∧ s.nearLoop l.val = false ∧
        s.farLoop l.val = false ∧ ((s.svlPort p).lane i).st = 3 ∧
        (¬ (16 ≤ ((s.svlPort p).lane i).wBad + (if ((((s.svlPort p).lane i).hear b).2.1 = 0 ∨
        (((s.svlPort p).lane i).hear b).2.1 = 3) then 1 else 0))) ∧
        ((s.svlPort p).lane i).ctl + (if ((((s.svlPort p).lane i).hear b).2.1 = 2 ∧
        ctlGood (((s.svlPort p).lane i).hear b).2.2 = true) then 1 else 0) < 16 ∧
        ((s.svlPort p).lane i).ctlInv + (if ((((s.svlPort p).lane i).hear b).2.1 = 1 ∧
        ctlGood (~~~(((s.svlPort p).lane i).hear b).2.2) = true) then 1 else 0) < 16 ∧
        ((s.svlPort p).lane i).seen < 4095) ∧
    (∃ (s : State) (l : Fin 16) (p i : Nat) (b : BitVec 66),
      s.laneOwner l.val = some (p, i) ∧ s.asleep l.val false = false ∧ s.nearLoop l.val = false ∧
        s.farLoop l.val = false ∧ ((s.svlPort p).lane i).st = 3 ∧
        (16 ≤ ((s.svlPort p).lane i).wBad + (if ((((s.svlPort p).lane i).hear b).2.1 = 0 ∨
        (((s.svlPort p).lane i).hear b).2.1 = 3) then 1 else 0))) ∧
    (∃ (s : State) (l : Fin 16) (p i : Nat) (b : BitVec 66),
      s.laneOwner l.val = some (p, i) ∧ s.asleep l.val false = false ∧ s.nearLoop l.val = false ∧
        s.farLoop l.val = false ∧ ((s.svlPort p).lane i).st = 3 ∧
        (¬ (16 ≤ ((s.svlPort p).lane i).wBad + (if ((((s.svlPort p).lane i).hear b).2.1 = 0 ∨
        (((s.svlPort p).lane i).hear b).2.1 = 3) then 1 else 0))) ∧ ((((s.svlPort p).lane i).hear b).2.1 = 2 ∧
        ctlGood (((s.svlPort p).lane i).hear b).2.2 = true) ∧ 15 ≤ ((s.svlPort p).lane i).ctl) ∧
    (∃ (s : State) (l : Fin 16) (p i : Nat) (b : BitVec 66),
      s.laneOwner l.val = some (p, i) ∧ s.asleep l.val false = false ∧ s.nearLoop l.val = false ∧
        s.farLoop l.val = false ∧ ((s.svlPort p).lane i).st = 3 ∧
        (¬ (16 ≤ ((s.svlPort p).lane i).wBad + (if ((((s.svlPort p).lane i).hear b).2.1 = 0 ∨
        (((s.svlPort p).lane i).hear b).2.1 = 3) then 1 else 0))) ∧ ((((s.svlPort p).lane i).hear b).2.1 = 1 ∧
        ctlGood (~~~(((s.svlPort p).lane i).hear b).2.2) = true) ∧ ((s.svlPort p).lane i).ctl < 16 ∧
        15 ≤ ((s.svlPort p).lane i).ctlInv) ∧
    (∃ (s : State) (l : Fin 16) (p i : Nat) (b : BitVec 66),
      s.laneOwner l.val = some (p, i) ∧ s.asleep l.val false = false ∧ s.nearLoop l.val = false ∧
        s.farLoop l.val = false ∧ ((s.svlPort p).lane i).st = 3 ∧
        (¬ (16 ≤ ((s.svlPort p).lane i).wBad + (if ((((s.svlPort p).lane i).hear b).2.1 = 0 ∨
        (((s.svlPort p).lane i).hear b).2.1 = 3) then 1 else 0))) ∧
        ((s.svlPort p).lane i).ctl + (if ((((s.svlPort p).lane i).hear b).2.1 = 2 ∧
        ctlGood (((s.svlPort p).lane i).hear b).2.2 = true) then 1 else 0) < 16 ∧
        ((s.svlPort p).lane i).ctlInv + (if ((((s.svlPort p).lane i).hear b).2.1 = 1 ∧
        ctlGood (~~~(((s.svlPort p).lane i).hear b).2.2) = true) then 1 else 0) < 16 ∧
        4095 ≤ ((s.svlPort p).lane i).seen) ∧
    (∃ (s : State) (l : Fin 16) (p i : Nat) (b : BitVec 66),
      s.laneOwner l.val = some (p, i) ∧ s.asleep l.val false = false ∧ s.nearLoop l.val = false ∧
        s.farLoop l.val = false ∧ ((s.svlPort p).lane i).st = 3 ∧
        (¬ (16 ≤ ((s.svlPort p).lane i).wBad + (if ((((s.svlPort p).lane i).hear b).2.1 = 0 ∨
        (((s.svlPort p).lane i).hear b).2.1 = 3) then 1 else 0))) ∧
        ((s.svlPort p).lane i).ctl + (if ((((s.svlPort p).lane i).hear b).2.1 = 2 ∧
        ctlGood (((s.svlPort p).lane i).hear b).2.2 = true) then 1 else 0) < 16 ∧
        ((s.svlPort p).lane i).ctlInv + (if ((((s.svlPort p).lane i).hear b).2.1 = 1 ∧
        ctlGood (~~~(((s.svlPort p).lane i).hear b).2.2) = true) then 1 else 0) < 16 ∧
        ((s.svlPort p).lane i).seen < 4095) ∧
    (∃ (s : State) (l : Fin 16) (p i : Nat) (b : BitVec 66),
      s.laneOwner l.val = some (p, i) ∧ s.asleep l.val false = false ∧ s.nearLoop l.val = false ∧
        s.farLoop l.val = false ∧ ((s.svlPort p).lane i).st = 3 ∧
        (16 ≤ ((s.svlPort p).lane i).wBad + (if ((((s.svlPort p).lane i).hear b).2.1 = 0 ∨
        (((s.svlPort p).lane i).hear b).2.1 = 3) then 1 else 0))) ∧
    (∃ (s : State) (l : Fin 16) (p i : Nat) (b : BitVec 66),
      s.laneOwner l.val = some (p, i) ∧ s.asleep l.val false = false ∧ s.nearLoop l.val = false ∧
        s.farLoop l.val = false ∧ ((s.svlPort p).lane i).st = 3 ∧
        (¬ (16 ≤ ((s.svlPort p).lane i).wBad + (if ((((s.svlPort p).lane i).hear b).2.1 = 0 ∨
        (((s.svlPort p).lane i).hear b).2.1 = 3) then 1 else 0))) ∧ ((((s.svlPort p).lane i).hear b).2.1 = 2 ∧
        ctlGood (((s.svlPort p).lane i).hear b).2.2 = true) ∧ 15 ≤ ((s.svlPort p).lane i).ctl) ∧
    (∃ (s : State) (l : Fin 16) (p i : Nat) (b : BitVec 66),
      s.laneOwner l.val = some (p, i) ∧ s.asleep l.val false = false ∧ s.nearLoop l.val = false ∧
        s.farLoop l.val = false ∧ ((s.svlPort p).lane i).st = 3 ∧
        (¬ (16 ≤ ((s.svlPort p).lane i).wBad + (if ((((s.svlPort p).lane i).hear b).2.1 = 0 ∨
        (((s.svlPort p).lane i).hear b).2.1 = 3) then 1 else 0))) ∧ ((((s.svlPort p).lane i).hear b).2.1 = 1 ∧
        ctlGood (~~~(((s.svlPort p).lane i).hear b).2.2) = true) ∧ ((s.svlPort p).lane i).ctl < 16 ∧
        15 ≤ ((s.svlPort p).lane i).ctlInv) ∧
    (∃ (s : State) (l : Fin 16) (p i : Nat) (b : BitVec 66),
      s.laneOwner l.val = some (p, i) ∧ s.asleep l.val false = false ∧ s.nearLoop l.val = false ∧
        s.farLoop l.val = false ∧ ((s.svlPort p).lane i).st = 3 ∧
        (¬ (16 ≤ ((s.svlPort p).lane i).wBad + (if ((((s.svlPort p).lane i).hear b).2.1 = 0 ∨
        (((s.svlPort p).lane i).hear b).2.1 = 3) then 1 else 0))) ∧
        ((s.svlPort p).lane i).ctl + (if ((((s.svlPort p).lane i).hear b).2.1 = 2 ∧
        ctlGood (((s.svlPort p).lane i).hear b).2.2 = true) then 1 else 0) < 16 ∧
        ((s.svlPort p).lane i).ctlInv + (if ((((s.svlPort p).lane i).hear b).2.1 = 1 ∧
        ctlGood (~~~(((s.svlPort p).lane i).hear b).2.2) = true) then 1 else 0) < 16 ∧
        4095 ≤ ((s.svlPort p).lane i).seen) ∧
    (∃ (s : State) (l : Fin 16) (p i : Nat) (b : BitVec 66),
      s.laneOwner l.val = some (p, i) ∧ s.asleep l.val false = false ∧ s.nearLoop l.val = false ∧
        s.farLoop l.val = false ∧ ((s.svlPort p).lane i).st = 3 ∧
        (¬ (16 ≤ ((s.svlPort p).lane i).wBad + (if ((((s.svlPort p).lane i).hear b).2.1 = 0 ∨
        (((s.svlPort p).lane i).hear b).2.1 = 3) then 1 else 0))) ∧
        ((s.svlPort p).lane i).ctl + (if ((((s.svlPort p).lane i).hear b).2.1 = 2 ∧
        ctlGood (((s.svlPort p).lane i).hear b).2.2 = true) then 1 else 0) < 16 ∧
        ((s.svlPort p).lane i).ctlInv + (if ((((s.svlPort p).lane i).hear b).2.1 = 1 ∧
        ctlGood (~~~(((s.svlPort p).lane i).hear b).2.2) = true) then 1 else 0) < 16 ∧
        ((s.svlPort p).lane i).seen < 4095) ∧
    (∃ (s : State) (l : Fin 16) (p i : Nat) (b : BitVec 66),
      s.laneOwner l.val = some (p, i) ∧ s.asleep l.val false = false ∧ s.nearLoop l.val = false ∧
        s.farLoop l.val = false ∧ ((s.svlPort p).lane i).st = 3 ∧ ((s.svlPort p).lane i).wBad < 16 ∧
        15 ≤ ((s.svlPort p).lane i).ctl ∧ ((((s.svlPort p).lane i).hear b).2.1 = 2 ∧
        ctlGood (((s.svlPort p).lane i).hear b).2.2 = true) ∧ (s.svlPort p).state = 1 ∧
        (∀ j < s.portWidth p, (j ≠ i → ((s.svlPort p).lane j).st = 4) ∧ s.laneInTest (s.firstLane p + j) = false)) ∧
    (∃ (s : State) (l : Fin 16) (p i : Nat) (b : BitVec 66),
      s.laneOwner l.val = some (p, i) ∧ s.asleep l.val false = false ∧ s.nearLoop l.val = false ∧
        s.farLoop l.val = false ∧ ((s.svlPort p).lane i).st = 3 ∧ ((s.svlPort p).lane i).wBad < 16 ∧
        15 ≤ ((s.svlPort p).lane i).ctl ∧ ((((s.svlPort p).lane i).hear b).2.1 = 2 ∧
        ctlGood (((s.svlPort p).lane i).hear b).2.2 = true) ∧ (s.svlPort p).state = 1 ∧
        (List.range (s.portWidth p)).any (fun j => (decide (j ≠ i) && ((s.svlPort p).lane j).st != 4) || s.laneInTest (s.firstLane p +
        j)) = true) ∧
    (∃ (s : State) (l : Fin 16) (p i : Nat) (b : BitVec 66),
      s.laneOwner l.val = some (p, i) ∧ s.asleep l.val false = false ∧ s.nearLoop l.val = false ∧
        s.farLoop l.val = false ∧ ((s.svlPort p).lane i).st = 4 ∧
        ((((s.svlPort p).lane i).hear b).2.1 = 0 ∨ (((s.svlPort p).lane i).hear b).2.1 = 3) ∧
        ((s.svlPort p).lane i).wBad < 15) ∧
    (∃ (s : State) (l : Fin 16) (p i : Nat) (b : BitVec 66),
      s.laneOwner l.val = some (p, i) ∧ s.asleep l.val false = false ∧ s.nearLoop l.val = false ∧
        s.farLoop l.val = false ∧ ((s.svlPort p).lane i).st = 4 ∧
        ((((s.svlPort p).lane i).hear b).2.1 = 0 ∨ (((s.svlPort p).lane i).hear b).2.1 = 3) ∧
        15 ≤ ((s.svlPort p).lane i).wBad ∧ (s.svlPort p).state ≠ 3) ∧
    (∃ (s : State) (l : Fin 16) (p i : Nat) (b : BitVec 66),
      s.laneOwner l.val = some (p, i) ∧ s.asleep l.val false = false ∧ s.nearLoop l.val = false ∧
        s.farLoop l.val = false ∧ ((s.svlPort p).lane i).st = 4 ∧
        ((((s.svlPort p).lane i).hear b).2.1 = 0 ∨ (((s.svlPort p).lane i).hear b).2.1 = 3) ∧
        15 ≤ ((s.svlPort p).lane i).wBad ∧ (s.svlPort p).state = 3 ∧ s.count (C.SVL_LOCK_LOSS p) < 0xFFFFFFFE) ∧
    (∃ (s : State) (l : Fin 16) (p : Fin 16) (i : Fin 4) (bs : List (BitVec 66)),
      s.laneOwner l.val = some (p.val, i.val) ∧ ((s.svlPort p.val).lane i.val).st = 4 ∧
        s.asleep l.val false = false) ∧
    (∃ (s : State) (l : Fin 16) (p i : Nat) (bs : List (BitVec 66)),
      s.laneOwner l.val = some (p, i) ∧ s.asleep l.val false = false ∧ s.nearLoop l.val = false ∧
        s.farLoop l.val = false ∧ [2].contains ((s.svlPort p).lane i).st = true) ∧
    (∃ (s : State) (l : Fin 16) (p i : Nat) (bs : List (BitVec 66)),
      s.laneOwner l.val = some (p, i) ∧ s.asleep l.val false = false ∧ s.farLoop l.val = true ∧
        [2].contains ((s.svlPort p).lane i).st = true) ∧
    (∃ (s : State) (l : Fin 16) (p i : Nat) (bs : List (BitVec 66)),
      s.laneOwner l.val = some (p, i) ∧ s.nearLoop l.val = true ∧ [2].contains ((s.svlPort p).lane i).st = true) ∧
    (∃ (s : State) (l : Fin 16) (p i : Nat) (bs : List (BitVec 66)),
      s.laneOwner l.val = some (p, i) ∧ [2].contains ((s.svlPort p).lane i).st = false) ∧
    (∃ (s : State) (l : Fin 16) (p i : Nat) (bs : List (BitVec 66)),
      s.laneOwner l.val = some (p, i) ∧ s.asleep l.val false = false ∧ s.nearLoop l.val = false ∧
        s.farLoop l.val = false ∧ [2].contains ((s.svlPort p).lane i).st = true) ∧
    (∃ (s : State) (l : Fin 16) (p i : Nat) (bs : List (BitVec 66)),
      s.laneOwner l.val = some (p, i) ∧ s.asleep l.val false = false ∧ s.farLoop l.val = true ∧
        [2].contains ((s.svlPort p).lane i).st = true) ∧
    (∃ (s : State) (l : Fin 16) (p i : Nat) (bs : List (BitVec 66)),
      s.laneOwner l.val = some (p, i) ∧ s.nearLoop l.val = true ∧ [2].contains ((s.svlPort p).lane i).st = true) ∧
    (∃ (s : State) (l : Fin 16) (p i : Nat) (bs : List (BitVec 66)),
      s.laneOwner l.val = some (p, i) ∧ [2].contains ((s.svlPort p).lane i).st = false) ∧
    (∃ (s : State) (l : Fin 16) (p i : Nat) (bs : List (BitVec 66)),
      s.laneOwner l.val = some (p, i) ∧ s.asleep l.val false = false ∧ s.nearLoop l.val = false ∧
        s.farLoop l.val = false ∧ [3].contains ((s.svlPort p).lane i).st = true) ∧
    (∃ (s : State) (l : Fin 16) (p i : Nat) (bs : List (BitVec 66)),
      s.laneOwner l.val = some (p, i) ∧ s.asleep l.val false = false ∧ s.farLoop l.val = true ∧
        [3].contains ((s.svlPort p).lane i).st = true) ∧
    (∃ (s : State) (l : Fin 16) (p i : Nat) (bs : List (BitVec 66)),
      s.laneOwner l.val = some (p, i) ∧ s.nearLoop l.val = true ∧ [3].contains ((s.svlPort p).lane i).st = true) ∧
    (∃ (s : State) (l : Fin 16) (p i : Nat) (bs : List (BitVec 66)),
      s.laneOwner l.val = some (p, i) ∧ [3].contains ((s.svlPort p).lane i).st = false) ∧
    (∃ (s : State) (l : Fin 16) (p i : Nat) (bs : List (BitVec 66)),
      s.laneOwner l.val = some (p, i) ∧ s.asleep l.val false = false ∧ s.nearLoop l.val = false ∧
        s.farLoop l.val = false ∧ [3].contains ((s.svlPort p).lane i).st = true) ∧
    (∃ (s : State) (l : Fin 16) (p i : Nat) (bs : List (BitVec 66)),
      s.laneOwner l.val = some (p, i) ∧ s.asleep l.val false = false ∧ s.farLoop l.val = true ∧
        [3].contains ((s.svlPort p).lane i).st = true) ∧
    (∃ (s : State) (l : Fin 16) (p i : Nat) (bs : List (BitVec 66)),
      s.laneOwner l.val = some (p, i) ∧ s.nearLoop l.val = true ∧ [3].contains ((s.svlPort p).lane i).st = true) ∧
    (∃ (s : State) (l : Fin 16) (p i : Nat) (bs : List (BitVec 66)),
      s.laneOwner l.val = some (p, i) ∧ [3].contains ((s.svlPort p).lane i).st = false) ∧
    (∃ (s : State) (l : Fin 16) (p i : Nat) (bs : List (BitVec 66)),
      s.laneOwner l.val = some (p, i) ∧ s.asleep l.val false = false ∧ s.nearLoop l.val = false ∧
        s.farLoop l.val = false ∧ [3, 4].contains ((s.svlPort p).lane i).st = true) ∧
    (∃ (s : State) (l : Fin 16) (p i : Nat) (bs : List (BitVec 66)),
      s.laneOwner l.val = some (p, i) ∧ s.asleep l.val false = false ∧ s.farLoop l.val = true ∧
        [3, 4].contains ((s.svlPort p).lane i).st = true) ∧
    (∃ (s : State) (l : Fin 16) (p i : Nat) (bs : List (BitVec 66)),
      s.laneOwner l.val = some (p, i) ∧ s.nearLoop l.val = true ∧ [3, 4].contains ((s.svlPort p).lane i).st = true) ∧
    (∃ (s : State) (l : Fin 16) (p i : Nat) (bs : List (BitVec 66)),
      s.laneOwner l.val = some (p, i) ∧ [3, 4].contains ((s.svlPort p).lane i).st = false) ∧
    (∃ (s : State) (l : Fin 16) (bs : List (BitVec 66)),
      (s.laneOwner l.val = none ∨ s.asleep l.val false = true)) :=
  ⟨⟨base, 0, by decide +kernel⟩,
   ⟨(base.setSvlPort 3 { state := 1, lanes := [(0, { st := 0 })] }), 0, 3, 0, by decide +kernel⟩,
   ⟨(base.setSvlPort 3 { state := 1, lanes := [(0, { st := 2 })] }), 0, 3, 0, by decide +kernel⟩,
   ⟨base.setFld (F.LANE_CFG_LOOP 0) 1, 0, by decide +kernel⟩,
   ⟨base.setLane 2 { sd := true }, 2, by decide +kernel⟩,
   ⟨base.setLane 2 { sd := true, eyeBusy := true }, 2, by decide +kernel⟩,
   ⟨(base.setSvlPort 3 { state := 1, lanes := [(0, { st := 3 })] }), 0, 3, 0, by decide +kernel⟩,
   ⟨(base.setSvlPort 3 { state := 3, lanes := [(0, { st := 4 })] }), 0, 3, 0, by decide +kernel⟩,
   ⟨(base.setSvlPort 3 { state := 1, lanes := [(0, { st := 2 })] }), 0, 3, 0, by decide +kernel⟩,
   ⟨base.setFld (F.LANE_CFG_LOOP 0) 2, 0, by decide +kernel⟩,
   ⟨base, 0, by decide +kernel⟩,
   ⟨(base.setSvlPort 3 { state := 1, lanes := [(0, { st := 1 })] }), 0, 3, 0, by decide +kernel⟩,
   ⟨(base.setSvlPort 3 { state := 1, lanes := [(0, { st := 3 })] }), 0, 3, 0, by decide +kernel⟩,
   ⟨base.setFld (F.LANE_PWR_RX_SLEEP 0) 1, 0, by decide +kernel⟩,
   ⟨(base.setSvlPort 3 { state := 1, lanes := [(0, { st := 1 })] }), 0, 3, 0, by decide +kernel⟩,
   ⟨(base.setSvlPort 3 { state := 1, lanes := [(0, { st := 2 })] }), 0, 3, 0, by decide +kernel⟩,
   ⟨base, 0, by decide +kernel⟩,
   ⟨(base.setSvlPort 3 { state := 1, lanes := [(0, { st := 2, good := 63 })] }), 0, 3, 0, mkBlock 2 0,
     by decide +kernel⟩,
   ⟨(base.setSvlPort 3 { state := 1, lanes := [(0, { st := 2, good := 9 })] }), 0, 3, 0, mkBlock 1 0,
     by decide +kernel⟩,
   ⟨(base.setSvlPort 3 { state := 1, lanes := [(0, { st := 2, pos := 32, good := 9 })] }), 0, 3, 0, mkBlock 0 0,
     by decide +kernel⟩,
   ⟨(base.setSvlPort 3 { state := 1, lanes := [(0, { st := 2, good := 63 })] }), 0, 3, 0, mkBlock 2 0,
     by decide +kernel⟩,
   ⟨(base.setSvlPort 3 { state := 1, lanes := [(0, { st := 2, good := 9 })] }), 0, 3, 0, mkBlock 1 0,
     by decide +kernel⟩,
   ⟨(base.setSvlPort 3 { state := 1, lanes := [(0, { st := 2, pos := 32, good := 9 })] }), 0, 3, 0, mkBlock 0 0,
     by decide +kernel⟩,
   ⟨(base.setSvlPort 3 { state := 1, lanes := [(0, { st := 3, wBad := 15 })] }), 0, 3, 0, mkBlock 0 0,
     by decide +kernel⟩,
   ⟨(base.setSvlPort 3 { state := 1, lanes := [(0, { st := 3, ctl := 15 })] }), 0, 3, 0,
     (scramble 0 (mkBlock 2 (ofLe (ctlBlock 0x1E [0, 0, 0, 0, 0, 0])))).2, by decide +kernel⟩,
   ⟨(base.setSvlPort 3 { state := 1, lanes := [(0, { st := 3, ctlInv := 15 })] }), 0, 3, 0,
     (scramble 0 (mkBlock 1 (2 ^ 64 - 1 - ofLe (ctlBlock 0x1E [0, 0, 0, 0, 0, 0])))).2, by decide +kernel⟩,
   ⟨(base.setSvlPort 3 { state := 1, lanes := [(0, { st := 3, seen := 4095 })] }), 0, 3, 0, mkBlock 1 0,
     by decide +kernel⟩,
   ⟨(base.setSvlPort 3 { state := 1, lanes := [(0, { st := 3, seen := 40, ctl := 3, wHdrs := 63, wBad := 4 })] }),
     0, 3, 0, (scramble 0 (mkBlock 2 (ofLe (ctlBlock 0x1E [0, 0, 0, 0, 0, 0])))).2, by decide +kernel⟩,
   ⟨(base.setSvlPort 3 { state := 1, lanes := [(0, { st := 3, wBad := 15 })] }), 0, 3, 0, mkBlock 0 0,
     by decide +kernel⟩,
   ⟨(base.setSvlPort 3 { state := 1, lanes := [(0, { st := 3, ctl := 15 })] }), 0, 3, 0,
     (scramble 0 (mkBlock 2 (ofLe (ctlBlock 0x1E [0, 0, 0, 0, 0, 0])))).2, by decide +kernel⟩,
   ⟨(base.setSvlPort 3 { state := 1, lanes := [(0, { st := 3, ctlInv := 15 })] }), 0, 3, 0,
     (scramble 0 (mkBlock 1 (2 ^ 64 - 1 - ofLe (ctlBlock 0x1E [0, 0, 0, 0, 0, 0])))).2, by decide +kernel⟩,
   ⟨(base.setSvlPort 3 { state := 1, lanes := [(0, { st := 3, seen := 4095 })] }), 0, 3, 0, mkBlock 1 0,
     by decide +kernel⟩,
   ⟨(base.setSvlPort 3 { state := 1, lanes := [(0, { st := 3, seen := 40, ctl := 3, wHdrs := 63, wBad := 4 })] }),
     0, 3, 0, (scramble 0 (mkBlock 2 (ofLe (ctlBlock 0x1E [0, 0, 0, 0, 0, 0])))).2, by decide +kernel⟩,
   ⟨(base.setSvlPort 3 { state := 1, lanes := [(0, { st := 3, wBad := 15 })] }), 0, 3, 0, mkBlock 0 0,
     by decide +kernel⟩,
   ⟨(base.setSvlPort 3 { state := 1, lanes := [(0, { st := 3, ctl := 15 })] }), 0, 3, 0,
     (scramble 0 (mkBlock 2 (ofLe (ctlBlock 0x1E [0, 0, 0, 0, 0, 0])))).2, by decide +kernel⟩,
   ⟨(base.setSvlPort 3 { state := 1, lanes := [(0, { st := 3, ctlInv := 15 })] }), 0, 3, 0,
     (scramble 0 (mkBlock 1 (2 ^ 64 - 1 - ofLe (ctlBlock 0x1E [0, 0, 0, 0, 0, 0])))).2, by decide +kernel⟩,
   ⟨(base.setSvlPort 3 { state := 1, lanes := [(0, { st := 3, seen := 4095 })] }), 0, 3, 0, mkBlock 1 0,
     by decide +kernel⟩,
   ⟨(base.setSvlPort 3 { state := 1, lanes := [(0, { st := 3, seen := 40, ctl := 3, wHdrs := 63, wBad := 4 })] }),
     0, 3, 0, (scramble 0 (mkBlock 2 (ofLe (ctlBlock 0x1E [0, 0, 0, 0, 0, 0])))).2, by decide +kernel⟩,
   ⟨(base.setSvlPort 3 { state := 1, lanes := [(0, { st := 3, ctl := 15 })] }), 0, 3, 0,
     (scramble 0 (mkBlock 2 (ofLe (ctlBlock 0x1E [0, 0, 0, 0, 0, 0])))).2, by decide +kernel⟩,
   ⟨(base.setFld (F.LANE_PAT_CFG_GEN_EN 0) 1).setSvlPort 3 { state := 1, lanes := [(0, { st := 3, ctl := 15 })] },
     0, 3, 0, (scramble 0 (mkBlock 2 (ofLe (ctlBlock 0x1E [0, 0, 0, 0, 0, 0])))).2, by decide +kernel⟩,
   ⟨(base.setSvlPort 3 { state := 3, lanes := [(0, { st := 4, wHdrs := 9 })] }), 0, 3, 0, mkBlock 0 0,
     by decide +kernel⟩,
   ⟨(base.setSvlPort 3 { state := 2, lanes := [(0, { st := 4, wBad := 15 })] }), 0, 3, 0, mkBlock 0 0,
     by decide +kernel⟩,
   ⟨(base.setSvlPort 3 { state := 3, lanes := [(0, { st := 4, wBad := 15 })] }), 0, 3, 0, mkBlock 0 0,
     by decide +kernel⟩,
   ⟨base.setSvlPort 3 { state := 1, lanes := [(0, { st := 4 })] }, 0, 3, 0, [mkBlock 0 0], by decide +kernel⟩,
   ⟨(base.setSvlPort 3 { state := 1, lanes := [(0, { st := 2 })] }), 0, 3, 0, [mkBlock 1 0, mkBlock 0 0],
     by decide +kernel⟩,
   ⟨((base.setFld (F.LANE_CFG_LOOP 0) 3).setSvlPort 3 { state := 1, lanes := [(0, { st := 2 })] }), 0, 3, 0,
     [mkBlock 1 0, mkBlock 0 0], by decide +kernel⟩,
   ⟨(((base.setFld (F.LANE_CFG_LOOP 0) 1).setLane 0 { blocks := [mkBlock 1 0] }).setSvlPort 3 { state := 1, lanes := [(0, { st := 2 })] }),
     0, 3, 0, [], by decide +kernel⟩,
   ⟨(base.setSvlPort 3 { state := 1, lanes := [(0, { st := 0 })] }), 0, 3, 0, [mkBlock 1 0], by decide +kernel⟩,
   ⟨(base.setSvlPort 3 { state := 1, lanes := [(0, { st := 2 })] }), 0, 3, 0, [mkBlock 1 0, mkBlock 0 0],
     by decide +kernel⟩,
   ⟨((base.setFld (F.LANE_CFG_LOOP 0) 3).setSvlPort 3 { state := 1, lanes := [(0, { st := 2 })] }), 0, 3, 0,
     [mkBlock 1 0, mkBlock 0 0], by decide +kernel⟩,
   ⟨(((base.setFld (F.LANE_CFG_LOOP 0) 1).setLane 0 { blocks := [mkBlock 1 0] }).setSvlPort 3 { state := 1, lanes := [(0, { st := 2 })] }),
     0, 3, 0, [], by decide +kernel⟩,
   ⟨(base.setSvlPort 3 { state := 1, lanes := [(0, { st := 0 })] }), 0, 3, 0, [mkBlock 1 0], by decide +kernel⟩,
   ⟨(base.setSvlPort 3 { state := 1, lanes := [(0, { st := 3 })] }), 0, 3, 0, [mkBlock 1 0, mkBlock 0 0],
     by decide +kernel⟩,
   ⟨((base.setFld (F.LANE_CFG_LOOP 0) 3).setSvlPort 3 { state := 1, lanes := [(0, { st := 3 })] }), 0, 3, 0,
     [mkBlock 1 0, mkBlock 0 0], by decide +kernel⟩,
   ⟨(((base.setFld (F.LANE_CFG_LOOP 0) 1).setLane 0 { blocks := [mkBlock 1 0] }).setSvlPort 3 { state := 1, lanes := [(0, { st := 3 })] }),
     0, 3, 0, [], by decide +kernel⟩,
   ⟨(base.setSvlPort 3 { state := 1, lanes := [(0, { st := 0 })] }), 0, 3, 0, [mkBlock 1 0], by decide +kernel⟩,
   ⟨(base.setSvlPort 3 { state := 1, lanes := [(0, { st := 3 })] }), 0, 3, 0, [mkBlock 1 0, mkBlock 0 0],
     by decide +kernel⟩,
   ⟨((base.setFld (F.LANE_CFG_LOOP 0) 3).setSvlPort 3 { state := 1, lanes := [(0, { st := 3 })] }), 0, 3, 0,
     [mkBlock 1 0, mkBlock 0 0], by decide +kernel⟩,
   ⟨(((base.setFld (F.LANE_CFG_LOOP 0) 1).setLane 0 { blocks := [mkBlock 1 0] }).setSvlPort 3 { state := 1, lanes := [(0, { st := 3 })] }),
     0, 3, 0, [], by decide +kernel⟩,
   ⟨(base.setSvlPort 3 { state := 1, lanes := [(0, { st := 0 })] }), 0, 3, 0, [mkBlock 1 0], by decide +kernel⟩,
   ⟨(base.setSvlPort 3 { state := 1, lanes := [(0, { st := 3 })] }), 0, 3, 0, [mkBlock 1 0, mkBlock 0 0],
     by decide +kernel⟩,
   ⟨((base.setFld (F.LANE_CFG_LOOP 0) 3).setSvlPort 3 { state := 1, lanes := [(0, { st := 3 })] }), 0, 3, 0,
     [mkBlock 1 0, mkBlock 0 0], by decide +kernel⟩,
   ⟨(((base.setFld (F.LANE_CFG_LOOP 0) 1).setLane 0 { blocks := [mkBlock 1 0] }).setSvlPort 3 { state := 1, lanes := [(0, { st := 3 })] }),
     0, 3, 0, [], by decide +kernel⟩,
   ⟨(base.setSvlPort 3 { state := 1, lanes := [(0, { st := 0 })] }), 0, 3, 0, [mkBlock 1 0], by decide +kernel⟩,
   ⟨base, 0, [mkBlock 1 0], by decide +kernel⟩⟩

theorem wit_SvlPortsConfigureAlignAndReceive :
    (∃ (s : State) (p : Pkt),
      Taken 0x2010 p s ∧ p.length = 1 ∧ p.target.toNat < 16 ∧ bitsOf (p.w 0) 31 24 ≤ 191 ∧
        bitsOf (p.w 0) 31 24 + bitsOf (p.w 0) 23 16 ≤ 192) ∧
    (∃ (s : State) (p : Pkt),
      Taken 0x2010 p s ∧ p.length = 1 ∧ p.target.toNat < 16 ∧ bitsOf (p.w 0) 31 24 ≤ 191 ∧
        bitsOf (p.w 0) 31 24 + bitsOf (p.w 0) 23 16 ≤ 192 ∧ (s.svlPort p.target.toNat).state = 0 ∧
        (p.w 0).testBit 0 = true ∧ (s.wrRw (R.SVL_PORT_CFG p.target.toNat) (p.w 0)).cfgValid p.target.toNat = true) ∧
    (∃ (s : State) (p : Pkt),
      Taken 0x2010 p s ∧ p.length = 1 ∧ p.target.toNat < 16 ∧ bitsOf (p.w 0) 31 24 ≤ 191 ∧
        bitsOf (p.w 0) 31 24 + bitsOf (p.w 0) 23 16 ≤ 192 ∧ (s.svlPort p.target.toNat).state = 0 ∧
        (p.w 0).testBit 0 = true ∧ (s.wrRw (R.SVL_PORT_CFG p.target.toNat) (p.w 0)).cfgValid p.target.toNat = false) ∧
    (∃ (s : State) (p : Pkt),
      Taken 0x2010 p s ∧ p.length = 1 ∧ p.target.toNat < 16 ∧ bitsOf (p.w 0) 31 24 ≤ 191 ∧
        bitsOf (p.w 0) 31 24 + bitsOf (p.w 0) 23 16 ≤ 192 ∧ (p.w 0).testBit 0 = false) ∧
    (∃ (s : State) (p : Pkt),
      Taken 0x2010 p s ∧ p.length = 1 ∧ p.target.toNat < 16 ∧
        (191 < bitsOf (p.w 0) 31 24 ∨ 192 < bitsOf (p.w 0) 31 24 + bitsOf (p.w 0) 23 16)) ∧
    (∃ (s : State) (p : Pkt),
      Taken 0x2010 p s ∧ p.length = 1 ∧ 16 ≤ p.target.toNat) ∧
    (∃ (s : State) (p : Fin 16) (v : Word),
      s.recovery = false ∧ (s.svlPort p.val).state = 0 ∧
        (s.wrRw (R.SVL_PORT_CFG p.val) (setBit v.toNat 0)).cfgValid p.val = true) ∧
    (∃ (s : State) (p : Fin 16) (v : Word),
      s.recovery = false ∧ (s.svlPort p.val).state = 0 ∧
        (s.wrRw (R.SVL_PORT_CFG p.val) (setBit v.toNat 0)).cfgValid p.val = false) ∧
    (∃ (s : State) (p : Fin 16) (v : Word),
      s.recovery = false ∧ (s.svlPort p.val).state ≠ 0 ∧ s.firstLane p.val = bitsOf v.toNat 15 12 ∧
        s.portWidth p.val = 2 ^ (bitsOf v.toNat 9 8 % 3) ∧ (∀ l < 16, s.asleep l false = false)) ∧
    (∃ (s : State) (p : Fin 16) (v : Word),
      s.recovery = false ∧ (s.svlPort p.val).state ≠ 0 ∧
        (s.firstLane p.val ≠ bitsOf v.toNat 15 12 ∨ s.portWidth p.val ≠ 2 ^ (bitsOf v.toNat 9 8 % 3))) ∧
    (∃ (s : State) (p : Fin 16) (v : Word),
      s.recovery = true) ∧
    (∃ (s : State) (p : Fin 16) (i : Fin 4) (b : BitVec 66) (bs : List (BitVec 66)) (n : Nat),
      (((s.svlPort p.val).lane i.val).st ≠ 4 ∨ (s.svlPort p.val).state = 0 ∨ s.portWidth p.val ≤ i.val)) ∧
    (∃ (s : State) (p : Fin 16) (i : Fin 4) (b : BitVec 66) (n : Nat),
      s.nearLoop (s.firstLane p.val + i.val) = false ∧
        ((((s.svlPort p.val).lane i.val).hear b).2.1 ≠ 2 ∨
        (ctlGood (((s.svlPort p.val).lane i.val).hear b).2.2 = true ∧
        ctlByte (((s.svlPort p.val).lane i.val).hear b).2.2 0 ∉ [0x33, 0x4B, 0x55, 0x78, 0x1E]))) ∧
    (∃ (s : State) (p : Fin 16) (i : Fin 4) (b : BitVec 66),
      s.nearLoop (s.firstLane p.val + i.val) = false ∧ (((s.svlPort p.val).lane i.val).hear b).2.1 = 2 ∧
        ctlGood (((s.svlPort p.val).lane i.val).hear b).2.2 = true ∧
        ctlByte (((s.svlPort p.val).lane i.val).hear b).2.2 0 ≠ 0x33) ∧
    (∃ (s : State) (p : Fin 16) (i : Fin 4) (b : BitVec 66),
      ((s.svlPort p.val).lane i.val).st = 4 ∧ (s.svlPort p.val).state ≠ 0 ∧ i.val < s.portWidth p.val ∧
        s.nearLoop (s.firstLane p.val + i.val) = false ∧ s.farLoop (s.firstLane p.val + i.val) = false ∧
        ((s.svlPort p.val).lane i.val).wBad < 16 ∧ (((s.svlPort p.val).lane i.val).hear b).2.1 = 2 ∧
        ctlGood (((s.svlPort p.val).lane i.val).hear b).2.2 = false ∧ s.count (C.SVL_CTL_BAD p.val) < 0xFFFFFFFE) ∧
    (∃ (s : State) (p : Fin 16) (i : Fin 4) (b : BitVec 66),
      ((s.svlPort p.val).lane i.val).st = 4 ∧ (s.svlPort p.val).state ≠ 0 ∧ i.val < s.portWidth p.val ∧
        s.farLoop (s.firstLane p.val + i.val) = true ∧ (((s.svlPort p.val).lane i.val).hear b).2.1 = 2 ∧
        (ctlGood (((s.svlPort p.val).lane i.val).hear b).2.2 = false ∨
        ctlByte (((s.svlPort p.val).lane i.val).hear b).2.2 0 = 0x33)) ∧
    (∃ (s : State) (p : Fin 16) (i : Fin 4) (b : BitVec 66),
      ((s.svlPort p.val).lane i.val).st = 4 ∧ (s.svlPort p.val).state ≠ 0 ∧ i.val < s.portWidth p.val ∧
        s.nearLoop (s.firstLane p.val + i.val) = true) ∧
    (∃ (s : State) (p : Fin 16) (i : Fin 4) (b : BitVec 66),
      s.nearLoop (s.firstLane p.val + i.val) = false ∧ (((s.svlPort p.val).lane i.val).hear b).2.1 = 2 ∧
        ctlGood (((s.svlPort p.val).lane i.val).hear b).2.2 = true ∧
        ctlByte (((s.svlPort p.val).lane i.val).hear b).2.2 0 ≠ 0x4B) ∧
    (∃ (s : State) (p : Fin 16) (i : Fin 4) (b : BitVec 66),
      ((s.svlPort p.val).lane i.val).st = 4 ∧ (s.svlPort p.val).state ≠ 0 ∧ i.val < s.portWidth p.val ∧
        s.nearLoop (s.firstLane p.val + i.val) = false ∧ s.farLoop (s.firstLane p.val + i.val) = false ∧
        ((s.svlPort p.val).lane i.val).wBad < 16 ∧ (((s.svlPort p.val).lane i.val).hear b).2.1 = 2 ∧
        ctlGood (((s.svlPort p.val).lane i.val).hear b).2.2 = false ∧ s.count (C.SVL_CTL_BAD p.val) < 0xFFFFFFFE) ∧
    (∃ (s : State) (p : Fin 16) (i : Fin 4) (b : BitVec 66),
      ((s.svlPort p.val).lane i.val).st = 4 ∧ (s.svlPort p.val).state ≠ 0 ∧ i.val < s.portWidth p.val ∧
        s.farLoop (s.firstLane p.val + i.val) = true ∧ (((s.svlPort p.val).lane i.val).hear b).2.1 = 2 ∧
        (ctlGood (((s.svlPort p.val).lane i.val).hear b).2.2 = false ∨
        ctlByte (((s.svlPort p.val).lane i.val).hear b).2.2 0 = 0x4B)) ∧
    (∃ (s : State) (p : Fin 16) (i : Fin 4) (b : BitVec 66),
      ((s.svlPort p.val).lane i.val).st = 4 ∧ (s.svlPort p.val).state ≠ 0 ∧ i.val < s.portWidth p.val ∧
        s.nearLoop (s.firstLane p.val + i.val) = true) ∧
    (∃ (s : State) (p : Fin 16) (i : Fin 4) (b : BitVec 66),
      s.nearLoop (s.firstLane p.val + i.val) = false ∧ (((s.svlPort p.val).lane i.val).hear b).2.1 = 2 ∧
        ctlGood (((s.svlPort p.val).lane i.val).hear b).2.2 = true ∧
        ctlByte (((s.svlPort p.val).lane i.val).hear b).2.2 0 ≠ 0x55) ∧
    (∃ (s : State) (p : Fin 16) (i : Fin 4) (b : BitVec 66),
      ((s.svlPort p.val).lane i.val).st = 4 ∧ (s.svlPort p.val).state ≠ 0 ∧ i.val < s.portWidth p.val ∧
        s.nearLoop (s.firstLane p.val + i.val) = false ∧ s.farLoop (s.firstLane p.val + i.val) = false ∧
        ((s.svlPort p.val).lane i.val).wBad < 16 ∧ (((s.svlPort p.val).lane i.val).hear b).2.1 = 2 ∧
        ctlGood (((s.svlPort p.val).lane i.val).hear b).2.2 = false ∧ s.count (C.SVL_CTL_BAD p.val) < 0xFFFFFFFE) ∧
    (∃ (s : State) (p : Fin 16) (i : Fin 4) (b : BitVec 66),
      ((s.svlPort p.val).lane i.val).st = 4 ∧ (s.svlPort p.val).state ≠ 0 ∧ i.val < s.portWidth p.val ∧
        s.farLoop (s.firstLane p.val + i.val) = true ∧ (((s.svlPort p.val).lane i.val).hear b).2.1 = 2 ∧
        (ctlGood (((s.svlPort p.val).lane i.val).hear b).2.2 = false ∨
        ctlByte (((s.svlPort p.val).lane i.val).hear b).2.2 0 = 0x55)) ∧
    (∃ (s : State) (p : Fin 16) (i : Fin 4) (b : BitVec 66),
      ((s.svlPort p.val).lane i.val).st = 4 ∧ (s.svlPort p.val).state ≠ 0 ∧ i.val < s.portWidth p.val ∧
        s.nearLoop (s.firstLane p.val + i.val) = true) ∧
    (∃ (s : State) (p : Fin 16) (i : Fin 4) (b : BitVec 66),
      s.nearLoop (s.firstLane p.val + i.val) = false ∧ (((s.svlPort p.val).lane i.val).hear b).2.1 = 2 ∧
        ctlGood (((s.svlPort p.val).lane i.val).hear b).2.2 = true ∧
        ctlByte (((s.svlPort p.val).lane i.val).hear b).2.2 0 ≠ 0x1E) ∧
    (∃ (s : State) (p : Fin 16) (i : Fin 4) (b : BitVec 66),
      ((s.svlPort p.val).lane i.val).st = 4 ∧ (s.svlPort p.val).state ≠ 0 ∧ i.val < s.portWidth p.val ∧
        s.nearLoop (s.firstLane p.val + i.val) = false ∧ s.farLoop (s.firstLane p.val + i.val) = false ∧
        ((s.svlPort p.val).lane i.val).wBad < 16 ∧ (((s.svlPort p.val).lane i.val).hear b).2.1 = 2 ∧
        ctlGood (((s.svlPort p.val).lane i.val).hear b).2.2 = false ∧ s.count (C.SVL_CTL_BAD p.val) < 0xFFFFFFFE) ∧
    (∃ (s : State) (p : Fin 16) (i : Fin 4) (b : BitVec 66),
      ((s.svlPort p.val).lane i.val).st = 4 ∧ (s.svlPort p.val).state ≠ 0 ∧ i.val < s.portWidth p.val ∧
        s.farLoop (s.firstLane p.val + i.val) = true ∧ (((s.svlPort p.val).lane i.val).hear b).2.1 = 2 ∧
        (ctlGood (((s.svlPort p.val).lane i.val).hear b).2.2 = false ∨
        ctlByte (((s.svlPort p.val).lane i.val).hear b).2.2 0 = 0x1E)) ∧
    (∃ (s : State) (p : Fin 16) (i : Fin 4) (b : BitVec 66),
      ((s.svlPort p.val).lane i.val).st = 4 ∧ (s.svlPort p.val).state ≠ 0 ∧ i.val < s.portWidth p.val ∧
        s.nearLoop (s.firstLane p.val + i.val) = true) ∧
    (∃ (s : State) (p : Fin 16) (i : Fin 4) (b : BitVec 66) (n : Nat),
      s.nearLoop (s.firstLane p.val + i.val) = false ∧ (((s.svlPort p.val).lane i.val).hear b).2.1 = 2 ∧
        ctlGood (((s.svlPort p.val).lane i.val).hear b).2.2 = true ∧
        ctlByte (((s.svlPort p.val).lane i.val).hear b).2.2 0 ≠ 0x78) ∧
    (∃ (s : State) (p : Fin 16) (i : Fin 4) (b : BitVec 66) (n : Nat),
      ((s.svlPort p.val).lane i.val).st = 4 ∧ (s.svlPort p.val).state ≠ 0 ∧ i.val < s.portWidth p.val ∧
        s.nearLoop (s.firstLane p.val + i.val) = false ∧ s.farLoop (s.firstLane p.val + i.val) = false ∧
        ((s.svlPort p.val).lane i.val).wBad < 16 ∧ (((s.svlPort p.val).lane i.val).hear b).2.1 = 2 ∧
        ctlGood (((s.svlPort p.val).lane i.val).hear b).2.2 = false ∧ s.count (C.SVL_CTL_BAD p.val) < 0xFFFFFFFE) ∧
    (∃ (s : State) (p : Fin 16) (i : Fin 4) (b : BitVec 66) (n : Nat),
      ((s.svlPort p.val).lane i.val).st = 4 ∧ (s.svlPort p.val).state ≠ 0 ∧ i.val < s.portWidth p.val ∧
        s.farLoop (s.firstLane p.val + i.val) = true ∧ (((s.svlPort p.val).lane i.val).hear b).2.1 = 2 ∧
        (ctlGood (((s.svlPort p.val).lane i.val).hear b).2.2 = false ∨
        ctlByte (((s.svlPort p.val).lane i.val).hear b).2.2 0 = 0x78)) ∧
    (∃ (s : State) (p : Fin 16) (i : Fin 4) (b : BitVec 66) (n : Nat),
      ((s.svlPort p.val).lane i.val).st = 4 ∧ (s.svlPort p.val).state ≠ 0 ∧ i.val < s.portWidth p.val ∧
        s.nearLoop (s.firstLane p.val + i.val) = true) ∧
    (∃ (s : State) (p : Fin 16) (i : Fin 4) (bs : List (BitVec 66)),
      ((s.svlPort p.val).lane i.val).st = 4 ∧ (s.svlPort p.val).state ≠ 0 ∧ i.val < s.portWidth p.val ∧
        s.nearLoop (s.firstLane p.val + i.val) = false ∧ s.farLoop (s.firstLane p.val + i.val) = false) ∧
    (∃ (s : State) (p : Fin 16) (i : Fin 4) (bs : List (BitVec 66)),
      ((s.svlPort p.val).lane i.val).st = 4 ∧ (s.svlPort p.val).state ≠ 0 ∧ i.val < s.portWidth p.val ∧
        s.farLoop (s.firstLane p.val + i.val) = true) ∧
    (∃ (s : State) (p : Fin 16) (i : Fin 4) (bs : List (BitVec 66)),
      ((s.svlPort p.val).lane i.val).st = 4 ∧ (s.svlPort p.val).state ≠ 0 ∧ i.val < s.portWidth p.val ∧
        s.nearLoop (s.firstLane p.val + i.val) = true) ∧
    (∃ (s : State) (p : Fin 16) (i : Fin 4) (b : BitVec 66),
      ((s.svlPort p.val).lane i.val).st = 4 ∧ (s.svlPort p.val).state ≠ 0 ∧ i.val < s.portWidth p.val ∧
        s.nearLoop (s.firstLane p.val + i.val) = false ∧ s.farLoop (s.firstLane p.val + i.val) = false ∧
        ((s.svlPort p.val).lane i.val).wBad < 16 ∧ (((s.svlPort p.val).lane i.val).hear b).2.1 = 1 ∧
        (s.svlPort p.val).state ≠ 3) ∧
    (∃ (s : State) (p : Fin 16) (i : Fin 4) (b : BitVec 66),
      ((s.svlPort p.val).lane i.val).st = 4 ∧ (s.svlPort p.val).state ≠ 0 ∧ i.val < s.portWidth p.val ∧
        s.nearLoop (s.firstLane p.val + i.val) = false ∧ s.farLoop (s.firstLane p.val + i.val) = false ∧
        ((s.svlPort p.val).lane i.val).wBad < 16 ∧ (((s.svlPort p.val).lane i.val).hear b).2.1 = 1 ∧
        (s.svlPort p.val).state = 3 ∧ ((s.svlPort p.val).lane i.val).part.length < 8) ∧
    (∃ (s : State) (p : Fin 16) (i : Fin 4) (b : BitVec 66) (pair : Nat) (tk g q k : Nat) (r : RxSym),
      ((s.svlPort p.val).lane i.val).st = 4 ∧ (s.svlPort p.val).state ≠ 0 ∧ i.val < s.portWidth p.val ∧
        s.nearLoop (s.firstLane p.val + i.val) = false ∧ s.farLoop (s.firstLane p.val + i.val) = false ∧
        ((s.svlPort p.val).lane i.val).wBad < 16 ∧ (((s.svlPort p.val).lane i.val).hear b).2.1 = 1 ∧
        (s.svlPort p.val).state = 3 ∧ 8 ≤ ((s.svlPort p.val).lane i.val).part.length ∧
        pair = (((s.svlPort p.val).lane i.val).part ++
        [(((s.svlPort p.val).lane i.val).hear b).2.2]).foldr (fun w a => w.toNat + a * 2 ^ 64) 0 ∧
        (s.svlPort p.val).ignore = false ∧ (s.svlPort p.val).cur = some tk ∧ s.portOf p.val = some (g, q) ∧
        r = (s.svlPort p.val).rxOf tk ∧ k = ((s.svlPort p.val).lane i.val).logical ∧ ¬ (s.tick.count.toNat < r.tick ∧
        1024 ≤ sparseGet (fun _ => 0) r.gotS k + sparseGet (fun _ => 0) r.gotF k) ∧ r.ended.testBit k = false ∧
        sparseGet (fun _ => 0) r.gotS k < lanePairs (ceilDiv ((s.vg g).sampleTiles q) 2) (s.portWidth p.val) k ∧
        r.closed = false) ∧
    (∃ (s : State) (p : Fin 16) (i : Fin 4) (b : BitVec 66) (pair : Nat) (tk g q k : Nat) (r : RxSym),
      ((s.svlPort p.val).lane i.val).st = 4 ∧ (s.svlPort p.val).state ≠ 0 ∧ i.val < s.portWidth p.val ∧
        s.nearLoop (s.firstLane p.val + i.val) = false ∧ s.farLoop (s.firstLane p.val + i.val) = false ∧
        ((s.svlPort p.val).lane i.val).wBad < 16 ∧ (((s.svlPort p.val).lane i.val).hear b).2.1 = 1 ∧
        (s.svlPort p.val).state = 3 ∧ 8 ≤ ((s.svlPort p.val).lane i.val).part.length ∧
        pair = (((s.svlPort p.val).lane i.val).part ++
        [(((s.svlPort p.val).lane i.val).hear b).2.2]).foldr (fun w a => w.toNat + a * 2 ^ 64) 0 ∧
        (s.svlPort p.val).ignore = false ∧ (s.svlPort p.val).cur = some tk ∧ s.portOf p.val = some (g, q) ∧
        r = (s.svlPort p.val).rxOf tk ∧ k = ((s.svlPort p.val).lane i.val).logical ∧ ¬ (s.tick.count.toNat < r.tick ∧
        1024 ≤ sparseGet (fun _ => 0) r.gotS k + sparseGet (fun _ => 0) r.gotF k) ∧ r.ended.testBit k = false ∧
        lanePairs (ceilDiv ((s.vg g).sampleTiles q) 2) (s.portWidth p.val) k ≤ sparseGet (fun _ => 0) r.gotS k ∧
        sparseGet (fun _ => 0) r.gotF k < lanePairs (ceilDiv (s.vg g).fbTotal 2) (s.portWidth p.val) k ∧
        r.closed = false) ∧
    (∃ (s : State) (p : Fin 16) (i : Fin 4) (b : BitVec 66) (pair : Nat) (tk g q k : Nat) (r : RxSym),
      ((s.svlPort p.val).lane i.val).st = 4 ∧ (s.svlPort p.val).state ≠ 0 ∧ i.val < s.portWidth p.val ∧
        s.nearLoop (s.firstLane p.val + i.val) = false ∧ s.farLoop (s.firstLane p.val + i.val) = false ∧
        ((s.svlPort p.val).lane i.val).wBad < 16 ∧ (((s.svlPort p.val).lane i.val).hear b).2.1 = 1 ∧
        (s.svlPort p.val).state = 3 ∧ 8 ≤ ((s.svlPort p.val).lane i.val).part.length ∧
        pair = (((s.svlPort p.val).lane i.val).part ++
        [(((s.svlPort p.val).lane i.val).hear b).2.2]).foldr (fun w a => w.toNat + a * 2 ^ 64) 0 ∧
        (s.svlPort p.val).ignore = false ∧ (s.svlPort p.val).cur = some tk ∧ s.portOf p.val = some (g, q) ∧
        r = (s.svlPort p.val).rxOf tk ∧ k = ((s.svlPort p.val).lane i.val).logical ∧ r.closed = true ∧
        r.ended.testBit k = false ∧ (sparseGet (fun _ => 0) r.gotS k < lanePairs (ceilDiv ((s.vg g).sampleTiles q) 2) (s.portWidth p.val) k ∨
        sparseGet (fun _ => 0) r.gotF k < lanePairs (ceilDiv (s.vg g).fbTotal 2) (s.portWidth p.val) k)) ∧
    (∃ (s : State) (p : Fin 16) (i : Fin 4) (b : BitVec 66) (pair : Nat) (tk g q k : Nat) (r : RxSym),
      ((s.svlPort p.val).lane i.val).st = 4 ∧ (s.svlPort p.val).state ≠ 0 ∧ i.val < s.portWidth p.val ∧
        s.nearLoop (s.firstLane p.val + i.val) = false ∧ s.farLoop (s.firstLane p.val + i.val) = false ∧
        ((s.svlPort p.val).lane i.val).wBad < 16 ∧ (((s.svlPort p.val).lane i.val).hear b).2.1 = 1 ∧
        (s.svlPort p.val).state = 3 ∧ 8 ≤ ((s.svlPort p.val).lane i.val).part.length ∧
        pair = (((s.svlPort p.val).lane i.val).part ++
        [(((s.svlPort p.val).lane i.val).hear b).2.2]).foldr (fun w a => w.toNat + a * 2 ^ 64) 0 ∧
        (s.svlPort p.val).ignore = false ∧ (s.svlPort p.val).cur = some tk ∧ s.portOf p.val = some (g, q) ∧
        r = (s.svlPort p.val).rxOf tk ∧ k = ((s.svlPort p.val).lane i.val).logical ∧ ¬ (s.tick.count.toNat < r.tick ∧
        1024 ≤ sparseGet (fun _ => 0) r.gotS k + sparseGet (fun _ => 0) r.gotF k) ∧
        (r.ended.testBit k = true ∨ (lanePairs (ceilDiv ((s.vg g).sampleTiles q) 2) (s.portWidth p.val) k ≤ sparseGet (fun _ => 0) r.gotS k ∧
        lanePairs (ceilDiv (s.vg g).fbTotal 2) (s.portWidth p.val) k ≤ sparseGet (fun _ => 0) r.gotF k)) ∧
        s.count (C.SVL_MISALIGN p.val) < 0xFFFFFFFE) ∧
    (∃ (s : State) (p : Fin 16) (i : Fin 4) (b : BitVec 66) (pair : Nat) (tk g q k : Nat) (r : RxSym),
      ((s.svlPort p.val).lane i.val).st = 4 ∧ (s.svlPort p.val).state ≠ 0 ∧ i.val < s.portWidth p.val ∧
        s.nearLoop (s.firstLane p.val + i.val) = false ∧ s.farLoop (s.firstLane p.val + i.val) = false ∧
        ((s.svlPort p.val).lane i.val).wBad < 16 ∧ (((s.svlPort p.val).lane i.val).hear b).2.1 = 1 ∧
        (s.svlPort p.val).state = 3 ∧ 8 ≤ ((s.svlPort p.val).lane i.val).part.length ∧
        pair = (((s.svlPort p.val).lane i.val).part ++
        [(((s.svlPort p.val).lane i.val).hear b).2.2]).foldr (fun w a => w.toNat + a * 2 ^ 64) 0 ∧
        (s.svlPort p.val).ignore = false ∧ (s.svlPort p.val).cur = some tk ∧ s.portOf p.val = some (g, q) ∧
        r = (s.svlPort p.val).rxOf tk ∧ k = ((s.svlPort p.val).lane i.val).logical ∧ s.tick.count.toNat < r.tick ∧
        1024 ≤ sparseGet (fun _ => 0) r.gotS k + sparseGet (fun _ => 0) r.gotF k) ∧
    (∃ (s : State) (p : Fin 16) (i : Fin 4) (b : BitVec 66) (pair : Nat),
      ((s.svlPort p.val).lane i.val).st = 4 ∧ (s.svlPort p.val).state ≠ 0 ∧ i.val < s.portWidth p.val ∧
        s.nearLoop (s.firstLane p.val + i.val) = false ∧ s.farLoop (s.firstLane p.val + i.val) = false ∧
        ((s.svlPort p.val).lane i.val).wBad < 16 ∧ (((s.svlPort p.val).lane i.val).hear b).2.1 = 1 ∧
        (s.svlPort p.val).state = 3 ∧ 8 ≤ ((s.svlPort p.val).lane i.val).part.length ∧
        pair = (((s.svlPort p.val).lane i.val).part ++
        [(((s.svlPort p.val).lane i.val).hear b).2.2]).foldr (fun w a => w.toNat + a * 2 ^ 64) 0 ∧
        (s.svlPort p.val).ignore = true) ∧
    (∃ (s : State) (p : Fin 16) (i : Fin 4) (b : BitVec 66) (pair : Nat) (g q : Nat),
      ((s.svlPort p.val).lane i.val).st = 4 ∧ (s.svlPort p.val).state ≠ 0 ∧ i.val < s.portWidth p.val ∧
        s.nearLoop (s.firstLane p.val + i.val) = false ∧ s.farLoop (s.firstLane p.val + i.val) = false ∧
        ((s.svlPort p.val).lane i.val).wBad < 16 ∧ (((s.svlPort p.val).lane i.val).hear b).2.1 = 1 ∧
        (s.svlPort p.val).state = 3 ∧ 8 ≤ ((s.svlPort p.val).lane i.val).part.length ∧
        pair = (((s.svlPort p.val).lane i.val).part ++
        [(((s.svlPort p.val).lane i.val).hear b).2.2]).foldr (fun w a => w.toNat + a * 2 ^ 64) 0 ∧
        (s.svlPort p.val).ignore = false ∧ (s.svlPort p.val).cur = none ∧ s.portOf p.val = some (g, q) ∧
        2 ≤ (s.vg g).state ∧ s.count (C.SVL_MISALIGN p.val) < 0xFFFFFFFE) ∧
    (∃ (s : State) (p : Fin 16) (i : Fin 4) (b : BitVec 66) (pair : Nat),
      ((s.svlPort p.val).lane i.val).st = 4 ∧ (s.svlPort p.val).state ≠ 0 ∧ i.val < s.portWidth p.val ∧
        s.nearLoop (s.firstLane p.val + i.val) = false ∧ s.farLoop (s.firstLane p.val + i.val) = false ∧
        ((s.svlPort p.val).lane i.val).wBad < 16 ∧ (((s.svlPort p.val).lane i.val).hear b).2.1 = 1 ∧
        (s.svlPort p.val).state = 3 ∧ 8 ≤ ((s.svlPort p.val).lane i.val).part.length ∧
        pair = (((s.svlPort p.val).lane i.val).part ++
        [(((s.svlPort p.val).lane i.val).hear b).2.2]).foldr (fun w a => w.toNat + a * 2 ^ 64) 0 ∧
        (s.svlPort p.val).ignore = false ∧ ((s.svlPort p.val).cur = none ∨ s.portOf p.val = none) ∧
        (match s.portOf p.val with | some (g, _) => decide ((s.vg g).state < 2) | none => true) = true) ∧
    (∃ (s : State) (p : Fin 16) (i : Fin 4) (b : BitVec 66) (grp tickNo : Nat),
      ((s.svlPort p.val).lane i.val).st = 4 ∧ ((s.svlPort p.val).lane i.val).wBad < 16 ∧
        (s.svlPort p.val).state ≠ 0 ∧ (s.svlPort p.val).state ≠ 3 ∧ i.val < s.portWidth p.val ∧
        s.nearLoop (s.firstLane p.val + i.val) = false ∧ s.farLoop (s.firstLane p.val + i.val) = false ∧
        (((s.svlPort p.val).lane i.val).hear b).2.1 = 2 ∧
        ctlGood (((s.svlPort p.val).lane i.val).hear b).2.2 = true ∧
        ctlByte (((s.svlPort p.val).lane i.val).hear b).2.2 0 = 0x33) ∧
    (∃ (s : State) (p : Fin 16) (i : Fin 4) (b : BitVec 66) (grp tickNo : Nat) (tk q : Nat),
      ((s.svlPort p.val).lane i.val).st = 4 ∧ (s.svlPort p.val).state ≠ 0 ∧ i.val < s.portWidth p.val ∧
        s.nearLoop (s.firstLane p.val + i.val) = false ∧ s.farLoop (s.firstLane p.val + i.val) = false ∧
        ((s.svlPort p.val).lane i.val).wBad < 16 ∧ (((s.svlPort p.val).lane i.val).hear b).2.1 = 2 ∧
        ctlGood (((s.svlPort p.val).lane i.val).hear b).2.2 = true ∧
        ctlByte (((s.svlPort p.val).lane i.val).hear b).2.2 0 = 0x33 ∧ (s.svlPort p.val).state = 3 ∧
        grp = ctlByte (((s.svlPort p.val).lane i.val).hear b).2.2 1 % 4 ∧
        tickNo = ctlField (((s.svlPort p.val).lane i.val).hear b).2.2 2 2 ∧
        (s.svlPort p.val).start.all (fun z => z.1 != grp || z.2.1 != tickNo || z.2.2.testBit i.val) = true ∧
        s.portOf p.val = some (grp, q) ∧ 2 ≤ (s.vg grp).state ∧
        ¬ ((s.gapTick (s.vg grp)).map (fun t => t % 65536) = some tickNo) ∧ s.windowTick (s.vg grp) q = some tk ∧
        tk % 65536 = tickNo) ∧
    (∃ (s : State) (p : Fin 16) (i : Fin 4) (b : BitVec 66) (grp tickNo : Nat) (g q : Nat),
      ((s.svlPort p.val).lane i.val).st = 4 ∧ (s.svlPort p.val).state ≠ 0 ∧ i.val < s.portWidth p.val ∧
        s.nearLoop (s.firstLane p.val + i.val) = false ∧ s.farLoop (s.firstLane p.val + i.val) = false ∧
        ((s.svlPort p.val).lane i.val).wBad < 16 ∧ (((s.svlPort p.val).lane i.val).hear b).2.1 = 2 ∧
        ctlGood (((s.svlPort p.val).lane i.val).hear b).2.2 = true ∧
        ctlByte (((s.svlPort p.val).lane i.val).hear b).2.2 0 = 0x33 ∧ (s.svlPort p.val).state = 3 ∧
        grp = ctlByte (((s.svlPort p.val).lane i.val).hear b).2.2 1 % 4 ∧
        tickNo = ctlField (((s.svlPort p.val).lane i.val).hear b).2.2 2 2 ∧
        (s.svlPort p.val).start.all (fun z => z.1 != grp || z.2.1 != tickNo || z.2.2.testBit i.val) = true ∧
        s.portOf p.val = some (g, q) ∧ 2 ≤ (s.vg g).state ∧ ¬ (grp = g ∧
        (s.gapTick (s.vg g)).map (fun t => t % 65536) = some tickNo) ∧ ¬ (grp = g ∧
        (s.windowTick (s.vg g) q).map (fun t => t % 65536) = some tickNo) ∧
        s.count (C.SVL_STREAM_BAD p.val) < 0xFFFFFFFE) ∧
    (∃ (s : State) (p : Fin 16) (i : Fin 4) (b : BitVec 66) (grp tickNo : Nat) (g q : Nat),
      ((s.svlPort p.val).lane i.val).st = 4 ∧ (s.svlPort p.val).state ≠ 0 ∧ i.val < s.portWidth p.val ∧
        s.nearLoop (s.firstLane p.val + i.val) = false ∧ s.farLoop (s.firstLane p.val + i.val) = false ∧
        ((s.svlPort p.val).lane i.val).wBad < 16 ∧ (((s.svlPort p.val).lane i.val).hear b).2.1 = 2 ∧
        ctlGood (((s.svlPort p.val).lane i.val).hear b).2.2 = true ∧
        ctlByte (((s.svlPort p.val).lane i.val).hear b).2.2 0 = 0x33 ∧ (s.svlPort p.val).state = 3 ∧
        grp = ctlByte (((s.svlPort p.val).lane i.val).hear b).2.2 1 % 4 ∧
        tickNo = ctlField (((s.svlPort p.val).lane i.val).hear b).2.2 2 2 ∧
        (s.svlPort p.val).start.all (fun z => z.1 != grp || z.2.1 != tickNo || z.2.2.testBit i.val) = true ∧
        s.portOf p.val = some (g, q) ∧ ((s.vg g).state < 2 ∨ (grp = g ∧
        (s.gapTick (s.vg g)).map (fun t => t % 65536) = some tickNo))) ∧
    (∃ (s : State) (p : Fin 16) (i : Fin 4) (b : BitVec 66) (grp tickNo : Nat),
      ((s.svlPort p.val).lane i.val).st = 4 ∧ (s.svlPort p.val).state ≠ 0 ∧ i.val < s.portWidth p.val ∧
        s.nearLoop (s.firstLane p.val + i.val) = false ∧ s.farLoop (s.firstLane p.val + i.val) = false ∧
        ((s.svlPort p.val).lane i.val).wBad < 16 ∧ (((s.svlPort p.val).lane i.val).hear b).2.1 = 2 ∧
        ctlGood (((s.svlPort p.val).lane i.val).hear b).2.2 = true ∧
        ctlByte (((s.svlPort p.val).lane i.val).hear b).2.2 0 = 0x33 ∧ (s.svlPort p.val).state = 3 ∧
        grp = ctlByte (((s.svlPort p.val).lane i.val).hear b).2.2 1 % 4 ∧
        tickNo = ctlField (((s.svlPort p.val).lane i.val).hear b).2.2 2 2 ∧
        (s.svlPort p.val).start.all (fun z => z.1 != grp || z.2.1 != tickNo || z.2.2.testBit i.val) = true ∧
        s.portOf p.val = none) ∧
    (∃ (s : State) (p : Fin 16) (i : Fin 4) (b : BitVec 66) (grp tickNo : Nat) (m : Nat),
      ((s.svlPort p.val).lane i.val).st = 4 ∧ (s.svlPort p.val).state ≠ 0 ∧ i.val < s.portWidth p.val ∧
        s.nearLoop (s.firstLane p.val + i.val) = false ∧ s.farLoop (s.firstLane p.val + i.val) = false ∧
        ((s.svlPort p.val).lane i.val).wBad < 16 ∧ (((s.svlPort p.val).lane i.val).hear b).2.1 = 2 ∧
        ctlGood (((s.svlPort p.val).lane i.val).hear b).2.2 = true ∧
        ctlByte (((s.svlPort p.val).lane i.val).hear b).2.2 0 = 0x33 ∧ (s.svlPort p.val).state = 3 ∧
        grp = ctlByte (((s.svlPort p.val).lane i.val).hear b).2.2 1 % 4 ∧
        tickNo = ctlField (((s.svlPort p.val).lane i.val).hear b).2.2 2 2 ∧
        (s.svlPort p.val).start = some (grp, tickNo, m) ∧ m.testBit i.val = false) ∧
    (∃ (s : State) (p : Fin 16) (i : Fin 4) (b : BitVec 66),
      ((s.svlPort p.val).lane i.val).st = 4 ∧ (s.svlPort p.val).state ≠ 0 ∧ i.val < s.portWidth p.val ∧
        s.nearLoop (s.firstLane p.val + i.val) = false ∧ s.farLoop (s.firstLane p.val + i.val) = false ∧
        ((s.svlPort p.val).lane i.val).wBad < 16 ∧ (((s.svlPort p.val).lane i.val).hear b).2.1 = 2 ∧
        ctlGood (((s.svlPort p.val).lane i.val).hear b).2.2 = true ∧
        ctlByte (((s.svlPort p.val).lane i.val).hear b).2.2 0 = 0x33 ∧ (s.svlPort p.val).state = 3 ∧
        ((s.svlPort p.val).lane i.val).part ≠ [] ∧ s.count (C.SVL_MISALIGN p.val) < 0xFFFFFFFE) ∧
    (∃ (s : State) (p : Fin 16) (i : Fin 4) (b : BitVec 66),
      ((s.svlPort p.val).lane i.val).st = 4 ∧ (s.svlPort p.val).state ≠ 0 ∧ i.val < s.portWidth p.val ∧
        s.nearLoop (s.firstLane p.val + i.val) = false ∧ s.farLoop (s.firstLane p.val + i.val) = false ∧
        ((s.svlPort p.val).lane i.val).wBad < 16 ∧ (((s.svlPort p.val).lane i.val).hear b).2.1 = 2 ∧
        ctlGood (((s.svlPort p.val).lane i.val).hear b).2.2 = true ∧
        ctlByte (((s.svlPort p.val).lane i.val).hear b).2.2 0 = 0x33 ∧ (s.svlPort p.val).state = 3 ∧
        ((s.svlPort p.val).lane i.val).part = []) ∧
    (∃ (s : State) (p : Fin 16) (i : Fin 4) (b : BitVec 66) (tk g q k : Nat) (r : RxSym),
      ((s.svlPort p.val).lane i.val).st = 4 ∧ (s.svlPort p.val).state ≠ 0 ∧ i.val < s.portWidth p.val ∧
        s.nearLoop (s.firstLane p.val + i.val) = false ∧ s.farLoop (s.firstLane p.val + i.val) = false ∧
        ((s.svlPort p.val).lane i.val).wBad < 16 ∧ (((s.svlPort p.val).lane i.val).hear b).2.1 = 2 ∧
        ctlGood (((s.svlPort p.val).lane i.val).hear b).2.2 = true ∧
        ctlByte (((s.svlPort p.val).lane i.val).hear b).2.2 0 = 0x4B ∧ (s.svlPort p.val).state = 3 ∧
        (s.svlPort p.val).cur = some tk ∧ s.portOf p.val = some (g, q) ∧ r = (s.svlPort p.val).rxOf tk ∧
        k = ((s.svlPort p.val).lane i.val).logical ∧ r.ended.testBit k = false ∧
        sparseGet (fun _ => 0) r.gotS k < lanePairs (ceilDiv ((s.vg g).sampleTiles q) 2) (s.portWidth p.val) k ∧
        s.count (C.SVL_MISALIGN p.val) < 0xFFFFFFFE) ∧
    (∃ (s : State) (p : Fin 16) (i : Fin 4) (b : BitVec 66) (tk g q k : Nat) (r : RxSym),
      ((s.svlPort p.val).lane i.val).st = 4 ∧ (s.svlPort p.val).state ≠ 0 ∧ i.val < s.portWidth p.val ∧
        s.nearLoop (s.firstLane p.val + i.val) = false ∧ s.farLoop (s.firstLane p.val + i.val) = false ∧
        ((s.svlPort p.val).lane i.val).wBad < 16 ∧ (((s.svlPort p.val).lane i.val).hear b).2.1 = 2 ∧
        ctlGood (((s.svlPort p.val).lane i.val).hear b).2.2 = true ∧
        ctlByte (((s.svlPort p.val).lane i.val).hear b).2.2 0 = 0x4B ∧ (s.svlPort p.val).state = 3 ∧
        (s.svlPort p.val).cur = some tk ∧ s.portOf p.val = some (g, q) ∧ r = (s.svlPort p.val).rxOf tk ∧
        k = ((s.svlPort p.val).lane i.val).logical ∧
        (r.ended.testBit k = true ∨ lanePairs (ceilDiv ((s.vg g).sampleTiles q) 2) (s.portWidth p.val) k ≤ sparseGet (fun _ => 0) r.gotS k)) ∧
    (∃ (s : State) (p : Fin 16) (i : Fin 4) (b : BitVec 66),
      ((s.svlPort p.val).lane i.val).st = 4 ∧ (s.svlPort p.val).state ≠ 0 ∧ i.val < s.portWidth p.val ∧
        s.nearLoop (s.firstLane p.val + i.val) = false ∧ s.farLoop (s.firstLane p.val + i.val) = false ∧
        ((s.svlPort p.val).lane i.val).wBad < 16 ∧ (((s.svlPort p.val).lane i.val).hear b).2.1 = 2 ∧
        ctlGood (((s.svlPort p.val).lane i.val).hear b).2.2 = true ∧
        ctlByte (((s.svlPort p.val).lane i.val).hear b).2.2 0 = 0x4B ∧
        ((s.svlPort p.val).state ≠ 3 ∨ (s.svlPort p.val).cur = none ∨ s.portOf p.val = none)) ∧
    (∃ (s : State) (p : Fin 16) (i : Fin 4) (b : BitVec 66) (line : Nat),
      ((s.svlPort p.val).lane i.val).st = 4 ∧ (s.svlPort p.val).state ≠ 0 ∧ i.val < s.portWidth p.val ∧
        s.nearLoop (s.firstLane p.val + i.val) = false ∧ s.farLoop (s.firstLane p.val + i.val) = false ∧
        ((s.svlPort p.val).lane i.val).wBad < 16 ∧ (((s.svlPort p.val).lane i.val).hear b).2.1 = 2 ∧
        ctlGood (((s.svlPort p.val).lane i.val).hear b).2.2 = true ∧
        ctlByte (((s.svlPort p.val).lane i.val).hear b).2.2 0 = 0x55 ∧ (s.svlPort p.val).state = 3 ∧
        line = ctlByte (((s.svlPort p.val).lane i.val).hear b).2.2 1 ∧ line < s.fld (F.SVL_PORT_CFG_LINES p.val)) ∧
    (∃ (s : State) (p : Fin 16) (i : Fin 4) (b : BitVec 66),
      ((s.svlPort p.val).lane i.val).st = 4 ∧ (s.svlPort p.val).state ≠ 0 ∧ i.val < s.portWidth p.val ∧
        s.nearLoop (s.firstLane p.val + i.val) = false ∧ s.farLoop (s.firstLane p.val + i.val) = false ∧
        ((s.svlPort p.val).lane i.val).wBad < 16 ∧ (((s.svlPort p.val).lane i.val).hear b).2.1 = 2 ∧
        ctlGood (((s.svlPort p.val).lane i.val).hear b).2.2 = true ∧
        ctlByte (((s.svlPort p.val).lane i.val).hear b).2.2 0 = 0x55 ∧
        s.fld (F.SVL_PORT_CFG_LINES p.val) ≤ ctlByte (((s.svlPort p.val).lane i.val).hear b).2.2 1 ∧
        s.count (C.SVL_CTL_BAD p.val) < 0xFFFFFFFE) ∧
    (∃ (s : State) (p : Fin 16) (i : Fin 4) (b : BitVec 66),
      ((s.svlPort p.val).lane i.val).st = 4 ∧ (s.svlPort p.val).state ≠ 0 ∧ i.val < s.portWidth p.val ∧
        s.nearLoop (s.firstLane p.val + i.val) = false ∧ s.farLoop (s.firstLane p.val + i.val) = false ∧
        ((s.svlPort p.val).lane i.val).wBad < 16 ∧ (((s.svlPort p.val).lane i.val).hear b).2.1 = 2 ∧
        ctlGood (((s.svlPort p.val).lane i.val).hear b).2.2 = true ∧
        ctlByte (((s.svlPort p.val).lane i.val).hear b).2.2 0 = 0x55 ∧
        ctlByte (((s.svlPort p.val).lane i.val).hear b).2.2 1 < s.fld (F.SVL_PORT_CFG_LINES p.val) ∧
        (s.svlPort p.val).state ≠ 3) ∧
    (∃ (s : State) (p : Fin 16) (i : Fin 4) (b : BitVec 66),
      ((s.svlPort p.val).lane i.val).st = 4 ∧ (s.svlPort p.val).state ≠ 0 ∧ i.val < s.portWidth p.val ∧
        s.nearLoop (s.firstLane p.val + i.val) = false ∧ s.farLoop (s.firstLane p.val + i.val) = false ∧
        ((s.svlPort p.val).lane i.val).wBad < 16 ∧ (((s.svlPort p.val).lane i.val).hear b).2.1 = 2 ∧
        ctlGood (((s.svlPort p.val).lane i.val).hear b).2.2 = true ∧
        ctlByte (((s.svlPort p.val).lane i.val).hear b).2.2 0 = 0x1E) ∧
    (∃ (s : State) (p : Fin 16) (i : Fin 4) (b : BitVec 66) (n : Nat) (m : List Nat),
      ((s.svlPort p.val).lane i.val).st = 4 ∧ (s.svlPort p.val).state ≠ 0 ∧ i.val < s.portWidth p.val ∧
        s.nearLoop (s.firstLane p.val + i.val) = false ∧ s.farLoop (s.firstLane p.val + i.val) = false ∧
        ((s.svlPort p.val).lane i.val).wBad < 16 ∧ (((s.svlPort p.val).lane i.val).hear b).2.1 = 2 ∧
        ctlGood (((s.svlPort p.val).lane i.val).hear b).2.2 = true ∧
        ctlByte (((s.svlPort p.val).lane i.val).hear b).2.2 0 = 0x78 ∧
        m = [ctlByte (((s.svlPort p.val).lane i.val).hear b).2.2 1 % 4,
        ctlByte (((s.svlPort p.val).lane i.val).hear b).2.2 1 / 4 % 4,
        ctlField (((s.svlPort p.val).lane i.val).hear b).2.2 2 2,
        ctlField (((s.svlPort p.val).lane i.val).hear b).2.2 4 3, n] ∧ (s.svlPort p.val).state = 1 ∧
        (List.range (s.portWidth p.val)).any (fun j => ((s.svlPort p.val).lane j).st != 4 || s.laneInTest (s.firstLane p.val +
        j)) = true) ∧
    (∃ (s : State) (p : Fin 16) (i : Fin 4) (b : BitVec 66) (n : Nat) (m : List Nat),
      ((s.svlPort p.val).lane i.val).st = 4 ∧ (s.svlPort p.val).state ≠ 0 ∧ i.val < s.portWidth p.val ∧
        s.nearLoop (s.firstLane p.val + i.val) = false ∧ s.farLoop (s.firstLane p.val + i.val) = false ∧
        ((s.svlPort p.val).lane i.val).wBad < 16 ∧ (((s.svlPort p.val).lane i.val).hear b).2.1 = 2 ∧
        ctlGood (((s.svlPort p.val).lane i.val).hear b).2.2 = true ∧
        ctlByte (((s.svlPort p.val).lane i.val).hear b).2.2 0 = 0x78 ∧
        m = [ctlByte (((s.svlPort p.val).lane i.val).hear b).2.2 1 % 4,
        ctlByte (((s.svlPort p.val).lane i.val).hear b).2.2 1 / 4 % 4,
        ctlField (((s.svlPort p.val).lane i.val).hear b).2.2 2 2,
        ctlField (((s.svlPort p.val).lane i.val).hear b).2.2 4 3, n] ∧ (s.svlPort p.val).state = 2 ∧
        (((s.svlPort p.val).setLane i.val { ((s.svlPort p.val).lane i.val) with marker := some m }).markers (s.portWidth p.val)).filter (fun ms => ms.all (fun z => mkField z 2 == mkField m 2)) =
        none) ∧
    (∃ (s : State) (p : Fin 16) (i : Fin 4) (b : BitVec 66) (n : Nat) (m : List Nat) (ms : List (List Nat)),
      ((s.svlPort p.val).lane i.val).st = 4 ∧ (s.svlPort p.val).state ≠ 0 ∧ i.val < s.portWidth p.val ∧
        s.nearLoop (s.firstLane p.val + i.val) = false ∧ s.farLoop (s.firstLane p.val + i.val) = false ∧
        ((s.svlPort p.val).lane i.val).wBad < 16 ∧ (((s.svlPort p.val).lane i.val).hear b).2.1 = 2 ∧
        ctlGood (((s.svlPort p.val).lane i.val).hear b).2.2 = true ∧
        ctlByte (((s.svlPort p.val).lane i.val).hear b).2.2 0 = 0x78 ∧
        m = [ctlByte (((s.svlPort p.val).lane i.val).hear b).2.2 1 % 4,
        ctlByte (((s.svlPort p.val).lane i.val).hear b).2.2 1 / 4 % 4,
        ctlField (((s.svlPort p.val).lane i.val).hear b).2.2 2 2,
        ctlField (((s.svlPort p.val).lane i.val).hear b).2.2 4 3, n] ∧ (s.svlPort p.val).state = 2 ∧
        (((s.svlPort p.val).setLane i.val { ((s.svlPort p.val).lane i.val) with marker := some m }).markers (s.portWidth p.val)).filter (fun ms => ms.all (fun z => mkField z 2 == mkField m 2)) =
        some ms ∧ markerFault (s.portWidth p.val) ms ≠ none) ∧
    (∃ (s : State) (p : Fin 16) (i : Fin 4) (b : BitVec 66) (n : Nat) (m : List Nat) (ms : List (List Nat)),
      ((s.svlPort p.val).lane i.val).st = 4 ∧ (s.svlPort p.val).state ≠ 0 ∧ i.val < s.portWidth p.val ∧
        s.nearLoop (s.firstLane p.val + i.val) = false ∧ s.farLoop (s.firstLane p.val + i.val) = false ∧
        ((s.svlPort p.val).lane i.val).wBad < 16 ∧ (((s.svlPort p.val).lane i.val).hear b).2.1 = 2 ∧
        ctlGood (((s.svlPort p.val).lane i.val).hear b).2.2 = true ∧
        ctlByte (((s.svlPort p.val).lane i.val).hear b).2.2 0 = 0x78 ∧
        m = [ctlByte (((s.svlPort p.val).lane i.val).hear b).2.2 1 % 4,
        ctlByte (((s.svlPort p.val).lane i.val).hear b).2.2 1 / 4 % 4,
        ctlField (((s.svlPort p.val).lane i.val).hear b).2.2 2 2,
        ctlField (((s.svlPort p.val).lane i.val).hear b).2.2 4 3, n] ∧ (s.svlPort p.val).state = 2 ∧
        (((s.svlPort p.val).setLane i.val { ((s.svlPort p.val).lane i.val) with marker := some m }).markers (s.portWidth p.val)).filter (fun ms => ms.all (fun z => mkField z 2 == mkField m 2)) =
        some ms ∧ markerFault (s.portWidth p.val) ms = none ∧
        (s.svlPort p.val).alignCount ≠ some ((mkField m 2 + 65535) % 65536)) ∧
    (∃ (s : State) (p : Fin 16) (i : Fin 4) (b : BitVec 66) (n : Nat) (m : List Nat) (ms : List (List Nat)),
      ((s.svlPort p.val).lane i.val).st = 4 ∧ (s.svlPort p.val).state ≠ 0 ∧ i.val < s.portWidth p.val ∧
        s.nearLoop (s.firstLane p.val + i.val) = false ∧ s.farLoop (s.firstLane p.val + i.val) = false ∧
        ((s.svlPort p.val).lane i.val).wBad < 16 ∧ (((s.svlPort p.val).lane i.val).hear b).2.1 = 2 ∧
        ctlGood (((s.svlPort p.val).lane i.val).hear b).2.2 = true ∧
        ctlByte (((s.svlPort p.val).lane i.val).hear b).2.2 0 = 0x78 ∧
        m = [ctlByte (((s.svlPort p.val).lane i.val).hear b).2.2 1 % 4,
        ctlByte (((s.svlPort p.val).lane i.val).hear b).2.2 1 / 4 % 4,
        ctlField (((s.svlPort p.val).lane i.val).hear b).2.2 2 2,
        ctlField (((s.svlPort p.val).lane i.val).hear b).2.2 4 3, n] ∧ (s.svlPort p.val).state = 2 ∧
        (((s.svlPort p.val).setLane i.val { ((s.svlPort p.val).lane i.val) with marker := some m }).markers (s.portWidth p.val)).filter (fun ms => ms.all (fun z => mkField z 2 == mkField m 2)) =
        some ms ∧ markerFault (s.portWidth p.val) ms = none ∧
        (s.svlPort p.val).alignCount = some ((mkField m 2 + 65535) % 65536)) ∧
    (∃ (s : State) (p : Fin 16) (i : Fin 4) (b : BitVec 66) (n : Nat) (m : List Nat),
      ((s.svlPort p.val).lane i.val).st = 4 ∧ (s.svlPort p.val).state ≠ 0 ∧ i.val < s.portWidth p.val ∧
        s.nearLoop (s.firstLane p.val + i.val) = false ∧ s.farLoop (s.firstLane p.val + i.val) = false ∧
        ((s.svlPort p.val).lane i.val).wBad < 16 ∧ (((s.svlPort p.val).lane i.val).hear b).2.1 = 2 ∧
        ctlGood (((s.svlPort p.val).lane i.val).hear b).2.2 = true ∧
        ctlByte (((s.svlPort p.val).lane i.val).hear b).2.2 0 = 0x78 ∧
        m = [ctlByte (((s.svlPort p.val).lane i.val).hear b).2.2 1 % 4,
        ctlByte (((s.svlPort p.val).lane i.val).hear b).2.2 1 / 4 % 4,
        ctlField (((s.svlPort p.val).lane i.val).hear b).2.2 2 2,
        ctlField (((s.svlPort p.val).lane i.val).hear b).2.2 4 3, n] ∧ (s.svlPort p.val).state = 3 ∧
        mkField m 0 ≠ ((s.svlPort p.val).lane i.val).logical ∧ s.count (C.SVL_LOCK_LOSS p.val) < 0xFFFFFFFE) ∧
    (∃ (s : State) (p : Fin 16) (i : Fin 4) (b : BitVec 66) (n : Nat) (m : List Nat) (ms : List (List Nat)),
      ((s.svlPort p.val).lane i.val).st = 4 ∧ (s.svlPort p.val).state ≠ 0 ∧ i.val < s.portWidth p.val ∧
        s.nearLoop (s.firstLane p.val + i.val) = false ∧ s.farLoop (s.firstLane p.val + i.val) = false ∧
        ((s.svlPort p.val).lane i.val).wBad < 16 ∧ (((s.svlPort p.val).lane i.val).hear b).2.1 = 2 ∧
        ctlGood (((s.svlPort p.val).lane i.val).hear b).2.2 = true ∧
        ctlByte (((s.svlPort p.val).lane i.val).hear b).2.2 0 = 0x78 ∧
        m = [ctlByte (((s.svlPort p.val).lane i.val).hear b).2.2 1 % 4,
        ctlByte (((s.svlPort p.val).lane i.val).hear b).2.2 1 / 4 % 4,
        ctlField (((s.svlPort p.val).lane i.val).hear b).2.2 2 2,
        ctlField (((s.svlPort p.val).lane i.val).hear b).2.2 4 3, n] ∧ (s.svlPort p.val).state = 3 ∧
        mkField m 0 = ((s.svlPort p.val).lane i.val).logical ∧
        (((s.svlPort p.val).setLane i.val { ((s.svlPort p.val).lane i.val) with marker := some m }).markers (s.portWidth p.val)).filter (fun ms => ms.all (fun z => mkField z 2 == mkField m 2)) =
        some ms ∧ (List.range (s.portWidth p.val)).any (fun j => mkField ((ms[j]?).getD []) 4 - earliest ms != ((s.svlPort p.val).lane j).skew) =
        true ∧ s.count (C.SVL_LOCK_LOSS p.val) < 0xFFFFFFFE) ∧
    (∃ (s : State) (p : Fin 16) (i : Fin 4) (b : BitVec 66) (n : Nat) (m : List Nat),
      ((s.svlPort p.val).lane i.val).st = 4 ∧ (s.svlPort p.val).state ≠ 0 ∧ i.val < s.portWidth p.val ∧
        s.nearLoop (s.firstLane p.val + i.val) = false ∧ s.farLoop (s.firstLane p.val + i.val) = false ∧
        ((s.svlPort p.val).lane i.val).wBad < 16 ∧ (((s.svlPort p.val).lane i.val).hear b).2.1 = 2 ∧
        ctlGood (((s.svlPort p.val).lane i.val).hear b).2.2 = true ∧
        ctlByte (((s.svlPort p.val).lane i.val).hear b).2.2 0 = 0x78 ∧
        m = [ctlByte (((s.svlPort p.val).lane i.val).hear b).2.2 1 % 4,
        ctlByte (((s.svlPort p.val).lane i.val).hear b).2.2 1 / 4 % 4,
        ctlField (((s.svlPort p.val).lane i.val).hear b).2.2 2 2,
        ctlField (((s.svlPort p.val).lane i.val).hear b).2.2 4 3, n] ∧ (s.svlPort p.val).state = 3 ∧
        mkField m 0 = ((s.svlPort p.val).lane i.val).logical ∧
        ((((s.svlPort p.val).setLane i.val { ((s.svlPort p.val).lane i.val) with marker := some m }).markers (s.portWidth p.val)).filter (fun ms => ms.all (fun z => mkField z 2 == mkField m 2))).all (fun ms => (List.range (s.portWidth p.val)).all (fun j => mkField ((ms[j]?).getD []) 4 - earliest ms == ((s.svlPort p.val).lane j).skew)) =
        true) ∧
    (∃ (s : State) (p : Fin 16),
      (s.svlPort p.val).state = 2 ∧ s.count (C.SVL_DESKEW_FAIL p.val) < 0xFFFFFFFE) ∧
    (∃ (s : State) (p : Fin 16),
      (s.svlPort p.val).state ≠ 2) ∧
    (∃ (s : State) (p : Fin 16),
      s.transmits p.val = true) ∧
    (∃ (s : State) (p : Fin 16),
      s.transmits p.val = true ∧ (s.svlPort p.val).slot % 64 = 63 ∧ (s.svlPort p.val).pend = [] ∧
        s.portWidth p.val = 1 ∧ s.laneDiscards (s.firstLane p.val) = false ∧ s.nearLoop (s.firstLane p.val) = false ∧
        (s.svlPort p.val).used = 32) ∧
    (∃ (s : State) (p : Fin 16),
      s.transmits p.val = false) ∧
    (∃ (s : State) (p : Fin 16) (g q : Nat) (y : Sym),
      s.portOf p.val = some (g, q) ∧ (s.vg g).outg = some y ∧ y.sent.contains q = false) ∧
    (∃ (s : State) (p : Fin 16) (g q : Nat),
      s.portOf p.val = some (g, q) ∧ ((s.vg g).outg.all (fun y => y.sent.contains q)) = true) ∧
    (∃ (s : State) (p : Fin 16) (g q : Nat) (y : Sym),
      s.portOf p.val = some (g, q) ∧ (s.vg g).inc = some y ∧ y.cut.contains q = false) ∧
    (∃ (s : State) (p : Fin 16) (g q : Nat) (y : Sym) (x : SvlPort) (r : RxSym),
      s.portOf p.val = some (g, q) ∧ (s.vg g).inc = some y ∧ y.cut.contains q = false ∧
        x = s.svlPort ((s.vg g).port q).port ∧ r = x.rxOf y.tick ∧ x.state = 3 ∧ r.late = false ∧
        (s.vg g).rxComplete q (s.portWidth ((s.vg g).port q).port) r = true) ∧
    (∃ (s : State) (p : Fin 16) (g q : Nat) (y : Sym) (x : SvlPort) (r : RxSym),
      s.portOf p.val = some (g, q) ∧ (s.vg g).inc = some y ∧ y.cut.contains q = false ∧
        x = s.svlPort ((s.vg g).port q).port ∧ r = x.rxOf y.tick ∧
        (x.state ≠ 3 ∨ r.late = true ∨ (s.vg g).rxComplete q (s.portWidth ((s.vg g).port q).port) r = false) ∧
        s.count (C.VS_PORT_LATE ((s.vg g).port q).port) < 0xFFFFFFFE) ∧
    (∃ (s : State) (p : Fin 16) (g q : Nat),
      s.portOf p.val = some (g, q) ∧ ((s.vg g).inc.all (fun y => y.cut.contains q)) = true) ∧
    (∃ (s : State) (p : Fin 16),
      s.portOf p.val = none) :=
  ⟨⟨ready 2, pk 2 3 [0x04000001], by decide +kernel⟩,
   ⟨ready 2, pk 2 3 [0x04000001], by decide +kernel⟩,
   ⟨ready 2, pk 2 3 [0x04001201], by decide +kernel⟩,
   ⟨(ready 2).setSvlPort 3 { state := 3 }, pk 2 3 [0x04000000], by decide +kernel⟩,
   ⟨ready 2, pk 2 3 [0xC0000001], by decide +kernel⟩,
   ⟨ready 2, pk 2 16 [0x04000001], by decide +kernel⟩,
   ⟨base, 3, 0x04000000, by decide +kernel⟩,
   ⟨base, 3, 0x04001200, by decide +kernel⟩,
   ⟨base.setSvlPort 3 { state := 3 }, 3, 0x04000000, by decide +kernel⟩,
   ⟨base.setSvlPort 3 { state := 3 }, 3, 0x04001000, by decide +kernel⟩,
   ⟨{ base with boot := { base.boot with mode := 2 } }, 3, 0x04001000, by decide +kernel⟩,
   ⟨base, 3, 0, 5, [], 1, by decide +kernel⟩,
   ⟨base, 3, 0, 0, 1, by decide +kernel⟩,
   ⟨(base.setSvlPort 3 { state := 3, lanes := [(0, { st := 4 })] }), 3, 0,
     (scramble 0 (mkBlock 2 (ofLe (ctlBlock 0x1E [0, 0, 0, 0, 0, 0])))).2, by decide +kernel⟩,
   ⟨(base.setSvlPort 3 { state := 3, lanes := [(0, { st := 4 })] }), 3, 0, mkBlock 2 5, by decide +kernel⟩,
   ⟨(base.setFld (F.LANE_CFG_LOOP 0) 3).setSvlPort 3 { state := 3, lanes := [(0, { st := 4 })] }, 3, 0, mkBlock 2 5,
     by decide +kernel⟩,
   ⟨(base.setFld (F.LANE_CFG_LOOP 0) 1).setSvlPort 3 { state := 3, lanes := [(0, { st := 4 })] }, 3, 0, mkBlock 2 5,
     by decide +kernel⟩,
   ⟨(base.setSvlPort 3 { state := 3, lanes := [(0, { st := 4 })] }), 3, 0,
     (scramble 0 (mkBlock 2 (ofLe (ctlBlock 0x1E [0, 0, 0, 0, 0, 0])))).2, by decide +kernel⟩,
   ⟨(base.setSvlPort 3 { state := 3, lanes := [(0, { st := 4 })] }), 3, 0, mkBlock 2 5, by decide +kernel⟩,
   ⟨(base.setFld (F.LANE_CFG_LOOP 0) 3).setSvlPort 3 { state := 3, lanes := [(0, { st := 4 })] }, 3, 0, mkBlock 2 5,
     by decide +kernel⟩,
   ⟨(base.setFld (F.LANE_CFG_LOOP 0) 1).setSvlPort 3 { state := 3, lanes := [(0, { st := 4 })] }, 3, 0, mkBlock 2 5,
     by decide +kernel⟩,
   ⟨(base.setSvlPort 3 { state := 3, lanes := [(0, { st := 4 })] }), 3, 0,
     (scramble 0 (mkBlock 2 (ofLe (ctlBlock 0x1E [0, 0, 0, 0, 0, 0])))).2, by decide +kernel⟩,
   ⟨(base.setSvlPort 3 { state := 3, lanes := [(0, { st := 4 })] }), 3, 0, mkBlock 2 5, by decide +kernel⟩,
   ⟨(base.setFld (F.LANE_CFG_LOOP 0) 3).setSvlPort 3 { state := 3, lanes := [(0, { st := 4 })] }, 3, 0, mkBlock 2 5,
     by decide +kernel⟩,
   ⟨(base.setFld (F.LANE_CFG_LOOP 0) 1).setSvlPort 3 { state := 3, lanes := [(0, { st := 4 })] }, 3, 0, mkBlock 2 5,
     by decide +kernel⟩,
   ⟨(base.setSvlPort 3 { state := 3, lanes := [(0, { st := 4 })] }), 3, 0,
     (scramble 0 (mkBlock 2 (ofLe (ctlBlock 0x33 [0,0,0,0,0,0])))).2, by decide +kernel⟩,
   ⟨(base.setSvlPort 3 { state := 3, lanes := [(0, { st := 4 })] }), 3, 0, mkBlock 2 5, by decide +kernel⟩,
   ⟨(base.setFld (F.LANE_CFG_LOOP 0) 3).setSvlPort 3 { state := 3, lanes := [(0, { st := 4 })] }, 3, 0, mkBlock 2 5,
     by decide +kernel⟩,
   ⟨(base.setFld (F.LANE_CFG_LOOP 0) 1).setSvlPort 3 { state := 3, lanes := [(0, { st := 4 })] }, 3, 0, mkBlock 2 5,
     by decide +kernel⟩,
   ⟨(base.setSvlPort 3 { state := 3, lanes := [(0, { st := 4 })] }), 3, 0,
     (scramble 0 (mkBlock 2 (ofLe (ctlBlock 0x1E [0, 0, 0, 0, 0, 0])))).2, 7, by decide +kernel⟩,
   ⟨(base.setSvlPort 3 { state := 3, lanes := [(0, { st := 4 })] }), 3, 0, mkBlock 2 5, 7, by decide +kernel⟩,
   ⟨(base.setFld (F.LANE_CFG_LOOP 0) 3).setSvlPort 3 { state := 3, lanes := [(0, { st := 4 })] }, 3, 0, mkBlock 2 5,
     7, by decide +kernel⟩,
   ⟨(base.setFld (F.LANE_CFG_LOOP 0) 1).setSvlPort 3 { state := 3, lanes := [(0, { st := 4 })] }, 3, 0, mkBlock 2 5,
     7, by decide +kernel⟩,
   ⟨(base.setFld (F.LANE_CFG_LOOP 0) 0).setSvlPort 3 { state := 3, lanes := [(0, { st := 4 })] }, 3, 0,
     [mkBlock 1 5, mkBlock 1 6], by decide +kernel⟩,
   ⟨(base.setFld (F.LANE_CFG_LOOP 0) 3).setSvlPort 3 { state := 3, lanes := [(0, { st := 4 })] }, 3, 0,
     [mkBlock 1 5, mkBlock 1 6], by decide +kernel⟩,
   ⟨(base.setFld (F.LANE_CFG_LOOP 0) 2).setSvlPort 3 { state := 3, lanes := [(0, { st := 4 })] }, 3, 0,
     [mkBlock 1 5, mkBlock 1 6], by decide +kernel⟩,
   ⟨(base.setSvlPort 3 { state := 2, lanes := [(0, { st := 4 })] }), 3, 0, mkBlock 1 5, by decide +kernel⟩,
   ⟨(base.setSvlPort 3 { state := 3, lanes := [(0, { st := 4 })] }), 3, 0, mkBlock 1 5, by decide +kernel⟩,
   ⟨((base.setSvlPort 3 { state := 3, cur := some 9, lanes := [(0, { st := 4, part := List.replicate 8 0 })] }).setVg 1 { state := 3, profile := 2, lines := 4, mds := 30, ports := [⟨3, 0, 4⟩], tgs := [{ eng := 5, tones := 8 }] }),
     3, 0, (scramble 0 (mkBlock 1 5)).2, 5 * 2 ^ 512, 9, 1, 0, 0, { tick := 9 }, by decide +kernel⟩,
   ⟨((base.setSvlPort 3 { state := 3, cur := some 9, lanes := [(0, { st := 4, part := List.replicate 8 0 })], rx := [{ tick := 9, gotS := [(0, 9)] }] }).setVg 1 { state := 3, profile := 2, lines := 4, mds := 30, fbTiles := 2, ports := [⟨3, 0, 4⟩], tgs := [{ eng := 5, tones := 8 }] }),
     3, 0, (scramble 0 (mkBlock 1 5)).2, 5 * 2 ^ 512, 9, 1, 0, 0, { tick := 9, gotS := [(0, 9)] }, by decide +kernel⟩,
   ⟨((base.setSvlPort 3 { state := 3, cur := some 9, lanes := [(0, { st := 4, part := List.replicate 8 0 })], rx := [{ tick := 9, closed := true }] }).setVg 1 { state := 3, profile := 2, lines := 4, mds := 30, ports := [⟨3, 0, 4⟩], tgs := [{ eng := 5, tones := 8 }] }),
     3, 0, (scramble 0 (mkBlock 1 5)).2, 5 * 2 ^ 512, 9, 1, 0, 0, { tick := 9, closed := true }, by decide +kernel⟩,
   ⟨((base.setSvlPort 3 { state := 3, cur := some 9, lanes := [(0, { st := 4, part := List.replicate 8 0 })], rx := [{ tick := 9, ended := 1 }] }).setVg 1 { state := 3, profile := 2, lines := 4, mds := 30, ports := [⟨3, 0, 4⟩], tgs := [{ eng := 5, tones := 8 }] }),
     3, 0, (scramble 0 (mkBlock 1 5)).2, 5 * 2 ^ 512, 9, 1, 0, 0, { tick := 9, ended := 1 }, by decide +kernel⟩,
   ⟨((base.setSvlPort 3 { state := 3, cur := some 9, lanes := [(0, { st := 4, part := List.replicate 8 0 })], rx := [{ tick := 9, gotS := [(0, 1024)] }] }).setVg 1 { state := 3, profile := 2, lines := 4, mds := 30, ports := [⟨3, 0, 4⟩], tgs := [{ eng := 5, tones := 8 }] }),
     3, 0, (scramble 0 (mkBlock 1 5)).2, 5 * 2 ^ 512, 9, 1, 0, 0, { tick := 9, gotS := [(0, 1024)] },
     by decide +kernel⟩,
   ⟨(base.setSvlPort 3 { state := 3, ignore := true, lanes := [(0, { st := 4, part := List.replicate 8 0 })] }), 3,
     0, (scramble 0 (mkBlock 1 5)).2, 5 * 2 ^ 512, by decide +kernel⟩,
   ⟨((base.setSvlPort 3 { state := 3, lanes := [(0, { st := 4, part := List.replicate 8 0 })] }).setVg 1 { state := 3, profile := 2, lines := 4, mds := 30, ports := [⟨3, 0, 4⟩], tgs := [{ eng := 5, tones := 8 }] }),
     3, 0, (scramble 0 (mkBlock 1 5)).2, 5 * 2 ^ 512, 1, 0, by decide +kernel⟩,
   ⟨(base.setSvlPort 3 { state := 3, lanes := [(0, { st := 4, part := List.replicate 8 0 })] }), 3, 0,
     (scramble 0 (mkBlock 1 5)).2, 5 * 2 ^ 512, by decide +kernel⟩,
   ⟨(base.setSvlPort 3 { state := 2, lanes := [(0, { st := 4 })] }), 3, 0,
     (scramble 0 (mkBlock 2 (ofLe (ctlBlock 0x33 [1, 0, 9, 0, 0, 0])))).2, 1, 9, by decide +kernel⟩,
   ⟨((base.setSvlPort 3 { state := 3, lanes := [(0, { st := 4 })] }).setVg 1 { state := 3, profile := 2, lines := 4, mds := 30, inc := some { tick := 9, par := 0, engs := [5] }, ports := [⟨3, 0, 4⟩], tgs := [{ eng := 5, tones := 8 }] }),
     3, 0, (scramble 0 (mkBlock 2 (ofLe (ctlBlock 0x33 [1, 0, 9, 0, 0, 0])))).2, 1, 9, 9, 0, by decide +kernel⟩,
   ⟨((base.setSvlPort 3 { state := 3, lanes := [(0, { st := 4 })] }).setVg 1 { state := 3, profile := 2, lines := 4, mds := 30, inc := some { tick := 9, par := 0, engs := [5] }, ports := [⟨3, 0, 4⟩], tgs := [{ eng := 5, tones := 8 }] }),
     3, 0, (scramble 0 (mkBlock 2 (ofLe (ctlBlock 0x33 [1, 0, 8, 0, 0, 0])))).2, 1, 8, 1, 0, by decide +kernel⟩,
   ⟨((base.setSvlPort 3 { state := 3, lanes := [(0, { st := 4 })] }).setVg 1 { state := 1, profile := 2, lines := 4, mds := 30, inc := some { tick := 9, par := 0, engs := [5] }, ports := [⟨3, 0, 4⟩], tgs := [{ eng := 5, tones := 8 }] }),
     3, 0, (scramble 0 (mkBlock 2 (ofLe (ctlBlock 0x33 [1, 0, 9, 0, 0, 0])))).2, 1, 9, 1, 0, by decide +kernel⟩,
   ⟨(base.setSvlPort 3 { state := 3, lanes := [(0, { st := 4 })] }), 3, 0,
     (scramble 0 (mkBlock 2 (ofLe (ctlBlock 0x33 [1, 0, 9, 0, 0, 0])))).2, 1, 9, by decide +kernel⟩,
   ⟨(base.setSvlPort 3 { state := 3, start := some (1, 9, 2), lanes := [(0, { st := 4 })] }), 3, 0,
     (scramble 0 (mkBlock 2 (ofLe (ctlBlock 0x33 [1, 0, 9, 0, 0, 0])))).2, 1, 9, 2, by decide +kernel⟩,
   ⟨(base.setSvlPort 3 { state := 3, lanes := [(0, { st := 4, part := [7] })] }), 3, 0,
     (scramble 0 (mkBlock 2 (ofLe (ctlBlock 0x33 [1, 0, 9, 0, 0, 0])))).2, by decide +kernel⟩,
   ⟨(base.setSvlPort 3 { state := 3, lanes := [(0, { st := 4 })] }), 3, 0,
     (scramble 0 (mkBlock 2 (ofLe (ctlBlock 0x33 [1, 0, 9, 0, 0, 0])))).2, by decide +kernel⟩,
   ⟨((base.setSvlPort 3 { state := 3, cur := some 9, lanes := [(0, { st := 4 })] }).setVg 1 { state := 3, profile := 2, lines := 4, mds := 30, inc := some { tick := 9, par := 0, engs := [5] }, ports := [⟨3, 0, 4⟩], tgs := [{ eng := 5, tones := 8 }] }),
     3, 0, (scramble 0 (mkBlock 2 (ofLe (ctlBlock 0x4B [0, 0, 9, 0, 0, 0])))).2, 9, 1, 0, 0, { tick := 9 },
     by decide +kernel⟩,
   ⟨((base.setSvlPort 3 { state := 3, cur := some 9, rx := [{ tick := 9, ended := 1 }], lanes := [(0, { st := 4 })] }).setVg 1 { state := 3, profile := 2, lines := 4, mds := 30, inc := some { tick := 9, par := 0, engs := [5] }, ports := [⟨3, 0, 4⟩], tgs := [{ eng := 5, tones := 8 }] }),
     3, 0, (scramble 0 (mkBlock 2 (ofLe (ctlBlock 0x4B [0, 0, 9, 0, 0, 0])))).2, 9, 1, 0, 0,
     { tick := 9, ended := 1 }, by decide +kernel⟩,
   ⟨(base.setSvlPort 3 { state := 3, lanes := [(0, { st := 4 })] }), 3, 0,
     (scramble 0 (mkBlock 2 (ofLe (ctlBlock 0x4B [0, 0, 9, 0, 0, 0])))).2, by decide +kernel⟩,
   ⟨((base.setSvlPort 3 { state := 3, lanes := [(0, { st := 4 })] })).setFld (F.SVL_PORT_CFG_LINES 3) 4, 3, 0,
     (scramble 0 (mkBlock 2 (ofLe (ctlBlock 0x55 [2, 0, 35, 40, 5, 0])))).2, 2, by decide +kernel⟩,
   ⟨(base.setSvlPort 3 { state := 3, lanes := [(0, { st := 4 })] }), 3, 0,
     (scramble 0 (mkBlock 2 (ofLe (ctlBlock 0x55 [2, 0, 35, 40, 5, 0])))).2, by decide +kernel⟩,
   ⟨((base.setSvlPort 3 { state := 2, lanes := [(0, { st := 4 })] })).setFld (F.SVL_PORT_CFG_LINES 3) 4, 3, 0,
     (scramble 0 (mkBlock 2 (ofLe (ctlBlock 0x55 [2, 0, 35, 40, 5, 0])))).2, by decide +kernel⟩,
   ⟨(base.setSvlPort 3 { state := 3, lanes := [(0, { st := 4 })] }), 3, 0,
     (scramble 0 (mkBlock 2 (ofLe (ctlBlock 0x1E [0, 0, 0, 0, 0, 0])))).2, by decide +kernel⟩,
   ⟨(({ base with regs := [(R.SVL_PORT_CFG 3, 0x00000100)] }).setSvlPort 3 { state := 1, lanes := [(0, { st := 4 })] }),
     3, 0, (scramble 0 (mkBlock 2 (ofLe (ctlBlock 0x78 [0, 0, 8, 0, 0, 99])))).2, 5, [0, 0, 8, 99, 5],
     by decide +kernel⟩,
   ⟨(({ base with regs := [(R.SVL_PORT_CFG 3, 0x00000100)] }).setSvlPort 3 { state := 2, lanes := [(0, { st := 4 })] }),
     3, 0, (scramble 0 (mkBlock 2 (ofLe (ctlBlock 0x78 [0, 0, 8, 0, 0, 99])))).2, 5, [0, 0, 8, 99, 5],
     by decide +kernel⟩,
   ⟨(base.setSvlPort 3 { state := 2, alignCount := some 7, lanes := [(0, { st := 4 })] }), 3, 0,
     (scramble 0 (mkBlock 2 (ofLe (ctlBlock 0x78 [4, 0, 8, 0, 0, 99])))).2, 5, [0, 1, 8, 99, 5], [[0, 1, 8, 99, 5]],
     by decide +kernel⟩,
   ⟨(base.setSvlPort 3 { state := 2, lanes := [(0, { st := 4 })] }), 3, 0,
     (scramble 0 (mkBlock 2 (ofLe (ctlBlock 0x78 [0, 0, 8, 0, 0, 99])))).2, 5, [0, 0, 8, 99, 5], [[0, 0, 8, 99, 5]],
     by decide +kernel⟩,
   ⟨(base.setSvlPort 3 { state := 2, alignCount := some 7, lanes := [(0, { st := 4 })] }), 3, 0,
     (scramble 0 (mkBlock 2 (ofLe (ctlBlock 0x78 [0, 0, 8, 0, 0, 99])))).2, 5, [0, 0, 8, 99, 5], [[0, 0, 8, 99, 5]],
     by decide +kernel⟩,
   ⟨(base.setSvlPort 3 { state := 3, lanes := [(0, { st := 4, logical := 1 })] }), 3, 0,
     (scramble 0 (mkBlock 2 (ofLe (ctlBlock 0x78 [0, 0, 8, 0, 0, 99])))).2, 5, [0, 0, 8, 99, 5], by decide +kernel⟩,
   ⟨(base.setSvlPort 3 { state := 3, lanes := [(0, { st := 4, skew := 1 })] }), 3, 0,
     (scramble 0 (mkBlock 2 (ofLe (ctlBlock 0x78 [0, 0, 8, 0, 0, 99])))).2, 5, [0, 0, 8, 99, 5], [[0, 0, 8, 99, 5]],
     by decide +kernel⟩,
   ⟨(base.setSvlPort 3 { state := 3, lanes := [(0, { st := 4 })] }), 3, 0,
     (scramble 0 (mkBlock 2 (ofLe (ctlBlock 0x78 [0, 0, 8, 0, 0, 99])))).2, 5, [0, 0, 8, 99, 5], by decide +kernel⟩,
   ⟨(base.setSvlPort 3 { state := 2, lanes := [(0, { st := 4 })] }), 3, by decide +kernel⟩,
   ⟨base, 3, by decide +kernel⟩,
   ⟨(base.setSvlPort 3 { state := 1, slot := 62, markerNo := 65535 }), 3, by decide +kernel⟩,
   ⟨(base.setSvlPort 3 { state := 1, slot := 63, markerNo := 65535 }), 3, by decide +kernel⟩,
   ⟨base, 3, by decide +kernel⟩,
   ⟨(base.setVg 1 { state := 3, profile := 2, lines := 4, mds := 30, outg := some { tick := 9, par := 0, engs := [5] }, ports := [⟨3, 0, 4⟩], tgs := [{ eng := 5, tones := 8 }] }),
     3, 1, 0, { tick := 9, par := 0, engs := [5] }, by decide +kernel⟩,
   ⟨(base.setVg 1 { state := 3, profile := 2, lines := 4, mds := 30, ports := [⟨3, 0, 4⟩], tgs := [{ eng := 5, tones := 8 }] }),
     3, 1, 0, by decide +kernel⟩,
   ⟨(base.setVg 1 { state := 3, profile := 2, lines := 4, mds := 30, inc := some { tick := 9, par := 0, engs := [5] }, ports := [⟨3, 0, 4⟩], tgs := [{ eng := 5, tones := 8 }] }),
     3, 1, 0, { tick := 9, par := 0, engs := [5] }, by decide +kernel⟩,
   ⟨((base.setSvlPort 3 { state := 3, rx := [{ tick := 9, opened := true, gotS := [(0, 2)] }] }).setVg 1 { state := 3, profile := 2, lines := 4, mds := 30, inc := some { tick := 9, par := 0, engs := [5] }, ports := [⟨3, 0, 4⟩], tgs := [{ eng := 5, tones := 8 }] }),
     3, 1, 0, { tick := 9, par := 0, engs := [5] },
     { state := 3, rx := [{ tick := 9, opened := true, gotS := [(0, 2)] }] },
     { tick := 9, opened := true, gotS := [(0, 2)] }, by decide +kernel⟩,
   ⟨(base.setVg 1 { state := 3, profile := 2, lines := 4, mds := 30, inc := some { tick := 9, par := 0, engs := [5] }, ports := [⟨3, 0, 4⟩], tgs := [{ eng := 5, tones := 8 }] }),
     3, 1, 0, { tick := 9, par := 0, engs := [5] }, {}, { tick := 9 }, by decide +kernel⟩,
   ⟨(base.setVg 1 { state := 3, profile := 2, lines := 4, mds := 30, ports := [⟨3, 0, 4⟩], tgs := [{ eng := 5, tones := 8 }] }),
     3, 1, 0, by decide +kernel⟩,
   ⟨base, 3, by decide +kernel⟩⟩

theorem wit_LaneTestsSleepAndEqualisersAct :
    (∃ (s : State) (p : Pkt),
      Taken 0x0401 p s ∧ p.length = 3 ∧ p.target.toNat < 44 ∧ p.w 0 < s.rateSets p.target.toNat ∧
        bitsOf (p.w 1) 14 11 + bitsOf (p.w 1) 10 5 + bitsOf (p.w 1) 4 0 ≤ 63) ∧
    (∃ (s : State) (p : Pkt),
      Taken 0x0401 p s ∧ p.length = 3 ∧ p.target.toNat < 44 ∧ p.w 0 < s.rateSets p.target.toNat ∧
        63 < bitsOf (p.w 1) 14 11 + bitsOf (p.w 1) 10 5 + bitsOf (p.w 1) 4 0) ∧
    (∃ (s : State) (p : Pkt),
      Taken 0x0401 p s ∧ p.length = 3 ∧ p.target.toNat < 44 ∧ s.rateSets p.target.toNat ≤ p.w 0) ∧
    (∃ (s : State) (p : Pkt),
      Taken 0x0401 p s ∧ p.length = 3 ∧ 44 ≤ p.target.toNat) ∧
    (∃ (s : State) (p : Pkt),
      Taken 0x0402 p s ∧ p.length = 5 ∧ 44 ≤ p.target.toNat) ∧
    (∃ (s : State) (p : Pkt),
      Taken 0x0403 p s ∧ p.length = 1 ∧ 44 ≤ p.target.toNat) ∧
    (∃ (s : State) (l : Fin 44) (r : Fin 3) (v : Word),
      (16 ≤ l.val ∨ r.val = 0) ∧ bitsOf v.toNat 14 11 + bitsOf v.toNat 10 5 + bitsOf v.toNat 4 0 ≤ 63) ∧
    (∃ (s : State) (l : Fin 44) (r : Fin 3) (v : Word),
      (16 ≤ l.val ∨ r.val = 0) ∧ 63 < bitsOf v.toNat 14 11 + bitsOf v.toNat 10 5 + bitsOf v.toNat 4 0) ∧
    (∃ (s : State) (l : Fin 44) (r : Fin 3) (v : Word),
      l.val < 16 ∧ r.val ≠ 0) ∧
    (∃ (s : State) (p : Pkt) (l cfg : Nat),
      Taken 0x0402 p s ∧ p.length = 5 ∧ l = p.target.toNat ∧ cfg = p.w 1 ∧ l < 44 ∧ p.w 0 ≤ 3 ∧
        s.loopOffered l (p.w 0) = true ∧ s.loopRefused l (p.w 0) = false ∧
        (cfg.testBit 0 = false ∨ s.testRefused l = false)) ∧
    (∃ (s : State) (p : Pkt) (l cfg : Nat),
      Taken 0x0402 p s ∧ p.length = 5 ∧ l = p.target.toNat ∧ cfg = p.w 1 ∧ l < 44 ∧ p.w 0 ≤ 3 ∧
        s.loopOffered l (p.w 0) = true ∧ s.loopRefused l (p.w 0) = false ∧
        (cfg.testBit 0 = false ∨ s.testRefused l = false) ∧ cfg.testBit 7 = true ∧ (p.w 4).testBit 31 = false ∧
        (s.lane l).injRun = false) ∧
    (∃ (s : State) (p : Pkt) (l cfg : Nat),
      Taken 0x0402 p s ∧ p.length = 5 ∧ l = p.target.toNat ∧ cfg = p.w 1 ∧ l < 44 ∧ p.w 0 ≤ 3 ∧
        s.loopOffered l (p.w 0) = true ∧ s.loopRefused l (p.w 0) = false ∧
        (cfg.testBit 0 = false ∨ s.testRefused l = false) ∧ (s.lane l).injRun = false ∧ (p.w 4).testBit 31 = true ∧
        ((s.wrRw (R.LANE_INJ l) (p.w 4)).injMode l) ≠ 0) ∧
    (∃ (s : State) (p : Pkt) (l cfg : Nat),
      Taken 0x0402 p s ∧ p.length = 5 ∧ l = p.target.toNat ∧ cfg = p.w 1 ∧ l < 44 ∧ p.w 0 ≤ 3 ∧
        s.loopOffered l (p.w 0) = true ∧ (s.loopRefused l (p.w 0) = true ∨ (cfg.testBit 0 = true ∧
        s.testRefused l = true))) ∧
    (∃ (s : State) (p : Pkt) (l cfg : Nat),
      Taken 0x0402 p s ∧ p.length = 5 ∧ l = p.target.toNat ∧ cfg = p.w 1 ∧ l < 44 ∧ p.w 0 ≤ 3 ∧
        s.loopOffered l (p.w 0) = false ∧ ¬ (40 ≤ l ∧ p.w 0 = 1)) ∧
    (∃ (s : State) (p : Pkt) (l cfg : Nat),
      Taken 0x0402 p s ∧ p.length = 5 ∧ l = p.target.toNat ∧ cfg = p.w 1 ∧ l < 44 ∧ p.w 0 ≤ 3 ∧
        s.loopOffered l (p.w 0) = false ∧ 40 ≤ l ∧ p.w 0 = 1) ∧
    (∃ (s : State) (p : Pkt),
      Taken 0x0402 p s ∧ p.length = 5 ∧ p.target.toNat < 44 ∧ 3 < p.w 0) ∧
    (∃ (s : State) (p : Pkt) (v : Nat),
      Taken 0x0403 p s ∧ p.length = 1 ∧ p.target.toNat < 44 ∧ leAt p.bytes 0 1 ≤ 1 ∧ leAt p.bytes 1 1 ≤ 1 ∧
        leAt p.bytes 2 1 ≤ 1 ∧ v = leAt p.bytes 0 1 + 2 * leAt p.bytes 1 1 + 4 * leAt p.bytes 2 1 ∧
        s.pwrRefused p.target.toNat v = false) ∧
    (∃ (s : State) (p : Pkt) (v : Nat),
      Taken 0x0403 p s ∧ p.length = 1 ∧ p.target.toNat < 44 ∧ leAt p.bytes 0 1 ≤ 1 ∧ leAt p.bytes 1 1 ≤ 1 ∧
        leAt p.bytes 2 1 ≤ 1 ∧ v = leAt p.bytes 0 1 + 2 * leAt p.bytes 1 1 + 4 * leAt p.bytes 2 1 ∧
        s.pwrRefused p.target.toNat v = true) ∧
    (∃ (s : State) (p : Pkt),
      Taken 0x0403 p s ∧ p.length = 1 ∧ p.target.toNat < 44 ∧
        (1 < leAt p.bytes 0 1 ∨ 1 < leAt p.bytes 1 1 ∨ 1 < leAt p.bytes 2 1)) ∧
    (∃ (s : State) (l : Fin 44) (loop : Fin 4),
      s.loopOffered l.val loop.val = true ∧ s.loopRefused l.val loop.val = false ∧
        s.fld (F.LANE_CFG_LOOP l.val) ≠ loop.val) ∧
    (∃ (s : State) (l : Fin 44) (loop : Fin 4),
      s.loopOffered l.val loop.val = true ∧ s.loopRefused l.val loop.val = false ∧
        s.fld (F.LANE_CFG_LOOP l.val) ≠ loop.val ∧ (s.lane l.val).patLock = true ∧
        s.count (C.LANE_PAT_LOCK_LOSS l.val) < 0xFFFFFFFE) ∧
    (∃ (s : State) (l : Fin 44) (loop : Fin 4),
      loop.val ≠ 0 ∧ s.loopOffered l.val loop.val = true ∧ s.loopRefused l.val loop.val = false) ∧
    (∃ (s : State) (l : Fin 44) (loop : Fin 4),
      (s.loopOffered l.val loop.val = false ∨ s.loopRefused l.val loop.val = true ∨
        s.fld (F.LANE_CFG_LOOP l.val) = loop.val)) ∧
    (∃ (s : State) (l : Fin 44) (on : Bool),
      (on = false ∨ s.testRefused l.val = false)) ∧
    (∃ (s : State) (l : Fin 44),
      s.testRefused l.val = true) ∧
    (∃ (s : State) (l : Fin 44),
      s.flag (F.LANE_PAT_CFG_CHK_EN l.val) = false) ∧
    (∃ (s : State) (l : Fin 44),
      s.flag (F.LANE_PAT_CFG_CHK_EN l.val) = true) ∧
    (∃ (s : State) (l : Fin 44) (w v : BitVec 64),
      s.nearLoop l.val = false ∧ s.farLoop l.val = false ∧ (s.lane l.val).patLock = false ∧ s.checking l.val = true ∧
        v = w ^^^ s.invMask l.val ^^^ (if 16 ≤ l.val ∧ l.val < 40 ∧
        s.flag (F.LANE_CFG_RX_INVERT l.val) = true then BitVec.allOnes 64 else 0) ∧ s.pattern l.val ≠ 6 ∧
        ((s.lane l.val).ref.map (patWord (s.pattern l.val))) = some v) ∧
    (∃ (s : State) (l : Fin 44) (w v : BitVec 64),
      s.nearLoop l.val = false ∧ s.farLoop l.val = false ∧ (s.lane l.val).patLock = false ∧ s.checking l.val = true ∧
        v = w ^^^ s.invMask l.val ^^^ (if 16 ≤ l.val ∧ l.val < 40 ∧
        s.flag (F.LANE_CFG_RX_INVERT l.val) = true then BitVec.allOnes 64 else 0) ∧ s.pattern l.val ≠ 6 ∧
        ((s.lane l.val).ref.map (patWord (s.pattern l.val))) ≠ some v) ∧
    (∃ (s : State) (l : Fin 44) (w v : BitVec 64) (k : Fin 64),
      s.nearLoop l.val = false ∧ s.farLoop l.val = false ∧ (s.lane l.val).patLock = false ∧ s.checking l.val = true ∧
        v = w ^^^ s.invMask l.val ^^^ (if 16 ≤ l.val ∧ l.val < 40 ∧
        s.flag (F.LANE_CFG_RX_INVERT l.val) = true then BitVec.allOnes 64 else 0) ∧ s.pattern l.val = 6 ∧
        (s.userPattern l.val).rotateLeft k.val = v) ∧
    (∃ (s : State) (l : Fin 44) (w v : BitVec 64),
      s.nearLoop l.val = false ∧ s.farLoop l.val = false ∧ (s.lane l.val).patLock = false ∧ s.checking l.val = true ∧
        v = w ^^^ s.invMask l.val ^^^ (if 16 ≤ l.val ∧ l.val < 40 ∧
        s.flag (F.LANE_CFG_RX_INVERT l.val) = true then BitVec.allOnes 64 else 0) ∧ s.pattern l.val = 6 ∧
        (∀ k < 64, (s.userPattern l.val).rotateLeft k ≠ v)) ∧
    (∃ (s : State) (l : Fin 44) (w : BitVec 64),
      s.nearLoop l.val = false ∧ s.farLoop l.val = false ∧ s.checking l.val = false) ∧
    (∃ (s : State) (l : Fin 44) (ws : List (BitVec 64)),
      (s.lane l.val).patLock = true) ∧
    (∃ (s : State) (l : Fin 44) (ws : List (BitVec 64)),
      (s.lane l.val).patLock = false) ∧
    (∃ (s : State) (l : Fin 44) (ws : List (BitVec 64)),
      (s.lane l.val).patLock = false) ∧
    (∃ (s : State) (l : Fin 44) (ws : List (BitVec 64)),
      (s.lane l.val).patLock = true) ∧
    (∃ (s : State) (l : Fin 44) (w v : BitVec 64) (e : BitVec 64),
      s.nearLoop l.val = false ∧ s.farLoop l.val = false ∧ (s.lane l.val).patLock = true ∧ s.checking l.val = true ∧
        v = w ^^^ s.invMask l.val ^^^ (if 16 ≤ l.val ∧ l.val < 40 ∧
        s.flag (F.LANE_CFG_RX_INVERT l.val) = true then BitVec.allOnes 64 else 0) ∧
        e = patWord (s.pattern l.val) ((s.lane l.val).ref.getD 0) ∧ 32 ≤ ones64 (e ^^^ v) ∧
        s.count (C.LANE_PAT_LOCK_LOSS l.val) < 0xFFFFFFFE ∧
        s.count (C.LANE_PAT_ERR l.val) + ones64 (e ^^^ v) < 0xFFFFFFFE) ∧
    (∃ (s : State) (l : Fin 44) (w v : BitVec 64) (e : BitVec 64),
      s.nearLoop l.val = false ∧ s.farLoop l.val = false ∧ (s.lane l.val).patLock = true ∧ s.checking l.val = true ∧
        v = w ^^^ s.invMask l.val ^^^ (if 16 ≤ l.val ∧ l.val < 40 ∧
        s.flag (F.LANE_CFG_RX_INVERT l.val) = true then BitVec.allOnes 64 else 0) ∧
        e = patWord (s.pattern l.val) ((s.lane l.val).ref.getD 0) ∧ ones64 (e ^^^ v) < 32 ∧
        s.count (C.LANE_PAT_ERR l.val) + ones64 (e ^^^ v) < 0xFFFFFFFE) ∧
    (∃ (s : State) (l : Fin 44),
      (s.lane l.val).injRun = false ∧ s.injMode l.val ≠ 0) ∧
    (∃ (s : State) (l : Fin 44),
      (s.lane l.val).injRun = false ∧ s.injMode l.val = 0) ∧
    (∃ (s : State) (l : Fin 44),
      (s.lane l.val).injRun = true) ∧
    (∃ (s : State) (l : Fin 44) (ws : List (BitVec 64)),
      (s.lane l.val).injRun = false) ∧
    (∃ (s : State) (l : Fin 44) (ws : List (BitVec 64)),
      (s.lane l.val).injRun = true) ∧
    (∃ (s : State) (l : Fin 44) (w : BitVec 64),
      (s.lane l.val).injRun = true ∧ s.asleep l.val true = false ∧ s.farLoop l.val = false ∧
        s.nearLoop l.val = false ∧ s.sendsPattern l.val = false ∧ (l.val < 40 ∨ (s.ch (l.val - 40)).burstOn = true) ∧
        (s.lane l.val).injGap = 0 ∧ (s.lane l.val).injLeft ≠ 1 ∧ s.count (C.LANE_INJ_DONE l.val) < 0xFFFFFFFE) ∧
    (∃ (s : State) (l : Fin 44) (w : BitVec 64),
      (s.lane l.val).injRun = true ∧ s.asleep l.val true = false ∧ s.farLoop l.val = false ∧
        s.nearLoop l.val = false ∧ s.sendsPattern l.val = false ∧ (l.val < 40 ∨ (s.ch (l.val - 40)).burstOn = true) ∧
        (s.lane l.val).injGap = 0 ∧ (s.lane l.val).injLeft = 1 ∧ s.count (C.LANE_INJ_DONE l.val) < 0xFFFFFFFE) ∧
    (∃ (s : State) (l : Fin 44) (w : BitVec 64),
      (s.lane l.val).injRun = true ∧ s.asleep l.val true = false ∧ s.farLoop l.val = false ∧
        s.nearLoop l.val = false ∧ s.sendsPattern l.val = false ∧ (l.val < 40 ∨ (s.ch (l.val - 40)).burstOn = true) ∧
        (s.lane l.val).injGap ≠ 0) ∧
    (∃ (s : State) (l : Fin 44) (w : BitVec 64),
      (s.lane l.val).injRun = true ∧ s.asleep l.val true = false ∧ s.farLoop l.val = false ∧
        s.nearLoop l.val = false ∧ s.sendsPattern l.val = false ∧ 40 ≤ l.val ∧ (s.ch (l.val - 40)).burstOn = false) ∧
    (∃ (s : State) (l : Fin 44) (w : BitVec 64),
      (s.lane l.val).injRun = true ∧ s.asleep l.val true = false ∧ s.farLoop l.val = false ∧
        s.nearLoop l.val = false ∧ s.sendsPattern l.val = true ∧ (s.lane l.val).injGap ≠ 0) ∧
    (∃ (s : State) (l : Fin 44) (w : BitVec 64),
      s.asleep l.val true = true ∧ s.farLoop l.val = false) ∧
    (∃ (s : State) (l : Fin 44) (w v : BitVec 64) (e : BitVec 64),
      s.nearLoop l.val = false ∧ s.farLoop l.val = false ∧ (s.lane l.val).patLock = true ∧ s.checking l.val = true ∧
        v = w ^^^ s.invMask l.val ^^^ (if 16 ≤ l.val ∧ l.val < 40 ∧
        s.flag (F.LANE_CFG_RX_INVERT l.val) = true then BitVec.allOnes 64 else 0) ∧
        e = patWord (s.pattern l.val) ((s.lane l.val).ref.getD 0) ∧ ones64 (e ^^^ v) < 32 ∧
        s.count (C.LANE_PAT_ERR l.val) + ones64 (e ^^^ v) < 0xFFFFFFFE) ∧
    (∃ (s : State) (l : Fin 44) (v : Word),
      s.pwrRefused l.val v.toNat = false) ∧
    (∃ (s : State) (l : Fin 44) (v : Word),
      s.pwrRefused l.val v.toNat = true) ∧
    (∃ (s : State) (l : Fin 40),
      s.asleep l.val false = true ∧ s.flag (F.LANE_PWR_SD_WAKE l.val) = true) ∧
    (∃ (s : State) (l : Fin 40),
      (s.asleep l.val false = false ∨ s.flag (F.LANE_PWR_SD_WAKE l.val) = false)) ∧
    (∃ (s : State) (l : Fin 44),
      s.asleep l.val true = false) ∧
    (∃ (s : State) (l : Fin 44),
      s.asleep l.val false = false ∧ l.val < 40) ∧
    (∃ (s : State) (l : Fin 44) (tx : Bool),
      (s.asleep l.val tx = true ∨ (tx = false ∧ 40 ≤ l.val))) :=
  ⟨⟨ready 0, pk 0 20 [2, 0x041F, 0x7], by decide +kernel⟩,
   ⟨ready 0, pk 0 20 [2, 0x7FFF, 0x7], by decide +kernel⟩,
   ⟨ready 0, pk 0 15 [1, 0, 0], by decide +kernel⟩,
   ⟨ready 0, pk 0 44 [0, 0, 0], by decide +kernel⟩,
   ⟨ready 0, pk 0 44 [0, 0, 0, 0, 0], by decide +kernel⟩,
   ⟨ready 0, pk 0 44 [0], by decide +kernel⟩,
   ⟨base, 20, 1, 0x041F, by decide +kernel⟩,
   ⟨base, 20, 1, 0x7FFF, by decide +kernel⟩,
   ⟨base, 2, 1, 0x041F, by decide +kernel⟩,
   ⟨((ready 0).setFld (F.ETH_CFG_ENABLE 4) 1), pk 0 20 [1, 0x1B, 5, 6, 0], 20, 0x1B, by decide +kernel⟩,
   ⟨((ready 0).setFld (F.ETH_CFG_ENABLE 4) 1), pk 0 20 [1, 0x99, 5, 6, 0], 20, 0x99, by decide +kernel⟩,
   ⟨((ready 0).setFld (F.ETH_CFG_ENABLE 4) 1), pk 0 20 [1, 0x99, 5, 6, 0xA0000003], 20, 0x99, by decide +kernel⟩,
   ⟨ready 0, pk 0 20 [1, 0, 5, 6, 0], 20, 0, by decide +kernel⟩,
   ⟨ready 0, pk 0 41 [2, 0, 5, 6, 0], 41, 0, by decide +kernel⟩,
   ⟨(ready 0).setLane 41 { rate := 1 }, pk 0 41 [1, 0, 5, 6, 0], 41, 0, by decide +kernel⟩,
   ⟨ready 0, pk 0 20 [4, 0, 0, 0, 0], by decide +kernel⟩,
   ⟨(ready 0).setLane 20 { txOn := true, patLock := true }, pk 0 20 [0x010001], 5, by decide +kernel⟩,
   ⟨(ready 0).setFld (F.LANE_CFG_LOOP 20) 1, pk 0 20 [0x010001], 5, by decide +kernel⟩,
   ⟨ready 0, pk 0 20 [0x020001], by decide +kernel⟩,
   ⟨(base.setFld (F.ETH_CFG_ENABLE 4) 1), 20, 3, by decide +kernel⟩,
   ⟨(base.setFld (F.ETH_CFG_ENABLE 4) 1).setLane 20 { patLock := true }, 20, 3, by decide +kernel⟩,
   ⟨(base.setFld (F.ETH_CFG_ENABLE 4) 1), 20, 3, by decide +kernel⟩,
   ⟨base, 41, 2, by decide +kernel⟩,
   ⟨base, 20, true, by decide +kernel⟩,
   ⟨base.setFld (F.SVL_PORT_CFG_ENABLE 3) 1, 0, by decide +kernel⟩,
   ⟨base, 20, by decide +kernel⟩,
   ⟨base.setFld (F.LANE_PAT_CFG_CHK_EN 20) 1, 20, by decide +kernel⟩,
   ⟨(((base.setFld (F.ETH_CFG_ENABLE 4) 1).setFld (F.LANE_PAT_CFG_CHK_EN 20) 1).setFld (F.LANE_PAT_CFG_PATTERN 20) 0).setLane 20 { ref := some 1 },
     20, patWord 0 1, patWord 0 1, by decide +kernel⟩,
   ⟨(((base.setFld (F.ETH_CFG_ENABLE 4) 1).setFld (F.LANE_PAT_CFG_CHK_EN 20) 1).setFld (F.LANE_PAT_CFG_PATTERN 20) 0).setLane 20 { ref := some 1 },
     20, 5, 5, by decide +kernel⟩,
   ⟨((((base.setFld (F.ETH_CFG_ENABLE 4) 1).setFld (F.LANE_PAT_CFG_CHK_EN 20) 1).setFld (F.LANE_PAT_CFG_PATTERN 20) 6).setLane 20 {  }).wr (R.LANE_PAT_USER_LO 20) 7,
     20, 14, 14, 1, by decide +kernel⟩,
   ⟨((((base.setFld (F.ETH_CFG_ENABLE 4) 1).setFld (F.LANE_PAT_CFG_CHK_EN 20) 1).setFld (F.LANE_PAT_CFG_PATTERN 20) 6).setLane 20 {  }).wr (R.LANE_PAT_USER_LO 20) 7,
     20, 15, 15, by decide +kernel⟩,
   ⟨base, 20, 5, by decide +kernel⟩,
   ⟨base.setLane 20 { patLock := true }, 20, [5], by decide +kernel⟩,
   ⟨(((base.setFld (F.ETH_CFG_ENABLE 4) 1).setFld (F.LANE_PAT_CFG_CHK_EN 20) 1).setFld (F.LANE_PAT_CFG_PATTERN 20) 0).setLane 20 {  },
     20, [5, 6], by decide +kernel⟩,
   ⟨base, 20, [5], by decide +kernel⟩,
   ⟨(((base.setFld (F.ETH_CFG_ENABLE 4) 1).setFld (F.LANE_PAT_CFG_CHK_EN 20) 1).setFld (F.LANE_PAT_CFG_PATTERN 20) 0).setLane 20 { patLock := true },
     20, [5, 6], by decide +kernel⟩,
   ⟨(((base.setFld (F.ETH_CFG_ENABLE 4) 1).setFld (F.LANE_PAT_CFG_CHK_EN 20) 1).setFld (F.LANE_PAT_CFG_PATTERN 20) 0).setLane 20 { patLock := true },
     20, 0xFFFFFFFFFFF, 0xFFFFFFFFFFF, 0, by decide +kernel⟩,
   ⟨(((base.setFld (F.ETH_CFG_ENABLE 4) 1).setFld (F.LANE_PAT_CFG_CHK_EN 20) 1).setFld (F.LANE_PAT_CFG_PATTERN 20) 0).setLane 20 { patLock := true },
     20, 5, 5, 0, by decide +kernel⟩,
   ⟨(base.setFld (F.LANE_INJ_MODE 20) 1).setFld (F.LANE_INJ_COUNT 20) 3, 20, by decide +kernel⟩,
   ⟨base, 20, by decide +kernel⟩,
   ⟨base.setLane 20 { injRun := true }, 20, by decide +kernel⟩,
   ⟨base, 20, [1], by decide +kernel⟩,
   ⟨(((base.setFld (F.ETH_CFG_ENABLE 4) 1).setFld (F.LANE_INJ_MODE 20) 2).setFld (F.LANE_INJ_LEN 20) 3).setFld (F.LANE_INJ_POS 20) 62 |>.setLane 20 { injRun := true, injLeft := 3 },
     20, [1, 2], by decide +kernel⟩,
   ⟨(((base.setFld (F.ETH_CFG_ENABLE 4) 1).setFld (F.LANE_INJ_MODE 20) 2).setFld (F.LANE_INJ_LEN 20) 3).setFld (F.LANE_INJ_POS 20) 62 |>.setLane 20 { injRun := true, injLeft := 3 },
     20, 5, by decide +kernel⟩,
   ⟨(((base.setFld (F.ETH_CFG_ENABLE 4) 1).setFld (F.LANE_INJ_MODE 20) 2).setFld (F.LANE_INJ_LEN 20) 3).setFld (F.LANE_INJ_POS 20) 62 |>.setLane 20 { injRun := true, injLeft := 1 },
     20, 5, by decide +kernel⟩,
   ⟨(((base.setFld (F.ETH_CFG_ENABLE 4) 1).setFld (F.LANE_INJ_MODE 20) 2).setFld (F.LANE_INJ_LEN 20) 3).setFld (F.LANE_INJ_POS 20) 62 |>.setLane 20 { injRun := true, injLeft := 3, injGap := 2, carry := 3 },
     20, 5, by decide +kernel⟩,
   ⟨base.setLane 41 { injRun := true }, 41, 5, by decide +kernel⟩,
   ⟨((((base.setFld (F.ETH_CFG_ENABLE 4) 1).setFld (F.LANE_INJ_MODE 20) 2).setFld (F.LANE_INJ_LEN 20) 3).setFld (F.LANE_INJ_POS 20) 62 |>.setLane 20 { injRun := true, injLeft := 3, injGap := 2, gen := some 9 }).setFld (F.LANE_PAT_CFG_GEN_EN 20) 1,
     20, 5, by decide +kernel⟩,
   ⟨base.setLane 20 { injRun := true }, 20, 5, by decide +kernel⟩,
   ⟨(((base.setFld (F.ETH_CFG_ENABLE 4) 1).setFld (F.LANE_PAT_CFG_CHK_EN 20) 1).setFld (F.LANE_PAT_CFG_PATTERN 20) 0).setLane 20 { patLock := true },
     20, 5, 5, 0, by decide +kernel⟩,
   ⟨base.setLane 20 { rxOn := true, cdr := true }, 20, 3, by decide +kernel⟩,
   ⟨base.setFld (F.LANE_CFG_LOOP 20) 1, 20, 3, by decide +kernel⟩,
   ⟨base.setFld (F.LANE_PWR_SD_WAKE 20) 1, 20, by decide +kernel⟩,
   ⟨(base.setFld (F.ETH_CFG_ENABLE 4) 1), 20, by decide +kernel⟩,
   ⟨(base.setFld (F.ETH_CFG_ENABLE 4) 1), 20, by decide +kernel⟩,
   ⟨(base.setFld (F.ETH_CFG_ENABLE 4) 1), 20, by decide +kernel⟩,
   ⟨base, 41, false, by decide +kernel⟩⟩

theorem wit_EyeScansRunPointByPoint :
    (∃ (s : State) (p : Pkt) (l : Nat),
      Taken 0x0404 p s ∧ p.length = 1 ∧ p.target.toNat < 40 ∧ l = p.target.toNat ∧ leAt p.bytes 0 1 ≤ 3 ∧
        leAt p.bytes 1 1 ≤ 31 ∧ (s.lane l).eyeBusy = false ∧ s.asleep l false = false) ∧
    (∃ (s : State) (p : Pkt),
      Taken 0x0404 p s ∧ p.length = 1 ∧ p.target.toNat < 40 ∧ leAt p.bytes 0 1 ≤ 3 ∧ leAt p.bytes 1 1 ≤ 31 ∧
        ((s.lane p.target.toNat).eyeBusy = true ∨ s.asleep p.target.toNat false = true)) ∧
    (∃ (s : State) (p : Pkt),
      Taken 0x0404 p s ∧ p.length = 1 ∧ p.target.toNat < 40 ∧ (3 < leAt p.bytes 0 1 ∨ 31 < leAt p.bytes 1 1)) ∧
    (∃ (s : State) (p : Pkt),
      Taken 0x0404 p s ∧ p.length = 1 ∧ 40 ≤ p.target.toNat) ∧
    (∃ (s : State) (l : Fin 40),
      (s.lane l.val).eyeBusy = false ∧ s.asleep l.val false = false) ∧
    (∃ (s : State) (l : Fin 40),
      (s.lane l.val).eyeBusy = false ∧ s.asleep l.val false = true) ∧
    (∃ (s : State) (l : Fin 40),
      (s.lane l.val).eyeBusy = true) ∧
    (∃ (s : State) (l : Fin 40) (n : Nat),
      (s.lane l.val).eyeBusy = true ∧ (s.lane l.val).eyePoints ≠ 8191) ∧
    (∃ (s : State) (l : Fin 40) (n : Nat),
      (s.lane l.val).eyeBusy = true ∧ (s.lane l.val).eyePoints = 8191) ∧
    (∃ (s : State) (l : Fin 40),
      (s.lane l.val).eyeBusy = true) ∧
    (∃ (s : State) (l : Fin 40) (n : Nat),
      (s.lane l.val).eyeBusy = false) ∧
    (∃ (s : State) (p : Pkt) (n : Nat),
      Taken 0x0405 p s ∧ p.length = 1 ∧ p.target.toNat < 40 ∧ n = leAt p.bytes 2 2 ∧ 0 < n ∧ n ≤ 2048 ∧
        leAt p.bytes 0 2 + n ≤ 8192) ∧
    (∃ (s : State) (p : Pkt) (n : Nat),
      Taken 0x0405 p s ∧ p.length = 1 ∧ p.target.toNat < 40 ∧ n = leAt p.bytes 2 2 ∧
        (n = 0 ∨ 2048 < n ∨ 8192 < leAt p.bytes 0 2 + n)) ∧
    (∃ (s : State) (p : Pkt),
      Taken 0x0405 p s ∧ p.length = 1 ∧ 40 ≤ p.target.toNat) ∧
    (∃ (s : State) (l : Fin 40) (i : Nat),
      i = s.fld (F.LANE_EYE_ADDR_POINT l.val)) ∧
    (∃ (s : State) (l : Fin 40) (f : Fin 6),
      f.val ≠ 0) :=
  ⟨⟨((ready 0).setFld (F.ETH_CFG_ENABLE 4) 1), pk 0 20 [0x1F02], 20, by decide +kernel⟩,
   ⟨ready 0, pk 0 20 [0], by decide +kernel⟩,
   ⟨ready 0, pk 0 20 [4], by decide +kernel⟩,
   ⟨ready 0, pk 0 40 [0], by decide +kernel⟩,
   ⟨(base.setFld (F.ETH_CFG_ENABLE 4) 1), 20, by decide +kernel⟩,
   ⟨base, 20, by decide +kernel⟩,
   ⟨base.setLane 20 { eyeBusy := true }, 20, by decide +kernel⟩,
   ⟨base.setLane 20 { eyeBusy := true, eyePoints := 7 }, 20, 70000, by decide +kernel⟩,
   ⟨base.setLane 20 { eyeBusy := true, eyePoints := 8191 }, 20, 7, by decide +kernel⟩,
   ⟨base.setLane 20 { eyeBusy := true, eyePoints := 5 }, 20, by decide +kernel⟩,
   ⟨base, 20, 3, by decide +kernel⟩,
   ⟨(ready 0).setLane 20 { eyeMap := [(7, 300)] }, pk 0 20 [0x00020006], 2, by decide +kernel⟩,
   ⟨ready 0, pk 0 20 [0x00021FFF], 2, by decide +kernel⟩,
   ⟨ready 0, pk 0 43 [0x00020006], by decide +kernel⟩,
   ⟨(base.setFld (F.LANE_EYE_ADDR_POINT 20) 8191).setLane 20 { eyeMap := [(8191, 300)] }, 20, 8191,
     by decide +kernel⟩,
   ⟨base, 20, 3, by decide +kernel⟩⟩

theorem wit_EthernetFramesArePassedCountedAndPaused :
    (∃ (s : State) (m : Fin 24) (bs : List Byte) (fcs ce : Bool) (raw : Nat),
      s.flag (F.ETH_CFG_ENABLE m.val) = true ∧ (s.macAt m.val).link = true ∧ s.nearLoop (16 + m.val) = false ∧
        s.farLoop (16 + m.val) = false ∧ s.count (C.ETH_FCS_ERR m.val) < 0xFFFFFFFE) ∧
    (∃ (s : State) (m : Fin 24) (bs : List Byte) (fcs ce : Bool) (raw : Nat),
      s.flag (F.ETH_CFG_ENABLE m.val) = true ∧ (s.macAt m.val).link = true ∧ s.nearLoop (16 + m.val) = false ∧
        s.farLoop (16 + m.val) = false ∧ bs.length < 60) ∧
    (∃ (s : State) (m : Fin 24) (bs : List Byte) (fcs ce : Bool) (raw : Nat),
      s.flag (F.ETH_CFG_ENABLE m.val) = true ∧ (s.macAt m.val).link = true ∧ s.nearLoop (16 + m.val) = false ∧
        s.farLoop (16 + m.val) = false ∧ 60 ≤ bs.length ∧
        s.ethMaxLen m.val < bs.length + 4 - (stripTags (s.fld (F.ETH_TAG_RX_TPID_S m.val)) 2 bs).1.length) ∧
    (∃ (s : State) (m : Fin 24) (bs : List Byte) (fcs ce : Bool) (raw : Nat),
      s.flag (F.ETH_CFG_ENABLE m.val) = true ∧ (s.macAt m.val).link = true ∧ s.nearLoop (16 + m.val) = false ∧
        s.farLoop (16 + m.val) = false ∧ 60 ≤ bs.length ∧
        bs.length + 4 - (stripTags (s.fld (F.ETH_TAG_RX_TPID_S m.val)) 2 bs).1.length ≤ s.ethMaxLen m.val) ∧
    (∃ (s : State) (m : Fin 24) (bs : List Byte) (fcs ce : Bool) (raw : Nat),
      s.flag (F.ETH_CFG_ENABLE m.val) = true ∧ (s.macAt m.val).link = true ∧ s.nearLoop (16 + m.val) = false ∧
        s.farLoop (16 + m.val) = false ∧ 60 ≤ bs.length ∧
        bs.length + 4 - (stripTags (s.fld (F.ETH_TAG_RX_TPID_S m.val)) 2 bs).1.length ≤ s.ethMaxLen m.val ∧
        (beAt bs 12 2 = 0x8808 ∨ isGlide bs = true)) ∧
    (∃ (s : State) (m : Fin 24) (bs : List Byte) (fcs ce : Bool) (raw : Nat),
      s.flag (F.ETH_CFG_ENABLE m.val) = true ∧ (s.macAt m.val).link = true ∧ s.nearLoop (16 + m.val) = false ∧
        s.farLoop (16 + m.val) = false ∧ 60 ≤ bs.length ∧
        bs.length + 4 - (stripTags (s.fld (F.ETH_TAG_RX_TPID_S m.val)) 2 bs).1.length ≤ s.ethMaxLen m.val ∧
        beAt bs 12 2 ≠ 0x8808 ∧ isGlide bs = false ∧ s.mcRejects m.val bs = true) ∧
    (∃ (s : State) (m : Fin 24) (bs : List Byte) (fcs ce : Bool) (raw : Nat) (r : List Byte × List Byte) (id : Nat),
      s.flag (F.ETH_CFG_ENABLE m.val) = true ∧ (s.macAt m.val).link = true ∧ s.nearLoop (16 + m.val) = false ∧
        s.farLoop (16 + m.val) = false ∧ 60 ≤ bs.length ∧
        bs.length + 4 - (stripTags (s.fld (F.ETH_TAG_RX_TPID_S m.val)) 2 bs).1.length ≤ s.ethMaxLen m.val ∧
        beAt bs 12 2 ≠ 0x8808 ∧ isGlide bs = false ∧ s.mcRejects m.val bs = false ∧
        r = stripTags (s.fld (F.ETH_TAG_RX_TPID_S m.val)) (upTo2 (s.fld (F.ETH_TAG_RX_STRIP m.val))) bs ∧
        (((s.rawTo raw).rxCount m.val (bs.length + 4)).allocBuf agEthRx r.2.length).2 = .got id) ∧
    (∃ (s : State) (m : Fin 24) (bs : List Byte) (fcs ce : Bool) (raw : Nat) (r : List Byte × List Byte),
      s.flag (F.ETH_CFG_ENABLE m.val) = true ∧ (s.macAt m.val).link = true ∧ s.nearLoop (16 + m.val) = false ∧
        s.farLoop (16 + m.val) = false ∧ 60 ≤ bs.length ∧
        bs.length + 4 - (stripTags (s.fld (F.ETH_TAG_RX_TPID_S m.val)) 2 bs).1.length ≤ s.ethMaxLen m.val ∧
        beAt bs 12 2 ≠ 0x8808 ∧ isGlide bs = false ∧ s.mcRejects m.val bs = false ∧
        r = stripTags (s.fld (F.ETH_TAG_RX_TPID_S m.val)) (upTo2 (s.fld (F.ETH_TAG_RX_STRIP m.val))) bs ∧
        (((s.rawTo raw).rxCount m.val (bs.length + 4)).allocBuf agEthRx r.2.length).2 = .refused) ∧
    (∃ (s : State) (m : Fin 24) (bs : List Byte) (fcs ce : Bool) (raw : Nat),
      s.flag (F.ETH_CFG_ENABLE m.val) = true ∧ (s.macAt m.val).link = true ∧ s.nearLoop (16 + m.val) = false ∧
        s.farLoop (16 + m.val) = true) ∧
    (∃ (s : State) (m : Fin 24) (bs : List Byte) (fcs ce : Bool) (raw : Nat) (old : List Byte) (ok : Bool) (fs : List (List Byte × Bool)),
      s.flag (F.ETH_CFG_ENABLE m.val) = true ∧ (s.macAt m.val).link = true ∧ s.nearLoop (16 + m.val) = true ∧
        (s.lane (16 + m.val)).frames = (old, ok) :: fs) ∧
    (∃ (s : State) (m : Fin 24) (bs : List Byte) (fcs ce : Bool) (raw : Nat),
      s.flag (F.ETH_CFG_ENABLE m.val) = true ∧ (s.macAt m.val).link = true ∧ s.nearLoop (16 + m.val) = true ∧
        (s.lane (16 + m.val)).frames = []) ∧
    (∃ (s : State) (m : Fin 24) (bs : List Byte) (fcs ce : Bool) (raw : Nat),
      (s.flag (F.ETH_CFG_ENABLE m.val) = false ∨ (s.macAt m.val).link = false)) ∧
    (∃ (s : State) (m : Fin 24) (raw : Nat) (met : Option Nat) (f : Frame),
      (s.macAt m.val).tx = some f ∧ s.macFree m.val f.queue = true ∧ (s.rawTo raw).clearsLaunch m.val f = true) ∧
    (∃ (s : State) (m : Fin 24) (raw : Nat) (met : Option Nat) (f : Frame),
      (s.macAt m.val).tx = some f ∧ s.macFree m.val f.queue = true ∧ (s.rawTo raw).clearsLaunch m.val f = true ∧
        s.laneDiscards (16 + m.val) = false) ∧
    (∃ (s : State) (m : Fin 24) (raw : Nat) (f : Frame),
      (s.macAt m.val).tx = some f ∧ s.macFree m.val f.queue = true ∧ (s.rawTo raw).clearsLaunch m.val f = true ∧
        s.laneDiscards (16 + m.val) = false ∧
        s.meetWords (s.bufWord f.buf) (s.frameErrs f.buf f.bytes.length) = (s, none) ∧ f.capture = false) ∧
    (∃ (s : State) (m : Fin 24) (raw : Nat) (met : Option Nat) (f : Frame),
      (s.macAt m.val).tx = some f ∧ s.macFree m.val f.queue = true ∧ (s.rawTo raw).clearsLaunch m.val f = true ∧
        f.capture = true ∧ s.time.fifo.length < 512) ∧
    (∃ (s : State) (m : Fin 24) (raw : Nat) (met : Option Nat),
      (s.macAt m.val).tx = none) ∧
    (∃ (s : State) (m : Fin 24) (raw : Nat) (met : Option Nat) (f : Frame),
      (s.macAt m.val).tx = some f ∧ (s.macFree m.val f.queue = false ∨ (s.rawTo raw).clearsLaunch m.val f = false)) ∧
    (∃ (s : State) (m : Fin 24) (q : BitVec 16),
      (s.macAt m.val).link = true ∧ s.nearLoop (16 + m.val) = false ∧ (s.macAt m.val).holdoff = false ∧
        s.pauseMode m.val = 1 ∧ s.count (C.ETH_PAUSE_RX m.val) < 0xFFFFFFFE) ∧
    (∃ (s : State) (m : Fin 24) (q : BitVec 16),
      (s.macAt m.val).link = true ∧ s.nearLoop (16 + m.val) = false ∧ (s.macAt m.val).holdoff = false ∧
        s.pauseMode m.val ≠ 1 ∧ s.count (C.ETH_PAUSE_RX m.val) < 0xFFFFFFFE) ∧
    (∃ (s : State) (m : Fin 24) (q : BitVec 16),
      (s.macAt m.val).link = true ∧ s.nearLoop (16 + m.val) = false ∧ (s.macAt m.val).holdoff = true ∧
        s.count (C.ETH_PAUSE_IGNORED m.val) < 0xFFFFFFFE) ∧
    (∃ (s : State) (m : Fin 24) (ps : List (Fin 8 × BitVec 16)),
      (s.macAt m.val).link = true ∧ s.nearLoop (16 + m.val) = false ∧ (s.macAt m.val).holdoff = false ∧
        s.pauseMode m.val = 2 ∧ s.count (C.ETH_PAUSE_RX m.val) < 0xFFFFFFFE) ∧
    (∃ (s : State) (m : Fin 24) (k : Fin 8) (q : BitVec 16),
      (s.macAt m.val).link = true ∧ s.nearLoop (16 + m.val) = false ∧ (s.macAt m.val).holdoff = false ∧
        s.pauseMode m.val = 2) ∧
    (∃ (s : State) (m : Fin 24) (ps : List (Fin 8 × BitVec 16)),
      (s.macAt m.val).link = true ∧ s.nearLoop (16 + m.val) = false ∧ (s.macAt m.val).holdoff = false ∧
        s.pauseMode m.val ≠ 2 ∧ s.count (C.ETH_PAUSE_RX m.val) < 0xFFFFFFFE) ∧
    (∃ (s : State) (m : Fin 24) (ps : List (Fin 8 × BitVec 16)),
      (s.macAt m.val).link = true ∧ s.nearLoop (16 + m.val) = false ∧ (s.macAt m.val).holdoff = true ∧
        s.count (C.ETH_PAUSE_IGNORED m.val) < 0xFFFFFFFE) ∧
    (∃ (s : State) (m : Fin 24) (q : BitVec 16) (ps : List (Fin 8 × BitVec 16)),
      ((s.macAt m.val).link = false ∨ s.nearLoop (16 + m.val) = true)) ∧
    (∃ (s : State) (m : Fin 24) (q : BitVec 16),
      (s.macAt m.val).link = true ∧ s.nearLoop (16 + m.val) = false ∧ s.farLoop (16 + m.val) = true) ∧
    (∃ (s : State) (m : Fin 24) (k : Fin 8),
      (s.macAt m.val).timers ≠ [] ∧ s.count (C.ETH_WD_TRIP m.val) < 0xFFFFFFFE) ∧
    (∃ (s : State) (m : Fin 24) (k : Fin 8),
      (s.macAt m.val).timers = []) ∧
    (∃ (s : State) (m : Fin 24) (raw : Nat) (met : Option Nat) (x : Launch),
      nextLaunch (s.launchQ m.val) = some x ∧ ¬ (x.late = false ∧
        passed x.instant (((s.rawTo raw).time.at (max s.time.raw raw)) + 8 * 2 ^ 40) = true) ∧
        (¬ (x.late = true ∨ passed ((s.rawTo raw).time.at (max s.time.raw raw)) (x.instant + 8 * 2 ^ 40) = true)) ∧
        s.macFree m.val x.frame.queue = true) ∧
    (∃ (s : State) (m : Fin 24) (raw : Nat) (met : Option Nat) (x : Launch),
      nextLaunch (s.launchQ m.val) = some x ∧ ¬ (x.late = false ∧
        passed x.instant (((s.rawTo raw).time.at (max s.time.raw raw)) + 8 * 2 ^ 40) = true) ∧
        (¬ (x.late = true ∨ passed ((s.rawTo raw).time.at (max s.time.raw raw)) (x.instant + 8 * 2 ^ 40) = true)) ∧
        s.macFree m.val x.frame.queue = true ∧ s.laneDiscards (16 + m.val) = false) ∧
    (∃ (s : State) (m : Fin 24) (raw : Nat) (met : Option Nat) (x : Launch),
      nextLaunch (s.launchQ m.val) = some x ∧
        (x.late = true ∨ passed ((s.rawTo raw).time.at (max s.time.raw raw)) (x.instant + 8 * 2 ^ 40) = true) ∧
        bit (s.fld F.TIME_LAUNCH_CFG_LATE_DROP) m.val = false ∧ s.macFree m.val x.frame.queue = true ∧
        s.count C.TIME_LAUNCH_LATE < 0xFFFFFFFE) ∧
    (∃ (s : State) (m : Fin 24) (raw : Nat) (met : Option Nat) (x : Launch),
      nextLaunch (s.launchQ m.val) = some x ∧
        (x.late = true ∨ passed ((s.rawTo raw).time.at (max s.time.raw raw)) (x.instant + 8 * 2 ^ 40) = true) ∧
        bit (s.fld F.TIME_LAUNCH_CFG_LATE_DROP) m.val = true ∧ s.count C.TIME_LAUNCH_LATE < 0xFFFFFFFE) ∧
    (∃ (s : State) (m : Fin 24) (raw : Nat) (met : Option Nat) (x : Launch),
      nextLaunch (s.launchQ m.val) = some x ∧ x.late = false ∧
        passed x.instant (((s.rawTo raw).time.at (max s.time.raw raw)) + 8 * 2 ^ 40) = true) ∧
    (∃ (s : State) (m : Fin 24) (raw : Nat) (met : Option Nat) (x : Launch),
      nextLaunch (s.launchQ m.val) = some x ∧
        (¬ ((x.late = true ∨ passed ((s.rawTo raw).time.at (max s.time.raw raw)) (x.instant + 8 * 2 ^ 40) = true) ∧
        bit (s.fld F.TIME_LAUNCH_CFG_LATE_DROP) m.val = true)) ∧ s.macFree m.val x.frame.queue = false) ∧
    (∃ (s : State) (m : Fin 24) (raw : Nat) (met : Option Nat),
      s.launchQ m.val = []) ∧
    (∃ (s : State) (p : Pkt),
      Taken 0x3402 p s ∧ p.length = 5 ∧ p.target.toNat < 24) ∧
    (∃ (s : State) (p : Pkt),
      Taken 0x3403 p s ∧ p.length = 128 ∧ p.target.toNat < 24) ∧
    (∃ (s : State) (p : Pkt),
      Taken 0x3404 p s ∧ p.length = 1 ∧ p.target.toNat < 24) ∧
    (∃ (s : State) (p : Pkt),
      Taken 0x3402 p s ∧ p.length = 5 ∧ 24 ≤ p.target.toNat) ∧
    (∃ (s : State) (p : Pkt),
      Taken 0x3403 p s ∧ p.length = 128 ∧ 24 ≤ p.target.toNat) ∧
    (∃ (s : State) (p : Pkt),
      Taken 0x3404 p s ∧ p.length = 1 ∧ 24 ≤ p.target.toNat) :=
  ⟨⟨((base.setFld (F.ETH_CFG_ENABLE 4) 1).setMac 4 { link := true }), 4, [1, 2], true, true, 9, by decide +kernel⟩,
   ⟨((base.setFld (F.ETH_CFG_ENABLE 4) 1).setMac 4 { link := true }), 4, [1, 2], true, true, 9, by decide +kernel⟩,
   ⟨((base.setFld (F.ETH_CFG_ENABLE 4) 1).setMac 4 { link := true }), 4, List.replicate 1515 0, true, true, 9,
     by decide +kernel⟩,
   ⟨((base.setFld (F.ETH_CFG_ENABLE 4) 1).setMac 4 { link := true }), 4, (List.replicate 12 2 ++ [8,
     0] ++ List.replicate 50 7), true, true, 9, by decide +kernel⟩,
   ⟨((base.setFld (F.ETH_CFG_ENABLE 4) 1).setMac 4 { link := true }), 4, (List.replicate 12 2 ++ [0x88,
     8] ++ List.replicate 50 7), true, false, 9, by decide +kernel⟩,
   ⟨((base.setFld (F.ETH_CFG_ENABLE 4) 1).setMac 4 { link := true }), 4, (List.replicate 12 3 ++ [8,
     8] ++ List.replicate 50 7), true, false, 9, by decide +kernel⟩,
   ⟨((((base.fillPool 0 4).setFld (F.ETH_CFG_ENABLE 4) 1).setMac 4 { link := true }).setFld (F.ETH_TAG_RX_STRIP 4) 1),
     4, (List.replicate 12 2 ++ [0x81, 0, 0, 5, 8, 0] ++ List.replicate 50 7), true, false, 9,
     stripTags 0x88A8 1 (List.replicate 12 2 ++ [0x81, 0, 0, 5, 8, 0] ++ List.replicate 50 7), 0, by decide +kernel⟩,
   ⟨((base.setFld (F.ETH_CFG_ENABLE 4) 1).setMac 4 { link := true }), 4, (List.replicate 12 2 ++ [8,
     0] ++ List.replicate 50 7), true, false, 9, stripTags 0x88A8 0 (List.replicate 12 2 ++ [8,
     0] ++ List.replicate 50 7), by decide +kernel⟩,
   ⟨((base.setFld (F.ETH_CFG_ENABLE 4) 1).setMac 4 { link := true }).setFld (F.LANE_CFG_LOOP 20) 3, 4, [1], true,
     false, 9, by decide +kernel⟩,
   ⟨((base.setFld (F.ETH_CFG_ENABLE 4) 1).setMac 4 { link := true }).setFld (F.LANE_CFG_LOOP 20) 1 |>.setLane 20 { frames := [([7], true)] },
     4, [1], true, false, 9, [7], true, [], by decide +kernel⟩,
   ⟨((base.setFld (F.ETH_CFG_ENABLE 4) 1).setMac 4 { link := true }).setFld (F.LANE_CFG_LOOP 20) 1, 4, [1], true,
     false, 9, by decide +kernel⟩,
   ⟨base, 4, [1], true, false, 9, by decide +kernel⟩,
   ⟨((base.setFld (F.ETH_CFG_ENABLE 4) 1).setMac 4 { link := true, tx := some { bytes := (List.replicate 12 2 ++ [8, 0] ++ List.replicate 50 7) } }),
     4, 9, none, { bytes := (List.replicate 12 2 ++ [8, 0] ++ List.replicate 50 7) }, by decide +kernel⟩,
   ⟨((base.setFld (F.ETH_CFG_ENABLE 4) 1).setMac 4 { link := true, tx := some { bytes := (List.replicate 12 2 ++ [8, 0] ++ List.replicate 50 7) } }),
     4, 9, none, { bytes := (List.replicate 12 2 ++ [8, 0] ++ List.replicate 50 7) }, by decide +kernel⟩,
   ⟨((base.setFld (F.ETH_CFG_ENABLE 4) 1).setMac 4 { link := true, tx := some { bytes := (List.replicate 12 2 ++ [8, 0] ++ List.replicate 50 7) } }),
     4, 9, { bytes := (List.replicate 12 2 ++ [8, 0] ++ List.replicate 50 7) }, by decide +kernel⟩,
   ⟨((base.setFld (F.ETH_CFG_ENABLE 4) 1).setMac 4 { link := true, tx := some { bytes := (List.replicate 12 2 ++ [8, 0] ++ List.replicate 50 7), time := 2 ^ 61 } }),
     4, 9, none, { bytes := (List.replicate 12 2 ++ [8, 0] ++ List.replicate 50 7), time := 2 ^ 61 },
     by decide +kernel⟩,
   ⟨((base.setFld (F.ETH_CFG_ENABLE 4) 1).setMac 4 { link := true }), 4, 9, none, by decide +kernel⟩,
   ⟨((base.setFld (F.ETH_CFG_ENABLE 4) 1).setMac 4 { link := true, tx := some { bytes := (List.replicate 12 2 ++ [8, 0] ++ List.replicate 50 7) }, timers := [(8, 3)] }),
     4, 9, none, { bytes := (List.replicate 12 2 ++ [8, 0] ++ List.replicate 50 7) }, by decide +kernel⟩,
   ⟨((base.setFld (F.ETH_CFG_ENABLE 4) 1).setMac 4 { link := true }).setFld (F.ETH_PAUSE_MODE 4) 1, 4, 77,
     by decide +kernel⟩,
   ⟨((base.setFld (F.ETH_CFG_ENABLE 4) 1).setMac 4 { link := true }), 4, 77, by decide +kernel⟩,
   ⟨((base.setFld (F.ETH_CFG_ENABLE 4) 1).setMac 4 { link := true, holdoff := true }), 4, 77, by decide +kernel⟩,
   ⟨((base.setFld (F.ETH_CFG_ENABLE 4) 1).setMac 4 { link := true }).setFld (F.ETH_PAUSE_MODE 4) 2, 4, [(3, 77), (4,
     5)], by decide +kernel⟩,
   ⟨((base.setFld (F.ETH_CFG_ENABLE 4) 1).setMac 4 { link := true }).setFld (F.ETH_PAUSE_MODE 4) 2, 4, 3, 77,
     by decide +kernel⟩,
   ⟨((base.setFld (F.ETH_CFG_ENABLE 4) 1).setMac 4 { link := true }), 4, [(3, 77)], by decide +kernel⟩,
   ⟨((base.setFld (F.ETH_CFG_ENABLE 4) 1).setMac 4 { link := true, holdoff := true }), 4, [(3, 77)],
     by decide +kernel⟩,
   ⟨base, 4, 5, [], by decide +kernel⟩,
   ⟨((base.setFld (F.ETH_CFG_ENABLE 4) 1).setMac 4 { link := true }).setFld (F.LANE_CFG_LOOP 20) 3, 4, 77,
     by decide +kernel⟩,
   ⟨((base.setFld (F.ETH_CFG_ENABLE 4) 1).setMac 4 { link := true, timers := [(3, 4)] }), 4, 3, by decide +kernel⟩,
   ⟨((base.setFld (F.ETH_CFG_ENABLE 4) 1).setMac 4 { link := true }), 4, 3, by decide +kernel⟩,
   ⟨(((base.setFld (F.ETH_CFG_ENABLE 4) 1).setMac 4 { link := true }).setLaunchQ 4 [{ frame := { bytes := [1, 2] }, sec := 0, ns := 0 }]),
     4, 0, none, { frame := { bytes := [1, 2] }, sec := 0, ns := 0 }, by decide +kernel⟩,
   ⟨(((base.setFld (F.ETH_CFG_ENABLE 4) 1).setMac 4 { link := true }).setLaunchQ 4 [{ frame := { bytes := [1, 2] }, sec := 0, ns := 0 }]),
     4, 0, none, { frame := { bytes := [1, 2] }, sec := 0, ns := 0 }, by decide +kernel⟩,
   ⟨(((base.setFld (F.ETH_CFG_ENABLE 4) 1).setMac 4 { link := true }).setLaunchQ 4 [{ frame := { bytes := [1, 2] }, sec := 0, ns := 0, late := true }]),
     4, 0, none, { frame := { bytes := [1, 2] }, sec := 0, ns := 0, late := true }, by decide +kernel⟩,
   ⟨((((base.setFld F.TIME_LAUNCH_CFG_LATE_DROP 16).setFld (F.ETH_CFG_ENABLE 4) 1).setMac 4 { link := true }).setLaunchQ 4 [{ frame := { bytes := [1, 2] }, sec := 0, ns := 0, late := true }]),
     4, 0, none, { frame := { bytes := [1, 2] }, sec := 0, ns := 0, late := true }, by decide +kernel⟩,
   ⟨(((base.setFld (F.ETH_CFG_ENABLE 4) 1).setMac 4 { link := true }).setLaunchQ 4 [{ frame := { bytes := [1, 2] }, sec := 9, ns := 0 }]),
     4, 0, none, { frame := { bytes := [1, 2] }, sec := 9, ns := 0 }, by decide +kernel⟩,
   ⟨(((base.setFld (F.ETH_CFG_ENABLE 4) 1).setMac 4 { link := true, timers := [(8, 3)] }).setLaunchQ 4 [{ frame := { bytes := [1, 2] }, sec := 0, ns := 0 }]),
     4, 0, none, { frame := { bytes := [1, 2] }, sec := 0, ns := 0 }, by decide +kernel⟩,
   ⟨base, 4, 9, none, by decide +kernel⟩,
   ⟨ready 3, pk 3 23 [0xFFFFFFFF, 0xFFFFFFFF, 5, 6, 7], by decide +kernel⟩,
   ⟨ready 3, pk 3 23 (List.replicate 128 7), by decide +kernel⟩,
   ⟨ready 3, pk 3 23 [0xFFFFFFFF], by decide +kernel⟩,
   ⟨ready 3, pk 3 24 (List.replicate 5 7), by decide +kernel⟩,
   ⟨ready 3, pk 3 24 (List.replicate 128 7), by decide +kernel⟩,
   ⟨ready 3, pk 3 24 (List.replicate 1 7), by decide +kernel⟩⟩

theorem wit_RateGlideAndLinksFollowTheirMachine :
    (∃ (s : State) (m : Fin 24) (trn : BitVec 16) (target : Byte),
      (s.macAt m.val).link = false) ∧
    (∃ (s : State) (m : Fin 24) (trn : BitVec 16) (s1 : State),
      s.controlIn m.val 1 trn.toNat 0 = some s1 ∧ (s.macAt m.val).glide ≠ .off ∧ (s.macAt m.val).stage = 0) ∧
    (∃ (s : State) (m : Fin 24) (trn : BitVec 16) (s1 : State),
      s.controlIn m.val 1 trn.toNat 0 = some s1 ∧ ((s.macAt m.val).glide = .off ∨ (s.macAt m.val).stage ≠ 0)) ∧
    (∃ (s : State) (m : Fin 24) (trn : BitVec 16) (s1 : State),
      s.controlIn m.val 2 trn.toNat 0 = some s1 ∧ (s.macAt m.val).glide = .probing ∧
        trn.toNat = (s.macAt m.val).trans) ∧
    (∃ (s : State) (m : Fin 24) (trn : BitVec 16) (s1 : State),
      s.controlIn m.val 2 trn.toNat 0 = some s1 ∧
        ((s.macAt m.val).glide ≠ .probing ∨ trn.toNat ≠ (s.macAt m.val).trans)) ∧
    (∃ (s : State) (m : Fin 24) (trn : BitVec 16) (target : Byte) (s1 : State),
      s.controlIn m.val 3 trn.toNat target.toNat = some s1 ∧ (s.macAt m.val).stage = 0 ∧
        s1.reqReason m.val target.toNat = none) ∧
    (∃ (s : State) (m : Fin 24) (trn : BitVec 16) (target : Byte) (r : Nat) (s1 : State),
      s.controlIn m.val 3 trn.toNat target.toNat = some s1 ∧ (s.macAt m.val).stage = 0 ∧
        s1.reqReason m.val target.toNat = some r) ∧
    (∃ (s : State) (m : Fin 24) (trn : BitVec 16) (target : Byte) (s1 : State),
      s.controlIn m.val 3 trn.toNat target.toNat = some s1 ∧ (s.macAt m.val).stage ≠ 0) ∧
    (∃ (s : State) (m : Fin 24) (trn : BitVec 16) (s1 : State),
      s.controlIn m.val 4 trn.toNat (s.macAt m.val).target = some s1 ∧ (s.macAt m.val).asked trn.toNat = true) ∧
    (∃ (s : State) (m : Fin 24) (trn : BitVec 16) (s1 : State),
      s.controlIn m.val 5 trn.toNat (s.macAt m.val).target = some s1 ∧ (s.macAt m.val).asked trn.toNat = true ∧
        s.count (C.ETH_GLIDE_FAIL m.val) < 0xFFFFFFFE) ∧
    (∃ (s : State) (m : Fin 24) (trn : BitVec 16) (s1 : State),
      (s.macAt m.val).asked trn.toNat = false) ∧
    (∃ (s : State) (m : Fin 24),
      (s.macAt m.val).glide = .probing) ∧
    (∃ (s : State) (m : Fin 24),
      (s.macAt m.val).glide ≠ .probing) ∧
    (∃ (s : State) (m : Fin 24),
      ((s.macAt m.val).glide = .reqDown ∨ (s.macAt m.val).glide = .reqUp) ∧ (s.macAt m.val).tries < 5) ∧
    (∃ (s : State) (m : Fin 24),
      ((s.macAt m.val).glide = .reqDown ∨ (s.macAt m.val).glide = .reqUp) ∧ 5 ≤ (s.macAt m.val).tries ∧
        s.count (C.ETH_GLIDE_FAIL m.val) < 0xFFFFFFFE) ∧
    (∃ (s : State) (m : Fin 24),
      (s.macAt m.val).glide ≠ .reqDown ∧ (s.macAt m.val).glide ≠ .reqUp) ∧
    (∃ (s : State) (m : Fin 24),
      (s.macAt m.val).glide = .high ∧ (s.macAt m.val).quiet = false ∧ s.pwr.grade < 5 ∧
        (s.macAt m.val).sentWin < s.glideLow m.val * s.glideWin m.val * 12500 ∧
        (s.macAt m.val).rcvdWin < s.glideLow m.val * s.glideWin m.val * 12500) ∧
    (∃ (s : State) (m : Fin 24),
      ¬ ((s.macAt m.val).glide = .high ∧ (s.macAt m.val).quiet = false ∧ s.pwr.grade < 5 ∧
        (s.macAt m.val).sentWin < s.glideLow m.val * s.glideWin m.val * 12500 ∧
        (s.macAt m.val).rcvdWin < s.glideLow m.val * s.glideWin m.val * 12500)) ∧
    (∃ (s : State) (m : Fin 24),
      (s.macAt m.val).stage = 1) ∧
    (∃ (s : State) (m : Fin 24),
      (s.macAt m.val).stage ≠ 1) ∧
    (∃ (s : State) (m : Fin 24) (us : Nat),
      (s.macAt m.val).stage = 2) ∧
    (∃ (s : State) (m : Fin 24) (us : Nat),
      (s.macAt m.val).stage = 2 ∧ s.count (if (s.macAt m.val).target = 1
        then C.ETH_GLIDE_DOWN m.val else C.ETH_GLIDE_UP m.val) < 0xFFFFFFFE) ∧
    (∃ (s : State) (m : Fin 24) (us : Nat),
      (s.macAt m.val).stage = 3) ∧
    (∃ (s : State) (m : Fin 24) (us : Nat),
      (s.macAt m.val).stage ≠ 2 ∧ (s.macAt m.val).stage ≠ 3) ∧
    (∃ (s : State) (m : Fin 24),
      (s.macAt m.val).stage = 2 ∧ s.count (C.ETH_GLIDE_FAIL m.val) < 0xFFFFFFFE) ∧
    (∃ (s : State) (m : Fin 24),
      (s.macAt m.val).stage = 3 ∧ s.count (C.ETH_LINK_DOWN m.val) < 0xFFFFFFFE) ∧
    (∃ (s : State) (m : Fin 24),
      (s.macAt m.val).stage ≠ 2 ∧ (s.macAt m.val).stage ≠ 3) ∧
    (∃ (s : State) (m : Fin 24),
      s.flag (F.ETH_CFG_ENABLE m.val) = true ∧ (s.macAt m.val).link = false ∧ (s.macAt m.val).stage = 0 ∧
        s.asleep (16 + m.val) true = false ∧ s.asleep (16 + m.val) false = false ∧
        (s.flag (F.ETH_GLIDE_EN m.val) = false ∨ s.ethSpeed m.val ≠ 0)) ∧
    (∃ (s : State) (m : Fin 24),
      s.flag (F.ETH_CFG_ENABLE m.val) = true ∧ (s.macAt m.val).link = false ∧ (s.macAt m.val).stage = 0 ∧
        s.asleep (16 + m.val) true = false ∧ s.asleep (16 + m.val) false = false ∧
        s.flag (F.ETH_GLIDE_EN m.val) = true ∧ s.ethSpeed m.val = 0) ∧
    (∃ (s : State) (m : Fin 24),
      ¬ (s.flag (F.ETH_CFG_ENABLE m.val) = true ∧ (s.macAt m.val).link = false ∧ (s.macAt m.val).stage = 0 ∧
        s.asleep (16 + m.val) true = false ∧ s.asleep (16 + m.val) false = false)) ∧
    (∃ (s : State) (m : Fin 24) (cause : Fin 3),
      (s.macAt m.val).link = true ∧ s.count (C.ETH_LINK_DOWN m.val) < 0xFFFFFFFE) ∧
    (∃ (s : State) (m : Fin 24) (cause : Fin 3),
      (s.macAt m.val).link = false) ∧
    (∃ (s : State) (m : Fin 24),
      (s.macAt m.val).link = false ∧ (s.macAt m.val).stage = 0) ∧
    (∃ (s : State) (m : Fin 24),
      ((s.macAt m.val).link = true ∨ (s.macAt m.val).stage ≠ 0)) ∧
    (∃ (s : State) (p : Pkt),
      Taken 0x3401 p s ∧ p.length = 1 ∧ p.target.toNat < 24 ∧
        (s.rd (R.ETH_CFG p.target.toNat)).toNat.testBit 0 = false) ∧
    (∃ (s : State) (p : Pkt),
      Taken 0x3401 p s ∧ p.length = 1 ∧ p.target.toNat < 24 ∧
        (s.rd (R.ETH_CFG p.target.toNat)).toNat.testBit 0 = true) ∧
    (∃ (s : State) (p : Pkt),
      Taken 0x3401 p s ∧ p.length = 1 ∧ p.target.toNat < 24 ∧ (p.w 0).testBit 0 = false) ∧
    (∃ (s : State) (p : Pkt),
      Taken 0x3405 p s ∧ p.length = 1 ∧ p.target.toNat < 24) ∧
    (∃ (s : State) (p : Pkt),
      Taken 0x3405 p s ∧ p.length = 1 ∧ p.target.toNat < 24 ∧ (s.macAt p.target.toNat).link = true ∧
        (s.macAt p.target.toNat).glide = .off ∧ s.ethSpeed p.target.toNat = 0 ∧
        ((s.wrRw (R.ETH_GLIDE p.target.toNat) (p.w 0)).flag (F.ETH_GLIDE_EN p.target.toNat)) = true) ∧
    (∃ (s : State) (p : Pkt),
      Taken 0x3401 p s ∧ p.length = 1 ∧ 24 ≤ p.target.toNat) ∧
    (∃ (s : State) (p : Pkt),
      Taken 0x3405 p s ∧ p.length = 1 ∧ 24 ≤ p.target.toNat) :=
  ⟨⟨base, 4, 9, 1, by decide +kernel⟩,
   ⟨((base.setFld (F.ETH_CFG_ENABLE 4) 1).setMac 4 { link := true, glide := .high }), 4, 9,
     (((base.setFld (F.ETH_CFG_ENABLE 4) 1).setMac 4 { link := true, glide := .high })).rxCount 4 64,
     by decide +kernel⟩,
   ⟨((base.setFld (F.ETH_CFG_ENABLE 4) 1).setMac 4 { link := true, glide := .off }), 4, 9,
     (((base.setFld (F.ETH_CFG_ENABLE 4) 1).setMac 4 { link := true, glide := .off })).rxCount 4 64,
     by decide +kernel⟩,
   ⟨((base.setFld (F.ETH_CFG_ENABLE 4) 1).setMac 4 { link := true, glide := .probing, trans := 9 }), 4, 9,
     (((base.setFld (F.ETH_CFG_ENABLE 4) 1).setMac 4 { link := true, glide := .probing, trans := 9 })).rxCount 4 64,
     by decide +kernel⟩,
   ⟨((base.setFld (F.ETH_CFG_ENABLE 4) 1).setMac 4 { link := true, glide := .high }), 4, 9,
     (((base.setFld (F.ETH_CFG_ENABLE 4) 1).setMac 4 { link := true, glide := .high })).rxCount 4 64,
     by decide +kernel⟩,
   ⟨((base.setFld (F.ETH_CFG_ENABLE 4) 1).setMac 4 { link := true, glide := .high }), 4, 9, 1,
     (((base.setFld (F.ETH_CFG_ENABLE 4) 1).setMac 4 { link := true, glide := .high })).rxCount 4 64,
     by decide +kernel⟩,
   ⟨((base.setFld (F.ETH_CFG_ENABLE 4) 1).setMac 4 { link := true, glide := .high }), 4, 9, 0, 4,
     (((base.setFld (F.ETH_CFG_ENABLE 4) 1).setMac 4 { link := true, glide := .high })).rxCount 4 64,
     by decide +kernel⟩,
   ⟨((base.setFld (F.ETH_CFG_ENABLE 4) 1).setMac 4 { link := true, glide := .retrain, stage := 1 }), 4, 9, 0,
     (((base.setFld (F.ETH_CFG_ENABLE 4) 1).setMac 4 { link := true, glide := .retrain, stage := 1 })).rxCount 4 64,
     by decide +kernel⟩,
   ⟨((base.setFld (F.ETH_CFG_ENABLE 4) 1).setMac 4 { link := true, glide := .reqDown, trans := 9 }), 4, 9,
     (((base.setFld (F.ETH_CFG_ENABLE 4) 1).setMac 4 { link := true, glide := .reqDown, trans := 9 })).rxCount 4 64,
     by decide +kernel⟩,
   ⟨((base.setFld (F.ETH_CFG_ENABLE 4) 1).setMac 4 { link := true, glide := .reqDown, trans := 9 }), 4, 9,
     (((base.setFld (F.ETH_CFG_ENABLE 4) 1).setMac 4 { link := true, glide := .reqDown, trans := 9 })).rxCount 4 64,
     by decide +kernel⟩,
   ⟨((base.setFld (F.ETH_CFG_ENABLE 4) 1).setMac 4 { link := true, glide := .high }), 4, 9,
     (((base.setFld (F.ETH_CFG_ENABLE 4) 1).setMac 4 { link := true, glide := .high })).rxCount 4 64,
     by decide +kernel⟩,
   ⟨((base.setFld (F.ETH_CFG_ENABLE 4) 1).setMac 4 { link := true, glide := .probing, trans := 65535 }), 4,
     by decide +kernel⟩,
   ⟨((base.setFld (F.ETH_CFG_ENABLE 4) 1).setMac 4 { link := true, glide := .high }), 4, by decide +kernel⟩,
   ⟨((base.setFld (F.ETH_CFG_ENABLE 4) 1).setMac 4 { link := true, glide := .reqDown, tries := 4 }), 4,
     by decide +kernel⟩,
   ⟨((base.setFld (F.ETH_CFG_ENABLE 4) 1).setMac 4 { link := true, glide := .reqDown, tries := 5 }), 4,
     by decide +kernel⟩,
   ⟨((base.setFld (F.ETH_CFG_ENABLE 4) 1).setMac 4 { link := true, glide := .high }), 4, by decide +kernel⟩,
   ⟨((base.setFld (F.ETH_CFG_ENABLE 4) 1).setMac 4 { link := true, glide := .high }), 4, by decide +kernel⟩,
   ⟨((base.setFld (F.ETH_CFG_ENABLE 4) 1).setMac 4 { link := true, glide := .low, sentWin := 5 }), 4,
     by decide +kernel⟩,
   ⟨((base.setFld (F.ETH_CFG_ENABLE 4) 1).setMac 4 { link := true, glide := .retrain, stage := 1, target := 1 }), 4,
     by decide +kernel⟩,
   ⟨((base.setFld (F.ETH_CFG_ENABLE 4) 1).setMac 4 { link := true, glide := .high }), 4, by decide +kernel⟩,
   ⟨((base.setFld (F.ETH_CFG_ENABLE 4) 1).setMac 4 { link := true, glide := .retrain, stage := 2, target := 1 }), 4,
     900, by decide +kernel⟩,
   ⟨((base.setFld (F.ETH_CFG_ENABLE 4) 1).setMac 4 { link := true, glide := .retrain, stage := 2, target := 1 }), 4,
     900, by decide +kernel⟩,
   ⟨((base.setFld (F.ETH_CFG_ENABLE 4) 1).setMac 4 { link := true, glide := .retrain, stage := 3, target := 1 }), 4,
     900, by decide +kernel⟩,
   ⟨((base.setFld (F.ETH_CFG_ENABLE 4) 1).setMac 4 { link := true, glide := .high }), 4, 900, by decide +kernel⟩,
   ⟨((base.setFld (F.ETH_CFG_ENABLE 4) 1).setMac 4 { link := true, glide := .retrain, stage := 2, target := 1 }), 4,
     by decide +kernel⟩,
   ⟨((base.setFld (F.ETH_CFG_ENABLE 4) 1).setMac 4 { link := true, glide := .retrain, stage := 3, target := 1 }), 4,
     by decide +kernel⟩,
   ⟨((base.setFld (F.ETH_CFG_ENABLE 4) 1).setMac 4 { link := true, glide := .high }), 4, by decide +kernel⟩,
   ⟨base.setFld (F.ETH_CFG_ENABLE 4) 1, 4, by decide +kernel⟩,
   ⟨(base.setFld (F.ETH_CFG_ENABLE 4) 1).setFld (F.ETH_GLIDE_EN 4) 1, 4, by decide +kernel⟩,
   ⟨base, 4, by decide +kernel⟩,
   ⟨((base.setFld (F.ETH_CFG_ENABLE 4) 1).setMac 4 { link := true, glide := .high }), 4, 0, by decide +kernel⟩,
   ⟨base, 4, 1, by decide +kernel⟩,
   ⟨base, 4, by decide +kernel⟩,
   ⟨((base.setFld (F.ETH_CFG_ENABLE 4) 1).setMac 4 { link := true, glide := .high }), 4, by decide +kernel⟩,
   ⟨ready 3, pk 3 4 [0x101], by decide +kernel⟩,
   ⟨(((ready 3).setFld (F.ETH_CFG_ENABLE 4) 1).setMac 4 { link := true }), pk 3 4 [0x101], by decide +kernel⟩,
   ⟨(((ready 3).setFld (F.ETH_CFG_ENABLE 4) 1).setMac 4 { link := true, glide := .high }), pk 3 4 [0x100],
     by decide +kernel⟩,
   ⟨ready 3, pk 3 4 [0xFFFFFFFF], by decide +kernel⟩,
   ⟨(((ready 3).setFld (F.ETH_CFG_ENABLE 4) 1).setMac 4 { link := true }), pk 3 4 [0xFFFFFFFF], by decide +kernel⟩,
   ⟨ready 3, pk 3 24 [7], by decide +kernel⟩,
   ⟨ready 3, pk 3 24 [7], by decide +kernel⟩⟩

theorem wit_FramesAreClassifiedUnderTheCurrentVersion :
    (∃ (s : State),
      s.clsIn = []) ∧
    (∃ (s : State) (f : Frame) (fs : List Frame) (x : Parsed),
      s.clsIn = f :: fs ∧ s.mem.parity = [] ∧
        x = parsePass ⟨if f.src < 24 then s.fld (F.ETH_TAG_RX_TPID_S f.src)
        else 0x88A8, s.fld F.CLS_CFG_VXLAN_PORT, false⟩ f.delivered 0 .eth ∧
        s.flag (F.FWD_PORT_CFG_LEARN f.src) = false ∧ s.owner f.buf ≠ 0 ∧ x.exc = 0 ∧ x.frag = 0 ∧ s.cls.rules = [] ∧
        s.cls.flows = [] ∧ dispOf (s.srcDefault f.src) = 1 ∧ s.count C.CLS_MISS < 0xFFFFFFFE) ∧
    (∃ (s : State) (f : Frame) (fs : List Frame) (x : Parsed),
      s.clsIn = f :: fs ∧ s.mem.parity = [] ∧
        x = parsePass ⟨if f.src < 24 then s.fld (F.ETH_TAG_RX_TPID_S f.src)
        else 0x88A8, s.fld F.CLS_CFG_VXLAN_PORT, false⟩ f.delivered 0 .eth ∧
        s.flag (F.FWD_PORT_CFG_LEARN f.src) = false ∧ s.owner f.buf ≠ 0 ∧ x.exc ≠ 0 ∧ x.frag ≠ 1 ∧
        dispOf (s.srcDefault f.src) = 1 ∧ s.count (excCtr x.exc) < 0xFFFFFFFE) ∧
    (∃ (s : State) (f : Frame) (fs : List Frame) (x : Parsed) (idx : Nat) (e : ClsEntry),
      s.clsIn = f :: fs ∧ s.mem.parity = [] ∧
        x = parsePass ⟨if f.src < 24 then s.fld (F.ETH_TAG_RX_TPID_S f.src)
        else 0x88A8, s.fld F.CLS_CFG_VXLAN_PORT, false⟩ f.delivered 0 .eth ∧
        s.flag (F.FWD_PORT_CFG_LEARN f.src) = false ∧ s.owner f.buf ≠ 0 ∧ x.exc = 0 ∧ x.frag = 0 ∧ s.cls.flows = [] ∧
        s.cls.rules = [(idx, some e)] ∧ idx / 8192 = s.fld (F.CLS_SRC_CFG_RULE_SET f.src) ∧
        e.set = s.fld (F.CLS_SRC_CFG_RULE_SET f.src) ∧ e.visible s.cls.ver = true ∧
        clsKey f.src false x.tun x.tunId x &&& e.mask = e.key ∧ dispOf e.action = 2 ∧ bit e.action 13 = true ∧
        bit e.action 33 = false) ∧
    (∃ (s : State) (f : Frame) (fs : List Frame) (x : Parsed) (a e : Nat),
      s.clsIn = f :: fs ∧ s.mem.parity = [] ∧
        x = parsePass ⟨if f.src < 24 then s.fld (F.ETH_TAG_RX_TPID_S f.src)
        else 0x88A8, s.fld F.CLS_CFG_VXLAN_PORT, false⟩ f.delivered 0 .eth ∧
        s.flag (F.FWD_PORT_CFG_LEARN f.src) = false ∧ s.owner f.buf ≠ 0 ∧
        ((({ s with clsIn := fs }.setInflight s.cls.ver (s.inflight s.cls.ver +
        1)).bump C.CLS_PKTS).classPass s.cls.ver f.src (clsKey f.src false x.tun x.tunId x) x).2.action = a ∧
        ((({ s with clsIn := fs }.setInflight s.cls.ver (s.inflight s.cls.ver +
        1)).bump C.CLS_PKTS).classPass s.cls.ver f.src (clsKey f.src false x.tun x.tunId x) x).2.exc = e ∧
        x.frag ≠ 1 ∧ dispOf a = 1) ∧
    (∃ (s : State) (f : Frame) (fs : List Frame) (x : Parsed) (a e : Nat),
      s.clsIn = f :: fs ∧ s.mem.parity = [] ∧
        x = parsePass ⟨if f.src < 24 then s.fld (F.ETH_TAG_RX_TPID_S f.src)
        else 0x88A8, s.fld F.CLS_CFG_VXLAN_PORT, false⟩ f.delivered 0 .eth ∧
        s.flag (F.FWD_PORT_CFG_LEARN f.src) = false ∧ s.owner f.buf ≠ 0 ∧
        ((({ s with clsIn := fs }.setInflight s.cls.ver (s.inflight s.cls.ver +
        1)).bump C.CLS_PKTS).classPass s.cls.ver f.src (clsKey f.src false x.tun x.tunId x) x).2.action = a ∧
        ((({ s with clsIn := fs }.setInflight s.cls.ver (s.inflight s.cls.ver +
        1)).bump C.CLS_PKTS).classPass s.cls.ver f.src (clsKey f.src false x.tun x.tunId x) x).2.exc = e ∧
        x.frag ≠ 1 ∧ dispOf a = 2) ∧
    (∃ (s : State) (f : Frame) (fs : List Frame) (x : Parsed) (a e : Nat) (g : Frame) (ds : List Nat),
      s.clsIn = f :: fs ∧ s.mem.parity = [] ∧
        x = parsePass ⟨if f.src < 24 then s.fld (F.ETH_TAG_RX_TPID_S f.src)
        else 0x88A8, s.fld F.CLS_CFG_VXLAN_PORT, false⟩ f.delivered 0 .eth ∧
        s.flag (F.FWD_PORT_CFG_LEARN f.src) = false ∧ s.owner f.buf ≠ 0 ∧
        ((({ s with clsIn := fs }.setInflight s.cls.ver (s.inflight s.cls.ver +
        1)).bump C.CLS_PKTS).classPass s.cls.ver f.src (clsKey f.src false x.tun x.tunId x) x).2.action = a ∧
        ((({ s with clsIn := fs }.setInflight s.cls.ver (s.inflight s.cls.ver +
        1)).bump C.CLS_PKTS).classPass s.cls.ver f.src (clsKey f.src false x.tun x.tunId x) x).2.exc = e ∧
        x.frag ≠ 1 ∧ dispOf a = 0 ∧ g = { ((⟨s.baseMeta { f with ver := s.cls.ver }, 2⟩ : Meta).apply a).f with exc := e, vid0 := bitsOf (clsKey f.src false x.tun x.tunId x) 35 24, hash := flowHash ((⟨s.baseMeta { f with ver := s.cls.ver }, 2⟩ : Meta).apply a).hashSel (clsKey f.src false x.tun x.tunId x) } ∧
        ds = (s.destLookup g.fid (beAt g.bytes 0 6)).2.filter (fun d => !(s.excluded g.src).contains d) ∧ ds ≠ []) ∧
    (∃ (s : State) (f : Frame) (fs : List Frame) (x : Parsed) (a e : Nat) (g : Frame) (ds : List Nat),
      s.clsIn = f :: fs ∧ s.mem.parity = [] ∧
        x = parsePass ⟨if f.src < 24 then s.fld (F.ETH_TAG_RX_TPID_S f.src)
        else 0x88A8, s.fld F.CLS_CFG_VXLAN_PORT, false⟩ f.delivered 0 .eth ∧
        s.flag (F.FWD_PORT_CFG_LEARN f.src) = false ∧ s.owner f.buf ≠ 0 ∧
        ((({ s with clsIn := fs }.setInflight s.cls.ver (s.inflight s.cls.ver +
        1)).bump C.CLS_PKTS).classPass s.cls.ver f.src (clsKey f.src false x.tun x.tunId x) x).2.action = a ∧
        ((({ s with clsIn := fs }.setInflight s.cls.ver (s.inflight s.cls.ver +
        1)).bump C.CLS_PKTS).classPass s.cls.ver f.src (clsKey f.src false x.tun x.tunId x) x).2.exc = e ∧
        x.frag ≠ 1 ∧ dispOf a = 3 ∧ g = { ((⟨s.baseMeta { f with ver := s.cls.ver }, 2⟩ : Meta).apply a).f with exc := e, vid0 := bitsOf (clsKey f.src false x.tun x.tunId x) 35 24, hash := flowHash ((⟨s.baseMeta { f with ver := s.cls.ver }, 2⟩ : Meta).apply a).hashSel (clsKey f.src false x.tun x.tunId x) } ∧
        ds = (s.destLookup g.fid (beAt g.bytes 0 6)).2.filter (fun d => !(s.excluded g.src).contains d)) ∧
    (∃ (s : State) (f : Frame) (fs : List Frame) (x : Parsed) (a e : Nat) (g : Frame) (ds : List Nat),
      s.clsIn = f :: fs ∧ s.mem.parity = [] ∧
        x = parsePass ⟨if f.src < 24 then s.fld (F.ETH_TAG_RX_TPID_S f.src)
        else 0x88A8, s.fld F.CLS_CFG_VXLAN_PORT, false⟩ f.delivered 0 .eth ∧
        s.flag (F.FWD_PORT_CFG_LEARN f.src) = false ∧ s.owner f.buf ≠ 0 ∧
        ((({ s with clsIn := fs }.setInflight s.cls.ver (s.inflight s.cls.ver +
        1)).bump C.CLS_PKTS).classPass s.cls.ver f.src (clsKey f.src false x.tun x.tunId x) x).2.action = a ∧
        ((({ s with clsIn := fs }.setInflight s.cls.ver (s.inflight s.cls.ver +
        1)).bump C.CLS_PKTS).classPass s.cls.ver f.src (clsKey f.src false x.tun x.tunId x) x).2.exc = e ∧
        x.frag ≠ 1 ∧ dispOf a = 0 ∧ g = { ((⟨s.baseMeta { f with ver := s.cls.ver }, 2⟩ : Meta).apply a).f with exc := e, vid0 := bitsOf (clsKey f.src false x.tun x.tunId x) 35 24, hash := flowHash ((⟨s.baseMeta { f with ver := s.cls.ver }, 2⟩ : Meta).apply a).hashSel (clsKey f.src false x.tun x.tunId x) } ∧
        ds = (s.destLookup g.fid (beAt g.bytes 0 6)).2.filter (fun d => !(s.excluded g.src).contains d) ∧ ds = [] ∧
        s.count C.FWD_FILTERED < 0xFFFFFFFE) ∧
    (∃ (s : State) (f : Frame) (fs : List Frame) (x : Parsed) (a e : Nat),
      s.clsIn = f :: fs ∧ s.mem.parity = [] ∧
        x = parsePass ⟨if f.src < 24 then s.fld (F.ETH_TAG_RX_TPID_S f.src)
        else 0x88A8, s.fld F.CLS_CFG_VXLAN_PORT, false⟩ f.delivered 0 .eth ∧
        s.flag (F.FWD_PORT_CFG_LEARN f.src) = false ∧ s.owner f.buf ≠ 0 ∧
        ((({ s with clsIn := fs }.setInflight s.cls.ver (s.inflight s.cls.ver +
        1)).bump C.CLS_PKTS).classPass s.cls.ver f.src (clsKey f.src false x.tun x.tunId x) x).2.action = a ∧
        ((({ s with clsIn := fs }.setInflight s.cls.ver (s.inflight s.cls.ver +
        1)).bump C.CLS_PKTS).classPass s.cls.ver f.src (clsKey f.src false x.tun x.tunId x) x).2.exc = e ∧
        x.frag ≠ 1 ∧ dispOf a = 4 ∧ x.inner = none ∧ dispOf (s.srcDefault f.src) = 1 ∧
        s.count (excCtr 9) < 0xFFFFFFFE ∧ e ≠ 9) :=
  ⟨⟨base, by decide +kernel⟩,
   ⟨{ (((base.setOwner 3 1).wr (R.CLS_SRC_DEF_LO 4) 1).setFld (F.FWD_PORT_CFG_LEARN 4) 0) with clsIn := [{ buf := 3, bytes := List.replicate 12 2 ++ [0x12, 0x34] ++ List.replicate 50 7, src := 4 }], cls := { (base.cls) with rules := [] } },
     { buf := 3, bytes := List.replicate 12 2 ++ [0x12, 0x34] ++ List.replicate 50 7, src := 4 }, [],
     parsePass ⟨0x88A8, 4789, false⟩ (List.replicate 12 2 ++ [0x12, 0x34] ++ List.replicate 50 7) 0 .eth,
     by decide +kernel⟩,
   ⟨{ (((base.setOwner 3 1).wr (R.CLS_SRC_DEF_LO 4) 1).setFld (F.FWD_PORT_CFG_LEARN 4) 0) with clsIn := [{ buf := 3, bytes := [1], src := 4 }] },
     { buf := 3, bytes := [1], src := 4 }, [], parsePass ⟨0x88A8, 4789, false⟩ [1] 0 .eth, by decide +kernel⟩,
   ⟨{ ((((base.setOwner 3 1).wr (R.CLS_SRC_DEF_LO 4) 1).setFld (F.FWD_PORT_CFG_LEARN 4) 0).setFld (F.CLS_SRC_CFG_RULE_SET 4) 2) with clsIn := [{ buf := 3, bytes := List.replicate 12 2 ++ [0x12, 0x34] ++ List.replicate 50 7, src := 4 }], cls := { (base.cls) with rules := [(16390, some { set := 2, key := 0, action := 0x251A })] } },
     { buf := 3, bytes := List.replicate 12 2 ++ [0x12, 0x34] ++ List.replicate 50 7, src := 4 }, [],
     parsePass ⟨0x88A8, 4789, false⟩ (List.replicate 12 2 ++ [0x12, 0x34] ++ List.replicate 50 7) 0 .eth, 16390,
     { set := 2, key := 0, action := 0x251A }, by decide +kernel⟩,
   ⟨{ ((((base.setOwner 3 1).wr (R.CLS_SRC_DEF_LO 4) 1).setFld (F.FWD_PORT_CFG_LEARN 4) 0).setFld (F.CLS_SRC_CFG_RULE_SET 4) 2) with clsIn := [{ buf := 3, bytes := List.replicate 12 2 ++ [0x12, 0x34] ++ List.replicate 50 7, src := 4 }], cls := { (base.cls) with rules := [(16390, some { set := 2, key := 0, action := 0x2519 })] } },
     { buf := 3, bytes := List.replicate 12 2 ++ [0x12, 0x34] ++ List.replicate 50 7, src := 4 }, [],
     parsePass ⟨0x88A8, 4789, false⟩ (List.replicate 12 2 ++ [0x12, 0x34] ++ List.replicate 50 7) 0 .eth, 0x2519, 0,
     by decide +kernel⟩,
   ⟨{ ((((base.setOwner 3 1).wr (R.CLS_SRC_DEF_LO 4) 1).setFld (F.FWD_PORT_CFG_LEARN 4) 0).setFld (F.CLS_SRC_CFG_RULE_SET 4) 2) with clsIn := [{ buf := 3, bytes := List.replicate 12 2 ++ [0x12, 0x34] ++ List.replicate 50 7, src := 4 }], cls := { (base.cls) with rules := [(16390, some { set := 2, key := 0, action := 0x251A })] } },
     { buf := 3, bytes := List.replicate 12 2 ++ [0x12, 0x34] ++ List.replicate 50 7, src := 4 }, [],
     parsePass ⟨0x88A8, 4789, false⟩ (List.replicate 12 2 ++ [0x12, 0x34] ++ List.replicate 50 7) 0 .eth, 0x251A, 0,
     by decide +kernel⟩,
   ⟨{ ((((base.setOwner 3 1).wr (R.CLS_SRC_DEF_LO 4) 1).setFld (F.FWD_PORT_CFG_LEARN 4) 0).setFld (F.CLS_SRC_CFG_RULE_SET 4) 2) with clsIn := [{ buf := 3, bytes := List.replicate 12 2 ++ [0x12, 0x34] ++ List.replicate 50 7, src := 4 }], cls := { (base.cls) with rules := [(16390, some { set := 2, key := 0, action := 0x2518 })] } },
     { buf := 3, bytes := List.replicate 12 2 ++ [0x12, 0x34] ++ List.replicate 50 7, src := 4 }, [],
     parsePass ⟨0x88A8, 4789, false⟩ (List.replicate 12 2 ++ [0x12, 0x34] ++ List.replicate 50 7) 0 .eth, 0x2518, 0,
     { ((⟨({ ((((base.setOwner 3 1).wr (R.CLS_SRC_DEF_LO 4) 1).setFld (F.FWD_PORT_CFG_LEARN 4) 0).setFld (F.CLS_SRC_CFG_RULE_SET 4) 2) with clsIn := [{ buf := 3, bytes := List.replicate 12 2 ++ [0x12, 0x34] ++ List.replicate 50 7, src := 4 }], cls := { (base.cls) with rules := [(16390, some { set := 2, key := 0, action := 0x2518 })] } } : State).baseMeta { ({ buf := 3, bytes := List.replicate 12 2 ++ [0x12, 0x34] ++ List.replicate 50 7, src := 4 } : Frame) with ver := 0 }, 2⟩ : Meta).apply 0x2518).f with exc := 0, vid0 := bitsOf (clsKey 4 false (parsePass ⟨0x88A8, 4789, false⟩ (List.replicate 12 2 ++ [0x12, 0x34] ++ List.replicate 50 7) 0 .eth).tun (parsePass ⟨0x88A8, 4789, false⟩ (List.replicate 12 2 ++ [0x12, 0x34] ++ List.replicate 50 7) 0 .eth).tunId (parsePass ⟨0x88A8, 4789, false⟩ (List.replicate 12 2 ++ [0x12, 0x34] ++ List.replicate 50 7) 0 .eth)) 35 24, hash := flowHash ((⟨({ ((((base.setOwner 3 1).wr (R.CLS_SRC_DEF_LO 4) 1).setFld (F.FWD_PORT_CFG_LEARN 4) 0).setFld (F.CLS_SRC_CFG_RULE_SET 4) 2) with clsIn := [{ buf := 3, bytes := List.replicate 12 2 ++ [0x12, 0x34] ++ List.replicate 50 7, src := 4 }], cls := { (base.cls) with rules := [(16390, some { set := 2, key := 0, action := 0x2518 })] } } : State).baseMeta { ({ buf := 3, bytes := List.replicate 12 2 ++ [0x12, 0x34] ++ List.replicate 50 7, src := 4 } : Frame) with ver := 0 }, 2⟩ : Meta).apply 0x2518).hashSel (clsKey 4 false (parsePass ⟨0x88A8, 4789, false⟩ (List.replicate 12 2 ++ [0x12, 0x34] ++ List.replicate 50 7) 0 .eth).tun (parsePass ⟨0x88A8, 4789, false⟩ (List.replicate 12 2 ++ [0x12, 0x34] ++ List.replicate 50 7) 0 .eth).tunId (parsePass ⟨0x88A8, 4789, false⟩ (List.replicate 12 2 ++ [0x12, 0x34] ++ List.replicate 50 7) 0 .eth)) },
     (maskDests 0x0FFFFFEF), by decide +kernel⟩,
   ⟨{ ((((base.setOwner 3 1).wr (R.CLS_SRC_DEF_LO 4) 1).setFld (F.FWD_PORT_CFG_LEARN 4) 0).setFld (F.CLS_SRC_CFG_RULE_SET 4) 2) with clsIn := [{ buf := 3, bytes := List.replicate 12 2 ++ [0x12, 0x34] ++ List.replicate 50 7, src := 4 }], cls := { (base.cls) with rules := [(16390, some { set := 2, key := 0, action := 0x251B })] } },
     { buf := 3, bytes := List.replicate 12 2 ++ [0x12, 0x34] ++ List.replicate 50 7, src := 4 }, [],
     parsePass ⟨0x88A8, 4789, false⟩ (List.replicate 12 2 ++ [0x12, 0x34] ++ List.replicate 50 7) 0 .eth, 0x251B, 0,
     { ((⟨({ ((((base.setOwner 3 1).wr (R.CLS_SRC_DEF_LO 4) 1).setFld (F.FWD_PORT_CFG_LEARN 4) 0).setFld (F.CLS_SRC_CFG_RULE_SET 4) 2) with clsIn := [{ buf := 3, bytes := List.replicate 12 2 ++ [0x12, 0x34] ++ List.replicate 50 7, src := 4 }], cls := { (base.cls) with rules := [(16390, some { set := 2, key := 0, action := 0x251B })] } } : State).baseMeta { ({ buf := 3, bytes := List.replicate 12 2 ++ [0x12, 0x34] ++ List.replicate 50 7, src := 4 } : Frame) with ver := 0 }, 2⟩ : Meta).apply 0x251B).f with exc := 0, vid0 := bitsOf (clsKey 4 false (parsePass ⟨0x88A8, 4789, false⟩ (List.replicate 12 2 ++ [0x12, 0x34] ++ List.replicate 50 7) 0 .eth).tun (parsePass ⟨0x88A8, 4789, false⟩ (List.replicate 12 2 ++ [0x12, 0x34] ++ List.replicate 50 7) 0 .eth).tunId (parsePass ⟨0x88A8, 4789, false⟩ (List.replicate 12 2 ++ [0x12, 0x34] ++ List.replicate 50 7) 0 .eth)) 35 24, hash := flowHash ((⟨({ ((((base.setOwner 3 1).wr (R.CLS_SRC_DEF_LO 4) 1).setFld (F.FWD_PORT_CFG_LEARN 4) 0).setFld (F.CLS_SRC_CFG_RULE_SET 4) 2) with clsIn := [{ buf := 3, bytes := List.replicate 12 2 ++ [0x12, 0x34] ++ List.replicate 50 7, src := 4 }], cls := { (base.cls) with rules := [(16390, some { set := 2, key := 0, action := 0x251B })] } } : State).baseMeta { ({ buf := 3, bytes := List.replicate 12 2 ++ [0x12, 0x34] ++ List.replicate 50 7, src := 4 } : Frame) with ver := 0 }, 2⟩ : Meta).apply 0x251B).hashSel (clsKey 4 false (parsePass ⟨0x88A8, 4789, false⟩ (List.replicate 12 2 ++ [0x12, 0x34] ++ List.replicate 50 7) 0 .eth).tun (parsePass ⟨0x88A8, 4789, false⟩ (List.replicate 12 2 ++ [0x12, 0x34] ++ List.replicate 50 7) 0 .eth).tunId (parsePass ⟨0x88A8, 4789, false⟩ (List.replicate 12 2 ++ [0x12, 0x34] ++ List.replicate 50 7) 0 .eth)) },
     (maskDests 0x0FFFFFEF), by decide +kernel⟩,
   ⟨{ ((((base.setOwner 3 1).wr (R.CLS_SRC_DEF_LO 4) 1).setFld (F.FWD_PORT_CFG_LEARN 4) 0).setFld (F.CLS_SRC_CFG_RULE_SET 4) 2) with clsIn := [{ buf := 3, bytes := List.replicate 12 2 ++ [0x12, 0x34] ++ List.replicate 50 7, src := 4 }], cls := { (base.cls) with rules := [(16390, some { set := 2, key := 0, action := 0x2518 })] }, fwd := { base.fwd with flood := [(0, 0)] } },
     { buf := 3, bytes := List.replicate 12 2 ++ [0x12, 0x34] ++ List.replicate 50 7, src := 4 }, [],
     parsePass ⟨0x88A8, 4789, false⟩ (List.replicate 12 2 ++ [0x12, 0x34] ++ List.replicate 50 7) 0 .eth, 0x2518, 0,
     { ((⟨({ ((((base.setOwner 3 1).wr (R.CLS_SRC_DEF_LO 4) 1).setFld (F.FWD_PORT_CFG_LEARN 4) 0).setFld (F.CLS_SRC_CFG_RULE_SET 4) 2) with clsIn := [{ buf := 3, bytes := List.replicate 12 2 ++ [0x12, 0x34] ++ List.replicate 50 7, src := 4 }], cls := { (base.cls) with rules := [(16390, some { set := 2, key := 0, action := 0x2518 })] } } : State).baseMeta { ({ buf := 3, bytes := List.replicate 12 2 ++ [0x12, 0x34] ++ List.replicate 50 7, src := 4 } : Frame) with ver := 0 }, 2⟩ : Meta).apply 0x2518).f with exc := 0, vid0 := bitsOf (clsKey 4 false (parsePass ⟨0x88A8, 4789, false⟩ (List.replicate 12 2 ++ [0x12, 0x34] ++ List.replicate 50 7) 0 .eth).tun (parsePass ⟨0x88A8, 4789, false⟩ (List.replicate 12 2 ++ [0x12, 0x34] ++ List.replicate 50 7) 0 .eth).tunId (parsePass ⟨0x88A8, 4789, false⟩ (List.replicate 12 2 ++ [0x12, 0x34] ++ List.replicate 50 7) 0 .eth)) 35 24, hash := flowHash ((⟨({ ((((base.setOwner 3 1).wr (R.CLS_SRC_DEF_LO 4) 1).setFld (F.FWD_PORT_CFG_LEARN 4) 0).setFld (F.CLS_SRC_CFG_RULE_SET 4) 2) with clsIn := [{ buf := 3, bytes := List.replicate 12 2 ++ [0x12, 0x34] ++ List.replicate 50 7, src := 4 }], cls := { (base.cls) with rules := [(16390, some { set := 2, key := 0, action := 0x2518 })] } } : State).baseMeta { ({ buf := 3, bytes := List.replicate 12 2 ++ [0x12, 0x34] ++ List.replicate 50 7, src := 4 } : Frame) with ver := 0 }, 2⟩ : Meta).apply 0x2518).hashSel (clsKey 4 false (parsePass ⟨0x88A8, 4789, false⟩ (List.replicate 12 2 ++ [0x12, 0x34] ++ List.replicate 50 7) 0 .eth).tun (parsePass ⟨0x88A8, 4789, false⟩ (List.replicate 12 2 ++ [0x12, 0x34] ++ List.replicate 50 7) 0 .eth).tunId (parsePass ⟨0x88A8, 4789, false⟩ (List.replicate 12 2 ++ [0x12, 0x34] ++ List.replicate 50 7) 0 .eth)) },
     [], by decide +kernel⟩,
   ⟨{ ((((base.setOwner 3 1).wr (R.CLS_SRC_DEF_LO 4) 1).setFld (F.FWD_PORT_CFG_LEARN 4) 0).setFld (F.CLS_SRC_CFG_RULE_SET 4) 2) with clsIn := [{ buf := 3, bytes := List.replicate 12 2 ++ [0x12, 0x34] ++ List.replicate 50 7, src := 4 }], cls := { (base.cls) with rules := [(16390, some { set := 2, key := 0, action := 4 })] } },
     { buf := 3, bytes := List.replicate 12 2 ++ [0x12, 0x34] ++ List.replicate 50 7, src := 4 }, [],
     parsePass ⟨0x88A8, 4789, false⟩ (List.replicate 12 2 ++ [0x12, 0x34] ++ List.replicate 50 7) 0 .eth, 4, 0,
     by decide +kernel⟩⟩

theorem wit_ClassifierTablesChangeByVersions :
    (∃ (s : State) (p : Pkt),
      Taken 0x3001 p s ∧ p.length = 38 ∧ p.target.toNat < 8192 ∧
        leAt p.bytes 0 68 &&& leAt p.bytes 68 68 = leAt p.bytes 0 68 ∧ leAt p.bytes 138 1 ≤ 3 ∧
        leAt p.bytes 139 1 = 0 ∧ leAt p.bytes 149 3 = 0 ∧ leAt p.bytes 140 8 < 2 ^ 42 ∧
        s.ruleAt (8192 * leAt p.bytes 138 1 + p.target.toNat) = none) ∧
    (∃ (s : State) (p : Pkt) (e : ClsEntry),
      Taken 0x3002 p s ∧ p.length = 1 ∧ p.target.toNat < 8192 ∧ p.w 0 ≤ 3 ∧
        s.ruleAt (8192 * p.w 0 + p.target.toNat) = some e ∧ e.addV ≠ some ((s.cls.ver + 1) % 8) ∧ e.delV = none) ∧
    (∃ (s : State) (p : Pkt) (e : ClsEntry),
      Taken 0x3002 p s ∧ p.length = 1 ∧ p.target.toNat < 8192 ∧ p.w 0 ≤ 3 ∧
        s.ruleAt (8192 * p.w 0 + p.target.toNat) = some e ∧ e.addV = some ((s.cls.ver + 1) % 8)) ∧
    (∃ (s : State) (p : Pkt) (i : Nat),
      Taken 0x3003 p s ∧ p.length = 20 ∧ p.target = 0 ∧ leAt p.bytes 0 4 ≤ 3 ∧
        leAt p.bytes 4 68 &&& s.flowMask (leAt p.bytes 0 4) = leAt p.bytes 4 68 ∧ leAt p.bytes 72 8 < 2 ^ 42 ∧
        (flowPlaces (flowSet (leAt p.bytes 0 4) (leAt p.bytes 4 68))).find? (fun k => (s.flowAt k).isNone) = some i ∧
        (flowPlaces (flowSet (leAt p.bytes 0 4) (leAt p.bytes 4 68))).all (fun k => (s.flowAt k).all (fun e => e.key != leAt p.bytes 4 68 || e.set != leAt p.bytes 0 4 || !e.visible ((s.cls.ver +
        1) % 8))) = true) ∧
    (∃ (s : State) (p : Pkt) (i : Nat) (e : ClsEntry),
      Taken 0x3004 p s ∧ p.length = 20 ∧ p.target = 0 ∧ leAt p.bytes 0 4 ≤ 3 ∧
        i ∈ flowPlaces (flowSet (leAt p.bytes 0 4) (leAt p.bytes 4 68)) ∧ s.flowAt i = some e ∧
        e.set = leAt p.bytes 0 4 ∧ e.key = leAt p.bytes 4 68 ∧ e.delV = none ∧ e.addV ≠ some ((s.cls.ver + 1) % 8) ∧
        (flowPlaces (flowSet (leAt p.bytes 0 4) (leAt p.bytes 4 68))).all (fun k => k == i || (s.flowAt k).all (fun e => e.key != leAt p.bytes 4 68 || e.set != leAt p.bytes 0 4)) =
        true) ∧
    (∃ (s : State) (p : Pkt) (i : Nat) (e : ClsEntry),
      Taken 0x3004 p s ∧ p.length = 20 ∧ p.target = 0 ∧ leAt p.bytes 0 4 ≤ 3 ∧
        i ∈ flowPlaces (flowSet (leAt p.bytes 0 4) (leAt p.bytes 4 68)) ∧ s.flowAt i = some e ∧
        e.set = leAt p.bytes 0 4 ∧ e.key = leAt p.bytes 4 68 ∧ e.addV = some ((s.cls.ver + 1) % 8) ∧
        (flowPlaces (flowSet (leAt p.bytes 0 4) (leAt p.bytes 4 68))).all (fun k => k == i || (s.flowAt k).all (fun e => e.key != leAt p.bytes 4 68 || e.set != leAt p.bytes 0 4)) =
        true) ∧
    (∃ (s : State) (p : Pkt),
      Taken 0x3005 p s ∧ p.length = 0 ∧ p.target = 0 ∧ s.cls.prev = none) ∧
    (∃ (s : State) (p : Pkt),
      Taken 0x3006 p s ∧ p.length = 0 ∧ p.target = 0 ∧ sparseWf (fun _ => none) s.cls.rules = true ∧
        sparseWf (fun _ => none) s.cls.flows = true) ∧
    (∃ (s : State) (p : Pkt),
      Taken 0x3007 p s ∧ p.length = 17 ∧ p.target.toNat < 4 ∧
        (leAt p.bytes 0 68 = s.flowMask p.target.toNat ∨
        s.cls.flows.all (fun x => x.2.all (fun e => e.set != p.target.toNat)) = true)) ∧
    (∃ (s : State) (p : Pkt),
      Taken 0x3008 p s ∧ p.length = 5 ∧ p.target.toNat < 28) ∧
    (∃ (s : State) (p : Pkt),
      Taken 0x3009 p s ∧ p.length = 1 ∧ p.target = 0) ∧
    (∃ (s : State) (p : Pkt),
      Taken 0x3001 p s ∧ p.length = 38 ∧ p.target.toNat < 8192 ∧
        (leAt p.bytes 0 68 &&& leAt p.bytes 68 68 ≠ leAt p.bytes 0 68 ∨ 3 < leAt p.bytes 138 1 ∨
        leAt p.bytes 139 1 ≠ 0 ∨ leAt p.bytes 149 3 ≠ 0 ∨ 2 ^ 42 ≤ leAt p.bytes 140 8)) ∧
    (∃ (s : State) (p : Pkt),
      Taken 0x3001 p s ∧ p.length = 38 ∧ p.target.toNat < 8192 ∧
        leAt p.bytes 0 68 &&& leAt p.bytes 68 68 = leAt p.bytes 0 68 ∧ leAt p.bytes 138 1 ≤ 3 ∧
        leAt p.bytes 139 1 = 0 ∧ leAt p.bytes 149 3 = 0 ∧ leAt p.bytes 140 8 < 2 ^ 42 ∧
        s.ruleAt (8192 * leAt p.bytes 138 1 + p.target.toNat) ≠ none) ∧
    (∃ (s : State) (p : Pkt),
      Taken 0x3002 p s ∧ p.length = 1 ∧ p.target.toNat < 8192 ∧ 3 < p.w 0) ∧
    (∃ (s : State) (p : Pkt),
      Taken 0x3002 p s ∧ p.length = 1 ∧ p.target.toNat < 8192 ∧ p.w 0 ≤ 3 ∧
        (s.ruleAt (8192 * p.w 0 + p.target.toNat)).all (fun e => e.addV != some ((s.cls.ver +
        1) % 8) && e.delV.isSome) = true) ∧
    (∃ (s : State) (p : Pkt),
      Taken 0x3003 p s ∧ p.length = 20 ∧ p.target = 0 ∧
        (3 < leAt p.bytes 0 4 ∨ leAt p.bytes 4 68 &&& s.flowMask (leAt p.bytes 0 4) ≠ leAt p.bytes 4 68 ∨
        2 ^ 42 ≤ leAt p.bytes 72 8 ∨ (flowPlaces (flowSet (leAt p.bytes 0 4) (leAt p.bytes 4 68))).any (fun k => (s.flowAt k).any (fun e => e.key == leAt p.bytes 4 68 && e.set == leAt p.bytes 0 4 && e.visible ((s.cls.ver +
        1) % 8))) = true)) ∧
    (∃ (s : State) (p : Pkt),
      Taken 0x3003 p s ∧ p.length = 20 ∧ p.target = 0 ∧ leAt p.bytes 0 4 ≤ 3 ∧
        leAt p.bytes 4 68 &&& s.flowMask (leAt p.bytes 0 4) = leAt p.bytes 4 68 ∧ leAt p.bytes 72 8 < 2 ^ 42 ∧
        (flowPlaces (flowSet (leAt p.bytes 0 4) (leAt p.bytes 4 68))).all (fun k => (s.flowAt k).any (fun e => e.key != leAt p.bytes 4 68 || e.set != leAt p.bytes 0 4 || !e.visible ((s.cls.ver +
        1) % 8))) = true) ∧
    (∃ (s : State) (p : Pkt),
      Taken 0x3004 p s ∧ p.length = 20 ∧ p.target = 0 ∧ 3 < leAt p.bytes 0 4) ∧
    (∃ (s : State) (p : Pkt),
      Taken 0x3004 p s ∧ p.length = 20 ∧ p.target = 0 ∧ leAt p.bytes 0 4 ≤ 3 ∧
        (flowPlaces (flowSet (leAt p.bytes 0 4) (leAt p.bytes 4 68))).all (fun k => (s.flowAt k).all (fun e => e.key != leAt p.bytes 4 68 || e.set != leAt p.bytes 0 4 || (e.addV != some ((s.cls.ver +
        1) % 8) && e.delV.isSome))) = true) ∧
    (∃ (s : State) (p : Pkt),
      Taken 0x3005 p s ∧ p.length = 0 ∧ p.target = 0 ∧ s.cls.prev ≠ none) ∧
    (∃ (s : State) (p : Pkt),
      Taken 0x3007 p s ∧ p.length = 17 ∧ p.target.toNat < 4 ∧ leAt p.bytes 0 68 ≠ s.flowMask p.target.toNat ∧
        s.cls.flows.any (fun x => x.2.any (fun e => e.set == p.target.toNat)) = true) ∧
    (∃ (s : State) (p : Pkt),
      Taken 0x3001 p s ∧ p.length = 38 ∧ 8192 ≤ p.target.toNat) ∧
    (∃ (s : State) (p : Pkt),
      Taken 0x3002 p s ∧ p.length = 1 ∧ 8192 ≤ p.target.toNat) ∧
    (∃ (s : State) (p : Pkt),
      Taken 0x3003 p s ∧ p.length = 20 ∧ p.target ≠ 0) ∧
    (∃ (s : State) (p : Pkt),
      Taken 0x3004 p s ∧ p.length = 20 ∧ p.target ≠ 0) ∧
    (∃ (s : State) (p : Pkt),
      Taken 0x3005 p s ∧ p.length = 0 ∧ p.target ≠ 0) ∧
    (∃ (s : State) (p : Pkt),
      Taken 0x3006 p s ∧ p.length = 0 ∧ p.target ≠ 0) ∧
    (∃ (s : State) (p : Pkt),
      Taken 0x3007 p s ∧ p.length = 17 ∧ 4 ≤ p.target.toNat) ∧
    (∃ (s : State) (p : Pkt),
      Taken 0x3008 p s ∧ p.length = 5 ∧ 28 ≤ p.target.toNat) ∧
    (∃ (s : State) (p : Pkt),
      Taken 0x3009 p s ∧ p.length = 1 ∧ p.target ≠ 0) ∧
    (∃ (s : State),
      s.cls.prev = none) ∧
    (∃ (s : State),
      s.cls.sweep = false) ∧
    (∃ (s : State) (v : Nat),
      s.cls.prev = some v ∧ s.inflight v = 0) ∧
    (∃ (s : State) (v : Nat),
      s.cls.prev = some v ∧ s.inflight v ≠ 0) ∧
    (∃ (s : State) (v : Nat),
      s.cls.prev = some v ∧ s.cls.sweep = true ∧ (s.source 0x0080).queue.length < 16 ∧
        sparseWf (fun _ => none) s.cls.rules = true ∧ sparseWf (fun _ => none) s.cls.flows = true) ∧
    (∃ (s : State) (set : Fin 512) (way : Fin 4) (e : FragEntry),
      s.fragAt (4 * set.val + way.val) = some e ∧ s.fragExpired e = true) ∧
    (∃ (s : State) (set : Fin 512) (way : Fin 4),
      (s.fragAt (4 * set.val + way.val)).all (fun e => !s.fragExpired e) = true) :=
  ⟨⟨ready 3, pk 3 77 (List.replicate 17 0 ++ List.replicate 17 0xFFFFFFFF ++ [0x00010005, 1, 0, 0]),
    by decide +kernel⟩,
   ⟨(ready 3).setRule 8199 (some { set := 1, key := 0, action := 1 }), pk 3 7 [1],
     { set := 1, key := 0, action := 1 }, by decide +kernel⟩,
   ⟨(ready 3).setRule 8199 (some { set := 1, key := 0, action := 1, addV := some 1 }), pk 3 7 [1],
     { set := 1, key := 0, action := 1, addV := some 1 }, by decide +kernel⟩,
   ⟨ready 3, pk 3 0 (List.replicate 20 0), 4 * flowSet 0 0, by decide +kernel⟩,
   ⟨(ready 3).setFlow (4 * flowSet 0 0 + 2) (some { set := 0, key := 0, action := 1 }),
     pk 3 0 (List.replicate 20 0), 4 * flowSet 0 0 + 2, { set := 0, key := 0, action := 1 }, by decide +kernel⟩,
   ⟨(ready 3).setFlow (4 * flowSet 0 0 + 2) (some { set := 0, key := 0, action := 1, addV := some 1 }),
     pk 3 0 (List.replicate 20 0), 4 * flowSet 0 0 + 2, { set := 0, key := 0, action := 1, addV := some 1 },
     by decide +kernel⟩,
   ⟨ready 3, pk 3 0 [], by decide +kernel⟩,
   ⟨(ready 3).setRule 8199 (some { set := 1, key := 0, action := 1, addV := some 1 }), pk 3 0 [], by decide +kernel⟩,
   ⟨ready 3, pk 3 2 (List.replicate 17 9), by decide +kernel⟩,
   ⟨ready 3, pk 3 27 [0xFFFFFFFF, 1, 2, 3, 4], by decide +kernel⟩,
   ⟨ready 3, pk 3 0 [0xFFFFFFFF], by decide +kernel⟩,
   ⟨ready 3, pk 3 77 (List.replicate 38 0xFFFFFFFF), by decide +kernel⟩,
   ⟨(ready 3).setRule 8269 (some { set := 1, key := 0, action := 1 }),
     pk 3 77 (List.replicate 17 0 ++ List.replicate 17 0xFFFFFFFF ++ [0x00010005, 1, 0, 0]), by decide +kernel⟩,
   ⟨ready 3, pk 3 7 [4], by decide +kernel⟩,
   ⟨ready 3, pk 3 7 [1], by decide +kernel⟩,
   ⟨ready 3, pk 3 0 (List.replicate 20 9), by decide +kernel⟩,
   ⟨((((ready 3).setFlow (4 * flowSet 0 0) (some { set := 1, key := 0, action := 1 })).setFlow (4 * flowSet 0 0 +
     1) (some { set := 1, key := 0, action := 1 })).setFlow (4 * flowSet 0 0 +
     2) (some { set := 1, key := 0, action := 1 })).setFlow (4 * flowSet 0 0 +
     3) (some { set := 1, key := 0, action := 1 }), pk 3 0 (List.replicate 20 0), by decide +kernel⟩,
   ⟨ready 3, pk 3 0 (List.replicate 20 9), by decide +kernel⟩,
   ⟨ready 3, pk 3 0 (List.replicate 20 0), by decide +kernel⟩,
   ⟨{ (ready 3) with cls := { base.cls with prev := some 0, ver := 1 } }, pk 3 0 [], by decide +kernel⟩,
   ⟨(ready 3).setFlow 9 (some { set := 2, key := 0, action := 1 }), pk 3 2 (List.replicate 17 9), by decide +kernel⟩,
   ⟨ready 3, pk 3 9999 (List.replicate 38 0), by decide +kernel⟩,
   ⟨ready 3, pk 3 9999 (List.replicate 1 0), by decide +kernel⟩,
   ⟨ready 3, pk 3 9999 (List.replicate 20 0), by decide +kernel⟩,
   ⟨ready 3, pk 3 9999 (List.replicate 20 0), by decide +kernel⟩,
   ⟨ready 3, pk 3 9999 (List.replicate 0 0), by decide +kernel⟩,
   ⟨ready 3, pk 3 9999 (List.replicate 0 0), by decide +kernel⟩,
   ⟨ready 3, pk 3 9999 (List.replicate 17 0), by decide +kernel⟩,
   ⟨ready 3, pk 3 9999 (List.replicate 5 0), by decide +kernel⟩,
   ⟨ready 3, pk 3 9999 (List.replicate 1 0), by decide +kernel⟩,
   ⟨base, by decide +kernel⟩,
   ⟨base, by decide +kernel⟩,
   ⟨{ base with cls := { base.cls with prev := some 0, ver := 1 } }, 0, by decide +kernel⟩,
   ⟨{ base with cls := { base.cls with prev := some 0, ver := 1, inflight := [(0, 3)] } }, 0, by decide +kernel⟩,
   ⟨{ base with cls := { base.cls with prev := some 0, ver := 1, sweep := true, rules := [(5, some { set := 0, key := 0, action := 1, delV := some 1 })] } },
     0, by decide +kernel⟩,
   ⟨{ (base.setFrag 5 (some ⟨[1], 2, 0⟩)) with tick := { base.tick with count := 480 } }, 1, 1, ⟨[1], 2, 0⟩,
     by decide +kernel⟩,
   ⟨base.setFrag 5 (some ⟨[1], 2, 0⟩), 1, 1, by decide +kernel⟩⟩

theorem wit_ForwardingEntriesAreLearnedRefreshedMovedAndAged :
    (∃ (s : State) (r : FwdReq) (rs : List FwdReq) (i : Nat),
      s.fwd.reqs = r :: rs ∧ r.kind = .learn ∧ s.fwdFind r.fid r.mac = none ∧ s.atLimit r.src = false ∧
        (s.freeWay (bucketsOf r.fid r.mac).1 = some i ∨ s.freeWay (bucketsOf r.fid r.mac).1 = none ∧
        s.freeWay (bucketsOf r.fid r.mac).2 = some i) ∧ s.count C.FWD_LEARNED < 0xFFFFFFFE) ∧
    (∃ (s : State) (r : FwdReq) (rs : List FwdReq),
      s.fwd.reqs = r :: rs ∧ r.kind = .learn ∧ s.fwdFind r.fid r.mac = none ∧ s.atLimit r.src = true ∧
        s.count C.FWD_LIMIT_HIT < 0xFFFFFFFE) ∧
    (∃ (s : State) (r : FwdReq) (rs : List FwdReq) (i : Nat) (e : FwdEntry),
      s.fwd.reqs = r :: rs ∧ r.kind = .refresh ∧ s.fwdFind r.fid r.mac = some i ∧ s.fwdAt i = some e ∧
        e.dest = r.dest ∧ e.static = false ∧ e.lock = false) ∧
    (∃ (s : State) (r : FwdReq) (rs : List FwdReq),
      s.fwd.reqs = r :: rs ∧ r.kind = .refresh ∧ s.fwdFind r.fid r.mac = none) ∧
    (∃ (s : State) (r : FwdReq) (rs : List FwdReq) (i : Nat) (e : FwdEntry),
      s.fwd.reqs = r :: rs ∧ r.kind = .move ∧ s.fwdFind r.fid r.mac = some i ∧ s.fwdAt i = some e ∧ e.dest ≠ r.dest ∧
        e.static = false ∧ e.lock = false ∧ s.atLimit r.src = false ∧ e.moves < s.moveLimit ∧
        clockSince s.fwd.ms e.mt < s.moveWindow ∧ s.count C.FWD_MOVES < 0xFFFFFFFE) ∧
    (∃ (s : State) (r : FwdReq) (rs : List FwdReq) (i : Nat) (e : FwdEntry),
      s.fwd.reqs = r :: rs ∧ r.kind = .move ∧ s.fwdFind r.fid r.mac = some i ∧ s.fwdAt i = some e ∧ e.dest ≠ r.dest ∧
        e.static = false ∧ e.lock = false ∧ s.atLimit r.src = false ∧ s.moveLimit ≤ e.moves ∧
        clockSince s.fwd.ms e.mt < s.moveWindow ∧ (s.source 0x0082).queue.length < 16) ∧
    (∃ (s : State) (r : FwdReq) (rs : List FwdReq) (i : Nat) (e : FwdEntry),
      s.fwd.reqs = r :: rs ∧ r.kind = .move ∧ s.fwdFind r.fid r.mac = some i ∧ s.fwdAt i = some e ∧ e.dest ≠ r.dest ∧
        e.static = true) ∧
    (∃ (s : State) (r : FwdReq) (rs : List FwdReq) (i : Nat) (e : FwdEntry),
      s.fwd.reqs = r :: rs ∧ r.kind = .age ∧ s.fwdFind r.fid r.mac = some i ∧ s.fwdAt i = some e ∧ s.aged e = true ∧
        i < stashBase ∧ s.stashUsed = [] ∧ s.count C.FWD_AGED < 0xFFFFFFFE) ∧
    (∃ (s : State) (r : FwdReq) (rs : List FwdReq) (i : Nat) (e : FwdEntry),
      s.fwd.reqs = r :: rs ∧ r.kind = .age ∧ s.fwdFind r.fid r.mac = some i ∧ s.fwdAt i = some e ∧ s.aged e = false) ∧
    (∃ (s : State),
      s.fwd.flush = none ∧ s.fwd.scan < 32768 ∧ (∀ k < 4, s.fwdAt (4 * s.fwd.scan + k) = none)) ∧
    (∃ (s : State) (k : Nat) (e : FwdEntry),
      s.fwd.flush = none ∧ s.fwd.scan < 32768 ∧ k < 4 ∧ s.fwdAt (4 * s.fwd.scan + k) = some e ∧
        (∀ j < 4, j = k ∨ s.fwdAt (4 * s.fwd.scan + j) = none) ∧ s.aged e = true ∧ s.fwd.reqs = []) ∧
    (∃ (s : State) (k : Nat) (e : FwdEntry) (fl : Flush),
      s.fwd.flush = some fl ∧ 0 < fl.left ∧ s.fwd.scan < 32768 ∧ k < 4 ∧ s.fwdAt (4 * s.fwd.scan + k) = some e ∧
        (∀ j < 4, j = k ∨ s.fwdAt (4 * s.fwd.scan + j) = none) ∧ e.dest = fl.dest ∧
        (e.static = false ∨ fl.static = true) ∧ s.stashUsed = []) ∧
    (∃ (s : State),
      s.fwd.reqs = []) ∧
    (∃ (s : State),
      s.fwd.reqs = []) ∧
    (∃ (s : State),
      s.fwd.reqs = []) ∧
    (∃ (s : State),
      s.fwd.reqs = []) ∧
    (∃ (s : State) (r : FwdReq) (rs : List FwdReq),
      s.fwd.reqs = r :: rs ∧ r.kind ≠ .learn) ∧
    (∃ (s : State) (r : FwdReq) (rs : List FwdReq),
      s.fwd.reqs = r :: rs ∧ r.kind ≠ .refresh) ∧
    (∃ (s : State) (r : FwdReq) (rs : List FwdReq),
      s.fwd.reqs = r :: rs ∧ r.kind ≠ .move) ∧
    (∃ (s : State) (r : FwdReq) (rs : List FwdReq),
      s.fwd.reqs = r :: rs ∧ r.kind ≠ .age ∧ r.kind ≠ .parity) ∧
    (∃ (s : State) (r : FwdReq) (rs : List FwdReq) (i : Nat) (e : FwdEntry),
      s.fwd.reqs = r :: rs ∧ r.kind = .learn ∧ s.fwdFind r.fid r.mac = some i ∧ s.fwdAt i = some e ∧
        e.dest = r.dest ∧ e.static = false ∧ e.lock = false) ∧
    (∃ (s : State) (r : FwdReq) (rs : List FwdReq) (i : Nat) (e : FwdEntry),
      s.fwd.reqs = r :: rs ∧ r.kind = .learn ∧ s.fwdFind r.fid r.mac = some i ∧ s.fwdAt i = some e ∧
        (e.static = true ∨ e.lock = true)) ∧
    (∃ (s : State) (r : FwdReq) (rs : List FwdReq) (i : Nat) (e : FwdEntry),
      s.fwd.reqs = r :: rs ∧ r.kind = .learn ∧ s.fwdFind r.fid r.mac = some i ∧ s.fwdAt i = some e ∧
        e.dest ≠ r.dest) ∧
    (∃ (s : State) (r : FwdReq) (rs : List FwdReq) (m : Nat × Nat) (ms : List (Nat × Nat)),
      s.fwd.reqs = r :: rs ∧ r.kind = .learn ∧ s.fwdFind r.fid r.mac = none ∧ s.atLimit r.src = false ∧
        s.freeWay (bucketsOf (r.fid) (r.mac)).1 = none ∧ s.freeWay (bucketsOf (r.fid) (r.mac)).2 = none ∧
        (s.findPath s.maxKicks (bucketPlaces (bucketsOf (r.fid) (r.mac)).1 ++
        bucketPlaces (bucketsOf (r.fid) (r.mac)).2) ((bucketPlaces (bucketsOf (r.fid) (r.mac)).1 ++
        bucketPlaces (bucketsOf (r.fid) (r.mac)).2).map (fun q => [q]))) = some ms ∧ s.movesAllowed ms = true ∧
        ms.getLast? = some m) ∧
    (∃ (s : State) (r : FwdReq) (rs : List FwdReq) (a b : Nat) (z : FwdEntry),
      s.fwd.reqs = r :: rs ∧ r.kind = .learn ∧ s.fwdFind r.fid r.mac = none ∧ s.atLimit r.src = false ∧
        s.freeWay (bucketsOf (r.fid) (r.mac)).1 = none ∧ s.freeWay (bucketsOf (r.fid) (r.mac)).2 = none ∧
        (s.findPath s.maxKicks (bucketPlaces (bucketsOf (r.fid) (r.mac)).1 ++
        bucketPlaces (bucketsOf (r.fid) (r.mac)).2) ((bucketPlaces (bucketsOf (r.fid) (r.mac)).1 ++
        bucketPlaces (bucketsOf (r.fid) (r.mac)).2).map (fun q => [q]))) = some [(a, b)] ∧
        s.movesAllowed [(a, b)] = true ∧ s.fwdAt a = some z ∧ a ≠ b) ∧
    (∃ (s : State) (r : FwdReq) (rs : List FwdReq) (i : Nat),
      s.fwd.reqs = r :: rs ∧ r.kind = .learn ∧ s.fwdFind r.fid r.mac = none ∧ s.atLimit r.src = false ∧
        s.freeWay (bucketsOf (r.fid) (r.mac)).1 = none ∧ s.freeWay (bucketsOf (r.fid) (r.mac)).2 = none ∧
        ((s.findPath s.maxKicks (bucketPlaces (bucketsOf (r.fid) (r.mac)).1 ++
        bucketPlaces (bucketsOf (r.fid) (r.mac)).2) ((bucketPlaces (bucketsOf (r.fid) (r.mac)).1 ++
        bucketPlaces (bucketsOf (r.fid) (r.mac)).2).map (fun q => [q]))) = none ∨
        (s.findPath s.maxKicks (bucketPlaces (bucketsOf (r.fid) (r.mac)).1 ++
        bucketPlaces (bucketsOf (r.fid) (r.mac)).2) ((bucketPlaces (bucketsOf (r.fid) (r.mac)).1 ++
        bucketPlaces (bucketsOf (r.fid) (r.mac)).2).map (fun q => [q]))).map s.movesAllowed = some false) ∧
        s.freeStash = some i ∧ s.count C.FWD_LEARNED < 0xFFFFFFFE) ∧
    (∃ (s : State) (r : FwdReq) (rs : List FwdReq),
      s.fwd.reqs = r :: rs ∧ r.kind = .learn ∧ s.fwdFind r.fid r.mac = none ∧ s.atLimit r.src = false ∧
        s.freeWay (bucketsOf (r.fid) (r.mac)).1 = none ∧ s.freeWay (bucketsOf (r.fid) (r.mac)).2 = none ∧
        (s.findPath s.maxKicks (bucketPlaces (bucketsOf (r.fid) (r.mac)).1 ++
        bucketPlaces (bucketsOf (r.fid) (r.mac)).2) ((bucketPlaces (bucketsOf (r.fid) (r.mac)).1 ++
        bucketPlaces (bucketsOf (r.fid) (r.mac)).2).map (fun q => [q]))) = none ∧ s.freeStash = none ∧
        s.count C.FWD_TABLE_FULL < 0xFFFFFFFE) ∧
    (∃ (s : State) (r : FwdReq) (rs : List FwdReq) (i : Nat) (e : FwdEntry),
      s.fwd.reqs = r :: rs ∧ r.kind = .refresh ∧ s.fwdFind r.fid r.mac = some i ∧ s.fwdAt i = some e ∧
        (e.dest ≠ r.dest ∨ e.static = true ∨ e.lock = true)) ∧
    (∃ (s : State) (r : FwdReq) (rs : List FwdReq) (i : Nat) (e : FwdEntry),
      s.fwd.reqs = r :: rs ∧ r.kind = .move ∧ s.fwdFind r.fid r.mac = some i ∧ s.fwdAt i = some e ∧ e.dest = r.dest ∧
        e.static = false ∧ e.lock = false) ∧
    (∃ (s : State) (r : FwdReq) (rs : List FwdReq),
      s.fwd.reqs = r :: rs ∧ r.kind = .move ∧ s.fwdFind r.fid r.mac = none) ∧
    (∃ (s : State) (r : FwdReq) (rs : List FwdReq) (i : Nat) (e : FwdEntry),
      s.fwd.reqs = r :: rs ∧ r.kind = .move ∧ s.fwdFind r.fid r.mac = some i ∧ s.fwdAt i = some e ∧ e.lock = true) ∧
    (∃ (s : State) (r : FwdReq) (rs : List FwdReq) (i : Nat) (e : FwdEntry),
      s.fwd.reqs = r :: rs ∧ r.kind = .move ∧ s.fwdFind r.fid r.mac = some i ∧ s.fwdAt i = some e ∧ e.dest ≠ r.dest ∧
        e.static = false ∧ e.lock = false ∧ r.src ≠ e.src ∧ s.atLimit r.src = true ∧
        s.count C.FWD_LIMIT_HIT < 0xFFFFFFFE) ∧
    (∃ (s : State) (r : FwdReq) (rs : List FwdReq) (i : Nat) (e : FwdEntry),
      s.fwd.reqs = r :: rs ∧ r.kind = .move ∧ s.fwdFind r.fid r.mac = some i ∧ s.fwdAt i = some e ∧ e.dest ≠ r.dest ∧
        e.static = false ∧ e.lock = false ∧ (r.src = e.src ∨ s.atLimit r.src = false) ∧
        s.moveWindow ≤ clockSince s.fwd.ms e.mt ∧ 1 ≤ s.moveLimit ∧ s.count C.FWD_MOVES < 0xFFFFFFFE) ∧
    (∃ (s : State) (r : FwdReq) (rs : List FwdReq),
      s.fwd.reqs = r :: rs ∧ r.kind = .age ∧ s.fwdFind r.fid r.mac = none) ∧
    (∃ (s : State) (r : FwdReq) (rs : List FwdReq),
      s.fwd.reqs = r :: rs ∧ r.kind = .parity ∧ s.fwdFind r.fid r.mac = none) ∧
    (∃ (s : State) (r : FwdReq) (rs : List FwdReq) (i : Nat) (e : FwdEntry),
      s.fwd.reqs = r :: rs ∧ r.kind = .parity ∧ s.fwdFind r.fid r.mac = some i ∧ s.fwdAt i = some e ∧
        (s.parityBad 2 i = false ∨ e.static = true)) ∧
    (∃ (s : State) (r : FwdReq) (rs : List FwdReq) (i : Nat) (e : FwdEntry),
      s.fwd.reqs = r :: rs ∧ r.kind = .parity ∧ s.fwdFind r.fid r.mac = some i ∧ s.fwdAt i = some e ∧
        s.parityBad 2 i = true ∧ e.static = false ∧ (stashBase ≤ i ∨ (s.setFwdAt i none).stashFor (i / 4) = none)) ∧
    (∃ (s : State) (r : FwdReq) (rs : List FwdReq) (i : Nat) (e : FwdEntry),
      s.fwd.reqs = r :: rs ∧ r.kind = .age ∧ s.fwdFind r.fid r.mac = some i ∧ s.fwdAt i = some e ∧ s.aged e = true ∧
        (stashBase ≤ i ∨ (s.setFwdAt i none).stashFor (i / 4) = none) ∧ s.count C.FWD_AGED < 0xFFFFFFFE) ∧
    (∃ (s : State) (r : FwdReq) (rs : List FwdReq) (i : Nat) (e : FwdEntry) (k : Nat) (z : FwdEntry),
      s.fwd.reqs = r :: rs ∧ r.kind = .age ∧ s.fwdFind r.fid r.mac = some i ∧ s.fwdAt i = some e ∧ s.aged e = true ∧
        i < stashBase ∧ (s.setFwdAt i none).stashFor (i / 4) = some k ∧ s.fwdAt k = some z ∧
        s.movesAllowed [(k, i)] = true) ∧
    (∃ (s : State) (fl : Flush),
      s.fwd.flush = some fl ∧ fl.left = 0) ∧
    (∃ (s : State) (fl : Flush),
      s.fwd.flush = some fl ∧ 0 < fl.left ∧ s.fwd.scan < 32768 ∧ (∀ k < 4, s.fwdAt (4 * s.fwd.scan + k) = none)) ∧
    (∃ (s : State),
      s.fwd.flush = none ∧ 32768 ≤ s.fwd.scan ∧ s.fwdAt (stashBase + (s.fwd.scan - 32768)) = none) ∧
    (∃ (s : State) (e : FwdEntry),
      s.fwd.flush = none ∧ 32768 ≤ s.fwd.scan ∧ s.fwdAt (stashBase + (s.fwd.scan - 32768)) = some e) ∧
    (∃ (s : State) (k : Nat) (e : FwdEntry),
      s.fwd.flush = none ∧ s.fwd.scan < 32768 ∧ k < 4 ∧ s.fwdAt (4 * s.fwd.scan + k) = some e ∧
        (∀ j < 4, j = k ∨ s.fwdAt (4 * s.fwd.scan + j) = none) ∧ e.lock = true ∧
        s.lockTime ≤ clockSince s.fwd.sec e.mt) ∧
    (∃ (s : State) (k : Nat) (e : FwdEntry),
      s.fwd.flush = none ∧ s.fwd.scan < 32768 ∧ k < 4 ∧ s.fwdAt (4 * s.fwd.scan + k) = some e ∧
        (∀ j < 4, j = k ∨ s.fwdAt (4 * s.fwd.scan + j) = none) ∧ s.scanOne (4 * s.fwd.scan + k) e = s) ∧
    (∃ (s : State) (k : Nat) (e : FwdEntry) (fl : Flush),
      s.fwd.flush = some fl ∧ 0 < fl.left ∧ s.fwd.scan < 32768 ∧ k < 4 ∧ s.fwdAt (4 * s.fwd.scan + k) = some e ∧
        (∀ j < 4, j = k ∨ s.fwdAt (4 * s.fwd.scan + j) = none) ∧ (e.dest ≠ fl.dest ∨ (e.static = true ∧
        fl.static = false)) ∧ s.aged e = false ∧ e.lock = false) ∧
    (∃ (s : State) (e : FwdEntry) (fl : Flush),
      s.fwd.flush = some fl ∧ 0 < fl.left ∧ 32768 ≤ s.fwd.scan ∧
        s.fwdAt (stashBase + (s.fwd.scan - 32768)) = some e ∧ e.dest = fl.dest ∧
        (e.static = false ∨ fl.static = true)) :=
  ⟨⟨(base.setFwd { base.fwd with reqs := [{ kind := .learn, mac := 0x020304050607, fid := 5, dest := 3, src := 3 }] }),
    { kind := .learn, mac := 0x020304050607, fid := 5, dest := 3, src := 3 }, [],
    4 * (bucketsOf 5 0x020304050607).1, by decide +kernel⟩,
   ⟨((base.setFwd { base.fwd with reqs := [{ kind := .learn, mac := 0x020304050607, fid := 5, dest := 3, src := 3 }], entries := [(9, some { mac := 1, fid := 1, dest := 3, src := 3 })] }).setFld (F.FWD_PORT_CFG_LIMIT 3) 1),
     { kind := .learn, mac := 0x020304050607, fid := 5, dest := 3, src := 3 }, [], by decide +kernel⟩,
   ⟨((base.setFwd { base.fwd with reqs := [{ kind := .refresh, mac := 0x020304050607, fid := 5, dest := 3, src := 3 }], now := 7 }).setFwdAt (4 *
     (bucketsOf 5 0x020304050607).1) (some { mac := 0x020304050607, fid := 5, dest := 3, src := 3 })),
     { kind := .refresh, mac := 0x020304050607, fid := 5, dest := 3, src := 3 }, [],
     4 * (bucketsOf 5 0x020304050607).1, { mac := 0x020304050607, fid := 5, dest := 3, src := 3 }, by decide +kernel⟩,
   ⟨(base.setFwd { base.fwd with reqs := [{ kind := .refresh, mac := 0x020304050607, fid := 5, dest := 3, src := 3 }] }),
     { kind := .refresh, mac := 0x020304050607, fid := 5, dest := 3, src := 3 }, [], by decide +kernel⟩,
   ⟨((base.setFwd { base.fwd with reqs := [{ kind := .move, mac := 0x020304050607, fid := 5, dest := 4, src := 4 }] }).setFwdAt (4 *
     (bucketsOf 5 0x020304050607).1) (some { mac := 0x020304050607, fid := 5, dest := 3, src := 3 })),
     { kind := .move, mac := 0x020304050607, fid := 5, dest := 4, src := 4 }, [],
     4 * (bucketsOf 5 0x020304050607).1, { mac := 0x020304050607, fid := 5, dest := 3, src := 3 }, by decide +kernel⟩,
   ⟨((base.setFwd { base.fwd with reqs := [{ kind := .move, mac := 0x020304050607, fid := 5, dest := 4, src := 4 }] }).setFwdAt (4 *
     (bucketsOf 5 0x020304050607).1) (some { mac := 0x020304050607, fid := 5, dest := 3, src := 3, moves := 4 })),
     { kind := .move, mac := 0x020304050607, fid := 5, dest := 4, src := 4 }, [],
     4 * (bucketsOf 5 0x020304050607).1, { mac := 0x020304050607, fid := 5, dest := 3, src := 3, moves := 4 },
     by decide +kernel⟩,
   ⟨((base.setFwd { base.fwd with reqs := [{ kind := .move, mac := 0x020304050607, fid := 5, dest := 4, src := 4 }] }).setFwdAt (4 *
     (bucketsOf 5 0x020304050607).1) (some { mac := 0x020304050607, fid := 5, dest := 3, src := 3, static := true })),
     { kind := .move, mac := 0x020304050607, fid := 5, dest := 4, src := 4 }, [],
     4 * (bucketsOf 5 0x020304050607).1, { mac := 0x020304050607, fid := 5, dest := 3, src := 3, static := true },
     by decide +kernel⟩,
   ⟨((base.setFwd { base.fwd with reqs := [{ kind := .age, mac := 0x020304050607, fid := 5, dest := 3, src := 3 }], now := 9 }).setFwdAt (4 *
     (bucketsOf 5 0x020304050607).1) (some { mac := 0x020304050607, fid := 5, dest := 3, src := 3 })).setFld F.FWD_AGE_CFG_LIMIT 5,
     { kind := .age, mac := 0x020304050607, fid := 5, dest := 3, src := 3 }, [], 4 * (bucketsOf 5 0x020304050607).1,
     { mac := 0x020304050607, fid := 5, dest := 3, src := 3 }, by decide +kernel⟩,
   ⟨((base.setFwd { base.fwd with reqs := [{ kind := .age, mac := 0x020304050607, fid := 5, dest := 3, src := 3 }] }).setFwdAt (4 *
     (bucketsOf 5 0x020304050607).1) (some { mac := 0x020304050607, fid := 5, dest := 3, src := 3 })),
     { kind := .age, mac := 0x020304050607, fid := 5, dest := 3, src := 3 }, [], 4 * (bucketsOf 5 0x020304050607).1,
     { mac := 0x020304050607, fid := 5, dest := 3, src := 3 }, by decide +kernel⟩,
   ⟨base, by decide +kernel⟩,
   ⟨((base.setFwd { base.fwd with now := 9 }).setFwdAt 2 (some { mac := 0x020304050607, fid := 5, dest := 3, src := 3 })).setFld F.FWD_AGE_CFG_LIMIT 5,
     2, { mac := 0x020304050607, fid := 5, dest := 3, src := 3 }, by decide +kernel⟩,
   ⟨(base.setFwd { base.fwd with flush := some { dest := 3, static := false, left := 9, func := 3, id := 1 } }).setFwdAt 2 (some { mac := 0x020304050607, fid := 5, dest := 3, src := 3 }),
     2, { mac := 0x020304050607, fid := 5, dest := 3, src := 3 },
     { dest := 3, static := false, left := 9, func := 3, id := 1 }, by decide +kernel⟩,
   ⟨base, by decide +kernel⟩,
   ⟨base, by decide +kernel⟩,
   ⟨base, by decide +kernel⟩,
   ⟨base, by decide +kernel⟩,
   ⟨(base.setFwd { base.fwd with reqs := [{ kind := .move, mac := 0x020304050607, fid := 5, dest := 3, src := 3 }] }),
     { kind := .move, mac := 0x020304050607, fid := 5, dest := 3, src := 3 }, [], by decide +kernel⟩,
   ⟨(base.setFwd { base.fwd with reqs := [{ kind := .move, mac := 0x020304050607, fid := 5, dest := 3, src := 3 }] }),
     { kind := .move, mac := 0x020304050607, fid := 5, dest := 3, src := 3 }, [], by decide +kernel⟩,
   ⟨(base.setFwd { base.fwd with reqs := [{ kind := .age, mac := 0x020304050607, fid := 5, dest := 3, src := 3 }] }),
     { kind := .age, mac := 0x020304050607, fid := 5, dest := 3, src := 3 }, [], by decide +kernel⟩,
   ⟨(base.setFwd { base.fwd with reqs := [{ kind := .move, mac := 0x020304050607, fid := 5, dest := 3, src := 3 }] }),
     { kind := .move, mac := 0x020304050607, fid := 5, dest := 3, src := 3 }, [], by decide +kernel⟩,
   ⟨((base.setFwd { base.fwd with reqs := [{ kind := .learn, mac := 0x020304050607, fid := 5, dest := 3, src := 3 }], now := 7 }).setFwdAt (4 *
     (bucketsOf 5 0x020304050607).1) (some { mac := 0x020304050607, fid := 5, dest := 3, src := 3 })),
     { kind := .learn, mac := 0x020304050607, fid := 5, dest := 3, src := 3 }, [],
     4 * (bucketsOf 5 0x020304050607).1, { mac := 0x020304050607, fid := 5, dest := 3, src := 3 }, by decide +kernel⟩,
   ⟨((base.setFwd { base.fwd with reqs := [{ kind := .learn, mac := 0x020304050607, fid := 5, dest := 4, src := 4 }] }).setFwdAt (4 *
     (bucketsOf 5 0x020304050607).1) (some { mac := 0x020304050607, fid := 5, dest := 3, src := 3, lock := true })),
     { kind := .learn, mac := 0x020304050607, fid := 5, dest := 4, src := 4 }, [],
     4 * (bucketsOf 5 0x020304050607).1, { mac := 0x020304050607, fid := 5, dest := 3, src := 3, lock := true },
     by decide +kernel⟩,
   ⟨((base.setFwd { base.fwd with reqs := [{ kind := .learn, mac := 0x020304050607, fid := 5, dest := 4, src := 4 }] }).setFwdAt (4 *
     (bucketsOf 5 0x020304050607).1) (some { mac := 0x020304050607, fid := 5, dest := 3, src := 3 })),
     { kind := .learn, mac := 0x020304050607, fid := 5, dest := 4, src := 4 }, [],
     4 * (bucketsOf 5 0x020304050607).1, { mac := 0x020304050607, fid := 5, dest := 3, src := 3 }, by decide +kernel⟩,
   ⟨((ready 3).setFld F.FWD_CFG_MAX_KICKS 1).setFwd { base.fwd with reqs := [{ kind := .learn, mac := 0x020304050607, fid := 5, dest := 3, src := 3 }], entries := (bucketPlaces (bucketsOf 5 0x020304050607).1 ++ bucketPlaces (bucketsOf 5 0x020304050607).2).map (fun q => (q, some { mac := 1, fid := 1, dest := 3 })) },
     { kind := .learn, mac := 0x020304050607, fid := 5, dest := 3, src := 3 }, [],
     (4 * (bucketsOf 5 0x020304050607).1, 4 * (bucketsOf 1 1).1), [(4 * (bucketsOf 5 0x020304050607).1,
     4 * (bucketsOf 1 1).1)], by decide +kernel⟩,
   ⟨((ready 3).setFld F.FWD_CFG_MAX_KICKS 1).setFwd { base.fwd with reqs := [{ kind := .learn, mac := 0x020304050607, fid := 5, dest := 3, src := 3 }], entries := (bucketPlaces (bucketsOf 5 0x020304050607).1 ++ bucketPlaces (bucketsOf 5 0x020304050607).2).map (fun q => (q, some { mac := 1, fid := 1, dest := 3 })) },
     { kind := .learn, mac := 0x020304050607, fid := 5, dest := 3, src := 3 }, [],
     (4 * (bucketsOf 5 0x020304050607).1), (4 * (bucketsOf 1 1).1), { mac := 1, fid := 1, dest := 3 },
     by decide +kernel⟩,
   ⟨((ready 3).setFld F.FWD_CFG_MAX_KICKS 1).setFwd { base.fwd with reqs := [{ kind := .learn, mac := 0x020304050607, fid := 5, dest := 3, src := 3 }], entries := (bucketPlaces (bucketsOf 5 0x020304050607).1 ++ bucketPlaces (bucketsOf 5 0x020304050607).2 ++ bucketPlaces (bucketsOf 1 1).1).map (fun q => (q, some { mac := 1, fid := 1, dest := 3 })) },
     { kind := .learn, mac := 0x020304050607, fid := 5, dest := 3, src := 3 }, [], 131072, by decide +kernel⟩,
   ⟨((ready 3).setFld F.FWD_CFG_MAX_KICKS 1).setFwd { base.fwd with reqs := [{ kind := .learn, mac := 0x020304050607, fid := 5, dest := 3, src := 3 }], entries := (bucketPlaces (bucketsOf 5 0x020304050607).1 ++ bucketPlaces (bucketsOf 5 0x020304050607).2 ++ bucketPlaces (bucketsOf 1 1).1 ++ (List.range 256).map (· + stashBase)).map (fun q => (q, some { mac := 1, fid := 1, dest := 3 })) },
     { kind := .learn, mac := 0x020304050607, fid := 5, dest := 3, src := 3 }, [], by decide +kernel⟩,
   ⟨((base.setFwd { base.fwd with reqs := [{ kind := .refresh, mac := 0x020304050607, fid := 5, dest := 4, src := 4 }] }).setFwdAt (4 *
     (bucketsOf 5 0x020304050607).1) (some { mac := 0x020304050607, fid := 5, dest := 3, src := 3 })),
     { kind := .refresh, mac := 0x020304050607, fid := 5, dest := 4, src := 4 }, [],
     4 * (bucketsOf 5 0x020304050607).1, { mac := 0x020304050607, fid := 5, dest := 3, src := 3 }, by decide +kernel⟩,
   ⟨((base.setFwd { base.fwd with reqs := [{ kind := .move, mac := 0x020304050607, fid := 5, dest := 3, src := 3 }], now := 7 }).setFwdAt (4 *
     (bucketsOf 5 0x020304050607).1) (some { mac := 0x020304050607, fid := 5, dest := 3, src := 3 })),
     { kind := .move, mac := 0x020304050607, fid := 5, dest := 3, src := 3 }, [],
     4 * (bucketsOf 5 0x020304050607).1, { mac := 0x020304050607, fid := 5, dest := 3, src := 3 }, by decide +kernel⟩,
   ⟨(base.setFwd { base.fwd with reqs := [{ kind := .move, mac := 0x020304050607, fid := 5, dest := 3, src := 3 }] }),
     { kind := .move, mac := 0x020304050607, fid := 5, dest := 3, src := 3 }, [], by decide +kernel⟩,
   ⟨((base.setFwd { base.fwd with reqs := [{ kind := .move, mac := 0x020304050607, fid := 5, dest := 4, src := 4 }] }).setFwdAt (4 *
     (bucketsOf 5 0x020304050607).1) (some { mac := 0x020304050607, fid := 5, dest := 3, src := 3, lock := true })),
     { kind := .move, mac := 0x020304050607, fid := 5, dest := 4, src := 4 }, [],
     4 * (bucketsOf 5 0x020304050607).1, { mac := 0x020304050607, fid := 5, dest := 3, src := 3, lock := true },
     by decide +kernel⟩,
   ⟨(((base.setFwd { base.fwd with reqs := [{ kind := .move, mac := 0x020304050607, fid := 5, dest := 4, src := 4 }] }).setFwdAt (4 *
     (bucketsOf 5 0x020304050607).1) (some { mac := 0x020304050607, fid := 5, dest := 3, src := 3 })).setFwdAt 9 (some { mac := 1, fid := 1, dest := 4, src := 4 })).setFld (F.FWD_PORT_CFG_LIMIT 4) 1,
     { kind := .move, mac := 0x020304050607, fid := 5, dest := 4, src := 4 }, [],
     4 * (bucketsOf 5 0x020304050607).1, { mac := 0x020304050607, fid := 5, dest := 3, src := 3 }, by decide +kernel⟩,
   ⟨((base.setFwd { base.fwd with reqs := [{ kind := .move, mac := 0x020304050607, fid := 5, dest := 4, src := 4 }], ms := 2000 }).setFwdAt (4 *
     (bucketsOf 5 0x020304050607).1) (some { mac := 0x020304050607, fid := 5, dest := 3, src := 3 })),
     { kind := .move, mac := 0x020304050607, fid := 5, dest := 4, src := 4 }, [],
     4 * (bucketsOf 5 0x020304050607).1, { mac := 0x020304050607, fid := 5, dest := 3, src := 3 }, by decide +kernel⟩,
   ⟨(base.setFwd { base.fwd with reqs := [{ kind := .age, mac := 0x020304050607, fid := 5, dest := 3, src := 3 }] }),
     { kind := .age, mac := 0x020304050607, fid := 5, dest := 3, src := 3 }, [], by decide +kernel⟩,
   ⟨(base.setFwd { base.fwd with reqs := [{ kind := .parity, mac := 0x020304050607, fid := 5, dest := 3, src := 3 }] }),
     { kind := .parity, mac := 0x020304050607, fid := 5, dest := 3, src := 3 }, [], by decide +kernel⟩,
   ⟨((base.setFwd { base.fwd with reqs := [{ kind := .parity, mac := 0x020304050607, fid := 5, dest := 3, src := 3 }] }).setFwdAt (4 *
     (bucketsOf 5 0x020304050607).1) (some { mac := 0x020304050607, fid := 5, dest := 3, src := 3 })),
     { kind := .parity, mac := 0x020304050607, fid := 5, dest := 3, src := 3 }, [],
     4 * (bucketsOf 5 0x020304050607).1, { mac := 0x020304050607, fid := 5, dest := 3, src := 3 }, by decide +kernel⟩,
   ⟨(fun (x : State) => ({ x with mem := { x.mem with parity := [tableBase 2 + (4 * (bucketsOf 5 0x020304050607).1)] } } : State)) ((base.setFwd { base.fwd with reqs := [{ kind := .parity, mac := 0x020304050607, fid := 5, dest := 3, src := 3 }] }).setFwdAt (4 *
     (bucketsOf 5 0x020304050607).1) (some { mac := 0x020304050607, fid := 5, dest := 3, src := 3 })),
     { kind := .parity, mac := 0x020304050607, fid := 5, dest := 3, src := 3 }, [],
     4 * (bucketsOf 5 0x020304050607).1, { mac := 0x020304050607, fid := 5, dest := 3, src := 3 }, by decide +kernel⟩,
   ⟨((base.setFwd { base.fwd with reqs := [{ kind := .age, mac := 0x020304050607, fid := 5, dest := 3, src := 3 }], now := 9 }).setFwdAt 131072 (some { mac := 0x020304050607, fid := 5, dest := 3, src := 3 })).setFld F.FWD_AGE_CFG_LIMIT 5,
     { kind := .age, mac := 0x020304050607, fid := 5, dest := 3, src := 3 }, [], 131072,
     { mac := 0x020304050607, fid := 5, dest := 3, src := 3 }, by decide +kernel⟩,
   ⟨(((base.setFwd { base.fwd with reqs := [{ kind := .age, mac := 0x020304050607, fid := 5, dest := 3, src := 3 }], now := 9 }).setFwdAt (4 *
     (bucketsOf 5 0x020304050607).1) (some { mac := 0x020304050607, fid := 5, dest := 3, src := 3 })).setFwdAt 131072 (some { mac := 0x020304050607, fid := 5, dest := 3, src := 3 })).setFld F.FWD_AGE_CFG_LIMIT 5,
     { kind := .age, mac := 0x020304050607, fid := 5, dest := 3, src := 3 }, [], 4 * (bucketsOf 5 0x020304050607).1,
     { mac := 0x020304050607, fid := 5, dest := 3, src := 3 }, 131072,
     { mac := 0x020304050607, fid := 5, dest := 3, src := 3 }, by decide +kernel⟩,
   ⟨base.setFwd { base.fwd with flush := some { dest := 3, static := false, left := 0, func := 3, id := 1 } },
     { dest := 3, static := false, left := 0, func := 3, id := 1 }, by decide +kernel⟩,
   ⟨base.setFwd { base.fwd with flush := some { dest := 3, static := false, left := 9, func := 3, id := 1 } },
     { dest := 3, static := false, left := 9, func := 3, id := 1 }, by decide +kernel⟩,
   ⟨base.setFwd { base.fwd with scan := 32768 }, by decide +kernel⟩,
   ⟨(base.setFwd { base.fwd with scan := 32768 }).setFwdAt 131072 (some { mac := 0x020304050607, fid := 5, dest := 3, src := 3 }),
     { mac := 0x020304050607, fid := 5, dest := 3, src := 3 }, by decide +kernel⟩,
   ⟨((base.setFwd { base.fwd with sec := 61 }).setFwdAt 2 (some { mac := 0x020304050607, fid := 5, dest := 3, src := 3, lock := true })),
     2, { mac := 0x020304050607, fid := 5, dest := 3, src := 3, lock := true }, by decide +kernel⟩,
   ⟨base.setFwdAt 2 (some { mac := 0x020304050607, fid := 5, dest := 3, src := 3 }), 2,
     { mac := 0x020304050607, fid := 5, dest := 3, src := 3 }, by decide +kernel⟩,
   ⟨(base.setFwd { base.fwd with flush := some { dest := 4, static := false, left := 9, func := 3, id := 1 } }).setFwdAt 2 (some { mac := 0x020304050607, fid := 5, dest := 3, src := 3 }),
     2, { mac := 0x020304050607, fid := 5, dest := 3, src := 3 },
     { dest := 4, static := false, left := 9, func := 3, id := 1 }, by decide +kernel⟩,
   ⟨(base.setFwd { base.fwd with scan := 32768, flush := some { dest := 3, static := false, left := 9, func := 3, id := 1 } }).setFwdAt 131072 (some { mac := 0x020304050607, fid := 5, dest := 3, src := 3 }),
     { mac := 0x020304050607, fid := 5, dest := 3, src := 3 },
     { dest := 3, static := false, left := 9, func := 3, id := 1 }, by decide +kernel⟩⟩

theorem wit_ForwardingCommandsReadAndChangeTheTable :
    (∃ (s : State) (p : Pkt) (i : Nat) (e : FwdEntry),
      Taken 0x3101 p s ∧ p.length = 2 ∧ p.target = 0 ∧ leAt p.bytes 0 2 ≤ 4095 ∧ s.mem.parity = [] ∧
        s.fwdFind (leAt p.bytes 0 2) (beAt p.bytes 2 6) = some i ∧ s.fwdAt i = some e) ∧
    (∃ (s : State) (p : Pkt),
      Taken 0x3101 p s ∧ p.length = 2 ∧ p.target = 0 ∧ leAt p.bytes 0 2 ≤ 4095 ∧ s.mem.parity = [] ∧
        s.fwdFind (leAt p.bytes 0 2) (beAt p.bytes 2 6) = none) ∧
    (∃ (s : State) (p : Pkt) (i : Nat) (e : FwdEntry),
      Taken 0x3101 p s ∧ p.length = 2 ∧ p.target = 0 ∧ leAt p.bytes 0 2 ≤ 4095 ∧
        (s.fwdLookup (leAt p.bytes 0 2) (beAt p.bytes 2 6)).2 = some (i, e)) ∧
    (∃ (s : State) (p : Pkt),
      Taken 0x3101 p s ∧ p.length = 2 ∧ p.target = 0 ∧ leAt p.bytes 0 2 ≤ 4095 ∧
        (s.fwdLookup (leAt p.bytes 0 2) (beAt p.bytes 2 6)).2 = none) ∧
    (∃ (s : State) (p : Pkt),
      Taken 0x3101 p s ∧ p.length = 2 ∧ p.target = 0 ∧ 4095 < leAt p.bytes 0 2) ∧
    (∃ (s : State) (p : Pkt),
      Taken 0x3102 p s ∧ p.length = 2 ∧ p.target = 0 ∧ (p.w 1 = 0 ∨ 255 < p.w 1)) ∧
    (∃ (s : State) (p : Pkt),
      Taken 0x3102 p s ∧ p.length = 2 ∧ p.target = 0 ∧ p.w 0 = 0 ∧ 1 ≤ p.w 1 ∧ p.w 1 ≤ 255 ∧
        (List.range 4).find? (fun i => (s.walkAt i).isNone) = none) ∧
    (∃ (s : State) (p : Pkt),
      Taken 0x3102 p s ∧ p.length = 2 ∧ p.target = 0 ∧ p.w 0 ≠ 0 ∧ 1 ≤ p.w 1 ∧ p.w 1 ≤ 255 ∧
        (bit (p.w 0) 29 = false ∨ bitsOf (p.w 0) 28 18 ≠ 0 ∨ s.walkAt (p.w 0 / 2 ^ 30) = none)) ∧
    (∃ (s : State) (p : Pkt) (w : Walk) (n q : Nat),
      Taken 0x3102 p s ∧ p.length = 2 ∧ p.target = 0 ∧ bit (p.w 0) 29 = true ∧ bitsOf (p.w 0) 28 18 = 0 ∧ 1 ≤ p.w 1 ∧
        p.w 1 ≤ 255 ∧ s.walkAt (p.w 0 / 2 ^ 30) = some w ∧
        p.w 1 < w.carry.length + (s.entriesFrom (p.w 0 % 2 ^ 18)).length ∧ n = p.w 1 - w.carry.length ∧
        q = (((s.entriesFrom (p.w 0 % 2 ^ 18)).drop n).head?.map (·.1)).getD 131328) ∧
    (∃ (s : State) (p : Pkt) (i : Nat),
      Taken 0x3102 p s ∧ p.length = 2 ∧ p.target = 0 ∧ p.w 0 = 0 ∧ 1 ≤ p.w 1 ∧ p.w 1 ≤ 255 ∧
        (List.range 4).find? (fun i => (s.walkAt i).isNone) = some i ∧ (s.entriesFrom 0).length ≤ p.w 1) ∧
    (∃ (s : State) (p : Pkt) (i q : Nat) (e : FwdEntry) (r : List (Nat × FwdEntry)),
      Taken 0x3102 p s ∧ p.length = 2 ∧ p.target = 0 ∧ p.w 0 = 0 ∧ 1 ≤ p.w 1 ∧ p.w 1 ≤ 255 ∧
        (List.range 4).find? (fun i => (s.walkAt i).isNone) = some i ∧ (s.entriesFrom 0).drop (p.w 1) = (q, e) :: r) ∧
    (∃ (s : State) (p : Pkt) (w : Walk),
      Taken 0x3102 p s ∧ p.length = 2 ∧ p.target = 0 ∧ bit (p.w 0) 29 = true ∧ bitsOf (p.w 0) 28 18 = 0 ∧ 1 ≤ p.w 1 ∧
        p.w 1 ≤ 255 ∧ s.walkAt (p.w 0 / 2 ^ 30) = some w ∧
        w.carry.length + (s.entriesFrom (p.w 0 % 2 ^ 18)).length ≤ p.w 1) ∧
    (∃ (s : State) (p : Pkt) (i : Nat),
      Taken 0x3103 p s ∧ p.length = 4 ∧ p.target = 0 ∧ s.fwd.reqs = [] ∧ leAt p.bytes 6 2 ≤ 4095 ∧
        ¬(96 ≤ leAt p.bytes 8 1 ∧ leAt p.bytes 8 1 ≤ 127) ∧
        (leAt p.bytes 8 1 < 128 ∨ bit (leAt p.bytes 9 1) 0 = true) ∧ bitsOf (leAt p.bytes 9 1) 3 2 = 0 ∧
        s.fwdFind (leAt p.bytes 6 2) (beAt p.bytes 0 6) = none ∧
        s.freeWay (bucketsOf (leAt p.bytes 6 2) (beAt p.bytes 0 6)).1 = some i) ∧
    (∃ (s : State) (p : Pkt) (i : Nat) (e : FwdEntry),
      Taken 0x3103 p s ∧ p.length = 4 ∧ p.target = 0 ∧ s.fwd.reqs = [] ∧ leAt p.bytes 6 2 ≤ 4095 ∧
        ¬(96 ≤ leAt p.bytes 8 1 ∧ leAt p.bytes 8 1 ≤ 127) ∧
        (leAt p.bytes 8 1 < 128 ∨ bit (leAt p.bytes 9 1) 0 = true) ∧ bitsOf (leAt p.bytes 9 1) 3 2 = 0 ∧
        s.fwdFind (leAt p.bytes 6 2) (beAt p.bytes 0 6) = some i ∧ s.fwdAt i = some e) ∧
    (∃ (s : State) (p : Pkt) (i : Nat),
      Taken 0x3104 p s ∧ p.length = 2 ∧ p.target = 0 ∧ s.fwd.reqs = [] ∧ leAt p.bytes 0 2 ≤ 4095 ∧
        s.fwdFind (leAt p.bytes 0 2) (beAt p.bytes 2 6) = some i ∧ i < stashBase ∧ s.stashUsed = []) ∧
    (∃ (s : State) (p : Pkt),
      Taken 0x3105 p s ∧ p.length = 1 ∧ p.target = 0 ∧ s.fwd.reqs = [] ∧ ¬(96 ≤ leAt p.bytes 0 1 ∧
        leAt p.bytes 0 1 ≤ 127) ∧ leAt p.bytes 1 1 ≤ 1 ∧ leAt p.bytes 2 2 = 0 ∧ s.fwd.flush = none) ∧
    (∃ (s : State) (fl : Flush),
      s.fwd.flush = some fl ∧ fl.left = 0 ∧ (s.source 0x0082).queue.length < 16) ∧
    (∃ (s : State) (p : Pkt),
      Taken 0x3106 p s ∧ p.length = 2 ∧ p.target = 0 ∧ s.fwd.reqs = [] ∧ leAt p.bytes 0 1 = 0 ∧
        leAt p.bytes 1 1 = 0 ∧ leAt p.bytes 2 2 ≤ 4095) ∧
    (∃ (s : State) (p : Pkt),
      Taken 0x3106 p s ∧ p.length = 2 ∧ p.target = 0 ∧ s.fwd.reqs = [] ∧ leAt p.bytes 0 1 = 1 ∧
        leAt p.bytes 1 1 = 0 ∧ leAt p.bytes 2 2 ≤ 127) ∧
    (∃ (s : State) (p : Pkt),
      Taken 0x3107 p s ∧ p.length = 3 ∧ p.target = 0) ∧
    (∃ (s : State) (p : Pkt),
      Taken 0x3107 p s ∧ p.length = 1 ∧ 1 ≤ p.target.toNat ∧ p.target.toNat ≤ 28) ∧
    (∃ (s : State) (p : Pkt),
      Taken 0x3103 p s ∧ p.length = 4 ∧ p.target = 0 ∧ s.fwd.reqs = [] ∧
        (4095 < leAt p.bytes 6 2 ∨ (96 ≤ leAt p.bytes 8 1 ∧ leAt p.bytes 8 1 ≤ 127) ∨ (128 ≤ leAt p.bytes 8 1 ∧
        bit (leAt p.bytes 9 1) 0 = false) ∨ bitsOf (leAt p.bytes 9 1) 3 2 ≠ 0)) ∧
    (∃ (s : State) (p : Pkt) (i : Nat),
      Taken 0x3103 p s ∧ p.length = 4 ∧ p.target = 0 ∧ s.fwd.reqs = [] ∧ leAt p.bytes 6 2 ≤ 4095 ∧
        ¬(96 ≤ leAt p.bytes 8 1 ∧ leAt p.bytes 8 1 ≤ 127) ∧
        (leAt p.bytes 8 1 < 128 ∨ bit (leAt p.bytes 9 1) 0 = true) ∧ bitsOf (leAt p.bytes 9 1) 3 2 = 0 ∧
        s.fwdFind (leAt p.bytes 6 2) (beAt p.bytes 0 6) = none ∧
        s.freeWay (bucketsOf (leAt p.bytes 6 2) (beAt p.bytes 0 6)).1 = none ∧
        s.freeWay (bucketsOf (leAt p.bytes 6 2) (beAt p.bytes 0 6)).2 = some i) ∧
    (∃ (s : State) (p : Pkt) (m : Nat × Nat) (ms : List (Nat × Nat)),
      Taken 0x3103 p s ∧ p.length = 4 ∧ p.target = 0 ∧ s.fwd.reqs = [] ∧ leAt p.bytes 6 2 ≤ 4095 ∧
        ¬(96 ≤ leAt p.bytes 8 1 ∧ leAt p.bytes 8 1 ≤ 127) ∧
        (leAt p.bytes 8 1 < 128 ∨ bit (leAt p.bytes 9 1) 0 = true) ∧ bitsOf (leAt p.bytes 9 1) 3 2 = 0 ∧
        s.fwdFind (leAt p.bytes 6 2) (beAt p.bytes 0 6) = none ∧
        s.freeWay (bucketsOf (leAt p.bytes 6 2) (beAt p.bytes 0 6)).1 = none ∧
        s.freeWay (bucketsOf (leAt p.bytes 6 2) (beAt p.bytes 0 6)).2 = none ∧
        (s.findPath s.maxKicks (bucketPlaces (bucketsOf (leAt p.bytes 6 2) (beAt p.bytes 0 6)).1 ++
        bucketPlaces (bucketsOf (leAt p.bytes 6 2) (beAt p.bytes 0 6)).2) ((bucketPlaces (bucketsOf (leAt p.bytes 6 2) (beAt p.bytes 0 6)).1 ++
        bucketPlaces (bucketsOf (leAt p.bytes 6 2) (beAt p.bytes 0 6)).2).map (fun q => [q]))) = some ms ∧
        s.movesAllowed ms = true ∧ ms.getLast? = some m) ∧
    (∃ (s : State) (p : Pkt) (i : Nat),
      Taken 0x3103 p s ∧ p.length = 4 ∧ p.target = 0 ∧ s.fwd.reqs = [] ∧ leAt p.bytes 6 2 ≤ 4095 ∧
        ¬(96 ≤ leAt p.bytes 8 1 ∧ leAt p.bytes 8 1 ≤ 127) ∧
        (leAt p.bytes 8 1 < 128 ∨ bit (leAt p.bytes 9 1) 0 = true) ∧ bitsOf (leAt p.bytes 9 1) 3 2 = 0 ∧
        s.fwdFind (leAt p.bytes 6 2) (beAt p.bytes 0 6) = none ∧
        s.freeWay (bucketsOf (leAt p.bytes 6 2) (beAt p.bytes 0 6)).1 = none ∧
        s.freeWay (bucketsOf (leAt p.bytes 6 2) (beAt p.bytes 0 6)).2 = none ∧
        (s.findPath s.maxKicks (bucketPlaces (bucketsOf (leAt p.bytes 6 2) (beAt p.bytes 0 6)).1 ++
        bucketPlaces (bucketsOf (leAt p.bytes 6 2) (beAt p.bytes 0 6)).2) ((bucketPlaces (bucketsOf (leAt p.bytes 6 2) (beAt p.bytes 0 6)).1 ++
        bucketPlaces (bucketsOf (leAt p.bytes 6 2) (beAt p.bytes 0 6)).2).map (fun q => [q]))) = none ∧
        s.freeStash = some i) ∧
    (∃ (s : State) (p : Pkt),
      Taken 0x3103 p s ∧ p.length = 4 ∧ p.target = 0 ∧ s.fwd.reqs = [] ∧ leAt p.bytes 6 2 ≤ 4095 ∧
        ¬(96 ≤ leAt p.bytes 8 1 ∧ leAt p.bytes 8 1 ≤ 127) ∧
        (leAt p.bytes 8 1 < 128 ∨ bit (leAt p.bytes 9 1) 0 = true) ∧ bitsOf (leAt p.bytes 9 1) 3 2 = 0 ∧
        s.fwdFind (leAt p.bytes 6 2) (beAt p.bytes 0 6) = none ∧
        s.freeWay (bucketsOf (leAt p.bytes 6 2) (beAt p.bytes 0 6)).1 = none ∧
        s.freeWay (bucketsOf (leAt p.bytes 6 2) (beAt p.bytes 0 6)).2 = none ∧
        (s.findPath s.maxKicks (bucketPlaces (bucketsOf (leAt p.bytes 6 2) (beAt p.bytes 0 6)).1 ++
        bucketPlaces (bucketsOf (leAt p.bytes 6 2) (beAt p.bytes 0 6)).2) ((bucketPlaces (bucketsOf (leAt p.bytes 6 2) (beAt p.bytes 0 6)).1 ++
        bucketPlaces (bucketsOf (leAt p.bytes 6 2) (beAt p.bytes 0 6)).2).map (fun q => [q]))) = none ∧
        s.freeStash = none ∧ s.count C.FWD_TABLE_FULL < 0xFFFFFFFE) ∧
    (∃ (s : State) (p : Pkt),
      s.fwd.reqs ≠ []) ∧
    (∃ (s : State) (p : Pkt),
      s.fwd.reqs ≠ []) ∧
    (∃ (s : State) (p : Pkt),
      s.fwd.reqs ≠ []) ∧
    (∃ (s : State) (p : Pkt),
      s.fwd.reqs ≠ []) ∧
    (∃ (s : State) (p : Pkt),
      Taken 0x3104 p s ∧ p.length = 2 ∧ p.target = 0 ∧ s.fwd.reqs = [] ∧ 4095 < leAt p.bytes 0 2) ∧
    (∃ (s : State) (p : Pkt),
      Taken 0x3104 p s ∧ p.length = 2 ∧ p.target = 0 ∧ s.fwd.reqs = [] ∧ leAt p.bytes 0 2 ≤ 4095 ∧
        s.fwdFind (leAt p.bytes 0 2) (beAt p.bytes 2 6) = none) ∧
    (∃ (s : State) (p : Pkt) (i k : Nat) (z : FwdEntry),
      Taken 0x3104 p s ∧ p.length = 2 ∧ p.target = 0 ∧ s.fwd.reqs = [] ∧ leAt p.bytes 0 2 ≤ 4095 ∧
        s.fwdFind (leAt p.bytes 0 2) (beAt p.bytes 2 6) = some i ∧ i < stashBase ∧
        (s.setFwdAt i none).stashFor (i / 4) = some k ∧ s.fwdAt k = some z ∧ s.movesAllowed [(k, i)] = true) ∧
    (∃ (s : State) (p : Pkt) (i : Nat),
      Taken 0x3104 p s ∧ p.length = 2 ∧ p.target = 0 ∧ s.fwd.reqs = [] ∧ leAt p.bytes 0 2 ≤ 4095 ∧
        s.fwdFind (leAt p.bytes 0 2) (beAt p.bytes 2 6) = some i ∧
        (stashBase ≤ i ∨ (s.setFwdAt i none).stashFor (i / 4) = none)) ∧
    (∃ (s : State) (p : Pkt),
      Taken 0x3105 p s ∧ p.length = 1 ∧ p.target = 0 ∧ s.fwd.reqs = [] ∧ ((96 ≤ leAt p.bytes 0 1 ∧
        leAt p.bytes 0 1 ≤ 127) ∨ 1 < leAt p.bytes 1 1 ∨ leAt p.bytes 2 2 ≠ 0)) ∧
    (∃ (s : State) (p : Pkt),
      Taken 0x3105 p s ∧ p.length = 1 ∧ p.target = 0 ∧ s.fwd.reqs = [] ∧ ¬(96 ≤ leAt p.bytes 0 1 ∧
        leAt p.bytes 0 1 ≤ 127) ∧ leAt p.bytes 1 1 ≤ 1 ∧ leAt p.bytes 2 2 = 0 ∧ s.fwd.flush ≠ none) ∧
    (∃ (s : State),
      s.fwd.flush = none) ∧
    (∃ (s : State) (fl : Flush),
      s.fwd.flush = some fl ∧ fl.left ≠ 0) ∧
    (∃ (s : State) (p : Pkt),
      Taken 0x3106 p s ∧ p.length = 2 ∧ p.target = 0 ∧ s.fwd.reqs = [] ∧
        (1 < leAt p.bytes 0 1 ∨ leAt p.bytes 1 1 ≠ 0 ∨ (leAt p.bytes 0 1 = 0 ∧
        4095 < leAt p.bytes 2 2) ∨ (leAt p.bytes 0 1 = 1 ∧ 127 < leAt p.bytes 2 2))) ∧
    (∃ (s : State) (p : Pkt),
      Taken 0x3107 p s ∧ 28 < p.target.toNat ∧ p.length = 1) ∧
    (∃ (s : State) (p : Pkt),
      Taken 0x3101 p s ∧ p.length = 2 ∧ p.target ≠ 0) ∧
    (∃ (s : State) (p : Pkt),
      Taken 0x3102 p s ∧ p.length = 2 ∧ p.target ≠ 0) ∧
    (∃ (s : State) (p : Pkt),
      s.fwd.reqs = [] ∧ Taken 0x3103 p s ∧ p.length = 4 ∧ p.target ≠ 0) ∧
    (∃ (s : State) (p : Pkt),
      s.fwd.reqs = [] ∧ Taken 0x3104 p s ∧ p.length = 2 ∧ p.target ≠ 0) ∧
    (∃ (s : State) (p : Pkt),
      s.fwd.reqs = [] ∧ Taken 0x3105 p s ∧ p.length = 1 ∧ p.target ≠ 0) ∧
    (∃ (s : State) (p : Pkt),
      s.fwd.reqs = [] ∧ Taken 0x3106 p s ∧ p.length = 2 ∧ p.target ≠ 0) ∧
    (∃ (s : State) (w : Fin 4) (x : Walk),
      s.walkAt w.val = some x ∧ 48000 ≤ (s.tick.count - BitVec.ofNat 48 x.at_).toNat) ∧
    (∃ (s : State) (w : Fin 4),
      (∀ x ∈ (s.walkAt w.val).toList, (s.tick.count - BitVec.ofNat 48 x.at_).toNat < 48000)) :=
  ⟨⟨(ready 3).setFwdAt (4 * (bucketsOf 5 0x020304050607).1) (some { mac := 0x020304050607, fid := 5, dest := 3, src := 3 }),
    pk 3 0 [0x03020005, 0x07060504], 4 * (bucketsOf 5 0x020304050607).1,
    { mac := 0x020304050607, fid := 5, dest := 3, src := 3 }, by decide +kernel⟩,
   ⟨ready 3, pk 3 0 [5, 6], by decide +kernel⟩,
   ⟨(ready 3).setFwdAt (4 * (bucketsOf 5 0x020304050607).1) (some { mac := 0x020304050607, fid := 5, dest := 3, src := 3 }),
     pk 3 0 [0x03020005, 0x07060504], 4 * (bucketsOf 5 0x020304050607).1,
     { mac := 0x020304050607, fid := 5, dest := 3, src := 3 }, by decide +kernel⟩,
   ⟨ready 3, pk 3 0 [5, 6], by decide +kernel⟩,
   ⟨ready 3, pk 3 0 [0x1000, 6], by decide +kernel⟩,
   ⟨ready 3, pk 3 0 [0, 256], by decide +kernel⟩,
   ⟨((((ready 3).setWalk 0 (some {})).setWalk 1 (some {})).setWalk 2 (some {})).setWalk 3 (some {}), pk 3 0 [0, 2],
     by decide +kernel⟩,
   ⟨ready 3, pk 3 0 [0xA0000009, 2], by decide +kernel⟩,
   ⟨((ready 3).setFwdAt 9 (some { mac := 0x020304050607, fid := 5, dest := 3, src := 3 })).setWalk 2 (some ⟨9,
     [{ mac := 0x020304050607, fid := 5, dest := 3, src := 3 }], 0⟩), pk 3 0 [0xA0000009, 1], ⟨9,
     [{ mac := 0x020304050607, fid := 5, dest := 3, src := 3 }], 0⟩, 0, 9, by decide +kernel⟩,
   ⟨((ready 3).setFwdAt 7 (some { mac := 0x020304050607, fid := 5, dest := 3, src := 3 })).setFwdAt 9 (some { mac := 0x020304050607, fid := 5, dest := 3, src := 3 }),
     pk 3 0 [0, 2], 0, by decide +kernel⟩,
   ⟨((ready 3).setFwdAt 7 (some { mac := 0x020304050607, fid := 5, dest := 3, src := 3 })).setFwdAt 9 (some { mac := 0x020304050607, fid := 5, dest := 3, src := 3 }),
     pk 3 0 [0, 1], 0, 9, { mac := 0x020304050607, fid := 5, dest := 3, src := 3 }, [], by decide +kernel⟩,
   ⟨((ready 3).setFwdAt 9 (some { mac := 0x020304050607, fid := 5, dest := 3, src := 3 })).setWalk 2 (some ⟨9,
     [{ mac := 0x020304050607, fid := 5, dest := 3, src := 3 }], 0⟩), pk 3 0 [0xA0000009, 2], ⟨9,
     [{ mac := 0x020304050607, fid := 5, dest := 3, src := 3 }], 0⟩, by decide +kernel⟩,
   ⟨ready 3, pk 3 0 [0x05040302, 0x00050706, 0x0103, 0], 4 * (bucketsOf 5 0x020304050607).1, by decide +kernel⟩,
   ⟨(ready 3).setFwdAt (4 * (bucketsOf 5 0x020304050607).1) (some { mac := 0x020304050607, fid := 5, dest := 3, src := 3 }),
     pk 3 0 [0x05040302, 0x00050706, 0x0109, 0], 4 * (bucketsOf 5 0x020304050607).1,
     { mac := 0x020304050607, fid := 5, dest := 3, src := 3 }, by decide +kernel⟩,
   ⟨(ready 3).setFwdAt (4 * (bucketsOf 5 0x020304050607).1) (some { mac := 0x020304050607, fid := 5, dest := 3, src := 3 }),
     pk 3 0 [0x03020005, 0x07060504], 4 * (bucketsOf 5 0x020304050607).1, by decide +kernel⟩,
   ⟨ready 3, pk 3 0 [0x0104], by decide +kernel⟩,
   ⟨(base.setFwd { base.fwd with flush := some { dest := 3, static := false, left := 0, deleted := 4, func := 3, id := 1 } }),
     { dest := 3, static := false, left := 0, deleted := 4, func := 3, id := 1 }, by decide +kernel⟩,
   ⟨ready 3, pk 3 0 [0x00070000, 9], by decide +kernel⟩,
   ⟨ready 3, pk 3 0 [0x00070001, 9], by decide +kernel⟩,
   ⟨ready 3, pk 3 0 [1, 2, 3], by decide +kernel⟩,
   ⟨ready 3, pk 3 28 [0xFFFFFFFF], by decide +kernel⟩,
   ⟨ready 3, pk 3 0 [0x05040302, 0x10050706, 0x0103, 0], by decide +kernel⟩,
   ⟨((ready 3).setFld F.FWD_CFG_MAX_KICKS 1).setFwd { base.fwd with entries := (bucketPlaces (bucketsOf 5 0x020304050607).1).map (fun q => (q, some { mac := 1, fid := 1, dest := 3 })) },
     pk 3 0 [0x05040302, 0x00050706, 0x0103, 0], 4 * (bucketsOf 5 0x020304050607).2, by decide +kernel⟩,
   ⟨((ready 3).setFld F.FWD_CFG_MAX_KICKS 1).setFwd { base.fwd with entries := (bucketPlaces (bucketsOf 5 0x020304050607).1 ++ bucketPlaces (bucketsOf 5 0x020304050607).2).map (fun q => (q, some { mac := 1, fid := 1, dest := 3 })) },
     pk 3 0 [0x05040302, 0x00050706, 0x0103, 0], (4 * (bucketsOf 5 0x020304050607).1, 4 * (bucketsOf 1 1).1),
     [(4 * (bucketsOf 5 0x020304050607).1, 4 * (bucketsOf 1 1).1)], by decide +kernel⟩,
   ⟨((ready 3).setFld F.FWD_CFG_MAX_KICKS 1).setFwd { base.fwd with entries := (bucketPlaces (bucketsOf 5 0x020304050607).1 ++ bucketPlaces (bucketsOf 5 0x020304050607).2 ++ bucketPlaces (bucketsOf 1 1).1).map (fun q => (q, some { mac := 1, fid := 1, dest := 3 })) },
     pk 3 0 [0x05040302, 0x00050706, 0x0103, 0], 131072, by decide +kernel⟩,
   ⟨((ready 3).setFld F.FWD_CFG_MAX_KICKS 1).setFwd { base.fwd with entries := (bucketPlaces (bucketsOf 5 0x020304050607).1 ++ bucketPlaces (bucketsOf 5 0x020304050607).2 ++ bucketPlaces (bucketsOf 1 1).1 ++ (List.range 256).map (· + stashBase)).map (fun q => (q, some { mac := 1, fid := 1, dest := 3 })) },
     pk 3 0 [0x05040302, 0x00050706, 0x0103, 0], by decide +kernel⟩,
   ⟨base.setFwd { base.fwd with reqs := [{ kind := .learn, mac := 0x020304050607, fid := 5, dest := 3, src := 3 }] },
     pk 3 0 [], by decide +kernel⟩,
   ⟨base.setFwd { base.fwd with reqs := [{ kind := .learn, mac := 0x020304050607, fid := 5, dest := 3, src := 3 }] },
     pk 3 0 [], by decide +kernel⟩,
   ⟨base.setFwd { base.fwd with reqs := [{ kind := .learn, mac := 0x020304050607, fid := 5, dest := 3, src := 3 }] },
     pk 3 0 [], by decide +kernel⟩,
   ⟨base.setFwd { base.fwd with reqs := [{ kind := .learn, mac := 0x020304050607, fid := 5, dest := 3, src := 3 }] },
     pk 3 0 [], by decide +kernel⟩,
   ⟨ready 3, pk 3 0 [0x1000, 6], by decide +kernel⟩,
   ⟨ready 3, pk 3 0 [5, 6], by decide +kernel⟩,
   ⟨((ready 3).setFwdAt (4 * (bucketsOf 5 0x020304050607).1) (some { mac := 0x020304050607, fid := 5, dest := 3, src := 3 })).setFwdAt 131072 (some { mac := 0x020304050607, fid := 5, dest := 4, src := 3 }),
     pk 3 0 [0x03020005, 0x07060504], 4 * (bucketsOf 5 0x020304050607).1, 131072,
     { mac := 0x020304050607, fid := 5, dest := 4, src := 3 }, by decide +kernel⟩,
   ⟨(ready 3).setFwdAt 131072 (some { mac := 0x020304050607, fid := 5, dest := 3, src := 3 }), pk 3 0 [0x03020005,
     0x07060504], 131072, by decide +kernel⟩,
   ⟨ready 3, pk 3 0 [0x0204], by decide +kernel⟩,
   ⟨(ready 3).setFwd { (ready 3).fwd with flush := some { dest := 3, static := false, left := 9, func := 3, id := 1 } },
     pk 3 0 [0x0104], by decide +kernel⟩,
   ⟨base, by decide +kernel⟩,
   ⟨(base.setFwd { base.fwd with flush := some { dest := 3, static := false, left := 1, deleted := 4, func := 3, id := 1 } }),
     { dest := 3, static := false, left := 1, deleted := 4, func := 3, id := 1 }, by decide +kernel⟩,
   ⟨ready 3, pk 3 0 [0x00800001, 9], by decide +kernel⟩,
   ⟨ready 3, pk 3 29 [0], by decide +kernel⟩,
   ⟨ready 3, pk 3 1 [0, 0], by decide +kernel⟩,
   ⟨ready 3, pk 3 1 [0, 0], by decide +kernel⟩,
   ⟨ready 3, pk 3 1 [0, 0, 0, 0], by decide +kernel⟩,
   ⟨ready 3, pk 3 1 [0, 0], by decide +kernel⟩,
   ⟨ready 3, pk 3 1 [0], by decide +kernel⟩,
   ⟨ready 3, pk 3 1 [0, 0], by decide +kernel⟩,
   ⟨{ (base.setWalk 2 (some {})) with tick := { base.tick with count := 48000 } }, 2, {}, by decide +kernel⟩,
   ⟨base.setWalk 2 (some {}), 2, by decide +kernel⟩⟩

theorem wit_DeviceToHostQueuesDeliverFrames :
    (∃ (s : State) (p : Pkt),
      Taken 0x3203 p s ∧ p.length = 4 ∧ p.target.toNat < 64 ∧ p.w 2 % 64 = 0 ∧
        changesEnabled (s.rd (R.HOST_DQ_CFG p.target.toNat)).toNat (s.rd (R.HOST_DQ_BASE_LO p.target.toNat)).toNat (s.rd (R.HOST_DQ_BASE_HI p.target.toNat)).toNat (p.w 0) (p.w 2) (p.w 3) =
        false ∧ bit (p.w 0) 31 = true) ∧
    (∃ (s : State) (p : Pkt),
      Taken 0x3203 p s ∧ p.length = 4 ∧ p.target.toNat < 64 ∧ p.w 2 % 64 = 0 ∧
        changesEnabled (s.rd (R.HOST_DQ_CFG p.target.toNat)).toNat (s.rd (R.HOST_DQ_BASE_LO p.target.toNat)).toNat (s.rd (R.HOST_DQ_BASE_HI p.target.toNat)).toNat (p.w 0) (p.w 2) (p.w 3) =
        false ∧ bit (p.w 0) 31 = false ∧ (s.dq p.target.toNat).front = none) ∧
    (∃ (s : State) (p : Pkt) (f : Frame),
      Taken 0x3203 p s ∧ p.length = 4 ∧ p.target.toNat < 64 ∧ p.w 2 % 64 = 0 ∧
        changesEnabled (s.rd (R.HOST_DQ_CFG p.target.toNat)).toNat (s.rd (R.HOST_DQ_BASE_LO p.target.toNat)).toNat (s.rd (R.HOST_DQ_BASE_HI p.target.toNat)).toNat (p.w 0) (p.w 2) (p.w 3) =
        false ∧ bit (p.w 0) 31 = false ∧ (s.dq p.target.toNat).front = some f ∧ s.isMulti f.buf = false ∧
        s.owner f.buf = agD2h ∧ s.count (C.DQ_DISABLED_DROP p.target.toNat) < 0xFFFFFFFE) ∧
    (∃ (s : State) (q : Fin 64) (f : Fin 6) (v : BitVec 16),
      s.dqFunc q.val = f.val ∧ ((v.toNat + 65536 - (s.dq q.val).head % 65536) % 65536) ≤ s.dqRing q.val) ∧
    (∃ (s : State) (q : Fin 64) (f : Fin 6) (v : BitVec 16),
      s.dqFunc q.val = f.val ∧ s.dqRing q.val < ((v.toNat + 65536 - (s.dq q.val).head % 65536) % 65536)) ∧
    (∃ (s : State) (q : Fin 64) (addrs : List (BitVec 64)) (f : Frame),
      (s.dq q.val).front = some f ∧ (s.dq q.val).writing = false ∧ (s.dq q.val).claimed = [] ∧
        addrs.length = s.dqNeed q.val f ∧ s.dqNeed q.val f ≤ s.dqPosted q.val ∧ (s.dq q.val).fifo.length < 512 ∧
        s.frameErrs f.buf f.bytes.length = []) ∧
    (∃ (s : State) (q : Fin 64) (addrs : List (BitVec 64)) (bad : Option Nat) (f : Frame),
      (s.dq q.val).front = some f ∧ (s.dq q.val).writing = false ∧ s.dqPosted q.val ≤ (s.dq q.val).claimed.length ∧
        (s.dq q.val).claimed.length < s.dqNeed q.val f) ∧
    (∃ (s : State) (q : Fin 64) (f : Frame),
      (s.dq q.val).front = some f ∧ (s.dq q.val).writing = true ∧ f.rxRaw = none ∧ s.isMulti f.buf = false ∧
        s.owner f.buf = agD2h) ∧
    (∃ (s : State) (q : Fin 64) (f : Frame),
      (s.dq q.val).front = some f ∧ (s.dq q.val).writing = false ∧ s.flag (F.HOST_DQ_CFG_ENABLE q.val) = true ∧
        s.count (C.DQ_HOLD_DROP q.val) < 0xFFFFFFFE ∧ s.isMulti f.buf = false ∧ s.owner f.buf = agD2h) ∧
    (∃ (s : State) (q : Fin 64) (f : Fin 6) (c : Descriptor) (cs : List Descriptor),
      s.dqFunc q.val = f.val ∧ (s.dq q.val).fifo = c :: cs) ∧
    (∃ (s : State) (q : Fin 64) (f : Fin 6),
      s.dqFunc q.val = f.val ∧ (s.dq q.val).fifo = []) ∧
    (∃ (s : State) (q : Fin 64) (f : Fin 6),
      s.dqFunc q.val ≠ f.val) ∧
    (∃ (s : State) (q : Fin 64) (f : Fin 6) (c : Descriptor) (cs : List Descriptor),
      s.bestPop (s.popOrder f.val) = some q.val ∧ (s.dq q.val).fifo = c :: cs) ∧
    (∃ (s : State) (f : Fin 6),
      s.bestPop (s.popOrder f.val) = none) ∧
    (∃ (s : State) (q : Fin 64) (code : Byte) (f : Frame),
      s.flag (F.HOST_DQ_CFG_ENABLE q.val) = true ∧ (s.dq q.val).writing = true ∧ (s.dq q.val).front = some f ∧
        s.count (C.DQ_REWOUND q.val) < 0xFFFFFFFE ∧ (s.source 0x0085).queue.length < 16 ∧ s.isMulti f.buf = false ∧
        s.owner f.buf = agD2h) ∧
    (∃ (s : State) (p : Pkt),
      Taken 0x3203 p s ∧ p.length = 4 ∧ p.target.toNat < 64 ∧ p.w 2 % 64 ≠ 0) ∧
    (∃ (s : State) (p : Pkt),
      Taken 0x3203 p s ∧ p.length = 4 ∧ p.target.toNat < 64 ∧ p.w 2 % 64 = 0 ∧
        changesEnabled (s.rd (R.HOST_DQ_CFG p.target.toNat)).toNat (s.rd (R.HOST_DQ_BASE_LO p.target.toNat)).toNat (s.rd (R.HOST_DQ_BASE_HI p.target.toNat)).toNat (p.w 0) (p.w 2) (p.w 3) =
        true) ∧
    (∃ (s : State) (p : Pkt),
      Taken 0x3203 p s ∧ p.length = 4 ∧ 64 ≤ p.target.toNat) ∧
    (∃ (s : State) (p : Pkt) (f : Frame),
      Taken 0x3203 p s ∧ p.length = 4 ∧ p.target.toNat < 64 ∧ p.w 2 % 64 = 0 ∧
        changesEnabled (s.rd (R.HOST_DQ_CFG p.target.toNat)).toNat (s.rd (R.HOST_DQ_BASE_LO p.target.toNat)).toNat (s.rd (R.HOST_DQ_BASE_HI p.target.toNat)).toNat (p.w 0) (p.w 2) (p.w 3) =
        false ∧ bit (p.w 0) 31 = false ∧ (s.dq p.target.toNat).front = some f ∧
        s.count (C.DQ_DISABLED_DROP p.target.toNat) < 0xFFFFFFFE) ∧
    (∃ (s : State) (q : Fin 64) (f : Fin 6) (v : BitVec 16),
      s.dqFunc q.val ≠ f.val) ∧
    (∃ (s : State) (q : Fin 64) (addrs : List (BitVec 64)) (bad : Option Nat),
      ((s.dq q.val).front = none ∨ (s.dq q.val).writing = true)) ∧
    (∃ (s : State) (q : Fin 64) (addrs : List (BitVec 64)) (bad : Option Nat) (f : Frame) (cl : List Nat),
      (s.dq q.val).front = some f ∧ (s.dq q.val).writing = false ∧
        cl = (s.dq q.val).claimed ++ (addrs.take (min (s.dqNeed q.val f - (s.dq q.val).claimed.length) (s.dqPosted q.val - (s.dq q.val).claimed.length))).map (·.toNat) ∧
        (cl.length < s.dqNeed q.val f ∨ 512 ≤ (s.dq q.val).fifo.length)) ∧
    (∃ (s : State) (q : Fin 64) (addrs : List (BitVec 64)) (bad : Option Nat) (f : Frame) (cl : List Nat),
      (s.dq q.val).front = some f ∧ (s.dq q.val).writing = false ∧
        cl = (s.dq q.val).claimed ++ (addrs.take (min (s.dqNeed q.val f - (s.dq q.val).claimed.length) (s.dqPosted q.val - (s.dq q.val).claimed.length))).map (·.toNat) ∧
        s.dqNeed q.val f ≤ cl.length ∧ (s.dq q.val).fifo.length < 512 ∧
        (s.readFrame f.buf f.bytes.length bad).2 = none) ∧
    (∃ (s : State) (q : Fin 64) (addrs : List (BitVec 64)) (bad : Option Nat) (f : Frame) (cl : List Nat) (n : Nat),
      (s.dq q.val).front = some f ∧ (s.dq q.val).writing = false ∧
        cl = (s.dq q.val).claimed ++ (addrs.take (min (s.dqNeed q.val f - (s.dq q.val).claimed.length) (s.dqPosted q.val - (s.dq q.val).claimed.length))).map (·.toNat) ∧
        s.dqNeed q.val f ≤ cl.length ∧ (s.dq q.val).fifo.length < 512 ∧
        (s.readFrame f.buf f.bytes.length bad).2 = some n ∧ s.count (C.DQ_REWOUND q.val) < 0xFFFFFFFE) ∧
    (∃ (s : State) (q : Fin 64),
      ((s.dq q.val).front = none ∨ (s.dq q.val).writing = false)) ∧
    (∃ (s : State) (q : Fin 64) (f : Frame) (raw : Nat),
      (s.dq q.val).front = some f ∧ (s.dq q.val).writing = true ∧ f.rxRaw = some raw ∧ f.src < 24 ∧
        bit ((s.rd R.TIME_RXCAP_Q_HI).toNat * 2 ^ 32 + (s.rd R.TIME_RXCAP_Q_LO).toNat) q.val = true ∧
        s.time.fifo.length < 512 ∧ s.isMulti f.buf = false ∧ s.owner f.buf = agD2h) ∧
    (∃ (s : State) (q : Fin 64) (f : Frame) (raw : Nat),
      (s.dq q.val).front = some f ∧ (s.dq q.val).writing = true ∧ f.rxRaw = some raw ∧
        (24 ≤ f.src ∨ bit ((s.rd R.TIME_RXCAP_Q_HI).toNat * 2 ^ 32 + (s.rd R.TIME_RXCAP_Q_LO).toNat) q.val = false)) ∧
    (∃ (s : State) (q : Fin 64) (f : Frame) (raw : Nat),
      (s.dq q.val).front = some f ∧ (s.dq q.val).writing = true ∧ f.rxRaw = some raw ∧ f.src < 24 ∧
        bit ((s.rd R.TIME_RXCAP_Q_HI).toNat * 2 ^ 32 + (s.rd R.TIME_RXCAP_Q_LO).toNat) q.val = true ∧
        512 ≤ s.time.fifo.length ∧ s.count C.TIME_CAP_LOST < 0xFFFFFFFE) ∧
    (∃ (s : State) (q : Fin 64) (f : Frame),
      (s.dq q.val).front = some f ∧ (s.dq q.val).writing = true ∧ f.rxRaw = none ∧ s.isMulti f.buf = true ∧
        1 < s.destsOf f.buf) ∧
    (∃ (s : State) (q : Fin 64) (f : Frame),
      (s.dq q.val).front = some f ∧ (s.dq q.val).writing = true ∧ f.rxRaw = none ∧ s.isMulti f.buf = true ∧
        s.destsOf f.buf = 1 ∧ s.owner f.buf = agQm) ∧
    (∃ (s : State) (q : Fin 64),
      ((s.dq q.val).front = none ∨ (s.dq q.val).writing = true ∨ s.flag (F.HOST_DQ_CFG_ENABLE q.val) = false)) ∧
    (∃ (s : State) (q : Fin 64) (f : Frame),
      (s.dq q.val).front = some f ∧ (s.dq q.val).writing = false ∧ s.flag (F.HOST_DQ_CFG_ENABLE q.val) = true ∧
        s.count (C.DQ_HOLD_DROP q.val) < 0xFFFFFFFE ∧ (s.dq q.val).holdTold = false ∧
        (s.source 0x0085).queue.length < 16 ∧ s.isMulti f.buf = false ∧ s.owner f.buf = agD2h) ∧
    (∃ (s : State) (q : Fin 64) (f : Frame),
      (s.dq q.val).front = some f ∧ (s.dq q.val).writing = false ∧ s.flag (F.HOST_DQ_CFG_ENABLE q.val) = true ∧
        s.count (C.DQ_HOLD_DROP q.val) < 0xFFFFFFFE ∧ s.isMulti f.buf = true ∧ 1 < s.destsOf f.buf) ∧
    (∃ (s : State) (q : Fin 64) (qs : List Nat),
      s.bestPop qs = some q.val) ∧
    (∃ (s : State) (qs : List Nat),
      s.bestPop qs = none) ∧
    (∃ (s : State) (q : Fin 64) (code : Byte),
      (s.flag (F.HOST_DQ_CFG_ENABLE q.val) = false ∨ (s.dq q.val).writing = false)) ∧
    (∃ (s : State) (q : Fin 64) (code : Byte) (f : Frame),
      s.flag (F.HOST_DQ_CFG_ENABLE q.val) = true ∧ (s.dq q.val).writing = true ∧ (s.dq q.val).front = some f ∧
        s.count (C.DQ_REWOUND q.val) < 0xFFFFFFFE ∧ s.isMulti f.buf = true ∧ 1 < s.destsOf f.buf) :=
  ⟨⟨(ready 3).setDq 63 { commits := 5 }, pk 3 63 [0xFFFFFFFF, 100, 64, 1], by decide +kernel⟩,
   ⟨ready 3, pk 3 63 [0x7FFFFFFF, 100, 64, 1], by decide +kernel⟩,
   ⟨((ready 3).setOwner 3 agD2h).setDq 63 { front := some { buf := 3, bytes := List.replicate 60 7, src := 4 } },
     pk 3 63 [0x7FFFFFFF, 100, 64, 1], { buf := 3, bytes := List.replicate 60 7, src := 4 }, by decide +kernel⟩,
   ⟨base, 5, 3, 64, by decide +kernel⟩,
   ⟨base, 5, 3, 65, by decide +kernel⟩,
   ⟨(base.setDq 5 { front := some { buf := 3, bytes := List.replicate 60 7, src := 4 } }).setFld (F.HOST_DQ_TAIL_TAIL 5) 2,
     5, [0x1000], { buf := 3, bytes := List.replicate 60 7, src := 4 }, by decide +kernel⟩,
   ⟨base.setDq 5 { front := some { buf := 3, bytes := List.replicate 60 7, src := 4 } }, 5, [0x1000], none,
     { buf := 3, bytes := List.replicate 60 7, src := 4 }, by decide +kernel⟩,
   ⟨(((base.setFld (F.HOST_DQ_CFG_ENABLE 5) 1).setOwner 3 agD2h).setDq 5 { front := some { buf := 3, bytes := List.replicate 60 7, src := 4 }, writing := true, claimed := [9], head := 65535 }),
     5, { buf := 3, bytes := List.replicate 60 7, src := 4 }, by decide +kernel⟩,
   ⟨(((base.setFld (F.HOST_DQ_CFG_ENABLE 5) 1).setOwner 3 agD2h).setDq 5 { front := some { buf := 3, bytes := List.replicate 60 7, src := 4 } }),
     5, { buf := 3, bytes := List.replicate 60 7, src := 4 }, by decide +kernel⟩,
   ⟨base.setDq 5 { fifo := [9, 10] }, 5, 3, 9, [10], by decide +kernel⟩,
   ⟨base, 5, 3, by decide +kernel⟩,
   ⟨base, 5, 2, by decide +kernel⟩,
   ⟨(base.setFld (F.HOST_DQ_CFG_ENABLE 5) 1).setDq 5 { fifo := [9, 10] }, 5, 3, 9, [10], by decide +kernel⟩,
   ⟨base, 5, by decide +kernel⟩,
   ⟨(((base.setFld (F.HOST_DQ_CFG_ENABLE 5) 1).setOwner 3 agD2h).setDq 5 { front := some { buf := 3, bytes := List.replicate 60 7, src := 4 }, writing := true }),
     5, 1, { buf := 3, bytes := List.replicate 60 7, src := 4 }, by decide +kernel⟩,
   ⟨ready 3, pk 3 63 [0, 0, 32, 0], by decide +kernel⟩,
   ⟨(ready 3).setFld (F.HOST_DQ_CFG_ENABLE 63) 1, pk 3 63 [0, 0, 64, 0], by decide +kernel⟩,
   ⟨ready 3, pk 3 64 [0, 0, 64, 0], by decide +kernel⟩,
   ⟨((ready 3).setOwner 3 agD2h).setDq 63 { front := some { buf := 3, bytes := List.replicate 60 7, src := 4 } },
     pk 3 63 [0x7FFFFFFF, 100, 64, 1], { buf := 3, bytes := List.replicate 60 7, src := 4 }, by decide +kernel⟩,
   ⟨base, 5, 2, 65, by decide +kernel⟩,
   ⟨base, 5, [], none, by decide +kernel⟩,
   ⟨base.setDq 5 { front := some { buf := 3, bytes := List.replicate 60 7, src := 4 } }, 5, [0x1000], none,
     { buf := 3, bytes := List.replicate 60 7, src := 4 }, [], by decide +kernel⟩,
   ⟨(base.setDq 5 { front := some { buf := 3, bytes := List.replicate 60 7, src := 4 } }).setFld (F.HOST_DQ_TAIL_TAIL 5) 2,
     5, [0x1000], none, { buf := 3, bytes := List.replicate 60 7, src := 4 }, [0x1000], by decide +kernel⟩,
   ⟨((base.setOwner 3 agD2h).setDq 5 { front := some { buf := 3, bytes := List.replicate 60 7, src := 4 } }).setFld (F.HOST_DQ_TAIL_TAIL 5) 2,
     5, [0x1000], some 32, { buf := 3, bytes := List.replicate 60 7, src := 4 }, [0x1000], 32, by decide +kernel⟩,
   ⟨base, 5, by decide +kernel⟩,
   ⟨((((base.setFld (F.HOST_DQ_CFG_ENABLE 5) 1).setOwner 3 agD2h).setDq 5 { front := some { buf := 3, bytes := List.replicate 60 7, src := 4, rxRaw := some 77, rxTime := 9 }, writing := true }).wr R.TIME_RXCAP_Q_LO 32),
     5, { buf := 3, bytes := List.replicate 60 7, src := 4, rxRaw := some 77, rxTime := 9 }, 77, by decide +kernel⟩,
   ⟨(((base.setFld (F.HOST_DQ_CFG_ENABLE 5) 1).setOwner 3 agD2h).setDq 5 { front := some { buf := 3, bytes := List.replicate 60 7, src := 4, rxRaw := some 77, rxTime := 9 }, writing := true }),
     5, { buf := 3, bytes := List.replicate 60 7, src := 4, rxRaw := some 77, rxTime := 9 }, 77, by decide +kernel⟩,
   ⟨{ ((((base.setFld (F.HOST_DQ_CFG_ENABLE 5) 1).setOwner 3 agD2h).setDq 5 { front := some { buf := 3, bytes := List.replicate 60 7, src := 4, rxRaw := some 77, rxTime := 9 }, writing := true }).wr R.TIME_RXCAP_Q_LO 32) with time := { base.time with fifo := List.replicate 512 [] } },
     5, { buf := 3, bytes := List.replicate 60 7, src := 4, rxRaw := some 77, rxTime := 9 }, 77, by decide +kernel⟩,
   ⟨((base.setOwner 3 agQm).setDests 3 2).setDq 5 { front := some { buf := 3, bytes := List.replicate 60 7, src := 4 }, writing := true },
     5, { buf := 3, bytes := List.replicate 60 7, src := 4 }, by decide +kernel⟩,
   ⟨(fun (x : State) => ({ x with buf := { x.buf with dests := [(3, 1)] } } : State)) (((base.setOwner 3 agQm).setDests 3 2).setDq 5 { front := some { buf := 3, bytes := List.replicate 60 7, src := 4 }, writing := true }),
     5, { buf := 3, bytes := List.replicate 60 7, src := 4 }, by decide +kernel⟩,
   ⟨base, 5, by decide +kernel⟩,
   ⟨(((base.setFld (F.HOST_DQ_CFG_ENABLE 5) 1).setOwner 3 agD2h).setDq 5 { front := some { buf := 3, bytes := List.replicate 60 7, src := 4 } }),
     5, { buf := 3, bytes := List.replicate 60 7, src := 4 }, by decide +kernel⟩,
   ⟨(((base.setFld (F.HOST_DQ_CFG_ENABLE 5) 1).setOwner 3 agQm).setDests 3 2).setDq 5 { front := some { buf := 3, bytes := List.replicate 60 7, src := 4 } },
     5, { buf := 3, bytes := List.replicate 60 7, src := 4 }, by decide +kernel⟩,
   ⟨base.setDq 5 { fifo := [9] }, 5, [4, 5], by decide +kernel⟩,
   ⟨base, [4, 5], by decide +kernel⟩,
   ⟨base, 5, 1, by decide +kernel⟩,
   ⟨(((base.setFld (F.HOST_DQ_CFG_ENABLE 5) 1).setOwner 3 agQm).setDests 3 2).setDq 5 { front := some { buf := 3, bytes := List.replicate 60 7, src := 4 }, writing := true },
     5, 1, { buf := 3, bytes := List.replicate 60 7, src := 4 }, by decide +kernel⟩⟩

theorem wit_HostToDeviceQueuesTakeFrames :
    (∃ (s : State) (p : Pkt),
      Taken 0x3204 p s ∧ p.length = 5 ∧ p.target.toNat < 64 ∧ p.w 1 % 32 = 0 ∧ p.w 3 % 8 = 0 ∧
        changesEnabled (s.rd (R.HOST_HQ_CFG p.target.toNat)).toNat (s.rd (R.HOST_HQ_BASE_LO p.target.toNat)).toNat (s.rd (R.HOST_HQ_BASE_HI p.target.toNat)).toNat (p.w 0) (p.w 1) (p.w 2) =
        false) ∧
    (∃ (s : State) (q : Fin 64) (f : Fin 6) (v : BitVec 16),
      s.hqFunc q.val = f.val ∧ ((v.toNat + 65536 - (s.hq q.val).head % 65536) % 65536) ≤ s.hqRing q.val) ∧
    (∃ (s : State) (q : Fin 64) (desc bytes : List Byte) (cause : Nat),
      s.flag (F.HOST_HQ_CFG_ENABLE q.val) = true ∧ 0 < s.hqPosted q.val ∧ (s.hq q.val).cur = none ∧
        badDescriptor desc = some cause ∧ s.count (C.HQ_BAD_DESC q.val) < 0xFFFFFFFE ∧
        (s.source 0x0085).queue.length < 16) ∧
    (∃ (s : State) (q : Fin 64) (desc bytes : List Byte) (id : Nat),
      s.flag (F.HOST_HQ_CFG_ENABLE q.val) = true ∧ 0 < s.hqPosted q.val ∧ (s.hq q.val).cur = none ∧
        badDescriptor desc = none ∧ (s.allocBuf agH2d (leAt desc 8 2)).2 = .got id) ∧
    (∃ (s : State) (q : Fin 64) (desc bytes : List Byte),
      s.flag (F.HOST_HQ_CFG_ENABLE q.val) = true ∧ 0 < s.hqPosted q.val ∧ (s.hq q.val).cur = none ∧
        badDescriptor desc = none ∧ (s.allocBuf agH2d (leAt desc 8 2)).2 = .refused) ∧
    (∃ (s : State) (q : Fin 64) (raw : Nat) (f : Frame),
      (s.hq q.val).cur = some f ∧ s.omccOf q.val = none ∧ (s.hq q.val).fwd = false ∧ (s.hq q.val).dest < 24 ∧
        f.time = 0 ∧ s.owner f.buf = agH2d) ∧
    (∃ (s : State) (q : Fin 64) (raw : Nat) (f : Frame) (n : Nat),
      (s.hq q.val).cur = some f ∧ s.omccOf q.val = some n ∧ s.owner f.buf = agH2d) ∧
    (∃ (s : State) (q : Fin 64) (raw : Nat),
      (s.hq q.val).cur = none) ∧
    (∃ (s : State) (q : Fin 64) (code : Byte),
      s.flag (F.HOST_HQ_CFG_ENABLE q.val) = true ∧ (s.hq q.val).cur = none ∧
        s.count (C.HQ_DMA_ERR q.val) < 0xFFFFFFFE ∧ (s.source 0x0085).queue.length < 16) ∧
    (∃ (s : State) (p : Pkt),
      Taken 0x3204 p s ∧ p.length = 5 ∧ p.target.toNat < 64 ∧ (p.w 1 % 32 ≠ 0 ∨ p.w 3 % 8 ≠ 0)) ∧
    (∃ (s : State) (p : Pkt),
      Taken 0x3204 p s ∧ p.length = 5 ∧ p.target.toNat < 64 ∧ p.w 1 % 32 = 0 ∧ p.w 3 % 8 = 0 ∧
        changesEnabled (s.rd (R.HOST_HQ_CFG p.target.toNat)).toNat (s.rd (R.HOST_HQ_BASE_LO p.target.toNat)).toNat (s.rd (R.HOST_HQ_BASE_HI p.target.toNat)).toNat (p.w 0) (p.w 1) (p.w 2) =
        true) ∧
    (∃ (s : State) (p : Pkt),
      Taken 0x3204 p s ∧ p.length = 5 ∧ 64 ≤ p.target.toNat) ∧
    (∃ (s : State) (q : Fin 64) (f : Fin 6) (v : BitVec 16),
      s.hqFunc q.val = f.val ∧ s.hqRing q.val < ((v.toNat + 65536 - (s.hq q.val).head % 65536) % 65536)) ∧
    (∃ (s : State) (q : Fin 64) (f : Fin 6) (v : BitVec 16),
      s.hqFunc q.val ≠ f.val) ∧
    (∃ (s : State) (q : Fin 64) (desc bytes : List Byte),
      (s.flag (F.HOST_HQ_CFG_ENABLE q.val) = false ∨ s.hqPosted q.val = 0 ∨ (s.hq q.val).cur ≠ none)) ∧
    (∃ (s : State) (q : Fin 64) (code : Byte),
      s.flag (F.HOST_HQ_CFG_ENABLE q.val) = false) ∧
    (∃ (s : State) (q : Fin 64) (code : Byte) (f : Frame),
      s.flag (F.HOST_HQ_CFG_ENABLE q.val) = true ∧ (s.hq q.val).cur = some f ∧ s.owner f.buf = agH2d ∧
        s.count (C.HQ_DMA_ERR q.val) < 0xFFFFFFFE ∧ s.count (C.HQ_REWOUND q.val) < 0xFFFFFFFE ∧
        (s.source 0x0085).queue.length < 16) ∧
    (∃ (s : State) (q : Fin 64) (raw : Nat) (f : Frame),
      (s.hq q.val).cur = some f ∧ s.flag (F.HOST_HQ_CFG_NOTICE q.val) = true) ∧
    (∃ (s : State) (q : Fin 64) (raw : Nat) (f : Frame) (as : List Arrival),
      (s.hq q.val).cur = some f ∧ s.omccOf q.val = none ∧ s.owner f.buf = agH2d ∧
        as = ((if (s.hq q.val).fwd then (s.destLookup f.fid (beAt f.bytes 0 6)).2
        else s.expandDest (s.hq q.val).dest).map (s.arrivalFor f)).eraseDups ∧ f.time = 0 ∧ as ≠ []) ∧
    (∃ (s : State) (q : Fin 64) (raw : Nat) (f : Frame) (as : List Arrival),
      (s.hq q.val).cur = some f ∧ s.omccOf q.val = none ∧ s.owner f.buf = agH2d ∧
        as = ((if (s.hq q.val).fwd then (s.destLookup f.fid (beAt f.bytes 0 6)).2
        else s.expandDest (s.hq q.val).dest).map (s.arrivalFor f)).eraseDups ∧ as = [] ∧
        s.count C.FWD_FILTERED < 0xFFFFFFFE ∧ f.time = 0) ∧
    (∃ (s : State) (q : Fin 64) (raw : Nat) (f : Frame),
      (s.hq q.val).cur = some f ∧ s.omccOf q.val = none ∧ s.owner f.buf = agH2d ∧ (s.hq q.val).fwd = false ∧
        (s.hq q.val).dest < 24 ∧ bit f.time 63 = false ∧ bitsOf f.time 55 48 + 44 ≤ f.bytes.length) ∧
    (∃ (s : State) (q : Fin 64) (raw : Nat) (f : Frame),
      (s.hq q.val).cur = some f ∧ s.omccOf q.val = none ∧ s.owner f.buf = agH2d ∧ (s.hq q.val).fwd = false ∧
        (s.hq q.val).dest < 24 ∧ f.time ≠ 0 ∧ ¬(bitsOf f.time 55 48 + 44 ≤ f.bytes.length) ∧
        s.count C.TIME_TIME_IGNORED < 0xFFFFFFFE) ∧
    (∃ (s : State) (q : Fin 64) (raw : Nat) (f : Frame),
      (s.hq q.val).cur = some f ∧ s.omccOf q.val = none ∧ s.owner f.buf = agH2d ∧ (s.hq q.val).fwd = false ∧
        24 ≤ (s.hq q.val).dest ∧ (s.hq q.val).dest < 128 ∧ f.time ≠ 0 ∧ s.count C.TIME_TIME_IGNORED < 0xFFFFFFFE) ∧
    (∃ (s : State) (q : Fin 64) (raw : Nat) (f : Frame) (now sec ns : Nat),
      (s.hq q.val).cur = some f ∧ s.omccOf q.val = none ∧ s.owner f.buf = agH2d ∧ (s.hq q.val).fwd = false ∧
        (s.hq q.val).dest < 24 ∧ bit f.time 63 = true ∧ bitsOf f.time 55 48 + 44 ≤ f.bytes.length ∧
        (s.launchQ (s.hq q.val).dest).length < 128 ∧ now = s.time.at (max s.time.raw raw) ∧
        sec = launchSec (timeSec now) (bitsOf f.time 45 30) ∧ ns = bitsOf f.time 29 0) ∧
    (∃ (s : State) (q : Fin 64) (raw : Nat) (f : Frame),
      (s.hq q.val).cur = some f ∧ s.omccOf q.val = none ∧ s.owner f.buf = agH2d ∧ (s.hq q.val).fwd = false ∧
        (s.hq q.val).dest < 24 ∧ bit f.time 63 = true ∧ bitsOf f.time 55 48 + 44 ≤ f.bytes.length ∧
        128 ≤ (s.launchQ (s.hq q.val).dest).length ∧ s.count C.TIME_LAUNCH_FULL < 0xFFFFFFFE) :=
  ⟨⟨ready 3, pk 3 63 [0xFFFFFFFF, 32, 1, 8, 2], by decide +kernel⟩,
   ⟨base, 5, 3, 64, by decide +kernel⟩,
   ⟨((base.setFld (F.HOST_HQ_CFG_ENABLE 5) 1).setFld (F.HOST_HQ_TAIL_TAIL 5) 3), 5, fitB 32 [], [], 0,
     by decide +kernel⟩,
   ⟨((((base.setFld (F.HOST_HQ_CFG_ENABLE 5) 1).setFld (F.HOST_HQ_TAIL_TAIL 5) 3)).fillPool 0 4), 5, (fitB 32 ([0,
     0, 0, 0, 0, 0, 0, 0, 60, 0, 0, 4])), List.replicate 60 9, 0, by decide +kernel⟩,
   ⟨((base.setFld (F.HOST_HQ_CFG_ENABLE 5) 1).setFld (F.HOST_HQ_TAIL_TAIL 5) 3), 5, (fitB 32 ([0, 0, 0, 0, 0, 0, 0,
     0, 60, 0, 0, 4])), [], by decide +kernel⟩,
   ⟨((base.setOwner 3 agH2d).setHq 5 { cur := some { buf := 3, bytes := List.replicate 60 7, src := 255 }, dest := 7, head := 65535 }),
     5, 4, { buf := 3, bytes := List.replicate 60 7, src := 255 }, by decide +kernel⟩,
   ⟨((base.setOwner 3 agH2d).setHq 5 { cur := some { buf := 3, bytes := List.replicate 60 7, src := 255 } }).setCh 1 { PonCh.reset with omccHq := some 5 },
     5, 4, { buf := 3, bytes := List.replicate 60 7, src := 255 }, 1, by decide +kernel⟩,
   ⟨base, 5, 4, by decide +kernel⟩,
   ⟨((base.setFld (F.HOST_HQ_CFG_ENABLE 5) 1).setFld (F.HOST_HQ_TAIL_TAIL 5) 3), 5, 2, by decide +kernel⟩,
   ⟨ready 3, pk 3 63 [0, 32, 1, 4, 2], by decide +kernel⟩,
   ⟨(ready 3).setFld (F.HOST_HQ_CFG_ENABLE 63) 1, pk 3 63 [0, 32, 1, 8, 2], by decide +kernel⟩,
   ⟨ready 3, pk 3 64 [0, 32, 1, 8, 2], by decide +kernel⟩,
   ⟨base, 5, 3, 65, by decide +kernel⟩,
   ⟨base, 5, 2, 65, by decide +kernel⟩,
   ⟨base, 5, [], [], by decide +kernel⟩,
   ⟨base, 5, 2, by decide +kernel⟩,
   ⟨(((base.setFld (F.HOST_HQ_CFG_ENABLE 5) 1).setFld (F.HOST_HQ_TAIL_TAIL 5) 3).setOwner 3 agH2d).setHq 5 { cur := some { buf := 3, bytes := List.replicate 60 7, src := 255 } },
     5, 2, { buf := 3, bytes := List.replicate 60 7, src := 255 }, by decide +kernel⟩,
   ⟨((base.setOwner 3 agH2d).setHq 5 { cur := some { buf := 3, bytes := List.replicate 60 7, src := 255 }, dest := 7 }).setFld (F.HOST_HQ_CFG_NOTICE 5) 1,
     5, 4, { buf := 3, bytes := List.replicate 60 7, src := 255 }, by decide +kernel⟩,
   ⟨(base.setOwner 3 agH2d).setHq 5 { cur := some { buf := 3, bytes := List.replicate 60 7, src := 255 }, fwd := true },
     5, 4, { buf := 3, bytes := List.replicate 60 7, src := 255 },
     ((maskDests 0x0FFFFFFF).map (base.arrivalFor { buf := 3, bytes := List.replicate 60 7, src := 255 })).eraseDups,
     by decide +kernel⟩,
   ⟨(base.setOwner 3 agH2d).setHq 5 { cur := some { buf := 3, bytes := List.replicate 60 7, src := 255 }, dest := 130 },
     5, 4, { buf := 3, bytes := List.replicate 60 7, src := 255 }, [], by decide +kernel⟩,
   ⟨(base.setOwner 3 agH2d).setHq 5 { cur := some { buf := 3, bytes := List.replicate 60 7, src := 255, time := 5 }, dest := 7 },
     5, 4, { buf := 3, bytes := List.replicate 60 7, src := 255, time := 5 }, by decide +kernel⟩,
   ⟨(base.setOwner 3 agH2d).setHq 5 { cur := some { buf := 3, bytes := List.replicate 60 7, src := 255, time := 0xFF000000000000 }, dest := 7 },
     5, 4, { buf := 3, bytes := List.replicate 60 7, src := 255, time := 0xFF000000000000 }, by decide +kernel⟩,
   ⟨(base.setOwner 3 agH2d).setHq 5 { cur := some { buf := 3, bytes := List.replicate 60 7, src := 255, time := 5 }, dest := 25 },
     5, 4, { buf := 3, bytes := List.replicate 60 7, src := 255, time := 5 }, by decide +kernel⟩,
   ⟨(base.setOwner 3 agH2d).setHq 5 { cur := some { buf := 3, bytes := List.replicate 60 7, src := 255, time := 0x8000000000000000 }, dest := 7 },
     5, 4, { buf := 3, bytes := List.replicate 60 7, src := 255, time := 0x8000000000000000 }, base.time.at 4,
     launchSec (timeSec (base.time.at 4)) 0, 0, by decide +kernel⟩,
   ⟨((base.setOwner 3 agH2d).setHq 5 { cur := some { buf := 3, bytes := List.replicate 60 7, src := 255, time := 0x8000000000000000 }, dest := 7 }).setLaunchQ 7 (List.replicate 128 ⟨{ buf := 3, bytes := List.replicate 60 7, src := 255 },
     0, 0, false⟩), 5, 4, { buf := 3, bytes := List.replicate 60 7, src := 255, time := 0x8000000000000000 },
     by decide +kernel⟩⟩

theorem wit_FramesEnterAndLeaveTheQueues :
    (∃ (s : State) (cyc : Nat) (a : Arrival) (as : List Arrival) (sel node q : Nat),
      s.sched.arrivals = a :: as ∧ a.group = none ∧ a.node1 < 24 ∧ s.selectNode a.node1 a.frame = (sel, node) ∧
        q = 8 * node + a.frame.queue % 8 ∧ s.attached a.node1 node = true ∧ (s.n2 (q / 8)).lineHold ≠ 2 ∧
        (s.sq q).depth + a.frame.bytes.length ≤ (s.sq q).limit a.frame.colour ∧
        (s.n1 a.node1).held + bufBytes a.frame ≤ (s.n1 a.node1).shareKb * 1024 ∧ s.count C.SCH_ENQ < 0xFFFFFFFE) ∧
    (∃ (s : State) (cyc : Nat) (a : Arrival) (as : List Arrival) (sel node q : Nat),
      s.sched.arrivals = a :: as ∧ a.group = none ∧ a.node1 < 24 ∧ s.selectNode a.node1 a.frame = (sel, node) ∧
        q = 8 * node + a.frame.queue % 8 ∧ s.attached a.node1 node = true ∧ (s.n2 (q / 8)).lineHold ≠ 2 ∧
        (s.sq q).limit a.frame.colour < (s.sq q).depth + a.frame.bytes.length ∧
        s.count C.SCH_DROP_FULL < 0xFFFFFFFE) ∧
    (∃ (s : State) (cyc : Nat) (a : Arrival) (as : List Arrival) (sel node : Nat),
      s.sched.arrivals = a :: as ∧ a.group = none ∧ a.node1 < 24 ∧ s.selectNode a.node1 a.frame = (sel, node) ∧
        s.attached a.node1 node = false ∧ s.count C.SCH_NO_NODE < 0xFFFFFFFE) ∧
    (∃ (s : State) (cyc : Nat) (a : Arrival) (as : List Arrival),
      s.sched.arrivals = a :: as ∧ a.node1 = 28 ∧ (s.n2 (dqQueue a.dq / 8)).lineHold ≠ 2 ∧
        (s.sq (dqQueue a.dq)).depth + a.frame.bytes.length ≤ (s.sq (dqQueue a.dq)).limit a.frame.colour ∧
        (s.n1 28).held + bufBytes a.frame ≤ (s.n1 28).shareKb * 1024) ∧
    (∃ (s : State) (cyc : Nat),
      s.sched.arrivals = []) ∧
    (∃ (s : State) (cyc : Nat) (a : Arrival) (as : List Arrival) (sel node q : Nat),
      s.sched.arrivals = a :: as ∧ a.group = none ∧ s.selectNode a.node1 a.frame = (sel, node) ∧ a.node1 ≠ 28 ∧
        q = 8 * node + a.frame.queue % 8 ∧ s.attached a.node1 node = true ∧ (s.n2 (q / 8)).lineHold ≠ 2 ∧
        (s.sq q).depth + a.frame.bytes.length ≤ (s.sq q).limit a.frame.colour ∧
        (s.n1 a.node1).held + bufBytes a.frame ≤ (s.n1 a.node1).shareKb * 1024 ∧ s.count C.SCH_ENQ < 0xFFFFFFFE) ∧
    (∃ (s : State) (cyc : Nat) (a : Arrival) (as : List Arrival) (sel node q : Nat),
      s.sched.arrivals = a :: as ∧ a.group = none ∧ s.selectNode a.node1 a.frame = (sel, node) ∧ a.node1 ≠ 28 ∧
        q = 8 * node + a.frame.queue % 8 ∧ s.attached a.node1 node = true ∧ (s.n2 (q / 8)).lineHold = 2 ∧
        s.count C.SCH_DROP_DOWN < 0xFFFFFFFE) ∧
    (∃ (s : State) (cyc : Nat) (a : Arrival) (as : List Arrival) (sel node q : Nat),
      s.sched.arrivals = a :: as ∧ a.group = none ∧ s.selectNode a.node1 a.frame = (sel, node) ∧ a.node1 ≠ 28 ∧
        q = 8 * node + a.frame.queue % 8 ∧ s.attached a.node1 node = true ∧ (s.n2 (q / 8)).lineHold ≠ 2 ∧
        (s.sq q).depth + a.frame.bytes.length ≤ (s.sq q).limit a.frame.colour ∧
        (s.n1 a.node1).shareKb * 1024 < (s.n1 a.node1).held + bufBytes a.frame ∧
        s.count C.SCH_DROP_SHARE < 0xFFFFFFFE) ∧
    (∃ (s : State) (cyc : Nat) (a : Arrival) (as : List Arrival) (g : Nat),
      s.sched.arrivals = a :: as ∧ a.group = some g ∧ a.node1 ≠ 28 ∧ (s.group g).enabled = false ∧
        s.count C.SCH_NO_NODE < 0xFFFFFFFE) ∧
    (∃ (s : State) (cyc : Nat) (a : Arrival) (as : List Arrival) (g : Nat) (n b : Nat),
      s.sched.arrivals = a :: as ∧ a.group = some g ∧ a.node1 ≠ 28 ∧ (s.group g).enabled = true ∧
        (({ s with sched := { s.sched with arrivals := as } }.pktTo cyc).spreadFrame g a.frame).2 = (n, b) ∧
        (({ s with sched := { s.sched with arrivals := as } }.pktTo cyc).spreadFrame g a.frame).1.bondNode ((({ s with sched := { s.sched with arrivals := as } }.pktTo cyc).spreadFrame g a.frame).1.group g) a.frame.bondClass n =
        none ∧ (({ s with sched := { s.sched with arrivals := as } }.pktTo cyc).spreadFrame g a.frame).1.count C.SCH_NO_NODE < 0xFFFFFFFE) ∧
    (∃ (s : State) (cyc : Nat) (a : Arrival) (as : List Arrival) (g : Nat) (n b k q : Nat),
      s.sched.arrivals = a :: as ∧ a.group = some g ∧ a.node1 ≠ 28 ∧ (s.group g).enabled = true ∧
        (({ s with sched := { s.sched with arrivals := as } }.pktTo cyc).spreadFrame g a.frame).2 = (n, b) ∧ n < 4 ∧
        (({ s with sched := { s.sched with arrivals := as } }.pktTo cyc).spreadFrame g a.frame).1.bondNode ((({ s with sched := { s.sched with arrivals := as } }.pktTo cyc).spreadFrame g a.frame).1.group g) a.frame.bondClass n =
        some k ∧ q = 8 * k + a.frame.queue % 8 ∧
        (({ s with sched := { s.sched with arrivals := as } }.pktTo cyc).spreadFrame g a.frame).1.attached (24 +
        n) k = true ∧ ((({ s with sched := { s.sched with arrivals := as } }.pktTo cyc).spreadFrame g a.frame).1.n2 (q / 8)).lineHold ≠ 2 ∧
        ((({ s with sched := { s.sched with arrivals := as } }.pktTo cyc).spreadFrame g a.frame).1.sq q).depth +
        a.frame.bytes.length ≤ ((({ s with sched := { s.sched with arrivals := as } }.pktTo cyc).spreadFrame g a.frame).1.sq q).limit a.frame.colour ∧
        ((({ s with sched := { s.sched with arrivals := as } }.pktTo cyc).spreadFrame g a.frame).1.n1 (24 +
        n)).held + bufBytes a.frame ≤ ((({ s with sched := { s.sched with arrivals := as } }.pktTo cyc).spreadFrame g a.frame).1.n1 (24 +
        n)).shareKb * 1024) ∧
    (∃ (s : State) (n : Fin 29) (cyc q : Nat) (x : QFrame),
      n.val < 24 ∧ (s.macAt n.val).tx = none ∧ (s.macAt n.val).link = true ∧
        ((s.pktTo cyc).serveNode1 n.val (fun _ => true)).2 = some (q, x) ∧ s.count C.SCH_DEQ < 0xFFFFFFFE) ∧
    (∃ (s : State) (n : Fin 29) (cyc : Nat),
      (24 ≤ n.val ∧ n.val ≤ 27 ∨ n.val < 24 ∧ ((s.macAt n.val).tx ≠ none ∨ (s.macAt n.val).link = false))) ∧
    (∃ (s : State) (cyc q : Nat) (x : QFrame),
      ((s.pktTo cyc).serveNode1 28 (fun _ => true)).2 = some (q, x) ∧ 4032 ≤ q ∧
        s.flag (F.HOST_DQ_CFG_ENABLE (q - 4032)) = true) ∧
    (∃ (s : State) (n : Fin 29) (cyc : Nat),
      n.val < 24 ∧ (s.macAt n.val).tx = none ∧ (s.macAt n.val).link = true ∧
        ((s.pktTo cyc).serveNode1 n.val (fun _ => true)).2 = none) ∧
    (∃ (s : State) (cyc : Nat),
      ((s.pktTo cyc).serveNode1 28 (fun _ => true)).2 = none) ∧
    (∃ (s : State) (cyc q : Nat) (x : QFrame),
      ((s.pktTo cyc).serveNode1 28 (fun _ => true)).2 = some (q, x) ∧
        s.flag (F.HOST_DQ_CFG_ENABLE (q - 4032)) = false ∧ s.count (C.DQ_DISABLED_DROP (q - 4032)) < 0xFFFFFFFE) :=
  ⟨⟨(({ base with sched := { base.sched with arrivals := [{ frame := { bytes := [1, 2], queue := 3 }, node1 := 16 }] } }).setN2 7 { parent := 16 }).setN1 16 { nodeBase := 7 },
    250, { frame := { bytes := [1, 2], queue := 3 }, node1 := 16 }, [], 0, 7, 59, by decide +kernel⟩,
   ⟨(({ base with sched := { base.sched with arrivals := [{ frame := { bytes := List.replicate 1025 0, queue := 3 }, node1 := 16 }] } }).setN2 7 { parent := 16 }).setN1 16 { nodeBase := 7 },
     250, { frame := { bytes := List.replicate 1025 0, queue := 3 }, node1 := 16 }, [], 0, 7, 59, by decide +kernel⟩,
   ⟨{ base with sched := { base.sched with arrivals := [{ frame := { bytes := [1, 2] }, node1 := 16 }] } }, 250,
     { frame := { bytes := [1, 2] }, node1 := 16 }, [], 0, 0, by decide +kernel⟩,
   ⟨{ base with sched := { base.sched with arrivals := [{ frame := { bytes := [1, 2] }, node1 := 28, dq := 9 }] } },
     250, { frame := { bytes := [1, 2] }, node1 := 28, dq := 9 }, [], by decide +kernel⟩,
   ⟨base, 250, by decide +kernel⟩,
   ⟨((({ base with sched := { base.sched with arrivals := [{ frame := { bytes := [1, 2], queue := 3 }, node1 := 25 }] } }).setN2 7 { parent := 25 }).setN1 25 { nodeBase := 7 }).setCh 1 { PonCh.reset with lull := .doze },
     250, { frame := { bytes := [1, 2], queue := 3 }, node1 := 25 }, [], 0, 7, 59, by decide +kernel⟩,
   ⟨((({ base with sched := { base.sched with arrivals := [{ frame := { bytes := [1, 2], queue := 3 }, node1 := 16 }] } }).setN2 7 { parent := 16, lineHold := 2 }).setN1 16 { nodeBase := 7 }),
     250, { frame := { bytes := [1, 2], queue := 3 }, node1 := 16 }, [], 0, 7, 59, by decide +kernel⟩,
   ⟨((({ base with sched := { base.sched with arrivals := [{ frame := { bytes := [1, 2], queue := 3 }, node1 := 16 }] } }).setN2 7 { parent := 16 }).setN1 16 { nodeBase := 7, shareKb := 0 }),
     250, { frame := { bytes := [1, 2], queue := 3 }, node1 := 16 }, [], 0, 7, 59, by decide +kernel⟩,
   ⟨(({ base with sched := { base.sched with arrivals := [{ frame := { bytes := [1, 2], queue := 3, hash := 69 }, node1 := 24, group := some 1 }] } } : State).setGroup 1 {}),
     250, { frame := { bytes := [1, 2], queue := 3, hash := 69 }, node1 := 24, group := some 1 }, [], 1,
     by decide +kernel⟩,
   ⟨(({ base with sched := { base.sched with arrivals := [{ frame := { bytes := [1, 2], queue := 3, hash := 69 }, node1 := 24, group := some 1 }] } } : State).setGroup 1 { enabled := true, host := List.replicate 34 0 ++ List.replicate 16 0xFF }),
     250, { frame := { bytes := [1, 2], queue := 3, hash := 69 }, node1 := 24, group := some 1 }, [], 1, 0, 5,
     by decide +kernel⟩,
   ⟨(((({ base with sched := { base.sched with arrivals := [{ frame := { bytes := [1, 2], queue := 3, hash := 69 }, node1 := 24, group := some 1 }] } } : State).setGroup 1 { enabled := true, host := List.replicate 34 0 ++ List.replicate 16 3 }).setN2 7 { parent := 24 }).setAlloc 3 { state := 2, allocId := 1030, channel := 0, loaded := true, host := leBytes 2 7 }),
     250, { frame := { bytes := [1, 2], queue := 3, hash := 69 }, node1 := 24, group := some 1 }, [], 1, 0, 5, 7,
     59, by decide +kernel⟩,
   ⟨((base.setN2 7 { parent := 16 }).setSq 59 { frames := [⟨{ bytes := [1, 2] }, 16, 0, none, 0⟩] }).setMac 16 { link := true },
     16, 1000, 59, ⟨{ bytes := [1, 2] }, 16, 0, none, 0⟩, by decide +kernel⟩,
   ⟨base, 25, 77, by decide +kernel⟩,
   ⟨((base.setN2 505 { parent := 28 }).setSq 4041 { frames := [⟨{ bytes := [1, 2] }, 28, 0, none, 0⟩] }).setFld (F.HOST_DQ_CFG_ENABLE 9) 1,
     1000, 4041, ⟨{ bytes := [1, 2] }, 28, 0, none, 0⟩, by decide +kernel⟩,
   ⟨base.setMac 16 { link := true }, 16, 1000, by decide +kernel⟩,
   ⟨base, 1000, by decide +kernel⟩,
   ⟨((base.setN2 505 { parent := 28 }).setSq 4041 { frames := [⟨{ bytes := [1, 2] }, 28, 0, none, 0⟩] }), 1000,
     4041, ⟨{ bytes := [1, 2] }, 28, 0, none, 0⟩, by decide +kernel⟩⟩

theorem wit_SchedulingRecordsAreStoredAndRead :
    (∃ (s : State) (p : Pkt) (first n : Nat) (hs : List (List Byte)),
      Taken 0x33F0 p s ∧ p.target = 0 ∧ ctxLoadLen p = none ∧ first = p.ctxFirst ∧ n = p.ctxCount ∧ p.w 1 ≤ 1 ∧
        0 < n ∧ n ≤ 16 ∧ first + n ≤ 192 ∧ s.ddrReady = true ∧ p.inline = true ∧
        hs = (List.range n).map (fun k => sliceB p.bytes (8 + 64 * k) 64) ∧
        firstBad (lineCheck first s hs) first hs = none) ∧
    (∃ (s : State) (p : Pkt) (first n : Nat) (hs : List (List Byte)),
      Taken 0x33F0 p s ∧ p.target = 0 ∧ ctxLoadLen p = none ∧ first = p.ctxFirst ∧ n = p.ctxCount ∧ p.w 1 ≤ 1 ∧
        0 < n ∧ n ≤ 16 ∧ first + n ≤ 192 ∧ s.ddrReady = true ∧ p.inline = false ∧
        (s.afterTake p).halves 0 first n = .inl hs ∧ firstBad (lineCheck first s hs) first hs = none) ∧
    (∃ (s : State) (p : Pkt) (first n : Nat) (i : Nat),
      Taken 0x33F0 p s ∧ p.target = 0 ∧ ctxLoadLen p = none ∧ first = p.ctxFirst ∧ n = p.ctxCount ∧ p.w 1 ≤ 1 ∧
        0 < n ∧ n ≤ 16 ∧ first + n ≤ 192 ∧ s.ddrReady = true ∧ p.inline = false ∧
        (s.afterTake p).halves 0 first n = .inr i) ∧
    (∃ (s : State) (p : Pkt) (first n : Nat) (hs : List (List Byte)) (i st : Nat),
      Taken 0x33F0 p s ∧ p.target = 0 ∧ ctxLoadLen p = none ∧ first = p.ctxFirst ∧ n = p.ctxCount ∧ p.w 1 ≤ 1 ∧
        0 < n ∧ n ≤ 16 ∧ first + n ≤ 192 ∧ s.ddrReady = true ∧ p.inline = true ∧
        hs = (List.range n).map (fun k => sliceB p.bytes (8 + 64 * k) 64) ∧
        firstBad (lineCheck first s hs) first hs = some (i, st)) ∧
    (∃ (s : State) (p : Pkt) (first n : Nat),
      Taken 0x33F0 p s ∧ p.target = 0 ∧ ctxLoadLen p = none ∧ first = p.ctxFirst ∧ n = p.ctxCount ∧ p.w 1 ≤ 1 ∧
        0 < n ∧ n ≤ 16 ∧ first + n ≤ 192 ∧ s.ddrReady = false) ∧
    (∃ (s : State) (p : Pkt) (first n : Nat),
      Taken 0x33F0 p s ∧ p.target = 0 ∧ ctxLoadLen p = none ∧ first = p.ctxFirst ∧ n = p.ctxCount ∧
        (n < 1 ∨ 16 < n ∨ 192 < first + n ∨ 1 < p.w 1)) ∧
    (∃ (s : State) (p : Pkt) (first n : Nat),
      Taken 0x33F1 p s ∧ p.target = 0 ∧ p.length = 1 ∧ first = p.ctxFirst ∧ n = p.ctxCount ∧ 0 < n ∧ n ≤ 32 ∧
        first + n ≤ 192) ∧
    (∃ (s : State) (p : Pkt) (first n : Nat),
      Taken 0x33F1 p s ∧ p.target = 0 ∧ p.length = 1 ∧ first = p.ctxFirst ∧ n = p.ctxCount ∧
        (n < 1 ∨ 32 < n ∨ 192 < first + n)) ∧
    (∃ (s : State) (p : Pkt) (b : List Byte),
      Taken 0x3301 p s ∧ p.length = 5 ∧ p.target.toNat < 29 ∧ b = p.bytes ∧ leAt b 0 1 = p.target.toNat ∧
        leAt b 1 1 ≤ 2 ∧ leAt b 2 2 ≤ 4095 ∧ leAt b 4 2 ≤ 511 ∧ leAt b 6 2 ≤ 512 ∧ 64 ≤ leAt b 8 2 ∧
        leAt b 8 2 ≤ 49152 ∧ leAt b 10 2 = 0 ∧ shaperOk (b.drop 12) = true) ∧
    (∃ (s : State) (p : Pkt),
      Taken 0x3301 p s ∧ p.length = 5 ∧ p.target.toNat < 29 ∧
        (leAt p.bytes 0 1 ≠ p.target.toNat ∨ 2 < leAt p.bytes 1 1 ∨ 4095 < leAt p.bytes 2 2 ∨
        511 < leAt p.bytes 4 2 ∨ 512 < leAt p.bytes 6 2 ∨ leAt p.bytes 8 2 < 64 ∨ 49152 < leAt p.bytes 8 2 ∨
        leAt p.bytes 10 2 ≠ 0 ∨ shaperOk (p.bytes.drop 12) = false)) ∧
    (∃ (s : State) (p : Pkt) (b : List Byte),
      Taken 0x3302 p s ∧ p.length = 4 ∧ p.target.toNat < 504 ∧ b = p.bytes ∧ leAt b 0 2 = p.target.toNat ∧
        leAt b 2 1 ≤ 28 ∧ leAt b 3 1 ≠ 0 ∧ leAt b 4 1 ≤ 8 ∧ leAt b 5 3 = 0 ∧ shaperOk (b.drop 8) = true ∧
        (leAt b 2 1 = (s.n2 p.target.toNat).parent ∨ s.nodeHolds p.target.toNat = false)) ∧
    (∃ (s : State) (p : Pkt),
      Taken 0x3302 p s ∧ p.length = 4 ∧ p.target.toNat < 512 ∧
        (leAt p.bytes 0 2 ≠ p.target.toNat ∨ 28 < leAt p.bytes 2 1 ∨ leAt p.bytes 3 1 = 0 ∨ 8 < leAt p.bytes 4 1 ∨
        leAt p.bytes 5 3 ≠ 0 ∨ shaperOk (p.bytes.drop 8) = false)) ∧
    (∃ (s : State) (p : Pkt),
      Taken 0x3302 p s ∧ p.length = 4 ∧ p.target.toNat < 512 ∧ leAt p.bytes 0 2 = p.target.toNat ∧
        leAt p.bytes 2 1 ≤ 28 ∧ leAt p.bytes 3 1 ≠ 0 ∧ leAt p.bytes 4 1 ≤ 8 ∧ leAt p.bytes 5 3 = 0 ∧
        shaperOk (p.bytes.drop 8) = true ∧ (504 ≤ p.target.toNat ∨ (leAt p.bytes 2 1 ≠ (s.n2 p.target.toNat).parent ∧
        s.nodeHolds p.target.toNat = true))) ∧
    (∃ (s : State) (p : Pkt),
      Taken 0x3301 p s ∧ p.length = 5 ∧ 29 ≤ p.target.toNat) ∧
    (∃ (s : State) (p : Pkt),
      Taken 0x3302 p s ∧ p.length = 4 ∧ 512 ≤ p.target.toNat) ∧
    (∃ (s : State) (p : Pkt),
      Taken 0x3303 p s ∧ p.length = 5 ∧ 4096 ≤ p.target.toNat) ∧
    (∃ (s : State) (p : Pkt),
      Taken 0x3304 p s ∧ p.length = 0 ∧ 4096 ≤ p.target.toNat) ∧
    (∃ (s : State) (p : Pkt),
      Taken 0x3305 p s ∧ p.length = 5 ∧ p.target ≠ 0) ∧
    (∃ (s : State) (p : Pkt),
      Taken 0x3305 p s ∧ p.length = 5 ∧ p.target = 0 ∧
        (1 < leAt p.bytes 0 1 ∨ 31 < leAt p.bytes 16 1 ∨ leAt p.bytes 8 8 % 64 ≠ 0 ∨ leAt p.bytes 8 8 < 0x10000000)) ∧
    (∃ (s : State) (p : Pkt),
      Taken 0x3303 p s ∧ p.length = 5 ∧ p.target.toNat < 4096 ∧
        (leAt p.bytes 0 2 ≠ p.target.toNat ∨ leAt p.bytes 2 1 = 0 ∨ leAt p.bytes 4 2 = 0 ∨ 49152 < leAt p.bytes 4 2 ∨
        100 < leAt p.bytes 6 1 ∨ 100 < leAt p.bytes 7 1 ∨ 1 < leAt p.bytes 8 1 ∨ leAt p.bytes 3 1 ≠ 0 ∨
        leAt p.bytes 9 3 ≠ 0 ∨ shaperOk (p.bytes.drop 12) = false)) ∧
    (∃ (s : State) (p : Pkt) (b : List Byte),
      Taken 0x3303 p s ∧ p.length = 5 ∧ p.target.toNat < 4096 ∧ b = p.bytes ∧ leAt b 0 2 = p.target.toNat ∧
        leAt b 2 1 ≠ 0 ∧ leAt b 4 2 ≠ 0 ∧ leAt b 4 2 ≤ 49152 ∧ leAt b 6 1 ≤ 100 ∧ leAt b 7 1 ≤ 100 ∧ leAt b 8 1 ≤ 1 ∧
        leAt b 3 1 = 0 ∧ leAt b 9 3 = 0 ∧ shaperOk (b.drop 12) = true) ∧
    (∃ (s : State) (p : Pkt),
      Taken 0x3304 p s ∧ p.length = 0 ∧ p.target.toNat < 4096) ∧
    (∃ (s : State) (p : Pkt) (b : List Byte),
      Taken 0x3305 p s ∧ p.length = 5 ∧ p.target = 0 ∧ b = p.bytes ∧ leAt b 0 1 ≤ 1 ∧ leAt b 16 1 ≤ 31 ∧
        leAt b 8 8 % 64 = 0 ∧ 0x10000000 ≤ leAt b 8 8) ∧
    (∃ (s : State),
      s.sched.acct = 2 ∧ s.sched.recoveryTicks = 0) ∧
    (∃ (s : State),
      (s.sched.acct ≠ 2 ∨ s.sched.recoveryTicks ≠ 0)) :=
  ⟨⟨ddr ((ready 3).setN2 300 { parent := 16 }), pk 3 0 [0x000100bf, 1, 0x0100012c, 0, 1, 0, 0, 0, 0, 0, 0, 0, 0, 0,
    0, 0, 0, 0], 191, 1, [leBytes 4 0x0100012c ++ leBytes 4 0 ++ leBytes 4 1 ++ List.replicate 52 0],
    by decide +kernel⟩,
   ⟨ddr (ready 3), pk 3 0 [0x000100bf, 0], 191, 1, [List.replicate 64 0], by decide +kernel⟩,
   ⟨(ddr (ready 3)).setDdr 764 0x01000100, pk 3 0 [65727, 0], 191, 1, 191, by decide +kernel⟩,
   ⟨ddr (ready 3), pk 3 0 [0x000100bf, 1, 0x0100012c, 0, 1, 0, 0, 0, 0, 0, 0, 0, 0, 0, 0, 0, 0, 0], 191, 1,
     [leBytes 4 0x0100012c ++ leBytes 4 0 ++ leBytes 4 1 ++ List.replicate 52 0], 191, stBadParam, by decide +kernel⟩,
   ⟨ready 3, pk 3 0 [65727, 0], 191, 1, by decide +kernel⟩,
   ⟨ready 3, pk 3 0 [65727, 2], 191, 1, by decide +kernel⟩,
   ⟨ready 3, pk 3 0 [65727], 191, 1, by decide +kernel⟩,
   ⟨ready 3, pk 3 0 [191], 191, 0, by decide +kernel⟩,
   ⟨ready 3, pk 3 16 [0x00050110, 0x00200007, 64, 0x80000400, 0x00000600], (pk 3 16 [0x00050110, 0x00200007, 64,
     0x80000400, 0x00000600]).bytes, by decide +kernel⟩,
   ⟨ready 3, pk 3 16 [0, 0, 64, 0, 0], by decide +kernel⟩,
   ⟨ready 3, pk 3 300 [0x0510012c, 2, 0, 0], (pk 3 300 [0x0510012c, 2, 0, 0]).bytes, by decide +kernel⟩,
   ⟨ready 3, pk 3 300 [0x0010012c, 2, 0, 0], by decide +kernel⟩,
   ⟨ready 3, pk 3 505 [0x051c01f9, 2, 0, 0], by decide +kernel⟩,
   ⟨ready 3, pk 3 29 [0, 0, 64, 0, 0], by decide +kernel⟩,
   ⟨ready 3, pk 3 512 [0, 0, 64, 0], by decide +kernel⟩,
   ⟨ready 3, pk 3 4096 [0, 0, 64, 0, 0], by decide +kernel⟩,
   ⟨ready 3, pk 3 4096 [], by decide +kernel⟩,
   ⟨ready 3, pk 3 1 [0, 0, 64, 0, 0], by decide +kernel⟩,
   ⟨ready 3, pk 3 0 [0, 0, 64, 0, 0], by decide +kernel⟩,
   ⟨ready 3, pk 3 4095 [0x00050ffe, 0x325000ff, 1, 0, 0], by decide +kernel⟩,
   ⟨ready 3, pk 3 4095 [0x00050fff, 0x325000ff, 1, 0, 0], (pk 3 4095 [0x00050fff, 0x325000ff, 1, 0, 0]).bytes,
     by decide +kernel⟩,
   ⟨(ready 3).setSq 59 { dropped := 7, frames := [⟨{ bytes := [1, 2] }, 16, 0, none, 0⟩] }, pk 3 59 [],
     by decide +kernel⟩,
   ⟨ready 3, pk 3 0 [0x0801, 0, 0x10000040, 3, 20], (pk 3 0 [0x0801, 0, 0x10000040, 3, 20]).bytes, by decide +kernel⟩,
   ⟨{ base with sched := { base.sched with acct := 2 } }, by decide +kernel⟩,
   ⟨base, by decide +kernel⟩⟩

theorem wit_KeysEnterAndLeaveTheKeyStore :
    (∃ (s : State),
      32 ≤ s.fld F.CIPH_KEY_SEL_SLOT ∧ s.fld F.CIPH_KEY_SEL_LEN ≠ 3 ∧ s.fld F.CIPH_KEY_SEL_USAGE ≠ 3 ∧
        s.injection 3 = none) ∧
    (∃ (s : State),
      (s.fld F.CIPH_KEY_SEL_SLOT < 32 ∨ s.fld F.CIPH_KEY_SEL_LEN = 3 ∨ s.fld F.CIPH_KEY_SEL_USAGE = 3) ∧
        (s.source 0x00A4).queue.length < 16) ∧
    (∃ (s : State),
      32 ≤ s.fld F.CIPH_KEY_SEL_SLOT) ∧
    (∃ (s : State),
      s.fld F.CIPH_KEY_SEL_SLOT < 32 ∧ (s.source 0x00A4).queue.length < 16) ∧
    (∃ (s : State) (p : Pkt),
      Taken 0x5001 p s ∧ (p.length = 10 ∨ p.length = 12 ∨ p.length = 14) ∧ 32 ≤ p.target.toNat ∧
        p.target.toNat < 1024 ∧ s.injection 3 = none ∧ beAt p.bytes 0 4 = 0x46563434 ∧ leAt p.bytes 4 1 = 1 ∧
        leAt p.bytes 5 1 ≤ 2 ∧ leAt p.bytes 6 1 ≤ 2 ∧ leAt p.bytes 7 1 = 0 ∧ leAt p.bytes 10 2 = 0 ∧
        p.bytes.length = 40 + 8 * leAt p.bytes 5 1 ∧
        crc32 ((p.bytes.take 12 ++ p.bytes.drop 16).map (·.toNat)) = beAt p.bytes 12 4) ∧
    (∃ (s : State) (p : Pkt),
      Taken 0x5002 p s ∧ p.length = 0 ∧ p.target.toNat < 1024) ∧
    (∃ (s : State) (p : Pkt),
      Taken 0x5003 p s ∧ p.length = 5 ∧ p.target = 0 ∧ p.w 1 % 64 = 0 ∧ p.w 3 % 32 = 0) ∧
    (∃ (s : State),
      32 ≤ s.fld F.CIPH_KEY_SEL_SLOT ∧ s.fld F.CIPH_KEY_SEL_LEN ≠ 3 ∧ s.fld F.CIPH_KEY_SEL_USAGE ≠ 3) ∧
    (∃ (s : State) (p : Pkt),
      Taken 0x5001 p s ∧ (p.length = 10 ∨ p.length = 12 ∨ p.length = 14) ∧ 32 ≤ p.target.toNat ∧
        p.target.toNat < 1024 ∧ beAt p.bytes 0 4 = 0x46563434 ∧ leAt p.bytes 4 1 = 1 ∧ leAt p.bytes 5 1 ≤ 2 ∧
        leAt p.bytes 6 1 ≤ 2 ∧ leAt p.bytes 7 1 = 0 ∧ leAt p.bytes 10 2 = 0 ∧
        p.bytes.length = 40 + 8 * leAt p.bytes 5 1 ∧
        crc32 ((p.bytes.take 12 ++ p.bytes.drop 16).map (·.toNat)) = beAt p.bytes 12 4) ∧
    (∃ (s : State) (p : Pkt),
      Taken 0x5001 p s ∧ (p.length = 10 ∨ p.length = 12 ∨ p.length = 14) ∧ 32 ≤ p.target.toNat ∧
        p.target.toNat < 1024 ∧ (beAt p.bytes 0 4 ≠ 0x46563434 ∨ leAt p.bytes 4 1 ≠ 1 ∨ 2 < leAt p.bytes 5 1 ∨
        2 < leAt p.bytes 6 1 ∨ leAt p.bytes 7 1 ≠ 0 ∨ leAt p.bytes 10 2 ≠ 0)) ∧
    (∃ (s : State) (p : Pkt),
      Taken 0x5001 p s ∧ (p.length = 10 ∨ p.length = 12 ∨ p.length = 14) ∧ 32 ≤ p.target.toNat ∧
        p.target.toNat < 1024 ∧ beAt p.bytes 0 4 = 0x46563434 ∧ leAt p.bytes 4 1 = 1 ∧ leAt p.bytes 5 1 ≤ 2 ∧
        leAt p.bytes 6 1 ≤ 2 ∧ leAt p.bytes 7 1 = 0 ∧ leAt p.bytes 10 2 = 0 ∧
        p.bytes.length ≠ 40 + 8 * leAt p.bytes 5 1) ∧
    (∃ (s : State) (p : Pkt),
      Taken 0x5001 p s ∧ (p.length = 10 ∨ p.length = 12 ∨ p.length = 14) ∧ 32 ≤ p.target.toNat ∧
        p.target.toNat < 1024 ∧ beAt p.bytes 0 4 = 0x46563434 ∧ leAt p.bytes 4 1 = 1 ∧ leAt p.bytes 5 1 ≤ 2 ∧
        leAt p.bytes 6 1 ≤ 2 ∧ leAt p.bytes 7 1 = 0 ∧ leAt p.bytes 10 2 = 0 ∧
        p.bytes.length = 40 + 8 * leAt p.bytes 5 1 ∧
        crc32 ((p.bytes.take 12 ++ p.bytes.drop 16).map (·.toNat)) ≠ beAt p.bytes 12 4) ∧
    (∃ (s : State) (p : Pkt),
      Taken 0x5001 p s ∧ (p.length = 10 ∨ p.length = 12 ∨ p.length = 14) ∧
        (p.target.toNat < 32 ∨ 1024 ≤ p.target.toNat)) ∧
    (∃ (s : State) (p : Pkt),
      Taken 0x5002 p s ∧ p.length = 0 ∧ 1024 ≤ p.target.toNat) ∧
    (∃ (s : State) (p : Pkt),
      Taken 0x5003 p s ∧ p.length = 5 ∧ p.target = 0 ∧ (p.w 1 % 64 ≠ 0 ∨ p.w 3 % 32 ≠ 0)) ∧
    (∃ (s : State) (p : Pkt),
      Taken 0x5003 p s ∧ p.length = 5 ∧ p.target ≠ 0) ∧
    (∃ (s : State) (v : BitVec 16),
      (v.toNat + 65536 - s.ciph.rqHead) % 65536 ≤ 256) ∧
    (∃ (s : State) (v : BitVec 16),
      256 < (v.toNat + 65536 - s.ciph.rqHead) % 65536 ∧ s.count C.CIPH_BAD_REQ < 0xFFFFFFFE) ∧
    (∃ (s : State) (test : Byte),
      s.ciph.entropyFail = false ∧ (s.source 0x00A4).queue.length < 16) ∧
    (∃ (s : State) (test : Byte),
      s.ciph.entropyFail = true) :=
  ⟨⟨((base.wr (R.CIPH_KEY_DATA 5) 0x01020304).wr R.CIPH_KEY_SEL 1572904), by decide +kernel⟩,
   ⟨(base.wr R.CIPH_KEY_SEL 3670056), by decide +kernel⟩,
   ⟨((base.setSlot 40 ⟨1, 1, 1, 5⟩).wr R.CIPH_KEY_SEL 40), by decide +kernel⟩,
   ⟨base, by decide +kernel⟩,
   ⟨ready 4, pk 4 40 [0x34345646, 0x00020001, 0x00000000, 0xe4695ec9, 0x03020100, 0x07060504, 0x0b0a0908,
     0x0f0e0d0c, 0x13121110, 0x17161514], by decide +kernel⟩,
   ⟨(ready 4).setSlot 40 ⟨1, 1, 2, 5⟩, pk 4 40 [], by decide +kernel⟩,
   ⟨ready 4, pk 4 0 [0xFFFFFFFF, 64, 1, 32, 2], by decide +kernel⟩,
   ⟨(base.wr R.CIPH_KEY_SEL 1572904), by decide +kernel⟩,
   ⟨ready 4, pk 4 40 [0x34345646, 0x00020001, 0x00000000, 0xe4695ec9, 0x03020100, 0x07060504, 0x0b0a0908,
     0x0f0e0d0c, 0x13121110, 0x17161514], by decide +kernel⟩,
   ⟨ready 4, pk 4 40 (List.replicate 10 0), by decide +kernel⟩,
   ⟨ready 4, pk 4 40 (0x34345646 :: 0x00000001 :: List.replicate 10 0), by decide +kernel⟩,
   ⟨ready 4, pk 4 40 (0x34345646 :: 0x00000001 :: List.replicate 8 0), by decide +kernel⟩,
   ⟨ready 4, pk 4 31 (List.replicate 10 0), by decide +kernel⟩,
   ⟨ready 4, pk 4 1024 [], by decide +kernel⟩,
   ⟨ready 4, pk 4 0 [1, 32, 1, 32, 2], by decide +kernel⟩,
   ⟨ready 4, pk 4 1 [1, 32, 1, 32, 2], by decide +kernel⟩,
   ⟨base, 256, by decide +kernel⟩,
   ⟨base, 257, by decide +kernel⟩,
   ⟨base, 1, by decide +kernel⟩,
   ⟨{ base with ciph := { base.ciph with entropyFail := true } }, 1, by decide +kernel⟩⟩

theorem wit_RequestsEncryptDecryptAndAuthenticate :
    (∃ (s : State) (desc data : List Byte) (key m : List Nat),
      s.flag F.CIPH_RQ_CFG_ENABLE = true ∧ 0 < s.rqPosted ∧ s.ciph.entropyFail = false ∧ leAt desc 0 1 = 1 ∧
        badRequest 1 desc = false ∧ (s.slot (leAt desc 2 2)).state = 1 ∧ (s.slot (leAt desc 2 2)).usage = usageOf 1 ∧
        (s.readKey (leAt desc 2 2)).2 = some key ∧ m = (fitB (leAt desc 4 4) data).map (·.toNat)) ∧
    (∃ (s : State) (desc data : List Byte) (key m : List Nat),
      s.flag F.CIPH_RQ_CFG_ENABLE = true ∧ 0 < s.rqPosted ∧ s.ciph.entropyFail = false ∧ leAt desc 0 1 = 2 ∧
        badRequest 2 desc = false ∧ ((s.slot (leAt desc 2 2)).state = 1 ∨ (s.slot (leAt desc 2 2)).state = 2) ∧
        (s.slot (leAt desc 2 2)).usage = usageOf 2 ∧ (s.readKey (leAt desc 2 2)).2 = some key ∧
        m = (fitB (leAt desc 4 4) data).map (·.toNat)) ∧
    (∃ (s : State) (desc data aad : List Byte) (key m a : List Nat),
      s.flag F.CIPH_RQ_CFG_ENABLE = true ∧ 0 < s.rqPosted ∧ s.ciph.entropyFail = false ∧ leAt desc 0 1 = 3 ∧
        badRequest 3 desc = false ∧ (s.slot (leAt desc 2 2)).state = 1 ∧ (s.slot (leAt desc 2 2)).usage = usageOf 3 ∧
        (s.readKey (leAt desc 2 2)).2 = some key ∧ m = (fitB (leAt desc 4 4) data).map (·.toNat) ∧
        a = (fitB (leAt desc 8 2) aad).map (·.toNat)) ∧
    (∃ (s : State) (desc data aad tag : List Byte) (key m a : List Nat),
      s.flag F.CIPH_RQ_CFG_ENABLE = true ∧ 0 < s.rqPosted ∧ s.ciph.entropyFail = false ∧ leAt desc 0 1 = 4 ∧
        badRequest 4 desc = false ∧ ((s.slot (leAt desc 2 2)).state = 1 ∨ (s.slot (leAt desc 2 2)).state = 2) ∧
        (s.slot (leAt desc 2 2)).usage = usageOf 4 ∧ (s.readKey (leAt desc 2 2)).2 = some key ∧
        m = (fitB (leAt desc 4 4) data).map (·.toNat) ∧ a = (fitB (leAt desc 8 2) aad).map (·.toNat) ∧
        gcmTag key ((sliceB desc 40 12).map (·.toNat)) a m = (fitB 16 tag).map (·.toNat)) ∧
    (∃ (s : State) (desc data aad tag : List Byte) (key m a : List Nat),
      s.flag F.CIPH_RQ_CFG_ENABLE = true ∧ 0 < s.rqPosted ∧ s.ciph.entropyFail = false ∧ leAt desc 0 1 = 4 ∧
        badRequest 4 desc = false ∧ ((s.slot (leAt desc 2 2)).state = 1 ∨ (s.slot (leAt desc 2 2)).state = 2) ∧
        (s.slot (leAt desc 2 2)).usage = usageOf 4 ∧ (s.readKey (leAt desc 2 2)).2 = some key ∧
        m = (fitB (leAt desc 4 4) data).map (·.toNat) ∧ a = (fitB (leAt desc 8 2) aad).map (·.toNat) ∧
        gcmTag key ((sliceB desc 40 12).map (·.toNat)) a m ≠ (fitB 16 tag).map (·.toNat) ∧
        s.count C.CIPH_AUTH_FAIL < 0xFFFFFFFE) ∧
    (∃ (s : State) (desc data : List Byte) (key m : List Nat),
      s.flag F.CIPH_RQ_CFG_ENABLE = true ∧ 0 < s.rqPosted ∧ s.ciph.entropyFail = false ∧ leAt desc 0 1 = 5 ∧
        badRequest 5 desc = false ∧ ((s.slot (leAt desc 2 2)).state = 1 ∨ (s.slot (leAt desc 2 2)).state = 2) ∧
        (s.slot (leAt desc 2 2)).usage = usageOf 5 ∧ (s.readKey (leAt desc 2 2)).2 = some key ∧
        m = (fitB (leAt desc 4 4) data).map (·.toNat)) ∧
    (∃ (s : State) (desc data tag : List Byte) (key m : List Nat),
      s.flag F.CIPH_RQ_CFG_ENABLE = true ∧ 0 < s.rqPosted ∧ s.ciph.entropyFail = false ∧ leAt desc 0 1 = 6 ∧
        badRequest 6 desc = false ∧ ((s.slot (leAt desc 2 2)).state = 1 ∨ (s.slot (leAt desc 2 2)).state = 2) ∧
        (s.slot (leAt desc 2 2)).usage = usageOf 6 ∧ (s.readKey (leAt desc 2 2)).2 = some key ∧
        m = (fitB (leAt desc 4 4) data).map (·.toNat) ∧ aesCmac key m = (fitB 16 tag).map (·.toNat)) ∧
    (∃ (s : State) (desc data tag : List Byte) (key m : List Nat),
      s.flag F.CIPH_RQ_CFG_ENABLE = true ∧ 0 < s.rqPosted ∧ s.ciph.entropyFail = false ∧ leAt desc 0 1 = 6 ∧
        badRequest 6 desc = false ∧ ((s.slot (leAt desc 2 2)).state = 1 ∨ (s.slot (leAt desc 2 2)).state = 2) ∧
        (s.slot (leAt desc 2 2)).usage = usageOf 6 ∧ (s.readKey (leAt desc 2 2)).2 = some key ∧
        m = (fitB (leAt desc 4 4) data).map (·.toNat) ∧ aesCmac key m ≠ (fitB 16 tag).map (·.toNat) ∧
        s.count C.CIPH_AUTH_FAIL < 0xFFFFFFFE) ∧
    (∃ (i : Instr) (s : State) (op : Nat) (desc : List Byte) (fail : Option Nat),
      requestOf i = some (op, desc, fail) ∧
        (s.flag F.CIPH_RQ_CFG_ENABLE = false ∨ s.rqPosted = 0 ∨ otherOp op desc = true)) ∧
    (∃ (i : Instr) (s : State) (op : Nat) (desc : List Byte) (fail : Option Nat),
      requestOf i = some (op, desc, fail) ∧ s.flag F.CIPH_RQ_CFG_ENABLE = true ∧ 0 < s.rqPosted ∧
        otherOp op desc = false ∧ s.ciph.entropyFail = true) ∧
    (∃ (i : Instr) (s : State) (op : Nat) (desc : List Byte) (fail : Option Nat),
      requestOf i = some (op, desc, fail) ∧ s.flag F.CIPH_RQ_CFG_ENABLE = true ∧ 0 < s.rqPosted ∧
        otherOp op desc = false ∧ s.ciph.entropyFail = false ∧ (leAt desc 0 1 ≠ op ∨ badRequest op desc = true) ∧
        s.count C.CIPH_BAD_REQ < 0xFFFFFFFE) ∧
    (∃ (i : Instr) (s : State) (op : Nat) (desc : List Byte) (fail : Option Nat),
      requestOf i = some (op, desc, fail) ∧ s.flag F.CIPH_RQ_CFG_ENABLE = true ∧ 0 < s.rqPosted ∧
        otherOp op desc = false ∧ s.ciph.entropyFail = false ∧ leAt desc 0 1 = op ∧ badRequest op desc = false ∧
        ((s.slot (leAt desc 2 2)).state = 0 ∨ (s.slot (leAt desc 2 2)).state = 3)) ∧
    (∃ (i : Instr) (s : State) (op : Nat) (desc : List Byte) (fail : Option Nat),
      requestOf i = some (op, desc, fail) ∧ s.flag F.CIPH_RQ_CFG_ENABLE = true ∧ 0 < s.rqPosted ∧
        otherOp op desc = false ∧ s.ciph.entropyFail = false ∧ leAt desc 0 1 = op ∧ badRequest op desc = false ∧
        (s.slot (leAt desc 2 2)).state ≠ 0 ∧ (s.slot (leAt desc 2 2)).state ≠ 3 ∧
        (s.slot (leAt desc 2 2)).usage ≠ usageOf op ∧ s.count C.CIPH_BAD_REQ < 0xFFFFFFFE) ∧
    (∃ (i : Instr) (s : State) (op : Nat) (desc : List Byte) (fail : Option Nat),
      requestOf i = some (op, desc, fail) ∧ s.flag F.CIPH_RQ_CFG_ENABLE = true ∧ 0 < s.rqPosted ∧
        otherOp op desc = false ∧ s.ciph.entropyFail = false ∧ leAt desc 0 1 = op ∧ badRequest op desc = false ∧
        (s.slot (leAt desc 2 2)).state = 2 ∧ (s.slot (leAt desc 2 2)).usage = usageOf op ∧ (op = 1 ∨ op = 3)) ∧
    (∃ (i : Instr) (s : State) (op : Nat) (desc : List Byte) (fail : Option Nat),
      requestOf i = some (op, desc, fail) ∧ s.flag F.CIPH_RQ_CFG_ENABLE = true ∧ 0 < s.rqPosted ∧
        otherOp op desc = false ∧ s.ciph.entropyFail = false ∧ leAt desc 0 1 = op ∧ badRequest op desc = false ∧
        ((s.slot (leAt desc 2 2)).state = 1 ∨ (s.slot (leAt desc 2 2)).state = 2 ∧ op ≠ 1 ∧ op ≠ 3) ∧
        (s.slot (leAt desc 2 2)).usage = usageOf op ∧ (s.readKey (leAt desc 2 2)).2 = none) ∧
    (∃ (i : Instr) (s : State) (op : Nat) (desc : List Byte) (fail : Option Nat) (n : Nat),
      requestOf i = some (op, desc, fail) ∧ s.flag F.CIPH_RQ_CFG_ENABLE = true ∧ 0 < s.rqPosted ∧
        otherOp op desc = false ∧ fail = some n ∧ s.ciph.entropyFail = false ∧ leAt desc 0 1 = op ∧
        badRequest op desc = false ∧ ((s.slot (leAt desc 2 2)).state = 1 ∨ (s.slot (leAt desc 2 2)).state = 2 ∧
        op ≠ 1 ∧ op ≠ 3) ∧ (s.slot (leAt desc 2 2)).usage = usageOf op ∧ (s.readKey (leAt desc 2 2)).2 ≠ none ∧
        s.count C.CIPH_DMA_ERR < 0xFFFFFFFE) :=
  ⟨⟨(((base.setFld F.CIPH_RQ_CFG_ENABLE 1).wr R.CIPH_RQ_TAIL 1).setSlot 40 ⟨1, 0, 0, 7⟩), [1, 1, 40, 0, 5, 0, 0, 0,
    0, 0, 0, 0, 0, 0, 0, 0, 0, 0, 0, 0, 0, 0, 0, 0, 0, 16, 0, 0, 0, 0, 0, 0, 0, 0, 0, 0, 0, 0, 0, 0, 0, 0, 0, 0, 0,
    0, 0, 0, 0, 0, 0, 0, 0, 0, 0, 0, 9, 9, 9, 9, 9, 9, 9, 9], [1, 2, 3, 4, 5], List.replicate 16 0, (fitB 5 [1, 2,
    3, 4, 5]).map (·.toNat), by decide +kernel⟩,
   ⟨(((base.setFld F.CIPH_RQ_CFG_ENABLE 1).wr R.CIPH_RQ_TAIL 1).setSlot 40 ⟨1, 0, 0, 7⟩), [2, 1, 40, 0, 5, 0, 0, 0,
     0, 0, 0, 0, 0, 0, 0, 0, 0, 0, 0, 0, 0, 0, 0, 0, 0, 16, 0, 0, 0, 0, 0, 0, 0, 0, 0, 0, 0, 0, 0, 0, 3, 3, 3, 3, 3,
     3, 3, 3, 3, 3, 3, 3, 3, 3, 3, 3, 9, 9, 9, 9, 9, 9, 9, 9], [1, 2, 3, 4, 5], List.replicate 16 0, (fitB 5 [1, 2,
     3, 4, 5]).map (·.toNat), by decide +kernel⟩,
   ⟨(((base.setFld F.CIPH_RQ_CFG_ENABLE 1).wr R.CIPH_RQ_TAIL 1).setSlot 40 ⟨1, 0, 1, 7⟩), [3, 1, 40, 0, 5, 0, 0, 0,
     2, 0, 0, 0, 0, 0, 0, 0, 0, 0, 0, 0, 0, 0, 0, 0, 0, 16, 0, 0, 0, 0, 0, 0, 77, 0, 0, 0, 0, 0, 0, 0, 0, 0, 0, 0,
     0, 0, 0, 0, 0, 0, 0, 0, 0, 0, 0, 0, 9, 9, 9, 9, 9, 9, 9, 9], [1, 2, 3, 4, 5], [8, 9], List.replicate 16 0,
     (fitB 5 [1, 2, 3, 4, 5]).map (·.toNat), [8, 9], by decide +kernel⟩,
   ⟨(((base.setFld F.CIPH_RQ_CFG_ENABLE 1).wr R.CIPH_RQ_TAIL 1).setSlot 40 ⟨1, 0, 1, 7⟩), [4, 1, 40, 0, 5, 0, 0, 0,
     2, 0, 0, 0, 0, 0, 0, 0, 0, 0, 0, 0, 0, 0, 0, 0, 0, 16, 0, 0, 0, 0, 0, 0, 77, 0, 0, 0, 0, 0, 0, 0, 3, 3, 3, 3,
     3, 3, 3, 3, 3, 3, 3, 3, 0, 0, 0, 0, 9, 9, 9, 9, 9, 9, 9, 9], [1, 2, 3, 4, 5], [8, 9],
     (gcmTag (List.replicate 16 0) (List.replicate 12 3) [8, 9] [1, 2, 3, 4, 5]).map (BitVec.ofNat 8),
     List.replicate 16 0, (fitB 5 [1, 2, 3, 4, 5]).map (·.toNat), [8, 9], by decide +kernel⟩,
   ⟨(((base.setFld F.CIPH_RQ_CFG_ENABLE 1).wr R.CIPH_RQ_TAIL 1).setSlot 40 ⟨1, 0, 1, 7⟩), [4, 1, 40, 0, 5, 0, 0, 0,
     2, 0, 0, 0, 0, 0, 0, 0, 0, 0, 0, 0, 0, 0, 0, 0, 0, 16, 0, 0, 0, 0, 0, 0, 77, 0, 0, 0, 0, 0, 0, 0, 3, 3, 3, 3,
     3, 3, 3, 3, 3, 3, 3, 3, 0, 0, 0, 0, 9, 9, 9, 9, 9, 9, 9, 9], [1, 2, 3, 4, 5], [8, 9], [1], List.replicate 16 0,
     (fitB 5 [1, 2, 3, 4, 5]).map (·.toNat), [8, 9], by decide +kernel⟩,
   ⟨(((base.setFld F.CIPH_RQ_CFG_ENABLE 1).wr R.CIPH_RQ_TAIL 1).setSlot 40 ⟨1, 0, 2, 7⟩), [5, 1, 40, 0, 5, 0, 0, 0,
     0, 0, 0, 0, 0, 0, 0, 0, 0, 0, 0, 0, 0, 0, 0, 0, 0, 0, 0, 0, 0, 0, 0, 0, 0, 0, 0, 0, 0, 0, 0, 0, 0, 0, 0, 0, 0,
     0, 0, 0, 0, 0, 0, 0, 0, 0, 0, 0, 9, 9, 9, 9, 9, 9, 9, 9], [1, 2, 3, 4, 5], List.replicate 16 0, (fitB 5 [1, 2,
     3, 4, 5]).map (·.toNat), by decide +kernel⟩,
   ⟨(((base.setFld F.CIPH_RQ_CFG_ENABLE 1).wr R.CIPH_RQ_TAIL 1).setSlot 40 ⟨1, 0, 2, 7⟩), [6, 1, 40, 0, 5, 0, 0, 0,
     0, 0, 0, 0, 0, 0, 0, 0, 0, 0, 0, 0, 0, 0, 0, 0, 0, 0, 0, 0, 0, 0, 0, 0, 0, 0, 0, 0, 0, 0, 0, 0, 0, 0, 0, 0, 0,
     0, 0, 0, 0, 0, 0, 0, 0, 0, 0, 0, 9, 9, 9, 9, 9, 9, 9, 9], [1, 2, 3, 4, 5], (aesCmac (List.replicate 16 0) [1,
     2, 3, 4, 5]).map (BitVec.ofNat 8), List.replicate 16 0, (fitB 5 [1, 2, 3, 4, 5]).map (·.toNat),
     by decide +kernel⟩,
   ⟨(((base.setFld F.CIPH_RQ_CFG_ENABLE 1).wr R.CIPH_RQ_TAIL 1).setSlot 40 ⟨1, 0, 2, 7⟩), [6, 1, 40, 0, 5, 0, 0, 0,
     0, 0, 0, 0, 0, 0, 0, 0, 0, 0, 0, 0, 0, 0, 0, 0, 0, 0, 0, 0, 0, 0, 0, 0, 0, 0, 0, 0, 0, 0, 0, 0, 0, 0, 0, 0, 0,
     0, 0, 0, 0, 0, 0, 0, 0, 0, 0, 0, 9, 9, 9, 9, 9, 9, 9, 9], [1, 2, 3, 4, 5], [3], List.replicate 16 0,
     (fitB 5 [1, 2, 3, 4, 5]).map (·.toNat), by decide +kernel⟩,
   ⟨.cmacGenerate ([1, 1, 40, 0, 5, 0, 0, 0, 0, 0, 0, 0, 0, 0, 0, 0, 0, 0, 0, 0, 0, 0, 0, 0, 0, 16, 0, 0, 0, 0, 0,
     0, 0, 0, 0, 0, 0, 0, 0, 0, 0, 0, 0, 0, 0, 0, 0, 0, 0, 0, 0, 0, 0, 0, 0, 0, 9, 9, 9, 9, 9, 9, 9, 9]) [] none,
     (((base.setFld F.CIPH_RQ_CFG_ENABLE 1).wr R.CIPH_RQ_TAIL 1).setSlot 40 ⟨1, 0, 0, 7⟩), 5, [1, 1, 40, 0, 5, 0, 0,
     0, 0, 0, 0, 0, 0, 0, 0, 0, 0, 0, 0, 0, 0, 0, 0, 0, 0, 16, 0, 0, 0, 0, 0, 0, 0, 0, 0, 0, 0, 0, 0, 0, 0, 0, 0, 0,
     0, 0, 0, 0, 0, 0, 0, 0, 0, 0, 0, 0, 9, 9, 9, 9, 9, 9, 9, 9], none, by decide +kernel⟩,
   ⟨.cmacGenerate ([5, 1, 40, 0, 5, 0, 0, 0, 0, 0, 0, 0, 0, 0, 0, 0, 0, 0, 0, 0, 0, 0, 0, 0, 0, 16, 0, 0, 0, 0, 0,
     0, 0, 0, 0, 0, 0, 0, 0, 0, 0, 0, 0, 0, 0, 0, 0, 0, 0, 0, 0, 0, 0, 0, 0, 0, 9, 9, 9, 9, 9, 9, 9, 9]) [] none,
     { (((base.setFld F.CIPH_RQ_CFG_ENABLE 1).wr R.CIPH_RQ_TAIL 1).setSlot 40 ⟨1, 0, 0, 7⟩) with ciph := { base.ciph with entropyFail := true } },
     5, [5, 1, 40, 0, 5, 0, 0, 0, 0, 0, 0, 0, 0, 0, 0, 0, 0, 0, 0, 0, 0, 0, 0, 0, 0, 16, 0, 0, 0, 0, 0, 0, 0, 0, 0,
     0, 0, 0, 0, 0, 0, 0, 0, 0, 0, 0, 0, 0, 0, 0, 0, 0, 0, 0, 0, 0, 9, 9, 9, 9, 9, 9, 9, 9], none, by decide +kernel⟩,
   ⟨.ctrEncrypt ([7, 1]) [] none, (((base.setFld F.CIPH_RQ_CFG_ENABLE 1).wr R.CIPH_RQ_TAIL 1).setSlot 40 ⟨1, 0, 0,
     7⟩), 1, [7, 1], none, by decide +kernel⟩,
   ⟨.ctrEncrypt ([1, 1, 40, 0, 5, 0, 0, 0, 0, 0, 0, 0, 0, 0, 0, 0, 0, 0, 0, 0, 0, 0, 0, 0, 0, 16, 0, 0, 0, 0, 0, 0,
     0, 0, 0, 0, 0, 0, 0, 0, 0, 0, 0, 0, 0, 0, 0, 0, 0, 0, 0, 0, 0, 0, 0, 0, 9, 9, 9, 9, 9, 9, 9, 9]) [] none,
     ((((base.setFld F.CIPH_RQ_CFG_ENABLE 1).wr R.CIPH_RQ_TAIL 1).setSlot 40 ⟨1, 0, 0, 7⟩).setSlot 40 {}), 1, [1, 1,
     40, 0, 5, 0, 0, 0, 0, 0, 0, 0, 0, 0, 0, 0, 0, 0, 0, 0, 0, 0, 0, 0, 0, 16, 0, 0, 0, 0, 0, 0, 0, 0, 0, 0, 0, 0,
     0, 0, 0, 0, 0, 0, 0, 0, 0, 0, 0, 0, 0, 0, 0, 0, 0, 0, 9, 9, 9, 9, 9, 9, 9, 9], none, by decide +kernel⟩,
   ⟨.ctrEncrypt ([1, 1, 40, 0, 5, 0, 0, 0, 0, 0, 0, 0, 0, 0, 0, 0, 0, 0, 0, 0, 0, 0, 0, 0, 0, 16, 0, 0, 0, 0, 0, 0,
     0, 0, 0, 0, 0, 0, 0, 0, 0, 0, 0, 0, 0, 0, 0, 0, 0, 0, 0, 0, 0, 0, 0, 0, 9, 9, 9, 9, 9, 9, 9, 9]) [] none,
     (((base.setFld F.CIPH_RQ_CFG_ENABLE 1).wr R.CIPH_RQ_TAIL 1).setSlot 40 ⟨1, 0, 2, 7⟩), 1, [1, 1, 40, 0, 5, 0, 0,
     0, 0, 0, 0, 0, 0, 0, 0, 0, 0, 0, 0, 0, 0, 0, 0, 0, 0, 16, 0, 0, 0, 0, 0, 0, 0, 0, 0, 0, 0, 0, 0, 0, 0, 0, 0, 0,
     0, 0, 0, 0, 0, 0, 0, 0, 0, 0, 0, 0, 9, 9, 9, 9, 9, 9, 9, 9], none, by decide +kernel⟩,
   ⟨.ctrEncrypt ([1, 1, 40, 0, 5, 0, 0, 0, 0, 0, 0, 0, 0, 0, 0, 0, 0, 0, 0, 0, 0, 0, 0, 0, 0, 16, 0, 0, 0, 0, 0, 0,
     0, 0, 0, 0, 0, 0, 0, 0, 0, 0, 0, 0, 0, 0, 0, 0, 0, 0, 0, 0, 0, 0, 0, 0, 9, 9, 9, 9, 9, 9, 9, 9]) [] none,
     ((((base.setFld F.CIPH_RQ_CFG_ENABLE 1).wr R.CIPH_RQ_TAIL 1).setSlot 40 ⟨1, 0, 0, 7⟩).setSlot 40 ⟨2, 0, 0, 7⟩),
     1, [1, 1, 40, 0, 5, 0, 0, 0, 0, 0, 0, 0, 0, 0, 0, 0, 0, 0, 0, 0, 0, 0, 0, 0, 0, 16, 0, 0, 0, 0, 0, 0, 0, 0, 0,
     0, 0, 0, 0, 0, 0, 0, 0, 0, 0, 0, 0, 0, 0, 0, 0, 0, 0, 0, 0, 0, 9, 9, 9, 9, 9, 9, 9, 9], none, by decide +kernel⟩,
   ⟨.ctrEncrypt ([1, 1, 40, 0, 5, 0, 0, 0, 0, 0, 0, 0, 0, 0, 0, 0, 0, 0, 0, 0, 0, 0, 0, 0, 0, 16, 0, 0, 0, 0, 0, 0,
     0, 0, 0, 0, 0, 0, 0, 0, 0, 0, 0, 0, 0, 0, 0, 0, 0, 0, 0, 0, 0, 0, 0, 0, 9, 9, 9, 9, 9, 9, 9, 9]) [] none,
     ((((base.setFld F.CIPH_RQ_CFG_ENABLE 1).wr R.CIPH_RQ_TAIL 1).setSlot 40 ⟨1, 0, 0,
     7⟩).setKeyWord 40 0x01000100), 1, [1, 1, 40, 0, 5, 0, 0, 0, 0, 0, 0, 0, 0, 0, 0, 0, 0, 0, 0, 0, 0, 0, 0, 0, 0,
     16, 0, 0, 0, 0, 0, 0, 0, 0, 0, 0, 0, 0, 0, 0, 0, 0, 0, 0, 0, 0, 0, 0, 0, 0, 0, 0, 0, 0, 0, 0, 9, 9, 9, 9, 9, 9,
     9, 9], none, by decide +kernel⟩,
   ⟨.ctrEncrypt ([1, 1, 40, 0, 5, 0, 0, 0, 0, 0, 0, 0, 0, 0, 0, 0, 0, 0, 0, 0, 0, 0, 0, 0, 0, 16, 0, 0, 0, 0, 0, 0,
     0, 0, 0, 0, 0, 0, 0, 0, 0, 0, 0, 0, 0, 0, 0, 0, 0, 0, 0, 0, 0, 0, 0, 0, 9, 9, 9, 9, 9, 9, 9, 9]) [] (some 2),
     (((base.setFld F.CIPH_RQ_CFG_ENABLE 1).wr R.CIPH_RQ_TAIL 1).setSlot 40 ⟨1, 0, 0, 7⟩), 1, [1, 1, 40, 0, 5, 0, 0,
     0, 0, 0, 0, 0, 0, 0, 0, 0, 0, 0, 0, 0, 0, 0, 0, 0, 0, 16, 0, 0, 0, 0, 0, 0, 0, 0, 0, 0, 0, 0, 0, 0, 0, 0, 0, 0,
     0, 0, 0, 0, 0, 0, 0, 0, 0, 0, 0, 0, 9, 9, 9, 9, 9, 9, 9, 9], some 2, 2, by decide +kernel⟩⟩

theorem wit_DdrIsReadWrittenAndInjected :
    (∃ (s : State) (p : Pkt),
      Taken 0x0301 p s ∧ p.length = 3 ∧ p.target = 0 ∧ s.ddrReady = true ∧ 32 ≤ p.w 2 ∧ p.w 2 ≤ 4096 ∧
        p.w 2 % 32 = 0 ∧ p.ddrAddr + p.w 2 ≤ s.ddrBytes ∧
        (∀ k < ceilDiv (p.ddrAddr % 32 + p.w 2) 32, cleanWord (s.ddrWord (p.ddrAddr / 32 + k)) = true)) ∧
    (∃ (s : State) (p : Pkt) (e : Nat),
      Taken 0x0301 p s ∧ p.length = 3 ∧ p.target = 0 ∧ s.ddrReady = true ∧ 32 ≤ p.w 2 ∧ p.w 2 ≤ 4096 ∧
        p.w 2 % 32 = 0 ∧ p.ddrAddr + p.w 2 ≤ s.ddrBytes ∧ (s.ddrRead p.ddrAddr (p.w 2)).2 = .error e) ∧
    (∃ (s : State) (p : Pkt),
      Taken 0x0302 p s ∧ p.length = 3 + ceilDiv (p.w 2) 4 ∧ p.target = 0 ∧ s.ddrReady = true ∧ 4 ≤ p.w 2 ∧
        p.w 2 ≤ 4084 ∧ p.w 2 % 4 = 0 ∧ p.ddrAddr + p.w 2 ≤ s.ddrBytes ∧
        (0x10000000 ≤ p.ddrAddr ∨ inHostHalf p.ddrAddr (p.w 2) = true) ∧ p.ddrAddr % 32 = 0 ∧ p.w 2 % 32 = 0 ∧
        s.injection 0 = none) ∧
    (∃ (s : State) (p : Pkt),
      Taken 0x0302 p s ∧ p.length = 3 + ceilDiv (p.w 2) 4 ∧ p.target = 0 ∧ s.ddrReady = true ∧ 4 ≤ p.w 2 ∧
        p.w 2 ≤ 4084 ∧ p.w 2 % 4 = 0 ∧ p.ddrAddr + p.w 2 ≤ s.ddrBytes ∧
        (0x10000000 ≤ p.ddrAddr ∨ inHostHalf p.ddrAddr (p.w 2) = true) ∧ p.ddrAddr % 32 + p.w 2 < 32 ∧
        cleanWord (s.ddrWord (p.ddrAddr / 32)) = true ∧ s.injection 0 = none) ∧
    (∃ (s : State) (p : Pkt),
      Taken 0x0303 p s ∧ p.length = 1 ∧ p.target.toNat < 8) ∧
    (∃ (s : State) (p : Pkt),
      Taken 0x0303 p s ∧ p.length = 2 ∧ p.target.toNat < 8 ∧ bitsOf (p.w 0) 2 0 = p.target.toNat ∧
        bitsOf (p.w 0) 7 3 ≤ 17 ∧ bitsOf (p.w 0) 12 8 ≤ 17 ∧ bit (p.w 0) 31 = true) ∧
    (∃ (s : State) (p : Pkt) (bs : List Byte),
      Taken 0x0301 p s ∧ p.length = 3 ∧ p.target = 0 ∧ s.ddrReady = true ∧ 32 ≤ p.w 2 ∧ p.w 2 ≤ 4096 ∧
        p.w 2 % 32 = 0 ∧ p.ddrAddr + p.w 2 ≤ s.ddrBytes ∧ (s.ddrRead p.ddrAddr (p.w 2)).2 = .ok bs) ∧
    (∃ (s : State) (p : Pkt),
      Taken 0x0301 p s ∧ p.length = 3 ∧ p.target = 0 ∧
        (p.w 2 < 32 ∨ 4096 < p.w 2 ∨ p.w 2 % 32 ≠ 0 ∨ (s.ddrBytes < p.ddrAddr + p.w 2 ∧ s.ddrReady = true))) ∧
    (∃ (s : State) (p : Pkt),
      Taken 0x0301 p s ∧ p.length = 3 ∧ p.target = 0 ∧ s.ddrReady = false ∧ 32 ≤ p.w 2 ∧ p.w 2 ≤ 4096 ∧
        p.w 2 % 32 = 0) ∧
    (∃ (s : State) (p : Pkt),
      Taken 0x0301 p s ∧ p.length = 3 ∧ p.target ≠ 0) ∧
    (∃ (s : State) (p : Pkt),
      Taken 0x0302 p s ∧ p.length = 3 + ceilDiv (p.w 2) 4 ∧ p.target = 0 ∧ s.ddrReady = true ∧ 4 ≤ p.w 2 ∧
        p.w 2 ≤ 4084 ∧ p.w 2 % 4 = 0 ∧ p.ddrAddr + p.w 2 ≤ s.ddrBytes ∧
        (0x10000000 ≤ p.ddrAddr ∨ inHostHalf p.ddrAddr (p.w 2) = true) ∧
        (s.ddrWrite p.ddrAddr ((p.bytes.drop 12).take (p.w 2))).2 = none) ∧
    (∃ (s : State) (p : Pkt) (e : Nat),
      Taken 0x0302 p s ∧ p.length = 3 + ceilDiv (p.w 2) 4 ∧ p.target = 0 ∧ s.ddrReady = true ∧ 4 ≤ p.w 2 ∧
        p.w 2 ≤ 4084 ∧ p.w 2 % 4 = 0 ∧ p.ddrAddr + p.w 2 ≤ s.ddrBytes ∧
        (0x10000000 ≤ p.ddrAddr ∨ inHostHalf p.ddrAddr (p.w 2) = true) ∧
        (s.ddrWrite p.ddrAddr ((p.bytes.drop 12).take (p.w 2))).2 = some e) ∧
    (∃ (s : State) (p : Pkt),
      Taken 0x0302 p s ∧ 4 ≤ p.length ∧ p.length = 3 + ceilDiv (p.w 2) 4 ∧ p.target = 0 ∧
        (p.w 2 < 4 ∨ 4084 < p.w 2 ∨ p.w 2 % 4 ≠ 0 ∨ (s.ddrBytes < p.ddrAddr + p.w 2 ∧
        s.ddrReady = true) ∨ (p.ddrAddr < 0x10000000 ∧ inHostHalf p.ddrAddr (p.w 2) = false))) ∧
    (∃ (s : State) (p : Pkt),
      Taken 0x0302 p s ∧ p.length = 3 + ceilDiv (p.w 2) 4 ∧ p.target = 0 ∧ 4 ≤ p.w 2 ∧ p.w 2 ≤ 4084 ∧ p.w 2 % 4 = 0 ∧
        (0x10000000 ≤ p.ddrAddr ∨ inHostHalf p.ddrAddr (p.w 2) = true) ∧ s.ddrReady = false) ∧
    (∃ (s : State) (p : Pkt),
      Taken 0x0302 p s ∧ 4 ≤ p.length ∧ p.length = 3 + ceilDiv (p.w 2) 4 ∧ p.target ≠ 0) ∧
    (∃ (s : State) (p : Pkt),
      Taken 0x0303 p s ∧ p.length = 2 ∧ p.target.toNat < 8 ∧
        (bitsOf (p.w 0) 2 0 ≠ p.target.toNat ∨ 17 < bitsOf (p.w 0) 7 3 ∨ 17 < bitsOf (p.w 0) 12 8)) ∧
    (∃ (s : State) (p : Pkt),
      Taken 0x0303 p s ∧ p.length = 2 ∧ p.target.toNat < 8 ∧ bitsOf (p.w 0) 2 0 = p.target.toNat ∧
        bitsOf (p.w 0) 7 3 ≤ 17 ∧ bitsOf (p.w 0) 12 8 ≤ 17 ∧ bit (p.w 0) 31 = false) ∧
    (∃ (s : State) (p : Pkt),
      Taken 0x0303 p s ∧ 1 ≤ p.length ∧ p.length ≤ 2 ∧ 8 ≤ p.target.toNat) :=
  ⟨⟨((ddr (ready 0)).setDdr 2 (encodeWord 0x123456)).setDdr 3 (encodeWord 0x77), pk 0 0 [68, 0, 32],
    by decide +kernel⟩,
   ⟨(ddr (ready 0)).setDdr 3 65537, pk 0 0 [68, 0, 32], 96, by decide +kernel⟩,
   ⟨(ddr (ready 0)), pk 0 0 ([0x10000000, 0, 64] ++ List.replicate 16 0x01020304), by decide +kernel⟩,
   ⟨(ddr (ready 0)).setDdr 0x800000 (encodeWord 0x123456), pk 0 0 [0x10000008, 0, 4, 0xFFFFFFFF], by decide +kernel⟩,
   ⟨ready 0, pk 0 7 [0xFFFFFFFF], by decide +kernel⟩,
   ⟨ready 0, pk 0 7 [0x80001117, 0x1234], by decide +kernel⟩,
   ⟨(ddr (ready 0)).setDdr 3 (encodeWord 7 ^^^ 5), pk 0 0 [96, 0, 32], dataBytes 7, by decide +kernel⟩,
   ⟨(ddr (ready 0)), pk 0 0 [0xFFFFFFE0, 7, 64], by decide +kernel⟩,
   ⟨ready 0, pk 0 0 [68, 0, 32], by decide +kernel⟩,
   ⟨ready 0, pk 0 1 [68, 0, 32], by decide +kernel⟩,
   ⟨(ddr (ready 0)), pk 0 0 ([0x1000001C, 0, 8] ++ List.replicate 2 0x01020304), by decide +kernel⟩,
   ⟨(ddr (ready 0)).setDdr 0x800000 65537, pk 0 0 ([0x1000001C, 0, 8] ++ List.replicate 2 0x01020304), 0x10000000,
     by decide +kernel⟩,
   ⟨(ddr (ready 0)), pk 0 0 [64, 0, 4, 7], by decide +kernel⟩,
   ⟨ready 0, pk 0 0 [0, 0, 4, 7], by decide +kernel⟩,
   ⟨ready 0, pk 0 1 [0, 0, 4, 7], by decide +kernel⟩,
   ⟨ready 0, pk 0 7 [0x80001116, 0x1234], by decide +kernel⟩,
   ⟨ready 0, pk 0 7 [0x00001117, 0x1234], by decide +kernel⟩,
   ⟨ready 0, pk 0 8 [7], by decide +kernel⟩⟩

theorem wit_ScrubbersReadCorrectAndReport :
    (∃ (s : State) (m : Fin 8) (oth : Bool) (kind : Byte) (flip : BitVec 288),
      (s.scrubs m.val = false ∨ s.memWords m.val = 0)) ∧
    (∃ (s : State) (m : Fin 8) (oth : Bool) (kind : Byte) (w : Codeword),
      s.scrubs m.val = true ∧ 0 < s.memWords m.val ∧ m.val < 7 ∧ s.scrubWord m.val (s.scrubPos m.val) = some w ∧
        cleanWord w = true) ∧
    (∃ (s : State) (m : Fin 8) (oth : Bool) (kind : Byte) (w c : Codeword) (k : Nat),
      s.scrubs m.val = true ∧ 0 < s.memWords m.val ∧ m.val < 4 ∧ s.scrubWord m.val (s.scrubPos m.val) = some w ∧
        decodeWord w = .corrected k c ∧ s.count (C.MEM_CE m.val) < 0xFFFFFFFE ∧
        s.count (C.MEM_DDR_SYM k) < 0xFFFFFFFE) ∧
    (∃ (s : State) (oth : Bool) (kind : Byte),
      s.scrubs 0 = true ∧ s.scrubPos 0 < s.memWords 0 ∧ decodeWord (s.ddrWord (s.scrubPos 0)) = .bad ∧
        s.count (C.MEM_UE 0) < 0xFFFFFFFE) ∧
    (∃ (s : State) (oth : Bool) (kind : Byte),
      s.scrubs 7 = true ∧ s.scrubPos 7 < tableBase 7 ∧ s.scrubPos 7 < 98304 ∧ s.scrubPos 7 ∈ s.mem.parity ∧
        s.count (C.MEM_UE 7) < 0xFFFFFFFE) ∧
    (∃ (s : State) (m : Fin 8),
      s.scrubs m.val = true ∧ s.passOver m.val = true ∧ (s.source (memSource m.val)).queue.length < 16 ∧
        s.count (C.MEM_PASS_LATE m.val) < 0xFFFFFFFE) ∧
    (∃ (s : State) (m : Fin 8),
      (s.scrubs m.val = false ∨ s.passOver m.val = false)) ∧
    (∃ (s : State) (word : BitVec 18),
      (tableOf word.toNat).1 ≠ 2 ∧ (tableOf word.toNat).1 ≠ 3) ∧
    (∃ (s : State) (word : BitVec 18),
      (tableOf word.toNat).1 = 3) ∧
    (∃ (s : State) (word : BitVec 18) (e : FwdEntry),
      (tableOf word.toNat).1 = 2 ∧ s.fwdAt (tableOf word.toNat).2 = some e ∧ e.static = true) ∧
    (∃ (s : State) (word : BitVec 18),
      (tableOf word.toNat).1 = 2 ∧ (∀ e ∈ (s.fwdAt (tableOf word.toNat).2).toList, e.static = false)) ∧
    (∃ (s : State) (m : Fin 8) (oth : Bool) (kind : Byte) (flip : BitVec 288) (w c : Codeword) (k : Nat),
      s.scrubs m.val = true ∧ 0 < s.memWords m.val ∧ m.val < 4 ∧ s.scrubWord m.val (s.scrubPos m.val) = some w ∧
        decodeWord (w ^^^ flip) = .corrected k c ∧ s.count (C.MEM_CE m.val) < 0xFFFFFFFE ∧
        s.count (C.MEM_DDR_SYM k) < 0xFFFFFFFE) ∧
    (∃ (s : State) (m : Fin 8) (oth : Bool) (kind : Byte) (flip : BitVec 288) (w : Codeword),
      s.scrubs m.val = true ∧ 0 < s.memWords m.val ∧ m.val < 7 ∧ s.scrubWord m.val (s.scrubPos m.val) = some w ∧
        cleanWord (w ^^^ flip) = true) ∧
    (∃ (s : State) (m : Fin 8) (oth : Bool) (kind : Byte) (flip : BitVec 288),
      s.scrubs m.val = true ∧ 0 < s.memWords m.val ∧ m.val < 7 ∧ s.scrubWord m.val (s.scrubPos m.val) = none) ∧
    (∃ (s : State) (oth : Bool) (kind : Byte) (flip : BitVec 288) (w c : Codeword) (k : Nat),
      s.scrubs 4 = true ∧ s.scrubWord 4 (s.scrubPos 4) = some w ∧ decodeWord (w ^^^ flip) = .corrected k c ∧
        s.count (C.SLAB_CE (s.scrubPos 4 / 65537)) < 0xFFFFFFFE) ∧
    (∃ (s : State) (oth : Bool) (kind : Byte) (flip : BitVec 288) (w c : Codeword) (k : Nat),
      s.scrubs 5 = true ∧ s.scrubWord 5 (s.scrubPos 5) = some w ∧ decodeWord (w ^^^ flip) = .corrected k c ∧
        s.count (C.VE_SPAD_CE (s.scrubPos 5 / 4096)) < 0xFFFFFFFE) ∧
    (∃ (s : State) (oth : Bool) (kind : Byte) (flip : BitVec 288) (w c : Codeword) (k : Nat),
      s.scrubs 6 = true ∧ s.scrubWord 6 (s.scrubPos 6) = some w ∧ decodeWord (w ^^^ flip) = .corrected k c ∧
        s.count (C.VE_SPAD_CE (s.scrubPos 6 / 512)) < 0xFFFFFFFE) ∧
    (∃ (s : State) (oth : Bool) (kind : Byte) (flip : BitVec 288) (w : Codeword),
      s.scrubs 0 = true ∧ 0 < s.memWords 0 ∧ s.scrubWord 0 (s.scrubPos 0) = some w ∧ decodeWord (w ^^^ flip) = .bad ∧
        s.count (C.MEM_UE 0) < 0xFFFFFFFE) ∧
    (∃ (s : State) (oth : Bool) (kind : Byte) (flip : BitVec 288) (w : Codeword),
      s.scrubs 2 = true ∧ s.scrubWord 2 (s.scrubPos 2) = some w ∧ decodeWord (w ^^^ flip) = .bad ∧
        s.count (C.MEM_UE 2) < 0xFFFFFFFE) ∧
    (∃ (s : State) (oth : Bool) (kind : Byte) (flip : BitVec 288) (w : Codeword),
      s.scrubs 1 = true ∧ s.scrubWord 1 (s.scrubPos 1) = some w ∧ decodeWord (w ^^^ flip) = .bad ∧
        s.count (C.MEM_UE 1) < 0xFFFFFFFE ∧ s.injection 1 = none) ∧
    (∃ (s : State) (oth : Bool) (kind : Byte) (flip : BitVec 288) (w : Codeword),
      s.scrubs 1 = true ∧ s.scrubWord 1 (s.scrubPos 1) = some w ∧ decodeWord (w ^^^ flip) = .bad) ∧
    (∃ (s : State) (oth : Bool) (kind : Byte) (flip : BitVec 288) (w : Codeword),
      s.scrubs 3 = true ∧ s.scrubWord 3 (s.scrubPos 3) = some w ∧ decodeWord (w ^^^ flip) = .bad ∧
        s.count (C.MEM_UE 3) < 0xFFFFFFFE) ∧
    (∃ (s : State) (oth : Bool) (kind : Byte) (flip : BitVec 288) (w : Codeword),
      s.scrubs 4 = true ∧ s.scrubWord 4 (s.scrubPos 4) = some w ∧ decodeWord (w ^^^ flip) = .bad ∧
        s.count (C.SLAB_UE (s.scrubPos 4 / 65537)) < 0xFFFFFFFE) ∧
    (∃ (s : State) (oth : Bool) (kind : Byte) (flip : BitVec 288) (w : Codeword),
      s.scrubs 5 = true ∧ s.scrubWord 5 (s.scrubPos 5) = some w ∧ decodeWord (w ^^^ flip) = .bad ∧
        s.count (C.VE_SPAD_UE (s.scrubPos 5 / 4096)) < 0xFFFFFFFE) ∧
    (∃ (s : State) (oth : Bool) (kind : Byte) (flip : BitVec 288) (w : Codeword),
      s.scrubs 6 = true ∧ s.scrubWord 6 (s.scrubPos 6) = some w ∧ decodeWord (w ^^^ flip) = .bad ∧
        s.count (C.VE_IMEM_UE (s.scrubPos 6 / 512)) < 0xFFFFFFFE) ∧
    (∃ (s : State) (oth : Bool) (kind : Byte) (flip : BitVec 288),
      s.scrubs 7 = true ∧ flip.getLsbD 0 = true ∧ s.scrubPos 7 ∈ s.mem.parity) ∧
    (∃ (s : State) (oth : Bool) (kind : Byte) (flip : BitVec 288),
      s.scrubs 7 = true ∧ flip.getLsbD 0 = false ∧ s.scrubPos 7 ∉ s.mem.parity) ∧
    (∃ (s : State) (oth : Bool) (kind : Byte) (flip : BitVec 288),
      s.scrubs 7 = true ∧ flip.getLsbD 0 = true ∧ s.scrubPos 7 ∉ s.mem.parity ∧ s.count (C.MEM_UE 7) < 0xFFFFFFFE ∧
        s.scrubPos 7 < tableBase 7) ∧
    (∃ (s : State) (oth : Bool) (kind : Byte) (e : FwdEntry) (n : Nat),
      s.scrubs 7 = true ∧ tableOf (s.scrubPos 7) = (2, n) ∧ s.scrubPos 7 ∈ s.mem.parity ∧ s.fwdAt n = some e ∧
        e.static = false ∧ s.fwd.reqs = []) :=
  ⟨⟨base.setFld (F.MEM_SCRUB_CFG_EN 0) 0, 0, true, 0, 5, by decide +kernel⟩,
   ⟨(base.setFld (F.MEM_SCRUB_CFG_EN 3) 1), 3, true, 0, 0, by decide +kernel⟩,
   ⟨((base.setFld (F.MEM_SCRUB_CFG_EN 3) 1).setKeyWord 0 5), 3, true, 0, 5, 0, 0, by decide +kernel⟩,
   ⟨((ddr ((base.setFld (F.MEM_SCRUB_CFG_EN 0) 1))).setDdr 0 65537), true, 0, by decide +kernel⟩,
   ⟨((base.setFld (F.MEM_SCRUB_CFG_EN 7) 1).setMem { base.mem with parity := [0] }), true, 0, by decide +kernel⟩,
   ⟨({ (base.setFld (F.MEM_SCRUB_CFG_EN 3) 1) with tick := { base.tick with count := 48000 * 100000 } } : State), 3,
     by decide +kernel⟩,
   ⟨(base.setFld (F.MEM_SCRUB_CFG_EN 3) 1), 3, by decide +kernel⟩,
   ⟨base.setMem { base.mem with parity := [7, 8] }, 7, by decide +kernel⟩,
   ⟨base, 229632, by decide +kernel⟩,
   ⟨(base.setFwdAt 5 (some { mac := 1, fid := 1, dest := 3, static := true })), 98309,
     { mac := 1, fid := 1, dest := 3, static := true }, by decide +kernel⟩,
   ⟨base, 98309, by decide +kernel⟩,
   ⟨(base.setFld (F.MEM_SCRUB_CFG_EN 3) 1), 3, true, 0, 5, 0, 0, 0, by decide +kernel⟩,
   ⟨((base.setFld (F.MEM_SCRUB_CFG_EN 3) 1).setKeyWord 0 5), 3, true, 0, 5, 5, by decide +kernel⟩,
   ⟨(base.setFld (F.MEM_SCRUB_CFG_EN 4) 1), 4, true, 0, 5, by decide +kernel⟩,
   ⟨(((base.setFld (F.MEM_SCRUB_CFG_EN 4) 1).setSlab 0 { (base.eng 0).slab with ready := true })), true, 0, 5, 0, 0,
     0, by decide +kernel⟩,
   ⟨(base.setFld (F.MEM_SCRUB_CFG_EN 5) 1), true, 0, 5, 0, 0, 0, by decide +kernel⟩,
   ⟨(base.setFld (F.MEM_SCRUB_CFG_EN 6) 1), true, 0, 5, 0, 0, 0, by decide +kernel⟩,
   ⟨(ddr ((base.setFld (F.MEM_SCRUB_CFG_EN 0) 1))), true, 0, 65537, 0, by decide +kernel⟩,
   ⟨(base.setFld (F.MEM_SCRUB_CFG_EN 2) 1), true, 0, 65537, 0, by decide +kernel⟩,
   ⟨(base.setFld (F.MEM_SCRUB_CFG_EN 1) 1), true, 0, 65537, 0, by decide +kernel⟩,
   ⟨(base.setFld (F.MEM_SCRUB_CFG_EN 1) 1), true, 0, 65537, 0, by decide +kernel⟩,
   ⟨((base.setFld (F.MEM_SCRUB_CFG_EN 3) 1).setSlot 0 ⟨1, 0, 0, 7⟩), true, 0, 65537, 0, by decide +kernel⟩,
   ⟨((base.setFld (F.MEM_SCRUB_CFG_EN 4) 1).setSlab 0 { (base.eng 0).slab with ready := true }), true, 0, 65537, 0,
     by decide +kernel⟩,
   ⟨(base.setFld (F.MEM_SCRUB_CFG_EN 5) 1), true, 0, 65537, 0, by decide +kernel⟩,
   ⟨(base.setFld (F.MEM_SCRUB_CFG_EN 6) 1), true, 0, 65537, 0, by decide +kernel⟩,
   ⟨((base.setFld (F.MEM_SCRUB_CFG_EN 7) 1).setMem { base.mem with parity := [0] }), true, 0, 1, by decide +kernel⟩,
   ⟨(base.setFld (F.MEM_SCRUB_CFG_EN 7) 1), true, 0, 0, by decide +kernel⟩,
   ⟨(base.setFld (F.MEM_SCRUB_CFG_EN 7) 1), true, 0, 1, by decide +kernel⟩,
   ⟨(fun (x : State) => ({ x with mem := { x.mem with parity := [98309], pos := [(7, 98309)] } } : State)) (((base.setFld (F.MEM_SCRUB_CFG_EN 7) 1)).setFwdAt 5 (some { mac := 1, fid := 1, dest := 3 })),
     true, 0, { mac := 1, fid := 1, dest := 3 }, 5, by decide +kernel⟩⟩

theorem wit_PowerStatesAreEnteredAndLeft :
    (∃ (s : State) (p : Pkt),
      Taken 0x0201 p s ∧ p.length = 1 ∧ p.target = 0 ∧ leAt p.bytes 0 1 ≤ 3 ∧ leAt p.bytes 1 1 ≤ 1 ∧
        (leAt p.bytes 2 1 ≤ 3 ∨ leAt p.bytes 2 1 = 0xFF) ∧ leAt p.bytes 3 1 = 0 ∧ s.pwr.busy = false ∧
        s.pwr.state = 0) ∧
    (∃ (s : State) (p : Pkt),
      Taken 0x0201 p s ∧ p.length = 1 ∧ p.target = 0 ∧ leAt p.bytes 0 1 ≤ 3 ∧ leAt p.bytes 1 1 ≤ 1 ∧
        (leAt p.bytes 2 1 ≤ 3 ∨ leAt p.bytes 2 1 = 0xFF) ∧ leAt p.bytes 3 1 = 0 ∧ s.pwr.busy = false ∧
        s.pwr.state = 0) ∧
    (∃ (s : State) (p : Pkt),
      Taken 0x0201 p s ∧ p.length = 1 ∧ p.target = 0 ∧ leAt p.bytes 0 1 ≤ 3 ∧ leAt p.bytes 1 1 ≤ 1 ∧
        (leAt p.bytes 2 1 ≤ 3 ∨ leAt p.bytes 2 1 = 0xFF) ∧ leAt p.bytes 3 1 = 0 ∧ s.pwr.busy = false ∧
        s.pwr.state = 1) ∧
    (∃ (s : State) (p : Pkt),
      Taken 0x0201 p s ∧ p.length = 1 ∧ p.target = 0 ∧ leAt p.bytes 0 1 ≤ 3 ∧ leAt p.bytes 1 1 ≤ 1 ∧
        (leAt p.bytes 2 1 ≤ 3 ∨ leAt p.bytes 2 1 = 0xFF) ∧ leAt p.bytes 3 1 = 0 ∧ s.pwr.busy = false ∧
        s.pwr.state ≤ 1) ∧
    (∃ (s : State) (p : Pkt),
      Taken 0x0201 p s ∧ p.length = 1 ∧ p.target = 0 ∧ leAt p.bytes 0 1 ≤ 3 ∧ leAt p.bytes 1 1 ≤ 1 ∧
        (leAt p.bytes 2 1 ≤ 3 ∨ leAt p.bytes 2 1 = 0xFF) ∧ leAt p.bytes 3 1 = 0 ∧ s.pwr.busy = false ∧
        s.pwr.state = 2) ∧
    (∃ (s : State) (p : Pkt),
      Taken 0x0201 p s ∧ p.length = 1 ∧ p.target = 0 ∧ leAt p.bytes 0 1 ≤ 3 ∧ leAt p.bytes 1 1 ≤ 1 ∧
        (leAt p.bytes 2 1 ≤ 3 ∨ leAt p.bytes 2 1 = 0xFF) ∧ leAt p.bytes 3 1 = 0 ∧ s.pwr.busy = false ∧
        s.pwr.state = 2) ∧
    (∃ (s : State) (p : Pkt),
      Taken 0x0201 p s ∧ p.length = 1 ∧ p.target = 0 ∧ leAt p.bytes 0 1 ≤ 3 ∧ leAt p.bytes 1 1 ≤ 1 ∧
        (leAt p.bytes 2 1 ≤ 3 ∨ leAt p.bytes 2 1 = 0xFF) ∧ leAt p.bytes 3 1 = 0 ∧ s.pwr.busy = true ∧
        s.pwr.exiting = true) ∧
    (∃ (s : State) (p : Pkt) (r : RegSpec),
      Taken 0x0202 p s ∧ p.length = 1 ∧ p.target.toNat % 4 = 0 ∧ p.target.toNat < 0x200000 ∧
        regSpecAt (0x00200000 + p.target.toNat) = some r ∧ r.w1c = 0 ∧
        0x00200000 + p.target.toNat ∉ [R.PWR_STAT_CTL, R.PWR_JRN_CLEAR, R.PWR_HAZE_CFG]) ∧
    (∃ (s : State),
      s.pwr.busy = true ∧ s.pwr.exiting = false ∧ s.pwr.step = 1 ∧ s.pwr.ckptDone = false ∧ s.running = 0 ∧
        s.pwr.drained = false) ∧
    (∃ (s : State),
      s.pwr.busy = true ∧ s.pwr.exiting = false ∧ s.pwr.step = 1 ∧ s.pwr.drained = false ∧ s.pwr.ckptDone = false) ∧
    (∃ (s : State),
      s.pwr.busy = false) ∧
    (∃ (s : State),
      s.pwr.busy = true ∧ s.pwr.exiting = false ∧ s.pwr.step = 1 ∧ s.pwr.target = 3 ∧ s.pwr.ckptDone = true ∧
        s.pwr.drained = true ∧ s.running = 0 ∧ s.pwr.wake = none ∧
        (List.range 96).all (fun e => (s.eng e).slab.work == .none) = true) ∧
    (∃ (s : State),
      s.pwr.busy = true ∧ s.pwr.exiting = false ∧ s.pwr.step = 1 ∧ s.pwr.target = 3 ∧ s.pwr.l2 = false ∧
        s.pwr.wake = none ∧ s.pwr.ckptDone = false) ∧
    (∃ (s : State),
      s.pwr.busy = true ∧ s.pwr.exiting = false ∧ s.pwr.step = 4 ∧ s.pwr.target = 2 ∧ s.pwr.unwind = 0 ∧
        s.pwr.wake = none) ∧
    (∃ (s : State),
      s.pwr.busy = true ∧ s.pwr.exiting = true ∧ s.pwr.part = 1) ∧
    (∃ (s : State),
      s.pwr.busy = true ∧ s.pwr.exiting = true ∧ s.pwr.part = 2) ∧
    (∃ (s : State),
      s.pwr.busy = true ∧ s.pwr.exiting = false ∧ s.pwr.step = 4 ∧ s.pwr.unwind = 0 ∧ s.pwr.target = 2 ∧
        s.pwr.tries < 2) ∧
    (∃ (s : State),
      s.pwr.exiting = true ∧ (s.pwr.part = 1 ∨ s.pwr.part = 2) ∧ 2 ≤ s.pwr.tries ∧
        s.count C.PWR_ENTRY_FAIL < 0xFFFFFFFE) ∧
    (∃ (s : State),
      s.pwr.exiting = true ∧ s.pwr.part = 3) ∧
    (∃ (s : State),
      s.pwr.exiting = true ∧ s.pwr.part = 4) ∧
    (∃ (s : State) (e : Fin 96),
      (s.eng e.val).st = .off ∧ s.vec.veOff = false ∧ (s.eng e.val).spadFilled = false ∧ s.pwr.exiting = false) ∧
    (∃ (s : State) (e : Fin 96),
      (s.eng e.val).st = .off ∧ s.vec.veOff = false ∧ (s.eng e.val).imemLoaded = false ∧
        (s.eng e.val).kernel = none ∧ (s.eng e.val).spadFilled = true ∧ (s.eng e.val).retd = false ∧
        (s.eng e.val).spareOf = none ∧ s.pwr.exiting = false) ∧
    (∃ (s : State) (e : Fin 96) (h : Nat) (img : Sparse Nat),
      (s.eng e.val).st = .off ∧ s.vec.veOff = false ∧ (s.eng e.val).imemLoaded = false ∧
        (s.eng e.val).kernel = some h ∧ sparseGet (fun _ => none) s.vec.kernels h = some img ∧
        (s.eng e.val).spadFilled = false ∧ s.pwr.exiting = false) ∧
    (∃ (s : State),
      s.pwr.exiting = true ∧ s.pwr.part = 6) ∧
    (∃ (s : State) (p : Pkt),
      Taken 0x0201 p s ∧ p.length = 1 ∧ p.target = 0 ∧ (3 < leAt p.bytes 0 1 ∨ (3 < leAt p.bytes 2 1 ∧
        leAt p.bytes 2 1 ≠ 0xFF) ∨ leAt p.bytes 1 1 / 2 ≠ 0 ∨ leAt p.bytes 3 1 ≠ 0)) ∧
    (∃ (s : State) (p : Pkt),
      Taken 0x0201 p s ∧ p.length = 1 ∧ p.target ≠ 0) ∧
    (∃ (s : State) (p : Pkt),
      Taken 0x0201 p s ∧ p.length = 1 ∧ p.target = 0 ∧ leAt p.bytes 0 1 ≤ 3 ∧ leAt p.bytes 1 1 ≤ 1 ∧
        (leAt p.bytes 2 1 ≤ 3 ∨ leAt p.bytes 2 1 = 0xFF) ∧ leAt p.bytes 3 1 = 0 ∧ s.pwr.busy = false ∧
        s.pwr.state = 0) ∧
    (∃ (s : State) (p : Pkt),
      Taken 0x0201 p s ∧ p.length = 1 ∧ p.target = 0 ∧ leAt p.bytes 0 1 ≤ 3 ∧ leAt p.bytes 1 1 ≤ 1 ∧
        (leAt p.bytes 2 1 ≤ 3 ∨ leAt p.bytes 2 1 = 0xFF) ∧ leAt p.bytes 3 1 = 0 ∧ s.pwr.busy = true ∧
        (s.pwr.exiting = true ∨ s.pwr.step = 0 ∨ s.pwr.target ≤ 0 ∨ s.pwr.unwind ≠ 0 ∨ s.pwr.wake ≠ none)) ∧
    (∃ (s : State) (p : Pkt),
      Taken 0x0201 p s ∧ p.length = 1 ∧ p.target = 0 ∧ leAt p.bytes 0 1 ≤ 3 ∧ leAt p.bytes 1 1 ≤ 1 ∧
        (leAt p.bytes 2 1 ≤ 3 ∨ leAt p.bytes 2 1 = 0xFF) ∧ leAt p.bytes 3 1 = 0 ∧ s.pwr.busy = true ∧
        s.pwr.exiting = false ∧ s.pwr.step ≠ 0 ∧ 0 < s.pwr.target ∧ s.pwr.unwind = 0 ∧ s.pwr.wake = none) ∧
    (∃ (s : State) (p : Pkt),
      Taken 0x0201 p s ∧ p.length = 1 ∧ p.target = 0 ∧ leAt p.bytes 0 1 ≤ 3 ∧ leAt p.bytes 1 1 ≤ 1 ∧
        (leAt p.bytes 2 1 ≤ 3 ∨ leAt p.bytes 2 1 = 0xFF) ∧ leAt p.bytes 3 1 = 0 ∧ s.pwr.busy = false ∧
        s.pwr.state = 2) ∧
    (∃ (s : State) (p : Pkt),
      Taken 0x0201 p s ∧ p.length = 1 ∧ p.target = 0 ∧ (3 < leAt p.bytes 0 1 ∨ (3 < leAt p.bytes 2 1 ∧
        leAt p.bytes 2 1 ≠ 0xFF) ∨ leAt p.bytes 1 1 / 2 ≠ 0 ∨ leAt p.bytes 3 1 ≠ 0)) ∧
    (∃ (s : State) (p : Pkt),
      Taken 0x0201 p s ∧ p.length = 1 ∧ p.target ≠ 0) ∧
    (∃ (s : State) (p : Pkt),
      Taken 0x0201 p s ∧ p.length = 1 ∧ p.target = 0 ∧ leAt p.bytes 0 1 ≤ 3 ∧ leAt p.bytes 1 1 ≤ 1 ∧
        (leAt p.bytes 2 1 ≤ 3 ∨ leAt p.bytes 2 1 = 0xFF) ∧ leAt p.bytes 3 1 = 0 ∧ s.pwr.busy = false ∧
        s.pwr.state = 1) ∧
    (∃ (s : State) (p : Pkt),
      Taken 0x0201 p s ∧ p.length = 1 ∧ p.target = 0 ∧ leAt p.bytes 0 1 ≤ 3 ∧ leAt p.bytes 1 1 ≤ 1 ∧
        (leAt p.bytes 2 1 ≤ 3 ∨ leAt p.bytes 2 1 = 0xFF) ∧ leAt p.bytes 3 1 = 0 ∧ s.pwr.busy = true ∧
        (s.pwr.exiting = true ∨ s.pwr.step = 0 ∨ s.pwr.target ≤ 1 ∨ s.pwr.unwind ≠ 0 ∨ s.pwr.wake ≠ none)) ∧
    (∃ (s : State) (p : Pkt),
      Taken 0x0201 p s ∧ p.length = 1 ∧ p.target = 0 ∧ leAt p.bytes 0 1 ≤ 3 ∧ leAt p.bytes 1 1 ≤ 1 ∧
        (leAt p.bytes 2 1 ≤ 3 ∨ leAt p.bytes 2 1 = 0xFF) ∧ leAt p.bytes 3 1 = 0 ∧ s.pwr.busy = true ∧
        s.pwr.exiting = false ∧ s.pwr.step ≠ 0 ∧ 1 < s.pwr.target ∧ s.pwr.unwind = 0 ∧ s.pwr.wake = none) ∧
    (∃ (s : State) (p : Pkt),
      Taken 0x0201 p s ∧ p.length = 1 ∧ p.target = 0 ∧ leAt p.bytes 0 1 ≤ 3 ∧ leAt p.bytes 1 1 ≤ 1 ∧
        (leAt p.bytes 2 1 ≤ 3 ∨ leAt p.bytes 2 1 = 0xFF) ∧ leAt p.bytes 3 1 = 0 ∧ s.pwr.busy = false ∧
        s.pwr.state = 2) ∧
    (∃ (s : State) (p : Pkt),
      Taken 0x0201 p s ∧ p.length = 1 ∧ p.target = 0 ∧ (3 < leAt p.bytes 0 1 ∨ (3 < leAt p.bytes 2 1 ∧
        leAt p.bytes 2 1 ≠ 0xFF) ∨ leAt p.bytes 1 1 / 2 ≠ 0 ∨ leAt p.bytes 3 1 ≠ 0)) ∧
    (∃ (s : State) (p : Pkt),
      Taken 0x0201 p s ∧ p.length = 1 ∧ p.target ≠ 0) ∧
    (∃ (s : State) (p : Pkt),
      Taken 0x0201 p s ∧ p.length = 1 ∧ p.target = 0 ∧ leAt p.bytes 0 1 ≤ 3 ∧ leAt p.bytes 1 1 ≤ 1 ∧
        (leAt p.bytes 2 1 ≤ 3 ∨ leAt p.bytes 2 1 = 0xFF) ∧ leAt p.bytes 3 1 = 0 ∧ s.pwr.busy = false ∧
        s.pwr.state = 2) ∧
    (∃ (s : State) (p : Pkt),
      Taken 0x0201 p s ∧ p.length = 1 ∧ p.target = 0 ∧ leAt p.bytes 0 1 ≤ 3 ∧ leAt p.bytes 1 1 ≤ 1 ∧
        (leAt p.bytes 2 1 ≤ 3 ∨ leAt p.bytes 2 1 = 0xFF) ∧ leAt p.bytes 3 1 = 0 ∧ s.pwr.busy = true ∧
        (s.pwr.exiting = true ∨ s.pwr.step = 0 ∨ s.pwr.target ≤ 2 ∨ s.pwr.unwind ≠ 0 ∨ s.pwr.wake ≠ none)) ∧
    (∃ (s : State) (p : Pkt),
      Taken 0x0201 p s ∧ p.length = 1 ∧ p.target = 0 ∧ leAt p.bytes 0 1 ≤ 3 ∧ leAt p.bytes 1 1 ≤ 1 ∧
        (leAt p.bytes 2 1 ≤ 3 ∨ leAt p.bytes 2 1 = 0xFF) ∧ leAt p.bytes 3 1 = 0 ∧ s.pwr.busy = true ∧
        s.pwr.exiting = false ∧ s.pwr.step ≠ 0 ∧ 2 < s.pwr.target ∧ s.pwr.unwind = 0 ∧ s.pwr.wake = none) ∧
    (∃ (s : State) (p : Pkt),
      Taken 0x0201 p s ∧ p.length = 1 ∧ p.target = 0 ∧ (3 < leAt p.bytes 0 1 ∨ (3 < leAt p.bytes 2 1 ∧
        leAt p.bytes 2 1 ≠ 0xFF) ∨ leAt p.bytes 1 1 / 2 ≠ 0 ∨ leAt p.bytes 3 1 ≠ 0)) ∧
    (∃ (s : State) (p : Pkt),
      Taken 0x0201 p s ∧ p.length = 1 ∧ p.target ≠ 0) ∧
    (∃ (s : State) (p : Pkt),
      Taken 0x0201 p s ∧ p.length = 1 ∧ p.target = 0 ∧ leAt p.bytes 0 1 ≤ 3 ∧ leAt p.bytes 1 1 ≤ 1 ∧
        (leAt p.bytes 2 1 ≤ 3 ∨ leAt p.bytes 2 1 = 0xFF) ∧ leAt p.bytes 3 1 = 0 ∧ s.pwr.busy = false ∧
        s.pwr.state = 3) ∧
    (∃ (s : State) (p : Pkt),
      Taken 0x0201 p s ∧ p.length = 1 ∧ p.target = 0 ∧ leAt p.bytes 0 1 ≤ 3 ∧ leAt p.bytes 1 1 ≤ 1 ∧
        (leAt p.bytes 2 1 ≤ 3 ∨ leAt p.bytes 2 1 = 0xFF) ∧ leAt p.bytes 3 1 = 0 ∧ s.pwr.busy = true ∧
        (s.pwr.exiting = true ∨ s.pwr.step = 0 ∨ s.pwr.target ≤ 3 ∨ s.pwr.unwind ≠ 0 ∨ s.pwr.wake ≠ none)) ∧
    (∃ (s : State) (p : Pkt),
      Taken 0x0201 p s ∧ p.length = 1 ∧ p.target = 0 ∧ leAt p.bytes 0 1 ≤ 3 ∧ leAt p.bytes 1 1 ≤ 1 ∧
        (leAt p.bytes 2 1 ≤ 3 ∨ leAt p.bytes 2 1 = 0xFF) ∧ leAt p.bytes 3 1 = 0 ∧ s.pwr.busy = false ∧
        s.pwr.state ≤ 1) ∧
    (∃ (s : State) (p : Pkt),
      Taken 0x0202 p s ∧ 1 ≤ p.length ∧ p.length ≤ 1024 ∧ (p.target.toNat % 4 ≠ 0 ∨ 0x200000 ≤ p.target.toNat)) ∧
    (∃ (s : State) (p : Pkt) (r0 r1 : RegSpec),
      Taken 0x0202 p s ∧ p.length = 2 ∧ p.target.toNat % 4 = 0 ∧ p.target.toNat + 4 < 0x200000 ∧
        regSpecAt (0x00200000 + p.target.toNat) = some r0 ∧ regSpecAt (0x00200000 + (p.target.toNat + 4)) = some r1 ∧
        r0.w1c = 0 ∧ r1.w1c = 0 ∧ (∀ o ∈ [R.PWR_STAT_CTL, R.PWR_JRN_CLEAR, R.PWR_HAZE_CFG],
        o ≠ 0x00200000 + p.target.toNat ∧ o ≠ 0x00200000 + (p.target.toNat + 4))) ∧
    (∃ (s : State) (p : Pkt) (r : RegSpec) (o : Nat),
      Taken 0x0202 p s ∧ p.length = 1 ∧ p.target.toNat % 4 = 0 ∧ p.target.toNat < 0x200000 ∧
        o = 0x00200000 + p.target.toNat ∧ regSpecAt o = some r ∧ o ∉ [R.PWR_STAT_CTL, R.PWR_JRN_CLEAR]) ∧
    (∃ (s : State) (p : Pkt),
      Taken 0x0202 p s ∧ p.length = 1 ∧ p.target.toNat = R.PWR_STAT_CTL - 0x00200000 ∧ bit (p.w 0) 0 = true) ∧
    (∃ (s : State) (p : Pkt),
      Taken 0x0202 p s ∧ p.length = 1 ∧ p.target.toNat = R.PWR_JRN_CLEAR - 0x00200000 ∧ bit (p.w 0) 0 = true) ∧
    (∃ (s : State),
      (s.pwr.busy = false ∨ s.pwr.exiting = true ∨ s.pwr.step ≠ 1 ∨ s.pwr.ckptDone = true ∨ s.running ≠ 0)) ∧
    (∃ (s : State),
      s.pwr.busy = true ∧ s.pwr.exiting = false ∧ s.pwr.step = 1 ∧ s.pwr.ckptDone = false ∧ s.running = 0 ∧
        s.pwr.drained = true ∧ s.pwr.target = 2 ∧ s.pwr.unwind = 0 ∧ s.pwr.wake = none ∧
        (List.range 96).all (fun e => (s.eng e).slab.work == .none) = true) ∧
    (∃ (s : State),
      (s.pwr.busy = false ∨ s.pwr.exiting = true ∨ s.pwr.step ≠ 1 ∨ s.pwr.drained = true)) ∧
    (∃ (s : State),
      s.pwr.busy = true ∧ s.pwr.exiting = false ∧ s.pwr.step = 1 ∧ s.pwr.drained = false ∧ s.pwr.ckptDone = true ∧
        s.running = 0 ∧ s.pwr.target = 2 ∧ s.pwr.unwind = 0 ∧ s.pwr.wake = none ∧
        (List.range 96).all (fun e => (s.eng e).slab.work == .none) = true) ∧
    (∃ (s : State),
      (s.pwr.busy = false ∨ s.pwr.exiting = true ∨ s.pwr.step ≠ 1 ∨ s.pwr.unwind ≠ 0 ∨ s.running ≠ 0 ∨
        s.pwr.ckptDone = false ∨ s.pwr.drained = false)) ∧
    (∃ (s : State),
      (s.pwr.busy = false ∨ s.pwr.exiting = true ∨ s.pwr.step ≠ 1 ∨ s.pwr.target ≠ 3 ∨ s.pwr.l2 = true ∨
        s.pwr.wake ≠ none)) ∧
    (∃ (s : State),
      s.pwr.busy = true ∧ s.pwr.exiting = false ∧ s.pwr.step = 1 ∧ s.pwr.target = 3 ∧ s.pwr.l2 = false ∧
        s.pwr.wake = none ∧ s.pwr.ckptDone = true ∧ s.pwr.drained = true ∧ s.running = 0 ∧ s.pwr.unwind = 0 ∧
        (List.range 96).all (fun e => (s.eng e).slab.work == .none) = true ∧ s.pwr.wakeCmd = none ∧
        s.count C.PWR_ABORTS < 0xFFFFFFFE) ∧
    (∃ (s : State),
      s.pwr.busy = true ∧ s.pwr.exiting = false ∧ s.pwr.step = 4 ∧ s.pwr.target = 2) ∧
    (∃ (s : State),
      s.pwr.busy = true ∧ s.pwr.exiting = false ∧ s.pwr.step = 4 ∧ s.pwr.target = 2 ∧ s.pwr.unwind ≠ 4 ∧
        s.pwr.wake ≠ none) ∧
    (∃ (s : State),
      s.pwr.busy = true ∧ s.pwr.exiting = false ∧ s.pwr.step = 4 ∧ s.pwr.target = 2 ∧ s.pwr.unwind = 4 ∧
        s.pwr.modes = [] ∧ s.slabsWaking = false ∧ s.pwr.wakeCmd = none) ∧
    (∃ (s : State) (pg : Bool),
      s.pwr.busy = true ∧ s.pwr.exiting = false ∧ s.pwr.step = 4 ∧ s.pwr.target = 3 ∧
        (s.pwr.acked = false ∨ pg = false)) ∧
    (∃ (s : State),
      s.pwr.busy = true ∧ s.pwr.exiting = false ∧ s.pwr.step = 4 ∧ s.pwr.target = 3 ∧ s.pwr.acked = true ∧
        s.pwr.unwind ≠ 4 ∧ s.pwr.wake = none ∧ s.pwr.part ≠ 2) ∧
    (∃ (s : State),
      s.pwr.busy = true ∧ s.pwr.exiting = false ∧ s.pwr.step = 4 ∧ s.pwr.target = 3 ∧ s.pwr.acked = true ∧
        s.pwr.unwind ≠ 4 ∧ s.pwr.wake = none ∧ s.pwr.part = 2) ∧
    (∃ (s : State),
      s.pwr.busy = true ∧ s.pwr.exiting = false ∧ s.pwr.step = 4 ∧ s.pwr.target = 3 ∧ s.pwr.acked = true ∧
        s.pwr.unwind ≠ 4 ∧ s.pwr.wake ≠ none) ∧
    (∃ (s : State),
      s.pwr.busy = true ∧ s.pwr.exiting = false ∧ s.pwr.step = 4 ∧ s.pwr.target = 3 ∧ s.pwr.acked = true ∧
        s.pwr.unwind = 4 ∧ s.pwr.part < s.topGroup) ∧
    (∃ (s : State),
      s.pwr.busy = true ∧ s.pwr.exiting = false ∧ s.pwr.step = 4 ∧ s.pwr.target = 3 ∧ s.pwr.acked = true ∧
        s.pwr.unwind = 4 ∧ s.topGroup ≤ s.pwr.part ∧ s.pwr.wakeCmd = none) ∧
    (∃ (s : State) (pg : Bool),
      (s.pwr.busy = true ∧ s.pwr.step = 4 → s.pwr.exiting = true) ∧ s.pwr.exiting = false ∧ s.pwr.wakeStep = 1 ∧
        s.pwr.part ≤ 4 ∧ (pg = false ∨ s.pwr.acked = false)) ∧
    (∃ (s : State),
      (s.pwr.busy = true ∧ s.pwr.step = 4 → s.pwr.exiting = true) ∧ s.pwr.exiting = false ∧ s.pwr.wakeStep = 1 ∧
        s.pwr.part ≤ 4 ∧ s.pwr.acked = true ∧ s.pwr.part < s.topGroup) ∧
    (∃ (s : State),
      (s.pwr.busy = true ∧ s.pwr.step = 4 → s.pwr.exiting = true) ∧ s.pwr.exiting = false ∧ s.pwr.wakeStep = 1 ∧
        s.pwr.part ≤ 4 ∧ s.pwr.acked = true ∧ s.topGroup ≤ s.pwr.part) ∧
    (∃ (s : State),
      (s.pwr.busy = false ∨ s.pwr.step ≠ 4) ∧ s.pwr.exiting = false ∧ s.pwr.wakeStep ≠ 1 ∧ s.pwr.asked = true) ∧
    (∃ (s : State) (pg : Bool),
      (s.pwr.busy = false ∨ s.pwr.step ≠ 4) ∧ s.pwr.exiting = false ∧ s.pwr.wakeStep ≠ 1 ∧
        (s.pwr.asked = false ∨ pg = true)) ∧
    (∃ (s : State),
      (s.pwr.busy = false ∨ s.pwr.step ≠ 4 ∨ s.pwr.exiting = true) ∧ (s.pwr.exiting = false ∨ s.pwr.part ≠ 1 ∧
        s.pwr.part ≠ 2)) ∧
    (∃ (s : State),
      s.pwr.busy = true ∧ s.pwr.exiting = false ∧ s.pwr.step = 4 ∧ s.pwr.unwind = 4 ∧ s.pwr.target = 2) ∧
    (∃ (s : State),
      s.pwr.busy = true ∧ s.pwr.exiting = false ∧ s.pwr.step = 4 ∧ s.pwr.unwind ≠ 4 ∧ s.pwr.target = 3 ∧
        s.pwr.tries < 2) ∧
    (∃ (s : State),
      s.pwr.busy = true ∧ s.pwr.exiting = false ∧ s.pwr.step = 4 ∧ s.pwr.unwind ≠ 4 ∧ 2 ≤ s.pwr.tries ∧
        s.count C.PWR_ENTRY_FAIL < 0xFFFFFFFE) ∧
    (∃ (s : State),
      s.pwr.exiting = true ∧ (s.pwr.part = 1 ∨ s.pwr.part = 2) ∧ s.pwr.tries < 2) ∧
    (∃ (s : State) (pg : Bool),
      s.pwr.exiting = true ∧ (s.pwr.part = 1 ∧ pg = true ∨ s.pwr.part = 2 ∧ pg = false) ∧ s.pwr.wakeStep ≠ 1 ∧
        (s.pwr.asked = false ∨ pg = true)) ∧
    (∃ (s : State),
      (s.pwr.exiting = false ∨ s.pwr.part ≠ 3)) ∧
    (∃ (s : State),
      (s.pwr.exiting = false ∨ s.pwr.part ≠ 4)) ∧
    (∃ (s : State) (e : Fin 96),
      ((s.eng e.val).st ≠ .off ∨ s.vec.veOff = true ∨ (s.eng e.val).spadFilled = true)) ∧
    (∃ (s : State) (e : Fin 96),
      (s.eng e.val).st = .off ∧ s.vec.veOff = false ∧ (s.eng e.val).spadFilled = false) ∧
    (∃ (s : State) (e : Fin 96),
      (s.eng e.val).st = .off ∧ s.vec.veOff = false ∧ (s.eng e.val).spadFilled = false ∧
        (s.eng e.val).imemLoaded = true ∧ ((s.eng e.val).retd = true ∨ (s.eng e.val).spareOf = none)) ∧
    (∃ (s : State) (e : Fin 96),
      ((s.eng e.val).st ≠ .off ∨ s.vec.veOff = true ∨ (s.eng e.val).imemLoaded = true)) ∧
    (∃ (s : State) (e : Fin 96),
      (s.eng e.val).st = .off ∧ s.vec.veOff = false ∧ (s.eng e.val).imemLoaded = false) ∧
    (∃ (s : State) (e : Fin 96),
      (s.eng e.val).st = .off ∧ s.vec.veOff = false ∧ (s.eng e.val).imemLoaded = false ∧
        (s.eng e.val).spadFilled = true ∧ (s.eng e.val).retd = true) ∧
    (∃ (s : State),
      (s.pwr.exiting = false ∨ s.pwr.part ≠ 6)) :=
  ⟨⟨ready 0, pk 0 0 [0xFF0002], by decide +kernel⟩,
   ⟨ready 0, pk 0 0 [0xFF0002], by decide +kernel⟩,
   ⟨(ready 0).setPwr { base.pwr with state := 1 }, pk 0 0 [0xFF0002], by decide +kernel⟩,
   ⟨ready 0, pk 0 0 [0xFF0002], by decide +kernel⟩,
   ⟨(ready 0).setPwr { base.pwr with state := 2 }, pk 0 0 [0xFF0002], by decide +kernel⟩,
   ⟨(ready 0).setPwr { base.pwr with state := 2 }, pk 0 0 [0xFF0002], by decide +kernel⟩,
   ⟨(ready 0).setPwr { base.pwr with state := 2, busy := true, exiting := true, part := 1 }, pk 0 0 [0xFF0002],
     by decide +kernel⟩,
   ⟨ready 0, pk 0 4 [0xFFFFFFFF], ⟨0x00200004, [], 0xffffffff, 0x00000000, 0x00000000, 0x00000000, 0x000a7848⟩,
     by decide +kernel⟩,
   ⟨base.setPwr { base.pwr with busy := true, step := 1, target := 2 }, by decide +kernel⟩,
   ⟨base.setPwr { base.pwr with busy := true, step := 1, target := 2 }, by decide +kernel⟩,
   ⟨base, by decide +kernel⟩,
   ⟨base.setPwr { base.pwr with busy := true, step := 1, target := 3, ckptDone := true, drained := true },
     by decide +kernel⟩,
   ⟨base.setPwr { base.pwr with busy := true, step := 1, target := 3 }, by decide +kernel⟩,
   ⟨base.setPwr { base.pwr with busy := true, step := 4, target := 2 }, by decide +kernel⟩,
   ⟨base.setPwr { base.pwr with busy := true, exiting := true, part := 1, state := 2 }, by decide +kernel⟩,
   ⟨base.setPwr { base.pwr with busy := true, exiting := true, part := 2, state := 2 }, by decide +kernel⟩,
   ⟨base.setPwr { base.pwr with busy := true, step := 4, target := 2 }, by decide +kernel⟩,
   ⟨base.setPwr { base.pwr with busy := true, exiting := true, part := 2, state := 2, tries := 2 },
     by decide +kernel⟩,
   ⟨base.setPwr { base.pwr with busy := true, exiting := true, part := 3, state := 2 }, by decide +kernel⟩,
   ⟨base.setPwr { base.pwr with busy := true, exiting := true, part := 4, state := 2 }, by decide +kernel⟩,
   ⟨base.setEng 5 { st := .off, spadFilled := false, imemLoaded := false, spad := [(3, 1)] }, 5, by decide +kernel⟩,
   ⟨base.setEng 5 { st := .off, spadFilled := true, imemLoaded := false }, 5, by decide +kernel⟩,
   ⟨(base.setEng 5 { st := .off, spadFilled := false, imemLoaded := false, kernel := some 3 }).setVec { (base.setEng 5 { st := .off, spadFilled := false, imemLoaded := false, kernel := some 3 }).vec with kernels := [(3, some [(0, 7)])] },
     5, 3, [(0, 7)], by decide +kernel⟩,
   ⟨base.setPwr { base.pwr with busy := true, exiting := true, part := 6, state := 2, target := 1 },
     by decide +kernel⟩,
   ⟨ready 0, pk 0 0 [0x040002], by decide +kernel⟩,
   ⟨ready 0, pk 0 1 [0xFF0002], by decide +kernel⟩,
   ⟨(ready 0).setPwr { base.pwr with state := 0 }, pk 0 0 [0xFF0002], by decide +kernel⟩,
   ⟨(ready 0).setPwr { base.pwr with state := 2, busy := true, exiting := true, part := 1 }, pk 0 0 [0xFF0002],
     by decide +kernel⟩,
   ⟨(ready 0).setPwr { base.pwr with state := 1, busy := true, step := 1, target := 3 }, pk 0 0 [0xFF0002],
     by decide +kernel⟩,
   ⟨(ready 0).setPwr { base.pwr with state := 2 }, pk 0 0 [0xFF0002], by decide +kernel⟩,
   ⟨ready 0, pk 0 0 [0x040002], by decide +kernel⟩,
   ⟨ready 0, pk 0 1 [0xFF0002], by decide +kernel⟩,
   ⟨(ready 0).setPwr { base.pwr with state := 1 }, pk 0 0 [0xFF0002], by decide +kernel⟩,
   ⟨(ready 0).setPwr { base.pwr with state := 2, busy := true, exiting := true, part := 1 }, pk 0 0 [0xFF0002],
     by decide +kernel⟩,
   ⟨(ready 0).setPwr { base.pwr with state := 1, busy := true, step := 1, target := 3 }, pk 0 0 [0xFF0002],
     by decide +kernel⟩,
   ⟨(ready 0).setPwr { base.pwr with state := 2 }, pk 0 0 [0xFF0002], by decide +kernel⟩,
   ⟨ready 0, pk 0 0 [0x040002], by decide +kernel⟩,
   ⟨ready 0, pk 0 1 [0xFF0002], by decide +kernel⟩,
   ⟨(ready 0).setPwr { base.pwr with state := 2 }, pk 0 0 [0xFF0002], by decide +kernel⟩,
   ⟨(ready 0).setPwr { base.pwr with state := 2, busy := true, exiting := true, part := 1 }, pk 0 0 [0xFF0002],
     by decide +kernel⟩,
   ⟨(ready 0).setPwr { base.pwr with state := 1, busy := true, step := 1, target := 3 }, pk 0 0 [0xFF0002],
     by decide +kernel⟩,
   ⟨ready 0, pk 0 0 [0x040002], by decide +kernel⟩,
   ⟨ready 0, pk 0 1 [0xFF0002], by decide +kernel⟩,
   ⟨(ready 0).setPwr { base.pwr with state := 3 }, pk 0 0 [0xFF0002], by decide +kernel⟩,
   ⟨(ready 0).setPwr { base.pwr with state := 2, busy := true, exiting := true, part := 1 }, pk 0 0 [0xFF0002],
     by decide +kernel⟩,
   ⟨ready 0, pk 0 0 [0xFF0002], by decide +kernel⟩,
   ⟨ready 0, pk 0 2 [0xFFFFFFFF], by decide +kernel⟩,
   ⟨ready 0, pk 0 4 [0xFFFFFFFF, 0xFFFFFFFF], ⟨0x00200004, [], 0xffffffff, 0x00000000, 0x00000000, 0x00000000,
     0x000a7848⟩, ⟨0x00200008, [], 0xfffffff0, 0x00000000, 0x00000000, 0x00000000, 0x69707850⟩, by decide +kernel⟩,
   ⟨ready 0, pk 0 (BitVec.ofNat 32 (R.PWR_HAZE_CFG - 0x00200000)) [5], ⟨0x00200048, [], 0x0000000f, 0x00000000,
     0x00000000, 0x00000000, 0x0000000b⟩, R.PWR_HAZE_CFG, by decide +kernel⟩,
   ⟨ready 0, pk 0 (BitVec.ofNat 32 (R.PWR_STAT_CTL - 0x00200000)) [1], by decide +kernel⟩,
   ⟨ready 0, pk 0 (BitVec.ofNat 32 (R.PWR_JRN_CLEAR - 0x00200000)) [1], by decide +kernel⟩,
   ⟨base, by decide +kernel⟩,
   ⟨base.setPwr { base.pwr with busy := true, step := 1, target := 2, drained := true }, by decide +kernel⟩,
   ⟨base, by decide +kernel⟩,
   ⟨base.setPwr { base.pwr with busy := true, step := 1, target := 2, ckptDone := true }, by decide +kernel⟩,
   ⟨base, by decide +kernel⟩,
   ⟨base, by decide +kernel⟩,
   ⟨base.setPwr { base.pwr with busy := true, step := 1, target := 3, ckptDone := true, drained := true, from_ := 1 },
     by decide +kernel⟩,
   ⟨base.setPwr { base.pwr with busy := true, step := 4, target := 2 }, by decide +kernel⟩,
   ⟨base.setPwr { base.pwr with busy := true, step := 4, target := 2, wake := some 0 }, by decide +kernel⟩,
   ⟨base.setPwr { base.pwr with busy := true, step := 4, target := 2, unwind := 4, wake := some 0 },
     by decide +kernel⟩,
   ⟨base.setPwr { base.pwr with busy := true, step := 4, target := 3, part := 4 }, true, by decide +kernel⟩,
   ⟨base.setPwr { base.pwr with busy := true, step := 4, target := 3, part := 4, acked := true }, by decide +kernel⟩,
   ⟨base.setPwr { base.pwr with busy := true, step := 4, target := 3, part := 2, acked := true }, by decide +kernel⟩,
   ⟨base.setPwr { base.pwr with busy := true, step := 4, target := 3, part := 3, acked := true, wake := some 1 },
     by decide +kernel⟩,
   ⟨base.setPwr { base.pwr with busy := true, step := 4, target := 3, part := 2, acked := true, unwind := 4 },
     by decide +kernel⟩,
   ⟨base.setPwr { base.pwr with busy := true, step := 4, target := 3, part := 3, acked := true, unwind := 4, wake := some 1 },
     by decide +kernel⟩,
   ⟨base.setPwr { base.pwr with state := 3, busy := true, wakeStep := 1, step := 8, part := 2 }, true,
     by decide +kernel⟩,
   ⟨base.setPwr { base.pwr with state := 3, busy := true, wakeStep := 1, step := 8, part := 2, acked := true },
     by decide +kernel⟩,
   ⟨base.setPwr { base.pwr with state := 3, busy := true, wakeStep := 1, step := 8, part := 4, acked := true },
     by decide +kernel⟩,
   ⟨base.setPwr { base.pwr with asked := true }, by decide +kernel⟩,
   ⟨base, true, by decide +kernel⟩,
   ⟨base, by decide +kernel⟩,
   ⟨base.setPwr { base.pwr with busy := true, step := 4, target := 2, unwind := 4 }, by decide +kernel⟩,
   ⟨base.setPwr { base.pwr with busy := true, step := 4, target := 3, part := 4 }, by decide +kernel⟩,
   ⟨base.setPwr { base.pwr with busy := true, step := 4, target := 2, tries := 2 }, by decide +kernel⟩,
   ⟨base.setPwr { base.pwr with busy := true, exiting := true, part := 2, state := 2 }, by decide +kernel⟩,
   ⟨base.setPwr { base.pwr with busy := true, exiting := true, part := 1, state := 2 }, true, by decide +kernel⟩,
   ⟨base, by decide +kernel⟩,
   ⟨base, by decide +kernel⟩,
   ⟨base, 5, by decide +kernel⟩,
   ⟨(base.setPwr { base.pwr with exiting := true, busy := true, part := 5, state := 2 }).setEng 5 { st := .off, spadFilled := false, imemLoaded := false, spad := [(3, 1)] },
     5, by decide +kernel⟩,
   ⟨base.setEng 5 { st := .off, spadFilled := false, imemLoaded := true, retd := true }, 5, by decide +kernel⟩,
   ⟨base, 5, by decide +kernel⟩,
   ⟨(base.setPwr { base.pwr with exiting := true, busy := true, part := 5, state := 2 }).setEng 5 { st := .off, spadFilled := true, imemLoaded := false },
     5, by decide +kernel⟩,
   ⟨base.setEng 5 { st := .off, spadFilled := true, imemLoaded := false, retd := true }, 5, by decide +kernel⟩,
   ⟨base, by decide +kernel⟩⟩

theorem wit_WakeSquallAndGradeFollowTheirInputs :
    (∃ (s : State) (k : Fin 24),
      bit (s.fld F.PWR_WAKE_CFG_GPIO) k.val = true ∧ s.pwr.state = 3 ∧ s.pwr.wakeStep = 0) ∧
    (∃ (s : State) (k : Fin 24),
      (bit (s.fld F.PWR_WAKE_CFG_GPIO) k.val = false ∨ s.pwr.busy = false ∧ s.pwr.state ≠ 3)) ∧
    (∃ (s : State),
      s.flag F.PWR_WAKE_CFG_TIMER = true ∧ s.pwr.state = 3 ∧ s.pwr.wakeStep = 0) ∧
    (∃ (s : State),
      s.pwr.state = 3 ∧ 2 ≤ s.pwr.wakeStep ∧ s.pwr.wakeStep < 4) ∧
    (∃ (s : State),
      s.pwr.state = 3 ∧ s.pwr.wakeStep = 4) ∧
    (∃ (s : State),
      s.pwr.state = 3 ∧ 2 ≤ s.pwr.wakeStep ∧ s.pwr.wakeStep ≤ 4 ∧ s.pwr.tries < 2 ∧
        s.count C.PWR_WAKE_RETRY < 0xFFFFFFFE) ∧
    (∃ (s : State),
      s.pwr.state = 3 ∧ 1 ≤ s.pwr.wakeStep ∧ s.pwr.wakeStep ≤ 4 ∧ 2 ≤ s.pwr.tries ∧
        s.count C.PWR_WAKE_FAIL < 0xFFFFFFFE) ∧
    (∃ (s : State),
      s.pwr.feedLow = false ∧ s.pwr.causes = 0 ∧ s.boot.mode ≠ 0 ∧ (s.source 0x00C0).queue.length < 16 ∧
        s.count C.PWR_SQUALLS < 0xFFFFFFFE) ∧
    (∃ (s : State),
      s.flag F.PWR_WAKE_CFG_FEED = false ∧ (s.coolAndFed = true ∨ s.pwr.feedLow = true ∧
        (s.setPwr { s.pwr with feedLow := false }).coolAndFed = true)) ∧
    (∃ (s : State) (i : Fin 8) (v : BitVec 16),
      signedOf 16 v.toNat < 4 * (s.tempTrip : Int) ∧ s.pwr.causes = 0 ∧ s.pwr.critTold = false) ∧
    (∃ (s : State) (i : Fin 8) (v : BitVec 16),
      4 * (s.tempTrip : Int) ≤ signedOf 16 v.toNat ∧ signedOf 16 v.toNat < 4 * (s.tempCrit : Int) ∧
        s.pwr.causes = 0 ∧ s.count C.PWR_SQUALLS < 0xFFFFFFFE) ∧
    (∃ (s : State) (i : Fin 8) (v : BitVec 16),
      4 * (s.tempCrit : Int) ≤ signedOf 16 v.toNat ∧ s.pwr.busy = false ∧ s.pwr.state ≤ 1) ∧
    (∃ (s : State) (feed : Option (BitVec 16)) (pouts : List (Option (BitVec 16))),
      s.pwr.evalDue = false) ∧
    (∃ (s : State) (v : BitVec 16) (pouts : List (Option (BitVec 16))),
      s.pwr.evalDue = true ∧ s.pwr.causes = 0 ∧ s.pwr.began = false ∧ s.pwr.grade ≤ 5 ∧
        s.fld F.PWR_FEED_CFG_SRC = 0) ∧
    (∃ (s : State) (pouts : List (Option (BitVec 16))),
      s.pwr.evalDue = true ∧ s.fld F.PWR_FEED_CFG_SRC = 0 ∧ s.count C.PWR_FEED_FAIL < 0xFFFFFFFE ∧
        s.pwr.feedMiss < 7) ∧
    (∃ (s : State) (k : Fin 24),
      bit (s.fld F.PWR_WAKE_CFG_GPIO) k.val = true ∧ s.pwr.state ≠ 3 ∧ s.pwr.busy = true ∧ s.pwr.exiting = false ∧
        s.pwr.target = 3 ∧ s.pwr.step = 4 ∧ s.pwr.unwind = 0 ∧ s.pwr.wake = none) ∧
    (∃ (s : State) (k : Fin 24),
      s.pwr.state = 3 ∧ s.pwr.wakeStep ≠ 0) ∧
    (∃ (s : State),
      s.flag F.PWR_WAKE_CFG_TIMER = true ∧ s.pwr.state ≠ 3 ∧ s.pwr.busy = true ∧ s.pwr.exiting = false ∧
        s.pwr.target = 3 ∧ s.pwr.step = 4 ∧ s.pwr.unwind = 0 ∧ s.pwr.wake = none) ∧
    (∃ (s : State),
      (s.flag F.PWR_WAKE_CFG_TIMER = false ∨ s.pwr.state ≠ 3 ∧ s.pwr.busy = false)) ∧
    (∃ (s : State),
      s.flag F.PWR_WAKE_CFG_FEED = true ∧ s.pwr.state = 3 ∧ s.pwr.wakeStep = 0) ∧
    (∃ (s : State),
      s.flag F.PWR_WAKE_CFG_FEED = false ∧ (s.setPwr { s.pwr with feedLow := false }).coolAndFed = false) ∧
    (∃ (s : State),
      (s.pwr.state ≠ 3 ∨ s.pwr.wakeStep = 0 ∨ 4 < s.pwr.wakeStep ∨ (s.pwr.wakeStep = 1 ∧ s.pwr.part < 5))) ∧
    (∃ (s : State),
      s.pwr.state = 3 ∧ s.pwr.wakeStep = 1 ∧ 5 ≤ s.pwr.part) ∧
    (∃ (s : State),
      (s.pwr.state ≠ 3 ∨ s.pwr.wakeStep = 0 ∨ 4 < s.pwr.wakeStep)) ∧
    (∃ (s : State),
      s.pwr.state = 3 ∧ s.pwr.wakeStep = 1 ∧ s.pwr.tries < 2 ∧ s.count C.PWR_WAKE_RETRY < 0xFFFFFFFE) ∧
    (∃ (s : State),
      s.pwr.wakeOut = true) ∧
    (∃ (s : State),
      s.pwr.feedLow = true) ∧
    (∃ (s : State),
      s.pwr.feedLow = false ∧ s.pwr.causes ≠ 0) ∧
    (∃ (s : State),
      s.pwr.feedLow = false ∧ s.pwr.causes = 0 ∧ s.boot.mode = 0 ∧ s.count C.PWR_SQUALLS < 0xFFFFFFFE) ∧
    (∃ (s : State) (i : Fin 8) (v : BitVec 16),
      4 * (s.tempTrip : Int) ≤ signedOf 16 v.toNat ∧ signedOf 16 v.toNat < 4 * (s.tempCrit : Int) ∧
        s.pwr.causes ≠ 0 ∧ s.pwr.causes &&& 2 = 0) ∧
    (∃ (s : State) (i : Fin 8) (v : BitVec 16),
      signedOf 16 v.toNat < 4 * (s.tempTrip : Int)) ∧
    (∃ (s : State) (i : Fin 8) (v : BitVec 16),
      4 * (s.tempCrit : Int) ≤ signedOf 16 v.toNat ∧ (s.pwr.busy = true ∨ 2 ≤ s.pwr.state)) ∧
    (∃ (s : State) (feed : Option (BitVec 16)) (pouts : List (Option (BitVec 16))),
      s.pwr.evalDue = true ∧ (s.pwr.causes &&& 6 ≠ 0 ∨ s.pwr.began = true)) ∧
    (∃ (s : State) (feed : Option (BitVec 16)) (pouts : List (Option (BitVec 16))),
      s.pwr.evalDue = true ∧ s.pwr.causes = 0 ∧ s.pwr.began = false ∧ s.pwr.hot = false ∧ s.pwr.grade = 7 ∧
        s.fld F.PWR_FEED_CFG_SRC = 1) ∧
    (∃ (s : State) (feed : Option (BitVec 16)) (pouts : List (Option (BitVec 16))),
      s.pwr.evalDue = true ∧ s.pwr.causes = 0 ∧ s.pwr.began = false ∧ s.pwr.grade = 6 ∧
        s.fld F.PWR_FEED_CFG_SRC = 1) ∧
    (∃ (s : State) (v : BitVec 16) (pouts : List (Option (BitVec 16))),
      s.pwr.evalDue = true ∧ s.fld F.PWR_FEED_CFG_SRC ≠ 0 ∧ s.fld F.PWR_FEED_CFG_SRC ≠ 1) ∧
    (∃ (s : State) (pouts : List (Option (BitVec 16))),
      s.pwr.evalDue = true ∧ s.fld F.PWR_FEED_CFG_SRC ≠ 1 ∧ 7 ≤ s.pwr.feedMiss ∧
        s.count C.PWR_FEED_FAIL < 0xFFFFFFFE) ∧
    (∃ (s : State) (feed : Option (BitVec 16)) (pouts : List (Option (BitVec 16))),
      s.pwr.evalDue = true) :=
  ⟨⟨(base.setPwr { base.pwr with state := 3, linkUp := false }).wr R.PWR_WAKE_CFG 0xFFFFFFFF, 3, by decide +kernel⟩,
   ⟨base, 3, by decide +kernel⟩,
   ⟨(base.setPwr { base.pwr with state := 3, linkUp := false }).wr R.PWR_WAKE_CFG 0xFFFFFFFF, by decide +kernel⟩,
   ⟨base.setPwr { base.pwr with state := 3, linkUp := false, wakeStep := 2, step := 9, busy := true },
     by decide +kernel⟩,
   ⟨base.setPwr { base.pwr with state := 3, linkUp := false, wakeStep := 4, step := 11, busy := true },
     by decide +kernel⟩,
   ⟨base.setPwr { base.pwr with state := 3, linkUp := false, wakeStep := 2, step := 9, busy := true },
     by decide +kernel⟩,
   ⟨base.setPwr { base.pwr with state := 3, linkUp := false, wakeStep := 2, step := 9, busy := true, tries := 2 },
     by decide +kernel⟩,
   ⟨base, by decide +kernel⟩,
   ⟨(base.setPwr { base.pwr with feedLow := true, causes := 4 }).wr R.PWR_WAKE_CFG 0, by decide +kernel⟩,
   ⟨base, 3, 447, by decide +kernel⟩,
   ⟨base, 3, 448, by decide +kernel⟩,
   ⟨base, 3, 480, by decide +kernel⟩,
   ⟨base, none, [], by decide +kernel⟩,
   ⟨base.setPwr { base.pwr with evalDue := true, louts := 2, grade := 3 }, 0x0190, [some 0x0020, none],
     by decide +kernel⟩,
   ⟨base.setPwr { base.pwr with evalDue := true, feedLast := 77 }, [], by decide +kernel⟩,
   ⟨(base.setPwr { base.pwr with busy := true, step := 4, target := 3 }).wr R.PWR_WAKE_CFG 0xFFFFFFFF, 3,
     by decide +kernel⟩,
   ⟨base.setPwr { base.pwr with state := 3, linkUp := false, wakeStep := 2 }, 3, by decide +kernel⟩,
   ⟨(base.setPwr { base.pwr with busy := true, step := 4, target := 3 }).wr R.PWR_WAKE_CFG 0xFFFFFFFF,
     by decide +kernel⟩,
   ⟨base, by decide +kernel⟩,
   ⟨(base.setPwr { base.pwr with state := 3, linkUp := false, feedLow := true }).wr R.PWR_WAKE_CFG 0xFFFFFFFF,
     by decide +kernel⟩,
   ⟨(base.setPwr { base.pwr with feedLow := true, causes := 6, temps := [(3, 500)] }).wr R.PWR_WAKE_CFG 0,
     by decide +kernel⟩,
   ⟨base.setPwr { base.pwr with state := 3, linkUp := false, wakeStep := 1, part := 3 }, by decide +kernel⟩,
   ⟨base.setPwr { base.pwr with state := 3, linkUp := false, wakeStep := 1, step := 8, busy := true, part := 5 },
     by decide +kernel⟩,
   ⟨base.setPwr { base.pwr with state := 3, linkUp := false, wakeStep := 5 }, by decide +kernel⟩,
   ⟨base.setPwr { base.pwr with state := 3, linkUp := false, wakeStep := 1, step := 8, busy := true },
     by decide +kernel⟩,
   ⟨base.setPwr { base.pwr with linkUp := false, l2 := true, wakeOut := true }, by decide +kernel⟩,
   ⟨base.setPwr { base.pwr with feedLow := true }, by decide +kernel⟩,
   ⟨base.setPwr { base.pwr with causes := 1, episode := 1 }, by decide +kernel⟩,
   ⟨{ base with boot := { base.boot with mode := 0 } }, by decide +kernel⟩,
   ⟨base.setPwr { base.pwr with causes := 1, episode := 1 }, 3, 448, by decide +kernel⟩,
   ⟨base.setPwr { base.pwr with causes := 2, critTold := true }, 3, 100, by decide +kernel⟩,
   ⟨base.setPwr { base.pwr with state := 2 }, 3, 480, by decide +kernel⟩,
   ⟨base.setPwr { base.pwr with evalDue := true, causes := 4 }, none, [], by decide +kernel⟩,
   ⟨(base.setFld F.PWR_FEED_CFG_SRC 1).setPwr { base.pwr with evalDue := true, grade := 7, clear := 7, episode := 4 },
     none, [], by decide +kernel⟩,
   ⟨(base.setFld F.PWR_FEED_CFG_SRC 1).setPwr { base.pwr with evalDue := true, louts := 2, grade := 6, overBudget := true },
     none, [some 0x0020, none], by decide +kernel⟩,
   ⟨(base.setFld F.PWR_FEED_CFG_SRC 2).setPwr { base.pwr with evalDue := true }, 0x0190, [], by decide +kernel⟩,
   ⟨base.setPwr { base.pwr with evalDue := true, feedMiss := 7 }, [], by decide +kernel⟩,
   ⟨base.setPwr { base.pwr with evalDue := true, louts := 2 }, none, [some 0x0190, none], by decide +kernel⟩⟩

theorem wit_EventsReachTheirFunctionsRing :
    (∃ (s : State) (cycle src : Nat) (e : Ev) (es : List Ev),
      s.arb.choose = some src ∧ (s.source src).queue = e :: es ∧ (s.source src).discarded = 0 ∧
        s.arb.lastCycle.all (fun c => decide (c + 4 ≤ cycle)) = true ∧ (s.fn e.func).store.length < 1024) ∧
    (∃ (s : State) (cycle src : Nat),
      s.arb.choose = some src ∧ 0 < (s.source src).discarded ∧
        s.arb.lastCycle.all (fun c => decide (c + 4 ≤ cycle)) = true ∧ (s.fn (sourceOwner src)).store.length < 1024) ∧
    (∃ (s : State) (cycle src : Nat) (e : Ev) (es : List Ev) (x : EvRec),
      s.arb.choose = some src ∧ (s.source src).queue = e :: es ∧ (s.source src).discarded = 0 ∧
        s.arb.lastCycle.all (fun c => decide (c + 4 ≤ cycle)) = true ∧ 1024 ≤ (s.fn e.func).store.length ∧
        displaced e.sev (s.fn e.func).store = some x ∧ (s.fn e.func).evtLost < 0xFFFFFFFE) ∧
    (∃ (s : State) (cycle src : Nat) (e : Ev) (es : List Ev),
      s.arb.choose = some src ∧ (s.source src).queue = e :: es ∧ (s.source src).discarded = 0 ∧
        s.arb.lastCycle.all (fun c => decide (c + 4 ≤ cycle)) = true ∧ 1024 ≤ (s.fn e.func).store.length ∧
        (∀ y ∈ (s.fn e.func).store, y.sev ≤ e.sev) ∧ (s.fn e.func).evtLost < 0xFFFFFFFE) ∧
    (∃ (s : State) (cycle src : Nat) (x : EvRec),
      s.arb.choose = some src ∧ 0 < (s.source src).discarded ∧
        s.arb.lastCycle.all (fun c => decide (c + 4 ≤ cycle)) = true ∧ 1024 ≤ (s.fn (sourceOwner src)).store.length ∧
        displaced 1 (s.fn (sourceOwner src)).store = some x ∧ (s.fn (sourceOwner src)).evtLost < 0xFFFFFFFE) ∧
    (∃ (s : State) (cycle src : Nat),
      s.arb.choose = some src ∧ 0 < (s.source src).discarded ∧
        s.arb.lastCycle.all (fun c => decide (c + 4 ≤ cycle)) = true ∧ 1024 ≤ (s.fn (sourceOwner src)).store.length ∧
        (∀ y ∈ (s.fn (sourceOwner src)).store, y.sev ≤ 1) ∧ (s.fn (sourceOwner src)).evtLost < 0xFFFFFFFE) ∧
    (∃ (s : State) (cycle : Nat),
      (s.arb.lastCycle.any (fun c => decide (cycle < c + 4)) = true ∨ s.arb.choose = none)) ∧
    (∃ (s : State) (f : Fin 6) (r : EvRec),
      nextRecord (s.fn f.val).store = some r ∧ s.flag (F.HOST_RING_CFG_EVT_EN f.val) = true ∧
        s.evtRoom f.val = true ∧ (s.fn f.val).resetting = false) ∧
    (∃ (s : State) (f : Fin 6) (r : EvRec),
      nextRecord (s.fn f.val).store = some r ∧ s.flag (F.HOST_RING_CFG_EVT_EN f.val) = true ∧
        s.evtRoom f.val = true ∧ (s.fn f.val).resetting = false ∧ s.flag (F.HOST_RING_CFG_EVT_NOTICE f.val) = true ∧
        (s.fn f.val).noticeOpen = false) ∧
    (∃ (s : State) (f : Fin 6) (r : EvRec),
      nextRecord (s.fn f.val).store = some r ∧ s.flag (F.HOST_RING_CFG_EVT_EN f.val) = true ∧
        s.evtRoom f.val = true ∧ (s.fn f.val).resetting = false ∧ s.flag (F.HOST_RING_CFG_EVT_NOTICE f.val) = true ∧
        (s.fn f.val).noticeOpen = true) ∧
    (∃ (s : State) (f : Fin 6) (r : EvRec),
      nextRecord (s.fn f.val).store = some r ∧ s.flag (F.HOST_RING_CFG_EVT_EN f.val) = true ∧
        s.evtRoom f.val = true ∧ (s.fn f.val).resetting = false ∧ s.flag (F.HOST_RING_CFG_EVT_NOTICE f.val) = false) ∧
    (∃ (s : State) (f : Fin 6) (r : EvRec),
      nextRecord (s.fn f.val).store = some r ∧ s.flag (F.HOST_RING_CFG_EVT_EN f.val) = true ∧
        s.evtRoom f.val = true ∧ (s.fn f.val).resetting = false ∧ 0 < (s.fn f.val).lostCount ∧
        (s.fn f.val).store.length ≤ 1024 ∧ (s.source 0x00e0).queue.length < 16) ∧
    (∃ (s : State) (f : Fin 6),
      (nextRecord (s.fn f.val).store = none ∨ s.flag (F.HOST_RING_CFG_EVT_EN f.val) = false ∨
        s.evtRoom f.val = false ∨ (s.fn f.val).resetting = true)) ∧
    (∃ (s : State) (f : Fin 6),
      (s.fn f.val).noticeDue = false) ∧
    (∃ (s : State) (f : Fin 6),
      (s.fn f.val).noticeDue = true ∧ s.flag (F.HOST_RING_CFG_EVT_NOTICE f.val) = true) ∧
    (∃ (s : State) (f : Fin 6),
      (s.fn f.val).noticeDue = true ∧ s.flag (F.HOST_RING_CFG_EVT_NOTICE f.val) = false) ∧
    (∃ (s : State) (f : Fin 6) (r : List Byte) (rs : List (List Byte)) (slot pad : Nat),
      (s.fn f.val).held = r :: rs ∧ s.flag (F.HOST_RING_CFG_RPL_EN f.val) = true ∧ (s.fn f.val).resetting = false ∧
        slot = (s.fn f.val).rplWr.toNat % ringSize 7 (s.fld (F.HOST_RING_CFG_RPL_SIZE f.val)) ∧
        (slot + ceilDiv r.length 64 ≤ ringSize 7 (s.fld (F.HOST_RING_CFG_RPL_SIZE f.val)) ∧
        pad = 0 ∨ ringSize 7 (s.fld (F.HOST_RING_CFG_RPL_SIZE f.val)) < slot + ceilDiv r.length 64 ∧
        pad = ringSize 7 (s.fld (F.HOST_RING_CFG_RPL_SIZE f.val)) - slot) ∧
        ((s.fn f.val).rplWr - s.rd (R.HOST_RPL_RD f.val)).toNat + pad +
        ceilDiv r.length 64 ≤ ringSize 7 (s.fld (F.HOST_RING_CFG_RPL_SIZE f.val))) ∧
    (∃ (s : State) (f : Fin 6),
      ((s.fn f.val).held = [] ∨ s.flag (F.HOST_RING_CFG_RPL_EN f.val) = false ∨ (s.fn f.val).resetting = true)) ∧
    (∃ (s : State) (f : Fin 6) (r : List Byte) (rs : List (List Byte)) (slot : Nat),
      (s.fn f.val).held = r :: rs ∧ slot =
        (s.fn f.val).rplWr.toNat % ringSize 7 (s.fld (F.HOST_RING_CFG_RPL_SIZE f.val)) ∧
        ringSize 7 (s.fld (F.HOST_RING_CFG_RPL_SIZE f.val)) < ((s.fn f.val).rplWr - s.rd (R.HOST_RPL_RD f.val)).toNat +
        (if ringSize 7 (s.fld (F.HOST_RING_CFG_RPL_SIZE f.val)) < slot + ceilDiv r.length 64
        then ringSize 7 (s.fld (F.HOST_RING_CFG_RPL_SIZE f.val)) - slot else 0) + ceilDiv r.length 64) :=
  ⟨⟨base.raise 0x20 2 0x203 5 [1], 3, 0x20, ⟨2, 0x203, 5, [1], 0⟩, [], by decide +kernel⟩,
   ⟨base.setSource 0x20 { discarded := 3 }, 3, 0x20, by decide +kernel⟩,
   ⟨(base.raise 0x20 2 0x203 5 [1]).setFn 5 { store := List.replicate 1023 ⟨1, 2, 3, 4, 1, 2, []⟩ ++ [⟨2, 2, 3, 4, 3, 2, []⟩] },
     3, 0x20, ⟨2, 0x203, 5, [1], 0⟩, [], ⟨2, 2, 3, 4, 3, 2, []⟩, by decide +kernel⟩,
   ⟨(base.raise 0x20 2 0x203 5 [1]).setFn 5 { store := List.replicate 1024 ⟨1, 2, 3, 4, 1, 2, []⟩ }, 3, 0x20, ⟨2,
     0x203, 5, [1], 0⟩, [], by decide +kernel⟩,
   ⟨(base.setSource 0x20 { discarded := 3 }).setFn (sourceOwner 0x20) { store := List.replicate 1023 ⟨1, 2, 3, 4, 1, 2, []⟩ ++ [⟨2, 2, 3, 4, 3, 2, []⟩] },
     3, 0x20, ⟨2, 2, 3, 4, 3, 2, []⟩, by decide +kernel⟩,
   ⟨(base.setSource 0x20 { discarded := 3 }).setFn (sourceOwner 0x20) { store := List.replicate 1024 ⟨1, 2, 3, 4, 1, 2, []⟩ },
     3, 0x20, by decide +kernel⟩,
   ⟨{ base with arb := { (base.raise 0x20 2 0x203 5 [1]).arb with lastCycle := some 2 } }, 5, by decide +kernel⟩,
   ⟨(base.wr (R.HOST_RING_CFG 2) 0x2739b000).setFn 2 { store := [⟨2, 2, 3, 4, 3, 2, []⟩, ⟨1, 2, 3, 4, 1, 2, []⟩] },
     2, ⟨1, 2, 3, 4, 1, 2, []⟩, by decide +kernel⟩,
   ⟨(base.wr (R.HOST_RING_CFG 2) 0x2739b000).setFn 2 { store := [⟨2, 2, 3, 4, 3, 2, []⟩, ⟨1, 2, 3, 4, 1, 2, []⟩] },
     2, ⟨1, 2, 3, 4, 1, 2, []⟩, by decide +kernel⟩,
   ⟨(base.wr (R.HOST_RING_CFG 2) 0x2739b000).setFn 2 { store := [⟨2, 2, 3, 4, 3, 2, []⟩, ⟨1, 2, 3, 4, 1, 2, []⟩], noticeOpen := true },
     2, ⟨1, 2, 3, 4, 1, 2, []⟩, by decide +kernel⟩,
   ⟨(base.wr (R.HOST_RING_CFG 2) 0x27398000).setFn 2 { store := [⟨2, 2, 3, 4, 3, 2, []⟩, ⟨1, 2, 3, 4, 1, 2, []⟩] },
     2, ⟨1, 2, 3, 4, 1, 2, []⟩, by decide +kernel⟩,
   ⟨(base.wr (R.HOST_RING_CFG 2) 0x2739b000).setFn 2 { store := [⟨2, 2, 3, 4, 3, 2, []⟩, ⟨1, 2, 3, 4, 1, 2, []⟩], lostCount := 3 },
     2, ⟨1, 2, 3, 4, 1, 2, []⟩, by decide +kernel⟩,
   ⟨base, 2, by decide +kernel⟩,
   ⟨base.setFn 1 { noticeOpen := true }, 1, by decide +kernel⟩,
   ⟨base.setFn 1 { noticeOpen := true, noticeDue := true }, 1, by decide +kernel⟩,
   ⟨(base.wr (R.HOST_RING_CFG 1) 0).setFn 1 { noticeOpen := true, noticeDue := true }, 1, by decide +kernel⟩,
   ⟨(base.wr (R.HOST_RING_CFG 3) 0x4739b000).setFn 3 { held := [List.replicate 80 0, []], rplWr := 127, cmdHead := 4 } |>.wr (R.HOST_RPL_RD 3) 120,
     3, List.replicate 80 0, [[]], 127, 1, by decide +kernel⟩,
   ⟨base, 3, by decide +kernel⟩,
   ⟨(base.wr (R.HOST_RING_CFG 3) 0x4739b000).setFn 3 { held := [List.replicate 80 0], rplWr := 127 }, 3,
     List.replicate 80 0, [], 127, by decide +kernel⟩⟩

theorem wit_RingIndexWritesTakeEffectOrAreRefused :
    (∃ (s : State) (f : Fin 6) (v : Word),
      (s.fn f.val).resetting = false ∧
        (v - (s.fn f.val).cmdHead).toNat ≤ ringSize 7 (s.fld (F.HOST_RING_CFG_CMD_SIZE f.val))) ∧
    (∃ (s : State) (f : Fin 6) (v : Word),
      (s.fn f.val).resetting = false ∧
        ringSize 7 (s.fld (F.HOST_RING_CFG_CMD_SIZE f.val)) < (v - (s.fn f.val).cmdHead).toNat) ∧
    (∃ (s : State) (f : Fin 6) (v : Word),
      (s.fn f.val).resetting = false ∧
        ((s.fn f.val).rplWr - v).toNat ≤ ringSize 7 (s.fld (F.HOST_RING_CFG_RPL_SIZE f.val)) ∧
        (v - s.rd (R.HOST_RPL_RD f.val)).toNat ≤ ((s.fn f.val).rplWr - s.rd (R.HOST_RPL_RD f.val)).toNat) ∧
    (∃ (s : State) (f : Fin 6) (v : Word),
      (s.fn f.val).resetting = false ∧
        ((s.fn f.val).evtWr - v).toNat ≤ ringSize 6 (s.fld (F.HOST_RING_CFG_EVT_SIZE f.val)) ∧
        (v - s.rd (R.HOST_EVT_RD f.val)).toNat ≤ ((s.fn f.val).evtWr - s.rd (R.HOST_EVT_RD f.val)).toNat) ∧
    (∃ (s : State) (f : Fin 6) (v : Word),
      (s.fn f.val).resetting = false ∧
        (ringSize 7 (s.fld (F.HOST_RING_CFG_RPL_SIZE f.val)) < ((s.fn f.val).rplWr - v).toNat ∨
        ((s.fn f.val).rplWr - s.rd (R.HOST_RPL_RD f.val)).toNat < (v - s.rd (R.HOST_RPL_RD f.val)).toNat)) ∧
    (∃ (s : State) (f : Fin 6) (v : Word),
      (s.fn f.val).resetting = false ∧
        (ringSize 6 (s.fld (F.HOST_RING_CFG_EVT_SIZE f.val)) < ((s.fn f.val).evtWr - v).toNat ∨
        ((s.fn f.val).evtWr - s.rd (R.HOST_EVT_RD f.val)).toNat < (v - s.rd (R.HOST_EVT_RD f.val)).toNat)) ∧
    (∃ (s : State) (f : Fin 6) (v : Word),
      (s.fn f.val).resetting = false) ∧
    (∃ (s : State) (f : Fin 6) (v : Word),
      (s.fn f.val).resetting = true) ∧
    (∃ (s : State) (f : Fin 6) (v : Word),
      (s.fn f.val).resetting = true) ∧
    (∃ (s : State) (f : Fin 6) (v : Word),
      (s.fn f.val).resetting = true) ∧
    (∃ (s : State) (f : Fin 6) (v : Word),
      (s.fn f.val).resetting = true) ∧
    (∃ (s : State) (p : Pkt),
      s.flag (F.HOST_RING_CFG_CMD_EN p.func.val) = true ∧ (s.fn p.func.val).resetting = false ∧ s.boot.mode ≠ 0 ∧
        unitsOf p.length ≤ s.posted p.func.val) ∧
    (∃ (s : State) (p : Pkt),
      (s.flag (F.HOST_RING_CFG_CMD_EN p.func.val) = false ∨ (s.fn p.func.val).resetting = true ∨ s.boot.mode = 0 ∨
        s.posted p.func.val < unitsOf p.length)) ∧
    (∃ (s : State) (f : Fin 6) (id : Nat) (b : Begun),
      (s.fn f.val).begun.find? (fun b => b.id == id) = some b ∧ b.tick + 48000 ≤ s.tick.count.toNat) ∧
    (∃ (s : State) (f : Fin 6) (id : Nat),
      (∀ b ∈ (s.fn f.val).begun, b.id = id → s.tick.count.toNat < b.tick + 48000)) :=
  ⟨⟨base, 2, 128, by decide +kernel⟩,
   ⟨base, 2, 129, by decide +kernel⟩,
   ⟨base.setFn 2 { rplWr := 5 }, 2, 5, by decide +kernel⟩,
   ⟨base.setFn 2 { evtWr := 5 }, 2, 4, by decide +kernel⟩,
   ⟨base.setFn 2 { rplWr := 5 }, 2, 6, by decide +kernel⟩,
   ⟨base.setFn 2 { evtWr := 5 }, 2, 6, by decide +kernel⟩,
   ⟨base.wr (R.HOST_RING_CFG 2) 0x40000000, 2, 0xEA39b000, by decide +kernel⟩,
   ⟨base.setFn 2 { resetting := true }, 2, 1, by decide +kernel⟩,
   ⟨base.setFn 2 { resetting := true }, 2, 1, by decide +kernel⟩,
   ⟨base.setFn 2 { resetting := true }, 2, 1, by decide +kernel⟩,
   ⟨base.setFn 2 { resetting := true }, 2, 1, by decide +kernel⟩,
   ⟨ready 3, pk 3 0 [], by decide +kernel⟩,
   ⟨base, pk 3 0 [], by decide +kernel⟩,
   ⟨base.setTick { base.tick with count := 48007 } |>.setFn 5 { begun := [⟨⟨5, 0x4001, 1, 2, false, false⟩, 8, 7⟩] },
     5, 8, ⟨⟨5, 0x4001, 1, 2, false, false⟩, 8, 7⟩, by decide +kernel⟩,
   ⟨base, 5, 8, by decide +kernel⟩⟩

theorem wit_ManagementCommandsAnswerAndCommit :
    (∃ (s : State) (p : Pkt),
      s.mayBegin 0x0101 p = true ∧ s.pastRingEnd p = false ∧ (s.boot.mode = 1 ∨ s.boot.mode = 2) ∧
        p.version.toNat = 1 ∧ p.flags.toNat / 4 = 0 ∧ p.func.val = 0 ∧ p.length = 0 ∧ p.target = 0) ∧
    (∃ (s : State) (p : Pkt),
      s.mayBegin 0x0101 p = true ∧ s.pastRingEnd p = false ∧ (s.boot.mode = 1 ∨ s.boot.mode = 2) ∧
        p.version.toNat = 1 ∧ p.flags.toNat / 4 = 0 ∧ p.func.val = 0 ∧ p.length = 0 ∧ p.target ≠ 0) ∧
    (∃ (s : State) (p : Pkt),
      Taken 0x0102 p s ∧ p.length = 0 ∧ p.target = 0 ∧ s.boot.committed = false ∧ s.sched.recoveryTicks = 0) ∧
    (∃ (s : State) (p : Pkt),
      Taken 0x0102 p s ∧ p.length = 0 ∧ p.target = 0 ∧ s.boot.committed = false ∧ s.sched.recoveryTicks = 0 ∧
        s.sched.acct ≠ 0 ∧ (s.source 0x0084).queue.length < 16) ∧
    (∃ (s : State) (p : Pkt),
      Taken 0x0102 p s ∧ p.length = 0 ∧ p.target = 0 ∧ s.boot.committed = false ∧ s.sched.recoveryTicks ≠ 0) ∧
    (∃ (s : State) (p : Pkt),
      Taken 0x0102 p s ∧ p.length = 0 ∧ p.target = 0 ∧ s.boot.committed = false ∧ s.sched.recoveryTicks ≠ 0 ∧
        s.sched.acct ≠ 2 ∧ (s.source 0x0084).queue.length < 16) ∧
    (∃ (s : State) (p : Pkt),
      Taken 0x0102 p s ∧ p.length = 0 ∧ p.target = 0 ∧ s.boot.committed = true) ∧
    (∃ (s : State) (p : Pkt),
      Taken 0x0102 p s ∧ p.length = 0 ∧ p.target ≠ 0) ∧
    (∃ (s : State) (p : Pkt),
      s.mayBegin 0x0103 p = true ∧ s.pastRingEnd p = false ∧ (s.boot.mode = 1 ∨ s.boot.mode = 2) ∧
        p.version.toNat = 1 ∧ p.flags.toNat / 4 = 0 ∧ p.func.val = 0 ∧ p.length = 1 ∧
        p.target.toNat < s.jrn.core.total ∧ 1 ≤ p.w 0 ∧ p.w 0 ≤ 128 ∧
        (s.jrn.core.total - s.jrn.core.entries.length) ≤ p.target.toNat) ∧
    (∃ (s : State) (p : Pkt),
      s.mayBegin 0x0103 p = true ∧ s.pastRingEnd p = false ∧ (s.boot.mode = 1 ∨ s.boot.mode = 2) ∧
        p.version.toNat = 1 ∧ p.flags.toNat / 4 = 0 ∧ p.func.val = 0 ∧ p.length = 1 ∧
        p.target.toNat < s.jrn.core.total ∧ 1 ≤ p.w 0 ∧ p.w 0 ≤ 128 ∧
        p.target.toNat < (s.jrn.core.total - s.jrn.core.entries.length)) ∧
    (∃ (s : State) (p : Pkt),
      s.mayBegin 0x0103 p = true ∧ s.pastRingEnd p = false ∧ (s.boot.mode = 1 ∨ s.boot.mode = 2) ∧
        p.version.toNat = 1 ∧ p.flags.toNat / 4 = 0 ∧ p.func.val = 0 ∧ p.length = 1 ∧
        p.target.toNat < s.jrn.core.total ∧ (p.w 0 = 0 ∨ 128 < p.w 0)) ∧
    (∃ (s : State) (p : Pkt),
      s.mayBegin 0x0103 p = true ∧ s.pastRingEnd p = false ∧ (s.boot.mode = 1 ∨ s.boot.mode = 2) ∧
        p.version.toNat = 1 ∧ p.flags.toNat / 4 = 0 ∧ p.func.val = 0 ∧ p.length = 1 ∧
        s.jrn.core.total ≤ p.target.toNat) ∧
    (∃ (s : State) (p : Pkt),
      s.mayBegin 0x0104 p = true ∧ s.pastRingEnd p = false ∧ (s.boot.mode = 1 ∨ s.boot.mode = 2) ∧
        p.version.toNat = 1 ∧ p.flags.toNat / 4 = 0 ∧ p.func.val = 0 ∧ p.length = 1 ∧ p.target.toNat < 2 ∧
        leAt p.bytes 2 2 ≤ 4096 ∧ leAt p.bytes 0 2 + leAt p.bytes 2 2 ≤ 65536) ∧
    (∃ (s : State) (p : Pkt),
      s.mayBegin 0x0104 p = true ∧ s.pastRingEnd p = false ∧ (s.boot.mode = 1 ∨ s.boot.mode = 2) ∧
        p.version.toNat = 1 ∧ p.flags.toNat / 4 = 0 ∧ p.func.val = 0 ∧ p.length = 1 ∧ p.target.toNat < 2 ∧
        (4096 < leAt p.bytes 2 2 ∨ 65536 < leAt p.bytes 0 2 + leAt p.bytes 2 2)) ∧
    (∃ (s : State) (p : Pkt),
      s.mayBegin 0x0104 p = true ∧ s.pastRingEnd p = false ∧ (s.boot.mode = 1 ∨ s.boot.mode = 2) ∧
        p.version.toNat = 1 ∧ p.flags.toNat / 4 = 0 ∧ p.func.val = 0 ∧ p.length = 1 ∧ 2 ≤ p.target.toNat) ∧
    (∃ (s : State) (p : Pkt) (grp : Byte),
      Taken (grp.toNat * 256 + 0xFE) p s ∧ p.length = 2 ∧ p.target = 0 ∧ 1 ≤ p.w 1 ∧ p.w 1 ≤ 64 ∧ p.w 0 % 4 = 0 ∧
        (∀ i < p.w 1, clearable p.func.val (p.w 0 + 4 * i) = true)) ∧
    (∃ (s : State) (p : Pkt) (grp : Byte),
      Taken (grp.toNat * 256 + 0xFE) p s ∧ p.length = 2 ∧ p.target = 0 ∧ p.w 0 = 0x1048 ∧ p.w 1 = 1) ∧
    (∃ (s : State) (p : Pkt) (grp : Byte),
      Taken (grp.toNat * 256 + 0xFE) p s ∧ p.length = 2 ∧ p.target = 0 ∧ (p.w 1 = 0 ∨ 64 < p.w 1)) ∧
    (∃ (s : State) (p : Pkt) (grp : Byte) (k : Nat),
      Taken (grp.toNat * 256 + 0xFE) p s ∧ p.length = 2 ∧ p.target = 0 ∧ 1 ≤ p.w 1 ∧ p.w 1 ≤ 64 ∧
        (p.w 0 % 4 ≠ 0 ∨ k < p.w 1 ∧ clearable p.func.val (p.w 0 + 4 * k) = false)) ∧
    (∃ (s : State) (p : Pkt) (grp : Byte),
      Taken (grp.toNat * 256 + 0xFE) p s ∧ p.length = 2 ∧ p.target ≠ 0) :=
  ⟨⟨{ ready 0 with boot := { base.boot with mode := 2 } }, pk 0 0 [], by decide +kernel⟩,
   ⟨ready 0, pk 0 1 [], by decide +kernel⟩,
   ⟨ready 0, pk 0 0 [], by decide +kernel⟩,
   ⟨{ ready 0 with sched := { base.sched with acct := 1 } }, pk 0 0 [], by decide +kernel⟩,
   ⟨{ ready 0 with sched := { base.sched with recoveryTicks := 7 } }, pk 0 0 [], by decide +kernel⟩,
   ⟨{ ready 0 with sched := { base.sched with recoveryTicks := 7 } }, pk 0 0 [], by decide +kernel⟩,
   ⟨ready 0 |> fun s => s.setBoot (( { s.boot with committed := true } : Boot)), pk 0 0 [], by decide +kernel⟩,
   ⟨ready 0, pk 0 1 [], by decide +kernel⟩,
   ⟨((ready 0).journal 2 0 0 1 5 6).journal 3 0 0 1 5 6, pk 0 1 [4], by decide +kernel⟩,
   ⟨{ ready 0 with jrn := { base.jrn with core := { base.jrn.core with total := 600, entries := [[1], [2]] } } },
     pk 0 1 [4], by decide +kernel⟩,
   ⟨((ready 0).journal 2 0 0 1 5 6), pk 0 0 [129], by decide +kernel⟩,
   ⟨ready 0, pk 0 0 [1], by decide +kernel⟩,
   ⟨({ ready 0 with boot := { base.boot with mode := 2 } }).setFlash (boardBase 1 + 4) 0x12, pk 0 1 [0x00080004],
     by decide +kernel⟩,
   ⟨ready 0, pk 0 1 [0x0008fffc], by decide +kernel⟩,
   ⟨ready 0, pk 0 2 [0x00080004], by decide +kernel⟩,
   ⟨((ready 1).setCount (C.PON_FEC_UNCORR_CW 2) 9).wr (R.PON_STAT_SAT 2) 3, pk 1 0 [0x00420108, 2], 0x10,
     by decide +kernel⟩,
   ⟨(ready 1).setFn 1 { evtLost := 7 }, pk 1 0 [0x1048, 1], 0x10, by decide +kernel⟩,
   ⟨ready 1, pk 1 0 [0x00420108, 65], 0x10, by decide +kernel⟩,
   ⟨ready 1, pk 1 0 [0x00420108, 64], 0x10, 60, by decide +kernel⟩,
   ⟨ready 1, pk 1 1 [0x00420108, 1], 0x10, by decide +kernel⟩⟩

theorem wit_ResetsAndStartLeaveTheirStates :
    (∃ (s : State) (f : Fin 6) (reqs : List (List Byte)),
      (s.fn f.val).resetting = false) ∧
    (∃ (s : State) (f : Fin 6) (reqs : List (List Byte)),
      (s.fn f.val).resetting = true) ∧
    (∃ (s : State) (reqs : List (List Byte)),
      (s.fn 2).resetting = false) ∧
    (∃ (s : State) (reqs : List (List Byte)),
      (s.fn 3).resetting = false) ∧
    (∃ (s : State) (reqs : List (List Byte)),
      (s.fn 4).resetting = false) ∧
    (∃ (s : State) (d : List Byte),
      (s.fn 4).resetting = false ∧ s.rqPosted = 1) ∧
    (∃ (s : State) (reqs : List (List Byte)),
      (s.fn 5).resetting = false) ∧
    (∃ (s : State) (reqs : List (List Byte)),
      (∀ f < 6, (s.fn f).resetting = false)) ∧
    (∃ (s : State) (f : Fin 6) (reqs : List (List Byte)),
      (s.fn f.val).resetting = true) ∧
    (∃ (s : State) (f : Fin 6) (reqs : List (List Byte)),
      (s.fn f.val).resetting = false) ∧
    (∃ (s : State) (ns : Nat),
      1000 ≤ ns ∧ (s.pwr.state ≠ 3 ∨ 4 < s.pwr.wakeStep)) ∧
    (∃ (s : State) (ns : Nat),
      ns < 1000) ∧
    (∃ (s : State) (ns : Nat),
      1000 ≤ ns ∧ s.pwr.state = 3 ∧ s.pwr.wakeStep ≤ 4) ∧
    (∃ (s : State) (v : Word),
      v ≠ 0x52455354) ∧
    (∃ (s : State) (f : Fin 6) (v : Word),
      f.val ≠ 0) ∧
    (∃ (s : State) (i : StartInfo),
      s.starting = false) ∧
    (∃ (s : State) (i : StartInfo),
      s.starting = false) ∧
    (∃ (s : State) (i : StartInfo),
      s.starting = true ∧ s.boot.step = 0) ∧
    (∃ (s : State) (i : StartInfo),
      s.starting = true ∧ s.boot.step = 1) ∧
    (∃ (s : State) (i : StartInfo),
      s.starting = true ∧ s.boot.step = 2 ∧ s.boot.tries = 0 ∧ s.jrn.clearDue = false ∧ i.aonOk = true) ∧
    (∃ (s : State) (i : StartInfo),
      s.starting = true ∧ s.boot.step = 2 ∧ s.boot.tries = 0 ∧ s.jrn.clearDue = true ∧ i.aonOk = true) ∧
    (∃ (s : State) (i : StartInfo),
      s.starting = true ∧ s.boot.step = 2 ∧ s.boot.tries = 0 ∧ s.jrn.clearDue = false ∧ i.aonOk = false ∧
        s.jrn.newest = none) ∧
    (∃ (s : State) (i : StartInfo) (m : Nat × JCore),
      s.starting = true ∧ s.boot.step = 2 ∧ s.boot.tries = 0 ∧ i.aonOk = false ∧ s.jrn.clearDue = false ∧
        s.jrn.newest = some m) ∧
    (∃ (s : State) (i : StartInfo),
      s.starting = true ∧ s.boot.step = 2 ∧ i.aonOk = true ∧ s.jrn.clearDue = false) ∧
    (∃ (s : State) (i : StartInfo),
      s.starting = true ∧ s.boot.step = 3) ∧
    (∃ (s : State) (i : StartInfo),
      s.starting = true ∧ s.boot.step = 4 ∧ s.boot.tries < 2) ∧
    (∃ (s : State) (i : StartInfo),
      s.starting = true ∧ s.boot.step = 5 ∧ s.boardOk s.boot.board = true) ∧
    (∃ (s : State) (i : StartInfo),
      s.starting = true ∧ s.boot.step = 5 ∧ s.boardOk s.boot.board = false ∧ s.boot.tries < 2) ∧
    (∃ (s : State) (i : StartInfo),
      s.starting = true ∧ s.boot.step = 7 ∧
        (match s.boot.values.ddr with | none => true | some d => decide (32 < capacity d.2.1 d.2.2.1 d.2.2.2)) =
        true) ∧
    (∃ (s : State) (i : StartInfo) (r : Nat) (x8 dense two : Bool),
      s.starting = true ∧ s.boot.step = 7 ∧ s.boot.values.ddr = some (r, x8, dense, two) ∧
        capacity x8 dense two ≤ 32) ∧
    (∃ (s : State) (i : StartInfo),
      s.starting = true ∧ s.boot.step = 8) ∧
    (∃ (s : State) (i : StartInfo),
      s.starting = true ∧ s.boot.step = 9 ∧ s.selfTestFails i = [] ∧ s.jrn.core.eng.Pairwise (fun a b => a.1 < b.1)) ∧
    (∃ (s : State) (i : StartInfo),
      s.starting = true ∧ s.boot.step = 9 ∧ s.selfTestFails i ≠ [] ∧ s.boot.tries < 2) ∧
    (∃ (s : State) (i : StartInfo),
      s.starting = true ∧ s.boot.step = 10 ∧ s.opticsMissing i = 0) ∧
    (∃ (s : State) (i : StartInfo),
      s.starting = true ∧ s.boot.step = 10 ∧ s.opticsMissing i ≠ 0 ∧ s.boot.tries < 2) ∧
    (∃ (s : State) (i : StartInfo),
      s.starting = true ∧ s.boot.step ∉ [0, 1, 2, 3, 4, 5, 7, 8, 9, 10]) ∧
    (∃ (s : State) (i : StartInfo),
      s.starting = true ∧ s.boot.step = 0) ∧
    (∃ (s : State) (i : StartInfo),
      s.starting = true ∧ s.boot.step ≠ 0 ∧ s.boot.tries < 2) ∧
    (∃ (s : State) (i : StartInfo),
      s.starting = true ∧ s.boot.step = 1 ∧ 2 ≤ s.boot.tries) ∧
    (∃ (s : State) (i : StartInfo),
      s.starting = true ∧ s.boot.step = 2 ∧ 2 ≤ s.boot.tries) ∧
    (∃ (s : State) (i : StartInfo),
      s.starting = true ∧ s.boot.step = 3 ∧ 2 ≤ s.boot.tries ∧ s.boot.alt = false) ∧
    (∃ (s : State) (i : StartInfo),
      s.starting = true ∧ s.boot.step = 3 ∧ 2 ≤ s.boot.tries ∧ s.boot.alt = true) ∧
    (∃ (s : State) (i : StartInfo),
      s.starting = true ∧ s.boot.step = 4 ∧ 2 ≤ s.boot.tries ∧ s.boot.alt = false) ∧
    (∃ (s : State) (i : StartInfo),
      s.starting = true ∧ s.boot.step = 4 ∧ 2 ≤ s.boot.tries ∧ s.boot.alt = true) ∧
    (∃ (s : State) (i : StartInfo),
      s.starting = true ∧ s.boot.step = 5 ∧ 2 ≤ s.boot.tries ∧ s.boot.alt = false) ∧
    (∃ (s : State) (i : StartInfo),
      s.starting = true ∧ s.boot.step = 5 ∧ 2 ≤ s.boot.tries ∧ s.boot.alt = true) ∧
    (∃ (s : State) (i : StartInfo),
      s.starting = true ∧ s.boot.step = 7 ∧ 2 ≤ s.boot.tries ∧ s.boot.ddrRate ≠ 0) ∧
    (∃ (s : State) (i : StartInfo),
      s.starting = true ∧ s.boot.step = 7 ∧ 2 ≤ s.boot.tries ∧ s.boot.ddrRate = 0) ∧
    (∃ (s : State) (i : StartInfo),
      s.starting = true ∧ s.boot.step = 8 ∧ 2 ≤ s.boot.tries) ∧
    (∃ (s : State) (i : StartInfo),
      s.starting = true ∧ s.boot.step = 9 ∧ 2 ≤ s.boot.tries) ∧
    (∃ (s : State) (i : StartInfo),
      s.starting = true ∧ s.boot.step = 10 ∧ 2 ≤ s.boot.tries) ∧
    (∃ (s : State) (i : StartInfo),
      s.starting = true ∧ 2 ≤ s.boot.tries ∧ s.boot.step ∉ [0, 1, 2, 3, 4, 5, 7, 8, 9, 10]) ∧
    (∃ (s : State) (tms tdi porst : Bool),
      s.tap.st = .captureDr ∧ s.tap.insn = .idcode) :=
  ⟨⟨((ready 3).setFn 3 { held := [[1]] }), 3, [], by decide +kernel⟩,
   ⟨base.setFn 3 { resetting := true }, 3, [], by decide +kernel⟩,
   ⟨{ base with vec := { base.vec with groups := [(1, { state := 3, nextRungs := [(0, [], 0)] })], cutAt := some 4 } },
     [], by decide +kernel⟩,
   ⟨base.setWalk 1 (some {}), [], by decide +kernel⟩,
   ⟨(base.wr R.CIPH_RQ_CFG 0xFFFFFFFF).wr R.CIPH_RQ_TAIL 2, [], by decide +kernel⟩,
   ⟨(base.wr R.CIPH_RQ_CFG 0xFFFFFFFF).wr R.CIPH_RQ_TAIL 1, List.replicate 64 5, by decide +kernel⟩,
   ⟨{ base with time := { base.time with todRx := [1] } }, [], by decide +kernel⟩,
   ⟨((ready 3).setFn 3 { held := [[1]] }), [], by decide +kernel⟩,
   ⟨base.setFn 3 { resetting := true, cmdHead := 5 }, 3, [], by decide +kernel⟩,
   ⟨base.setFn 2 { resetting := true, cmdHead := 5 }, 3, [], by decide +kernel⟩,
   ⟨ready 2, 1000, by decide +kernel⟩,
   ⟨base, 999, by decide +kernel⟩,
   ⟨base.setPwr { base.pwr with state := 3, wakeStep := 2, tries := 1 }, 1000, by decide +kernel⟩,
   ⟨base, 5, by decide +kernel⟩,
   ⟨base, 3, 0x52455354, by decide +kernel⟩,
   ⟨base, { ms := 5, aonOk := true, cause := 2, board := {}, engines := [], optics := 15 }, by decide +kernel⟩,
   ⟨State.reset.setBoot { State.reset.boot with held := true },
     { ms := 5, aonOk := true, cause := 2, board := {}, engines := [], optics := 15 }, by decide +kernel⟩,
   ⟨State.reset, { ms := 5, aonOk := true, cause := 2, board := {}, engines := [], optics := 15 }, by decide +kernel⟩,
   ⟨State.reset.setBoot { State.reset.boot with step := 1, tries := 2 },
     { ms := 5, aonOk := true, cause := 2, board := {}, engines := [], optics := 15 }, by decide +kernel⟩,
   ⟨{ (State.reset.setBoot { State.reset.boot with step := 2 }) with jrn := { State.reset.jrn with core := { State.reset.jrn.core with o7 := 5 } } },
     { ms := 5, aonOk := true, cause := 2, board := {}, engines := [], optics := 15 }, by decide +kernel⟩,
   ⟨{ (State.reset.setBoot { State.reset.boot with step := 2 }) with jrn := { State.reset.jrn with clearDue := true } },
     { ms := 5, aonOk := true, cause := 2, board := {}, engines := [], optics := 15 }, by decide +kernel⟩,
   ⟨State.reset.setBoot { State.reset.boot with step := 2 },
     { ms := 5, aonOk := false, cause := 2, board := {}, engines := [], optics := 15 }, by decide +kernel⟩,
   ⟨{ (State.reset.setBoot { State.reset.boot with step := 2 }) with jrn := { State.reset.jrn with mirror := [(1, some (4, { o7 := 2 }))] } },
     { ms := 5, aonOk := false, cause := 2, board := {}, engines := [], optics := 15 }, (4, { o7 := 2 }),
     by decide +kernel⟩,
   ⟨State.reset.setBoot { State.reset.boot with step := 2, tries := 1 },
     { ms := 5, aonOk := true, cause := 2, board := {}, engines := [], optics := 15 }, by decide +kernel⟩,
   ⟨State.reset.setBoot { State.reset.boot with step := 3, tries := 1 },
     { ms := 5, aonOk := true, cause := 2, board := {}, engines := [], optics := 15 }, by decide +kernel⟩,
   ⟨State.reset.setBoot { State.reset.boot with step := 4 },
     { ms := 5, aonOk := true, cause := 2, board := {}, engines := [], optics := 15 }, by decide +kernel⟩,
   ⟨State.reset.setBoot { State.reset.boot with step := 5, flash := (base.setFlash 0 0x56 |>.setFlash 1 0x4C |>.setFlash 2 0x42 |>.setFlash 3 0x54 |>.setFlash 4 1 |>.setFlash 5 0 |>.setFlash 6 0 |>.setFlash 7 0 |>.setFlash 8 20 |>.setFlash 9 0 |>.setFlash 10 0 |>.setFlash 11 0 |>.setFlash 12 0 |>.setFlash 13 0 |>.setFlash 14 0 |>.setFlash 15 0 |>.setFlash 16 73 |>.setFlash 17 37 |>.setFlash 18 205 |>.setFlash 19 242).boot.flash },
     { ms := 5, aonOk := true, cause := 2, board := { ddr := some (1, false, true, false) }, engines := [], optics := 15 },
     by decide +kernel⟩,
   ⟨State.reset.setBoot { State.reset.boot with step := 5 },
     { ms := 5, aonOk := true, cause := 2, board := {}, engines := [], optics := 15 }, by decide +kernel⟩,
   ⟨State.reset.setBoot { State.reset.boot with step := 7, values := { ddr := none } },
     { ms := 5, aonOk := true, cause := 2, board := {}, engines := [], optics := 15 }, by decide +kernel⟩,
   ⟨State.reset.setBoot { State.reset.boot with step := 7, values := { ddr := some (1, true, false, true) } },
     { ms := 5, aonOk := true, cause := 2, board := {}, engines := [], optics := 15 }, 1, true, false, true,
     by decide +kernel⟩,
   ⟨State.reset.setBoot { State.reset.boot with step := 8 },
     { ms := 5, aonOk := true, cause := 2, board := {}, engines := [], optics := 15 }, by decide +kernel⟩,
   ⟨{ (State.reset.setBoot { State.reset.boot with step := 9 }) with jrn := { State.reset.jrn with core := { State.reset.jrn.core with eng := [(4, true)] } } },
     { ms := 5, aonOk := true, cause := 2, board := {}, engines := [], optics := 15 }, by decide +kernel⟩,
   ⟨State.reset.setBoot { State.reset.boot with step := 9 },
     { ms := 5, aonOk := true, cause := 2, board := {}, engines := [7], optics := 15 }, by decide +kernel⟩,
   ⟨State.reset.setBoot { State.reset.boot with step := 10, values := { chans := 3, macs := 5 } },
     { ms := 5, aonOk := true, cause := 2, board := {}, engines := [], optics := 15 }, by decide +kernel⟩,
   ⟨State.reset.setBoot { State.reset.boot with step := 10, values := { chans := 3 } },
     { ms := 5, aonOk := true, cause := 2, board := {}, engines := [], optics := 1 }, by decide +kernel⟩,
   ⟨State.reset.setBoot { State.reset.boot with step := 12 },
     { ms := 5, aonOk := true, cause := 2, board := {}, engines := [], optics := 15 }, by decide +kernel⟩,
   ⟨State.reset, { ms := 5, aonOk := true, cause := 2, board := {}, engines := [], optics := 15 }, by decide +kernel⟩,
   ⟨State.reset.setBoot { State.reset.boot with step := 5 },
     { ms := 5, aonOk := true, cause := 2, board := {}, engines := [], optics := 15 }, by decide +kernel⟩,
   ⟨State.reset.setBoot { State.reset.boot with step := 1, tries := 2 },
     { ms := 5, aonOk := true, cause := 2, board := {}, engines := [], optics := 15 }, by decide +kernel⟩,
   ⟨{ (State.reset.setBoot { State.reset.boot with step := 2, tries := 2 }) with jrn := { State.reset.jrn with core := { State.reset.jrn.core with image := 1 } } },
     { ms := 5, aonOk := true, cause := 2, board := {}, engines := [], optics := 15 }, by decide +kernel⟩,
   ⟨State.reset.setBoot { State.reset.boot with step := 3, tries := 2 },
     { ms := 5, aonOk := true, cause := 2, board := {}, engines := [], optics := 15 }, by decide +kernel⟩,
   ⟨State.reset.setBoot { State.reset.boot with step := 3, tries := 2, alt := true },
     { ms := 5, aonOk := true, cause := 2, board := {}, engines := [], optics := 15 }, by decide +kernel⟩,
   ⟨State.reset.setBoot { State.reset.boot with step := 4, tries := 2 },
     { ms := 5, aonOk := true, cause := 2, board := {}, engines := [], optics := 15 }, by decide +kernel⟩,
   ⟨State.reset.setBoot { State.reset.boot with step := 4, tries := 2, alt := true },
     { ms := 5, aonOk := true, cause := 2, board := {}, engines := [], optics := 15 }, by decide +kernel⟩,
   ⟨State.reset.setBoot { State.reset.boot with step := 5, tries := 2 },
     { ms := 5, aonOk := true, cause := 2, board := {}, engines := [], optics := 15 }, by decide +kernel⟩,
   ⟨State.reset.setBoot { State.reset.boot with step := 5, tries := 2, alt := true },
     { ms := 5, aonOk := true, cause := 2, board := {}, engines := [], optics := 15 }, by decide +kernel⟩,
   ⟨State.reset.setBoot { State.reset.boot with step := 7, tries := 2 },
     { ms := 5, aonOk := true, cause := 2, board := {}, engines := [], optics := 15 }, by decide +kernel⟩,
   ⟨State.reset.setBoot { State.reset.boot with step := 7, tries := 2, ddrRate := 0 },
     { ms := 5, aonOk := true, cause := 2, board := {}, engines := [], optics := 15 }, by decide +kernel⟩,
   ⟨State.reset.setBoot { State.reset.boot with step := 8, tries := 2 },
     { ms := 5, aonOk := true, cause := 2, board := {}, engines := [], optics := 15 }, by decide +kernel⟩,
   ⟨State.reset.setBoot { State.reset.boot with step := 9, tries := 2 },
     { ms := 5, aonOk := true, cause := 2, board := {}, engines := [7, 9], optics := 15 }, by decide +kernel⟩,
   ⟨State.reset.setBoot { State.reset.boot with step := 10, tries := 2, values := { chans := 3 } },
     { ms := 5, aonOk := true, cause := 2, board := {}, engines := [], optics := 1 }, by decide +kernel⟩,
   ⟨State.reset.setBoot { State.reset.boot with step := 12, tries := 2 },
     { ms := 5, aonOk := true, cause := 2, board := {}, engines := [], optics := 15 }, by decide +kernel⟩,
   ⟨{ base with tap := { base.tap with st := .captureDr, insn := .idcode } }, true, true, false, by decide +kernel⟩⟩

theorem wit_RegistersFlashAndJournalAreWritten :
    (∃ (s : State) (f : Fin 6) (off : BitVec 26) (v : Word) (r : RegSpec),
      s.access f.val off.toNat = 2 ∧ 0x03000000 ≤ off.toNat ∧ off.toNat < 0x03380000 ∧ off.toNat % 4 = 0 ∧
        regSpecAt off.toNat = some r ∧ off.toNat ∉ [R.CLS_STAT_CTL, R.FWD_STAT_CTL, R.BUF_STAT_CTL, R.SCH_STAT_CTL]) ∧
    (∃ (s : State) (f : Fin 6) (off : BitVec 26) (v : Word),
      s.access f.val (off.toNat / 4 * 4) = 2 ∧ regDefined f.val (off.toNat / 4 * 4) = true ∧
        s.poweredOff (off.toNat / 4 * 4) = false ∧ (0x1000 ≤ off.toNat / 4 * 4 ∧
        off.toNat / 4 * 4 < 0x2000 → (s.fn f.val).resetting = false)) ∧
    (∃ (s : State) (f : Fin 6) (off : BitVec 26) (v : Word) (be : BitVec 4),
      (s.access f.val (off.toNat / 4 * 4) = 1 ∨ s.access f.val (off.toNat / 4 * 4) = 0 ∨
        regDefined f.val (off.toNat / 4 * 4) = false ∨ be ≠ 0xF ∨ s.poweredOff (off.toNat / 4 * 4) = true) ∧
        (0x1000 ≤ off.toNat / 4 * 4 ∧ off.toNat / 4 * 4 < 0x2000 → (s.fn f.val).resetting = false)) ∧
    (∃ (s : State) (f : Fin 6) (off : BitVec 26) (v : Word) (be : BitVec 4),
      0x1000 ≤ off.toNat ∧ off.toNat < 0x2000 ∧ (s.fn f.val).resetting = true) ∧
    (∃ (s : State) (n : Fin 4) (v : Word),
      s.boot.mode = 2) ∧
    (∃ (s : State) (n : Fin 4) (v : Word),
      s.boot.mode = 2) ∧
    (∃ (s : State) (n : Fin 24) (v : Word),
      s.boot.mode = 2) ∧
    (∃ (s : State),
      s.boot.qspiOp = 0) ∧
    (∃ (s : State),
      s.boot.qspiOp ≠ 0) ∧
    (∃ (s : State),
      s.boot.qspiOp = 0 ∧ s.fld F.BOOT_QSPI_ADDR_ADDR % 256 = 0 ∧
        touchesMirror (s.fld F.BOOT_QSPI_ADDR_ADDR) 256 = false) ∧
    (∃ (s : State),
      s.boot.qspiOp ≠ 0 ∧ s.fld F.BOOT_QSPI_ADDR_ADDR % 256 = 0 ∧
        touchesMirror (s.fld F.BOOT_QSPI_ADDR_ADDR) 256 = false) ∧
    (∃ (s : State),
      (s.fld F.BOOT_QSPI_ADDR_ADDR % 256 ≠ 0 ∨ touchesMirror (s.fld F.BOOT_QSPI_ADDR_ADDR) 256 = true)) ∧
    (∃ (s : State),
      s.boot.qspiOp = 0 ∧ s.fld F.BOOT_QSPI_ADDR_ADDR % 65536 = 0 ∧
        touchesMirror (s.fld F.BOOT_QSPI_ADDR_ADDR) 65536 = false) ∧
    (∃ (s : State),
      s.boot.qspiOp ≠ 0 ∧ s.fld F.BOOT_QSPI_ADDR_ADDR % 65536 = 0 ∧
        touchesMirror (s.fld F.BOOT_QSPI_ADDR_ADDR) 65536 = false) ∧
    (∃ (s : State),
      (s.fld F.BOOT_QSPI_ADDR_ADDR % 65536 ≠ 0 ∨ touchesMirror (s.fld F.BOOT_QSPI_ADDR_ADDR) 65536 = true)) ∧
    (∃ (s : State) (f : Fin 6),
      f.val ≠ 0) ∧
    (∃ (s : State) (f : Fin 6),
      f.val ≠ 0) ∧
    (∃ (s : State) (f : Fin 6),
      f.val ≠ 0) ∧
    (∃ (s : State),
      s.boot.qspiOp = 1) ∧
    (∃ (s : State),
      s.boot.qspiOp = 2 ∧ touchesMirror s.boot.qspiAddr 256 = false) ∧
    (∃ (s : State),
      s.boot.qspiOp = 3 ∧ touchesMirror s.boot.qspiAddr 65536 = false) ∧
    (∃ (s : State),
      s.boot.qspiOp ≠ 0 ∧ s.boot.qspiWait = []) ∧
    (∃ (s : State) (op a : Nat) (l : List (Nat × Nat)),
      s.boot.qspiOp ≠ 0 ∧ s.boot.qspiWait = (op, a) :: l) ∧
    (∃ (s : State) (e : Bool),
      s.boot.qspiOp = 0 ∧ s.boot.qspiWait = []) ∧
    (∃ (s : State),
      s.jrn.mirrorDue = true ∧ s.boot.qspiOp = 0) ∧
    (∃ (s : State),
      s.jrn.mirrorDue = true ∧ s.boot.qspiOp = 0) ∧
    (∃ (s : State) (ok : Bool),
      (s.jrn.mirrorDue = false ∨ s.boot.qspiOp ≠ 0)) ∧
    (∃ (s : State) (f : Fin 6),
      f.val ≠ 0) :=
  ⟨⟨base, 3, BitVec.ofNat 26 R.CLS_CFG, 0xFFFFFFFF, (regSpecAt R.CLS_CFG).getD ⟨0, [], 0, 0, 0, 0, 0⟩,
    by decide +kernel⟩,
   ⟨base, 3, BitVec.ofNat 26 R.CLS_CFG, 5, by decide +kernel⟩,
   ⟨base, 3, BitVec.ofNat 26 R.CLS_CFG, 1, 3, by decide +kernel⟩,
   ⟨base.setFn 3 { resetting := true }, 3, 0x1018, 1, 3, by decide +kernel⟩,
   ⟨{ base with boot := { base.boot with mode := 2 } }, 2, 0xFFFFFFFF, by decide +kernel⟩,
   ⟨{ base with boot := { base.boot with mode := 2 } }, 2, 0xFFFFFFFF, by decide +kernel⟩,
   ⟨{ base with boot := { base.boot with mode := 2 } }, 7, 0xFFFFFFFF, by decide +kernel⟩,
   ⟨base, by decide +kernel⟩,
   ⟨base.setBoot { base.boot with qspiOp := 2 }, by decide +kernel⟩,
   ⟨base.wr R.BOOT_QSPI_ADDR 0x40000, by decide +kernel⟩,
   ⟨(base.wr R.BOOT_QSPI_ADDR 0x40000).setBoot { base.boot with qspiOp := 1 }, by decide +kernel⟩,
   ⟨base.wr R.BOOT_QSPI_ADDR 0x20000, by decide +kernel⟩,
   ⟨base.wr R.BOOT_QSPI_ADDR 0x40000, by decide +kernel⟩,
   ⟨(base.wr R.BOOT_QSPI_ADDR 0x40000).setBoot { base.boot with qspiOp := 1 }, by decide +kernel⟩,
   ⟨base.wr R.BOOT_QSPI_ADDR 0x40100, by decide +kernel⟩,
   ⟨base, 4, by decide +kernel⟩,
   ⟨base, 4, by decide +kernel⟩,
   ⟨base, 4, by decide +kernel⟩,
   ⟨(base.setBoot { base.boot with qspiOp := 1, qspiAddr := 0x40000 }).setFlash 0x40005 0x12, by decide +kernel⟩,
   ⟨base.setBoot { base.boot with qspiOp := 2, qspiAddr := 0x40000 }, by decide +kernel⟩,
   ⟨base.setBoot { base.boot with qspiOp := 3, qspiAddr := 0x40000 }, by decide +kernel⟩,
   ⟨base.setBoot { base.boot with qspiOp := 3, qspiAddr := 0x40000 }, by decide +kernel⟩,
   ⟨base.setBoot { base.boot with qspiOp := 3, qspiAddr := 0x40000, qspiWait := [(1, 8)] }, 1, 8, [],
     by decide +kernel⟩,
   ⟨base, true, by decide +kernel⟩,
   ⟨base.journal 2 0 0 1 5 6, by decide +kernel⟩,
   ⟨base.journal 2 0 0 1 5 6, by decide +kernel⟩,
   ⟨base, true, by decide +kernel⟩,
   ⟨base, 4, by decide +kernel⟩⟩

end Sys2Proof.Tests

end
end

section
/-! SUPPORT. Direct writes of registers in recovery mode (R7, R314, R588). -/

namespace Sys2Proof.Machine

/-- The device in recovery mode, everything else at reset: no vector link port is enabled. -/
def recoveryReset : State := { State.reset with boot := { State.reset.boot with mode := 2 } }

/-- The families of registers that O60 lets a write of SVL_PORT_CFG change in recovery mode. -/
def portWriteFamilies : List (Nat → Nat) :=
  [R.BOND_SAT, fun _ => R.BUF_SAT, R.ETH_SAT, R.LANE_STATUS, fun i => R.LANE_TXFIR (i / 1024) (i % 1024),
    R.PON_RX_CFG, R.PON_STAT_SAT, R.PON_TC_SAT, fun _ => R.SCH_SAT, R.SVL_SAT]

/-- SVL_PORT_CFG of port 0 itself is in none of them. -/
theorem svlPortCfg_not_in_portWriteFamilies : ∀ g ∈ portWriteFamilies, ∀ i, g i ≠ R.SVL_PORT_CFG 0 := by
  simp only [portWriteFamilies, List.forall_mem_cons, R.BOND_SAT, R.BUF_SAT, R.ETH_SAT, R.LANE_STATUS, R.LANE_TXFIR,
    R.PON_RX_CFG, R.PON_STAT_SAT, R.PON_TC_SAT, R.SCH_SAT, R.SVL_SAT, R.SVL_PORT_CFG]
  refine ⟨?_, ?_, ?_, ?_, ?_, ?_, ?_, ?_, ?_, ?_, by simp⟩ <;> omega

theorem recoveryReset_portCfg : recoveryReset.rd (R.SVL_PORT_CFG 0) = 0 := by decide +kernel

/-- Function 2 writes LINES 5 to SVL_PORT_CFG of port 0: recovery mode holds ENABLE alone at 0, so the port takes the value
as it is. -/
theorem registerWrite_portCfg_in_recovery :
    exec (.registerWrite 2 (BitVec.ofNat 26 (R.SVL_PORT_CFG 0)) 0x00050000 0xF) recoveryReset =
      .next (recoveryReset.setPortCfg 0 0x00050000) := by
  rw [exec_registerWrite]
  with_unfolding_all rfl

theorem setPortCfg_stores_lines :
    (recoveryReset.setPortCfg 0 0x00050000).rd (R.SVL_PORT_CFG 0) = 0x00050000 := by decide +kernel

/-- Refutes O60: its clause for SVL_PORT_CFG in recovery mode keeps every register outside a list of families, and the list
leaves out SVL_PORT_CFG itself (the clauses for PON_RX_CFG and ETH_CFG name the register they write). A write of LINES 5 to
port 0 of the device in recovery mode, otherwise at reset, changes that register from 0 to 0x00050000. -/
theorem not_registersFlashAndJournalAreWritten : ¬ Obligations.RegistersFlashAndJournalAreWritten := by
  unfold Obligations.RegistersFlashAndJournalAreWritten
  rintro ⟨-, -, -, -, -, -, -, -, -, hport, -⟩
  obtain ⟨t, hexec, -, hkept, -⟩ := hport recoveryReset 0 0x00050000 rfl
  have hsame : t.rd (R.SVL_PORT_CFG 0) = 0 :=
    (hkept _ svlPortCfg_not_in_portWriteFamilies).trans recoveryReset_portCfg
  obtain rfl : recoveryReset.setPortCfg 0 0x00050000 = t :=
    Host.Outcome.next.inj (registerWrite_portCfg_in_recovery.symm.trans hexec)
  exact absurd (hsame.symm.trans setPortCfg_stores_lines) (by decide)

end Sys2Proof.Machine
end

section
/-! SUPPORT. The state after reset (R26, R34, R578). -/

namespace Sys2Proof.Machine

theorem reset_tick_legal : State.reset.tick.legal := by
  refine ⟨rfl, ?_, ?_⟩ <;> decide

/-- Settles O4: the memories are canonical by reset_mem_wf, and no register or counter is listed, so each reads its default. -/
theorem resetStateIsCanonicalAndAtZero : Obligations.ResetStateIsCanonicalAndAtZero := by
  unfold Obligations.ResetStateIsCanonicalAndAtZero
  exact ⟨rfl, reset_mem_wf, rfl, reset_tick_legal, rfl, rfl, rfl, rfl,
    fun o => sparseGet_nil regReset o, fun c => sparseGet_nil (fun _ => 0) c.off⟩

end Sys2Proof.Machine
end

section
/-! SUPPORT. The arbiter's choice (R23, R25): what the lowest severity and the next source ID are, and which of them the
arbiter takes. -/

namespace Sys2Proof.Machine

theorem lowestSev_le {cs : List (Nat × Nat)} {k w : Nat} (h : (k, w) ∈ cs) : lowestSev cs ≤ w := by
  induction cs with
  | nil => cases h
  | cons c cs ih =>
    rcases List.mem_cons.mp h with rfl | h
    · exact Nat.min_le_left _ _
    · exact (Nat.min_le_right _ _).trans (ih h)

theorem le_of_nextAbove_eq_none {b : Nat} {ks : List Nat} (h : nextAbove b ks = none) : ∀ k ∈ ks, k ≤ b := by
  induction ks with
  | nil => simp
  | cons k ks ih =>
    simp only [nextAbove] at h
    split at h
    next hrest =>
      have hk : ¬ b < k := by simpa using h
      exact List.forall_mem_cons.mpr ⟨by omega, ih hrest⟩
    next => split at h <;> cases h

/-- The smallest number above the bound lies in the list, and nothing in the list lies between. -/
theorem nextAbove_eq_some {b m : Nat} {ks : List Nat} (h : nextAbove b ks = some m) :
    m ∈ ks ∧ b < m ∧ ∀ k ∈ ks, b < k → m ≤ k := by
  induction ks generalizing m with
  | nil => cases h
  | cons k ks ih =>
    simp only [nextAbove] at h
    split at h
    next hrest =>
      have hle := le_of_nextAbove_eq_none hrest
      split at h <;> cases h
      refine ⟨List.mem_cons_self, ‹_›, List.forall_mem_cons.mpr ⟨fun _ => le_rfl, fun j hj hb => ?_⟩⟩
      have := hle j hj
      omega
    next n hrest =>
      obtain ⟨hmem, hb, hmin⟩ := ih hrest
      split at h <;> cases h
      next hk =>
        exact ⟨List.mem_cons_self, hk.1, List.forall_mem_cons.mpr
          ⟨fun _ => le_rfl, fun j hj hbj => hk.2.le.trans (hmin j hj hbj)⟩⟩
      next hk =>
        exact ⟨List.mem_cons_of_mem _ hmem, hb, List.forall_mem_cons.mpr ⟨fun hbk => by omega, hmin⟩⟩

/-- The sources that compete with the lowest severity number. -/
def Arbiter.lowestIds (a : Arbiter) : List Nat :=
  (a.contenders.filter (fun p => p.2 == lowestSev a.contenders)).map (·.1)

theorem Arbiter.mem_lowestIds {a : Arbiter} {k : Nat} :
    k ∈ a.lowestIds ↔ (k, lowestSev a.contenders) ∈ a.contenders := by
  simp [Arbiter.lowestIds]

/-- Which of the sources of the lowest severity the arbiter takes: the next above the last granted, else the next above 0,
else source 0. -/
theorem Arbiter.choose_cases {a : Arbiter} {src : Nat} (h : a.choose = some src) :
    src ∈ a.lowestIds ∧ (nextAbove a.last a.lowestIds = some src ∨ nextAbove a.last a.lowestIds = none ∧
      (nextAbove 0 a.lowestIds = some src ∨ nextAbove 0 a.lowestIds = none)) := by
  simp only [Arbiter.choose] at h
  split at h
  next k hk => cases h; exact ⟨(nextAbove_eq_some hk).1, .inl hk⟩
  next hlast =>
    split at h
    · cases h
    · split at h
      next k hk => cases h; exact ⟨(nextAbove_eq_some hk).1, .inr ⟨hlast, .inl hk⟩⟩
      next hzero => exact ⟨List.mem_of_mem_head? h, .inr ⟨hlast, .inr hzero⟩⟩

/-- Settles O2: the severity is the lowest by lowestSev_le, the place in the round by what nextAbove answers. -/
theorem arbiterGrantsTheLowestSeverityInRoundRobin : Obligations.ArbiterGrantsTheLowestSeverityInRoundRobin := by
  unfold Obligations.ArbiterGrantsTheLowestSeverityInRoundRobin
  intro a src hsrc
  obtain ⟨hmem, hround⟩ := Arbiter.choose_cases hsrc
  refine ⟨lowestSev a.contenders, Arbiter.mem_lowestIds.mp hmem, fun k w hk => lowestSev_le hk, ?_, ?_⟩ <;>
    simp only [← Arbiter.mem_lowestIds]
  · intro k hk hlt
    rcases hround with habove | ⟨hnone, -⟩
    · obtain ⟨-, hlast, hmin⟩ := nextAbove_eq_some habove
      exact ⟨hlast, hmin k hk hlt⟩
    · exact absurd hlt (Nat.not_lt.mpr (le_of_nextAbove_eq_none hnone k hk))
  · intro hall k hk hpos
    rcases hround with habove | ⟨-, habove | hnone⟩
    · obtain ⟨hsrcMem, hlast, -⟩ := nextAbove_eq_some habove
      exact absurd hlast (Nat.not_lt.mpr (hall src hsrcMem))
    · obtain ⟨-, -, hmin⟩ := nextAbove_eq_some habove
      exact hmin k hk hpos
    · exact absurd hpos (Nat.not_lt.mpr (le_of_nextAbove_eq_none hnone k hk))

end Sys2Proof.Machine
end

section
/-! SUPPORT. The checks of every command packet (R556 steps 1 to 5, R588). -/

namespace Sys2Proof.Machine

variable {op : Nat} {acc : Bool} {lenBad : Option Nat} {tgtOk : Bool} {body : Nat → State → BodyOut} {p : Pkt} {s : State}

theorem State.arbiterFree_of_no_requests (h : s.fwd.reqs = []) : s.arbiterFree = true := by
  rw [State.arbiterFree, h, List.isEmpty_nil]

/-- Every row of Table 20-6 runs its packet by runCmd; the commands that change the forwarding table do so once no request
is queued before them (R389). -/
theorem exec_packet_eq_runCmd {i : Instr} (h : packetOf i = some (op, p)) (hreqs : s.fwd.reqs = []) :
    ∃ acc lenBad tgtOk body, exec i s = runCmd op acc lenBad tgtOk body p s := by
  have hfree := State.arbiterFree_of_no_requests hreqs
  cases i with
  | fwdInsert q => cases h; rw [exec_fwdInsert, execFwdInsert, if_pos hfree]; exact ⟨_, _, _, _, rfl⟩
  | fwdDelete q => cases h; rw [exec_fwdDelete, execFwdDelete, if_pos hfree]; exact ⟨_, _, _, _, rfl⟩
  | flushPort q => cases h; rw [exec_flushPort, execFlushPort, if_pos hfree]; exact ⟨_, _, _, _, rfl⟩
  | floodSet q => cases h; rw [exec_floodSet, execFloodSet, if_pos hfree]; exact ⟨_, _, _, _, rfl⟩
  | vgDefine q => cases h; dsimp only [exec_vgDefine, execVgDefine]; exact ⟨_, _, _, _, rfl⟩
  | vgLadder q => cases h; dsimp only [exec_vgLadder, execVgLadder]; exact ⟨_, _, _, _, rfl⟩
  | journalRead q => cases h; dsimp only [exec_journalRead, execJournalRead]; exact ⟨_, _, _, _, rfl⟩
  | cntClear q grp => cases h; dsimp only [exec_cntClear, execCntClear]; exact ⟨_, _, _, _, rfl⟩
  | _ => cases h <;> (delta exec; exact ⟨_, _, _, _, rfl⟩)

/-- A failing check ends a command that recovery mode serves as it does in normal operation. -/
theorem runCmd_refused_of_served {r : CmdEnd} (h : s.mayBegin op p = true)
    (hm : s.boot.mode = 1 ∨ (s.boot.mode = 2 ∧ recoveryServes op p.func.val = true))
    (hc : checkPkt op p (s.pastRingEnd p) lenBad tgtOk = some r) :
    runCmd op acc lenBad tgtOk body p s = .next ((s.afterTake p).endCmd (p.echo op) r) := by
  rcases hm with hm | ⟨hm, hserves⟩
  · exact runCmd_refused h hm hc
  · simp [runCmd, h, State.afterTake, State.takePkt, hm, hserves, hc]

/-- Settles O3: every row is a runCmd, whose first failing check is found by the order of checkPkt. -/
theorem firstFailingCheckEndsTheCommandAlone : Obligations.FirstFailingCheckEndsTheCommandAlone := by
  unfold Obligations.FirstFailingCheckEndsTheCommandAlone
  constructor
  · intro i op p s hi hbegin hmode hserves hreqs
    obtain ⟨acc, lenBad, tgtOk, body, hexec⟩ := exec_packet_eq_runCmd hi hreqs
    exact hexec.trans (runCmd_recovery hbegin hmode hserves)
  · intro i op p s hi hbegin hmode hreqs
    obtain ⟨acc, lenBad, tgtOk, body, hexec⟩ := exec_packet_eq_runCmd hi hreqs
    have hends : ∀ r, checkPkt op p (s.pastRingEnd p) lenBad tgtOk = some r →
        exec i s = .next ((s.afterTake p).endCmd (p.echo op) r) :=
      fun r hc => hexec.trans (runCmd_refused_of_served hbegin hmode hc)
    refine ⟨fun hv => hends _ ?version, fun hv hf => hends _ ?flags, fun hv hf hl => hends _ ?length,
      fun hv hf hl he hg => hends _ ?group, fun hv hf hl he hg ho => hends _ ?owner⟩
    case version => simp [checkPkt, hv]
    case flags => simp [checkPkt, hv, hf]
    case length => simp [checkPkt, hv, hf, hl]
    case group => simp [checkPkt, hv, hf, Nat.not_lt.mpr hl, he, hg]
    case owner => simp [checkPkt, hv, hf, Nat.not_lt.mpr hl, he, hg, ho]

end Sys2Proof.Machine
end

section
/-! SUPPORT. What the operations on events keep of the arbiter (R22 to R29): raising, storing and completing grant nothing and
take no event out of its place. -/

namespace Sys2Proof.Machine

/-- From s to t the arbiter grants nothing, and every source keeps the events in its places, in order. -/
structure RaisesOnly (s t : State) : Prop where
  seq : t.arb.seq = s.arb.seq
  last : t.arb.last = s.arb.last
  lastCycle : t.arb.lastCycle = s.arb.lastCycle
  queue : ∀ src, (s.source src).queue <+: (t.source src).queue

variable {s t u : State}

theorem RaisesOnly.of_arb_eq (h : t.arb = s.arb) : RaisesOnly s t :=
  ⟨by rw [h], by rw [h], by rw [h], fun src => by simp [State.source, h]⟩

theorem RaisesOnly.trans (h : RaisesOnly s t) (h' : RaisesOnly t u) : RaisesOnly s u :=
  ⟨h'.seq.trans h.seq, h'.last.trans h.last, h'.lastCycle.trans h.lastCycle,
    fun src => (h.queue src).trans (h'.queue src)⟩

/-- What comes before leaves the arbiter alone. -/
theorem RaisesOnly.after (h : RaisesOnly t u) (harb : t.arb = s.arb) : RaisesOnly s u :=
  (RaisesOnly.of_arb_eq harb).trans h

variable (s)

/-- A source that only gains events. -/
theorem RaisesOnly.setSource {src : Nat} {q : EvSource} (h : (s.source src).queue <+: q.queue) :
    RaisesOnly s (s.setSource src q) := by
  refine ⟨rfl, rfl, rfl, fun k => ?_⟩
  rw [State.source_setSource]
  split
  next hk => rw [hk]; exact h
  next => exact List.prefix_rfl

theorem State.raise_raisesOnly (src sev code func : Nat) (payload : List Byte) :
    RaisesOnly s (s.raise src sev code func payload) := by
  unfold State.raise
  dsimp only
  split
  · exact .setSource s List.prefix_rfl
  · have h := RaisesOnly.setSource s (src := src)
      (q := { s.source src with queue := (s.source src).queue ++ [⟨sev, code, func, payload, s.arb.raised⟩] })
      (List.prefix_append _ _)
    exact ⟨rfl, rfl, rfl, h.queue⟩

theorem State.raiseRow_raisesOnly (src sev c r func : Nat) (fs : List (Nat × Nat)) :
    RaisesOnly s (s.raiseRow src sev c r func fs) := s.raise_raisesOnly _ _ _ _ _

theorem State.bump_raisesOnly (c : Ctr) : RaisesOnly s (s.bump c) := by
  unfold State.bump State.bumpBy
  dsimp only
  split_ifs
  · exact .of_arb_eq rfl
  · exact .of_arb_eq rfl
  · exact .of_arb_eq rfl
  · exact (State.raise_raisesOnly _ _ _ _ _ _).after rfl

theorem State.raiseCompleted_raisesOnly (e : Echo) (id status detail : Nat) :
    RaisesOnly s (s.raiseCompleted e id status detail)  := by
  unfold State.raiseCompleted
  exact .trans (.after (State.raise_raisesOnly _ _ _ _ _ _) s.nextFree_arb) (.of_arb_eq (State.setFn_arb _ _ _))

theorem State.releaseDeferred_raisesOnly (ds : List DeferredEv) : RaisesOnly s (s.releaseDeferred ds) := by
  induction ds generalizing s with
  | nil => exact .of_arb_eq rfl
  | cons d ds ih =>
    refine RaisesOnly.trans ?_ (ih _)
    split
    · exact s.raiseCompleted_raisesOnly _ _ _ _
    · exact ⟨rfl, rfl, rfl, fun _ => List.prefix_rfl⟩

theorem State.granted_raisesOnly (f no : Nat) : RaisesOnly s (s.granted f no) := by
  unfold State.granted
  refine RaisesOnly.trans ?_ (State.releaseDeferred_raisesOnly _ _)
  exact ⟨rfl, rfl, rfl, fun _ => List.prefix_rfl⟩

theorem State.tellLost_raisesOnly (f : Nat) : RaisesOnly s (s.tellLost f) := by
  unfold State.tellLost
  dsimp only
  split
  · exact .after (State.raiseRow_raisesOnly _ _ _ _ _ _ _) (State.setFn_arb _ _ _)
  · exact .of_arb_eq rfl

end Sys2Proof.Machine
end

section
/-! SUPPORT. The sequence number through the resets of the functions (R26, R574, R575). -/

namespace Sys2Proof.Machine

/-- A step that keeps the sequence number keeps it along a list. -/
theorem foldl_arb_seq {α : Type} {g : State → α → State} (h : ∀ u a, (g u a).arb.seq = u.arb.seq) (l : List α)
    (s : State) : (l.foldl g s).arb.seq = s.arb.seq := by
  induction l generalizing s with
  | nil => rfl
  | cons a l ih => exact (ih _).trans (h s a)

variable (s : State)

@[simp] theorem State.raiseRow_arb_seq (src sev c r func : Nat) (fs : List (Nat × Nat)) :
    (s.raiseRow src sev c r func fs).arb.seq = s.arb.seq := (s.raiseRow_raisesOnly src sev c r func fs).seq

@[simp] theorem State.bump_arb_seq (c : Ctr) : (s.bump c).arb.seq = s.arb.seq := (s.bump_raisesOnly c).seq

@[simp] theorem State.releaseDeferred_arb_seq (ds : List DeferredEv) :
    (s.releaseDeferred ds).arb.seq = s.arb.seq := (s.releaseDeferred_raisesOnly ds).seq

@[simp] theorem State.tellLost_arb_seq (f : Nat) : (s.tellLost f).arb.seq = s.arb.seq := (s.tellLost_raisesOnly f).seq

@[simp] theorem State.setAcct_arb_seq (acct cause : Nat) : (s.setAcct acct cause).arb.seq = s.arb.seq := by
  unfold State.setAcct
  dsimp only
  split <;> simp

@[simp] theorem State.rejectReq_arb_seq (id kind agent inst : Nat) :
    (s.rejectReq id kind agent inst).arb.seq = s.arb.seq := by
  unfold State.rejectReq
  split <;> simp

@[simp] theorem State.freeBuf_arb_seq (id agent inst : Nat) : (s.freeBuf id agent inst).arb.seq = s.arb.seq := by
  unfold State.freeBuf
  dsimp only
  split_ifs <;> simp

@[simp] theorem State.finishDest_arb_seq (id agent inst : Nat) :
    (s.finishDest id agent inst).arb.seq = s.arb.seq := by
  unfold State.finishDest
  dsimp only
  split_ifs <;> simp

@[simp] theorem State.dropFront_arb_seq (q : Nat) : (s.dropFront q).arb.seq = s.arb.seq := by
  unfold State.dropFront
  dsimp only
  split <;> simp

@[simp] theorem State.resetQueues_arb_seq (f : Nat) : (s.resetQueues f).arb.seq = s.arb.seq := by
  unfold State.resetQueues
  refine foldl_arb_seq (fun u q => ?_) _ _
  dsimp only
  repeat' split
  all_goals simp

@[simp] theorem State.endRequest_arb_seq (desc : List Byte) (e : RqEnd) :
    (s.endRequest desc e).arb.seq = s.arb.seq := by
  unfold State.endRequest
  dsimp only
  split_ifs <;> simp

@[simp] theorem State.clearRings_arb_seq (f : Nat) : (s.clearRings f).arb.seq = s.arb.seq := by
  simp [State.clearRings]

@[simp] theorem State.suppressDone_arb_seq (f : Nat) : (s.suppressDone f).arb.seq = s.arb.seq := by
  simp [State.suppressDone]

@[simp] theorem State.resetVector_arb_seq : (s.resetVector).arb.seq = s.arb.seq := by
  simp [State.resetVector, State.setRunning, State.mapEngs]

@[simp] theorem State.resetPacket_arb_seq : (s.resetPacket).arb.seq = s.arb.seq := by
  have hwalks : ((List.range 4).foldl (fun u i => u.setWalk i none) s.clsAbort).arb.seq = s.arb.seq :=
    foldl_arb_seq (g := fun u i => u.setWalk i none) (fun _ _ => rfl) _ _
  unfold State.resetPacket
  dsimp only
  split_ifs <;> simp [hwalks]

@[simp] theorem State.resetCipher_arb_seq (reqs : List (List Byte)) : (s.resetCipher reqs).arb.seq = s.arb.seq := by
  have hdone := foldl_arb_seq (fun (u : State) i => u.endRequest_arb_seq ((reqs[i]?).getD []) { result := 6 })
    (List.range s.rqPosted) s
  unfold State.resetCipher
  dsimp only
  rw [foldl_arb_seq fun u i => congrArg Arbiter.seq (u.wr_arb (R.CIPH_KEY_DATA i) 0)]
  simpa using hdone

@[simp] theorem State.resetEffects_arb_seq (f : Nat) (reqs : List (List Byte)) :
    (s.resetEffects f reqs).arb.seq = s.arb.seq := by
  unfold State.resetEffects
  dsimp only
  split <;> simp

@[simp] theorem State.resetFunction_arb_seq (f : Nat) (reqs : List (List Byte)) :
    (s.resetFunction f reqs).arb.seq = s.arb.seq := by
  unfold State.resetFunction
  dsimp only
  split <;> simp

end Sys2Proof.Machine
end

section
/-! SUPPORT. The arbiter's grant and the functions' event stores (R22 to R29, R565 to R569). -/

namespace Sys2Proof.Machine

variable {s t : State}

theorem Completes.imp {i : Instr} {P Q : State → Prop} (h : Completes i s P) (hPQ : ∀ t, P t → Q t) :
    Completes i s Q := by
  obtain ⟨t, ht, hP⟩ := h
  exact ⟨t, ht, hPQ t hP⟩

/-- A state that differs in the arbiter, the functions, the free values and the outputs alone changes those of them that
differ. -/
theorem OnlyChanges.of_event_parts {ps : List Part} {a : Arbiter} {f : Sparse HostFn} {n : Nat} {o : List Output}
    (ht : t = { s with arb := a, fns := f, freeCtr := n, out := o }) (harb : .arb ∉ ps → a = s.arb := by simp)
    (hfns : .fns ∉ ps → f = s.fns := by simp) (hfree : .freeCtr ∉ ps → n = s.freeCtr := by simp)
    (hout : .out ∉ ps → o = s.out := by simp) : OnlyChanges ps s t := by
  subst ht
  intro x hx
  cases x with
  | arb => exact harb hx
  | fns => exact hfns hx
  | freeCtr => exact hfree hx
  | out => exact hout hx
  | _ => rfl

/-! The record that a new one displaces (R569). -/

theorem displaced_eq_none_iff {sev : Nat} {rs : List EvRec} :
    displaced sev rs = none ↔ ∀ y ∈ rs, y.sev ≤ sev := by
  induction rs with
  | nil => simp [displaced]
  | cons r rs ih =>
    rw [List.forall_mem_cons, ← ih, displaced]
    split
    next hrest => simp [hrest]
    next m hrest => split <;> simp [hrest]

/-- The displaced record is stored, its severity number is above the new one's, and no stored one's is higher. -/
theorem displaced_eq_some {sev : Nat} {rs : List EvRec} {x : EvRec} (h : displaced sev rs = some x) :
    x ∈ rs ∧ sev < x.sev ∧ ∀ y ∈ rs, y.sev ≤ x.sev := by
  induction rs generalizing x with
  | nil => cases h
  | cons r rs ih =>
    rw [displaced] at h
    split at h
    next hrest =>
      have hle := displaced_eq_none_iff.mp hrest
      split at h <;> cases h
      next hr =>
        exact ⟨List.mem_cons_self, hr, List.forall_mem_cons.mpr ⟨le_rfl, fun y hy => (hle y hy).trans hr.le⟩⟩
    next m hrest =>
      obtain ⟨hmem, hsev, hmax⟩ := ih hrest
      split at h <;> cases h
      next hr =>
        have hm : m.sev ≤ r.sev := by omega
        exact ⟨List.mem_cons_self, hr.1, List.forall_mem_cons.mpr ⟨le_rfl, fun y hy => (hmax y hy).trans hm⟩⟩
      next hr => exact ⟨List.mem_cons_of_mem _ hmem, hsev, List.forall_mem_cons.mpr ⟨by omega, hmax⟩⟩

/-! A record enters its function's store (R568, R569). -/

/-- The record r enters its function's store, which is then that of h; nothing else changes. -/
structure State.StoresAs (s : State) (r : EvRec) (h : HostFn) : Prop where
  only : ∃ a, s.storeEvent r = { s with fns := a }
  fn : (s.storeEvent r).fn r.func = h

theorem State.StoresAs.of_setFn {r : EvRec} {h : HostFn} (heq : s.storeEvent r = s.setFn r.func h) : s.StoresAs r h :=
  ⟨⟨_, heq⟩, by rw [heq, State.fn_setFn, if_pos rfl]⟩

theorem State.storesAs_of_room {r : EvRec} (h : (s.fn r.func).store.length < 1024) :
    s.StoresAs r { s.fn r.func with store := (s.fn r.func).store ++ [r] } :=
  .of_setFn (if_pos h)

/-- Below its saturation HOST_EVT_LOST counts the lost record (R569). -/
theorem State.loseEvent_of_unsaturated {f sev : Nat} (h : (s.fn f).evtLost < 0xFFFFFFFE) :
    s.loseEvent f sev = s.setFn f { s.fn f with
      evtLost := (s.fn f).evtLost + 1, lostCount := (s.fn f).lostCount + 1, lostSev := min (s.fn f).lostSev sev } := by
  have hmin : min ((s.fn f).evtLost + 1) 0xFFFFFFFF = (s.fn f).evtLost + 1 := by omega
  have hsat : ((s.fn f).evtLost + 1 == 0xFFFFFFFF) = false := by rw [beq_eq_false_iff_ne]; omega
  simp [State.loseEvent, hmin, hsat]

theorem State.storesAs_of_displaced {r x : EvRec} (hfull : 1024 ≤ (s.fn r.func).store.length)
    (hx : displaced r.sev (s.fn r.func).store = some x) (hlost : (s.fn r.func).evtLost < 0xFFFFFFFE) :
    s.StoresAs r { s.fn r.func with
      store := (s.fn r.func).store.filter (fun y => y != x) ++ [r], evtLost := (s.fn r.func).evtLost + 1
      lostCount := (s.fn r.func).lostCount + 1, lostSev := min (s.fn r.func).lostSev x.sev } := by
  have heq : s.storeEvent r = (s.setFn r.func
      { s.fn r.func with store := (s.fn r.func).store.filter (fun y => y != x) ++ [r] }).loseEvent r.func x.sev := by
    simp [State.storeEvent, Nat.not_lt.mpr hfull, hx]
  rw [State.loseEvent_of_unsaturated (by rw [State.fn_setFn, if_pos rfl]; exact hlost)] at heq
  exact ⟨⟨_, heq⟩, by simp [heq]⟩

theorem State.storesAs_of_discarded {r : EvRec} (hfull : 1024 ≤ (s.fn r.func).store.length)
    (hsev : ∀ y ∈ (s.fn r.func).store, y.sev ≤ r.sev) (hlost : (s.fn r.func).evtLost < 0xFFFFFFFE) :
    s.StoresAs r { s.fn r.func with
      evtLost := (s.fn r.func).evtLost + 1, lostCount := (s.fn r.func).lostCount + 1
      lostSev := min (s.fn r.func).lostSev r.sev } := by
  have heq : s.storeEvent r = s.loseEvent r.func r.sev := by
    simp [State.storeEvent, Nat.not_lt.mpr hfull, displaced_eq_none_iff.mpr hsev]
  exact .of_setFn (heq.trans (State.loseEvent_of_unsaturated hlost))

/-! After a grant the completions that waited for it are raised (R557, R559): of a function they change the accepted commands
alone. -/

theorem State.fn_raiseCompleted (e : Echo) (id status detail g : Nat) :
    ∃ acc, (s.raiseCompleted e id status detail).fn g = { s.fn g with accepted := acc } := by
  have hfn : ∀ f, ((s.nextFree).raise (0x00D0 + (Config.freeCore s.freeCtr).val) 3 0x0003 e.func
      (evPayload [(2, e.op), (2, e.seq), (1, status), (4, detail), (4, e.cookie)])).fn f = s.fn f :=
    fun f => by simp [State.fn]
  unfold State.raiseCompleted
  dsimp only
  rw [State.fn_setFn]
  split
  next hg => exact ⟨_, by rw [hfn, hg]⟩
  next => exact ⟨_, by rw [hfn]⟩

theorem State.fn_releaseDeferred (ds : List DeferredEv) (g : Nat) :
    ∃ acc, (s.releaseDeferred ds).fn g = { s.fn g with accepted := acc } := by
  induction ds generalizing s with
  | nil => exact ⟨_, rfl⟩
  | cons d ds ih =>
    rw [State.releaseDeferred]
    split
    · obtain ⟨acc, h⟩ := ih (s := s.raiseCompleted d.echo d.id d.status d.detail)
      obtain ⟨acc', h'⟩ := s.fn_raiseCompleted d.echo d.id d.status d.detail g
      exact ⟨acc, by rw [h, h']⟩
    · exact ih

theorem State.fn_granted (f no g : Nat) : ∃ acc, (s.granted f no).fn g = { s.fn g with accepted := acc } := by
  unfold State.granted
  dsimp only
  obtain ⟨acc, h⟩ := State.fn_releaseDeferred (s := ({ s with arb := { s.arb with deferred := [] } } : State).setFn f
    { s.fn f with accepted := (s.fn f).accepted.filter (fun a => a.evNo != some no) })
    (s.arb.deferred.map (fun d => { d with waits := d.waits.filter (· != no) })) g
  rw [State.fn_setFn] at h
  refine ⟨acc, h.trans ?_⟩
  split
  next hg => rw [hg]
  next => rfl

/-! The grant (R22 to R26, R29). -/

/-- The arbiter has granted source src in a CTL cycle. -/
def State.grantTo (s : State) (src cycle : Nat) : State :=
  { s with arb := { s.arb with last := src, lastCycle := some cycle, seq := s.arb.seq + 1 } }

/-- The record of an event that the arbiter grants now (Table 20-7). -/
def State.eventRec (s : State) (src : Nat) (e : Ev) : EvRec :=
  ⟨s.arb.seq, s.tick.count.setWidth 32, src, e.code, e.sev, e.func, e.payload⟩

/-- The record of the overflow event that a source owes (R29). -/
def State.overflowRec (s : State) (src : Nat) : EvRec :=
  ⟨s.arb.seq, s.tick.count.setWidth 32, src, 0x0001, 1, sourceOwner src, evPayload [(4, (s.source src).discarded)]⟩

/-- The state in which the granted event of src has left its place. -/
def State.taken (s : State) (src cycle : Nat) (es : List Ev) : State :=
  (s.grantTo src cycle).setSource src { s.source src with queue := es }

/-- The state in which src owes no overflow event any more. -/
def State.told (s : State) (src cycle : Nat) : State :=
  (s.grantTo src cycle).setSource src { s.source src with discarded := 0 }

/-- The state after the grant of source src: an owed overflow event goes before the events in the source's places. -/
def State.granting (s : State) (src cycle : Nat) : State :=
  if 0 < (s.source src).discarded then (s.told src cycle).storeEvent (s.overflowRec src)
  else
    match (s.source src).queue with
    | [] => s.grantTo src cycle
    | e :: es => ((s.taken src cycle es).storeEvent (s.eventRec src e)).granted e.func e.no

section
variable {cycle src : Nat}

/-- At least 4 cycles after the grant before, the chosen source is granted (R22). -/
theorem exec_eventGrant_chosen (hsrc : s.arb.choose = some src)
    (hearly : s.arb.lastCycle.all (fun c => decide (c + 4 ≤ cycle)) = true) :
    exec (.eventGrant cycle) s = .next (s.granting src cycle) := by
  rw [exec_eventGrant, execEventGrant, State.granting]
  cases hlast : s.arb.lastCycle with
  | none =>
    simp only [hsrc]
    split_ifs
    · rfl
    · cases (s.source src).queue <;> rfl
  | some c =>
    have hlate : decide (cycle < c + 4) = false := by simpa [hlast] using hearly
    simp only [hsrc, hlate]
    split_ifs
    · rfl
    · cases (s.source src).queue <;> rfl

/-- The grant of an event whose record enters the store of its function as in h. -/
theorem eventGrant_event {e : Ev} {es : List Ev} {h : HostFn} (hsrc : s.arb.choose = some src)
    (hearly : s.arb.lastCycle.all (fun c => decide (c + 4 ≤ cycle)) = true) (hq : (s.source src).queue = e :: es)
    (hd : (s.source src).discarded = 0) (hst : (s.taken src cycle es).StoresAs (s.eventRec src e) h) :
    Completes (.eventGrant cycle) s fun t =>
      t.arb.seq = s.arb.seq + 1 ∧ t.arb.last = src ∧ t.arb.lastCycle = some cycle ∧ es <+: (t.source src).queue ∧
      (∃ acc, t.fn e.func = { h with accepted := acc }) ∧ OnlyChanges [.arb, .fns, .freeCtr] s t := by
  refine ⟨_, exec_eventGrant_chosen hsrc hearly, ?_⟩
  rw [State.granting, if_neg (by omega), hq]
  dsimp only
  obtain ⟨⟨a, hstore⟩, hfn⟩ := hst
  have hraises := ((s.taken src cycle es).storeEvent (s.eventRec src e)).granted_raisesOnly e.func e.no
  have harb : ((s.taken src cycle es).storeEvent (s.eventRec src e)).arb = (s.taken src cycle es).arb := by rw [hstore]
  have hqueue : ((s.taken src cycle es).storeEvent (s.eventRec src e)).source src =
      { s.source src with queue := es } := by
    rw [State.source, harb]
    exact (State.source_setSource _ _ _ _).trans (if_pos rfl)
  refine ⟨hraises.seq.trans (by rw [harb]; rfl), hraises.last.trans (by rw [harb]; rfl),
    hraises.lastCycle.trans (by rw [harb]; rfl), ?_, ?_, ?_⟩
  · simpa [hqueue] using hraises.queue src
  · rw [← hfn]
    exact State.fn_granted _ _ _
  · obtain ⟨n, f, b, hgranted⟩ := ((s.taken src cycle es).storeEvent (s.eventRec src e)).granted_only e.func e.no
    exact .of_event_parts (hgranted.trans (by rw [hstore]; rfl)) (hout := fun _ => rfl)

/-- The grant of an overflow event whose record enters the store of its function as in h. -/
theorem eventGrant_overflow {h : HostFn} (hsrc : s.arb.choose = some src)
    (hearly : s.arb.lastCycle.all (fun c => decide (c + 4 ≤ cycle)) = true) (hd : 0 < (s.source src).discarded)
    (hst : (s.told src cycle).StoresAs (s.overflowRec src) h) :
    Completes (.eventGrant cycle) s fun t =>
      t.arb.seq = s.arb.seq + 1 ∧ t.arb.last = src ∧ t.arb.lastCycle = some cycle ∧
      t.source src = { s.source src with discarded := 0 } ∧ t.fn (sourceOwner src) = h ∧ OnlyChanges [.arb, .fns] s t := by
  refine ⟨_, exec_eventGrant_chosen hsrc hearly, ?_⟩
  rw [State.granting, if_pos hd]
  obtain ⟨⟨a, hstore⟩, hfn⟩ := hst
  have hsource : (s.told src cycle).source src = { s.source src with discarded := 0 } :=
    (State.source_setSource _ _ _ _).trans (if_pos rfl)
  refine ⟨by rw [hstore]; rfl, by rw [hstore]; rfl, by rw [hstore]; rfl, ?_, hfn, ?_⟩
  · rw [hstore]; exact hsource
  · exact .of_event_parts (hstore.trans rfl) (hfree := fun _ => rfl) (hout := fun _ => rfl)

/-- Too early after the grant before, or with no source that competes, nothing happens (R22). -/
theorem exec_eventGrant_idle
    (h : s.arb.lastCycle.any (fun c => decide (cycle < c + 4)) = true ∨ s.arb.choose = none) :
    exec (.eventGrant cycle) s = .next s := by
  rw [exec_eventGrant, execEventGrant]
  rcases h with h | h
  · cases hlast : s.arb.lastCycle with
    | none => simp [hlast] at h
    | some c =>
      have hearly : cycle < c + 4 := by simpa [hlast] using h
      simp [hearly]
  · simp only [h]
    split
    · rfl
    · rfl
    · contradiction
end

end Sys2Proof.Machine
end

section
/-! SUPPORT. The event ring, its notices and the reply ring (R554, R558, R565, R568, R569). -/

namespace Sys2Proof.Machine

variable {s t : State}

/-! The record that leaves the store next (R568). -/

theorem nextRecord_eq_none {rs : List EvRec} (h : nextRecord rs = none) : rs = [] := by
  cases rs with
  | nil => rfl
  | cons r rs =>
    rw [nextRecord] at h
    split at h
    · cases h
    · split at h <;> cases h

/-- It is stored, and no stored record's severity number is lower. -/
theorem nextRecord_eq_some {rs : List EvRec} {r : EvRec} (h : nextRecord rs = some r) :
    r ∈ rs ∧ ∀ y ∈ rs, r.sev ≤ y.sev := by
  induction rs generalizing r with
  | nil => cases h
  | cons x rs ih =>
    rw [nextRecord] at h
    split at h
    next hrest =>
      cases h
      rw [nextRecord_eq_none hrest]
      simp
    next m hrest =>
      obtain ⟨hmem, hmin⟩ := ih hrest
      split at h <;> cases h
      next hx =>
        have hm : x.sev ≤ m.sev := by omega
        exact ⟨List.mem_cons_self, List.forall_mem_cons.mpr ⟨le_rfl, fun y hy => hm.trans (hmin y hy)⟩⟩
      next hx => exact ⟨List.mem_cons_of_mem _ hmem, List.forall_mem_cons.mpr ⟨by omega, hmin⟩⟩

/-- A store loses a record that leaves it. -/
theorem length_filter_bne_lt {rs : List EvRec} {r : EvRec} (h : r ∈ rs) :
    (rs.filter (fun y => y != r)).length < rs.length :=
  List.length_filter_lt_length_iff_exists.mpr ⟨r, h, by simp⟩

/-! The register fields depend on the registers alone. -/

theorem State.fld_of_regs_eq (h : t.regs = s.regs) (f : Fld) : t.fld f = s.fld f := by
  simp only [State.fld, State.rd, h]

theorem State.flag_of_regs_eq (h : t.regs = s.regs) (f : Fld) : t.flag f = s.flag f := by
  simp only [State.flag, State.fld_of_regs_eq h]

/-- The write-back tells the function's indices (R554). -/
theorem State.writeBack_eq (f : Nat) : s.writeBack f = s.emit (.hostWrite f (s.addr64 (R.HOST_WB_LO f) (R.HOST_WB_HI f))
    (leBytes 4 (s.fn f).cmdHead.toNat ++ leBytes 4 (s.fn f).rplWr.toNat ++ leBytes 4 (s.fn f).evtWr.toNat ++
      leBytes 4 0)) := rfl

/-! The notice (R554). -/

theorem State.eventNotice_of_off {f : Nat} (h : s.flag (F.HOST_RING_CFG_EVT_NOTICE f) = false) :
    s.eventNotice f = s := by
  simp [State.eventNotice, h]

theorem State.eventNotice_of_open {f : Nat} (h : s.flag (F.HOST_RING_CFG_EVT_NOTICE f) = true)
    (hopen : (s.fn f).noticeOpen = true) : s.eventNotice f = s.setFn f { s.fn f with noticeDue := true } := by
  simp [State.eventNotice, h, hopen]

theorem State.eventNotice_of_closed {f : Nat} (h : s.flag (F.HOST_RING_CFG_EVT_NOTICE f) = true)
    (hopen : (s.fn f).noticeOpen = false) :
    s.eventNotice f = (s.setFn f { s.fn f with noticeOpen := true, noticeDue := false }).emit
      (.msix f (s.fld (F.HOST_RING_VEC_EVT_VECTOR f))) := by
  simp only [State.eventNotice, h, hopen, if_true]
  rfl

theorem State.fn_eventNotice_of_closed {f : Nat} (h : s.flag (F.HOST_RING_CFG_EVT_NOTICE f) = true)
    (hopen : (s.fn f).noticeOpen = false) :
    (s.eventNotice f).fn f = { s.fn f with noticeOpen := true, noticeDue := false } := by
  rw [State.eventNotice_of_closed h hopen, State.fn, State.emit_fns]
  exact (s.fn_setFn _ _ _).trans (if_pos rfl)

/-- Of the function the notice changes its own two marks; the outputs before it stay. -/
theorem State.eventNotice_keeps (f : Nat) :
    (∃ o d, (s.eventNotice f).fn f = { s.fn f with noticeOpen := o, noticeDue := d }) ∧
      s.out <:+ (s.eventNotice f).out := by
  cases h : s.flag (F.HOST_RING_CFG_EVT_NOTICE f) with
  | false => rw [State.eventNotice_of_off h]; exact ⟨⟨_, _, rfl⟩, List.suffix_rfl⟩
  | true =>
    cases hopen : (s.fn f).noticeOpen with
    | false =>
      refine ⟨⟨_, _, State.fn_eventNotice_of_closed h hopen⟩, ?_⟩
      rw [State.eventNotice_of_closed h hopen]
      exact List.suffix_cons _ _
    | true =>
      rw [State.eventNotice_of_open h hopen]
      exact ⟨⟨_, _, (s.fn_setFn _ _ _).trans (if_pos rfl)⟩, List.suffix_rfl⟩

/-! The events-lost event (R569). -/

theorem State.fn_tellLost (f : Nat) :
    ∃ n v, (s.tellLost f).fn f = { s.fn f with lostCount := n, lostSev := v } := by
  unfold State.tellLost
  dsimp only
  split
  · refine ⟨0, 3, ?_⟩
    rw [State.fn, State.raiseRow_fns]
    exact (s.fn_setFn _ _ _).trans (if_pos rfl)
  · exact ⟨_, _, rfl⟩

/-- A source with room takes the event into its places (R29). -/
theorem State.source_raise_of_room {src sev code func : Nat} {payload : List Byte}
    (h : (s.source src).queue.length < 16) :
    ((s.raise src sev code func payload).source src).queue =
      (s.source src).queue ++ [⟨sev, code, func, payload, s.arb.raised⟩] := by
  simp only [State.raise, if_neg (Nat.not_le.mpr h)]
  exact congrArg EvSource.queue ((s.source_setSource src src _).trans (if_pos rfl))

/-- The lost records are told once the store and the source have room. -/
theorem State.tellLost_tells {f : Nat} (hlost : 0 < (s.fn f).lostCount) (hroom : (s.fn f).store.length < 1024)
    (hsrc : (s.source 0x00E0).queue.length < 16) :
    ((s.tellLost f).fn f).lostCount = 0 ∧ ((s.tellLost f).source 0x00E0).queue = (s.source 0x00E0).queue ++
      [⟨1, 0x1401, f, evPayload [(4, (s.fn f).lostCount), (1, (s.fn f).lostSev)], s.arb.raised⟩] := by
  have heq : s.tellLost f = (s.setFn f { s.fn f with lostCount := 0, lostSev := 3 }).raiseRow 0x00E0 1 20 1 f
      [(4, (s.fn f).lostCount), (1, (s.fn f).lostSev)] := if_pos ⟨hlost, hroom⟩
  rw [heq]
  constructor
  · rw [State.fn, State.raiseRow_fns]
    exact congrArg HostFn.lostCount ((s.fn_setFn _ _ _).trans (if_pos rfl))
  · exact State.source_raise_of_room hsrc

/-! One record moves to the event ring (R554, R565, R568). -/

section
variable {f : Nat} {r : EvRec}

/-- The record r stands in its slot of the event ring of function f, and WR is written back. -/
def State.recordWritten (s : State) (f : Nat) (r : EvRec) : State :=
  ((s.emit (.hostWrite f (s.addr64 (R.HOST_EVT_BASE_LO f) (R.HOST_EVT_BASE_HI f) +
    32 * ((s.fn f).evtWr.toNat % ringSize 6 (s.fld (F.HOST_RING_CFG_EVT_SIZE f)))) r.bytes)).setFn f
    { s.fn f with store := (s.fn f).store.filter (fun y => y != r), evtWr := (s.fn f).evtWr + 1 }).writeBack f

theorem State.recordWritten_regs : (s.recordWritten f r).regs = s.regs := by simp [State.recordWritten]
theorem State.recordWritten_arb : (s.recordWritten f r).arb = s.arb := by simp [State.recordWritten]

theorem State.fn_recordWritten : (s.recordWritten f r).fn f =
    { s.fn f with store := (s.fn f).store.filter (fun y => y != r), evtWr := (s.fn f).evtWr + 1 } := by
  rw [State.recordWritten, State.fn, State.writeBack_fns]
  exact (State.fn_setFn _ _ _ _).trans (if_pos rfl)

theorem State.recordWritten_out : (s.recordWritten f r).out =
    [.hostWrite f (s.addr64 (R.HOST_WB_LO f) (R.HOST_WB_HI f)) (leBytes 4 ((s.fn f).cmdHead).toNat ++
        leBytes 4 ((s.fn f).rplWr).toNat ++ leBytes 4 ((s.fn f).evtWr + 1).toNat ++ leBytes 4 0),
      .hostWrite f (s.addr64 (R.HOST_EVT_BASE_LO f) (R.HOST_EVT_BASE_HI f) +
        32 * ((s.fn f).evtWr.toNat % ringSize 6 (s.fld (F.HOST_RING_CFG_EVT_SIZE f)))) r.bytes] ++ s.out := by
  rw [State.recordWritten, State.writeBack_eq, State.fn_setFn, if_pos rfl]
  rfl

theorem exec_eventRingWrite_writes {f : Fin 6} (hr : nextRecord (s.fn f.val).store = some r)
    (hen : s.flag (F.HOST_RING_CFG_EVT_EN f.val) = true) (hroom : s.evtRoom f.val = true)
    (hreset : (s.fn f.val).resetting = false) :
    exec (.eventRingWrite f) s = .next (((s.recordWritten f.val r).eventNotice f.val).tellLost f.val) := by
  rw [exec_eventRingWrite, execEventRingWrite]
  simp only [hr, hen, hroom, hreset, Bool.not_false, Bool.and_self, State.recordWritten]

theorem exec_eventRingWrite_idle {f : Fin 6}
    (h : nextRecord (s.fn f.val).store = none ∨ s.flag (F.HOST_RING_CFG_EVT_EN f.val) = false ∨
      s.evtRoom f.val = false ∨ (s.fn f.val).resetting = true) :
    exec (.eventRingWrite f) s = .next s := by
  rw [exec_eventRingWrite, execEventRingWrite]
  rcases h with h | h | h | h <;> simp [h]

/-- What every written record leaves: the function's indices and store, the outputs, the frame. -/
theorem eventRingWrite_writes {f : Fin 6} (hr : nextRecord (s.fn f.val).store = some r)
    (hen : s.flag (F.HOST_RING_CFG_EVT_EN f.val) = true) (hroom : s.evtRoom f.val = true)
    (hreset : (s.fn f.val).resetting = false) :
    Completes (.eventRingWrite f) s fun t =>
      (∃ n v, t.fn f.val = { ((s.recordWritten f.val r).eventNotice f.val).fn f.val with lostCount := n, lostSev := v }) ∧
      t.out = ((s.recordWritten f.val r).eventNotice f.val).out ∧ OnlyChanges [.arb, .fns, .out] s t := by
  refine ⟨_, exec_eventRingWrite_writes hr hen hroom hreset, State.fn_tellLost _, State.tellLost_out _ _, ?_⟩
  obtain ⟨a, o, hnotice⟩ := (s.recordWritten f.val r).eventNotice_only f.val
  obtain ⟨a', b, htell⟩ := ((s.recordWritten f.val r).eventNotice f.val).tellLost_only f.val
  exact .of_event_parts (htell.trans (by rw [hnotice]; rfl)) (hfree := fun _ => rfl)
end

end Sys2Proof.Machine
end

section
/-! SUPPORT. The oldest held reply goes to the reply ring (R558). -/

namespace Sys2Proof.Machine

variable {s : State}

section
variable {f slot pad : Nat} {r : List Byte} {rs : List (List Byte)}

/-- Units of the reply ring of function f (Table 20-2). -/
abbrev State.replyUnits (s : State) (f : Nat) : Nat := ringSize 7 (s.fld (F.HOST_RING_CFG_RPL_SIZE f))

/-- The reply r, a pad reply of pad units before it where pad is not 0, stands in the reply ring of function f from a slot
on; rs is still held, and WR is written back. -/
def State.replyWritten (s : State) (f slot pad : Nat) (r : List Byte) (rs : List (List Byte)) : State :=
  let base := s.addr64 (R.HOST_RPL_BASE_LO f) (R.HOST_RPL_BASE_HI f)
  let u := if pad = 0 then s else s.emit (.hostWrite f (base + 64 * slot) (padReply pad))
  ((u.emit (.hostWrite f (base + 64 * ((slot + pad) % s.replyUnits f)) r)).setFn f
    { s.fn f with held := rs, rplWr := (s.fn f).rplWr + BitVec.ofNat 32 (pad + ceilDiv r.length 64) }).writeBack f

/-- The units that carry the ring to its end where the reply would pass it. -/
theorem padUnits_eq {size units : Nat}
    (h : slot + units ≤ size ∧ pad = 0 ∨ size < slot + units ∧ pad = size - slot) :
    (if size < slot + units then size - slot else 0) = pad := by
  split <;> omega

theorem State.flushReply_writes (hheld : (s.fn f).held = r :: rs) (hen : s.flag (F.HOST_RING_CFG_RPL_EN f) = true)
    (hreset : (s.fn f).resetting = false) (hslot : slot = (s.fn f).rplWr.toNat % s.replyUnits f)
    (hpad : slot + ceilDiv r.length 64 ≤ s.replyUnits f ∧ pad = 0 ∨
      s.replyUnits f < slot + ceilDiv r.length 64 ∧ pad = s.replyUnits f - slot)
    (hroom : ((s.fn f).rplWr - s.rd (R.HOST_RPL_RD f)).toNat + pad + ceilDiv r.length 64 ≤ s.replyUnits f) :
    s.flushReply f = if s.flag (F.HOST_RING_CFG_RPL_NOTICE f) then
      (s.replyWritten f slot pad r rs).emit (.msix f (s.fld (F.HOST_RING_VEC_RPL_VECTOR f)))
      else s.replyWritten f slot pad r rs := by
  have hregs : (s.replyWritten f slot pad r rs).regs = s.regs := by
    unfold State.replyWritten
    dsimp only
    split <;> simp
  rw [State.flushReply]
  simp only [hheld, ← hslot, padUnits_eq hpad]
  rw [if_pos (by rw [hen, hreset, decide_eq_true hroom]; rfl)]
  rw [← State.flag_of_regs_eq hregs (F.HOST_RING_CFG_RPL_NOTICE f),
    ← State.fld_of_regs_eq hregs (F.HOST_RING_VEC_RPL_VECTOR f)]
  rfl

theorem State.flushReply_of_blocked
    (h : (s.fn f).held = [] ∨ s.flag (F.HOST_RING_CFG_RPL_EN f) = false ∨ (s.fn f).resetting = true) :
    s.flushReply f = s := by
  rw [State.flushReply]
  split
  · rfl
  next r rs hheld => rcases h with h | h | h <;> simp_all

theorem State.flushReply_of_full (hheld : (s.fn f).held = r :: rs)
    (hslot : slot = (s.fn f).rplWr.toNat % s.replyUnits f)
    (hfull : s.replyUnits f < ((s.fn f).rplWr - s.rd (R.HOST_RPL_RD f)).toNat +
      (if s.replyUnits f < slot + ceilDiv r.length 64 then s.replyUnits f - slot else 0) + ceilDiv r.length 64) :
    s.flushReply f = s := by
  rw [State.flushReply]
  simp only [hheld, ← hslot, decide_eq_false (Nat.not_le.mpr hfull), Bool.and_false, Bool.false_and]
  rfl

theorem State.fn_replyWritten : (s.replyWritten f slot pad r rs).fn f =
    { s.fn f with held := rs, rplWr := (s.fn f).rplWr + BitVec.ofNat 32 (pad + ceilDiv r.length 64) } := by
  rw [State.replyWritten, State.fn, State.writeBack_fns]
  exact (State.fn_setFn _ _ _ _).trans (if_pos rfl)

theorem State.replyWritten_only :
    ∃ a o, s.replyWritten f slot pad r rs = { s with fns := a, out := o } := by
  unfold State.replyWritten
  dsimp only
  split <;> exact ⟨_, _, rfl⟩

theorem State.replyWritten_out : (s.replyWritten f slot pad r rs).out =
    [.hostWrite f (s.addr64 (R.HOST_WB_LO f) (R.HOST_WB_HI f)) (leBytes 4 ((s.fn f).cmdHead).toNat ++
        leBytes 4 ((s.fn f).rplWr + BitVec.ofNat 32 (pad + ceilDiv r.length 64)).toNat ++
        leBytes 4 ((s.fn f).evtWr).toNat ++ leBytes 4 0),
      .hostWrite f (s.addr64 (R.HOST_RPL_BASE_LO f) (R.HOST_RPL_BASE_HI f) +
        64 * ((slot + pad) % s.replyUnits f)) r] ++
    (if pad = 0 then [] else [.hostWrite f (s.addr64 (R.HOST_RPL_BASE_LO f) (R.HOST_RPL_BASE_HI f) + 64 * slot)
      (padReply pad)]) ++ s.out := by
  rw [State.replyWritten, State.writeBack_eq, State.fn_setFn, if_pos rfl]
  dsimp only
  split <;> rfl

end

end Sys2Proof.Machine
end

section
/-! SUPPORT. The sequence of the events (R26). -/

namespace Sys2Proof.Machine

variable {s : State}

theorem State.blockReset_arb : s.blockReset.arb = {} := rfl

theorem State.powerOn_arb : s.powerOn.arb = {} := State.blockReset_arb

/-- A reset of the device at least 1 µs long, outside DARK, starts the sequence anew (R26, R579). -/
theorem powerOnReset_seq {ns : Nat} (hns : 1000 ≤ ns) (hstate : s.pwr.state ≠ 3) :
    Completes (.powerOnReset ns) s fun t => t.arb.seq = 0 := by
  refine ⟨s.powerOn, ?_, congrArg Arbiter.seq State.powerOn_arb⟩
  rw [exec_powerOnReset, execPowerOnReset, if_neg (by omega), if_neg (fun h => hstate h.1)]

/-- So does the last step of a wake from DARK (R539, R540). -/
theorem wakeStepReady_seq (hstate : s.pwr.state = 3) (hstep : s.pwr.wakeStep = 4) :
    Completes .wakeStepReady s fun t => t.arb.seq = 0 := by
  refine ⟨s.blockReset.setPwr { s.blockReset.pwr with wakeStep := 5, step := 0, tries := 0 }, ?_,
    congrArg Arbiter.seq (State.blockReset_arb (s := s))⟩
  rw [exec_wakeStepReady, execWakeStepReady]
  simp [hstate, hstep]

/-- With room in every store the granted event, an overflow event included, is stored with the next number (R26, R29). -/
theorem eventGrant_seq {cycle src : Nat} (hsrc : s.arb.choose = some src)
    (hearly : s.arb.lastCycle.all (fun c => decide (c + 4 ≤ cycle)) = true)
    (hevent : 0 < (s.source src).discarded ∨ (s.source src).queue ≠ []) (hroom : ∀ f, (s.fn f).store.length < 1024) :
    Completes (.eventGrant cycle) s fun t =>
      (∃ f, ∃ r ∈ (t.fn f).store, r.seq = s.arb.seq) ∧ t.arb.seq = s.arb.seq + 1 := by
  rcases Nat.eq_zero_or_pos (s.source src).discarded with hd | hd
  · obtain ⟨e, es, hq⟩ := List.exists_cons_of_ne_nil (hevent.resolve_left (by omega))
    refine (eventGrant_event hsrc hearly hq hd (State.storesAs_of_room (hroom e.func))).imp ?_
    rintro t ⟨hseq, -, -, -, ⟨acc, hfn⟩, -⟩
    exact ⟨⟨e.func, s.eventRec src e, by rw [hfn]; exact List.mem_append_right _ List.mem_cons_self, rfl⟩, hseq⟩
  · refine (eventGrant_overflow hsrc hearly hd (State.storesAs_of_room (hroom (sourceOwner src)))).imp ?_
    rintro t ⟨hseq, -, -, -, hfn, -⟩
    exact ⟨⟨sourceOwner src, s.overflowRec src, by rw [hfn]; exact List.mem_append_right _ List.mem_cons_self, rfl⟩,
      hseq⟩

/-- Settles O7: a reset of the device empties the arbiter, a grant counts one, a function's reset grants nothing. -/
theorem sequenceNumbersStartAtZeroAndSurviveFunctionResets :
    Obligations.SequenceNumbersStartAtZeroAndSurviveFunctionResets := by
  unfold Obligations.SequenceNumbersStartAtZeroAndSurviveFunctionResets
  refine ⟨fun s ns => powerOnReset_seq, fun s => wakeStepReady_seq, fun s cycle src => eventGrant_seq, ?_, ?_⟩
  · intro s f reqs
    exact ⟨_, exec_functionLevelReset f reqs s, s.resetFunction_arb_seq _ _⟩
  · intro s reqs
    exact ⟨_, exec_pcieHotReset reqs s, foldl_arb_seq (fun u f => u.resetFunction_arb_seq f reqs) _ _⟩

end Sys2Proof.Machine
end

section
/-! SUPPORT. The clauses of O56 (R22 to R29, R554, R558, R565, R568, R569). -/

namespace Sys2Proof.Machine

variable {s : State}

/-- EVENT_RING_WRITE with the notice on and no interval open: the message goes out and the interval opens (R554). -/
theorem eventRingWrite_opens_interval {f : Fin 6} {r : EvRec} (hr : nextRecord (s.fn f.val).store = some r)
    (hen : s.flag (F.HOST_RING_CFG_EVT_EN f.val) = true) (hroom : s.evtRoom f.val = true)
    (hreset : (s.fn f.val).resetting = false) (hnotice : s.flag (F.HOST_RING_CFG_EVT_NOTICE f.val) = true)
    (hopen : (s.fn f.val).noticeOpen = false) :
    Completes (.eventRingWrite f) s fun t =>
      .msix f.val (s.fld (F.HOST_RING_VEC_EVT_VECTOR f.val)) ∈ t.out ∧ (t.fn f.val).noticeOpen = true ∧
      (t.fn f.val).noticeDue = false ∧ OnlyChanges [.arb, .fns, .out] s t := by
  have hflag := (State.flag_of_regs_eq (s.recordWritten_regs (f := f.val) (r := r)) _).trans hnotice
  have hclosed : ((s.recordWritten f.val r).fn f.val).noticeOpen = false := by rw [State.fn_recordWritten]; exact hopen
  refine (eventRingWrite_writes hr hen hroom hreset).imp ?_
  rintro t ⟨⟨n, v, hfn⟩, hout, honly⟩
  rw [State.fn_eventNotice_of_closed hflag hclosed] at hfn
  rw [State.eventNotice_of_closed hflag hclosed, State.fld_of_regs_eq State.recordWritten_regs] at hout
  rw [hfn, hout]
  exact ⟨List.mem_cons_self, rfl, rfl, honly⟩

/-- EVENT_RING_WRITE within an open interval: the notice waits for its end (R554). -/
theorem eventRingWrite_joins_interval {f : Fin 6} {r : EvRec} (hr : nextRecord (s.fn f.val).store = some r)
    (hen : s.flag (F.HOST_RING_CFG_EVT_EN f.val) = true) (hroom : s.evtRoom f.val = true)
    (hreset : (s.fn f.val).resetting = false) (hnotice : s.flag (F.HOST_RING_CFG_EVT_NOTICE f.val) = true)
    (hopen : (s.fn f.val).noticeOpen = true) :
    Completes (.eventRingWrite f) s fun t =>
      t.out.length = s.out.length + 2 ∧ (t.fn f.val).noticeOpen = true ∧ (t.fn f.val).noticeDue = true ∧
      OnlyChanges [.arb, .fns, .out] s t := by
  have hopen' : ((s.recordWritten f.val r).fn f.val).noticeOpen = true := by rw [State.fn_recordWritten]; exact hopen
  have heq := State.eventNotice_of_open ((State.flag_of_regs_eq State.recordWritten_regs _).trans hnotice) hopen'
  refine (eventRingWrite_writes hr hen hroom hreset).imp ?_
  rintro t ⟨⟨n, v, hfn⟩, hout, honly⟩
  rw [hfn, hout, heq, State.fn_setFn, if_pos rfl, State.setFn_out, State.recordWritten_out]
  exact ⟨rfl, hopen', rfl, honly⟩

/-- EVENT_RING_WRITE without the notice sends no message (R554). -/
theorem eventRingWrite_without_notice {f : Fin 6} {r : EvRec} (hr : nextRecord (s.fn f.val).store = some r)
    (hen : s.flag (F.HOST_RING_CFG_EVT_EN f.val) = true) (hroom : s.evtRoom f.val = true)
    (hreset : (s.fn f.val).resetting = false) (hnotice : s.flag (F.HOST_RING_CFG_EVT_NOTICE f.val) = false) :
    Completes (.eventRingWrite f) s fun t =>
      t.out.length = s.out.length + 2 ∧ (t.fn f.val).noticeOpen = (s.fn f.val).noticeOpen ∧
      (t.fn f.val).noticeDue = (s.fn f.val).noticeDue ∧ OnlyChanges [.arb, .fns, .out] s t := by
  have heq := State.eventNotice_of_off (s := s.recordWritten f.val r)
    ((State.flag_of_regs_eq State.recordWritten_regs _).trans hnotice)
  refine (eventRingWrite_writes hr hen hroom hreset).imp ?_
  rintro t ⟨⟨n, v, hfn⟩, hout, honly⟩
  rw [hfn, hout, heq, State.fn_recordWritten, State.recordWritten_out]
  exact ⟨rfl, rfl, rfl, honly⟩

/-- EVENT_RING_WRITE moves the record that leaves next, and writes the indices back (R554, R565, R568). -/
theorem eventRingWrite_moves_record {f : Fin 6} {r : EvRec} (hr : nextRecord (s.fn f.val).store = some r)
    (hen : s.flag (F.HOST_RING_CFG_EVT_EN f.val) = true) (hroom : s.evtRoom f.val = true)
    (hreset : (s.fn f.val).resetting = false) :
    Completes (.eventRingWrite f) s fun t =>
      (s.recordWritten f.val r).out ⊆ t.out ∧
      (t.fn f.val).store = (s.fn f.val).store.filter (fun y => y != r) ∧
      (t.fn f.val).evtWr = (s.fn f.val).evtWr + 1 ∧ OnlyChanges [.arb, .fns, .out] s t := by
  obtain ⟨⟨o, d, hnotice⟩, hsuffix⟩ := (s.recordWritten f.val r).eventNotice_keeps f.val
  refine (eventRingWrite_writes hr hen hroom hreset).imp ?_
  rintro t ⟨⟨n, v, hfn⟩, hout, honly⟩
  rw [hfn, hout, hnotice, State.fn_recordWritten]
  exact ⟨hsuffix.subset, rfl, rfl, honly⟩

/-- EVENT_RING_WRITE with room in the store and in the host block's source tells the lost records (R569). -/
theorem eventRingWrite_tells_lost {f : Fin 6} {r : EvRec} (hr : nextRecord (s.fn f.val).store = some r)
    (hen : s.flag (F.HOST_RING_CFG_EVT_EN f.val) = true) (hroom : s.evtRoom f.val = true)
    (hreset : (s.fn f.val).resetting = false) (hlost : 0 < (s.fn f.val).lostCount)
    (hstore : (s.fn f.val).store.length ≤ 1024) (hsrc : (s.source 0x00E0).queue.length < 16) :
    Completes (.eventRingWrite f) s fun t =>
      (t.fn f.val).lostCount = 0 ∧
      (t.source 0x00E0).queue = (s.source 0x00E0).queue ++ [⟨1, 0x1401, f.val, evPayload [(4,
        (s.fn f.val).lostCount), (1, (s.fn f.val).lostSev)], s.arb.raised⟩] ∧
      OnlyChanges [.arb, .fns, .out] s t := by
  obtain ⟨t, hexec, -, -, honly⟩ := eventRingWrite_writes hr hen hroom hreset
  obtain rfl := Host.Outcome.next.inj ((exec_eventRingWrite_writes hr hen hroom hreset).symm.trans hexec)
  obtain ⟨⟨o, d, hnotice⟩, -⟩ := (s.recordWritten f.val r).eventNotice_keeps f.val
  rw [State.fn_recordWritten] at hnotice
  have harb : ((s.recordWritten f.val r).eventNotice f.val).arb = s.arb :=
    (State.eventNotice_arb _ _).trans State.recordWritten_arb
  have hsource : ((s.recordWritten f.val r).eventNotice f.val).source 0x00E0 = s.source 0x00E0 := by
    simp only [State.source, harb]
  have hlt := length_filter_bne_lt (nextRecord_eq_some hr).1
  obtain ⟨hzero, htold⟩ := State.tellLost_tells (s := (s.recordWritten f.val r).eventNotice f.val) (f := f.val)
    (by rw [hnotice]; exact hlost) (by rw [hnotice]; exact hlt.trans_le hstore) (by rw [hsource]; exact hsrc)
  rw [hsource, hnotice, harb] at htold
  exact ⟨_, hexec, hzero, htold, honly⟩

/-- The notice's interval of function f has ended, and no notice is due (R554). -/
def State.intervalEnded (s : State) (f : Nat) : State :=
  s.setFn f { s.fn f with noticeOpen := false, noticeDue := false }

theorem State.fn_intervalEnded (f : Nat) :
    (s.intervalEnded f).fn f = { s.fn f with noticeOpen := false, noticeDue := false } :=
  (State.fn_setFn _ _ _ _).trans (if_pos rfl)

theorem State.intervalEnded_regs (f : Nat) : (s.intervalEnded f).regs = s.regs := State.setFn_regs _ _ _

/-- EVENT_NOTICE_INTERVAL_END with nothing to tell, or the notice off, ends the interval (R554). -/
theorem eventNoticeIntervalEnd_ends {f : Fin 6}
    (h : (s.fn f.val).noticeDue = false ∨ s.flag (F.HOST_RING_CFG_EVT_NOTICE f.val) = false) :
    Completes (.eventNoticeIntervalEnd f) s fun t =>
      (t.fn f.val).noticeOpen = false ∧ (t.fn f.val).noticeDue = false ∧ OnlyChanges [.fns] s t := by
  refine ⟨s.intervalEnded f.val, ?_, by rw [State.fn_intervalEnded], by rw [State.fn_intervalEnded],
    .of_event_parts (a := s.arb) (n := s.freeCtr) (o := s.out) rfl⟩
  rw [exec_eventNoticeIntervalEnd]
  rcases h with h | h
  · exact if_neg (by rw [h]; exact Bool.false_ne_true)
  · have hoff : (s.intervalEnded f.val).eventNotice f.val = s.intervalEnded f.val :=
      State.eventNotice_of_off ((State.flag_of_regs_eq (State.intervalEnded_regs _) _).trans h)
    exact (congrArg (ite _ · _) (congrArg Host.Outcome.next hoff)).trans (ite_self _)

/-- EVENT_NOTICE_INTERVAL_END with a record written meanwhile sends one message and opens the next interval (R554). -/
theorem eventNoticeIntervalEnd_tells {f : Fin 6} (hdue : (s.fn f.val).noticeDue = true)
    (hnotice : s.flag (F.HOST_RING_CFG_EVT_NOTICE f.val) = true) :
    Completes (.eventNoticeIntervalEnd f) s fun t =>
      (t.fn f.val).noticeOpen = true ∧ (t.fn f.val).noticeDue = false ∧
      t.out = .msix f.val (s.fld (F.HOST_RING_VEC_EVT_VECTOR f.val)) :: s.out ∧ OnlyChanges [.fns, .out] s t := by
  have hclosed : ((s.intervalEnded f.val).fn f.val).noticeOpen = false := by rw [State.fn_intervalEnded]
  have hflag : (s.intervalEnded f.val).flag (F.HOST_RING_CFG_EVT_NOTICE f.val) = true :=
    (State.flag_of_regs_eq (State.intervalEnded_regs _) _).trans hnotice
  refine ⟨(s.intervalEnded f.val).eventNotice f.val, (exec_eventNoticeIntervalEnd f s).trans (if_pos hdue), ?_, ?_, ?_,
    ?_⟩
  · exact congrArg HostFn.noticeOpen (State.fn_eventNotice_of_closed hflag hclosed)
  · exact congrArg HostFn.noticeDue (State.fn_eventNotice_of_closed hflag hclosed)
  · rw [State.eventNotice_of_closed hflag hclosed, State.fld_of_regs_eq (State.intervalEnded_regs _)]
    rfl
  · obtain ⟨a, o, honly⟩ := (s.intervalEnded f.val).eventNotice_only f.val
    exact .of_event_parts (a := s.arb) (n := s.freeCtr) (honly.trans rfl)

/-- REPLY_WRITE with room writes the oldest held reply, after a pad reply where it would pass the ring end (R558). -/
theorem replyWrite_writes {f : Fin 6} {r : List Byte} {rs : List (List Byte)} {slot pad : Nat}
    (hheld : (s.fn f.val).held = r :: rs) (hen : s.flag (F.HOST_RING_CFG_RPL_EN f.val) = true)
    (hreset : (s.fn f.val).resetting = false) (hslot : slot = (s.fn f.val).rplWr.toNat % s.replyUnits f.val)
    (hpad : slot + ceilDiv r.length 64 ≤ s.replyUnits f.val ∧ pad = 0 ∨
      s.replyUnits f.val < slot + ceilDiv r.length 64 ∧ pad = s.replyUnits f.val - slot)
    (hroom : ((s.fn f.val).rplWr - s.rd (R.HOST_RPL_RD f.val)).toNat + pad + ceilDiv r.length 64 ≤ s.replyUnits f.val) :
    Completes (.replyWrite f) s fun t =>
      t.out = (if s.flag (F.HOST_RING_CFG_RPL_NOTICE f.val) then [.msix f.val (s.fld (F.HOST_RING_VEC_RPL_VECTOR f.val))]
        else []) ++ (s.replyWritten f.val slot pad r rs).out ∧
      t.fn f.val = (s.replyWritten f.val slot pad r rs).fn f.val ∧ OnlyChanges [.fns, .out] s t := by
  have hwritten := State.flushReply_writes hheld hen hreset hslot hpad hroom
  obtain ⟨a, o, honly⟩ := s.replyWritten_only (f := f.val) (slot := slot) (pad := pad) (r := r) (rs := rs)
  generalize s.replyWritten f.val slot pad r rs = u at *
  refine ⟨_, (exec_replyWrite f s).trans (congrArg Host.Outcome.next hwritten), ?_⟩
  split
  · refine ⟨rfl, rfl, ?_⟩
    rw [honly]
    exact .of_event_parts (a := s.arb) (n := s.freeCtr) rfl
  · exact ⟨rfl, rfl, .of_event_parts (a := s.arb) (n := s.freeCtr) honly⟩

/-- Settles O56: the grant by what the store takes (StoresAs), the record by recordWritten and its notice, the reply by
replyWritten. -/
theorem eventsReachTheirFunctionsRing : Obligations.EventsReachTheirFunctionsRing := by
  unfold Obligations.EventsReachTheirFunctionsRing
  refine ⟨?event, ?overflow, ?eventDisplaces, ?eventDiscarded, ?overflowDisplaces, ?overflowDiscarded,
    fun s cycle h => exec_eventGrant_idle h, ?record, fun s f r => eventRingWrite_opens_interval,
    fun s f r => eventRingWrite_joins_interval, fun s f r => eventRingWrite_without_notice,
    fun s f r => eventRingWrite_tells_lost, fun s f h => exec_eventRingWrite_idle h,
    fun s f h => eventNoticeIntervalEnd_ends (.inl h), fun s f => eventNoticeIntervalEnd_tells,
    fun s f _ h => eventNoticeIntervalEnd_ends (.inr h), ?reply, ?replyBlocked, ?replyFull⟩
  case event =>
    intro s cycle src e es hsrc hq hd hearly hroom
    refine (eventGrant_event hsrc hearly hq hd (State.storesAs_of_room hroom)).imp ?_
    rintro t ⟨hseq, hlast, hcycle, hqueue, ⟨acc, hfn⟩, honly⟩
    exact ⟨hseq, hlast, hcycle, hqueue, by rw [hfn]; rfl, honly⟩
  case overflow =>
    intro s cycle src hsrc hd hearly hroom
    refine (eventGrant_overflow hsrc hearly hd (State.storesAs_of_room hroom)).imp ?_
    rintro t ⟨hseq, hlast, hcycle, hsource, hfn, honly⟩
    exact ⟨hseq, hlast, hcycle, by rw [hsource], by rw [hsource], by rw [hfn]; rfl, honly⟩
  case eventDisplaces =>
    intro s cycle src e es x hsrc hq hd hearly hfull hx hlost
    obtain ⟨hmem, hsev, hmax⟩ := displaced_eq_some hx
    refine (eventGrant_event hsrc hearly hq hd (State.storesAs_of_displaced hfull hx hlost)).imp ?_
    rintro t ⟨hseq, hlast, hcycle, hqueue, ⟨acc, hfn⟩, honly⟩
    refine ⟨hseq, hlast, hcycle, hqueue, hmem, hsev, fun y hy => ⟨hmax y hy, ?_⟩⟩
    rw [hfn]
    exact ⟨rfl, rfl, rfl, honly⟩
  case eventDiscarded =>
    intro s cycle src e es hsrc hq hd hearly hfull hsev hlost
    refine (eventGrant_event hsrc hearly hq hd (State.storesAs_of_discarded hfull hsev hlost)).imp ?_
    rintro t ⟨hseq, hlast, hcycle, hqueue, ⟨acc, hfn⟩, honly⟩
    rw [hfn]
    exact ⟨hseq, hlast, hcycle, hqueue, rfl, rfl, rfl, honly⟩
  case overflowDisplaces =>
    intro s cycle src x hsrc hd hearly hfull hx hlost
    obtain ⟨hmem, hsev, hmax⟩ := displaced_eq_some hx
    refine (eventGrant_overflow hsrc hearly hd (State.storesAs_of_displaced hfull hx hlost)).imp ?_
    rintro t ⟨hseq, hlast, hcycle, hsource, hfn, honly⟩
    refine ⟨hseq, hlast, hcycle, by rw [hsource], hmem, hsev, fun y hy => ⟨hmax y hy, ?_⟩⟩
    rw [hfn]
    exact ⟨rfl, rfl, honly⟩
  case overflowDiscarded =>
    intro s cycle src hsrc hd hearly hfull hsev hlost
    refine (eventGrant_overflow hsrc hearly hd (State.storesAs_of_discarded hfull hsev hlost)).imp ?_
    rintro t ⟨hseq, hlast, hcycle, hsource, hfn, honly⟩
    rw [hfn, hsource]
    exact ⟨hseq, hlast, hcycle, rfl, rfl, rfl, honly⟩
  case record =>
    intro s f r hr hen hroom hreset
    obtain ⟨hmem, hmin⟩ := nextRecord_eq_some hr
    refine (eventRingWrite_moves_record hr hen hroom hreset).imp ?_
    rintro t ⟨hout, hstore, hwr, honly⟩
    rw [State.recordWritten_out] at hout
    exact ⟨hout (by simp), hstore, hwr, hout (by simp), hmem, fun y hy => ⟨hmin y hy, honly⟩⟩
  case reply =>
    intro s f r rs slot pad hheld hen hreset hslot hpad hroom
    refine (replyWrite_writes hheld hen hreset hslot hpad hroom).imp ?_
    rintro t ⟨hout, hfn, honly⟩
    rw [State.replyWritten_out] at hout
    rw [State.fn_replyWritten] at hfn
    rw [hout, hfn]
    refine ⟨by simp, fun hpos => by simp [Nat.ne_of_gt hpos], rfl, rfl, by simp, fun hnotice => by simp [hnotice], ?_,
      honly⟩
    split_ifs <;> simp
  case replyBlocked => exact fun s f h => congrArg Host.Outcome.next (State.flushReply_of_blocked h)
  case replyFull =>
    exact fun s f r rs slot hheld hslot hfull => congrArg Host.Outcome.next (State.flushReply_of_full hheld hslot hfull)

end Sys2Proof.Machine
end

section
/-! SUPPORT. A vector-cycle boundary that finds an uncorrectable word (R191, R204, R528). -/

namespace Sys2Proof.Machine

/-- A boundary is due in group 0, whose input of the computed symbol is incomplete; its engine has a store of one lane in the
gather buffer, to a scratchpad word with two wrong symbols. -/
def lateInputDue : State :=
  { State.reset with
    tick := { cycleDue := true }
    vec :=
      { groups := [(0, { state := 3, tgs := [{ eng := 0, tones := 0 }]
                         comp := some { tick := 0, par := 0, engs := [0], lateIn := [0] } })]
        engs := [(0, { st := .running, gather := some ⟨0, 1, 0⟩, spad := [(0, 0x10001)] })] } }

/-- The overrun that the boundary judges triggers the engine's retirement, whose last flush reads the word: memory 5 has told
of it. -/
theorem lateInputDue_boundary_tells_ue :
    (match exec (.vectorCycleBoundary 0) lateInputDue with
      | .next t => t.mem.ueTold
      | _ => []) = [(5, 1)] := by decide +kernel

/-- Refutes O9: its clause for VECTOR_CYCLE_BOUNDARY has no finding told when the boundary is over. The boundary first lets
findings be told again and then judges the input of the groups (R191): at lateInputDue the overrun stops the engine, whose
pending store meets an uncorrectable word, and that finding is told. -/
theorem not_tickEdgeAndBoundariesActTogether : ¬ Obligations.TickEdgeAndBoundariesActTogether := by
  unfold Obligations.TickEdgeAndBoundariesActTogether
  rintro ⟨-, -, -, -, hcycle, -⟩
  obtain ⟨t, hexec, -, -, htold, -⟩ := hcycle lateInputDue 0 rfl
  have htells := lateInputDue_boundary_tells_ue
  rw [hexec] at htells
  exact absurd (htold.symm.trans htells) (by decide)

end Sys2Proof.Machine
end

section
/-! SUPPORT. TICK_CFG on a device whose TICK_OUT_CFG holds a reserved bit (R7, R58). -/

namespace Sys2Proof.Machine

/-- The device in normal operation with PF5's command ring enabled and one unit posted; bit 2 of TICK_OUT_CFG, which no
software can write, is set. -/
def reservedTickOut : State :=
  ((({ State.reset with boot := { State.reset.boot with mode := 1 } } : State).setFld (F.HOST_RING_CFG_CMD_EN 5) 1).wr
    (R.HOST_CMD_TAIL 5) 1).wr R.TICK_OUT_CFG 4

/-- TICK_CFG of PF5 with its three values 0. -/
def zeroTickCfg : Pkt := ⟨5, 1, 0, 0, 0, 0, [0, 0, 0]⟩

theorem reservedTickOut_takes_zeroTickCfg : Taken 0x4003 zeroTickCfg reservedTickOut := by decide +kernel

theorem reservedTickOut_keeps_bit :
    (match exec (.tickCfg zeroTickCfg) reservedTickOut with
      | .next t => t.rd R.TICK_OUT_CFG
      | _ => 0) = 4 := by decide +kernel

/-- Refutes O10: its clause for TICK_CFG gives TICK_OUT_CFG the low two bits of its word and nothing else, in every state. The
write takes the RW bits alone (R7), so a reserved bit that the state holds stays, as bit 2 does at reservedTickOut. -/
theorem not_tickGeneratorCommandsStoreAndReadBack : ¬ Obligations.TickGeneratorCommandsStoreAndReadBack := by
  unfold Obligations.TickGeneratorCommandsStoreAndReadBack
  rintro ⟨-, -, -, -, -, -, -, hcfg, -⟩
  obtain ⟨u, hexec, -, -, hout, -⟩ :=
    hcfg reservedTickOut zeroTickCfg reservedTickOut_takes_zeroTickCfg rfl rfl (by decide)
  have hend : u.endCmd (zeroTickCfg.echo 0x4003) ⟨stDone, 0, []⟩ = u := rfl
  have hkeeps := reservedTickOut_keeps_bit
  rw [hexec, hend] at hkeeps
  exact absurd (hout.symm.trans hkeeps) (by decide)

end Sys2Proof.Machine
end

section
/-! SUPPORT. The place in time that the tick generator keeps (R32 to R34), and what a step must say so that it stays
as it is: the count and the indices move at a tick edge alone, so the lemmas below give each operation of the model as
one that keeps the tick generator, or at least its place. -/

namespace Sys2Proof.Machine

/-- The place in time that the tick generator keeps: the count and the indices (R32 to R34). -/
def TickGen.place (t : TickGen) : BitVec 48 × Nat × Nat × Nat := (t.count, t.tif, t.tic, t.cycle)

/-- What else a record of the tick generator holds does not touch its place. -/
@[simp] theorem TickGen.place_update (t : TickGen) (st : TickSt) (holdoverLong hasMaster : Bool) (master : Nat)
    (displace phaseErr : Int) (offLive : Nat) (offPending : Bool) (run rejects : Nat) (accepted : List Int) (osc : Int)
    (lockedSpan : List (Int × Nat)) (spanMark holdTicks sinceLoss : Nat) (change : Option MasterChange)
    (acqStep : Option Nat) (stepDue frameDue cycleDue superDue outLevel : Bool) (squelch : Nat) :
    (TickGen.mk t.count t.tif t.tic t.cycle st holdoverLong hasMaster master displace phaseErr offLive offPending run
      rejects accepted osc lockedSpan spanMark holdTicks sinceLoss change acqStep stepDue frameDue cycleDue superDue
      outLevel squelch).place = t.place := rfl

@[simp] theorem State.ite_tick {c : Prop} [Decidable c] (s t : State) :
    (if c then s else t).tick = if c then s.tick else t.tick := apply_ite State.tick c s t

@[simp] theorem State.ite_fst_tick {α : Type} {c : Prop} [Decidable c] (p q : State × α) :
    (if c then p else q).1.tick = if c then p.1.tick else q.1.tick := apply_ite (fun r : State × α => r.1.tick) c p q

@[simp] theorem TickGen.ite_place {c : Prop} [Decidable c] (t u : TickGen) :
    (if c then t else u).place = if c then t.place else u.place := apply_ite TickGen.place c t u

/-- A step that keeps the tick generator keeps it along a list. -/
@[simp] theorem State.foldl_tick {α : Type} {g : State → α → State} (h : ∀ u a, (g u a).tick = u.tick)
    (l : List α) (s : State) : (l.foldl g s).tick = s.tick := by
  induction l generalizing s with
  | nil => rfl
  | cons a l ih => exact (ih _).trans (h s a)

/-- A step that keeps the place in time keeps it along a list. -/
theorem State.foldl_place {α : Type} {g : State → α → State} (h : ∀ u a, (g u a).tick.place = u.tick.place)
    (l : List α) (s : State) : (l.foldl g s).tick.place = s.tick.place := by
  induction l generalizing s with
  | nil => rfl
  | cons a l ih => exact (ih _).trans (h s a)

/-- The state of a result that is given as a pair. -/
theorem State.tick_of_eq {α : Type} {p : State × α} {u : State} {r : α} (h : p = (u, r)) : u.tick = p.1.tick := by
  rw [h]

/-- The state in which a command's own part leaves the device. -/
def BodyOut.state : BodyOut → State
  | .fin s _ => s
  | .later s => s

@[simp] theorem BodyOut.fin_state (s : State) (e : CmdEnd) : (BodyOut.fin s e).state = s := rfl
@[simp] theorem BodyOut.later_state (s : State) : (BodyOut.later s).state = s := rfl
@[simp] theorem refuse_state (status : Nat) (s : State) (detail : Nat) : (refuse status s detail).state = s := rfl
@[simp] theorem finish_state (s : State) (reply : List Byte) (detail : Nat) : (finish s reply detail).state = s := rfl

@[simp] theorem BodyOut.ite_state {c : Prop} [Decidable c] (b d : BodyOut) :
    (if c then b else d).state = if c then b.state else d.state := apply_ite BodyOut.state c b d

/-- Where a command ends, the place in time is as in s. -/
def KeepsPlace (s : State) (o : Host.Outcome State Fault Refusal) : Prop :=
  ∀ t, o = .next t → t.tick.place = s.tick.place

@[simp] theorem keepsPlace_next {s t : State} : KeepsPlace s (.next t) ↔ t.tick.place = s.tick.place :=
  ⟨fun h => h t rfl, fun h _ ht => Host.Outcome.next.inj ht ▸ h⟩

@[simp] theorem keepsPlace_ite {s : State} {c : Prop} [Decidable c] {o r : Host.Outcome State Fault Refusal} :
    KeepsPlace s (if c then o else r) ↔ if c then KeepsPlace s o else KeepsPlace s r := by
  split <;> rfl

end Sys2Proof.Machine
end

section
/-! SUPPORT. What the operations of the command rings leave of the tick generator (Machine/HostOps.lean). -/

namespace Sys2Proof.Machine

/-- A packet keeps the place in time where its command's own part does. -/
@[simp] theorem keepsPlace_runCmd {op : Nat} {acc : Bool} {lenBad : Option Nat} {tgtOk : Bool}
    {body : Nat → State → BodyOut}
    (hbody : ∀ n u, (body n u).state.tick.place = u.tick.place) (p : Pkt) (s : State) :
    KeepsPlace s (runCmd op acc lenBad tgtOk body p s) := by
  unfold runCmd
  extract_lets +onlyGivenNames e id past v u
  have hu : u.tick = s.tick := State.takePkt_tick s p
  split
  · split
    · simp [hu]
    split
    · simp [hu]
    have hb := hbody id u
    split
    next w r hw =>
      rw [hw, BodyOut.fin_state, hu] at hb
      split <;> simp [hb]
    next w hw =>
      rw [hw, BodyOut.later_state, hu] at hb
      simp [hb]
  · simp

end Sys2Proof.Machine
end

section
/-! SUPPORT. What the operations of the tick generator leave of the tick generator (Machine/TickOps.lean). -/

namespace Sys2Proof.Machine

@[simp] theorem State.setTick_tick (s : State) (t : TickGen) : (s.setTick t).tick = t := rfl
@[simp] theorem State.loseMaster_place (s : State) (cause : Nat) : (s.loseMaster cause).tick.place = s.tick.place := by
  simp [State.loseMaster]
@[simp] theorem State.ponEvent_tick (s : State) (n sev chap row : Nat) (fs : List (Nat × Nat)) :
    (s.ponEvent n sev chap row fs).tick = s.tick := by
  simp [State.ponEvent]
@[simp] theorem State.setLull_tick (s : State) (n : Nat) (l : Lull) (cause : Nat) :
    (s.setLull n l cause).tick = s.tick := by
  simp [State.setLull]
@[simp] theorem State.masterLull_tick (s : State) (c : Nat) : (s.masterLull c).tick = s.tick := by
  simp [State.masterLull]
@[simp] theorem State.takeMaster_place (s : State) (c : Nat) : (s.takeMaster c).tick.place = s.tick.place := by
  simp [State.takeMaster]
@[simp] theorem State.enterLocked_place (s : State) (pos : Nat) : (s.enterLocked pos).tick.place = s.tick.place := by
  simp [State.enterLocked]
@[simp] theorem TickGen.countLocked_place (t : TickGen) (m : Nat) : (t.countLocked m).place = t.place := by
  unfold TickGen.countLocked
  split <;> rfl

@[simp] theorem State.acceptSample_place (s : State) (pos sfc : Nat) (err : Int) :
    (s.acceptSample pos sfc err).tick.place = s.tick.place := by
  unfold State.acceptSample
  dsimp only
  repeat' split
  all_goals simp

@[simp] theorem State.frameStart_place (s : State) (c pos sfc : Nat) :
    (s.frameStart c pos sfc).tick.place = s.tick.place := by
  unfold State.frameStart
  dsimp only
  split_ifs <;> simp

@[simp] theorem State.frameMissing_place (s : State) (c : Nat) : (s.frameMissing c).tick.place = s.tick.place := by
  simp [State.frameMissing]
@[simp] theorem State.tickOut_tick (s : State) : s.tickOut.tick = s.tick := by simp [State.tickOut]
@[simp] theorem State.writeTickOut_place (s : State) (v : Nat) : (s.writeTickOut v).tick.place = s.tick.place := by
  simp [State.writeTickOut]
@[simp] theorem State.synceEdge_place (s : State) : s.synceEdge.tick.place = s.tick.place := by simp [State.synceEdge]

@[simp] theorem State.masterChangeDue_place (s : State) : s.masterChangeDue.tick.place = s.tick.place := by
  unfold State.masterChangeDue
  dsimp only
  repeat' split
  all_goals simp

@[simp] theorem State.masterChoice_place (s : State) : s.masterChoice.tick.place = s.tick.place := by
  unfold State.masterChoice
  dsimp only
  repeat' split
  all_goals simp

@[simp] theorem TickGen.retarget_place (t : TickGen) (v : Nat) : (t.retarget v).place = t.place := rfl

@[simp] theorem State.offsetApply_place (s : State) : s.offsetApply.tick.place = s.tick.place := by
  unfold State.offsetApply
  dsimp only
  repeat' split
  all_goals simp

@[simp] theorem State.writeOffset_place (s : State) (v : Nat) : (s.writeOffset v).tick.place = s.tick.place := by
  simp [State.writeOffset]

end Sys2Proof.Machine
end

section
/-! SUPPORT. What the operations of the buffer pool leave of the tick generator (Machine/BufferOps.lean). -/

namespace Sys2Proof.Machine

@[simp] theorem State.tellEmpty_tick (s : State) (i agent : Nat) : (s.tellEmpty i agent).tick = s.tick := by
  simp [State.tellEmpty]

@[simp] theorem allocFrom_tick (s : State) (agent first : Nat) (n : Nat) (i : Nat) :
    (allocFrom s agent first n i).1.tick = s.tick := by
  induction n generalizing s i with
  | zero => simp [allocFrom]
  | succ n ih =>
    rw [allocFrom]
    dsimp only
    split
    · split <;> simp
    · split <;> simp [ih]

@[simp] theorem State.allocBuf_tick (s : State) (agent len : Nat) : (s.allocBuf agent len).1.tick = s.tick := by
  simp [State.allocBuf]
@[simp] theorem State.rejectReq_tick (s : State) (id kind agent inst : Nat) :
    (s.rejectReq id kind agent inst).tick = s.tick := by
  simp [State.rejectReq]
@[simp] theorem State.freeBuf_tick (s : State) (id agent inst : Nat) : (s.freeBuf id agent inst).tick = s.tick := by
  simp [State.freeBuf]
@[simp] theorem State.handover_tick (s : State) (id agent inst dst : Nat) :
    (s.handover id agent inst dst).tick = s.tick := by
  simp [State.handover]
@[simp] theorem State.limitPools_tick (s : State) (on : Bool) : (s.limitPools on).tick = s.tick := by
  simp [State.limitPools]
@[simp] theorem State.fillPool_tick (s : State) (i count : Nat) : (s.fillPool i count).tick = s.tick := by
  simp [State.fillPool]
@[simp] theorem State.fillPools_tick (s : State) (counts : List Nat) : (s.fillPools counts).tick = s.tick := by
  simp [State.fillPools]
@[simp] theorem State.finishDest_tick (s : State) (id agent inst : Nat) :
    (s.finishDest id agent inst).tick = s.tick := by
  simp [State.finishDest]
@[simp] theorem State.takeBuf_tick (s : State) (id dst : Nat) : (s.takeBuf id dst).tick = s.tick := by
  simp [State.takeBuf]

end Sys2Proof.Machine
end

section
/-! SUPPORT. What the operations of the external memory leave of the tick generator (Machine/MemOps.lean). -/

namespace Sys2Proof.Machine

@[simp] theorem State.logUe_tick (s : State) (m word finder : Nat) : (s.logUe m word finder).tick = s.tick := by
  simp [State.logUe]
@[simp] theorem State.foundCe_tick (s : State) (m k : Nat) : (s.foundCe m k).tick = s.tick := by simp [State.foundCe]
@[simp] theorem State.foundUe_tick (s : State) (m word finder : Nat) : (s.foundUe m word finder).tick = s.tick := by
  simp [State.foundUe]
@[simp] theorem State.inject_tick (s : State) (m : Nat) (w : Codeword) : (s.inject m w).1.tick = s.tick := by
  unfold State.inject
  split <;> simp
@[simp] theorem State.writeDdr_tick (s : State) (i : Nat) (w : Codeword) : (s.writeDdr i w).tick = s.tick := by
  unfold State.writeDdr
  split <;> simp
@[simp] theorem State.readDdr_tick (s : State) (i finder : Nat) : (s.readDdr i finder).1.tick = s.tick := by
  unfold State.readDdr
  split <;> simp

@[simp] theorem State.readWords_tick (s : State) (i : Nat) (n : Nat) : (s.readWords i n).1.tick = s.tick := by
  induction n generalizing s i with
  | zero => rfl
  | succ n ih =>
    rw [State.readWords]
    split
    next u h => simp [State.tick_of_eq h]
    next u d h =>
      split
      next v bs hv => simp [State.tick_of_eq hv, ih, State.tick_of_eq h]
      next v e hv => simp [State.tick_of_eq hv, ih, State.tick_of_eq h]

@[simp] theorem State.ddrRead_tick (s : State) (addr n : Nat) : (s.ddrRead addr n).1.tick = s.tick := by
  unfold State.ddrRead
  dsimp only
  split
  next u bs h => simp [State.tick_of_eq h]
  next u e h => simp [State.tick_of_eq h]

@[simp] theorem State.ddrWriteF_tick (s : State) (n : Nat) (i : Nat) (l : List Byte) :
    (s.ddrWriteF n i l).1.tick = s.tick := by
  induction n generalizing s i l with
  | zero => rfl
  | succ n ih =>
    rw [State.ddrWriteF]
    dsimp only
    split_ifs
    · rfl
    · simp [ih]
    · split
      next u h => simp [State.tick_of_eq h]
      next u d h => simp [ih, State.tick_of_eq h]

@[simp] theorem State.ddrWrite_tick (s : State) (addr : Nat) (bs : List Byte) :
    (s.ddrWrite addr bs).1.tick = s.tick := by
  simp [State.ddrWrite]
@[simp] theorem State.storeFrame_tick (s : State) (id len : Nat) : (s.storeFrame id len).tick = s.tick := by
  simp [State.storeFrame]
@[simp] theorem State.meetWords_tick (s : State) (base : Nat) (l : List (Nat × Codeword)) :
    (s.meetWords base l).1.tick = s.tick := by
  fun_induction s.meetWords base l <;> simp [*]

@[simp] theorem State.readFrame_tick (s : State) (id len : Nat) (met : Option Nat) :
    (s.readFrame id len met).1.tick = s.tick := by
  unfold State.readFrame
  split
  next u n h => simp [State.tick_of_eq h]
  next u h => split <;> simp [State.tick_of_eq h]

@[simp] theorem State.wroteTable_tick (s : State) (kind idx : Nat) : (s.wroteTable kind idx).tick = s.tick := by
  simp [State.wroteTable]
@[simp] theorem State.meetParity_tick (s : State) (kind idx finder : Nat) :
    (s.meetParity kind idx finder).tick = s.tick := by
  simp [State.meetParity]

end Sys2Proof.Machine
end

section
/-! SUPPORT. What the operations of the key store leave of the tick generator (Machine/CipherOps.lean). -/

namespace Sys2Proof.Machine

@[simp] theorem State.loadKey_tick (s : State) (i len usage : Nat) (key : List Nat) :
    (s.loadKey i len usage key).tick = s.tick := by
  simp [State.loadKey]
@[simp] theorem State.eraseKey_tick (s : State) (i : Nat) : (s.eraseKey i).tick = s.tick := by simp [State.eraseKey]
@[simp] theorem State.loseKey_tick (s : State) (i : Nat) : (s.loseKey i).tick = s.tick := by simp [State.loseKey]
@[simp] theorem State.readKey_tick (s : State) (i : Nat) : (s.readKey i).1.tick = s.tick := by
  unfold State.readKey
  split <;> simp
@[simp] theorem State.loadDerived_tick (s : State) (ch : Nat) (msk : Option (List Byte)) :
    (s.loadDerived ch msk).tick = s.tick := by
  simp [State.loadDerived]

@[simp] theorem State.chKey_tick (s : State) (ch k : Nat) : (s.chKey ch k).1.tick = s.tick := by
  unfold State.chKey
  split
  next h => simp [State.tick_of_eq h]
  next h => simp [State.tick_of_eq h]

@[simp] theorem State.endRequest_tick (s : State) (desc : List Byte) (e : RqEnd) :
    (s.endRequest desc e).tick = s.tick := by
  simp [State.endRequest]

@[simp] theorem State.request_tick (s : State) (op : Nat) (desc data aad tag : List Byte) (fail : Option Nat) :
    (s.request op desc data aad tag fail).tick = s.tick := by
  unfold State.request
  split
  · extract_lets +onlyGivenNames i slot
    split
    · simp
    split
    · simp
    split
    · simp
    split
    · simp
    split
    · simp
    split
    next u h => simp [State.tick_of_eq h]
    next u key h => cases fail <;> simp [State.tick_of_eq h]
  · rfl

end Sys2Proof.Machine
end

section
/-! SUPPORT. What the operations of the cipher leave of the tick generator (Machine/Cipher.lean). -/

namespace Sys2Proof.Machine

@[simp] theorem State.clearStaging_tick (s : State) : s.clearStaging.tick = s.tick := by simp [State.clearStaging]
@[simp] theorem State.refuseKey_tick (s : State) (cmd cause : Nat) : (s.refuseKey cmd cause).tick = s.tick := by
  simp [State.refuseKey]

end Sys2Proof.Machine
end

section
/-! SUPPORT. What the operations of the queues leave of the tick generator (Machine/SchedOps.lean). -/

namespace Sys2Proof.Machine

@[simp] theorem State.pktTo_tick (s : State) (cyc : Nat) : (s.pktTo cyc).tick = s.tick := rfl
@[simp] theorem State.queueDrop_tick (s : State) (q : Nat) : (s.queueDrop q).tick = s.tick := by simp [State.queueDrop]

@[simp] theorem State.takeIn_tick (s : State) (node1 q : Nat) (f : Frame) (bucket : Option (Nat × Nat)) :
    (s.takeIn node1 q f bucket).tick = s.tick := by
  unfold State.takeIn
  dsimp only
  repeat' split
  all_goals simp

@[simp] theorem State.noNode_tick (s : State) (node1 sel : Nat) (f : Frame) : (s.noNode node1 sel f).tick = s.tick := by
  simp [State.noNode]
@[simp] theorem State.enqueueAt_tick (s : State) (node1 node2 sel : Nat) (f : Frame) (bucket : Option (Nat × Nat)) :
    (s.enqueueAt node1 node2 sel f bucket).tick = s.tick := by
  simp [State.enqueueAt]
@[simp] theorem State.payQueues_tick (s : State) (node2 : Nat) (l : List (Nat × Int)) :
    (s.payQueues node2 l).tick = s.tick := by
  fun_induction s.payQueues node2 l <;> simp [*]
@[simp] theorem State.payNodes_tick (s : State) (l : List (Nat × Int)) : (s.payNodes l).tick = s.tick := by
  fun_induction s.payNodes l <;> simp [*]
@[simp] theorem State.takeHead_tick (s : State) (node1 q : Nat) : (s.takeHead node1 q).tick = s.tick := by
  unfold State.takeHead
  dsimp only
  split <;> simp

@[simp] theorem State.chargeAll_tick (s : State) (node1 q : Nat) (f : Frame) :
    (s.chargeAll node1 q f).tick = s.tick := by
  unfold State.chargeAll
  dsimp only
  repeat' split
  all_goals simp

@[simp] theorem State.serveNode2_tick (s : State) (node1 node2 : Nat) : (s.serveNode2 node1 node2).1.tick = s.tick := by
  unfold State.serveNode2
  split
  · rfl
  · dsimp only
    split <;> simp

@[simp] theorem State.serveNode1_tick (s : State) (node1 : Nat) (ok : Nat → Bool) :
    (s.serveNode1 node1 ok).1.tick = s.tick := by
  unfold State.serveNode1
  dsimp only
  repeat' split
  all_goals simp

@[simp] theorem State.hostRecord_tick (s : State) (q src : Nat) (bs : List Byte) :
    (s.hostRecord q src bs).tick = s.tick := by
  unfold State.hostRecord
  split
  next h => simp [State.tick_of_eq h]
  next h => simp [State.tick_of_eq h]

end Sys2Proof.Machine
end

section
/-! SUPPORT. What the operations of the time of day leave of the tick generator (Machine/TimeOps.lean). -/

namespace Sys2Proof.Machine

@[simp] theorem State.rawTo_tick (s : State) (r : Nat) : (s.rawTo r).tick = s.tick := by simp [State.rawTo]
@[simp] theorem State.captureAt_tick (s : State) (kind source raw u : Nat) (tag : List Byte) :
    (s.captureAt kind source raw u tag).1.tick = s.tick := by
  simp [State.captureAt]
@[simp] theorem State.capture_tick (s : State) (kind source : Nat) (tag : List Byte) :
    (s.capture kind source tag).1.tick = s.tick := by
  simp [State.capture]
@[simp] theorem State.refuseTime_tick (s : State) (op : Nat) : (s.refuseTime op).tick = s.tick := by
  simp [State.refuseTime]
@[simp] theorem State.timeCmd_tick (s : State) (op a : Nat) : (s.timeCmd op a).tick = s.tick := by simp [State.timeCmd]
@[simp] theorem State.setLaunchQ_tick (s : State) (m : Nat) (l : List Launch) : (s.setLaunchQ m l).tick = s.tick := by
  simp [State.setLaunchQ]

end Sys2Proof.Machine
end

section
/-! SUPPORT. What the operations of the host queues leave of the tick generator (Machine/HostQueueOps.lean). -/

namespace Sys2Proof.Machine

@[simp] theorem State.writeBuffers_tick (s : State) (f size : Nat) (l : List Nat) (ws : List Byte) :
    (s.writeBuffers f size l ws).tick = s.tick := by
  fun_induction s.writeBuffers f size l ws <;> simp [*]
@[simp] theorem State.popDq_tick (s : State) (q : Nat) : (s.popDq q).1.tick = s.tick := by
  unfold State.popDq
  dsimp only
  split <;> simp
@[simp] theorem State.popAnswer_tick (s : State) (f hi : Nat) (c : Descriptor) :
    (s.popAnswer f hi c).tick = s.tick := by
  simp [State.popAnswer]
@[simp] theorem State.dropFront_tick (s : State) (q : Nat) : (s.dropFront q).tick = s.tick := by
  unfold State.dropFront
  dsimp only
  split <;> simp
@[simp] theorem State.reachDq_tick (s : State) (q : Nat) (f : Frame) : (s.reachDq q f).tick = s.tick := by
  simp [State.reachDq]

end Sys2Proof.Machine
end

section
/-! SUPPORT. What the operations of the contexts leave of the tick generator (Machine/CtxOps.lean). -/

namespace Sys2Proof.Machine

@[simp] theorem State.readHalves_tick (s : State) (base first : Nat) (n : Nat) :
    (s.readHalves base first n).1.tick = s.tick := by
  induction n with
  | zero => rfl
  | succ n ih =>
    rw [State.readHalves]
    split
    next u e h => simp [State.tick_of_eq h, ih]
    next u hs h =>
      split
      next v bs hv => simp [State.tick_of_eq hv, State.tick_of_eq h, ih]
      next v e hv => simp [State.tick_of_eq hv, State.tick_of_eq h, ih]

@[simp] theorem State.writeHalves_tick (s : State) (base : Nat) (n : Nat) (l : List (List Byte)) :
    (s.writeHalves base n l).tick = s.tick := by
  fun_induction s.writeHalves base n l <;> simp [*]

theorem applyHalves_tick {f : Nat → List Byte → State → State} (hf : ∀ i h u, (f i h u).tick = u.tick) (i : Nat)
    (l : List (List Byte)) (s : State) : (applyHalves f i l s).tick = s.tick := by
  induction l generalizing s i with
  | nil => rfl
  | cons h l ih => rw [applyHalves, ih, hf]

@[simp] theorem ctxLoad_tick {load : Nat → List Byte → State → State} (hload : ∀ i h u, (load i h u).tick = u.tick)
    (p : Pkt)
    (base entries : Nat) (check : State → List (List Byte) → Nat → List Byte → Option Nat) (s : State) :
    (ctxLoad p base entries check load s).state.tick = s.tick := by
  unfold ctxLoad
  extract_lets +onlyGivenNames first n got
  have hgot : got.1.tick = s.tick := by simp [got]
  clear_value got
  split
  · rfl
  split
  · rfl
  split
  next u i => exact hgot
  next u hs =>
    split
    · exact hgot
    · simpa [applyHalves_tick hload] using hgot

@[simp] theorem ctxRead_tick (p : Pkt) (entries : Nat) (entry : State → Nat → List Byte) (s : State) :
    (ctxRead p entries entry s).state.tick = s.tick := by
  simp [ctxRead]
@[simp] theorem State.unbindLine_tick (s : State) (i : Nat) : (s.unbindLine i).tick = s.tick := by
  simp [State.unbindLine]
@[simp] theorem loadLine_tick (i : Nat) (h : List Byte) (s : State) : (loadLine i h s).tick = s.tick := by
  simp [loadLine]

end Sys2Proof.Machine
end

section
/-! SUPPORT. What the operations of bonding leave of the tick generator (Machine/BondOps.lean). -/

namespace Sys2Proof.Machine

@[simp] theorem State.sendStatus_tick (s : State) (g : Nat) : (s.sendStatus g).tick = s.tick := by
  simp [State.sendStatus]
@[simp] theorem State.countMove_tick (s : State) (g : Nat) : (s.countMove g).tick = s.tick := by simp [State.countMove]

@[simp] theorem State.placeMoved_tick (s : State) (g dst oldQ : Nat) (x : QFrame) :
    (s.placeMoved g dst oldQ x).tick = s.tick := by
  unfold State.placeMoved
  dsimp only
  repeat' split
  all_goals simp

@[simp] theorem State.moveFrames_tick (s : State) (g k dst : Nat) (l : List Nat) :
    (s.moveFrames g k dst l).tick = s.tick := by
  induction l generalizing s with
  | nil => rfl
  | cons x l ih => simp [State.moveFrames, ih]

@[simp] theorem State.moveBucket_tick (s : State) (g k dst : Nat) : (s.moveBucket g k dst).tick = s.tick := by
  simp [State.moveBucket]

@[simp] theorem State.moveInactive_tick (s : State) (g : Nat) : (s.moveInactive g).tick = s.tick := by
  refine State.foldl_tick (fun u k => ?_) _ _
  dsimp only
  split
  · rfl
  · split <;> simp

@[simp] theorem State.spreadFrame_tick (s : State) (g : Nat) (f : Frame) : (s.spreadFrame g f).1.tick = s.tick := by
  unfold State.spreadFrame
  dsimp only
  repeat' split
  all_goals simp

@[simp] theorem State.toClassifier_tick (s : State) (f : Frame) : (s.toClassifier f).tick = s.tick := by
  simp [State.toClassifier]
@[simp] theorem State.releaseRun_tick (s : State) (g : Nat) (l : List HeldSdu) : (s.releaseRun g l).tick = s.tick := by
  fun_induction s.releaseRun g l <;> simp_all
@[simp] theorem State.skipTo_tick (s : State) (g x : Nat) : (s.skipTo g x).1.tick = s.tick := by simp [State.skipTo]
@[simp] theorem State.skipOldest_tick (s : State) (g : Nat) : (s.skipOldest g).1.tick = s.tick := by
  unfold State.skipOldest
  split <;> simp
@[simp] theorem State.earlyRelease_tick (s : State) (g : Nat) (n : Nat) : (s.earlyRelease g n).tick = s.tick := by
  induction n generalizing s with
  | zero => rfl
  | succ n ih => simp [State.earlyRelease, ih]
@[simp] theorem State.releaseEarly_tick (s : State) (g : Nat) : (s.releaseEarly g).tick = s.tick := by
  simp [State.releaseEarly]
@[simp] theorem State.resequence_tick (s : State) (g seq : Nat) (f : Frame) : (s.resequence g seq f).tick = s.tick := by
  simp [State.resequence]

@[simp] theorem State.tellMembers_tick (s : State) (g : Nat) (old new : List Nat) (n : Nat) :
    (s.tellMembers g old new n).tick = s.tick := by
  induction n with
  | zero => rfl
  | succ n ih => simp [State.tellMembers, ih]

@[simp] theorem State.reevalGroup_tick (s : State) (g : Nat) : (s.reevalGroup g).tick = s.tick := by
  simp [State.reevalGroup]
@[simp] theorem State.reeval_tick (s : State) (n : Nat) : (s.reeval n).tick = s.tick := by
  unfold State.reeval
  split <;> simp
@[simp] theorem State.statusRepeats_tick (s : State) : s.statusRepeats.tick = s.tick := by simp [State.statusRepeats]

end Sys2Proof.Machine
end

section
/-! SUPPORT. What the operations of the vector engines leave of the tick generator (Machine/EngOps.lean). -/

namespace Sys2Proof.Machine

@[simp] theorem State.modTg_tick (s : State) (g k : Nat) (f : TGroup → TGroup) : (s.modTg g k f).tick = s.tick := by
  simp [State.modTg]

end Sys2Proof.Machine
end

section
/-! SUPPORT. What the operations of instruction issue leave of the tick generator (Machine/EngIssue.lean). -/

namespace Sys2Proof.Machine

@[simp] theorem State.bypassSymbol_tick (s : State) (e : Nat) : (s.bypassSymbol e).tick = s.tick := by
  unfold State.bypassSymbol
  split
  · rfl
  · dsimp only
    split <;> simp

@[simp] theorem State.raiseIp_tick (s : State) (e n : Nat) : (s.raiseIp e n).tick = s.tick := by simp [State.raiseIp]
@[simp] theorem State.injectEng_tick (s : State) (m e i : Nat) : (s.injectEng m e i).tick = s.tick := by
  unfold State.injectEng
  split <;> simp
@[simp] theorem State.applyFx_tick (s : State) (e : Nat) (f : Fx) : (s.applyFx e f).tick = s.tick := by
  unfold State.applyFx
  split <;> simp

@[simp] theorem State.endCy_tick (s : State) (e : Nat) (k : Cy) : (s.endCy e k).tick = s.tick := by
  unfold State.endCy
  dsimp only
  rw [State.foldl_tick fun u f => State.applyFx_tick u e f]
  simp

@[simp] theorem State.setRetiring_tick (s : State) (rs : List Retiring) : (s.setRetiring rs).tick = s.tick := by
  simp [State.setRetiring]
@[simp] theorem State.setWork_tick (s : State) (e : Nat) (w : SlabWork) : (s.setWork e w).tick = s.tick := by
  simp [State.setWork]

@[simp] theorem State.startCopy_tick (s : State) (n : Nat) : (s.startCopy n).tick = s.tick := by
  induction n generalizing s with
  | zero => rfl
  | succ n ih =>
    rw [State.startCopy]
    dsimp only
    split
    · rfl
    · split
      · rfl
      · split
        · simp
        · rw [ih]
          split <;> simp

@[simp] theorem State.trigger_tick (s : State) (e cause : Nat) (auto : Bool) (cmd : Option (Nat × Nat)) :
    (s.trigger e cause auto cmd).tick = s.tick := by
  simp [State.trigger]
@[simp] theorem State.checkUe_tick (s : State) (e : Nat) : (s.checkUe e).tick = s.tick := by simp [State.checkUe]
@[simp] theorem State.engFault_tick (s : State) (e code pc : Nat) : (s.engFault e code pc).tick = s.tick := by
  simp [State.engFault]
@[simp] theorem State.fetchFault_tick (s : State) (e : Nat) : (s.fetchFault e).tick = s.tick := by
  simp [State.fetchFault]

@[simp] theorem State.issueWord_tick (s : State) (e w : Nat) (ce : Bool) : (s.issueWord e w ce).tick = s.tick := by
  unfold State.issueWord
  extract_lets u env k
  have hu : u.tick = s.tick := by simp [u]
  clear_value u env k
  cases k.x.faultOf w with
  | some c => simp [hu]
  | none => simp [hu]

@[simp] theorem State.issue_tick (s : State) (e : Nat) (pick : Nat → Bool) : (s.issue e pick).tick = s.tick := by
  unfold State.issue
  dsimp only
  repeat' split
  all_goals simp

@[simp] theorem State.enterInt_tick (s : State) (e idle : Nat) : (s.enterInt e idle).tick = s.tick := by
  unfold State.enterInt
  dsimp only
  split <;> simp

end Sys2Proof.Machine
end

section
/-! SUPPORT. What the operations of the slabs leave of the tick generator (Machine/SlabOps.lean). -/

namespace Sys2Proof.Machine

@[simp] theorem State.settleSlab_tick (s : State) (e : Nat) : (s.settleSlab e).tick = s.tick := by
  simp [State.settleSlab]
@[simp] theorem State.slabRequest_tick (s : State) (e mode : Nat) : (s.slabRequest e mode).tick = s.tick := by
  simp [State.slabRequest]
@[simp] theorem State.spareReady_tick (s : State) (e : Nat) : (s.spareReady e).tick = s.tick := by
  simp [State.spareReady]
@[simp] theorem State.leaveOff_tick (s : State) (e : Nat) : (s.leaveOff e).tick = s.tick := by simp [State.leaveOff]
@[simp] theorem State.workEnds_tick (s : State) (e : Nat) : (s.workEnds e).tick = s.tick := by simp [State.workEnds]
@[simp] theorem State.loseSlab_tick (s : State) (e cause word : Nat) : (s.loseSlab e cause word).tick = s.tick := by
  unfold State.loseSlab
  dsimp only
  split <;> simp

@[simp] theorem State.reloadEnds_tick (s : State) (e : Nat) : (s.reloadEnds e).tick = s.tick := by
  unfold State.reloadEnds
  dsimp only
  repeat' split
  all_goals simp

@[simp] theorem State.fillEnds_tick (s : State) (e : Nat) : (s.fillEnds e).tick = s.tick := by simp [State.fillEnds]

@[simp] theorem State.wakeEnds_tick (s : State) (e : Nat) : (s.wakeEnds e).tick = s.tick := by
  unfold State.wakeEnds
  dsimp only
  repeat' split
  all_goals simp

@[simp] theorem State.stopEng_tick (s : State) (e : Nat) : (s.stopEng e).tick = s.tick := by simp [State.stopEng]
@[simp] theorem State.resetEng_tick (s : State) (e : Nat) : (s.resetEng e).tick = s.tick := by simp [State.resetEng]
@[simp] theorem State.runEng_tick (s : State) (e : Nat) : (s.runEng e).tick = s.tick := by simp [State.runEng]

@[simp] theorem State.copyEnds_tick (s : State) : s.copyEnds.tick = s.tick := by
  unfold State.copyEnds
  split
  · simp
  · split <;> simp

end Sys2Proof.Machine
end

section
/-! SUPPORT. What the operations of the groups leave of the tick generator (Machine/GroupOps.lean). -/

namespace Sys2Proof.Machine

@[simp] theorem State.cutOff_tick (s : State) (g q : Nat) : (s.cutOff g q).tick = s.tick := by
  unfold State.cutOff
  dsimp only
  split <;> simp
@[simp] theorem State.handTile_tick (s : State) (k p pos tick : Nat) (fb : Bool) (c : Codeword) :
    (s.handTile k p pos tick fb c).1.tick = s.tick := by
  unfold State.handTile
  split <;> simp
@[simp] theorem State.dmaPut_tick (s : State) (e i : Nat) (c : Codeword) : (s.dmaPut e i c).tick = s.tick := by
  simp [State.dmaPut]

theorem State.dmaWrite_tick {s : State} {g k q : Nat} {y : Sym} {r : State × Sym} (h : s.dmaWrite g k q y = some r) :
    r.1.tick = s.tick := by
  unfold State.dmaWrite at h
  simp only [Option.ite_none_left_eq_some] at h
  obtain ⟨-, h⟩ := h
  split at h
  · obtain ⟨-, h⟩ := Option.ite_none_right_eq_some.mp h
    obtain rfl := Option.some.inj h
    simp
  · obtain ⟨-, h⟩ := Option.ite_none_right_eq_some.mp h
    obtain ⟨-, h⟩ := Option.ite_none_left_eq_some.mp h
    obtain rfl := Option.some.inj h
    simp

theorem State.dmaRead_tick {s : State} {g k q : Nat} {y : Sym} {r : State × Sym} (h : s.dmaRead g k q y = some r) :
    r.1.tick = s.tick := by
  unfold State.dmaRead at h
  obtain ⟨-, h⟩ := Option.ite_none_left_eq_some.mp h
  obtain rfl := Option.some.inj h
  simp

@[simp] theorem State.laneOut_tick (s : State) (l : Nat) (o : Output) (bs : List (BitVec 66)) :
    (s.laneOut l o bs).tick = s.tick := by
  simp [State.laneOut]
@[simp] theorem State.pendCtl_tick (s : State) (p pri ty : Nat) (b : List Nat) :
    (s.pendCtl p pri ty b).tick = s.tick := by
  simp [State.pendCtl]
@[simp] theorem State.sendCtl_tick (s : State) (p : Nat) (c : CtlPend) : (s.sendCtl p c).tick = s.tick := by
  simp [State.sendCtl]
@[simp] theorem State.sendIdles_tick (s : State) (p n : Nat) : (s.sendIdles p n).tick = s.tick := by
  simp [State.sendIdles]
@[simp] theorem State.txSlot_tick (s : State) (p : Nat) : (s.txSlot p).tick = s.tick := by
  unfold State.txSlot
  dsimp only
  split <;> simp
@[simp] theorem State.txDrain_tick (s : State) (p : Nat) (n : Nat) : (s.txDrain p n).tick = s.tick := by
  fun_induction s.txDrain p n <;> simp [*]
@[simp] theorem State.txData_tick (s : State) (p : Nat) (n : Nat) (i : Nat) : (s.txData p n i).tick = s.tick := by
  fun_induction s.txData p n i <;> simp [*]
@[simp] theorem State.txToMarker_tick (s : State) (p : Nat) (n : Nat) : (s.txToMarker p n).tick = s.tick := by
  induction n generalizing s with
  | zero => rfl
  | succ n ih => simp [State.txToMarker, ih]
@[simp] theorem State.txSettle_tick (s : State) (p : Nat) : (s.txSettle p).tick = s.tick := by simp [State.txSettle]
@[simp] theorem State.sendMarker_tick (s : State) (p : Nat) : (s.sendMarker p).tick = s.tick := by
  simp [State.sendMarker]
@[simp] theorem State.sendStart_tick (s : State) (g p tick tic : Nat) : (s.sendStart g p tick tic).tick = s.tick := by
  simp [State.sendStart]

@[simp] theorem State.sendPairs_tick (s : State) (p q l : Nat) (y : Sym) (i : Nat) (n : Nat) :
    (s.sendPairs p q l y i n).tick = s.tick := by
  induction n generalizing s i with
  | zero => rfl
  | succ n ih => simp [State.sendPairs, ih]

@[simp] theorem State.sendStream_tick (s : State) (g q : Nat) : (s.sendStream g q).tick = s.tick := by
  unfold State.sendStream
  dsimp only
  split <;> simp
@[simp] theorem State.overrun_tick (s : State) (e tick cause : Nat) : (s.overrun e tick cause).tick = s.tick := by
  simp [State.overrun]

@[simp] theorem State.judgeInput_tick (s : State) (g : Nat) : (s.judgeInput g).tick = s.tick := by
  unfold State.judgeInput
  refine State.foldl_tick (fun u k => ?_) _ _
  dsimp only
  split <;> simp

@[simp] theorem State.restartEng_tick (s : State) (e : Nat) : (s.restartEng e).tick = s.tick := by
  simp [State.restartEng]
@[simp] theorem State.deadline_tick (s : State) (g k : Nat) : (s.deadline g k).tick = s.tick := by
  unfold State.deadline
  dsimp only
  split <;> simp
@[simp] theorem State.discardInput_tick (s : State) (g : Nat) : (s.discardInput g).tick = s.tick := by
  unfold State.discardInput
  dsimp only
  split <;> simp
@[simp] theorem State.symbolEdge_tick (s : State) (g : Nat) : (s.symbolEdge g).tick = s.tick := by
  simp [State.symbolEdge]

end Sys2Proof.Machine
end

section
/-! SUPPORT. What the operations of the vector array at a tick leave of the tick generator (Machine/VecTick.lean). -/

namespace Sys2Proof.Machine

@[simp] theorem State.mapEngs_tick (s : State) (f : Nat → Eng → Eng) : (s.mapEngs f).tick = s.tick := by
  simp [State.mapEngs]
@[simp] theorem State.setRunning_tick (s : State) : s.setRunning.tick = s.tick := rfl
@[simp] theorem State.edgeEng_tick (s : State) (e : Nat) : (s.edgeEng e).tick = s.tick := by simp [State.edgeEng]

@[simp] theorem State.takeOver_tick (s : State) (r : Retiring) : (s.takeOver r).tick = s.tick := by
  unfold State.takeOver
  split
  · split <;> simp
  · simp

@[simp] theorem State.declareLost_tick (s : State) : s.declareLost.tick = s.tick := by
  unfold State.declareLost
  refine State.foldl_tick (fun u k => ?_) _ _
  dsimp only
  split <;> simp

@[simp] theorem State.squallStop_tick (s : State) : s.squallStop.tick = s.tick := by simp [State.squallStop]

@[simp] theorem State.groupStopped_tick (s : State) (g : Nat) : (s.groupStopped g).tick = s.tick := by
  unfold State.groupStopped
  dsimp only
  repeat' split
  all_goals simp

@[simp] theorem State.rewriteImem_tick (s : State) (e : Nat) : (s.rewriteImem e).tick = s.tick := by
  unfold State.rewriteImem
  dsimp only
  split <;> simp

@[simp] theorem State.vecTick_tick (s : State) : s.vecTick.tick = s.tick := by
  unfold State.vecTick
  dsimp only
  rw [State.foldl_tick (fun u e => u.rewriteImem_tick e), State.foldl_tick]
  · simp
  · intro u g
    split <;> simp

@[simp] theorem State.retireDone_tick (s : State) : s.retireDone.tick = s.tick := by
  unfold State.retireDone
  refine State.foldl_tick (fun u k => ?_) _ _
  dsimp only
  split <;> simp

@[simp] theorem State.rungsApply_tick (s : State) (g : Nat) : (s.rungsApply g).tick = s.tick := by
  simp [State.rungsApply]

@[simp] theorem State.releaseTgs_tick (s : State) (g : Nat) : (s.releaseTgs g).tick = s.tick := by
  unfold State.releaseTgs
  refine State.foldl_tick (fun u k => ?_) _ _
  dsimp only
  split <;> simp

@[simp] theorem State.startAtBoundary_tick (s : State) (e : Nat) : (s.startAtBoundary e).tick = s.tick := by
  simp [State.startAtBoundary]

@[simp] theorem State.groupStart_tick (s : State) (g : Nat) : (s.groupStart g).tick = s.tick := by
  unfold State.groupStart
  dsimp only
  repeat' split
  all_goals simp

@[simp] theorem State.groupStopDue_tick (s : State) (g : Nat) : (s.groupStopDue g).tick = s.tick := by
  unfold State.groupStopDue
  dsimp only
  split <;> simp
@[simp] theorem State.planApply_tick (s : State) (g : Nat) : (s.planApply g).tick = s.tick := by simp [State.planApply]
@[simp] theorem State.planOthers_tick (s : State) : s.planOthers.tick = s.tick := by simp [State.planOthers]
@[simp] theorem State.landFence_tick (s : State) (g k : Nat) : (s.landFence g k).tick = s.tick := by
  simp [State.landFence]

@[simp] theorem State.fencesLand_tick (s : State) (g : Nat) : (s.fencesLand g).tick = s.tick := by
  unfold State.fencesLand
  refine State.foldl_tick (fun u k => ?_) _ _
  dsimp only
  split <;> simp

@[simp] theorem State.rejoinsDue_tick (s : State) : s.rejoinsDue.tick = s.tick := by simp [State.rejoinsDue]
@[simp] theorem State.squallLeave_tick (s : State) : s.squallLeave.tick = s.tick := by simp [State.squallLeave]

@[simp] theorem State.vecBoundary_tick (s : State) (grade : Nat) : (s.vecBoundary grade).tick = s.tick := by
  unfold State.vecBoundary
  extract_lets +onlyGivenNames now c s1 s2 v w s3
  have h3 : s3.tick = s.tick := by
    unfold s3
    split <;> simp [s2, s1]
  simp [h3]

end Sys2Proof.Machine
end

section
/-! SUPPORT. What the operations of the vector links leave of the tick generator (Machine/SvlOps.lean). -/

namespace Sys2Proof.Machine

@[simp] theorem State.acquireCheck_tick (s : State) (p : Nat) : (s.acquireCheck p).tick = s.tick := by
  simp [State.acquireCheck]

@[simp] theorem State.lateNow_tick (s : State) (p : Nat) : (s.lateNow p).tick = s.tick := by
  unfold State.lateNow
  split
  · simp
  · split <;> simp

@[simp] theorem State.portDown_tick (s : State) (p cause lane dst : Nat) :
    (s.portDown p cause lane dst).tick = s.tick := by
  simp [State.portDown]
@[simp] theorem State.laneTo_tick (s : State) (p i : Nat) (l : SvlLane) : (s.laneTo p i l).tick = s.tick := by
  simp [State.laneTo]
@[simp] theorem State.laneStep_tick (s : State) (l : Nat) (from_ : List Nat) (f : SvlLane → SvlLane) :
    (s.laneStep l from_ f).tick = s.tick := by
  unfold State.laneStep
  split <;> simp
@[simp] theorem State.enablePort_tick (s : State) (p : Nat) : (s.enablePort p).tick = s.tick := by
  simp [State.enablePort]
@[simp] theorem State.disablePort_tick (s : State) (p : Nat) : (s.disablePort p).tick = s.tick := by
  simp [State.disablePort]
@[simp] theorem State.writePortCfg_tick (s : State) (p v : Nat) : (s.writePortCfg p v).tick = s.tick := by
  simp [State.writePortCfg]
@[simp] theorem State.portUp_tick (s : State) (p : Nat) (ms : List (List Nat)) : (s.portUp p ms).tick = s.tick := by
  simp [State.portUp]

@[simp] theorem State.takeMarker_tick (s : State) (p i : Nat) (m : List Nat) : (s.takeMarker p i m).tick = s.tick := by
  unfold State.takeMarker
  dsimp only
  repeat' split
  all_goals simp

@[simp] theorem State.misalign_tick (s : State) (p tick lane : Nat) : (s.misalign p tick lane).tick = s.tick := by
  simp [State.misalign]

@[simp] theorem State.takePair_tick (s : State) (p i bits : Nat) : (s.takePair p i bits).tick = s.tick := by
  unfold State.takePair
  dsimp only
  repeat' split
  all_goals simp

@[simp] theorem State.takeStart_tick (s : State) (p grp tickNo : Nat) : (s.takeStart p grp tickNo).tick = s.tick := by
  unfold State.takeStart
  dsimp only
  repeat' split
  all_goals simp

@[simp] theorem State.takeFb_tick (s : State) (p i : Nat) : (s.takeFb p i).tick = s.tick := by
  unfold State.takeFb
  dsimp only
  split <;> simp
@[simp] theorem State.onStart_tick (s : State) (p i grp tickNo : Nat) : (s.onStart p i grp tickNo).tick = s.tick := by
  unfold State.onStart
  dsimp only
  split <;> simp
@[simp] theorem State.takeData_tick (s : State) (p i : Nat) (d : BitVec 64) : (s.takeData p i d).tick = s.tick := by
  simp [State.takeData]
@[simp] theorem State.takeStatus_tick (s : State) (p line rate st : Nat) :
    (s.takeStatus p line rate st).tick = s.tick := by
  simp [State.takeStatus]
@[simp] theorem State.takeControl_tick (s : State) (p i pos : Nat) (d : BitVec 64) :
    (s.takeControl p i pos d).tick = s.tick := by
  simp [State.takeControl]
@[simp] theorem State.takeBlock_tick (s : State) (p i pos h : Nat) (d : BitVec 64) :
    (s.takeBlock p i pos h d).tick = s.tick := by
  simp [State.takeBlock]
@[simp] theorem State.hearBlock_tick (s : State) (p i pos : Nat) (b : BitVec 66) :
    (s.hearBlock p i pos b).tick = s.tick := by
  simp [State.hearBlock]
@[simp] theorem State.laneBlocks_tick (s : State) (p i pos : Nat) (bs : List (BitVec 66)) :
    (s.laneBlocks p i pos bs).tick = s.tick := by
  simp [State.laneBlocks]
@[simp] theorem State.portBlocks_tick (s : State) (p i pos : Nat) (from_ : List Nat) (bs : List (BitVec 66)) :
    (s.portBlocks p i pos from_ bs).tick = s.tick := by
  simp [State.portBlocks]
@[simp] theorem State.laneHears_tick (s : State) (l : Nat) (from_ : List Nat) (bs : List (BitVec 66)) :
    (s.laneHears l from_ bs).tick = s.tick := by
  unfold State.laneHears
  split <;> simp
@[simp] theorem State.control_tick (s : State) (p i pos ty : Nat) (b : BitVec 66) :
    (s.control p i pos ty b).tick = s.tick := by
  simp [State.control]

@[simp] theorem State.deliverPort_tick {deliver : State → Nat → Nat → Nat → State}
    (h : ∀ u i ndr st, (deliver u i ndr st).tick = u.tick) (s : State) (p : Nat) :
    (s.deliverPort p deliver).tick = s.tick := by
  refine State.foldl_tick (fun u k => ?_) _ _
  dsimp only
  rw [h]
  simp

end Sys2Proof.Machine
end

section
/-! SUPPORT. What the operations of the lanes leave of the tick generator (Machine/LaneOps.lean). -/

namespace Sys2Proof.Machine

@[simp] theorem State.laneEvent_tick (s : State) (l sev row : Nat) (fs : List (Nat × Nat)) :
    (s.laneEvent l sev row fs).tick = s.tick := by
  simp [State.laneEvent]

@[simp] theorem State.endEye_tick (s : State) (l result cause : Nat) : (s.endEye l result cause).tick = s.tick := by
  unfold State.endEye
  dsimp only
  repeat' split
  all_goals simp

@[simp] theorem State.setLaneRate_tick (s : State) (l r : Nat) : (s.setLaneRate l r).tick = s.tick := by
  simp [State.setLaneRate]
@[simp] theorem State.ethEvent_tick (s : State) (m sev row : Nat) (fs : List (Nat × Nat)) :
    (s.ethEvent m sev row fs).tick = s.tick := by
  simp [State.ethEvent]
@[simp] theorem State.macRate_tick (s : State) (m r : Nat) : (s.macRate m r).tick = s.tick := by simp [State.macRate]
@[simp] theorem State.glideOff_tick (s : State) (m : Nat) : (s.glideOff m).tick = s.tick := by simp [State.glideOff]
@[simp] theorem State.glideFail_tick (s : State) (m cause : Nat) : (s.glideFail m cause).tick = s.tick := by
  simp [State.glideFail]
@[simp] theorem State.retrainLost_tick (s : State) (m : Nat) : (s.retrainLost m).tick = s.tick := by
  simp [State.retrainLost]
@[simp] theorem State.ethLinkDown_tick (s : State) (m cause : Nat) : (s.ethLinkDown m cause).tick = s.tick := by
  simp [State.ethLinkDown]
@[simp] theorem State.rxAsleep_tick (s : State) (l : Nat) : (s.rxAsleep l).tick = s.tick := by simp [State.rxAsleep]
@[simp] theorem State.laneEval_tick (s : State) (l : Nat) : (s.laneEval l).tick = s.tick := by simp [State.laneEval]
@[simp] theorem State.lanesEval_tick (s : State) : s.lanesEval.tick = s.tick := by simp [State.lanesEval]
@[simp] theorem State.setPortCfg_tick (s : State) (p v : Nat) : (s.setPortCfg p v).tick = s.tick := by
  simp [State.setPortCfg]

@[simp] theorem State.portAfterTest_tick (s : State) (l : Nat) : (s.portAfterTest l).tick = s.tick := by
  unfold State.portAfterTest
  split
  · split <;> simp
  · simp

@[simp] theorem State.testEval_tick (s : State) (l : Nat) : (s.testEval l).tick = s.tick := rfl
@[simp] theorem State.serialLoop_tick (s : State) (n : Nat) : (s.serialLoop n).tick = s.tick := by
  simp [State.serialLoop]
@[simp] theorem State.setLoop_tick (s : State) (l loop : Nat) : (s.setLoop l loop).tick = s.tick := by
  simp [State.setLoop]
@[simp] theorem State.setChecker_tick (s : State) (l : Nat) (on : Bool) : (s.setChecker l on).tick = s.tick := by
  simp [State.setChecker]
@[simp] theorem State.setGen_tick (s : State) (l : Nat) (on : Bool) : (s.setGen l on).tick = s.tick := by
  simp [State.setGen]
@[simp] theorem State.setPattern_tick (s : State) (l v : Nat) : (s.setPattern l v).tick = s.tick := by
  simp [State.setPattern]
@[simp] theorem State.genWord_tick (s : State) (l : Nat) : (s.genWord l).1.tick = s.tick := by simp [State.genWord]
@[simp] theorem State.rxWord_tick (s : State) (l : Nat) (w : BitVec 64) : (s.rxWord l w).tick = s.tick := by
  simp [State.rxWord]
@[simp] theorem State.endInj_tick (s : State) (l : Nat) : (s.endInj l).tick = s.tick := by simp [State.endInj]
@[simp] theorem State.writeLaneInj_tick (s : State) (l v : Nat) : (s.writeLaneInj l v).tick = s.tick := by
  simp [State.writeLaneInj]
@[simp] theorem State.injMask_tick (s : State) (l : Nat) : (s.injMask l).1.tick = s.tick := by simp [State.injMask]
@[simp] theorem State.txWord_tick (s : State) (l : Nat) (w : BitVec 64) : (s.txWord l w).tick = s.tick := by
  simp [State.txWord]
@[simp] theorem State.sendWords_tick (s : State) (l : Nat) (ws : List (BitVec 64)) :
    (s.sendWords l ws).tick = s.tick := by
  simp [State.sendWords]
@[simp] theorem State.receiveWords_tick (s : State) (l : Nat) (ws : List (BitVec 64)) :
    (s.receiveWords l ws).tick = s.tick := by
  simp [State.receiveWords]
@[simp] theorem State.burstRate_tick (s : State) (n kbps : Nat) : (s.burstRate n kbps).tick = s.tick := by
  simp [State.burstRate]
@[simp] theorem State.startEye_tick (s : State) (l : Nat) (cmd : Option (Nat × Nat)) :
    (s.startEye l cmd).tick = s.tick := by
  simp [State.startEye]
@[simp] theorem State.writeTxfir_tick (s : State) (l r v : Nat) : (s.writeTxfir l r v).1.tick = s.tick := by
  simp [State.writeTxfir]
@[simp] theorem State.loadPonSets_tick (s : State) (n : Nat) : (s.loadPonSets n).tick = s.tick := by
  simp [State.loadPonSets]
@[simp] theorem State.setLanePwr_tick (s : State) (l v : Nat) : (s.setLanePwr l v).tick = s.tick := by
  simp [State.setLanePwr]

end Sys2Proof.Machine
end

section
/-! SUPPORT. What the operations of the Ethernet ports leave of the tick generator (Machine/EthOps.lean). -/

namespace Sys2Proof.Machine

@[simp] theorem State.rxCount_tick (s : State) (m len : Nat) : (s.rxCount m len).tick = s.tick := by
  simp [State.rxCount]
@[simp] theorem State.frameOut_tick (s : State) (m : Nat) (bs : List Byte) (ok : Bool) :
    (s.frameOut m bs ok).tick = s.tick := by
  simp [State.frameOut]
@[simp] theorem State.frameIn_tick (s : State) (m : Nat) (bs : List Byte) (ok : Bool) :
    (s.frameIn m bs ok).1.tick = s.tick := by
  simp [State.frameIn]
@[simp] theorem State.txFrame_tick (s : State) (m : Nat) (bs : List Byte) (ok : Bool) :
    (s.txFrame m bs ok).tick = s.tick := by
  simp [State.txFrame]
@[simp] theorem State.sendGlide_tick (s : State) (m type trans target reason : Nat) :
    (s.sendGlide m type trans target reason).tick = s.tick := by
  simp [State.sendGlide]

theorem State.controlIn_tick {s u : State} {m kind trans target : Nat} (h : s.controlIn m kind trans target = some u) :
    u.tick = s.tick := by
  unfold State.controlIn at h
  dsimp only at h
  split at h
  · cases h
  split at h
  · split at h
    · obtain ⟨-, h⟩ := Option.ite_none_right_eq_some.mp h
      obtain rfl := Option.some.inj h
      simp
    · cases h
  · obtain rfl := Option.some.inj h
    simp

@[simp] theorem State.glideEval_tick (s : State) (m : Nat) : (s.glideEval m).tick = s.tick := by simp [State.glideEval]
@[simp] theorem State.sendReq_tick (s : State) (m : Nat) : (s.sendReq m).tick = s.tick := by simp [State.sendReq]
@[simp] theorem State.startReq_tick (s : State) (m target : Nat) : (s.startReq m target).tick = s.tick := by
  simp [State.startReq]
@[simp] theorem State.reqFail_tick (s : State) (m cause : Nat) : (s.reqFail m cause).tick = s.tick := by
  simp [State.reqFail]
@[simp] theorem State.startRetrain_tick (s : State) (m target : Nat) (ours : Bool) :
    (s.startRetrain m target ours).tick = s.tick := by
  simp [State.startRetrain]
@[simp] theorem State.macBoundary_tick (s : State) (m : Nat) : (s.macBoundary m).tick = s.tick := by
  simp [State.macBoundary]
@[simp] theorem State.writeEthCfg_tick (s : State) (m v : Nat) : (s.writeEthCfg m v).tick = s.tick := by
  simp [State.writeEthCfg]
@[simp] theorem State.writeGlide_tick (s : State) (m v : Nat) : (s.writeGlide m v).tick = s.tick := by
  simp [State.writeGlide]
@[simp] theorem State.oneStep_tick (s : State) (f : Frame) (u : Nat) : (s.oneStep f u).1.tick = s.tick := by
  simp [State.oneStep]
@[simp] theorem State.sendFrame_tick (s : State) (m : Nat) (f : Frame) (raw : Nat) (met : Option Nat) :
    (s.sendFrame m f raw met).tick = s.tick := by
  simp [State.sendFrame]

end Sys2Proof.Machine
end

section
/-! SUPPORT. What the operations of frames of the host leave of the tick generator (Machine/HostQueues.lean). -/

namespace Sys2Proof.Machine

@[simp] theorem State.badIndex_tick (s : State) (dir q func v : Nat) : (s.badIndex dir q func v).tick = s.tick := by
  simp [State.badIndex]
@[simp] theorem State.rxCapture_tick (s : State) (q commits : Nat) (f : Frame) :
    (s.rxCapture q commits f).1.tick = s.tick := by
  unfold State.rxCapture
  split <;> simp

end Sys2Proof.Machine
end

section
/-! SUPPORT. What the operations of memory commands leave of the tick generator (Machine/Memory.lean). -/

namespace Sys2Proof.Machine

@[simp] theorem State.writeInj_tick (s : State) (v : Nat) : (s.writeInj v).tick = s.tick := by simp [State.writeInj]

end Sys2Proof.Machine
end

section
/-! SUPPORT. What the operations of the journal leave of the tick generator (Machine/JournalOps.lean). -/

namespace Sys2Proof.Machine

@[simp] theorem State.flushEvents_tick (s : State) : s.flushEvents.tick = s.tick := by simp [State.flushEvents]
@[simp] theorem State.blockReset_tick (s : State) : s.blockReset.tick = {} := rfl

end Sys2Proof.Machine
end

section
/-! SUPPORT. What the operations of a channel leave of the tick generator (Machine/PonOps.lean). -/

namespace Sys2Proof.Machine

@[simp] theorem State.setAct_tick (s : State) (n : Nat) (a : Act) : (s.setAct n a).tick = s.tick := by
  simp [State.setAct]
@[simp] theorem State.dropQueue_tick (s : State) (q : Nat) (l : List QFrame) : (s.dropQueue q l).tick = s.tick := by
  induction l generalizing s with
  | nil => rfl
  | cons x l ih => simp [State.dropQueue, ih]
@[simp] theorem State.dropNode_tick (s : State) (n node : Nat) (test : QFrame → Bool) :
    (s.dropNode n node test).tick = s.tick := by
  simp [State.dropNode]
@[simp] theorem State.dropAllocNode_tick (s : State) (n i : Nat) (test : QFrame → Bool) :
    (s.dropAllocNode n i test).tick = s.tick := by
  unfold State.dropAllocNode
  split <;> simp
@[simp] theorem State.freeAlloc_tick (s : State) (n i : Nat) : (s.freeAlloc n i).tick = s.tick := by
  simp [State.freeAlloc]
@[simp] theorem State.assignAlloc_tick (s : State) (n alloc st : Nat) : (s.assignAlloc n alloc st).tick = s.tick := by
  unfold State.assignAlloc
  split <;> simp
@[simp] theorem State.dropIdentity_tick (s : State) (n : Nat) : (s.dropIdentity n).tick = s.tick := by
  simp [State.dropIdentity]
@[simp] theorem State.tryO23_tick (s : State) (n : Nat) : (s.tryO23 n).tick = s.tick := by simp [State.tryO23]
@[simp] theorem State.syncGained_tick (s : State) (n : Nat) : (s.syncGained n).tick = s.tick := by
  unfold State.syncGained
  split <;> simp
@[simp] theorem State.enterO5_tick (s : State) (n : Nat) : (s.enterO5 n).tick = s.tick := by
  unfold State.enterO5
  dsimp only
  split <;> simp
@[simp] theorem State.ploamRecord_tick (s : State) (n dir disp act sfc : Nat) (raw : List Byte) :
    (s.ploamRecord n dir disp act sfc raw).tick = s.tick := by
  unfold State.ploamRecord
  split <;> simp
@[simp] theorem State.ploamCopy_tick (s : State) (n : Nat) (m : UpMsg) : (s.ploamCopy n m).tick = s.tick := by
  simp [State.ploamCopy]
@[simp] theorem State.sendUp_tick (s : State) (n : Nat) (m : UpMsg) : (s.sendUp n m).tick = s.tick := by
  simp [State.sendUp]
@[simp] theorem State.sendAll_tick (s : State) (n : Nat) (l : List UpMsg) : (s.sendAll n l).tick = s.tick := by
  fun_induction s.sendAll n l <;> simp [*]
@[simp] theorem State.discardPart_tick (s : State) (n sfc : Nat) : (s.discardPart n sfc).tick = s.tick := by
  simp [State.discardPart]

theorem runPloam_tick {m : Ploam} {body : State → Option PloamOut} (hbody : ∀ u r, body u = some r → r.s.tick = u.tick)
    (s : State) : (runPloam m body s).tick = s.tick := by
  unfold runPloam
  extract_lets +onlyGivenNames n c
  split
  · rfl
  split
  · simp
  split
  · simp
  extract_lets +onlyGivenNames u
  have hu : u.tick = s.tick := State.readKey_tick ..
  split
  · simp [hu]
  split
  · exact hu
  split
  · simp [hu]
  split
  · exact hu
  next r hr =>
    have hs : r.s.tick = s.tick := (hbody _ r hr).trans hu
    dsimp only
    split <;> simp [hs]

@[simp] theorem State.eqReset_tick (s : State) (n : Nat) : (s.eqReset n).tick = s.tick := by simp [State.eqReset]
@[simp] theorem State.zeroTaps_tick (s : State) (n : Nat) : (s.zeroTaps n).tick = s.tick := by simp [State.zeroTaps]
@[simp] theorem State.eqRun_tick (s : State) (n : Nat) (cycles : List EqCycle) : (s.eqRun n cycles).tick = s.tick := by
  simp [State.eqRun]
@[simp] theorem State.eqAdapt_tick (s : State) (n : Nat) : (s.eqAdapt n).tick = s.tick := by simp [State.eqAdapt]
@[simp] theorem State.eqLatch_tick (s : State) (n mse : Nat) : (s.eqLatch n mse).tick = s.tick := by
  simp [State.eqLatch]
@[simp] theorem State.writeTap_tick (s : State) (n i : Nat) (v : Int) : (s.writeTap n i v).tick = s.tick := by
  simp [State.writeTap]
@[simp] theorem State.rxPowerDown_tick (s : State) (n : Nat) : (s.rxPowerDown n).tick = s.tick := by
  simp [State.rxPowerDown]
@[simp] theorem State.rxPowerUp_tick (s : State) (n : Nat) : (s.rxPowerUp n).tick = s.tick := by simp [State.rxPowerUp]
@[simp] theorem State.wake_tick (s : State) (n cause : Nat) : (s.wake n cause).tick = s.tick := by simp [State.wake]
@[simp] theorem State.sleepNow_tick (s : State) (n : Nat) : (s.sleepNow n).tick = s.tick := by simp [State.sleepNow]
@[simp] theorem State.enterO11_tick (s : State) (n : Nat) : (s.enterO11 n).tick = s.tick := by simp [State.enterO11]
@[simp] theorem State.tryLull_tick (s : State) (n cause : Nat) : (s.tryLull n cause).1.tick = s.tick := by
  simp [State.tryLull]
@[simp] theorem State.dropPartials_tick (s : State) (n : Nat) : (s.dropPartials n).tick = s.tick := by
  simp [State.dropPartials]

@[simp] theorem State.loseSync_place (s : State) (n : Nat) (st : SyncSt) (cause : Nat) (mid : Bool) :
    (s.loseSync n st cause mid).tick.place = s.tick.place := by
  unfold State.loseSync
  dsimp only
  repeat' split
  all_goals simp

end Sys2Proof.Machine
end

section
/-! SUPPORT. What the operations of the receiver of a channel leave of the tick generator (Machine/PonRx.lean). -/

namespace Sys2Proof.Machine

@[simp] theorem State.rxEnable_tick (s : State) (n : Nat) : (s.rxEnable n).tick = s.tick := by simp [State.rxEnable]

@[simp] theorem State.rxDisable_place (s : State) (n : Nat) (mid : Bool) :
    (s.rxDisable n mid).tick.place = s.tick.place := by
  unfold State.rxDisable
  dsimp only
  split_ifs <;> simp

@[simp] theorem State.ponCapture_tick (s : State) (n raw sfc : Nat) : (s.ponCapture n raw sfc).tick = s.tick := by
  simp [State.ponCapture]
@[simp] theorem State.acceptedStart_place (s : State) (n : Nat) (p : PSync) (sfc : Nat) :
    (s.acceptedStart n p sfc).tick.place = s.tick.place := by
  simp [State.acceptedStart]
@[simp] theorem State.promote_place (s : State) (n : Nat) (p : PSync) (us : Nat) :
    (s.promote n p us).tick.place = s.tick.place := by
  simp [State.promote]
@[simp] theorem State.psyncGood_place (s : State) (n : Nat) (p : PSync) :
    (s.psyncGood n p).tick.place = s.tick.place := by
  simp [State.psyncGood]

@[simp] theorem State.psyncMissing_place (s : State) (n : Nat) (mid : Bool) :
    (s.psyncMissing n mid).tick.place = s.tick.place := by
  unfold State.psyncMissing
  dsimp only
  split_ifs <;> simp

@[simp] theorem State.ponCopy_tick (s : State) (n : Nat) (interval : Bool) : (s.ponCopy n interval).tick = s.tick := by
  simp [State.ponCopy]

end Sys2Proof.Machine
end

section
/-! SUPPORT. What the operations of the convergence layer leave of the tick generator (Machine/PonTc.lean). -/

namespace Sys2Proof.Machine

@[simp] theorem State.dropDataKeys_tick (s : State) (n : Nat) : (s.dropDataKeys n).tick = s.tick := by
  simp [State.dropDataKeys]
@[simp] theorem State.dropAllocs_tick (s : State) (n : Nat) : (s.dropAllocs n).tick = s.tick := by
  simp [State.dropAllocs]
@[simp] theorem State.stopTx_tick (s : State) (n : Nat) : (s.stopTx n).tick = s.tick := by simp [State.stopTx]
@[simp] theorem State.clearHold_tick (s : State) (n : Nat) : (s.clearHold n).tick = s.tick := by simp [State.clearHold]
@[simp] theorem State.setPartial_tick (s : State) (n port : Nat) (p : Partial) :
    (s.setPartial n port p).tick = s.tick := by
  simp [State.setPartial]
@[simp] theorem State.loseFragment_tick (s : State) (n port : Nat) (last : Bool) :
    (s.loseFragment n port last).tick = s.tick := by
  simp [State.loseFragment]

@[simp] theorem State.wholeSdu_tick (s : State) (n : Nat) (x : Xgem) (data : List Byte) (bad : Bool) :
    (s.wholeSdu n x data bad).tick = s.tick := by
  unfold State.wholeSdu
  dsimp only
  split
  · simp
  · split
    · split
      · simp
      · split <;> simp
    · split
      next u h => simp [State.tick_of_eq h]
      next u id h => split <;> simp [State.tick_of_eq h]

@[simp] theorem State.writeRxCfg_place (s : State) (n v : Nat) : (s.writeRxCfg n v).tick.place = s.tick.place := by
  unfold State.writeRxCfg
  dsimp only
  split_ifs <;> simp
@[simp] theorem State.writeEqCtl_tick (s : State) (n v : Nat) : (s.writeEqCtl n v).tick = s.tick := by
  simp [State.writeEqCtl]
@[simp] theorem State.writeTcCfg_tick (s : State) (n v : Nat) : (s.writeTcCfg n v).tick = s.tick := by
  simp [State.writeTcCfg]
@[simp] theorem State.setLullPolicy_tick (s : State) (n v : Nat) : (s.setLullPolicy n v).tick = s.tick := by
  simp [State.setLullPolicy]
@[simp] theorem State.ponBoundary_tick (s : State) (n : Nat) : (s.ponBoundary n).tick = s.tick := by
  unfold State.ponBoundary
  dsimp only
  split <;> simp

end Sys2Proof.Machine
end

section
/-! SUPPORT. What the operations of the scheduler leave of the tick generator (Machine/Sched.lean). -/

namespace Sys2Proof.Machine

@[simp] theorem State.discardQueue_tick (s : State) (q : Nat) (l : List QFrame) :
    (s.discardQueue q l).tick = s.tick := by
  induction l generalizing s with
  | nil => rfl
  | cons x l ih =>
    rw [State.discardQueue]
    dsimp only
    rw [ih]
    split <;> simp

@[simp] theorem State.discardNode_tick (s : State) (node : Nat) : (s.discardNode node).tick = s.tick := by
  simp [State.discardNode]
@[simp] theorem State.deliverLine_tick (s : State) (i ndr st : Nat) : (s.deliverLine i ndr st).tick = s.tick := by
  simp [State.deliverLine]

@[simp] theorem State.writeSamples_tick (s : State) (base size : Nat) (l : List (List Byte)) :
    (s.writeSamples base size l).tick = s.tick := by
  induction l generalizing s with
  | nil => rfl
  | cons x l ih => simp [State.writeSamples, ih]

@[simp] theorem State.clearSampled_tick (s : State) (l : List Nat) : (s.clearSampled l).tick = s.tick := by
  fun_induction s.clearSampled l <;> simp [*]
@[simp] theorem State.sampleSet_tick (s : State) : s.sampleSet.tick = s.tick := by simp [State.sampleSet]
@[simp] theorem State.schedBoundary_tick (s : State) : s.schedBoundary.tick = s.tick := by simp [State.schedBoundary]

end Sys2Proof.Machine
end

section
/-! SUPPORT. What the operations of the upstream leave of the tick generator (Machine/PonUp.lean). -/

namespace Sys2Proof.Machine

@[simp] theorem State.acceptBurst_tick (s : State) (n sfc : Nat) (b : List Grant) :
    (s.acceptBurst n sfc b).tick = s.tick := by
  unfold State.acceptBurst
  cases b with
  | nil => rfl
  | cons g b =>
    dsimp only
    split_ifs
    · simp
    · simp
    · rw [State.foldl_tick]
      · simp
      · intro u a
        split <;> simp

@[simp] theorem State.applyEqd_tick (s : State) (n : Nat) : (s.applyEqd n).tick = s.tick := by
  unfold State.applyEqd
  dsimp only
  split <;> simp
@[simp] theorem State.sentPart_tick (s : State) (q bytes : Nat) : (s.sentPart q bytes).tick = s.tick := by
  unfold State.sentPart
  dsimp only
  split <;> simp
@[simp] theorem State.dropBad_tick (s : State) (n alloc q : Nat) (x : QFrame) :
    (s.dropBad n alloc q x).tick = s.tick := by
  simp [State.dropBad]
@[simp] theorem Filled.put_s (f : Filled) (p : BurstPart) (bytes : Nat) (bucket : Option (Nat × Nat)) :
    (f.put p bytes bucket).s = f.s :=
  rfl
@[simp] theorem idleFill_s (s : State) (r : Nat) : (idleFill s r).s = s := by
  unfold idleFill
  split <;> rfl

@[simp] theorem fillSpace_tick (n alloc key node : Nat) (bad : List Nat) (fuel r : Nat) (s : State) :
    (fillSpace n alloc key node bad fuel r s).s.tick = s.tick := by
  induction fuel generalizing r s with
  | zero => simp [fillSpace]
  | succ fuel ih =>
    rw [fillSpace]
    split
    · simp
    split
    · simp
    dsimp only
    split
    · simp
    split
    next u m h => simp [ih, State.tick_of_eq h]
    next u h => split <;> simp [ih, State.tick_of_eq h]

@[simp] theorem fillGrant_tick (n key : Nat) (bad : List Nat) (g : Grant) (s : State) :
    (fillGrant n key bad g s).s.tick = s.tick := by
  unfold fillGrant
  dsimp only
  split
  · simp
  split
  · simp
  split <;> simp

@[simp] theorem fillGrants_tick (n key : Nat) (bad : List Nat) (l : List Grant) (s : State) :
    (fillGrants n key bad l s).1.tick = s.tick := by
  induction l generalizing s with
  | nil => rfl
  | cons g l ih => simp [fillGrants, ih]

@[simp] theorem reportGrants_tick (n : Nat) (l : List (Grant × List BurstPart)) (s : State) :
    (reportGrants n l s).1.tick = s.tick := by
  induction l generalizing s with
  | nil => rfl
  | cons g l ih =>
    rw [reportGrants]
    split <;> simp [ih]

@[simp] theorem State.takePloamu_tick (s : State) (n : Nat) : (s.takePloamu n).1.tick = s.tick := by
  unfold State.takePloamu
  dsimp only
  split <;> simp

@[simp] theorem State.countGrants_tick (s : State) (n : Nat) (b : List Grant) : (s.countGrants n b).tick = s.tick := by
  unfold State.countGrants
  refine State.foldl_tick (fun u k => ?_) _ _
  dsimp only
  split <;> simp

@[simp] theorem State.burstEnds_tick (s : State) (n : Nat) (p : BurstPlan) (rest : List BurstPlan) :
    (s.burstEnds n p rest).tick = s.tick := by
  simp [State.burstEnds]
@[simp] theorem loadAlloc_tick (i : Nat) (h : List Byte) (s : State) : (loadAlloc i h s).tick = s.tick := by
  simp [loadAlloc]
@[simp] theorem State.returnBuckets_tick (s : State) (g : Nat) : (s.returnBuckets g).tick = s.tick := by
  simp [State.returnBuckets]
@[simp] theorem loadBond_tick (g : Nat) (h : List Byte) (s : State) : (loadBond g h s).tick = s.tick := by
  simp [loadBond]
@[simp] theorem State.bondCopy_tick (s : State) (delta : Nat) : (s.bondCopy delta).tick = s.tick := by
  simp [State.bondCopy]
@[simp] theorem State.writeBackContexts_tick (s : State) : s.writeBackContexts.tick = s.tick := by
  simp [State.writeBackContexts]
@[simp] theorem State.wakeFor_tick (s : State) (before node1 : Nat) : (s.wakeFor before node1).tick = s.tick := by
  simp [State.wakeFor]

end Sys2Proof.Machine
end

section
/-! SUPPORT. What the operations of the power states leave of the tick generator (Machine/PowerOps.lean). -/

namespace Sys2Proof.Machine

@[simp] theorem State.askGroup_tick (s : State) (g : Nat) (on : Bool) : (s.askGroup g on).tick = s.tick := by
  simp [State.askGroup]
@[simp] theorem State.askVe_tick (s : State) (mv : Nat) : (s.askVe mv).tick = s.tick := by simp [State.askVe]
@[simp] theorem State.stopGroup_tick (s : State) (g : Nat) : (s.stopGroup g).tick = s.tick := by simp [State.stopGroup]
@[simp] theorem State.overcastStep1_tick (s : State) (awake : Nat) : (s.overcastStep1 awake).tick = s.tick := by
  simp [State.overcastStep1]
@[simp] theorem State.startEntry_tick (s : State) (target awake : Nat) (selfRef : Bool) (cmd : Option (Nat × Nat)) :
    (s.startEntry target awake selfRef cmd).tick = s.tick := by
  simp [State.startEntry]
@[simp] theorem State.moveOver_tick (s : State) (state : Nat) : (s.moveOver state).tick = s.tick := by
  simp [State.moveOver]
@[simp] theorem State.completeCmd_tick (s : State) (c : Option (Nat × Nat)) (n status : Nat) :
    (s.completeCmd c n status).tick = s.tick := by
  unfold State.completeCmd
  split <;> simp
@[simp] theorem State.reached_tick (s : State) (state : Nat) : (s.reached state).tick = s.tick := by
  simp [State.reached]
@[simp] theorem State.restartGroup_tick (s : State) (g : Nat) : (s.restartGroup g).tick = s.tick := by
  unfold State.restartGroup
  split <;> simp
@[simp] theorem State.restorePolicies_tick (s : State) : s.restorePolicies.tick = s.tick := by
  simp [State.restorePolicies]
@[simp] theorem State.restartGroups_tick (s : State) : s.restartGroups.tick = s.tick := by simp [State.restartGroups]
@[simp] theorem State.slabsDown_tick (s : State) : s.slabsDown.tick = s.tick := by simp [State.slabsDown]
@[simp] theorem State.slabsUndo_tick (s : State) : s.slabsUndo.tick = s.tick := by simp [State.slabsUndo]
@[simp] theorem State.askVeOn_tick (s : State) : s.askVeOn.tick = s.tick := by simp [State.askVeOn]
@[simp] theorem State.startExit_tick (s : State) (target : Nat) (cmd : Option (Nat × Nat)) :
    (s.startExit target cmd).tick = s.tick := by
  simp [State.startExit]
@[simp] theorem State.wakeCmdGo_tick (s : State) (w : WakeCmd) (n : Nat) : (s.wakeCmdGo w n).tick = s.tick := by
  simp [State.wakeCmdGo]
@[simp] theorem State.undoEnds_tick (s : State) (point : Nat) : (s.undoEnds point).tick = s.tick := by
  unfold State.undoEnds
  dsimp only
  split <;> simp
@[simp] theorem State.entryUndone_tick (s : State) (point : Nat) : (s.entryUndone point).tick = s.tick := by
  simp [State.entryUndone]
@[simp] theorem State.undoGo_tick (s : State) : s.undoGo.tick = s.tick := by simp [State.undoGo]
@[simp] theorem State.askStep4_tick (s : State) (on : Bool) : (s.askStep4 on).tick = s.tick := by simp [State.askStep4]
@[simp] theorem State.beginUnwind_tick (s : State) (point : Nat) (failed : Bool) :
    (s.beginUnwind point failed).tick = s.tick := by
  simp [State.beginUnwind]
@[simp] theorem State.entrySteps_tick (s : State) : s.entrySteps.tick = s.tick := by simp [State.entrySteps]
@[simp] theorem State.entryGo_tick (s : State) : s.entryGo.tick = s.tick := by simp [State.entryGo]

@[simp] theorem State.enginesOff_tick (s : State) : s.enginesOff.tick = s.tick := by
  unfold State.enginesOff
  dsimp only
  rw [State.setVec_tick, State.foldl_tick (by simp), State.foldl_tick]
  · simp
  · intro u r
    split <;> simp

@[simp] theorem State.overcastEntered_tick (s : State) : s.overcastEntered.tick = s.tick := by
  simp [State.overcastEntered]
@[simp] theorem State.darkEntered_tick (s : State) : s.darkEntered.tick = {} := rfl

theorem State.entryAck_tick (s : State) (pg : Bool) : (s.entryAck pg).tick = s.tick ∨ (s.entryAck pg).tick = {} := by
  unfold State.entryAck
  dsimp only
  split
  · exact .inl (by simp)
  split
  · exact .inl (by simp)
  split
  · exact .inl (by simp)
  split
  · exact .inl (by simp)
  split
  · exact .inr rfl
  · exact .inl (by simp)

@[simp] theorem State.entryTimeout_tick (s : State) : s.entryTimeout.tick = s.tick := by simp [State.entryTimeout]
@[simp] theorem State.exitTimeout_tick (s : State) : s.exitTimeout.tick = s.tick := by simp [State.exitTimeout]
@[simp] theorem State.exitMemories_tick (s : State) : s.exitMemories.tick = s.tick := by simp [State.exitMemories]
@[simp] theorem State.exitGo_tick (s : State) : s.exitGo.tick = s.tick := by simp [State.exitGo]
@[simp] theorem State.wakeStepBegin_tick (s : State) (k : Nat) : (s.wakeStepBegin k).tick = s.tick := by
  simp [State.wakeStepBegin]
@[simp] theorem State.beginWake_tick (s : State) : s.beginWake.tick = s.tick := by simp [State.beginWake]
@[simp] theorem State.wakeEvent_tick (s : State) (source : Nat) : (s.wakeEvent source).tick = s.tick := by
  simp [State.wakeEvent]
@[simp] theorem State.wakeAck_tick (s : State) (pg : Bool) : (s.wakeAck pg).tick = s.tick := by simp [State.wakeAck]
@[simp] theorem State.wakeFails_tick (s : State) (k : Nat) : (s.wakeFails k).tick = s.tick := by simp [State.wakeFails]
@[simp] theorem State.squallTrigger_tick (s : State) (cause : Nat) : (s.squallTrigger cause).tick = s.tick := by
  simp [State.squallTrigger]
@[simp] theorem State.causesEnd_tick (s : State) : s.causesEnd.tick = s.tick := by simp [State.causesEnd]
@[simp] theorem State.readFeed_tick (s : State) (feed : Option (BitVec 16)) : (s.readFeed feed).1.tick = s.tick := by
  unfold State.readFeed
  split <;> simp

@[simp] theorem State.readPower_tick (s : State) (n : Nat) (l : List (Option (BitVec 16))) :
    (s.readPower n l).tick = s.tick := by
  induction l generalizing s n with
  | nil => rfl
  | cons r l ih =>
    unfold State.readPower
    split
    · rfl
    · dsimp only
      rw [ih]
      split <;> simp

@[simp] theorem State.evaluate_tick (s : State) (feed : Option (BitVec 16)) (pouts : List (Option (BitVec 16))) :
    (s.evaluate feed pouts).tick = s.tick := by
  simp [State.evaluate]
@[simp] theorem State.gradeDeliver_tick (s : State) : s.gradeDeliver.1.tick = s.tick := by simp [State.gradeDeliver]

end Sys2Proof.Machine
end

section
/-! SUPPORT. What the operations of power commands leave of the tick generator (Machine/Power.lean). -/

namespace Sys2Proof.Machine

@[simp] theorem State.setPower_tick (s : State) (target : Nat) (p : Pkt) (id : Nat) :
    (s.setPower target p id).state.tick = s.tick := by
  simp [State.setPower]
@[simp] theorem State.hazeChange_tick (s : State) : s.hazeChange.tick = s.tick := by
  unfold State.hazeChange
  split <;> simp

@[simp] theorem State.writePwr_tick (s : State) (off v : Nat) : (s.writePwr off v).tick = s.tick := by
  unfold State.writePwr
  dsimp only
  repeat' split
  all_goals simp

@[simp] theorem State.drainQueue_tick (s : State) (q : Nat) : (s.drainQueue q).tick = s.tick := by
  simp [State.drainQueue]

end Sys2Proof.Machine
end

section
/-! SUPPORT. What the operations of the forwarding table leave of the tick generator (Machine/FwdOps.lean). -/

namespace Sys2Proof.Machine

@[simp] theorem State.setFwdAt_tick (s : State) (pos : Nat) (e : Option FwdEntry) :
    (s.setFwdAt pos e).tick = s.tick := by
  simp [State.setFwdAt]
@[simp] theorem State.fwdRequest_tick (s : State) (r : FwdReq) : (s.fwdRequest r).tick = s.tick := by
  simp [State.fwdRequest]
@[simp] theorem State.requestDelete_tick (s : State) (kind : FwdKind) (e : FwdEntry) :
    (s.requestDelete kind e).tick = s.tick := by
  simp [State.requestDelete]

@[simp] theorem State.meetFwdParity_tick (s : State) (l : List Nat) : (s.meetFwdParity l).tick = s.tick := by
  induction l generalizing s with
  | nil => rfl
  | cons p l ih =>
    rw [State.meetFwdParity]
    dsimp only
    rw [ih]
    split
    · split <;> simp
    · rfl

@[simp] theorem State.fwdLookup_tick (s : State) (fid mac : Nat) : (s.fwdLookup fid mac).1.tick = s.tick := by
  unfold State.fwdLookup
  dsimp only
  split <;> simp
@[simp] theorem State.setWalk_tick (s : State) (i : Nat) (w : Option Walk) : (s.setWalk i w).tick = s.tick := by
  simp [State.setWalk]
@[simp] theorem State.carryCopies_tick (s : State) (e : FwdEntry) (src dst : Nat) :
    (s.carryCopies e src dst).tick = s.tick := by
  simp [State.carryCopies]
@[simp] theorem State.moveEntry_tick (s : State) (src dst : Nat) : (s.moveEntry src dst).tick = s.tick := by
  unfold State.moveEntry
  split <;> simp
@[simp] theorem State.toStash_tick (s : State) (e : FwdEntry) : (s.toStash e).1.tick = s.tick := by
  unfold State.toStash
  split <;> simp

@[simp] theorem State.place_tick (s : State) (e : FwdEntry) : (s.place e).1.tick = s.tick := by
  unfold State.place
  dsimp only
  repeat' split
  all_goals simp

@[simp] theorem State.removeAt_tick (s : State) (pos : Nat) : (s.removeAt pos).tick = s.tick := by
  unfold State.removeAt
  dsimp only
  repeat' split
  all_goals simp

@[simp] theorem State.limitHit_tick (s : State) (src : Nat) : (s.limitHit src).tick = s.tick := by simp [State.limitHit]
@[simp] theorem State.create_tick (s : State) (e : FwdEntry) : (s.create e).1.tick = s.tick := by simp [State.create]
@[simp] theorem State.fwdTick_tick (s : State) : s.fwdTick.tick = s.tick := by simp [State.fwdTick]
@[simp] theorem State.grantMove_tick (s : State) (pos : Nat) (e : FwdEntry) (r : FwdReq) :
    (s.grantMove pos e r).tick = s.tick := by
  simp [State.grantMove]
@[simp] theorem State.grantRefresh_tick (s : State) (pos : Nat) (e : FwdEntry) :
    (s.grantRefresh pos e).tick = s.tick := by
  simp [State.grantRefresh]
@[simp] theorem State.grantPresent_tick (s : State) (pos : Nat) (e : FwdEntry) (r : FwdReq) :
    (s.grantPresent pos e r).tick = s.tick := by
  simp [State.grantPresent]
@[simp] theorem State.grantLearn_tick (s : State) (r : FwdReq) : (s.grantLearn r).tick = s.tick := by
  unfold State.grantLearn
  split <;> simp
@[simp] theorem State.nextReq_tick (s : State) : s.nextReq.tick = s.tick := by simp [State.nextReq]
@[simp] theorem State.destLookup_tick (s : State) (fid da : Nat) : (s.destLookup fid da).1.tick = s.tick := by
  unfold State.destLookup
  dsimp only
  split <;> simp
@[simp] theorem State.submit_tick (s : State) (f : Frame) (agent inst : Nat) (as : List Arrival) :
    (s.submit f agent inst as).tick = s.tick := by
  simp [State.submit]

end Sys2Proof.Machine
end

section
/-! SUPPORT. What the operations of the classifier leave of the tick generator (Machine/ClsOps.lean). -/

namespace Sys2Proof.Machine

@[simp] theorem State.setRule_tick (s : State) (idx : Nat) (e : Option ClsEntry) : (s.setRule idx e).tick = s.tick := by
  simp [State.setRule]
@[simp] theorem State.setFlow_tick (s : State) (idx : Nat) (e : Option ClsEntry) : (s.setFlow idx e).tick = s.tick := by
  simp [State.setFlow]
@[simp] theorem State.mapEntries_tick (s : State) (f : ClsEntry → Option ClsEntry) :
    (s.mapEntries f).tick = s.tick := by
  simp [State.mapEntries]
@[simp] theorem State.clsAbort_tick (s : State) : s.clsAbort.tick = s.tick := by simp [State.clsAbort]
@[simp] theorem State.meetAll_tick (s : State) (kind : Nat) (l : List Nat) : (s.meetAll kind l).tick = s.tick := by
  fun_induction s.meetAll kind l <;> simp [*]
@[simp] theorem State.clsLookup_tick (s : State) (v set key : Nat) : (s.clsLookup v set key).1.tick = s.tick := by
  unfold State.clsLookup
  dsimp only
  split <;> simp
@[simp] theorem State.setFrag_tick (s : State) (i : Nat) (e : Option FragEntry) : (s.setFrag i e).tick = s.tick := by
  simp [State.setFrag]

@[simp] theorem State.fragRecord_tick (s : State) (src : Nat) (k : List Nat) (a : Nat) :
    (s.fragRecord src k a).tick = s.tick := by
  unfold State.fragRecord
  split
  · simp
  · split <;> simp

@[simp] theorem State.classPass_tick (s : State) (v src key : Nat) (p : Parsed) :
    (s.classPass v src key p).1.tick = s.tick := by
  unfold State.classPass
  dsimp only
  split_ifs
  · simp
  · split <;> simp
  · split
    next u a h => simp [State.tick_of_eq h]
    next u h => simp [State.tick_of_eq h]

@[simp] theorem State.endClass_tick (s : State) (m : Meta) (key exc a : Nat) (ps : List Parsed) :
    (s.endClass m key exc a ps).1.tick = s.tick := by
  simp [State.endClass]
@[simp] theorem State.refuseRecirc_tick (s : State) (f : Frame) (key : Nat) (ps : List Parsed) :
    (s.refuseRecirc f key ps).1.tick = s.tick := by
  simp [State.refuseRecirc]

@[simp] theorem State.classify_tick (s : State) (v : Nat) (f : Frame) : (s.classify v f).1.tick = s.tick := by
  unfold State.classify
  dsimp only
  repeat' split
  all_goals simp

@[simp] theorem State.sourceLookup_tick (s : State) (f : Frame) : (s.sourceLookup f).1.tick = s.tick := by
  unfold State.sourceLookup
  dsimp only
  repeat' split
  all_goals simp

@[simp] theorem State.deliver_tick (s : State) (x : Classified) : (s.deliver x).tick = s.tick := by simp [State.deliver]
@[simp] theorem State.setInflight_tick (s : State) (v n : Nat) : (s.setInflight v n).tick = s.tick := by
  simp [State.setInflight]

end Sys2Proof.Machine
end

section
/-! SUPPORT. What the operations of the start leave of the tick generator (Machine/BootOps.lean). -/

namespace Sys2Proof.Machine

@[simp] theorem State.stepFailed_tick (s : State) (step result cause detail ms : Nat) :
    (s.stepFailed step result cause detail ms).tick = s.tick := by
  simp [State.stepFailed]
@[simp] theorem State.wakeOver_tick (s : State) : s.wakeOver.tick = s.tick := by simp [State.wakeOver]
@[simp] theorem State.enterRecovery_tick (s : State) (step cause detail ms : Nat) :
    (s.enterRecovery step cause detail ms).tick = s.tick := by
  simp [State.enterRecovery]
@[simp] theorem State.takeImage_tick (s : State) (k : Nat) : (s.takeImage k).tick = s.tick := by simp [State.takeImage]
@[simp] theorem State.coreRestart_tick (s : State) : s.coreRestart.tick = s.tick := by simp [State.coreRestart]

end Sys2Proof.Machine
end

section
/-! SUPPORT. What the operations of the rings leave of the tick generator (Machine/HostRings.lean). -/

namespace Sys2Proof.Machine

@[simp] theorem State.indexRefused_tick (s : State) (f ring v : Nat) : (s.indexRefused f ring v).tick = s.tick := by
  simp [State.indexRefused]
@[simp] theorem State.dropJobs_place (s : State) (f id : Nat) : (s.dropJobs f id).tick.place = s.tick.place := by
  rfl
@[simp] theorem State.setAcct_tick (s : State) (acct cause : Nat) : (s.setAcct acct cause).tick = s.tick := by
  simp [State.setAcct]
@[simp] theorem State.clearCtr_tick (s : State) (c : Ctr) : (s.clearCtr c).tick = s.tick := by simp [State.clearCtr]

/-- What CNT_CLEAR does at one offset (R576). The definition is unfolded as a function, so that no check of the proof
has to evaluate ctrAt at an unknown offset. -/
theorem State.clearReg_cases (s : State) (f off : Nat) : (∃ c, s.clearReg f off = s.clearCtr c) ∨
    s.clearReg f off = (s.setFn f { s.fn f with evtLost := 0 }).setFld (F.HOST_RING_STATUS_LOST_SAT f) 0 := by
  obtain ⟨g, hg, h⟩ : ∃ g, State.clearReg = g ∧ ∀ u k o, (∃ c, g u k o = u.clearCtr c) ∨
      g u k o = (u.setFn k { u.fn k with evtLost := 0 }).setFld (F.HOST_RING_STATUS_LOST_SAT k) 0 := by
    refine ⟨_, by delta State.clearReg; rfl, fun u k o => ?_⟩
    generalize ctrAt o = c
    cases c with
    | none => exact .inr rfl
    | some c => exact .inl ⟨c, rfl⟩
  rw [hg]
  exact h s f off

@[simp] theorem State.clearReg_tick (s : State) (f off : Nat) : (s.clearReg f off).tick = s.tick := by
  obtain ⟨c, h⟩ | h := s.clearReg_cases f off
  · rw [h, State.clearCtr_tick]
  · rw [h, State.setFld_tick, State.setFn_tick]

end Sys2Proof.Machine
end

section
/-! SUPPORT. What the operations of the resets of functions leave of the tick generator (Machine/Resets.lean). -/

namespace Sys2Proof.Machine

@[simp] theorem State.suppressDone_tick (s : State) (f : Nat) : (s.suppressDone f).tick = s.tick := by
  simp [State.suppressDone]
@[simp] theorem State.clearRings_tick (s : State) (f : Nat) : (s.clearRings f).tick = s.tick := by
  simp [State.clearRings]

@[simp] theorem State.resetQueues_tick (s : State) (f : Nat) : (s.resetQueues f).tick = s.tick := by
  refine State.foldl_tick (fun u q => ?_) _ _
  dsimp only
  split_ifs
  · split <;> simp
  · simp
  · split <;> simp
  · simp

@[simp] theorem State.resetVector_tick (s : State) : s.resetVector.tick = s.tick := by simp [State.resetVector]
@[simp] theorem State.resetPacket_tick (s : State) : s.resetPacket.tick = s.tick := by simp [State.resetPacket]
@[simp] theorem State.resetCipher_tick (s : State) (reqs : List (List Byte)) : (s.resetCipher reqs).tick = s.tick := by
  simp [State.resetCipher]
@[simp] theorem State.resetEffects_tick (s : State) (f : Nat) (reqs : List (List Byte)) :
    (s.resetEffects f reqs).tick = s.tick := by
  unfold State.resetEffects
  split <;> simp
@[simp] theorem State.resetFunction_tick (s : State) (f : Nat) (reqs : List (List Byte)) :
    (s.resetFunction f reqs).tick = s.tick := by
  simp [State.resetFunction]
@[simp] theorem State.resetDone_tick (s : State) (f : Nat) : (s.resetDone f).tick = s.tick := by simp [State.resetDone]

end Sys2Proof.Machine
end

section
/-! SUPPORT. What the operations of the time commands leave of the tick generator (Machine/Time.lean). -/

namespace Sys2Proof.Machine

@[simp] theorem State.todCut_tick (s : State) (r : Nat) : (s.todCut r).tick = s.tick := by
  unfold State.todCut
  split <;> simp
@[simp] theorem State.writePps_tick (s : State) (v : Nat) : (s.writePps v).tick = s.tick := by simp [State.writePps]
@[simp] theorem State.writeTime_tick (s : State) (k v : Nat) : (s.writeTime k v).tick = s.tick := by
  simp [State.writeTime]
@[simp] theorem State.writeTimes_tick (s : State) (n : Nat) (l : List Word) : (s.writeTimes n l).tick = s.tick := by
  fun_induction s.writeTimes n l <;> simp [*]

end Sys2Proof.Machine
end

section
/-! SUPPORT. What the operations of register writes leave of the tick generator (Machine/RegWrite.lean). -/

namespace Sys2Proof.Machine

@[simp] theorem State.writePlain_tick (s : State) (k v : Nat) : (s.writePlain k v).tick = s.tick := by
  unfold State.writePlain
  split <;> simp
@[simp] theorem State.writePon_place (s : State) (k v : Nat) : (s.writePon k v).tick.place = s.tick.place := by
  unfold State.writePon
  dsimp only
  split <;> simp
@[simp] theorem State.writeLane_tick (s : State) (k v : Nat) : (s.writeLane k v).tick = s.tick := by
  simp [State.writeLane]
@[simp] theorem State.writeEth_tick (s : State) (k v : Nat) : (s.writeEth k v).tick = s.tick := by simp [State.writeEth]
@[simp] theorem State.writeVec_tick (s : State) (k v : Nat) : (s.writeVec k v).tick = s.tick := by simp [State.writeVec]
@[simp] theorem State.writeEngReg_tick (s : State) (k v : Nat) : (s.writeEngReg k v).tick = s.tick := by
  simp [State.writeEngReg]
@[simp] theorem State.writeQueueReg_tick (s : State) (f k v : Nat) : (s.writeQueueReg f k v).tick = s.tick := by
  simp [State.writeQueueReg]
@[simp] theorem State.writeRingReg_tick (s : State) (f r v : Nat) : (s.writeRingReg f r v).tick = s.tick := by
  simp [State.writeRingReg]
@[simp] theorem State.writeOther_place (s : State) (k v : Nat) : (s.writeOther k v).tick.place = s.tick.place := by
  simp [State.writeOther]
@[simp] theorem State.writeMsix_tick (s : State) (f off v : Nat) : (s.writeMsix f off v).tick = s.tick := by
  simp [State.writeMsix]
@[simp] theorem State.writeReg_place (s : State) (f off v : Nat) : (s.writeReg f off v).tick.place = s.tick.place := by
  simp [State.writeReg]
@[simp] theorem State.accErrs_tick (s : State) (f off : Nat) (cs : List (Bool × Nat)) :
    (s.accErrs f off cs).tick = s.tick := by
  simp [State.accErrs]

end Sys2Proof.Machine
end

section
/-! SUPPORT. What the operations of the start sequence leave of the tick generator (Machine/Boot.lean). -/

namespace Sys2Proof.Machine

@[simp] theorem State.powerOn_tick (s : State) : s.powerOn.tick = {} := rfl
@[simp] theorem State.toStep_tick (s : State) (k : Nat) : (s.toStep k).tick = s.tick := by simp [State.toStep]
@[simp] theorem State.retried_tick (s : State) (detail ms : Nat) : (s.retried detail ms).tick = s.tick := by
  simp [State.retried]
@[simp] theorem State.retakeAlt_tick (s : State) : s.retakeAlt.tick = s.tick := by simp [State.retakeAlt]
@[simp] theorem State.prescribe_tick (s : State) : s.prescribe.tick = s.tick := by simp [State.prescribe]
@[simp] theorem State.loadJournal_tick (s : State) (aonOk : Bool) : (s.loadJournal aonOk).tick = s.tick := by
  simp [State.loadJournal]
@[simp] theorem State.beginStart_tick (s : State) : s.beginStart.tick = s.tick := by simp [State.beginStart]
@[simp] theorem State.startFatal_tick (s : State) (k cause detail ms : Nat) :
    (s.startFatal k cause detail ms).tick = s.tick := by
  simp [State.startFatal]
@[simp] theorem State.ddrConfig_tick (s : State) (ms : Nat) : (s.ddrConfig ms).tick = s.tick := by
  unfold State.ddrConfig
  split <;> simp
@[simp] theorem State.fillMemories_tick (s : State) (ms : Nat) : (s.fillMemories ms).tick = s.tick := by
  unfold State.fillMemories
  dsimp only
  split <;> simp
@[simp] theorem State.retirePrescribed_tick (s : State) : s.retirePrescribed.tick = s.tick := by
  simp [State.retirePrescribed]

@[simp] theorem State.loadBoard_place (s : State) : s.loadBoard.tick.place = s.tick.place := by
  unfold State.loadBoard
  extract_lets +onlyGivenNames b s1 s2 s3
  have h2 : s2.tick.place = s.tick.place := by
    refine (State.foldl_place (fun u w => ?_) _ _).trans (by simp [s1])
    dsimp only
    split_ifs <;> simp
  refine (State.foldl_place (fun u n => ?_) _ _).trans ?_
  · split <;> simp
  · simp [s3, h2]

@[simp] theorem State.startCompleted_place (s : State) (ms : Nat) :
    (s.startCompleted ms).tick.place = s.tick.place := by
  simp [State.startCompleted]
@[simp] theorem State.takeBoard_tick (s : State) (b : Board) : (s.takeBoard b).tick = s.tick := by
  simp [State.takeBoard]

@[simp] theorem State.stepExhausted_place (s : State) (cause : Nat) (i : StartInfo) :
    (s.stepExhausted cause i).tick.place = s.tick.place := by
  unfold State.stepExhausted
  dsimp only
  split <;> simp

@[simp] theorem State.attemptFails_place (s : State) (cause : Nat) (i : StartInfo) :
    (s.attemptFails cause i).tick.place = s.tick.place := by
  unfold State.attemptFails
  split <;> simp

@[simp] theorem State.stepReady_place (s : State) (i : StartInfo) : (s.stepReady i).tick.place = s.tick.place := by
  unfold State.stepReady
  dsimp only
  repeat' split
  all_goals simp

theorem State.qspiWrite_tick {act : State} {s : State} (h : act.tick = s.tick) (f : Nat) :
    (s.qspiWrite f act).tick = s.tick := by
  simp [State.qspiWrite, h]
@[simp] theorem State.qspiBegin_tick (s : State) (op n : Nat) : (s.qspiBegin op n).tick = s.tick := by
  simp [State.qspiBegin]
@[simp] theorem State.programPage_tick (s : State) (a : Nat) : (s.programPage a).tick = s.tick := by
  simp [State.programPage]
@[simp] theorem State.qspiNext_tick (s : State) : s.qspiNext.tick = s.tick := by simp [State.qspiNext]

end Sys2Proof.Machine
end

section
/-! SUPPORT. What the operations of the boundaries leave of the tick generator (Machine/Boundaries.lean). -/

namespace Sys2Proof.Machine

@[simp] theorem State.recoveryTick_tick (s : State) : s.recoveryTick.tick = s.tick := rfl
@[simp] theorem State.evalTick_tick (s : State) : s.evalTick.tick = s.tick := by simp [State.evalTick]
@[simp] theorem State.newCycle_tick (s : State) : s.newCycle.tick = s.tick := by simp [State.newCycle]
@[simp] theorem State.correctionRate_tick (s : State) : s.correctionRate.tick = s.tick := by
  unfold State.correctionRate
  dsimp only
  split <;> simp

end Sys2Proof.Machine
end

section
/-! SUPPORT. What the operations of buffers leave of the tick generator (Machine/Buffers.lean). -/

namespace Sys2Proof.Machine

@[simp] theorem State.tellWords_tick (s : State) (i slot n : Nat) (l : List Nat) :
    (s.tellWords i slot n l).tick = s.tick := by
  induction l generalizing s with
  | nil => rfl
  | cons x l ih => simp [State.tellWords, ih]

end Sys2Proof.Machine
end

section
/-! SUPPORT. What the operations of an engine leave of the tick generator (Machine/Engine.lean). -/

namespace Sys2Proof.Machine

@[simp] theorem State.indRefused_tick (s : State) (e : Nat) : (s.indRefused e).tick = s.tick := by
  simp [State.indRefused]

@[simp] theorem State.readSlab_tick (s : State) (e i : Nat) (n : Nat) : (s.readSlab e i n).1.tick = s.tick := by
  induction n generalizing s i with
  | zero => rfl
  | succ n ih =>
    rw [State.readSlab]
    dsimp only
    split
    · split
      next u bs h => simp [State.tick_of_eq h, ih]
      next u m h => simp [State.tick_of_eq h, ih]
    · split
      next u bs h => simp [State.tick_of_eq h, ih]
      next u m h => simp [State.tick_of_eq h, ih]
    · simp

end Sys2Proof.Machine
end

section
/-! SUPPORT. What the operations of Ethernet leave of the tick generator (Machine/Ethernet.lean). -/

namespace Sys2Proof.Machine

@[simp] theorem State.macReceive_tick (s : State) (m : Nat) (bytes : List Byte) (fcsOk codeErr : Bool) (raw : Nat) :
    (s.macReceive m bytes fcsOk codeErr raw).tick = s.tick := by
  unfold State.macReceive
  dsimp only
  split_ifs
  iterate 6 · simp
  · split
    next u h => simp [State.tick_of_eq h]
    next u id h => simp [State.tick_of_eq h]

@[simp] theorem State.pauseFrame_tick (s : State) (m mode : Nat) (ts : List (Nat × Nat)) :
    (s.pauseFrame m mode ts).tick = s.tick := by
  unfold State.pauseFrame
  dsimp only
  split
  · rfl
  next u h => split_ifs <;> simp [State.controlIn_tick h]

@[simp] theorem State.countLate_tick (s : State) (m : Nat) (x : Launch) (action : Nat) :
    (s.countLate m x action).tick = s.tick := by
  simp [State.countLate]

end Sys2Proof.Machine
end

section
/-! SUPPORT. What the operations of forwarding leave of the tick generator (Machine/Forward.lean). -/

namespace Sys2Proof.Machine

@[simp] theorem State.scanOne_tick (s : State) (pos : Nat) (e : FwdEntry) : (s.scanOne pos e).tick = s.tick := by
  simp [State.scanOne]

@[simp] theorem State.scanPlace_tick (s : State) (pos : Nat) (n : Nat) : (s.scanPlace pos n).tick = s.tick := by
  induction n generalizing s with
  | zero => rfl
  | succ n ih =>
    rw [State.scanPlace]
    split
    · rfl
    · split
      · split <;> simp [ih]
      · simp

@[simp] theorem State.walkNext_tick (s : State) (i pos n : Nat) : (s.walkNext i pos n).state.tick = s.tick := by
  unfold State.walkNext
  split <;> simp
@[simp] theorem State.launchEnqueue_tick (s : State) (m raw q : Nat) (f : Frame) :
    (s.launchEnqueue m raw q f).tick = s.tick := by
  simp [State.launchEnqueue]
@[simp] theorem State.hqDest_tick (s : State) (raw q : Nat) (a : Arrival) : (s.hqDest raw q a).tick = s.tick := by
  simp [State.hqDest]

end Sys2Proof.Machine
end

section
/-! SUPPORT. What the operations of register reads leave of the tick generator (Machine/RegRead.lean). -/

namespace Sys2Proof.Machine

@[simp] theorem State.readReg_tick (s : State) (f off : Nat) : (s.readReg f off).1.tick = s.tick := by
  simp [State.readReg]

end Sys2Proof.Machine
end

section
/-! SUPPORT. What the operations of scrubbing leave of the tick generator (Machine/Scrub.lean). -/

namespace Sys2Proof.Machine

@[simp] theorem State.beginPass_tick (s : State) (m : Nat) : (s.beginPass m).tick = s.tick := by simp [State.beginPass]
@[simp] theorem State.scrubNext_tick (s : State) (m : Nat) : (s.scrubNext m).tick = s.tick := by simp [State.scrubNext]
@[simp] theorem State.putScrubWord_tick (s : State) (m i : Nat) (w : Codeword) :
    (s.putScrubWord m i w).tick = s.tick := by
  unfold State.putScrubWord
  split <;> simp
@[simp] theorem State.scrubCe_tick (s : State) (m i k : Nat) : (s.scrubCe m i k).tick = s.tick := by
  unfold State.scrubCe
  split <;> simp
@[simp] theorem State.rewriteControl_tick (s : State) (i : Nat) : (s.rewriteControl i).tick = s.tick := by
  simp [State.rewriteControl]
@[simp] theorem State.controlUe_tick (s : State) (i : Nat) (otherGood : Bool) (kind : Nat) :
    (s.controlUe i otherGood kind).tick = s.tick := by
  simp [State.controlUe]
@[simp] theorem State.scrubUe_tick (s : State) (m i : Nat) (otherGood : Bool) (kind : Nat) :
    (s.scrubUe m i otherGood kind).tick = s.tick := by
  unfold State.scrubUe
  split <;> simp

@[simp] theorem State.scrubParity_tick (s : State) (i : Nat) : (s.scrubParity i).tick = s.tick := by
  unfold State.scrubParity
  dsimp only
  repeat' split
  all_goals simp

end Sys2Proof.Machine
end

section
/-! SUPPORT. The commands of Machine/EventArbiter.lean keep the place in time (R34). -/

namespace Sys2Proof.Machine

@[simp] theorem keepsPlace_eventGrant (cycle : Nat) (s : State) : KeepsPlace s (exec (.eventGrant cycle) s) := by
  rw [exec_eventGrant, execEventGrant]
  dsimp only
  repeat' split
  all_goals simp

@[simp] theorem keepsPlace_eventRingWrite (f : Fin 6) (s : State) : KeepsPlace s (exec (.eventRingWrite f) s) := by
  rw [exec_eventRingWrite, execEventRingWrite]
  split <;> simp
@[simp] theorem keepsPlace_eventNoticeIntervalEnd (f : Fin 6) (s : State) :
    KeepsPlace s (exec (.eventNoticeIntervalEnd f) s) := by
  simp [exec_eventNoticeIntervalEnd, execEventNoticeIntervalEnd]

end Sys2Proof.Machine
end

section
/-! SUPPORT. The commands of Machine/Cipher.lean keep the place in time (R34). -/

namespace Sys2Proof.Machine

@[simp] theorem keepsPlace_keyCommit (s : State) : KeepsPlace s (exec .keyCommit s) := by
  simp [exec_keyCommit, execKeyCommit]
@[simp] theorem keepsPlace_keyErase (s : State) : KeepsPlace s (exec .keyErase s) := by
  simp [exec_keyErase, execKeyErase]
@[simp] theorem keepsPlace_ciphUnwrap (p : Pkt) (s : State) : KeepsPlace s (exec (.ciphUnwrap p) s) := by
  simp [exec_ciphUnwrap, execCiphUnwrap]
@[simp] theorem keepsPlace_ciphSlotRead (p : Pkt) (s : State) : KeepsPlace s (exec (.ciphSlotRead p) s) := by
  rw [exec_ciphSlotRead, execCiphSlotRead]
  refine keepsPlace_runCmd (fun n u => ?_) p s
  simp
@[simp] theorem keepsPlace_ciphRq (p : Pkt) (s : State) : KeepsPlace s (exec (.ciphRq p) s) := by
  simp [exec_ciphRq, execCiphRq]
@[simp] theorem keepsPlace_ciphRqTailWrite (v : BitVec 16) (s : State) :
    KeepsPlace s (exec (.ciphRqTailWrite v) s) := by
  simp [exec_ciphRqTailWrite, execCiphRqTailWrite]
@[simp] theorem keepsPlace_ctrEncrypt (desc : List Byte) (data : List Byte) (fail : Option Nat) (s : State) :
    KeepsPlace s (exec (.ctrEncrypt desc data fail) s) := by
  simp [exec_ctrEncrypt, execCtrEncrypt]
@[simp] theorem keepsPlace_ctrDecrypt (desc : List Byte) (data : List Byte) (fail : Option Nat) (s : State) :
    KeepsPlace s (exec (.ctrDecrypt desc data fail) s) := by
  simp [exec_ctrDecrypt, execCtrDecrypt]
@[simp] theorem keepsPlace_gcmEncrypt (desc : List Byte) (data : List Byte) (aad : List Byte) (fail : Option Nat)
    (s : State) :
    KeepsPlace s (exec (.gcmEncrypt desc data aad fail) s) := by
  simp [exec_gcmEncrypt, execGcmEncrypt]
@[simp] theorem keepsPlace_gcmDecrypt (desc : List Byte) (data : List Byte) (aad : List Byte) (tag : List Byte)
    (fail : Option Nat) (s : State) :
    KeepsPlace s (exec (.gcmDecrypt desc data aad tag fail) s) := by
  simp [exec_gcmDecrypt, execGcmDecrypt]
@[simp] theorem keepsPlace_cmacGenerate (desc : List Byte) (data : List Byte) (fail : Option Nat) (s : State) :
    KeepsPlace s (exec (.cmacGenerate desc data fail) s) := by
  simp [exec_cmacGenerate, execCmacGenerate]
@[simp] theorem keepsPlace_cmacVerify (desc : List Byte) (data : List Byte) (tag : List Byte) (fail : Option Nat)
    (s : State) :
    KeepsPlace s (exec (.cmacVerify desc data tag fail) s) := by
  simp [exec_cmacVerify, execCmacVerify]
@[simp] theorem keepsPlace_entropyHealthFail (test : Byte) (s : State) :
    KeepsPlace s (exec (.entropyHealthFail test) s) := by
  simp [exec_entropyHealthFail, execEntropyHealthFail]
@[simp] theorem keepsPlace_ciphStatSnap (s : State) : KeepsPlace s (exec .ciphStatSnap s) := by
  simp [exec_ciphStatSnap, execCiphStatSnap]

end Sys2Proof.Machine
end

section
/-! SUPPORT. The commands of Machine/HostQueues.lean keep the place in time (R34). -/

namespace Sys2Proof.Machine

@[simp] theorem keepsPlace_hostDq (p : Pkt) (s : State) : KeepsPlace s (exec (.hostDq p) s) := by
  simp [exec_hostDq, execHostDq]
@[simp] theorem keepsPlace_hostHq (p : Pkt) (s : State) : KeepsPlace s (exec (.hostHq p) s) := by
  simp [exec_hostHq, execHostHq]
@[simp] theorem keepsPlace_dqTailWrite (f : Fin 6) (q : Fin 64) (v : BitVec 16) (s : State) :
    KeepsPlace s (exec (.dqTailWrite f q v) s) := by
  simp [exec_dqTailWrite, execDqTailWrite]
@[simp] theorem keepsPlace_hqTailWrite (f : Fin 6) (q : Fin 64) (v : BitVec 16) (s : State) :
    KeepsPlace s (exec (.hqTailWrite f q v) s) := by
  simp [exec_hqTailWrite, execHqTailWrite]

@[simp] theorem keepsPlace_dqFrameClaim (q : Fin 64) (addrs : List (BitVec 64)) (bad : Option Nat) (s : State) :
    KeepsPlace s (exec (.dqFrameClaim q addrs bad) s) := by
  rw [exec_dqFrameClaim, execDqFrameClaim]
  dsimp only
  split
  · split
    · split
      next u h => simp [State.tick_of_eq h]
      next u k h => simp [State.tick_of_eq h]
    · simp
  · simp

@[simp] theorem keepsPlace_dqFrameCommit (q : Fin 64) (s : State) : KeepsPlace s (exec (.dqFrameCommit q) s) := by
  rw [exec_dqFrameCommit, execDqFrameCommit]
  split <;> simp
@[simp] theorem keepsPlace_dqHoldTimeout (q : Fin 64) (s : State) : KeepsPlace s (exec (.dqHoldTimeout q) s) := by
  rw [exec_dqHoldTimeout, execDqHoldTimeout]
  split <;> simp
@[simp] theorem keepsPlace_dqPopRead (f : Fin 6) (q : Fin 64) (s : State) : KeepsPlace s (exec (.dqPopRead f q) s) := by
  simp [exec_dqPopRead, execDqPopRead]
@[simp] theorem keepsPlace_funcPopRead (f : Fin 6) (s : State) : KeepsPlace s (exec (.funcPopRead f) s) := by
  rw [exec_funcPopRead, execFuncPopRead]
  split <;> simp

@[simp] theorem keepsPlace_hqDescriptor (q : Fin 64) (desc : List Byte) (bytes : List Byte) (s : State) :
    KeepsPlace s (exec (.hqDescriptor q desc bytes) s) := by
  rw [exec_hqDescriptor, execHqDescriptor]
  dsimp only
  split
  · split
    · simp
    split
    next u h => simp [State.tick_of_eq h]
    next u i h => simp [State.tick_of_eq h]
  · simp

@[simp] theorem keepsPlace_hostDmaError (h2d : Bool) (q : Fin 64) (code : Byte) (s : State) :
    KeepsPlace s (exec (.hostDmaError h2d q code) s) := by
  rw [exec_hostDmaError, execHostDmaError]
  dsimp only
  repeat' split
  all_goals simp

@[simp] theorem keepsPlace_hostStatSnap (s : State) : KeepsPlace s (exec .hostStatSnap s) := by
  simp [exec_hostStatSnap, execHostStatSnap]

end Sys2Proof.Machine
end

section
/-! SUPPORT. The commands of Machine/Lanes.lean keep the place in time (R34). -/

namespace Sys2Proof.Machine

@[simp] theorem keepsPlace_laneEq (p : Pkt) (s : State) : KeepsPlace s (exec (.laneEq p) s) := by
  rw [exec_laneEq, execLaneEq]
  refine keepsPlace_runCmd (fun n u => ?_) p s
  dsimp only
  split
  · simp
  split
  next v h => simp [State.tick_of_eq h]
  next v h => simp [State.tick_of_eq h]

@[simp] theorem keepsPlace_laneTest (p : Pkt) (s : State) : KeepsPlace s (exec (.laneTest p) s) := by
  simp [exec_laneTest, execLaneTest]
@[simp] theorem keepsPlace_laneSleep (p : Pkt) (s : State) : KeepsPlace s (exec (.laneSleep p) s) := by
  simp [exec_laneSleep, execLaneSleep]
@[simp] theorem keepsPlace_laneEye (p : Pkt) (s : State) : KeepsPlace s (exec (.laneEye p) s) := by
  simp [exec_laneEye, execLaneEye]
@[simp] theorem keepsPlace_laneEyeRead (p : Pkt) (s : State) : KeepsPlace s (exec (.laneEyeRead p) s) := by
  simp [exec_laneEyeRead, execLaneEyeRead]
@[simp] theorem keepsPlace_laneTxfirWrite (l : Fin 44) (r : Fin 3) (v : Word) (s : State) :
    KeepsPlace s (exec (.laneTxfirWrite l r v) s) := by
  simp [exec_laneTxfirWrite, execLaneTxfirWrite]
@[simp] theorem keepsPlace_laneLoopWrite (l : Fin 44) (loop : Fin 4) (s : State) :
    KeepsPlace s (exec (.laneLoopWrite l loop) s) := by
  simp [exec_laneLoopWrite, execLaneLoopWrite]
@[simp] theorem keepsPlace_patternGenEnable (l : Fin 44) (on : Bool) (s : State) :
    KeepsPlace s (exec (.patternGenEnable l on) s) := by
  simp [exec_patternGenEnable, execPatternGenEnable]
@[simp] theorem keepsPlace_checkerEnable (l : Fin 44) (s : State) : KeepsPlace s (exec (.checkerEnable l) s) := by
  simp [exec_checkerEnable, execCheckerEnable]
@[simp] theorem keepsPlace_patternLock (l : Fin 44) (words : List (BitVec 64)) (s : State) :
    KeepsPlace s (exec (.patternLock l words) s) := by
  simp [exec_patternLock, execPatternLock]
@[simp] theorem keepsPlace_patternLockLoss (l : Fin 44) (words : List (BitVec 64)) (s : State) :
    KeepsPlace s (exec (.patternLockLoss l words) s) := by
  simp [exec_patternLockLoss, execPatternLockLoss]
@[simp] theorem keepsPlace_injectionGo (l : Fin 44) (s : State) : KeepsPlace s (exec (.injectionGo l) s) := by
  simp [exec_injectionGo, execInjectionGo]
@[simp] theorem keepsPlace_laneInjection (l : Fin 44) (words : List (BitVec 64)) (s : State) :
    KeepsPlace s (exec (.laneInjection l words) s) := by
  simp [exec_laneInjection, execLaneInjection]
@[simp] theorem keepsPlace_eyeScanGo (l : Fin 40) (s : State) : KeepsPlace s (exec (.eyeScanGo l) s) := by
  simp [exec_eyeScanGo, execEyeScanGo]
@[simp] theorem keepsPlace_eyeScanPoint (l : Fin 40) (count : Nat) (s : State) :
    KeepsPlace s (exec (.eyeScanPoint l count) s) := by
  simp [exec_eyeScanPoint, execEyeScanPoint]
@[simp] theorem keepsPlace_eyeScanAbort (l : Fin 40) (s : State) : KeepsPlace s (exec (.eyeScanAbort l) s) := by
  simp [exec_eyeScanAbort, execEyeScanAbort]
@[simp] theorem keepsPlace_eyeDataRead (f : Fin 6) (l : Fin 40) (s : State) :
    KeepsPlace s (exec (.eyeDataRead f l) s) := by
  simp [exec_eyeDataRead, execEyeDataRead]
@[simp] theorem keepsPlace_lanePatSnap (l : Fin 44) (words : List (BitVec 64)) (s : State) :
    KeepsPlace s (exec (.lanePatSnap l words) s) := by
  simp [exec_lanePatSnap, execLanePatSnap]
@[simp] theorem keepsPlace_lanePwrWrite (l : Fin 44) (v : Word) (s : State) :
    KeepsPlace s (exec (.lanePwrWrite l v) s) := by
  simp [exec_lanePwrWrite, execLanePwrWrite]
@[simp] theorem keepsPlace_laneWakeBySignal (l : Fin 40) (s : State) : KeepsPlace s (exec (.laneWakeBySignal l) s) := by
  simp [exec_laneWakeBySignal, execLaneWakeBySignal]
@[simp] theorem keepsPlace_laneHalfReady (l : Fin 44) (tx : Bool) (s : State) :
    KeepsPlace s (exec (.laneHalfReady l tx) s) := by
  simp [exec_laneHalfReady, execLaneHalfReady]

end Sys2Proof.Machine
end

section
/-! SUPPORT. The commands of Machine/Memory.lean keep the place in time (R34). -/

namespace Sys2Proof.Machine

@[simp] theorem keepsPlace_memRead (p : Pkt) (s : State) : KeepsPlace s (exec (.memRead p) s) := by
  rw [exec_memRead, execMemRead]
  refine keepsPlace_runCmd (fun n u => ?_) p s
  dsimp only
  split_ifs
  · simp
  · split
    next v bs h => simp [State.tick_of_eq h]
    next v i h => simp [State.tick_of_eq h]
  · simp

@[simp] theorem keepsPlace_memWrite (p : Pkt) (s : State) : KeepsPlace s (exec (.memWrite p) s) := by
  rw [exec_memWrite, execMemWrite]
  refine keepsPlace_runCmd (fun n u => ?_) p s
  dsimp only
  split_ifs
  · simp
  · simp
  · split
    next v h => simp [State.tick_of_eq h]
    next v e h => simp [State.tick_of_eq h]
  · simp

@[simp] theorem keepsPlace_memCfg (p : Pkt) (s : State) : KeepsPlace s (exec (.memCfg p) s) := by
  simp [exec_memCfg, execMemCfg]
@[simp] theorem keepsPlace_memInjectionArm (v : Word) (s : State) : KeepsPlace s (exec (.memInjectionArm v) s) := by
  simp [exec_memInjectionArm, execMemInjectionArm]
@[simp] theorem keepsPlace_memStatSnap (s : State) : KeepsPlace s (exec .memStatSnap s) := by
  simp [exec_memStatSnap, execMemStatSnap]

end Sys2Proof.Machine
end

section
/-! SUPPORT. The commands of Machine/PonRx.lean keep the place in time (R34). -/

namespace Sys2Proof.Machine

@[simp] theorem keepsPlace_ponRxEnable (c : Fin 4) (s : State) : KeepsPlace s (exec (.ponRxEnable c) s) := by
  simp [exec_ponRxEnable, execPonRxEnable]
@[simp] theorem keepsPlace_ponRxDisable (c : Fin 4) (mid : Bool) (s : State) :
    KeepsPlace s (exec (.ponRxDisable c mid) s) := by
  simp [exec_ponRxDisable, execPonRxDisable]
@[simp] theorem keepsPlace_losAssert (c : Fin 4) (peak : Byte) (mid : Bool) (cycles : List EqCycle) (s : State) :
    KeepsPlace s (exec (.losAssert c peak mid cycles) s) := by
  simp [exec_losAssert, execLosAssert]
@[simp] theorem keepsPlace_losClear (c : Fin 4) (peak : Byte) (s : State) :
    KeepsPlace s (exec (.losClear c peak) s) := by
  simp [exec_losClear, execLosClear]
@[simp] theorem keepsPlace_cdrLock (c : Fin 4) (s : State) : KeepsPlace s (exec (.cdrLock c) s) := by
  simp [exec_cdrLock, execCdrLock]
@[simp] theorem keepsPlace_eqReset (c : Fin 4) (s : State) : KeepsPlace s (exec (.eqReset c) s) := by
  simp [exec_eqReset, execEqReset]
@[simp] theorem keepsPlace_eqAcquisitionEnd (c : Fin 4) (cycles : List EqCycle) (s : State) :
    KeepsPlace s (exec (.eqAcquisitionEnd c cycles) s) := by
  simp [exec_eqAcquisitionEnd, execEqAcquisitionEnd]
@[simp] theorem keepsPlace_eqDivergenceReset (c : Fin 4) (mse1 : BitVec 16) (mse2 : BitVec 16) (s : State) :
    KeepsPlace s (exec (.eqDivergenceReset c mse1 mse2) s) := by
  simp [exec_eqDivergenceReset, execEqDivergenceReset]
@[simp] theorem keepsPlace_eqSnap (c : Fin 4) (cycles : List EqCycle) (mse : BitVec 16) (s : State) :
    KeepsPlace s (exec (.eqSnap c cycles mse) s) := by
  simp [exec_eqSnap, execEqSnap]
@[simp] theorem keepsPlace_eqTapWrite (c : Fin 4) (k : Fin 32) (v : BitVec 12) (s : State) :
    KeepsPlace s (exec (.eqTapWrite c k v) s) := by
  simp [exec_eqTapWrite, execEqTapWrite]
@[simp] theorem keepsPlace_psyncMatch (c : Fin 4) (at_ : Nat) (p : PSync) (s : State) :
    KeepsPlace s (exec (.psyncMatch c at_ p) s) := by
  simp [exec_psyncMatch, execPsyncMatch]
@[simp] theorem keepsPlace_candidateCheck (c : Fin 4) (at_ : Nat) (p : PSync) (us : Nat) (s : State) :
    KeepsPlace s (exec (.candidateCheck c at_ p us) s) := by
  rw [exec_candidateCheck, execCandidateCheck]
  split <;> simp
@[simp] theorem keepsPlace_psyncCheck (c : Fin 4) (p : PSync) (mid : Bool) (s : State) :
    KeepsPlace s (exec (.psyncCheck c p mid) s) := by
  simp [exec_psyncCheck, execPsyncCheck]
@[simp] theorem keepsPlace_fecCodeword (c : Fin 4) (found : Option Nat) (changed : Nat) (s : State) :
    KeepsPlace s (exec (.fecCodeword c found changed) s) := by
  simp [exec_fecCodeword, execFecCodeword]
@[simp] theorem keepsPlace_fecEsInterval (c : Fin 4) (s : State) : KeepsPlace s (exec (.fecEsInterval c) s) := by
  simp [exec_fecEsInterval, execFecEsInterval]
@[simp] theorem keepsPlace_ponStatSnap (c : Fin 4) (s : State) : KeepsPlace s (exec (.ponStatSnap c) s) := by
  simp [exec_ponStatSnap, execPonStatSnap]
@[simp] theorem keepsPlace_ponStatIntervalCopy (c : Fin 4) (s : State) :
    KeepsPlace s (exec (.ponStatIntervalCopy c) s) := by
  simp [exec_ponStatIntervalCopy, execPonStatIntervalCopy]
@[simp] theorem keepsPlace_watchfulRxWake (c : Fin 4) (s : State) : KeepsPlace s (exec (.watchfulRxWake c) s) := by
  simp [exec_watchfulRxWake, execWatchfulRxWake]
@[simp] theorem keepsPlace_ponSfcLoRead (f : Fin 6) (c : Fin 4) (s : State) :
    KeepsPlace s (exec (.ponSfcLoRead f c) s) := by
  simp [exec_ponSfcLoRead, execPonSfcLoRead]

end Sys2Proof.Machine
end

section
/-! SUPPORT. The commands of Machine/PonTc.lean keep the place in time (R34). -/

namespace Sys2Proof.Machine

@[simp] theorem keepsPlace_burstProfile (m : Ploam) (p : Profile) (s : State) :
    KeepsPlace s (exec (.burstProfile m p) s) := by
  rw [exec_burstProfile, execBurstProfile]
  refine keepsPlace_next.mpr (congrArg TickGen.place (runPloam_tick (fun u r h => ?_) s))
  dsimp only at h
  split at h
  · obtain rfl := Option.some.inj h
    rfl
  · obtain rfl := Option.some.inj h
    simp

@[simp] theorem keepsPlace_assignOnuId (m : Ploam) (sn : BitVec 64) (id : BitVec 10) (s : State) :
    KeepsPlace s (exec (.assignOnuId m sn id) s) := by
  simp [exec_assignOnuId, execAssignOnuId, runPloam_tick]
@[simp] theorem keepsPlace_rangingTime (m : Ploam) (relative : Bool) (v : Int) (s : State) :
    KeepsPlace s (exec (.rangingTime m relative v) s) := by
  simp [exec_rangingTime, execRangingTime, runPloam_tick]
@[simp] theorem keepsPlace_deactivateOnuId (m : Ploam) (s : State) : KeepsPlace s (exec (.deactivateOnuId m) s) := by
  simp [exec_deactivateOnuId, execDeactivateOnuId, runPloam_tick]
@[simp] theorem keepsPlace_disableSerialNumber (m : Ploam) (sn : BitVec 64) (s : State) :
    KeepsPlace s (exec (.disableSerialNumber m sn) s) := by
  simp [exec_disableSerialNumber, execDisableSerialNumber, runPloam_tick]
@[simp] theorem keepsPlace_enableSerialNumber (m : Ploam) (sn : BitVec 64) (s : State) :
    KeepsPlace s (exec (.enableSerialNumber m sn) s) := by
  simp [exec_enableSerialNumber, execEnableSerialNumber, runPloam_tick]
@[simp] theorem keepsPlace_requestRegistration (m : Ploam) (s : State) :
    KeepsPlace s (exec (.requestRegistration m) s) := by
  simp [exec_requestRegistration, execRequestRegistration, runPloam_tick]

@[simp] theorem keepsPlace_assignAllocId (m : Ploam) (alloc : BitVec 14) (dealloc : Bool) (s : State) :
    KeepsPlace s (exec (.assignAllocId m alloc dealloc) s) := by
  rw [exec_assignAllocId, execAssignAllocId]
  refine keepsPlace_next.mpr (congrArg TickGen.place (runPloam_tick (fun u r h => ?_) s))
  dsimp only at h
  split at h
  · obtain rfl := Option.some.inj h
    dsimp only
    split <;> simp
  split at h
  · obtain rfl := Option.some.inj h
    rfl
  split at h
  · obtain rfl := Option.some.inj h
    simp
  · obtain rfl := Option.some.inj h
    simp

@[simp] theorem keepsPlace_keyControl (m : Ploam) (idx : Fin 2) (key : BitVec 128) (s : State) :
    KeepsPlace s (exec (.keyControl m idx key) s) := by
  rw [exec_keyControl, execKeyControl]
  refine keepsPlace_next.mpr (congrArg TickGen.place (runPloam_tick (fun u r h => ?_) s))
  dsimp only at h
  split at h
  · obtain rfl := Option.some.inj h
    rfl
  · obtain rfl := Option.some.inj h
    simp

@[simp] theorem keepsPlace_sleepAllow (m : Ploam) (on : Bool) (s : State) :
    KeepsPlace s (exec (.sleepAllow m on) s) := by
  rw [exec_sleepAllow, execSleepAllow]
  refine keepsPlace_next.mpr (congrArg TickGen.place (runPloam_tick (fun u r h => ?_) s))
  dsimp only at h
  split at h
  · obtain rfl := Option.some.inj h
    simp
  · obtain rfl := Option.some.inj h
    simp

@[simp] theorem keepsPlace_ploamUnsupported (m : Ploam) (answer : Bool) (s : State) :
    KeepsPlace s (exec (.ploamUnsupported m answer) s) := by
  simp [exec_ploamUnsupported, execPloamUnsupported, runPloam_tick]
@[simp] theorem keepsPlace_to1Expiry (c : Fin 4) (s : State) : KeepsPlace s (exec (.to1Expiry c) s) := by
  rw [exec_to1Expiry, execTo1Expiry]
  split <;> simp
@[simp] theorem keepsPlace_to2Expiry (c : Fin 4) (s : State) : KeepsPlace s (exec (.to2Expiry c) s) := by
  rw [exec_to2Expiry, execTo2Expiry]
  split <;> simp
@[simp] theorem keepsPlace_snResponseSend (c : Fin 4) (delay : Nat) (s : State) :
    KeepsPlace s (exec (.snResponseSend c delay) s) := by
  simp [exec_snResponseSend, execSnResponseSend]
@[simp] theorem keepsPlace_rangingResponseSend (c : Fin 4) (s : State) :
    KeepsPlace s (exec (.rangingResponseSend c) s) := by
  simp [exec_rangingResponseSend, execRangingResponseSend]
@[simp] theorem keepsPlace_actHoldClear (c : Fin 4) (s : State) : KeepsPlace s (exec (.actHoldClear c) s) := by
  simp [exec_actHoldClear, execActHoldClear]

@[simp] theorem keepsPlace_xgemFrame (c : Fin 4) (x : Xgem) (lost : List (Nat × Bool)) (s : State) :
    KeepsPlace s (exec (.xgemFrame c x lost) s) := by
  rw [exec_xgemFrame, execXgemFrame]
  dsimp only
  repeat' split
  all_goals simp

@[simp] theorem keepsPlace_forcedWakeup (c : Fin 4) (s : State) : KeepsPlace s (exec (.forcedWakeup c) s) := by
  simp [exec_forcedWakeup, execForcedWakeup]
@[simp] theorem keepsPlace_txPowerUp (c : Fin 4) (s : State) : KeepsPlace s (exec (.txPowerUp c) s) := by
  simp [exec_txPowerUp, execTxPowerUp]
@[simp] theorem keepsPlace_ponCfg (p : Pkt) (s : State) : KeepsPlace s (exec (.ponCfg p) s) := by
  simp [exec_ponCfg, execPonCfg]
@[simp] theorem keepsPlace_ponRegId (p : Pkt) (s : State) : KeepsPlace s (exec (.ponRegId p) s) := by
  simp [exec_ponRegId, execPonRegId]
@[simp] theorem keepsPlace_ponMsk (p : Pkt) (s : State) : KeepsPlace s (exec (.ponMsk p) s) := by
  simp [exec_ponMsk, execPonMsk]
@[simp] theorem keepsPlace_ponPortAdd (p : Pkt) (s : State) : KeepsPlace s (exec (.ponPortAdd p) s) := by
  simp [exec_ponPortAdd, execPonPortAdd]
@[simp] theorem keepsPlace_ponPortRemove (p : Pkt) (s : State) : KeepsPlace s (exec (.ponPortRemove p) s) := by
  simp [exec_ponPortRemove, execPonPortRemove]
@[simp] theorem keepsPlace_ponLullPolicy (p : Pkt) (s : State) : KeepsPlace s (exec (.ponLullPolicy p) s) := by
  simp [exec_ponLullPolicy, execPonLullPolicy]
@[simp] theorem keepsPlace_ponQueues (p : Pkt) (s : State) : KeepsPlace s (exec (.ponQueues p) s) := by
  simp [exec_ponQueues, execPonQueues]
@[simp] theorem keepsPlace_awareIntervalStart (c : Fin 4) (s : State) :
    KeepsPlace s (exec (.awareIntervalStart c) s) := by
  simp [exec_awareIntervalStart, execAwareIntervalStart]
@[simp] theorem keepsPlace_lowPowerIntervalStart (c : Fin 4) (s : State) :
    KeepsPlace s (exec (.lowPowerIntervalStart c) s) := by
  simp [exec_lowPowerIntervalStart, execLowPowerIntervalStart]

end Sys2Proof.Machine
end

section
/-! SUPPORT. The commands of Machine/Sched.lean keep the place in time (R34). -/

namespace Sys2Proof.Machine

@[simp] theorem keepsPlace_dequeue (node1 : Fin 29) (cyc : Nat) (s : State) :
    KeepsPlace s (exec (.dequeue node1 cyc) s) := by
  rw [exec_dequeue, execDequeue]
  dsimp only
  split
  · split
    · simp
    split
    next u h => simp [State.tick_of_eq h]
    next u i x h => simp [State.tick_of_eq h]
  split
  · split
    next u h => simp [State.tick_of_eq h]
    next u i x h => simp [State.tick_of_eq h]
  · simp

@[simp] theorem keepsPlace_recoveryAccountingEnd (s : State) : KeepsPlace s (exec .recoveryAccountingEnd s) := by
  simp [exec_recoveryAccountingEnd, execRecoveryAccountingEnd]
@[simp] theorem keepsPlace_schL1 (p : Pkt) (s : State) : KeepsPlace s (exec (.schL1 p) s) := by
  simp [exec_schL1, execSchL1]
@[simp] theorem keepsPlace_schL2 (p : Pkt) (s : State) : KeepsPlace s (exec (.schL2 p) s) := by
  simp [exec_schL2, execSchL2]
@[simp] theorem keepsPlace_schQueue (p : Pkt) (s : State) : KeepsPlace s (exec (.schQueue p) s) := by
  simp [exec_schQueue, execSchQueue]
@[simp] theorem keepsPlace_schQueueRead (p : Pkt) (s : State) : KeepsPlace s (exec (.schQueueRead p) s) := by
  rw [exec_schQueueRead, execSchQueueRead]
  refine keepsPlace_runCmd (fun n u => ?_) p s
  simp
@[simp] theorem keepsPlace_schSample (p : Pkt) (s : State) : KeepsPlace s (exec (.schSample p) s) := by
  simp [exec_schSample, execSchSample]
@[simp] theorem keepsPlace_lineCtxLoad (p : Pkt) (s : State) : KeepsPlace s (exec (.lineCtxLoad p) s) := by
  simp [exec_lineCtxLoad, execLineCtxLoad]
@[simp] theorem keepsPlace_lineCtxRead (p : Pkt) (s : State) : KeepsPlace s (exec (.lineCtxRead p) s) := by
  simp [exec_lineCtxRead, execLineCtxRead]
@[simp] theorem keepsPlace_schStatSnap (s : State) : KeepsPlace s (exec .schStatSnap s) := by
  simp [exec_schStatSnap, execSchStatSnap]

end Sys2Proof.Machine
end

section
/-! SUPPORT. The commands of Machine/PonUp.lean keep the place in time (R34). -/

namespace Sys2Proof.Machine

@[simp] theorem keepsPlace_bwmap (c : Fin 4) (grants : List Grant) (bad : Bool) (hlBad : Bool) (s : State) :
    KeepsPlace s (exec (.bwmap c grants bad hlBad) s) := by
  simp [exec_bwmap, execBwmap]
@[simp] theorem keepsPlace_burstBuild (c : Fin 4) (cyc : Nat) (key : Fin 3) (bad : List Nat) (ready : Bool)
    (s : State) :
    KeepsPlace s (exec (.burstBuild c cyc key bad ready) s) := by
  rw [exec_burstBuild, execBurstBuild]
  split <;> simp

@[simp] theorem keepsPlace_burstTransmit (c : Fin 4) (ends : Bool) (s : State) :
    KeepsPlace s (exec (.burstTransmit c ends) s) := by
  rw [exec_burstTransmit, execBurstTransmit]
  dsimp only
  repeat' split
  all_goals simp

@[simp] theorem keepsPlace_bondTaggedFrame (s : State) : KeepsPlace s (exec .bondTaggedFrame s) := by
  rw [exec_bondTaggedFrame, execBondTaggedFrame]
  split <;> simp
@[simp] theorem keepsPlace_reseqHoldTimeout (g : Fin 4) (waited : Nat) (s : State) :
    KeepsPlace s (exec (.reseqHoldTimeout g waited) s) := by
  simp [exec_reseqHoldTimeout, execReseqHoldTimeout]

@[simp] theorem keepsPlace_bondStatusReceive (s : State) : KeepsPlace s (exec .bondStatusReceive s) := by
  rw [exec_bondStatusReceive, execBondStatusReceive]
  dsimp only
  repeat' split
  all_goals simp

@[simp] theorem keepsPlace_allocCtxLoad (p : Pkt) (s : State) : KeepsPlace s (exec (.allocCtxLoad p) s) := by
  simp [exec_allocCtxLoad, execAllocCtxLoad]
@[simp] theorem keepsPlace_allocCtxRead (p : Pkt) (s : State) : KeepsPlace s (exec (.allocCtxRead p) s) := by
  simp [exec_allocCtxRead, execAllocCtxRead]
@[simp] theorem keepsPlace_bondCtxLoad (p : Pkt) (s : State) : KeepsPlace s (exec (.bondCtxLoad p) s) := by
  simp [exec_bondCtxLoad, execBondCtxLoad]
@[simp] theorem keepsPlace_bondCtxRead (p : Pkt) (s : State) : KeepsPlace s (exec (.bondCtxRead p) s) := by
  simp [exec_bondCtxRead, execBondCtxRead]
@[simp] theorem keepsPlace_bondMeClass (p : Pkt) (s : State) : KeepsPlace s (exec (.bondMeClass p) s) := by
  simp [exec_bondMeClass, execBondMeClass]
@[simp] theorem keepsPlace_bondQueue (p : Pkt) (s : State) : KeepsPlace s (exec (.bondQueue p) s) := by
  simp [exec_bondQueue, execBondQueue]
@[simp] theorem keepsPlace_bondStatSnap (s : State) : KeepsPlace s (exec .bondStatSnap s) := by
  simp [exec_bondStatSnap, execBondStatSnap]
@[simp] theorem keepsPlace_bondStatIntervalCopy (s : State) : KeepsPlace s (exec .bondStatIntervalCopy s) := by
  simp [exec_bondStatIntervalCopy, execBondStatIntervalCopy]

@[simp] theorem keepsPlace_enqueue (cyc : Nat) (s : State) : KeepsPlace s (exec (.enqueue cyc) s) := by
  rw [exec_enqueue, execEnqueue]
  dsimp only
  repeat' split
  all_goals simp

end Sys2Proof.Machine
end

section
/-! SUPPORT. The commands of Machine/Groups.lean keep the place in time (R34). -/

namespace Sys2Proof.Machine

@[simp] theorem keepsPlace_vgDefine (p : Pkt) (s : State) : KeepsPlace s (exec (.vgDefine p) s) := by
  rw [exec_vgDefine, execVgDefine]
  refine keepsPlace_runCmd (fun n u => ?_) p s
  dsimp only
  split
  · simp
  split
  · simp
  split
  · simp
  · split <;> simp

@[simp] theorem keepsPlace_vgLadder (p : Pkt) (s : State) : KeepsPlace s (exec (.vgLadder p) s) := by
  rw [exec_vgLadder, execVgLadder]
  refine keepsPlace_runCmd (fun n u => ?_) p s
  dsimp only
  split
  · simp
  split
  · simp
  · split <;> simp

@[simp] theorem keepsPlace_vgStart (p : Pkt) (s : State) : KeepsPlace s (exec (.vgStart p) s) := by
  rw [exec_vgStart, execVgStart]
  refine keepsPlace_runCmd (fun n u => ?_) p s
  dsimp only
  split
  · simp
  split
  · simp
  split
  · simp
  · split <;> simp

@[simp] theorem keepsPlace_vgStop (p : Pkt) (s : State) : KeepsPlace s (exec (.vgStop p) s) := by
  simp [exec_vgStop, execVgStop]
@[simp] theorem keepsPlace_vgParam (p : Pkt) (s : State) : KeepsPlace s (exec (.vgParam p) s) := by
  simp [exec_vgParam, execVgParam]
@[simp] theorem keepsPlace_vgParamDone (s : State) : KeepsPlace s (exec .vgParamDone s) := by
  rw [exec_vgParamDone, execVgParamDone]
  split <;> simp

@[simp] theorem keepsPlace_vgFenceWords (p : Pkt) (s : State) : KeepsPlace s (exec (.vgFenceWords p) s) := by
  rw [exec_vgFenceWords, execVgFenceWords]
  refine keepsPlace_runCmd (fun n u => ?_) p s
  dsimp only
  split
  · simp
  split
  · simp
  · split <;> simp

@[simp] theorem keepsPlace_vgFenceAbort (p : Pkt) (s : State) : KeepsPlace s (exec (.vgFenceAbort p) s) := by
  rw [exec_vgFenceAbort, execVgFenceAbort]
  refine keepsPlace_runCmd (fun n u => ?_) p s
  split
  · simp
  · split <;> simp

@[simp] theorem keepsPlace_vgFenceCommit (p : Pkt) (s : State) : KeepsPlace s (exec (.vgFenceCommit p) s) := by
  simp [exec_vgFenceCommit, execVgFenceCommit]
@[simp] theorem keepsPlace_fenceDrainWord (e : Fin 96) (s : State) : KeepsPlace s (exec (.fenceDrainWord e) s) := by
  rw [exec_fenceDrainWord, execFenceDrainWord]
  split <;> simp

@[simp] theorem keepsPlace_vgTgRelease (p : Pkt) (s : State) : KeepsPlace s (exec (.vgTgRelease p) s) := by
  rw [exec_vgTgRelease, execVgTgRelease]
  refine keepsPlace_runCmd (fun n u => ?_) p s
  split
  · simp
  · split <;> simp

@[simp] theorem keepsPlace_vgUndefine (p : Pkt) (s : State) : KeepsPlace s (exec (.vgUndefine p) s) := by
  simp [exec_vgUndefine, execVgUndefine]
@[simp] theorem keepsPlace_vgThaw (p : Pkt) (s : State) : KeepsPlace s (exec (.vgThaw p) s) := by
  simp [exec_vgThaw, execVgThaw]
@[simp] theorem keepsPlace_vsCutoff (p : Pkt) (s : State) : KeepsPlace s (exec (.vsCutoff p) s) := by
  simp [exec_vsCutoff, execVsCutoff]

@[simp] theorem keepsPlace_dmaTileWrite (g : Fin 4) (k : Fin 96) (q : Fin 16) (s : State) :
    KeepsPlace s (exec (.dmaTileWrite g k q) s) := by
  rw [exec_dmaTileWrite, execDmaTileWrite]
  dsimp only
  split
  · simp
  split
  · split
    · simp
    split
    · simp
    next u z h => simp [show u.tick = s.tick from State.dmaWrite_tick h]
  · split
    · simp
    split
    · simp
    next u z h => simp [show u.tick = s.tick from State.dmaWrite_tick h]

@[simp] theorem keepsPlace_dmaTileRead (g : Fin 4) (k : Fin 96) (q : Fin 16) (s : State) :
    KeepsPlace s (exec (.dmaTileRead g k q) s) := by
  rw [exec_dmaTileRead, execDmaTileRead]
  dsimp only
  split
  · simp
  split
  · simp
  split
  · simp
  next u z h => simp [show u.tick = s.tick from State.dmaRead_tick h]

end Sys2Proof.Machine
end

section
/-! SUPPORT. The commands of Machine/Power.lean keep the place in time (R34). -/

namespace Sys2Proof.Machine

@[simp] theorem keepsPlace_pwrSetClear (p : Pkt) (s : State) : KeepsPlace s (exec (.pwrSetClear p) s) := by
  simp [exec_pwrSetClear, execPwrSetClear]
@[simp] theorem keepsPlace_pwrSetHaze (p : Pkt) (s : State) : KeepsPlace s (exec (.pwrSetHaze p) s) := by
  simp [exec_pwrSetHaze, execPwrSetHaze]
@[simp] theorem keepsPlace_pwrSetOvercast (p : Pkt) (s : State) : KeepsPlace s (exec (.pwrSetOvercast p) s) := by
  simp [exec_pwrSetOvercast, execPwrSetOvercast]
@[simp] theorem keepsPlace_pwrSetDark (p : Pkt) (s : State) : KeepsPlace s (exec (.pwrSetDark p) s) := by
  simp [exec_pwrSetDark, execPwrSetDark]
@[simp] theorem keepsPlace_pwrCfg (p : Pkt) (s : State) : KeepsPlace s (exec (.pwrCfg p) s) := by
  simp [exec_pwrCfg, execPwrCfg]
@[simp] theorem keepsPlace_pwrStatSnap (s : State) : KeepsPlace s (exec .pwrStatSnap s) := by
  simp [exec_pwrStatSnap, execPwrStatSnap]
@[simp] theorem keepsPlace_checkpointWriteDone (s : State) : KeepsPlace s (exec .checkpointWriteDone s) := by
  simp [exec_checkpointWriteDone, execCheckpointWriteDone]
@[simp] theorem keepsPlace_overcastPoolDrainEnd (s : State) : KeepsPlace s (exec .overcastPoolDrainEnd s) := by
  simp [exec_overcastPoolDrainEnd, execOvercastPoolDrainEnd]
@[simp] theorem keepsPlace_pcieL2Entered (s : State) : KeepsPlace s (exec .pcieL2Entered s) := by
  simp [exec_pcieL2Entered, execPcieL2Entered]
@[simp] theorem keepsPlace_darkL2Timeout (s : State) : KeepsPlace s (exec .darkL2Timeout s) := by
  simp [exec_darkL2Timeout, execDarkL2Timeout]
@[simp] theorem keepsPlace_regulatorAckTimeout (s : State) : KeepsPlace s (exec .regulatorAckTimeout s) := by
  simp [exec_regulatorAckTimeout, execRegulatorAckTimeout]
@[simp] theorem keepsPlace_vePllLock (s : State) : KeepsPlace s (exec .vePllLock s) := by
  simp [exec_vePllLock, execVePllLock]

@[simp] theorem keepsPlace_memoryZeroFillDone (e : Option (Fin 96)) (s : State) :
    KeepsPlace s (exec (.memoryZeroFillDone e) s) := by
  rw [exec_memoryZeroFillDone]
  unfold execMemoryZeroFillDone
  split
  · split <;> simp
  · dsimp only
    split <;> simp

@[simp] theorem keepsPlace_instructionMemoryReloaded (e : Fin 96) (s : State) :
    KeepsPlace s (exec (.instructionMemoryReloaded e) s) := by
  simp [exec_instructionMemoryReloaded, execInstructionMemoryReloaded]
@[simp] theorem keepsPlace_overcastExitPortWaitEnd (s : State) : KeepsPlace s (exec .overcastExitPortWaitEnd s) := by
  simp [exec_overcastExitPortWaitEnd, execOvercastExitPortWaitEnd]
@[simp] theorem keepsPlace_gpioWake (k : Fin 24) (s : State) : KeepsPlace s (exec (.gpioWake k) s) := by
  simp [exec_gpioWake, execGpioWake]
@[simp] theorem keepsPlace_feedAlertLow (s : State) : KeepsPlace s (exec .feedAlertLow s) := by
  simp [exec_feedAlertLow, execFeedAlertLow]
@[simp] theorem keepsPlace_feedAlertRise (s : State) : KeepsPlace s (exec .feedAlertRise s) := by
  simp [exec_feedAlertRise, execFeedAlertRise]
@[simp] theorem keepsPlace_wakeTimerExpiry (s : State) : KeepsPlace s (exec .wakeTimerExpiry s) := by
  simp [exec_wakeTimerExpiry, execWakeTimerExpiry]
@[simp] theorem keepsPlace_wakeStepTimeout (s : State) : KeepsPlace s (exec .wakeStepTimeout s) := by
  simp [exec_wakeStepTimeout, execWakeStepTimeout]
@[simp] theorem keepsPlace_pcieLinkUp (s : State) : KeepsPlace s (exec .pcieLinkUp s) := by
  simp [exec_pcieLinkUp, execPcieLinkUp]
@[simp] theorem keepsPlace_gradeEvaluation (feed : Option (BitVec 16)) (pouts : List (Option (BitVec 16))) (s : State) :
    KeepsPlace s (exec (.gradeEvaluation feed pouts) s) := by
  simp [exec_gradeEvaluation, execGradeEvaluation]
@[simp] theorem keepsPlace_sensorReading (k : Fin 8) (t : BitVec 16) (s : State) :
    KeepsPlace s (exec (.sensorReading k t) s) := by
  simp [exec_sensorReading, execSensorReading]

end Sys2Proof.Machine
end

section
/-! SUPPORT. The commands of Machine/HostRings.lean keep the place in time (R34). -/

namespace Sys2Proof.Machine

@[simp] theorem keepsPlace_cmdTailWrite (f : Fin 6) (v : Word) (s : State) :
    KeepsPlace s (exec (.cmdTailWrite f v) s) := by
  simp [exec_cmdTailWrite, execCmdTailWrite]
@[simp] theorem keepsPlace_rplRdWrite (f : Fin 6) (v : Word) (s : State) : KeepsPlace s (exec (.rplRdWrite f v) s) := by
  simp [exec_rplRdWrite, execRplRdWrite]
@[simp] theorem keepsPlace_evtRdWrite (f : Fin 6) (v : Word) (s : State) : KeepsPlace s (exec (.evtRdWrite f v) s) := by
  simp [exec_evtRdWrite, execEvtRdWrite]
@[simp] theorem keepsPlace_ringCfgWrite (f : Fin 6) (v : Word) (s : State) :
    KeepsPlace s (exec (.ringCfgWrite f v) s) := by
  simp [exec_ringCfgWrite, execRingCfgWrite]
@[simp] theorem keepsPlace_pad (p : Pkt) (s : State) : KeepsPlace s (exec (.pad p) s) := by simp [exec_pad, execPad]
@[simp] theorem keepsPlace_replyWrite (f : Fin 6) (s : State) : KeepsPlace s (exec (.replyWrite f) s) := by
  simp [exec_replyWrite, execReplyWrite]
@[simp] theorem keepsPlace_commandTimeout (f : Fin 6) (id : Nat) (s : State) :
    KeepsPlace s (exec (.commandTimeout f id) s) := by
  simp [exec_commandTimeout, execCommandTimeout]
@[simp] theorem keepsPlace_mgmtInfo (p : Pkt) (s : State) : KeepsPlace s (exec (.mgmtInfo p) s) := by
  rw [exec_mgmtInfo, execMgmtInfo]
  refine keepsPlace_runCmd (fun n u => ?_) p s
  simp
@[simp] theorem keepsPlace_cfgCommit (p : Pkt) (s : State) : KeepsPlace s (exec (.cfgCommit p) s) := by
  simp [exec_cfgCommit, execCfgCommit]
@[simp] theorem keepsPlace_journalRead (p : Pkt) (s : State) : KeepsPlace s (exec (.journalRead p) s) := by
  simp [exec_journalRead, execJournalRead]
@[simp] theorem keepsPlace_boardRead (p : Pkt) (s : State) : KeepsPlace s (exec (.boardRead p) s) := by
  simp [exec_boardRead, execBoardRead]

theorem State.foldl_clearReg_tick (f : Nat) (o : Nat → Nat) (l : List Nat) (s : State) :
    (l.foldl (fun s i => s.clearReg f (o i)) s).tick = s.tick := by
  induction l generalizing s with
  | nil => rfl
  | cons i l ih => rw [List.foldl_cons, ih, State.clearReg_tick]
@[simp] theorem keepsPlace_cntClear (p : Pkt) (grp : Byte) (s : State) : KeepsPlace s (exec (.cntClear p grp) s) := by
  rw [exec_cntClear, execCntClear]
  refine keepsPlace_runCmd (fun n u => ?_) p s
  dsimp only
  split_ifs
  · simp
  · rw [finish_state, State.foldl_clearReg_tick p.func.val (fun i => p.w 0 + 4 * i)]
  · simp

end Sys2Proof.Machine
end

section
/-! SUPPORT. The commands of Machine/Resets.lean keep the place in time (R34). -/

namespace Sys2Proof.Machine

@[simp] theorem keepsPlace_functionLevelReset (f : Fin 6) (reqs : List (List Byte)) (s : State) :
    KeepsPlace s (exec (.functionLevelReset f reqs) s) := by
  simp [exec_functionLevelReset, execFunctionLevelReset]
@[simp] theorem keepsPlace_pcieHotReset (reqs : List (List Byte)) (s : State) :
    KeepsPlace s (exec (.pcieHotReset reqs) s) := by
  simp [exec_pcieHotReset, execPcieHotReset]

end Sys2Proof.Machine
end

section
/-! SUPPORT. The commands of Machine/Time.lean keep the place in time (R34). -/

namespace Sys2Proof.Machine

@[simp] theorem keepsPlace_timeSetIncrement (raw : Nat) (s : State) :
    KeepsPlace s (exec (.timeSetIncrement raw) s) := by
  simp [exec_timeSetIncrement, execTimeSetIncrement]
@[simp] theorem keepsPlace_timeAdjust (raw : Nat) (s : State) : KeepsPlace s (exec (.timeAdjust raw) s) := by
  simp [exec_timeAdjust, execTimeAdjust]
@[simp] theorem keepsPlace_timeSetTime (raw : Nat) (s : State) : KeepsPlace s (exec (.timeSetTime raw) s) := by
  simp [exec_timeSetTime, execTimeSetTime]
@[simp] theorem keepsPlace_timeIncrementAdjust (raw : Nat) (s : State) :
    KeepsPlace s (exec (.timeIncrementAdjust raw) s) := by
  simp [exec_timeIncrementAdjust, execTimeIncrementAdjust]
@[simp] theorem keepsPlace_timeRdRawLoRead (f : Fin 6) (raw : Nat) (s : State) :
    KeepsPlace s (exec (.timeRdRawLoRead f raw) s) := by
  simp [exec_timeRdRawLoRead, execTimeRdRawLoRead]

@[simp] theorem keepsPlace_capturePop (f : Fin 6) (s : State) : KeepsPlace s (exec (.capturePop f) s) := by
  rw [exec_capturePop, execCapturePop]
  dsimp only
  repeat' split
  all_goals simp

@[simp] theorem keepsPlace_ppsOutPulse (raw : Nat) (s : State) : KeepsPlace s (exec (.ppsOutPulse raw) s) := by
  simp [exec_ppsOutPulse, execPpsOutPulse]
@[simp] theorem keepsPlace_ppsInEdge (falling : Bool) (raw : Nat) (s : State) :
    KeepsPlace s (exec (.ppsInEdge falling raw) s) := by
  simp [exec_ppsInEdge, execPpsInEdge]
@[simp] theorem keepsPlace_ppsInLost (raw : Nat) (s : State) : KeepsPlace s (exec (.ppsInLost raw) s) := by
  simp [exec_ppsInLost, execPpsInLost]
@[simp] theorem keepsPlace_todMessageSend (raw : Nat) (s : State) : KeepsPlace s (exec (.todMessageSend raw) s) := by
  rw [exec_todMessageSend, execTodMessageSend]
  split <;> simp
@[simp] theorem keepsPlace_todRxByte (b : Byte) (s : State) : KeepsPlace s (exec (.todRxByte b) s) := by
  simp [exec_todRxByte, execTodRxByte]

@[simp] theorem keepsPlace_todRxPop (f : Fin 6) (s : State) : KeepsPlace s (exec (.todRxPop f) s) := by
  rw [exec_todRxPop, execTodRxPop]
  dsimp only
  repeat' split
  all_goals simp

@[simp] theorem keepsPlace_timeStatSnap (s : State) : KeepsPlace s (exec .timeStatSnap s) := by
  simp [exec_timeStatSnap, execTimeStatSnap]
@[simp] theorem keepsPlace_timeCfg (p : Pkt) (s : State) : KeepsPlace s (exec (.timeCfg p) s) := by
  simp [exec_timeCfg, execTimeCfg]

end Sys2Proof.Machine
end

section
/-! SUPPORT. The commands of Machine/RegWrite.lean keep the place in time (R34). -/

namespace Sys2Proof.Machine

@[simp] theorem keepsPlace_registerWrite (f : Fin 6) (off : BitVec 26) (v : Word) (be : BitVec 4) (s : State) :
    KeepsPlace s (exec (.registerWrite f off v be) s) := by
  simp [exec_registerWrite, execRegisterWrite]

end Sys2Proof.Machine
end

section
/-! SUPPORT. The commands of Machine/Boot.lean keep the place in time (R34). -/

namespace Sys2Proof.Machine

@[simp] theorem keepsPlace_startStepReady (info : StartInfo) (s : State) :
    KeepsPlace s (exec (.startStepReady info) s) := by
  simp [exec_startStepReady, execStartStepReady]
@[simp] theorem keepsPlace_startStepTimeout (info : StartInfo) (s : State) :
    KeepsPlace s (exec (.startStepTimeout info) s) := by
  simp [exec_startStepTimeout, execStartStepTimeout]
@[simp] theorem keepsPlace_qspiRead (f : Fin 6) (s : State) : KeepsPlace s (exec (.qspiRead f) s) := by
  simp [exec_qspiRead, execQspiRead, State.qspiWrite_tick]
@[simp] theorem keepsPlace_qspiProgram (f : Fin 6) (s : State) : KeepsPlace s (exec (.qspiProgram f) s) := by
  simp [exec_qspiProgram, execQspiProgram, State.qspiWrite_tick]
@[simp] theorem keepsPlace_qspiErase (f : Fin 6) (s : State) : KeepsPlace s (exec (.qspiErase f) s) := by
  simp [exec_qspiErase, execQspiErase, State.qspiWrite_tick]
@[simp] theorem keepsPlace_qspiOpDone (err : Bool) (s : State) : KeepsPlace s (exec (.qspiOpDone err) s) := by
  simp [exec_qspiOpDone, execQspiOpDone]
@[simp] theorem keepsPlace_journalMirrorWrite (ok : Bool) (s : State) :
    KeepsPlace s (exec (.journalMirrorWrite ok) s) := by
  simp [exec_journalMirrorWrite, execJournalMirrorWrite]
@[simp] theorem keepsPlace_journalClear (f : Fin 6) (s : State) : KeepsPlace s (exec (.journalClear f) s) := by
  simp [exec_journalClear, execJournalClear]
@[simp] theorem keepsPlace_opticMonitoringRead (c : Fin 4) (s : State) :
    KeepsPlace s (exec (.opticMonitoringRead c) s) := by
  simp [exec_opticMonitoringRead, execOpticMonitoringRead]

end Sys2Proof.Machine
end

section
/-! SUPPORT. The commands of Machine/Boundaries.lean keep the place in time (R34). -/

namespace Sys2Proof.Machine

@[simp] theorem keepsPlace_ponFrameBoundary (s : State) : KeepsPlace s (exec .ponFrameBoundary s) := by
  simp [exec_ponFrameBoundary, execPonFrameBoundary]

@[simp] theorem keepsPlace_vectorCycleBoundary (pkt : Nat) (s : State) :
    KeepsPlace s (exec (.vectorCycleBoundary pkt) s) := by
  rw [exec_vectorCycleBoundary, execVectorCycleBoundary]
  split
  · refine keepsPlace_next.mpr ?_
    simp
  · simp

@[simp] theorem keepsPlace_superframeBoundary (s : State) : KeepsPlace s (exec .superframeBoundary s) := by
  simp [exec_superframeBoundary, execSuperframeBoundary]

end Sys2Proof.Machine
end

section
/-! SUPPORT. The commands of Machine/Buffers.lean keep the place in time (R34). -/

namespace Sys2Proof.Machine

@[simp] theorem keepsPlace_bufferAllocation (agent : Fin 10) (len : Nat) (s : State) :
    KeepsPlace s (exec (.bufferAllocation agent len) s) := by
  simp [exec_bufferAllocation, execBufferAllocation]
@[simp] theorem keepsPlace_bufferHandover (id : BitVec 20) (agent : Fin 10) (inst : Byte) (dst : Fin 10) (s : State) :
    KeepsPlace s (exec (.bufferHandover id agent inst dst) s) := by
  simp [exec_bufferHandover, execBufferHandover]
@[simp] theorem keepsPlace_bufferFree (id : BitVec 20) (agent : Fin 10) (inst : Byte) (s : State) :
    KeepsPlace s (exec (.bufferFree id agent inst) s) := by
  simp [exec_bufferFree, execBufferFree]
@[simp] theorem keepsPlace_cacheFetch (n : Fin 4) (lost : List Nat) (s : State) :
    KeepsPlace s (exec (.cacheFetch n lost) s) := by
  simp [exec_cacheFetch, execCacheFetch]
@[simp] theorem keepsPlace_cacheWriteOut (n : Fin 4) (s : State) : KeepsPlace s (exec (.cacheWriteOut n) s) := by
  simp [exec_cacheWriteOut, execCacheWriteOut]
@[simp] theorem keepsPlace_bufCarve (p : Pkt) (s : State) : KeepsPlace s (exec (.bufCarve p) s) := by
  simp [exec_bufCarve, execBufCarve]
@[simp] theorem keepsPlace_bufPool (p : Pkt) (s : State) : KeepsPlace s (exec (.bufPool p) s) := by
  simp [exec_bufPool, execBufPool]
@[simp] theorem keepsPlace_bufStatSnap (s : State) : KeepsPlace s (exec .bufStatSnap s) := by
  simp [exec_bufStatSnap, execBufStatSnap]

end Sys2Proof.Machine
end

section
/-! SUPPORT. The commands of Machine/Classify.lean keep the place in time (R34). -/

namespace Sys2Proof.Machine

@[simp] theorem keepsPlace_packetClassify (s : State) : KeepsPlace s (exec .packetClassify s) := by
  rw [exec_packetClassify, execPacketClassify]
  split <;> simp
@[simp] theorem keepsPlace_fragEntryExpiry (set : Fin 512) (way : Fin 4) (s : State) :
    KeepsPlace s (exec (.fragEntryExpiry set way) s) := by
  rw [exec_fragEntryExpiry, execFragEntryExpiry]
  split <;> simp
@[simp] theorem keepsPlace_clsRuleWrite (p : Pkt) (s : State) : KeepsPlace s (exec (.clsRuleWrite p) s) := by
  simp [exec_clsRuleWrite, execClsRuleWrite]

@[simp] theorem keepsPlace_clsRuleDelete (p : Pkt) (s : State) : KeepsPlace s (exec (.clsRuleDelete p) s) := by
  rw [exec_clsRuleDelete, execClsRuleDelete]
  refine keepsPlace_runCmd (fun n u => ?_) p s
  dsimp only
  split
  · simp
  · split <;> simp

@[simp] theorem keepsPlace_clsFlowInsert (p : Pkt) (s : State) : KeepsPlace s (exec (.clsFlowInsert p) s) := by
  rw [exec_clsFlowInsert, execClsFlowInsert]
  refine keepsPlace_runCmd (fun n u => ?_) p s
  dsimp only
  split
  · simp
  · split <;> simp

@[simp] theorem keepsPlace_clsFlowDelete (p : Pkt) (s : State) : KeepsPlace s (exec (.clsFlowDelete p) s) := by
  rw [exec_clsFlowDelete, execClsFlowDelete]
  refine keepsPlace_runCmd (fun n u => ?_) p s
  dsimp only
  split
  · simp
  · split <;> simp

@[simp] theorem keepsPlace_clsCommit (p : Pkt) (s : State) : KeepsPlace s (exec (.clsCommit p) s) := by
  simp [exec_clsCommit, execClsCommit]
@[simp] theorem keepsPlace_clsAbort (p : Pkt) (s : State) : KeepsPlace s (exec (.clsAbort p) s) := by
  simp [exec_clsAbort, execClsAbort]
@[simp] theorem keepsPlace_clsFlowMask (p : Pkt) (s : State) : KeepsPlace s (exec (.clsFlowMask p) s) := by
  simp [exec_clsFlowMask, execClsFlowMask]
@[simp] theorem keepsPlace_clsSrc (p : Pkt) (s : State) : KeepsPlace s (exec (.clsSrc p) s) := by
  simp [exec_clsSrc, execClsSrc]
@[simp] theorem keepsPlace_clsCfg (p : Pkt) (s : State) : KeepsPlace s (exec (.clsCfg p) s) := by
  simp [exec_clsCfg, execClsCfg]
@[simp] theorem keepsPlace_versionSweepStart (s : State) : KeepsPlace s (exec .versionSweepStart s) := by
  rw [exec_versionSweepStart, execVersionSweepStart]
  split <;> simp
@[simp] theorem keepsPlace_versionRetired (s : State) : KeepsPlace s (exec .versionRetired s) := by
  rw [exec_versionRetired, execVersionRetired]
  split <;> simp
@[simp] theorem keepsPlace_clsStatSnap (s : State) : KeepsPlace s (exec .clsStatSnap s) := by
  simp [exec_clsStatSnap, execClsStatSnap]

end Sys2Proof.Machine
end

section
/-! SUPPORT. The commands of Machine/Engine.lean keep the place in time (R34). -/

namespace Sys2Proof.Machine

@[simp] theorem keepsPlace_veCmdStart (e : Fin 96) (s : State) : KeepsPlace s (exec (.veCmdStart e) s) := by
  simp [exec_veCmdStart, execVeCmdStart]
@[simp] theorem keepsPlace_veCmdStop (e : Fin 96) (s : State) : KeepsPlace s (exec (.veCmdStop e) s) := by
  simp [exec_veCmdStop, execVeCmdStop]
@[simp] theorem keepsPlace_veCmdReset (e : Fin 96) (s : State) : KeepsPlace s (exec (.veCmdReset e) s) := by
  simp [exec_veCmdReset, execVeCmdReset]
@[simp] theorem keepsPlace_engCtlStart (p : Pkt) (s : State) : KeepsPlace s (exec (.engCtlStart p) s) := by
  simp [exec_engCtlStart, execEngCtlStart]
@[simp] theorem keepsPlace_engCtlStop (p : Pkt) (s : State) : KeepsPlace s (exec (.engCtlStop p) s) := by
  simp [exec_engCtlStop, execEngCtlStop]
@[simp] theorem keepsPlace_engCtlReset (p : Pkt) (pass : Bool) (s : State) :
    KeepsPlace s (exec (.engCtlReset p pass) s) := by
  simp [exec_engCtlReset, execEngCtlReset]

@[simp] theorem keepsPlace_engCtlRetire (p : Pkt) (s : State) : KeepsPlace s (exec (.engCtlRetire p) s) := by
  rw [exec_engCtlRetire, execEngCtlRetire]
  refine keepsPlace_runCmd (fun n u => ?_) p s
  dsimp only
  split
  · simp
  · split_ifs <;> simp

@[simp] theorem keepsPlace_engCtlRejoin (p : Pkt) (s : State) : KeepsPlace s (exec (.engCtlRejoin p) s) := by
  rw [exec_engCtlRejoin, execEngCtlRejoin]
  refine keepsPlace_runCmd (fun n u => ?_) p s
  dsimp only
  split
  · simp
  · split_ifs <;> simp

@[simp] theorem keepsPlace_slabCtlOff (e : Fin 96) (s : State) : KeepsPlace s (exec (.slabCtlOff e) s) := by
  simp [exec_slabCtlOff, execSlabCtlOff]
@[simp] theorem keepsPlace_slabCtlRetain (e : Fin 96) (s : State) : KeepsPlace s (exec (.slabCtlRetain e) s) := by
  simp [exec_slabCtlRetain, execSlabCtlRetain]
@[simp] theorem keepsPlace_slabCtlOn (e : Fin 96) (s : State) : KeepsPlace s (exec (.slabCtlOn e) s) := by
  simp [exec_slabCtlOn, execSlabCtlOn]
@[simp] theorem keepsPlace_slabMode (p : Pkt) (s : State) : KeepsPlace s (exec (.slabMode p) s) := by
  simp [exec_slabMode, execSlabMode]
@[simp] theorem keepsPlace_slabZeroFillDone (e : Fin 96) (s : State) : KeepsPlace s (exec (.slabZeroFillDone e) s) := by
  simp [exec_slabZeroFillDone, execSlabZeroFillDone]
@[simp] theorem keepsPlace_slabWakeScrubDone (e : Fin 96) (s : State) :
    KeepsPlace s (exec (.slabWakeScrubDone e) s) := by
  simp [exec_slabWakeScrubDone, execSlabWakeScrubDone]
@[simp] theorem keepsPlace_slabReloadDone (e : Fin 96) (s : State) : KeepsPlace s (exec (.slabReloadDone e) s) := by
  simp [exec_slabReloadDone, execSlabReloadDone]
@[simp] theorem keepsPlace_slabIndirectRead (e : Fin 96) (word : BitVec 17) (s : State) :
    KeepsPlace s (exec (.slabIndirectRead e word) s) := by
  simp [exec_slabIndirectRead, execSlabIndirectRead]
@[simp] theorem keepsPlace_slabIndirectWrite (e : Fin 96) (word : BitVec 17) (s : State) :
    KeepsPlace s (exec (.slabIndirectWrite e word) s) := by
  simp [exec_slabIndirectWrite, execSlabIndirectWrite]
@[simp] theorem keepsPlace_slabWrite (p : Pkt) (s : State) : KeepsPlace s (exec (.slabWrite p) s) := by
  simp [exec_slabWrite, execSlabWrite]

@[simp] theorem keepsPlace_slabRead (p : Pkt) (s : State) : KeepsPlace s (exec (.slabRead p) s) := by
  rw [exec_slabRead, execSlabRead]
  refine keepsPlace_runCmd (fun n u => ?_) p s
  dsimp only
  split_ifs
  · simp
  · simp
  split
  next v bs h => simp [State.tick_of_eq h]
  next v i h => simp [State.tick_of_eq h]

@[simp] theorem keepsPlace_slabCopyDone (s : State) : KeepsPlace s (exec .slabCopyDone s) := by
  simp [exec_slabCopyDone, execSlabCopyDone]
@[simp] theorem keepsPlace_veDoorbellRing (e : Fin 96) (s : State) : KeepsPlace s (exec (.veDoorbellRing e) s) := by
  simp [exec_veDoorbellRing, execVeDoorbellRing]

@[simp] theorem keepsPlace_apertureAccess (f : Fin 6) (e : Fin 96) (off : BitVec 16) (wr : Option Word) (s : State) :
    KeepsPlace s (exec (.apertureAccess f e off wr) s) := by
  rw [exec_apertureAccess]
  unfold execApertureAccess
  extract_lets a b x imem loc i j c u v
  have hu : u.tick = s.tick := by
    dsimp only [u]
    split <;> simp
  have hv : v.tick = s.tick := State.setFld_tick ..
  clear_value u v
  split
  · simp
  split
  · split <;> simp
  split
  · simp
  split
  · split <;> simp [hu]
  · split <;> simp [hv]

@[simp] theorem keepsPlace_kernelLoad (p : Pkt) (s : State) : KeepsPlace s (exec (.kernelLoad p) s) := by
  simp [exec_kernelLoad, execKernelLoad]

@[simp] theorem keepsPlace_kernelFree (p : Pkt) (s : State) : KeepsPlace s (exec (.kernelFree p) s) := by
  rw [exec_kernelFree, execKernelFree]
  refine keepsPlace_runCmd (fun n u => ?_) p s
  dsimp only
  split
  · simp
  · split <;> simp

@[simp] theorem keepsPlace_engLoad (p : Pkt) (s : State) : KeepsPlace s (exec (.engLoad p) s) := by
  rw [exec_engLoad, execEngLoad]
  refine keepsPlace_runCmd (fun n u => ?_) p s
  dsimp only
  split
  · simp
  split
  · simp
  · split <;> simp

@[simp] theorem keepsPlace_engSpare (p : Pkt) (s : State) : KeepsPlace s (exec (.engSpare p) s) := by
  simp [exec_engSpare, execEngSpare]
@[simp] theorem keepsPlace_engRetireCfg (p : Pkt) (s : State) : KeepsPlace s (exec (.engRetireCfg p) s) := by
  simp [exec_engRetireCfg, execEngRetireCfg]

end Sys2Proof.Machine
end

section
/-! SUPPORT. The commands of Machine/Ethernet.lean keep the place in time (R34). -/

namespace Sys2Proof.Machine

@[simp] theorem keepsPlace_ethFrameReceive (m : Fin 24) (bytes : List Byte) (fcsOk codeErr : Bool) (raw : Nat)
    (s : State) :
    KeepsPlace s (exec (.ethFrameReceive m bytes fcsOk codeErr raw) s) := by
  rw [exec_ethFrameReceive, execEthFrameReceive]
  dsimp only
  repeat' split
  all_goals simp

@[simp] theorem keepsPlace_ethFrameTransmit (m : Fin 24) (raw : Nat) (met : Option Nat) (s : State) :
    KeepsPlace s (exec (.ethFrameTransmit m raw met) s) := by
  rw [exec_ethFrameTransmit, execEthFrameTransmit]
  split <;> simp
@[simp] theorem keepsPlace_pauseFrame (m : Fin 24) (quanta : BitVec 16) (s : State) :
    KeepsPlace s (exec (.pauseFrame m quanta) s) := by
  simp [exec_pauseFrame, execPauseFrame]
@[simp] theorem keepsPlace_pfcFrame (m : Fin 24) (prio : List (Fin 8 × BitVec 16)) (s : State) :
    KeepsPlace s (exec (.pfcFrame m prio) s) := by
  simp [exec_pfcFrame, execPfcFrame]
@[simp] theorem keepsPlace_pauseTimerExpiry (m : Fin 24) (timer : Fin 9) (s : State) :
    KeepsPlace s (exec (.pauseTimerExpiry m timer) s) := by
  simp [exec_pauseTimerExpiry, execPauseTimerExpiry]
@[simp] theorem keepsPlace_pauseWatchdogTrip (m : Fin 24) (prio : Fin 8) (s : State) :
    KeepsPlace s (exec (.pauseWatchdogTrip m prio) s) := by
  simp [exec_pauseWatchdogTrip, execPauseWatchdogTrip]
@[simp] theorem keepsPlace_pauseHoldoffEnd (m : Fin 24) (s : State) : KeepsPlace s (exec (.pauseHoldoffEnd m) s) := by
  simp [exec_pauseHoldoffEnd, execPauseHoldoffEnd]

@[simp] theorem keepsPlace_glideProbe (m : Fin 24) (trn : BitVec 16) (s : State) :
    KeepsPlace s (exec (.glideProbe m trn) s) := by
  rw [exec_glideProbe]
  unfold execGlideProbe
  dsimp only
  split
  · simp
  next u h => split <;> simp [State.controlIn_tick h]

@[simp] theorem keepsPlace_glideProbeAck (m : Fin 24) (trn : BitVec 16) (s : State) :
    KeepsPlace s (exec (.glideProbeAck m trn) s) := by
  rw [exec_glideProbeAck, execGlideProbeAck]
  dsimp -failIfUnchanged only
  split
  · simp
  next u h => split <;> simp [State.controlIn_tick h]

@[simp] theorem keepsPlace_glideReq (m : Fin 24) (trn : BitVec 16) (target : Byte) (s : State) :
    KeepsPlace s (exec (.glideReq m trn target) s) := by
  rw [exec_glideReq, execGlideReq]
  dsimp only
  split
  · simp
  next u h =>
    split
    · simp [State.controlIn_tick h]
    · split <;> simp [State.controlIn_tick h]

@[simp] theorem keepsPlace_glideAck (m : Fin 24) (trn : BitVec 16) (s : State) :
    KeepsPlace s (exec (.glideAck m trn) s) := by
  rw [exec_glideAck]
  unfold execGlideAck
  dsimp only
  split
  · simp
  next u h => split <;> simp [State.controlIn_tick h]

@[simp] theorem keepsPlace_glideNak (m : Fin 24) (trn : BitVec 16) (s : State) :
    KeepsPlace s (exec (.glideNak m trn) s) := by
  rw [exec_glideNak]
  unfold execGlideNak
  dsimp only
  split
  · simp
  next u h => split <;> simp [State.controlIn_tick h]

@[simp] theorem keepsPlace_glideProbeTimer (m : Fin 24) (s : State) : KeepsPlace s (exec (.glideProbeTimer m) s) := by
  simp [exec_glideProbeTimer, execGlideProbeTimer]
@[simp] theorem keepsPlace_glideReqTimer (m : Fin 24) (s : State) : KeepsPlace s (exec (.glideReqTimer m) s) := by
  simp [exec_glideReqTimer, execGlideReqTimer]
@[simp] theorem keepsPlace_glideWindowEnd (m : Fin 24) (s : State) : KeepsPlace s (exec (.glideWindowEnd m) s) := by
  simp [exec_glideWindowEnd, execGlideWindowEnd]
@[simp] theorem keepsPlace_glideRateChange (m : Fin 24) (s : State) : KeepsPlace s (exec (.glideRateChange m) s) := by
  simp [exec_glideRateChange, execGlideRateChange]
@[simp] theorem keepsPlace_glideLinkUp (m : Fin 24) (us : Nat) (s : State) :
    KeepsPlace s (exec (.glideLinkUp m us) s) := by
  simp [exec_glideLinkUp, execGlideLinkUp]
@[simp] theorem keepsPlace_glideRetrainTimeout (m : Fin 24) (s : State) :
    KeepsPlace s (exec (.glideRetrainTimeout m) s) := by
  simp [exec_glideRetrainTimeout, execGlideRetrainTimeout]
@[simp] theorem keepsPlace_ethLinkUp (m : Fin 24) (s : State) : KeepsPlace s (exec (.ethLinkUp m) s) := by
  simp [exec_ethLinkUp, execEthLinkUp]
@[simp] theorem keepsPlace_ethLinkDown (m : Fin 24) (cause : Fin 3) (s : State) :
    KeepsPlace s (exec (.ethLinkDown m cause) s) := by
  simp [exec_ethLinkDown, execEthLinkDown]
@[simp] theorem keepsPlace_ethLinkDownSleep (m : Fin 24) (s : State) : KeepsPlace s (exec (.ethLinkDownSleep m) s) := by
  simp [exec_ethLinkDownSleep, execEthLinkDownSleep]
@[simp] theorem keepsPlace_ethCfg (p : Pkt) (s : State) : KeepsPlace s (exec (.ethCfg p) s) := by
  simp [exec_ethCfg, execEthCfg]
@[simp] theorem keepsPlace_ethTags (p : Pkt) (s : State) : KeepsPlace s (exec (.ethTags p) s) := by
  simp [exec_ethTags, execEthTags]
@[simp] theorem keepsPlace_ethMchash (p : Pkt) (s : State) : KeepsPlace s (exec (.ethMchash p) s) := by
  simp [exec_ethMchash, execEthMchash]
@[simp] theorem keepsPlace_ethPause (p : Pkt) (s : State) : KeepsPlace s (exec (.ethPause p) s) := by
  simp [exec_ethPause, execEthPause]
@[simp] theorem keepsPlace_ethGlide (p : Pkt) (s : State) : KeepsPlace s (exec (.ethGlide p) s) := by
  simp [exec_ethGlide, execEthGlide]
@[simp] theorem keepsPlace_ethStatSnap (m : Fin 24) (s : State) : KeepsPlace s (exec (.ethStatSnap m) s) := by
  simp [exec_ethStatSnap, execEthStatSnap]
@[simp] theorem keepsPlace_launchEntrySend (m : Fin 24) (raw : Nat) (met : Option Nat) (s : State) :
    KeepsPlace s (exec (.launchEntrySend m raw met) s) := by
  rw [exec_launchEntrySend, execLaunchEntrySend]
  split <;> simp

end Sys2Proof.Machine
end

section
/-! SUPPORT. The commands of Machine/Forward.lean keep the place in time (R34). -/

namespace Sys2Proof.Machine

@[simp] theorem keepsPlace_learnGrant (s : State) : KeepsPlace s (exec .learnGrant s) := by
  rw [exec_learnGrant, execLearnGrant]
  split <;> simp

@[simp] theorem keepsPlace_refreshGrant (s : State) : KeepsPlace s (exec .refreshGrant s) := by
  rw [exec_refreshGrant, execRefreshGrant]
  split
  · split
    · split
      · split <;> simp
      · simp
    · simp
  · simp

@[simp] theorem keepsPlace_moveGrant (s : State) : KeepsPlace s (exec .moveGrant s) := by
  rw [exec_moveGrant, execMoveGrant]
  split
  · split
    · split <;> simp
    · simp
  · simp

@[simp] theorem keepsPlace_agingDeleteGrant (s : State) : KeepsPlace s (exec .agingDeleteGrant s) := by
  rw [exec_agingDeleteGrant, execAgingDeleteGrant]
  split
  · split
    · split
      · split <;> simp
      · simp
    split
    · split
      · split <;> simp
      · simp
    · simp
  · simp

@[simp] theorem keepsPlace_agingScanStep (s : State) : KeepsPlace s (exec .agingScanStep s) := by
  simp [exec_agingScanStep, execAgingScanStep]

@[simp] theorem keepsPlace_fwdSearch (p : Pkt) (s : State) : KeepsPlace s (exec (.fwdSearch p) s) := by
  rw [exec_fwdSearch, execFwdSearch]
  refine keepsPlace_runCmd (fun n u => ?_) p s
  dsimp only
  split
  · simp
  split
  next v i e h => simp [State.tick_of_eq h]
  next v h => simp [State.tick_of_eq h]

@[simp] theorem keepsPlace_fwdNext (p : Pkt) (s : State) : KeepsPlace s (exec (.fwdNext p) s) := by
  rw [exec_fwdNext, execFwdNext]
  refine keepsPlace_runCmd (fun n u => ?_) p s
  dsimp only
  split
  · simp
  split
  · split <;> simp
  · split <;> simp

@[simp] theorem keepsPlace_fwdInsert (p : Pkt) (s : State) : KeepsPlace s (exec (.fwdInsert p) s) := by
  rw [exec_fwdInsert, execFwdInsert]
  split
  · refine keepsPlace_runCmd (fun n u => ?_) p s
    dsimp only
    split
    · simp
    split
    · simp
    · split <;> simp
  · simp

@[simp] theorem keepsPlace_fwdDelete (p : Pkt) (s : State) : KeepsPlace s (exec (.fwdDelete p) s) := by
  rw [exec_fwdDelete, execFwdDelete]
  split
  · refine keepsPlace_runCmd (fun n u => ?_) p s
    dsimp only
    split
    · simp
    · split <;> simp
  · simp

@[simp] theorem keepsPlace_flushPort (p : Pkt) (s : State) : KeepsPlace s (exec (.flushPort p) s) := by
  simp [exec_flushPort, execFlushPort]
@[simp] theorem keepsPlace_flushComplete (s : State) : KeepsPlace s (exec .flushComplete s) := by
  rw [exec_flushComplete, execFlushComplete]
  split <;> simp
@[simp] theorem keepsPlace_floodSet (p : Pkt) (s : State) : KeepsPlace s (exec (.floodSet p) s) := by
  simp [exec_floodSet, execFloodSet]
@[simp] theorem keepsPlace_fwdCfg (p : Pkt) (s : State) : KeepsPlace s (exec (.fwdCfg p) s) := by
  simp [exec_fwdCfg, execFwdCfg]
@[simp] theorem keepsPlace_walkTimeout (w : Fin 4) (s : State) : KeepsPlace s (exec (.walkTimeout w) s) := by
  rw [exec_walkTimeout, execWalkTimeout]
  split <;> simp
@[simp] theorem keepsPlace_fwdStatSnap (s : State) : KeepsPlace s (exec .fwdStatSnap s) := by
  simp [exec_fwdStatSnap, execFwdStatSnap]

@[simp] theorem keepsPlace_hqFrameCommit (q : Fin 64) (raw : Nat) (s : State) :
    KeepsPlace s (exec (.hqFrameCommit q raw) s) := by
  rw [exec_hqFrameCommit, execHqFrameCommit]
  dsimp only
  repeat' split
  all_goals simp

end Sys2Proof.Machine
end

section
/-! SUPPORT. The commands of Machine/Isa.lean keep the place in time (R34). -/

namespace Sys2Proof.Machine

@[simp] theorem keepsPlace_nop (e : Fin 96) (s : State) : KeepsPlace s (exec (.nop e) s) := by simp [exec_nop, execNop]
@[simp] theorem keepsPlace_opAdd (e : Fin 96) (s : State) : KeepsPlace s (exec (.opAdd e) s) := by
  simp [exec_opAdd, execOpAdd]
@[simp] theorem keepsPlace_opSub (e : Fin 96) (s : State) : KeepsPlace s (exec (.opSub e) s) := by
  simp [exec_opSub, execOpSub]
@[simp] theorem keepsPlace_opAnd (e : Fin 96) (s : State) : KeepsPlace s (exec (.opAnd e) s) := by
  simp [exec_opAnd, execOpAnd]
@[simp] theorem keepsPlace_opOr (e : Fin 96) (s : State) : KeepsPlace s (exec (.opOr e) s) := by
  simp [exec_opOr, execOpOr]
@[simp] theorem keepsPlace_opXor (e : Fin 96) (s : State) : KeepsPlace s (exec (.opXor e) s) := by
  simp [exec_opXor, execOpXor]
@[simp] theorem keepsPlace_shl (e : Fin 96) (s : State) : KeepsPlace s (exec (.shl e) s) := by simp [exec_shl, execShl]
@[simp] theorem keepsPlace_shr (e : Fin 96) (s : State) : KeepsPlace s (exec (.shr e) s) := by simp [exec_shr, execShr]
@[simp] theorem keepsPlace_sra (e : Fin 96) (s : State) : KeepsPlace s (exec (.sra e) s) := by simp [exec_sra, execSra]
@[simp] theorem keepsPlace_opMin (e : Fin 96) (s : State) : KeepsPlace s (exec (.opMin e) s) := by
  simp [exec_opMin, execOpMin]
@[simp] theorem keepsPlace_opMax (e : Fin 96) (s : State) : KeepsPlace s (exec (.opMax e) s) := by
  simp [exec_opMax, execOpMax]
@[simp] theorem keepsPlace_mul (e : Fin 96) (s : State) : KeepsPlace s (exec (.mul e) s) := by simp [exec_mul, execMul]
@[simp] theorem keepsPlace_clz (e : Fin 96) (s : State) : KeepsPlace s (exec (.clz e) s) := by simp [exec_clz, execClz]
@[simp] theorem keepsPlace_cmpeq (e : Fin 96) (s : State) : KeepsPlace s (exec (.cmpeq e) s) := by
  simp [exec_cmpeq, execCmpeq]
@[simp] theorem keepsPlace_cmplt (e : Fin 96) (s : State) : KeepsPlace s (exec (.cmplt e) s) := by
  simp [exec_cmplt, execCmplt]
@[simp] theorem keepsPlace_cmpltu (e : Fin 96) (s : State) : KeepsPlace s (exec (.cmpltu e) s) := by
  simp [exec_cmpltu, execCmpltu]
@[simp] theorem keepsPlace_addi (e : Fin 96) (s : State) : KeepsPlace s (exec (.addi e) s) := by
  simp [exec_addi, execAddi]
@[simp] theorem keepsPlace_andi (e : Fin 96) (s : State) : KeepsPlace s (exec (.andi e) s) := by
  simp [exec_andi, execAndi]
@[simp] theorem keepsPlace_ori (e : Fin 96) (s : State) : KeepsPlace s (exec (.ori e) s) := by simp [exec_ori, execOri]
@[simp] theorem keepsPlace_xori (e : Fin 96) (s : State) : KeepsPlace s (exec (.xori e) s) := by
  simp [exec_xori, execXori]
@[simp] theorem keepsPlace_shli (e : Fin 96) (s : State) : KeepsPlace s (exec (.shli e) s) := by
  simp [exec_shli, execShli]
@[simp] theorem keepsPlace_shri (e : Fin 96) (s : State) : KeepsPlace s (exec (.shri e) s) := by
  simp [exec_shri, execShri]
@[simp] theorem keepsPlace_srai (e : Fin 96) (s : State) : KeepsPlace s (exec (.srai e) s) := by
  simp [exec_srai, execSrai]
@[simp] theorem keepsPlace_opLi (e : Fin 96) (s : State) : KeepsPlace s (exec (.opLi e) s) := by
  simp [exec_opLi, execOpLi]
@[simp] theorem keepsPlace_lui (e : Fin 96) (s : State) : KeepsPlace s (exec (.lui e) s) := by simp [exec_lui, execLui]
@[simp] theorem keepsPlace_dstep (e : Fin 96) (s : State) : KeepsPlace s (exec (.dstep e) s) := by
  simp [exec_dstep, execDstep]
@[simp] theorem keepsPlace_ldp (e : Fin 96) (s : State) : KeepsPlace s (exec (.ldp e) s) := by simp [exec_ldp, execLdp]
@[simp] theorem keepsPlace_stp (e : Fin 96) (s : State) : KeepsPlace s (exec (.stp e) s) := by simp [exec_stp, execStp]
@[simp] theorem keepsPlace_agw (e : Fin 96) (s : State) : KeepsPlace s (exec (.agw e) s) := by simp [exec_agw, execAgw]
@[simp] theorem keepsPlace_agr (e : Fin 96) (s : State) : KeepsPlace s (exec (.agr e) s) := by simp [exec_agr, execAgr]
@[simp] theorem keepsPlace_mfs (e : Fin 96) (s : State) : KeepsPlace s (exec (.mfs e) s) := by simp [exec_mfs, execMfs]
@[simp] theorem keepsPlace_mts (e : Fin 96) (s : State) : KeepsPlace s (exec (.mts e) s) := by simp [exec_mts, execMts]
@[simp] theorem keepsPlace_beq (e : Fin 96) (s : State) : KeepsPlace s (exec (.beq e) s) := by simp [exec_beq, execBeq]
@[simp] theorem keepsPlace_bne (e : Fin 96) (s : State) : KeepsPlace s (exec (.bne e) s) := by simp [exec_bne, execBne]
@[simp] theorem keepsPlace_blt (e : Fin 96) (s : State) : KeepsPlace s (exec (.blt e) s) := by simp [exec_blt, execBlt]
@[simp] theorem keepsPlace_bge (e : Fin 96) (s : State) : KeepsPlace s (exec (.bge e) s) := by simp [exec_bge, execBge]
@[simp] theorem keepsPlace_br (e : Fin 96) (s : State) : KeepsPlace s (exec (.br e) s) := by simp [exec_br, execBr]
@[simp] theorem keepsPlace_bri (e : Fin 96) (s : State) : KeepsPlace s (exec (.bri e) s) := by simp [exec_bri, execBri]
@[simp] theorem keepsPlace_call (e : Fin 96) (s : State) : KeepsPlace s (exec (.call e) s) := by
  simp [exec_call, execCall]
@[simp] theorem keepsPlace_opRep (e : Fin 96) (s : State) : KeepsPlace s (exec (.opRep e) s) := by
  simp [exec_opRep, execOpRep]
@[simp] theorem keepsPlace_opLoop (e : Fin 96) (s : State) : KeepsPlace s (exec (.opLoop e) s) := by
  simp [exec_opLoop, execOpLoop]
@[simp] theorem keepsPlace_waitt (e : Fin 96) (s : State) : KeepsPlace s (exec (.waitt e) s) := by
  simp [exec_waitt, execWaitt]
@[simp] theorem keepsPlace_sdone (e : Fin 96) (s : State) : KeepsPlace s (exec (.sdone e) s) := by
  simp [exec_sdone, execSdone]
@[simp] theorem keepsPlace_reti (e : Fin 96) (s : State) : KeepsPlace s (exec (.reti e) s) := by
  simp [exec_reti, execReti]
@[simp] theorem keepsPlace_vnop (e : Fin 96) (s : State) : KeepsPlace s (exec (.vnop e) s) := by
  simp [exec_vnop, execVnop]
@[simp] theorem keepsPlace_vmac (e : Fin 96) (s : State) : KeepsPlace s (exec (.vmac e) s) := by
  simp [exec_vmac, execVmac]
@[simp] theorem keepsPlace_vmacs (e : Fin 96) (s : State) : KeepsPlace s (exec (.vmacs e) s) := by
  simp [exec_vmacs, execVmacs]
@[simp] theorem keepsPlace_vcorr (e : Fin 96) (s : State) : KeepsPlace s (exec (.vcorr e) s) := by
  simp [exec_vcorr, execVcorr]
@[simp] theorem keepsPlace_vlde (e : Fin 96) (s : State) : KeepsPlace s (exec (.vlde e) s) := by
  simp [exec_vlde, execVlde]
@[simp] theorem keepsPlace_vcupd (e : Fin 96) (s : State) : KeepsPlace s (exec (.vcupd e) s) := by
  simp [exec_vcupd, execVcupd]
@[simp] theorem keepsPlace_vsnap (e : Fin 96) (s : State) : KeepsPlace s (exec (.vsnap e) s) := by
  simp [exec_vsnap, execVsnap]
@[simp] theorem keepsPlace_vclr (e : Fin 96) (s : State) : KeepsPlace s (exec (.vclr e) s) := by
  simp [exec_vclr, execVclr]
@[simp] theorem keepsPlace_acc (e : Fin 96) (g : Fin 3) (s : State) : KeepsPlace s (exec (.acc e g) s) := by
  simp [exec_acc, execAcc]
@[simp] theorem keepsPlace_accAdv (e : Fin 96) (g : Fin 3) (s : State) : KeepsPlace s (exec (.accAdv e g) s) := by
  simp [exec_accAdv, execAccAdv]
@[simp] theorem keepsPlace_accT (e : Fin 96) (g : Fin 3) (s : State) : KeepsPlace s (exec (.accT e g) s) := by
  simp [exec_accT, execAccT]
@[simp] theorem keepsPlace_acc0 (e : Fin 96) (g : Fin 3) (s : State) : KeepsPlace s (exec (.acc0 e g) s) := by
  simp [exec_acc0, execAcc0]
@[simp] theorem keepsPlace_adv (e : Fin 96) (g : Fin 3) (s : State) : KeepsPlace s (exec (.adv e g) s) := by
  simp [exec_adv, execAdv]
@[simp] theorem keepsPlace_tstep (e : Fin 96) (g : Fin 3) (s : State) : KeepsPlace s (exec (.tstep e g) s) := by
  simp [exec_tstep, execTstep]
@[simp] theorem keepsPlace_rst (e : Fin 96) (g : Fin 3) (s : State) : KeepsPlace s (exec (.rst e g) s) := by
  simp [exec_rst, execRst]
@[simp] theorem keepsPlace_sdoneComplete (e : Fin 96) (s : State) : KeepsPlace s (exec (.sdoneComplete e) s) := by
  simp [exec_sdoneComplete, execSdoneComplete]
@[simp] theorem keepsPlace_interruptEntry (e : Fin 96) (idle : Nat) (s : State) :
    KeepsPlace s (exec (.interruptEntry e idle) s) := by
  simp [exec_interruptEntry, execInterruptEntry]

end Sys2Proof.Machine
end

section
/-! SUPPORT. The commands of Machine/RegRead.lean keep the place in time (R34). -/

namespace Sys2Proof.Machine

@[simp] theorem keepsPlace_counterLoRead (f : Fin 6) (off : Nat) (s : State) :
    KeepsPlace s (exec (.counterLoRead f off) s) := by
  obtain ⟨g, hg, h⟩ : ∃ g, execCounterLoRead = g ∧ ∀ k o u, KeepsPlace u (g k o u) := by
    refine ⟨_, by delta execCounterLoRead; rfl, fun k o u => ?_⟩
    generalize ctrAt o = c
    cases c with
    | none => simp
    | some c =>
      dsimp only
      split
      · split <;> simp
      · simp
  rw [exec_counterLoRead, hg]
  exact h f off s

end Sys2Proof.Machine
end

section
/-! SUPPORT. The commands of Machine/Scrub.lean keep the place in time (R34). -/

namespace Sys2Proof.Machine

@[simp] theorem keepsPlace_scrubRead (m : Fin 8) (flip : BitVec 288) (otherGood : Bool) (kind : Byte) (s : State) :
    KeepsPlace s (exec (.scrubRead m flip otherGood kind) s) := by
  rw [exec_scrubRead, execScrubRead]
  dsimp only
  repeat' split
  all_goals simp

@[simp] theorem keepsPlace_scrubPassLate (m : Fin 8) (s : State) : KeepsPlace s (exec (.scrubPassLate m) s) := by
  simp [exec_scrubPassLate, execScrubPassLate]
@[simp] theorem keepsPlace_parityRewrite (word : BitVec 18) (s : State) :
    KeepsPlace s (exec (.parityRewrite word) s) := by
  simp [exec_parityRewrite, execParityRewrite]

end Sys2Proof.Machine
end

section
/-! SUPPORT. The commands of Machine/Svl.lean keep the place in time (R34). -/

namespace Sys2Proof.Machine

@[simp] theorem keepsPlace_svlPort (p : Pkt) (s : State) : KeepsPlace s (exec (.svlPort p) s) := by
  simp [exec_svlPort, execSvlPort]
@[simp] theorem keepsPlace_portCutoff (p : Fin 16) (s : State) : KeepsPlace s (exec (.portCutoff p) s) := by
  rw [exec_portCutoff, execPortCutoff]
  split <;> simp
@[simp] theorem keepsPlace_tilePairReceive (p : Fin 16) (l : Fin 4) (blocks : List (BitVec 66)) (s : State) :
    KeepsPlace s (exec (.tilePairReceive p l blocks) s) := by
  simp [exec_tilePairReceive, execTilePairReceive]
@[simp] theorem keepsPlace_streamStart (p : Fin 16) (l : Fin 4) (block : BitVec 66) (s : State) :
    KeepsPlace s (exec (.streamStart p l block) s) := by
  simp [exec_streamStart, execStreamStart]
@[simp] theorem keepsPlace_fbStart (p : Fin 16) (l : Fin 4) (block : BitVec 66) (s : State) :
    KeepsPlace s (exec (.fbStart p l block) s) := by
  simp [exec_fbStart, execFbStart]
@[simp] theorem keepsPlace_lineStatus (p : Fin 16) (l : Fin 4) (block : BitVec 66) (s : State) :
    KeepsPlace s (exec (.lineStatus p l block) s) := by
  simp [exec_lineStatus, execLineStatus]
@[simp] theorem keepsPlace_laneMarker (p : Fin 16) (l : Fin 4) (block : BitVec 66) (pos : Nat) (s : State) :
    KeepsPlace s (exec (.laneMarker p l block pos) s) := by
  simp [exec_laneMarker, execLaneMarker]
@[simp] theorem keepsPlace_idle (p : Fin 16) (l : Fin 4) (block : BitVec 66) (s : State) :
    KeepsPlace s (exec (.idle p l block) s) := by
  simp [exec_idle, execIdle]
@[simp] theorem keepsPlace_deskewTimeout (p : Fin 16) (s : State) : KeepsPlace s (exec (.deskewTimeout p) s) := by
  simp [exec_deskewTimeout, execDeskewTimeout]
@[simp] theorem keepsPlace_bypassFlagsSend (p : Fin 16) (s : State) : KeepsPlace s (exec (.bypassFlagsSend p) s) := by
  rw [exec_bypassFlagsSend, execBypassFlagsSend]
  split <;> simp
@[simp] theorem keepsPlace_laneMarkerSend (p : Fin 16) (s : State) : KeepsPlace s (exec (.laneMarkerSend p) s) := by
  simp [exec_laneMarkerSend, execLaneMarkerSend]
@[simp] theorem keepsPlace_laneSignalDetect (l : Fin 16) (s : State) : KeepsPlace s (exec (.laneSignalDetect l) s) := by
  simp [exec_laneSignalDetect, execLaneSignalDetect]
@[simp] theorem keepsPlace_laneSignalLost (l : Fin 16) (s : State) : KeepsPlace s (exec (.laneSignalLost l) s) := by
  simp [exec_laneSignalLost, execLaneSignalLost]
@[simp] theorem keepsPlace_laneCdrLock (l : Fin 16) (s : State) : KeepsPlace s (exec (.laneCdrLock l) s) := by
  simp [exec_laneCdrLock, execLaneCdrLock]
@[simp] theorem keepsPlace_laneCdrTimeout (l : Fin 16) (s : State) : KeepsPlace s (exec (.laneCdrTimeout l) s) := by
  simp [exec_laneCdrTimeout, execLaneCdrTimeout]
@[simp] theorem keepsPlace_laneBlockLock (l : Fin 16) (blocks : List (BitVec 66)) (s : State) :
    KeepsPlace s (exec (.laneBlockLock l blocks) s) := by
  simp [exec_laneBlockLock, execLaneBlockLock]
@[simp] theorem keepsPlace_laneHeaderSlip (l : Fin 16) (blocks : List (BitVec 66)) (s : State) :
    KeepsPlace s (exec (.laneHeaderSlip l blocks) s) := by
  simp [exec_laneHeaderSlip, execLaneHeaderSlip]
@[simp] theorem keepsPlace_lanePolarityDecided (l : Fin 16) (blocks : List (BitVec 66)) (s : State) :
    KeepsPlace s (exec (.lanePolarityDecided l blocks) s) := by
  simp [exec_lanePolarityDecided, execLanePolarityDecided]
@[simp] theorem keepsPlace_laneLockTimeout (l : Fin 16) (blocks : List (BitVec 66)) (s : State) :
    KeepsPlace s (exec (.laneLockTimeout l blocks) s) := by
  simp [exec_laneLockTimeout, execLaneLockTimeout]
@[simp] theorem keepsPlace_laneHeaderWindowFail (l : Fin 16) (blocks : List (BitVec 66)) (s : State) :
    KeepsPlace s (exec (.laneHeaderWindowFail l blocks) s) := by
  simp [exec_laneHeaderWindowFail, execLaneHeaderWindowFail]
@[simp] theorem keepsPlace_svlPortEnable (p : Fin 16) (v : Word) (s : State) :
    KeepsPlace s (exec (.svlPortEnable p v) s) := by
  simp [exec_svlPortEnable, execSvlPortEnable]
@[simp] theorem keepsPlace_svlPortDisable (p : Fin 16) (v : Word) (s : State) :
    KeepsPlace s (exec (.svlPortDisable p v) s) := by
  simp [exec_svlPortDisable, execSvlPortDisable]
@[simp] theorem keepsPlace_svlStatSnap (p : Fin 16) (s : State) : KeepsPlace s (exec (.svlStatSnap p) s) := by
  simp [exec_svlStatSnap, execSvlStatSnap]

end Sys2Proof.Machine
end

section
/-! SUPPORT. The commands of Machine/Tick.lean keep the place in time (R34). -/

namespace Sys2Proof.Machine

@[simp] theorem keepsPlace_holdoverLong (s : State) : KeepsPlace s (exec .holdoverLong s) := by
  simp [exec_holdoverLong, execHoldoverLong]

@[simp] theorem keepsPlace_tickMaster (p : Pkt) (s : State) : KeepsPlace s (exec (.tickMaster p) s) := by
  rw [exec_tickMaster, execTickMaster]
  refine keepsPlace_runCmd (fun n u => ?_) p s
  dsimp only
  split_ifs <;> simp

@[simp] theorem keepsPlace_tickRealign (p : Pkt) (s : State) : KeepsPlace s (exec (.tickRealign p) s) := by
  rw [exec_tickRealign, execTickRealign]
  refine keepsPlace_runCmd (fun n u => ?_) p s
  dsimp only
  split_ifs <;> simp

@[simp] theorem keepsPlace_tickOffsetWrite (v : Word) (s : State) : KeepsPlace s (exec (.tickOffsetWrite v) s) := by
  simp [exec_tickOffsetWrite, execTickOffsetWrite]
@[simp] theorem keepsPlace_tickCfg (p : Pkt) (s : State) : KeepsPlace s (exec (.tickCfg p) s) := by
  simp [exec_tickCfg, execTickCfg]
@[simp] theorem keepsPlace_tickCountLoRead (f : Fin 6) (s : State) : KeepsPlace s (exec (.tickCountLoRead f) s) := by
  simp [exec_tickCountLoRead, execTickCountLoRead]

end Sys2Proof.Machine
end

section
/-! SUPPORT. R34 over every command: the tick edge advances the place in time, a reset of the TICK domain sets the
tick generator back, every other command keeps the place. -/

namespace Sys2Proof.Machine

/-- Where a command that can reset the TICK domain ends, the place in time is as in s, or the tick generator as after
reset. -/
def KeepsPlaceOrResets (s : State) (o : Host.Outcome State Fault Refusal) : Prop :=
  ∀ t, o = .next t → t.tick.place = s.tick.place ∨ t.tick = {}

@[simp] theorem keepsPlaceOrResets_next {s t : State} :
    KeepsPlaceOrResets s (.next t) ↔ t.tick.place = s.tick.place ∨ t.tick = {} :=
  ⟨fun h => h t rfl, fun h _ ht => Host.Outcome.next.inj ht ▸ h⟩

@[simp] theorem keepsPlaceOrResets_ite {s : State} {c : Prop} [Decidable c] {o r : Host.Outcome State Fault Refusal} :
    KeepsPlaceOrResets s (if c then o else r) ↔ if c then KeepsPlaceOrResets s o else KeepsPlaceOrResets s r := by
  split <;> rfl

theorem keepsPlaceOrResets_powerOnReset (ns : Nat) (s : State) : KeepsPlaceOrResets s (exec (.powerOnReset ns) s) := by
  simp [exec_powerOnReset, execPowerOnReset]

theorem keepsPlaceOrResets_bootRestart (f : Fin 6) (v : Word) (s : State) :
    KeepsPlaceOrResets s (exec (.bootRestart f v) s) := by
  simp [exec_bootRestart, execBootRestart]

theorem keepsPlaceOrResets_regulatorAck (pg : Bool) (s : State) :
    KeepsPlaceOrResets s (exec (.regulatorAck pg) s) := by
  rw [exec_regulatorAck, execRegulatorAck]
  split
  · exact keepsPlaceOrResets_next.mpr ((State.entryAck_tick s pg).imp_left (congrArg TickGen.place))
  · simp

theorem keepsPlaceOrResets_wakeStepReady (s : State) : KeepsPlaceOrResets s (exec .wakeStepReady s) := by
  simp [exec_wakeStepReady, execWakeStepReady]

theorem exec_keepsPlaceOrResets {c : Instr} (h : resetsTick c = true) (s : State) :
    KeepsPlaceOrResets s (exec c s) := by
  cases c
  case powerOnReset ns => exact keepsPlaceOrResets_powerOnReset ns s
  case bootRestart f v => exact keepsPlaceOrResets_bootRestart f v s
  case regulatorAck pg => exact keepsPlaceOrResets_regulatorAck pg s
  case wakeStepReady => exact keepsPlaceOrResets_wakeStepReady s
  all_goals cases h

/-- Every command but the tick edge and the four that can reset the TICK domain keeps the place in time; each by
the lemma of its own above. -/
theorem exec_keepsPlace {c : Instr} (h : resetsTick c = false) (hc : c ≠ .tickEdge) (s : State) :
    KeepsPlace s (exec c s) := by
  cases c
  case tickEdge => exact absurd rfl hc
  case powerOnReset | bootRestart | regulatorAck | wakeStepReady => cases h
  all_goals simp

theorem TickGen.count_of_place {t u : TickGen} (h : t.place = u.place) : t.count = u.count := congrArg Prod.fst h

theorem TickGen.legal_of_place {t u : TickGen} (h : t.place = u.place) (hu : u.legal) : t.legal := by
  obtain ⟨-, htif, htic, hcycle⟩ : t.count = u.count ∧ t.tif = u.tif ∧ t.tic = u.tic ∧ t.cycle = u.cycle := by
    simpa [TickGen.place] using h
  unfold TickGen.legal
  rwa [htif, htic, hcycle]

theorem TickGen.advance_count (t : TickGen) : t.advance.count = t.count + 1 := by
  unfold TickGen.advance
  dsimp only
  split <;> rfl

theorem TickGen.advance_legal {t : TickGen} (h : t.legal) : t.advance.legal := by
  have hplace := TickGen.countLocked_place t 3240
  generalize ht : t.countLocked 3240 = u at hplace
  obtain ⟨htif, htic, hcycle⟩ := TickGen.legal_of_place hplace h
  unfold TickGen.advance
  rw [ht]
  dsimp only
  split
  next i _ _ =>
    refine ⟨?_, Nat.mod_lt _ (by decide), Nat.mod_lt _ (by decide)⟩
    dsimp only
    omega
  next =>
    refine ⟨?_, Nat.mod_lt _ (by decide), ?_⟩
    · dsimp only
      omega
    · dsimp only
      split <;> omega

/-- Where the count and the indices stand after a tick edge: what follows TickGen.advance in the edge leaves them. -/
theorem tickEdge_advances (s : State) : ∃ t, exec .tickEdge s = .next t ∧ t.tick.place = s.tick.advance.place :=
  ⟨_, (exec_tickEdge s).trans rfl, by simp⟩

/-- What a step can do to the place in time: keep it, advance it at a tick edge, set the tick generator back. -/
theorem step_tick {s t : State} (h : step s = .next t) : t.tick.place = s.tick.place ∨
    (∃ cs, s.pending = .tickEdge :: cs ∧ t.tick.place = s.tick.advance.place) ∨
    (∃ c cs, s.pending = c :: cs ∧ resetsTick c = true ∧ t.tick = {}) := by
  unfold step at h
  split at h
  next =>
    cases h
    exact .inl rfl
  next c cs hp =>
    by_cases hc : c = .tickEdge
    · subst hc
      obtain ⟨u, hu, hplace⟩ := tickEdge_advances { s with pending := cs }
      cases hu.symm.trans h
      exact .inr (.inl ⟨cs, hp, hplace⟩)
    cases hr : resetsTick c with
    | false => exact .inl (exec_keepsPlace hr hc { s with pending := cs } t h)
    | true =>
      exact (exec_keepsPlaceOrResets hr { s with pending := cs } t h).imp_right fun ht => .inr ⟨c, cs, hp, hr, ht⟩

/-- Settles O5: by step_tick, a tick edge takes the place in time to that of TickGen.advance, a reset of the TICK domain
sets it back to zero, and every other command keeps it. -/
theorem tickCountMovesOnlyAtTickEdges : Obligations.TickCountMovesOnlyAtTickEdges := by
  refine ⟨⟨rfl, rfl, rfl, rfl⟩, fun s t h => ?_, fun s => ?_, fun s t hs h => ?_⟩
  · rcases step_tick h with hkeep | ⟨cs, hp, hplace⟩ | hreset
    · exact .inl (TickGen.count_of_place hkeep)
    · exact .inr (.inl ⟨cs, hp, (TickGen.count_of_place hplace).trans s.tick.advance_count⟩)
    · exact .inr (.inr hreset)
  · obtain ⟨t, ht, hplace⟩ := tickEdge_advances s
    exact ⟨t, ht, (TickGen.count_of_place hplace).trans s.tick.advance_count⟩
  · rcases step_tick h with hkeep | ⟨cs, hp, hplace⟩ | ⟨c, cs, hp, hr, ht⟩
    · exact TickGen.legal_of_place hkeep hs
    · exact TickGen.legal_of_place hplace (TickGen.advance_legal hs)
    · rw [ht]
      exact reset_tick_legal

end Sys2Proof.Machine
end

section
/-! SUPPORT. What an operation touches: the parts of the state, the registers and the live counts that it can change. -/

namespace Sys2Proof.Machine

/-- What an operation may change: parts of the state, registers (each a family and its index) and counters. -/
structure Reach where
  parts : List Part
  regs : List ((Nat → Nat) × Nat) := []
  ctrs : List Ctr := []

/-- Everything that F may change, G may change. -/
structure Reach.Within (F G : Reach) : Prop where
  parts : ∀ x ∈ F.parts, x ∈ G.parts
  regs : ∀ r ∈ F.regs, r ∈ G.regs
  ctrs : ∀ c ∈ F.ctrs, c ∈ G.ctrs

/-- From s to t nothing outside F changes. -/
structure Touches (F : Reach) (s t : State) : Prop where
  parts : OnlyChanges F.parts s t
  regs : ∀ o, (∀ r ∈ F.regs, r.1 r.2 ≠ o) → t.rd o = s.rd o
  ctrs : ∀ c : Ctr, (∀ d ∈ F.ctrs, d.off ≠ c.off) → t.count c = s.count c

variable {F G : Reach} {s t u : State}

theorem Part.same_refl (x : Part) (s : State) : x.same s s := by cases x <;> rfl

theorem Part.same_trans {x : Part} (h : x.same s t) (h' : x.same t u) : x.same s u := by
  cases x <;> exact Eq.trans h' h

theorem OnlyChanges.trans {ps : List Part} (h : OnlyChanges ps s t) (h' : OnlyChanges ps t u) : OnlyChanges ps s u :=
  fun x hx => Part.same_trans (h x hx) (h' x hx)

theorem Touches.refl (F : Reach) (s : State) : Touches F s s :=
  ⟨fun x _ => x.same_refl s, fun _ _ => rfl, fun _ _ => rfl⟩

theorem Touches.trans (h : Touches F s t) (h' : Touches F t u) : Touches F s u :=
  ⟨h.parts.trans h'.parts, fun o ho => (h'.regs o ho).trans (h.regs o ho),
    fun c hc => (h'.ctrs c hc).trans (h.ctrs c hc)⟩

theorem Touches.mono (h : Touches F s t) (hFG : F.Within G) : Touches G s t :=
  ⟨fun x hx => h.parts x (mt (hFG.parts x) hx), fun o ho => h.regs o (fun r hr => ho r (hFG.regs r hr)),
    fun c hc => h.ctrs c (fun d hd => hc d (hFG.ctrs d hd))⟩

/-- One more operation of a smaller reach. -/
theorem Touches.next (h : Touches G s t) (h' : Touches F t u) (hFG : F.Within G) : Touches G s u := h.trans (h'.mono hFG)

theorem Touches.ite {c : Prop} [Decidable c] (h : c → Touches F s t) (h' : ¬ c → Touches F s u) :
    Touches F s (if c then t else u) := by
  split
  · exact h ‹_›
  · exact h' ‹_›

theorem Touches.foldl {α : Type} {g : State → α → State} (h : ∀ u a, Touches F u (g u a)) (l : List α) (s : State) :
    Touches F s (l.foldl g s) := by
  induction l generalizing s with
  | nil => exact .refl F s
  | cons a l ih => exact (h s a).trans (ih _)

/-- A change of parts that hold neither registers nor counts. -/
theorem Touches.of_parts {ps : List Part} (h : OnlyChanges ps s t) (hr : .regs ∉ ps) (hc : .cnt ∉ ps) :
    Touches ⟨ps, [], []⟩ s t := by
  have hregs : t.regs = s.regs := h .regs hr
  have hcnt : t.cnt = s.cnt := h .cnt hc
  exact ⟨h, fun o _ => by simp only [State.rd, hregs], fun c _ => by simp only [State.count, hcnt]⟩

theorem Touches.onlyChanges {ps : List Part} (h : Touches F s t) (hps : ∀ x ∈ F.parts, x ∈ ps) : OnlyChanges ps s t :=
  fun x hx => h.parts x (mt (hps x) hx)

theorem Touches.regsKeptIn {fams : List (Nat → Nat)} (h : Touches F s t) (hf : ∀ r ∈ F.regs, r.1 ∈ fams) :
    RegsKeptIn fams s t :=
  fun o ho => h.regs o (fun r hr => ho r.1 (hf r hr) r.2)

theorem Touches.pon (h : Touches F s t) (hp : .pon ∉ F.parts) : t.pon = s.pon := h.parts .pon hp
theorem Touches.tick (h : Touches F s t) (hp : .tick ∉ F.parts) : t.tick = s.tick := h.parts .tick hp
theorem Touches.bonding (h : Touches F s t) (hp : .bonding ∉ F.parts) : t.bonding = s.bonding := h.parts .bonding hp
theorem State.ch_of_pon (h : t.pon = s.pon) (m : Nat) : t.ch m = s.ch m := by simp only [State.ch, h]
theorem Touches.ch (h : Touches F s t) (hp : .pon ∉ F.parts) (m : Nat) : t.ch m = s.ch m := State.ch_of_pon (h.pon hp) m
theorem Touches.fld (h : Touches F s t) (f : Fld) (hf : ∀ r ∈ F.regs, r.1 r.2 ≠ f.off) : t.fld f = s.fld f := by
  simp only [State.fld, h.regs f.off hf]
theorem Touches.flag (h : Touches F s t) (f : Fld) (hf : ∀ r ∈ F.regs, r.1 r.2 ≠ f.off) : t.flag f = s.flag f := by
  simp only [State.flag, h.fld f hf]

/-! The updates of the state. -/

theorem State.setCh_touches (s : State) (n : Nat) (c : PonCh) : Touches ⟨[.pon], [], []⟩ s (s.setCh n c) :=
  .of_parts (fun x hx => by cases x with | pon => simp at hx | _ => rfl) (by simp) (by simp)
theorem State.setTick_touches (s : State) (t : TickGen) : Touches ⟨[.tick], [], []⟩ s (s.setTick t) :=
  .of_parts (fun x hx => by cases x with | tick => simp at hx | _ => rfl) (by simp) (by simp)
theorem State.setTime_touches (s : State) (t : TimeBase) : Touches ⟨[.time], [], []⟩ s (s.setTime t) :=
  .of_parts (fun x hx => by cases x with | time => simp at hx | _ => rfl) (by simp) (by simp)
theorem State.setSq_touches (s : State) (q : Nat) (v : SQueue) : Touches ⟨[.sched], [], []⟩ s (s.setSq q v) :=
  .of_parts (fun x hx => by cases x with | sched => simp at hx | _ => rfl) (by simp) (by simp)
theorem State.setN1_touches (s : State) (i : Nat) (n : Node1) : Touches ⟨[.sched], [], []⟩ s (s.setN1 i n) :=
  .of_parts (fun x hx => by cases x with | sched => simp at hx | _ => rfl) (by simp) (by simp)
theorem State.setAlloc_touches (s : State) (i : Nat) (a : AllocCtx) : Touches ⟨[.alloc], [], []⟩ s (s.setAlloc i a) :=
  .of_parts (fun x hx => by cases x with | alloc => simp at hx | _ => rfl) (by simp) (by simp)
theorem State.setGroup_touches (s : State) (g : Nat) (b : BondCtx) : Touches ⟨[.bonding], [], []⟩ s (s.setGroup g b) :=
  .of_parts (fun x hx => by cases x with | bonding => simp at hx | _ => rfl) (by simp) (by simp)
theorem State.setPool_touches (s : State) (i : Nat) (p : Pool) : Touches ⟨[.buf], [], []⟩ s (s.setPool i p) :=
  .of_parts (fun x hx => by cases x with | buf => simp at hx | _ => rfl) (by simp) (by simp)
theorem State.setOwner_touches (s : State) (i tag : Nat) : Touches ⟨[.buf], [], []⟩ s (s.setOwner i tag) :=
  .of_parts (fun x hx => by cases x with | buf => simp at hx | _ => rfl) (by simp) (by simp)
theorem State.setDests_touches (s : State) (i n : Nat) : Touches ⟨[.buf], [], []⟩ s (s.setDests i n) :=
  .of_parts (fun x hx => by cases x with | buf => simp at hx | _ => rfl) (by simp) (by simp)
theorem State.setLane_touches (s : State) (l : Nat) (x : Lane) : Touches ⟨[.lanes], [], []⟩ s (s.setLane l x) :=
  .of_parts (fun x hx => by cases x with | lanes => simp at hx | _ => rfl) (by simp) (by simp)
theorem State.emit_touches (s : State) (o : Output) : Touches ⟨[.out], [], []⟩ s (s.emit o) :=
  .of_parts (fun x hx => by cases x with | out => simp at hx | _ => rfl) (by simp) (by simp)
theorem State.nextFree_touches (s : State) : Touches ⟨[.freeCtr], [], []⟩ s s.nextFree :=
  .of_parts (fun x hx => by cases x with | freeCtr => simp at hx | _ => rfl) (by simp) (by simp)
theorem State.setMem_touches (s : State) (m : Mem) : Touches ⟨[.mem], [], []⟩ s (s.setMem m) :=
  .of_parts (fun x hx => by cases x with | mem => simp at hx | _ => rfl) (by simp) (by simp)
theorem State.buf_touches (s : State) (b : Buffers) : Touches ⟨[.buf], [], []⟩ s { s with buf := b } :=
  .of_parts (fun x hx => by cases x with | buf => simp at hx | _ => rfl) (by simp) (by simp)
theorem State.sched_touches (s : State) (x : Sched) : Touches ⟨[.sched], [], []⟩ s { s with sched := x } :=
  .of_parts (fun x hx => by cases x with | sched => simp at hx | _ => rfl) (by simp) (by simp)
theorem State.toClassifier_touches (s : State) (f : Frame) : Touches ⟨[.clsIn], [], []⟩ s (s.toClassifier f) :=
  .of_parts (fun x hx => by cases x with | clsIn => simp at hx | _ => rfl) (by simp) (by simp)
theorem State.arb_touches (s : State) (a : Arbiter) : Touches ⟨[.arb], [], []⟩ s { s with arb := a } :=
  .of_parts (fun x hx => by cases x with | arb => simp at hx | _ => rfl) (by simp) (by simp)
theorem State.bank_touches (s : State) (b : Sparse Nat) : Touches ⟨[.bank], [], []⟩ s { s with bank := b } :=
  .of_parts (fun x hx => by cases x with | bank => simp at hx | _ => rfl) (by simp) (by simp)
theorem State.raise_touches (s : State) (src sev code func : Nat) (payload : List Byte) :
    Touches ⟨[.arb], [], []⟩ s (s.raise src sev code func payload) := by
  obtain ⟨a, h⟩ := s.raise_only src sev code func payload
  rw [h]
  exact s.arb_touches a
theorem State.raiseRow_touches (s : State) (src sev c r func : Nat) (fs : List (Nat × Nat)) :
    Touches ⟨[.arb], [], []⟩ s (s.raiseRow src sev c r func fs) := s.raise_touches _ _ _ _ _
theorem State.ponEvent_touches (s : State) (n sev chap row : Nat) (fs : List (Nat × Nat)) :
    Touches ⟨[.arb], [], []⟩ s (s.ponEvent n sev chap row fs) := s.raiseRow_touches _ _ _ _ _ _
theorem State.copyBank_touches (s : State) (delta : Nat) (cs : List Ctr) :
    Touches ⟨[.bank], [], []⟩ s (s.copyBank delta cs) := by
  obtain ⟨b, h⟩ := s.copyBank_only delta cs
  rw [h]
  exact s.bank_touches b

/-- A write of one register, which the family and index r name. -/
theorem State.wr_touches (s : State) (r : (Nat → Nat) × Nat) (v : Word) :
    Touches ⟨[.regs], [r], []⟩ s (s.wr (r.1 r.2) v) where
  parts x hx := by cases x with | regs => simp at hx | _ => rfl
  regs o ho := by
    have : o ≠ r.1 r.2 := fun h => ho r (by simp) h.symm
    rw [State.rd_wr, if_neg this]
  ctrs _ _ := rfl

theorem State.setFld_touches (s : State) (f : Fld) (v : Nat) (r : (Nat → Nat) × Nat) (h : r.1 r.2 = f.off) :
    Touches ⟨[.regs], [r], []⟩ s (s.setFld f v) := by
  rw [State.setFld, ← h]
  exact s.wr_touches r _

theorem State.wrRw_touches (s : State) (v : Nat) (r : (Nat → Nat) × Nat) :
    Touches ⟨[.regs], [r], []⟩ s (s.wrRw (r.1 r.2) v) := by
  rw [State.wrRw]
  split
  · exact .refl _ _
  · exact s.wr_touches r _

theorem State.setCount_touches (s : State) (c : Ctr) (v : Nat) : Touches ⟨[.cnt], [], [c]⟩ s (s.setCount c v) where
  parts x hx := by cases x with | cnt => simp at hx | _ => rfl
  regs _ _ := rfl
  ctrs d hd := by
    have : d.off ≠ c.off := fun h => hd c (by simp) h.symm
    rw [State.count_setCount, if_neg this]

/-- A traffic counter has no SAT bit. -/
theorem State.bumpBy_touches_of_wide (s : State) {c : Ctr} (n : Nat) (hc : c.wide = true) :
    Touches ⟨[.cnt], [], [c]⟩ s (s.bumpBy c n) := by
  simp only [State.bumpBy, hc, if_true]
  exact s.setCount_touches c _

/-- An error counter short of its end has no event. -/
theorem State.bumpBy_touches_of_lt (s : State) {c : Ctr} (n : Nat) (h : s.count c + n < 0xFFFFFFFF) :
    Touches ⟨[.cnt], [], [c]⟩ s (s.bumpBy c n) := by
  simp only [State.bumpBy]
  split_ifs
  · exact s.setCount_touches c _
  · exact .refl _ _
  · exact s.setCount_touches c _

/-- A counter counts, and tells of its end in its SAT register, which r names. -/
theorem State.bumpBy_touches (s : State) (c : Ctr) (n : Nat) (r : (Nat → Nat) × Nat) (h : r.1 r.2 = c.sat) :
    Touches ⟨[.regs, .cnt, .arb], [r], [c]⟩ s (s.bumpBy c n) := by
  have hset : ∀ v, Touches ⟨[.regs, .cnt, .arb], [r], [c]⟩ s (s.setCount c v) :=
    fun v => (s.setCount_touches c v).mono ⟨by simp, by simp, by simp⟩
  simp only [State.bumpBy]
  split_ifs
  · exact hset _
  · exact .refl _ _
  · exact hset _
  · rw [← h]
    exact ((hset _).next (State.wr_touches _ r _) ⟨by simp, by simp, by simp⟩).next (State.raise_touches _ _ _ _ _ _)
      ⟨by simp, by simp, by simp⟩

/-! What a counter reads after it has counted. -/

theorem State.count_bumpBy_of_wide (s : State) {c : Ctr} (n : Nat) (hc : c.wide = true) :
    (s.bumpBy c n).count c = (s.count c + n) % 2 ^ 64 := by
  simp only [State.bumpBy, hc, if_true, State.count_setCount]

theorem State.count_bumpBy_of_lt (s : State) {c : Ctr} (n : Nat) (hc : c.wide = false)
    (h : s.count c + n < 0xFFFFFFFF) : (s.bumpBy c n).count c = s.count c + n := by
  have hne : s.count c ≠ 0xFFFFFFFF := by omega
  simp only [State.bumpBy, hc, hne, h, if_true, if_false, Bool.false_eq_true, State.count_setCount]

theorem State.count_bump_of_lt (s : State) {c : Ctr} (hc : c.wide = false) (h : s.count c < 0xFFFFFFFE) :
    (s.bump c).count c = s.count c + 1 := s.count_bumpBy_of_lt 1 hc (by omega)

theorem State.bump_touches_of_lt (s : State) {c : Ctr} (h : s.count c < 0xFFFFFFFE) :
    Touches ⟨[.cnt], [], [c]⟩ s (s.bump c) := s.bumpBy_touches_of_lt 1 (by omega)

/-! The same, one after another: each step's reach lies within that of the whole. -/

theorem Reach.Within.refl (F : Reach) : F.Within F := ⟨fun _ h => h, fun _ h => h, fun _ h => h⟩

/-- Then a change of parts that hold neither registers nor counts. -/
theorem Touches.part {ps : List Part} (h : Touches G s t) (h' : Touches ⟨ps, [], []⟩ t u)
    (hps : ∀ x ∈ ps, x ∈ G.parts := by simp) : Touches G s u :=
  h.next h' ⟨hps, by simp, by simp⟩

/-- Then a counter counts. -/
theorem Touches.bumpBy (h : Touches G s t) (c : Ctr) (n : Nat) (r : (Nat → Nat) × Nat) (hr : r.1 r.2 = c.sat)
    (hps : .regs ∈ G.parts ∧ .cnt ∈ G.parts ∧ .arb ∈ G.parts := by simp) (hreg : r ∈ G.regs := by simp)
    (hctr : c ∈ G.ctrs := by simp) : Touches G s (t.bumpBy c n) :=
  h.next (t.bumpBy_touches c n r hr) ⟨by simpa using hps, by simpa using hreg, by simpa using hctr⟩

theorem Touches.bump (h : Touches G s t) (c : Ctr) (r : (Nat → Nat) × Nat) (hr : r.1 r.2 = c.sat)
    (hps : .regs ∈ G.parts ∧ .cnt ∈ G.parts ∧ .arb ∈ G.parts := by simp) (hreg : r ∈ G.regs := by simp)
    (hctr : c ∈ G.ctrs := by simp) : Touches G s (t.bump c) := h.bumpBy c 1 r hr hps hreg hctr

end Sys2Proof.Machine
end

section
/-! SUPPORT. What the buffer pools, the queues and the bonding layer touch (R157 to R168, R411 to R414). -/

namespace Sys2Proof.Machine

variable {s t : State}

/-- The counters of rejected frees and handovers (R412). -/
def rejectCtrs : List Ctr := (List.range 4).flatMap fun i => [C.BUF_DOUBLE_FREE i, C.BUF_FOREIGN_FREE i]

theorem poolOf_lt (id : Nat) : poolOf id < 4 := Nat.mod_lt _ (by decide)

theorem doubleFree_mem_rejectCtrs (id : Nat) : C.BUF_DOUBLE_FREE (poolOf id) ∈ rejectCtrs :=
  List.mem_flatMap.mpr ⟨poolOf id, List.mem_range.mpr (poolOf_lt id), by simp⟩

theorem foreignFree_mem_rejectCtrs (id : Nat) : C.BUF_FOREIGN_FREE (poolOf id) ∈ rejectCtrs :=
  List.mem_flatMap.mpr ⟨poolOf id, List.mem_range.mpr (poolOf_lt id), by simp⟩

/-- What the free of a buffer touches. -/
@[simp] def freeReach : Reach := ⟨[.regs, .cnt, .arb, .buf], [(fun _ => R.BUF_SAT, 0)], rejectCtrs⟩

theorem State.rejectReq_touches (s : State) (id kind agent inst : Nat) :
    Touches freeReach s (s.rejectReq id kind agent inst) := by
  unfold State.rejectReq
  split
  · exact ((Touches.refl _ s).bump _ (fun _ => R.BUF_SAT, 0) rfl (hctr := doubleFree_mem_rejectCtrs id)).part
      (State.raiseRow_touches ..)
  · exact ((Touches.refl _ s).bump _ (fun _ => R.BUF_SAT, 0) rfl (hctr := foreignFree_mem_rejectCtrs id)).part
      (State.raiseRow_touches ..)

theorem State.freeBuf_touches (s : State) (id agent inst : Nat) : Touches freeReach s (s.freeBuf id agent inst) := by
  unfold State.freeBuf
  extract_lets i p
  split
  · split
    · exact ((Touches.refl _ s).part (s.setPool_touches ..)).part (State.setOwner_touches ..)
    · exact ((Touches.refl _ s).part (s.setPool_touches ..)).part (State.setOwner_touches ..)
  · exact s.rejectReq_touches ..

theorem State.handover_touches (s : State) (id agent inst dst : Nat) :
    Touches freeReach s (s.handover id agent inst dst) := by
  unfold State.handover
  exact .ite (fun _ => (Touches.refl _ s).part (s.setOwner_touches ..)) (fun _ => s.rejectReq_touches ..)

theorem State.finishDest_touches (s : State) (id agent inst : Nat) :
    Touches freeReach s (s.finishDest id agent inst) := by
  unfold State.finishDest
  extract_lets n bufs u
  split
  · have hu : Touches freeReach s u := (Touches.refl _ s).part (s.buf_touches _)
    split
    · exact (hu.part (u.buf_touches _)).trans (State.freeBuf_touches ..)
    · exact hu
  · exact ((Touches.refl _ s).part (s.buf_touches _)).trans (State.freeBuf_touches ..)

theorem State.queueDrop_touches (s : State) (q : Nat) : Touches ⟨[.sched], [], []⟩ s (s.queueDrop q) := s.setSq_touches ..

/-- What a frame that leaves the queue manager undelivered touches. -/
@[simp] def dropReach : Reach :=
  ⟨[.regs, .cnt, .arb, .buf, .sched], [(fun _ => R.BUF_SAT, 0), (fun _ => R.SCH_SAT, 0)], C.SCH_NO_NODE :: rejectCtrs⟩

theorem freeReach_within_dropReach : freeReach.Within dropReach :=
  ⟨by simp, by simp, fun _ h => List.mem_cons_of_mem _ h⟩

theorem State.noNode_touches (s : State) (node1 sel : Nat) (f : Frame) : Touches dropReach s (s.noNode node1 sel f) := by
  unfold State.noNode
  extract_lets u sched v
  have hu : Touches dropReach s u := (Touches.refl _ s).bump C.SCH_NO_NODE (fun _ => R.SCH_SAT, 0) rfl
  have hv : Touches dropReach s v :=
    .ite (fun _ => hu) (fun _ => (hu.part (u.sched_touches _)).part (State.raiseRow_touches ..))
  exact hv.next (v.finishDest_touches ..) freeReach_within_dropReach

theorem State.dropQueue_touches (s : State) (q : Nat) (l : List QFrame) : Touches dropReach s (s.dropQueue q l) := by
  induction l generalizing s with
  | nil => exact .refl _ s
  | cons x l ih =>
    rw [State.dropQueue]
    refine Touches.trans ?_ (ih _)
    exact (((Touches.refl _ s).part (s.setN1_touches ..)).part (State.queueDrop_touches ..)).next
      (State.finishDest_touches ..) freeReach_within_dropReach

theorem State.dropNode_touches (s : State) (n node : Nat) (test : QFrame → Bool) :
    Touches dropReach s (s.dropNode n node test) := by
  refine Touches.foldl (fun u k => ?_) _ s
  exact .ite (fun _ => .refl _ u) (fun _ => ((Touches.refl _ u).part (u.setSq_touches ..)).trans (State.dropQueue_touches ..))

theorem State.dropAllocNode_touches (s : State) (n i : Nat) (test : QFrame → Bool) :
    Touches dropReach s (s.dropAllocNode n i test) := by
  unfold State.dropAllocNode
  split
  · exact s.dropNode_touches ..
  · exact .refl _ s

/-! Bonding. -/

/-- A channel without the status frames that wait at it. -/
def PonCh.sansStatus (c : PonCh) : PonCh := { c with statusQ := [] }

/-- From s to t the channels keep all but the status frames that wait at them. -/
structure KeepsChannels (s t : State) : Prop where
  ch : ∀ m, (t.ch m).sansStatus = (s.ch m).sansStatus

theorem KeepsChannels.refl (s : State) : KeepsChannels s s := ⟨fun _ => rfl⟩
theorem KeepsChannels.trans {u : State} (h : KeepsChannels s t) (h' : KeepsChannels t u) : KeepsChannels s u :=
  ⟨fun m => (h'.ch m).trans (h.ch m)⟩

theorem Touches.keepsChannels {F : Reach} (h : Touches F s t) (hp : .pon ∉ F.parts) : KeepsChannels s t :=
  ⟨fun m => congrArg PonCh.sansStatus (h.ch hp m)⟩

theorem KeepsChannels.foldl {α : Type} {f : State → α → State} (h : ∀ u a, KeepsChannels u (f u a)) (l : List α)
    (s : State) : KeepsChannels s (l.foldl f s) := by
  induction l generalizing s with
  | nil => exact .refl s
  | cons a l ih => exact (h s a).trans (ih _)

/-- The counters of the bonding layer that a re-evaluation may count. -/
def reevalCtrs : List Ctr :=
  (List.range 4).flatMap fun g => [C.BOND_LOST g, C.BOND_MOVE_DROP g, C.BOND_STATUS_UNSENT g]

/-- What the frames held and queued by a bond group touch as they move. -/
@[simp] def bondReach : Reach :=
  ⟨[.regs, .cnt, .arb, .bonding, .buf, .sched, .clsIn],
    [(fun _ => R.BUF_SAT, 0), (fun _ => R.SCH_SAT, 0)] ++ (List.range 4).map (fun g => (R.BOND_SAT, g)),
    dropReach.ctrs ++ reevalCtrs⟩

theorem dropReach_within_bondReach : dropReach.Within bondReach :=
  ⟨by simp, by simp, fun _ h => List.mem_append_left _ h⟩

theorem freeReach_within_bondReach : freeReach.Within bondReach :=
  ⟨by simp, by simp, fun _ h => List.mem_append_left _ (List.mem_cons_of_mem _ h)⟩

variable {g : Nat}

theorem mem_bondReach_ctrs (hg : g < 4) {c : Ctr} (hc : c ∈ [C.BOND_LOST g, C.BOND_MOVE_DROP g, C.BOND_STATUS_UNSENT g]) :
    c ∈ bondReach.ctrs :=
  List.mem_append_right _ (List.mem_flatMap.mpr ⟨g, List.mem_range.mpr hg, hc⟩)

/-- A counter of the bonding layer counts. -/
theorem Touches.bumpBond (h : Touches bondReach s t) (hg : g < 4) (c : Ctr) (n : Nat)
    (hc : c ∈ [C.BOND_LOST g, C.BOND_MOVE_DROP g, C.BOND_STATUS_UNSENT g]) (hsat : R.BOND_SAT g = c.sat := by rfl) :
    Touches bondReach s (t.bumpBy c n) :=
  h.bumpBy c n (R.BOND_SAT, g) hsat (hreg := by simp [hg]) (hctr := mem_bondReach_ctrs hg hc)

theorem State.placeMoved_touches (s : State) (hg : g < 4) (dst oldQ : Nat) (x : QFrame) :
    Touches bondReach s (s.placeMoved g dst oldQ x) := by
  unfold State.placeMoved
  extract_lets u n1 v
  have hv : Touches bondReach s v := ((Touches.refl _ s).part (s.setGroup_touches ..)).part (u.setN1_touches ..)
  split
  · exact ((hv.bumpBond hg (C.BOND_MOVE_DROP g) 1 (by simp)).part (State.queueDrop_touches ..)).next
      (State.finishDest_touches ..) freeReach_within_bondReach
  · split
    · exact hv.next (v.noNode_touches ..) dropReach_within_bondReach
    · exact (hv.part (v.setSq_touches ..)).part (State.setN1_touches ..)

theorem State.moveFrames_touches (s : State) (hg : g < 4) (k dst : Nat) (l : List Nat) :
    Touches bondReach s (s.moveFrames g k dst l) := by
  induction l generalizing s with
  | nil => exact .refl _ s
  | cons q l ih =>
    rw [State.moveFrames]
    refine Touches.trans ?_ (ih _)
    exact .ite (fun _ => .refl _ s) (fun _ => ((Touches.refl _ s).part (s.setSq_touches ..)).trans
      (Touches.foldl (fun u x => u.placeMoved_touches hg dst q x) _ _))

theorem State.moveBucket_touches (s : State) (hg : g < 4) (k dst : Nat) :
    Touches bondReach s (s.moveBucket g k dst) := by
  unfold State.moveBucket
  exact .ite (fun _ => .refl _ s) (fun _ => ((Touches.refl _ s).part (s.setGroup_touches ..)).trans
    (State.moveFrames_touches _ hg ..))

theorem State.moveInactive_touches (s : State) (hg : g < 4) : Touches bondReach s (s.moveInactive g) := by
  refine Touches.foldl (fun u k => ?_) _ s
  dsimp only
  split
  · exact .refl _ u
  · split
    · exact u.moveBucket_touches hg ..
    · exact .refl _ u

theorem State.releaseRun_touches (s : State) (g : Nat) (l : List HeldSdu) :
    Touches bondReach s (s.releaseRun g l) := by
  induction l generalizing s with
  | nil => exact (Touches.refl _ s).part (s.setGroup_touches ..)
  | cons x l ih =>
    rw [State.releaseRun]
    exact .ite
      (fun _ => (((Touches.refl _ s).part (s.setGroup_touches ..)).part (State.toClassifier_touches ..)).trans (ih _))
      (fun _ => (Touches.refl _ s).part (s.setGroup_touches ..))

theorem State.skipTo_touches (s : State) (hg : g < 4) (x : Nat) : Touches bondReach s (s.skipTo g x).1 := by
  unfold State.skipTo
  extract_lets b d pass keep u v
  have hv : Touches bondReach s v := ((Touches.refl _ s).part (s.setGroup_touches ..)).trans
    (Touches.foldl (fun w h => (Touches.refl _ w).part (w.toClassifier_touches _)) _ _)
  exact hv.bumpBond hg (C.BOND_LOST g) _ (by simp)

theorem State.skipOldest_touches (s : State) (hg : g < 4) : Touches bondReach s (s.skipOldest g).1 := by
  unfold State.skipOldest
  split
  · exact .refl _ s
  · exact (s.skipTo_touches hg _).trans (State.releaseRun_touches ..)

theorem State.earlyRelease_touches (s : State) (hg : g < 4) (n : Nat) : Touches bondReach s (s.earlyRelease g n) := by
  induction n generalizing s with
  | zero => exact .refl _ s
  | succ n ih =>
    rw [State.earlyRelease]
    dsimp only
    split_ifs
    · exact .refl _ s
    · exact (s.releaseRun_touches g _).trans (ih _)
    · exact ((s.skipOldest_touches hg).part (State.raiseRow_touches ..)).trans (ih _)
    · exact (s.skipOldest_touches hg).trans (ih _)
    · exact .refl _ s

theorem State.tellMembers_touches (s : State) (g : Nat) (old new : List Nat) (n : Nat) :
    Touches bondReach s (s.tellMembers g old new n) := by
  induction n with
  | zero => exact .refl _ s
  | succ n ih =>
    rw [State.tellMembers]
    exact .ite (fun _ => ih) (fun _ => ih.part (State.raiseRow_touches ..))

/-- What a re-evaluation of the bonding layer touches: status frames wait at the channels too. -/
@[simp] def reevalReach : Reach := ⟨.pon :: bondReach.parts, bondReach.regs, bondReach.ctrs⟩

theorem bondReach_within_reevalReach : bondReach.Within reevalReach :=
  ⟨fun _ h => List.mem_cons_of_mem _ h, fun _ h => h, fun _ h => h⟩

theorem State.sendStatus_touches (s : State) (hg : g < 4) : Touches reevalReach s (s.sendStatus g) := by
  unfold State.sendStatus
  exact .ite (fun _ => ((Touches.refl _ s).bumpBond hg (C.BOND_STATUS_UNSENT g) 1 (by simp)).mono bondReach_within_reevalReach)
    (fun _ => .foldl (fun u n => (Touches.refl _ u).part (u.setCh_touches ..)) _ s)

theorem State.setCh_keepsChannels (s : State) (n : Nat) (c : PonCh) (h : c.sansStatus = (s.ch n).sansStatus) :
    KeepsChannels s (s.setCh n c) := by
  refine ⟨fun m => ?_⟩
  rw [State.ch_setCh]
  split
  · next hm => rw [h, hm]
  · rfl

theorem State.sendStatus_keepsChannels (s : State) (g : Nat) : KeepsChannels s (s.sendStatus g) := by
  unfold State.sendStatus
  dsimp only
  split
  · exact ⟨fun m => by rw [State.ch_of_pon (State.bump_pon ..)]⟩
  · refine KeepsChannels.foldl (fun u n => ?_) _ s
    exact u.setCh_keepsChannels n _ rfl

/-- The re-evaluation up to the status frame. -/
theorem State.reevalGroup_cases (s : State) (hg : g < 4) :
    Touches bondReach s (s.reevalGroup g) ∨ ∃ u, Touches bondReach s u ∧ s.reevalGroup g = u.sendStatus g := by
  unfold State.reevalGroup
  extract_lets b us ds st u v w
  have hu : Touches bondReach s u := (Touches.refl _ s).part (s.setGroup_touches ..)
  have hv : Touches bondReach s v := .ite (fun _ => hu) (fun _ => hu.trans (u.moveInactive_touches hg))
  have hw : Touches bondReach s w := .ite (fun _ => hv) (fun _ => hv.trans (v.earlyRelease_touches hg _))
  split
  · split
    · exact .inl hw
    · exact .inr ⟨_, (hw.trans (w.tellMembers_touches ..)).part (State.setGroup_touches ..), rfl⟩
  · exact .inl (.refl _ s)

theorem State.groupOf_lt {n : Nat} (h : s.groupOf n = some g) : g < 4 := List.mem_range.mp (List.mem_of_find?_eq_some h)

theorem State.reeval_touches (s : State) (n : Nat) : Touches reevalReach s (s.reeval n) := by
  unfold State.reeval
  split
  next g hg =>
    have hlt := State.groupOf_lt hg
    rcases s.reevalGroup_cases hlt with h | ⟨u, hu, heq⟩
    · exact h.mono bondReach_within_reevalReach
    · rw [heq]
      exact (hu.mono bondReach_within_reevalReach).trans (u.sendStatus_touches hlt)
  next => exact .refl _ s

/-- A re-evaluation leaves of every channel all but its status frames (R168). -/
theorem State.reeval_keepsChannels (s : State) (n : Nat) : KeepsChannels s (s.reeval n) := by
  unfold State.reeval
  split
  next g hg =>
    have hlt := State.groupOf_lt hg
    rcases s.reevalGroup_cases hlt with h | ⟨u, hu, heq⟩
    · exact h.keepsChannels (by simp)
    · rw [heq]
      exact (hu.keepsChannels (by simp)).trans (u.sendStatus_keepsChannels g)
  next => exact .refl s

end Sys2Proof.Machine
end

section
/-! SUPPORT. What the shared operations of a PON channel touch, and what they make of the channel (R64, R92, R103 to R121,
R134 to R137, R332). -/

namespace Sys2Proof.Machine

variable {s t u : State} {n : Nat}

/-- From s to t channel n takes the value f of its own, but for the status frames that wait at it; the others keep theirs. -/
structure ChangesChannel (n : Nat) (f : PonCh → PonCh) (s t : State) : Prop where
  ch : ∀ m, (t.ch m).sansStatus = if m = n then (f (s.ch n)).sansStatus else (s.ch m).sansStatus

/-- What f makes of a channel does not depend on the status frames that wait at it. -/
def StatusFree (f : PonCh → PonCh) : Prop := ∀ c, (f c).sansStatus = (f c.sansStatus).sansStatus

section
variable {f g : PonCh → PonCh}

theorem StatusFree.congr (hf : StatusFree f) {c d : PonCh} (h : c.sansStatus = d.sansStatus) :
    (f c).sansStatus = (f d).sansStatus := by rw [hf c, h, ← hf d]

theorem State.setCh_changes (s : State) (n : Nat) (f : PonCh → PonCh) : ChangesChannel n f s (s.setCh n (f (s.ch n))) := by
  refine ⟨fun m => ?_⟩
  rw [State.ch_setCh]
  split <;> rfl

theorem ChangesChannel.trans (h : ChangesChannel n f s t) (h' : ChangesChannel n g t u) (hg : StatusFree g) :
    ChangesChannel n (fun c => g (f c)) s u := by
  refine ⟨fun m => ?_⟩
  rw [h'.ch m]
  split
  · exact hg.congr (by rw [h.ch n, if_pos rfl])
  · next hm => rw [h.ch m, if_neg hm]

theorem ChangesChannel.keeps (h : ChangesChannel n f s t) (h' : KeepsChannels t u) : ChangesChannel n f s u :=
  ⟨fun m => (h'.ch m).trans (h.ch m)⟩

/-- A change of parts without the channels. -/
theorem ChangesChannel.next {F : Reach} (h : ChangesChannel n f s t) (h' : Touches F t u)
    (hp : .pon ∉ F.parts := by simp) : ChangesChannel n f s u := h.keeps (h'.keepsChannels hp)

/-- The channel itself. -/
theorem ChangesChannel.self (h : ChangesChannel n f s t) : (t.ch n).sansStatus = (f (s.ch n)).sansStatus :=
  (h.ch n).trans (if_pos rfl)

/-- The other channels. -/
theorem ChangesChannel.other (h : ChangesChannel n f s t) {m : Nat} (hm : m ≠ n) :
    (t.ch m).sansStatus = (s.ch m).sansStatus := (h.ch m).trans (if_neg hm)
end

/-! Activation. -/

theorem State.setAct_touches (s : State) (n : Nat) (a : Act) : Touches reevalReach s (s.setAct n a) := by
  unfold State.setAct
  exact .ite (fun _ => .refl _ s) (fun _ => (((Touches.refl _ s).part (s.setCh_touches ..)).part
    (State.ponEvent_touches ..)).trans (State.reeval_touches ..))

theorem State.setAct_changes (s : State) (n : Nat) (a : Act) :
    ChangesChannel n (fun c => { c with act := a }) s (s.setAct n a) := by
  unfold State.setAct
  dsimp only
  split
  · next h =>
    refine ⟨fun m => ?_⟩
    split
    · next hm => rw [hm, ← h]
    · rfl
  · exact ((s.setCh_changes n (fun c => { c with act := a })).next (State.ponEvent_touches ..)).keeps
      (State.reeval_keepsChannels _ _)

/-- What the discard of a channel's identity touches. -/
@[simp] def identityReach : Reach := ⟨.pon :: .alloc :: dropReach.parts, dropReach.regs, dropReach.ctrs⟩

/-- What the return of an Alloc-ID's entry touches. -/
@[simp] def allocReach : Reach := ⟨.alloc :: dropReach.parts, dropReach.regs, dropReach.ctrs⟩

theorem State.freeAlloc_touches (s : State) (n i : Nat) : Touches allocReach s (s.freeAlloc n i) := by
  unfold State.freeAlloc
  have h : Touches allocReach s (s.dropAllocNode n i fun x => decide (0 < x.sent)) :=
    (s.dropAllocNode_touches ..).mono ⟨by simp, by simp, fun _ h => h⟩
  exact h.part (State.setAlloc_touches ..)

/-- A channel without its ONU-ID and equalisation delay, and what hangs on them (R105, R120). -/
def PonCh.sansIdentity (c : PonCh) : PonCh :=
  { c with
    onuId := none, eqd := 0, eqdNext := [], bursts := c.airBursts, snDue := 0, rangeDue := 0, lastSeq := none
    lastAck := [] }

theorem State.dropIdentity_cases (s : State) (n : Nat) :
    Touches allocReach (s.setCh n (s.ch n).sansIdentity) (s.dropIdentity n) := by
  unfold State.dropIdentity
  exact Touches.foldl (fun u i => u.freeAlloc_touches n i) _ _

theorem State.dropIdentity_touches (s : State) (n : Nat) : Touches identityReach s (s.dropIdentity n) :=
  ((Touches.refl _ s).part (s.setCh_touches ..)).next (s.dropIdentity_cases n) ⟨by simp, by simp, fun _ h => h⟩

theorem State.dropIdentity_changes (s : State) (n : Nat) :
    ChangesChannel n PonCh.sansIdentity s (s.dropIdentity n) :=
  (s.setCh_changes n PonCh.sansIdentity).next (s.dropIdentity_cases n)

theorem State.tryO23_touches (s : State) (n : Nat) : Touches reevalReach s (s.tryO23 n) := by
  unfold State.tryO23
  exact .ite (fun _ => s.setAct_touches ..) (fun _ => .refl _ s)

/-- A channel that may go on to O2-3 changes its activation state alone. -/
theorem State.tryO23_changes (s : State) (n : Nat) :
    ∃ a, ChangesChannel n (fun c => { c with act := a }) s (s.tryO23 n) := by
  unfold State.tryO23
  dsimp only
  split
  · exact ⟨_, s.setAct_changes n _⟩
  · refine ⟨(s.ch n).act, ⟨fun m => ?_⟩⟩
    split
    · next hm => rw [hm]
    · rfl

theorem State.syncGained_touches (s : State) (n : Nat) : Touches reevalReach s (s.syncGained n) := by
  unfold State.syncGained
  split
  · exact (s.setAct_touches ..).trans (State.tryO23_touches ..)
  · exact s.setAct_touches ..
  · exact s.reeval_touches ..

/-- A channel that gains sync changes its activation state alone. -/
theorem State.syncGained_changes (s : State) (n : Nat) :
    ∃ a, ChangesChannel n (fun c => { c with act := a }) s (s.syncGained n) := by
  unfold State.syncGained
  split
  · obtain ⟨a, h⟩ := (s.setAct n .o12).tryO23_changes n
    exact ⟨a, (s.setAct_changes n .o12).trans h fun _ => rfl⟩
  · exact ⟨_, s.setAct_changes n _⟩
  · refine ⟨(s.ch n).act, ⟨fun m => ?_⟩⟩
    rw [(s.reeval_keepsChannels n).ch m]
    split
    · next hm => rw [hm]
    · rfl

/-! Loss of sync. -/

/-- Two channels whose receivers stand alike. -/
structure PonCh.SameReceiver (c d : PonCh) : Prop where
  sync : c.sync = d.sync
  los : c.los = d.los
  cdr : c.cdr = d.cdr
  cands : c.cands = d.cands
  partials : c.partials = d.partials

theorem State.loseMaster_touches (s : State) (cause : Nat) : Touches ⟨[.tick, .arb], [], []⟩ s (s.loseMaster cause) := by
  unfold State.loseMaster
  exact .ite (fun _ => .ite (fun _ => (Touches.refl _ s).part (s.setTick_touches _))
    (fun _ => ((Touches.refl _ s).part (s.setTick_touches _)).part (State.raiseRow_touches ..))) (fun _ => .refl _ s)

/-- What a loss of sync touches. -/
@[simp] def syncLossReach (n : Nat) : Reach :=
  ⟨.tick :: .alloc :: reevalReach.parts, (R.PON_STAT_SAT, n) :: (R.PON_TC_SAT, n) :: reevalReach.regs,
    [C.PON_SYNC_LOSS n, C.TC_XGEM_BAD n, C.TC_FRAG_LOST n] ++ reevalReach.ctrs⟩

theorem reevalReach_within_syncLossReach (n : Nat) : reevalReach.Within (syncLossReach n) :=
  ⟨by simp, fun _ h => List.mem_cons_of_mem _ (List.mem_cons_of_mem _ h), fun _ h => List.mem_append_right _ h⟩

theorem identityReach_within_syncLossReach (n : Nat) : identityReach.Within (syncLossReach n) :=
  ⟨by simp, by simp, fun _ h => List.mem_append_right _ (List.mem_append_left _ h)⟩

theorem State.dropPartials_touches (s : State) (n : Nat) : Touches (syncLossReach n) s (s.dropPartials n) := by
  unfold State.dropPartials
  exact ((Touches.refl _ s).part (s.setCh_touches ..)).bumpBy _ _ (R.PON_TC_SAT, n) rfl

/-- A channel that has lost sync, before its activation state follows: it stands in st. -/
def PonCh.unsynced (st : SyncSt) (falses : Nat) (c : PonCh) : PonCh :=
  { c with
    sync := st, cands := [], inFrames := 0, missRun := 0, bursts := c.airBursts, snDue := 0, rangeDue := 0,
    candFalseAt := falses, partials := [] }

/-- The activation state that follows a loss of sync (R92, Table 4-2). -/
def PonCh.afterLoss (c : PonCh) : PonCh :=
  match c.act with
  | .o12 => { c with act := .o11 }
  | .o23 => { c.sansIdentity with act := .o11 }
  | .o4 => { c.sansIdentity with act := .o11 }
  | .o5 => { c with act := .o6 }
  | _ => c

theorem PonCh.afterLoss_statusFree : StatusFree PonCh.afterLoss := by
  intro c
  rcases hact : c.act with _ | _ | _ | _ | _ | _ | _ <;> simp only [PonCh.afterLoss, PonCh.sansStatus, hact] <;> rfl

/-- The state in which a channel has lost sync, up to its activation state. -/
theorem State.loseSync_cases (s : State) (n : Nat) (st : SyncSt) (cause : Nat) (mid : Bool) :
    ∃ u, Touches (syncLossReach n) s u ∧
      ChangesChannel n (PonCh.unsynced st (s.count (C.PON_CAND_FALSE n))) s u ∧
      s.loseSync n st cause mid = match (u.ch n).act with
        | .o12 => u.setAct n .o11
        | .o23 => (u.dropIdentity n).setAct n .o11
        | .o4 => (u.dropIdentity n).setAct n .o11
        | .o5 => u.setAct n .o6
        | _ => u := by
  unfold State.loseSync
  extract_lets c master s1 s2 s3 s4 s5 s6
  refine ⟨s6, ?_, ?_, rfl⟩
  · have h2 : Touches (syncLossReach n) s s2 :=
      .ite (fun _ => ((Touches.refl _ s).part (s.setCh_touches ..)).bump _ (R.PON_TC_SAT, n) rfl)
        (fun _ => (Touches.refl _ s).part (s.setCh_touches ..))
    have h4 : Touches (syncLossReach n) s s4 :=
      (h2.trans (s2.dropPartials_touches n)).next (s3.reeval_touches n) (reevalReach_within_syncLossReach n)
    have h5 : Touches (syncLossReach n) s s5 := .ite (fun _ => h4.part (s4.loseMaster_touches 0)) (fun _ => h4)
    exact (h5.bump _ (R.PON_STAT_SAT, n) rfl).part (State.ponEvent_touches ..)
  · have h2 : s2.pon = s1.pon := by
      simp only [s2]
      split
      · exact State.bump_pon ..
      · rfl
    have h3 : s3.pon = (s2.setCh n { s2.ch n with partials := [] }).pon := State.bumpBy_pon ..
    have h5 : s5.pon = s4.pon := by
      simp only [s5]
      split
      · exact (s4.loseMaster_touches 0).pon (by simp)
      · rfl
    have h6 : s6.pon = s5.pon := by simp [s6, State.ponEvent]
    refine ⟨fun m => ?_⟩
    rw [State.ch_of_pon (h6.trans h5), (s3.reeval_keepsChannels n).ch m, State.ch_of_pon h3, State.ch_setCh,
      State.ch_of_pon h2, State.ch_of_pon h2, State.ch_setCh, State.ch_setCh, if_pos rfl]
    split <;> rfl

theorem State.loseSync_touches (s : State) (n : Nat) (st : SyncSt) (cause : Nat) (mid : Bool) :
    Touches (syncLossReach n) s (s.loseSync n st cause mid) := by
  obtain ⟨u, hu, -, heq⟩ := s.loseSync_cases n st cause mid
  have hact : ∀ {v}, Touches (syncLossReach n) s v → ∀ a, Touches (syncLossReach n) s (v.setAct n a) :=
    fun h a => h.next (State.setAct_touches ..) (reevalReach_within_syncLossReach n)
  have hid := hu.next (u.dropIdentity_touches n) (identityReach_within_syncLossReach n)
  rw [heq]
  split
  · exact hact hu _
  · exact hact hid _
  · exact hact hid _
  · exact hact hu _
  · exact hu

/-- What a loss of sync makes of its channel; the other channels keep all but their status frames. -/
theorem State.loseSync_changes (s : State) (n : Nat) (st : SyncSt) (cause : Nat) (mid : Bool) :
    ChangesChannel n (fun c => (c.unsynced st (s.count (C.PON_CAND_FALSE n))).afterLoss) s
      (s.loseSync n st cause mid) := by
  obtain ⟨u, -, hu, heq⟩ := s.loseSync_cases n st cause mid
  refine hu.trans ?_ PonCh.afterLoss_statusFree
  rw [heq]
  have hact := u.setAct_changes n
  have hid : ChangesChannel n (fun c => { c.sansIdentity with act := .o11 }) u ((u.dropIdentity n).setAct n .o11) :=
    (u.dropIdentity_changes n).trans (State.setAct_changes _ _ _) fun _ => rfl
  refine ⟨fun m => ?_⟩
  unfold PonCh.afterLoss
  split
  · exact (hact _).ch m
  · exact hid.ch m
  · exact hid.ch m
  · exact (hact _).ch m
  · split
    · next hm => rw [hm]
    · rfl

theorem PonCh.afterLoss_act (c : PonCh) : c.afterLoss.act =
    match c.act with
    | .o12 => .o11
    | .o23 => .o11
    | .o4 => .o11
    | .o5 => .o6
    | a => a := by
  rcases hact : c.act with _ | _ | _ | _ | _ | _ | _ <;> simp [PonCh.afterLoss, PonCh.sansIdentity, hact]

/-- What the activation state's change after a loss of sync leaves of a channel. -/
theorem PonCh.afterLoss_sameReceiver (c : PonCh) : c.afterLoss.SameReceiver c := by
  unfold PonCh.afterLoss
  split <;> exact ⟨rfl, rfl, rfl, rfl, rfl⟩

theorem PonCh.afterLoss_bursts (c : PonCh) (h : c.bursts = c.airBursts) : c.afterLoss.bursts = c.bursts := by
  unfold PonCh.afterLoss
  split <;> simp [PonCh.sansIdentity, ← h]

theorem PonCh.airBursts_of_airBursts (c : PonCh) {d : PonCh} (hb : d.bursts = c.airBursts) (ho : d.burstOn = c.burstOn) :
    d.airBursts = c.airBursts := by
  unfold PonCh.airBursts at *
  rw [hb, ho]
  split <;> simp

/-! Lanes and LULL. -/

theorem State.laneEval_touches (s : State) {l : Nat} (hl : 40 ≤ l) : Touches ⟨[.lanes], [], []⟩ s (s.laneEval l) := by
  unfold State.laneEval
  extract_lets x u y v
  have hv : Touches ⟨[.lanes], [], []⟩ s v :=
    .ite (fun _ => ((Touches.refl _ s).part (s.setLane_touches ..)).part (u.setLane_touches ..))
      (fun _ => (Touches.refl _ s).part (s.setLane_touches ..))
  have hfar : ¬(v.asleep l false = true ∧ l < 40) := by omega
  rw [if_neg hfar]
  exact hv

theorem State.setLull_touches (s : State) (n : Nat) (l : Lull) (cause : Nat) :
    Touches ⟨[.pon, .arb], [], []⟩ s (s.setLull n l cause) :=
  ((Touches.refl _ s).part (s.setCh_touches ..)).part (State.ponEvent_touches ..)

theorem State.setLull_changes (s : State) (n : Nat) (l : Lull) (cause : Nat) :
    ChangesChannel n (fun c => { c with lull := l }) s (s.setLull n l cause) :=
  (s.setCh_changes n fun c => { c with lull := l }).next (State.ponEvent_touches ..)

theorem State.rxPowerUp_touches (s : State) (n : Nat) : Touches reevalReach s (s.rxPowerUp n) := by
  unfold State.rxPowerUp
  exact .ite (fun _ => ((Touches.refl _ s).part (s.setCh_touches ..)).trans (State.reeval_touches ..)) (fun _ => .refl _ s)

/-- A receiver that powers up hunts, its taps kept (R71, R95). -/
def PonCh.poweredUp (falses : Nat) (c : PonCh) : PonCh :=
  { c with sync := .hunt, rxDown := false, acquiring := true, candFalseAt := falses }

theorem State.rxPowerUp_changes (s : State) (h : (s.ch n).rxDown = true) :
    ChangesChannel n (PonCh.poweredUp (s.count (C.PON_CAND_FALSE n))) s (s.rxPowerUp n) := by
  simp only [State.rxPowerUp, h, if_true]
  exact (s.setCh_changes n (PonCh.poweredUp _)).keeps (State.reeval_keepsChannels _ _)

end Sys2Proof.Machine
end

section
/-! What the equaliser's operations make of a channel (R68 to R74), and O14. -/

namespace Sys2Proof.Machine

variable (s : State) (n : Nat)

/-- A change of one channel alone. -/
theorem State.setCh_alone (c : PonCh) :
    (s.setCh n c).ch n = c ∧ (∀ m < 4, m ≠ n → (s.setCh n c).ch m = s.ch m) ∧ OnlyChanges [.pon] s (s.setCh n c) :=
  ⟨by simp, fun m _ hm => by simp [hm], (s.setCh_touches n c).parts⟩

/-- A change of one channel, then of parts without the channels. -/
theorem Touches.after_setCh {s t : State} {n : Nat} {c : PonCh} {F : Reach} (h : Touches F (s.setCh n c) t)
    (hp : .pon ∉ F.parts := by simp) :
    t.ch n = c ∧ (∀ m < 4, m ≠ n → t.ch m = s.ch m) ∧ OnlyChanges (.pon :: F.parts) s t := by
  refine ⟨?_, fun m _ hm => ?_, ?_⟩
  · rw [h.ch hp, State.ch_setCh, if_pos rfl]
  · rw [h.ch hp, State.ch_setCh, if_neg hm]
  · exact ((s.setCh_touches n c).onlyChanges (by simp)).trans (h.onlyChanges fun _ => List.mem_cons_of_mem _)

/-- The taps after the given cycles, adapted unless they are held. -/
def State.adapted (cycles : List EqCycle) : List Int :=
  if s.eqHeld n then (s.ch n).taps
  else cycles.foldl (eqStep (s.ponMode n) (s.eqMu n) (s.dfeOn n)) (s.ch n).taps

theorem State.ch_eqRun (cycles : List EqCycle) (m : Nat) :
    (s.eqRun n cycles).ch m = if m = n then { s.ch n with taps := s.adapted n cycles } else s.ch m := by
  unfold State.eqRun State.adapted
  split
  · split
    · next hm => rw [hm]
    · rfl
  · rw [State.ch_setCh]

theorem State.eqRun_touches (cycles : List EqCycle) : Touches ⟨[.pon], [], []⟩ s (s.eqRun n cycles) :=
  .ite (fun _ => .refl _ s) (fun _ => s.setCh_touches ..)

/-- A tap write while the taps are held writes the tap and its latched value. -/
theorem State.writeTap_of_frozen (i : Nat) (v : Int) (h : s.flag (F.PON_EQ_CTL_FREEZE n) = true) :
    s.writeTap n i v = s.setCh n { s.ch n with
      taps := (s.ch n).taps.set i (if tapZero (s.ponMode n) (s.dfeOn n) i then 0 else v)
      snapTaps := (s.ch n).snapTaps.set i (if tapZero (s.ponMode n) (s.dfeOn n) i then 0 else v) } := by
  simp only [State.writeTap, h, if_true]

/-- The adapted taps of a channel, then another change of it. -/
theorem State.setCh_eqRun_alone (cycles : List EqCycle) (c : PonCh) :
    (((s.eqRun n cycles).setCh n c).ch n = c) ∧
      (∀ m < 4, m ≠ n → ((s.eqRun n cycles).setCh n c).ch m = s.ch m) ∧
      OnlyChanges [.pon] s ((s.eqRun n cycles).setCh n c) :=
  ⟨by simp, fun m _ hm => by simp [hm, State.ch_eqRun],
    ((s.eqRun_touches n cycles).part (State.setCh_touches ..)).parts⟩

/-- Settles O14: each clause is the channel that its operation sets. -/
theorem equaliserLoadsHoldsAndLatchesItsTaps : Obligations.EqualiserLoadsHoldsAndLatchesItsTaps := by
  refine ⟨fun s c => ?_, fun s c cs => ?_, fun s c a b hsync hlos hfr hacq ha hb => ?_, fun s c a b h => ?_,
    fun s c cs mse => ?_, fun s c k v h => ?_, fun s c k v h => ?_⟩
  · exact ⟨_, rfl, s.setCh_alone c.val _⟩
  · refine ⟨_, rfl, ?_, (s.setCh_eqRun_alone c.val cs _).2⟩
    simp only [State.ch_setCh, State.ch_eqRun, if_true]
    rfl
  · refine ⟨_, ?_, Touches.after_setCh (State.ponEvent_touches _ c.val 2 3 3 [(2, b.toNat)])⟩
    exact if_pos ⟨hsync, hlos, hfr, hacq, ha, hb⟩
  · simp only [exec_eqDivergenceReset, execEqDivergenceReset]
    refine if_neg ?_
    rintro ⟨hsync, hlos, hfr, hacq, ha, hb⟩
    rcases h with ⟨hne, hne'⟩ | h | h | h | h | h
    · exact hsync.elim hne hne'
    · simp [h] at hlos
    · simp [h] at hfr
    · simp [h] at hacq
    · omega
    · omega
  · refine ⟨_, rfl, ?_, (s.setCh_eqRun_alone c.val cs _).2⟩
    simp only [State.eqLatch, State.ch_setCh, State.ch_eqRun, if_true]
    rfl
  · refine ⟨_, rfl, ?_⟩
    rw [s.writeTap_of_frozen _ _ _ h]
    obtain ⟨hch, hrest, honly⟩ := s.setCh_alone c.val { s.ch c.val with
      taps := (s.ch c.val).taps.set k.val (if tapZero (s.ponMode c.val) (s.dfeOn c.val) k.val then 0 else v.toInt)
      snapTaps := (s.ch c.val).snapTaps.set k.val
        (if tapZero (s.ponMode c.val) (s.dfeOn c.val) k.val then 0 else v.toInt) }
    exact ⟨by rw [hch], by rw [hch], by rw [hch], by rw [hch], hrest, honly⟩
  · simp only [exec_eqTapWrite, execEqTapWrite, State.writeTap, h, Bool.false_eq_true, if_false]

end Sys2Proof.Machine
end

section
/-! Counts and their banks (R85 to R90), and O16. -/

namespace Sys2Proof.Machine

variable {s : State}

/-! A copy into a bank. -/

/-- The bank registers that a counter's copy writes, delta above the demand bank. -/
def Ctr.places (delta : Nat) (c : Ctr) : List Nat :=
  if c.wide then [c.off + delta, c.off + delta + 4] else [c.off + delta]

theorem Ctr.off_mem_places (delta : Nat) (c : Ctr) : c.off + delta ∈ c.places delta := by
  unfold Ctr.places
  split <;> simp

theorem Ctr.upper_mem_places (delta : Nat) {c : Ctr} (h : c.wide = true) : c.off + delta + 4 ∈ c.places delta := by
  simp [Ctr.places, h]

theorem State.copyBank_append (s : State) (delta : Nat) (l m : List Ctr) :
    (s.copyBank delta l).copyBank delta m = s.copyBank delta (l ++ m) := by
  induction l generalizing s with
  | nil => rfl
  | cons c l ih => exact ih _

/-- The copy of the first counter of a list. -/
def State.copyOne (s : State) (delta : Nat) (c : Ctr) : State :=
  if c.wide then (s.setBank (c.off + delta) (s.count c % 2 ^ 32)).setBank (c.off + delta + 4) (s.count c / 2 ^ 32)
  else s.setBank (c.off + delta) (s.count c % 2 ^ 32)

theorem State.copyBank_cons (s : State) (delta : Nat) (c : Ctr) (l : List Ctr) :
    s.copyBank delta (c :: l) = (s.copyOne delta c).copyBank delta l := rfl

theorem State.copyOne_cnt (s : State) (delta : Nat) (c : Ctr) : (s.copyOne delta c).cnt = s.cnt := by
  unfold State.copyOne
  split <;> rfl

theorem State.bankAt_copyOne_of_notMem (s : State) (delta : Nat) {c : Ctr} {o : Nat} (h : o ∉ c.places delta) :
    (s.copyOne delta c).bankAt o = s.bankAt o := by
  unfold Ctr.places at h
  unfold State.copyOne
  split at h
  · next hw =>
    obtain ⟨hlo, hhi⟩ := by simpa using h
    simp [hw, hlo, hhi]
  · next hw => simp_all

theorem State.bankAt_copyBank_of_notMem (s : State) (delta : Nat) {l : List Ctr} {o : Nat}
    (h : o ∉ l.flatMap (Ctr.places delta)) : (s.copyBank delta l).bankAt o = s.bankAt o := by
  induction l generalizing s with
  | nil => rfl
  | cons c l ih =>
    obtain ⟨hc, hl⟩ := not_or.mp (mt List.mem_append.mpr (List.flatMap_cons ▸ h))
    rw [State.copyBank_cons, ih _ hl, s.bankAt_copyOne_of_notMem delta hc]

/-- A bank register of a list's counter reads what its own copy wrote. -/
theorem State.bankAt_copyBank_of_mem {delta : Nat} {l : List Ctr} (hl : (l.flatMap (Ctr.places delta)).Nodup) {c : Ctr}
    (hc : c ∈ l) {o : Nat} (ho : o ∈ c.places delta) :
    ∃ u : State, u.cnt = s.cnt ∧ (s.copyBank delta l).bankAt o = (u.copyOne delta c).bankAt o := by
  induction l generalizing s with
  | nil => cases hc
  | cons d l ih =>
    obtain ⟨-, hnd, hdis⟩ := List.nodup_append.mp (List.flatMap_cons ▸ hl)
    rw [State.copyBank_cons]
    by_cases hcd : c ∈ l
    · obtain ⟨u, hu, heq⟩ := ih (s := s.copyOne delta d) hnd hcd
      exact ⟨u, hu.trans (s.copyOne_cnt ..), heq⟩
    · obtain rfl : c = d := (List.mem_cons.mp hc).resolve_right hcd
      exact ⟨s, rfl, State.bankAt_copyBank_of_notMem _ _ fun h => hdis o ho o h rfl⟩

theorem State.bankAt_copyBank_low {delta : Nat} {l : List Ctr} (hl : (l.flatMap (Ctr.places delta)).Nodup) {c : Ctr}
    (hc : c ∈ l) : (s.copyBank delta l).bankAt (c.off + delta) = s.count c % 2 ^ 32 := by
  obtain ⟨u, hu, heq⟩ := State.bankAt_copyBank_of_mem (s := s) hl hc (c.off_mem_places delta)
  have hcount : u.count c = s.count c := by simp only [State.count, hu]
  rw [heq, ← hcount]
  unfold State.copyOne
  split <;> simp

theorem State.bankAt_copyBank_high {delta : Nat} {l : List Ctr} (hl : (l.flatMap (Ctr.places delta)).Nodup) {c : Ctr}
    (hc : c ∈ l) (hw : c.wide = true) : (s.copyBank delta l).bankAt (c.off + delta + 4) = s.count c / 2 ^ 32 := by
  obtain ⟨u, hu, heq⟩ := State.bankAt_copyBank_of_mem (s := s) hl hc (Ctr.upper_mem_places delta hw)
  have hcount : u.count c = s.count c := by simp only [State.count, hu]
  rw [heq, ← hcount]
  simp [State.copyOne, hw]

theorem ponPlaces_nodup (n : Fin 4) :
    ((ponCtrs n.val ++ tcCtrs n.val ++ usCtrs n.val).flatMap (Ctr.places 0)).Nodup := by
  revert n; decide

theorem ponPlaces_interval_nodup (n : Fin 4) : ((ponCtrs n.val).flatMap (Ctr.places 0x80)).Nodup ∧
    ((tcCtrs n.val ++ usCtrs n.val).flatMap (Ctr.places 0x40)).Nodup := by
  revert n; decide

/-- The interval banks of a channel lie apart from each other and from its demand bank. -/
theorem ponPlaces_disjoint (n : Fin 4) : ∀ x ∈ ponCtrs n.val,
    x.off + 0x80 ∉ (tcCtrs n.val ++ usCtrs n.val).flatMap (Ctr.places 0x40) ∧
    x.off ∉ (tcCtrs n.val ++ usCtrs n.val).flatMap (Ctr.places 0x40) ∧
    x.off ∉ (ponCtrs n.val).flatMap (Ctr.places 0x80) := by
  revert n; decide

theorem State.ponCopy_demand (s : State) (n : Nat) :
    s.ponCopy n false = s.copyBank 0 (ponCtrs n ++ tcCtrs n ++ usCtrs n) := by
  simp [State.ponCopy, State.copyBank_append]

theorem State.ponCopy_interval (s : State) (n : Nat) :
    s.ponCopy n true = (s.copyBank 0x80 (ponCtrs n)).copyBank 0x40 (tcCtrs n ++ usCtrs n) := by
  simp [State.ponCopy, State.copyBank_append]

/-! Codewords. -/

/-- A codeword counts (R88): FEC_CW is a traffic counter. -/
theorem State.fecCw_touches (s : State) (n : Nat) :
    Touches ⟨[.cnt], [], [C.PON_FEC_CW n]⟩ s (s.bump (C.PON_FEC_CW n)) := s.bumpBy_touches_of_wide 1 rfl

/-- The limits of correction are register fields. -/
theorem State.cwBad_fecCw (s : State) (n : Nat) (found : Option Nat) :
    (s.bump (C.PON_FEC_CW n)).cwBad n found = s.cwBad n found := by
  have hfld : ∀ f, (s.bump (C.PON_FEC_CW n)).fld f = s.fld f := fun f => (s.fecCw_touches n).fld f (by simp)
  cases found with
  | none => rfl
  | some k => unfold State.cwBad State.ponMode State.maxIter; simp only [hfld]

theorem State.cwBad_some {n k : Nat} (h : if s.ponMode n = 0 then s.maxIter n < k else 8 < k) :
    s.cwBad n (some k) = true := by
  unfold State.cwBad
  split at h <;> simp_all

theorem State.cwGood_some {n k : Nat} (h : if s.ponMode n = 0 then k ≤ s.maxIter n else k ≤ 8) :
    s.cwBad n (some k) = false := by
  unfold State.cwBad
  split at h <;> simp_all

/-- An uncorrectable codeword (R85, R88). -/
theorem execFecCodeword_bad (c : Fin 4) (found : Option Nat) (ch : Nat) (hs : s.inSync c.val = true)
    (hbad : s.cwBad c.val found = true) (hlt : s.count (C.PON_FEC_UNCORR_CW c.val) < 0xFFFFFFFE) :
    Completes (.fecCodeword c found ch) s fun t =>
      t.count (C.PON_FEC_CW c.val) = (s.count (C.PON_FEC_CW c.val) + 1) % 2 ^ 64 ∧
      t.count (C.PON_FEC_UNCORR_CW c.val) = s.count (C.PON_FEC_UNCORR_CW c.val) + 1 ∧
      t.ch c.val = { s.ch c.val with badInSecond := true } ∧ (∀ m < 4, m ≠ c.val → t.ch m = s.ch m) ∧
      OnlyChanges [.pon, .cnt] s t := by
  have hcw := s.fecCw_touches c.val
  have hun : (s.bump (C.PON_FEC_CW c.val)).count (C.PON_FEC_UNCORR_CW c.val) = s.count (C.PON_FEC_UNCORR_CW c.val) :=
    hcw.ctrs _ (by simp)
  have hlt' : (s.bump (C.PON_FEC_CW c.val)).count (C.PON_FEC_UNCORR_CW c.val) < 0xFFFFFFFE := by omega
  have h2 := State.bump_touches_of_lt _ hlt'
  set u := (s.bump (C.PON_FEC_CW c.val)).bump (C.PON_FEC_UNCORR_CW c.val) with hu
  have hch : ∀ m, u.ch m = s.ch m := fun m => (h2.ch (by simp) m).trans (hcw.ch (by simp) m)
  refine ⟨u.setCh c.val { u.ch c.val with badInSecond := true }, ?_, ?_, ?_, ?_, ?_, ?_⟩
  · rw [exec_fecCodeword, execFecCodeword]
    have hbad' := (s.cwBad_fecCw c.val found).trans hbad
    simp only [hs, hbad', if_true, ← hu]
  · show u.count _ = _
    rw [h2.ctrs _ (by simp)]
    exact s.count_bumpBy_of_wide 1 rfl
  · show u.count _ = _
    rw [← hun]
    exact State.count_bump_of_lt _ rfl hlt'
  · simp [hch]
  · intro m _ hm
    simp [hm, hch]
  · exact ((((Touches.refl ⟨[.pon, .cnt], [], [C.PON_FEC_CW c.val, C.PON_FEC_UNCORR_CW c.val]⟩ s).next hcw
      ⟨by simp, by simp, by simp⟩).next h2 ⟨by simp, by simp, by simp⟩).part (u.setCh_touches ..)).parts

/-- A corrected codeword (R87, R88). -/
theorem execFecCodeword_corrected (c : Fin 4) (k ch : Nat) (hs : s.inSync c.val = true)
    (hgood : s.cwBad c.val (some k) = false) (hch : 0 < ch) (hlt : s.count (C.PON_FEC_CORR_CW c.val) < 0xFFFFFFFE)
    (hlt' : s.count (C.PON_FEC_CORR_BYTES c.val) + ch < 0xFFFFFFFF) :
    Completes (.fecCodeword c (some k) ch) s fun t =>
      t.count (C.PON_FEC_CW c.val) = (s.count (C.PON_FEC_CW c.val) + 1) % 2 ^ 64 ∧
      t.count (C.PON_FEC_CORR_CW c.val) = s.count (C.PON_FEC_CORR_CW c.val) + 1 ∧
      t.count (C.PON_FEC_CORR_BYTES c.val) = s.count (C.PON_FEC_CORR_BYTES c.val) + ch ∧
      t.count (C.PON_FEC_UNCORR_CW c.val) = s.count (C.PON_FEC_UNCORR_CW c.val) ∧ OnlyChanges [.cnt] s t := by
  have hcw := s.fecCw_touches c.val
  set u := s.bump (C.PON_FEC_CW c.val) with hu
  have hcorr : u.count (C.PON_FEC_CORR_CW c.val) = s.count (C.PON_FEC_CORR_CW c.val) := hcw.ctrs _ (by simp)
  have h2 := u.bump_touches_of_lt (hcorr.symm ▸ hlt)
  set v := u.bump (C.PON_FEC_CORR_CW c.val) with hv
  have hbytes : v.count (C.PON_FEC_CORR_BYTES c.val) = s.count (C.PON_FEC_CORR_BYTES c.val) :=
    (h2.ctrs _ (by simp)).trans (hcw.ctrs _ (by simp))
  have h3 := v.bumpBy_touches_of_lt ch (hbytes.symm ▸ hlt')
  refine ⟨v.bumpBy (C.PON_FEC_CORR_BYTES c.val) ch, ?_, ?_, ?_, ?_, ?_,
    (hcw.parts.trans h2.parts).trans h3.parts⟩
  · have hne : ch ≠ 0 := by omega
    have hgood' : u.cwBad c.val (some k) = false := (s.cwBad_fecCw c.val _).trans hgood
    simp only [exec_fecCodeword, execFecCodeword, hs, ← hu, hgood', hne, ← hv, if_true, if_false, Bool.false_eq_true]
  · rw [h3.ctrs _ (by simp), h2.ctrs _ (by simp)]
    exact s.count_bumpBy_of_wide 1 rfl
  · rw [h3.ctrs _ (by simp), ← hcorr]
    exact u.count_bump_of_lt rfl (hcorr.symm ▸ hlt)
  · rw [← hbytes]
    exact v.count_bumpBy_of_lt ch rfl (hbytes.symm ▸ hlt')
  · rw [h3.ctrs _ (by simp), h2.ctrs _ (by simp), hcw.ctrs _ (by simp)]

/-- Settles O16: counts by the counters' reach, copies by the disjoint places of a channel's banks. -/
theorem fecAndStatisticsCount : Obligations.FecAndStatisticsCount := by
  refine ⟨fun s c ch hs hlt => execFecCodeword_bad c none ch hs rfl hlt,
    fun s c k ch hs hbad hlt => execFecCodeword_bad c _ ch hs (State.cwBad_some hbad) hlt,
    fun s c k ch hs hgood hch hlt hlt' =>
      execFecCodeword_corrected c k ch hs (State.cwGood_some hgood) hch hlt hlt',
    fun s c k hs hgood => ?_, fun s c found ch hs => ?_, fun s c ht hbad hlt => ?_, fun s c h => ?_, fun s c => ?_,
    fun s c hp ht => ?_, fun s c h => ?_⟩
  · have hgood' := (s.cwBad_fecCw c.val _).trans (State.cwGood_some hgood)
    simp only [exec_fecCodeword, execFecCodeword, hs, hgood', if_true, if_false, Bool.false_eq_true]
  · simp only [exec_fecCodeword, execFecCodeword, hs, if_false, Bool.false_eq_true]
  · have hes := State.bump_touches_of_lt (s.setCh c.val { s.ch c.val with badInSecond := false })
      (c := C.PON_FEC_ES c.val) hlt
    exact ⟨_, if_pos ⟨ht, hbad⟩, State.count_bump_of_lt _ rfl hlt, hes.after_setCh⟩
  · rw [exec_fecEsInterval]
    refine if_neg ?_
    rintro ⟨ht, hbad⟩
    simp [ht, hbad] at h
  · refine ⟨_, rfl, ?_, ?_, ?_⟩
    · rw [State.ponCopy_demand]
      exact fun x hx => State.bankAt_copyBank_low (ponPlaces_nodup c) hx
    · rw [State.ponCopy_demand]
      intro x hx hw
      have hhigh := State.bankAt_copyBank_high (s := s) (ponPlaces_nodup c) hx hw
      rw [Nat.add_zero] at hhigh
      rw [hhigh]
      omega
    · rw [State.ponCopy_demand]
      exact (s.copyBank_touches ..).parts
  · obtain ⟨hpon, htc⟩ := ponPlaces_interval_nodup c
    have hdis := ponPlaces_disjoint c
    refine ⟨_, if_pos ⟨hp, ht⟩, ?_⟩
    rw [State.ponCopy_interval]
    refine ⟨fun x hx => ?_, fun x hx => ?_, fun x hx => ?_, ?_⟩
    · obtain ⟨hx', -, -⟩ := hdis x hx
      rw [State.bankAt_copyBank_of_notMem _ _ hx', State.bankAt_copyBank_low hpon hx]
    · rw [State.bankAt_copyBank_low htc hx]
      simp only [State.count, State.copyBank_cnt]
    · obtain ⟨-, htc', hpon'⟩ := hdis x hx
      rw [State.bankAt_copyBank_of_notMem _ _ htc', State.bankAt_copyBank_of_notMem _ _ hpon']
    · exact ((s.copyBank_touches ..).trans (State.copyBank_touches ..)).parts
  · rw [exec_ponStatIntervalCopy]
    refine if_neg ?_
    rintro ⟨hp, ht⟩
    exact h.elim hp (fun h => h ht)

end Sys2Proof.Machine
end

section
/-! The receiver of a channel (R64 to R67, R70, R71, R95, R96, R136), and O13. -/

namespace Sys2Proof.Machine

variable {s : State} {n : Nat}

/-! The ENABLE bit. -/

theorem State.fld_setFld_enable (s : State) (n v : Nat) :
    (s.setFld (F.PON_RX_CFG_ENABLE n) v).fld (F.PON_RX_CFG_ENABLE n) = v % 2 := by
  simp only [State.fld, State.setFld, State.rd_wr, if_true, BitVec.toNat_ofNat, bitsOf, putBits, Nat.shiftRight_zero]
  omega

theorem State.ponMode_setFld_enable (s : State) (n v : Nat) :
    (s.setFld (F.PON_RX_CFG_ENABLE n) v).ponMode n = s.ponMode n := by
  simp only [State.ponMode, State.fld, State.setFld, State.rd_wr, if_true, BitVec.toNat_ofNat, bitsOf, putBits,
    Nat.shiftRight_eq_div_pow]
  omega

theorem State.setEnable_touches (s : State) (n v : Nat) :
    Touches ⟨[.regs], [(R.PON_RX_CFG, n)], []⟩ s (s.setFld (F.PON_RX_CFG_ENABLE n) v) :=
  s.setFld_touches _ _ _ rfl

theorem State.ch_setEnable (s : State) (n v m : Nat) : (s.setFld (F.PON_RX_CFG_ENABLE n) v).ch m = s.ch m :=
  (s.setEnable_touches n v).ch (by simp) m

theorem State.ch_laneEval (s : State) {l : Nat} (hl : 40 ≤ l) (m : Nat) : (s.laneEval l).ch m = s.ch m :=
  (s.laneEval_touches hl).ch (by simp) m

/-- The channel's receiver as ENABLE rises (R64, R70). -/
def PonCh.enabled (taps : List Int) (falses : Nat) (c : PonCh) : PonCh :=
  { c with
    taps := taps, acquiring := true, sync := .hunt, los := true, cdr := false, rxDown := false
    txPowered := c.act != .o7, txDis := c.act == .o7, candFalseAt := falses }

/-- The states that ENABLE's rise passes through: the last sets the channel. -/
theorem State.rxEnable_cases (h : s.flag (F.PON_RX_CFG_ENABLE n) = false) :
    ∃ u : State, Touches ⟨[.regs, .pon, .lanes, .out], [(R.PON_RX_CFG, n)], []⟩ s u ∧
      u.fld (F.PON_RX_CFG_ENABLE n) = 1 ∧ (∀ m, m ≠ n → u.ch m = s.ch m) ∧
      s.rxEnable n = u.setCh n ((s.ch n).enabled (initTaps (s.ponMode n)) (s.count (C.PON_CAND_FALSE n))) := by
  unfold State.rxEnable
  rw [if_neg (by simp [h])]
  extract_lets v c w
  set e := s.setFld (F.PON_RX_CFG_ENABLE n) 1
  have hreset := e.setCh_touches n { e.ch n with taps := initTaps (e.ponMode n), acquiring := true }
  have hlane : Touches ⟨[.lanes], [], []⟩ (e.eqReset n) v := State.laneEval_touches _ (Nat.le_add_right 40 n)
  have hw : Touches ⟨[.out], [], []⟩ v w := .ite (fun _ => v.emit_touches _) (fun _ => .refl _ v)
  have hch : ∀ m, v.ch m = if m = n then { s.ch n with taps := initTaps (s.ponMode n), acquiring := true }
      else s.ch m := fun m => by
    rw [hlane.ch (by simp), State.eqReset, State.ch_setCh, State.ch_setEnable, State.ch_setEnable,
      State.ponMode_setFld_enable]
  refine ⟨w, ?_, ?_, fun m hm => ?_, ?_⟩
  · exact ((((s.setEnable_touches n 1).mono ⟨by simp, by simp, by simp⟩).part hreset).part hlane).part hw
  · rw [hw.fld _ (by simp), hlane.fld _ (by simp)]
    exact (hreset.fld _ (by simp)).trans (s.fld_setFld_enable n 1)
  · rw [hw.ch (by simp), hch, if_neg hm]
  · have hcount : w.count (C.PON_CAND_FALSE n) = s.count (C.PON_CAND_FALSE n) := by
      rw [hw.ctrs _ (by simp), hlane.ctrs _ (by simp)]
      exact (hreset.ctrs _ (by simp)).trans ((s.setEnable_touches n 1).ctrs _ (by simp))
    have hc : c = { s.ch n with taps := initTaps (s.ponMode n), acquiring := true } := by
      simp only [c, hch, if_true]
    rw [hcount, hc]
    rfl

/-! ENABLE cleared. -/

theorem RegsKeptIn.trans {fams : List (Nat → Nat)} {s t u : State} (h : RegsKeptIn fams s t) (h' : RegsKeptIn fams t u) :
    RegsKeptIn fams s u := fun o ho => (h' o ho).trans (h o ho)

/-- From s to t the channels but n keep all but the status frames that wait at them. -/
structure KeepsOthers (n : Nat) (s t : State) : Prop where
  ch : ∀ m, m ≠ n → (t.ch m).sansStatus = (s.ch m).sansStatus

variable {t u : State}

theorem KeepsOthers.refl (n : Nat) (s : State) : KeepsOthers n s s := ⟨fun _ _ => rfl⟩

theorem KeepsOthers.trans (h : KeepsOthers n s t) (h' : KeepsOthers n t u) : KeepsOthers n s u :=
  ⟨fun m hm => (h'.ch m hm).trans (h.ch m hm)⟩

theorem ChangesChannel.others {f : PonCh → PonCh} (h : ChangesChannel n f s t) : KeepsOthers n s t :=
  ⟨fun _ hm => h.other hm⟩

/-- What a channel's receiver is in while disabled. -/
structure PonCh.Stopped (c : PonCh) : Prop where
  sync : c.sync = .off
  los : c.los = true
  cdr : c.cdr = false

/-- What of a channel does not speak of its status frames. -/
theorem PonCh.congr_of_sansStatus {α : Type} {c d : PonCh} (h : c.sansStatus = d.sansStatus) (g : PonCh → α)
    (hg : ∀ c : PonCh, g c.sansStatus = g c := by exact fun _ => rfl) : g c = g d := by
  rw [← hg c, h, hg d]

theorem PonCh.Stopped.of_sansStatus {c d : PonCh} (h : d.sansStatus = c.sansStatus) (hc : c.Stopped) : d.Stopped :=
  ⟨(congr_of_sansStatus h PonCh.sync).trans hc.sync, (congr_of_sansStatus h PonCh.los).trans hc.los,
    (congr_of_sansStatus h PonCh.cdr).trans hc.cdr⟩

/-- The discard of the identity and O1.1, unless the channel is in O7 (R104). -/
theorem State.stopAct_changes (s : State) (n : Nat) :
    ChangesChannel n (fun c => { c.sansIdentity with act := .o11 }) s ((s.dropIdentity n).setAct n .o11) :=
  (s.dropIdentity_changes n).trans (State.setAct_changes _ _ _) fun _ => rfl

theorem State.stopAct_ch (s : State) (n : Nat) :
    ((s.ch n).Stopped → (((s.dropIdentity n).setAct n .o11).ch n).Stopped) ∧
      (((s.dropIdentity n).setAct n .o11).ch n).lull = (s.ch n).lull ∧
      (((s.dropIdentity n).setAct n .o11).ch n).act = .o11 := by
  have hself := (s.stopAct_changes n).self
  generalize s.ch n = c at hself ⊢
  exact ⟨fun h => .of_sansStatus hself ⟨h.sync, h.los, h.cdr⟩, PonCh.congr_of_sansStatus hself PonCh.lull,
    PonCh.congr_of_sansStatus hself PonCh.act⟩

theorem State.stopAct_touches (s : State) (n : Nat) :
    Touches (syncLossReach n) s ((s.dropIdentity n).setAct n .o11) :=
  ((s.dropIdentity_touches n).mono (identityReach_within_syncLossReach n)).next (State.setAct_touches ..)
    (reevalReach_within_syncLossReach n)

/-- A channel with its receiver off leaves LULL with cause 1 (log 11). -/
def State.leaveLull (s : State) (n : Nat) : State :=
  if (s.ch n).lull = .awake then s
  else (s.setLull n .awake 1).setCh n { (s.setLull n .awake 1).ch n with sleepDue := false }

theorem State.leaveLull_touches (s : State) (n : Nat) : Touches ⟨[.pon, .arb], [], []⟩ s (s.leaveLull n) :=
  .ite (fun _ => .refl _ s) (fun _ => (s.setLull_touches ..).part (State.setCh_touches ..))

theorem State.leaveLull_others (s : State) (n : Nat) : KeepsOthers n s (s.leaveLull n) := by
  unfold State.leaveLull
  split
  · exact .refl n s
  · exact (s.setLull_changes n .awake 1).others.trans
      ((s.setLull n .awake 1).setCh_changes n fun c => { c with sleepDue := false }).others

theorem State.leaveLull_ch (s : State) (n : Nat) :
    ((s.leaveLull n).ch n).lull = .awake ∧ ((s.leaveLull n).ch n).act = (s.ch n).act ∧
      ((s.ch n).Stopped → ((s.leaveLull n).ch n).Stopped) := by
  unfold State.leaveLull
  split
  · exact ⟨‹_›, rfl, id⟩
  · have hself := (s.setLull_changes n .awake 1).self
    rw [State.ch_setCh, if_pos rfl]
    exact ⟨PonCh.congr_of_sansStatus hself PonCh.lull, PonCh.congr_of_sansStatus hself PonCh.act,
      fun h => ⟨(PonCh.congr_of_sansStatus hself PonCh.sync).trans h.sync,
        (PonCh.congr_of_sansStatus hself PonCh.los).trans h.los,
        (PonCh.congr_of_sansStatus hself PonCh.cdr).trans h.cdr⟩⟩

/-- A channel whose receiver is off loses sync, unless it stands in OFF already. -/
def State.stopSync (s : State) (n : Nat) (mid : Bool) : State :=
  if (s.ch n).sync == .off then s else s.loseSync n .off 2 mid

theorem State.stopSync_touches (s : State) (n : Nat) (mid : Bool) : Touches (syncLossReach n) s (s.stopSync n mid) :=
  .ite (fun _ => .refl _ s) (fun _ => s.loseSync_touches ..)

theorem State.stopSync_others (s : State) (n : Nat) (mid : Bool) : KeepsOthers n s (s.stopSync n mid) := by
  unfold State.stopSync
  split
  · exact .refl n s
  · exact (s.loseSync_changes n .off 2 mid).others

theorem State.stopSync_ch (s : State) (n : Nat) (mid : Bool) (hlos : (s.ch n).los = true)
    (hcdr : (s.ch n).cdr = false) :
    ((s.stopSync n mid).ch n).Stopped ∧ (((s.stopSync n mid).ch n).act = .o7 ↔ (s.ch n).act = .o7) := by
  unfold State.stopSync
  split
  · next h => exact ⟨⟨by simpa using h, hlos, hcdr⟩, Iff.rfl⟩
  · have hself := (s.loseSync_changes n .off 2 mid).self
    set d := (s.ch n).unsynced .off (s.count (C.PON_CAND_FALSE n))
    have hd := d.afterLoss_sameReceiver
    refine ⟨.of_sansStatus hself ⟨hd.sync, hd.los.trans hlos, hd.cdr.trans hcdr⟩, ?_⟩
    have hact : ((s.loseSync n .off 2 mid).ch n).act = d.afterLoss.act := PonCh.congr_of_sansStatus hself PonCh.act
    have hdact : d.act = (s.ch n).act := rfl
    rw [hact, d.afterLoss_act, hdact]
    cases (s.ch n).act <;> simp

/-- The state in which ENABLE is clear and the receiver's own state follows (R64). -/
def State.stopReceiver (s : State) (n : Nat) : State :=
  let s := (s.setFld (F.PON_RX_CFG_ENABLE n) 0).laneEval (40 + n)
  s.setCh n { s.ch n with los := true, cdr := false, rxDown := false, txPowered := false, txWaking := false }

theorem State.rxDisable_eq (h : s.flag (F.PON_RX_CFG_ENABLE n) = true) (mid : Bool) :
    s.rxDisable n mid =
      let u := ((s.stopReceiver n).stopSync n mid).leaveLull n
      if (u.ch n).act = .o7 then u else (u.dropIdentity n).setAct n .o11 := by
  simp [State.rxDisable, h, State.stopReceiver, State.stopSync, State.leaveLull]

theorem State.stopReceiver_touches (s : State) (n : Nat) :
    Touches ⟨[.regs, .pon, .lanes], [(R.PON_RX_CFG, n)], []⟩ s (s.stopReceiver n) :=
  (((s.setEnable_touches n 0).mono ⟨by simp, by simp, by simp⟩).part
    (State.laneEval_touches _ (Nat.le_add_right 40 n))).part (State.setCh_touches ..)

theorem State.fld_stopReceiver (s : State) (n : Nat) : (s.stopReceiver n).fld (F.PON_RX_CFG_ENABLE n) = 0 := by
  rw [State.stopReceiver, (State.setCh_touches ..).fld _ (by simp),
    (State.laneEval_touches _ (Nat.le_add_right 40 n)).fld _ (by simp)]
  exact s.fld_setFld_enable n 0

theorem State.ch_stopReceiver (s : State) (n m : Nat) : (s.stopReceiver n).ch m = if m = n then
    { s.ch n with los := true, cdr := false, rxDown := false, txPowered := false, txWaking := false } else s.ch m := by
  simp only [State.stopReceiver, State.ch_setCh, State.ch_laneEval _ (Nat.le_add_right 40 n), State.ch_setEnable]

theorem State.stopReceiver_ch (s : State) (n : Nat) : ((s.stopReceiver n).ch n).los = true ∧
    ((s.stopReceiver n).ch n).cdr = false ∧ ((s.stopReceiver n).ch n).act = (s.ch n).act := by
  rw [s.ch_stopReceiver, if_pos rfl]
  exact ⟨rfl, rfl, rfl⟩

/-- A disabled channel: OFF, awake and, outside O7, in O1.1. -/
theorem State.rxDisable_ch (h : s.flag (F.PON_RX_CFG_ENABLE n) = true) (mid : Bool) :
    ((s.rxDisable n mid).ch n).Stopped ∧ ((s.rxDisable n mid).ch n).lull = .awake ∧
      ((s.rxDisable n mid).ch n).act = (if (s.ch n).act = .o7 then .o7 else .o11) := by
  obtain ⟨hlos, hcdr, hact₀⟩ := s.stopReceiver_ch n
  obtain ⟨hstop, hact⟩ := (s.stopReceiver n).stopSync_ch n mid hlos hcdr
  obtain ⟨hlull, hact', hstop'⟩ := ((s.stopReceiver n).stopSync n mid).leaveLull_ch n
  rw [State.rxDisable_eq h]
  set u := ((s.stopReceiver n).stopSync n mid).leaveLull n
  have hu : (u.ch n).act = .o7 ↔ (s.ch n).act = .o7 := by rw [hact', hact, hact₀]
  dsimp only
  split
  · next ho7 => exact ⟨hstop' hstop, hlull, by rw [if_pos (hu.mp ho7), ho7]⟩
  · next ho7 =>
    obtain ⟨hstop₂, hlull₂, hact₂⟩ := u.stopAct_ch n
    exact ⟨hstop₂ (hstop' hstop), hlull₂.trans hlull, by rw [if_neg (mt hu.mpr ho7), hact₂]⟩

theorem State.rxDisable_others (h : s.flag (F.PON_RX_CFG_ENABLE n) = true) (mid : Bool) :
    KeepsOthers n s (s.rxDisable n mid) := by
  have hr : KeepsOthers n s (s.stopReceiver n) :=
    ⟨fun m hm => by rw [s.ch_stopReceiver, if_neg hm]⟩
  have hu := (hr.trans (State.stopSync_others _ n mid)).trans (State.leaveLull_others _ n)
  rw [State.rxDisable_eq h]
  dsimp only
  split
  · exact hu
  · exact hu.trans (State.stopAct_changes _ n).others

/-- What follows the receiver's own stop: no write of PON_RX_CFG. -/
theorem State.rxDisable_cases (h : s.flag (F.PON_RX_CFG_ENABLE n) = true) (mid : Bool) :
    Touches (syncLossReach n) (s.stopReceiver n) (s.rxDisable n mid) := by
  have hu := ((s.stopReceiver n).stopSync_touches n mid).part (State.leaveLull_touches _ n)
  rw [State.rxDisable_eq h]
  dsimp only
  split
  · exact hu
  · exact hu.trans (State.stopAct_touches _ n)

/-- No register of a loss of sync is a PON_RX_CFG. -/
theorem rxCfg_notMem_syncLossReach (hn : n < 4) : ∀ r ∈ (syncLossReach n).regs, r.1 r.2 ≠ R.PON_RX_CFG n := by
  simp [R.PON_RX_CFG, R.PON_STAT_SAT, R.PON_TC_SAT, R.BUF_SAT, R.SCH_SAT, R.BOND_SAT]
  exact ⟨by omega, by omega, fun g hg => by omega⟩

/-! LOS. -/

/-- The counters of the bonding layer and the queues lie beyond those of the channels. -/
theorem reevalReach_ctrs_beyond : ∀ d ∈ reevalReach.ctrs, 0x00600000 ≤ d.off := by decide

theorem los_notMem_syncLossReach (hn : n < 4) : ∀ d ∈ (syncLossReach n).ctrs, d.off ≠ (C.PON_LOS n).off := by
  intro d hd
  rcases List.mem_append.mp hd with h | h
  · obtain rfl | rfl | rfl := by simpa using h
    all_goals simp
  · have hbeyond := reevalReach_ctrs_beyond d h
    show d.off ≠ 0x00400124 + n * 0x10000
    omega

/-- The signal of a channel is lost (R66, R96): its own part, before what a loss of sync brings. -/
def State.losSignal (s : State) (n peak : Nat) (cycles : List EqCycle) : State :=
  let s := s.eqRun n cycles
  ((s.setCh n { s.ch n with los := true, cdr := false }).bump (C.PON_LOS n)).ponEvent n 2 3 2 [(1, peak)]

theorem State.losSignal_cases (s : State) (n peak : Nat) (cycles : List EqCycle)
    (hlt : s.count (C.PON_LOS n) < 0xFFFFFFFE) :
    Touches ⟨[.cnt, .pon, .arb], [], [C.PON_LOS n]⟩ s (s.losSignal n peak cycles) ∧
      (s.losSignal n peak cycles).count (C.PON_LOS n) = s.count (C.PON_LOS n) + 1 ∧
      ∀ m, (s.losSignal n peak cycles).ch m =
        if m = n then { s.ch n with taps := s.adapted n cycles, los := true, cdr := false } else s.ch m := by
  unfold State.losSignal
  extract_lets u
  set v := u.setCh n { u.ch n with los := true, cdr := false } with hv
  have huv : Touches ⟨[.cnt, .pon, .arb], [], [C.PON_LOS n]⟩ s v :=
    ((s.eqRun_touches n cycles).mono ⟨by simp, by simp, by simp⟩).part (State.setCh_touches ..)
  have hcount : v.count (C.PON_LOS n) = s.count (C.PON_LOS n) := ((s.eqRun_touches n cycles).trans
    (u.setCh_touches n _)).ctrs _ (by simp)
  have hbump := v.bump_touches_of_lt (hcount.symm ▸ hlt)
  refine ⟨(huv.next hbump ⟨by simp, by simp, by simp⟩).part (State.ponEvent_touches ..), ?_, fun m => ?_⟩
  · rw [(State.ponEvent_touches ..).ctrs _ (by simp), ← hcount]
    exact v.count_bump_of_lt rfl (hcount.symm ▸ hlt)
  · rw [(State.ponEvent_touches ..).ch (by simp), hbump.ch (by simp), hv, State.ch_setCh, s.ch_eqRun, s.ch_eqRun,
      if_pos rfl]
    split <;> rfl

/-- What follows the loss of a channel's signal: a loss of sync in the Sync state, else HUNT without candidates (R75). -/
def State.losSync (s : State) (n : Nat) (was mid : Bool) : State :=
  if was then s.loseSync n .hunt 1 mid else s.setCh n { s.ch n with sync := .hunt, cands := [] }

theorem State.losSync_touches (s : State) (n : Nat) (was mid : Bool) :
    Touches (syncLossReach n) s (s.losSync n was mid) :=
  .ite (fun _ => s.loseSync_touches ..) (fun _ => (Touches.refl _ s).part (s.setCh_touches ..))

theorem State.losSync_others (s : State) (n : Nat) (was mid : Bool) : KeepsOthers n s (s.losSync n was mid) := by
  unfold State.losSync
  split
  · exact (s.loseSync_changes n .hunt 1 mid).others
  · exact (s.setCh_changes n fun c => { c with sync := .hunt, cands := [] }).others

theorem State.losSync_ch (s : State) (n : Nat) (was mid : Bool) :
    ((s.losSync n was mid).ch n).los = (s.ch n).los ∧ ((s.losSync n was mid).ch n).cdr = (s.ch n).cdr ∧
      ((s.losSync n was mid).ch n).sync = .hunt ∧ ((s.losSync n was mid).ch n).cands = [] := by
  unfold State.losSync
  split
  · have hself := (s.loseSync_changes n .hunt 1 mid).self
    have hd := ((s.ch n).unsynced .hunt (s.count (C.PON_CAND_FALSE n))).afterLoss_sameReceiver
    exact ⟨(PonCh.congr_of_sansStatus hself PonCh.los).trans hd.los,
      (PonCh.congr_of_sansStatus hself PonCh.cdr).trans hd.cdr,
      (PonCh.congr_of_sansStatus hself PonCh.sync).trans hd.sync,
      (PonCh.congr_of_sansStatus hself PonCh.cands).trans hd.cands⟩
  · simp

theorem execLosAssert_lost (c : Fin 4) (peak : Byte) (mid : Bool) (cycles : List EqCycle) (hon : s.rxOn c.val = true)
    (hlos : (s.ch c.val).los = false) (hpeak : peak.toNat < s.fld (F.PON_FE_CFG_LOS_THR c.val)) :
    exec (.losAssert c peak mid cycles) s =
      .next ((s.losSignal c.val peak.toNat cycles).losSync c.val (s.inSync c.val) mid) := by
  simp only [exec_losAssert, execLosAssert, hon, hlos, hpeak, and_self, if_true, State.losSync]
  split <;> rfl

/-! A latched upper half. -/

/-- A read that latches: the answer and the latch of its function (R595, R596). -/
theorem State.latched (s : State) (f off hi lo : Nat) :
    (((s.setLatch f off hi).answer f lo).fn f).rdata = lo ∧
      sparseGet (fun _ => 0) (((s.setLatch f off hi).answer f lo).fn f).latches off = hi ∧
      OnlyChanges [.fns] s ((s.setLatch f off hi).answer f lo) :=
  ⟨by simp [State.answer, State.setLatch], by simp [State.answer, State.setLatch],
    fun x hx => by cases x with | fns => simp at hx | _ => rfl⟩

/-- COUNTER_LO_READ by what stands at the offset. -/
theorem execCounterLoRead_match : ∃ g : Fin 6 → Nat → State → Host.Outcome State Fault Refusal,
    execCounterLoRead = g ∧
    (∀ f off s c, ctrAt off = some c → c.wide = true → bit off 2 = false → g f off s =
      if s.seesCounter f.val c = true then
        .next ((s.setLatch f.val (off + 4) (s.bankAt (off + 4))).answer f.val (s.bankAt off))
      else .next (s.answer f.val 0)) ∧
    (∀ f off s, ctrAt off = none → g f off s =
      .next ((s.readReg f.val (off / 4 * 4)).1.answer f.val (s.readReg f.val (off / 4 * 4)).2)) := by
  refine ⟨_, by delta execCounterLoRead; rfl, fun f off s c h hw hlow => ?_, fun f off s h => ?_⟩
  · generalize ctrAt off = x at h ⊢
    subst h
    exact if_pos ⟨hw, hlow⟩
  · generalize ctrAt off = x at h ⊢
    subst h
    rfl

/-- Settles O13: each clause by what its operation makes of the channel and by its reach. -/
theorem receiverEnableLosAndLockMoveTheChannel : Obligations.ReceiverEnableLosAndLockMoveTheChannel := by
  obtain ⟨g, hg, hsome, hnone⟩ := execCounterLoRead_match
  refine ⟨fun s c hrec hen => ?_, fun s c h => ?_, fun s c mid hen => ?_, fun s c mid hen => ?_,
    fun s c peak mid cs hon hlos hpeak hlt => ?_, fun s c peak mid cs h => ?_, fun s c peak hon hlos hpeak => ?_,
    fun s c peak h => ?_, fun s c hon hlos => ?_, fun s c h => ?_, fun s c hlull hdown => ?_, fun s c h => ?_,
    fun s f c hf => ?_, fun s f c hf hf' => ?_, fun s f off c hctr hw hlow hsees => ?_,
    fun s f off c hctr hw hlow hsees => ?_, fun s f off hctr => ?_⟩
  · obtain ⟨u, hu, hfld, hothers, heq⟩ := s.rxEnable_cases hen
    have ht := hu.part (u.setCh_touches c.val
      ((s.ch c.val).enabled (initTaps (s.ponMode c.val)) (s.count (C.PON_CAND_FALSE c.val))))
    refine ⟨s.rxEnable c.val, ?_, ?_⟩
    · simp only [exec_ponRxEnable, execPonRxEnable, hrec, Bool.false_eq_true, if_false]
    · rw [heq]
      refine ⟨((u.setCh_touches c.val _).fld _ (by simp)).trans hfld, ?_⟩
      rw [State.ch_setCh, if_pos rfl]
      exact ⟨rfl, rfl, rfl, rfl, rfl, rfl, rfl, fun m _ hm => by rw [State.ch_setCh, if_neg hm, hothers m hm],
        ht.regsKeptIn (by simp), ht.onlyChanges (by simp)⟩
  · rcases h with h | h
    · simp only [exec_ponRxEnable, execPonRxEnable, h, if_true]
    · simp only [exec_ponRxEnable, execPonRxEnable, State.rxEnable, h, if_true, ite_self]
  · have hr := s.stopReceiver_touches c.val
    have ht := s.rxDisable_cases hen mid
    obtain ⟨hstop, hlull, hact⟩ := s.rxDisable_ch hen mid
    refine ⟨_, rfl, ?_, hstop.sync, hstop.los, hstop.cdr, hlull, hact, fun m _ hm => (s.rxDisable_others hen mid).ch m hm,
      ?_, ?_⟩
    · rw [ht.fld _ (rxCfg_notMem_syncLossReach c.isLt)]
      exact s.fld_stopReceiver c.val
    · exact RegsKeptIn.trans (hr.regsKeptIn (by simp)) (ht.regsKeptIn (by simp))
    · exact (hr.onlyChanges (by simp)).trans (ht.onlyChanges (by simp))
  · simp only [exec_ponRxDisable, execPonRxDisable, State.rxDisable, hen, Bool.false_eq_true, if_false]
  · obtain ⟨hsig, hcount, hch⟩ := s.losSignal_cases c.val peak.toNat cs hlt
    set u := s.losSignal c.val peak.toNat cs
    have ht := u.losSync_touches c.val (s.inSync c.val) mid
    obtain ⟨hlos', hcdr', hsync, hcands⟩ := u.losSync_ch c.val (s.inSync c.val) mid
    refine ⟨_, execLosAssert_lost c peak mid cs hon hlos hpeak, ?_, ?_, hsync, hcands, ?_, fun m _ hm => ?_, ?_, ?_⟩
    · rw [hlos', hch, if_pos rfl]
    · rw [hcdr', hch, if_pos rfl]
    · rw [ht.ctrs _ (los_notMem_syncLossReach c.isLt), hcount]
    · exact ((u.losSync_others c.val _ mid).ch m hm).trans (congrArg PonCh.sansStatus ((hch m).trans (if_neg hm)))
    · exact RegsKeptIn.trans (hsig.regsKeptIn (by simp)) (ht.regsKeptIn (by simp))
    · exact (hsig.onlyChanges (by simp)).trans (ht.onlyChanges (by simp))
  · rw [exec_losAssert]
    refine if_neg ?_
    rintro ⟨hon, hlos, hpeak⟩
    rcases h with h | h | h
    · simp [h] at hon
    · simp [h] at hlos
    · omega
  · exact ⟨_, if_pos ⟨hon, hlos, hpeak⟩, (State.ponEvent_touches ..).after_setCh⟩
  · rw [exec_losClear]
    refine if_neg ?_
    rintro ⟨hon, hlos, hpeak⟩
    rcases h with h | h | h
    · simp [h] at hon
    · simp [h] at hlos
    · omega
  · exact ⟨_, if_pos ⟨hon, hlos⟩, s.setCh_alone c.val _⟩
  · rw [exec_cdrLock]
    refine if_neg ?_
    rintro ⟨hon, hlos⟩
    simp [hon, hlos] at h
  · have hself := (s.rxPowerUp_changes hdown).self
    have ht := s.rxPowerUp_touches c.val
    exact ⟨_, if_pos hlull, PonCh.congr_of_sansStatus hself PonCh.sync, PonCh.congr_of_sansStatus hself PonCh.rxDown,
      PonCh.congr_of_sansStatus hself PonCh.acquiring, PonCh.congr_of_sansStatus hself PonCh.taps,
      fun m _ hm => (s.rxPowerUp_changes hdown).other hm, ht.regsKeptIn (by simp), ht.onlyChanges (by simp)⟩
  · rcases h with h | h
    · exact if_neg h
    · simp only [exec_watchfulRxWake, execWatchfulRxWake, State.rxPowerUp, h, Bool.false_eq_true, if_false, ite_self]
  · exact ⟨_, if_pos hf, s.latched f.val (R.PON_SFC_HI c.val) ((s.ch c.val).sfc / 2 ^ 32) ((s.ch c.val).sfc % 2 ^ 32)⟩
  · exact if_neg (not_or.mpr ⟨hf, hf'⟩)
  · refine ⟨_, ?_, s.latched f.val (off + 4) (s.bankAt (off + 4)) (s.bankAt off)⟩
    rw [exec_counterLoRead, hg, hsome f off s c hctr hw hlow, if_pos hsees]
  · rw [exec_counterLoRead, hg, hsome f off s c hctr hw hlow, if_neg (by simp [hsees])]
  · rw [exec_counterLoRead, hg]
    exact hnone f off s hctr

end Sys2Proof.Machine
end

section
/-! Frame starts and synchronisation (R36 to R42, R76 to R84, R472), and O15. -/

namespace Sys2Proof.Machine

variable {s : State} {n : Nat}

/-! A frame start at the tick generator. -/

theorem State.enterLocked_touches (s : State) (pos : Nat) : Touches ⟨[.tick, .arb], [], []⟩ s (s.enterLocked pos) :=
  ((Touches.refl _ s).part (s.setTick_touches _)).part (State.raiseRow_touches ..)

theorem State.acceptSample_touches (s : State) (pos sfc : Nat) (err : Int) :
    Touches ⟨[.tick, .arb], [], []⟩ s (s.acceptSample pos sfc err) := by
  unfold State.acceptSample
  extract_lets bw t near t' u v
  have hu : Touches ⟨[.tick, .arb], [], []⟩ s u := (Touches.refl _ s).part (s.setTick_touches _)
  have hlock : ∀ w pos, Touches ⟨[.tick, .arb], [], []⟩ s ((u.setTick w).enterLocked pos) := fun w pos =>
    (hu.part (u.setTick_touches w)).trans (State.enterLocked_touches ..)
  split
  · exact .ite (fun _ => hlock _ _) (fun _ => hu.part (u.setTick_touches _))
  · exact .ite (fun _ => hlock _ _) (fun _ => hu.part (u.setTick_touches _))
  · exact hu.part (u.setTick_touches _)

/-- A frame start beyond the error that its channel keeps. -/
theorem State.frameStart_cases (s : State) (n pos sfc : Nat) :
    Touches ⟨[.tick, .arb], [], []⟩ (s.setCh n { s.ch n with refErr := s.tick.phaseOf pos }) (s.frameStart n pos sfc) := by
  unfold State.frameStart
  extract_lets c t err u d x v
  have hv : Touches ⟨[.tick, .arb], [], []⟩ u v := (Touches.refl _ u).part (u.setTick_touches _)
  refine .ite (fun _ => .ite (fun _ => u.acceptSample_touches ..) fun _ => .ite (fun _ => ?_) fun _ => hv)
    fun _ => .refl _ u
  exact hv.trans (v.loseMaster_touches 1)

theorem State.frameMissing_touches (s : State) (n : Nat) : Touches ⟨[.tick], [], []⟩ s (s.frameMissing n) :=
  .ite (fun _ => s.setTick_touches _) (fun _ => .refl _ s)

/-! A capture. -/

/-- What a capture of a channel's frame touches. -/
@[simp] def captureReach (n : Nat) : Reach :=
  ⟨[.regs, .cnt, .arb, .time], [(R.TIME_PON_CFG, n), (R.TIME_PON_TARGET, n), (fun _ => R.TIME_SAT, 0)],
    [C.TIME_CAP_LOST]⟩

theorem State.captureAt_touches (s : State) (n kind source raw u : Nat) (tag : List Byte) :
    Touches (captureReach n) s (s.captureAt kind source raw u tag).1 := by
  unfold State.captureAt
  extract_lets t v w
  have hv : Touches (captureReach n) s v := (Touches.refl _ s).bump C.TIME_CAP_LOST (fun _ => R.TIME_SAT, 0) rfl
  split
  · exact (Touches.refl _ s).part (s.setTime_touches _)
  · split
    · exact hv
    · exact (hv.part (v.setTime_touches _)).part (State.raiseRow_touches ..)

theorem State.ponCapture_touches (s : State) (n raw sfc : Nat) :
    Touches (captureReach n) s (s.ponCapture n raw sfc) := by
  unfold State.ponCapture
  extract_lets u v
  have hv : Touches (captureReach n) s v :=
    ((Touches.refl _ s).part (s.setTime_touches _)).trans (u.captureAt_touches n _ _ _ _ _)
  refine .ite (fun _ => .ite (fun _ => ?_) fun _ => ?_) fun _ => .refl _ s
  · exact hv.next (v.setFld_touches _ _ (R.TIME_PON_TARGET, n) rfl) ⟨by simp, by simp, by simp⟩
  · exact hv.next (v.setFld_touches _ _ (R.TIME_PON_CFG, n) rfl) ⟨by simp, by simp, by simp⟩

/-- What an accepted frame start touches beyond its channel. -/
@[simp] def startReach (n : Nat) : Reach :=
  ⟨[.tick, .regs, .cnt, .arb, .time], (captureReach n).regs, (captureReach n).ctrs⟩

/-- An accepted frame start keeps of its channel all but the error (R36). -/
theorem State.acceptedStart_cases (s : State) (n : Nat) (p : PSync) (sfc : Nat) :
    Touches (startReach n) (s.setCh n { s.ch n with refErr := s.tick.phaseOf p.pos }) (s.acceptedStart n p sfc) :=
  ((s.frameStart_cases n p.pos sfc).mono ⟨by simp, by simp, by simp⟩).next (State.ponCapture_touches ..)
    ⟨by simp, by simp, by simp⟩

theorem State.ch_acceptedStart (s : State) (n : Nat) (p : PSync) (sfc m : Nat) : (s.acceptedStart n p sfc).ch m =
    if m = n then { s.ch n with refErr := s.tick.phaseOf p.pos } else s.ch m := by
  rw [(s.acceptedStart_cases n p sfc).ch (by simp), State.ch_setCh]

/-! A correct PSync. -/

/-- What the acceptance of a PSync touches beyond its channel. -/
@[simp] def psyncReach (n : Nat) : Reach :=
  ⟨(startReach n).parts, (R.PON_STAT_SAT, n) :: (startReach n).regs, C.PON_HDR_ERR n :: (startReach n).ctrs⟩

/-- The same with its channel. -/
@[simp] def trackReach (n : Nat) : Reach := ⟨.pon :: (psyncReach n).parts, (psyncReach n).regs, (psyncReach n).ctrs⟩

theorem psyncReach_within_trackReach (n : Nat) : (psyncReach n).Within (trackReach n) :=
  ⟨fun _ h => List.mem_cons_of_mem _ h, fun _ h => h, fun _ h => h⟩

theorem startReach_within_trackReach (n : Nat) : (startReach n).Within (trackReach n) :=
  ⟨fun _ h => List.mem_cons_of_mem _ h, fun _ h => List.mem_cons_of_mem _ h, fun _ h => List.mem_cons_of_mem _ h⟩

/-- A header error is counted, or not. -/
theorem Touches.headerError {t : State} (h : Touches (psyncReach n) s t) (c : Prop) [Decidable c] :
    Touches (psyncReach n) s (if c then t else t.bump (C.PON_HDR_ERR n)) :=
  .ite (fun _ => h) (fun _ => h.bump _ (R.PON_STAT_SAT, n) rfl)

/-- From s to t channel n takes the value c but for the error of a frame start, the others keep theirs. -/
structure StartsFrame (n : Nat) (c : PonCh) (s t : State) : Prop where
  self : ∃ e, t.ch n = { c with refErr := e }
  others : ∀ m, m ≠ n → t.ch m = s.ch m
  reach : Touches (trackReach n) s t

/-- An accepted frame start after a change of its channel. -/
theorem Touches.thenStart {u : State} {c : PonCh} (h : Touches (psyncReach n) (s.setCh n c) u) (p : PSync) (sfc : Nat) :
    StartsFrame n c s (u.acceptedStart n p sfc) := by
  refine ⟨⟨u.tick.phaseOf p.pos, ?_⟩, fun m hm => ?_, ?_⟩
  · rw [State.ch_acceptedStart, if_pos rfl, h.ch (by simp), State.ch_setCh, if_pos rfl]
  · rw [State.ch_acceptedStart, if_neg hm, h.ch (by simp), State.ch_setCh, if_neg hm]
  · have hu := ((Touches.refl (trackReach n) s).part (s.setCh_touches n c)).next h (psyncReach_within_trackReach n)
    exact (hu.part (u.setCh_touches ..)).next (u.acceptedStart_cases n p sfc) (startReach_within_trackReach n)

/-- The channel after a correct PSync in the Sync state (R82, R83). -/
def PonCh.tracked (p : PSync) (c : PonCh) : PonCh :=
  let sfc := if p.hecOk then p.sfc % 2 ^ 51 else (c.sfc + 1) % 2 ^ 51
  { c with
    sync := .sync, sfc := sfc, lastGood := sfc, missRun := 0, inFrames := min 255 (c.inFrames + 1)
    psbd := if p.ocOk then p.psbd else c.psbd }

theorem State.psyncGood_cases (s : State) (n : Nat) (p : PSync) :
    ∃ u sfc, Touches (psyncReach n) (s.setCh n ((s.ch n).tracked p)) u ∧ s.psyncGood n p = u.acceptedStart n p sfc := by
  unfold State.psyncGood
  extract_lets x want got sfc u v w y
  have hu : Touches (psyncReach n) u u := .refl _ u
  have hw : Touches (psyncReach n) u w :=
    .ite (fun _ => (hu.headerError _).part (State.ponEvent_touches ..)) (fun _ => hu.headerError _)
  exact ⟨y, sfc, hw.headerError _, rfl⟩

/-- The channel promoted from candidates (R76, R80, R83). -/
def PonCh.promoted (p : PSync) (c : PonCh) : PonCh :=
  { c with
    sync := .sync, cands := [], sfc := p.sfc % 2 ^ 51, lastGood := p.sfc % 2 ^ 51
    psbd := if p.ocOk then p.psbd else c.psbd, inFrames := 1, missRun := 0 }

theorem State.promote_cases (s : State) (n : Nat) (p : PSync) (us : Nat) :
    ∃ u sfc, Touches (psyncReach n) (s.setCh n ((s.ch n).promoted p)) u ∧
      s.promote n p us = (u.acceptedStart n p sfc).syncGained n := by
  unfold State.promote
  extract_lets x falses sfc u v w
  exact ⟨w, sfc, ((Touches.refl _ u).headerError _).part (State.ponEvent_touches ..), rfl⟩

/-! A missing PSync. -/

/-- What a missing PSync touches before a loss of sync. -/
@[simp] def missReach (n : Nat) : Reach :=
  ⟨[.pon, .tick, .regs, .cnt, .arb], [(R.PON_STAT_SAT, n)], [C.PON_PSYNC_MISS n]⟩

/-- The channel after a missing PSync, before a loss of sync (R82). -/
def PonCh.missed (c : PonCh) : PonCh :=
  { c with
    sync := .resync, sfc := (c.sfc + 1) % 2 ^ 51, missRun := c.missRun + 1, inFrames := min 255 (c.inFrames + 1) }

/-- From s to t channel n has missed a PSync, which is counted. -/
structure MissesPsync (n : Nat) (s t : State) : Prop where
  reach : Touches (missReach n) s t
  ch : ∀ m, t.ch m = if m = n then (s.ch n).missed else s.ch m
  count : t.count (C.PON_PSYNC_MISS n) = (s.bump (C.PON_PSYNC_MISS n)).count (C.PON_PSYNC_MISS n)

theorem State.psyncMissing_cases (s : State) (n : Nat) (mid : Bool) :
    ∃ u, MissesPsync n s u ∧ s.psyncMissing n mid =
        if s.lossCount n ≤ (s.ch n).missRun + 1 then u.loseSync n .hunt 0 mid else u := by
  unfold State.psyncMissing
  extract_lets x b f run c u v
  have hb : Touches (missReach n) s b := (Touches.refl _ s).bump _ (R.PON_STAT_SAT, n) rfl
  have hbf : Touches ⟨[.tick], [], []⟩ b f := b.frameMissing_touches n
  have hfu : Touches ⟨[.pon], [], []⟩ f u := f.setCh_touches ..
  have huv : Touches ⟨[.arb], [], []⟩ u v := .ite (fun _ => u.ponEvent_touches ..) (fun _ => .refl _ u)
  have hv : Touches (missReach n) s v := ((hb.part hbf).part hfu).part huv
  have hch : ∀ m, f.ch m = s.ch m := fun m => by
    rw [hbf.ch (by simp), State.ch_of_pon (State.bump_pon ..)]
  refine ⟨v, ⟨hv, fun m => ?_, ?_⟩, ?_⟩
  · rw [huv.ch (by simp), State.ch_setCh, hch]
    simp only [c, hch]
    rfl
  · rw [huv.ctrs _ (by simp), hfu.ctrs _ (by simp), hbf.ctrs _ (by simp)]
  · have hloss : v.lossCount n = s.lossCount n := by
      have hfld := hv.fld (F.PON_SYNC_CFG_LOSS n) (by simp)
      simp only [State.lossCount, hfld]
    rw [hloss]

/-! The commands. -/

theorem exec_candidateCheck_of_found {c : Fin 4} {pos us : Nat} {p : PSync} {k : Cand}
    (hsync : (s.ch c.val).sync = .presync)
    (hfind : (s.ch c.val).cands.find? (fun j => j.expected (s.ponMode c.val) == pos) = some k) :
    exec (.candidateCheck c pos p us) s =
      let rest := (s.ch c.val).cands.filter (fun j => j.pos != k.pos)
      let u := s.bump (C.PON_CAND_FALSE c.val)
      if s.nearLoop (40 + c.val) = true ∨ s.fld (F.PON_SYNC_CFG_HUNT_TOL c.val) < p.diff then
        .next (u.setCh c.val { u.ch c.val with cands := rest, sync := if rest.isEmpty then .hunt else .presync })
      else if p.hecOk = true ∧ (k.hecOk = false ∨ p.sfc % 2 ^ 51 = (k.sfc + 1) % 2 ^ 51) then
        if s.confirmCount c.val ≤ k.confirmed + 1 then .next (s.promote c.val p us)
        else .next (s.setCh c.val { s.ch c.val with cands := (s.ch c.val).cands.map fun j =>
          if j.pos = k.pos then ⟨pos, p.sfc % 2 ^ 51, true, k.confirmed + 1⟩ else j })
      else .next (s.setCh c.val { s.ch c.val with cands := (s.ch c.val).cands.map fun j =>
        if j.pos = k.pos then ⟨pos, p.sfc % 2 ^ 51, p.hecOk, 0⟩ else j }) := by
  rw [exec_candidateCheck, execCandidateCheck]
  dsimp only
  split
  · next j _ hj =>
    obtain rfl : k = j := Option.some.inj (hfind.symm.trans hj)
    rfl
  · next hne => exact absurd hfind (hne k hsync)

/-- A candidate's promotion (R80). -/
theorem State.promote_spec (s : State) (n : Nat) (p : PSync) (us : Nat) :
    (∃ e a, ((s.promote n p us).ch n).sansStatus = ({ (s.ch n).promoted p with refErr := e, act := a }).sansStatus) ∧
      KeepsOthers n s (s.promote n p us) ∧
      ∃ u, Touches (trackReach n) s u ∧ Touches reevalReach u (s.promote n p us) := by
  obtain ⟨v, sfc, hv, heq⟩ := s.promote_cases n p us
  obtain ⟨⟨e, he⟩, hothers, hreach⟩ := hv.thenStart p sfc
  obtain ⟨a, ha⟩ := (v.acceptedStart n p sfc).syncGained_changes n
  rw [heq]
  refine ⟨⟨e, a, ?_⟩, ⟨fun m hm => ?_⟩, _, hreach, State.syncGained_touches ..⟩
  · rw [ha.self, he]
  · rw [ha.other hm, hothers m hm]

/-- A PSync missed too often: the loss of sync (R82, R92). -/
theorem State.psyncMissing_lost (s : State) (n : Nat) (mid : Bool) (h : s.lossCount n ≤ (s.ch n).missRun + 1) :
    (∃ k, ((s.psyncMissing n mid).ch n).sansStatus = (((s.ch n).missed.unsynced .hunt k).afterLoss).sansStatus) ∧
      KeepsOthers n s (s.psyncMissing n mid) ∧
      ∃ u, Touches (missReach n) s u ∧ Touches (syncLossReach n) u (s.psyncMissing n mid) := by
  obtain ⟨u, ⟨hu, hch, -⟩, heq⟩ := s.psyncMissing_cases n mid
  rw [if_pos h] at heq
  have hloss := u.loseSync_changes n .hunt 0 mid
  rw [heq]
  refine ⟨⟨u.count (C.PON_CAND_FALSE n), ?_⟩, ⟨fun m hm => ?_⟩, u, hu, u.loseSync_touches ..⟩
  · rw [hloss.self, hch, if_pos rfl]
  · rw [hloss.other hm, hch, if_neg hm]

/-- A channel that loses sync keeps the burst on the air alone (R92). -/
theorem PonCh.afterLoss_unsynced_bursts (c : PonCh) (st : SyncSt) (k : Nat) :
    (c.unsynced st k).afterLoss.bursts = c.airBursts :=
  PonCh.afterLoss_bursts _ (c.airBursts_of_airBursts (d := c.unsynced st k) rfl rfl).symm

/-- Settles O15: each clause by the channel that its operation sets and by its reach. -/
theorem synchronisationTracksPsyncs : Obligations.SynchronisationTracksPsyncs := by
  refine ⟨fun s c pos p hloop hsync hcdr htol haway hlen => ?_, fun s c pos p hloop hsync hcdr htol haway hlen => ?_,
    fun s c pos p h => ?_, fun s c pos k p us hsync hfind hbad hlt => ?_,
    fun s c pos k p us hloop hsync hfind htol hhec hsfc hconf => ?_,
    fun s c pos k p us hloop hsync hfind htol hhec hsfc hconf => ?_,
    fun s c pos k p us hloop hsync hfind htol hfail => ?_, fun s c pos p us h => ?_,
    fun s c p mid hloop hin htol => ?_, fun s c p mid hin hbad hrun hlt => ?_, fun s c p mid hin hbad hrun => ?_,
    fun s c p mid hin => ?_⟩
  · exact ⟨_, (if_pos ⟨hloop, hsync, hcdr, htol, haway⟩).trans (if_neg (by omega)), s.setCh_alone c.val _⟩
  · exact (if_pos ⟨hloop, hsync, hcdr, htol, haway⟩).trans (if_pos hlen)
  · rw [exec_psyncMatch]
    refine if_neg ?_
    rintro ⟨hloop, hsync, hcdr, htol, -⟩
    rcases h with h | ⟨h, h'⟩ | h | h
    · simp [h] at hloop
    · exact hsync.elim h h'
    · simp [h] at hcdr
    · omega
  · have hbump := s.bump_touches_of_lt hlt
    set u := s.bump (C.PON_CAND_FALSE c.val) with hu
    refine ⟨_, (exec_candidateCheck_of_found hsync hfind).trans (if_pos hbad), ?_, ?_, fun m _ hm => ?_, ?_⟩
    · rw [State.ch_setCh, if_pos rfl, hbump.ch (by simp)]
    · exact ((u.setCh_touches c.val _).ctrs _ (by simp)).trans (State.count_bump_of_lt _ rfl hlt)
    · rw [State.ch_setCh, if_neg hm, hbump.ch (by simp)]
    · exact (hbump.onlyChanges (by simp)).trans ((u.setCh_touches c.val _).onlyChanges (by simp))
  · have hgood : ¬(s.nearLoop (40 + c.val) = true ∨ s.fld (F.PON_SYNC_CFG_HUNT_TOL c.val) < p.diff) := by
      simp [hloop, htol]
    obtain ⟨⟨e, a, hself⟩, hothers, u, hu, hut⟩ := s.promote_spec c.val p us
    refine ⟨_, (exec_candidateCheck_of_found hsync hfind).trans
      ((if_neg hgood).trans ((if_pos ⟨hhec, hsfc⟩).trans (if_pos hconf))),
      PonCh.congr_of_sansStatus hself PonCh.sync, PonCh.congr_of_sansStatus hself PonCh.cands,
      PonCh.congr_of_sansStatus hself PonCh.sfc, PonCh.congr_of_sansStatus hself PonCh.inFrames,
      PonCh.congr_of_sansStatus hself PonCh.missRun, PonCh.congr_of_sansStatus hself PonCh.psbd,
      fun m _ hm => hothers.ch m hm, ?_, ?_⟩
    · exact RegsKeptIn.trans (hu.regsKeptIn (by simp)) (hut.regsKeptIn (by simp))
    · exact (hu.onlyChanges (by simp)).trans (hut.onlyChanges (by simp))
  · have hgood : ¬(s.nearLoop (40 + c.val) = true ∨ s.fld (F.PON_SYNC_CFG_HUNT_TOL c.val) < p.diff) := by
      simp [hloop, htol]
    exact ⟨_, (exec_candidateCheck_of_found hsync hfind).trans
      ((if_neg hgood).trans ((if_pos ⟨hhec, hsfc⟩).trans (if_neg (by omega)))), s.setCh_alone c.val _⟩
  · have hgood : ¬(s.nearLoop (40 + c.val) = true ∨ s.fld (F.PON_SYNC_CFG_HUNT_TOL c.val) < p.diff) := by
      simp [hloop, htol]
    have hnot : ¬(p.hecOk = true ∧ (k.hecOk = false ∨ p.sfc % 2 ^ 51 = (k.sfc + 1) % 2 ^ 51)) := by
      rintro ⟨hp, hk⟩
      rcases hfail with h | ⟨h, h'⟩
      · simp [h] at hp
      · exact hk.elim (by simp [h]) h'
    exact ⟨_, (exec_candidateCheck_of_found hsync hfind).trans ((if_neg hgood).trans (if_neg hnot)),
      s.setCh_alone c.val _⟩
  · rw [exec_candidateCheck, execCandidateCheck]
    dsimp only
    split
    · next hsync hfind => simp [hsync, hfind] at h
    · rfl
  · obtain ⟨u, sfc, hu, heq⟩ := s.psyncGood_cases c.val p
    obtain ⟨⟨e, he⟩, hothers, hreach⟩ := hu.thenStart p sfc
    rw [← heq] at he hothers hreach
    refine ⟨_, (if_pos hin).trans (if_pos ⟨hloop, htol⟩), ?_, ?_, ?_, ?_, ?_, fun m _ hm => hothers m hm,
      hreach.regsKeptIn (by simp), hreach.onlyChanges (by simp)⟩
    all_goals
      rw [he]
      rfl
  · obtain ⟨u, ⟨hu, hch, hcount⟩, heq⟩ := s.psyncMissing_cases c.val mid
    rw [if_neg (by omega)] at heq
    have hbad' : ¬(s.nearLoop (40 + c.val) = false ∧ p.diff ≤ s.fld (F.PON_SYNC_CFG_TRACK_TOL c.val)) := by
      rintro ⟨h, h'⟩
      exact hbad.elim (by simp [h]) (by omega)
    have hself := hch c.val
    rw [if_pos rfl] at hself
    refine ⟨_, ((if_pos hin).trans (if_neg hbad')).trans (congrArg _ heq), ?_, ?_, ?_, ?_, fun m _ hm => ?_,
      hu.regsKeptIn (by simp), hu.onlyChanges (by simp)⟩
    · rw [hself]
      rfl
    · rw [hself]
      rfl
    · rw [hself]
      rfl
    · rw [hcount]
      exact s.count_bump_of_lt rfl hlt
    · rw [hch, if_neg hm]
  · have hbad' : ¬(s.nearLoop (40 + c.val) = false ∧ p.diff ≤ s.fld (F.PON_SYNC_CFG_TRACK_TOL c.val)) := by
      rintro ⟨h, h'⟩
      exact hbad.elim (by simp [h]) (by omega)
    obtain ⟨⟨k, hself⟩, hothers, u, hu, hut⟩ := s.psyncMissing_lost c.val mid hrun
    have hrx := ((s.ch c.val).missed.unsynced .hunt k).afterLoss_sameReceiver
    refine ⟨_, (if_pos hin).trans (if_neg hbad'), (PonCh.congr_of_sansStatus hself PonCh.sync).trans hrx.sync,
      (PonCh.congr_of_sansStatus hself PonCh.bursts).trans (PonCh.afterLoss_unsynced_bursts ..),
      (PonCh.congr_of_sansStatus hself PonCh.partials).trans hrx.partials, fun ho5 => ?_, fun m _ hm => hothers.ch m hm,
      RegsKeptIn.trans (hu.regsKeptIn (by simp)) (hut.regsKeptIn (by simp)),
      (hu.onlyChanges (by simp)).trans (hut.onlyChanges (by simp))⟩
    have hact : ((s.ch c.val).missed.unsynced .hunt k).act = .o5 := ho5
    rw [PonCh.congr_of_sansStatus hself PonCh.act, PonCh.afterLoss_act, hact]
  · exact if_neg (by simp [hin])

end Sys2Proof.Machine
end

section
/-! Downstream XGEM frames (R126 to R133, R163, R406). -/

namespace Sys2Proof.Machine

variable {s v : State} {n : Nat}

/-! Partial SDUs. -/

theorem State.setPartial_touches (s : State) (n port : Nat) (p : Partial) :
    Touches ⟨[.pon], [], []⟩ s (s.setPartial n port p) := s.setCh_touches ..

theorem State.ch_setPartial (s : State) (n port : Nat) (p : Partial) (m : Nat) : (s.setPartial n port p).ch m =
    if m = n then { s.ch n with partials := sparseSet (fun _ => {}) (s.ch n).partials port p } else s.ch m :=
  s.ch_setCh ..

theorem State.partialOf_setPartial (s : State) (n port : Nat) (p : Partial) :
    ((s.setPartial n port p).ch n).partialOf port = p := by
  simp [State.ch_setPartial, PonCh.partialOf]

/-- From s to t a partial SDU of channel n takes the value p, and the other channels stay as they are. -/
structure SetsPartial (n port : Nat) (p : Partial) (s t : State) : Prop where
  partialOf : (t.ch n).partialOf port = p
  others : ∀ m < 4, m ≠ n → t.ch m = s.ch m
  clsIn : t.clsIn = s.clsIn

/-- A change without channels and classifier, then a partial SDU takes a value. -/
theorem Touches.setPartial {F : Reach} (h : Touches F s v) (port : Nat) (p : Partial)
    (hp : .pon ∉ F.parts := by simp) (hc : .clsIn ∉ F.parts := by simp) :
    SetsPartial n port p s (v.setPartial n port p) where
  partialOf := v.partialOf_setPartial ..
  others m _ hm := by rw [State.ch_setPartial, if_neg hm, h.ch hp]
  clsIn := h.parts .clsIn hc

/-- Then a change of other parts. -/
theorem SetsPartial.then {F : Reach} {t : State} {port : Nat} {p : Partial} (h : SetsPartial n port p s v)
    (h' : Touches F v t) (hp : .pon ∉ F.parts := by simp) (hc : .clsIn ∉ F.parts := by simp) :
    SetsPartial n port p s t where
  partialOf := by rw [h'.ch hp, h.partialOf]
  others m hm hne := by rw [h'.ch hp, h.others m hm hne]
  clsIn := (h'.parts .clsIn hc).trans h.clsIn

/-- A lost fragment counts at most once. -/
@[simp] def lostReach (n : Nat) : Reach := ⟨[.regs, .cnt, .arb], [(R.PON_TC_SAT, n)], [C.TC_FRAG_LOST n]⟩

/-- The state before a lost fragment's partial SDU is set. -/
theorem State.loseFragment_cases (s : State) (n port : Nat) (last : Bool) :
    ∃ u, Touches (lostReach n) s u ∧ s.loseFragment n port last = u.setPartial n port { skip := !last } := by
  unfold State.loseFragment
  extract_lets p u
  exact ⟨u, .ite (fun _ => .refl _ s) (fun _ => (Touches.refl _ s).bump _ (R.PON_TC_SAT, n) rfl), rfl⟩

/-- The same short of the counter's end. -/
theorem State.loseFragment_cases_of_lt (port : Nat) (last : Bool) (hlt : s.count (C.TC_FRAG_LOST n) < 0xFFFFFFFE) :
    ∃ u, Touches ⟨[.cnt], [], [C.TC_FRAG_LOST n]⟩ s u ∧
      u.count (C.TC_FRAG_LOST n) =
        s.count (C.TC_FRAG_LOST n) + (if ((s.ch n).partialOf port).data = [] then 0 else 1) ∧
      s.loseFragment n port last = u.setPartial n port { skip := !last } := by
  unfold State.loseFragment
  extract_lets p u
  refine ⟨u, .ite (fun _ => .refl _ s) (fun _ => s.bump_touches_of_lt hlt), ?_, rfl⟩
  by_cases h : ((s.ch n).partialOf port).data = []
  · simp [u, p, h]
  · simp only [u, p, List.isEmpty_iff, h, if_false]
    exact s.count_bump_of_lt rfl hlt

/-! A frame of the port set. -/

/-- A frame of the port set with its payload in the clear (R129). -/
def State.fragment (s : State) (n : Nat) (x : Xgem) (plain : List Byte) : State :=
  let s := s.bump (C.TC_XGEM_RX n)
  let p := (s.ch n).partialOf x.port
  let data := p.data ++ plain
  if p.skip then if x.last then s.setPartial n x.port {} else s
  else if 10240 < data.length then (s.bump (C.TC_SDU_LONG n)).setPartial n x.port { skip := !x.last }
  else if x.last then (s.setPartial n x.port {}).wholeSdu n x data (p.bad || x.bad)
  else s.setPartial n x.port { data := data, bad := p.bad || x.bad }

/-- A frame that reaches the port set: in sync, from the fibre, with a good header, of a port of the channel. -/
structure Xgem.Reaches (x : Xgem) (n : Nat) (s : State) : Prop where
  sync : s.inSync n = true
  fibre : s.nearLoop (40 + n) = false
  hec : x.hecOk = true
  busy : x.idle = false
  port : (s.ch n).inPorts x.port = true

variable {c : Fin 4} {x : Xgem} {lost : List (Nat × Bool)}

/-- The payload of a frame in the clear, and the state after the read of its key (R131); none without a key. -/
def State.opened (s : State) (n : Nat) (x : Xgem) : State × Option (List Byte) :=
  if x.key = 0 then (s, some x.data)
  else if 2 < x.key ∨ s.keyHeld (dataSlot n x.key x.bcast) = false then (s, none)
  else match s.readKey (dataSlot n x.key x.bcast) with
    | (s, k) => (s, k.map (fun k => xgemCrypt k 0 (s.ponMode n) (s.ch n).sfc x.at_ x.data))

/-- What a frame of the port set does, by its payload in the clear. -/
def State.received (r : State × Option (List Byte)) (n : Nat) (x : Xgem) : State :=
  match r.2 with
  | none => (r.1.bump (C.TC_XGEM_KEY_MISS n)).loseFragment n x.port x.last
  | some plain => r.1.fragment n x plain

theorem exec_xgemFrame_of_reaches (h : x.Reaches c.val s) :
    exec (.xgemFrame c x lost) s = .next (State.received (s.opened c.val x) c.val x) := by
  obtain ⟨hsync, hloop, hhec, hidle, hport⟩ := h
  rw [exec_xgemFrame, execXgemFrame]
  extract_lets r u p
  rw [if_neg (by simp [hsync, hloop]), if_neg (by simp [hhec]), if_neg (by simp [hidle, hport])]
  have hr : s.opened c.val x = r := rfl
  rw [hr]
  clear_value r
  obtain ⟨v, plain⟩ := r
  cases plain with
  | none => rfl
  | some plain =>
    dsimp only [State.received, State.fragment]
    split_ifs <;> rfl

end Sys2Proof.Machine
end

section
/-! What a frame of the port set does (R126 to R133), clause by clause of O20. -/

namespace Sys2Proof.Machine

variable {s : State} {c : Fin 4} {x : Xgem} {lost : List (Nat × Bool)}

/-! Frames that do not reach the port set. -/

theorem exec_xgemFrame_of_badHeader (hsync : s.inSync c.val = true) (hloop : s.nearLoop (40 + c.val) = false)
    (hhec : x.hecOk = false) : exec (.xgemFrame c x lost) s =
      .next (lost.foldl (fun s l => s.loseFragment c.val l.1 l.2) (s.bump (C.TC_XGEM_HEC_ERR c.val))) := by
  rw [exec_xgemFrame, execXgemFrame]
  dsimp only
  rw [if_neg (by simp [hsync, hloop]), if_pos hhec]

theorem exec_xgemFrame_of_ignored (h : s.inSync c.val = false ∨ s.nearLoop (40 + c.val) = true ∨
    (x.hecOk = true ∧ (x.idle = true ∨ (s.ch c.val).inPorts x.port = false))) :
    exec (.xgemFrame c x lost) s = .next s := by
  rw [exec_xgemFrame, execXgemFrame]
  dsimp only
  by_cases hout : s.inSync c.val = false ∨ s.nearLoop (40 + c.val) = true
  · exact if_pos hout
  · obtain ⟨hhec, hidle⟩ := (h.resolve_left fun h => hout (.inl h)).resolve_left fun h => hout (.inr h)
    rw [if_neg hout, if_neg (by simp [hhec]), if_pos hidle]

/-- A bad header with one fragment behind it (R126, R129). -/
theorem badHeader_spec (s : State) (n port : Nat) (last : Bool) (hlt : s.count (C.TC_XGEM_HEC_ERR n) < 0xFFFFFFFE)
    (hlt' : s.count (C.TC_FRAG_LOST n) < 0xFFFFFFFE) :
    ∃ t, (s.bump (C.TC_XGEM_HEC_ERR n)).loseFragment n port last = t ∧
      t.count (C.TC_XGEM_HEC_ERR n) = s.count (C.TC_XGEM_HEC_ERR n) + 1 ∧
      t.count (C.TC_FRAG_LOST n) =
        s.count (C.TC_FRAG_LOST n) + (if ((s.ch n).partialOf port).data = [] then 0 else 1) ∧
      SetsPartial n port { skip := !last } s t ∧ OnlyChanges [.pon, .cnt] s t := by
  have hb := s.bump_touches_of_lt hlt
  set b := s.bump (C.TC_XGEM_HEC_ERR n)
  have hlost : b.count (C.TC_FRAG_LOST n) = s.count (C.TC_FRAG_LOST n) := hb.ctrs _ (by simp)
  obtain ⟨u, hu, hcount, heq⟩ := State.loseFragment_cases_of_lt (s := b) port last (hlost.symm ▸ hlt')
  have hp := u.setPartial_touches n port { skip := !last }
  refine ⟨_, heq, ?_, ?_, ?_, ?_⟩
  · rw [hp.ctrs _ (by simp), hu.ctrs _ (by simp)]
    exact s.count_bump_of_lt rfl hlt
  · rw [hp.ctrs _ (by simp), hcount, hlost, hb.ch (by simp)]
  · have hsu : Touches ⟨[.cnt], [], [C.TC_XGEM_HEC_ERR n, C.TC_FRAG_LOST n]⟩ s u :=
      (hb.mono ⟨by simp, by simp, by simp⟩).next hu ⟨by simp, by simp, by simp⟩
    exact hsu.setPartial port _
  · exact ((hb.onlyChanges (by simp)).trans (hu.onlyChanges (by simp))).trans (hp.onlyChanges (by simp))

/-! Keys. -/

theorem State.opened_of_clear {n : Nat} (h : x.key = 0) : s.opened n x = (s, some x.data) := if_pos h

theorem State.opened_of_noKey {n : Nat} (h : x.key ≠ 0)
    (h' : 2 < x.key ∨ s.keyHeld (dataSlot n x.key x.bcast) = false) : s.opened n x = (s, none) :=
  (if_neg h).trans (if_pos h')

theorem State.opened_of_key {n : Nat} {k : List Nat} (h : x.key = 1 ∨ x.key = 2)
    (h' : s.keyHeld (dataSlot n x.key x.bcast) = true) (hread : s.readKey (dataSlot n x.key x.bcast) = (s, some k)) :
    s.opened n x = (s, some (xgemCrypt k 0 (s.ponMode n) (s.ch n).sfc x.at_ x.data)) := by
  have hne : x.key ≠ 0 := by omega
  have hin : ¬(2 < x.key ∨ s.keyHeld (dataSlot n x.key x.bcast) = false) := by
    rw [h']
    simp
    omega
  refine (if_neg hne).trans ((if_neg hin).trans ?_)
  rw [hread]
  rfl

/-- A frame whose key is not held (R131). -/
theorem keyMiss_spec (s : State) (n port : Nat) (last : Bool) (hlt : s.count (C.TC_XGEM_KEY_MISS n) < 0xFFFFFFFE) :
    ∃ t, (s.bump (C.TC_XGEM_KEY_MISS n)).loseFragment n port last = t ∧
      t.count (C.TC_XGEM_KEY_MISS n) = s.count (C.TC_XGEM_KEY_MISS n) + 1 ∧
      SetsPartial n port { skip := !last } s t ∧
      Touches ⟨[.pon, .regs, .cnt, .arb], [(R.PON_TC_SAT, n)], [C.TC_XGEM_KEY_MISS n, C.TC_FRAG_LOST n]⟩ s t := by
  have hb := s.bump_touches_of_lt hlt
  set b := s.bump (C.TC_XGEM_KEY_MISS n)
  obtain ⟨u, hu, heq⟩ := b.loseFragment_cases n port last
  have hp := u.setPartial_touches n port { skip := !last }
  have hsu : Touches ⟨[.regs, .cnt, .arb], [(R.PON_TC_SAT, n)], [C.TC_XGEM_KEY_MISS n, C.TC_FRAG_LOST n]⟩ s u :=
    (hb.mono ⟨by simp, by simp, by simp⟩).next hu ⟨by simp, by simp, by simp⟩
  refine ⟨_, heq, ?_, hsu.setPartial port _, (hsu.mono ⟨by simp, by simp, by simp⟩).part hp⟩
  rw [hp.ctrs _ (by simp), hu.ctrs _ (by simp)]
  exact s.count_bump_of_lt rfl hlt

/-! Fragments. -/

variable {n : Nat} {plain : List Byte}

theorem State.xgemRx_touches (s : State) (n : Nat) :
    Touches ⟨[.cnt], [], [C.TC_XGEM_RX n]⟩ s (s.bump (C.TC_XGEM_RX n)) := s.bumpBy_touches_of_wide 1 rfl

theorem State.ch_xgemRx (s : State) (n m : Nat) : (s.bump (C.TC_XGEM_RX n)).ch m = s.ch m :=
  (s.xgemRx_touches n).ch (by simp) m

/-- A fragment of a skipped SDU (R129). -/
theorem State.fragment_of_skip (h : ((s.ch n).partialOf x.port).skip = true) : s.fragment n x plain =
    if x.last then (s.bump (C.TC_XGEM_RX n)).setPartial n x.port {} else s.bump (C.TC_XGEM_RX n) := by
  simp only [State.fragment, State.ch_xgemRx, h, if_true]

/-- A fragment that brings an SDU past 10,240 bytes (R129). -/
theorem State.fragment_of_long (h : ((s.ch n).partialOf x.port).skip = false)
    (hlen : 10240 < ((s.ch n).partialOf x.port).data.length + plain.length) : s.fragment n x plain =
      ((s.bump (C.TC_XGEM_RX n)).bump (C.TC_SDU_LONG n)).setPartial n x.port { skip := !x.last } := by
  simp only [State.fragment, State.ch_xgemRx, h, List.length_append, hlen, if_true, Bool.false_eq_true, if_false]

/-- The last fragment of an SDU. -/
theorem State.fragment_of_last (h : ((s.ch n).partialOf x.port).skip = false) (hlast : x.last = true)
    (hlen : ((s.ch n).partialOf x.port).data.length + plain.length ≤ 10240) : s.fragment n x plain =
      ((s.bump (C.TC_XGEM_RX n)).setPartial n x.port {}).wholeSdu n x (((s.ch n).partialOf x.port).data ++ plain)
        (((s.ch n).partialOf x.port).bad || x.bad) := by
  simp only [State.fragment, State.ch_xgemRx, h, List.length_append, Nat.not_lt.mpr hlen, hlast, if_true,
    Bool.false_eq_true, if_false]

/-- A fragment with more to come. -/
theorem State.fragment_of_more (h : ((s.ch n).partialOf x.port).skip = false) (hlast : x.last = false)
    (hlen : ((s.ch n).partialOf x.port).data.length + plain.length ≤ 10240) : s.fragment n x plain =
      (s.bump (C.TC_XGEM_RX n)).setPartial n x.port
        { data := ((s.ch n).partialOf x.port).data ++ plain, bad := ((s.ch n).partialOf x.port).bad || x.bad } := by
  simp only [State.fragment, State.ch_xgemRx, h, List.length_append, Nat.not_lt.mpr hlen, hlast,
    Bool.false_eq_true, if_false]

/-- A frame counts, then its partial SDU takes a value. -/
theorem State.rxThenPartial (s : State) (n port : Nat) (p : Partial) :
    SetsPartial n port p s ((s.bump (C.TC_XGEM_RX n)).setPartial n port p) ∧
      Touches ⟨[.pon, .cnt], [], [C.TC_XGEM_RX n]⟩ s ((s.bump (C.TC_XGEM_RX n)).setPartial n port p) :=
  ⟨(s.xgemRx_touches n).setPartial port p,
    ((s.xgemRx_touches n).mono ⟨by simp, by simp, by simp⟩).part (State.setPartial_touches ..)⟩

/-- A fragment of a skipped SDU leaves the SDU skipped until its last. -/
theorem State.fragment_skip_spec (h : ((s.ch n).partialOf x.port).skip = true) :
    SetsPartial n x.port (if x.last then {} else (s.ch n).partialOf x.port) s (s.fragment n x plain) ∧
      OnlyChanges [.pon, .cnt] s (s.fragment n x plain) := by
  have hrx := s.xgemRx_touches n
  rw [State.fragment_of_skip h]
  cases x.last with
  | true =>
    obtain ⟨hset, hreach⟩ := s.rxThenPartial n x.port {}
    exact ⟨hset, hreach.onlyChanges (by simp)⟩
  | false =>
    refine ⟨⟨?_, fun m _ _ => hrx.ch (by simp) m, hrx.parts .clsIn (by simp)⟩, hrx.onlyChanges (by simp)⟩
    exact congrArg (PonCh.partialOf · x.port) (hrx.ch (by simp) n)

/-- An SDU past 10,240 bytes is counted and discarded. -/
theorem State.fragment_long_spec (h : ((s.ch n).partialOf x.port).skip = false)
    (hlen : 10240 < ((s.ch n).partialOf x.port).data.length + plain.length)
    (hlt : s.count (C.TC_SDU_LONG n) < 0xFFFFFFFE) :
    (s.fragment n x plain).count (C.TC_SDU_LONG n) = s.count (C.TC_SDU_LONG n) + 1 ∧
      SetsPartial n x.port { skip := !x.last } s (s.fragment n x plain) ∧
      OnlyChanges [.pon, .cnt] s (s.fragment n x plain) := by
  have hrx := s.xgemRx_touches n
  rw [State.fragment_of_long h hlen]
  set b := s.bump (C.TC_XGEM_RX n)
  have hlong : b.count (C.TC_SDU_LONG n) = s.count (C.TC_SDU_LONG n) := hrx.ctrs _ (by simp)
  have hb := b.bump_touches_of_lt (hlong.symm ▸ hlt)
  have hp := (b.bump (C.TC_SDU_LONG n)).setPartial_touches n x.port { skip := !x.last }
  have hsb : Touches ⟨[.cnt], [], [C.TC_XGEM_RX n, C.TC_SDU_LONG n]⟩ s (b.bump (C.TC_SDU_LONG n)) :=
    (hrx.mono ⟨by simp, by simp, by simp⟩).next hb ⟨by simp, by simp, by simp⟩
  refine ⟨?_, hsb.setPartial x.port _, (hsb.onlyChanges (by simp)).trans (hp.onlyChanges (by simp))⟩
  rw [hp.ctrs _ (by simp), ← hlong]
  exact b.count_bump_of_lt rfl (hlong.symm ▸ hlt)

/-- A whole SDU with a bad byte is counted and discarded. -/
theorem State.fragment_bad_spec (h : ((s.ch n).partialOf x.port).skip = false) (hlast : x.last = true)
    (hlen : ((s.ch n).partialOf x.port).data.length + plain.length ≤ 10240)
    (hbad : (((s.ch n).partialOf x.port).bad || x.bad) = true) (hlt : s.count (C.TC_XGEM_BAD n) < 0xFFFFFFFE) :
    (s.fragment n x plain).count (C.TC_XGEM_BAD n) = s.count (C.TC_XGEM_BAD n) + 1 ∧
      SetsPartial n x.port {} s (s.fragment n x plain) ∧ OnlyChanges [.pon, .cnt] s (s.fragment n x plain) := by
  obtain ⟨hset, hreach⟩ := s.rxThenPartial n x.port {}
  rw [State.fragment_of_last h hlast hlen, State.wholeSdu]
  simp only [hbad, if_true]
  set v := (s.bump (C.TC_XGEM_RX n)).setPartial n x.port {}
  have hcount : v.count (C.TC_XGEM_BAD n) = s.count (C.TC_XGEM_BAD n) := hreach.ctrs _ (by simp)
  have hb := v.bump_touches_of_lt (hcount.symm ▸ hlt)
  refine ⟨?_, hset.then hb, (hreach.onlyChanges (by simp)).trans (hb.onlyChanges (by simp))⟩
  rw [← hcount]
  exact v.count_bump_of_lt rfl (hcount.symm ▸ hlt)

end Sys2Proof.Machine
end

section
/-! Whole SDUs (R129, R132, R163, R406): an OMCI message with a wrong MIC, and a frame for the classifier. -/

namespace Sys2Proof.Machine

variable {s v : State} {n i : Nat}

/-! A read of a key that leaves the state as it is (R484). -/

/-- A counter of 32 bits that does not move has reached its end. -/
theorem State.saturated_of_count_bump {c : Ctr} (hw : c.wide = false) (h : (s.bump c).count c = s.count c) :
    s.count c = 0xFFFFFFFF := by
  by_contra hne
  simp only [State.bump, State.bumpBy, hw, hne, Bool.false_eq_true, if_false] at h
  split_ifs at h
  · simp at h
  · have hraise : ∀ (u : State) (a b d e : Nat) (l : List Byte), (u.raise a b d e l).count c = u.count c :=
      fun u a b d e l => (u.raise_touches a b d e l).ctrs c (by simp)
    rw [hraise] at h
    change (s.setCount c 0xFFFFFFFF).count c = s.count c at h
    rw [State.count_setCount, if_pos rfl] at h
    exact hne h.symm

theorem State.bump_of_saturated {c : Ctr} (hw : c.wide = false) (h : s.count c = 0xFFFFFFFF) : s.bump c = s := by
  simp only [State.bump, State.bumpBy, hw, h, Bool.false_eq_true, if_false, if_true]

/-- The log moves on at every uncorrectable word (R525). -/
theorem State.logPtr_foundUe_ne (s : State) (m word finder i : Nat) :
    ((s.foundUe m word finder).loseKey i).mem.logPtr ≠ s.mem.logPtr := by
  have hlose : ∀ u : State, (u.loseKey i).mem = u.mem := by
    intro u
    unfold State.loseKey
    dsimp only
    split <;> simp [State.setSlot]
  have hlog : ∀ u : State, (u.logUe m word finder).mem.logPtr = (u.mem.logPtr % 8 + 1) % 8 := by
    intro u
    unfold State.logUe
    dsimp only
    split <;> simp
  rw [hlose, State.foundUe, hlog, State.bump_mem]
  omega

/-- A read of a key that leaves s as it is leaves so every state with the same keys and the same count of corrections. -/
theorem State.readKey_congr (hs : (s.readKey i).1 = s) (hciph : v.ciph = s.ciph)
    (hcount : v.count (C.MEM_CE 3) = s.count (C.MEM_CE 3)) : v.readKey i = (v, (s.readKey i).2) := by
  have hslot : v.slot i = s.slot i := by simp only [State.slot, hciph]
  have hword : v.keyWord i = s.keyWord i := by simp only [State.keyWord, hciph]
  unfold State.readKey at hs ⊢
  simp only [hslot, hword]
  by_cases hheld : (s.slot i).state = 1 ∨ (s.slot i).state = 2
  · simp only [hheld, if_true] at hs ⊢
    cases hdec : decodeWord (s.keyWord i) with
    | clean => rfl
    | corrected j w =>
      simp only [hdec] at hs
      have hsat : s.count (C.MEM_CE 3) = 0xFFFFFFFF :=
        State.saturated_of_count_bump rfl (congrArg (fun u => u.count (C.MEM_CE 3)) hs)
      have hfound : ∀ u : State, u.count (C.MEM_CE 3) = 0xFFFFFFFF → u.foundCe 3 j = u := fun u hu =>
        State.bump_of_saturated rfl hu
      rw [hfound s hsat] at hs
      dsimp only
      rw [hfound v (hcount.trans hsat)]
      have hkeys := congrArg State.ciph hs
      have hv : v.setKeyWord i w = v := by
        simp only [State.setKeyWord, hciph] at hkeys ⊢
        rw [hkeys, ← hciph]
      rw [hv]
    | bad =>
      simp only [hdec] at hs
      exact absurd (congrArg (fun u => u.mem.logPtr) hs) (s.logPtr_foundUe_ne 3 i 1 i)
  · simp only [hheld, if_false]

theorem State.chKey_congr {k : Nat} (hs : (s.readKey (8 * n + 4 + k)).1 = s) (hciph : v.ciph = s.ciph)
    (hcount : v.count (C.MEM_CE 3) = s.count (C.MEM_CE 3)) (hmsk : (v.ch n).msk = (s.ch n).msk) :
    v.chKey n k = (v, (s.chKey n k).2) := by
  have hread := State.readKey_congr hs hciph hcount
  unfold State.chKey
  rw [hread]
  generalize s.readKey (8 * n + 4 + k) = r at hs ⊢
  obtain ⟨u, key⟩ := r
  obtain rfl : u = s := hs
  cases key with
  | none => simp only [hmsk]
  | some key => rfl

/-! An OMCI message with a wrong MIC (R132, R133). -/

variable {x : Xgem} {data : List Byte}

theorem State.wholeSdu_of_badMic (hport : (v.ch n).onuId = some x.port) {key : List Nat} (hkey : v.chKey n 1 = (v, key))
    (hmic : data.length < 4 ∨ omciMic 1 key (data.take (data.length - 4)) ≠ data.drop (data.length - 4)) :
    v.wholeSdu n x data false = v.bump (C.TC_OMCI_MIC_ERR n) := by
  unfold State.wholeSdu
  simp only [Bool.false_eq_true, if_false, hport, if_true, hkey]
  exact if_pos (.inr hmic)

theorem State.fragment_badMic_spec (hn : n < 4) (hpart : (s.ch n).partialOf x.port = {}) (hlast : x.last = true)
    (hbad : x.bad = false) (hlen : x.data.length ≤ 10240) (hport : (s.ch n).onuId = some x.port)
    (hread : (s.readKey (8 * n + 5)).1 = s)
    (hmic : x.data.length < 4 ∨
      omciMic 1 (s.chKey n 1).2 (x.data.take (x.data.length - 4)) ≠ x.data.drop (x.data.length - 4))
    (hlt : s.count (C.TC_OMCI_MIC_ERR n) < 0xFFFFFFFE) :
    (s.fragment n x x.data).count (C.TC_OMCI_MIC_ERR n) = s.count (C.TC_OMCI_MIC_ERR n) + 1 ∧
      SetsPartial n x.port {} s (s.fragment n x x.data) ∧ OnlyChanges [.pon, .cnt] s (s.fragment n x x.data) := by
  obtain ⟨hset, hreach⟩ := s.rxThenPartial n x.port {}
  have hch := State.ch_setPartial (s.bump (C.TC_XGEM_RX n)) n x.port {} n
  rw [if_pos rfl, State.ch_xgemRx] at hch
  rw [State.fragment_of_last (by rw [hpart]) hlast (by rw [hpart]; simpa using hlen), hpart]
  set v := (s.bump (C.TC_XGEM_RX n)).setPartial n x.port {}
  have hkey : v.chKey n 1 = (v, (s.chKey n 1).2) :=
    State.chKey_congr hread (hreach.parts .ciph (by simp)) (hreach.ctrs _ (by simp; omega)) (by rw [hch])
  have hwhole : v.wholeSdu n x (({} : Partial).data ++ x.data) (({} : Partial).bad || x.bad) =
      v.bump (C.TC_OMCI_MIC_ERR n) := by
    rw [hbad]
    exact State.wholeSdu_of_badMic (by rw [hch, hport]) hkey hmic
  have hcount : v.count (C.TC_OMCI_MIC_ERR n) = s.count (C.TC_OMCI_MIC_ERR n) := hreach.ctrs _ (by simp)
  have hb := v.bump_touches_of_lt (hcount.symm ▸ hlt)
  rw [hwhole]
  refine ⟨?_, hset.then hb, (hreach.onlyChanges (by simp)).trans (hb.onlyChanges (by simp))⟩
  rw [← hcount]
  exact v.count_bump_of_lt rfl (hcount.symm ▸ hlt)

/-! A frame for the classifier (R129, R406). -/

/-- A pool with a buffer in its cache gives it (R406, R409). -/
theorem State.allocBuf_of_small {agent len id : Nat} {ids : List Nat} (hlen : len ≤ 256) (hfree : 0 < (v.pool 0).free)
    (hcache : (v.pool 0).cache = id :: ids) : v.allocBuf agent len =
      (((v.setPool 0 { v.pool 0 with cache := ids, free := (v.pool 0).free - 1 }).setOwner id agent).bump
        (C.BUF_ALLOC 0), .got id) := by
  have hbig : ¬10240 < len := by omega
  simp only [State.allocBuf, hbig, hlen, if_false, if_true, allocFrom, hfree, hcache, List.isEmpty_cons,
    Bool.false_eq_true]

/-- What the store of a frame touches (R508, R525). -/
theorem State.storeFrame_touches (s : State) (id len : Nat) :
    Touches ⟨[.mem, .regs], [(fun _ => R.MEM_INJ, 0)], []⟩ s (s.storeFrame id len) := by
  unfold State.storeFrame
  extract_lets w k errs m u
  have hu : Touches ⟨[.mem, .regs], [(fun _ => R.MEM_INJ, 0)], []⟩ s u := (Touches.refl _ s).part (s.setMem_touches _)
  have hinj : Touches ⟨[.mem, .regs], [(fun _ => R.MEM_INJ, 0)], []⟩ s (u.inject 2 0).1 := by
    unfold State.inject
    split
    · exact hu.next (u.setFld_touches _ _ (fun _ => R.MEM_INJ, 0) rfl) ⟨by simp, by simp, by simp⟩
    · exact hu
  exact .ite (fun _ => hu) (fun _ => hinj.part (State.setMem_touches ..))

theorem State.bondedPort_congr (h : v.bonding = s.bonding) (n port : Nat) : v.bondedPort n port = s.bondedPort n port := by
  have hgroup : ∀ g, v.group g = s.group g := fun g => by simp only [State.group, h]
  have hof : v.groupOf n = s.groupOf n := by simp only [State.groupOf, hgroup]
  unfold State.bondedPort
  rw [hof]
  simp only [hgroup]

theorem State.wholeSdu_of_plain {u : State} {id : Nat} (hport : (v.ch n).onuId ≠ some x.port)
    (hbond : v.bondedPort n x.port = none)
    (halloc : v.allocBuf agPonRx (data.take (data.length - 4)).length = (u, .got id)) :
    v.wholeSdu n x data false = (u.storeFrame id (data.take (data.length - 4)).length).toClassifier
      { buf := id, bytes := data.take (data.length - 4), src := 24 + n } := by
  unfold State.wholeSdu
  simp only [Bool.false_eq_true, if_false, hport, hbond, Option.isSome_none, halloc]

/-- What a frame stored for the classifier touches. -/
@[simp] def storedReach (n : Nat) : Reach :=
  ⟨[.pon, .cnt, .buf, .mem, .regs, .clsIn], [(fun _ => R.MEM_INJ, 0)], [C.TC_XGEM_RX n, C.BUF_ALLOC 0]⟩

theorem State.fragment_stored_spec {id : Nat} {ids : List Nat} (hpart : (s.ch n).partialOf x.port = {})
    (hlast : x.last = true) (hbad : x.bad = false) (hport : (s.ch n).onuId ≠ some x.port)
    (hbond : s.bondedPort n x.port = none) (hlen : x.data.length ≤ 260) (hfree : 0 < (s.pool 0).free)
    (hcache : (s.pool 0).cache = id :: ids) :
    (s.fragment n x x.data).clsIn =
        s.clsIn ++ [{ buf := id, bytes := x.data.take (x.data.length - 4), src := 24 + n }] ∧
      (s.fragment n x x.data).owner id = agPonRx ∧ ((s.fragment n x x.data).pool 0).cache = ids ∧
      (∀ m < 4, m ≠ n → (s.fragment n x x.data).ch m = s.ch m) ∧
      Touches (storedReach n) s (s.fragment n x x.data) := by
  obtain ⟨hset, hreach⟩ := s.rxThenPartial n x.port {}
  have hch := State.ch_setPartial (s.bump (C.TC_XGEM_RX n)) n x.port {} n
  rw [if_pos rfl, State.ch_xgemRx] at hch
  rw [State.fragment_of_last (by rw [hpart]) hlast (by rw [hpart]; simp; omega), hpart, hbad]
  set v := (s.bump (C.TC_XGEM_RX n)).setPartial n x.port {}
  have hbuf : v.buf = s.buf := hreach.parts .buf (by simp)
  have hbonding : v.bonding = s.bonding := hreach.bonding (by simp)
  have hpool : v.pool 0 = s.pool 0 := by simp only [State.pool, hbuf]
  have hbond' : v.bondedPort n x.port = none := (State.bondedPort_congr hbonding n x.port).trans hbond
  have hshort : (x.data.take (x.data.length - 4)).length ≤ 256 := by
    rw [List.length_take]
    omega
  have halloc := State.allocBuf_of_small (v := v) (agent := agPonRx) hshort (hpool ▸ hfree) (hpool ▸ hcache)
  have hwhole : v.wholeSdu n x (({} : Partial).data ++ x.data) (({} : Partial).bad || false) = _ :=
    State.wholeSdu_of_plain (by rw [hch]; exact hport) hbond' halloc
  rw [hwhole]
  set w := (v.setPool 0 { v.pool 0 with cache := ids, free := (v.pool 0).free - 1 }).setOwner id agPonRx with hw
  have hvw : Touches ⟨[.buf], [], []⟩ v w := (v.setPool_touches ..).part (State.setOwner_touches ..)
  have hwb : Touches ⟨[.cnt], [], [C.BUF_ALLOC 0]⟩ w (w.bump (C.BUF_ALLOC 0)) := w.bumpBy_touches_of_wide 1 rfl
  have hbs := (w.bump (C.BUF_ALLOC 0)).storeFrame_touches id (x.data.take (x.data.length - 4)).length
  set y := (w.bump (C.BUF_ALLOC 0)).storeFrame id (x.data.take (x.data.length - 4)).length
  have hvy : Touches ⟨[.buf, .cnt, .mem, .regs], [(fun _ => R.MEM_INJ, 0)], [C.BUF_ALLOC 0]⟩ v y :=
    ((hvw.mono ⟨by simp, by simp, by simp⟩).next hwb ⟨by simp, by simp, by simp⟩).next hbs ⟨by simp, by simp, by simp⟩
  have hybuf : y.buf = w.buf := (hbs.parts .buf (by simp)).trans (hwb.parts .buf (by simp))
  have hcls := (hset.then hvy).clsIn
  refine ⟨?_, ?_, ?_, fun m hm hne => ?_, ?_⟩
  · show y.clsIn ++ _ = _
    rw [hcls]
    rfl
  · have howner : y.owner id = w.owner id := by simp only [State.owner, hybuf]
    show y.owner id = agPonRx
    rw [howner, hw]
    simp
  · have hpool' : y.pool 0 = w.pool 0 := by simp only [State.pool, hybuf]
    show (y.pool 0).cache = ids
    rw [hpool', hw]
    show ((v.setPool 0 _).pool 0).cache = ids
    rw [State.pool_setPool, if_pos rfl]
  · exact (hset.then hvy).others m hm hne
  · exact ((hreach.mono ⟨by simp, by simp, by simp⟩).next hvy ⟨by simp, by simp, by simp⟩).part
      (y.toClassifier_touches _)

end Sys2Proof.Machine
end

section
/-! The commands of the PON group that store what they name (R102, R117, R123, R124, R130, R134). -/

namespace Sys2Proof.Machine

variable {s : State} {p : Pkt} {op : Nat}

/-! Taking a packet leaves the channels and the registers. -/

@[simp] theorem State.afterTake_pon (s : State) (p : Pkt) : (s.afterTake p).pon = s.pon := s.takePkt_pon p
@[simp] theorem State.afterTake_regs (s : State) (p : Pkt) : (s.afterTake p).regs = s.regs := s.takePkt_regs p

theorem State.ch_afterTake (s : State) (p : Pkt) (m : Nat) : (s.afterTake p).ch m = s.ch m :=
  State.ch_of_pon (s.afterTake_pon p) m

theorem State.rd_afterTake (s : State) (p : Pkt) (o : Nat) : (s.afterTake p).rd o = s.rd o := by
  simp only [State.rd, State.afterTake_regs]

/-- A taken packet of the right length at a channel ends as its command's own part says (R558). -/
theorem Taken.ends {i : Instr} {body : Nat → State → BodyOut} {len : Nat} {u : State} {r : CmdEnd} {P : State → Prop}
    (h : Taken op p s) (hexec : exec i s = runCmd op false (lenIs len p) (decide (p.target.toNat < 4)) body p s)
    (hlen : p.length = len) (htarget : p.target.toNat < 4) (hbody : body s.cmdId (s.afterTake p) = .fin u r) (hP : P u) :
    Ends i op p s r P := by
  obtain ⟨hbegin, -, hmode, -⟩ := id h
  refine ⟨u, hexec.trans ?_, hP⟩
  have hcheck := checkPkt_of_taken h
  rw [show lenIs len p = none from if_pos hlen, decide_eq_true htarget]
  exact runCmd_fin hbegin hmode hcheck hbody (.inl rfl)

/-- A change of the command's channel alone, seen from before the packet. -/
theorem setCh_afterTake (s : State) (p : Pkt) (n : Nat) (c : PonCh) :
    ((s.afterTake p).setCh n c).ch n = c ∧ (∀ k < 4, k ≠ n → ((s.afterTake p).setCh n c).ch k = s.ch k) ∧
      OnlyChanges [.pon] (s.afterTake p) ((s.afterTake p).setCh n c) := by
  obtain ⟨hn, hk, honly⟩ := (s.afterTake p).setCh_alone n c
  exact ⟨hn, fun k hk4 hne => (hk k hk4 hne).trans (s.ch_afterTake p k), honly⟩

theorem onlyChanges_nil_refl (s : State) : OnlyChanges [] s s := fun x _ => x.same_refl s

/-! PON_REG_ID, PON_MSK, PON_QUEUES. -/

theorem ponRegId_spec (h : Taken 0x1002 p s) (hlen : p.length = 9) (htarget : p.target.toNat < 4) :
    Ends (.ponRegId p) 0x1002 p s ⟨stDone, 0, []⟩ fun u =>
      u.ch p.target.toNat = { s.ch p.target.toNat with regId := p.bytes } ∧
      (∀ k < 4, k ≠ p.target.toNat → u.ch k = s.ch k) ∧ OnlyChanges [.pon] (s.afterTake p) u :=
  Taken.ends h (exec_ponRegId p s) hlen htarget rfl (by
    rw [State.ch_afterTake]
    exact setCh_afterTake s p _ _)

theorem ponMsk_spec (h : Taken 0x1003 p s) (hlen : p.length = 4) (htarget : p.target.toNat < 4) :
    Ends (.ponMsk p) 0x1003 p s ⟨stDone, 0, []⟩ fun u =>
      u.ch p.target.toNat = { s.ch p.target.toNat with mskNext := some p.bytes } ∧
      (∀ k < 4, k ≠ p.target.toNat → u.ch k = s.ch k) ∧ OnlyChanges [.pon] (s.afterTake p) u :=
  Taken.ends h (exec_ponMsk p s) hlen htarget rfl (by
    rw [State.ch_afterTake]
    exact setCh_afterTake s p _ _)

theorem ponQueues_spec (h : Taken 0x1007 p s) (hlen : p.length = 1) (htarget : p.target.toNat < 4)
    (h0 : leAt p.bytes 0 1 ≤ 63) (h1 : leAt p.bytes 1 1 ≤ 63) (h2 : leAt p.bytes 2 1 ≤ 63) :
    Ends (.ponQueues p) 0x1007 p s ⟨stDone, 0, []⟩ fun u =>
      u.ch p.target.toNat = { s.ch p.target.toNat with ploamQ := some (leAt p.bytes 0 1), omccDq := some (leAt p.bytes 1 1), omccHq := some (leAt p.bytes 2 1) } ∧
      (∀ k < 4, k ≠ p.target.toNat → u.ch k = s.ch k) ∧ OnlyChanges [.pon] (s.afterTake p) u :=
  Taken.ends h (exec_ponQueues p s) hlen htarget (if_neg (by omega)) (by
    rw [State.ch_afterTake]
    exact setCh_afterTake s p _ _)

theorem ponQueues_refused (h : Taken 0x1007 p s) (hlen : p.length = 1) (htarget : p.target.toNat < 4)
    (hbad : 63 < leAt p.bytes 0 1 ∨ 63 < leAt p.bytes 1 1 ∨ 63 < leAt p.bytes 2 1) :
    Ends (.ponQueues p) 0x1007 p s ⟨stBadParam, 0, []⟩ fun u => OnlyChanges [] (s.afterTake p) u :=
  Taken.ends h (exec_ponQueues p s) hlen htarget (if_pos hbad) (onlyChanges_nil_refl _)

/-! PON_PORT_ADD and PON_PORT_REMOVE (R123, R124). -/

theorem PonCh.portOf_set (c : PonCh) (port : Nat) (y : XPort) :
    PonCh.portOf { c with ports := sparseSet (fun _ => {}) c.ports port y } port = y := by
  simp [PonCh.portOf]

/-- A port of the command's channel takes a value. -/
theorem setPort_afterTake (s : State) (p : Pkt) (n port : Nat) (y : XPort) :
    let u := (s.afterTake p).setCh n
      { (s.afterTake p).ch n with ports := sparseSet (fun _ => {}) ((s.afterTake p).ch n).ports port y }
    (u.ch n).portOf port = y ∧ (∀ k < 4, k ≠ n → u.ch k = s.ch k) ∧ OnlyChanges [.pon] (s.afterTake p) u := by
  obtain ⟨hn, hk, honly⟩ := setCh_afterTake s p n
    { (s.afterTake p).ch n with ports := sparseSet (fun _ => {}) ((s.afterTake p).ch n).ports port y }
  exact ⟨by rw [hn, PonCh.portOf_set], hk, honly⟩

/-- Is a port in the set to come: in force or due, and not due out? -/
def XPort.kept (x : XPort) : Bool := (x.inForce || x.addDue) && !x.delDue

section
variable (h : Taken 0x1004 p s) (hlen : p.length = 1) (htarget : p.target.toNat < 4)
include h hlen htarget

theorem ponPortAdd_added (hport : p.w 0 ≤ 65535) (hnew : ((s.ch p.target.toNat).portOf (p.w 0)).kept = false)
    (hroom : (s.ch p.target.toNat).portCount < 1023) :
    Ends (.ponPortAdd p) 0x1004 p s ⟨stDone, 0, []⟩ fun u =>
      (u.ch p.target.toNat).portOf (p.w 0) =
        { (s.ch p.target.toNat).portOf (p.w 0) with addDue := !((s.ch p.target.toNat).portOf (p.w 0)).inForce, delDue := false } ∧
      (∀ k < 4, k ≠ p.target.toNat → u.ch k = s.ch k) ∧ OnlyChanges [.pon] (s.afterTake p) u := by
  refine Taken.ends h (exec_ponPortAdd p s) hlen htarget
    ((if_neg (by omega)).trans ((if_neg ?_).trans (if_neg ?_))) ?_
  · rw [State.ch_afterTake]
    simpa [XPort.kept] using hnew
  · rw [State.ch_afterTake]
    omega
  · obtain ⟨hset, hk, honly⟩ := setPort_afterTake s p p.target.toNat (p.w 0) _
    refine ⟨hset.trans ?_, hk, honly⟩
    rw [State.ch_afterTake]

theorem ponPortAdd_kept (hport : p.w 0 ≤ 65535) (hkept : ((s.ch p.target.toNat).portOf (p.w 0)).kept = true) :
    Ends (.ponPortAdd p) 0x1004 p s ⟨stDone, 0, []⟩ fun u => OnlyChanges [] (s.afterTake p) u := by
  refine Taken.ends h (exec_ponPortAdd p s) hlen htarget ((if_neg (by omega)).trans (if_pos ?_)) (onlyChanges_nil_refl _)
  rw [State.ch_afterTake]
  exact hkept

theorem ponPortAdd_full (hport : p.w 0 ≤ 65535) (hnew : ((s.ch p.target.toNat).portOf (p.w 0)).kept = false)
    (hfull : 1023 ≤ (s.ch p.target.toNat).portCount) :
    Ends (.ponPortAdd p) 0x1004 p s ⟨stNoResource, 0, []⟩ fun u => OnlyChanges [] (s.afterTake p) u := by
  refine Taken.ends h (exec_ponPortAdd p s) hlen htarget
    ((if_neg (by omega)).trans ((if_neg ?_).trans (if_pos ?_))) (onlyChanges_nil_refl _)
  · rw [State.ch_afterTake]
    simpa [XPort.kept] using hnew
  · rw [State.ch_afterTake]
    exact hfull

theorem ponPortAdd_refused (hport : 65535 < p.w 0) :
    Ends (.ponPortAdd p) 0x1004 p s ⟨stBadParam, 0, []⟩ fun u => OnlyChanges [] (s.afterTake p) u :=
  Taken.ends h (exec_ponPortAdd p s) hlen htarget (if_pos hport) (onlyChanges_nil_refl _)
end

theorem ponPortRemove_removed (h : Taken 0x1005 p s) (hlen : p.length = 1) (htarget : p.target.toNat < 4)
    (hport : p.w 0 ≤ 65535) :
    Ends (.ponPortRemove p) 0x1005 p s ⟨stDone, 0, []⟩ fun u =>
      (u.ch p.target.toNat).portOf (p.w 0) =
        { (s.ch p.target.toNat).portOf (p.w 0) with addDue := false, delDue := ((s.ch p.target.toNat).portOf (p.w 0)).inForce } ∧
      (∀ k < 4, k ≠ p.target.toNat → u.ch k = s.ch k) ∧ OnlyChanges [.pon] (s.afterTake p) u := by
  refine Taken.ends h (exec_ponPortRemove p s) hlen htarget (if_neg (by omega)) ?_
  obtain ⟨hset, hk, honly⟩ := setPort_afterTake s p p.target.toNat (p.w 0) _
  refine ⟨hset.trans ?_, hk, honly⟩
  rw [State.ch_afterTake]

theorem ponPortRemove_refused (h : Taken 0x1005 p s) (hlen : p.length = 1) (htarget : p.target.toNat < 4)
    (hport : 65535 < p.w 0) :
    Ends (.ponPortRemove p) 0x1005 p s ⟨stBadParam, 0, []⟩ fun u => OnlyChanges [] (s.afterTake p) u :=
  Taken.ends h (exec_ponPortRemove p s) hlen htarget (if_pos hport) (onlyChanges_nil_refl _)

end Sys2Proof.Machine
end

section
/-! What firmware's records, messages and LULL transitions touch (R94, R116, R117, R134 to R137, R406 to R409). -/

namespace Sys2Proof.Machine

variable {s t : State} {n : Nat}

/-! Buffers for records. -/

/-- The counters of the requests for buffers. -/
def requestCtrs : List Ctr :=
  C.BUF_TOO_BIG :: (List.range 4).flatMap fun i => [C.BUF_EMPTY i, C.BUF_CACHE_STALL i, C.BUF_ALLOC i, C.BUF_FELL_OVER i]

/-- What a request for a buffer touches. -/
@[simp] def requestReach : Reach := ⟨[.regs, .cnt, .arb, .buf], [(fun _ => R.BUF_SAT, 0)], requestCtrs⟩

theorem mem_requestCtrs {i : Nat} (hi : i < 4) {c : Ctr}
    (hc : c ∈ [C.BUF_EMPTY i, C.BUF_CACHE_STALL i, C.BUF_ALLOC i, C.BUF_FELL_OVER i]) : c ∈ requestCtrs :=
  List.mem_cons_of_mem _ (List.mem_flatMap.mpr ⟨i, List.mem_range.mpr hi, hc⟩)

theorem State.tellEmpty_touches (s : State) (i agent : Nat) : Touches ⟨[.buf, .arb], [], []⟩ s (s.tellEmpty i agent) := by
  unfold State.tellEmpty
  exact .ite (fun _ => .refl _ s) (fun _ => ((Touches.refl _ s).part (s.setPool_touches ..)).part
    (State.raiseRow_touches ..))

/-- Then a traffic counter counts. -/
theorem Touches.bumpWide {G : Reach} (h : Touches G s t) {c : Ctr} (hw : c.wide = true)
    (hps : .cnt ∈ G.parts := by simp) (hctr : c ∈ G.ctrs := by simp) : Touches G s (t.bump c) :=
  h.next (t.bumpBy_touches_of_wide 1 hw) ⟨by simpa using hps, by simp, by simpa using hctr⟩

theorem Touches.emptyPool {u : State} {first : Nat} (h : Touches requestReach s u) (hfirst : first < 4) (agent : Nat) :
    Touches requestReach s ((u.bump (C.BUF_EMPTY first)).tellEmpty first agent) :=
  (h.bump _ (fun _ => R.BUF_SAT, 0) rfl (hctr := mem_requestCtrs hfirst (by simp))).part (State.tellEmpty_touches ..)

theorem allocFrom_touches (agent : Nat) {first : Nat} (hfirst : first < 4) (k : Nat) (s : State) {i : Nat} (hi : i < 4) :
    Touches requestReach s (allocFrom s agent first k i).1 := by
  induction k generalizing s i with
  | zero => exact (Touches.refl _ s).emptyPool hfirst agent
  | succ k ih =>
    rw [allocFrom]
    extract_lets stall u q
    have hu : Touches requestReach s u :=
      .ite (fun _ => (Touches.refl _ s).bump _ (fun _ => R.BUF_SAT, 0) rfl (hctr := mem_requestCtrs hi (by simp)))
        (fun _ => .refl _ s)
    split
    · split
      · exact hu.emptyPool hfirst agent
      · exact ((hu.part (u.setPool_touches ..)).part (State.setOwner_touches ..)).bumpWide (c := C.BUF_ALLOC i) rfl
          (hctr := mem_requestCtrs hi (by simp))
    · split
      · next hnext =>
        have hi' : i + 1 < 4 := by omega
        exact ((Touches.refl _ s).bump (C.BUF_FELL_OVER i) (fun _ => R.BUF_SAT, 0) rfl
          (hctr := mem_requestCtrs hi (by simp))).trans (ih _ hi')
      · exact (Touches.refl _ s).emptyPool hfirst agent

theorem State.allocBuf_touches (s : State) (agent len : Nat) : Touches requestReach s (s.allocBuf agent len).1 := by
  unfold State.allocBuf
  split
  · exact (Touches.refl _ s).bump C.BUF_TOO_BIG (fun _ => R.BUF_SAT, 0) rfl (hctr := List.mem_cons_self ..)
  · extract_lets i
    have hi : i < 4 := by
      simp only [i]
      split_ifs <;> decide
    exact allocFrom_touches agent hi 4 s hi

/-! Records and messages of a channel. -/

/-- What a record for host software touches. -/
@[simp] def recordReach : Reach :=
  ⟨[.regs, .cnt, .arb, .buf, .sched], [(fun _ => R.BUF_SAT, 0)], requestCtrs ++ rejectCtrs⟩

theorem requestReach_within_recordReach : requestReach.Within recordReach :=
  ⟨by simp, by simp, fun _ h => List.mem_append_left _ h⟩

theorem freeReach_within_recordReach : freeReach.Within recordReach :=
  ⟨by simp, by simp, fun _ h => List.mem_append_right _ h⟩

theorem State.hostRecord_touches (s : State) (q src : Nat) (bs : List Byte) :
    Touches recordReach s (s.hostRecord q src bs) := by
  have halloc := (s.allocBuf_touches agCore bs.length).mono requestReach_within_recordReach
  unfold State.hostRecord
  split
  · next u heq =>
    rw [heq] at halloc
    exact halloc.part (State.queueDrop_touches ..)
  · next u id heq =>
    rw [heq] at halloc
    extract_lets v sched
    have hv : Touches recordReach s v := (halloc.next (u.handover_touches ..) freeReach_within_recordReach).part
      (State.setDests_touches ..)
    exact hv.part (v.sched_touches _)

theorem State.ploamCopy_touches (s : State) (n : Nat) (m : UpMsg) : Touches recordReach s (s.ploamCopy n m) := by
  unfold State.ploamCopy State.ploamRecord
  dsimp only
  split
  · split
    · exact .refl _ s
    · exact s.hostRecord_touches ..
  · exact .refl _ s

/-- What messages of a channel touch. -/
@[simp] def messageReach : Reach := ⟨.pon :: recordReach.parts, recordReach.regs, recordReach.ctrs⟩

theorem recordReach_within_messageReach : recordReach.Within messageReach :=
  ⟨fun _ h => List.mem_cons_of_mem _ h, fun _ h => h, fun _ h => h⟩

theorem State.sendUp_touches (s : State) (n : Nat) (m : UpMsg) : Touches messageReach s (s.sendUp n m) :=
  ((Touches.refl _ s).part (s.setCh_touches ..)).next (State.ploamCopy_touches ..) recordReach_within_messageReach

theorem State.sendAll_touches (s : State) (n : Nat) (ms : List UpMsg) : Touches messageReach s (s.sendAll n ms) := by
  induction ms generalizing s with
  | nil => exact .refl _ s
  | cons m ms ih => exact (s.sendUp_touches n m).trans (ih _)

/-- Messages keep the LULL mode and policy of their channel. -/
theorem State.sendAll_lullPolicy (s : State) (n : Nat) (ms : List UpMsg) :
    ((s.sendAll n ms).ch n).lullPolicy = (s.ch n).lullPolicy := by
  induction ms generalizing s with
  | nil => rfl
  | cons m ms ih =>
    have hcopy := (s.setCh n { s.ch n with ploamUp := (s.ch n).ploamUp ++ [m] }).ploamCopy_touches n m
    refine (ih (s.sendUp n m)).trans ?_
    rw [State.sendUp, hcopy.ch (by simp), State.ch_setCh, if_pos rfl]

/-! LULL. -/

/-- A channel whose LULL mode and policy stand as given. -/
structure PonCh.InLull (c : PonCh) (l : Lull) (policy : Nat) : Prop where
  lull : c.lull = l
  policy : c.lullPolicy = policy

theorem PonCh.InLull.of_sansStatus {c d : PonCh} {l : Lull} {policy : Nat} (h : d.sansStatus = c.sansStatus)
    (hc : c.InLull l policy) : d.InLull l policy :=
  ⟨(congr_of_sansStatus h PonCh.lull).trans hc.lull, (congr_of_sansStatus h PonCh.lullPolicy).trans hc.policy⟩

/-- What a channel's waking touches. -/
@[simp] def wakeReach : Reach := ⟨.lanes :: reevalReach.parts, reevalReach.regs, reevalReach.ctrs⟩

theorem reevalReach_within_wakeReach : reevalReach.Within wakeReach :=
  ⟨fun _ h => List.mem_cons_of_mem _ h, fun _ h => h, fun _ h => h⟩

/-- The transmitter of a waking channel becomes powered. -/
def State.wakeTx (s : State) (n : Nat) : State :=
  s.setCh n { s.ch n with txWaking := !(s.ch n).txPowered && (s.ch n).act != .o7, sleepDue := false }

theorem State.wake_eq (s : State) (n cause : Nat) : s.wake n cause =
    if (s.ch n).lull = .awake then s
    else ((((s.setLull n .awake cause).wakeTx n).rxPowerUp n).reeval n).laneEval (40 + n) := rfl

theorem State.wake_touches (s : State) (n cause : Nat) : Touches wakeReach s (s.wake n cause) := by
  rw [State.wake_eq]
  refine .ite (fun _ => .refl _ s) fun _ => ?_
  have htx : Touches wakeReach s ((s.setLull n .awake cause).wakeTx n) :=
    ((Touches.refl _ s).part (s.setLull_touches ..)).part (State.setCh_touches ..)
  exact ((htx.next (State.rxPowerUp_touches ..) reevalReach_within_wakeReach).next (State.reeval_touches ..)
    reevalReach_within_wakeReach).part (State.laneEval_touches _ (Nat.le_add_right 40 n))

theorem State.rxPowerUp_inLull (s : State) (n : Nat) {l : Lull} {policy : Nat} (h : (s.ch n).InLull l policy) :
    ((s.rxPowerUp n).ch n).InLull l policy := by
  cases hdown : (s.ch n).rxDown with
  | true => exact .of_sansStatus (s.rxPowerUp_changes hdown).self ⟨h.lull, h.policy⟩
  | false =>
    simp only [State.rxPowerUp, hdown, Bool.false_eq_true, if_false]
    exact h

/-- A channel that wakes is awake, its policy kept. -/
theorem State.wake_inLull (s : State) (n cause : Nat) : ((s.wake n cause).ch n).InLull .awake (s.ch n).lullPolicy := by
  rw [State.wake_eq]
  split
  · next h => exact ⟨h, rfl⟩
  · have hlull := (s.setLull_changes n .awake cause).self
    have htx : (((s.setLull n .awake cause).wakeTx n).ch n).InLull .awake (s.ch n).lullPolicy := by
      rw [State.wakeTx, State.ch_setCh, if_pos rfl]
      exact ⟨PonCh.congr_of_sansStatus hlull PonCh.lull, PonCh.congr_of_sansStatus hlull PonCh.lullPolicy⟩
    rw [State.ch_laneEval _ (Nat.le_add_right 40 n)]
    exact .of_sansStatus ((State.reeval_keepsChannels _ n).ch n) (State.rxPowerUp_inLull _ n htx)

theorem State.tryLull_touches (s : State) (n cause : Nat) : Touches ⟨[.pon, .arb], [], []⟩ s (s.tryLull n cause).1 := by
  unfold State.tryLull
  dsimp only
  split
  · exact ((Touches.refl _ s).part (s.setLull_touches ..)).part (State.setCh_touches ..)
  · exact .refl _ s

theorem State.tryLull_policy (s : State) (n cause : Nat) :
    ((s.tryLull n cause).1.ch n).lullPolicy = (s.ch n).lullPolicy := by
  unfold State.tryLull
  dsimp only
  split
  · rw [State.ch_setCh, if_pos rfl]
    exact PonCh.congr_of_sansStatus (s.setLull_changes n _ cause).self PonCh.lullPolicy
  · rfl

/-- What a LULL policy touches. -/
@[simp] def policyReach : Reach := ⟨wakeReach.parts, wakeReach.regs, wakeReach.ctrs ++ messageReach.ctrs⟩

theorem State.setLullPolicy_touches (s : State) (n v : Nat) : Touches policyReach s (s.setLullPolicy n v) := by
  unfold State.setLullPolicy
  extract_lets c u r
  have hu : Touches policyReach s u := (Touches.refl _ s).part (s.setCh_touches ..)
  refine .ite (fun _ => ?_) fun _ => ?_
  · exact hu.next (u.wake_touches n 1) ⟨fun _ h => h, fun _ h => h, fun _ h => List.mem_append_left _ h⟩
  · exact (hu.part (u.tryLull_touches n 1)).next (r.1.sendAll_touches n r.2)
      ⟨by simp, by simp, fun _ h => List.mem_append_right _ h⟩

/-- A policy is stored; one that no longer permits the mode in force wakes the channel (R134). -/
theorem State.setLullPolicy_ch (s : State) (n v : Nat) : ((s.setLullPolicy n v).ch n).lullPolicy = v ∧
    (v < (s.ch n).lull.code → ((s.setLullPolicy n v).ch n).lull = .awake) := by
  unfold State.setLullPolicy
  extract_lets c u r
  have hu : u.ch n = { s.ch n with lullPolicy := v } := by rw [State.ch_setCh, if_pos rfl]
  have hpolicy : (u.ch n).lullPolicy = v := by rw [hu]
  split
  · have hwake := u.wake_inLull n 1
    exact ⟨hwake.policy.trans hpolicy, fun _ => hwake.lull⟩
  · next hpermits =>
    refine ⟨(r.1.sendAll_lullPolicy n r.2).trans ((u.tryLull_policy n 1).trans hpolicy), fun h => absurd ?_ hpermits⟩
    rw [hu]
    exact h

/-- PON_LULL_POLICY (R134). -/
theorem ponLullPolicy_spec {p : Pkt} (h : Taken 0x1006 p s) (hlen : p.length = 1) (htarget : p.target.toNat < 4)
    (hpolicy : p.w 0 ≤ 2) :
    Ends (.ponLullPolicy p) 0x1006 p s ⟨stDone, 0, []⟩ fun u =>
      (u.ch p.target.toNat).lullPolicy = p.w 0 ∧
      (p.w 0 < (s.ch p.target.toNat).lull.code → (u.ch p.target.toNat).lull = .awake) ∧
      RegsKeptIn [R.BOND_SAT, fun _ => R.BUF_SAT, R.ETH_SAT, R.PON_STAT_SAT, fun _ => R.SCH_SAT, R.SVL_SAT] s u ∧
      OnlyChanges [.freeCtr, .regs, .cnt, .arb, .fns, .pon, .bonding, .buf, .sched, .clsIn, .svl, .mac,
        .lanes] (s.afterTake p) u := by
  have hreach := (s.afterTake p).setLullPolicy_touches p.target.toNat (p.w 0)
  obtain ⟨hstored, hawake⟩ := (s.afterTake p).setLullPolicy_ch p.target.toNat (p.w 0)
  rw [State.ch_afterTake] at hawake
  refine Taken.ends h (exec_ponLullPolicy p s) hlen htarget (if_neg (by omega)) ⟨hstored, hawake, fun o ho => ?_,
    hreach.onlyChanges (by simp)⟩
  rw [← s.rd_afterTake p o]
  exact hreach.regsKeptIn (by simp) o ho

theorem ponLullPolicy_refused {p : Pkt} (h : Taken 0x1006 p s) (hlen : p.length = 1) (htarget : p.target.toNat < 4)
    (hpolicy : 2 < p.w 0) :
    Ends (.ponLullPolicy p) 0x1006 p s ⟨stBadParam, 0, []⟩ fun u => OnlyChanges [] (s.afterTake p) u :=
  Taken.ends h (exec_ponLullPolicy p s) hlen htarget (if_pos hpolicy) (onlyChanges_nil_refl _)

end Sys2Proof.Machine
end

section
/-! PON_CFG (R63, R64, R70 to R74, R97, R104, R120, R138, R319), and O20. -/

namespace Sys2Proof.Machine

variable {s t : State} {n : Nat}

/-! A write of a register's RW bits. -/

theorem State.rd_wrRw (s : State) (off v o : Nat) :
    (s.wrRw off v).rd o = if o = off then s.rwAfter off v else s.rd o := by
  unfold State.wrRw State.rwAfter
  cases regSpecAt off with
  | none => exact (ite_eq_right_iff.mpr fun h => h ▸ rfl).symm
  | some r => exact s.rd_wr ..

theorem State.rwAfter_congr {off : Nat} (h : t.rd off = s.rd off) (v : Nat) : t.rwAfter off v = s.rwAfter off v := by
  unfold State.rwAfter
  rw [h]

/-! The serialiser's sets of a mode (R319). -/

/-- What a load of a lane's sets touches. -/
@[simp] def txfirReach (l : Nat) : Reach :=
  ⟨[.regs, .arb], (R.LANE_STATUS, l) :: (List.range 3).map (fun r => (fun i => R.LANE_TXFIR (i / 1024) (i % 1024), l * 1024 + r)), []⟩

theorem State.writeTxfir_touches (s : State) (l : Nat) {r : Nat} (hr : r < 3) (v : Nat) :
    Touches (txfirReach l) s (s.writeTxfir l r v).1 := by
  unfold State.writeTxfir
  dsimp only
  split
  · exact .refl _ s
  · split
    · have hset : Touches (txfirReach l) s (s.setFld (F.LANE_STATUS_EQ_REFUSED l) 1) :=
        (s.setFld_touches _ _ (R.LANE_STATUS, l) rfl).mono ⟨by simp, by simp, by simp⟩
      exact hset.part (State.raiseRow_touches ..)
    · have hoff : R.LANE_TXFIR ((l * 1024 + r) / 1024) ((l * 1024 + r) % 1024) = R.LANE_TXFIR l r := by
        rw [show (l * 1024 + r) / 1024 = l by omega, show (l * 1024 + r) % 1024 = r by omega]
      have hw := (s.wrRw_touches v (fun i => R.LANE_TXFIR (i / 1024) (i % 1024), l * 1024 + r)).mono (G := txfirReach l)
        ⟨by simp, by simp [hr], by simp⟩
      rw [← hoff]
      exact hw

theorem State.loadPonSets_touches (s : State) (n : Nat) : Touches (txfirReach (40 + n)) s (s.loadPonSets n) :=
  .foldl (fun u e => u.writeTxfir_touches _ e.2.2.1.isLt _) _ s

/-! PON_RX_CFG. -/

/-- What a write of PON_RX_CFG touches. -/
@[simp] def rxCfgReach (n : Nat) : Reach :=
  ⟨.out :: .freeCtr :: .lanes :: (syncLossReach n).parts,
    (R.PON_RX_CFG, n) :: ((txfirReach (40 + n)).regs ++ (syncLossReach n).regs), (syncLossReach n).ctrs⟩

theorem syncLossReach_within_rxCfgReach (n : Nat) : (syncLossReach n).Within (rxCfgReach n) :=
  ⟨by simp, fun _ h => List.mem_cons_of_mem _ (List.mem_append_right _ h), fun _ h => h⟩

theorem txfirReach_within_rxCfgReach (n : Nat) : (txfirReach (40 + n)).Within (rxCfgReach n) :=
  ⟨by simp, fun _ h => List.mem_cons_of_mem _ (List.mem_append_left _ h), by simp⟩

theorem State.rxEnable_spec (s : State) (n : Nat) :
    Touches (rxCfgReach n) s (s.rxEnable n) ∧ (s.rxEnable n).fld (F.PON_RX_CFG_ENABLE n) = 1 := by
  cases hen : s.flag (F.PON_RX_CFG_ENABLE n) with
  | true =>
    simp only [State.rxEnable, hen, if_true]
    refine ⟨.refl _ s, ?_⟩
    have hne : s.fld (F.PON_RX_CFG_ENABLE n) ≠ 0 := by simpa [State.flag] using hen
    simp only [State.fld, bitsOf] at hne ⊢
    omega
  | false =>
    obtain ⟨u, hu, hfld, -, heq⟩ := s.rxEnable_cases hen
    rw [heq]
    exact ⟨(hu.mono ⟨by simp, by simp, by simp⟩).part (u.setCh_touches ..),
      ((u.setCh_touches ..).fld _ (by simp)).trans hfld⟩

theorem State.rxDisable_spec (s : State) (hn : n < 4) (mid : Bool) :
    Touches (rxCfgReach n) s (s.rxDisable n mid) ∧ (s.rxDisable n mid).fld (F.PON_RX_CFG_ENABLE n) = 0 := by
  cases hen : s.flag (F.PON_RX_CFG_ENABLE n) with
  | true =>
    have hr := s.stopReceiver_touches n
    have ht := s.rxDisable_cases hen mid
    refine ⟨(hr.mono ⟨by simp, by simp, by simp⟩).next ht (syncLossReach_within_rxCfgReach n), ?_⟩
    rw [ht.fld _ (rxCfg_notMem_syncLossReach hn), s.fld_stopReceiver]
  | false =>
    simp only [State.rxDisable, hen, Bool.false_eq_true, if_false]
    exact ⟨.refl _ s, by simpa [State.flag] using hen⟩

/-- A write of PON_RX_CFG leaves ENABLE as written (R64). -/
theorem State.writeRxCfg_spec (s : State) (hn : n < 4) (v : Nat) : Touches (rxCfgReach n) s (s.writeRxCfg n v) ∧
    (s.writeRxCfg n v).fld (F.PON_RX_CFG_ENABLE n) = bitsOf v 0 0 := by
  unfold State.writeRxCfg
  extract_lets old mode u w
  have hu : Touches (rxCfgReach n) s u := .ite (fun _ => .refl _ s) fun _ =>
    ((s.wrRw_touches _ (R.PON_RX_CFG, n)).mono ⟨by simp, by simp, by simp⟩).part (State.setCh_touches ..)
  have hw : Touches (rxCfgReach n) s w :=
    .ite (fun _ => hu) fun _ => hu.next (u.loadPonSets_touches n) (txfirReach_within_rxCfgReach n)
  have hbit : bitsOf v 0 0 = if bit v 0 then 1 else 0 := by
    simp only [bitsOf, bit, Nat.shiftRight_zero, Nat.testBit_zero, decide_eq_true_eq]
    split <;> omega
  rw [hbit]
  split
  · exact ⟨hw.trans (w.rxEnable_spec n).1, (w.rxEnable_spec n).2⟩
  · split
    · exact ⟨(hw.part w.nextFree_touches).trans (w.nextFree.rxDisable_spec hn _).1, (w.nextFree.rxDisable_spec hn _).2⟩
    · exact ⟨hw.trans (w.rxDisable_spec hn false).1, (w.rxDisable_spec hn false).2⟩

/-! PON_EQ_CTL and PON_TC_CFG. -/

/-- What a write of PON_EQ_CTL touches. -/
@[simp] def eqCtlReach (n : Nat) : Reach := ⟨[.pon, .freeCtr, .regs], [(R.PON_EQ_CTL, n)], []⟩

theorem State.eqAdapt_touches (s : State) (n : Nat) : Touches ⟨[.pon, .freeCtr], [], []⟩ s (s.eqAdapt n) := by
  unfold State.eqAdapt
  exact .ite (fun _ => .refl _ s)
    (fun _ => ((Touches.refl _ s).part (s.eqRun_touches n _)).part (State.nextFree_touches _))

theorem State.writeEqCtl_spec (s : State) (n v : Nat) : Touches (eqCtlReach n) s (s.writeEqCtl n v) ∧
    (s.writeEqCtl n v).rd (R.PON_EQ_CTL n) = s.rwAfter (R.PON_EQ_CTL n) v := by
  unfold State.writeEqCtl
  extract_lets a thaw w c x y
  have ha : Touches ⟨[.pon, .freeCtr], [], []⟩ s a := s.eqAdapt_touches n
  have hwr : Touches (eqCtlReach n) s (a.wrRw (R.PON_EQ_CTL n) v) :=
    (ha.mono ⟨by simp, by simp, by simp⟩).next (a.wrRw_touches v (R.PON_EQ_CTL, n)) ⟨by simp, by simp, by simp⟩
  have hw : Touches ⟨[.pon, .freeCtr], [], []⟩ (a.wrRw (R.PON_EQ_CTL n) v) w :=
    (Touches.refl _ _).part (State.setCh_touches ..)
  have hx : Touches ⟨[.pon, .freeCtr], [], []⟩ w x :=
    .ite (fun _ => (Touches.refl _ w).part (w.setCh_touches ..)) (fun _ => .refl _ w)
  have hy : Touches ⟨[.pon, .freeCtr], [], []⟩ x y :=
    .ite (fun _ => (Touches.refl _ x).part (x.setCh_touches ..)) (fun _ => .refl _ x)
  have hz : Touches ⟨[.pon, .freeCtr], [], []⟩ y
      (if bit v 2 then y.nextFree.eqLatch n (Config.eqMse y.freeCtr).toNat else y) :=
    .ite (fun _ => ((Touches.refl _ y).part y.nextFree_touches).part (State.setCh_touches ..)) (fun _ => .refl _ y)
  have hrest := ((hw.trans hx).trans hy).trans hz
  refine ⟨hwr.next hrest ⟨by simp, by simp, by simp⟩, ?_⟩
  rw [hrest.regs _ (by simp), State.rd_wrRw, if_pos rfl]
  exact State.rwAfter_congr (ha.regs _ (by simp)) v

/-- What a write of PON_TC_CFG touches. -/
@[simp] def tcCfgReach (n : Nat) : Reach := ⟨reevalReach.parts, (R.PON_TC_CFG, n) :: reevalReach.regs, reevalReach.ctrs⟩

theorem reevalReach_within_tcCfgReach (n : Nat) : reevalReach.Within (tcCfgReach n) :=
  ⟨fun _ h => h, fun _ h => List.mem_cons_of_mem _ h, fun _ h => h⟩

theorem State.writeTcCfg_spec (s : State) (n v : Nat) : Touches (tcCfgReach n) s (s.writeTcCfg n v) ∧
    (n < 4 → (s.writeTcCfg n v).rd (R.PON_TC_CFG n) = s.rwAfter (R.PON_TC_CFG n) v) := by
  unfold State.writeTcCfg
  extract_lets w
  have hw : Touches (tcCfgReach n) s w := (s.wrRw_touches v (R.PON_TC_CFG, n)).mono ⟨by simp, by simp, by simp⟩
  have hz : Touches reevalReach w (if bit v 0 then w else w.tryO23 n) :=
    .ite (fun _ => .refl _ w) (fun _ => w.tryO23_touches n)
  refine ⟨hw.next hz (reevalReach_within_tcCfgReach n), fun hn => ?_⟩
  rw [hz.regs, State.rd_wrRw, if_pos rfl]
  simp [R.BUF_SAT, R.SCH_SAT, R.BOND_SAT, R.PON_TC_CFG]
  exact ⟨by omega, by omega, fun g hg => by omega⟩

end Sys2Proof.Machine
end

section
/-! PON_CFG (R63, R64, R70 to R74, R97, R104, R120, R138, R319). -/

namespace Sys2Proof.Machine

variable {n : Nat}

/-- The registers of PON_CFG whose value afterwards is the one written. -/
def ponCfgOffs (n : Nat) : List Nat :=
  [R.PON_FE_CFG n, R.PON_SYNC_CFG n, R.PON_FEC_CFG n, R.PON_STAT_CTL n, R.PON_EQ_CTL n, R.PON_TC_CFG n]

/-! They stand apart from what the parts of PON_CFG touch besides. -/

theorem ponCfgOffs_notMem_rxCfgReach (n : Fin 4) : ∀ o ∈ ponCfgOffs n.val, ∀ r ∈ (rxCfgReach n.val).regs, r.1 r.2 ≠ o := by
  revert n; decide

theorem ponCfgOffs_notMem_reevalReach (n : Fin 4) : ∀ o ∈ ponCfgOffs n.val, ∀ r ∈ reevalReach.regs, r.1 r.2 ≠ o := by
  revert n; decide

theorem State.writeRxCfg_rd (s : State) (n : Fin 4) (v : Nat) {o : Nat} (ho : o ∈ ponCfgOffs n.val) :
    (s.writeRxCfg n.val v).rd o = s.rd o :=
  (s.writeRxCfg_spec n.isLt v).1.regs o (ponCfgOffs_notMem_rxCfgReach n o ho)

theorem State.writeEqCtl_rd (s : State) (n v o : Nat) :
    (s.writeEqCtl n v).rd o = if o = R.PON_EQ_CTL n then s.rwAfter o v else s.rd o := by
  obtain ⟨htouch, hrd⟩ := s.writeEqCtl_spec n v
  split
  · next h => exact h ▸ hrd
  · next h => exact htouch.regs o (by simpa [eq_comm] using h)

theorem State.writeTcCfg_rd (s : State) (n : Fin 4) (v : Nat) {o : Nat} (ho : o ∈ ponCfgOffs n.val) :
    (s.writeTcCfg n.val v).rd o = if o = R.PON_TC_CFG n.val then s.rwAfter o v else s.rd o := by
  obtain ⟨htouch, hrd⟩ := s.writeTcCfg_spec n.val v
  split
  · next h => exact h ▸ hrd n.isLt
  · next h =>
    refine htouch.regs o (List.forall_mem_cons.mpr ⟨Ne.symm h, ponCfgOffs_notMem_reevalReach n o ho⟩)

theorem State.rwAfter_wrRw_of_ne {s : State} {off off' : Nat} (h : off ≠ off') (v v' : Nat) :
    (s.wrRw off' v').rwAfter off v = s.rwAfter off v :=
  State.rwAfter_congr ((s.rd_wrRw off' v' off).trans (if_neg h)) v

/-- The registers that PON_CFG only stores, PON_STAT_CTL's copy taken. -/
def State.ponCfgStore (s : State) (n : Nat) (p : Pkt) : State :=
  let u := (((s.wrRw (R.PON_FE_CFG n) (p.w 1)).wrRw (R.PON_SYNC_CFG n) (p.w 3)).wrRw (R.PON_FEC_CFG n) (p.w 4)).wrRw
    (R.PON_STAT_CTL n) (p.w 5)
  if bit (p.w 5) 0 then u.ponCopy n false else u

/-- What PON_CFG does to its channel. -/
def State.ponCfg (s : State) (n : Nat) (p : Pkt) : State :=
  (((s.ponCfgStore n p).writeRxCfg n (p.w 0)).writeEqCtl n (p.w 2)).writeTcCfg n (p.w 6)

/-- What the stored registers touch. -/
@[simp] def storeReach (n : Nat) : Reach :=
  ⟨[.regs, .bank], [(R.PON_FE_CFG, n), (R.PON_SYNC_CFG, n), (R.PON_FEC_CFG, n), (R.PON_STAT_CTL, n)], []⟩

/-- Then a register's RW bits are written. -/
theorem Touches.wrRw {G : Reach} {s t : State} (h : Touches G s t) (v : Nat) (r : (Nat → Nat) × Nat)
    (hps : .regs ∈ G.parts := by simp) (hr : r ∈ G.regs := by simp) : Touches G s (t.wrRw (r.1 r.2) v) :=
  h.next (t.wrRw_touches v r) ⟨by simpa using hps, by simpa using hr, by simp⟩

theorem State.ponCfgStore_touches (s : State) (n : Nat) (p : Pkt) : Touches (storeReach n) s (s.ponCfgStore n p) := by
  unfold State.ponCfgStore
  have hwr := ((((Touches.refl (storeReach n) s).wrRw (p.w 1) (R.PON_FE_CFG, n)).wrRw (p.w 3) (R.PON_SYNC_CFG, n)).wrRw
    (p.w 4) (R.PON_FEC_CFG, n)).wrRw (p.w 5) (R.PON_STAT_CTL, n)
  refine .ite (fun _ => ?_) (fun _ => hwr)
  rw [State.ponCopy_demand]
  exact hwr.part (State.copyBank_touches ..)

theorem State.ponCfgStore_rd (s : State) (n : Nat) (p : Pkt) (o : Nat) : (s.ponCfgStore n p).rd o =
    if o = R.PON_STAT_CTL n then s.rwAfter o (p.w 5) else if o = R.PON_FEC_CFG n then s.rwAfter o (p.w 4)
    else if o = R.PON_SYNC_CFG n then s.rwAfter o (p.w 3) else if o = R.PON_FE_CFG n then s.rwAfter o (p.w 1)
    else s.rd o := by
  unfold State.ponCfgStore
  extract_lets u
  have hcopy : (if bit (p.w 5) 0 then u.ponCopy n false else u).rd o = u.rd o := by
    split
    · rw [State.ponCopy_demand]
      exact (u.copyBank_touches ..).regs o (by simp)
    · rfl
  have hne : R.PON_STAT_CTL n ≠ R.PON_FEC_CFG n ∧ R.PON_STAT_CTL n ≠ R.PON_SYNC_CFG n ∧ R.PON_STAT_CTL n ≠ R.PON_FE_CFG n ∧
      R.PON_FEC_CFG n ≠ R.PON_SYNC_CFG n ∧ R.PON_FEC_CFG n ≠ R.PON_FE_CFG n ∧ R.PON_SYNC_CFG n ≠ R.PON_FE_CFG n := by
    simp [R.PON_FE_CFG, R.PON_SYNC_CFG, R.PON_FEC_CFG, R.PON_STAT_CTL]
  obtain ⟨h1, h2, h3, h4, h5, h6⟩ := hne
  rw [hcopy]
  simp only [u, State.rd_wrRw]
  split_ifs with hst hfec hsync hfe
  · simp only [hst, State.rwAfter_wrRw_of_ne h1, State.rwAfter_wrRw_of_ne h2, State.rwAfter_wrRw_of_ne h3]
  · simp only [hfec, State.rwAfter_wrRw_of_ne h4, State.rwAfter_wrRw_of_ne h5]
  · simp only [hsync, State.rwAfter_wrRw_of_ne h6]
  · rw [hfe]
  · rfl

theorem State.ponCfgStore_rd_of_notMem (s : State) (n : Nat) (p : Pkt) {o : Nat}
    (ho : o = R.PON_EQ_CTL n ∨ o = R.PON_TC_CFG n) : (s.ponCfgStore n p).rd o = s.rd o := by
  refine (s.ponCfgStore_touches n p).regs o ?_
  obtain rfl | rfl := ho <;> simp [R.PON_FE_CFG, R.PON_SYNC_CFG, R.PON_FEC_CFG, R.PON_STAT_CTL, R.PON_EQ_CTL, R.PON_TC_CFG]

theorem State.ponCfg_rd_of_mem (s : State) (n : Fin 4) (p : Pkt) {o : Nat} (ho : o ∈ ponCfgOffs n.val) :
    (s.ponCfg n.val p).rd o =
      if o = R.PON_TC_CFG n.val then s.rwAfter o (p.w 6) else if o = R.PON_EQ_CTL n.val then s.rwAfter o (p.w 2)
      else (s.ponCfgStore n.val p).rd o := by
  have hrx : ∀ v, ((s.ponCfgStore n.val p).writeRxCfg n.val v).rd o = (s.ponCfgStore n.val p).rd o :=
    fun v => State.writeRxCfg_rd _ n v ho
  have hne : R.PON_TC_CFG n.val ≠ R.PON_EQ_CTL n.val := by simp [R.PON_EQ_CTL, R.PON_TC_CFG]
  unfold State.ponCfg
  rw [State.writeTcCfg_rd _ n _ ho, State.writeEqCtl_rd, hrx]
  split_ifs with htc heq
  · refine State.rwAfter_congr ?_ _
    rw [State.writeEqCtl_rd, if_neg (htc ▸ hne), hrx, s.ponCfgStore_rd_of_notMem n.val p (.inr htc)]
  · exact State.rwAfter_congr ((hrx _).trans (s.ponCfgStore_rd_of_notMem n.val p (.inl heq))) _
  · rfl

/-- The registers of PON_CFG whose value afterwards is the one written, with their words of the payload. -/
def ponCfgWords (n : Nat) (p : Pkt) : List (Nat × Nat) :=
  [(R.PON_FE_CFG n, p.w 1), (R.PON_EQ_CTL n, p.w 2), (R.PON_SYNC_CFG n, p.w 3), (R.PON_FEC_CFG n, p.w 4),
    (R.PON_STAT_CTL n, p.w 5), (R.PON_TC_CFG n, p.w 6)]

/-- Each register of PON_CFG reads as written (R97, R138). -/
theorem State.ponCfg_rd (s : State) (n : Fin 4) (p : Pkt) :
    ∀ e ∈ ponCfgWords n.val p, (s.ponCfg n.val p).rd e.1 = s.rwAfter e.1 e.2 := by
  intro e he
  have hmem : e.1 ∈ ponCfgOffs n.val := by
    simp only [ponCfgWords, List.mem_cons, List.not_mem_nil, or_false] at he
    obtain rfl | rfl | rfl | rfl | rfl | rfl := he <;> simp [ponCfgOffs]
  rw [s.ponCfg_rd_of_mem n p hmem, State.ponCfgStore_rd]
  simp only [ponCfgWords, List.mem_cons, List.not_mem_nil, or_false] at he
  obtain rfl | rfl | rfl | rfl | rfl | rfl := he <;>
    simp [R.PON_FE_CFG, R.PON_SYNC_CFG, R.PON_FEC_CFG, R.PON_STAT_CTL, R.PON_EQ_CTL, R.PON_TC_CFG]

/-- ENABLE reads as written: the equaliser's and the TC layer's registers leave it. -/
theorem State.ponCfg_enable (s : State) (n : Fin 4) (p : Pkt) :
    (s.ponCfg n.val p).fld (F.PON_RX_CFG_ENABLE n.val) = bitsOf (p.w 0) 0 0 := by
  have htc : ∀ n : Fin 4, ∀ r ∈ (tcCfgReach n.val).regs, r.1 r.2 ≠ R.PON_RX_CFG n.val := by decide
  have heq : ∀ r ∈ (eqCtlReach n.val).regs, r.1 r.2 ≠ R.PON_RX_CFG n.val := by simp [R.PON_EQ_CTL, R.PON_RX_CFG]
  unfold State.ponCfg
  rw [(State.writeTcCfg_spec _ n.val _).1.fld _ (htc n), (State.writeEqCtl_spec _ n.val _).1.fld _ heq]
  exact (State.writeRxCfg_spec _ n.isLt _).2

/-- What PON_CFG touches. -/
@[simp] def ponCfgReach (n : Nat) : Reach :=
  ⟨.bank :: (rxCfgReach n).parts,
    (storeReach n).regs ++ (R.PON_EQ_CTL, n) :: (R.PON_TC_CFG, n) :: (rxCfgReach n).regs, (rxCfgReach n).ctrs⟩

theorem State.ponCfg_touches (s : State) (n : Fin 4) (p : Pkt) : Touches (ponCfgReach n.val) s (s.ponCfg n.val p) := by
  have hstore := (s.ponCfgStore_touches n.val p).mono (G := ponCfgReach n.val)
    ⟨by simp, fun _ h => List.mem_append_left _ h, by simp⟩
  have hrx := hstore.next (State.writeRxCfg_spec _ n.isLt (p.w 0)).1
    ⟨fun _ h => List.mem_cons_of_mem _ h,
      fun _ h => List.mem_append_right _ (List.mem_cons_of_mem _ (List.mem_cons_of_mem _ h)), fun _ h => h⟩
  have heq := hrx.next (State.writeEqCtl_spec _ n.val (p.w 2)).1 ⟨by simp, by simp, by simp⟩
  refine heq.next (State.writeTcCfg_spec _ n.val (p.w 6)).1 ⟨by simp, fun r h => ?_, fun _ h => List.mem_append_right _ h⟩
  obtain rfl | hreeval := List.mem_cons.mp h
  · simp
  · exact List.mem_append_right _ (List.mem_cons_of_mem _ (List.mem_cons_of_mem _
      ((syncLossReach_within_rxCfgReach n.val).regs _ ((reevalReach_within_syncLossReach n.val).regs _ hreeval))))

theorem ponCfg_spec {s : State} {p : Pkt} (h : Taken 0x1001 p s) (hlen : p.length = 7) (htarget : p.target.toNat < 4) :
    Ends (.ponCfg p) 0x1001 p s ⟨stDone, 0, []⟩ fun u =>
      u.rd (R.PON_FE_CFG p.target.toNat) = s.rwAfter (R.PON_FE_CFG p.target.toNat) (p.w 1) ∧
      u.rd (R.PON_EQ_CTL p.target.toNat) = s.rwAfter (R.PON_EQ_CTL p.target.toNat) (p.w 2) ∧
      u.rd (R.PON_SYNC_CFG p.target.toNat) = s.rwAfter (R.PON_SYNC_CFG p.target.toNat) (p.w 3) ∧
      u.rd (R.PON_FEC_CFG p.target.toNat) = s.rwAfter (R.PON_FEC_CFG p.target.toNat) (p.w 4) ∧
      u.rd (R.PON_STAT_CTL p.target.toNat) = s.rwAfter (R.PON_STAT_CTL p.target.toNat) (p.w 5) ∧
      u.rd (R.PON_TC_CFG p.target.toNat) = s.rwAfter (R.PON_TC_CFG p.target.toNat) (p.w 6) ∧
      u.fld (F.PON_RX_CFG_ENABLE p.target.toNat) = bitsOf (p.w 0) 0 0 ∧
      RegsKeptIn [R.BOND_SAT, fun _ => R.BUF_SAT, R.ETH_SAT, R.LANE_STATUS,
        fun i => R.LANE_TXFIR (i / 1024) (i % 1024), R.PON_EQ_CTL, R.PON_FEC_CFG, R.PON_FE_CFG, R.PON_RX_CFG,
        R.PON_STAT_CTL, R.PON_STAT_SAT, R.PON_SYNC_CFG, R.PON_TC_CFG, R.PON_TC_SAT, R.PON_US_SAT,
        fun _ => R.SCH_SAT, R.SVL_SAT, fun _ => R.TIME_SAT] s u ∧
      OnlyChanges [.out, .freeCtr, .regs, .cnt, .bank, .arb, .fns, .tick, .pon, .alloc, .bonding, .buf, .sched,
        .time, .clsIn, .svl, .mac, .lanes] (s.afterTake p) u := by
  let n : Fin 4 := ⟨p.target.toNat, htarget⟩
  have hreach := (s.afterTake p).ponCfg_touches n p
  have hrd : ∀ e ∈ ponCfgWords p.target.toNat p, ((s.afterTake p).ponCfg p.target.toNat p).rd e.1 = s.rwAfter e.1 e.2 :=
    fun e he => ((s.afterTake p).ponCfg_rd n p e he).trans (State.rwAfter_congr (s.rd_afterTake p e.1) _)
  simp only [ponCfgWords, List.forall_mem_cons, List.not_mem_nil, IsEmpty.forall_iff, implies_true, and_true] at hrd
  obtain ⟨hfe, heq, hsync, hfec, hstat, htc⟩ := hrd
  refine Taken.ends (u := (s.afterTake p).ponCfg p.target.toNat p) h (exec_ponCfg p s) hlen htarget rfl
    ⟨hfe, heq, hsync, hfec, hstat, htc,
    State.ponCfg_enable _ n p, fun o ho => ?_, hreach.onlyChanges (by simp)⟩
  rw [← s.rd_afterTake p o]
  exact hreach.regsKeptIn (by simp [or_imp, forall_and]) o ho

end Sys2Proof.Machine
end

section
/-! O20: downstream XGEM frames and the commands of the PON group. -/

namespace Sys2Proof.Machine

variable {s : State} {c : Fin 4} {x : Xgem} {lost : List (Nat × Bool)}

/-- A frame of the port set in the clear completes with what its fragment does. -/
theorem Xgem.Reaches.completes {P : State → Prop} (h : x.Reaches c.val s) (hkey : x.key = 0)
    (hP : P (s.fragment c.val x x.data)) : Completes (.xgemFrame c x lost) s P := by
  refine ⟨_, (exec_xgemFrame_of_reaches h).trans ?_, hP⟩
  rw [State.opened_of_clear hkey]
  rfl

/-- A frame whose key is not held completes with its fragment lost. -/
theorem Xgem.Reaches.completes_noKey {P : State → Prop} (h : x.Reaches c.val s) (hkey : x.key ≠ 0)
    (hheld : 2 < x.key ∨ s.keyHeld (dataSlot c.val x.key x.bcast) = false)
    (hP : P ((s.bump (C.TC_XGEM_KEY_MISS c.val)).loseFragment c.val x.port x.last)) :
    Completes (.xgemFrame c x lost) s P := by
  refine ⟨_, (exec_xgemFrame_of_reaches h).trans ?_, hP⟩
  rw [State.opened_of_noKey hkey hheld]
  rfl

/-- An encrypted frame does what its decryption would do in the clear (R131). -/
theorem Xgem.Reaches.exec_of_key {k : List Nat} (h : x.Reaches c.val s) (hkey : x.key = 1 ∨ x.key = 2)
    (hheld : s.keyHeld (dataSlot c.val x.key x.bcast) = true)
    (hread : s.readKey (dataSlot c.val x.key x.bcast) = (s, some k)) :
    exec (.xgemFrame c x lost) s = exec (.xgemFrame c
      { x with key := 0, data := xgemCrypt k 0 (s.ponMode c.val) (s.ch c.val).sfc x.at_ x.data } lost) s := by
  have hclear : Xgem.Reaches { x with key := 0, data := xgemCrypt k 0 (s.ponMode c.val) (s.ch c.val).sfc x.at_ x.data }
      c.val s := ⟨h.sync, h.fibre, h.hec, h.busy, h.port⟩
  rw [exec_xgemFrame_of_reaches h, exec_xgemFrame_of_reaches hclear, State.opened_of_key hkey hheld hread,
    State.opened_of_clear rfl]
  rfl

/-- Settles O20: a frame of the port set does what its payload in the clear does, each branch of which touches little
besides the partial SDU of its port; the commands of the PON group change their channel alone. -/
theorem xgemFramesAndPonCommandsTakeEffect : Obligations.XgemFramesAndPonCommandsTakeEffect := by
  refine ⟨fun s c x lost hsync hloop hhec => exec_xgemFrame_of_badHeader hsync hloop hhec,
    fun s c x port last hsync hloop hhec hlt hlt' => ?_, fun s c x lost h => exec_xgemFrame_of_ignored h,
    fun s c x lost hsync hloop hhec hidle hport hkey hheld hlt => ?_,
    fun s c x lost k hsync hloop hhec hidle hport hkey hheld hread =>
      Xgem.Reaches.exec_of_key ⟨hsync, hloop, hhec, hidle, hport⟩ hkey hheld hread,
    fun s c x lost hsync hloop hhec hidle hport hkey hskip => ?_,
    fun s c x lost hsync hloop hhec hidle hport hkey hskip hlast hlen => ?_,
    fun s c x lost hsync hloop hhec hidle hport hkey hskip hlen hlt => ?_,
    fun s c x lost hsync hloop hhec hidle hport hkey hskip hlast hlen hbad hlt => ?_,
    fun s c x lost hsync hloop hhec hidle hport hkey hpart hlast hbad hlen honu hread hmic hlt => ?_,
    fun s c x lost id ids hsync hloop hhec hidle hport hkey hpart hlast hbad honu hbond hlen hfree hcache => ?_,
    fun s p h hlen htarget => ponCfg_spec h hlen htarget,
    fun s p h hlen htarget => ponRegId_spec h hlen htarget,
    fun s p h hlen htarget => ponMsk_spec h hlen htarget,
    fun s p h hlen htarget hport hnew hroom => ponPortAdd_added h hlen htarget hport hnew hroom,
    fun s p h hlen htarget hport hkept => ponPortAdd_kept h hlen htarget hport hkept,
    fun s p h hlen htarget hport hnew hfull => ponPortAdd_full h hlen htarget hport hnew hfull,
    fun s p h hlen htarget hport => ponPortAdd_refused h hlen htarget hport,
    fun s p h hlen htarget hport => ponPortRemove_removed h hlen htarget hport,
    fun s p h hlen htarget hport => ponPortRemove_refused h hlen htarget hport,
    fun s p h hlen htarget hpolicy => ponLullPolicy_spec h hlen htarget hpolicy,
    fun s p h hlen htarget hpolicy => ponLullPolicy_refused h hlen htarget hpolicy,
    fun s p h hlen htarget h0 h1 h2 => ponQueues_spec h hlen htarget h0 h1 h2,
    fun s p h hlen htarget hq => ponQueues_refused h hlen htarget hq⟩
  · obtain ⟨t, ht, hcount, hlost, hset, honly⟩ := badHeader_spec s c.val port last hlt hlt'
    exact ⟨t, (exec_xgemFrame_of_badHeader hsync hloop hhec).trans (congrArg _ ht), hcount, hlost, hset.partialOf,
      hset.others, honly⟩
  · obtain ⟨t, ht, hcount, hset, hreach⟩ := keyMiss_spec s c.val x.port x.last hlt
    exact Xgem.Reaches.completes_noKey ⟨hsync, hloop, hhec, hidle, hport⟩ hkey hheld
      (ht ▸ ⟨hcount, hset.partialOf, hset.clsIn, hset.others, hreach.regsKeptIn (by simp), hreach.onlyChanges (by simp)⟩)
  · obtain ⟨hset, honly⟩ := State.fragment_skip_spec (plain := x.data) hskip
    exact Xgem.Reaches.completes ⟨hsync, hloop, hhec, hidle, hport⟩ hkey
      ⟨hset.partialOf, hset.clsIn, hset.others, honly⟩
  · obtain ⟨hset, hreach⟩ := s.rxThenPartial c.val x.port
      { data := ((s.ch c.val).partialOf x.port).data ++ x.data, bad := ((s.ch c.val).partialOf x.port).bad || x.bad }
    refine Xgem.Reaches.completes ⟨hsync, hloop, hhec, hidle, hport⟩ hkey ?_
    rw [State.fragment_of_more hskip hlast hlen]
    exact ⟨hset.partialOf, hset.clsIn, hset.others, hreach.onlyChanges (by simp)⟩
  · obtain ⟨hcount, hset, honly⟩ := State.fragment_long_spec hskip hlen hlt
    exact Xgem.Reaches.completes ⟨hsync, hloop, hhec, hidle, hport⟩ hkey
      ⟨hcount, hset.partialOf, hset.clsIn, hset.others, honly⟩
  · obtain ⟨hcount, hset, honly⟩ := State.fragment_bad_spec hskip hlast hlen hbad hlt
    exact Xgem.Reaches.completes ⟨hsync, hloop, hhec, hidle, hport⟩ hkey
      ⟨hcount, hset.partialOf, hset.clsIn, hset.others, honly⟩
  · obtain ⟨hcount, hset, honly⟩ := State.fragment_badMic_spec c.isLt hpart hlast hbad hlen honu hread hmic hlt
    exact Xgem.Reaches.completes ⟨hsync, hloop, hhec, hidle, hport⟩ hkey ⟨hcount, hset.clsIn, hset.others, honly⟩
  · obtain ⟨hcls, howner, hpool, hothers, hreach⟩ :=
      State.fragment_stored_spec hpart hlast hbad honu hbond hlen hfree hcache
    exact Xgem.Reaches.completes ⟨hsync, hloop, hhec, hidle, hport⟩ hkey
      ⟨hcls, howner, hpool, hothers, hreach.regsKeptIn (by simp), hreach.onlyChanges (by simp)⟩

end Sys2Proof.Machine
end

section
/-! SUPPORT. A timer that expires in a channel whose receiver is switched off while it still holds synchronisation
(R105, R135). -/

namespace Sys2Proof.Machine

/-- Channel 0 in O2-3, in sync and in watchful sleep, its receiver switched off; everything else at reset. -/
def rangingBehindDownReceiver : State :=
  State.reset.setCh 0 { State.reset.ch 0 with act := .o23, sync := .sync, rxDown := true, lull := .watchful }

/-- The wake that TO1_EXPIRY does switches the receiver on, which starts the search for synchronisation again: the channel
is out of sync when it is judged, and stays in O1.1. -/
theorem rangingBehindDownReceiver_to1Expiry :
    (match exec (.to1Expiry 0) rangingBehindDownReceiver with
      | .next t => ((t.ch 0).sync, (t.ch 0).act)
      | _ => (.off, .o5)) = (.hunt, .o11) := by decide +kernel

/-- Refutes O19: its clause for TO1_EXPIRY lets the synchronisation before the instruction decide between O1.1 and O1.2, and
the model asks for it after the wake. At rangingBehindDownReceiver the wake powers the receiver up, which loses the
synchronisation, so the channel is left in O1.1, which the clause excludes. -/
theorem not_activationTimersResponsesAndSleep : ¬ Obligations.ActivationTimersResponsesAndSleep := by
  unfold Obligations.ActivationTimersResponsesAndSleep
  rintro ⟨hto1, -⟩
  obtain ⟨t, hexec, -, -, hact, -⟩ := hto1 rangingBehindDownReceiver 0 (.inl (by decide +kernel))
  have hleft := rangingBehindDownReceiver_to1Expiry
  rw [hexec] at hleft
  have hinO11 : (t.ch (0 : Fin 4).val).act = .o11 := (Prod.mk.inj hleft).2
  rw [hinO11, if_pos (by decide +kernel)] at hact
  split at hact <;> cases hact

end Sys2Proof.Machine
end

section
/-! SUPPORT. One operation's reach after another's; what reads and writes of the key store touch (R482 to R486, R519, R525). -/

namespace Sys2Proof.Machine

variable {F G : Reach} {s t u : State} {n : Nat}

/-- What F and G may change together. -/
@[simp] def Reach.and (F G : Reach) : Reach := ⟨F.parts ++ G.parts, F.regs ++ G.regs, F.ctrs ++ G.ctrs⟩

theorem Reach.within_and_left (F G : Reach) : F.Within (F.and G) :=
  ⟨fun _ h => List.mem_append_left _ h, fun _ h => List.mem_append_left _ h, fun _ h => List.mem_append_left _ h⟩

theorem Reach.within_and_right (F G : Reach) : G.Within (F.and G) :=
  ⟨fun _ h => List.mem_append_right _ h, fun _ h => List.mem_append_right _ h, fun _ h => List.mem_append_right _ h⟩

/-- Then an operation of any reach. -/
theorem Touches.and (h : Touches F s t) (h' : Touches G t u) : Touches (F.and G) s u :=
  (h.mono (F.within_and_left G)).next h' (F.within_and_right G)

theorem Touches.ciph (h : Touches F s t) (hp : .ciph ∉ F.parts) : t.ciph = s.ciph := h.parts .ciph hp
theorem Touches.slot (h : Touches F s t) (hp : .ciph ∉ F.parts) (i : Nat) : t.slot i = s.slot i := by
  simp only [State.slot, h.ciph hp]
theorem Touches.alloc (h : Touches F s t) (hp : .alloc ∉ F.parts) : t.alloc = s.alloc := h.parts .alloc hp
theorem Touches.allocAt (h : Touches F s t) (hp : .alloc ∉ F.parts) (i : Nat) : t.allocAt i = s.allocAt i := by
  simp only [State.allocAt, h.alloc hp]

/-! Findings. -/

/-- What a word met with errors in a memory other than DDR4 touches (R519, R525). -/
@[simp] def foundReach (m : Nat) : Reach :=
  ⟨[.regs, .cnt, .arb, .mem], (fun _ => R.MEM_SAT, 0) :: (List.range 8).map (fun i => (R.MEM_UE_LOG_B, i)),
    [C.MEM_CE m, C.MEM_UE m]⟩

theorem State.foundCe_touches (s : State) {m : Nat} (hm : m ≠ 0) (k : Nat) : Touches (foundReach m) s (s.foundCe m k) := by
  unfold State.foundCe
  rw [if_neg hm]
  exact (Touches.refl _ s).bump (C.MEM_CE m) (fun _ => R.MEM_SAT, 0) rfl (by simp) (by simp) (by simp)

theorem State.logUe_touches (s : State) (m word finder : Nat) : Touches (foundReach m) s (s.logUe m word finder) := by
  unfold State.logUe
  extract_lets x i b told u v
  have hv : Touches (foundReach m) s v :=
    ((Touches.refl _ s).part (s.setMem_touches _) (by simp)).next (u.setFld_touches _ _ (R.MEM_UE_LOG_B, i) rfl)
      ⟨by simp, by simp [i, Nat.mod_lt], by simp⟩
  exact .ite (fun _ => hv.part (State.raiseRow_touches ..) (by simp)) (fun _ => hv)

theorem State.foundUe_touches (s : State) (m word finder : Nat) : Touches (foundReach m) s (s.foundUe m word finder) :=
  ((Touches.refl _ s).bump (C.MEM_UE m) (fun _ => R.MEM_SAT, 0) rfl (by simp) (by simp) (by simp)).trans (State.logUe_touches ..)

/-! Keys. -/

theorem State.setSlot_touches (s : State) (i : Nat) (k : KeySlot) : Touches ⟨[.ciph], [], []⟩ s (s.setSlot i k) :=
  .of_parts (fun x hx => by cases x with | ciph => simp at hx | _ => rfl) (by simp) (by simp)
theorem State.setKeyWord_touches (s : State) (i : Nat) (w : Codeword) : Touches ⟨[.ciph], [], []⟩ s (s.setKeyWord i w) :=
  .of_parts (fun x hx => by cases x with | ciph => simp at hx | _ => rfl) (by simp) (by simp)

theorem State.loseKey_touches (s : State) (i : Nat) : Touches ⟨[.ciph, .arb], [], []⟩ s (s.loseKey i) := by
  unfold State.loseKey
  exact .ite (fun _ => .refl _ s) (fun _ => ((Touches.refl _ s).part (s.setSlot_touches ..) (by simp)).part
    (State.raiseRow_touches ..) (by simp))

/-- What the read of a key touches. -/
@[simp] def keyReach : Reach := ⟨.ciph :: (foundReach 3).parts, (foundReach 3).regs, (foundReach 3).ctrs⟩

theorem foundReach_within_keyReach : (foundReach 3).Within keyReach :=
  ⟨fun _ h => List.mem_cons_of_mem _ h, fun _ h => h, fun _ h => h⟩

theorem State.readKey_touches (s : State) (i : Nat) : Touches keyReach s (s.readKey i).1 := by
  unfold State.readKey
  dsimp only
  split
  · cases decodeWord (s.keyWord i) with
    | clean => exact .refl _ s
    | corrected j w =>
      exact ((s.foundCe_touches (by decide) j).mono foundReach_within_keyReach).part (State.setKeyWord_touches ..) (by simp)
    | bad => exact ((s.foundUe_touches 3 i 1).mono foundReach_within_keyReach).part (State.loseKey_touches ..) (by simp)
  · exact .refl _ s

theorem State.chKey_touches (s : State) (n k : Nat) : Touches keyReach s (s.chKey n k).1 := by
  have h := s.readKey_touches (8 * n + 4 + k)
  unfold State.chKey
  generalize s.readKey (8 * n + 4 + k) = r at h ⊢
  obtain ⟨u, _ | key⟩ := r
  · exact h
  · exact h

/-- What the load of a key touches: an armed injection falls on its word. -/
@[simp] def keyLoadReach : Reach := ⟨[.regs, .ciph], [(fun _ => R.MEM_INJ, 0)], []⟩

theorem State.inject_touches (s : State) (m : Nat) (w : Codeword) :
    Touches ⟨[.regs], [(fun _ => R.MEM_INJ, 0)], []⟩ s (s.inject m w).1 := by
  unfold State.inject
  split
  · exact s.setFld_touches _ _ (fun _ => R.MEM_INJ, 0) rfl
  · exact .refl _ s

theorem State.loadKey_touches (s : State) (i len usage : Nat) (key : List Nat) :
    Touches keyLoadReach s (s.loadKey i len usage key) := by
  unfold State.loadKey
  dsimp only
  exact (((s.inject_touches 3 _).mono ⟨by simp, by simp, by simp⟩).part (State.setKeyWord_touches ..) (by simp)).part
    (State.setSlot_touches ..) (by simp)

theorem State.slot_loadKey (s : State) (i len usage : Nat) (key : List Nat) :
    (s.loadKey i len usage key).slot i = { state := 1, len := len, usage := usage, counter := 0 } := by
  unfold State.loadKey
  simp

theorem State.eraseKey_touches (s : State) (i : Nat) : Touches ⟨[.ciph], [], []⟩ s (s.eraseKey i) :=
  (s.setKeyWord_touches ..).trans (State.setSlot_touches ..)

theorem State.slot_eraseKey (s : State) (i j : Nat) : (s.eraseKey i).slot j = if j = i then {} else s.slot j := by
  rw [State.eraseKey, State.slot_setSlot]
  rfl

end Sys2Proof.Machine
end

section
/-! SUPPORT. A downstream PLOAM message: what becomes of it, and what its execution leaves to be answered and recorded
(R113 to R117, R125). -/

namespace Sys2Proof.Machine

variable {s t u : State} {n : Nat} {m : Ploam} {i : Instr}

/-- Each row that carries a message runs it. -/
theorem exec_of_ploamOf (h : ploamOf i = some m) : ∃ body, ∀ s, exec i s = .next (runPloam m body s) := by
  unfold ploamOf at h
  split at h <;> cases h <;> exact ⟨_, fun _ => rfl⟩

/-! A message that is not executed. -/

section
variable {body : State → Option PloamOut}

theorem runPloam_of_unheard (h : s.inSync m.ch.val = false ∨ s.nearLoop (40 + m.ch.val) = true) :
    runPloam m body s = s := by
  unfold runPloam
  exact if_pos h

variable (hs : s.inSync m.ch.val = true) (hl : s.nearLoop (40 + m.ch.val) = false)
include hs hl

theorem runPloam_of_badPart (hp : m.partBad = true) (hb : m.bad = false) :
    runPloam m body s = s.discardPart m.ch.val m.sfc := by
  simp [runPloam, hs, hl, hp, hb]

theorem runPloam_of_bad (hp : m.partBad = false) (hb : m.bad = true) :
    runPloam m body s = s.bump (C.TC_HDR_DISCARD m.ch.val) := by
  simp [runPloam, hs, hl, hp, hb]

variable (hp : m.partBad = false) (hb : m.bad = false)
include hp hb

theorem runPloam_of_badMic (hr : (s.readKey (8 * m.ch.val + 4)).1 = s)
    (hm : m.micFail = true ∨ (s.slot (8 * m.ch.val + 4)).state = 3) :
    runPloam m body s = (s.bump (C.TC_HDR_DISCARD m.ch.val)).bump (C.TC_PLOAM_MIC_ERR m.ch.val) := by
  simp [runPloam, hs, hl, hp, hb, hr, hm]

/-- The read of a key keeps the channel and its loop. -/
theorem runPloam_of_readKey {x : State} (hx : (s.readKey (8 * m.ch.val + 4)).1 = x)
    (hx' : (x.readKey (8 * m.ch.val + 4)).1 = x) : runPloam m body s = runPloam m body x := by
  have hread := s.readKey_touches (8 * m.ch.val + 4)
  rw [hx] at hread
  have hch : ∀ k, x.ch k = s.ch k := hread.ch (by simp)
  have hsync : x.inSync m.ch.val = s.inSync m.ch.val := by simp only [State.inSync, hch]
  have hloop : x.nearLoop (40 + m.ch.val) = s.nearLoop (40 + m.ch.val) := by
    have hcfg : ∀ c : Fin 4, ∀ r ∈ keyReach.regs, r.1 r.2 ≠ (F.LANE_CFG_LOOP (40 + c.val)).off := by decide
    simp only [State.nearLoop, hread.fld _ (hcfg m.ch)]
  simp only [runPloam, hsync, hloop, hs, hl, hp, hb, hx, hx', hch, Bool.true_eq_false, Bool.false_eq_true, or_self, if_false]

variable (hm : m.micFail = false) (hk : (s.slot (8 * m.ch.val + 4)).state ≠ 3)
  (hr : (s.readKey (8 * m.ch.val + 4)).1 = s)
include hm hk hr

theorem runPloam_of_other (ho : m.onu.isSome = true) (hne : m.onu ≠ (s.ch m.ch.val).onuId) : runPloam m body s = s := by
  simp [runPloam, hs, hl, hp, hb, hr, hm, hk, ho, hne]

theorem runPloam_of_repeated (ho : m.onu.isSome = true) (heq : m.onu = (s.ch m.ch.val).onuId)
    (hseq : (s.ch m.ch.val).lastSeq = some m.seq.toNat) :
    runPloam m body s = s.sendAll m.ch.val (s.ch m.ch.val).lastAck := by
  have ho' : (s.ch m.ch.val).onuId.isSome = true := heq ▸ ho
  simp [runPloam, hs, hl, hp, hb, hr, hm, hk, heq, ho', hseq]
end

/-! A message that is executed. -/

/-- The sequence number of a message and its Acknowledgement are kept for a repetition (R114). -/
def State.noteSeq (s : State) (m : Ploam) (replies : List UpMsg) : State :=
  if m.onu.isSome then
    s.setCh m.ch.val { s.ch m.ch.val with
      lastSeq := some m.seq.toNat, lastAck := replies.filter (fun x => x.kind == 0) }
  else s

/-- What follows the execution of a message: its sequence number is kept, what answers it is queued, and the record or the
copy passes to host software. -/
def PloamOut.finish (r : PloamOut) (m : Ploam) (act : Act) : State :=
  let n := m.ch.val
  let s := (r.s.noteSeq m r.replies).sendAll n r.replies
  match r.disp with
  | some d => s.ploamRecord n 0 d act.code m.sfc m.raw
  | none => if s.flag (F.PON_TC_CFG_PLOAM_COPY n) then s.ploamRecord n 0 0 act.code m.sfc m.raw else s

theorem runPloam_of_heard (h : Heard m s) (body : State → Option PloamOut) :
    (body s = none → runPloam m body s = s) ∧
      ∀ r, body s = some r → runPloam m body s = r.finish m (s.ch m.ch.val).act := by
  obtain ⟨hs, hl, hp, hb, hm, hk, hr, hseq⟩ := h
  have hmine : ¬(m.onu.isSome = true ∧ m.onu ≠ (s.ch m.ch.val).onuId) := by
    rcases hseq with h | ⟨h, -⟩ <;> simp [h]
  have hnew : ¬(m.onu.isSome = true ∧ (s.ch m.ch.val).lastSeq = some m.seq.toNat) := by
    rcases hseq with h | ⟨-, h⟩ <;> simp [h]
  have hrun : runPloam m body s = match body s with
      | none => s
      | some r => r.finish m (s.ch m.ch.val).act := by
    unfold runPloam
    simp only [hs, hl, hp, hb, hm, hk, hr, hmine, hnew, Bool.true_eq_false, Bool.false_eq_true, or_self, if_false]
    rfl
  exact ⟨fun hnone => by rw [hrun, hnone], fun r hsome => by rw [hrun, hsome]⟩

/-- What the answers to a message and its sequence number make of its channel. -/
def PonCh.answered (m : Ploam) (replies : List UpMsg) (c : PonCh) : PonCh :=
  { c with
    lastSeq := if m.onu.isSome then some m.seq.toNat else c.lastSeq
    lastAck := if m.onu.isSome then replies.filter (fun x => x.kind == 0) else c.lastAck
    ploamUp := c.ploamUp ++ replies }

theorem State.ploamRecord_touches (s : State) (n dir disp act sfc : Nat) (raw : List Byte) :
    Touches recordReach s (s.ploamRecord n dir disp act sfc raw) := by
  unfold State.ploamRecord
  split
  · exact .refl _ s
  · exact s.hostRecord_touches ..

theorem State.ch_sendAll (s : State) (n : Nat) (ms : List UpMsg) (k : Nat) :
    (s.sendAll n ms).ch k = if k = n then { s.ch n with ploamUp := (s.ch n).ploamUp ++ ms } else s.ch k := by
  have hup : ∀ (s : State) (m : UpMsg) (k : Nat), (s.sendUp n m).ch k =
      if k = n then { s.ch n with ploamUp := (s.ch n).ploamUp ++ [m] } else s.ch k := fun s m k => by
    rw [State.sendUp, (State.ploamCopy_touches ..).ch (by simp), State.ch_setCh]
  induction ms generalizing s k with
  | nil =>
    rw [State.sendAll, List.append_nil]
    split
    · next hk => rw [hk]
    · rfl
  | cons m ms ih =>
    rw [State.sendAll, ih, hup, hup]
    split
    · rw [if_pos rfl, List.append_assoc]
      rfl
    · rfl

theorem State.noteSeq_touches (s : State) (m : Ploam) (replies : List UpMsg) :
    Touches ⟨[.pon], [], []⟩ s (s.noteSeq m replies) := .ite (fun _ => s.setCh_touches ..) (fun _ => .refl _ s)

theorem State.ch_noteSeq (s : State) (m : Ploam) (replies : List UpMsg) (k : Nat) : (s.noteSeq m replies).ch k =
    if k = m.ch.val then { s.ch k with
      lastSeq := if m.onu.isSome then some m.seq.toNat else (s.ch k).lastSeq
      lastAck := if m.onu.isSome then replies.filter (fun x => x.kind == 0) else (s.ch k).lastAck } else s.ch k := by
  unfold State.noteSeq
  by_cases ho : m.onu.isSome = true
  · simp only [ho, if_true, State.ch_setCh]
    split
    · next hk => rw [hk]
    · rfl
  · simp only [ho, Bool.false_eq_true, if_false, ite_self]

/-- The state before the record. -/
theorem PloamOut.finish_cases (r : PloamOut) (m : Ploam) (act : Act) :
    ∃ u, Touches messageReach r.s u ∧
      (∀ k, u.ch k = if k = m.ch.val then (r.s.ch m.ch.val).answered m r.replies else r.s.ch k) ∧
      Touches recordReach u (r.finish m act) := by
  unfold PloamOut.finish
  extract_lets n u
  refine ⟨u, ?_, fun k => ?_, ?_⟩
  · exact ((Touches.refl _ r.s).part (r.s.noteSeq_touches ..) (by simp)).trans (State.sendAll_touches ..)
  · simp only [u, State.ch_sendAll, State.ch_noteSeq]
    split
    · simp only [n, if_true]
      rfl
    · rfl
  · split
    · exact u.ploamRecord_touches ..
    · exact .ite (fun _ => u.ploamRecord_touches ..) (fun _ => .refl _ u)

/-- From u, which a message's own execution has reached, to t these answers and the message's record have gone their way. -/
structure Ploam.Answered (m : Ploam) (replies : List UpMsg) (u t : State) : Prop where
  touches : Touches messageReach u t
  ch : ∀ k, t.ch k = if k = m.ch.val then (u.ch m.ch.val).answered m replies else u.ch k

theorem PloamOut.finish_answered (r : PloamOut) (m : Ploam) (act : Act) : m.Answered r.replies r.s (r.finish m act) := by
  obtain ⟨u, hu, hch, h⟩ := r.finish_cases m act
  exact ⟨hu.next h recordReach_within_messageReach, fun k => by rw [h.ch (by simp), hch]⟩

section
variable {replies : List UpMsg}

theorem Ploam.Answered.self (h : m.Answered replies u t) : t.ch m.ch.val = (u.ch m.ch.val).answered m replies :=
  (h.ch _).trans (if_pos rfl)

/-- From s to t, with these answers queued at the end, channel m.ch takes the value f of its own. -/
theorem ChangesChannel.answered {f : PonCh → PonCh} (h : ChangesChannel m.ch.val f s u) (ht : m.Answered replies u t) :
    ChangesChannel m.ch.val (fun c => (f c).answered m replies) s t :=
  h.trans ⟨fun k => by rw [ht.ch]; split <;> rfl⟩ fun _ => rfl

/-- A heard message completes with what follows its execution. -/
theorem Completes.of_heard {body : State → Option PloamOut} {P : State → Prop} {disp : Option Nat} (h : Heard m s)
    (hexec : exec i s = .next (runPloam m body s)) (hbody : body s = some { s := u, replies := replies, disp := disp })
    (hP : ∀ t, m.Answered replies u t → P t) : Completes i s P :=
  ⟨_, hexec.trans (congrArg _ ((runPloam_of_heard h body).2 _ hbody)), hP _ (PloamOut.finish_answered { s := u, replies := replies, disp := disp } m _)⟩
end

/-- A heard message that its channel does not execute changes nothing. -/
theorem exec_of_heard_none {body : State → Option PloamOut} (h : Heard m s)
    (hexec : exec i s = .next (runPloam m body s)) (hbody : body s = none) : exec i s = .next s :=
  hexec.trans (congrArg _ ((runPloam_of_heard h body).1 hbody))

end Sys2Proof.Machine
end

section
/-! SUPPORT. What waking, LULL, Alloc-IDs and O2-3 make of a channel and of the allocation context (R104, R120, R121, R134 to
R137, R152, R155). -/

namespace Sys2Proof.Machine

variable {s t u : State} {n : Nat}

/-- The same change told by another function. -/
theorem ChangesChannel.congr {f g : PonCh → PonCh} (h : ChangesChannel n f s t)
    (hfg : (f (s.ch n)).sansStatus = (g (s.ch n)).sansStatus) : ChangesChannel n g s t :=
  ⟨fun m => (h.ch m).trans (by rw [hfg])⟩

theorem ChangesChannel.refl (n : Nat) (s : State) : ChangesChannel n (fun c => c) s s := by
  refine ⟨fun m => ?_⟩
  split
  · next hm => rw [hm]
  · rfl

/-- A field of the channel that is not its status frames. -/
theorem ChangesChannel.field {f : PonCh → PonCh} {α : Type} (h : ChangesChannel n f s t) (g : PonCh → α)
    (hg : ∀ c : PonCh, g c.sansStatus = g c) : g (t.ch n) = g (f (s.ch n)) := PonCh.congr_of_sansStatus h.self g hg

/-- The channels but n keep all but the status frames that wait at them. -/
def RestKept (n : Nat) (s t : State) : Prop := ∀ k < 4, k ≠ n → { t.ch k with statusQ := [] } = { s.ch k with statusQ := [] }

theorem ChangesChannel.restKept {f : PonCh → PonCh} (h : ChangesChannel n f s t) : RestKept n s t :=
  fun _ _ hk => h.other hk

theorem StatusFree.ite {f g : PonCh → PonCh} {p : PonCh → Prop} [DecidablePred p] (hf : StatusFree f) (hg : StatusFree g)
    (hp : ∀ c, p c.sansStatus ↔ p c) : StatusFree fun c => if p c then f c else g c := by
  intro c
  dsimp only
  by_cases h : p c
  · rw [if_pos h, if_pos ((hp c).mpr h)]
    exact hf c
  · rw [if_neg h, if_neg (mt (hp c).mp h)]
    exact hg c

/-! Waking. -/

/-- A channel that wakes (R137). -/
def PonCh.woken (falses : Nat) (c : PonCh) : PonCh :=
  if c.lull = .awake then c
  else
    let d : PonCh := { c with lull := .awake, txWaking := !c.txPowered && c.act != .o7, sleepDue := false }
    if c.rxDown then d.poweredUp falses else d

theorem PonCh.woken_statusFree (falses : Nat) : StatusFree (PonCh.woken falses) :=
  .ite (fun _ => rfl) (.ite (fun _ => rfl) (fun _ => rfl) fun _ => Iff.rfl) fun _ => Iff.rfl

theorem PonCh.woken_lull (falses : Nat) (c : PonCh) : (c.woken falses).lull = .awake := by
  unfold PonCh.woken
  split_ifs with h
  · exact h
  · rfl
  · rfl

/-- A channel without what waking changes: its LULL mode, its transmitter's waking and its receiver's own state. -/
def PonCh.sansLull (c : PonCh) : PonCh :=
  { c with
    lull := .awake, txWaking := false, sleepDue := false, sync := .off, rxDown := false, acquiring := false, candFalseAt := 0 }

theorem PonCh.woken_field {α : Type} (falses : Nat) (c : PonCh) (g : PonCh → α) (hg : ∀ c : PonCh, g c.sansLull = g c) :
    g (c.woken falses) = g c := by
  rw [← hg, ← hg c]
  unfold PonCh.woken
  split_ifs <;> rfl

theorem State.rxPowerUp_changes_or (s : State) (n : Nat) : ChangesChannel n
    (fun c => if c.rxDown then c.poweredUp (s.count (C.PON_CAND_FALSE n)) else c) s (s.rxPowerUp n) := by
  cases hdown : (s.ch n).rxDown with
  | true => exact (s.rxPowerUp_changes hdown).congr (by simp [hdown])
  | false =>
    simp only [State.rxPowerUp, hdown, Bool.false_eq_true, if_false]
    exact (ChangesChannel.refl n s).congr (by simp [hdown])

theorem State.wake_changes (s : State) (n cause : Nat) :
    ChangesChannel n (PonCh.woken (s.count (C.PON_CAND_FALSE n))) s (s.wake n cause) := by
  rw [State.wake_eq]
  split
  · next h => exact (ChangesChannel.refl n s).congr (by simp [PonCh.woken, h])
  · next h =>
    have hlull := s.setLull_changes n .awake cause
    have hcount : ((s.setLull n .awake cause).wakeTx n).count (C.PON_CAND_FALSE n) = s.count (C.PON_CAND_FALSE n) :=
      (s.setLull_touches n .awake cause).ctrs _ (by simp)
    have htx : ChangesChannel n (fun c => { c with lull := .awake, txWaking := !c.txPowered && c.act != .o7, sleepDue := false })
        s ((s.setLull n .awake cause).wakeTx n) :=
      hlull.trans (State.setCh_changes _ n fun c => { c with txWaking := !c.txPowered && c.act != .o7, sleepDue := false })
        fun _ => rfl
    have hup := htx.trans (State.rxPowerUp_changes_or _ n) (.ite (fun _ => rfl) (fun _ => rfl) fun _ => Iff.rfl)
    refine ((hup.keeps (State.reeval_keepsChannels _ n)).next
      (State.laneEval_touches _ (Nat.le_add_right 40 n)) (by simp)).congr ?_
    simp only [PonCh.woken, h, if_false, hcount]

/-! LULL. -/

/-- The head end and the policy permit a LULL mode, and the channel may enter one (R134, R135). -/
abbrev PonCh.MaySleep (c : PonCh) : Prop :=
  c.sleepAllowed = true ∧ c.lullPolicy ≠ 0 ∧ c.act = .o5 ∧ c.lull = .awake

/-- The LULL mode that a channel's policy names (R134). -/
def State.lullMode (s : State) (n : Nat) : Lull :=
  if (s.ch n).lullPolicy = 2 ∧ s.isMaster n = false then .watchful else .doze

theorem State.tryLull_of_maySleep (h : (s.ch n).MaySleep) (cause : Nat) :
    ChangesChannel n (fun c => { c with lull := s.lullMode n, sleepDue := true }) s (s.tryLull n cause).1 ∧
      (s.tryLull n cause).2 = [{ kind := 3, args := [(s.lullMode n).code] }] := by
  unfold State.tryLull
  dsimp only
  rw [if_pos h]
  exact ⟨(s.setLull_changes n (s.lullMode n) cause).trans (State.setCh_changes _ n fun c => { c with sleepDue := true })
    fun _ => rfl, rfl⟩

theorem State.tryLull_of_not_maySleep (h : ¬(s.ch n).MaySleep) (cause : Nat) : s.tryLull n cause = (s, []) := by
  unfold State.tryLull
  exact if_neg h

/-! O2-3. -/

/-- A channel in O1.2 with a profile goes on to O2-3 unless it is held (R104, R120). -/
def PonCh.toO23 (hold : Bool) (c : PonCh) : PonCh :=
  if c.act = .o12 ∧ c.profiles ≠ [] ∧ hold = false then { c with act := .o23 } else c

theorem PonCh.toO23_statusFree (hold : Bool) : StatusFree (PonCh.toO23 hold) :=
  .ite (fun _ => rfl) (fun _ => rfl) fun _ => Iff.rfl

/-- A channel without its activation state. -/
def PonCh.sansAct (c : PonCh) : PonCh := { c with act := .o11 }

theorem PonCh.toO23_field {α : Type} (hold : Bool) (c : PonCh) (g : PonCh → α) (hg : ∀ c : PonCh, g c.sansAct = g c) :
    g (c.toO23 hold) = g c := by
  rw [← hg, ← hg c]
  unfold PonCh.toO23
  split_ifs <;> rfl

theorem PonCh.toO23_act (hold : Bool) (c : PonCh) : (c.toO23 hold).act =
    if c.act = .o12 ∧ c.profiles ≠ [] ∧ hold = false then .o23 else c.act := by
  unfold PonCh.toO23
  split_ifs <;> rfl

theorem State.tryO23_changes_hold (s : State) (n : Nat) :
    ChangesChannel n (PonCh.toO23 (s.flag (F.PON_TC_CFG_ACT_HOLD n))) s (s.tryO23 n) := by
  unfold State.tryO23
  dsimp only
  split
  · next h => exact (s.setAct_changes n .o23).congr (by rw [PonCh.toO23, if_pos h])
  · next h => exact (ChangesChannel.refl n s).congr (by rw [PonCh.toO23, if_neg h])

/-! Alloc-IDs. -/

/-- A frame dropped out of a queue of the channel's Alloc-IDs goes back to its pool: no level-1 node is missed. -/
theorem State.dropQueue_frees (s : State) (q : Nat) (l : List QFrame) : Touches recordReach s (s.dropQueue q l) := by
  induction l generalizing s with
  | nil => exact .refl _ s
  | cons x l ih =>
    rw [State.dropQueue]
    refine Touches.trans ?_ (ih _)
    exact (((Touches.refl _ s).part (s.setN1_touches ..) (by simp)).part (State.queueDrop_touches ..) (by simp)).next
      (State.finishDest_touches ..) freeReach_within_recordReach

theorem State.dropAllocNode_frees (s : State) (n i : Nat) (test : QFrame → Bool) :
    Touches recordReach s (s.dropAllocNode n i test) := by
  unfold State.dropAllocNode
  split
  · refine Touches.foldl (fun u k => ?_) _ s
    exact .ite (fun _ => .refl _ u) (fun _ => ((Touches.refl _ u).part (u.setSq_touches ..) (by simp)).trans (State.dropQueue_frees ..))
  · exact .refl _ s

/-- What the free of an Alloc-ID's entry touches. -/
@[simp] def freeAllocReach : Reach := ⟨.alloc :: recordReach.parts, recordReach.regs, recordReach.ctrs⟩

theorem recordReach_within_freeAllocReach : recordReach.Within freeAllocReach :=
  ⟨fun _ h => List.mem_cons_of_mem _ h, fun _ h => h, fun _ h => h⟩

theorem State.freeAlloc_frees (s : State) (n i : Nat) : Touches freeAllocReach s (s.freeAlloc n i) :=
  ((s.dropAllocNode_frees n i _).mono recordReach_within_freeAllocReach).part (State.setAlloc_touches ..) (by simp)

theorem State.allocAt_freeAlloc (s : State) (n i j : Nat) : (s.freeAlloc n i).allocAt j =
    if j = i then { s.allocAt i with state := 0, loaded := false } else s.allocAt j := by
  have hkeep : ∀ test k, (s.dropAllocNode n i test).allocAt k = s.allocAt k := fun test k =>
    (s.dropAllocNode_frees n i test).allocAt (by simp) k
  rw [State.freeAlloc, State.allocAt_setAlloc, hkeep, hkeep]

/-- An entry that is assigned to an Alloc-ID (R155). -/
def AllocCtx.assigned (a : AllocCtx) (n alloc st : Nat) : AllocCtx :=
  { a with
    loaded := false, allocId := alloc, channel := n, state := st, grants := 0, bytes := 0, idle := 0, dbru := 0, lastSfc := 0 }

theorem State.assignAlloc_touches (s : State) (n alloc st : Nat) : Touches ⟨[.alloc], [], []⟩ s (s.assignAlloc n alloc st) := by
  unfold State.assignAlloc
  split
  · exact .refl _ s
  · exact s.setAlloc_touches ..

theorem State.allocAt_assignAlloc {i : Nat} (h : s.freeEntry = some i) (n alloc st j : Nat) :
    (s.assignAlloc n alloc st).allocAt j = if j = i then (s.allocAt i).assigned n alloc st else s.allocAt j := by
  rw [State.assignAlloc, h]
  exact s.allocAt_setAlloc ..

end Sys2Proof.Machine
end

section
/-! Registration, Alloc-IDs, keys and sleep (R102, R115, R116, R122, R131, R134, R137, R152), and O18. -/

namespace Sys2Proof.Machine

variable {s : State} {m : Ploam}

variable {replies : List UpMsg} {t u : State}

theorem Ploam.Answered.alloc (h : m.Answered replies u t) : t.alloc = u.alloc := h.touches.alloc (by simp)
theorem Ploam.Answered.allocAt (h : m.Answered replies u t) (j : Nat) : t.allocAt j = u.allocAt j :=
  h.touches.allocAt (by simp) j

/-- A message executed without a change of channels queues its answers. -/
theorem Ploam.Answered.ploamUp_of_pon (h : m.Answered replies u t) (hu : u.pon = s.pon) :
    (t.ch m.ch.val).ploamUp = (s.ch m.ch.val).ploamUp ++ replies := by
  rw [h.self, State.ch_of_pon hu]
  rfl

/-- REQUEST_REGISTRATION (R102). -/
theorem requestRegistration_spec (h : Heard m s) :
    Completes (.requestRegistration m) s fun t =>
      (t.ch m.ch.val).ploamUp = (s.ch m.ch.val).ploamUp ++
        [{ kind := 1, args := [m.seq.toNat], body := (s.ch m.ch.val).regId }] ∧
      (t.ch m.ch.val).act = (s.ch m.ch.val).act ∧ (∀ k < 4, k ≠ m.ch.val → t.ch k = s.ch k) ∧
      RegsKeptIn [fun _ => R.BUF_SAT, fun _ => R.MEM_DDR_SAT, fun _ => R.MEM_SAT, R.MEM_UE_LOG_B, R.PON_TC_SAT] s t ∧
      OnlyChanges [.regs, .cnt, .arb, .pon, .buf, .sched, .mem, .ciph] s t := by
  refine Completes.of_heard h (exec_requestRegistration m s) rfl fun t ht =>
    ⟨ht.ploamUp_of_pon rfl, by rw [ht.self]; rfl, fun k _ hk => ?_, ht.touches.regsKeptIn (by simp),
      ht.touches.onlyChanges (by simp)⟩
  rw [ht.ch, if_neg hk]

/-! ASSIGN_ALLOC_ID (R122, R152, R155). -/

/-- What the messages that touch Alloc-IDs leave as it is. -/
def AllocFrame (s t : State) : Prop :=
  RegsKeptIn [fun _ => R.BUF_SAT, fun _ => R.MEM_DDR_SAT, fun _ => R.MEM_SAT, R.MEM_UE_LOG_B, R.PON_TC_SAT] s t ∧
    OnlyChanges [.regs, .cnt, .arb, .pon, .alloc, .buf, .sched, .mem, .ciph] s t

/-- An execution within the free of an Alloc-ID's entry, then its answers. -/
theorem AllocFrame.of_answered {cs : List Ctr} (h : Touches ⟨freeAllocReach.parts, freeAllocReach.regs, cs⟩ s u)
    (ht : m.Answered replies u t) : AllocFrame s t :=
  have h' := h.and ht.touches
  ⟨h'.regsKeptIn (by simp), h'.onlyChanges (by simp)⟩

variable {alloc : BitVec 14} {i : Nat}

/-- No entry of the channel is assigned to the Alloc-ID. -/
theorem find_alloc_eq_none {l : List Nat} (h : l.all (fun j => (s.allocAt j).allocId != alloc.toNat) = true) :
    l.find? (fun j => (s.allocAt j).allocId == alloc.toNat) = none := by
  simpa [List.find?_eq_none] using h

theorem assignAllocId_new (h : Heard m s) (hroom : (s.allocsOf m.ch.val).length < 64)
    (hnew : (s.allocsOf m.ch.val).all (fun j => (s.allocAt j).allocId != alloc.toNat) = true)
    (hfree : s.freeEntry = some i) :
    Completes (.assignAllocId m alloc false) s fun t =>
      (t.allocAt i).allocId = alloc.toNat ∧ (t.allocAt i).channel = m.ch.val ∧ (t.allocAt i).state = 1 ∧
      (∀ j < 256, j ≠ i → t.allocAt j = s.allocAt j) ∧
      (t.ch m.ch.val).ploamUp = (s.ch m.ch.val).ploamUp ++ ackOf m 0 ∧ AllocFrame s t := by
  have hu := s.assignAlloc_touches m.ch.val alloc.toNat 1
  have hat := State.allocAt_assignAlloc hfree m.ch.val alloc.toNat 1
  refine Completes.of_heard (u := s.assignAlloc m.ch.val alloc.toNat 1) (replies := ackOf m 0) (disp := some 1) h
    (exec_assignAllocId m alloc false s) ?_ fun t ht => ?_
  · simp [find_alloc_eq_none hnew, Nat.not_le.mpr hroom]
  · simp only [ht.allocAt, hat, if_true]
    exact ⟨rfl, rfl, rfl, fun j _ hj => if_neg hj, ht.ploamUp_of_pon (hu.pon (by simp)),
      .of_answered (cs := []) (hu.mono ⟨by simp, by simp, by simp⟩) ht⟩

theorem assignAllocId_refused (h : Heard m s) (hfull : 64 ≤ (s.allocsOf m.ch.val).length)
    (hnew : (s.allocsOf m.ch.val).all (fun j => (s.allocAt j).allocId != alloc.toNat) = true)
    (hlt : s.count (C.TC_ALLOC_REFUSED m.ch.val) < 0xFFFFFFFE) :
    Completes (.assignAllocId m alloc false) s fun t =>
      t.alloc = s.alloc ∧ t.count (C.TC_ALLOC_REFUSED m.ch.val) = s.count (C.TC_ALLOC_REFUSED m.ch.val) + 1 ∧
      (t.ch m.ch.val).ploamUp = (s.ch m.ch.val).ploamUp ++ ackOf m 1 ∧ AllocFrame s t := by
  have hb := s.bump_touches_of_lt hlt
  have he := (s.bump (C.TC_ALLOC_REFUSED m.ch.val)).ponEvent_touches m.ch.val 2 4 5 [(2, alloc.toNat)]
  refine Completes.of_heard (u := (s.bump (C.TC_ALLOC_REFUSED m.ch.val)).ponEvent m.ch.val 2 4 5 [(2, alloc.toNat)])
    (replies := ackOf m 1) (disp := some 3) h (exec_assignAllocId m alloc false s) ?_ fun t ht => ⟨?_, ?_,
      ht.ploamUp_of_pon ((he.pon (by simp)).trans (hb.pon (by simp))),
      .of_answered (cs := [C.TC_ALLOC_REFUSED m.ch.val])
        ((hb.mono ⟨by simp, by simp, by simp⟩).next he ⟨by simp, by simp, by simp⟩) ht⟩
  · simp [find_alloc_eq_none hnew, hfull]
  · exact ht.alloc.trans ((he.alloc (by simp)).trans (hb.alloc (by simp)))
  · have hmsg : ∀ c : Fin 4, ∀ d ∈ messageReach.ctrs, d.off ≠ (C.TC_ALLOC_REFUSED c.val).off := by decide
    rw [ht.touches.ctrs _ (hmsg m.ch), he.ctrs _ (by simp), State.count_bump_of_lt s rfl hlt]

theorem assignAllocId_dealloc (h : Heard m s)
    (hfind : (s.allocsOf m.ch.val).find? (fun j => (s.allocAt j).allocId == alloc.toNat) = some i) :
    Completes (.assignAllocId m alloc true) s fun t =>
      (t.allocAt i).state = 0 ∧ (∀ j < 256, j ≠ i → t.allocAt j = s.allocAt j) ∧
      (t.ch m.ch.val).ploamUp = (s.ch m.ch.val).ploamUp ++ ackOf m 0 ∧ AllocFrame s t := by
  have hu := s.freeAlloc_frees m.ch.val i
  refine Completes.of_heard (u := s.freeAlloc m.ch.val i) (replies := ackOf m 0) (disp := some 1) h
    (exec_assignAllocId m alloc true s) ?_ fun t ht => ?_
  · simp [hfind]
  · simp only [ht.allocAt, s.allocAt_freeAlloc, if_true]
    exact ⟨trivial, fun j _ hj => if_neg hj, ht.ploamUp_of_pon (hu.pon (by simp)), .of_answered hu ht⟩

/-- An assignment of an Alloc-ID held, or a deallocation of one not held, is acknowledged alone. -/
theorem assignAllocId_idle {dealloc : Bool} (h : Heard m s)
    (hfind : ((s.allocsOf m.ch.val).find? (fun j => (s.allocAt j).allocId == alloc.toNat)).isSome = !dealloc) :
    Completes (.assignAllocId m alloc dealloc) s fun t =>
      t.alloc = s.alloc ∧ (t.ch m.ch.val).ploamUp = (s.ch m.ch.val).ploamUp ++ ackOf m 0 ∧ AllocFrame s t := by
  refine Completes.of_heard (u := s) (replies := ackOf m 0) (disp := some 1) h (exec_assignAllocId m alloc dealloc s) ?_
    fun t ht => ⟨ht.alloc, ht.ploamUp_of_pon rfl, .of_answered (cs := []) (.refl _ s) ht⟩
  cases dealloc with
  | true =>
    have hnone := Option.isSome_eq_false_iff.mp hfind
    simp only [Option.isNone_iff_eq_none] at hnone
    simp only [hnone, if_true]
  | false =>
    dsimp only
    exact (if_neg (by simp)).trans (if_pos hfind)

/-! KEY_CONTROL (R131, R137, R498). -/

/-- What the messages that wake a channel or draw its key leave as it is. -/
def KeyFrame (s t : State) : Prop :=
  RegsKeptIn [R.BOND_SAT, fun _ => R.BUF_SAT, R.ETH_SAT, fun _ => R.MEM_DDR_SAT, fun _ => R.MEM_INJ,
    fun _ => R.MEM_SAT, R.MEM_UE_LOG_B, R.PON_STAT_SAT, R.PON_TC_SAT, fun _ => R.SCH_SAT, R.SVL_SAT] s t ∧
  OnlyChanges [.freeCtr, .regs, .cnt, .arb, .fns, .pon, .bonding, .buf, .sched, .clsIn, .svl, .mac, .lanes,
    .mem, .ciph] s t

theorem keyControl_spec {idx : Fin 2} {key : BitVec 128} (h : Heard m s) (hsrc : s.ciph.entropyFail = false) :
    Completes (.keyControl m idx key) s fun t =>
      t.slot (dataSlot m.ch.val (idx.val + 1) false) = { state := 1, len := 0, usage := 0, counter := 0 } ∧
      (t.ch m.ch.val).ploamUp = (s.ch m.ch.val).ploamUp ++
        [{ kind := 2, args := [idx.val + 1], body := (aesEnc (s.chKey m.ch.val 2).2 (keyOf key)).map (BitVec.ofNat 8) }] ∧
      (t.ch m.ch.val).lull = .awake ∧
      RestKept m.ch.val s t ∧ KeyFrame s t := by
  have hk := s.chKey_touches m.ch.val 2
  have hl := (s.chKey m.ch.val 2).1.loadKey_touches (dataSlot m.ch.val (idx.val + 1) false) 0 0 (keyOf key)
  have hslot := (s.chKey m.ch.val 2).1.slot_loadKey (dataSlot m.ch.val (idx.val + 1) false) 0 0 (keyOf key)
  set u := (s.chKey m.ch.val 2).1.loadKey (dataSlot m.ch.val (idx.val + 1) false) 0 0 (keyOf key)
  have he := u.ponEvent_touches m.ch.val 3 4 9 [(1, idx.val + 1)]
  set v := u.ponEvent m.ch.val 3 4 9 [(1, idx.val + 1)]
  have hw := v.wake_touches m.ch.val 2
  have hpon : v.pon = s.pon := (he.pon (by simp)).trans ((hl.pon (by simp)).trans (hk.pon (by simp)))
  have hwoken : ChangesChannel m.ch.val (PonCh.woken (v.count (C.PON_CAND_FALSE m.ch.val))) s (v.wake m.ch.val 2) :=
    ⟨fun k => by rw [(v.wake_changes m.ch.val 2).ch k, State.ch_of_pon hpon, State.ch_of_pon hpon]⟩
  refine Completes.of_heard (u := v.wake m.ch.val 2) h (exec_keyControl m idx key s)
    ((if_neg (by simp [hsrc])).trans rfl) fun t ht => ?_
  have hch := hwoken.answered ht
  have hall := (((hk.and hl).and he).and hw).and ht.touches
  refine ⟨?_, (hch.field PonCh.ploamUp fun _ => rfl).trans (congrArg (· ++ _) (PonCh.woken_field _ _ PonCh.ploamUp fun _ => rfl)),
    (hch.field PonCh.lull fun _ => rfl).trans (PonCh.woken_lull _ _), hch.restKept, hall.regsKeptIn (by simp [or_imp, forall_and]),
    hall.onlyChanges (by simp)⟩
  rw [ht.touches.slot (by simp), hw.slot (by simp), he.slot (by simp), hslot]

/-- No key is drawn once the entropy source has failed (R498). -/
theorem keyControl_failed {idx : Fin 2} {key : BitVec 128} (h : Heard m s) (hsrc : s.ciph.entropyFail = true) :
    Completes (.keyControl m idx key) s fun t =>
      (∀ k < 32, t.slot k = s.slot k) ∧ (t.ch m.ch.val).ploamUp = (s.ch m.ch.val).ploamUp ∧
      (t.ch m.ch.val).lull = (s.ch m.ch.val).lull ∧ KeyFrame s t := by
  refine Completes.of_heard h (exec_keyControl m idx key s) (if_pos hsrc) fun t ht => ?_
  have hch := (ChangesChannel.refl m.ch.val s).answered ht
  exact ⟨fun k _ => ht.touches.slot (by simp) k, (hch.field PonCh.ploamUp fun _ => rfl).trans (List.append_nil _), hch.field PonCh.lull fun _ => rfl,
    ht.touches.regsKeptIn (by simp), ht.touches.onlyChanges (by simp)⟩

/-! SLEEP_ALLOW (R134, R135). -/

/-- What SLEEP_ALLOW leaves as it is. -/
def SleepFrame (s t : State) : Prop :=
  RegsKeptIn [R.BOND_SAT, fun _ => R.BUF_SAT, R.ETH_SAT, fun _ => R.MEM_DDR_SAT, fun _ => R.MEM_SAT,
    R.MEM_UE_LOG_B, R.PON_STAT_SAT, R.PON_TC_SAT, fun _ => R.SCH_SAT, R.SVL_SAT] s t ∧
  OnlyChanges [.freeCtr, .regs, .cnt, .arb, .fns, .pon, .bonding, .buf, .sched, .clsIn, .svl, .mac, .lanes,
    .mem, .ciph] s t

/-- The permission is stored. -/
def State.allowSleep (s : State) (n : Nat) (on : Bool) : State := s.setCh n { s.ch n with sleepAllowed := on }

theorem State.allowSleep_changes (s : State) (n : Nat) (on : Bool) :
    ChangesChannel n (fun c => { c with sleepAllowed := on }) s (s.allowSleep n on) :=
  s.setCh_changes n fun c => { c with sleepAllowed := on }

theorem State.ch_allowSleep (s : State) (n : Nat) (on : Bool) :
    (s.allowSleep n on).ch n = { s.ch n with sleepAllowed := on } := by
  rw [State.allowSleep, State.ch_setCh, if_pos rfl]

theorem SleepFrame.of_answered {on : Bool} {F : Reach} (h : Touches F (s.allowSleep m.ch.val on) u)
    (hF : F.Within wakeReach) (ht : m.Answered replies u t) : SleepFrame s t :=
  have h' := (((s.setCh_touches m.ch.val _).and (h.mono hF)).and ht.touches)
  ⟨h'.regsKeptIn (by simp [or_imp, forall_and]), h'.onlyChanges (by simp)⟩

theorem sleepAllow_off (h : Heard m s) :
    Completes (.sleepAllow m false) s fun t =>
      (t.ch m.ch.val).sleepAllowed = false ∧ (t.ch m.ch.val).lull = .awake ∧
      (t.ch m.ch.val).ploamUp = (s.ch m.ch.val).ploamUp ++ ackOf m 0 ∧
      RestKept m.ch.val s t ∧ SleepFrame s t := by
  refine Completes.of_heard (u := (s.allowSleep m.ch.val false).wake m.ch.val 0) h (exec_sleepAllow m false s) rfl fun t ht => ?_
  have hch := ((s.allowSleep_changes m.ch.val false).trans (State.wake_changes _ m.ch.val 0)
    (PonCh.woken_statusFree _)).answered ht
  exact ⟨(hch.field PonCh.sleepAllowed fun _ => rfl).trans (PonCh.woken_field _ _ PonCh.sleepAllowed fun _ => rfl),
    (hch.field PonCh.lull fun _ => rfl).trans (PonCh.woken_lull _ _),
    (hch.field PonCh.ploamUp fun _ => rfl).trans (congrArg (· ++ _) (PonCh.woken_field _ _ PonCh.ploamUp fun _ => rfl)),
    hch.restKept, .of_answered (State.wake_touches ..) (.refl _) ht⟩

theorem sleepAllow_on (h : Heard m s) (hpolicy : (s.ch m.ch.val).lullPolicy ≠ 0) (hact : (s.ch m.ch.val).act = .o5)
    (hlull : (s.ch m.ch.val).lull = .awake) :
    Completes (.sleepAllow m true) s fun t =>
      (t.ch m.ch.val).sleepAllowed = true ∧ (t.ch m.ch.val).lull = s.lullMode m.ch.val ∧ (t.ch m.ch.val).sleepDue = true ∧
      (t.ch m.ch.val).txPowered = (s.ch m.ch.val).txPowered ∧
      (t.ch m.ch.val).ploamUp = (s.ch m.ch.val).ploamUp ++ ackOf m 0 ++ [{ kind := 3, args := [(s.lullMode m.ch.val).code] }] ∧
      RestKept m.ch.val s t ∧ SleepFrame s t := by
  have hmay : ((s.allowSleep m.ch.val true).ch m.ch.val).MaySleep := by
    rw [State.ch_allowSleep]
    exact ⟨rfl, hpolicy, hact, hlull⟩
  have hmode : (s.allowSleep m.ch.val true).lullMode m.ch.val = s.lullMode m.ch.val := by
    unfold State.lullMode
    rw [State.ch_allowSleep]
    rfl
  obtain ⟨hlulled, hreq⟩ := State.tryLull_of_maySleep hmay 0
  rw [hmode] at hlulled hreq
  refine Completes.of_heard (u := ((s.allowSleep m.ch.val true).tryLull m.ch.val 0).1) h (exec_sleepAllow m true s) rfl
    fun t ht => ?_
  have hch := ((s.allowSleep_changes m.ch.val true).trans hlulled fun _ => rfl).answered ht
  refine ⟨hch.field PonCh.sleepAllowed fun _ => rfl, hch.field PonCh.lull fun _ => rfl, hch.field PonCh.sleepDue fun _ => rfl, hch.field PonCh.txPowered fun _ => rfl, ?_,
    hch.restKept, .of_answered (State.tryLull_touches ..) ⟨by simp, by simp, by simp⟩ ht⟩
  rw [List.append_assoc, ← hreq]
  exact hch.field PonCh.ploamUp fun _ => rfl

/-- The permission alone, where no policy or state lets the channel sleep. -/
theorem sleepAllow_stored (h : Heard m s)
    (hno : (s.ch m.ch.val).lullPolicy = 0 ∨ (s.ch m.ch.val).act ≠ .o5 ∨ (s.ch m.ch.val).lull ≠ .awake) :
    Completes (.sleepAllow m true) s fun t =>
      (t.ch m.ch.val).sleepAllowed = true ∧ (t.ch m.ch.val).lull = (s.ch m.ch.val).lull ∧
      (t.ch m.ch.val).ploamUp = (s.ch m.ch.val).ploamUp ++ ackOf m 0 ∧
      RestKept m.ch.val s t ∧ SleepFrame s t := by
  have hnot : ¬((s.allowSleep m.ch.val true).ch m.ch.val).MaySleep := by
    rw [State.ch_allowSleep]
    rintro ⟨-, hpolicy, hact, hlull⟩
    exact hno.elim hpolicy fun h => h.elim (· hact) (· hlull)
  have htry := State.tryLull_of_not_maySleep hnot 0
  have hbody : (let r := (s.allowSleep m.ch.val true).tryLull m.ch.val 0
      some ({ s := r.1, replies := ackOf m 0 ++ r.2, disp := some 1 } : PloamOut)) =
      some { s := s.allowSleep m.ch.val true, replies := ackOf m 0, disp := some 1 } := by
    simp only [htry, List.append_nil]
  refine Completes.of_heard h (exec_sleepAllow m true s) hbody fun t ht => ?_
  have hch := (s.allowSleep_changes m.ch.val true).answered ht
  exact ⟨hch.field PonCh.sleepAllowed fun _ => rfl, hch.field PonCh.lull fun _ => rfl, hch.field PonCh.ploamUp fun _ => rfl, hch.restKept,
    .of_answered (.refl ⟨[], [], []⟩ _) ⟨by simp, by simp, by simp⟩ ht⟩

/-! PLOAM_UNSUPPORTED (R115). -/

theorem ploamUnsupported_spec {answer : Bool} (h : Heard m s) (hlt : s.count (C.TC_PLOAM_UNSUP m.ch.val) < 0xFFFFFFFE) :
    Completes (.ploamUnsupported m answer) s fun t =>
      t.count (C.TC_PLOAM_UNSUP m.ch.val) = s.count (C.TC_PLOAM_UNSUP m.ch.val) + 1 ∧
      (t.ch m.ch.val).ploamUp = (s.ch m.ch.val).ploamUp ++ (if answer
        then [{ kind := 0, args := [m.seq.toNat, 2] }] else []) ∧
      (t.ch m.ch.val).act = (s.ch m.ch.val).act ∧
      RegsKeptIn [fun _ => R.BUF_SAT, fun _ => R.MEM_DDR_SAT, fun _ => R.MEM_SAT, R.MEM_UE_LOG_B, R.PON_TC_SAT] s t ∧
      OnlyChanges [.regs, .cnt, .arb, .fns, .pon, .buf, .sched, .mem, .ciph] s t := by
  have hmsg : ∀ c : Fin 4, ∀ d ∈ messageReach.ctrs, d.off ≠ (C.TC_PLOAM_UNSUP c.val).off := by decide
  have hb := s.bump_touches_of_lt hlt
  refine Completes.of_heard h (exec_ploamUnsupported m answer s) rfl fun t ht => ?_
  have hall := hb.and ht.touches
  refine ⟨?_, ht.ploamUp_of_pon (hb.pon (by simp)), ?_, hall.regsKeptIn (by simp), hall.onlyChanges (by simp)⟩
  · rw [ht.touches.ctrs _ (hmsg m.ch), State.count_bump_of_lt s rfl hlt]
  · rw [ht.self, hb.ch (by simp)]
    rfl

/-- Settles O18: each row that carries a message runs it, so that what becomes of a message of any type is said of runPloam;
what a message executed gives is its own execution followed by its answers and its record. -/
theorem otherDownstreamMessagesAreAnswered : Obligations.OtherDownstreamMessagesAreAnswered := by
  refine ⟨fun s i m hi h => ?_, fun s i m hi hs hl hp hb => ?_, fun s i m hi hs hl hp hb => ?_,
    fun s i m hi hs hl hp hb hm hr => ?_, fun s i m hi hs hl hp hb hm hk hr ho hne => ?_,
    fun s i m hi hs hl hp hb hm hk hr ho heq hseq => ?_, fun s i m x hi hs hl hp hb hx hx' => ?_,
    fun s m h => requestRegistration_spec h,
    fun s m alloc i h hroom hnew hfree => assignAllocId_new h hroom hnew hfree,
    fun s m alloc h hfull hnew hlt => assignAllocId_refused h hfull hnew hlt,
    fun s m alloc i h hfind => assignAllocId_dealloc h hfind,
    fun s m alloc dealloc h hfind => assignAllocId_idle h hfind,
    fun s m idx key h hsrc => keyControl_spec h hsrc, fun s m idx key h hsrc => keyControl_failed h hsrc,
    fun s m h => sleepAllow_off h, fun s m l h hpolicy hact hlull hl => hl ▸ sleepAllow_on h hpolicy hact hlull,
    fun s m h hno => sleepAllow_stored h hno, fun s m answer h hlt => ploamUnsupported_spec h hlt⟩
  all_goals obtain ⟨body, hexec⟩ := exec_of_ploamOf hi
  · rw [hexec, runPloam_of_unheard h]
  · rw [hexec, runPloam_of_bad hs hl hp hb]
  · rw [hexec, runPloam_of_badPart hs hl hp hb]
    rfl
  · rw [hexec, runPloam_of_badMic hs hl hp hb hr hm]
  · rw [hexec, runPloam_of_other hs hl hp hb hm hk hr ho hne]
  · rw [hexec, runPloam_of_repeated hs hl hp hb hm hk hr ho heq hseq]
  · rw [hexec, hexec, runPloam_of_readKey hs hl hp hb hx hx']

end Sys2Proof.Machine
end

section
/-! Profiles, the ONU-ID, ranging, deactivation and disabling (R99, R104, R108, R110 to R121), and O17. -/

namespace Sys2Proof.Machine

variable {s t u : State} {m : Ploam} {n : Nat}

/-- What the messages that move activation leave as it is, of the registers and the parts. -/
def ActivationFrame (ps : List Part) (s t : State) : Prop :=
  RegsKeptIn [R.BOND_SAT, fun _ => R.BUF_SAT, fun _ => R.MEM_DDR_SAT, fun _ => R.MEM_SAT, R.MEM_UE_LOG_B,
    R.PON_TC_SAT, fun _ => R.SCH_SAT] s t ∧ OnlyChanges ps s t

theorem ActivationFrame.of_answered {ps qs : List Part} {replies : List UpMsg}
    (h : Touches ⟨qs, reevalReach.regs, reevalReach.ctrs⟩ s u) (ht : m.Answered replies u t)
    (hps : ∀ x ∈ qs ++ messageReach.parts, x ∈ ps) : ActivationFrame ps s t :=
  have h' := h.and ht.touches
  ⟨h'.regsKeptIn (by simp [or_imp, forall_and]), h'.onlyChanges hps⟩

theorem StatusFree.comp {f g : PonCh → PonCh} (hf : StatusFree f) (hg : StatusFree g) : StatusFree fun c => g (f c) :=
  fun c => hg.congr (hf c)

/-! BURST_PROFILE (R99, R104). -/

theorem burstProfile_stored {p : Profile} (h : Heard m s)
    (hrate : (upRates (s.ponMode m.ch.val)).contains p.rateKbps = true) :
    Completes (.burstProfile m p) s fun t =>
      (t.ch m.ch.val).profiles = (s.ch m.ch.val).profiles.filter (fun q => q.index != p.index) ++ [p] ∧
      (t.ch m.ch.val).act = (if (s.ch m.ch.val).act = .o12 ∧
        s.flag (F.PON_TC_CFG_ACT_HOLD m.ch.val) = false then .o23 else (s.ch m.ch.val).act) ∧
      RestKept m.ch.val s t ∧
      ActivationFrame [.regs, .cnt, .arb, .pon, .bonding, .buf, .sched, .clsIn, .mem, .ciph] s t := by
  have hset := s.setCh_changes m.ch.val fun c =>
    { c with profiles := c.profiles.filter (fun q => q.index != p.index) ++ [p] }
  have hreach := s.setCh_touches m.ch.val
    { s.ch m.ch.val with profiles := (s.ch m.ch.val).profiles.filter (fun q => q.index != p.index) ++ [p] }
  have hhold := hreach.flag (F.PON_TC_CFG_ACT_HOLD m.ch.val) (by simp)
  set u := s.setCh m.ch.val
    { s.ch m.ch.val with profiles := (s.ch m.ch.val).profiles.filter (fun q => q.index != p.index) ++ [p] }
  refine Completes.of_heard (u := u.tryO23 m.ch.val) h (exec_burstProfile m p s) ((if_neg (by rw [hrate]; simp)).trans rfl)
    fun t ht => ?_
  have hch := (hset.trans (u.tryO23_changes_hold m.ch.val) (PonCh.toO23_statusFree _)).answered ht
  refine ⟨(hch.field PonCh.profiles fun _ => rfl).trans (PonCh.toO23_field _ _ PonCh.profiles fun _ => rfl), ?_, hch.restKept,
    .of_answered ((hreach.mono ⟨by simp, by simp, by simp⟩).trans (u.tryO23_touches m.ch.val)) ht (by simp)⟩
  refine (hch.field PonCh.act fun _ => rfl).trans ((PonCh.toO23_act _ _).trans ?_)
  rw [hhold]
  simp

theorem burstProfile_otherRate {p : Profile} (h : Heard m s)
    (hrate : (upRates (s.ponMode m.ch.val)).contains p.rateKbps = false) :
    Completes (.burstProfile m p) s fun t =>
      (t.ch m.ch.val).profiles = (s.ch m.ch.val).profiles ∧ (t.ch m.ch.val).act = (s.ch m.ch.val).act ∧
      RestKept m.ch.val s t ∧
      ActivationFrame [.regs, .cnt, .arb, .pon, .bonding, .buf, .sched, .clsIn, .mem, .ciph] s t := by
  refine Completes.of_heard h (exec_burstProfile m p s) (if_pos hrate) fun t ht => ?_
  have hch := (ChangesChannel.refl m.ch.val s).answered ht
  exact ⟨hch.field PonCh.profiles fun _ => rfl, hch.field PonCh.act fun _ => rfl, hch.restKept,
    .of_answered (qs := reevalReach.parts) (.refl _ s) ht (by simp)⟩

/-! ASSIGN_ONU_ID (R114, Table 4-3). -/

theorem assignOnuId_assigned {id : BitVec 10} {i : Nat} (h : Heard m s) (hact : (s.ch m.ch.val).act = .o23)
    (hfree : s.freeEntry = some i) :
    Completes (.assignOnuId m (serialOf m.ch.val) id) s fun t =>
      (t.ch m.ch.val).onuId = some id.toNat ∧ (t.ch m.ch.val).act = .o4 ∧ (t.allocAt i).state = 3 ∧
      (t.allocAt i).allocId = id.toNat ∧ (t.allocAt i).channel = m.ch.val ∧
      (∀ j < 256, j ≠ i → t.allocAt j = s.allocAt j) ∧ RestKept m.ch.val s t ∧
      ActivationFrame [.regs, .cnt, .arb, .pon, .alloc, .bonding, .buf, .sched, .clsIn, .mem, .ciph] s t := by
  have hset := s.setCh_changes m.ch.val fun c => { c with onuId := some id.toNat, snDue := 0 }
  have hreach := s.setCh_touches m.ch.val { s.ch m.ch.val with onuId := some id.toNat, snDue := 0 }
  set u := s.setCh m.ch.val { s.ch m.ch.val with onuId := some id.toNat, snDue := 0 }
  have halloc := u.assignAlloc_touches m.ch.val id.toNat 3
  have hat := State.allocAt_assignAlloc (s := u) hfree m.ch.val id.toNat 3
  set v := u.assignAlloc m.ch.val id.toNat 3
  have hv := v.setAct_touches m.ch.val .o4
  have hall : Touches ⟨.alloc :: reevalReach.parts, reevalReach.regs, reevalReach.ctrs⟩ s (v.setAct m.ch.val .o4) :=
    ((hreach.mono ⟨by simp, by simp, by simp⟩).part halloc (by simp)).next hv
      ⟨fun _ h => List.mem_cons_of_mem _ h, fun _ h => h, fun _ h => h⟩
  refine Completes.of_heard (u := v.setAct m.ch.val .o4) h (exec_assignOnuId m (serialOf m.ch.val) id s) (if_pos ⟨rfl, hact⟩)
    fun t ht => ?_
  have hch := ((hset.next halloc (by simp)).trans (v.setAct_changes m.ch.val .o4) fun _ => rfl).answered ht
  have htat : ∀ j, t.allocAt j = if j = i then (s.allocAt i).assigned m.ch.val id.toNat 3 else s.allocAt j := fun j => by
    rw [ht.allocAt, hv.allocAt (by simp), hat]
    rfl
  simp only [htat, if_true]
  exact ⟨hch.field PonCh.onuId fun _ => rfl, hch.field PonCh.act fun _ => rfl, rfl, rfl, rfl, fun j _ hj => if_neg hj, hch.restKept,
    .of_answered hall ht (by simp)⟩

/-! RANGING_TIME (R108, R121). -/

/-- O5 is entered: the port-IDs of the channel may change with it. -/
theorem State.enterO5_changes (s : State) (n : Nat) : ∃ onu ports,
    ChangesChannel n (fun c => { c with portsOnu := onu, ports := ports, act := .o5 }) s (s.enterO5 n) := by
  have hset : ∀ onu ports, ChangesChannel n (fun c => { c with portsOnu := onu, ports := ports, act := .o5 }) s
      ((s.setCh n { s.ch n with portsOnu := onu, ports := ports }).setAct n .o5) := fun onu ports =>
    (s.setCh_changes n fun c => { c with portsOnu := onu, ports := ports }).trans (State.setAct_changes ..) fun _ => rfl
  have htold : ∀ onu ports l, ChangesChannel n (fun c => { c with portsOnu := onu, ports := ports, act := .o5 }) s
      (((s.setCh n { s.ch n with portsOnu := onu, ports := ports }).ponEvent n 2 4 6 l).setAct n .o5) := fun onu ports l =>
    ((s.setCh_changes n fun c => { c with portsOnu := onu, ports := ports }).next (State.ponEvent_touches ..) (by simp)).trans
      (State.setAct_changes ..) fun _ => rfl
  unfold State.enterO5
  dsimp only
  split
  · exact ⟨_, _, hset _ _⟩
  · split_ifs
    · exact ⟨_, _, hset _ _⟩
    · exact ⟨_, _, hset _ _⟩
    · exact ⟨_, _, htold _ _ _⟩

theorem State.enterO5_touches (s : State) (n : Nat) : Touches reevalReach s (s.enterO5 n) := by
  have hset : ∀ c, Touches reevalReach s (s.setCh n c) := fun c => (Touches.refl _ s).part (s.setCh_touches ..) (by simp)
  unfold State.enterO5
  extract_lets c new told u
  have hu : Touches reevalReach s u := by
    simp only [u]
    split
    · exact hset _
    · exact .ite (fun _ => hset _) (fun _ => .ite (fun _ => hset _) (fun _ => (hset _).part (State.ponEvent_touches ..) (by simp)))
  exact hu.trans (u.setAct_touches ..)

/-- The delay that a relative ranging message adds to (R108): the latest that waits, or the one in force. -/
def PonCh.latestEqd (c : PonCh) : Int := ((c.eqdNext.getLast?).map (·.1)).getD c.eqd

/-- The delay waits for two frames on. -/
def PonCh.ranged (c : PonCh) (delay : Int) (sfc : Nat) : PonCh :=
  { c with eqdNext := c.eqdNext ++ [(delay, (sfc + 2) % 2 ^ 51)], rangeDue := 0 }

theorem rangingTime_stored {relative : Bool} {v : Int} (h : Heard m s)
    (hact : (s.ch m.ch.val).act = .o4 ∨ (s.ch m.ch.val).act = .o5) :
    Completes (.rangingTime m relative v) s fun t =>
      (t.ch m.ch.val).act = .o5 ∧
      (t.ch m.ch.val).eqdNext = (s.ch m.ch.val).eqdNext ++
        [(wrapSigned (2 ^ 31) (if relative then (s.ch m.ch.val).latestEqd + v else v), (m.sfc + 2) % 2 ^ 51)] ∧
      (t.ch m.ch.val).eqd = (s.ch m.ch.val).eqd ∧ (t.ch m.ch.val).ploamUp = (s.ch m.ch.val).ploamUp ++ ackOf m 0 ∧
      RestKept m.ch.val s t ∧
      ActivationFrame [.regs, .cnt, .arb, .pon, .bonding, .buf, .sched, .clsIn, .mem, .ciph] s t := by
  set delay := wrapSigned (2 ^ 31) (if relative then (s.ch m.ch.val).latestEqd + v else v) with hdelay
  have hset := s.setCh_changes m.ch.val fun c => c.ranged delay m.sfc
  have hreach := (s.setCh_touches m.ch.val ((s.ch m.ch.val).ranged delay m.sfc)).mono (G := reevalReach)
    ⟨by simp, by simp, by simp⟩
  set u := s.setCh m.ch.val ((s.ch m.ch.val).ranged delay m.sfc) with hu
  have hchange : ∃ onu ports, ChangesChannel m.ch.val
      (fun c => { c.ranged delay m.sfc with portsOnu := onu, ports := ports, act := .o5 }) s
      (if (s.ch m.ch.val).act = .o4 then u.enterO5 m.ch.val else u) := by
    split
    · obtain ⟨onu, ports, h5⟩ := u.enterO5_changes m.ch.val
      exact ⟨onu, ports, hset.trans h5 fun _ => rfl⟩
    · next hne =>
      refine ⟨(s.ch m.ch.val).portsOnu, (s.ch m.ch.val).ports, hset.congr ?_⟩
      rw [← hact.resolve_left hne]
      rfl
  have htouch : Touches reevalReach s (if (s.ch m.ch.val).act = .o4 then u.enterO5 m.ch.val else u) :=
    .ite (fun _ => hreach.trans (u.enterO5_touches ..)) (fun _ => hreach)
  refine Completes.of_heard (u := if (s.ch m.ch.val).act = .o4 then u.enterO5 m.ch.val else u) (replies := ackOf m 0)
    (disp := none) h (exec_rangingTime m relative v s) ((if_pos hact).trans ?_) fun t ht => ?_
  · have hlatest : (match (s.ch m.ch.val).eqdNext.getLast? with
        | some (x, _) => x
        | none => (s.ch m.ch.val).eqd) = (s.ch m.ch.val).latestEqd := by
      unfold PonCh.latestEqd
      cases (s.ch m.ch.val).eqdNext.getLast? <;> rfl
    simp only [hu, hdelay, ← hlatest]
    rfl
  · obtain ⟨onu, ports, hch⟩ := hchange
    have hch := hch.answered ht
    exact ⟨hch.field PonCh.act fun _ => rfl, hch.field PonCh.eqdNext fun _ => rfl, hch.field PonCh.eqd fun _ => rfl, hch.field PonCh.ploamUp fun _ => rfl, hch.restKept,
      .of_answered htouch ht (by simp)⟩

/-! DEACTIVATE_ONU_ID (R119 to R121). -/

theorem Touches.allocsOf {F : Reach} (h : Touches F s t) (hp : .alloc ∉ F.parts) (n : Nat) : t.allocsOf n = s.allocsOf n := by
  simp only [State.allocsOf, h.alloc hp]

theorem State.mem_allocsOf {j : Nat} : j ∈ s.allocsOf n ↔ ∃ a, (j, a) ∈ s.alloc ∧ a.state ≠ 0 ∧ a.channel = n := by
  simp [State.allocsOf]

/-- A freed entry is no longer the channel's; no other becomes so. -/
theorem State.mem_allocsOf_freeAlloc {k i j : Nat} (h : j ∈ (s.freeAlloc k i).allocsOf n) : j ∈ s.allocsOf n ∧ j ≠ i := by
  have halloc := (s.dropAllocNode_touches k i fun x => decide (0 < x.sent)).alloc (by simp)
  obtain ⟨a, hmem, hstate, hch⟩ := State.mem_allocsOf.mp h
  have hset : (j, a) ∈ sparseSet (fun _ => {}) s.alloc i { s.allocAt i with state := 0, loaded := false } := by
    have hat : (s.dropAllocNode k i fun x => decide (0 < x.sent)).allocAt i = s.allocAt i := by
      simp only [State.allocAt, halloc]
    rw [State.freeAlloc, State.setAlloc, hat, halloc] at hmem
    exact hmem
  unfold sparseSet at hset
  split at hset
  · obtain ⟨hold, hne⟩ := mem_sparseDel.mp hset
    exact ⟨State.mem_allocsOf.mpr ⟨a, hold, hstate, hch⟩, hne⟩
  · rcases mem_sparseIns.mp hset with heq | hdel
    · exact absurd (congrArg AllocCtx.state (Prod.mk.inj heq).2) hstate
    · obtain ⟨hold, hne⟩ := mem_sparseDel.mp hdel
      exact ⟨State.mem_allocsOf.mpr ⟨a, hold, hstate, hch⟩, hne⟩

theorem State.dropAlloc_touches (s : State) (n i : Nat) :
    Touches allocReach s ((s.dropAllocNode n i fun _ => true).freeAlloc n i) :=
  ((Touches.refl allocReach s).next (s.dropAllocNode_touches n i _) ⟨by simp, by simp, fun _ h => h⟩).trans
    (State.freeAlloc_touches ..)

theorem State.dropAllocs_touches (s : State) (n : Nat) : Touches allocReach s (s.dropAllocs n) :=
  .foldl (fun u i => u.dropAlloc_touches n i) _ s

/-- A channel whose Alloc-IDs are discarded has none (R119). -/
theorem State.allocsOf_dropAllocs (s : State) (n : Nat) : (s.dropAllocs n).allocsOf n = [] := by
  have hfold : ∀ (l : List Nat) (u : State) (j : Nat), j ∈ (l.foldl (fun s i =>
      (s.dropAllocNode n i fun _ => true).freeAlloc n i) u).allocsOf n → j ∈ u.allocsOf n ∧ j ∉ l := by
    intro l
    induction l with
    | nil => exact fun u j hj => ⟨hj, by simp⟩
    | cons i l ih =>
      intro u j hj
      obtain ⟨hfreed, hnotin⟩ := ih _ j hj
      obtain ⟨hdropped, hne⟩ := State.mem_allocsOf_freeAlloc hfreed
      rw [(u.dropAllocNode_touches n i _).allocsOf (by simp)] at hdropped
      exact ⟨hdropped, by simp [hne, hnotin]⟩
  refine List.eq_nil_iff_forall_not_mem.mpr fun j hj => ?_
  obtain ⟨hin, hnotin⟩ := hfold _ s j hj
  exact hnotin hin

theorem State.dropIdentity_of_noAllocs (h : s.allocsOf n = []) :
    s.dropIdentity n = s.setCh n (s.ch n).sansIdentity := by
  unfold State.dropIdentity
  have hnone : (s.setCh n (s.ch n).sansIdentity).allocsOf n = [] := h
  dsimp only
  change List.foldl _ _ (List.filter _ ((s.setCh n (s.ch n).sansIdentity).allocsOf n)) = _
  rw [hnone]
  rfl

theorem State.dropDataKeys_touches (s : State) (n : Nat) : Touches ⟨[.ciph], [], []⟩ s (s.dropDataKeys n) :=
  .foldl (fun u i => u.eraseKey_touches (8 * n + i)) _ s

/-- The channel's data keys are gone (R119). -/
theorem State.slot_dropDataKeys (s : State) (n : Nat) {i : Nat} (hi : i < 4) : ((s.dropDataKeys n).slot (8 * n + i)).state = 0 := by
  simp only [State.dropDataKeys, List.foldl_cons, List.foldl_nil, State.slot_eraseKey]
  obtain rfl | rfl | rfl | rfl : i = 0 ∨ i = 1 ∨ i = 2 ∨ i = 3 := by omega
  all_goals simp

theorem State.fld_setFld_actHold (s : State) (n v : Nat) :
    (s.setFld (F.PON_TC_CFG_ACT_HOLD n) v).fld (F.PON_TC_CFG_ACT_HOLD n) = v % 2 := by
  simp only [State.fld, State.setFld, State.rd_wr, if_true, BitVec.toNat_ofNat, bitsOf, putBits, Nat.shiftRight_zero]
  omega

/-- ACT_HOLD is set where HOLD_ON_DEACT asks for it (R120). -/
def State.holdOnDeact (s : State) (n : Nat) : State :=
  if s.flag (F.PON_TC_CFG_HOLD_ON_DEACT n) then s.setFld (F.PON_TC_CFG_ACT_HOLD n) 1 else s

theorem State.holdOnDeact_touches (s : State) (n : Nat) :
    Touches ⟨[.regs], [(R.PON_TC_CFG, n)], []⟩ s (s.holdOnDeact n) :=
  .ite (fun _ => s.setFld_touches _ _ (R.PON_TC_CFG, n) rfl) (fun _ => .refl _ s)

theorem State.flag_holdOnDeact (s : State) (n : Nat) : (s.holdOnDeact n).flag (F.PON_TC_CFG_ACT_HOLD n) =
    (s.flag (F.PON_TC_CFG_HOLD_ON_DEACT n) || s.flag (F.PON_TC_CFG_ACT_HOLD n)) := by
  unfold State.holdOnDeact
  split
  · next h => rw [h, State.flag, s.fld_setFld_actHold]; rfl
  · next h => rw [Bool.eq_false_of_not_eq_true h, Bool.false_or]

/-- A channel's port-IDs stay, inactive (R121). -/
def PonCh.portsInactive (c : PonCh) : PonCh :=
  { c with ports := sparseMap (fun _ => {}) (fun _ p => { p with active := false }) c.ports }

/-- A channel that has been deactivated and starts again (R119 to R121). -/
def PonCh.restarted (falses : Nat) (c : PonCh) : PonCh :=
  { (({ c.sansIdentity with act := .o11 } : PonCh).woken falses).portsInactive with act := .o12 }

/-- What of it the claim speaks of, whether it goes on to O2-3 or not. -/
theorem PonCh.restarted_toO23 (falses : Nat) (hold : Bool) (c : PonCh) :
    let d := (c.restarted falses).toO23 hold
    d.onuId = none ∧ d.eqd = 0 ∧ d.bursts = c.airBursts ∧ d.lull = .awake ∧
      d.act = if c.profiles ≠ [] ∧ hold = false then .o23 else .o12 := by
  have hprofiles : (c.restarted falses).profiles = c.profiles := PonCh.woken_field _ _ PonCh.profiles fun _ => rfl
  refine ⟨(toO23_field _ _ PonCh.onuId fun _ => rfl).trans (woken_field _ _ PonCh.onuId fun _ => rfl),
    (toO23_field _ _ PonCh.eqd fun _ => rfl).trans (woken_field _ _ PonCh.eqd fun _ => rfl),
    (toO23_field _ _ PonCh.bursts fun _ => rfl).trans (woken_field _ _ PonCh.bursts fun _ => rfl),
    (toO23_field _ _ PonCh.lull fun _ => rfl).trans (woken_lull _ _), ?_⟩
  rw [toO23_act, hprofiles]
  exact if_congr (and_iff_right rfl) rfl rfl

/-- What DEACTIVATE_ONU_ID discards: the channel in O1.1 without Alloc-IDs, identity and data keys (R119). -/
def State.discardOnu (s : State) (n : Nat) : State :=
  (((s.setAct n .o11).dropAllocs n).dropIdentity n).dropDataKeys n

/-- The channel that it leaves, awake in O1.2 (R120, R121). -/
def State.restartOnu (s : State) (n : Nat) : State :=
  let s := s.wake n 0
  (s.setCh n (s.ch n).portsInactive).setAct n .o12

/-- What the discard touches. -/
@[simp] def discardReach : Reach := (reevalReach.and allocReach).and ⟨[.pon, .ciph], [], []⟩

theorem State.discardOnu_eq (s : State) (n : Nat) : s.discardOnu n =
    (((s.setAct n .o11).dropAllocs n).setCh n (((s.setAct n .o11).dropAllocs n).ch n).sansIdentity).dropDataKeys n := by
  rw [State.discardOnu, State.dropIdentity_of_noAllocs (State.allocsOf_dropAllocs ..)]

theorem State.discardOnu_touches (s : State) (n : Nat) : Touches discardReach s (s.discardOnu n) := by
  rw [State.discardOnu_eq]
  exact ((s.setAct_touches n .o11).and (State.dropAllocs_touches ..)).and
    (((Touches.refl _ _).part (State.setCh_touches ..) (by simp)).part (State.dropDataKeys_touches ..) (by simp))

theorem State.discardOnu_changes (s : State) (n : Nat) :
    ChangesChannel n (fun c => { c.sansIdentity with act := .o11 }) s (s.discardOnu n) := by
  rw [State.discardOnu_eq]
  have hset := ((s.setAct_changes n .o11).next (State.dropAllocs_touches ..) (by simp)).trans
    (State.setCh_changes ((s.setAct n .o11).dropAllocs n) n PonCh.sansIdentity) fun _ => rfl
  exact hset.next (State.dropDataKeys_touches ..) (by simp)

theorem State.allocsOf_discardOnu (s : State) (n : Nat) : (s.discardOnu n).allocsOf n = [] := by
  rw [State.discardOnu_eq, (State.dropDataKeys_touches ..).allocsOf (by simp),
    (State.setCh_touches ..).allocsOf (by simp), State.allocsOf_dropAllocs]

theorem State.restartOnu_touches (s : State) (n : Nat) : Touches wakeReach s (s.restartOnu n) :=
  ((s.wake_touches n 0).part (State.setCh_touches ..) (by simp)).next (State.setAct_touches ..) reevalReach_within_wakeReach

theorem State.restartOnu_changes (s : State) (n : Nat) : ∃ k,
    ChangesChannel n (fun c => { (c.woken k).portsInactive with act := .o12 }) s (s.restartOnu n) :=
  ⟨_, ((s.wake_changes n 0).trans (State.setCh_changes _ n PonCh.portsInactive) fun _ => rfl).trans
    (State.setAct_changes ..) fun _ => rfl⟩

/-- No register that a channel's re-evaluation tells of is PON_TC_CFG. -/
theorem tcCfg_notMem_reevalReach (c : Fin 4) : ∀ r ∈ reevalReach.regs, r.1 r.2 ≠ R.PON_TC_CFG c.val := by
  revert c; decide

/-- What DEACTIVATE_ONU_ID does: the hold that HOLD_ON_DEACT asks for stands when the channel is left in O1.2. -/
def State.heldOnu (s : State) (n : Nat) : State :=
  let was := (s.ch n).onuCode
  let s := ((s.discardOnu n).restartOnu n).holdOnDeact n
  s.ponEvent n 1 4 2 [(2, was), (1, s.fld (F.PON_TC_CFG_ACT_HOLD n))]

/-- What it touches. -/
@[simp] def deactivateReach (n : Nat) : Reach := (discardReach.and wakeReach).and ⟨[.regs, .arb], [(R.PON_TC_CFG, n)], []⟩

/-- From the discard on, neither keys nor Alloc-IDs change. -/
theorem State.heldOnu_cases (s : State) (n : Nat) :
    Touches (wakeReach.and ⟨[.regs, .arb], [(R.PON_TC_CFG, n)], []⟩) (s.discardOnu n) (s.heldOnu n) :=
  (State.restartOnu_touches ..).and
    (((State.holdOnDeact_touches ..).mono ⟨by simp, by simp, by simp⟩).part (State.ponEvent_touches ..) (by simp))

theorem State.heldOnu_changes (s : State) (n : Nat) : ∃ k, ChangesChannel n (PonCh.restarted k) s (s.heldOnu n) := by
  obtain ⟨k, h⟩ := (s.discardOnu n).restartOnu_changes n
  exact ⟨k, (((s.discardOnu_changes n).trans h ((PonCh.woken_statusFree k).comp
    (g := fun c => { c.portsInactive with act := .o12 }) fun _ => rfl)).next
    (State.holdOnDeact_touches ..) (by simp)).next (State.ponEvent_touches ..) (by simp)⟩

theorem State.flag_heldOnu (s : State) (c : Fin 4) : (s.heldOnu c.val).flag (F.PON_TC_CFG_ACT_HOLD c.val) =
    (s.flag (F.PON_TC_CFG_HOLD_ON_DEACT c.val) || s.flag (F.PON_TC_CFG_ACT_HOLD c.val)) := by
  have hcfg := tcCfg_notMem_reevalReach c
  have hd : ∀ r ∈ discardReach.regs, r.1 r.2 ≠ R.PON_TC_CFG c.val := by revert c; decide
  have hkeep : ∀ f : Fld, f.off = R.PON_TC_CFG c.val →
      ((s.discardOnu c.val).restartOnu c.val).flag f = s.flag f := fun f hf =>
    ((State.restartOnu_touches ..).flag f (hf ▸ hcfg)).trans ((s.discardOnu_touches c.val).flag f (hf ▸ hd))
  rw [State.heldOnu, (State.ponEvent_touches ..).flag _ (by simp), State.flag_holdOnDeact, hkeep _ rfl, hkeep _ rfl]

theorem State.heldOnu_toO23_touches (s : State) (n : Nat) :
    Touches ((deactivateReach n).and reevalReach) s ((s.heldOnu n).tryO23 n) :=
  ((s.discardOnu_touches n).and (s.heldOnu_cases n) |>.mono
    ⟨by simp, by simp, fun c h => by simpa [or_assoc] using h⟩).and (State.tryO23_touches ..)

theorem deactivateOnuId_spec (h : Heard m s) (hact : (s.ch m.ch.val).act ≠ .o7) :
    Completes (.deactivateOnuId m) s fun t =>
      (t.ch m.ch.val).onuId = none ∧ (t.ch m.ch.val).eqd = 0 ∧ (t.ch m.ch.val).bursts = (s.ch m.ch.val).airBursts ∧
      (t.ch m.ch.val).lull = .awake ∧ t.allocsOf m.ch.val = [] ∧ (∀ i < 4, (t.slot (8 * m.ch.val + i)).state = 0) ∧
      t.flag (F.PON_TC_CFG_ACT_HOLD m.ch.val) =
        (s.flag (F.PON_TC_CFG_HOLD_ON_DEACT m.ch.val) || s.flag (F.PON_TC_CFG_ACT_HOLD m.ch.val)) ∧
      (t.ch m.ch.val).act = (if (s.ch m.ch.val).profiles ≠ [] ∧
        t.flag (F.PON_TC_CFG_ACT_HOLD m.ch.val) = false then .o23 else .o12) ∧
      RestKept m.ch.val s t ∧
      RegsKeptIn [R.BOND_SAT, fun _ => R.BUF_SAT, R.ETH_SAT, fun _ => R.MEM_DDR_SAT, fun _ => R.MEM_SAT,
        R.MEM_UE_LOG_B, R.PON_STAT_SAT, R.PON_TC_CFG, R.PON_TC_SAT, fun _ => R.SCH_SAT, R.SVL_SAT] s t ∧
      OnlyChanges [.freeCtr, .regs, .cnt, .arb, .fns, .pon, .alloc, .bonding, .buf, .sched, .clsIn, .svl, .mac,
        .lanes, .mem, .ciph] s t := by
  have hflag := s.flag_heldOnu m.ch
  have hnone := s.allocsOf_discardOnu m.ch.val
  have hheld := s.heldOnu_cases m.ch.val
  obtain ⟨k, hchange⟩ := s.heldOnu_changes m.ch.val
  have hreach := s.heldOnu_toO23_touches m.ch.val
  have hgo := (s.heldOnu m.ch.val).tryO23_touches m.ch.val
  refine Completes.of_heard (u := (s.heldOnu m.ch.val).tryO23 m.ch.val) h (exec_deactivateOnuId m s)
    ((if_neg hact).trans rfl) fun t ht => ?_
  have hch := (hchange.trans (State.tryO23_changes_hold _ _) (PonCh.toO23_statusFree _)).answered ht
  have htflag : t.flag (F.PON_TC_CFG_ACT_HOLD m.ch.val) = (s.heldOnu m.ch.val).flag (F.PON_TC_CFG_ACT_HOLD m.ch.val) := by
    have hmsg : ∀ c : Fin 4, ∀ q ∈ messageReach.regs, q.1 q.2 ≠ R.PON_TC_CFG c.val := by decide
    exact (ht.touches.flag _ (hmsg m.ch)).trans (hgo.flag _ (tcCfg_notMem_reevalReach m.ch))
  obtain ⟨honu, heqd, hbursts, hlull, hact'⟩ :=
    (s.ch m.ch.val).restarted_toO23 k ((s.heldOnu m.ch.val).flag (F.PON_TC_CFG_ACT_HOLD m.ch.val))
  have hall := hreach.and ht.touches
  refine ⟨(hch.field PonCh.onuId fun _ => rfl).trans honu, (hch.field PonCh.eqd fun _ => rfl).trans heqd, (hch.field PonCh.bursts fun _ => rfl).trans hbursts,
    (hch.field PonCh.lull fun _ => rfl).trans hlull, ?_, fun i hi => ?_, htflag.trans hflag, ?_, hch.restKept,
    hall.regsKeptIn (by simp [or_imp, forall_and]), hall.onlyChanges (by simp)⟩
  · rw [ht.touches.allocsOf (by simp), hgo.allocsOf (by simp), hheld.allocsOf (by simp), hnone]
  · rw [ht.touches.slot (by simp), hgo.slot (by simp), hheld.slot (by simp)]
    exact State.slot_dropDataKeys _ _ hi
  · rw [htflag]
    exact (hch.field PonCh.act fun _ => rfl).trans hact'

/-! DISABLE_SERIAL_NUMBER and ENABLE_SERIAL_NUMBER (R110, R111). -/

/-- What the messages that disable and enable a channel leave as it is, of the registers. -/
def DisableFrame (ps : List Part) (s t : State) : Prop :=
  RegsKeptIn [R.BOND_SAT, fun _ => R.BUF_SAT, R.ETH_SAT, fun _ => R.MEM_DDR_SAT, fun _ => R.MEM_SAT,
    R.MEM_UE_LOG_B, R.PON_STAT_SAT, R.PON_TC_SAT, fun _ => R.SCH_SAT, R.SVL_SAT] s t ∧ OnlyChanges ps s t

theorem State.jrn_touches (s : State) (j : Journal) : Touches ⟨[.jrn], [], []⟩ s { s with jrn := j } :=
  .of_parts (fun x hx => by cases x with | jrn => simp at hx | _ => rfl) (by simp) (by simp)

theorem Touches.jrn {F : Reach} (h : Touches F s t) (hp : .jrn ∉ F.parts) : t.jrn = s.jrn := h.parts .jrn hp
theorem Touches.out {F : Reach} (h : Touches F s t) (hp : .out ∉ F.parts) : t.out = s.out := h.parts .out hp

theorem testBit_setBit (k n : Nat) : (setBit k n).testBit n = true := by simp [setBit, Nat.testBit_or]

theorem testBit_clrBit (k n : Nat) : (clrBit k n).testBit n = false := by
  unfold clrBit
  split
  · next h =>
    rw [Nat.testBit_eq_decide_div_mod_eq] at h ⊢
    have hpos : 0 < 2 ^ n := Nat.two_pow_pos n
    have hdiv : (k - 2 ^ n) / 2 ^ n = k / 2 ^ n - 1 := by simpa using Nat.sub_mul_div k (2 ^ n) 1
    rw [hdiv]
    simp only [decide_eq_true_eq, decide_eq_false_iff_not] at h ⊢
    omega
  · next h => exact Bool.eq_false_of_not_eq_true h

/-- A channel whose transmitter has been stopped for good (R110). -/
def PonCh.silenced (c : PonCh) : PonCh :=
  { c with
    txDis := true, txPowered := false, txWaking := false, bursts := [], burstOn := false, snDue := 0, rangeDue := 0
    o7 := true }

/-- The journal's bit of a channel in O7 (R111). -/
def State.markO7 (s : State) (n : Nat) (on : Bool) : State :=
  { s with jrn := { s.jrn with core := { s.jrn.core with o7 := (if on then setBit else clrBit) s.jrn.core.o7 n } } }

theorem State.journal_touches (s : State) (step result cause attempts detail ms : Nat) :
    Touches ⟨[.jrn], [], []⟩ s (s.journal step result cause attempts detail ms) := s.jrn_touches _

/-- The transmitter off, the bit in the journal. -/
def State.silence (s : State) (n : Nat) : State := ((s.stopTx n).setCh n (s.ch n).silenced).markO7 n true

/-- O7 is entered (R110). -/
def State.disableOnu (s : State) (n : Nat) : State :=
  let c := s.ch n
  let s := if c.act = .o7 then s.silence n else (s.silence n).journal 0x50 0 0 1 n (s.silence n).msNow
  let s := (s.setAct n .o7).wake n 0
  if c.act = .o7 then s else s.ponEvent n 1 4 1 [(4, c.sfc)]

theorem State.stopTx_touches (s : State) (n : Nat) : Touches ⟨[.out], [], []⟩ s (s.stopTx n) := by
  unfold State.stopTx
  exact .ite (fun _ => (s.emit_touches _).trans (State.emit_touches ..)) (fun _ => s.emit_touches _)

theorem State.txDis_mem_stopTx (s : State) (n : Nat) : .pin "TX_DIS" n true ∈ (s.stopTx n).out := by
  unfold State.stopTx
  dsimp only
  split <;> simp [State.emit]

theorem State.silence_touches (s : State) (n : Nat) : Touches ⟨[.out, .pon, .jrn], [], []⟩ s (s.silence n) :=
  ((((Touches.refl _ s).part (s.stopTx_touches n) (by simp)).part (State.setCh_touches ..) (by simp)).part (State.jrn_touches ..) (by simp))

theorem State.silence_changes (s : State) (n : Nat) : ChangesChannel n PonCh.silenced s (s.silence n) := by
  refine ChangesChannel.next ⟨fun m => ?_⟩ (State.jrn_touches ..) (by simp)
  rw [State.ch_setCh, (s.stopTx_touches n).ch (by simp)]
  split <;> rfl

/-- What O7's entry touches. -/
@[simp] def disableReach : Reach := ⟨.out :: .jrn :: wakeReach.parts, wakeReach.regs, wakeReach.ctrs⟩

/-- O7's entry after the journal's entry. -/
theorem State.disableOnu_cases (s : State) (n : Nat) : ∃ u, Touches ⟨[.jrn], [], []⟩ (s.silence n) u ∧
    u.jrn.core.o7 = (s.silence n).jrn.core.o7 ∧ Touches wakeReach u (s.disableOnu n) ∧
    ∃ k, ChangesChannel n (fun c => ({ c with act := .o7 } : PonCh).woken k) u (s.disableOnu n) := by
  unfold State.disableOnu
  extract_lets c u v
  have hv : Touches wakeReach u v := ((u.setAct_touches n .o7).mono reevalReach_within_wakeReach).trans (State.wake_touches ..)
  have hvc := (u.setAct_changes n .o7).trans (State.wake_changes (u.setAct n .o7) n 0) (PonCh.woken_statusFree _)
  refine ⟨u, .ite (fun _ => .refl _ _) (fun _ => State.journal_touches ..), ?_, ?_, ?_⟩
  · simp only [u]
    split <;> rfl
  · exact .ite (fun _ => hv) (fun _ => hv.part (State.ponEvent_touches ..) (by simp))
  · refine ⟨(u.setAct n .o7).count (C.PON_CAND_FALSE n), ?_⟩
    split
    · exact hvc
    · exact hvc.next (State.ponEvent_touches ..) (by simp)

/-- What of a disabled channel the claim speaks of. -/
theorem PonCh.silenced_woken (k : Nat) (c : PonCh) :
    let d := ({ c.silenced with act := .o7 } : PonCh).woken k
    d.act = .o7 ∧ d.o7 = true ∧ d.txDis = true ∧ d.txPowered = false ∧ d.txWaking = false ∧ d.bursts = [] := by
  refine ⟨woken_field _ _ PonCh.act fun _ => rfl, woken_field _ _ PonCh.o7 fun _ => rfl, woken_field _ _ PonCh.txDis fun _ => rfl, woken_field _ _ PonCh.txPowered fun _ => rfl,
    ?_, woken_field _ _ PonCh.bursts fun _ => rfl⟩
  unfold woken
  split_ifs <;> rfl

theorem disableSerialNumber_spec (h : Heard m s) :
    Completes (.disableSerialNumber m (serialOf m.ch.val)) s fun t =>
      (t.ch m.ch.val).act = .o7 ∧ (t.ch m.ch.val).o7 = true ∧ (t.ch m.ch.val).txDis = true ∧
      (t.ch m.ch.val).txPowered = false ∧ (t.ch m.ch.val).txWaking = false ∧ (t.ch m.ch.val).bursts = [] ∧
      .pin "TX_DIS" m.ch.val true ∈ t.out ∧ t.jrn.core.o7.testBit m.ch.val = true ∧
      RestKept m.ch.val s t ∧
      DisableFrame [.pending, .out, .freeCtr, .regs, .cnt, .arb, .fns, .pon, .bonding, .buf, .sched, .clsIn, .svl,
        .mac, .lanes, .mem, .ciph, .jrn] s t := by
  have hs := s.silence_touches m.ch.val
  obtain ⟨u, hu, hbit, hw, k, hchange⟩ := s.disableOnu_cases m.ch.val
  have hoff := ((s.silence_changes m.ch.val).next hu (by simp)).trans hchange
    (.comp (f := fun c => { c with act := .o7 }) (fun _ => rfl) (PonCh.woken_statusFree k))
  refine Completes.of_heard (u := s.disableOnu m.ch.val) h (exec_disableSerialNumber m _ s) ((if_pos rfl).trans rfl)
    fun t ht => ?_
  have hch := hoff.answered ht
  obtain ⟨hact, ho7, hdis, hpow, hwak, hbursts⟩ := (s.ch m.ch.val).silenced_woken k
  have hall := ((hs.and hu).and hw).and ht.touches
  refine ⟨(hch.field PonCh.act fun _ => rfl).trans hact, (hch.field PonCh.o7 fun _ => rfl).trans ho7, (hch.field PonCh.txDis fun _ => rfl).trans hdis,
    (hch.field PonCh.txPowered fun _ => rfl).trans hpow, (hch.field PonCh.txWaking fun _ => rfl).trans hwak, (hch.field PonCh.bursts fun _ => rfl).trans hbursts,
    ?_, ?_, hch.restKept, hall.regsKeptIn (by simp [or_imp, forall_and]), hall.onlyChanges (by simp)⟩
  · rw [ht.touches.out (by simp), hw.out (by simp), hu.out (by simp)]
    exact s.txDis_mem_stopTx _
  · rw [ht.touches.jrn (by simp), hw.jrn (by simp), hbit]
    exact testBit_setBit _ _

/-- A channel that is enabled again (R111). -/
def PonCh.unsilenced (en powered : Bool) (c : PonCh) : PonCh := { c with txDis := !en, txPowered := powered, o7 := false }

/-- TX_DIS is released, the journal's bit cleared. -/
def State.unsilence (s : State) (n : Nat) : State :=
  let en := s.flag (F.PON_RX_CFG_ENABLE n)
  let s := if en ∧ s.nearLoop (40 + n) = false then s.emit (.pin "TX_DIS" n false) else s
  let s := (s.setCh n ((s.ch n).unsilenced en (s.rxOn n))).markO7 n false
  s.journal 0x51 0 0 1 n s.msNow

theorem State.unsilence_spec (s : State) (n : Nat) : Touches ⟨[.out, .pon, .jrn], [], []⟩ s (s.unsilence n) ∧
    (s.unsilence n).jrn.core.o7.testBit n = false ∧
    ∃ powered, ChangesChannel n (PonCh.unsilenced (s.flag (F.PON_RX_CFG_ENABLE n)) powered) s (s.unsilence n) := by
  unfold State.unsilence
  extract_lets en u v
  have hu : Touches ⟨[.out], [], []⟩ s u := .ite (fun _ => s.emit_touches _) (fun _ => .refl _ s)
  have hv := (u.setCh_touches n ((u.ch n).unsilenced en (u.rxOn n)))
  refine ⟨?_, testBit_clrBit _ _, u.rxOn n, ?_⟩
  · exact ((((Touches.refl _ s).part hu (by simp)).part hv (by simp)).part (State.jrn_touches ..) (by simp)).part (State.journal_touches ..) (by simp)
  · refine ChangesChannel.next (F := ⟨[.jrn], [], []⟩) ⟨fun m => ?_⟩
      ((State.jrn_touches _ _).trans (State.journal_touches ..)) (by simp)
    rw [State.ch_setCh, hu.ch (by simp), hu.ch (by simp)]
    split <;> rfl

/-- O7 is left in sync (R111). -/
def State.enableOnu (s : State) (n : Nat) : State := (((s.unsilence n).dropIdentity n).setAct n .o12).tryO23 n

/-- After the journal's entry the channel restarts without its identity. -/
theorem State.enableOnu_cases (s : State) (n : Nat) :
    Touches (identityReach.and reevalReach) (s.unsilence n) (s.enableOnu n) :=
  (State.dropIdentity_touches ..).and ((State.setAct_touches ..).trans (State.tryO23_touches ..))

/-- What of an enabled channel the claim speaks of. -/
structure PonCh.Enabled (c d : PonCh) (en hold : Bool) : Prop where
  act : d.act = if c.profiles ≠ [] ∧ hold = false then .o23 else .o12
  onuId : d.onuId = none
  o7 : d.o7 = false
  txDis : d.txDis = !en

theorem PonCh.unsilenced_toO23 (en powered hold : Bool) (c : PonCh) :
    c.Enabled (({ (c.unsilenced en powered).sansIdentity with act := .o12 } : PonCh).toO23 hold) en hold where
  act := by
    rw [toO23_act]
    exact if_congr (and_iff_right rfl) rfl rfl
  onuId := toO23_field _ _ PonCh.onuId fun _ => rfl
  o7 := toO23_field _ _ PonCh.o7 fun _ => rfl
  txDis := toO23_field _ _ PonCh.txDis fun _ => rfl

theorem PonCh.Enabled.of_sansStatus {c d e : PonCh} {en hold : Bool} (h : e.sansStatus = d.sansStatus)
    (hd : c.Enabled d en hold) : c.Enabled e en hold :=
  ⟨(congr_of_sansStatus h PonCh.act fun _ => rfl).trans hd.act, (congr_of_sansStatus h PonCh.onuId fun _ => rfl).trans hd.onuId,
    (congr_of_sansStatus h PonCh.o7 fun _ => rfl).trans hd.o7, (congr_of_sansStatus h PonCh.txDis fun _ => rfl).trans hd.txDis⟩

/-- What answers a message and its sequence number are of no concern to it. -/
theorem PonCh.Enabled.answered {c d : PonCh} {en hold : Bool} (h : c.Enabled d en hold) (m : Ploam) (replies : List UpMsg) :
    c.Enabled (d.answered m replies) en hold := ⟨h.act, h.onuId, h.o7, h.txDis⟩

theorem State.enableOnu_changes (s : State) (c : Fin 4) : ∃ powered, ChangesChannel c.val
    (fun d => ({ (d.unsilenced (s.flag (F.PON_RX_CFG_ENABLE c.val)) powered).sansIdentity with act := .o12 } : PonCh).toO23
      (s.flag (F.PON_TC_CFG_ACT_HOLD c.val))) s (s.enableOnu c.val) := by
  obtain ⟨hu, -, powered, huc⟩ := s.unsilence_spec c.val
  have hac := ((s.unsilence c.val).dropIdentity_changes c.val).trans (State.setAct_changes _ c.val .o12) fun _ => rfl
  have hhold : (((s.unsilence c.val).dropIdentity c.val).setAct c.val .o12).flag (F.PON_TC_CFG_ACT_HOLD c.val) =
      s.flag (F.PON_TC_CFG_ACT_HOLD c.val) := by
    have hid : ∀ c : Fin 4, ∀ q ∈ identityReach.regs, q.1 q.2 ≠ R.PON_TC_CFG c.val := by decide
    rw [(State.setAct_touches ..).flag _ (tcCfg_notMem_reevalReach c), (State.dropIdentity_touches ..).flag _ (hid c),
      hu.flag _ (by simp)]
  rw [← hhold]
  exact ⟨powered, (huc.trans hac fun _ => rfl).trans (State.tryO23_changes_hold ..) (PonCh.toO23_statusFree _)⟩

/-- The channel stays in sync as its journal's entry is made. -/
theorem State.inSync_unsilence (s : State) (n : Nat) : (s.unsilence n).inSync n = s.inSync n := by
  obtain ⟨-, -, powered, huc⟩ := s.unsilence_spec n
  have hsync : ((s.unsilence n).ch n).sync = (s.ch n).sync := huc.field PonCh.sync fun _ => rfl
  simp only [State.inSync, hsync]

theorem enableSerialNumber_spec (h : Heard m s) (hact : (s.ch m.ch.val).act = .o7) :
    Completes (.enableSerialNumber m (serialOf m.ch.val)) s fun t =>
      (t.ch m.ch.val).act = (if (s.ch m.ch.val).profiles ≠ [] ∧
        s.flag (F.PON_TC_CFG_ACT_HOLD m.ch.val) = false then .o23 else .o12) ∧
      (t.ch m.ch.val).onuId = none ∧ (t.ch m.ch.val).o7 = false ∧
      (t.ch m.ch.val).txDis = !s.flag (F.PON_RX_CFG_ENABLE m.ch.val) ∧ t.jrn.core.o7.testBit m.ch.val = false ∧
      RestKept m.ch.val s t ∧
      DisableFrame [.pending, .out, .freeCtr, .regs, .cnt, .arb, .fns, .pon, .alloc, .bonding, .buf, .sched, .clsIn,
        .svl, .mac, .lanes, .mem, .ciph, .jrn] s t := by
  obtain ⟨hu, hbit, -⟩ := s.unsilence_spec m.ch.val
  have hcases := s.enableOnu_cases m.ch.val
  obtain ⟨powered, hchange⟩ := s.enableOnu_changes m.ch
  have hsync : (s.unsilence m.ch.val).inSync m.ch.val = true := (s.inSync_unsilence _).trans h.1
  refine Completes.of_heard (u := s.enableOnu m.ch.val) (replies := []) (disp := some 1) h (exec_enableSerialNumber m _ s)
    ((if_pos ⟨rfl, hact⟩).trans (congrArg (fun x => some ({ s := x, disp := some 1 } : PloamOut)) (if_pos hsync))) fun t ht => ?_
  have hch := hchange.answered ht
  have hall := (hu.and hcases).and ht.touches
  obtain ⟨hact', honu, ho7, hdis⟩ := ((PonCh.unsilenced_toO23 _ powered _ _).answered m []).of_sansStatus hch.self
  refine ⟨hact', honu, ho7, hdis, ?_, hch.restKept, hall.regsKeptIn (by simp [or_imp, forall_and]),
    hall.onlyChanges (by simp)⟩
  rw [ht.touches.jrn (by simp), hcases.jrn (by simp)]
  exact hbit

/-- Settles O17: each message that its channel executes is its own execution, one operation of activation after another,
followed by its answers and its record; one that it does not execute answers none. -/
theorem activationFollowsTheDownstreamMessages : Obligations.ActivationFollowsTheDownstreamMessages := by
  refine ⟨fun s m p h hrate => burstProfile_stored h hrate, fun s m p h hrate => burstProfile_otherRate h hrate,
    fun s m id i h hact hfree => assignOnuId_assigned h hact hfree,
    fun s m sn id h hact => exec_of_heard_none h (exec_assignOnuId m sn id s) (if_neg fun hgo => hact hgo.2),
    fun s m v h hact => rangingTime_stored h hact,
    fun s m v latest h hact hlatest => hlatest ▸ rangingTime_stored h hact,
    fun s m relative v h h4 h5 => exec_of_heard_none h (exec_rangingTime m relative v s) (if_neg fun hgo => hgo.elim h4 h5),
    fun s m h hact => deactivateOnuId_spec h hact,
    fun s m h hact => exec_of_heard_none h (exec_deactivateOnuId m s) (if_pos hact),
    fun s m h => disableSerialNumber_spec h, fun s m sn id h hsn => ⟨?_, ?_, ?_⟩,
    fun s m h hact => enableSerialNumber_spec h hact,
    fun s m h hact => exec_of_heard_none h (exec_enableSerialNumber m _ s) (if_neg fun hgo => hact hgo.2)⟩
  · exact exec_of_heard_none h (exec_assignOnuId m sn id s) (if_neg fun hgo => hsn hgo.1)
  · exact exec_of_heard_none h (exec_disableSerialNumber m sn s) (if_neg hsn)
  · exact exec_of_heard_none h (exec_enableSerialNumber m sn s) (if_neg fun hgo => hsn hgo.1)

end Sys2Proof.Machine
end

section
/-! BWMAP: the grants that become bursts, and the bursts that a channel accepts (R106, R107, R125, R141 to R144). -/

namespace Sys2Proof.Machine

variable {s t u : State} {n sfc : Nat}

/-! Bursts of grants. -/

theorem flatten_burstsOf (gs : List Grant) : (burstsOf gs).flatten = gs := by
  induction gs with
  | nil => rfl
  | cons g gs ih =>
    rw [burstsOf]
    split
    · next h => rw [← ih, h]; rfl
    · next h => rw [← ih, h]; rfl
    · next h =>
      rw [h] at ih
      split <;> simp [← ih]

theorem mem_of_mem_burstsOf {gs b : List Grant} {g : Grant} (hb : b ∈ burstsOf gs) (hg : g ∈ b) : g ∈ gs :=
  flatten_burstsOf gs ▸ List.mem_flatten_of_mem hb hg

theorem sum_length_burstsOf (gs : List Grant) : ((burstsOf gs).map List.length).sum = gs.length := by
  rw [← List.length_flatten, flatten_burstsOf]

/-! A channel accepts bursts. -/

/-- What the acceptance of bursts touches. -/
@[simp] def acceptReach (n : Nat) : Reach :=
  ⟨[.regs, .cnt, .arb, .pon, .alloc], [(R.PON_US_SAT, n)], [C.US_PROFILE_MISS n, C.US_GRANT_OVERLAP n]⟩

/-- A channel with more bursts accepted. -/
def PonCh.accepting (bs : List BurstPlan) (c : PonCh) : PonCh :=
  { c with bursts := c.bursts ++ bs, grants := c.grants + (bs.map (·.grants.length)).sum }

theorem PonCh.accepting_nil (c : PonCh) : c.accepting [] = c := by simp [PonCh.accepting]

theorem PonCh.accepting_append (c : PonCh) (bs ds : List BurstPlan) :
    (c.accepting bs).accepting ds = c.accepting (bs ++ ds) := by
  simp [PonCh.accepting, Nat.add_assoc]

/-- From s to t channel n has accepted bs. -/
structure AcceptsBursts (n : Nat) (bs : List BurstPlan) (s t : State) : Prop where
  touches : Touches (acceptReach n) s t
  ch : ∀ m, t.ch m = if m = n then (s.ch n).accepting bs else s.ch m

/-- A burst that is not accepted leaves the channels. -/
theorem AcceptsBursts.none (h : Touches (acceptReach n) s t) (hpon : t.pon = s.pon) : AcceptsBursts n [] s t := by
  refine ⟨h, fun m => ?_⟩
  rw [State.ch_of_pon hpon, PonCh.accepting_nil]
  split
  · next hm => rw [hm]
  · rfl

theorem AcceptsBursts.trans {bs ds : List BurstPlan} (h : AcceptsBursts n bs s t) (h' : AcceptsBursts n ds t u) :
    AcceptsBursts n (bs ++ ds) s u := by
  refine ⟨h.touches.trans h'.touches, fun m => ?_⟩
  rw [h'.ch m, h.ch m, h.ch n]
  split
  · rw [if_pos rfl, PonCh.accepting_append]
  · rfl

/-- A refused burst is counted and told. -/
theorem AcceptsBursts.refused (s : State) (n : Nat) {c : Ctr} (hsat : R.PON_US_SAT n = c.sat)
    (hc : c ∈ (acceptReach n).ctrs) (sev chap row : Nat) (fs : List (Nat × Nat)) :
    AcceptsBursts n [] s ((s.bump c).ponEvent n sev chap row fs) := by
  have hevent := (s.bump c).ponEvent_touches n sev chap row fs
  refine .none ?_ ((hevent.pon (by simp)).trans (s.bump_pon c))
  exact ((Touches.refl _ s).bump c (R.PON_US_SAT, n) hsat (by simp) (by simp) hc).part hevent (by simp)

/-- The Alloc-IDs of an accepted burst note its frame. -/
def State.noteGrants (s : State) (n sfc : Nat) (b : List Grant) : State :=
  b.foldl (fun s g => match s.allocEntry n g.alloc with
    | some i => s.setAlloc i { s.allocAt i with lastSfc := sfc % 2 ^ 32 }
    | none => s) s

theorem State.noteGrants_touches (s : State) (n sfc : Nat) (b : List Grant) :
    Touches ⟨[.alloc], [], []⟩ s (s.noteGrants n sfc b) :=
  Touches.foldl (fun u g => by
    split
    · exact u.setAlloc_touches ..
    · exact .refl _ u) b s

/-- A burst is accepted or refused (R143, R144). -/
theorem State.acceptBurst_cases (s : State) (n sfc : Nat) (b : List Grant) :
    AcceptsBursts n [] s (s.acceptBurst n sfc b) ∨
      AcceptsBursts n [{ sfc := sfc, grants := b }] s (s.acceptBurst n sfc b) := by
  unfold State.acceptBurst
  split
  · exact .inl (.none (.refl _ s) rfl)
  · next g gs =>
    extract_lets c u
    split
    · exact .inl (.refused s n rfl (by simp) ..)
    · split
      · exact .inl (.refused s n rfl (by simp) ..)
      · have hu : Touches ⟨[.pon], [], []⟩ s u := s.setCh_touches ..
        have hnote := u.noteGrants_touches n sfc (g :: gs)
        refine .inr ⟨((Touches.refl _ s).part hu (by simp)).part hnote (by simp), fun m => (hnote.ch (by simp) m).trans ?_⟩
        rw [State.ch_setCh]
        simp [PonCh.accepting, c]

/-- Bursts of some of the lists of grants are accepted. -/
theorem State.acceptBursts_spec (s : State) (n sfc : Nat) (l : List (List Grant)) :
    ∃ bs : List BurstPlan, (bs.map (·.grants)).Sublist l ∧ (∀ b ∈ bs, b.sfc = sfc ∧ b.built = none) ∧
      AcceptsBursts n bs s (l.foldl (fun s b => s.acceptBurst n sfc b) s) := by
  induction l generalizing s with
  | nil => exact ⟨[], by simp, by simp, .none (.refl _ s) rfl⟩
  | cons b l ih =>
    obtain ⟨bs, hsub, hnew, h⟩ := ih (s.acceptBurst n sfc b)
    rcases s.acceptBurst_cases n sfc b with hb | hb
    · exact ⟨bs, hsub.cons _, hnew, hb.trans h⟩
    · refine ⟨_, ?_, ?_, hb.trans h⟩
      · simpa using hsub
      · simpa using hnew

/-! The equalisation delay. -/

theorem State.applyEqd_touches (s : State) (n : Nat) : Touches ⟨[.pon], [], []⟩ s (s.applyEqd n) := by
  unfold State.applyEqd
  dsimp only
  split
  · exact s.setCh_touches ..
  · exact .refl _ s

/-- A channel whose equalisation delay has moved on. -/
def PonCh.withEqd (eqd : Int) (next : List (Int × Nat)) (c : PonCh) : PonCh := { c with eqd := eqd, eqdNext := next }

theorem State.ch_applyEqd (s : State) (n : Nat) :
    ∃ v l, ∀ m, (s.applyEqd n).ch m = if m = n then (s.ch n).withEqd v l else s.ch m := by
  unfold State.applyEqd
  dsimp only
  split
  · next v k heq => exact ⟨_, _, fun m => s.ch_setCh ..⟩
  · refine ⟨(s.ch n).eqd, (s.ch n).eqdNext, fun m => ?_⟩
    split
    · next hm => rw [hm]; rfl
    · rfl

/-! What the Alloc-IDs' lookup depends on. -/

theorem State.allocEntry_congr (h : t.alloc = s.alloc) (n alloc : Nat) : t.allocEntry n alloc = s.allocEntry n alloc := by
  simp only [State.allocEntry, State.allocsOf, State.allocAt, h]

theorem State.grantUnknown_congr (h : t.alloc = s.alloc) (honu : ∀ k, (t.ch k).onuId = (s.ch k).onuId) (alloc : Nat) :
    t.grantUnknown alloc = s.grantUnknown alloc := by
  simp only [State.grantUnknown, State.allocEntry_congr h, honu]

end Sys2Proof.Machine
end

section
/-! The clauses of BWMAP (R106, R107, R109, R125, R141 to R144). -/

namespace Sys2Proof.Machine

variable {s t u : State} {c : Fin 4} {gs : List Grant}

/-- A BWmap with a bad byte in it or in HLend yields no grants (R125). -/
theorem bwmap_bad {bad hlBad : Bool} (hsync : s.inSync c.val = true) (hloop : s.nearLoop (40 + c.val) = false)
    (hbad : bad = true ∨ hlBad = true) (hlt : s.count (C.TC_HDR_DISCARD c.val) < 0xFFFFFFFE) :
    Completes (.bwmap c gs bad hlBad) s fun t =>
      (t.ch c.val).grants = 0 ∧ (t.ch c.val).bursts = (s.ch c.val).bursts ∧
      t.count (C.TC_HDR_DISCARD c.val) = s.count (C.TC_HDR_DISCARD c.val) + 1 ∧
      (∀ m < 4, m ≠ c.val → t.ch m = s.ch m) ∧ RegsKeptIn [R.PON_TC_SAT, R.PON_US_SAT] s t ∧
      OnlyChanges [.regs, .cnt, .arb, .pon, .alloc] s t := by
  have heqd := s.applyEqd_touches c.val
  obtain ⟨v, l, hch⟩ := s.ch_applyEqd c.val
  have hcount : (s.applyEqd c.val).count (C.TC_HDR_DISCARD c.val) = s.count (C.TC_HDR_DISCARD c.val) :=
    heqd.ctrs _ (by simp)
  have hlt' : (s.applyEqd c.val).count (C.TC_HDR_DISCARD c.val) < 0xFFFFFFFE := hcount.symm ▸ hlt
  have hbump := (s.applyEqd c.val).bump_touches_of_lt hlt'
  have hset := ((s.applyEqd c.val).bump (C.TC_HDR_DISCARD c.val)).setCh_touches c.val
    { ((s.applyEqd c.val).bump (C.TC_HDR_DISCARD c.val)).ch c.val with grants := 0 }
  refine ⟨_, (exec_bwmap ..).trans ((if_neg (by simp [hsync, hloop])).trans (if_pos (by simpa using hbad))), ?_⟩
  have hall := (heqd.and hbump).and hset
  refine ⟨?_, ?_, ?_, fun m _ hm => ?_, hall.regsKeptIn (by simp), hall.onlyChanges (by simp)⟩
  · simp
  · rw [State.ch_setCh, if_pos rfl, hbump.ch (by simp), hch, if_pos rfl]
    rfl
  · rw [hset.ctrs _ (by simp), State.count_bump_of_lt _ rfl hlt', hcount]
  · rw [State.ch_setCh, if_neg hm, hbump.ch (by simp), hch, if_neg hm]

/-- The channel as it takes up a BWmap: the serial number and ranging grants wait for their answers (R106, R107). -/
def PonCh.mapping (gs : List Grant) (c : PonCh) : PonCh :=
  { c with
    grants := 0
    snDue := if c.act = .o23 then c.snDue + (gs.filter (fun g => g.kind.val == 1)).length else c.snDue
    rangeDue := if c.act = .o4 then c.rangeDue + (gs.filter (fun g => g.kind.val == 2)).length else c.rangeDue }

/-- The grants of a BWmap's data. -/
def dataGrants (gs : List Grant) : List Grant := gs.filter (fun g => g.kind.val == 0)

/-- The data grants for a channel's Alloc-IDs. -/
def State.ownGrants (s : State) (n : Nat) (gs : List Grant) : List Grant :=
  (dataGrants gs).filter (fun g => (s.allocEntry n g.alloc).isSome)

/-- The data grants for unknown Alloc-IDs. -/
def State.unknownGrants (s : State) (gs : List Grant) : List Grant :=
  (dataGrants gs).filter (fun g => s.grantUnknown g.alloc)

/-- The state once a BWmap's unknown Alloc-IDs are counted. -/
def State.mapped (s : State) (n : Nat) (gs : List Grant) : State :=
  let u := s.setCh n ((s.ch n).mapping gs)
  u.bumpBy (C.US_GRANT_UNKNOWN n) (u.unknownGrants gs).length

/-- The state as the bursts of a BWmap come up for acceptance. -/
def State.counted (s : State) (n : Nat) (gs : List Grant) : State :=
  s.bumpBy (C.US_GRANT_EXCESS n) ((s.ownGrants n gs).length - 32)

theorem exec_bwmap_good (hsync : s.inSync c.val = true) (hloop : s.nearLoop (40 + c.val) = false) :
    exec (.bwmap c gs false false) s =
      .next ((burstsOf ((((s.applyEqd c.val).mapped c.val gs).ownGrants c.val gs).take 32)).foldl
        (fun u b => u.acceptBurst c.val ((s.applyEqd c.val).ch c.val).sfc b)
        (((s.applyEqd c.val).mapped c.val gs).counted c.val gs)) :=
  (if_neg (by simp [hsync, hloop])).trans (if_neg (by simp))

theorem State.ownGrants_congr (h : t.alloc = s.alloc) (n : Nat) (gs : List Grant) : t.ownGrants n gs = s.ownGrants n gs := by
  simp only [State.ownGrants, State.allocEntry_congr h]

theorem State.unknownGrants_congr (h : t.alloc = s.alloc) (honu : ∀ k, (t.ch k).onuId = (s.ch k).onuId) (gs : List Grant) :
    t.unknownGrants gs = s.unknownGrants gs := by
  simp only [State.unknownGrants, State.grantUnknown_congr h honu]

theorem length_ownGrants_le (s : State) (n : Nat) (gs : List Grant) : (s.ownGrants n gs).length ≤ gs.length :=
  (List.length_filter_le ..).trans (List.length_filter_le ..)

theorem length_unknownGrants_le (s : State) (gs : List Grant) : (s.unknownGrants gs).length ≤ gs.length :=
  (List.length_filter_le ..).trans (List.length_filter_le ..)

theorem unknownGrants_eq (s : State) (gs : List Grant) :
    s.unknownGrants gs = gs.filter (fun g => g.kind.val == 0 && s.grantUnknown g.alloc) := by
  simp [State.unknownGrants, dataGrants, List.filter_filter, Bool.and_comm]

theorem ownGrants_eq (s : State) (n : Nat) (gs : List Grant) :
    s.ownGrants n gs = gs.filter (fun g => g.kind.val == 0 && (s.allocEntry n g.alloc).isSome) := by
  simp [State.ownGrants, dataGrants, List.filter_filter, Bool.and_comm]

theorem mem_ownGrants {n : Nat} {g : Grant} (h : g ∈ s.ownGrants n gs) :
    g ∈ gs ∧ g.kind.val = 0 ∧ (s.allocEntry n g.alloc).isSome = true := by
  simpa [ownGrants_eq] using h

/-- What a BWmap's channel and counters are once its grants are counted. -/
structure Mapped (c : Fin 4) (gs : List Grant) (s t : State) : Prop where
  ch : ∃ v l, ∀ m, t.ch m = if m = c.val then ((s.ch c.val).withEqd v l).mapping gs else s.ch m
  touches : Touches ⟨[.pon, .cnt], [], [C.US_GRANT_UNKNOWN c.val, C.US_GRANT_EXCESS c.val]⟩ s t
  unknown : t.count (C.US_GRANT_UNKNOWN c.val) = s.count (C.US_GRANT_UNKNOWN c.val) + (s.unknownGrants gs).length
  excess : t.count (C.US_GRANT_EXCESS c.val) = s.count (C.US_GRANT_EXCESS c.val) + ((s.ownGrants c.val gs).length - 32)

/-- The channel takes up the BWmap. -/
theorem State.mapping_spec (s : State) (n : Nat) (gs : List Grant) :
    ∃ u, Touches ⟨[.pon], [], []⟩ s u ∧
      (∃ v l, ∀ m, u.ch m = if m = n then ((s.ch n).withEqd v l).mapping gs else s.ch m) ∧
      (s.applyEqd n).mapped n gs = u.bumpBy (C.US_GRANT_UNKNOWN n) (s.unknownGrants gs).length := by
  have heqd := s.applyEqd_touches n
  obtain ⟨v, l, hch⟩ := s.ch_applyEqd n
  have hset := (s.applyEqd n).setCh_touches n (((s.applyEqd n).ch n).mapping gs)
  have hu : ∀ m, ((s.applyEqd n).setCh n (((s.applyEqd n).ch n).mapping gs)).ch m =
      if m = n then ((s.ch n).withEqd v l).mapping gs else s.ch m := fun m => by
    rw [State.ch_setCh, hch, hch, if_pos rfl]
    split <;> rfl
  have honu : ∀ m, (((s.applyEqd n).setCh n (((s.applyEqd n).ch n).mapping gs)).ch m).onuId = (s.ch m).onuId := fun m => by
    rw [hu]
    split
    · next hm => rw [hm]; rfl
    · rfl
  refine ⟨_, heqd.trans hset, ⟨v, l, hu⟩, ?_⟩
  rw [← State.unknownGrants_congr ((heqd.trans hset).alloc (by simp)) honu]
  rfl

theorem State.counted_spec (hu : s.count (C.US_GRANT_UNKNOWN c.val) + gs.length < 0xFFFFFFFE)
    (he : s.count (C.US_GRANT_EXCESS c.val) + gs.length < 0xFFFFFFFE) :
    Mapped c gs s (((s.applyEqd c.val).mapped c.val gs).counted c.val gs) ∧
      ((s.applyEqd c.val).mapped c.val gs).ownGrants c.val gs = s.ownGrants c.val gs := by
  obtain ⟨u, hu0, ⟨v, l, hch⟩, heq⟩ := s.mapping_spec c.val gs
  have hunknown : u.count (C.US_GRANT_UNKNOWN c.val) = s.count (C.US_GRANT_UNKNOWN c.val) := hu0.ctrs _ (by simp)
  have hkU := length_unknownGrants_le s gs
  have hkE := length_ownGrants_le s c.val gs
  have hltU : u.count (C.US_GRANT_UNKNOWN c.val) + (s.unknownGrants gs).length < 0xFFFFFFFF := by omega
  have h1 := u.bumpBy_touches_of_lt (c := C.US_GRANT_UNKNOWN c.val) _ hltU
  have hown : (u.bumpBy (C.US_GRANT_UNKNOWN c.val) (s.unknownGrants gs).length).ownGrants c.val gs = s.ownGrants c.val gs :=
    State.ownGrants_congr ((h1.alloc (by simp)).trans (hu0.alloc (by simp))) c.val gs
  rw [heq]
  refine ⟨?_, hown⟩
  rw [State.counted, hown]
  have hexcess : (u.bumpBy (C.US_GRANT_UNKNOWN c.val) (s.unknownGrants gs).length).count (C.US_GRANT_EXCESS c.val) =
      s.count (C.US_GRANT_EXCESS c.val) := (h1.ctrs _ (by simp)).trans (hu0.ctrs _ (by simp))
  have hltE : (u.bumpBy (C.US_GRANT_UNKNOWN c.val) (s.unknownGrants gs).length).count (C.US_GRANT_EXCESS c.val) +
      ((s.ownGrants c.val gs).length - 32) < 0xFFFFFFFF := by omega
  have h2 := State.bumpBy_touches_of_lt _ (c := C.US_GRANT_EXCESS c.val) _ hltE
  refine ⟨⟨v, l, fun m => ?_⟩, ?_, ?_, ?_⟩
  · rw [h2.ch (by simp), h1.ch (by simp), hch]
  · exact (((Touches.refl _ s).part hu0 (by simp)).next h1 ⟨by simp, by simp, by simp⟩).next h2 ⟨by simp, by simp, by simp⟩
  · rw [h2.ctrs _ (by simp), u.count_bumpBy_of_lt _ rfl hltU, hunknown]
  · rw [State.count_bumpBy_of_lt _ _ rfl hltE, hexcess]

/-- The bursts that a BWmap's channel accepts hold its own data grants, of which it takes 32 at most. -/
theorem accepted_own {n : Nat} {bs : List BurstPlan} (hsub : (bs.map (·.grants)).Sublist (burstsOf ((s.ownGrants n gs).take 32))) :
    (bs.map (·.grants.length)).sum ≤ 32 ∧ ∀ b ∈ bs, ∀ g ∈ b.grants, g ∈ s.ownGrants n gs := by
  refine ⟨?_, fun b hb g hg => ?_⟩
  · have hle := (hsub.map List.length).sum_le_sum fun _ _ => Nat.zero_le _
    rw [sum_length_burstsOf, List.map_map] at hle
    exact hle.trans (List.length_take_le ..)
  · exact List.mem_of_mem_take (mem_of_mem_burstsOf (hsub.subset (List.mem_map_of_mem hb)) hg)

/-- A whole BWmap (R106, R107, R141 to R144). -/
theorem bwmap_good (hsync : s.inSync c.val = true) (hloop : s.nearLoop (40 + c.val) = false)
    (hu : s.count (C.US_GRANT_UNKNOWN c.val) + gs.length < 0xFFFFFFFE)
    (he : s.count (C.US_GRANT_EXCESS c.val) + gs.length < 0xFFFFFFFE) :
    Completes (.bwmap c gs false false) s fun t =>
      (s.ch c.val).bursts <+: (t.ch c.val).bursts ∧ (t.ch c.val).grants ≤ 32 ∧
      (∀ b ∈ (t.ch c.val).bursts.drop (s.ch c.val).bursts.length, b.sfc = (s.ch c.val).sfc ∧ b.built = none ∧
        ∀ g ∈ b.grants, g ∈ gs ∧ g.kind.val = 0 ∧ (s.allocEntry c.val g.alloc).isSome = true) ∧
      t.count (C.US_GRANT_UNKNOWN c.val) =
        s.count (C.US_GRANT_UNKNOWN c.val) + (gs.filter (fun g => g.kind.val == 0 && s.grantUnknown g.alloc)).length ∧
      t.count (C.US_GRANT_EXCESS c.val) =
        s.count (C.US_GRANT_EXCESS c.val) +
        ((gs.filter (fun g => g.kind.val == 0 && (s.allocEntry c.val g.alloc).isSome)).length - 32) ∧
      (t.ch c.val).snDue = (s.ch c.val).snDue + (if (s.ch c.val).act = .o23
        then (gs.filter (fun g => g.kind.val == 1)).length else 0) ∧
      (t.ch c.val).rangeDue = (s.ch c.val).rangeDue + (if (s.ch c.val).act = .o4
        then (gs.filter (fun g => g.kind.val == 2)).length else 0) ∧
      (∀ m < 4, m ≠ c.val → t.ch m = s.ch m) ∧ RegsKeptIn [R.PON_TC_SAT, R.PON_US_SAT] s t ∧
      OnlyChanges [.regs, .cnt, .arb, .pon, .alloc] s t := by
  obtain ⟨hmap, hown⟩ := State.counted_spec hu he
  have hsfc : ((s.applyEqd c.val).ch c.val).sfc = (s.ch c.val).sfc := by
    obtain ⟨v, l, hch⟩ := s.ch_applyEqd c.val
    rw [hch, if_pos rfl]
    rfl
  obtain ⟨⟨v, l, hch⟩, hreach, hunknown, hexcess⟩ := hmap
  refine ⟨_, exec_bwmap_good hsync hloop, ?_⟩
  rw [hown, hsfc]
  obtain ⟨bs, hsub, hnew, hacc, hacch⟩ := State.acceptBursts_spec
    (((s.applyEqd c.val).mapped c.val gs).counted c.val gs) c.val (s.ch c.val).sfc (burstsOf ((s.ownGrants c.val gs).take 32))
  obtain ⟨hsum, hmem⟩ := accepted_own hsub
  generalize List.foldl _ _ _ = t at hacc hacch ⊢
  generalize ((s.applyEqd c.val).mapped c.val gs).counted c.val gs = w at *
  have hall := hreach.and hacc
  have hself : t.ch c.val = (((s.ch c.val).withEqd v l).mapping gs).accepting bs := by
    rw [hacch, if_pos rfl, hch, if_pos rfl]
  have hbursts : (t.ch c.val).bursts = (s.ch c.val).bursts ++ bs := by rw [hself]; rfl
  refine ⟨⟨bs, hbursts.symm⟩, ?_, ?_, ?_, ?_, ?_, ?_, fun m _ hm => ?_, hall.regsKeptIn (by simp), hall.onlyChanges (by simp)⟩
  · rw [hself]
    exact (Nat.zero_add _).le.trans hsum
  · rw [hbursts, List.drop_left]
    exact fun b hb => ⟨(hnew b hb).1, (hnew b hb).2, fun g hg => mem_ownGrants (hmem b hb g hg)⟩
  · rw [hacc.ctrs _ (by simp), hunknown, unknownGrants_eq]
  · rw [hacc.ctrs _ (by simp), hexcess, ownGrants_eq]
  · rw [hself]
    by_cases hact : (s.ch c.val).act = .o23 <;> simp [PonCh.accepting, PonCh.mapping, PonCh.withEqd, hact]
  · rw [hself]
    by_cases hact : (s.ch c.val).act = .o4 <;> simp [PonCh.accepting, PonCh.mapping, PonCh.withEqd, hact]
  · rw [hacch, if_neg hm, hch, if_neg hm]

end Sys2Proof.Machine
end

section
/-! SUPPORT. What the filling of upstream bursts touches (R148 to R154, R438 to R442, R505, R522). -/

namespace Sys2Proof.Machine

variable {s t u : State} {n : Nat}

/-! The scheduler's steps. -/

theorem State.setN2_touches (s : State) (i : Nat) (x : Node2) : Touches ⟨[.sched], [], []⟩ s (s.setN2 i x) :=
  s.sched_touches _
theorem State.setLine_touches (s : State) (i : Nat) (l : LineCtx) : Touches ⟨[.sched], [], []⟩ s (s.setLine i l) :=
  s.sched_touches _
theorem State.pktTo_touches (s : State) (cyc : Nat) : Touches ⟨[.sched], [], []⟩ s (s.pktTo cyc) := s.sched_touches _

theorem State.payQueues_touches (s : State) (node : Nat) (ds : List (Nat × Int)) :
    Touches ⟨[.sched], [], []⟩ s (s.payQueues node ds) := by
  induction ds generalizing s with
  | nil => exact .refl _ s
  | cons d ds ih => exact (s.setSq_touches ..).trans (ih _)

theorem State.sentPart_touches (s : State) (q bytes : Nat) : Touches ⟨[.sched], [], []⟩ s (s.sentPart q bytes) := by
  unfold State.sentPart
  dsimp only
  split
  · exact .refl _ s
  · exact s.setSq_touches ..

theorem State.chargeAll_touches (s : State) (node1 q : Nat) (f : Frame) :
    Touches ⟨[.sched], [], []⟩ s (s.chargeAll node1 q f) := by
  unfold State.chargeAll
  extract_lets cyc v hq u n2 w h2 x n1 h1
  have hw : Touches ⟨[.sched], [], []⟩ s w := by
    simp only [w]
    split
    · exact (s.setSq_touches ..).trans (u.setLine_touches ..)
    · exact s.setSq_touches ..
  exact .ite (fun _ => hw) fun _ => (hw.trans (w.setN2_touches ..)).trans (x.setN1_touches ..)

/-- What the head frame of a queue touches as it is taken. -/
@[simp] def takeReach : Reach := ⟨[.sched, .cnt], [], [C.SCH_DEQ]⟩

theorem State.takeHead_touches (s : State) (node1 q : Nat) : Touches takeReach s (s.takeHead node1 q) := by
  unfold State.takeHead
  extract_lets v
  split
  · exact .refl _ s
  · exact (((Touches.refl _ s).part (s.setSq_touches ..) (by simp)).part (State.setN1_touches ..) (by simp)).bumpWide
      (c := C.SCH_DEQ) rfl (by simp) (by simp)

theorem State.takeBuf_touches (s : State) (id dst : Nat) : Touches freeReach s (s.takeBuf id dst) :=
  .ite (fun _ => .refl _ s) (fun _ => s.handover_touches ..)

/-! The read of a frame's words. -/

theorem State.meetWords_touches (s : State) (base : Nat) (es : List (Nat × Codeword)) :
    Touches (foundReach 2) s (s.meetWords base es).1 := by
  induction es generalizing s with
  | nil => exact .refl _ s
  | cons e es ih =>
    obtain ⟨i, w⟩ := e
    rw [State.meetWords]
    cases decodeWord w with
    | clean => exact ih s
    | corrected k _ => exact (s.foundCe_touches (by decide) k).trans (ih _)
    | bad => exact s.foundUe_touches ..

theorem State.readFrame_touches (s : State) (id len : Nat) (met : Option Nat) :
    Touches (foundReach 2) s (s.readFrame id len met).1 := by
  have h := s.meetWords_touches (s.bufWord id) (s.frameErrs id len)
  unfold State.readFrame
  generalize s.meetWords (s.bufWord id) (s.frameErrs id len) = r at h ⊢
  obtain ⟨u, _ | k⟩ := r
  · cases met with
    | none => exact h
    | some k => exact h.trans (u.foundUe_touches ..)
  · exact h

/-! The fill of a space. -/

/-- What the frames of a channel's grants touch. -/
@[simp] def fillReach (n : Nat) : Reach :=
  (takeReach.and freeReach).and ((foundReach 2).and ⟨[.regs, .cnt, .arb], [(R.PON_US_SAT, n)], [C.US_FRAME_BAD n]⟩)

theorem takeReach_within_fillReach (n : Nat) : takeReach.Within (fillReach n) :=
  ⟨by simp, by simp, by simp⟩

theorem freeReach_within_fillReach (n : Nat) : freeReach.Within (fillReach n) :=
  ⟨by simp, by simp, fun _ h => List.mem_append_left _ (List.mem_append_right _ h)⟩

theorem foundReach_within_fillReach (n : Nat) : (foundReach 2).Within (fillReach n) :=
  ⟨by simp, fun _ h => List.mem_append_right _ (List.mem_append_left _ h),
    fun _ h => List.mem_append_right _ (List.mem_append_left _ h)⟩

/-- The transmitter takes a frame's buffer and has finished with it. -/
theorem State.sendOff_touches (s : State) (n id : Nat) :
    Touches (fillReach n) s ((s.takeBuf id agBurst).finishDest id agBurst n) :=
  ((s.takeBuf_touches ..).trans (State.finishDest_touches ..)).mono (freeReach_within_fillReach n)

theorem State.dropBad_touches (s : State) (n alloc q : Nat) (x : QFrame) :
    Touches (fillReach n) s (s.dropBad n alloc q x) := by
  unfold State.dropBad
  extract_lets u v
  have hu : Touches (fillReach n) s u :=
    ((s.takeHead_touches ..).mono (takeReach_within_fillReach n)).bump (C.US_FRAME_BAD n) (R.PON_US_SAT, n) rfl
      (by simp) (by simp) (by simp)
  exact (hu.part (u.ponEvent_touches ..) (by simp)).trans (v.sendOff_touches n _)

theorem fillSpace_touches (n alloc key node : Nat) (bad : List Nat) (fuel r : Nat) (s : State) :
    Touches (fillReach n) s (fillSpace n alloc key node bad fuel r s).s := by
  induction fuel generalizing r s with
  | zero => rw [fillSpace, idleFill_s]; exact .refl _ s
  | succ fuel ih =>
    rw [fillSpace]
    split
    · rw [idleFill_s]; exact .refl _ s
    · split
      · rw [idleFill_s]; exact .refl _ s
      · extract_lets q u x v room m
        have hv : Touches ⟨[.sched], [], []⟩ s v :=
          .ite (fun _ => s.payQueues_touches ..) (fun _ => (s.payQueues_touches ..).trans (u.setN2_touches ..))
        have hv' : Touches (fillReach n) s v := (Touches.refl _ s).part hv (by simp)
        split
        · rw [idleFill_s]; exact hv'
        · next x xs hx =>
          extract_lets got data
          have hgot : Touches (fillReach n) s got.1 := by
            simp only [got]
            split
            · exact hv'
            · exact hv'.next (v.readFrame_touches ..) (foundReach_within_fillReach n)
          clear_value got
          obtain ⟨w, _ | k⟩ := got
          · dsimp only
            split
            · have hy : Touches (fillReach n) s ((w.takeHead (24 + n) q).chargeAll (24 + n) q x.frame) :=
                (hgot.next (w.takeHead_touches ..) (takeReach_within_fillReach n)).part (State.chargeAll_touches ..) (by simp)
              exact (hy.trans (State.sendOff_touches _ n _)).trans (ih ..)
            · rw [Filled.put_s, idleFill_s]
              exact hgot.part (w.sentPart_touches ..) (by simp)
          · exact (hgot.trans (w.dropBad_touches ..)).trans (ih ..)

/-! Grants, reports, the PLOAMu. -/

theorem Reach.Within.trans {F G H : Reach} (h : F.Within G) (h' : G.Within H) : F.Within H :=
  ⟨fun x hx => h'.parts x (h.parts x hx), fun r hr => h'.regs r (h.regs r hr), fun c hc => h'.ctrs c (h.ctrs c hc)⟩


/-- What the building of a channel's burst touches. -/
@[simp] def buildReach (n : Nat) : Reach := ((fillReach n).and keyReach).and (messageReach.and ⟨[.alloc], [], []⟩)

theorem fillReach_within_buildReach (n : Nat) : (fillReach n).Within (buildReach n) :=
  ((fillReach n).within_and_left keyReach).trans ((Reach.and ..).within_and_left _)

theorem keyReach_within_buildReach (n : Nat) : keyReach.Within (buildReach n) :=
  ((fillReach n).within_and_right keyReach).trans ((Reach.and ..).within_and_left _)

theorem messageReach_within_buildReach (n : Nat) : messageReach.Within (buildReach n) :=
  (messageReach.within_and_left ⟨[.alloc], [], []⟩).trans ((Reach.and ..).within_and_right _)

/-- From s to t a burst of channel n is being built. -/
structure Builds (n : Nat) (s t : State) : Prop where
  touches : Touches (buildReach n) s t
  others : KeepsOthers n s t

theorem Builds.trans (h : Builds n s t) (h' : Builds n t u) : Builds n s u :=
  ⟨h.touches.trans h'.touches, h.others.trans h'.others⟩

theorem Builds.of_touches {F : Reach} (h : Touches F s t) (hF : F.Within (buildReach n)) (hp : .pon ∉ F.parts) :
    Builds n s t :=
  ⟨h.mono hF, ⟨fun m _ => congrArg PonCh.sansStatus (h.ch hp m)⟩⟩

theorem Builds.alloc (h : Touches ⟨[.alloc], [], []⟩ s t) : Builds n s t :=
  .of_touches h ⟨by simp, by simp, by simp⟩ (by simp)

theorem Builds.refl (n : Nat) (s : State) : Builds n s s := .alloc (.refl _ s)

theorem Builds.setCh (s : State) (n : Nat) (c : PonCh) : Builds n s (s.setCh n c) :=
  ⟨(s.setCh_touches n c).mono ⟨by simp, by simp, by simp⟩, ⟨fun m hm => by rw [State.ch_setCh, if_neg hm]⟩⟩

theorem Builds.ite {p : Prop} [Decidable p] (h : Builds n s t) (h' : Builds n s u) : Builds n s (if p then t else u) := by
  split
  · exact h
  · exact h'

theorem fillGrant_builds (n key : Nat) (bad : List Nat) (g : Grant) (s : State) :
    Builds n s (fillGrant n key bad g s).s := by
  unfold fillGrant
  extract_lets space f c
  split
  · rw [idleFill_s]; exact .refl n s
  · next i hi =>
    extract_lets a b w st om u f' sent x
    split
    · simp only [f, idleFill_s]
      exact .alloc (s.setAlloc_touches ..)
    · have hu : Builds n s u := .setCh ..
      have hf : Builds n u f'.s := by
        simp only [f']
        split
        · exact .of_touches (fillSpace_touches ..) (fillReach_within_buildReach n) (by simp)
        · rw [idleFill_s]; exact .refl n u
      exact (hu.trans hf).trans (.alloc (f'.s.setAlloc_touches ..))

theorem fillGrants_builds (n key : Nat) (bad : List Nat) (gs : List Grant) (s : State) :
    Builds n s (fillGrants n key bad gs s).1 := by
  induction gs generalizing s with
  | nil => exact .refl n s
  | cons g gs ih => exact (fillGrant_builds n key bad g s).trans (ih _)

theorem reportGrants_touches (n : Nat) (l : List (Grant × List BurstPart)) (s : State) :
    Touches ⟨[.alloc], [], []⟩ s (reportGrants n l s).1 := by
  induction l generalizing s with
  | nil => exact .refl _ s
  | cons p l ih =>
    obtain ⟨g, ps⟩ := p
    rw [reportGrants]
    split
    · exact (s.setAlloc_touches ..).trans (ih _)
    · exact ih s
    · exact ih s

theorem State.countGrants_touches (s : State) (n : Nat) (b : List Grant) :
    Touches ⟨[.alloc], [], []⟩ s (s.countGrants n b) :=
  Touches.foldl (fun u a => by
    split
    · exact u.setAlloc_touches ..
    · exact .refl _ u) _ s

theorem State.takePloamu_builds (s : State) (n : Nat) : Builds n s (s.takePloamu n).1 := by
  unfold State.takePloamu
  dsimp only
  split
  · exact .of_touches (s.ploamCopy_touches ..) (recordReach_within_messageReach.trans (messageReach_within_buildReach n)) (by simp)
  · exact .setCh ..

end Sys2Proof.Machine
end

section
/-! The clauses of BURST_BUILD (R145, R146, R148 to R154). -/

namespace Sys2Proof.Machine

variable {s t u : State} {c : Fin 4} {cyc : Nat} {key : Fin 3} {bad : List Nat} {ready : Bool} {b : BurstPlan}
  {bs : List BurstPlan}

/-- Without an accepted burst that is still to be built, only the PKT cycle moves on. -/
theorem burstBuild_idle (h : ((s.ch c.val).bursts.head?.map (·.built.isSome)).getD true = true) :
    exec (.burstBuild c cyc key bad ready) s = .next (s.pktTo cyc) := by
  rw [exec_burstBuild]
  unfold execBurstBuild
  extract_lets n u x
  split
  · rfl
  · next p ps heq =>
    refine if_pos ?_
    have hx : (s.ch c.val).bursts = p :: ps := heq
    simpa [hx] using h

/-- A burst dropped for want of a powered transmitter is counted in LULL or while the transmitter wakes (R146). -/
def State.skipBurst (s : State) (n : Nat) (bs : List BurstPlan) : State :=
  let u := s.setCh n { s.ch n with bursts := bs }
  if (s.ch n).lull ≠ .awake ∨ (s.ch n).txWaking = true then u.bump (C.US_GRANT_SKIP n) else u

/-- The state and the parts before a burst's grants are filled: its key is read, its PLOAMu taken (R148, R149). -/
def State.openBurst (s : State) (n : Nat) (key : Fin 3) (b : BurstPlan) : (State × Option (List Nat)) × State × List BurstPart :=
  let got := if key.val = 0 then (s, none) else s.readKey (dataSlot n key.val false)
  (got, if ((b.grants.head?).map (·.ploamu)).getD false then
      let r := got.1.takePloamu n
      (r.1, [BurstPart.ploamu r.2])
    else (got.1, []))

/-- A burst built: the state before the plan takes its content, the parts between header and trailer, the buckets. -/
def State.buildBurst (s : State) (n : Nat) (key : Fin 3) (bad : List Nat) (b : BurstPlan) :
    State × List BurstPart × List (Nat × Nat) :=
  let w := s.openBurst n key b
  let f := fillGrants n (if w.1.2.isSome then key.val else 0) bad b.grants w.2.1
  let r := reportGrants n f.2.1 f.1
  let u := r.1.countGrants n b.grants
  (u, w.2.2 ++ cryptParts w.1.2 (u.ponMode n) b.sfc 0 r.2, f.2.2)

theorem State.openBurst_builds (s : State) (n : Nat) (key : Fin 3) (b : BurstPlan) : Builds n s (s.openBurst n key b).2.1 := by
  unfold State.openBurst
  extract_lets got r
  have hgot : Builds n s got.1 := by
    simp only [got]
    split
    · exact .refl n s
    · exact .of_touches (s.readKey_touches _) (keyReach_within_buildReach n) (by simp)
  dsimp only
  split
  · exact hgot.trans (got.1.takePloamu_builds n)
  · exact hgot

theorem State.buildBurst_builds (s : State) (n : Nat) (key : Fin 3) (bad : List Nat) (b : BurstPlan) :
    Builds n s (s.buildBurst n key bad b).1 := by
  unfold State.buildBurst
  extract_lets w f r u
  have hf : Builds n s f.1 := (s.openBurst_builds n key b).trans (fillGrants_builds ..)
  exact (hf.trans (.alloc (reportGrants_touches ..))).trans (.alloc (r.1.countGrants_touches ..))

/-- The content of a burst: header, parts, trailer, and parity where the profile has FEC (R148). -/
def builtParts (s : State) (c : PonCh) (n : Nat) (b : BurstPlan) (ps : List BurstPart) : List BurstPart :=
  .header b.profileIx :: ps ++ [.trailer] ++ (if ((c.profile b.profileIx).map (·.fec)).getD false then [.parity (s.ponMode n)] else [])

/-- The oldest burst built. -/
def State.withBuilt (s : State) (n : Nat) (key : Fin 3) (bad : List Nat) (b : BurstPlan) (bs : List BurstPlan) : State :=
  let r := s.buildBurst n key bad b
  r.1.setCh n { r.1.ch n with
    bursts := { b with built := some (builtParts r.1 (s.ch n) n b r.2.1), buckets := r.2.2 } :: bs }

/-- With a burst to be built the row asks for the transmitter's power. -/
theorem exec_burstBuild_of_cons (hbursts : (s.ch c.val).bursts = b :: bs) (hnew : b.built = none) :
    exec (.burstBuild c cyc key bad ready) s =
      if (s.ch c.val).txPowered = false ∧ ((s.ch c.val).txWaking && ready) = false then
        .next ((s.pktTo cyc).skipBurst c.val bs)
      else .next ((s.pktTo cyc).withBuilt c.val key bad b bs) := by
  rw [exec_burstBuild]
  unfold execBurstBuild
  extract_lets n u x
  split
  · next heq => exact absurd (hbursts.symm.trans heq) (by simp)
  · next p ps heq =>
    obtain ⟨rfl, rfl⟩ := List.cons.inj (hbursts.symm.trans heq)
    exact if_neg (by simp [hnew])

theorem State.skipBurst_spec (s : State) {n : Nat} (bs : List BurstPlan) (hlt : s.count (C.US_GRANT_SKIP n) < 0xFFFFFFFE) :
    (s.skipBurst n bs).ch n = { s.ch n with bursts := bs } ∧
      (s.skipBurst n bs).count (C.US_GRANT_SKIP n) = s.count (C.US_GRANT_SKIP n) +
        (if (s.ch n).lull ≠ .awake ∨ (s.ch n).txWaking = true then 1 else 0) ∧
      (∀ m < 4, m ≠ n → (s.skipBurst n bs).ch m = s.ch m) ∧
      Touches ⟨[.pon, .cnt], [], [C.US_GRANT_SKIP n]⟩ s (s.skipBurst n bs) := by
  unfold State.skipBurst
  extract_lets x u
  have hu : Touches ⟨[.pon], [], []⟩ s u := s.setCh_touches ..
  have hcount : u.count (C.US_GRANT_SKIP n) = s.count (C.US_GRANT_SKIP n) := hu.ctrs _ (by simp)
  have hbump := u.bump_touches_of_lt (hcount.symm ▸ hlt)
  have hself : u.ch n = { s.ch n with bursts := bs } := (s.ch_setCh ..).trans (if_pos rfl)
  have hother : ∀ m < 4, m ≠ n → u.ch m = s.ch m := fun m _ hm => (s.ch_setCh ..).trans (if_neg hm)
  have hreach : Touches ⟨[.pon, .cnt], [], [C.US_GRANT_SKIP n]⟩ s u := hu.mono ⟨by simp, by simp, by simp⟩
  split
  · refine ⟨(hbump.ch (by simp) n).trans hself, ?_, fun m hm hne => (hbump.ch (by simp) m).trans (hother m hm hne),
      hreach.next hbump ⟨by simp, by simp, by simp⟩⟩
    rw [u.count_bump_of_lt rfl (hcount.symm ▸ hlt), hcount]
  · exact ⟨hself, hcount, hother, hreach⟩

/-- A burst whose transmitter will not be powered at its first bit is not built (R146). -/
theorem burstBuild_skipped (hbursts : (s.ch c.val).bursts = b :: bs) (hnew : b.built = none)
    (hpower : (s.ch c.val).txPowered = false) (hready : (s.ch c.val).txWaking = false ∨ ready = false)
    (hlt : s.count (C.US_GRANT_SKIP c.val) < 0xFFFFFFFE) :
    Completes (.burstBuild c cyc key bad ready) s fun t =>
      t.ch c.val = { s.ch c.val with bursts := bs } ∧
      (t.count (C.US_GRANT_SKIP c.val) = s.count (C.US_GRANT_SKIP c.val) + (if (s.ch c.val).lull ≠ .awake ∨
        (s.ch c.val).txWaking = true then 1 else 0)) ∧
      t.out = s.out ∧ (∀ m < 4, m ≠ c.val → t.ch m = s.ch m) ∧
      RegsKeptIn [fun _ => R.BUF_SAT, fun _ => R.MEM_DDR_SAT, fun _ => R.MEM_SAT, R.MEM_UE_LOG_B, R.PON_US_SAT] s t ∧
      OnlyChanges [.regs, .cnt, .arb, .pon, .alloc, .buf, .sched, .mem, .ciph] s t := by
  have hpkt := s.pktTo_touches cyc
  obtain ⟨hself, hcount, hother, hskip⟩ := (s.pktTo cyc).skipBurst_spec bs (n := c.val) hlt
  have hall := hpkt.and hskip
  refine ⟨(s.pktTo cyc).skipBurst c.val bs, ?_, hself, hcount, hall.out (by simp), hother, hall.regsKeptIn (by simp),
    hall.onlyChanges (by simp)⟩
  have hdark : (s.ch c.val).txPowered = false ∧ ((s.ch c.val).txWaking && ready) = false :=
    ⟨hpower, by rcases hready with h | h <;> simp [h]⟩
  exact (exec_burstBuild_of_cons hbursts hnew).trans (if_pos hdark)

theorem rxCfg_notMem_buildReach (c : Fin 4) : ∀ r ∈ (buildReach c.val).regs, r.1 r.2 ≠ R.PON_RX_CFG c.val := by
  revert c; decide

/-- A burst built holds its header, its trailer and its parity (R148). -/
theorem burstBuild_built (hbursts : (s.ch c.val).bursts = b :: bs) (hnew : b.built = none)
    (hpower : (s.ch c.val).txPowered = true ∨ ((s.ch c.val).txWaking = true ∧ ready = true)) :
    Completes (.burstBuild c cyc key bad ready) s fun t =>
      (∃ ps buckets, (t.ch c.val).bursts =
        { b with buckets := buckets, built := some (.header b.profileIx :: ps ++ [.trailer] ++ (if (((s.ch c.val).profile b.profileIx).map (·.fec)).getD false then [.parity (s.ponMode c.val)] else [])) } :: bs) ∧
      t.out = s.out ∧ (∀ m < 4, m ≠ c.val → (t.ch m).bursts = (s.ch m).bursts) ∧
      RegsKeptIn [fun _ => R.BUF_SAT, fun _ => R.MEM_DDR_SAT, fun _ => R.MEM_SAT, R.MEM_UE_LOG_B, R.PON_US_SAT] s t ∧
      OnlyChanges [.regs, .cnt, .arb, .pon, .alloc, .buf, .sched, .mem, .ciph] s t := by
  have hlit : ¬((s.ch c.val).txPowered = false ∧ ((s.ch c.val).txWaking && ready) = false) := by
    rcases hpower with h | ⟨h, h'⟩ <;> simp [*]
  refine ⟨_, (exec_burstBuild_of_cons hbursts hnew).trans (if_neg hlit), ?_⟩
  unfold State.withBuilt
  have hbuilds : Builds c.val s ((s.pktTo cyc).buildBurst c.val key bad b).1 :=
    (Builds.of_touches (s.pktTo_touches cyc) ⟨by simp, by simp, by simp⟩ (by simp)).trans
      ((s.pktTo cyc).buildBurst_builds ..)
  generalize (s.pktTo cyc).buildBurst c.val key bad b = r at hbuilds ⊢
  obtain ⟨u, ps, buckets⟩ := r
  dsimp only at hbuilds ⊢
  have hmode : u.ponMode c.val = s.ponMode c.val := hbuilds.touches.fld _ (rxCfg_notMem_buildReach c)
  have hall := fun x => hbuilds.trans (.setCh u c.val x)
  refine ⟨⟨ps, buckets, ?_⟩, (hall _).touches.out (by simp), fun m _ hm => ?_, (hall _).touches.regsKeptIn (by simp [or_imp, forall_and]),
    (hall _).touches.onlyChanges (by simp)⟩
  · rw [State.ch_setCh, if_pos rfl, builtParts, hmode]
    rfl
  · exact PonCh.congr_of_sansStatus ((hall _).others.ch m hm) PonCh.bursts fun _ => rfl

end Sys2Proof.Machine
end

section
/-! The clauses of BURST_TRANSMIT (R134, R135, R145 to R147, R318, R323). -/

namespace Sys2Proof.Machine

variable {s t u : State} {c : Fin 4} {b : BurstPlan} {bs : List BurstPlan} {n : Nat}

/-! The rate of a lane. -/

/-- What a lane's new rate touches: a scan that ends completes its command. -/
@[simp] def rateReach : Reach := ⟨[.freeCtr, .fns, .arb, .lanes], [], []⟩

theorem State.complete_touches (s : State) (f id k status detail : Nat) :
    Touches ⟨[.freeCtr, .fns, .arb], [], []⟩ s (s.complete f id k status detail) := by
  unfold State.complete
  split
  · exact .refl _ s
  · next a _ =>
    obtain ⟨x, y, z, h⟩ := s.releaseDeferred_only [⟨s.arb.queuedNos.filter (fun j => decide (k ≤ j)), a.echo, id, status, detail⟩]
    exact .of_parts (h ▸ fun x hx => by
      cases x with
      | freeCtr => simp at hx
      | fns => simp at hx
      | arb => simp at hx
      | _ => rfl) (by simp) (by simp)

theorem State.endEye_touches (s : State) (l result cause : Nat) : Touches rateReach s (s.endEye l result cause) := by
  unfold State.endEye
  extract_lets x k u v
  split
  · have hv : Touches rateReach s v :=
      ((Touches.refl _ s).part (s.setLane_touches ..) (by simp)).part (u.raiseRow_touches ..) (by simp)
    split
    · exact hv.part (v.complete_touches ..) (by simp)
    · exact hv
  · exact .refl _ s

theorem State.burstRate_touches (s : State) (n kbps : Nat) : Touches rateReach s (s.burstRate n kbps) := by
  unfold State.burstRate State.setLaneRate
  exact .ite (fun _ => .refl _ s) fun _ => .ite (fun _ => .refl _ s) fun _ =>
    ((Touches.refl _ s).part (s.setLane_touches ..) (by simp)).trans (State.endEye_touches ..)

/-! A burst starts. -/

/-- A channel with a burst on its fibre. -/
def PonCh.bursting (c : PonCh) : PonCh := { c with burstOn := true }

/-- The state at a burst's line rate. -/
def State.atBurstRate (s : State) (n : Nat) (b : BurstPlan) : State :=
  (s.setCh n (s.ch n).bursting).burstRate n ((((s.ch n).profile b.profileIx).map (·.rateKbps)).getD 0)

/-- The state as the first bit of a burst leaves, but for its count. -/
def State.startBurst (s : State) (n : Nat) (b : BurstPlan) (parts : List BurstPart) : State :=
  let u := s.atBurstRate n b
  (u.emit (.pin "BEN_P" n (!u.flag (F.PON_US_CFG_BEN_POL n)))).emit (.burst n parts)

theorem State.atBurstRate_touches (s : State) (n : Nat) (b : BurstPlan) :
    Touches ⟨.pon :: rateReach.parts, [], []⟩ s (s.atBurstRate n b) :=
  ((Touches.refl _ s).part (s.setCh_touches ..) (by simp)).part (State.burstRate_touches ..) (by simp)

theorem State.ch_atBurstRate (s : State) (n : Nat) (b : BurstPlan) (m : Nat) :
    (s.atBurstRate n b).ch m = if m = n then (s.ch n).bursting else s.ch m :=
  ((State.burstRate_touches ..).ch (by simp) m).trans (s.ch_setCh ..)

theorem State.startBurst_touches (s : State) (n : Nat) (b : BurstPlan) (parts : List BurstPart) :
    Touches ⟨[.out], [], []⟩ (s.atBurstRate n b) (s.startBurst n b parts) :=
  (State.emit_touches ..).trans (State.emit_touches ..)

theorem State.out_startBurst (s : State) (n : Nat) (b : BurstPlan) (parts : List BurstPart) :
    (s.startBurst n b parts).out =
      .burst n parts :: .pin "BEN_P" n (!s.flag (F.PON_US_CFG_BEN_POL n)) :: (s.atBurstRate n b).out := by
  rw [← (s.atBurstRate_touches n b).flag _ (by simp)]
  rfl

/-- What the row does for a burst built that has not started. -/
theorem exec_burstTransmit_of_built {parts : List BurstPart} (hbursts : (s.ch c.val).bursts = b :: bs) (hbuilt : b.built = some parts)
    (hoff : (s.ch c.val).burstOn = false) :
    exec (.burstTransmit c false) s =
      if s.nearLoop (40 + c.val) = true then .next (s.setCh c.val { s.ch c.val with bursts := bs })
      else if (s.ch c.val).txPowered = true then .next ((s.startBurst c.val b parts).bump (C.US_BURSTS c.val))
      else .next (s.skipBurst c.val bs) := by
  rw [exec_burstTransmit]
  unfold execBurstTransmit
  extract_lets n x
  split
  · next heq => exact absurd (hbursts.symm.trans heq) (by simp)
  · next p ps heq =>
    obtain ⟨rfl, rfl⟩ := List.cons.inj (hbursts.symm.trans heq)
    refine (if_neg (by simp [x, n, hoff])).trans ((if_neg (by simp)).trans ?_)
    split
    · next heq => exact absurd (hbuilt.symm.trans heq) (by simp)
    · next q heq =>
      obtain rfl := Option.some.inj (hbuilt.symm.trans heq)
      rfl

theorem burstTransmit_started {parts : List BurstPart} (hbursts : (s.ch c.val).bursts = b :: bs)
    (hbuilt : b.built = some parts) (hoff : (s.ch c.val).burstOn = false) (hloop : s.nearLoop (40 + c.val) = false)
    (hpower : (s.ch c.val).txPowered = true) (hlt : s.count (C.US_BURSTS c.val) < 0xFFFFFFFE) :
    Completes (.burstTransmit c false) s fun t =>
      t.ch c.val = { s.ch c.val with burstOn := true } ∧
      (∃ o, t.out = .burst c.val parts :: .pin "BEN_P" c.val (!s.flag (F.PON_US_CFG_BEN_POL c.val)) :: o) ∧
      t.count (C.US_BURSTS c.val) = s.count (C.US_BURSTS c.val) + 1 ∧ (∀ m < 4, m ≠ c.val → t.ch m = s.ch m) ∧
      RegsKeptIn [R.BOND_SAT, fun _ => R.BUF_SAT, R.ETH_SAT, R.PON_US_SAT, fun _ => R.SCH_SAT, R.SVL_SAT,
        fun _ => R.TIME_SAT] s t ∧
      OnlyChanges [.out, .freeCtr, .regs, .cnt, .arb, .fns, .pon, .bonding, .buf, .sched, .time, .clsIn, .svl, .mac,
        .lanes] s t := by
  refine ⟨_, (exec_burstTransmit_of_built hbursts hbuilt hoff).trans
    ((if_neg (by simp [hloop])).trans (if_pos hpower)), ?_⟩
  have hstart := (s.atBurstRate_touches c.val b).and (s.startBurst_touches c.val b parts)
  have hbump := State.bumpBy_touches_of_wide (s.startBurst c.val b parts) (c := C.US_BURSTS c.val) 1 rfl
  have hall := hstart.and hbump
  have hch : ∀ m, ((s.startBurst c.val b parts).bump (C.US_BURSTS c.val)).ch m =
      if m = c.val then (s.ch c.val).bursting else s.ch m := fun m =>
    (((s.startBurst_touches c.val b parts).and hbump).ch (by simp) m).trans (s.ch_atBurstRate ..)
  refine ⟨?_, ⟨_, (hbump.out (by simp)).trans (s.out_startBurst ..)⟩, ?_, fun m _ hm => ?_, hall.regsKeptIn (by simp),
    hall.onlyChanges (by simp)⟩
  · rw [hch, if_pos rfl]
    rfl
  · rw [State.bump, State.count_bumpBy_of_wide _ _ rfl, hstart.ctrs _ (by simp), Nat.mod_eq_of_lt (by omega)]
  · rw [hch, if_neg hm]

/-! A burst ends. -/

/-- A channel whose receiver has powered down (R64, R95). -/
def PonCh.poweredDown (taps : List Int) (c : PonCh) : PonCh :=
  { c with taps := taps, sync := .off, los := true, cdr := false, rxDown := true, cands := [], inFrames := 0, missRun := 0 }

/-- What a channel's going to sleep touches. -/
@[simp] def sleepReach : Reach := wakeReach.and ⟨[.pon, .freeCtr], [], []⟩

theorem reevalReach_within_sleepReach : reevalReach.Within sleepReach :=
  reevalReach_within_wakeReach.trans (wakeReach.within_and_left _)

theorem State.ch_eqAdapt (s : State) (n : Nat) :
    ∃ taps, ∀ m, (s.eqAdapt n).ch m = if m = n then { s.ch n with taps := taps } else s.ch m := by
  unfold State.eqAdapt
  split
  · refine ⟨(s.ch n).taps, fun m => ?_⟩
    split
    · next hm => rw [hm]
    · rfl
  · exact ⟨_, fun m => s.ch_eqRun n _ m⟩

theorem State.rxPowerDown_eq (s : State) (n : Nat) : s.rxPowerDown n =
    ((s.eqAdapt n).setCh n (((s.eqAdapt n).ch n).poweredDown ((s.eqAdapt n).ch n).taps)).reeval n := rfl

theorem State.rxPowerDown_spec (s : State) (n : Nat) : Touches sleepReach s (s.rxPowerDown n) ∧
    ∃ taps, ChangesChannel n (PonCh.poweredDown taps) s (s.rxPowerDown n) := by
  rw [State.rxPowerDown_eq]
  obtain ⟨taps, hch⟩ := s.ch_eqAdapt n
  have hset := ((s.eqAdapt_touches n).part (State.setCh_touches _ n
    (((s.eqAdapt n).ch n).poweredDown ((s.eqAdapt n).ch n).taps)) (by simp)).mono (G := sleepReach) ⟨by simp, by simp, by simp⟩
  refine ⟨hset.next (State.reeval_touches ..) reevalReach_within_sleepReach, taps, ⟨fun m => ?_⟩⟩
  rw [(State.reeval_keepsChannels ..).ch m, State.ch_setCh, hch, hch, if_pos rfl]
  split <;> rfl

/-- A channel whose transmitter sleeps. -/
def PonCh.txAsleep (c : PonCh) : PonCh := { c with txPowered := false, txWaking := false, sleepDue := false }

theorem State.sleepNow_spec (s : State) (n : Nat) : Touches sleepReach s (s.sleepNow n) ∧
    (ChangesChannel n PonCh.txAsleep s (s.sleepNow n) ∨
      ∃ taps, ChangesChannel n (fun c => c.txAsleep.poweredDown taps) s (s.sleepNow n)) := by
  unfold State.sleepNow
  extract_lets x u
  have hset := s.setCh_changes n PonCh.txAsleep
  have hu : Touches sleepReach s u := ((Touches.refl _ s).part (s.setCh_touches ..) (by simp)).part
    (State.laneEval_touches _ (Nat.le_add_right 40 n)) (by simp)
  have hch : ChangesChannel n PonCh.txAsleep s u := hset.next (State.laneEval_touches _ (Nat.le_add_right 40 n)) (by simp)
  split
  · obtain ⟨hdown, taps, hch'⟩ := u.rxPowerDown_spec n
    exact ⟨hu.trans hdown, .inr ⟨taps, hch.trans hch' fun _ => rfl⟩⟩
  · exact ⟨hu.next (u.reeval_touches n) reevalReach_within_sleepReach, .inl (hch.keeps (u.reeval_keepsChannels n))⟩

/-- A burst's end with the burst still in mind: the channel is rid of it, and sleeps where it asked to (R134, R147). -/
def PonCh.AfterBurst (c d : PonCh) (bs : List BurstPlan) (sleeps : Bool) : Prop :=
  d.bursts = bs ∧ d.burstOn = false ∧ d.txPowered = (c.txPowered && !sleeps)

theorem PonCh.AfterBurst.of_sansStatus {c d e : PonCh} {sleeps : Bool} (h : e.sansStatus = d.sansStatus)
    (hd : c.AfterBurst d bs sleeps) : c.AfterBurst e bs sleeps := by
  obtain ⟨hbursts, hon, hpower⟩ := hd
  exact ⟨(congr_of_sansStatus h PonCh.bursts fun _ => rfl).trans hbursts,
    (congr_of_sansStatus h PonCh.burstOn fun _ => rfl).trans hon,
    (congr_of_sansStatus h PonCh.txPowered fun _ => rfl).trans hpower⟩

/-- The channel rid of its burst, before it may sleep. -/
def State.burstOff (s : State) (n : Nat) (bs : List BurstPlan) : State :=
  let u := s.setCh n { s.ch n with bursts := bs, burstOn := false }
  u.emit (.pin "BEN_P" n (u.flag (F.PON_US_CFG_BEN_POL n)))

theorem State.burstOff_touches (s : State) (n : Nat) (bs : List BurstPlan) :
    Touches ⟨[.out, .pon], [], []⟩ s (s.burstOff n bs) :=
  ((Touches.refl _ s).part (s.setCh_touches ..) (by simp)).part (State.emit_touches ..) (by simp)

theorem State.burstOff_changes (s : State) (n : Nat) (bs : List BurstPlan) :
    ChangesChannel n (fun c => { c with bursts := bs, burstOn := false }) s (s.burstOff n bs) :=
  (s.setCh_changes n fun c => { c with bursts := bs, burstOn := false }).next (State.emit_touches ..) (by simp)

/-- Does the channel sleep at the end of its burst? -/
def State.sleepsAfter (s : State) (n : Nat) (b : BurstPlan) : Bool :=
  (s.ch n).sleepDue && (b.built.getD []).any BurstPart.asksSleep

theorem State.burstEnds_eq (s : State) (n : Nat) (b : BurstPlan) (bs : List BurstPlan) :
    s.burstEnds n b bs = if s.sleepsAfter n b = true then (s.burstOff n bs).sleepNow n else s.burstOff n bs := by
  have hdue : ((s.burstOff n bs).ch n).sleepDue = (s.ch n).sleepDue := by
    rw [State.burstOff, (State.emit_touches ..).ch (by simp), State.ch_setCh, if_pos rfl]
  unfold State.sleepsAfter
  simp only [Bool.and_eq_true, ← hdue]
  rfl

theorem State.burstEnds_spec (s : State) (n : Nat) (b : BurstPlan) (bs : List BurstPlan) :
    Touches sleepReach (s.burstOff n bs) (s.burstEnds n b bs) ∧
      (s.ch n).AfterBurst ((s.burstEnds n b bs).ch n) bs (s.sleepsAfter n b) ∧ RestKept n s (s.burstEnds n b bs) := by
  rw [State.burstEnds_eq]
  have hoff := s.burstOff_changes n bs
  cases s.sleepsAfter n b with
  | false =>
    simp only [Bool.false_eq_true, if_false]
    exact ⟨.refl _ _, .of_sansStatus hoff.self ⟨rfl, rfl, (Bool.and_true _).symm⟩, hoff.restKept⟩
  | true =>
    simp only [if_true]
    obtain ⟨hreach, hch | ⟨taps, hch⟩⟩ := (s.burstOff n bs).sleepNow_spec n
    · have hall := hoff.trans hch fun _ => rfl
      exact ⟨hreach, .of_sansStatus hall.self ⟨rfl, rfl, (Bool.and_false _).symm⟩, hall.restKept⟩
    · have hall := hoff.trans hch fun _ => rfl
      exact ⟨hreach, .of_sansStatus hall.self ⟨rfl, rfl, (Bool.and_false _).symm⟩, hall.restKept⟩

theorem exec_burstTransmit_of_on (hbursts : (s.ch c.val).bursts = b :: bs) (hon : (s.ch c.val).burstOn = true) :
    exec (.burstTransmit c true) s = .next (s.burstEnds c.val b bs) := by
  rw [exec_burstTransmit]
  unfold execBurstTransmit
  extract_lets n x
  split
  · next heq => exact absurd (hbursts.symm.trans heq) (by simp)
  · next p ps heq =>
    obtain ⟨rfl, rfl⟩ := List.cons.inj (hbursts.symm.trans heq)
    exact (if_pos hon).trans (if_pos rfl)

theorem burstTransmit_ended (hbursts : (s.ch c.val).bursts = b :: bs) (hon : (s.ch c.val).burstOn = true) :
    Completes (.burstTransmit c true) s fun t =>
      (t.ch c.val).bursts = bs ∧ (t.ch c.val).burstOn = false ∧
      .pin "BEN_P" c.val (s.flag (F.PON_US_CFG_BEN_POL c.val)) ∈ t.out ∧
      (t.ch c.val).txPowered = ((s.ch c.val).txPowered && !((s.ch c.val).sleepDue && (b.built.getD []).any BurstPart.asksSleep)) ∧
      (∀ m < 4, m ≠ c.val → { t.ch m with statusQ := [] } = { s.ch m with statusQ := [] }) ∧
      RegsKeptIn [R.BOND_SAT, fun _ => R.BUF_SAT, R.ETH_SAT, R.PON_US_SAT, fun _ => R.SCH_SAT, R.SVL_SAT,
        fun _ => R.TIME_SAT] s t ∧
      OnlyChanges [.out, .freeCtr, .regs, .cnt, .arb, .fns, .pon, .bonding, .buf, .sched, .time, .clsIn, .svl, .mac,
        .lanes] s t := by
  obtain ⟨hreach, ⟨hb, ho, hp⟩, hrest⟩ := s.burstEnds_spec c.val b bs
  have hall := (s.burstOff_touches c.val bs).and hreach
  refine ⟨_, exec_burstTransmit_of_on hbursts hon, hb, ho, ?_, hp, hrest, hall.regsKeptIn (by simp [or_imp, forall_and]),
    hall.onlyChanges (by simp)⟩
  rw [hreach.out (by simp)]
  exact List.mem_cons_self ..

/-- Without a burst to start, or to end, the row changes nothing. -/
theorem burstTransmit_idle {ends : Bool} (h : (s.ch c.val).bursts = [] ∨ (s.ch c.val).burstOn = !ends ∨
      ((s.ch c.val).burstOn = false ∧ ((s.ch c.val).bursts.head?.bind (·.built)) = none)) :
    exec (.burstTransmit c ends) s = .next s := by
  rw [exec_burstTransmit]
  unfold execBurstTransmit
  extract_lets n x
  split
  · rfl
  · next p ps heq =>
    have hcons : (s.ch c.val).bursts = p :: ps := heq
    rw [hcons] at h
    cases hon : x.burstOn with
    | true =>
      have hon' : (s.ch c.val).burstOn = true := hon
      have hends : ends = false := by simpa [hon'] using h
      rw [if_pos rfl, hends]
      rfl
    | false =>
      have hon' : (s.ch c.val).burstOn = false := hon
      cases ends with
      | true => rfl
      | false =>
        have hnone : p.built = none := by simpa [hon'] using h
        rw [hnone]
        rfl

/-- Settles O22: each row's branches, by what the fill, the start and the end of a burst touch. -/
theorem upstreamBurstsFollowTheBandwidthMap : Obligations.UpstreamBurstsFollowTheBandwidthMap := by
  unfold Obligations.UpstreamBurstsFollowTheBandwidthMap
  refine ⟨fun s c gs bad hlBad h => (exec_bwmap ..).trans (if_pos h), fun s c gs bad hlBad => bwmap_bad,
    fun s c gs => bwmap_good, fun s c cyc key bad ready => burstBuild_idle, fun s c cyc key bad ready b bs => burstBuild_built,
    fun s c cyc key bad ready b bs => burstBuild_skipped, fun s c b bs parts => burstTransmit_started,
    fun s c b bs hbursts hbuilt hoff hloop => ?_, fun s c b bs hbursts hbuilt hoff hloop hpower hlt => ?_,
    fun s c b bs => burstTransmit_ended, fun s c ends => burstTransmit_idle⟩
  · obtain ⟨parts, hparts⟩ := Option.isSome_iff_exists.mp hbuilt
    exact (exec_burstTransmit_of_built hbursts hparts hoff).trans (if_pos hloop)
  · obtain ⟨parts, hparts⟩ := Option.isSome_iff_exists.mp hbuilt
    obtain ⟨hself, hcount, hother, hskip⟩ := s.skipBurst_spec bs hlt
    exact ⟨_, (exec_burstTransmit_of_built hbursts hparts hoff).trans ((if_neg (by simp [hloop])).trans
      (if_neg (by simp [hpower]))), hself, hcount, hskip.out (by simp), hother, hskip.onlyChanges (by simp)⟩

end Sys2Proof.Machine
end

section
/-! HOST_HQ and HQ_TAIL_WRITE (R416). -/

namespace Sys2Proof.Machine

variable {s : State} {p : Pkt} {op : Nat}

/-- A taken packet of the right length and target ends as its command's own part says (R558). -/
theorem Taken.endsAt {i : Instr} {body : Nat → State → BodyOut} {len : Nat} {tgtOk : Bool} {u : State} {r : CmdEnd}
    {P : State → Prop} (h : Taken op p s) (hexec : exec i s = runCmd op false (lenIs len p) tgtOk body p s)
    (hlen : p.length = len) (htarget : tgtOk = true) (hbody : body s.cmdId (s.afterTake p) = .fin u r) (hP : P u) :
    Ends i op p s r P := by
  obtain ⟨hbegin, -, hmode, -⟩ := id h
  have hcheck := checkPkt_of_taken h
  rw [show (none : Option Nat) = lenIs len p from (if_pos hlen).symm, ← htarget] at hcheck
  exact ⟨u, hexec.trans (runCmd_fin hbegin hmode hcheck hbody (.inl rfl)), hP⟩

/-- A taken packet of the right length with a target that its command does not have (R556). -/
theorem Taken.endsBadTarget {i : Instr} {body : Nat → State → BodyOut} {len : Nat} {tgtOk : Bool} (h : Taken op p s)
    (hexec : exec i s = runCmd op false (lenIs len p) tgtOk body p s) (hlen : p.length = len) (htarget : tgtOk = false) :
    Ends i op p s ⟨stBadTarget, 0, []⟩ fun u => OnlyChanges [] (s.afterTake p) u := by
  obtain ⟨hbegin, hend, hmode, hversion, hflags, hshort, hgroup, howner⟩ := id h
  have hnot : ¬1024 < p.length := Nat.not_lt.mpr hshort
  have hcheck : checkPkt op p (s.pastRingEnd p) (lenIs len p) tgtOk = some ⟨stBadTarget, 0, []⟩ := by
    rw [show lenIs len p = none from if_pos hlen, htarget]
    simp [checkPkt, hend, hversion, hflags, hnot, hgroup, howner]
  exact ⟨_, hexec.trans (runCmd_refused hbegin hmode hcheck), onlyChanges_nil_refl _⟩

/-- The five registers of a host-to-device queue take their values (R416). -/
def State.setUpHq (s : State) (q : Nat) (p : Pkt) : State :=
  ((((s.wrRw (R.HOST_HQ_CFG q) (p.w 0)).wrRw (R.HOST_HQ_BASE_LO q) (p.w 1)).wrRw (R.HOST_HQ_BASE_HI q) (p.w 2)).wrRw
    (R.HOST_HQ_WB_LO q) (p.w 3)).wrRw (R.HOST_HQ_WB_HI q) (p.w 4)

theorem State.wrRuns_eq_setUpHq (s : State) (q : Nat) (hlen : p.length = 5) :
    ((s.wrRw (R.HOST_HQ_CFG q) (p.w 0)).wrRun (R.HOST_HQ_BASE_LO q) ((p.payload.drop 1).take 2)).wrRun (R.HOST_HQ_WB_LO q)
      (p.payload.drop 3) = s.setUpHq q p := by
  have hhi : R.HOST_HQ_BASE_LO q + 4 = R.HOST_HQ_BASE_HI q := Nat.add_right_comm 0x03e01008 (q * 0x40) 4
  have hwb : R.HOST_HQ_WB_LO q + 4 = R.HOST_HQ_WB_HI q := Nat.add_right_comm 0x03e01018 (q * 0x40) 4
  unfold State.setUpHq Pkt.w
  unfold Pkt.length at hlen
  generalize p.payload = l at hlen ⊢
  match l, hlen with
  | [a, b, c, d, e], _ =>
    simp only [List.drop_succ_cons, List.drop_zero, List.take_succ_cons, List.take_zero, State.wrRun, hhi, hwb]
    rfl

/-- What the registers of a queue read once it is set up. -/
theorem State.setUpHq_spec (s : State) (q : Nat) (p : Pkt) :
    (s.setUpHq q p).rd (R.HOST_HQ_CFG q) = s.rwAfter (R.HOST_HQ_CFG q) (p.w 0) ∧
      (s.setUpHq q p).rd (R.HOST_HQ_BASE_LO q) = s.rwAfter (R.HOST_HQ_BASE_LO q) (p.w 1) ∧
      (s.setUpHq q p).rd (R.HOST_HQ_BASE_HI q) = s.rwAfter (R.HOST_HQ_BASE_HI q) (p.w 2) ∧
      (s.setUpHq q p).rd (R.HOST_HQ_WB_LO q) = s.rwAfter (R.HOST_HQ_WB_LO q) (p.w 3) ∧
      (s.setUpHq q p).rd (R.HOST_HQ_WB_HI q) = s.rwAfter (R.HOST_HQ_WB_HI q) (p.w 4) ∧
      RegsKept [R.HOST_HQ_CFG q, R.HOST_HQ_BASE_LO q, R.HOST_HQ_BASE_HI q, R.HOST_HQ_WB_LO q, R.HOST_HQ_WB_HI q] s
        (s.setUpHq q p) ∧ OnlyChanges [.regs] s (s.setUpHq q p) := by
  refine ⟨?_, ?_, ?_, ?_, ?_, fun o ho => ?_, ?_⟩
  · simp [State.setUpHq, State.rd_wrRw, State.rwAfter]
  · simp [State.setUpHq, State.rd_wrRw, State.rwAfter]
  · simp [State.setUpHq, State.rd_wrRw, State.rwAfter]
  · simp [State.setUpHq, State.rd_wrRw, State.rwAfter]
  · simp [State.setUpHq, State.rd_wrRw, State.rwAfter]
  · simp only [List.mem_cons, List.not_mem_nil, or_false, not_or] at ho
    simp [State.setUpHq, State.rd_wrRw, ho]
  · have hwr : ∀ (t : State) (off v : Nat), OnlyChanges [.regs] t (t.wrRw off v) := fun t off v =>
      (t.wrRw_touches v (fun _ => off, 0)).parts
    exact ((((hwr _ _ _).trans (hwr _ _ _)).trans (hwr _ _ _)).trans (hwr _ _ _)).trans (hwr _ _ _)

/-- HOST_HQ's own part. -/
def hostHqBody (p : Pkt) (s : State) : BodyOut :=
  if p.w 1 % 32 != 0 || p.w 3 % 8 != 0 then refuse stBadParam s
  else if changesEnabled (s.rd (R.HOST_HQ_CFG p.target.toNat)).toNat (s.rd (R.HOST_HQ_BASE_LO p.target.toNat)).toNat
      (s.rd (R.HOST_HQ_BASE_HI p.target.toNat)).toNat (p.w 0) (p.w 1) (p.w 2) then refuse stBusy s
  else finish (((s.wrRw (R.HOST_HQ_CFG p.target.toNat) (p.w 0)).wrRun (R.HOST_HQ_BASE_LO p.target.toNat)
    ((p.payload.drop 1).take 2)).wrRun (R.HOST_HQ_WB_LO p.target.toNat) (p.payload.drop 3))

theorem exec_hostHq_eq (p : Pkt) (s : State) : exec (.hostHq p) s =
    runCmd 0x3204 false (lenIs 5 p) (decide (p.target.toNat < 64)) (fun _ s => hostHqBody p s) p s := rfl

section
variable (h : Taken 0x3204 p s) (hlen : p.length = 5)
include h hlen

theorem hostHq_set (htarget : p.target.toNat < 64) (hbase : p.w 1 % 32 = 0) (hwb : p.w 3 % 8 = 0)
    (hfree : changesEnabled (s.rd (R.HOST_HQ_CFG p.target.toNat)).toNat (s.rd (R.HOST_HQ_BASE_LO p.target.toNat)).toNat (s.rd (R.HOST_HQ_BASE_HI p.target.toNat)).toNat (p.w 0) (p.w 1) (p.w 2) =
      false) :
    Ends (.hostHq p) 0x3204 p s ⟨stDone, 0, []⟩ fun u =>
      u.rd (R.HOST_HQ_CFG p.target.toNat) = s.rwAfter (R.HOST_HQ_CFG p.target.toNat) (p.w 0) ∧
      u.rd (R.HOST_HQ_BASE_LO p.target.toNat) = s.rwAfter (R.HOST_HQ_BASE_LO p.target.toNat) (p.w 1) ∧
      u.rd (R.HOST_HQ_BASE_HI p.target.toNat) = s.rwAfter (R.HOST_HQ_BASE_HI p.target.toNat) (p.w 2) ∧
      u.rd (R.HOST_HQ_WB_LO p.target.toNat) = s.rwAfter (R.HOST_HQ_WB_LO p.target.toNat) (p.w 3) ∧
      u.rd (R.HOST_HQ_WB_HI p.target.toNat) = s.rwAfter (R.HOST_HQ_WB_HI p.target.toNat) (p.w 4) ∧
      RegsKept [R.HOST_HQ_CFG p.target.toNat, R.HOST_HQ_BASE_LO p.target.toNat, R.HOST_HQ_BASE_HI p.target.toNat,
        R.HOST_HQ_WB_LO p.target.toNat, R.HOST_HQ_WB_HI p.target.toNat] s u ∧
      OnlyChanges [.regs] (s.afterTake p) u := by
  obtain ⟨hcfg, hlo, hhi, hwlo, hwhi, hregs, honly⟩ := (s.afterTake p).setUpHq_spec p.target.toNat p
  have hrw : ∀ off v, (s.afterTake p).rwAfter off v = s.rwAfter off v := fun off v =>
    State.rwAfter_congr (s.rd_afterTake p off) v
  simp only [hrw] at hcfg hlo hhi hwlo hwhi
  refine h.endsAt (exec_hostHq_eq p s) hlen (decide_eq_true htarget) (u := (s.afterTake p).setUpHq p.target.toNat p) ?_
    ⟨hcfg, hlo, hhi, hwlo, hwhi, fun o ho => (hregs o ho).trans (s.rd_afterTake p o), honly⟩
  refine (if_neg (by simp [hbase, hwb])).trans ((if_neg ?_).trans ?_)
  · simp [State.rd_afterTake, hfree]
  · rw [State.wrRuns_eq_setUpHq _ _ hlen]
    rfl

theorem hostHq_badParam (htarget : p.target.toNat < 64) (hbad : p.w 1 % 32 ≠ 0 ∨ p.w 3 % 8 ≠ 0) :
    Ends (.hostHq p) 0x3204 p s ⟨stBadParam, 0, []⟩ fun u => OnlyChanges [] (s.afterTake p) u :=
  h.endsAt (exec_hostHq_eq p s) hlen (decide_eq_true htarget) (if_pos (by simpa using hbad)) (onlyChanges_nil_refl _)

theorem hostHq_busy (htarget : p.target.toNat < 64) (hbase : p.w 1 % 32 = 0) (hwb : p.w 3 % 8 = 0)
    (hbusy : changesEnabled (s.rd (R.HOST_HQ_CFG p.target.toNat)).toNat (s.rd (R.HOST_HQ_BASE_LO p.target.toNat)).toNat (s.rd (R.HOST_HQ_BASE_HI p.target.toNat)).toNat (p.w 0) (p.w 1) (p.w 2) =
      true) :
    Ends (.hostHq p) 0x3204 p s ⟨stBusy, 0, []⟩ fun u => OnlyChanges [] (s.afterTake p) u :=
  h.endsAt (exec_hostHq_eq p s) hlen (decide_eq_true htarget)
    ((if_neg (by simp [hbase, hwb])).trans (if_pos (by simpa [State.rd_afterTake] using hbusy))) (onlyChanges_nil_refl _)

theorem hostHq_badTarget (htarget : 64 ≤ p.target.toNat) :
    Ends (.hostHq p) 0x3204 p s ⟨stBadTarget, 0, []⟩ fun u => OnlyChanges [] (s.afterTake p) u :=
  h.endsBadTarget (exec_hostHq_eq p s) hlen (decide_eq_false (Nat.not_lt.mpr htarget))
end

/-! HQ_TAIL_WRITE. -/

theorem hqTailWrite_posted {q : Fin 64} {f : Fin 6} {v : BitVec 16} (hfunc : s.hqFunc q.val = f.val)
    (hring : ((v.toNat + 65536 - (s.hq q.val).head % 65536) % 65536) ≤ s.hqRing q.val) :
    Completes (.hqTailWrite f q v) s fun t =>
      t.fld (F.HOST_HQ_TAIL_TAIL q.val) = v.toNat ∧ RegsKept [R.HOST_HQ_TAIL q.val] s t ∧ OnlyChanges [.regs] s t := by
  have hset := s.setFld_touches (F.HOST_HQ_TAIL_TAIL q.val) v.toNat (R.HOST_HQ_TAIL, q.val) rfl
  refine ⟨_, (exec_hqTailWrite ..).trans ((if_pos hfunc).trans (if_neg (Nat.not_lt.mpr hring))), ?_,
    fun o ho => hset.regs o (by simpa [eq_comm] using ho), hset.parts⟩
  have hv := v.isLt
  simp only [State.fld, State.setFld, State.rd_wr, if_true, BitVec.toNat_ofNat, bitsOf, putBits, Nat.shiftRight_zero]
  omega

end Sys2Proof.Machine
end
section
/-! HQ_DESCRIPTOR and HOST_DMA_ERROR of a read (R426 to R428). -/

namespace Sys2Proof.Machine

variable {s t u : State} {G : Reach} {q : Fin 64} {desc bytes : List Byte}

/-! What a reach keeps. -/

theorem Touches.hq (h : Touches G s t) (hp : .chan ∉ G.parts) (k : Nat) : t.hq k = s.hq k := by
  simp only [State.hq, show t.chan = s.chan from h.parts .chan hp]
theorem Touches.source (h : Touches G s t) (hp : .arb ∉ G.parts) (src : Nat) : t.source src = s.source src := by
  simp only [State.source, show t.arb = s.arb from h.parts .arb hp]
theorem Touches.owner (h : Touches G s t) (hp : .buf ∉ G.parts) (id : Nat) : t.owner id = s.owner id := by
  simp only [State.owner, show t.buf = s.buf from h.parts .buf hp]
theorem Touches.destsOf (h : Touches G s t) (hp : .buf ∉ G.parts) (id : Nat) : t.destsOf id = s.destsOf id := by
  simp only [State.destsOf, show t.buf = s.buf from h.parts .buf hp]

theorem State.setHq_touches (s : State) (q : Nat) (h : HQueue) : Touches ⟨[.chan], [], []⟩ s (s.setHq q h) :=
  .of_parts (fun x hx => by cases x with | chan => simp at hx | _ => rfl) (by simp) (by simp)

/-! Buffers. -/

/-- The owner frees its buffer (R411). -/
theorem State.freeBuf_of_owner {id agent : Nat} (inst : Nat) (ho : s.owner id = agent) (ha : agent ≠ 0) :
    Touches ⟨[.buf], [], []⟩ s (s.freeBuf id agent inst) ∧ (s.freeBuf id agent inst).owner id = 0 := by
  unfold State.freeBuf
  rw [if_pos ⟨ho, ha⟩]
  extract_lets i p
  split
  · exact ⟨((Touches.refl _ s).part (s.setPool_touches ..) (by simp)).part (State.setOwner_touches ..) (by simp),
      (State.owner_setOwner ..).trans (if_pos rfl)⟩
  · exact ⟨((Touches.refl _ s).part (s.setPool_touches ..) (by simp)).part (State.setOwner_touches ..) (by simp),
      (State.owner_setOwner ..).trans (if_pos rfl)⟩

/-- A buffer got belongs to the agent that asked for it (R409). -/
theorem owner_allocFrom {agent first k : Nat} {s u : State} {i id : Nat} (h : allocFrom s agent first k i = (u, .got id)) :
    u.owner id = agent := by
  induction k generalizing s i with
  | zero => simp [allocFrom] at h
  | succ k ih =>
    rw [allocFrom] at h
    extract_lets stall v x at h
    split at h
    · split at h
      · simp at h
      · next j js hjs =>
        simp only [Prod.mk.injEq, AllocOut.got.injEq] at h
        obtain ⟨rfl, rfl⟩ := h
        exact ((State.bumpBy_touches_of_wide _ (c := C.BUF_ALLOC i) 1 rfl).owner (by simp) _).trans
          ((State.owner_setOwner ..).trans (if_pos rfl))
    · split at h
      · exact ih h
      · simp at h

theorem State.owner_allocBuf {agent len id : Nat} {u : State} (h : s.allocBuf agent len = (u, .got id)) :
    u.owner id = agent := by
  unfold State.allocBuf at h
  split at h
  · simp at h
  · exact owner_allocFrom h

/-! HQ_DESCRIPTOR. -/

/-- A queue that takes its next descriptor. -/
abbrev HqTakes (q : Fin 64) (s : State) : Prop :=
  s.flag (F.HOST_HQ_CFG_ENABLE q.val) = true ∧ 0 < s.hqPosted q.val ∧ (s.hq q.val).cur = none

theorem hqDescriptor_idle (h : s.flag (F.HOST_HQ_CFG_ENABLE q.val) = false ∨ s.hqPosted q.val = 0 ∨ (s.hq q.val).cur ≠ none) :
    exec (.hqDescriptor q desc bytes) s = .next s := by
  refine (exec_hqDescriptor ..).trans (if_neg ?_)
  rintro ⟨hen, hpost, hcur⟩
  rcases h with h | h | h
  · simp [h] at hen
  · omega
  · exact h hcur

theorem exec_hqDescriptor_of_takes (h : HqTakes q s) : exec (.hqDescriptor q desc bytes) s =
    match badDescriptor desc with
    | some cause => .next (((s.setHq q.val { s.hq q.val with head := ((s.hq q.val).head + 1) % 65536 }).bump
        (C.HQ_BAD_DESC q.val)).raiseRow 0x0085 2 14 7 (s.hqFunc q.val)
          [(1, q.val), (2, (s.hq q.val).head % s.hqRing q.val), (1, cause)])
    | none =>
      match s.allocBuf agH2d (leAt desc 8 2) with
      | (s', .refused) => .next s'
      | (s', .got id) => .next (s'.setHq q.val { s.hq q.val with
          cur := some (hqFrame q.val ((s.hq q.val).head % s.hqRing q.val) id desc bytes), fwd := bit (leAt desc 10 1) 0, dest := leAt desc 11 1 }) := by
  rw [exec_hqDescriptor]
  unfold execHqDescriptor
  dsimp only
  rw [if_pos h]
  rfl

/-- The state once a bad descriptor is counted. -/
def State.countBadDesc (s : State) (q : Nat) : State :=
  (s.setHq q { s.hq q with head := ((s.hq q).head + 1) % 65536 }).bump (C.HQ_BAD_DESC q)

theorem exec_hqDescriptor_bad {cause : Nat} (h : HqTakes q s) (hbad : badDescriptor desc = some cause) :
    exec (.hqDescriptor q desc bytes) s = .next ((s.countBadDesc q.val).raiseRow 0x0085 2 14 7 (s.hqFunc q.val)
      [(1, q.val), (2, (s.hq q.val).head % s.hqRing q.val), (1, cause)]) := by
  rw [exec_hqDescriptor_of_takes h, hbad]
  rfl

/-- A bad descriptor is skipped, counted and told (R426). -/
theorem hqDescriptor_bad {cause : Nat} (h : HqTakes q s) (hbad : badDescriptor desc = some cause)
    (hlt : s.count (C.HQ_BAD_DESC q.val) < 0xFFFFFFFE) (hroom : (s.source 0x0085).queue.length < 16) :
    Completes (.hqDescriptor q desc bytes) s fun t =>
      t.hq q.val = { s.hq q.val with head := ((s.hq q.val).head + 1) % 65536 } ∧
      (∀ k < 64, k ≠ q.val → t.hq k = s.hq k) ∧ t.count (C.HQ_BAD_DESC q.val) = s.count (C.HQ_BAD_DESC q.val) + 1 ∧
      (t.source 0x0085).queue = (s.source 0x0085).queue ++ [⟨2, 0x0E07, s.hqFunc q.val, evPayload [(1, q.val), (2,
        (s.hq q.val).head % s.hqRing q.val), (1, cause)], s.arb.raised⟩] ∧
      OnlyChanges [.arb, .cnt, .chan] s t := by
  have hset := s.setHq_touches q.val { s.hq q.val with head := ((s.hq q.val).head + 1) % 65536 }
  have hlt' : (s.setHq q.val { s.hq q.val with head := ((s.hq q.val).head + 1) % 65536 }).count (C.HQ_BAD_DESC q.val) <
      0xFFFFFFFE := hlt
  have hbump := State.bump_touches_of_lt _ hlt'
  have hmid : Touches ⟨[.chan, .cnt], [], [C.HQ_BAD_DESC q.val]⟩ s (s.countBadDesc q.val) :=
    ((Touches.refl _ s).part hset (by simp)).next hbump ⟨by simp, by simp, by simp⟩
  have hevent := (s.countBadDesc q.val).raiseRow_touches 0x0085 2 14 7 (s.hqFunc q.val)
    [(1, q.val), (2, (s.hq q.val).head % s.hqRing q.val), (1, cause)]
  have hhq : ∀ k, (s.countBadDesc q.val).hq k =
      if k = q.val then { s.hq q.val with head := ((s.hq q.val).head + 1) % 65536 } else s.hq k := fun k =>
    (hbump.hq (by simp) k).trans (s.hq_setHq ..)
  refine ⟨_, exec_hqDescriptor_bad h hbad, ?_, fun k _ hk => ?_, ?_, ?_, (hmid.and hevent).onlyChanges (by simp)⟩
  · rw [hevent.hq (by simp), hhq, if_pos rfl]
  · rw [hevent.hq (by simp), hhq, if_neg hk]
  · rw [hevent.ctrs _ (by simp)]
    exact State.count_bump_of_lt _ rfl hlt'
  · have hsource := hmid.source (by simp) 0x0085
    have hraised : (s.countBadDesc q.val).arb = s.arb := hmid.parts .arb (by simp)
    rw [State.raiseRow, State.source_raise_of_room (by rwa [hsource]), hsource, hraised]

/-- A good descriptor with a buffer for it: its frame is read into the buffer (R427). -/
theorem hqDescriptor_got {id : Nat} (h : HqTakes q s) (hgood : badDescriptor desc = none)
    (halloc : (s.allocBuf agH2d (leAt desc 8 2)).2 = .got id) :
    Completes (.hqDescriptor q desc bytes) s fun t =>
      t.hq q.val = { s.hq q.val with cur := some (hqFrame q.val ((s.hq q.val).head % s.hqRing q.val) id desc bytes), fwd := bit (leAt desc 10 1) 0, dest := leAt desc 11 1 } ∧
      (∀ k < 64, k ≠ q.val → t.hq k = s.hq k) ∧ t.owner id = agH2d ∧
      RegsKeptIn [fun _ => R.BUF_SAT, R.HOST_HQ_SAT] s t ∧ OnlyChanges [.arb, .buf, .cnt, .chan, .regs] s t := by
  have hreach := s.allocBuf_touches agH2d (leAt desc 8 2)
  obtain ⟨u, hu⟩ : ∃ u, s.allocBuf agH2d (leAt desc 8 2) = (u, .got id) := ⟨_, Prod.ext rfl halloc⟩
  rw [hu] at hreach
  have hset := u.setHq_touches q.val { s.hq q.val with
    cur := some (hqFrame q.val ((s.hq q.val).head % s.hqRing q.val) id desc bytes), fwd := bit (leAt desc 10 1) 0, dest := leAt desc 11 1 }
  have hall := hreach.and hset
  refine ⟨_, (exec_hqDescriptor_of_takes h).trans ?_, (u.hq_setHq ..).trans (if_pos rfl), fun k _ hk => ?_,
    (hset.owner (by simp) id).trans (State.owner_allocBuf hu), hall.regsKeptIn (by simp), hall.onlyChanges (by simp)⟩
  · rw [hgood]
    dsimp only
    rw [hu]
  · rw [State.hq_setHq, if_neg hk, hreach.hq (by simp)]

/-- A good descriptor without a buffer for it waits (R427). -/
theorem hqDescriptor_refused (h : HqTakes q s) (hgood : badDescriptor desc = none)
    (halloc : (s.allocBuf agH2d (leAt desc 8 2)).2 = .refused) :
    Completes (.hqDescriptor q desc bytes) s fun t =>
      t.chan = s.chan ∧ RegsKeptIn [fun _ => R.BUF_SAT, R.HOST_HQ_SAT] s t ∧
      OnlyChanges [.arb, .buf, .cnt, .regs] s t := by
  have hreach := s.allocBuf_touches agH2d (leAt desc 8 2)
  obtain ⟨u, hu⟩ : ∃ u, s.allocBuf agH2d (leAt desc 8 2) = (u, .refused) := ⟨_, Prod.ext rfl halloc⟩
  rw [hu] at hreach
  refine ⟨u, (exec_hqDescriptor_of_takes h).trans ?_, hreach.parts .chan (by simp), hreach.regsKeptIn (by simp),
    hreach.onlyChanges (by simp)⟩
  rw [hgood]
  dsimp only
  rw [hu]

/-! HOST_DMA_ERROR of a read. -/

theorem State.disableHq_flds (s : State) (q : Nat) :
    (s.setFld (F.HOST_HQ_CFG_ENABLE q) 0).flag (F.HOST_HQ_CFG_ENABLE q) = false ∧
      (s.setFld (F.HOST_HQ_CFG_ENABLE q) 0).hqFunc q = s.hqFunc q ∧
      (s.setFld (F.HOST_HQ_CFG_ENABLE q) 0).hqRing q = s.hqRing q := by
  have hr := (s.rd (R.HOST_HQ_CFG q)).isLt
  refine ⟨?_, congrArg funcOf ?_, congrArg hostRing ?_⟩
  · simp only [State.flag, State.fld, State.setFld, State.rd_wr, if_true, BitVec.toNat_ofNat, bitsOf, putBits,
      Nat.shiftRight_eq_div_pow]
    simp only [bne_eq_false_iff_eq]
    omega
  · simp only [State.fld, State.setFld, State.rd_wr, if_true, BitVec.toNat_ofNat, bitsOf, putBits,
      Nat.shiftRight_eq_div_pow]
    omega
  · simp only [State.fld, State.setFld, State.rd_wr, if_true, BitVec.toNat_ofNat, bitsOf, putBits,
      Nat.shiftRight_eq_div_pow]
    omega

/-- The queue is disabled and its error told (R428); head is the place of the descriptor. -/
def State.hqError (s : State) (q head : Nat) (code : Byte) : State :=
  let u := (s.bump (C.HQ_DMA_ERR q)).setFld (F.HOST_HQ_CFG_ENABLE q) 0
  u.raiseRow 0x0085 1 14 4 (u.hqFunc q) [(1, 1), (1, q), (2, head % u.hqRing q), (1, code.toNat)]

theorem State.hqError_spec {s : State} {q : Nat} (head : Nat) (code : Byte) (hlt : s.count (C.HQ_DMA_ERR q) < 0xFFFFFFFE)
    (hroom : (s.source 0x0085).queue.length < 16) :
    Touches ⟨[.cnt, .regs, .arb], [(R.HOST_HQ_CFG, q)], [C.HQ_DMA_ERR q]⟩ s (s.hqError q head code) ∧
      (s.hqError q head code).count (C.HQ_DMA_ERR q) = s.count (C.HQ_DMA_ERR q) + 1 ∧
      (s.hqError q head code).flag (F.HOST_HQ_CFG_ENABLE q) = false ∧
      ((s.hqError q head code).source 0x0085).queue = (s.source 0x0085).queue ++ [⟨1, 0x0E04, s.hqFunc q,
        evPayload [(1, 1), (1, q), (2, head % s.hqRing q), (1, code.toNat)], s.arb.raised⟩] := by
  have hbump := s.bump_touches_of_lt hlt
  have hset := (s.bump (C.HQ_DMA_ERR q)).setFld_touches (F.HOST_HQ_CFG_ENABLE q) 0 (R.HOST_HQ_CFG, q) rfl
  have hmid := hbump.and hset
  obtain ⟨hoff, hfunc, hring⟩ := (s.bump (C.HQ_DMA_ERR q)).disableHq_flds q
  have hfunc' : (s.bump (C.HQ_DMA_ERR q)).hqFunc q = s.hqFunc q := congrArg funcOf (hbump.fld _ (by simp))
  have hring' : (s.bump (C.HQ_DMA_ERR q)).hqRing q = s.hqRing q := congrArg hostRing (hbump.fld _ (by simp))
  unfold State.hqError
  dsimp only
  rw [hfunc, hfunc', hring, hring']
  have hevent := ((s.bump (C.HQ_DMA_ERR q)).setFld (F.HOST_HQ_CFG_ENABLE q) 0).raiseRow_touches 0x0085 1 14 4 (s.hqFunc q)
    [(1, 1), (1, q), (2, head % s.hqRing q), (1, code.toNat)]
  have hsource := hmid.source (by simp) 0x0085
  have hraised : ((s.bump (C.HQ_DMA_ERR q)).setFld (F.HOST_HQ_CFG_ENABLE q) 0).arb = s.arb := hmid.parts .arb (by simp)
  refine ⟨(hmid.and hevent).mono ⟨by simp, by simp, by simp⟩, ?_, ?_, ?_⟩
  · rw [(hset.and hevent).ctrs _ (by simp)]
    exact s.count_bump_of_lt rfl hlt
  · rw [hevent.flag _ (by simp), hoff]
  · rw [State.raiseRow, State.source_raise_of_room (by rwa [hsource]), hsource, hraised]

theorem hostDmaError_disabled {code : Byte} (h : s.flag (F.HOST_HQ_CFG_ENABLE q.val) = false) :
    exec (.hostDmaError true q code) s = .next s := (exec_hostDmaError ..).trans (if_neg (by simp [h]))

theorem exec_hostDmaError_idle {code : Byte} (hen : s.flag (F.HOST_HQ_CFG_ENABLE q.val) = true) (hcur : (s.hq q.val).cur = none) :
    exec (.hostDmaError true q code) s = .next (s.hqError q.val (s.hq q.val).head code) := by
  refine (exec_hostDmaError ..).trans ((if_pos hen).trans ?_)
  rw [hcur]
  rfl

/-- An error between frames (R428). -/
theorem hostDmaError_idle {code : Byte} (hen : s.flag (F.HOST_HQ_CFG_ENABLE q.val) = true) (hcur : (s.hq q.val).cur = none)
    (hlt : s.count (C.HQ_DMA_ERR q.val) < 0xFFFFFFFE) (hroom : (s.source 0x0085).queue.length < 16) :
    Completes (.hostDmaError true q code) s fun t =>
      t.chan = s.chan ∧ t.count (C.HQ_DMA_ERR q.val) = s.count (C.HQ_DMA_ERR q.val) + 1 ∧
      t.flag (F.HOST_HQ_CFG_ENABLE q.val) = false ∧
      (t.source 0x0085).queue = (s.source 0x0085).queue ++ [⟨1, 0x0E04, s.hqFunc q.val, evPayload [(1, 1), (1,
        q.val), (2, (s.hq q.val).head % s.hqRing q.val), (1, code.toNat)], s.arb.raised⟩] ∧
      RegsKept [R.HOST_HQ_CFG q.val] s t ∧ OnlyChanges [.arb, .cnt, .regs] s t := by
  obtain ⟨hreach, hcount, hoff, htold⟩ := State.hqError_spec (s.hq q.val).head code hlt hroom
  exact ⟨_, exec_hostDmaError_idle hen hcur, hreach.parts .chan (by simp), hcount, hoff, htold,
    fun o ho => hreach.regs o (by simpa [eq_comm] using ho), hreach.onlyChanges (by simp)⟩

/-- The frame that a queue reads is given up (R428). -/
def State.rewindHq (s : State) (q : Nat) (f : Frame) : State :=
  ((s.setHq q { s.hq q with cur := none }).bump (C.HQ_REWOUND q)).freeBuf f.buf agH2d q

theorem exec_hostDmaError_reading {code : Byte} {f : Frame} (hen : s.flag (F.HOST_HQ_CFG_ENABLE q.val) = true)
    (hcur : (s.hq q.val).cur = some f) :
    exec (.hostDmaError true q code) s = .next ((s.rewindHq q.val f).hqError q.val (s.hq q.val).head code) := by
  refine (exec_hostDmaError ..).trans ((if_pos hen).trans ?_)
  rw [hcur]
  rfl

theorem State.rewindHq_spec {s : State} {q : Nat} {f : Frame} (howner : s.owner f.buf = agH2d)
    (hlt : s.count (C.HQ_REWOUND q) < 0xFFFFFFFE) :
    Touches ⟨[.chan, .cnt, .buf], [], [C.HQ_REWOUND q]⟩ s (s.rewindHq q f) ∧
      (∀ k, (s.rewindHq q f).hq k = if k = q then { s.hq q with cur := none } else s.hq k) ∧
      (s.rewindHq q f).owner f.buf = 0 ∧ (s.rewindHq q f).count (C.HQ_REWOUND q) = s.count (C.HQ_REWOUND q) + 1 := by
  have hset := s.setHq_touches q { s.hq q with cur := none }
  have hlt' : (s.setHq q { s.hq q with cur := none }).count (C.HQ_REWOUND q) < 0xFFFFFFFE := hlt
  have hbump := State.bump_touches_of_lt _ hlt'
  have hmid := hset.and hbump
  obtain ⟨hfree, hzero⟩ := State.freeBuf_of_owner (agent := agH2d) q ((hmid.owner (by simp) f.buf).trans howner) (by decide)
  refine ⟨(hmid.and hfree).mono ⟨by simp, by simp, by simp⟩, fun k => ?_, hzero, ?_⟩
  · exact ((hbump.and hfree).hq (by simp) k).trans (s.hq_setHq ..)
  · exact (hfree.ctrs _ (by simp)).trans (State.count_bump_of_lt _ rfl hlt')

/-- An error in the middle of a frame (R428). -/
theorem hostDmaError_reading {code : Byte} {f : Frame} (hen : s.flag (F.HOST_HQ_CFG_ENABLE q.val) = true)
    (hcur : (s.hq q.val).cur = some f) (howner : s.owner f.buf = agH2d) (hlt : s.count (C.HQ_DMA_ERR q.val) < 0xFFFFFFFE)
    (hrew : s.count (C.HQ_REWOUND q.val) < 0xFFFFFFFE) (hroom : (s.source 0x0085).queue.length < 16) :
    Completes (.hostDmaError true q code) s fun t =>
      t.hq q.val = { s.hq q.val with cur := none } ∧ (∀ k < 64, k ≠ q.val → t.hq k = s.hq k) ∧ t.owner f.buf = 0 ∧
      t.count (C.HQ_DMA_ERR q.val) = s.count (C.HQ_DMA_ERR q.val) + 1 ∧
      t.count (C.HQ_REWOUND q.val) = s.count (C.HQ_REWOUND q.val) + 1 ∧
      t.flag (F.HOST_HQ_CFG_ENABLE q.val) = false ∧
      (t.source 0x0085).queue = (s.source 0x0085).queue ++ [⟨1, 0x0E04, s.hqFunc q.val, evPayload [(1, 1), (1,
        q.val), (2, (s.hq q.val).head % s.hqRing q.val), (1, code.toNat)], s.arb.raised⟩] ∧
      RegsKept [R.HOST_HQ_CFG q.val] s t ∧ OnlyChanges [.arb, .buf, .chan, .cnt, .regs] s t := by
  obtain ⟨hback, hhq, hfree, hcount⟩ := State.rewindHq_spec howner hrew
  have hsource := hback.source (by simp) 0x0085
  have hold : (s.rewindHq q.val f).count (C.HQ_DMA_ERR q.val) = s.count (C.HQ_DMA_ERR q.val) := hback.ctrs _ (by simp)
  have hfunc : (s.rewindHq q.val f).hqFunc q.val = s.hqFunc q.val := congrArg funcOf (hback.fld _ (by simp))
  have hring : (s.rewindHq q.val f).hqRing q.val = s.hqRing q.val := congrArg hostRing (hback.fld _ (by simp))
  have harb : (s.rewindHq q.val f).arb = s.arb := hback.parts .arb (by simp)
  obtain ⟨hreach, herr, hoff, htold⟩ := State.hqError_spec (s.hq q.val).head code (hold.symm ▸ hlt) (hsource.symm ▸ hroom)
  rw [hfunc, hring, hsource, harb] at htold
  have hall := hback.and hreach
  refine ⟨_, exec_hostDmaError_reading hen hcur, ?_, fun k _ hk => ?_, ?_, ?_, ?_, hoff, htold,
    fun o ho => hall.regs o (by simpa [eq_comm] using ho), hall.onlyChanges (by simp)⟩
  · rw [hreach.hq (by simp), hhq, if_pos rfl]
  · rw [hreach.hq (by simp), hhq, if_neg hk]
  · rw [hreach.owner (by simp), hfree]
  · rw [herr, hold]
  · rw [hreach.ctrs _ (by simp), hcount]

end Sys2Proof.Machine
end
section
/-! SUPPORT. The destination lookup of a frame (R383 to R386, R524), and what of the state it depends on. -/

namespace Sys2Proof.Machine

variable {s t u : State}

/-- What a lookup reads stands alike in s and t: the table, the flood and port sets, the parity errors. -/
structure SameTable (s t : State) : Prop where
  parity : t.mem.parity = s.mem.parity
  entries : t.fwd.entries = s.fwd.entries
  flood : t.fwd.flood = s.fwd.flood
  ports : t.fwd.ports = s.fwd.ports

theorem SameTable.refl (s : State) : SameTable s s := ⟨rfl, rfl, rfl, rfl⟩

theorem SameTable.trans (h : SameTable s t) (h' : SameTable t u) : SameTable s u :=
  ⟨h'.parity.trans h.parity, h'.entries.trans h.entries, h'.flood.trans h.flood, h'.ports.trans h.ports⟩

theorem SameTable.of_parts (hmem : t.mem = s.mem) (hfwd : t.fwd = s.fwd) : SameTable s t :=
  ⟨by rw [hmem], by rw [hfwd], by rw [hfwd], by rw [hfwd]⟩

theorem SameTable.fwdAt (h : SameTable s t) (p : Nat) : t.fwdAt p = s.fwdAt p := by
  simp only [State.fwdAt, h.entries]

theorem SameTable.lookupPlaces (h : SameTable s t) (fid mac : Nat) : t.lookupPlaces fid mac = s.lookupPlaces fid mac := by
  simp only [State.lookupPlaces, State.stashUsed, h.entries]

theorem SameTable.expandDest (h : SameTable s t) (d : Nat) : t.expandDest d = s.expandDest d := by
  simp only [State.expandDest, State.portSet, h.ports]

theorem SameTable.floodSet (h : SameTable s t) (fid : Nat) : t.floodSet fid = s.floodSet fid := by
  simp only [State.floodSet, h.flood]

theorem SameTable.holdsKey (h : SameTable s t) (fid mac p : Nat) : t.holdsKey fid mac p = s.holdsKey fid mac p := by
  simp only [State.holdsKey, h.fwdAt]

theorem SameTable.parityBad (h : SameTable s t) (kind p : Nat) : t.parityBad kind p = s.parityBad kind p := by
  simp only [State.parityBad, h.parity]

/-! A lookup keeps the table. -/

theorem State.foundUe_sameTable (s : State) (m word finder : Nat) : SameTable s (s.foundUe m word finder) := by
  have hfwd : (s.foundUe m word finder).fwd = s.fwd := (s.foundUe_touches m word finder).parts .fwd (by simp)
  refine ⟨?_, by rw [hfwd], by rw [hfwd], by rw [hfwd]⟩
  unfold State.foundUe State.logUe
  dsimp only
  split <;> simp

theorem State.setFwd_touches (s : State) (x : Fwd) : Touches ⟨[.fwd], [], []⟩ s (s.setFwd x) :=
  .of_parts (fun x hx => by cases x with | fwd => simp at hx | _ => rfl) (by simp) (by simp)

theorem State.requestDelete_spec (s : State) (kind : FwdKind) (e : FwdEntry) :
    Touches ⟨[.fwd], [], []⟩ s (s.requestDelete kind e) ∧ SameTable s (s.requestDelete kind e) := by
  unfold State.requestDelete
  split
  · exact ⟨.refl _ s, .refl s⟩
  · exact ⟨s.setFwd_touches _, ⟨rfl, rfl, rfl, rfl⟩⟩

/-- What a lookup touches. -/
@[simp] def lookupReach : Reach := (foundReach 7).and ⟨[.cnt, .fwd], [], [C.FWD_LOOKUP]⟩

theorem foundReach_within_lookupReach : (foundReach 7).Within lookupReach := Reach.within_and_left ..

theorem State.meetFwdParity_spec (s : State) (ps : List Nat) :
    Touches lookupReach s (s.meetFwdParity ps) ∧ SameTable s (s.meetFwdParity ps) := by
  induction ps generalizing s with
  | nil => exact ⟨.refl _ s, .refl s⟩
  | cons p ps ih =>
    rw [State.meetFwdParity]
    suffices h : ∀ u, Touches lookupReach s u ∧ SameTable s u →
        Touches lookupReach s (u.meetFwdParity ps) ∧ SameTable s (u.meetFwdParity ps) by
      refine h _ ?_
      have hmet : Touches lookupReach s (s.meetParity 2 p 1) := (s.foundUe_touches ..).mono foundReach_within_lookupReach
      have hsame : SameTable s (s.meetParity 2 p 1) := s.foundUe_sameTable ..
      split
      · dsimp only
        split
        · next e _ =>
          split
          · exact ⟨hmet, hsame⟩
          · obtain ⟨hreq, hkeep⟩ := (s.meetParity 2 p 1).requestDelete_spec .parity e
            exact ⟨hmet.part hreq (by simp), hsame.trans hkeep⟩
        · exact ⟨hmet, hsame⟩
      · exact ⟨.refl _ s, .refl s⟩
    exact fun u ⟨hu, hs⟩ => ⟨hu.trans (ih u).1, hs.trans (ih u).2⟩

/-- The place and entry that a lookup finds. -/
def State.fwdFound (s : State) (fid mac : Nat) : Option (Nat × FwdEntry) :=
  ((s.lookupPlaces fid mac).find? (fun p => s.holdsKey fid mac p && !s.parityBad 2 p)).bind
    fun p => (s.fwdAt p).map (fun e => (p, e))

theorem State.fwdLookup_spec (s : State) (fid mac : Nat) :
    Touches lookupReach s (s.fwdLookup fid mac).1 ∧ SameTable s (s.fwdLookup fid mac).1 ∧
      (s.fwdLookup fid mac).2 = s.fwdFound fid mac := by
  obtain ⟨hreach, hsame⟩ := s.meetFwdParity_spec (s.lookupPlaces fid mac)
  have hfind : (fun p => (s.meetFwdParity (s.lookupPlaces fid mac)).holdsKey fid mac p &&
      !(s.meetFwdParity (s.lookupPlaces fid mac)).parityBad 2 p) = fun p => s.holdsKey fid mac p && !s.parityBad 2 p :=
    funext fun p => by rw [hsame.holdsKey, hsame.parityBad]
  unfold State.fwdLookup State.fwdFound
  dsimp only
  rw [hfind]
  cases (s.lookupPlaces fid mac).find? fun p => s.holdsKey fid mac p && !s.parityBad 2 p with
  | none =>
    dsimp only [Option.bind_none]
    exact ⟨hreach, hsame, rfl⟩
  | some p =>
    dsimp only [Option.bind_some]
    rw [hsame.fwdAt]
    exact ⟨hreach, hsame, rfl⟩

/-- The destinations of a frame by its FID and address (R386). -/
def State.destsAt (s : State) (fid da : Nat) : List Nat :=
  match s.fwdFound fid da with
  | some (_, e) => if isGroup da && !e.static then maskDests (s.floodSet fid) else s.expandDest e.dest
  | none => maskDests (s.floodSet fid)

theorem SameTable.destsAt (h : SameTable s t) (fid da : Nat) : t.destsAt fid da = s.destsAt fid da := by
  simp only [State.destsAt, State.fwdFound, h.lookupPlaces, h.holdsKey, h.parityBad, h.fwdAt, h.floodSet, h.expandDest]

theorem State.destLookup_spec (s : State) (fid da : Nat) :
    Touches lookupReach s (s.destLookup fid da).1 ∧ (s.destLookup fid da).2 = s.destsAt fid da := by
  have hbump : Touches lookupReach s (s.bump C.FWD_LOOKUP) :=
    (Touches.refl _ s).bumpWide (c := C.FWD_LOOKUP) rfl (by simp) (by simp)
  have hsame : SameTable s (s.bump C.FWD_LOOKUP) := .of_parts (State.bump_mem ..) (State.bump_fwd ..)
  obtain ⟨hreach, hkeep, hfound⟩ := (s.bump C.FWD_LOOKUP).fwdLookup_spec fid da
  rw [← hsame.destsAt]
  unfold State.destLookup State.destsAt
  dsimp only
  rw [hfound]
  cases (s.bump C.FWD_LOOKUP).fwdFound fid da with
  | none => exact ⟨hbump.trans hreach, congrArg maskDests (hkeep.floodSet fid)⟩
  | some r =>
    dsimp only
    rw [hkeep.floodSet, hkeep.expandDest]
    split <;> exact ⟨hbump.trans hreach, rfl⟩

/-- The destinations of a frame from host software: by lookup or as named (R386, R427). -/
def State.hqDests (s : State) (h : HQueue) (f : Frame) : List Nat :=
  if h.fwd then s.destsAt f.fid (beAt f.bytes 0 6) else s.expandDest h.dest

/-- The state once the destinations are found. -/
def State.hqLooked (s : State) (h : HQueue) (f : Frame) : State :=
  if h.fwd then (s.destLookup f.fid (beAt f.bytes 0 6)).1 else s

theorem State.hqLooked_touches (s : State) (h : HQueue) (f : Frame) : Touches lookupReach s (s.hqLooked h f) :=
  .ite (fun _ => (s.destLookup_spec ..).1) (fun _ => .refl _ s)

theorem SameTable.hqDests (h : SameTable s t) (x : HQueue) (f : Frame) : t.hqDests x f = s.hqDests x f := by
  simp only [State.hqDests, h.destsAt, h.expandDest]

theorem State.hqLookup_eq (s : State) (h : HQueue) (f : Frame) :
    (if h.fwd then s.destLookup f.fid (beAt f.bytes 0 6) else (s, s.expandDest h.dest)) = (s.hqLooked h f, s.hqDests h f) := by
  unfold State.hqLooked State.hqDests
  split
  · exact Prod.ext rfl (s.destLookup_spec ..).2
  · rfl

/-! Where a frame goes from a destination (R158, R385). -/

theorem State.arrivalFor_congr (h : t.bonding = s.bonding) (f : Frame) (d : Nat) : t.arrivalFor f d = s.arrivalFor f d := by
  have hgroup : t.groupOf (d - 24) = s.groupOf (d - 24) := by simp only [State.groupOf, State.group, h]
  unfold State.arrivalFor
  rw [hgroup]

theorem State.arrivalFor_of_mac (s : State) (f : Frame) {d : Nat} (h : d < 24) :
    s.arrivalFor f d = { frame := f, node1 := d } := if_pos h

theorem State.frame_arrivalFor (s : State) (f : Frame) (d : Nat) : (s.arrivalFor f d).frame = f := by
  unfold State.arrivalFor
  split_ifs <;> rfl

/-- Does a frame go to a MAC? -/
def Arrival.toMac (a : Arrival) : Bool := decide (a.node1 < 24) && a.group.isNone

theorem State.toMac_arrivalFor (s : State) (f : Frame) {d : Nat} (h : 24 ≤ d) : (s.arrivalFor f d).toMac = false := by
  have hn : ¬d < 24 := Nat.not_lt.mpr h
  unfold State.arrivalFor Arrival.toMac
  split_ifs <;> simp [h]

theorem State.expandDest_of_lt (s : State) {d : Nat} (h : d < 128) : s.expandDest d = [d] := if_neg (Nat.not_le.mpr h)

end Sys2Proof.Machine
end
section
/-! SUPPORT. A frame from host software on its way to its destinations (R386, R411, R414, R466 to R469). -/

namespace Sys2Proof.Machine

variable {s t u : State} {f : Frame} {a : Arrival} {raw q : Nat}

/-! Buffers. -/

/-- The owner hands its buffer over to the queue manager, for a number of destinations (R411, R414). -/
def State.toQm (s : State) (q id n : Nat) : State := (s.handover id agH2d q agQm).setDests id n

theorem State.toQm_touches (s : State) (q id n : Nat) : Touches freeReach s (s.toQm q id n) :=
  (s.handover_touches ..).part (State.setDests_touches ..) (by simp)

theorem State.toQm_of_owner {id n : Nat} (ho : s.owner id = agH2d) :
    Touches ⟨[.buf], [], []⟩ s (s.toQm q id n) ∧ (s.toQm q id n).owner id = agQm ∧ (s.toQm q id n).destsOf id = n ∧
      (s.toQm q id n).isMulti id = decide (1 < n) := by
  have heq : s.toQm q id n = (s.setOwner id agQm).setDests id n :=
    congrArg (fun v => State.setDests v id n) (if_pos ⟨ho, by decide⟩)
  rw [heq]
  refine ⟨(s.setOwner_touches ..).trans (State.setDests_touches ..), (s.owner_setOwner id id agQm).trans (if_pos rfl), ?_, ?_⟩
  · simp only [State.destsOf, State.setDests, sparseGet_sparseSet, if_true]
  · simp only [State.isMulti, State.setDests, sparseGet_sparseSet, if_true]

/-- The last destination frees the buffer (R414). -/
theorem State.finishDest_of_owner {id agent : Nat} (inst : Nat) (hm : s.isMulti id = false) (ho : s.owner id = agent)
    (ha : agent ≠ 0) :
    Touches ⟨[.buf], [], []⟩ s (s.finishDest id agent inst) ∧ (s.finishDest id agent inst).owner id = 0 := by
  unfold State.finishDest
  rw [if_neg (by simp [hm])]
  have hset := s.buf_touches { s.buf with dests := sparseSet (fun _ => 0) s.buf.dests id 0 }
  obtain ⟨hfree, hzero⟩ := State.freeBuf_of_owner (s := { s with buf := { s.buf with dests := sparseSet (fun _ => 0) s.buf.dests id 0 } })
    inst ho ha
  exact ⟨hset.trans hfree, hzero⟩

/-! One destination. -/

/-- Frames arrive at the queue manager. -/
def State.arrive (s : State) (as : List Arrival) : State :=
  { s with sched := { s.sched with arrivals := s.sched.arrivals ++ as } }

theorem State.arrive_touches (s : State) (as : List Arrival) : Touches ⟨[.sched], [], []⟩ s (s.arrive as) := s.sched_touches _

theorem State.arrive_nil (s : State) : s.arrive [] = s := by simp [State.arrive]

theorem State.arrive_arrive (s : State) (as bs : List Arrival) : (s.arrive as).arrive bs = s.arrive (as ++ bs) := by
  simp [State.arrive]

theorem State.hqDest_of_launch (hmac : a.toMac = true) (hl : bit a.frame.time 63 = true) :
    s.hqDest raw q a = s.launchEnqueue a.node1 raw q a.frame :=
  if_pos (Bool.and_eq_true_iff.mpr ⟨hmac, hl⟩)

theorem State.hqDest_of_mac (hmac : a.toMac = true) (hl : bit a.frame.time 63 = false) : s.hqDest raw q a = s.arrive [a] := by
  have hmac' : (decide (a.node1 < 24) && a.group.isNone) = true := hmac
  unfold State.hqDest
  simp only [hmac', hl, Bool.and_false, Bool.false_eq_true, if_false, Bool.true_or, if_true]
  rfl

theorem State.hqDest_of_untimed (ht : a.frame.time = 0) : s.hqDest raw q a = s.arrive [a] := by
  have hl : bit a.frame.time 63 = false := by rw [ht]; decide
  have ha : (if (decide (a.node1 < 24) && a.group.isNone) = true then a else { a with frame := { a.frame with time := 0 } }) = a := by
    split
    · rfl
    · rw [← ht]
  unfold State.hqDest
  simp only [hl, Bool.and_false, Bool.false_eq_true, if_false, ha]
  rw [if_pos (by simp [ht])]
  rfl

theorem State.hqDest_of_ignored (hmac : a.toMac = false) (ht : a.frame.time ≠ 0) :
    s.hqDest raw q a = (s.bump C.TIME_TIME_IGNORED).arrive [{ a with frame := { a.frame with time := 0 } }] := by
  have hmac' : (decide (a.node1 < 24) && a.group.isNone) = false := hmac
  unfold State.hqDest
  simp only [hmac', Bool.false_and, Bool.false_eq_true, if_false, Bool.false_or, beq_iff_eq, ht]
  rfl

theorem State.hqDests_of_untimed (s : State) (as : List Arrival) (h : ∀ a ∈ as, a.frame.time = 0) :
    as.foldl (fun s a => s.hqDest raw q a) s = s.arrive as := by
  induction as generalizing s with
  | nil => exact s.arrive_nil.symm
  | cons a as ih =>
    rw [List.foldl_cons, State.hqDest_of_untimed (h a (List.mem_cons_self ..)), ih _ fun b hb => h b (List.mem_cons_of_mem _ hb),
      State.arrive_arrive]
    rfl

/-! Launches. -/

/-- The launch that a frame's TIME field asks for, at a time (R468). -/
def Frame.launchAt (f : Frame) (now : Nat) : Launch :=
  ⟨f, launchSec (timeSec now) (bitsOf f.time 45 30), bitsOf f.time 29 0,
    passed now (timeOf (launchSec (timeSec now) (bitsOf f.time 45 30)) (bitsOf f.time 29 0) 0)⟩

theorem State.setLaunchQ_touches (s : State) (m : Nat) (l : List Launch) : Touches ⟨[.time], [], []⟩ s (s.setLaunchQ m l) :=
  s.setTime_touches _

theorem State.launchQ_setLaunchQ (s : State) (m k : Nat) (l : List Launch) :
    (s.setLaunchQ m l).launchQ k = if k = m then l else s.launchQ k := sparseGet_sparseSet _ _ _ _ _

theorem State.launchEnqueue_of_room {m : Nat} (h : (s.launchQ m).length < 128) (now : Nat)
    (hnow : now = s.time.at (max s.time.raw raw)) :
    Touches ⟨[.time, .sched], [], []⟩ s (s.launchEnqueue m raw q f) ∧
      (∀ k, (s.launchEnqueue m raw q f).launchQ k = if k = m then s.launchQ m ++ [f.launchAt now] else s.launchQ k) ∧
      (s.launchEnqueue m raw q f).sched.arrivals = s.sched.arrivals := by
  unfold State.launchEnqueue
  extract_lets l u now' sec ns n
  rw [if_neg (Nat.not_le.mpr h)]
  have hu : Touches ⟨[.time, .sched], [], []⟩ s u := (Touches.refl _ s).part (s.setTime_touches _) (by simp)
  refine ⟨(hu.part (u.setN1_touches ..) (by simp)).part (State.setLaunchQ_touches ..) (by simp), fun k => ?_, rfl⟩
  rw [State.launchQ_setLaunchQ, hnow]
  rfl

theorem State.launchEnqueue_of_full {m : Nat} (h : 128 ≤ (s.launchQ m).length) (hm : s.isMulti f.buf = false)
    (ho : s.owner f.buf = agQm) (hlt : s.count C.TIME_LAUNCH_FULL < 0xFFFFFFFE) :
    Touches ⟨[.cnt, .arb, .buf], [], [C.TIME_LAUNCH_FULL]⟩ s (s.launchEnqueue m raw q f) ∧
      (s.launchEnqueue m raw q f).owner f.buf = 0 ∧
      (s.launchEnqueue m raw q f).count C.TIME_LAUNCH_FULL = s.count C.TIME_LAUNCH_FULL + 1 := by
  unfold State.launchEnqueue
  dsimp only
  rw [if_pos h]
  have hbump := s.bump_touches_of_lt hlt
  have hevent := (s.bump C.TIME_LAUNCH_FULL).raiseRow_touches 0x0090 2 16 3 5 [(1, m), (1, 0), (1, q), (2, f.hqIdx)]
  have hmid := hbump.and hevent
  have hm' : ((s.bump C.TIME_LAUNCH_FULL).raiseRow 0x0090 2 16 3 5 [(1, m), (1, 0), (1, q), (2, f.hqIdx)]).isMulti f.buf = false := by
    rw [State.isMulti, show _ = s.buf from hmid.parts .buf (by simp)]
    exact hm
  obtain ⟨hfin, hzero⟩ := State.finishDest_of_owner (agent := agQm) 0 hm' ((hmid.owner (by simp) f.buf).trans ho) (by decide)
  refine ⟨(hmid.and hfin).mono ⟨by simp, by simp, by simp⟩, hzero, ?_⟩
  rw [(hevent.and hfin).ctrs _ (by simp)]
  exact s.count_bump_of_lt rfl hlt

/-! What a destination touches, whatever the frame. -/

/-- What one destination of a frame touches. -/
@[simp] def destReach : Reach :=
  freeReach.and ⟨[.regs, .cnt, .arb, .sched, .time], [(fun _ => R.TIME_SAT, 0)], [C.TIME_LAUNCH_FULL, C.TIME_TIME_IGNORED]⟩

theorem freeReach_within_destReach : freeReach.Within destReach := Reach.within_and_left ..

theorem State.launchEnqueue_touches (s : State) (m raw q : Nat) (f : Frame) :
    Touches destReach s (s.launchEnqueue m raw q f) := by
  unfold State.launchEnqueue
  extract_lets l u now sec ns n
  refine .ite (fun _ => ?_) fun _ => ?_
  · exact (((Touches.refl _ s).bump C.TIME_LAUNCH_FULL (fun _ => R.TIME_SAT, 0) rfl (by simp) (by simp) (by simp)).part
      (State.raiseRow_touches ..) (by simp)).next (State.finishDest_touches ..) freeReach_within_destReach
  · have hu : Touches destReach s u := (Touches.refl _ s).part (s.setTime_touches _) (by simp)
    exact (hu.part (u.setN1_touches ..) (by simp)).part (State.setLaunchQ_touches ..) (by simp)

theorem State.hqDest_touches (s : State) (raw q : Nat) (a : Arrival) : Touches destReach s (s.hqDest raw q a) := by
  cases hmac : a.toMac with
  | true =>
    cases hl : bit a.frame.time 63 with
    | true =>
      rw [State.hqDest_of_launch hmac hl]
      exact s.launchEnqueue_touches ..
    | false =>
      rw [State.hqDest_of_mac hmac hl]
      exact (Touches.refl _ s).part (s.arrive_touches _) (by simp)
  | false =>
    by_cases ht : a.frame.time = 0
    · rw [State.hqDest_of_untimed ht]
      exact (Touches.refl _ s).part (s.arrive_touches _) (by simp)
    · rw [State.hqDest_of_ignored hmac ht]
      exact ((Touches.refl _ s).bump C.TIME_TIME_IGNORED (fun _ => R.TIME_SAT, 0) rfl (by simp) (by simp) (by simp)).part
        (State.arrive_touches ..) (by simp)

end Sys2Proof.Machine
end
section
/-! SUPPORT. A re-evaluation of the bonding layer leaves the arrivals at the queue manager, and leaves free what is free
(R158, R160, R164, R165, R412). -/

namespace Sys2Proof.Machine

variable {s t u : State} {g n : Nat}

/-- From s to t nothing arrives at the queue manager, and a free buffer stays free. -/
structure KeepsFreed (s t : State) : Prop where
  arrivals : t.sched.arrivals = s.sched.arrivals
  freed : ∀ id, s.owner id = 0 → t.owner id = 0

namespace KeepsFreed

theorem refl (s : State) : KeepsFreed s s := ⟨rfl, fun _ h => h⟩

theorem trans (h : KeepsFreed s t) (h' : KeepsFreed t u) : KeepsFreed s u :=
  ⟨h'.arrivals.trans h.arrivals, fun id hid => h'.freed id (h.freed id hid)⟩

theorem of_alike (hs : t.sched.arrivals = s.sched.arrivals) (hb : t.buf.owner = s.buf.owner) : KeepsFreed s t :=
  ⟨hs, fun id h => by rwa [State.owner, hb]⟩

/-- After a change of neither. -/
theorem after (h : KeepsFreed t u) (hs : t.sched.arrivals = s.sched.arrivals) (hb : t.buf.owner = s.buf.owner) :
    KeepsFreed s u := (of_alike hs hb).trans h

theorem of_touches {F : Reach} (h : Touches F s t) (hs : .sched ∉ F.parts) (hb : .buf ∉ F.parts) : KeepsFreed s t :=
  of_alike (by rw [show t.sched = s.sched from h.parts .sched hs]) (by rw [show t.buf = s.buf from h.parts .buf hb])

theorem ite {p : Prop} [Decidable p] (h : p → KeepsFreed s t) (h' : ¬p → KeepsFreed s u) :
    KeepsFreed s (if p then t else u) := by
  split
  · exact h ‹_›
  · exact h' ‹_›

theorem foldl {α : Type} {f : State → α → State} (h : ∀ u a, KeepsFreed u (f u a)) (l : List α) (s : State) :
    KeepsFreed s (l.foldl f s) := by
  induction l generalizing s with
  | nil => exact .refl s
  | cons a l ih => exact (h s a).trans (ih _)

end KeepsFreed

theorem State.setOwner_free_keepsFreed (s : State) (id : Nat) : KeepsFreed s (s.setOwner id 0) := by
  refine ⟨rfl, fun j hj => ?_⟩
  rw [State.owner_setOwner]
  split
  · rfl
  · exact hj

theorem State.bumpBy_keepsFreed (s : State) (c : Ctr) (n : Nat) : KeepsFreed s (s.bumpBy c n) :=
  .of_alike (by simp) (by simp)
theorem State.bump_keepsFreed (s : State) (c : Ctr) : KeepsFreed s (s.bump c) := s.bumpBy_keepsFreed c 1

theorem State.rejectReq_keepsFreed (s : State) (id kind agent inst : Nat) :
    KeepsFreed s (s.rejectReq id kind agent inst) := by
  unfold State.rejectReq
  exact .ite (fun _ => .of_alike (by simp) (by simp)) fun _ => .of_alike (by simp) (by simp)

theorem State.freeBuf_keepsFreed (s : State) (id agent inst : Nat) : KeepsFreed s (s.freeBuf id agent inst) := by
  unfold State.freeBuf
  refine .ite (fun _ => ?_) fun _ => s.rejectReq_keepsFreed ..
  dsimp only
  split
  · exact (State.setOwner_free_keepsFreed _ id).after rfl rfl
  · exact (State.setOwner_free_keepsFreed _ id).after rfl rfl

theorem State.finishDest_keepsFreed (s : State) (id agent inst : Nat) : KeepsFreed s (s.finishDest id agent inst) := by
  unfold State.finishDest
  dsimp only
  split
  · split
    · exact (State.freeBuf_keepsFreed ..).after rfl rfl
    · exact .of_alike rfl rfl
  · exact (State.freeBuf_keepsFreed ..).after rfl rfl

theorem State.noNode_keepsFreed (s : State) (node1 sel : Nat) (f : Frame) : KeepsFreed s (s.noNode node1 sel f) := by
  unfold State.noNode
  extract_lets u x v
  have hv : KeepsFreed u v := .ite (fun _ => .refl u) fun _ => .of_alike (by simp [x]) (by simp)
  exact ((s.bump_keepsFreed _).trans hv).trans (v.finishDest_keepsFreed ..)

theorem State.placeMoved_keepsFreed (s : State) (g dst oldQ : Nat) (x : QFrame) :
    KeepsFreed s (s.placeMoved g dst oldQ x) := by
  unfold State.placeMoved
  extract_lets u n1 v
  have hv : KeepsFreed s v := .of_alike rfl rfl
  split
  · have hdrop : KeepsFreed (v.bump (C.BOND_MOVE_DROP g)) ((v.bump (C.BOND_MOVE_DROP g)).queueDrop oldQ) := .of_alike rfl rfl
    exact ((hv.trans (v.bump_keepsFreed _)).trans hdrop).trans (State.finishDest_keepsFreed ..)
  · split
    · exact hv.trans (v.noNode_keepsFreed ..)
    · exact .of_alike rfl rfl

theorem State.moveFrames_keepsFreed (s : State) (g k dst : Nat) (l : List Nat) : KeepsFreed s (s.moveFrames g k dst l) := by
  induction l generalizing s with
  | nil => exact .refl s
  | cons q l ih =>
    rw [State.moveFrames]
    refine KeepsFreed.trans ?_ (ih _)
    refine .ite (fun _ => .refl s) fun _ => ?_
    exact (KeepsFreed.foldl (fun u x => u.placeMoved_keepsFreed g dst q x) _ _).after rfl rfl

theorem State.moveInactive_keepsFreed (s : State) (g : Nat) : KeepsFreed s (s.moveInactive g) := by
  refine KeepsFreed.foldl (fun u k => ?_) _ s
  dsimp only
  split
  · exact .refl u
  · split
    · unfold State.moveBucket
      exact .ite (fun _ => .refl u) fun _ => (State.moveFrames_keepsFreed ..).after rfl rfl
    · exact .refl u

theorem State.releaseRun_keepsFreed (s : State) (g : Nat) (l : List HeldSdu) : KeepsFreed s (s.releaseRun g l) := by
  induction l generalizing s with
  | nil => exact .of_alike rfl rfl
  | cons x l ih =>
    rw [State.releaseRun]
    exact .ite (fun _ => (ih _).after rfl rfl) fun _ => .of_alike rfl rfl

theorem State.skipOldest_keepsFreed (s : State) (g : Nat) : KeepsFreed s (s.skipOldest g).1 := by
  have hto : ∀ x, KeepsFreed s (s.skipTo g x).1 := fun x => by
    unfold State.skipTo
    extract_lets b d pass keep u v
    have hv : KeepsFreed u v := .foldl (fun w h => .of_touches (w.toClassifier_touches _) (by simp) (by simp)) _ u
    have hu : KeepsFreed s u := .of_alike rfl rfl
    exact (hu.trans hv).trans (v.bumpBy_keepsFreed (C.BOND_LOST g) (d - pass.length))
  unfold State.skipOldest
  split
  · exact .refl s
  · exact (hto _).trans (State.releaseRun_keepsFreed ..)

theorem State.earlyRelease_keepsFreed (s : State) (g n : Nat) : KeepsFreed s (s.earlyRelease g n) := by
  induction n generalizing s with
  | zero => exact .refl s
  | succ n ih =>
    rw [State.earlyRelease]
    dsimp only
    split_ifs
    · exact .refl s
    · exact (s.releaseRun_keepsFreed g _).trans (ih _)
    · exact ((s.skipOldest_keepsFreed g).trans (.of_alike (by simp) (by simp))).trans (ih _)
    · exact (s.skipOldest_keepsFreed g).trans (ih _)
    · exact .refl s

theorem State.tellMembers_keepsFreed (s : State) (g : Nat) (old new : List Nat) (n : Nat) :
    KeepsFreed s (s.tellMembers g old new n) := by
  induction n with
  | zero => exact .refl s
  | succ n ih =>
    rw [State.tellMembers]
    exact .ite (fun _ => ih) fun _ => ih.trans (.of_alike (by simp) (by simp))

theorem State.sendStatus_keepsFreed (s : State) (g : Nat) : KeepsFreed s (s.sendStatus g) := by
  unfold State.sendStatus
  exact .ite (fun _ => s.bump_keepsFreed _) fun _ => .foldl (fun u n => .of_touches (u.setCh_touches n _) (by simp) (by simp)) _ s

theorem State.reeval_keepsFreed (s : State) (n : Nat) : KeepsFreed s (s.reeval n) := by
  unfold State.reeval
  split
  next g _ =>
    unfold State.reevalGroup
    extract_lets b us ds st u v w x y
    refine .ite (fun _ => ?_) fun _ => .refl s
    have hu : KeepsFreed s u := .of_alike rfl rfl
    have hv : KeepsFreed s v := .ite (fun _ => hu) fun _ => hu.trans (u.moveInactive_keepsFreed g)
    have hw : KeepsFreed s w := .ite (fun _ => hv) fun _ => hv.trans (v.earlyRelease_keepsFreed g _)
    refine .ite (fun _ => hw) fun _ => ?_
    exact (hw.trans (w.tellMembers_keepsFreed ..)).trans ((State.sendStatus_keepsFreed ..).after rfl rfl)
  next => exact .refl s

theorem State.rxPowerUp_keepsFreed (s : State) (n : Nat) : KeepsFreed s (s.rxPowerUp n) := by
  unfold State.rxPowerUp
  exact .ite (fun _ => (State.reeval_keepsFreed ..).after rfl rfl) fun _ => .refl s

theorem State.wake_keepsFreed (s : State) (n cause : Nat) : KeepsFreed s (s.wake n cause) := by
  rw [State.wake_eq]
  refine .ite (fun _ => .refl s) fun _ => ?_
  have htx : KeepsFreed s ((s.setLull n .awake cause).wakeTx n) :=
    .of_touches ((s.setLull_touches n .awake cause).part (State.setCh_touches ..) (by simp)) (by simp) (by simp)
  have hlane := State.laneEval_touches ((((s.setLull n .awake cause).wakeTx n).rxPowerUp n).reeval n) (Nat.le_add_right 40 n)
  exact ((htx.trans (State.rxPowerUp_keepsFreed ..)).trans (State.reeval_keepsFreed ..)).trans
    (.of_touches hlane (by simp) (by simp))

end Sys2Proof.Machine
end
section
/-! SUPPORT. HQ_FRAME_COMMIT up to the frame's destinations (R133, R386, R427). -/

namespace Sys2Proof.Machine

variable {s t u : State} {q : Fin 64} {raw : Nat} {f : Frame}

/-! The commit. -/

/-- The frame is whole: HEAD has moved on, the frame is stored and counted. -/
def State.storedHq (s : State) (q : Nat) (f : Frame) : State :=
  ((s.setHq q { s.hq q with head := ((s.hq q).head + 1) % 65536, cur := none }).storeFrame f.buf f.bytes.length).bump
    (C.HQ_PKTS q)

/-- HEAD is written back and the notice goes out (R427). -/
def State.committedHq (s : State) (q : Nat) (f : Frame) : State :=
  let u := s.storedHq q f
  let wb := (u.rd (R.HOST_HQ_WB_HI q)).toNat * 2 ^ 32 + (u.rd (R.HOST_HQ_WB_LO q)).toNat
  let v := u.emit (.hostWrite (s.hqFunc q) wb (leBytes 2 (((s.hq q).head + 1) % 65536)))
  if v.flag (F.HOST_HQ_CFG_NOTICE q) then v.emit (.msix (s.hqFunc q) (v.fld (F.HOST_HQ_CFG_VECTOR q))) else v

/-- What the commit of a frame touches. -/
@[simp] def commitReach (q : Nat) : Reach := ⟨[.chan, .mem, .regs, .cnt, .out], [(fun _ => R.MEM_INJ, 0)], [C.HQ_PKTS q]⟩

theorem State.storedHq_touches (s : State) (q : Nat) (f : Frame) :
    Touches ⟨[.chan, .mem, .regs, .cnt], [(fun _ => R.MEM_INJ, 0)], [C.HQ_PKTS q]⟩ s (s.storedHq q f) := by
  have hset := s.setHq_touches q { s.hq q with head := ((s.hq q).head + 1) % 65536, cur := none }
  exact (((Touches.refl _ s).part hset (by simp)).next (State.storeFrame_touches ..) ⟨by simp, by simp, by simp⟩).bumpWide
    (c := C.HQ_PKTS q) rfl (by simp) (by simp)

theorem State.hq_storedHq (s : State) (q : Nat) (f : Frame) (k : Nat) : (s.storedHq q f).hq k =
    if k = q then { s.hq q with head := ((s.hq q).head + 1) % 65536, cur := none } else s.hq k := by
  have hstore := (s.setHq q { s.hq q with head := ((s.hq q).head + 1) % 65536, cur := none }).storeFrame_touches f.buf
    f.bytes.length
  have hbump := State.bumpBy_touches_of_wide ((s.setHq q { s.hq q with
    head := ((s.hq q).head + 1) % 65536, cur := none }).storeFrame f.buf f.bytes.length) (c := C.HQ_PKTS q) 1 rfl
  exact ((hstore.and hbump).hq (by simp) k).trans (s.hq_setHq ..)

theorem State.count_storedHq (s : State) (q : Nat) (f : Frame) :
    (s.storedHq q f).count (C.HQ_PKTS q) = (s.count (C.HQ_PKTS q) + 1) % 2 ^ 64 := by
  have hset := s.setHq_touches q { s.hq q with head := ((s.hq q).head + 1) % 65536, cur := none }
  have hstore := (s.setHq q { s.hq q with head := ((s.hq q).head + 1) % 65536, cur := none }).storeFrame_touches f.buf
    f.bytes.length
  refine (State.count_bumpBy_of_wide _ 1 rfl).trans ?_
  rw [hstore.ctrs _ (by simp), hset.ctrs _ (by simp)]

/-- What a queue, the host and the counter see of a commit. -/
structure Committed (q : Nat) (s t : State) : Prop where
  touches : Touches (commitReach q) s t
  hq : ∀ k, t.hq k = if k = q then { s.hq q with head := ((s.hq q).head + 1) % 65536, cur := none } else s.hq k
  count : t.count (C.HQ_PKTS q) = (s.count (C.HQ_PKTS q) + 1) % 2 ^ 64
  head : .hostWrite (s.hqFunc q) (s.addr64 (R.HOST_HQ_WB_LO q) (R.HOST_HQ_WB_HI q))
    (leBytes 2 (((s.hq q).head + 1) % 65536)) ∈ t.out
  notice : s.flag (F.HOST_HQ_CFG_NOTICE q) = true → .msix (s.hqFunc q) (s.fld (F.HOST_HQ_CFG_VECTOR q)) ∈ t.out

theorem State.storeFrame_parity (s : State) (id len : Nat) : (s.storeFrame id len).mem.parity = s.mem.parity := by
  unfold State.storeFrame
  extract_lets w k errs m u
  refine (apply_ite (fun v : State => v.mem.parity) ..).trans ?_
  split
  · rfl
  · have hinj : (u.inject 2 0).1.mem = u.mem := (u.inject_touches 2 0).parts .mem (by simp)
    generalize u.inject 2 0 = r at hinj ⊢
    obtain ⟨v, e⟩ := r
    show v.mem.parity = u.mem.parity
    rw [show v.mem = u.mem from hinj]

/-- MEM_INJ is none of the queues' registers. -/
theorem memInj_ne {o : Nat} (h : 0x03e01000 ≤ o) : R.MEM_INJ ≠ o := fun heq => absurd (heq ▸ h) (by decide)

theorem hqWbHi_le (q : Nat) : 0x03e01000 ≤ R.HOST_HQ_WB_HI q := Nat.le_add_right_of_le (by decide)
theorem hqWbLo_le (q : Nat) : 0x03e01000 ≤ R.HOST_HQ_WB_LO q := Nat.le_add_right_of_le (by decide)

theorem State.committedHq_spec (s : State) (q : Nat) (f : Frame) : Committed q s (s.committedHq q f) := by
  have hstore := s.storedHq_touches q f
  unfold State.committedHq
  extract_lets u wb v
  have hv : Touches ⟨[.out], [], []⟩ u v := u.emit_touches _
  have hall := hstore.and hv
  have hwb : wb = s.addr64 (R.HOST_HQ_WB_LO q) (R.HOST_HQ_WB_HI q) := by
    simp only [wb, u, State.addr64]
    rw [hstore.regs _ (by simpa using memInj_ne (hqWbHi_le q)), hstore.regs _ (by simpa using memInj_ne (hqWbLo_le q))]
  have hcfg : ∀ r ∈ (commitReach q).regs, r.1 r.2 ≠ R.HOST_HQ_CFG q := by simpa using memInj_ne (Nat.le_add_right ..)
  have hflag : v.flag (F.HOST_HQ_CFG_NOTICE q) = s.flag (F.HOST_HQ_CFG_NOTICE q) := hall.flag _ hcfg
  have hvector : v.fld (F.HOST_HQ_CFG_VECTOR q) = s.fld (F.HOST_HQ_CFG_VECTOR q) := hall.fld _ hcfg
  have hlast : Touches ⟨[.out], [], []⟩ u (if v.flag (F.HOST_HQ_CFG_NOTICE q) = true
      then v.emit (.msix (s.hqFunc q) (v.fld (F.HOST_HQ_CFG_VECTOR q))) else v) :=
    .ite (fun _ => hv.trans (v.emit_touches _)) (fun _ => hv)
  refine ⟨(hstore.and hlast).mono ⟨by simp, by simp, by simp⟩, fun k => ?_, ?_, ?_, fun hn => ?_⟩
  · rw [hlast.hq (by simp), State.hq_storedHq]
  · rw [hlast.ctrs _ (by simp), State.count_storedHq]
  · rw [← hwb]
    split
    · exact List.mem_cons_of_mem _ (List.mem_cons_self ..)
    · exact List.mem_cons_self ..
  · rw [hflag, hn, if_pos rfl, hvector]
    exact List.mem_cons_self ..

theorem State.committedHq_sameTable (s : State) (q : Nat) (f : Frame) : SameTable s (s.committedHq q f) := by
  have hfwd : (s.committedHq q f).fwd = s.fwd := (s.committedHq_spec q f).touches.parts .fwd (by simp)
  refine ⟨?_, by rw [hfwd], by rw [hfwd], by rw [hfwd]⟩
  have hstored : (s.storedHq q f).mem.parity = s.mem.parity := by
    rw [State.storedHq, State.bump_mem, State.storeFrame_parity]
    rfl
  unfold State.committedHq
  dsimp only
  split <;> exact hstored

/-! The frame goes on. -/

/-- A frame too short for the TIME field it carries (R466). -/
def Frame.untimely (f : Frame) : Bool := f.time != 0 && decide (f.bytes.length < bitsOf f.time 55 48 + 44)

/-- The frame without a TIME field that does not apply. -/
def Frame.timely (f : Frame) : Frame := if f.untimely then { f with time := 0 } else f

/-- The frame of queue q, which stands as h, goes to its destinations. -/
def State.forwardHq (s : State) (q raw : Nat) (h : HQueue) (f : Frame) : State :=
  let u := (if f.untimely then s.bump C.TIME_TIME_IGNORED else s)
  let v := u.hqLooked h f.timely
  let as := ((u.hqDests h f.timely).map (v.arrivalFor f.timely)).eraseDups
  if as.isEmpty then (v.bump C.FWD_FILTERED).freeBuf f.timely.buf agH2d q
  else as.foldl (fun s a => s.hqDest raw q a) (v.toQm q f.timely.buf as.length)

theorem exec_hqFrameCommit_none (h : (s.hq q.val).cur = none) : exec (.hqFrameCommit q raw) s = .next s := by
  rw [exec_hqFrameCommit]
  unfold execHqFrameCommit
  dsimp only
  rw [h]

/-- The message of an OMCC queue goes upstream (R133). -/
def State.omciSent (s : State) (q n : Nat) (f : Frame) : State :=
  let k := s.chKey n 1
  ((k.1.setCh n { k.1.ch n with omciUp := (k.1.ch n).omciUp ++ [omciWithMic k.2 f.bytes] }).freeBuf f.buf agH2d q).wake n 2

theorem State.omccOf_committedHq (s : State) (q : Nat) (f : Frame) : (s.committedHq q f).omccOf q = s.omccOf q := by
  simp only [State.omccOf, (s.committedHq_spec q f).touches.ch (by simp)]

theorem exec_hqFrameCommit_omcc {n : Nat} (h : (s.hq q.val).cur = some f) (ho : s.omccOf q.val = some n) :
    exec (.hqFrameCommit q raw) s = .next ((s.committedHq q.val f).omciSent q.val n f) := by
  rw [← s.omccOf_committedHq q.val f] at ho
  rw [exec_hqFrameCommit]
  unfold execHqFrameCommit
  dsimp only
  rw [h]
  dsimp only
  split
  · next k heq =>
    obtain rfl := Option.some.inj (heq.symm.trans ho)
    rfl
  · next heq => exact absurd (heq.symm.trans ho) (by simp)

theorem exec_hqFrameCommit_plain (h : (s.hq q.val).cur = some f) (ho : s.omccOf q.val = none) :
    exec (.hqFrameCommit q raw) s = .next ((s.committedHq q.val f).forwardHq q.val raw (s.hq q.val) f) := by
  rw [← s.omccOf_committedHq q.val f] at ho
  rw [exec_hqFrameCommit]
  unfold execHqFrameCommit
  dsimp only
  rw [h]
  dsimp only
  split
  · next heq => exact absurd (heq.symm.trans ho) (by simp)
  · rw [State.hqLookup_eq]
    unfold State.forwardHq
    exact (apply_ite Host.Outcome.next ..).symm

end Sys2Proof.Machine
end
section
/-! SUPPORT. What HQ_FRAME_COMMIT keeps, and a frame's way to its destinations (R133, R386, R427, R466 to R469). -/

namespace Sys2Proof.Machine

variable {s t u : State} {q : Fin 64} {raw n : Nat} {f : Frame} {as : List Arrival}

/-! An upstream OMCI message. -/

/-- What a message for the OMCC touches. -/
@[simp] def omciReach : Reach := (keyReach.and freeReach).and wakeReach

theorem State.omciSent_cases (s : State) (q n : Nat) (f : Frame) : ∃ u,
    Touches ((keyReach.and ⟨[.pon], [], []⟩).and freeReach) s u ∧ Touches wakeReach u (s.omciSent q n f) ∧
      s.omciSent q n f = u.wake n 2 ∧
      (u.ch n).omciUp = (s.ch n).omciUp ++ [omciWithMic (s.chKey n 1).2 f.bytes] ∧
      u.sched = s.sched ∧ (s.owner f.buf = agH2d → u.owner f.buf = 0) := by
  have hkey := s.chKey_touches n 1
  unfold State.omciSent
  extract_lets k
  have hset := k.1.setCh_touches n { k.1.ch n with omciUp := (k.1.ch n).omciUp ++ [omciWithMic k.2 f.bytes] }
  have hfree := (k.1.setCh n { k.1.ch n with
    omciUp := (k.1.ch n).omciUp ++ [omciWithMic k.2 f.bytes] }).freeBuf_touches f.buf agH2d q
  refine ⟨_, (hkey.and hset).and hfree, State.wake_touches .., rfl, ?_, ((hkey.and hset).and hfree).parts .sched (by simp),
    fun ho => ?_⟩
  · rw [hfree.ch (by simp), State.ch_setCh, if_pos rfl]
    exact congrArg (fun c : PonCh => c.omciUp ++ [omciWithMic k.2 f.bytes]) (hkey.ch (by simp) n)
  · exact (State.freeBuf_of_owner q (((hkey.and hset).owner (by simp) f.buf).trans ho) (by decide)).2

theorem State.omciSent_touches (s : State) (q n : Nat) (f : Frame) : Touches omciReach s (s.omciSent q n f) := by
  obtain ⟨u, hu, hwake, -⟩ := s.omciSent_cases q n f
  exact (hu.and hwake).mono ⟨by simp, by simp, by simp⟩

/-! The frame's way. -/

/-- The state once the TIME field of a frame has been looked at. -/
def State.timedHq (s : State) (f : Frame) : State := if f.untimely then s.bump C.TIME_TIME_IGNORED else s

/-- The state in which a frame's destinations stand. -/
def State.readyHq (s : State) (q : Nat) (f : Frame) : State :=
  ((s.committedHq q f).timedHq f).hqLooked (s.hq q) f.timely

/-- What a frame touches before it goes to its destinations. -/
@[simp] def readyReach : Reach :=
  lookupReach.and ⟨[.regs, .cnt, .arb], [(fun _ => R.TIME_SAT, 0)], [C.TIME_TIME_IGNORED]⟩

theorem State.readyHq_touches (s : State) (q : Nat) (f : Frame) : Touches readyReach (s.committedHq q f) (s.readyHq q f) := by
  have htimed : Touches readyReach (s.committedHq q f) ((s.committedHq q f).timedHq f) :=
    .ite (fun _ => (Touches.refl _ _).bump C.TIME_TIME_IGNORED (fun _ => R.TIME_SAT, 0) rfl (by simp) (by simp) (by simp))
      (fun _ => .refl _ _)
  exact htimed.next (State.hqLooked_touches ..) (Reach.within_and_left ..)

theorem Frame.buf_timely (f : Frame) : f.timely.buf = f.buf := by
  unfold Frame.timely
  split <;> rfl

/-- The destinations of a committed frame. -/
def State.hqArrivals (s : State) (q : Nat) (f : Frame) : List Arrival :=
  ((s.hqDests (s.hq q) f.timely).map (s.arrivalFor f.timely)).eraseDups

/-- A frame goes to its destinations, or is filtered where it has none (R386). -/
def State.spreadHq (s : State) (q raw : Nat) (f : Frame) (as : List Arrival) : State :=
  if as.isEmpty then (s.bump C.FWD_FILTERED).freeBuf f.buf agH2d q
  else as.foldl (fun s a => s.hqDest raw q a) (s.toQm q f.buf as.length)

theorem State.forwardHq_committed (s : State) (q raw : Nat) (f : Frame) :
    (s.committedHq q f).forwardHq q raw (s.hq q) f = (s.readyHq q f).spreadHq q raw f (s.hqArrivals q f) := by
  have hsame : SameTable (s.committedHq q f) ((s.committedHq q f).timedHq f) := by
    unfold State.timedHq
    split
    · exact .of_parts (State.bump_mem ..) (State.bump_fwd ..)
    · exact .refl _
  have hbonding : (s.readyHq q f).bonding = s.bonding :=
    ((s.committedHq_spec q f).touches.and (s.readyHq_touches q f)).bonding (by simp)
  have has : ((((s.committedHq q f).timedHq f).hqDests (s.hq q) f.timely).map ((s.readyHq q f).arrivalFor f.timely)).eraseDups =
      s.hqArrivals q f := by
    rw [((s.committedHq_sameTable q f).trans hsame).hqDests, funext (State.arrivalFor_congr hbonding f.timely)]
    rfl
  unfold State.spreadHq
  rw [← has, ← f.buf_timely]
  rfl

/-- What the way of a frame to its destinations touches. -/
@[simp] def spreadReach : Reach :=
  destReach.and ⟨[.regs, .cnt, .arb], [(fun _ => R.FWD_SAT, 0)], [C.FWD_FILTERED]⟩

theorem State.spreadHq_touches (s : State) (q raw : Nat) (f : Frame) (as : List Arrival) :
    Touches spreadReach s (s.spreadHq q raw f as) := by
  have hdest : destReach.Within spreadReach := Reach.within_and_left ..
  refine .ite (fun _ => ?_) fun _ => ?_
  · exact ((Touches.refl _ s).bump C.FWD_FILTERED (fun _ => R.FWD_SAT, 0) rfl (by simp) (by simp) (by simp)).next
      (State.freeBuf_touches ..) (freeReach_within_destReach.trans hdest)
  · exact ((s.toQm_touches ..).mono (freeReach_within_destReach.trans hdest)).next
      (Touches.foldl (fun u a => u.hqDest_touches raw q a) _ _) hdest

theorem exec_hqFrameCommit_spread (hcur : (s.hq q.val).cur = some f) (homcc : s.omccOf q.val = none) :
    exec (.hqFrameCommit q raw) s = .next ((s.readyHq q.val f).spreadHq q.val raw f (s.hqArrivals q.val f)) := by
  rw [exec_hqFrameCommit_plain hcur homcc, State.forwardHq_committed]

/-! What every commit keeps. -/

/-- The parts and registers that the commit of a frame may change. -/
def CommitFrame (s t : State) : Prop :=
  RegsKeptIn [R.BOND_SAT, fun _ => R.BUF_SAT, R.ETH_SAT, fun _ => R.FWD_SAT, fun _ => R.MEM_DDR_SAT,
    fun _ => R.MEM_INJ, fun _ => R.MEM_SAT, R.MEM_UE_LOG_B, R.PON_STAT_SAT, fun _ => R.SCH_SAT, R.SVL_SAT,
    fun _ => R.TIME_SAT] s t ∧
  OnlyChanges [.out, .freeCtr, .regs, .cnt, .arb, .fns, .pon, .bonding, .buf, .chan, .sched, .time, .clsIn,
    .fwd, .svl, .mac, .lanes, .mem, .ciph] s t

/-- What a queue and the host see of any commit. -/
structure HqCommits (q : Nat) (f : Frame) (s t : State) : Prop where
  frame : CommitFrame s t
  hq : ∀ k, t.hq k = if k = q then { s.hq q with head := ((s.hq q).head + 1) % 65536, cur := none } else s.hq k
  out : t.out = (s.committedHq q f).out

theorem HqCommits.of_touches {F : Reach} {q : Nat} (h : Touches F (s.committedHq q f) t)
    (hframe : CommitFrame s t) (hchan : .chan ∉ F.parts) (hout : .out ∉ F.parts) : HqCommits q f s t :=
  ⟨hframe, fun k => (h.hq hchan k).trans ((s.committedHq_spec q f).hq k), h.out hout⟩

theorem State.spread_commits (s : State) (q raw : Nat) (f : Frame) (as : List Arrival) :
    HqCommits q f s ((s.readyHq q f).spreadHq q raw f as) := by
  have h := (s.readyHq_touches q f).and ((s.readyHq q f).spreadHq_touches q raw f as)
  have hall := (s.committedHq_spec q f).touches.and h
  exact .of_touches h ⟨hall.regsKeptIn (by simp [or_imp, forall_and]), hall.onlyChanges (by simp)⟩ (by simp) (by simp)

theorem State.omci_commits (s : State) (q n : Nat) (f : Frame) : HqCommits q f s ((s.committedHq q f).omciSent q n f) := by
  have h := (s.committedHq q f).omciSent_touches q n f
  have hall := (s.committedHq_spec q f).touches.and h
  exact .of_touches h ⟨hall.regsKeptIn (by simp [or_imp, forall_and]), hall.onlyChanges (by simp)⟩ (by simp) (by simp)

theorem hqFrameCommit_commits (hcur : (s.hq q.val).cur = some f) :
    Completes (.hqFrameCommit q raw) s (HqCommits q.val f s) := by
  cases homcc : s.omccOf q.val with
  | none => exact ⟨_, exec_hqFrameCommit_spread hcur homcc, s.spread_commits ..⟩
  | some n => exact ⟨_, exec_hqFrameCommit_omcc hcur homcc, s.omci_commits ..⟩

end Sys2Proof.Machine
end
section
/-! The clauses of HQ_FRAME_COMMIT (R133, R386, R427, R466 to R469), and O47. -/

namespace Sys2Proof.Machine

variable {s t u : State} {q : Fin 64} {raw n : Nat} {f : Frame} {as : List Arrival}

/-! The OMCC's queue. -/

/-- The key read depends on the key store alone. -/
theorem State.readKey_val_congr (h : t.ciph = s.ciph) (i : Nat) : (t.readKey i).2 = (s.readKey i).2 := by
  have hslot : t.slot i = s.slot i := by simp only [State.slot, h]
  have hword : t.keyWord i = s.keyWord i := by simp only [State.keyWord, h]
  unfold State.readKey
  rw [hslot, hword]
  dsimp only
  split
  · cases decodeWord (s.keyWord i) <;> rfl
  · rfl

theorem State.chKey_val (s : State) (n k : Nat) : (s.chKey n k).2 =
    ((s.readKey (8 * n + 4 + k)).2).getD (keyOf (Config.derivedKey k (s.ch n).msk)) := by
  have hmsk : ((s.readKey (8 * n + 4 + k)).1.ch n).msk = (s.ch n).msk := by
    rw [(s.readKey_touches _).ch (by simp)]
  unfold State.chKey
  generalize s.readKey (8 * n + 4 + k) = r at hmsk ⊢
  obtain ⟨u, _ | key⟩ := r
  · exact congrArg (fun m => keyOf (Config.derivedKey k m)) hmsk
  · rfl

theorem hqFrameCommit_omcc (hcur : (s.hq q.val).cur = some f) (homcc : s.omccOf q.val = some n)
    (howner : s.owner f.buf = agH2d) :
    Completes (.hqFrameCommit q raw) s fun t =>
      (t.hq q.val).cur = none ∧ (t.ch n).omciUp = (s.ch n).omciUp ++ [omciWithMic (s.chKey n 1).2 f.bytes] ∧
      t.owner f.buf = 0 ∧ t.sched.arrivals = s.sched.arrivals ∧ CommitFrame s t := by
  obtain ⟨hframe, hhq, -⟩ := s.omci_commits q.val n f
  have hcommit := (s.committedHq_spec q.val f).touches
  have hkey : ((s.committedHq q.val f).chKey n 1).2 = (s.chKey n 1).2 := by
    rw [State.chKey_val, State.chKey_val, State.readKey_val_congr (hcommit.ciph (by simp)), hcommit.ch (by simp)]
  obtain ⟨u, -, -, hwake, hup, hsched, hfree⟩ := (s.committedHq q.val f).omciSent_cases q.val n f
  have hkeeps := u.wake_keepsFreed n 2
  refine ⟨_, exec_hqFrameCommit_omcc hcur homcc, by rw [hhq, if_pos rfl], ?_, ?_, ?_, hframe⟩
  · rw [hwake, PonCh.congr_of_sansStatus (u.wake_changes n 2).self PonCh.omciUp fun _ => rfl,
      PonCh.woken_field _ _ PonCh.omciUp fun _ => rfl, hup, hkey, hcommit.ch (by simp)]
  · rw [hwake]
    exact hkeeps.freed _ (hfree ((hcommit.owner (by simp) _).trans howner))
  · rw [hwake, hkeeps.arrivals, hsched, hcommit.parts .sched (by simp)]

/-! TIME fields. -/

theorem Frame.untimely_of_untimed (h : f.time = 0) : f.untimely = false := by simp [Frame.untimely, h]

theorem Frame.untimely_of_long (h : bitsOf f.time 55 48 + 44 ≤ f.bytes.length) : f.untimely = false := by
  simp [Frame.untimely, h]

theorem Frame.untimely_of_short (ht : f.time ≠ 0) (h : ¬bitsOf f.time 55 48 + 44 ≤ f.bytes.length) : f.untimely = true := by
  simp [Frame.untimely, ht, Nat.not_le.mp h]

theorem Frame.timely_of_timely (h : f.untimely = false) : f.timely = f := if_neg (by simp [h])

theorem Frame.timely_of_untimely (h : f.untimely = true) : f.timely = { f with time := 0 } := if_pos h

/-! Frames with named destinations. -/

/-- A frame whose descriptor names one destination. -/
abbrev HqNames (q : Fin 64) (f : Frame) (s : State) : Prop :=
  (s.hq q.val).cur = some f ∧ s.omccOf q.val = none ∧ s.owner f.buf = agH2d ∧ (s.hq q.val).fwd = false ∧
    (s.hq q.val).dest < 128

theorem HqNames.arrivals (h : HqNames q f s) : s.hqArrivals q.val f = [s.arrivalFor f.timely (s.hq q.val).dest] := by
  obtain ⟨-, -, -, hfwd, hdest⟩ := h
  unfold State.hqArrivals State.hqDests
  rw [if_neg (by simp [hfwd]), s.expandDest_of_lt hdest]
  rfl

theorem HqNames.ready (h : HqNames q f s) : s.readyHq q.val f = (s.committedHq q.val f).timedHq f := by
  obtain ⟨-, -, -, hfwd, -⟩ := h
  exact if_neg (by simp [hfwd])

/-- The state in which the one destination takes its frame. -/
def State.handedHq (s : State) (q : Nat) (f : Frame) : State := ((s.committedHq q f).timedHq f).toQm q f.buf 1

theorem HqNames.exec (h : HqNames q f s) : exec (.hqFrameCommit q raw) s =
    .next ((s.handedHq q.val f).hqDest raw q.val (s.arrivalFor f.timely (s.hq q.val).dest)) := by
  rw [exec_hqFrameCommit_spread h.1 h.2.1, h.arrivals, h.ready]
  rfl

theorem HqNames.commits (h : HqNames q f s) (raw : Nat) : HqCommits q.val f s
    ((s.handedHq q.val f).hqDest raw q.val (s.arrivalFor f.timely (s.hq q.val).dest)) := by
  have hcommits := s.spread_commits q.val raw f (s.hqArrivals q.val f)
  rw [h.arrivals, h.ready] at hcommits
  exact hcommits

/-- The buffer is the queue manager's, for one destination. -/
theorem State.handedHq_buffer (howner : s.owner f.buf = agH2d) :
    Touches ⟨[.buf], [], []⟩ ((s.committedHq q.val f).timedHq f) (s.handedHq q.val f) ∧
      (s.handedHq q.val f).owner f.buf = agQm ∧ (s.handedHq q.val f).isMulti f.buf = false := by
  have htimed : Touches ⟨[.regs, .cnt, .arb], [(fun _ => R.TIME_SAT, 0)], [C.TIME_TIME_IGNORED]⟩ (s.committedHq q.val f)
      ((s.committedHq q.val f).timedHq f) :=
    .ite (fun _ => State.bumpBy_touches _ C.TIME_TIME_IGNORED 1 (fun _ => R.TIME_SAT, 0) rfl) (fun _ => .refl _ _)
  have ho : ((s.committedHq q.val f).timedHq f).owner f.buf = agH2d := by
    rw [htimed.owner (by simp), (s.committedHq_spec q.val f).touches.owner (by simp), howner]
  obtain ⟨hbuf, hqm, -, hone⟩ := State.toQm_of_owner (q := q.val) (n := 1) ho
  exact ⟨hbuf, hqm, hone⟩

/-- A frame whose TIME field stands: nothing but the buffer has changed since the commit. -/
theorem State.handedHq_of_timely (howner : s.owner f.buf = agH2d) (ht : f.untimely = false) :
    Touches ((commitReach q.val).and ⟨[.buf], [], []⟩) s (s.handedHq q.val f) := by
  have hbuf := (State.handedHq_buffer (q := q) howner).1
  rw [show (s.committedHq q.val f).timedHq f = s.committedHq q.val f from if_neg (by simp [ht])] at hbuf
  exact (s.committedHq_spec q.val f).touches.and hbuf

/-- A frame whose TIME field does not apply is counted (R466). -/
theorem State.handedHq_of_untimely (howner : s.owner f.buf = agH2d) (ht : f.untimely = true)
    (hlt : s.count C.TIME_TIME_IGNORED < 0xFFFFFFFE) :
    (s.handedHq q.val f).sched = s.sched ∧
      (s.handedHq q.val f).count C.TIME_TIME_IGNORED = s.count C.TIME_TIME_IGNORED + 1 := by
  have hcommit := (s.committedHq_spec q.val f).touches
  have hbuf := (State.handedHq_buffer (q := q) howner).1
  rw [show (s.committedHq q.val f).timedHq f = (s.committedHq q.val f).bump C.TIME_TIME_IGNORED from if_pos ht] at hbuf
  have hcount : (s.committedHq q.val f).count C.TIME_TIME_IGNORED = s.count C.TIME_TIME_IGNORED := hcommit.ctrs _ (by simp; omega)
  have hbump := State.bump_touches_of_lt (s.committedHq q.val f) (c := C.TIME_TIME_IGNORED) (hcount.symm ▸ hlt)
  refine ⟨((hcommit.and hbump).and hbuf).parts .sched (by simp), ?_⟩
  rw [hbuf.ctrs _ (by simp), State.count_bump_of_lt _ rfl (hcount.symm ▸ hlt), hcount]

/-- A frame without a TIME field for one MAC. -/
theorem hqFrameCommit_untimedMac (h : HqNames q f s) (hmac : (s.hq q.val).dest < 24) (ht : f.time = 0) :
    Completes (.hqFrameCommit q raw) s fun t =>
      t.hq q.val = { s.hq q.val with head := ((s.hq q.val).head + 1) % 65536, cur := none } ∧
      (∀ k < 64, k ≠ q.val → t.hq k = s.hq k) ∧
      t.sched.arrivals = s.sched.arrivals ++ [{ frame := f, node1 := (s.hq q.val).dest }] ∧ t.owner f.buf = agQm ∧
      t.count (C.HQ_PKTS q.val) = (s.count (C.HQ_PKTS q.val) + 1) % 2 ^ 64 ∧
      .hostWrite (s.hqFunc q.val) (s.addr64 (R.HOST_HQ_WB_LO q.val) (R.HOST_HQ_WB_HI q.val)) (leBytes 2 (((s.hq q.val).head +
        1) % 65536)) ∈ t.out ∧
      RegsKept [R.MEM_INJ] s t ∧ OnlyChanges [.cnt, .buf, .chan, .out, .sched, .mem, .regs] s t := by
  obtain ⟨-, -, howner, -, -⟩ := id h
  have htimely := f.untimely_of_untimed ht
  obtain ⟨hbuf, hqm, -⟩ := State.handedHq_buffer (q := q) howner
  have hhanded := State.handedHq_of_timely (q := q) howner htimely
  obtain ⟨-, hhq, hout⟩ := h.commits raw
  obtain ⟨-, -, hpkts, hhead, -⟩ := s.committedHq_spec q.val f
  have hexec := h.exec (raw := raw)
  rw [Frame.timely_of_timely htimely, s.arrivalFor_of_mac f hmac, State.hqDest_of_untimed ht] at hexec hhq hout
  have harrive := (s.handedHq q.val f).arrive_touches [{ frame := f, node1 := (s.hq q.val).dest }]
  have hall := hhanded.and harrive
  refine ⟨_, hexec, by rw [hhq, if_pos rfl], fun k _ hk => by rw [hhq, if_neg hk], ?_, (harrive.owner (by simp) _).trans hqm,
    ?_, hout ▸ hhead, fun o ho => hall.regs o (by simpa [eq_comm] using ho), hall.onlyChanges (by simp)⟩
  · exact congrArg (fun x : Sched => x.arrivals ++ [{ frame := f, node1 := (s.hq q.val).dest }]) (hhanded.parts .sched (by simp))
  · rw [harrive.ctrs _ (by simp), hbuf.ctrs _ (by simp), ← hpkts]
    rw [show (s.committedHq q.val f).timedHq f = s.committedHq q.val f from if_neg (by simp [htimely])]

/-- A frame for one MAC whose TIME field asks for no launch. -/
theorem hqFrameCommit_timedMac (h : HqNames q f s) (hmac : (s.hq q.val).dest < 24) (hl : bit f.time 63 = false)
    (hlong : bitsOf f.time 55 48 + 44 ≤ f.bytes.length) :
    Completes (.hqFrameCommit q raw) s fun t =>
      t.sched.arrivals = s.sched.arrivals ++ [{ frame := f, node1 := (s.hq q.val).dest }] ∧
      t.count C.TIME_TIME_IGNORED = s.count C.TIME_TIME_IGNORED ∧ CommitFrame s t := by
  obtain ⟨-, -, howner, -, -⟩ := id h
  have htimely := f.untimely_of_long hlong
  have hhanded := State.handedHq_of_timely (q := q) howner htimely
  obtain ⟨hframe, -, -⟩ := h.commits raw
  have hexec := h.exec (raw := raw)
  have hto : Arrival.toMac { frame := f, node1 := (s.hq q.val).dest } = true := by simp [Arrival.toMac, hmac]
  rw [Frame.timely_of_timely htimely, s.arrivalFor_of_mac f hmac, State.hqDest_of_mac hto hl] at hexec hframe
  have harrive := (s.handedHq q.val f).arrive_touches [{ frame := f, node1 := (s.hq q.val).dest }]
  refine ⟨_, hexec, ?_, (hhanded.and harrive).ctrs _ (by simp; omega), hframe⟩
  exact congrArg (fun x : Sched => x.arrivals ++ [{ frame := f, node1 := (s.hq q.val).dest }]) (hhanded.parts .sched (by simp))

/-- A frame too short for its TIME field goes to its destination without it. -/
theorem hqFrameCommit_short (h : HqNames q f s) (ht : f.time ≠ 0) (hshort : ¬bitsOf f.time 55 48 + 44 ≤ f.bytes.length)
    (hlt : s.count C.TIME_TIME_IGNORED < 0xFFFFFFFE) :
    Completes (.hqFrameCommit q raw) s fun t =>
      t.sched.arrivals = s.sched.arrivals ++ [s.arrivalFor { f with time := 0 } (s.hq q.val).dest] ∧
      t.count C.TIME_TIME_IGNORED = s.count C.TIME_TIME_IGNORED + 1 ∧ CommitFrame s t := by
  obtain ⟨-, -, howner, -, -⟩ := id h
  have huntimely := Frame.untimely_of_short ht hshort
  obtain ⟨hsched, hcount⟩ := State.handedHq_of_untimely (q := q) howner huntimely hlt
  obtain ⟨hframe, -, -⟩ := h.commits raw
  have hexec := h.exec (raw := raw)
  have hzero : (s.arrivalFor { f with time := 0 } (s.hq q.val).dest).frame.time = 0 := by rw [State.frame_arrivalFor]
  rw [Frame.timely_of_untimely huntimely, State.hqDest_of_untimed hzero] at hexec hframe
  have harrive := (s.handedHq q.val f).arrive_touches [s.arrivalFor { f with time := 0 } (s.hq q.val).dest]
  refine ⟨_, hexec, ?_, (harrive.ctrs _ (by simp)).trans hcount, hframe⟩
  exact congrArg (fun x : Sched => x.arrivals ++ [s.arrivalFor { f with time := 0 } (s.hq q.val).dest]) hsched

/-- A TIME field of a frame for another destination than a MAC does not apply. -/
theorem hqFrameCommit_otherTimed (h : HqNames q f s) (hother : 24 ≤ (s.hq q.val).dest) (ht : f.time ≠ 0)
    (hlong : bitsOf f.time 55 48 + 44 ≤ f.bytes.length) (hlt : s.count C.TIME_TIME_IGNORED < 0xFFFFFFFE) :
    Completes (.hqFrameCommit q raw) s fun t =>
      t.sched.arrivals = s.sched.arrivals ++ [s.arrivalFor { f with time := 0 } (s.hq q.val).dest] ∧
      t.count C.TIME_TIME_IGNORED = s.count C.TIME_TIME_IGNORED + 1 ∧ CommitFrame s t := by
  obtain ⟨-, -, howner, -, -⟩ := id h
  have htimely := f.untimely_of_long hlong
  have hhanded := State.handedHq_of_timely (q := q) howner htimely
  have hcount : (s.handedHq q.val f).count C.TIME_TIME_IGNORED = s.count C.TIME_TIME_IGNORED := hhanded.ctrs _ (by simp; omega)
  have hbump := (s.handedHq q.val f).bump_touches_of_lt (c := C.TIME_TIME_IGNORED) (hcount.symm ▸ hlt)
  obtain ⟨hframe, -, -⟩ := h.commits raw
  have hexec := h.exec (raw := raw)
  have hzero : { s.arrivalFor f (s.hq q.val).dest with frame := { (s.arrivalFor f (s.hq q.val).dest).frame with time := 0 } } =
      s.arrivalFor { f with time := 0 } (s.hq q.val).dest := by
    unfold State.arrivalFor
    split_ifs <;> rfl
  rw [Frame.timely_of_timely htimely, State.hqDest_of_ignored (s.toMac_arrivalFor f hother)
    (by rw [State.frame_arrivalFor]; exact ht), hzero] at hexec hframe
  have harrive := ((s.handedHq q.val f).bump C.TIME_TIME_IGNORED).arrive_touches [s.arrivalFor { f with time := 0 } (s.hq q.val).dest]
  refine ⟨_, hexec, ?_, ?_, hframe⟩
  · exact congrArg (fun x : Sched => x.arrivals ++ [s.arrivalFor { f with time := 0 } (s.hq q.val).dest])
      ((hhanded.and hbump).parts .sched (by simp))
  · rw [harrive.ctrs _ (by simp), State.count_bump_of_lt _ rfl (hcount.symm ▸ hlt), hcount]

/-! Launches. -/

/-- A frame for one MAC whose TIME field asks for a launch (R468). -/
abbrev Launches (q : Fin 64) (f : Frame) (s : State) : Prop :=
  (s.hq q.val).dest < 24 ∧ bit f.time 63 = true ∧ bitsOf f.time 55 48 + 44 ≤ f.bytes.length

theorem Launches.exec (hl : Launches q f s) (h : HqNames q f s) :
    exec (.hqFrameCommit q raw) s = .next ((s.handedHq q.val f).launchEnqueue (s.hq q.val).dest raw q.val f) ∧
      CommitFrame s ((s.handedHq q.val f).launchEnqueue (s.hq q.val).dest raw q.val f) := by
  obtain ⟨hmac, hbit, hlong⟩ := hl
  have hexec := h.exec (raw := raw)
  obtain ⟨hframe, -, -⟩ := h.commits raw
  have hto : Arrival.toMac { frame := f, node1 := (s.hq q.val).dest } = true := by simp [Arrival.toMac, hmac]
  rw [Frame.timely_of_timely (f.untimely_of_long hlong), s.arrivalFor_of_mac f hmac, State.hqDest_of_launch hto hbit] at hexec hframe
  exact ⟨hexec, hframe⟩

theorem hqFrameCommit_launched (h : HqNames q f s) (hl : Launches q f s) (hroom : (s.launchQ (s.hq q.val).dest).length < 128)
    {now : Nat} (hnow : now = s.time.at (max s.time.raw raw)) :
    Completes (.hqFrameCommit q raw) s fun t =>
      t.launchQ (s.hq q.val).dest = s.launchQ (s.hq q.val).dest ++ [f.launchAt now] ∧
      (∀ m < 24, m ≠ (s.hq q.val).dest → t.launchQ m = s.launchQ m) ∧ t.sched.arrivals = s.sched.arrivals ∧
      t.owner f.buf = agQm ∧ CommitFrame s t := by
  obtain ⟨hexec, hframe⟩ := hl.exec h (raw := raw)
  obtain ⟨-, -, howner, -, -⟩ := h
  obtain ⟨-, -, hlong⟩ := hl
  have hhanded := State.handedHq_of_timely (q := q) howner (f.untimely_of_long hlong)
  have htime : (s.handedHq q.val f).time = s.time := hhanded.parts .time (by simp)
  have hq : ∀ m, (s.handedHq q.val f).launchQ m = s.launchQ m := fun m => by simp only [State.launchQ, htime]
  obtain ⟨hreach, hlaunch, harrivals⟩ := State.launchEnqueue_of_room (s := s.handedHq q.val f) (raw := raw) (q := q.val) (f := f)
    (m := (s.hq q.val).dest) (by rwa [hq]) now (by rw [htime, hnow])
  refine ⟨_, hexec, ?_, fun m _ hm => ?_, ?_, ?_, hframe⟩
  · rw [hlaunch, if_pos rfl, hq]
  · rw [hlaunch, if_neg hm, hq]
  · rw [harrivals, hhanded.parts .sched (by simp)]
  · rw [hreach.owner (by simp)]
    exact (State.handedHq_buffer howner).2.1

theorem hqFrameCommit_launchFull (h : HqNames q f s) (hl : Launches q f s) (hfull : 128 ≤ (s.launchQ (s.hq q.val).dest).length)
    (hlt : s.count C.TIME_LAUNCH_FULL < 0xFFFFFFFE) :
    Completes (.hqFrameCommit q raw) s fun t =>
      t.time = s.time ∧ t.sched = s.sched ∧ t.owner f.buf = 0 ∧
      t.count C.TIME_LAUNCH_FULL = s.count C.TIME_LAUNCH_FULL + 1 ∧ CommitFrame s t := by
  obtain ⟨hexec, hframe⟩ := hl.exec h (raw := raw)
  obtain ⟨-, -, howner, -, -⟩ := h
  obtain ⟨-, -, hlong⟩ := hl
  have hhanded := State.handedHq_of_timely (q := q) howner (f.untimely_of_long hlong)
  have htime : (s.handedHq q.val f).time = s.time := hhanded.parts .time (by simp)
  have hcount : (s.handedHq q.val f).count C.TIME_LAUNCH_FULL = s.count C.TIME_LAUNCH_FULL := hhanded.ctrs _ (by simp; omega)
  obtain ⟨-, hqm, hone⟩ := State.handedHq_buffer (q := q) howner
  obtain ⟨hreach, hfree, hfullCount⟩ := State.launchEnqueue_of_full (s := s.handedHq q.val f) (raw := raw) (q := q.val)
    (m := (s.hq q.val).dest) (by simpa only [State.launchQ, htime] using hfull) hone hqm (hcount.symm ▸ hlt)
  have hall := hhanded.and hreach
  exact ⟨_, hexec, hall.parts .time (by simp), hall.parts .sched (by simp), hfree, by rw [hfullCount, hcount], hframe⟩

end Sys2Proof.Machine
end
section
/-! HQ_FRAME_COMMIT with any destinations (R386, R414), and O47. -/

namespace Sys2Proof.Machine

variable {s : State} {q : Fin 64} {raw : Nat} {f : Frame} {as : List Arrival}

/-- The destinations of a frame without a TIME field. -/
theorem State.hqArrivals_of_untimed (s : State) (q : Nat) (ht : f.time = 0) :
    s.hqArrivals q f = ((if (s.hq q).fwd then (s.destLookup f.fid (beAt f.bytes 0 6)).2
      else s.expandDest (s.hq q).dest).map (s.arrivalFor f)).eraseDups := by
  unfold State.hqArrivals State.hqDests
  rw [Frame.timely_of_timely (f.untimely_of_untimed ht), (s.destLookup_spec ..).2]

theorem State.time_of_mem_hqArrivals (ht : f.time = 0) {a : Arrival} (ha : a ∈ s.hqArrivals q.val f) : a.frame.time = 0 := by
  rw [s.hqArrivals_of_untimed q.val ht, List.mem_eraseDups, List.mem_map] at ha
  obtain ⟨d, -, rfl⟩ := ha
  rw [State.frame_arrivalFor, ht]

/-- Before a frame without a TIME field is spread, nothing but its lookup has happened since the commit. -/
theorem State.readyHq_of_untimed (s : State) (q : Nat) (ht : f.time = 0) :
    Touches ((commitReach q).and lookupReach) s (s.readyHq q f) := by
  have hlooked := ((s.committedHq q f).timedHq f).hqLooked_touches (s.hq q) f.timely
  have htimed : (s.committedHq q f).timedHq f = s.committedHq q f := if_neg (by simp [f.untimely_of_untimed ht])
  unfold State.readyHq
  rw [htimed] at hlooked ⊢
  exact (s.committedHq_spec q f).touches.and hlooked

theorem hqFrameCommit_spread (hcur : (s.hq q.val).cur = some f) (homcc : s.omccOf q.val = none)
    (howner : s.owner f.buf = agH2d) (has : as = s.hqArrivals q.val f) (ht : f.time = 0) (hne : as ≠ []) :
    Completes (.hqFrameCommit q raw) s fun t =>
      t.sched.arrivals = s.sched.arrivals ++ as ∧ t.owner f.buf = agQm ∧ t.destsOf f.buf = as.length ∧
      (t.hq q.val).cur = none ∧ CommitFrame s t := by
  obtain ⟨hframe, hhq, -⟩ := s.spread_commits q.val raw f (s.hqArrivals q.val f)
  have hready := s.readyHq_of_untimed q.val ht
  obtain ⟨hbuf, hqm, hdests, -⟩ := State.toQm_of_owner (q := q.val) (n := as.length)
    ((hready.owner (by simp) f.buf).trans howner)
  have hexec := exec_hqFrameCommit_spread (raw := raw) hcur homcc
  have hspread : (s.readyHq q.val f).spreadHq q.val raw f (s.hqArrivals q.val f) =
      ((s.readyHq q.val f).toQm q.val f.buf as.length).arrive as := by
    rw [← has, State.spreadHq, if_neg (by simpa using hne)]
    exact State.hqDests_of_untimed _ as fun a ha => State.time_of_mem_hqArrivals ht (has ▸ ha)
  rw [hspread] at hexec hframe hhq
  have harrive := ((s.readyHq q.val f).toQm q.val f.buf as.length).arrive_touches as
  refine ⟨_, hexec, ?_, (harrive.owner (by simp) _).trans hqm, (harrive.destsOf (by simp) _).trans hdests,
    by rw [hhq, if_pos rfl], hframe⟩
  exact congrArg (fun x : Sched => x.arrivals ++ as) ((hready.and hbuf).parts .sched (by simp))

theorem hqFrameCommit_filtered (hcur : (s.hq q.val).cur = some f) (homcc : s.omccOf q.val = none)
    (howner : s.owner f.buf = agH2d) (hnone : s.hqArrivals q.val f = []) (hlt : s.count C.FWD_FILTERED < 0xFFFFFFFE)
    (ht : f.time = 0) :
    Completes (.hqFrameCommit q raw) s fun t =>
      t.sched = s.sched ∧ t.owner f.buf = 0 ∧ t.count C.FWD_FILTERED = s.count C.FWD_FILTERED + 1 ∧
      (t.hq q.val).cur = none ∧ CommitFrame s t := by
  obtain ⟨hframe, hhq, -⟩ := s.spread_commits q.val raw f (s.hqArrivals q.val f)
  have hready := s.readyHq_of_untimed q.val ht
  have hcount : (s.readyHq q.val f).count C.FWD_FILTERED = s.count C.FWD_FILTERED := hready.ctrs _ (by simp; omega)
  have hbump := (s.readyHq q.val f).bump_touches_of_lt (c := C.FWD_FILTERED) (hcount.symm ▸ hlt)
  obtain ⟨hfree, hzero⟩ := State.freeBuf_of_owner (agent := agH2d) q.val
    (((hready.and hbump).owner (by simp) f.buf).trans howner) (by decide)
  have hexec := exec_hqFrameCommit_spread (raw := raw) hcur homcc
  rw [hnone] at hexec hframe hhq
  refine ⟨_, hexec, ((hready.and hbump).and hfree).parts .sched (by simp), hzero, ?_, by rw [hhq, if_pos rfl], hframe⟩
  exact (hfree.ctrs _ (by simp)).trans ((State.count_bump_of_lt _ rfl (hcount.symm ▸ hlt)).trans (by rw [hcount]))

theorem hqFrameCommit_notice (hcur : (s.hq q.val).cur = some f) (hnotice : s.flag (F.HOST_HQ_CFG_NOTICE q.val) = true) :
    Completes (.hqFrameCommit q raw) s fun t =>
      .msix (s.hqFunc q.val) (s.fld (F.HOST_HQ_CFG_VECTOR q.val)) ∈ t.out ∧ (t.hq q.val).cur = none ∧
      (t.hq q.val).head = ((s.hq q.val).head + 1) % 65536 ∧ (∀ k < 64, k ≠ q.val → t.hq k = s.hq k) ∧ CommitFrame s t := by
  obtain ⟨t, hexec, hframe, hhq, hout⟩ := hqFrameCommit_commits (raw := raw) hcur
  exact ⟨t, hexec, hout ▸ (s.committedHq_spec q.val f).notice hnotice, by rw [hhq, if_pos rfl], by rw [hhq, if_pos rfl],
    fun k _ hk => by rw [hhq, if_neg hk], hframe⟩

/-- Settles O47: each clause is what its row's branch touches. -/
theorem hostToDeviceQueuesTakeFrames : Obligations.HostToDeviceQueuesTakeFrames := by
  unfold Obligations.HostToDeviceQueuesTakeFrames
  refine ⟨fun s p h hlen => hostHq_set h hlen, fun s q f v => hqTailWrite_posted,
    fun s q desc bytes cause hen hpost hcur => hqDescriptor_bad ⟨hen, hpost, hcur⟩,
    fun s q desc bytes id hen hpost hcur => hqDescriptor_got ⟨hen, hpost, hcur⟩,
    fun s q desc bytes hen hpost hcur => hqDescriptor_refused ⟨hen, hpost, hcur⟩,
    fun s q raw f hcur homcc hfwd hmac ht howner => hqFrameCommit_untimedMac ⟨hcur, homcc, howner, hfwd, by omega⟩ hmac ht,
    fun s q raw f n => hqFrameCommit_omcc, fun s q raw => exec_hqFrameCommit_none, fun s q code => hostDmaError_idle,
    fun s p h hlen => hostHq_badParam h hlen, fun s p h hlen => hostHq_busy h hlen, fun s p h hlen => hostHq_badTarget h hlen,
    fun s q f v hfunc hring => (exec_hqTailWrite ..).trans ((if_pos hfunc).trans (if_pos hring)),
    fun s q f v hfunc => (exec_hqTailWrite ..).trans (if_neg hfunc), fun s q desc bytes => hqDescriptor_idle,
    fun s q code => hostDmaError_disabled, fun s q code f => hostDmaError_reading, fun s q raw f => hqFrameCommit_notice,
    fun s q raw f as hcur homcc howner has ht => ?_, fun s q raw f as hcur homcc howner has hnil hlt ht => ?_,
    fun s q raw f hcur homcc howner hfwd hmac => hqFrameCommit_timedMac ⟨hcur, homcc, howner, hfwd, by omega⟩ hmac,
    fun s q raw f hcur homcc howner hfwd hmac ht hshort hlt => ?_,
    fun s q raw f hcur homcc howner hfwd hother hdest ht hlt => ?_,
    fun s q raw f now sec ns hcur homcc howner hfwd hmac hbit hlong hroom hnow hsec hns => ?_,
    fun s q raw f hcur homcc howner hfwd hmac hbit hlong => ?_⟩
  · exact hqFrameCommit_spread hcur homcc howner (has.trans (s.hqArrivals_of_untimed q.val ht).symm) ht
  · exact hqFrameCommit_filtered hcur homcc howner ((s.hqArrivals_of_untimed q.val ht).trans (has.symm.trans hnil)) hlt ht
  · obtain ⟨t, hexec, harrivals, hrest⟩ := hqFrameCommit_short (raw := raw) ⟨hcur, homcc, howner, hfwd, by omega⟩ ht hshort hlt
    exact ⟨t, hexec, harrivals.trans (by rw [s.arrivalFor_of_mac _ hmac]), hrest⟩
  · by_cases hlong : bitsOf f.time 55 48 + 44 ≤ f.bytes.length
    · exact hqFrameCommit_otherTimed ⟨hcur, homcc, howner, hfwd, hdest⟩ hother ht hlong hlt
    · exact hqFrameCommit_short ⟨hcur, homcc, howner, hfwd, hdest⟩ ht hlong hlt
  · obtain ⟨t, hexec, hqueue, hrest⟩ :=
      hqFrameCommit_launched (raw := raw) ⟨hcur, homcc, howner, hfwd, by omega⟩ ⟨hmac, hbit, hlong⟩ hroom hnow
    exact ⟨t, hexec, hqueue.trans (by rw [hsec, hns, Frame.launchAt]), hrest⟩
  · exact hqFrameCommit_launchFull ⟨hcur, homcc, howner, hfwd, by omega⟩ ⟨hmac, hbit, hlong⟩

end Sys2Proof.Machine
end

section
/-! SUPPORT. What reads and writes of DDR4 touch (R505, R511 to R516, R519, R525). -/

namespace Sys2Proof.Machine

variable {s : State}

theorem findSym_lt {s0 s1 n k : Nat} (h : findSym s0 s1 n = some k) : k < n := by
  induction n with
  | zero => simp [findSym] at h
  | succ n ih =>
    rw [findSym] at h
    split at h
    · next hj => exact (ih (hj.trans h)).trans (Nat.lt_succ_self n)
    · split at h
      · exact (Option.some.inj h) ▸ Nat.lt_succ_self n
      · cases h

theorem decodeWord_corrected_lt {w c : Codeword} {k : Nat} (h : decodeWord w = .corrected k c) : k < 18 := by
  unfold decodeWord at h
  extract_lets s0 s1 at h
  split at h
  · cases h
  · split at h
    · cases h
    · split at h
      · next hk => exact (Found.corrected.inj h).1 ▸ findSym_lt hk
      · cases h

/-- What accesses to DDR4 touch: the counts of their findings, the log, and an armed injection. -/
@[simp] def ddrReach : Reach :=
  ⟨(foundReach 0).parts, (fun _ => R.MEM_INJ, 0) :: (fun _ => R.MEM_DDR_SAT, 0) :: (foundReach 0).regs,
    (foundReach 0).ctrs ++ (List.range 18).map fun k => C.MEM_DDR_SYM k⟩

theorem foundReach_within_ddrReach : (foundReach 0).Within ddrReach :=
  ⟨fun _ h => h, fun _ h => List.mem_cons_of_mem _ (List.mem_cons_of_mem _ h), fun _ h => List.mem_append_left _ h⟩

theorem State.foundCe_ddr_touches (s : State) {k : Nat} (hk : k < 18) : Touches ddrReach s (s.foundCe 0 k) := by
  have hsym : C.MEM_DDR_SYM k ∈ ddrReach.ctrs :=
    List.mem_append_right _ (List.mem_map.mpr ⟨k, List.mem_range.mpr hk, rfl⟩)
  unfold State.foundCe
  rw [if_pos rfl]
  exact ((Touches.refl ddrReach s).bump (C.MEM_CE 0) (fun _ => R.MEM_SAT, 0) rfl).bump _ (fun _ => R.MEM_DDR_SAT, 0) rfl
    (hctr := hsym)

theorem State.readDdr_touches (s : State) (i finder : Nat) : Touches ddrReach s (s.readDdr i finder).1 := by
  unfold State.readDdr
  cases h : decodeWord (s.ddrWord i) with
  | clean => exact .refl _ s
  | corrected k w => exact s.foundCe_ddr_touches (decodeWord_corrected_lt h)
  | bad => exact (s.foundUe_touches 0 i finder).mono foundReach_within_ddrReach

theorem State.readWords_touches (s : State) (i n : Nat) : Touches ddrReach s (s.readWords i n).1 := by
  induction n generalizing s i with
  | zero => exact .refl _ s
  | succ n ih =>
    have hread := s.readDdr_touches i 1
    rw [State.readWords]
    generalize s.readDdr i 1 = r at hread ⊢
    obtain ⟨u, _ | d⟩ := r
    · exact hread
    · have hrest := hread.trans (ih u (i + 1))
      dsimp only at hrest ⊢
      generalize u.readWords (i + 1) n = r at hrest ⊢
      obtain ⟨v, _ | bs⟩ := r
      · exact hrest
      · exact hrest

theorem State.ddrRead_touches (s : State) (addr n : Nat) : Touches ddrReach s (s.ddrRead addr n).1 := by
  have h := s.readWords_touches (addr / 32) (ceilDiv (addr % 32 + n) 32)
  unfold State.ddrRead
  dsimp only
  generalize s.readWords (addr / 32) (ceilDiv (addr % 32 + n) 32) = r at h ⊢
  obtain ⟨u, _ | bs⟩ := r
  · exact h
  · exact h

theorem State.setDdr_touches (s : State) (i : Nat) (w : Codeword) : Touches ⟨[.mem], [], []⟩ s (s.setDdr i w) :=
  s.setMem_touches _

theorem State.writeDdr_touches (s : State) (i : Nat) (w : Codeword) : Touches ddrReach s (s.writeDdr i w) := by
  have hset := (Touches.refl ddrReach s).part (s.setDdr_touches i w)
  unfold State.writeDdr
  split
  · exact (hset.next (State.setFld_touches _ F.MEM_INJ_GO 0 (fun _ => R.MEM_INJ, 0) rfl) ⟨by simp, by simp, by simp⟩).part
      (State.setDdr_touches ..)
  · exact hset

theorem State.ddrWriteF_touches (s : State) (fuel addr : Nat) (bs : List Byte) :
    Touches ddrReach s (s.ddrWriteF fuel addr bs).1 := by
  induction fuel generalizing s addr bs with
  | zero => exact .refl _ s
  | succ fuel ih =>
    unfold State.ddrWriteF
    split
    · exact .refl _ s
    · extract_lets i off part next
      split
      · exact (s.writeDdr_touches ..).trans (ih ..)
      · have hread := s.readDdr_touches i 2
        generalize s.readDdr i 2 = r at hread ⊢
        obtain ⟨u, _ | d⟩ := r
        · exact hread
        · exact (hread.trans (u.writeDdr_touches ..)).trans (ih ..)

theorem State.ddrWrite_touches (s : State) (addr : Nat) (bs : List Byte) : Touches ddrReach s (s.ddrWrite addr bs).1 :=
  s.ddrWriteF_touches ..

end Sys2Proof.Machine
end

section
/-! SUPPORT. CTX_LOAD and CTX_READ, whatever the entries (R571 to R573): where the halves come from, what becomes of them, and
how the command ends. -/

namespace Sys2Proof.Machine

variable {s : State}

/-! The halves. -/

theorem State.readHalves_touches (s : State) (base first n : Nat) :
    Touches ddrReach s (s.readHalves base first n).1 := by
  induction n with
  | zero => exact .refl _ s
  | succ n ih =>
    rw [State.readHalves]
    generalize s.readHalves base first n = r at ih ⊢
    obtain ⟨u, _ | hs⟩ := r
    · exact ih
    · have hread := ih.trans (u.ddrRead_touches (base + 128 * (first + n)) 64)
      dsimp only at hread ⊢
      generalize u.ddrRead (base + 128 * (first + n)) 64 = r at hread ⊢
      obtain ⟨v, _ | bs⟩ := r
      · exact hread
      · exact hread

theorem State.length_of_readHalves {base first n : Nat} {hs : List (List Byte)}
    (h : (s.readHalves base first n).2 = .ok hs) : hs.length = n := by
  induction n generalizing hs with
  | zero => cases h; rfl
  | succ n ih =>
    rw [State.readHalves] at h
    generalize s.readHalves base first n = r at h ih
    obtain ⟨u, _ | hs'⟩ := r
    · cases h
    · dsimp only at h
      generalize u.ddrRead (base + 128 * (first + n)) 64 = r at h
      obtain ⟨v, _ | bs⟩ := r
      · cases h
      · cases h
        rw [List.length_append, ih rfl, List.length_singleton]

theorem State.halves_eq_inl {base first n : Nat} {hs : List (List Byte)} (h : s.halves base first n = .inl hs) :
    (s.readHalves base first n).2 = .ok hs := by
  unfold State.halves at h
  split at h
  · next heq => rw [heq, Sum.inl.inj h]
  · cases h

theorem State.halves_eq_inr {base first n i : Nat} (h : s.halves base first n = .inr i) :
    (s.readHalves base first n).2 = .error i := by
  unfold State.halves at h
  split at h
  · cases h
  · next heq => rw [heq, Sum.inr.inj h]

theorem State.writeHalves_touches (s : State) (base i : Nat) (hs : List (List Byte)) :
    Touches ddrReach s (s.writeHalves base i hs) := by
  induction hs generalizing s i with
  | nil => exact .refl _ s
  | cons h hs ih => exact (s.ddrWrite_touches ..).trans (ih ..)

/-! The entries take their halves. -/

section
variable {load : Nat → List Byte → State → State}

theorem Touches.applyHalves {F : Reach} {entries : Nat} (hload : ∀ u i h, i < entries → Touches F u (load i h u))
    (s : State) {first : Nat} {hs : List (List Byte)} (hfits : first + hs.length ≤ entries) :
    Touches F s (applyHalves load first hs s) := by
  induction hs generalizing s first with
  | nil => exact .refl F s
  | cons h hs ih =>
    rw [List.length_cons] at hfits
    exact (hload s first h (by omega)).trans (ih _ (by omega))

/-- A load that sets what get reads of its own entry alone sets it of each entry from its half. -/
theorem applyHalves_sets {β : Type} {get : State → Nat → β} {f : List Byte → β → β}
    (hload : ∀ u i h j, get (load i h u) j = if j = i then f h (get u j) else get u j) (s : State) (first : Nat)
    (hs : List (List Byte)) :
    (∀ j, (j < first ∨ first + hs.length ≤ j) → get (applyHalves load first hs s) j = get s j) ∧
      ∀ k < hs.length, get (applyHalves load first hs s) (first + k) = f ((hs[k]?).getD []) (get s (first + k)) := by
  induction hs generalizing s first with
  | nil => exact ⟨fun _ _ => rfl, fun k hk => absurd hk (Nat.not_lt_zero k)⟩
  | cons h hs ih =>
    obtain ⟨hkept, hset⟩ := ih (load first h s) (first + 1)
    rw [applyHalves]
    refine ⟨fun j hj => ?_, fun k hk => ?_⟩
    · rw [List.length_cons] at hj
      rw [hkept j (by omega), hload, if_neg (by omega)]
    · cases k with
      | zero => 
        rw [hkept _ (.inl (by omega)), hload, if_pos (Nat.add_zero first)]
        rfl
      | succ k =>
        rw [show first + (k + 1) = first + 1 + k by omega, hset k (Nat.lt_of_succ_lt_succ hk), hload, if_neg (by omega)]
        rfl
end

/-! How the commands end. -/

/-- A taken packet that meets the checks of its opcode's LENGTH and TARGET ends as its command's own part says (R558). -/
theorem Taken.ends_of_checks {i : Instr} {op : Nat} {p : Pkt} {lenBad : Option Nat} {tgtOk : Bool}
    {body : Nat → State → BodyOut} {u : State} {r : CmdEnd} {P : State → Prop} (h : Taken op p s)
    (hexec : exec i s = runCmd op false lenBad tgtOk body p s) (hlen : lenBad = none) (htarget : tgtOk = true)
    (hbody : body s.cmdId (s.afterTake p) = .fin u r) (hP : P u) : Ends i op p s r P := by
  obtain ⟨hbegin, -, hmode, -⟩ := id h
  refine ⟨u, hexec.trans ?_, hP⟩
  have hcheck := checkPkt_of_taken h
  rw [hlen, htarget]
  exact runCmd_fin hbegin hmode hcheck hbody (.inl rfl)

/-- A taken CTX_LOAD with its LENGTH and TARGET right (R571). -/
structure CtxLoad (op : Nat) (p : Pkt) (s : State) : Prop where
  taken : Taken op p s
  target : p.target = 0
  len : ctxLoadLen p = none

/-- Word 1, the count and the indices of a CTX_LOAD are in range, where there are that many entries. -/
structure CtxLoad.InRange (entries : Nat) (p : Pkt) : Prop where
  word : p.w 1 ≤ 1
  pos : 0 < p.ctxCount
  few : p.ctxCount ≤ 16
  fits : p.ctxFirst + p.ctxCount ≤ entries

/-- The halves that a CTX_LOAD carries. -/
def Pkt.inlineHalves (p : Pkt) : List (List Byte) := (List.range p.ctxCount).map fun k => sliceB p.bytes (8 + 64 * k) 64

theorem Pkt.length_inlineHalves (p : Pkt) : p.inlineHalves.length = p.ctxCount := by simp [Pkt.inlineHalves]

theorem Pkt.inlineHalves_getD {p : Pkt} {k : Nat} (hk : k < p.ctxCount) :
    (p.inlineHalves[k]?).getD [] = sliceB p.bytes (8 + 64 * k) 64 := by
  simp [Pkt.inlineHalves, hk]

theorem State.afterTake_ddrReady (s : State) (p : Pkt) : (s.afterTake p).ddrReady = s.ddrReady := by
  simp only [State.ddrReady, State.afterTake, State.takePkt_mem]

section
variable {i : Instr} {op base entries : Nat} {check : State → List (List Byte) → Nat → List Byte → Option Nat}
  {load : Nat → List Byte → State → State} {p : Pkt} {P : State → Prop} {hs : List (List Byte)} {k st : Nat}

/-- What a CTX_LOAD makes of the halves that it got, or of the index of one that it did not get (R571, R572). -/
def ctxTake (p : Pkt) (base : Nat) (check : State → List (List Byte) → Nat → List Byte → Option Nat)
    (load : Nat → List Byte → State → State) : State × Except Nat (List (List Byte)) → BodyOut
  | (s, .error i) => refuse stHwFault s i
  | (s, .ok hs) => match firstBad (check s hs) p.ctxFirst hs with
    | some (i, st) => refuse st s i
    | none => finish (applyHalves load p.ctxFirst hs (if p.inline then s.writeHalves base p.ctxFirst hs else s))

theorem ctxLoad_of_inRange (hgo : CtxLoad.InRange entries p) (hready : s.ddrReady = true) :
    ctxLoad p base entries check load s = ctxTake p base check load
      (if p.inline then (s, .ok p.inlineHalves) else s.readHalves base p.ctxFirst p.ctxCount) := by
  obtain ⟨hword, hpos, hfew, hfits⟩ := hgo
  exact (if_neg (by omega)).trans (if_neg (by simp [hready]))

variable (h : CtxLoad op p s) (hexec : exec i s = runCmd op false (ctxLoadLen p) (p.target == 0)
    (fun _ u => ctxLoad p base entries check load u) p s)
include h hexec

theorem CtxLoad.ends {u : State} {r : CmdEnd} (hbody : ctxLoad p base entries check load (s.afterTake p) = .fin u r)
    (hP : P u) : Ends i op p s r P :=
  h.taken.ends_of_checks hexec h.len (by rw [h.target]; rfl) hbody hP

theorem CtxLoad.ends_badParam
    (hbad : p.ctxCount < 1 ∨ 16 < p.ctxCount ∨ entries < p.ctxFirst + p.ctxCount ∨ 1 < p.w 1) :
    Ends i op p s ⟨stBadParam, 0, []⟩ fun u => OnlyChanges [] (s.afterTake p) u :=
  h.ends hexec (if_pos hbad) (onlyChanges_nil_refl _)

theorem CtxLoad.ends_timeout (hgo : CtxLoad.InRange entries p) (hready : s.ddrReady = false) :
    Ends i op p s ⟨stTimeout, 0, []⟩ fun u => OnlyChanges [] (s.afterTake p) u := by
  obtain ⟨hword, hpos, hfew, hfits⟩ := hgo
  exact h.ends hexec ((if_neg (by omega)).trans (if_pos ((s.afterTake_ddrReady p).trans hready))) (onlyChanges_nil_refl _)

variable (hgo : CtxLoad.InRange entries p) (hready : s.ddrReady = true)
include hgo hready

theorem CtxLoad.ends_of_take {u : State} {r : CmdEnd}
    (htake : ctxTake p base check load (if p.inline then (s.afterTake p, .ok p.inlineHalves)
      else (s.afterTake p).readHalves base p.ctxFirst p.ctxCount) = .fin u r)
    (hP : P u) : Ends i op p s r P :=
  h.ends hexec ((ctxLoad_of_inRange hgo ((s.afterTake_ddrReady p).trans hready)).trans htake) hP

/-- The halves come from the packet, and one fails its check. -/
theorem CtxLoad.ends_inline_refused (hin : p.inline = true)
    (hbad : firstBad (check (s.afterTake p) p.inlineHalves) p.ctxFirst p.inlineHalves = some (k, st)) :
    Ends i op p s ⟨st, k, []⟩ fun u => OnlyChanges [] (s.afterTake p) u := by
  refine h.ends_of_take hexec hgo hready ?_ (onlyChanges_nil_refl _)
  rw [if_pos hin, ctxTake, hbad]
  rfl

/-- The halves come from the packet and pass their checks. -/
theorem CtxLoad.ends_inline_loaded (hin : p.inline = true)
    (hgood : firstBad (check (s.afterTake p) p.inlineHalves) p.ctxFirst p.inlineHalves = none)
    (hP : P (applyHalves load p.ctxFirst p.inlineHalves ((s.afterTake p).writeHalves base p.ctxFirst p.inlineHalves))) :
    Ends i op p s ⟨stDone, 0, []⟩ P := by
  refine h.ends_of_take hexec hgo hready ?_ hP
  rw [if_pos hin, ctxTake, hgood, if_pos hin]
  rfl

/-- A half cannot be read out of DDR4. -/
theorem CtxLoad.ends_unread (hin : p.inline = false)
    (hread : (s.afterTake p).halves base p.ctxFirst p.ctxCount = .inr k)
    (hP : P ((s.afterTake p).readHalves base p.ctxFirst p.ctxCount).1) : Ends i op p s ⟨stHwFault, k, []⟩ P := by
  refine h.ends_of_take hexec hgo hready ?_ hP
  rw [if_neg (by simp [hin]), ← Prod.eta ((s.afterTake p).readHalves ..), State.halves_eq_inr hread]
  rfl

/-- The halves come out of DDR4 and pass their checks. -/
theorem CtxLoad.ends_read_loaded (hin : p.inline = false)
    (hread : (s.afterTake p).halves base p.ctxFirst p.ctxCount = .inl hs)
    (hgood : firstBad (check ((s.afterTake p).readHalves base p.ctxFirst p.ctxCount).1 hs) p.ctxFirst hs = none)
    (hP : P (applyHalves load p.ctxFirst hs ((s.afterTake p).readHalves base p.ctxFirst p.ctxCount).1)) :
    Ends i op p s ⟨stDone, 0, []⟩ P := by
  refine h.ends_of_take hexec hgo hready ?_ hP
  rw [if_neg (by simp [hin]), ← Prod.eta ((s.afterTake p).readHalves ..), State.halves_eq_inl hread, ctxTake, hgood,
    if_neg (by simp [hin])]
  rfl
end

/-! CTX_READ. -/

section
variable {i : Instr} {op entries : Nat} {entry : State → Nat → List Byte} {p : Pkt} (h : Taken op p s)
  (htarget : p.target = 0) (hlen : p.length = 1)
  (hexec : exec i s = runCmd op false (lenIs 1 p) (p.target == 0) (fun _ u => ctxRead p entries entry u) p s)
include h htarget hlen hexec

theorem ctxRead_ends {r : CmdEnd} (hbody : ctxRead p entries entry (s.afterTake p) = .fin (s.afterTake p) r) :
    Ends i op p s r fun u => OnlyChanges [] (s.afterTake p) u :=
  h.ends_of_checks hexec (if_pos hlen) (by rw [htarget]; rfl) hbody (onlyChanges_nil_refl _)

theorem ctxRead_ends_read (hpos : 0 < p.ctxCount) (hfew : p.ctxCount ≤ 32) (hfits : p.ctxFirst + p.ctxCount ≤ entries) :
    Ends i op p s ⟨stDone, 0, (List.range p.ctxCount).flatMap fun k => entry (s.afterTake p) (p.ctxFirst + k)⟩
      fun u => OnlyChanges [] (s.afterTake p) u :=
  ctxRead_ends h htarget hlen hexec (if_neg (by omega))

theorem ctxRead_ends_badParam (hbad : p.ctxCount < 1 ∨ 32 < p.ctxCount ∨ entries < p.ctxFirst + p.ctxCount) :
    Ends i op p s ⟨stBadParam, 0, []⟩ fun u => OnlyChanges [] (s.afterTake p) u :=
  ctxRead_ends h htarget hlen hexec (if_pos hbad)
end

/-! What the frame says, seen from before the packet. -/

theorem Touches.frame_afterTake {F : Reach} {p : Pkt} {u : State} {fams : List (Nat → Nat)} {ps : List Part}
    (h : Touches F (s.afterTake p) u) (hregs : ∀ r ∈ F.regs, r.1 ∈ fams) (hps : ∀ x ∈ F.parts, x ∈ ps) :
    RegsKeptIn fams s u ∧ OnlyChanges ps (s.afterTake p) u :=
  ⟨fun o ho => (h.regsKeptIn hregs o ho).trans (s.rd_afterTake p o), h.onlyChanges hps⟩

end Sys2Proof.Machine
end

section
/-! ALLOC_CTX_LOAD and ALLOC_CTX_READ (R155, R571 to R573). -/

namespace Sys2Proof.Machine

variable {s t v : State} {p : Pkt} {hs : List (List Byte)} {k st : Nat}

theorem State.allocAt_afterTake (s : State) (p : Pkt) (i : Nat) : (s.afterTake p).allocAt i = s.allocAt i := by
  simp only [State.allocAt, State.afterTake, State.takePkt_alloc]

theorem allocCheck_congr (h : ∀ i, t.allocAt i = s.allocAt i) : allocCheck t = allocCheck s := by
  funext hs i half
  simp only [allocCheck, h]

/-- An entry takes its host half: an assigned one becomes committed (R572). -/
def AllocCtx.taking (a : AllocCtx) (half : List Byte) : AllocCtx :=
  { a with host := half, loaded := true, state := if a.state = 1 then 2 else a.state }

theorem allocAt_loadAlloc (s : State) (i : Nat) (half : List Byte) (j : Nat) :
    (loadAlloc i half s).allocAt j = if j = i then (s.allocAt j).taking half else s.allocAt j := by
  rw [loadAlloc, State.allocAt_setAlloc]
  split
  · next hj => rw [hj]; rfl
  · rfl

/-- What of the state ALLOC_CTX_LOAD may change. -/
def AllocLoadFrame (p : Pkt) (s u : State) : Prop :=
  RegsKeptIn [fun _ => R.MEM_DDR_SAT, fun _ => R.MEM_INJ, fun _ => R.MEM_SAT, R.MEM_UE_LOG_B] s u ∧
    OnlyChanges [.regs, .cnt, .arb, .alloc, .mem] (s.afterTake p) u

/-- From s to u the packet's entries, and no others, have taken their halves (R572). -/
def AllocLoaded (p : Pkt) (half : Nat → List Byte) (s u : State) : Prop :=
  (∀ k < p.ctxCount, (u.allocAt (p.ctxFirst + k)).host = half k) ∧
    (∀ k < p.ctxCount, (u.allocAt (p.ctxFirst + k)).state = (if (s.allocAt (p.ctxFirst + k)).state = 1
      then 2 else (s.allocAt (p.ctxFirst + k)).state)) ∧
    (∀ j, (j < p.ctxFirst ∨ p.ctxFirst + p.ctxCount ≤ j) → u.allocAt j = s.allocAt j) ∧ AllocLoadFrame p s u

/-- Entries are loaded after the packet has been read and DDR4 accessed. -/
theorem allocLoaded_of_ddr {half : Nat → List Byte} (hv : Touches ddrReach (s.afterTake p) v)
    (hlen : hs.length = p.ctxCount) (hhalf : ∀ k < p.ctxCount, (hs[k]?).getD [] = half k) :
    AllocLoaded p half s (applyHalves loadAlloc p.ctxFirst hs v) := by
  obtain ⟨hkept, hset⟩ := applyHalves_sets (get := State.allocAt) (f := fun half a => AllocCtx.taking a half)
    allocAt_loadAlloc v p.ctxFirst hs
  rw [hlen] at hkept hset
  have hbefore : ∀ j, v.allocAt j = s.allocAt j := fun j => (hv.allocAt (by simp) j).trans (s.allocAt_afterTake p j)
  have hall := hv.and (Touches.applyHalves (load := loadAlloc) (fun u i half _ => u.setAlloc_touches i _) v
    (Nat.le_refl (p.ctxFirst + hs.length)))
  exact ⟨fun k hk => by rw [hset k hk, ← hhalf k hk]; rfl, fun k hk => by rw [hset k hk, hbefore]; rfl,
    fun j hj => (hkept j hj).trans (hbefore j), hall.frame_afterTake (by simp [or_imp, forall_and]) (by simp)⟩

section
variable (h : CtxLoad 0x10F0 p s) (hgo : CtxLoad.InRange 256 p) (hready : s.ddrReady = true)
include h hgo hready

theorem allocCtxLoad_inline (hin : p.inline = true)
    (hgood : firstBad (allocCheck s p.inlineHalves) p.ctxFirst p.inlineHalves = none) :
    Ends (.allocCtxLoad p) 0x10F0 p s ⟨stDone, 0, []⟩ (AllocLoaded p (fun k => sliceB p.bytes (8 + 64 * k) 64) s) :=
  h.ends_inline_loaded (exec_allocCtxLoad p s) hgo hready hin
    (by rw [allocCheck_congr (s.allocAt_afterTake p), hgood])
    (allocLoaded_of_ddr (State.writeHalves_touches ..) p.length_inlineHalves fun _ => Pkt.inlineHalves_getD)

theorem allocCtxLoad_read (hin : p.inline = false)
    (hread : (s.afterTake p).halves 0x6000 p.ctxFirst p.ctxCount = .inl hs)
    (hgood : firstBad (allocCheck s hs) p.ctxFirst hs = none) :
    Ends (.allocCtxLoad p) 0x10F0 p s ⟨stDone, 0, []⟩ (AllocLoaded p (fun k => (hs[k]?).getD []) s) := by
  have hddr := State.readHalves_touches (s.afterTake p) 0x6000 p.ctxFirst p.ctxCount
  have hbefore := fun i => (hddr.allocAt (by simp) i).trans (s.allocAt_afterTake p i)
  exact h.ends_read_loaded (exec_allocCtxLoad p s) hgo hready hin hread (by rw [allocCheck_congr hbefore, hgood])
    (allocLoaded_of_ddr hddr (State.length_of_readHalves (State.halves_eq_inl hread)) fun _ _ => rfl)

theorem allocCtxLoad_unread (hin : p.inline = false)
    (hread : (s.afterTake p).halves 0x6000 p.ctxFirst p.ctxCount = .inr k) :
    Ends (.allocCtxLoad p) 0x10F0 p s ⟨stHwFault, k, []⟩ fun u =>
      (∀ j, u.allocAt j = s.allocAt j) ∧ AllocLoadFrame p s u := by
  have hddr := State.readHalves_touches (s.afterTake p) 0x6000 p.ctxFirst p.ctxCount
  exact h.ends_unread (exec_allocCtxLoad p s) hgo hready hin hread
    ⟨fun j => (hddr.allocAt (by simp) j).trans (s.allocAt_afterTake p j),
      hddr.frame_afterTake (by simp [or_imp, forall_and]) (by simp)⟩

theorem allocCtxLoad_refused (hin : p.inline = true)
    (hbad : firstBad (allocCheck s p.inlineHalves) p.ctxFirst p.inlineHalves = some (k, st)) :
    Ends (.allocCtxLoad p) 0x10F0 p s ⟨st, k, []⟩ fun u => OnlyChanges [] (s.afterTake p) u :=
  h.ends_inline_refused (exec_allocCtxLoad p s) hgo hready hin
    (by rw [allocCheck_congr (s.allocAt_afterTake p), hbad])
end

theorem allocCtxRead_read (h : Taken 0x10F1 p s) (htarget : p.target = 0) (hlen : p.length = 1)
    (hpos : 0 < p.ctxCount) (hfew : p.ctxCount ≤ 32) (hfits : p.ctxFirst + p.ctxCount ≤ 256) :
    Ends (.allocCtxRead p) 0x10F1 p s ⟨stDone, 0, (List.range p.ctxCount).flatMap fun k =>
      fitB 64 (s.allocAt (p.ctxFirst + k)).host ++ fitB 64 (s.allocAt (p.ctxFirst + k)).wb⟩
      fun u => OnlyChanges [] (s.afterTake p) u := by
  have hread := ctxRead_ends_read h htarget hlen (exec_allocCtxRead p s) hpos hfew hfits
  simpa only [State.allocAt_afterTake] using hread

end Sys2Proof.Machine
end

section
/-! SUPPORT. What the operations of the bonding layer leave of the groups' entries: the host half, and whether the group runs
(R171). -/

namespace Sys2Proof.Machine

variable {s t u : State} {g : Nat}

/-- The host half of a group's entry, and whether the group runs. -/
def BondCtx.config (b : BondCtx) : List Byte × Bool := (b.host, b.enabled)

/-- From s to t every group keeps its host half and runs or not as before. -/
structure KeepsConfig (s t : State) : Prop where
  config : ∀ j, (t.group j).config = (s.group j).config

namespace KeepsConfig

theorem refl (s : State) : KeepsConfig s s := ⟨fun _ => rfl⟩

theorem trans (h : KeepsConfig s t) (h' : KeepsConfig t u) : KeepsConfig s u :=
  ⟨fun j => (h'.config j).trans (h.config j)⟩

theorem of_bonding (h : t.bonding = s.bonding) : KeepsConfig s t := ⟨fun j => by simp only [State.group, h]⟩

theorem of_touches {F : Reach} (h : Touches F s t) (hp : .bonding ∉ F.parts) : KeepsConfig s t := .of_bonding (h.bonding hp)

theorem ite {p : Prop} [Decidable p] (h : p → KeepsConfig s t) (h' : ¬p → KeepsConfig s u) :
    KeepsConfig s (if p then t else u) := by
  split
  · exact h ‹_›
  · exact h' ‹_›

theorem foldl {α : Type} {f : State → α → State} (h : ∀ u a, KeepsConfig u (f u a)) (l : List α) (s : State) :
    KeepsConfig s (l.foldl f s) := by
  induction l generalizing s with
  | nil => exact .refl s
  | cons a l ih => exact (h s a).trans (ih _)

theorem setGroup {b : BondCtx} (h : b.config = (s.group g).config) : KeepsConfig s (s.setGroup g b) := by
  refine ⟨fun j => ?_⟩
  rw [State.group_setGroup]
  split
  · next hj => rw [h, hj]
  · rfl

/-- After a change of a group that leaves its entry's half and whether it runs. -/
theorem after_setGroup {b : BondCtx} (h : KeepsConfig (s.setGroup g b) u) (hb : b.config = (s.group g).config) :
    KeepsConfig s u := (setGroup hb).trans h

/-- After a change outside the bonding layer. -/
theorem after (h : KeepsConfig t u) (hb : t.bonding = s.bonding) : KeepsConfig s u := (of_bonding hb).trans h

end KeepsConfig

theorem State.placeMoved_keepsConfig (s : State) (g dst oldQ : Nat) (x : QFrame) :
    KeepsConfig s (s.placeMoved g dst oldQ x) := by
  unfold State.placeMoved
  extract_lets v n1 w
  have hv : KeepsConfig s v := .setGroup rfl
  have hw : KeepsConfig s w := hv.trans (.of_bonding rfl)
  split
  · have hbump : KeepsConfig w (w.bump (C.BOND_MOVE_DROP g)) := .of_bonding (w.bump_bonding _)
    refine (hw.trans hbump).trans ?_
    exact .of_touches (((State.queueDrop_touches ..).mono ⟨by simp, by simp, by simp⟩).trans
      ((State.finishDest_touches ..).mono freeReach_within_dropReach)) (by simp)
  · split
    · exact hw.trans (.of_touches (w.noNode_touches ..) (by simp))
    · exact hw.trans (.of_bonding rfl)

theorem State.moveFrames_keepsConfig (s : State) (g k dst : Nat) (l : List Nat) :
    KeepsConfig s (s.moveFrames g k dst l) := by
  induction l generalizing s with
  | nil => exact .refl s
  | cons q l ih =>
    rw [State.moveFrames]
    refine KeepsConfig.trans (.ite (fun _ => .refl s) fun _ => ?_) (ih _)
    exact (KeepsConfig.foldl (fun u x => u.placeMoved_keepsConfig g dst q x) _ _).after rfl

theorem State.moveBucket_keepsConfig (s : State) (g k dst : Nat) : KeepsConfig s (s.moveBucket g k dst) := by
  unfold State.moveBucket
  exact .ite (fun _ => .refl s) fun _ => (State.moveFrames_keepsConfig ..).after_setGroup rfl

theorem State.moveInactive_keepsConfig (s : State) (g : Nat) : KeepsConfig s (s.moveInactive g) := by
  refine .foldl (fun u k => ?_) _ s
  dsimp only
  split
  · exact .refl u
  · split
    · exact u.moveBucket_keepsConfig ..
    · exact .refl u

theorem State.returnBuckets_keepsConfig (s : State) (g : Nat) : KeepsConfig s (s.returnBuckets g) :=
  .foldl (fun u k => u.moveBucket_keepsConfig g k _) _ s

theorem State.releaseRun_keepsConfig (s : State) (g : Nat) (l : List HeldSdu) : KeepsConfig s (s.releaseRun g l) := by
  induction l generalizing s with
  | nil => exact .setGroup rfl
  | cons x l ih =>
    rw [State.releaseRun]
    refine .ite (fun _ => .trans ?_ (ih _)) fun _ => .setGroup rfl
    exact (KeepsConfig.of_touches (State.toClassifier_touches ..) (by simp)).after_setGroup rfl

theorem State.foldl_toClassifier_keepsConfig (s : State) (l : List HeldSdu) :
    KeepsConfig s (l.foldl (fun v h => v.toClassifier h.frame) s) :=
  .foldl (fun v h => .of_touches (v.toClassifier_touches h.frame) (by simp)) l s

theorem State.skipOldest_keepsConfig (s : State) (g : Nat) : KeepsConfig s (s.skipOldest g).1 := by
  unfold State.skipOldest
  split
  · exact .refl s
  · refine KeepsConfig.trans ?_ (State.releaseRun_keepsConfig ..)
    unfold State.skipTo
    extract_lets b d pass keep u v
    have hv : KeepsConfig s v := (u.foldl_toClassifier_keepsConfig pass).after_setGroup rfl
    exact hv.trans (.of_bonding (State.bumpBy_bonding ..))

theorem State.earlyRelease_keepsConfig (s : State) (g n : Nat) : KeepsConfig s (s.earlyRelease g n) := by
  induction n generalizing s with
  | zero => exact .refl s
  | succ n ih =>
    rw [State.earlyRelease]
    dsimp only
    split_ifs
    · exact .refl s
    · exact (s.releaseRun_keepsConfig g _).trans (ih _)
    · exact ((s.skipOldest_keepsConfig g).trans (.of_bonding (State.raiseRow_bonding ..))).trans (ih _)
    · exact (s.skipOldest_keepsConfig g).trans (ih _)
    · exact .refl s

theorem State.tellMembers_keepsConfig (s : State) (g : Nat) (old new : List Nat) (n : Nat) :
    KeepsConfig s (s.tellMembers g old new n) := by
  induction n with
  | zero => exact .refl s
  | succ n ih =>
    rw [State.tellMembers]
    exact .ite (fun _ => ih) fun _ => ih.trans (.of_bonding (State.raiseRow_bonding ..))

theorem State.sendStatus_keepsConfig (s : State) (g : Nat) : KeepsConfig s (s.sendStatus g) := by
  unfold State.sendStatus
  exact .ite (fun _ => .of_bonding (State.bump_bonding ..)) fun _ =>
    .foldl (fun u n => .of_touches (u.setCh_touches n _) (by simp)) _ s

theorem State.reevalGroup_keepsConfig (s : State) (g : Nat) : KeepsConfig s (s.reevalGroup g) := by
  unfold State.reevalGroup
  extract_lets b us ds st u v w x y
  refine .ite (fun _ => ?_) fun _ => .refl s
  have hu : KeepsConfig s u := .setGroup rfl
  have hv : KeepsConfig s v := .ite (fun _ => hu) fun _ => hu.trans (u.moveInactive_keepsConfig g)
  have hw : KeepsConfig s w := .ite (fun _ => hv) fun _ => hv.trans (v.earlyRelease_keepsConfig g _)
  refine .ite (fun _ => hw) fun _ => ?_
  exact (hw.trans (w.tellMembers_keepsConfig ..)).trans ((State.sendStatus_keepsConfig ..).after_setGroup rfl)

end Sys2Proof.Machine
end

section
/-! BOND_CTX_LOAD and BOND_CTX_READ (R156, R158, R171, R571 to R573). -/

namespace Sys2Proof.Machine

variable {s t v : State} {p : Pkt} {hs : List (List Byte)} {g k st : Nat}

theorem State.group_afterTake (s : State) (p : Pkt) (j : Nat) : (s.afterTake p).group j = s.group j := by
  simp only [State.group, State.afterTake, State.takePkt_bonding]

theorem Touches.group {F : Reach} (h : Touches F s t) (hp : .bonding ∉ F.parts) (j : Nat) : t.group j = s.group j := by
  simp only [State.group, h.bonding hp]

theorem bondCheck_congr (first : Nat) (h : ∀ j, t.group j = s.group j) : bondCheck first t = bondCheck first s := by
  have hhalf : t.bondHalf = s.bondHalf := by
    funext first hs i
    simp only [State.bondHalf, h]
  unfold bondCheck
  rw [hhalf]

/-! A group takes its host half. -/

theorem State.reevalGroup_touches (s : State) (hg : g < 4) : Touches reevalReach s (s.reevalGroup g) := by
  rcases s.reevalGroup_cases hg with h | ⟨u, hu, heq⟩
  · exact h.mono bondReach_within_reevalReach
  · rw [heq]
    exact (hu.mono bondReach_within_reevalReach).trans (u.sendStatus_touches hg)

theorem State.returnBuckets_touches (s : State) (hg : g < 4) : Touches bondReach s (s.returnBuckets g) :=
  .foldl (fun u k => u.moveBucket_touches hg k _) _ s

/-- The load up to the group's new entry: held frames go on, and the buckets of a group that ends return. -/
def State.endGroup (s : State) (g : Nat) (half : List Byte) : State :=
  let s := (s.group g).held.foldl (fun s x => s.toClassifier x.frame) s
  if (s.group g).enabled && !bondEnable half then s.returnBuckets g else s

theorem State.endGroup_touches (s : State) (hg : g < 4) (half : List Byte) :
    Touches bondReach s (s.endGroup g half) := by
  unfold State.endGroup
  extract_lets u
  have hu : Touches bondReach s u := .foldl (fun v x => (Touches.refl _ v).part (v.toClassifier_touches _)) _ s
  exact .ite (fun _ => hu.trans (u.returnBuckets_touches hg)) fun _ => hu

theorem State.endGroup_keepsConfig (s : State) (g : Nat) (half : List Byte) : KeepsConfig s (s.endGroup g half) := by
  unfold State.endGroup
  extract_lets u
  have hu : KeepsConfig s u := s.foldl_toClassifier_keepsConfig _
  exact .ite (fun _ => hu.trans (u.returnBuckets_keepsConfig g)) fun _ => hu

/-- A load puts an entry with the half in its place; a group that runs is then re-evaluated (R158, R171). -/
theorem loadBond_cases (s : State) (g : Nat) (half : List Byte) : ∃ b : BondCtx, b.config = (half, bondEnable half) ∧
    (loadBond g half s = ((s.endGroup g half).setGroup g b).reevalGroup g ∨
      loadBond g half s = (s.endGroup g half).setGroup g b) := by
  unfold loadBond
  extract_lets u v old b b' us map
  split
  · exact ⟨_, rfl, .inl rfl⟩
  · exact ⟨_, rfl, .inr rfl⟩

theorem config_loadBond (s : State) (g : Nat) (half : List Byte) (j : Nat) :
    ((loadBond g half s).group j).config = if j = g then (half, bondEnable half) else (s.group j).config := by
  obtain ⟨b, hb, heq⟩ := loadBond_cases s g half
  have hset : (((s.endGroup g half).setGroup g b).group j).config =
      if j = g then (half, bondEnable half) else (s.group j).config := by
    rw [State.group_setGroup, apply_ite BondCtx.config, hb, (s.endGroup_keepsConfig g half).config]
  rcases heq with heq | heq
  · rw [heq, (State.reevalGroup_keepsConfig _ g).config, hset]
  · rw [heq, hset]

theorem loadBond_touches (s : State) (hg : g < 4) (half : List Byte) : Touches reevalReach s (loadBond g half s) := by
  obtain ⟨b, -, heq⟩ := loadBond_cases s g half
  have hset : Touches reevalReach s ((s.endGroup g half).setGroup g b) :=
    ((s.endGroup_touches hg half).mono bondReach_within_reevalReach).part (State.setGroup_touches ..)
  rcases heq with heq | heq
  · rw [heq]
    exact hset.trans (State.reevalGroup_touches _ hg)
  · rwa [heq]

/-- What of the state BOND_CTX_LOAD may change. -/
def BondLoadFrame (p : Pkt) (s u : State) : Prop :=
  RegsKeptIn [R.BOND_SAT, fun _ => R.BUF_SAT, fun _ => R.MEM_DDR_SAT, fun _ => R.MEM_INJ, fun _ => R.MEM_SAT,
      R.MEM_UE_LOG_B, fun _ => R.SCH_SAT] s u ∧
    OnlyChanges [.regs, .cnt, .arb, .pon, .bonding, .buf, .sched, .clsIn, .mem] (s.afterTake p) u

/-- From s to u the packet's groups, and no others, have taken their halves, and run or not as these say (R171). -/
def BondLoaded (p : Pkt) (half : Nat → List Byte) (s u : State) : Prop :=
  (∀ k < p.ctxCount, (u.group (p.ctxFirst + k)).host = half k) ∧
    (∀ k < p.ctxCount, (u.group (p.ctxFirst + k)).enabled = bondEnable (u.group (p.ctxFirst + k)).host) ∧
    (∀ j < 4, (j < p.ctxFirst ∨ p.ctxFirst + p.ctxCount ≤ j) → (u.group j).host = (s.group j).host) ∧
    BondLoadFrame p s u

/-- Groups are loaded after the packet has been read and DDR4 accessed. -/
theorem bondLoaded_of_ddr {half : Nat → List Byte} (hv : Touches ddrReach (s.afterTake p) v)
    (hfits : p.ctxFirst + p.ctxCount ≤ 4) (hlen : hs.length = p.ctxCount)
    (hhalf : ∀ k < p.ctxCount, (hs[k]?).getD [] = half k) :
    BondLoaded p half s (applyHalves loadBond p.ctxFirst hs v) := by
  obtain ⟨hkept, hset⟩ := applyHalves_sets (get := fun t j => (t.group j).config) (f := fun half _ => (half, bondEnable half))
    config_loadBond v p.ctxFirst hs
  rw [← hlen] at hfits
  have hall := hv.and (Touches.applyHalves (load := loadBond) (fun u i half hi => loadBond_touches u hi half) v hfits)
  rw [hlen] at hkept hset
  have hhost : ∀ k < p.ctxCount, ((applyHalves loadBond p.ctxFirst hs v).group (p.ctxFirst + k)).host = (hs[k]?).getD [] :=
    fun k hk => congrArg Prod.fst (hset k hk)
  refine ⟨fun k hk => (hhost k hk).trans (hhalf k hk), fun k hk => ?_, fun j _ hj => ?_,
    hall.frame_afterTake (by simp [or_imp, forall_and]) (by simp)⟩
  · rw [hhost k hk]
    exact congrArg Prod.snd (hset k hk)
  · rw [← s.group_afterTake p, ← hv.group (by simp)]
    exact congrArg Prod.fst (hkept j hj)

section
variable (h : CtxLoad 0x11F0 p s) (hgo : CtxLoad.InRange 4 p) (hready : s.ddrReady = true)
include h hgo hready

theorem bondCtxLoad_inline (hin : p.inline = true)
    (hgood : firstBad (bondCheck p.ctxFirst s p.inlineHalves) p.ctxFirst p.inlineHalves = none) :
    Ends (.bondCtxLoad p) 0x11F0 p s ⟨stDone, 0, []⟩ (BondLoaded p (fun k => sliceB p.bytes (8 + 64 * k) 64) s) :=
  h.ends_inline_loaded (exec_bondCtxLoad p s) hgo hready hin
    (by rw [bondCheck_congr _ (s.group_afterTake p), hgood])
    (bondLoaded_of_ddr (State.writeHalves_touches ..) hgo.fits p.length_inlineHalves fun _ => Pkt.inlineHalves_getD)

theorem bondCtxLoad_read (hin : p.inline = false)
    (hread : (s.afterTake p).halves 0xE000 p.ctxFirst p.ctxCount = .inl hs)
    (hgood : firstBad (bondCheck p.ctxFirst s hs) p.ctxFirst hs = none) :
    Ends (.bondCtxLoad p) 0x11F0 p s ⟨stDone, 0, []⟩ (BondLoaded p (fun k => (hs[k]?).getD []) s) := by
  have hddr := State.readHalves_touches (s.afterTake p) 0xE000 p.ctxFirst p.ctxCount
  have hbefore := fun j => (hddr.group (by simp) j).trans (s.group_afterTake p j)
  exact h.ends_read_loaded (exec_bondCtxLoad p s) hgo hready hin hread (by rw [bondCheck_congr _ hbefore, hgood])
    (bondLoaded_of_ddr hddr hgo.fits (State.length_of_readHalves (State.halves_eq_inl hread)) fun _ _ => rfl)

theorem bondCtxLoad_unread (hin : p.inline = false)
    (hread : (s.afterTake p).halves 0xE000 p.ctxFirst p.ctxCount = .inr k) :
    Ends (.bondCtxLoad p) 0x11F0 p s ⟨stHwFault, k, []⟩ fun u =>
      (∀ j, u.group j = s.group j) ∧ BondLoadFrame p s u := by
  have hddr := State.readHalves_touches (s.afterTake p) 0xE000 p.ctxFirst p.ctxCount
  exact h.ends_unread (exec_bondCtxLoad p s) hgo hready hin hread
    ⟨fun j => (hddr.group (by simp) j).trans (s.group_afterTake p j),
      hddr.frame_afterTake (by simp [or_imp, forall_and]) (by simp)⟩

theorem bondCtxLoad_refused (hin : p.inline = true)
    (hbad : firstBad (bondCheck p.ctxFirst s p.inlineHalves) p.ctxFirst p.inlineHalves = some (k, st)) :
    Ends (.bondCtxLoad p) 0x11F0 p s ⟨st, k, []⟩ fun u => OnlyChanges [] (s.afterTake p) u :=
  h.ends_inline_refused (exec_bondCtxLoad p s) hgo hready hin
    (by rw [bondCheck_congr _ (s.group_afterTake p), hbad])
end

theorem bondCtxRead_read (h : Taken 0x11F1 p s) (htarget : p.target = 0) (hlen : p.length = 1)
    (hpos : 0 < p.ctxCount) (hfew : p.ctxCount ≤ 32) (hfits : p.ctxFirst + p.ctxCount ≤ 4) :
    Ends (.bondCtxRead p) 0x11F1 p s ⟨stDone, 0, (List.range p.ctxCount).flatMap fun k =>
      fitB 64 (s.group (p.ctxFirst + k)).host ++ fitB 64 (s.group (p.ctxFirst + k)).wb⟩
      fun u => OnlyChanges [] (s.afterTake p) u := by
  have hread := ctxRead_ends_read h htarget hlen (exec_bondCtxRead p s) hpos hfew hfits
  simpa only [State.group_afterTake] using hread

end Sys2Proof.Machine
end

section
/-! BOND_ME_CLASS and BOND_QUEUE (R169, R170), and O23. -/

namespace Sys2Proof.Machine

variable {s : State} {p : Pkt}

section
variable (h : Taken 0x1101 p s) (hlen : p.length = 1) (htarget : p.target = 0)
include h hlen htarget

theorem bondMeClass_set (hclass : p.w 0 ≤ 65535) :
    Ends (.bondMeClass p) 0x1101 p s ⟨stDone, 0, []⟩ fun u =>
      u.bonding = { s.bonding with meClass := p.w 0 } ∧ OnlyChanges [.bonding] (s.afterTake p) u := by
  refine h.ends_of_checks (exec_bondMeClass p s) (if_pos hlen) (by rw [htarget]; rfl) (if_neg (by omega)) ⟨?_, ?_⟩
  · rw [State.afterTake, State.takePkt_bonding]
  · exact fun x hx => by cases x with | bonding => simp at hx | _ => rfl

theorem bondMeClass_refused (hclass : 65535 < p.w 0) :
    Ends (.bondMeClass p) 0x1101 p s ⟨stBadParam, 0, []⟩ fun u => OnlyChanges [] (s.afterTake p) u :=
  h.ends_of_checks (exec_bondMeClass p s) (if_pos hlen) (by rw [htarget]; rfl) (if_pos hclass) (onlyChanges_nil_refl _)
end

section
variable (h : Taken 0x1102 p s) (hlen : p.length = 1) (htarget : p.target.toNat < 4)
include h hlen htarget

theorem bondQueue_set (hqueue : p.w 0 ≤ 63) :
    Ends (.bondQueue p) 0x1102 p s ⟨stDone, 0, []⟩ fun u =>
      u.group p.target.toNat = { s.group p.target.toNat with queue := some (p.w 0) } ∧
      (∀ j < 4, j ≠ p.target.toNat → u.group j = s.group j) ∧ OnlyChanges [.bonding] (s.afterTake p) u := by
  refine h.ends (exec_bondQueue p s) hlen htarget (if_neg (by omega)) ⟨?_, fun j _ hj => ?_, ?_⟩
  · rw [State.group_setGroup, if_pos rfl, State.group_afterTake]
  · rw [State.group_setGroup, if_neg hj, State.group_afterTake]
  · exact (State.setGroup_touches ..).parts

theorem bondQueue_refused (hqueue : 63 < p.w 0) :
    Ends (.bondQueue p) 0x1102 p s ⟨stBadParam, 0, []⟩ fun u => OnlyChanges [] (s.afterTake p) u :=
  h.ends (exec_bondQueue p s) hlen htarget (if_pos hqueue) (onlyChanges_nil_refl _)
end

/-- Settles O23: a CTX_LOAD or CTX_READ ends in the same ways whatever its entries, and each entry has the half loaded for it
last. -/
theorem bondGroupsAndAllocationContextsLoadAndRead : Obligations.BondGroupsAndAllocationContextsLoadAndRead := by
  unfold Obligations.BondGroupsAndAllocationContextsLoadAndRead
  refine ⟨?_, ?_, ?_, ?_, ?_, ?_, ?_, ?_, ?_, ?_, ?_, ?_, ?_, ?_, ?_, ?_,
    fun s p h hlen htarget => bondMeClass_set h hlen htarget, fun s p h hlen htarget => bondMeClass_refused h hlen htarget,
    fun s p h hlen htarget => bondQueue_set h hlen htarget, fun s p h hlen htarget => bondQueue_refused h hlen htarget⟩
  · rintro s p _ _ _ h htarget hlen rfl rfl hword hpos hfew hfits hready hin rfl hgood
    exact allocCtxLoad_inline ⟨h, htarget, hlen⟩ ⟨hword, hpos, hfew, hfits⟩ hready hin hgood
  · rintro s p _ _ hs h htarget hlen rfl rfl hword hpos hfew hfits hready hin hread hgood
    exact allocCtxLoad_read ⟨h, htarget, hlen⟩ ⟨hword, hpos, hfew, hfits⟩ hready hin hread hgood
  · rintro s p _ _ i h htarget hlen rfl rfl hword hpos hfew hfits hready hin hread
    exact allocCtxLoad_unread ⟨h, htarget, hlen⟩ ⟨hword, hpos, hfew, hfits⟩ hready hin hread
  · rintro s p _ _ _ i st h htarget hlen rfl rfl hword hpos hfew hfits hready hin rfl hbad
    exact allocCtxLoad_refused ⟨h, htarget, hlen⟩ ⟨hword, hpos, hfew, hfits⟩ hready hin hbad
  · rintro s p _ _ h htarget hlen rfl rfl hword hpos hfew hfits hready
    exact CtxLoad.ends_timeout ⟨h, htarget, hlen⟩ (exec_allocCtxLoad p s) ⟨hword, hpos, hfew, hfits⟩ hready
  · rintro s p _ _ h htarget hlen rfl rfl hbad
    exact CtxLoad.ends_badParam ⟨h, htarget, hlen⟩ (exec_allocCtxLoad p s) hbad
  · rintro s p _ _ h htarget hlen rfl rfl hpos hfew hfits
    exact allocCtxRead_read h htarget hlen hpos hfew hfits
  · rintro s p _ _ h htarget hlen rfl rfl hbad
    exact ctxRead_ends_badParam h htarget hlen (exec_allocCtxRead p s) hbad
  · rintro s p _ _ _ h htarget hlen rfl rfl hword hpos hfew hfits hready hin rfl hgood
    exact bondCtxLoad_inline ⟨h, htarget, hlen⟩ ⟨hword, hpos, hfew, hfits⟩ hready hin hgood
  · rintro s p _ _ hs h htarget hlen rfl rfl hword hpos hfew hfits hready hin hread hgood
    exact bondCtxLoad_read ⟨h, htarget, hlen⟩ ⟨hword, hpos, hfew, hfits⟩ hready hin hread hgood
  · rintro s p _ _ i h htarget hlen rfl rfl hword hpos hfew hfits hready hin hread
    exact bondCtxLoad_unread ⟨h, htarget, hlen⟩ ⟨hword, hpos, hfew, hfits⟩ hready hin hread
  · rintro s p _ _ _ i st h htarget hlen rfl rfl hword hpos hfew hfits hready hin rfl hbad
    exact bondCtxLoad_refused ⟨h, htarget, hlen⟩ ⟨hword, hpos, hfew, hfits⟩ hready hin hbad
  · rintro s p _ _ h htarget hlen rfl rfl hword hpos hfew hfits hready
    exact CtxLoad.ends_timeout ⟨h, htarget, hlen⟩ (exec_bondCtxLoad p s) ⟨hword, hpos, hfew, hfits⟩ hready
  · rintro s p _ _ h htarget hlen rfl rfl hbad
    exact CtxLoad.ends_badParam ⟨h, htarget, hlen⟩ (exec_bondCtxLoad p s) hbad
  · rintro s p _ _ h htarget hlen rfl rfl hpos hfew hfits
    exact bondCtxRead_read h htarget hlen hpos hfew hfits
  · rintro s p _ _ h htarget hlen rfl rfl hbad
    exact ctxRead_ends_badParam h htarget hlen (exec_bondCtxRead p s) hbad

end Sys2Proof.Machine
end

section
/-! SUPPORT. A bond-status frame in the last buffer of its pool (R169, R406, R411). -/

namespace Sys2Proof.Machine

/-- A bond-status SDU of group 0 on channel 0, in buffer 0: the head end sees member 0 lose sync. -/
def statusSduInBuffer0 : BondSdu :=
  ⟨0, 0, { buf := 0, src := 24, bytes := [1, 2, 0, 0, 0, 0, 0, 0, 1, 2, 1, 0, 0xFF, 0xFF, 0, 0] }⟩

/-- Group 0 has members 0 and 1 and sends status frames to queue 5. The bonding layer holds buffer 0, with a status SDU, and
the pools have no free buffer. -/
def statusInLastBuffer : State :=
  (({ State.reset with bonding := { State.reset.bonding with input := [statusSduInBuffer0] } } : State).setGroup 0
    { host := [0, 0, 3, 3], enabled := true, queue := some 5 }).setOwner 0 agBond

/-- The free of the SDU's buffer makes it the one free buffer, and the record for host software takes it. -/
theorem statusInLastBuffer_buffer_goes_to_queue :
    (match exec .bondStatusReceive statusInLastBuffer with
      | .next t => t.owner 0
      | _ => 0) = agQm := by decide +kernel

/-- Refutes O24: its clause for BOND_STATUS_RECEIVE has the buffer of the status frame free afterwards. The frame also goes to
host software as a record in a buffer of its own (R169), requested after the free. At statusInLastBuffer the freed buffer is
the only one in the pools, so the record gets it and it ends up with the queue manager. -/
theorem not_bondingDeliversTaggedFramesInOrder : ¬ Obligations.BondingDeliversTaggedFramesInOrder := by
  unfold Obligations.BondingDeliversTaggedFramesInOrder
  rintro ⟨-, -, -, -, -, -, -, -, -, -, -, hstatus, -⟩
  obtain ⟨t, hexec, -, -, -, hfreed, -⟩ := hstatus statusInLastBuffer statusSduInBuffer0 [] rfl
    (by decide +kernel) (by decide +kernel) (by decide +kernel)
  have hqueued := statusInLastBuffer_buffer_goes_to_queue
  rw [hexec] at hqueued
  exact absurd ((hfreed (by decide +kernel)).symm.trans hqueued) (by decide)

end Sys2Proof.Machine
end

section
/-! SUPPORT. VG_UNDEFINE where the store of engines is out of its canonical form (R207). -/

namespace Sys2Proof.Machine

/-- The device in normal operation with PF2's command ring enabled and one unit posted; group 0 is defined. The store of
engines names engine 0 twice: it reads as a spare of group 1, and a shadowed entry has it as a spare of group 0. -/
def spareNamedTwice : State :=
  { ((({ State.reset with boot := { State.reset.boot with mode := 1 } } : State).setFld (F.HOST_RING_CFG_CMD_EN 2) 1).wr
      (R.HOST_CMD_TAIL 2) 1) with
    vec := { groups := [(0, { state := 1 })], engs := [(0, { spareOf := some 1 }), (0, { spareOf := some 0 })] } }

/-- VG_UNDEFINE of PF2 for group 0. -/
def undefineGroup0 : Pkt := ⟨2, 1, 0, 0, 0, 0, []⟩

theorem spareNamedTwice_takes_undefineGroup0 : Taken 0x200A undefineGroup0 spareNamedTwice := by decide +kernel

/-- The command picks the engines out of the entries, so the shadowed one makes it release engine 0. -/
theorem spareNamedTwice_undefine_releases_engine0 :
    (match exec (.vgUndefine undefineGroup0) spareNamedTwice with
      | .next t => (t.eng 0).spareOf
      | _ => some 1) = none := by decide +kernel

/-- Refutes O34: its clause for VG_UNDEFINE has each engine released just when it reads as a spare of the group, in every
state. The command picks the engines out of the entries of the store, which agrees with what they read as only where the store
names an engine once. At spareNamedTwice, which no step reaches, engine 0 reads as a spare of group 1 and is released with
group 0. -/
theorem not_vectorGroupsAreDefinedStartedAndStopped : ¬ Obligations.VectorGroupsAreDefinedStartedAndStopped := by
  unfold Obligations.VectorGroupsAreDefinedStartedAndStopped
  rintro ⟨-, -, -, -, -, -, -, -, -, -, -, -, -, -, -, -, -, -, hundefine, -⟩
  obtain ⟨u, hexec, -, -, hspares, -⟩ := hundefine spareNamedTwice undefineGroup0 0 spareNamedTwice_takes_undefineGroup0
    rfl rfl (by decide) rfl
  have hend : u.endCmd (undefineGroup0.echo 0x200A) ⟨stDone, 0, []⟩ = u := rfl
  have hreleased := spareNamedTwice_undefine_releases_engine0
  rw [hexec, hend] at hreleased
  exact absurd ((hspares 0 (by decide)).symm.trans hreleased) (by decide)

end Sys2Proof.Machine
end

section
/-! SUPPORT. Engines, slabs and groups in the state: what their updates touch, what is read after them, and what reads of them
depend on (Machine/EngOps.lean). -/

namespace Sys2Proof.Machine

variable {F : Reach} {s t : State} {p : Pkt}

/-! What the updates touch. -/

theorem State.setVec_touches (s : State) (v : VecSched) : Touches ⟨[.vec], [], []⟩ s (s.setVec v) :=
  .of_parts (fun x hx => by cases x with | vec => simp at hx | _ => rfl) (by simp) (by simp)
theorem State.setEng_touches (s : State) (e : Nat) (x : Eng) : Touches ⟨[.vec], [], []⟩ s (s.setEng e x) :=
  s.setVec_touches _
theorem State.setVg_touches (s : State) (g : Nat) (x : Group) : Touches ⟨[.vec], [], []⟩ s (s.setVg g x) :=
  s.setVec_touches _
theorem State.setSlab_touches (s : State) (e : Nat) (b : Slab) : Touches ⟨[.vec], [], []⟩ s (s.setSlab e b) :=
  s.setVec_touches _
theorem State.setWork_touches (s : State) (e : Nat) (w : SlabWork) : Touches ⟨[.vec], [], []⟩ s (s.setWork e w) :=
  s.setVec_touches _
theorem State.setRetiring_touches (s : State) (rs : List Retiring) : Touches ⟨[.vec], [], []⟩ s (s.setRetiring rs) :=
  s.setVec_touches _
theorem State.modTg_touches (s : State) (g k : Nat) (f : TGroup → TGroup) : Touches ⟨[.vec], [], []⟩ s (s.modTg g k f) :=
  s.setVec_touches _
theorem State.raiseIp_touches (s : State) (e n : Nat) : Touches ⟨[.vec], [], []⟩ s (s.raiseIp e n) := s.setVec_touches _
theorem State.setSvlPort_touches (s : State) (p : Nat) (x : SvlPort) : Touches ⟨[.svl], [], []⟩ s (s.setSvlPort p x) :=
  .of_parts (fun x hx => by cases x with | svl => simp at hx | _ => rfl) (by simp) (by simp)
theorem State.setFn_touches (s : State) (f : Nat) (h : HostFn) : Touches ⟨[.fns], [], []⟩ s (s.setFn f h) :=
  .of_parts (fun x hx => by cases x with | fns => simp at hx | _ => rfl) (by simp) (by simp)
theorem State.answer_touches (s : State) (f v : Nat) : Touches ⟨[.fns], [], []⟩ s (s.answer f v) := s.setFn_touches _ _

theorem State.bypassSymbol_touches (s : State) (e : Nat) : Touches ⟨[.vec], [], []⟩ s (s.bypassSymbol e) := by
  unfold State.bypassSymbol
  split
  · exact .refl _ s
  · dsimp only
    split
    · exact .ite (fun _ => .refl _ s) (fun _ => s.setVg_touches _ _)
    · exact .refl _ s

/-- What the uncorrectable words of a memory that has no bank of counters touch: the log and its event (R525). -/
@[simp] def logReach : Reach := ⟨[.regs, .arb, .mem], (List.range 8).map (fun i => (R.MEM_UE_LOG_B, i)), []⟩

theorem State.logUe_touches_log (s : State) (m word finder : Nat) : Touches logReach s (s.logUe m word finder) := by
  unfold State.logUe
  extract_lets x i b told u v
  have hv : Touches logReach s v :=
    ((Touches.refl _ s).part (s.setMem_touches _)).next (u.setFld_touches _ _ (R.MEM_UE_LOG_B, i) rfl)
      ⟨by simp, by simp [i, Nat.mod_lt], by simp⟩
  exact .ite (fun _ => hv.part (State.raiseRow_touches ..)) (fun _ => hv)

theorem State.endLater_touches (s : State) (f id : Nat) (r : CmdEnd) :
    Touches ⟨[.out, .fns], [], []⟩ s (s.endLater f id r) := by
  obtain ⟨o, h, hend⟩ := s.endLater_only f id r
  rw [hend]
  exact .of_parts (fun x hx => by cases x with | out | fns => simp at hx | _ => rfl) (by simp) (by simp)

/-! What reads of engines and groups depend on. -/

theorem State.eng_of_vec (h : t.vec = s.vec) (e : Nat) : t.eng e = s.eng e := by simp only [State.eng, h]
theorem State.vg_of_vec (h : t.vec = s.vec) (g : Nat) : t.vg g = s.vg g := by simp only [State.vg, h]
theorem State.serves_of_vg (h : ∀ g, (t.vg g).tgs = (s.vg g).tgs) (e : Nat) : t.serves e = s.serves e := by
  simp only [State.serves, h]
theorem State.tgCode_of_vg (h : ∀ g, (t.vg g).tgs = (s.vg g).tgs) (e : Nat) : t.tgCode e = s.tgCode e := by
  simp only [State.tgCode, State.serves_of_vg h]

theorem Touches.vec (h : Touches F s t) (hp : .vec ∉ F.parts := by simp) : t.vec = s.vec := h.parts .vec hp
theorem Touches.eng (h : Touches F s t) (e : Nat) (hp : .vec ∉ F.parts := by simp) : t.eng e = s.eng e :=
  State.eng_of_vec (h.vec hp) e
theorem Touches.vg (h : Touches F s t) (g : Nat) (hp : .vec ∉ F.parts := by simp) : t.vg g = s.vg g :=
  State.vg_of_vec (h.vec hp) g

@[simp] theorem State.vg_setEng (s : State) (e : Nat) (x : Eng) (g : Nat) : (s.setEng e x).vg g = s.vg g := rfl
@[simp] theorem State.vg_setSlab (s : State) (e : Nat) (b : Slab) (g : Nat) : (s.setSlab e b).vg g = s.vg g := rfl
@[simp] theorem State.vg_setWork (s : State) (e : Nat) (w : SlabWork) (g : Nat) : (s.setWork e w).vg g = s.vg g := rfl
@[simp] theorem State.vg_setRetiring (s : State) (rs : List Retiring) (g : Nat) : (s.setRetiring rs).vg g = s.vg g := rfl
@[simp] theorem State.vg_raiseIp (s : State) (e n g : Nat) : (s.raiseIp e n).vg g = s.vg g := rfl
@[simp] theorem State.eng_setVg (s : State) (g : Nat) (x : Group) (e : Nat) : (s.setVg g x).eng e = s.eng e := rfl
@[simp] theorem State.eng_modTg (s : State) (g k : Nat) (f : TGroup → TGroup) (e : Nat) :
    (s.modTg g k f).eng e = s.eng e := rfl
@[simp] theorem State.eng_setRetiring (s : State) (rs : List Retiring) (e : Nat) : (s.setRetiring rs).eng e = s.eng e := rfl
@[simp] theorem State.eng_setFld (s : State) (f : Fld) (v e : Nat) : (s.setFld f v).eng e = s.eng e := rfl
@[simp] theorem State.vg_setFld (s : State) (f : Fld) (v g : Nat) : (s.setFld f v).vg g = s.vg g := rfl
@[simp] theorem State.eng_wr (s : State) (off : Nat) (v : Word) (e : Nat) : (s.wr off v).eng e = s.eng e := rfl
@[simp] theorem State.eng_afterTake (s : State) (p : Pkt) (e : Nat) : (s.afterTake p).eng e = s.eng e :=
  State.eng_of_vec (s.takePkt_vec p) e
@[simp] theorem State.vg_afterTake (s : State) (p : Pkt) (g : Nat) : (s.afterTake p).vg g = s.vg g :=
  State.vg_of_vec (s.takePkt_vec p) g
@[simp] theorem State.afterTake_vec (s : State) (p : Pkt) : (s.afterTake p).vec = s.vec := s.takePkt_vec p
@[simp] theorem State.afterTake_tick (s : State) (p : Pkt) : (s.afterTake p).tick = s.tick := s.takePkt_tick p
@[simp] theorem State.afterTake_running (s : State) (p : Pkt) : (s.afterTake p).running = s.running := s.takePkt_running p
@[simp] theorem State.afterTake_jrn (s : State) (p : Pkt) : (s.afterTake p).jrn = s.jrn := s.takePkt_jrn p
@[simp] theorem State.serves_afterTake (s : State) (p : Pkt) (e : Nat) : (s.afterTake p).serves e = s.serves e :=
  State.serves_of_vg (fun g => by rw [State.vg_afterTake]) e
@[simp] theorem State.overcast_afterTake (s : State) (p : Pkt) : (s.afterTake p).overcast = s.overcast :=
  congrArg (fun w : Power => w.state == 2) (s.takePkt_pwr p)
@[simp] theorem State.groupRuns_afterTake (s : State) (p : Pkt) (g : Nat) : (s.afterTake p).groupRuns g = s.groupRuns g := by
  simp only [State.groupRuns, State.vg_afterTake]
@[simp] theorem State.fld_afterTake (s : State) (p : Pkt) (f : Fld) : (s.afterTake p).fld f = s.fld f :=
  State.fld_of_regs_eq (s.afterTake_regs p) f

theorem State.eng_setSlab (s : State) (e : Nat) (b : Slab) (k : Nat) :
    (s.setSlab e b).eng k = if k = e then { s.eng e with slab := b } else s.eng k := s.eng_setEng ..
theorem State.slab_setSlab (s : State) (e : Nat) (b : Slab) : ((s.setSlab e b).eng e).slab = b := by
  rw [State.eng_setSlab, if_pos rfl]
theorem State.eng_setSlab_of_ne (s : State) (b : Slab) {e k : Nat} (h : k ≠ e) : (s.setSlab e b).eng k = s.eng k := by
  rw [State.eng_setSlab, if_neg h]

theorem State.eng_bypassSymbol (s : State) (e k : Nat) : (s.bypassSymbol e).eng k = s.eng k := by
  unfold State.bypassSymbol
  split
  · rfl
  · dsimp only
    split
    · split <;> rfl
    · rfl

/-- A symbol sent as bypass changes the symbol of a group, and nothing else of it. -/
theorem State.vg_bypassSymbol (s : State) (e g : Nat) :
    (s.bypassSymbol e).vg g = { s.vg g with comp := ((s.bypassSymbol e).vg g).comp } := by
  unfold State.bypassSymbol
  split
  · rfl
  · dsimp only
    split
    · split
      · rfl
      · rw [State.vg_setVg]
        split
        · next h => rw [h]
        · rfl
    · rfl

/-- The tone group that an engine serves is one of its group. -/
theorem State.serves_lt {e g k : Nat} (h : s.serves e = some (g, k)) : g < 4 ∧ k < (s.vg g).tgs.length := by
  obtain ⟨g', hg', hfind⟩ := List.exists_of_findSome?_eq_some h
  obtain ⟨k', hk', heq⟩ := Option.map_eq_some_iff.mp hfind
  obtain ⟨rfl, rfl⟩ := Prod.mk.inj heq
  exact ⟨List.mem_range.mp hg', (List.findIdx?_eq_some_iff_findIdx_eq.mp hk').1⟩

theorem Group.tg_setTg (x : Group) {k : Nat} (h : k < x.tgs.length) (v : TGroup) (j : Nat) :
    (x.setTg k v).tg j = if j = k then v else x.tg j := by
  unfold Group.tg Group.setTg
  by_cases hj : j = k
  · simp [hj, h]
  · simp [hj, Ne.symm hj]

theorem State.vg_modTg (s : State) (g k : Nat) (f : TGroup → TGroup) (h : Nat) :
    (s.modTg g k f).vg h = if h = g then (s.vg g).setTg k (f ((s.vg g).tg k)) else s.vg h := s.vg_setVg ..

/-- A tone group in its group changes, and no other group. -/
theorem State.tg_modTg (s : State) {g k : Nat} (hk : k < (s.vg g).tgs.length) (f : TGroup → TGroup) :
    ((s.modTg g k f).vg g).tg k = f ((s.vg g).tg k) := by
  rw [State.vg_modTg, if_pos rfl, Group.tg_setTg _ hk, if_pos rfl]

/-! How the commands of engines and groups end. -/

/-- A command that changes nothing before it ends, whatever the LENGTH and TARGET it asks for. -/
theorem Taken.ends_unchanged {i : Instr} {op : Nat} {lenBad : Option Nat} {tgtOk : Bool}
    {body : Nat → State → BodyOut} {r : CmdEnd} (h : Taken op p s)
    (hexec : exec i s = runCmd op false lenBad tgtOk body p s) (hlen : lenBad = none) (htarget : tgtOk = true)
    (hbody : body s.cmdId (s.afterTake p) = .fin (s.afterTake p) r) :
    Ends i op p s r fun u => OnlyChanges [] (s.afterTake p) u :=
  h.ends_of_checks hexec hlen htarget hbody (onlyChanges_nil_refl _)

/-- A taken packet that meets the checks of its opcode's LENGTH and TARGET begins as its command's own part says (R558). -/
theorem Taken.begins_of_checks {i : Instr} {op : Nat} {acc : Bool} {lenBad : Option Nat} {tgtOk : Bool}
    {body : Nat → State → BodyOut} {u : State} {P : State → Prop} (h : Taken op p s)
    (hexec : exec i s = runCmd op acc lenBad tgtOk body p s) (hlen : lenBad = none) (htarget : tgtOk = true)
    (hbody : body s.cmdId (s.afterTake p) = .later u) (hP : P u) : Begins i op p s P := by
  obtain ⟨hbegin, -, hmode, -⟩ := id h
  have hcheck := checkPkt_of_taken h
  rw [← hlen, ← htarget] at hcheck
  exact ⟨u, hexec.trans (runCmd_begins hbegin hmode hcheck hbody), hP⟩

/-- A taken packet whose command accepts it (R559). -/
theorem Taken.accepts_of_checks {i : Instr} {op d : Nat} {lenBad : Option Nat} {tgtOk : Bool}
    {body : Nat → State → BodyOut} {u : State} {P : State → Prop} (h : Taken op p s)
    (hexec : exec i s = runCmd op true lenBad tgtOk body p s) (hlen : lenBad = none) (htarget : tgtOk = true)
    (hbody : body s.cmdId (s.afterTake p) = .fin u ⟨stAccepted, d, []⟩) (hP : P u) : Accepts i op p s d P := by
  obtain ⟨hbegin, -, hmode, -⟩ := id h
  have hcheck := checkPkt_of_taken h
  rw [← hlen, ← htarget] at hcheck
  exact ⟨u, hexec.trans (runCmd_accepts hbegin hmode hcheck hbody rfl), hP⟩

/-- A command of reply A that is not accepted ends as its own part says. -/
theorem Taken.ends_unaccepted {i : Instr} {op : Nat} {lenBad : Option Nat} {tgtOk : Bool} {body : Nat → State → BodyOut}
    {r : CmdEnd} (h : Taken op p s) (hexec : exec i s = runCmd op true lenBad tgtOk body p s) (hlen : lenBad = none)
    (htarget : tgtOk = true) (hbody : body s.cmdId (s.afterTake p) = .fin (s.afterTake p) r) (hr : r.status ≠ stAccepted) :
    Ends i op p s r fun u => OnlyChanges [] (s.afterTake p) u := by
  obtain ⟨hbegin, -, hmode, -⟩ := id h
  have hcheck := checkPkt_of_taken h
  rw [← hlen, ← htarget] at hcheck
  exact ⟨_, hexec.trans (runCmd_fin hbegin hmode hcheck hbody (.inr hr)), onlyChanges_nil_refl _⟩

/-- Registers that a reach leaves, seen from before the packet. -/
theorem Touches.regsKept_afterTake {u : State} {offs : List Nat} (h : Touches F (s.afterTake p) u)
    (hregs : ∀ r ∈ F.regs, r.1 r.2 ∈ offs) : RegsKept offs s u := fun o ho =>
  (h.regs o (fun r hr he => ho (he ▸ hregs r hr))).trans (s.rd_afterTake p o)

theorem Touches.regsKept {offs : List Nat} (h : Touches F s t) (hregs : ∀ r ∈ F.regs, r.1 r.2 ∈ offs) :
    RegsKept offs s t := fun o ho => h.regs o (fun r hr he => ho (he ▸ hregs r hr))

end Sys2Proof.Machine
end

section
/-! SUPPORT. An engine's idle cycles and the findings of a cycle: what they leave of the engine, of the other engines and of the
groups (R181, R183, R220, R234, R236, Table 6-4). -/

namespace Sys2Proof.Machine

variable {s t u : State} {x y z : Eng} {e : Nat}

/-! The engine. -/

/-- A slab without its words, those of its overlay among them. -/
def Slab.frame (b : Slab) : Slab := { b with words := [], overlay := [] }

/-- An engine without its registers, its memories and the accesses on their way to them, the use of its ports, its cycle
counter, the causes pending and the count of uncorrectable reads: all that idle cycles and their findings change of it. -/
def Eng.frame (x : Eng) : Eng :=
  { x with
    regs := [], loads := [], slabWr := [], pend := [], gather := none, spad := [], cyc := 0, rdFree := true, wrFree := true
    cFree := true, usedRd := 0, usedWr := 0, ip := 0, ueCyc := 0, slab := x.slab.frame }

/-- Idle cycles and their findings can make y of engine x. -/
def Eng.Idled (x y : Eng) : Prop := y.frame = x.frame

theorem Eng.Idled.refl (x : Eng) : x.Idled x := rfl

theorem Eng.Idled.trans (h : x.Idled y) (h' : y.Idled z) : x.Idled z := Eq.trans h' h

theorem Eng.Idled.congr {α : Type} (h : x.Idled y) (f : Eng → α) : f y.frame = f x.frame := congrArg f h

theorem Eng.Idled.pc (h : x.Idled y) : y.pc = x.pc := h.congr Eng.pc
theorem Eng.Idled.st (h : x.Idled y) : y.st = x.st := h.congr Eng.st
theorem Eng.Idled.loops (h : x.Idled y) : y.loops = x.loops := h.congr Eng.loops
theorem Eng.Idled.rep (h : x.Idled y) : y.rep = x.rep := h.congr Eng.rep
theorem Eng.Idled.slots (h : x.Idled y) : y.slots = x.slots := h.congr Eng.slots
theorem Eng.Idled.wait (h : x.Idled y) : y.wait = x.wait := h.congr Eng.wait
theorem Eng.Idled.faultCode (h : x.Idled y) : y.faultCode = x.faultCode := h.congr Eng.faultCode
theorem Eng.Idled.faultPc (h : x.Idled y) : y.faultPc = x.faultPc := h.congr Eng.faultPc
theorem Eng.Idled.spareOf (h : x.Idled y) : y.spareOf = x.spareOf := h.congr Eng.spareOf
theorem Eng.Idled.atRest (h : x.Idled y) : y.slab.atRest = x.slab.atRest :=
  h.congr fun z => z.slab.atRest

/-- An engine that stops after idle cycles. -/
theorem Eng.Idled.halt (h : x.Idled y) (st : EngSt) : (x.halt st).Idled (y.halt st) :=
  h.congr fun z => z.halt st

/-! A cycle that issues nothing. -/

theorem Eng.idled_setSpad (x : Eng) (i : Nat) (w : Codeword) : x.Idled (x.setSpad i w) := rfl
theorem Eng.idled_setReg (x : Eng) (r : Nat) (v : Word) : x.Idled (x.setReg r v) := rfl
theorem Eng.idled_loadDone (x : Eng) (r v : Nat) : x.Idled (x.loadDone r v) :=
  (x.idled_setReg r _).trans (Eng.idled_setReg _ (r + 1) _)
theorem Eng.idled_pend (x : Eng) (ps : List PendW) : x.Idled { x with pend := ps } := rfl
theorem Eng.idled_loads (x : Eng) (l : List (Nat × Nat × Nat)) : x.Idled { x with loads := l } := rfl
theorem Eng.idled_slabWr (x : Eng) (b : Slab) (l : List (Nat × Nat × Nat))
    (h : b.frame = x.slab.frame) :
    x.Idled { x with slab := b, slabWr := l } := congrArg (fun b => ({ x.frame with slab := b } : Eng)) h
theorem Eng.idled_ports (x : Eng) (cyc : Nat) (rd wr c : Bool) (r w : Nat) :
    x.Idled { x with cyc := cyc, rdFree := rd, wrFree := wr, cFree := c, usedRd := r, usedWr := w } := rfl
theorem Eng.idled_breakGather (x : Eng) : x.Idled x.breakGather := by
  unfold Eng.breakGather
  split <;> rfl

theorem Eng.Idled.foldl {α : Type} {f : Eng → α → Eng} (h : ∀ x a, Eng.Idled x (f x a)) (l : List α) (x : Eng) :
    x.Idled (l.foldl f x) := by
  induction l generalizing x with
  | nil => exact .refl x
  | cons a l ih => exact (h x a).trans (ih _)

theorem Cy.apply_idled (k : Cy) (p : PendW) : k.x.Idled (k.apply p).x := by
  unfold Cy.apply
  split
  · exact k.x.idled_setSpad _ _
  · split
    · exact .refl _
    · exact k.x.idled_setSpad _ _

theorem Cy.flushRead_x (k : Cy) (ps : List PendW) : (k.flushRead ps).1.x = k.x := by
  induction ps with
  | nil => rfl
  | cons p ps ih =>
    rw [Cy.flushRead]
    split
    · exact ih
    · split
      · rfl
      · dsimp only
        split <;> rfl

theorem Cy.age_idled (k : Cy) (ps : List PendW) : k.x.Idled (k.age ps).1.x := by
  induction ps generalizing k with
  | nil => exact .refl _
  | cons p ps ih =>
    rw [Cy.age]
    split
    · exact ih k
    · split
      · exact (k.apply_idled p).trans (ih _)
      · exact ih k

theorem Eng.idled_ageLoads (x : Eng) : x.Idled x.ageLoads :=
  (Eng.Idled.foldl (fun x (l : Nat × Nat × Nat) => x.idled_loadDone l.2.1 l.2.2) _ x).trans (Eng.idled_loads _ _)

theorem Slab.setWord_frame (b : Slab) (a : Nat) (w : Codeword) : (b.setWord a w).frame = b.frame := rfl
theorem Slab.setOverlay_frame (b : Slab) (o : Sparse (Option Nat)) : ({ b with overlay := o } : Slab).frame = b.frame := rfl

theorem Slab.updWrite_frame (b : Slab) (a d : Nat) : (b.updWrite a d).frame = b.frame := by
  have h := b.setWord_frame a (encodeWord d)
  unfold Slab.updWrite
  generalize b.setWord a (encodeWord d) = c at h ⊢
  dsimp only
  split
  · exact (c.setOverlay_frame _).trans h
  · exact h

theorem Eng.idled_ageSlab (x : Eng) : x.Idled x.ageSlab.1 := by
  refine x.idled_slabWr _ _ ?_
  generalize x.slab = b
  induction x.slabWr.filter (fun l => decide (l.1 ≤ 1)) generalizing b with
  | nil => rfl
  | cons a l ih =>
    rw [List.foldl_cons, ih]
    split
    · exact b.updWrite_frame _ _
    · rfl

theorem Cy.endCycle_idled (k : Cy) : k.x.Idled k.endCycle.x := by
  have hage := (k.flushRead k.x.pend).1.age_idled (k.flushRead k.x.pend).2
  rw [Cy.flushRead_x] at hage
  unfold Cy.endCycle
  dsimp only
  generalize (k.flushRead k.x.pend).1.age (k.flushRead k.x.pend).2 = r at hage ⊢
  obtain ⟨k', ps, wr⟩ := r
  have hslab := (hage.trans (k'.x.idled_pend ps)).trans ((Eng.idled_ageLoads _).trans (Eng.idled_ageSlab _))
  exact hslab.trans (Eng.idled_ports ..)

theorem Cy.idle_idled (k : Cy) : k.x.Idled k.idle.x := Cy.endCycle_idled { k with rd := false, c := false }

theorem Cy.idles_idled (n : Nat) (k : Cy) : k.x.Idled (k.idles n).x := by
  induction n generalizing k with
  | zero => exact .refl _
  | succ n ih => exact k.idle_idled.trans (ih _)

theorem Cy.drain_idled (k : Cy) : k.x.Idled k.drain.x := by
  unfold Cy.drain
  extract_lets k' c r w flushes writes k''
  have hbreak : k.x.Idled k'.x := k.x.idled_breakGather
  exact (hbreak.trans (k'.idles_idled _)).trans (Eng.idled_ports ..)

/-! What the findings of a cycle touch. -/

/-- What the findings of engine e's cycle touch (Table 6-4, R525). -/
@[simp] def cycleReach (e : Nat) : Reach :=
  ⟨[.regs, .cnt, .arb, .vec, .mem],
    (fun _ => R.MEM_INJ, 0) :: (R.VE_SAT, e) :: (R.SLAB_SAT, e) :: (R.VE_STATUS, e) :: logReach.regs,
    [C.VE_SPAD_CE e, C.VE_SPAD_UE e, C.VE_IMEM_UE e, C.VE_TAG_ERR e, C.SLAB_CE e, C.SLAB_UE e]⟩

theorem logReach_within_cycleReach (e : Nat) : logReach.Within (cycleReach e) :=
  ⟨by simp, fun _ h => List.mem_cons_of_mem _ (List.mem_cons_of_mem _ (List.mem_cons_of_mem _ (List.mem_cons_of_mem _ h))),
    by simp⟩

/-- The registers in which the findings of a cycle are told are those that a frame names. -/
theorem cycleReach_regs_mem {fams : List (Nat → Nat)}
    (h : [fun _ => R.MEM_INJ, R.MEM_UE_LOG_B, R.SLAB_SAT, R.VE_SAT, R.VE_STATUS] ⊆ fams) :
    ∀ r ∈ (cycleReach e).regs, r.1 ∈ fams := by
  have : ∀ r ∈ (cycleReach e).regs,
      r.1 ∈ [fun _ => R.MEM_INJ, R.MEM_UE_LOG_B, R.SLAB_SAT, R.VE_SAT, R.VE_STATUS] := by
    simp only [cycleReach, logReach, List.mem_cons, List.mem_map, List.mem_range, List.not_mem_nil, or_false]
    rintro r (rfl | rfl | rfl | rfl | ⟨i, -, rfl⟩) <;> simp
  exact fun r hr => h (this r hr)

theorem State.injectEng_touches (s : State) (m e i : Nat) :
    Touches ⟨[.regs, .vec], [(fun _ => R.MEM_INJ, 0)], []⟩ s (s.injectEng m e i) := by
  unfold State.injectEng
  split
  · exact .refl _ s
  · exact ((s.setFld_touches F.MEM_INJ_GO 0 (fun _ => R.MEM_INJ, 0) rfl).mono ⟨by simp, by simp, by simp⟩).part
      (State.setEng_touches ..)

theorem State.raiseIp_within (s : State) (e n : Nat) : Touches (cycleReach e) s (s.raiseIp e n) :=
  (Touches.refl _ s).part (s.raiseIp_touches e n)

theorem State.applyFx_touches (s : State) (e : Nat) (f : Fx) : Touches (cycleReach e) s (s.applyFx e f) := by
  have h := Touches.refl (cycleReach e) s
  unfold State.applyFx
  cases f with
  | ce => exact h.bump (C.VE_SPAD_CE e) (R.VE_SAT, e) rfl
  | ue w =>
    dsimp only
    exact ((((h.bump (C.VE_SPAD_UE e) (R.VE_SAT, e) rfl).next (State.logUe_touches_log ..)
      (logReach_within_cycleReach e)).part (State.setEng_touches ..)).part (State.bypassSymbol_touches ..)).part
      (State.raiseRow_touches ..)
  | slabCe => exact h.bump (C.SLAB_CE e) (R.SLAB_SAT, e) rfl
  | slabUe w =>
    exact (((h.bump (C.SLAB_UE e) (R.SLAB_SAT, e) rfl).next (State.logUe_touches_log ..)
      (logReach_within_cycleReach e))).part (State.bypassSymbol_touches ..)
  | tagErr w got want =>
    exact (((h.bump (C.VE_TAG_ERR e) (R.VE_SAT, e) rfl).part (State.bypassSymbol_touches ..)).part
      (State.raiseIp_touches ..)).part (State.raiseRow_touches ..)
  | wrote slab w => exact h.next (State.injectEng_touches ..) ⟨by simp, by simp, by simp⟩
  | sat => exact h.next (State.setFld_touches _ _ _ (R.VE_STATUS, e) rfl) ⟨by simp, by simp, by simp⟩
  | clearSat => exact h.next (State.setFld_touches _ _ _ (R.VE_STATUS, e) rfl) ⟨by simp, by simp, by simp⟩

theorem State.endCy_touches (s : State) (e : Nat) (k : Cy) : Touches (cycleReach e) s (s.endCy e k) := by
  unfold State.endCy
  extract_lets v w
  have hv : Touches (cycleReach e) s v := (Touches.refl _ s).part (s.setEng_touches e k.x)
  have hw : Touches (cycleReach e) s w := .ite (fun _ => hv.trans (v.applyFx_touches e _)) (fun _ => hv)
  exact hw.trans (.foldl (fun u f => u.applyFx_touches e f) _ w)

/-! What the findings of a cycle leave of the engines and groups. -/

/-- From s to t engine e has at most what idle cycles and their findings change, and of the rest of the array only the symbols
that are being computed are others. -/
structure Settled (e : Nat) (s t : State) : Prop where
  eng : (s.eng e).Idled (t.eng e)
  others : ∀ k, k ≠ e → t.eng k = s.eng k
  groups : ∀ g, t.vg g = { s.vg g with comp := (t.vg g).comp }
  rest : t.vec = { s.vec with engs := t.vec.engs, groups := t.vec.groups }

theorem Settled.refl (e : Nat) (s : State) : Settled e s s := ⟨.refl _, fun _ _ => rfl, fun _ => rfl, rfl⟩

theorem Settled.trans (h : Settled e s t) (h' : Settled e t u) : Settled e s u where
  eng := h.eng.trans h'.eng
  others k hk := (h'.others k hk).trans (h.others k hk)
  groups g := by rw [h'.groups, h.groups]
  rest := by rw [h'.rest, h.rest]

theorem Settled.of_vec (e : Nat) (h : t.vec = s.vec) : Settled e s t where
  eng := by rw [State.eng_of_vec h]; exact .refl _
  others k _ := State.eng_of_vec h k
  groups g := by rw [State.vg_of_vec h]
  rest := by rw [h]

theorem Settled.tgs (h : Settled e s t) (g : Nat) : (t.vg g).tgs = (s.vg g).tgs := by rw [h.groups]
theorem Settled.serves (h : Settled e s t) (k : Nat) : t.serves k = s.serves k := State.serves_of_vg h.tgs k
theorem Settled.retiring (h : Settled e s t) : t.vec.retiring = s.vec.retiring := by rw [h.rest]

theorem State.setEng_settled (s : State) {x : Eng} (h : (s.eng e).Idled x) : Settled e s (s.setEng e x) where
  eng := by rw [State.eng_setEng, if_pos rfl]; exact h
  others k hk := by rw [State.eng_setEng, if_neg hk]
  groups _ := rfl
  rest := rfl

theorem Eng.idled_ip (x : Eng) (n i : Nat) : x.Idled { x with ueCyc := n, ip := i } := rfl

theorem State.raiseIp_settled (s : State) (n : Nat) : Settled e s (s.raiseIp e n) :=
  s.setEng_settled ((s.eng e).idled_ip (s.eng e).ueCyc _)

theorem State.bypassSymbol_settled (s : State) (k : Nat) : Settled e s (s.bypassSymbol k) where
  eng := by rw [State.eng_bypassSymbol]; exact .refl _
  others j _ := s.eng_bypassSymbol k j
  groups g := s.vg_bypassSymbol k g
  rest := by
    unfold State.bypassSymbol
    split
    · rfl
    · dsimp only
      split
      · split <;> rfl
      · rfl

theorem State.injectEng_settled (s : State) {m : Nat} (hm : m = 4 ∨ m = 5) (i : Nat) : Settled e s (s.injectEng m e i) := by
  unfold State.injectEng
  split
  · exact .refl e s
  · dsimp only
    refine (Settled.of_vec e (State.setFld_vec ..)).trans (State.setEng_settled _ ?_)
    obtain rfl | rfl := hm
    · exact Eng.idled_slabWr _ _ _ (Slab.setWord_frame ..)
    · exact Eng.idled_setSpad _ _ _

theorem State.logUe_settled (s : State) (m word finder : Nat) : Settled e s (s.logUe m word finder) :=
  .of_vec e (s.logUe_touches_log m word finder).vec
theorem State.bump_settled (s : State) (c : Ctr) : Settled e s (s.bump c) := .of_vec e (s.bump_vec c)
theorem State.setFld_settled (s : State) (f : Fld) (v : Nat) : Settled e s (s.setFld f v) := .of_vec e (s.setFld_vec f v)
theorem State.raiseRow_settled (s : State) (src sev c r func : Nat) (fs : List (Nat × Nat)) :
    Settled e s (s.raiseRow src sev c r func fs) := .of_vec e (s.raiseRow_vec src sev c r func fs)

theorem State.applyFx_settled (s : State) (f : Fx) : Settled e s (s.applyFx e f) := by
  unfold State.applyFx
  cases f with
  | ce => exact s.bump_settled _
  | ue w =>
    dsimp only
    exact ((s.bump_settled _).trans (State.logUe_settled ..)).trans ((State.setEng_settled _ (Eng.idled_ip ..)).trans
      ((State.bypassSymbol_settled _ e).trans (State.raiseRow_settled ..)))
  | slabCe => exact s.bump_settled _
  | slabUe w =>
    exact ((s.bump_settled _).trans (State.logUe_settled ..)).trans (State.bypassSymbol_settled _ e)
  | tagErr w got want =>
    exact ((s.bump_settled _).trans (State.bypassSymbol_settled _ e)).trans
      ((State.raiseIp_settled _ 2).trans (State.raiseRow_settled ..))
  | wrote slab w =>
    refine s.injectEng_settled ?_ w
    cases slab
    · exact .inr rfl
    · exact .inl rfl
  | sat => exact s.setFld_settled ..
  | clearSat => exact s.setFld_settled ..

theorem Settled.foldl {α : Type} {f : State → α → State} (h : ∀ u a, Settled e u (f u a)) (l : List α) (s : State) :
    Settled e s (l.foldl f s) := by
  induction l generalizing s with
  | nil => exact .refl e s
  | cons a l ih => exact (h s a).trans (ih _)

/-- Once a cycle's engine is in the state, its findings settle. -/
theorem State.endCy_settled (s : State) (e : Nat) (k : Cy) : Settled e (s.setEng e k.x) (s.endCy e k) := by
  unfold State.endCy
  extract_lets v w
  have hw : Settled e v w := by
    dsimp only [w]
    split
    · exact v.applyFx_settled _
    · exact .refl e v
  exact hw.trans (.foldl (fun u f => u.applyFx_settled f) _ w)

/-- An engine that stops once its pending stores are written: what it keeps, and what of the array stays. -/
structure HaltedAs (e : Nat) (y : Eng) (s t : State) : Prop where
  eng : y.Idled (t.eng e)
  others : ∀ k, k ≠ e → t.eng k = s.eng k
  groups : ∀ g, t.vg g = { s.vg g with comp := (t.vg g).comp }
  rest : t.vec = { s.vec with engs := t.vec.engs, groups := t.vec.groups }

theorem HaltedAs.settled (h : HaltedAs e y s t) (h' : Settled e t u) : HaltedAs e y s u where
  eng := h.eng.trans h'.eng
  others k hk := (h'.others k hk).trans (h.others k hk)
  groups g := by rw [h'.groups, h.groups]
  rest := by rw [h'.rest, h.rest]

theorem HaltedAs.tgs (h : HaltedAs e y s t) (g : Nat) : (t.vg g).tgs = (s.vg g).tgs := by rw [h.groups]
theorem HaltedAs.serves (h : HaltedAs e y s t) (k : Nat) : t.serves k = s.serves k := State.serves_of_vg h.tgs k
theorem HaltedAs.retiring (h : HaltedAs e y s t) : t.vec.retiring = s.vec.retiring := by rw [h.rest]

theorem State.endCy_haltedAs (s : State) (e : Nat) {k : Cy} (h : y.Idled k.x) : HaltedAs e y s (s.endCy e k) := by
  have hs := s.endCy_settled e k
  refine ⟨h.trans ?_, fun j hj => ?_, fun g => hs.groups g, hs.rest⟩
  · simpa using hs.eng
  · rw [hs.others j hj, State.eng_setEng, if_neg hj]

end Sys2Proof.Machine
end

section
/-! SUPPORT. Retirement triggers and the copy path: what they change of the engines and of the list of those that retire (R204 to
R207). -/

namespace Sys2Proof.Machine

variable {s t u v : State} {e g sp : Nat} {r : Retiring}

/-! The copy path. -/

/-- What taking up a copy changes: the work of slabs at rest, the list of the engines that retire, and how a command that waits
for a spare ends. -/
structure CopyStarted (s t : State) : Prop where
  touches : Touches ⟨[.out, .arb, .fns, .vec], [], []⟩ s t
  rest : t.vec = { s.vec with engs := t.vec.engs, retiring := t.vec.retiring }
  eng : ∀ k, t.eng k = { s.eng k with slab := { (s.eng k).slab with work := (t.eng k).slab.work } }
  busy : ∀ k, (s.eng k).slab.atRest = false → t.eng k = s.eng k

theorem CopyStarted.refl (s : State) : CopyStarted s s := ⟨.refl _ s, rfl, fun _ => rfl, fun _ _ => rfl⟩

theorem CopyStarted.trans (h : CopyStarted s t) (h' : CopyStarted t u) : CopyStarted s u where
  touches := h.touches.trans h'.touches
  rest := by rw [h'.rest, h.rest]
  eng k := by rw [h'.eng, h.eng]
  busy k hk := by
    have hst := h.busy k hk
    rw [h'.busy k (by rw [hst]; exact hk), hst]

theorem CopyStarted.vg (h : CopyStarted s t) (g : Nat) : t.vg g = s.vg g := by
  have hgroups : t.vec.groups = s.vec.groups := by rw [h.rest]
  simp only [State.vg, hgroups]

theorem CopyStarted.of_vec (h : Touches ⟨[.out, .arb, .fns], [], []⟩ s t) : CopyStarted s t where
  touches := (Touches.refl _ s).next h ⟨by simp, by simp, by simp⟩
  rest := by rw [h.vec]
  eng k := by rw [h.eng]
  busy k _ := h.eng k

theorem State.setRetiring_copyStarted (s : State) (rs : List Retiring) : CopyStarted s (s.setRetiring rs) where
  touches := (Touches.refl _ s).part (s.setRetiring_touches rs)
  rest := rfl
  eng _ := rfl
  busy _ _ := rfl

/-- An engine whose slab has other work. -/
def Eng.withWork (x : Eng) (w : SlabWork) : Eng := { x with slab := { x.slab with work := w } }

theorem State.eng_setWork (s : State) (e : Nat) (w : SlabWork) (k : Nat) :
    (s.setWork e w).eng k = if k = e then (s.eng e).withWork w else s.eng k := s.eng_setSlab ..

theorem State.eng_copyWork (s : State) (a b k : Nat) :
    ((s.setWork a .copy).setWork b .copy).eng k =
      if k = a ∨ k = b then (s.eng k).withWork .copy else s.eng k := by
  simp only [State.eng_setWork]
  by_cases hb : k = b
  · by_cases ha : b = a
    · simp only [hb, ha, if_true, true_or]
      rfl
    · simp [hb, ha]
  · by_cases ha : k = a
    · subst ha
      simp [hb]
    · simp [hb, ha]

/-- The copy path takes two slabs at rest. -/
theorem State.copyWork_copyStarted (s : State) {a b : Nat} (ha : (s.eng a).slab.atRest = true)
    (hb : (s.eng b).slab.atRest = true) : CopyStarted s ((s.setWork a .copy).setWork b .copy) where
  touches := ((Touches.refl _ s).part (s.setWork_touches a _)).part (State.setWork_touches ..)
  rest := rfl
  eng k := by
    rw [State.eng_copyWork]
    split <;> rfl
  busy k hk := by
    rw [State.eng_copyWork, if_neg]
    rintro (rfl | rfl)
    · simp [ha] at hk
    · simp [hb] at hk

/-- A spare that the copy path may use (R205). -/
theorem State.spareFor_spec (h : s.spareFor g = some sp) :
    (s.eng sp).st = .spare ∧ (s.eng sp).slab.atRest = true ∧ ∀ r ∈ s.vec.retiring, r.spare ≠ some sp := by
  have hsp := List.find?_some h
  simp only [Bool.and_eq_true, beq_iff_eq, Bool.not_eq_true', List.any_eq_false] at hsp
  obtain ⟨⟨⟨hst, -⟩, hrest⟩, hfree⟩ := hsp
  exact ⟨hst, hrest, hfree⟩

theorem State.startCopy_copyStarted (s : State) (n : Nat) : CopyStarted s (s.startCopy n) := by
  induction n generalizing s with
  | zero => exact .refl s
  | succ n ih =>
    rw [State.startCopy]
    split
    · exact .refl s
    · split
      · exact .refl s
      · next r hfind =>
        dsimp only
        split
        · next sp hspare =>
          have hr := List.find?_some hfind
          have hrest : (s.eng r.eng).slab.atRest = true := by simpa [hspare] using (Bool.and_eq_true_iff.mp hr).2
          exact (s.setRetiring_copyStarted _).trans
            (State.copyWork_copyStarted _ hrest (State.spareFor_spec hspare).2.1)
        · refine CopyStarted.trans ?_ (ih _)
          split
          · exact ((s.setRetiring_copyStarted _).trans (.of_vec ((Touches.refl _ _).part (State.raiseRow_touches ..)))).trans
              (.of_vec ((Touches.refl _ _).part (State.endLater_touches ..)))
          · exact (s.setRetiring_copyStarted _).trans (.of_vec ((Touches.refl _ _).part (State.raiseRow_touches ..)))

/-! Retirement triggers. -/

theorem HaltedAs.of_vec {y : Eng} (h : t.vec = s.vec) (h' : HaltedAs e y t u) : HaltedAs e y s u where
  eng := h'.eng
  others k hk := by rw [h'.others k hk, State.eng_of_vec h]
  groups g := by rw [h'.groups, State.vg_of_vec h]
  rest := by rw [h'.rest, h]

theorem HaltedAs.touches_trans {y : Eng} {F : Reach} (h : Touches F s t) (h' : HaltedAs e y t u) (hp : .vec ∉ F.parts) :
    HaltedAs e y s u := h'.of_vec (h.vec hp)

/-- The entry of an engine that begins to retire (R205). -/
def State.retiringEntry (s : State) (e : Nat) (cmd : Option (Nat × Nat)) : Retiring :=
  { eng := e
    group := match s.serves e with
      | some (g, _) => g
      | none => 255
    tg := s.tgCode e, cmd := cmd }

/-- A retirement trigger halts the engine; with AUTO it joins those that retire and the copy path looks for a spare. -/
theorem State.trigger_spec (s : State) (e cause : Nat) (auto : Bool) (cmd : Option (Nat × Nat)) :
    ∃ v, Touches (cycleReach e) s v ∧ HaltedAs e ((s.eng e).halt (if auto then .retiring else .halted)) s v ∧
      s.trigger e cause auto cmd =
        if auto then (v.setRetiring (s.vec.retiring ++ [s.retiringEntry e cmd])).startCopy 96 else v := by
  unfold State.trigger
  extract_lets tg a k b g
  have ha : Touches ⟨[.arb], [], []⟩ s a := (Touches.refl _ s).part (s.raiseRow_touches ..)
  have hk : ((s.eng e).halt (if auto then .retiring else .halted)).Idled (k.x.halt (if auto then .retiring else .halted)) := by
    rw [← ha.eng e]
    exact (Cy.drain_idled { x := a.eng e }).halt _
  have hb : HaltedAs e ((s.eng e).halt (if auto then .retiring else .halted)) s b :=
    .of_vec (ha.vec) ((a.endCy_haltedAs e hk).settled (State.bypassSymbol_settled _ e))
  refine ⟨b, ?_, hb, ?_⟩
  · exact (((Touches.refl _ s).next ha ⟨by simp, by simp, by simp⟩).trans (a.endCy_touches e _)).part
      (State.bypassSymbol_touches ..)
  · have hg : g = (s.retiringEntry e cmd).group := by
      cases hserves : s.serves e with
      | none => simp only [g, State.retiringEntry, hb.serves e, hserves]
      | some gk => simp only [g, State.retiringEntry, hb.serves e, hserves]
    simp only [hb.retiring, hg]
    rfl

/-- A stop writes the engine's pending stores and leaves it STOPPED (R202). -/
theorem State.stopEng_touches (s : State) (e : Nat) : Touches (cycleReach e) s (s.stopEng e) := s.endCy_touches e _

theorem State.stopEng_haltedAs (s : State) (e : Nat) : HaltedAs e ((s.eng e).halt .stopped) s (s.stopEng e) :=
  s.endCy_haltedAs e ((Cy.drain_idled { x := s.eng e }).halt _)

/-! When the copy path starts nothing. -/

theorem State.startCopy_of_copying (s : State) (n : Nat) (h : s.vec.retiring.any (fun r => r.copying) = true) :
    s.startCopy n = s := by
  cases n with
  | zero => rfl
  | succ n => rw [State.startCopy, if_pos h]

theorem State.startCopy_of_find_none (s : State) (n : Nat)
    (h : s.vec.retiring.find? (fun r => !r.copying && !r.copied &&
      ((s.eng r.eng).slab.atRest || (s.spareFor r.group).isNone)) = none) : s.startCopy n = s := by
  cases n with
  | zero => rfl
  | succ n =>
    rw [State.startCopy]
    split
    · rfl
    · rw [h]

theorem State.startCopy_of_nil (s : State) (n : Nat) (h : s.vec.retiring = []) : s.startCopy n = s :=
  s.startCopy_of_find_none n (by rw [h]; rfl)

/-- An engine that retires has a spare to which its slab, at rest, is copied (R205). -/
theorem State.startCopy_single (s : State) (n : Nat) (h : s.vec.retiring = [r]) (hc : r.copying = false)
    (hd : r.copied = false) (hrest : (s.eng r.eng).slab.atRest = true) (hsp : s.spareFor r.group = some sp) :
    s.startCopy (n + 1) =
      ((s.setRetiring [{ r with spare := some sp, copying := true }]).setWork r.eng .copy).setWork sp .copy := by
  rw [State.startCopy]
  simp [h, hc, hd, hrest, hsp]

/-- Whether an engine may back a group that seeks a spare (R205). -/
theorem State.spareFor_congr (hst : ∀ k, ((t.eng k).st == .spare && (t.eng k).spareOf == some g && (t.eng k).slab.atRest) =
      ((s.eng k).st == .spare && (s.eng k).spareOf == some g && (s.eng k).slab.atRest))
    (hret : ∀ k, t.vec.retiring.any (fun r => r.spare == some k) = s.vec.retiring.any (fun r => r.spare == some k)) :
    t.spareFor g = s.spareFor g := by
  unfold State.spareFor
  congr 1
  funext k
  rw [hst, hret]

end Sys2Proof.Machine
end

section
/-! SUPPORT. Start, stop, reset, retire and rejoin of an engine, by VE_CTL and by ENG_CTL (R201, R202, R205, R208). -/

namespace Sys2Proof.Machine

variable {s u : State} {p : Pkt} {e g k sp : Nat}

theorem State.startOk_eq_true (hst : (s.eng e).st = .stopped) (hready : (s.eng e).slab.ready = true) :
    s.startOk e = true := by simp [State.startOk, hst, hready]

theorem State.startOk_eq_false (h : (s.eng e).st ≠ .stopped ∨ (s.eng e).slab.ready = false) : s.startOk e = false := by
  obtain h | h := h <;> simp [State.startOk, h]

theorem State.resetOk_eq_true
    (h : (s.eng e).st = .stopped ∨ (s.eng e).st = .halted ∨ ((s.eng e).st = .retired ∧ s.running = 0)) :
    s.resetOk e = true := by
  obtain h | h | ⟨h, hrun⟩ := h
  · simp [State.resetOk, h]
  · simp [State.resetOk, h]
  · simp [State.resetOk, h, hrun]

theorem State.resetOk_eq_false
    (h : (s.eng e).st = .running ∨ (s.eng e).st = .off ∨ (s.eng e).st = .spare ∨ (s.eng e).st = .retiring ∨
      ((s.eng e).st = .retired ∧ s.running ≠ 0)) : s.resetOk e = false := by
  obtain h | h | h | h | ⟨h, hrun⟩ := h
  · simp [State.resetOk, h]
  · simp [State.resetOk, h]
  · simp [State.resetOk, h]
  · simp [State.resetOk, h]
  · simp [State.resetOk, h, hrun]

theorem State.startOk_afterTake (s : State) (p : Pkt) (e : Nat) : (s.afterTake p).startOk e = s.startOk e := by
  simp [State.startOk]

theorem State.resetOk_afterTake (s : State) (p : Pkt) (e : Nat) : (s.afterTake p).resetOk e = s.resetOk e := by
  simp [State.resetOk]

theorem State.spareFor_afterTake (s : State) (p : Pkt) (g : Nat) : (s.afterTake p).spareFor g = s.spareFor g :=
  State.spareFor_congr (fun _ => by simp) (fun _ => by simp)

/-- A change of one engine alone. -/
theorem State.setEng_only (s : State) (e : Nat) (x : Eng) :
    (s.setEng e x).eng e = x ∧ (∀ k < 96, k ≠ e → (s.setEng e x).eng k = s.eng k) ∧ OnlyChanges [.vec] s (s.setEng e x) :=
  ⟨by simp, fun k _ hk => by simp [hk], (s.setEng_touches e x).onlyChanges (by simp)⟩

/-- A change of one engine alone, seen from before the packet. -/
theorem State.setEng_only_afterTake (s : State) (p : Pkt) (e : Nat) (x : Eng) :
    ((s.afterTake p).setEng e x).eng e = x ∧ (∀ k < 96, k ≠ e → ((s.afterTake p).setEng e x).eng k = s.eng k) ∧
      OnlyChanges [.vec] (s.afterTake p) ((s.afterTake p).setEng e x) := by
  obtain ⟨hx, hothers, honly⟩ := (s.afterTake p).setEng_only e x
  exact ⟨hx, fun k hk hne => (hothers k hk hne).trans (s.eng_afterTake p k), honly⟩

/-! Stop. -/

theorem HaltedAs.pc {x : Eng} {st : EngSt} (h : HaltedAs e (x.halt st) s u) : (u.eng e).pc = x.pc := h.eng.pc
theorem HaltedAs.st {x : Eng} {st : EngSt} (h : HaltedAs e (x.halt st) s u) : (u.eng e).st = st := h.eng.st

/-- The frame of a stop: the registers and parts that the findings of the last flush name (R202, R525). -/
theorem Touches.cycle_frame {t : State} (h : Touches (cycleReach e) s t) :
    RegsKeptIn [fun _ => R.MEM_INJ, R.MEM_UE_LOG_B, R.SLAB_SAT, R.VE_SAT, R.VE_STATUS] s t ∧
      OnlyChanges [.regs, .cnt, .arb, .vec, .mem] s t :=
  ⟨h.regsKeptIn (cycleReach_regs_mem (List.Subset.refl _)), h.onlyChanges (by simp)⟩

theorem Touches.cycle_frame_afterTake (h : Touches (cycleReach e) (s.afterTake p) u) :
    RegsKeptIn [fun _ => R.MEM_INJ, R.MEM_UE_LOG_B, R.SLAB_SAT, R.VE_SAT, R.VE_STATUS] s u ∧
      OnlyChanges [.regs, .cnt, .arb, .vec, .mem] (s.afterTake p) u :=
  h.frame_afterTake (cycleReach_regs_mem (List.Subset.refl _)) (by simp)

theorem veCmdStop_completes (s : State) (e : Fin 96) (hst : (s.eng e.val).st = .running) :
    Completes (.veCmdStop e) s fun t =>
      (t.eng e.val).st = .stopped ∧ (t.eng e.val).loops = [] ∧ (t.eng e.val).rep = none ∧
      (t.eng e.val).slots = none ∧ (t.eng e.val).wait = none ∧ (t.eng e.val).pc = (s.eng e.val).pc ∧
      (∀ k < 96, k ≠ e.val → t.eng k = s.eng k) ∧
      RegsKeptIn [fun _ => R.MEM_INJ, R.MEM_UE_LOG_B, R.SLAB_SAT, R.VE_SAT, R.VE_STATUS] s t ∧
      OnlyChanges [.regs, .cnt, .arb, .vec, .mem] s t := by
  have h := s.stopEng_haltedAs e.val
  exact ⟨s.stopEng e.val, if_pos hst, h.st, h.eng.loops, h.eng.rep, h.eng.slots, h.eng.wait, h.pc, fun k _ => h.others k,
    (s.stopEng_touches e.val).cycle_frame⟩

theorem engCtlStop_done (h : Taken 0x2107 p s) (hlen : p.length = 1) (htgt : p.target.toNat < 96)
    (hst : (s.eng p.target.toNat).st = .running) :
    Ends (.engCtlStop p) 0x2107 p s ⟨stDone, 0, []⟩ fun u =>
      (u.eng p.target.toNat).st = .stopped ∧ (u.eng p.target.toNat).pc = (s.eng p.target.toNat).pc ∧
      (∀ k < 96, k ≠ p.target.toNat → u.eng k = s.eng k) ∧
      RegsKeptIn [fun _ => R.MEM_INJ, R.MEM_UE_LOG_B, R.SLAB_SAT, R.VE_SAT, R.VE_STATUS] s u ∧
      OnlyChanges [.regs, .cnt, .arb, .vec, .mem] (s.afterTake p) u := by
  have hhalt := (s.afterTake p).stopEng_haltedAs p.target.toNat
  refine h.ends_of_checks (exec_engCtlStop p s) (if_pos hlen) (decide_eq_true htgt)
    (if_pos (by rw [State.eng_afterTake, hst])) ⟨hhalt.st, ?_, fun k _ hk => ?_, ?_⟩
  · rw [hhalt.pc, State.eng_afterTake]
  · rw [hhalt.others k hk, State.eng_afterTake]
  · exact ((s.afterTake p).stopEng_touches _).cycle_frame_afterTake

/-! Reset. -/

theorem engCtlReset_done {pass : Bool} (h : Taken 0x2107 p s) (hlen : p.length = 1) (htgt : p.target.toNat < 96)
    (hst : (s.eng p.target.toNat).st = .stopped ∨ (s.eng p.target.toNat).st = .halted ∨
      ((s.eng p.target.toNat).st = .retired ∧ s.running = 0 ∧
      sparseGet (fun _ => false) s.jrn.core.eng p.target.toNat = false)) :
    Ends (.engCtlReset p pass) 0x2107 p s ⟨stDone, 0, []⟩ fun u =>
      u.eng p.target.toNat = { (s.eng p.target.toNat).cleared with st := .stopped, startDue := false } ∧
      (∀ k < 96, k ≠ p.target.toNat → u.eng k = s.eng k) ∧ OnlyChanges [.vec] (s.afterTake p) u := by
  have hok : s.resetOk p.target.toNat = true :=
    State.resetOk_eq_true (hst.imp_right (Or.imp_right fun hret => ⟨hret.1, hret.2.1⟩))
  have hself : ¬ ((s.eng p.target.toNat).st = .retired ∧
      sparseGet (fun _ => false) s.jrn.core.eng p.target.toNat = true) := by
    rintro ⟨hret, hjrn⟩
    obtain hst | hst | ⟨-, -, hst⟩ := hst
    · simp [hst] at hret
    · simp [hst] at hret
    · simp [hst] at hjrn
  refine h.ends_of_checks (exec_engCtlReset p pass s) (if_pos hlen) (decide_eq_true htgt)
    (u := (s.afterTake p).resetEng p.target.toNat) ?_ ?_
  · dsimp only
    rw [State.resetOk_afterTake, hok, State.eng_afterTake, State.afterTake_jrn]
    exact if_neg hself
  · rw [State.resetEng, State.eng_afterTake]
    exact s.setEng_only_afterTake p _ _

theorem engCtlReset_selfTest_passes (h : Taken 0x2107 p s) (hlen : p.length = 1) (htgt : p.target.toNat < 96)
    (hst : (s.eng p.target.toNat).st = .retired) (hrun : s.running = 0)
    (hjrn : sparseGet (fun _ => false) s.jrn.core.eng p.target.toNat = true) :
    Ends (.engCtlReset p true) 0x2107 p s ⟨stDone, 0, []⟩ fun u =>
      u.eng p.target.toNat = { (s.eng p.target.toNat).cleared with st := .stopped, startDue := false } ∧
      sparseGet (fun _ => false) u.jrn.core.eng p.target.toNat = false ∧
      (∀ k < 96, k ≠ p.target.toNat → u.eng k = s.eng k) ∧ OnlyChanges [.vec, .jrn] (s.afterTake p) u := by
  have hok : s.resetOk p.target.toNat = true := State.resetOk_eq_true (.inr (.inr ⟨hst, hrun⟩))
  refine h.ends_of_checks (exec_engCtlReset p true s) (if_pos hlen) (decide_eq_true htgt)
    (u := { (s.afterTake p).resetEng p.target.toNat with
      jrn := { s.jrn with core := { s.jrn.core with eng := sparseSet (fun _ => false) s.jrn.core.eng p.target.toNat false } } })
    ?_ ?_
  · dsimp only
    rw [State.resetOk_afterTake, hok, State.eng_afterTake, State.afterTake_jrn, if_neg (by simp), if_pos ⟨hst, hjrn⟩]
    rfl
  · obtain ⟨hx, hothers, honly⟩ := s.setEng_only_afterTake p p.target.toNat
      { (s.eng p.target.toNat).cleared with st := .stopped, startDue := false }
    rw [State.resetEng, State.eng_afterTake]
    refine ⟨hx, by simp, hothers, fun x hx => ?_⟩
    cases x with
    | jrn => simp at hx
    | vec => simp at hx
    | _ => rfl

theorem engCtlReset_selfTest_fails (h : Taken 0x2107 p s) (hlen : p.length = 1) (htgt : p.target.toNat < 96)
    (hst : (s.eng p.target.toNat).st = .retired) (hrun : s.running = 0)
    (hjrn : sparseGet (fun _ => false) s.jrn.core.eng p.target.toNat = true) :
    Ends (.engCtlReset p false) 0x2107 p s ⟨stHwFault, 0, []⟩ fun u => OnlyChanges [] (s.afterTake p) u := by
  have hok : s.resetOk p.target.toNat = true := State.resetOk_eq_true (.inr (.inr ⟨hst, hrun⟩))
  refine h.ends_unchanged (exec_engCtlReset p false s) (if_pos hlen) (decide_eq_true htgt) ?_
  dsimp only
  rw [State.resetOk_afterTake, hok, State.eng_afterTake, State.afterTake_jrn, if_neg (by simp), if_pos ⟨hst, hjrn⟩]
  rfl

theorem engCtlReset_busy {pass : Bool} (h : Taken 0x2107 p s) (hlen : p.length = 1) (htgt : p.target.toNat < 96)
    (hno : s.resetOk p.target.toNat = false) :
    Ends (.engCtlReset p pass) 0x2107 p s ⟨stBusy, 0, []⟩ fun u => OnlyChanges [] (s.afterTake p) u := by
  refine h.ends_unchanged (exec_engCtlReset p pass s) (if_pos hlen) (decide_eq_true htgt) ?_
  dsimp only
  rw [State.resetOk_afterTake, hno]
  rfl

/-! Retire. -/

section Retire
variable (h : Taken 0x2107 p s) (hlen : p.length = 1) (htgt : p.target.toNat < 96)
include h hlen htgt

theorem engCtlRetire_busy_of_idle (hserves : s.serves p.target.toNat = none) :
    Ends (.engCtlRetire p) 0x2107 p s ⟨stBusy, 0, []⟩ fun u => OnlyChanges [] (s.afterTake p) u := by
  refine h.ends_unchanged (exec_engCtlRetire p s) (if_pos hlen) (decide_eq_true htgt) ?_
  dsimp only
  rw [State.serves_afterTake, hserves]
  rfl

theorem engCtlRejoin_busy_of_idle (hserves : s.serves p.target.toNat = none) :
    Ends (.engCtlRejoin p) 0x2107 p s ⟨stBusy, 0, []⟩ fun u => OnlyChanges [] (s.afterTake p) u := by
  refine h.ends_unchanged (exec_engCtlRejoin p s) (if_pos hlen) (decide_eq_true htgt) ?_
  dsimp only
  rw [State.serves_afterTake, hserves]
  rfl

theorem engCtlRetire_busy (hserves : s.serves p.target.toNat = some (g, k))
    (hno : s.groupRuns g = false ∨ ((s.eng p.target.toNat).st ≠ .running ∧ (s.eng p.target.toNat).st ≠ .halted)) :
    Ends (.engCtlRetire p) 0x2107 p s ⟨stBusy, 0, []⟩ fun u => OnlyChanges [] (s.afterTake p) u := by
  refine h.ends_unchanged (exec_engCtlRetire p s) (if_pos hlen) (decide_eq_true htgt) ?_
  dsimp only
  rw [State.serves_afterTake, hserves]
  refine if_pos ?_
  simpa [or_iff_not_imp_left] using hno

theorem engCtlRetire_noResource (hserves : s.serves p.target.toNat = some (g, k)) (hrun : s.groupRuns g = true)
    (hst : (s.eng p.target.toNat).st = .running ∨ (s.eng p.target.toNat).st = .halted) (hsp : s.spareFor g = none) :
    Ends (.engCtlRetire p) 0x2107 p s ⟨stNoResource, 0, []⟩ fun u => OnlyChanges [] (s.afterTake p) u := by
  refine h.ends_unchanged (exec_engCtlRetire p s) (if_pos hlen) (decide_eq_true htgt) ?_
  dsimp only
  rw [State.serves_afterTake, hserves]
  dsimp only
  rw [State.spareFor_afterTake, hsp]
  refine (if_neg ?_).trans (if_pos rfl)
  obtain hst | hst := hst <;> simp [hrun, hst]

/-- A retire that finds a spare begins with the trigger (R204, R208). -/
theorem engCtlRetire_begins {P : State → Prop} (hserves : s.serves p.target.toNat = some (g, k))
    (hrun : s.groupRuns g = true) (hst : (s.eng p.target.toNat).st = .running ∨ (s.eng p.target.toNat).st = .halted)
    (hsp : (s.spareFor g).isSome = true)
    (hP : P ((s.afterTake p).trigger p.target.toNat 3 true (some (p.func.val, s.cmdId)))) :
    Begins (.engCtlRetire p) 0x2107 p s P := by
  refine h.begins_of_checks (exec_engCtlRetire p s) (if_pos hlen) (decide_eq_true htgt) ?_ hP
  dsimp only
  rw [State.serves_afterTake, hserves]
  dsimp only
  rw [State.spareFor_afterTake]
  refine (if_neg ?_).trans (if_neg ?_)
  · obtain hst | hst := hst <;> simp [hrun, hst]
  · simpa [Option.isNone_iff_eq_none, Option.isSome_iff_ne_none] using hsp

end Retire

/-- The frame of a retire that begins. -/
theorem trigger_frame_afterTake {v : State} (h : Touches (cycleReach e) (s.afterTake p) v) (h' : CopyStarted v u) :
    RegsKeptIn [fun _ => R.MEM_INJ, R.MEM_UE_LOG_B, R.SLAB_SAT, R.VE_SAT, R.VE_STATUS] s u ∧
      OnlyChanges [.out, .regs, .cnt, .arb, .fns, .vec, .mem] (s.afterTake p) u :=
  ((h.mono (G := ⟨[.out, .regs, .cnt, .arb, .fns, .vec, .mem], (cycleReach e).regs, (cycleReach e).ctrs⟩)
    ⟨by simp, fun _ hr => hr, fun _ hc => hc⟩).next h'.touches ⟨by simp, by simp, by simp⟩).frame_afterTake
      (cycleReach_regs_mem (List.Subset.refl _)) (fun _ hx => hx)

/-- A trigger leaves the choice of a spare as it is: the engine that retires was none, and its entry names none. -/
theorem HaltedAs.spareFor {v : State} {r : Retiring} (h : HaltedAs e ((s.eng e).halt .retiring) s v)
    (hst : (s.eng e).st ≠ .spare) (hr : r.spare = none) :
    (v.setRetiring (s.vec.retiring ++ [r])).spareFor g = s.spareFor g := by
  refine State.spareFor_congr (fun k => ?_) (fun k => ?_)
  · rw [State.eng_setRetiring]
    by_cases hk : k = e
    · have hv : (v.eng k).st = .retiring := by rw [hk]; exact h.eng.st
      have hs : ((s.eng k).st == .spare) = false := by rw [hk]; simpa using hst
      rw [hs, hv]
      rfl
    · rw [h.others k hk]
  · show (s.vec.retiring ++ [r]).any _ = _
    simp [hr]

section RetireBegins
variable (h : Taken 0x2107 p s) (hlen : p.length = 1) (htgt : p.target.toNat < 96)
  (hserves : s.serves p.target.toNat = some (g, k)) (hrun : s.groupRuns g = true)
  (hst : (s.eng p.target.toNat).st = .running ∨ (s.eng p.target.toNat).st = .halted)
include h hlen htgt hserves hrun hst

/-- A retire whose engine and spare have their slabs at rest begins the copy at once (R205, R208). -/
theorem engCtlRetire_copies (hsp : s.spareFor g = some sp)
    (hrest : (s.eng p.target.toNat).slab.atRest = true) (hnone : s.vec.retiring = []) :
    Begins (.engCtlRetire p) 0x2107 p s fun u =>
      (u.eng p.target.toNat).st = .retiring ∧
      u.vec.retiring.map (fun r => (r.eng, r.spare, r.copying)) = [(p.target.toNat, some sp, true)] ∧
      (u.eng p.target.toNat).slab.work = .copy ∧ (u.eng sp).slab.work = .copy ∧
      RegsKeptIn [fun _ => R.MEM_INJ, R.MEM_UE_LOG_B, R.SLAB_SAT, R.VE_SAT, R.VE_STATUS] s u ∧
      OnlyChanges [.out, .regs, .cnt, .arb, .fns, .vec, .mem] (s.afterTake p) u := by
  refine engCtlRetire_begins h hlen htgt hserves hrun hst (by simp [hsp]) ?_
  obtain ⟨v, htouch, hhalt, htrig⟩ := (s.afterTake p).trigger_spec p.target.toNat 3 true (some (p.func.val, s.cmdId))
  set r := (s.afterTake p).retiringEntry p.target.toNat (some (p.func.val, s.cmdId)) with hr
  have hspv : (v.setRetiring [r]).spareFor g = some sp := by
    have hspare := hhalt.spareFor (g := g) (r := r) (by obtain hst | hst := hst <;> simp [hst]) rfl
    rwa [State.spareFor_afterTake, hsp, State.afterTake_vec, hnone] at hspare
  have hrestv : (v.eng p.target.toNat).slab.atRest = true := by
    have hidle : (v.eng p.target.toNat).slab.atRest = _ := hhalt.eng.atRest
    rw [hidle, State.eng_afterTake]
    exact hrest
  have hgroup : r.group = g := by simp [hr, State.retiringEntry, hserves]
  have hu := htrig.trans (if_pos rfl)
  have hcopy := State.startCopy_copyStarted (v.setRetiring ((s.afterTake p).vec.retiring ++ [r])) 96
  rw [← hu] at hcopy
  have hframe := trigger_frame_afterTake htouch ((v.setRetiring_copyStarted _).trans hcopy)
  rw [State.afterTake_vec, hnone, List.nil_append,
    (v.setRetiring [r]).startCopy_single 95 (r := r) rfl rfl rfl hrestv (by rw [hgroup]; exact hspv)] at hu
  rw [hu] at hframe ⊢
  refine ⟨?_, rfl, ?_, ?_, hframe⟩
  · rw [State.eng_copyWork, if_pos (.inl rfl)]
    exact hhalt.st
  · rw [State.eng_copyWork, if_pos (.inl rfl)]
    rfl
  · rw [State.eng_copyWork, if_pos (.inr rfl)]
    rfl

/-- A retire whose engine's slab is not at rest, or that finds the copy path taken, waits for its copy (R205, R207). -/
theorem engCtlRetire_waits (hsp : (s.spareFor g).isSome = true)
    (hwait : (s.eng p.target.toNat).slab.atRest = false ∨ s.vec.retiring.any (fun r => r.copying) = true)
    (hall : s.vec.retiring.all (fun r => r.copying || r.copied) = true) :
    Begins (.engCtlRetire p) 0x2107 p s fun u =>
      (u.eng p.target.toNat).st = .retiring ∧
      u.vec.retiring.map (fun r => (r.eng, r.spare, r.copying)) = s.vec.retiring.map (fun r => (r.eng, r.spare,
        r.copying)) ++ [(p.target.toNat, none, false)] ∧
      RegsKeptIn [fun _ => R.MEM_INJ, R.MEM_UE_LOG_B, R.SLAB_SAT, R.VE_SAT, R.VE_STATUS] s u ∧
      OnlyChanges [.out, .regs, .cnt, .arb, .fns, .vec, .mem] (s.afterTake p) u := by
  refine engCtlRetire_begins h hlen htgt hserves hrun hst hsp ?_
  obtain ⟨v, htouch, hhalt, htrig⟩ := (s.afterTake p).trigger_spec p.target.toNat 3 true (some (p.func.val, s.cmdId))
  set r := (s.afterTake p).retiringEntry p.target.toNat (some (p.func.val, s.cmdId)) with hr
  have hgroup : r.group = g := by simp [hr, State.retiringEntry, hserves]
  set w := v.setRetiring ((s.afterTake p).vec.retiring ++ [r]) with hw
  have hret : w.vec.retiring = s.vec.retiring ++ [r] := by rw [hw, State.afterTake_vec]; rfl
  have hspw : (w.spareFor g).isNone = false := by
    rw [hw, hhalt.spareFor (by obtain hst | hst := hst <;> simp [hst]) rfl, State.spareFor_afterTake]
    simpa [Option.isNone_iff_eq_none, Option.isSome_iff_ne_none] using hsp
  have hidle : (w.eng p.target.toNat).slab.atRest = (s.eng p.target.toNat).slab.atRest := by
    have hv : (v.eng p.target.toNat).slab.atRest = _ := hhalt.eng.atRest
    rw [hw, State.eng_setRetiring, hv, State.eng_afterTake]
    rfl
  have hnone : w.startCopy 96 = w := by
    obtain hbusy | hany := hwait
    · refine w.startCopy_of_find_none 96 (List.find?_eq_none.mpr fun q hq => ?_)
      rw [hret, List.mem_append, List.mem_singleton] at hq
      obtain hq | rfl := hq
      · have hdone := List.all_eq_true.mp hall q hq
        cases hc : q.copying <;> simp_all
      · have hq : (w.eng r.eng).slab.atRest = false := hidle.trans hbusy
        simp [hgroup, hspw, hq]
    · exact w.startCopy_of_copying 96 (by rw [hret, List.any_append, hany, Bool.true_or])
  have hu := (htrig.trans (if_pos rfl)).trans hnone
  have hframe := trigger_frame_afterTake htouch (v.setRetiring_copyStarted ((s.afterTake p).vec.retiring ++ [r]))
  rw [hu]
  refine ⟨hhalt.st, ?_, hframe⟩
  rw [hret, List.map_append]
  rfl

end RetireBegins

theorem engCtlRejoin_begins (h : Taken 0x2107 p s) (hlen : p.length = 1) (htgt : p.target.toNat < 96)
    (hserves : s.serves p.target.toNat = some (g, k)) (hcast : s.overcast = false) (hrun : s.groupRuns g = true)
    (hst : (s.eng p.target.toNat).st = .stopped) (hload : (s.eng p.target.toNat).loaded = true)
    (hready : (s.eng p.target.toNat).slab.ready = true) :
    Begins (.engCtlRejoin p) 0x2107 p s fun u =>
      u.vec.rejoins = s.vec.rejoins ++ [⟨p.target.toNat, s.tick.count.toNat, p.func.val, s.cmdId⟩] ∧
      (∀ k < 96, u.eng k = s.eng k) ∧ OnlyChanges [.vec] (s.afterTake p) u := by
  refine h.begins_of_checks (exec_engCtlRejoin p s) (if_pos hlen) (decide_eq_true htgt)
    (u := (s.afterTake p).setVec { (s.afterTake p).vec with
      rejoins := (s.afterTake p).vec.rejoins ++ [⟨p.target.toNat, (s.afterTake p).tick.count.toNat, p.func.val, s.cmdId⟩] })
    ?_ ⟨?_, fun k _ => s.eng_afterTake p k, (State.setVec_touches ..).onlyChanges (by simp)⟩
  · dsimp only
    rw [State.serves_afterTake, hserves]
    exact if_neg (by simp [hcast, hrun, hst, hload, hready])
  · rw [State.afterTake_vec, State.afterTake_tick]
    rfl

theorem engCtlRejoin_busy (h : Taken 0x2107 p s) (hlen : p.length = 1) (htgt : p.target.toNat < 96)
    (hserves : s.serves p.target.toNat = some (g, k))
    (hno : s.overcast = true ∨ s.groupRuns g = false ∨ (s.eng p.target.toNat).st ≠ .stopped ∨
      (s.eng p.target.toNat).loaded = false ∨ (s.eng p.target.toNat).slab.ready = false) :
    Ends (.engCtlRejoin p) 0x2107 p s ⟨stBusy, 0, []⟩ fun u => OnlyChanges [] (s.afterTake p) u := by
  refine h.ends_unchanged (exec_engCtlRejoin p s) (if_pos hlen) (decide_eq_true htgt) ?_
  dsimp only
  rw [State.serves_afterTake, hserves]
  refine if_pos ?_
  simpa [or_assoc] using hno

theorem engCtlStart_done (h : Taken 0x2107 p s) (hlen : p.length = 1) (htgt : p.target.toNat < 96)
    (hcast : s.overcast = false) (hst : (s.eng p.target.toNat).st = .stopped)
    (hready : (s.eng p.target.toNat).slab.ready = true) :
    Ends (.engCtlStart p) 0x2107 p s ⟨stDone, 0, []⟩ fun u =>
      u.eng p.target.toNat = { s.eng p.target.toNat with startDue := true } ∧
      (∀ k < 96, k ≠ p.target.toNat → u.eng k = s.eng k) ∧ OnlyChanges [.vec] (s.afterTake p) u := by
  refine h.ends_of_checks (exec_engCtlStart p s) (if_pos hlen) (decide_eq_true htgt) ?_
    (s.setEng_only_afterTake p p.target.toNat _)
  dsimp only
  rw [State.overcast_afterTake, State.startOk_afterTake, hcast, State.startOk_eq_true hst hready, State.eng_afterTake]
  rfl

theorem engCtlStart_busy (h : Taken 0x2107 p s) (hlen : p.length = 1) (htgt : p.target.toNat < 96)
    (hno : s.overcast = true ∨ s.startOk p.target.toNat = false) :
    Ends (.engCtlStart p) 0x2107 p s ⟨stBusy, 0, []⟩ fun u => OnlyChanges [] (s.afterTake p) u := by
  refine h.ends_unchanged (exec_engCtlStart p s) (if_pos hlen) (decide_eq_true htgt) (if_pos ?_)
  rw [State.overcast_afterTake, State.startOk_afterTake]
  simpa using hno

/-- Settles O25. -/
theorem enginesStartStopAndResetByCommand : Obligations.EnginesStartStopAndResetByCommand := by
  unfold Obligations.EnginesStartStopAndResetByCommand
  refine ⟨fun s e hst hready => if_pos (State.startOk_eq_true hst hready),
    fun s e hno => if_neg (by simp [State.startOk_eq_false hno]),
    veCmdStop_completes, fun s e hst => if_neg hst,
    fun s e hok => ⟨s.resetEng e.val, if_pos (State.resetOk_eq_true hok), s.setEng_only e.val _⟩,
    fun s e hno => if_neg (by simp [State.resetOk_eq_false hno]),
    fun s p => engCtlStart_done,
    fun s p h hlen htgt hno => engCtlStart_busy h hlen htgt (hno.imp_right State.startOk_eq_false),
    fun s p => engCtlStop_done,
    fun s p h hlen htgt hst => h.ends_unchanged (exec_engCtlStop p s) (if_pos hlen) (decide_eq_true htgt)
      (if_neg (by rw [State.eng_afterTake]; exact hst)),
    fun s p pass => engCtlReset_done, fun s p => engCtlReset_selfTest_passes, fun s p => engCtlReset_selfTest_fails,
    fun s p pass h hlen htgt hno => engCtlReset_busy h hlen htgt (State.resetOk_eq_false hno),
    fun s p g k => engCtlRetire_noResource,
    fun s p g k sp h hlen htgt hserves hrun hst hsp _ => engCtlRetire_copies h hlen htgt hserves hrun hst hsp,
    fun s p g k => engCtlRetire_waits,
    fun s p h hlen htgt hserves =>
      ⟨engCtlRetire_busy_of_idle h hlen htgt hserves, engCtlRejoin_busy_of_idle h hlen htgt hserves⟩,
    fun s p g k => engCtlRetire_busy, fun s p g k => engCtlRejoin_begins, fun s p g k => engCtlRejoin_busy⟩

end Sys2Proof.Machine
end

section
/-! SUPPORT. Bit fields of numbers and of registers: what a field reads after a write to it and to another field (R7). -/

namespace Sys2Proof.Machine

variable {s : State} {n v hi lo : Nat}

theorem testBit_putBits (h : lo ≤ hi) (j : Nat) :
    (putBits n hi lo v).testBit j = if lo ≤ j ∧ j ≤ hi then v.testBit (j - lo) else n.testBit j := by
  have hmid : v % 2 ^ (hi + 1 - lo) < 2 ^ (hi + 1 - lo) := Nat.mod_lt _ (Nat.two_pow_pos _)
  have hlow : n % 2 ^ lo < 2 ^ lo := Nat.mod_lt _ (Nat.two_pow_pos _)
  have hmidlow : 2 ^ lo * (v % 2 ^ (hi + 1 - lo)) + n % 2 ^ lo < 2 ^ (hi + 1) := by
    have hpow : 2 ^ (hi + 1) = 2 ^ lo * 2 ^ (hi + 1 - lo) := by rw [← Nat.pow_add]; congr 1; omega
    calc 2 ^ lo * (v % 2 ^ (hi + 1 - lo)) + n % 2 ^ lo < 2 ^ lo * (v % 2 ^ (hi + 1 - lo)) + 2 ^ lo := by omega
      _ = 2 ^ lo * (v % 2 ^ (hi + 1 - lo) + 1) := by ring
      _ ≤ 2 ^ (hi + 1) := by rw [hpow]; exact Nat.mul_le_mul_left _ hmid
  have hform : putBits n hi lo v =
      2 ^ (hi + 1) * (n / 2 ^ (hi + 1)) + (2 ^ lo * (v % 2 ^ (hi + 1 - lo)) + n % 2 ^ lo) := by
    unfold putBits
    ring
  rw [hform, Nat.testBit_two_pow_mul_add _ hmidlow, Nat.testBit_two_pow_mul_add _ hlow]
  by_cases hlo : j < lo
  · simp [hlo, show j < hi + 1 by omega, show ¬ lo ≤ j by omega, Nat.testBit_mod_two_pow]
  · by_cases hhi : j < hi + 1
    · simp [hlo, hhi, show lo ≤ j ∧ j ≤ hi by omega, Nat.testBit_mod_two_pow, show j - lo < hi + 1 - lo by omega]
    · simp [hhi, show ¬ (lo ≤ j ∧ j ≤ hi) by omega, Nat.testBit_div_two_pow, Nat.sub_add_cancel (Nat.not_lt.mp hhi)]

theorem testBit_bitsOf (j : Nat) : (bitsOf n hi lo).testBit j = (decide (j < hi + 1 - lo) && n.testBit (lo + j)) := by
  rw [bitsOf, Nat.testBit_mod_two_pow, Nat.testBit_shiftRight]

/-- A field reads the value put into it. -/
theorem bitsOf_putBits_same (h : lo ≤ hi) : bitsOf (putBits n hi lo v) hi lo = v % 2 ^ (hi + 1 - lo) := by
  refine Nat.eq_of_testBit_eq fun j => ?_
  rw [testBit_bitsOf, testBit_putBits h, Nat.testBit_mod_two_pow]
  by_cases hj : j < hi + 1 - lo
  · simp [hj, show lo ≤ lo + j ∧ lo + j ≤ hi by omega]
  · simp [hj]

/-- A field reads as before after a write to one that shares no bit with it. -/
theorem bitsOf_putBits_of_disjoint {hi' lo' : Nat} (h : lo ≤ hi) (hd : hi' < lo ∨ hi < lo') :
    bitsOf (putBits n hi lo v) hi' lo' = bitsOf n hi' lo' := by
  refine Nat.eq_of_testBit_eq fun j => ?_
  rw [testBit_bitsOf, testBit_bitsOf, testBit_putBits h]
  by_cases hj : j < hi' + 1 - lo'
  · rw [if_neg (by omega)]
  · simp [hj]

theorem putBits_lt {w : Nat} (h : lo ≤ hi) (hw : hi < w) (hn : n < 2 ^ w) : putBits n hi lo v < 2 ^ w := by
  refine Nat.lt_pow_two_of_testBit _ fun j hj => ?_
  rw [testBit_putBits h, if_neg (by omega), Nat.testBit_lt_two_pow (lt_of_lt_of_le hn (Nat.pow_le_pow_right two_pos hj))]

theorem State.toNat_rd_setFld (s : State) (f : Fld) (v : Nat) (h : f.lo ≤ f.hi) (hw : f.hi < 32) :
    ((s.setFld f v).rd f.off).toNat = putBits (s.rd f.off).toNat f.hi f.lo v := by
  rw [State.setFld, State.rd_wr, if_pos rfl, BitVec.toNat_ofNat, Nat.mod_eq_of_lt]
  exact putBits_lt h hw (BitVec.isLt _)

/-- A field reads what was written to it. -/
theorem State.fld_setFld_same (s : State) (f : Fld) (v : Nat) (h : f.lo ≤ f.hi := by simp)
    (hw : f.hi < 32 := by simp) : (s.setFld f v).fld f = v % 2 ^ (f.hi + 1 - f.lo) := by
  rw [State.fld, s.toNat_rd_setFld f v h hw, bitsOf_putBits_same h]

/-- A field of a register keeps its value where another field of the register is written. -/
theorem State.fld_setFld_of_disjoint (s : State) (f g : Fld) (v : Nat) (ho : g.off = f.off)
    (hd : g.hi < f.lo ∨ f.hi < g.lo) (h : f.lo ≤ f.hi := by simp) (hw : f.hi < 32 := by simp) :
    (s.setFld f v).fld g = s.fld g := by
  rw [State.fld, State.fld, ho, s.toNat_rd_setFld f v h hw, bitsOf_putBits_of_disjoint h hd]

/-- A field keeps its value where another register is written. -/
theorem State.fld_setFld_of_off_ne (s : State) (f g : Fld) (v : Nat) (ho : g.off ≠ f.off) :
    (s.setFld f v).fld g = s.fld g := by
  rw [State.fld, State.fld, State.setFld, State.rd_wr, if_neg ho]

theorem State.injection_of_regs {t : State} (m : Nat) (h : t.rd R.MEM_INJ = s.rd R.MEM_INJ)
    (hpat : t.rd R.MEM_INJ_PAT = s.rd R.MEM_INJ_PAT) : t.injection m = s.injection m := by
  unfold State.injection State.flag State.fld
  rw [h, hpat]

@[simp] theorem State.injection_afterTake (s : State) (p : Pkt) (m : Nat) :
    (s.afterTake p).injection m = s.injection m :=
  State.injection_of_regs m (s.rd_afterTake p _) (s.rd_afterTake p _)

end Sys2Proof.Machine
end

section
/-! SUPPORT. Slabs: mode requests, the end of a slab's work, loss and reload (R194 to R199, R207). -/

namespace Sys2Proof.Machine

variable {s t u : State} {p : Pkt} {b : Slab} {e g k m : Nat}

/-! Modes. -/

theorem Slab.request_of_working (h : b.working = true) (e m : Nat) : b.request e m = { b with want := some m } := if_pos h

theorem Slab.request_of_idle (h : b.working = false) (e m : Nat) : b.request e m = b.setMode e m := if_neg (by simp [h])

theorem Slab.setMode_same (b : Slab) (e : Nat) : b.setMode e b.mode = b := if_pos rfl

theorem Slab.setMode_off (h : b.mode ≠ 0) (e : Nat) :
    b.setMode e 0 = { b with mode := 0, ready := false, words := [], overlay := [], lostWord := none } :=
  if_neg (Ne.symm h)

theorem Slab.setMode_retain (h : b.mode = 2) (e : Nat) :
    b.setMode e 1 = { b.drainAll.setWord 65536 (encodeWord (canaryData e)) with mode := 1, ready := false } := by
  rw [Slab.setMode, if_neg (by omega)]
  exact if_pos h

theorem Slab.setMode_retain_of_ne (h : b.mode ≠ 2) (e : Nat) : b.setMode e 1 = b := by
  by_cases hone : b.mode = 1
  · exact if_pos hone.symm
  · exact (if_neg (Ne.symm hone)).trans (if_neg h)

theorem Slab.setMode_on (h : b.mode ≠ 2) (e : Nat) :
    b.setMode e 2 = { b with mode := 2, ready := false, work := if b.mode = 0 then .zeroFill else .wakeScrub } :=
  if_neg (Ne.symm h)

theorem Slab.overlay_of_idle (h : b.working = false) : b.overlay = [] := by
  rw [Slab.working, Bool.or_eq_false_iff] at h
  simpa using h.2

theorem Slab.drainAll_of_idle (h : b.working = false) : b.drainAll = b := by
  have ho := Slab.overlay_of_idle h
  unfold Slab.drainAll
  rw [ho]
  exact congrArg (fun o => { b with overlay := o }) ho.symm

theorem Slab.word_setWord (b : Slab) (i : Nat) (w : Codeword) (j : Nat) :
    (b.setWord i w).word j = if j = i then w else b.word j := sparseGet_sparseSet ..

@[simp] theorem State.fld_setSlab (s : State) (e : Nat) (b : Slab) (f : Fld) : (s.setSlab e b).fld f = s.fld f := rfl

/-- A mode request writes MODE of SLAB_CTL and asks the engine's slab for the mode (R195). -/
theorem State.slabRequest_spec (s : State) (e m : Nat) (hm : m ≤ 2) :
    (s.slabRequest e m).fld (F.SLAB_CTL_MODE e) = m ∧ ((s.slabRequest e m).eng e).slab = (s.eng e).slab.request e m ∧
      (∀ k < 96, k ≠ e → (s.slabRequest e m).eng k = s.eng k) ∧
      Touches ⟨[.regs, .vec], [(R.SLAB_CTL, e)], []⟩ s (s.slabRequest e m) := by
  refine ⟨?_, ?_, fun k _ hk => ?_, ?_⟩
  · have hmod : m % 4 = m := by omega
    rw [State.slabRequest, State.fld_setSlab, s.fld_setFld_same (F.SLAB_CTL_MODE e) m]
    exact hmod
  · rw [State.slabRequest, State.slab_setSlab, State.eng_setFld]
  · rw [State.slabRequest, State.eng_setSlab_of_ne _ _ hk, State.eng_setFld]
  · exact ((s.setFld_touches _ m (R.SLAB_CTL, e) rfl).mono ⟨by simp, by simp, by simp⟩).part (State.setSlab_touches ..)

/-- A mode request is a register write and a change of one slab. -/
theorem State.slabRequest_changes {b' : Slab} (s : State) (e m : Nat) (hm : m ≤ 2) (hb : (s.eng e).slab.request e m = b') :
    (s.slabRequest e m).fld (F.SLAB_CTL_MODE e) = m ∧ ((s.slabRequest e m).eng e).slab = b' ∧
      (∀ k < 96, k ≠ e → (s.slabRequest e m).eng k = s.eng k) ∧ RegsKept [R.SLAB_CTL e] s (s.slabRequest e m) ∧
      OnlyChanges [.regs, .vec] s (s.slabRequest e m) := by
  obtain ⟨hfld, hslab, hothers, htouch⟩ := s.slabRequest_spec e m hm
  exact ⟨hfld, hslab.trans hb, hothers, htouch.regsKept (by simp), htouch.onlyChanges (fun _ hx => hx)⟩

/-! The end of a slab's work. -/

/-- A slab whose work has ended, with what waited for it in effect. -/
def Slab.worked (b : Slab) (e : Nat) : Slab := Slab.settle { b with work := .none } e

theorem Slab.worked_of_want_none (h : b.want = none) (e : Nat) : b.worked e = { b with work := .none } := by
  unfold Slab.worked Slab.settle
  dsimp only
  rw [h]

/-- A slab's work ends, before the copy path looks for the next copy. -/
def State.workDone (s : State) (e : Nat) : State :=
  ((s.setSlab e { (s.eng e).slab with work := .none }).settleSlab e).spareReady e

theorem State.workEnds_eq (s : State) (e : Nat) : s.workEnds e = (s.workDone e).startCopy 96 := rfl

theorem State.spareReady_slab (s : State) (e k : Nat) : ((s.spareReady e).eng k).slab = (s.eng k).slab := by
  unfold State.spareReady
  dsimp only
  split
  · rw [State.eng_setEng]
    split
    · next hk => rw [hk]
    · rfl
  · rfl

theorem State.spareReady_eng_of_ne (s : State) (h : k ≠ e) : (s.spareReady e).eng k = s.eng k := by
  unfold State.spareReady
  dsimp only
  split
  · rw [State.eng_setEng, if_neg h]
  · rfl

theorem State.spareReady_touches (s : State) (e : Nat) : Touches ⟨[.vec], [], []⟩ s (s.spareReady e) := by
  unfold State.spareReady
  exact .ite (fun _ => s.setEng_touches ..) (fun _ => .refl _ s)

/-- Of the array only the engines change. -/
def EngsOnly (s t : State) : Prop := t.vec = { s.vec with engs := t.vec.engs }

theorem EngsOnly.trans (h : EngsOnly s t) (h' : EngsOnly t u) : EngsOnly s u := by
  unfold EngsOnly at *
  rw [h', h]

theorem EngsOnly.retiring (h : EngsOnly s t) : t.vec.retiring = s.vec.retiring := by
  unfold EngsOnly at h
  rw [h]

theorem EngsOnly.vg (h : EngsOnly s t) (g : Nat) : t.vg g = s.vg g := by
  have hgroups : t.vec.groups = s.vec.groups := by
    unfold EngsOnly at h
    rw [h]
  simp only [State.vg, hgroups]

theorem State.setSlab_engsOnly (s : State) (e : Nat) (b : Slab) : EngsOnly s (s.setSlab e b) := rfl

theorem State.spareReady_engsOnly (s : State) (e : Nat) : EngsOnly s (s.spareReady e) := by
  unfold State.spareReady EngsOnly
  dsimp only
  split
  · rfl
  · rfl

theorem State.workDone_touches (s : State) (e : Nat) : Touches ⟨[.vec], [], []⟩ s (s.workDone e) :=
  ((s.setSlab_touches e _).trans (State.setSlab_touches ..)).trans (State.spareReady_touches ..)

theorem State.workDone_slab (s : State) (e : Nat) : ((s.workDone e).eng e).slab = (s.eng e).slab.worked e := by
  rw [State.workDone, State.spareReady_slab, State.settleSlab, State.slab_setSlab, State.slab_setSlab]
  rfl

theorem State.workDone_eng_of_ne (s : State) (h : k ≠ e) : (s.workDone e).eng k = s.eng k := by
  rw [State.workDone, State.spareReady_eng_of_ne _ h, State.settleSlab, State.eng_setSlab_of_ne _ _ h,
    State.eng_setSlab_of_ne _ _ h]

theorem State.workDone_engsOnly (s : State) (e : Nat) : EngsOnly s (s.workDone e) :=
  ((s.setSlab_engsOnly e _).trans (State.setSlab_engsOnly ..)).trans (State.spareReady_engsOnly ..)

/-- With no engine that retires, the end of a slab's work starts no copy. -/
theorem State.workEnds_of_nil (s : State) (e : Nat) (h : s.vec.retiring = []) : s.workEnds e = s.workDone e := by
  rw [State.workEnds_eq]
  exact (s.workDone e).startCopy_of_nil 96 ((s.workDone_engsOnly e).retiring.trans h)

theorem State.workEnds_touches (s : State) (e : Nat) : Touches ⟨[.out, .arb, .fns, .vec], [], []⟩ s (s.workEnds e) :=
  ((Touches.refl _ s).part (s.workDone_touches e)).trans (State.startCopy_copyStarted ..).touches

theorem State.workEnds_vg (s : State) (e g : Nat) : (s.workEnds e).vg g = s.vg g := by
  rw [State.workEnds_eq, (State.startCopy_copyStarted _ _).vg, (s.workDone_engsOnly e).vg]

theorem CopyStarted.slab (h : CopyStarted s t) (k : Nat) : (t.eng k).slab = { (s.eng k).slab with work := (t.eng k).slab.work } :=
  congrArg Eng.slab (h.eng k)

theorem CopyStarted.words (h : CopyStarted s t) (k : Nat) : (t.eng k).slab.words = (s.eng k).slab.words := by
  rw [h.slab k]

theorem State.workEnds_slab (s : State) (e : Nat) :
    ((s.workEnds e).eng e).slab = { (s.eng e).slab.worked e with work := ((s.workEnds e).eng e).slab.work } := by
  rw [State.workEnds_eq, (State.startCopy_copyStarted _ 96).slab e, State.workDone_slab]

theorem State.workEnds_slab_of_ne (s : State) (h : k ≠ e) :
    ((s.workEnds e).eng k).slab = { (s.eng k).slab with work := ((s.workEnds e).eng k).slab.work } := by
  rw [State.workEnds_eq, (State.startCopy_copyStarted _ 96).slab k, State.workDone_eng_of_ne _ h]

/-- The slab of an engine for which no mode waits, once its work has ended. -/
theorem State.workEnds_slab_of_want_none (s : State) (e : Nat) (h : (s.eng e).slab.want = none) :
    ((s.workEnds e).eng e).slab = { (s.eng e).slab with work := ((s.workEnds e).eng e).slab.work } := by
  have hslab := s.workEnds_slab e
  rwa [Slab.worked_of_want_none h] at hslab

/-- A slab's content is put in place and its work ends, while no engine retires. -/
theorem State.workEnds_setSlab_of_nil (s : State) (e : Nat) (b : Slab) (h : s.vec.retiring = []) :
    (((s.setSlab e b).workEnds e).eng e).slab = b.worked e ∧
      (∀ k < 96, k ≠ e → ((s.setSlab e b).workEnds e).eng k = s.eng k) ∧
      OnlyChanges [.vec] s ((s.setSlab e b).workEnds e) := by
  have hdone := (s.setSlab e b).workEnds_of_nil e h
  rw [hdone]
  refine ⟨?_, fun k _ hk => ?_, ?_⟩
  · rw [State.workDone_slab, State.slab_setSlab]
  · rw [State.workDone_eng_of_ne _ hk, State.eng_setSlab_of_ne _ _ hk]
  · exact ((s.setSlab_touches e b).trans (State.workDone_touches ..)).onlyChanges (by simp)

/-- A slab's content is put in place and its work ends. -/
theorem State.workEnds_setSlab_touches (s : State) (e : Nat) (b : Slab) :
    Touches ⟨[.out, .arb, .fns, .vec], [], []⟩ s ((s.setSlab e b).workEnds e) :=
  ((Touches.refl _ s).part (s.setSlab_touches e b)).trans (State.workEnds_touches ..)

/-! Loss. -/

/-- What the loss of a slab changes. -/
theorem State.loseSlab_touches (s : State) (e cause word : Nat) :
    Touches ⟨[.regs, .cnt, .arb, .vec], [(R.SLAB_SAT, e)], [C.SLAB_LOST e]⟩ s (s.loseSlab e cause word) := by
  unfold State.loseSlab
  extract_lets tg b v w
  have hw : Touches ⟨[.regs, .cnt, .arb, .vec], [(R.SLAB_SAT, e)], [C.SLAB_LOST e]⟩ s w :=
    (((Touches.refl _ s).part (s.setSlab_touches e _)).bump (C.SLAB_LOST e) (R.SLAB_SAT, e) rfl).part
      (State.raiseRow_touches ..)
  split
  · extract_lets x y z
    have hz : Touches ⟨[.regs, .cnt, .arb, .vec], [(R.SLAB_SAT, e)], [C.SLAB_LOST e]⟩ s z :=
      (hw.part (State.modTg_touches ..)).part (State.setSlab_touches ..)
    exact .ite (fun _ => hz) (fun _ => hz.part (State.setVec_touches ..))
  · exact .ite (fun _ => hw) (fun _ => hw.part (State.setWork_touches ..))

@[simp] theorem State.eng_bump (s : State) (c : Ctr) (k : Nat) : (s.bump c).eng k = s.eng k :=
  State.eng_of_vec (s.bump_vec c) k
@[simp] theorem State.eng_raiseRow (s : State) (src sev c r func : Nat) (fs : List (Nat × Nat)) (k : Nat) :
    (s.raiseRow src sev c r func fs).eng k = s.eng k := State.eng_of_vec (s.raiseRow_vec src sev c r func fs) k
@[simp] theorem State.vg_raiseRow (s : State) (src sev c r func : Nat) (fs : List (Nat × Nat)) (g : Nat) :
    (s.raiseRow src sev c r func fs).vg g = s.vg g := State.vg_of_vec (s.raiseRow_vec src sev c r func fs) g

/-- An engine whose slab is lost, with the work and the reload that follow. -/
def Eng.slabLost (x : Eng) (w : SlabWork) (r : Nat) : Eng :=
  { x with slab := { x.slab with lost := true, ready := false, lostWord := none, work := w, reload := r } }

theorem State.eng_setReloads (s : State) (rs : List Nat) (k : Nat) :
    (s.setVec { s.vec with reloads := rs }).eng k = s.eng k := rfl

theorem State.loseSlab_eng (s : State) (e cause word : Nat) :
    (∃ w r, (s.loseSlab e cause word).eng e = (s.eng e).slabLost w r) ∧
      ∀ k, k ≠ e → (s.loseSlab e cause word).eng k = s.eng k := by
  unfold State.loseSlab
  extract_lets tg b v w
  have hw : w.eng e = (s.eng e).slabLost b.work b.reload := by
    rw [State.eng_raiseRow, State.eng_bump, State.eng_setSlab, if_pos rfl]
    rfl
  have hothers : ∀ k, k ≠ e → w.eng k = s.eng k := fun k hk => by
    rw [State.eng_raiseRow, State.eng_bump, State.eng_setSlab, if_neg hk]
  clear_value w
  split
  · extract_lets x y z
    have hy : y = ((s.eng e).slabLost b.work b.reload).slab := congrArg Eng.slab hw
    have hz : z.eng e = (s.eng e).slabLost (if y.work = .copy then .copy else .reload) 3 := by
      rw [State.eng_setSlab, if_pos rfl, State.eng_modTg, hw, hy]
      rfl
    have hzothers : ∀ k, k ≠ e → z.eng k = s.eng k := fun k hk => by
      rw [State.eng_setSlab, if_neg hk, State.eng_modTg, hothers k hk]
    clear_value z
    split
    · exact ⟨⟨_, _, hz⟩, hzothers⟩
    · exact ⟨⟨_, _, (z.eng_setReloads _ e).trans hz⟩, fun k hk => (z.eng_setReloads _ k).trans (hzothers k hk)⟩
  · split
    · exact ⟨⟨_, _, hw⟩, hothers⟩
    · refine ⟨⟨.zeroFill, b.reload, ?_⟩, fun k hk => ?_⟩
      · rw [State.eng_setWork, if_pos rfl, hw]
        rfl
      · rw [State.eng_setWork, if_neg hk, hothers k hk]

theorem State.loseSlab_count (s : State) (e cause word : Nat) (h : s.count (C.SLAB_LOST e) < 0xFFFFFFFE) :
    (s.loseSlab e cause word).count (C.SLAB_LOST e) = s.count (C.SLAB_LOST e) + 1 := by
  unfold State.loseSlab
  extract_lets tg b v w
  have hw : w.count (C.SLAB_LOST e) = s.count (C.SLAB_LOST e) + 1 := by
    have hcnt : w.count (C.SLAB_LOST e) = (v.bump (C.SLAB_LOST e)).count (C.SLAB_LOST e) :=
      (State.raiseRow_touches (v.bump (C.SLAB_LOST e)) ..).ctrs _ (by simp)
    rw [hcnt, v.count_bump_of_lt rfl h]
    rfl
  clear_value w
  split
  · extract_lets x y z
    have hz : z.count (C.SLAB_LOST e) = s.count (C.SLAB_LOST e) + 1 := hw
    clear_value z
    split
    · exact hz
    · exact hz
  · split
    · exact hw
    · exact hw

end Sys2Proof.Machine
end

section
/-! SUPPORT. Slab modes, zero-fill, wake scrub and reload: the clauses of O26 on them (R194 to R199, R268). -/

namespace Sys2Proof.Machine

variable {s : State} {p : Pkt} {e g k : Nat}

theorem Slab.word_congr {b c : Slab} (h : b.words = c.words) (k : Nat) : b.word k = c.word k := by
  unfold Slab.word
  rw [h]

/-! Modes. -/

theorem State.modeOk_of_ne_running (h : (s.eng e).st ≠ .running) (m : Nat) : s.modeOk e m = true := by
  simp [State.modeOk, h]

theorem State.modeOk_on (s : State) (e : Nat) : s.modeOk e 2 = true := by simp [State.modeOk]

theorem State.modeOk_eq_false {m : Nat} (h : (s.eng e).st = .running) (hm : m ≠ 2) : s.modeOk e m = false := by
  simp [State.modeOk, h, hm]

section
variable {e : Fin 96} {b : Slab}

theorem slabCtlOff_completes (hst : (s.eng e.val).st ≠ .running) (hb : (s.eng e.val).slab.request e.val 0 = b) :
    Completes (.slabCtlOff e) s fun t =>
      t.fld (F.SLAB_CTL_MODE e.val) = 0 ∧ (t.eng e.val).slab = b ∧ (∀ k < 96, k ≠ e.val → t.eng k = s.eng k) ∧
      RegsKept [R.SLAB_CTL e.val] s t ∧ OnlyChanges [.regs, .vec] s t :=
  ⟨s.slabRequest e.val 0, if_pos (State.modeOk_of_ne_running hst 0), s.slabRequest_changes e.val 0 (by simp) hb⟩

theorem slabCtlRetain_completes (hst : (s.eng e.val).st ≠ .running) (hb : (s.eng e.val).slab.request e.val 1 = b) :
    Completes (.slabCtlRetain e) s fun t =>
      t.fld (F.SLAB_CTL_MODE e.val) = 1 ∧ (t.eng e.val).slab = b ∧ (∀ k < 96, k ≠ e.val → t.eng k = s.eng k) ∧
      RegsKept [R.SLAB_CTL e.val] s t ∧ OnlyChanges [.regs, .vec] s t :=
  ⟨s.slabRequest e.val 1, if_pos (State.modeOk_of_ne_running hst 1), s.slabRequest_changes e.val 1 (by simp) hb⟩

theorem slabCtlOn_completes (hb : (s.eng e.val).slab.request e.val 2 = b) :
    Completes (.slabCtlOn e) s fun t =>
      t.fld (F.SLAB_CTL_MODE e.val) = 2 ∧ (t.eng e.val).slab = b ∧ (∀ k < 96, k ≠ e.val → t.eng k = s.eng k) ∧
      RegsKept [R.SLAB_CTL e.val] s t ∧ OnlyChanges [.regs, .vec] s t :=
  ⟨s.slabRequest e.val 2, rfl, s.slabRequest_changes e.val 2 (by simp) hb⟩

/-- A slab that is ON and idle keeps its words in RETAIN and gets its canary (R197). -/
theorem slabCtlRetain_of_on (hst : (s.eng e.val).st ≠ .running) (hidle : (s.eng e.val).slab.working = false)
    (hmode : (s.eng e.val).slab.mode = 2) :
    Completes (.slabCtlRetain e) s fun t =>
      t.fld (F.SLAB_CTL_MODE e.val) = 1 ∧ (t.eng e.val).slab.mode = 1 ∧ (t.eng e.val).slab.ready = false ∧
      (t.eng e.val).slab.word 65536 = encodeWord (canaryData e.val) ∧
      (∀ k < 65536, (t.eng e.val).slab.word k = (s.eng e.val).slab.word k) ∧
      (∀ k < 96, k ≠ e.val → t.eng k = s.eng k) ∧ RegsKept [R.SLAB_CTL e.val] s t ∧ OnlyChanges [.regs, .vec] s t := by
  have hreq := (Slab.request_of_idle hidle e.val 1).trans (Slab.setMode_retain hmode e.val)
  rw [Slab.drainAll_of_idle hidle] at hreq
  obtain ⟨t, hexec, hfld, hslab, hothers, hregs, honly⟩ := slabCtlRetain_completes hst hreq
  have hword : ∀ k, (t.eng e.val).slab.word k =
      ((s.eng e.val).slab.setWord 65536 (encodeWord (canaryData e.val))).word k := fun k =>
    Slab.word_congr (by rw [hslab]) k
  refine ⟨t, hexec, hfld, by rw [hslab], by rw [hslab], ?_, fun k hk => ?_, hothers, hregs, honly⟩
  · rw [hword, Slab.word_setWord, if_pos rfl]
  · rw [hword, Slab.word_setWord, if_neg (by omega)]

end

theorem slabMode_done (h : Taken 0x2109 p s) (hlen : p.length = 1) (htgt : p.target.toNat < 96)
    (hm : p.w 0 % 256 ≤ 2) (hst : (s.eng p.target.toNat).st ≠ .running ∨ p.w 0 % 256 = 2) :
    Ends (.slabMode p) 0x2109 p s ⟨stDone, 0, []⟩ fun u =>
      u.fld (F.SLAB_CTL_MODE p.target.toNat) = p.w 0 % 256 ∧
      (u.eng p.target.toNat).slab = (s.eng p.target.toNat).slab.request p.target.toNat (p.w 0 % 256) ∧
      (∀ k < 96, k ≠ p.target.toNat → u.eng k = s.eng k) ∧ RegsKept [R.SLAB_CTL p.target.toNat] s u ∧
      OnlyChanges [.regs, .vec] (s.afterTake p) u := by
  have hok : (s.afterTake p).modeOk p.target.toNat (p.w 0 % 256) = true := by
    obtain hst | hst := hst
    · exact State.modeOk_of_ne_running (by simpa using hst) _
    · rw [hst]
      exact State.modeOk_on ..
  obtain ⟨hfld, hslab, hothers, htouch⟩ := (s.afterTake p).slabRequest_spec p.target.toNat (p.w 0 % 256) hm
  rw [State.eng_afterTake] at hslab
  exact h.ends_of_checks (exec_slabMode p s) (if_pos hlen) (decide_eq_true htgt)
    ((if_neg (Nat.not_lt.mpr hm)).trans (if_pos hok))
    ⟨hfld, hslab, fun k hk hne => (hothers k hk hne).trans (s.eng_afterTake p k), htouch.regsKept_afterTake (by simp),
      htouch.onlyChanges (fun _ hx => hx)⟩

theorem slabMode_busy (h : Taken 0x2109 p s) (hlen : p.length = 1) (htgt : p.target.toNat < 96)
    (hm : p.w 0 % 256 < 2) (hst : (s.eng p.target.toNat).st = .running) :
    Ends (.slabMode p) 0x2109 p s ⟨stBusy, 0, []⟩ fun u => OnlyChanges [] (s.afterTake p) u := by
  have hno : (s.afterTake p).modeOk p.target.toNat (p.w 0 % 256) = false :=
    State.modeOk_eq_false (by simpa using hst) (by omega)
  exact h.ends_unchanged (exec_slabMode p s) (if_pos hlen) (decide_eq_true htgt)
    ((if_neg (by omega)).trans (if_neg (by simp [hno])))

theorem slabMode_badParam (h : Taken 0x2109 p s) (hlen : p.length = 1) (htgt : p.target.toNat < 96)
    (hm : 2 < p.w 0 % 256) :
    Ends (.slabMode p) 0x2109 p s ⟨stBadParam, 0, []⟩ fun u => OnlyChanges [] (s.afterTake p) u :=
  h.ends_unchanged (exec_slabMode p s) (if_pos hlen) (decide_eq_true htgt) (if_pos hm)

/-! The end of a slab's work. -/

/-- A slab's content is put in place and its work ends, while no mode waits. -/
theorem State.workEnds_setSlab_of_want_none (s : State) (e : Nat) {b : Slab} (h : b.want = none) :
    (((s.setSlab e b).workEnds e).eng e).slab = { b with work := (((s.setSlab e b).workEnds e).eng e).slab.work } := by
  have hslab := (s.setSlab e b).workEnds_slab_of_want_none e (by rw [State.slab_setSlab]; exact h)
  rwa [State.slab_setSlab] at hslab

/-- The content of a slab whose zero-fill has ended (R194, R199). -/
def State.filledSlab (s : State) (e : Nat) : Slab :=
  { (s.eng e).slab with words := [], ready := true, wake := 1, lost := (s.eng e).slab.lost && (s.serves e).isSome }

theorem State.fillEnds_eq (s : State) (e : Nat) : s.fillEnds e = (s.setSlab e (s.filledSlab e)).workEnds e := rfl

theorem slabZeroFillDone_fills (s : State) (e : Fin 96) (hwork : (s.eng e.val).slab.work = .zeroFill)
    (hwant : (s.eng e.val).slab.want = none) :
    Completes (.slabZeroFillDone e) s fun t =>
      (t.eng e.val).slab.ready = true ∧ (t.eng e.val).slab.words = [] ∧ (t.eng e.val).slab.wake = 1 ∧
      RegsKeptIn [R.BOND_SAT, fun _ => R.BUF_SAT, R.ETH_SAT, R.PON_STAT_SAT, fun _ => R.SCH_SAT, R.SVL_SAT] s t ∧
      OnlyChanges [.out, .freeCtr, .regs, .cnt, .arb, .fns, .pon, .bonding, .buf, .sched, .clsIn, .vec, .svl, .mac,
        .lanes] s t := by
  have htouch := s.workEnds_setSlab_touches e.val (s.filledSlab e.val)
  have hslab := s.workEnds_setSlab_of_want_none e.val (b := s.filledSlab e.val) hwant
  rw [← State.fillEnds_eq] at htouch hslab
  exact ⟨s.fillEnds e.val, if_pos hwork, congrArg Slab.ready hslab, congrArg Slab.words hslab, congrArg Slab.wake hslab,
    htouch.regsKeptIn (by simp), htouch.onlyChanges (by simp)⟩

theorem slabZeroFillDone_of_nil (s : State) (e : Fin 96) (hwork : (s.eng e.val).slab.work = .zeroFill)
    (hnil : s.vec.retiring = []) :
    Completes (.slabZeroFillDone e) s fun t =>
      (t.eng e.val).slab = Slab.settle { (s.eng e.val).slab with words := [], ready := true, wake := 1, lost := (s.eng e.val).slab.lost && (s.serves e.val).isSome, work := .none } e.val ∧
      (∀ k < 96, k ≠ e.val → t.eng k = s.eng k) ∧ OnlyChanges [.vec] s t := by
  refine ⟨s.fillEnds e.val, if_pos hwork, ?_⟩
  rw [State.fillEnds_eq]
  exact s.workEnds_setSlab_of_nil e.val _ hnil

/-- The content of a slab that has woken, with its corrected words and their number (R197). -/
def State.wokenSlab (s : State) (e : Nat) (ws : Sparse Codeword) (n : Nat) : Slab :=
  { (s.eng e).slab with words := ws, wakeCe := min n 0xFFFF, wake := if n = 0 then 2 else 3, ready := true }

/-- A wake scrub that finds the canary and no uncorrectable word ends with the slab's work (R197). -/
theorem State.wakeEnds_of_scrub (s : State) (e : Nat) {ws : Sparse Codeword} {n : Nat}
    (hclean : cleanWord ((s.eng e).slab.word 65536) = true)
    (hcanary : ((s.eng e).slab.word 65536).toNat % 2 ^ 256 = canaryData e)
    (hscrub : (Slab.scrub (s.eng e).slab.words).toOption = some (ws, n)) :
    s.wakeEnds e = (s.setSlab e (s.wokenSlab e ws n)).workEnds e := by
  unfold State.wakeEnds
  dsimp only
  rw [if_neg (not_or.mpr ⟨by simp [hclean], not_not.mpr hcanary⟩)]
  cases h : Slab.scrub (s.eng e).slab.words with
  | error n => simp [h, Except.toOption] at hscrub
  | ok r =>
    obtain ⟨ws', n'⟩ := r
    simp only [h, Except.toOption, Option.some.injEq, Prod.mk.injEq] at hscrub
    obtain ⟨rfl, rfl⟩ := hscrub
    rfl

theorem slabWakeScrubDone_wakes (s : State) (e : Fin 96) (ws : Sparse Codeword) (n : Nat)
    (hwork : (s.eng e.val).slab.work = .wakeScrub) (hwant : (s.eng e.val).slab.want = none)
    (hclean : cleanWord ((s.eng e.val).slab.word 65536) = true)
    (hcanary : ((s.eng e.val).slab.word 65536).toNat % 2 ^ 256 = canaryData e.val)
    (hscrub : (Slab.scrub (s.eng e.val).slab.words).toOption = some (ws, n)) :
    Completes (.slabWakeScrubDone e) s fun t =>
      (t.eng e.val).slab.ready = true ∧ (t.eng e.val).slab.words = ws ∧
      (t.eng e.val).slab.wake = (if n = 0 then 2 else 3) ∧ (t.eng e.val).slab.wakeCe = min n 0xFFFF ∧
      RegsKeptIn [R.BOND_SAT, fun _ => R.BUF_SAT, R.ETH_SAT, R.MEM_UE_LOG_B, R.PON_STAT_SAT, fun _ => R.SCH_SAT,
        R.SLAB_SAT, R.SVL_SAT] s t ∧
      OnlyChanges [.out, .freeCtr, .regs, .cnt, .arb, .fns, .pon, .bonding, .buf, .sched, .clsIn, .vec, .svl, .mac,
        .lanes, .mem] s t := by
  have htouch := s.workEnds_setSlab_touches e.val (s.wokenSlab e.val ws n)
  have hslab := s.workEnds_setSlab_of_want_none e.val (b := s.wokenSlab e.val ws n) hwant
  have hends := s.wakeEnds_of_scrub e.val hclean hcanary hscrub
  rw [← hends] at htouch hslab
  exact ⟨s.wakeEnds e.val, if_pos hwork, congrArg Slab.ready hslab, congrArg Slab.words hslab, congrArg Slab.wake hslab,
    congrArg Slab.wakeCe hslab, htouch.regsKeptIn (by simp), htouch.onlyChanges (by simp)⟩

theorem slabWakeScrubDone_of_nil (s : State) (e : Fin 96) (ws : Sparse Codeword) (n : Nat)
    (hwork : (s.eng e.val).slab.work = .wakeScrub) (hnil : s.vec.retiring = [])
    (hclean : cleanWord ((s.eng e.val).slab.word 65536) = true)
    (hcanary : ((s.eng e.val).slab.word 65536).toNat % 2 ^ 256 = canaryData e.val)
    (hscrub : (Slab.scrub (s.eng e.val).slab.words).toOption = some (ws, n)) :
    Completes (.slabWakeScrubDone e) s fun t =>
      (t.eng e.val).slab = Slab.settle { (s.eng e.val).slab with words := ws, wakeCe := min n 0xFFFF, wake := if n = 0 then 2 else 3, ready := true, work := .none } e.val ∧
      (∀ k < 96, k ≠ e.val → t.eng k = s.eng k) ∧ OnlyChanges [.vec] s t := by
  refine ⟨s.wakeEnds e.val, if_pos hwork, ?_⟩
  rw [s.wakeEnds_of_scrub e.val hclean hcanary hscrub]
  exact s.workEnds_setSlab_of_nil e.val _ hnil

/-- A slab that fails to wake: its work ends, how it woke is told, and it is lost (R197, R199). -/
def State.failWake (s : State) (e code cause word : Nat) : State :=
  (s.setSlab e { (s.eng e).slab with work := .none, wake := code }).loseSlab e cause word

/-- What a failed wake leaves, after at most a log of the uncorrectable word. -/
theorem State.failWake_spec {t : State} (e code cause word : Nat) (ht : Touches logReach s t)
    (hcount : s.count (C.SLAB_LOST e) < 0xFFFFFFFE) :
    ((t.failWake e code cause word).eng e).slab.ready = false ∧ ((t.failWake e code cause word).eng e).slab.lost = true ∧
      ((t.failWake e code cause word).eng e).slab.wake = code ∧
      (t.failWake e code cause word).count (C.SLAB_LOST e) = s.count (C.SLAB_LOST e) + 1 ∧
      (∀ k < 96, k ≠ e → (t.failWake e code cause word).eng k = s.eng k) ∧
      RegsKeptIn [R.BOND_SAT, fun _ => R.BUF_SAT, R.ETH_SAT, R.MEM_UE_LOG_B, R.PON_STAT_SAT, fun _ => R.SCH_SAT,
        R.SLAB_SAT, R.SVL_SAT] s (t.failWake e code cause word) ∧
      OnlyChanges [.out, .freeCtr, .regs, .cnt, .arb, .fns, .pon, .bonding, .buf, .sched, .clsIn, .vec, .svl, .mac,
        .lanes, .mem] s (t.failWake e code cause word) := by
  set b : Slab := { (t.eng e).slab with work := .none, wake := code } with hb
  have hfail : t.failWake e code cause word = (t.setSlab e b).loseSlab e cause word := rfl
  rw [hfail]
  obtain ⟨⟨w, r, heng⟩, hothers⟩ := (t.setSlab e b).loseSlab_eng e cause word
  have hslab := congrArg Eng.slab heng
  have hcnt : t.count (C.SLAB_LOST e) = s.count (C.SLAB_LOST e) := ht.ctrs _ (by simp)
  have htouch : Touches ⟨[.regs, .cnt, .arb, .vec, .mem], (R.SLAB_SAT, e) :: logReach.regs, [C.SLAB_LOST e]⟩ s
      ((t.setSlab e b).loseSlab e cause word) :=
    (((Touches.refl _ s).next ht ⟨by simp, fun _ hr => List.mem_cons_of_mem _ hr, by simp⟩).part
      (t.setSlab_touches e b)).next (State.loseSlab_touches ..) ⟨by simp, by simp, by simp⟩
  refine ⟨congrArg Slab.ready hslab, congrArg Slab.lost hslab, (congrArg Slab.wake hslab).trans ?_, ?_, fun k _ hk => ?_,
    htouch.regsKeptIn ?_, htouch.onlyChanges (by simp)⟩
  · show ((t.setSlab e b).eng e).slab.wake = code
    rw [State.slab_setSlab]
  · rw [← hcnt] at hcount ⊢
    exact (t.setSlab e b).loseSlab_count e cause word hcount
  · rw [hothers k hk, State.eng_setSlab_of_ne _ _ hk, ht.eng k]
  · simp only [logReach, List.mem_cons, List.mem_map, List.mem_range]
    rintro r (rfl | ⟨i, -, rfl⟩) <;> simp

theorem slabWakeScrubDone_wrongCanary (s : State) (e : Fin 96) (hwork : (s.eng e.val).slab.work = .wakeScrub)
    (hbad : cleanWord ((s.eng e.val).slab.word 65536) = false ∨
      ((s.eng e.val).slab.word 65536).toNat % 2 ^ 256 ≠ canaryData e.val)
    (hcount : s.count (C.SLAB_LOST e.val) < 0xFFFFFFFE) :
    Completes (.slabWakeScrubDone e) s fun t =>
      (t.eng e.val).slab.ready = false ∧ (t.eng e.val).slab.lost = true ∧ (t.eng e.val).slab.wake = 4 ∧
      t.count (C.SLAB_LOST e.val) = s.count (C.SLAB_LOST e.val) + 1 ∧ (∀ k < 96, k ≠ e.val → t.eng k = s.eng k) ∧
      RegsKeptIn [R.BOND_SAT, fun _ => R.BUF_SAT, R.ETH_SAT, R.MEM_UE_LOG_B, R.PON_STAT_SAT, fun _ => R.SCH_SAT,
        R.SLAB_SAT, R.SVL_SAT] s t ∧
      OnlyChanges [.out, .freeCtr, .regs, .cnt, .arb, .fns, .pon, .bonding, .buf, .sched, .clsIn, .vec, .svl, .mac,
        .lanes, .mem] s t := by
  have hends : s.wakeEnds e.val = s.failWake e.val 4 0 65536 := if_pos hbad
  refine ⟨s.wakeEnds e.val, if_pos hwork, ?_⟩
  rw [hends]
  exact State.failWake_spec e.val 4 0 65536 (.refl _ s) hcount

theorem slabWakeScrubDone_uncorrectable (s : State) (e : Fin 96) (hwork : (s.eng e.val).slab.work = .wakeScrub)
    (hclean : cleanWord ((s.eng e.val).slab.word 65536) = true)
    (hcanary : ((s.eng e.val).slab.word 65536).toNat % 2 ^ 256 = canaryData e.val)
    (hscrub : (Slab.scrub (s.eng e.val).slab.words).toOption = none)
    (hcount : s.count (C.SLAB_LOST e.val) < 0xFFFFFFFE) :
    Completes (.slabWakeScrubDone e) s fun t =>
      (t.eng e.val).slab.ready = false ∧ (t.eng e.val).slab.lost = true ∧ (t.eng e.val).slab.wake = 5 ∧
      t.count (C.SLAB_LOST e.val) = s.count (C.SLAB_LOST e.val) + 1 ∧ (∀ k < 96, k ≠ e.val → t.eng k = s.eng k) ∧
      RegsKeptIn [R.BOND_SAT, fun _ => R.BUF_SAT, R.ETH_SAT, R.MEM_UE_LOG_B, R.PON_STAT_SAT, fun _ => R.SCH_SAT,
        R.SLAB_SAT, R.SVL_SAT] s t ∧
      OnlyChanges [.out, .freeCtr, .regs, .cnt, .arb, .fns, .pon, .bonding, .buf, .sched, .clsIn, .vec, .svl, .mac,
        .lanes, .mem] s t := by
  obtain ⟨n, hends⟩ : ∃ n, s.wakeEnds e.val = (s.logUe 4 (65537 * e.val + n) 1).failWake e.val 5 1 n := by
    unfold State.wakeEnds
    dsimp only
    rw [if_neg (not_or.mpr ⟨by simp [hclean], not_not.mpr hcanary⟩)]
    cases h : Slab.scrub (s.eng e.val).slab.words with
    | error n => exact ⟨n, rfl⟩
    | ok r => simp [h, Except.toOption] at hscrub
  refine ⟨s.wakeEnds e.val, if_pos hwork, ?_⟩
  rw [hends]
  exact State.failWake_spec e.val 5 1 n (s.logUe_touches_log ..) hcount

/-! Reload. -/

/-- The slab of an engine leaves the queue of reloads. -/
def State.unqueue (s : State) (e : Nat) : State := s.setVec { s.vec with reloads := s.vec.reloads.filter (fun n => n != e) }

theorem State.unqueue_touches (s : State) (e : Nat) : Touches ⟨[.vec], [], []⟩ s (s.unqueue e) := s.setVec_touches _
theorem State.eng_unqueue (s : State) (e k : Nat) : (s.unqueue e).eng k = s.eng k := rfl
theorem State.vg_unqueue (s : State) (e g : Nat) : (s.unqueue e).vg g = s.vg g := rfl
theorem State.serves_unqueue (s : State) (e k : Nat) : (s.unqueue e).serves k = s.serves k := rfl
theorem State.goodCkpt_unqueue (s : State) (e g k : Nat) : (s.unqueue e).goodCkpt g k = s.goodCkpt g k := rfl

/-- The content of a slab that a checkpoint restores (R199). -/
def State.restoredSlab (s : State) (e : Nat) (c : Ckpt) : Slab :=
  { (s.eng e).slab with words := c.words, ready := true, lost := false, reload := 1 }

/-- A reload from a good checkpoint: the words come, the tone group restores, the slab's work ends, and it is told (R199). -/
theorem State.reloadEnds_of_good (s : State) (e g k : Nat) (c : Ckpt) (hserves : s.serves e = some (g, k))
    (hgood : s.goodCkpt g k = some c) :
    ∃ fs, s.reloadEnds e = ((((s.unqueue e).setSlab e (s.restoredSlab e c)).modTg g k
      (fun t => { t with restore := true })).workEnds e).raiseRow (engSource e) 2 6 8 2 fs := by
  unfold State.reloadEnds
  rw [← State.unqueue]
  dsimp only
  rw [State.serves_unqueue, hserves]
  dsimp only
  rw [State.goodCkpt_unqueue, hgood]
  exact ⟨_, rfl⟩

/-- The content of a slab that no checkpoint restores (R199, R268). -/
def State.emptiedSlab (s : State) (e : Nat) : Slab :=
  { (s.eng e).slab with words := [], overlay := [], reload := 2, work := .zeroFill }

/-- A reload without a good checkpoint: a zero-fill, and the tone group estimates (R199, R268). -/
theorem State.reloadEnds_of_bad (s : State) (e g k : Nat) (hserves : s.serves e = some (g, k))
    (hgood : s.goodCkpt g k = none) :
    ∃ fs, s.reloadEnds e = ((((s.unqueue e).setSlab e (s.emptiedSlab e)).modTg g k
      (fun t => { t with lostByp := false, est := true, relAt := none, version := 0 })).raiseRow (engSource e) 2 6 8 2
        fs).raiseRow 0x0030 1 8 3 2 [(1, g), (1, k), (1, e)] := by
  unfold State.reloadEnds
  rw [← State.unqueue]
  dsimp only
  rw [State.serves_unqueue, hserves]
  dsimp only
  rw [State.goodCkpt_unqueue, hgood]
  exact ⟨_, rfl⟩

theorem State.reloadEnds_of_idle (s : State) (e : Nat) (hserves : s.serves e = none) :
    s.reloadEnds e = (s.unqueue e).setSlab e { (s.eng e).slab with work := .zeroFill, reload := 0 } := by
  unfold State.reloadEnds
  rw [← State.unqueue]
  dsimp only
  rw [State.serves_unqueue, hserves]
  rfl

theorem slabReloadDone_restores (s : State) (e : Fin 96) (g k : Nat) (c : Ckpt) (hwork : (s.eng e.val).slab.work = .reload)
    (hhead : s.vec.reloads.head? = some e.val) (hserves : s.serves e.val = some (g, k))
    (hgood : s.goodCkpt g k = some c) (hwant : (s.eng e.val).slab.want = none) :
    Completes (.slabReloadDone e) s fun t =>
      (t.eng e.val).slab.words = c.words ∧ (t.eng e.val).slab.ready = true ∧ (t.eng e.val).slab.lost = false ∧
      (t.eng e.val).slab.reload = 1 ∧ ((t.vg g).tg k).restore = true ∧ OnlyChanges [.out, .arb, .fns, .vec] s t := by
  refine ⟨s.reloadEnds e.val, if_pos ⟨hwork, hhead⟩, ?_⟩
  obtain ⟨fs, hends⟩ := s.reloadEnds_of_good e.val g k c hserves hgood
  set v := ((s.unqueue e.val).setSlab e.val (s.restoredSlab e.val c)).modTg g k (fun t => { t with restore := true }) with hv
  have hslab : (v.eng e.val).slab = s.restoredSlab e.val c := by rw [hv, State.eng_modTg, State.slab_setSlab]
  have htg : ((v.vg g).tg k).restore = true := by
    rw [hv, State.tg_modTg _ (by rw [State.vg_setSlab, State.vg_unqueue]; exact (State.serves_lt hserves).2)]
  have htouch : Touches ⟨[.out, .arb, .fns, .vec], [], []⟩ s v :=
    (((Touches.refl _ s).part (s.unqueue_touches e.val)).part (State.setSlab_touches ..)).part (State.modTg_touches ..)
  have hdone := v.workEnds_slab_of_want_none e.val (by rw [hslab]; exact hwant)
  rw [hslab] at hdone
  rw [hends, State.eng_raiseRow, State.vg_raiseRow, State.workEnds_vg]
  exact ⟨congrArg Slab.words hdone, congrArg Slab.ready hdone, congrArg Slab.lost hdone, congrArg Slab.reload hdone, htg,
    ((htouch.trans (v.workEnds_touches _)).part (State.raiseRow_touches ..)).onlyChanges (fun _ hx => hx)⟩

theorem slabReloadDone_estimates (s : State) (e : Fin 96) (g k : Nat) (hwork : (s.eng e.val).slab.work = .reload)
    (hhead : s.vec.reloads.head? = some e.val) (hserves : s.serves e.val = some (g, k))
    (hgood : s.goodCkpt g k = none) :
    Completes (.slabReloadDone e) s fun t =>
      (t.eng e.val).slab = { (s.eng e.val).slab with words := [], overlay := [], reload := 2, work := .zeroFill } ∧
      ((t.vg g).tg k).est = true ∧ ((t.vg g).tg k).version = 0 ∧ (∀ k < 96, k ≠ e.val → t.eng k = s.eng k) ∧
      OnlyChanges [.out, .arb, .fns, .vec] s t := by
  refine ⟨s.reloadEnds e.val, if_pos ⟨hwork, hhead⟩, ?_⟩
  obtain ⟨fs, hends⟩ := s.reloadEnds_of_bad e.val g k hserves hgood
  have htouch : Touches ⟨[.out, .arb, .fns, .vec], [], []⟩ s (s.reloadEnds e.val) := by
    rw [hends]
    exact (((((Touches.refl _ s).part (s.unqueue_touches e.val)).part (State.setSlab_touches ..)).part
      (State.modTg_touches ..)).part (State.raiseRow_touches ..)).part (State.raiseRow_touches ..)
  refine ⟨?_, ?_, ?_, fun j _ hj => ?_, htouch.onlyChanges (fun _ hx => hx)⟩
  · rw [hends, State.eng_raiseRow, State.eng_raiseRow, State.eng_modTg, State.slab_setSlab]
    rfl
  · rw [hends, State.vg_raiseRow, State.vg_raiseRow,
      State.tg_modTg _ (by rw [State.vg_setSlab, State.vg_unqueue]; exact (State.serves_lt hserves).2)]
  · rw [hends, State.vg_raiseRow, State.vg_raiseRow,
      State.tg_modTg _ (by rw [State.vg_setSlab, State.vg_unqueue]; exact (State.serves_lt hserves).2)]
  · rw [hends, State.eng_raiseRow, State.eng_raiseRow, State.eng_modTg, State.eng_setSlab_of_ne _ _ hj, State.eng_unqueue]

theorem slabReloadDone_of_idle (s : State) (e : Fin 96) (hwork : (s.eng e.val).slab.work = .reload)
    (hhead : s.vec.reloads.head? = some e.val) (hserves : s.serves e.val = none) :
    Completes (.slabReloadDone e) s fun t =>
      (t.eng e.val).slab = { (s.eng e.val).slab with work := .zeroFill, reload := 0 } ∧
      (∀ k < 96, k ≠ e.val → t.eng k = s.eng k) ∧ OnlyChanges [.vec] s t := by
  refine ⟨s.reloadEnds e.val, if_pos ⟨hwork, hhead⟩, ?_⟩
  rw [s.reloadEnds_of_idle e.val hserves]
  refine ⟨State.slab_setSlab .., fun j _ hj => ?_,
    ((s.unqueue_touches e.val).trans (State.setSlab_touches ..)).onlyChanges (fun _ hx => hx)⟩
  rw [State.eng_setSlab_of_ne _ _ hj, State.eng_unqueue]

end Sys2Proof.Machine
end

section
/-! SUPPORT. Words of a slab by indirect access, in runs and by the copy path: the clauses of O26 on them (R205, R207, R212, R267,
R525, R627). -/

namespace Sys2Proof.Machine

variable {s t : State} {p : Pkt} {b : Slab} {e i n : Nat} {d : Codeword}

/-! Words written. -/

theorem Slab.words_updWrite (b : Slab) (a v : Nat) : (b.updWrite a v).words = (b.setWord a (encodeWord v)).words := by
  unfold Slab.updWrite
  generalize b.setWord a (encodeWord v) = c
  dsimp only
  split
  · rfl
  · rfl

theorem Slab.word_updWrite (b : Slab) (a v j : Nat) :
    (b.updWrite a v).word j = if j = a then encodeWord v else b.word j := by
  rw [Slab.word_congr (b.words_updWrite a v), Slab.word_setWord]

theorem Slab.word_writeRun (b : Slab) (i : Nat) (bs : List Byte) (n j : Nat) :
    (b.writeRun i bs n).word j =
      if i ≤ j ∧ j < i + n then encodeWord (ofLe (sliceB bs (32 * (j - i)) 32)) else b.word j := by
  induction n generalizing b i bs with
  | zero => rw [Slab.writeRun, if_neg (by omega)]
  | succ n ih =>
    rw [Slab.writeRun, ih, Slab.word_updWrite]
    by_cases hj : j = i
    · rw [if_neg (by omega), if_pos hj, if_pos (by omega), hj, Nat.sub_self]
      rfl
    · by_cases hin : i + 1 ≤ j ∧ j < i + 1 + n
      · rw [if_pos hin, if_pos (by omega)]
        have hdrop : sliceB (bs.drop 32) (32 * (j - (i + 1))) 32 = sliceB bs (32 * (j - i)) 32 := by
          rw [sliceB, sliceB, List.drop_drop]
          congr 2
          omega
        rw [hdrop]
      · rw [if_neg hin, if_neg hj, if_neg (by omega)]

/-! Injection. -/

theorem State.injectEng_of_none {m : Nat} (h : s.injection m = none) (e i : Nat) : s.injectEng m e i = s := by
  unfold State.injectEng
  rw [h]

theorem State.injectEng_slab (h : s.injection 4 = some d) (e i : Nat) :
    s.injectEng 4 e i = (s.setFld F.MEM_INJ_GO 0).setSlab e ((s.eng e).slab.setWord i ((s.eng e).slab.word i ^^^ d)) := by
  unfold State.injectEng State.setSlab
  rw [h]
  dsimp only
  rw [State.eng_setFld]
  rfl

theorem State.flag_injGo_setFld (s : State) : (s.setFld F.MEM_INJ_GO 0).flag F.MEM_INJ_GO = false := by
  rw [State.flag, s.fld_setFld_same F.MEM_INJ_GO 0]
  rfl

@[simp] theorem State.flag_setSlab (s : State) (e : Nat) (b : Slab) (f : Fld) : (s.setSlab e b).flag f = s.flag f := rfl

theorem State.injection_setSlab (s : State) (e : Nat) (b : Slab) (m : Nat) :
    (s.setSlab e b).injection m = s.injection m := rfl

/-- Words are put into a slab and no injection is armed. -/
theorem State.putSlab_of_none (h : s.injection 4 = none) (e i : Nat) (b : Slab) :
    (s.setSlab e b).injectEng 4 e i = s.setSlab e b :=
  State.injectEng_of_none ((s.injection_setSlab e b 4).trans h) e i

/-- Words are put into a slab and an armed injection falls on word i (R525). -/
theorem State.putSlab_of_some (h : s.injection 4 = some d) (e i : Nat) (b : Slab) :
    (((s.setSlab e b).injectEng 4 e i).eng e).slab = b.setWord i (b.word i ^^^ d) ∧
      (∀ k, k ≠ e → ((s.setSlab e b).injectEng 4 e i).eng k = s.eng k) ∧
      ((s.setSlab e b).injectEng 4 e i).flag F.MEM_INJ_GO = false ∧
      Touches ⟨[.regs, .vec], [(fun _ => R.MEM_INJ, 0)], []⟩ s ((s.setSlab e b).injectEng 4 e i) := by
  rw [State.injectEng_slab ((s.injection_setSlab e b 4).trans h)]
  refine ⟨by rw [State.slab_setSlab, State.slab_setSlab], fun k hk => ?_, ?_, ?_⟩
  · rw [State.eng_setSlab_of_ne _ _ hk, State.eng_setFld, State.eng_setSlab_of_ne _ _ hk]
  · rw [State.flag_setSlab, State.flag_injGo_setFld]
  · exact (((Touches.refl _ s).part (s.setSlab_touches e b)).next
      (State.setFld_touches _ F.MEM_INJ_GO 0 (fun _ => R.MEM_INJ, 0) rfl) ⟨by simp, by simp, by simp⟩).part
      (State.setSlab_touches ..)

/-! Indirect access. -/

theorem State.indOk_eq_true (hst : (s.eng e).st ≠ .running) (hready : (s.eng e).slab.ready = true) : s.indOk e = true := by
  simp [State.indOk, hst, hready]

/-- The address that indirect access has been given (R212). -/
def State.indAddressed (s : State) (e word wr : Nat) : State :=
  (s.setFld (F.SLAB_ADDR_WORD e) word).setFld (F.SLAB_ADDR_WR e) wr

theorem State.indAddressed_touches (s : State) (e word wr : Nat) :
    Touches ⟨[.regs], [(R.SLAB_ADDR, e)], []⟩ s (s.indAddressed e word wr) :=
  (s.setFld_touches _ word (R.SLAB_ADDR, e) rfl).trans (State.setFld_touches _ _ wr (R.SLAB_ADDR, e) rfl)

theorem State.eng_indAddressed (s : State) (e word wr k : Nat) : (s.indAddressed e word wr).eng k = s.eng k := by
  rw [State.indAddressed, State.eng_setFld, State.eng_setFld]

theorem State.indOk_indAddressed (s : State) (e word wr : Nat) : (s.indAddressed e word wr).indOk e = s.indOk e := by
  rw [State.indOk, State.indOk, State.eng_indAddressed]

theorem State.indAddressed_word (s : State) (e : Nat) (word : BitVec 17) (wr : Nat) :
    (s.indAddressed e word.toNat wr).fld (F.SLAB_ADDR_WORD e) = word.toNat := by
  rw [State.indAddressed, State.fld_setFld_of_disjoint _ (F.SLAB_ADDR_WR e) (F.SLAB_ADDR_WORD e) wr rfl (by simp),
    s.fld_setFld_same (F.SLAB_ADDR_WORD e)]
  exact Nat.mod_eq_of_lt word.isLt

theorem State.indAddressed_wr (s : State) (e word : Nat) : (s.indAddressed e word 0).fld (F.SLAB_ADDR_WR e) = 0 := by
  rw [State.indAddressed, State.fld_setFld_same _ (F.SLAB_ADDR_WR e)]
  rfl

theorem State.injection_indAddressed (s : State) {e : Nat} (he : e < 96) (word wr m : Nat) :
    (s.indAddressed e word wr).injection m = s.injection m := by
  have htouch := s.indAddressed_touches e word wr
  exact State.injection_of_regs m (htouch.regs _ (by simp [R.MEM_INJ, R.SLAB_ADDR]; omega))
    (htouch.regs _ (by simp [R.MEM_INJ_PAT, R.SLAB_ADDR]; omega))

/-- Indirect access that is refused (R212). -/
theorem State.indRefused_spec (s : State) (e word wr : Nat) :
    ((s.indAddressed e word wr).indRefused e).fld (F.SLAB_STATUS_IND_REFUSED e) = 1 ∧
      RegsKept [R.SLAB_ADDR e, R.SLAB_STATUS e] s ((s.indAddressed e word wr).indRefused e) ∧
      OnlyChanges [.regs] s ((s.indAddressed e word wr).indRefused e) := by
  have htouch : Touches ⟨[.regs], [(R.SLAB_ADDR, e), (R.SLAB_STATUS, e)], []⟩ s ((s.indAddressed e word wr).indRefused e) :=
    ((s.indAddressed_touches e word wr).mono ⟨by simp, by simp, by simp⟩).next
      (State.setFld_touches _ _ 1 (R.SLAB_STATUS, e) rfl) ⟨by simp, by simp, by simp⟩
  exact ⟨State.fld_setFld_same _ (F.SLAB_STATUS_IND_REFUSED e) 1, htouch.regsKept (by simp), htouch.onlyChanges (fun _ hx => hx)⟩

theorem State.indAccess_refused {word : BitVec 17} {wr : Nat}
    (h : (s.eng e).st = .running ∨ (s.eng e).slab.ready = false ∨ 65536 < word.toNat) :
    ¬ ((s.indAddressed e word.toNat wr).indOk e = true ∧ word.toNat ≤ 65536) := by
  rw [State.indOk_indAddressed]
  obtain h | h | h := h
  · simp [State.indOk, h]
  · simp [State.indOk, h]
  · exact fun hle => absurd hle.2 (by omega)

theorem slabIndirectRead_refused (s : State) (e : Fin 96) (word : BitVec 17)
    (h : (s.eng e.val).st = .running ∨ (s.eng e.val).slab.ready = false ∨ 65536 < word.toNat) :
    Completes (.slabIndirectRead e word) s fun t =>
      t.fld (F.SLAB_STATUS_IND_REFUSED e.val) = 1 ∧ RegsKept [R.SLAB_ADDR e.val, R.SLAB_STATUS e.val] s t ∧
      OnlyChanges [.regs] s t :=
  ⟨_, if_neg (State.indAccess_refused h), s.indRefused_spec e.val word.toNat 0⟩

theorem slabIndirectWrite_refused (s : State) (e : Fin 96) (word : BitVec 17)
    (h : (s.eng e.val).st = .running ∨ (s.eng e.val).slab.ready = false ∨ 65536 < word.toNat) :
    Completes (.slabIndirectWrite e word) s fun t =>
      t.fld (F.SLAB_STATUS_IND_REFUSED e.val) = 1 ∧ RegsKept [R.SLAB_ADDR e.val, R.SLAB_STATUS e.val] s t ∧
      OnlyChanges [.regs] s t :=
  ⟨_, if_neg (State.indAccess_refused h), s.indRefused_spec e.val word.toNat 1⟩

/-- Registers written one after another, no register twice. -/
theorem State.rd_foldl_wr (f : Nat → Nat) (v : Nat → Word) (hf : Function.Injective f) (l : List Nat) (s : State) (o : Nat) :
    (∀ i ∈ l, o = f i → (l.foldl (fun s i => s.wr (f i) (v i)) s).rd o = v i) ∧
      ((∀ i ∈ l, o ≠ f i) → (l.foldl (fun s i => s.wr (f i) (v i)) s).rd o = s.rd o) := by
  induction l generalizing s with
  | nil => exact ⟨by simp, fun _ => rfl⟩
  | cons a l ih =>
    obtain ⟨hin, hout⟩ := ih (s.wr (f a) (v a))
    refine ⟨fun i hi ho => ?_, fun hno => ?_⟩
    · by_cases hil : i ∈ l
      · exact hin i hil ho
      · have hia : i = a := by simpa [hil] using hi
        have hnot : ∀ j ∈ l, o ≠ f j := fun j hj hoj => hil (hf (ho.symm.trans hoj) ▸ hj)
        rw [List.foldl_cons, hout hnot, State.rd_wr, if_pos (hia ▸ ho), hia]
    · rw [List.foldl_cons, hout (fun i hi => hno i (List.mem_cons_of_mem _ hi)), State.rd_wr,
        if_neg (hno a List.mem_cons_self)]

theorem State.foldl_wr_touches (f : Nat → Nat) (v : Nat → Word) (l : List Nat) (s : State) :
    Touches ⟨[.regs], l.map (fun i => (f, i)), []⟩ s (l.foldl (fun s i => s.wr (f i) (v i)) s) := by
  induction l generalizing s with
  | nil => exact .refl _ s
  | cons a l ih =>
    exact ((s.wr_touches (f, a) (v a)).mono ⟨by simp, by simp, by simp⟩).next (ih _)
      ⟨by simp, fun r hr => List.mem_cons_of_mem _ hr, by simp⟩

theorem slabData_injective (e : Nat) : Function.Injective (R.SLAB_DATA e) := fun i j h => by
  simp only [R.SLAB_DATA] at h
  omega

theorem slabIndirectRead_completes (s : State) (e : Fin 96) (word : BitVec 17) (hst : (s.eng e.val).st ≠ .running)
    (hready : (s.eng e.val).slab.ready = true) (hword : word.toNat ≤ 65536) :
    Completes (.slabIndirectRead e word) s fun t =>
      (∀ i < 8, (t.rd (R.SLAB_DATA e.val i)).toNat =
        (((s.eng e.val).slab.through word.toNat).toNat >>> (32 * i)) % 2 ^ 32) ∧
      (t.rd (R.SLAB_DATA_CHECK e.val)).toNat = ((s.eng e.val).slab.through word.toNat).toNat >>> 256 ∧
      t.fld (F.SLAB_ADDR_WORD e.val) = word.toNat ∧ t.fld (F.SLAB_ADDR_WR e.val) = 0 ∧
      RegsKept (R.SLAB_ADDR e.val :: R.SLAB_DATA_CHECK e.val :: (List.range 8).map (R.SLAB_DATA e.val)) s t ∧
      OnlyChanges [.regs] s t := by
  have heng : (s.eng e.val).slab = ((s.indAddressed e.val word.toNat 0).eng e.val).slab := by rw [State.eng_indAddressed]
  have hok : (s.indAddressed e.val word.toNat 0).indOk e.val = true := by
    rw [State.indOk_indAddressed]
    exact State.indOk_eq_true hst hready
  rw [heng]
  set u := s.indAddressed e.val word.toNat 0 with hu
  set c := ((u.eng e.val).slab.through word.toNat).toNat with hc
  set v := (List.range 8).foldl (fun s i => s.wr (R.SLAB_DATA e.val i) (BitVec.ofNat 32 (c >>> (32 * i)))) u with hv
  have hvtouch : Touches ⟨[.regs], (List.range 8).map (fun i => (R.SLAB_DATA e.val, i)), []⟩ u v :=
    State.foldl_wr_touches _ _ _ u
  have hcheck : c >>> 256 < 2 ^ 32 := by
    rw [Nat.shiftRight_eq_div_pow]
    exact Nat.div_lt_of_lt_mul (((u.eng e.val).slab.through word.toNat).isLt.trans_eq (by rw [← pow_add]))
  have hkept : ∀ o, o ≠ R.SLAB_DATA_CHECK e.val → (∀ i < 8, R.SLAB_DATA e.val i ≠ o) →
      (v.wr (R.SLAB_DATA_CHECK e.val) (BitVec.ofNat 32 (c >>> 256))).rd o = u.rd o := fun o ho hdata => by
    rw [State.rd_wr, if_neg ho]
    exact hvtouch.regs o (by simpa using hdata)
  have haddr : (v.wr (R.SLAB_DATA_CHECK e.val) (BitVec.ofNat 32 (c >>> 256))).rd (R.SLAB_ADDR e.val) =
      u.rd (R.SLAB_ADDR e.val) := hkept _ (by simp only [R.SLAB_ADDR, R.SLAB_DATA_CHECK]; omega)
    (fun i _ => by simp only [R.SLAB_ADDR, R.SLAB_DATA]; omega)
  refine ⟨v.wr (R.SLAB_DATA_CHECK e.val) (BitVec.ofNat 32 (c >>> 256)), if_pos ⟨hok, hword⟩,
    fun i hi => ?_, ?_, ?_, ?_, fun o ho => ?_, ?_⟩
  · rw [State.rd_wr, if_neg (by simp only [R.SLAB_DATA, R.SLAB_DATA_CHECK]; omega),
      (State.rd_foldl_wr _ _ (slabData_injective e.val) _ u _).1 i (List.mem_range.mpr hi) rfl, BitVec.toNat_ofNat]
  · rw [State.rd_wr, if_pos rfl, BitVec.toNat_ofNat, Nat.mod_eq_of_lt hcheck]
  · rw [← s.indAddressed_word e.val word 0, State.fld, State.fld, ← hu, haddr]
  · rw [← s.indAddressed_wr e.val word.toNat, State.fld, State.fld, ← hu, haddr]
  · simp only [List.mem_cons, List.mem_map, List.mem_range, not_or, not_exists, not_and] at ho
    obtain ⟨hoaddr, hocheck, hodata⟩ := ho
    rw [hkept o hocheck (fun i hi => hodata i hi)]
    exact (s.indAddressed_touches e.val word.toNat 0).regs o (by simpa using Ne.symm hoaddr)
  · exact ((s.indAddressed_touches e.val word.toNat 0).onlyChanges (ps := [.regs]) (fun _ hx => hx)).trans
      ((hvtouch.onlyChanges (ps := [.regs]) (fun _ hx => hx)).trans
        ((v.wr_touches (R.SLAB_DATA_CHECK, e.val) _).onlyChanges (fun _ hx => hx)))

end Sys2Proof.Machine
end

section
/-! SUPPORT. Slab words written by indirect access and in runs, slab words read in runs, and the end of a copy: the clauses of
O26 on them (R205, R207, R212, R267, R525, R627). -/

namespace Sys2Proof.Machine

variable {s t : State} {p : Pkt} {b : Slab} {e i n : Nat} {d : Codeword}

/-! SLAB_INDIRECT_WRITE. -/

/-- The data that SLAB_DATA holds for an indirect write (R212). -/
def State.indData (s : State) (e : Nat) : Nat :=
  (List.range 8).foldl (fun d i => d + (s.rd (R.SLAB_DATA e i)).toNat * 2 ^ (32 * i)) 0

theorem State.indData_eq_sum (s : State) (e : Nat) :
    s.indData e = ((List.range 8).map (fun i => (s.rd (R.SLAB_DATA e i)).toNat * 2 ^ (32 * i))).sum := by
  rw [State.indData, List.sum_eq_foldl, List.foldl_map]

theorem State.indData_indAddressed (s : State) (e word wr : Nat) : (s.indAddressed e word wr).indData e = s.indData e := by
  have hrd : ∀ i, (s.indAddressed e word wr).rd (R.SLAB_DATA e i) = s.rd (R.SLAB_DATA e i) := fun i =>
    (s.indAddressed_touches e word wr).regs _ (by simp [R.SLAB_DATA, R.SLAB_ADDR]; omega)
  simp only [State.indData, hrd]

/-- An indirect write of an admitted word (R212). -/
theorem exec_slabIndirectWrite_of_ok {e : Fin 96} {word : BitVec 17} (hst : (s.eng e.val).st ≠ .running)
    (hready : (s.eng e.val).slab.ready = true) (hword : word.toNat < 65536) :
    exec (.slabIndirectWrite e word) s =
      .next (((s.indAddressed e.val word.toNat 1).setSlab e.val
        (((s.indAddressed e.val word.toNat 1).eng e.val).slab.updWrite word.toNat
          ((s.indAddressed e.val word.toNat 1).indData e.val))).injectEng 4 e.val word.toNat) := by
  have hok : (s.indAddressed e.val word.toNat 1).indOk e.val = true := by
    rw [State.indOk_indAddressed]
    exact State.indOk_eq_true hst hready
  exact (if_pos ⟨hok, hword.le⟩).trans (if_neg hword.ne)

theorem slabIndirectWrite_writes (s : State) (e : Fin 96) (word : BitVec 17) (hst : (s.eng e.val).st ≠ .running)
    (hready : (s.eng e.val).slab.ready = true) (hword : word.toNat < 65536) (hinj : s.injection 4 = none) :
    Completes (.slabIndirectWrite e word) s fun t =>
      (t.eng e.val).slab.word word.toNat =
        encodeWord ((List.range 8).map (fun i => (s.rd (R.SLAB_DATA e.val i)).toNat * 2 ^ (32 * i))).sum ∧
      (∀ k < 65537, k ≠ word.toNat → (t.eng e.val).slab.word k = (s.eng e.val).slab.word k) ∧
      (∀ k < 96, k ≠ e.val → t.eng k = s.eng k) ∧ RegsKept [R.SLAB_ADDR e.val] s t ∧ OnlyChanges [.regs, .vec] s t := by
  refine ⟨_, exec_slabIndirectWrite_of_ok hst hready hword, ?_⟩
  rw [State.putSlab_of_none ((s.injection_indAddressed e.isLt _ _ 4).trans hinj), State.eng_indAddressed,
    State.indData_indAddressed, State.indData_eq_sum]
  beta_reduce
  rw [State.slab_setSlab]
  have htouch : Touches ⟨[.regs, .vec], [(R.SLAB_ADDR, e.val)], []⟩ s ((s.indAddressed e.val word.toNat 1).setSlab e.val
      ((s.eng e.val).slab.updWrite word.toNat
        ((List.range 8).map (fun i => (s.rd (R.SLAB_DATA e.val i)).toNat * 2 ^ (32 * i))).sum)) :=
    ((s.indAddressed_touches e.val word.toNat 1).mono ⟨by simp, by simp, by simp⟩).part (State.setSlab_touches ..)
  refine ⟨?_, fun k _ hk => ?_, fun k _ hk => ?_, htouch.regsKept (by simp), htouch.onlyChanges (fun _ hx => hx)⟩
  · rw [Slab.word_updWrite, if_pos rfl]
  · rw [Slab.word_updWrite, if_neg hk]
  · rw [State.eng_setSlab_of_ne _ _ hk, State.eng_indAddressed]

theorem slabIndirectWrite_injects (s : State) (e : Fin 96) (word : BitVec 17) (d : Codeword)
    (hst : (s.eng e.val).st ≠ .running) (hready : (s.eng e.val).slab.ready = true) (hword : word.toNat < 65536)
    (hinj : s.injection 4 = some d) :
    Completes (.slabIndirectWrite e word) s fun t =>
      (t.eng e.val).slab.word word.toNat =
        (encodeWord ((List.range 8).map (fun i => (s.rd (R.SLAB_DATA e.val i)).toNat * 2 ^ (32 * i))).sum) ^^^ d ∧
      t.flag F.MEM_INJ_GO = false ∧
      (∀ k < 65537, k ≠ word.toNat → (t.eng e.val).slab.word k = (s.eng e.val).slab.word k) ∧
      (∀ k < 96, k ≠ e.val → t.eng k = s.eng k) ∧ RegsKept [R.SLAB_ADDR e.val, R.MEM_INJ] s t ∧
      OnlyChanges [.regs, .vec] s t := by
  refine ⟨_, exec_slabIndirectWrite_of_ok hst hready hword, ?_⟩
  obtain ⟨hslab, hothers, hflag, hput⟩ := State.putSlab_of_some ((s.injection_indAddressed e.isLt word.toNat 1 4).trans hinj)
    e.val word.toNat (((s.indAddressed e.val word.toNat 1).eng e.val).slab.updWrite word.toNat
      ((s.indAddressed e.val word.toNat 1).indData e.val))
  have htouch := ((s.indAddressed_touches e.val word.toNat 1).mono
    (G := ⟨[.regs, .vec], [(R.SLAB_ADDR, e.val), (fun _ => R.MEM_INJ, 0)], []⟩) ⟨by simp, by simp, by simp⟩).next hput
    ⟨by simp, by simp, by simp⟩
  rw [hslab]
  refine ⟨?_, hflag, fun k _ hk => ?_, fun k _ hk => ?_, htouch.regsKept (by simp), htouch.onlyChanges (fun _ hx => hx)⟩
  · rw [Slab.word_setWord, if_pos rfl, Slab.word_updWrite, if_pos rfl, State.indData_indAddressed, State.indData_eq_sum]
  · rw [Slab.word_setWord, if_neg hk, Slab.word_updWrite, if_neg hk, State.eng_indAddressed]
  · rw [hothers k hk, State.eng_indAddressed]

theorem slabIndirectWrite_canary (s : State) (e : Fin 96) (word : BitVec 17) (hst : (s.eng e.val).st ≠ .running)
    (hready : (s.eng e.val).slab.ready = true) (hword : word.toNat = 65536) :
    Completes (.slabIndirectWrite e word) s fun t =>
      (∀ k < 96, t.eng k = s.eng k) ∧ RegsKept [R.SLAB_ADDR e.val] s t ∧ OnlyChanges [.regs] s t := by
  have hok : (s.indAddressed e.val word.toNat 1).indOk e.val = true := by
    rw [State.indOk_indAddressed]
    exact State.indOk_eq_true hst hready
  have htouch := s.indAddressed_touches e.val word.toNat 1
  exact ⟨_, (if_pos ⟨hok, hword.le⟩).trans (if_pos hword), fun k _ => s.eng_indAddressed ..,
    htouch.regsKept (by simp), htouch.onlyChanges (fun _ hx => hx)⟩

/-! SLAB_WRITE. -/

theorem State.indOk_afterTake (s : State) (p : Pkt) (e : Nat) : (s.afterTake p).indOk e = s.indOk e := by
  simp [State.indOk]

section SlabWrite
variable (h : Taken 0x2104 p s) (hlen : p.length = 1 + 8 * n) (hn : 0 < n) (htgt : p.target.toNat < 96)
include h hlen hn htgt

theorem slabWrite_busy (hno : s.overcast = true ∨ s.indOk p.target.toNat = false) :
    Ends (.slabWrite p) 0x2104 p s ⟨stBusy, 0, []⟩ fun u => OnlyChanges [] (s.afterTake p) u := by
  refine h.ends_unchanged (exec_slabWrite p s) (if_pos (by omega)) (decide_eq_true htgt) (if_pos ?_)
  rw [State.overcast_afterTake, State.indOk_afterTake]
  simpa using hno

theorem slabWrite_badParam (hcast : s.overcast = false) (hok : s.indOk p.target.toNat = true)
    (hrange : 65536 < p.w 0 + n) :
    Ends (.slabWrite p) 0x2104 p s ⟨stBadParam, 0, []⟩ fun u => OnlyChanges [] (s.afterTake p) u := by
  have hcount : (p.length - 1) / 8 = n := by omega
  refine h.ends_unchanged (exec_slabWrite p s) (if_pos (by omega)) (decide_eq_true htgt) ((if_neg ?_).trans (if_pos ?_))
  · rw [State.overcast_afterTake, State.indOk_afterTake, hcast, hok]
    simp
  · rw [hcount]
    exact hrange

/-- A run of words that is admitted (R627). -/
theorem slabWrite_done {P : State → Prop} (hcast : s.overcast = false) (hok : s.indOk p.target.toNat = true)
    (hrange : p.w 0 + n ≤ 65536)
    (hP : P (((s.afterTake p).setSlab p.target.toNat
      ((s.eng p.target.toNat).slab.writeRun (p.w 0) (p.bytes.drop 4) n)).injectEng 4 p.target.toNat (p.w 0))) :
    Ends (.slabWrite p) 0x2104 p s ⟨stDone, 0, []⟩ P := by
  have hcount : (p.length - 1) / 8 = n := by omega
  refine h.ends_of_checks (exec_slabWrite p s) (if_pos (by omega)) (decide_eq_true htgt) ?_ hP
  dsimp only
  rw [State.overcast_afterTake, State.indOk_afterTake, hcast, hok, hcount, State.eng_afterTake, if_neg (by simp),
    if_neg (by omega)]
  rfl

theorem slabWrite_writes (hcast : s.overcast = false) (hok : s.indOk p.target.toNat = true) (hrange : p.w 0 + n ≤ 65536)
    (hinj : s.injection 4 = none) :
    Ends (.slabWrite p) 0x2104 p s ⟨stDone, 0, []⟩ fun u =>
      (∀ k < n, (u.eng p.target.toNat).slab.word (p.w 0 + k) = encodeWord (ofLe (sliceB p.bytes (4 + 32 * k) 32))) ∧
      (∀ k < 65537, (k < p.w 0 ∨ p.w 0 + n ≤ k) →
        (u.eng p.target.toNat).slab.word k = (s.eng p.target.toNat).slab.word k) ∧
      (∀ k < 96, k ≠ p.target.toNat → u.eng k = s.eng k) ∧ OnlyChanges [.vec] (s.afterTake p) u := by
  refine slabWrite_done h hlen hn htgt hcast hok hrange ?_
  rw [State.putSlab_of_none ((s.injection_afterTake p 4).trans hinj), State.slab_setSlab]
  refine ⟨fun k hk => ?_, fun k _ hk => ?_, fun k _ hk => ?_, (State.setSlab_touches ..).onlyChanges (fun _ hx => hx)⟩
  · rw [Slab.word_writeRun, if_pos (by omega), Nat.add_sub_cancel_left, sliceB, List.drop_drop]
    rfl
  · rw [Slab.word_writeRun, if_neg (by omega)]
  · rw [State.eng_setSlab_of_ne _ _ hk, State.eng_afterTake]

theorem slabWrite_injects (hcast : s.overcast = false) (hok : s.indOk p.target.toNat = true) (hrange : p.w 0 + n ≤ 65536)
    (hinj : s.injection 4 = some d) :
    Ends (.slabWrite p) 0x2104 p s ⟨stDone, 0, []⟩ fun u =>
      (u.eng p.target.toNat).slab.word (p.w 0) = encodeWord (ofLe (sliceB p.bytes 4 32)) ^^^ d ∧
      (∀ k < n, 0 < k → (u.eng p.target.toNat).slab.word (p.w 0 + k) =
        encodeWord (ofLe (sliceB p.bytes (4 + 32 * k) 32))) ∧
      u.flag F.MEM_INJ_GO = false ∧ (∀ k < 96, k ≠ p.target.toNat → u.eng k = s.eng k) ∧ RegsKept [R.MEM_INJ] s u ∧
      OnlyChanges [.vec, .regs] (s.afterTake p) u := by
  refine slabWrite_done h hlen hn htgt hcast hok hrange ?_
  obtain ⟨hslab, hothers, hflag, hput⟩ := State.putSlab_of_some ((s.injection_afterTake p 4).trans hinj)
    p.target.toNat (p.w 0) ((s.eng p.target.toNat).slab.writeRun (p.w 0) (p.bytes.drop 4) n)
  rw [hslab]
  refine ⟨?_, fun k hk hpos => ?_, hflag, fun k _ hk => ?_, hput.regsKept_afterTake (by simp), hput.onlyChanges (by simp)⟩
  · rw [Slab.word_setWord, if_pos rfl, Slab.word_writeRun, if_pos (by omega), Nat.sub_self]
    rfl
  · rw [Slab.word_setWord, if_neg (by omega), Slab.word_writeRun, if_pos (by omega), Nat.add_sub_cancel_left, sliceB,
      List.drop_drop]
    rfl
  · rw [hothers k hk, State.eng_afterTake]

end SlabWrite

/-! SLAB_READ. -/

/-- What the reads of a slab's words touch (R525, R627). -/
@[simp] def slabReadReach (e : Nat) : Reach :=
  ⟨[.regs, .cnt, .arb, .mem], (R.SLAB_SAT, e) :: logReach.regs, [C.SLAB_CE e, C.SLAB_UE e]⟩

theorem logReach_within_slabReadReach (e : Nat) : logReach.Within (slabReadReach e) :=
  ⟨by simp, fun _ hr => List.mem_cons_of_mem _ hr, by simp⟩

theorem decodeWord_clean_iff (c : Codeword) : decodeWord c = .clean ↔ cleanWord c = true := by
  unfold decodeWord cleanWord
  dsimp only
  split
  · next h => simp [h]
  · next h =>
    simp only [Bool.and_eq_true, beq_iff_eq, h, iff_false]
    split
    · simp
    · split <;> simp

theorem State.readSlab_clean (s : State) (e i n : Nat) (h : ∀ k < n, cleanWord ((s.eng e).slab.through (i + k)) = true) :
    s.readSlab e i n = (s, .ok ((List.range n).flatMap
      (fun k => dataBytes (deliveredData ((s.eng e).slab.through (i + k)))))) := by
  induction n generalizing i with
  | zero => rfl
  | succ n ih =>
    have hrest := ih (i + 1) (fun k hk => by rw [Nat.add_assoc, Nat.add_comm 1]; exact h (k + 1) (by omega))
    have hclean := (decodeWord_clean_iff _).mpr (h 0 (by omega))
    rw [Nat.add_zero] at hclean
    rw [State.readSlab]
    simp only [hclean, hrest, List.range_succ_eq_map, List.flatMap_cons, List.flatMap_map, Nat.add_zero]
    simp only [Nat.add_assoc, Nat.add_comm 1, Nat.succ_eq_add_one]

/-- One word in correcting mode that is not uncorrectable: it may be counted as corrected. -/
theorem State.readSlab_succ_of_ne_bad (s : State) (e i n : Nat) (h : decodeWord ((s.eng e).slab.through i) ≠ .bad) :
    ∃ u, Touches (slabReadReach e) s u ∧ (∀ k, u.eng k = s.eng k) ∧ s.readSlab e i (n + 1) =
      match u.readSlab e (i + 1) n with
      | (v, .ok bs) => (v, .ok (dataBytes (deliveredData ((s.eng e).slab.through i)) ++ bs))
      | (v, .error m) => (v, .error m) := by
  rw [State.readSlab]
  dsimp only
  cases hword : decodeWord ((s.eng e).slab.through i) with
  | clean => exact ⟨s, .refl _ s, fun _ => rfl, rfl⟩
  | corrected _ _ =>
    exact ⟨s.bump (C.SLAB_CE e), (Touches.refl _ s).bump (C.SLAB_CE e) (R.SLAB_SAT, e) rfl, fun _ => State.eng_bump .., rfl⟩
  | bad => exact absurd hword h

theorem State.readSlab_ok (s : State) (e i n : Nat) (h : ∀ k < n, decodeWord ((s.eng e).slab.through (i + k)) ≠ .bad) :
    ∃ u, Touches (slabReadReach e) s u ∧ s.readSlab e i n = (u, .ok ((List.range n).flatMap
      (fun k => dataBytes (deliveredData ((s.eng e).slab.through (i + k)))))) := by
  induction n generalizing s i with
  | zero => exact ⟨s, .refl _ s, rfl⟩
  | succ n ih =>
    obtain ⟨u, htouch, heng, hread⟩ := s.readSlab_succ_of_ne_bad e i n (h 0 (by omega))
    obtain ⟨v, hv, hrest⟩ := ih u (i + 1)
      (fun k hk => by rw [heng, Nat.add_assoc, Nat.add_comm 1]; exact h (k + 1) (by omega))
    refine ⟨v, htouch.trans hv, ?_⟩
    rw [hread, hrest]
    simp only [heng, List.range_succ_eq_map, List.flatMap_cons, List.flatMap_map, Nat.add_zero, Nat.add_assoc,
      Nat.add_comm 1, Nat.succ_eq_add_one]

theorem State.readSlab_error (s : State) (e i n j : Nat) (hj : j < n)
    (h : ∀ k < j, decodeWord ((s.eng e).slab.through (i + k)) ≠ .bad)
    (hbad : decodeWord ((s.eng e).slab.through (i + j)) = .bad) :
    ∃ u, Touches (slabReadReach e) s u ∧ (∀ k, u.eng k = s.eng k) ∧ s.readSlab e i n = (u, .error (i + j)) := by
  induction j generalizing s i n with
  | zero =>
    obtain ⟨n, rfl⟩ : ∃ m, n = m + 1 := ⟨n - 1, by omega⟩
    rw [Nat.add_zero] at hbad
    refine ⟨(s.bump (C.SLAB_UE e)).logUe 4 (65537 * e + i) 1, ?_, fun k => ?_, ?_⟩
    · exact ((Touches.refl _ s).bump (C.SLAB_UE e) (R.SLAB_SAT, e) rfl).next (State.logUe_touches_log ..)
        (logReach_within_slabReadReach e)
    · rw [(State.logUe_touches_log ..).eng, State.eng_bump]
    · rw [State.readSlab]
      simp only [hbad, Nat.add_zero]
  | succ j ih =>
    obtain ⟨n, rfl⟩ : ∃ m, n = m + 1 := ⟨n - 1, by omega⟩
    obtain ⟨u, htouch, heng, hread⟩ := s.readSlab_succ_of_ne_bad e i n (h 0 (by omega))
    obtain ⟨v, hv, hveng, hrest⟩ := ih u (i + 1) n (by omega)
      (fun k hk => by rw [heng, Nat.add_assoc, Nat.add_comm 1]; exact h (k + 1) (by omega))
      (by rw [heng, Nat.add_assoc, Nat.add_comm 1]; exact hbad)
    refine ⟨v, htouch.trans hv, fun k => (hveng k).trans (heng k), ?_⟩
    rw [hread, hrest, Nat.add_assoc, Nat.add_comm 1]

section SlabRead
variable (h : Taken 0x2105 p s) (hlen : p.length = 2) (htgt : p.target.toNat < 96)
include h hlen htgt

theorem slabRead_busy (hno : s.indOk p.target.toNat = false) :
    Ends (.slabRead p) 0x2105 p s ⟨stBusy, 0, []⟩ fun u => OnlyChanges [] (s.afterTake p) u :=
  h.ends_unchanged (exec_slabRead p s) (if_pos hlen) (decide_eq_true htgt)
    (if_pos (by rw [State.indOk_afterTake, hno]; rfl))

theorem slabRead_badParam (hok : s.indOk p.target.toNat = true)
    (hrange : p.w 1 = 0 ∨ 127 < p.w 1 ∨ 65536 < p.w 0 + p.w 1) :
    Ends (.slabRead p) 0x2105 p s ⟨stBadParam, 0, []⟩ fun u => OnlyChanges [] (s.afterTake p) u :=
  h.ends_unchanged (exec_slabRead p s) (if_pos hlen) (decide_eq_true htgt)
    ((if_neg (by rw [State.indOk_afterTake, hok]; simp)).trans (if_pos hrange))

/-- An admitted run is read word by word; the data are the reply, and an uncorrectable word ends it (R627). -/
theorem slabRead_ends {u : State} {x : Except Nat (List Byte)} {r : CmdEnd} {P : State → Prop}
    (hok : s.indOk p.target.toNat = true) (hrange : ¬ (p.w 1 = 0 ∨ 127 < p.w 1 ∨ 65536 < p.w 0 + p.w 1))
    (hread : (s.afterTake p).readSlab p.target.toNat (p.w 0) (p.w 1) = (u, x))
    (hr : r = match x with
      | .ok bs => ⟨stDone, 0, bs⟩
      | .error j => ⟨stHwFault, j, []⟩) (hP : P u) : Ends (.slabRead p) 0x2105 p s r P := by
  refine h.ends_of_checks (exec_slabRead p s) (if_pos hlen) (decide_eq_true htgt) ?_ hP
  dsimp only
  rw [State.indOk_afterTake, hok, hread, if_neg (by simp), if_neg hrange, hr]
  cases x with
  | ok bs => rfl
  | error j => rfl

end SlabRead

end Sys2Proof.Machine
end

section
/-! SUPPORT. The end of a copy to a spare, and the statement on slabs (R205, R207, R267). -/

namespace Sys2Proof.Machine

variable {s t : State} {p : Pkt} {e i n sp : Nat} {r : Retiring}

/-- The words that the copy path gives the spare: those of the slab, read through the overlay (R207, R267). -/
def Slab.copied (b : Slab) : Sparse Codeword :=
  b.overlay.foldl (fun m p => sparseSet (fun _ => 0) m p.1 (b.through p.1)) b.words

/-- Put words at the places that a list names. -/
theorem sparseGet_foldl_sparseSet {α : Type} (f : Nat → Codeword) (l : List (Nat × α)) (m : Sparse Codeword) (k : Nat) :
    sparseGet (fun _ => 0) (l.foldl (fun m p => sparseSet (fun _ => 0) m p.1 (f p.1)) m) k =
      if k ∈ l.map Prod.fst then f k else sparseGet (fun _ => 0) m k := by
  induction l generalizing m with
  | nil => rw [List.foldl_nil, List.map_nil, if_neg List.not_mem_nil]
  | cons a l ih =>
    rw [List.foldl_cons, ih, sparseGet_sparseSet, List.map_cons]
    by_cases hl : k ∈ l.map Prod.fst
    · rw [if_pos hl, if_pos (List.mem_cons_of_mem _ hl)]
    · by_cases hk : k = a.1
      · rw [if_neg hl, if_pos hk, if_pos (hk ▸ List.mem_cons_self), hk]
      · rw [if_neg hl, if_neg hk, if_neg (List.not_mem_cons_of_ne_of_not_mem hk hl)]

theorem Slab.word_of_copied {b c : Slab} (h : c.words = b.copied) (k : Nat) : c.word k = b.through k := by
  rw [Slab.word, h, Slab.copied, sparseGet_foldl_sparseSet]
  split
  · rfl
  · next hno =>
    have hnone : sparseGet (fun _ => none) b.overlay k = none :=
      sparseGet_of_not_mem _ _ _ (fun q hq hqk => hno (List.mem_map.mpr ⟨q, hq, hqk⟩))
    rw [Slab.through, hnone]
    rfl

/-- The entry of an engine that retires is replaced. -/
def State.putRetiring (s : State) (r r' : Retiring) : State :=
  s.setRetiring (s.vec.retiring.map (fun q => if q.eng = r.eng then r' else q))

theorem State.putRetiring_touches (s : State) (r r' : Retiring) : Touches ⟨[.vec], [], []⟩ s (s.putRetiring r r') :=
  s.setRetiring_touches _
theorem State.eng_putRetiring (s : State) (r r' : Retiring) (k : Nat) : (s.putRetiring r r').eng k = s.eng k := rfl

/-- The copy of a slab that is READY ends: the spare has its words (R205, R207). -/
theorem State.copyEnds_of_ready (hfind : s.vec.retiring.find? (fun r => r.copying) = some r) (hsp : r.spare = some sp)
    (hready : (s.eng r.eng).slab.ready = true) :
    s.copyEnds = ((((s.setSlab sp { (s.eng sp).slab with words := (s.eng r.eng).slab.copied }).putRetiring r
      { r with copying := false, copied := true }).workEnds r.eng).workEnds sp) := by
  unfold State.copyEnds
  rw [hfind]
  dsimp only
  rw [hsp]
  dsimp only
  rw [if_neg (by simp [hready])]
  rfl

/-- The copy of a slab lost meanwhile ends without its words, and begins again later (R195). -/
theorem State.copyEnds_of_lost (hfind : s.vec.retiring.find? (fun r => r.copying) = some r) (hsp : r.spare = some sp)
    (hready : (s.eng r.eng).slab.ready = false) :
    s.copyEnds = ((s.putRetiring r { r with copying := false, spare := none }).setWork r.eng
      (if (s.serves r.eng).isSome then .reload else .zeroFill)).workEnds sp := by
  unfold State.copyEnds
  rw [hfind]
  dsimp only
  rw [hsp]
  dsimp only
  rw [if_pos hready]
  rfl

theorem State.copyEnds_of_none (h : (s.vec.retiring.find? (fun r => r.copying)).bind (·.spare) = none) : s.copyEnds = s := by
  unfold State.copyEnds
  cases hfind : s.vec.retiring.find? (fun r => r.copying) with
  | none => rfl
  | some r =>
    rw [hfind, Option.bind_some] at h
    dsimp only
    rw [h]

/-- What the end of a copy changes. -/
theorem State.copyEnds_touches (s : State) : Touches ⟨[.out, .arb, .fns, .vec], [], []⟩ s s.copyEnds := by
  cases hbind : (s.vec.retiring.find? (fun r => r.copying)).bind (·.spare) with
  | none =>
    rw [State.copyEnds_of_none hbind]
    exact .refl _ s
  | some sp =>
    obtain ⟨r, hfind, hsp⟩ := Option.bind_eq_some_iff.mp hbind
    cases hready : (s.eng r.eng).slab.ready with
    | true =>
      rw [State.copyEnds_of_ready hfind hsp hready]
      exact ((((Touches.refl _ s).part (State.setSlab_touches ..)).part (State.putRetiring_touches ..)).trans
        (State.workEnds_touches ..)).trans (State.workEnds_touches ..)
    | false =>
      rw [State.copyEnds_of_lost hfind hsp hready]
      exact (((Touches.refl _ s).part (State.putRetiring_touches ..)).part (State.setWork_touches ..)).trans
        (State.workEnds_touches ..)

theorem slabCopyDone_copies (hfind : s.vec.retiring.find? (fun r => r.copying) = some r) (hsp : r.spare = some sp)
    (hne : sp ≠ r.eng) (hready : (s.eng r.eng).slab.ready = true) (hwant : (s.eng sp).slab.want = none) :
    Completes (.slabCopyDone) s fun t =>
      (∀ k < 65537, (t.eng sp).slab.word k = (s.eng r.eng).slab.through k) ∧
      OnlyChanges [.out, .arb, .fns, .vec] s t := by
  refine ⟨s.copyEnds, rfl, fun k _ => Slab.word_of_copied ?_ k, s.copyEnds_touches.onlyChanges (fun _ hx => hx)⟩
  rw [State.copyEnds_of_ready hfind hsp hready]
  set v := (s.setSlab sp { (s.eng sp).slab with words := (s.eng r.eng).slab.copied }).putRetiring r
    { r with copying := false, copied := true } with hv
  have hslab : (v.eng sp).slab = { (s.eng sp).slab with words := (s.eng r.eng).slab.copied } := by
    rw [hv, State.eng_putRetiring, State.slab_setSlab]
  have hother := v.workEnds_slab_of_ne (e := r.eng) hne
  have hdone := (v.workEnds r.eng).workEnds_slab_of_want_none sp (by rw [hother, hslab]; exact hwant)
  rw [hdone, hother, hslab]

/-- The only engine that retires has been copied, so no further copy begins. -/
theorem State.startCopy_of_copied (h : s.vec.retiring = [r]) (hc : r.copied = true) (n : Nat) : s.startCopy n = s :=
  s.startCopy_of_find_none n (by simp [h, hc])

theorem slabCopyDone_single (hret : s.vec.retiring = [r]) (hcopying : r.copying = true) (hsp : r.spare = some sp)
    (hready : (s.eng r.eng).slab.ready = true) :
    Completes (.slabCopyDone) s fun t =>
      t.vec.retiring = [{ r with copying := false, copied := true }] ∧ OnlyChanges [.out, .arb, .fns, .vec] s t := by
  refine ⟨s.copyEnds, rfl, ?_, s.copyEnds_touches.onlyChanges (fun _ hx => hx)⟩
  rw [State.copyEnds_of_ready (by simp [hret, hcopying]) hsp hready]
  set v := (s.setSlab sp { (s.eng sp).slab with words := (s.eng r.eng).slab.copied }).putRetiring r
    { r with copying := false, copied := true } with hv
  have hvret : v.vec.retiring = [{ r with copying := false, copied := true }] := by
    have hmap : v.vec.retiring = s.vec.retiring.map
      (fun q => if q.eng = r.eng then { r with copying := false, copied := true } else q) := rfl
    simpa [hret] using hmap
  have hdone := (v.workDone_engsOnly r.eng).retiring.trans hvret
  rw [v.workEnds_eq, State.startCopy_of_copied hdone rfl, State.workEnds_eq]
  have hdone' := ((v.workDone r.eng).workDone_engsOnly sp).retiring.trans hdone
  rw [State.startCopy_of_copied hdone' rfl, hdone']

theorem slabCopyDone_lost (hfind : s.vec.retiring.find? (fun r => r.copying) = some r) (hsp : r.spare = some sp)
    (hne : sp ≠ r.eng) (hready : (s.eng r.eng).slab.ready = false) (hwant : (s.eng sp).slab.want = none) :
    Completes (.slabCopyDone) s fun t =>
      (t.eng sp).slab.words = (s.eng sp).slab.words ∧
      (t.eng r.eng).slab.work = (if (s.serves r.eng).isSome then .reload else .zeroFill) ∧
      OnlyChanges [.out, .arb, .fns, .vec] s t := by
  refine ⟨s.copyEnds, rfl, ?_, ?_, s.copyEnds_touches.onlyChanges (fun _ hx => hx)⟩
  · rw [State.copyEnds_of_lost hfind hsp hready]
    set w : SlabWork := if (s.serves r.eng).isSome then .reload else .zeroFill
    set v := (s.putRetiring r { r with copying := false, spare := none }).setWork r.eng w with hv
    have hslab : v.eng sp = s.eng sp := by rw [hv, State.eng_setWork, if_neg hne, State.eng_putRetiring]
    rw [v.workEnds_slab_of_want_none sp (by rw [hslab]; exact hwant), hslab]
  · rw [State.copyEnds_of_lost hfind hsp hready]
    set w : SlabWork := if (s.serves r.eng).isSome then .reload else .zeroFill
    set v := (s.putRetiring r { r with copying := false, spare := none }).setWork r.eng w with hv
    have hdone : (v.workDone sp).eng r.eng = (s.eng r.eng).withWork w := by
      rw [v.workDone_eng_of_ne (Ne.symm hne), hv, State.eng_setWork, if_pos rfl, State.eng_putRetiring]
    have hbusy : ((v.workDone sp).eng r.eng).slab.atRest = false := by
      rw [hdone]
      simp [Slab.atRest, Eng.withWork, hready]
    rw [v.workEnds_eq, (State.startCopy_copyStarted _ 96).busy r.eng hbusy, hdone]
    rfl

/-- A word that is not uncorrectable, as the statement says it. -/
theorem decodeWord_ne_bad {c : Codeword} (h : (decodeWord c matches .bad) = false) : decodeWord c ≠ .bad := fun hbad => by
  rw [hbad] at h
  cases h

theorem decodeWord_eq_bad {c : Codeword} (h : (decodeWord c matches .bad) = true) : decodeWord c = .bad := by
  cases hword : decodeWord c with
  | bad => rfl
  | clean => rw [hword] at h; cases h
  | corrected _ _ => rw [hword] at h; cases h

section SlabRead
variable (h : Taken 0x2105 p s) (hlen : p.length = 2) (htgt : p.target.toNat < 96)
  (hok : s.indOk p.target.toNat = true) (hcount : n = p.w 1) (hmax : n ≤ 127) (hrange : p.w 0 + n ≤ 65536)
include h hlen htgt hok hcount hmax hrange

theorem slabRead_clean (hn : 0 < n) (hclean : ∀ k < n, cleanWord ((s.eng p.target.toNat).slab.through (p.w 0 + k)) = true) :
    Ends (.slabRead p) 0x2105 p s ⟨stDone, 0,
      (List.range n).flatMap (fun k => dataBytes (deliveredData ((s.eng p.target.toNat).slab.through (p.w 0 +
      k))))⟩ fun u => OnlyChanges [] (s.afterTake p) u := by
  have hread := (s.afterTake p).readSlab_clean p.target.toNat (p.w 0) n (by rw [State.eng_afterTake]; exact hclean)
  rw [State.eng_afterTake] at hread
  subst hcount
  exact slabRead_ends h hlen htgt hok (by omega) hread rfl (onlyChanges_nil_refl _)

theorem slabRead_done (hn : 0 < n)
    (hgood : ∀ k < n, decodeWord ((s.eng p.target.toNat).slab.through (p.w 0 + k)) ≠ .bad) :
    Ends (.slabRead p) 0x2105 p s ⟨stDone, 0,
      (List.range n).flatMap (fun k => dataBytes (deliveredData ((s.eng p.target.toNat).slab.through (p.w 0 +
      k))))⟩ fun u =>
      RegsKeptIn [R.MEM_UE_LOG_B, R.SLAB_SAT] s u ∧ OnlyChanges [.regs, .cnt, .arb, .mem] (s.afterTake p) u := by
  obtain ⟨u, htouch, hread⟩ := (s.afterTake p).readSlab_ok p.target.toNat (p.w 0) n (by rw [State.eng_afterTake]; exact hgood)
  rw [State.eng_afterTake] at hread
  subst hcount
  exact slabRead_ends h hlen htgt hok (by omega) hread rfl (htouch.frame_afterTake (by simp) (by simp))

theorem slabRead_hwFault {j : Nat} (hj : j < n)
    (hgood : ∀ k < j, decodeWord ((s.eng p.target.toNat).slab.through (p.w 0 + k)) ≠ .bad)
    (hbad : decodeWord ((s.eng p.target.toNat).slab.through (p.w 0 + j)) = .bad) :
    Ends (.slabRead p) 0x2105 p s ⟨stHwFault, (p.w 0 + j), []⟩ fun u =>
      (∀ k < 96, u.eng k = s.eng k) ∧ RegsKeptIn [R.MEM_UE_LOG_B, R.SLAB_SAT] s u ∧
      OnlyChanges [.regs, .cnt, .arb, .mem] (s.afterTake p) u := by
  obtain ⟨u, htouch, heng, hread⟩ := (s.afterTake p).readSlab_error p.target.toNat (p.w 0) n j hj
    (by rw [State.eng_afterTake]; exact hgood) (by rw [State.eng_afterTake]; exact hbad)
  subst hcount
  exact slabRead_ends h hlen htgt hok (by omega) hread rfl
    ⟨fun k _ => (heng k).trans (s.eng_afterTake p k), htouch.frame_afterTake (by simp) (by simp)⟩

end SlabRead

/-- Settles O26. -/
theorem slabsChangeModeScrubAndReload : Obligations.SlabsChangeModeScrubAndReload := by
  unfold Obligations.SlabsChangeModeScrubAndReload
  refine ⟨
    fun s e hst hwork => slabCtlOff_completes hst (Slab.request_of_working hwork ..),
    fun s e hst hidle hmode => slabCtlOff_completes hst ((Slab.request_of_idle hidle ..).trans (Slab.setMode_off hmode _)),
    fun s e hst hidle hmode =>
      slabCtlOff_completes hst ((Slab.request_of_idle hidle ..).trans (if_pos hmode.symm)),
    fun s e hst hwork => slabCtlRetain_completes hst (Slab.request_of_working hwork ..),
    fun s e => slabCtlRetain_of_on,
    fun s e hst hidle hmode =>
      slabCtlRetain_completes hst ((Slab.request_of_idle hidle ..).trans (Slab.setMode_retain_of_ne hmode _)),
    fun s e hwork => slabCtlOn_completes (Slab.request_of_working hwork ..),
    fun s e hidle hmode => slabCtlOn_completes ((Slab.request_of_idle hidle ..).trans (Slab.setMode_on hmode _)),
    fun s e hidle hmode => slabCtlOn_completes ((Slab.request_of_idle hidle ..).trans (if_pos hmode.symm)),
    fun s e hst => ⟨if_neg (by simp [State.modeOk_eq_false hst]), if_neg (by simp [State.modeOk_eq_false hst])⟩,
    fun s p => slabMode_done, fun s p => slabMode_busy, fun s p => slabMode_badParam,
    slabZeroFillDone_fills, slabZeroFillDone_of_nil, fun s e hwork => if_neg hwork,
    slabWakeScrubDone_wakes, slabWakeScrubDone_of_nil, slabWakeScrubDone_wrongCanary, slabWakeScrubDone_uncorrectable,
    fun s e hwork => if_neg hwork,
    slabReloadDone_restores, slabReloadDone_estimates, slabReloadDone_of_idle,
    fun s e hno => if_neg (fun h => hno.elim (fun hw => hw h.1) (fun hh => hh h.2)),
    slabIndirectRead_completes, slabIndirectRead_refused, slabIndirectWrite_writes, slabIndirectWrite_injects,
    slabIndirectWrite_canary, slabIndirectWrite_refused,
    fun s p n h hlen hn _ htgt => slabWrite_writes h hlen hn htgt,
    fun s p n d h hlen hn _ htgt => slabWrite_injects h hlen hn htgt,
    fun s p n h hlen hn _ htgt => slabWrite_busy h hlen hn htgt,
    fun s p n h hlen hn _ htgt => slabWrite_badParam h hlen hn htgt,
    fun s p n h hlen htgt hok hcount hn hmax hrange => slabRead_clean h hlen htgt hok hcount hmax hrange hn,
    fun s p n h hlen htgt hok hcount hn hmax hrange hgood =>
      slabRead_done h hlen htgt hok hcount hmax hrange hn (fun k hk => decodeWord_ne_bad (hgood k hk)),
    fun s p n j h hlen htgt hok hcount hmax hrange hj hgood hbad =>
      slabRead_hwFault h hlen htgt hok hcount hmax hrange hj (fun k hk => decodeWord_ne_bad (hgood k hk))
        (decodeWord_eq_bad hbad),
    fun s p => slabRead_busy, fun s p => slabRead_badParam,
    fun s r sp => slabCopyDone_copies, fun s r sp hret hcopying hsp _ => slabCopyDone_single hret hcopying hsp,
    fun s r sp => slabCopyDone_lost, fun s h => congrArg Host.Outcome.next (State.copyEnds_of_none h)⟩

end Sys2Proof.Machine
end

section
/-! SUPPORT. The issue of one instruction by an engine on whose way nothing is; error counts that never fall; the statement on
the operations of one instruction (R185, R201, R204, R217, R218, R226). -/

namespace Sys2Proof.Machine

variable {s t u : State} {x : Eng} {k : Cy} {e w : Nat} {c : Ctr}

/-! An engine on whose way nothing is. -/

/-- No store is gathered or pending, no load and no VCUPD result is on its way. -/
structure Eng.Quiet (x : Eng) : Prop where
  gather : x.gather = none
  pend : x.pend = []
  loads : x.loads = []
  slabWr : x.slabWr = []

theorem Cy.endCycle_of_quiet (h : k.x.Quiet) (hfx : k.fx = []) :
    k.endCycle.x.Quiet ∧ k.endCycle.fx = [] ∧ k.endCycle.x.regs = k.x.regs := by
  obtain ⟨hgather, hpend, hloads, hslabWr⟩ := h
  unfold Cy.endCycle
  rw [hpend]
  simp only [Cy.flushRead, Cy.age, Eng.ageLoads, Eng.ageSlab, hloads, hslabWr, List.filter_nil, List.foldl_nil, List.map_nil,
    List.nil_append]
  exact ⟨⟨hgather, rfl, rfl, rfl⟩, hfx, trivial⟩

theorem Cy.idles_of_quiet (n : Nat) (k : Cy) (h : k.x.Quiet) (hfx : k.fx = []) :
    (k.idles n).x.Quiet ∧ (k.idles n).fx = [] ∧ (k.idles n).x.regs = k.x.regs := by
  induction n generalizing k with
  | zero => exact ⟨h, hfx, rfl⟩
  | succ n ih =>
    obtain ⟨hquiet, hidle, hregs⟩ := Cy.endCycle_of_quiet (k := { k with rd := false, c := false }) h hfx
    obtain ⟨hquiet', hidles, hregs'⟩ := ih k.idle hquiet hidle
    exact ⟨hquiet', hidles, hregs'.trans hregs⟩

/-- The last flush of such an engine finds nothing and writes no register. -/
theorem Cy.drain_of_quiet (h : k.x.Quiet) (hfx : k.fx = []) : k.drain.fx = [] ∧ k.drain.x.regs = k.x.regs := by
  have hbreak : k.x.breakGather = k.x := by rw [Eng.breakGather, h.gather]
  unfold Cy.drain
  simp only [hbreak]
  obtain ⟨-, hidles, hregs⟩ := Cy.idles_of_quiet ((k.x.pend.filter (fun p => p.wait.isSome)).length + 4) { k with x := k.x } h hfx
  exact ⟨hidles, hregs⟩

/-- Such an engine does not stall before an issue. -/
theorem Cy.stalls_of_quiet (h : k.x.Quiet) (w n : Nat) : k.stalls w n = k := by
  cases n with
  | zero => rfl
  | succ n => rw [Cy.stalls, h.pend, h.slabWr]; simp

theorem State.endCy_of_no_fx (s : State) (e : Nat) (h : k.fx = []) : s.endCy e k = s.setEng e k.x := by
  unfold State.endCy
  rw [h]
  rfl

/-- A fault of such an engine halts it and writes no register (R201, R226). -/
theorem State.engFault_of_quiet (s : State) (e code pc : Nat) (h : (s.eng e).Quiet) :
    ((s.engFault e code pc).eng e).st = .halted ∧ ((s.engFault e code pc).eng e).faultCode = code ∧
      ((s.engFault e code pc).eng e).faultPc = pc ∧ ((s.engFault e code pc).eng e).regs = (s.eng e).regs ∧
      ∀ j, j ≠ e → (s.engFault e code pc).eng j = s.eng j := by
  obtain ⟨hfx, hregs⟩ := Cy.drain_of_quiet (k := { x := s.eng e }) h rfl
  set k := Cy.drain { x := s.eng e } with hk
  have heng : ∀ j, (s.engFault e code pc).eng j =
      (s.setEng e { k.x.halt .halted with faultCode := code, faultPc := pc }).eng j := fun j => by
    rw [State.engFault, State.eng_raiseRow, State.eng_bypassSymbol, State.endCy_of_no_fx _ _ (by exact hfx)]
  have hself := (heng e).trans (by rw [State.eng_setEng, if_pos rfl])
  refine ⟨by rw [hself]; rfl, by rw [hself], by rw [hself], by rw [hself]; exact hregs, fun j hj => ?_⟩
  rw [heng, State.eng_setEng, if_neg hj]

/-! Error counts never fall. -/

/-- From s to t an error counter that is within its range does not fall and stays there (R89). -/
structure CountGrows (c : Ctr) (s t : State) : Prop where
  grows : s.count c ≤ 0xFFFFFFFF → s.count c ≤ t.count c ∧ t.count c ≤ 0xFFFFFFFF

theorem CountGrows.refl (c : Ctr) (s : State) : CountGrows c s s := ⟨fun h => ⟨le_refl _, h⟩⟩

theorem CountGrows.trans (h : CountGrows c s t) (h' : CountGrows c t u) : CountGrows c s u where
  grows hs := by
    obtain ⟨hle, ht⟩ := h.grows hs
    obtain ⟨hle', hu⟩ := h'.grows ht
    exact ⟨hle.trans hle', hu⟩

theorem CountGrows.of_touches {F : Reach} (h : Touches F s t) (hF : F.ctrs = []) : CountGrows c s t where
  grows hs := by
    have hcount : t.count c = s.count c := h.ctrs c (by simp [hF])
    rw [hcount]
    exact ⟨le_refl _, hs⟩

theorem CountGrows.ite {p : Prop} [Decidable p] (h : p → CountGrows c s t) (h' : ¬ p → CountGrows c s u) :
    CountGrows c s (if p then t else u) := by
  split
  · exact h ‹_›
  · exact h' ‹_›

theorem CountGrows.foldl {α : Type} {f : State → α → State} (h : ∀ u a, CountGrows c u (f u a)) (l : List α) (s : State) :
    CountGrows c s (l.foldl f s) := by
  induction l generalizing s with
  | nil => exact .refl c s
  | cons a l ih => exact (h s a).trans (ih _)

theorem State.bump_countGrows (s : State) {d : Ctr} (hd : d.wide = false) : CountGrows c s (s.bump d) := by
  refine ⟨fun hs => ?_⟩
  by_cases hoff : d.off = c.off
  · have hcount : ∀ v : State, v.count c = v.count d := fun v => by rw [State.count, State.count, hoff]
    rw [hcount, hcount]
    rw [hcount] at hs
    unfold State.bump State.bumpBy
    simp only [hd, Bool.false_eq_true, if_false]
    split
    · exact ⟨le_refl _, hs⟩
    · split
      · rw [State.count_setCount, if_pos rfl]
        omega
      · have hraise : ∀ v : State, ∀ src sev code func pay, (v.raise src sev code func pay).count d = v.count d :=
          fun v src sev code func pay => (v.raise_touches src sev code func pay).ctrs d (by simp)
        rw [hraise]
        show s.count d ≤ (s.setCount d 0xFFFFFFFF).count d ∧ (s.setCount d 0xFFFFFFFF).count d ≤ 0xFFFFFFFF
        rw [State.count_setCount, if_pos rfl]
        exact ⟨hs, le_refl _⟩
  · have hcount := ((Touches.refl ⟨[.regs, .cnt, .arb], [(fun _ => d.sat, 0)], [d]⟩ s).bump d (fun _ => d.sat, 0) rfl).ctrs c
      (by simpa using hoff)
    rw [hcount]
    exact ⟨le_refl _, hs⟩

theorem State.applyFx_countGrows (s : State) (e : Nat) (f : Fx) : CountGrows c s (s.applyFx e f) := by
  unfold State.applyFx
  cases f with
  | ce => exact s.bump_countGrows rfl
  | ue w =>
    exact ((((s.bump_countGrows rfl).trans (.of_touches (State.logUe_touches_log ..) rfl)).trans
      (.of_touches (State.setEng_touches ..) rfl)).trans (.of_touches (State.bypassSymbol_touches ..) rfl)).trans
      (.of_touches (State.raiseRow_touches ..) rfl)
  | slabCe => exact s.bump_countGrows rfl
  | slabUe w =>
    exact ((s.bump_countGrows rfl).trans (.of_touches (State.logUe_touches_log ..) rfl)).trans
      (.of_touches (State.bypassSymbol_touches ..) rfl)
  | tagErr w got want =>
    exact (((s.bump_countGrows rfl).trans (.of_touches (State.bypassSymbol_touches ..) rfl)).trans
      (.of_touches (State.raiseIp_touches ..) rfl)).trans (.of_touches (State.raiseRow_touches ..) rfl)
  | wrote slab w => exact .of_touches (State.injectEng_touches ..) rfl
  | sat => exact .of_touches (State.setFld_touches _ _ _ (R.VE_STATUS, e) rfl) rfl
  | clearSat => exact .of_touches (State.setFld_touches _ _ _ (R.VE_STATUS, e) rfl) rfl

theorem State.endCy_countGrows (s : State) (e : Nat) (k : Cy) : CountGrows c s (s.endCy e k) := by
  unfold State.endCy
  extract_lets v w
  have hv : CountGrows c s v := .of_touches (s.setEng_touches e k.x) rfl
  have hw : CountGrows c v w := .ite (fun _ => v.applyFx_countGrows e _) (fun _ => .refl c v)
  exact (hv.trans hw).trans (.foldl (fun u f => u.applyFx_countGrows e f) _ w)

theorem State.trigger_countGrows (s : State) (e cause : Nat) (auto : Bool) (cmd : Option (Nat × Nat)) :
    CountGrows c s (s.trigger e cause auto cmd) := by
  unfold State.trigger
  extract_lets tg a k b g
  have ha : CountGrows c s a := .of_touches (s.raiseRow_touches ..) rfl
  have hb : CountGrows c s b := (ha.trans (a.endCy_countGrows e _)).trans (.of_touches (State.bypassSymbol_touches ..) rfl)
  exact .ite (fun _ => (hb.trans (.of_touches (State.setRetiring_touches ..) rfl)).trans
    (.of_touches (State.startCopy_copyStarted _ 96).touches rfl)) (fun _ => hb)

theorem State.checkUe_countGrows (s : State) (e : Nat) : CountGrows c s (s.checkUe e) :=
  .ite (fun _ => s.trigger_countGrows ..) (fun _ => .refl c s)

theorem State.engFault_countGrows (s : State) (e code pc : Nat) : CountGrows c s (s.engFault e code pc) :=
  ((s.endCy_countGrows e _).trans (.of_touches (State.bypassSymbol_touches ..) rfl)).trans
    (.of_touches (State.raiseRow_touches ..) rfl)

/-- The issue of a corrected instruction counts the correction (R185). -/
theorem State.issueWord_countGrows (s : State) (e w : Nat) :
    CountGrows c (s.bump (C.VE_SPAD_CE e)) (s.issueWord e w true) := by
  unfold State.issueWord
  extract_lets v env k
  split
  · exact (v.endCy_countGrows e k).trans (State.engFault_countGrows ..)
  · exact (v.endCy_countGrows e _).trans (State.checkUe_countGrows ..)

/-! Which instructions a row issues. -/

theorem State.issue_of_idle (h : (s.eng e).mayIssue = false ∨ s.veGated = true) (pick : Nat → Bool) : s.issue e pick = s :=
  if_neg (by obtain h | h := h <;> simp [h])

theorem State.issue_of_fetch {ce : Bool} (hmay : (s.eng e).mayIssue = true) (hgate : s.veGated = false)
    (hfetch : (s.eng e).fetch = ⟨some w, ce⟩) (pick : Nat → Bool) :
    s.issue e pick = if pick w then s.issueWord e w ce else s := by
  rw [State.issue, if_pos ⟨hmay, hgate⟩, hfetch]

theorem State.issue_of_bad (hmay : (s.eng e).mayIssue = true) (hgate : s.veGated = false)
    (hfetch : (s.eng e).fetch.word = none) (pick : Nat → Bool) : s.issue e pick = s.fetchFault e := by
  rw [State.issue, if_pos ⟨hmay, hgate⟩]
  cases hword : (s.eng e).fetch with
  | mk word ce =>
    rw [hword] at hfetch
    obtain rfl : word = none := hfetch
    rfl

/-- A row that does not name the instruction at VE_PC changes nothing. -/
theorem State.issue_of_not_picked {ce : Bool} {pick : Nat → Bool} (hfetch : (s.eng e).fetch = ⟨some w, ce⟩)
    (hpick : pick w = false) : s.issue e pick = s := by
  by_cases hrun : (s.eng e).mayIssue = true ∧ s.veGated = false
  · rw [State.issue_of_fetch hrun.1 hrun.2 hfetch, if_neg (by simp [hpick])]
  · exact if_neg hrun

/-- An instruction that faults executes nothing and halts its engine (R218, R226). -/
theorem State.issueWord_of_fault {code : Nat} (h : (s.eng e).Quiet) (hfault : (s.eng e).faultOf w = some code) :
    ((s.issueWord e w false).eng e).st = .halted ∧ ((s.issueWord e w false).eng e).faultCode = code ∧
      ((s.issueWord e w false).eng e).faultPc = (s.eng e).pc ∧ ((s.issueWord e w false).eng e).regs = (s.eng e).regs ∧
      ∀ j, j ≠ e → (s.issueWord e w false).eng j = s.eng j := by
  have hstall : Cy.stalls w 4 { x := s.eng e } = { x := s.eng e } := Cy.stalls_of_quiet (k := { x := s.eng e }) h w 4
  have hself : s.issueWord e w false = (s.setEng e (s.eng e)).engFault e code (s.eng e).pc := by
    unfold State.issueWord
    simp only [Bool.false_eq_true, if_false, hstall]
    rw [hfault, ← State.endCy_of_no_fx (k := { x := s.eng e }) s e rfl]
  have heng : ∀ j, (s.setEng e (s.eng e)).eng j = s.eng j := fun j => by
    rw [State.eng_setEng]
    split
    · next hj => rw [hj]
    · rfl
  obtain ⟨hst, hcode, hpc, hregs, hothers⟩ :=
    (s.setEng e (s.eng e)).engFault_of_quiet e code (s.eng e).pc (by rw [heng]; exact h)
  rw [hself]
  exact ⟨hst, hcode, hpc, hregs.trans (by rw [heng]), fun j hj => (hothers j hj).trans (heng j)⟩

/-- An uncorrectable fetch halts the engine, or retires it with AUTO, with fault code 0x04 (R185, R204). -/
theorem State.fetchFault_spec (s : State) (he : e < 96) :
    ((s.fetchFault e).eng e).st = (if s.flag F.VE_RETIRE_CFG_AUTO then .retiring else .halted) ∧
      ((s.fetchFault e).eng e).faultCode = 4 ∧ ((s.fetchFault e).eng e).faultPc = (s.eng e).pc := by
  unfold State.fetchFault
  extract_lets x v w
  have hv : Touches ⟨[.regs, .cnt, .arb, .mem], (R.VE_SAT, e) :: logReach.regs, [C.VE_IMEM_UE e]⟩ s v :=
    ((Touches.refl _ s).bump (C.VE_IMEM_UE e) (R.VE_SAT, e) rfl).next (State.logUe_touches_log ..)
      ⟨by simp, fun _ hr => List.mem_cons_of_mem _ hr, by simp⟩
  have hauto : w.flag F.VE_RETIRE_CFG_AUTO = s.flag F.VE_RETIRE_CFG_AUTO := by
    have hrd : w.rd R.VE_RETIRE_CFG = s.rd R.VE_RETIRE_CFG := hv.regs _ (by
      simp only [logReach, List.mem_cons, List.mem_map, List.mem_range]
      rintro r (rfl | ⟨i, hi, rfl⟩)
      · simp only [R.VE_SAT, R.VE_RETIRE_CFG]
        omega
      · simp only [R.MEM_UE_LOG_B, R.VE_RETIRE_CFG]
        omega)
    simp only [State.flag, State.fld, hrd]
  have hweng : w.eng e = { s.eng e with faultCode := 0x04, faultPc := (s.eng e).pc } := by
    rw [State.eng_setEng, if_pos rfl]
  rw [hauto]
  generalize s.flag F.VE_RETIRE_CFG_AUTO = auto
  obtain ⟨z, -, hhalt, htrig⟩ := w.trigger_spec e 2 auto none
  have hz : ((w.trigger e 2 auto none).eng e).st = (z.eng e).st ∧
      ((w.trigger e 2 auto none).eng e).faultCode = (z.eng e).faultCode ∧
      ((w.trigger e 2 auto none).eng e).faultPc = (z.eng e).faultPc := by
    rw [htrig]
    split
    · rw [(State.startCopy_copyStarted _ 96).eng e, State.eng_setRetiring]
      exact ⟨rfl, rfl, rfl⟩
    · exact ⟨rfl, rfl, rfl⟩
  obtain ⟨hst, hcode, hpc⟩ := hz
  rw [hst, hcode, hpc, hhalt.eng.st, hhalt.eng.faultCode, hhalt.eng.faultPc, hweng]
  exact ⟨rfl, rfl, rfl⟩

/-- Settles O33. -/
theorem oneInstructionCarriesUpToFiveOperations : Obligations.OneInstructionCarriesUpToFiveOperations := by
  unfold Obligations.OneInstructionCarriesUpToFiveOperations
  refine ⟨fun e w s hissue hsop hvo hact0 hact1 => ?_, fun e w ce s hfetch => ?_,
    fun e w code s hmay hgate hfetch hpend hgather hloads hslabWr hfault hsop => ?_, fun e s hidle => ?_,
    fun e s hmay hgate hfetch => ?_, fun e w s hmay hgate hfetch hsop hcount => ?_⟩
  · obtain ⟨hmay, hgate, hfetch, -⟩ := hissue
    have hpicks : ∀ pick : Nat → Bool, pick w = true → s.issue e.val pick = s.issueWord e.val w false := fun pick hpick => by
      rw [State.issue_of_fetch hmay hgate hfetch, if_pos hpick]
    have hadd : exec (.opAdd e) s = .next (s.issueWord e.val w false) :=
      congrArg Host.Outcome.next (hpicks (fun w => iSop w == 0x01) (by simpa using hsop))
    refine ⟨hadd.trans (congrArg Host.Outcome.next (hpicks (fun w => iVo w == 1) (by simpa using hvo)).symm),
      hadd.trans (congrArg Host.Outcome.next (hpicks (fun w => iAct w 0 == 2) (by simpa using hact0)).symm),
      hadd.trans (congrArg Host.Outcome.next (hpicks (fun w => iAct w 1 == 1) (by simpa using hact1)).symm)⟩
  · exact ⟨fun hsop => congrArg Host.Outcome.next (State.issue_of_not_picked hfetch (by simpa using hsop)),
      fun hvo => congrArg Host.Outcome.next (State.issue_of_not_picked hfetch (by simpa using hvo)),
      fun g hact => congrArg Host.Outcome.next (State.issue_of_not_picked hfetch (by simpa using hact))⟩
  · obtain ⟨hst, hcode, hpc, hregs, hothers⟩ := State.issueWord_of_fault ⟨hgather, hpend, hloads, hslabWr⟩ hfault
    refine ⟨s.issueWord e.val w false, congrArg Host.Outcome.next ?_, hst, hcode, hpc, fun r _ => ?_,
      fun j _ hj => hothers j hj⟩
    · rw [State.issue_of_fetch hmay hgate hfetch, if_pos (by simpa using hsop)]
    · simp only [Eng.reg, hregs, List.reverse_nil, List.find?_nil, Option.map_none, Option.getD_none]
  · exact ⟨congrArg Host.Outcome.next (State.issue_of_idle hidle _), congrArg Host.Outcome.next (State.issue_of_idle hidle _)⟩
  · exact ⟨s.fetchFault e.val, congrArg Host.Outcome.next (State.issue_of_bad hmay hgate hfetch _), s.fetchFault_spec e.isLt⟩
  · refine ⟨s.issueWord e.val w true, congrArg Host.Outcome.next ?_, ?_⟩
    · rw [State.issue_of_fetch hmay hgate hfetch, if_pos (by simpa using hsop)]
    · have hbump := s.count_bump_of_lt (c := C.VE_SPAD_CE e.val) rfl hcount
      have hgrows := s.issueWord_countGrows (c := C.VE_SPAD_CE e.val) e.val w |>.grows (by omega)
      omega

end Sys2Proof.Machine
end

section
/-! SUPPORT. Parameter blocks and fences: the clauses of O35 on them (R255, R263 to R266, R525). -/

namespace Sys2Proof.Machine

variable {s t u : State} {p : Pkt} {x : Eng} {e g k i n : Nat} {d : Codeword}

/-! Parameter blocks. -/

theorem State.overlapsBuf_afterTake (s : State) (p : Pkt) (e addr n : Nat) :
    (s.afterTake p).overlapsBuf e addr n = s.overlapsBuf e addr n := by
  simp only [State.overlapsBuf, State.serves_afterTake, State.vg_afterTake]

section VgParam
variable (h : Taken 0x2005 p s) (hlo : 4 ≤ p.length) (hhi : p.length ≤ 1002) (htgt : p.target.toNat < 3)
include h hlo hhi htgt

theorem vgParam_begins (hfit : p.w 0 + (p.bytes.drop 8).length ≤ 0x20000)
    (hoff : ∀ e ∈ maskEngines p.target.toNat (p.w 1), s.overlapsBuf e (p.w 0) (p.bytes.drop 8).length = false) :
    Begins (.vgParam p) 0x2005 p s fun u =>
      u.vec = { s.vec with params := s.vec.params ++ [⟨maskEngines p.target.toNat (p.w 1), p.w 0, p.bytes.drop 8, p.func.val, s.cmdId, false⟩] } ∧
      OnlyChanges [.vec] (s.afterTake p) u := by
  have hno : ¬ (0x20000 < p.w 0 + (p.bytes.drop 8).length ∨ (maskEngines p.target.toNat (p.w 1)).any
      (fun e => (s.afterTake p).overlapsBuf e (p.w 0) (p.bytes.drop 8).length) = true) := by
    simp only [State.overlapsBuf_afterTake, List.any_eq_true, not_or, not_exists, not_and, Bool.not_eq_true]
    exact ⟨by omega, hoff⟩
  refine h.begins_of_checks (exec_vgParam p s) (if_pos ⟨hlo, hhi⟩) (decide_eq_true htgt) (if_neg hno)
    ⟨?_, (State.setVec_touches ..).onlyChanges (fun _ hx => hx)⟩
  rw [State.afterTake_vec]
  rfl

theorem vgParam_badParam (hbad : 0x20000 < p.w 0 + (p.bytes.drop 8).length ∨
      (maskEngines p.target.toNat (p.w 1)).any (fun e => s.overlapsBuf e (p.w 0) (p.bytes.drop 8).length) = true) :
    Ends (.vgParam p) 0x2005 p s ⟨stBadParam, 0, []⟩ fun u => OnlyChanges [] (s.afterTake p) u := by
  refine h.ends_unchanged (exec_vgParam p s) (if_pos ⟨hlo, hhi⟩) (decide_eq_true htgt) (if_pos ?_)
  simpa only [State.overlapsBuf_afterTake] using hbad

end VgParam

theorem Eng.spadWord_setSpad (x : Eng) (i : Nat) (w : Codeword) (j : Nat) :
    (x.setSpad i w).spadWord j = if j = i then w else x.spadWord j := sparseGet_sparseSet ..

/-- A part of one codeword is merged into the word as decoded (R263). -/
theorem Eng.putBytes_one (x : Eng) (addr n : Nat) (bs : List Byte) (hbs : bs ≠ []) (hfit : addr % 32 + bs.length ≤ 32)
    (hgood : bs.length = 32 ∨ decodeWord (x.spadWord (addr / 32)) ≠ .bad) :
    Eng.putBytes (n + 1) x addr bs = x.setSpad (addr / 32)
      (encodeWord (ofLe (spliceB (dataBytes (deliveredData (x.spadWord (addr / 32)))) (addr % 32) bs))) := by
  have htake : bs.take (32 - addr % 32) = bs := List.take_of_length_le (by omega)
  have hend : ∀ y : Eng, Eng.putBytes n y (addr + bs.length) (bs.drop bs.length) = y := fun y => by
    cases n with
    | zero => rfl
    | succ n => rw [List.drop_length, Eng.putBytes]; rfl
  rw [Eng.putBytes, if_neg (by simpa using hbs)]
  dsimp only
  rw [htake, hend]
  split
  · next hbad hlen =>
    obtain hgood | hgood := hgood
    · simp [hgood] at hlen
    · exact absurd hbad hgood
  · rfl

theorem State.injection_setEng (s : State) (e : Nat) (x : Eng) (m : Nat) : (s.setEng e x).injection m = s.injection m := rfl

/-- Engines change one after another, and no injection is armed. -/
theorem State.foldl_putBytes (addr : Nat) (block : List Byte) (es : List Nat) (s : State) (hnodup : es.Nodup)
    (hinj : s.injection 5 = none) :
    ∃ u, es.foldl (fun s e => (s.setEng e (Eng.putBytes 127 (s.eng e) addr block)).injectEng 5 e (addr / 32)) s = u ∧
      (∀ e ∈ es, u.eng e = Eng.putBytes 127 (s.eng e) addr block) ∧ (∀ k, k ∉ es → u.eng k = s.eng k) ∧
      Touches ⟨[.vec], [], []⟩ s u := by
  induction es generalizing s with
  | nil => exact ⟨s, rfl, by simp, fun _ _ => rfl, .refl _ s⟩
  | cons e es ih =>
    obtain ⟨hne, hnodup⟩ := List.nodup_cons.mp hnodup
    have hput : ((s.setEng e (Eng.putBytes 127 (s.eng e) addr block)).injectEng 5 e (addr / 32)) =
        s.setEng e (Eng.putBytes 127 (s.eng e) addr block) :=
      State.injectEng_of_none ((s.injection_setEng e _ 5).trans hinj) _ _
    obtain ⟨u, hu, hin, hout, htouch⟩ := ih (s.setEng e (Eng.putBytes 127 (s.eng e) addr block)) hnodup hinj
    refine ⟨u, by rw [List.foldl_cons, hput, hu], fun j hj => ?_, fun j hj => ?_, (s.setEng_touches e _).trans htouch⟩
    · obtain rfl | hj := List.mem_cons.mp hj
      · rw [hout j hne, State.eng_setEng, if_pos rfl]
      · have hje : j ≠ e := fun h => hne (h ▸ hj)
        rw [hin j hj, State.eng_setEng, if_neg hje]
    · rw [hout j (fun h => hj (List.mem_cons_of_mem _ h)), State.eng_setEng, if_neg (fun h : j = e => hj (h ▸ List.mem_cons_self))]

theorem State.eng_setParams (s : State) (js : List ParamJob) (k : Nat) :
    (s.setVec { s.vec with params := js }).eng k = s.eng k := rfl

theorem State.flag_setVec (s : State) (v : VecSched) (f : Fld) : (s.setVec v).flag f = s.flag f := rfl

/-- The oldest block that is under way ends (R263). -/
theorem exec_vgParamDone_of_begun {j : ParamJob} {js : List ParamJob} (hparams : s.vec.params = j :: js)
    (hbegun : j.begun = true)
    (hu : j.engines.foldl (fun s e =>
      (s.setEng e (Eng.putBytes 127 (s.eng e) j.addr j.block)).injectEng 5 e (j.addr / 32)) s = u) :
    exec .vgParamDone s = .next ((u.setVec { u.vec with params := js }).endLater j.func j.id ⟨stDone, 0, []⟩) := by
  rw [exec_vgParamDone, execVgParamDone, hparams]
  dsimp only
  rw [if_pos hbegun, hu]

theorem vgParamDone_ends (s : State) (j : ParamJob) (js : List ParamJob) (hparams : s.vec.params = j :: js)
    (hbegun : j.begun = true) (hnodup : j.engines.Nodup) (hinj : s.injection 5 = none) :
    ∃ v, exec .vgParamDone s = .next (v.endLater j.func j.id ⟨stDone, 0, []⟩) ∧
      (∀ e ∈ j.engines, v.eng e = Eng.putBytes 127 (s.eng e) j.addr j.block) ∧ v.vec.params = js ∧
      (∀ k, k ∉ j.engines → v.eng k = s.eng k) ∧ OnlyChanges [.vec] s v := by
  obtain ⟨u, hu, hin, hout, htouch⟩ := s.foldl_putBytes j.addr j.block j.engines hnodup hinj
  exact ⟨u.setVec { u.vec with params := js }, exec_vgParamDone_of_begun hparams hbegun hu, hin, rfl, hout,
    (htouch.trans (u.setVec_touches _)).onlyChanges (fun _ hx => hx)⟩

theorem State.injectEng_spad (h : s.injection 5 = some d) (e i : Nat) :
    s.injectEng 5 e i = (s.setFld F.MEM_INJ_GO 0).setEng e ((s.eng e).setSpad i ((s.eng e).spadWord i ^^^ d)) := by
  unfold State.injectEng
  rw [h]
  dsimp only
  rw [State.eng_setFld]
  rfl

@[simp] theorem State.flag_setEng (s : State) (e : Nat) (x : Eng) (f : Fld) : (s.setEng e x).flag f = s.flag f := rfl

theorem vgParamDone_injects (s : State) (e : Nat) (j : ParamJob) (js : List ParamJob) (d : Codeword)
    (hparams : s.vec.params = j :: js) (hbegun : j.begun = true) (hengines : j.engines = [e])
    (hinj : s.injection 5 = some d) :
    ∃ v, exec .vgParamDone s = .next (v.endLater j.func j.id ⟨stDone, 0, []⟩) ∧
      (v.eng e).spadWord (j.addr / 32) = (Eng.putBytes 127 (s.eng e) j.addr j.block).spadWord (j.addr / 32) ^^^ d ∧
        v.flag F.MEM_INJ_GO = false ∧
      v.vec.params = js ∧ (∀ k, k ≠ e → v.eng k = s.eng k) ∧ OnlyChanges [.vec, .regs] s v := by
  set y := Eng.putBytes 127 (s.eng e) j.addr j.block with hy
  set u := ((s.setEng e y).setFld F.MEM_INJ_GO 0).setEng e (y.setSpad (j.addr / 32) (y.spadWord (j.addr / 32) ^^^ d)) with hu
  have hfold : j.engines.foldl (fun s e =>
      (s.setEng e (Eng.putBytes 127 (s.eng e) j.addr j.block)).injectEng 5 e (j.addr / 32)) s = u := by
    rw [hengines, List.foldl_cons, List.foldl_nil, ← hy, State.injectEng_spad ((s.injection_setEng e y 5).trans hinj),
      State.eng_setEng, if_pos rfl]
  have htouch : Touches ⟨[.vec, .regs], [(fun _ => R.MEM_INJ, 0)], []⟩ s u :=
    (((Touches.refl _ s).part (s.setEng_touches e y)).next
      (State.setFld_touches _ F.MEM_INJ_GO 0 (fun _ => R.MEM_INJ, 0) rfl) ⟨by simp, by simp, by simp⟩).part
      (State.setEng_touches ..)
  refine ⟨u.setVec { u.vec with params := js }, exec_vgParamDone_of_begun hparams hbegun hfold, ?_, ?_, rfl, fun k hk => ?_,
    (htouch.part (u.setVec_touches _)).onlyChanges (fun _ hx => hx)⟩
  · rw [State.eng_setParams, hu, State.eng_setEng, if_pos rfl, Eng.spadWord_setSpad, if_pos rfl]
  · rw [State.flag_setVec, hu, State.flag_setEng, State.flag_injGo_setFld]
  · rw [State.eng_setParams, hu, State.eng_setEng, if_neg hk, State.eng_setFld, State.eng_setEng, if_neg hk]

theorem vgParamDone_waits (h : (s.vec.params.head?.map (·.begun)).getD false = false) : exec (.vgParamDone) s = .next s := by
  rw [exec_vgParamDone, execVgParamDone]
  cases hparams : s.vec.params with
  | nil => rfl
  | cons j js =>
    rw [hparams] at h
    exact if_neg (by simpa using h)

/-! Fences. -/

/-- One tone group of one group changes. -/
theorem State.modTg_only (s : State) {g k : Nat} (hk : k < (s.vg g).tgs.length) (f : TGroup → TGroup) :
    ((s.modTg g k f).vg g).tg k = f ((s.vg g).tg k) ∧ (∀ h < 4, h ≠ g → (s.modTg g k f).vg h = s.vg h) ∧
      OnlyChanges [.vec] s (s.modTg g k f) :=
  ⟨s.tg_modTg hk f, fun h _ hg => by rw [State.vg_modTg, if_neg hg], (s.modTg_touches g k f).onlyChanges (fun _ hx => hx)⟩

theorem State.modTg_only_afterTake (s : State) (p : Pkt) {g k : Nat} (hk : k < (s.vg g).tgs.length) (f : TGroup → TGroup) :
    (((s.afterTake p).modTg g k f).vg g).tg k = f ((s.vg g).tg k) ∧
      (∀ h < 4, h ≠ g → ((s.afterTake p).modTg g k f).vg h = s.vg h) ∧
      OnlyChanges [.vec] (s.afterTake p) ((s.afterTake p).modTg g k f) := by
  have hmod := (s.afterTake p).modTg_only (g := g) (k := k) (by rw [State.vg_afterTake]; exact hk) f
  simpa only [State.vg_afterTake] using hmod

section FenceWords
variable (h : Taken 0x2006 p s) (hlen : 9 ≤ p.length) (hmod : p.length % 9 = 0) (htgt : p.target.toNat < 96)
include h hlen hmod htgt

theorem vgFenceWords_stages {m : Sparse (Option Nat)} {ok : Bool} (hserves : s.serves p.target.toNat = some (g, k))
    (hcommit : ((s.vg g).tg k).commit = none)
    (hstage : stageWords ((s.vg g).tg k).staged p.bytes (p.length / 9) = (m, ok)) :
    Ends (.vgFenceWords p) 0x2006 p s ⟨if ok then stDone else stNoResource, 0, []⟩ fun u =>
      (u.vg g).tg k = { (s.vg g).tg k with staged := m } ∧ (∀ h < 4, h ≠ g → u.vg h = s.vg h) ∧
      OnlyChanges [.vec] (s.afterTake p) u := by
  refine h.ends_of_checks (exec_vgFenceWords p s) (if_pos ⟨hlen, hmod⟩) (decide_eq_true htgt) ?_
    (s.modTg_only_afterTake p (State.serves_lt hserves).2 (fun t => { t with staged := m }))
  rw [State.serves_afterTake, hserves]
  dsimp only
  rw [State.vg_afterTake, if_neg (by simp [hcommit]), hstage]
  cases ok with
  | true => rfl
  | false => rfl

theorem vgFenceWords_busy (hserves : s.serves p.target.toNat = some (g, k)) (hcommit : ((s.vg g).tg k).commit ≠ none) :
    Ends (.vgFenceWords p) 0x2006 p s ⟨stBusy, 0, []⟩ fun u => OnlyChanges [] (s.afterTake p) u := by
  refine h.ends_unchanged (exec_vgFenceWords p s) (if_pos ⟨hlen, hmod⟩) (decide_eq_true htgt) ?_
  rw [State.serves_afterTake, hserves]
  dsimp only
  rw [State.vg_afterTake, if_pos (Option.isSome_iff_ne_none.mpr hcommit)]
  rfl

theorem vgFenceWords_badTarget (hserves : s.serves p.target.toNat = none) :
    Ends (.vgFenceWords p) 0x2006 p s ⟨stBadTarget, 0, []⟩ fun u => OnlyChanges [] (s.afterTake p) u := by
  refine h.ends_unchanged (exec_vgFenceWords p s) (if_pos ⟨hlen, hmod⟩) (decide_eq_true htgt) ?_
  rw [State.serves_afterTake, hserves]
  rfl

end FenceWords

section FenceAbort
variable (h : Taken 0x2008 p s) (hlen : p.length = 0) (htgt : p.target.toNat < 96)
include h hlen htgt

theorem vgFenceAbort_done (hserves : s.serves p.target.toNat = some (g, k)) (hcommit : ((s.vg g).tg k).commit = none) :
    Ends (.vgFenceAbort p) 0x2008 p s ⟨stDone, 0, []⟩ fun u =>
      (u.vg g).tg k = { (s.vg g).tg k with staged := [] } ∧ (∀ h < 4, h ≠ g → u.vg h = s.vg h) ∧
      OnlyChanges [.vec] (s.afterTake p) u := by
  refine h.ends_of_checks (exec_vgFenceAbort p s) (if_pos hlen) (decide_eq_true htgt) ?_
    (s.modTg_only_afterTake p (State.serves_lt hserves).2 (fun t => { t with staged := [] }))
  rw [State.serves_afterTake, hserves]
  dsimp only
  rw [State.vg_afterTake, if_neg (by simp [hcommit])]
  rfl

theorem vgFenceAbort_busy (hserves : s.serves p.target.toNat = some (g, k)) (hcommit : ((s.vg g).tg k).commit ≠ none) :
    Ends (.vgFenceAbort p) 0x2008 p s ⟨stBusy, 0, []⟩ fun u => OnlyChanges [] (s.afterTake p) u := by
  refine h.ends_unchanged (exec_vgFenceAbort p s) (if_pos hlen) (decide_eq_true htgt) ?_
  rw [State.serves_afterTake, hserves]
  dsimp only
  rw [State.vg_afterTake, if_pos (Option.isSome_iff_ne_none.mpr hcommit)]
  rfl

theorem vgFenceAbort_badTarget (hserves : s.serves p.target.toNat = none) :
    Ends (.vgFenceAbort p) 0x2008 p s ⟨stBadTarget, 0, []⟩ fun u => OnlyChanges [] (s.afterTake p) u := by
  refine h.ends_unchanged (exec_vgFenceAbort p s) (if_pos hlen) (decide_eq_true htgt) ?_
  rw [State.serves_afterTake, hserves]
  rfl

end FenceAbort

/-! Commit. -/

/-- What the commits of tone groups leave of their group: its tone groups' number and its fences. -/
theorem State.foldl_commit (g : Nat) (ps : List (Nat × Nat)) (s : State) (hnodup : (ps.map Prod.fst).Nodup)
    (hlt : ∀ q ∈ ps, q.1 < (s.vg g).tgs.length) :
    ∃ u, ps.foldl (fun s q => s.modTg g q.1 (fun t => { t with commit := some q.2 })) s = u ∧
      (∀ q ∈ ps, ((u.vg g).tg q.1).commit = some q.2) ∧ (∀ j, j ∉ ps.map Prod.fst → (u.vg g).tg j = (s.vg g).tg j) ∧
      (u.vg g).fences = (s.vg g).fences ∧ (∀ h, h ≠ g → u.vg h = s.vg h) ∧ Touches ⟨[.vec], [], []⟩ s u := by
  induction ps generalizing s with
  | nil => exact ⟨s, rfl, by simp, fun _ _ => rfl, rfl, fun _ _ => rfl, .refl _ s⟩
  | cons q ps ih =>
    rw [List.map_cons, List.nodup_cons] at hnodup
    obtain ⟨hq, hnodup⟩ := hnodup
    have hqlt := hlt q List.mem_cons_self
    set v := s.modTg g q.1 (fun t => { t with commit := some q.2 }) with hv
    have hvg : v.vg g = (s.vg g).setTg q.1 { (s.vg g).tg q.1 with commit := some q.2 } := by
      rw [hv, State.vg_modTg, if_pos rfl]
    have hlen : (v.vg g).tgs.length = (s.vg g).tgs.length := by rw [hvg]; exact List.length_set
    obtain ⟨u, hu, hin, hout, hfences, hothers, htouch⟩ := ih v hnodup
      (fun r hr => hlen ▸ hlt r (List.mem_cons_of_mem _ hr))
    refine ⟨u, by rw [List.foldl_cons, ← hv, hu], fun r hr => ?_, fun j hj => ?_, ?_, fun h hh => ?_,
      (s.modTg_touches g q.1 _).trans htouch⟩
    · obtain rfl | hr := List.mem_cons.mp hr
      · rw [hout _ hq, hvg, Group.tg_setTg _ hqlt, if_pos rfl]
      · exact hin r hr
    · rw [List.map_cons, List.mem_cons, not_or] at hj
      rw [hout j hj.2, hvg, Group.tg_setTg _ hqlt, if_neg hj.1]
    · rw [hfences, hvg]
      rfl
    · rw [hothers h hh, hv, State.vg_modTg, if_neg hh]

/-- The tone groups that a commit names, as the command reads them. -/
theorem fenceCommit_names (l : List Word) :
    (l.map (fun w => (w.toNat % 256, w.toNat / 65536))).map (fun q => q.1) = l.map (fun w => w.toNat % 256) := by
  rw [List.map_map]
  rfl

section FenceCommit
variable {ks : List Nat} (h : Taken 0x2007 p s) (hlo : 1 ≤ p.length) (hhi : p.length ≤ 96) (hg : g = p.target.toNat)
  (hg4 : g < 4) (hks : ks = p.payload.map (fun w => w.toNat % 256))
include h hlo hhi hg hg4

theorem vgFenceCommit_badTarget (hstate : (s.vg g).state = 0) :
    Ends (.vgFenceCommit p) 0x2007 p s ⟨stBadTarget, 0, []⟩ fun u => OnlyChanges [] (s.afterTake p) u := by
  subst hg
  exact h.ends_unaccepted (exec_vgFenceCommit p s) (if_pos ⟨hlo, hhi⟩) (decide_eq_true hg4)
    (if_pos (by rw [State.vg_afterTake]; exact hstate)) (by decide)

include hks

theorem vgFenceCommit_badParam (hstate : (s.vg g).state ≠ 0)
    (hbad : ks.any (fun k => decide ((s.vg g).tgs.length ≤ k)) = true ∨ ¬ ks.Nodup) :
    Ends (.vgFenceCommit p) 0x2007 p s ⟨stBadParam, 0, []⟩ fun u => OnlyChanges [] (s.afterTake p) u := by
  have hnames := (fenceCommit_names p.payload).trans hks.symm
  subst hg
  refine h.ends_unaccepted (exec_vgFenceCommit p s) (if_pos ⟨hlo, hhi⟩) (decide_eq_true hg4) ?_ (by decide)
  dsimp only
  rw [hnames, State.vg_afterTake, if_neg hstate, if_pos (by simpa only [decide_eq_false_iff_not] using hbad)]
  rfl

theorem vgFenceCommit_busy (hstate : (s.vg g).state ≠ 0) (hnodup : ks.Nodup) (hlt : ∀ k ∈ ks, k < (s.vg g).tgs.length)
    (hbusy : ks.any (fun k => ((s.vg g).tg k).commit.isSome || !(s.eng ((s.vg g).tg k).eng).slab.overlay.isEmpty) = true) :
    Ends (.vgFenceCommit p) 0x2007 p s ⟨stBusy, 0, []⟩ fun u => OnlyChanges [] (s.afterTake p) u := by
  have hnames := (fenceCommit_names p.payload).trans hks.symm
  have hgood : ¬ (ks.any (fun k => decide ((s.vg g).tgs.length ≤ k)) = true ∨ decide ks.Nodup = false) := by
    simpa [hnodup] using hlt
  subst hg
  refine h.ends_unaccepted (exec_vgFenceCommit p s) (if_pos ⟨hlo, hhi⟩) (decide_eq_true hg4) ?_ (by decide)
  dsimp only
  simp only [hnames, State.vg_afterTake, State.eng_afterTake]
  rw [if_neg hstate, if_neg hgood, if_pos hbusy]
  rfl

theorem vgFenceCommit_accepted (hstate : (s.vg g).state ≠ 0) (hnodup : ks.Nodup)
    (hfree : ∀ k ∈ ks, k < (s.vg g).tgs.length ∧ ((s.vg g).tg k).commit = none ∧
      (s.eng ((s.vg g).tg k).eng).slab.overlay = []) :
    Accepts (.vgFenceCommit p) 0x2007 p s 0 fun u =>
      (u.vg g).fences = (s.vg g).fences ++ [⟨ks, s.tick.count.toNat, p.func.val, s.cmdId⟩] ∧
      (∀ w ∈ p.payload, ((u.vg g).tg (w.toNat % 256)).commit = some (w.toNat / 65536)) ∧
      (∀ h < 4, h ≠ g → u.vg h = s.vg h) ∧ OnlyChanges [.vec] (s.afterTake p) u := by
  have hnames := (fenceCommit_names p.payload).trans hks.symm
  have hgood : ¬ (ks.any (fun k => decide ((s.vg g).tgs.length ≤ k)) = true ∨ decide ks.Nodup = false) := by
    simpa [hnodup] using fun k hk => (hfree k hk).1
  have hidle : ¬ ks.any (fun k => ((s.vg g).tg k).commit.isSome ||
      !(s.eng ((s.vg g).tg k).eng).slab.overlay.isEmpty) = true := by
    simpa using fun k hk => (hfree k hk).2
  obtain ⟨u, hu, hin, -, hfences, hothers, htouch⟩ := State.foldl_commit g
    (p.payload.map (fun w => (w.toNat % 256, w.toNat / 65536))) (s.afterTake p) (by rw [hnames]; exact hnodup)
    (fun q hq => by
      rw [State.vg_afterTake]
      exact (hfree q.1 (hnames ▸ List.mem_map_of_mem hq)).1)
  have htick : u.tick = s.tick := (htouch.parts .tick (by simp)).trans (s.afterTake_tick p)
  subst hg
  refine h.accepts_of_checks (exec_vgFenceCommit p s) (if_pos ⟨hlo, hhi⟩) (decide_eq_true hg4)
    (u := u.setVg p.target.toNat { u.vg p.target.toNat with
      fences := (u.vg p.target.toNat).fences ++ [⟨ks, u.tick.count.toNat, p.func.val, s.cmdId⟩] }) ?_ ⟨?_, fun w hw => ?_,
    fun j _ hj => ?_, (htouch.trans (State.setVg_touches ..)).onlyChanges (fun _ hx => hx)⟩
  · dsimp only
    simp only [hnames, hu, State.vg_afterTake, State.eng_afterTake]
    rw [if_neg hstate, if_neg hgood, if_neg hidle]
  · rw [State.vg_setVg, if_pos rfl, hfences, htick, State.vg_afterTake]
  · rw [State.vg_setVg, if_pos rfl]
    exact hin _ (List.mem_map_of_mem (f := fun w : Word => (w.toNat % 256, w.toNat / 65536)) hw)
  · rw [State.vg_setVg, if_neg hj, hothers j hj, State.vg_afterTake]

end FenceCommit

/-! The drain of an overlay. -/

theorem Slab.word_setOverlay (b : Slab) (o : Sparse (Option Nat)) (k : Nat) :
    ({ b with overlay := o } : Slab).word k = b.word k := rfl

theorem Slab.settle_of_want_none {b : Slab} (h : b.want = none) (e : Nat) : b.settle e = b := by
  unfold Slab.settle
  rw [h]

theorem Slab.want_setWord (b : Slab) (i : Nat) (w : Codeword) : (b.setWord i w).want = b.want := rfl
theorem Slab.want_setOverlay (b : Slab) (o : Sparse (Option Nat)) : ({ b with overlay := o } : Slab).want = b.want := rfl

/-- An engine whose slab has a word written, on which an armed injection falls (R525). -/
theorem State.settle_injected (e i : Nat) (x : Eng) {c : Codeword} (hinj : s.injection 4 = some c) :
    (x.slab.want = none →
      ((((s.setEng e x).injectEng 4 e i).settleSlab e).eng e).slab.word i = x.slab.word i ^^^ c) ∧
      (((s.setEng e x).injectEng 4 e i).settleSlab e).flag F.MEM_INJ_GO = false ∧
      (∀ k < 96, k ≠ e → (((s.setEng e x).injectEng 4 e i).settleSlab e).eng k = s.eng k) ∧
      RegsKept [R.MEM_INJ] s (((s.setEng e x).injectEng 4 e i).settleSlab e) ∧
      OnlyChanges [.vec, .regs] s (((s.setEng e x).injectEng 4 e i).settleSlab e) := by
  have heng : (s.setEng e x).eng e = x := by rw [State.eng_setEng, if_pos rfl]
  have hstate : ((s.setEng e x).injectEng 4 e i).settleSlab e =
      ((((s.setEng e x).setFld F.MEM_INJ_GO 0).setSlab e (x.slab.setWord i (x.slab.word i ^^^ c))).setSlab e
        (Slab.settle (x.slab.setWord i (x.slab.word i ^^^ c)) e)) := by
    rw [State.injectEng_slab ((s.injection_setEng e x 4).trans hinj), heng, State.settleSlab, State.slab_setSlab]
  rw [hstate]
  have htouch : Touches ⟨[.vec, .regs], [(fun _ => R.MEM_INJ, 0)], []⟩ s
      (((s.setEng e x).setFld F.MEM_INJ_GO 0).setSlab e (x.slab.setWord i (x.slab.word i ^^^ c))) :=
    (((Touches.refl _ s).part (s.setEng_touches e x)).next
      (State.setFld_touches _ F.MEM_INJ_GO 0 (fun _ => R.MEM_INJ, 0) rfl) ⟨by simp, by simp, by simp⟩).part
      (State.setSlab_touches ..)
  have hdone := htouch.part (State.setSlab_touches _ e (Slab.settle (x.slab.setWord i (x.slab.word i ^^^ c)) e))
  refine ⟨fun hnone => ?_, ?_, fun k _ hk => ?_, hdone.regsKept (by simp), hdone.onlyChanges (fun _ hx => hx)⟩
  · rw [State.slab_setSlab, Slab.settle_of_want_none ((x.slab.want_setWord ..).trans hnone),
      Slab.word_setWord, if_pos rfl]
  · rw [State.flag_setSlab, State.flag_setSlab, State.flag_injGo_setFld]
  · rw [State.eng_setSlab_of_ne _ _ hk, State.eng_setSlab_of_ne _ _ hk, State.eng_setFld, State.eng_setEng, if_neg hk]

section Drain
variable {e : Fin 96} {i d : Nat} {rest : Sparse (Option Nat)} (hoverlay : (s.eng e.val).slab.overlay = (i, some d) :: rest)
  (hready : (s.eng e.val).slab.ready = true)
  (hfree : (s.eng e.val).st ≠ .running ∨ (s.eng e.val).wait.isSome = true ∨ (s.eng e.val).cFree = true)
include hoverlay hready hfree

/-- The word of the overlay whose turn it is (R266). -/
theorem exec_fenceDrainWord_of_free : exec (.fenceDrainWord e) s =
    .next ((((s.setEng e.val { s.eng e.val with
      slab := { (s.eng e.val).slab.setWord i (encodeWord d) with overlay := rest }, cFree := false }).injectEng 4 e.val
        i)).settleSlab e.val) := by
  rw [exec_fenceDrainWord, execFenceDrainWord]
  dsimp only
  rw [hoverlay]
  exact if_pos ⟨hready, by simpa [or_assoc] using hfree⟩

theorem fenceDrainWord_drains (hinj : s.injection 4 = none) :
    Completes (.fenceDrainWord e) s fun t =>
      (t.eng e.val).slab = Slab.settle { (s.eng e.val).slab.setWord i (encodeWord d) with overlay := rest } e.val ∧
      (∀ k < 96, k ≠ e.val → t.eng k = s.eng k) ∧ OnlyChanges [.vec] s t := by
  refine ⟨_, exec_fenceDrainWord_of_free hoverlay hready hfree, ?_⟩
  rw [State.injectEng_of_none ((s.injection_setEng ..).trans hinj), State.settleSlab]
  refine ⟨?_, fun k _ hk => ?_, ((s.setEng_touches e.val _).trans (State.setSlab_touches ..)).onlyChanges (fun _ hx => hx)⟩
  · rw [State.slab_setSlab, State.eng_setEng, if_pos rfl]
  · rw [State.eng_setSlab_of_ne _ _ hk, State.eng_setEng, if_neg hk]

theorem fenceDrainWord_injects {c : Codeword} (hinj : s.injection 4 = some c) :
    Completes (.fenceDrainWord e) s fun t =>
      ((s.eng e.val).slab.want = none → (t.eng e.val).slab.word i = encodeWord d ^^^ c) ∧
      t.flag F.MEM_INJ_GO = false ∧ (∀ k < 96, k ≠ e.val → t.eng k = s.eng k) ∧ RegsKept [R.MEM_INJ] s t ∧
      OnlyChanges [.vec, .regs] s t := by
  obtain ⟨hword, hrest⟩ := State.settle_injected e.val i { s.eng e.val with
    slab := { (s.eng e.val).slab.setWord i (encodeWord d) with overlay := rest }, cFree := false } hinj
  refine ⟨_, exec_fenceDrainWord_of_free hoverlay hready hfree, fun hnone => (hword ?_).trans ?_, hrest⟩
  · rw [Slab.want_setOverlay, Slab.want_setWord, hnone]
  · rw [Slab.word_setOverlay, Slab.word_setWord, if_pos rfl]

end Drain

theorem fenceDrainWord_waits (e : Fin 96) (s : State)
    (hno : ((s.eng e.val).slab.overlay.head?.bind (·.2)) = none ∨ (s.eng e.val).slab.ready = false ∨
      ((s.eng e.val).st = .running ∧ (s.eng e.val).wait = none ∧ (s.eng e.val).cFree = false)) :
    exec (.fenceDrainWord e) s = .next s := by
  rw [exec_fenceDrainWord, execFenceDrainWord]
  dsimp only
  cases hoverlay : (s.eng e.val).slab.overlay with
  | nil => rfl
  | cons q rest =>
    obtain ⟨i, v⟩ := q
    cases v with
    | none => rfl
    | some d =>
      refine if_neg ?_
      obtain hno | hno | ⟨hst, hwait, hfree⟩ := hno
      · simp [hoverlay] at hno
      · simp [hno]
      · simp [hst, hwait, hfree]

end Sys2Proof.Machine
end

section
/-! SUPPORT. Tiles that the tick DMA writes and reads, and the statement on parameters, fences and tiles (R181, R187, R188, R192,
R261, R297). -/

namespace Sys2Proof.Machine

variable {s t u : State} {y z : Sym} {g k q e i n p : Nat} {w : Codeword}

/-! A tile handed on by its port. -/

/-- What a port that hands a tile on touches (R300, R315). -/
@[simp] def handReach (p : Nat) : Reach :=
  ⟨[.regs, .cnt, .arb, .svl], [(R.SVL_SAT, p)], [C.SVL_TILES_RX p, C.SVL_TILE_CE p, C.SVL_TILE_UE p]⟩

/-- A tile of port p has been handed on and counted, and nothing of the array has changed. -/
structure Handed (p : Nat) (s u : State) : Prop where
  touches : Touches (handReach p) s u
  counted : s.count (C.SVL_TILES_RX p) < 0xFFFFFFFE → u.count (C.SVL_TILES_RX p) = s.count (C.SVL_TILES_RX p) + 1

theorem State.bump_of_wide (s : State) {c : Ctr} (h : c.wide = true) : s.bump c = s.setCount c ((s.count c + 1) % 2 ^ 64) := by
  simp [State.bump, State.bumpBy, h]

theorem State.bump_tilesRx_handed (s : State) (p : Nat) : Handed p s (s.bump (C.SVL_TILES_RX p)) where
  touches := by
    rw [s.bump_of_wide (c := C.SVL_TILES_RX p) rfl]
    exact (s.setCount_touches _ _).mono ⟨by simp, by simp, by simp⟩
  counted h := by
    rw [State.bump, s.count_bumpBy_of_wide 1 rfl]
    omega

/-- What follows leaves the count of the tiles. -/
theorem Handed.next {F : Reach} (h : Handed p s t) (h' : Touches F t u) (hF : F.Within (handReach p))
    (hc : ∀ c ∈ F.ctrs, c.off ≠ (C.SVL_TILES_RX p).off) : Handed p s u where
  touches := h.touches.next h' hF
  counted hlt := (h'.ctrs _ hc).trans (h.counted hlt)

theorem State.handTile_handed (s : State) (k p pos tick : Nat) (fb : Bool) (c : Codeword) :
    Handed p s (s.handTile k p pos tick fb c).1 := by
  have hrx := s.bump_tilesRx_handed p
  unfold State.handTile
  extract_lets v w o x
  have hv : Handed p s v := hrx
  split
  · exact hv
  · exact hv.next (F := ⟨[.regs, .cnt, .arb], [(R.SVL_SAT, p)], [C.SVL_TILE_CE p]⟩)
      ((Touches.refl _ v).bump (C.SVL_TILE_CE p) (R.SVL_SAT, p) rfl) ⟨by simp, by simp, by simp⟩ (by simp)
  · have hw : Handed p s w := hv.next (F := ⟨[.regs, .cnt, .arb], [(R.SVL_SAT, p)], [C.SVL_TILE_UE p]⟩)
      ((Touches.refl _ v).bump (C.SVL_TILE_UE p) (R.SVL_SAT, p) rfl) ⟨by simp, by simp, by simp⟩ (by simp)
    show Handed p s x
    dsimp only [x]
    split
    · exact hw
    · exact (hw.next (w.setSvlPort_touches p _) ⟨by simp, by simp, by simp⟩ (by simp)).next (State.raiseRow_touches ..)
        ⟨by simp, by simp, by simp⟩ (by simp)

theorem Handed.eng (h : Handed p s u) (e : Nat) : u.eng e = s.eng e := h.touches.eng e
theorem Handed.updating (h : Handed p s u) (x : Group) : u.updating x = s.updating x := by
  simp only [State.updating, h.touches.vec]
theorem Handed.injection (h : Handed p s u) (m : Nat) : u.injection m = s.injection m :=
  State.injection_of_regs m (h.touches.regs _ (by simp only [handReach, List.mem_singleton, forall_eq, R.SVL_SAT, R.MEM_INJ]; omega))
    (h.touches.regs _ (by simp only [handReach, List.mem_singleton, forall_eq, R.SVL_SAT, R.MEM_INJ_PAT]; omega))

/-! What a tile leaves. -/

/-- From s to t a tile of port p has been counted; of the rest of the device only the array and the port change. -/
structure TileCounted (p : Nat) (s t : State) : Prop where
  counted : s.count (C.SVL_TILES_RX p) < 0xFFFFFFFE → t.count (C.SVL_TILES_RX p) = s.count (C.SVL_TILES_RX p) + 1
  regs : RegsKeptIn [fun _ => R.MEM_INJ, R.SVL_SAT] s t
  only : OnlyChanges [.regs, .cnt, .arb, .vec, .svl] s t

theorem Handed.tileCounted (h : Handed p s u) : TileCounted p s u where
  counted := h.counted
  regs := h.touches.regsKeptIn (by simp)
  only := h.touches.onlyChanges (by simp)

theorem TileCounted.vec (h : TileCounted p s t) (h' : Touches ⟨[.vec], [], []⟩ t u) : TileCounted p s u where
  counted hlt := (h'.ctrs _ (by simp)).trans (h.counted hlt)
  regs o ho := (h'.regs o (by simp)).trans (h.regs o ho)
  only := h.only.trans (h'.onlyChanges (by simp))

/-- Engine e holds the tile w at scratchpad codeword i, its write port taken, and no other engine has changed (R187). -/
structure TileAt (e i : Nat) (w : Codeword) (s t : State) : Prop where
  word : (t.eng e).spadWord i = w
  port : (t.eng e).wrFree = false
  others : ∀ j < 96, j ≠ e → t.eng j = s.eng j

theorem TileAt.of_eng (h : TileAt e i w s t) (he : ∀ j, u.eng j = t.eng j) : TileAt e i w s u where
  word := by rw [he]; exact h.word
  port := by rw [he]; exact h.port
  others j hj hne := (he j).trans (h.others j hj hne)

theorem TileAt.raiseIp (h : TileAt e i w s t) (n : Nat) : TileAt e i w s (t.raiseIp e n) where
  word := by rw [State.raiseIp, State.eng_setEng, if_pos rfl]; exact h.word
  port := by rw [State.raiseIp, State.eng_setEng, if_pos rfl]; exact h.port
  others j hj hne := by rw [State.raiseIp, State.eng_setEng, if_neg hne]; exact h.others j hj hne

/-- The symbol's next tile of tone group k and port entry q has been written. -/
structure Sym.Advanced (y : Sym) (k q : Nat) (z : Sym) : Prop where
  written : z.written k q = y.written k q + 1
  tick : z.tick = y.tick
  eng : z.eng k = y.eng k

theorem Sym.advanced_wr (y : Sym) (k q : Nat) :
    y.Advanced k q { y with wr := sparseSet (fun _ => 0) y.wr (dmaKey k q) (y.written k q + 1) } where
  written := by rw [Sym.written, sparseGet_sparseSet, if_pos rfl]
  tick := rfl
  eng := rfl

theorem Sym.Advanced.bypass (h : y.Advanced k q z) : y.Advanced k q (z.bypass k) := by
  unfold Sym.bypass
  split
  · exact h
  · exact ⟨h.written, h.tick, h.eng⟩

/-! What the tick DMA writes. -/

/-- The tile is put into the scratchpad where no injection is armed. -/
theorem Handed.dmaPut (h : Handed p s u) (hinj : s.injection 5 = none) (e i : Nat) (w : Codeword) :
    TileCounted p s (u.dmaPut e i w) ∧ TileAt e (i % 4096) w s (u.dmaPut e i w) := by
  have hput : u.dmaPut e i w = u.setEng e { (u.eng e).setSpad (i % 4096) w with wrFree := false } := by
    rw [State.dmaPut, State.injectEng_of_none]
    exact (h.injection 5).trans hinj
  rw [hput]
  refine ⟨h.tileCounted.vec (State.setEng_touches ..), ?_, ?_, fun j _ hj => ?_⟩
  · rw [State.eng_setEng, if_pos rfl]
    exact ((u.eng e).spadWord_setSpad (i % 4096) w (i % 4096)).trans (if_pos rfl)
  · rw [State.eng_setEng, if_pos rfl]
  · rw [State.eng_setEng, if_neg hj, h.eng]

/-- The buffer that a tile replaces is still read for an older symbol (R188). -/
def Group.held (x : Group) (y : Sym) (k q : Nat) : Bool :=
  match x.outg with
  | some z => z.par == y.par && z.eng k == y.eng k && decide (z.readOut k q ≤ y.written k q) &&
      decide (z.readOut k q < x.tiles q k) && decide (y.written k q < x.tiles q k)
  | none => false

section DmaWrite
variable {l : Nat} (hl : l = s.portWidth ((s.vg g).port q).port) (hn : n = y.written k q)
  (hheld : (s.vg g).held y k q = false)
include hl hn hheld

/-- A sample tile at hand goes to its engine's buffer (R187, R188). -/
theorem State.dmaWrite_sample (hlt : n < (s.vg g).tiles q k) (horder : (s.vg g).inOrder y k q false = true)
    (hhand : ((s.svlPort ((s.vg g).port q).port).rxOf y.tick).atHand l false ((s.vg g).tgStart q k + n) = true)
    (hport : (s.eng (y.eng k)).portFree false = true)
    (hmid : (s.eng (y.eng k)).midWrite (s.fld (F.VE_BUF_BASE (y.eng k) y.par) + (s.vg g).tileOffset q k + n) = false)
    (hinj : s.injection 5 = none) :
    ∃ u z, s.dmaWrite g k q y = some (u, z) ∧ y.Advanced k q z ∧ TileCounted ((s.vg g).port q).port s u ∧
      TileAt (y.eng k) ((s.fld (F.VE_BUF_BASE (y.eng k) y.par) + (s.vg g).tileOffset q k + n) % 4096)
        (((s.svlPort ((s.vg g).port q).port).rxOf y.tick).tile l false ((s.vg g).tgStart q k + n)) s u := by
  subst hl hn
  unfold State.dmaWrite
  extract_lets x p l r n c e held y' pos i w
  have hfree : held = false := hheld
  have hhanded := s.handTile_handed k p pos y.tick false w
  generalize s.handTile k p pos y.tick false w = hand at hhanded ⊢
  obtain ⟨v, bad⟩ := hand
  obtain ⟨hcounted, hat⟩ := hhanded.dmaPut hinj e i w
  refine ⟨v.dmaPut e i w, if bad then y'.bypass k else y', ?_, ?_, hcounted, hat⟩
  · have hlater : ¬ c ≤ n := Nat.not_le.mpr hlt
    rw [if_neg (by simp [hfree, hlater, horder, x, n]; omega), if_pos hlt, if_pos (by rw [hhand, hport, hmid]; rfl)]
  · split
    · exact (y.advanced_wr k q).bypass
    · exact y.advanced_wr k q

/-- A feedback tile at hand goes to its engine's buffer where the vector cycle updates (R187, R188, R261). -/
theorem State.dmaWrite_feedback (hle : (s.vg g).tiles q k ≤ n) (hlt : n < (s.vg g).tiles q k + (s.vg g).fbTiles)
    (horder : (s.vg g).inOrder y k q true = true)
    (hhand : ((s.svlPort ((s.vg g).port q).port).rxOf y.tick).atHand l true
      (k * (s.vg g).fbTiles + (n - (s.vg g).tiles q k)) = true)
    (hupd : s.updating (s.vg g) = true) (hport : (s.eng (y.eng k)).portFree false = true)
    (hmid : (s.eng (y.eng k)).midWrite (s.fld (F.VE_BUF_BASE (y.eng k) (4 + y.par)) + q * (s.vg g).fbTiles +
      (n - (s.vg g).tiles q k)) = false)
    (hinj : s.injection 5 = none) :
    ∃ u z, s.dmaWrite g k q y = some (u, z) ∧ y.Advanced k q z ∧ TileCounted ((s.vg g).port q).port s u ∧
      TileAt (y.eng k) ((s.fld (F.VE_BUF_BASE (y.eng k) (4 + y.par)) + q * (s.vg g).fbTiles +
        (n - (s.vg g).tiles q k)) % 4096)
        (((s.svlPort ((s.vg g).port q).port).rxOf y.tick).tile l true (k * (s.vg g).fbTiles +
          (n - (s.vg g).tiles q k))) s u := by
  subst hl hn
  unfold State.dmaWrite
  extract_lets x p l r n c e held y' _ _ _ pos i w
  have hfree : held = false := hheld
  have hhanded := s.handTile_handed k p (2 * ceilDiv (x.sampleTiles q) 2 + pos) y.tick true w
  generalize s.handTile k p (2 * ceilDiv (x.sampleTiles q) 2 + pos) y.tick true w = hand at hhanded ⊢
  obtain ⟨v, bad⟩ := hand
  have hvupd : v.updating x = s.updating x := hhanded.updating x
  obtain ⟨hcounted, hat⟩ := hhanded.dmaPut hinj e i w
  refine ⟨v.dmaPut e i w, y', ?_, y.advanced_wr k q, hcounted, hat⟩
  have hlater : c ≤ n := hle
  rw [if_neg (by simp [hfree, hlater, horder, x, n]; omega), if_neg (Nat.not_lt.mpr hle), if_pos hhand,
    if_neg (by rw [hport, hmid]; simp)]
  dsimp only
  rw [hvupd, if_pos hupd]

/-- A feedback tile at hand is discarded where the vector cycle does not update (R261). -/
theorem State.dmaWrite_discard (hle : (s.vg g).tiles q k ≤ n) (hlt : n < (s.vg g).tiles q k + (s.vg g).fbTiles)
    (horder : (s.vg g).inOrder y k q true = true)
    (hhand : ((s.svlPort ((s.vg g).port q).port).rxOf y.tick).atHand l true
      (k * (s.vg g).fbTiles + (n - (s.vg g).tiles q k)) = true)
    (hupd : s.updating (s.vg g) = false) :
    ∃ u z, s.dmaWrite g k q y = some (u, z) ∧ y.Advanced k q z ∧ TileCounted ((s.vg g).port q).port s u ∧
      ∀ j, u.eng j = s.eng j := by
  subst hl hn
  unfold State.dmaWrite
  extract_lets x p l r n c e held y' _ _ _ pos i w
  have hfree : held = false := hheld
  have hhanded := s.handTile_handed k p (2 * ceilDiv (x.sampleTiles q) 2 + pos) y.tick true w
  generalize s.handTile k p (2 * ceilDiv (x.sampleTiles q) 2 + pos) y.tick true w = hand at hhanded ⊢
  obtain ⟨v, bad⟩ := hand
  have hvupd : v.updating x = s.updating x := hhanded.updating x
  refine ⟨v, y', ?_, y.advanced_wr k q, hhanded.tileCounted, hhanded.eng⟩
  have hlater : c ≤ n := hle
  rw [if_neg (by simp [hfree, hlater, horder, x, n]; omega), if_neg (Nat.not_lt.mpr hle), if_pos hhand,
    if_neg (by simp [x, hupd])]
  dsimp only
  rw [hvupd, if_neg (by simp [x, hupd])]

end DmaWrite

/-- No older symbol holds the buffer, as the statement says it (R188). -/
theorem Group.held_eq_false (x : Group) {y : Sym} (hn : n = y.written k q)
    (h : x.outg.all (fun z => !(z.par == y.par && z.eng k == y.eng k && decide (z.readOut k q ≤ n) &&
      decide (z.readOut k q < x.tiles q k) && decide (n < x.tiles q k))) = true) : x.held y k q = false := by
  subst hn
  unfold Group.held
  cases houtg : x.outg with
  | none => rfl
  | some z => simpa only [houtg, Option.all_some, Bool.not_eq_true'] using h

/-! The rows. -/

section Rows
variable {g : Fin 4} {k : Fin 96} {q : Fin 16} {y : Sym}

section Write
variable (hk : k.val < (s.vg g.val).tgs.length) (hq : q.val < (s.vg g.val).ports.length)
include hk hq

/-- A tile of the symbol computed, which is still owed tiles (R188). -/
theorem exec_dmaTileWrite_comp {z : Sym} (howed : (s.vg g.val).owed k.val q.val = true) (hcomp : (s.vg g.val).comp = some y)
    (hwrite : s.dmaWrite g.val k.val q.val y = some (u, z)) :
    exec (.dmaTileWrite g k q) s = .next (u.setVg g.val { u.vg g.val with comp := some z }) := by
  rw [exec_dmaTileWrite, execDmaTileWrite]
  dsimp only
  rw [if_neg (by omega), if_pos howed, hcomp]
  dsimp only
  rw [hwrite]

/-- A tile of the symbol that arrives; the last one makes cause 1 pending (R188, Table 7-9). -/
theorem exec_dmaTileWrite_inc {z : Sym} (howed : (s.vg g.val).owed k.val q.val = false) (hinc : (s.vg g.val).inc = some y)
    (hwrite : s.dmaWrite g.val k.val q.val y = some (u, z)) :
    exec (.dmaTileWrite g k q) s = .next (if (s.vg g.val).allWritten z k.val
      then (u.setVg g.val { u.vg g.val with inc := some z }).raiseIp (z.eng k.val) 1
      else u.setVg g.val { u.vg g.val with inc := some z }) := by
  rw [exec_dmaTileWrite, execDmaTileWrite]
  dsimp only
  rw [if_neg (by omega), if_neg (by simp [howed]), hinc]
  dsimp only
  rw [hwrite]

theorem dmaTileWrite_comp {i n p : Nat} {w : Codeword} (howed : (s.vg g.val).owed k.val q.val = true)
    (hcomp : (s.vg g.val).comp = some y) (hn : n = y.written k.val q.val)
    (hwrite : ∃ u z, s.dmaWrite g.val k.val q.val y = some (u, z) ∧ y.Advanced k.val q.val z ∧ TileCounted p s u ∧
      TileAt (y.eng k.val) i w s u) :
    Completes (.dmaTileWrite g k q) s fun t =>
      (∃ z, (t.vg g.val).comp = some z ∧ z.written k.val q.val = n + 1 ∧ z.tick = y.tick) ∧
      (t.eng (y.eng k.val)).spadWord i = w ∧
      (t.eng (y.eng k.val)).wrFree = false ∧ (∀ e < 96, e ≠ y.eng k.val → t.eng e = s.eng e) ∧
      (s.count (C.SVL_TILES_RX p) < 0xFFFFFFFE → t.count (C.SVL_TILES_RX p) = s.count (C.SVL_TILES_RX p) + 1) ∧
      RegsKeptIn [fun _ => R.MEM_INJ, R.SVL_SAT] s t ∧ OnlyChanges [.regs, .cnt, .arb, .vec, .svl] s t := by
  obtain ⟨u, z, hsome, hadv, hcounted, hat⟩ := hwrite
  obtain ⟨hcount, hregs, honly⟩ := hcounted.vec (u.setVg_touches g.val { u.vg g.val with comp := some z })
  exact ⟨_, exec_dmaTileWrite_comp hk hq howed hcomp hsome, ⟨z, by rw [State.vg_setVg, if_pos rfl], hn ▸ hadv.written,
    hadv.tick⟩, hat.word, hat.port, hat.others, hcount, hregs, honly⟩

theorem dmaTileWrite_inc {i n p : Nat} {w : Codeword} (howed : (s.vg g.val).owed k.val q.val = false)
    (hinc : (s.vg g.val).inc = some y) (hn : n = y.written k.val q.val)
    (hwrite : ∃ u z, s.dmaWrite g.val k.val q.val y = some (u, z) ∧ y.Advanced k.val q.val z ∧ TileCounted p s u ∧
      TileAt (y.eng k.val) i w s u) :
    Completes (.dmaTileWrite g k q) s fun t =>
      (∃ z, (t.vg g.val).inc = some z ∧ z.written k.val q.val = n + 1 ∧ z.tick = y.tick) ∧
      (t.eng (y.eng k.val)).spadWord i = w ∧
      (t.eng (y.eng k.val)).wrFree = false ∧ (∀ e < 96, e ≠ y.eng k.val → t.eng e = s.eng e) ∧
      (s.count (C.SVL_TILES_RX p) < 0xFFFFFFFE → t.count (C.SVL_TILES_RX p) = s.count (C.SVL_TILES_RX p) + 1) ∧
      RegsKeptIn [fun _ => R.MEM_INJ, R.SVL_SAT] s t ∧ OnlyChanges [.regs, .cnt, .arb, .vec, .svl] s t := by
  obtain ⟨u, z, hsome, hadv, hcounted, hat⟩ := hwrite
  refine ⟨_, exec_dmaTileWrite_inc hk hq howed hinc hsome, ?_⟩
  set v := u.setVg g.val { u.vg g.val with inc := some z } with hv
  have hvinc : ∃ z, (v.vg g.val).inc = some z ∧ z.written k.val q.val = n + 1 ∧ z.tick = y.tick :=
    ⟨z, by rw [hv, State.vg_setVg, if_pos rfl], hn ▸ hadv.written, hadv.tick⟩
  have hvcounted := hcounted.vec (u.setVg_touches g.val { u.vg g.val with inc := some z })
  have hvat : TileAt (y.eng k.val) i w s v := hat.of_eng (fun j => State.eng_setVg ..)
  split
  · have hip := hvat.raiseIp 1
    obtain ⟨hcount, hregs, honly⟩ := hvcounted.vec (v.raiseIp_touches (z.eng k.val) 1)
    rw [hadv.eng] at hcount hregs honly ⊢
    exact ⟨by simpa only [State.vg_raiseIp] using hvinc, hip.word, hip.port, hip.others, hcount, hregs, honly⟩
  · exact ⟨hvinc, hvat.word, hvat.port, hvat.others, hvcounted.counted, hvcounted.regs, hvcounted.only⟩

theorem dmaTileWrite_comp_discard {n p : Nat} (howed : (s.vg g.val).owed k.val q.val = true)
    (hcomp : (s.vg g.val).comp = some y) (hn : n = y.written k.val q.val)
    (hwrite : ∃ u z, s.dmaWrite g.val k.val q.val y = some (u, z) ∧ y.Advanced k.val q.val z ∧ TileCounted p s u ∧
      ∀ j, u.eng j = s.eng j) :
    Completes (.dmaTileWrite g k q) s fun t =>
      (∃ z, (t.vg g.val).comp = some z ∧ z.written k.val q.val = n + 1 ∧ z.tick = y.tick) ∧
      (∀ e < 96, (t.eng e).spad = (s.eng e).spad) ∧
      (s.count (C.SVL_TILES_RX p) < 0xFFFFFFFE → t.count (C.SVL_TILES_RX p) = s.count (C.SVL_TILES_RX p) + 1) ∧
      RegsKeptIn [fun _ => R.MEM_INJ, R.SVL_SAT] s t ∧ OnlyChanges [.regs, .cnt, .arb, .vec, .svl] s t := by
  obtain ⟨u, z, hsome, hadv, hcounted, heng⟩ := hwrite
  obtain ⟨hcount, hregs, honly⟩ := hcounted.vec (u.setVg_touches g.val { u.vg g.val with comp := some z })
  exact ⟨_, exec_dmaTileWrite_comp hk hq howed hcomp hsome, ⟨z, by rw [State.vg_setVg, if_pos rfl], hn ▸ hadv.written,
    hadv.tick⟩, fun e _ => by rw [State.eng_setVg, heng], hcount, hregs, honly⟩

theorem dmaTileWrite_inc_discard {n p : Nat} (howed : (s.vg g.val).owed k.val q.val = false)
    (hinc : (s.vg g.val).inc = some y) (hn : n = y.written k.val q.val)
    (hwrite : ∃ u z, s.dmaWrite g.val k.val q.val y = some (u, z) ∧ y.Advanced k.val q.val z ∧ TileCounted p s u ∧
      ∀ j, u.eng j = s.eng j) :
    Completes (.dmaTileWrite g k q) s fun t =>
      (∃ z, (t.vg g.val).inc = some z ∧ z.written k.val q.val = n + 1 ∧ z.tick = y.tick) ∧
      (∀ e < 96, (t.eng e).spad = (s.eng e).spad) ∧
      (s.count (C.SVL_TILES_RX p) < 0xFFFFFFFE → t.count (C.SVL_TILES_RX p) = s.count (C.SVL_TILES_RX p) + 1) ∧
      RegsKeptIn [fun _ => R.MEM_INJ, R.SVL_SAT] s t ∧ OnlyChanges [.regs, .cnt, .arb, .vec, .svl] s t := by
  obtain ⟨u, z, hsome, hadv, hcounted, heng⟩ := hwrite
  refine ⟨_, exec_dmaTileWrite_inc hk hq howed hinc hsome, ?_⟩
  set v := u.setVg g.val { u.vg g.val with inc := some z } with hv
  have hvinc : ∃ z, (v.vg g.val).inc = some z ∧ z.written k.val q.val = n + 1 ∧ z.tick = y.tick :=
    ⟨z, by rw [hv, State.vg_setVg, if_pos rfl], hn ▸ hadv.written, hadv.tick⟩
  have hvcounted := hcounted.vec (u.setVg_touches g.val { u.vg g.val with inc := some z })
  have hveng : ∀ j, v.eng j = s.eng j := fun j => by rw [hv, State.eng_setVg, heng]
  split
  · obtain ⟨hcount, hregs, honly⟩ := hvcounted.vec (v.raiseIp_touches (z.eng k.val) 1)
    refine ⟨by simpa only [State.vg_raiseIp] using hvinc, fun e _ => ?_, hcount, hregs, honly⟩
    rw [State.raiseIp, State.eng_setEng]
    split
    · next he => rw [he, hveng]
    · rw [hveng]
  · exact ⟨hvinc, fun e _ => by rw [hveng], hvcounted.counted, hvcounted.regs, hvcounted.only⟩

end Write

theorem dmaTileWrite_waits (g : Fin 4) (k : Fin 96) (q : Fin 16) (s : State)
    (h : (s.vg g.val).tgs.length ≤ k.val ∨ (s.vg g.val).ports.length ≤ q.val ∨
      (((if (s.vg g.val).owed k.val q.val
      then (s.vg g.val).comp else (s.vg g.val).inc).bind (fun y => s.dmaWrite g.val k.val q.val y)).isNone = true)) :
    exec (.dmaTileWrite g k q) s = .next s := by
  rw [exec_dmaTileWrite, execDmaTileWrite]
  dsimp only
  by_cases hrange : (s.vg g.val).tgs.length ≤ k.val ∨ (s.vg g.val).ports.length ≤ q.val
  · exact if_pos hrange
  · have hnone := (h.resolve_left (fun hk => hrange (.inl hk))).resolve_left (fun hq => hrange (.inr hq))
    rw [if_neg hrange]
    by_cases howed : (s.vg g.val).owed k.val q.val = true
    · rw [if_pos howed] at hnone ⊢
      cases hcomp : (s.vg g.val).comp with
      | none => rfl
      | some y =>
        rw [hcomp, Option.bind_some, Option.isNone_iff_eq_none] at hnone
        dsimp only
        rw [hnone]
    · rw [if_neg howed] at hnone ⊢
      cases hinc : (s.vg g.val).inc with
      | none => rfl
      | some y =>
        rw [hinc, Option.bind_some, Option.isNone_iff_eq_none] at hnone
        dsimp only
        rw [hnone]

theorem dmaTileRead_reads (g : Fin 4) (k : Fin 96) (q : Fin 16) (s : State) (y : Sym) (l n : Nat)
    (hk : k.val < (s.vg g.val).tgs.length) (hq : q.val < (s.vg g.val).ports.length) (houtg : (s.vg g.val).outg = some y)
    (hn : n = y.readOut k.val q.val) (hlt : n < (s.vg g.val).tiles q.val k.val)
    (hport : (s.eng (y.eng k.val)).portFree true = true)
    (hl : l = s.fld (F.VE_BUF_BASE (y.eng k.val) (if y.byp.contains k.val || y.late.contains q.val
      then y.par else 2 + y.par)) + (s.vg g.val).tileOffset q.val k.val + n)
    (hmid : (s.eng (y.eng k.val)).midWrite l = false) :
    Completes (.dmaTileRead g k q) s fun t =>
      (∃ z, (t.vg g.val).outg = some z ∧ z.readOut k.val q.val = n + 1 ∧
        sparseGet (fun _ => 0) z.tiles (2 ^ 20 * q.val + (s.vg g.val).tgStart q.val k.val + n) =
        (if n < y.written k.val q.val then (s.eng (y.eng k.val)).spadWord (l % 4096) else 0)) ∧
      t.eng (y.eng k.val) = { s.eng (y.eng k.val) with rdFree := false } ∧
      (∀ e < 96, e ≠ y.eng k.val → t.eng e = s.eng e) ∧ OnlyChanges [.vec] s t := by
  set c := if n < y.written k.val q.val then (s.eng (y.eng k.val)).spadWord (l % 4096) else 0 with hc
  set z : Sym := { y with
    rd := sparseSet (fun _ => 0) y.rd (dmaKey k.val q.val) (n + 1)
    tiles := sparseSet (fun _ => 0) y.tiles (2 ^ 20 * q.val + (s.vg g.val).tgStart q.val k.val + n) c } with hz
  set u := s.setEng (y.eng k.val) { s.eng (y.eng k.val) with rdFree := false } with hu
  have hread : s.dmaRead g.val k.val q.val y = some (u, z) := by
    have hno : ¬ ((s.vg g.val).tiles q.val k.val ≤ n ∨ (s.eng (y.eng k.val)).portFree true = false ∨
        (s.eng (y.eng k.val)).midWrite l = true) := by
      simp [Nat.not_le.mpr hlt, hport, hmid]
    subst hl hn
    exact if_neg hno
  refine ⟨u.setVg g.val { u.vg g.val with outg := some z }, ?_, ⟨z, ?_, ?_, ?_⟩, ?_, fun e _ he => ?_,
    ((s.setEng_touches _ _).trans (u.setVg_touches ..)).onlyChanges (fun _ hx => hx)⟩
  · rw [exec_dmaTileRead, execDmaTileRead]
    dsimp only
    rw [if_neg (by omega), houtg]
    dsimp only
    rw [hread]
  · rw [State.vg_setVg, if_pos rfl]
  · rw [Sym.readOut, hz, sparseGet_sparseSet, if_pos rfl]
  · rw [hz, sparseGet_sparseSet, if_pos rfl]
  · rw [State.eng_setVg, hu, State.eng_setEng, if_pos rfl]
  · rw [State.eng_setVg, hu, State.eng_setEng, if_neg he]

theorem dmaTileRead_waits (g : Fin 4) (k : Fin 96) (q : Fin 16) (s : State)
    (h : (s.vg g.val).tgs.length ≤ k.val ∨ (s.vg g.val).ports.length ≤ q.val ∨
      (((s.vg g.val).outg.bind (fun y => s.dmaRead g.val k.val q.val y)).isNone = true)) :
    exec (.dmaTileRead g k q) s = .next s := by
  rw [exec_dmaTileRead, execDmaTileRead]
  dsimp only
  by_cases hrange : (s.vg g.val).tgs.length ≤ k.val ∨ (s.vg g.val).ports.length ≤ q.val
  · exact if_pos hrange
  · have hnone := (h.resolve_left (fun hk => hrange (.inl hk))).resolve_left (fun hq => hrange (.inr hq))
    rw [if_neg hrange]
    cases houtg : (s.vg g.val).outg with
    | none => rfl
    | some y =>
      rw [houtg, Option.bind_some, Option.isNone_iff_eq_none] at hnone
      dsimp only
      rw [hnone]

end Rows

/-- Settles O35. -/
theorem parametersFencesAndTilesReachTheEngines : Obligations.ParametersFencesAndTilesReachTheEngines := by
  unfold Obligations.ParametersFencesAndTilesReachTheEngines
  refine ⟨fun s p => vgParam_begins, fun s p => vgParam_badParam, vgParamDone_ends, vgParamDone_injects,
    fun x addr n bs hbs hfit hgood => ?_, fun s => vgParamDone_waits,
    fun s p g k m h hlen hmod htgt hserves hcommit hstage => vgFenceWords_stages h hlen hmod htgt hserves hcommit hstage,
    fun s p g k m h hlen hmod htgt hserves hcommit hstage => vgFenceWords_stages h hlen hmod htgt hserves hcommit hstage,
    fun s p g k => vgFenceWords_busy, fun s p => vgFenceWords_badTarget,
    fun s p g k => vgFenceAbort_done, fun s p g k => vgFenceAbort_busy, fun s p => vgFenceAbort_badTarget,
    fun s p g ks => vgFenceCommit_accepted,
    fun s p g ks h hlo hhi hg hg4 _ => vgFenceCommit_badTarget h hlo hhi hg hg4,
    fun s p g ks => vgFenceCommit_badParam, fun s p g ks => vgFenceCommit_busy,
    fun e s i d rest => fenceDrainWord_drains, fun e s i d rest c hoverlay hready hfree hinj => fenceDrainWord_injects hoverlay hready hfree hinj,
    fenceDrainWord_waits,
    fun g k q s y l n hk hq howed hinc hl hn hall hlt horder hhand hport hmid hinj =>
      dmaTileWrite_inc hk hq howed hinc hn
        (State.dmaWrite_sample hl hn ((s.vg g.val).held_eq_false hn hall) hlt horder hhand hport hmid hinj),
    fun g k q s y l n hk hq howed hcomp hl hn hall hlt horder hhand hport hmid hinj =>
      dmaTileWrite_comp hk hq howed hcomp hn
        (State.dmaWrite_sample hl hn ((s.vg g.val).held_eq_false hn hall) hlt horder hhand hport hmid hinj),
    fun g k q s y l n hk hq howed hinc hl hn hall hle hlt horder hhand hupd hport hmid hinj =>
      dmaTileWrite_inc hk hq howed hinc hn
        (State.dmaWrite_feedback hl hn ((s.vg g.val).held_eq_false hn hall) hle hlt horder hhand hupd hport hmid hinj),
    fun g k q s y l n hk hq howed hcomp hl hn hall hle hlt horder hhand hupd hport hmid hinj =>
      dmaTileWrite_comp hk hq howed hcomp hn
        (State.dmaWrite_feedback hl hn ((s.vg g.val).held_eq_false hn hall) hle hlt horder hhand hupd hport hmid hinj),
    fun g k q s y l n hk hq howed hinc hl hn hall hle hlt horder hhand hupd =>
      dmaTileWrite_inc_discard hk hq howed hinc hn
        (State.dmaWrite_discard hl hn ((s.vg g.val).held_eq_false hn hall) hle hlt horder hhand hupd),
    fun g k q s y l n hk hq howed hcomp hl hn hall hle hlt horder hhand hupd =>
      dmaTileWrite_comp_discard hk hq howed hcomp hn
        (State.dmaWrite_discard hl hn ((s.vg g.val).held_eq_false hn hall) hle hlt horder hhand hupd),
    dmaTileWrite_waits, dmaTileRead_reads, dmaTileRead_waits⟩
  rw [x.putBytes_one addr n bs hbs hfit (hgood.imp_right decodeWord_ne_bad)]
  exact ⟨by rw [Eng.spadWord_setSpad, if_pos rfl], fun k hk => by rw [Eng.spadWord_setSpad, if_neg hk]⟩

end Sys2Proof.Machine
end

section
/-! SUPPORT. The Ashlar encoder against the decoder (R503 to R505): what is encoded decodes clean and gives its data back. -/

namespace Sys2Proof.Machine

/-! Linear functions on the symbols. -/

/-- A function on 16-bit symbols that keeps their sums. -/
structure SymLinear (f : Nat → Nat) : Prop where
  lt : ∀ {a}, a < 65536 → f a < 65536
  add : ∀ {a b}, a < 65536 → b < 65536 → f (a ^^^ b) = f a ^^^ f b

theorem two_pow_xor_of_lt {n r : Nat} (h : r < 2 ^ n) : 2 ^ n ^^^ r = 2 ^ n + r := by
  refine Nat.eq_of_testBit_eq fun j => ?_
  have hadd := Nat.testBit_two_pow_mul_add 1 h j
  rw [Nat.mul_one] at hadd
  rw [hadd, Nat.testBit_xor, Nat.testBit_two_pow]
  by_cases hj : j < n
  · simp [hj, show n ≠ j by omega]
  · have hr : r.testBit j = false :=
      Nat.testBit_lt_two_pow (Nat.lt_of_lt_of_le h (Nat.pow_le_pow_right (by omega) (by omega)))
    rw [hr, if_neg hj, Bool.xor_false, ← Nat.pow_zero 2, Nat.testBit_two_pow, decide_eq_decide]
    omega

theorem sym_xor_lt {a b : Nat} (ha : a < 65536) (hb : b < 65536) : a ^^^ b < 65536 :=
  Nat.xor_lt_two_pow (n := 16) ha hb

namespace SymLinear
variable {f g : Nat → Nat}

theorem id : SymLinear fun a => a := ⟨fun h => h, fun _ _ => rfl⟩

theorem zero : SymLinear fun _ => 0 := ⟨fun _ => by omega, fun _ _ => by simp⟩

theorem comp (hf : SymLinear f) (hg : SymLinear g) : SymLinear fun a => f (g a) :=
  ⟨fun h => hf.lt (hg.lt h), fun ha hb => by rw [hg.add ha hb, hf.add (hg.lt ha) (hg.lt hb)]⟩

theorem xor (hf : SymLinear f) (hg : SymLinear g) : SymLinear fun a => f a ^^^ g a :=
  ⟨fun h => sym_xor_lt (hf.lt h) (hg.lt h), fun ha hb => by rw [hf.add ha hb, hg.add ha hb]; ac_rfl⟩

theorem ite (p : Prop) [Decidable p] (hf : SymLinear f) (hg : SymLinear g) :
    SymLinear fun a => if p then f a else g a := by
  by_cases h : p <;> simp only [h, if_true, if_false] <;> assumption

theorem map_zero (hf : SymLinear f) : f 0 = 0 := by
  have h := hf.add (a := 0) (b := 0) (by omega) (by omega)
  rwa [Nat.xor_self, Nat.xor_self] at h

/-- A linear function that keeps the sixteen bits keeps every symbol. -/
theorem eq_self_of_bits (hf : SymLinear f) (hbit : ∀ i < 16, f (2 ^ i) = 2 ^ i) :
    ∀ n ≤ 16, ∀ a < 2 ^ n, f a = a := by
  intro n
  induction n with
  | zero => intro _ a ha; rw [show a = 0 by simpa using ha, hf.map_zero]
  | succ n ih =>
    intro hn a ha
    have hpow : (2 : Nat) ^ n < 2 ^ 16 := Nat.pow_lt_pow_right (by omega) (by omega)
    by_cases hlow : a < 2 ^ n
    · exact ih (by omega) a hlow
    · have hrest : a - 2 ^ n < 2 ^ n := by rw [Nat.pow_succ] at ha; omega
      have hsplit : a = 2 ^ n ^^^ (a - 2 ^ n) := by
        rw [two_pow_xor_of_lt hrest]; omega
      rw [hsplit, hf.add (by omega) (by omega), hbit n (by omega), ih (by omega) _ hrest]

end SymLinear

theorem gfX_eq {a : Nat} (h : a < 65536) : gfX a = (a <<< 1) % 2 ^ 16 ^^^ (if a.testBit 15 then 0x100B else 0) := by
  by_cases hb : a.testBit 15 = true
  · simp [gfX, hb, Nat.shiftLeft_eq]
  · have : a < 2 ^ 15 := by
      rw [Nat.testBit_eq_decide_div_mod_eq] at hb; simp at hb; omega
    simp [gfX, hb, Nat.shiftLeft_eq]
    omega

theorem symLinear_gfX : SymLinear gfX := by
  refine ⟨fun {a} h => ?_, fun {a b} ha hb => ?_⟩
  · rw [gfX_eq h]
    exact sym_xor_lt (Nat.mod_lt _ (by omega)) (by split <;> omega)
  · rw [gfX_eq (sym_xor_lt ha hb), gfX_eq ha, gfX_eq hb, Nat.shiftLeft_xor_distrib, Nat.xor_mod_two_pow,
      Nat.testBit_xor]
    have hcarry : (if (a.testBit 15 ^^ b.testBit 15) = true then 0x100B else 0) =
        (if a.testBit 15 = true then 0x100B else 0) ^^^ (if b.testBit 15 = true then 0x100B else 0) := by
      cases a.testBit 15 <;> cases b.testBit 15 <;> rfl
    rw [hcarry]
    ac_rfl

theorem symLinear_gfXn : ∀ n, SymLinear (gfXn n)
  | 0 => .id
  | n + 1 => by
    have h := SymLinear.comp symLinear_gfX (symLinear_gfXn n)
    exact ⟨h.lt, h.add⟩

theorem symLinear_gfMulF : ∀ (n b : Nat), SymLinear fun a => gfMulF a b n
  | 0, _ => .zero
  | n + 1, b => .xor (.comp symLinear_gfX (symLinear_gfMulF n (b / 2))) (.ite _ .id .zero)

/-- `checkInv` undoes `alpha^16 (1 + alpha)`: checked on the sixteen bits, and so for every symbol. -/
theorem gfXn_mul_checkInv {x : Nat} (h : x < 65536) :
    gfXn 16 (gfMul x checkInv ^^^ gfX (gfMul x checkInv)) = x := by
  have hmul : SymLinear fun x => gfMul x checkInv := symLinear_gfMulF 16 checkInv
  have hlin : SymLinear fun x => gfXn 16 (gfMul x checkInv ^^^ gfX (gfMul x checkInv)) :=
    .comp (symLinear_gfXn 16) (.xor hmul (.comp symLinear_gfX hmul))
  have hbits : ∀ i < 16, gfXn 16 (gfMul (2 ^ i) checkInv ^^^ gfX (gfMul (2 ^ i) checkInv)) = 2 ^ i := by
    decide +kernel
  exact hlin.eq_self_of_bits hbits 16 (by omega) x h

/-! The sums over a word's symbols. -/

theorem symbolOf_lt (w k : Nat) : symbolOf w k < 65536 := Nat.mod_lt _ (by omega)

theorem symbolOf_mod {w k n : Nat} (h : 16 * k + 16 ≤ n) : symbolOf (w % 2 ^ n) k = symbolOf w k := by
  refine Nat.eq_of_testBit_eq fun i => ?_
  unfold symbolOf
  rw [show 65536 = 2 ^ 16 from rfl, Nat.testBit_mod_two_pow, Nat.testBit_mod_two_pow, Nat.testBit_shiftRight,
    Nat.testBit_shiftRight, Nat.testBit_mod_two_pow]
  by_cases hi : i < 16
  · simp [hi, show 16 * k + i < n by omega]
  · simp [hi]

theorem sumSyms_lt (w : Nat) : ∀ n, sumSyms w n < 65536
  | 0 => by simp [sumSyms]
  | n + 1 => sym_xor_lt (sumSyms_lt w n) (symbolOf_lt w n)

theorem weighSyms_lt (w : Nat) : ∀ n k, weighSyms w k n < 65536
  | 0, _ => by simp [weighSyms]
  | n + 1, k => sym_xor_lt (symbolOf_lt w k) (symLinear_gfX.lt (weighSyms_lt w n (k + 1)))

theorem sumSyms_congr {w v : Nat} : ∀ n, (∀ k < n, symbolOf w k = symbolOf v k) → sumSyms w n = sumSyms v n
  | 0, _ => rfl
  | n + 1, h => by
    simp only [sumSyms, sumSyms_congr n fun k hk => h k (by omega), h n (by omega)]

theorem weighSyms_congr {w v : Nat} : ∀ n k, (∀ j < n, symbolOf w (k + j) = symbolOf v (k + j)) →
    weighSyms w k n = weighSyms v k n
  | 0, _, _ => rfl
  | n + 1, k, h => by
    have hrest : weighSyms w (k + 1) n = weighSyms v (k + 1) n := weighSyms_congr n (k + 1) fun j hj => by
      rw [show k + 1 + j = k + (j + 1) by omega]; exact h (j + 1) (by omega)
    simp only [weighSyms, hrest, show symbolOf w k = symbolOf v k from h 0 (by omega)]

/-- The weighted sum of n + m symbols is that of the first n and, moved by alpha^n, that of the rest. -/
theorem weighSyms_add (w m : Nat) : ∀ n k,
    weighSyms w k (n + m) = weighSyms w k n ^^^ gfXn n (weighSyms w (k + n) m)
  | 0, k => by simp [weighSyms, gfXn]
  | n + 1, k => by
    rw [show n + 1 + m = n + m + 1 by omega, weighSyms, weighSyms_add w m n (k + 1), weighSyms,
      symLinear_gfX.add (weighSyms_lt _ _ _) ((symLinear_gfXn n).lt (weighSyms_lt _ _ _)),
      show k + 1 + n = k + (n + 1) by omega, Nat.xor_assoc]
    rfl

/-! The encoder. -/

/-- The second check symbol of 256 data bits (R504). -/
def checkSym1 (d : Nat) : Nat := gfMul (weighSyms d 0 16 ^^^ gfXn 16 (sumSyms d 16)) checkInv

theorem checkSym1_lt (d : Nat) : checkSym1 d < 65536 :=
  (symLinear_gfMulF 16 checkInv).lt (sym_xor_lt (weighSyms_lt _ _ _) ((symLinear_gfXn 16).lt (sumSyms_lt _ _)))

theorem encodeWord_eq (d : Nat) : encodeWord d = BitVec.ofNat 288 (d % 2 ^ 256 +
    (sumSyms (d % 2 ^ 256) 16 ^^^ checkSym1 (d % 2 ^ 256)) * 2 ^ 256 + checkSym1 (d % 2 ^ 256) * 2 ^ 272) := rfl

/-- A word of 256 data bits and two check symbols. -/
theorem symbolOf_check {d p q : Nat} (hd : d < 2 ^ 256) (hp : p < 65536) (hq : q < 65536) :
    symbolOf (d + p * 2 ^ 256 + q * 2 ^ 272) 16 = p ∧ symbolOf (d + p * 2 ^ 256 + q * 2 ^ 272) 17 = q := by
  unfold symbolOf
  rw [Nat.shiftRight_eq_div_pow, Nat.shiftRight_eq_div_pow]
  constructor <;> omega

/-- With the check symbols of R504 both syndromes are 0. -/
theorem syndromes_encoded {d w : Nat} (hd : d < 2 ^ 256)
    (hw : w = d + (sumSyms d 16 ^^^ checkSym1 d) * 2 ^ 256 + checkSym1 d * 2 ^ 272) :
    sumSyms w 18 = 0 ∧ weighSyms w 0 18 = 0 := by
  have hp0 := sym_xor_lt (sumSyms_lt d 16) (checkSym1_lt d)
  obtain ⟨h16, h17⟩ := symbolOf_check hd hp0 (checkSym1_lt d)
  rw [← hw] at h16 h17
  have hdata : ∀ k < 16, symbolOf w k = symbolOf d k := fun k hk => by
    rw [← symbolOf_mod (w := w) (n := 256) (by omega), hw]
    congr 1
    omega
  have hsum : sumSyms w 16 = sumSyms d 16 := sumSyms_congr 16 hdata
  have hweigh : weighSyms w 0 16 = weighSyms d 0 16 := weighSyms_congr 16 0 fun j hj => by
    rw [Nat.zero_add]; exact hdata j hj
  constructor
  · show sumSyms w 16 ^^^ symbolOf w 16 ^^^ symbolOf w 17 = 0
    rw [hsum, h16, h17, ← Nat.xor_assoc, Nat.xor_self, Nat.zero_xor, Nat.xor_self]
  · have htail : weighSyms w 16 2 = (sumSyms d 16 ^^^ checkSym1 d) ^^^ gfX (checkSym1 d) := by
      simp only [weighSyms, h16, h17, symLinear_gfX.map_zero, Nat.xor_zero]
    have hx := sym_xor_lt (weighSyms_lt d 16 0) ((symLinear_gfXn 16).lt (sumSyms_lt d 16))
    have hcheck : gfXn 16 (checkSym1 d ^^^ gfX (checkSym1 d)) = weighSyms d 0 16 ^^^ gfXn 16 (sumSyms d 16) :=
      gfXn_mul_checkInv hx
    rw [show (18 : Nat) = 16 + 2 from rfl, weighSyms_add, hweigh, Nat.zero_add, htail, Nat.xor_assoc,
      (symLinear_gfXn 16).add (sumSyms_lt _ _) (sym_xor_lt (checkSym1_lt d) (symLinear_gfX.lt (checkSym1_lt d))),
      hcheck, Nat.xor_left_comm (gfXn 16 _), Nat.xor_self, Nat.xor_zero, Nat.xor_self]

theorem toNat_encodeWord (d : Nat) : (encodeWord d).toNat = d % 2 ^ 256 +
    (sumSyms (d % 2 ^ 256) 16 ^^^ checkSym1 (d % 2 ^ 256)) * 2 ^ 256 + checkSym1 (d % 2 ^ 256) * 2 ^ 272 := by
  have hd : d % 2 ^ 256 < 2 ^ 256 := Nat.mod_lt _ (by omega)
  have hp := sym_xor_lt (sumSyms_lt (d % 2 ^ 256) 16) (checkSym1_lt (d % 2 ^ 256))
  have hq := checkSym1_lt (d % 2 ^ 256)
  rw [encodeWord_eq, BitVec.toNat_ofNat]
  exact Nat.mod_eq_of_lt (by omega)

theorem decodeWord_encodeWord (d : Nat) : decodeWord (encodeWord d) = .clean := by
  obtain ⟨h0, h1⟩ := syndromes_encoded (Nat.mod_lt d (by omega)) (toNat_encodeWord d)
  rw [decodeWord_clean_iff]
  simp [cleanWord, syn0, syn1, h0, h1]

/-- The data of an encoded word. -/
theorem deliveredData_encodeWord (d : Nat) : deliveredData (encodeWord d) = d % 2 ^ 256 := by
  rw [deliveredData, decodeWord_encodeWord, toNat_encodeWord]
  have hd : d % 2 ^ 256 < 2 ^ 256 := Nat.mod_lt _ (by omega)
  dsimp only
  omega

end Sys2Proof.Machine
end

section
/-! SUPPORT. The aperture: the clauses of O27 on it (R210, R211, R525, R603). -/

namespace Sys2Proof.Machine

variable {s t : State} {x : Eng} {f : Fin 6} {e : Fin 96} {off : BitVec 16} {v : Word} {imem : Bool} {i j k : Nat}
  {c d : Codeword}

/-! The 32-bit words of a codeword. -/

theorem codeWord32_eq_bitsOf (c : Codeword) (j : Nat) : codeWord32 c j = bitsOf (deliveredData c) (32 * j + 31) (32 * j) := by
  rw [codeWord32, bitsOf, show 32 * j + 31 + 1 - 32 * j = 32 by omega]

theorem codePut32_of_bad (h : decodeWord c = .bad) (j v : Nat) : codePut32 c j v = c := by
  rw [codePut32, h]

theorem codePut32_of_ne_bad (h : decodeWord c ≠ .bad) (j v : Nat) :
    codePut32 c j v = encodeWord (putBits (deliveredData c) (32 * j + 31) (32 * j) v) := by
  unfold codePut32
  split
  · next hbad => exact absurd hbad h
  · rfl

theorem deliveredData_lt (c : Codeword) : deliveredData c < 2 ^ 256 := by
  unfold deliveredData
  split <;> exact Nat.mod_lt _ (by omega)

theorem deliveredData_codePut32 (h : decodeWord c ≠ .bad) (hj : j < 8) (v : Nat) :
    deliveredData (codePut32 c j v) = putBits (deliveredData c) (32 * j + 31) (32 * j) v := by
  rw [codePut32_of_ne_bad h, deliveredData_encodeWord]
  exact Nat.mod_eq_of_lt (putBits_lt (by omega) (by omega) (deliveredData_lt c))

/-- The word put reads back. -/
theorem codeWord32_codePut32_same (h : decodeWord c ≠ .bad) (hj : j < 8) (v : Word) :
    codeWord32 (codePut32 c j v.toNat) j = v.toNat := by
  rw [codeWord32_eq_bitsOf, deliveredData_codePut32 h hj, bitsOf_putBits_same (by omega),
    show 32 * j + 31 + 1 - 32 * j = 32 by omega, Nat.mod_eq_of_lt v.isLt]

/-- The other words of the codeword read as before. -/
theorem codeWord32_codePut32_of_ne (h : decodeWord c ≠ .bad) (hj : j < 8) (v : Nat) (hk : k ≠ j) :
    codeWord32 (codePut32 c j v) k = codeWord32 c k := by
  rw [codeWord32_eq_bitsOf, codeWord32_eq_bitsOf, deliveredData_codePut32 h hj,
    bitsOf_putBits_of_disjoint (by omega) (by omega)]

/-! The two memories behind the aperture: the instruction memory and the scratchpad. -/

/-- Codeword i of the instruction memory or of the scratchpad. -/
def Eng.hostWord (x : Eng) : Bool → Nat → Codeword
  | true, i => sparseGet (fun _ => 0) x.imem i
  | false, i => x.spadWord i

def Eng.setHostWord (x : Eng) : Bool → Nat → Codeword → Eng
  | true, i, c => { x with imem := sparseSet (fun _ => 0) x.imem i c }
  | false, i, c => x.setSpad i c

/-- The number of the memory (R525). -/
def hostMem : Bool → Nat
  | true => 6
  | false => 5

theorem Eng.hostWord_setHostWord (x : Eng) (imem : Bool) (i : Nat) (c : Codeword) (k : Nat) :
    (x.setHostWord imem i c).hostWord imem k = if k = i then c else x.hostWord imem k := by
  cases imem with
  | true => exact sparseGet_sparseSet ..
  | false => exact sparseGet_sparseSet ..

theorem State.injectEng_host (h : s.injection (hostMem imem) = some d) (e i : Nat) :
    s.injectEng (hostMem imem) e i =
      (s.setFld F.MEM_INJ_GO 0).setEng e ((s.eng e).setHostWord imem i ((s.eng e).hostWord imem i ^^^ d)) := by
  cases imem with
  | false => exact State.injectEng_spad h e i
  | true =>
    rw [hostMem] at h ⊢
    unfold State.injectEng
    rw [h]
    dsimp only
    rw [State.eng_setFld]
    rfl

/-- A codeword is written while an injection is armed. -/
theorem State.injectEng_setEng {y : Eng} (h : s.injection (hostMem imem) = some d) (e i : Nat) :
    ∃ t, (s.setEng e y).injectEng (hostMem imem) e i = t ∧ t.eng e = y.setHostWord imem i (y.hostWord imem i ^^^ d) ∧
      (∀ k, k ≠ e → t.eng k = s.eng k) ∧ Touches ⟨[.vec, .regs], [(fun _ => R.MEM_INJ, 0)], []⟩ s t := by
  refine ⟨_, State.injectEng_host ((s.injection_setEng e y _).trans h) e i, ?_, fun k hk => ?_, ?_⟩
  · rw [State.eng_setEng, if_pos rfl, State.eng_setEng, if_pos rfl]
  · rw [State.eng_setEng, if_neg hk, State.eng_setFld, State.eng_setEng, if_neg hk]
  · exact (((Touches.refl _ s).part (s.setEng_touches e y)).next
      (State.setFld_touches _ F.MEM_INJ_GO 0 (fun _ => R.MEM_INJ, 0) rfl) ⟨by simp, by simp, by simp⟩).part
      (State.setEng_touches ..)

/-- Codeword i of a memory stands at an offset of engine e's window (R211). -/
def State.Shows (s : State) (e off : Nat) : Bool → Nat → Prop
  | true, i => 0x4000 ≤ off ∧ off < 0x8000 ∧ i = (off - 0x4000) / 32
  | false, i => 0x8000 ≤ off ∧ i = (s.fld (F.VE_SPAD_PAGE_PAGE e) * 0x8000 + (off / 4 * 4 - 0x8000)) / 32

theorem State.Shows.ge (h : s.Shows e off.toNat imem i) : 0x4000 ≤ off.toNat := by
  cases imem with
  | true => exact h.1
  | false => exact Nat.le_trans (by omega) h.1

/-- A word that the host meets is logged when it does not decode (R525). -/
def State.logBad (s : State) (c : Codeword) (m word : Nat) : State :=
  match decodeWord c with
  | .bad => s.logUe m word 1
  | _ => s

theorem State.logBad_of_ne_bad (h : decodeWord c ≠ .bad) (s : State) (m word : Nat) : s.logBad c m word = s := by
  unfold State.logBad
  split
  · next hbad => exact absurd hbad h
  · rfl

theorem State.logBad_touches (s : State) (c : Codeword) (m word : Nat) : Touches logReach s (s.logBad c m word) := by
  unfold State.logBad
  split
  · exact s.logUe_touches_log m word 1
  · exact .refl _ s

/-- Where the host may use the aperture, a read gives the 32-bit word, and a write replaces it. -/
theorem exec_aperture_open (hf : f.val = 0 ∨ f.val = 2) (hat : s.Shows e off.toNat imem i)
    (hopen : (s.eng e.val).apertureOpen = true) : ∃ word,
    exec (.apertureAccess f e off none) s = .next ((s.logBad ((s.eng e.val).hostWord imem i) (hostMem imem) word).answer f.val
      (codeWord32 ((s.eng e.val).hostWord imem i) (off.toNat % 32 / 4))) ∧
    (f = 2 → exec (.apertureAccess f e off (some v)) s =
      .next (((s.logBad ((s.eng e.val).hostWord imem i) (hostMem imem) word).setEng e.val ((s.eng e.val).setHostWord imem i
        (codePut32 ((s.eng e.val).hostWord imem i) (off.toNat % 32 / 4) v.toNat))).injectEng (hostMem imem) e.val i)) := by
  have hge : ¬ off.toNat / 4 * 4 < 0x4000 := by have := hat.ge; omega
  have hfun : ¬ (f.val ≠ 0 ∧ f.val ≠ 2) := by omega
  have hpf0 : f = 2 → ¬ (f.val = 0 ∧ (some v).isSome = true) := fun h => by subst h; simp
  cases imem with
  | true =>
    obtain ⟨hlo, hhi, hi⟩ := hat
    have hword : (off.toNat / 4 * 4 - 0x4000) / 32 = i := by omega
    have hpart : (off.toNat / 4 * 4 - 0x4000) % 32 / 4 = off.toNat % 32 / 4 := by omega
    have himem : decide (off.toNat / 4 * 4 < 0x8000) = true := decide_eq_true (by omega)
    refine ⟨512 * e.val + i, ?_, fun h2 => ?_⟩
    · rw [exec_apertureAccess, execApertureAccess]
      dsimp only
      rw [if_neg hge, if_neg hfun, if_neg (by simp), if_pos hopen, himem]
      simp only [if_true, hword, hpart]
      rfl
    · rw [exec_apertureAccess, execApertureAccess]
      dsimp only
      rw [if_neg hge, if_neg hfun, if_neg (hpf0 h2), if_pos hopen, himem]
      simp only [if_true, hword, hpart]
      rfl
  | false =>
    obtain ⟨hlo, hi⟩ := hat
    have hword : (s.fld (F.VE_SPAD_PAGE_PAGE e.val) * 0x8000 + (off.toNat / 4 * 4 - 0x8000)) / 32 = i := hi.symm
    have hpart : (s.fld (F.VE_SPAD_PAGE_PAGE e.val) * 0x8000 + (off.toNat / 4 * 4 - 0x8000)) % 32 / 4 = off.toNat % 32 / 4 := by
      omega
    have himem : decide (off.toNat / 4 * 4 < 0x8000) = false := decide_eq_false (by omega)
    refine ⟨4096 * e.val + i, ?_, fun h2 => ?_⟩
    · rw [exec_apertureAccess, execApertureAccess]
      dsimp only
      rw [if_neg hge, if_neg hfun, if_neg (by simp), if_pos hopen, himem]
      simp only [Bool.false_eq_true, if_false, hword, hpart]
      rfl
    · rw [exec_apertureAccess, execApertureAccess]
      dsimp only
      rw [if_neg hge, if_neg hfun, if_neg (hpf0 h2), if_pos hopen, himem]
      simp only [Bool.false_eq_true, if_false, hword, hpart]
      rfl

/-- A logged word and one part more. -/
@[simp] def logReachAnd (x : Part) : Reach := ⟨x :: logReach.parts, logReach.regs, []⟩

theorem State.logBad_touches_and (s : State) (c : Codeword) (m word : Nat) (x : Part) :
    Touches (logReachAnd x) s (s.logBad c m word) :=
  (s.logBad_touches c m word).mono ⟨fun _ h => .tail _ h, fun _ h => h, fun _ h => h⟩

/-! Reads. -/

/-- The registers of the aperture's frame: those of a logged word are among them. -/
theorem logReach_regs_aperture : ∀ r ∈ logReach.regs,
    r.1 ∈ [R.HOST_ACC_ERR, fun _ => R.MEM_INJ, R.MEM_UE_LOG_B, R.VE_STATUS] := fun r hr => by
  obtain ⟨i, -, rfl⟩ := List.mem_map.mp hr
  exact .tail _ (.tail _ (.head _))

theorem aperture_reads (hf : f.val = 0 ∨ f.val = 2) (hat : s.Shows e off.toNat imem i)
    (hopen : (s.eng e.val).apertureOpen = true) :
    Completes (.apertureAccess f e off none) s fun t =>
      (t.fn f.val).rdata = codeWord32 ((s.eng e.val).hostWord imem i) (off.toNat % 32 / 4) ∧
      (∀ k < 96, t.eng k = s.eng k) ∧
      RegsKeptIn [R.HOST_ACC_ERR, fun _ => R.MEM_INJ, R.MEM_UE_LOG_B, R.VE_STATUS] s t ∧
      OnlyChanges [.fns, .mem, .regs, .arb] s t := by
  obtain ⟨word, hread, -⟩ := exec_aperture_open (v := 0) hf hat hopen
  set c := (s.eng e.val).hostWord imem i
  have htouch : Touches (logReachAnd .fns) s
      ((s.logBad c (hostMem imem) word).answer f.val (codeWord32 c (off.toNat % 32 / 4))) :=
    (s.logBad_touches_and c _ word .fns).part (State.answer_touches ..)
  refine ⟨_, hread, ?_, fun k _ => htouch.eng k, htouch.regsKeptIn logReach_regs_aperture, htouch.onlyChanges (by simp)⟩
  rw [State.answer, State.fn_setFn, if_pos rfl]

/-! Writes by PF2. -/

/-- What a write leaves in the engine. -/
theorem Eng.hostWord_written (x : Eng) (imem : Bool) (i j v : Nat) (k : Nat) :
    (x.setHostWord imem i (codePut32 (x.hostWord imem i) j v)).hostWord imem k =
      if k = i then codePut32 (x.hostWord imem i) j v else x.hostWord imem k := x.hostWord_setHostWord ..

/-- No injection is armed for the memory. -/
theorem exec_aperture_writes (hat : s.Shows e off.toNat imem i) (hopen : (s.eng e.val).apertureOpen = true)
    (hinj : s.injection (hostMem imem) = none) : ∃ word,
    exec (.apertureAccess 2 e off (some v)) s =
      .next ((s.logBad ((s.eng e.val).hostWord imem i) (hostMem imem) word).setEng e.val ((s.eng e.val).setHostWord imem i
        (codePut32 ((s.eng e.val).hostWord imem i) (off.toNat % 32 / 4) v.toNat))) := by
  obtain ⟨word, -, hwrite⟩ := exec_aperture_open (f := 2) (v := v) (.inr rfl) hat hopen
  set c := (s.eng e.val).hostWord imem i
  have hlog := s.logBad_touches c (hostMem imem) word
  have hregs : ∀ o, (∀ j < 8, R.MEM_UE_LOG_B j ≠ o) → (s.logBad c (hostMem imem) word).rd o = s.rd o := fun o ho =>
    hlog.regs o fun r hr => by
      obtain ⟨j, hj, rfl⟩ := List.mem_map.mp hr
      exact ho j (List.mem_range.mp hj)
  have hnone : ((s.logBad c (hostMem imem) word).setEng e.val ((s.eng e.val).setHostWord imem i
      (codePut32 c (off.toNat % 32 / 4) v.toNat))).injection (hostMem imem) = none := by
    rw [State.injection_setEng, State.injection_of_regs (s := s) _
      (hregs _ fun j _ => by simp only [R.MEM_UE_LOG_B, R.MEM_INJ]; omega)
      (hregs _ fun j _ => by simp only [R.MEM_UE_LOG_B, R.MEM_INJ_PAT]; omega), hinj]
  exact ⟨word, (hwrite rfl).trans (congrArg _ (State.injectEng_of_none hnone _ _))⟩

theorem aperture_replaces (hat : s.Shows e off.toNat imem i) (hopen : (s.eng e.val).apertureOpen = true)
    (hgood : decodeWord ((s.eng e.val).hostWord imem i) ≠ .bad) (hinj : s.injection (hostMem imem) = none) :
    Completes (.apertureAccess 2 e off (some v)) s fun t =>
      codeWord32 ((t.eng e.val).hostWord imem i) (off.toNat % 32 / 4) = v.toNat ∧
      (∀ j < 8, j ≠ off.toNat % 32 / 4 →
        codeWord32 ((t.eng e.val).hostWord imem i) j = codeWord32 ((s.eng e.val).hostWord imem i) j) ∧
      (∀ k < 4096, k ≠ i → (t.eng e.val).hostWord imem k = (s.eng e.val).hostWord imem k) ∧
      (∀ k < 96, k ≠ e.val → t.eng k = s.eng k) ∧ OnlyChanges [.vec] s t := by
  obtain ⟨word, hwrite⟩ := exec_aperture_writes (v := v) hat hopen hinj
  rw [State.logBad_of_ne_bad hgood] at hwrite
  have hj : off.toNat % 32 / 4 < 8 := by omega
  obtain ⟨heng, hothers, honly⟩ := s.setEng_only e.val ((s.eng e.val).setHostWord imem i
    (codePut32 ((s.eng e.val).hostWord imem i) (off.toNat % 32 / 4) v.toNat))
  refine ⟨_, hwrite, ?_, fun j _ hne => ?_, fun k _ hne => ?_, hothers, honly⟩
  · rw [heng, Eng.hostWord_written, if_pos rfl, codeWord32_codePut32_same hgood hj]
  · rw [heng, Eng.hostWord_written, if_pos rfl, codeWord32_codePut32_of_ne hgood hj _ hne]
  · rw [heng, Eng.hostWord_written, if_neg hne]

theorem aperture_keeps_bad (hat : s.Shows e off.toNat imem i) (hopen : (s.eng e.val).apertureOpen = true)
    (hbad : decodeWord ((s.eng e.val).hostWord imem i) = .bad) (hinj : s.injection (hostMem imem) = none) :
    Completes (.apertureAccess 2 e off (some v)) s fun t =>
      (t.eng e.val).hostWord imem i = (s.eng e.val).hostWord imem i ∧ (∀ k < 96, k ≠ e.val → t.eng k = s.eng k) ∧
      RegsKeptIn [R.HOST_ACC_ERR, fun _ => R.MEM_INJ, R.MEM_UE_LOG_B, R.VE_STATUS] s t ∧
      OnlyChanges [.regs, .arb, .fns, .vec, .mem] s t := by
  obtain ⟨word, hwrite⟩ := exec_aperture_writes (v := v) hat hopen hinj
  set c := (s.eng e.val).hostWord imem i with hc
  have hlog := s.logBad_touches c (hostMem imem) word
  have htouch : Touches (logReachAnd .vec) s
      ((s.logBad c (hostMem imem) word).setEng e.val ((s.eng e.val).setHostWord imem i
        (codePut32 c (off.toNat % 32 / 4) v.toNat))) :=
    (s.logBad_touches_and c _ word .vec).part (State.setEng_touches ..)
  refine ⟨_, hwrite, ?_, fun k _ hne => ?_, htouch.regsKeptIn logReach_regs_aperture, htouch.onlyChanges (by simp)⟩
  · rw [State.eng_setEng, if_pos rfl, hc, Eng.hostWord_written, if_pos rfl, ← hc, codePut32_of_bad hbad]
  · rw [State.eng_setEng, if_neg hne, hlog.eng k]

theorem aperture_injects (hat : s.Shows e off.toNat imem i) (hopen : (s.eng e.val).apertureOpen = true)
    (hgood : decodeWord ((s.eng e.val).hostWord imem i) ≠ .bad) (hinj : s.injection (hostMem imem) = some d) :
    Completes (.apertureAccess 2 e off (some v)) s fun t =>
      (t.eng e.val).hostWord imem i =
        codePut32 ((s.eng e.val).hostWord imem i) (off.toNat % 32 / 4) v.toNat ^^^ d ∧
      (∀ k < 4096, k ≠ i → (t.eng e.val).hostWord imem k = (s.eng e.val).hostWord imem k) ∧
      (∀ k < 96, k ≠ e.val → t.eng k = s.eng k) ∧ RegsKept [R.MEM_INJ] s t ∧ OnlyChanges [.vec, .regs] s t := by
  obtain ⟨word, -, hwrite⟩ := exec_aperture_open (f := 2) (v := v) (.inr rfl) hat hopen
  rw [State.logBad_of_ne_bad hgood] at hwrite
  set y := (s.eng e.val).setHostWord imem i (codePut32 ((s.eng e.val).hostWord imem i) (off.toNat % 32 / 4) v.toNat) with hy
  obtain ⟨t, ht, heng, hothers, htouch⟩ := State.injectEng_setEng (s := s) (y := y) hinj e.val i
  refine ⟨t, (hwrite rfl).trans (congrArg _ ht), ?_, fun k _ hne => ?_, fun k _ hne => hothers k hne,
    htouch.regsKept (by simp), htouch.onlyChanges (by simp)⟩
  · rw [heng, Eng.hostWord_setHostWord, if_pos rfl, hy, Eng.hostWord_written, if_pos rfl]
  · rw [heng, Eng.hostWord_setHostWord, if_neg hne, hy, Eng.hostWord_written, if_neg hne]

/-! Refusals. -/

theorem testBit_toNat_setBit (w : Word) {k : Nat} (hk : k < 32) :
    (BitVec.ofNat 32 (setBit w.toNat k)).toNat.testBit k = true := by
  rw [BitVec.toNat_ofNat, Nat.testBit_mod_two_pow, testBit_setBit, Bool.and_true]
  exact decide_eq_true hk

theorem State.accErr_touches (s : State) (f off which : Nat) :
    Touches ⟨[.regs, .fns], [(R.HOST_ACC_ERR, f)], []⟩ s (s.accErr f off which) :=
  ((s.wr_touches (R.HOST_ACC_ERR, f) _).mono ⟨by simp, by simp, by simp⟩).part (State.setFn_touches ..)

/-- What a refused access leaves (R603). -/
theorem State.accErr_spec (s : State) (f off : Nat) {which : Nat} (hw : which < 32) :
    ((s.accErr f off which).rd (R.HOST_ACC_ERR f)).toNat.testBit which = true ∧
      ((s.accErr f off which).fn f).accErrOffset = off / 4 % 2 ^ 24 ∧
      RegsKept [R.HOST_ACC_ERR f] s (s.accErr f off which) ∧ OnlyChanges [.fns, .regs] s (s.accErr f off which) := by
  have htouch := s.accErr_touches f off which
  refine ⟨?_, ?_, htouch.regsKept (by simp), htouch.onlyChanges (by simp)⟩
  · rw [State.accErr]
    dsimp only
    rw [(State.setFn_touches ..).regs _ (by simp), State.rd_wr, if_pos rfl]
    exact testBit_toNat_setBit _ hw
  · rw [State.accErr]
    dsimp only
    rw [State.fn_setFn, if_pos rfl]

theorem aperture_below (hlo : off.toNat < 0x4000) (wr : Option Word) : exec (.apertureAccess f e off wr) s = .next s := by
  rw [exec_apertureAccess]
  unfold execApertureAccess
  exact if_pos (by omega)

theorem aperture_read_refused (hlo : 0x4000 ≤ off.toNat) (h0 : f.val ≠ 0) (h2 : f.val ≠ 2) :
    exec (.apertureAccess f e off none) s = .next (s.answer f.val 0) := by
  rw [exec_apertureAccess, execApertureAccess]
  dsimp only
  rw [if_neg (by omega), if_pos ⟨h0, h2⟩]

theorem exec_aperture_write_refused (hlo : 0x4000 ≤ off.toNat) (h2 : f.val ≠ 2) :
    exec (.apertureAccess f e off (some v)) s =
      .next (s.accErr f.val (0x01000000 + 0x10000 * e.val + off.toNat / 4 * 4) (if f.val = 0 then 2 else 1)) := by
  rw [exec_apertureAccess, execApertureAccess]
  dsimp only
  by_cases h0 : f.val = 0
  · rw [if_neg (by omega), if_neg (by omega), if_pos ⟨h0, rfl⟩, if_pos h0, h0]
  · rw [if_neg (by omega), if_pos ⟨h0, h2⟩, if_neg h0]

theorem aperture_write_refused (hlo : 0x4000 ≤ off.toNat) (h2 : f.val ≠ 2) :
    Completes (.apertureAccess f e off (some v)) s fun t =>
      (∀ k < 96, t.eng k = s.eng k) ∧
      (t.rd (R.HOST_ACC_ERR f.val)).toNat.testBit (if f.val = 0 then 2 else 1) = true ∧
      (t.fn f.val).accErrOffset = (0x01000000 + 0x10000 * e.val + off.toNat) / 4 % 2 ^ 24 ∧
      RegsKept [R.HOST_ACC_ERR f.val] s t ∧ OnlyChanges [.fns, .regs] s t := by
  obtain ⟨hbit, hoff, hregs, honly⟩ := s.accErr_spec f.val (0x01000000 + 0x10000 * e.val + off.toNat / 4 * 4)
    (which := if f.val = 0 then 2 else 1) (by split <;> omega)
  refine ⟨_, exec_aperture_write_refused hlo h2, fun k _ => (s.accErr_touches ..).eng k, hbit, ?_, hregs, honly⟩
  rw [hoff]
  omega

/-- At an engine that is neither STOPPED, HALTED, SPARE nor RETIRED (R211). -/
theorem exec_aperture_closed (hlo : 0x4000 ≤ off.toNat) (hclosed : (s.eng e.val).apertureOpen = false) :
    (f.val = 0 ∨ f.val = 2 → exec (.apertureAccess f e off none) s =
      .next ((s.setFld (F.VE_STATUS_APERTURE_REFUSED e.val) 1).answer f.val 0)) ∧
    exec (.apertureAccess 2 e off (some v)) s = .next (s.setFld (F.VE_STATUS_APERTURE_REFUSED e.val) 1) := by
  have hge : ¬ off.toNat / 4 * 4 < 0x4000 := by omega
  constructor
  · intro hf
    rw [exec_apertureAccess, execApertureAccess]
    dsimp only
    rw [if_neg hge, if_neg (by omega), if_neg (by simp), if_neg (by simp [hclosed])]
  · rw [exec_apertureAccess, execApertureAccess]
    dsimp only
    rw [if_neg hge, if_neg (by simp), if_neg (by simp), if_neg (by simp [hclosed])]

theorem State.apertureRefused_touches (s : State) (e : Nat) :
    Touches ⟨[.regs], [(R.VE_STATUS, e)], []⟩ s (s.setFld (F.VE_STATUS_APERTURE_REFUSED e) 1) :=
  s.setFld_touches _ _ (R.VE_STATUS, e) rfl

theorem State.fld_apertureRefused (s : State) (e : Nat) :
    (s.setFld (F.VE_STATUS_APERTURE_REFUSED e) 1).fld (F.VE_STATUS_APERTURE_REFUSED e) = 1 := by
  rw [s.fld_setFld_same (F.VE_STATUS_APERTURE_REFUSED e) 1]
  simp

theorem aperture_closed_reads (hf : f.val = 0 ∨ f.val = 2) (hlo : 0x4000 ≤ off.toNat)
    (hclosed : (s.eng e.val).apertureOpen = false) :
    Completes (.apertureAccess f e off none) s fun t =>
      (t.fn f.val).rdata = 0 ∧ t.fld (F.VE_STATUS_APERTURE_REFUSED e.val) = 1 ∧ RegsKept [R.VE_STATUS e.val] s t ∧
      OnlyChanges [.fns, .regs] s t := by
  have htouch : Touches ⟨[.fns, .regs], [(R.VE_STATUS, e.val)], []⟩ s
      ((s.setFld (F.VE_STATUS_APERTURE_REFUSED e.val) 1).answer f.val 0) :=
    ((s.apertureRefused_touches e.val).mono ⟨by simp, by simp, by simp⟩).part (State.answer_touches ..)
  refine ⟨_, (exec_aperture_closed (v := 0) hlo hclosed).1 hf, ?_, ?_, htouch.regsKept (by simp),
    htouch.onlyChanges (by simp)⟩
  · rw [State.answer, State.fn_setFn, if_pos rfl]
  · rw [(State.answer_touches ..).fld _ (by simp), s.fld_apertureRefused]

theorem aperture_closed_writes (hlo : 0x4000 ≤ off.toNat) (hclosed : (s.eng e.val).apertureOpen = false) :
    Completes (.apertureAccess 2 e off (some v)) s fun t =>
      t.fld (F.VE_STATUS_APERTURE_REFUSED e.val) = 1 ∧ RegsKept [R.VE_STATUS e.val] s t ∧ OnlyChanges [.regs] s t := by
  have htouch := s.apertureRefused_touches e.val
  refine ⟨_, (exec_aperture_closed (f := 2) hlo hclosed).2, ?_, htouch.regsKept (by simp), htouch.onlyChanges (by simp)⟩
  exact s.fld_apertureRefused e.val

end Sys2Proof.Machine
end

section
/-! Kernel images, spares and retirement thresholds (R201, R214, R251, R561, R626), and O27. -/

namespace Sys2Proof.Machine

variable {s : State} {p : Pkt} {img : Sparse Nat} {d : Codeword} {g h n : Nat}

theorem veDoorbellRing_raises (s : State) (e : Fin 96) :
    Completes (.veDoorbellRing e) s fun t =>
      t.eng e.val = { s.eng e.val with ip := setBit (s.eng e.val).ip 3 } ∧
      (∀ k < 96, k ≠ e.val → t.eng k = s.eng k) ∧ OnlyChanges [.vec] s t :=
  ⟨s.raiseIp e.val 3, rfl, s.setEng_only e.val _⟩

/-! KERNEL_LOAD and KERNEL_FREE. -/

/-- One image of the store changes. -/
theorem State.setKernel_only_afterTake (s : State) (p : Pkt) (h : Nat) (x : Option (Sparse Nat)) {u : State}
    (hu : u = (s.afterTake p).setVec { (s.afterTake p).vec with
      kernels := sparseSet (fun _ => none) (s.afterTake p).vec.kernels h x }) :
    sparseGet (fun _ => none) u.vec.kernels h = x ∧
      (∀ j, j ≠ h → sparseGet (fun _ => none) u.vec.kernels j = sparseGet (fun _ => none) s.vec.kernels j) ∧
      OnlyChanges [.vec] (s.afterTake p) u := by
  have hkernels : u.vec.kernels = sparseSet (fun _ => none) s.vec.kernels h x := by
    rw [hu, State.afterTake_vec]
    rfl
  refine ⟨?_, fun j hj => ?_, ?_⟩
  · rw [hkernels, sparseGet_sparseSet, if_pos rfl]
  · rw [hkernels, sparseGet_sparseSet, if_neg hj]
  · rw [hu]
    exact (State.setVec_touches ..).onlyChanges (fun _ hx => hx)

theorem kernelLoad_length (hlen : p.length = 1 + 2 * n) (hpos : 0 < n) (hmax : n ≤ 508) :
    (if 3 ≤ p.length ∧ p.length ≤ 1017 ∧ p.length % 2 = 1 then none else some 3) = (none : Option Nat) :=
  if_pos (by omega)

section KernelLoad
variable (ht : Taken 0x2101 p s) (hh : h = p.target.toNat) (hlen : p.length = 1 + 2 * n) (hpos : 0 < n) (hmax : n ≤ 508)
include ht hlen hpos hmax

include hh in
theorem kernelLoad_loads (hcast : s.overcast = false) (hddr : s.ddrReady = true) (hfit : p.w 0 % 65536 + n ≤ 2048) :
    Ends (.kernelLoad p) 0x2101 p s ⟨stDone, 0, []⟩ fun u =>
      sparseGet (fun _ => none) u.vec.kernels h =
        some (putInsns ((sparseGet (fun _ => none) s.vec.kernels h).getD []) (p.w 0 % 65536) (p.bytes.drop 4) n) ∧
      (∀ j, j ≠ h → sparseGet (fun _ => none) u.vec.kernels j = sparseGet (fun _ => none) s.vec.kernels j) ∧
      OnlyChanges [.vec] (s.afterTake p) u := by
  subst hh
  refine ht.ends_of_checks (exec_kernelLoad p s) (kernelLoad_length hlen hpos hmax) rfl ?_
    (s.setKernel_only_afterTake p p.target.toNat _ rfl)
  dsimp only
  rw [State.overcast_afterTake, if_neg (by simp [hcast]), show (p.length - 1) / 2 = n by omega, if_neg (by omega),
    State.afterTake_ddrReady, if_neg (by simp [hddr]), State.afterTake_vec]
  rfl

theorem kernelLoad_busy (hcast : s.overcast = true) :
    Ends (.kernelLoad p) 0x2101 p s ⟨stBusy, 0, []⟩ fun u => OnlyChanges [] (s.afterTake p) u := by
  refine ht.ends_unchanged (exec_kernelLoad p s) (kernelLoad_length hlen hpos hmax) rfl ?_
  dsimp only
  rw [State.overcast_afterTake, if_pos hcast]
  rfl

theorem kernelLoad_badParam (hcast : s.overcast = false) (hbig : 2048 < p.w 0 % 65536 + n) :
    Ends (.kernelLoad p) 0x2101 p s ⟨stBadParam, 0, []⟩ fun u => OnlyChanges [] (s.afterTake p) u := by
  refine ht.ends_unchanged (exec_kernelLoad p s) (kernelLoad_length hlen hpos hmax) rfl ?_
  dsimp only
  rw [State.overcast_afterTake, if_neg (by simp [hcast]), if_pos (by omega)]
  rfl

theorem kernelLoad_timeout (hcast : s.overcast = false) (hfit : p.w 0 % 65536 + n ≤ 2048) (hddr : s.ddrReady = false) :
    Ends (.kernelLoad p) 0x2101 p s ⟨stTimeout, 0, []⟩ fun u => OnlyChanges [] (s.afterTake p) u := by
  refine ht.ends_unchanged (exec_kernelLoad p s) (kernelLoad_length hlen hpos hmax) rfl ?_
  dsimp only
  rw [State.overcast_afterTake, if_neg (by simp [hcast]), if_neg (by omega), State.afterTake_ddrReady,
    if_pos (by simp [hddr])]
  rfl

end KernelLoad

section KernelFree
variable (ht : Taken 0x2102 p s) (hlen : p.length = 0)
include ht hlen

theorem kernelFree_frees (himg : sparseGet (fun _ => none) s.vec.kernels p.target.toNat = some img)
    (hfree : ∀ k < 96, (s.eng k).kernel = some p.target.toNat → (s.eng k).st = .retired) :
    Ends (.kernelFree p) 0x2102 p s ⟨stDone, 0, []⟩ fun u =>
      sparseGet (fun _ => none) u.vec.kernels p.target.toNat = none ∧
      (∀ j, j ≠ p.target.toNat → sparseGet (fun _ => none) u.vec.kernels j =
        sparseGet (fun _ => none) s.vec.kernels j) ∧
      OnlyChanges [.vec] (s.afterTake p) u := by
  refine ht.ends_of_checks (exec_kernelFree p s) (if_pos hlen) rfl ?_ (s.setKernel_only_afterTake p p.target.toNat none rfl)
  dsimp only
  rw [State.afterTake_vec, himg]
  dsimp only
  rw [if_neg]
  · rfl
  · simpa using hfree

theorem kernelFree_busy {e : Fin 96} (himg : sparseGet (fun _ => none) s.vec.kernels p.target.toNat = some img)
    (hholds : (s.eng e.val).kernel = some p.target.toNat) (hst : (s.eng e.val).st ≠ .retired) :
    Ends (.kernelFree p) 0x2102 p s ⟨stBusy, 0, []⟩ fun u => OnlyChanges [] (s.afterTake p) u := by
  refine ht.ends_unchanged (exec_kernelFree p s) (if_pos hlen) rfl ?_
  dsimp only
  rw [State.afterTake_vec, himg]
  dsimp only
  rw [if_pos]
  · rfl
  · exact List.any_eq_true.mpr ⟨e.val, List.mem_range.mpr e.isLt, by simp [hholds, hst]⟩

theorem kernelFree_badTarget (hnone : sparseGet (fun _ => none) s.vec.kernels p.target.toNat = none) :
    Ends (.kernelFree p) 0x2102 p s ⟨stBadTarget, 0, []⟩ fun u => OnlyChanges [] (s.afterTake p) u := by
  refine ht.ends_unchanged (exec_kernelFree p s) (if_pos hlen) rfl ?_
  dsimp only
  rw [State.afterTake_vec, hnone]
  rfl

end KernelFree

section EngLoad
variable (ht : Taken 0x2103 p s) (hlen : p.length = 1) (htgt : p.target.toNat < 96)
include ht hlen htgt

theorem engLoad_busy (hno : s.overcast = true ∨ (s.eng p.target.toNat).apertureOpen = false) :
    Ends (.engLoad p) 0x2103 p s ⟨stBusy, 0, []⟩ fun u => OnlyChanges [] (s.afterTake p) u := by
  refine ht.ends_unchanged (exec_engLoad p s) (if_pos hlen) (decide_eq_true htgt) ?_
  dsimp only
  rw [State.overcast_afterTake, State.eng_afterTake, if_pos (by simpa using hno)]
  rfl

variable (hcast : s.overcast = false) (hopen : (s.eng p.target.toNat).apertureOpen = true)
include hcast hopen

theorem engLoad_badParam (hnone : sparseGet (fun _ => none) s.vec.kernels (p.w 0 % 65536) = none) :
    Ends (.engLoad p) 0x2103 p s ⟨stBadParam, 0, []⟩ fun u => OnlyChanges [] (s.afterTake p) u := by
  refine ht.ends_unchanged (exec_engLoad p s) (if_pos hlen) (decide_eq_true htgt) ?_
  dsimp only
  rw [State.overcast_afterTake, State.eng_afterTake, if_neg (by simp [hcast, hopen]), State.afterTake_vec, hnone]
  rfl

variable (himg : sparseGet (fun _ => none) s.vec.kernels (p.w 0 % 65536) = some img)
include himg

theorem engLoad_timeout (hddr : s.ddrReady = false) :
    Ends (.engLoad p) 0x2103 p s ⟨stTimeout, 0, []⟩ fun u => OnlyChanges [] (s.afterTake p) u := by
  refine ht.ends_unchanged (exec_engLoad p s) (if_pos hlen) (decide_eq_true htgt) ?_
  dsimp only
  rw [State.overcast_afterTake, State.eng_afterTake, if_neg (by simp [hcast, hopen]), State.afterTake_vec, himg]
  dsimp only
  rw [State.afterTake_ddrReady, if_pos (by simp [hddr])]
  rfl

/-- The image reaches the engine's instruction memory, where an armed injection may fall on its first word. -/
theorem engLoad_ends {u : State} {P : State → Prop} (hddr : s.ddrReady = true)
    (hu : ((s.afterTake p).setEng p.target.toNat { s.eng p.target.toNat with
      imem := imemOf img, kernel := some (p.w 0 % 65536), loadLost := false, imemBad := [] }).injectEng 6 p.target.toNat 0 = u)
    (hP : P u) : Ends (.engLoad p) 0x2103 p s ⟨stDone, 0, []⟩ P := by
  refine ht.ends_of_checks (exec_engLoad p s) (if_pos hlen) (decide_eq_true htgt) ?_ hP
  dsimp only
  rw [State.overcast_afterTake, State.eng_afterTake, if_neg (by simp [hcast, hopen]), State.afterTake_vec, himg]
  dsimp only
  rw [State.afterTake_ddrReady, if_neg (by simp [hddr]), hu]
  rfl

theorem engLoad_loads (hddr : s.ddrReady = true) (hinj : s.injection 6 = none) :
    Ends (.engLoad p) 0x2103 p s ⟨stDone, 0, []⟩ fun u =>
      u.eng p.target.toNat = { s.eng p.target.toNat with
        imem := imemOf img, kernel := some (p.w 0 % 65536), loadLost := false, imemBad := [] } ∧
      (∀ k < 96, k ≠ p.target.toNat → u.eng k = s.eng k) ∧ OnlyChanges [.vec] (s.afterTake p) u :=
  engLoad_ends ht hlen htgt hcast hopen himg hddr
    (State.injectEng_of_none ((State.injection_setEng ..).trans ((s.injection_afterTake p 6).trans hinj)) _ _)
    (s.setEng_only_afterTake p _ _)

theorem engLoad_injects (hddr : s.ddrReady = true) (hinj : s.injection 6 = some d) :
    Ends (.engLoad p) 0x2103 p s ⟨stDone, 0, []⟩ fun u =>
      u.eng p.target.toNat = { s.eng p.target.toNat with
        imem := sparseSet (fun _ => 0) (imemOf img) 0 (sparseGet (fun _ => 0) (imemOf img) 0 ^^^ d),
        kernel := some (p.w 0 % 65536), loadLost := false, imemBad := [] } ∧
      (∀ k < 96, k ≠ p.target.toNat → u.eng k = s.eng k) ∧ RegsKept [R.MEM_INJ] s u ∧
      OnlyChanges [.vec, .regs] (s.afterTake p) u := by
  obtain ⟨u, hu, heng, hothers, htouch⟩ := State.injectEng_setEng (imem := true) ((s.injection_afterTake p 6).trans hinj)
    p.target.toNat 0
  exact engLoad_ends ht hlen htgt hcast hopen himg hddr hu
    ⟨heng, fun k _ hk => (hothers k hk).trans (s.eng_afterTake p k), htouch.regsKept_afterTake (by simp),
      htouch.onlyChanges (by simp)⟩

end EngLoad

/-! ENG_SPARE. -/

theorem State.leaveOff_of_ne_off {e : Nat} (h : (s.eng e).st ≠ .off) : s.leaveOff e = s := by
  unfold State.leaveOff
  exact if_neg fun hoff => h hoff.1

/-- Of an engine that leaves OFF its state alone changes, and no other engine. -/
theorem State.leaveOff_spec (s : State) (e : Nat) :
    ((s.leaveOff e).eng e).spareOf = (s.eng e).spareOf ∧ (∀ k, k ≠ e → (s.leaveOff e).eng k = s.eng k) ∧
      Touches ⟨[.vec], [], []⟩ s (s.leaveOff e) := by
  unfold State.leaveOff State.spareReady
  dsimp only
  split
  · split
    · exact ⟨by simp, fun k hk => by simp [hk], s.setEng_touches ..⟩
    · split
      · split
        · exact ⟨by simp, fun k hk => by simp [hk], s.setEng_touches ..⟩
        · exact ⟨rfl, fun _ _ => rfl, .refl _ s⟩
      · exact ⟨by simp, fun k hk => by simp [hk], s.setEng_touches ..⟩
  · exact ⟨rfl, fun _ _ => rfl, .refl _ s⟩

section EngSpare
variable (ht : Taken 0x2106 p s) (hlen : p.length = 1) (htgt : p.target.toNat < 96) (hg : g = p.w 0 % 256)
include ht hlen htgt hg

theorem engSpare_badParam (hbad : 3 < g ∨ 1 < p.w 0 / 256 % 256 ∨ (p.w 0 / 256 % 256 = 1 ∧ (s.vg g).state = 0)) :
    Ends (.engSpare p) 0x2106 p s ⟨stBadParam, 0, []⟩ fun u => OnlyChanges [] (s.afterTake p) u := by
  subst hg
  refine ht.ends_unchanged (exec_engSpare p s) (if_pos hlen) (decide_eq_true htgt) ?_
  dsimp only
  by_cases hrange : 3 < p.w 0 % 256 ∨ 1 < p.w 0 / 256 % 256
  · rw [if_pos hrange]
    rfl
  · obtain ⟨hon, hundefined⟩ : p.w 0 / 256 % 256 = 1 ∧ (s.vg (p.w 0 % 256)).state = 0 := by
      rw [← or_assoc] at hbad
      exact hbad.resolve_left hrange
    rw [if_neg hrange, if_pos hon, State.vg_afterTake, if_pos hundefined]
    rfl

section Designate
variable (hon : p.w 0 / 256 % 256 = 1) (hle : g ≤ 3) (hdefined : (s.vg g).state ≠ 0)
include hon hle hdefined

theorem engSpare_designates (hst : (s.eng p.target.toNat).st = .stopped) (hfree : (s.eng p.target.toNat).spareOf = none)
    (hserves : s.serves p.target.toNat = none) (hloaded : (s.eng p.target.toNat).loaded = true)
    (hkernel : (s.eng p.target.toNat).kernel = some (s.vg g).kernel) (hmode : (s.eng p.target.toNat).slab.mode = 2)
    (hready : (s.eng p.target.toNat).slab.ready = true) :
    Ends (.engSpare p) 0x2106 p s ⟨stDone, 0, []⟩ fun u =>
      u.eng p.target.toNat = { s.eng p.target.toNat with st := .spare, spareOf := some g } ∧
      (∀ k < 96, k ≠ p.target.toNat → u.eng k = s.eng k) ∧ OnlyChanges [.vec] (s.afterTake p) u := by
  subst hg
  refine ht.ends_of_checks (exec_engSpare p s) (if_pos hlen) (decide_eq_true htgt) ?_ (s.setEng_only_afterTake p _ _)
  dsimp only
  rw [if_neg (by omega), if_pos hon, State.vg_afterTake, if_neg hdefined, State.eng_afterTake, State.serves_afterTake,
    if_pos ⟨hst, hfree, by rw [hserves]; rfl, hloaded, hkernel, hmode, hready⟩]
  rfl

theorem engSpare_busy (hno : (s.eng p.target.toNat).st ≠ .stopped ∨ (s.eng p.target.toNat).spareOf ≠ none ∨
      s.serves p.target.toNat ≠ none ∨ (s.eng p.target.toNat).loaded = false ∨
      (s.eng p.target.toNat).kernel ≠ some (s.vg g).kernel ∨ (s.eng p.target.toNat).slab.mode ≠ 2 ∨
      (s.eng p.target.toNat).slab.ready = false) :
    Ends (.engSpare p) 0x2106 p s ⟨stBusy, 0, []⟩ fun u => OnlyChanges [] (s.afterTake p) u := by
  subst hg
  refine ht.ends_unchanged (exec_engSpare p s) (if_pos hlen) (decide_eq_true htgt) ?_
  dsimp only
  rw [if_neg (by omega), if_pos hon, State.vg_afterTake, if_neg hdefined, State.eng_afterTake, State.serves_afterTake, if_neg]
  · rfl
  · rintro ⟨hst, hfree, hserves, hloaded, hkernel, hmode, hready⟩
    rw [Option.isNone_iff_eq_none] at hserves
    simp [hst, hfree, hserves, hloaded, hkernel, hmode, hready] at hno

end Designate

section End
variable (hoff : p.w 0 / 256 % 256 = 0) (hle : g ≤ 3)
include hoff hle

/-- A designation ends; an engine that is OFF may leave it with that. -/
theorem engSpare_ends (hspare : (s.eng p.target.toNat).spareOf = some g)
    (hretiring : s.vec.retiring.all (fun r => r.spare != some p.target.toNat || r.tookAt.isSome) = true) {P : State → Prop}
    (hP : P (((s.afterTake p).setEng p.target.toNat { s.eng p.target.toNat with
      spareOf := none, st := if (s.eng p.target.toNat).st = .spare then .stopped else (s.eng p.target.toNat).st }).leaveOff
        p.target.toNat)) : Ends (.engSpare p) 0x2106 p s ⟨stDone, 0, []⟩ P := by
  subst hg
  refine ht.ends_of_checks (exec_engSpare p s) (if_pos hlen) (decide_eq_true htgt) ?_ hP
  dsimp only
  rw [if_neg (by omega), if_neg (by omega), State.eng_afterTake, State.afterTake_vec, if_pos ⟨hspare, hretiring⟩]
  rfl

theorem engSpare_releases (hspare : (s.eng p.target.toNat).spareOf = some g) (hst : (s.eng p.target.toNat).st ≠ .off)
    (hretiring : s.vec.retiring.all (fun r => r.spare != some p.target.toNat || r.tookAt.isSome) = true) :
    Ends (.engSpare p) 0x2106 p s ⟨stDone, 0, []⟩ fun u =>
      u.eng p.target.toNat = { s.eng p.target.toNat with
        spareOf := none, st := if (s.eng p.target.toNat).st = .spare then .stopped else (s.eng p.target.toNat).st } ∧
      (∀ k < 96, k ≠ p.target.toNat → u.eng k = s.eng k) ∧ OnlyChanges [.vec] (s.afterTake p) u := by
  refine engSpare_ends ht hlen htgt hg hoff hle hspare hretiring ?_
  rw [State.leaveOff_of_ne_off]
  · exact s.setEng_only_afterTake p _ _
  · rw [State.eng_setEng, if_pos rfl]
    dsimp only
    split
    · simp
    · exact hst

theorem engSpare_releases_off (hspare : (s.eng p.target.toNat).spareOf = some g)
    (hretiring : s.vec.retiring.all (fun r => r.spare != some p.target.toNat || r.tookAt.isSome) = true) :
    Ends (.engSpare p) 0x2106 p s ⟨stDone, 0, []⟩ fun u =>
      (u.eng p.target.toNat).spareOf = none ∧ (∀ k < 96, k ≠ p.target.toNat → u.eng k = s.eng k) ∧
      OnlyChanges [.vec] (s.afterTake p) u := by
  refine engSpare_ends ht hlen htgt hg hoff hle hspare hretiring ?_
  set y : Eng := { s.eng p.target.toNat with
    spareOf := none, st := if (s.eng p.target.toNat).st = .spare then .stopped else (s.eng p.target.toNat).st }
  obtain ⟨hnone, hothers, htouch⟩ := ((s.afterTake p).setEng p.target.toNat y).leaveOff_spec p.target.toNat
  refine ⟨?_, fun k _ hk => ?_, ((State.setEng_touches ..).trans htouch).onlyChanges (fun _ hx => hx)⟩
  · rw [hnone, State.eng_setEng, if_pos rfl]
  · rw [hothers k hk, State.eng_setEng, if_neg hk, State.eng_afterTake]

theorem engSpare_keeps (hno : (s.eng p.target.toNat).spareOf ≠ some g ∨
      s.vec.retiring.all (fun r => r.spare != some p.target.toNat || r.tookAt.isSome) = false) :
    Ends (.engSpare p) 0x2106 p s ⟨stBusy, 0, []⟩ fun u => OnlyChanges [] (s.afterTake p) u := by
  subst hg
  refine ht.ends_unchanged (exec_engSpare p s) (if_pos hlen) (decide_eq_true htgt) ?_
  dsimp only
  rw [if_neg (by omega), if_neg (by omega), State.eng_afterTake, State.afterTake_vec, if_neg]
  · rfl
  · rintro ⟨hspare, hall⟩
    exact hno.elim (fun h => h hspare) (fun h => Bool.noConfusion (hall.symm.trans h))

end End
end EngSpare

theorem engRetireCfg_writes (ht : Taken 0x2108 p s) (hlen : p.length = 1) (htgt : p.target = 0) :
    Ends (.engRetireCfg p) 0x2108 p s ⟨stDone, 0, []⟩ fun u =>
      u.rd R.VE_RETIRE_CFG = s.rwAfter R.VE_RETIRE_CFG (p.w 0) ∧ RegsKept [R.VE_RETIRE_CFG] s u ∧
      OnlyChanges [.regs] (s.afterTake p) u := by
  have htouch := (s.afterTake p).wrRw_touches (p.w 0) (fun _ => R.VE_RETIRE_CFG, 0)
  refine ht.ends_of_checks (exec_engRetireCfg p s) (if_pos hlen) (by rw [htgt]; rfl) rfl
    ⟨?_, htouch.regsKept_afterTake (by simp), htouch.onlyChanges (fun _ hx => hx)⟩
  rw [State.rd_wrRw, if_pos rfl, State.rwAfter_congr (s.rd_afterTake p _)]

/-- Settles O27, command by command; a 32-bit word that the aperture puts reads back because what is encoded decodes clean. -/
theorem kernelsApertureAndSparesServeTheEngines : Obligations.KernelsApertureAndSparesServeTheEngines := by
  unfold Obligations.KernelsApertureAndSparesServeTheEngines
  refine ⟨veDoorbellRing_raises, fun _ _ _ _ wr hlo => aperture_below hlo wr,
    fun _ _ _ _ hlo h0 h2 => aperture_read_refused hlo h0 h2,
    fun _ _ _ _ _ hlo h2 => aperture_write_refused hlo h2,
    fun _ _ _ _ _ hf hlo hhi hi hopen => aperture_reads (imem := true) hf ⟨hlo, hhi, hi⟩ hopen,
    fun _ _ _ _ _ hf hlo hi hopen => aperture_reads (imem := false) hf ⟨hlo, hi⟩ hopen,
    fun _ _ _ _ _ hlo hhi hi hopen hgood hinj =>
      aperture_replaces (imem := true) ⟨hlo, hhi, hi⟩ hopen (decodeWord_ne_bad hgood) hinj,
    fun _ _ _ _ _ _ hlo hhi hi hopen hgood hinj =>
      aperture_injects (imem := true) ⟨hlo, hhi, hi⟩ hopen (decodeWord_ne_bad hgood) hinj,
    fun _ _ _ _ _ hlo hhi hi hopen hbad hinj =>
      aperture_keeps_bad (imem := true) ⟨hlo, hhi, hi⟩ hopen (decodeWord_eq_bad hbad) hinj,
    fun _ _ _ _ _ hlo hi hopen hgood hinj =>
      aperture_replaces (imem := false) ⟨hlo, hi⟩ hopen (decodeWord_ne_bad hgood) hinj,
    fun _ _ _ _ _ _ hlo hi hopen hgood hinj =>
      aperture_injects (imem := false) ⟨hlo, hi⟩ hopen (decodeWord_ne_bad hgood) hinj,
    fun _ _ _ _ _ hlo hi hopen hbad hinj =>
      aperture_keeps_bad (imem := false) ⟨hlo, hi⟩ hopen (decodeWord_eq_bad hbad) hinj,
    fun _ _ _ _ hf hlo hclosed => aperture_closed_reads hf hlo hclosed,
    fun _ _ _ _ hlo hclosed => aperture_closed_writes hlo hclosed,
    ?_, ?_, ?_, ?_, ?_, ?_, ?_, ?_, ?_, ?_, ?_, ?_, ?_, ?_, ?_, ?_, ?_, ?_, ?_⟩
  case refine_1 => exact fun _ _ _ _ ht hh hlen hpos hmax => kernelLoad_loads ht hh hlen hpos hmax
  case refine_2 => exact fun _ _ _ _ ht _ hlen hpos hmax => kernelLoad_busy ht hlen hpos hmax
  case refine_3 => exact fun _ _ _ _ ht _ hlen hpos hmax => kernelLoad_badParam ht hlen hpos hmax
  case refine_4 => exact fun _ _ _ _ ht _ hlen hpos hmax => kernelLoad_timeout ht hlen hpos hmax
  case refine_5 => exact fun _ _ _ ht hlen => kernelFree_frees ht hlen
  case refine_6 => exact fun _ _ _ _ ht hlen => kernelFree_busy ht hlen
  case refine_7 => exact fun _ _ ht hlen => kernelFree_badTarget ht hlen
  case refine_8 => exact fun _ _ _ ht hlen htgt hcast hopen => engLoad_loads ht hlen htgt hcast hopen
  case refine_9 => exact fun _ _ _ _ ht hlen htgt hcast hopen => engLoad_injects ht hlen htgt hcast hopen
  case refine_10 => exact fun _ _ ht hlen htgt => engLoad_busy ht hlen htgt
  case refine_11 => exact fun _ _ ht hlen htgt hcast hopen => engLoad_badParam ht hlen htgt hcast hopen
  case refine_12 => exact fun _ _ _ ht hlen htgt hcast hopen => engLoad_timeout ht hlen htgt hcast hopen
  case refine_13 => exact fun _ _ _ ht hlen htgt hg hon hle hdefined => engSpare_designates ht hlen htgt hg hon hle hdefined
  case refine_14 => exact fun _ _ _ ht hlen htgt hg hon hle hdefined => engSpare_busy ht hlen htgt hg hon hle hdefined
  case refine_15 => exact fun _ _ _ ht hlen htgt hg => engSpare_badParam ht hlen htgt hg
  case refine_16 =>
    exact fun _ _ _ ht hlen htgt hg hoff hle hspare => engSpare_releases ht hlen htgt hg hoff hle hspare
  case refine_17 =>
    exact fun _ _ _ ht hlen htgt hg hoff hle hspare _ => engSpare_releases_off ht hlen htgt hg hoff hle hspare
  case refine_18 => exact fun _ _ _ ht hlen htgt hg hoff hle => engSpare_keeps ht hlen htgt hg hoff hle
  case refine_19 => exact fun _ _ ht hlen htgt => engRetireCfg_writes ht hlen htgt

end Sys2Proof.Machine
end
